-- ==== Sys2Proof/Word.lean ====
section
/-! DEFINITION. The word types of the device, and the index types that count its instances (R1, R46). -/

namespace Sys2Proof

/-- A register or table word (R6, R10). -/
abbrev W32 := BitVec 32

/-- A byte on a line, in memory or on the host port. -/
abbrev Byte := BitVec 8

/-- A bus address (R518). -/
abbrev Addr := BitVec 40

/-- A port lane P00 to P95 (R1). -/
abbrev PortLane := Fin 96

/-- Any lane: 0 to 95 are P00 to P95, 96 to 103 are K0 to K7 (R1, R394). -/
abbrev Lane := Fin 104

/-- A mate lane K0 to K7. -/
abbrev MateLane := Fin 8

/-- A bus matrix master (R523): 0 host port, 1 processor machine mode, 2 processor user mode,
3 Ladle, 4 map library copier, 5 Skewer, 6 mate state copier. -/
abbrev Master := Fin 7

/-- A page number that the device defines (R654). -/
abbrev PageNo := Fin 120

/-- A higher-order path point h = 64 n + g (R187). -/
abbrev HoPoint := Fin 6144

/-- A flow context (R328). -/
abbrev FlowId := Fin 65536

/-- A VCAT group (R348). -/
abbrev GroupId := Fin 16384

/-- A VCAT member entry (R349). -/
abbrev MemberId := Fin 131072

/-- A selector (R428). -/
abbrev SelectorId := Fin 262144

/-- An MSP group (R444). -/
abbrev MspGroup := Fin 48

/-- An entry index of a connection map (R286). -/
abbrev MapIndex := Fin 16174080

end Sys2Proof
end

