-- ==== Sys2Proof/Syntax.lean ====
section
/-! DEFINITION. The commands of the block: one constructor of `Instr` for each row of
spec/opcode_table.json, in the table's order, and the types of their operands. An operand is either an
index of one of the device's instances or what the event brings from outside the device. -/

namespace Sys2Proof

/-- The two reference inputs HTREF_A and HTREF_B. -/
inductive Ref where
  | a | b
deriving DecidableEq, Repr

/-- A Sieve instance: a lane's, or that of the GFP stream of a group (03_frame_hunting.md). -/
inductive SieveId where
  | lane (n : Lane)
  | gfp (g : GroupId)
deriving DecidableEq, Repr

/-- A path point: a higher-order sub-point by its record index 3 h + b, or a lower-order point by its
index 84 h + l (R187, R189, R191, R394). -/
inductive Point where
  | ho (i : Fin 18432)
  | lo (i : Fin 516096)
deriving DecidableEq, Repr

/-- How a read met the ECC of its memory (R505, R513): clean, corrected, transient (one retry gave a
correctable or clean word, the first or the second), or uncorrectable after both retries in the beat named. -/
inductive EccSeen where
  | clean
  | corrected
  | transient (second : Bool)
  | uncorrectable (beat : Nat)
deriving DecidableEq, Repr

/-- One transaction of a bus matrix master (R522 to R525). `data` is what a write carries. -/
structure Transfer where
  write : Bool
  addr : Addr
  len : Nat
  data : List Byte
  ecc : EccSeen
deriving DecidableEq, Repr

/-- What a multiframe alignment is judged on: the H4 of a higher-order point, or the MFI of a sink member (R227, R350). -/
inductive MfSource where
  | ho (i : Fin 18432)
  | member (i : MemberId)
deriving DecidableEq, Repr

/-- The bytes of the VC of a path point that were received in a frame, in order and without stuff; `true` marks the first byte of a VC
(R224). -/
structure PathFrame where
  point : Point
  bytes : List (Bool × Byte)
deriving DecidableEq, Repr

/-- What a frame of the device brings with it: the map entries that the pass of the Whisk reads as uncorrectable (R298); what
the path points received in the frame that ends; the flows, each with its half, `true` F2L, whose next packet the Flow Store gives with an
uncorrectable error (R362); the banks of the Packet Staging Queue whose reads were corrected (0 and 1 L2F, 2 and 3 F2L), and the packets,
by the bank, `true` F2L, and their place in it, that an uncorrectable word of the drain or the packer read discards (R372). -/
structure EdgeIn where
  mapUe : List MapIndex
  frames : List PathFrame
  flowUe : List (FlowId × Bool)
  psqCe : List (Fin 4)
  psqUe : List (Bool × Nat)
deriving DecidableEq, Repr

/-- The source of an SD/SF estimator pair (R383). -/
inductive EstSource where
  | line (n : PortLane)
  | point (p : Point)
deriving DecidableEq, Repr

/-- The three acceptances of path overhead bits of R224 that have no row of their own. -/
inductive PathBit where
  | rdi | rfi | k3
deriving DecidableEq, Repr

/-- Why a sink member fails (R340). -/
inductive SinkCause where
  | pointer | signal
deriving DecidableEq, Repr

/-- A protection target: an MSP group or an SNCP selector (R435). -/
inductive ProtTarget where
  | msp (g : MspGroup)
  | snc (i : SelectorId)
deriving DecidableEq, Repr

/-- The protocol failures of R453. -/
inductive PamKind where
  | channel | architecture | mode | invalidCode
deriving DecidableEq, Repr

/-- The two heartbeat paths (R472). -/
inductive HbPath where
  | lane | side
deriving DecidableEq, Repr

/-- A received heartbeat (R473): a HEARTBEAT block, by the mate lane that brought it and its payload, or a sideband pulse of the given width
in ns. -/
inductive HbIn where
  | block (on : MateLane) (payload : List Byte)
  | pulse (widthNs : Nat)
deriving DecidableEq, Repr

/-- What stands at a position of a received stream: the bit rotation, and the bytes (R93, R97). -/
structure Seen where
  rot : Fin 8
  bytes : List Byte
deriving DecidableEq, Repr

/-- The levels of the Lid lines. -/
structure LidLevels where
  lid0High : Bool
  lid1High : Bool
deriving DecidableEq, Repr

/-- A block of the mate lanes as it arrives (R499): a DIGEST block by FIELD8 and its descrambled payload; a CONTROL block by the mate lane that
brought it and its payload. -/
structure DigestBlock where
  field8 : Byte
  payload : List Byte
deriving DecidableEq, Repr

structure ControlBlock where
  on : MateLane
  payload : List Byte
deriving DecidableEq, Repr

/-- `HSS_N` low (R556): for how long, in ns, and the header of a transaction whose bytes have not all arrived, if there is one. -/
structure PortLow where
  ns : Nat
  cut : Option (List Byte)
deriving DecidableEq, Repr

/-- A VCAT control packet (R350, R355, R357). `base` is the first SQ of the eight whose MST the packet carries; bit i of `mst` is the MST
of SQ base + i, 0 OK and 1 FAIL. -/
structure ControlPacket where
  crcOk : Bool := true
  ctrl : Nat := 0
  sq : Nat := 0
  base : Nat := 0
  mst : Nat := 0
  rsAck : Bool := false
deriving DecidableEq, Repr

/-- One 16-byte STATE record (R499). -/
structure StateRecord where
  kind : BitVec 8
  mask : BitVec 8
  key : Addr
  data0 : W32
  data1 : W32
deriving DecidableEq, Repr

/-- A DMI access to the debug module (R598). -/
inductive DmiOp where
  | readDmstatus
  | sysBusRead (addr : Addr)
  | sysBusWrite (addr : Addr) (data : W32)
  | haltReq
  | resumeReq
  | abstractCmd
deriving DecidableEq, Repr

/-- What one SCAN_CYCLE reads (R606, R607, R611): the level of each key bit and presence bit as they
arrive, and the count of each electrode. -/
structure ScanIn where
  keys : List Bool
  presence : List Bool
  touch : List (BitVec 16)
deriving DecidableEq, Repr

/-- What becomes of a unit of the Skewer (R416, R417): it is chosen for a tag at the first stage of its kind, with its source and the word 1 of
its record; the tagged unit with a serial passes a further stage; or it is discarded or rewound. -/
inductive TraceUnit where
  | tag (kind : BitVec 3) (source : BitVec 7) (word1 : W32)
  | stamp (serial : Nat) (stage : BitVec 6)
  | lost (serial : Nat)
deriving DecidableEq, Repr

/-- A sensor of R582 whose register keeps an extreme. -/
inductive Sensor where
  | temp (n : Fin 6)
  | volt (n : Fin 8)
  | slack (n : Fin 12)
deriving DecidableEq, Repr

/-- What the sensors show when a shed level is judged (R646): the least slack in per cent, the monitor
that shows it, and VDD_CORE in mV. -/
structure PowerSample where
  slack : Nat
  monitor : Fin 12
  millivolt : Nat
deriving DecidableEq, Repr

/-- How a module bus transaction ends (R622). -/
inductive MbEnd where
  | ok | nackAddr | nackData | timeout | stuck
deriving DecidableEq, Repr

/-- The bytes of a Host Control Port transaction as they come over HD (R535, R536): the ten header
bytes, the data bytes and the two data CRC bytes; how many beats the target accepts before
another command is taken; and how a read met the ECC of its memory. -/
structure PortFrame where
  header : List Byte
  data : List Byte
  crc : List Byte
  beats : Nat
  ecc : EccSeen
deriving DecidableEq, Repr

/-- What a bring-up stage tests: the instance of a page, a flow-context slice or a flow port (R55, R634). -/
inductive Channel where
  | page (p : PageNo)
  | slice (i : Fin 16)
  | fport (i : Fin 8)
deriving DecidableEq, Repr

/-- The commands, one constructor for each row of spec/opcode_table.json. A `Master` operand is the
bus master whose access the command is. -/
inductive Instr where
  /-- R11 -/
  | registerWrite (m : Master) (addr : Addr) (data : W32) (be : BitVec 4)
  /-- R92 -/
  | snapshotCapture (m : Master) (addr : Addr)
  /-- R525 -/
  | busTransaction (m : Master) (t : Transfer) (stall : Option Nat)
  /-- R526 -/
  | arbitrationAging (m : Master)
  /-- R529 -/
  | stuckTransaction (m : Master)
  /-- R521 -/
  | remapWrite (m : Master) (data : W32)
  /-- R74 -/
  | fp8kEdge (e : EdgeIn)
  /-- R76 -/
  | mf2kEdge
  /-- R399 -/
  | epoch
  /-- R399 -/
  | ladlePassComplete
  /-- R59 -/
  | laneCfgWrite (m : Master) (lane : Lane) (data : W32)
  /-- R60 -/
  | receiveStateRestart (lane : Lane)
  /-- R133 -/
  | cdrLossOfLock (lane : Lane)
  /-- R61; the signal's offset from the lane's nominal rate in ppm. -/
  | cdrLock (lane : Lane) (ppm : Int)
  /-- R78 -/
  | lrcResume (n : Fin 4)
  /-- R79 -/
  | lrcLaneChange (n : Fin 4)
  /-- R63; the fill that the phase of the far end has brought the store to, in 1/128 of two rows. -/
  | elasticStoreSlip (lane : Lane) (fill : BitVec 8)
  /-- R67 -/
  | prbsInject (m : Master) (lane : Lane)
  /-- R66 -/
  | prbsCheckerEnable (m : Master) (lane : Lane) (data : W32)
  /-- R66; the last bits received, oldest first. -/
  | prbsSync (lane : Lane) (bits : List Bool)
  /-- R66; the bits received in a window of 256 bits, oldest first. -/
  | prbsLossOfSync (lane : Lane) (bits : List Bool)
  /-- R70 -/
  | eyeScanComplete (lane : Lane) (height : BitVec 10) (width : BitVec 7)
  /-- R71 -/
  | txeqWrite (m : Master) (lane : Lane) (data : W32)
  /-- R81; the time without an edge, in ns. -/
  | deadClockDeclaration (r : Ref) (silentNs : Nat)
  /-- R81; the loop's phase error in hundredths of a reference period. -/
  | phaseErrorFailure (error : Nat)
  /-- R72; the edges' span in ns, and the frequency difference from a locked reference in ppm. -/
  | referenceQualified (r : Ref) (edgesNs : Nat) (ppm : Int)
  /-- R82 -/
  | transitionHoldComplete
  /-- R83 -/
  | revertToA
  /-- R73 -/
  | firstLock
  /-- R87 -/
  | pullInLock
  /-- R694 -/
  | refselWrite (m : Master) (data : W32)
  /-- R85 -/
  | refselApply
  /-- R97; what stands at a position of the stream. -/
  | sighting (i : SieveId) (pos : Nat) (seen : Seen)
  /-- R112; the position at which the slot expects its mark, and the bytes that stand there. -/
  | expectedMark (i : SieveId) (slot : Fin 8) (pos : Nat) (bytes : List Byte)
  /-- R114; the frame received in the slot's alignment, and the B1 byte of the frame after it as received. -/
  | trialB1Byte (lane : PortLane) (slot : Fin 8) (frame : List Byte) (b1 : Byte)
  /-- R124 -/
  | trialTimeout (lane : Lane) (slot : Fin 8)
  /-- R95 -/
  | barringEnd (i : SieveId) (slot : Fin 8)
  /-- R115 -/
  | oof (lane : PortLane)
  /-- R121 -/
  | lob (lane : Lane)
  /-- R130 -/
  | gfpSyncLoss (g : GroupId)
  /-- R116 -/
  | lof (lane : PortLane)
  /-- R116 -/
  | lofClear (lane : PortLane)
  /-- R139 -/
  | svCfgApply (i : SieveId)
  /-- R243; the slot in whose alignment the block was read, and the 270 bytes as received. -/
  | tustraBlock (lane : Lane) (slot : Fin 8) (bytes : List Byte)
  /-- R123 -/
  | frameStartLoss (lane : Lane)
  /-- R250 -/
  | seqDeclare (lane : Lane)
  /-- R250 -/
  | seqClear (lane : Lane)
  /-- R252 -/
  | remoteDefectDeclare (lane : Lane)
  /-- R252 -/
  | remoteDefectClear (lane : Lane)
  /-- R270; whether blocks 2 and 3 passed HCS, and their ARG values. -/
  | capacityAnnouncement (lane : PortLane) (ok2 ok3 : Bool) (arg2 arg3 : BitVec 16)
  /-- R271 -/
  | capacityChange (lane : PortLane)
  /-- R277 -/
  | tuStrWrite (m : Master) (lane : PortLane) (data : W32)
  /-- R278; a copy becomes skewed, or stops being skewed. -/
  | copySkewed (lane : PortLane) (secondary : Bool) (skewed : Bool)
  /-- R280 -/
  | strainerRelease (lane : PortLane) (seq : Nat) (point : Nat) (block : Nat)
  /-- R150; the bytes of the frame as received. -/
  | lineFrameReceived (lane : PortLane) (bytes : List Byte)
  /-- R157 -/
  | j0Accept (lane : PortLane)
  /-- R160 -/
  | expApply (m : Master) (lane : PortLane)
  /-- R160 -/
  | expectedTraceTakeEffect (lane : PortLane)
  /-- R161 -/
  | txApply (m : Master) (lane : PortLane)
  /-- R161 -/
  | transmitTraceTakeEffect (lane : PortLane)
  /-- R163 -/
  | traceModeChange (m : Master) (lane : PortLane) (data : W32)
  /-- R164 -/
  | kAccept (lane : PortLane)
  /-- R165 -/
  | kUnstable (lane : PortLane)
  /-- R169 -/
  | msAisDeclare (lane : PortLane)
  /-- R169 -/
  | msAisClear (lane : PortLane)
  /-- R169 -/
  | msRdiDeclare (lane : PortLane)
  /-- R169 -/
  | msRdiClear (lane : PortLane)
  /-- R173 -/
  | msRdiTxChange (lane : PortLane)
  /-- R177 -/
  | s1Accept (lane : PortLane)
  /-- R154 -/
  | insB1 (m : Master) (lane : PortLane)
  /-- R154 -/
  | insB2 (m : Master) (lane : PortLane)
  /-- R380; the time without a signal or without a transition, in ns. -/
  | losDeclare (lane : Lane) (silentNs : Nat) (sigDet : Bool)
  /-- R380; the time with a signal and transitions, in ns. -/
  | losClear (lane : Lane) (activeNs : Nat)
  /-- R381 -/
  | b2ExcDeclare (lane : PortLane)
  /-- R381 -/
  | b2ExcClear (lane : PortLane)
  /-- R199 -/
  | pointerWord (p : Point) (w : BitVec 16)
  /-- R200 -/
  | pointerStateChange (p : Point)
  /-- R210 -/
  | fabricJustification (p : Point) (inc : Bool)
  /-- R211; when the first byte of a VC arrives, in slot periods since the present fabric multiframe began. -/
  | newFabricPointer (p : Point) (arrival : Fin 622080)
  /-- R206 -/
  | interpreterRestart (h : HoPoint)
  /-- R234 -/
  | pathConfigTakeEffect (p : Point)
  /-- R226; the label accepted. -/
  | c2Accept (p : Point) (label : Nat)
  /-- R224; the value accepted. -/
  | pathRdiAccept (p : Point) (bit : PathBit) (value : Nat)
  /-- R227, R350; the consecutive frames out of sequence. -/
  | oom (i : MfSource) (frames : Nat)
  /-- R227, R350 -/
  | lom (i : MfSource)
  /-- R237 -/
  | psCapGo (m : Master) (lane : PortLane) (data : W32)
  /-- R237; whether the capture ends without a trace. -/
  | traceCaptureComplete (lane : PortLane) (empty : Bool)
  /-- R307 -/
  | nop (m : Master) (slot : Fin 64)
  /-- R307 -/
  | invalidate (m : Master) (slot : Fin 64)
  /-- R307 -/
  | copyActive (m : Master) (slot : Fin 64)
  /-- R305; whether an uncorrectable word ended the copy. -/
  | copyActiveDone (ecc : Bool)
  /-- R308 -/
  | fill (m : Master) (slot : Fin 64)
  /-- R305 -/
  | fillDone
  /-- R309 -/
  | check (m : Master) (slot : Fin 64)
  /-- R310; the entries that read as uncorrectable. -/
  | checkDone (ecc : List MapIndex)
  /-- R312 -/
  | arm (m : Master) (slot : Fin 64)
  /-- R316 -/
  | disarm (m : Master) (slot : Fin 64)
  /-- R315 -/
  | swap
  /-- R318 -/
  | libLoad (m : Master) (slot : Fin 64)
  /-- R318 -/
  | libLoadDone
  /-- R319 -/
  | libSave (m : Master) (slot : Fin 64)
  /-- R319 -/
  | libSaveDone
  /-- R307 -/
  | libErase (m : Master) (slot : Fin 64)
  /-- R321 -/
  | verifyActive (m : Master) (slot : Fin 64)
  /-- R322; the entries that read as uncorrectable. -/
  | activeVerificationDone (ecc : List MapIndex)
  /-- R306 -/
  | shadowWindowWrite (m : Master) (i : MapIndex) (data : W32)
  /-- R311 -/
  | selectorWrite (m : Master) (i : SelectorId) (word : Fin 4) (data : W32)
  /-- R333 -/
  | flowContextWrite (m : Master) (f : FlowId) (word : Fin 4) (data : W32)
  /-- R348 -/
  | groupConfigWrite (m : Master) (g : GroupId) (word : Fin 8) (data : W32)
  /-- R349 -/
  | memberConfigWrite (m : Master) (i : MemberId) (word : Fin 2) (data : W32)
  /-- R337 -/
  | flowPortStructureWrite (m : Master) (p : Fin 8) (g : Fin 64) (data : W32)
  /-- R368 -/
  | shareWrite (m : Master) (lane : PortLane) (high : Bool) (data : W32)
  /-- R373 -/
  | peakRead (m : Master) (f2l : Bool)
  /-- R343; the slot in whose alignment the frame was read, and its bytes from its core header on. -/
  | gfpFrameReceived (g : GroupId) (slot : Fin 8) (bytes : List Byte)
  /-- R346 -/
  | csfClear (g : GroupId)
  /-- R345 -/
  | csfSend (g : GroupId)
  /-- R344 -/
  | exmDeclare (g : GroupId)
  /-- R355; the packet that is used. -/
  | controlPacket (i : MemberId) (c : ControlPacket)
  /-- R351 -/
  | sqmDeclare (i : MemberId)
  /-- R354 -/
  | multiframeBoundary (g : GroupId)
  /-- R352 -/
  | loaDeclare (g : GroupId)
  /-- R340; the cause begins or ends. -/
  | sinkMemberFail (i : MemberId) (cause : SinkCause) (failed : Bool)
  /-- R386; the violations of the slice. -/
  | sdSfSliceEnd (src : EstSource) (sf : Bool) (violations : Nat)
  /-- R408 -/
  | wrGo (m : Master)
  /-- R404 -/
  | binAlignWrite (m : Master) (data : W32)
  /-- R412; the bytes counted in the window. -/
  | bwWindowEnd (n : Fin 64) (bytes : Nat)
  /-- R413 -/
  | bwPeakRead (m : Master) (n : Fin 64)
  /-- R413; `win` names BW_WINn in place of BW_SELn. -/
  | bwSelWrite (m : Master) (n : Fin 64) (win : Bool) (data : W32)
  /-- R415 -/
  | fecEnable (m : Master) (n : Fin 16) (data : W32)
  /-- R417 -/
  | traceRecordWrite (u : TraceUnit)
  /-- R435 -/
  | mspClear (m : Master) (g : MspGroup) (channel : BitVec 4)
  /-- R435 -/
  | mspLockout (m : Master) (g : MspGroup) (channel : BitVec 4)
  /-- R435 -/
  | mspForced (m : Master) (g : MspGroup) (channel : BitVec 4)
  /-- R435 -/
  | mspManual (m : Master) (g : MspGroup) (channel : BitVec 4)
  /-- R437 -/
  | mspExercise (m : Master) (g : MspGroup) (channel : BitVec 4)
  /-- R435 -/
  | sncClear (m : Master) (leg : Bool)
  /-- R435 -/
  | sncLockout (m : Master) (leg : Bool)
  /-- R435 -/
  | sncForced (m : Master) (leg : Bool)
  /-- R435 -/
  | sncManual (m : Master) (leg : Bool)
  /-- R437 -/
  | sncExercise (m : Master) (leg : Bool)
  /-- R437 -/
  | exerciseEnd (g : MspGroup)
  /-- R439 -/
  | holdOffExpiry (t : ProtTarget) (channel : BitVec 4)
  /-- R441 -/
  | wtrExpiry (t : ProtTarget)
  /-- R440 -/
  | protectionDecision (t : ProtTarget)
  /-- R453 -/
  | protocolFailure (g : MspGroup) (kind : PamKind)
  /-- R458 -/
  | mspCfgWrite (m : Master) (g : MspGroup) (word : Fin 5) (data : W32)
  /-- R462 -/
  | mateEnable (m : Master) (data : W32)
  /-- R467; how long both lines have been high, in ns. -/
  | lidSeizure (highNs : Nat)
  /-- R468; whether the other line is high at the sample. -/
  | lidSample (otherHigh : Bool)
  /-- R469; the lines, and how long they have disagreed, in ns. -/
  | interlockFault (lid0High lid1High : Bool) (ns : Nat)
  /-- R470 -/
  | handover (m : Master)
  /-- R489 -/
  | clearSuspect (m : Master)
  /-- R498 -/
  | rejoin (m : Master)
  /-- R487 -/
  | selfCheck (m : Master)
  /-- R472 -/
  | heartbeatSend (path : HbPath)
  /-- R473 -/
  | heartbeatReceived (h : HbIn)
  /-- R473; the Lid lines as they read then. -/
  | heartbeatMiss (path : HbPath) (lid : LidLevels)
  /-- R476; the mate lane that brought the ECHO block, and its payload. -/
  | echo (on : MateLane) (payload : List Byte)
  /-- R476; the arrival of the mate's block 0 after the device's own edge, in ns, and the mate's number for the frame the edge starts. -/
  | alignmentStep (arrivalNs : Int) (mateSeq : W32)
  /-- R478; the arrival of the mate's block 0 after the device's own edge, in ns. -/
  | offsetMeasure (arrivalNs : Int)
  /-- R479; the mate lane that brought the APPLY block, and its payload. -/
  | apply (on : MateLane) (payload : List Byte)
  /-- R485 -/
  | digest (b : DigestBlock)
  /-- R486 -/
  | disagreementClear
  /-- R488; the SELFCHK block. -/
  | selfchk (b : ControlBlock)
  /-- R488 -/
  | selfCheckOutcome
  /-- R488 -/
  | suspectTimeout
  /-- R491 -/
  | stateWindowEnd
  /-- R492; a STATE block with END = 1: FIELD8, and the bytes of its epoch, its blocks, its records and its CRC-32 (R499). -/
  | stateEndBlock (field8 : Byte) (epoch blocks records crc : List Byte)
  /-- R493 -/
  | stateCopyOverflow
  /-- R496 -/
  | snapshotComplete
  /-- R470; the HANDOVER block. -/
  | handoverBlock (b : ControlBlock)
  /-- R614; the KEY block. -/
  | key (b : ControlBlock)
  /-- R504, R513; the words found in the pass: of SRAM as sub-bank and word, of HBM3 by address. -/
  | scrubPass (hbm : Bool) (words : List (Fin 65536 × Fin 512 × EccSeen)) (addrs : List (Addr × EccSeen))
  /-- R507 -/
  | subbankRetirement (sb : Fin 65536)
  /-- R508; the words that were uncorrectable during the copy. -/
  | retirementCopyComplete (poisoned : List (Fin 512))
  /-- R516 -/
  | pseudoChannelRetirement (pc : Fin 64)
  /-- R512; the pseudo-channels that failed training. -/
  | hbmTrainingComplete (failed : List (Fin 64))
  /-- R643 -/
  | laneRetirement (lane : Lane)
  /-- R538 -/
  | read (f : PortFrame)
  /-- R538 -/
  | write (f : PortFrame)
  /-- R551 -/
  | writePosted (f : PortFrame)
  /-- R547 -/
  | responseReady
  /-- R547; the wait limit of the self-timed timer, in ns. -/
  | timeout (limitNs : Nat)
  /-- R553 -/
  | postedWriteEnd
  /-- R554; the header of a transaction whose bytes have not all arrived, if there is one. -/
  | portReset (cut : Option (List Byte))
  /-- R556 -/
  | ssLong (low : PortLow)
  /-- R567 -/
  | restart (m : Master)
  /-- R576 -/
  | recoverGo (m : Master)
  /-- R568 -/
  | watchdogExpiry
  /-- R568 -/
  | kick (m : Master)
  /-- R577 -/
  | stageCheck (m : Master) (slot : Bool)
  /-- R577 -/
  | stageCheckDone
  /-- R578 -/
  | program (m : Master) (slot : Bool)
  /-- R578 -/
  | programDone
  /-- R577 -/
  | activate (m : Master) (slot : Bool)
  /-- R577 -/
  | abort (m : Master) (slot : Bool)
  /-- R579 -/
  | healthOk (m : Master)
  /-- R579 -/
  | healthTimeout
  /-- R583; the sensor and its temperature in quarters of a degree. -/
  | talarm (sensor : Fin 6) (temp : BitVec 10)
  /-- R582 -/
  | sensorExtremeRead (m : Master) (sensor : Sensor)
  /-- R594 -/
  | getNonce (m : Master)
  /-- R593 -/
  | unlock (m : Master)
  /-- R592 -/
  | provision (m : Master)
  /-- R591 -/
  | lock (m : Master)
  /-- R595 -/
  | decommission (m : Master)
  /-- R590 -/
  | attest (m : Master)
  /-- R589 -/
  | extend (m : Master)
  /-- R599 -/
  | dbgReqWrite (m : Master) (data : W32)
  /-- R597 -/
  | tapInstruction (code : BitVec 5)
  /-- R598 -/
  | dmiAccess (op : DmiOp)
  /-- R606 -/
  | scanCycle (i : ScanIn)
  /-- R609 -/
  | keyPress (i : Fin 20)
  /-- R609 -/
  | keyRelease (i : Fin 20)
  /-- R613 -/
  | mateHandover (a b : Fin 20)
  /-- R610 -/
  | stuckInput (i : Fin 20)
  /-- R611 -/
  | touchBaselineStep (i : Fin 4)
  /-- R620 -/
  | presenceChange (cage : Fin 104)
  /-- R618 -/
  | acoClr (m : Master)
  /-- R622 -/
  | go (m : Master) (bus : Fin 4) (data : W32)
  /-- R622; how the transaction ended, its data bytes transferred, and the bytes read. -/
  | mbDone (bus : Fin 4) (e : MbEnd) (done : Fin 17) (bytes : List Byte)
  /-- R627 -/
  | modeReqWrite (m : Master) (data : W32)
  /-- R626 -/
  | modeChange
  /-- R634; what failed its self-test twice in the stage, and what passed at the second run (R636, R642). -/
  | bringUpStageComplete (failed transient : List Channel)
  /-- R638 -/
  | coldReset
  /-- R638 -/
  | warmReset
  /-- R668 -/
  | warmDone (slotB : Bool)
  /-- R639 -/
  | devResetWrite (m : Master) (data : W32)
  /-- R662 -/
  | reqWrite (m : Master) (page : PageNo) (data : W32)
  /-- R664; what the skew clock of the page shows, in ms. -/
  | skewFlag (page : PageNo) (ms : Nat)
  /-- R647 -/
  | shedLevelEnter (s : PowerSample)
  /-- R647; the least that slack and VDD_CORE showed without a break for the given time in ms. -/
  | shedLevelLeave (s : PowerSample) (steadyMs : Nat)
  /-- R225; the message accepted. -/
  | pathTraceAccept (p : Point) (message : List Byte)
  /-- R469; how long both lines have agreed, in ns. -/
  | interlockClear (lid0High lid1High : Bool) (ns : Nat)
  /-- R469 -/
  | lidDrv (line1 : Bool)
  /-- R453 -/
  | pamClear (g : MspGroup) (kind : PamKind)
  /-- R583; the six temperatures in quarters of a degree. -/
  | talarmClear (temps : List (BitVec 10))
  /-- R558; the straps, and the sub-banks that fail the SRAM test. -/
  | porstNRise (slotB testmode : Bool) (failed : List (Fin 65536))
  /-- R600 -/
  | tapReset
deriving DecidableEq, Repr

end Sys2Proof
end

