-- ==== Sys2Proof/Decode.lean ====
section
/-! DEFINITION. The block takes commands and decodes no words: no row of spec/opcode_table.json gives bits. -/

namespace Sys2Proof

/-- The command that a word spells by the table's bits: the table gives none. -/
def decodeTableWord (_nbits _w : Nat) : Option Instr := none

end Sys2Proof
end

