-- ==== Sys2Proof/Machine/RegTable.lean ====
section
/-! DEFINITION. The registers of the device as the spec's register tables give them (R670): for each page the
offset, the bits software may write, the write-one-to-clear bits, the reset value, and the encodings that a
field does not take (R13, and the "reads back as" entries of the tables). -/

namespace Sys2Proof.Machine

/-- What a field does with a written value that it does not take. -/
inductive FieldRule where
  /-- The encodings from `first` to `last` are reserved: the field keeps its value (R13). -/
  | reserved (lo len first last : Nat)
  /-- A value below `least` reads back as `least`, one above `most` as `most`. -/
  | clamp (lo len least most : Nat)
  /-- A value outside `least` to `most` reads back as `dflt`. -/
  | orElse (lo len least most dflt : Nat)
deriving DecidableEq, Repr

/-- A register, or an array of `count` equal registers `stride` bytes apart. -/
structure RegDef where
  off : Nat
  count : Nat
  stride : Nat
  rw : Nat
  w1c : Nat
  reset : Nat
  rules : List FieldRule
deriving DecidableEq, Repr

/-- A field of a register: the register's bus address or its offset in a lane page or header, the field's
lowest bit and its width. -/
structure Field where
  off : Nat
  lo : Nat
  len : Nat
deriving DecidableEq, Repr

/-- The registers of the common header (R656), but for the page event bits of `MASK`, which `headerReg` gives. -/
def hdrRegs : List RegDef := [
  ⟨0, 1, 4, 0, 0, 0, []⟩, -- PAGE_ID
  ⟨4, 1, 4, 0, 0, 0x100, []⟩, -- PAGE_REV
  ⟨8, 1, 4, 0, 0, 0, []⟩, -- CAP
  ⟨0xc, 1, 4, 3, 0, 2, []⟩, -- REQ
  ⟨0x10, 1, 4, 0, 0, 0x70, []⟩, -- EFF
  ⟨0x14, 1, 4, 0xff000000, 0, 0x32000000, [.clamp 24 8 1 255]⟩, -- SKEW
  ⟨0x18, 1, 4, 0, 0x1e0000, 0, []⟩, -- STICKY
  ⟨0x1c, 1, 4, 0x1f0000, 0, 0x10000, []⟩, -- MASK
  ⟨0x20, 1, 4, 0, 0, 0, []⟩, -- LEDGER
  ⟨0x24, 1, 4, 0, 0, 0, []⟩, -- LEDGER_ST
  ⟨0x28, 1, 4, 0, 0, 0, []⟩] -- FAULT

/-- The registers of the DEV page (R46, R603, R652, R667, R669). -/
def devRegs : List RegDef := [
  ⟨0x100, 1, 4, 0, 0, 0, []⟩, -- DEV.CAP_GEN
  ⟨0x104, 1, 4, 0, 0, 0x600, []⟩, -- DEV.CAP_UNIT
  ⟨0x108, 1, 4, 0, 0, 0, []⟩, -- DEV.CAP_PLANE0
  ⟨0x10c, 1, 4, 0, 0, 0, []⟩, -- DEV.CAP_PLANE1
  ⟨0x110, 1, 4, 0, 0, 0, []⟩, -- DEV.CAP_PLANE2
  ⟨0x114, 1, 4, 0, 0, 0, []⟩, -- DEV.CAP_MLANE
  ⟨0x118, 1, 4, 0, 0, 0, []⟩, -- DEV.CAP_HBM0
  ⟨0x11c, 1, 4, 0, 0, 0, []⟩, -- DEV.CAP_HBM1
  ⟨0x120, 1, 4, 0, 0, 0, []⟩, -- DEV.CAP_FLOW
  ⟨0x124, 1, 4, 0, 0, 0, []⟩, -- DEV.CAP_FPORT
  ⟨0x180, 1, 4, 1, 0, 0, []⟩, -- DEV.BOOTCTL
  ⟨0x140, 1, 4, 0, 0, 0, []⟩, -- DEV.MODE
  ⟨0x144, 1, 4, 7, 0, 0, [.reserved 0 3 3 4, .reserved 0 3 6 7]⟩, -- DEV.MODE_REQ
  ⟨0x148, 1, 4, 1, 0, 0, []⟩, -- DEV.MODE_CFG
  ⟨0x14c, 1, 4, 0, 0, 0, []⟩, -- DEV.RESET
  ⟨0x150, 1, 4, 0, 0, 0, []⟩, -- DEV.RESET_STAT
  ⟨0x154, 1, 4, 0xffff, 0, 0x3c3, [.clamp 0 4 1 15, .clamp 4 12 1 4095]⟩, -- DEV.FAULT_CFG
  ⟨0x1c0, 8, 4, 0, 0, 0, []⟩, -- DEV.SUM
  ⟨0x1a0, 1, 4, 0, 0, 0x19604, []⟩] -- DEV.IDENT

/-- The registers of the CLK page (02_lanes_and_timing.md). -/
def clkRegs : List RegDef := [
  ⟨0x100, 1, 4, 0x1f0f, 0, 0xa02, [.clamp 8 5 1 31]⟩, -- CLK.REFSEL
  ⟨0x104, 1, 4, 1, 0, 0, []⟩, -- CLK.LOSS_POLICY
  ⟨0x108, 1, 4, 0, 0, 0, []⟩, -- CLK.STATUS
  ⟨0x10c, 1, 4, 0, 0, 0, []⟩, -- CLK.COAST
  ⟨0x110, 1, 4, 0, 0, 0, []⟩, -- CLK.TB_LO
  ⟨0x114, 1, 4, 0, 0, 0, []⟩, -- CLK.TB_HI
  ⟨0x120, 4, 4, 0x27f, 0, 0x400, [.reserved 0 7 96 127]⟩, -- CLK.LRC
  ⟨0x130, 1, 4, 3, 0, 0, []⟩] -- CLK.FPCFG

/-- The registers of the MTX page (R534). -/
def mtxRegs : List RegDef := [
  ⟨0x100, 1, 4, 0, 0x40000, 0, []⟩, -- MTX.ABORT_INFO
  ⟨0x104, 1, 4, 0, 0, 0, []⟩, -- MTX.ABORT_ADDR_LO
  ⟨0x108, 1, 4, 0, 0, 0, []⟩, -- MTX.ABORT_ADDR_HI
  ⟨0x10c, 1, 4, 0, 0, 0, []⟩, -- MTX.ABORT_COUNT
  ⟨0x110, 1, 4, 0, 0, 0, []⟩, -- MTX.DECERR_INFO
  ⟨0x114, 1, 4, 0, 0, 0, []⟩, -- MTX.DECERR_ADDR_LO
  ⟨0x118, 1, 4, 0, 0, 0, []⟩, -- MTX.DECERR_ADDR_HI
  ⟨0x11c, 1, 4, 0, 0, 0, []⟩, -- MTX.DECERR_COUNT
  ⟨0x120, 1, 4, 0, 0, 0, []⟩, -- MTX.STUCK
  ⟨0x124, 1, 4, 0, 0, 0, []⟩, -- MTX.AGED
  ⟨0x140, 1, 4, 0xffffff7b, 0, 0, []⟩, -- MTX.UPERM_R0; the bits of pages 0x02 and 0x07 read 0
  ⟨0x144, 3, 4, 0xffffffff, 0, 0, []⟩, -- MTX.UPERM_R
  ⟨0x150, 1, 4, 0xffffff7b, 0, 0, []⟩, -- MTX.UPERM_W0
  ⟨0x154, 3, 4, 0xffffffff, 0, 0, []⟩, -- MTX.UPERM_W
  ⟨0x160, 1, 4, 0x1ff7d7f, 0, 0, []⟩, -- MTX.UWIN; the active map's write bit reads 0
  ⟨0x130, 1, 4, 0, 0xf, 0, []⟩, -- MTX.EVT
  ⟨0x134, 1, 4, 0xf, 0, 0, []⟩] -- MTX.EVT_MASK

/-- The registers of the MEM page (R532). -/
def memRegs : List RegDef := [
  ⟨0x100, 1, 4, 1, 0, 1, []⟩, -- MEM.CFG
  ⟨0x104, 1, 4, 0, 0, 0x4e7, []⟩, -- MEM.STAT
  ⟨0x108, 1, 4, 0, 0, 0, []⟩, -- MEM.CE
  ⟨0x10c, 1, 4, 0, 0, 0, []⟩, -- MEM.UE
  ⟨0x110, 1, 4, 0, 0, 0, []⟩, -- MEM.SCRUB_PASS
  ⟨0x114, 1, 4, 0, 0, 0, []⟩, -- MEM.LAST_ERR
  ⟨0x118, 1, 4, 0, 0, 0, []⟩, -- MEM.RET_LAST
  ⟨0x11c, 1, 4, 0, 0, 0, []⟩, -- MEM.RET_COUNT
  ⟨0x120, 1, 4, 0, 0xf, 0, []⟩, -- MEM.EVT
  ⟨0x124, 1, 4, 0xf, 0, 0, []⟩] -- MEM.EVT_MASK

/-- The registers of the HBM page (R533). -/
def hbmRegs : List RegDef := [
  ⟨0x100, 1, 4, 0, 0, 0, []⟩, -- HBM.STAT
  ⟨0x104, 1, 4, 1, 0, 1, []⟩, -- HBM.CFG
  ⟨0x108, 1, 4, 0, 0, 0, []⟩, -- HBM.CE
  ⟨0x10c, 1, 4, 0, 0, 0, []⟩, -- HBM.RETRY
  ⟨0x110, 1, 4, 0, 0, 0, []⟩, -- HBM.UE
  ⟨0x114, 1, 4, 0, 0, 0, []⟩, -- HBM.LAST_ERR_LO
  ⟨0x118, 1, 4, 0, 0, 0, []⟩, -- HBM.LAST_ERR_HI
  ⟨0x11c, 1, 4, 0, 0, 0, []⟩, -- HBM.TEMP
  ⟨0x128, 1, 4, 0, 0, 0, []⟩, -- HBM.PC_RET0
  ⟨0x12c, 1, 4, 0, 0, 0, []⟩, -- HBM.PC_RET1
  ⟨0x200, 64, 4, 0, 0, 0, []⟩, -- HBM.UNIT
  ⟨0x120, 1, 4, 0, 0x1f, 0, []⟩, -- HBM.EVT
  ⟨0x124, 1, 4, 0x1f, 0, 0, []⟩] -- HBM.EVT_MASK

/-- The registers of the HCP page (R562). -/
def hcpRegs : List RegDef := [
  ⟨0x100, 1, 4, 3, 0, 3, []⟩, -- HCP.CFG
  ⟨0x104, 1, 4, 0, 0, 0, []⟩, -- HCP.LAST
  ⟨0x110, 1, 4, 0, 0x400000, 0, []⟩, -- HCP.POST_STAT
  ⟨0x108, 1, 4, 0, 0, 0, []⟩, -- HCP.LAST_ADDR_LO
  ⟨0x10c, 1, 4, 0, 0, 0, []⟩, -- HCP.LAST_ADDR_HI
  ⟨0x114, 1, 4, 0, 0, 0, []⟩, -- HCP.POST_ADDR_LO
  ⟨0x118, 1, 4, 0, 0, 0, []⟩, -- HCP.POST_ADDR_HI
  ⟨0x11c, 1, 4, 0, 0, 0, []⟩, -- HCP.POST_DONE
  ⟨0x120, 1, 4, 0, 0, 0, []⟩, -- HCP.POST_PEND
  ⟨0x124, 1, 4, 0, 0, 0, []⟩, -- HCP.HDR_ERR
  ⟨0x128, 1, 4, 0, 0, 0, []⟩, -- HCP.DATA_CRC
  ⟨0x12c, 1, 4, 0, 0, 0, []⟩, -- HCP.ABORTS
  ⟨0x130, 1, 4, 0, 0x1f, 0, []⟩, -- HCP.EVT
  ⟨0x134, 1, 4, 0x1f, 0, 0, []⟩] -- HCP.EVT_MASK

/-- The registers of the MGT page (R604). -/
def mgtRegs : List RegDef := [
  ⟨0x100, 1, 4, 0, 0, 0, []⟩, -- MGT.CTRL
  ⟨0x104, 1, 4, 0, 0, 0, []⟩, -- MGT.BOOT_STAT
  ⟨0x108, 1, 4, 8, 0, 0, []⟩, -- MGT.FW_CMD
  ⟨0x10c, 1, 4, 0, 0, 0, []⟩, -- MGT.FW_STAT
  ⟨0x110, 1, 4, 0, 0, 0, []⟩, -- MGT.FW_VER
  ⟨0x114, 1, 4, 0, 0, 0, []⟩, -- MGT.HEALTH
  ⟨0x118, 1, 4, 0x7f, 0, 8, [.clamp 1 6 1 60]⟩, -- MGT.WDOG
  ⟨0x11c, 1, 4, 0x1f, 0, 0, []⟩, -- MGT.HBM_WIN
  ⟨0x120, 1, 4, 0, 0, 0, []⟩, -- MGT.LOG_SEQ
  ⟨0x124, 1, 4, 0, 0, 0xf0000000, []⟩, -- MGT.LOG_BASE_LO
  ⟨0x128, 1, 4, 0, 0, 0xc, []⟩, -- MGT.LOG_BASE_HI
  ⟨0x12c, 1, 4, 0x3ff, 0, 0x1a4, []⟩, -- MGT.TALARM
  ⟨0x138, 1, 4, 0, 0, 0, []⟩, -- MGT.ROM_VER
  ⟨0x200, 6, 4, 0, 0, 0, []⟩, -- MGT.TEMP
  ⟨0x220, 8, 4, 0, 0, 0, []⟩, -- MGT.VOLT
  ⟨0x240, 12, 4, 0, 0, 0, []⟩, -- MGT.SLACK
  ⟨0x130, 1, 4, 0, 0x3f, 0, []⟩, -- MGT.EVT
  ⟨0x134, 1, 4, 0x3f, 0, 0, []⟩] -- MGT.EVT_MASK

/-- The registers of the SEC page (R605). -/
def secRegs : List RegDef := [
  ⟨0x100, 1, 4, 0, 0, 0, []⟩, -- SEC.LC
  ⟨0x104, 1, 4, 3, 0, 0, [.clamp 0 2 0 2]⟩, -- SEC.DBG
  ⟨0x108, 1, 4, 0, 0, 0, []⟩, -- SEC.CMD
  ⟨0x10c, 1, 4, 0, 0, 0, []⟩, -- SEC.CMD_STAT
  ⟨0x110, 4, 4, 0, 0, 0, []⟩, -- SEC.DEVID
  ⟨0x120, 8, 4, 0, 0, 0, []⟩, -- SEC.NONCE
  ⟨0x140, 8, 4, 0, 0, 0, []⟩, -- SEC.MEAS
  ⟨0x160, 1, 4, 0, 0xf, 0, []⟩, -- SEC.EVT
  ⟨0x164, 1, 4, 0xf, 0, 0, []⟩, -- SEC.EVT_MASK
  ⟨0x200, 64, 4, 0xffffffff, 0, 0, []⟩] -- SEC.BUF

/-- The registers of the PNL page (R625). -/
def pnlRegs : List RegDef := [
  ⟨0x140, 20, 4, 0x7fffffff, 0, 0, [.reserved 0 3 5 7]⟩, -- PNL.KFUN
  ⟨0x114, 1, 4, 0, 0x3f, 0, []⟩, -- PNL.EVT
  ⟨0x118, 1, 4, 0x3f, 0, 0, []⟩, -- PNL.EVT_MASK
  ⟨0x100, 1, 4, 0xf7fff, 0, 1, [.clamp 1 5 0 16, .clamp 6 9 0 256]⟩, -- PNL.CFG
  ⟨0x104, 1, 4, 1, 0, 0, []⟩, -- PNL.CTRL
  ⟨0x108, 1, 4, 0, 0, 0, []⟩, -- PNL.STAT
  ⟨0x10c, 1, 4, 0, 0, 0, []⟩, -- PNL.KEYSTAT
  ⟨0x110, 1, 4, 0, 0, 0, []⟩, -- PNL.STUCK
  ⟨0x11c, 1, 4, 0, 0xfffff, 0, []⟩, -- PNL.PRESS
  ⟨0x190, 1, 4, 0xfff, 0, 0x64, [.clamp 0 12 1 4095]⟩, -- PNL.TCH_CFG
  ⟨0x1a0, 4, 4, 0, 0, 0, []⟩, -- PNL.TCH
  ⟨0x1c0, 4, 4, 0, 0, 0, []⟩, -- PNL.PRES
  ⟨0x1d0, 4, 4, 0xffffffff, 0, 0, []⟩, -- PNL.PRES_USE
  ⟨0x1e0, 4, 4, 0, 0xffffffff, 0, []⟩, -- PNL.PRES_CHG
  ⟨0x200, 16, 4, 0xffffffff, 0, 0, []⟩, -- PNL.LED
  ⟨0x300, 4, 0x40, 1, 0, 0, []⟩, -- PNL.MB_CFG
  ⟨0x304, 4, 0x40, 0x1fffff, 0, 0x10050, [.clamp 16 5 1 16]⟩, -- PNL.MB_CMD
  ⟨0x308, 4, 0x40, 0, 0, 0, []⟩, -- PNL.MB_STAT
  ⟨0x310, 4, 0x40, 0xffffffff, 0, 0, []⟩, -- PNL.MB_DATA
  ⟨0x314, 4, 0x40, 0xffffffff, 0, 0, []⟩, -- PNL.MB_DATA
  ⟨0x318, 4, 0x40, 0xffffffff, 0, 0, []⟩, -- PNL.MB_DATA
  ⟨0x31c, 4, 0x40, 0xffffffff, 0, 0, []⟩] -- PNL.MB_DATA

/-- The registers of the PWR page (R653). -/
def pwrRegs : List RegDef := [
  ⟨0x100, 1, 4, 0x77, 0, 0x40, [.clamp 0 3 0 3]⟩, -- PWR.CFG
  ⟨0x104, 1, 4, 0, 0, 0, []⟩, -- PWR.STAT
  ⟨0x108, 1, 4, 0xfffff0f, 0, 0x640a05, [.clamp 16 12 10 4000]⟩, -- PWR.HYST
  ⟨0x110, 4, 4, 0xfff7f, 0, 0, []⟩, -- PWR.THR
  ⟨0x128, 1, 4, 0, 0, 0, []⟩, -- PWR.ENTRIES
  ⟨0x120, 1, 4, 0, 7, 0, []⟩, -- PWR.EVT
  ⟨0x124, 1, 4, 7, 0, 0, []⟩] -- PWR.EVT_MASK

/-- The registers of the MATE page (R501). -/
def mateRegs : List RegDef := [
  ⟨0x100, 1, 4, 0xff0f, 0, 0xff02, []⟩, -- MATE.CFG
  ⟨0x104, 1, 4, 0, 0, 0, []⟩, -- MATE.CMD
  ⟨0x108, 1, 4, 0, 0, 0, []⟩, -- MATE.CMD_STAT
  ⟨0x10c, 1, 4, 0, 0, 0x18, []⟩, -- MATE.STAT
  ⟨0x110, 1, 4, 0, 0x3fff, 0, []⟩, -- MATE.EVT
  ⟨0x114, 1, 4, 0x3fff, 0, 0, []⟩, -- MATE.EVT_MASK
  ⟨0x118, 1, 4, 0, 0, 0, []⟩, -- MATE.CUR_EPOCH
  ⟨0x11c, 1, 4, 0, 0, 0, []⟩, -- MATE.ACK_EPOCH
  ⟨0x120, 1, 4, 0, 0, 0, []⟩, -- MATE.LAST_EPOCH
  ⟨0x124, 1, 4, 0, 0, 0, []⟩, -- MATE.SELFCHK
  ⟨0x128, 1, 4, 0, 0, 0, []⟩, -- MATE.DIG_MISMATCH
  ⟨0x12c, 1, 4, 0, 0, 0, []⟩, -- MATE.DIG_MISS
  ⟨0x130, 1, 4, 0, 0, 0, []⟩, -- MATE.DIG_LAST
  ⟨0x134, 1, 4, 0, 0, 0, []⟩, -- MATE.PHASE
  ⟨0x138, 1, 4, 0, 0, 0, []⟩, -- MATE.DELAY
  ⟨0x13c, 1, 4, 0, 0, 0, []⟩, -- MATE.TAKEOVERS
  ⟨0x140, 1, 4, 0, 0, 0, []⟩, -- MATE.COLLIDE
  ⟨0x144, 1, 4, 0, 0, 0, []⟩, -- MATE.REVERIFY_CNT
  ⟨0x1000, 1024, 4, 0, 0, 0, []⟩] -- MATE.REVERIFY

/-- The registers of the GRM page (R327). -/
def grmRegs : List RegDef := [
  ⟨0x100, 1, 4, 0x3f00, 0, 0, []⟩, -- GRM.CMD
  ⟨0x11c, 1, 4, 0, 0, 0, []⟩, -- GRM.CMD_STAT
  ⟨0x118, 1, 4, 0, 0, 0, []⟩, -- GRM.SHADOW
  ⟨0x120, 1, 4, 0, 0, 0, []⟩, -- GRM.CHK_RES
  ⟨0x12c, 1, 4, 0, 0, 0, []⟩, -- GRM.ACT_RES
  ⟨0x124, 1, 4, 0, 0, 0, []⟩, -- GRM.CHK_POS
  ⟨0x130, 1, 4, 0, 0, 0, []⟩, -- GRM.ACT_POS
  ⟨0x140, 1, 4, 0, 0x3f, 0, []⟩, -- GRM.EVT
  ⟨0x144, 1, 4, 0x3f, 0, 0, []⟩, -- GRM.EVT_MASK
  ⟨0x104, 1, 4, 0xffffff, 0, 0, []⟩, -- GRM.FILL_FIRST
  ⟨0x108, 1, 4, 0x1ffffff, 0, 0, []⟩, -- GRM.FILL_COUNT
  ⟨0x10c, 1, 4, 0xffffffff, 0, 0, []⟩, -- GRM.FILL_VALUE
  ⟨0x110, 1, 4, 3, 0, 0, [.reserved 0 2 3 3]⟩, -- GRM.CMT_CFG
  ⟨0x114, 1, 4, 0xffffffff, 0, 0, []⟩, -- GRM.CMT_SEQ
  ⟨0x128, 1, 4, 0, 0, 0, []⟩, -- GRM.ACT
  ⟨0x134, 1, 4, 0, 0, 0, []⟩, -- GRM.CMT_SERIAL
  ⟨0x138, 1, 4, 0, 0, 0, []⟩, -- GRM.SWAP_SEQ
  ⟨0x13c, 1, 4, 0, 0, 0, []⟩, -- GRM.ENT_UE
  ⟨0x148, 1, 4, 0, 0, 0, []⟩, -- GRM.LIB_BASE_LO
  ⟨0x14c, 1, 4, 0, 0, 8, []⟩, -- GRM.LIB_BASE_HI
  ⟨0x1000, 104, 4, 0xffffffff, 0, 0, []⟩] -- GRM.CONST

/-- The registers of the FLW page (R376). -/
def flwRegs : List RegDef := [
  ⟨0x800, 1, 4, 0x37f, 0, 0x311, [.clamp 0 4 1 15, .clamp 4 3 1 7]⟩, -- FLW.SV_CFG
  ⟨0x100, 1, 4, 0, 0x1f, 0, []⟩, -- FLW.EVT
  ⟨0x104, 1, 4, 0x1f, 0, 0, []⟩, -- FLW.EVT_MASK
  ⟨0x108, 1, 4, 0, 0, 0, []⟩, -- FLW.ERR
  ⟨0x10c, 1, 4, 0, 0, 0, []⟩, -- FLW.DROP_NOCTX
  ⟨0x110, 1, 4, 0, 0, 0, []⟩, -- FLW.FS_UE
  ⟨0x114, 1, 4, 0, 0, 0, []⟩, -- FLW.GRP_DEF
  ⟨0x118, 1, 4, 0, 0, 0, []⟩, -- FLW.SLICE_RET
  ⟨0x11c, 1, 4, 0, 0, 0, []⟩] -- FLW.FPORT_RET

/-- The registers of the PSQ page (R377). -/
def psqRegs : List RegDef := [
  ⟨0x100, 1, 4, 7, 0, 1, []⟩, -- PSQ.CFG
  ⟨0x104, 1, 4, 0, 0, 0, []⟩, -- PSQ.COUNT_L2F
  ⟨0x108, 1, 4, 0, 0, 0, []⟩, -- PSQ.COUNT_F2L
  ⟨0x10c, 1, 4, 0, 0, 0, []⟩, -- PSQ.PEAK_L2F
  ⟨0x110, 1, 4, 0, 0, 0, []⟩, -- PSQ.PEAK_F2L
  ⟨0x114, 1, 4, 0, 0, 0, []⟩, -- PSQ.CE_L2F0
  ⟨0x118, 1, 4, 0, 0, 0, []⟩, -- PSQ.CE_L2F1
  ⟨0x11c, 1, 4, 0, 0, 0, []⟩, -- PSQ.CE_F2L0
  ⟨0x120, 1, 4, 0, 0, 0, []⟩, -- PSQ.CE_F2L1
  ⟨0x124, 1, 4, 0, 0, 0, []⟩, -- PSQ.UE
  ⟨0x128, 1, 4, 0, 0, 0, []⟩, -- PSQ.SHED_DROP
  ⟨0x12c, 1, 4, 0, 0, 0, []⟩, -- PSQ.RETURN
  ⟨0x130, 1, 4, 0, 0, 0, []⟩, -- PSQ.SHARE_SUM
  ⟨0x1000, 192, 4, 0xffffffff, 0, 0, []⟩] -- PSQ.SHARE

/-- The registers of the PM page (R424)., part 0 -/
def pmRegs0 : List RegDef := [
  ⟨0x100, 1, 4, 3, 0, 2, []⟩, -- PM.CFG
  ⟨0x104, 1, 4, 0, 0, 0, []⟩, -- PM.EPOCH
  ⟨0x108, 1, 4, 0, 0, 0, []⟩, -- PM.LADLE
  ⟨0x10c, 1, 4, 0, 0, 0x6201, []⟩, -- PM.BIN
  ⟨0x110, 1, 4, 0x1ffff, 0, 0, [.clamp 0 17 0 86399]⟩, -- PM.BIN_ALIGN
  ⟨0x114, 1, 4, 0, 0, 0, []⟩, -- PM.WR_STAT
  ⟨0x120, 1, 4, 0x77fffff, 0, 0, [.reserved 24 3 5 7]⟩, -- PM.RD_SEL
  ⟨0x130, 1, 4, 0x77fffff, 0, 0, [.reserved 24 3 5 7]⟩, -- PM.WR_SEL
  ⟨0x124, 1, 4, 0, 0, 0, []⟩, -- PM.RD_LO
  ⟨0x128, 1, 4, 0, 0, 0, []⟩, -- PM.RD_HI
  ⟨0x134, 1, 4, 0xffffffff, 0, 0, []⟩, -- PM.WR_LO
  ⟨0x138, 1, 4, 0xffffffff, 0, 0, []⟩, -- PM.WR_HI
  ⟨0x13c, 1, 4, 0, 0, 0, []⟩, -- PM.WR_GO
  ⟨0x150, 1, 4, 0, 0, 0, []⟩, -- PM.CNT_BASE_LO
  ⟨0x154, 1, 4, 0, 0, 0xb, []⟩, -- PM.CNT_BASE_HI
  ⟨0x158, 1, 4, 0, 0, 0, []⟩, -- PM.DUMP_BASE_LO
  ⟨0x15c, 1, 4, 0, 0, 0xd, []⟩, -- PM.DUMP_BASE_HI
  ⟨0x160, 1, 4, 0, 0, 0xe0000000, []⟩, -- PM.TRACE_BASE_LO
  ⟨0x164, 1, 4, 0, 0, 0xd, []⟩, -- PM.TRACE_BASE_HI
  ⟨0x200, 16, 4, 0xff, 0, 0x46, [.clamp 0 4 3 12, .clamp 4 4 3 12]⟩, -- PM.PROF
  ⟨0x140, 1, 4, 0, 0x7f, 0, []⟩, -- PM.EVT
  ⟨0x144, 1, 4, 0x7f, 0, 0, []⟩, -- PM.EVT_MASK
  ⟨0x400, 64, 0x10, 0xffff0f, 0, 0, [.reserved 0 4 9 15]⟩, -- PM.BW_SEL
  ⟨0x404, 64, 0x10, 0xffff, 0, 0x3e8, [.clamp 0 16 1 60000]⟩, -- PM.BW_WIN
  ⟨0x408, 64, 0x10, 0, 0, 0, []⟩] -- PM.BW_VAL

/-- The registers of the PM page (R424)., part 1 -/
def pmRegs1 : List RegDef := [
  ⟨0x40c, 64, 0x10, 0, 0, 0, []⟩, -- PM.BW_PEAK
  ⟨0x800, 16, 0x20, 0x7f1f, 0, 0x7f00, [.reserved 1 3 7 7]⟩, -- PM.FEC_CFG
  ⟨0x804, 16, 0x20, 0xffffffff, 0, 0, []⟩, -- PM.FEC_STARTL
  ⟨0x808, 16, 0x20, 0xff, 0, 0, []⟩, -- PM.FEC_STARTH
  ⟨0x80c, 16, 0x20, 0xffffffff, 0, 0xffffffff, []⟩, -- PM.FEC_ENDL
  ⟨0x810, 16, 0x20, 0xff, 0, 0xff, []⟩, -- PM.FEC_ENDH
  ⟨0x814, 16, 0x20, 0, 0, 0, []⟩, -- PM.FEC_LO
  ⟨0x818, 16, 0x20, 0, 0, 0, []⟩, -- PM.FEC_HI
  ⟨0xc00, 1, 4, 0x7ffff, 0, 0x407e0, [.clamp 1 5 4 24]⟩, -- PM.SKW_CFG
  ⟨0xc04, 1, 4, 0, 0, 0, []⟩, -- PM.SKW_TAGS
  ⟨0xc08, 1, 4, 0, 0, 0, []⟩, -- PM.SKW_DROP
  ⟨0xc0c, 1, 4, 0, 0, 0, []⟩] -- PM.SKW_HEAD

/-- The registers of the PM page (R424). -/
def pmRegs : List RegDef := pmRegs0 ++ pmRegs1

/-- The registers of the PROT page (R457). -/
def protRegs : List RegDef := [
  ⟨0x100, 1, 4, 0, 0xf, 0, []⟩, -- PROT.EVT
  ⟨0x104, 1, 4, 0xf, 0, 0, []⟩, -- PROT.EVT_MASK
  ⟨0x108, 1, 4, 0, 0xffffffff, 0, []⟩, -- PROT.MSP_CHG0
  ⟨0x10c, 1, 4, 0, 0xffff, 0, []⟩, -- PROT.MSP_CHG1
  ⟨0x110, 1, 4, 0x3ffff, 0, 0, []⟩, -- PROT.SNC_IDX
  ⟨0x114, 1, 4, 0, 0, 0, []⟩, -- PROT.SNC_REQ
  ⟨0x118, 1, 4, 0, 0, 0, []⟩, -- PROT.REQ_RES
  ⟨0x11c, 1, 4, 0, 0, 0, []⟩, -- PROT.SNC_LAST
  ⟨0x120, 1, 4, 0, 0, 0, []⟩, -- PROT.SNC_SWITCHES
  ⟨0x140, 16, 4, 0x1fff, 0, 0xa80, [.clamp 0 7 0 100, .clamp 7 4 1 12]⟩, -- PROT.SNC_PROF
  ⟨0x1000, 48, 0x40, 0x3fffff1f, 0, 0x1400800c, []⟩, -- PROT.MSP_CFG
  ⟨0x1004, 48, 0x40, 0xffffffff, 0, 0, []⟩, -- PROT.MSP_WORK
  ⟨0x1008, 48, 0x40, 0xffffffff, 0, 0, []⟩, -- PROT.MSP_WORK
  ⟨0x100c, 48, 0x40, 0xffffffff, 0, 0, []⟩, -- PROT.MSP_WORK
  ⟨0x1010, 48, 0x40, 0xffffffff, 0, 0, []⟩, -- PROT.MSP_WORK
  ⟨0x1014, 48, 0x40, 0, 0, 0, []⟩, -- PROT.MSP_REQ
  ⟨0x1018, 48, 0x40, 0, 0, 0, []⟩, -- PROT.MSP_STAT
  ⟨0x101c, 48, 0x40, 0, 0, 0, []⟩] -- PROT.MSP_SWC

/-- The registers of the LANE page (R655, R670)., part 0 -/
def laneRegs0 : List RegDef := [
  ⟨0x100, 1, 4, 0x37, 0, 5, []⟩, -- LANE.CFG
  ⟨0x104, 1, 4, 0, 8, 0, []⟩, -- LANE.SDS_STAT
  ⟨0x108, 1, 4, 0x1ffff, 0, 0x14600, []⟩, -- LANE.TXEQ
  ⟨0x10c, 1, 4, 0xf1, 0, 0x81, []⟩, -- LANE.RXEQ
  ⟨0x110, 1, 4, 0xff, 0, 0x22, [.reserved 0 2 3 3, .reserved 4 2 3 3]⟩, -- LANE.PRBS
  ⟨0x114, 1, 4, 0, 0, 0, []⟩, -- LANE.PRBS_ERR_LO
  ⟨0x118, 1, 4, 0, 0, 0, []⟩, -- LANE.PRBS_ERR_HI
  ⟨0x11c, 1, 4, 7, 0, 0, [.reserved 0 2 3 3]⟩, -- LANE.LOOP
  ⟨0x120, 1, 4, 0, 0, 0, []⟩, -- LANE.EYE
  ⟨0x124, 1, 4, 0, 0, 0, []⟩, -- LANE.ES_SLIP
  ⟨0x800, 1, 4, 0x7f7, 0, 0x277, [.clamp 4 4 1 15, .clamp 8 3 1 7]⟩, -- LANE.SV_CFG
  ⟨0x804, 1, 4, 0, 0, 0x10, []⟩, -- LANE.SV_STAT
  ⟨0x810, 8, 4, 0, 0, 0, []⟩, -- LANE.SV_SLOT
  ⟨0x830, 1, 4, 0, 0, 0, []⟩, -- LANE.SV_MIMIC
  ⟨0x834, 1, 4, 0, 0, 0, []⟩, -- LANE.SV_UNRES
  ⟨0x838, 1, 4, 0, 0, 0, []⟩, -- LANE.SV_FAST
  ⟨0x83c, 1, 4, 0, 0, 0, []⟩, -- LANE.SV_HUNT
  ⟨0x840, 1, 4, 0, 0, 0, []⟩, -- LANE.SV_FULL
  ⟨0x844, 1, 4, 0, 0, 0, []⟩, -- LANE.SV_CORR
  ⟨0x848, 1, 4, 0, 0, 0, []⟩, -- LANE.SV_LOSS
  ⟨0x84c, 1, 4, 0, 0, 0, []⟩, -- LANE.SV_FSERR
  ⟨0x1000, 1, 4, 0x7f, 0, 0x2e, []⟩, -- LANE.SOH_CFG
  ⟨0x1004, 1, 4, 0x73, 0, 0, []⟩, -- LANE.SOH_TX
  ⟨0x1008, 1, 4, 0, 0, 0, []⟩, -- LANE.SOH_STAT
  ⟨0x100c, 1, 4, 0, 0x1ff, 0, []⟩] -- LANE.SOH_EVT

/-- The registers of the LANE page (R655, R670)., part 1 -/
def laneRegs1 : List RegDef := [
  ⟨0x1010, 1, 4, 0x1ff, 0, 0, []⟩, -- LANE.SOH_EVT_MASK
  ⟨0x1014, 1, 4, 0x3f, 0, 0x35, [.reserved 0 2 3 3, .reserved 2 2 3 3]⟩, -- LANE.SOH_J0CFG
  ⟨0x1018, 1, 4, 0, 0, 0, []⟩, -- LANE.SOH_J0CRC
  ⟨0x101c, 1, 4, 0, 0, 0, []⟩, -- LANE.SOH_KRX
  ⟨0x1020, 1, 4, 0, 0, 0, []⟩, -- LANE.SOH_KRAW
  ⟨0x1024, 1, 4, 0xffff, 0, 0, []⟩, -- LANE.SOH_KTX
  ⟨0x1028, 1, 4, 0xff00, 0, 0xf00, []⟩, -- LANE.SOH_S1
  ⟨0x102c, 1, 4, 0, 0, 0, []⟩, -- LANE.SOH_M1
  ⟨0x1030, 1, 4, 0, 0, 0, []⟩, -- LANE.SOH_RXFRM
  ⟨0x1034, 1, 4, 0, 0, 0, []⟩, -- LANE.SOH_TXFRM
  ⟨0x1038, 1, 4, 0xffff, 0, 0, []⟩, -- LANE.SOH_TXLIM
  ⟨0x103c, 1, 4, 0xff1f, 0, 0, []⟩, -- LANE.SOH_CHEN
  ⟨0x1080, 16, 4, 0xffffffff, 0, 0, []⟩, -- LANE.SOH_J0_TX
  ⟨0x10c0, 16, 4, 0xffffffff, 0, 0, []⟩, -- LANE.SOH_J0_EXP
  ⟨0x1100, 16, 4, 0, 0, 0, []⟩, -- LANE.SOH_J0_ACC
  ⟨0x1200, 240, 4, 0, 0, 0, []⟩, -- LANE.SOH_RX_RING
  ⟨0x1600, 240, 4, 0xffffffff, 0, 0, []⟩, -- LANE.SOH_TX_RING
  ⟨0x2000, 1, 4, 0, 0, 0, []⟩, -- LANE.PS_SUM
  ⟨0x2004, 1, 4, 0, 0, 0, []⟩, -- LANE.PS_HODEF0
  ⟨0x2008, 1, 4, 0, 0, 0, []⟩, -- LANE.PS_HODEF1
  ⟨0x200c, 1, 4, 0, 7, 0, []⟩, -- LANE.PS_EVT
  ⟨0x2010, 1, 4, 7, 0, 0, []⟩, -- LANE.PS_EVT_MASK
  ⟨0x2014, 1, 4, 0x3fff, 0, 0, []⟩, -- LANE.PS_CAP
  ⟨0x2040, 16, 4, 0, 0, 0, []⟩, -- LANE.PS_CAP_BUF
  ⟨0x4000, 1, 4, 0xfff07f7, 0, 0x405, []⟩] -- LANE.TU_CFG

/-- The registers of the LANE page (R655, R670)., part 2 -/
def laneRegs2 : List RegDef := [
  ⟨0x4004, 1, 4, 0, 0, 0, []⟩, -- LANE.TU_STAT
  ⟨0x4010, 1, 4, 0, 0x7f, 0, []⟩, -- LANE.TU_EVT
  ⟨0x4014, 1, 4, 0x7f, 0, 0, []⟩, -- LANE.TU_EVT_MASK
  ⟨0x4008, 1, 4, 0, 0, 0, []⟩, -- LANE.TU_PEFF
  ⟨0x400c, 1, 4, 0, 0, 0, []⟩, -- LANE.TU_ANN
  ⟨0x4018, 1, 4, 0, 0, 0, []⟩, -- LANE.TU_TXSEQ
  ⟨0x401c, 1, 4, 0, 0, 0, []⟩, -- LANE.TU_RXSEQ
  ⟨0x4020, 1, 4, 0xffffffff, 0, 0xffffffff, []⟩, -- LANE.TU_CRCEIL0
  ⟨0x4024, 1, 4, 0xffffffff, 0, 0xffffffff, []⟩, -- LANE.TU_CRCEIL1
  ⟨0x4028, 1, 4, 0, 0, 0, []⟩, -- LANE.TU_CRRX0
  ⟨0x402c, 1, 4, 0, 0, 0, []⟩, -- LANE.TU_CRRX1
  ⟨0x4030, 1, 4, 0, 0, 0, []⟩, -- LANE.TU_HCSFAIL
  ⟨0x4034, 1, 4, 0, 0, 0, []⟩, -- LANE.TU_SEQERR
  ⟨0x4038, 1, 4, 0, 0, 0, []⟩, -- LANE.TU_BADTYPE
  ⟨0x403c, 1, 4, 0, 0, 0, []⟩, -- LANE.TU_PKTBAD
  ⟨0x4040, 1, 4, 0, 0, 0, []⟩, -- LANE.TU_ORPHAN
  ⟨0x4044, 1, 4, 0, 0, 0, []⟩, -- LANE.TU_SLIPSEQ
  ⟨0x4050, 1, 4, 0xfff, 0, 0x200, [.clamp 8 4 1 8]⟩, -- LANE.TU_STR
  ⟨0x4054, 1, 4, 0, 0, 0, []⟩, -- LANE.TU_STRSTAT
  ⟨0x4058, 1, 4, 0, 0, 0, []⟩, -- LANE.TU_STRSEC
  ⟨0x405c, 1, 4, 0, 0, 0, []⟩, -- LANE.TU_STRBAD
  ⟨0x4060, 1, 4, 0, 0, 0, []⟩, -- LANE.TU_STRLATE
  ⟨0x6000, 1024, 4, 0xffffffff, 0, 0, []⟩, -- LANE.TU_MAP0
  ⟨0x7000, 1024, 4, 0xffffffff, 0, 0, []⟩, -- LANE.TU_MAP1
  ⟨0x8000, 1, 4, 0, 0, 2, []⟩] -- LANE.DEF_STAT

/-- The registers of the LANE page (R655, R670)., part 3 -/
def laneRegs3 : List RegDef := [
  ⟨0x8004, 1, 4, 0, 0x1fff, 0, []⟩, -- LANE.DEF_EVT
  ⟨0x8008, 1, 4, 0x1fff, 0, 0, []⟩, -- LANE.DEF_MASK
  ⟨0xc000, 1, 4, 0x1ff, 0, 0x146, [.clamp 0 4 3 12, .clamp 4 4 3 12]⟩, -- LANE.PM_CFG
  ⟨0xc004, 1, 4, 0, 0, 0, []⟩] -- LANE.PM_STAT

/-- The registers of the LANE page (R655, R670). -/
def laneRegs : List RegDef := laneRegs0 ++ laneRegs1 ++ laneRegs2 ++ laneRegs3

end Sys2Proof.Machine
end

