-- ==== Sys2Proof/Machine/Regs.lean ====
section
/-! DEFINITION. The names of the spec's registers and of their fields. A register of a single page is named by its
bus address, one of a lane page or of the common header by its offset in the page. -/

namespace Sys2Proof.Machine

/-! common header (R656) -/

abbrev Reg.hdrPageId : Nat := 0
def F.hdrPageIdPage : Field := ⟨0, 0, 8⟩
def F.hdrPageIdType : Field := ⟨0, 8, 8⟩
def F.hdrPageIdInst : Field := ⟨0, 16, 8⟩
abbrev Reg.hdrPageRev : Nat := 4
def F.hdrPageRevMinor : Field := ⟨4, 0, 8⟩
def F.hdrPageRevMajor : Field := ⟨4, 8, 8⟩
abbrev Reg.hdrCap : Nat := 8
def F.hdrCapPresent : Field := ⟨8, 0, 1⟩
def F.hdrCapHealthy : Field := ⟨8, 1, 1⟩
def F.hdrCapRetired : Field := ⟨8, 2, 1⟩
def F.hdrCapInTest : Field := ⟨8, 3, 1⟩
abbrev Reg.hdrReq : Nat := 0xc
def F.hdrReqState : Field := ⟨0xc, 0, 2⟩
abbrev Reg.hdrEff : Nat := 0x10
def F.hdrEffState : Field := ⟨0x10, 0, 2⟩
def F.hdrEffReason : Field := ⟨0x10, 4, 4⟩
abbrev Reg.hdrSkew : Nat := 0x14
def F.hdrSkewMs : Field := ⟨0x14, 0, 16⟩
def F.hdrSkewFlag : Field := ⟨0x14, 16, 1⟩
def F.hdrSkewSettle : Field := ⟨0x14, 24, 8⟩
abbrev Reg.hdrSticky : Nat := 0x18
def F.hdrStickyPageEvt : Field := ⟨0x18, 0, 16⟩
def F.hdrStickyEvtSum : Field := ⟨0x18, 16, 1⟩
def F.hdrStickyCapChg : Field := ⟨0x18, 17, 1⟩
def F.hdrStickySkew : Field := ⟨0x18, 18, 1⟩
def F.hdrStickyFault : Field := ⟨0x18, 19, 1⟩
def F.hdrStickyLedger : Field := ⟨0x18, 20, 1⟩
abbrev Reg.hdrMask : Nat := 0x1c
def F.hdrMaskPageEvt : Field := ⟨0x1c, 0, 16⟩
def F.hdrMaskEvtSum : Field := ⟨0x1c, 16, 1⟩
def F.hdrMaskCapChg : Field := ⟨0x1c, 17, 1⟩
def F.hdrMaskSkew : Field := ⟨0x1c, 18, 1⟩
def F.hdrMaskFault : Field := ⟨0x1c, 19, 1⟩
def F.hdrMaskLedger : Field := ⟨0x1c, 20, 1⟩
abbrev Reg.hdrLedger : Nat := 0x20
def F.hdrLedgerId : Field := ⟨0x20, 0, 28⟩
def F.hdrLedgerStep : Field := ⟨0x20, 28, 4⟩
abbrev Reg.hdrLedgerSt : Nat := 0x24
def F.hdrLedgerStState : Field := ⟨0x24, 0, 2⟩
def F.hdrLedgerStDoneSteps : Field := ⟨0x24, 4, 4⟩
abbrev Reg.hdrFault : Nat := 0x28
def F.hdrFaultTransient : Field := ⟨0x28, 0, 16⟩
def F.hdrFaultPerm : Field := ⟨0x28, 16, 1⟩

/-! DEV page (R46, R603, R652, R667, R669) -/

abbrev Reg.devCapGen : Nat := 0x100000100
def F.devCapGenGen : Field := ⟨0x100000100, 0, 32⟩
abbrev Reg.devCapUnit : Nat := 0x100000104
def F.devCapUnitLaneArray : Field := ⟨0x100000104, 0, 1⟩
def F.devCapUnitTiming : Field := ⟨0x100000104, 1, 1⟩
def F.devCapUnitLineProc : Field := ⟨0x100000104, 2, 1⟩
def F.devCapUnitContProc : Field := ⟨0x100000104, 3, 1⟩
def F.devCapUnitTustra : Field := ⟨0x100000104, 4, 1⟩
def F.devCapUnitGroomer : Field := ⟨0x100000104, 5, 1⟩
def F.devCapUnitFlow : Field := ⟨0x100000104, 6, 1⟩
def F.devCapUnitMonitor : Field := ⟨0x100000104, 7, 1⟩
def F.devCapUnitProtMate : Field := ⟨0x100000104, 8, 1⟩
def F.devCapUnitMemMtx : Field := ⟨0x100000104, 9, 1⟩
def F.devCapUnitMgmt : Field := ⟨0x100000104, 10, 1⟩
abbrev Reg.devCapPlane0 : Nat := 0x100000108
def F.devCapPlane0P : Field := ⟨0x100000108, 0, 32⟩
abbrev Reg.devCapPlane1 : Nat := 0x10000010c
def F.devCapPlane1P : Field := ⟨0x10000010c, 0, 32⟩
abbrev Reg.devCapPlane2 : Nat := 0x100000110
def F.devCapPlane2P : Field := ⟨0x100000110, 0, 32⟩
abbrev Reg.devCapMlane : Nat := 0x100000114
def F.devCapMlaneK : Field := ⟨0x100000114, 0, 8⟩
abbrev Reg.devCapHbm0 : Nat := 0x100000118
def F.devCapHbm0Pc : Field := ⟨0x100000118, 0, 32⟩
abbrev Reg.devCapHbm1 : Nat := 0x10000011c
def F.devCapHbm1Pc : Field := ⟨0x10000011c, 0, 32⟩
abbrev Reg.devCapFlow : Nat := 0x100000120
def F.devCapFlowSlice : Field := ⟨0x100000120, 0, 16⟩
abbrev Reg.devCapFport : Nat := 0x100000124
def F.devCapFportF : Field := ⟨0x100000124, 0, 8⟩
abbrev Reg.devBootctl : Nat := 0x100000180
def F.devBootctlRemap : Field := ⟨0x100000180, 0, 1⟩
abbrev Reg.devMode : Nat := 0x100000140
def F.devModeMode : Field := ⟨0x100000140, 0, 3⟩
def F.devModePrev : Field := ⟨0x100000140, 3, 3⟩
def F.devModeChanges : Field := ⟨0x100000140, 16, 16⟩
abbrev Reg.devModeReq : Nat := 0x100000144
def F.devModeReqReq : Field := ⟨0x100000144, 0, 3⟩
abbrev Reg.devModeCfg : Nat := 0x100000148
def F.devModeCfgPrepAis : Field := ⟨0x100000148, 0, 1⟩
abbrev Reg.devReset : Nat := 0x10000014c
def F.devResetWarm : Field := ⟨0x10000014c, 0, 1⟩
def F.devResetKey : Field := ⟨0x10000014c, 16, 16⟩
abbrev Reg.devResetStat : Nat := 0x100000150
def F.devResetStatLast : Field := ⟨0x100000150, 0, 2⟩
def F.devResetStatWarmCount : Field := ⟨0x100000150, 16, 16⟩
abbrev Reg.devFaultCfg : Nat := 0x100000154
def F.devFaultCfgLimit : Field := ⟨0x100000154, 0, 4⟩
def F.devFaultCfgWindow : Field := ⟨0x100000154, 4, 12⟩
abbrev Reg.devSum : Nat := 0x1000001c0
def F.devSumP : Field := ⟨0x1000001c0, 0, 32⟩
abbrev Reg.devIdent : Nat := 0x1000001a0
def F.devIdentPart : Field := ⟨0x1000001a0, 0, 16⟩
def F.devIdentSirev : Field := ⟨0x1000001a0, 16, 4⟩

/-! CLK page (02_lanes_and_timing.md) -/

abbrev Reg.clkRefsel : Nat := 0x100010100
def F.clkRefselMode : Field := ⟨0x100010100, 0, 2⟩
def F.clkRefselFreqA : Field := ⟨0x100010100, 2, 1⟩
def F.clkRefselFreqB : Field := ⟨0x100010100, 3, 1⟩
def F.clkRefselRevert : Field := ⟨0x100010100, 8, 5⟩
abbrev Reg.clkLossPolicy : Nat := 0x100010104
def F.clkLossPolicyPolicy : Field := ⟨0x100010104, 0, 1⟩
abbrev Reg.clkStatus : Nat := 0x100010108
def F.clkStatusLock : Field := ⟨0x100010108, 0, 1⟩
def F.clkStatusActiveRef : Field := ⟨0x100010108, 1, 1⟩
def F.clkStatusAOk : Field := ⟨0x100010108, 2, 1⟩
def F.clkStatusBOk : Field := ⟨0x100010108, 3, 1⟩
def F.clkStatusRootValid : Field := ⟨0x100010108, 4, 1⟩
def F.clkStatusHold : Field := ⟨0x100010108, 5, 1⟩
def F.clkStatusSafehold : Field := ⟨0x100010108, 6, 1⟩
def F.clkStatusSwitches : Field := ⟨0x100010108, 16, 16⟩
abbrev Reg.clkCoast : Nat := 0x10001010c
def F.clkCoastActive : Field := ⟨0x10001010c, 0, 1⟩
def F.clkCoastEntries : Field := ⟨0x10001010c, 16, 16⟩
abbrev Reg.clkTbLo : Nat := 0x100010110
def F.clkTbLoTb : Field := ⟨0x100010110, 0, 32⟩
abbrev Reg.clkTbHi : Nat := 0x100010114
def F.clkTbHiTb : Field := ⟨0x100010114, 0, 31⟩
def F.clkTbHiValid : Field := ⟨0x100010114, 31, 1⟩
abbrev Reg.clkLrc : Nat := 0x100010120
def F.clkLrcLane : Field := ⟨0x100010120, 0, 7⟩
def F.clkLrcEn : Field := ⟨0x100010120, 9, 1⟩
def F.clkLrcSquelched : Field := ⟨0x100010120, 10, 1⟩
abbrev Reg.clkFpcfg : Nat := 0x100010130
def F.clkFpcfgFp8kEn : Field := ⟨0x100010130, 0, 1⟩
def F.clkFpcfgMf2kEn : Field := ⟨0x100010130, 1, 1⟩

/-! MTX page (R534) -/

abbrev Reg.mtxAbortInfo : Nat := 0x100020100
def F.mtxAbortInfoMaster : Field := ⟨0x100020100, 0, 3⟩
def F.mtxAbortInfoWrite : Field := ⟨0x100020100, 3, 1⟩
def F.mtxAbortInfoMore : Field := ⟨0x100020100, 4, 1⟩
def F.mtxAbortInfoBeats : Field := ⟨0x100020100, 8, 10⟩
def F.mtxAbortInfoValid : Field := ⟨0x100020100, 18, 1⟩
abbrev Reg.mtxAbortAddrLo : Nat := 0x100020104
def F.mtxAbortAddrLoAddr : Field := ⟨0x100020104, 0, 32⟩
abbrev Reg.mtxAbortAddrHi : Nat := 0x100020108
def F.mtxAbortAddrHiAddr : Field := ⟨0x100020108, 0, 8⟩
abbrev Reg.mtxAbortCount : Nat := 0x10002010c
def F.mtxAbortCountCount : Field := ⟨0x10002010c, 0, 32⟩
abbrev Reg.mtxDecerrInfo : Nat := 0x100020110
def F.mtxDecerrInfoMaster : Field := ⟨0x100020110, 0, 3⟩
def F.mtxDecerrInfoWrite : Field := ⟨0x100020110, 3, 1⟩
abbrev Reg.mtxDecerrAddrLo : Nat := 0x100020114
def F.mtxDecerrAddrLoAddr : Field := ⟨0x100020114, 0, 32⟩
abbrev Reg.mtxDecerrAddrHi : Nat := 0x100020118
def F.mtxDecerrAddrHiAddr : Field := ⟨0x100020118, 0, 8⟩
abbrev Reg.mtxDecerrCount : Nat := 0x10002011c
def F.mtxDecerrCountCount : Field := ⟨0x10002011c, 0, 32⟩
abbrev Reg.mtxStuck : Nat := 0x100020120
def F.mtxStuckCount : Field := ⟨0x100020120, 0, 32⟩
abbrev Reg.mtxAged : Nat := 0x100020124
def F.mtxAgedCount : Field := ⟨0x100020124, 0, 32⟩
abbrev Reg.mtxUpermR : Nat := 0x100020140
def F.mtxUpermRP : Field := ⟨0x100020140, 0, 32⟩
abbrev Reg.mtxUpermW : Nat := 0x100020150
def F.mtxUpermWP : Field := ⟨0x100020150, 0, 32⟩
abbrev Reg.mtxUwin : Nat := 0x100020160
def F.mtxUwinWinR : Field := ⟨0x100020160, 0, 7⟩
def F.mtxUwinWinW : Field := ⟨0x100020160, 8, 7⟩
def F.mtxUwinHbmR : Field := ⟨0x100020160, 16, 9⟩
abbrev Reg.mtxEvt : Nat := 0x100020130
def F.mtxEvtAbort : Field := ⟨0x100020130, 0, 1⟩
def F.mtxEvtDecerr : Field := ⟨0x100020130, 1, 1⟩
def F.mtxEvtStuck : Field := ⟨0x100020130, 2, 1⟩
def F.mtxEvtPerm : Field := ⟨0x100020130, 3, 1⟩
abbrev Reg.mtxEvtMask : Nat := 0x100020134
def F.mtxEvtMaskAbort : Field := ⟨0x100020134, 0, 1⟩
def F.mtxEvtMaskDecerr : Field := ⟨0x100020134, 1, 1⟩
def F.mtxEvtMaskStuck : Field := ⟨0x100020134, 2, 1⟩
def F.mtxEvtMaskPerm : Field := ⟨0x100020134, 3, 1⟩

/-! MEM page (R532) -/

abbrev Reg.memCfg : Nat := 0x100030100
def F.memCfgScrubEn : Field := ⟨0x100030100, 0, 1⟩
abbrev Reg.memStat : Nat := 0x100030104
def F.memStatSpareFree : Field := ⟨0x100030104, 0, 11⟩
def F.memStatCopying : Field := ⟨0x100030104, 11, 1⟩
abbrev Reg.memCe : Nat := 0x100030108
def F.memCeCount : Field := ⟨0x100030108, 0, 32⟩
abbrev Reg.memUe : Nat := 0x10003010c
def F.memUeCount : Field := ⟨0x10003010c, 0, 32⟩
abbrev Reg.memScrubPass : Nat := 0x100030110
def F.memScrubPassCount : Field := ⟨0x100030110, 0, 32⟩
abbrev Reg.memLastErr : Nat := 0x100030114
def F.memLastErrSubbank : Field := ⟨0x100030114, 0, 16⟩
def F.memLastErrWord : Field := ⟨0x100030114, 16, 9⟩
def F.memLastErrUe : Field := ⟨0x100030114, 25, 1⟩
abbrev Reg.memRetLast : Nat := 0x100030118
def F.memRetLastRetired : Field := ⟨0x100030118, 0, 16⟩
def F.memRetLastSpare : Field := ⟨0x100030118, 16, 16⟩
abbrev Reg.memRetCount : Nat := 0x10003011c
def F.memRetCountCount : Field := ⟨0x10003011c, 0, 11⟩
abbrev Reg.memEvt : Nat := 0x100030120
def F.memEvtCe : Field := ⟨0x100030120, 0, 1⟩
def F.memEvtUe : Field := ⟨0x100030120, 1, 1⟩
def F.memEvtRetire : Field := ⟨0x100030120, 2, 1⟩
def F.memEvtSpareOut : Field := ⟨0x100030120, 3, 1⟩
abbrev Reg.memEvtMask : Nat := 0x100030124
def F.memEvtMaskCe : Field := ⟨0x100030124, 0, 1⟩
def F.memEvtMaskUe : Field := ⟨0x100030124, 1, 1⟩
def F.memEvtMaskRetire : Field := ⟨0x100030124, 2, 1⟩
def F.memEvtMaskSpareOut : Field := ⟨0x100030124, 3, 1⟩

/-! HBM page (R533) -/

abbrev Reg.hbmStat : Nat := 0x100040100
def F.hbmStatTrained0 : Field := ⟨0x100040100, 0, 1⟩
def F.hbmStatTrained1 : Field := ⟨0x100040100, 1, 1⟩
def F.hbmStatReserveFree : Field := ⟨0x100040100, 8, 5⟩
abbrev Reg.hbmCfg : Nat := 0x100040104
def F.hbmCfgScrubEn : Field := ⟨0x100040104, 0, 1⟩
abbrev Reg.hbmCe : Nat := 0x100040108
def F.hbmCeCount : Field := ⟨0x100040108, 0, 32⟩
abbrev Reg.hbmRetry : Nat := 0x10004010c
def F.hbmRetryCount : Field := ⟨0x10004010c, 0, 32⟩
abbrev Reg.hbmUe : Nat := 0x100040110
def F.hbmUeCount : Field := ⟨0x100040110, 0, 32⟩
abbrev Reg.hbmLastErrLo : Nat := 0x100040114
def F.hbmLastErrLoAddr : Field := ⟨0x100040114, 0, 32⟩
abbrev Reg.hbmLastErrHi : Nat := 0x100040118
def F.hbmLastErrHiAddr : Field := ⟨0x100040118, 0, 8⟩
def F.hbmLastErrHiPc : Field := ⟨0x100040118, 8, 6⟩
def F.hbmLastErrHiUe : Field := ⟨0x100040118, 14, 1⟩
abbrev Reg.hbmTemp : Nat := 0x10004011c
def F.hbmTempStack0 : Field := ⟨0x10004011c, 0, 8⟩
def F.hbmTempStack1 : Field := ⟨0x10004011c, 8, 8⟩
abbrev Reg.hbmPcRet0 : Nat := 0x100040128
def F.hbmPcRet0Pc : Field := ⟨0x100040128, 0, 32⟩
abbrev Reg.hbmPcRet1 : Nat := 0x10004012c
def F.hbmPcRet1Pc : Field := ⟨0x10004012c, 0, 32⟩
abbrev Reg.hbmUnit : Nat := 0x100040200
def F.hbmUnitPc : Field := ⟨0x100040200, 0, 6⟩
def F.hbmUnitBacked : Field := ⟨0x100040200, 6, 1⟩
abbrev Reg.hbmEvt : Nat := 0x100040120
def F.hbmEvtCe : Field := ⟨0x100040120, 0, 1⟩
def F.hbmEvtUe : Field := ⟨0x100040120, 1, 1⟩
def F.hbmEvtRetire : Field := ⟨0x100040120, 2, 1⟩
def F.hbmEvtLost : Field := ⟨0x100040120, 3, 1⟩
def F.hbmEvtTrainFail : Field := ⟨0x100040120, 4, 1⟩
abbrev Reg.hbmEvtMask : Nat := 0x100040124
def F.hbmEvtMaskCe : Field := ⟨0x100040124, 0, 1⟩
def F.hbmEvtMaskUe : Field := ⟨0x100040124, 1, 1⟩
def F.hbmEvtMaskRetire : Field := ⟨0x100040124, 2, 1⟩
def F.hbmEvtMaskLost : Field := ⟨0x100040124, 3, 1⟩
def F.hbmEvtMaskTrainFail : Field := ⟨0x100040124, 4, 1⟩

/-! HCP page (R562) -/

abbrev Reg.hcpCfg : Nat := 0x100050100
def F.hcpCfgAttnEn : Field := ⟨0x100050100, 0, 1⟩
def F.hcpCfgPostEn : Field := ⟨0x100050100, 1, 1⟩
abbrev Reg.hcpLast : Nat := 0x100050104
def F.hcpLastCmd : Field := ⟨0x100050104, 0, 8⟩
def F.hcpLastStatus : Field := ⟨0x100050104, 8, 4⟩
def F.hcpLastCause : Field := ⟨0x100050104, 12, 4⟩
def F.hcpLastCount : Field := ⟨0x100050104, 16, 13⟩
abbrev Reg.hcpPostStat : Nat := 0x100050110
def F.hcpPostStatStatus : Field := ⟨0x100050110, 0, 4⟩
def F.hcpPostStatCause : Field := ⟨0x100050110, 4, 4⟩
def F.hcpPostStatCount : Field := ⟨0x100050110, 8, 13⟩
def F.hcpPostStatMore : Field := ⟨0x100050110, 21, 1⟩
def F.hcpPostStatValid : Field := ⟨0x100050110, 22, 1⟩
abbrev Reg.hcpLastAddrLo : Nat := 0x100050108
def F.hcpLastAddrLoAddr : Field := ⟨0x100050108, 0, 32⟩
abbrev Reg.hcpLastAddrHi : Nat := 0x10005010c
def F.hcpLastAddrHiAddr : Field := ⟨0x10005010c, 0, 8⟩
abbrev Reg.hcpPostAddrLo : Nat := 0x100050114
def F.hcpPostAddrLoAddr : Field := ⟨0x100050114, 0, 32⟩
abbrev Reg.hcpPostAddrHi : Nat := 0x100050118
def F.hcpPostAddrHiAddr : Field := ⟨0x100050118, 0, 8⟩
abbrev Reg.hcpPostDone : Nat := 0x10005011c
def F.hcpPostDoneCount : Field := ⟨0x10005011c, 0, 32⟩
abbrev Reg.hcpPostPend : Nat := 0x100050120
def F.hcpPostPendCount : Field := ⟨0x100050120, 0, 2⟩
abbrev Reg.hcpHdrErr : Nat := 0x100050124
def F.hcpHdrErrCount : Field := ⟨0x100050124, 0, 32⟩
abbrev Reg.hcpDataCrc : Nat := 0x100050128
def F.hcpDataCrcCount : Field := ⟨0x100050128, 0, 32⟩
abbrev Reg.hcpAborts : Nat := 0x10005012c
def F.hcpAbortsCount : Field := ⟨0x10005012c, 0, 32⟩
abbrev Reg.hcpEvt : Nat := 0x100050130
def F.hcpEvtHdrErr : Field := ⟨0x100050130, 0, 1⟩
def F.hcpEvtDataCrc : Field := ⟨0x100050130, 1, 1⟩
def F.hcpEvtPortReset : Field := ⟨0x100050130, 2, 1⟩
def F.hcpEvtPostErr : Field := ⟨0x100050130, 3, 1⟩
def F.hcpEvtSsLong : Field := ⟨0x100050130, 4, 1⟩
abbrev Reg.hcpEvtMask : Nat := 0x100050134
def F.hcpEvtMaskHdrErr : Field := ⟨0x100050134, 0, 1⟩
def F.hcpEvtMaskDataCrc : Field := ⟨0x100050134, 1, 1⟩
def F.hcpEvtMaskPortReset : Field := ⟨0x100050134, 2, 1⟩
def F.hcpEvtMaskPostErr : Field := ⟨0x100050134, 3, 1⟩
def F.hcpEvtMaskSsLong : Field := ⟨0x100050134, 4, 1⟩

/-! MGT page (R604) -/

abbrev Reg.mgtCtrl : Nat := 0x100060100
def F.mgtCtrlRestart : Field := ⟨0x100060100, 0, 1⟩
def F.mgtCtrlRecoverGo : Field := ⟨0x100060100, 1, 1⟩
abbrev Reg.mgtBootStat : Nat := 0x100060104
def F.mgtBootStatState : Field := ⟨0x100060104, 0, 2⟩
def F.mgtBootStatSlot : Field := ⟨0x100060104, 2, 1⟩
def F.mgtBootStatRecovered : Field := ⟨0x100060104, 3, 1⟩
def F.mgtBootStatCause : Field := ⟨0x100060104, 4, 3⟩
def F.mgtBootStatStateA : Field := ⟨0x100060104, 8, 3⟩
def F.mgtBootStatStateB : Field := ⟨0x100060104, 11, 3⟩
def F.mgtBootStatStarts : Field := ⟨0x100060104, 16, 16⟩
abbrev Reg.mgtFwCmd : Nat := 0x100060108
def F.mgtFwCmdOp : Field := ⟨0x100060108, 0, 3⟩
def F.mgtFwCmdSlot : Field := ⟨0x100060108, 3, 1⟩
abbrev Reg.mgtFwStat : Nat := 0x10006010c
def F.mgtFwStatOp : Field := ⟨0x10006010c, 0, 3⟩
def F.mgtFwStatResult : Field := ⟨0x10006010c, 3, 4⟩
def F.mgtFwStatFusePend : Field := ⟨0x10006010c, 7, 1⟩
def F.mgtFwStatProgress : Field := ⟨0x10006010c, 8, 7⟩
abbrev Reg.mgtFwVer : Nat := 0x100060110
def F.mgtFwVerVersion : Field := ⟨0x100060110, 0, 32⟩
abbrev Reg.mgtHealth : Nat := 0x100060114
def F.mgtHealthOk : Field := ⟨0x100060114, 0, 1⟩
def F.mgtHealthTrial : Field := ⟨0x100060114, 1, 1⟩
abbrev Reg.mgtWdog : Nat := 0x100060118
def F.mgtWdogEn : Field := ⟨0x100060118, 0, 1⟩
def F.mgtWdogTimeout : Field := ⟨0x100060118, 1, 6⟩
def F.mgtWdogKick : Field := ⟨0x100060118, 7, 1⟩
abbrev Reg.mgtHbmWin : Nat := 0x10006011c
def F.mgtHbmWinWin : Field := ⟨0x10006011c, 0, 5⟩
abbrev Reg.mgtLogSeq : Nat := 0x100060120
def F.mgtLogSeqSeq : Field := ⟨0x100060120, 0, 32⟩
abbrev Reg.mgtLogBaseLo : Nat := 0x100060124
def F.mgtLogBaseLoBase : Field := ⟨0x100060124, 0, 32⟩
abbrev Reg.mgtLogBaseHi : Nat := 0x100060128
def F.mgtLogBaseHiBase : Field := ⟨0x100060128, 0, 8⟩
abbrev Reg.mgtTalarm : Nat := 0x10006012c
def F.mgtTalarmLimit : Field := ⟨0x10006012c, 0, 10⟩
def F.mgtTalarmActive : Field := ⟨0x10006012c, 10, 1⟩
abbrev Reg.mgtRomVer : Nat := 0x100060138
def F.mgtRomVerVersion : Field := ⟨0x100060138, 0, 32⟩
abbrev Reg.mgtTemp : Nat := 0x100060200
def F.mgtTempTemp : Field := ⟨0x100060200, 0, 10⟩
def F.mgtTempMax : Field := ⟨0x100060200, 16, 10⟩
abbrev Reg.mgtVolt : Nat := 0x100060220
def F.mgtVoltMv : Field := ⟨0x100060220, 0, 12⟩
def F.mgtVoltMin : Field := ⟨0x100060220, 16, 12⟩
abbrev Reg.mgtSlack : Nat := 0x100060240
def F.mgtSlackPct : Field := ⟨0x100060240, 0, 8⟩
def F.mgtSlackMin : Field := ⟨0x100060240, 8, 8⟩
abbrev Reg.mgtEvt : Nat := 0x100060130
def F.mgtEvtFwDone : Field := ⟨0x100060130, 0, 1⟩
def F.mgtEvtBoot : Field := ⟨0x100060130, 1, 1⟩
def F.mgtEvtFallback : Field := ⟨0x100060130, 2, 1⟩
def F.mgtEvtWdog : Field := ⟨0x100060130, 3, 1⟩
def F.mgtEvtTalarm : Field := ⟨0x100060130, 4, 1⟩
def F.mgtEvtRecovery : Field := ⟨0x100060130, 5, 1⟩
abbrev Reg.mgtEvtMask : Nat := 0x100060134
def F.mgtEvtMaskFwDone : Field := ⟨0x100060134, 0, 1⟩
def F.mgtEvtMaskBoot : Field := ⟨0x100060134, 1, 1⟩
def F.mgtEvtMaskFallback : Field := ⟨0x100060134, 2, 1⟩
def F.mgtEvtMaskWdog : Field := ⟨0x100060134, 3, 1⟩
def F.mgtEvtMaskTalarm : Field := ⟨0x100060134, 4, 1⟩
def F.mgtEvtMaskRecovery : Field := ⟨0x100060134, 5, 1⟩

/-! SEC page (R605) -/

abbrev Reg.secLc : Nat := 0x100070100
def F.secLcState : Field := ⟨0x100070100, 0, 3⟩
def F.secLcCustKey : Field := ⟨0x100070100, 3, 1⟩
def F.secLcDbgMax : Field := ⟨0x100070100, 4, 2⟩
def F.secLcRbCount : Field := ⟨0x100070100, 16, 8⟩
abbrev Reg.secDbg : Nat := 0x100070104
def F.secDbgReq : Field := ⟨0x100070104, 0, 2⟩
def F.secDbgEff : Field := ⟨0x100070104, 2, 2⟩
abbrev Reg.secCmd : Nat := 0x100070108
def F.secCmdOp : Field := ⟨0x100070108, 0, 4⟩
abbrev Reg.secCmdStat : Nat := 0x10007010c
def F.secCmdStatOp : Field := ⟨0x10007010c, 0, 4⟩
def F.secCmdStatResult : Field := ⟨0x10007010c, 4, 4⟩
def F.secCmdStatBusy : Field := ⟨0x10007010c, 8, 1⟩
abbrev Reg.secDevid : Nat := 0x100070110
def F.secDevidId : Field := ⟨0x100070110, 0, 32⟩
abbrev Reg.secNonce : Nat := 0x100070120
def F.secNonceNonce : Field := ⟨0x100070120, 0, 32⟩
abbrev Reg.secMeas : Nat := 0x100070140
def F.secMeasMeas : Field := ⟨0x100070140, 0, 32⟩
abbrev Reg.secEvt : Nat := 0x100070160
def F.secEvtCmdDone : Field := ⟨0x100070160, 0, 1⟩
def F.secEvtLcChg : Field := ⟨0x100070160, 1, 1⟩
def F.secEvtDbgChg : Field := ⟨0x100070160, 2, 1⟩
def F.secEvtFuse : Field := ⟨0x100070160, 3, 1⟩
abbrev Reg.secEvtMask : Nat := 0x100070164
def F.secEvtMaskMask : Field := ⟨0x100070164, 0, 4⟩
abbrev Reg.secBuf : Nat := 0x100070200

/-! PNL page (R625) -/

abbrev Reg.pnlKfun : Nat := 0x100080140
def F.pnlKfunFunc : Field := ⟨0x100080140, 0, 3⟩
def F.pnlKfunSncp : Field := ⟨0x100080140, 3, 1⟩
def F.pnlKfunTarget : Field := ⟨0x100080140, 4, 18⟩
def F.pnlKfunChannel : Field := ⟨0x100080140, 22, 4⟩
def F.pnlKfunPair : Field := ⟨0x100080140, 26, 5⟩
abbrev Reg.pnlEvt : Nat := 0x100080114
def F.pnlEvtPress : Field := ⟨0x100080114, 0, 1⟩
def F.pnlEvtStuck : Field := ⟨0x100080114, 1, 1⟩
def F.pnlEvtAco : Field := ⟨0x100080114, 2, 1⟩
def F.pnlEvtPresChg : Field := ⟨0x100080114, 3, 1⟩
def F.pnlEvtMbDone : Field := ⟨0x100080114, 4, 1⟩
def F.pnlEvtDropped : Field := ⟨0x100080114, 5, 1⟩
abbrev Reg.pnlEvtMask : Nat := 0x100080118
def F.pnlEvtMaskPress : Field := ⟨0x100080118, 0, 1⟩
def F.pnlEvtMaskStuck : Field := ⟨0x100080118, 1, 1⟩
def F.pnlEvtMaskAco : Field := ⟨0x100080118, 2, 1⟩
def F.pnlEvtMaskPresChg : Field := ⟨0x100080118, 3, 1⟩
def F.pnlEvtMaskMbDone : Field := ⟨0x100080118, 4, 1⟩
def F.pnlEvtMaskDropped : Field := ⟨0x100080118, 5, 1⟩
abbrev Reg.pnlCfg : Nat := 0x100080100
def F.pnlCfgScanEn : Field := ⟨0x100080100, 0, 1⟩
def F.pnlCfgKeys : Field := ⟨0x100080100, 1, 5⟩
def F.pnlCfgLedLen : Field := ⟨0x100080100, 6, 9⟩
def F.pnlCfgTchEn : Field := ⟨0x100080100, 16, 4⟩
abbrev Reg.pnlCtrl : Nat := 0x100080104
def F.pnlCtrlLamp : Field := ⟨0x100080104, 0, 1⟩
def F.pnlCtrlAcoClr : Field := ⟨0x100080104, 1, 1⟩
abbrev Reg.pnlStat : Nat := 0x100080108
def F.pnlStatLampAct : Field := ⟨0x100080108, 0, 1⟩
def F.pnlStatAco : Field := ⟨0x100080108, 1, 1⟩
def F.pnlStatAcoQueued : Field := ⟨0x100080108, 2, 1⟩
abbrev Reg.pnlKeystat : Nat := 0x10008010c
def F.pnlKeystatHeld : Field := ⟨0x10008010c, 0, 20⟩
abbrev Reg.pnlStuck : Nat := 0x100080110
def F.pnlStuckStuck : Field := ⟨0x100080110, 0, 20⟩
abbrev Reg.pnlPress : Nat := 0x10008011c
def F.pnlPressPress : Field := ⟨0x10008011c, 0, 20⟩
abbrev Reg.pnlTchCfg : Nat := 0x100080190
def F.pnlTchCfgThr : Field := ⟨0x100080190, 0, 12⟩
abbrev Reg.pnlTch : Nat := 0x1000801a0
def F.pnlTchCount : Field := ⟨0x1000801a0, 0, 16⟩
def F.pnlTchBase : Field := ⟨0x1000801a0, 16, 16⟩
abbrev Reg.pnlPres : Nat := 0x1000801c0
def F.pnlPresP : Field := ⟨0x1000801c0, 0, 32⟩
abbrev Reg.pnlPresUse : Nat := 0x1000801d0
def F.pnlPresUseU : Field := ⟨0x1000801d0, 0, 32⟩
abbrev Reg.pnlPresChg : Nat := 0x1000801e0
def F.pnlPresChgC : Field := ⟨0x1000801e0, 0, 32⟩
abbrev Reg.pnlLed : Nat := 0x100080200
def F.pnlLedM15M0 : Field := ⟨0x100080200, 0, 32⟩
abbrev Reg.pnlMbCfg : Nat := 0x100080300
def F.pnlMbCfgFast : Field := ⟨0x100080300, 0, 1⟩
abbrev Reg.pnlMbCmd : Nat := 0x100080304
def F.pnlMbCmdAddr : Field := ⟨0x100080304, 0, 7⟩
def F.pnlMbCmdWrite : Field := ⟨0x100080304, 7, 1⟩
def F.pnlMbCmdOffset : Field := ⟨0x100080304, 8, 8⟩
def F.pnlMbCmdLen : Field := ⟨0x100080304, 16, 5⟩
def F.pnlMbCmdGo : Field := ⟨0x100080304, 21, 1⟩
abbrev Reg.pnlMbStat : Nat := 0x100080308
def F.pnlMbStatBusy : Field := ⟨0x100080308, 0, 1⟩
def F.pnlMbStatResult : Field := ⟨0x100080308, 1, 3⟩
def F.pnlMbStatDone : Field := ⟨0x100080308, 4, 5⟩
abbrev Reg.pnlMbData : Nat := 0x100080310
def F.pnlMbDataD : Field := ⟨0x100080310, 0, 32⟩

/-! PWR page (R653) -/

abbrev Reg.pwrCfg : Nat := 0x100090100
def F.pwrCfgFloor : Field := ⟨0x100090100, 0, 3⟩
def F.pwrCfgShedClass : Field := ⟨0x100090100, 4, 3⟩
abbrev Reg.pwrStat : Nat := 0x100090104
def F.pwrStatLevel : Field := ⟨0x100090104, 0, 3⟩
def F.pwrStatCause : Field := ⟨0x100090104, 3, 2⟩
def F.pwrStatMonitor : Field := ⟨0x100090104, 5, 4⟩
def F.pwrStatMinSlack : Field := ⟨0x100090104, 16, 8⟩
abbrev Reg.pwrHyst : Nat := 0x100090108
def F.pwrHystSlack : Field := ⟨0x100090108, 0, 4⟩
def F.pwrHystVolt : Field := ⟨0x100090108, 8, 8⟩
def F.pwrHystDwell : Field := ⟨0x100090108, 16, 12⟩
abbrev Reg.pwrThr : Nat := 0x100090110
def F.pwrThrSlack : Field := ⟨0x100090110, 0, 7⟩
def F.pwrThrVmin : Field := ⟨0x100090110, 8, 12⟩
abbrev Reg.pwrEntries : Nat := 0x100090128
def F.pwrEntriesE4E1 : Field := ⟨0x100090128, 0, 32⟩
abbrev Reg.pwrEvt : Nat := 0x100090120
def F.pwrEvtUp : Field := ⟨0x100090120, 0, 1⟩
def F.pwrEvtDown : Field := ⟨0x100090120, 1, 1⟩
def F.pwrEvtSafehold : Field := ⟨0x100090120, 2, 1⟩
abbrev Reg.pwrEvtMask : Nat := 0x100090124
def F.pwrEvtMaskUp : Field := ⟨0x100090124, 0, 1⟩
def F.pwrEvtMaskDown : Field := ⟨0x100090124, 1, 1⟩
def F.pwrEvtMaskSafehold : Field := ⟨0x100090124, 2, 1⟩

/-! MATE page (R501) -/

abbrev Reg.mateCfg : Nat := 0x1000a0100
def F.mateCfgEn : Field := ⟨0x1000a0100, 0, 1⟩
def F.mateCfgSuspectAct : Field := ⟨0x1000a0100, 1, 1⟩
def F.mateCfgLocalWr : Field := ⟨0x1000a0100, 2, 1⟩
def F.mateCfgCoastHand : Field := ⟨0x1000a0100, 3, 1⟩
def F.mateCfgLanes : Field := ⟨0x1000a0100, 8, 8⟩
abbrev Reg.mateCmd : Nat := 0x1000a0104
def F.mateCmdOp : Field := ⟨0x1000a0104, 0, 4⟩
abbrev Reg.mateCmdStat : Nat := 0x1000a0108
def F.mateCmdStatOp : Field := ⟨0x1000a0108, 0, 4⟩
def F.mateCmdStatResult : Field := ⟨0x1000a0108, 4, 2⟩
abbrev Reg.mateStat : Nat := 0x1000a010c
def F.mateStatRole : Field := ⟨0x1000a010c, 0, 2⟩
def F.mateStatSlot : Field := ⟨0x1000a010c, 2, 1⟩
def F.mateStatLid0 : Field := ⟨0x1000a010c, 3, 1⟩
def F.mateStatLid1 : Field := ⟨0x1000a010c, 4, 1⟩
def F.mateStatHbLane : Field := ⟨0x1000a010c, 5, 1⟩
def F.mateStatHbSide : Field := ⟨0x1000a010c, 6, 1⟩
def F.mateStatMateLost : Field := ⟨0x1000a010c, 7, 1⟩
def F.mateStatDegraded : Field := ⟨0x1000a010c, 8, 1⟩
def F.mateStatIsolated : Field := ⟨0x1000a010c, 9, 1⟩
def F.mateStatDisagree : Field := ⟨0x1000a010c, 10, 1⟩
def F.mateStatSuspect : Field := ⟨0x1000a010c, 11, 1⟩
def F.mateStatInterlock : Field := ⟨0x1000a010c, 12, 1⟩
def F.mateStatLidDrv : Field := ⟨0x1000a010c, 13, 1⟩
def F.mateStatSlotConf : Field := ⟨0x1000a010c, 14, 1⟩
def F.mateStatPhaseErr : Field := ⟨0x1000a010c, 15, 1⟩
def F.mateStatMateRole : Field := ⟨0x1000a010c, 16, 2⟩
def F.mateStatMateSuspect : Field := ⟨0x1000a010c, 18, 1⟩
def F.mateStatDigPart : Field := ⟨0x1000a010c, 19, 1⟩
def F.mateStatSnapPart : Field := ⟨0x1000a010c, 20, 1⟩
def F.mateStatRejoinStep : Field := ⟨0x1000a010c, 21, 3⟩
abbrev Reg.mateEvt : Nat := 0x1000a0110
def F.mateEvtRoleChg : Field := ⟨0x1000a0110, 0, 1⟩
def F.mateEvtMateLost : Field := ⟨0x1000a0110, 1, 1⟩
def F.mateEvtDegraded : Field := ⟨0x1000a0110, 2, 1⟩
def F.mateEvtIsolated : Field := ⟨0x1000a0110, 3, 1⟩
def F.mateEvtDisagree : Field := ⟨0x1000a0110, 4, 1⟩
def F.mateEvtSuspect : Field := ⟨0x1000a0110, 5, 1⟩
def F.mateEvtInterlock : Field := ⟨0x1000a0110, 6, 1⟩
def F.mateEvtSelfchkDone : Field := ⟨0x1000a0110, 7, 1⟩
def F.mateEvtCmtMiss : Field := ⟨0x1000a0110, 8, 1⟩
def F.mateEvtEpochFail : Field := ⟨0x1000a0110, 9, 1⟩
def F.mateEvtApplyErr : Field := ⟨0x1000a0110, 10, 1⟩
def F.mateEvtWiring : Field := ⟨0x1000a0110, 11, 1⟩
def F.mateEvtSlotConf : Field := ⟨0x1000a0110, 12, 1⟩
def F.mateEvtPhaseErr : Field := ⟨0x1000a0110, 13, 1⟩
abbrev Reg.mateEvtMask : Nat := 0x1000a0114
def F.mateEvtMaskRoleChg : Field := ⟨0x1000a0114, 0, 1⟩
def F.mateEvtMaskMateLost : Field := ⟨0x1000a0114, 1, 1⟩
def F.mateEvtMaskDegraded : Field := ⟨0x1000a0114, 2, 1⟩
def F.mateEvtMaskIsolated : Field := ⟨0x1000a0114, 3, 1⟩
def F.mateEvtMaskDisagree : Field := ⟨0x1000a0114, 4, 1⟩
def F.mateEvtMaskSuspect : Field := ⟨0x1000a0114, 5, 1⟩
def F.mateEvtMaskInterlock : Field := ⟨0x1000a0114, 6, 1⟩
def F.mateEvtMaskSelfchkDone : Field := ⟨0x1000a0114, 7, 1⟩
def F.mateEvtMaskCmtMiss : Field := ⟨0x1000a0114, 8, 1⟩
def F.mateEvtMaskEpochFail : Field := ⟨0x1000a0114, 9, 1⟩
def F.mateEvtMaskApplyErr : Field := ⟨0x1000a0114, 10, 1⟩
def F.mateEvtMaskWiring : Field := ⟨0x1000a0114, 11, 1⟩
def F.mateEvtMaskSlotConf : Field := ⟨0x1000a0114, 12, 1⟩
def F.mateEvtMaskPhaseErr : Field := ⟨0x1000a0114, 13, 1⟩
abbrev Reg.mateCurEpoch : Nat := 0x1000a0118
def F.mateCurEpochEpoch : Field := ⟨0x1000a0118, 0, 32⟩
abbrev Reg.mateAckEpoch : Nat := 0x1000a011c
def F.mateAckEpochEpoch : Field := ⟨0x1000a011c, 0, 32⟩
abbrev Reg.mateLastEpoch : Nat := 0x1000a0120
def F.mateLastEpochEpoch : Field := ⟨0x1000a0120, 0, 32⟩
abbrev Reg.mateSelfchk : Nat := 0x1000a0124
def F.mateSelfchkLocal : Field := ⟨0x1000a0124, 0, 2⟩
def F.mateSelfchkMate : Field := ⟨0x1000a0124, 2, 2⟩
def F.mateSelfchkFail : Field := ⟨0x1000a0124, 4, 3⟩
def F.mateSelfchkVerifyPend : Field := ⟨0x1000a0124, 7, 1⟩
abbrev Reg.mateDigMismatch : Nat := 0x1000a0128
def F.mateDigMismatchCount : Field := ⟨0x1000a0128, 0, 32⟩
abbrev Reg.mateDigMiss : Nat := 0x1000a012c
def F.mateDigMissCount : Field := ⟨0x1000a012c, 0, 32⟩
abbrev Reg.mateDigLast : Nat := 0x1000a0130
def F.mateDigLastIndex : Field := ⟨0x1000a0130, 0, 20⟩
def F.mateDigLastLo : Field := ⟨0x1000a0130, 20, 1⟩
abbrev Reg.matePhase : Nat := 0x1000a0134
def F.matePhaseNs : Field := ⟨0x1000a0134, 0, 16⟩
abbrev Reg.mateDelay : Nat := 0x1000a0138
def F.mateDelayNs : Field := ⟨0x1000a0138, 0, 16⟩
abbrev Reg.mateTakeovers : Nat := 0x1000a013c
def F.mateTakeoversCount : Field := ⟨0x1000a013c, 0, 32⟩
abbrev Reg.mateCollide : Nat := 0x1000a0140
def F.mateCollideCount : Field := ⟨0x1000a0140, 0, 32⟩
abbrev Reg.mateReverifyCnt : Nat := 0x1000a0144
def F.mateReverifyCntCount : Field := ⟨0x1000a0144, 0, 10⟩
def F.mateReverifyCntOvf : Field := ⟨0x1000a0144, 10, 1⟩
abbrev Reg.mateReverify : Nat := 0x1000a1000

/-! GRM page (R327) -/

abbrev Reg.grmCmd : Nat := 0x1000b0100
def F.grmCmdOp : Field := ⟨0x1000b0100, 0, 4⟩
def F.grmCmdSlot : Field := ⟨0x1000b0100, 8, 6⟩
abbrev Reg.grmCmdStat : Nat := 0x1000b011c
def F.grmCmdStatOp : Field := ⟨0x1000b011c, 0, 4⟩
def F.grmCmdStatResult : Field := ⟨0x1000b011c, 4, 4⟩
def F.grmCmdStatBusy : Field := ⟨0x1000b011c, 8, 1⟩
abbrev Reg.grmShadow : Nat := 0x1000b0118
def F.grmShadowState : Field := ⟨0x1000b0118, 0, 3⟩
def F.grmShadowTuChanged : Field := ⟨0x1000b0118, 3, 1⟩
abbrev Reg.grmChkRes : Nat := 0x1000b0120
def F.grmChkResReason : Field := ⟨0x1000b0120, 0, 4⟩
def F.grmChkResMaxfan : Field := ⟨0x1000b0120, 4, 4⟩
def F.grmChkResErrors : Field := ⟨0x1000b0120, 8, 24⟩
abbrev Reg.grmActRes : Nat := 0x1000b012c
def F.grmActResReason : Field := ⟨0x1000b012c, 0, 4⟩
def F.grmActResMaxfan : Field := ⟨0x1000b012c, 4, 4⟩
def F.grmActResErrors : Field := ⟨0x1000b012c, 8, 24⟩
abbrev Reg.grmChkPos : Nat := 0x1000b0124
def F.grmChkPosPort : Field := ⟨0x1000b0124, 0, 7⟩
def F.grmChkPosIngress : Field := ⟨0x1000b0124, 7, 1⟩
def F.grmChkPosSlot : Field := ⟨0x1000b0124, 8, 18⟩
abbrev Reg.grmActPos : Nat := 0x1000b0130
def F.grmActPosPort : Field := ⟨0x1000b0130, 0, 7⟩
def F.grmActPosIngress : Field := ⟨0x1000b0130, 7, 1⟩
def F.grmActPosSlot : Field := ⟨0x1000b0130, 8, 18⟩
abbrev Reg.grmEvt : Nat := 0x1000b0140
def F.grmEvtCmdDone : Field := ⟨0x1000b0140, 0, 1⟩
def F.grmEvtCheckDone : Field := ⟨0x1000b0140, 1, 1⟩
def F.grmEvtSwapDone : Field := ⟨0x1000b0140, 2, 1⟩
def F.grmEvtArmCancel : Field := ⟨0x1000b0140, 3, 1⟩
def F.grmEvtActFault : Field := ⟨0x1000b0140, 4, 1⟩
def F.grmEvtEntUe : Field := ⟨0x1000b0140, 5, 1⟩
abbrev Reg.grmEvtMask : Nat := 0x1000b0144
def F.grmEvtMaskCmdDone : Field := ⟨0x1000b0144, 0, 1⟩
def F.grmEvtMaskCheckDone : Field := ⟨0x1000b0144, 1, 1⟩
def F.grmEvtMaskSwapDone : Field := ⟨0x1000b0144, 2, 1⟩
def F.grmEvtMaskArmCancel : Field := ⟨0x1000b0144, 3, 1⟩
def F.grmEvtMaskActFault : Field := ⟨0x1000b0144, 4, 1⟩
def F.grmEvtMaskEntUe : Field := ⟨0x1000b0144, 5, 1⟩
abbrev Reg.grmFillFirst : Nat := 0x1000b0104
def F.grmFillFirstFirst : Field := ⟨0x1000b0104, 0, 24⟩
abbrev Reg.grmFillCount : Nat := 0x1000b0108
def F.grmFillCountCount : Field := ⟨0x1000b0108, 0, 25⟩
abbrev Reg.grmFillValue : Nat := 0x1000b010c
def F.grmFillValueValue : Field := ⟨0x1000b010c, 0, 32⟩
abbrev Reg.grmCmtCfg : Nat := 0x1000b0110
def F.grmCmtCfgBoundary : Field := ⟨0x1000b0110, 0, 2⟩
abbrev Reg.grmCmtSeq : Nat := 0x1000b0114
def F.grmCmtSeqSeq : Field := ⟨0x1000b0114, 0, 32⟩
abbrev Reg.grmAct : Nat := 0x1000b0128
def F.grmActValid : Field := ⟨0x1000b0128, 0, 1⟩
def F.grmActFault : Field := ⟨0x1000b0128, 1, 1⟩
abbrev Reg.grmCmtSerial : Nat := 0x1000b0134
def F.grmCmtSerialSerial : Field := ⟨0x1000b0134, 0, 32⟩
abbrev Reg.grmSwapSeq : Nat := 0x1000b0138
def F.grmSwapSeqSeq : Field := ⟨0x1000b0138, 0, 32⟩
abbrev Reg.grmEntUe : Nat := 0x1000b013c
def F.grmEntUeCount : Field := ⟨0x1000b013c, 0, 32⟩
abbrev Reg.grmLibBaseLo : Nat := 0x1000b0148
def F.grmLibBaseLoBase : Field := ⟨0x1000b0148, 0, 32⟩
abbrev Reg.grmLibBaseHi : Nat := 0x1000b014c
def F.grmLibBaseHiBase : Field := ⟨0x1000b014c, 0, 8⟩
abbrev Reg.grmConst : Nat := 0x1000b1000
def F.grmConstC3C0 : Field := ⟨0x1000b1000, 0, 32⟩

/-! FLW page (R376) -/

abbrev Reg.flwSvCfg : Nat := 0x1000c0800
def F.flwSvCfgAlpha : Field := ⟨0x1000c0800, 0, 4⟩
def F.flwSvCfgDelta : Field := ⟨0x1000c0800, 4, 3⟩
def F.flwSvCfgCorrEn : Field := ⟨0x1000c0800, 8, 1⟩
def F.flwSvCfgBgEn : Field := ⟨0x1000c0800, 9, 1⟩
abbrev Reg.flwEvt : Nat := 0x1000c0100
def F.flwEvtErr : Field := ⟨0x1000c0100, 0, 1⟩
def F.flwEvtGrpChg : Field := ⟨0x1000c0100, 1, 1⟩
def F.flwEvtLcasChg : Field := ⟨0x1000c0100, 2, 1⟩
def F.flwEvtCsfChg : Field := ⟨0x1000c0100, 3, 1⟩
def F.flwEvtFsUe : Field := ⟨0x1000c0100, 4, 1⟩
abbrev Reg.flwEvtMask : Nat := 0x1000c0104
def F.flwEvtMaskErr : Field := ⟨0x1000c0104, 0, 1⟩
def F.flwEvtMaskGrpChg : Field := ⟨0x1000c0104, 1, 1⟩
def F.flwEvtMaskLcasChg : Field := ⟨0x1000c0104, 2, 1⟩
def F.flwEvtMaskCsfChg : Field := ⟨0x1000c0104, 3, 1⟩
def F.flwEvtMaskFsUe : Field := ⟨0x1000c0104, 4, 1⟩
abbrev Reg.flwErr : Nat := 0x1000c0108
def F.flwErrTable : Field := ⟨0x1000c0108, 0, 2⟩
def F.flwErrReason : Field := ⟨0x1000c0108, 2, 4⟩
def F.flwErrIndex : Field := ⟨0x1000c0108, 8, 17⟩
abbrev Reg.flwDropNoctx : Nat := 0x1000c010c
def F.flwDropNoctxCount : Field := ⟨0x1000c010c, 0, 32⟩
abbrev Reg.flwFsUe : Nat := 0x1000c0110
def F.flwFsUeCount : Field := ⟨0x1000c0110, 0, 32⟩
abbrev Reg.flwGrpDef : Nat := 0x1000c0114
def F.flwGrpDefCount : Field := ⟨0x1000c0114, 0, 15⟩
abbrev Reg.flwSliceRet : Nat := 0x1000c0118
def F.flwSliceRetSlice : Field := ⟨0x1000c0118, 0, 16⟩
abbrev Reg.flwFportRet : Nat := 0x1000c011c
def F.flwFportRetF : Field := ⟨0x1000c011c, 0, 8⟩

/-! PSQ page (R377) -/

abbrev Reg.psqCfg : Nat := 0x1000d0100
def F.psqCfgShedBelow : Field := ⟨0x1000d0100, 0, 3⟩
abbrev Reg.psqCountL2f : Nat := 0x1000d0104
def F.psqCountL2fBytes : Field := ⟨0x1000d0104, 0, 23⟩
abbrev Reg.psqCountF2l : Nat := 0x1000d0108
def F.psqCountF2lBytes : Field := ⟨0x1000d0108, 0, 23⟩
abbrev Reg.psqPeakL2f : Nat := 0x1000d010c
def F.psqPeakL2fBytes : Field := ⟨0x1000d010c, 0, 23⟩
abbrev Reg.psqPeakF2l : Nat := 0x1000d0110
def F.psqPeakF2lBytes : Field := ⟨0x1000d0110, 0, 23⟩
abbrev Reg.psqCeL2f0 : Nat := 0x1000d0114
def F.psqCeL2f0Count : Field := ⟨0x1000d0114, 0, 32⟩
abbrev Reg.psqCeL2f1 : Nat := 0x1000d0118
def F.psqCeL2f1Count : Field := ⟨0x1000d0118, 0, 32⟩
abbrev Reg.psqCeF2l0 : Nat := 0x1000d011c
def F.psqCeF2l0Count : Field := ⟨0x1000d011c, 0, 32⟩
abbrev Reg.psqCeF2l1 : Nat := 0x1000d0120
def F.psqCeF2l1Count : Field := ⟨0x1000d0120, 0, 32⟩
abbrev Reg.psqUe : Nat := 0x1000d0124
def F.psqUeCount : Field := ⟨0x1000d0124, 0, 32⟩
abbrev Reg.psqShedDrop : Nat := 0x1000d0128
def F.psqShedDropCount : Field := ⟨0x1000d0128, 0, 32⟩
abbrev Reg.psqReturn : Nat := 0x1000d012c
def F.psqReturnCount : Field := ⟨0x1000d012c, 0, 32⟩
abbrev Reg.psqShareSum : Nat := 0x1000d0130
def F.psqShareSumSum : Field := ⟨0x1000d0130, 0, 12⟩
abbrev Reg.psqShare : Nat := 0x1000d1000
def F.psqShareC3C0 : Field := ⟨0x1000d1000, 0, 32⟩
def F.psqShareC7C4 : Field := ⟨0x1000d1000, 0, 32⟩

/-! PM page (R424) -/

abbrev Reg.pmCfg : Nat := 0x1000e0100
def F.pmCfgUserEn : Field := ⟨0x1000e0100, 0, 1⟩
def F.pmCfgDumpEn : Field := ⟨0x1000e0100, 1, 1⟩
abbrev Reg.pmEpoch : Nat := 0x1000e0104
def F.pmEpochEpoch : Field := ⟨0x1000e0104, 0, 32⟩
abbrev Reg.pmLadle : Nat := 0x1000e0108
def F.pmLadleBusy : Field := ⟨0x1000e0108, 0, 1⟩
def F.pmLadleDumpHead : Field := ⟨0x1000e0108, 1, 4⟩
def F.pmLadleLastUs : Field := ⟨0x1000e0108, 16, 16⟩
abbrev Reg.pmBin : Nat := 0x1000e010c
def F.pmBinB15 : Field := ⟨0x1000e010c, 0, 7⟩
def F.pmBinB24 : Field := ⟨0x1000e010c, 8, 7⟩
abbrev Reg.pmBinAlign : Nat := 0x1000e0110
def F.pmBinAlignAlign : Field := ⟨0x1000e0110, 0, 17⟩
abbrev Reg.pmWrStat : Nat := 0x1000e0114
def F.pmWrStatPending : Field := ⟨0x1000e0114, 0, 13⟩
abbrev Reg.pmRdSel : Nat := 0x1000e0120
def F.pmRdSelCtr : Field := ⟨0x1000e0120, 0, 4⟩
def F.pmRdSelIndex : Field := ⟨0x1000e0120, 4, 19⟩
def F.pmRdSelKind : Field := ⟨0x1000e0120, 24, 3⟩
abbrev Reg.pmWrSel : Nat := 0x1000e0130
def F.pmWrSelCtr : Field := ⟨0x1000e0130, 0, 4⟩
def F.pmWrSelIndex : Field := ⟨0x1000e0130, 4, 19⟩
def F.pmWrSelKind : Field := ⟨0x1000e0130, 24, 3⟩
abbrev Reg.pmRdLo : Nat := 0x1000e0124
def F.pmRdLoValue : Field := ⟨0x1000e0124, 0, 32⟩
abbrev Reg.pmRdHi : Nat := 0x1000e0128
def F.pmRdHiValue : Field := ⟨0x1000e0128, 0, 32⟩
abbrev Reg.pmWrLo : Nat := 0x1000e0134
def F.pmWrLoValue : Field := ⟨0x1000e0134, 0, 32⟩
abbrev Reg.pmWrHi : Nat := 0x1000e0138
def F.pmWrHiValue : Field := ⟨0x1000e0138, 0, 32⟩
abbrev Reg.pmWrGo : Nat := 0x1000e013c
def F.pmWrGoGo : Field := ⟨0x1000e013c, 0, 1⟩
abbrev Reg.pmCntBaseLo : Nat := 0x1000e0150
def F.pmCntBaseLoBase : Field := ⟨0x1000e0150, 0, 32⟩
abbrev Reg.pmCntBaseHi : Nat := 0x1000e0154
def F.pmCntBaseHiBase : Field := ⟨0x1000e0154, 0, 8⟩
abbrev Reg.pmDumpBaseLo : Nat := 0x1000e0158
def F.pmDumpBaseLoBase : Field := ⟨0x1000e0158, 0, 32⟩
abbrev Reg.pmDumpBaseHi : Nat := 0x1000e015c
def F.pmDumpBaseHiBase : Field := ⟨0x1000e015c, 0, 8⟩
abbrev Reg.pmTraceBaseLo : Nat := 0x1000e0160
def F.pmTraceBaseLoBase : Field := ⟨0x1000e0160, 0, 32⟩
abbrev Reg.pmTraceBaseHi : Nat := 0x1000e0164
def F.pmTraceBaseHiBase : Field := ⟨0x1000e0164, 0, 8⟩
abbrev Reg.pmProf : Nat := 0x1000e0200
def F.pmProfSdExp : Field := ⟨0x1000e0200, 0, 4⟩
def F.pmProfSfExp : Field := ⟨0x1000e0200, 4, 4⟩
abbrev Reg.pmEvt : Nat := 0x1000e0140
def F.pmEvtEpochDone : Field := ⟨0x1000e0140, 0, 1⟩
def F.pmEvtBin15Done : Field := ⟨0x1000e0140, 1, 1⟩
def F.pmEvtBin24Done : Field := ⟨0x1000e0140, 2, 1⟩
def F.pmEvtDumpGap : Field := ⟨0x1000e0140, 3, 1⟩
def F.pmEvtWrFull : Field := ⟨0x1000e0140, 4, 1⟩
def F.pmEvtSkwDrop : Field := ⟨0x1000e0140, 5, 1⟩
def F.pmEvtLate : Field := ⟨0x1000e0140, 6, 1⟩
abbrev Reg.pmEvtMask : Nat := 0x1000e0144
def F.pmEvtMaskEpochDone : Field := ⟨0x1000e0144, 0, 1⟩
def F.pmEvtMaskBin15Done : Field := ⟨0x1000e0144, 1, 1⟩
def F.pmEvtMaskBin24Done : Field := ⟨0x1000e0144, 2, 1⟩
def F.pmEvtMaskDumpGap : Field := ⟨0x1000e0144, 3, 1⟩
def F.pmEvtMaskWrFull : Field := ⟨0x1000e0144, 4, 1⟩
def F.pmEvtMaskSkwDrop : Field := ⟨0x1000e0144, 5, 1⟩
def F.pmEvtMaskLate : Field := ⟨0x1000e0144, 6, 1⟩
abbrev Reg.pmBwSel : Nat := 0x1000e0400
def F.pmBwSelObj : Field := ⟨0x1000e0400, 0, 4⟩
def F.pmBwSelIndex : Field := ⟨0x1000e0400, 8, 16⟩
abbrev Reg.pmBwWin : Nat := 0x1000e0404
def F.pmBwWinMs : Field := ⟨0x1000e0404, 0, 16⟩
abbrev Reg.pmBwVal : Nat := 0x1000e0408
def F.pmBwValKbps : Field := ⟨0x1000e0408, 0, 32⟩
abbrev Reg.pmBwPeak : Nat := 0x1000e040c
def F.pmBwPeakKbps : Field := ⟨0x1000e040c, 0, 32⟩
abbrev Reg.pmFecCfg : Nat := 0x1000e0800
def F.pmFecCfgEn : Field := ⟨0x1000e0800, 0, 1⟩
def F.pmFecCfgClass : Field := ⟨0x1000e0800, 1, 3⟩
def F.pmFecCfgBeats : Field := ⟨0x1000e0800, 4, 1⟩
def F.pmFecCfgMasters : Field := ⟨0x1000e0800, 8, 7⟩
abbrev Reg.pmFecStartl : Nat := 0x1000e0804
def F.pmFecStartlAddr : Field := ⟨0x1000e0804, 0, 32⟩
abbrev Reg.pmFecStarth : Nat := 0x1000e0808
def F.pmFecStarthAddr : Field := ⟨0x1000e0808, 0, 8⟩
abbrev Reg.pmFecEndl : Nat := 0x1000e080c
def F.pmFecEndlAddr : Field := ⟨0x1000e080c, 0, 32⟩
abbrev Reg.pmFecEndh : Nat := 0x1000e0810
def F.pmFecEndhAddr : Field := ⟨0x1000e0810, 0, 8⟩
abbrev Reg.pmFecLo : Nat := 0x1000e0814
def F.pmFecLoCount : Field := ⟨0x1000e0814, 0, 32⟩
abbrev Reg.pmFecHi : Nat := 0x1000e0818
def F.pmFecHiCount : Field := ⟨0x1000e0818, 0, 32⟩
abbrev Reg.pmSkwCfg : Nat := 0x1000e0c00
def F.pmSkwCfgEn : Field := ⟨0x1000e0c00, 0, 1⟩
def F.pmSkwCfgK : Field := ⟨0x1000e0c00, 1, 5⟩
def F.pmSkwCfgKinds : Field := ⟨0x1000e0c00, 6, 5⟩
def F.pmSkwCfgLane : Field := ⟨0x1000e0c00, 11, 7⟩
def F.pmSkwCfgAll : Field := ⟨0x1000e0c00, 18, 1⟩
abbrev Reg.pmSkwTags : Nat := 0x1000e0c04
def F.pmSkwTagsCount : Field := ⟨0x1000e0c04, 0, 32⟩
abbrev Reg.pmSkwDrop : Nat := 0x1000e0c08
def F.pmSkwDropCount : Field := ⟨0x1000e0c08, 0, 32⟩
abbrev Reg.pmSkwHead : Nat := 0x1000e0c0c
def F.pmSkwHeadIndex : Field := ⟨0x1000e0c0c, 0, 23⟩

/-! PROT page (R457) -/

abbrev Reg.protEvt : Nat := 0x1000f0100
def F.protEvtMspChg : Field := ⟨0x1000f0100, 0, 1⟩
def F.protEvtSncChg : Field := ⟨0x1000f0100, 1, 1⟩
def F.protEvtPam : Field := ⟨0x1000f0100, 2, 1⟩
def F.protEvtReqDone : Field := ⟨0x1000f0100, 3, 1⟩
abbrev Reg.protEvtMask : Nat := 0x1000f0104
def F.protEvtMaskMask : Field := ⟨0x1000f0104, 0, 4⟩
abbrev Reg.protMspChg0 : Nat := 0x1000f0108
def F.protMspChg0G : Field := ⟨0x1000f0108, 0, 32⟩
abbrev Reg.protMspChg1 : Nat := 0x1000f010c
def F.protMspChg1G : Field := ⟨0x1000f010c, 0, 16⟩
abbrev Reg.protSncIdx : Nat := 0x1000f0110
def F.protSncIdxIndex : Field := ⟨0x1000f0110, 0, 18⟩
abbrev Reg.protSncReq : Nat := 0x1000f0114
def F.protSncReqReq : Field := ⟨0x1000f0114, 0, 4⟩
def F.protSncReqLeg : Field := ⟨0x1000f0114, 4, 1⟩
abbrev Reg.protReqRes : Nat := 0x1000f0118
def F.protReqResResult : Field := ⟨0x1000f0118, 0, 2⟩
def F.protReqResSrc : Field := ⟨0x1000f0118, 2, 1⟩
def F.protReqResTarget : Field := ⟨0x1000f0118, 8, 18⟩
def F.protReqResSncp : Field := ⟨0x1000f0118, 26, 1⟩
abbrev Reg.protSncLast : Nat := 0x1000f011c
def F.protSncLastIndex : Field := ⟨0x1000f011c, 0, 18⟩
abbrev Reg.protSncSwitches : Nat := 0x1000f0120
def F.protSncSwitchesCount : Field := ⟨0x1000f0120, 0, 32⟩
abbrev Reg.protSncProf : Nat := 0x1000f0140
def F.protSncProfHoldoff : Field := ⟨0x1000f0140, 0, 7⟩
def F.protSncProfWtr : Field := ⟨0x1000f0140, 7, 4⟩
def F.protSncProfRevert : Field := ⟨0x1000f0140, 11, 1⟩
def F.protSncProfSdEn : Field := ⟨0x1000f0140, 12, 1⟩
abbrev Reg.protMspCfg : Nat := 0x1000f1000
def F.protMspCfgEn : Field := ⟨0x1000f1000, 0, 1⟩
def F.protMspCfgArch : Field := ⟨0x1000f1000, 1, 1⟩
def F.protMspCfgBidir : Field := ⟨0x1000f1000, 2, 1⟩
def F.protMspCfgRevert : Field := ⟨0x1000f1000, 3, 1⟩
def F.protMspCfgSdEn : Field := ⟨0x1000f1000, 4, 1⟩
def F.protMspCfgPlane : Field := ⟨0x1000f1000, 8, 7⟩
def F.protMspCfgN : Field := ⟨0x1000f1000, 15, 4⟩
def F.protMspCfgHoldoff : Field := ⟨0x1000f1000, 19, 7⟩
def F.protMspCfgWtr : Field := ⟨0x1000f1000, 26, 4⟩
abbrev Reg.protMspWork : Nat := 0x1000f1004
abbrev Reg.protMspReq : Nat := 0x1000f1014
def F.protMspReqReq : Field := ⟨0x1000f1014, 0, 4⟩
def F.protMspReqChannel : Field := ⟨0x1000f1014, 4, 4⟩
abbrev Reg.protMspStat : Nat := 0x1000f1018
def F.protMspStatLocalReq : Field := ⟨0x1000f1018, 0, 4⟩
def F.protMspStatLocalCh : Field := ⟨0x1000f1018, 4, 4⟩
def F.protMspStatRemoteReq : Field := ⟨0x1000f1018, 8, 4⟩
def F.protMspStatRemoteCh : Field := ⟨0x1000f1018, 12, 4⟩
def F.protMspStatBridged : Field := ⟨0x1000f1018, 16, 4⟩
def F.protMspStatSelected : Field := ⟨0x1000f1018, 20, 4⟩
def F.protMspStatHold : Field := ⟨0x1000f1018, 24, 1⟩
def F.protMspStatWtrRun : Field := ⟨0x1000f1018, 25, 1⟩
def F.protMspStatPam : Field := ⟨0x1000f1018, 26, 1⟩
def F.protMspStatCfgErr : Field := ⟨0x1000f1018, 27, 1⟩
abbrev Reg.protMspSwc : Nat := 0x1000f101c
def F.protMspSwcSwitches : Field := ⟨0x1000f101c, 0, 16⟩

/-! LANE page (R655, R670) -/

abbrev Reg.laneCfg : Nat := 0x100
def F.laneCfgRate : Field := ⟨0x100, 0, 3⟩
def F.laneCfgType : Field := ⟨0x100, 4, 2⟩
abbrev Reg.laneSdsStat : Nat := 0x104
def F.laneSdsStatCdrLock : Field := ⟨0x104, 0, 1⟩
def F.laneSdsStatSigDet : Field := ⟨0x104, 1, 1⟩
def F.laneSdsStatAdaptFrozen : Field := ⟨0x104, 2, 1⟩
def F.laneSdsStatCfgErr : Field := ⟨0x104, 3, 1⟩
def F.laneSdsStatEsFill : Field := ⟨0x104, 8, 8⟩
abbrev Reg.laneTxeq : Nat := 0x108
def F.laneTxeqPre : Field := ⟨0x108, 0, 5⟩
def F.laneTxeqMain : Field := ⟨0x108, 5, 6⟩
def F.laneTxeqPost : Field := ⟨0x108, 11, 5⟩
def F.laneTxeqSquelch : Field := ⟨0x108, 16, 1⟩
abbrev Reg.laneRxeq : Nat := 0x10c
def F.laneRxeqAdaptEn : Field := ⟨0x10c, 0, 1⟩
def F.laneRxeqCtle : Field := ⟨0x10c, 4, 4⟩
abbrev Reg.lanePrbs : Nat := 0x110
def F.lanePrbsGenPat : Field := ⟨0x110, 0, 2⟩
def F.lanePrbsGenInv : Field := ⟨0x110, 2, 1⟩
def F.lanePrbsGenEn : Field := ⟨0x110, 3, 1⟩
def F.lanePrbsChkPat : Field := ⟨0x110, 4, 2⟩
def F.lanePrbsChkInv : Field := ⟨0x110, 6, 1⟩
def F.lanePrbsChkEn : Field := ⟨0x110, 7, 1⟩
def F.lanePrbsChkSync : Field := ⟨0x110, 8, 1⟩
def F.lanePrbsInject : Field := ⟨0x110, 9, 1⟩
abbrev Reg.lanePrbsErrLo : Nat := 0x114
def F.lanePrbsErrLoErr : Field := ⟨0x114, 0, 32⟩
abbrev Reg.lanePrbsErrHi : Nat := 0x118
def F.lanePrbsErrHiErr : Field := ⟨0x118, 0, 16⟩
abbrev Reg.laneLoop : Nat := 0x11c
def F.laneLoopMode : Field := ⟨0x11c, 0, 2⟩
def F.laneLoopNearTx : Field := ⟨0x11c, 2, 1⟩
abbrev Reg.laneEye : Nat := 0x120
def F.laneEyeHeight : Field := ⟨0x120, 0, 10⟩
def F.laneEyeWidth : Field := ⟨0x120, 10, 7⟩
def F.laneEyeValid : Field := ⟨0x120, 17, 1⟩
def F.laneEyeSeq : Field := ⟨0x120, 18, 14⟩
abbrev Reg.laneEsSlip : Nat := 0x124
def F.laneEsSlipSlip : Field := ⟨0x124, 0, 32⟩
abbrev Reg.laneSvCfg : Nat := 0x800
def F.laneSvCfgPatLen : Field := ⟨0x800, 0, 1⟩
def F.laneSvCfgBgEn : Field := ⟨0x800, 1, 1⟩
def F.laneSvCfgCorrEn : Field := ⟨0x800, 2, 1⟩
def F.laneSvCfgAlpha : Field := ⟨0x800, 4, 4⟩
def F.laneSvCfgDelta : Field := ⟨0x800, 8, 3⟩
abbrev Reg.laneSvStat : Nat := 0x804
def F.laneSvStatState : Field := ⟨0x804, 0, 3⟩
def F.laneSvStatLof : Field := ⟨0x804, 3, 1⟩
def F.laneSvStatOof : Field := ⟨0x804, 4, 1⟩
def F.laneSvStatLoft : Field := ⟨0x804, 5, 1⟩
def F.laneSvStatUsed : Field := ⟨0x804, 8, 4⟩
def F.laneSvStatAlts : Field := ⟨0x804, 12, 4⟩
def F.laneSvStatRound : Field := ⟨0x804, 16, 2⟩
abbrev Reg.laneSvSlot : Nat := 0x810
def F.laneSvSlotState : Field := ⟨0x810, 0, 3⟩
def F.laneSvSlotRot : Field := ⟨0x810, 4, 3⟩
def F.laneSvSlotPos : Field := ⟨0x810, 8, 19⟩
def F.laneSvSlotCnt : Field := ⟨0x810, 28, 4⟩
abbrev Reg.laneSvMimic : Nat := 0x830
def F.laneSvMimicCount : Field := ⟨0x830, 0, 32⟩
abbrev Reg.laneSvUnres : Nat := 0x834
def F.laneSvUnresCount : Field := ⟨0x834, 0, 32⟩
abbrev Reg.laneSvFast : Nat := 0x838
def F.laneSvFastCount : Field := ⟨0x838, 0, 32⟩
abbrev Reg.laneSvHunt : Nat := 0x83c
def F.laneSvHuntCount : Field := ⟨0x83c, 0, 32⟩
abbrev Reg.laneSvFull : Nat := 0x840
def F.laneSvFullCount : Field := ⟨0x840, 0, 32⟩
abbrev Reg.laneSvCorr : Nat := 0x844
def F.laneSvCorrCount : Field := ⟨0x844, 0, 32⟩
abbrev Reg.laneSvLoss : Nat := 0x848
def F.laneSvLossCount : Field := ⟨0x848, 0, 32⟩
abbrev Reg.laneSvFserr : Nat := 0x84c
def F.laneSvFserrCount : Field := ⟨0x84c, 0, 32⟩
abbrev Reg.laneSohCfg : Nat := 0x1000
def F.laneSohCfgMode : Field := ⟨0x1000, 0, 1⟩
def F.laneSohCfgTxScr : Field := ⟨0x1000, 1, 1⟩
def F.laneSohCfgRxScr : Field := ⟨0x1000, 2, 1⟩
def F.laneSohCfgTimAct : Field := ⟨0x1000, 3, 1⟩
def F.laneSohCfgExcAct : Field := ⟨0x1000, 4, 1⟩
def F.laneSohCfgRdiEn : Field := ⟨0x1000, 5, 1⟩
def F.laneSohCfgReiExt : Field := ⟨0x1000, 6, 1⟩
def F.laneSohCfgKSrc : Field := ⟨0x1000, 7, 1⟩
abbrev Reg.laneSohTx : Nat := 0x1004
def F.laneSohTxForceMsais : Field := ⟨0x1004, 0, 1⟩
def F.laneSohTxForceMsrdi : Field := ⟨0x1004, 1, 1⟩
def F.laneSohTxInsB1 : Field := ⟨0x1004, 2, 1⟩
def F.laneSohTxInsB2 : Field := ⟨0x1004, 3, 1⟩
def F.laneSohTxB1Cont : Field := ⟨0x1004, 4, 1⟩
def F.laneSohTxB2Cont : Field := ⟨0x1004, 5, 1⟩
def F.laneSohTxFasErr : Field := ⟨0x1004, 6, 1⟩
abbrev Reg.laneSohStat : Nat := 0x1008
def F.laneSohStatMsais : Field := ⟨0x1008, 0, 1⟩
def F.laneSohStatMsrdi : Field := ⟨0x1008, 1, 1⟩
def F.laneSohStatTim : Field := ⟨0x1008, 2, 1⟩
def F.laneSohStatJ0Valid : Field := ⟨0x1008, 3, 1⟩
def F.laneSohStatKValid : Field := ⟨0x1008, 4, 1⟩
def F.laneSohStatKUnstable : Field := ⟨0x1008, 5, 1⟩
def F.laneSohStatS1Valid : Field := ⟨0x1008, 6, 1⟩
def F.laneSohStatRdiTx : Field := ⟨0x1008, 7, 1⟩
def F.laneSohStatAisTx : Field := ⟨0x1008, 8, 1⟩
def F.laneSohStatAisDs : Field := ⟨0x1008, 9, 1⟩
abbrev Reg.laneSohEvt : Nat := 0x100c
def F.laneSohEvtTimChg : Field := ⟨0x100c, 0, 1⟩
def F.laneSohEvtMsaisChg : Field := ⟨0x100c, 1, 1⟩
def F.laneSohEvtMsrdiChg : Field := ⟨0x100c, 2, 1⟩
def F.laneSohEvtJ0Acc : Field := ⟨0x100c, 3, 1⟩
def F.laneSohEvtKChg : Field := ⟨0x100c, 4, 1⟩
def F.laneSohEvtKUnstable : Field := ⟨0x100c, 5, 1⟩
def F.laneSohEvtS1Chg : Field := ⟨0x100c, 6, 1⟩
def F.laneSohEvtTxUnder : Field := ⟨0x100c, 7, 1⟩
def F.laneSohEvtJ0Crc : Field := ⟨0x100c, 8, 1⟩
abbrev Reg.laneSohEvtMask : Nat := 0x1010
def F.laneSohEvtMaskTimChg : Field := ⟨0x1010, 0, 1⟩
def F.laneSohEvtMaskMsaisChg : Field := ⟨0x1010, 1, 1⟩
def F.laneSohEvtMaskMsrdiChg : Field := ⟨0x1010, 2, 1⟩
def F.laneSohEvtMaskJ0Acc : Field := ⟨0x1010, 3, 1⟩
def F.laneSohEvtMaskKChg : Field := ⟨0x1010, 4, 1⟩
def F.laneSohEvtMaskKUnstable : Field := ⟨0x1010, 5, 1⟩
def F.laneSohEvtMaskS1Chg : Field := ⟨0x1010, 6, 1⟩
def F.laneSohEvtMaskTxUnder : Field := ⟨0x1010, 7, 1⟩
def F.laneSohEvtMaskJ0Crc : Field := ⟨0x1010, 8, 1⟩
abbrev Reg.laneSohJ0cfg : Nat := 0x1014
def F.laneSohJ0cfgRxMode : Field := ⟨0x1014, 0, 2⟩
def F.laneSohJ0cfgTxMode : Field := ⟨0x1014, 2, 2⟩
def F.laneSohJ0cfgTimEn : Field := ⟨0x1014, 4, 1⟩
def F.laneSohJ0cfgTxCrc : Field := ⟨0x1014, 5, 1⟩
def F.laneSohJ0cfgExpApply : Field := ⟨0x1014, 6, 1⟩
def F.laneSohJ0cfgTxApply : Field := ⟨0x1014, 7, 1⟩
def F.laneSohJ0cfgExpPend : Field := ⟨0x1014, 8, 1⟩
def F.laneSohJ0cfgTxPend : Field := ⟨0x1014, 9, 1⟩
abbrev Reg.laneSohJ0crc : Nat := 0x1018
def F.laneSohJ0crcCount : Field := ⟨0x1018, 0, 32⟩
abbrev Reg.laneSohKrx : Nat := 0x101c
def F.laneSohKrxK1 : Field := ⟨0x101c, 0, 8⟩
def F.laneSohKrxK2l : Field := ⟨0x101c, 8, 3⟩
def F.laneSohKrxK2h : Field := ⟨0x101c, 11, 5⟩
def F.laneSohKrxK2lValid : Field := ⟨0x101c, 30, 1⟩
def F.laneSohKrxValid : Field := ⟨0x101c, 31, 1⟩
abbrev Reg.laneSohKraw : Nat := 0x1020
def F.laneSohKrawK1 : Field := ⟨0x1020, 0, 8⟩
def F.laneSohKrawK2 : Field := ⟨0x1020, 8, 8⟩
abbrev Reg.laneSohKtx : Nat := 0x1024
def F.laneSohKtxK1 : Field := ⟨0x1024, 0, 8⟩
def F.laneSohKtxK2 : Field := ⟨0x1024, 8, 8⟩
abbrev Reg.laneSohS1 : Nat := 0x1028
def F.laneSohS1RxAcc : Field := ⟨0x1028, 0, 4⟩
def F.laneSohS1Tx : Field := ⟨0x1028, 8, 8⟩
abbrev Reg.laneSohM1 : Nat := 0x102c
def F.laneSohM1Rx : Field := ⟨0x102c, 0, 11⟩
def F.laneSohM1Tx : Field := ⟨0x102c, 16, 11⟩
abbrev Reg.laneSohRxfrm : Nat := 0x1030
def F.laneSohRxfrmFrm : Field := ⟨0x1030, 0, 16⟩
abbrev Reg.laneSohTxfrm : Nat := 0x1034
def F.laneSohTxfrmFrm : Field := ⟨0x1034, 0, 16⟩
abbrev Reg.laneSohTxlim : Nat := 0x1038
def F.laneSohTxlimLim : Field := ⟨0x1038, 0, 16⟩
abbrev Reg.laneSohChen : Nat := 0x103c
def F.laneSohChenRsdcc : Field := ⟨0x103c, 0, 1⟩
def F.laneSohChenMsdcc : Field := ⟨0x103c, 1, 1⟩
def F.laneSohChenE1 : Field := ⟨0x103c, 2, 1⟩
def F.laneSohChenF1 : Field := ⟨0x103c, 3, 1⟩
def F.laneSohChenE2 : Field := ⟨0x103c, 4, 1⟩
def F.laneSohChenIdle : Field := ⟨0x103c, 8, 8⟩
abbrev Reg.laneSohJ0Tx : Nat := 0x1080
abbrev Reg.laneSohJ0Exp : Nat := 0x10c0
abbrev Reg.laneSohJ0Acc : Nat := 0x1100
abbrev Reg.laneSohRxRing : Nat := 0x1200
abbrev Reg.laneSohTxRing : Nat := 0x1600
abbrev Reg.lanePsSum : Nat := 0x2000
def F.lanePsSumHoDef : Field := ⟨0x2000, 0, 7⟩
def F.lanePsSumLoDef : Field := ⟨0x2000, 8, 13⟩
abbrev Reg.lanePsHodef0 : Nat := 0x2004
def F.lanePsHodef0G : Field := ⟨0x2004, 0, 32⟩
abbrev Reg.lanePsHodef1 : Nat := 0x2008
def F.lanePsHodef1G : Field := ⟨0x2008, 0, 32⟩
abbrev Reg.lanePsEvt : Nat := 0x200c
def F.lanePsEvtHoChg : Field := ⟨0x200c, 0, 1⟩
def F.lanePsEvtLoChg : Field := ⟨0x200c, 1, 1⟩
def F.lanePsEvtCapDone : Field := ⟨0x200c, 2, 1⟩
abbrev Reg.lanePsEvtMask : Nat := 0x2010
def F.lanePsEvtMaskMask : Field := ⟨0x2010, 0, 3⟩
abbrev Reg.lanePsCap : Nat := 0x2014
def F.lanePsCapIndex : Field := ⟨0x2014, 0, 13⟩
def F.lanePsCapLo : Field := ⟨0x2014, 13, 1⟩
def F.lanePsCapGo : Field := ⟨0x2014, 14, 1⟩
def F.lanePsCapDone : Field := ⟨0x2014, 15, 1⟩
def F.lanePsCapEmpty : Field := ⟨0x2014, 16, 1⟩
abbrev Reg.lanePsCapBuf : Nat := 0x2040
abbrev Reg.laneTuCfg : Nat := 0x4000
def F.laneTuCfgPktEn : Field := ⟨0x4000, 0, 1⟩
def F.laneTuCfgTxbank : Field := ⟨0x4000, 1, 1⟩
def F.laneTuCfgRdEn : Field := ⟨0x4000, 2, 1⟩
def F.laneTuCfgAugs : Field := ⟨0x4000, 4, 7⟩
def F.laneTuCfgCapInit : Field := ⟨0x4000, 16, 12⟩
abbrev Reg.laneTuStat : Nat := 0x4004
def F.laneTuStatCap : Field := ⟨0x4004, 0, 12⟩
def F.laneTuStatPend : Field := ⟨0x4004, 12, 1⟩
def F.laneTuStatRd : Field := ⟨0x4004, 13, 1⟩
def F.laneTuStatSeq : Field := ⟨0x4004, 14, 1⟩
def F.laneTuStatRxbank : Field := ⟨0x4004, 15, 1⟩
def F.laneTuStatPcap : Field := ⟨0x4004, 16, 12⟩
abbrev Reg.laneTuEvt : Nat := 0x4010
def F.laneTuEvtCapchg : Field := ⟨0x4010, 0, 1⟩
def F.laneTuEvtCapLate : Field := ⟨0x4010, 1, 1⟩
def F.laneTuEvtAnnBad : Field := ⟨0x4010, 2, 1⟩
def F.laneTuEvtSeqChg : Field := ⟨0x4010, 3, 1⟩
def F.laneTuEvtRdChg : Field := ⟨0x4010, 4, 1⟩
def F.laneTuEvtMapErr : Field := ⟨0x4010, 5, 1⟩
def F.laneTuEvtRxbankChg : Field := ⟨0x4010, 6, 1⟩
abbrev Reg.laneTuEvtMask : Nat := 0x4014
def F.laneTuEvtMaskCapchg : Field := ⟨0x4014, 0, 1⟩
def F.laneTuEvtMaskCapLate : Field := ⟨0x4014, 1, 1⟩
def F.laneTuEvtMaskAnnBad : Field := ⟨0x4014, 2, 1⟩
def F.laneTuEvtMaskSeqChg : Field := ⟨0x4014, 3, 1⟩
def F.laneTuEvtMaskRdChg : Field := ⟨0x4014, 4, 1⟩
def F.laneTuEvtMaskMapErr : Field := ⟨0x4014, 5, 1⟩
def F.laneTuEvtMaskRxbankChg : Field := ⟨0x4014, 6, 1⟩
abbrev Reg.laneTuPeff : Nat := 0x4008
def F.laneTuPeffE : Field := ⟨0x4008, 0, 16⟩
abbrev Reg.laneTuAnn : Nat := 0x400c
def F.laneTuAnnN : Field := ⟨0x400c, 0, 12⟩
def F.laneTuAnnE : Field := ⟨0x400c, 16, 16⟩
abbrev Reg.laneTuTxseq : Nat := 0x4018
def F.laneTuTxseqSeq : Field := ⟨0x4018, 0, 32⟩
abbrev Reg.laneTuRxseq : Nat := 0x401c
def F.laneTuRxseqSeq : Field := ⟨0x401c, 0, 32⟩
abbrev Reg.laneTuCrceil0 : Nat := 0x4020
def F.laneTuCrceil0C3C0 : Field := ⟨0x4020, 0, 32⟩
abbrev Reg.laneTuCrceil1 : Nat := 0x4024
def F.laneTuCrceil1C7C4 : Field := ⟨0x4024, 0, 32⟩
abbrev Reg.laneTuCrrx0 : Nat := 0x4028
def F.laneTuCrrx0G3G0 : Field := ⟨0x4028, 0, 32⟩
abbrev Reg.laneTuCrrx1 : Nat := 0x402c
def F.laneTuCrrx1G7G4 : Field := ⟨0x402c, 0, 32⟩
abbrev Reg.laneTuHcsfail : Nat := 0x4030
def F.laneTuHcsfailCount : Field := ⟨0x4030, 0, 32⟩
abbrev Reg.laneTuSeqerr : Nat := 0x4034
def F.laneTuSeqerrCount : Field := ⟨0x4034, 0, 32⟩
abbrev Reg.laneTuBadtype : Nat := 0x4038
def F.laneTuBadtypeCount : Field := ⟨0x4038, 0, 32⟩
abbrev Reg.laneTuPktbad : Nat := 0x403c
def F.laneTuPktbadCount : Field := ⟨0x403c, 0, 32⟩
abbrev Reg.laneTuOrphan : Nat := 0x4040
def F.laneTuOrphanCount : Field := ⟨0x4040, 0, 32⟩
abbrev Reg.laneTuSlipseq : Nat := 0x4044
def F.laneTuSlipseqCount : Field := ⟨0x4044, 0, 32⟩
abbrev Reg.laneTuStr : Nat := 0x4050
def F.laneTuStrEn : Field := ⟨0x4050, 0, 1⟩
def F.laneTuStrPartner : Field := ⟨0x4050, 1, 7⟩
def F.laneTuStrDelay : Field := ⟨0x4050, 8, 4⟩
abbrev Reg.laneTuStrstat : Nat := 0x4054
def F.laneTuStrstatState : Field := ⟨0x4054, 0, 3⟩
def F.laneTuStrstatSkewP : Field := ⟨0x4054, 3, 1⟩
def F.laneTuStrstatSkewS : Field := ⟨0x4054, 4, 1⟩
abbrev Reg.laneTuStrsec : Nat := 0x4058
def F.laneTuStrsecCount : Field := ⟨0x4058, 0, 32⟩
abbrev Reg.laneTuStrbad : Nat := 0x405c
def F.laneTuStrbadCount : Field := ⟨0x405c, 0, 32⟩
abbrev Reg.laneTuStrlate : Nat := 0x4060
def F.laneTuStrlateCount : Field := ⟨0x4060, 0, 32⟩
abbrev Reg.laneTuMap0 : Nat := 0x6000
abbrev Reg.laneTuMap1 : Nat := 0x7000
abbrev Reg.laneDefStat : Nat := 0x8000
def F.laneDefStatLos : Field := ⟨0x8000, 0, 1⟩
def F.laneDefStatOof : Field := ⟨0x8000, 1, 1⟩
def F.laneDefStatLof : Field := ⟨0x8000, 2, 1⟩
def F.laneDefStatLoft : Field := ⟨0x8000, 3, 1⟩
def F.laneDefStatTim : Field := ⟨0x8000, 4, 1⟩
def F.laneDefStatMsais : Field := ⟨0x8000, 5, 1⟩
def F.laneDefStatMsrdi : Field := ⟨0x8000, 6, 1⟩
def F.laneDefStatExc : Field := ⟨0x8000, 7, 1⟩
def F.laneDefStatSd : Field := ⟨0x8000, 8, 1⟩
def F.laneDefStatSf : Field := ⟨0x8000, 9, 1⟩
def F.laneDefStatSeq : Field := ⟨0x8000, 10, 1⟩
def F.laneDefStatRd : Field := ⟨0x8000, 11, 1⟩
def F.laneDefStatPath : Field := ⟨0x8000, 12, 1⟩
abbrev Reg.laneDefEvt : Nat := 0x8004
def F.laneDefEvtLos : Field := ⟨0x8004, 0, 1⟩
def F.laneDefEvtOof : Field := ⟨0x8004, 1, 1⟩
def F.laneDefEvtLof : Field := ⟨0x8004, 2, 1⟩
def F.laneDefEvtLoft : Field := ⟨0x8004, 3, 1⟩
def F.laneDefEvtTim : Field := ⟨0x8004, 4, 1⟩
def F.laneDefEvtMsais : Field := ⟨0x8004, 5, 1⟩
def F.laneDefEvtMsrdi : Field := ⟨0x8004, 6, 1⟩
def F.laneDefEvtExc : Field := ⟨0x8004, 7, 1⟩
def F.laneDefEvtSd : Field := ⟨0x8004, 8, 1⟩
def F.laneDefEvtSf : Field := ⟨0x8004, 9, 1⟩
def F.laneDefEvtSeq : Field := ⟨0x8004, 10, 1⟩
def F.laneDefEvtRd : Field := ⟨0x8004, 11, 1⟩
def F.laneDefEvtPath : Field := ⟨0x8004, 12, 1⟩
abbrev Reg.laneDefMask : Nat := 0x8008
def F.laneDefMaskLos : Field := ⟨0x8008, 0, 1⟩
def F.laneDefMaskOof : Field := ⟨0x8008, 1, 1⟩
def F.laneDefMaskLof : Field := ⟨0x8008, 2, 1⟩
def F.laneDefMaskLoft : Field := ⟨0x8008, 3, 1⟩
def F.laneDefMaskTim : Field := ⟨0x8008, 4, 1⟩
def F.laneDefMaskMsais : Field := ⟨0x8008, 5, 1⟩
def F.laneDefMaskMsrdi : Field := ⟨0x8008, 6, 1⟩
def F.laneDefMaskExc : Field := ⟨0x8008, 7, 1⟩
def F.laneDefMaskSd : Field := ⟨0x8008, 8, 1⟩
def F.laneDefMaskSf : Field := ⟨0x8008, 9, 1⟩
def F.laneDefMaskSeq : Field := ⟨0x8008, 10, 1⟩
def F.laneDefMaskRd : Field := ⟨0x8008, 11, 1⟩
def F.laneDefMaskPath : Field := ⟨0x8008, 12, 1⟩
abbrev Reg.lanePmCfg : Nat := 0xc000
def F.lanePmCfgSdExp : Field := ⟨0xc000, 0, 4⟩
def F.lanePmCfgSfExp : Field := ⟨0xc000, 4, 4⟩
def F.lanePmCfgSdsfEn : Field := ⟨0xc000, 8, 1⟩
abbrev Reg.lanePmStat : Nat := 0xc004
def F.lanePmStatSdUsed : Field := ⟨0xc004, 0, 4⟩
def F.lanePmStatSfUsed : Field := ⟨0xc004, 4, 4⟩
def F.lanePmStatClamp : Field := ⟨0xc004, 8, 1⟩
def F.lanePmStatUas : Field := ⟨0xc004, 9, 1⟩
def F.lanePmStatFeUas : Field := ⟨0xc004, 10, 1⟩

end Sys2Proof.Machine
end

