-- ==== Sys2Proof/Machine/Bits.lean ====
section
/-! DEFINITION. Fields of a 32-bit word, and the two forms of counter that the register tables name
(one that wraps and one that saturates). -/

namespace Sys2Proof.Machine

/-- The `len` bits of `w` from bit `lo` up (R5). -/
def getF (w : W32) (lo len : Nat) : Nat := w.toNat / 2 ^ lo % 2 ^ len

/-- `w` with its `len` bits from bit `lo` up replaced by the low `len` bits of `v`. -/
def putF (w : W32) (lo len v : Nat) : W32 :=
  BitVec.ofNat 32 (w.toNat % 2 ^ lo + v % 2 ^ len * 2 ^ lo + w.toNat / 2 ^ (lo + len) * 2 ^ (lo + len))

/-- The next value of a counter of `len` bits that stays at its greatest value. -/
def satInc (len v : Nat) : Nat := if v + 1 < 2 ^ len then v + 1 else 2 ^ len - 1

/-- `a + b` for a counter of `len` bits that stays at its greatest value. -/
def satAdd (len a b : Nat) : Nat := if a + b < 2 ^ len then a + b else 2 ^ len - 1

/-- The bit that a Bool stands for. -/
def bitOf (b : Bool) : Nat := if b then 1 else 0

/-- Byte `i` of a word, byte 0 at its lowest address (R10). -/
def byteOf (w : W32) (i : Nat) : Byte := BitVec.ofNat 8 (w.toNat / 2 ^ (8 * i))

/-- A word with byte `i` replaced. -/
def putByte (w : W32) (i : Nat) (b : Byte) : W32 := putF w (8 * i) 8 b.toNat

/-- The mask of the bytes that a byte-enable selects. -/
def beMask (be : BitVec 4) : Nat :=
  (if be.getLsbD 0 then 0xFF else 0) + (if be.getLsbD 1 then 0xFF00 else 0)
    + (if be.getLsbD 2 then 0xFF0000 else 0) + (if be.getLsbD 3 then 0xFF000000 else 0)

/-- The word that four bytes form, the first at the lowest address (R10). -/
def wordOfBytes (b0 b1 b2 b3 : Byte) : W32 :=
  BitVec.ofNat 32 (b0.toNat + b1.toNat * 0x100 + b2.toNat * 0x10000 + b3.toNat * 0x1000000)

/-- The field in lane page `n` (0 to 95 LANE, 96 to 103 MLANE; R654). -/
def Field.lane (n : Nat) (f : Field) : Field := { f with off := 0x1_0010_0000 + n * 0x1_0000 + f.off }

/-- The field of the common header in page `p` (R656). -/
def Field.page (p : Nat) (f : Field) : Field := { f with off := 0x1_0000_0000 + p * 0x1_0000 + f.off }

/-- The field in element `i` of an array of registers `stride` bytes apart. -/
def Field.at (stride i : Nat) (f : Field) : Field := { f with off := f.off + stride * i }

/-- The bus address of a register of lane page `n`. -/
def laneAddr (n off : Nat) : Nat := 0x1_0010_0000 + n * 0x1_0000 + off

/-- The bus address of a register of page `p`. -/
def pageAddr (p off : Nat) : Nat := 0x1_0000_0000 + p * 0x1_0000 + off

end Sys2Proof.Machine
end

