-- ==== Sys2Proof/Machine/Crc.lean ====
section
/-! DEFINITION. The checks over byte strings that the spec uses: CRC-32 (R259), CRC-16 (R240, R343), and BIP-8. -/

namespace Sys2Proof.Machine

/-- One bit of a CRC whose register shifts towards its least significant bit. -/
def crcStepR (poly r : Nat) : Nat := if r % 2 = 1 then (r / 2) ^^^ poly else r / 2

/-- Eight bits of it. -/
def crcByteR (poly r : Nat) (b : Byte) : Nat :=
  (List.range 8).foldl (fun x _ => crcStepR poly x) (r ^^^ b.toNat)

/-- The register of the CRC-32 of R259 after the bytes, without the final XOR. -/
def crc32Run (r : Nat) (l : List Byte) : Nat := l.foldl (crcByteR 0xEDB8_8320) r

/-- CRC-32 (R259). -/
def crc32 (l : List Byte) : Nat := crc32Run 0xFFFF_FFFF l ^^^ 0xFFFF_FFFF

/-- One bit of a CRC of `w` bits whose register shifts towards its most significant bit. -/
def crcStep (w poly r : Nat) : Nat :=
  if r / 2 ^ (w - 1) % 2 = 1 then (r * 2 % 2 ^ w) ^^^ poly else r * 2 % 2 ^ w

/-- A CRC of `w` bits, 8 at least, over bytes, bit 7 of each first. -/
def crcMsb (w poly init : Nat) (l : List Byte) : Nat :=
  l.foldl (fun r b => (List.range 8).foldl (fun x _ => crcStep w poly x) (r ^^^ (b.toNat * 2 ^ (w - 8)))) init

/-- The CRC-16 with generator x^16 + x^12 + x^5 + 1 and initial value 0 (R240). -/
def crc16 (l : List Byte) : Nat := crcMsb 16 0x1021 0 l

/-- The CRC-7 with generator x^7 + x^3 + 1 and initial value 0 (R155). -/
def crc7 (l : List Byte) : Nat := crcMsb 8 0x12 0 l / 2

/-- One byte of the frame-synchronous sequence 1 + x^6 + x^7 from the register `r`, and the register after it (R145). -/
def scrByte (r : Nat) : Nat × Nat :=
  (List.range 8).foldl (fun x _ =>
    (x.1 * 2 % 256 + x.2 / 64, x.2 * 2 % 128 + (x.2 / 64 + x.2 / 32 % 2) % 2)) (0, r)

/-- Bytes scrambled, or descrambled, from the register `r` on. -/
def scramble : Nat → List Byte → List Byte
  | _, [] => []
  | r, b :: t => (b ^^^ BitVec.ofNat 8 (scrByte r).1) :: scramble (scrByte r).2 t

/-- Bit-interleaved parity over bytes: even parity of each bit position. -/
def bip8 (l : List Byte) : Byte := l.foldl (fun a b => a ^^^ b) 0

/-- The number of bits of a byte that are 1. -/
def popByte (b : Byte) : Nat := ((List.range 8).filter (fun i => b.getLsbD i)).length

/-- The bytes of a number, `n` of them, most significant first (R9). -/
def bytesOf (n v : Nat) : List Byte := (List.range n).map (fun i => BitVec.ofNat 8 (v / 2 ^ (8 * (n - 1 - i))))

/-- The number that bytes form, most significant first (R9). -/
def numOf (l : List Byte) : Nat := l.foldl (fun a b => a * 256 + b.toNat) 0

end Sys2Proof.Machine
end

