-- ==== Sys2Proof/Config.lean ====
section
/-! DEFINITION. The values that the spec leaves open: opaque constants of the model, of which nothing can be proved. A
free value is applied to a counter in the state or to the operands it depends on (notes/assumptions). -/

namespace Sys2Proof

/-- A free byte, word and number: fresh at each draw, since each draw advances the counter `State.dev.fresh`. -/
opaque Config.freeByte : Nat → Byte
opaque Config.freeWord : Nat → W32
opaque Config.freeNat : Nat → Nat

/-- What the Whisk reads for a source slot that does not exist (a selector leg or a direct entry outside R293). -/
opaque Config.noSource : Nat → Nat → Byte

/-- The byte that a slot of an ingress frame holds where a container's realigned content stands (R207 to R212): by the
frame's draw and the slot. -/
opaque Config.content : Nat → Nat → Byte

/-- What receive equalisation of a lane has adapted to at a time (R62). -/
opaque Config.adaptedBoost : Nat → Nat → Nat

/-- The boot ROM: its bytes and its version (R518, R604). -/
opaque Config.romByte : Nat → Byte
opaque Config.romVersion : W32

/-- What manufacture writes into the OTP (R587): the vendor key hash; and the device public key, X then Y, that R588 derives the
device ID from. -/
opaque Config.vendorKeyHash : List Byte
opaque Config.deviceKey : List Byte

/-- ECDSA P-256 over the SHA-256 of a message (R570, R590): whether a signature verifies under a public key, and the device's own
signature, r then s. -/
opaque Config.ecdsaVerify : List Byte → List Byte → List Byte → Bool
opaque Config.deviceSign : List Byte → List Byte

/-- How many ticks after a cold reset the SRAM is tested and zeroed, which the spec does not say (R510, R542). Where the SRAM keeps things,
as far as it does not lay them out (R502, R507): the sub-bank that holds a stretch of 4,096 bytes of the pools; the 64-bit word of the SRAM that holds a
word of a table window, by the number of either; and which of the sub-banks that may replace one does, by the replacements made before it. -/
opaque Config.sramTest : Nat
opaque Config.subbankOf : Nat → Nat
opaque Config.windowWord : Nat → Nat
opaque Config.replacement : Nat → Nat → Nat

/-- Which HBM3 unit buffers a VCAT member, and which a merge pair, which the spec does not say (R516). -/
opaque Config.delayUnit : Nat → Nat
opaque Config.mergeUnit : Nat → Nat

/-- What a VCAT source sends as the group ID bit of a control packet, by group and multiframe, and the CID of a CSF frame of a group
with extension headers, which the spec does not say (R345, R350). -/
opaque Config.gid : Nat → Nat → Bool
opaque Config.csfCid : Nat → Byte

end Sys2Proof
end

