-- ==== Sys2Proof/Machine/Store.lean ====
section
/-! DEFINITION. Sparse tables in one canonical form: a list of key and value pairs, keys strictly rising, no entry
equal to what an unlisted key reads as. The registers, the table windows, the memories and the engines' per-instance
state are kept so. -/

namespace Sys2Proof.Machine

/-- A table from numbers to values of `α`, as data. -/
abbrev Store (α : Type) := List (Nat × α)

/-- What the table holds at key `k`; `d` gives what an unlisted key reads as. -/
def Store.get {α : Type} (d : Nat → α) : Store α → Nat → α
  | [], k => d k
  | (j, v) :: t, k => if j = k then v else Store.get d t k

/-- The table without key `k`. -/
def Store.drop {α : Type} : Store α → Nat → Store α
  | [], _ => []
  | (j, v) :: t, k => if j = k then Store.drop t k else (j, v) :: Store.drop t k

/-- The table with the pair put in before the first greater key. -/
def Store.put {α : Type} : Store α → Nat → α → Store α
  | [], k, v => [(k, v)]
  | (j, w) :: t, k, v => if k < j then (k, v) :: (j, w) :: t else (j, w) :: Store.put t k v

/-- The table with `v` at key `k`; a value that an unlisted key reads as leaves no entry. -/
def Store.set {α : Type} [DecidableEq α] (d : Nat → α) (s : Store α) (k : Nat) (v : α) : Store α :=
  if v = d k then Store.drop s k else Store.put (Store.drop s k) k v

/-- Every key of the table is greater than `k`. -/
def Store.above {α : Type} (k : Nat) : Store α → Bool
  | [] => true
  | (j, _) :: t => decide (k < j) && Store.above k t

/-- The canonical form: keys strictly rising, no entry equal to what an unlisted key reads as. -/
def Store.wf {α : Type} [DecidableEq α] (d : Nat → α) : Store α → Bool
  | [] => true
  | (j, v) :: t => Store.above j t && !decide (v = d j) && Store.wf d t

/-- The table without the keys for which `p` answers false. -/
def Store.keep {α : Type} (p : Nat → Bool) : Store α → Store α
  | [] => []
  | (j, v) :: t => if p j then (j, v) :: Store.keep p t else Store.keep p t

end Sys2Proof.Machine
end

