-- ==== Sys2Proof/Machine/Parts.lean ====
section
/-! DEFINITION. The parts of `State` that are not registers: what the engines hold between commands. Each part is plain
data; its docstring names the rules that give it. -/

namespace Sys2Proof.Machine


/-- The states of a Sieve slot (R95). -/
inductive SlotState where
  | free | cand | trial | alt | active | barred
deriving DecidableEq, Repr

/-- A Sieve slot (R93): a hypothesis, its state and what its tests have seen. `pos` is the byte position (for a GFP
stream the stream position of its latest core header). -/
structure Slot where
  st : SlotState := .free
  pos : Nat := 0
  rot : Nat := 0
  /-- Consecutive correct marks; a demoted ACTIVE starts at 1 (R108). -/
  run : Nat := 0
  /-- The value of `run` at which the candidate confirms (R113, R119, R129). -/
  need : Nat := 0
  /-- Consecutive missing or wrong marks of a TRIAL or ALT (R102, R95). -/
  miss : Nat := 0
  /-- Agreeing and disagreeing tests of the round (R114, R131). -/
  agree : Nat := 0
  disagree : Nat := 0
  /-- The decision of the slot's test in the round (R102). -/
  passed : Option Bool := none
  /-- It confirmed in the open decision window (R101). -/
  inWindow : Bool := false
  /-- It confirmed while a trial without an ACTIVE ran (R106). -/
  waiting : Bool := false
  /-- It won a trial and becomes ACTIVE from its next mark (R103, R695). -/
  won : Bool := false
  /-- It took over and is judged at its next mark (R109, R137). -/
  takeover : Bool := false
  /-- Expected mark positions passed since it was barred (R95). -/
  barred : Nat := 0
  /-- Tustra: blocks since the test began; the block and the sequence number of the latest frame with FS = 1 in its
  block 0 and a readable number; the block and the low half of the number of a frame that has just begun (R124). -/
  blocks : Nat := 0
  fsAt : Option (Nat × Nat) := none
  fsCur : Option (Nat × Nat) := none
  /-- Tustra: the index of the slot's next block, and whether FS was right at each block 0 since the test (R126). -/
  phase : Nat := 0
  fsOk : Bool := false
  /-- GFP: the last 43 payload bits received (R341), and the PLI of the latest core header, which places the next (R129). -/
  scr : Nat := 0
  pli : Nat := 0
deriving DecidableEq, Repr

/-- A Sieve instance (R93): its slots, the candidate whose next mark closes the decision window, the trial round
(0 when no trial without an ACTIVE runs), the configuration in force (R139), and the ACTIVE's count of consecutive
errored marks (R115, R121, R130). -/
structure Sieve where
  slots : List Slot := List.replicate 8 {}
  first : Option Nat := none
  round : Nat := 0
  cfg : W32 := 0
  errors : Nat := 0
deriving DecidableEq, Repr

/-- What the transmitter of a LINE lane puts into the overhead of the frame it sends (R142, R174 to R183). -/
structure LineSent where
  ais : Bool := false
  rdi : Bool := false
  j0 : Byte := 0
  k1 : Byte := 0
  k2 : Byte := 0
  s1 : Byte := 0
  m1 : Byte := 0
  m0 : Byte := 0
  /-- RS DCC, MS DCC, E1, F1 and E2, in ring order (R179). -/
  channels : List Byte := []
  /-- Bit 0 of B1, and of B2 byte 0, is sent inverted; A1 is sent as 0xF7; the frame is scrambled (R147, R154). -/
  b1Inverted : Bool := false
  b2Inverted : Bool := false
  fasErr : Bool := false
  scrambled : Bool := true
  /-- `FORCE_MSAIS` was 1 at the frame's start (R175). -/
  forced : Bool := false
deriving DecidableEq, Repr

/-- A run of equal values in consecutive frames (R164, R177, R224). -/
structure Run where
  value : Nat := 0
  count : Nat := 0
deriving DecidableEq, Repr

/-- Trace reception (R155 to R158, R225): the message in progress, the last complete message and how many consecutive
complete messages equalled it. `lastTwo` finds the start of a message of 64 bytes. -/
structure TraceRx where
  part : Option (List Byte) := none
  lastTwo : Byte × Byte := (0, 0)
  message : List Byte := []
  count : Nat := 0
deriving DecidableEq, Repr

/-- What the Line Processor of a LINE lane holds (04_section_overhead.md). -/
structure Soh where
  /-- The parities computed over the last received frame; none when the next frame is not compared with them (R153). -/
  b1Own : Option Byte := none
  b2Own : Option (List Byte) := none
  trace : TraceRx := {}
  /-- K1 and K2[7:3], K2[2:0] and S1[3:0] of the last frames (R164, R177). -/
  k : Run := {}
  k2l : Run := {}
  s1 : Run := {}
  /-- Counted frames since the last K acceptance (R165). -/
  kSince : Nat := 0
  /-- Consecutive frames with and without K2[2:0] = 0b111, and 0b110 (R169). -/
  ais : Nat := 0
  noAis : Nat := 0
  rdi : Nat := 0
  noRdi : Nat := 0
  /-- Consecutive frames with at least 6 N, and at most 3 N, B2 violations (R381). -/
  exc : Nat := 0
  noExc : Nat := 0
  /-- B2 violations of the frames completed since the last M1 sent (R176). -/
  reiPending : Nat := 0
  /-- The expected and the transmitted message in force (R696), the transmit mode in force and the next byte to send. -/
  expected : List Byte := List.replicate 64 0
  sending : List Byte := List.replicate 64 0
  txMode : Nat := 1
  txPos : Nat := 0
  /-- MS-RDI is due to be sent (R173), and a B1 or B2 inversion waits for the next frame (R154). -/
  rdiDue : Bool := false
  /-- The last accepted K1 with a valid request code (R453). -/
  kLast : Nat := 0
  insB1 : Bool := false
  insB2 : Bool := false
  sent : LineSent := {}
  /-- B1 and B2 of the frame being sent: the parities over the frame before it (R148, R149). -/
  b1Sent : Byte := 0
  b2Sent : List Byte := []
deriving DecidableEq, Repr

/-- A packet (R258 to R261, R359): its flow ID, the class of its blocks, the lane that brought it or will send it, and its data bytes. -/
structure Packet where
  flow : Nat := 0
  cls : Nat := 0
  lane : Nat := 0
  data : List Byte := []
deriving DecidableEq, Repr

/-- A block header as the receiver takes it (R239, R240). -/
structure TuHdr where
  ok : Bool
  corrected : Bool
  type : Nat
  fs : Bool
  field8 : Byte
  arg : Nat
deriving DecidableEq, Repr

/-- A PACKET block of a frame being sent (R257, R258): its index, FIELD8, the flow ID, and its payload. -/
structure TuPlan where
  block : Nat
  field8 : Byte
  flow : Nat
  load : List Byte
deriving DecidableEq, Repr

/-- One shed class of a bank: its number, its first block and its slots in packing order (R266). -/
structure TuClass where
  cls : Nat
  first : Nat
  slots : List Nat
deriving DecidableEq, Repr

/-- What a Tustra lane sends in its frame (R246, R252, R253, R268, R273, R274). -/
structure TuSent where
  /-- The time at which the frame started. -/
  start : Nat := 0
  seq : Nat := 0
  rd : Bool := false
  seqDefect : Bool := false
  bank : Nat := 0
  cap : Nat := 0
  capFrom : Nat := 0
  /-- The shed classes carried in CONTAINER blocks, as the frame's start found them (R273, R649). -/
  classes : List TuClass := []
  grants : List Nat := []
  packets : List Packet := []
  /-- The PACKET blocks of the frame, and how many of its packets have been sent to their end. -/
  plan : List TuPlan := []
  ended : Nat := 0
  /-- A mate lane that the pair uses was in FRAME as its frame started (R472, R484, R500). -/
  mateOn : Bool := false
deriving DecidableEq, Repr

/-- A block of a copy of a merge pair as it arrived (R279): its index, the time at which it was complete, its header, and its descrambled
payload. -/
structure CopyBlk where
  block : Nat
  arrived : Nat
  hdr : TuHdr
  load : List Byte
deriving DecidableEq, Repr

/-- A frame of a copy of a merge pair in its buffer (R279): its number, the blocks that have arrived, and whether one of them came after its
release time (R278). -/
structure CopyFrame where
  seq : Nat
  blocks : List CopyBlk := []
  late : Bool := false
  /-- What is left in the place of the frame before it. -/
  oldSeq : Nat := 0
  old : List CopyBlk := []
deriving DecidableEq, Repr

/-- The release of a merge pair (R279): the frame being released, its release point, and the block that is released next. -/
structure Release where
  seq : Nat
  point : Nat
  next : Nat := 0
deriving DecidableEq, Repr

/-- What the Tustra Engine holds for a lane (06_tustra_frame.md). -/
structure TuRx where
  /-- The index of the next block (FRAME); blocks since the proposed block 0 (BLOCK, R122). -/
  next : Nat := 0
  proposed : Option Int := none
  /-- An FS error in this frame, and consecutive frames with one (R123). -/
  fsErr : Bool := false
  fsErrFrames : Nat := 0
  /-- A slip repeats the last blocks of the frame before the one in progress (R135). -/
  tailAgain : Bool := false
  /-- Descrambled payloads of the frame by block, its blocks that came as other than CONTAINER without failing HCS (R275), and those that
  failed it while a packet was open (R261). -/
  buf : List (Nat × List Byte) := []
  other : List Nat := []
  failed : List Nat := []
  /-- The ARG of block 0, where it passed; the number expected next (R249), and the last one received (R251); frames out of order and in
  order, and the last frame's distance above 2^20 (R250). -/
  seqLow : Option Nat := none
  expect : Option Nat := none
  seen : Nat := 0
  seqBad : Nat := 0
  seqOk : Nat := 0
  far : Bool := false
  /-- A slip moved block 0 or 1: by a removal, or by a repeat (R251). -/
  slip : Option Bool := none
  /-- Consecutive frames with RD = 1, and with RD = 0 (R252). -/
  rd : Nat := 0
  noRd : Nat := 0
  /-- The grants received since the last transmit frame start (R254). -/
  grants : List Nat := List.replicate 8 0
  /-- The bank that received frames name, once one has named it, with its layout as it was then, none where it was refused, and the
  containers that it names (R267, R275). -/
  rxNamed : Option Nat := none
  rxLayout : Option (List TuClass) := none
  rxBoxes : List (List Nat) := []
  /-- A bank has been selected since `TU_CFG` was last written; the transmit bank in force, with its layout as it was when it was selected
  (R267, R268). -/
  txChosen : Bool := false
  txBank : Nat := 0
  txLayout : Option (List TuClass) := none
  /-- A valid announcement has been received; the edge in force when a late one came (R270); the frame from which the capacity
  applied. -/
  announced : Bool := false
  lateAt : Option Nat := none
  capFrom : Nat := 0
  /-- The first slots of the units that held all-ones in the last frame (R275). -/
  ones : List Nat := []
  /-- The open packet (R260, R261). -/
  pkt : Option Packet := none
  /-- A lane of a merge pair: its copy's buffer, by frame number modulo 8 (R279); block 0 of the frame in reception, before its number is
  known, and that number; frames in a row with, and without, a block that came after its release time (R278), each at most 8; and
  whether a block that failed to arrive in time has been counted in the frame being released (R280). -/
  merge : Store CopyFrame := []
  head : Option CopyBlk := none
  filing : Option Nat := none
  lateRun : Nat := 0
  goodRun : Nat := 0
  missed : Bool := false
  /-- The blocks of the merged stream's frame that came as other than CONTAINER (R275, R282). -/
  mergedOther : List Nat := []
  /-- The primary of a pair: the time at which the pair left DOWN, and its release (R279). -/
  upSince : Option Nat := none
  release : Option Release := none
  sent : TuSent := {}
deriving DecidableEq, Repr

/-- A multiframe alignment (R227, R350): the value expected next, consecutive frames out of sequence, of which two make it out of
multiframe, the latest value while it is, whether OOM is declared, and the frames of OOM or in multiframe, at most 8. -/
structure Mf where
  next : Option Nat := none
  bad : Nat := 0
  last : Option Nat := none
  oom : Bool := false
  frames : Nat := 0
deriving DecidableEq, Repr

/-- What a pointer word does to the place of the VC. -/
inductive PtrAct where
  | same | inc | dec | new (v : Nat) | ais
deriving DecidableEq, Repr

/-- How the bytes of a VC lie in the slots of its unit: the pointer value in force (none before the first one, and in AIS), the action of
the word in force and of the one being read, the place of the next byte within the VC, and the VC slots since position 0. -/
structure Track where
  val : Option Nat := none
  act : PtrAct := .same
  next : PtrAct := .same
  off : Option Nat := none
  pos : Nat := 0
deriving DecidableEq, Repr

/-- What a generated VC takes up at its first byte: the trace message, the REI and the RDI, and `TX_C2` and `TX_SL` where overhead is
generated (R229, R234, R235). -/
structure VcStart where
  msg : List Byte := []
  rei : Nat := 0
  rdi : Bool := false
  gen : Option (Nat × Nat) := none
deriving DecidableEq, Repr

/-- A container whose bytes the device follows through a bank (R214, R222, R228, R483): its place, and V1 of a TU-12 or TU-11; the bytes
of the VC in progress as the bank holds them, newest first; the parity over the VC in progress as it is written, and over the one before
it; the trace message being sent and the place of its byte; the REI and RDI of the VC in progress, and the label that its overhead is
generated with; and what the VCs that have begun in the frame being sent took up, by the slot of their first byte. A point of an egress
port also
holds the digest of its last whole VC, the digests that it reported by frame number, newest first, and those that the mate reported
(R484, R485), and whether its source changes: 2 with the frame to come, 1 with a pointer word that has not been sent (R315). -/
structure VcSt where
  track : Track := {}
  v1 : Byte := 0
  vc : Option (List Byte) := none
  bip : Byte := 0
  last : Byte := 0
  msg : List Byte := []
  mpos : Nat := 0
  rei : Nat := 0
  rdi : Bool := false
  gen : Option (Nat × Nat) := none
  begun : List (Nat × VcStart) := []
  digest : Option W32 := none
  reports : List (Nat × W32) := []
  heard : List (Nat × W32) := []
  moved : Nat := 0
deriving DecidableEq, Repr

/-- Pointer interpretation and overhead monitoring of one point (R199 to R203, R224 to R227): the active value (absent
until NORM) and the words since it last changed; the runs of words of one kind, with the value of the NEW run and of an NDF
word that ended the last word; the words since a restart, at most 8; the fabric side (R208 to R211); and the monitor of the received VC
(R224 to R226). The state itself is `PSTATE` in the status window. -/
structure PathSt where
  active : Option Nat := none
  since : Nat := 0
  aisRun : Nat := 0
  newRun : Nat := 0
  newValue : Nat := 0
  invRun : Nat := 0
  ndfRun : Nat := 0
  ndfValue : Option Nat := none
  concRun : Nat := 0
  otherRun : Nat := 0
  words : Nat := 0
  /-- Justifications accepted on the line and not yet repeated in the fabric (R210). -/
  pendInc : Nat := 0
  pendDec : Nat := 0
  /-- A TU's share of the justifications of the structured container around it, in 87ths of a byte (R210). -/
  share : Int := 0
  /-- A new fabric pointer is due (R208, R211); the time of the last line word or event that asks for a pointer action. -/
  choose : Bool := false
  asked : Nat := 0
  /-- The pointer action that waits for its fabric frame, with that frame's edge; the edge of the frame that carried the last one. -/
  due : Option (Nat × PtrAct) := none
  acted : Option Nat := none
  /-- The place of the VC in the fabric, and the received bytes that wait for their slots; `true` marks the first byte of a VC. -/
  track : Track := {}
  queue : List (Bool × Byte) := []
  /-- The fabric side that the container had when its interpreter left NORM in the frame in progress: it fills the slots before the
  all-ones (R232). -/
  tail : Option (Track × List (Bool × Byte)) := none
  /-- The received VC in progress, the parity over the one before it, and the runs of C2 or the label, of RDI, RFI and K3[7:4]. -/
  vc : Option (List Byte) := none
  bip : Option Byte := none
  label : Run := {}
  rdiRun : Run := {}
  rfiRun : Run := {}
  k3 : Run := {}
  trace : TraceRx := {}
  /-- The accepted trace, and the last comparison's mismatch (R225). -/
  accepted : List Byte := []
  mismatch : Bool := false
  /-- The accepted RDI and RFI (R224). -/
  rdi : Bool := false
  rfi : Bool := false
  /-- Violations of the last frame or multiframe, as REI sends them (R224). -/
  lastViolations : Nat := 0
  /-- The H4 multiframe (R227). -/
  mf : Mf := {}
  /-- The configuration words in force (R234). -/
  cfg : W32 := 0
  trc : W32 := 0
deriving DecidableEq, Repr

/-- The multiplying loop (R72 to R87): before the first acquisition, acquiring for the first lock, locked, in a
transition hold towards an input, on its floor frequency without a reference, or pulling in from the floor. -/
inductive LoopState where
  | idle
  | acquiring (r : Ref)
  | locked (r : Ref)
  | hold (r : Ref)
  | floor
  | pullIn (r : Ref)
deriving DecidableEq, Repr

/-- The Timing Unit. `okA` and `okB` hold the time since which an input has been qualified; `sel` is the
`CLK.REFSEL` value in force and `selPending` whether a later write waits (R85); `firstLock` is the time of the first
lock after a cold reset; `edges` numbers the divider-chain edges since then, and `phase` is how far the chain has been
stepped since, in root periods (R476); `seqBase` is the edge whose frame has the
sequence number 0 (R248); `lrc` the lanes that the recovered-clock outputs carry (R79); `fp8kAt` and `mf2kAt` the times
of the last edges that reached the units (R76). -/
structure Timing where
  loop : LoopState := .idle
  okA : Option Nat := none
  okB : Option Nat := none
  sel : W32 := 0xA02
  selPending : Bool := false
  firstLock : Option Nat := none
  edges : Nat := 0
  phase : Int := 0
  seqBase : Nat := 1
  lrc : List Nat := [0, 0, 0, 0]
  fp8kAt : Option Nat := none
  mf2kAt : Option Nat := none
deriving DecidableEq, Repr

/-- What holds the device in reset (R638, R640). -/
inductive InReset where
  | no | cold | warm
deriving DecidableEq, Repr

/-- Modes, bring-up and shedding (R626 to R647): the bring-ups since cold reset, whether one runs and its last complete
stage; the reset in force, and a `DEV.RESET` pulse that waits for its response to be sent (R639); the time of the last
change of shed level; the occurrences of faults, by channel, with their times (R643); whether HBM3 is still in the self-refresh
of a warm reset (R512, R634). -/
structure Modes where
  bringUps : Nat := 0
  building : Bool := false
  stageDone : Nat := 0
  inReset : InReset := .cold
  warmRequested : Bool := false
  shedChanged : Nat := 0
  faults : List (Nat × Nat) := []
  hbmKept : Bool := false
  /-- The time since which protection decisions are taken (R426, R443). -/
  resumed : Nat := 0
  /-- The device has been in COAST in the second in progress (R398). -/
  coastSeen : Bool := false
  /-- The pages whose skew clock runs, with the time at which it started (R664). -/
  skew : Store Nat := []
  /-- Instances that a `REQ` of OFF has taken out of service and whose engines are still to be reset (R638). -/
  offDue : List Nat := []
deriving DecidableEq, Repr

/-- The elastic store, the CDR and the Sieve's timers of a lane (R60, R63, R78, R116), the configuration in force,
the PRBS generator and checker, and the equaliser (R62, R65 to R67). -/
structure LaneSt where
  cfg : W32 := 5
  sieve : Sieve := {}
  soh : Soh := {}
  tu : TuRx := {}
  cdrSince : Option Nat := none
  cdrLost : Bool := false
  oofSince : Option Nat := some 0
  inFrameSince : Option Nat := none
  /-- The PRBS stream being generated: where its pattern began, and when; the numbers of its inverted bits; and the register of
  the checker, newest bit first (R65 to R67). -/
  gen : Option (Nat × Nat) := none
  flips : List Nat := []
  chk : List Bool := []
  /-- The receive boost in use while adaptation is frozen (R62). -/
  ctle : Nat := 8
  /-- A trace capture is in progress, and the message that it has caught (R237). -/
  capturing : Bool := false
  caught : Option (List Byte) := none
  /-- What the elastic store gave last, up to two rows of the lane's frame (R37, R63). -/
  es : List Byte := []
  /-- The frame that the lane sent last, as its own receiver hears it in NEAR loopback (R68). -/
  looped : List Byte := []
deriving DecidableEq, Repr

/-- How the matrix answers a transaction (R518, R520, R525, R529, R530). -/
inductive Resp where
  | okay | slverr | decerr | aborted
deriving DecidableEq, Repr

/-- The last response that a master was given, with its read data. -/
structure Reply where
  resp : Resp := .okay
  data : List Byte := []
deriving DecidableEq, Repr

/-- A transaction of a master that its target has taken in part (R525 to R530): what it is, its bytes to write, the bytes of
the beats that completed, the data read, its last response, and whether it issues no further beat; the class promotions and the
start of its wait; the data path error that a read of it meets. -/
structure Burst where
  write : Bool := false
  addr : Nat := 0
  len : Nat := 0
  data : List Byte := []
  done : Nat := 0
  got : List Byte := []
  resp : Resp := .okay
  ended : Bool := false
  beats : Nat := 0
  /-- What is added to an address: the zero window leads elsewhere (R518, R521). -/
  shift : Nat := 0
  rises : Nat := 0
  since : Nat := 0
  ecc : EccSeen := .clean
deriving DecidableEq, Repr

/-- On-chip SRAM and HBM3 (R502 to R517): the time of the last uncorrectable error of either; the sub-bank whose contents are
being moved, and whether the copy is complete and waits for its edge; the sub-banks retired; the sub-bank that serves the addresses of another
one, where that is not itself (R507); the sub-banks and pseudo-channels whose faults are permanent and that are not yet retired; the poisoned words, as sub-bank and word; the times at which the scrub
passes over SRAM and HBM3 began, later by the time that they stood still since; and when they stopped (R504). -/
structure MemSt where
  ueAt : Option Nat := none
  copy : Option (Nat × Bool) := none
  retired : List Nat := []
  serve : List (Nat × Nat) := []
  due : List Nat := []
  pcDue : List Nat := []
  poison : List (Nat × Nat) := []
  scrubAt : Nat := 0
  hbmScrubAt : Nat := 0
  scrubStop : Option Nat := none
deriving DecidableEq, Repr

/-- A transaction of the Host Control Port (R536 to R540, R551). -/
structure PortTxn where
  cmd : Nat := 0
  addr : Nat := 0
  len : Nat := 0
  data : List Byte := []
  status : Nat := 0
  cause : Nat := 0
  count : Nat := 0
deriving DecidableEq, Repr

/-- The Host Control Port (R535 to R558): the READ or WRITE in progress, whose beats are the burst of master 0, and whether its
response has been given as TIMEOUT; the posted writes that wait to commit, oldest first; whether it ignores `HD` until
`HSS_N` rises; the times from which it accepts headers, from which SRAM targets are initialised (R542), and at which the host had
sent its last byte of the READ or WRITE; and the bytes that it sent last. -/
structure Port where
  cur : Option PortTxn := none
  timedOut : Bool := false
  posted : List PortTxn := []
  ignoring : Bool := false
  readyAt : Nat := 0
  sramAt : Nat := 0
  curAt : Nat := 0
  sent : List Byte := []
deriving DecidableEq, Repr

/-- What a PMP entry permits in one privilege mode (R565). -/
structure PmpRights where
  r : Bool := false
  w : Bool := false
  x : Bool := false
deriving DecidableEq, Repr

/-- A PMP entry (R565): the processor addresses that it matches, what it permits in machine mode and in user mode, and whether it is
locked. -/
structure PmpEntry where
  first : Nat
  last : Nat
  machine : PmpRights
  user : PmpRights
  locked : Bool := false
deriving DecidableEq, Repr

/-- The one-time programmable memory (R587): the customer key hash, the anti-rollback counter, the three lifecycle fuses, and
whether the device private key has been burnt (R595). -/
structure Otp where
  custHash : Option (List Byte) := none
  rollback : Nat := 0
  provisioned : Bool := false
  locked : Bool := false
  gone : Bool := false
  keyBurnt : Bool := false
deriving DecidableEq, Repr

/-- The Management Subsystem (14_management_and_security.md): the running image, as its slot (0 A, 1 B, 2 recovered) and header;
the PMP regions that hardware sets; whether a debugger halts the hart; when the watchdog's count and a trial began; the firmware
command that runs, with its slot; whether a nonce may be used; the level of an unlock session; and the instruction of the test
access port. -/
structure Mgt where
  otp : Otp := {}
  image : Option (Nat × List Byte) := none
  pmp : List PmpEntry := []
  halted : Bool := false
  wdogAt : Nat := 0
  trialAt : Option Nat := none
  fw : Option (Nat × Nat) := none
  nonce : Bool := false
  session : Option Nat := none
  tap : BitVec 5 := 1
  testmode : Bool := false
  /-- When a debugger halted the hart; the status and data of the last DMI access (R597, R598); the level that the anti-rollback
  counter is to reach (R580). -/
  haltAt : Nat := 0
  dmiStatus : Nat := 0
  dmiData : W32 := 0
  fuseTarget : Nat := 0
deriving DecidableEq, Repr

/-- The panel controller (15_panel_and_modules.md R606 to R613): per input, the consecutive samples that differ from its debounced state and the
time at which it was debounced as pressed; whether each electrode samples as pressed, and the time of its last baseline step; per cage,
the run of samples; the inputs of a pair that has fired and not been released (R613); the LED bits shifted in the last cycle and
those on the outputs. -/
structure Panel where
  runs : List Nat := List.replicate 20 0
  heldAt : List Nat := List.replicate 20 0
  touch : List Bool := List.replicate 4 false
  stepAt : List Nat := List.replicate 4 0
  cages : List Nat := List.replicate 104 0
  fired : List Nat := []
  shifted : List Bool := []
  lit : List Bool := []
  scanAt : Option Nat := none
  buses : List (Bool × Nat) := List.replicate 4 (false, 0)
deriving DecidableEq, Repr

/-- A heartbeat path (R473): up, and lost, with the misses in a row, the heartbeats in a row, and the time of the last of either. -/
structure HbState where
  up : Bool := false
  lost : Bool := false
  misses : Nat := 0
  good : Nat := 0
  last : Nat := 0
deriving DecidableEq, Repr

/-- A message on the mate lanes that waits for a block (R499, R500): the time from which it does, its type, its FIELD8, its payload (of a
CONTROL block from byte 1 on), and the mate lane that it must use. -/
structure MateMsg where
  since : Nat
  type : Nat
  field8 : Byte
  load : List Byte
  lane : Option Nat := none
deriving DecidableEq, Repr

/-- A record's item as the re-verification list names it (R494). -/
structure Reverify where
  kind : Nat
  key : Nat
deriving DecidableEq, Repr

/-- The Lid and the mate's report (11_paired_operation.md). `drive0` and `drive1` say whether the device drives
`LID0_N` and `LID1_N` low; `seizing` when its first line went low (R468); `released` when it gave up the Lid deliberately
(R467); `items` the records of the state copy that the mate has not acknowledged, as kind, key and window of the last change,
oldest first (R491); `commit` the target of an AT_SEQ commit that goes with them (R481); `stopped` a copy that has stopped
(R493); `rx` the STATE blocks received for epochs whose END has not arrived, as epoch, index and payload (R494); `atLoss` the items that the loss of the mate
listed while that loss lasts; `beatSeq` the sequence number of the last heartbeat on the lane path (R473); `echoed` that the delay of the mate lane has
been measured in the alignment in progress (R476); `mismatches` the frames of the last digest mismatches, newest first (R486). -/
structure Mate where
  drive0 : Bool := false
  drive1 : Bool := false
  seizing : Option Nat := none
  released : Option Nat := none
  lane : HbState := {}
  side : HbState := {}
  excluded : List Nat := []
  service : Bool := false
  shed : Nat := 0
  interlock : Bool := false
  sentLane : Option Nat := none
  sentSide : Option Nat := none
  items : List (Nat × Nat × Nat) := []
  commit : Option Nat := none
  sentEpoch : Option Nat := none
  stopped : Bool := false
  rx : List (Nat × Nat × List Byte) := []
  atLoss : List Reverify := []
  beatSeq : Option Nat := none
  echoed : Bool := false
  snapDone : Bool := false
  final : Option W32 := none
  mismatches : List Nat := []
  /-- A self-check waits for its outcome (R488); the time at which both sides passed; the mate's lane health. -/
  checking : Bool := false
  passAt : Option Nat := none
  health : Option (BitVec 96) := none
  /-- The messages that wait for a block, in order (R500). -/
  out : List MateMsg := []
deriving DecidableEq, Repr

/-- What an MSP group or an SNCP selector holds (R433 to R443). Channel 0 is the protection lane, or leg B of a selector, and
channel 1 up are the working lanes, or leg A: the stored commands with the time of an EXERCISE; the conditions that hold, as
channel, SF and onset; those raised as requests; the working channel whose failure made the switch; the channel and start of
a WTR; the channel of DNR; the channel selected from protection by the last decision and K1 and K2 as it gave them; what has
been applied of them; the protocol failures, and since when the state that detects or clears each one is seen (R453); and the command
accepted last, as `PROT.MSP_REQg` (R499). -/
structure ProtSt where
  lockout : Bool := false
  forced : Option Nat := none
  manual : Option Nat := none
  exercise : Option Nat := none
  exerciseAt : Nat := 0
  onset : List (Nat × Bool × Nat) := []
  raised : List (Nat × Bool) := []
  fail : Option Nat := none
  wtr : Option (Nat × Nat) := none
  dnr : Option Nat := none
  selected : Nat := 0
  k1 : Byte := 0
  k2 : Byte := 0
  applied : Nat := 0
  sentK1 : Byte := 0
  sentK2 : Byte := 0
  pam : List PamKind := []
  pamAt : List (PamKind × Nat × Nat) := []
  command : Nat := 0
deriving DecidableEq, Repr

/-- A decided change that waits for its edge (R440, R479): `SEL` of a selector, K1 and K2 of a group, and the channel that a
group selects. -/
inductive ProtItem where
  | sel (i : Nat) (leg : Bool)
  | k (g : Nat) (k1 k2 : Byte)
  | chan (g c : Nat)
deriving DecidableEq, Repr

/-- What a run of the checker examines: a map, and the registers and tables as they stood at its start (R309, R321). -/
structure MapSnap where
  map : Store W32 := []
  words : Store W32 := []
deriving DecidableEq, Repr

/-- The Groomer between commands (R304 to R325): the running command and its slot (R307), what CHECK or VERIFY_ACTIVE examines (R309), the
verification that an epoch started or left due (R321), the CHECKED flag of a running LIB_SAVE (R319), the edge count at ARM (R312), whether
INVALIDATE ended the last commit (R325), the selector legs at the last swap (R304), the range and value of a running
FILL, and whether no step has been taken since the last swap (R323). -/
structure Grm where
  running : Option (Nat × Nat) := none
  snap : MapSnap := {}
  epochSnap : Option MapSnap := none
  epochDue : Bool := false
  savedChecked : Bool := false
  armedAt : Nat := 0
  invalidated : Bool := false
  swapped : Bool := false
  legs : Store W32 := []
  fill : Nat × Nat × W32 := (0, 0, 0)
  pristine : Bool := false
  /-- The entries that the present pass of the Whisk reads as uncorrectable (R298). -/
  ue : List Nat := []
  /-- The shadow as it stood when the running LIB_SAVE started (R319); the processor SRAM and HBM3 as a running LIB_LOAD found the slot,
  and the CRC of the descriptor that it read first (R318). -/
  saved : Store W32 := []
  loadMem : List Host.Cell := []
  loadCrc : Nat := 0
  /-- The time of the last change of `GRM.ENT_UE` (R487). -/
  entUeAt : Option Nat := none
deriving DecidableEq, Repr

/-- What fills a container in place of what it carries (R200, R231): all-ones, 0x00, or, of a structured one, an AU pointer of value 0. -/
inductive PanFill where
  | ones | zeros | top
deriving DecidableEq, Repr

/-- One bank of the Twin Pans, of all 104 ports (R285): the bytes written, by 155,520 q + s; the ports that hold all-ones, with the slot
from which they do (R31, R32, R172), and of them the idle ones, which hold them over their configured structure (R31); the ports whose frame began with content, whose units hold free bytes of the draw
`base` where nothing else says what they hold; by the first slots of the containers of lanes, what fills them, newest first, with the slot
from which it does (R200, R231, R232); the containers of flow ports that hold 0x00 where nothing is written; and what every other slot
holds. -/
structure Pan where
  bytes : Store Byte := []
  ais : Store Nat := []
  idle : List Nat := []
  live : List Nat := []
  base : Nat := 0
  units : Store (List (Nat × PanFill)) := []
  zeros : List Nat := []
  dflt : Byte := 0
deriving DecidableEq, Repr

/-- The Packet Staging Queue (R363 to R370): the packets of the L2F filling bank in order of commitment; the packets of
the F2L filling bank; those that their lanes could not send in this frame; and the lane served first. -/
structure Psq where
  l2f : List Packet := []
  f2l : List Packet := []
  back : List Packet := []
  first : Nat := 0
  /-- The flow served last on a lane in a class, by 8 n + c (R358, R369). -/
  served : Store Nat := []
deriving DecidableEq, Repr

/-- The two halves of a context's queue in the Flow Store (R359). -/
structure FlowQ where
  l2f : List Packet := []
  f2l : List Packet := []
deriving DecidableEq, Repr

/-- One second of a record as R395 classifies it, near end and far end: 0 neither, 1 ES, 2 SES, with the errored blocks; and
an ES of the regenerator section. -/
structure Second where
  near : Nat := 0
  nearEb : Nat := 0
  far : Nat := 0
  farEb : Nat := 0
  rs : Bool := false
deriving DecidableEq, Repr

/-- The seconds of a record that wait for settlement, newest first (R396, R397), and its unavailable states. -/
structure Seconds where
  wait : List Second := []
  uas : Bool := false
  feUas : Bool := false
deriving DecidableEq, Repr

/-- An estimator of SD or SF (R384, R386, R390): the slices of its window, newest first; the edge at which its last slice ended; and
whether a write of its configuration makes its window start again at the next slice boundary. -/
structure EstSt where
  slices : List Nat := []
  ended : Option Nat := none
  restart : Bool := false
deriving DecidableEq, Repr

/-- A bin in progress or just closed: its first epoch, its invalid seconds, and whether it closes short (R404, R406). -/
structure BinSt where
  first : Nat := 1
  invalid : Nat := 0
  short : Bool := false
deriving DecidableEq, Repr

/-- A second that waits for a pass of the Ladle (R399, R400): its epoch, with the time base and the tick of its edge; whether it is invalid
or its processing late; the baselines due in it, by counter key; whether both bins close with it, and the bin phase at its edge (R404); and
its counts. -/
structure Pass where
  epoch : Nat := 0
  tb : Nat := 0
  since : Nat := 0
  invalid : Bool := false
  late : Bool := false
  due : List (Nat × Nat) := []
  closing : Bool := false
  phase : Nat := 0
  acc : Store Nat := []
deriving DecidableEq, Repr

/-- The Ladle (R399 to R410): the edge of the last epoch; whether a pass waits, and which; the seconds that follow it where edges have come
in a warm reset (R400); baselines recorded; the seconds that wait, by record; the bins; the slots that the last ten seconds belong to, newest
first, and closed bins whose header still shows PROV, with the passes left; the dump record written next; a gap in the records; and whether
`RD_SEL` and `WR_SEL` were last written with a kind that the catalogue does not define. -/
structure Ladle where
  edge : Nat := 0
  waits : Bool := false
  pass : Pass := {}
  more : List Pass := []
  base : List (Nat × Nat) := []
  seconds : Store Seconds := []
  b15 : BinSt := {}
  b24 : BinSt := {}
  align : Bool := false
  slots : List (Nat × Nat) := []
  prov : List (Nat × Nat) := []
  record : Nat := 0
  gap : Bool := false
  rdBad : Bool := false
  wrBad : Bool := false
  /-- The divider chain was stepped in the second in progress (R477); counters of a retired unit were lost in it (R516). -/
  stepped : Bool := false
  wiped : Bool := false
deriving DecidableEq, Repr

/-- A unit that the Skewer has tagged and that is in the pipeline (R416, R417): its serial, kind, source and word 1; the time base at its
first stamp; and its stamps, oldest first, as stage and tick. -/
structure TaggedUnit where
  serial : Nat
  kind : Nat
  source : Nat
  word1 : Nat
  tb : Nat
  stamps : List (Nat × Nat)
deriving DecidableEq, Repr

/-- The Skewer (R416 to R419): the tagged units in the pipeline, and the records that wait in its buffer, oldest first. -/
structure Skewer where
  held : List TaggedUnit := []
  waiting : List (List Nat) := []
deriving DecidableEq, Repr

/-- A bandwidth monitor (R412, R413): the edge at which its window begins, the bytes counted in it, and those counted since its last frame
ended. -/
structure BwSt where
  start : Nat := 0
  bytes : Nat := 0
  after : Nat := 0
deriving DecidableEq, Repr

/-- What the Flow Engine holds for a group: runs of frames whose EXI differs from, and matches, `EXT` (R344); the times of the last CSF
received and sent, and the UPI of a CSF frame that waits for an idle one (R345, R346); the bytes of the GFP frame that the source has begun
and has still to send, its scrambler, and the frames of its multiframe counter (R342, R350); the flow served last in each class (R358);
the RS-Ack that the sink sends (R355), its alignment delay in frames, whether the frame in progress is broken off (R353), and the
bytes that it delivers in the present frame, with the multiframe number of their VCs (R352, R356). -/
structure GroupSt where
  exmBad : Nat := 0
  exmOk : Nat := 0
  csfAt : Option Nat := none
  csfSent : Option Nat := none
  csfWait : Option Nat := none
  rest : List Byte := []
  scr : Nat := 0
  mfi : Nat := 0
  served : Store Nat := []
  rsAck : Bool := false
  align : Nat := 0
  broken : Bool := false
  out : List Byte := []
  outAt : Option Nat := none
  /-- The frame in progress is the first of a source multiframe, whose boundary is still to be decided. -/
  bound : Bool := false
deriving DecidableEq, Repr

/-- The payload of a received VC in the VCAT delay buffer (R352): its number in the multiframe counter, whether its member was in use as
it arrived and with which SQ (R356), and the bytes. -/
structure KeptVc where
  num : Nat := 0
  used : Bool := false
  sq : Nat := 0
  load : List Byte := []
deriving DecidableEq, Repr

/-- What the Flow Engine holds for a member: a source member's last MST, OK or FAIL, and whether it carries payload in the multiframe in
progress (R354); a sink member's runs of control packets with another and with the expected SQ (R351); its interpreter and its received
VC, with V1 of a TU-12 or TU-11 and the violations counted (R340); the interpreters of the concatenation indication of its other AUG-1s,
with their states (R202); its accepted label; the H4[7:4] or K4[6] of the multiframe in progress and the bits K4[7], newest first; the
K4 bytes since the alignment signal was due, and the run of the V5 label with whether the accepted one is 0b101 (R224); the control packet that
waits to be used; the number of the last VC in its multiframe counter; and the payloads that the VCAT delay buffer holds, newest first
(R350, R352). -/
structure MemberSt where
  mst : Option Bool := none
  sqBad : Nat := 0
  sqOk : Nat := 0
  pays : Bool := false
  rx : PathSt := {}
  rxState : Nat := 2
  v1 : Byte := 0
  violations : Nat := 0
  cat : Store (PathSt × Nat) := []
  sig : Option Nat := none
  bits : List Nat := []
  esl : List Nat := []
  place : Nat := 0
  v5 : Run := {}
  ext : Bool := false
  packet : Option ControlPacket := none
  mfi : Option Nat := none
  buf : List KeptVc := []
deriving DecidableEq, Repr

end Sys2Proof.Machine
end

