-- ==== Sys2Proof/Machine/SieveOps.lean ====
section
/-! DEFINITION. The Sieve (03_frame_hunting.md): what a sighting, an expected mark, a decided test and a loss of
alignment do to the eight slots of an instance, whatever the form. -/

namespace Sys2Proof.Machine

/-- What a Sieve operation reports to its lane or stream. -/
structure SieveOut where
  mimics : Nat := 0
  unresolved : Nat := 0
  fast : Nat := 0
  hunts : Nat := 0
  full : Nat := 0
  /-- A trial started (R101). -/
  started : Bool := false
  /-- The slot from whose marks alignment now follows. -/
  aligned : Option Nat := none
  /-- The instance is in HUNT again: a trial ended without a winner, or alignment was lost with no ALT. -/
  hunting : Bool := false
deriving DecidableEq, Repr

def Sieve.slot (s : Sieve) (i : Nat) : Slot := s.slots.getD i {}

def Sieve.setSlot (s : Sieve) (i : Nat) (x : Slot) : Sieve := { s with slots := s.slots.set i x }

def Sieve.mapSlots (s : Sieve) (f : Slot → Slot) : Sieve := { s with slots := s.slots.map f }

/-- The instance has an ACTIVE, or a winner that counts as one (R695). -/
def Sieve.anyActive (s : Sieve) : Bool := s.slots.any (fun x => x.st == .active || x.won)

/-- The number of slots for which `p` holds. -/
def Sieve.count (s : Sieve) (p : Slot → Bool) : Nat := (s.slots.filter p).length

/-- The first slot for which `p` holds. -/
def Sieve.find (s : Sieve) (p : Slot → Bool) : Option Nat := s.slots.findIdx? p

/-- R97, R98, R99: a sighting at `pos` and `rot`; `need` is the form's confirmation count, and `pli` what a core header says. -/
def Sieve.sight (s : Sieve) (bg : Bool) (pos rot need pli : Nat) : Sieve × SieveOut :=
  if s.anyActive && !bg then (s, {})
  else if s.slots.any (fun x => x.st != .free && x.pos == pos && x.rot == rot) then (s, {})
  else
    match s.find (fun x => x.st == .free) with
    | none => (s, { full := 1 })
    | some i => (s.setSlot i { st := .cand, pos := pos, rot := rot, need := need, pli := pli }, {})

/-- A slot at the start of a test of its own (R102). -/
def Slot.startTest (x : Slot) : Slot :=
  { x with st := .trial, agree := 0, disagree := 0, passed := none, inWindow := false, waiting := false,
           blocks := 0, fsAt := none, fsCur := none }

/-- A slot as it enters BARRED (R95). It goes on to expect its marks, on a GFP stream by its own core headers (R129). -/
def Slot.bar (x : Slot) : Slot := { st := .barred, pos := x.pos, rot := x.rot, pli := x.pli, scr := x.scr }

/-- A slot that is ACTIVE, from the moment at which it takes over: headers are corrected for it (R109, R120, R130). -/
def Slot.leads (x : Slot) : Bool := x.st == .active

/-- R99: with background hunting off, the slots other than the one chosen are freed. -/
def Sieve.freeOthers (s : Sieve) (bg : Bool) (i : Nat) : Sieve :=
  if bg then s else { s with slots := (List.replicate s.slots.length ({} : Slot)).set i (s.slot i), first := none }

/-- Slot `i` becomes ACTIVE and alignment follows it. -/
def Sieve.activate (s : Sieve) (bg : Bool) (i : Nat) : Sieve × SieveOut :=
  let x := s.slot i
  let s1 := s.setSlot i { x with st := .active, won := false, inWindow := false, waiting := false,
                                 takeover := false, agree := 0, disagree := 0, passed := none, miss := 0 }
  (({ s1 with errors := 0 } : Sieve).freeOthers bg i, { aligned := some i })

/-- A candidate confirms (R100, R105, R106). -/
def Sieve.confirm (s : Sieve) (i : Nat) : Sieve :=
  let x := s.slot i
  if s.anyActive then s.setSlot i x.startTest
  else if s.round ≠ 0 then s.setSlot i { x with waiting := true }
  else
    let s1 := s.setSlot i { x with inWindow := true, waiting := false }
    match s.first with
    | some _ => s1
    | none => { s1 with first := some i }

/-- R101: the decision window closes at the mark of its first candidate `i`. Where a trial starts, that mark counts for nothing in the
candidate's test, right or wrong (DESIGN CHOICE, notes/assumptions/184). -/
def Sieve.closeWindow (s : Sieve) (bg : Bool) (i : Nat) (ok : Bool) : Sieve × SieveOut :=
  let s1 : Sieve := { s with first := none }
  if s.count (fun x => x.inWindow) ≤ 1 then
    if ok then
      let x := s1.slot i
      (s1.setSlot i { x with run := x.run + 1 }).activate bg i
    else (s1.setSlot i {}, {})
  else
    ({ s1.mapSlots (fun x => if x.inWindow then x.startTest else x) with round := 1 }, { started := true })

/-- The slots that are members of the round: in TRIAL, and not a winner that waits for its mark. -/
def Slot.member (x : Slot) : Bool := x.st == .trial && !x.won

/-- R103, R104, R106: the end of a trial round without an ACTIVE, once every member's test is decided. -/
def Sieve.endRound (s : Sieve) (bg : Bool) : Sieve × SieveOut :=
  if s.slots.any (fun x => x.member && x.passed == none) then (s, {})
  else
    let won := s.count (fun x => x.member && x.passed == some true)
    let lost := s.count (fun x => x.member && x.passed == some false)
    if won = 0 then
      ({ s.mapSlots (fun x => if x.member then {} else x) with round := 0 }, { hunting := true })
    else if won = 1 then
      let i := (s.find (fun x => x.member && x.passed == some true)).getD 0
      let s1 := s.mapSlots (fun x => if x.member && x.passed == some false then x.bar else x)
      let s2 := s1.setSlot i { s1.slot i with won := true }
      let s3 := s2.mapSlots (fun x => if x.waiting then x.startTest else x)
      (({ s3 with round := 0 } : Sieve).freeOthers bg i, { mimics := lost })
    else
      let s1 := s.mapSlots (fun x => if x.member && x.passed == some false then x.bar else x)
      if s.round < 4 then
        ({ s1.mapSlots (fun x => if x.member then x.startTest else x) with round := s.round + 1 }, { mimics := lost })
      else
        ({ s1.mapSlots (fun x => if x.member then {} else x) with round := 0 },
          { mimics := lost, unresolved := 1, hunting := true })

/-- R103, R105: what follows once tests have been decided: the end of a round, or ALT or BARRED for a slot that is in
TRIAL on its own. -/
def Sieve.settle (s : Sieve) (bg : Bool) : Sieve × SieveOut :=
  if s.round ≠ 0 then s.endRound bg
  else
    let lost := s.count (fun x => x.member && x.passed == some false)
    (s.mapSlots (fun x =>
        if x.member && x.passed == some true then
          { x with st := .alt, agree := 0, disagree := 0, passed := none }
        else if x.member && x.passed == some false then x.bar
        else x),
      { mimics := lost })

/-- R109: the ALT that takes over: the most consecutive correct marks, then the lowest number. -/
def Sieve.bestAlt (s : Sieve) : Option Nat :=
  let best := s.slots.foldl (fun m x => if x.st == .alt then Nat.max m (x.run + 1) else m) 0
  if best = 0 then none else s.find (fun x => x.st == .alt && x.run + 1 == best)

/-- R109, R110, R136: after a loss of alignment, or a takeover that failed (R137), the best ALT takes over or the
instance hunts. -/
def Sieve.takeOver (s : Sieve) : Sieve × SieveOut :=
  match s.bestAlt with
  | some j => (s.setSlot j { s.slot j with st := .active, takeover := true, miss := 0 }, {})
  | none =>
    ({ s with round := if s.slots.any (fun x => x.member) then 1 else 0 }, { hunts := 1, hunting := true })

/-- R108: loss of alignment is declared; `conf` is the form's confirmation count. -/
def Sieve.lose (s : Sieve) (conf : Nat) : Sieve × SieveOut :=
  match s.find (fun x => x.st == .active) with
  | none => (s, {})
  | some i =>
    let x := s.slot i
    (({ s.setSlot i { st := .cand, pos := x.pos, rot := x.rot, run := 1, need := 1 + conf, pli := x.pli, scr := x.scr } with
        errors := 0 } : Sieve)).takeOver

/-- R112, R119, R129: the mark expected of slot `i` is judged. `line`: the ACTIVE's errored marks are counted here
(the other forms judge the ACTIVE's headers when a block or frame is received). -/
def Sieve.mark (s : Sieve) (bg line : Bool) (i : Nat) (ok : Bool) : Sieve × SieveOut :=
  let x := s.slot i
  match x.st with
  | .free => (s, {})
  | .barred => (s.setSlot i { x with barred := x.barred + 1 }, {})
  | .cand =>
    if s.first = some i then s.closeWindow bg i ok
    else if !ok then (s.setSlot i {}, {})
    else
      let s1 := s.setSlot i { x with run := x.run + 1 }
      if x.inWindow then (s1, {})
      else if x.need ≤ x.run + 1 then (s1.confirm i, {})
      else (s1, {})
  | .trial =>
    if x.won then
      let r := (s.setSlot i { x with run := if ok then x.run + 1 else 0 }).activate bg i
      ({ r.1 with errors := bitOf (line && !ok) }, r.2)
    else if ok then (s.setSlot i { x with run := x.run + 1, miss := 0 }, {})
    else if 2 ≤ x.miss + 1 then (s.setSlot i {}).settle bg
    else (s.setSlot i { x with run := 0, miss := x.miss + 1 }, {})
  | .alt =>
    if ok then (s.setSlot i { x with run := x.run + 1, miss := 0 }, {})
    else if 2 ≤ x.miss + 1 then (s.setSlot i {}, {})
    else (s.setSlot i { x with run := 0, miss := x.miss + 1 }, {})
  | .active =>
    if x.takeover then
      if ok then
        (({ s.setSlot i { x with takeover := false, run := x.run + 1 } with errors := 0 } : Sieve).freeOthers bg i,
          { aligned := some i, fast := 1 })
      else (s.setSlot i {}).takeOver
    else if !line then (s.setSlot i { x with run := if ok then x.run + 1 else 0 }, {})
    else if ok then ({ s.setSlot i { x with run := x.run + 1 } with errors := 0 }, {})
    else ({ s.setSlot i { x with run := 0 } with errors := s.errors + 1 }, {})

/-- R114, R131: one comparison of a TRIAL slot that `wins` passes and `losses` disagreements decide. -/
def Sieve.compare (s : Sieve) (bg : Bool) (i : Nat) (agrees : Bool) (wins losses : Nat) : Sieve × SieveOut :=
  let x := s.slot i
  if x.member && x.passed == none then
    let a := if agrees then x.agree + 1 else x.agree
    let d := if agrees then x.disagree else x.disagree + 1
    let p := if wins ≤ a then some true else if losses ≤ d then some false else none
    (s.setSlot i { x with agree := a, disagree := d, passed := p }).settle bg
  else (s, {})

/-- The test of slot `i` is decided (R124). -/
def Sieve.judge (s : Sieve) (bg : Bool) (i : Nat) (p : Bool) : Sieve × SieveOut :=
  let x := s.slot i
  if x.member && x.passed == none then (s.setSlot i { x with passed := some p }).settle bg else (s, {})

/-- R95: the barring of slot `i` ends after 8,000 expected mark positions. -/
def Sieve.barringEnd (s : Sieve) (i : Nat) : Sieve :=
  if (s.slot i).st == .barred && decide (8000 ≤ (s.slot i).barred) then s.setSlot i {} else s

/-- R133, R134: every slot becomes FREE; the configuration in force stays. -/
def Sieve.restart (s : Sieve) : Sieve := { cfg := s.cfg }

/-- Two slots hold one position and rotation. -/
def Slot.same (x y : Slot) : Bool := x.st != .free && y.st != .free && x.pos == y.pos && x.rot == y.rot

/-- R138: of two slots at one position and rotation the higher is discarded. Where it was the ACTIVE, alignment goes on with the
one that is left. -/
def Sieve.dedupe (s : Sieve) : Sieve :=
  let keep (i : Nat) (x : Slot) : Slot :=
    if (s.slots.take i).any x.same then {}
    else match (s.slots.drop (i + 1)).find? (fun y => x.same y && y.st == .active) with
      | some y => y
      | none => x
  let t := { s with slots := s.slots.mapIdx keep }
  match t.first with
  | none => t
  | some f => if (t.slot f).inWindow then t else { t with first := t.find (fun x => x.inWindow) }

/-- R102, R138: what follows of the hypotheses that `dedupe` discards: a member of a trial that goes may be the last one undecided. -/
def Sieve.distinct (s : Sieve) (bg : Bool) : Sieve × SieveOut :=
  let t := s.dedupe
  if t.count Slot.member < s.count Slot.member then t.settle bg else (t, {})

/-- What two operations in one step report together. -/
def SieveOut.both (a b : SieveOut) : SieveOut :=
  { mimics := a.mimics + b.mimics, unresolved := a.unresolved + b.unresolved, fast := a.fast + b.fast, hunts := a.hunts + b.hunts,
    full := a.full + b.full, started := a.started || b.started, aligned := a.aligned.or b.aligned, hunting := a.hunting || b.hunting }

/-- R135: every position moves by `by` within a frame or block of `len` bytes. -/
def Sieve.shift (s : Sieve) (bg : Bool) (len : Nat) (by' : Int) : Sieve × SieveOut :=
  if len = 0 then (s, {})
  else (s.mapSlots (fun x => if x.st == .free then x else
    { x with pos := (((x.pos : Int) + by') % (len : Int)).toNat })).distinct bg

/-- The word that `SV_SLOTn` shows of a slot (R141). `CNT` of a TRIAL slot of a Tustra lane, whose one test has no comparisons, is 0 (DESIGN
CHOICE, notes/assumptions/187). -/
def Slot.word (x : Slot) : W32 :=
  let st := match x.st with | .free => 0 | .cand => 1 | .trial => 2 | .alt => 3 | .active => 4 | .barred => 5
  let cnt := match x.st with | .cand => x.run | .trial => x.agree | .alt => x.run | .active => x.run | _ => 0
  BitVec.ofNat 32 (st + x.rot % 8 * 0x10 + x.pos % 0x80000 * 0x100 + Nat.min cnt 15 * 0x1000_0000)

end Sys2Proof.Machine
end

