-- ==== Sys2Proof/Machine/Windows.lean ====
section
/-! DEFINITION. The table windows of R519 other than the connection maps: their regions and the words of their entries
(R233, R234, R336, R375, R423, R428), and the names of their fields. -/

namespace Sys2Proof.Machine

/-- A region of a table window: `window` is its number in the table of R519. -/
structure Region where
  base : Nat
  size : Nat
  window : Nat
  readOnly : Bool
deriving DecidableEq, Repr

/-- The regions of the windows (R233, R286, R375, R423, R428, R519, R520). -/
def regions : List Region := [
  ⟨0x1000_0000, 0x3DB_3000, 0, false⟩,  -- shadow map
  ⟨0x1400_0000, 0x3DB_3000, 1, true⟩,   -- active map
  ⟨0x1800_0000, 0x40_0000, 2, false⟩,   -- selector table
  ⟨0x1840_0000, 0x10_0000, 3, true⟩,    -- SNCP status
  ⟨0x1900_0000, 0x2_4000, 4, false⟩,    -- PM points, higher order
  ⟨0x1910_0000, 0x3F_0000, 4, false⟩,   -- PM points, lower order
  ⟨0x1A00_0000, 0x10_0000, 5, false⟩,   -- flow context configuration
  ⟨0x1A10_0000, 0x10_0000, 5, true⟩,    -- flow context status
  ⟨0x1A20_0000, 0x8_0000, 5, false⟩,    -- group configuration
  ⟨0x1A28_0000, 0x10_0000, 5, true⟩,    -- group status
  ⟨0x1A40_0000, 0x10_0000, 5, false⟩,   -- member configuration
  ⟨0x1A50_0000, 0x10_0000, 5, true⟩,    -- member status
  ⟨0x1A60_0000, 0x800, 5, false⟩,       -- flow-port structure
  ⟨0x1C00_0000, 0x6_0000, 6, false⟩,    -- higher-order configuration
  ⟨0x1C08_0000, 0x6_0000, 6, true⟩,     -- higher-order status
  ⟨0x1C10_0000, 0x10_0000, 6, false⟩,   -- trace table
  ⟨0x1C40_0000, 0x3F_0000, 6, false⟩,   -- lower-order configuration
  ⟨0x1C80_0000, 0x1F_8000, 6, true⟩]    -- lower-order status

/-- The region that holds address `a`. -/
def regionOf (a : Nat) : Option Region :=
  regions.find? (fun r => decide (r.base ≤ a) && decide (a < r.base + r.size))

/-- The words of the entries, by bus address. A word of a region that is not listed is reserved. -/
def windowRegs0 : List RegDef := [
  ⟨0x1800_0000, 262144, 16, 0x07FF_FF7F, 0, 0, []⟩,  -- selector: leg A (R289)
  ⟨0x1800_0004, 262144, 16, 0x07FF_FF7F, 0, 0, []⟩,  -- selector: leg B (R289)
  ⟨0x1800_0008, 262144, 16, 0x07FF_FFFF, 0, 0, []⟩,  -- selector: word 2
  ⟨0x1800_000C, 262144, 16, 0xFFF7_FFFF, 0, 0, []⟩,  -- selector: word 3
  ⟨0x1840_0000, 262144, 4, 0, 0, 0, []⟩,             -- SNCP status
  ⟨0x1900_0000, 18432, 8, 0x1F, 0, 0x10, []⟩,        -- PM point configuration
  ⟨0x1900_0004, 18432, 8, 0, 0, 0, []⟩,              -- PM point status
  ⟨0x1910_0000, 516096, 8, 0x1F, 0, 0x10, []⟩,
  ⟨0x1910_0004, 516096, 8, 0, 0, 0, []⟩]

/-- The words of the flow window (R375). -/
def windowRegs1 : List RegDef := [
  ⟨0x1A00_0000, 65536, 16, 0x3FFF_7F0F, 0, 0, []⟩,
  ⟨0x1A00_0004, 65536, 16, 0xFF, 0, 0, []⟩,
  ⟨0x1A00_0008, 65536, 16, 0x1F_FFFF, 0, 0x1_0000, [.clamp 16 5 1 16]⟩,
  ⟨0x1A10_0000, 65536, 16, 0, 0, 0, []⟩,
  ⟨0x1A20_0000, 16384, 32, 0x07F7_FFFF, 0, 0x100, [.reserved 0 2 3 3, .reserved 16 3 4 7]⟩,
  ⟨0x1A20_0004, 16384, 32, 0x01FF_01FF, 0, 0x100, [.orElse 0 9 1 256 256, .clamp 16 9 0 256]⟩,
  ⟨0x1A20_0008, 16384, 32, 0xFFFF, 0, 0x1B1B, []⟩,
  ⟨0x1A28_0000, 16384, 64, 0, 0, 4, []⟩,
  ⟨0x1A40_0000, 131072, 8, 0xF_FFFF, 0, 0, []⟩,
  ⟨0x1A40_0004, 131072, 8, 0x01FF_3FFF, 0, 0, []⟩,
  ⟨0x1A50_0000, 131072, 8, 0, 0, 0, []⟩,
  ⟨0x1A60_0000, 512, 4, 0x1FFF_FF7F, 0, 0, [.reserved 0 3 7 7]⟩]

/-- The words of the path configuration window (R233 to R236). -/
def windowRegs2 : List RegDef := [
  ⟨0x1C00_0000, 6144, 64, 0xFFFF_07FF, 0, 0, [.reserved 2 2 3 3, .reserved 4 2 3 3]⟩,
  ⟨0x1C00_0004, 6144, 64, 0x3FFF_3FFF, 0, 0, []⟩,
  ⟨0x1C00_0008, 6144, 64, 0xFFFF_07FF, 0, 0, [.reserved 2 2 3 3, .reserved 4 2 3 3]⟩,
  ⟨0x1C00_000C, 6144, 64, 0x3FFF_3FFF, 0, 0, []⟩,
  ⟨0x1C00_0010, 6144, 64, 0xFFFF_07FF, 0, 0, [.reserved 2 2 3 3, .reserved 4 2 3 3]⟩,
  ⟨0x1C00_0014, 6144, 64, 0x3FFF_3FFF, 0, 0, []⟩,
  ⟨0x1C00_0018, 6144, 64, 0x1FFF_FF7F, 0, 0, [.reserved 0 3 7 7]⟩,
  ⟨0x1C08_0000, 6144, 64, 0, 0, 6, []⟩,
  ⟨0x1C08_0010, 6144, 64, 0, 0, 6, []⟩,
  ⟨0x1C08_0020, 6144, 64, 0, 0, 6, []⟩,
  ⟨0x1C10_0000, 262144, 4, 0xFFFF_FFFF, 0, 0, []⟩,
  ⟨0x1C40_0000, 516096, 8, 0xFFFF_777F, 0, 0, []⟩,
  ⟨0x1C40_0004, 516096, 8, 0xFFFF_FFFF, 0, 0, [.reserved 14 2 3 3, .reserved 30 2 3 3]⟩,
  ⟨0x1C80_0000, 516096, 4, 0, 0, 6, []⟩]

/-- The words of every window. -/
def windowRegs : List RegDef := windowRegs0 ++ windowRegs1 ++ windowRegs2

/-! Higher-order configuration, word 0 + 8 b of an entry of 64 bytes -/

def F.hoCfgMonEn : Field := ⟨0x1c000000, 0, 1⟩
def F.hoCfgPohGen : Field := ⟨0x1c000000, 1, 1⟩
def F.hoCfgRxMode : Field := ⟨0x1c000000, 2, 2⟩
def F.hoCfgTxMode : Field := ⟨0x1c000000, 4, 2⟩
def F.hoCfgTimEn : Field := ⟨0x1c000000, 6, 1⟩
def F.hoCfgTimAct : Field := ⟨0x1c000000, 7, 1⟩
def F.hoCfgUneqAct : Field := ⟨0x1c000000, 8, 1⟩
def F.hoCfgPlmAct : Field := ⟨0x1c000000, 9, 1⟩
def F.hoCfgRdiEn : Field := ⟨0x1c000000, 10, 1⟩
def F.hoCfgExpC2 : Field := ⟨0x1c000000, 16, 8⟩
def F.hoCfgTxC2 : Field := ⟨0x1c000000, 24, 8⟩

/-! Higher-order configuration, word 4 + 8 b -/

def F.hoTrcExpTrc : Field := ⟨0x1c000004, 0, 14⟩
def F.hoTrcTxTrc : Field := ⟨0x1c000004, 16, 14⟩

/-! Higher-order structure word -/

def F.hoStrKind : Field := ⟨0x1c000018, 0, 3⟩
def F.hoStrStruct : Field := ⟨0x1c000018, 3, 1⟩
def F.hoStrTug3 : Field := ⟨0x1c000018, 4, 3⟩
def F.hoStrTug2 : Field := ⟨0x1c000018, 8, 21⟩

/-! Higher-order status, word 0 + 16 b -/

def F.hoStPstate : Field := ⟨0x1c080000, 0, 3⟩
def F.hoStFptr : Field := ⟨0x1c080000, 3, 10⟩
def F.hoStLptr : Field := ⟨0x1c080000, 13, 10⟩
def F.hoStAis : Field := ⟨0x1c080000, 23, 1⟩
def F.hoStLop : Field := ⟨0x1c080000, 24, 1⟩
def F.hoStUneq : Field := ⟨0x1c080000, 25, 1⟩
def F.hoStPlm : Field := ⟨0x1c080000, 26, 1⟩
def F.hoStTim : Field := ⟨0x1c080000, 27, 1⟩
def F.hoStRdi : Field := ⟨0x1c080000, 28, 1⟩
def F.hoStLom : Field := ⟨0x1c080000, 29, 1⟩
def F.hoStTrcValid : Field := ⟨0x1c080000, 30, 1⟩
def F.hoStSlValid : Field := ⟨0x1c080000, 31, 1⟩

/-! Higher-order status, word 4 + 16 b -/

def F.hoSt2C2 : Field := ⟨0x1c080004, 0, 8⟩
def F.hoSt2K3 : Field := ⟨0x1c080004, 8, 4⟩
def F.hoSt2Mfi : Field := ⟨0x1c080004, 12, 2⟩
def F.hoSt2CfgErr : Field := ⟨0x1c080004, 14, 1⟩

/-! Lower-order configuration, word 0 of an entry of 8 bytes -/

def F.loCfgMonEn : Field := ⟨0x1c400000, 0, 1⟩
def F.loCfgPohGen : Field := ⟨0x1c400000, 1, 1⟩
def F.loCfgTimEn : Field := ⟨0x1c400000, 2, 1⟩
def F.loCfgTimAct : Field := ⟨0x1c400000, 3, 1⟩
def F.loCfgUneqAct : Field := ⟨0x1c400000, 4, 1⟩
def F.loCfgPlmAct : Field := ⟨0x1c400000, 5, 1⟩
def F.loCfgRdiEn : Field := ⟨0x1c400000, 6, 1⟩
def F.loCfgExpSl : Field := ⟨0x1c400000, 8, 3⟩
def F.loCfgTxSl : Field := ⟨0x1c400000, 12, 3⟩
def F.loCfgExpC2 : Field := ⟨0x1c400000, 16, 8⟩
def F.loCfgTxC2 : Field := ⟨0x1c400000, 24, 8⟩

/-! Lower-order configuration, word 1 -/

def F.loTrcExpTrc : Field := ⟨0x1c400004, 0, 14⟩
def F.loTrcRxMode : Field := ⟨0x1c400004, 14, 2⟩
def F.loTrcTxTrc : Field := ⟨0x1c400004, 16, 14⟩
def F.loTrcTxMode : Field := ⟨0x1c400004, 30, 2⟩

/-! Lower-order status -/

def F.loStPstate : Field := ⟨0x1c800000, 0, 3⟩
def F.loStFptr : Field := ⟨0x1c800000, 3, 10⟩
def F.loStAis : Field := ⟨0x1c800000, 13, 1⟩
def F.loStLop : Field := ⟨0x1c800000, 14, 1⟩
def F.loStUneq : Field := ⟨0x1c800000, 15, 1⟩
def F.loStPlm : Field := ⟨0x1c800000, 16, 1⟩
def F.loStTim : Field := ⟨0x1c800000, 17, 1⟩
def F.loStRdi : Field := ⟨0x1c800000, 18, 1⟩
def F.loStRfi : Field := ⟨0x1c800000, 19, 1⟩
def F.loStTrcValid : Field := ⟨0x1c800000, 20, 1⟩
def F.loStSlValid : Field := ⟨0x1c800000, 21, 1⟩
def F.loStSig : Field := ⟨0x1c800000, 24, 8⟩

/-! Flow context configuration, entries of 16 bytes -/

def F.ctxEn : Field := ⟨0x1a000000, 0, 1⟩
def F.ctxClass : Field := ⟨0x1a000000, 1, 3⟩
def F.ctxLane : Field := ⟨0x1a000000, 8, 7⟩
def F.ctxGroup : Field := ⟨0x1a000000, 16, 14⟩

/-! Flow context configuration, word 2 -/

def F.ctxQbase : Field := ⟨0x1a000008, 0, 16⟩
def F.ctxQsize : Field := ⟨0x1a000008, 16, 5⟩

/-! Group configuration, entries of 32 bytes -/

def F.grpMode : Field := ⟨0x1a200000, 0, 2⟩
def F.grpLcas : Field := ⟨0x1a200000, 2, 1⟩
def F.grpMtype : Field := ⟨0x1a200000, 3, 3⟩
def F.grpExt : Field := ⟨0x1a200000, 6, 1⟩
def F.grpPfcs : Field := ⟨0x1a200000, 7, 1⟩
def F.grpUpi : Field := ⟨0x1a200000, 8, 8⟩
def F.grpCsfTx : Field := ⟨0x1a200000, 16, 3⟩
def F.grpCsfLane : Field := ⟨0x1a200000, 20, 7⟩

/-! Group configuration, word 1 -/

def F.grpDdMax : Field := ⟨0x1a200004, 0, 9⟩
def F.grpAlignMin : Field := ⟨0x1a200004, 16, 9⟩

/-! Group status, entries of 64 bytes -/

def F.grpStSv : Field := ⟨0x1a280000, 0, 2⟩
def F.grpStLfd : Field := ⟨0x1a280000, 2, 1⟩
def F.grpStCsf : Field := ⟨0x1a280000, 3, 1⟩
def F.grpStExm : Field := ⟨0x1a280000, 4, 1⟩
def F.grpStLoa : Field := ⟨0x1a280000, 5, 1⟩
def F.grpStSqm : Field := ⟨0x1a280000, 6, 1⟩
def F.grpStLom : Field := ⟨0x1a280000, 7, 1⟩
def F.grpStSnkUse : Field := ⟨0x1a280000, 8, 9⟩
def F.grpStSrcUse : Field := ⟨0x1a280000, 17, 9⟩

/-! Member configuration, entries of 8 bytes -/

def F.memEn : Field := ⟨0x1a400000, 0, 1⟩
def F.memDir : Field := ⟨0x1a400000, 1, 1⟩
def F.memFport : Field := ⟨0x1a400000, 2, 3⟩
def F.memG : Field := ⟨0x1a400000, 5, 6⟩
def F.memSub : Field := ⟨0x1a400000, 11, 2⟩
def F.memL : Field := ⟨0x1a400000, 13, 7⟩

/-! Member configuration, word 1 -/

def F.mem1Group : Field := ⟨0x1a400004, 0, 14⟩
def F.mem1Sq : Field := ⟨0x1a400004, 16, 8⟩
def F.mem1ActReq : Field := ⟨0x1a400004, 24, 1⟩

/-! Member status, entries of 8 bytes -/

def F.memStState : Field := ⟨0x1a500000, 0, 3⟩
def F.memStInuse : Field := ⟨0x1a500000, 3, 1⟩
def F.memStCtrl : Field := ⟨0x1a500000, 4, 4⟩
def F.memStSq : Field := ⟨0x1a500000, 8, 8⟩
def F.memStFailPtr : Field := ⟨0x1a500000, 16, 1⟩
def F.memStFailSig : Field := ⟨0x1a500000, 17, 1⟩
def F.memStLom : Field := ⟨0x1a500000, 18, 1⟩
def F.memStSqm : Field := ⟨0x1a500000, 19, 1⟩
def F.memStRsack : Field := ⟨0x1a500000, 20, 1⟩

/-! PM point configuration, entries of 8 bytes -/

def F.pmPtProfile : Field := ⟨0x19000000, 0, 4⟩
def F.pmPtSdsfEn : Field := ⟨0x19000000, 4, 1⟩

/-! PM point status -/

def F.pmPtStSd : Field := ⟨0x19000004, 0, 1⟩
def F.pmPtStSf : Field := ⟨0x19000004, 1, 1⟩
def F.pmPtStClamp : Field := ⟨0x19000004, 2, 1⟩
def F.pmPtStUas : Field := ⟨0x19000004, 3, 1⟩
def F.pmPtStFeUas : Field := ⟨0x19000004, 4, 1⟩
def F.pmPtStSdUsed : Field := ⟨0x19000004, 8, 4⟩
def F.pmPtStSfUsed : Field := ⟨0x19000004, 12, 4⟩

/-! Selector entry, word 2, entries of 16 bytes -/

def F.selSel : Field := ⟨0x18000008, 0, 1⟩
def F.selLo : Field := ⟨0x18000008, 1, 1⟩
def F.selMonaEn : Field := ⟨0x18000008, 2, 1⟩
def F.selMonbEn : Field := ⟨0x18000008, 3, 1⟩
def F.selMonA : Field := ⟨0x18000008, 4, 19⟩
def F.selProfile : Field := ⟨0x18000008, 23, 4⟩

/-! Selector entry, word 3 -/

def F.selMonB : Field := ⟨0x1800000c, 0, 19⟩
def F.selOwner : Field := ⟨0x1800000c, 20, 2⟩
def F.selGroup : Field := ⟨0x1800000c, 22, 6⟩
def F.selChannel : Field := ⟨0x1800000c, 28, 4⟩

/-! SNCP status, entries of 4 bytes -/

def F.sncReq : Field := ⟨0x18400000, 0, 4⟩
def F.sncSfA : Field := ⟨0x18400000, 4, 1⟩
def F.sncSdA : Field := ⟨0x18400000, 5, 1⟩
def F.sncSfB : Field := ⟨0x18400000, 6, 1⟩
def F.sncSdB : Field := ⟨0x18400000, 7, 1⟩
def F.sncHold : Field := ⟨0x18400000, 8, 1⟩
def F.sncWtr : Field := ⟨0x18400000, 9, 1⟩
def F.sncSel : Field := ⟨0x18400000, 10, 1⟩
def F.sncExerOk : Field := ⟨0x18400000, 11, 1⟩
def F.sncSwitches : Field := ⟨0x18400000, 16, 16⟩

/-! Fields that the text of R289 and R375 gives -/

def F.selPortA : Field := ⟨0x18000000, 0, 7⟩
def F.selOffsA : Field := ⟨0x18000000, 8, 19⟩
def F.selPortB : Field := ⟨0x18000004, 0, 7⟩
def F.selOffsB : Field := ⟨0x18000004, 8, 19⟩
def F.ctxCid : Field := ⟨0x1a000004, 0, 8⟩
def F.ctxStL2f : Field := ⟨0x1a100000, 0, 20⟩
def F.ctxStF2l : Field := ⟨0x1a100004, 0, 20⟩
def F.ctxStL2fDrops : Field := ⟨0x1a100008, 0, 32⟩
def F.ctxStF2lDrops : Field := ⟨0x1a10000c, 0, 32⟩
def F.grpExpSig : Field := ⟨0x1a200008, 0, 8⟩
def F.grpTxSig : Field := ⟨0x1a200008, 8, 8⟩
def F.grpStCsfUpi : Field := ⟨0x1a280004, 0, 8⟩
def F.grpStDdelay : Field := ⟨0x1a280004, 16, 12⟩
def F.grpStSlots : Field := ⟨0x1a280008, 0, 24⟩
def F.grpStMimics : Field := ⟨0x1a28000c, 0, 32⟩
def F.grpStDelivered : Field := ⟨0x1a280010, 0, 32⟩
def F.grpStDiscarded : Field := ⟨0x1a280014, 0, 32⟩
def F.grpStCorrected : Field := ⟨0x1a280018, 0, 32⟩
def F.grpStSyncLoss : Field := ⟨0x1a28001c, 0, 32⟩
def F.memStDelay : Field := ⟨0x1a500004, 0, 12⟩
def F.fpStrKind : Field := ⟨0x1a600000, 0, 3⟩
def F.fpStrStruct : Field := ⟨0x1a600000, 3, 1⟩
def F.fpStrTug3 : Field := ⟨0x1a600000, 4, 3⟩
def F.fpStrTug2 : Field := ⟨0x1a600000, 8, 21⟩

end Sys2Proof.Machine
end

