-- ==== Sys2Proof/Machine/ResetWord.lean ====
section
/-! DEFINITION. What every register and table word holds after a cold reset (R46, R656, R669 and the register tables), and
the table entry that governs an address. -/

namespace Sys2Proof.Machine

/-- The entry of a register table that holds offset `o`. -/
def lookupReg : List RegDef → Nat → Option RegDef
  | [], _ => none
  | r :: t, o =>
    if r.off ≤ o ∧ o < r.off + r.count * r.stride ∧ (o - r.off) % r.stride = 0 then some r else lookupReg t o

/-- The registers of page `p` beyond the header (R654, R655). -/
def pageRegs (p : Nat) : List RegDef :=
  match p with
  | 0 => devRegs
  | 1 => clkRegs
  | 2 => mtxRegs
  | 3 => memRegs
  | 4 => hbmRegs
  | 5 => hcpRegs
  | 6 => mgtRegs
  | 7 => secRegs
  | 8 => pnlRegs
  | 9 => pwrRegs
  | 10 => mateRegs
  | 11 => grmRegs
  | 12 => flwRegs
  | 13 => psqRegs
  | 14 => pmRegs
  | 15 => protRegs
  | _ => laneRegs

/-- A page whose instance is brought up in stage 0 (R654). -/
def stage0Page (p : Nat) : Bool :=
  p == 0 || p == 2 || p == 3 || p == 5 || p == 6 || p == 7 || p == 8 || p == 9

/-- An offset that an MLANE page leaves out (R655); the mapping banks, the capacity and credit registers and those of the Strainer
are among them. -/
def mlaneHole (p o : Nat) : Bool :=
  let within (a b : Nat) : Bool := decide (a ≤ o) && decide (o < b)
  decide (0x70 ≤ p) && (within 0x1000 0x4000 || decide (0xC000 ≤ o) || within 0x4008 0x4010 || within 0x4020 0x4030
    || within 0x4050 0x4064 || within 0x6000 0x8000)

/-- `TU_CFG` of an MLANE page, which keeps `RD_EN` only. -/
def mlaneTuCfg : RegDef := ⟨0x4000, 1, 4, 4, 0, 4, []⟩

/-- The bits of `PAGE_EVT` that page `p` uses, in `STICKY` and in `MASK`: those of DEV and of CLK (R656, R668); the others are
reserved. -/
def pageEvtMask (p : Nat) : Nat := if p = 0 then 0x7 else if p = 1 then 0x7F else 0

/-- The header register at offset `o` of page `p` (R656). -/
def headerReg (p o : Nat) : Option RegDef :=
  (lookupReg hdrRegs o).map (fun r =>
    if o = 0x18 then { r with w1c := r.w1c + pageEvtMask p }
    else if o = 0x1C then { r with rw := r.rw + pageEvtMask p }
    else r)

/-- The table entry of offset `o` of page `p`; a reserved offset has none (R520). -/
def pageReg (p o : Nat) : Option RegDef :=
  if o < 0x100 then headerReg p o
  else if mlaneHole p o then none
  else if 0x70 ≤ p ∧ o = 0x4000 then some mlaneTuCfg
  else lookupReg (pageRegs p) o

/-- Page number and offset of an address in the register pages. -/
def pageOf (a : Nat) : Nat := (a - 0x1_0000_0000) / 0x1_0000
def offOf (a : Nat) : Nat := a % 0x1_0000

/-- An address in pages 0x00 to 0x77. -/
def isPageAddr (a : Nat) : Bool := decide (0x1_0000_0000 ≤ a) && decide (a < 0x1_0078_0000)

/-- The table entry of the register or table word at bus address `a`. -/
def regDefOf (a : Nat) : Option RegDef :=
  if isPageAddr a then pageReg (pageOf a) (offOf a) else lookupReg windowRegs a

/-- `PAGE_ID` of page `p` (R656). -/
def pageIdWord (p : Nat) : Nat :=
  p + (if p < 0x10 then p else if p < 0x70 then 0x10 else 0x11) * 0x100
    + (if p < 0x10 then 0 else if p < 0x70 then p - 0x10 else p - 0x70) * 0x1_0000

/-- The reset values that the tables give for each page or element in its own way. -/
def indexedReset (a : Nat) (dflt : Nat) : Nat :=
  if isPageAddr a then
    let p := pageOf a
    let o := offOf a
    if o = 0 then pageIdWord p
    else if o = 0x008 then (if stage0Page p then 3 else 0)
    else if o = 0x010 then (if stage0Page p then 2 else 0x70)
    else if p = 4 ∧ 0x200 ≤ o ∧ o < 0x300 then (o - 0x200) / 4
    else if p = 9 ∧ o = 0x110 then 15 + 715 * 0x100
    else if p = 9 ∧ o = 0x114 then 10 + 705 * 0x100
    else if p = 9 ∧ o = 0x118 then 6 + 695 * 0x100
    else if p = 9 ∧ o = 0x11C then 3 + 680 * 0x100
    else if 0x70 ≤ p ∧ o = 0x100 then 6 + 3 * 0x10
    else if 0x70 ≤ p ∧ o = 0x804 then 0x30
    else if 0x70 ≤ p ∧ o = 0x8000 then 0xA
    else dflt
  else if 0x1A00_0000 ≤ a ∧ a < 0x1A10_0000 ∧ a % 16 = 8 then dflt + (a - 0x1A00_0000) / 16
  else dflt

/-- The word at bus address `a` after a cold reset; 0 where no register or table word stands. -/
def resetWord (a : Nat) : W32 :=
  match regDefOf a with
  | some r => BitVec.ofNat 32 (indexedReset a r.reset)
  | none => 0

end Sys2Proof.Machine
end

