-- ==== Sys2Proof/Machine/State.lean ====
section
/-! DEFINITION. The state of the device, the reasons a step can stop, and the state after reset. -/

namespace Sys2Proof.Machine

/-- Why a run stops with a fault. No command of this model faults: every row of the table has an effect. -/
inductive Fault where
  /-- Raised by no command. Safe: a run never stops with it. -/
  | none
deriving DecidableEq, Repr

/-- Why a command has no meaning in the model. -/
inductive Refusal where
  /-- Raised by `exec` for a command that the model does not give a meaning to, named by its mnemonic. Safe: the run
  stops where the device would go on. -/
  | notModelled (mnemonic : String)
deriving DecidableEq, Repr

/-- The device, but for its byte memories and the commands that wait. -/
structure Dev where
  /-- The ticks of the time base since power-on (R77); the free values drawn so far. -/
  now : Nat := 0
  fresh : Nat := 0
  /-- Registers and table words by bus address; an unlisted one reads as `resetWord`. -/
  words : Store W32 := []
  /-- The connection maps by entry index (R286). -/
  activeMap : Store W32 := []
  shadowMap : Store W32 := []
  /-- Lanes 0 to 103, path points by `pointKey`, and the Sieves of the GFP streams by group. -/
  lanes : Store LaneSt := []
  paths : Store PathSt := []
  /-- The positions whose interpreters restart at the next frame boundary (R206). -/
  restarts : List Nat := []
  /-- The structure words in force, by position (R206, R234). -/
  structs : Store W32 := []
  gfp : Store Sieve := []
  /-- Snapshot captures: the high word captured for each master (R92). -/
  snaps : Store W32 := []
  /-- The last reply to each master. -/
  replies : Store Reply := []
  /-- The near accumulators: the second in progress and the closed second, by `counterKey` (R393). -/
  acc : Store Nat := []
  accClosed : Store Nat := []
  /-- The slices of the SD and SF estimators, newest first, at most 8, by `estKey` (R384). -/
  est : Store EstSt := []
  /-- The violations of the slice in progress, by `estKey` (R386). -/
  estAcc : Store Nat := []
  ladle : Ladle := {}
  /-- The bandwidth monitors that have been set up (R412), and the tagged units of the Skewer with the records that wait (R416 to R419). -/
  bw : Store BwSt := []
  skw : Skewer := {}
  /-- The 64-bit counts of the filtered event counters (R414). -/
  fec : Store Nat := []
  /-- The Packet Staging Queue, and the Flow Store's queues by flow ID. -/
  psq : Psq := {}
  flows : Store FlowQ := []
  /-- What the Flow Engine holds for the groups and the members. -/
  groups : Store GroupSt := []
  members : Store MemberSt := []
  /-- Protection by MSP group and by SNCP selector, the decided changes with the sequence numbers of their edges, and the
  selectors whose protection restarts at the next edge (R430). -/
  msp : Store ProtSt := []
  snc : Store ProtSt := []
  applies : List (Nat × ProtItem) := []
  selRestart : List (Nat × W32 × W32) := []
  /-- The channel that each 1:N group bridges onto its protection lane (R448). -/
  bridge : Store Nat := []
  sram : MemSt := {}
  /-- The transactions of the masters that are under way, by master (R525). -/
  bursts : Store Burst := []
  port : Port := {}
  mgt : Mgt := {}
  panel : Panel := {}
  timing : Timing := {}
  modes : Modes := {}
  mate : Mate := {}
  grm : Grm := {}
  /-- The Twin Pans: the ingress bank being written and the one the Whisk moves; the egress bank that the Whisk writes
  and the one that egress reads (R33). -/
  inFill : Pan := {}
  /-- The containers that the device writes itself into ingress banks, by 155,520 q + first slot (R214, R339), and those of egress
  ports, by point key (R228, R483). -/
  made : Store VcSt := []
  egress : Store VcSt := []
  inMove : Pan := {}
  egFill : Pan := {}
  egRead : Pan := {}
deriving DecidableEq, Repr

/-- The whole device: `mem` holds the processor SRAM and HBM3 by bus address (an unlisted byte reads as 0), `flash` the
external flash by its offset (an unlisted byte reads as 0xFF), and `pending` the commands that wait, first in first
out. -/
structure State where
  dev : Dev := {}
  mem : List Host.Cell := []
  flash : List Host.Cell := []
  pending : List Instr := []
deriving DecidableEq, Repr

/-- The state after a cold reset, with `PORST_N` still low (R638). -/
def State.reset : State := {}

end Sys2Proof.Machine
end

