-- ==== Sys2Proof/Machine/Ops.lean ====
section
/-! DEFINITION. The named operations over the registers and tables of the device: words and fields, counters, the common
header (R656), the capability map (R46, R49), snapshots (R92), the near accumulators (R393), the free values, and what
every register write of a bus master passes before it takes effect (R51 to R54, R524). -/

namespace Sys2Proof.Machine

/-- What a command answers. -/
abbrev Out := Host.Outcome State Fault Refusal

/-! Words and fields -/

def Dev.word (d : Dev) (a : Nat) : W32 := Store.get resetWord d.words a

def Dev.setWord (d : Dev) (a : Nat) (w : W32) : Dev := { d with words := Store.set resetWord d.words a w }

def Dev.get (d : Dev) (f : Field) : Nat := getF (d.word f.off) f.lo f.len

def Dev.put (d : Dev) (f : Field) (v : Nat) : Dev := d.setWord f.off (putF (d.word f.off) f.lo f.len v)

/-- The bit is 1. -/
def Dev.on (d : Dev) (f : Field) : Bool := d.get f != 0

/-- A status or event bit set by the device. -/
def Dev.raise (d : Dev) (f : Field) : Dev := d.put f 1

/-- A status bit cleared by the device. -/
def Dev.lower (d : Dev) (f : Field) : Dev := d.put f 0

/-- A counter that saturates moves on by `n`. -/
def Dev.bump (d : Dev) (f : Field) (n : Nat) : Dev := d.put f (satAdd f.len (d.get f) n)

/-- A counter that wraps moves on by `n`. -/
def Dev.roll (d : Dev) (f : Field) (n : Nat) : Dev := d.put f (d.get f + n)

/-- `g d` where the condition holds, else `d`. -/
def Dev.when (d : Dev) (c : Bool) (g : Dev → Dev) : Dev := if c then g d else d

/-- `g` applied for each number below `n`, in rising order. -/
def Dev.each (d : Dev) (n : Nat) (g : Dev → Nat → Dev) : Dev := (List.range n).foldl g d

/-- A 40-bit address in two registers, low word first. -/
def Dev.setAddr (d : Dev) (lo hi : Field) (a : Nat) : Dev := (d.put lo a).put hi (a / 0x1_0000_0000)

/-! Free values -/

/-- A fresh free byte, and the device with the draw counted. -/
def Dev.freeByte (d : Dev) : Byte × Dev := (Config.freeByte d.fresh, { d with fresh := d.fresh + 1 })

def Dev.freeWord (d : Dev) : W32 × Dev := (Config.freeWord d.fresh, { d with fresh := d.fresh + 1 })

def Dev.freeNat (d : Dev) : Nat × Dev := (Config.freeNat d.fresh, { d with fresh := d.fresh + 1 })

/-! Time -/

/-- Ticks of the time base in 1 ms and 1 s (R74); a duration is held to the next whole tick. -/
def ticksPerMs : Nat := 622080
def ticksPerSecond : Nat := 622080000

/-- The ticks that `n` µs take, to the next whole tick, and the whole µs in `t` ticks: 622.08 ticks a µs (R74). -/
def usTicks (n : Nat) : Nat := (n * 62208 + 99) / 100
def ticksUs (t : Nat) : Nat := t * 100 / 62208

/-- Ticks of one frame period (R74). -/
def ticksPerFrame : Nat := 77760

/-- The time base (R77): 0 until first lock, then every tick, wrapping after 63 bits. -/
def Dev.timeBase (d : Dev) : Nat :=
  match d.timing.firstLock with
  | none => 0
  | some t => (d.now - t) % 2 ^ 63

def Dev.rootValid (d : Dev) : Bool := d.on F.clkStatusRootValid

/-! Lanes and path points -/

/-- A lane after a cold reset: LANE.CFG and SV_CFG of its page are in force (R57, R139). -/
def LaneSt.atReset (n : Nat) : LaneSt :=
  { cfg := resetWord (laneAddr n Reg.laneCfg), sieve := { cfg := resetWord (laneAddr n Reg.laneSvCfg) } }

def Dev.lane (d : Dev) (n : Nat) : LaneSt := Store.get LaneSt.atReset d.lanes n

def Dev.setLane (d : Dev) (n : Nat) (l : LaneSt) : Dev := { d with lanes := Store.set LaneSt.atReset d.lanes n l }

/-- The Sieve of a group's GFP stream after a cold reset. -/
def gfpAtReset (_ : Nat) : Sieve := { cfg := resetWord Reg.flwSvCfg }

def Dev.gfpSieve (d : Dev) (g : Nat) : Sieve := Store.get gfpAtReset d.gfp g

def Dev.setGfpSieve (d : Dev) (g : Nat) (s : Sieve) : Dev := { d with gfp := Store.set gfpAtReset d.gfp g s }

/-- The fields of the configuration in force on a lane (R57, R60). -/
def LaneSt.rate (l : LaneSt) : Nat := getF l.cfg 0 3
def LaneSt.type (l : LaneSt) : Nat := getF l.cfg 4 2
def LaneSt.isLine (l : LaneSt) : Bool := l.type == 0

/-- N of the STM-N of a LINE lane, by rate code (R57). -/
def stmN (rate : Nat) : Nat :=
  match rate with
  | 0 => 1
  | 1 => 4
  | 3 => 16
  | 5 => 64
  | _ => 1

/-- Tustra blocks per frame, by rate code (R57). -/
def blocksPerFrame (rate : Nat) : Nat :=
  match rate with
  | 0 => 9
  | 1 => 36
  | 2 => 72
  | 3 => 144
  | 4 => 288
  | 5 => 576
  | _ => 1152

/-- A pair of TYPE and RATE that R57 allows on a port lane. -/
def laneCfgAllowed (type rate : Nat) : Bool :=
  match type with
  | 0 => rate == 0 || rate == 1 || rate == 3 || rate == 5
  | 1 => decide (rate ≤ 5)
  | 2 => decide (1 ≤ rate) && decide (rate ≤ 5)
  | _ => false

/-- The page of a lane (R654). -/
def lanePage (n : Nat) : Nat := n + 0x10

/-- The key of a path point in `Dev.paths` (R187, R394). -/
def pointKey : Point → Nat
  | .ho i => i.val
  | .lo i => 18432 + i.val

def Dev.path (d : Dev) (k : Nat) : PathSt := Store.get (fun _ => {}) d.paths k

def Dev.setPath (d : Dev) (k : Nat) (p : PathSt) : Dev := { d with paths := Store.set (fun _ => {}) d.paths k p }

/-! The common header -/

/-- The state that the data path of page `p` has reached: 0 OFF, 1 PREPARE, 2 SERVICE, 3 TEST. -/
def Dev.eff (d : Dev) (p : Nat) : Nat := d.get (F.hdrEffState.page p)

def Dev.retired (d : Dev) (p : Nat) : Bool := d.on (F.hdrCapRetired.page p)

def Dev.inTest (d : Dev) (p : Nat) : Bool := d.eff p == 3

/-- The capability bit of the instance of page `p` (R654). -/
def Dev.present (d : Dev) (p : Nat) : Bool :=
  if p = 1 then d.on F.devCapUnitTiming
  else if p = 2 ∨ p = 3 then d.on F.devCapUnitMemMtx
  else if p = 4 then d.word Reg.devCapHbm0 != 0 || d.word Reg.devCapHbm1 != 0
  else if p = 0xA ∨ p = 0xF then d.on F.devCapUnitProtMate
  else if p = 0xB then d.on F.devCapUnitGroomer
  else if p = 0xC ∨ p = 0xD then d.on F.devCapUnitFlow
  else if p = 0xE then d.on F.devCapUnitMonitor
  else if p < 0x10 then d.on F.devCapUnitMgmt
  else if p < 0x70 then d.on ⟨Reg.devCapPlane0 + 4 * ((p - 0x10) / 32), (p - 0x10) % 32, 1⟩
  else d.on ⟨Reg.devCapMlane, p - 0x70, 1⟩

/-- `CAP` of page `p` (R656). -/
def Dev.capWord (d : Dev) (p : Nat) : W32 :=
  let pr := d.present p
  BitVec.ofNat 32 (bitOf pr + bitOf (pr && !d.on (F.hdrFaultPerm.page p)) * 2 + bitOf (d.retired p) * 4
    + bitOf (d.inTest p) * 8)

/-- R49, R668: what follows a change of the capability map or of a page's `CAP`, `old` being the device before it. -/
def Dev.capCommit (new old : Dev) : Dev :=
  let chg := (List.range 9).any (fun i =>
    new.word (Reg.devCapUnit + 4 * i) != old.word (Reg.devCapUnit + 4 * i))
  let d1 := new.when chg (fun d => (d.roll F.devCapGenGen 1).raise ⟨Reg.hdrSticky + 0x1_0000_0000, 0, 1⟩)
  d1.each 120 (fun d p => d.when (new.capWord p != old.capWord p) (fun e => e.raise (F.hdrStickyCapChg.page p)))

/-- A transient fault of an instance of page `p` (R642). -/
def Dev.transient (d : Dev) (p n : Nat) : Dev := d.bump (F.hdrFaultTransient.page p) n

/-- A channel of page `p` is permanently faulty (R644, R656). -/
def Dev.permanent (d : Dev) (p : Nat) : Dev :=
  (d.when (!d.on (F.hdrFaultPerm.page p)) (fun e => e.raise (F.hdrStickyFault.page p))).raise (F.hdrFaultPerm.page p)

/-- The states of a ledger (R656). -/
def ledgerRunning : Nat := 1
def ledgerDone : Nat := 2
def ledgerAborted : Nat := 3

/-- `LEDGER` and `LEDGER_ST` of page `p` change together (R656, R660). -/
def Dev.ledger (d : Dev) (p id step state done : Nat) : Dev :=
  let d1 := ((d.put (F.hdrLedgerId.page p) id).put (F.hdrLedgerStep.page p) step)
  let d2 := (d1.put (F.hdrLedgerStState.page p) state).put (F.hdrLedgerStDoneSteps.page p) done
  d2.when (state == ledgerDone || state == ledgerAborted) (fun e => e.raise (F.hdrStickyLedger.page p))

/-- R645: a running operation of page `p` is cut short at the step it reached. -/
def Dev.abortLedger (d : Dev) (p : Nat) : Dev :=
  d.when (d.get (F.hdrLedgerStState.page p) == ledgerRunning)
    (fun e => (e.put (F.hdrLedgerStState.page p) ledgerAborted).raise (F.hdrStickyLedger.page p))

/-- A table with `f` applied to every listed value. -/
def Store.remap {α : Type} [DecidableEq α] (dflt : Nat → α) (f : α → α) (s : Store α) : Store α :=
  s.foldl (fun (t : Store α) x => Store.set dflt t x.1 (f x.2)) []

/-! Selectors (R311, R430) -/

/-- A protection field of selector `i` as it is in force: a write that changes one takes effect at the next edge (R430). -/
def Dev.selGet (d : Dev) (f : Field) (i : Nat) : Nat :=
  match d.selRestart.find? (fun x => x.1 == i) with
  | some x => getF (if f.off % 16 = 8 then x.2.1 else x.2.2) f.lo f.len
  | none => d.get (f.at 16 i)

def Dev.selOwner (d : Dev) (i : Nat) : Nat := d.selGet F.selOwner i

/-- The leg that selector `i` has in use: leg A of an MSP bridge (R288, R448). -/
def Dev.legInUse (d : Dev) (i : Nat) : Bool := d.selOwner i != 3 && d.on (F.selSel.at 16 i)

/-! Near accumulators -/

/-- The key of counter `c` of a record of kind `k` and index `i` (R394). Counters 16 up are what a record's second
needs for its classification beside its events (R395). -/
def counterKey (k i c : Nat) : Nat := (k * 0x10_0000 + i) * 32 + c

/-- A path record counts only while its point has `MON_EN` = 1 (R394). -/
def Dev.monitored (d : Dev) (k i : Nat) : Bool :=
  if k = 1 then getF (d.path i).cfg 0 1 == 1
  else if k = 2 then getF (d.path (18432 + i)).cfg 0 1 == 1
  else true

/-- R412: `n` bytes of an object pass; each monitor whose window has begun counts them. -/
def Dev.bwAdd (d : Dev) (obj i n : Nat) : Dev :=
  { d with bw := d.bw.map (fun x =>
    if d.get (F.pmBwSelObj.at 16 x.1) = obj ∧ d.get (F.pmBwSelIndex.at 16 x.1) = i ∧ x.2.start ≤ d.timing.edges then
      (x.1, if d.timing.edges < x.2.start + 8 * d.get (F.pmBwWinMs.at 16 x.1) then { x.2 with bytes := x.2.bytes + n }
        else { x.2 with after := x.2.after + n })
    else x) }

/-- The object of a bandwidth monitor whose bytes a counter counts (R394, R412). -/
def bwObject (k c : Nat) : Option Nat :=
  if k = 0 ∧ c = 9 then some 1 else if k = 0 ∧ c = 12 then some 2 else if k = 3 ∧ c = 1 then some 6
  else if k = 3 ∧ c = 4 then some 7 else none

/-- R393: `n` events of counter `c` of record (`k`, `i`). Events during a warm reset are not counted (R400). -/
def Dev.count (d : Dev) (k i c n : Nat) : Dev :=
  if n = 0 ∨ d.modes.inReset ≠ .no ∨ !d.monitored k i then d
  else
    let key := counterKey k i c
    let d1 : Dev := { d with acc := Store.set (fun _ => 0) d.acc key (Store.get (fun _ => 0) d.acc key + n) }
    match bwObject k c with
    | some o => if k = 0 ∧ (d.lane i).isLine then d1 else d1.bwAdd o i n
    | none => d1

/-! Register access -/

/-- The reply that master `m` is given. -/
def Dev.reply (d : Dev) (m : Nat) (r : Reply) : Dev :=
  { d with replies := Store.set (fun _ => {}) d.replies m r }

/-- The window of R519 that holds `a`, by its place in the table. -/
def windowOf (a : Nat) : Option Nat := (regionOf a).map (fun r => r.window)

/-- The registers of the PM page that user mode never writes (R420). -/
def pmClosed (a : Nat) : Bool :=
  a == Reg.pmWrGo || a == Reg.pmCfg || a == Reg.pmBinAlign || (decide (Reg.pmProf ≤ a) && decide (a < Reg.pmProf + 64))

/-- Whether a user-mode access passes at a page or window (R420, R524). -/
def Dev.userMay (d : Dev) (a : Nat) (write : Bool) : Bool :=
  if isPageAddr a then
    let p := pageOf a
    let base := if write then Reg.mtxUpermW else Reg.mtxUpermR
    d.on ⟨base + 4 * (p / 32), p % 32, 1⟩ && p != 2 && p != 7 && (p != 14 || (d.on F.pmCfgUserEn && !(write && pmClosed a)))
  else
    match windowOf a with
    | some w => d.on ⟨Reg.mtxUwin, if write then 8 + w else w, 1⟩
    | none => true

/-- The replicated scope: RW fields (R490). -/
def replicated (a : Nat) : Bool :=
  if (match regDefOf a with | some r => r.rw == 0 | none => true) then false
  else if isPageAddr a then
    let p := pageOf a
    (p == 0xB && offOf a != 0x100) || (decide (0xC ≤ p) && decide (p ≤ 0xF))
      || (decide (0x10 ≤ p) && decide (p < 0x70) && decide (0x800 ≤ offOf a))
  else
    match windowOf a with
    | some w => w == 2 || w == 4 || w == 5 || w == 6
    | none => false

/-- The sequence number of the frame in progress (R248). -/
def Dev.seqNow (d : Dev) : Nat := (d.timing.edges + 0x1_0000_0000 - d.timing.seqBase % 0x1_0000_0000) % 0x1_0000_0000

/-- R491: an item of the state copy of an ACTIVE has changed. -/
def Dev.note (d : Dev) (kind key : Nat) : Dev :=
  if d.get F.mateStatRole = 1 ∧ !d.mate.stopped then
    { d with mate := { d.mate with
      items := d.mate.items.filter (fun x => x.1 != kind || x.2.1 != key) ++ [(kind, key, d.seqNow / 80)] } }
  else d

/-- An accepted write in the replicated scope is such an item. -/
def Dev.noteWrite (d : Dev) (a : Nat) : Dev := d.when (replicated a) (fun e => e.note 1 a)

/-- How a register or table access of a master stands before its target answers it. -/
inductive Grant where
  /-- The target carries it out. -/
  | ok
  /-- Refused by the target with SLVERR (R53, R54, R465, R520). -/
  | slverr
  /-- Refused for want of a user-mode permission (R524). -/
  | denied
  /-- The master never issues it (R523), or is held in reset (R558, R638). -/
  | never
deriving DecidableEq, Repr

/-- An offset beyond the header that an instance in test accepts writes to (R53). -/
def testWritable (p o : Nat) : Bool :=
  match pageReg p o with
  | some r => r.w1c != 0
      || (decide (p < 0x10) && (o == 0x134 && (p == 2 || p == 5 || p == 6) || o == 0x124 && (p == 3 || p == 4 || p == 9)
          || o == 0x164 && p == 7 || o == 0x118 && p == 8 || o == 0x114 && p == 10 || o == 0x144 && (p == 11 || p == 14)
          || o == 0x104 && (p == 12 || p == 15)))
      || (decide (0x10 ≤ p) && (o == Reg.laneSohEvtMask || o == Reg.lanePsEvtMask || o == Reg.laneTuEvtMask
          || o == Reg.laneDefMask || o == Reg.laneTxeq || o == Reg.laneRxeq || o == Reg.lanePrbs || o == Reg.laneLoop))
      || (decide (0x10 ≤ p) && decide (p < 0x70) && (o == Reg.laneSohCfg || o == Reg.laneSohTx))
  | none => true

/-- The entry of the flow window at `a` belongs to a retired flow-context slice or flow port (R55). -/
def Dev.channelRetired (d : Dev) (a : Nat) : Bool :=
  (decide (a < 0x1A20_0000) && d.on ⟨Reg.flwSliceRet, (a % 0x10_0000) / 16 / 4096, 1⟩)
    || (decide (0x1A60_0000 ≤ a) && d.on ⟨Reg.flwFportRet, (a - 0x1A60_0000) / 256, 1⟩)

/-- The page of the instance that a table entry belongs to (R52 to R54): the Groomer, protection, the Monitor, the Flow Engine, or
the lane of the path point. -/
def entryPage (a : Nat) : Option Nat :=
  match windowOf a with
  | some 0 => some 0xB
  | some 1 => some 0xB
  | some 2 => some 0xF
  | some 3 => some 0xF
  | some 4 => some 0xE
  | some 5 => some 0xC
  | some 6 =>
    if a < 0x1C08_0000 then some (lanePage ((a - 0x1C00_0000) / 4096))
    else if a < 0x1C10_0000 then some (lanePage ((a - 0x1C08_0000) / 4096))
    else if a < 0x1C40_0000 then none
    else if a < 0x1C80_0000 then some (lanePage ((a - 0x1C40_0000) / 43008))
    else some (lanePage ((a - 0x1C80_0000) / 21504))
  | _ => none

/-- What an access to a register or table word at `a` meets at its instance, whoever makes it: one that is retired answers nothing, and one in
test takes few writes (R53, R54). -/
def Dev.instanceGrant (d : Dev) (a : Nat) (write : Bool) : Grant :=
  if isPageAddr a && decide (0x100 ≤ offOf a) then
    let p := pageOf a
    if d.retired p then .slverr
    else if write && d.inTest p && !testWritable p (offOf a) then .slverr
    else .ok
  else
    match entryPage a with
    | some p => if d.retired p || (p == 0xC && d.channelRetired a) || (write && d.inTest p) then .slverr else .ok
    | none => .ok

/-- The Host Control Port has a transaction of its own under way, or posted writes that have not committed: no later access of the host
takes effect before them (R525). -/
def Dev.portBusy (d : Dev) : Bool := d.port.cur.isSome || !d.port.posted.isEmpty

/-- What an access to a register or table word at `a` that is in the matrix meets before its target's own rule. -/
def Dev.matrixGrant (d : Dev) (m : Nat) (a : Nat) (write : Bool) : Grant :=
  if 3 ≤ m ∨ d.modes.inReset ≠ .no then .never
  else if m = 2 && !d.userMay a write then .denied
  else if write && replicated a && (d.get F.mateStatRole == 2 || d.get F.mateStatRole == 3)
      && !d.on F.mateCfgLocalWr then .slverr
  else d.instanceGrant a write

/-- What a master's next access meets: the host's waits while its port is busy. -/
def Dev.grant (d : Dev) (m : Nat) (a : Nat) (write : Bool) : Grant :=
  if m = 0 && d.portBusy then .never else d.matrixGrant m a write

/-! Filtered event counters (R414) -/

/-- The count of filtered counter `n`. -/
def Dev.fecCount (d : Dev) (n : Nat) : Nat := Store.get (fun _ => 0) d.fec n

def Dev.setFec (d : Dev) (n v : Nat) : Dev := { d with fec := Store.set (fun _ => 0) d.fec n (v % 2 ^ 64) }

/-- An event class takes in a transaction. -/
def fecClass (cls : Nat) (write : Bool) (r : Resp) : Bool :=
  match cls with
  | 0 => !write
  | 1 => write
  | 2 => true
  | 3 => r == .decerr
  | 4 => r == .slverr
  | 5 => r == .aborted
  | 6 => r != .okay
  | _ => false

/-- Filtered counter `n` matches a transaction of master `m` that starts at `a`. -/
def Dev.fecMatch (d : Dev) (n m a : Nat) (write : Bool) (r : Resp) : Bool :=
  let at' (f : Field) : Field := f.at 32 n
  d.on (at' F.pmFecCfgEn) && (d.get (at' F.pmFecCfgMasters)).testBit m
    && fecClass (d.get (at' F.pmFecCfgClass)) write r
    && decide (d.get (at' F.pmFecStartlAddr) + d.get (at' F.pmFecStarthAddr) * 0x1_0000_0000 ≤ a)
    && decide (a ≤ d.get (at' F.pmFecEndlAddr) + d.get (at' F.pmFecEndhAddr) * 0x1_0000_0000)

/-- A transaction's response is given, with the beats completed. -/
def Dev.fecSeen (d : Dev) (m a : Nat) (write : Bool) (r : Resp) (beats : Nat) : Dev :=
  d.each 16 (fun e n =>
    if d.fecMatch n m a write r then e.setFec n (e.fecCount n + (if d.on (F.pmFecCfgBeats.at 32 n) then beats else 1)) else e)

/-- The answer to a refused access. -/
def Dev.refuse (d : Dev) (m : Nat) (g : Grant) (data : List Byte) : Dev :=
  match g with
  | .ok => d
  | .never => d
  | .slverr => d.reply m { resp := .slverr, data := data }
  | .denied => (d.raise F.mtxEvtPerm).reply m { resp := .slverr, data := data }

/-- A register write by master `m` at `a`: `op` is its effect and the target's answer. -/
def Dev.write (d : Dev) (m : Nat) (a : Nat) (op : Dev → Dev × Resp) : Dev :=
  match d.grant m a true with
  | .ok =>
    let r := op d
    ((r.1.when (r.2 == .okay) (fun e => e.noteWrite a)).reply m { resp := r.2 }).fecSeen m a true r.2 1
  | .never => d
  | g => (d.refuse m g []).fecSeen m a true .slverr 1

/-- A register read whose value is `w`, and what reading it changes. -/
def Dev.readThen (d : Dev) (m a : Nat) (w : W32) (after : Dev → Dev) : Dev :=
  match d.grant m a false with
  | .ok => ((after d).reply m { resp := .okay, data := [byteOf w 0, byteOf w 1, byteOf w 2, byteOf w 3] }).fecSeen m a false .okay 1
  | .never => d
  | g => (d.refuse m g [0, 0, 0, 0]).fecSeen m a false .slverr 1

/-- An effect that its target answers OK. -/
def okay (d : Dev) : Dev × Resp := (d, .okay)

end Sys2Proof.Machine
end

