-- ==== Sys2Proof/Machine/MemOps.lean ====
section
/-! DEFINITION. The byte memories: processor SRAM and HBM3 by bus address, with 0 in every byte that nothing has written,
and flash by its offset, with 0xFF there (notes/assumptions). A word lies lowest byte first (R10). -/

namespace Sys2Proof.Machine

def Dev.base40 (d : Dev) (lo hi : Field) : Nat := d.get lo + d.get hi * 0x1_0000_0000

/-- Bases of the PM region, of the dump ring region and of the Skewer ring; 0 while the region is lost (R517). -/
def Dev.cntBase (d : Dev) : Nat := d.base40 F.pmCntBaseLoBase F.pmCntBaseHiBase
def Dev.dumpBase (d : Dev) : Nat := d.base40 F.pmDumpBaseLoBase F.pmDumpBaseHiBase
def Dev.traceBase (d : Dev) : Nat := d.base40 F.pmTraceBaseLoBase F.pmTraceBaseHiBase

/-- What an unlisted byte of memory and of flash reads as. -/
def memZero (_ : Nat) : Byte := 0
def flashErased (_ : Nat) : Byte := 0xFF

/-- The stacks are trained (R512). -/
def Dev.hbmTrained (d : Dev) : Bool := d.on F.hbmStatTrained0 && d.on F.hbmStatTrained1

/-- They are out of reset, and out of self-refresh after a warm reset (R512). -/
def Dev.hbmUp (d : Dev) : Bool := d.hbmTrained && d.modes.inReset == .no && !d.modes.hbmKept

/-! HBM3 (R512 to R517) -/

def hbmBase : Nat := 0x8_0000_0000
def hbmUnitSize : Nat := 0x2000_0000

/-- The unit of an address in the HBM3 window (R514), and of an offset in it. -/
def hbmUnitOf (a : Nat) : Nat := (a - hbmBase) / hbmUnitSize

def hbmUnitAddr (u : Nat) : Nat := hbmBase + u * hbmUnitSize

/-- The regions of R515 in table order, the reserve last: the first and last unit that each touches. -/
def hbmRegions : List (Nat × Nat) :=
  [(0, 7), (8, 15), (16, 23), (24, 39), (40, 43), (44, 45), (46, 47), (48, 48), (49, 63)]

/-- The region of an address in the HBM3 window (R515). -/
def hbmRegionOf (a : Nat) : Nat :=
  if 0xE_1000_0000 ≤ a then 8
  else (hbmRegions.findIdx? (fun r => decide (r.1 ≤ hbmUnitOf a) && decide (hbmUnitOf a ≤ r.2))).getD 8

def Dev.hbmBacked (d : Dev) (u : Nat) : Bool := d.on (F.hbmUnitBacked.at 4 u)

/-- Region `r` is lost: one of its units is unbacked after training (R517). The reserve is no region of a user. -/
def Dev.hbmLost (d : Dev) (r : Nat) : Bool :=
  let x := hbmRegions.getD r (0, 0)
  d.hbmTrained && decide (r < 8) && (List.range (x.2 + 1 - x.1)).any (fun i => !d.hbmBacked (x.1 + i))

/-- The users of region `r` may use it (R512, R517). -/
def Dev.regionUp (d : Dev) (r : Nat) : Bool := d.hbmUp && !d.hbmLost r

/-- An access to HBM3 at `a` is carried out (R512, R517). -/
def Dev.hbmAnswers (d : Dev) (a : Nat) : Bool :=
  decide (hbmBase ≤ a) && d.hbmUp && d.hbmBacked (hbmUnitOf a) && !d.hbmLost (hbmRegionOf a)

/-- The canonical form of a memory. -/
abbrev memWf (m : List Host.Cell) : Bool := Store.wf memZero m
abbrev flashWf (m : List Host.Cell) : Bool := Store.wf flashErased m

def memByte (m : List Host.Cell) (a : Nat) : Byte := Store.get memZero m a

def memPut (m : List Host.Cell) (a : Nat) (b : Byte) : List Host.Cell := Store.set memZero m a b

/-- Bytes stored from address `a` up. -/
def memWrite (m : List Host.Cell) (a : Nat) : List Byte → List Host.Cell
  | [] => m
  | b :: t => memWrite (memPut m a b) (a + 1) t

/-- `n` bytes from address `a` up. -/
def memRead (m : List Host.Cell) (a n : Nat) : List Byte := (List.range n).map (fun i => memByte m (a + i))

/-- The bytes of a word, lowest first (R10). -/
def wordBytes (w : W32) : List Byte := [byteOf w 0, byteOf w 1, byteOf w 2, byteOf w 3]

def memWord (m : List Host.Cell) (a : Nat) : W32 :=
  wordOfBytes (memByte m a) (memByte m (a + 1)) (memByte m (a + 2)) (memByte m (a + 3))

def memWriteWord (m : List Host.Cell) (a : Nat) (w : W32) : List Host.Cell := memWrite m a (wordBytes w)

/-- A 64-bit count, low word first (R394). -/
def memCount (m : List Host.Cell) (a : Nat) : Nat :=
  (memWord m a).toNat + (memWord m (a + 4)).toNat * 0x1_0000_0000

def memWriteCount (m : List Host.Cell) (a v : Nat) : List Host.Cell :=
  memWriteWord (memWriteWord m a (BitVec.ofNat 32 v)) (a + 4) (BitVec.ofNat 32 (v / 0x1_0000_0000))

/-- The memory with every byte from `a` to `a + n - 1` at 0. -/
def memClear (m : List Host.Cell) (a n : Nat) : List Host.Cell :=
  Store.keep (fun k => decide (k < a) || decide (a + n ≤ k)) m

/-- `n` bytes from `src` copied to `dst`. -/
def memCopy (m : List Host.Cell) (src dst n : Nat) : List Host.Cell :=
  (m.filter (fun x => decide (src ≤ x.1) && decide (x.1 < src + n))).foldl
    (fun a x => memPut a (x.1 - src + dst) x.2) (memClear m dst n)

end Sys2Proof.Machine
end

