-- ==== Sys2Proof/Machine/Geometry.lean ====
section
/-! DEFINITION. The fabric positions of a groomer port and the units of its structure (R186 to R195, R235, R236, R300). -/

namespace Sys2Proof.Machine

/-- Byte slots of a groomer port (R285), and entries of a connection map (R286). -/
def portSlots : Nat := 155520
def mapEntries : Nat := 16174080

/-- The interleave position of AUG-1 `g` (R193). -/
def augPos (g : Nat) : Nat := g / 16 + 4 * (g / 4 % 4) + 16 * (g % 4)

/-- Payload column `c` of AUG-1 `g` in row `r`, and its AU pointer byte `j` (R194). -/
def payloadSlot (g r c : Nat) : Nat := r * 17280 + 576 + 64 * c + augPos g
def pointerSlot (g j : Nat) : Nat := 51840 + 64 * j + augPos g

/-- The columns `cols` of AUG-1s `gs` in row `r`, in rising order of slot when `gs` rises by `augPos`. -/
def rowSlots (gs cols : List Nat) (r : Nat) : List Nat :=
  cols.flatMap (fun c => gs.map (fun g => payloadSlot g r c))

/-- Slots in rising order: the columns `cols` in rows 0 to 8, with the pointer bytes `ptr` of row 3 before its columns. -/
def blockSlots (gs ptr cols : List Nat) : List Nat :=
  (List.range 9).flatMap (fun r =>
    (if r = 3 then ptr.flatMap (fun j => gs.map (fun g => pointerSlot g j)) else []) ++ rowSlots gs cols r)

/-- The kinds of unit; equal kinds have equal numbers. -/
inductive UnitKind where
  | au4 | au4c4 | au4c16 | au4c64 | au3 | tu3 | tu12 | tu11
deriving DecidableEq, Repr

/-- A unit of a port's structure (R300): its AUG-1, its sub-point or lower-order number within it, and its slots. -/
structure FabricUnit where
  kind : UnitKind
  g : Nat
  sub : Nat
  slots : List Nat
deriving DecidableEq, Repr

/-- The kinds of `KIND` (R235). -/
def kindAu4 : Nat := 1
def kindMember : Nat := 5
def kindAu3x3 : Nat := 6

/-- The AUG-1s that a `KIND` spans (R190). -/
def kindSpan (kind : Nat) : Nat :=
  match kind with
  | 2 => 4
  | 3 => 16
  | 4 => 64
  | _ => 1

/-- The AUG-1s of a concatenated head, in rising order of `augPos`. -/
def spanAugs (g n : Nat) : List Nat :=
  if n = 4 then (List.range 4).map (fun z => g + z)
  else if n = 16 then (List.range 4).flatMap (fun z => (List.range 4).map (fun y => g + 4 * y + z))
  else if n = 64 then (List.range 4).flatMap (fun z => (List.range 4).flatMap (fun y =>
    (List.range 4).map (fun x => g + 16 * x + 4 * y + z)))
  else [g]

/-- Payload columns of AU-3 `b` and of TUG-3 `k` in a VC-4, as G.707 interleaves them (R195). -/
def au3Cols (b : Nat) : List Nat := (List.range 87).map (fun a => b + 3 * a)
def tug3Cols (k : Nat) : List Nat := (List.range 86).map (fun i => 3 + k + 3 * i)

/-- The 84 columns of the seven TUG-2s of a TUG-3 or of a VC-3 with its fixed stuff (R195). -/
def tugCols (inAu3 : Bool) (k : Nat) : List Nat :=
  if inAu3 then ((List.range 86).map (fun a => a + 1)).filterMap (fun a =>
    if a = 29 ∨ a = 58 then none else some (k + 3 * a))
  else (tug3Cols k).drop 2

/-- Columns of TU `t` of TUG-2 `m`, which carries `n` TUs. -/
def tuCols (cols : List Nat) (m n t : Nat) : List Nat :=
  let t2 := (List.range 12).map (fun i => cols.getD (m + 7 * i) 0)
  (List.range (12 / n)).map (fun i => t2.getD (t + n * i) 0)

/-- The TUs of a structured AUG-1 `g` with structure word `w` (R191, R235, R300). -/
def tuUnits (g : Nat) (w : W32) : List FabricUnit :=
  let inAu3 := getF w 0 3 == kindAu3x3
  (List.range 3).flatMap (fun k =>
    if !inAu3 && getF w (4 + k) 1 == 1 then
      let cols := tug3Cols k
      let ptr := cols.take 1
      [{ kind := .tu3, g := g, sub := 28 * k,
         slots := (List.range 9).flatMap (fun r =>
           (if 3 ≤ r ∧ r ≤ 5 then rowSlots [g] ptr r else []) ++ rowSlots [g] (cols.drop 1) r) }]
    else
      let cols := tugCols inAu3 k
      (List.range 7).flatMap (fun m =>
        let n := if getF w (8 + 7 * k + m) 1 = 1 then 3 else 4
        (List.range n).map (fun t =>
          { kind := if n = 3 then .tu12 else .tu11, g := g, sub := 28 * k + 4 * m + t,
            slots := blockSlots [g] [] (tuCols cols m n t) })))

/-- R236: the head at `g` of the structure words `ws` (one for each of the 64 AUG-1s) is valid. -/
def headValid (ws : List W32) (g : Nat) : Bool :=
  let w := ws.getD g 0
  let n := kindSpan (getF w 0 3)
  n != 1 && g % n == 0 && getF w 3 1 == 0
    && (List.range (n - 1)).all (fun i => getF (ws.getD (g + 1 + i) 0) 0 3 == kindMember)

/-- R236: AUG-1 `g` is among the points that follow a head which is not valid. -/
def underBadHead (ws : List W32) (g : Nat) : Bool :=
  (List.range g).any (fun h =>
    let n := kindSpan (getF (ws.getD h 0) 0 3)
    n != 1 && decide (g < h + n) && !headValid ws h)

/-- R236: the valid head that AUG-1 `g`, a MEMBER, belongs to. -/
def headOf (ws : List W32) (g : Nat) : Option Nat :=
  if getF (ws.getD g 0) 0 3 = kindMember then
    [4, 16, 64].findSome? (fun n =>
      let h := g / n * n
      if h ≠ g ∧ kindSpan (getF (ws.getD h 0) 0 3) = n ∧ headValid ws h then some h else none)
  else none

/-- `CFG_ERR` of AUG-1 `g` (R236). -/
def structBad (ws : List W32) (g : Nat) : Bool :=
  let w := ws.getD g 0
  let k := getF w 0 3
  if k = 0 then false
  else if k = kindAu4 ∨ k = kindAu3x3 then false
  else if k = kindMember then (headOf ws g).isNone || getF w 3 1 == 1 || underBadHead ws g
  else if k = 7 then true
  else !headValid ws g

/-- The units at AUG-1 `g` of a structure of which AUG-1s 0 to `naug` - 1 are used (R186, R300). -/
def augUnits (ws : List W32) (naug g : Nat) : List FabricUnit :=
  let w := ws.getD g 0
  let k := getF w 0 3
  let st := getF w 3 1
  if k = 0 ∨ k = kindMember ∨ structBad ws g ∨ naug < g + kindSpan k then []
  else if k = kindAu3x3 then
    if st = 1 then tuUnits g w
    else (List.range 3).map (fun b =>
      { kind := .au3, g := g, sub := b, slots := blockSlots [g] [b, 3 + b, 6 + b] (au3Cols b) })
  else if k = kindAu4 ∧ st = 1 then tuUnits g w
  else
    let gs := spanAugs g (kindSpan k)
    [{ kind := if k = 2 then .au4c4 else if k = 3 then .au4c16 else if k = 4 then .au4c64 else .au4, g := g, sub := 0,
       slots := blockSlots gs (List.range 9) (List.range 261) }]

/-- The units of a structure. -/
def unitsOf (ws : List W32) (naug : Nat) : List FabricUnit := (List.range naug).flatMap (augUnits ws naug)

/-- The structure word in force at position `h` (R206, R234). -/
def Dev.structNow (d : Dev) (h : Nat) : W32 := Store.get (fun _ => 0) d.structs h

/-- The largest number of AUG-1s of a SYSTEM lane by rate code (R262). -/
def largestA (rate : Nat) : Nat :=
  match rate with
  | 1 => 4
  | 2 => 8
  | 3 => 16
  | 4 => 32
  | _ => 64

/-- `TU_CFG.AUGS` as it acts and reads: a value above the rate's largest is that one (R262). -/
def Dev.augs (d : Dev) (n : Nat) : Nat := Nat.min (largestA (d.lane n).rate) (d.get (F.laneTuCfgAugs.lane n))

/-- The AUG-1s that port `q` uses (R186): N on a LINE lane, A on a SYSTEM lane, 64 on a RADIO lane and a flow port. -/
def Dev.naug (d : Dev) (q : Nat) : Nat :=
  if q < 96 then
    match (d.lane q).type with
    | 0 => stmN (d.lane q).rate
    | 2 => d.augs q
    | _ => 64
  else 64

/-- The structure words of groomer port `q`: the path configuration in force of lane `q`, or the flow-port structure (R235,
R336). Those of AUG-1s that the port does not use have no effect (R186). -/
def Dev.structWords (d : Dev) (q : Nat) : List W32 :=
  let naug := d.naug q
  (List.range 64).map (fun g =>
    if naug ≤ g then 0
    else if q < 96 then d.structNow (64 * q + g) else d.word (0x1A60_0000 + 4 * (64 * (q - 96) + g)))

def Dev.portUnits (d : Dev) (q : Nat) : List FabricUnit := unitsOf (d.structWords q) (d.naug q)

/-- Fabric pointer bytes of value 0 and normal NDF, at pointer byte j of an AUG-1 (R292, R303). -/
def auPointerByte (au3 : Bool) (j : Nat) : Byte :=
  if au3 then (if j < 3 then 0x68 else 0x00)
  else match j with
    | 0 => 0x68
    | 1 => 0x9B
    | 2 => 0x9B
    | 4 => 0xFF
    | 5 => 0xFF
    | _ => 0x00

end Sys2Proof.Machine
end

