-- ==== Sys2Proof/Machine/Banks.lean ====
section
/-! DEFINITION. The mapping banks of RADIO lanes (R265 to R267, R275): what an entry names, when a bank is refused, and where each slot
lies in the frame. -/

namespace Sys2Proof.Machine

/-- Entries of a bank of lane `n`, up to the first END. -/
def Dev.bankEntries (d : Dev) (n bank : Nat) : List W32 :=
  ((List.range 1024).map (fun i => d.word (laneAddr n (Reg.laneTuMap0 + 0x1000 * bank + 4 * i)))).takeWhile
    (fun e => getF e 0 3 != 0)

/-- The TUs that an entry names: `count` of them from index `first` up, each of kind `k`; `none` where the entry does not
fit the structure. -/
def tuPick (us : List FabricUnit) (k : UnitKind) (first count : Nat) : Option (List (List Nat)) :=
  let l := (us.filter (fun u => decide (first ≤ u.sub))).take count
  if l.length = count ∧ l.all (fun u => u.kind == k) then some (l.map (fun u => u.slots)) else none

/-- The slots of each unit that an entry names, in rising order; `none` where it is refused (R265, R267). -/
def entryUnits (ws : List W32) (e : W32) : Option (List (List Nat)) :=
  let k := getF e 0 3
  let g := getF e 6 6
  let sub := getF e 12 2
  let first := getF e 14 7
  let count := getF e 21 7
  let w := ws.getD g 0
  let au4 := getF w 0 3 == kindAu4
  let st := getF w 3 1 == 1
  if 5 < k ∨ getF e 28 4 ≠ 0 ∨ count = 0 then none
  else if k = 1 then
    if sub ≠ 0 ∨ first ≠ 0 ∨ 64 < g + count then none
    else some ((List.range count).map (fun x => blockSlots [g + x] (List.range 9) (List.range 261)))
  else if k = 2 then
    if first ≠ 0 ∨ count ≠ 1 ∨ 2 < sub ∨ getF w 0 3 ≠ kindAu3x3 then none
    else some [blockSlots [g] [sub, 3 + sub, 6 + sub] (au3Cols sub)]
  else if k = 3 then
    if first ≠ 0 ∨ count ≠ 1 ∨ 2 < sub ∨ !au4 ∨ !st then none
    else some [blockSlots [g] [] (tug3Cols sub)]
  else if sub ≠ 0 ∨ !st ∨ !(au4 || getF w 0 3 == kindAu3x3) then none
  else tuPick (tuUnits g w) (if k = 4 then .tu12 else .tu11) first count

/-- Blocks of 264 bytes that `n` bytes take. -/
def blocksOf (n : Nat) : Nat := (n + 263) / 264

/-- Entries grouped into classes; `none` where an entry is refused or a class number falls. -/
def groupClasses (ws : List W32) : List W32 → List TuClass → Option (List TuClass)
  | [], acc => some acc
  | e :: t, acc =>
    match entryUnits ws e with
    | none => none
    | some us =>
      let c := getF e 3 3
      match acc.getLast? with
      | none => groupClasses ws t [⟨c, 0, us.flatten⟩]
      | some x =>
        if c < x.cls then none
        else if c = x.cls then groupClasses ws t (acc.dropLast ++ [{ x with slots := x.slots ++ us.flatten }])
        else groupClasses ws t (acc ++ [⟨c, x.first + blocksOf x.slots.length, us.flatten⟩])

/-- The slots that an entry names, or none where it is refused. -/
def entrySlots (ws : List W32) (e : W32) : List Nat := ((entryUnits ws e).getD []).flatten

/-- The slots that any entry of a bank names. -/
def Dev.bankSlots (d : Dev) (n bank : Nat) : List Nat := (d.bankEntries n bank).flatMap (entrySlots (d.structWords n))

/-- The containers that an entry carries (R275): an AUG-1, or all AUG-1s of a concatenation, and each other unit by itself. -/
def entryContainers (ws : List W32) (e : W32) : List (List Nat) :=
  if getF e 0 3 = 1 then
    (List.range (getF e 21 7)).filterMap (fun x =>
      let g := getF e 6 6 + x
      let k := getF (ws.getD g 0) 0 3
      if (headOf ws g).isSome then none
      else some (blockSlots (spanAugs g (if structBad ws g then 1 else kindSpan k)) (List.range 9) (List.range 261)))
  else (entryUnits ws e).getD []

def Dev.bankContainers (d : Dev) (n bank : Nat) : List (List Nat) :=
  (d.bankEntries n bank).flatMap (entryContainers (d.structWords n))

/-- The layout of a bank of RADIO lane `n`; `none` where the bank is refused (R267): among others, where an entry does not cover whole
every groomer unit with which it shares a slot. -/
def Dev.bankLayout (d : Dev) (n bank : Nat) : Option (List TuClass) :=
  let ws := d.structWords n
  let es := d.bankEntries n bank
  match groupClasses ws es [] with
  | none => none
  | some cs =>
    let all := cs.flatMap (fun c => c.slots)
    let units := unitsOf ws 64
    let whole : Bool := es.all (fun e =>
      let l := entrySlots ws e
      units.all (fun u => u.slots.all (fun s => l.contains s) || u.slots.all (fun s => !l.contains s)))
    let fits : Bool := match cs.getLast? with
      | some x => decide (x.first + blocksOf x.slots.length ≤ blocksPerFrame (d.lane n).rate)
      | none => true
    if all.Nodup ∧ whole ∧ fits then some cs else none

/-- The block and payload byte of a slot in a layout. -/
def slotPlace (cs : List TuClass) (s : Nat) : Option (Nat × Nat) :=
  cs.findSome? (fun c =>
    match c.slots.findIdx? (fun x => x == s) with
    | some i => some (c.first + i / 264, i % 264)
    | none => none)

end Sys2Proof.Machine
end

