-- ==== Sys2Proof/Machine/Container.lean ====
section
/-! DEFINITION. A container in its slots (R185, R193 to R197, R222, R224): what each slot of a unit holds in a fabric frame, how a
fabric pointer places the bytes of the VC, and where the path overhead lies within it. -/

namespace Sys2Proof.Machine

/-! Slots (R194 to R197) -/

/-- What a slot of a unit is for: a byte of the pointer word, a byte of the justification opportunity, another pointer byte, or a byte
of the VC. -/
inductive SlotRole where
  | h1 | h2 | h3 | fixed | vc
deriving DecidableEq, Repr

/-- Bytes of a step of the pointer (R185). -/
def UnitKind.step : UnitKind → Nat
  | .au4 => 3
  | .au4c4 => 12
  | .au4c16 => 48
  | .au4c64 => 192
  | _ => 1

/-- The AUG-1s of a unit; 1 for a unit that takes part of one. -/
def UnitKind.augs (k : UnitKind) : Nat := if k.step = 1 then 1 else k.step / 3

/-- Columns of a TU-12 or TU-11. -/
def UnitKind.tuWidth : UnitKind → Nat
  | .tu12 => 4
  | .tu11 => 3
  | _ => 0

/-- A TU whose pointer spans a multiframe. -/
def UnitKind.isTu1x (k : UnitKind) : Bool := k.tuWidth != 0

/-- Pointer values, and bytes of a VC frame or multiframe with the stuff columns of an AU-3 (R185). -/
def UnitKind.values : UnitKind → Nat
  | .tu3 => 765
  | .tu12 => 140
  | .tu11 => 104
  | _ => 783

def UnitKind.vcLen (k : UnitKind) : Nat := k.values * k.step

/-- Bytes of a VC in one row, for the containers with nine rows. -/
def UnitKind.vcRow (k : UnitKind) : Nat :=
  match k with
  | .tu3 => 85
  | .au3 => 87
  | _ => 87 * k.step

/-- The roles of a unit's slots in rising order; `mf` counts the frames of the TU multiframe (R196). -/
def UnitKind.roles (k : UnitKind) (mf : Nat) : List SlotRole :=
  let bytes (n : Nat) : List SlotRole := List.replicate n .vc
  match k with
  | .tu3 => bytes 255 ++ .h1 :: bytes 85 ++ .h2 :: bytes 85 ++ .h3 :: bytes 340
  | .au3 => bytes 261 ++ [.h1, .h2, .h3] ++ bytes 522
  | .tu12 => bytes 12 ++ (if mf = 0 then .h1 else if mf = 1 then .h2 else if mf = 2 then .h3 else .fixed) :: bytes 23
  | .tu11 => bytes 9 ++ (if mf = 0 then .h1 else if mf = 1 then .h2 else if mf = 2 then .h3 else .fixed) :: bytes 17
  | _ =>
    let x := k.augs
    bytes (783 * x)
      ++ (List.range (9 * x)).map (fun i => if i = 0 then .h1 else if i = 3 * x then .h2 else if 6 * x ≤ i then .h3 else .fixed)
      ++ bytes (1566 * x)

/-- The slots of a unit with their roles. -/
def FabricUnit.layout (u : FabricUnit) (mf : Nat) : List (Nat × SlotRole) := u.slots.zip (u.kind.roles mf)

/-- The slot of the first byte of the pointer word. -/
def FabricUnit.wordSlot (u : FabricUnit) : Nat :=
  match (u.layout 0).find? (fun x => x.2 == .h1) with
  | some x => x.1
  | none => 0

/-- The AU-4 or AU-3s of a structured AUG-1 `g` with structure word `w`: they carry TUs and are no units (R300). -/
def structUnits (g : Nat) (w : W32) : List FabricUnit :=
  if getF w 3 1 = 1 ∧ getF w 0 3 = kindAu4 then
    [{ kind := .au4, g := g, sub := 0, slots := blockSlots [g] (List.range 9) (List.range 261) }]
  else if getF w 3 1 = 1 ∧ getF w 0 3 = kindAu3x3 then
    (List.range 3).map (fun b => { kind := .au3, g := g, sub := b, slots := blockSlots [g] [b, 3 + b, 6 + b] (au3Cols b) })
  else []

/-- The structured containers of a port's structure. -/
def structsOf (ws : List W32) (naug : Nat) : List FabricUnit :=
  (List.range naug).flatMap (fun g => structUnits g (ws.getD g 0))

def Dev.portStructs (d : Dev) (q : Nat) : List FabricUnit := structsOf (d.structWords q) (d.naug q)

/-- The containers of port `q`: its units, and the structured containers that carry units (R300). -/
def Dev.portAreas (d : Dev) (q : Nat) : List FabricUnit := d.portUnits q ++ d.portStructs q

/-- The AUG-1s of a Tustra lane that carry no container: UNUSED, or of a structure that is not valid (R200, R236). -/
def Dev.unusedAreas (d : Dev) (q : Nat) : List FabricUnit :=
  let ws := d.structWords q
  if q < 96 && (d.lane q).type != 0 then
    ((List.range (d.naug q)).filter (fun g => getF (ws.getD g 0) 0 3 == 0 || structBad ws g)).map (fun g =>
      { kind := .au4, g := g, sub := 0, slots := blockSlots [g] (List.range 9) (List.range 261) })
  else []

/-- The places of port `q` that an interpreter rules over: its containers, and what carries none. -/
def Dev.portPlaces (d : Dev) (q : Nat) : List FabricUnit := d.portAreas q ++ d.unusedAreas q

/-- Slots of port `q` are written in the frame in progress. -/
def Dev.ingressWrite (d : Dev) (q : Nat) (l : List (Nat × Byte)) : Dev :=
  { d with inFill := { d.inFill with bytes := l.foldl (fun b x =>
    Store.put (Store.drop b (portSlots * q + x.1)) (portSlots * q + x.1) x.2) d.inFill.bytes } }

/-! Pointers (R195, R197, R215) -/

/-- The I bits and the D bits of the value (R197). -/
def maskI : Nat := 0x2AA
def maskD : Nat := 0x155

/-- The pointer word that carries an action on the value in force, with the SS bits of an AU-n (R197). -/
def PtrAct.word (a : PtrAct) (val : Nat) : Nat :=
  match a with
  | .same => 0x6800 + val
  | .inc => 0x6800 + (val ^^^ maskI)
  | .dec => 0x6800 + (val ^^^ maskD)
  | .new v => 0x9800 + v
  | .ais => 0xFFFF

/-- What a fabric pointer word does after the value `val`; a value that changes otherwise is a new one (R216). -/
def ptrAct (val : Option Nat) (w : Nat) : PtrAct :=
  let v := w % 1024
  if w = 0xFFFF then .ais
  else if w / 4096 = 9 then .new v
  else match val with
    | none => .new v
    | some a => if v = a then .same else if v = a ^^^ maskI then .inc else if v = a ^^^ maskD then .dec else .new v

/-- What one slot turns out to be: a pointer byte, an opportunity or stuff, or the byte of the VC at a place. -/
inductive SlotUse where
  | pointer | stuff | byte (off : Option Nat)
deriving DecidableEq, Repr

/-- The word whose two bytes have gone by comes into force (R195, R201). -/
def Track.word (t : Track) (k : UnitKind) : Track :=
  let n := k.values
  match t.next with
  | .same => { t with act := .same }
  | .inc => { t with act := .inc, val := t.val.map (fun a => (a + 1) % n) }
  | .dec => { t with act := .dec, val := t.val.map (fun a => (a + n - 1) % n) }
  | .new v => { t with act := .new v, val := some v, off := none }
  | .ais => { t with act := .ais, val := none, off := none }

/-- The next byte of the VC. -/
def Track.byte (t : Track) (k : UnitKind) : Track × SlotUse :=
  ({ t with off := t.off.map (fun o => (o + 1) % k.vcLen) }, .byte t.off)

/-- One slot of role `r`. Positions count from the slot after H3, and in a TU-12 or TU-11 from the one after V2; a positive
justification leaves the slots at position 0, or the slot after V3, without a byte of the VC, and a negative one gives the opportunity to
it (R195, R197). -/
def Track.slot (t : Track) (k : UnitKind) (r : SlotRole) : Track × SlotUse :=
  match r with
  | .h1 => (t, .pointer)
  | .fixed => (t, .pointer)
  | .h2 =>
    let x := t.word k
    (if k.isTu1x then { x with pos := 0 } else x, .pointer)
  | .h3 =>
    let x := if k.isTu1x then t else { t with pos := 0 }
    if t.act = .dec then x.byte k else (x, .stuff)
  | .vc =>
    let first := if k.isTu1x then 9 * k.tuWidth - 1 else 0
    if t.act = .inc ∧ first ≤ t.pos ∧ t.pos < first + k.step then ({ t with pos := t.pos + 1 }, .stuff)
    else
      let here := t.val.any (fun v => v * k.step == t.pos)
      let x := ({ t with off := if t.off.isNone ∧ here then some 0 else t.off } : Track).byte k
      ({ x.1 with pos := t.pos + 1 }, x.2)

/-! Path overhead within a VC (R224) -/

/-- The overhead bytes by their row in a VC of nine rows, and by their frame in a VC-12 or VC-11. -/
def rowB3 : Nat := 1
def rowC2 : Nat := 2
def rowG1 : Nat := 3
def rowH4 : Nat := 5
def rowK3 : Nat := 7

/-- The row whose overhead byte lies at place `o`. -/
def UnitKind.pohRow (k : UnitKind) (o : Nat) : Option Nat :=
  if k.isTu1x then (if o % (k.vcLen / 4) = 0 then some (o / (k.vcLen / 4)) else none)
  else if o % k.vcRow = 0 then some (o / k.vcRow) else none

/-- Place `o` belongs to the VC itself: an AU-3 carries two columns of fixed stuff beside its VC-3 (R194). -/
def UnitKind.inVc (k : UnitKind) (o : Nat) : Bool := k != .au3 || (o % 87 != 29 && o % 87 != 58)

/-- The overhead byte of row `r` of a whole VC. -/
def UnitKind.poh (k : UnitKind) (vc : List Byte) (r : Nat) : Byte :=
  vc.getD (if k.isTu1x then r * (k.vcLen / 4) else r * k.vcRow) 0

/-- The bytes of a whole VC with their places, without the fixed stuff of an AU-3. -/
def UnitKind.vcBytes (k : UnitKind) (vc : List Byte) : List (Nat × Byte) :=
  ((List.range vc.length).zip vc).filter (fun x => k.inVc x.1)

/-- The parity that the next VC carries: BIP-8, of which a VC-12 or VC-11 takes BIP-2 (R224). -/
def bip2 (x : Byte) : Nat := (popByte (x &&& 0xAA) % 2) * 2 + popByte (x &&& 0x55) % 2

def UnitKind.parity (k : UnitKind) (vc : List Byte) : Byte := bip8 ((k.vcBytes vc).map (fun x => x.2))

/-- Violations of the parity `own` of the VC before it in a VC. -/
def UnitKind.violations (k : UnitKind) (own : Byte) (vc : List Byte) : Nat :=
  if k.isTu1x then
    let x := (bip2 own) ^^^ ((k.poh vc 0).toNat / 64)
    x / 2 + x % 2
  else popByte (own ^^^ k.poh vc rowB3)

/-- R222: the digest of a whole VC: the CRC-32 of R259 without B3 and G1, or without V5. -/
def UnitKind.digest (k : UnitKind) (vc : List Byte) : Nat :=
  crc32 (((k.vcBytes vc).filter (fun x =>
    match k.pohRow x.1 with
    | some r => if k.isTu1x then r != 0 else r != rowB3 && r != rowG1
    | none => true)).map (fun x => x.2))

/-! A container on its way through a bank -/

/-- The overhead that the device writes into a container: none; that of a structured container of an ingress frame with its C2 and H4
(R214); that of a member of a flow port (R339); or that of an egress point, which the VC took up at its first byte (R224, R234). -/
inductive PohGen where
  | none
  | fabric (c2 h4 : Byte)
  | flow (h4 k4 : Byte) (sig : Nat)
  | send
deriving DecidableEq, Repr

/-- Overhead byte `r` of a VC, `b` being the byte that the bank holds. -/
def PohGen.byte (g : PohGen) (k : UnitKind) (x : VcSt) (r : Nat) (b : Byte) : Byte :=
  match g with
  | .none => b
  | .fabric c2 h4 => if r = rowB3 then x.last else if r = rowC2 then c2 else if r = rowH4 then h4 else 0
  | .flow h4 k4 sig =>
    if k.isTu1x then (if r = 0 then BitVec.ofNat 8 (bip2 x.last * 64 + 0x0A) else if r = 3 then k4 else 0)
    else if r = rowB3 then x.last else if r = rowC2 then BitVec.ofNat 8 sig else if r = rowH4 then h4 else 0
  | .send =>
    match x.gen with
    | Option.none => b
    | some (c2, label) =>
    if k.isTu1x then
      (if r = 0 then BitVec.ofNat 8 (bip2 x.last * 64 + Nat.min 1 x.rei * 32 + label * 2 + bitOf x.rdi)
       else if r = 1 then x.msg.getD x.mpos 0 else b)
    else if r = 0 then x.msg.getD x.mpos 0
    else if r = rowB3 then x.last
    else if r = rowC2 then BitVec.ofNat 8 c2
    else if r = rowG1 then BitVec.ofNat 8 (x.rei * 16 + bitOf x.rdi * 8)
    else b

/-- A VC begins. A message goes on until it has been sent whole (R235). -/
def VcSt.start (x : VcSt) (s : VcStart) : VcSt :=
  let again : Bool := decide (x.msg.length ≤ x.mpos + 1) || x.msg.length != s.msg.length
  { x with last := x.bip, bip := 0, vc := some [], msg := if again then s.msg else x.msg, mpos := if again then 0 else x.mpos + 1,
           rei := s.rei, rdi := s.rdi, gen := s.gen }

/-- One slot of a container, whose byte in the bank is `b`; with the byte that leaves. -/
def VcSt.slot (x : VcSt) (k : UnitKind) (g : PohGen) (s : VcStart) (r : SlotRole) (b : Byte) : VcSt × Byte :=
  let t := x.track.slot k r
  match t.2 with
  | .byte (some o) =>
    let y := if o = 0 then ({ x with track := t.1 } : VcSt).start s else { x with track := t.1 }
    let c := match k.pohRow o with
      | some row => g.byte k y row b
      | none => b
    let z := { y with bip := if k.inVc o then y.bip ^^^ c else y.bip, vc := y.vc.map (fun l => b :: l) }
    let whole := z.vc.filter (fun l => o + 1 == k.vcLen && l.length == k.vcLen)
    ({ z with digest := match whole with
        | some l => some (BitVec.ofNat 32 (k.digest l.reverse))
        | none => z.digest }, c)
  | _ => ({ x with track := t.1 }, b)

/-- The pointer word that comes into force in frame `mf`, where its second byte lies in it. -/
def VcSt.word (x : VcSt) (u : FabricUnit) (mf : Nat) (b : Nat → Byte) : Option Nat :=
  match (u.layout mf).find? (fun s => s.2 == .h2) with
  | some s => some ((if u.kind.isTu1x then x.v1 else b u.wordSlot).toNat * 256 + (b s.1).toNat)
  | none => none

/-- What a pointer word does to container `x`: the first one of a source that a swap brought is a new value, whatever it carries (R216,
R315; DEDUCED, notes/assumptions/137). -/
def VcSt.wordAct (x : VcSt) (w : Nat) : PtrAct :=
  if x.moved = 1 ∧ w ≠ 0xFFFF then .new (w % 1024) else ptrAct x.track.val w

/-- The container with the pointer word that frame `mf` carries read. -/
def VcSt.ready (x : VcSt) (u : FabricUnit) (mf : Nat) (b : Nat → Byte) : VcSt :=
  match x.word u mf b with
  | some w => { x with track := { x.track with next := x.wordAct w } }
  | none => { x with v1 := if mf = 0 then b u.wordSlot else x.v1 }

/-- A frame of a container passes: `b` gives the bytes that the bank holds by slot, and `s` what a VC takes up that begins there; with the
bytes that leave. -/
def VcSt.pass (x : VcSt) (u : FabricUnit) (mf : Nat) (g : PohGen) (s : Nat → VcStart) (b : Nat → Byte) : VcSt × List (Nat × Byte) :=
  let r := (u.layout mf).foldl (fun (a : VcSt × List (Nat × Byte)) l =>
    let y := a.1.slot u.kind g (s l.1) l.2 (b l.1)
    (y.1, (l.1, y.2) :: a.2)) (x.ready u mf b, [])
  (r.1, r.2.reverse)

/-- The slots of frame `mf` in which a VC of the container begins. -/
def VcSt.startSlots (x : VcSt) (u : FabricUnit) (mf : Nat) (b : Nat → Byte) : List Nat :=
  ((u.layout mf).foldl (fun (a : Track × List Nat) l =>
    let t := a.1.slot u.kind l.2
    (t.1, if t.2 = .byte (some 0) then l.1 :: a.2 else a.2)) ((x.ready u mf b).track, [])).2

end Sys2Proof.Machine
end

