-- ==== Sys2Proof/Machine/LaneDefs.lean ====
section
/-! DEFINITION. The defect block of a lane (R421), the state of its alignment (R117, R127) and its fail states (R170). -/

namespace Sys2Proof.Machine

/-- Bits of `LANE.DEF_STAT` (R421). -/
def defLos : Nat := 0
def defOof : Nat := 1
def defLof : Nat := 2
def defLoft : Nat := 3
def defTim : Nat := 4
def defMsais : Nat := 5
def defMsrdi : Nat := 6
def defExc : Nat := 7
def defSd : Nat := 8
def defSf : Nat := 9
def defSeq : Nat := 10
def defRd : Nat := 11
def defPath : Nat := 12

def defField (n bit : Nat) : Field := ⟨laneAddr n Reg.laneDefStat, bit, 1⟩

def Dev.defect (d : Dev) (n bit : Nat) : Bool := d.on (defField n bit)

/-- The lane states of `SV_STAT.STATE` (R117, R127). -/
def svHunt : Nat := 0
def svTrial : Nat := 1
def svFrame : Nat := 2
def svBlock : Nat := 3

def Dev.svState (d : Dev) (n : Nat) : Nat := d.get (F.laneSvStatState.lane n)

/-- The lane's receive has frames: IN_FRAME, or FRAME on a Tustra lane, with no loss of alignment. -/
def Dev.inFrame (d : Dev) (n : Nat) : Bool := d.svState n == svFrame && !d.defect n defOof

/-- The receive boost in use (R62): the adapted one, the one last adapted while the shed level freezes adaptation, or the one
written. -/
def Dev.boost (d : Dev) (n : Nat) : Nat :=
  if d.on (F.laneRxeqAdaptEn.lane n) then
    if 2 ≤ d.get F.pwrStatLevel then (d.lane n).ctle else Config.adaptedBoost n d.now % 16
  else d.get (F.laneRxeqCtle.lane n)

/-- R62: adaptation stops, or `LANE.RXEQ` is about to change while it is stopped: the boost in use is kept. -/
def Dev.keepBoost (d : Dev) (n : Nat) : Dev := d.setLane n { d.lane n with ctle := d.boost n }

/-- The slot of the fabric frame in progress that is written now; a tick takes two slots (R76, R285). -/
def Dev.slotNow (d : Dev) : Nat := 2 * (d.now - d.timing.fp8kAt.getD d.now)

/-- A place holds all-ones from slot `s` on; one that holds them already keeps its slot. -/
def onesFrom (m : Store Nat) (key s : Nat) : Store Nat := if m.any (fun x => x.1 == key) then m else Store.put m key s

/-- The slot from which the place with key `key` holds all-ones covers slot `s`. -/
def onesAt (m : Store Nat) (key s : Nat) : Bool := m.any (fun x => x.1 == key && decide (x.2 ≤ s))

/-- The bytes of a row of lane `n`'s frame, of which its elastic store holds two (R37, R63). -/
def Dev.rowBytes (d : Dev) (n : Nat) : Nat :=
  if (d.lane n).isLine then 270 * stmN (d.lane n).rate else 30 * blocksPerFrame (d.lane n).rate

/-- The elastic store of lane `n` gives bytes. -/
def Dev.esGives (d : Dev) (n : Nat) (bytes : List Byte) : Dev :=
  let l := d.lane n
  let all := l.es ++ bytes
  d.setLane n { l with es := all.drop (all.length - 2 * d.rowBytes n) }

/-- A container is filled with `f` from slot `s` on; one that is filled so already keeps its slot. -/
def fillFrom (m : Store (List (Nat × PanFill))) (key s : Nat) (f : PanFill) : Store (List (Nat × PanFill)) :=
  let l := Store.get (fun _ => []) m key
  if (l.head?.map (fun x => x.2)) = some f then m else Store.put (Store.drop m key) key ((s, f) :: l)

/-- What fills the container with key `key` at slot `s`. -/
def fillAt (m : Store (List (Nat × PanFill))) (key s : Nat) : Option PanFill :=
  ((Store.get (fun _ => []) m key).find? (fun x => decide (x.1 ≤ s))).map (fun x => x.2)

/-- NEAR loopback acts (R68): the receiver of lane `n` hears its own transmitter. -/
def Dev.nearLoop (d : Dev) (n : Nat) : Bool := d.inTest (lanePage n) && d.get (F.laneLoopMode.lane n) == 1

/-- Section fail (R170). -/
def Dev.sectionFail (d : Dev) (n : Nat) : Bool :=
  d.defect n defLos || d.defect n defLof || (d.defect n defTim && d.on (F.laneSohCfgTimAct.lane n))

/-- MS fail (R170). -/
def Dev.msFail (d : Dev) (n : Nat) : Bool :=
  d.sectionFail n || d.defect n defMsais || (d.defect n defExc && d.on (F.laneSohCfgExcAct.lane n))

/-- The ingress frame of the lane holds all-ones (R171). -/
def Dev.lineAis (d : Dev) (n : Nat) : Bool := d.defect n defOof || d.msFail n

end Sys2Proof.Machine
end

