-- ==== Sys2Proof/Machine/PathBase.lean ====
section
/-! DEFINITION. Path points: their numbers, windows and configuration in force (R187 to R191, R233 to R235). A point has the
key `pointKey`: 3 h + b, or 18,432 + 84 h + l. -/

namespace Sys2Proof.Machine

/-! Points and their windows (R187, R191, R233) -/

def isHo (k : Nat) : Bool := decide (k < 18432)

def loKey (h l : Nat) : Nat := 18432 + 84 * h + l

/-- The AUG-1 position, its lane and its AUG-1 number. -/
def hoOf (k : Nat) : Nat := if k < 18432 then k / 3 else (k - 18432) / 84
def laneOf (k : Nat) : Nat := hoOf k / 64
def augOf (k : Nat) : Nat := hoOf k % 64

/-- The sub-point b, or the lower-order index l. -/
def subOf (k : Nat) : Nat := if k < 18432 then k % 3 else (k - 18432) % 84

/-- The status word of a point. -/
def statAddr (k : Nat) : Nat :=
  if k < 18432 then 0x1C08_0000 + 64 * (k / 3) + 16 * (k % 3) else 0x1C80_0000 + 4 * (k - 18432)

/-- The configuration words of a point. -/
def cfgAddr (k : Nat) : Nat := if k < 18432 then 0x1C00_0000 + 64 * (k / 3) + 8 * (k % 3) else 0x1C40_0000 + 8 * (k - 18432)

/-- A field of the status word: its place in a higher-order and in a lower-order word. -/
def stField (k : Nat) (ho lo : Field) : Field := { (if isHo k then ho else lo) with off := statAddr k }

def stPstate (k : Nat) : Field := stField k F.hoStPstate F.loStPstate
def stFptr (k : Nat) : Field := stField k F.hoStFptr F.loStFptr
def stAis (k : Nat) : Field := stField k F.hoStAis F.loStAis
def stLop (k : Nat) : Field := stField k F.hoStLop F.loStLop
def stUneq (k : Nat) : Field := stField k F.hoStUneq F.loStUneq
def stPlm (k : Nat) : Field := stField k F.hoStPlm F.loStPlm
def stTim (k : Nat) : Field := stField k F.hoStTim F.loStTim
def stRdi (k : Nat) : Field := stField k F.hoStRdi F.loStRdi
def stTrcValid (k : Nat) : Field := stField k F.hoStTrcValid F.loStTrcValid
def stSlValid (k : Nat) : Field := stField k F.hoStSlValid F.loStSlValid
def stRfi (k : Nat) : Field := { F.loStRfi with off := statAddr k }
def stLptr (k : Nat) : Field := { F.hoStLptr with off := statAddr k }
def stLom (k : Nat) : Field := { F.hoStLom with off := statAddr k }
def stC2 (k : Nat) : Field := { F.hoSt2C2 with off := statAddr k + 4 }
def stK3 (k : Nat) : Field := { F.hoSt2K3 with off := statAddr k + 4 }
def stMfi (k : Nat) : Field := { F.hoSt2Mfi with off := statAddr k + 4 }
def stCfgErr (k : Nat) : Field := { F.hoSt2CfgErr with off := statAddr k + 4 }
def stSig (k : Nat) : Field := { F.loStSig with off := statAddr k }

/-- The point's entry of the PM point window (R423). -/
def pmPoint (k : Nat) (f : Field) : Field :=
  { f with off := if k < 18432 then f.off + 8 * k else f.off + 0x10_0000 + 8 * (k - 18432) }

/-! Configuration in force -/

def Dev.pathBit (d : Dev) (k ho lo : Nat) : Bool := getF (d.path k).cfg (if isHo k then ho else lo) 1 == 1
def Dev.monEn (d : Dev) (k : Nat) : Bool := d.pathBit k 0 0
def Dev.pohGen (d : Dev) (k : Nat) : Bool := d.pathBit k 1 1
def Dev.timEn (d : Dev) (k : Nat) : Bool := d.pathBit k 6 2
def Dev.timAct (d : Dev) (k : Nat) : Bool := d.pathBit k 7 3
def Dev.uneqAct (d : Dev) (k : Nat) : Bool := d.pathBit k 8 4
def Dev.plmAct (d : Dev) (k : Nat) : Bool := d.pathBit k 9 5
def Dev.rdiEn (d : Dev) (k : Nat) : Bool := d.pathBit k 10 6

/-- The receive trace mode in force. -/
def Dev.pathMode (d : Dev) (k : Nat) : Nat :=
  let p := d.path k
  if isHo k then getF p.cfg 2 2 else getF p.trc 14 2

/-! Structure -/

def Dev.pathStruct (d : Dev) (h : Nat) : W32 := d.structNow h

/-- The higher-order sub-point that carries a lower-order point: sub-point k of three AU-3s, else 0. -/
def Dev.parentOf (d : Dev) (k : Nat) : Nat :=
  3 * hoOf k + (if getF (d.pathStruct (hoOf k)) 0 3 = kindAu3x3 then subOf k / 28 else 0)

/-- The point of a unit of port lane `q`. -/
def unitPoint (q : Nat) (u : FabricUnit) : Nat :=
  match u.kind with
  | .tu3 => loKey (64 * q + u.g) u.sub
  | .tu12 => loKey (64 * q + u.g) u.sub
  | .tu11 => loKey (64 * q + u.g) u.sub
  | _ => 3 * (64 * q + u.g) + u.sub

end Sys2Proof.Machine
end

