-- ==== Sys2Proof/Machine/ProtCond.lean ====
section
/-! DEFINITION. The failure conditions of protection (R431, R432) and their onsets, from which hold-off runs (R439). -/

namespace Sys2Proof.Machine

def Dev.mspSt (d : Dev) (g : Nat) : ProtSt := Store.get (fun _ => {}) d.msp g
def Dev.setMsp (d : Dev) (g : Nat) (p : ProtSt) : Dev := { d with msp := Store.set (fun _ => {}) d.msp g p }
def Dev.sncSt (d : Dev) (i : Nat) : ProtSt := Store.get (fun _ => {}) d.snc i
def Dev.setSnc (d : Dev) (i : Nat) (p : ProtSt) : Dev := { d with snc := Store.set (fun _ => {}) d.snc i p }

/-! MSP groups -/

def grpField (f : Field) (g : Nat) : Field := f.at 0x40 g

def Dev.mspOn (d : Dev) (g : Nat) : Bool := d.on (grpField F.protMspCfgEn g)
def Dev.oneToN (d : Dev) (g : Nat) : Bool := d.on (grpField F.protMspCfgArch g)

/-- The working channels of group `g`. -/
def Dev.mspN (d : Dev) (g : Nat) : Nat := d.get (grpField F.protMspCfgN g)

/-- The lane of channel `c` of group `g`, and its `PRIO` (R457). -/
def Dev.mspLane (d : Dev) (g c : Nat) : Nat :=
  if c = 0 then d.get (grpField F.protMspCfgPlane g)
  else getF (d.word (Reg.protMspWork + 0x40 * g + 4 * ((c - 1) / 4))) (8 * ((c - 1) % 4)) 7
def Dev.mspPrio (d : Dev) (g c : Nat) : Bool :=
  getF (d.word (Reg.protMspWork + 0x40 * g + 4 * ((c - 1) / 4))) (8 * ((c - 1) % 4) + 7) 1 == 1

def Dev.mspLanes (d : Dev) (g : Nat) : List Nat := (List.range (d.mspN g + 1)).map (d.mspLane g)

/-- R432: SF and SD of an MSP lane. -/
def Dev.laneSf (d : Dev) (n : Nat) : Bool := d.msFail n || d.defect n defSf || !d.present (lanePage n)
def Dev.laneSd (d : Dev) (n : Nat) : Bool := d.defect n defSd

/-- The conditions that hold on the channels of group `g`: channel, and SF or SD. -/
def Dev.mspConds (d : Dev) (g : Nat) : List (Nat × Bool) :=
  let sdEn := d.on (grpField F.protMspCfgSdEn g)
  (List.range (d.mspN g + 1)).flatMap (fun c =>
    let n := d.mspLane g c
    (if d.laneSf n then [(c, true)] else []) ++ (if sdEn && d.laneSd n then [(c, false)] else []))

/-! SNCP selectors -/

/-- The selectors that the unit drives (R429). -/
def Dev.ownedSelectors (d : Dev) : List Nat :=
  d.words.filterMap (fun x =>
    if 0x1800_0000 ≤ x.1 ∧ x.1 < 0x1840_0000 ∧ x.1 % 16 = 12 ∧ getF x.2 20 2 ≠ 0 then some ((x.1 - 0x1800_0000) / 16) else none)

/-- The path point that a leg watches: `none` where the leg is not watched, or the index names no point. -/
def Dev.watched (d : Dev) (i : Nat) (b : Bool) : Option Nat :=
  let x := d.selGet (if b then F.selMonB else F.selMonA) i
  if d.selGet (if b then F.selMonbEn else F.selMonaEn) i = 0 then none
  else if d.selGet F.selLo i = 1 then (if x < 516096 then some (18432 + x) else none)
  else if x < 18432 then some x else none

/-- The unit of point `k` held all-ones in its lane's last Tustra frame (R275). -/
def Dev.unitReplaced (d : Dev) (k : Nat) : Bool :=
  let q := laneOf k
  let ones := (d.lane q).tu.ones
  !ones.isEmpty && (d.portUnits q).any (fun u => unitPoint q u == k && ones.contains (u.slots.headD 0))

/-- R431: SF and SD of the leg that watches point `k`. -/
def Dev.pointSf (d : Dev) (k : Nat) : Bool :=
  let n := laneOf k
  let own (x : Nat) : Bool := d.on (stAis x) || d.on (stLop x) || (isHo x && d.on (stLom x))
  let down := if (d.lane n).isLine then d.defect n defOof || d.msFail n
    else d.defect n defLos || !d.inFrame n || d.get (F.laneTuStrstatState.lane n) == 1 || d.unitReplaced k
  down || own k || (!isHo k && own (d.parentOf k)) || d.on (stUneq k) || (d.on (stTim k) && d.timAct k)
    || (d.on (stPlm k) && d.plmAct k) || d.on (pmPoint k F.pmPtStSf) || !d.present (lanePage n)
def Dev.pointSd (d : Dev) (k : Nat) : Bool := d.on (pmPoint k F.pmPtStSd)

def Dev.legSf (d : Dev) (i : Nat) (b : Bool) : Bool := (d.watched i b).any d.pointSf
def Dev.legSd (d : Dev) (i : Nat) (b : Bool) : Bool := (d.watched i b).any d.pointSd

def sncProf (f : Field) (p : Nat) : Field := f.at 4 p
def Dev.sncProfile (d : Dev) (i : Nat) : Nat := d.selGet F.selProfile i

/-- The conditions that hold on the legs of selector `i`: leg A is channel 1, leg B channel 0. -/
def Dev.sncConds (d : Dev) (i : Nat) : List (Nat × Bool) :=
  let sdEn := d.on (sncProf F.protSncProfSdEn (d.sncProfile i))
  [(0, true), (0, false), (1, true), (1, false)].filter (fun x =>
    if x.2 then d.legSf i (x.1 == 0) else sdEn && d.legSd i (x.1 == 0))

/-! Protocol failures (R451, R453) -/

def Dev.bidir (d : Dev) (g : Nat) : Bool := d.on (grpField F.protMspCfgBidir g)

/-- A request code of R433. -/
def kCodeValid (code : Nat) : Bool := code != 3 && code != 5 && code != 7 && code != 9

/-- K1 and K2[7:3] and K2[2:0] accepted on the protection lane are used (R451). -/
def Dev.kUsable (d : Dev) (g : Nat) : Bool :=
  let p := d.mspLane g 0
  !d.laneSf p && d.on (F.laneSohKrxValid.lane p) && !d.on (F.laneSohStatKUnstable.lane p)

/-- The state that a protocol failure is detected by. -/
def Dev.pamSeen (d : Dev) (g : Nat) (kind : PamKind) : Bool :=
  let n := d.mspLane g 0
  let k2h := d.get (F.laneSohKrxK2h.lane n)
  d.kUsable g && (match kind with
    | .channel => d.bidir g && k2h / 2 != (d.mspSt g).sentK1.toNat % 16
    | .architecture => k2h % 2 != bitOf (d.oneToN g)
    | .mode => d.bidir g && d.on (F.laneSohKrxK2lValid.lane n) && d.get (F.laneSohKrxK2l.lane n) == 4
    | .invalidCode => !kCodeValid (d.get (F.laneSohKrxK1.lane n) / 16))

/-- The state that clears it. -/
def Dev.pamGone (d : Dev) (g : Nat) (kind : PamKind) : Bool :=
  let n := d.mspLane g 0
  d.kUsable g && (match kind with
    | .mode => d.on (F.laneSohKrxK2lValid.lane n) && d.get (F.laneSohKrxK2l.lane n) == 5
    | _ => !d.pamSeen g kind)

/-- What group `g` sees of each protocol failure, 1 its state and 2 the state that clears it, with the time since which it does. -/
def Dev.pamTrack (d : Dev) (g : Nat) : Dev :=
  let p := d.mspSt g
  let phase (k : PamKind) : Nat := if d.pamSeen g k then 1 else if d.pamGone g k then 2 else 0
  let one (k : PamKind) : PamKind × Nat × Nat :=
    (p.pamAt.find? (fun x => x.1 == k && x.2.1 == phase k)).getD (k, phase k, d.now)
  d.setMsp g { p with pamAt := [PamKind.channel, .architecture, .mode, .invalidCode].map one }

/-- It has seen phase `phase` of failure `kind` for 50 ms. -/
def Dev.pamHeld (d : Dev) (g : Nat) (kind : PamKind) (phase : Nat) : Bool :=
  (d.mspSt g).pamAt.any (fun x => x.1 == kind && x.2.1 == phase && decide (x.2.2 + 50 * ticksPerMs ≤ d.now))

/-! Onsets -/

/-- The conditions `conds` hold at time `now`: a new one begins its hold-off, and one that has ended raises nothing. -/
def ProtSt.see (p : ProtSt) (conds : List (Nat × Bool)) (now : Nat) : ProtSt :=
  let held := p.onset.filter (fun x => conds.contains (x.1, x.2.1))
  let new := (conds.filter (fun c => !(held.any (fun x => (x.1, x.2.1) == c)))).map (fun c => (c.1, c.2, now))
  { p with onset := held ++ new, raised := p.raised.filter (fun x => conds.contains x) }

/-- The groups that are enabled. -/
def Dev.mspGroupsOn (d : Dev) : List Nat :=
  d.words.filterMap (fun x =>
    if Reg.protMspCfg ≤ x.1 ∧ x.1 < Reg.protMspCfg + 0xC00 ∧ x.1 % 0x40 = 0 ∧ getF x.2 0 1 = 1 then
      some ((x.1 - Reg.protMspCfg) / 0x40) else none)

/-- A condition other than those that `p` knows begins its hold-off, which a snapshot shows (R491). -/
def Dev.noteOnset (d : Dev) (kind key : Nat) (p q : ProtSt) : Dev :=
  d.when (q.onset.any (fun x => !p.onset.any (fun y => y.1 == x.1 && y.2.1 == x.2.1))) (fun e => e.note kind key)

/-- The onsets of every group and of every SNCP selector follow the conditions, and so do the protocol failures of every group. -/
def Dev.protSee (d : Dev) : Dev :=
  let d1 := d.mspGroupsOn.foldl (fun e g =>
    let q := (e.mspSt g).see (e.mspConds g) e.now
    ((e.setMsp g q).pamTrack g).noteOnset 3 g (e.mspSt g) q) d
  (d1.ownedSelectors.filter (fun i => d1.selOwner i == 1)).foldl (fun e i =>
    let q := (e.sncSt i).see (e.sncConds i) e.now
    (e.setSnc i q).noteOnset 2 i (e.sncSt i) q) d1

/-- What a group or a selector holds when its conditions are evaluated afresh (R426, R443). -/
def ProtSt.afresh (p : ProtSt) : ProtSt := { p with onset := [], raised := [], pam := [], pamAt := [] }

/-- Decisions resume: the timers of protection start again at full length, and the conditions are evaluated afresh (R426). -/
def Dev.resumeTimers (d : Dev) : Dev :=
  ({ d with modes := { d.modes with resumed := d.now }, msp := Store.remap (fun _ => {}) ProtSt.afresh d.msp,
            snc := Store.remap (fun _ => {}) ProtSt.afresh d.snc } : Dev).protSee

end Sys2Proof.Machine
end

