-- ==== Sys2Proof/Machine/GroomOps.lean ====
section
/-! DEFINITION. The Groomer's shadow, checker and fabric (07_groomer.md): what its commands share. -/

namespace Sys2Proof.Machine

/-! The frame sequence and the edges -/

/-- The frame in progress is the first of a TU multiframe (R76). -/
def Dev.atMultiframe (d : Dev) : Bool := d.seqNow % 4 == 0

/-! The shadow's states (R305) -/

def shInvalid : Nat := 0
def shLoaded : Nat := 1
def shChecking : Nat := 2
def shChecked : Nat := 3
def shFailed : Nat := 4
def shArmed : Nat := 5
def shLoading : Nat := 6

def Dev.shadow (d : Dev) : Nat := d.get F.grmShadowState
def Dev.setShadow (d : Dev) (s : Nat) : Dev := d.put F.grmShadowState s

/-- The results of `GRM.CMD_STAT` (R327). -/
def rsOk : Nat := 0
def rsState : Nat := 1
def rsBusy : Nat := 2
def rsArg : Nat := 3
def rsCrc : Nat := 4
def rsAborted : Nat := 5
def rsSlotEmpty : Nat := 6
def rsEcc : Nat := 7

/-- The commands of `GRM.CMD.OP` (R307). -/
def opInvalidate : Nat := 1
def opCopyActive : Nat := 2
def opFill : Nat := 3
def opCheck : Nat := 4
def opArm : Nat := 5
def opDisarm : Nat := 6
def opLibLoad : Nat := 7
def opLibSave : Nat := 8
def opLibErase : Nat := 9
def opVerify : Nat := 10

/-- The shadow states in which a command starts (R307). -/
def grmAccepts (op st : Nat) : Bool :=
  if op = opInvalidate then st != shArmed && st != shLoading
  else if op = opCopyActive ∨ op = opFill ∨ op = opLibLoad then
    st == shInvalid || st == shLoaded || st == shChecked || st == shFailed
  else if op = opCheck then st == shLoaded || st == shChecked || st == shFailed
  else if op = opArm then st == shChecked
  else if op = opDisarm then st == shArmed
  else if op = opLibSave then st == shLoaded || st == shChecked
  else true

def Dev.setGrm (d : Dev) (g : Grm) : Dev := { d with grm := g }

/-- A command ends or is refused at once: `CMD_STAT` records it (R307). `BUSY` stays as it is. -/
def Dev.grmRecord (d : Dev) (op res : Nat) : Dev :=
  ((d.put F.grmCmdStatOp op).put F.grmCmdStatResult res).raise F.grmEvtCmdDone

/-- A command starts to run. -/
def Dev.grmStart (d : Dev) (op slot : Nat) : Dev :=
  (((d.put F.grmCmdStatOp op).put F.grmCmdStatResult rsOk).raise F.grmCmdStatBusy).setGrm
    { d.grm with running := some (op, slot) }

/-- The running command has ended: `CMD_STAT` records it, without an event. -/
def Dev.grmEnd (d : Dev) (op res : Nat) : Dev :=
  (((d.put F.grmCmdStatOp op).put F.grmCmdStatResult res).lower F.grmCmdStatBusy).setGrm { d.grm with running := none }

/-- The command that runs. -/
def Dev.grmRuns (d : Dev) (op : Nat) : Bool :=
  match d.grm.running with
  | some x => x.1 == op
  | none => false

/-- The library slot of the running command. -/
def Dev.grmSlot (d : Dev) : Nat :=
  match d.grm.running with
  | some x => x.2
  | none => 0

/-! The commit's ledger (R325) -/

/-- A load begins a commit, or goes on with one. -/
def Dev.commitLoad (d0 : Dev) (done : Nat) : Dev :=
  let d := d0.setGrm { d0.grm with pristine := false }
  if d.get (F.hdrLedgerStState.page 0xB) = ledgerRunning ∧ !d.grm.invalidated then
    d.ledger 0xB (d.get (F.hdrLedgerId.page 0xB)) 1 ledgerRunning done
  else
    (d.ledger 0xB (d.get F.grmCmtSerialSerial + 1) 1 ledgerRunning done).setGrm { d.grm with invalidated := false }

/-- A commit is at another step. One that no load began begins with it: a swap back to the previous map needs none (R325; DESIGN CHOICE,
notes/assumptions/189). -/
def Dev.commitStep (d : Dev) (step done : Nat) : Dev :=
  let id := if d.get (F.hdrLedgerStState.page 0xB) = ledgerRunning then d.get (F.hdrLedgerId.page 0xB)
    else d.get F.grmCmtSerialSerial + 1
  (d.setGrm { d.grm with pristine := false }).ledger 0xB id step ledgerRunning done

/-- R321: an epoch's verification that waited for the checker starts. -/
def Dev.verifyNext (d : Dev) : Dev :=
  if d.grm.epochDue ∧ !d.grmRuns opCheck ∧ !d.grmRuns opVerify ∧ d.grm.epochSnap = none then
    d.setGrm { d.grm with epochDue := false, epochSnap := some { map := d.activeMap, words := d.words } }
  else d

/-! Structure changes and window writes (R309, R310) -/

/-- A CHECK that a window write or a structure change stops (R310); a verification that waited for it starts. -/
def Dev.stopCheck (d : Dev) : Dev :=
  d.when (d.shadow == shChecking) (fun e => ((e.grmEnd opCheck rsAborted).raise F.grmEvtCmdDone).verifyNext)

/-- R309: a change of lane types or rates, of path structure or of the flow-port structure. -/
def Dev.structureChange (d : Dev) : Dev :=
  if d.shadow = shChecking ∨ d.shadow = shChecked ∨ d.shadow = shArmed then
    (((d.stopCheck).when (d.shadow == shArmed) (fun e => e.raise F.grmEvtArmCancel)).setShadow shLoaded).commitStep 1 1
  else d

/-! Selectors -/

/-- A 19-bit two's complement offset (R289). -/
def signed19 (v : Nat) : Int := if v < 0x40000 then (v : Int) else (v : Int) - 0x80000

def selAddr (i w : Nat) : Nat := 0x1800_0000 + 16 * i + 4 * w

/-- Leg A or B of selector `i`: its port and offset. -/
def Dev.leg (d : Dev) (i : Nat) (b : Bool) : Nat × Int :=
  let w := d.word (selAddr i (if b then 1 else 0))
  (getF w 0 7, signed19 (getF w 8 19))

/-- The legs that the Groomer may use (R293, R449). -/
def Dev.legs (d : Dev) (i : Nat) : List (Nat × Int) :=
  if d.get (F.selOwner.at 16 i) = 3 then [d.leg i false] else [d.leg i false, d.leg i true]

/-- The kind and fields of a map entry (R287). -/
def entryKind (v : W32) : Nat := getF v 30 2
def entryPort (v : W32) : Nat := getF v 23 7
def entrySlot (v : W32) : Nat := getF v 5 18

/-- A map names selector `i`. -/
def mapNames (m : Store W32) (i : Nat) : Bool := m.any (fun x => entryKind x.2 == 2 && entrySlot x.2 == i)

/-- The in-use bit of selector `i` for the active map, or for a shadow that is CHECKED or ARMED (R311). -/
def Dev.selInUse (d : Dev) (i : Nat) : Bool :=
  mapNames d.activeMap i || ((d.shadow == shChecked || d.shadow == shArmed) && mapNames d.shadowMap i)

/-- R323: what a warm reset or a `REQ` of OFF leaves of a commit. The active map and `ACT.VALID` stay. -/
def Dev.groomReset (d : Dev) : Dev :=
  let keep := d.grm.pristine && !d.grmRuns opLibSave
  let d1 := d.when d.grm.running.isSome (fun e =>
    (e.grmEnd (match e.grm.running with | some x => x.1 | none => 0) rsAborted).raise F.grmEvtCmdDone)
  let d2 := (d1.when (!keep) (fun e => e.setShadow shInvalid)).abortLedger 0xB
  d2.setGrm { d2.grm with epochSnap := none, epochDue := false }

/-! The checker (R293, R294, R301, R310) -/

/-- The reasons of `CHK_RES` (R327). -/
def chkRange : Nat := 1
def chkReserved : Nat := 2
def chkFanout : Nat := 3
def chkStruct : Nat := 4
def chkSelector : Nat := 5
def chkEcc : Nat := 6

/-- What an entry fails as on its own (R293); 0 for none. -/
def entryError (v : W32) : Nat :=
  let k := entryKind v
  if getF v 0 5 ≠ 0 then chkReserved
  else if k = 0 then (if v = 0 then 0 else chkReserved)
  else if k = 1 then (if 103 < entryPort v ∨ portSlots ≤ entrySlot v then chkRange else 0)
  else if entryPort v ≠ 0 then chkReserved
  else if k = 3 then (if 1 < getF v 21 2 ∨ getF v 7 14 ≠ 0 then chkReserved else 0)
  else 0

/-- The source of a leg at egress slot `s`, where it exists (R293). -/
def legSource (s : Nat) (l : Nat × Int) : Option Nat :=
  let x := (s : Int) + l.2
  if l.1 ≤ 103 ∧ 0 ≤ x ∧ x < portSlots then some (portSlots * l.1 + x.toNat) else none

/-- A selector entry at egress slot `s` fails as RANGE (R293). -/
def Dev.legRange (d : Dev) (v : W32) (s : Nat) : Bool :=
  entryKind v == 2 && (d.legs (entrySlot v)).any (fun l => (legSource s l).isNone)

/-- The ingress slots that entry `v` at egress slot `s` may read (R294). -/
def Dev.entrySources (d : Dev) (v : W32) (s : Nat) : List Nat :=
  if entryKind v = 1 then
    (if 103 < entryPort v ∨ portSlots ≤ entrySlot v then [] else [portSlots * entryPort v + entrySlot v])
  else if entryKind v = 2 then ((d.legs (entrySlot v)).filterMap (legSource s)).eraseDups
  else []

/-- Egress port `q` is a working lane of the 1:N group in place `g` (R445, R449). -/
def Dev.bridgedLane (d : Dev) (g q : Nat) : Bool :=
  d.on (F.protMspCfgEn.at 0x40 g) && d.on (F.protMspCfgArch.at 0x40 g)
    && (List.range (d.get (F.protMspCfgN.at 0x40 g))).any (fun c => d.mspLane g (c + 1) == q)

/-- The ingress slots that the working lanes of enabled 1:N groups read in map `m`, each once for every group (R449). -/
def Dev.bridgedReads (d : Dev) (m : Store W32) : List Nat :=
  (List.range 6).flatMap (fun i =>
    ((m.filter (fun x => d.bridgedLane (8 * i) (x.1 / portSlots))).flatMap (fun x => d.entrySources x.2 (x.1 % portSlots))).eraseDups)

/-- R301: the unit `u` shifted to port `p` by `off` is exactly one unit of the same kind there. -/
def Dev.unitFits (d : Dev) (u : FabricUnit) (p : Nat) (off : Int) : Bool :=
  decide (p ≤ 103) && (d.portUnits p).any (fun x =>
    x.kind == u.kind && x.slots.map (fun s => (s : Int)) == u.slots.map (fun s => (s : Int) + off))

/-- R301: what a unit of egress port `q` fails as; 0 for none. -/
def Dev.unitError (d : Dev) (m : Store W32) (q : Nat) (u : FabricUnit) : Nat :=
  let es := u.slots.map (fun s => (s, Store.get (fun _ => 0) m (portSlots * q + s)))
  match es with
  | [] => 0
  | (s0, v0) :: _ =>
    let k := entryKind v0
    if !es.all (fun e => entryKind e.2 == k) then chkStruct
    else if k = 0 ∨ k = 3 then 0
    else if k = 1 then
      let off := (entrySlot v0 : Int) - (s0 : Int)
      if es.all (fun e => entryPort e.2 == entryPort v0 && (entrySlot e.2 : Int) - (e.1 : Int) == off)
          && d.unitFits u (entryPort v0) off then 0 else chkStruct
    else if !es.all (fun e => entrySlot e.2 == entrySlot v0) then chkStruct
    else if es.any (fun e => entryError e.2 != 0 || d.legRange e.2 e.1) then 0
    else if (d.legs (entrySlot v0)).all (fun l => d.unitFits u l.1 l.2) then 0
    else chkSelector

/-- One error of a check: its index, whether it is an ingress slot, and its reason. -/
structure MapError where
  index : Nat
  ingress : Bool
  reason : Nat
deriving DecidableEq, Repr

/-- All errors of map `m`; `ecc` lists the entries that read as uncorrectable (R310). -/
def Dev.mapErrors (d : Dev) (m : Store W32) (ecc : List Nat) : List MapError :=
  let entries := m.filterMap (fun x =>
    let r := if ecc.contains x.1 then 0 else if entryError x.2 ≠ 0 then entryError x.2
      else if d.legRange x.2 (x.1 % portSlots) then chkRange else 0
    if r = 0 then none else some ⟨x.1, false, r⟩)
  let eccs := ecc.eraseDups.map (fun i => (⟨i, false, chkEcc⟩ : MapError))
  let units := (List.range 104).flatMap (fun q => (d.portUnits q).filterMap (fun u =>
    let r := d.unitError m q u
    if r = 0 then none else some (⟨portSlots * q + u.slots.headD 0, false, r⟩ : MapError)))
  let reads := m.flatMap (fun x => d.entrySources x.2 (x.1 % portSlots))
  let bridged := d.bridgedReads m
  let fan (i : Nat) : Nat := reads.count i + bridged.count i
  let fans := (reads.eraseDups.filter (fun i => decide (15 < fan i))).map (fun i => (⟨i, true, chkFanout⟩ : MapError))
  entries ++ eccs ++ units ++ fans

/-- The largest fan-out of map `m`, at most 15 (R294, R327). -/
def Dev.maxFan (d : Dev) (m : Store W32) : Nat :=
  let reads := m.flatMap (fun x => d.entrySources x.2 (x.1 % portSlots))
  let bridged := d.bridgedReads m
  Nat.min 15 (reads.foldl (fun a i => Nat.max a (reads.count i + bridged.count i)) 0)

/-- Of two errors the one that R310 puts first: index order, egress before ingress. -/
def MapError.before (a b : MapError) : Bool :=
  decide (a.index < b.index) || (a.index == b.index && (!a.ingress || b.ingress))

def firstError : List MapError → Option MapError
  | [] => none
  | e :: t => some (t.foldl (fun a b => if a.before b then a else b) e)

/-- The result of a check as the registers show it: reason, greatest fan-out, errors and position (R310, R327). -/
structure CheckResult where
  reason : Nat
  maxfan : Nat
  errors : Nat
  port : Nat
  ingress : Nat
  slot : Nat
deriving DecidableEq, Repr

def Dev.checkMap (d : Dev) (m : Store W32) (ecc : List Nat) : CheckResult :=
  let es := d.mapErrors m ecc
  let first := (firstError es).getD ⟨0, false, 0⟩
  { reason := first.reason, maxfan := d.maxFan m, errors := Nat.min es.length 0xFF_FFFF,
    port := first.index / portSlots, ingress := bitOf first.ingress, slot := first.index % portSlots }

/-- The device as it stood when a check began (R309): the structures and the types and rates as written. -/
def Dev.asOf (d : Dev) (s : MapSnap) : Dev :=
  let d1 : Dev := { d with
    words := s.words,
    structs := s.words.filterMap (fun x =>
      if 0x1C00_0000 ≤ x.1 ∧ x.1 < 0x1C06_0000 ∧ x.1 % 64 = 0x18 then some ((x.1 - 0x1C00_0000) / 64, x.2) else none) }
  d1.each 96 (fun e n => e.setLane n { e.lane n with cfg := e.word (laneAddr n Reg.laneCfg) })

def Dev.snapOf (d : Dev) (m : Store W32) : MapSnap := { map := m, words := d.words }

/-- `CHK_RES` and `CHK_POS`, or `ACT_RES` and `ACT_POS` 12 bytes on, show a result. -/
def Dev.showCheck (d : Dev) (act : Bool) (r : CheckResult) : Dev :=
  let f (x : Field) : Field := if act then { x with off := x.off + 0xC } else x
  (((((d.put (f F.grmChkResReason) r.reason).put (f F.grmChkResMaxfan) r.maxfan).put (f F.grmChkResErrors) r.errors).put
    (f F.grmChkPosPort) r.port).put (f F.grmChkPosIngress) r.ingress).put (f F.grmChkPosSlot) r.slot

/-- A TU unit (R304). -/
def FabricUnit.isTu (u : FabricUnit) : Bool := u.kind == .tu3 || u.kind == .tu12 || u.kind == .tu11

/-- The legs of selector `i` differ from those at the last swap (R304). -/
def Dev.legsChanged (d : Dev) (i : Nat) : Bool :=
  !d.grm.swapped || (List.range 2).any (fun w =>
    d.word (selAddr i w) != Store.get (fun _ => 0) d.grm.legs (selAddr i w))

/-- `TU_CHANGED` of a shadow against the active map (R304). -/
def Dev.tuChanged (d : Dev) (sh act : Store W32) : Bool :=
  (List.range 104).any (fun q => ((d.portUnits q).filter (fun u => u.isTu)).any (fun u => u.slots.any (fun s =>
    let v := Store.get (fun _ => 0) sh (portSlots * q + s)
    v != Store.get (fun _ => 0) act (portSlots * q + s) || (entryKind v == 2 && d.legsChanged (entrySlot v)))))

/-! Loads -/

/-- The map with `n` entries from index `i` at value `v` (R307 FILL). -/
def mapFill (m : Store W32) (i n : Nat) (v : W32) : Store W32 :=
  m.filter (fun x => decide (x.1 < i))
    ++ (if v = 0 then [] else (List.range n).map (fun k => (i + k, v)))
    ++ m.filter (fun x => decide (i + n ≤ x.1))

/-- The base of library slot `slot` (R317). -/
def libBase (slot : Nat) : Nat := 0x8_0000_0000 + slot * 0x400_0000
def libDescr (slot : Nat) : Nat := libBase slot + 0x3DB_3000

def libMagic : Nat := 0x4752_4D31
def libLength : Nat := 0x3DB_3000

/-- The image of a library slot as a map (R317). -/
def libImage (m : List Host.Cell) (slot : Nat) : Store W32 :=
  (List.range mapEntries).filterMap (fun i =>
    let w := memWord m (libBase slot + 4 * i)
    if w = 0 then none else some (i, w))

/-- The image of a slot that was `old` when a LIB_LOAD began to read it, and is `new` when it ends (R318); `draw` chooses for the words that
changed. -/
def libMixed (draw : Nat) (old new : List Host.Cell) (slot : Nat) : Store W32 :=
  (List.range mapEntries).filterMap (fun i =>
    let a := libBase slot + 4 * i
    let w := if (Config.content draw i).getLsbD 0 then memWord new a else memWord old a
    if w = 0 then none else some (i, w))

/-- The CRC-32 over a map's image in address order (R317). -/
def mapCrc (m : Store W32) : Nat :=
  crc32 ((List.range mapEntries).flatMap (fun i => wordBytes (Store.get (fun _ => 0) m i)))

/-- A map's image stored in a library slot, descriptor last (R317, R319); `LABEL` keeps its value. -/
def libStore (mem : List Host.Cell) (slot : Nat) (m : Store W32) (checked : Bool) : List Host.Cell :=
  let b := libBase slot
  let e := libDescr slot
  let m1 := m.foldl (fun a x => memWriteWord a (b + 4 * x.1) x.2) (memClear mem b libLength)
  let m2 := memWriteWord (memWriteWord m1 (e + 4) (BitVec.ofNat 32 libLength)) (e + 8) (BitVec.ofNat 32 (mapCrc m))
  let m3 := memClear (memWriteWord m2 (e + 16) (BitVec.ofNat 32 (bitOf checked))) (e + 20) 44
  memWriteWord m3 e (BitVec.ofNat 32 libMagic)

/-- The descriptor of a slot that LIB_LOAD accepts (R318). -/
def libValid (mem : List Host.Cell) (slot : Nat) : Bool :=
  (memWord mem (libDescr slot)).toNat == libMagic && (memWord mem (libDescr slot + 4)).toNat == libLength

/-! The fabric (R288 to R292, R298, R299, R303) -/

/-- The slots that carry containers on port `q`: on a SYSTEM lane the AU area of AUG-1s 0 to A - 1, on a RADIO lane the units of the last
received bank, or of the structure before a frame has named one, elsewhere the structure (R264, R283). -/
def Dev.carrySlot (d : Dev) (q s : Nat) : Bool :=
  let structure' := (d.portAreas q).any (fun u => u.slots.contains s)
  if 96 ≤ q then structure'
  else
    match (d.lane q).type, (d.lane q).tu.rxNamed with
    | 2, _ =>
      let o := s % 17280
      let au := decide (576 ≤ o) || decide (51840 ≤ s ∧ s < 52416)
      au && decide (augPos ((if 576 ≤ o then o - 576 else o) % 64) < d.augs q)
    | 1, some _ => (d.lane q).tu.rxBoxes.any (fun b => b.contains s)
    | _, _ => structure'

/-- The slots that all-ones covers on port `q`: the configured structure where the port is idle (R31), and else what it carries. -/
def Dev.aisSlot (d : Dev) (idle : Bool) (q s : Nat) : Bool :=
  if idle then (d.portAreas q).any (fun u => u.slots.contains s) else d.carrySlot q s

/-- Slot `s` of port `q` holds a free byte where nothing was written: a slot of a unit of a LINE lane or flow port, or a slot that a Tustra
lane carries. -/
def Dev.freeSlot (d : Dev) (q s : Nat) : Bool :=
  if 96 ≤ q || (d.lane q).isLine then (d.portUnits q).any (fun u => u.slots.contains s) else d.carrySlot q s

/-- What has been written into slot `s` of ingress port `q`, or else a free byte where the port carries content. -/
def Dev.rawByte (d : Dev) (p : Pan) (q s : Nat) : Byte :=
  let idle := !p.zeros.isEmpty && (d.portUnits q).any (fun u =>
    p.zeros.contains (portSlots * q + u.slots.headD 0) && u.slots.contains s)
  Store.get (fun _ => if idle then 0 else if p.live.contains q && d.freeSlot q s then Config.content p.base (portSlots * q + s) else p.dflt)
    p.bytes (portSlots * q + s)

/-- The byte that slot `s` of ingress port `q` holds: all-ones from the slot where they begin, 0x00 in the containers that are idle, what
has been written, and else a free byte where the port carries content (R26, R31, R32, R172, R200, R231, R232). -/
def Dev.panByte (d : Dev) (p : Pan) (q s : Nat) : Byte :=
  let live := p.live.contains q
  let places := if live then (d.portPlaces q).filter (fun u => u.slots.contains s) else []
  let key (u : FabricUnit) : Nat := portSlots * q + u.slots.headD 0
  let fills := places.map (fun u => fillAt p.units (key u) s)
  if onesAt p.ais q s then (if d.aisSlot (p.idle.contains q) q s then 0xFF else if p.idle.contains q then 0 else d.rawByte p q s)
  else if fills.contains (some .ones) then 0xFF
  else if fills.head? = some (some .zeros) then 0
  else if fills.contains (some .top) && decide (51840 ≤ s ∧ s < 52416) then
    auPointerByte (places.any (fun u => u.kind == .au3)) ((s - 51840) / 64)
  else d.rawByte p q s

/-- The byte that an entry writes (R288 to R292). -/
def Dev.entryByte (d : Dev) (p : Pan) (q s : Nat) (v : W32) : Byte :=
  let read (src : Nat × Int) : Byte :=
    match legSource s src with
    | some i => d.panByte p (i / portSlots) (i % portSlots)
    | none => Config.noSource src.1 s
  if entryKind v = 1 then read (entryPort v, (entrySlot v : Int) - (s : Int))
  else if entryKind v = 2 then read (d.leg (entrySlot v) (d.legInUse (entrySlot v)))
  else if entryKind v = 3 then
    if getF v 21 2 = 0 then 0xFF else byteOf (d.word (Reg.grmConst + 4 * q)) (getF v 5 2)
  else 0

/-- The pointer bytes of the AUG-1s of an AU-4 or AU-4-Nc: the members hold the concatenation indication (R218; DEDUCED,
notes/assumptions/138). -/
def auPointerBytes (gs : List Nat) : List (Nat × Byte) :=
  gs.flatMap (fun g => (List.range 9).map (fun j =>
    (pointerSlot g j, if g = gs.headD 0 then auPointerByte false j else if j < 3 then 0x9B else if j < 6 then 0xFF else 0)))

/-- R292: the pointer slots of an unequipped unit, with their bytes. `mf` counts the frames of the TU multiframe. -/
def FabricUnit.pointerBytes (u : FabricUnit) (mf : Nat) : List (Nat × Byte) :=
  match u.kind with
  | .au3 => [(pointerSlot u.g u.sub, 0x68), (pointerSlot u.g (3 + u.sub), 0), (pointerSlot u.g (6 + u.sub), 0)]
  | .au4 => auPointerBytes (spanAugs u.g 1)
  | .au4c4 => auPointerBytes (spanAugs u.g 4)
  | .au4c16 => auPointerBytes (spanAugs u.g 16)
  | .au4c64 => auPointerBytes (spanAugs u.g 64)
  | .tu3 => (List.range 3).map (fun i => (payloadSlot u.g (3 + i) (3 + u.sub / 28), if i = 0 then 0x68 else 0))
  | _ => (u.slots.filter (fun s => s / 17280 == 3)).take 1 |>.map (fun s => (s, if mf = 0 then 0x68 else 0))

/-- R214, R303: the pointer bytes of the structured AUG-1s of a port. -/
def structTops (ws : List W32) (naug : Nat) : List (Nat × Byte) :=
  (List.range naug).flatMap (fun g =>
    let w := ws.getD g 0
    let k := getF w 0 3
    if getF w 3 1 = 1 ∧ (k = kindAu4 ∨ k = kindAu3x3) then
      (List.range 9).map (fun j => (pointerSlot g j, auPointerByte (k == kindAu3x3) j))
    else [])

/-- R292: pointer bytes of the unequipped units of port `q`; R303: those of its structured AUG-1s. -/
def Dev.pointerFill (d : Dev) (m : Store W32) (q mf : Nat) : List (Nat × Byte) :=
  let ws := d.structWords q
  let free := (d.portUnits q).filter (fun u =>
    u.slots.all (fun s => entryKind (Store.get (fun _ => 0) m (portSlots * q + s)) == 0))
  (free.flatMap (fun u => u.pointerBytes mf) ++ structTops ws (d.naug q)).map (fun x => (portSlots * q + x.1, x.2))

/-- The working lane whose egress byte the entry repeats: an MSP_BRIDGE selector while its group bridges a working channel
(R448). -/
def Dev.bridgeLane (d : Dev) (v : W32) : Option Nat :=
  let i := entrySlot v
  let g := d.selGet F.selGroup i
  let c := Store.get (fun _ => 0) d.bridge g
  if entryKind v = 2 ∧ d.selOwner i = 3 ∧ c ≠ 0 then some (d.mspLane g c) else none

/-- The egress bank that one pass of the Whisk over `p` writes under the active map; `ecc` lists the entries it reads as
uncorrectable (R298, R299). -/
def Dev.whisk (d : Dev) (p : Pan) (ecc : List Nat) : Pan :=
  if d.eff 0xB ≠ 2 then { dflt := 0xFF }
  else if !d.on F.grmActValid then {}
  else
    let moved := d.activeMap.map (fun x =>
      (x.1, if ecc.contains x.1 then (0xFF : Byte) else d.entryByte p (x.1 / portSlots) (x.1 % portSlots) x.2))
    let ptrs := (List.range 104).flatMap (fun q => d.pointerFill d.activeMap q ((d.seqNow + 3) % 4))
    let bank := (ptrs ++ ecc.map (fun i => (i, (0xFF : Byte)))).foldl (fun b x => Store.put (Store.drop b x.1) x.1 x.2) moved
    { bytes := bank.map (fun x =>
        match d.bridgeLane (Store.get (fun _ => 0) d.activeMap x.1) with
        | some n => if ecc.contains x.1 then x else (x.1, Store.get (fun _ => 0) bank (portSlots * n + x.1 % portSlots))
        | none => x) }

/-- R298: the entries of a pass that read as uncorrectable. -/
def Dev.entryUe (d : Dev) (n : Nat) : Dev :=
  d.when (n != 0 && d.eff 0xB == 2 && d.on F.grmActValid) (fun e => ((e.roll F.grmEntUeCount n).raise F.grmEvtEntUe).setGrm { e.grm with entUeAt := some e.now })

/-- Where entry `v` at egress slot `s` takes its byte from: an ingress slot, by a direct entry or by the leg that its selector selects, or a
constant of its own. -/
def Dev.entrySource (d : Dev) (s : Nat) (v : W32) : Option Nat × W32 :=
  if entryKind v = 1 then (legSource s (entryPort v, (entrySlot v : Int) - (s : Int)), 0)
  else if entryKind v = 2 then
    (legSource s (d.leg (entrySlot v) (d.legInUse (entrySlot v))), 0)
  else if entryKind v = 3 then (none, v)
  else (none, 0)

/-- R315: the containers of the lanes whose sources the swap of the two maps changes: their first pointer words from it are to be sent with
NDF. -/
def Dev.swapMoved (d : Dev) : Store VcSt :=
  let source (m : Store W32) (q s : Nat) : Option Nat × W32 := d.entrySource s (Store.get (fun _ => 0) m (portSlots * q + s))
  (List.range 96).foldl (fun t q => (d.portUnits q).foldl (fun t u =>
    if u.slots.any (fun s => source d.activeMap q s != source d.shadowMap q s)
    then Store.set (fun _ => {}) t (unitPoint q u) { Store.get (fun _ => {}) t (unitPoint q u) with moved := 2 }
    else t) t) d.egress

end Sys2Proof.Machine
end

