-- ==== Sys2Proof/Machine/AbortOps.lean ====
section
/-! DEFINITION. A bus master that is reset in the middle of a burst (R530, R531). -/

namespace Sys2Proof.Machine

/-- The transaction of master `m` that is under way. -/
def Dev.burst (d : Dev) (m : Nat) : Burst := Store.get (fun _ => {}) d.bursts m

def Dev.setBurst (d : Dev) (m : Nat) (b : Burst) : Dev := { d with bursts := Store.set (fun _ => {}) d.bursts m b }

/-- A transaction of master `m` is under way. -/
def Dev.inBurst (d : Dev) (m : Nat) : Bool := d.burst m != {}

/-- R531: the abort record. -/
def Dev.abortRecord (d : Dev) (m : Nat) (b : Burst) : Dev :=
  let d1 := if d.on F.mtxAbortInfoValid then d.raise F.mtxAbortInfoMore
    else
      let w := putF (putF (putF (putF 0 0 3 m) 3 1 (bitOf b.write)) 8 10 b.beats) 18 1 1
      (d.setWord Reg.mtxAbortInfo w).setAddr F.mtxAbortAddrLoAddr F.mtxAbortAddrHiAddr b.addr
  (d1.roll F.mtxAbortCountCount 1).raise F.mtxEvtAbort

/-- R530: what the target accepted stays; no later beat is issued. -/
def Dev.abortBurst (d : Dev) (m : Nat) : Dev :=
  let b := d.burst m
  if d.inBurst m then
    ((d.setBurst m {}).abortRecord m b).reply m { resp := .aborted } |>.fecSeen m b.addr b.write .aborted b.beats
  else d

end Sys2Proof.Machine
end

