-- ==== Sys2Proof/Machine/MateBase.lean ====
section
/-! DEFINITION. The role of a paired device and its Lid lines, as other units act on them (R462, R463). -/

namespace Sys2Proof.Machine

def roleSolo : Nat := 0
def roleActive : Nat := 1
def roleStandby : Nat := 2
def roleRejoin : Nat := 3

def mateDone : Nat := 1
def mateRefused : Nat := 2
def mateRunning : Nat := 3

def Dev.role (d : Dev) : Nat := d.get F.mateStatRole

def Dev.setMate (d : Dev) (m : Mate) : Dev := { d with mate := m }

/-- The role changes, with `MATE.EVT.ROLE_CHG`, and the mate state copier is reset (R530). Timers that stood still in REJOIN start again at full length (R426). A REJOIN command is done
once the device is STANDBY (R498). -/
def Dev.setRole (d : Dev) (r : Nat) : Dev :=
  if d.role = r then d
  else
    let d0 := ((d.abortBurst 6).put F.mateStatRole r).raise F.mateEvtRoleChg
    let d1 := d0.when (r == roleStandby && d0.get F.mateCmdStatOp == 3 && d0.get F.mateCmdStatResult == mateRunning) (fun e =>
      e.put F.mateCmdStatResult mateDone)
    if d.role = roleRejoin then d1.resumeTimers else d1

/-- Both Lid lines are released (R463). -/
def Dev.releaseLid (d : Dev) : Dev :=
  let d1 := d.setMate { d.mate with drive0 := false, drive1 := false, seizing := none }
  d1.when (d.mate.drive0 && d.mate.drive1) (fun e => (e.raise F.mateStatLid0).raise F.mateStatLid1)

/-- A status bit of `MATE.STAT` takes a value, and its event is set on a change. -/
def Dev.mateBit (d : Dev) (f e : Field) (v : Bool) : Dev :=
  if d.on f = v then d else (d.put f (bitOf v)).raise e

/-- REJOIN is entered: the steps of R496 begin, and SUSPECT clears (R489). -/
def Dev.enterRejoin (d : Dev) : Dev :=
  let d1 := (((d.setRole roleRejoin).lower F.mateStatSuspect).put F.mateStatRejoinStep 1).mateBit F.mateStatIsolated
    F.mateEvtIsolated false
  d1.setMate { d1.mate with snapDone := false, echoed := false, passAt := none, checking := false, rx := [] }

/-- R462, R463: SAFEHOLD, SHED4 or a reset: the Lid is released, and a paired device is in REJOIN. -/
def Dev.mateSafe (d : Dev) : Dev :=
  d.releaseLid.when (d.role != roleSolo) Dev.enterRejoin

end Sys2Proof.Machine
end

