-- ==== Sys2Proof/Machine/ModeDefs.lean ====
section
/-! DEFINITION. The device modes and the shed level as they are shown (R626, R646), and what the panel shows in them (R612, R617,
R618). -/

namespace Sys2Proof.Machine

def modeBoot : Nat := 0
def modePrepare : Nat := 1
def modeService : Nat := 2
def modeCoast : Nat := 3
def modeSafehold : Nat := 4
def modeMaintain : Nat := 5

def Dev.mode (d : Dev) : Nat := d.get F.devModeMode

def Dev.shedLevel (d : Dev) : Nat := d.get F.pwrStatLevel

/-! The panel's outputs -/

/-- The lamp test runs (R612, R616, R618). -/
def Dev.lampTest (d : Dev) : Bool :=
  d.on F.pnlCtrlLamp || (d.mode != modeSafehold && (List.range 20).any (fun i =>
    d.on ⟨Reg.pnlKeystat, i, 1⟩ && !d.on ⟨Reg.pnlStuck, i, 1⟩ && d.get (F.pnlKfunFunc.at 4 i) == 2))

/-- The mode of LED `i` (R617). -/
def Dev.ledMode (d : Dev) (i : Nat) : Nat := d.get ⟨Reg.pnlLed + 4 * (i / 16), i % 16 * 2, 2⟩

/-- LED `i` is lit, with its overrides but for SAFEHOLD (R617, R618); the blink phases start at an epoch edge. -/
def Dev.ledLit (d : Dev) (steady : Bool) (i : Nat) : Bool :=
  let f := d.timing.edges - d.ladle.edge
  let held := steady || d.on F.pnlStatAco || !d.rootValid
  d.lampTest || (match d.ledMode i with
    | 0 => false
    | 1 => true
    | 2 => held || decide (f % 8000 < 4000)
    | _ => held || decide (f % 4000 < 2000))

/-- The LEDs of the chain, LED 0 first. -/
def Dev.ledPattern (d : Dev) (steady : Bool) : List Bool := (List.range (d.get F.pnlCfgLedLen)).map (d.ledLit steady)

end Sys2Proof.Machine
end

