-- ==== Sys2Proof/Machine/ModeOps.lean ====
section
/-! DEFINITION. Device modes, bring-up and effective states (16_modes_reset_and_faults.md, R661 to R665): what the units
share of them. -/

namespace Sys2Proof.Machine

def Dev.modeReq (d : Dev) : Nat := d.get F.devModeReqReq

/-- Protection decisions are taken in mode `m` (R426). -/
def decidingMode (m : Nat) : Bool := m == modeService || m == modeCoast || m == modeMaintain

/-- R616, R618: what the panel does at a change of mode: an ACO that is queued is applied on entry to SERVICE, and the outputs freeze
on entry to SAFEHOLD, with every blinking LED lit. -/
def Dev.panelMode (d : Dev) (m : Nat) : Dev :=
  if m = modeService ∧ d.on F.pnlStatAcoQueued then
    ((d.lower F.pnlStatAcoQueued).raise F.pnlStatAco).raise F.pnlEvtAco
  else if m = modeSafehold then { d with panel := { d.panel with lit := d.ledPattern true } }
  else d

/-- `DEV.MODE` shows a new mode (R652), and the DEV page's MODE_CHG is set (R668). -/
def Dev.setMode (d0 : Dev) (m : Nat) : Dev :=
  let d := (d0.when (decidingMode m && !decidingMode d0.mode) Dev.resumeTimers).when (d0.mode != m) (fun e => e.panelMode m)
  if d.mode = m then d
  else
    (((d.put F.devModePrev d.mode).put F.devModeMode m).bump F.devModeChanges 1).raise
      ⟨Reg.hdrSticky + 0x1_0000_0000, 1, 1⟩

/-- The bring-up stage of page `p` (R654). -/
def pageStage (p : Nat) : Nat :=
  if stage0Page p then 0
  else if p = 1 then 1
  else if p = 4 then 2
  else if p = 0xE ∨ 0x10 ≤ p then 3
  else 4

/-- The capability bits that belong to the instance of page `p` (R46, R55). Those of MATE and PSQ are the bits of PROT
and FLW. -/
def pageBits (p : Nat) : List Field :=
  if p = 1 then [F.devCapUnitTiming]
  else if p = 4 then [⟨Reg.devCapHbm0, 0, 32⟩, ⟨Reg.devCapHbm1, 0, 32⟩]
  else if p = 0xB then [F.devCapUnitGroomer]
  else if p = 0xC then [F.devCapUnitFlow, ⟨Reg.devCapFlow, 0, 16⟩, ⟨Reg.devCapFport, 0, 8⟩]
  else if p = 0xE then [F.devCapUnitMonitor]
  else if p = 0xF then [F.devCapUnitProtMate]
  else if p < 0x10 then []
  else if p < 0x70 then [⟨Reg.devCapPlane0 + 4 * ((p - 0x10) / 32), (p - 0x10) % 32, 1⟩]
  else [⟨Reg.devCapMlane, p - 0x70, 1⟩]

/-- The capability bits that bring-up of page `p` sets: those of channels that have been trained and are not
retired (R55, R644). -/
def Dev.bitsUp (d : Dev) (p : Nat) : List (Field × Nat) :=
  (pageBits p).map (fun f =>
    let ret := if f.off = Reg.devCapHbm0 then (d.word Reg.hbmPcRet0).toNat
      else if f.off = Reg.devCapHbm1 then (d.word Reg.hbmPcRet1).toNat
      else if f.off = Reg.devCapFlow then (d.word Reg.flwSliceRet).toNat
      else if f.off = Reg.devCapFport then (d.word Reg.flwFportRet).toNat
      else 0
    let untrained := (f.off = Reg.devCapHbm0 ∨ f.off = Reg.devCapHbm1) ∧ !(d.on F.hbmStatTrained0 && d.on F.hbmStatTrained1)
    (f, if untrained then 0 else (2 ^ f.len - 1) - ret % 2 ^ f.len))

def Dev.putAll (d : Dev) (l : List (Field × Nat)) : Dev := l.foldl (fun e x => e.put x.1 x.2) d

/-- The pages that share one capability bit (R46, R654): MATE with PROT, and PSQ with FLW. Of them PROT and FLW are brought up. -/
def pagePartner (p : Nat) : Option Nat :=
  if p = 0xA then some 0xF else if p = 0xF then some 0xA else if p = 0xC then some 0xD else if p = 0xD then some 0xC else none

def pageOwner (p : Nat) : Nat := if p = 0xA then 0xF else if p = 0xD then 0xC else p

/-- The page with which page `p` shares its capability bit is in test. -/
def Dev.partnerInTest (d : Dev) (p : Nat) : Bool := (pagePartner p).any d.inTest

/-- The instance of page `p` has been brought up: it is present, in test, or reads as absent only because of its partner's test
(R21, R657). -/
def Dev.isUp (d : Dev) (p : Nat) : Bool := d.present p || d.inTest p || (d.partnerInTest p && d.eff p != 0)

/-- The capability bits that a test of page `p` takes return when it ends: the instance that they belong to is still in service, and no
other page that shares them is in test. -/
def Dev.testReturns (d : Dev) (p : Nat) : Bool :=
  let o := pageOwner p
  !d.partnerInTest p && !d.retired o && (o == p || (d.get (F.hdrReqState.page o) != 0 && d.eff o != 0))

/-- The instance of page `p` is asked for and is not brought up (R635). -/
def Dev.wanted (d : Dev) (p : Nat) : Bool :=
  d.get (F.hdrReqState.page p) != 0 && !d.retired p && !d.isUp p && !(pageBits p).isEmpty

/-- Pages whose work the shed level holds in part (R648, R665). -/
def heldByShed (level p : Nat) : Bool :=
  decide (1 ≤ level) && p == 0xE
  || decide (2 ≤ level) && (p == 3 || p == 4 || p == 6 || decide (0x10 ≤ p))
  || decide (3 ≤ level) && (p == 0xA || p == 0xD)

/-- The reason codes of R651. -/
def reasonWaitRoot : Nat := 1
def reasonWaitStage : Nat := 2
def reasonSelfTest : Nat := 3
def reasonSelfTestFail : Nat := 4
def reasonBusy : Nat := 5
def reasonRetired : Nat := 6
def reasonMode : Nat := 7
def reasonShed : Nat := 8

/-- `EFF` that page `p` moves towards (R69, R637, R641, R651, R662, R663, R665). -/
def Dev.effTarget (d : Dev) (p : Nat) : Nat × Nat :=
  let req := d.get (F.hdrReqState.page p)
  let cur := d.eff p
  let raw : Nat × Nat :=
    if d.retired p then
      (0, if req = 0 then 0
        else if d.get (F.hdrEffReason.page p) = reasonSelfTestFail then reasonSelfTestFail else reasonRetired)
    else if req = 3 ∧ d.mode ≠ modeMaintain then (cur, reasonBusy)
    else if !d.isUp p then
      if req = 0 then (0, 0)
      else if d.modes.building && decide (d.modes.stageDone < pageStage p) then
        (0, if !d.rootValid then reasonWaitRoot
          else if d.modes.stageDone + 1 = pageStage p then reasonSelfTest else reasonWaitStage)
      else (0, reasonMode)
    else if req = 0 then (0, 0)
    else if req = 1 then (1, 0)
    else if req = 2 then
      if d.mode = modeService ∨ d.mode = modeCoast ∨ d.mode = modeMaintain then (2, 0) else (1, reasonMode)
    else (3, 0)
  if raw.1 = req ∧ raw.2 = 0 ∧ heldByShed d.shedLevel p then (raw.1, reasonShed) else raw

/-- The skew clock of page `p` runs (R664). -/
def Dev.skewRuns (d : Dev) (p : Nat) : Bool :=
  d.get (F.hdrReqState.page p) != d.eff p && d.get (F.hdrEffReason.page p) != reasonMode

/-- The skew clock of page `p` follows its states: it starts, goes on, or stops, with `FLAG` 0 (R664). -/
def Dev.skewFollow (d : Dev) (p : Nat) : Dev :=
  if d.skewRuns p then
    (if d.modes.skew.any (fun x => x.1 == p) then d else { d with modes := { d.modes with skew := (p, d.now) :: d.modes.skew } })
  else
    ({ d with modes := { d.modes with skew := d.modes.skew.filter (fun x => x.1 != p) } } : Dev).lower (F.hdrSkewFlag.page p)

/-- A write of `REQ` of page `p` stops its skew clock, which may start again (R664). -/
def Dev.skewRestart (d : Dev) (p : Nat) : Dev :=
  (({ d with modes := { d.modes with skew := d.modes.skew.filter (fun x => x.1 != p) } } : Dev).lower (F.hdrSkewFlag.page p)).skewFollow p

/-- `SKEW.MS` of page `p`. -/
def Dev.skewMs (d : Dev) (p : Nat) : Nat :=
  match d.modes.skew.find? (fun x => x.1 == p) with
  | some x => Nat.min 0xFFFF ((d.now - x.2) / ticksPerMs)
  | none => 0

/-- `EFF` of page `p` becomes `s` with reason `r`. -/
def Dev.setEff (d : Dev) (p s r : Nat) : Dev :=
  ((d.put (F.hdrEffState.page p) s).put (F.hdrEffReason.page p) r).skewFollow p

/-- One page moves towards its target. A change of state waits for an `FP8K` edge while the root is valid (R662). An
instance whose `REQ` is OFF leaves service (R635, R638); one in test reads as absent until its test ends (R21). -/
def Dev.settlePage (edge : Bool) (d : Dev) (p : Nat) : Dev :=
  if stage0Page p then
    d.when (p == 3 || p == 6) (fun e => e.put (F.hdrEffReason.page p) (if heldByShed e.shedLevel p then reasonShed else 0))
  else
    let t := d.effTarget p
    let down := d.get (F.hdrReqState.page p) == 0 && d.isUp p && !(pageBits p).isEmpty
    let ends := t.1 != 3 && d.inTest p
    if (t.1 != d.eff p || down) && !edge && d.rootValid then d
    else
      let d1 := d.when down (fun e =>
        let x := e.putAll ((pageBits p).map (fun f => (f, 0)))
        { x with modes := { x.modes with offDue := x.modes.offDue ++ [p] } })
      let d2 := (d1.when (t.1 == 3) (fun e => e.putAll ((pageBits (pageOwner p)).map (fun f => (f, 0))))).when
        (ends && !down && d.testReturns p) (fun e => e.putAll (e.bitsUp (pageOwner p)))
      d2.setEff p t.1 t.2

/-- R662, R649: the effective states of all pages; `edge` at an `FP8K` edge. -/
def Dev.settle (d : Dev) (edge : Bool) : Dev := ((d.each 120 (Dev.settlePage edge))).capCommit d

/-- R635, R659: bring-up starts, with the stage as the ledger's step. -/
def Dev.startBringUp (d : Dev) : Dev :=
  let d1 := { d with modes := { d.modes with bringUps := d.modes.bringUps + 1, building := true, stageDone := 0 } }
  d1.ledger 0 d1.modes.bringUps 0 ledgerRunning 0

/-- R637: bring-up out of a warm reset: stages 0 and 1 are complete at once, since the loop never stopped. -/
def Dev.warmStages (d : Dev) : Dev :=
  let up := ((List.range 120).filter (fun p => pageStage p == 1 && d.wanted p)).foldl (fun (e : Dev) p => e.putAll (e.bitsUp p)) d
  let d1 : Dev := { up with modes := { up.modes with stageDone := 1 } }
  (d1.ledger 0 d1.modes.bringUps 1 ledgerRunning 1).capCommit d

/-- R626, R635: PREPARE is entered and bring-up runs. -/
def Dev.enterPrepare (d : Dev) : Dev :=
  let warm := d.mode == modeBoot && d.get F.devResetStatLast != 0 && d.rootValid
  (((d.setMode modePrepare).startBringUp).when warm Dev.warmStages).settle false

/-- R86, R630, R645, R697: a SAFEHOLD cause. In BOOT the mode stays; the pins of SAFEHOLD follow from the cause. -/
def Dev.enterSafehold (d : Dev) : Dev :=
  let d1 := d.mateSafe
  if d.mode = modeBoot ∨ d.mode = modeSafehold then d1
  else
    let d2 := d1.when d.modes.building (fun e => e.abortLedger 0)
    (({ d2 with modes := { d2.modes with building := false } } : Dev).setMode modeSafehold).settle false

/-- R630: a cause of SAFEHOLD has ended; with none left the device enters PREPARE. -/
def Dev.endSafehold (d : Dev) : Dev :=
  if d.mode = modeSafehold ∧ !d.on F.clkStatusSafehold ∧ d.shedLevel < 4 then d.enterPrepare else d

/-- R86, R629: loss of both references under policy COAST changes the mode only from SERVICE. Seconds are marked invalid only in mode COAST
(DESIGN CHOICE, notes/assumptions/181). -/
def Dev.enterCoast (d : Dev) : Dev :=
  if d.mode = modeService then
    ({ d.setMode modeCoast with modes := { d.modes with coastSeen := true } } : Dev).settle false
  else d

/-- No instance is in TEST (R626). -/
def Dev.anyTest (d : Dev) : Bool := (List.range 120).any (fun p => d.inTest p)

/-- An `FP8K` edge has just come: no time has passed since. -/
def Dev.atEdge (d : Dev) : Bool := d.rootValid && d.timing.fp8kAt == some d.now

/-- R626 to R631: what `MODE_REQ` moves the device to; to SERVICE and MAINTAIN at an `FP8K` edge. -/
def Dev.moveMode (d : Dev) : Dev :=
  let req := d.modeReq
  if d.modes.inReset ≠ .no then d
  else if d.mode = modeBoot then
    if (req = 1 ∨ req = 2 ∨ req = 5) ∧ d.shedLevel < 4 then d.enterPrepare else d
  else if d.mode = modePrepare then
    if (req = 2 ∨ req = 5) ∧ d.modes.stageDone = 4 ∧ !d.modes.building ∧ d.on F.clkStatusLock ∧ d.atEdge then
      (d.setMode req).settle true
    else d
  else if d.mode = modeService then
    if req = 1 then d.enterPrepare
    else if req = 5 ∧ d.atEdge then (d.setMode modeMaintain).settle true
    else d
  else if d.mode = modeMaintain then
    if d.anyTest then d
    else if req = 1 then d.enterPrepare
    else if req = 2 ∧ d.atEdge then (d.setMode modeService).settle true
    else d
  else d

/-- R643: an occurrence of a fault on channel `c`; answers whether the channel is now permanently faulty. -/
def Dev.occurrence (d : Dev) (c : Nat) : Dev × Bool :=
  let win := d.get F.devFaultCfgWindow * ticksPerSecond
  let keep := d.modes.faults.filter (fun x => decide (d.now ≤ x.2 + win))
  let l := keep ++ [(c, d.now)]
  ({ d with modes := { d.modes with faults := l } },
    decide (d.get F.devFaultCfgLimit ≤ (l.filter (fun x => x.1 == c)).length))

end Sys2Proof.Machine
end

