-- ==== Sys2Proof/Machine/Ecc.lean ====
section
/-! DEFINITION. What a read that meets an error of on-chip SRAM or HBM3 does (R505, R506, R513, R642, R643). -/

namespace Sys2Proof.Machine

/-! The layout of on-chip SRAM (R502). The pools follow one another in the order of the table, whose bytes fill the 65,536 sub-banks
(notes/assumptions/67). -/

/-- A pool: its size, whether its code is SECDED (72,64) rather than one of each byte (13,8), and whether it is scrubbed. -/
structure Pool where
  bytes : Nat
  secded : Bool := true
  scrubbed : Bool := true
deriving DecidableEq, Repr

/-- The pools of R502, in the order of its table. -/
def pools : List Pool :=
  [{ bytes := 32348160, scrubbed := false }, { bytes := 32348160, secded := false, scrubbed := false }, { bytes := 129392640 },
   { bytes := 4194304 }, { bytes := 16777216 }, { bytes := 8388608, scrubbed := false }, { bytes := 12582912 }, { bytes := 16777216 },
   { bytes := 4194304 }, { bytes := 4194304 }, { bytes := 2097152, scrubbed := false }, { bytes := 5140480 }]

def poolMaps : Nat := 2
def poolSelectors : Nat := 3
def poolContexts : Nat := 4
def poolProcessor : Nat := 9
def poolSpare : Nat := 11

/-- The pools that hold Twin Pan bytes. -/
def poolTwinPans (pool : Nat) : Bool := pool == 0 || pool == 1

/-- The first byte of a pool, and the pool of a byte. -/
def poolBase (k : Nat) : Nat := ((pools.take k).map Pool.bytes).sum
def poolAt (b : Nat) : Nat := ((List.range 12).find? (fun k => decide (b < poolBase (k + 1)))).getD poolSpare

/-- The first byte of the pools that a sub-bank holds. -/
def subbankByte (sb : Nat) : Nat := 4096 * (((List.range 65536).find? (fun l => Config.subbankOf l % 65536 == sb)).getD 0)

/-- The sub-bank that serves the addresses of sub-bank `sb`, and the one whose addresses it serves (R507). -/
def Dev.servedBy (d : Dev) (sb : Nat) : Nat := ((d.sram.serve.find? (fun x => x.1 == sb)).map (fun x => x.2)).getD sb
def Dev.servesFor (d : Dev) (sb : Nat) : Nat := ((d.sram.serve.find? (fun x => x.2 == sb)).map (fun x => x.1)).getD sb

/-- The pool whose bytes a sub-bank holds, by its first byte, and of a word of it. -/
def Dev.subbankPool (d : Dev) (sb : Nat) : Nat := poolAt (subbankByte (d.servesFor sb))
def Dev.wordPool (d : Dev) (p : Nat × Nat) : Nat := poolAt (subbankByte (d.servesFor p.1) + 8 * p.2)

/-- The flow-context slice that a sub-bank of the flow context cache holds, 1 MiB each (R509). -/
def Dev.contextSlice (d : Dev) (sb : Nat) : Nat := (subbankByte (d.servesFor sb) - poolBase poolContexts) / 0x10_0000

/-- The byte of the pools at bus address `a`. The two maps change places at each swap. -/
def Dev.sramByte (d : Dev) (a : Nat) : Nat :=
  let half := (pools.getD poolMaps { bytes := 0 }).bytes / 2
  let odd := d.get F.grmCmtSerialSerial % 2
  if 0x0400_0000 ≤ a ∧ a < 0x0440_0000 then poolBase poolProcessor + (a - 0x0400_0000)
  else if 0x1000_0000 ≤ a ∧ a < 0x1000_0000 + half then poolBase poolMaps + half * (1 - odd) + (a - 0x1000_0000)
  else if 0x1400_0000 ≤ a ∧ a < 0x1400_0000 + half then poolBase poolMaps + half * odd + (a - 0x1400_0000)
  else if 0x1800_0000 ≤ a ∧ a < 0x1840_0000 then poolBase poolSelectors + (a - 0x1800_0000)
  else (8 * Config.windowWord (a / 8) + a % 8) % 0x1000_0000

/-- The sub-bank and word of the 64-bit word that holds bus address `a`. -/
def Dev.sramPlace (d : Dev) (a : Nat) : Nat × Nat :=
  let b := d.sramByte a
  (d.servedBy (Config.subbankOf (b / 4096) % 65536), b / 8 % 512)

/-- The spares that may take up contents: those that hold nothing, in a bank without a replacement (R507). -/
def Dev.freeSpares (d : Dev) : List Nat :=
  ((List.range 1255).map (fun i => Config.subbankOf (poolBase poolSpare / 4096 + i) % 65536)).filter (fun x =>
    !d.sram.retired.contains x && d.sram.serve.all (fun y => y.2 / 16 != x / 16))

/-- The map sub-banks of the bank of `sb`. -/
def Dev.bankMaps (d : Dev) (sb : Nat) : List Nat :=
  ((List.range 16).map (fun i => sb / 16 * 16 + i)).filter (fun x => d.subbankPool x == poolMaps && !d.sram.retired.contains x)

/-- One of the sub-banks of `l` that take up the contents of `sb`: which one is not stated. -/
def Dev.choose (d : Dev) (sb : Nat) (l : List Nat) : Nat := l.getD (Config.replacement sb d.sram.retired.length % l.length) 0

/-- What replaces sub-bank `sb` (R507): of its own bank a map sub-bank where it holds Twin Pan bytes, else a spare. -/
def Dev.replacement (d : Dev) (sb : Nat) : Nat :=
  d.choose sb (if poolTwinPans (d.subbankPool sb) ∧ d.bankMaps sb ≠ [] then d.bankMaps sb else d.freeSpares)

/-- The contents of sub-bank `x` move to `y`, poisoned words among them (R507, R508). -/
def MemSt.move (m : MemSt) (x y : Nat) : MemSt :=
  let home := ((m.serve.find? (fun z => z.2 == x)).map (fun z => z.1)).getD x
  { m with serve := (home, y) :: m.serve.filter (fun z => z.1 != home),
           poison := m.poison.map (fun p => if p.1 = x then (y, p.2) else p) }

/-- Sub-bank `sb` is replaced. The contents of a map sub-bank that takes its place go to a spare first (R507). -/
def Dev.replace (d : Dev) (sb : Nat) : Dev :=
  let r := d.replacement sb
  let m1 := if poolTwinPans (d.subbankPool sb) then d.sram.move r (d.choose r d.freeSpares) else d.sram
  let m2 := m1.move sb r
  { d with sram := { m2 with copy := none, retired := sb :: m2.retired } }

/-- The retries of a read (R505). -/
def eccRetries : EccSeen → Nat
  | .clean => 0
  | .corrected => 0
  | .transient second => if second then 2 else 1
  | .uncorrectable _ => 2

def isUe : EccSeen → Bool
  | .uncorrectable _ => true
  | _ => false

/-- Transient faults that a read counts (R642): a corrected word, or each retry. -/
def eccTransients (e : EccSeen) : Nat := if e = .corrected then 1 else eccRetries e

/-- The channels of `Dev.occurrence` (R643): a pseudo-channel, and a word of SRAM (R506). -/
def pcChannel (pc : Nat) : Nat := 200 + pc
def wordChannel (p : Nat × Nat) : Nat := 1000 + p.1 * 512 + p.2

/-- `n` occurrences of a fault. -/
def Dev.occurrences (d : Dev) (c n : Nat) : Dev × Bool :=
  (List.range n).foldl (fun (x : Dev × Bool) _ => let r := x.1.occurrence c; (r.1, x.2 || r.2)) (d, false)

/-! SRAM -/

/-- Sub-bank `sb` is permanently faulty (R643). -/
def Dev.sramDue (d : Dev) (sb : Nat) : Dev :=
  if d.sram.due.contains sb ∨ d.sram.retired.contains sb then d
  else { d with sram := { d.sram with due := d.sram.due ++ [sb] } }

/-- The word at bus address `a` is poisoned (R508). -/
def Dev.poisoned (d : Dev) (a : Nat) : Bool := d.sram.poison.contains (d.sramPlace a)

/-- The entries of a map, the active one or the shadow, that lie in poisoned words (R508). -/
def Dev.poisonedEntries (d : Dev) (active : Bool) : List Nat :=
  let half := (pools.getD poolMaps { bytes := 0 }).bytes / 2
  let odd := d.get F.grmCmtSerialSerial % 2
  let first := poolBase poolMaps + half * (if active then odd else 1 - odd)
  d.sram.poison.flatMap (fun p =>
    let b := subbankByte (d.servesFor p.1) + 8 * p.2
    if first ≤ b ∧ b < first + half then [(b - first) / 4, (b - first) / 4 + 1] else [])

/-- The entries of the active map that a pass reads as uncorrectable: those that a read met, and those in poisoned words (R298, R508). -/
def Dev.passUe (d : Dev) (seen : List Nat) : List Nat := (seen ++ d.poisonedEntries true).eraseDups

/-- R505, R506: a read of the word at `p` met `e`. A poisoned word says nothing of its sub-bank (DESIGN CHOICE, notes/assumptions/201). -/
def Dev.sramSeen (d : Dev) (p : Nat × Nat) (e : EccSeen) : Dev :=
  if e = .clean then d
  else
    let ue := isUe e
    let d1 := ((d.put F.memLastErrSubbank p.1).put F.memLastErrWord p.2).put F.memLastErrUe (bitOf ue)
    let d2 := d1.transient 3 (eccTransients e)
    if ue then
      let d3 := (d2.roll F.memUeCount 1).raise F.memEvtUe
      ({ d3 with sram := { d3.sram with ueAt := some d3.now } } : Dev).when (!d.sram.poison.contains p) (fun x => x.sramDue p.1)
    else
      let r := ((d2.roll F.memCeCount 1).raise F.memEvtCe).occurrence (wordChannel p)
      r.1.when r.2 (fun x => x.sramDue p.1)

/-- A write of the table word at `a` by master `m`: it is half of a word of SRAM, which is read first (R503). -/
def Dev.writeTable (d : Dev) (m a : Nat) (op : Dev → Dev × Resp) : Dev :=
  d.write m a (fun e =>
    let r := op e
    (r.1.when (r.2 == .okay && e.poisoned a) (fun x => x.sramSeen (e.sramPlace a) (.uncorrectable 0)), r.2))

def Dev.unitPc (d : Dev) (u : Nat) : Nat := d.get (F.hbmUnitPc.at 4 u)

def pcRetired (pc : Nat) : Field := ⟨Reg.hbmPcRet0 + 4 * (pc / 32), pc % 32, 1⟩
def pcPresent (pc : Nat) : Field := ⟨Reg.devCapHbm0 + 4 * (pc / 32), pc % 32, 1⟩

/-- Pseudo-channel `pc` is permanently faulty (R643). -/
def Dev.pcFaulty (d : Dev) (pc : Nat) : Dev :=
  if d.sram.pcDue.contains pc ∨ d.on (pcRetired pc) then d
  else { d with sram := { d.sram with pcDue := d.sram.pcDue ++ [pc] } }

/-- R505, R513, R643: a read of the word at `a` met `e`. -/
def Dev.hbmSeen (d : Dev) (a : Nat) (e : EccSeen) : Dev :=
  if e = .clean then d
  else
    let ue := isUe e
    let pc := d.unitPc (hbmUnitOf a)
    let d1 := (d.setAddr F.hbmLastErrLoAddr F.hbmLastErrHiAddr a).put F.hbmLastErrHiPc pc
    let d2 := ((d1.put F.hbmLastErrHiUe (bitOf ue)).transient 4 (eccTransients e)).roll F.hbmRetryCount (eccRetries e)
    let d3 := if ue then
        let x := (d2.roll F.hbmUeCount 1).raise F.hbmEvtUe
        { x with sram := { x.sram with ueAt := some x.now } }
      else (d2.roll F.hbmCeCount 1).raise F.hbmEvtCe
    let r := d3.occurrences (pcChannel pc) (eccRetries e)
    r.1.when (r.2 || ue) (fun x => x.pcFaulty pc)

/-! Errors that the datapath meets. The spec does not say where a word of a packet lies, so its place is free. -/

/-- A word of the Packet Staging Queue met `e` (R372). -/
def Dev.psqSeen (d : Dev) (e : EccSeen) : Dev :=
  let a := d.freeNat
  let b := a.2.freeNat
  b.2.sramSeen (a.1 % 65536, b.1 % 512) e

/-- A packet of a context whose queue base is `base` is read from the Flow Store with an uncorrectable error (R362, R513). -/
def Dev.flowStoreUe (d : Dev) (base : Nat) : Dev :=
  let a := d.freeNat
  a.2.hbmSeen (hbmUnitAddr (16 + base / 8192 % 8) + a.1 % hbmUnitSize / 8 * 8) (.uncorrectable 0)

/-- The map entries `ue` of the active map are read with uncorrectable errors (R298, R505). -/
def Dev.mapSeen (d : Dev) (ue : List Nat) : Dev :=
  (ue.map (fun i => d.sramPlace (0x1400_0000 + 4 * i))).eraseDups.foldl (fun e p => e.sramSeen p (.uncorrectable 0)) d

end Sys2Proof.Machine
end

