-- ==== Sys2Proof/Machine/RegOps.lean ====
section
/-! DEFINITION. Writes of registers by their table entries (R10 to R13), and byte arrays that lie in registers (R10). -/

namespace Sys2Proof.Machine

/-- What one encoding rule makes of a written word (R13). -/
def applyRule (old w : W32) : FieldRule → W32
  | .reserved lo len first last =>
    if first ≤ getF w lo len ∧ getF w lo len ≤ last then putF w lo len (getF old lo len) else w
  | .clamp lo len least most => putF w lo len (Nat.max least (Nat.min most (getF w lo len)))
  | .orElse lo len least most dflt =>
    if least ≤ getF w lo len ∧ getF w lo len ≤ most then w else putF w lo len dflt

/-- The word that a write of `data` leaves in a register that holds `old` (R11 to R13). -/
def RegDef.written (r : RegDef) (old data : W32) : W32 :=
  let rw := BitVec.ofNat 32 r.rw
  let w := ((old &&& ~~~rw) ||| (data &&& rw)) &&& ~~~(data &&& BitVec.ofNat 32 r.w1c)
  r.rules.foldl (applyRule old) w

/-- A write of `data` to the register or table word at `a` with no effect beyond its fields. -/
def Dev.regWrite (d : Dev) (a : Nat) (data : W32) : Dev :=
  match regDefOf a with
  | some r => d.setWord a (r.written (d.word a) data)
  | none => d

/-- The fields of `a` that software may write. -/
def rwMask (a : Nat) : W32 :=
  match regDefOf a with
  | some r => BitVec.ofNat 32 r.rw
  | none => 0

/-- A write with byte enables as a write of the whole word: a byte that is not enabled keeps its RW fields, and carries
0 to the others (R11). -/
def Dev.merge (d : Dev) (a : Nat) (data : W32) (be : BitVec 4) : W32 :=
  let m := BitVec.ofNat 32 (beMask be)
  (data &&& m) ||| (d.word a &&& rwMask a &&& ~~~m)

/-! Byte arrays in registers -/

def Dev.byteAt (d : Dev) (a : Nat) : Byte := byteOf (d.word (a / 4 * 4)) (a % 4)

def Dev.setByteAt (d : Dev) (a : Nat) (b : Byte) : Dev := d.setWord (a / 4 * 4) (putByte (d.word (a / 4 * 4)) (a % 4) b)

def Dev.bytesAt (d : Dev) (a n : Nat) : List Byte := (List.range n).map (fun i => d.byteAt (a + i))

def Dev.setBytesAt (d : Dev) (a : Nat) (l : List Byte) : Dev :=
  (l.foldl (fun (x : Nat × Dev) b => (x.1 + 1, x.2.setByteAt (a + x.1) b)) (0, d)).2

end Sys2Proof.Machine
end

