-- ==== Sys2Proof/Machine/TimingOps.lean ====
section
/-! DEFINITION. Reference selection, the loop and the recovered-clock outputs (R72 to R87, R694): what the commands of
the Timing Unit share. -/

namespace Sys2Proof.Machine

/-- The selection modes of `CLK.REFSEL.MODE`. -/
def selFixedA : Nat := 0
def selFixedB : Nat := 1
def selAutoA : Nat := 2

def Dev.setTiming (d : Dev) (t : Timing) : Dev := { d with timing := t }

/-- The bits of `CLK.STICKY`. -/
def clkEvent (n : Nat) : Field := ⟨Reg.hdrSticky + 0x1_0001_0000, n, 1⟩

def otherRef : Ref → Ref
  | .a => .b
  | .b => .a

/-- The mode and REVERT in force (R85). -/
def Timing.mode (t : Timing) : Nat := getF t.sel 0 2
def Timing.revert (t : Timing) : Nat := getF t.sel 8 5

/-- The time since which an input has been qualified (R72). -/
def Timing.ok (t : Timing) : Ref → Option Nat
  | .a => t.okA
  | .b => t.okB

def Dev.setOk (d : Dev) (r : Ref) (v : Option Nat) : Dev :=
  match r with
  | .a => (d.setTiming { d.timing with okA := v }).put F.clkStatusAOk (bitOf v.isSome)
  | .b => (d.setTiming { d.timing with okB := v }).put F.clkStatusBOk (bitOf v.isSome)

/-- An input that the selection mode allows. -/
def Timing.allows (t : Timing) (r : Ref) : Bool :=
  match r with
  | .a => t.mode != selFixedB
  | .b => t.mode != selFixedA

/-- The input that would be acquired: qualified and allowed, `HTREF_A` first. -/
def Timing.pick (t : Timing) : Option Ref :=
  if t.okA.isSome ∧ t.allows .a then some .a
  else if t.okB.isSome ∧ t.allows .b then some .b
  else none

/-- R82, R83: the present input is released and the loop holds towards `r`. -/
def Dev.holdTo (d : Dev) (r : Ref) : Dev :=
  ((d.setTiming { d.timing with loop := .hold r }).lower F.clkStatusLock).raise F.clkStatusHold

/-- R72, R87, R694: an input that is qualified is acquired as the loop's state and the selection mode allow. -/
def Dev.reselect (d : Dev) : Dev :=
  match d.timing.loop with
  | .idle =>
    match d.timing.pick with
    | some r => d.setTiming { d.timing with loop := .acquiring r }
    | none => d
  | .floor =>
    match d.timing.pick with
    | some r => (d.setTiming { d.timing with loop := .pullIn r }).raise F.clkStatusHold
    | none => d
  | .locked r =>
    if !d.timing.allows r ∧ (d.timing.ok (otherRef r)).isSome then d.holdTo (otherRef r) else d
  | _ => d

/-- R462: a STANDBY without a valid root is not aligned any more and enters REJOIN (DESIGN CHOICE, notes/assumptions/196). -/
def Dev.losePhase (d : Dev) : Dev := d.when (d.role == roleStandby) Dev.enterRejoin

/-- R86: both references are lost. Under policy SAFEHOLD the status, the event and the root follow in BOOT too, where the mode stays
(DESIGN CHOICE, notes/assumptions/182). -/
def Dev.lossOfBoth (d : Dev) : Dev :=
  let d1 := ((d.setTiming { d.timing with loop := .floor }).lower F.clkStatusLock).lower F.clkStatusHold
  let d2 :=
    if d.get F.clkLossPolicyPolicy = 0 then
      (((d1.raise F.clkCoastActive).bump F.clkCoastEntries 1).raise (clkEvent 3)).enterCoast
    else
      (((d1.raise F.clkStatusSafehold).lower F.clkStatusRootValid).raise (clkEvent 4)).enterSafehold.losePhase
  d2.reselect

/-- R81, R82, R694: the input in use, or the one a hold goes to, fails. -/
def Dev.refFail (d : Dev) (r : Ref) : Dev :=
  if d.timing.mode = selFixedA ∨ d.timing.mode = selFixedB ∨ (d.timing.ok (otherRef r)).isNone then d.lossOfBoth
  else d.holdTo (otherRef r)

/-- R81, R84: input `r` is dead: it must qualify again, and where the loop used it, it has failed. Its loss is an event where it was qualified,
selected or not (DESIGN CHOICE, notes/assumptions/180). -/
def Dev.refDead (d : Dev) (r : Ref) : Dev :=
  let d1 := (d.when (d.timing.ok r).isSome (fun e => e.raise (clkEvent (match r with | .a => 1 | .b => 2)))).setOk r none
  match d1.timing.loop with
  | .locked x => if x = r then d1.refFail r else d1
  | .hold x => if x = r then d1.refFail r else d1
  | .acquiring x => if x = r then (d1.setTiming { d1.timing with loop := .idle }).reselect else d1
  | .pullIn x =>
    if x = r then ((d1.setTiming { d1.timing with loop := .floor }).lower F.clkStatusHold).reselect else d1
  | _ => d1

/-- The loop has locked to `r`. -/
def Dev.lockTo (d : Dev) (r : Ref) : Dev :=
  (((d.setTiming { d.timing with loop := .locked r }).raise F.clkStatusLock).lower F.clkStatusHold).put
    F.clkStatusActiveRef (match r with | .a => 0 | .b => 1)

/-- R78: recovered-clock output `n` is held low. -/
def Dev.squelchLrc (d : Dev) (n : Nat) : Dev :=
  if d.on (F.clkLrcSquelched.at 4 n) then d
  else (d.raise (F.clkLrcSquelched.at 4 n)).raise (clkEvent 6)

/-- R78: the outputs that carry lane `l` are held low. -/
def Dev.squelchLane (d : Dev) (l : Nat) : Dev :=
  d.each 4 (fun e n => e.when (e.timing.lrc.getD n 0 == l) (fun x => x.squelchLrc n))

end Sys2Proof.Machine
end

