-- ==== Sys2Proof/Machine/LaneBase.lean ====
section
/-! DEFINITION. What a lane's defects and its alignment carry with them: the defect block (R421), the consequent actions
(R170 to R172, R283), the estimators (R390), the packet queue's counts (R373) and the state of a merge pair (R281). -/

namespace Sys2Proof.Machine

/-- Counters of a record's second that are not events: a near-end defect, a far-end defect (R395). -/
def ctrNearDefect : Nat := 16
def ctrFarDefect : Nat := 17
def ctrRsDefect : Nat := 18

/-- The defects that hold now are part of the second in progress (R395): on a LINE lane section fail and MS-AIS, LOS and
LOF for the regenerator section, and MS-RDI; on a Tustra lane LOS, LOB and LOFT. -/
def Dev.markLane (d : Dev) (n : Nat) : Dev :=
  let has (l : List Nat) : Bool := l.any (fun b => d.defect n b)
  if (d.lane n).isLine then
    let near := has [defLos, defLof, defMsais] || (d.defect n defTim && d.on (F.laneSohCfgTimAct.lane n))
    ((d.count 0 n ctrNearDefect (bitOf near)).count 0 n ctrRsDefect (bitOf (has [defLos, defLof]))).count 0 n
      ctrFarDefect (bitOf (has [defMsrdi]))
  else d.count 0 n ctrNearDefect (bitOf (has [defLos, defOof, defLoft]))

/-- A defect state takes a value; `DEF_EVT` is set on each change (R421). -/
def Dev.setDefect (d : Dev) (n bit : Nat) (v : Bool) : Dev :=
  if d.defect n bit = v then d
  else (((d.put (defField n bit) (bitOf v)).raise ⟨laneAddr n Reg.laneDefEvt, bit, 1⟩).markLane n).protSee

def Dev.soh (d : Dev) (n : Nat) : Soh := (d.lane n).soh

def Dev.setSoh (d : Dev) (n : Nat) (s : Soh) : Dev := d.setLane n { d.lane n with soh := s }

def sohEvent (n : Nat) (f : Field) (d : Dev) : Dev := d.raise (f.lane n)

/-! Fail states and consequent actions (R170, R171) -/

/-- Port `q` writes all-ones into the rest of the ingress frame (R32, R172). -/
def Dev.aisFrom (d : Dev) (q : Nat) : Dev := { d with inFill := { d.inFill with ais := onesFrom d.inFill.ais q d.slotNow } }

/-- R171, R172: what follows when a condition of LINE lane `n` may have been declared. All-ones ends with the first
ingress frame that starts after the condition clears. -/
def Dev.lineUpdate (d : Dev) (n : Nat) : Dev :=
  d.when ((d.lane n).isLine && d.lineAis n) (fun e => (e.raise (F.laneSohStatAisDs.lane n)).aisFrom n)

/-! Trace records -/

/-- The words of a trace record (R417). -/
def TaggedUnit.words (u : TaggedUnit) (lost : Bool) : List Nat :=
  let t0 := (u.stamps.headD (0, 0)).2
  let off (t : Nat) : Nat := (t - t0) / 4
  let top : Nat := 2 ^ 26 - 1
  let sat := u.stamps.any (fun x => decide (top < off x.2))
  [u.kind + u.source * 8 + u.stamps.length * 0x400 + bitOf sat * 0x4000 + bitOf lost * 0x8000 + u.serial % 0x1_0000 * 0x1_0000,
    if 3 ≤ u.kind then u.word1 % 0x4000_0000 else u.word1, u.tb % 0x1_0000_0000, u.tb / 0x1_0000_0000]
    ++ u.stamps.map (fun x => x.1 + Nat.min top (off x.2) * 64)
    ++ List.replicate (12 - u.stamps.length) 0

/-- A tagged unit leaves the pipeline, and its record waits to be written (R417, R419). -/
def Dev.endTag (d : Dev) (u : TaggedUnit) (lost : Bool) : Dev :=
  { d with skw := { held := d.skw.held.filter (fun x => x.serial != u.serial), waiting := d.skw.waiting ++ [u.words lost] } }

/-- R417, R638: the tagged units that a reset discards. -/
def Dev.loseTags (d : Dev) : Dev := d.skw.held.foldl (fun e u => e.endTag u true) d

/-! Estimators -/

/-- The key of an estimator: SD or SF of lane `n` or of the point with key `k`. -/
def estKeyLane (n sf : Nat) : Nat := 2 * n + sf
def estKeyPoint (k sf : Nat) : Nat := 2 * (104 + k) + sf

def Dev.estAt (d : Dev) (key : Nat) : EstSt := Store.get (fun _ => {}) d.est key

/-- The slices that an estimator holds, newest first. -/
def Dev.estWindow (d : Dev) (key : Nat) : List Nat := (d.estAt key).slices

/-- An estimator; its slice in progress starts again. -/
def Dev.setEst (d : Dev) (key : Nat) (x : EstSt) : Dev :=
  { d with est := Store.set (fun _ => {}) d.est key x, estAcc := Store.set (fun _ => 0) d.estAcc key 0 }

/-- The window of an estimator is emptied. -/
def Dev.estClear (d : Dev) (key : Nat) : Dev := d.setEst key { d.estAt key with slices := [] }

/-- Violations of the slice in progress of an estimator (R386). -/
def Dev.estAdd (d : Dev) (key v : Nat) : Dev :=
  { d with estAcc := Store.set (fun _ => 0) d.estAcc key (Store.get (fun _ => 0) d.estAcc key + v) }

/-- Violations of the slices in progress of the estimators of lane `n`, while `SDSF_EN` is 1. -/
def Dev.estLane (d : Dev) (n v : Nat) : Dev :=
  d.when (v != 0 && d.on (F.lanePmCfgSdsfEn.lane n)) (fun e => (e.estAdd (estKeyLane n 0) v).estAdd (estKeyLane n 1) v)

/-- R382, R390: B2 is not compared: SD and SF are cleared and their windows emptied; the counts of frames restart. -/
def Dev.b2Pause (d : Dev) (n : Nat) : Dev :=
  let s := d.soh n
  ((((d.setSoh n { s with exc := 0, noExc := 0 }).estClear (estKeyLane n 0)).estClear (estKeyLane n 1)).setDefect n
    defSd false).setDefect n defSf false

/-! Holding (R152, R153, R158, R166, R169, R177) -/

/-- The states in which K is held (R166). -/
def Dev.kHeld (d : Dev) (n : Nat) : Bool :=
  d.defect n defLos || d.defect n defOof || d.defect n defLof || d.defect n defMsais
    || (d.defect n defTim && d.on (F.laneSohCfgTimAct.lane n))

/-- LOS or OOF begins: the partly received trace is discarded, and every count of identical frames restarts. -/
def Soh.hold (s : Soh) : Soh :=
  { s with b1Own := none, b2Own := none, trace := { s.trace with part := none, lastTwo := (0, 0), message := [], count := 0 },
           k := {}, k2l := {}, s1 := {}, kSince := 0, ais := 0, noAis := 0, rdi := 0, noRdi := 0 }

/-! The Packet Staging Queue's counts (R363, R373) -/

/-- Bytes of a bank that a packet takes (R363). -/
def Packet.cost (p : Packet) : Nat := p.data.length + 6

def packetBytes (l : List Packet) : Nat := l.foldl (fun a p => a + p.cost) 0

/-- `COUNT_L2F` and `COUNT_F2L`, open packets included, and the peaks. -/
def Dev.psqNote (d : Dev) : Dev :=
  let opened := d.lanes.foldl (fun a x => match x.2.tu.pkt with | some p => a + p.cost | none => a) 0
  let l := packetBytes d.psq.l2f + opened
  let f := d.lanes.foldl (fun a x => a + packetBytes x.2.tu.sent.packets) (packetBytes d.psq.f2l + packetBytes d.psq.back)
  (((d.put F.psqCountL2fBytes l).put F.psqCountF2lBytes f).put F.psqPeakL2fBytes
    (Nat.max l (d.get F.psqPeakL2fBytes))).put F.psqPeakF2lBytes (Nat.max f (d.get F.psqPeakF2lBytes))

/-! Tustra lanes -/

def Dev.tu (d : Dev) (n : Nat) : TuRx := (d.lane n).tu

def Dev.setTu (d : Dev) (n : Nat) (t : TuRx) : Dev := d.setLane n { d.lane n with tu := t }

def Dev.isSystem (d : Dev) (n : Nat) : Bool := (d.lane n).type == 2

/-- R261: the open packet of a lane is rewound. -/
def Dev.rewind (d : Dev) (n : Nat) : Dev :=
  match (d.tu n).pkt with
  | some _ =>
    ((((d.setTu n { d.tu n with pkt := none }).roll (F.laneTuPktbadCount.lane n) 1).count 0 n 10 1)).psqNote
  | none => d

/-- The primary of the merge pair that SYSTEM lane `n` belongs to (R277). -/
def Dev.pairOf (d : Dev) (n : Nat) : Option Nat :=
  if !d.isSystem n then none
  else if d.on (F.laneTuStrEn.lane n) then some n
  else (List.range n).find? (fun p => d.on (F.laneTuStrEn.lane p) && d.get (F.laneTuStrPartner.lane p) == n)

def strOff : Nat := 0
def strDown : Nat := 1
def strSingle : Nat := 2
def strMerge : Nat := 3
def strEpoch : Nat := 4

/-- R278: a copy is usable, which takes the merge buffers in HBM3 (R512, R517). -/
def Dev.copyUsable (d : Dev) (n : Nat) (skewed : Bool) : Bool := d.inFrame n && !d.defect n defSeq && !skewed && d.regionUp 5

/-- How far two frame numbers lie apart, as a signed difference of 32 bits. -/
def seqDistance (a b : Nat) : Int :=
  let x := (a + 0x1_0000_0000 - b % 0x1_0000_0000) % 0x1_0000_0000
  if x < 0x8000_0000 then (x : Int) else (x : Int) - 0x1_0000_0000

/-- Frame numbers more than 2^20 apart (R250, R281). -/
def farApart (a b : Nat) : Bool := decide (0x10_0000 < (seqDistance a b).natAbs)

/-- The frame of the copy of lane `n` in the place of frame `s` in its buffer (R279). -/
def Dev.copyAt (d : Dev) (n s : Nat) : Option CopyFrame := (d.tu n).merge.find? (fun x => x.1 == s % 8) |>.map (fun x => x.2)

/-- The number that the copy of lane `n` has for the release point of pair `p` (R281): that of the frame released, where the copy holds it or
has not yet read a number of its own, or else the last one that it read (DESIGN CHOICE, notes/assumptions/190). -/
def Dev.copyNumber (d : Dev) (p n : Nat) : Nat :=
  let own := d.get (F.laneTuRxseqSeq.lane n)
  match (d.tu p).release with
  | some r => if (d.tu n).expect.isNone || (d.copyAt n r.seq).any (fun f => f.seq == r.seq) then r.seq else own
  | none => own

/-- A lane joins or leaves a merge pair: its open packet is rewound, and its copy is empty (DEDUCED, notes/assumptions/135). -/
def Dev.copyReset (d : Dev) (n : Nat) : Dev :=
  let e := d.rewind n
  e.setTu n { e.tu n with merge := [], head := none, filing := none, lateRun := 0, goodRun := 0, missed := false, upSince := none,
                          release := none, mergedOther := [], ones := [] }

/-- R281: the state of the merge pair whose primary is `p`. In DOWN its ingress frame holds all-ones, and it has no release point. -/
def Dev.strUpdate (d : Dev) (p : Nat) : Dev :=
  let q := d.get (F.laneTuStrPartner.lane p)
  let a := d.copyUsable p (d.on (F.laneTuStrstatSkewP.lane p))
  let b := d.copyUsable q (d.on (F.laneTuStrstatSkewS.lane p))
  let st := if !d.on (F.laneTuStrEn.lane p) then strOff
    else if a && b then (if farApart (d.copyNumber p p) (d.copyNumber p q) then strEpoch else strMerge)
    else if a || b then strSingle
    else strDown
  let t := d.tu p
  let d1 := d.put (F.laneTuStrstatState.lane p) st
  if st ≤ strDown then
    (d1.setTu p { t with upSince := none, release := none }).when (st == strDown) (fun e => (e.rewind p).aisFrom p)
  else if t.upSince.isSome then d1
  else d1.setTu p { t with upSince := some d.now }

/-- R283: a RADIO or SYSTEM lane outside a merge pair whose ingress frame holds all-ones. -/
def Dev.tuDown (d : Dev) (n : Nat) : Bool := !d.inFrame n || d.defect n defLos

/-- What follows when a defect or the alignment of lane `n` may have changed (R171, R172, R281, R283). -/
def Dev.laneUpdate (d : Dev) (n : Nat) : Dev :=
  if (d.lane n).isLine then d.lineUpdate n
  else if 96 ≤ n then d
  else
    match d.pairOf n with
    | some p => d.strUpdate p
    | none => d.when (d.tuDown n) (fun e => (e.rewind n).aisFrom n)

/-- The open packet that the receive of lane `n` itself feeds is rewound; that of a merged stream stays open (R282). -/
def Dev.rewindOwn (d : Dev) (n : Nat) : Dev := if (d.pairOf n).isSome then d else d.rewind n

/-- A PACKET block of a frame of `k` blocks has begun by tick `now`; and it has ended. -/
def TuSent.begun (s : TuSent) (k now : Nat) (x : TuPlan) : Bool := decide (s.start * k + x.block * ticksPerFrame ≤ now * k)
def TuSent.over (s : TuSent) (k now : Nat) (x : TuPlan) : Bool := decide (s.start * k + (x.block + 1) * ticksPerFrame ≤ now * k)

/-- R256: the grants have fallen to 0: no further PACKET block of the frame is started, and a packet whose last block is among those left
goes back to the queue whole. -/
def Dev.cutPackets (d : Dev) (n : Nat) : Dev :=
  let t := d.tu n
  let s := t.sent
  let k := blocksPerFrame (d.lane n).rate
  let kept := s.plan.filter (s.begun k d.now)
  let whole := (kept.filter (fun x => x.field8.getLsbD 6)).length - s.ended
  let d1 := d.setTu n { t with sent := { s with plan := kept, packets := s.packets.take whole } }
  { d1 with psq := { d1.psq with back := s.packets.drop whole ++ d1.psq.back } }

/-- A frame of a copy that the loss of FRAME cuts off ends a run of frames in time, and one of late frames unless it is the eighth (R278). -/
def TuRx.copyCut (t : TuRx) : TuRx :=
  let late := (t.filing.bind (fun s => (t.merge.find? (fun x => x.1 == s % 8)).map (fun x => x.2))).any (fun f => f.late)
  { t with goodRun := 0, lateRun := if late && decide (7 ≤ t.lateRun) then 8 else 0 }

/-- R256, R261, R272: the receive of a Tustra lane leaves FRAME. -/
def Dev.tuLeave (d0 : Dev) (n : Nat) : Dev :=
  let d := d0.cutPackets n
  let t := (d.tu n).copyCut
  let d1 := d.setTu n { t with grants := List.replicate 8 0, expect := none, seqLow := none, buf := [], other := [],
                               lateAt := none, slip := none, ones := [], rd := 0, noRd := 0, fsErr := false, tailAgain := false, fsErrFrames := 0,
                               proposed := none, failed := [], head := none, filing := none }
  let d2 := ((((d1.setWord (laneAddr n Reg.laneTuCrrx0) 0).setWord (laneAddr n Reg.laneTuCrrx1) 0).lower
    (F.laneTuStatPend.lane n)).put (F.laneTuStatPcap.lane n) 0).put (F.laneTuPeffE.lane n) 0
  d2.rewindOwn n

end Sys2Proof.Machine
end

