-- ==== Sys2Proof/Machine/LaneOps.lean ====
section
/-! DEFINITION. What a report of a lane's or a stream's Sieve changes (R107 to R110, R117, R127, R141). -/

namespace Sys2Proof.Machine

def Dev.setLoft (d : Dev) (n : Nat) (v : Bool) : Dev := (d.put (F.laneSvStatLoft.lane n) (bitOf v)).setDefect n defLoft v

def Dev.setLof (d : Dev) (n : Nat) (v : Bool) : Dev :=
  ((d.put (F.laneSvStatLof.lane n) (bitOf v)).setDefect n defLof v).laneUpdate n

/-- OOF or LOB, with the times that LOF is judged by (R116, R117, R127), and what follows of it: B1 and B2 are not
compared (R152, R153), acceptance restarts (R158, R166, R177), and a Tustra lane leaves FRAME. -/
def Dev.setOof (d : Dev) (n : Nat) (v : Bool) : Dev :=
  let l := d.lane n
  let d1 := (d.put (F.laneSvStatOof.lane n) (bitOf v)).setDefect n defOof v
  if v then
    let d2 := d1.setLane n { l with soh := l.soh.hold, inFrameSince := none,
                                    oofSince := if l.oofSince.isSome then l.oofSince else some d.now }
    (if l.isLine then d2.b2Pause n else d2.when (d.inFrame n) (fun e => e.tuLeave n)).laneUpdate n
  else
    d1.setLane n { l with oofSince := none, inFrameSince := if l.inFrameSince.isSome then l.inFrameSince else some d.now }

/-- The lane is in `s`, with the outputs that R117 and R127 give that state. -/
def Dev.setSv (d : Dev) (n s : Nat) : Dev :=
  let line := (d.lane n).isLine
  let d1 := ((d.put (F.laneSvStatState.lane n) s).setOof n (s == svHunt || s == svTrial)).setLoft n (!line && s != svFrame)
  (d1.when (!line && d.inFrame n && s != svFrame) (fun e => e.tuLeave n)).laneUpdate n

/-- The configuration bits in force on a lane's Sieve (R139). -/
def Sieve.patLen (s : Sieve) : Nat := getF s.cfg 0 1
def Sieve.bg (s : Sieve) : Bool := getF s.cfg 1 1 == 1
def Sieve.corr (s : Sieve) : Bool := getF s.cfg 2 1 == 1
def Sieve.alpha (s : Sieve) : Nat := getF s.cfg 4 4
def Sieve.delta (s : Sieve) : Nat := getF s.cfg 8 3

/-- Bytes of a frame of a LINE lane. -/
def lineFrameLen (rate : Nat) : Nat := 2430 * stmN rate

/-- What a Sieve operation of lane `n` answered takes effect. An alignment found enters IN_FRAME, FRAME where its frame
start is known (R126, R127), or BLOCK. A loss that finds no ALT but a slot in TRIAL on its own shows TRIAL at once, since that test is then
the trial of a round (R117, R127, R136; DESIGN CHOICE, notes/assumptions/142). -/
def Dev.applySieve (d : Dev) (n : Nat) (r : Sieve × SieveOut) : Dev :=
  let l := d.lane n
  let o := r.2
  let c (f : Field) (k : Nat) (e : Dev) : Dev := if k = 0 then e else e.roll (f.lane n) k
  let d1 := d.setLane n { l with sieve := r.1 }
  let d2 := c F.laneSvMimicCount o.mimics (c F.laneSvUnresCount o.unresolved (c F.laneSvFastCount o.fast
    (c F.laneSvHuntCount o.hunts (c F.laneSvFullCount o.full d1))))
  let d3 := d2.count 0 n (if l.isLine then 15 else 4) o.mimics
  match o.aligned with
  | some i =>
    let x := r.1.slot i
    (d3.setTu n { d3.tu n with next := x.phase, proposed := none, fsErr := false, tailAgain := false, fsErrFrames := 0 }).setSv n
      (if l.isLine || x.fsOk then svFrame else svBlock)
  | none =>
    if o.started then d3.setSv n svTrial
    else if o.hunting then d3.setSv n (if r.1.round = 0 then svHunt else svTrial)
    else d3

/-- R133: the lane's slots are FREE and it hunts; OOF is set, and a LOF timer that runs goes on. -/
def Dev.huntAgain (d : Dev) (n : Nat) : Dev :=
  let l := d.lane n
  (d.setLane n { l with sieve := l.sieve.restart }).setSv n svHunt

/-! GFP streams -/

/-- Marks of a group's second (R394): LFD; LOA, SQM or LOM. -/
def ctrLfd : Nat := 16
def ctrLoss : Nat := 17

/-- The defects of group `g` are part of the second in progress. -/
def Dev.markGroup (d : Dev) (g : Nat) : Dev :=
  let on (f : Field) : Bool := d.on (f.at 64 g)
  if d.get (F.grpMode.at 32 g) = 0 then d
  else (d.count 4 g ctrLfd (bitOf (on F.grpStLfd))).count 4 g ctrLoss (bitOf (on F.grpStLoa || on F.grpStSqm || on F.grpStLom))

/-- A defect bit of group `g` takes a value; `FLW.EVT.GRP_CHG` is set on each change (R376). -/
def Dev.groupBit (d : Dev) (g : Nat) (f : Field) (v : Bool) : Dev :=
  if d.on (f.at 64 g) = v then d else ((d.put (f.at 64 g) (bitOf v)).raise F.flwEvtGrpChg).markGroup g

def Dev.applyGfp (d : Dev) (g : Nat) (r : Sieve × SieveOut) : Dev :=
  let o := r.2
  let st (x : Slot) : Nat := match x.st with | .free => 0 | .cand => 1 | .trial => 2 | .alt => 3 | .active => 4 | .barred => 5
  let states := (List.range 8).foldl (fun a i => a + st (r.1.slot i) * 8 ^ i) 0
  let d1 := ((d.setGfpSieve g r.1).put (F.grpStSlots.at 64 g) states).when (o.mimics != 0)
    (fun e => (e.roll (F.grpStMimics.at 64 g) o.mimics).count 4 g 4 o.mimics)
  let d2 := match o.aligned with
    | some _ => (d1.put (F.grpStSv.at 64 g) 2).groupBit g F.grpStLfd false
    | none =>
      if o.started then d1.put (F.grpStSv.at 64 g) 1
      else if o.hunting then d1.put (F.grpStSv.at 64 g) (if r.1.round = 0 then 0 else 1)
      else d1
  d2

/-- The configuration bits in force on a GFP stream's Sieve. -/
def Sieve.gfpAlpha (s : Sieve) : Nat := getF s.cfg 0 4
def Sieve.gfpDelta (s : Sieve) : Nat := getF s.cfg 4 3
def Sieve.gfpCorr (s : Sieve) : Bool := getF s.cfg 8 1 == 1
def Sieve.gfpBg (s : Sieve) : Bool := getF s.cfg 9 1 == 1

/-- LFD holds while the stream has no ACTIVE (R130). -/
def Dev.gfpLost (d : Dev) (g : Nat) : Dev := d.groupBit g F.grpStLfd true

end Sys2Proof.Machine
end

