-- ==== Sys2Proof/Machine/FlowOps.lean ====
section
/-! DEFINITION. The Flow Engine (08_flow_engine.md): contexts, groups and members as their table entries give them, the
queues of the Flow Store, GFP frames, virtual concatenation and LCAS. -/

namespace Sys2Proof.Machine

/-! Refused table writes (R376) -/

def tblContext : Nat := 0
def tblGroup : Nat := 1
def tblMember : Nat := 2
def tblStructure : Nat := 3

def errRange : Nat := 1
def errDuplicate : Nat := 2
def errOverlap : Nat := 3
def errInUse : Nat := 4
def errLimit : Nat := 5
def errStruct : Nat := 6
def errMode : Nat := 7

/-- A table write is refused: the entry keeps its value. -/
def Dev.flwRefuse (d : Dev) (table reason index : Nat) : Dev × Resp :=
  ((((d.raise F.flwEvtErr).put F.flwErrTable table).put F.flwErrReason reason).put F.flwErrIndex index, .slverr)

/-! Entries -/

def ctxAddr (f w : Nat) : Nat := 0x1A00_0000 + 16 * f + 4 * w
def grpAddr (g w : Nat) : Nat := 0x1A20_0000 + 32 * g + 4 * w
def memAddr (i w : Nat) : Nat := 0x1A40_0000 + 8 * i + 4 * w
def fpStrAddr (p g : Nat) : Nat := 0x1A60_0000 + 4 * (64 * p + g)

/-- The indices of the entries from `base` up, `size` bytes each and `n` of them, whose word 0 has bit 0 = 1. -/
def Dev.enabledIn (d : Dev) (base size n : Nat) : List Nat :=
  d.words.filterMap (fun x =>
    if base ≤ x.1 ∧ x.1 < base + size * n ∧ (x.1 - base) % size = 0 ∧ getF x.2 0 1 = 1 then some ((x.1 - base) / size) else none)

/-- Context `f` belongs to a retired slice (R335). -/
def Dev.sliceRetired (d : Dev) (f : Nat) : Bool := d.on ⟨Reg.flwSliceRet, f / 4096, 1⟩

def Dev.contexts (d : Dev) : List Nat := (d.enabledIn 0x1A00_0000 16 65536).filter (fun f => !d.sliceRetired f)

def Dev.ctxOn (d : Dev) (f : Nat) : Bool := d.on (F.ctxEn.at 16 f) && !d.sliceRetired f
def Dev.ctxLane (d : Dev) (f : Nat) : Nat := d.get (F.ctxLane.at 16 f)
def Dev.ctxGroup (d : Dev) (f : Nat) : Nat := d.get (F.ctxGroup.at 16 f)
def Dev.ctxClass (d : Dev) (f : Nat) : Nat := d.get (F.ctxClass.at 16 f)

def modeOff : Nat := 0
def modeSingle : Nat := 1
def modeVcat : Nat := 2

def Dev.grpMode (d : Dev) (g : Nat) : Nat := d.get (F.grpMode.at 32 g)
def Dev.grpLcas (d : Dev) (g : Nat) : Bool := d.grpMode g == modeVcat && d.on (F.grpLcas.at 32 g)
def Dev.grpMtype (d : Dev) (g : Nat) : Nat := d.get (F.grpMtype.at 32 g)

def Dev.group (d : Dev) (g : Nat) : GroupSt := Store.get (fun _ => {}) d.groups g
def Dev.setGroup (d : Dev) (g : Nat) (x : GroupSt) : Dev := { d with groups := Store.set (fun _ => {}) d.groups g x }
def Dev.member (d : Dev) (i : Nat) : MemberSt := Store.get (fun _ => {}) d.members i
def Dev.setMember (d : Dev) (i : Nat) (x : MemberSt) : Dev := { d with members := Store.set (fun _ => {}) d.members i x }

/-- Enabled members, and those of group `g` on one side. -/
def Dev.enabledMembers (d : Dev) : List Nat := d.enabledIn 0x1A40_0000 8 131072

def Dev.memGroup (d : Dev) (i : Nat) : Nat := d.get (F.mem1Group.at 8 i)
def Dev.memSink (d : Dev) (i : Nat) : Bool := d.on (F.memDir.at 8 i)

def Dev.side (d : Dev) (g : Nat) (sink : Bool) : List Nat :=
  d.enabledMembers.filter (fun i => d.memGroup i == g && d.memSink i == sink)

/-- Groups whose `MODE` is not OFF. -/
def Dev.groupsOn (d : Dev) : List Nat :=
  d.words.filterMap (fun x =>
    if 0x1A20_0000 ≤ x.1 ∧ x.1 < 0x1A28_0000 ∧ x.1 % 32 = 0 ∧ getF x.2 0 2 ≠ 0 then some ((x.1 - 0x1A20_0000) / 32) else none)

/-- Most members on a side (R348, the table above it). -/
def memberLimit (mode mtype : Nat) : Nat := if mode = modeSingle then 1 else if mtype ≤ 1 then 256 else 64

/-- The unit that a member's position names in the structure words `ws` of its flow port (R349). -/
def memberUnit (ws : List W32) (mtype g sub l : Nat) : Option FabricUnit :=
  (augUnits ws 64 g).find? (fun u =>
    match mtype with
    | 0 => u.kind == .au4
    | 1 => (u.kind == .au3 && u.sub == sub) || (u.kind == .tu3 && u.sub == 28 * sub)
    | 2 => u.kind == .tu12 && u.sub == l
    | 3 => u.kind == .tu11 && u.sub == l
    | 4 => u.kind == .au4c4
    | 5 => u.kind == .au4c16
    | 6 => u.kind == .au4c64
    | _ => false)

/-- The unit of member `i`, by the words of its flow port. -/
def Dev.unitOf (d : Dev) (ws : List W32) (i : Nat) : Option FabricUnit :=
  memberUnit ws (d.grpMtype (d.memGroup i)) (d.get (F.memG.at 8 i)) (d.get (F.memSub.at 8 i)) (d.get (F.memL.at 8 i))

/-- R412: client data of group `g` counts for the flow port of its first member on a side (DESIGN CHOICE, notes/assumptions/140). -/
def Dev.bwGroup (d : Dev) (g : Nat) (sink : Bool) (n : Nat) : Dev :=
  match d.side g sink with
  | [] => d
  | i :: _ => d.bwAdd (if sink then 5 else 4) (d.get (F.memFport.at 8 i)) n

/-! The Flow Store (R359 to R361) -/

def Dev.flow (d : Dev) (f : Nat) : FlowQ := Store.get (fun _ => {}) d.flows f
def Dev.setFlow (d : Dev) (f : Nat) (q : FlowQ) : Dev := { d with flows := Store.set (fun _ => {}) d.flows f q }

/-- Bytes of its half that a packet occupies (R360). -/
def Packet.room (p : Packet) : Nat := (p.data.length + 8 + 63) / 64 * 64

def roomOf (l : List Packet) : Nat := l.foldl (fun a p => a + p.room) 0

/-- Bytes of one half of a context's queue (R359). -/
def Dev.halfSize (d : Dev) (f : Nat) : Nat := d.get (F.ctxQsize.at 16 f) * 0x8000

/-- F2L packets of flow `f` that the packer has not yet sent to the end (R361). -/
def Dev.inPacker (d : Dev) (f : Nat) : List Packet :=
  let here (l : List Packet) : List Packet := l.filter (fun p => p.flow == f)
  here d.psq.f2l ++ here d.psq.back ++ d.lanes.flatMap (fun x => here x.2.tu.sent.packets)

/-- The fills that context `f` shows. -/
def Dev.showFill (d : Dev) (f : Nat) : Dev :=
  (d.put (F.ctxStL2f.at 16 f) (roomOf (d.flow f).l2f)).put (F.ctxStF2l.at 16 f) (roomOf (d.flow f).f2l + roomOf (d.inPacker f))

/-- `n` packets of a direction of context `f` are dropped (R335, R360). -/
def Dev.dropCount (d : Dev) (f : Nat) (f2l : Bool) (n : Nat) : Dev :=
  (d.when (n != 0) (fun e => e.roll ((if f2l then F.ctxStF2lDrops else F.ctxStL2fDrops).at 16 f) n)).count 3 f
    (if f2l then 5 else 2) n

/-- The unit of HBM3 that holds the queue of flow `f` takes packets (R512, R517). -/
def Dev.queueUp (d : Dev) (f : Nat) : Bool := d.hbmUp && d.hbmBacked (16 + d.get (F.ctxQbase.at 16 f) / 8192 % 8)

/-- A packet joins the L2F half of its flow's queue, or is dropped (R360). -/
def Dev.queueL2f (d : Dev) (p : Packet) : Dev :=
  let q := d.flow p.flow
  if roomOf q.l2f + p.room ≤ d.halfSize p.flow ∧ d.queueUp p.flow then
    (((d.setFlow p.flow { q with l2f := q.l2f ++ [p] }).count 3 p.flow 0 1).count 3 p.flow 1 p.data.length).showFill p.flow
  else d.dropCount p.flow false 1

/-! Contexts (R333 to R335) -/

/-- Why an entry with words `w0` to `w2` may not be enabled as context `f`; 0 where it may (R333). -/
def Dev.ctxEnableError (d : Dev) (f : Nat) (w0 w1 w2 : W32) : Nat :=
  let base := getF w2 0 16
  let size := getF w2 16 5
  let g := getF w0 16 14
  let others := (d.enabledIn 0x1A00_0000 16 65536).filter (fun x => x != f)
  if 95 < getF w0 8 7 ∨ 65536 < base + size then errRange
  else if others.any (fun x => d.ctxGroup x == g && (d.get (F.ctxCid.at 16 x) == getF w1 0 8 || !d.on (F.grpExt.at 32 g))) then
    errDuplicate
  else if others.any (fun x =>
      let b := d.get (F.ctxQbase.at 16 x)
      decide (b < base + size) && decide (base < b + d.get (F.ctxQsize.at 16 x))) then errOverlap
  else 0

/-- The bits of each word of an enabled context that stay (R334). -/
def ctxFixed (w : Nat) : W32 :=
  match w with
  | 0 => 0x3FFF_7F00
  | 1 => 0xFF
  | 2 => 0x1F_FFFF
  | _ => 0

/-- Blocks after the ends of the first `n` packets of a plan. -/
def afterPackets : Nat → List TuPlan → List TuPlan
  | 0, l => l
  | _, [] => []
  | n + 1, x :: l => if x.field8.getLsbD 6 then afterPackets n l else afterPackets (n + 1) l

/-- R335: the packets of flow `f` that lane `n` has still to begin are discarded. -/
def Dev.dropUnsent (f : Nat) (d : Dev) (n : Nat) : Dev :=
  let t := d.tu n
  let begun := (t.sent.plan.filter (fun x => x.field8.getLsbD 7 && t.sent.begun (blocksPerFrame (d.lane n).rate) d.now x)).length
  let ended := t.sent.ended
  let own (l : List Packet) : List Packet := l.filter (fun p => p.flow != f)
  let later := afterPackets begun t.sent.plan
  let packets := t.sent.packets.take (begun - ended) ++ own (t.sent.packets.drop (begun - ended))
  let gone := t.sent.packets.length - packets.length
  d.when (gone != 0) (fun e => (e.setTu n { t with sent := { t.sent with
    plan := t.sent.plan.take (t.sent.plan.length - later.length) ++ later.filter (fun x => x.flow != f), packets := packets } }).roll
      F.flwDropNoctxCount gone)

/-- R335: both halves of a context's queue are emptied, and its packets that wait in the packers are discarded. -/
def Dev.emptyContext (d : Dev) (f : Nat) : Dev :=
  let q := d.flow f
  (d.lanes.map (fun x => x.1)).foldl (Dev.dropUnsent f)
    (((d.setFlow f {}).dropCount f false q.l2f.length).dropCount f true q.f2l.length) |>.showFill f

/-- A write of word `w` of context `f` (R333 to R335). -/
def Dev.writeContext (d : Dev) (f w : Nat) (data : W32) : Dev × Resp :=
  let a := ctxAddr f w
  let old := d.word a
  let new := (d.regWrite a data).word a
  let was := d.on (F.ctxEn.at 16 f)
  if d.sliceRetired f then (d, .slverr)
  else if was ∧ (old ^^^ new) &&& ctxFixed w ≠ 0 then d.flwRefuse tblContext errInUse f
  else
    let e := if w = 0 ∧ !was ∧ getF new 0 1 = 1 then d.ctxEnableError f new (d.word (ctxAddr f 1)) (d.word (ctxAddr f 2)) else 0
    if e ≠ 0 then d.flwRefuse tblContext e f
    else okay ((d.setWord a new).when (w == 0 && was && getF new 0 1 == 0) (fun x => x.emptyContext f))

/-! The GFP stream (R347, R134) -/

/-- The Flow Engine's data path is not OFF (R374). -/
def Dev.flwRuns (d : Dev) : Bool := d.eff 0xC != 0

/-- The stream of group `g` restarts its delineation and reports LFD. -/
def Dev.gfpRestart (d : Dev) (g : Nat) : Dev :=
  let d1 := ((d.setGfpSieve g (d.gfpSieve g).restart).put (F.grpStSv.at 64 g) 0).put (F.grpStSlots.at 64 g) 0
  (d1.setGroup g { d1.group g with outAt := none }).groupBit g F.grpStLfd true

/-! Sink members (R340, R350 to R353, R355, R356) -/

def ctrlFixed : Nat := 0
def ctrlAdd : Nat := 1
def ctrlNorm : Nat := 2
def ctrlEos : Nat := 3
def ctrlIdle : Nat := 5
def ctrlDnu : Nat := 15

def Dev.memFailed (d : Dev) (i : Nat) : Bool := d.on (F.memStFailPtr.at 8 i) || d.on (F.memStFailSig.at 8 i)

def Dev.memDelay (d : Dev) (i : Nat) : Nat := d.get (F.memStDelay.at 8 i)

/-- The spread of the delays of some members, in frames. -/
def Dev.spread (d : Dev) (l : List Nat) : Nat :=
  match l with
  | [] => 0
  | x :: t => t.foldl (fun a i => Nat.max a (d.memDelay i)) (d.memDelay x) - t.foldl (fun a i => Nat.min a (d.memDelay i)) (d.memDelay x)

/-- `DD_MAX` in frames. -/
def Dev.ddMax (d : Dev) (g : Nat) : Nat := 8 * d.get (F.grpDdMax.at 32 g)

/-- Sink member `i` of group `g` is OK (R340, R351, R352, R355). -/
def Dev.sinkOk (d : Dev) (g i : Nat) : Bool :=
  let others := ((d.side g true).filter (fun j => d.on (F.memStInuse.at 8 j) && j != i)) ++ [i]
  !d.memFailed i && !d.on (F.memStLom.at 8 i)
    && (if d.grpLcas g then (d.member i).mfi.isSome && decide (d.spread others ≤ d.ddMax g) else !d.on (F.memStSqm.at 8 i))

/-- `STATE` and `INUSE` of a sink member. -/
def Dev.showSink (d : Dev) (g i : Nat) : Dev :=
  let ok := d.sinkOk g i
  let c := d.get (F.memStCtrl.at 8 i)
  let st := if ok then 1 else 2
  let d1 := (d.put (F.memStState.at 8 i) st).put (F.memStInuse.at 8 i)
    (bitOf (ok && (!d.grpLcas g || c == ctrlNorm || c == ctrlEos)))
  d1.when (d.grpLcas g && d.get (F.memStState.at 8 i) != st) (fun e => (e.raise F.flwEvtLcasChg).count 4 g 5 1)

/-- The conditions under which the stream of group `g` does not run (R347), among them that HBM3 holds no delay buffers (R512, R517). -/
def Dev.streamDown (d : Dev) (g : Nat) : Bool :=
  let l := d.side g true
  if d.grpMode g == modeVcat && !d.regionUp 1 then true
  else if d.grpLcas g then !l.any (fun i => d.on (F.memStInuse.at 8 i))
  else l.isEmpty || l.any (fun i => d.memFailed i)
    || (d.grpMode g == modeVcat && (d.on (F.grpStSqm.at 64 g) || d.on (F.grpStLom.at 64 g) || d.on (F.grpStLoa.at 64 g)))

/-- The stream of group `g` may be delineated: the Flow Engine is up and no condition of R347 holds. -/
def Dev.streamRuns (d : Dev) (g : Nat) : Bool := d.flwRuns && d.grpMode g != modeOff && !d.streamDown g

/-- R347: the stream restarts where it is in delineation and may not run. -/
def Dev.streamCheck (d : Dev) (g : Nat) : Dev :=
  d.when (d.streamDown g && d.gfpSieve g != (d.gfpSieve g).restart) (fun e => e.gfpRestart g)

/-- What follows when a sink member of group `g` may have changed. A member that comes into use with more than the alignment delay in a
running stream breaks the GFP frame in progress off (R353). LOA goes with its condition (R352). -/
def Dev.sinkUpdate (d : Dev) (g : Nat) : Dev :=
  let l := d.side g true
  let use (e : Dev) : List Nat := l.filter (fun i => e.on (F.memStInuse.at 8 i))
  let before := use d
  let d1 := l.foldl (fun e i => e.showSink g i) d
  let after := use d1
  let ack := (d.group g).rsAck != (d.grpLcas g && before != after)
  let d2 := l.foldl (fun x i => x.put (F.memStRsack.at 8 i) (bitOf ack)) (d1.setGroup g { d1.group g with rsAck := ack })
  let loa := d2.on (F.grpStLoa.at 64 g) && d2.grpMode g == modeVcat && !d2.grpLcas g && decide (d2.ddMax g < d2.spread l)
  let d3 := ((d2.groupBit g F.grpStSqm (l.any (fun i => d2.on (F.memStSqm.at 8 i)))).groupBit g F.grpStLom
    (l.any (fun i => d2.on (F.memStLom.at 8 i)))).groupBit g F.grpStLoa loa
  let d4 := (d3.put (F.grpStDdelay.at 64 g) (Nat.min 4095 (d3.spread l))).put (F.grpStSnkUse.at 64 g) after.length
  let late := after.foldl (fun a i => Nat.max a (d4.memDelay i)) 0
  let want := if d.grpLcas g then Nat.max late (8 * d.get (F.grpAlignMin.at 32 g)) else late
  let runs : Bool := d.grpLcas g && d.get (F.grpStSv.at 64 g) == 2
  let was := (d.group g).align
  let align := if runs then Nat.max want was else want
  (d4.setGroup g { d4.group g with align := align, broken := (d4.group g).broken || (runs && decide (was < align)) }).streamCheck g

/-! Source members (R351, R354) -/

def stIdle : Nat := 0
def stAdd : Nat := 1
def stNorm : Nat := 2
def stEos : Nat := 3
def stDnu : Nat := 4
def stRemove : Nat := 5
def stFixed : Nat := 6

/-- The SQ of an idle member: the greatest. -/
def idleSq (mtype : Nat) : Nat := if mtype ≤ 1 then 255 else 63

def ctrlOf (st : Nat) : Nat :=
  if st = stAdd then ctrlAdd else if st = stNorm then ctrlNorm else if st = stEos then ctrlEos else if st = stDnu then ctrlDnu
  else if st = stFixed then ctrlFixed else ctrlIdle

def Dev.memState (d : Dev) (i : Nat) : Nat := d.get (F.memStState.at 8 i)

/-- The state of member `i` of an LCAS group has changed from `was` (R376). -/
def Dev.lcasMoved (d : Dev) (i was : Nat) : Dev :=
  d.when (d.grpLcas (d.memGroup i) && d.memState i != was) (fun e => (e.raise F.flwEvtLcasChg).count 4 (d.memGroup i) 5 1)

/-- A source member is in a state, with the control word and the SQ that it sends; the mate learns what has changed (R491). -/
def Dev.setSource (d : Dev) (i st sq : Nat) : Dev :=
  ((((d.put (F.memStState.at 8 i) st).put (F.memStCtrl.at 8 i) (ctrlOf st)).put (F.memStSq.at 8 i) sq).lcasMoved i (d.memState i)).when
    (d.memState i != st || d.get (F.memStSq.at 8 i) != sq) (fun e => e.note 5 i)

/-- A state whose member carries payload. -/
def carries (st : Nat) : Bool := st == stNorm || st == stEos || st == stFixed

def Dev.showSourceUse (d : Dev) (g : Nat) : Dev :=
  d.put (F.grpStSrcUse.at 64 g) ((d.side g false).filter (fun i => (d.member i).pays)).length

/-- The state that a source member of an LCAS group goes to at a boundary, before the EOS is chosen (R354). -/
def Dev.sourceNext (d : Dev) (i : Nat) : Nat :=
  let st := d.memState i
  let act := d.on (F.mem1ActReq.at 8 i)
  let mst := (d.member i).mst
  if st = stIdle then (if act then stAdd else stIdle)
  else if st = stAdd then (if !act then stIdle else if mst = some true then stNorm else stAdd)
  else if st = stNorm ∨ st = stEos then (if !act then stRemove else if mst = some false then stDnu else stNorm)
  else if st = stDnu then (if !act then stRemove else if mst = some true then stNorm else stDnu)
  else stIdle

/-- Members put in the order of their SQ. -/
def Dev.bySq (d : Dev) (l : List Nat) : List Nat :=
  l.mergeSort (fun a b => decide (d.get (F.memStSq.at 8 a) ≤ d.get (F.memStSq.at 8 b)))

/-- R354: the payload of the source of LCAS group `g` in the multiframe that begins goes to the members that the boundary before put in use;
`SRC_USE` counts them. -/
def Dev.payloadSet (d : Dev) (g : Nat) : Dev :=
  ((d.side g false).foldl (fun e i => e.setMember i { e.member i with pays := carries (d.memState i) }) d).showSourceUse g

/-- R354: the source members of LCAS group `g` at the start of a multiframe. The members in use keep their order; those
that join follow, then those that wait in ADD. Their payload follows from the next multiframe. -/
def Dev.sourceBoundary (d : Dev) (g : Nat) : Dev :=
  let l := d.side g false
  let nexts := l.map (fun i => (i, d.sourceNext i))
  let is (s : Nat) (i : Nat) : Bool := nexts.any (fun x => x.1 == i && x.2 == s)
  let wasIn (i : Nat) : Bool := d.memState i == stNorm || d.memState i == stEos || d.memState i == stDnu
  let inUse := l.filter (fun i => is stNorm i || is stDnu i)
  let old := d.bySq (inUse.filter wasIn)
  let joins := d.bySq (inUse.filter (fun i => !wasIn i))
  let adds := l.filter (is stAdd)
  let waiting := d.bySq (adds.filter (fun i => d.memState i == stAdd)) ++ adds.filter (fun i => d.memState i != stAdd)
  let order := old ++ joins ++ waiting
  let eos := (order.filter (is stNorm)).getLast?
  let sq (i : Nat) : Nat := match order.findIdx? (fun x => x == i) with
    | some n => n
    | none => idleSq (d.grpMtype g)
  nexts.foldl (fun e x =>
    let st := if eos = some x.1 then stEos else x.2
    (e.setSource x.1 st (sq x.1)).when (st == stAdd && d.memState x.1 != stAdd || st == stIdle) (fun y =>
      y.setMember x.1 { y.member x.1 with mst := none })) d

/-! Members (R349) -/

/-- Why member `i` with words `w0` and `w1` may not be enabled; 0 where it may. -/
def Dev.memEnableError (d : Dev) (i : Nat) (w0 w1 : W32) : Nat :=
  let g := getF w1 0 14
  let sink := getF w0 1 1 == 1
  let port := getF w0 2 3
  let mode := d.grpMode g
  let mtype := d.grpMtype g
  let u := memberUnit (d.structWords (96 + port)) mtype (getF w0 5 6) (getF w0 11 2) (getF w0 13 7)
  let others := d.enabledMembers.filter (fun j => j != i && d.memSink j == sink)
  if mode = modeOff then errMode
  else if u.isNone then errStruct
  else if others.any (fun j => d.get (F.memFport.at 8 j) == port && d.unitOf (d.structWords (96 + port)) j == u) then errDuplicate
  else
    let side := others.filter (fun j => d.memGroup j == g)
    if mode = modeVcat ∧ !d.grpLcas g ∧ side.any (fun j => d.get (F.mem1Sq.at 8 j) == getF w1 16 8) then errDuplicate
    else if memberLimit mode mtype < side.length + 1 then errLimit
    else 0

/-- Member `i` starts (R354, R340). -/
def Dev.startMember (d : Dev) (i : Nat) : Dev :=
  let g := d.memGroup i
  let d1 := (d.setMember i {}).setWord (0x1A50_0000 + 8 * i) 0
  if d.memSink i then (d1.raise (F.memStFailPtr.at 8 i)).sinkUpdate g
  else if d.grpLcas g then ((d1.put (F.memStState.at 8 i) (d.memState i)).setSource i stIdle (idleSq (d.grpMtype g))).showSourceUse g
  else ((d1.setSource i stFixed (d.get (F.mem1Sq.at 8 i))).setMember i { pays := true }).showSourceUse g

/-- Member `i` of group `g` stops. -/
def Dev.stopMember (d : Dev) (i : Nat) : Dev :=
  let g := d.memGroup i
  let d1 := (((d.setMember i {}).setWord (0x1A50_0000 + 8 * i) 0).setWord (0x1A50_0004 + 8 * i) 0).lcasMoved i (d.memState i)
  if d.memSink i then d1.sinkUpdate g else d1.showSourceUse g

/-- A write of word `w` of member `i` (R349, R375). -/
def Dev.writeMember (d : Dev) (i w : Nat) (data : W32) : Dev × Resp :=
  let a := memAddr i w
  let old := d.word a
  let new := (d.regWrite a data).word a
  let was := d.on (F.memEn.at 8 i)
  let free : W32 := if w = 0 then 1 else 0x100_0000
  if was ∧ (old ^^^ new) &&& ~~~free ≠ 0 then d.flwRefuse tblMember errInUse i
  else
    let starts := w == 0 && !was && getF new 0 1 == 1
    let e := if starts then d.memEnableError i new (d.word (memAddr i 1)) else 0
    if e ≠ 0 then d.flwRefuse tblMember e i
    else okay (((d.setWord a new).when starts (fun x => x.startMember i)).when (w == 0 && was && getF new 0 1 == 0)
      (fun x => x.stopMember i))

/-! Groups and flow-port structure (R337, R348) -/

/-- A write of word `w` of group `g`. -/
def Dev.writeGroup (d : Dev) (g w : Nat) (data : W32) : Dev × Resp :=
  let a := grpAddr g w
  let old := d.word a
  let new := (d.regWrite a data).word a
  let mtype := getF new 3 3
  if w = 0 ∧ (old ^^^ new) &&& 0x3F ≠ 0 ∧ d.enabledMembers.any (fun i => d.memGroup i == g) then
    d.flwRefuse tblGroup errInUse g
  else if w = 0 ∧ (mtype = 7 ∨ (4 ≤ mtype ∧ getF new 0 2 = modeVcat)) then d.flwRefuse tblGroup errMode g
  else okay (d.setWord a new)

/-- A write of structure word `g` of flow port `p`. -/
def Dev.writeFpStr (d : Dev) (p g : Nat) (data : W32) : Dev × Resp :=
  let a := fpStrAddr p g
  let ws := d.structWords (96 + p)
  let new := (d.regWrite a data).word a
  let after := ws.set g new
  let named := d.enabledMembers.filter (fun i => d.get (F.memFport.at 8 i) == p)
  if d.on ⟨Reg.flwFportRet, p, 1⟩ then (d, .slverr)
  else if named.any (fun i => d.unitOf ws i != d.unitOf after i) then d.flwRefuse tblStructure errStruct (64 * p + g)
  else okay ((d.setWord a new).structureChange)

/-! Shares (R368) -/

def Dev.sumBytes (w : W32) : Nat := (List.range 4).foldl (fun a i => a + (byteOf w i).toNat) 0

/-- A write of a share word of lane `n`. -/
def Dev.writeShare (d : Dev) (n : Nat) (high : Bool) (data : W32) : Dev × Resp :=
  let a := Reg.psqShare + 8 * n + (if high then 4 else 0)
  let sum := d.get F.psqShareSumSum + Dev.sumBytes data - Dev.sumBytes (d.word a)
  if 2294 < sum then (d, .slverr) else okay ((d.setWord a data).put F.psqShareSumSum sum)

/-! Multiframe alignment (R227, R350) -/

/-- One more frame, whose indicator is `v` in a sequence of `m` values; none where it has none. -/
def Mf.frame (x : Mf) (m : Nat) (v : Option Nat) : Mf :=
  let follow := v.map (fun n => (n + 1) % m)
  if 2 ≤ x.bad then
    if v.isSome ∧ x.last.map (fun l => (l + 1) % m) = v then
      { next := follow, bad := 0, last := none, oom := false, frames := 0 }
    else { x with last := v, frames := if x.oom then Nat.min 8 (x.frames + 1) else 0 }
  else if v.isSome ∧ (x.next.isNone ∨ x.next = v) then
    { x with next := follow, bad := 0, frames := if x.next.isNone then x.frames else Nat.min 8 (x.frames + 1) }
  else if 1 ≤ x.bad then { next := none, bad := 2, last := v, oom := false, frames := 0 }
  else { x with next := x.next.map (fun e => (e + 1) % m), bad := 1, frames := Nat.min 8 (x.frames + 1) }

def Mf.step (x : Mf) (m v : Nat) : Mf := x.frame m (some v)

/-- LOM as the alignment leads to it. -/
def Mf.lom (x : Mf) (now : Bool) : Bool := if x.frames < 8 then now else x.oom

/-! GFP frames (R341 to R346) -/

/-- The mask of a core header. -/
def gfpMask : List Byte := [0xB6, 0xAB, 0x31, 0xE0]

/-- A core header without its mask (R128). -/
def gfpCore (bytes : List Byte) : List Byte := List.zipWith (fun a b => a ^^^ b) (bytes.take 4) gfpMask

/-- Two bytes and their CRC-16 check. -/
def pairOk (h : List Byte) : Bool := crc16 (h.take 2) == numOf ((h.drop 2).take 2)

/-- Bit `k` of four bytes is inverted, bit 0 the most significant of the first. -/
def flipIn (h : List Byte) (k : Nat) : List Byte :=
  h.mapIdx (fun i b => if i = k / 8 then b ^^^ BitVec.ofNat 8 (2 ^ (7 - k % 8)) else b)

/-- A two-byte field with its check, corrected in one bit where `corr` allows it; whether it was corrected. -/
def pairRead (corr : Bool) (h : List Byte) : Option (Nat × Bool) :=
  if pairOk h then some (numOf (h.take 2), false)
  else if corr then ((List.range 32).find? (fun k => pairOk (flipIn h k))).map (fun k => (numOf ((flipIn h k).take 2), true))
  else none

/-- One byte of the x^43 + 1 descrambler from the register of the last 43 bits received. -/
def gfpByte (r : Nat) (b : Byte) : Nat × Nat :=
  (List.range 8).foldl (fun x i =>
    let bit := b.toNat / 2 ^ (7 - i) % 2
    (x.1 * 2 + (bit + x.2 / 2 ^ 42) % 2, (x.2 * 2 + bit) % 2 ^ 43)) (0, r)

/-- Bytes descrambled, and the register after them. -/
def gfpDescramble : Nat → List Byte → List Byte × Nat
  | r, [] => ([], r)
  | r, b :: t =>
    let x := gfpByte r b
    let y := gfpDescramble x.2 t
    (BitVec.ofNat 8 x.1 :: y.1, y.2)

/-- The pFCS of G.7041: the CRC-32 of the payload, bit 7 of each byte first. -/
def gfpFcs (l : List Byte) : Nat := crcMsb 32 0x04C1_1DB7 0xFFFF_FFFF l ^^^ 0xFFFF_FFFF

/-- A frame counted in word 5 of the group's status (R343). -/
def Dev.gfpDiscard (d : Dev) (g : Nat) : Dev := (d.roll (F.grpStDiscarded.at 64 g) 1).count 4 g 1 1

/-- R344: the runs of frames whose EXI differs from the group's `EXT`, or matches it. -/
def Dev.exiSeen (d : Dev) (g : Nat) (matched : Bool) : Dev :=
  let x := d.group g
  d.setGroup g (if matched then { x with exmBad := 0, exmOk := Nat.min 3 (x.exmOk + 1) }
    else { x with exmBad := Nat.min 3 (x.exmBad + 1), exmOk := 0 })

/-- CSF of group `g` (R346). -/
def Dev.setCsf (d : Dev) (g : Nat) (v : Bool) : Dev :=
  if d.on (F.grpStCsf.at 64 g) = v then d else (d.groupBit g F.grpStCsf v).raise F.flwEvtCsfChg

/-- The context that a client frame of group `g` with channel `cid` goes to (R332). -/
def Dev.ctxFor (d : Dev) (g cid : Nat) : Option Nat :=
  d.contexts.find? (fun f => d.ctxGroup f == g && (d.get (F.ctxCid.at 16 f) == cid || !d.on (F.grpExt.at 32 g)))

/-- The packet of an accepted client frame joins the F2L half of its context's queue (R332, R343). -/
def Dev.gfpDeliver (d : Dev) (g cid : Nat) (data : List Byte) : Dev :=
  match d.ctxFor g cid with
  | none => d.gfpDiscard g
  | some f =>
    let q := d.flow f
    let p : Packet := { flow := f, cls := d.ctxClass f, lane := d.ctxLane f, data := data }
    if roomOf q.f2l + roomOf (d.inPacker f) + p.room ≤ d.halfSize f ∧ d.queueUp f then
      (((((((d.setFlow f { q with f2l := q.f2l ++ [p] }).bwGroup g true data.length).count 3 f 3 1).count 3 f 4 data.length).roll
        (F.grpStDelivered.at 64 g) 1).count 4 g 0 1).setCsf g false).showFill f
    else (d.dropCount f true 1).gfpDiscard g

/-- R343, R346: the payload area of a frame in SYNC, descrambled. -/
def Dev.gfpPayload (d : Dev) (g : Nat) (area : List Byte) : Dev :=
  let ext := d.on (F.grpExt.at 32 g)
  match pairRead true (area.take 4) with
  | none => d.gfpDiscard g
  | some t =>
    let pti := t.1 / 0x2000
    let pfi := t.1 / 0x1000 % 2
    let exi := t.1 / 0x100 % 16
    let upi := t.1 % 0x100
    let head := if exi = 1 then pairRead true ((area.drop 4).take 4) else some (0, false)
    match head with
    | none => d.gfpDiscard g
    | some e =>
      let matched := exi == bitOf ext
      let d1 := d.exiSeen g matched
      if !matched then d1.gfpDiscard g
      else if pti = 4 ∧ (upi = 1 ∨ upi = 2) then
        ((d1.setGroup g { d1.group g with csfAt := some d.now }).put (F.grpStCsfUpi.at 64 g) upi).setCsf g true
      else if pti ≠ 0 then d1.gfpDiscard g
      else if upi ≠ d.get (F.grpUpi.at 32 g) then d1.gfpDiscard g
      else
        let info := area.drop (if ext then 8 else 4)
        let data := info.take (info.length - 4 * pfi)
        if pfi = 1 ∧ gfpFcs data ≠ numOf (info.drop (info.length - 4)) then d1.gfpDiscard g
        else if data.length = 0 ∨ 9600 < data.length then d1.gfpDiscard g
        else d1.gfpDeliver g (e.1 / 0x100) data

/-- R131: the frame of a TRIAL slot is an idle frame, or its tHEC checks. -/
def gfpTrialOk (pli : Nat) (area : List Byte) : Bool := pli == 0 || (decide (4 ≤ pli) && pairOk area)

/-- A frame of the stream of group `g`, as slot `i` delimits it; `bytes` begin with the core header. A frame of a TRIAL slot whose core header
fails makes no comparison (R131; DESIGN CHOICE, notes/assumptions/186). -/
def Dev.gfpFrame (d : Dev) (g i : Nat) (bytes : List Byte) : Dev :=
  if !d.streamRuns g then d else
  let v := d.gfpSieve g
  let x := v.slot i
  let core := gfpCore bytes
  let act := x.st == .active && !x.takeover
  let plain := gfpDescramble x.scr (bytes.drop 4)
  let v1 := v.setSlot i { x with scr := plain.2 }
  match pairRead (act && v.gfpCorr) core with
  | none => if act then d.setGfpSieve g { v1 with errors := v1.errors + 1 } else d.setGfpSieve g v1
  | some h =>
    let area := plain.1.take h.1
    if act then
      let d1 := (d.setGfpSieve g { v1 with errors := 0 }).when h.2 (fun e =>
        (e.roll (F.grpStCorrected.at 64 g) 1).count 4 g 2 1)
      if (d1.group g).broken then (d1.setGroup g { d1.group g with broken := false }).gfpDiscard g
      else if h.1 = 0 then d1 else if h.1 < 4 then d1.gfpDiscard g else d1.gfpPayload g area
    else if x.member ∧ x.passed = none then d.applyGfp g (v1.compare v1.gfpBg i (gfpTrialOk h.1 area) 3 1)
    else d.setGfpSieve g v1

end Sys2Proof.Machine
end

