-- ==== Sys2Proof/Machine/LogOps.lean ====
section
/-! DEFINITION. The device with its byte memories, and what several units share of them: poisoned words (R508), and the event log (R584 to R586). -/

namespace Sys2Proof.Machine

/-- The device with its memories: what a command changes of a state whose queue it leaves alone. -/
structure Chip where
  dev : Dev
  mem : List Host.Cell
  flash : List Host.Cell

/-- A state changed by `f`, with its queue kept. -/
def State.run (s : State) (f : Chip → Chip) : State :=
  let c := f { dev := s.dev, mem := s.mem, flash := s.flash }
  { s with dev := c.dev, mem := c.mem, flash := c.flash }

def Chip.on (c : Chip) (f : Dev → Dev) : Chip := { c with dev := f c.dev }

def Chip.when (c : Chip) (b : Bool) (f : Chip → Chip) : Chip := if b then f c else c

/-- A write of a register by master `m` at `a`, whose effect may reach the memories. -/
def Chip.write (c : Chip) (m a : Nat) (op : Chip → Chip × Resp) : Chip :=
  match c.dev.grant m a true with
  | .ok =>
    let r := op c
    { r.1 with dev := ((r.1.dev.when (r.2 == .okay) (fun e => e.noteWrite a)).reply m { resp := r.2 }).fecSeen m a true r.2 1 }
  | .never => c
  | g => { c with dev := (c.dev.refuse m g []).fecSeen m a true .slverr 1 }

/-! On-chip SRAM -/

/-- R508: the 64-bit words that `n` bytes written from `a` up cover whole are no longer poisoned. -/
def Dev.unpoison (d : Dev) (a n : Nat) : Dev :=
  let first := (a + 7) / 8
  let count := (a + n) / 8 - first
  { d with sram := { d.sram with poison := d.sram.poison.filter (fun p =>
      !(List.range count).any (fun i => d.sramPlace (8 * (first + i)) == p)) } }

/-- Bytes written into the processor SRAM. -/
def Chip.store (c : Chip) (a : Nat) (l : List Byte) : Chip :=
  { c with dev := c.dev.unpoison a l.length, mem := memWrite c.mem a l }

/-! The event log (R584 to R586) -/

def logTail (seq : Nat) : Nat := 0x043F_C000 + 64 * (seq % 256)

def Dev.logBase (d : Dev) : Nat := d.get F.mgtLogBaseLoBase + d.get F.mgtLogBaseHiBase * 0x1_0000_0000

def Dev.logRing (d : Dev) (seq : Nat) : Nat := d.logBase + 64 * (seq % 4194304)

/-- An entry reaches the ring (R585); a lost region has no ring (R517). -/
def Dev.ringUp (d : Dev) (seq : Nat) : Bool := d.hbmAnswers (d.logRing seq)

/-- An entry is written by page `p`; its severity, its event code, `mtime` and its data are free values (R584). -/
def Chip.log (c : Chip) (p : Nat) (security : Bool) : Chip :=
  let d := c.dev
  let seq := d.get F.mgtLogSeqSeq
  let x := d.freeWord
  let time := d.rootValid
  let w1 := p + x.1.toNat % 8 * 0x100 + x.1.toNat / 0x1_0000 * 0x1_0000
  let tb := if time then d.timeBase else 0
  let w5 := d.mode + d.shedLevel * 8 + bitOf security * 64
  let y := x.2.freeWord
  let z := (List.range 10).foldl (fun (a : List W32 × Dev) _ =>
    let q := a.2.freeWord
    (a.1 ++ [q.1], q.2)) ([], y.2)
  let words := [BitVec.ofNat 32 seq, BitVec.ofNat 32 w1, BitVec.ofNat 32 tb, BitVec.ofNat 32 (tb / 0x1_0000_0000), y.1,
    BitVec.ofNat 32 w5] ++ z.1
  let bytes := words.flatMap wordBytes
  let c1 := ({ c with dev := z.2.roll F.mgtLogSeqSeq 1 } : Chip).store (logTail seq) bytes
  if d.ringUp seq then { c1 with mem := memWrite c1.mem (d.logRing seq) bytes } else c1

/-- R585: the entries of the tail are copied to the ring when training ends. -/
def Chip.copyLog (c : Chip) : Chip :=
  let next := c.dev.get F.mgtLogSeqSeq
  let n := Nat.min next 256
  (List.range n).foldl (fun (x : Chip) i =>
    let seq := next - n + i
    if x.dev.ringUp seq then { x with mem := memCopy x.mem (logTail seq) (x.dev.logRing seq) 64 } else x) c

end Sys2Proof.Machine
end

