-- ==== Sys2Proof/Machine/MemUnits.lean ====
section
/-! DEFINITION. Errors and retirement of on-chip SRAM and HBM3 (R505 to R509, R513 to R517, R642 to R644). -/

namespace Sys2Proof.Machine

/-! SRAM -/

/-- R54, R509, R517: the contexts of some slices are absent. -/
def Dev.retireSlices (d : Dev) (l : List Nat) : Dev :=
  (l.foldl (fun (e : Dev) i => (e.raise ⟨Reg.flwSliceRet, i % 16, 1⟩).lower ⟨Reg.devCapFlow, i % 16, 1⟩) d).permanent 0xC

/-- R507, R509: the retirement of sub-bank `sb` starts, or is refused for want of a spare. -/
def Chip.retireSubbank (c : Chip) (sb : Nat) : Chip :=
  let d := c.dev
  if d.sram.retired.contains sb then c
  else if d.sram.copy.isSome then c.on (fun d => d.sramDue sb)
  else if d.get F.memStatSpareFree = 0 then
    let d1 := ((d.sramDue sb).raise F.memEvtSpareOut).permanent 3
    let slice := d.contextSlice sb % 16
    if d.subbankPool sb = poolContexts ∧ !d.on ⟨Reg.flwSliceRet, slice, 1⟩ then
      ({ c with dev := (d1.retireSlices [slice]).capCommit d } : Chip).log 0xC false
    else { c with dev := d1.capCommit d }
  else
    let d1 : Dev := { d with sram := { d.sram with copy := some (sb, false), due := d.sram.due.filter (fun x => x != sb) } }
    { c with dev := (d1.raise F.memStatCopying).ledger 3 sb 1 ledgerRunning 0 }

/-- R507: the replacement serves the addresses of sub-bank `sb` from now on. -/
def Chip.switchSubbank (c : Chip) (sb : Nat) : Chip :=
  let d := c.dev
  let d1 := d.replace sb
  let d2 := (((d1.lower F.memStatCopying).put F.memStatSpareFree (d1.get F.memStatSpareFree - 1)).put F.memRetLastRetired
    sb).put F.memRetLastSpare (d.replacement sb)
  let d3 := (((d2.put F.memRetCountCount (d2.get F.memRetCountCount + 1)).raise F.memEvtRetire).permanent 3).ledger 3 sb 2
    ledgerDone 2
  ({ c with dev := d3.capCommit d } : Chip).log 3 false

/-- R508: the copy of the sub-bank in retirement is complete; its uncorrectable words are poisoned in the replacement. -/
def Chip.copyDone (c : Chip) (bad : List Nat) : Chip :=
  match c.dev.sram.copy with
  | some (sb, false) =>
    let d := bad.foldl (fun (e : Dev) w => e.sramSeen (sb, w) (.uncorrectable 0)) c.dev
    let d1 : Dev := { d with sram := { d.sram with
      copy := some (sb, true), due := d.sram.due.filter (fun x => x != sb),
      poison := (bad.map (fun w => (sb, w)) ++ d.sram.poison).eraseDups } }
    let c1 : Chip := { c with dev := d1 }
    if !d1.rootValid ∧ !poolTwinPans (d1.subbankPool sb) then c1.switchSubbank sb else c1
  | _ => c

/-- The switch edge of R507: an `FP8K` edge after the copy. -/
def Chip.switchAtEdge (c : Chip) : Chip :=
  match c.dev.sram.copy with
  | some (sb, true) => c.switchSubbank sb
  | _ => c

/-! HBM3 -/

/-- R516: the users of a unit whose contents are lost proceed. -/
def Chip.unitUsers (c : Chip) (u : Nat) : Chip :=
  let d := c.dev
  if u < 8 then c
  else if u < 16 then
    let members := d.enabledMembers.filter (fun i => d.memSink i && 8 + Config.delayUnit i % 8 == u)
    let groups := (members.map d.memGroup).eraseDups.filter (fun g => d.grpMode g == modeVcat)
    let d1 := members.foldl (fun (x : Dev) i => x.setMember i { x.member i with mfi := none, buf := [] }) d
    let one (e : Dev) (g : Nat) : Dev :=
      if e.grpLcas g then e.sinkUpdate g else (e.groupBit g F.grpStLoa true).streamCheck g
    { c with dev := groups.foldl one d1 }
  else if u < 24 then
    let lost := d.contexts.filter (fun f => 16 + d.get (F.ctxQbase.at 16 f) / 8192 % 8 == u)
    { c with dev := lost.foldl Dev.emptyContext d }
  else if u < 40 then { c with dev := { d with ladle := { d.ladle with wiped := true } } }
  else if u < 44 then { c with dev := { d with ladle := { d.ladle with gap := true } } }
  else if u < 46 then
    let pairs := (List.range 96).filter (fun p => d.isSystem p && d.on (F.laneTuStrEn.lane p) && 44 + Config.mergeUnit p % 2 == u)
    { c with dev := pairs.foldl (fun (e : Dev) p =>
        (((e.copyReset p).copyReset (e.get (F.laneTuStrPartner.lane p))).put (F.laneTuStrstatState.lane p) strDown).aisFrom p) d }
  else if u = 46 then { c with dev := d.when (d.role == roleStandby) Dev.enterRejoin }
  else if u = 48 then
    match d.mgt.fw with
    | some (2, _) =>
      let d1 : Dev := { d with mgt := { d.mgt with fw := none } }
      { c with dev := (d1.put F.mgtFwStatResult 9).raise F.mgtEvtFwDone }
    | _ => c
  else c

/-- The base registers of a region that is lost read 0 (R517); that of the log ring with its own unit (R604). -/
def Dev.loseBase (d : Dev) (u : Nat) : Dev :=
  let zero (lo hi : Field) (e : Dev) : Dev := (e.put lo 0).put hi 0
  if u < 8 then zero F.grmLibBaseLoBase F.grmLibBaseHiBase d
  else if u < 24 then d
  else if u < 40 then (zero F.pmCntBaseLoBase F.pmCntBaseHiBase d).when (u == 39) (fun e => e.put F.mgtLogBaseHiBase 0)
  else if u < 44 then zero F.pmDumpBaseLoBase F.pmDumpBaseHiBase d
  else if u = 46 ∨ u = 47 then zero F.pmTraceBaseLoBase F.pmTraceBaseHiBase d
  else d

/-- The highest whole reserve unit that is backed (R516). -/
def Dev.spareUnit (d : Dev) : Option Nat := ((List.range 15).map (fun i => 63 - i)).find? (fun v => d.hbmBacked v)

def Dev.unback (d : Dev) (u : Nat) : Dev := d.lower (F.hbmUnitBacked.at 4 u)

/-- R516, R517: the pseudo-channel that backs unit `u` is lost to it. -/
def Chip.failUnit (c : Chip) (u : Nat) : Chip :=
  let d := c.dev
  let free := d.get F.hbmStatReserveFree
  if 49 ≤ u then { c with dev := (d.unback u).put F.hbmStatReserveFree (free - 1), mem := memClear c.mem (hbmUnitAddr u) hbmUnitSize }
  else
    let m := memClear c.mem (hbmUnitAddr u) hbmUnitSize
    match d.spareUnit with
    | some v =>
      let d1 := ((d.put (F.hbmUnitPc.at 4 u) (d.unitPc v)).unback v).put F.hbmStatReserveFree (free - 1)
      ({ c with dev := d1, mem := memClear m (hbmUnitAddr v) hbmUnitSize } : Chip).unitUsers u
    | none =>
      let d1 := ((d.unback u).raise F.hbmEvtLost).loseBase u
      let d2 := d1.when (decide (16 ≤ u) && decide (u < 24)) (fun e => e.retireSlices [2 * (u - 16), 2 * (u - 16) + 1])
      ({ c with dev := d2, mem := m } : Chip).unitUsers u

/-- R516, R643, R644: pseudo-channel `pc` is retired. Before training it backs no unit. -/
def Chip.retirePc (c : Chip) (pc : Nat) : Chip :=
  let d := c.dev
  if d.on (pcRetired pc) then c
  else
    let d1 := (((d.raise (pcRetired pc)).lower (pcPresent pc)).raise F.hbmEvtRetire).permanent 4
    let d2 : Dev := { d1 with sram := { d1.sram with pcDue := d1.sram.pcDue.filter (fun x => x != pc) } }
    let c1 : Chip := { c with dev := d2 }
    let c2 := match (List.range 64).find? (fun u => d2.hbmBacked u && d2.unitPc u == pc) with
      | some u => c1.failUnit u
      | none => c1
    c2.on (fun e => e.ledger 4 pc 2 ledgerDone 2)

/-- R644: a pseudo-channel's retirement as an event of its own, logged. -/
def Chip.pcEvent (c : Chip) (pc : Nat) : Chip :=
  if c.dev.on (pcRetired pc) then c
  else ((c.retirePc pc).on (fun e => e.capCommit c.dev)).log 4 false

/-- R512, R514, R516: training ends: each unit is backed by its own pseudo-channel; those that failed, and those retired before,
are replaced before first use. -/
def Chip.trained (c : Chip) (failed : List Nat) : Chip :=
  let old := c.dev
  let on (d : Dev) : Dev :=
    ((d.each 64 (fun e u => (e.put (F.hbmUnitPc.at 4 u) u).raise (F.hbmUnitBacked.at 4 u))).put F.hbmStatReserveFree 15
      |>.raise F.hbmStatTrained0).raise F.hbmStatTrained1
  let before := (List.range 64).filter (fun pc => old.on (pcRetired pc))
  let c1 := before.foldl (fun (x : Chip) pc => x.failUnit
    (((List.range 64).find? (fun u => x.dev.hbmBacked u && x.dev.unitPc u == pc)).getD pc)) (c.on on)
  let c2 := failed.foldl Chip.retirePc c1
  let c3 := c2.when (failed != []) (fun x => x.on (fun d => d.raise F.hbmEvtTrainFail))
  let c4 := c3.when (old.get (F.hdrReqState.page 4) != 0) (fun x => x.on (fun d => d.putAll ((d.bitsUp 4))))
  ((failed.foldl (fun (x : Chip) _ => x.log 4 false) (c4.on (fun d => d.capCommit old)))).copyLog

end Sys2Proof.Machine
end

