-- ==== Sys2Proof/Machine/FlowSource.lean ====
section
/-! DEFINITION. The source side of the Flow Engine: GFP-F frames (R341, R342, R345, R358), the payload of the members (R338, R354), and the
multiframe and control packets of VCAT (R339, R350, R351, R354, R355). -/

namespace Sys2Proof.Machine

/-! GFP-F frames (R341, R342) -/

/-- A two-byte field with its check. -/
def pairBytes (v : Nat) : List Byte := bytesOf 2 v ++ bytesOf 2 (crc16 (bytesOf 2 v))

/-- A core header as it is sent, under its mask. -/
def gfpCoreSent (pli : Nat) : List Byte := gfpCore (pairBytes pli)

/-- One byte of the x^43 + 1 scrambler, from the register of the last 43 bits sent. -/
def gfpScrByte (r : Nat) (b : Byte) : Nat × Nat :=
  (List.range 8).foldl (fun x i =>
    let bit := (b.toNat / 2 ^ (7 - i) + x.2 / 2 ^ 42) % 2
    (x.1 * 2 + bit, (x.2 * 2 + bit) % 2 ^ 43)) (0, r)

/-- Bytes scrambled, and the register after them. -/
def gfpScramble : Nat → List Byte → List Byte × Nat
  | r, [] => ([], r)
  | r, b :: t =>
    let x := gfpScrByte r b
    let y := gfpScramble x.2 t
    (BitVec.ofNat 8 x.1 :: y.1, y.2)

/-- The payload area of a frame of group `g`: type field, extension header, client data and pFCS. -/
def Dev.gfpArea (d : Dev) (g pti upi : Nat) (cid : Byte) (pfcs : Bool) (data : List Byte) : List Byte :=
  let ext := d.get (F.grpExt.at 32 g)
  pairBytes (pti * 0x2000 + bitOf pfcs * 0x1000 + ext * 0x100 + upi)
    ++ (if ext = 1 then pairBytes (cid.toNat * 0x100) else [])
    ++ data ++ (if pfcs then bytesOf 4 (gfpFcs data) else [])

/-- The client data frame of a packet of flow `f` (R342). -/
def Dev.clientArea (d : Dev) (g f : Nat) (data : List Byte) : List Byte :=
  d.gfpArea g 0 (d.get (F.grpUpi.at 32 g)) (BitVec.ofNat 8 (d.get (F.ctxCid.at 16 f))) (d.on (F.grpPfcs.at 32 g)) data

/-- A CSF frame (R345). The CID of its extension header is a free value. -/
def Dev.csfArea (d : Dev) (g upi : Nat) : List Byte := d.gfpArea g 4 upi (Config.csfCid g) false []

/-! The stream of a group (R345, R358) -/

/-- The flow of `fs` that is served next after `last`, round-robin by number (R358). -/
def nextFlow (fs : List Nat) (last : Nat) : Option Nat :=
  match fs.find? (fun f => decide (last < f)) with
  | some f => some f
  | none => fs.head?

/-- R358: the flow of group `g` that is served next: the highest class first, round-robin within it. -/
def Dev.sourceFlow (d : Dev) (g : Nat) : Option (Nat × Nat) :=
  let ready := d.contexts.filter (fun f => d.ctxGroup f == g && !(d.flow f).l2f.isEmpty)
  ((List.range 8).reverse).findSome? (fun c =>
    (nextFlow (ready.filter (fun f => d.ctxClass f == c)) (Store.get (fun _ => 0) (d.group g).served c)).map (fun f => (f, c)))

/-- A frame of group `g` is put after the bytes `out` of its stream. -/
def Dev.gfpPut (d : Dev) (g : Nat) (out area : List Byte) : Dev × List Byte :=
  let x := d.group g
  let s := gfpScramble x.scr area
  (d.setGroup g { x with scr := s.2 }, out ++ gfpCoreSent area.length ++ s.1)

/-- The next frame of group `g` starts while its stream is shorter than `room`: that of the next packet, or a CSF frame in the place of an
idle frame. -/
def Dev.sourceFrame (d : Dev) (g room : Nat) (out : List Byte) : Dev × List Byte :=
  if room ≤ out.length then (d, out)
  else
    match d.sourceFlow g with
    | none =>
      match (d.group g).csfWait with
      | some upi => (d.setGroup g { d.group g with csfWait := none }).gfpPut g out (d.csfArea g upi)
      | none => (d, out)
    | some (f, c) =>
      match (d.flow f).l2f with
      | [] => (d, out)
      | p :: rest =>
        let d1 := (d.setFlow f { d.flow f with l2f := rest }).showFill f
        let x := d1.group g
        ((d1.setGroup g { x with served := Store.set (fun _ => 0) x.served c f }).bwGroup g false p.data.length).gfpPut g out
          (d.clientArea g f p.data)

/-- The bytes of the stream of group `g` in a frame that holds `room` of them; idle frames fill it. -/
def Dev.sourceStream (d : Dev) (g room : Nat) : Dev × List Byte :=
  let packets := (d.contexts.filter (fun f => d.ctxGroup f == g)).foldl (fun a f => a + (d.flow f).l2f.length) 0
  let r := (List.range (packets + 1)).foldl (fun (x : Dev × List Byte) _ => x.1.sourceFrame g room x.2) (d, (d.group g).rest)
  let idle := ((List.range ((room - r.2.length + 3) / 4)).map (fun _ => gfpCoreSent 0)).flatten
  let all := r.2 ++ idle
  (r.1.setGroup g { r.1.group g with rest := all.drop room }, all.take room)

/-! Members (R338, R354) -/

/-- The places of the VC of a unit before the first of them that follows the pointer. -/
def UnitKind.lead (k : UnitKind) : Nat :=
  match k with
  | .tu3 => 425
  | .au3 => 261
  | .tu12 => 47
  | .tu11 => 35
  | _ => 783 * k.augs

/-- Place `o` of a VC carries payload: it is no overhead and no fixed stuff (the table before R348). -/
def UnitKind.isPayload (k : UnitKind) (o : Nat) : Bool :=
  k.inVc o && (k.pohRow o).isNone && (decide (k.step < 12) || decide (k.augs ≤ o % k.vcRow))

/-- The payload slots of a unit in frame `mf` of the multiframe, with the fabric pointer at 0. -/
def FabricUnit.payloadSlots (u : FabricUnit) (mf : Nat) : List Nat :=
  let k := u.kind
  let vcs := ((u.layout mf).filter (fun x => x.2 == .vc)).map (fun x => x.1)
  let base := if k.isTu1x then mf * (k.vcLen / 4) else 0
  ((vcs.mapIdx (fun i s => (s, (base + i + k.vcLen - k.lead) % k.vcLen))).filter (fun x => k.isPayload x.2)).map (fun x => x.1)

/-- The source members of group `g` that carry payload, in the order of their SQ, with their units. -/
def Dev.payloadMembers (d : Dev) (g : Nat) : List (Nat × FabricUnit) :=
  (d.bySq ((d.side g false).filter (fun i => (d.member i).pays))).filterMap (fun i =>
    (d.unitOf (d.structWords (96 + d.get (F.memFport.at 8 i))) i).map (fun u => (96 + d.get (F.memFport.at 8 i), u)))

/-- Frames of a multiframe: 2 ms for higher order, 16 ms for lower order (R350). -/
def multiframe (mtype : Nat) : Nat := if mtype = 2 ∨ mtype = 3 then 128 else 16

/-- R350, R354: the next frame of the source of group `g` begins; at the start of a multiframe its payload follows the set of members of the
boundary before, and a boundary is due. -/
def Dev.sourceFrameStart (d : Dev) (g : Nat) : Dev :=
  let m := ((d.group g).mfi + 1) % 4096
  let first := d.grpMode g == modeVcat && m % multiframe (d.grpMtype g) == 0
  (d.setGroup g { d.group g with mfi := m, bound := first }).when (first && d.grpLcas g) (fun e => e.payloadSet g)

/-- R338, R342, R358: the source of group `g` fills the frame that begins, at place `mf` of the multiframe: byte after byte over its
members. -/
def Dev.sourceFill (mf : Nat) (d0 : Dev) (g : Nat) : Dev :=
  let d := d0.sourceFrameStart g
  let ms := (d.payloadMembers g).map (fun x => (x.1, x.2.payloadSlots mf))
  let n := ms.length
  let r := d.sourceStream g (ms.foldl (fun a x => a + x.2.length) 0)
  (ms.zipIdx).foldl (fun e m =>
    e.when (e.inFill.live.contains m.1.1) (fun y =>
      y.ingressWrite m.1.1 (m.1.2.mapIdx (fun j s => (s, r.2.getD (j * n + m.2) 0))))) r.1

/-! Control packets (R350, R351, R354, R355) -/

/-- The MST of eight SQ values from `base` up: 1, FAIL, unless a sink member with that SQ is OK (R355). -/
def Dev.mstBits (d : Dev) (g base : Nat) : Nat :=
  let ok (sq : Nat) : Bool := (d.side g true).any (fun j => d.get (F.memStSq.at 8 j) == sq && d.memState j == 1)
  (List.range 8).foldl (fun a j => a + bitOf (!ok (base + j)) * 2 ^ j) 0

/-- The control packet that source member `i` sends in multiframe `m`; the LCAS fields of a non-LCAS group are 0. -/
def Dev.packetOf (d : Dev) (i m : Nat) : ControlPacket :=
  let g := d.memGroup i
  let lcas := d.grpLcas g
  let base := 8 * (m % (if d.grpMtype g ≤ 1 then 32 else 8))
  { ctrl := d.get (F.memStCtrl.at 8 i), sq := d.get (F.memStSq.at 8 i), base := base,
    mst := if lcas then d.mstBits g base else 0, rsAck := lcas && (d.group g).rsAck }

/-- Bits in the order in which they are sent, most significant first. -/
def bitsMsb (n v : Nat) : List Nat := (List.range n).map (fun i => v / 2 ^ (n - 1 - i) % 2)
def ofBits (l : List Nat) : Nat := l.foldl (fun a b => a * 2 + b) 0

/-- The MST in the order in which it is sent, the lowest SQ first. -/
def mstSent (v : Nat) : List Nat := (List.range 8).map (fun j => v / 2 ^ j % 2)

/-- A CRC of `w` bits over bits. -/
def crcBits (w poly : Nat) (l : List Nat) : Nat := l.foldl (fun r b => crcStep w poly (r ^^^ (b * 2 ^ (w - 1)))) 0

/-- The H4[7:4] of a multiframe of a higher-order member, by MFI-1 (PRESUMED, notes/assumptions/139): MFI-2, control word, GID, CRC-8, MST,
RS-Ack and SQ. -/
def hoPacket (c : ControlPacket) (mfi2 gid : Nat) : List Nat :=
  let mst := ofBits (mstSent c.mst)
  let low := [mfi2 / 16, mfi2 % 16, c.ctrl, gid, 0, 0]
  let high := [mst / 16, mst % 16, bitOf c.rsAck, 0, 0, 0, c.sq / 16, c.sq % 16]
  let crc := crcBits 8 7 ((low ++ high).flatMap (bitsMsb 4))
  low ++ [crc / 16, crc % 16] ++ high

/-- What such a multiframe says, with its MFI-2. -/
def hoRead (l : List Nat) : ControlPacket × Nat :=
  let at' (i : Nat) : Nat := l.getD i 0
  let mfi2 := at' 0 * 16 + at' 1
  ({ crcOk := crcBits 8 7 ((l.take 6 ++ l.drop 8).flatMap (bitsMsb 4)) == at' 6 * 16 + at' 7, ctrl := at' 2,
     sq := at' 14 * 16 + at' 15, base := 8 * (mfi2 % 32),
     mst := ofBits ((bitsMsb 8 (at' 8 * 16 + at' 9)).reverse), rsAck := at' 10 % 2 == 1 }, mfi2)

/-- The 32 bits of a lower-order control packet (PRESUMED, notes/assumptions/139): frame count, SQ, control word, GID, RS-Ack, MST and
CRC-3. -/
def loPacket (c : ControlPacket) (count gid : Nat) : List Nat :=
  let l := bitsMsb 5 count ++ bitsMsb 6 c.sq ++ bitsMsb 4 c.ctrl ++ [gid] ++ bitsMsb 4 0 ++ [bitOf c.rsAck] ++ mstSent c.mst
  l ++ bitsMsb 3 (crcBits 3 3 l)

def loRead (l : List Nat) : ControlPacket × Nat :=
  let part (i n : Nat) : List Nat := (l.drop i).take n
  let count := ofBits (part 0 5)
  ({ crcOk := crcBits 3 3 (part 0 29) == ofBits (part 29 3), ctrl := ofBits (part 11 4), sq := ofBits (part 5 6),
     base := 8 * (count % 8), mst := ofBits ((part 21 8).reverse), rsAck := l.getD 20 0 == 1 }, count)

/-- The 32 bits of the extended signal label multiframe (PRESUMED, notes/assumptions/139): the alignment signal 0b01111111110, then the
label. -/
def eslMark : Nat := 0x3FE
def eslBits (sig : Nat) : List Nat := bitsMsb 11 eslMark ++ bitsMsb 8 sig ++ bitsMsb 13 0

/-- H4 of source member `i` in the frame in progress (R339). -/
def Dev.memberH4 (d : Dev) (i : Nat) : Byte :=
  let g := d.memGroup i
  let m := (d.group g).mfi
  if d.grpMode g = modeSingle then 0
  else BitVec.ofNat 8 ((hoPacket (d.packetOf i (m / 16)) (m / 16) (bitOf (Config.gid g (m / 16)))).getD (m % 16) 0 * 16 + m % 16)

/-- K4 of source member `i` in the multiframe in progress (R339). -/
def Dev.memberK4 (d : Dev) (i : Nat) : Byte :=
  let g := d.memGroup i
  let m := (d.group g).mfi
  let place := m / 4 % 32
  let label := (eslBits (d.get (F.grpTxSig.at 32 g))).getD place 0
  let vcat := if d.grpMode g = modeSingle then 0
    else (loPacket (d.packetOf i (m / 128)) (m / 128) (bitOf (Config.gid g (m / 128)))).getD place 0
  BitVec.ofNat 8 (label * 128 + vcat * 64)

/-- The overhead that source member `i` sends (R339). -/
def Dev.memberGen (d : Dev) (i : Nat) : PohGen :=
  .flow (d.memberH4 i) (d.memberK4 i) (d.get (F.grpTxSig.at 32 (d.memGroup i)))

end Sys2Proof.Machine
end

