-- ==== Sys2Proof/Machine/PathOps.lean ====
section
/-! DEFINITION. Path points (05_pointers_and_containers.md): which interpreters run, what a pointer word is, the status a
point shows, and what follows of it. -/

namespace Sys2Proof.Machine

/-! Structure -/

/-- The kind of lower-order point `l` in a structure word; `none` for an index the structure does not use (R191, R192). -/
def loKind (w : W32) (l : Nat) : Option UnitKind :=
  let k := l / 28
  let m := l % 28 / 4
  if getF w 3 1 = 0 ∨ !(getF w 0 3 == kindAu4 || getF w 0 3 == kindAu3x3) then none
  else if getF w 0 3 = kindAu4 ∧ getF w (4 + k) 1 = 1 then (if l % 28 = 0 then some .tu3 else none)
  else if getF w (8 + 7 * k + m) 1 = 1 then (if l % 4 = 3 then none else some .tu12)
  else some .tu11

/-- Which interpreter runs at a point: none (IDLE), an interpreter, or that of a member, `some true` (R189, R190, R200,
R236). -/
def Dev.interpreterOf (d : Dev) (k : Nat) : Option Bool :=
  let n := laneOf k
  let g := augOf k
  let ws := d.structWords n
  let w := ws.getD g 0
  let kind := getF w 0 3
  if d.naug n ≤ g ∨ kind = 0 ∨ structBad ws g then none
  else if isHo k then
    if kind = kindMember then
      match headOf ws g with
      | some hd => if subOf k = 0 ∧ d.monEn (3 * (64 * n + hd)) then some true else none
      | none => none
    else if kind ≠ kindAu3x3 ∧ subOf k ≠ 0 then none
    else if d.monEn k then some false else none
  else if (loKind w (subOf k)).isSome ∧ d.monEn k then some false
  else none

/-- The kind of container at a point. -/
def Dev.pointUnit (d : Dev) (k : Nat) : UnitKind :=
  if isHo k then
    match getF (d.pathStruct (hoOf k)) 0 3 with
    | 2 => .au4c4
    | 3 => .au4c16
    | 4 => .au4c64
    | 6 => .au3
    | _ => .au4
  else (loKind (d.pathStruct (hoOf k)) (subOf k)).getD .tu11

/-- The greatest pointer value at a point (R185). -/
def Dev.pointerTop (d : Dev) (k : Nat) : Nat :=
  (d.pointUnit k).values - 1

/-- The point is structured (R231). -/
def Dev.structured (d : Dev) (h : Nat) : Bool :=
  let w := d.pathStruct h
  getF w 3 1 == 1 && (getF w 0 3 == kindAu4 || getF w 0 3 == kindAu3x3)

/-- The Container Processor realigns the point: a transparent container or a TU of a LINE lane (R208, R209, R213). -/
def Dev.realigned (d : Dev) (k : Nat) : Bool := (d.lane (laneOf k)).isLine && !(isHo k && d.structured (hoOf k))

/-- The container of point `k` in its lane's frame: its unit, or the structured container around units; none for a point that has none. -/
def Dev.areaOf (d : Dev) (k : Nat) : Option FabricUnit :=
  (d.portPlaces (laneOf k)).find? (fun u => unitPoint (laneOf k) u == k)

/-- The key of a container of port `q` in a bank: its first slot. -/
def areaKey (q : Nat) (u : FabricUnit) : Nat := portSlots * q + u.slots.headD 0

/-! Classification (R199) -/

inductive PtrEvent where
  | ais | conc | ndf (v : Nat) | inc | dec | eq (v : Nat) | new (v : Nat) | inv
deriving DecidableEq, Repr

/-- Bits that two numbers have in common places, of the places in `mask`. -/
def bitsOver (x mask : Nat) : Nat := ((List.range 10).filter (fun i => x.testBit i && mask.testBit i)).length

/-- What pointer word `w` is at a point: `active` is its active value, `norm` whether the interpreter is in NORM, `since`
the words since the active value changed, `top` the greatest value. -/
def classify (member norm : Bool) (active : Option Nat) (since top : Nat) (w : BitVec 16) : PtrEvent :=
  let x := w.toNat
  let v := x % 1024
  let ndf := x / 4096
  let enabled := decide (3 ≤ 4 - bitsOver (ndf ^^^ 9) 15)
  let normal := decide (3 ≤ 4 - bitsOver (ndf ^^^ 6) 15)
  if x = 0xFFFF then .ais
  else if member ∧ enabled ∧ v = 0x3FF then .conc
  else if !member ∧ enabled ∧ v ≤ top then .ndf v
  else
    let i := match active with | some a => bitsOver (v ^^^ a) maskI | none => 0
    let c := match active with | some a => bitsOver (v ^^^ a) maskD | none => 0
    if !member ∧ norm ∧ normal ∧ active.isSome ∧ 3 ≤ i ∧ c ≤ 2 then (if 3 ≤ since then .inc else .inv)
    else if !member ∧ norm ∧ normal ∧ active.isSome ∧ 3 ≤ c ∧ i ≤ 2 then (if 3 ≤ since then .dec else .inv)
    else if normal ∧ v ≤ top then (if active = some v then .eq v else .new v)
    else .inv

/-! Interpreter states (R200) -/

def psNorm : Nat := 0
def psAis : Nat := 1
def psLop : Nat := 2
def psConc : Nat := 3
def psAisC : Nat := 4
def psLopC : Nat := 5
def psIdle : Nat := 6

def Dev.pstate (d : Dev) (k : Nat) : Nat := d.get (stPstate k)

/-- A run of `event` over a word: NEW is transparent to every run but its own (R201). -/
def runOn (n : Nat) (here isNew : Bool) : Nat := if here then Nat.min 8 (n + 1) else if isNew then n else 0

/-- The runs after a word (R200, R201): three NEW of one value break every other run, and count as other words at a
member. -/
def PathSt.runs (p : PathSt) (member norm : Bool) (e : PtrEvent) : PathSt :=
  let value : Option Nat := match e with
    | .new v => some v
    | .eq v => if norm then none else some v
    | _ => none
  let isNew := match e with
    | .new _ => true
    | _ => false
  let other := member && !isNew && !(e == .ais || e == .conc)
  let n := match value with
    | some v => if p.newRun ≠ 0 ∧ p.newValue = v then Nat.min 3 (p.newRun + 1) else 1
    | none => 0
  let broken := isNew && n == 3
  { p with
    aisRun := if broken then 0 else runOn p.aisRun (e == .ais) isNew
    concRun := if broken then 0 else runOn p.concRun (e == .conc) isNew
    invRun := if broken then 0 else runOn p.invRun (e == .inv) isNew
    ndfRun := if broken then 0 else runOn p.ndfRun (match e with | .ndf _ => true | _ => false) isNew
    otherRun := if broken && member then (if p.newRun < 3 then Nat.min 8 (p.otherRun + 3) else Nat.min 8 (p.otherRun + 1))
      else runOn p.otherRun other isNew
    newRun := n
    newValue := value.getD p.newValue
    ndfValue := match e with | .ndf v => some v | _ => none
    since := Nat.min 8 (p.since + 1)
    words := Nat.min 8 (p.words + 1) }

/-- The state that the runs lead to from `st`, with the value that NORM takes (R200); `none` where they lead nowhere. -/
def PathSt.nextState (p : PathSt) (st : Nat) : Option (Nat × Option Nat) :=
  if st = psIdle then none
  else if 3 ≤ st then
    if 3 ≤ p.concRun ∧ st ≠ psConc then some (psConc, none)
    else if 3 ≤ p.aisRun ∧ st ≠ psAisC then some (psAisC, none)
    else if 8 ≤ p.otherRun ∧ st ≠ psLopC then some (psLopC, none)
    else none
  else if 3 ≤ p.aisRun ∧ st ≠ psAis then some (psAis, none)
  else if st = psAis ∧ p.ndfValue.isSome then some (psNorm, p.ndfValue)
  else if 3 ≤ p.newRun then some (psNorm, some p.newValue)
  else if st ≠ psLop ∧ (8 ≤ p.invRun ∨ (st = psNorm ∧ 8 ≤ p.ndfRun)) then some (psLop, none)
  else none

/-! What a point shows (R202, R203, R230) -/

/-- The member points of a head. -/
def Dev.membersOf (d : Dev) (k : Nat) : List Nat :=
  let n := kindSpan (getF (d.pathStruct (hoOf k)) 0 3)
  if isHo k && subOf k == 0 && !structBad (d.structWords (laneOf k)) (augOf k) then
    (List.range (n - 1)).map (fun i => 3 * (hoOf k + 1 + i))
  else []

/-- LOP or LOP_C is reported: eight words have passed since the restart (R203). -/
def Dev.lopShown (d : Dev) (k : Nat) : Bool := decide (8 ≤ (d.path k).words)

/-- AIS and LOP of the point itself and of its members. -/
def Dev.ownAis (d : Dev) (k : Nat) : Bool :=
  d.pstate k == psAis || d.pstate k == psAisC || (d.membersOf k).any (fun m => d.pstate m == psAisC)
def Dev.ownLop (d : Dev) (k : Nat) : Bool :=
  ((d.pstate k == psLop || d.pstate k == psLopC) && d.lopShown k)
    || (d.membersOf k).any (fun m => d.pstate m == psLopC && d.lopShown m)

/-- The container's interpreter gives no realigned container (R200, R202). -/
def Dev.ownFail (d : Dev) (k : Nat) : Bool :=
  let bad (x : Nat) : Bool := x == psAis || x == psLop || x == psAisC || x == psLopC
  bad (d.pstate k) || (d.membersOf k).any (fun m => bad (d.pstate m))

/-- A lower-order point's higher-order point is in AIS or LOP, or has LOM (R205, R230). -/
def Dev.parentFail (d : Dev) (k : Nat) : Bool :=
  !isHo k && (d.ownFail (d.parentOf k) || d.on (stLom (d.parentOf k)))

/-- The section holds the lane's interpreters (R204). -/
def Dev.sectionHeld (d : Dev) (k : Nat) : Bool :=
  let n := laneOf k
  (d.lane n).isLine && (d.defect n defLos || d.defect n defOof || d.defect n defLof)

/-- The overhead is not evaluated (R230). LOM of a structured point concerns the TUs within it (R205). -/
def Dev.pathFail (d : Dev) (k : Nat) : Bool := d.ownFail k || d.parentFail k

/-- An accepted label is UNEQ, or PLM against the expected label (R226). -/
def labelUneq (acc : Nat) : Bool := acc == 0
def labelPlm (acc exp : Nat) : Bool := acc != 0 && acc != exp && !(acc == 1 && exp != 0) && exp != 1

/-- The accepted and the expected label of a point. -/
def Dev.labels (d : Dev) (k : Nat) : Nat × Nat :=
  let p := d.path k
  if isHo k then (d.get (stC2 k), getF p.cfg 16 8)
  else
    match loKind (d.pathStruct (hoOf k)) (subOf k) with
    | some .tu3 => (d.get (stSig k), getF p.cfg 16 8)
    | _ => (d.get (stSig k) % 8, getF p.cfg 8 3)

/-- A defect of the point, as the summaries count it (R421). -/
def Dev.pathDefects (d : Dev) (k : Nat) : List Bool :=
  [d.on (stAis k), d.on (stLop k), d.on (stUneq k), d.on (stPlm k), d.on (stTim k), d.on (stRdi k),
   if isHo k then d.on (stLom k) else d.on (stRfi k), d.on (pmPoint k F.pmPtStSd), d.on (pmPoint k F.pmPtStSf)]

/-- The lower-order points of AUG-1 position `h` that have left their reset state. -/
def Dev.lowerOf (d : Dev) (h : Nat) : List Nat :=
  (d.paths.map (fun x => x.1)).filter (fun k => decide (18432 + 84 * h ≤ k) && decide (k < 18432 + 84 * h + 84))

/-- A near-end defect of the point itself (R395). -/
def Dev.nearDefect (d : Dev) (k : Nat) : Bool :=
  d.on (stAis k) || d.on (stLop k) || d.on (stUneq k) || d.on (stPlm k) || d.on (stTim k) || (isHo k && d.on (stLom k))

/-- The defects that hold now are part of the second in progress (R395): those of a higher-order point are near-end
defects of the points within it too. -/
def Dev.markPath (d : Dev) (k : Nat) : Dev :=
  let near := d.nearDefect k || (!isHo k && d.nearDefect (d.parentOf k))
  let kind := if isHo k then 1 else 2
  let i := if isHo k then k else k - 18432
  let d1 := (d.count kind i ctrNearDefect (bitOf near)).count kind i ctrFarDefect (bitOf (d.on (stRdi k)))
  if isHo k && near then
    (d.lowerOf (hoOf k)).foldl (fun e j => e.count 2 (j - 18432) ctrNearDefect (bitOf (d.parentOf j == k))) d1
  else d1

/-- The summaries of the lane follow a change of the point's defects (R237, R388, R421). -/
def Dev.pathSummary (d : Dev) (k : Nat) (old : List Bool) : Dev :=
  let n := laneOf k
  let g := augOf k
  let new := d.pathDefects k
  if new = old then d
  else
    let was := old.any id
    let is := new.any id
    let d1 :=
      if isHo k then
        let f : Field := ⟨laneAddr n (if g < 32 then Reg.lanePsHodef0 else Reg.lanePsHodef1), g % 32, 1⟩
        let any := (List.range 3).any (fun b => (d.pathDefects (3 * hoOf k + b)).any id)
        let e := (d.put f (bitOf any)).raise (F.lanePsEvtHoChg.lane n)
        let bits := (List.range 32).foldl (fun a i =>
          a + getF (e.word (laneAddr n Reg.lanePsHodef0)) i 1 + getF (e.word (laneAddr n Reg.lanePsHodef1)) i 1) 0
        e.put (F.lanePsSumHoDef.lane n) bits
      else
        let c := d.get (F.lanePsSumLoDef.lane n)
        (d.put (F.lanePsSumLoDef.lane n) (if is && !was then c + 1 else if was && !is then c - 1 else c)).raise
          (F.lanePsEvtLoChg.lane n)
    let path := d1.get (F.lanePsSumHoDef.lane n) != 0 || d1.get (F.lanePsSumLoDef.lane n) != 0
    ((d1.setDefect n defPath path).markPath k).protSee

/-! Fabric content (R231, R232) -/

/-- UNEQ, PLM or TIM of the point gives all-ones. -/
def Dev.pathActs (d : Dev) (k : Nat) : Bool :=
  (d.on (stUneq k) && d.uneqAct k) || (d.on (stPlm k) && d.plmAct k) || (d.on (stTim k) && d.timAct k)

/-- A realigned container of a point in NORM has its place in the frame in progress: one with a fabric pointer, or whose NDF this
frame carries (R211, R232). -/
def PathSt.placed (p : PathSt) (edge : Nat) : Bool :=
  let isNew (a : PtrAct) : Bool := match a with
    | .new _ => true
    | _ => false
  p.track.val.isSome || isNew p.track.next || p.due.any (fun x => decide (x.1 ≤ edge) && isNew x.2)

/-- The container of point `k` holds all-ones in the fabric: a structured AU only where its own label or trace asks for it and no line of
R231 before that applies, since AIS, LOP and LOM give all-ones over its TUs. All-ones goes on until the first frame that gives a realigned container (R232). -/
def Dev.pathOnes (d : Dev) (k : Nat) : Bool :=
  if isHo k && d.structured (hoOf k) then d.pathActs k && !d.ownFail k && !d.on (stLom k)
  else d.ownFail k || d.parentFail k || d.pathActs k || (!isHo k && d.pathActs (d.parentOf k))
    || (d.realigned k && d.pstate k == psNorm && !(d.path k).placed d.timing.edges)

/-- What fills the container of point `k` in place of what it carries (R200, R231). -/
def Dev.areaFill (d : Dev) (k : Nat) : Option PanFill :=
  if d.pathOnes k then some .ones
  else if d.pstate k = psIdle then some .zeros
  else if isHo k && d.structured (hoOf k) && (d.ownFail k || d.on (stLom k)) then some .top
  else none

/-- R232: what fills the container begins at its first slot that is written after the declaration. -/
def Dev.markOnes (d : Dev) (k : Nat) : Dev :=
  d.when (d.inFill.live.contains (laneOf k)) (fun e =>
    match e.areaOf k, e.areaFill k with
    | some u, some f =>
      { e with inFill := { e.inFill with units := fillFrom e.inFill.units (areaKey (laneOf k) u) e.slotNow f } }
    | _, _ => e)

/-- The defect bits of one point follow its interpreter and its accepted values (R202, R226, R230, R390). -/
def Dev.pathShow (d : Dev) (k : Nat) : Dev :=
  let old := d.pathDefects k
  let p := d.path k
  let idle := d.pstate k == psIdle
  let ok := !idle && !d.pathFail k && d.pstate k == psNorm
  let lab := d.labels k
  let sl := d.on (stSlValid k)
  let d1 := ((((((d.put (stAis k) (bitOf (d.ownAis k))).put (stLop k) (bitOf (d.ownLop k))).put (stUneq k)
    (bitOf (ok && sl && labelUneq lab.1))).put (stPlm k) (bitOf (ok && sl && labelPlm lab.1 lab.2))).put (stTim k)
    (bitOf (ok && p.mismatch && d.timEn k))).put (stRdi k) (bitOf (ok && p.rdi)))
  let d2 := d1.when (!isHo k) (fun e => e.put (stRfi k) (bitOf (ok && p.rfi)))
  let d3 := d2.when (d.pathFail k) (fun e =>
    (((e.lower (pmPoint k F.pmPtStSd)).lower (pmPoint k F.pmPtStSf)).estClear (estKeyPoint k 0)).estClear (estKeyPoint k 1))
  (d3.pathSummary k old).markOnes k

/-- The point, the head that it belongs to, and the points within it (R202, R205, R230). -/
def Dev.pathUpdate (d : Dev) (k : Nat) : Dev :=
  let d1 := d.pathShow k
  let d2 := if isHo k && 3 ≤ d.pstate k && d.pstate k ≠ psIdle then
      match headOf (d.structWords (laneOf k)) (augOf k) with
      | some g => d1.pathShow (3 * (64 * laneOf k + g))
      | none => d1
    else d1
  if isHo k then (d.lowerOf (hoOf k)).foldl (fun e j => e.pathShow j) d2 else d2

/-! Starts and stops of interpreters (R190, R200, R203, R206, R236) -/

/-- An interpreter restarts: LOP or LOP_C, with no active value and nothing accepted. -/
def Dev.restartPoint (d : Dev) (k : Nat) (member : Bool) : Dev :=
  let p := d.path k
  let d1 := (d.setPath k { cfg := p.cfg, trc := p.trc }).setWord (statAddr k)
    (putF 0 0 3 (if member then psLopC else psLop))
  d1.when (isHo k) (fun e => (e.put (stC2 k) 0).put (stMfi k) 0)

/-- An interpreter stops: IDLE. -/
def Dev.idlePoint (d : Dev) (k : Nat) : Dev :=
  let p := d.path k
  let d1 := (d.setPath k { cfg := p.cfg, trc := p.trc }).setWord (statAddr k) (putF 0 0 3 psIdle)
  d1.when (isHo k) (fun e => (e.put (stC2 k) 0).put (stMfi k) 0)

/-- A point starts or stops as its structure and `MON_EN` require; `force` restarts one that runs. -/
def Dev.settlePoint (d : Dev) (force : Bool) (k : Nat) : Dev :=
  let st := d.pstate k
  let old := d.pathDefects k
  match d.interpreterOf k with
  | none => if st = psIdle then d.markOnes k else ((d.idlePoint k).pathSummary k old).markOnes k
  | some m =>
    if force ∨ st = psIdle ∨ (decide (3 ≤ st) != m) then ((d.restartPoint k m).pathSummary k old).markOnes k else d

/-- `CFG_ERR` of AUG-1 position `h` (R236). -/
def Dev.showCfgErr (d : Dev) (h : Nat) : Dev :=
  let bad := structBad (d.structWords (h / 64)) (h % 64)
  (List.range 3).foldl (fun e b =>
    e.when (e.on (stCfgErr (3 * h + b)) != bad) (fun x => x.put (stCfgErr (3 * h + b)) (bitOf bad))) d

/-- R206, R236: the restart of position `h`, whose word holds KIND, STRUCT and the TUGs, and what its structure means for its
neighbours. -/
def Dev.restartAt (d : Dev) (h : Nat) : Dev :=
  let n := h / 64
  let d1 : Dev := { d with restarts := d.restarts.filter (fun x => x != h),
                           structs := Store.set (fun _ => 0) d.structs h (d.word (0x1C00_0018 + 64 * h)) }
  let d2 := (List.range 64).foldl (fun e g =>
      (List.range 3).foldl (fun x b => x.settlePoint (64 * n + g == h) (3 * (64 * n + g) + b)) (e.showCfgErr (64 * n + g))) d1
  (List.range 84).foldl (fun e l => e.settlePoint true (loKey h l)) d2

end Sys2Proof.Machine
end

