-- ==== Sys2Proof/Machine/SohOps.lean ====
section
/-! DEFINITION. The section overhead of LINE lanes (04_section_overhead.md): fail states, trace and K acceptance, and what
a received frame changes. -/

namespace Sys2Proof.Machine

/-! Trace (R155 to R163, R696) -/

def traceOne : Nat := 0
def traceSixteen : Nat := 1

/-- The length of a trace message by mode. -/
def traceLen (mode : Nat) : Nat := if mode = 0 then 1 else if mode = 1 then 16 else 64

/-- A complete SIXTEEN message is sound (R155, R156). -/
def sixteenOk (m : List Byte) : Bool :=
  match m with
  | [] => false
  | b :: t => decide (b.toNat % 128 = crc7 (0x80 :: t)) && t.all (fun x => decide (x.toNat < 128))

/-- One byte of a trace arrives; `true` when it completes a message that is discarded (R156, R157). A message of 64 bytes is complete
whatever its own last two bytes are (DESIGN CHOICE, notes/assumptions/127). -/
def TraceRx.byte (t : TraceRx) (mode : Nat) (b : Byte) : TraceRx × Bool :=
  let start := mode = 0 ∨ (mode = 1 ∧ 128 ≤ b.toNat) ∨ (2 ≤ mode ∧ t.lastTwo = (0x0D, 0x0A))
  let part := match t.part with
    | some p => some (p ++ [b])
    | none => if start then some [b] else none
  let t1 := { t with lastTwo := (t.lastTwo.2, b) }
  match part with
  | none => ({ t1 with part := none }, false)
  | some p =>
    if p.length < traceLen mode then ({ t1 with part := some p }, false)
    else if mode = 1 ∧ !sixteenOk p then ({ t1 with part := none, message := [], count := 0 }, true)
    else
      ({ t1 with part := none, message := p, count := if t.message = p ∧ t.count ≠ 0 then Nat.min 3 (t.count + 1) else 1 },
        false)

/-- The bytes of a message that are compared (R159): byte 0 in ONE, 1 to 15 in SIXTEEN, all in SIXTYFOUR. -/
def traceCompared (mode : Nat) (m : List Byte) : List Byte :=
  if mode = 0 then m.take 1 else if mode = 1 then (m.take 16).drop 1 else m.take 64

def Dev.rxMode (d : Dev) (n : Nat) : Nat := d.get (F.laneSohJ0cfgRxMode.lane n)

/-- R166: a condition that holds K restarts the counts of identical frames. -/
def Dev.kRestart (d : Dev) (n : Nat) : Dev := d.setSoh n { d.soh n with k := {}, k2l := {}, kSince := 0 }

/-- TIM with `TIM_ACT` = 1 holds (R166, R170). -/
def Dev.timActs (d : Dev) (n : Nat) : Bool := d.defect n defTim && d.on (F.laneSohCfgTimAct.lane n)

/-- R159: TIM changes. -/
def Dev.setTim (d : Dev) (n : Nat) (v : Bool) : Dev :=
  d.when (d.defect n defTim != v) (fun e =>
    let x := sohEvent n F.laneSohEvtTimChg ((e.put (F.laneSohStatTim.lane n) (bitOf v)).setDefect n defTim v)
    (x.when (x.timActs n) (fun y => y.kRestart n)).lineUpdate n)

/-- A write of `LANE.SOH_CFG`: `TIM_ACT` and `EXC_ACT` act at once (R166, R170, R172). -/
def Dev.writeSohCfg (d : Dev) (n : Nat) (data : W32) : Dev :=
  let d1 := (d.regWrite (laneAddr n Reg.laneSohCfg) data).protSee
  let d2 := d1.when ((d1.lane n).isLine && d1.timActs n && !d.timActs n) (fun e => e.kRestart n)
  (d2.lineUpdate n).markLane n

/-- R159, R160: a comparison of the accepted message; a waiting expected message takes effect with it. The buffer is copied then,
not at the write of `EXP_APPLY` (DESIGN CHOICE, notes/assumptions/126). -/
def Dev.compareTrace (d : Dev) (n : Nat) : Dev :=
  let d1 := d.when (d.on (F.laneSohJ0cfgExpPend.lane n)) (fun e =>
    (e.setSoh n { e.soh n with expected := e.bytesAt (laneAddr n Reg.laneSohJ0Exp) 64 }).lower (F.laneSohJ0cfgExpPend.lane n))
  let mode := d1.rxMode n
  let acc := d1.bytesAt (laneAddr n Reg.laneSohJ0Acc) 64
  d1.setTim n (d1.on (F.laneSohStatJ0Valid.lane n) && d1.on (F.laneSohJ0cfgTimEn.lane n)
    && traceCompared mode acc != traceCompared mode (d1.soh n).expected)

/-- R157: the message that three complete messages carried is accepted. -/
def Dev.acceptTrace (d : Dev) (n : Nat) : Dev :=
  let m := (d.soh n).trace.message
  let a := laneAddr n Reg.laneSohJ0Acc
  let new := !d.on (F.laneSohStatJ0Valid.lane n) || d.bytesAt a m.length != m
  (((d.setBytesAt a m).raise (F.laneSohStatJ0Valid.lane n)).when new (sohEvent n F.laneSohEvtJ0Acc)).compareTrace n

/-- R163: a new receive mode. -/
def Dev.traceRestart (d : Dev) (n : Nat) : Dev :=
  let s := d.soh n
  (((d.setSoh n { s with trace := {} }).setBytesAt (laneAddr n Reg.laneSohJ0Acc) (List.replicate 64 0)).lower
    (F.laneSohStatJ0Valid.lane n)).setTim n false

/-- R159 to R163: a write of `LANE.SOH_J0CFG`. On a RADIO or SYSTEM lane only the fields are written (R144). -/
def Dev.writeJ0cfg (d : Dev) (n : Nat) (data : W32) : Dev :=
  let a := laneAddr n Reg.laneSohJ0cfg
  let d1 := d.regWrite a data
  d1.when (d1.lane n).isLine (fun d1 =>
    let d2 := d1.when (d1.rxMode n != d.rxMode n) (fun e => e.traceRestart n)
    let d3 := d2.when (!d2.on (F.laneSohJ0cfgTimEn.lane n)) (fun e => e.setTim n false)
    (d3.when (getF data 6 1 == 1) (fun e => e.raise (F.laneSohJ0cfgExpPend.lane n))).when (getF data 7 1 == 1)
      (fun e => e.raise (F.laneSohJ0cfgTxPend.lane n)))

/-! A received frame (R142, R145 to R153, R164 to R169, R176, R177, R179, R180) -/

/-- The byte in row `r` and column `c` of an STM-N frame. -/
def frameByte (l : List Byte) (nn r c : Nat) : Byte := l.getD (r * (270 * nn) + c) 0

/-- The frame descrambled: every byte after column 9 N - 1 of row 0 (R145, R146). -/
def descramble (nn : Nat) (l : List Byte) : List Byte := l.take (9 * nn) ++ scramble 127 (l.drop (9 * nn))

/-- The BIP-24N over a descrambled frame: byte i is the parity of every 3N-th byte from byte i on, without rows 0 to 2 of the overhead
(R149). -/
def b2Bytes (nn : Nat) (l : List Byte) : List Byte :=
  let m := l.mapIdx (fun x b => if x < 810 * nn ∧ x % (270 * nn) < 9 * nn then 0 else b)
  (List.range 810).foldl (fun a j => List.zipWith (fun x y => x ^^^ y) a ((m.drop (3 * nn * j)).take (3 * nn)))
    (List.replicate (3 * nn) 0)

/-- Differing bits of two byte strings. -/
def violations (a b : List Byte) : Nat := (List.zipWith (fun x y => popByte (x ^^^ y)) a b).foldl (· + ·) 0

/-- The greatest MS-REI that a lane sends and takes (R176). -/
def reiTop (nn : Nat) (ext : Bool) : Nat :=
  if nn = 64 then (if ext then 1536 else 255) else if nn = 1 then 24 else if nn = 4 then 96 else 255

/-- A received MS-REI, decoded (R176). -/
def reiOf (nn : Nat) (ext : Bool) (m0 m1 : Byte) : Nat :=
  let v := m1.toNat + (if nn = 64 ∧ ext then m0.toNat * 256 else 0)
  if v ≤ reiTop nn ext then v else 0

def Run.next (r : Run) (v : Nat) : Run := if r.count ≠ 0 ∧ r.value = v then { r with count := Nat.min 8 (r.count + 1) } else ⟨v, 1⟩

/-- Column and row of the channel bytes in ring order (R142, R179), with the ring offset of each channel. -/
def ringBytes (l : List Byte) (nn : Nat) : List (Nat × List Byte) :=
  let at3 (r : Nat) : List Byte := [frameByte l nn r 0, frameByte l nn r (3 * nn), frameByte l nn r (6 * nn)]
  [(0, at3 2), (0xC0, at3 5 ++ at3 6 ++ at3 7), (0x300, [frameByte l nn 1 (3 * nn)]), (0x340, [frameByte l nn 1 (6 * nn)]),
   (0x380, [frameByte l nn 8 (6 * nn)])]

/-- R180: the receive rings, and then `SOH_RXFRM`. -/
def Dev.writeRings (d : Dev) (n : Nat) (l : List Byte) (nn : Nat) : Dev :=
  let f := d.get (F.laneSohRxfrmFrm.lane n) % 64
  ((ringBytes l nn).foldl (fun e x =>
    e.setBytesAt (laneAddr n Reg.laneSohRxRing + x.1 + f * x.2.length) x.2) d).roll (F.laneSohRxfrmFrm.lane n) 1

/-- B1 and B2 of a frame received in frame alignment (R150 to R153, R176, R381). `own` are the parities of the previous
frame. -/
def Dev.compareParity (d : Dev) (n nn : Nat) (l : List Byte) : Dev :=
  let s := d.soh n
  let v1 := match s.b1Own with
    | some b => popByte (b ^^^ frameByte l nn 1 0)
    | none => 0
  let d1 := (d.count 0 n 0 v1).count 0 n 1 (bitOf (v1 != 0))
  if d.defect n defMsais then d1
  else
    let v2 := match s.b2Own with
      | some b => violations b ((List.range (3 * nn)).map (fun i => frameByte l nn 4 i))
      | none => 0
    let rei := reiOf nn (d.on (F.laneSohCfgReiExt.lane n)) (frameByte l nn 8 (3 * nn + 1)) (frameByte l nn 8 (3 * nn + 2))
    let d2 := ((d1.count 0 n 2 v2).count 0 n 3 (bitOf (v2 != 0))).put (F.laneSohM1Rx.lane n) rei
    let d3 := (d2.count 0 n 4 rei).count 0 n 5 (bitOf (rei != 0))
    if s.b2Own.isNone then d3
    else
      let x : Soh := { s with
        reiPending := s.reiPending + v2,
        exc := if 6 * nn ≤ v2 then Nat.min 8 (s.exc + 1) else 0,
        noExc := if v2 ≤ 3 * nn then Nat.min 8 (s.noExc + 1) else 0 }
      (d3.estLane n v2).setSoh n x

/-- K1 and K2 of a frame (R164 to R169). -/
def Soh.kFrame (s : Soh) (live held : Bool) (k1 k2 : Byte) : Soh :=
  let low := k2.toNat % 8
  let s1 := if live then
      { s with ais := if low = 7 then Nat.min 3 (s.ais + 1) else 0, noAis := if low = 7 then 0 else Nat.min 3 (s.noAis + 1),
               rdi := if low = 6 then Nat.min 5 (s.rdi + 1) else 0, noRdi := if low = 6 then 0 else Nat.min 5 (s.noRdi + 1) }
    else { s with ais := 0, noAis := 0, rdi := 0, noRdi := 0 }
  if held then { s1 with k := {}, k2l := {}, kSince := 0 }
  else
    let k := s.k.next (k1.toNat * 32 + k2.toNat / 8)
    { s1 with k := k, k2l := s.k2l.next low, kSince := if 3 ≤ k.count then 0 else s.kSince + 1 }

/-- R150 to R180: a frame is received on LINE lane `n`; `raw` are its bytes in the lane's alignment. The rings are written in
IN_FRAME, under LOS too (R180). The frame that completes the detection of MS-AIS is compared and counted as any other (R152; DEDUCED,
notes/assumptions/128). -/
def Dev.lineFrame (d : Dev) (n : Nat) (raw : List Byte) : Dev :=
  let nn := stmN (d.lane n).rate
  let l := if !d.on (F.laneSohCfgRxScr.lane n) && d.inTest (lanePage n) then raw else descramble nn raw
  let k1 := frameByte l nn 4 (3 * nn)
  let k2 := frameByte l nn 4 (6 * nn)
  let aligned := d.inFrame n
  let live := aligned && !d.defect n defLos
  let d0 := (d.put (F.laneSohKrawK1.lane n) k1.toNat).put (F.laneSohKrawK2.lane n) k2.toNat
  let d1 := d0.when live (fun e => e.compareParity n nn l)
  let s := d1.soh n
  let own : Soh := { s with b1Own := if aligned then some (bip8 raw) else none,
                            b2Own := if aligned then some (b2Bytes nn l) else none }
  if !live then (d1.setSoh n { own.hold with b1Own := own.b1Own, b2Own := own.b2Own }).when aligned (fun e => e.writeRings n l nn)
  else
    let s1 := own.kFrame true (d1.kHeld n) k1 k2
    let s2 : Soh := { s1 with s1 := if d1.defect n defMsais then {} else s1.s1.next ((frameByte l nn 8 0).toNat % 16) }
    let j := s2.trace.byte (d1.rxMode n) (frameByte l nn 0 (6 * nn))
    let d2 := d1.setSoh n { s2 with trace := j.1 }
    (d2.when j.2 (fun e => sohEvent n F.laneSohEvtJ0Crc (e.roll (F.laneSohJ0crcCount.lane n) 1))).writeRings n l nn

/-- R161: the message to send takes effect at a start of message; the buffer is copied then, not at the write of `TX_APPLY`
(DESIGN CHOICE, notes/assumptions/126). -/
def Dev.applyTxTrace (d : Dev) (n : Nat) : Dev :=
  (d.setSoh n { d.soh n with sending := d.bytesAt (laneAddr n Reg.laneSohJ0Tx) 64 }).lower (F.laneSohJ0cfgTxPend.lane n)

end Sys2Proof.Machine
end

