-- ==== Sys2Proof/Machine/Paths.lean ====
section
/-! DEFINITION. The commands of the path points (R199 to R237), but for those of the multiframe (R227), which sink members
share. -/

namespace Sys2Proof.Machine

/-- A word of the point is classified: its interpreter runs and is not held (R204, R205). -/
def Dev.pointerLive (d : Dev) (k : Nat) : Bool := d.pstate k != psIdle && !d.sectionHeld k && !d.parentFail k

def Dev.countPath (d : Dev) (k c n : Nat) : Dev := d.count (if isHo k then 1 else 2) (if isHo k then k else k - 18432) c n

/-- `LPTR` shows the active value of a higher-order point. -/
def Dev.showLptr (d : Dev) (k : Nat) : Dev :=
  d.when (isHo k) (fun e => e.put (stLptr k) ((e.path k).active.getD 0))

/-! The fabric pointer (R208 to R211, R220) -/

/-- R211: the fabric pointer is to be chosen again; on a structured point those of the TUs around which it lies. -/
def Dev.rechoose (d : Dev) (k : Nat) : Dev :=
  let again (e : Dev) (j : Nat) : Dev := e.when (e.realigned j && e.pstate j == psNorm) (fun x =>
    x.setPath j { x.path j with choose := true, asked := x.now })
  if isHo k && d.structured (hoOf k) then
    ((d.lowerOf (hoOf k)).filter (fun j => d.parentOf j == k)).foldl again d
  else again d k

/-- 87ths of a byte that a justification of the container around it gives a TU: a byte in a column of 87 (R210). -/
def UnitKind.share (k : UnitKind) : Int := if k.isTu1x then k.tuWidth else 86

/-- R201, R210: a justification is accepted on the line. That of a realigned container waits for the fabric; that of a structured one is
shared among the TUs within it. -/
def Dev.justify (d : Dev) (k : Nat) (q : PathSt) (inc : Bool) : Dev :=
  let n := (d.pointUnit k).values
  let a := q.active.getD 0
  let x : PathSt := { q with active := some (if inc then (a + 1) % n else (a + n - 1) % n), since := 0 }
  let d1 := d.setPath k x
  if d.realigned k then
    d1.setPath k (if inc then { x with pendInc := x.pendInc + 1, asked := d.now } else { x with pendDec := x.pendDec + 1, asked := d.now })
  else if (d.lane (laneOf k)).isLine then
    ((d.lowerOf (hoOf k)).filter (fun j => d.parentOf j == k && d.pstate j == psNorm)).foldl (fun e j =>
      let p := e.path j
      let c := (e.pointUnit j).share
      e.setPath j { p with share := if inc then p.share + c else p.share - c, asked := e.now }) d1
  else d1

/-- R199, R201: a pointer word, and what it does at once in NORM. -/
def Dev.pointerWord (d : Dev) (k : Nat) (w : BitVec 16) : Dev :=
  let p := d.path k
  let st := d.pstate k
  let norm := st == psNorm
  let member := decide (3 ≤ st)
  let e := classify member norm p.active p.since (d.pointerTop k) w
  let q := p.runs member norm e
  let d1 := match e, norm with
    | .inc, true => (d.justify k q true).countPath k 4 1
    | .dec, true => (d.justify k q false).countPath k 5 1
    | .ndf v, true => ((d.setPath k { q with active := some v, since := 0 }).countPath k 6 1).rechoose k
    | _, _ => d.setPath k q
  (d1.showLptr k).pathUpdate k

/-- What a point keeps of its fabric side and of the VC it received when its interpreter enters NORM or leaves it. -/
def PathSt.outOfFabric (p : PathSt) : PathSt :=
  { p with pendInc := 0, pendDec := 0, share := 0, choose := false, due := none, track := {}, queue := [], vc := none, bip := none }

/-- The fabric side of container `k` ends. Where the container had its place, that place still takes the bytes of the slots written before
(R232). -/
def Dev.leaveFabric (d : Dev) (k : Nat) : Dev :=
  let p := d.path k
  let starts := (match d.areaOf k with
    | some u => !u.kind.isTu1x
    | none => true) || d.seqNow % 4 == 0
  let act : PtrAct := match p.due.filter (fun x => decide (x.1 ≤ d.timing.edges)) with
    | some x => x.2
    | none => .same
  let now : Track := if starts then { p.track with next := act } else p.track
  d.setPath k { p.outOfFabric with tail := if d.realigned k && p.track.val.isSome then some (now, p.queue) else p.tail }

/-- The head of a concatenated container, where the states of its members say that it fails or no longer fails (R202): it leaves the
fabric, or its fabric pointer is chosen again (R211). -/
def Dev.headFollows (d : Dev) (before : Bool) (hk : Nat) : Dev :=
  let after := d.ownFail hk
  (d.when (!before && after) (fun e => e.leaveFabric hk)).when (before && !after && d.pstate hk == psNorm) (fun e => e.rechoose hk)

/-- The head point that member point `k` belongs to; a point that is no member is its own. -/
def Dev.headPoint (d : Dev) (k : Nat) : Nat :=
  if isHo k then
    match headOf (d.structWords (laneOf k)) (augOf k) with
    | some g => 3 * (64 * laneOf k + g)
    | none => k
  else k

/-- R200, R202, R208, R211, R230: the interpreter moves to the state that its runs lead to. -/
def Dev.pointerMove (d : Dev) (k st : Nat) (value : Option Nat) : Dev :=
  let p := d.path k
  let q : PathSt := { p with aisRun := 0, newRun := 0, invRun := 0, ndfRun := 0, concRun := 0, otherRun := 0, words := 8,
                             ndfValue := none }
  let hk := d.headPoint k
  let d1 := match value with
    | some v => d.setPath k { q with active := some v, since := 0 }
    | none => (d.setPath k q).leaveFabric k
  let d2 := (d1.put (stPstate k) st).when (d.pstate k == psAis && st == psNorm && p.ndfValue.isSome) (fun e => e.countPath k 6 1)
  let d3 := if hk = k then d2.when value.isSome (fun e => e.rechoose k) else d2.headFollows (d.ownFail hk) hk
  (d3.showLptr k).pathUpdate k

/-- R200 -/
def execPointerStateChange (p : Point) (s : State) : Out :=
  let k := pointKey p
  .next { s with dev := s.dev.when (s.dev.pointerLive k) (fun d =>
    match (d.path k).nextState (d.pstate k) with
    | some x => d.pointerMove k x.1 x.2
    | none => d) }

/-- M in slots of the fabric: 2.0 µs, and 0.5 µs for a TU-12 or TU-11 (R208). -/
def UnitKind.minDelay (k : UnitKind) : Nat := if k.isTu1x then 623 else 2489

/-- Frames between the words of a unit's pointer. -/
def UnitKind.wordFrames (k : UnitKind) : Nat := if k.isTu1x then 4 else 1

/-- The edge of the frame that carries a pointer action asked for at tick `asked`: the first whose pointer bytes lie M after it and are
still to be written (R210, R211). With `wait` it also comes 4 words after the last action (R220). -/
def Dev.actionFrame (d : Dev) (u : FabricUnit) (p : PathSt) (wait : Bool) : Nat :=
  let start : Int := (d.timing.fp8kAt.getD d.now : Nat)
  let need : Int := max (2 * ((p.asked : Int) - start) + u.kind.minDelay) (2 * ((d.now : Int) - start))
  let j0 := ((need - u.wordSlot + (portSlots - 1)) / portSlots).toNat
  let ok (i : Nat) : Bool := (!u.kind.isTu1x || (d.seqNow + j0 + i) % 4 == 0)
    && (!wait || p.acted.all (fun e => decide (e + 4 * u.kind.wordFrames ≤ d.timing.edges + j0 + i)))
  d.timing.edges + j0 + ((List.range 24).find? ok).getD 24

/-- The slots of the places of a VC, from pointer position 0 on, counted from the start of a frame, or of a multiframe for a TU-12 or
TU-11 (R195). -/
def FabricUnit.places (u : FabricUnit) : List Nat :=
  let vcs (mf : Nat) : List Nat := ((u.layout mf).filter (fun x => x.2 == .vc)).map (fun x => x.1)
  if u.kind.isTu1x then
    let after := (vcs 1).filter (fun s => decide (u.wordSlot < s))
    let before := (vcs 1).filter (fun s => decide (s < u.wordSlot))
    after.map (fun s => portSlots + s) ++ (List.range 3).flatMap (fun f => (vcs (f + 2)).map (fun s => portSlots * (f + 2) + s))
      ++ before.map (fun s => 5 * portSlots + s)
  else
    let last := ((u.layout 0).filter (fun x => x.2 == .h3)).foldl (fun _ x => x.1) 0
    (vcs 0).filter (fun s => decide (last < s)) ++ ((vcs 0).filter (fun s => decide (s < last))).map (fun s => portSlots + s)

/-- R208: the first pointer position whose delay is at least M for a first byte that arrives `arrival` slots after the start of a frame,
or of a multiframe. -/
def FabricUnit.firstPlace (u : FabricUnit) (arrival : Nat) : Nat :=
  let period := portSlots * u.kind.wordFrames
  let l := u.places
  let wait (v : Nat) : Nat := (l.getD (v * u.kind.step) 0 + 8 * period - arrival % period - u.kind.minDelay) % period
  (List.range u.kind.values).foldl (fun a v => if wait v < wait a then v else a) 0

/-- R210: a justification of the point, or its share of those of the container around it, waits for the fabric. -/
def Dev.justifyDue (d : Dev) (k : Nat) (inc : Bool) : Bool :=
  let p := d.path k
  d.realigned k && d.pstate k == psNorm && p.due.isNone && p.track.val.isSome
    && (if inc then p.pendInc != 0 || decide (87 ≤ p.share) else p.pendDec != 0 || decide (p.share ≤ -87))

/-- R210, R220: the fabric repeats a justification in the frame that can carry it; `FPTR` follows with that frame. -/
def execFabricJustification (p : Point) (inc : Bool) (s : State) : Out :=
  let k := pointKey p
  .next { s with dev := s.dev.when (s.dev.justifyDue k inc) (fun d =>
    match d.areaOf k with
    | none => d
    | some u =>
      let x := d.path k
      let q : PathSt := if inc then (if x.pendInc = 0 then { x with share := x.share - 87 } else { x with pendInc := x.pendInc - 1 })
        else if x.pendDec = 0 then { x with share := x.share + 87 } else { x with pendDec := x.pendDec - 1 }
      (d.setPath k { q with due := some (d.actionFrame u x true, if inc then .inc else .dec) }).countPath k 7 1) }

/-- R208, R211: the fabric pointer is chosen for a VC whose first byte arrives `arrival` slot periods after the start of the present
fabric multiframe, and its frame carries NDF. -/
def execNewFabricPointer (p : Point) (arrival : Fin 622080) (s : State) : Out :=
  let k := pointKey p
  .next { s with dev := s.dev.when ((s.dev.path k).choose && s.dev.pstate k == psNorm && s.dev.realigned k) (fun d =>
    match d.areaOf k with
    | none => d
    | some u =>
      let x := d.path k
      let v := u.firstPlace arrival.val
      let e := d.actionFrame u x false
      let d1 := ((d.setPath k { x with choose := false, due := some (e, .new v), pendInc := 0, pendDec := 0, share := 0 }).put
        (stFptr k) v).countPath k 7 1
      d1.when (x.track.val.isNone && !d1.pathOnes k) (fun y =>
        { y with inFill := { y.inFill with units := Store.drop y.inFill.units (areaKey (laneOf k) u) } })) }

/-- R206: the interpreters of a position whose structure was written restart at the next frame boundary. -/
def execInterpreterRestart (h : HoPoint) (s : State) : Out :=
  .next { s with dev := s.dev.when (s.dev.atEdge && s.dev.restarts.contains h.val) (fun d => d.restartAt h.val) }

/-- R234, R236: a point's configuration words take effect whole. -/
def Dev.takeConfig (d : Dev) (k : Nat) : Dev :=
  let p := d.path k
  let mode := d.pathMode k
  let d1 := d.setPath k { p with cfg := d.word (cfgAddr k), trc := d.word (cfgAddr k + 4) }
  let d2 := d1.when (d1.pathMode k != mode) (fun e =>
    (e.setPath k { e.path k with accepted := [], mismatch := false, trace := {} }).lower (stTrcValid k))
  let d3 := (d2.settlePoint false k).when (isHo k) (fun e => e.showCfgErr (hoOf k))
  (((d3.membersOf k).foldl (fun e m => e.settlePoint false m) d3).pathUpdate k).protSee

def execPathConfigTakeEffect (p : Point) (s : State) : Out :=
  .next { s with dev := s.dev.takeConfig (pointKey p) }

/-- The overhead of the point is evaluated (R224, R230). -/
def Dev.overheadLive (d : Dev) (k : Nat) : Bool := d.pstate k == psNorm && !d.pathFail k && !d.sectionHeld k

/-- R226: the label that 5 identical frames or multiframes carried is accepted. -/
def execC2Accept (p : Point) (label : Nat) (s : State) : Out :=
  let k := pointKey p
  let run := (s.dev.path k).label
  .next { s with dev := s.dev.when (s.dev.overheadLive k && decide (5 ≤ run.count) && run.value == label) (fun d =>
    ((d.put (if isHo k then stC2 k else stSig k) label).raise (stSlValid k)).pathUpdate k) }

/-- R224: RDI and RFI of 5 identical frames or multiframes, K3[7:4] of 3. A VC-4 or VC-3 has no RFI, and a lower-order point shows no
K3. -/
def execPathRdiAccept (p : Point) (bit : PathBit) (value : Nat) (s : State) : Out :=
  let k := pointKey p
  .next { s with dev := s.dev.when (s.dev.overheadLive k) (fun d =>
    let x := d.path k
    match bit with
    | .rdi => d.when (decide (5 ≤ x.rdiRun.count) && x.rdiRun.value == value) (fun e =>
        (e.setPath k { x with rdi := value != 0 }).pathUpdate k)
    | .rfi => d.when (decide (5 ≤ x.rfiRun.count) && x.rfiRun.value == value) (fun e =>
        (e.setPath k { x with rfi := value != 0 }).pathUpdate k)
    | .k3 => d.when (decide (3 ≤ x.k3.count) && isHo k && x.k3.value == value) (fun e => e.put (stK3 k) value)) }

/-- The 64 bytes of trace table entry `i` (R233). -/
def Dev.traceEntry (d : Dev) (i : Nat) : List Byte := d.bytesAt (0x1C10_0000 + 64 * i) 64

/-- The point that `PS_CAP` names on a lane. `INDEX` is not checked against the lane's points: sub-point 3 is taken as 2, and a
lower-order index of 5,376 or more counts on into the next lane's points (DESIGN CHOICE, notes/assumptions/130). -/
def capPoint (n : Nat) (w : W32) : Nat :=
  if getF w 13 1 = 1 then 18432 + 84 * (64 * n) + getF w 0 13
  else 3 * (64 * n + getF w 0 6) + Nat.min 2 (getF w 6 2)

/-- The point whose trace lane `n` captures. -/
def Dev.capturePoint (d : Dev) (n : Nat) : Nat := capPoint n (d.word (laneAddr n Reg.lanePsCap))

/-- R225, R159, R235: the trace of three complete messages is accepted and compared with the trace table's entry, and a capture of the
point catches it (R237). -/
def Dev.pathTrace (d : Dev) (k : Nat) : Dev :=
  let p := d.path k
  let mode := d.pathMode k
  let bad := traceCompared mode p.trace.message != traceCompared mode (d.traceEntry (getF p.trc 0 14))
  let d1 := ((d.setPath k { p with accepted := p.trace.message, mismatch := bad }).raise (stTrcValid k)).pathUpdate k
  d1.each 96 (fun e n => e.when ((e.lane n).capturing && e.capturePoint n == k) (fun x =>
    x.setLane n { x.lane n with caught := some p.trace.message }))

/-- R225: three complete messages have been the same. -/
def execPathTraceAccept (p : Point) (message : List Byte) (s : State) : Out :=
  let k := pointKey p
  let t := (s.dev.path k).trace
  .next { s with dev := s.dev.when (s.dev.overheadLive k && decide (3 ≤ t.count) && t.message == message) (fun d => d.pathTrace k) }

/-- A capture completes (R237). Bytes of the buffer beyond the message are 0x00 (DESIGN CHOICE, notes/assumptions/130). -/
def Dev.capDone (d : Dev) (n : Nat) (t : Option (List Byte)) : Dev :=
  let d1 := (((d.setLane n { d.lane n with capturing := false, caught := none }).raise (F.lanePsCapDone.lane n)).raise
    (F.lanePsEvtCapDone.lane n)).put (F.lanePsCapEmpty.lane n) (bitOf t.isNone)
  match t with
  | some m => d1.setBytesAt (laneAddr n Reg.lanePsCapBuf) ((m ++ List.replicate 64 0).take 64)
  | none => d1

/-- R237: a write of `LANE.PS_CAP`. -/
def Dev.writePsCap (d : Dev) (n : Nat) (data : W32) : Dev :=
  let d1 := d.regWrite (laneAddr n Reg.lanePsCap) data
  if getF data 14 1 = 0 then d1
  else
    let d2 := ((d1.lower (F.lanePsCapDone.lane n)).lower (F.lanePsCapEmpty.lane n)).setLane n
      { d1.lane n with capturing := true, caught := none }
    if d2.on (stTrcValid (d2.capturePoint n)) then d2 else d2.capDone n none

/-- R237 -/
def execPsCapGo (m : Master) (lane : PortLane) (data : W32) (s : State) : Out :=
  .next { s with dev := s.dev.write m (laneAddr lane.val Reg.lanePsCap) (fun d =>
    okay (d.writePsCap lane.val (data ||| 0x4000))) }

/-- R237: the capture in progress has caught an accepted trace of its point, or the point has none any more. -/
def execTraceCaptureComplete (lane : PortLane) (empty : Bool) (s : State) : Out :=
  let n := lane.val
  let t := (s.dev.lane n).caught
  let ok := (s.dev.lane n).capturing && t.isNone == empty && (t.isSome || !s.dev.on (stTrcValid (s.dev.capturePoint n)))
  .next { s with dev := s.dev.when ok (fun d => d.capDone n t) }

end Sys2Proof.Machine
end

