-- ==== Sys2Proof/Machine/Ingress.lean ====
section
/-! DEFINITION. Containers on their way into the fabric: the monitoring of received VCs (R224 to R226, R394), their realignment into the
slots of a LINE lane's ingress frame (R197, R207 to R212), and the containers that the device writes itself (R214, R338, R339). -/

namespace Sys2Proof.Machine

/-! Received VCs (R224 to R226) -/

/-- Received bytes cut at the first bytes of VCs: what comes before the first of them, and each VC that begins. -/
def vcParts (l : List (Bool × Byte)) : List Byte × List (List Byte) :=
  l.foldr (fun x acc => if x.1 then ([], (x.2 :: acc.1) :: acc.2) else (x.2 :: acc.1, acc.2)) ([], [])

/-- A structured point whose H4 is evaluated (R227, R230). -/
def Dev.h4Live (d : Dev) (k : Nat) : Bool :=
  isHo k && d.structured (hoOf k) && d.pstate k == psNorm && !d.ownFail k && !d.sectionHeld k

/-- The H4 of a VC of a structured point (R227). -/
def Dev.h4Received (d : Dev) (k h4 : Nat) : Dev :=
  d.when (d.h4Live k) (fun e =>
    (e.setPath k { e.path k with mf := (e.path k).mf.step 4 (h4 % 4) }).put (stMfi k) (h4 % 4))

/-- A VC has been received whole: its violations and its REI are counted, and every run goes on. -/
def Dev.vcReceived (d : Dev) (k : Nat) (vc : List Byte) : Dev :=
  let p := d.path k
  let u := d.pointUnit k
  let ho := isHo k
  let v5 := (u.poh vc 0).toNat
  let g1 := (u.poh vc rowG1).toNat
  let v := match p.bip with
    | some own => u.violations own vc
    | none => 0
  let rei := if u.isTu1x then v5 / 32 % 2 else if g1 / 16 ≤ 8 then g1 / 16 else 0
  let t := p.trace.byte (d.pathMode k) (u.poh vc (if u.isTu1x then 1 else 0))
  let d1 := d.setPath k { p with
    bip := some (u.parity vc), lastViolations := v, trace := t.1,
    label := p.label.next (if u.isTu1x then v5 / 2 % 8 else (u.poh vc rowC2).toNat),
    rdiRun := p.rdiRun.next (if u.isTu1x then v5 % 2 else g1 / 8 % 2),
    rfiRun := if u.isTu1x then p.rfiRun.next (v5 / 16 % 2) else {},
    k3 := if u.isTu1x then {} else p.k3.next ((u.poh vc rowK3).toNat / 16) }
  let kind := if ho then 1 else 2
  let i := if ho then k else k - 18432
  let one (n : Nat) : Nat := Nat.min 1 n
  let d2 := (((d1.count kind i 0 v).count kind i 1 (one v)).count kind i 2 rei).count kind i 3 (one rei)
  (d2.h4Received k (u.poh vc rowH4).toNat).when (v != 0 && d2.on (pmPoint k F.pmPtSdsfEn)) (fun e =>
    (e.estAdd (estKeyPoint k 0) v).estAdd (estKeyPoint k 1) v)

/-- What a point received in a frame. A realigned container's bytes wait for their slots, those of a container that has just failed too; a VC of any other length than its own is not
judged, and starts every count anew. -/
def Dev.pathFrame (d : Dev) (f : PathFrame) : Dev :=
  let k := pointKey f.point
  let p := d.path k
  if !d.monEn k then d
  else if !d.overheadLive k then
    d.setPath k { p with lastViolations := 0, vc := none, bip := none, label := {}, rdiRun := {}, rfiRun := {}, k3 := {},
                         trace := { p.trace with part := none, count := 0 },
                         tail := p.tail.map (fun t => (t.1, t.2 ++ f.bytes)),
                         queue := if d.realigned k && d.pstate k == psNorm && !d.ownFail k then p.queue ++ f.bytes else p.queue }
  else
    let x := vcParts f.bytes
    let head := p.vc.map (fun l => l ++ x.1)
    let ended := if x.2.isEmpty then [] else head.toList ++ x.2.dropLast
    let q : PathSt := { p with vc := if x.2.isEmpty then head else x.2.getLast?,
                               queue := if d.realigned k then p.queue ++ f.bytes else [] }
    ended.foldl (fun e vc =>
      if vc.length = (e.pointUnit k).vcLen then e.vcReceived k vc
      else e.setPath k { e.path k with bip := none, lastViolations := 0 }) (d.setPath k q)

/-! Realignment (R195, R197, R207 to R211) -/

/-- A frame being poured: the place of the VC, the bytes that wait, and the bytes written, last first. -/
structure Pour where
  track : Track
  queue : List (Bool × Byte)
  out : List (Nat × Byte)

/-- The pointer word of a realigned container. -/
def Track.sent (t : Track) : Nat :=
  match t.next, t.val with
  | .new v, _ => PtrAct.word (.new v) 0
  | a, some v => a.word v
  | _, none => 0xFFFF

/-- One slot of a realigned container; `ones` says that the frame began without a VC in place. A byte that begins a VC waits for the
place where one begins; a slot without a byte to take is left unwritten. -/
def Pour.slot (x : Pour) (k : UnitKind) (ones : Bool) (s : Nat) (r : SlotRole) : Pour :=
  let t := x.track.slot k r
  let put (b : Byte) : Pour := { x with track := t.1, out := (s, b) :: x.out }
  match r, t.2 with
  | .h1, _ => put (BitVec.ofNat 8 (x.track.sent / 256))
  | .h2, _ => put (BitVec.ofNat 8 x.track.sent)
  | .fixed, _ => put (if k.isTu1x then 0 else if (s - 51840) / 64 < 3 then 0x9B else 0xFF)
  | _, .stuff => put 0
  | _, .pointer => put 0
  | _, .byte none => if ones then put 0xFF else { x with track := t.1 }
  | _, .byte (some o) =>
    match (if o = 0 then x.queue.dropWhile (fun y => !y.1) else x.queue) with
    | (m, b) :: rest => if m && o ≠ 0 then { x with track := t.1 } else { put b with queue := rest }
    | [] => { x with track := t.1, queue := [] }

/-- The bytes of a container that may wait at a frame's end: those of 5.5 of its 125 µs, and one (R212; DEDUCED,
notes/assumptions/133). -/
def UnitKind.waiting (k : UnitKind) : Nat :=
  let perFrame := if k.isTu1x then k.vcLen / 4 else k.vcLen
  (perFrame * 11 + 249) / 250 + 1

/-- A frame of unit `u` poured from a place of the VC and the bytes that wait. -/
def FabricUnit.pour (u : FabricUnit) (mf : Nat) (ones : Bool) (t : Track) (queue : List (Bool × Byte)) : Pour :=
  (u.layout mf).foldl (fun (a : Pour) l => a.slot u.kind ones l.1 l.2) ⟨t, queue, []⟩

/-- The part of the frame that container `u` was given before it failed (R232): the rest is filled with all-ones. -/
def Dev.pourTail (d : Dev) (q mf : Nat) (u : FabricUnit) : Dev :=
  let k := unitPoint q u
  match (d.path k).tail with
  | none => d
  | some t => (d.setPath k { d.path k with tail := none }).ingressWrite q (u.pour mf false t.1 t.2).out

/-- The bytes of unit `u` of LINE lane `q` are written into the frame that edge `edge` began; `mf` is its place in the multiframe. A
pointer action that waits for this frame is carried (R210, R211). -/
def Dev.pourUnit (d0 : Dev) (q mf edge : Nat) (u : FabricUnit) : Dev :=
  let d := d0.pourTail q mf u
  let k := unitPoint q u
  let p := d.path k
  if !(d.realigned k && d.pstate k == psNorm && !d.ownFail k) then d
  else
    let starts := !u.kind.isTu1x || mf == 0
    let due := p.due.filter (fun x => starts && decide (x.1 ≤ edge))
    let t0 : Track := if starts then { p.track with next := match due with
      | some x => x.2
      | none => .same } else p.track
    let x := u.pour mf p.track.val.isNone t0 p.queue
    let d1 := d.setPath k { p with track := x.track, queue := x.queue.drop (x.queue.length - u.kind.waiting), due := if due.isSome then none else p.due,
                                   acted := if due.isSome then some edge else p.acted }
    let d2 := match x.track.val with
      | some v => d1.when (x.track.val != p.track.val) (fun e => e.put (stFptr k) v)
      | none => d1
    d2.ingressWrite q x.out

/-! Containers that the device writes (R214, R338, R339) -/

/-- H4 of the VC that begins in row 3 of a frame at place `mf` of the multiframe: its phase counts on to the VC that carries the next of
V1 to V4 (R196; upper bits PRESUMED, notes/assumptions/131). -/
def h4Of (mf : Nat) : Byte := BitVec.ofNat 8 (0xFC + (mf + 1) % 4)

/-- A container of port `q` that the device writes in place: its overhead is computed over the bytes of the frame in progress. -/
def Dev.makeArea (d : Dev) (q mf : Nat) (u : FabricUnit) (g : PohGen) : Dev :=
  let key := areaKey q u
  let x := Store.get (fun _ => {}) d.made key
  let r := x.pass u mf g (fun _ => {}) (d.panByte d.inFill q)
  let own := (u.layout mf).zip r.2
  let changed := own.filterMap (fun y => if d.panByte d.inFill q y.2.1 = y.2.2 then none else some y.2)
  ({ d with made := Store.set (fun _ => {}) d.made key r.1 } : Dev).ingressWrite q changed

/-- The structured containers of LINE lane `q` (R209, R214, R231): pointer 0, and overhead over the TUs that they carry. An AU that is
IDLE holds 0x00 (R200). -/
def Dev.makeStructured (d : Dev) (q mf : Nat) : Dev :=
  (d.portStructs q).foldl (fun e u =>
    let k := unitPoint q u
    if e.pstate k = psIdle then e
    else
      let ptr := (List.range 9).filterMap (fun j =>
        let s := pointerSlot u.g j
        if u.slots.contains s then some (s, auPointerByte (u.kind == .au3) j) else none)
      let free := u.slots.filter (fun s => !decide (s / 17280 = 3 ∧ s % 17280 < 576)
        && !(e.portUnits q).any (fun t => t.slots.contains s))
      (e.ingressWrite q (ptr ++ free.map (fun s => (s, (0 : Byte))))).makeArea q mf u
        (.fabric (BitVec.ofNat 8 (e.get (stC2 k))) (h4Of mf))) d

/-- The frame that ends on LINE lane `q` takes the bytes of its containers. -/
def Dev.pourLane (d : Dev) (q mf edge : Nat) : Dev :=
  ((d.portUnits q).foldl (fun e u => e.pourUnit q mf edge u) d).makeStructured q mf

/-- A unit of flow port `q` as its source writes it, and whether its other bytes are 0x00 (R338, R339). -/
def Dev.flowUnit (d : Dev) (ws : List W32) (members : List Nat) (mf : Nat) (u : FabricUnit) : List (Nat × Byte) × Bool :=
  match members.find? (fun i => d.unitOf ws i == some u) with
  | none => (u.pointerBytes mf, true)
  | some i => (u.pointerBytes mf, !(d.member i).pays)

/-- The pointer bytes that the source of flow port `q` writes, and the first slots of the units whose other bytes are 0x00. -/
def Dev.flowPortFrame (d : Dev) (q mf : Nat) : List (Nat × Byte) × List Nat :=
  let ws := d.structWords q
  let members := d.enabledMembers.filter (fun i => !d.memSink i && d.get (F.memFport.at 8 i) == q - 96)
  let us := (unitsOf ws 64).map (fun u => (u, d.flowUnit ws members mf u))
  (us.flatMap (fun x => x.2.1) ++ structTops ws 64,
    (us.filter (fun x => x.2.2)).map (fun x => x.1.slots.headD 0))

/-- R214, R339: the overhead of the members and of the structured containers of flow port `q` in the frame that ends. The C2 of a
structured container is a free value: no C2 is accepted there. -/
def Dev.makeFlowPort (d : Dev) (q mf : Nat) : Dev :=
  let ws := d.structWords q
  let members := d.enabledMembers.filter (fun i => !d.memSink i && d.get (F.memFport.at 8 i) == q - 96)
  let d1 := (unitsOf ws 64).foldl (fun e u =>
    match members.find? (fun i => e.unitOf ws i == some u) with
    | none => e
    | some i =>
      e.makeArea q mf u (e.memberGen i)) d
  (structsOf ws 64).foldl (fun e u =>
    e.makeArea q mf u (.fabric (Config.content e.inFill.base (areaKey q u)) (h4Of mf))) d1

/-- R214, R224, R338: the frame that ends is filled: what LINE lanes and flow ports write into it. -/
def Dev.fillFrame (d : Dev) (mf edge : Nat) : Dev :=
  let d1 := d.each 96 (fun e q => e.when ((e.lane q).isLine && e.inFill.live.contains q) (fun x => x.pourLane q mf edge))
  (List.range 8).foldl (fun e i => e.when (e.inFill.live.contains (96 + i)) (fun x => x.makeFlowPort (96 + i) mf)) d1

end Sys2Proof.Machine
end

