-- ==== Sys2Proof/Machine/MateBlocks.lean ====
section
/-! DEFINITION. The payloads of DIGEST, STATE and CONTROL blocks (R499), each as 264 bytes, most significant byte first (R9). -/

namespace Sys2Proof.Machine

/-- A payload filled up with the bytes that its format does not use (R245). -/
def payload264 (l : List Byte) : List Byte := (l ++ List.replicate 264 0).take 264

/-- The number in the `n` payload bytes from byte `i` on. -/
def fieldAt (l : List Byte) (i n : Nat) : Nat := numOf ((l.drop i).take n)

/-! STATE records -/

/-- The STATE record in 16 bytes. -/
def stateRecordOf (l : List Byte) : StateRecord :=
  { kind := BitVec.ofNat 8 (fieldAt l 0 1), mask := BitVec.ofNat 8 (fieldAt l 1 1), key := BitVec.ofNat 40 (fieldAt l 2 5),
    data0 := BitVec.ofNat 32 (fieldAt l 8 4), data1 := BitVec.ofNat 32 (fieldAt l 12 4) }

/-- The 16 bytes of a STATE record. -/
def StateRecord.bytes (r : StateRecord) : List Byte :=
  [r.kind, r.mask] ++ bytesOf 5 r.key.toNat ++ [0] ++ bytesOf 4 r.data0.toNat ++ bytesOf 4 r.data1.toNat

/-- The records of a payload of a STATE block of records. -/
def stateRecordsOf (l : List Byte) : List StateRecord :=
  (List.range (Nat.min 16 (fieldAt l 6 1))).map (fun i => stateRecordOf ((l.drop (8 + 16 * i)).take 16))

/-- The payload of block `i` of epoch `e`, with at most 16 records. -/
def statePayload (e i : Nat) (rs : List StateRecord) : List Byte :=
  payload264 (bytesOf 4 e ++ bytesOf 2 i ++ bytesOf 1 rs.length ++ [0] ++ rs.flatMap StateRecord.bytes)

/-- The payload of an END block with these bytes of its epoch, its blocks, its records and its CRC-32. -/
def endBytes (epoch blocks records crc : List Byte) : List Byte := payload264 (epoch ++ blocks ++ [0, 0] ++ records ++ crc)

/-- The payload of the END block of epoch `e`, whose record blocks have the payloads `l`. -/
def endPayload (e : Nat) (l : List (List Byte)) : List Byte :=
  endBytes (bytesOf 4 e) (bytesOf 2 l.length) (bytesOf 4 (l.foldl (fun a p => a + (stateRecordsOf p).length) 0))
    (bytesOf 4 (crc32 l.flatten))

/-- The record blocks of an epoch's records, 16 to a block. -/
def stateBlocksOf (e : Nat) (rs : List StateRecord) : List (List Byte) :=
  (List.range ((rs.length + 15) / 16)).map (fun i => statePayload e i ((rs.drop (16 * i)).take 16))

/-- FIELD8 of a STATE block. -/
def stateField8 (ends snap : Bool) : Byte := BitVec.ofNat 8 (bitOf ends * 128 + bitOf snap * 64)

/-- The payloads that have arrived for epoch `e`, in index order. -/
def epochBlocks (rx : List (Nat × Nat × List Byte)) (e : Nat) : List (List Byte) :=
  let own := rx.filter (fun x => x.1 == e)
  (List.range own.length).filterMap (fun i => (own.find? (fun x => x.2.1 == i)).map (fun x => x.2.2))

/-- An END payload matches the record blocks that have arrived for its epoch: their number, their records and the CRC-32 over them in index
order (R492, R499). -/
def endMatches (rx : List (Nat × Nat × List Byte)) (l : List Byte) : Bool :=
  let own := epochBlocks rx (fieldAt l 0 4)
  own.length == fieldAt l 4 2 && (own.flatMap stateRecordsOf).length == fieldAt l 8 4 && crc32 own.flatten == fieldAt l 12 4

/-! DIGEST blocks -/

/-- The key of a path point in a DIGEST block, and the point that a key names. -/
def digestKey (k : Nat) : Nat := if k < 18432 then k else 0x80_0000 + (k - 18432)
def digestPoint (key : Nat) : Nat := if key / 0x80_0000 = 1 then 18432 + key % 0x10_0000 else key % 0x10_0000

/-- The payload for the reports of consecutive reported points in frame `f`, the first of which is point `k`. -/
def digestPayload (f k : Nat) (l : List W32) : List Byte :=
  payload264 (bytesOf 2 f ++ bytesOf 3 (digestKey k) ++ [0, 0, 0] ++ l.flatMap (fun v => bytesOf 4 v.toNat))

/-- The reports of a payload with `n` of them. -/
def digestReports (n : Nat) (l : List Byte) : List W32 :=
  (List.range (Nat.min 64 n)).map (fun i => BitVec.ofNat 32 (fieldAt l (8 + 4 * i) 4))

/-! CONTROL blocks -/

/-- The payload of a CONTROL block that mate lane `lane` sends. -/
def controlPayload (lane : Nat) (l : List Byte) : List Byte := payload264 (BitVec.ofNat 8 lane :: l)

/-- What a HEARTBEAT block says. -/
structure Heartbeat where
  role : Nat
  slot : Bool
  suspect : Bool
  lid0High : Bool
  lid1High : Bool
  interlock : Bool
  service : Bool
  shed : Nat
  seq : Nat
  epoch : Nat
deriving DecidableEq, Repr

/-- The HEARTBEAT block with this payload. -/
def heartbeatOf (l : List Byte) : Heartbeat :=
  let b := l.getD 1 0
  { role := (b.extractLsb' 0 2).toNat, slot := b.getLsbD 2, suspect := b.getLsbD 3, lid0High := b.getLsbD 4, lid1High := b.getLsbD 5,
    interlock := b.getLsbD 6, service := b.getLsbD 7, shed := fieldAt l 2 1, seq := fieldAt l 3 4, epoch := fieldAt l 7 4 }

/-- The change that an entry of an APPLY block names; an entry for no group or selector names none. -/
def applyItemOf (w : W32) : Option ProtItem :=
  if getF w 31 1 = 1 then
    (if getF w 16 6 < 48 then some (.k (getF w 16 6) (w.extractLsb' 8 8) (w.extractLsb' 0 8)) else none)
  else if getF w 0 30 < 262144 then some (.sel (getF w 0 30) (getF w 30 1 == 1)) else none

/-- The changes of an APPLY payload, of which 64 entries find room. -/
def applyItemsOf (l : List Byte) : List ProtItem :=
  (List.range (Nat.min 64 (fieldAt l 5 2))).filterMap (fun i => applyItemOf (BitVec.ofNat 32 (fieldAt l (7 + 4 * i) 4)))

/-- A CONTROL block arrives on mate lane `on` of a paired device (R460): the number of another lane excludes the lane from the pair; a lane
that is excluded, not used or not in FRAME brings nothing; otherwise it has the effect `f`. -/
def Dev.controlArrives (d : Dev) (on : MateLane) (payload : List Byte) (f : Dev → Dev) : Dev :=
  if d.get F.mateStatRole = 0 then d
  else if !d.inFrame (96 + on.val) || d.mate.excluded.contains on.val then d
  else if fieldAt payload 0 1 ≠ on.val then
    ({ d with mate := { d.mate with excluded := d.mate.excluded ++ [on.val] } } : Dev).raise F.mateEvtWiring
  else d.when ((d.get F.mateCfgLanes).testBit on.val) f

/-- Messages wait for blocks of the mate lanes (R500). -/
def Dev.mateQueue (d : Dev) (l : List MateMsg) : Dev :=
  if d.get F.mateStatRole = 0 then d else { d with mate := { d.mate with out := d.mate.out ++ l } }

/-- A CONTROL message, whose payload holds `l` from byte 1 on; any mate lane may carry it. -/
def Dev.mateSay (d : Dev) (kind : Nat) (l : List Byte) : Dev :=
  d.mateQueue [{ since := d.now, type := 5, field8 := BitVec.ofNat 8 kind, load := l }]

/-- An entry of an APPLY block. -/
def applyEntryBytes : ProtItem → List Byte
  | .sel i leg => bytesOf 4 (bitOf leg * 0x4000_0000 + i)
  | .k g k1 k2 => bytesOf 4 (0x8000_0000 + g * 0x1_0000 + k1.toNat * 0x100 + k2.toNat)
  | .chan _ _ => []

/-- ECHO, from byte 1 on: a request or a reply, the sender's time base, and the receiver's at arrival. -/
def echoLoad (reply : Bool) (t arrival : Nat) : List Byte := BitVec.ofNat 8 (bitOf reply) :: (bytesOf 8 t ++ bytesOf 8 arrival)

/-- SELFCHK: the result, the items that fail, and the port lanes with CDR lock and receive alignment. -/
def Dev.selfLoad (d : Dev) : List Byte :=
  let well (n : Nat) : Bool := (d.lane n).cdrSince.isSome && !d.defect n defOof
  BitVec.ofNat 8 (d.get F.mateSelfchkLocal + 4 * d.get F.mateSelfchkFail)
    :: bytesOf 12 ((List.range 96).foldl (fun a n => a + bitOf (well n) * 2 ^ n) 0)

def Dev.saySelfCheck (d : Dev) : Dev := d.mateSay 3 d.selfLoad

end Sys2Proof.Machine
end

