-- ==== Sys2Proof/Machine/ProtOps.lean ====
section
/-! DEFINITION. Protection decisions (10_line_and_path_protection.md): requests and their order, the decision of a group or
selector, the judgement of commands, and what is applied at an `FP8K` edge. -/

namespace Sys2Proof.Machine

/-! Requests (R433, R434) -/

/-- A request: its rank and its channel. -/
structure Req where
  rank : Nat
  ch : Nat
deriving DecidableEq, Repr

/-- The ranks of R433. -/
def rkLockout : Nat := 1
def rkForced : Nat := 3
def rkManual : Nat := 8
def rkWtr : Nat := 9
def rkExercise : Nat := 10
def rkDnr : Nat := 12
def rkNr : Nat := 13

/-- The code of a rank. -/
def reqCode (rank : Nat) : Nat :=
  match rank with
  | 1 => 15
  | 2 => 12
  | 3 => 14
  | 4 => 13
  | 5 => 12
  | 6 => 11
  | 7 => 10
  | 8 => 8
  | 9 => 6
  | 10 => 4
  | 11 => 2
  | 12 => 1
  | _ => 0

/-- The code of RR. -/
def codeRr : Nat := 2

/-- The request that a received code and channel make; RR asks for nothing by itself. -/
def receivedReq (code ch : Nat) : Req :=
  match code with
  | 15 => ⟨rkLockout, 0⟩
  | 14 => ⟨rkForced, ch⟩
  | 13 => ⟨if ch = 0 then 2 else 4, ch⟩
  | 12 => ⟨if ch = 0 then 2 else 5, ch⟩
  | 11 => ⟨if ch = 0 then 7 else 6, ch⟩
  | 10 => ⟨7, ch⟩
  | 8 => ⟨rkManual, ch⟩
  | 6 => ⟨rkWtr, ch⟩
  | 4 => ⟨rkExercise, ch⟩
  | 1 => ⟨rkDnr, ch⟩
  | _ => ⟨rkNr, 0⟩

/-- R434: of equal rank the protection channel wins, then the lowest channel. -/
def Req.before (a b : Req) : Bool := decide (a.rank < b.rank) || (a.rank == b.rank && decide (a.ch < b.ch))

def bestReq (l : List Req) : Req := l.foldl (fun a b => if b.before a then b else a) ⟨rkNr, 0⟩

/-- The failure request of a raised condition; `prio` lists the channels with `PRIO` = 1. -/
def failReq (prio : List Nat) (c : Nat × Bool) : Req :=
  if c.1 = 0 then ⟨if c.2 then 2 else 7, 0⟩
  else if c.2 then ⟨if prio.contains c.1 then 4 else 5, c.1⟩
  else ⟨if prio.contains c.1 then 6 else 7, c.1⟩

/-- The local requests of a group or selector. -/
def ProtSt.requests (p : ProtSt) (prio : List Nat) : List Req :=
  (if p.lockout then [⟨rkLockout, 0⟩] else []) ++ p.raised.map (failReq prio)
    ++ (p.forced.map (fun c => (⟨rkForced, c⟩ : Req))).toList ++ (p.manual.map (fun c => (⟨rkManual, c⟩ : Req))).toList
    ++ (p.wtr.map (fun c => (⟨rkWtr, c.1⟩ : Req))).toList ++ (p.exercise.map (fun c => (⟨rkExercise, c⟩ : Req))).toList
    ++ (p.dnr.map (fun c => (⟨rkDnr, c⟩ : Req))).toList

def ProtSt.localReq (p : ProtSt) (prio : List Nat) : Req := bestReq (p.requests prio)

/-! The decision -/

/-- The configuration that a decision follows; the durations are in ticks. -/
structure ProtCfg where
  revert : Bool
  holdoff : Nat
  wtr : Nat
  prio : List Nat
deriving DecidableEq, Repr

/-- The hold-off of the onset `x` has ended, or none runs: it is 0, or a WTR runs on the channel, or is about to, its failure
having cleared (R439, R441). -/
def ProtSt.due (p : ProtSt) (cfg : ProtCfg) (resumed now : Nat) (x : Nat × Bool × Nat) : Bool :=
  decide (Nat.max x.2.2 resumed + cfg.holdoff ≤ now) || cfg.holdoff == 0
    || (p.fail == some x.1 && !p.raised.any (fun y => y.1 == x.1)) || (p.wtr.map (fun w => w.1)) == some x.1

/-- R439, R441: conditions whose hold-off has ended are raised; on the channel of a WTR at once. -/
def ProtSt.raise (p : ProtSt) (cfg : ProtCfg) (resumed now : Nat) : ProtSt :=
  let new := (p.onset.filter (p.due cfg resumed now)).map (fun x => (x.1, x.2.1))
  { p with raised := p.raised ++ new.filter (fun x => !p.raised.contains x) }

/-- The request in force, of the local one and the received one `r` (R452). -/
def ProtSt.inForce (p : ProtSt) (prio : List Nat) (r : Req) : Req :=
  let l := p.localReq prio
  if r.before l then r else l

/-- R435: a MANUAL or EXERCISE is dropped when a request of higher rank comes into force. -/
def ProtSt.dropBelow (p : ProtSt) (w : Req) : ProtSt :=
  { p with manual := if w.rank < rkManual then none else p.manual,
           exercise := if w.rank < rkExercise then none else p.exercise }

/-- R441, R442: what follows a failure. A request of higher rank ends WTR and DNR; the failure that made the switch,
once cleared with no other request, starts one of them. -/
def ProtSt.afterFailure (p : ProtSt) (cfg : ProtCfg) (r w : Req) (now : Nat) : ProtSt :=
  if w.rank < rkWtr then
    let own : Bool := !r.before (p.localReq cfg.prio) && decide (4 ≤ w.rank ∧ w.rank ≤ 7) && w.ch != 0
    { p with fail := if own then some w.ch else none, wtr := none, dnr := none }
  else
    match p.fail with
    | some c =>
      if cfg.revert then { p with fail := none, wtr := some (c, now) } else { p with fail := none, dnr := some c }
    | none => p

/-- R433 to R442, R452: a decision with the received request `r`; the channel that it selects from protection. EXERCISE
leaves the selection. -/
def ProtSt.evaluate (p : ProtSt) (cfg : ProtCfg) (r : Req) (resumed now : Nat) : ProtSt × Nat :=
  let p1 := p.raise cfg resumed now
  let w1 := p1.inForce cfg.prio r
  let p2 := (p1.dropBelow w1).afterFailure cfg r w1 now
  let w2 := p2.inForce cfg.prio r
  (p2, if w2.rank = rkExercise then p2.selected else w2.ch)

/-! The device's part -/

/-- Decisions are taken: the unit is in service, in a mode that decides, and the role follows the protection (R426,
R462, R464, R475). -/
def Dev.evaluates (d : Dev) : Bool :=
  d.eff 0xF == 2 && decidingMode d.mode && d.role != roleRejoin && !d.on F.mateStatIsolated

/-- Its decisions change `SEL` and K (R464, R480). -/
def Dev.decides (d : Dev) : Bool := d.evaluates && d.role != roleStandby

/-- R479: the sequence number of the frame whose edge applies a decision. -/
def Dev.applyTarget (d : Dev) : Nat := (d.seqNow + if d.role = roleActive then 2 else 1) % 0x1_0000_0000

/-- APPLY blocks for entries that apply at the edge of frame `target`, at most 64 to a block (R479, R499). -/
def Dev.sayApply (d : Dev) (target : Nat) (entries : List (List Byte)) : Dev :=
  (List.range ((entries.length + 63) / 64)).foldl (fun e i =>
    let l := (entries.drop (64 * i)).take 64
    e.mateSay 2 (bytesOf 4 target ++ bytesOf 2 l.length ++ l.flatten)) d

/-- A decided change waits for its edge; an ACTIVE sends it to its mate at once (R479). -/
def Dev.protItem (d : Dev) (x : ProtItem) : Dev :=
  let e := applyEntryBytes x
  ({ d with applies := d.applies ++ [(d.applyTarget, x)] } : Dev).when (d.role == roleActive && !e.isEmpty) (fun y =>
    y.sayApply d.applyTarget [e])

def tenthSecond : Nat := 62208000
def minuteTicks : Nat := 60 * ticksPerSecond

def holdTicks (v : Nat) : Nat := v * tenthSecond
def wtrTicks (v : Nat) : Nat := v * minuteTicks

/-! MSP -/

def Dev.mspCfg (d : Dev) (g : Nat) : ProtCfg :=
  { revert := d.on (grpField F.protMspCfgRevert g), holdoff := holdTicks (d.get (grpField F.protMspCfgHoldoff g)),
    wtr := wtrTicks (d.get (grpField F.protMspCfgWtr g)),
    prio := ((List.range (d.mspN g)).map (fun c => c + 1)).filter (d.mspPrio g) }

/-- R444: an enabled group cannot act: a lane twice, in two groups or not a LINE lane, or lanes of unlike rate or path
structure. -/
def Dev.mspBad (d : Dev) (g : Nat) : Bool :=
  let ls := d.mspLanes g
  let p := d.mspLane g 0
  let others := ((d.mspGroupsOn).filter (fun h => h != g)).flatMap d.mspLanes
  ls.any (fun n => decide (96 ≤ n) || !(d.lane n).isLine || (d.lane n).rate != (d.lane p).rate
      || d.structWords n != d.structWords p || others.contains n)
    || decide (ls.eraseDups.length ≠ ls.length)

def Dev.mspActs (d : Dev) (g : Nat) : Bool := d.mspOn g && !d.mspBad g

/-- The accepted received request: code and channel (R451, R453). -/
def Dev.received (d : Dev) (g : Nat) : Nat × Nat :=
  if d.kUsable g then
    let v := (d.soh (d.mspLane g 0)).kLast
    (v / 16, v % 16)
  else (0, 0)

/-- The received request that the group acts on (R452, R453). -/
def Dev.remoteReq (d : Dev) (g : Nat) : Req :=
  if d.bidir g && (d.mspSt g).pam.isEmpty then receivedReq (d.received g).1 (d.received g).2 else ⟨rkNr, 0⟩

/-- R450, R452: K1 and K2 as the group sends them. -/
def Dev.kBytes (d : Dev) (g : Nat) (p : ProtSt) (selected : Nat) : Byte × Byte :=
  let r := d.remoteReq g
  let l := p.localReq (d.mspCfg g).prio
  let own := if r.before l && decide (r.rank < l.rank) then codeRr * 16 + r.ch else reqCode l.rank * 16 + l.ch
  let bridged := if d.oneToN g then selected else (d.received g).2
  (BitVec.ofNat 8 own, BitVec.ofNat 8 (bridged * 16 + bitOf (d.oneToN g) * 8 + (if d.bidir g then 5 else 4)))

/-- The onsets whose hold-off runs. -/
def ProtSt.waiting (p : ProtSt) (cfg : ProtCfg) (resumed now : Nat) : List (Nat × Bool × Nat) :=
  p.onset.filter (fun x => !p.raised.contains (x.1, x.2.1) && !p.due cfg resumed now x)

/-- A hold-off runs. -/
def ProtSt.holding (p : ProtSt) (cfg : ProtCfg) (resumed now : Nat) : Bool := !(p.waiting cfg resumed now).isEmpty

/-- `MSP_STATg` with `HOLD`, `WTR_RUN` and `CFG_ERR` as they stand. -/
def Dev.mspStatWord (d : Dev) (g : Nat) : W32 :=
  let p := d.mspSt g
  let w := d.word (Reg.protMspStat + 0x40 * g)
  if d.mspOn g then
    putF (putF (putF w 24 1 (bitOf (d.mspActs g && p.holding (d.mspCfg g) d.modes.resumed d.now))) 25 1 (bitOf p.wtr.isSome)) 27 1 (bitOf (d.mspBad g))
  else w

/-- Group `g` has changed (R457). -/
def Dev.mspChanged (d : Dev) (g : Nat) : Dev :=
  (d.raise F.protEvtMspChg).raise ⟨if g < 32 then Reg.protMspChg0 else Reg.protMspChg1, g % 32, 1⟩

/-- `MSP_STATg` follows the group. -/
def Dev.mspShow (d : Dev) (g : Nat) : Dev :=
  let p := d.mspSt g
  let l := p.localReq (d.mspCfg g).prio
  let a := Reg.protMspStat + 0x40 * g
  let f (x : Field) : Field := grpField x g
  let d1 := if d.mspOn g then
      (((((((d.put (f F.protMspStatLocalReq) (reqCode l.rank)).put (f F.protMspStatLocalCh) l.ch).put
        (f F.protMspStatRemoteReq) (d.received g).1).put (f F.protMspStatRemoteCh) (d.received g).2).put
        (f F.protMspStatBridged) (if d.oneToN g then p.selected else bitOf (d.mspActs g))).put
        (f F.protMspStatSelected) p.selected).put (f F.protMspStatPam) (bitOf (!p.pam.isEmpty)))
    else d.setWord a 0
  let d2 := d1.setWord a (d1.mspStatWord g)
  d2.when (d2.word a != d.word a) (fun e => e.mspChanged g)

/-- The changes of `SEL` of the MSP_RX selectors of group `g` as it leaves channel `was` for `now` (R446). -/
def Dev.chanItems (d : Dev) (g was now : Nat) : List ProtItem :=
  let own (c : Nat) : List Nat := d.ownedSelectors.filter (fun i =>
    c != 0 && d.selOwner i == 2 && d.selGet F.selGroup i == g && d.selGet F.selChannel i == c)
  (own was).map (fun i => .sel i false) ++ (own now).map (fun i => .sel i true)

/-- A decision of group `g` (R440, R450 to R453). -/
def Dev.mspDecide (d0 : Dev) (g : Nat) : Dev :=
  let d := d0.setMsp g ((d0.mspSt g).see (d0.mspConds g) d0.now)
  let p := d.mspSt g
  let r := p.evaluate (d.mspCfg g) (d.remoteReq g) d.modes.resumed d.now
  if !d.decides then (d.setMsp g r.1).mspShow g
  else
    let k := d.kBytes g r.1 r.2
    let d1 := d.setMsp g { r.1 with selected := r.2, k1 := k.1, k2 := k.2 }
    let d2 := d1.when (r.2 != p.selected) (fun e =>
      ((e.protItem (.chan g r.2)).when (e.role == roleActive) (fun x =>
        x.sayApply e.applyTarget ((e.chanItems g p.selected r.2).map applyEntryBytes))).bump (grpField F.protMspSwcSwitches g) 1)
    ((d2.when (k != (p.k1, p.k2)) (fun e => e.protItem (.k g k.1 k.2))).mspShow g).note 3 g

/-! SNCP -/

def Dev.sncCfg (d : Dev) (i : Nat) : ProtCfg :=
  let n := d.sncProfile i
  { revert := d.on (sncProf F.protSncProfRevert n), holdoff := holdTicks (d.get (sncProf F.protSncProfHoldoff n)),
    wtr := wtrTicks (d.get (sncProf F.protSncProfWtr n)), prio := [] }

def sncField (f : Field) (i : Nat) : Field := f.at 4 i

/-- A decision of selector `i` (R454). -/
def Dev.sncDecide (d0 : Dev) (i : Nat) : Dev :=
  let d := d0.setSnc i ((d0.sncSt i).see (d0.sncConds i) d0.now)
  let p := d.sncSt i
  let r := p.evaluate (d.sncCfg i) ⟨rkNr, 0⟩ d.modes.resumed d.now
  let dropped : Bool := p.manual.isSome && r.1.manual.isNone
  let show' (e : Dev) : Dev :=
    (e.put (sncField F.sncReq i) (reqCode (e.sncSt i |>.localReq []).rank)).when dropped (fun x => x.raise F.protEvtSncChg)
  if !d.decides then show' (d.setSnc i r.1)
  else
    (show' ((d.setSnc i { r.1 with selected := r.2 }).when (r.2 != p.selected) (fun e =>
      e.protItem (.sel i (r.2 != 0))))).note 2 i

/-- The leg in use of selector `i` changes (R457). A STANDBY takes it as its own selection (R479). -/
def Dev.sncSwitch (d : Dev) (i : Nat) (leg : Bool) : Dev :=
  let p := d.sncSt i
  let d1 := d.setSnc i { p with applied := bitOf leg, selected := if d.role = roleStandby then bitOf leg else p.selected }
  if d.on (sncField F.sncSel i) = leg then d1
  else
    ((((d1.put (sncField F.sncSel i) (bitOf leg)).bump (sncField F.sncSwitches i) 1).raise F.protEvtSncChg).put
      F.protSncLastIndex i).roll F.protSncSwitchesCount 1

/-! Targets -/

/-- A decision of a target falls due. -/
def Dev.protDecide (d : Dev) : ProtTarget → Dev
  | .msp g => d.when (d.evaluates && d.mspActs g.val) (fun e => e.mspDecide g.val)
  | .snc i => d.when (d.evaluates && d.selOwner i.val == 1) (fun e => e.sncDecide i.val)

def Dev.protSt (d : Dev) : ProtTarget → ProtSt
  | .msp g => d.mspSt g.val
  | .snc i => d.sncSt i.val

def Dev.setProt (d : Dev) (t : ProtTarget) (p : ProtSt) : Dev :=
  match t with
  | .msp g => d.setMsp g.val p
  | .snc i => d.setSnc i.val p

def Dev.protCfg (d : Dev) : ProtTarget → ProtCfg
  | .msp g => d.mspCfg g.val
  | .snc i => d.sncCfg i.val

/-! Commands (R435 to R438) -/

def resAccepted : Nat := 1
def resRefused : Nat := 2
def resArg : Nat := 3

/-- `PROT.REQ_RES` shows the result of a command. -/
def Dev.judged (d : Dev) (sncp panel : Bool) (target res : Nat) : Dev :=
  ((((d.put F.protReqResResult res).put F.protReqResSrc (bitOf panel)).put F.protReqResTarget target).put F.protReqResSncp
    (bitOf sncp)).raise F.protEvtReqDone

/-- The commands of `REQ`. -/
inductive ProtCmd where
  | clear | lockout | forced | manual | exercise
deriving DecidableEq, Repr

def protCmdOf (req : Nat) : Option ProtCmd :=
  match req with
  | 1 => some .clear
  | 2 => some .lockout
  | 3 => some .forced
  | 4 => some .manual
  | 5 => some .exercise
  | _ => none

/-- The value of `REQ` for a command. -/
def ProtCmd.code : ProtCmd → Nat
  | .clear => 1
  | .lockout => 2
  | .forced => 3
  | .manual => 4
  | .exercise => 5

/-- The rank of a command. -/
def ProtCmd.rank : ProtCmd → Nat
  | .clear => 0
  | .lockout => rkLockout
  | .forced => rkForced
  | .manual => rkManual
  | .exercise => rkExercise

/-- An accepted command is stored; CLEAR ends what is stored, and WTR. -/
def ProtSt.store (p0 : ProtSt) (c : ProtCmd) (ch now : Nat) : ProtSt :=
  let p := { p0 with command := c.code + 16 * ch }
  match c with
  | .clear => { p with lockout := false, forced := none, manual := none, exercise := none, wtr := none }
  | .lockout => { p with lockout := true }
  | .forced => { p with forced := some ch }
  | .manual => { p with manual := some ch }
  | .exercise => { p with exercise := some ch, exerciseAt := now }

/-- R435: a command that names a channel of 0 to `n` is accepted when no request of equal or higher rank is in force. -/
def ProtSt.judge (p : ProtSt) (prio : List Nat) (r : Req) (n : Nat) (c : ProtCmd) (ch : Nat) : Nat :=
  if n < ch ∨ (c = .lockout ∧ ch ≠ 0) then resArg
  else
    match c with
    | .clear => resAccepted
    | .lockout => resAccepted
    | _ => if (p.inForce prio r).rank ≤ c.rank then resRefused else resAccepted

/-- A command to group `g`. -/
def Dev.mspCommand (d : Dev) (panel : Bool) (g : Nat) (c : ProtCmd) (ch : Nat) : Dev :=
  let p := d.mspSt g
  let res := p.judge (d.mspCfg g).prio (d.remoteReq g) (d.mspN g) c ch
  (d.when (res == resAccepted) (fun e => (e.setMsp g (p.store c ch e.now)).note 4 g)).judged false panel g res

/-- A command to selector `i`: leg A is the working channel that a command with channel 0 selects (R438), and EXERCISE
only looks at leg B (R437). -/
def Dev.sncCommand (d : Dev) (panel : Bool) (i : Nat) (c : ProtCmd) (leg : Bool) : Dev :=
  let p := d.sncSt i
  let res := p.judge [] ⟨rkNr, 0⟩ 1 c (if c = .lockout then 0 else bitOf leg)
  let ok := res == resAccepted
  (if c = .exercise then
      d.when ok (fun e => e.put (sncField F.sncExerOk i) (bitOf (!e.legSf i true && !e.legSd i true)))
    else d.when ok (fun e => (e.setSnc i (p.store c (bitOf leg) e.now)).note 4 (i + 0x4_0000))).judged true panel i res

/-- R435: a write of `MSP_REQg`; NONE and the reserved values ask for nothing. -/
def Dev.writeMspReq (d : Dev) (g : Nat) (data : W32) : Dev :=
  match protCmdOf (getF data 0 4) with
  | some c => d.mspCommand false g c (getF data 4 4)
  | none => d

/-- R435: a write of `PROT.SNC_REQ`, for the selector that `PROT.SNC_IDX` names. -/
def Dev.writeSncReq (d : Dev) (data : W32) : Dev :=
  match protCmdOf (getF data 0 4) with
  | some c => d.sncCommand false (d.get F.protSncIdxIndex) c (getF data 4 1 == 1)
  | none => d

/-- R456: a MANUAL_SWITCH function. A MANUAL in force on the bound channel or leg is cleared. -/
def Dev.panelSwitch (d : Dev) (sncp : Bool) (target ch : Nat) : Dev :=
  if sncp then
    let on := (d.sncSt target).manual == some (ch % 2)
    d.sncCommand true target (if on then .clear else .manual) (ch % 2 == 1)
  else
    let on := (d.mspSt target).manual == some ch
    d.mspCommand true target (if on then .clear else .manual) ch

/-! Configuration (R430, R445, R458) -/

/-- The entry that a write of `MSP_CFGg` leaves: reads 1 where `ARCH` makes it 1 (R457). -/
def mspCfgWord (w : W32) : W32 :=
  if getF w 1 1 = 1 then putF (putF w 2 1 1) 3 1 1 else putF w 15 4 1

/-- R445: the place of a group. -/
def Dev.mspPlaceOk (d : Dev) (g : Nat) (w : W32) : Bool :=
  let en := getF w 0 1 == 1
  let arch := getF w 1 1 == 1
  let inside := g % 8 != 0 && d.mspOn (g / 8 * 8) && d.oneToN (g / 8 * 8)
  !en || (if arch then g % 8 == 0 && (List.range 7).all (fun i => !d.mspOn (g + 1 + i)) else !inside)

/-- R443, R458: a group whose `EN` falls keeps its stored commands only. -/
def ProtSt.disabled (p : ProtSt) : ProtSt :=
  { lockout := p.lockout, forced := p.forced, manual := p.manual, exercise := p.exercise, exerciseAt := p.exerciseAt }

/-- The decided changes of group `g` that wait for their edge. -/
def ProtItem.ofGroup (g : Nat) : ProtItem → Bool
  | .chan h _ => h == g
  | .k h _ _ => h == g
  | .sel _ _ => false

/-- R446, R458: `EN` of group `g` falls: it selects channel 0, and what it had decided is applied no more. -/
def Dev.mspOff (d : Dev) (g : Nat) : Dev :=
  let p := d.mspSt g
  let d1 : Dev := { d.setMsp g p.disabled with applies := d.applies.filter (fun x => !x.2.ofGroup g) }
  (d1.when (p.selected != 0) (fun e => e.bump (grpField F.protMspSwcSwitches g) 1)).mspShow g

/-- R444, R445, R450, R458: a write of `MSP_CFGg` (word 0) or `MSP_WORKg` (1 to 4). -/
def Dev.writeMspCfg (d : Dev) (g word : Nat) (data : W32) : Dev × Resp :=
  let a := Reg.protMspCfg + 0x40 * g + 4 * word
  if word ≠ 0 then (if d.mspOn g then (d, .slverr) else okay (d.regWrite a data))
  else
    let falls := getF data 0 1 == 0
    let w := mspCfgWord ((d.regWrite a data).word a)
    if d.mspOn g && !falls then (d, .slverr)
    else if !d.mspPlaceOk g w then (d, .slverr)
    else
      let d1 := d.setWord a w
      if d.mspOn g && falls then okay (d1.mspOff g)
      else if !d.mspOn g && !falls then
        let k := d1.kBytes g (d.mspSt g) (d.mspSt g).selected
        okay (((d1.setMsp g { d.mspSt g with k1 := k.1, k2 := k.2, sentK1 := k.1, sentK2 := k.2 }).protSee).mspShow g)
      else okay d1

/-- Protection fields of a selector change (R430): the selector restarts at the next edge. -/
def selectorFields (w : Nat) : W32 := if w = 2 then 0x07FF_FFFE else if w = 3 then 0xFFF7_FFFF else 0

/-- R311, R429, R430: a write of a selector entry's word. `SEL` of a selector that the unit writes keeps its value. -/
def Dev.writeSelector (d : Dev) (i w : Nat) (data : W32) : Dev × Resp :=
  let a := selAddr i w
  if w < 2 then (if d.selInUse i then (d, .slverr) else okay (d.regWrite a data))
  else
    let d1 := d.regWrite a data
    let owned := d.selOwner i != 0 || d1.get (F.selOwner.at 16 i) != 0
    let d2 := d1.when owned (fun e => e.put (F.selSel.at 16 i) (d.get (F.selSel.at 16 i)))
    let changed := (d2.word a ^^^ d.word a) &&& selectorFields w != 0
    okay (if changed && !d.selRestart.any (fun x => x.1 == i) then
      { d2 with selRestart := d2.selRestart ++ [(i, d.word (selAddr i 2), d.word (selAddr i 3))] } else d2)

/-! The edge (R429, R430, R446, R448, R458, R479) -/

/-- A decided change is applied. -/
def Dev.applyItem (d : Dev) (x : ProtItem) : Dev :=
  match x with
  | .chan g c => d.setMsp g { d.mspSt g with applied := c }
  | .k g k1 k2 =>
    let p := d.mspSt g
    d.setMsp g { p with sentK1 := k1, sentK2 := k2 }
  | .sel i leg =>
    if d.selOwner i = 1 then d.sncSwitch i leg
    else if d.selOwner i = 2 then
      let g := d.selGet F.selGroup i
      let c := d.selGet F.selChannel i
      let p := d.mspSt g
      let now := if leg then c else if p.applied = c then 0 else p.applied
      d.setMsp g { p with applied := now, selected := now }
    else d

/-- The edge of frame `target` has come (R479: late changes apply at the next edge). -/
def itemDue (now target : Nat) : Bool := decide ((now + 0x1_0000_0000 - target % 0x1_0000_0000) % 0x1_0000_0000 < 0x8000_0000)

/-- `SEL` as the unit drives it (R446, R454). -/
def Dev.driven (d : Dev) (i : Nat) : Bool :=
  if d.selOwner i = 1 then (d.sncSt i).applied != 0
  else if d.selOwner i = 2 then
    let g := d.selGet F.selGroup i
    d.mspActs g && (d.mspSt g).applied != 0 && (d.mspSt g).applied == d.selGet F.selChannel i
  else false

/-- R430: the protection of selector `i` restarts with `SEL` 0: no request, no timer, and nothing decided that is still to be applied. A
change of `SEL` counts in `SWITCHES` of an SNCP selector (R455). -/
def Dev.restartSelector (d : Dev) (i : Nat) : Dev :=
  let w := d.word (sncField F.sncReq i).off &&& 0xFFFF_0000
  let d1 : Dev := { (d.setSnc i {}).setWord (sncField F.sncReq i).off w with
                    applies := d.applies.filter (fun x => match x.2 with | .sel j _ => j != i | _ => true) }
  (d1.when (d.on (sncField F.sncSel i)) (fun e => e.bump (sncField F.sncSwitches i) 1))

/-- What the Protection and Mate Unit does at an `FP8K` edge, before the Whisk reads `SEL`. `K_SRC` follows the group configuration here
and not at the write (R168; DESIGN CHOICE, notes/assumptions/145). -/
def Dev.selApply (d : Dev) : Dev :=
  let due := d.applies.filter (fun x => itemDue d.seqNow x.1)
  let d1 : Dev := { d with applies := d.applies.filter (fun x => !itemDue d.seqNow x.1) }
  let d2 := due.foldl (fun e x => e.applyItem x.2) d1
  let restarts := d2.selRestart.map (fun x => x.1)
  let d3 : Dev := { restarts.foldl (fun e i => e.restartSelector i) d2 with selRestart := [] }
  let d4 := (d3.ownedSelectors ++ restarts).foldl (fun e i =>
    e.put (F.selSel.at 16 i) (bitOf (!restarts.contains i && e.driven i))) d3
  let lanes := (d4.mspGroupsOn.filter d4.mspActs).flatMap d4.mspLanes
  let d5 := d4.each 96 (fun e n => e.when (e.on (F.laneSohCfgKSrc.lane n) != lanes.contains n) (fun x =>
    x.put (F.laneSohCfgKSrc.lane n) (bitOf (lanes.contains n))))
  let d6 : Dev := { d5 with bridge := d5.mspGroupsOn.foldl (fun b g =>
    Store.set (fun _ => 0) b g (if d5.mspActs g && d5.oneToN g then (d5.mspSt g).applied else 0)) [] }
  d6.when (!restarts.isEmpty || !due.isEmpty) Dev.protSee

/-! Status words -/

/-- The status word of selector `i` with `SF`, `SD`, `HOLD` and `WTR`. -/
def Dev.sncWord (d : Dev) (i : Nat) : W32 :=
  let p := d.sncSt i
  let w := d.word (0x1840_0000 + 4 * i)
  if d.selOwner i = 1 then
    let b (lo : Nat) (v : Bool) (x : W32) : W32 := putF x lo 1 (bitOf v)
    b 4 (d.legSf i false) (b 5 (d.legSd i false) (b 6 (d.legSf i true) (b 7 (d.legSd i true)
      (b 8 (p.holding (d.sncCfg i) d.modes.resumed d.now) (b 9 p.wtr.isSome w)))))
  else w

end Sys2Proof.Machine
end

