-- ==== Sys2Proof/Machine/TxOps.lean ====
section
/-! DEFINITION. The transmit frame starts of LINE lanes (R142 to R184), and the overrides of R632, R462 and R489. -/

namespace Sys2Proof.Machine

/-- The lane's pins follow the PREPARE column of R632 with AIS output. -/
def Dev.prepAis (d : Dev) (n : Nat) : Bool := d.eff (lanePage n) == 1 && d.on F.devModeCfgPrepAis && d.rootValid

/-- The overrides of the REJOIN role and of SUSPECT (R25, R462, R489): MS-AIS on LINE lanes, squelched Tustra lanes. -/
def Dev.roleMuted (d : Dev) : Bool :=
  d.role == roleRejoin || (d.on F.mateStatSuspect && d.on F.mateCfgSuspectAct && d.role != roleActive)

/-- The byte of the section trace that is sent next (R155, R161, R162). -/
def Soh.traceByte (s : Soh) (crc : Bool) : Byte :=
  if s.txMode = traceSixteen ∧ s.txPos = 0 ∧ crc then
    BitVec.ofNat 8 (128 + crc7 (0x80 :: (s.sending.take 16).drop 1))
  else s.sending.getD s.txPos 0

/-- J0 at a frame start: a mode that has changed takes effect from byte 0, and a message that waits at its start. -/
def Dev.traceStart (d : Dev) (n : Nat) : Dev :=
  let mode := d.get (F.laneSohJ0cfgTxMode.lane n)
  let s := d.soh n
  let d1 := d.when (mode != s.txMode) (fun e => e.setSoh n { s with txMode := mode, txPos := 0 })
  let d2 := d1.when (d1.on (F.laneSohJ0cfgTxPend.lane n) && (d1.soh n).txPos == 0) (fun e => e.applyTxTrace n)
  let t := d2.soh n
  d2.setSoh n { t with txPos := (t.txPos + 1) % traceLen t.txMode,
                       sent := { t.sent with j0 := t.traceByte (d.on (F.laneSohJ0cfgTxCrc.lane n)) } }

/-- K1 and K2 as their source gives them (R168, R450). -/
def Dev.kSource (d : Dev) (n : Nat) : Byte × Byte :=
  match (if d.on (F.laneSohCfgKSrc.lane n) then
      d.mspGroupsOn.find? (fun g => d.mspActs g && (d.mspLanes g).contains n) else none) with
  | some g => ((d.mspSt g).sentK1, (d.mspSt g).sentK2)
  | none => (BitVec.ofNat 8 (d.get (F.laneSohKtxK1.lane n)), BitVec.ofNat 8 (d.get (F.laneSohKtxK2.lane n)))

/-- The overhead channels in ring order: their enable, ring offset, bytes per frame and idle byte (R179, R183). -/
def Dev.channels (d : Dev) (n : Nat) : List (Field × Nat × Nat × Byte) :=
  let idle := BitVec.ofNat 8 (d.get (F.laneSohChenIdle.lane n))
  [(F.laneSohChenRsdcc.lane n, 0, 3, 0x7E), (F.laneSohChenMsdcc.lane n, 0xC0, 9, 0x7E),
   (F.laneSohChenE1.lane n, 0x300, 1, idle), (F.laneSohChenF1.lane n, 0x340, 1, idle), (F.laneSohChenE2.lane n, 0x380, 1, idle)]

/-- Frame `f` is before `TXLIM` (R182). -/
def Dev.beforeLimit (d : Dev) (n f : Nat) : Bool :=
  let x := (d.get (F.laneSohTxlimLim.lane n) + 0x1_0000 - f % 0x1_0000) % 0x1_0000
  decide (1 ≤ x ∧ x ≤ 32768)

/-- The bytes of a channel in frame `f` (R182, R183). -/
def Dev.channelBytes (d : Dev) (n f : Nat) (c : Field × Nat × Nat × Byte) : List Byte :=
  if d.on c.1 && d.beforeLimit n f then d.bytesAt (laneAddr n Reg.laneSohTxRing + c.2.1 + f % 64 * c.2.2.1) c.2.2.1
  else List.replicate c.2.2.1 c.2.2.2

/-- R182, R183: the frame number advances; the device reads the frame's bytes of every enabled channel. -/
def Dev.channelStart (d : Dev) (n : Nat) : Dev × List (List Byte) :=
  let d1 := d.roll (F.laneSohTxfrmFrm.lane n) 1
  let f := d1.get (F.laneSohTxfrmFrm.lane n)
  let cs := d1.channels n
  let under := cs.any (fun c => d1.on c.1) && !d1.beforeLimit n f
  (d1.when under (sohEvent n F.laneSohEvtTxUnder), cs.map (d1.channelBytes n f))

/-- R171, R176: the MS-REI of the frame, and none while the lane's ingress holds all-ones. -/
def Dev.reiNow (d : Dev) (n : Nat) : Nat :=
  let top := reiTop (stmN (d.lane n).rate) (d.on (F.laneSohCfgReiExt.lane n))
  if d.lineAis n then 0 else Nat.min top (d.soh n).reiPending

/-- R75: LINE lane `n` starts its transmit frame. Its M1 and M0 give the REI due at this start (DESIGN CHOICE, notes/assumptions/188). -/
def Dev.lineStart (d0 : Dev) (n : Nat) : Dev :=
  let r := (d0.traceStart n).channelStart n
  let d := r.1
  let s := d.soh n
  let test := d.inTest (lanePage n)
  let ais := d.on (F.laneSohTxForceMsais.lane n) || d.prepAis n || d.roleMuted
  let rdi := s.rdiDue || d.on (F.laneSohTxForceMsrdi.lane n)
  let k := d.kSource n
  let k2 := if rdi then (k.2 &&& 0xF8) ||| 6 else k.2
  let ext := stmN (d.lane n).rate == 64 && d.on (F.laneSohCfgReiExt.lane n)
  let rei := d.reiNow n
  let ones (b : Byte) : Byte := if ais then 0xFF else b
  let chan (i : Nat) : List Byte := r.2.getD i []
  let sent : LineSent := {
    ais := ais, rdi := rdi && !ais, j0 := s.sent.j0, k1 := ones k.1, k2 := ones k2,
    s1 := ones (BitVec.ofNat 8 (d.get (F.laneSohS1Tx.lane n))), m1 := ones (BitVec.ofNat 8 (rei % 256)),
    m0 := ones (if ext then BitVec.ofNat 8 (rei / 256) else 0),
    channels := chan 0 ++ (chan 1).map ones ++ chan 2 ++ chan 3 ++ (chan 4).map ones,
    b1Inverted := test && (s.insB1 || d.on (F.laneSohTxB1Cont.lane n)),
    b2Inverted := test && (s.insB2 || d.on (F.laneSohTxB2Cont.lane n)),
    fasErr := test && d.on (F.laneSohTxFasErr.lane n),
    scrambled := !test || d.on (F.laneSohCfgTxScr.lane n),
    forced := d.on (F.laneSohTxForceMsais.lane n) }
  let d1 := d.setSoh n { s with sent := sent, reiPending := 0, insB1 := false, insB2 := false }
  ((d1.put (F.laneSohM1Tx.lane n) (if ais then 0 else rei)).put (F.laneSohStatAisTx.lane n) (bitOf ais)).put
    (F.laneSohStatRdiTx.lane n) (bitOf (rdi && !ais))

end Sys2Proof.Machine
end

