-- ==== Sys2Proof/Machine/Egress.lean ====
section
/-! DEFINITION. Containers on their way out of a lane: pointers, path overhead and digests (R215 to R224, R228, R229, R483), and the frames
of LINE lanes (R142 to R149, R174). -/

namespace Sys2Proof.Machine

/-- A byte of an egress bank of lane `n`: 0xFF while the Groomer is not in SERVICE, and 0x00 while no map is active (R299). -/
def Dev.bankByte (d : Dev) (p : Pan) (n s : Nat) : Byte :=
  if d.eff 0xB ≠ 2 then 0xFF else if !d.on F.grmActValid then 0 else Store.get (fun _ => p.dflt) p.bytes (portSlots * n + s)

/-- The byte that lane `n` reads from its egress bank (R27, R34). -/
def Dev.egressByte (d : Dev) (n s : Nat) : Byte := d.bankByte d.egRead n s

/-! Path overhead (R224, R228, R229) -/

/-- Overhead is generated at point `k`. -/
def Dev.generates (d : Dev) (k : Nat) : Bool := d.pohGen k || (isHo k && d.structured (hoOf k))

/-- RDI is sent (R229). -/
def Dev.sendsRdi (d : Dev) (k : Nat) : Bool :=
  d.rdiEn k && (d.on (stLop k) || d.on (stAis k) || d.on (stUneq k) || (d.on (stTim k) && d.timAct k)
    || (isHo k && d.on (stLom k)))

/-- C2 and the label that are sent: `TX_C2` and `TX_SL`. -/
def Dev.sentC2 (d : Dev) (k : Nat) : Nat := getF (d.path k).cfg 24 8
def Dev.sentLabel (d : Dev) (k : Nat) : Nat := getF (d.path k).cfg 12 3

/-- The trace message that is sent in J1 or J2, by its mode (R225, R235). A SIXTEEN message carries its CRC-7 always (R162; DEDUCED,
notes/assumptions/132). -/
def Dev.sentTrace (d : Dev) (k : Nat) : List Byte :=
  let p := d.path k
  let mode := if isHo k then getF p.cfg 4 2 else getF p.trc 30 2
  let m := (d.bytesAt (0x1C10_0000 + 64 * getF p.trc 16 14) 64).take (traceLen mode)
  if mode = traceSixteen then BitVec.ofNat 8 (128 + crc7 (0x80 :: m.drop 1)) :: m.drop 1 else m

/-- What a VC that begins at egress point `k` now takes up. The REI and the RDI come from the ingress point with the same index (R229), and
the configuration and the message are those in force (R234, R235). -/
def Dev.vcStart (d : Dev) (k : Nat) : VcStart :=
  { msg := d.sentTrace k, rei := (d.path k).lastViolations, rdi := d.sendsRdi k,
    gen := if d.generates k then some (d.sentC2 k, d.sentLabel k) else none }

/-! Pointers (R215 to R218) -/

/-- The SS bits of a pointer that a LINE lane sends (R215). -/
def UnitKind.ss (k : UnitKind) (sonet : Bool) : Nat :=
  match k with
  | .tu3 => 2
  | .tu12 => 2
  | .tu11 => 3
  | _ => if sonet then 0 else 2

/-- H1 or V1 with a fabric byte of `b`: `moved` says that the value changed other than by INC or DEC (R216). -/
def sentH1 (ss : Nat) (moved : Bool) (b : Byte) : Byte :=
  BitVec.ofNat 8 ((if moved then 0x90 else 0x60) + ss * 4 + b.toNat % 4)

def PtrAct.moves (a : PtrAct) : Bool :=
  match a with
  | .new _ => true
  | _ => false

/-- A slot of role `r` of unit `u` as a LINE lane sends it, `b` being what the pass gives; `act` is the action of the word that the frame
carries, and `ais` says that the container's pointer is AIS. -/
def FabricUnit.lineByte (u : FabricUnit) (sonet ais : Bool) (act : PtrAct) (s : Nat) (r : SlotRole) (b : Byte) : Byte :=
  if ais then 0xFF
  else match r with
    | .h1 => sentH1 (u.kind.ss sonet) act.moves b
    | .fixed =>
      if u.kind.isTu1x || s % 64 == augPos u.g then b
      else if (s - 51840) / 64 < 3 then (if sonet then 0x93 else 0x9B) else 0xFF
    | _ => b

/-- What the VCs of point `k` take up in the frame being sent, by the slot in which they begin: what was in force then. -/
def Dev.startAt (d : Dev) (k s : Nat) : VcStart :=
  match (Store.get (fun _ => ({} : VcSt)) d.egress k).begun.find? (fun y => y.1 == s) with
  | some y => y.2
  | none => d.vcStart k

/-- The change of a source is over once the first word of the new one has been sent: in the frame of V2 for a TU-12 or TU-11. -/
def VcSt.movedNext (x : VcSt) (u : FabricUnit) (mf : Nat) : Nat :=
  if x.moved = 2 then 1 else if u.kind.isTu1x && mf != 1 then x.moved else 0

/-- The pointer of the container is AIS at slot `s` of role `r`. V1 of a TU-12 or TU-11 belongs to the word that V2 completes in the next
frame, `word` being what that does; what comes before V2 goes with the word before it (R217). -/
def FabricUnit.aisAt (u : FabricUnit) (mf : Nat) (before after : Track) (word : PtrAct) (s : Nat) (r : SlotRole) : Bool :=
  if !u.kind.isTu1x then after.act == .ais
  else if mf = 0 ∧ r = .h1 then word == .ais
  else if mf = 1 ∧ u.wordSlot ≤ s then after.act == .ais
  else before.act == .ais

/-- The frame of unit `u` of lane `n` that the lane sends, `b` being the bytes that come from the fabric and `b2` those of the frame after it;
with the container's state after it. V1 of a TU-12 or TU-11 is sent for the value that V2 completes in the next frame. -/
def Dev.egressUnit (d : Dev) (n mf : Nat) (u : FabricUnit) (b b2 : Nat → Byte) : VcSt × List (Nat × Byte) :=
  let k := unitPoint n u
  let x := Store.get (fun _ => {}) d.egress k
  let y := x.pass u mf .send (d.startAt k) b
  let r := ({ y.1 with moved := x.movedNext u mf, begun := [] }, y.2)
  if !(d.lane n).isLine then r
  else
    let act : PtrAct :=
      if u.kind.isTu1x && mf == 0 then
        (match (u.layout 1).find? (fun y => y.2 == .h2) with
          | some y => x.wordAct ((b u.wordSlot).toNat * 256 + (b2 y.1).toNat)
          | none => .same)
      else r.1.track.next
    (r.1, ((u.layout mf).zip r.2).map (fun y =>
      (y.2.1, u.lineByte (d.on (F.laneSohCfgMode.lane n)) (u.aisAt mf x.track r.1.track act y.2.1 y.1.2) act y.2.1 y.1.2 y.2.2)))

/-- The byte at slot `s` of a list of slots written, or else of `b`. -/
def overlay (l : List (Nat × Byte)) (b : Nat → Byte) (s : Nat) : Byte :=
  match l.find? (fun x => x.1 == s) with
  | some x => x.2
  | none => b s

/-- The containers of lane `n`'s frame as they leave, and their states after it: first the units, then the structured containers over
them (R223, R228). -/
def Dev.egressLane (d : Dev) (n mf : Nat) : List (Nat × VcSt) × List (Nat × Byte) :=
  let b := d.egressByte n
  let b2 (s : Nat) : Byte := d.bankByte d.egFill n s
  let low := (d.portUnits n).map (fun u => (unitPoint n u, d.egressUnit n mf u b b2))
  let bytes := low.flatMap (fun x => x.2.2)
  let high := (d.portStructs n).map (fun u => (unitPoint n u, d.egressUnit n mf u (overlay bytes b) b2))
  ((low ++ high).map (fun x => (x.1, x.2.1)), high.flatMap (fun x => x.2.2) ++ bytes)

/-- The frame of the TU multiframe that lanes send now: the frame that came in two frames before. -/
def Dev.sentMf (d : Dev) : Nat := (d.seqNow + 2) % 4

/-! The frame of a LINE lane -/

/-- The fabric slot that row `r`, column `c` of an STM-N frame is sent from (R26, R27, R193, R194). -/
def lineSlot (nn r c : Nat) : Nat := r * 17280 + 64 * (c / nn) + c % nn * (64 / nn)

/-- The AUG-1 of column `c` of an STM-N frame. -/
def lineAug (nn c : Nat) : Nat := ((List.range 64).find? (fun g => augPos g == c % nn * (64 / nn))).getD 0

/-- A byte of the AU area outside the containers of lane `n`: an UNUSED position is sent as an unequipped AU-4 (R219), a member with the
concatenation indication (R218), and every other byte as the fabric holds it. -/
def Dev.sentFree (d : Dev) (n nn r c : Nat) : Byte :=
  let sonet := d.on (F.laneSohCfgMode.lane n)
  let k := getF (d.pathStruct (64 * n + lineAug nn c)) 0 3
  let j := c / nn
  if k = 0 then
    (if c < 9 * nn ∧ r = 3 then (if j = 0 then BitVec.ofNat 8 (0x60 + 4 * UnitKind.ss .au4 sonet) else if j = 3 then 0 else auPointerByte false j)
     else 0)
  else if k = kindMember ∧ c < 9 * nn ∧ r = 3 ∧ j < 6 then (if j < 3 then (if sonet then 0x93 else 0x9B) else 0xFF)
  else d.egressByte n (lineSlot nn r c)

/-- A byte of the overhead of the frame that lane `n` sends, before scrambling (R142); `b1` and `b2` are the parities over the frame
before it. -/
def LineSent.overhead (s : LineSent) (nn r c : Nat) (b1 : Byte) (b2 : List Byte) : Byte :=
  let ch (i : Nat) : Byte := s.channels.getD i 0
  let x := c / (3 * nn)
  let first := c % (3 * nn) = 0
  let flip (b : Byte) (v : Bool) : Byte := if v then b ^^^ 1 else b
  if r = 0 then
    (if c < 3 * nn then (if s.fasErr then 0xF7 else 0xF6)
     else if c < 6 * nn then 0x28
     else if c = 6 * nn then s.j0
     else 0xCC)
  else if r = 1 then
    (if c = 0 then flip b1 s.b1Inverted else if c = 3 * nn then ch 12 else if c = 6 * nn then ch 13 else 0)
  else if r = 2 then (if first then ch x else 0)
  else if s.ais then 0xFF
  else if r = 4 then
    (if c = 0 then flip (b2.getD 0 0) s.b2Inverted else if c < 3 * nn then b2.getD c 0
     else if c = 3 * nn then s.k1 else if c = 6 * nn then s.k2 else 0)
  else if 5 ≤ r ∧ r ≤ 7 then (if first then ch (3 + 3 * (r - 5) + x) else 0)
  else if r = 8 then
    (if c = 0 then s.s1 else if c = 3 * nn + 1 ∧ nn = 64 then s.m0 else if c = 3 * nn + 2 then s.m1
     else if c = 6 * nn then ch 14 else 0)
  else 0

/-- The bytes of a frame of lane `n`, before scrambling, in frame `mf` of the multiframe. MS-AIS covers every rule on pointers (R221). -/
def Dev.frameOf (d : Dev) (n mf : Nat) : List Byte :=
  let nn := stmN (d.lane n).rate
  let soh := d.soh n
  let l := (d.egressLane n mf).2
  (List.range (2430 * nn)).map (fun i =>
    let r := i / (270 * nn)
    let c := i % (270 * nn)
    if c < 9 * nn ∧ r ≠ 3 then soh.sent.overhead nn r c soh.b1Sent soh.b2Sent
    else if soh.sent.ais ∧ 3 ≤ r then 0xFF
    else overlay l (fun _ => d.sentFree n nn r c) (lineSlot nn r c))

/-- The bytes of the frame that lane `n` sends, before scrambling. -/
def Dev.sentFrame (d : Dev) (n : Nat) : List Byte := d.frameOf n d.sentMf

/-- The frame as it leaves (R145, R147), and the parities that the next frame carries (R148, R149). -/
def Dev.lineSends (d : Dev) (n : Nat) (frame : List Byte) : List Byte :=
  if (d.soh n).sent.scrambled then descramble (stmN (d.lane n).rate) frame else frame

def Dev.nextB1 (d : Dev) (n : Nat) (frame : List Byte) : Byte := bip8 (d.lineSends n frame)
def Dev.nextB2 (d : Dev) (n : Nat) (frame : List Byte) : List Byte := b2Bytes (stmN (d.lane n).rate) frame

/-! The end of a frame -/

/-- The frame that lane `n` has sent, frame `mf` of the multiframe, ends: its containers go on, and a LINE lane keeps its parities. -/
def Dev.laneSent (d : Dev) (n mf : Nat) : Dev :=
  let frame := d.frameOf n mf
  let d1 : Dev := { d with egress := (d.egressLane n mf).1.foldl (fun t x => Store.set (fun _ => {}) t x.1 x.2) d.egress }
  d1.when (d.lane n).isLine (fun e => e.setSoh n { e.soh n with b1Sent := d.nextB1 n frame, b2Sent := d.nextB2 n frame })

def Dev.framesSent (d : Dev) (mf : Nat) : Dev :=
  d.each 96 (fun e n => e.when (e.eff (lanePage n) != 0) (fun x => x.laneSent n mf))

/-! The first bytes of VCs (R229, R234, R235) -/

/-- The VCs of container `u` of lane `n` that begin in the slots from `s` to below `t` of the frame being sent take up what is in force. -/
def Dev.unitBegins (d : Dev) (n s t : Nat) (u : FabricUnit) : Dev :=
  let k := unitPoint n u
  let x := Store.get (fun _ => {}) d.egress k
  let l := (x.startSlots u d.sentMf (d.egressByte n)).filter (fun i => decide (s ≤ i) && decide (i < t))
  d.when (!l.isEmpty) (fun e =>
    { e with egress := Store.set (fun _ => {}) e.egress k { x with begun := l.map (fun i => (i, e.vcStart k)) ++ x.begun } })

/-- A tick passes: the VCs of the frame being sent whose first bytes leave in it begin. -/
def Dev.vcsBegin (d : Dev) : Dev :=
  d.each 96 (fun e n => e.when (e.rootValid && e.eff (lanePage n) != 0) (fun x =>
    (x.portAreas n).foldl (fun y u => y.unitBegins n x.slotNow (x.slotNow + 2) u) x))

end Sys2Proof.Machine
end

