-- ==== Sys2Proof/Machine/FlowSink.lean ====
section
/-! DEFINITION. The sink side of the Flow Engine (R340, R350 to R353, R355, R356): what it takes from the egress frames of the flow ports. -/

namespace Sys2Proof.Machine

/-! The interpreter of a fabric pointer (R199 to R203, R340) -/

/-- A pointer word of value range 0 to `top` passes an interpreter in state `st`; with the state after it. -/
def PathSt.interpret (p : PathSt) (st top : Nat) (w : BitVec 16) : PathSt × Nat :=
  let norm := st == psNorm
  let e := classify false norm p.active p.since top w
  let q := p.runs false norm e
  let a := p.active.getD 0
  let x : PathSt := match e, norm with
    | .inc, true => { q with active := some ((a + 1) % (top + 1)), since := 0 }
    | .dec, true => { q with active := some ((a + top) % (top + 1)), since := 0 }
    | .ndf v, true => { q with active := some v, since := 0 }
    | _, _ => q
  match x.nextState st with
  | some (s, v) =>
    let y : PathSt := { x with aisRun := 0, newRun := 0, invRun := 0, ndfRun := 0, ndfValue := none, words := 8 }
    (match v with
      | some a => { y with active := some a, since := 0 }
      | none => y, s)
  | none => (x, st)

/-- A concatenation word passes the interpreter of a member AUG-1 in state `st`; with the state after it (R199 to R202). -/
def PathSt.concat (p : PathSt) (st : Nat) (w : BitVec 16) : PathSt × Nat :=
  let x := p.runs true false (classify true false none 8 782 w)
  match x.nextState st with
  | some (s, _) => ({ x with aisRun := 0, newRun := 0, invRun := 0, ndfRun := 0, concRun := 0, otherRun := 0, words := 8 }, s)
  | none => (x, st)

/-- The places of the VC that frame `mf` of a unit gives, with their bytes; `b` gives the bytes by slot. -/
def FabricUnit.follow (u : FabricUnit) (mf : Nat) (t : Track) (b : Nat → Byte) : Track × List (Nat × Byte) :=
  let r := (u.layout mf).foldl (fun (a : Track × List (Nat × Byte)) l =>
    let x := a.1.slot u.kind l.2
    (x.1, match x.2 with
      | .byte (some o) => (o, b l.1) :: a.2
      | _ => a.2)) (t, [])
  (r.1, r.2.reverse)

/-! A received VC of a sink member -/

/-- A sink member of a VCAT group, whose multiframe is evaluated (R350). -/
def Dev.mfiLive (d : Dev) (i : Nat) : Bool :=
  d.on (F.memEn.at 8 i) && d.memSink i && d.grpMode (d.memGroup i) == modeVcat

/-- VCs after which the multiframe counter of a member starts again. -/
def mfiPeriod (mtype : Nat) : Nat := if mtype = 2 ∨ mtype = 3 then 1024 else 4096

/-- A label is accepted after five identical ones (R340). -/
def MemberSt.label (x : MemberSt) (v : Nat) : MemberSt :=
  let r := x.rx.label.next v
  { x with rx := { x.rx with label := r }, sig := if 5 ≤ r.count then some r.value else x.sig }

/-- The H4 of a member of a higher-order group: its MFI-1, and the control packet at the end of its multiframe (R350). -/
def MemberSt.h4 (x : MemberSt) (h4 : Nat) : MemberSt :=
  let mf := x.rx.mf.step 16 (h4 % 16)
  let bits := ((h4 / 16) :: x.bits).take 16
  let whole : Bool := h4 % 16 == 15 && bits.length == 16
  let r := hoRead bits.reverse
  { x with rx := { x.rx with mf := mf }, bits := bits, packet := if whole then some r.1 else x.packet,
           mfi := if mf.oom then none else if whole ∧ r.1.crcOk then some (r.2 * 16 + 15) else x.mfi.map (fun m => (m + 1) % 4096) }

/-- K4 bytes of a multiframe of the extended signal label and of the control packet. -/
def k4Period : Nat := 32

/-- The K4 of a member of a lower-order group: the extended signal label at the end of its multiframe, and with it the control packet of a
VCAT group (R340, R350). K4[7] counts where the label of V5 is 0b101 (R224). In multiframe the alignment signal is looked for where it is
due, else at every byte; a multiframe without it is out of sequence. -/
def MemberSt.k4 (x : MemberSt) (vcat : Bool) (k4 : Nat) : MemberSt :=
  let esl := if x.ext then (k4 / 128 % 2 :: x.esl).take k4Period else []
  let bits := (k4 / 64 % 2 :: x.bits).take k4Period
  let place := x.place + 1
  let l := esl.reverse
  let mark : Bool := esl.length == k4Period && ofBits (l.take 11) == eslMark
  let synced : Bool := vcat && x.rx.mf.bad < 2 && x.rx.mf.next.isSome
  let whole := mark && (!synced || place == k4Period)
  let y := { x with esl := if whole && !vcat then [] else esl, bits := bits, place := if whole || place == k4Period then 0 else place }
  let z := if whole then y.label (ofBits ((l.drop 11).take 8)) else y
  let on := z.mfi.map (fun m => (m + 1) % 1024)
  if !vcat then z
  else if whole then
    let r := loRead bits.reverse
    let mf := z.rx.mf.step 32 r.2
    { z with rx := { z.rx with mf := mf }, packet := some r.1,
             mfi := if mf.oom then none else if r.1.crcOk then some (r.2 * 32 + 31) else on }
  else if place == k4Period then
    let mf := z.rx.mf.frame 32 none
    { z with rx := { z.rx with mf := mf }, mfi := if mf.oom then none else on }
  else { z with mfi := on }

/-- The label of V5 is accepted after five identical ones (R224). -/
def MemberSt.v5Label (x : MemberSt) (v5 : Nat) : MemberSt :=
  let r := x.v5.next (v5 / 2 % 8)
  { x with v5 := r, ext := if 5 ≤ r.count then r.value == 5 else x.ext }

/-- A whole VC of a sink member: its parity, label and multiframe, and its payload, which waits in the VCAT delay buffer for at most
256 ms (R352), with whether the member is in use, and its SQ. -/
def MemberSt.vc (x : MemberSt) (k : UnitKind) (vcat used : Bool) (sq : Nat) (vc : List Byte) : MemberSt :=
  let v := match x.rx.bip with
    | some own => k.violations own vc
    | none => 0
  let y := { x with violations := x.violations + v, rx := { x.rx with bip := some (k.parity vc), lastViolations := v } }
  let z := if k.isTu1x then (y.v5Label (k.poh vc 0).toNat).k4 vcat (k.poh vc 3).toNat
    else
      let a := y.label (k.poh vc rowC2).toNat
      if vcat then a.h4 (k.poh vc rowH4).toNat else a
  let payload := ((((List.range vc.length).zip vc).filter (fun p => k.isPayload p.1)).map (fun p => p.2))
  let kept := if k.isTu1x then 512 else 2048
  { z with buf := ({ num := z.mfi.getD 0, used := used, sq := sq, load := payload } :: z.buf).take (if vcat then kept else 1) }

/-- The interpreter of a member AUG-1 as it starts (R200). -/
def catAtReset : Nat → PathSt × Nat := fun _ => ({}, psLopC)

/-- R202, R340: an AUG-1 of the concatenated container but the first is in AIS_C or LOP_C. -/
def MemberSt.catFails (x : MemberSt) : Bool := x.cat.any (fun c => c.2.2 == psAisC || c.2.2 == psLopC)

/-- Sink member `i` of flow port `q` takes the frame that its unit holds in the egress bank. -/
def Dev.sinkFrame (d : Dev) (mf i : Nat) : Dev :=
  let q := 96 + d.get (F.memFport.at 8 i)
  match d.unitOf (d.structWords q) i with
  | none => d
  | some u =>
    let x := d.member i
    let b := d.egressByte q
    let k := u.kind
    let word := ((u.layout mf).find? (fun s => s.2 == .h2)).map (fun s =>
      (if k.isTu1x then x.v1 else b u.wordSlot).toNat * 256 + (b s.1).toNat)
    let r := match word with
      | some w => x.rx.interpret x.rxState (k.values - 1) (BitVec.ofNat 16 w)
      | none => (x.rx, x.rxState)
    let t := match word with
      | some w => { x.rx.track with next := ptrAct x.rx.track.val w }
      | none => x.rx.track
    let f := u.follow mf t b
    let cat := ((spanAugs u.g k.augs).drop 1).foldl (fun (c : Store (PathSt × Nat)) a =>
      let p := Store.get catAtReset c a
      Store.set catAtReset c a
        (p.1.concat p.2 (BitVec.ofNat 16 ((b (pointerSlot a 0)).toNat * 256 + (b (pointerSlot a 3)).toNat)))) x.cat
    let y : MemberSt := { x with rx := { r.1 with track := f.1 }, rxState := r.2, cat := cat,
                                 v1 := if k.isTu1x ∧ mf = 0 then b u.wordSlot else x.v1 }
    if r.2 ≠ psNorm ∨ y.catFails then
      d.setMember i { y with rx := { y.rx with vc := none, bip := none, label := {} }, bits := [], esl := [], place := 0, packet := none, mfi := none }
    else
      let p := vcParts (f.2.map (fun s => (s.1 == 0, s.2)))
      let head := y.rx.vc.map (fun l => l ++ p.1)
      let ended := if p.2.isEmpty then [] else head.toList ++ p.2.dropLast
      let z := { y with rx := { y.rx with vc := if p.2.isEmpty then head else p.2.getLast? } }
      let vcat := d.mfiLive i
      d.setMember i (ended.foldl (fun m vc => if vc.length = k.vcLen then
        m.vc k vcat (d.on (F.memStInuse.at 8 i)) (d.get (F.memStSq.at 8 i)) vc else m) z)

/-! Differential delay and delivery (R352, R353, R356) -/

/-- How far number `a` lies after `b` in a counter of `n` values. -/
def ahead (n a b : Nat) : Int :=
  let x := (a + n - b % n) % n
  if 2 * x < n then (x : Int) else (x : Int) - n

/-- The delay of sink member `i` of group `g` after the earliest of its members, in frames (R352). -/
def Dev.delayOf (d : Dev) (g i : Nat) : Nat :=
  let t := d.grpMtype g
  match (d.member i).mfi with
  | none => 0
  | some m =>
    let lead := ((d.side g true).filterMap (fun j => (d.member j).mfi)).foldl (fun (a : Int) v => max a (ahead (mfiPeriod t) v m)) 0
    Nat.min 4095 (lead.toNat * (if t = 2 ∨ t = 3 then 4 else 1))

def Dev.showDelays (d : Dev) (g : Nat) : Dev :=
  d.when (d.grpMode g == modeVcat) (fun x =>
    (x.side g true).foldl (fun e i => e.put (F.memStDelay.at 8 i) (d.delayOf g i)) x)

/-- Byte after byte of some lists in turn. -/
def interleave (l : List (List Byte)) : List Byte :=
  (List.range ((l.map List.length).foldl Nat.max 0)).flatMap (fun j => l.filterMap (fun x => x[j]?))

/-- R356: the payloads of VC `want` that the sink members of group `g` keep and that belong to the set in use, in the order of their SQ. -/
def Dev.usedVcs (d : Dev) (g want : Nat) : List (List Byte) :=
  let l := (d.side g true).filterMap (fun i => (d.member i).buf.find? (fun y => y.num == want && y.used))
  (l.mergeSort (fun a b => decide (a.sq ≤ b.sq))).map (fun y => y.load)

/-- R352, R353, R356: what the sink of group `g` delivers in the frame that begins: of each member in use the VC of one number, at the
alignment delay after the earliest member. In a stream in SYNC nothing is delivered twice: it pauses where the alignment delay has grown. -/
def Dev.deliver (d : Dev) (g : Nat) : Dev :=
  let l := d.side g true
  let x := d.group g
  let t := d.grpMtype g
  if d.grpMode g = modeSingle then
    l.foldl (fun e i => e.setMember i { e.member i with buf := [] })
      (d.setGroup g { x with out := l.flatMap (fun i => (d.member i).buf.flatMap (fun y => if y.used then y.load else [])) })
  else
    match l.filterMap (fun i => (d.member i).mfi) with
    | [] => d.setGroup g { x with out := [] }
    | m :: rest =>
      let n := mfiPeriod t
      let first := rest.foldl (fun a v => if 0 < ahead n v a then v else a) m
      let want := (first + n - x.align / (if t = 2 ∨ t = 3 then 4 else 1) % n) % n
      let given := x.outAt.any (fun o => o == want || (d.get (F.grpStSv.at 64 g) == 2 && decide (ahead n want o < 0)))
      if given then d.setGroup g { x with out := [] }
      else d.setGroup g { x with outAt := some want, out := interleave (d.usedVcs g want) }

/-- The sink members take their frames, and the groups deliver. -/
def Dev.sinkFrames (d : Dev) (mf : Nat) : Dev :=
  if !d.flwRuns then d else
  let d1 := (d.enabledMembers.filter d.memSink).foldl (fun e i => e.sinkFrame mf i) d
  d1.groupsOn.foldl Dev.deliver d1

end Sys2Proof.Machine
end

