-- ==== Sys2Proof/Machine/Flow.lean ====
section
/-! DEFINITION. The commands of the Flow Engine and of multiframe alignment (R227, R330 to R376). -/

namespace Sys2Proof.Machine

/-- R333 to R335 -/
def execFlowContextWrite (m : Master) (f : FlowId) (word : Fin 4) (data : W32) (s : State) : Out :=
  .next { s with dev := s.dev.writeTable m (ctxAddr f.val word.val) (fun d => d.writeContext f.val word.val data) }

/-- R348 -/
def execGroupConfigWrite (m : Master) (g : GroupId) (word : Fin 8) (data : W32) (s : State) : Out :=
  .next { s with dev := s.dev.writeTable m (grpAddr g.val word.val) (fun d => d.writeGroup g.val word.val data) }

/-- R349 -/
def execMemberConfigWrite (m : Master) (i : MemberId) (word : Fin 2) (data : W32) (s : State) : Out :=
  .next { s with dev := s.dev.writeTable m (memAddr i.val word.val) (fun d => d.writeMember i.val word.val data) }

/-- R337 -/
def execFlowPortStructureWrite (m : Master) (p : Fin 8) (g : Fin 64) (data : W32) (s : State) : Out :=
  .next { s with dev := s.dev.writeTable m (fpStrAddr p.val g.val) (fun d => d.writeFpStr p.val g.val data) }

/-- R368 -/
def execShareWrite (m : Master) (lane : PortLane) (high : Bool) (data : W32) (s : State) : Out :=
  .next { s with dev := s.dev.write m (Reg.psqShare + 8 * lane.val + (if high then 4 else 0)) (fun d =>
    d.writeShare lane.val high data) }

/-- R373: a read of a peak sets it to the count. -/
def Dev.readPeak (d : Dev) (m : Nat) (f2l : Bool) : Dev :=
  let a := if f2l then Reg.psqPeakF2l else Reg.psqPeakL2f
  d.readThen m a (d.word a) (fun e =>
    if f2l then e.put F.psqPeakF2lBytes (e.get F.psqCountF2lBytes) else e.put F.psqPeakL2fBytes (e.get F.psqCountL2fBytes))

/-- R373 -/
def execPeakRead (m : Master) (f2l : Bool) (s : State) : Out := .next { s with dev := s.dev.readPeak m f2l }

/-- R131, R341, R343, R346: a frame of the stream has been received. -/
def execGfpFrameReceived (g : GroupId) (slot : Fin 8) (bytes : List Byte) (s : State) : Out :=
  .next { s with dev := s.dev.gfpFrame g.val slot.val bytes }

/-- R346: 300 ms have passed without a CSF frame. -/
def execCsfClear (g : GroupId) (s : State) : Out :=
  let due := match (s.dev.group g.val).csfAt with
    | some t => decide (t + 300 * ticksPerMs ≤ s.dev.now)
    | none => false
  .next { s with dev := s.dev.when due (fun d => d.setCsf g.val false) }

/-- `CSF_TX` calls for a CSF frame (R345). -/
def Dev.csfDue (d : Dev) (g : Nat) : Bool :=
  let tx := d.get (F.grpCsfTx.at 32 g)
  let n := d.get (F.grpCsfLane.at 32 g)
  let lane := d.defect n defLos || (if (d.lane n).isLine then d.defect n defLof else !d.inFrame n)
  d.grpMode g != modeOff && (tx == 1 || tx == 2 || (tx == 3 && lane))

/-- R345: 100 ms have passed since the source sent its last CSF frame; the frame takes the place of an idle frame. -/
def execCsfSend (g : GroupId) (s : State) : Out :=
  let x := s.dev.group g.val
  let due := match x.csfSent with
    | some t => decide (t + 100 * ticksPerMs ≤ s.dev.now)
    | none => true
  .next { s with dev := s.dev.when (due && s.dev.csfDue g.val) (fun d =>
    d.setGroup g.val { x with csfSent := some d.now, csfWait := some (if d.get (F.grpCsfTx.at 32 g.val) = 2 then 2 else 1) }) }

/-- R344: three consecutive frames with another EXI declare EXM, and three that match clear it. -/
def execExmDeclare (g : GroupId) (s : State) : Out :=
  let x := s.dev.group g.val
  let d1 := s.dev.when (decide (3 ≤ x.exmBad)) (fun d => d.groupBit g.val F.grpStExm true)
  .next { s with dev := d1.when (decide (3 ≤ x.exmOk)) (fun d => d.groupBit g.val F.grpStExm false) }

/-- R354, R355: what a control packet says to the source members: the MST of eight SQ values, and the RS-Ack. -/
def Dev.sourceReport (d : Dev) (g : Nat) (c : ControlPacket) : Dev :=
  (d.side g false).foldl (fun e i =>
    let e1 := e.put (F.memStRsack.at 8 i) (bitOf c.rsAck)
    let sq := e.get (F.memStSq.at 8 i)
    let st := e.memState i
    if c.base ≤ sq ∧ sq < c.base + 8 ∧ (stAdd ≤ st ∧ st ≤ stDnu) then
      let ok := !c.mst.testBit (sq - c.base)
      (e1.setMember i { e1.member i with mst := some ok }).when
        (ok == (st == stAdd || st == stDnu)) (fun x => x.raise F.flwEvtLcasChg)
    else e1) d

/-- R350 to R352, R355, R357: sink member `i` uses the control packet `c` that it has received. -/
def Dev.controlPacket (d : Dev) (i : Nat) (c : ControlPacket) : Dev :=
  let g := d.memGroup i
  let x := d.member i
  let same := c.sq == d.get (F.mem1Sq.at 8 i)
  let y := { x with sqBad := if same then 0 else Nat.min 3 (x.sqBad + 1), sqOk := if same then Nat.min 3 (x.sqOk + 1) else 0 }
  let d1 := (((d.setMember i y).put (F.memStCtrl.at 8 i) c.ctrl).put (F.memStSq.at 8 i) c.sq).showDelays g
  (d1.when (d.grpLcas g) (fun e => e.sourceReport g c)).sinkUpdate g

/-- R355, R357: the control packet `c` that sink member `i` has received is used, or ignored where its CRC fails. -/
def execControlPacket (i : MemberId) (c : ControlPacket) (s : State) : Out :=
  let x := s.dev.member i.val
  .next { s with dev := s.dev.when (s.dev.flwRuns && s.dev.mfiLive i.val && x.packet == some c) (fun d =>
    (d.setMember i.val { x with packet := none }).when c.crcOk (fun e => e.controlPacket i.val c)) }

/-- R351: three control packets declare or clear SQM of a sink member of a non-LCAS group. -/
def execSqmDeclare (i : MemberId) (s : State) : Out :=
  let x := s.dev.member i.val
  let g := s.dev.memGroup i.val
  let ok := s.dev.on (F.memEn.at 8 i.val) && s.dev.memSink i.val && s.dev.grpMode g == modeVcat && !s.dev.grpLcas g
    && (decide (3 ≤ x.sqBad) || decide (3 ≤ x.sqOk))
  .next { s with dev := s.dev.when ok (fun d =>
    (d.put (F.memStSqm.at 8 i.val) (bitOf (decide (3 ≤ x.sqBad)))).sinkUpdate g) }

/-- R350, R354: a multiframe of the group's source has begun with the frame in progress, and the members change at its boundary. -/
def execMultiframeBoundary (g : GroupId) (s : State) : Out :=
  let d := s.dev
  let x := d.group g.val
  .next { s with dev := d.when (d.flwRuns && x.bound) (fun e =>
    (e.setGroup g.val { x with bound := false }).when (d.grpLcas g.val && decide (d.get F.mateStatRole < 2)) (fun y =>
      y.sourceBoundary g.val)) }

/-- R352: a non-LCAS group has LOA while the spread of its members' delays exceeds `DD_MAX`. -/
def execLoaDeclare (g : GroupId) (s : State) : Out :=
  .next { s with dev := s.dev.when (s.dev.grpMode g.val == modeVcat && !s.dev.grpLcas g.val) (fun d =>
    (d.groupBit g.val F.grpStLoa (decide (d.ddMax g.val < d.spread (d.side g.val true)))).streamCheck g.val) }

/-- R340: whether a cause of failure of sink member `i` holds. -/
def Dev.sinkCause (d : Dev) (i : Nat) (cause : SinkCause) : Bool :=
  let x := d.member i
  match cause with
  | .pointer => x.rxState != psNorm || x.catFails
  | .signal => x.sig.any (fun v => v == 0 || v != d.get (F.grpExpSig.at 32 (d.memGroup i)))

/-- R340: a cause of failure of a sink member has begun or ended. -/
def execSinkMemberFail (i : MemberId) (cause : SinkCause) (failed : Bool) (s : State) : Out :=
  let f := match cause with
    | .pointer => F.memStFailPtr
    | .signal => F.memStFailSig
  let ok := s.dev.on (F.memEn.at 8 i.val) && s.dev.memSink i.val && s.dev.sinkCause i.val cause == failed
  .next { s with dev := s.dev.when ok (fun d =>
    (d.put (f.at 8 i.val) (bitOf failed)).sinkUpdate (d.memGroup i.val)) }

/-- R227, R350: two consecutive frames out of sequence have given OOM. -/
def Mf.declare (x : Mf) : Mf := if 2 ≤ x.bad then { x with oom := true } else x

def Dev.mfOom (d : Dev) (i : MfSource) (frames : Nat) : Dev :=
  match i with
  | .ho k => d.when (d.h4Live k.val && (d.path k.val).mf.bad == frames) (fun e => e.setPath k.val { e.path k.val with mf := (e.path k.val).mf.declare })
  | .member j => d.when (d.mfiLive j.val && (d.member j.val).rx.mf.bad == frames) (fun e =>
      let x := e.member j.val
      e.setMember j.val { x with rx := { x.rx with mf := x.rx.mf.declare } })

/-- R227, R350 -/
def execOom (i : MfSource) (frames : Nat) (s : State) : Out := .next { s with dev := s.dev.mfOom i frames }

/-- R227, R350: LOM is declared when OOM has lasted 8 frames, and clears after 8 frames in multiframe. -/
def Dev.mfLom (d : Dev) (i : MfSource) : Dev :=
  match i with
  | .ho k => d.when (d.h4Live k.val) (fun e =>
      let lom := (e.path k.val).mf.lom (e.on (stLom k.val))
      (e.put (stLom k.val) (bitOf lom)).pathUpdate k.val)
  | .member j => d.when (d.mfiLive j.val) (fun e =>
      let lom := (e.member j.val).rx.mf.lom (e.on (F.memStLom.at 8 j.val))
      (e.put (F.memStLom.at 8 j.val) (bitOf lom)).sinkUpdate (d.memGroup j.val))

/-- R227, R350 -/
def execLom (i : MfSource) (s : State) : Out := .next { s with dev := s.dev.mfLom i }

end Sys2Proof.Machine
end

