-- ==== Sys2Proof/Machine/Groom.lean ====
section
/-! DEFINITION. The commands of the Groomer (07_groomer.md). -/

namespace Sys2Proof.Machine

/-! What each command of R307 does once it is accepted -/

/-- INVALIDATE; the contents are kept. -/
def Dev.goInvalidate (d : Dev) : Dev :=
  ((d.setShadow shInvalid).grmRecord opInvalidate rsOk).setGrm { d.grm with invalidated := true, pristine := false }

/-- COPY_ACTIVE. -/
def Dev.goCopyActive (d : Dev) (slot : Nat) : Dev := ((d.commitLoad 0).grmStart opCopyActive slot).setShadow shLoading

/-- R308: FILL, which ends at once with ARG where its range is wrong. -/
def Dev.goFill (d : Dev) (slot : Nat) : Dev :=
  let first := d.get F.grmFillFirstFirst
  let count := d.get F.grmFillCountCount
  if count = 0 ∨ mapEntries < first + count then d.grmRecord opFill rsArg
  else
    let d1 := ((d.commitLoad 0).grmStart opFill slot).setShadow shLoading
    d1.setGrm { d1.grm with fill := (first, count, d.word Reg.grmFillValue) }

/-- R309: CHECK over the shadow as it stands. -/
def Dev.goCheck (d : Dev) (slot : Nat) : Dev :=
  let d1 := ((d.grmStart opCheck slot).setShadow shChecking).commitStep 2 1
  d1.setGrm { d1.grm with snap := d.snapOf d.shadowMap, pristine := false }

/-- R312, R314: ARM of a CHECKED shadow, which ends with ARG where its boundary or its target is wrong. An AT_SEQ commit of an
ACTIVE goes to the mate (R481). -/
def Dev.goArm (d : Dev) : Dev :=
  let b := d.get F.grmCmtCfgBoundary
  let ahead := (d.get F.grmCmtSeqSeq + 0x1_0000_0000 - d.seqNow) % 0x1_0000_0000
  if b = 3 ∨ (b = 2 ∧ (ahead < 2 ∨ 0x10_0000 < ahead)) then d.grmRecord opArm rsArg
  else
    let d1 := ((d.setShadow shArmed).grmRecord opArm rsOk).commitStep 3 3
    let d2 := d1.setGrm { d1.grm with armedAt := d.timing.edges, pristine := false }
    if b = 2 ∧ d.get F.mateStatRole = 1 then
      ({ d2 with mate := { d2.mate with commit := some (d.get F.grmCmtSeqSeq) } } : Dev).note 6 0
    else d2

/-- R316: DISARM returns an ARMED shadow to CHECKED. -/
def Dev.goDisarm (d : Dev) : Dev := ((d.setShadow shChecked).grmRecord opDisarm rsOk).commitStep 2 2

/-- R318: LIB_LOAD, which reads the descriptor first, and ends at once with SLOT_EMPTY where that is not a valid one. -/
def Dev.goLibLoad (d : Dev) (mem : List Host.Cell) (slot : Nat) : Dev :=
  if !d.hbmAnswers (libBase slot) || !libValid mem slot then d.grmRecord opLibLoad rsSlotEmpty
  else
    let d1 := ((d.commitLoad 0).grmStart opLibLoad slot).setShadow shLoading
    d1.setGrm { d1.grm with loadMem := mem, loadCrc := (memWord mem (libDescr slot + 8)).toNat }

/-- R319: LIB_SAVE of the shadow as it stands. -/
def Dev.goLibSave (d : Dev) (slot : Nat) : Dev :=
  let d1 := d.grmStart opLibSave slot
  d1.setGrm { d1.grm with savedChecked := d.shadow == shChecked, saved := d.shadowMap }

/-- R321: VERIFY_ACTIVE. -/
def Dev.goVerify (d : Dev) (slot : Nat) : Dev :=
  let d1 := d.grmStart opVerify slot
  d1.setGrm { d1.grm with snap := d.snapOf d.activeMap }

/-- An accepted command starts; LIB_SAVE and LIB_ERASE make the slot's descriptor invalid (R307, R319). -/
def Chip.grmStart (c : Chip) (op slot : Nat) : Chip :=
  let spoil : List Host.Cell :=
    if c.dev.hbmAnswers (libBase slot) then memWriteWord c.mem (libDescr slot) 0 else c.mem
  if op = opInvalidate then c.on Dev.goInvalidate
  else if op = opCopyActive then c.on (fun d => d.goCopyActive slot)
  else if op = opFill then c.on (fun d => d.goFill slot)
  else if op = opCheck then c.on (fun d => d.goCheck slot)
  else if op = opArm then c.on Dev.goArm
  else if op = opDisarm then c.on Dev.goDisarm
  else if op = opLibLoad then c.on (fun d => d.goLibLoad c.mem slot)
  else if op = opLibSave then { c with dev := c.dev.goLibSave slot, mem := spoil }
  else if op = opLibErase then { c with dev := c.dev.grmRecord opLibErase rsOk, mem := spoil }
  else c.on (fun d => d.goVerify slot)

/-- R307: a write to `GRM.CMD`: the command starts where none runs and the shadow's state admits it; NOP and the
reserved values set `SLOT` only. -/
def Chip.grmCommand (c : Chip) (op slot : Nat) : Chip :=
  let c1 := c.on (fun d => d.put F.grmCmdSlot slot)
  if op = 0 ∨ opVerify < op then c1
  else if c.dev.grm.running.isSome then c1.on (fun d => d.grmRecord op rsBusy)
  else if !grmAccepts op c.dev.shadow then c1.on (fun d => d.grmRecord op rsState)
  else c1.grmStart op slot

/-- The state with a master's write of a command carried out. -/
def State.grmWrite (s : State) (m op slot : Nat) : State :=
  s.run (fun c => c.write m Reg.grmCmd (fun x => (x.grmCommand op slot, .okay)))

/-! The commands -/

/-- R307: NOP sets `SLOT` only. -/
def execNop (m : Master) (slot : Fin 64) (s : State) : Out := .next (s.grmWrite m 0 slot)

/-- R307 -/
def execInvalidate (m : Master) (slot : Fin 64) (s : State) : Out := .next (s.grmWrite m opInvalidate slot)

/-- R307: COPY_ACTIVE starts. -/
def execCopyActive (m : Master) (slot : Fin 64) (s : State) : Out := .next (s.grmWrite m opCopyActive slot)

/-- A loading command ends: the shadow holds `map` and is LOADED with result OK, else INVALID (R305). -/
def Dev.loadEnd (d : Dev) (op res : Nat) (map : Store W32) : Dev :=
  let d1 : Dev := { d with shadowMap := map }
  ((((d1.grmEnd op res).raise F.grmEvtCmdDone).setShadow (if res = rsOk then shLoaded else shInvalid))).when
    (res == rsOk) (fun e => e.commitStep 1 1)

/-- R305, R308: a COPY_ACTIVE ends, with ECC where an uncorrectable word ended it. -/
def execCopyActiveDone (ecc : Bool) (s : State) : Out :=
  .next { s with dev := s.dev.when (s.dev.grmRuns opCopyActive) (fun d =>
    if ecc then d.loadEnd opCopyActive rsEcc d.shadowMap else d.loadEnd opCopyActive rsOk d.activeMap) }

/-- R307, R308: FILL starts. -/
def execFill (m : Master) (slot : Fin 64) (s : State) : Out := .next (s.grmWrite m opFill slot)

/-- R305, R307: a FILL ends. -/
def execFillDone (s : State) : Out :=
  .next { s with dev := s.dev.when (s.dev.grmRuns opFill) (fun d =>
    d.loadEnd opFill rsOk (mapFill d.shadowMap d.grm.fill.1 d.grm.fill.2.1 d.grm.fill.2.2)) }

/-- R309: CHECK starts. -/
def execCheck (m : Master) (slot : Fin 64) (s : State) : Out := .next (s.grmWrite m opCheck slot)

/-- R304, R310, R321: a CHECK reaches the end of the map, and a verification that waited for it starts. -/
def execCheckDone (ecc : List MapIndex) (s : State) : Out :=
  .next { s with dev := s.dev.when (s.dev.grmRuns opCheck && s.dev.shadow == shChecking) (fun d =>
    let r := (d.asOf d.grm.snap).checkMap d.grm.snap.map (ecc.map (fun i => i.val) ++ d.poisonedEntries false)
    let d1 := ((d.showCheck false r).put F.grmShadowTuChanged (bitOf ((d.asOf d.grm.snap).tuChanged d.grm.snap.map d.activeMap))).setShadow
      (if r.errors = 0 then shChecked else shFailed)
    (((d1.grmEnd opCheck rsOk).raise F.grmEvtCheckDone).commitStep 2 (if r.errors = 0 then 2 else 1)).verifyNext) }

/-- R312, R314: ARM. -/
def execArm (m : Master) (slot : Fin 64) (s : State) : Out := .next (s.grmWrite m opArm slot)

/-- R307, R316: DISARM. -/
def execDisarm (m : Master) (slot : Fin 64) (s : State) : Out := .next (s.grmWrite m opDisarm slot)

/-- R315: the swap of the two maps, and the pass that begins at its edge. The pass of a first swap is the first that reads entries (R298). -/
def Dev.swapMaps (d : Dev) : Dev :=
  let id := if d.get (F.hdrLedgerStState.page 0xB) = ledgerRunning then d.get (F.hdrLedgerId.page 0xB)
    else d.get F.grmCmtSerialSerial + 1
  let d1 : Dev := { d with activeMap := d.shadowMap, shadowMap := d.activeMap,
                           grm := { d.grm with swapped := true, invalidated := false, pristine := true,
                                               legs := d.words.filter (fun x =>
                                                 decide (0x1800_0000 ≤ x.1) && decide (x.1 < 0x1840_0000)) } }
  let d2 := (((((d1.setShadow shChecked).roll F.grmCmtSerialSerial 1).put F.grmSwapSeqSeq d.seqNow).raise
    F.grmActValid).raise F.grmEvtSwapDone).ledger 0xB id 4 ledgerDone 4
  let fresh := if d.on F.grmActValid then (d2.poisonedEntries true).eraseDups else d2.passUe d2.grm.ue
  let d3 := d2.when (d2.eff 0xB == 2) (fun e => (e.entryUe fresh.length).mapSeen fresh)
  { d3 with egFill := d3.whisk d3.inMove (d3.passUe d3.grm.ue), egress := d.swapMoved }

/-- The swap edge (R35, R312, R313): the `FP8K` edge that has just come is the first after the ARM, the first of a multiframe after it, or
that of the number asked for; with a TU change, the first of a multiframe from there on. -/
def Dev.swapDue (d : Dev) : Bool :=
  d.shadow == shArmed && d.atEdge && decide (d.grm.armedAt < d.timing.edges) &&
    (let b := d.get F.grmCmtCfgBoundary
     let mf := d.on F.grmShadowTuChanged || b == 1
     let past := (d.seqNow + 0x1_0000_0000 - d.get F.grmCmtSeqSeq) % 0x1_0000_0000
     let since := if b = 2 then past + 1 else d.timing.edges - d.grm.armedAt
     if mf then d.atMultiframe && decide (since ≤ 4) else since == 1)

/-- R312, R313, R315: SWAP at its edge. -/
def execSwap (s : State) : Out := .next { s with dev := s.dev.when s.dev.swapDue Dev.swapMaps }

/-- R318: LIB_LOAD starts. -/
def execLibLoad (m : Master) (slot : Fin 64) (s : State) : Out := .next (s.grmWrite m opLibLoad slot)

/-- R318: a LIB_LOAD ends, with CRC where the image's CRC-32 differs from that of the descriptor that it read first. Of a word that was
written while it ran, the image has the old or the new value, which is free. -/
def execLibLoadDone (s : State) : Out :=
  .next { s with dev := s.dev.when (s.dev.grmRuns opLibLoad) (fun d0 =>
    let d : Dev := { d0 with fresh := d0.fresh + 1 }
    let image := libMixed d0.fresh d.grm.loadMem s.mem d.grmSlot
    let ok := d.hbmAnswers (libBase d.grmSlot) && mapCrc image == d.grm.loadCrc
    d.loadEnd opLibLoad (if ok then rsOk else rsCrc) image) }

/-- R319: LIB_SAVE starts. -/
def execLibSave (m : Master) (slot : Fin 64) (s : State) : Out := .next (s.grmWrite m opLibSave slot)

/-- R319: a LIB_SAVE ends with the image and the descriptor written. -/
def execLibSaveDone (s : State) : Out :=
  if s.dev.grmRuns opLibSave then
    .next { s with dev := (s.dev.grmEnd opLibSave rsOk).raise F.grmEvtCmdDone,
                   mem := if s.dev.hbmAnswers (libBase s.dev.grmSlot) then
                       libStore s.mem s.dev.grmSlot s.dev.grm.saved s.dev.grm.savedChecked else s.mem }
  else .next s

/-- R307: LIB_ERASE. -/
def execLibErase (m : Master) (slot : Fin 64) (s : State) : Out := .next (s.grmWrite m opLibErase slot)

/-- R307, R321: VERIFY_ACTIVE starts. -/
def execVerifyActive (m : Master) (slot : Fin 64) (s : State) : Out := .next (s.grmWrite m opVerify slot)

/-- The registers after a verification (R322). -/
def Dev.verified (d : Dev) (snap : MapSnap) (ecc : List Nat) : Dev :=
  let r := (d.asOf snap).checkMap snap.map ecc
  if r.errors = 0 then d.lower F.grmActFault
  else ((d.showCheck true r).raise F.grmActFault).raise F.grmEvtActFault

/-- R487: a verification that a self-check started has ended; where it found errors the map item fails, and the outcome is
decided again. -/
def Dev.verifyReported (d : Dev) : Dev :=
  d.when (d.on F.mateSelfchkVerifyPend) (fun e =>
    let e1 := e.lower F.mateSelfchkVerifyPend
    e1.when (e1.on F.grmActFault && e1.get F.mateSelfchkFail % 2 == 0) (fun x =>
      let y := (x.put F.mateSelfchkFail (x.get F.mateSelfchkFail + 1)).put F.mateSelfchkLocal 2
      ({ y with mate := { y.mate with checking := true, passAt := none } } : Dev).saySelfCheck))

/-- R322: a verification of the active map ends: that of VERIFY_ACTIVE before that of an epoch. -/
def execActiveVerificationDone (ecc : List MapIndex) (s : State) : Out :=
  let l := ecc.map (fun i => i.val) ++ s.dev.poisonedEntries true
  if s.dev.grmRuns opVerify then
    .next { s with dev := (((s.dev.verified s.dev.grm.snap l).grmEnd opVerify rsOk).raise F.grmEvtCmdDone).verifyNext }
  else
    match s.dev.grm.epochSnap with
    | some snap =>
      let d := s.dev.verified snap l
      .next { s with dev := ((d.setGrm { d.grm with epochSnap := none }).verifyReported).verifyNext }
    | none => .next { s with dev := s.dev.verifyNext }

/-- R306, R310: the effect of a write to the shadow map window. -/
def Dev.shadowWrite (d : Dev) (i : Nat) (v : W32) : Dev × Resp :=
  if d.shadow = shArmed ∨ d.shadow = shLoading ∨ d.grmRuns opLibSave then (d, .slverr)
  else
    let d1 := d.stopCheck
    okay ((({ d1 with shadowMap := Store.set (fun _ => 0) d1.shadowMap i v } : Dev).commitLoad 0).setShadow shLoaded)

/-- R306: a write to an entry of the shadow map window. -/
def execShadowWindowWrite (m : Master) (i : MapIndex) (data : W32) (s : State) : Out :=
  .next { s with dev := s.dev.writeTable m (0x1000_0000 + 4 * i.val) (fun d => d.shadowWrite i data) }

end Sys2Proof.Machine
end

