-- ==== Sys2Proof/Machine/MateOps.lean ====
section
/-! DEFINITION. Paired operation (11_paired_operation.md): the Lid, the heartbeats, handover and the self-check. -/

namespace Sys2Proof.Machine

/-! The Lid (R466 to R471) -/

/-- The device is on the card in slot B. -/
def Dev.slotB (d : Dev) : Bool := d.on F.mateStatSlot

/-- `LIDn_N` as the device sees it. -/
def lidBit (line1 : Bool) : Field := if line1 then F.mateStatLid1 else F.mateStatLid0

/-- The Lid lines read as given. -/
def Dev.seeLid (d : Dev) (lid0 lid1 : Bool) : Dev := (d.put F.mateStatLid0 (bitOf lid0)).put F.mateStatLid1 (bitOf lid1)

/-- The holdoff in ns (R467). -/
def Dev.holdoffNs (d : Dev) : Nat := if d.slotB then 2000000 else 250000

/-- R467: the device may seize the Lid. -/
def Dev.maySeize (d : Dev) : Bool :=
  (d.role == roleRejoin || d.role == roleStandby) && (d.mode == modeService || d.mode == modeCoast)
    && !d.on F.mateStatSlotConf && !d.on F.mateStatInterlock && d.mate.seizing.isNone
    && (match d.mate.released with
        | some t => decide (t + 4 * ticksPerMs ≤ d.now)
        | none => true)

/-- R494: items are listed for re-verification, up to 512. -/
def Dev.listItem (d : Dev) (x : Reverify) : Dev :=
  let n := d.get F.mateReverifyCntCount
  if n < 512 then
    ((d.setWord (Reg.mateReverify + 8 * n) (BitVec.ofNat 32 x.key)).setWord (Reg.mateReverify + 8 * n + 4)
      (BitVec.ofNat 32 (x.key / 0x1_0000_0000 % 256 + x.kind * 256))).put F.mateReverifyCntCount (n + 1)
  else d.raise F.mateReverifyCntOvf

/-- The list is empty. -/
def Dev.clearList (d : Dev) : Dev :=
  (d.each 1024 (fun e i => e.setWord (Reg.mateReverify + 4 * i) 0)).setWord Reg.mateReverifyCnt 0

/-- The items named in the received records of the epochs whose END has not arrived. -/
def Dev.openItems (d : Dev) : List Reverify :=
  ((d.mate.rx.flatMap (fun x => stateRecordsOf x.2.2)).map (fun r => (⟨r.kind.toNat, r.key.toNat⟩ : Reverify))).eraseDups

/-- R494: an epoch whose END has not arrived is discarded, and its items are listed. -/
def Dev.discardEpoch (d : Dev) : Dev := d.openItems.foldl Dev.listItem (d.setMate { d.mate with rx := [] })

/-- R468, R494 to R497: a seizure completes: the device is ACTIVE. The list then holds the items of this seizure and of the loss of the mate that
still lasts, and no older ones (R501; DESIGN CHOICE, notes/assumptions/192). -/
def Dev.seize (d0 : Dev) : Dev :=
  let d := (d0.mate.atLoss.foldl Dev.listItem d0.clearList).discardEpoch
  let part := d.role == roleRejoin && !d.mate.snapDone
  let d1 := d.setMate { d.mate with drive0 := true, drive1 := true, seizing := none, atLoss := [], items := [],
                                    stopped := false, sentEpoch := none, final := none }
  let d2 := (((d1.setRole roleActive).roll F.mateTakeoversCount 1).put F.mateLastEpochEpoch
    (d.get F.mateAckEpochEpoch)).put F.mateStatSnapPart (bitOf part)
  ((d2.put F.mateStatRejoinStep 0).mateBit F.mateStatIsolated F.mateEvtIsolated false).seeLid false false

/-- R461, R468: a seizure under way ends, and its line is released. -/
def Dev.dropLine (d : Dev) : Dev :=
  (d.setMate { d.mate with seizing := none, drive0 := false, drive1 := false }).raise (lidBit d.slotB)

/-- R469, R461: the holder steps down under the Lid corner rules. -/
def Dev.stepDown (d : Dev) : Dev := (d.releaseLid).enterRejoin

/-! What a device sends its mate (R472, R487, R491, R496, R499) -/

/-- HEARTBEAT, from byte 1 on. -/
def Dev.heartbeatLoad (d : Dev) : List Byte :=
  let epoch := match d.mate.sentEpoch with
    | some e => if d.role = roleActive then e else d.get F.mateAckEpochEpoch
    | none => d.get F.mateAckEpochEpoch
  BitVec.ofNat 8 (d.role + 4 * bitOf d.slotB + 8 * d.get F.mateStatSuspect + 16 * d.get F.mateStatLid0 + 32 * d.get F.mateStatLid1
      + 64 * d.get F.mateStatInterlock + 128 * bitOf (d.mode == modeService))
    :: BitVec.ofNat 8 d.shedLevel :: (bytesOf 4 d.seqNow ++ bytesOf 4 epoch)

/-- The time left in ms on a running WTR, or else on the hold-off that ends first. -/
def Dev.timeLeft (d : Dev) (t : ProtTarget) : Nat :=
  let p := d.protSt t
  let left (since len : Nat) : Nat := (Nat.max since d.modes.resumed + len - d.now) / ticksPerMs
  match p.wtr with
  | some (_, since) => left since (d.protCfg t).wtr
  | none =>
    let l := (p.waiting (d.protCfg t) d.modes.resumed d.now).map (fun x => left x.2.2 (d.protCfg t).holdoff)
    l.foldl Nat.min (l.headD 0)

/-- The record of an item of the state copy. A write goes as one word (DESIGN CHOICE, notes/assumptions/136). -/
def Dev.itemRecord (d : Dev) (kind key : Nat) : StateRecord :=
  let of (mask : Byte) (a b : Nat) : StateRecord :=
    { kind := BitVec.ofNat 8 kind, mask := mask, key := BitVec.ofNat 40 key, data0 := BitVec.ofNat 32 a, data1 := BitVec.ofNat 32 b }
  match kind with
  | 1 => of 0x0F (d.word key).toNat 0
  | 2 => of 0xFF (d.sncWord key).toNat (if h : key < 262144 then d.timeLeft (.snc ⟨key, h⟩) else 0)
  | 3 => of 0xFF (d.mspStatWord key).toNat (if h : key < 48 then d.timeLeft (.msp ⟨key, h⟩) else 0)
  | 4 => of 0xFF (if key / 0x4_0000 % 2 = 1 then d.sncSt (key % 0x4_0000) else d.mspSt key).command 0
  | 5 => of 0xFF (d.word (0x1A50_0000 + 8 * key)).toNat 0
  | _ => of 0xFF (d.mate.commit.getD 0) (d.word Reg.grmCmtSerial).toNat

/-- STATE blocks of records and their END block. -/
def Dev.sendState (d : Dev) (e : Nat) (snap : Bool) (items : List (Nat × Nat)) : Dev :=
  let l := stateBlocksOf e (items.map (fun x => d.itemRecord x.1 x.2))
  let msg (ends : Bool) (p : List Byte) : MateMsg := { since := d.now, type := 4, field8 := stateField8 ends snap, load := p }
  (d.mateQueue (l.map (msg false) ++ [msg true (endPayload e l)])).setMate
    { (d.mateQueue (l.map (msg false) ++ [msg true (endPayload e l)])).mate with sentEpoch := some e }

/-- The words of the replicated scope (R490). -/
def replicatedWords : List Nat :=
  (((List.range 0x1E_0000).map (fun i => 0x1_0000_0000 + 4 * i)) ++ ((List.range 0x200_0000).map (fun i => 0x1800_0000 + 4 * i))).filter
    replicated

/-- The items of a snapshot (R496). -/
def Dev.snapshotItems (d : Dev) : List (Nat × Nat) :=
  let sncs := d.ownedSelectors
  let msps := d.mspGroupsOn
  replicatedWords.map (fun a => (1, a)) ++ sncs.map (fun i => (2, i)) ++ msps.map (fun g => (3, g))
    ++ sncs.map (fun i => (4, i + 0x4_0000)) ++ msps.map (fun g => (4, g)) ++ (List.range 131072).map (fun i => (5, i))

/-- R491, R496: an epoch, or a snapshot for a mate in REJOIN. -/
def Dev.sendEpoch (d : Dev) (e : Nat) : Dev :=
  if d.get F.mateStatMateRole = roleRejoin then d.sendState e true d.snapshotItems
  else d.sendState e false (d.mate.items.map (fun x => (x.1, x.2.1)))

/-- R493: the records that the mate has not acknowledged, in the lower 512 MiB of the logs and trace region, below the Skewer ring. -/
def Chip.keepRecords (c : Chip) : Chip :=
  let d := c.dev
  if !d.hbmUp ∨ d.traceBase = 0 then c
  else { c with mem := memWrite c.mem (d.traceBase - 0x2000_0000)
                  (d.mate.items.flatMap (fun x => StateRecord.bytes (d.itemRecord x.1 x.2.1))) }

/-- An epoch is still being sent. -/
def Dev.sendsState (d : Dev) : Bool := d.mate.out.any (fun x => x.type == 4)

/-- R481: fewer than two frames are left before the target of an AT_SEQ commit whose record the STANDBY has not committed: it does not arm. -/
def Dev.commitMissed (d : Dev) : Dev :=
  let one (t : Nat) : Bool := (t + 0x1_0000_0000 - d.seqNow) % 0x1_0000_0000 == 1
  d.when (d.role == roleActive && d.mate.commit.any one) (fun e => e.raise F.mateEvtCmtMiss)

/-! Handover (R470, R471) -/

/-- Handover may proceed. -/
def Dev.mayHandOver (d : Dev) : Bool :=
  d.role == roleActive && d.get F.mateStatMateRole == roleStandby && !d.on F.mateStatMateSuspect && d.mate.lane.up
    && d.mate.side.up && (match d.mate.sentEpoch with
      | some e => d.get F.mateAckEpochEpoch == e
      | none => true)

/-- The role is handed over: HANDOVER and the final epoch are sent, the Lid is released, and the device is STANDBY. -/
def Dev.handOver (d : Dev) : Dev :=
  let e := d.seqNow / 80
  let d1 := ((d.mateSay 5 (bytesOf 4 e)).sendEpoch e).releaseLid
  ((d1.setMate { d1.mate with released := some d.now, items := [], commit := none, sentEpoch := none }).setRole
    roleStandby).put F.mateStatRejoinStep 0

/-- `MATE.CMD_STAT` records a command. -/
def Dev.mateResult (d : Dev) (op res : Nat) : Dev := (d.put F.mateCmdStatOp op).put F.mateCmdStatResult res

/-- R470: HANDOVER. -/
def Dev.cmdHandover (d : Dev) : Dev :=
  if d.mayHandOver then d.handOver.mateResult 1 mateDone else d.mateResult 1 mateRefused

/-- R489: CLEAR_SUSPECT. -/
def Dev.cmdClearSuspect (d : Dev) : Dev := (d.lower F.mateStatSuspect).mateResult 2 mateDone

/-- R498: REJOIN. -/
def Dev.cmdRejoin (d : Dev) : Dev :=
  if d.role = roleStandby ∨ d.role = roleRejoin then d.enterRejoin.mateResult 3 mateRunning
  else if d.mayHandOver then d.handOver.enterRejoin.mateResult 3 mateRunning
  else d.mateResult 3 mateRefused

/-! Heartbeats (R472 to R475) -/

/-- A miss on a path, and a heartbeat on it, at time `now` (R473). -/
def HbState.miss (h : HbState) (now : Nat) : HbState :=
  let n := Nat.min 3 (h.misses + 1)
  { up := h.up && n < 3, lost := h.lost || n == 3, misses := n, good := 0, last := now }
def HbState.beat (h : HbState) (now : Nat) : HbState :=
  let n := Nat.min 4 (h.good + 1)
  { up := h.up || n == 4, lost := h.lost && n < 4, misses := 0, good := n, last := now }

/-- 300 µs have passed since the last heartbeat or the last miss (R473). -/
def HbState.missDue (h : HbState) (now : Nat) : Bool := decide (h.last + usTicks 300 ≤ now)

/-- R474, R475: the paths' state shows, with what follows when the mate is lost. -/
def Dev.showPaths (d : Dev) : Dev :=
  let l := d.mate.lane
  let s := d.mate.side
  let lost := l.lost && s.lost
  let begins := lost && !d.on F.mateStatMateLost
  let d1 := (((d.put F.mateStatHbLane (bitOf l.up)).put F.mateStatHbSide (bitOf s.up)).mateBit F.mateStatMateLost
    F.mateEvtMateLost lost).mateBit F.mateStatDegraded F.mateEvtDegraded (l.lost != s.lost)
  let held := !(d.on F.mateStatLid0 && d.on F.mateStatLid1)
  let d2 := d1.setMate { d1.mate with atLoss := if begins then d1.openItems else if lost then d1.mate.atLoss else [] }
  (d2.when begins Dev.discardEpoch).when (begins && d.role == roleStandby && held)
    (fun e => e.mateBit F.mateStatIsolated F.mateEvtIsolated true)

/-- The lane path is up: an isolated standby rejoins (R475), and a rejoining device goes on to align (R496). -/
def Dev.laneRestored (d : Dev) : Dev :=
  let d1 := d.when (d.on F.mateStatIsolated && d.mate.lane.up) Dev.enterRejoin
  d1.when (d1.role == roleRejoin && d1.get F.mateStatRejoinStep == 1 && d1.mate.lane.up
    && d1.get F.mateStatMateRole == roleActive) (fun e =>
      let x := e.put F.mateStatRejoinStep 2
      (x.setMate { x.mate with echoed := false }).mateSay 4 (echoLoad false e.timeBase 0))

/-- R469: the mate reports ACTIVE to a holder. -/
def Dev.mateActive (d : Dev) : Dev := d.when (d.role == roleActive && d.slotB) Dev.stepDown

/-- The mate acknowledges an epoch (R492). Where that commits the COMMIT record, `MATE.EVT.CMT_MISS` is set here too if the shadow of the STANDBY was
not CHECKED (R481): no message says so, and whether it was is a free value (notes/assumptions/193). -/
def Dev.acked (d : Dev) (e : Nat) : Dev :=
  let commits := d.mate.commit.isSome && !d.mate.items.any (fun x => x.1 == 6 && decide (e < x.2.2))
  let d1 := (d.put F.mateAckEpochEpoch e).setMate { d.mate with
    items := d.mate.items.filter (fun x => decide (e < x.2.2)), commit := if commits then none else d.mate.commit }
  if commits then
    let x := d1.freeNat
    x.2.when (x.1 % 2 == 1) (fun y => y.raise F.mateEvtCmtMiss)
  else d1

/-- R461: a slot conflict: a holder steps down, and a seizure under way ends. -/
def Dev.yieldLid (d : Dev) : Dev :=
  if d.role = roleActive then d.stepDown else d.when d.mate.seizing.isSome Dev.dropLine

/-- A HEARTBEAT block on a lane that the pair uses. A heartbeat goes on every mate lane, and counts once on the lane path (R461, R469 to R475, R492). -/
def Dev.laneBeat (d : Dev) (h : Heartbeat) : Dev :=
  let m := d.mate
  let d1 := d.setMate { m with lane := if m.beatSeq = some h.seq then m.lane else m.lane.beat d.now, beatSeq := some h.seq, service := h.service, shed := h.shed, interlock := h.interlock }
  let d2 := ((d1.put F.mateStatMateRole h.role).put F.mateStatMateSuspect (bitOf h.suspect)).when
    (h.suspect && !d.on F.mateStatMateSuspect) (fun e => e.raise F.mateEvtSuspect)
  let conf := h.slot == d.slotB
  let d3 := (d2.mateBit F.mateStatSlotConf F.mateEvtSlotConf conf).when (d.role != roleActive) (fun e =>
    e.seeLid h.lid0High h.lid1High)
  let d4 := (d3.when conf Dev.yieldLid).when (h.role == 1) Dev.mateActive
  let d5 := d4.when (d4.role == roleActive && h.role == 2) (fun e => e.acked h.epoch)
  let d6 := d5.showPaths.laneRestored
  d6.when (d6.on F.mateCfgCoastHand && d6.mode == modeCoast && h.service && d6.mayHandOver) Dev.handOver

/-- A heartbeat arrives on a path of a paired device (R473). -/
def Dev.heartbeat (d : Dev) (h : HbIn) : Dev :=
  match h with
  | .pulse w =>
    let wide := decide (1700 ≤ w ∧ w ≤ 2300)
    d.when (d.role != roleSolo && (wide || decide (700 ≤ w ∧ w ≤ 1300))) (fun e =>
      ((e.setMate { e.mate with side := e.mate.side.beat e.now }).when wide Dev.mateActive).showPaths)
  | .block on payload => d.controlArrives on payload (fun e => e.laneBeat (heartbeatOf payload))

/-! Self-check (R487 to R489) -/

/-- A time of the last second. -/
def Dev.recent (d : Dev) (t : Option Nat) : Bool := t.any (fun x => decide (d.now < x + ticksPerSecond))

/-- The items of R487 that fail here; the lanes as the mate's health names them. -/
def Dev.selfFails (d : Dev) : Nat :=
  let map := d.on F.grmActFault || d.recent d.grm.entUeAt
  let memory := d.recent d.sram.ueAt || d.on F.memStatCopying
  let lanes := match d.mate.health with
    | some h => (List.range 96).any (fun n => h.getLsbD n
        && ((d.lane n).cdrSince.isNone || d.defect n defOof))
    | none => false
  bitOf map + 2 * bitOf memory + 4 * bitOf lanes

/-- The local result follows the items. -/
def Dev.selfResult (d : Dev) : Dev :=
  let f := d.selfFails
  (d.put F.mateSelfchkFail f).put F.mateSelfchkLocal (if f = 0 then 1 else 2)

/-- The local result as the self-check begins. -/
def Dev.selfBegins (d : Dev) : Dev :=
  if d.role ≠ roleSolo ∧ d.mate.lane.up then (d.put F.mateSelfchkFail 0).put F.mateSelfchkLocal 3 else d.selfResult

/-- R487: the self-check runs, and VERIFY_ACTIVE starts. It is running until the lanes of the mate are known; with no lane path they never are,
and the result follows at once (DESIGN CHOICE, notes/assumptions/195). -/
def Dev.startSelfCheck (d : Dev) : Dev :=
  let d1 := d.setMate { d.mate with checking := true, passAt := none, health := none }
  let d2 := (((d1.put F.mateSelfchkMate 0).raise F.mateSelfchkVerifyPend).selfBegins).saySelfCheck
  (d2.setGrm { d2.grm with epochDue := true }).verifyNext

/-- SELF_CHECK (R487). -/
def Dev.cmdSelfCheck (d : Dev) : Dev :=
  d.startSelfCheck.mateResult 4 (if d.role = roleActive ∨ d.role = roleStandby then mateRunning else mateDone)

/-- R489: SUSPECT is set. -/
def Dev.setSuspect (d : Dev) : Dev := (d.raise F.mateStatSuspect).raise F.mateEvtSuspect

/-- R488: the outcome of a self-check. -/
def Dev.selfOutcome (d : Dev) : Dev :=
  let own := d.get F.mateSelfchkLocal
  let other := d.get F.mateSelfchkMate
  let d1 := (d.raise F.mateEvtSelfchkDone).setMate { d.mate with
    checking := false, passAt := if own = 1 ∧ other = 1 then some d.now else none }
  let d2 := d1.when (d1.get F.mateCmdStatOp == 4 && d1.get F.mateCmdStatResult == mateRunning) (fun e =>
    e.put F.mateCmdStatResult mateDone)
  if own = 2 ∧ other = 1 then
    if d.role = roleActive then
      let d3 := d2.releaseLid
      ((d3.setMate { d3.mate with released := some d.now, items := [], sentEpoch := none }).setRole roleStandby).setSuspect
    else d2.setSuspect
  else d2

/-! Commands of `MATE.CMD` -/

/-- A write of `MATE.CMD` (R501): NONE and the reserved values ask for nothing. -/
def Dev.writeMateCmd (d : Dev) (data : W32) : Dev :=
  match getF data 0 4 with
  | 1 => d.cmdHandover
  | 2 => d.cmdClearSuspect
  | 3 => d.cmdRejoin
  | 4 => d.cmdSelfCheck
  | _ => d

/-- R462: a write of `MATE.CFG`. -/
def Dev.writeMateCfg (d : Dev) (data : W32) : Dev :=
  let d1 := d.regWrite Reg.mateCfg data
  let was := d.on F.mateCfgEn
  let is := d1.on F.mateCfgEn
  if !was && is then
    let fresh : HbState := { last := d.now }
    (d1.setMate { lane := fresh, side := fresh, released := d.mate.released }).enterRejoin.showPaths
  else if was && !is then
    let d2 := (d1.releaseLid.setMate {}).setRole roleSolo
    ((((d2.put F.mateStatRejoinStep 0).mateBit F.mateStatIsolated F.mateEvtIsolated false).lower F.mateStatInterlock).lower
      F.mateStatLidDrv).showPaths
  else d1

end Sys2Proof.Machine
end

