-- ==== Sys2Proof/Machine/Digests.lean ====
section
/-! DEFINITION. Container digests: what a device reports, and how two devices compare (R222, R223, R483 to R486). -/

namespace Sys2Proof.Machine

/-! Reports (R483, R484) -/

/-- The entries of a unit name a flow port, directly or through the leg in use. -/
def Dev.fromFlowPort (d : Dev) (q : Nat) (u : FabricUnit) : Bool :=
  u.slots.any (fun s =>
    let v := Store.get (fun _ => 0) d.activeMap (portSlots * q + s)
    if entryKind v = 1 then decide (96 ≤ entryPort v)
    else entryKind v == 2 && decide (96 ≤ (d.leg (entrySlot v) (d.legInUse (entrySlot v))).1))

/-- The digest that a unit of lane `q` reports: an unequipped unit's, one whose pointer is AIS, or that of its last whole VC. -/
def Dev.digestOf (d : Dev) (q : Nat) (u : FabricUnit) : Option W32 :=
  let x := Store.get (fun _ => {}) d.egress (unitPoint q u)
  if u.slots.all (fun s => entryKind (Store.get (fun _ => 0) d.activeMap (portSlots * q + s)) == 0) then some 0
  else if x.track.act = .ais then some 0xFFFF_FFFF
  else x.digest

/-- A point reports in frame `s`: a lower-order one in one frame of the multiframe. -/
def reportsIn (k s : Nat) : Bool := isHo k || subOf k % 4 == s % 4

/-- Frames of a period of a point (R485). -/
def digestPeriod (k : Nat) : Nat := if isHo k then 1 else 4

/-- The units whose points this device digests: a structured higher-order container has none (R223). -/
def Dev.digested (d : Dev) (s : Nat) : List (Nat × FabricUnit) :=
  (List.range 96).flatMap (fun q => ((d.portUnits q).filter (fun u =>
    reportsIn (unitPoint q u) s && !d.fromFlowPort q u)).map (fun u => (q, u)))

def Dev.egressPoint (d : Dev) (k : Nat) : VcSt := Store.get (fun _ => {}) d.egress k

def Dev.setEgress (d : Dev) (k : Nat) (x : VcSt) : Dev := { d with egress := Store.set (fun _ => {}) d.egress k x }

/-- A report of a point by frame number, of which the low 16 bits are sent. -/
def reportAt (l : List (Nat × W32)) (f : Nat) : Option W32 := (l.find? (fun x => x.1 == f % 0x1_0000)).map (fun x => x.2)

/-- The frames around `f` whose own reports may equal that of frame `f`: a period before, itself and a period after. -/
def digestFrames (k f : Nat) : List Nat :=
  [(f + 0x1_0000 - digestPeriod k) % 0x1_0000, f % 0x1_0000, (f + digestPeriod k) % 0x1_0000]

/-- The points that this device reports in frame `f`, in key order. -/
def Dev.reportKeys (d : Dev) (f : Nat) : List Nat :=
  (d.egress.filter (fun x => (reportAt x.2.reports f).isSome)).map (fun x => x.1)

/-! Comparison (R485, R486) -/

/-- Both devices compare (R478, R482, R486). -/
def Dev.compares (d : Dev) : Bool :=
  let paired (r : Nat) : Bool := r == roleActive || r == roleStandby
  paired d.role && paired (d.get F.mateStatMateRole) && !d.on F.mateStatPhaseErr && !d.on F.mateStatMateLost
    && decide (d.shedLevel < 3) && decide (d.mate.shed < 3)

/-- A mismatch at point `k`; disagreement is declared at the third within 80 frames. -/
def Dev.mismatch (d : Dev) (k : Nat) : Dev :=
  let ms := ((d.timing.edges :: d.mate.mismatches).filter (fun e => decide (d.timing.edges < e + 80))).take 3
  let d1 := (((d.setMate { d.mate with mismatches := ms }).roll F.mateDigMismatchCount 1).put F.mateDigLastIndex
    (if isHo k then k else k - 18432)).put F.mateDigLastLo (bitOf (!isHo k))
  d1.when (ms.length == 3 && !d.on F.mateStatDisagree) (fun e =>
    ((e.raise F.mateStatDisagree).raise F.mateEvtDisagree).startSelfCheck)

/-- The mate's report `v` of point `k` for frame `f` is compared with the device's own of three periods. -/
def Dev.compareReport (d : Dev) (k f : Nat) (v : W32) : Dev :=
  if (digestFrames k f).any (fun g => reportAt (d.egressPoint k).reports g == some v) then d else d.mismatch k

/-- A report of the mate arrives. It waits until the device has reported the period after it; one whose absence has been counted counts no
more; and one for a point that this device does not report is a mismatch. -/
def Dev.reportArrives (d : Dev) (k f : Nat) (v : W32) : Dev :=
  let x := d.egressPoint k
  let own (g : Nat) : Bool := (reportAt x.reports g).isSome
  if !own f && !x.reports.any (fun y => (f + 0x1_0000 - y.1) % 0x1_0000 ≤ digestPeriod k) then d.mismatch k
  else if own (f + 3 * digestPeriod k) then d
  else
    let d1 := d.setEgress k { x with heard := ((f % 0x1_0000, v) :: x.heard).take 8 }
    d1.when (own (f + digestPeriod k)) (fun e => e.compareReport k f v)

/-- R485, R499: a DIGEST block arrives: its reports are those of consecutive reported points from its key on. A report beyond the points
that this device reports has no point here, and is a mismatch at the last of them. -/
def Dev.digestBlock (d : Dev) (n : Nat) (payload : List Byte) : Dev :=
  let f := fieldAt payload 0 2
  let first := digestPoint (fieldAt payload 2 3)
  let own := (d.egress.map (fun x => x.1)).filter (fun k => decide (first < k) && reportsIn k f
    && !(d.egressPoint k).reports.isEmpty)
  let rs := digestReports n payload
  ((rs.zip (first :: own)).foldl (fun e x => e.reportArrives x.2 f x.1) d).each (rs.length - (own.length + 1))
    (fun e _ => e.mismatch ((first :: own).getLast?.getD first))

/-- R485 -/
def execDigest (b : DigestBlock) (s : State) : Out :=
  .next { s with dev := s.dev.when s.dev.compares (fun d => d.digestBlock b.field8.toNat b.payload) }

/-! The end of a frame -/

/-- The report of point `k` for frame `f` is held, at most 8 of them; the mate's report for the period before it is compared, and one three
periods back that has not come is missing (R485). Where none has come for the two periods after it either, the mate does not report the point, which
is a mismatch too (DESIGN CHOICE, notes/assumptions/194). -/
def Dev.ownReport (d : Dev) (k f : Nat) (v : W32) : Dev :=
  let x := d.egressPoint k
  let p := digestPeriod k
  let back (n : Nat) : Nat := (f + 0x1_0000 - n * p) % 0x1_0000
  let d1 := d.setEgress k { x with reports := ((f % 0x1_0000, v) :: x.reports).take 8 }
  if !d.compares then d1.setEgress k { d1.egressPoint k with heard := [] }
  else
    let d2 := match reportAt x.heard (back 1) with
      | some w => d1.compareReport k (back 1) w
      | none => d1
    let silent (n : Nat) : Bool := (reportAt x.heard (back n)).isNone
    d2.when ((reportAt x.reports (back 3)).isSome && silent 3) (fun e =>
      (e.roll F.mateDigMissCount 1).when (silent 2 && silent 1) (fun y => y.mismatch k))

/-- R484: the reports of frame `f`, which has ended. -/
def Dev.reportFrame (d : Dev) (f : Nat) : Dev :=
  (d.digested f).foldl (fun e x =>
    match e.digestOf x.1 x.2 with
    | some v => e.ownReport (unitPoint x.1 x.2) f v
    | none => e) d

/-- The DIGEST blocks for the reports of frame `f`, as FIELD8 and payload. -/
def Dev.digestBlocks (d : Dev) (f : Nat) : List (Byte × List Byte) :=
  let rs := (d.reportKeys f).filterMap (fun k => (reportAt (d.egressPoint k).reports f).map (fun v => (k, v)))
  (List.range ((rs.length + 63) / 64)).map (fun i =>
    let l := (rs.drop (64 * i)).take 64
    (BitVec.ofNat 8 l.length, digestPayload (f % 0x1_0000) ((l.headD (0, 0)).1) (l.map (fun x => x.2))))

end Sys2Proof.Machine
end

