-- ==== Sys2Proof/Machine/TuOps.lean ====
section
/-! DEFINITION. The Tustra Engine (06_tustra_frame.md): block headers, payload scrambling, mapping banks, packet carriage,
and what a received block changes. -/

namespace Sys2Proof.Machine

/-! Headers and payloads (R239, R240, R244) -/

/-- The header mask. -/
def tuMask : List Byte := [0xB5, 0x1E, 0x6C, 0xD2, 0x39, 0x87]

/-- A block that failed HCS, or that has not come (R251, R280). -/
def TuHdr.failed : TuHdr := { ok := false, corrected := false, type := 2, fs := false, field8 := 0, arg := 0 }

/-- An unmasked header passes HCS. -/
def hcsOk (h : List Byte) : Bool := crc16 (h.take 4) == numOf (h.drop 4)

def tuFields (h : List Byte) (ok corrected : Bool) : TuHdr :=
  let b := (h.getD 0 0).toNat
  { ok := ok, corrected := corrected, type := b / 16, fs := b / 8 % 2 == 1, field8 := h.getD 1 0,
    arg := (h.getD 2 0).toNat * 256 + (h.getD 3 0).toNat }

/-- The header with bit `k` inverted. -/
def flipBit (h : List Byte) (k : Nat) : List Byte := h.mapIdx (fun i b => if i = k / 8 then b ^^^ BitVec.ofNat 8 (2 ^ (k % 8)) else b)

/-- The six header bytes of a received block, with single-bit correction where `corr` allows it (R120). -/
def tuHeader (corr : Bool) (bytes : List Byte) : TuHdr :=
  let h := List.zipWith (fun x y => x ^^^ y) (bytes.take 6) tuMask
  if hcsOk h then tuFields h true false
  else if corr then
    match (List.range 48).find? (fun k => hcsOk (flipBit h k)) with
    | some k => tuFields (flipBit h k) true true
    | none => tuFields h false false
  else tuFields h false false

/-- Eight bits of the sequence x^31 + x^28 + 1 from the register `r`, whose bit k is the bit k + 1 places back. -/
def scr31Byte (r : Nat) : Nat × Nat :=
  (List.range 8).foldl (fun x _ =>
    let s := (x.2 / 2 ^ 27 + x.2 / 2 ^ 30) % 2
    (x.1 * 2 + s, x.2 * 2 % 2 ^ 31 + s)) (0, r)

/-- The register after `n` bytes of the sequence. -/
def scr31Skip : Nat → Nat → Nat
  | 0, r => r
  | n + 1, r => scr31Skip n (scr31Byte r).2

def scr31 : Nat → List Byte → List Byte
  | _, [] => []
  | r, b :: t => (b ^^^ BitVec.ofNat 8 (scr31Byte r).1) :: scr31 (scr31Byte r).2 t

/-- The payload of block `b`, scrambled or descrambled (R244). -/
def tuPayload (b : Nat) (l : List Byte) : List Byte := scr31 (scr31Skip (264 * b) (2 ^ 31 - 1)) l

/-! The SYSTEM profile (R262, R264) -/

/-- The AUG-1s 0 to `a` - 1 in rising order of interleave position. -/
def augsBelow (a : Nat) : List Nat := ((List.range 64).map augPos).filter (fun g => decide (g < a))

/-- The AU area of AUG-1s 0 to `a` - 1 in rising slot order. -/
def systemSlots (a : Nat) : List Nat := blockSlots (augsBelow a) (List.range 9) (List.range 261)

/-- Blocks 0 to C - 1 carry containers. -/
def systemBlocks (a : Nat) : Nat := blocksOf (2358 * a)

/-! Packets (R257 to R261, R364) -/

/-- R38, R364: a packet of lane `n` is committed to the L2F filling bank, which takes it only where it fits whole. -/
def Dev.psqCommit (d : Dev) (n : Nat) (p : Packet) : Dev :=
  if 0x20_0000 < packetBytes d.psq.l2f + p.cost then (d.setTu n { d.tu n with pkt := some p }).rewind n
  else
  let d1 := (d.setTu n { d.tu n with pkt := none }).count 0 n 8 1
  ({ d1.count 0 n 9 p.data.length with psq := { d1.psq with l2f := d1.psq.l2f ++ [p] } } : Dev).psqNote

/-- The block of an open packet is the last: the trailer is checked (R258, R259, R261). The block before it ends with up to five bytes of
filler where the data left it too little room for the trailer (DESIGN CHOICE, notes/assumptions/134). -/
def Dev.packetEnd (d : Dev) (n : Nat) (p : Packet) (data : List Byte) : Dev :=
  let room := data.length - 6
  let len := numOf ((data.drop room).take 2)
  let crc := numOf (data.drop (room + 2))
  let full := (p.data ++ data.take (len - p.data.length)).take len
  if p.data.length ≤ len + 5 ∧ len - p.data.length ≤ room ∧ 1 ≤ len ∧ len ≤ 9600 ∧ crc32 full = crc then
    d.psqCommit n { p with data := full }
  else (d.setTu n { d.tu n with pkt := some p }).rewind n

/-- A PACKET block at index `b` (R257, R261). -/
def Dev.packetBlock (d : Dev) (n b : Nat) (h : TuHdr) (payload : List Byte) : Dev :=
  let f := h.field8.toNat
  let flow := if 9 ≤ b then h.arg else numOf (payload.take 2)
  let data := if 9 ≤ b then payload else payload.drop 2
  let sop := 128 ≤ f
  let d1 := d.when (decide sop) (fun e => e.rewind n)
  let cur : Option Packet := if sop then some { flow := flow, cls := f % 8, lane := n } else (d1.tu n).pkt
  match cur with
  | none => d1.roll (F.laneTuOrphanCount.lane n) 1
  | some p =>
    if p.flow ≠ flow ∨ p.cls ≠ f % 8 then d1.rewind n
    else if f / 64 % 2 = 1 then d1.packetEnd n p data
    else
      let q := { p with data := p.data ++ data }
      let d2 := d1.setTu n { d1.tu n with pkt := some q }
      if 9600 < q.data.length then d2.rewind n else d2.psqNote

/-! A block of a frame (R242, R243, R246 to R252, R261, R264, R267, R268, R275) -/

/-- A type that the lane's profile carries (R242). -/
def typeCarried (profile type : Nat) : Bool := if profile = 3 then decide (2 ≤ type ∧ type ≤ 5) else decide (type ≤ 2)

/-- The blocks of the lane's frame whose position carries a container. -/
def Dev.containerBlocks (d : Dev) (n : Nat) : Nat :=
  if d.isSystem n then systemBlocks (d.augs n)
  else
    ((d.tu n).rxLayout.getD []).foldl (fun a c => Nat.max a (c.first + blocksOf c.slots.length)) 0

/-- The class of the received bank in which block `b` lies. -/
def Dev.classBlocks (d : Dev) (n b : Nat) : List Nat :=
  (((d.tu n).rxLayout.getD []).filter (fun c => decide (c.first ≤ b) && decide (b < c.first + blocksOf c.slots.length))).flatMap
    (fun c => (List.range (blocksOf c.slots.length)).map (fun i => c.first + i))

/-- R261: block `b` failed HCS. Outside containers it may have been the open packet's. Within a class it was, where the class's blocks come
as other than CONTAINER; until one has come, the block is noted. -/
def Dev.blockFailed (d : Dev) (n b : Nat) : Dev :=
  let t := d.tu n
  if d.containerBlocks n ≤ b ∨ (!d.isSystem n && (d.classBlocks n b).any (fun x => t.other.contains x)) then d.rewind n
  else d.when t.pkt.isSome (fun e => e.setTu n { t with failed := b :: t.failed })

/-- R261: block `b` came as other than CONTAINER in the class of blocks that have failed. -/
def Dev.classDropped (d : Dev) (n b : Nat) : Dev :=
  let t := d.tu n
  let mine := d.classBlocks n b
  d.when (t.failed.any (fun x => mine.contains x)) (fun e =>
    (e.setTu n { t with failed := t.failed.filter (fun x => !mine.contains x) }).rewind n)

/-- Containers and packets of block `b` on lane `n`: `payload` is descrambled (R243, R261, R264). A port whose frame began idle takes no
containers (R31). -/
def Dev.tuContent (d : Dev) (n b : Nat) (h : TuHdr) (payload : List Byte) : Dev :=
  let a := d.augs n
  let d1 := d.when (d.isSystem n && decide (b < systemBlocks a) && !d.inFill.idle.contains n) (fun e =>
    e.ingressWrite n (((systemSlots a).drop (264 * b)).zip payload))
  if !h.ok then d1.blockFailed n b
  else
    (d1.when (h.type != 0 && !d.isSystem n) (fun e => e.classDropped n b)).when (h.type == 1) (fun e => e.packetBlock n b h payload)

/-- R249, R251: a frame's number is readable. -/
def Dev.seqCheck (d : Dev) (n s : Nat) : Dev :=
  let t := d.tu n
  let d1 := (d.setTu n { t with expect := some ((s + 1) % 2 ^ 32), seen := s, slip := none }).put (F.laneTuRxseqSeq.lane n) s
  let slipped := match t.slip with
    | some true => seqDistance s t.seen == 2
    | some false => s == t.seen
    | none => false
  match t.expect with
  | none => d1
  | some e =>
    if slipped then d1.roll (F.laneTuSlipseqCount.lane n) 1
    else
      let x := seqDistance s e
      let u := d1.tu n
      if x = 0 then d1.setTu n { u with seqBad := 0, seqOk := Nat.min 8 (u.seqOk + 1), far := false }
      else
        ((d1.setTu n { u with seqBad := Nat.min 3 (u.seqBad + 1), seqOk := 0, far := decide (0x10_0000 < x.natAbs) }).roll
          (F.laneTuSeqerrCount.lane n) 1).count 0 n 2 1

/-- The ARG of a block that passed HCS in FRAME, or none where it failed (R246 to R254, R268). -/
def Dev.tuArg (d : Dev) (n b : Nat) (arg : Option Nat) : Dev :=
  let t := d.tu n
  if b = 0 then d.setTu n { t with seqLow := arg }
  else if b = 1 then
    let d1 := match t.seqLow, arg with
      | some lo, some hi => d.seqCheck n (lo + hi * 0x1_0000)
      | _, _ => match t.expect with
        | some e => (d.setTu n { t with expect := some ((e + 1) % 2 ^ 32) }).put (F.laneTuRxseqSeq.lane n) e
        | none => d
    d1.laneUpdate n
  else if b = 4 then
    match arg with
    | none => d
    | some a =>
      let rd := a / 0x8000 = 1
      let u : TuRx := { t with rd := if rd then Nat.min 3 (t.rd + 1) else 0, noRd := if rd then 0 else Nat.min 3 (t.noRd + 1) }
      let bank := a / 0x2000 % 2
      if (d.lane n).type ≠ 1 then d.setTu n u
      else
        let d1 := (d.setTu n u).when (d.get (F.laneTuStatRxbank.lane n) != bank) (fun e =>
          (e.put (F.laneTuStatRxbank.lane n) bank).raise (F.laneTuEvtRxbankChg.lane n))
        if t.rxNamed = some bank then d1
        else
          let cs := d1.bankLayout n bank
          (d1.setTu n { u with rxNamed := some bank, rxLayout := cs, rxBoxes := d1.bankContainers n bank }).when cs.isNone (fun e =>
            e.raise (F.laneTuEvtMapErr.lane n))
  else if 5 ≤ b ∧ b ≤ 8 ∧ n < 96 then
    let a := arg.getD 0
    let i := 2 * (b - 5)
    let f : Field := ⟨laneAddr n (if b ≤ 6 then Reg.laneTuCrrx0 else Reg.laneTuCrrx1), 8 * (i % 4), 16⟩
    (d.setTu n { t with grants := (t.grants.set i (a / 256)).set (i + 1) (a % 256) }).put f (a / 256 + a % 256 * 256)
  else d

/-- What the frame that has ended brought for the container in `slots`: all-ones where its bank is refused or a block of it came as other
than CONTAINER (R267, R275). -/
def TuRx.container (t : TuRx) (slots : List Nat) : List (Nat × Byte) :=
  let ones := slots.map (fun s => (s, (0xFF : Byte)))
  match t.rxLayout with
  | none => ones
  | some cs =>
    let places := slots.map (fun s => (s, (slotPlace cs s).getD (0, 0)))
    if places.any (fun x => t.other.contains x.2.1) then ones
    else places.filterMap (fun x => (t.buf.find? (fun y => y.1 == x.2.1)).map (fun y => (x.1, y.2.getD x.2.2 0)))

/-- R28, R275: the containers of a RADIO lane are written once the frame's last block has been received; every other slot of its structure
holds 0x00. A port whose frame began idle takes nothing (R31). -/
def Dev.radioWrite (d : Dev) (n : Nat) : Dev :=
  let t := d.tu n
  let rest := (d.portAreas n).flatMap (fun u => u.slots.filter (fun s => !t.rxBoxes.any (fun b => b.contains s)))
  d.when (t.rxNamed.isSome && !d.inFill.idle.contains n) (fun e =>
    e.ingressWrite n (rest.map (fun s => (s, (0 : Byte))) ++ t.rxBoxes.flatMap t.container))

/-- The first slots of the units whose container was replaced by all-ones in a frame whose blocks `other` came as other than CONTAINER
(R267, R275). -/
def Dev.replacedUnits (d : Dev) (n : Nat) (other : List Nat) : List Nat :=
  let t := d.tu n
  let refused := t.rxNamed.isSome && t.rxLayout.isNone && !d.isSystem n
  let blockOf : Nat → Option Nat :=
    if d.isSystem n then
      let ss := systemSlots (d.augs n)
      fun s => (ss.findIdx? (fun x => x == s)).map (fun i => i / 264)
    else
      fun s => (slotPlace (t.rxLayout.getD []) s).map (fun x => x.1)
  if other.isEmpty && !refused then []
  else (d.portUnits n).filterMap (fun u =>
    if u.slots.any (fun s => if refused then t.rxBoxes.any (fun b => b.contains s) else (blockOf s).any other.contains) then
      some (u.slots.headD 0)
    else none)

/-- A frame of lane `n`, or of the merged stream of its pair, has ended: the containers that it replaced are failed legs from now on
(R431). -/
def Dev.noteReplaced (d : Dev) (n : Nat) (other : List Nat) : Dev :=
  let l := d.replacedUnits n other
  if (d.tu n).ones = l then d else (d.setTu n { d.tu n with ones := l }).protSee

/-- FS errors (R123): an expected block 0 without FS, or another block with it. The blocks of an earlier frame that a slip repeats leave the
frame in progress as it is (R135). -/
def Dev.fsCheck (d : Dev) (n b : Nat) (h : TuHdr) : Dev :=
  d.when (h.ok && (h.fs != decide (b = 0))) (fun e =>
    (e.setTu n { e.tu n with fsErr := (e.tu n).fsErr || !(e.tu n).tailAgain }).roll (F.laneSvFserrCount.lane n) 1)

/-- R494, R499: a STATE block of records waits for the END block of its epoch; `payload` is descrambled. -/
def Dev.stateBlock (d : Dev) (n : Nat) (h : TuHdr) (payload : List Byte) : Dev :=
  let used := !d.mate.excluded.contains (n - 96) && (d.get F.mateCfgLanes).testBit (n - 96)
  let role := d.get F.mateStatRole
  if h.ok && h.type == 4 && !h.field8.getLsbD 7 && used && (role == 2 || role == 3) then
    let e := fieldAt payload 0 4
    let i := fieldAt payload 4 2
    { d with mate := { d.mate with rx := d.mate.rx.filter (fun x => x.1 != e || x.2.1 != i) ++ [(e, i, payload)] } }
  else d

/-! Copies of a merge pair (R278, R279) -/

/-- Ticks of a block on lane `n`. -/
def Dev.blockTicks (d : Dev) (n : Nat) : Nat := ticksPerFrame / blocksPerFrame (d.lane n).rate

/-- Block `x` of frame `s` of the copy of lane `n` came after its release time in pair `p`. While the pair has no release point, and for
a frame of far other numbers, none does (DEDUCED, notes/assumptions/135). -/
def Dev.copyLate (d : Dev) (p n s : Nat) (x : CopyBlk) : Bool :=
  match (d.tu p).release with
  | some r => !farApart s r.seq
      && decide ((r.point : Int) + seqDistance s r.seq * ticksPerFrame + x.block * d.blockTicks n < x.arrived)
  | none => false

/-- A block joins the frame that its copy is receiving, in the place of the one that it repeats, or of that of the frame before. -/
def Dev.copyAdd (d : Dev) (p n s : Nat) (x : CopyBlk) : Dev :=
  match d.copyAt n s with
  | some f =>
    let g : CopyFrame := { f with blocks := x :: f.blocks.filter (fun y => y.block != x.block), late := f.late || d.copyLate p n s x,
                                  old := f.old.filter (fun y => y.block != x.block) }
    d.setTu n { d.tu n with merge := Store.put (Store.drop (d.tu n).merge (s % 8)) (s % 8) g }
  | none => d

/-- R278: a frame of a copy has come whole. -/
def Dev.copyJudge (d : Dev) (n s : Nat) : Dev :=
  let t := d.tu n
  match d.copyAt n s with
  | some f => d.setTu n { t with lateRun := if f.late then Nat.min 8 (t.lateRun + 1) else 0,
                                 goodRun := if f.late then 0 else Nat.min 8 (t.goodRun + 1) }
  | none => d

/-- R279: frame `s` starts on the copy of lane `n`, whose block 0 was complete at `at0`. The blocks of the frame in its place stay until its
own come. The first frame to start once the pair has left DOWN sets the release point. -/
def Dev.copyOpen (d : Dev) (p n s at0 : Nat) : Dev :=
  let t := d.tu n
  let place : CopyFrame := match d.copyAt n s with
    | some f => { seq := s, oldSeq := f.seq, old := f.blocks }
    | none => { seq := s }
  let d1 := d.setTu n { t with filing := some s, merge := Store.put (Store.drop t.merge (s % 8)) (s % 8) place }
  let x := d1.tu p
  let began := at0 - d.blockTicks n
  let due := x.release.isNone && x.upSince.any (fun u => decide (u ≤ began)) && d.inFrame n && !d.defect n defSeq
  d1.when due (fun e => e.setTu p { x with release := some { seq := s, point := began + e.get (F.laneTuStrDelay.lane p) * ticksPerFrame } })

/-- Block `b` of a lane of pair `p` is complete. The number of its frame is known with block 1 (R249). -/
def Dev.copyBlock (d : Dev) (p n b : Nat) (h : TuHdr) (load : List Byte) : Dev :=
  let t := d.tu n
  let x : CopyBlk := { block := b, arrived := d.now, hdr := h, load := load }
  if b = 0 then d.setTu n { t with head := some x, filing := none }
  else if b = 1 then
    match t.expect with
    | none => d
    | some e =>
      let s := (e + 0xFFFF_FFFF) % 2 ^ 32
      let d1 := d.copyOpen p n s (match t.head with | some y => y.arrived | none => d.now - d.blockTicks n)
      let d2 := match t.head with | some y => d1.copyAdd p n s y | none => d1
      (d2.copyAdd p n s x).strUpdate p
  else match t.filing with
    | none => d
    | some s => (d.copyAdd p n s x).when (decide (b + 1 = blocksPerFrame (d.lane n).rate)) (fun e => e.copyJudge n s)

/-- Block `b` of a frame is received on a lane in FRAME; `payload` is as received. A lane of a merge pair passes its
content on through the Strainer. -/
def Dev.frameBlock (d : Dev) (n b : Nat) (h0 : TuHdr) (payload : List Byte) : Dev :=
  let k := blocksPerFrame (d.lane n).rate
  let d0 := d.when (b == 0) (fun e => e.setTu n { e.tu n with buf := [], other := [], failed := [] })
  let bad := h0.ok && !typeCarried (d.lane n).type h0.type
  let h : TuHdr := if bad then { h0 with type := 2 } else h0
  let d1 := (d0.fsCheck n b h).when bad (fun e => e.roll (F.laneTuBadtypeCount.lane n) 1)
  let d2 := d1.tuArg n b (if h.ok then some h.arg else none)
  let clear := tuPayload b payload
  let t := d2.tu n
  let d3 := d2.setTu n { t with
    buf := if (d.lane n).type = 1 then (b, clear) :: t.buf.filter (fun x => x.1 != b) else [],
    other := if h.ok && h.type != 0 then b :: t.other else t.other.filter (fun x => x != b) }
  let d4 := match d.pairOf n with
    | some p => d3.when (!t.tailAgain) (fun e => e.copyBlock p n b h clear)
    | none => d3.when (!d.defect n defLos && decide (n < 96)) (fun e => e.tuContent n b h clear)
  let d4 := d4.when (decide (96 ≤ n) && !d.defect n defLos) (fun e => e.stateBlock n h clear)
  let d5 := d4.when (decide (b + 1 = k) && (d.lane n).type == 1 && !d.defect n defLos && !t.tailAgain) (fun e => e.radioWrite n)
  let d6 := d5.when (decide (b + 1 = k) && decide (n < 96) && !t.tailAgain && (d.pairOf n).isNone) (fun e =>
    e.noteReplaced n (e.tu n).other)
  let u := d6.tu n
  d6.setTu n (if b + 1 < k then { u with next := b + 1 }
    else if u.tailAgain then { u with next := 0, tailAgain := false }
    else { u with next := 0, fsErr := false, fsErrFrames := if u.fsErr then Nat.min 3 (u.fsErrFrames + 1) else 0 })

/-! The header of each slot's block -/

/-- R120: a header was corrected. -/
def Dev.corrected (d : Dev) (n : Nat) : Dev := ((d.roll (F.laneSvCorrCount.lane n) 1).count 0 n 1 1).transient (lanePage n) 1

/-- The ACTIVE's header is counted (R120, R121). -/
def Dev.activeHeader (d : Dev) (n : Nat) (h : TuHdr) : Dev :=
  let l := d.lane n
  let v := l.sieve
  if h.ok then
    (d.setLane n { l with sieve := { v with errors := 0 } }).when h.corrected (fun e => e.corrected n)
  else
    (d.setLane n { l with sieve := { v with errors := v.errors + 1 } }).when (d.inFrame n) (fun e =>
      (e.roll (F.laneTuHcsfailCount.lane n) 1).count 0 n 0 1)

/-- R122: a block on a lane in BLOCK, which may propose or confirm the frame start. -/
def Dev.searchStart (d : Dev) (n : Nat) (h : TuHdr) (payload : List Byte) : Dev :=
  let k := blocksPerFrame (d.lane n).rate
  let t := d.tu n
  let since := t.proposed.map (fun x => x + 1)
  if h.ok && h.fs then
    if since = some (k : Int) then
      (((d.setTu n { t with proposed := none, fsErr := false, fsErrFrames := 0, next := 0 }).setSv n svFrame)).frameBlock n 0 h
        payload
    else d.setTu n { t with proposed := some 0 }
  else d.setTu n { t with proposed := match since with
    | some x => if (k : Int) ≤ x then none else some x
    | none => none }

/-- R124: the block of a TRIAL slot; `true` once its test has passed. A block after one with FS = 1 gives the high half of that
frame's number; with FS = 1 itself it lies between that frame's start and the next. -/
def Slot.trialBlock (x : Slot) (k : Nat) (h : TuHdr) : Slot × Bool :=
  let t := x.blocks
  let y := { x with blocks := t + 1 }
  let starts := h.ok && h.fs
  match x.fsCur with
  | some c =>
    let q := c.2 + h.arg * 0x1_0000
    let pass := h.ok && decide (t < 3 * k) && (match x.fsAt with
      | some a => c.1 == a.1 + k && q == (a.2 + 1) % 2 ^ 32
      | none => false)
    ({ y with fsCur := if starts then some (t, h.arg) else none,
              fsAt := if h.ok && !starts then some (c.1, q) else none, phase := 2 % k, fsOk := pass }, pass)
  | none =>
    if starts then
      ({ y with fsCur := some (t, h.arg), fsAt := x.fsAt.filter (fun a => t == a.1 + k) }, false)
    else (y, false)

/-- R126: the block of an ALT, or of a winner that waits for its mark. -/
def Slot.altBlock (x : Slot) (k : Nat) (h : TuHdr) : Slot :=
  { x with phase := (x.phase + 1) % k, fsOk := x.fsOk && (x.phase != 0 || (h.ok && h.fs)) }

/-- R243: a block is received in the alignment of a slot of Tustra lane `n`. Before an ALT that takes over is judged at its mark, a
block only moves its frame start on (R109, R126; DESIGN CHOICE, notes/assumptions/144). -/
def Dev.tuBlock (d : Dev) (n i : Nat) (bytes : List Byte) : Dev :=
  let l := d.lane n
  let k := blocksPerFrame l.rate
  let x := l.sieve.slot i
  let h := tuHeader (l.sieve.corr && x.leads) bytes
  match x.st with
  | .active =>
    if x.takeover then (d.setLane n { l with sieve := l.sieve.setSlot i (x.altBlock k h) }).when (h.ok && h.corrected) (fun e => e.corrected n)
    else
      let d1 := d.activeHeader n h
      if d.inFrame n then d1.frameBlock n (d.tu n).next h (bytes.drop 6)
      else d1.when (d.svState n == svBlock) (fun e => e.searchStart n h (bytes.drop 6))
  | .trial =>
    if x.won || x.passed == some true then
      d.setLane n { l with sieve := l.sieve.setSlot i (x.altBlock k h) }
    else
      let r := x.trialBlock k h
      let d1 := d.setLane n { l with sieve := l.sieve.setSlot i r.1 }
      let v := (d1.lane n).sieve
      if r.2 then d1.applySieve n (v.judge v.bg i true) else d1
  | .alt => d.setLane n { l with sieve := l.sieve.setSlot i (x.altBlock k h) }
  | _ => d

/-- R135, R251: a slip removes or repeats a row of K/9 blocks. Out of FRAME it moves the counts of blocks, and resets none. -/
def Dev.tuSlip (d : Dev) (n : Nat) (drop : Bool) : Dev :=
  let k := blocksPerFrame (d.lane n).rate
  let r := k / 9
  let b := (d.tu n).next
  let later (x : Option (Nat × Nat)) : Option (Nat × Nat) := x.map (fun y => (y.1 + r, y.2))
  let move (x : Slot) : Slot :=
    if drop then { x with phase := (x.phase + r) % k, blocks := x.blocks + r }
    else { x with phase := (x.phase + k - r) % k, fsAt := later x.fsAt, fsCur := later x.fsCur }
  let l := d.lane n
  let d1 := d.setLane n { l with sieve := l.sieve.mapSlots move }
  if !d.inFrame n then
    d1.setTu n { d1.tu n with proposed := (d1.tu n).proposed.map (fun x => if drop then x + (r : Int) else x - (r : Int)) }
  else if drop then
    let touched := (List.range r).any (fun j => (b + j) % k ≤ 1)
    let d2 := d1.each r (fun e _ =>
      let c := (e.tu n).next
      let e1 := e.frameBlock n c .failed []
      e1.setTu n { e1.tu n with buf := (e1.tu n).buf.filter (fun x => x.1 != c) })
    d2.when touched (fun e => e.setTu n { e.tu n with slip := some true })
  else
    let b1 := (b + k - r) % k
    let touched := (List.range r).any (fun j => (b1 + j) % k ≤ 1)
    d1.setTu n { d1.tu n with next := b1, slip := if touched then some false else (d1.tu n).slip, tailAgain := decide (b < r) }

/-! Capacity (R269 to R274) -/

/-- The capacity before the first valid announcement (R272). -/
def Dev.capInit (d : Dev) (n : Nat) : Nat :=
  let k := blocksPerFrame (d.lane n).rate
  let v := d.get (F.laneTuCfgCapInit.lane n)
  if v = 0 ∨ k < v then k else v

/-- The capacity in force changes (R271). -/
def Dev.setCap (d : Dev) (n v : Nat) : Dev :=
  let d1 := d.setTu n { d.tu n with capFrom := d.seqNow % 0x1_0000 }
  if d.get (F.laneTuStatCap.lane n) = v then d1
  else ((d1.put (F.laneTuStatCap.lane n) v).raise (F.laneTuEvtCapchg.lane n)).count 0 n 6 1

/-- A pending change is taken up (R270). -/
def Dev.setPending (d : Dev) (n v e : Nat) (late : Bool) : Dev :=
  (((d.setTu n { d.tu n with lateAt := if late then some d.timing.edges else none }).raise (F.laneTuStatPend.lane n)).put (F.laneTuStatPcap.lane n) v).put
    (F.laneTuPeffE.lane n) e

/-- R269, R270: an announcement in blocks 2 and 3 of a frame. -/
def Dev.announce (d : Dev) (n : Nat) (ok3 : Bool) (arg2 e : Nat) : Dev :=
  let v := arg2 % 0x1000
  let bad := d.raise (F.laneTuEvtAnnBad.lane n)
  if !ok3 ∨ v < 9 ∨ blocksPerFrame (d.lane n).rate < v then bad
  else
    let pend := d.on (F.laneTuStatPend.lane n)
    let d1 := ((d.setTu n { d.tu n with announced := true }).put (F.laneTuAnnN.lane n) v).put (F.laneTuAnnE.lane n) e
    let x := (e + 0x1_0000 - d.seqNow % 0x1_0000) % 0x1_0000
    if v = d.get (F.laneTuStatCap.lane n) ∧ !pend then d1
    else if pend ∧ v = d.get (F.laneTuStatPcap.lane n) ∧ e = d.get (F.laneTuPeffE.lane n) then d1
    else if 2 ≤ x ∧ x ≤ 1024 then d1.setPending n v e false
    else if x ≤ 1 ∨ 64512 ≤ x then (d1.setPending n v e true).raise (F.laneTuEvtCapLate.lane n)
    else d1.raise (F.laneTuEvtAnnBad.lane n)

/-- The start of the frame that a pending change waits for has come: for a late one, the next (R270). -/
def Dev.capDue (d : Dev) (n : Nat) : Bool :=
  d.on (F.laneTuStatPend.lane n) && (match (d.tu n).lateAt with
    | some k => decide (k < d.timing.edges)
    | none => decide ((d.seqNow + 0x1_0000 - d.get (F.laneTuPeffE.lane n)) % 0x1_0000 < 0x8000))

/-- R271: a pending change takes effect. -/
def Dev.capApply (d : Dev) (n : Nat) : Dev :=
  let v := d.get (F.laneTuStatPcap.lane n)
  let d1 := (((d.setTu n { d.tu n with lateAt := none }).lower (F.laneTuStatPend.lane n)).put (F.laneTuStatPcap.lane n) 0).put
    (F.laneTuPeffE.lane n) 0
  d1.setCap n v

end Sys2Proof.Machine
end

