-- ==== Sys2Proof/Machine/PackOps.lean ====
section
/-! DEFINITION. The transmit frames of Tustra lanes (R246 to R274) and the Packet Staging Queue between frames (R330 to R335, R358 to
R372). -/

namespace Sys2Proof.Machine

/-! Lanes -/

/-- R367, R371: the grant that the Packet Staging Queue offers lane `n` for class `c`. -/
def Dev.offer (d : Dev) (n c : Nat) : Nat :=
  if !d.inFrame n ∨ (3 ≤ d.shedLevel ∧ c < d.get F.psqCfgShedBelow) then 0
  else getF (d.word (Reg.psqShare + 8 * n + 4 * (c / 4))) (8 * (c % 4)) 8

/-- R253, R282: the grant that lane `n` announces for class `c`; both lanes of a merge pair announce those of its primary. -/
def Dev.announced (d : Dev) (n c : Nat) : Nat :=
  let p := (d.pairOf n).getD n
  Nat.min (getF (d.word (laneAddr p (Reg.laneTuCrceil0 + 4 * (c / 4)))) (8 * (c % 4)) 8) (d.offer p c)

/-- R268: a bank written to `TXBANK` is selected, and its layout is the one found now; a faulty one is refused, and the one before it stays
(R267). -/
def Dev.bankSelect (d : Dev) (n : Nat) : Dev :=
  let t := d.tu n
  let want := d.get (F.laneTuCfgTxbank.lane n)
  if t.txChosen then d
  else
    match d.bankLayout n want with
    | some cs => d.setTu n { t with txChosen := true, txBank := want, txLayout := some cs }
    | none => (d.setTu n { t with txChosen := true }).raise (F.laneTuEvtMapErr.lane n)

/-- R271, R272: the capacity in force at a transmit frame start. -/
def Dev.capStart (d : Dev) (n : Nat) : Dev :=
  if (d.tu n).announced then d.when (d.capDue n) (fun e => e.capApply n)
  else
    let v := d.capInit n
    if d.get (F.laneTuStatCap.lane n) = v then d
    else (d.setTu n { d.tu n with capFrom := d.seqNow % 0x1_0000 }).put (F.laneTuStatCap.lane n) v

/-- The capacity in force, and the one that will be in force in the next transmit frame (R270 to R272). -/
def Dev.capNow (d : Dev) (n : Nat) : Nat := d.get (F.laneTuStatCap.lane n)

def Dev.capNext (d : Dev) (n : Nat) : Nat :=
  let due := d.on (F.laneTuStatPend.lane n) && ((d.tu n).lateAt.isSome
    || decide ((d.seqNow + 0x1_0001 - d.get (F.laneTuPeffE.lane n)) % 0x1_0000 < 0x8000))
  if !(d.tu n).announced then d.capInit n else if due then d.get (F.laneTuStatPcap.lane n) else d.capNow n

/-- The classes of the bank in force that the lane carries with capacity `cap` (R273, R649), with their layout. -/
def Dev.carried (d : Dev) (n cap : Nat) : List TuClass :=
  ((d.tu n).txLayout.getD []).filter (fun c =>
    decide (c.first + blocksOf c.slots.length ≤ cap)
      && !(decide (3 ≤ d.shedLevel) && decide (d.get F.pwrCfgShedClass ≤ c.cls)))

/-- The blocks of a frame with capacity `cap` that may carry packets (R263, R273). -/
def Dev.packetRoom (d : Dev) (n cap : Nat) : List Nat :=
  let k := blocksPerFrame (d.lane n).rate
  if d.isSystem n then (List.range k).drop (systemBlocks (d.augs n))
  else if (d.lane n).type = 1 then
    let cs := d.carried n cap
    (List.range cap).filter (fun b =>
      !cs.any (fun c => decide (c.first ≤ b) && decide (b < c.first + blocksOf c.slots.length)))
  else []

/-- R258: the blocks left after a packet of which `l` bytes are still to send; `none` where they do not hold it. -/
def placePacket (l : Nat) : List Nat → Option (List Nat)
  | [] => none
  | b :: bs =>
    let room := if b ≤ 8 then 262 else 264
    if l + 6 ≤ room then some bs else placePacket (l - room) bs

/-- R257 to R260: the PACKET blocks of a packet whose bytes `l` are still to send in the blocks given: each block but the last is full, and
the last ends with the trailer. -/
def cutPacket (p : Packet) : Bool → List Byte → List Nat → List TuPlan
  | _, _, [] => []
  | sop, l, b :: bs =>
    let flow := if b ≤ 8 then bytesOf 2 p.flow else []
    let room := 264 - flow.length
    let ends : Bool := decide (l.length + 6 ≤ room)
    let here : TuPlan := {
      block := b, field8 := BitVec.ofNat 8 (bitOf sop * 128 + bitOf ends * 64 + p.cls), flow := p.flow,
      load := flow ++ (if ends then l ++ List.replicate (room - 6 - l.length) 0 ++ bytesOf 2 p.data.length ++ bytesOf 4 (crc32 p.data)
        else l.take room) }
    if ends then [here] else here :: cutPacket p false (l.drop room) bs

/-- The PACKET blocks of packets, one after another (R260). -/
def packetPlan : List Packet → List Nat → List TuPlan
  | [], _ => []
  | p :: t, bs =>
    let own := cutPacket p true p.data bs
    own ++ packetPlan t (bs.drop own.length)

/-- What a lane can still send in a frame: the blocks left, and the budget of each class. -/
structure Budget where
  blocks : List Nat
  grants : List Nat
deriving DecidableEq, Repr

/-- A packet is sent where its class's budget and the blocks left hold it (R255). -/
def Budget.take (b : Budget) (p : Packet) : Option Budget :=
  if b.grants.getD p.cls 0 < p.cost then none
  else (placePacket p.data.length b.blocks).map (fun bs =>
    { blocks := bs, grants := b.grants.set p.cls (b.grants.getD p.cls 0 - p.cost) })

/-- The packets sent, and those that do not fit; what follows one of its own flow that does not fit stays behind it. -/
def packAll : List Packet → Budget → List Packet → List Packet → List Packet × List Packet
  | [], _, sent, back => (sent, back)
  | p :: t, b, sent, back =>
    match (if back.any (fun x => x.flow == p.flow) then none else b.take p) with
    | some b1 => packAll t b1 (sent ++ [p]) back
    | none => packAll t b sent (back ++ [p])

/-- Packets in the order of their classes, 7 first, each class in its own order. -/
def byClass (l : List Packet) : List Packet :=
  ((List.range 8).reverse).flatMap (fun c => l.filter (fun p => p.cls == c))

/-- The budget of a frame with capacity `cap`: the blocks, and the grants received (R254, R255). -/
def Dev.budget (d : Dev) (n cap : Nat) (grants : List Nat) : Budget :=
  { blocks := if d.on (F.laneTuCfgPktEn.lane n) then d.packetRoom n cap else [], grants := grants.map (fun g => 256 * g) }

/-- R75: Tustra lane `n` starts its transmit frame; `draining` are the packets of the bank that drains. -/
def Dev.tuStart (d0 : Dev) (draining : List Packet) (n : Nat) : Dev :=
  let d := if (d0.lane n).type = 1 then (d0.bankSelect n).capStart n else d0
  let t := d.tu n
  let k := blocksPerFrame (d.lane n).rate
  let radio := (d.lane n).type == 1
  let cs := if radio then d.carried n (d.capNow n) else []
  let r := packAll (byClass (draining.filter (fun p => p.lane == n))) (d.budget n (d.capNow n) t.grants) [] []
  let sent : TuSent := {
    start := d.now, plan := packetPlan r.1 (d.budget n (d.capNow n) t.grants).blocks,
    mateOn := decide (96 ≤ n) && d.inFrame n && (d.get F.mateCfgLanes).testBit (n - 96) && !d.mate.excluded.contains (n - 96),
    seq := d.seqNow, rd := d.on (F.laneTuCfgRdEn.lane n) && d.tuDown n, seqDefect := d.defect n defSeq,
    bank := if radio then t.txBank else 0, cap := if radio then d.get (F.laneTuStatCap.lane n) else k,
    capFrom := if radio then t.capFrom else 0, classes := cs,
    grants := if 96 ≤ n then List.replicate 8 0 else (List.range 8).map (d.announced n), packets := r.1 }
  let d1 := (d.setTu n { t with sent := sent, grants := List.replicate 8 0 }).put (F.laneTuTxseqSeq.lane n) d.seqNow
  ({ d1 with psq := { d1.psq with back := d1.psq.back ++ r.2 } } : Dev).when radio (fun e => e.bwAdd 3 n (270 * e.capNow n))

/-! Between frames -/

/-- R361: the first `m` packets that lane `n` has still to send have left the device, and their space is released. -/
def Dev.releasePackets (d : Dev) (n m : Nat) : Dev :=
  let t := d.tu n
  let l := t.sent.packets.take m
  if l.isEmpty then d
  else
    let d1 := d.setTu n { t with sent := { t.sent with packets := t.sent.packets.drop m, ended := t.sent.ended + l.length } }
    let d2 := ((d1.count 0 n 11 l.length).count 0 n 12 (l.foldl (fun a p => a + p.data.length) 0))
    ((l.map (fun p => p.flow)).eraseDups.foldl Dev.showFill d2).psqNote

/-- R361: the packets whose last block lane `n` has sent. -/
def Dev.blocksSent (d : Dev) (n : Nat) : Dev :=
  let s := (d.tu n).sent
  d.when (!s.packets.isEmpty) (fun e => e.releasePackets n
    ((s.plan.filter (fun x => x.field8.getLsbD 6 && s.over (blocksPerFrame (d.lane n).rate) d.now x)).length - s.ended))

/-- The frame of lane `n` has ended with its last packet. -/
def Dev.packetsSent (d : Dev) (n : Nat) : Dev := d.releasePackets n (d.tu n).sent.packets.length

/-- R370: a packet that the frame did not take goes back to the head of its flow's queue; one whose context is no longer enabled
is discarded (R335). -/
def Dev.packetBack (d : Dev) (p : Packet) : Dev :=
  let d1 := d.roll F.psqReturnCount 1
  if d.ctxOn p.flow then
    let q := d1.flow p.flow
    ((d1.setFlow p.flow { q with f2l := p :: q.f2l }).count 3 p.flow 6 1).showFill p.flow
  else d1.roll F.flwDropNoctxCount 1

/-- R370: every such packet, in its original order. -/
def Dev.returnAll (d : Dev) : Dev :=
  let l := d.psq.back
  l.reverse.foldl Dev.packetBack { d with psq := { d.psq with back := [] } }

/-- The packets of a bank whose places are in `l`, and the others. -/
def placesIn (bank : List Packet) (l : List Nat) : List Packet × List Packet :=
  let r := bank.zipIdx.partition (fun x => l.contains x.2)
  (r.1.map (fun x => x.1), r.2.map (fun x => x.1))

/-- R372: an uncorrectable word of the drain or of the packer read discards the packet that holds it; `l` names such packets by their bank,
`true` F2L, and their place in it. -/
def Dev.psqLost (d : Dev) (l : List (Bool × Nat)) : Dev :=
  let here (f2l : Bool) : List Nat := (l.filter (fun x => x.1 == f2l)).map (fun x => x.2)
  let a := placesIn d.psq.l2f (here false)
  let b := placesIn d.psq.f2l (here true)
  let d1 : Dev := { d with psq := { d.psq with l2f := a.2, f2l := b.2 } }
  let d2 := (a.1 ++ b.1).foldl (fun e _ => (e.roll F.psqUeCount 1).psqSeen (.uncorrectable 0)) d1
  (b.1.map (fun p => p.flow)).eraseDups.foldl Dev.showFill d2

/-- R330, R360, R371: a packet of the L2F bank that drains. -/
def Dev.drainPacket (d : Dev) (p : Packet) : Dev :=
  if 3 ≤ d.shedLevel ∧ p.cls < d.get F.psqCfgShedBelow then d.roll F.psqShedDropCount 1
  else if d.flwRuns ∧ d.ctxOn p.flow ∧ d.ctxLane p.flow = p.lane ∧ d.grpMode (d.ctxGroup p.flow) ≠ modeOff then d.queueL2f p
  else d.roll F.flwDropNoctxCount 1

/-- R362: the next packet of a half of flow `f`, `true` F2L, is read with an uncorrectable error. -/
def Dev.flowLost (d : Dev) (x : Nat × Bool) : Dev :=
  let f := x.1
  let q := d.flow f
  let q1 : FlowQ := if x.2 then { q with f2l := q.f2l.drop 1 } else { q with l2f := q.l2f.drop 1 }
  if q1 = q then d
  else ((((d.setFlow f q1).roll F.flwFsUeCount 1).raise F.flwEvtFsUe).flowStoreUe (d.get (F.ctxQbase.at 16 f))).showFill f

/-- R335: packets of the F2L bank whose contexts are no longer enabled are discarded as the packer reads them. -/
def Dev.dropNoCtx (d : Dev) : Dev :=
  let r := d.psq.f2l.partition (fun p => d.ctxOn p.flow)
  ({ d with psq := { d.psq with f2l := r.1 } } : Dev).when (!r.2.isEmpty) (fun e => e.roll F.flwDropNoctxCount r.2.length)

/-! The F2L filling bank (R369) -/

/-- The bytes of one bank. -/
def bankSize : Nat := 0x20_0000

/-- What a fill has left for a lane and class: the lane's budget, and the bytes left in the bank; `full` once a packet of any lane found the
bank full. -/
structure Fill where
  dev : Dev
  budget : Budget
  room : Nat
  full : Bool
  /-- Flows whose next packet does not fit. -/
  stopped : List Nat

/-- One packet is taken for lane `n` and class `c`, or a flow stops. -/
def Fill.one (x : Fill) (n c : Nat) (flows : List Nat) : Fill :=
  let d := x.dev
  let ready := flows.filter (fun f => !(d.flow f).f2l.isEmpty && !x.stopped.contains f)
  match nextFlow ready (Store.get (fun _ => 0) d.psq.served (8 * n + c)) with
  | none => x
  | some f =>
    match (d.flow f).f2l with
    | [] => x
    | p0 :: rest =>
      let p : Packet := { p0 with cls := c, lane := n }
      match x.budget.take p with
      | none => { x with stopped := f :: x.stopped }
      | some b =>
        if x.room < p.cost then { x with full := true, stopped := f :: x.stopped }
        else
          let served := Store.set (fun _ => 0) d.psq.served (8 * n + c) f
          { x with dev := { d.setFlow f { d.flow f with f2l := rest } with
                              psq := { d.psq with f2l := d.psq.f2l ++ [p], served := served } },
                   budget := b, room := x.room - p.cost }

/-- The packets of lane `n` and class `c`, each flow in turn. -/
def Fill.klass (x : Fill) (n c : Nat) (flows : List Nat) : Fill :=
  let packets := flows.foldl (fun a f => a + (x.dev.flow f).f2l.length) 0
  (List.range (packets + flows.length)).foldl (fun y _ => y.one n c flows) x

/-- The packets that lane `n` sends in the next frame; the first lane that finds the bank full is served first in the frame after. -/
def Fill.lane (x : Fill) (n : Nat) (grants : List Nat) : Fill :=
  let d := x.dev
  let own := d.contexts.filter (fun f => d.ctxLane f == n)
  if own.isEmpty then x
  else
    let shed (c : Nat) : Bool := decide (3 ≤ d.shedLevel) && decide (c < d.get F.psqCfgShedBelow)
    let y := ((List.range 8).reverse).foldl (fun z c =>
      if shed c then z else z.klass n c (own.filter (fun f => d.ctxClass f == c)))
      { x with budget := d.budget n (d.capNext n) grants, stopped := [] }
    if y.full && !x.full then { y with dev := { y.dev with psq := { y.dev.psq with first := n } } } else y

/-- R369: the Flow Engine fills the bank, from the lane that is first in turn; `grants` are those that each lane received last. -/
def Dev.fillF2l (d : Dev) (grants : Nat → List Nat) : Dev :=
  if !d.flwRuns then d else
  let order := (List.range 96).map (fun i => (i + d.psq.first) % 96)
  let x : Fill := { dev := d, budget := ⟨[], []⟩, room := bankSize, full := false, stopped := [] }
  (order.foldl (fun y n => if (y.dev.lane n).isLine || y.dev.eff (lanePage n) == 0 then y else y.lane n (grants n)) x).dev

/-! The edge -/

/-- Lane `n` sends Tustra frames. -/
def Dev.sendsTu (d : Dev) (n : Nat) : Bool := !(d.lane n).isLine && d.eff (lanePage n) != 0

/-- A frame of the Packet Staging Queue ends and the next begins (R358 to R372); `grants` are those received in it. -/
def Dev.psqEdge (d : Dev) (psqUe : List (Bool × Nat)) (flowUe : List (Nat × Bool)) (grants : Nat → List Nat) : Dev :=
  let d1 := ((((d.each 104 Dev.packetsSent).returnAll).psqLost psqUe)).dropNoCtx
  let l2f := byClass d1.psq.l2f
  let f2l := d1.psq.f2l
  let d2 : Dev := { d1 with psq := { d1.psq with l2f := [], f2l := [], back := f2l.filter (fun p => !d1.sendsTu p.lane) } }
  let d3 := (List.range 104).foldl (fun e n => if e.sendsTu n then e.tuStart f2l n else e) d2
  let d4 := flowUe.foldl Dev.flowLost (l2f.foldl Dev.drainPacket d3)
  let d5 := if d4.flwRuns then d4.groupsOn.foldl (Dev.sourceFill (d4.seqNow % 4)) d4 else d4
  (d5.fillF2l grants).psqNote

end Sys2Proof.Machine
end

