-- ==== Sys2Proof/Machine/Prbs.lean ====
section
/-! DEFINITION. The PRBS generator and checker of a lane (R65 to R67). -/

namespace Sys2Proof.Machine

/-- The two stages whose sum is the next bit, by the code of a pattern: the first is the length of the register. -/
def prbsTaps (pat : Nat) : Nat × Nat :=
  match pat with
  | 0 => (7, 6)
  | 1 => (23, 18)
  | _ => (31, 28)

/-- The next bit of a pattern after `h`, its earlier bits, newest first. -/
def prbsNext (pat : Nat) (h : List Bool) : Bool :=
  let t := prbsTaps pat
  (h.getD (t.1 - 1) false) != (h.getD (t.2 - 1) false)

/-- A register of the pattern after `n` more bits. -/
def prbsRun (pat : Nat) : Nat → List Bool → List Bool
  | 0, h => h
  | n + 1, h => prbsRun pat n ((prbsNext pat h :: h).take (prbsTaps pat).1)

/-- The register that a number stands for, never all zeros. -/
def prbsSeed (pat seed : Nat) : List Bool :=
  let len := (prbsTaps pat).1
  (List.range len).map (fun i => (seed % (2 ^ len - 1) + 1).testBit i)

/-- Bits that a lane sends in four ticks, by rate code (R57). -/
def bitsPerFourTicks (rate : Nat) : Nat :=
  match rate with
  | 0 => 1
  | 1 => 4
  | 2 => 8
  | 3 => 16
  | 4 => 32
  | 5 => 64
  | _ => 128

/-- Bit `i` that the generator has sent since it began: its pattern, inverted where `GEN_INV` says so, and with the injected
errors (R65, R67). -/
def Dev.prbsBit (d : Dev) (n i : Nat) : Bool :=
  let l := d.lane n
  let pat := d.get (F.lanePrbsGenPat.lane n)
  match l.gen with
  | none => false
  | some (seed, _) =>
    ((((prbsRun pat (i + 1) (prbsSeed pat seed)).headD false) != d.on (F.lanePrbsGenInv.lane n)) != l.flips.contains i)

/-- The number of the bit that begins at the next bit boundary (R67). -/
def Dev.prbsPos (d : Dev) (n : Nat) : Nat :=
  match (d.lane n).gen with
  | none => 0
  | some (_, since) => ((d.now - since) * bitsPerFourTicks (d.lane n).rate + 3) / 4

/-- R67: one bit of the generated stream is inverted, at the next bit boundary. -/
def Dev.prbsFlip (d : Dev) (n : Nat) : Dev :=
  let l := d.lane n
  let i := d.prbsPos n
  if l.gen.isNone ∨ l.flips.contains i then d else d.setLane n { l with flips := i :: l.flips }

/-- The generator begins a stream, at a place of its pattern that the spec leaves open, or stops (R65). -/
def Dev.prbsStart (d : Dev) (n : Nat) (on : Bool) : Dev :=
  if on then
    let x := d.freeNat
    x.2.setLane n { x.2.lane n with gen := some (x.1, d.now), flips := [] }
  else d.setLane n { d.lane n with gen := none, flips := [] }

/-- Received bits as the checker's pattern has them: oldest first, without the inversion of `CHK_INV`. -/
def Dev.prbsPlain (d : Dev) (n : Nat) (bits : List Bool) : List Bool := bits.map (fun b => b != d.on (F.lanePrbsChkInv.lane n))

/-- The last 32 of the bits, oldest first, each follow from those before them (R66). -/
def prbsInSync (pat : Nat) (bits : List Bool) : Bool :=
  let h := bits.reverse
  decide ((prbsTaps pat).1 + 32 ≤ bits.length)
    && (List.range 32).all (fun i => h.getD i false == prbsNext pat (h.drop (i + 1)))
    && (h.take (32 + (prbsTaps pat).1)).any (fun b => b)

/-- How many bits differ from the pattern that goes on from register `h`, and the register after them. -/
def prbsCompare (pat : Nat) : List Bool → List Bool → Nat × List Bool
  | h, [] => (0, h)
  | h, b :: t =>
    let x := prbsNext pat h
    let r := prbsCompare pat ((x :: h).take (prbsTaps pat).1) t
    (r.1 + bitOf (b != x), r.2)

end Sys2Proof.Machine
end

