-- ==== Sys2Proof/Machine/TuSend.lean ====
section
/-! DEFINITION. The blocks that Tustra lanes send (R238 to R246, R253, R257 to R274), the messages on the mate lanes (R472, R484, R500), and
NEAR loopback (R68). -/

namespace Sys2Proof.Machine

/-! Headers -/

/-- A header as it is sent (R239, R240). -/
def tuSend (type : Nat) (fs : Bool) (field8 : Byte) (arg : Nat) : List Byte :=
  let h : List Byte := [BitVec.ofNat 8 (type * 16 + bitOf fs * 8), field8] ++ bytesOf 2 arg
  List.zipWith (fun x y => x ^^^ y) (h ++ bytesOf 2 (crc16 h)) tuMask

/-- The ARG of block `b` but for a packet's flow ID (R246). -/
def TuSent.arg (s : TuSent) (k b : Nat) (radio mate : Bool) : Nat :=
  let pair (i : Nat) : Nat := if mate then 0 else s.grants.getD i 0 * 256 + s.grants.getD (i + 1) 0
  match b with
  | 0 => s.seq % 0x1_0000
  | 1 => s.seq / 0x1_0000
  | 2 => if radio then s.cap else k
  | 3 => if radio then s.capFrom else 0
  | 4 => bitOf s.rd * 0x8000 + bitOf s.seqDefect * 0x4000 + (if radio then s.bank * 0x2000 else 0)
  | 5 => pair 0
  | 6 => pair 2
  | 7 => pair 4
  | 8 => pair 6
  | _ => 0

/-! Containers (R262, R266, R273) -/

/-- The class of lane `n`'s frame whose blocks take in `b`, as the frame's start found it. -/
def Dev.classAt (d : Dev) (n b : Nat) : Option TuClass :=
  (d.tu n).sent.classes.find? (fun c => decide (c.first ≤ b) && decide (b < c.first + blocksOf c.slots.length))

/-- The blocks of the lane's frame that are CONTAINER blocks: every carried class's. -/
def Dev.containerBlock (d : Dev) (n b : Nat) : Bool :=
  decide (n < 96) && (if d.isSystem n then decide (b < systemBlocks (d.augs n)) else (d.classAt n b).isSome)

/-- The slots whose bytes fill block `b`, in order. -/
def Dev.blockSlotsOf (d : Dev) (n b : Nat) : List Nat :=
  if d.isSystem n then ((systemSlots (d.augs n)).drop (264 * b)).take 264
  else
    match d.classAt n b with
    | some c => (c.slots.drop (264 * (b - c.first))).take 264
    | none => []

/-! Messages on the mate lanes (R500) -/

/-- CONTROL comes before STATE, and STATE before DIGEST. -/
def byRank (l : List MateMsg) : List MateMsg :=
  l.filter (fun m => m.type == 5) ++ l.filter (fun m => m.type == 4) ++ l.filter (fun m => m.type == 3)

/-- The first message of `l` that block `b` of mate lane `i` may carry, in frames that start at `start`; with the messages left. -/
def takeMsg (start b i : Nat) (l : List MateMsg) : Option (MateMsg × List MateMsg) :=
  (l.findIdx? (fun m => decide (m.since * 1152 ≤ start * 1152 + b * ticksPerFrame) && (m.lane.getD i == i))).map (fun j =>
    ((l.getD j ⟨0, 2, 0, [], none⟩), l.eraseIdx j))

/-- The blocks of a frame of the mate lanes `lanes`, in order of time, take the messages that wait; with those left. -/
def placeMsgs (start : Nat) (lanes : List Nat) (l : List MateMsg) : List (Nat × Nat × MateMsg) × List MateMsg :=
  if l.isEmpty then ([], [])
  else
    ((List.range 1152).flatMap (fun b => lanes.map (fun i => (b, i)))).foldl (fun a x =>
      if a.2.isEmpty then a
      else match takeMsg start x.1 x.2 a.2 with
        | some r => ((x.2, x.1, r.1) :: a.1, r.2)
        | none => a) ([], byRank l)

/-- The mate lanes that carry messages in this frame, by number. -/
def Dev.openMates (d : Dev) : List Nat := (List.range 8).filter (fun i => (d.tu (96 + i)).sent.mateOn)

/-- The messages in the frame in progress, as mate lane, block and message; and those that find no block. -/
def Dev.mateFrame (d : Dev) : List (Nat × Nat × MateMsg) × List MateMsg :=
  let lanes := d.openMates
  placeMsgs ((d.tu (96 + lanes.headD 0)).sent.start) lanes d.mate.out

/-- The frame that ends has carried its messages. A report that found no block is not sent (R484), and neither is a heartbeat. -/
def Dev.mateSent (d : Dev) : Dev :=
  let rest := d.mateFrame.2
  ({ d with mate := { d.mate with out := rest.filter (fun m => m.type != 3 && m.lane.isNone) } } : Dev).put F.mateStatDigPart
    (bitOf (rest.any (fun m => m.type == 3)))

/-- R472, R484: what the frame that begins has to send: a HEARTBEAT on every mate lane in frames of even number, and the reports of the
frame before it. -/
def Dev.mateBegin (d : Dev) : Dev :=
  let lanes := d.openMates
  let msg (type : Nat) (f : Byte) (l : List Byte) (lane : Option Nat) : MateMsg :=
    { since := 0, type := type, field8 := f, load := l, lane := lane }
  let beats := if d.rootValid && d.seqNow % 2 == 0 then lanes.map (fun i => msg 5 1 d.heartbeatLoad (some i)) else []
  let reports := (d.digestBlocks (d.seqNow + 0xFFFF_FFFF)).map (fun x => msg 3 x.1 x.2 none)
  if d.role = roleSolo then { d with mate := { d.mate with out := [] } }
  else { d with mate := { d.mate with out := beats ++ d.mate.out ++ reports } }

/-! Blocks -/

/-- A block with its header and its payload, filled up with 0x00 and scrambled (R244, R245). -/
def tuBlockOf (b type : Nat) (field8 : Byte) (arg : Nat) (load : List Byte) : List Byte :=
  tuSend type (b == 0) field8 arg ++ tuPayload b (payload264 load)

/-- The 270 bytes of block `b` of lane `n`'s frame as they leave; AIS output fills the CONTAINER blocks with 0xFF (R632). -/
def Dev.tuBlockSent (d : Dev) (n b : Nat) : List Byte :=
  let s := (d.tu n).sent
  let arg := s.arg (blocksPerFrame (d.lane n).rate) b ((d.lane n).type == 1) (decide (96 ≤ n))
  if d.containerBlock n b then
    tuBlockOf b 0 0 arg (if d.prepAis n then List.replicate 264 0xFF
      else (d.blockSlotsOf n b).map (overlay (d.egressLane n d.sentMf).2 (d.egressByte n)))
  else if 96 ≤ n then
    match d.mateFrame.1.find? (fun x => x.1 == n - 96 && x.2.1 == b) with
    | some (_, _, m) => tuBlockOf b m.type m.field8 arg (if m.type = 5 then controlPayload (n - 96) m.load else m.load)
    | none => tuBlockOf b 2 0 arg []
  else
    match (if d.prepAis n then none else s.plan.find? (fun x => x.block == b)) with
    | some x => tuBlockOf b 1 x.field8 (if b ≤ 8 then arg else x.flow) x.load
    | none => tuBlockOf b 2 0 arg []

/-! NEAR loopback (R68) -/

/-- The frame that lane `n` sends. -/
def Dev.sentStream (d : Dev) (n : Nat) : List Byte :=
  if (d.lane n).isLine then d.lineSends n (d.sentFrame n)
  else (List.range (blocksPerFrame (d.lane n).rate)).flatMap (d.tuBlockSent n)

/-- The frame that ends is kept for the lane's own receiver. -/
def Dev.loopKept (d : Dev) (n : Nat) : Dev :=
  d.setLane n { d.lane n with looped := if d.nearLoop n then d.sentStream n else [] }

/-- The bits of bytes, bit 7 first (R9). -/
def bitsOf (l : List Byte) : List Bool := l.flatMap (fun b => (List.range 8).map (fun i => b.getLsbD (7 - i)))

/-- The bits are among those that lane `n` has sent in the last frame and sends in this one, or, of a generated pattern, since it began. -/
def Dev.hearsBits (d : Dev) (n : Nat) (bits : List Bool) : Bool :=
  !d.nearLoop n ||
    (let own := if d.on (F.lanePrbsGenEn.lane n) then (List.range (d.prbsPos n)).map (d.prbsBit n)
      else bitsOf ((d.lane n).looped ++ d.sentStream n)
     decide (bits <:+: own))

/-- What lane `n` is said to receive can be heard there: in NEAR loopback, only what the lane sends. -/
def Dev.hears (d : Dev) (n : Nat) (bytes : List Byte) : Bool := d.hearsBits n (bitsOf bytes)

/-- The frames that a lane in NEAR loopback hears, without scrambling: the last one, and the one being sent. -/
def Dev.loopFrames (d : Dev) (n : Nat) : List (List Byte) := [d.lineSends n (d.lane n).looped, d.sentFrame n]

/-- The byte of slot `s` in a frame of a LINE lane. -/
def lineByteAt (nn : Nat) (f : List Byte) (s : Nat) : Option Byte :=
  ((List.range (2430 * nn)).find? (fun i => lineSlot nn (i / (270 * nn)) (i % (270 * nn)) == s)).bind (fun i => f[i]?)

/-- The received bytes of container `k` can be heard (R68): in NEAR loopback its lane sends them, in their order, in the container's own
slots. -/
def Dev.hearsPoint (d : Dev) (k : Nat) (bytes : List Byte) : Bool :=
  let n := laneOf k
  !d.nearLoop n || (match d.areaOf k with
    | none => bytes.isEmpty
    | some u => bytes.isSublist ((d.loopFrames n).flatMap (fun f =>
        ((u.layout 0).filter (fun x => x.2 == .vc || x.2 == .h3 || u.kind.isTu1x)).filterMap (fun x =>
          lineByteAt (stmN (d.lane n).rate) f x.1))))

/-- The two slots of the pointer word of point `k`: those of its container, or of its own AUG-1 where it is a member. -/
def Dev.wordSlots (d : Dev) (k : Nat) : Nat × Nat :=
  match d.areaOf k with
  | some u => (u.wordSlot, match (u.layout (if u.kind.isTu1x then 1 else 0)).find? (fun x => x.2 == .h2) with
      | some x => x.1
      | none => u.wordSlot)
  | none => (pointerSlot (augOf k) 0, pointerSlot (augOf k) 3)

/-- The pointer word of point `k` can be heard: in NEAR loopback its lane has sent the two bytes in their slots. -/
def Dev.hearsWord (d : Dev) (k : Nat) (w : BitVec 16) : Bool :=
  let n := laneOf k
  let nn := stmN (d.lane n).rate
  let at' (s : Nat) (b : Byte) : Bool := (d.loopFrames n).any (fun f => lineByteAt nn f s == some b)
  let x := d.wordSlots k
  !d.nearLoop n || (at' x.1 (w.extractLsb' 8 8) && at' x.2 (w.extractLsb' 0 8))

end Sys2Proof.Machine
end

