-- ==== Sys2Proof/Machine/Lanes.lean ====
section
/-! DEFINITION. The commands of the Lane Array (R57 to R71). -/

namespace Sys2Proof.Machine

/-- R58, R59, R309: a write of `LANE.CFG`. On an MLANE page its fields are RO. -/
def Dev.writeLaneCfg (d : Dev) (n : Nat) (data : W32) : Dev × Resp :=
  if 96 ≤ n then okay d
  else
    let old := d.word (laneAddr n Reg.laneCfg)
    let w := data &&& 0x37
    if !laneCfgAllowed (getF w 4 2) (getF w 0 3) then (d.raise (F.laneSdsStatCfgErr.lane n), .slverr)
    else if d.eff (lanePage n) = 2 ∨ d.eff (lanePage n) = 3 ∨ w = old then okay d
    else okay ((d.setWord (laneAddr n Reg.laneCfg) w).structureChange)

/-- R59 -/
def execLaneCfgWrite (m : Master) (lane : Lane) (data : W32) (s : State) : Out :=
  .next { s with dev := s.dev.write m (laneAddr lane.val Reg.laneCfg) (fun d => d.writeLaneCfg lane.val data) }

/-- R61: the CDR locks to a signal within 1.2 % of the lane's rate; a relock is a transient fault (R642). -/
def execCdrLock (lane : Lane) (ppm : Int) (s : State) : Out :=
  let l := s.dev.lane lane.val
  let ok := decide (-12000 ≤ ppm ∧ ppm ≤ 12000) && !s.dev.on (F.laneSdsStatCdrLock.lane lane.val)
  .next { s with dev := s.dev.when ok (fun d =>
    ((d.raise (F.laneSdsStatCdrLock.lane lane.val)).when l.cdrLost (fun e => e.transient (lanePage lane.val) 1)).setLane
      lane.val { l with cdrSince := some d.now, cdrLost := false }) }

/-- The fields of `LANE.PRBS` that a write of `data` leaves: the reserved pattern 3 leaves a pattern field as it is. -/
def prbsWord (old data : W32) : W32 :=
  let pat (lo : Nat) : Nat := if getF data lo 2 = 3 then getF old lo 2 else getF data lo 2
  putF (putF ((old &&& 0x100) ||| (data &&& 0xCC)) 0 2 (pat 0)) 4 2 (pat 4)

/-- R65, R66, R67: a write of `LANE.PRBS`: `CHK_EN` going from 0 to 1 clears the error count, and going to 0 stops the
checker; `GEN_EN`, or another pattern, starts the stream; a 1 in `INJECT` inverts one bit of it. -/
def Dev.writePrbs (d : Dev) (n : Nat) (data : W32) : Dev × Resp :=
  let a := laneAddr n Reg.lanePrbs
  let old := d.word a
  let d1 := d.setWord a (prbsWord old data)
  let d2 := d1.when (getF old 7 1 == 0 && getF data 7 1 == 1)
    (fun e => (e.put (F.lanePrbsErrLoErr.lane n) 0).put (F.lanePrbsErrHiErr.lane n) 0)
  let d3 := d2.when (getF data 7 1 == 0) (fun e => e.lower (F.lanePrbsChkSync.lane n))
  let new := d3.word a
  let d4 := d3.when (getF new 3 1 != getF old 3 1 || (getF new 3 1 == 1 && getF new 0 2 != getF old 0 2))
    (fun e => e.prbsStart n (getF new 3 1 == 1))
  okay (d4.when (getF data 9 1 == 1 && d.inTest (lanePage n)) (fun e => e.prbsFlip n))

/-- R67: a write of 1 to `LANE.PRBS.INJECT`. -/
def execPrbsInject (m : Master) (lane : Lane) (s : State) : Out :=
  .next { s with dev := s.dev.write m (laneAddr lane.val Reg.lanePrbs) (fun d =>
    d.writePrbs lane.val (d.word (laneAddr lane.val Reg.lanePrbs) ||| 0x200)) }

/-- R66: a write of `LANE.PRBS`. -/
def execPrbsCheckerEnable (m : Master) (lane : Lane) (data : W32) (s : State) : Out :=
  .next { s with dev := s.dev.write m (laneAddr lane.val Reg.lanePrbs) (fun d => d.writePrbs lane.val data) }

/-- R66: sync after 32 consecutive correct bits. -/
def execPrbsSync (lane : Lane) (bits : List Bool) (s : State) : Out :=
  let n := lane.val
  let pat := s.dev.get (F.lanePrbsChkPat.lane n)
  let plain := s.dev.prbsPlain n bits
  let ok := s.dev.on (F.lanePrbsChkEn.lane n) && !s.dev.on (F.lanePrbsChkSync.lane n) && prbsInSync pat plain
    && s.dev.hearsBits n bits
  .next { s with dev := s.dev.when ok (fun d =>
    (d.raise (F.lanePrbsChkSync.lane n)).setLane n { d.lane n with chk := plain.reverse.take (prbsTaps pat).1 }) }

/-- The 48-bit PRBS error count. -/
def Dev.prbsErrors (d : Dev) (n : Nat) : Nat :=
  d.get (F.lanePrbsErrLoErr.lane n) + d.get (F.lanePrbsErrHiErr.lane n) * 0x1_0000_0000

/-- The errored bits of a window, and the checker's register after it. -/
def Dev.prbsWindow (d : Dev) (n : Nat) (bits : List Bool) : Nat × List Bool :=
  prbsCompare (d.get (F.lanePrbsChkPat.lane n)) (d.lane n).chk (d.prbsPlain n bits)

/-- R66: a window of 256 bits ends: its errors are counted, and 16 or more end sync. Windows follow each other, each given whole (DESIGN CHOICE,
notes/assumptions/178). -/
def execPrbsLossOfSync (lane : Lane) (bits : List Bool) (s : State) : Out :=
  let n := lane.val
  .next { s with dev := s.dev.when (s.dev.on (F.lanePrbsChkSync.lane n) && decide (bits.length = 256) && s.dev.hearsBits n bits) (fun d =>
    let r := d.prbsWindow n bits
    let c := satAdd 48 (d.prbsErrors n) r.1
    let d1 := d.setLane n { d.lane n with chk := r.2 }
    ((d1.put (F.lanePrbsErrLoErr.lane n) c).put (F.lanePrbsErrHiErr.lane n) (c / 0x1_0000_0000)).when
      (decide (16 ≤ r.1)) (fun e => e.lower (F.lanePrbsChkSync.lane n))) }

/-- R70: a scan replaces `LANE.EYE` whole; without CDR lock `VALID` is 0. -/
def execEyeScanComplete (lane : Lane) (height : BitVec 10) (width : BitVec 7) (s : State) : Out :=
  let n := lane.val
  .next { s with dev := (((s.dev.put (F.laneEyeHeight.lane n) height.toNat).put (F.laneEyeWidth.lane n) width.toNat).put
    (F.laneEyeValid.lane n) (s.dev.get (F.laneSdsStatCdrLock.lane n))).roll (F.laneEyeSeq.lane n) 1 }

/-- R71: a `LANE.TXEQ` word with MAIN reduced until the magnitudes sum to 63 at most. -/
def txeqWord (data : W32) : W32 :=
  let w := data &&& 0x1FFFF
  let pre := getF w 0 5
  let post := getF w 11 5
  putF w 5 6 (Nat.min (getF w 5 6) (63 - (pre + post)))

/-- R71 -/
def execTxeqWrite (m : Master) (lane : Lane) (data : W32) (s : State) : Out :=
  .next { s with dev := s.dev.write m (laneAddr lane.val Reg.laneTxeq) (fun d =>
    okay (d.setWord (laneAddr lane.val Reg.laneTxeq) (txeqWord data))) }

end Sys2Proof.Machine
end

