-- ==== Sys2Proof/Machine/EstOps.lean ====
section
/-! DEFINITION. Signal degrade and signal fail (R383 to R390): the ladder of windows, the exponents that apply, and what the
end of a slice changes. -/

namespace Sys2Proof.Machine

/-- What an estimator covers: bits per second, the usable exponents, and whether it is of lower order (R383, R388). -/
structure EstKind where
  rate : Nat
  least : Nat
  most : Nat
  lower : Bool
deriving DecidableEq, Repr

/-- B2 of an STM-N. -/
def estB2 (n : Nat) : EstKind := ⟨153_792_000 * n, 4, if n = 1 then 10 else if n = 64 then 12 else 11, false⟩

/-- B3 or BIP-2 of a unit. -/
def estUnit : UnitKind → EstKind
  | .au4 => ⟨150_336_000, 4, 10, false⟩
  | .au4c4 => ⟨601_344_000, 5, 11, false⟩
  | .au4c16 => ⟨2_405_376_000, 5, 11, false⟩
  | .au4c64 => ⟨9_621_504_000, 6, 12, false⟩
  | .au3 => ⟨48_960_000, 4, 10, false⟩
  | .tu3 => ⟨48_960_000, 4, 10, false⟩
  | .tu12 => ⟨2_240_000, 4, 8, true⟩
  | .tu11 => ⟨1_664_000, 3, 8, true⟩

/-- The smallest window of the ladder, in ms, in which 10^-n times the rate gives at least 10 errors (R385). -/
def estWindowMs (e : EstKind) (n : Nat) : Nat :=
  let fits (w : Nat) : Bool := decide (10 ^ (n + 4) ≤ e.rate * w)
  ((List.range 8).map (fun i => 8 ^ i)).find? (fun w => fits w && !(e.lower && w == 1)) |>.getD (8 ^ 7)

/-- The declaration count D (R385). -/
def estD (e : EstKind) (n : Nat) : Nat :=
  let x := e.rate * estWindowMs e n
  let y := 1000 * 10 ^ n
  (x + y - 1) / y

/-- An exponent applied as the nearest end of the usable range (R388). -/
def clampExp (e : EstKind) (n : Nat) : Nat := Nat.max e.least (Nat.min e.most n)

/-- The exponents applied for SD and SF, and whether one was clamped (R388, R389). -/
def appliedExps (e : EstKind) (sd sf : Nat) : Nat × Nat × Bool :=
  let a := clampExp e sd
  let b := clampExp e sf
  (a, if a < b then a else b, a != sd || b != sf)

/-- The sum of the last 8 slices, each limited to `cap` where there is a cap (R386, R387). -/
def sliceSum (cap : Option Nat) (l : List Nat) : Nat :=
  (l.take 8).foldl (fun a v => a + match cap with | some c => Nat.min c v | none => v) 0

/-- The defect after a slice (R386, R387). -/
def estDecide (d : Nat) (now : Bool) (l : List Nat) : Bool :=
  if now then !decide (sliceSum none l ≤ d / 10) else decide (d ≤ sliceSum (some ((d + 3) / 4)) l)

/-- An estimator pair: its kind, configured exponents, `SDSF_EN`, and whether it runs (R390). -/
structure EstCfg where
  kind : EstKind
  sd : Nat
  sf : Nat
  on : Bool
deriving DecidableEq, Repr

def Dev.laneEst (d : Dev) (n : Nat) : EstCfg :=
  let l := d.lane n
  { kind := estB2 (stmN l.rate), sd := d.get (F.lanePmCfgSdExp.lane n), sf := d.get (F.lanePmCfgSfExp.lane n),
    on := l.isLine && d.on (F.lanePmCfgSdsfEn.lane n) && d.inFrame n && !d.defect n defLos && !d.defect n defMsais }

def Dev.pointEst (d : Dev) (k : Nat) : EstCfg :=
  let p := d.get (pmPoint k F.pmPtProfile)
  { kind := estUnit (d.pointUnit k), sd := d.get (F.pmProfSdExp.at 4 p), sf := d.get (F.pmProfSfExp.at 4 p),
    on := d.on (pmPoint k F.pmPtSdsfEn) && d.pstate k == psNorm && !d.pathFail k }

/-- The fields of an estimator pair: SD and SF used, and CLAMP. -/
def laneUsed (n : Nat) (sf : Bool) : Field := (if sf then F.lanePmStatSfUsed else F.lanePmStatSdUsed).lane n
def pointUsed (k : Nat) (sf : Bool) : Field := pmPoint k (if sf then F.pmPtStSfUsed else F.pmPtStSdUsed)

/-- Slices of exponent `n` end with the frames whose edges, counted from the first lock, are multiples of their length (R384). -/
def Dev.sliceDue (d : Dev) (e : EstKind) (n : Nat) : Bool := d.timing.edges % estWindowMs e n == 0

/-- R384, R386, R387, R390: a slice ends. `key` and `used` belong to the estimator, and `now` is its defect; answers the device
with the window kept, and the defect that follows. A window that starts again leaves the slice that ends out. -/
def Dev.estSlice (d : Dev) (c : EstCfg) (key : Nat) (used clamp : Field) (now sf : Bool) : Dev × Bool :=
  let x := appliedExps c.kind c.sd c.sf
  let n := if sf then x.2.1 else x.1
  let w := d.estAt key
  if !c.on then (d.estClear key, false)
  else if !d.sliceDue c.kind n ∨ w.ended = some d.timing.edges then (d, now)
  else
    let anew := w.restart || (w.slices != [] && d.get used != n)
    let l := if anew then [] else (Store.get (fun _ => 0) d.estAcc key :: w.slices).take 8
    let d1 := ((d.setEst key { slices := l, ended := some d.timing.edges }).put used n).put clamp (bitOf x.2.2)
    (d1, estDecide (estD c.kind n) now l)

/-- What estimator `key` applies: its exponents, and whether it runs. -/
def Dev.estApplied (d : Dev) (key : Nat) : Nat × Nat × Bool × Bool :=
  let c := if key < 208 then d.laneEst (key / 2) else d.pointEst (key / 2 - 104)
  let x := appliedExps c.kind c.sd c.sf
  (x.1, x.2.1, x.2.2, c.on)

/-- R390: a write has made the device `d` of `old`; the estimators that apply other exponents, or whose `SDSF_EN` has changed, start their
windows again at the next slice boundary. -/
def Dev.estRestarts (d old : Dev) : Dev :=
  let keys := (d.est.map (fun x => x.1) ++ d.estAcc.map (fun x => x.1)).eraseDups.filter (fun k => d.estApplied k != old.estApplied k)
  { d with est := keys.foldl (fun e k => Store.set (fun _ => {}) e k { d.estAt k with restart := true }) d.est }

/-- The end of a slice of lane `n`. -/
def Dev.laneSlice (d : Dev) (n : Nat) (sf : Bool) : Dev :=
  let bit := if sf then defSf else defSd
  let r := d.estSlice (d.laneEst n) (estKeyLane n (bitOf sf)) (laneUsed n sf) (F.lanePmStatClamp.lane n) (d.defect n bit) sf
  r.1.setDefect n bit r.2

/-- The end of a slice of point `k`. -/
def Dev.pointSlice (d : Dev) (k : Nat) (sf : Bool) : Dev :=
  let f := pmPoint k (if sf then F.pmPtStSf else F.pmPtStSd)
  let old := d.pathDefects k
  let r := d.estSlice (d.pointEst k) (estKeyPoint k (bitOf sf)) (pointUsed k sf) (pmPoint k F.pmPtStClamp) (d.on f) sf
  (r.1.put f (bitOf r.2)).pathSummary k old

end Sys2Proof.Machine
end

