-- ==== Sys2Proof/Machine/LadleOps.lean ====
section
/-! DEFINITION. The Ladle and the counters (R392 to R411): where a counter lies, the classification of seconds, bins, dump
records and baselines. -/

namespace Sys2Proof.Machine

/-! Places (R394, R401, R406) -/

def ctrSlotSize : Nat := 0x4A0_0000
def ctrHeaders : Nat := 0x1_EA40_0000

/-- Records of a kind, and counters of a record of it. -/
def kindRecords (k : Nat) : Nat :=
  match k with
  | 0 => 104
  | 1 => 18432
  | 2 => 516096
  | 3 => 65536
  | 4 => 16384
  | _ => 0
def kindCounters (k : Nat) : Nat := if k = 3 then 8 else 16

/-- The place of a counter in an image. -/
def imageOffset (key : Nat) : Nat :=
  let k := key / 32 / 0x10_0000
  let i := key / 32 % 0x10_0000
  (match k with
    | 0 => 0
    | 1 => 0x1_0000
    | 2 => 0x40_0000
    | 3 => 0x430_0000
    | _ => 0x470_0000) + i * (8 * kindCounters k) + 8 * (key % 32)

def slotBase (base slot : Nat) : Nat := base + slot * ctrSlotSize

/-- A counter of an image moves on by `n`. -/
def memBump (m : List Host.Cell) (image key n : Nat) : List Host.Cell :=
  memWriteCount m (image + imageOffset key) (memCount m (image + imageOffset key) + n)

/-- A counter that the catalogue defines (R410), as `RD_SEL` and `WR_SEL` name it. -/
def selKey (w : W32) : Option Nat :=
  let k := getF w 24 3
  let i := getF w 4 19
  let c := getF w 0 4
  if i < kindRecords k ∧ c < kindCounters k then some (counterKey k i c) else none

/-- The counter that `RD_SEL`, or `WR_SEL`, names. -/
def Dev.rdKey (d : Dev) : Option Nat := if d.ladle.rdBad then none else selKey (d.word Reg.pmRdSel)
def Dev.wrKey (d : Dev) : Option Nat := if d.ladle.wrBad then none else selKey (d.word Reg.pmWrSel)

/-! Seconds (R395 to R397) -/

/-- The blocks of a second. -/
def Dev.blocksPerSecond (d : Dev) (k i : Nat) : Nat :=
  if k = 2 then
    match loKind (d.pathStruct (i / 84)) (i % 84) with
    | some .tu3 => 8000
    | _ => 2000
  else if k = 0 ∧ !(d.lane i).isLine then blocksPerFrame (d.lane i).rate * 8000
  else 8000

/-- The second of record (`k`, `i`) that its closed accumulators tell of. -/
def Dev.secondOf (d : Dev) (k i : Nat) : Second :=
  let c (x : Nat) : Nat := Store.get (fun _ => 0) d.accClosed (counterKey k i x)
  let line := k == 0 && (d.lane i).isLine
  let tustra := k == 0 && !line
  let eb := if line then c 3 else if tustra then c 0 else c 1
  let far := if line then c 5 else if tustra then 0 else c 3
  let blocks := d.blocksPerSecond k i
  let near := c ctrNearDefect != 0
  let ses := near || decide (3 * blocks ≤ 10 * eb)
  let fses := c ctrFarDefect != 0 || decide (3 * blocks ≤ 10 * far)
  { near := if ses then 2 else if eb = 0 then 0 else 1,
    nearEb := eb,
    far := if near || tustra then 0 else if fses then 2 else if far = 0 then 0 else 1,
    farEb := if near then 0 else far,
    rs := line && (c 1 != 0 || c ctrRsDefect != 0) }

/-- Trailing seconds without an event are not kept. -/
def trimSeconds (l : List Second) : List Second := (l.reverse.dropWhile (fun x => x == {})).reverse

/-- R396, R397: the second `x` closes; the second that ended 10 s before settles. Answers the record's next state, the
settled second, and whether it is available near end and far end. -/
def Seconds.settle (s : Seconds) (x : Second) : Seconds × Second × Bool × Bool :=
  let l := x :: s.wait
  let t := l.getD 10 {}
  let ten (p : Second → Bool) : Bool := (List.range 10).all (fun j => p (l.getD (j + 1) {}))
  let u := if s.uas then !ten (fun y => y.near != 2) else ten (fun y => y.near == 2)
  let f := if s.feUas then !ten (fun y => y.far != 2) else ten (fun y => y.far == 2)
  ({ wait := trimSeconds (l.take 10), uas := u, feUas := f }, t, !u, !f)

/-- The increments of the derived counters that a settled second gives (R394, R396). -/
def derivedCounts (line tustra : Bool) (t : Second) (near far : Bool) : List (Nat × Nat) :=
  let one (b : Bool) : Nat := bitOf b
  let es := if line then 6 else if tustra then 13 else 8
  let fe := if line then 10 else 12
  let nearList := [(es, one (near && decide (1 ≤ t.near))), (es + 1, one (near && t.near == 2))]
    ++ (if tustra then [(15, one (!near))] else [(es + 2, if near && t.near != 2 then t.nearEb else 0), (es + 3, one (!near))])
  let farList := if tustra then [] else
    [(fe, one (far && decide (1 ≤ t.far))), (fe + 1, one (far && t.far == 2)),
     (fe + 2, if far && t.far != 2 then t.farEb else 0), (fe + 3, one (!far))]
  (nearList ++ farList ++ (if line then [(14, one t.rs)] else [])).filter (fun x => x.2 != 0)

/-- The fields that show unavailable time, near end and far end (R422, R423). -/
def Dev.showUas (d : Dev) (k i : Nat) (s : Seconds) : Dev :=
  if k = 0 then
    if i < 96 then
      (d.put (F.lanePmStatUas.lane i) (bitOf s.uas)).put (F.lanePmStatFeUas.lane i) (bitOf s.feUas)
    else d
  else
    let p := if k = 1 then i else 18432 + i
    (d.put (pmPoint p F.pmPtStUas) (bitOf s.uas)).put (pmPoint p F.pmPtStFeUas) (bitOf s.feUas)

/-- The defects that hold as a second begins (R395). -/
def Dev.markAll (d : Dev) : Dev :=
  let d1 := d.each 104 Dev.markLane
  let d2 := (d1.paths.map (fun x => x.1)).foldl (fun e k => e.markPath k) d1
  d2.groupsOn.foldl Dev.markGroup d2

/-! The pass (R399) -/

/-- What the pass of the Ladle works on: the device and its memory. -/
abbrev Work := Dev × List Host.Cell

/-- Increments of counters: added to the current values, and to the bins `s15` and `s24`. -/
def addCounts (base s15 s24 : Nat) (m : List Host.Cell) (l : List (Nat × Nat)) : List Host.Cell :=
  l.foldl (fun a x => memBump (memBump (memBump a (slotBase base 0) x.1 x.2) (slotBase base s15) x.1 x.2)
    (slotBase base s24) x.1 x.2) m

/-- Steps 1 and 5: the counts of the closed second reach their 64-bit values and the bins in progress. -/
def drain (base s15 s24 : Nat) (w : Work) : Work :=
  let raw := w.1.accClosed.filter (fun x => decide (x.1 % 32 < 16))
  let marks := (w.1.accClosed.filter (fun x => decide (x.1 / 32 / 0x10_0000 = 4) && decide (16 ≤ x.1 % 32))).map
    (fun x => (x.1 - 10, 1))
  (w.1, addCounts base s15 s24 w.2 (raw ++ marks))

/-- The records of kinds 0 to 2 that the pass settles. -/
def Dev.toSettle (d : Dev) : List Nat :=
  let recs : List Nat := d.accClosed.map (fun (x : Nat × Nat) => x.1 / 32)
  let held : List Nat := d.ladle.seconds.map (fun (x : Nat × Seconds) => x.1)
  (recs ++ held).eraseDups.filter (fun r =>
    decide (r < 3 * 0x10_0000))

/-- Step 2: one record settles; its derived counters move on, in the bins that held the settled second. -/
def settleRecord (base : Nat) (w : Work) (r : Nat) : Work :=
  let d := w.1
  let k := r / 0x10_0000
  let i := r % 0x10_0000
  let line := k == 0 && (d.lane i).isLine
  let s := (Store.get (fun _ => ({} : Seconds)) d.ladle.seconds r).settle (d.secondOf k i)
  let slots := d.ladle.slots.getD 9 (d.get F.pmBinB15, d.get F.pmBinB24)
  let inc := (derivedCounts line (k == 0 && !line) s.2.1 s.2.2.1 s.2.2.2).map (fun x => (r * 32 + x.1, x.2))
  let d1 : Dev := { d with ladle := { d.ladle with seconds := Store.set (fun _ => {}) d.ladle.seconds r s.1 } }
  (d1.showUas k i s.1, addCounts base slots.1 slots.2 w.2 inc)

/-- The CRC-32 of an image (R401). -/
def imageCrc (m : List Host.Cell) (image : Nat) : Nat := crc32 (memRead m image ctrSlotSize)

def pmMagic : Nat := 0x504D_4431

/-- A header of 4 KiB at `at'`, with MAGIC last (R401, R402). -/
def writeHeader (m : List Host.Cell) (at' epoch tb flags crc : Nat) : List Host.Cell :=
  let wr (a : List Host.Cell) (i v : Nat) : List Host.Cell := memWriteWord a (at' + 4 * i) (BitVec.ofNat 32 v)
  wr (wr (wr (wr (wr (wr (wr (memClear m at' 0x1000) 1 epoch) 2 tb) 3 (tb / 0x1_0000_0000)) 4 flags) 5 ctrSlotSize) 6 crc) 0 pmMagic

/-- Step 3: the dump record of the epoch (R401 to R403). -/
def dumpRecord (base : Nat) (w : Work) : Work :=
  let d := w.1
  let l := d.ladle
  if d.dumpBase = 0 ∨ !d.on F.pmCfgDumpEn ∨ 1 ≤ d.get F.pwrStatLevel then ({ d with ladle := { l with gap := true } }, w.2)
  else
    let r := d.dumpBase + l.record * 0x800_0000
    let m1 := memCopy (memWriteWord w.2 r 0) (slotBase base 0) (r + 0x1000) ctrSlotSize
    let flags := bitOf l.pass.invalid + 2 * bitOf l.pass.late + 4 * bitOf l.gap
    let m2 := writeHeader m1 r l.pass.epoch l.pass.tb flags (imageCrc m1 (slotBase base 0))
    let d1 : Dev := { d with ladle := { l with gap := false, record := (l.record + 1) % 16 } }
    ((d1.when l.gap (fun e => e.raise F.pmEvtDumpGap)).put F.pmLadleDumpHead l.record, m2)

/-- Baselines recorded and not yet applied (R408). -/
def Dev.pendingBases (d : Dev) : Nat :=
  d.ladle.more.foldl (fun a p => a + p.due.length) (d.ladle.base.length + d.ladle.pass.due.length)

/-- Step 4: the baselines due are applied (R408). -/
def applyBaselines (base : Nat) (w : Work) : Work :=
  let d := w.1
  let m := d.ladle.pass.due.foldl (fun a x => memWriteCount a (slotBase base 0 + imageOffset x.1) x.2) w.2
  let d1 : Dev := { d with ladle := { d.ladle with pass := { d.ladle.pass with due := [] } } }
  (d1.put F.pmWrStatPending d1.pendingBases, m)

/-- The header of the bin in `slot` (R406). -/
def binHeader (base slot tb : Nat) (b : BinSt) (prov : Bool) (m : List Host.Cell) : List Host.Cell :=
  writeHeader m (base + ctrHeaders + 0x1000 * slot) b.first tb
    (bitOf (b.invalid != 0) + 2 * bitOf b.short + 4 * bitOf prov + b.invalid % 0x1000 * 0x1_0000) (imageCrc m (slotBase base slot))

/-- The header of slot 0, which is no bin: it names the epoch of the pass, with no flags (R406; DESIGN CHOICE, notes/assumptions/191). -/
def currentHeader (base epoch tb : Nat) (m : List Host.Cell) : List Host.Cell :=
  writeHeader m (base + ctrHeaders) epoch tb 0 (imageCrc m (slotBase base 0))

/-- Step 5: a bin closes; its ring moves on to `next`, which starts from 0. -/
def closeBin (base slot next tb : Nat) (b : BinSt) (m : List Host.Cell) : List Host.Cell :=
  let m1 := binHeader base slot tb b true m
  memClear (memClear m1 (slotBase base next) ctrSlotSize) (base + ctrHeaders + 0x1000 * next) 0x1000

/-- The bins whose counters have become final lose PROV (R405). -/
def finishBins (base : Nat) (w : Work) : Work :=
  let d := w.1
  let clear (m : List Host.Cell) (slot : Nat) : List Host.Cell :=
    let a := base + ctrHeaders + 0x1000 * slot
    memWriteWord (memWriteWord m (a + 16) (putF (memWord m (a + 16)) 2 1 0)) (a + 24)
      (BitVec.ofNat 32 (imageCrc m (slotBase base slot)))
  let done := d.ladle.prov.filter (fun x => x.2 == 1)
  let rest := (d.ladle.prov.filter (fun x => x.2 != 1)).map (fun x => (x.1, x.2 - 1))
  ({ d with ladle := { d.ladle with prov := rest } }, done.foldl (fun m x => clear m x.1) w.2)

/-- A bin of `period` epochs closes at epoch `e` with phase `a` (R404). -/
def binEnds (e a period : Nat) : Bool := (e + 86400 - a) % period == 0

/-- R404 to R406: the bins that end at the epoch close; the headers of those in progress, whose counters are not final, follow. -/
def closeBins (base : Nat) (w : Work) : Work :=
  let d := w.1
  let l := d.ladle
  let p := l.pass
  let s15 := d.get F.pmBinB15
  let s24 := d.get F.pmBinB24
  let end15 := p.closing || binEnds p.epoch p.phase 900
  let end24 := p.closing || binEnds p.epoch p.phase 86400
  let n15 := if end15 then s15 % 97 + 1 else s15
  let n24 := if !end24 then s24 else if s24 = 105 then 98 else s24 + 1
  let bad := bitOf p.invalid
  let b15 := { l.b15 with invalid := l.b15.invalid + bad, short := l.b15.short || p.closing }
  let b24 := { l.b24 with invalid := l.b24.invalid + bad, short := l.b24.short || p.closing }
  let m1 := if end15 then closeBin base s15 n15 p.tb b15 w.2 else w.2
  let m2 := if end24 then closeBin base s24 n24 p.tb b24 m1 else m1
  let c15 : BinSt := if end15 then { first := p.epoch + 1 } else b15
  let c24 : BinSt := if end24 then { first := p.epoch + 1 } else b24
  let m3 := binHeader base n24 p.tb c24 true (binHeader base n15 p.tb c15 true (currentHeader base p.epoch p.tb m2))
  let d1 : Dev := { d with ladle := { l with
    b15 := c15, b24 := c24, slots := ((s15, s24) :: l.slots).take 10,
    prov := l.prov ++ (if end15 then [(s15, 10)] else []) ++ (if end24 then [(s24, 10)] else []) } }
  let d2 := d1.when end15 (fun x => (x.put F.pmBinB15 n15).raise F.pmEvtBin15Done)
  (d2.when end24 (fun x => (x.put F.pmBinB24 n24).raise F.pmEvtBin24Done), m3)

/-- A second waits for its pass, which the Ladle takes next. -/
def Dev.takePass (d : Dev) (p : Pass) : Dev :=
  ({ d with accClosed := p.acc, ladle := { d.ladle with waits := true, pass := { p with acc := [] } } } : Dev).raise F.pmLadleBusy

/-- R399: the steps of the pass, in order; the second after it, where one waits, is taken next. A pass that has no PM region counts
nothing. -/
def ladlePass (w : Work) : Work :=
  let d := w.1
  let base := d.cntBase
  let w1 := if base = 0 ∨ !d.hbmUp then w
    else
      let a := drain base (d.get F.pmBinB15) (d.get F.pmBinB24) w
      let b := a.1.toSettle.foldl (settleRecord base) a
      closeBins base (finishBins base (applyBaselines base (dumpRecord base b)))
  let e := w1.1
  let p := d.ladle.pass
  let d1 : Dev := { e with accClosed := [], ladle := { e.ladle with waits := false, pass := { e.ladle.pass with due := [], late := false } } }
  let d2 := (((d1.lower F.pmLadleBusy).put F.pmLadleLastUs (Nat.min 0xFFFF (ticksUs (d.now - p.since)))).raise
    F.pmEvtEpochDone).when p.late (fun x => x.raise F.pmEvtLate)
  match d2.ladle.more with
  | [] => (d2, w1.2)
  | q :: rest => (({ d2 with ladle := { d2.ladle with more := rest } } : Dev).takePass q, w1.2)

/-- Every pass that waits. -/
def ladleAll (w : Work) : Work :=
  if w.1.ladle.waits then (List.range (w.1.ladle.more.length + 1)).foldl (fun x _ => ladlePass x) w else w

/-- R407: the live value of a counter: what it holds once the Ladle has processed the last epoch, and the events since. -/
def liveCount (w : Work) (key : Nat) : Nat :=
  let v := ladleAll w
  (memCount v.2 (slotBase w.1.cntBase 0 + imageOffset key) + Store.get (fun _ => 0) w.1.acc key) % 2 ^ 64

/-! Baselines (R408 to R410) -/

/-- A write of `WR_GO`. -/
def Dev.writeBaseline (d : Dev) (data : W32) : Dev × Resp :=
  if getF data 0 1 = 0 then okay d
  else
    match d.wrKey with
    | none => (d, .slverr)
    | some k =>
      let v := (d.word Reg.pmWrLo).toNat + (d.word Reg.pmWrHi).toNat * 0x1_0000_0000
      let rest := d.ladle.base.filter (fun x => x.1 != k)
      let d1 : Dev := { d with ladle := { d.ladle with base := rest ++ [(k, v)] } }
      if 4096 < d1.pendingBases then (d.raise F.pmEvtWrFull, .slverr) else okay (d1.put F.pmWrStatPending d1.pendingBases)

end Sys2Proof.Machine
end

