-- ==== Sys2Proof/Machine/Monitor.lean ====
section
/-! DEFINITION. The commands of the Monitor (09_defects_and_monitoring.md), but for those that declare a lane's defects. -/

namespace Sys2Proof.Machine

/-- R386, R387, R390: a slice of an estimator ends. -/
def execSdSfSliceEnd (src : EstSource) (sf : Bool) (violations : Nat) (s : State) : Out :=
  let seen (key : Nat) : Bool := Store.get (fun _ => 0) s.dev.estAcc key == violations
  match src with
  | .line n => .next { s with dev := s.dev.when (seen (estKeyLane n.val (bitOf sf))) (fun d => d.laneSlice n.val sf) }
  | .point p =>
    let k := pointKey p
    .next { s with dev := s.dev.when (seen (estKeyPoint k (bitOf sf))) (fun d => d.pointSlice k sf) }

/-- Frames of an epoch (R399). -/
def epochFrames : Nat := 8000

/-- An epoch edge: that of a frame whose sequence number is a multiple of 8,000, while the root is valid (R477); the sequence
epoch itself ends no second. -/
def Dev.epochNow (d : Dev) : Bool :=
  d.rootValid && d.seqNow % epochFrames == 0 && decide (1 < d.timing.edges) && d.timing.edges != d.ladle.edge

/-- The second that ends with the edge, for its pass (R398, R400, R404). -/
def Dev.closedSecond (d : Dev) : Pass :=
  let l := d.ladle
  { epoch := d.get F.pmEpochEpoch + 1, tb := d.timeBase, since := d.now, invalid := d.modes.coastSeen || l.stepped || l.wiped,
    late := d.modes.inReset != .no, due := l.base, closing := l.align, phase := d.get F.pmBinAlignAlign, acc := d.acc }

/-- R393, R321, R398, R400: the second that has ended becomes closed, and its pass waits, behind another that waits. -/
def Dev.epochEdge (d : Dev) : Dev :=
  let p := d.closedSecond
  let d1 : Dev := { d with
    acc := [], modes := { d.modes with coastSeen := d.mode == modeCoast },
    ladle := { d.ladle with edge := d.timing.edges, stepped := false, wiped := false, base := [], align := false } }
  let d2 := if d.ladle.waits then { d1 with ladle := { d1.ladle with more := d1.ladle.more ++ [p] } } else d1.takePass p
  let d3 := (d2.put F.pmEpochEpoch p.epoch).markAll
  (d3.setGrm { d3.grm with epochDue := true }).verifyNext

/-- R399: an epoch edge; a pass still waiting is completed first, but in a warm reset, where every second waits for its end (R400). -/
def execEpoch (s : State) : Out :=
  if !s.dev.epochNow then .next s
  else
    let w := if s.dev.modes.inReset = .no then ladleAll (s.dev, s.mem) else (s.dev, s.mem)
    .next { s with dev := w.1.epochEdge, mem := w.2 }

/-- R399: the Ladle completes its pass; during a warm reset it waits for the end of the reset (R400). -/
def execLadlePassComplete (s : State) : Out :=
  if s.dev.ladle.waits ∧ s.dev.modes.inReset = .no then
    let w := ladlePass (s.dev, s.mem)
    .next { s with dev := w.1, mem := w.2 }
  else .next s

/-- R408 to R410: a write of 1 to `PM.WR_GO`. -/
def execWrGo (m : Master) (s : State) : Out :=
  .next { s with dev := s.dev.write m Reg.pmWrGo (fun d => d.writeBaseline 1) }

/-- R410: a write of `RD_SEL` or `WR_SEL`; one with a reserved kind leaves the field (R13), and names no counter. -/
def Dev.writeSel (d : Dev) (a : Nat) (data : W32) : Dev :=
  let bad := decide (5 ≤ getF data 24 3)
  let d1 := d.regWrite a data
  { d1 with ladle := if a = Reg.pmRdSel then { d1.ladle with rdBad := bad } else { d1.ladle with wrBad := bad } }

/-- R404: a write of `PM.BIN_ALIGN` closes both bins at the next epoch. -/
def Dev.writeBinAlign (d : Dev) (data : W32) : Dev :=
  let d1 := d.regWrite Reg.pmBinAlign data
  { d1 with ladle := { d1.ladle with align := true } }

/-- R404 -/
def execBinAlignWrite (m : Master) (data : W32) (s : State) : Out :=
  .next { s with dev := s.dev.write m Reg.pmBinAlign (fun d => okay (d.writeBinAlign data)) }

/-- R412, R413: a window of a bandwidth monitor ends; the next begins. -/
def Dev.bwWindow (d : Dev) (n : Nat) : Dev :=
  let at' (f : Field) : Field := f.at 16 n
  let x := Store.get (fun _ => ({} : BwSt)) d.bw n
  let ms := d.get (at' F.pmBwWinMs)
  let obj := d.get (at' F.pmBwSelObj)
  d.when (decide (1 ≤ obj) && decide (obj ≤ 8) && decide (x.start + 8 * ms ≤ d.timing.edges)) (fun e =>
    let v := Nat.min 0xFFFF_FFFF (x.bytes * 8 / ms)
    let e1 : Dev := { e with bw := Store.set (fun _ => {}) e.bw n { start := x.start + 8 * ms, bytes := x.after } }
    (e1.put (at' F.pmBwValKbps) v).put (at' F.pmBwPeakKbps) (Nat.max v (e.get (at' F.pmBwPeakKbps))))

/-- R412, R413: a window of a bandwidth monitor ends, in which it has counted `bytes`. -/
def execBwWindowEnd (n : Fin 64) (bytes : Nat) (s : State) : Out :=
  .next { s with dev := s.dev.when ((Store.get (fun _ => ({} : BwSt)) s.dev.bw n.val).bytes == bytes) (fun d => d.bwWindow n.val) }

/-- R413: a read of a peak sets it to the latest value. -/
def Dev.readBwPeak (d : Dev) (m n : Nat) : Dev :=
  let a := Reg.pmBwPeak + 16 * n
  d.readThen m a (d.word a) (fun e => e.put (F.pmBwPeakKbps.at 16 n) (e.get (F.pmBwValKbps.at 16 n)))

/-- R413 -/
def execBwPeakRead (m : Master) (n : Fin 64) (s : State) : Out := .next { s with dev := s.dev.readBwPeak m n.val }

/-- R413: a write of `BW_SELn` or `BW_WINn` starts a new window at the next boundary, of a frame whose number is a multiple of 8. -/
def Dev.writeBw (d : Dev) (n : Nat) (win : Bool) (data : W32) : Dev :=
  let d1 : Dev := { d with bw := Store.set (fun _ => {}) d.bw n { start := d.timing.edges + 8 - d.seqNow % 8 } }
  ((d1.regWrite ((if win then Reg.pmBwWin else Reg.pmBwSel) + 16 * n) data).put (F.pmBwValKbps.at 16 n) 0).put
    (F.pmBwPeakKbps.at 16 n) 0

/-- R413 -/
def execBwSelWrite (m : Master) (n : Fin 64) (win : Bool) (data : W32) (s : State) : Out :=
  let a := (if win then Reg.pmBwWin else Reg.pmBwSel) + 16 * n.val
  .next { s with dev := s.dev.write m a (fun d => okay (d.writeBw n.val win data)) }

/-- R415: a write of `FEC_CFGn`; `EN` from 0 to 1 clears the count. -/
def Dev.writeFec (d : Dev) (n : Nat) (data : W32) : Dev :=
  let was := d.on (F.pmFecCfgEn.at 32 n)
  let d1 := d.regWrite (Reg.pmFecCfg + 32 * n) data
  d1.when (!was && d1.on (F.pmFecCfgEn.at 32 n)) (fun e => e.setFec n 0)

/-- R415 -/
def execFecEnable (m : Master) (n : Fin 16) (data : W32) (s : State) : Out :=
  .next { s with dev := s.dev.write m (Reg.pmFecCfg + 32 * n.val) (fun d => okay (d.writeFec n.val data)) }

/-! The Skewer (R416 to R419) -/

/-- Records of 64 bytes that the Skewer buffer holds (R419). -/
def skewEntries : Nat := 32768

/-- The records that wait are written to the Skewer ring, in order (R418). A record of a lost region is not written. -/
def writeTraces (w : Work) : Work :=
  if !w.1.hbmUp then w
  else
    w.1.skw.waiting.foldl (fun (x : Work) r =>
      let d := x.1
      (d.roll F.pmSkwHeadIndex 1, if d.traceBase = 0 then x.2
        else memWrite x.2 (d.traceBase + 64 * d.get F.pmSkwHeadIndex) (r.flatMap (fun v => wordBytes (BitVec.ofNat 32 v)))))
      ({ w.1 with skw := { w.1.skw with waiting := [] } }, w.2)

/-- The stages that a unit of a kind passes, in order (R416). -/
def skewStages (kind : Nat) : List (List Nat) :=
  match kind with
  | 0 => [[1, 2, 3, 4, 5, 6]]
  | 1 => [[7, 8, 9]]
  | 2 => [[1, 2, 4, 5], [1, 2, 10]]
  | 3 => [[10, 11, 12, 13, 14, 5]]
  | 4 => [[6, 15, 12, 13, 11, 16, 9]]
  | _ => []

/-- `PM.SKW_CFG` chooses units of this kind and source (R416). -/
def skewChooses (w : W32) (kind source : Nat) : Bool :=
  getF w 0 1 == 1 && (getF w 6 5).testBit kind && (getF w 18 1 == 1 || getF w 11 7 == source)

/-- Tags are being placed (R416, R419). -/
def Dev.tagsPlaced (d : Dev) : Bool := (d.mode == modeService || d.mode == modeCoast) && d.shedLevel == 0

/-- R416, R419: a tag is placed on a unit, which stands at its first stage, where the buffer has an entry for it. -/
def Dev.placeTag (d : Dev) (kind source word1 : Nat) : Dev :=
  let full := decide (skewEntries ≤ d.skw.held.length + d.skw.waiting.length)
  if !d.tagsPlaced || !skewChooses (d.word Reg.pmSkwCfg) kind source then d
  else if full then (d.roll F.pmSkwDropCount 1).raise F.pmEvtSkwDrop
  else
    let u : TaggedUnit := {
      serial := d.get F.pmSkwTagsCount, kind := kind, source := source, word1 := word1, tb := d.timeBase,
      stamps := [(((skewStages kind).headD []).headD 0, d.now)] }
    ({ d with skw := { d.skw with held := d.skw.held ++ [u] } } : Dev).roll F.pmSkwTagsCount 1

/-- R416: a tagged unit passes a stage; with the last of its kind it leaves the pipeline. A stage that does not come next is no stamp. -/
def Dev.stampTag (d : Dev) (u : TaggedUnit) (stage : Nat) : Dev :=
  let v : TaggedUnit := { u with stamps := u.stamps ++ [(stage, d.now)] }
  let passed := v.stamps.map (fun x => x.1)
  if (skewStages u.kind).contains passed then d.endTag v false
  else if (skewStages u.kind).any (fun l => l.take passed.length == passed) then
    { d with skw := { d.skw with held := d.skw.held.map (fun x => if x.serial = u.serial then v else x) } }
  else d

/-- What becomes of a unit of the Skewer. -/
def Dev.trace (d : Dev) (u : TraceUnit) : Dev :=
  let held (n : Nat) : Option TaggedUnit := d.skw.held.find? (fun x => x.serial == n)
  match u with
  | .tag k src w => d.placeTag k.toNat src.toNat w.toNat
  | .stamp n stage => match held n with
    | some x => d.stampTag x stage.toNat
    | none => d
  | .lost n => match held n with
    | some x => d.endTag x true
    | none => d

/-- R416 to R419: a unit is tagged, passes a stage or is lost; the record of one that leaves the pipeline is written as soon as HBM3 takes
it. -/
def execTraceRecordWrite (u : TraceUnit) (s : State) : Out :=
  let w := writeTraces (s.dev.trace u, s.mem)
  .next { s with dev := w.1, mem := w.2 }

end Sys2Proof.Machine
end

