-- ==== Sys2Proof/Machine/Overhead.lean ====
section
/-! DEFINITION. The commands of the section overhead (R142 to R184). -/

namespace Sys2Proof.Machine

/-- Lane `n` is a LINE lane; on other lanes the section overhead block has no effect (R144). -/
def Dev.isLine (d : Dev) (n : Nat) : Bool := (d.lane n).isLine

/-- R150: a frame of a LINE lane is received whole. -/
def execLineFrameReceived (lane : PortLane) (bytes : List Byte) (s : State) : Out :=
  .next { s with dev := s.dev.when (s.dev.isLine lane.val && s.dev.hears lane.val bytes) (fun d => (d.esGives lane.val bytes).lineFrame lane.val bytes) }

/-- R157: a message is accepted. -/
def execJ0Accept (lane : PortLane) (s : State) : Out :=
  let n := lane.val
  .next { s with dev := s.dev.when (s.dev.isLine n && decide (3 ≤ (s.dev.soh n).trace.count)) (fun d => d.acceptTrace n) }

/-- A write of `LANE.SOH_J0CFG` by a master. -/
def Dev.j0cfgBy (d : Dev) (m n : Nat) (data : Dev → W32) : Dev :=
  d.write m (laneAddr n Reg.laneSohJ0cfg) (fun e => okay (e.writeJ0cfg n (data e)))

/-- R160: a write of 1 to `EXP_APPLY`. -/
def execExpApply (m : Master) (lane : PortLane) (s : State) : Out :=
  .next { s with dev := s.dev.j0cfgBy m lane.val (fun d => d.word (laneAddr lane.val Reg.laneSohJ0cfg) ||| 0x40) }

/-- R160: the expected message takes effect at an accepted-message comparison. -/
def execExpectedTraceTakeEffect (lane : PortLane) (s : State) : Out :=
  let n := lane.val
  let ok := s.dev.isLine n && s.dev.on (F.laneSohJ0cfgExpPend.lane n) && decide (3 ≤ (s.dev.soh n).trace.count)
  .next { s with dev := s.dev.when ok (fun d => d.compareTrace n) }

/-- R161: a write of 1 to `TX_APPLY`. -/
def execTxApply (m : Master) (lane : PortLane) (s : State) : Out :=
  .next { s with dev := s.dev.j0cfgBy m lane.val (fun d => d.word (laneAddr lane.val Reg.laneSohJ0cfg) ||| 0x80) }

/-- R161 -/
def execTransmitTraceTakeEffect (lane : PortLane) (s : State) : Out :=
  let n := lane.val
  let ok := s.dev.isLine n && s.dev.rootValid && s.dev.on (F.laneSohJ0cfgTxPend.lane n) && (s.dev.soh n).txPos == 0
  .next { s with dev := s.dev.when ok (fun d => d.applyTxTrace n) }

/-- R163: a write of `LANE.SOH_J0CFG` that changes a mode. -/
def execTraceModeChange (m : Master) (lane : PortLane) (data : W32) (s : State) : Out :=
  .next { s with dev := s.dev.j0cfgBy m lane.val (fun _ => data) }

/-- R164: the values that three frames carried are accepted, the K1 and K2[7:3] pair and K2[2:0] each on its own. -/
def Dev.acceptK (d : Dev) (n : Nat) : Dev :=
  let s := d.soh n
  let pair := d.get (F.laneSohKrxK1.lane n) * 32 + d.get (F.laneSohKrxK2h.lane n)
  let newK := 3 ≤ s.k.count ∧ (!d.on (F.laneSohKrxValid.lane n) ∨ pair ≠ s.k.value)
  let newL := 3 ≤ s.k2l.count ∧ (!d.on (F.laneSohKrxK2lValid.lane n) ∨ d.get (F.laneSohKrxK2l.lane n) ≠ s.k2l.value)
  let d1 := d.when (decide (3 ≤ s.k.count)) (fun e =>
    ((((e.put (F.laneSohKrxK1.lane n) (s.k.value / 32)).put (F.laneSohKrxK2h.lane n) s.k.value).raise
      (F.laneSohKrxValid.lane n)).raise (F.laneSohStatKValid.lane n)).lower (F.laneSohStatKUnstable.lane n))
  let d2 := d1.when (decide (3 ≤ s.k2l.count)) (fun e =>
    (e.put (F.laneSohKrxK2l.lane n) s.k2l.value).raise (F.laneSohKrxK2lValid.lane n))
  let d3 := d2.when (decide (3 ≤ s.k.count) && kCodeValid (s.k.value / 512)) (fun e =>
    e.setSoh n { e.soh n with kLast := s.k.value / 32 })
  (d3.when (decide (newK ∨ newL)) (fun e => sohEvent n F.laneSohEvtKChg e)).protSee

/-- The frame that declares MS-AIS is no acceptance (R166). -/
def Dev.kMayAccept (d : Dev) (n : Nat) : Bool :=
  d.isLine n && !d.kHeld n && decide ((d.soh n).ais < 3)

def execKAccept (lane : PortLane) (s : State) : Out :=
  .next { s with dev := s.dev.when (s.dev.kMayAccept lane.val) (fun d => d.acceptK lane.val) }

/-- R165: the 12th consecutive counted frame without an acceptance. -/
def execKUnstable (lane : PortLane) (s : State) : Out :=
  let n := lane.val
  let ok := s.dev.kMayAccept n && decide (12 ≤ (s.dev.soh n).kSince) && !s.dev.on (F.laneSohStatKUnstable.lane n)
  .next { s with dev := s.dev.when ok (fun d => (sohEvent n F.laneSohEvtKUnstable (d.raise (F.laneSohStatKUnstable.lane n))).protSee) }

/-- MS-AIS or MS-RDI changes (R169). -/
def Dev.setMaint (d : Dev) (n bit : Nat) (stat evt : Field) (v : Bool) : Dev :=
  (sohEvent n evt ((d.put (stat.lane n) (bitOf v)).setDefect n bit v)).lineUpdate n

/-- MS-AIS and MS-RDI are evaluated (R169). -/
def Dev.maintLive (d : Dev) (n : Nat) : Bool := d.isLine n && !d.defect n defLos && !d.defect n defOof

/-- R169: MS-AIS after K2[2:0] = 0b111 in 3 consecutive frames; K is held and B2 is no longer compared. -/
def execMsAisDeclare (lane : PortLane) (s : State) : Out :=
  let n := lane.val
  let ok := s.dev.maintLive n && !s.dev.defect n defMsais && decide (3 ≤ (s.dev.soh n).ais)
  .next { s with dev := s.dev.when ok (fun d =>
    let t := d.soh n
    ((d.setSoh n { t with k := {}, k2l := {}, kSince := 0, s1 := {} }).setMaint n defMsais F.laneSohStatMsais
      F.laneSohEvtMsaisChg true).b2Pause n) }

/-- R169: MS-AIS clears after 3 consecutive frames without it. -/
def execMsAisClear (lane : PortLane) (s : State) : Out :=
  let n := lane.val
  let ok := s.dev.maintLive n && s.dev.defect n defMsais && decide (3 ≤ (s.dev.soh n).noAis)
  .next { s with dev := s.dev.when ok (fun d => d.setMaint n defMsais F.laneSohStatMsais F.laneSohEvtMsaisChg false) }

/-- R169: MS-RDI after K2[2:0] = 0b110 in 5 consecutive frames. -/
def execMsRdiDeclare (lane : PortLane) (s : State) : Out :=
  let n := lane.val
  let ok := s.dev.maintLive n && !s.dev.defect n defMsrdi && decide (5 ≤ (s.dev.soh n).rdi)
  .next { s with dev := s.dev.when ok (fun d => d.setMaint n defMsrdi F.laneSohStatMsrdi F.laneSohEvtMsrdiChg true) }

/-- R169: MS-RDI clears after 5 consecutive frames without it. -/
def execMsRdiClear (lane : PortLane) (s : State) : Out :=
  let n := lane.val
  let ok := s.dev.maintLive n && s.dev.defect n defMsrdi && decide (5 ≤ (s.dev.soh n).noRdi)
  .next { s with dev := s.dev.when ok (fun d => d.setMaint n defMsrdi F.laneSohStatMsrdi F.laneSohEvtMsrdiChg false) }

/-- R173: at a transmit frame boundary MS-RDI starts or ends, as MS fail and `RDI_EN` stand. -/
def execMsRdiTxChange (lane : PortLane) (s : State) : Out :=
  let n := lane.val
  let due := s.dev.msFail n && s.dev.on (F.laneSohCfgRdiEn.lane n)
  .next { s with dev := s.dev.when (s.dev.isLine n && s.dev.rootValid) (fun d =>
    (d.setSoh n { d.soh n with rdiDue := due }).put (F.laneSohStatRdiTx.lane n)
      (bitOf ((due || d.on (F.laneSohTxForceMsrdi.lane n)) && !d.on (F.laneSohStatAisTx.lane n)))) }

/-- R177: S1[3:0] is accepted after 8 consecutive frames. -/
def execS1Accept (lane : PortLane) (s : State) : Out :=
  let n := lane.val
  let r := (s.dev.soh n).s1
  let ok := s.dev.maintLive n && !s.dev.defect n defMsais && decide (8 ≤ r.count)
  .next { s with dev := s.dev.when ok (fun d =>
    let new := !d.on (F.laneSohStatS1Valid.lane n) || d.get (F.laneSohS1RxAcc.lane n) != r.value
    ((d.put (F.laneSohS1RxAcc.lane n) r.value).raise (F.laneSohStatS1Valid.lane n)).when new
      (sohEvent n F.laneSohEvtS1Chg)) }

/-- R144, R154, R174, R175: a write of `LANE.SOH_TX`: `INS_B1` and `INS_B2` act only in TEST, on a LINE lane. -/
def Dev.writeSohTx (d : Dev) (n : Nat) (data : W32) : Dev :=
  let d1 := d.regWrite (laneAddr n Reg.laneSohTx) data
  d1.when ((d.lane n).isLine && d.inTest (lanePage n)) (fun e =>
    let t := e.soh n
    e.setSoh n { t with insB1 := t.insB1 || getF data 2 1 == 1, insB2 := t.insB2 || getF data 3 1 == 1 })

/-- A write of `LANE.SOH_TX` by a master with one more bit at 1. -/
def Dev.sohTxBy (d : Dev) (m n : Nat) (bit : W32) : Dev :=
  d.write m (laneAddr n Reg.laneSohTx) (fun e => okay (e.writeSohTx n (e.word (laneAddr n Reg.laneSohTx) ||| bit)))

/-- R154: a write of 1 to `INS_B1`. -/
def execInsB1 (m : Master) (lane : PortLane) (s : State) : Out :=
  .next { s with dev := s.dev.sohTxBy m lane.val 4 }

/-- R154: a write of 1 to `INS_B2`. -/
def execInsB2 (m : Master) (lane : PortLane) (s : State) : Out :=
  .next { s with dev := s.dev.sohTxBy m lane.val 8 }

/-- R381: B2 EXC is declared at the eighth consecutive frame with at least 6 N violations. -/
def execB2ExcDeclare (lane : PortLane) (s : State) : Out :=
  let n := lane.val
  let ok := s.dev.isLine n && decide (8 ≤ (s.dev.soh n).exc)
  .next { s with dev := s.dev.when ok (fun d => (d.setDefect n defExc true).lineUpdate n) }

/-- R381: B2 EXC clears at the eighth consecutive frame with at most 3 N violations. -/
def execB2ExcClear (lane : PortLane) (s : State) : Out :=
  let n := lane.val
  let ok := s.dev.isLine n && decide (8 ≤ (s.dev.soh n).noExc)
  .next { s with dev := s.dev.when ok (fun d => (d.setDefect n defExc false).lineUpdate n) }

end Sys2Proof.Machine
end

