-- ==== Sys2Proof/Machine/PanelOps.lean ====
section
/-! DEFINITION. The panel controller (15_panel_and_modules.md): its inputs, functions, module presence and module buses. -/

namespace Sys2Proof.Machine

def Dev.setPanel (d : Dev) (p : Panel) : Dev := { d with panel := p }

/-- The bit of input `i`, or of a cage, in a register at `a`. -/
def bitAt (a i : Nat) : Field := ⟨a + 4 * (i / 32), i % 32, 1⟩

def Dev.held (d : Dev) (i : Nat) : Bool := d.on (bitAt Reg.pnlKeystat i)
def Dev.isStuck (d : Dev) (i : Nat) : Bool := d.on (bitAt Reg.pnlStuck i)
def Dev.seated (d : Dev) (cage : Nat) : Bool := d.on (bitAt Reg.pnlPres cage)

/-- Samples that agree before a debounced change (R609, R620). -/
def debounce : Nat := 24

/-- R611: whether electrode `i`, with count `n`, samples as pressed. -/
def Dev.touched (d : Dev) (i n : Nat) : Bool :=
  let diff := d.get (F.pnlTchBase.at 4 i) - n
  let thr := d.get F.pnlTchCfgThr
  d.on ⟨Reg.pnlCfg, 16 + i, 1⟩ && (decide (thr ≤ diff) || (d.panel.touch.getD i false && decide (thr ≤ 2 * diff)))

/-- A scan cycle may start: 900 µs, less 2 %, after the last (R606). -/
def Dev.scanDue (d : Dev) : Bool :=
  d.on F.pnlCfgScanEn && d.modes.inReset == .no && (match d.panel.scanAt with
    | some t => decide (t + usTicks 882 ≤ d.now)
    | none => true)

/-- R606, R607, R618: one scan cycle: every input is sampled, and the bits shifted before reach the LEDs. -/
def Dev.scan (d : Dev) (i : ScanIn) : Dev :=
  let keys := d.get F.pnlCfgKeys
  let touch := (List.range 4).map (fun k => d.touched k (i.touch.getD k 0).toNat)
  let pressed (k : Nat) : Bool := if k < 16 then decide (k < keys) && !i.keys.getD k true else touch.getD (k - 16) false
  let run (old : Nat) (sample state : Bool) : Nat := if sample = state then 0 else old + 1
  let runs := (List.range 20).map (fun k => run (d.panel.runs.getD k 0) (pressed k) (d.held k))
  let cages := (List.range 104).map (fun k => run (d.panel.cages.getD k 0) (!i.presence.getD k true) (d.seated k))
  let frozen := d.mode == modeSafehold
  let d1 := d.setPanel { d.panel with runs := runs, cages := cages, touch := touch, scanAt := some d.now,
                                      lit := if frozen then d.panel.lit else d.panel.shifted,
                                      shifted := if frozen then d.panel.shifted else d.ledPattern false }
  d1.each 4 (fun e k => e.when (e.on ⟨Reg.pnlCfg, 16 + k, 1⟩) (fun x => x.put (F.pnlTchCount.at 4 k) (i.touch.getD k 0).toNat))

/-! Functions (R612 to R616) -/

def funcAco : Nat := 1
def funcManual : Nat := 3
def funcHandover : Nat := 4

def Dev.dropPress (d : Dev) : Dev := d.raise F.pnlEvtDropped

/-- R614: a press is sent to the mate while the lane path is up. -/
def Dev.forward (d : Dev) (binding : W32) : Dev :=
  if d.mate.lane.up then d.mateSay 6 (bytesOf 4 binding.toNat) else d.dropPress

/-- A device that forwards its presses. -/
def Dev.forwards (d : Dev) : Bool := d.role == roleStandby || d.role == roleRejoin

/-- The bound switch of a binding word (R456, R625). -/
def Dev.boundSwitch (d : Dev) (w : W32) : Dev := d.panelSwitch (getF w 3 1 == 1) (getF w 4 18) (getF w 22 4)

/-- R612, R614, R616: a MANUAL_SWITCH press. -/
def Dev.manualPress (d : Dev) (w : W32) : Dev :=
  if d.mode = modeBoot ∨ d.mode = modePrepare then d.dropPress
  else if d.forwards then d.forward w
  else d.boundSwitch w

/-- R612, R616: an ACO press. -/
def Dev.acoPress (d : Dev) : Dev :=
  if d.mode = modeBoot ∨ d.mode = modePrepare then d.raise F.pnlStatAcoQueued
  else (d.raise F.pnlStatAco).raise F.pnlEvtAco

/-- R613, R614, R616: a pair fires. -/
def Dev.handoverPress (d : Dev) (w : W32) : Dev :=
  if d.mode = modeBoot ∨ d.mode = modePrepare ∨ d.mode = modeSafehold then d.dropPress
  else if d.forwards then d.forward w
  else d.when (d.role == roleActive) Dev.cmdHandover

/-- What the function bound to input `i` does at a press. -/
def Dev.keyFunction (d : Dev) (i : Nat) : Dev :=
  let w := d.word (Reg.pnlKfun + 4 * i)
  let f := getF w 0 3
  if f = funcAco then d.acoPress else if f = funcManual then d.manualPress w else d

/-- R609: input `i` is debounced as pressed. -/
def Dev.pressed (d : Dev) (i : Nat) : Dev :=
  let p := d.panel
  let d1 := d.setPanel { p with runs := p.runs.set i 0, heldAt := p.heldAt.set i d.now }
  (((d1.raise (bitAt Reg.pnlKeystat i)).raise (bitAt Reg.pnlPress i)).raise F.pnlEvtPress).keyFunction i

/-- R609, R610: input `i` is debounced as released. -/
def Dev.released (d : Dev) (i : Nat) : Dev :=
  let p := d.panel
  ((d.setPanel { p with runs := p.runs.set i 0, fired := p.fired.filter (fun x => x != i) }).lower
    (bitAt Reg.pnlKeystat i)).lower (bitAt Reg.pnlStuck i)

/-- R613: the bindings of inputs `a` and `b` name each other, and both have been held for 2 s. -/
def Dev.pairHeld (d : Dev) (a b : Nat) : Bool :=
  let one (x y : Nat) : Bool :=
    d.get (F.pnlKfunFunc.at 4 x) == funcHandover && d.get (F.pnlKfunPair.at 4 x) == y && d.held x && !d.isStuck x
      && !d.panel.fired.contains x && decide (d.panel.heldAt.getD x 0 + 2 * ticksPerSecond ≤ d.now)
  a != b && one a b && one b a

/-- A KEY block of the mate reaches an ACTIVE (R614). -/
def Dev.keyReceived (d : Dev) (w : W32) : Dev :=
  if d.role = roleActive ∧ decidingMode d.mode then
    (if getF w 0 3 = funcManual then d.boundSwitch w
     else if getF w 0 3 = funcHandover then d.cmdHandover
     else d)
  else d

/-- A write of `PNL.CTRL` (R618). -/
def Dev.writePnlCtrl (d : Dev) (data : W32) : Dev :=
  (d.regWrite Reg.pnlCtrl data).when (getF data 1 1 == 1) (fun e => e.lower F.pnlStatAco)

/-! Module buses (R622, R623) -/

def mbOk : Nat := 0
def mbBusy : Nat := 4
def mbAborted : Nat := 6

def mbField (f : Field) (n : Nat) : Field := f.at 0x40 n

/-- A write of `MB_CMDn`. -/
def Dev.writeMbCmd (d : Dev) (n : Nat) (data : W32) : Dev :=
  let d1 := d.regWrite (Reg.pnlMbCmd + 0x40 * n) data
  if getF data 21 1 = 0 then d1
  else if d.on (mbField F.pnlMbStatBusy n) then d1.put (mbField F.pnlMbStatResult n) mbBusy
  else
    let d2 := d1.setPanel { d1.panel with
      buses := d1.panel.buses.set n (d1.on (mbField F.pnlMbCmdWrite n), d1.get (mbField F.pnlMbCmdLen n)) }
    ((d2.raise (mbField F.pnlMbStatBusy n)).put (mbField F.pnlMbStatResult n) mbOk).put (mbField F.pnlMbStatDone n) 0

/-- A transaction of bus `n` ends. -/
def Dev.mbEnd (d : Dev) (n result done : Nat) : Dev :=
  (((d.lower (mbField F.pnlMbStatBusy n)).put (mbField F.pnlMbStatResult n) result).put (mbField F.pnlMbStatDone n) done).raise
    F.pnlEvtMbDone

def mbResult : MbEnd → Nat
  | .ok => 0
  | .nackAddr => 1
  | .nackData => 2
  | .timeout => 3
  | .stuck => 5

end Sys2Proof.Machine
end

