-- ==== Sys2Proof/Machine/Sha.lean ====
section
/-! DEFINITION. SHA-256 (FIPS 180-4), which boot, attestation and the lifecycle use (R570, R571, R588 to R590). -/

namespace Sys2Proof.Machine

/-- The first 32 bits of the fraction of the `k`th root of `p`, for a root below 16: a digit of the root is kept where its `k`th power
stays within `p`. -/
def rootFraction (k p : Nat) : W32 :=
  BitVec.ofNat 32 ((List.range 36).foldl (fun r i =>
    let t := r + 2 ^ (35 - i)
    if t ^ k ≤ p * 2 ^ (32 * k) then t else r) 0)

/-- The primes below 312, which are the first 64. -/
def shaPrimes : List Nat :=
  (List.range 312).filter (fun p => decide (2 ≤ p) && (List.range 18).all (fun d => decide (d < 2) || decide (p ≤ d) || p % d != 0))

/-- The round constants: the cube roots of the first 64 primes. -/
def shaK : List W32 := shaPrimes.map (rootFraction 3)

/-- The initial hash value: the square roots of the first 8 primes. -/
def shaInit : List W32 := (shaPrimes.take 8).map (rootFraction 2)

/-- A word rotated right. -/
def rotr (x : W32) (n : Nat) : W32 := (x >>> n) ||| (x <<< (32 - n))

/-- The message schedule from the words so far, the newest first: `n` more words. -/
def shaExpand : Nat → List W32 → List W32
  | 0, l => l
  | n + 1, l =>
    let w2 := l.getD 1 0
    let w15 := l.getD 14 0
    let s0 := rotr w15 7 ^^^ rotr w15 18 ^^^ (w15 >>> 3)
    let s1 := rotr w2 17 ^^^ rotr w2 19 ^^^ (w2 >>> 10)
    shaExpand n ((l.getD 15 0 + s0 + l.getD 6 0 + s1) :: l)

/-- One round with constant and schedule word added as `kw`. -/
def shaRound (h : List W32) (kw : W32) : List W32 :=
  match h with
  | [a, b, c, d, e, f, g, x] =>
    let s1 := rotr e 6 ^^^ rotr e 11 ^^^ rotr e 25
    let ch := (e &&& f) ^^^ (~~~e &&& g)
    let t1 := x + s1 + ch + kw
    let s0 := rotr a 2 ^^^ rotr a 13 ^^^ rotr a 22
    let maj := (a &&& b) ^^^ (a &&& c) ^^^ (b &&& c)
    [t1 + (s0 + maj), a, b, c, d + t1, e, f, g]
  | _ => h

/-- A block of 16 words is taken in. -/
def shaBlock (h : List W32) (block : List W32) : List W32 :=
  let w := (shaExpand 48 block.reverse).reverse
  List.zipWith (fun x y => x + y) h ((List.zipWith (fun x y => x + y) shaK w).foldl shaRound h)

/-- Words of four bytes, most significant first. -/
def shaWords : List Byte → List W32
  | a :: b :: c :: d :: t =>
    BitVec.ofNat 32 (a.toNat * 0x100_0000 + b.toNat * 0x1_0000 + c.toNat * 0x100 + d.toNat) :: shaWords t
  | _ => []

/-- Blocks of 16 words; `n` bounds their number. -/
def shaBlocks : Nat → List W32 → List W32 → List W32
  | 0, h, _ => h
  | n + 1, h, l => if l.isEmpty then h else shaBlocks n (shaBlock h (l.take 16)) (l.drop 16)

/-- The message padded to whole blocks. -/
def shaPad (m : List Byte) : List Byte :=
  let n := m.length
  m ++ [0x80] ++ List.replicate ((119 - n % 64) % 64) 0
    ++ (List.range 8).map (fun i => BitVec.ofNat 8 (8 * n / 2 ^ (56 - 8 * i)))

/-- The SHA-256 of a byte string. -/
def sha256 (m : List Byte) : List Byte :=
  let w := shaWords (shaPad m)
  (shaBlocks w.length shaInit w).flatMap (fun x =>
    [BitVec.ofNat 8 (x.toNat / 0x100_0000), BitVec.ofNat 8 (x.toNat / 0x1_0000), BitVec.ofNat 8 (x.toNat / 0x100),
     BitVec.ofNat 8 x.toNat])

end Sys2Proof.Machine
end

