-- ==== Sys2Proof/Machine/SecView.lean ====
section
/-! DEFINITION. The lifecycle, the effective debug level and the functions they grant (R587, R588, R591, R599, R601, R602). -/

namespace Sys2Proof.Machine

def lcBlank : Nat := 0
def lcProvisioned : Nat := 1
def lcLocked : Nat := 2
def lcSession : Nat := 3
def lcGone : Nat := 4

/-- The lifecycle state (R591). -/
def Dev.lifecycle (d : Dev) : Nat :=
  let o := d.mgt.otp
  if o.gone then lcGone
  else if o.locked then (if d.mgt.session.isSome then lcSession else lcLocked)
  else if o.provisioned then lcProvisioned
  else lcBlank

/-- The highest debug level of the lifecycle (R591). -/
def Dev.debugMax (d : Dev) : Nat :=
  if d.lifecycle = lcLocked then 0 else if d.lifecycle = lcSession then d.mgt.session.getD 0 else 2

/-- The effective debug level (R599). -/
def Dev.debugLevel (d : Dev) : Nat := Nat.min (d.get F.secDbgReq) d.debugMax

/-- The functions of the table of R601. -/
inductive Func where
  | halt | observe | extest | sample | power | attest
deriving DecidableEq, Repr

/-- R601, R602: a function is granted in the present state. -/
def Dev.grants (d : Dev) (f : Func) : Bool :=
  let level := d.shedLevel
  let debug := d.debugLevel
  let gone := d.lifecycle == lcGone
  match f with
  | .sample => true
  | .observe => decide (1 ≤ debug)
  | .halt => debug == 2
  | .extest => debug == 2 && decide (level < 4)
  | .attest => !gone
  | .power => !gone && decide (level < 2)

/-- `SEC.LC` (R605). -/
def Dev.lcWord (d : Dev) : W32 :=
  BitVec.ofNat 32 (d.lifecycle + bitOf d.mgt.otp.custHash.isSome * 8 + d.debugMax * 16 + d.mgt.otp.rollback * 0x1_0000)

/-- The device ID (R588). -/
def deviceId : List Byte := (sha256 ((4 : Byte) :: Config.deviceKey)).take 16

/-- The word of four bytes of a list, the first at its lowest address (R10). -/
def wordFrom (l : List Byte) (i : Nat) : W32 := wordOfBytes (l.getD i 0) (l.getD (i + 1) 0) (l.getD (i + 2) 0) (l.getD (i + 3) 0)

end Sys2Proof.Machine
end

