-- ==== Sys2Proof/Machine/MgtOps.lean ====
section
/-! DEFINITION. Flash, images, boot and the processor's starts (R567 to R581). -/

namespace Sys2Proof.Machine

/-! Flash (R569) -/

def flashRead (f : List Host.Cell) (a n : Nat) : List Byte := (List.range n).map (fun i => Store.get flashErased f (a + i))

/-- Bytes programmed from offset `a` up. -/
def flashWrite (f : List Host.Cell) (a : Nat) : List Byte → List Host.Cell
  | [] => f
  | b :: t => flashWrite (Store.set flashErased f a b) (a + 1) t

def flashErase (f : List Host.Cell) (a n : Nat) : List Host.Cell := Store.keep (fun k => decide (k < a) || decide (a + n ≤ k)) f

def imageSize : Nat := 0x40_0000
def imageBase (b : Bool) : Nat := if b then 0x50_0000 else 0x10_0000

/-! The boot record (R572) -/

def slotEmpty : Nat := 0
def slotValid : Nat := 1
def slotTrial : Nat := 2
def slotTrialRun : Nat := 3
def slotConfirmed : Nat := 4
def slotFailed : Nat := 5

/-- A boot record: its write count, the slot states and the active slot. -/
structure BootRec where
  seq : Nat
  a : Nat
  b : Nat
  active : Bool
deriving DecidableEq, Repr

def BootRec.state (r : BootRec) (slot : Bool) : Nat := if slot then r.b else r.a

def BootRec.setState (r : BootRec) (slot : Bool) (v : Nat) : BootRec := if slot then { r with b := v } else { r with a := v }

/-- Words 0 to 2 of a record. -/
def BootRec.bytes (r : BootRec) : List Byte :=
  wordBytes 0x4254_5231 ++ wordBytes (BitVec.ofNat 32 r.seq)
    ++ wordBytes (BitVec.ofNat 32 (r.a % 8 + r.b % 8 * 8 + bitOf r.active * 64))

/-- A copy of the record, where its CRC checks. -/
def bootCopy (f : List Host.Cell) (base : Nat) : Option BootRec :=
  let l := flashRead f base 12
  let w := wordFrom l 8
  if wordFrom l 0 = 0x4254_5231 ∧ (wordFrom (flashRead f (base + 12) 4) 0).toNat = crc32 l then
    some { seq := (wordFrom l 4).toNat, a := getF w 0 3, b := getF w 3 3, active := getF w 6 1 == 1 }
  else none

/-- The record in force, with the copy that holds it (R572, R573). -/
def bootRecord (f : List Host.Cell) : BootRec × Bool :=
  match bootCopy f 0, bootCopy f 0x1000 with
  | some x, some y => if x.seq < y.seq then (y, true) else (x, false)
  | some x, none => (x, false)
  | none, some y => (y, true)
  | none, none => ({ seq := 0, a := slotValid, b := slotValid, active := false }, true)

/-- `MGT.BOOT_STAT` shows the slot states. -/
def Dev.showSlots (d : Dev) (r : BootRec) : Dev := (d.put F.mgtBootStatStateA r.a).put F.mgtBootStatStateB r.b

/-- A new record: the copy that is not in force is written, with the next write count. -/
def Chip.writeRecord (c : Chip) (r : BootRec) : Chip :=
  let old := bootRecord c.flash
  let n : BootRec := { r with seq := (old.1.seq + 1) % 0x1_0000_0000 }
  let base := if old.2 then 0 else 0x1000
  { c with
    dev := c.dev.showSlots n
    flash := flashWrite (flashErase c.flash base 0x1000) base (n.bytes ++ wordBytes (BitVec.ofNat 32 (crc32 n.bytes))) }

/-! Images (R570, R571) -/

/-- The words and byte strings of an image header. -/
def hdrWord (h : List Byte) (o : Nat) : Nat := (wordFrom h o).toNat
def hdrBody (h : List Byte) : Nat := hdrWord h 8
def hdrVersion (h : List Byte) : Nat := hdrWord h 0xC
def hdrRollback (h : List Byte) : Nat := hdrWord h 0x10
def hdrPart (h : List Byte) (o n : Nat) : List Byte := (h.drop o).take n
def hdrVendorKey (h : List Byte) : List Byte := hdrPart h 0xC0 64
def hdrCustKey (h : List Byte) : List Byte := hdrPart h 0x100 64
def firmwareHash (h : List Byte) : List Byte := sha256 (hdrPart h 0 0x40)

/-- The hash of a public key in uncompressed form. -/
def keyHash (k : List Byte) : List Byte := sha256 ((4 : Byte) :: k)

/-- A header's customer signature verifies under the customer key whose hash is `h`. -/
def custSigned (hdr h : List Byte) : Bool :=
  keyHash (hdrCustKey hdr) == h && Config.ecdsaVerify (hdrCustKey hdr) (hdrPart hdr 0 0x40) (hdrPart hdr 0x80 64)

/-- The results of a firmware command (R604). -/
def fwOk : Nat := 0
def fwRunning : Nat := 1
def fwBusy : Nat := 2
def fwSig : Nat := 3
def fwRollback : Nat := 4
def fwFormat : Nat := 5
def fwState : Nat := 6
def fwPower : Nat := 7
def fwLost : Nat := 9
def fwAborted : Nat := 10

/-- R571: how a Haldyn image verifies, `body n` being its first `n` body bytes. -/
def Otp.check (o : Otp) (hdr : List Byte) (body : Nat → List Byte) : Nat :=
  let n := hdrBody hdr
  if hdrWord hdr 0 ≠ 0x484C_4431 ∨ hdrWord hdr 4 ≠ 0x200 ∨ n = 0 ∨ 0x30_0000 < n then fwFormat
  else if keyHash (hdrVendorKey hdr) ≠ Config.vendorKeyHash
      ∨ !Config.ecdsaVerify (hdrVendorKey hdr) (hdrPart hdr 0 0x40) (hdrPart hdr 0x40 64) then fwSig
  else if (match o.custHash with | some h => !custSigned hdr h | none => false) then fwSig
  else if sha256 (body n) ≠ hdrPart hdr 0x20 32 then fwFormat
  else if hdrRollback hdr < o.rollback then fwRollback
  else fwOk

def slotHeader (f : List Host.Cell) (slot : Bool) : List Byte := flashRead f (imageBase slot) 0x200

/-- The image in a slot verifies. -/
def Chip.slotVerifies (c : Chip) (slot : Bool) : Bool :=
  c.dev.mgt.otp.check (slotHeader c.flash slot) (flashRead c.flash (imageBase slot + 0x200)) == fwOk

/-- An image that lies in memory from `a` up. -/
def Chip.imageCheck (c : Chip) (a : Nat) : Nat := c.dev.mgt.otp.check (memRead c.mem a 0x200) (memRead c.mem (a + 0x200))

/-! Measurement and fuses -/

def Dev.setMgt (d : Dev) (m : Mgt) : Dev := { d with mgt := m }

def Dev.measurement (d : Dev) : List Byte := (List.range 8).flatMap (fun i => wordBytes (d.word (Reg.secMeas + 4 * i)))

def Dev.setMeasurement (d : Dev) (v : List Byte) : Dev :=
  d.each 8 (fun e i => e.setWord (Reg.secMeas + 4 * i) (wordFrom v (4 * i)))

/-- R589: an extension, which the security engine logs. -/
def Chip.extend (c : Chip) (v : List Byte) : Chip :=
  (c.on (fun d => d.setMeasurement (sha256 (d.measurement ++ v)))).log 7 true

/-- R580: the fuses that are due are burnt where that is allowed, each with an entry in the log. -/
def Chip.burnFuses (c : Chip) : Chip :=
  let o := c.dev.mgt.otp
  let due := c.dev.mgt.fuseTarget - o.rollback
  if due = 0 then c.on (fun d => d.lower F.mgtFwStatFusePend)
  else if c.dev.grants .power then
    let c1 := c.on (fun d =>
      ((d.setMgt { d.mgt with otp := { o with rollback := o.rollback + due } }).lower F.mgtFwStatFusePend).raise F.secEvtFuse)
    (List.range due).foldl (fun x _ => x.log 7 true) c1
  else c.on (fun d => d.raise F.mgtFwStatFusePend)

/-- R580: a CONFIRMED image of level `r`. -/
def Chip.fusesFor (c : Chip) (r : Nat) : Chip :=
  (c.on (fun d => d.setMgt { d.mgt with fuseTarget := Nat.max d.mgt.fuseTarget (Nat.min r 128) })).burnFuses

/-! Boot (R573 to R576) -/

def bootRunning : Nat := 1
def bootRecovery : Nat := 2
def bootHalted : Nat := 3

def Dev.bootState (d : Dev) : Nat := d.get F.mgtBootStatState

/-- Haldyn runs. -/
def Dev.haldyn (d : Dev) : Bool := d.bootState == bootRunning

def causeCold : Nat := 0
def causeWarm : Nat := 1
def causeHost : Nat := 2
def causeFirmware : Nat := 3
def causeWdog : Nat := 4
def causeActivate : Nat := 5
def causeHealth : Nat := 6
def causeRecover : Nat := 7

/-- A start of the processor, for its cause; the security engine logs it. -/
def Chip.counted (c : Chip) (cause : Nat) : Chip :=
  (c.on (fun d => (((d.setMgt { d.mgt with wdogAt := d.now }).put F.mgtBootStatCause cause).bump F.mgtBootStatStarts 1).raise
    F.mgtEvtBoot)).log 7 true

/-- Entry 0, which the boot ROM sets (R565, R574). -/
def romPmp : PmpEntry :=
  { first := 0x0800_0000, last := 0x0803_FFFF, machine := { r := true, x := true }, user := {}, locked := true }

/-- Entries 1 to 8, which Haldyn sets at its start and keeps (R565). -/
def haldynPmp : List PmpEntry :=
  let rw : PmpRights := { r := true, w := true }
  let ro : PmpRights := { r := true }
  [{ first := 0x0400_0000, last := 0x042F_FFFF, machine := { r := true, w := true, x := true }, user := {} },
    { first := 0x0430_0000, last := 0x043B_FFFF, machine := rw, user := { r := true, x := true } },
    { first := 0x043C_0000, last := 0x043F_BFFF, machine := rw, user := rw },
    { first := 0x043F_C000, last := 0x043F_FFFF, machine := rw, user := {}, locked := true },
    { first := 0x4000_0000, last := 0x40FF_FFFF, machine := rw, user := rw },
    { first := 0x1000_0000, last := 0x1FFF_FFFF, machine := rw, user := rw },
    { first := 0x4490_0000, last := 0x47FF_FFFF, machine := ro, user := ro },
    { first := 0x8000_0000, last := 0xBFFF_FFFF, machine := rw, user := ro }]

/-- R574: the image with header `h` starts; `slot` is 0 A, 1 B or 2 recovered, `state` its slot's state. -/
def Chip.startImage (c : Chip) (h : List Byte) (slot state : Nat) : Chip :=
  let trial := state == slotTrialRun
  let on (d : Dev) : Dev :=
    let d1 := d.setMgt { d.mgt with image := some (slot, h), pmp := romPmp :: haldynPmp,
                                    trialAt := if trial then some d.now else none }
    let d2 := ((d1.put F.mgtBootStatState bootRunning).put F.mgtBootStatSlot (if slot = 1 then 1 else 0)).put
      F.mgtBootStatRecovered (if slot = 2 then 1 else 0)
    (((d2.put F.mgtFwVerVersion (hdrVersion h)).put F.mgtHealthTrial (bitOf trial)).lower F.mgtHealthOk).raise F.devBootctlRemap
  let c1 := (c.on on).extend (firmwareHash h)
  if state = slotConfirmed then c1.fusesFor (hdrRollback h) else c1.burnFuses

/-- R573: a slot's image starts, its body copied to processor SRAM. -/
def Chip.startSlot (c : Chip) (slot : Bool) (state : Nat) : Chip :=
  let h := slotHeader c.flash slot
  (c.store 0x0400_0000 (flashRead c.flash (imageBase slot + 0x200) (hdrBody h))).startImage h (bitOf slot) state

/-- No image runs. -/
def Dev.noImage (d : Dev) (state : Nat) : Dev :=
  ((d.setMgt { d.mgt with image := none, trialAt := none }).put F.mgtBootStatState state).put F.mgtFwVerVersion 0
    |>.put F.mgtHealthTrial 0

/-- R573, R595: the boot ROM runs. -/
def Chip.boot (c : Chip) (cause : Nat) : Chip :=
  let c0 := c.counted cause
  if c.dev.mgt.otp.gone then c0.on (fun d => d.noImage bootHalted)
  else
    let r0 := (bootRecord c.flash).1
    let failed := r0.state r0.active == slotTrialRun
    let r1 : BootRec := if failed then { r0.setState r0.active slotFailed with active := !r0.active } else r0
    let s := r1.active
    let r2 := if r1.state s = slotTrial then r1.setState s slotTrialRun else r1
    let c1 := if r2 = r0 then c0.on (fun d => d.showSlots r0) else c0.writeRecord r2
    let c2 := c1.on (fun d => d.when failed (fun e => e.raise F.mgtEvtFallback))
    let can (t : Bool) : Bool :=
      (r2.state t == slotValid || r2.state t == slotTrialRun || r2.state t == slotConfirmed) && c2.slotVerifies t
    if can s then c2.startSlot s (r2.state s)
    else if can (!s) then c2.startSlot (!s) (r2.state (!s))
    else c2.on (fun d => (d.noImage bootRecovery).raise F.mgtEvtRecovery)

/-- The hart resumes after a halt; the watchdog goes on from where it stood (R568, R599). -/
def Dev.resumeHart (d : Dev) : Dev :=
  d.when d.mgt.halted (fun e => e.setMgt { e.mgt with halted := false, wdogAt := e.mgt.wdogAt + (e.now - e.mgt.haltAt) })

/-- A firmware command ends (R577). -/
def Dev.fwEnd (d : Dev) (op result : Nat) : Dev :=
  (((d.setMgt { d.mgt with fw := none }).put F.mgtFwStatOp op).put F.mgtFwStatResult result).raise F.mgtEvtFwDone

/-- A firmware command that runs is cut short. -/
def Dev.fwCut (d : Dev) : Dev :=
  match d.mgt.fw with
  | some (op, _) => d.fwEnd op fwAborted
  | none => d

/-- R567: a processor restart. -/
def Chip.restartCpu (c : Chip) (cause : Nat) : Chip :=
  let on (d : Dev) : Dev :=
    let d1 := (((d.abortBurst 1).abortBurst 2).lower F.devBootctlRemap).fwCut
    d1.resumeHart.setMgt { d1.resumeHart.mgt with pmp := [] }
  (c.on on).boot cause

/-- R576: the image that the host has placed starts, if it verifies. -/
def Chip.recover (c : Chip) : Chip :=
  if c.dev.bootState = bootRecovery ∧ !c.dev.mgt.otp.gone ∧ c.imageCheck 0x0400_0000 = fwOk then
    (c.counted causeRecover).startImage (memRead c.mem 0x0400_0000 0x200) 2 0
  else c

/-- A write of `MGT.CTRL` by master `m` (R567, R576, R604). -/
def Chip.ctrlWrite (c : Chip) (m : Nat) (w : W32) : Chip :=
  let c1 := if getF w 0 1 = 1 ∧ m < 2 then c.restartCpu (if m = 0 then causeHost else causeFirmware) else c
  if getF w 1 1 = 1 then c1.recover else c1

/-! Field update (R577 to R580) -/

def stagingBase : Nat := 0xE_0000_0000

/-- A command starts to run. -/
def Dev.fwStart (d : Dev) (op slot : Nat) : Dev :=
  (((d.setMgt { d.mgt with fw := some (op, slot) }).put F.mgtFwStatOp op).put F.mgtFwStatResult fwRunning).put
    F.mgtFwStatProgress 0

/-- The slot that runs. -/
def Dev.runs (d : Dev) (slot : Bool) : Bool :=
  match d.mgt.image with
  | some (n, _) => n == bitOf slot
  | none => false

/-- PROGRAM starts: the slot that is not ACTIVE becomes EMPTY and is erased, unless it runs (R577, R578). -/
def Chip.startProgram (c : Chip) : Chip :=
  let r := (bootRecord c.flash).1
  let slot := !r.active
  if c.dev.runs slot then c.on (fun d => d.fwEnd 2 fwState)
  else
    let c1 := c.writeRecord (r.setState slot slotEmpty)
    { c1 with dev := c1.dev.fwStart 2 (bitOf slot), flash := flashErase c1.flash (imageBase slot) imageSize }

/-- ACTIVATE of a slot. -/
def Chip.activateSlot (c : Chip) (slot : Bool) : Chip :=
  let r := (bootRecord c.flash).1
  if r.state slot ≠ slotValid ∧ r.state slot ≠ slotConfirmed then c.on (fun d => d.fwEnd 3 fwState)
  else if hdrRollback (slotHeader c.flash slot) < c.dev.mgt.otp.rollback then c.on (fun d => d.fwEnd 3 fwRollback)
  else ((c.on (fun d => d.fwEnd 3 fwOk)).writeRecord { r.setState slot slotTrial with active := slot }).restartCpu causeActivate

/-- A firmware command `op` for `slot`, which Haldyn carries out (R577). -/
def Chip.fwCommand (c : Chip) (op : Nat) (slot : Bool) : Chip :=
  if op = 0 ∨ !c.dev.haldyn then c
  else match c.dev.mgt.fw with
    | some (running, _) =>
      if op = 4 ∧ running = 2 then c.on (fun d => d.fwEnd 4 fwOk)
      else c.on (fun d => ((d.put F.mgtFwStatOp op).put F.mgtFwStatResult fwBusy).raise F.mgtEvtFwDone)
    | none =>
      if op = 1 then c.on (fun d => d.fwStart 1 0)
      else if op = 2 ∨ op = 3 then
        if !c.dev.grants .power then c.on (fun d => d.fwEnd op fwPower)
        else if op = 2 then c.startProgram
        else c.activateSlot slot
      else c.on (fun d => d.fwEnd op fwState)

/-- A write of `MGT.FW_CMD`. -/
def Chip.fwWrite (c : Chip) (w : W32) : Chip :=
  (c.on (fun d => d.put F.mgtFwCmdSlot (getF w 3 1))).fwCommand (getF w 0 3) (getF w 3 1 == 1)

/-- R577: the end of STAGE_CHECK. -/
def Chip.stageEnd (c : Chip) : Chip :=
  c.on (fun d => d.fwEnd 1 (if d.hbmAnswers stagingBase then c.imageCheck stagingBase else fwLost))

/-- R578: the end of PROGRAM. -/
def Chip.programEnd (c : Chip) (slot : Bool) : Chip :=
  if !c.dev.hbmAnswers stagingBase then c.on (fun d => d.fwEnd 2 fwLost)
  else if c.imageCheck stagingBase ≠ fwOk then c.on (fun d => d.fwEnd 2 fwFormat)
  else
    let n := hdrBody (memRead c.mem stagingBase 0x200)
    let c1 : Chip := { c with flash := flashWrite c.flash (imageBase slot) (memRead c.mem stagingBase (0x200 + n)) }
    (c1.writeRecord ((bootRecord c1.flash).1.setState slot slotValid)).on (fun d =>
      (d.put F.mgtFwStatProgress 100).fwEnd 2 fwOk)

/-- R579: a trial image reports healthy, and its slot becomes CONFIRMED. -/
def Chip.healthy (c : Chip) : Chip :=
  let c0 := c.on (fun d => d.raise F.mgtHealthOk)
  match c.dev.mgt.trialAt, c.dev.mgt.image with
  | some _, some (n, h) =>
    let c1 := c0.writeRecord ((bootRecord c0.flash).1.setState (n == 1) slotConfirmed)
    (c1.on (fun d => (d.setMgt { d.mgt with trialAt := none }).lower F.mgtHealthTrial)).fusesFor (hdrRollback h)
  | _, _ => c0

/-- A write of `MGT.WDOG` (R568); enabling it starts the count. -/
def Dev.wdogWrite (d : Dev) (w : W32) : Dev :=
  let was := d.on F.mgtWdogEn
  let d1 := d.regWrite Reg.mgtWdog w
  let fresh := getF w 7 1 == 1 || (!was && d1.on F.mgtWdogEn)
  d1.when fresh (fun e => e.setMgt { e.mgt with wdogAt := e.now, haltAt := e.now })

/-- The watchdog's time has passed. -/
def Dev.wdogOver (d : Dev) : Bool :=
  d.on F.mgtWdogEn && !d.mgt.halted && d.modes.inReset == .no
    && decide (d.mgt.wdogAt + d.get F.mgtWdogTimeout * ticksPerSecond ≤ d.now)

/-! Sensors (R582, R583) -/

/-- A temperature of 10 bits as a number of quarters of a degree. -/
def quarters (t : Nat) : Int := if t % 1024 < 512 then (t % 1024 : Nat) else ((t % 1024 : Nat) : Int) - 1024

/-- A die temperature is read, and its extreme follows. -/
def Dev.setTemp (d : Dev) (i t : Nat) : Dev :=
  let d1 := d.put (F.mgtTempTemp.at 4 i) t
  d1.when (decide (quarters (d.get (F.mgtTempMax.at 4 i)) < quarters t)) (fun e => e.put (F.mgtTempMax.at 4 i) t)

/-- R583: a die temperature is read; one that reaches the limit begins the alarm. -/
def Dev.tempSeen (d : Dev) (i t : Nat) : Dev :=
  let hot := decide (quarters (d.get F.mgtTalarmLimit) ≤ quarters t) && !d.on F.mgtTalarmActive
  (d.setTemp i t).when hot (fun e => (e.raise F.mgtTalarmActive).raise F.mgtEvtTalarm)

/-- Every die temperature is 5 °C below the limit (R583). -/
def Dev.cool (d : Dev) : Bool :=
  (List.range 6).all (fun i => decide (quarters (d.get (F.mgtTempTemp.at 4 i)) ≤ quarters (d.get F.mgtTalarmLimit) - 20))

def Dev.setVolt (d : Dev) (i mv : Nat) : Dev :=
  let d1 := d.put (F.mgtVoltMv.at 4 i) mv
  d1.when (decide (mv < d.get (F.mgtVoltMin.at 4 i))) (fun e => e.put (F.mgtVoltMin.at 4 i) mv)

def Dev.setSlack (d : Dev) (i pct : Nat) : Dev :=
  let d1 := d.put (F.mgtSlackPct.at 4 i) pct
  d1.when (decide (pct < d.get (F.mgtSlackMin.at 4 i))) (fun e => e.put (F.mgtSlackMin.at 4 i) pct)

/-- The register of a sensor. -/
def sensorAddr : Sensor → Nat
  | .temp n => Reg.mgtTemp + 4 * n.val
  | .volt n => Reg.mgtVolt + 4 * n.val
  | .slack n => Reg.mgtSlack + 4 * n.val

/-- What a read of the sensor register at `a` changes: its extreme is set to the present value. -/
def Dev.sensorRead (d : Dev) (a : Nat) : Dev :=
  if Reg.mgtTemp ≤ a ∧ a < Reg.mgtTemp + 24 then d.setWord a (putF (d.word a) 16 10 (getF (d.word a) 0 10))
  else if Reg.mgtVolt ≤ a ∧ a < Reg.mgtVolt + 32 then d.setWord a (putF (d.word a) 16 12 (getF (d.word a) 0 12))
  else if Reg.mgtSlack ≤ a ∧ a < Reg.mgtSlack + 48 then d.setWord a (putF (d.word a) 8 8 (getF (d.word a) 0 8))
  else d

end Sys2Proof.Machine
end

