-- ==== Sys2Proof/Machine/SecOps.lean ====
section
/-! DEFINITION. The security engine (R588 to R605), DECOMMISSION's warm reset begins with the next WARM_RESET. -/

namespace Sys2Proof.Machine

/-- The commands and results of `SEC.CMD` (R605). -/
def secGetNonce : Nat := 1
def secUnlock : Nat := 2
def secProvision : Nat := 3
def secLock : Nat := 4
def secDecommission : Nat := 5
def secAttest : Nat := 6
def secExtend : Nat := 7
def secOk : Nat := 0
def secState : Nat := 2
def secSig : Nat := 3
def secArg : Nat := 4
def secPower : Nat := 5

/-- A command ends. -/
def Dev.secEnd (d : Dev) (op result : Nat) : Dev :=
  (((d.put F.secCmdStatOp op).put F.secCmdStatResult result).lower F.secCmdStatBusy).raise F.secEvtCmdDone

/-- Bytes of `SEC.BUF`. -/
def Dev.secBuf (d : Dev) (o n : Nat) : List Byte := d.bytesAt (Reg.secBuf + o) n

def Dev.nonceBytes (d : Dev) : List Byte := (List.range 8).flatMap (fun i => wordBytes (d.word (Reg.secNonce + 4 * i)))

/-- R594: the nonce is spent, or cleared by a reset. -/
def Dev.clearNonce (d : Dev) : Dev :=
  (d.setMgt { d.mgt with nonce := false }).each 8 (fun e i => e.setWord (Reg.secNonce + 4 * i) 0)

/-- R599: the effective debug level follows; a fall resumes a halted hart. -/
def Chip.debugUpdate (c : Chip) : Chip :=
  let old := c.dev.get F.secDbgEff
  let new := c.dev.debugLevel
  if new = old then c
  else
    let c1 := (c.on (fun d => (d.put F.secDbgEff new).raise F.secEvtDbgChg)).log 7 true
    c1.when (decide (new < old)) (fun x => x.on (fun d =>
      d.resumeHart.setMgt { d.resumeHart.mgt with dmiStatus := 0, dmiData := 0 }))

/-- The OTP changes with a lifecycle fuse or key (R587, R591). -/
def Dev.burnLifecycle (d : Dev) (o : Otp) : Dev :=
  ((d.setMgt { d.mgt with otp := o }).raise F.secEvtLcChg).raise F.secEvtFuse

/-- R594: GET_NONCE. -/
def Dev.goNonce (d : Dev) : Dev :=
  let d1 := d.each 8 (fun e i =>
    let x := e.freeWord
    x.2.setWord (Reg.secNonce + 4 * i) x.1)
  (d1.setMgt { d1.mgt with nonce := true }).secEnd secGetNonce secOk

/-- R593, R594: how a token in `SEC.BUF` fares, with the key that signs it; 0 where it is good. -/
def Dev.tokenCheck (d : Dev) (magic : List Byte) (level : Nat → Bool) (key : Option (List Byte)) : Nat :=
  if d.secBuf 0 4 ≠ magic ∨ d.secBuf 4 16 ≠ deviceId ∨ !d.mgt.nonce ∨ d.secBuf 0x14 32 ≠ d.nonceBytes
      ∨ !level (d.byteAt (Reg.secBuf + 0x34)).toNat then secArg
  else match key with
    | some k => if Config.ecdsaVerify k (d.secBuf 0 0x38) (d.secBuf 0x38 64) then secOk else secSig
    | none => secSig

def unlockMagic : List Byte := [0x55, 0x4C, 0x4B, 0x31]
def decommissionMagic : List Byte := [0x44, 0x43, 0x4D, 0x31]

/-- The public key in the running image's header. -/
def Dev.imageKey (d : Dev) (f : List Byte → List Byte) : Option (List Byte) := d.mgt.image.map (fun x => f x.2)

/-- R591, R593: UNLOCK. -/
def Chip.goUnlock (c : Chip) : Chip :=
  let d := c.dev
  let r := if d.lifecycle ≠ lcLocked then secState
    else d.tokenCheck unlockMagic (fun l => l == 1 || l == 2) (d.imageKey hdrCustKey)
  let level := (d.byteAt (Reg.secBuf + 0x34)).toNat
  let c1 := c.on (fun e => (e.clearNonce.secEnd secUnlock r).when (r == secOk) (fun x =>
    (x.setMgt { x.mgt with session := some level }).raise F.secEvtLcChg))
  (c1.log 7 true).debugUpdate

/-- R592: PROVISION. -/
def Chip.goProvision (c : Chip) : Chip :=
  let d := c.dev
  let h := d.secBuf 0 32
  let signed := match d.mgt.image with
    | some (_, hdr) => custSigned hdr h
    | none => false
  let r := if !d.grants .power then secPower
    else if d.lifecycle ≠ lcBlank then secState
    else if signed then secOk else secSig
  let c1 := c.on (fun e => (e.secEnd secProvision r).when (r == secOk) (fun x =>
    x.burnLifecycle { x.mgt.otp with custHash := some h, provisioned := true }))
  let c2 := c1.log 7 true
  (c2.when (r == secOk) (fun x => x.log 7 true)).debugUpdate

/-- R591: LOCK. -/
def Chip.goLock (c : Chip) : Chip :=
  let d := c.dev
  let r := if !d.grants .power then secPower
    else if d.lifecycle ≠ lcProvisioned then secState
    else secOk
  let c1 := c.on (fun e => (e.secEnd secLock r).when (r == secOk) (fun x =>
    x.burnLifecycle { x.mgt.otp with locked := true }))
  let c2 := c1.log 7 true
  (c2.when (r == secOk) (fun x => x.log 7 true)).debugUpdate

/-- R591, R593, R595: how DECOMMISSION fares. -/
def Dev.decommissionResult (d : Dev) : Nat :=
  if !d.grants .power then secPower
  else if d.lifecycle = lcGone then secState
  else d.tokenCheck decommissionMagic (fun l => l == 0)
    (d.imageKey (if d.lifecycle = lcBlank then hdrVendorKey else hdrCustKey))

/-- R595: the fuses of DECOMMISSION. -/
def Chip.goDecommission (c : Chip) : Chip :=
  let r := c.dev.decommissionResult
  let c1 := c.on (fun e => (e.clearNonce.secEnd secDecommission r).when (r == secOk) (fun x =>
    let y := x.burnLifecycle { x.mgt.otp with gone := true, keyBurnt := true }
    { y.setMgt { y.mgt with session := none } with modes := { y.modes with warmRequested := true } }))
  let c2 := c1.log 7 true
  (c2.when (r == secOk) (fun x => x.log 7 true)).debugUpdate

/-- R590: the bytes of the report before its signature, and the device after the free values drawn for them. -/
def Dev.report (d : Dev) : List Byte × Dev :=
  let o := d.mgt.otp
  let fuses := bitOf o.provisioned + bitOf o.locked + bitOf o.gone
  let free (n : Nat) (e : Dev) : List Byte × Dev :=
    (List.range n).foldl (fun (x : List Byte × Dev) _ => let q := x.2.freeByte; (x.1 ++ [q.1], q.2)) ([], e)
  let fw : List Byte × Dev := match d.mgt.image with
    | some (slot, h) => (firmwareHash h ++ bytesOf 4 (hdrVersion h) ++ bytesOf 1 slot, d)
    | none => free 37 d
  let cap := (List.range 10).flatMap (fun i => bytesOf 4 (d.word (Reg.devCapGen + 4 * i)).toNat)
  let l := [0x41, 0x54, 0x54, 0x31] ++ bytesOf 2 0xF8 ++ bytesOf 1 d.lifecycle ++ bytesOf 1 d.debugLevel ++ deviceId
    ++ d.secBuf 0 32 ++ bytesOf 4 Config.romVersion.toNat ++ bytesOf 1 o.rollback ++ bytesOf 1 fuses ++ [0, 0] ++ fw.1
    ++ bytesOf 1 d.shedLevel ++ [0, 0] ++ d.measurement ++ cap ++ bytesOf 8 (if d.rootValid then d.timeBase else 0)
  (l, fw.2)

/-- The device's signature, 64 bytes. -/
def signed (l : List Byte) : List Byte := (Config.deviceSign l ++ List.replicate 64 0).take 64

/-- R590: ATTEST. -/
def Dev.goAttest (d : Dev) : Dev :=
  if d.grants .attest then
    let x := d.report
    (x.2.setBytesAt Reg.secBuf (x.1 ++ signed x.1)).secEnd secAttest secOk
  else d.secEnd secAttest secState

/-- R589: EXTEND. -/
def Chip.goExtend (c : Chip) : Chip := (c.extend (c.dev.secBuf 0 32)).on (fun d => d.secEnd secExtend secOk)

/-- A command of `SEC.CMD` (R605). A reserved value starts none (R13). -/
def Chip.secCommand (c : Chip) (op : Nat) : Chip :=
  match op with
  | 1 => c.on Dev.goNonce
  | 2 => c.goUnlock
  | 3 => c.goProvision
  | 4 => c.goLock
  | 5 => c.goDecommission
  | 6 => c.on Dev.goAttest
  | 7 => c.goExtend
  | _ => c

/-- R599: a write of `SEC.DBG`, which only the host may make. -/
def Chip.dbgWrite (c : Chip) (m : Nat) (w : W32) : Chip × Resp :=
  if m = 0 then ((c.on (fun d => d.regWrite Reg.secDbg w)).debugUpdate, .okay) else (c, .slverr)

/-! The test access port (R596 to R600) -/

/-- The instructions of R596. -/
def tapExtest : List Nat := [0x00, 0x03, 0x04, 0x05, 0x06]
def tapIdcode : Nat := 1
def tapDmi : Nat := 0x11
def tapBypass : Nat := 0x1F

/-- The word that IDCODE reads: version, part and code, with bit 0 set (R596); the version is `DEV.IDENT.SIREV` (R669). -/
def Dev.idcode (d : Dev) : W32 :=
  BitVec.ofNat 32 (getF (d.word Reg.devIdent) 16 4 * 0x1000_0000 + 0x9604 * 0x1000 + 0x51D * 2 + 1)

/-- The instruction that acts (R597): one whose need is not granted selects BYPASS, and in test mode every one but IDCODE (R684). -/
def Dev.tapActs (d : Dev) : Nat :=
  let code := d.mgt.tap.toNat
  if d.mgt.testmode then (if code = tapIdcode then code else tapBypass)
  else if tapExtest.contains code then (if d.grants .extest then code else tapBypass)
  else if code = tapDmi then (if d.grants .observe then code else tapBypass)
  else if code = 1 ∨ code = 2 ∨ code = 0x10 then code
  else tapBypass

end Sys2Proof.Machine
end

