-- ==== Sys2Proof/Machine/Kept.lean ====
section
/-! DEFINITION. What a warm reset keeps of the registers and table words (R323, R374, R411, R567, R586, R627, R638, R658), and the reset
of one page by `REQ` of OFF (R638). -/

namespace Sys2Proof.Machine

/-- A register or table word that a warm reset keeps whole, besides RW fields (R658 and each page's chapter). -/
def keptWarm (a : Nat) : Bool :=
  if isPageAddr a then
    let p := pageOf a
    let o := offOf a
    let within (x y : Nat) : Bool := decide (x ≤ o) && decide (o < y)
    if o < 0x100 then within 0x18 0x1C || within 0x20 0x2C
    else match p with
      | 0 => o == 0x140 || o == 0x150
      | 1 => true
      | 2 => within 0x100 0x110
      | 3 => o == 0x104 || o == 0x118 || o == 0x11C
      | 4 => o == 0x100 || o == 0x128 || o == 0x12C || within 0x200 0x300
      | 5 => within 0x104 0x130
      | 6 => o == 0x104 || within 0x120 0x12C
      | 7 => within 0x140 0x160
      | 9 => o == 0x104 || o == 0x128
      | 0xA => o == 0x13C || o == 0x144 || within 0x1000 0x2000
      | 0xB => o != 0x140
      | 0xC => o == 0x118 || o == 0x11C
      | 0xD => o == 0x130
      | 0xE => o != 0x140
      | 0xF => o != 0x100
      | _ => decide (0x10 ≤ p) && within 0x830 0x850
  else decide (0x1840_0000 ≤ a) && decide (a < 0x1850_0000)

/-- The bits of the word at `a` that a warm reset keeps. `MODE_REQ` and `REMAP` go (R567, R627). -/
def warmMask (a : Nat) : W32 :=
  if keptWarm a then 0xFFFF_FFFF
  else if a = Reg.devModeReq ∨ a = Reg.devBootctl then 0
  else if isPageAddr a ∧ offOf a = Reg.hdrCap then 4
  else if isPageAddr a ∧ offOf a = Reg.hdrSkew then 0xFFFF_0000
  else if a = Reg.mateStat then putF 7 16 3 0
  else rwMask a

/-- R638: the word at `a` after a warm reset. -/
def warmWord (a : Nat) (w : W32) : W32 := (w &&& warmMask a) ||| (resetWord a &&& ~~~warmMask a)

/-- R638: the words of page `p` beyond its header after a reset of its instance: status and events go as in a warm reset. -/
def Dev.resetPage (d : Dev) (p : Nat) : Dev :=
  { d with words := d.words.foldl (fun (t : Store W32) x =>
      Store.set resetWord t x.1 (if isPageAddr x.1 ∧ pageOf x.1 = p ∧ 0x100 ≤ offOf x.1 then warmWord x.1 x.2 else x.2)) [] }

end Sys2Proof.Machine
end

