-- ==== Sys2Proof/Machine/LaneEvents.lean ====
section
/-! DEFINITION. The events of a lane that reach every unit that works on it: restart of its receive state (R60), loss of
CDR lock (R133), elastic store slips (R63, R135, R251), and LOS (R380). -/

namespace Sys2Proof.Machine

/-- Every interpreter of lane `n` starts or stops as the lane's present structure requires, and `CFG_ERR` follows (R186, R236). -/
def Dev.settleLane (d : Dev) (n : Nat) : Dev :=
  let ho := (List.range 192).map (fun i => 192 * n + i)
  let lo := (d.paths.map (fun x => x.1)).filter (fun k => decide (18432 ≤ k) && laneOf k == n)
  (List.range 64).foldl (fun e g => e.showCfgErr (64 * n + g)) ((ho ++ lo).foldl (fun e k => e.settlePoint false k) d)

/-- What the section overhead and the Tustra Engine hold of a lane's receive restarts (R133, R164, R184, R249, R272). -/
def Dev.receiveRestart (d : Dev) (n : Nat) : Dev :=
  let l := d.lane n
  let s := l.soh.hold
  let d1 := d.setLane n { l with es := [], soh := { s with exc := 0, noExc := 0, reiPending := 0 },
                                 tu := { txChosen := l.tu.txChosen, txBank := l.tu.txBank, txLayout := l.tu.txLayout, pkt := l.tu.pkt, sent := l.tu.sent,
                                         upSince := l.tu.upSince, release := l.tu.release } }
  let d2 := ((((((d1.rewindOwn n).cutPackets n).put (F.laneSohRxfrmFrm.lane n) 0).put (F.laneSohTxfrmFrm.lane n) 0).lower
    (F.laneSohKrxValid.lane n)).lower (F.laneSohKrxK2lValid.lane n)).lower (F.laneSohStatKValid.lane n)
  let d3 := [Reg.laneTuPeff, Reg.laneTuAnn, Reg.laneTuRxseq, Reg.laneTuCrrx0, Reg.laneTuCrrx1].foldl
    (fun e o => e.setWord (laneAddr n o) 0) d2
  let d4 := ((d3.setWord (laneAddr n Reg.laneTuStat) 0).setDefect n defSeq false).setDefect n defRd false
  ((d4.put (F.laneSdsStatEsFill.lane n) 9).lower (F.lanePrbsChkSync.lane n)).protSee

/-- R60, R133, R421: the lane's receive state restarts with `LANE.CFG` as written. LOFT takes its value without an event. -/
def Dev.restartLane (d : Dev) (n : Nat) : Dev :=
  let d1 := d.setLane n { d.lane n with cfg := d.word (laneAddr n Reg.laneCfg) }
  let loft := bitOf (!(d1.lane n).isLine)
  let d2 := ((d1.put (F.laneSvStatLoft.lane n) loft).put (defField n defLoft) loft).when
    (!(d1.lane n).isLine) (fun e => e.setLof n false)
  let mate := d2.mate
  let d3 := (((if n < 96 then d2 else { d2 with mate := { mate with excluded := mate.excluded.filter (fun x => x != n - 96) } })
    |>.receiveRestart n).huntAgain n)
  if n < 96 then d3.settleLane n else d3

/-- R133, R78: the receive CDR loses lock. -/
def execCdrLossOfLock (lane : Lane) (s : State) : Out :=
  let n := lane.val
  .next { s with dev := s.dev.when (s.dev.on (F.laneSdsStatCdrLock.lane n) && !s.dev.nearLoop n) (fun d =>
    (((d.lower (F.laneSdsStatCdrLock.lane n)).setLane n { d.lane n with cdrSince := none, cdrLost := true }).squelchLane
      n).huntAgain n) }

/-- R63, R135, R211, R251: an elastic store slip repeats or drops one row, which is 64/128 of two rows. At a repeat the store gives its last
row once more; a row that is dropped is never given. -/
def Dev.slip (d0 : Dev) (n : Nat) (drop : Bool) : Dev :=
  let es := (d0.lane n).es
  let d := if drop then d0 else d0.esGives n (es.drop (es.length - d0.rowBytes n))
  let l := d.lane n
  let d1 := (d.roll (F.laneEsSlipSlip.lane n) 1).put (F.laneSdsStatEsFill.lane n) 64
  if l.isLine then
    let row : Int := 270 * stmN l.rate
    let d2 := d1.applySieve n (l.sieve.shift l.sieve.bg (lineFrameLen l.rate) (if drop then -row else row))
    ((d.paths.map (fun x => x.1)).filter (fun k => laneOf k == n && !(isHo k && d.structured (hoOf k)))).foldl Dev.rechoose d2
  else (d1.count 0 n 3 1).tuSlip n drop

/-- R63: the fill follows the far end: at zero the store repeats a row, and at two rows it drops one. -/
def execElasticStoreSlip (lane : Lane) (fill : BitVec 8) (s : State) : Out :=
  let n := lane.val
  .next { s with dev :=
    if fill.toNat = 0 then s.dev.slip n false
    else if 128 ≤ fill.toNat then s.dev.slip n true
    else s.dev.put (F.laneSdsStatEsFill.lane n) fill.toNat }

/-- R380: LOS after 20 µs without a signal or without a transition; `sigDet` is the signal detector's level. -/
def execLosDeclare (lane : Lane) (silentNs : Nat) (sigDet : Bool) (s : State) : Out :=
  let n := lane.val
  let ok := decide (20000 ≤ silentNs) && !s.dev.defect n defLos && !s.dev.nearLoop n
  .next { s with dev := s.dev.when ok (fun d =>
    let l := d.lane n
    let own := l.soh.hold
    let d1 := (d.put (F.laneSdsStatSigDet.lane n) (bitOf sigDet)).setLane n
      { l with soh := { own with b1Own := l.soh.b1Own, b2Own := l.soh.b2Own } }
    let d2 := d1.setDefect n defLos true
    (if l.isLine then d2.b2Pause n else d2).laneUpdate n) }

/-- R380: LOS clears after 125 µs with a signal and transitions. -/
def execLosClear (lane : Lane) (activeNs : Nat) (s : State) : Out :=
  let n := lane.val
  let ok := decide (125000 ≤ activeNs) && s.dev.defect n defLos
  .next { s with dev := s.dev.when ok (fun d =>
    ((d.raise (F.laneSdsStatSigDet.lane n)).setDefect n defLos false).laneUpdate n) }

end Sys2Proof.Machine
end

