-- ==== Sys2Proof/Machine/UnitDown.lean ====
section
/-! DEFINITION. The reset of one instance, when its `REQ` is OFF (R638, its last column): its live engines restart; its configuration
stays. And `REQ` itself (R661 to R664). -/

namespace Sys2Proof.Machine

/-- R374: queues and banks are emptied without counting drops, open packets and those in the packers included, and LCAS and delineation
restart. -/
def Dev.flowReset (d : Dev) : Dev :=
  let empty (l : LaneSt) : LaneSt :=
    let s := l.tu.sent
    let sent : TuSent := { s with packets := [], plan := s.plan.filter (s.begun (blocksPerFrame l.rate) d.now) }
    { l with tu := { l.tu with pkt := none, sent := sent } }
  let lanes := Store.remap LaneSt.atReset empty d.lanes
  let d1 : Dev := { d with psq := {}, flows := [], groups := [], members := [], lanes := lanes }
  let d2 := (d1.put F.psqCountL2fBytes 0).put F.psqCountF2lBytes 0
  let d3 := d2.contexts.foldl (fun (e : Dev) f => (e.put (F.ctxStL2f.at 16 f) 0).put (F.ctxStF2l.at 16 f) 0) d2
  let d4 := d3.enabledMembers.foldl Dev.startMember d3
  d4.groupsOn.foldl Dev.gfpRestart d4

/-- Protection restarts: decisions that wait for their edge fall away, and those of the conditions found then take their place; the stored
commands, `SEL` and K1 and K2 stay, and so do the writes that wait for the edge (R430, R443). -/
def Dev.protReset (d : Dev) : Dev :=
  let again (p : ProtSt) : ProtSt := { p.afresh with selected := p.applied, k1 := p.sentK1, k2 := p.sentK2 }
  { d with msp := Store.remap (fun _ => {}) again d.msp, snc := Store.remap (fun _ => {}) again d.snc, applies := [] }

/-- The lane's transmit side, and what its receive restart leaves, as after a reset; the applied messages stay (R696), and a LOF timer
that runs goes on (R133). The generator begins again. Packets that the lane has still to end go back to their queues (R370), and its open
packet is rewound (R261). -/
def Dev.laneReset (d0 : Dev) (n : Nat) : Dev :=
  let d := (d0.cutPackets n).rewindOwn n
  let l := d.lane n
  let soh : Soh := { expected := l.soh.expected, sending := l.soh.sending, txMode := l.soh.txMode }
  let sv : Sieve := { cfg := l.sieve.cfg }
  (((d.setLane n { cfg := l.cfg, sieve := sv, soh := soh, oofSince := l.oofSince, ctle := l.ctle }).restartLane n).when
    (d.on (F.lanePrbsGenEn.lane n)) (fun e => e.prbsStart n true)).when (d.lanes != d0.lanes || !l.tu.sent.packets.isEmpty) Dev.psqNote

/-- The path points of lane `n` start again, with the configuration in force (R638). -/
def Dev.pathsReset (d : Dev) (n : Nat) : Dev :=
  let keys := (d.paths.map (fun x => x.1)).filter (fun k => laneOf k == n)
  let d1 := keys.foldl (fun (e : Dev) k => e.setPath k { cfg := (e.path k).cfg, trc := (e.path k).trc }) d
  keys.foldl (fun (e : Dev) k => e.settlePoint false k) d1

/-- The instance of page `p` is reset, its registers as in `resetPage`. -/
def Dev.unitReset (d0 : Dev) (p : Nat) : Dev :=
  let d := d0.resetPage p
  if p = 0xB then (d.abortBurst 4).groomReset
  else if p = 0xC then d.flowReset
  else if p = 0xE then { ((d.abortBurst 3).abortBurst 5).loseTags with est := [], estAcc := [] }
  else if p = 0xF then (d.when (d.role == roleActive) Dev.mateSafe).protReset
  else if 0x10 ≤ p then (d.laneReset (p - 0x10)).pathsReset (p - 0x10)
  else d

/-- R78: a recovered-clock output whose lane reads as absent is held low. -/
def Dev.lrcAbsent (d : Dev) : Dev :=
  d.each 4 (fun e i => e.when (!e.present (lanePage (e.timing.lrc.getD i 0))) (fun x => x.squelchLrc i))

/-- The instances that have left service are reset, and the recovered clocks of absent lanes stop. -/
def Dev.unitsDown (d : Dev) : Dev :=
  (d.modes.offDue.foldl Dev.unitReset { d with modes := { d.modes with offDue := [] } }).lrcAbsent

/-- `REQ` of page `p` is RO (R661). -/
def fixedReq (p : Nat) : Bool := stage0Page p

/-- An instance may be brought up alone (R635): bring-up has passed its stage. -/
def Dev.mayBringUp (d : Dev) (p : Nat) : Bool :=
  d.mode != modeBoot && d.mode != modeSafehold && decide (pageStage p ≤ d.modes.stageDone)

/-- A write of `REQ` of page `p` (R635, R661 to R664). OFF ends a commit of a Groomer that has not been brought up at once (R323). -/
def Dev.writeReq (d : Dev) (p : Nat) (data : W32) : Dev :=
  if fixedReq p then d
  else
    let d1 := d.regWrite (pageAddr p Reg.hdrReq) data
    let d2 := d1.skewRestart p
    let d2 := d2.when (p == 0xB && !d.isUp p && d.get (F.hdrReqState.page p) != 0 && d2.get (F.hdrReqState.page p) == 0) Dev.groomReset
    let d3 := if d2.mayBringUp p && d2.wanted p then (d2.putAll (d2.bitsUp p)).capCommit d else d2
    (d3.settle false).unitsDown

end Sys2Proof.Machine
end

