-- ==== Sys2Proof/Machine/Timing.lean ====
section
/-! DEFINITION. The commands of the Timing Unit (R72 to R87, R694) and of the recovered-clock outputs (R78, R79). -/

namespace Sys2Proof.Machine

/-- R81: an input without an edge for 64 ns is declared dead. -/
def execDeadClockDeclaration (r : Ref) (silentNs : Nat) (s : State) : Out :=
  .next { s with dev := s.dev.when (decide (64 ≤ silentNs)) (fun d => (d.refDead r).unitsDown) }

/-- R81: the loop's phase error exceeds two periods of the selected reference. -/
def execPhaseErrorFailure (error : Nat) (s : State) : Out :=
  .next { s with dev := s.dev.when (decide (200 < error)) (fun d =>
    match d.timing.loop with
    | .locked r => (d.refDead r).unitsDown
    | _ => d) }

/-- R72: an input is qualified after 10 ms of edges, within 50 ppm of a reference that is locked. -/
def execReferenceQualified (r : Ref) (edgesNs : Nat) (ppm : Int) (s : State) : Out :=
  let near := match s.dev.timing.loop with
    | .locked x => x == r || decide (-50 ≤ ppm ∧ ppm ≤ 50)
    | _ => true
  let ok := decide (10000000 ≤ edgesNs) && near && (s.dev.timing.ok r).isNone && s.dev.modes.inReset != .cold
  .next { s with dev := s.dev.when ok (fun d => (d.setOk r (some d.now)).reselect) }

/-- R82, R83, R694: the loop locks to the input that a transition hold goes to. -/
def execTransitionHoldComplete (s : State) : Out :=
  .next { s with dev := match s.dev.timing.loop with
    | .hold r => (((s.dev.lockTo r).bump F.clkStatusSwitches 1).raise (clkEvent 0)).reselect
    | _ => s.dev }

/-- R83: AUTO_A returns to A once A has been qualified for REVERT seconds. -/
def execRevertToA (s : State) : Out :=
  let since := match s.dev.timing.okA with
    | some t => decide (t + s.dev.timing.revert * ticksPerSecond ≤ s.dev.now)
    | none => false
  let ok := s.dev.timing.loop == .locked .b && s.dev.timing.mode == selAutoA && since
  .next { s with dev := s.dev.when ok (fun d => d.holdTo .a) }

/-- R73, R77: the first lock after a cold reset. The root is valid, and the time base and the frame phase start. The loop locks to the input
that it acquires though `MODE` has excluded it since (R694; DESIGN CHOICE, notes/assumptions/179). -/
def execFirstLock (s : State) : Out :=
  .next { s with dev := match s.dev.timing.loop with
    | .acquiring r =>
      let d := (((s.dev.lockTo r).raise F.clkStatusRootValid).raise (clkEvent 5))
      ((d.setTiming { d.timing with firstLock := some d.now, edges := 0, seqBase := 1 }).settle false).unitsDown
    | _ => s.dev }

/-- R87, R630: pull-in from the floor reaches lock and ends COAST or the reference cause of SAFEHOLD. -/
def execPullInLock (s : State) : Out :=
  .next { s with dev := match s.dev.timing.loop with
    | .pullIn r =>
      let d := ((((s.dev.lockTo r).raise F.clkStatusRootValid).raise (clkEvent 5)).lower F.clkCoastActive).lower
        F.clkStatusSafehold
      (((d.when (d.mode == modeCoast) (fun e => (e.setMode modeService).settle true)).endSafehold).reselect).unitsDown
    | _ => s.dev }

/-- R85, R91: the last value written to `CLK.REFSEL` is in force. -/
def Dev.applyRefsel (d : Dev) : Dev :=
  (d.setTiming { d.timing with sel := d.word Reg.clkRefsel, selPending := false }).reselect

/-- A transition hold or a pull-in is in progress (R85). -/
def Timing.moving (t : Timing) : Bool :=
  match t.loop with
  | .hold _ => true
  | .pullIn _ => true
  | _ => false

/-- The word that a write of `CLK.REFSEL` leaves: REVERT 0 reads back as 1. -/
def refselWord (data : W32) : W32 :=
  let w := data &&& 0x1F0F
  if getF w 8 5 = 0 then putF w 8 5 1 else w

/-- R85, R694: a write of `CLK.REFSEL`; during a hold or a pull-in it waits. -/
def Dev.writeRefsel (d : Dev) (data : W32) : Dev :=
  let d1 := d.setWord Reg.clkRefsel (refselWord data)
  if d.timing.moving then d1.setTiming { d1.timing with selPending := true } else d1.applyRefsel

/-- R85, R694. -/
def execRefselWrite (m : Master) (data : W32) (s : State) : Out :=
  .next { s with dev := s.dev.write m Reg.clkRefsel (fun d => okay (d.writeRefsel data)) }

/-- R85: a waiting `CLK.REFSEL` write takes effect when the hold or pull-in has completed. -/
def execRefselApply (s : State) : Out :=
  .next { s with dev := s.dev.when (s.dev.timing.selPending && !s.dev.timing.moving) Dev.applyRefsel }

/-- R78: the output resumes when its lane's CDR has been locked for 10 ms. -/
def execLrcResume (n : Fin 4) (s : State) : Out :=
  let l := s.dev.timing.lrc.getD n.val 0
  let since := match (s.dev.lane l).cdrSince with
    | some t => decide (t + 10 * ticksPerMs ≤ s.dev.now)
    | none => false
  let ok := s.dev.on (F.clkLrcEn.at 4 n.val) && s.dev.present (lanePage l) && s.dev.mode != modeBoot && since
  .next { s with dev := s.dev.when ok (fun d => d.lower (F.clkLrcSquelched.at 4 n.val)) }

/-- R79: the output carries the lane that `CLK.LRCn.LANE` names; a lane without CDR lock holds it low (R78). -/
def execLrcLaneChange (n : Fin 4) (s : State) : Out :=
  let l := s.dev.get (F.clkLrcLane.at 4 n.val)
  let d := s.dev.setTiming { s.dev.timing with lrc := s.dev.timing.lrc.set n.val l }
  .next { s with dev := d.when ((d.lane l).cdrSince.isNone || !d.present (lanePage l)) (fun e => e.squelchLrc n.val) }

end Sys2Proof.Machine
end

