-- ==== Sys2Proof/Machine/Tustra.lean ====
section
/-! DEFINITION. The commands of the Tustra Engine and of the Strainer (R238 to R283), and loss of block and of GFP
alignment (R121, R130). -/

namespace Sys2Proof.Machine

/-- R243: a block in the alignment of a slot of a Tustra lane; a block has 270 bytes. -/
def execTustraBlock (lane : Lane) (slot : Fin 8) (bytes : List Byte) (s : State) : Out :=
  let ok := !(s.dev.lane lane.val).isLine && decide (bytes.length = 270) && s.dev.hears lane.val bytes
  .next { s with dev := s.dev.when ok (fun d =>
    (d.when ((d.lane lane.val).sieve.slot slot.val).leads (fun e => e.esGives lane.val bytes)).tuBlock lane.val slot.val bytes) }

/-- R121: the ACTIVE declares LOB at the `ALPHA`th consecutive header that fails HCS. -/
def execLob (lane : Lane) (s : State) : Out :=
  let n := lane.val
  let v := (s.dev.lane n).sieve
  let ok := !(s.dev.lane n).isLine && decide (v.alpha ≤ v.errors) && decide (1 ≤ v.errors)
  .next { s with dev := s.dev.when ok (fun d =>
    (((d.roll (F.laneSvLossCount.lane n) 1).count 0 n 5 1).setOof n true).applySieve n
      (((d.roll (F.laneSvLossCount.lane n) 1).lane n).sieve.lose v.delta)) }

/-- R130: the ACTIVE of a GFP stream leaves SYNC at the `ALPHA`th consecutive uncorrectable core header. Where an ALT takes over, LFD is
reported until its first mark (R109; DESIGN CHOICE, notes/assumptions/143). -/
def execGfpSyncLoss (g : GroupId) (s : State) : Out :=
  let v := s.dev.gfpSieve g.val
  let ok := decide (v.gfpAlpha ≤ v.errors) && decide (1 ≤ v.errors)
  .next { s with dev := s.dev.when ok (fun d =>
    (((d.roll (F.grpStSyncLoss.at 64 g.val) 1).count 4 g.val 3 1).gfpLost g.val).applyGfp g.val (v.lose v.gfpDelta)) }

/-- R123: the frame start is lost after FS errors in 3 consecutive frames. -/
def execFrameStartLoss (lane : Lane) (s : State) : Out :=
  let n := lane.val
  let t := s.dev.tu n
  let ok := !(s.dev.lane n).isLine && s.dev.inFrame n && decide (3 ≤ t.fsErrFrames + bitOf t.fsErr)
  .next { s with dev := s.dev.when ok (fun d => d.setSv n svBlock) }

/-- SEQ or remote defect changes (R250, R252). -/
def Dev.setTuDefect (d : Dev) (n bit : Nat) (stat evt : Field) (v : Bool) : Dev :=
  (((d.put (stat.lane n) (bitOf v)).setDefect n bit v).raise (evt.lane n)).laneUpdate n

/-- R250: SEQ after one frame with |d| > 2^20, or the third consecutive frame out of order. -/
def execSeqDeclare (lane : Lane) (s : State) : Out :=
  let n := lane.val
  let t := s.dev.tu n
  let ok := !s.dev.defect n defSeq && (t.far || decide (3 ≤ t.seqBad)) && !(s.dev.lane n).isLine
  .next { s with dev := s.dev.when ok (fun d => d.setTuDefect n defSeq F.laneTuStatSeq F.laneTuEvtSeqChg true) }

/-- R250: SEQ clears after 8 consecutive frames in order. -/
def execSeqClear (lane : Lane) (s : State) : Out :=
  let n := lane.val
  let ok := s.dev.defect n defSeq && decide (8 ≤ (s.dev.tu n).seqOk) && !(s.dev.lane n).isLine
  .next { s with dev := s.dev.when ok (fun d => d.setTuDefect n defSeq F.laneTuStatSeq F.laneTuEvtSeqChg false) }

/-- R252: remote defect after 3 consecutive frames with RD = 1. -/
def execRemoteDefectDeclare (lane : Lane) (s : State) : Out :=
  let n := lane.val
  let ok := !s.dev.defect n defRd && decide (3 ≤ (s.dev.tu n).rd) && !(s.dev.lane n).isLine
  .next { s with dev := s.dev.when ok (fun d => d.setTuDefect n defRd F.laneTuStatRd F.laneTuEvtRdChg true) }

/-- R252: remote defect clears after 3 consecutive frames with RD = 0. -/
def execRemoteDefectClear (lane : Lane) (s : State) : Out :=
  let n := lane.val
  let ok := s.dev.defect n defRd && decide (3 ≤ (s.dev.tu n).noRd) && !(s.dev.lane n).isLine
  .next { s with dev := s.dev.when ok (fun d => d.setTuDefect n defRd F.laneTuStatRd F.laneTuEvtRdChg false) }

/-- R269, R270: an announcement in the frame of a RADIO lane; one whose block 2 failed HCS is none, and one with ANN = 0
is an echo. -/
def execCapacityAnnouncement (lane : PortLane) (ok2 ok3 : Bool) (arg2 arg3 : BitVec 16) (s : State) : Out :=
  let n := lane.val
  let ok := (s.dev.lane n).type == 1 && s.dev.inFrame n && ok2 && arg2.getLsbD 15
  .next { s with dev := s.dev.when ok (fun d => d.announce n ok3 arg2.toNat arg3.toNat) }

/-- R271: the pending capacity takes effect at the start of its frame. -/
def execCapacityChange (lane : PortLane) (s : State) : Out :=
  .next { s with dev := s.dev.when (s.dev.capDue lane.val) (fun d => d.capApply lane.val) }

/-- R277: a partner that a merge pair may have. -/
def Dev.partnerOk (d : Dev) (p t : Nat) : Bool :=
  decide (p < t) && decide (t < 96) && d.isSystem p && d.isSystem t && (d.lane p).rate == (d.lane t).rate
    && d.augs p == d.augs t
    && (d.pairOf t == none || d.pairOf t == some p) && (d.pairOf p == none || d.pairOf p == some p)

/-- R277, R281: the pair of primary `p` is set anew, or ends, and each lane is on its own again (R283). -/
def Dev.pairReset (d : Dev) (p : Nat) : Dev :=
  let st := if d.on (F.laneTuStrEn.lane p) then strDown else strOff
  let d1 := ((d.copyReset p).copyReset (d.get (F.laneTuStrPartner.lane p))).put (F.laneTuStrstatState.lane p) st
  ((d1.lower (F.laneTuStrstatSkewP.lane p)).lower (F.laneTuStrstatSkewS.lane p)).when (st == strDown) (fun e => e.strUpdate p)
    |>.when (st == strOff) (fun e => (e.laneUpdate p).laneUpdate (d.get (F.laneTuStrPartner.lane p)))

/-- R277, R281: a write of `LANE.TU_STR`; one that names no valid partner leaves `EN` at 0. `DELAY` 0 reads back as 1 and 9 to 15
as 8. -/
def Dev.writeTuStr (d : Dev) (p : Nat) (data : W32) : Dev × Resp :=
  let en := F.laneTuStrEn.lane p
  let was := d.on en
  if getF data 0 1 = 1 ∧ !d.partnerOk p (getF data 1 7) then
    (d.when was (fun e => (e.lower en).pairReset p), .slverr)
  else
    let d1 := d.regWrite (laneAddr p Reg.laneTuStr) data
    if was && getF data 0 1 == 1 && getF data 1 7 == d.get (F.laneTuStrPartner.lane p) then okay d1
    else if !was && getF data 0 1 == 0 then okay d1
    else okay (((d.when was (fun e => (e.lower en).pairReset p)).regWrite (laneAddr p Reg.laneTuStr) data).when
      (getF data 0 1 == 1) (fun e => e.pairReset p))

/-- R277 -/
def execTuStrWrite (m : Master) (lane : PortLane) (data : W32) (s : State) : Out :=
  .next { s with dev := s.dev.write m (laneAddr lane.val Reg.laneTuStr) (fun d => d.writeTuStr lane.val data) }

/-- R278: 8 frames in a row with a late block have made a copy of the merge pair of `lane` skewed, or 8 without one have ended it. -/
def execCopySkewed (lane : PortLane) (secondary skewed : Bool) (s : State) : Out :=
  let p := lane.val
  .next { s with dev := s.dev.when (s.dev.on (F.laneTuStrEn.lane p) && s.dev.isSystem p) (fun d =>
    let t := d.tu (if secondary then d.get (F.laneTuStrPartner.lane p) else p)
    let f := (if secondary then F.laneTuStrstatSkewS else F.laneTuStrstatSkewP).lane p
    if skewed then d.when (t.lateRun == 8) (fun e => (e.raise f).strUpdate p)
    else d.when (t.goodRun == 8) (fun e => (e.lower f).strUpdate p)) }

/-- Block `b` of frame `r` of a copy, where it has arrived complete by the release time `at_` and is not the one whose place it takes
(R279, R280). -/
def Dev.copyPart (d : Dev) (n : Nat) (r : Release) (at_ : Nat) (other : Bool) : Option CopyBlk :=
  match d.copyAt n r.seq with
  | some f =>
    let l := if f.seq = r.seq ∨ (other && farApart f.seq r.seq) then f.blocks else if f.oldSeq = r.seq then f.old else []
    l.find? (fun x => x.block == r.next && decide (x.arrived ≤ at_) && decide (at_ < x.arrived + 8 * ticksPerFrame))
  | none => none

/-- How a block was released: from a copy that passed, in place of a failed one, or failed. -/
inductive Released where
  | own | second | bad
deriving DecidableEq, Repr

/-- R280, R281: the block that a merge pair in state `st` releases; `first` says that the primary's copy is the usable one of a SINGLE. -/
def releaseChoice (st : Nat) (first : Bool) (p q : Option CopyBlk) : Option CopyBlk × Released :=
  let passed (x : Option CopyBlk) : Bool := x.any (fun y => y.hdr.ok)
  if st = strMerge then
    if passed p then (p, .own) else if passed q then (q, .second) else (p, .bad)
  else if st = strEpoch ∨ first then (p, if passed p then .own else .bad)
  else (q, if passed q then .second else .bad)

/-- A copy whose block has not come in time: its frame counts once (R280). -/
def Dev.countLate (d : Dev) (p n : Nat) (begins missing : Bool) : Dev :=
  let t := d.tu n
  let counted := t.missed && !begins
  (d.setTu n { t with missed := counted || missing }).when (missing && !counted) (fun e => e.roll (F.laneTuStrlateCount.lane p) 1)

/-- R279, R280, R282: the next block of the merge pair with primary `p` is released. Where the copy in use numbers its frames far otherwise, its
numbers are followed from the start of a frame. -/
def Dev.releaseNext (d : Dev) (p : Nat) (r0 : Release) : Dev :=
  let st := d.get (F.laneTuStrstatState.lane p)
  let q := d.get (F.laneTuStrPartner.lane p)
  let first := d.copyUsable p (d.on (F.laneTuStrstatSkewP.lane p))
  let used := if st = strSingle ∧ !first then q else p
  let fresh (f : CopyFrame) : Bool := f.blocks.any (fun x => decide (r0.point < x.arrived + 8 * ticksPerFrame))
  let r : Release := match (if r0.next = 0 ∧ st ≠ strMerge then d.copyAt used r0.seq else none) with
    | some f => if farApart f.seq r0.seq && fresh f then { r0 with seq := f.seq } else r0
    | none => r0
  let at_ := r.point + r.next * d.blockTicks p
  let a := d.copyPart p r at_ (st != strMerge)
  let c := d.copyPart q r at_ (st != strMerge)
  let x := releaseChoice st first a c
  let late (n : Nat) (y : Option CopyBlk) (e : Dev) : Dev := e.countLate p n (r.next == 0) (y.isNone &&
    (d.inFrame n || (d.copyAt n r.seq).any (fun f => f.seq == r.seq)))
  let d1 := late q c (late p a d)
  let d2 := match x.2 with
    | .own => d1
    | .second => (d1.roll (F.laneTuStrsecCount.lane p) 1).count 0 p 7 1
    | .bad => d1.roll (F.laneTuStrbadCount.lane p) 1
  let next : Release := if r.next + 1 < blocksPerFrame (d.lane p).rate then { r with next := r.next + 1 }
    else { seq := (r.seq + 1) % 2 ^ 32, point := r.point + ticksPerFrame }
  let hdr : TuHdr := match x.1 with
    | some y => y.hdr
    | none => .failed
  let before := if r.next = 0 then [] else (d2.tu p).mergedOther
  let d3 := d2.setTu p { d2.tu p with release := some next,
                                      mergedOther := if hdr.ok && hdr.type != 0 then r.next :: before else before }
  (d3.tuContent p r.next hdr (match x.1 with
    | some y => y.load
    | none => [])).when (next.next == 0) (fun e => e.noteReplaced p (e.tu p).mergedOther)

/-- R280: the release time of block `block` of frame `seq`, whose release point is `point`, has come, and a copy is usable. -/
def execStrainerRelease (lane : PortLane) (seq point block : Nat) (s : State) : Out :=
  let p := lane.val
  .next { s with dev :=
    match (s.dev.tu p).release with
    | some r => s.dev.when (r == { seq := seq, point := point, next := block } && s.dev.isSystem p && s.dev.on (F.laneTuStrEn.lane p) && decide (2 ≤ s.dev.get (F.laneTuStrstatState.lane p))
        && decide (r.point + r.next * s.dev.blockTicks p ≤ s.dev.now)) (fun d => d.releaseNext p r)
    | none => s.dev }

end Sys2Proof.Machine
end

