-- ==== Sys2Proof/Machine/Flags.lean ====
section
/-! DEFINITION. The tiers of events (R560, R566, R666, R667): a page's event registers and their masks, its `STICKY` summary, the
DEV summary and `ATTN_N`. -/

namespace Sys2Proof.Machine

/-- The event registers of page `p`, with their masks (R666). -/
def eventRegs (p : Nat) : List (Nat × Nat) :=
  if 0x10 ≤ p then
    [(Reg.laneDefEvt, Reg.laneDefMask), (Reg.laneTuEvt, Reg.laneTuEvtMask)]
      ++ (if p < 0x70 then [(Reg.laneSohEvt, Reg.laneSohEvtMask), (Reg.lanePsEvt, Reg.lanePsEvtMask)] else [])
  else match p with
    | 2 => [(0x130, 0x134)]
    | 3 => [(0x120, 0x124)]
    | 4 => [(0x120, 0x124)]
    | 5 => [(0x130, 0x134)]
    | 6 => [(0x130, 0x134)]
    | 7 => [(0x160, 0x164)]
    | 8 => [(0x114, 0x118)]
    | 9 => [(0x120, 0x124)]
    | 0xA => [(0x110, 0x114)]
    | 0xB => [(0x140, 0x144)]
    | 0xC => [(0x100, 0x104)]
    | 0xE => [(0x140, 0x144)]
    | 0xF => [(0x100, 0x104)]
    | _ => []

/-- R666: `STICKY.EVT_SUM`. -/
def Dev.eventSum (d : Dev) (p : Nat) : Bool :=
  (eventRegs p).any (fun r => d.word (pageAddr p r.1) &&& d.word (pageAddr p r.2) != 0)

/-- `STICKY` of page `p` as it is read. -/
def Dev.sticky (d : Dev) (p : Nat) : W32 := putF (d.word (pageAddr p Reg.hdrSticky)) 16 1 (bitOf (d.eventSum p))

/-- R667: page `p` contributes. -/
def Dev.contributes (d : Dev) (p : Nat) : Bool := d.sticky p &&& d.word (pageAddr p Reg.hdrMask) != 0

/-- `DEV.SUMw` (R667). -/
def Dev.sumWord (d : Dev) (w : Nat) : W32 :=
  BitVec.ofNat 32 ((List.range 32).foldl (fun a i =>
    a + bitOf (decide (32 * w + i < 120) && d.contributes (32 * w + i)) * 2 ^ i) 0)

def Dev.anyEvent (d : Dev) : Bool := (List.range 120).any d.contributes

/-- `ATTN_N` is driven low (R560). -/
def Dev.attn (d : Dev) : Bool := d.modes.inReset == .no && d.on F.hcpCfgAttnEn && d.anyEvent

/-- The machine external interrupt is raised (R566). -/
def Dev.hartInterrupt (d : Dev) : Bool := d.anyEvent

end Sys2Proof.Machine
end

