-- ==== Sys2Proof/Machine/Views.lean ====
section
/-! DEFINITION. What a read of a register or table word returns. Most words are held in `Dev.words`; those here follow from other
state. The high word of a value wider than 32 bits is that of the reading master's last capture (R92). -/

namespace Sys2Proof.Machine

/-- `SV_STAT` of lane `n`: the counts of its slots (R141). -/
def Dev.svStatWord (d : Dev) (n : Nat) : W32 :=
  let s := (d.lane n).sieve
  let used := s.count (fun x => x.st != .free)
  let alts := s.count (fun x => x.st == .alt)
  putF (putF (putF (d.word (laneAddr n Reg.laneSvStat)) 8 4 used) 12 4 alts) 16 2 (s.round - 1)

/-- Groups with a defect whose `MODE` is not OFF (R376). -/
def Dev.groupDefects (d : Dev) : Nat :=
  (d.groupsOn.filter (fun g => getF (d.word (0x1A28_0000 + 64 * g)) 2 6 != 0)).length

/-- The live 64-bit value that `PM.RD_SEL` names (R407); 0 where it names no counter. -/
def Chip.pmValue (c : Chip) : Nat :=
  match c.dev.rdKey with
  | some k => if c.dev.cntBase = 0 ∨ !c.dev.hbmUp then 0 else liveCount (c.dev, c.mem) k
  | none => 0

/-- The whole value of which `a` is the low word of a snapshot pair (R92): the values whose tables name a snapshot. The two words of an address,
as in MTX.DECERR_ADDR or HBM.LAST_ERR, are read as they stand (DESIGN CHOICE, notes/assumptions/183). -/
def Chip.wideValue (c : Chip) (a : Nat) : Option Nat :=
  let d := c.dev
  if a = Reg.clkTbLo then some (d.timeBase + bitOf d.rootValid * 2 ^ 63)
  else if a = Reg.pmRdLo then some c.pmValue
  else if Reg.pmFecLo ≤ a ∧ a < Reg.pmFecLo + 32 * 16 ∧ (a - Reg.pmFecLo) % 32 = 0 then some (d.fecCount ((a - Reg.pmFecLo) / 32))
  else if isPageAddr a ∧ 0x10 ≤ pageOf a ∧ offOf a = Reg.lanePrbsErrLo then
    some ((d.word a).toNat + (d.word (a + 4)).toNat * 0x1_0000_0000)
  else none

/-- `a` is the high word of a snapshot pair. -/
def isWideHigh (a : Nat) : Bool :=
  a == Reg.clkTbHi || a == Reg.pmRdHi
    || (decide (Reg.pmFecHi ≤ a) && decide (a < Reg.pmFecHi + 32 * 16) && (a - Reg.pmFecHi) % 32 == 0)
    || (isPageAddr a && decide (0x10 ≤ pageOf a) && offOf a == Reg.lanePrbsErrHi)

/-- The key of the capture of the pair with high word `a` for master `m`. -/
def snapKey (m a : Nat) : Nat := a * 8 + m

def Dev.snap (d : Dev) (m a : Nat) : W32 := Store.get (fun _ => 0) d.snaps (snapKey m a)

/-- The word at `a` of the register pages as master `m` reads it. -/
def Chip.pageWord (c : Chip) (m a : Nat) : W32 :=
  let d := c.dev
  let p := pageOf a
  let o := offOf a
  match c.wideValue a with
  | some v => BitVec.ofNat 32 v
  | none =>
    if isWideHigh a then d.snap m a
    else if o = Reg.hdrCap then d.capWord p
    else if o = Reg.hdrSkew then putF (d.word a) 0 16 (d.skewMs p)
    else if o = Reg.hdrSticky then d.sticky p
    else if p = 0 ∧ 0x1C0 ≤ o ∧ o < 0x1E0 then d.sumWord ((o - 0x1C0) / 4)
    else if a = Reg.mgtRomVer then Config.romVersion
    else if a = Reg.secLc then d.lcWord
    else if Reg.secDevid ≤ a ∧ a < Reg.secDevid + 16 then wordFrom deviceId (a - Reg.secDevid)
    else if a = Reg.flwGrpDef then BitVec.ofNat 32 d.groupDefects
    else if a = Reg.mateCurEpoch then BitVec.ofNat 32 (d.seqNow / 80)
    else if a = Reg.pnlStat then putF (d.word a) 0 1 (bitOf d.lampTest)
    else if Reg.protMspStat ≤ a ∧ a < Reg.protMspStat + 0x40 * 48 ∧ (a - Reg.protMspStat) % 0x40 = 0 then
      d.mspStatWord ((a - Reg.protMspStat) / 0x40)
    else if 0x10 ≤ p ∧ o = Reg.laneSvStat then d.svStatWord (p - 0x10)
    else if 0x10 ≤ p ∧ Reg.laneSvSlot ≤ o ∧ o < Reg.laneSvSlot + 32 ∧ o % 4 = 0 then
      ((d.lane (p - 0x10)).sieve.slot ((o - Reg.laneSvSlot) / 4)).word
    else if 0x10 ≤ p ∧ o = Reg.laneSdsStat then putF (d.word a) 2 1 (bitOf (decide (2 ≤ d.shedLevel)))
    else if 0x10 ≤ p ∧ o = Reg.laneRxeq then putF (d.word a) 4 4 (d.boost (p - 0x10))
    else if 0x10 ≤ p ∧ o = Reg.laneTuStat ∧ 2 ≤ (d.lane (p - 0x10)).type then
      putF (d.word a) 0 12 (blocksPerFrame (d.lane (p - 0x10)).rate)
    else if 0x10 ≤ p ∧ o = Reg.laneTuCfg ∧ d.isSystem (p - 0x10) then putF (d.word a) 4 7 (d.augs (p - 0x10))
    else d.word a

/-- The word at `a` of the table windows. -/
def Dev.tableWord (d : Dev) (a : Nat) : W32 :=
  if a < 0x1400_0000 then Store.get (fun _ => 0) d.shadowMap ((a - 0x1000_0000) / 4)
  else if a < 0x1800_0000 then Store.get (fun _ => 0) d.activeMap ((a - 0x1400_0000) / 4)
  else if 0x1840_0000 ≤ a ∧ a < 0x1850_0000 then d.sncWord ((a - 0x1840_0000) / 4)
  else d.word a

/-- The register or table word at `a`. -/
def Chip.regWord (c : Chip) (m a : Nat) : W32 := if isPageAddr a then c.pageWord m a else c.dev.tableWord a

end Sys2Proof.Machine
end

