-- ==== Sys2Proof/Machine/WordOps.lean ====
section
/-! DEFINITION. Accesses of the bus matrix to one register or table word (R11 to R14, R51 to R55, R518 to R524): the effect of a write
by its address, and what a read changes. -/

namespace Sys2Proof.Machine

/-! Writes -/

/-- A write of 1 to a record's `VALID` clears the record: `VALID` is bit `bit` of the word at `a`, and its address lies in the words
`lo` and `hi` (R531, R562). -/
def Dev.clearRecord (d : Dev) (a bit lo hi : Nat) (data : W32) : Dev :=
  d.when (getF data bit 1 == 1) (fun e => ((e.setWord a 0).setWord lo 0).setWord hi 0)

/-- R639: a write of `DEV.RESET`. The reset itself follows the response. -/
def Dev.writeReset (d : Dev) (data : W32) : Dev × Resp :=
  if getF data 16 16 ≠ 0x5752 then (d, .slverr)
  else okay (d.when (getF data 0 1 == 1) (fun e => { e with modes := { e.modes with warmRequested := true } }))

/-- R521, R603: a write of `DEV.BOOTCTL`, which machine mode alone may make. -/
def Dev.writeBootctl (d : Dev) (m : Nat) (data : W32) : Dev × Resp :=
  if m = 1 then okay (d.regWrite Reg.devBootctl data) else (d, .slverr)

/-- R78, R79: a write of `CLK.LRCn`; an output that is deselected is held low. -/
def Dev.writeLrc (d : Dev) (n : Nat) (data : W32) : Dev :=
  (d.regWrite (Reg.clkLrc + 4 * n) data).when (getF data 9 1 == 0) (fun e => e.squelchLrc n)

/-- A write of `LANE.TU_CFG`: `CAP_INIT` reads back as its table entry says; points beyond `AUGS` stop (R186), and `TXBANK` is selected at the
next transmit frame start (R268). -/
def Dev.writeTuCfg (d : Dev) (n : Nat) (data : W32) : Dev :=
  let a := laneAddr n Reg.laneTuCfg
  let d1 := d.regWrite a data
  if 96 ≤ n then d1
  else
    let w := d1.word a
    let cap := getF w 16 12
    let d2 := d1.setWord a (putF w 16 12 (if 1 ≤ cap ∧ cap ≤ 8 then 9 else cap))
    let t := d2.tu n
    (d2.setTu n { t with txChosen := false }).when (d2.augs n != d.augs n) (fun e => e.settleLane n)

/-- A write of a higher-order structure word: it takes effect, and the interpreters of its position restart, at the next frame boundary
(R206, R234). A checked map is one no longer where the word changes (R309). -/
def Dev.writeStructure (d : Dev) (h : Nat) (data : W32) : Dev :=
  let a := 0x1C00_0018 + 64 * h
  let d1 := d.regWrite a data
  ({ d1 with restarts := if d1.restarts.contains h then d1.restarts else d1.restarts ++ [h] } : Dev).when (d1.word a != d.word a)
    Dev.structureChange

/-- A write of a register of a lane page, beyond the header. -/
def Dev.writeLaneReg (d : Dev) (n o : Nat) (data : W32) : Dev × Resp :=
  if o = Reg.laneCfg then d.writeLaneCfg n data
  else if o = Reg.laneTxeq then okay (d.setWord (laneAddr n Reg.laneTxeq) (txeqWord data))
  else if o = Reg.lanePrbs then d.writePrbs n data
  else if o = Reg.laneRxeq then okay ((d.keepBoost n).regWrite (laneAddr n o) data)
  else if o = Reg.laneTuCfg then okay (d.writeTuCfg n data)
  else if 96 ≤ n then okay (d.regWrite (laneAddr n o) data)
  else if o = Reg.lanePmCfg then okay ((d.regWrite (laneAddr n o) data).estRestarts d)
  else if o = Reg.laneSohCfg then okay (d.writeSohCfg n data)
  else if o = Reg.laneSohJ0cfg then okay (d.writeJ0cfg n data)
  else if o = Reg.laneSohTx then okay (d.writeSohTx n data)
  else if o = Reg.lanePsCap then okay (d.writePsCap n data)
  else if o = Reg.laneTuStr then d.writeTuStr n data
  else okay (d.regWrite (laneAddr n o) data)

/-- A write of a register of the PM page, beyond the header. -/
def Dev.writePmReg (d : Dev) (a : Nat) (data : W32) : Dev × Resp :=
  let el (base stride n : Nat) : Option Nat :=
    if base ≤ a ∧ a < base + stride * n ∧ (a - base) % stride = 0 then some ((a - base) / stride) else none
  if a = Reg.pmWrGo then (if getF data 0 1 = 1 then d.writeBaseline data else okay d)
  else if a = Reg.pmBinAlign then okay (d.writeBinAlign data)
  else if a = Reg.pmRdSel ∨ a = Reg.pmWrSel then okay (d.writeSel a data)
  else if Reg.pmProf ≤ a ∧ a < Reg.pmProf + 64 then okay ((d.regWrite a data).estRestarts d)
  else match el Reg.pmBwSel 16 64, el Reg.pmBwWin 16 64, el Reg.pmFecCfg 32 16 with
    | some n, _, _ => okay (d.writeBw n false data)
    | _, some n, _ => okay (d.writeBw n true data)
    | _, _, some n => okay (d.writeFec n data)
    | _, _, _ => okay (d.regWrite a data)

/-- A write of a register of the PROT page, beyond the header. -/
def Dev.writeProtReg (d : Dev) (a : Nat) (data : W32) : Dev × Resp :=
  let g := (a - Reg.protMspCfg) / 0x40
  let x := (a - Reg.protMspCfg) % 0x40
  if a = Reg.protSncReq then okay (d.writeSncReq data)
  else if Reg.protMspCfg ≤ a ∧ a < Reg.protMspCfg + 0xC00 then
    if x < 20 ∧ x % 4 = 0 then d.writeMspCfg g (x / 4) data
    else if a = Reg.protMspReq + 0x40 * g then okay (d.writeMspReq g data)
    else okay (d.regWrite a data)
  else okay (d.regWrite a data).protSee

/-- A write of a register of a single page that reaches the device's registers only, beyond the header. -/
def Dev.writePageReg (d : Dev) (m p o : Nat) (data : W32) : Dev × Resp :=
  let a := pageAddr p o
  match p with
  | 0 => if a = Reg.devReset then d.writeReset data
         else if a = Reg.devBootctl then d.writeBootctl m data
         else okay (d.regWrite a data)
  | 1 => if a = Reg.clkRefsel then okay (d.writeRefsel data)
         else if Reg.clkLrc ≤ a ∧ a < Reg.clkLrc + 16 then okay (d.writeLrc ((a - Reg.clkLrc) / 4) data)
         else okay (d.regWrite a data)
  | 2 => if a = Reg.mtxAbortInfo then okay (d.clearRecord a 18 Reg.mtxAbortAddrLo Reg.mtxAbortAddrHi data)
         else okay (d.regWrite a data)
  | 5 => if a = Reg.hcpPostStat then okay (d.clearRecord a 22 Reg.hcpPostAddrLo Reg.hcpPostAddrHi data)
         else okay (d.regWrite a data)
  | 6 => if a = Reg.mgtWdog then okay (d.wdogWrite data) else okay (d.regWrite a data)
  | 8 => if a = Reg.pnlCtrl then okay (d.writePnlCtrl data)
         else if Reg.pnlMbCmd ≤ a ∧ a < Reg.pnlMbCmd + 0x100 ∧ (a - Reg.pnlMbCmd) % 0x40 = 0 then
           okay (d.writeMbCmd ((a - Reg.pnlMbCmd) / 0x40) data)
         else okay (d.regWrite a data)
  | 0xA => if a = Reg.mateCfg then okay (d.writeMateCfg data)
           else if a = Reg.mateCmd then okay (d.writeMateCmd data)
           else okay (d.regWrite a data)
  | 0xD => if Reg.psqShare ≤ a ∧ a < Reg.psqShare + 768 then
             d.writeShare ((a - Reg.psqShare) / 8) ((a - Reg.psqShare) % 8 == 4) data
           else okay (d.regWrite a data)
  | 0xE => d.writePmReg a data
  | 0xF => d.writeProtReg a data
  | _ => okay (d.regWrite a data)

/-- A write of the register at `a` of a page by master `m`: its effect and the target's answer. -/
def Chip.pageWrite (c : Chip) (m a : Nat) (data : W32) : Chip × Resp :=
  let p := pageOf a
  let o := offOf a
  let lift (f : Dev → Dev × Resp) : Chip × Resp := let r := f c.dev; (c.on (fun _ => r.1), r.2)
  if o = Reg.hdrReq then (c.on (fun d => d.writeReq p data), .okay)
  else if o < 0x100 then (c.on (fun d => d.regWrite a data), .okay)
  else if 0x10 ≤ p then lift (fun d => d.writeLaneReg (p - 0x10) o data)
  else if a = Reg.mgtCtrl then (c.ctrlWrite m data, .okay)
  else if a = Reg.mgtFwCmd then (c.fwWrite data, .okay)
  else if a = Reg.mgtHealth then
    (if m = 1 then (if getF data 0 1 = 1 then c.healthy else c, .okay) else (c, .slverr))
  else if a = Reg.secCmd then (c.secCommand (getF data 0 4), .okay)
  else if a = Reg.secDbg then c.dbgWrite m data
  else if a = Reg.grmCmd then (c.grmCommand (getF data 0 4) (getF data 8 6), .okay)
  else lift (fun d => d.writePageReg m p o data)

/-- A write of the table word at `a`: its effect and the target's answer. -/
def Dev.tableWrite (d : Dev) (a : Nat) (data : W32) : Dev × Resp :=
  match regionOf a with
  | none => (d, .decerr)
  | some r =>
    if r.readOnly then (d, .slverr)
    else if r.base = 0x1000_0000 then d.shadowWrite ((a - r.base) / 4) data
    else if r.base = 0x1800_0000 then d.writeSelector ((a - r.base) / 16) (a % 16 / 4) data
    else if r.window = 4 then (if a % 8 = 4 then (d, .slverr) else okay ((d.regWrite a data).estRestarts d))
    else if r.base = 0x1A00_0000 then d.writeContext ((a - r.base) / 16) (a % 16 / 4) data
    else if r.base = 0x1A20_0000 then d.writeGroup ((a - r.base) / 32) (a % 32 / 4) data
    else if r.base = 0x1A40_0000 then d.writeMember ((a - r.base) / 8) (a % 8 / 4) data
    else if r.base = 0x1A60_0000 then d.writeFpStr ((a - r.base) / 256) (a % 256 / 4) data
    else if r.base = 0x1C00_0000 ∧ a % 64 = 0x18 then okay (d.writeStructure ((a - r.base) / 64) data)
    else okay (d.regWrite a data)

/-- A write of the register or table word at `a` by master `m`. -/
def Chip.wordWrite (c : Chip) (m a : Nat) (data : W32) : Chip × Resp :=
  if isPageAddr a then c.pageWrite m a data
  else let r := c.dev.tableWrite a data; (c.on (fun _ => r.1), r.2)

/-! Reads -/

/-- What a read of the word at `a` by master `m` changes: captures (R92), peaks (R373, R413) and extremes (R582). -/
def Chip.readEffect (c : Chip) (m a : Nat) : Chip :=
  match c.wideValue a with
  | some v =>
    c.on (fun d => { d with snaps := Store.set (fun _ => 0) d.snaps (snapKey m (a + 4)) (BitVec.ofNat 32 (v / 0x1_0000_0000)) })
  | none =>
    if a = Reg.psqPeakF2l then c.on (fun e => e.put F.psqPeakF2lBytes (e.get F.psqCountF2lBytes))
    else if a = Reg.psqPeakL2f then c.on (fun e => e.put F.psqPeakL2fBytes (e.get F.psqCountL2fBytes))
    else if Reg.pmBwPeak ≤ a ∧ a < Reg.pmBwPeak + 1024 ∧ (a - Reg.pmBwPeak) % 16 = 0 then
      let n := (a - Reg.pmBwPeak) / 16
      c.on (fun e => e.put (F.pmBwPeakKbps.at 16 n) (e.get (F.pmBwValKbps.at 16 n)))
    else c.on (fun d => d.sensorRead a)

/-! What the matrix lets through -/

/-- The grant of an access to a word; internal masters stay in their ranges (R523), and meet the same instances. -/
def Dev.busGrant (d : Dev) (m a : Nat) (write : Bool) : Grant :=
  if 3 ≤ m then (if d.modes.inReset = .no then d.instanceGrant a write else .never) else d.matrixGrant m a write

/-- A write with byte enables as a write of the whole word (R11). -/
def Dev.merged (d : Dev) (a : Nat) (data : W32) (be : BitVec 4) : W32 :=
  if 0x1000_0000 ≤ a ∧ a < 0x1400_0000 then
    let m := BitVec.ofNat 32 (beMask be)
    (data &&& m) ||| (d.tableWord a &&& ~~~m)
  else d.merge a data be

/-- A write of the word at `a` by master `m`, with its byte enables. -/
def Chip.putWord (c : Chip) (m a : Nat) (data : W32) (be : BitVec 4) : Chip × Resp :=
  match c.dev.busGrant m a true with
  | .ok =>
    let r := c.wordWrite m a (c.dev.merged a data be)
    (r.1.on (fun d => d.when (r.2 == .okay) (fun e => e.noteWrite a)), r.2)
  | .denied => (c.on (fun d => d.raise F.mtxEvtPerm), .slverr)
  | _ => (c, .slverr)

/-- A read of the word at `a` by master `m`: its value, 0 where it is refused. R410: a read of `PM.RD_LO` is refused where
`PM.RD_SEL` names no counter. -/
def Chip.getWord (c : Chip) (m a : Nat) : Chip × Resp × W32 :=
  match c.dev.busGrant m a false with
  | .ok =>
    if a = Reg.pmRdLo ∧ c.dev.rdKey = none then (c.readEffect m a, .slverr, 0)
    else (c.readEffect m a, .okay, c.regWord m a)
  | .denied => (c.on (fun d => d.raise F.mtxEvtPerm), .slverr, 0)
  | _ => (c, .slverr, 0)

end Sys2Proof.Machine
end

