-- ==== Sys2Proof/Machine/BusOps.lean ====
section
/-! DEFINITION. Transactions of the bus matrix (R518 to R531). -/

namespace Sys2Proof.Machine

/-! Targets (R518, R519) -/

/-- The target of an address, by number: 0 zero window, 1 processor SRAM, 2 boot ROM, 3 register pages, 4 flash window, 5 HBM3, and 10
plus its place in the table of R519 for a table window. -/
def targetOf (a : Nat) : Option Nat :=
  if a < 0x4_0000 then some 0
  else if 0x0400_0000 ≤ a ∧ a < 0x0440_0000 then some 1
  else if 0x0800_0000 ≤ a ∧ a < 0x0804_0000 then some 2
  else if isPageAddr a then some 3
  else if 0x2_0000_0000 ≤ a ∧ a < 0x2_0400_0000 then some 4
  else if hbmBase ≤ a ∧ a < 0x10_0000_0000 then some 5
  else (windowOf a).map (fun w => 10 + w)

/-- `n` bytes from `a` up lie in one target. -/
def oneTarget (a n : Nat) : Bool := (List.range n).all (fun i => targetOf (a + i) == targetOf a && (targetOf a).isSome)

/-- R523: where an internal master issues addresses. -/
def masterReaches (m a : Nat) : Bool :=
  let r := hbmRegionOf a
  let hbm := decide (hbmBase ≤ a)
  match m with
  | 3 => hbm && (r == 3 || r == 4)
  | 4 => hbm && r == 0 || targetOf a == some 10
  | 5 => hbm && hbmUnitOf a == 47
  | 6 => hbm && hbmUnitOf a == 46 || replicated (a / 4 * 4)
  | _ => true

/-- R518, R521: what is added to an address that decodes to the zero window. -/
def Dev.zeroShift (d : Dev) (a : Nat) : Nat :=
  if a < 0x4_0000 then (if d.on F.devBootctlRemap then 0x0400_0000 else 0x0800_0000) else 0

/-! Beats -/

/-- How a read's beat `k` meets the ECC: corrected and retried words are those of the first beat. -/
def beatEcc (e : EccSeen) (k : Nat) : EccSeen :=
  match e with
  | .uncorrectable b => if k = b then e else .clean
  | _ => if k = 0 then e else .clean

/-- A user-mode access to HBM3 passes (R420, R524). -/
def Dev.userHbm (d : Dev) (a : Nat) (write : Bool) : Bool :=
  let r := hbmRegionOf a
  !write && d.on ⟨Reg.mtxUwin, 16 + r, 1⟩ && (!(r == 3 || r == 4 || r == 6) || d.on F.pmCfgUserEn)

/-- The words that bytes `x` to `y - 1` touch. -/
def wordsOf (x y : Nat) : List Nat := (List.range ((y + 3) / 4 - x / 4)).map (fun i => 4 * (x / 4 + i))

/-- The byte enables of the word at `a` for bytes `x` to `y - 1`. -/
def enables (a x y : Nat) : BitVec 4 :=
  BitVec.ofNat 4 ((List.range 4).foldl (fun n i => n + (if x ≤ a + i ∧ a + i < y then 2 ^ i else 0)) 0)

/-- A beat written to registers or table words; it ends at the first word that is refused. -/
def Chip.writeWords (c : Chip) (m x y : Nat) (byte : Nat → Byte) : List Nat → Chip × Resp
  | [] => (c, .okay)
  | a :: t =>
    let r := c.putWord m a (wordOfBytes (byte a) (byte (a + 1)) (byte (a + 2)) (byte (a + 3))) (enables a x y)
    if r.2 = .okay then r.1.writeWords m x y byte t else r

/-- A beat read from registers or table words. -/
def Chip.readWords (c : Chip) (m : Nat) : List Nat → Chip × Resp × List Byte
  | [] => (c, .okay, [])
  | a :: t =>
    let r := c.getWord m a
    if r.2.1 = .okay then
      let q := r.1.readWords m t
      (q.1, q.2.1, wordBytes r.2.2 ++ q.2.2)
    else (r.1, r.2.1, [])

/-- Bytes `x` to `y - 1` are written at the target of `x`, as master `m`. -/
def Chip.beatWrite (c : Chip) (m x y : Nat) (byte : Nat → Byte) : Chip × Resp :=
  let l := (List.range (y - x)).map (fun i => byte (x + i))
  match targetOf x with
  | some 1 => (c.store x l, .okay)
  | some 2 => (c, .slverr)
  | some 4 => (c, .slverr)
  | some 5 =>
    if m = 2 ∧ !c.dev.userHbm x true then (c.on (fun d => d.raise F.mtxEvtPerm), .slverr)
    else if c.dev.hbmAnswers x then ({ c with mem := memWrite c.mem x l }, .okay) else (c, .slverr)
  | some t =>
    let r := c.writeWords m x y byte (wordsOf x y)
    (r.1.when (decide (10 ≤ t) && r.2 == .okay) (fun z => z.on (fun d => d.unpoison x (y - x))), r.2)
  | none => (c, .decerr)

/-- What the ECC of the memory behind address `x` does to a read, in which a poisoned word is uncorrectable (R508); answers whether the data
is lost. -/
def Dev.eccRead (d : Dev) (x : Nat) (e0 : EccSeen) : Dev × Bool :=
  let e := if d.poisoned x then .uncorrectable 0 else e0
  match targetOf x with
  | some 2 => (d, false)
  | some 3 => (d, false)
  | some 4 => (d, false)
  | some 5 => if d.hbmAnswers x then (d.hbmSeen x e0, isUe e0) else (d, false)
  | _ => (d.sramSeen (d.sramPlace x) e, isUe e)

/-- R503: a write of fewer than 8 bytes reads its word of SRAM first, with what that read meets. The write itself is carried out, and a poisoned word
stays so until it is written whole (R508; DESIGN CHOICE, notes/assumptions/197). -/
def Dev.rmwRead (d : Dev) (x y : Nat) (e : EccSeen) : Dev :=
  let onChip := match targetOf x with
    | some 1 => true
    | some t => decide (10 ≤ t)
    | none => false
  d.when (onChip && decide (y - x < 8) && (pools.getD (d.wordPool (d.sramPlace x)) { bytes := 0 }).secded) (fun z => (z.eccRead x e).1)

/-- Bytes `x` to `y - 1` are read from the target of `x`, as master `m`. -/
def Chip.beatRead (c : Chip) (m x y : Nat) : Chip × Resp × List Byte :=
  match targetOf x with
  | some 1 => (c, .okay, memRead c.mem x (y - x))
  | some 2 => (c, .okay, (List.range (y - x)).map (fun i => Config.romByte (x - 0x0800_0000 + i)))
  | some 4 =>
    match c.dev.mgt.fw with
    | some (2, _) => (c, .slverr, [])
    | _ => (c, .okay, flashRead c.flash (x - 0x2_0000_0000) (y - x))
  | some 5 =>
    if m = 2 ∧ !c.dev.userHbm x false then (c.on (fun d => d.raise F.mtxEvtPerm), .slverr, [])
    else if c.dev.hbmAnswers x then (c, .okay, memRead c.mem x (y - x)) else (c, .slverr, [])
  | some _ =>
    let r := c.readWords m (wordsOf x y)
    (r.1, r.2.1, (r.2.2.drop (x % 4)).take (y - x))
  | none => (c, .decerr, [])

/-! Bursts (R522, R525, R543) -/

/-- R522: a DECERR response. -/
def Dev.decerr (d : Dev) (m a : Nat) (write : Bool) : Dev :=
  (((d.setWord Reg.mtxDecerrInfo (putF (putF 0 0 3 m) 3 1 (bitOf write))).setAddr F.mtxDecerrAddrLoAddr F.mtxDecerrAddrHiAddr
    a).roll F.mtxDecerrCountCount 1).raise F.mtxEvtDecerr

/-- A transaction of master `m` is accepted; one that would leave its target is answered as a whole. -/
def Chip.issue (c : Chip) (m : Nat) (write : Bool) (addr len : Nat) (data : List Byte) (ecc : EccSeen) : Chip :=
  let b : Burst := { write := write, addr := addr, len := len, data := data, ecc := ecc, since := c.dev.now }
  if oneTarget addr len then c.on (fun d => d.setBurst m { b with shift := d.zeroShift addr })
  else c.on (fun d => (d.decerr m addr write).setBurst m { b with resp := .decerr, ended := true })

/-- The next beat of master `m`'s transaction. A beat that resets its own master leaves no transaction. -/
def Chip.beat (c : Chip) (m : Nat) : Chip :=
  let b := c.dev.burst m
  let size := if isPageAddr b.addr then 4 else 8
  let p := b.addr + b.done
  let q := Nat.min (b.addr + b.len) ((p / size + 1) * size)
  let x := p + b.shift
  let y := q + b.shift
  if b.ended ∨ !c.dev.inBurst m then c
  else
    let seen := beatEcc b.ecc b.beats
    let r : Chip × Resp × List Byte :=
      if b.write then
        let w := c.beatWrite m x y (fun i => b.data.getD (i - b.shift - b.addr) 0)
        (w.1.when (w.2 == .okay) (fun z => z.on (fun d => d.rmwRead x y seen)), w.2, [])
      else
        let v := c.beatRead m x y
        let e := v.1.dev.eccRead x seen
        if v.2.1 ≠ .okay then v else if e.2 then ({ v.1 with dev := e.1 }, .slverr, []) else ({ v.1 with dev := e.1 }, v.2)
    let b' : Burst := if r.2.1 = .okay then
        { b with done := b.done + (q - p), beats := b.beats + 1, got := b.got ++ r.2.2,
                 ended := decide (b.addr + b.len ≤ q) }
      else { b with resp := r.2.1, ended := true }
    if r.1.dev.inBurst m then r.1.on (fun d => d.setBurst m b') else r.1

/-- At most `n` further beats. -/
def Chip.beats (c : Chip) (m : Nat) : Nat → Chip
  | 0 => c
  | n + 1 => (c.beat m).beats m n

/-- The data that a read returns: 0x00 from the beat that was not OK on. -/
def Burst.result (b : Burst) : List Byte :=
  if b.write then [] else (b.got ++ List.replicate (b.len - b.got.length) 0).take b.len

/-- A transaction that has ended is answered. -/
def Chip.close (c : Chip) (m : Nat) : Chip :=
  let b := c.dev.burst m
  if c.dev.inBurst m ∧ b.ended then
    c.on (fun d => ((d.setBurst m {}).reply m { resp := b.resp, data := b.result }).fecSeen m b.addr b.write b.resp b.beats)
  else c

/-- Every beat that master `m`'s transaction has left. -/
def Chip.drain (c : Chip) (m : Nat) : Chip := c.beats m (c.dev.burst m).len

/-- A whole transaction of master `m`, after the one that it had under way (R525). -/
def Chip.transact (c : Chip) (m : Nat) (write : Bool) (addr len : Nat) (data : List Byte) (ecc : EccSeen) : Chip :=
  (((((c.drain m).close m).issue m write addr len data ecc).drain m).close m)

end Sys2Proof.Machine
end

