-- ==== Sys2Proof/Machine/Bus.lean ====
section
/-! DEFINITION. The commands of the bus matrix (R11, R92, R518 to R531), and the accesses of a debugger (R597, R598). -/

namespace Sys2Proof.Machine

/-- The masters are out of reset, and the Host Control Port has no transaction of its own to end first. -/
def Dev.busFree (d : Dev) (m : Nat) : Bool := d.modes.inReset == .no && !(m == 0 && d.portBusy)

/-- R11: a write of one 32-bit word with byte enables, outside the memories. -/
def Chip.registerWrite (c : Chip) (m a : Nat) (data : W32) (be : BitVec 4) : Chip :=
  if !c.dev.busFree m then c
  else match targetOf a with
    | none => c.on (fun d => ((d.decerr m a true).reply m { resp := .decerr }).fecSeen m a true .decerr 1)
    | some t =>
      if t = 3 ∨ 10 ≤ t then
        let r := ((c.drain m).close m).putWord m a data be
        r.1.on (fun d => ((d.when (r.2 == .okay) (fun e => e.rmwRead a (a + 4) .clean)).reply m { resp := r.2 }).fecSeen m a true r.2 1)
      else c

/-- R11 to R14 -/
def execRegisterWrite (m : Master) (addr : Addr) (data : W32) (be : BitVec 4) (s : State) : Out :=
  .next (s.run (fun c => c.when (decide (m.val < 3)) (fun x => x.registerWrite m.val (addr.toNat / 4 * 4) data be)))

/-- R92: a read of the low word of a snapshot pair. -/
def execSnapshotCapture (m : Master) (addr : Addr) (s : State) : Out :=
  let a := addr.toNat
  .next (s.run (fun c => c.when (decide (m.val < 3) && (c.wideValue a).isSome) (fun x =>
    match x.dev.grant m.val a false with
    | .never => x
    | _ =>
      let r := x.getWord m.val a
      r.1.on (fun d => (d.reply m.val { resp := r.2.1, data := wordBytes r.2.2 }).fecSeen m.val a false r.2.1 1))))

/-- A master that is the processor: 1 in machine mode, 2 in user mode (R523, R564). -/
def isProcessor (m : Nat) : Bool := m == 1 || m == 2

/-- R564: where an address of the processor reaches the bus address map; addresses in no range reach nothing. -/
def Dev.processorBus (d : Dev) (a : Nat) : Option Nat :=
  if a < 0x2000_0000 then some a
  else if 0x4000_0000 ≤ a ∧ a < 0x4100_0000 then some (0x1_0000_0000 + (a - 0x4000_0000))
  else if 0x4400_0000 ≤ a ∧ a < 0x4800_0000 then some (0x2_0000_0000 + (a - 0x4400_0000))
  else if 0x8000_0000 ≤ a ∧ a < 0xC000_0000 then
    some (0x8_0000_0000 + d.get F.mgtHbmWinWin * 0x4000_0000 + (a - 0x8000_0000))
  else none

/-- R565: what the PMP makes of `n` bytes from processor address `a` up. The lowest entry that matches one of them must match them all;
it binds user mode, and machine mode if it is locked. Where none matches, only machine mode passes. -/
def Dev.pmpPasses (d : Dev) (m a n : Nat) (write : Bool) : Bool :=
  match d.mgt.pmp.find? (fun e => decide (a ≤ e.last) && decide (e.first < a + n)) with
  | none => m == 1
  | some e =>
    let p := if m = 1 then e.machine else e.user
    decide (e.first ≤ a) && decide (a + n ≤ e.last + 1) && ((m == 1 && !e.locked) || (if write then p.w else p.r))

/-- A transaction of master `m` at bus address `a` (R518 to R525); with `stall` its target takes so many beats, and the rest wait. -/
def Chip.transfer (c : Chip) (m a : Nat) (t : Transfer) (stall : Option Nat) : Chip :=
  let y := ((c.drain m).close m).issue m t.write a t.len t.data t.ecc
  (y.beats m (stall.getD t.len)).close m

/-- An access of the processor at its address `a`: one that the PMP refuses never leaves the hart (R565), and one in no range of R564
returns DECERR. -/
def Chip.processorTransfer (c : Chip) (m a : Nat) (t : Transfer) (stall : Option Nat) : Chip :=
  if !c.dev.pmpPasses m a t.len t.write then c
  else match c.dev.processorBus a with
    | some b => c.transfer m b t stall
    | none => c.on (fun d => ((d.decerr m a t.write).reply m { resp := .decerr }).fecSeen m a t.write .decerr 1)

/-- R518 to R525, R564, R565: a transaction; its address is the processor's own where the processor issues it. -/
def execBusTransaction (m : Master) (t : Transfer) (stall : Option Nat) (s : State) : Out :=
  let a := t.addr.toNat
  let ok := s.dev.busFree m.val && masterReaches m.val a && decide (1 ≤ t.len)
  .next (s.run (fun c => c.when ok (fun x =>
    if isProcessor m.val then x.processorTransfer m.val a t stall else x.transfer m.val a t stall)))

/-- R526: a request that waits rises one class every 10 µs. -/
def execArbitrationAging (m : Master) (s : State) : Out :=
  let b := s.dev.burst m.val
  let base := if m.val = 3 ∨ m.val = 6 then 0 else if m.val = 0 ∨ m.val = 4 then 1 else 2
  let ok := s.dev.inBurst m.val && decide (b.rises < base) && decide (b.since + usTicks (10 * (b.rises + 1)) ≤ s.dev.now)
  .next { s with dev := s.dev.when ok (fun d =>
    (d.setBurst m.val { b with rises := b.rises + 1 }).roll F.mtxAgedCount 1) }

/-- R529: a transaction that has waited 200 µs is ended with SLVERR. -/
def execStuckTransaction (m : Master) (s : State) : Out :=
  let b := s.dev.burst m.val
  let ok := s.dev.inBurst m.val && !b.ended && decide (b.since + usTicks 200 ≤ s.dev.now)
  .next (s.run (fun c => c.when ok (fun x =>
    let y := x.on (fun d => ((d.setBurst m.val { b with resp := .slverr, ended := true }).roll F.mtxStuckCount 1).raise F.mtxEvtStuck)
    if m.val = 0 ∧ y.dev.port.cur.isSome then y else y.close m.val)))

/-- R521: a write of `DEV.BOOTCTL`. -/
def execRemapWrite (m : Master) (data : W32) (s : State) : Out :=
  .next { s with dev := s.dev.write m.val Reg.devBootctl (fun d => d.writeBootctl m.val data) }

/-! The debug module (R597, R598) -/

/-- A DMI access ends with a status and, for a read, its data. -/
def Dev.dmiEnd (d : Dev) (status : Nat) (data : W32) : Dev := d.setMgt { d.mgt with dmiStatus := status, dmiData := data }

/-- `dmstatus`, but for the bits that say whether the hart is halted or runs a free value (R598). -/
def Dev.dmstatus (d : Dev) : W32 × Dev :=
  let x := d.freeWord
  (putF (putF x.1 8 2 (if d.mgt.halted then 3 else 0)) 10 2 (if d.mgt.halted then 0 else 3), x.2)

/-- A DMI access that is granted. -/
def Chip.dmi (c : Chip) (op : DmiOp) : Chip :=
  let full := c.dev.grants .halt
  match op with
  | .readDmstatus => c.on (fun d => d.dmstatus.2.dmiEnd 0 d.dmstatus.1)
  | .sysBusRead a =>
    let x := c.transact 1 false (a.toNat / 4 * 4) 4 [] .clean
    x.on (fun d => d.dmiEnd 0 (wordFrom (Store.get (fun _ => ({} : Reply)) d.replies 1).data 0))
  | .sysBusWrite a data =>
    if full then (c.transact 1 true (a.toNat / 4 * 4) 4 (wordBytes data) .clean).on (fun d => d.dmiEnd 0 0)
    else c.on (fun d => d.dmiEnd 2 0)
  | .haltReq =>
    c.on (fun d => (d.when (full && !d.mgt.halted) (fun e => e.setMgt { e.mgt with halted := true, haltAt := e.now })).dmiEnd 0 0)
  | .resumeReq => c.on (fun d => (d.when full Dev.resumeHart).dmiEnd 0 0)
  | .abstractCmd => c.on (fun d => d.dmiEnd (if full then 0 else 2) 0)

/-- R597, R598: a DMI access, which needs the DMI instruction in the test access port. -/
def execDmiAccess (op : DmiOp) (s : State) : Out :=
  let d := s.dev
  .next (s.run (fun c => c.when (d.mgt.tap.toNat == tapDmi && d.modes.inReset == .no) (fun x =>
    if d.grants .observe then x.dmi op else x.on (fun e => e.dmiEnd 2 0))))

end Sys2Proof.Machine
end

