-- ==== Sys2Proof/Machine/Copy.lean ====
section
/-! DEFINITION. The state copy at the STANDBY (R481, R491 to R497, R499): the records of an epoch and its commit. -/

namespace Sys2Proof.Machine

/-- The master number of the mate state copier (R523). -/
def copierMaster : Nat := 6

/-- A write record puts its words in place as the copier; the targets answer as for any write (R490, R499). -/
def Chip.recordWrite (c : Chip) (r : StateRecord) : Chip × Bool :=
  let a := r.key.toNat
  let word (c : Chip) (a : Nat) (data : W32) (be : BitVec 4) : Chip × Bool :=
    if be = 0 then (c, true)
    else if a % 4 ≠ 0 ∨ !masterReaches copierMaster a then (c, false)
    else
      let x := c.putWord copierMaster a data be
      (x.1, x.2 == .okay)
  let x := word c a r.data0 (r.mask.extractLsb' 0 4)
  let y := word x.1 (a + 4) r.data1 (r.mask.extractLsb' 4 4)
  (y.1, x.2 && y.2)

/-- The ticks since the end of window `e` (R491). -/
def Dev.sinceWindow (d : Dev) (e : Nat) : Nat :=
  let frames := (d.seqNow + 0x1_0000_0000 - 80 * (e + 1) % 0x1_0000_0000) % 0x1_0000_0000
  if frames < 0x8000_0000 then frames * ticksPerFrame + (d.now - d.timing.fp8kAt.getD d.now) else 0

/-- What a record says of a group or selector: the request in force and its channel, the selection, the running timer and its time left
in ms. -/
structure ProtRecord where
  req : Nat
  ch : Nat
  selected : Nat
  holds : Bool
  left : Nat
deriving DecidableEq, Repr

/-- The protection of a group or selector takes what its record of epoch `e` says; a timer has run on since the end of the epoch's window
(R495). The record of a snapshot gives `SEL` as well (R496). -/
def Dev.recordProt (d : Dev) (e : Nat) (t : ProtTarget) (r : ProtRecord) : Dev :=
  let p := d.protSt t
  let began (len : Nat) : Nat := d.now + r.left * ticksPerMs - d.sinceWindow e - len
  let cfg := d.protCfg t
  let late := (p.waiting cfg d.modes.resumed d.now).map (fun x => (x.1, x.2.1))
  d.setProt t { p with
    selected := r.selected, applied := if d.role = roleRejoin then r.selected else p.applied,
    wtr := if r.req = reqCode rkWtr then some (r.ch, began cfg.wtr) else none,
    dnr := if r.req = reqCode rkDnr then some r.ch else none,
    onset := if r.holds then p.onset.map (fun x => if late.contains (x.1, x.2.1) then (x.1, x.2.1, began cfg.holdoff) else x)
      else p.onset }

/-- A stored command of the ACTIVE. -/
def Dev.recordCommand (d : Dev) (t : ProtTarget) (data : W32) : Dev :=
  match protCmdOf (getF data 0 4) with
  | some c => d.setProt t ((d.protSt t).store c (getF data 4 4) d.now)
  | none => d

/-- R481: a COMMIT record arms a CHECKED shadow for the same frame where at least 2 frames remain. -/
def Dev.recordCommit (d : Dev) (target : W32) : Dev :=
  let ahead := (target.toNat + 0x1_0000_0000 - d.seqNow) % 0x1_0000_0000
  if d.shadow = shChecked ∧ 2 ≤ ahead ∧ ahead < 0x8000_0000 then
    let d1 := ((d.put F.grmCmtCfgBoundary 2).setWord Reg.grmCmtSeq target).setShadow shArmed
    (d1.commitStep 3 3).setGrm { d1.grm with armedAt := d.timing.edges, pristine := false }
  else d.raise F.mateEvtCmtMiss

/-- The effect of a record of epoch `e`, and whether it is accepted (R499). -/
def Chip.record (c : Chip) (e : Nat) (r : StateRecord) : Chip × Bool :=
  let k := r.key.toNat
  let w := r.data0
  match r.kind.toNat with
  | 1 => c.recordWrite r
  | 2 =>
    if h : k < 262144 then
      (c.on (fun d => d.recordProt e (.snc ⟨k, h⟩) ⟨getF w 0 4, 1, getF w 10 1, getF w 8 1 == 1 && getF w 9 1 == 0, r.data1.toNat⟩), true)
    else (c, false)
  | 3 =>
    if h : k < 48 then
      (c.on (fun d => d.recordProt e (.msp ⟨k, h⟩)
        ⟨getF w 0 4, getF w 4 4, getF w 20 4, getF w 24 1 == 1 && getF w 25 1 == 0, r.data1.toNat⟩), true)
    else (c, false)
  | 4 =>
    if k / 0x4_0000 % 2 = 1 then
      let i := k % 0x4_0000
      if h : i < 262144 then (c.on (fun d => d.recordCommand (.snc ⟨i, h⟩) (w &&& 0x1F)), true) else (c, false)
    else
      let g := k % 0x4_0000
      if h : g < 48 then (c.on (fun d => d.recordCommand (.msp ⟨g, h⟩) w), true) else (c, false)
  | 5 => if k < 131072 then (c.on (fun d => (d.setWord (0x1A50_0000 + 8 * k) w).lcasMoved k (d.memState k)), true) else (c, false)
  | 6 => (c.on (fun d => d.recordCommit w), true)
  | _ => (c, false)

/-- R492: a record is applied; one that is refused is listed. -/
def Chip.applyRecord (e : Nat) (c : Chip) (r : StateRecord) : Chip :=
  let x := c.record e r
  x.1.when (!x.2) (fun y => y.on (fun d => (d.raise F.mateEvtApplyErr).listItem ⟨r.kind.toNat, r.key.toNat⟩))

/-- R492: the device takes epochs: as STANDBY, or their snapshot in REJOIN (R496). -/
def Dev.takesEpoch (d : Dev) (snap : Bool) : Bool :=
  d.role == roleStandby || (d.role == roleRejoin && snap && d.get F.mateStatRejoinStep == 3)

/-- R492: an END block has arrived; the epoch commits where its CRC and its counts match. The records are applied in index order. -/
def Chip.endBlock (c : Chip) (snap : Bool) (payload : List Byte) : Chip :=
  let e := fieldAt payload 0 4
  let rx := c.dev.mate.rx
  let c1 := c.on (fun d => d.setMate { d.mate with rx := d.mate.rx.filter (fun x => x.1 != e) })
  if !endMatches rx payload then c1.on (fun d => d.raise F.mateEvtEpochFail)
  else
    (((epochBlocks rx e).flatMap stateRecordsOf).foldl (Chip.applyRecord e) c1).on (fun d =>
      (d.put F.mateAckEpochEpoch e).setMate { d.mate with snapDone := d.mate.snapDone || snap })

/-- R492: a STATE block with END = 1 arrives. -/
def execStateEndBlock (field8 : Byte) (epoch blocks records crc : List Byte) (s : State) : Out :=
  let snap := field8.getLsbD 6
  .next (s.run (fun c => c.when (field8.getLsbD 7 && c.dev.takesEpoch snap) (fun x =>
    x.endBlock snap (endBytes epoch blocks records crc))))

end Sys2Proof.Machine
end

