-- ==== Sys2Proof/Machine/EdgeOps.lean ====
section
/-! DEFINITION. What an `FP8K` edge does (R33 to R36, R74 to R76): the new ingress frame, the pass of the Whisk, and the transmit frame
starts. -/

namespace Sys2Proof.Machine

/-! Time (R74, R248, R476) -/

/-- The tick of edge `k` of the divider chain; a root period is a 32nd of a tick. -/
def Dev.edgeTick (d : Dev) (k : Nat) : Nat :=
  (((d.timing.firstLock.getD 0 : Int) * 32 + ticksPerFrame * 32 * k + d.timing.phase) / 32).toNat

/-- The next edge: the first one that has not come, or that of the present time where it lies later. -/
def Dev.nextEdge (d : Dev) : Nat :=
  let x : Int := (d.now : Int) * 32 - (d.timing.firstLock.getD 0 : Int) * 32 - d.timing.phase
  let k := ((x + (ticksPerFrame * 32 - 1)) / (ticksPerFrame * 32)).toNat
  Nat.max (d.timing.edges + 1) k

/-- The edge comes: time moves on to it, and the frame of the next number begins. -/
def Dev.advance (d : Dev) : Dev :=
  let k := d.nextEdge
  let t := Nat.max d.now (d.edgeTick k)
  { d with now := t, timing := { d.timing with edges := k, fp8kAt := some t } }

/-! The ingress frame of a port -/

/-- The port's lane or flow port is absent, or its `REQ` is OFF, or its mode is PREPARE with AIS (R31). -/
def Dev.portIdle (d : Dev) (q : Nat) : Bool :=
  let p := if q < 96 then lanePage q else 0xC
  let there := d.present p && (decide (q < 96) || d.on ⟨Reg.devCapFport, q - 96, 1⟩)
  !there || d.get (F.hdrReqState.page p) == 0 || (d.mode == modePrepare && d.on F.devModeCfgPrepAis)

/-- The ingress frame of port `q` that begins holds all-ones (R31, R171, R281 to R283). -/
def Dev.portAis (d : Dev) (q : Nat) : Bool :=
  d.portIdle q || (decide (q < 96) &&
    (if (d.lane q).isLine then d.lineAis q
     else match d.pairOf q with
      | some p => p != q || d.get (F.laneTuStrstatState.lane p) == strDown
      | none => d.tuDown q))

/-- The ingress bank that begins to fill (R31, R171, R200, R231, R283). -/
def Dev.freshPan (d : Dev) : Pan :=
  let ports := List.range 104
  let ais := ports.filter d.portAis
  let live := ports.filter (fun q => !ais.contains q)
  let mf := d.seqNow % 4
  let flows := (live.filter (fun q => decide (96 ≤ q))).map (fun q => (q, d.flowPortFrame q mf))
  let lanes := live.filter (fun q => decide (q < 96))
  { bytes := (flows.flatMap (fun x => x.2.1.map (fun y => (portSlots * x.1 + y.1, y.2)))).foldl (fun b x =>
      Store.put (Store.drop b x.1) x.1 x.2) [],
    ais := ais.map (fun q => (q, 0)), idle := ais.filter d.portIdle, live := live, base := d.fresh,
    units := (lanes.flatMap (fun q => (d.portPlaces q).filterMap (fun u =>
      (d.areaFill (unitPoint q u)).map (fun f => (areaKey q u, f))))).foldl
      (fun m x => Store.put (Store.drop m x.1) x.1 [(0, x.2)]) [],
    zeros := flows.flatMap (fun x => x.2.2.map (fun s => portSlots * x.1 + s)) }

/-! The Twin Pans -/

/-- R412: the egress slots of each monitored port whose map entries are not unequipped. -/
def Dev.bwEgress (d : Dev) : Dev :=
  let ports := ((d.bw.filter (fun x => d.get (F.pmBwSelObj.at 16 x.1) == 8)).map (fun x => d.get (F.pmBwSelIndex.at 16 x.1))).eraseDups
  ports.foldl (fun e q =>
    e.bwAdd 8 q (e.activeMap.filter (fun y => y.1 / portSlots == q && entryKind y.2 != 0)).length) d

/-- What the edge ends (R33): the frame that lanes have sent, with what was in force while they sent it, and the ingress frame, which
takes the bytes of the containers received in it. -/
def Dev.frameEnds (d0 : Dev) (frames : List PathFrame) : Dev :=
  let mf := (d0.seqNow + 1) % 4
  let d := (d0.mateSent.each 104 Dev.loopKept).framesSent mf
  ((((frames.filter (fun f => d.hearsPoint (pointKey f.point) (f.bytes.map (fun x => x.2)))).foldl Dev.pathFrame d).reportFrame (d0.seqNow + 0xFFFF_FFFF)).sinkFrames mf).fillFrame ((d0.seqNow + 3) % 4)
    (d0.timing.edges - 1)

/-- R33: the banks of all ports change. -/
def Dev.banksChange (d : Dev) : Dev := { d with inMove := d.inFill, inFill := {}, egRead := d.egFill }

/-- R35: the new ingress frame begins, and the Whisk moves the one that has ended; `seen` are the map entries that it reads as uncorrectable
(R298), beside the poisoned ones. -/
def Dev.panEdge (d : Dev) (seen : List Nat) : Dev :=
  let d1 : Dev := { d with inFill := d.freshPan, fresh := d.fresh + 1 }
  let ue := d1.passUe seen
  let d2 := ((({ d1 with egFill := d1.whisk d1.inMove ue } : Dev).entryUe ue.length).when (d1.eff 0xB == 2 && d1.on F.grmActValid)
    (fun e => e.mapSeen ue)).bwEgress
  ({ d2 with grm := { d2.grm with ue := seen } } : Dev).each 96 (fun e n => e.when (e.lane n).isLine (fun x =>
    x.put (F.laneSohStatAisDs.lane n) (bitOf (x.inFill.ais.any (fun y => y.1 == n)))))

/-! Corrected words of the Packet Staging Queue (R372) -/

def Dev.psqCorrected (d : Dev) (b : Nat) : Dev :=
  (d.roll { F.psqCeL2f0Count with off := F.psqCeL2f0Count.off + 4 * b } 1).psqSeen .corrected

/-! The edge -/

/-- The frame-timed units advance one frame (R33, R35, R75, R363, R429). Effective states move with the edge (R662), so that the frame that
begins is that of the states after it. -/
def Dev.frameEdge (d : Dev) (e : EdgeIn) : Dev :=
  let d1 := ((((d.frameEnds e.frames).banksChange).commitMissed.selApply).settle true).unitsDown
  let d2 := d1.panEdge (e.mapUe.map (fun i => i.val))
  let grants (n : Nat) : List Nat := (d2.tu n).grants
  let d3 := d2.each 96 (fun x n => x.when ((x.lane n).isLine && x.eff (lanePage n) != 0) (fun y => y.lineStart n))
  let d4 := d3.psqEdge e.psqUe (e.flowUe.map (fun x => (x.1.val, x.2))) grants
  let d5 := (e.psqCe.map (fun b => b.val)).foldl Dev.psqCorrected d4
  d5.mateBegin

/-- One tick passes with nothing commanded: VCs begin in the frames being sent (R229), packets end in them (R361), and hold-offs end, which
`MSP_STATg` shows (R457). -/
def Dev.tick (d : Dev) : Dev :=
  let d1 : Dev := { d.vcsBegin with now := d.now + 1 }
  let d2 := (d1.lanes.map (fun x => x.1)).foldl Dev.blocksSent d1
  d2.mspGroupsOn.foldl Dev.mspShow d2

end Sys2Proof.Machine
end

