-- ==== Sys2Proof/Machine/Edge.lean ====
section
/-! DEFINITION. The commands of the frame edges (R74 to R76). -/

namespace Sys2Proof.Machine

/-- R74: an `FP8K` edge, which occurs while the root is valid. While a reset is in force only time and the numbers move on (R77, R638). -/
def execFp8kEdge (e : EdgeIn) (s : State) : Out :=
  .next (s.run (fun c => c.when c.dev.rootValid (fun x =>
    let y := x.on Dev.advance
    if y.dev.modes.inReset = .no then y.switchAtEdge.on (fun d => d.frameEdge e) else y)))

/-- R76: an `MF2K` edge falls on the edge that starts the first frame of a TU multiframe. -/
def execMf2kEdge (s : State) : Out :=
  .next { s with dev := s.dev.when (s.dev.rootValid && s.dev.atMultiframe && s.dev.timing.fp8kAt.isSome) (fun d =>
    d.setTiming { d.timing with mf2kAt := d.timing.fp8kAt }) }

/-- R75: the transmit frame that begins at the edge is one of the lane's new type, the first after the restart (R184). -/
def Dev.typeStarts (d : Dev) (n : Nat) : Dev :=
  if d.eff (lanePage n) = 0 then d
  else if (d.lane n).isLine then (d.put (F.laneSohTxfrmFrm.lane n) 0xFFFF).lineStart n
  else d.tuStart [] n

/-- R60: a changed `TYPE` or `RATE` takes effect at an `FP8K` edge. -/
def execReceiveStateRestart (lane : Lane) (s : State) : Out :=
  let n := lane.val
  .next { s with dev := s.dev.when (s.dev.atEdge && (s.dev.lane n).cfg != s.dev.word (laneAddr n Reg.laneCfg)) (fun d =>
    (d.restartLane n).when ((d.lane n).type != getF (d.word (laneAddr n Reg.laneCfg)) 4 2) (fun e => e.typeStarts n)) }

end Sys2Proof.Machine
end

