-- ==== Sys2Proof/Machine/PortOps.lean ====
section
/-! DEFINITION. The Host Control Port (13_host_control_port.md). -/

namespace Sys2Proof.Machine

def Dev.setPort (d : Dev) (p : Port) : Dev := { d with port := p }

/-! Headers and checks (R536 to R542) -/

def cmdRead : Nat := 0xA1
def cmdWrite : Nat := 0xA2
def cmdPosted : Nat := 0xA3

def stOk : Nat := 0
def stDecerr : Nat := 1
def stSlverr : Nat := 2
def stAbort : Nat := 3
def stBusy : Nat := 4
def stTimeout : Nat := 5

def causeNone : Nat := 0
def causeTarget : Nat := 1
def causeAlign : Nat := 2
def causePage : Nat := 3
def causeDataCrc : Nat := 4
def causeNotReady : Nat := 5
def causePostFull : Nat := 6
def causePortReset : Nat := 7
def causeWait : Nat := 8
def causePostOff : Nat := 9

/-- The port's CRC-16 (R537). -/
def portCrc (l : List Byte) : Nat := crcMsb 16 0x1021 0xFFFF l

/-- A header of ten bytes as a transaction; none where it is discarded (R541). -/
def parseHeader (h : List Byte) (data : List Byte) : Option PortTxn :=
  let cmd := numOf (h.take 1)
  let len := numOf ((h.drop 6).take 2)
  if h.length = 10 ∧ numOf (h.drop 8) = portCrc (h.take 8) ∧ cmdRead ≤ cmd ∧ cmd ≤ cmdPosted ∧ 1 ≤ len ∧ len ≤ 4096 then
    some { cmd := cmd, addr := numOf ((h.drop 1).take 5), len := len, data := data }
  else none

/-- A target that lies in the on-chip SRAM: the processor's, and the table windows (R502, R510). -/
def sramTarget (t : Nat) : Bool := t == 1 || decide (10 ≤ t)

/-- R542: the first check that fails, as status and cause; `crcOk` says whether the write data's CRC checks. -/
def Dev.portCheck (d : Dev) (t : PortTxn) (crcOk : Bool) : Option (Nat × Nat) :=
  let posted := t.cmd == cmdPosted
  if posted && !d.on F.hcpCfgPostEn then some (stSlverr, causePostOff)
  else if t.addr / 0x1_0000 ≠ (t.addr + t.len - 1) / 0x1_0000 then some (stSlverr, causePage)
  else if 0x1_0000_0000 ≤ t.addr ∧ t.addr < 0x1_0100_0000 ∧ (t.addr % 4 ≠ 0 ∨ t.len % 4 ≠ 0) then some (stSlverr, causeAlign)
  else if posted ∧ 2 ≤ d.port.posted.length then some (stBusy, causePostFull)
  else if t.cmd ≠ cmdRead ∧ !crcOk then some (stSlverr, causeDataCrc)
  else if d.now < d.port.sramAt ∧ (targetOf (t.addr + d.zeroShift t.addr)).any sramTarget then some (stBusy, causeNotReady)
  else none

/-- A header is discarded (R541). -/
def Dev.headerError (d : Dev) : Dev :=
  ((d.setPort { d.port with ignoring := true }).roll F.hcpHdrErrCount 1).raise F.hcpEvtHdrErr

/-- Write data fails its CRC (R542). -/
def Dev.dataError (d : Dev) : Dev := (d.roll F.hcpDataCrcCount 1).raise F.hcpEvtDataCrc

/-! Records (R553, R562) -/

/-- A transaction ends, and is the last to have ended. -/
def Dev.portLast (d : Dev) (t : PortTxn) : Dev :=
  let w := putF (putF (putF (putF 0 0 8 t.cmd) 8 4 t.status) 12 4 t.cause) 16 13 t.count
  (d.setWord Reg.hcpLast w).setAddr F.hcpLastAddrLoAddr F.hcpLastAddrHiAddr t.addr

/-- R553: a posted write ends. -/
def Dev.postedLast (d : Dev) (t : PortTxn) : Dev :=
  let d1 := (d.portLast t).roll F.hcpPostDoneCount 1
  if t.status = stOk then d1
  else
    let d2 := d1.raise F.hcpEvtPostErr
    if d2.on F.hcpPostStatValid then d2.raise F.hcpPostStatMore
    else
      let w := putF (putF (putF (putF 0 0 4 t.status) 4 4 t.cause) 8 13 t.count) 22 1 1
      (d2.setWord Reg.hcpPostStat w).setAddr F.hcpPostAddrLoAddr F.hcpPostAddrHiAddr t.addr

def Dev.showPending (d : Dev) : Dev := d.put F.hcpPostPendCount d.port.posted.length

/-! Transactions in the matrix (R543) -/

/-- What a burst gave, as status and cause (R540). -/
def respStatus (r : Resp) : Nat × Nat :=
  match r with
  | .okay => (stOk, causeNone)
  | .slverr => (stSlverr, causeTarget)
  | .decerr => (stDecerr, causeTarget)
  | .aborted => (stAbort, causePortReset)

/-- The rest of the burst of master 0 is carried out; answers the transaction with its final status and count. -/
def Chip.portRun (c : Chip) (t : PortTxn) : Chip × PortTxn :=
  if c.dev.inBurst 0 then
    let x := c.drain 0
    let b := x.dev.burst 0
    let r := respStatus b.resp
    (x.close 0, { t with status := r.1, cause := r.2, count := b.done, data := b.result })
  else (c, t)

/-- The status word of a transaction (R540). -/
def statusWord (status cause count : Nat) : List Byte := bytesOf 1 status ++ bytesOf 1 cause ++ bytesOf 2 count

/-- A response, with its CRC; a READ carries its data, or 0x00 where it has none. -/
def response (t : PortTxn) (status cause count : Nat) (data : List Byte) : List Byte :=
  let l := statusWord status cause count
    ++ (if t.cmd = cmdRead then (data ++ List.replicate t.len 0).take t.len else [])
  l ++ bytesOf 2 (portCrc l)

/-- The transaction in progress ends in the device, and its response is sent unless it has timed out (R547, R548). -/
def Chip.portFinish (c : Chip) : Chip :=
  match c.dev.port.cur with
  | none => c
  | some t =>
    let r := c.portRun t
    r.1.on (fun d =>
      let p := d.port
      let sent := if p.timedOut then p.sent else response r.2 r.2.status r.2.cause r.2.count r.2.data
      (d.setPort { p with cur := none, timedOut := false, sent := sent }).portLast r.2)

/-- The oldest posted write commits, after the transaction before it (R525, R553). -/
def Chip.commitPosted (c : Chip) : Chip :=
  match c.dev.port.posted with
  | [] => c
  | t :: rest =>
    let x := c.portFinish
    let y := (x.on (fun d => d.setPort { d.port with posted := rest })).issue 0 true t.addr t.len t.data .clean
    let r := y.portRun t
    r.1.on (fun d => (d.postedLast r.2).showPending)

/-- Every earlier transaction of the port completes (R525, R547). -/
def Chip.portFlush (c : Chip) : Chip := ((c.portFinish).commitPosted).commitPosted

/-- The port takes headers (R541, R556, R558). -/
def Dev.portListens (d : Dev) : Bool :=
  d.modes.inReset == .no && !d.port.ignoring && decide (d.port.readyAt ≤ d.now)

/-- A READ or WRITE that passed its checks is issued, of which the target takes `n` beats before another command is taken. -/
def Chip.portIssue (c : Chip) (t : PortTxn) (n : Nat) (ecc : EccSeen) : Chip :=
  let x := c.portFlush
  let y := (x.on (fun d => d.setPort { d.port with cur := some t, curAt := d.now, timedOut := false })).issue 0 (t.cmd == cmdWrite) t.addr t.len
    t.data ecc
  y.beats 0 n

/-- A READ or WRITE that fails a check: its response is ready. -/
def Chip.portRefuse (c : Chip) (t : PortTxn) (status cause : Nat) : Chip :=
  c.portFlush.on (fun d => d.setPort { d.port with cur := some { t with status := status, cause := cause, data := [] }, curAt := d.now, timedOut := false })

/-- A whole transaction has come over `HD` (R541 to R543, R551); one whose data are not its LEN bytes has not come whole. -/
def Chip.portFrame (c : Chip) (f : PortFrame) : Chip :=
  if !c.dev.portListens then c
  else match parseHeader f.header f.data with
    | none => c.on Dev.headerError
    | some t =>
      let crcOk := numOf f.crc == portCrc f.data
      if t.cmd ≠ cmdRead ∧ f.data.length ≠ t.len then c
      else if t.cmd = cmdPosted then
        match c.dev.portCheck t crcOk with
        | some (s, k) =>
          c.on (fun d => (d.when (k == causeDataCrc) Dev.dataError).postedLast { t with status := s, cause := k })
        | none => c.on (fun d => (d.setPort { d.port with posted := d.port.posted ++ [t] }).showPending)
      else
        match c.dev.portCheck t crcOk with
        | some (s, k) => (c.on (fun d => d.when (k == causeDataCrc) Dev.dataError)).portRefuse t s k
        | none => c.portIssue t f.beats f.ecc

/-! Port resets (R554 to R556) -/

/-- A transaction is ended by a port reset. -/
def Dev.portAborted (d : Dev) : Dev := (d.roll F.hcpAbortsCount 1).raise F.hcpEvtPortReset

/-- R555: the READ or WRITE in progress, whose response is not complete, is ended. -/
def Dev.portCut (d : Dev) : Dev :=
  match d.port.cur with
  | some t =>
    if d.port.timedOut then d
    else
      let n := (d.burst 0).done
      let d1 := (d.abortBurst 0).setPort { (d.abortBurst 0).port with cur := none }
      (d1.portLast { t with status := stAbort, cause := causePortReset, count := n }).portAborted
  | none => d

/-- R555: a transaction whose bytes have not all arrived is discarded. -/
def Dev.portCutShort (d : Dev) (header : List Byte) : Dev :=
  if header.length < 10 then d
  else match parseHeader header [] with
    | none => d.headerError
    | some t =>
      let u : PortTxn := { t with status := stAbort, cause := causePortReset }
      (if t.cmd = cmdPosted then d.postedLast u else d.portLast u).portAborted

end Sys2Proof.Machine
end

