-- ==== Sys2Proof/Machine/HostPort.lean ====
section
/-! DEFINITION. The commands of the Host Control Port (R535 to R558). -/

namespace Sys2Proof.Machine

/-- R538 -/
def execRead (f : PortFrame) (s : State) : Out := .next (s.run (fun c => c.portFrame f))

/-- R538 -/
def execWrite (f : PortFrame) (s : State) : Out := .next (s.run (fun c => c.portFrame f))

/-- R551 -/
def execWritePosted (f : PortFrame) (s : State) : Out := .next (s.run (fun c => c.portFrame f))

/-- R547: every beat has its response. -/
def execResponseReady (s : State) : Out := .next (s.run (fun c => c.portFinish))

/-- R547, R548: the response is not ready within the wait limit, which lies between 1.8 µs and 2.0 µs, and the transaction goes on. -/
def execTimeout (limitNs : Nat) (s : State) : Out :=
  let passed (d : Dev) : Bool := decide (1800 ≤ limitNs) && decide (limitNs ≤ 2000)
    && decide (100000 * d.port.curAt + limitNs * 62208 ≤ 100000 * d.now)
  .next { s with dev := match s.dev.port.cur with
    | some t =>
      s.dev.when (!s.dev.port.timedOut && passed s.dev) (fun d =>
        d.setPort { d.port with timedOut := true, sent := response t stTimeout causeWait 0 [] })
    | none => s.dev }

/-- R553: the oldest posted write ends. -/
def execPostedWriteEnd (s : State) : Out := .next (s.run (fun c => c.commitPosted))

/-- R555: what a port reset ends: the READ or WRITE in progress, and the transaction whose first bytes are `cut`. -/
def Dev.portEnd (d : Dev) (cut : Option (List Byte)) : Dev :=
  if d.port.ignoring then d
  else match cut with
    | some h => d.portCut.portCutShort h
    | none => d.portCut

/-- The port has come out of reset (R558). -/
def Dev.portAwake (d : Dev) : Bool := d.modes.inReset == .no && decide (d.port.readyAt ≤ d.now)

/-- R554, R555: `HSS_N` rises. -/
def execPortReset (cut : Option (List Byte)) (s : State) : Out :=
  .next { s with dev := s.dev.when s.dev.portAwake (fun d =>
    let d1 := d.portEnd cut
    d1.setPort { d1.port with ignoring := false }) }

/-- R554, R556: `HSS_N` has stayed low for 1 ms. -/
def execSsLong (low : PortLow) (s : State) : Out :=
  .next { s with dev := s.dev.when (s.dev.portAwake && decide (1000000 ≤ low.ns)) (fun d =>
    let d1 := d.portEnd low.cut
    (d1.setPort { d1.port with ignoring := true }).raise F.hcpEvtSsLong) }

end Sys2Proof.Machine
end

