-- ==== Sys2Proof/Machine/Management.lean ====
section
/-! DEFINITION. The commands of the Management Subsystem (R566 to R583). -/

namespace Sys2Proof.Machine

/-- R567: a write of 1 to `MGT.CTRL.RESTART`. -/
def execRestart (m : Master) (s : State) : Out :=
  .next (s.run (fun c => c.write m.val Reg.mgtCtrl (fun x => (x.ctrlWrite m.val 1, .okay))))

/-- R576: a write of 1 to `MGT.CTRL.RECOVER_GO`. -/
def execRecoverGo (m : Master) (s : State) : Out :=
  .next (s.run (fun c => c.write m.val Reg.mgtCtrl (fun x => (x.ctrlWrite m.val 2, .okay))))

/-- R568: the watchdog restarts the processor. -/
def execWatchdogExpiry (s : State) : Out :=
  .next (s.run (fun c => c.when c.dev.wdogOver (fun x => (x.on (fun d => d.raise F.mgtEvtWdog)).restartCpu causeWdog)))

/-- R568: a write of 1 to `MGT.WDOG.KICK`, its other fields written as they stand. -/
def execKick (m : Master) (s : State) : Out :=
  .next { s with dev := s.dev.write m.val Reg.mgtWdog (fun d => okay (d.wdogWrite (d.word Reg.mgtWdog ||| 0x80))) }

/-- A write of `MGT.FW_CMD` by master `m`. -/
def Chip.fwRow (c : Chip) (m : Master) (op : Nat) (slot : Bool) : Chip :=
  c.write m.val Reg.mgtFwCmd (fun x => (x.fwWrite (BitVec.ofNat 32 (op + bitOf slot * 8)), .okay))

/-- R577 -/
def execStageCheck (m : Master) (slot : Bool) (s : State) : Out := .next (s.run (fun c => c.fwRow m 1 slot))

/-- R577: STAGE_CHECK ends. -/
def execStageCheckDone (s : State) : Out :=
  .next (s.run (fun c => match c.dev.mgt.fw with
    | some (1, _) => c.stageEnd
    | _ => c))

/-- R578 -/
def execProgram (m : Master) (slot : Bool) (s : State) : Out := .next (s.run (fun c => c.fwRow m 2 slot))

/-- R578: PROGRAM ends. -/
def execProgramDone (s : State) : Out :=
  .next (s.run (fun c => match c.dev.mgt.fw with
    | some (2, n) => c.programEnd (n == 1)
    | _ => c))

/-- R577 -/
def execActivate (m : Master) (slot : Bool) (s : State) : Out := .next (s.run (fun c => c.fwRow m 3 slot))

/-- R577 -/
def execAbort (m : Master) (slot : Bool) (s : State) : Out := .next (s.run (fun c => c.fwRow m 4 slot))

/-- R579: a write of 1 to `MGT.HEALTH.OK`, which only machine mode may write. -/
def execHealthOk (m : Master) (s : State) : Out :=
  .next (s.run (fun c => c.write m.val Reg.mgtHealth (fun x => if m.val = 1 then (x.healthy, .okay) else (x, .slverr))))

/-- R579: a trial image that has not reported within 30 s is abandoned. -/
def execHealthTimeout (s : State) : Out :=
  let late := match s.dev.mgt.trialAt with
    | some t => decide (t + 30 * ticksPerSecond ≤ s.dev.now) && s.dev.modes.inReset == .no
    | none => false
  .next (s.run (fun c => c.when late (fun x => x.restartCpu causeHealth)))

/-- R583: a die temperature reaches the limit. -/
def execTalarm (sensor : Fin 6) (temp : BitVec 10) (s : State) : Out :=
  .next { s with dev := s.dev.tempSeen sensor.val temp.toNat }

/-- R583: the die temperatures are read, and the alarm ends where each is 5 °C below the limit. -/
def execTalarmClear (temps : List (BitVec 10)) (s : State) : Out :=
  let d := s.dev.each 6 (fun e i => match temps[i]? with
    | some t => e.tempSeen i t.toNat
    | none => e)
  .next { s with dev := d.when d.cool (fun e => e.lower F.mgtTalarmActive) }

/-- R582: a read of a sensor's register sets its extreme to the present value. -/
def execSensorExtremeRead (m : Master) (sensor : Sensor) (s : State) : Out :=
  let a := sensorAddr sensor
  .next { s with dev := s.dev.readThen m.val a (s.dev.word a) (fun d => d.sensorRead a) }

end Sys2Proof.Machine
end

