-- ==== Sys2Proof/Machine/Mate.lean ====
section
/-! DEFINITION. The commands of paired operation (R459 to R501), but for those that carry writes of the mate. -/

namespace Sys2Proof.Machine

/-- R462: a write of `MATE.CFG` moves the device between SOLO and REJOIN. -/
def execMateEnable (m : Master) (data : W32) (s : State) : Out :=
  .next { s with dev := s.dev.write m Reg.mateCfg (fun d => okay (d.writeMateCfg data)) }

/-- R467, R468: at the end of its holdoff the device drives its first line low. -/
def execLidSeizure (highNs : Nat) (s : State) : Out :=
  .next { s with dev := s.dev.when (s.dev.maySeize && decide (s.dev.holdoffNs ≤ highNs)) (fun d =>
    let b := d.slotB
    (d.setMate { d.mate with seizing := some d.now, drive0 := !b, drive1 := b }).seeLid b (!b)) }

/-- R468: 20 µs later the other line is sampled. -/
def execLidSample (otherHigh : Bool) (s : State) : Out :=
  .next { s with dev :=
    match s.dev.mate.seizing with
    | some t =>
      if s.dev.now < t + usTicks 20 then s.dev
      else if otherHigh || !s.dev.slotB then s.dev.seize
      else ((s.dev.dropLine).lower F.mateStatLid0).roll F.mateCollideCount 1
    | none => s.dev }

/-- The device is paired and does not hold the Lid. -/
def Dev.notHolding (d : Dev) : Bool := d.role == roleStandby || d.role == roleRejoin

/-- R469: the lines have disagreed for more than 100 µs. -/
def execInterlockFault (lid0High lid1High : Bool) (ns : Nat) (s : State) : Out :=
  .next { s with dev := s.dev.when (s.dev.notHolding && lid0High != lid1High && decide (100000 < ns)) (fun d =>
    ((d.seeLid lid0High lid1High).raise F.mateStatInterlock).raise F.mateEvtInterlock) }

/-- R469: the lines agree for 100 µs; a holder whose lines are both low drives them. -/
def execInterlockClear (lid0High lid1High : Bool) (ns : Nat) (s : State) : Out :=
  .next { s with dev := s.dev.when (s.dev.role != roleSolo && lid0High == lid1High && decide (100000 ≤ ns)) (fun d =>
    ((d.seeLid lid0High lid1High).lower F.mateStatInterlock).when (!lid0High) (fun e => e.lower F.mateStatLidDrv)) }

/-- R469: a line that the holder drives reads high; it stays ACTIVE. -/
def execLidDrv (line1 : Bool) (s : State) : Out :=
  .next { s with dev := s.dev.when (s.dev.role == roleActive) (fun d =>
    ((d.put (lidBit line1) 1).raise F.mateStatLidDrv).raise F.mateEvtInterlock) }

/-- A write of `MATE.CMD` by a master. -/
def Dev.mateCmdBy (d : Dev) (m op : Nat) : Dev :=
  d.write m Reg.mateCmd (fun e => okay (e.writeMateCmd (BitVec.ofNat 32 op)))

/-- R470 -/
def execHandover (m : Master) (s : State) : Out := .next { s with dev := s.dev.mateCmdBy m 1 }

/-- R489 -/
def execClearSuspect (m : Master) (s : State) : Out := .next { s with dev := s.dev.mateCmdBy m 2 }

/-- R498 -/
def execRejoin (m : Master) (s : State) : Out := .next { s with dev := s.dev.mateCmdBy m 3 }

/-- R487 -/
def execSelfCheck (m : Master) (s : State) : Out := .next { s with dev := s.dev.mateCmdBy m 4 }

/-- 250 µs, less the 2 % by which the timer of the sideband may be short (R472), have passed since the time `t`. -/
def Dev.pulseDue (d : Dev) (t : Option Nat) : Bool := t.all (fun x => decide (x + usTicks 245 ≤ d.now))

/-- R472: a heartbeat goes out: on the lane path once in a frame of even number, with a valid root; on the sideband every 250 µs. -/
def execHeartbeatSend (path : HbPath) (s : State) : Out :=
  .next { s with dev := s.dev.when (s.dev.role != roleSolo) (fun d =>
    match path with
    | .lane => d.when (d.rootValid && d.seqNow % 2 == 0 && d.mate.sentLane.all (fun x => decide (x < d.timing.fp8kAt.getD 0)))
        (fun e => e.setMate { e.mate with sentLane := some e.now })
    | .side => d.when (d.pulseDue d.mate.sentSide) (fun e => e.setMate { e.mate with sentSide := some e.now })) }

/-- R473 -/
def execHeartbeatReceived (h : HbIn) (s : State) : Out := .next { s with dev := s.dev.heartbeat h }

/-- R473 to R475: 300 µs without a heartbeat. -/
def execHeartbeatMiss (path : HbPath) (lid : LidLevels) (s : State) : Out :=
  let h := match path with
    | .lane => s.dev.mate.lane
    | .side => s.dev.mate.side
  .next { s with dev := s.dev.when (s.dev.role != roleSolo && h.missDue s.dev.now) (fun d0 =>
    let d := d0.when d0.notHolding (fun e => e.seeLid lid.lid0High lid.lid1High)
    (match path with
      | .lane => d.setMate { d.mate with lane := h.miss d.now }
      | .side => d.setMate { d.mate with side := h.miss d.now }).showPaths) }

/-- R476, R499: an ECHO block arrives: a request is answered, and a reply gives the delay of the mate lane as half the round trip, in ns. -/
def execEcho (on : MateLane) (payload : List Byte) (s : State) : Out :=
  let kind := fieldAt payload 1 1
  let t := fieldAt payload 2 8
  .next { s with dev := s.dev.controlArrives on payload (fun d =>
    if kind = 0 then d.mateSay 4 (echoLoad true t d.timeBase)
    else d.when (kind == 1 && d.role == roleRejoin) (fun e =>
      (e.setMate { e.mate with echoed := true }).put F.mateDelayNs ((e.timeBase - t) * 50000 / 62208))) }

/-- The frame offset: the arrival of the mate's block 0 after the device's own edge, less the delay of the mate lane (R476). -/
def Dev.frameOffset (d : Dev) (arrivalNs : Int) : Int := arrivalNs - (d.get F.mateDelayNs : Nat)

/-- A signed offset in ns as `MATE.PHASE` holds it. -/
def phaseWord (ns : Int) : Nat := (ns % 0x1_0000).toNat

/-- An offset in ns as a whole number of root periods of 19,906.56 MHz, to the nearest (R476). -/
def rootPeriods (ns : Int) : Int := (ns * 1990656 + 50000) / 100000

/-- R476, R477: once it has measured the delay, a rejoining device steps its divider chain at an `FP8K` edge, and takes the mate's sequence number. -/
def execAlignmentStep (arrivalNs : Int) (mateSeq : W32) (s : State) : Out :=
  let offsetNs := s.dev.frameOffset arrivalNs
  .next { s with dev := s.dev.when (s.dev.role == roleRejoin && s.dev.get F.mateStatRejoinStep == 2 && s.dev.atEdge && s.dev.mate.echoed) (fun d =>
    let t := d.timing
    let far := decide (50 < offsetNs.natAbs)
    let base := (t.edges + 0x1_0000_0000 - mateSeq.toNat) % 0x1_0000_0000
    let d1 : Dev := { d with timing := { t with phase := if far then t.phase + rootPeriods offsetNs else t.phase, seqBase := base },
                             ladle := { d.ladle with stepped := d.ladle.stepped || far || base != t.seqBase } }
    (d1.put F.matePhaseNs (phaseWord offsetNs)).put F.mateStatRejoinStep 3) }

/-- R478: the frame offset of a STANDBY. -/
def execOffsetMeasure (arrivalNs : Int) (s : State) : Out :=
  let offsetNs := s.dev.frameOffset arrivalNs
  .next { s with dev := s.dev.when (s.dev.role == roleStandby) (fun d =>
    (d.put F.matePhaseNs (phaseWord offsetNs)).mateBit F.mateStatPhaseErr F.mateEvtPhaseErr
      (decide (200 < offsetNs.natAbs))) }

/-- R479, R480: the changes of the ACTIVE wait for their edge at the STANDBY. -/
def execApply (on : MateLane) (payload : List Byte) (s : State) : Out :=
  .next { s with dev := s.dev.controlArrives on payload (fun e => e.when (e.role == roleStandby) (fun d =>
    { d with applies := d.applies ++ (applyItemsOf payload).map (fun x => (fieldAt payload 1 4, x)) })) }

/-- R486: 800 consecutive frames without a mismatch. -/
def execDisagreementClear (s : State) : Out :=
  let quiet := s.dev.mate.mismatches.all (fun e => decide (e + 800 ≤ s.dev.timing.edges))
  .next { s with dev := s.dev.when (s.dev.on F.mateStatDisagree && quiet) (fun d =>
    (d.lower F.mateStatDisagree).raise F.mateEvtDisagree) }

/-- R487, R488: the mate's result arrives; a device without a self-check of its own under way runs it too. -/
def execSelfchk (b : ControlBlock) (s : State) : Out :=
  let payload := b.payload
  .next { s with dev := s.dev.controlArrives b.on payload (fun d =>
    let d1 := d.when (!d.mate.checking) Dev.startSelfCheck
    let d2 := ((d1.setMate { d1.mate with health := some (BitVec.ofNat 96 (fieldAt payload 2 12)) }).put F.mateSelfchkMate
      (fieldAt payload 1 1 % 4)).selfResult
    d2.when (d2.get F.mateSelfchkLocal != d1.get F.mateSelfchkLocal) Dev.saySelfCheck) }

/-- R488: both results are known. -/
def execSelfCheckOutcome (s : State) : Out :=
  let d := s.dev
  let known (v : Nat) : Bool := v == 1 || v == 2
  let ok := d.mate.checking && known (d.get F.mateSelfchkLocal) && known (d.get F.mateSelfchkMate)
    && (d.role == roleActive || d.role == roleStandby)
  .next { s with dev := d.when ok Dev.selfOutcome }

/-- R488: disagreement still stands 100 ms after both sides passed. -/
def execSuspectTimeout (s : State) : Out :=
  let due := s.dev.mate.passAt.any (fun t => decide (t + 100 * ticksPerMs ≤ s.dev.now))
  .next { s with dev := s.dev.when (s.dev.role == roleStandby && due && s.dev.on F.mateStatDisagree) (fun d =>
    (d.setMate { d.mate with passAt := none }).setSuspect) }

/-- R491: the ACTIVE sends the epoch of the window that has ended, unless it is still sending one. A copy that has stopped goes on with the
snapshot of a mate in REJOIN (R493). -/
def execStateWindowEnd (s : State) : Out :=
  let d := s.dev
  let goes := !d.mate.stopped || d.get F.mateStatMateRole == roleRejoin
  let ok := d.role == roleActive && d.seqNow % 80 == 0 && goes && d.rootValid && !d.sendsState
  .next (s.run (fun c => c.when ok (fun x => x.keepRecords.on (fun e =>
    (e.setMate { e.mate with stopped := false }).sendEpoch ((e.seqNow / 80 + 0x1_0000_0000 - 1) % 0x1_0000_0000)))))

/-- R493: the records would exceed 512 MiB and the copy stops at the ACTIVE; the STANDBY takes a full snapshot. -/
def execStateCopyOverflow (s : State) : Out :=
  let beyond := decide (0x2000_0000 < 16 * s.dev.mate.items.length)
  let d := s.dev.when (s.dev.role == roleActive && beyond) (fun d =>
    d.setMate { d.mate with stopped := true, items := [], commit := none })
  .next { s with dev := d.when (s.dev.role == roleStandby) Dev.enterRejoin }

/-- R496: the snapshot is complete and the device is STANDBY. -/
def execSnapshotComplete (s : State) : Out :=
  let d := s.dev
  let ok := d.role == roleRejoin && d.get F.mateStatRejoinStep == 3 && d.mate.snapDone
  .next { s with dev := d.when ok (fun e =>
    ((e.setRole roleStandby).put F.mateStatRejoinStep 4).lower F.mateStatSnapPart) }

/-- R470: the mate announces the final epoch of a handover. -/
def execHandoverBlock (b : ControlBlock) (s : State) : Out :=
  .next { s with dev := s.dev.controlArrives b.on b.payload (fun e => e.when (e.role == roleStandby) (fun d =>
    d.setMate { d.mate with final := some (BitVec.ofNat 32 (fieldAt b.payload 1 4)) })) }

end Sys2Proof.Machine
end

