-- ==== Sys2Proof/Machine/Memory.lean ====
section
/-! DEFINITION. The commands of on-chip SRAM, HBM3 and the lanes' retirement (R504 to R517, R643). -/

namespace Sys2Proof.Machine

/-- A word in a pool of R502 that is scrubbed. -/
def Dev.scrubbed (d : Dev) (p : Nat × Nat) : Bool := (pools.getD (d.wordPool p) { bytes := 0 }).scrubbed

/-- What a scrub pass finds in SRAM: the words that a command names, and the poisoned ones, which are uncorrectable (R508); those of the
scrubbed pools. -/
def Dev.scrubFinds (d : Dev) (words : List (Fin 65536 × Fin 512 × EccSeen)) : List ((Nat × Nat) × EccSeen) :=
  let l := (words.map (fun w => ((w.1.val, w.2.1.val), w.2.2))).filter (fun w => !d.sram.poison.contains w.1)
  (l ++ d.sram.poison.map (fun p => (p, EccSeen.uncorrectable 0))).filter (fun w => d.scrubbed w.1)

/-- R504, R513: the scrubber completes a pass, of 8 s over SRAM or of 64 s over HBM3; it runs while it is enabled, below SHED2. Passes over
SRAM are counted. -/
def execScrubPass (hbm : Bool) (words : List (Fin 65536 × Fin 512 × EccSeen)) (addrs : List (Addr × EccSeen)) (s : State) : Out :=
  let d := s.dev
  let calm := decide (d.shedLevel < 2) && d.modes.inReset == .no
  if hbm then
    let seen := addrs.filter (fun x => d.hbmAnswers x.1.toNat)
    let due := decide (d.sram.hbmScrubAt + 64 * ticksPerSecond ≤ d.now)
    .next { s with dev := d.when (calm && due && d.on F.hbmCfgScrubEn && d.hbmUp) (fun e =>
      let e1 := seen.foldl (fun (x : Dev) a => x.hbmSeen a.1.toNat a.2) e
      { e1 with sram := { e1.sram with hbmScrubAt := e1.now } }) }
  else
    let due := decide (d.sram.scrubAt + 8 * ticksPerSecond ≤ d.now)
    .next { s with dev := d.when (calm && due && d.on F.memCfgScrubEn) (fun e =>
      let e1 := (e.scrubFinds words).foldl (fun (x : Dev) w => x.sramSeen w.1 w.2) e
      ({ e1 with sram := { e1.sram with scrubAt := e1.now } } : Dev).roll F.memScrubPassCount 1) }

/-- R506, R507, R509: a permanently faulty sub-bank starts being copied. -/
def execSubbankRetirement (sb : Fin 65536) (s : State) : Out :=
  .next (s.run (fun c => c.when (c.dev.sram.due.contains sb.val) (fun x => x.retireSubbank sb.val)))

/-- R508: the copy completes. -/
def execRetirementCopyComplete (poisoned : List (Fin 512)) (s : State) : Out :=
  .next (s.run (fun c => c.copyDone (poisoned.map (fun w => w.val))))

/-- R516, R517, R643: a permanently faulty pseudo-channel is retired. -/
def execPseudoChannelRetirement (pc : Fin 64) (s : State) : Out :=
  .next (s.run (fun c => c.when (c.dev.sram.pcDue.contains pc.val) (fun x => x.pcEvent pc.val)))

/-- R512: the stacks are trained, in PREPARE or later, with the root valid. -/
def execHbmTrainingComplete (failed : List (Fin 64)) (s : State) : Out :=
  let d := s.dev
  let ok := d.modes.inReset == .no && d.mode != modeBoot && decide (1 ≤ d.modes.stageDone) && d.rootValid && !d.hbmTrained
  .next (s.run (fun c => c.when ok (fun x => x.trained (failed.map (fun p => p.val)))))

/-- R32, R78, R643, R644: a lane is permanently faulty: it is squelched and retired. -/
def Chip.retireLane (c : Chip) (n : Nat) : Chip :=
  let d := c.dev
  let p := lanePage n
  if d.retired p then c
  else
    let d1 := ((d.raise (F.hdrCapRetired.page p)).putAll ((pageBits p).map (fun f => (f, 0)))).permanent p
    let d2 := (((d1.squelchLane n).when (decide (n < 96)) (fun e => e.aisFrom n)).setEff p 0 (if d.get (F.hdrReqState.page p) = 0 then 0 else reasonRetired)).protSee
    ({ c with dev := d2.capCommit d } : Chip).log p false

/-- R643 -/
def execLaneRetirement (lane : Lane) (s : State) : Out := .next (s.run (fun c => c.retireLane lane.val))

end Sys2Proof.Machine
end

