-- ==== Sys2Proof/Machine/ResetOps.lean ====
section
/-! DEFINITION. Cold and warm resets (R323, R374, R411, R443, R463, R510, R512, R530, R555, R558, R586, R589, R594, R623, R624, R627, R638 to R640, R645, R658, R696),
bring-up (R634 to R637) and shedding (R646 to R650). -/

namespace Sys2Proof.Machine

def Dev.warmWords (d : Dev) : Dev :=
  { d with words := d.words.foldl (fun (t : Store W32) x => Store.set resetWord t x.1 (warmWord x.1 x.2)) [] }

/-! Warm reset -/

/-- R507, R645: a sub-bank being copied is copied again once the reset ends. -/
def Dev.warmMemory (d : Dev) : Dev :=
  let d1 := (d.abortLedger 3).lower F.memStatCopying
  match d.sram.copy with
  | some (sb, _) => { d1 with sram := { d1.sram with copy := none, due := sb :: d1.sram.due.filter (fun x => x != sb) } }
  | none => d1

/-- R589, R591, R594: the management side: a session ends, the nonce is cleared, and the hart is held. -/
def Dev.warmMgt (d : Dev) : Dev :=
  (d.setMgt { d.mgt with image := none, pmp := [], halted := false, trialAt := none, fw := none, nonce := false, session := none }).put
    F.mgtBootStatState 0

/-- R623: the module bus transactions end. -/
def Dev.warmBuses (d : Dev) (busy : List Nat) : Dev :=
  { busy.foldl (fun (e : Dev) n => e.mbEnd n mbAborted 0) d with panel := {} }

/-- The lanes, the path points and the streams start again. -/
def Dev.warmLanes (d : Dev) : Dev :=
  let keys := d.paths.map (fun x => x.1)
  let d1 : Dev := { d.loseTags with
    paths := Store.remap (fun _ => {}) (fun p => { cfg := p.cfg, trc := p.trc }) d.paths
    gfp := Store.remap gfpAtReset (fun x => { cfg := x.cfg }) d.gfp
    structs := d.words.filterMap (fun x =>
      if 0x1C00_0000 ≤ x.1 ∧ x.1 < 0x1C06_0000 ∧ x.1 % 64 = 0x18 then some ((x.1 - 0x1C00_0000) / 64, x.2) else none)
    restarts := [], est := [], estAcc := [], made := [], egress := [] }
  let d2 := d1.each 104 (fun e n => e.laneReset n)
  let d3 := keys.foldl (fun (e : Dev) k => e.settlePoint false k) d2
  (d3.structs.foldl (fun (e : Dev) x => e.showCfgErr x.1) d3).flowReset

/-- R78, R80: the recovered-clock outputs are held low. -/
def Dev.lrcDown (d : Dev) : Dev := d.each 4 (fun e n => e.squelchLrc n)

/-- What a warm reset does to the device, beyond the posted writes that commit (R555, R638). -/
def Dev.warm (d : Dev) : Dev :=
  let busy := (List.range 4).filter (fun n => d.on (mbField F.pnlMbStatBusy n))
  let paired := d.role != roleSolo
  let d1 := (d.abortLedger 0).releaseLid
  let d2 := d1.warmWords
  let d3 := ({ d2 with
    mate := { released := d2.mate.released }
    snaps := []
    modes := { d2.modes with building := false, stageDone := 0, inReset := .warm, hbmKept := d.hbmTrained || d.modes.hbmKept,
                             offDue := [], skew := [] } } : Dev)
  let d4 := d3.when paired Dev.enterRejoin
  let d5 := (((d4.portCut).abortBurst 0).abortBurst 1).abortBurst 2
  let d6 := (((d5.abortBurst 3).abortBurst 4).abortBurst 5).abortBurst 6
  let d7 := ((d6.warmMemory.warmMgt).warmBuses busy).groomReset
  let d8 := (d7.warmLanes.protReset).lrcDown
  let d9 := (d8.setMode modeBoot).put F.devResetStatLast (if d.modes.warmRequested then 2 else 1)
  let d10 := d9.bump F.devResetStatWarmCount 1
  ({ d10 with modes := { d10.modes with warmRequested := false } } : Dev).setPort { d10.port with ignoring := false }

/-- R640: `WRST_N` falls, or `DEV.RESET` acts as its pulse. -/
def Chip.warmReset (c : Chip) : Chip :=
  let x := if c.dev.port.timedOut then c.portFinish else c
  ((((x.commitPosted).commitPosted).on Dev.warm)).debugUpdate

/-! Starts of the processor after a reset -/

/-- R558, R668: the warm reset ends. -/
def Chip.warmDone (c : Chip) (slotB : Bool) : Chip :=
  let on (d : Dev) : Dev :=
    let d1 := ({ d with modes := { d.modes with inReset := .no } } : Dev).put F.mateStatSlot (bitOf slotB)
    let d2 := d1.setPort { d1.port with readyAt := d1.now + usTicks 100 }
    d2.raise ⟨Reg.hdrSticky + 0x1_0000_0000, 2, 1⟩
  let x := (c.on on).boot causeWarm
  match x.dev.sram.due with
  | sb :: _ => if x.dev.get (F.hdrLedgerStState.page 3) = ledgerAborted then x.retireSubbank sb else x
  | [] => x

/-- R638: the device in a cold reset, with time from 0 again. OTP, flash and the test access port stay. -/
def Dev.cold (d : Dev) : Dev :=
  { fresh := d.fresh, mgt := { otp := d.mgt.otp, tap := d.mgt.tap } }

/-- R510: a sub-bank that fails its test is retired before first use. -/
def Chip.testFailed (c : Chip) (sb : Nat) : Chip :=
  if c.dev.sram.retired.contains sb then c
  else if c.dev.get F.memStatSpareFree = 0 then c.retireSubbank sb
  else c.switchSubbank sb

/-- R510, R558, R573: `PORST_N` rises. -/
def Chip.coldDone (c : Chip) (slotB : Bool) (failed : List Nat) : Chip :=
  let on (d : Dev) : Dev :=
    let d1 := ({ d with modes := { d.modes with inReset := .no } } : Dev).put F.mateStatSlot (bitOf slotB)
    d1.setPort { d1.port with readyAt := d1.now + ticksPerMs, sramAt := d1.now + Config.sramTest }
  (failed.foldl Chip.testFailed (c.on on)).boot causeCold

/-! Bring-up (R634 to R636) -/

/-- The pages of a stage. -/
def stagePages (k : Nat) : List Nat := (List.range 120).filter (fun p => pageStage p == k && !stage0Page p)

/-- The capability bits of a stage that have no page of their own (R46). -/
def stageUnits (k : Nat) : List (Field × Nat) :=
  if k = 3 then [(F.devCapUnitLaneArray, 1), (F.devCapUnitLineProc, 1), (F.devCapUnitContProc, 1), (F.devCapUnitTustra, 1)] else []

/-- What stage `k` needs (R634). -/
def Dev.stageReady (d : Dev) (k : Nat) : Bool :=
  if k = 1 then d.rootValid
  else if k = 2 then d.rootValid && (d.hbmTrained || d.get (F.hdrReqState.page 4) == 0 || d.retired 4)
  else true

/-- The stage of a channel that bring-up tests. -/
def channelStage : Channel → Nat
  | .page p => if stage0Page p.val then 0 else pageStage p.val
  | _ => 4

/-- R636, R643: a channel whose self-test fails twice is retired. -/
def Dev.failChannel (d : Dev) : Channel → Dev
  | .page p =>
    let n := p.val
    let d1 := (d.raise (F.hdrCapRetired.page n)).permanent n
    let d2 := (d1.putAll ((pageBits n).map (fun f => (f, 0)))).setEff n 0 reasonSelfTestFail
    d2.when (decide (0x10 ≤ n)) (fun e => e.squelchLane (n - 0x10))
  | .slice i => d.retireSlices [i.val]
  | .fport i =>
    ((d.raise ⟨Reg.flwFportRet, i.val, 1⟩).lower ⟨Reg.devCapFport, i.val, 1⟩).permanent 0xC

/-- The owning page of a channel. -/
def channelPage : Channel → Nat
  | .page p => p.val
  | _ => 0xC

/-- Stage `k` of bring-up completes: what failed is retired, and the rest of the stage is there, in one event. -/
def Chip.stageComplete (c : Chip) (k : Nat) (failed transient : List Channel) : Chip :=
  let old := c.dev
  let bad := failed.filter (fun x => channelStage x == k)
  let d0 : Dev := if k = 2 then { old with modes := { old.modes with hbmKept := false } } else old
  let d1 := (transient.filter (fun x => channelStage x == k)).foldl (fun (e : Dev) x => e.transient (channelPage x) 1) d0
  let d2 := bad.foldl Dev.failChannel d1
  let d3 := ((stagePages k).filter d2.wanted).foldl (fun (e : Dev) p => e.putAll (e.bitsUp p)) d2
  let d4 := d3.putAll (stageUnits k)
  let last := k == 4
  let d5 : Dev := { d4 with modes := { d4.modes with stageDone := k, building := !last } }
  let d6 := d5.ledger 0 d5.modes.bringUps k (if last then ledgerDone else ledgerRunning) k
  let d7 := (((d6.capCommit old).settle false).unitsDown).protSee
  bad.foldl (fun (x : Chip) b => x.log (channelPage b) false) { c with dev := d7 }

/-! Shedding (R646 to R650) -/

def thrSlack (d : Dev) (n : Nat) : Nat := d.get (F.pwrThrSlack.at 4 (n - 1))
def thrVmin (d : Dev) (n : Nat) : Nat := d.get (F.pwrThrVmin.at 4 (n - 1))

/-- What holds level `n`: 1 slack, 2 supply, 3 the floor; 0 for nothing (R646, R653). -/
def Dev.shedCause (d : Dev) (s : PowerSample) (n : Nat) : Nat :=
  if s.slack < thrSlack d n then 1
  else if s.millivolt < thrVmin d n then 2
  else if n ≤ d.get F.pwrCfgFloor then 3
  else 0

/-- The deepest level whose condition holds. -/
def Dev.shedDeepest (d : Dev) (s : PowerSample) : Nat :=
  ([4, 3, 2, 1].find? (fun n => d.shedCause s n != 0)).getD 0

/-- The sensors that a power sample reads (R582). -/
def Dev.sampled (d : Dev) (s : PowerSample) : Dev :=
  ((d.setSlack s.monitor.val s.slack).setVolt 0 s.millivolt).put F.pwrStatMinSlack s.slack

/-- R504: at SHED2 scrubbing stops, and it goes on later with the word where it stopped. -/
def Dev.scrubStops (d : Dev) : Dev := { d with sram := { d.sram with scrubStop := some d.now } }
def Dev.scrubGoes (d : Dev) : Dev :=
  match d.sram.scrubStop with
  | some t =>
    let gap := d.now - t
    { d with sram := { d.sram with scrubAt := d.sram.scrubAt + gap, hbmScrubAt := d.sram.hbmScrubAt + gap, scrubStop := none } }
  | none => d

/-- R647: a deeper level is entered. -/
def Dev.shedTo (d : Dev) (s : PowerSample) (n : Nat) : Dev :=
  let old := d.shedLevel
  let kept := d.when (decide (old < 2) && decide (2 ≤ n)) (fun e => e.each 104 Dev.keepBoost)
  let d1 := (((kept.sampled s).put F.pwrStatLevel n).put F.pwrStatCause (d.shedCause s n)).put F.pwrStatMonitor s.monitor.val
  let d2 := (List.range (n - old)).foldl (fun (e : Dev) i => e.bump ⟨Reg.pwrEntries, 8 * (old + i), 8⟩ 1) d1
  let d3 := d2.raise F.pwrEvtUp
  let d4 : Dev := { d3 with modes := { d3.modes with shedChanged := d3.now } }
  let d5 := (d4.when (decide (old < 2) && decide (2 ≤ n)) Dev.scrubStops).settle false
  if n = 4 then ((d5.when (d5.mode != modeBoot) (fun e => e.raise F.pwrEvtSafehold)).enterSafehold).unitsDown else d5.unitsDown

/-- R647: the level may be left. -/
def Dev.mayLeave (d : Dev) (s : PowerSample) (steadyMs : Nat) : Bool :=
  let n := d.shedLevel
  let dwell := d.get F.pwrHystDwell
  decide (1 ≤ n) && decide (d.get F.pwrCfgFloor < n)
    && decide (thrSlack d n + d.get F.pwrHystSlack ≤ s.slack) && decide (thrVmin d n + d.get F.pwrHystVolt ≤ s.millivolt)
    && decide (dwell ≤ steadyMs) && decide (d.modes.shedChanged + dwell * ticksPerMs ≤ d.now)

/-- R630, R647: one level is left. -/
def Dev.shedDown (d : Dev) (s : PowerSample) : Dev :=
  let n := d.shedLevel - 1
  let d1 := ((d.sampled s).put F.pwrStatLevel n).when (n == 0) (fun e => e.put F.pwrStatCause 0)
  let d2 := d1.raise F.pwrEvtDown
  let d3 : Dev := { d2 with modes := { d2.modes with shedChanged := d2.now } }
  (((d3.when (n == 1) Dev.scrubGoes).settle false).endSafehold).unitsDown

end Sys2Proof.Machine
end

