-- ==== Sys2Proof/Machine/Modes.lean ====
section
/-! DEFINITION. The commands of modes, resets, bring-up, requested states and shedding (16_modes_reset_and_faults.md, R661 to R668). -/

namespace Sys2Proof.Machine

/-- R627 -/
def execModeReqWrite (m : Master) (data : W32) (s : State) : Out :=
  .next { s with dev := s.dev.write m.val Reg.devModeReq (fun d => okay (d.regWrite Reg.devModeReq data)) }

/-- R626, R627: the device moves towards the requested mode, at the boundary that the change requires. -/
def execModeChange (s : State) : Out := .next { s with dev := s.dev.moveMode.unitsDown }

/-- R634, R635: the stage of bring-up that runs completes. -/
def execBringUpStageComplete (failed transient : List Channel) (s : State) : Out :=
  let k := s.dev.modes.stageDone + 1
  let ok := s.dev.modes.building && s.dev.modes.inReset == .no && decide (k ≤ 4) && s.dev.stageReady k
  .next (s.run (fun c => c.when ok (fun x => x.stageComplete k failed transient)))

/-- R638: `PORST_N` falls. -/
def execColdReset (s : State) : Out := .next { s with dev := s.dev.cold, mem := [] }

/-- R638 to R640: a warm reset begins. -/
def execWarmReset (s : State) : Out :=
  .next (s.run (fun c => c.when (c.dev.modes.inReset == .no) Chip.warmReset))

/-- R558, R668: `WRST_N` rises. -/
def execWarmDone (slotB : Bool) (s : State) : Out :=
  .next (s.run (fun c => c.when (c.dev.modes.inReset == .warm) (fun x => x.warmDone slotB)))

/-- R510, R558: `PORST_N` rises. With `TESTMODE` high the device stays in cold reset (R684). -/
def execPorstNRise (slotB testmode : Bool) (failed : List (Fin 65536)) (s : State) : Out :=
  .next (s.run (fun c => c.when (c.dev.modes.inReset == .cold) (fun x =>
    if testmode then x.on (fun d => d.setMgt { d.mgt with testmode := true }) else x.coldDone slotB (failed.map (fun i => i.val)))))

/-- R639 -/
def execDevResetWrite (m : Master) (data : W32) (s : State) : Out :=
  .next { s with dev := s.dev.write m.val Reg.devReset (fun d => d.writeReset data) }

/-- R662 -/
def execReqWrite (m : Master) (page : PageNo) (data : W32) (s : State) : Out :=
  .next { s with dev := s.dev.write m.val (pageAddr page.val Reg.hdrReq) (fun d => okay (d.writeReq page.val data)) }

/-- R664: `FLAG` rises when the skew clock has run for the settle time. -/
def execSkewFlag (page : PageNo) (ms : Nat) (s : State) : Out :=
  let f := F.hdrSkewFlag.page page.val
  let ok := s.dev.skewRuns page.val && s.dev.skewMs page.val == ms && decide (10 * s.dev.get (F.hdrSkewSettle.page page.val) ≤ ms)
  .next { s with dev := s.dev.when (ok && !s.dev.on f) (fun d => (d.raise f).raise (F.hdrStickySkew.page page.val)) }

/-- R647: a deeper level's condition holds. -/
def execShedLevelEnter (p : PowerSample) (s : State) : Out :=
  let n := s.dev.shedDeepest p
  .next { s with dev := s.dev.when (decide (s.dev.shedLevel < n) && s.dev.modes.inReset == .no) (fun d => d.shedTo p n) }

/-- R647: the device leaves one level; fuses that are due are burnt where P is granted again (R580). -/
def execShedLevelLeave (p : PowerSample) (steadyMs : Nat) (s : State) : Out :=
  .next (s.run (fun c => c.when (c.dev.mayLeave p steadyMs) (fun x => (x.on (fun d => d.shedDown p)).burnFuses)))

end Sys2Proof.Machine
end

