-- ==== Sys2Proof/Machine/Panel.lean ====
section
/-! DEFINITION. The commands of the panel controller (R606 to R625), and the KEY block (R614). -/

namespace Sys2Proof.Machine

/-- R606 -/
def execScanCycle (i : ScanIn) (s : State) : Out :=
  .next { s with dev := s.dev.when (s.dev.scanDue) (fun d => d.scan i) }

/-- R609, R612: 24 samples agree on pressed. -/
def execKeyPress (i : Fin 20) (s : State) : Out :=
  let ok := !s.dev.held i.val && decide (debounce ≤ s.dev.panel.runs.getD i.val 0)
  .next { s with dev := s.dev.when ok (fun d => d.pressed i.val) }

/-- R609, R610: 24 samples agree on released. -/
def execKeyRelease (i : Fin 20) (s : State) : Out :=
  let ok := s.dev.held i.val && decide (debounce ≤ s.dev.panel.runs.getD i.val 0)
  .next { s with dev := s.dev.when ok (fun d => d.released i.val) }

/-- R613, R614: a pair of inputs has been held together for 2 s. -/
def execMateHandover (a b : Fin 20) (s : State) : Out :=
  .next { s with dev := s.dev.when (s.dev.pairHeld a.val b.val) (fun d =>
    (d.setPanel { d.panel with fired := a.val :: b.val :: d.panel.fired }).handoverPress (d.word (Reg.pnlKfun + 4 * a.val))) }

/-- R610, R611: an input that stays pressed for 60 s is stuck. -/
def execStuckInput (i : Fin 20) (s : State) : Out :=
  let n := i.val
  let ok := s.dev.held n && !s.dev.isStuck n && decide (s.dev.panel.heldAt.getD n 0 + 60 * ticksPerSecond ≤ s.dev.now)
  .next { s with dev := s.dev.when ok (fun d =>
    ((d.raise (bitAt Reg.pnlStuck n)).raise F.pnlEvtStuck).when (decide (16 ≤ n)) (fun e =>
      e.put (F.pnlTchBase.at 4 (n - 16)) (e.get (F.pnlTchCount.at 4 (n - 16))))) }

/-- R611: a released electrode's baseline follows its count by one step every 64 ms. -/
def execTouchBaselineStep (i : Fin 4) (s : State) : Out :=
  let n := i.val
  let d := s.dev
  let ok := d.on ⟨Reg.pnlCfg, 16 + n, 1⟩ && !d.panel.touch.getD n false
    && decide (d.panel.stepAt.getD n 0 + 64 * ticksPerMs ≤ d.now)
  let base := d.get (F.pnlTchBase.at 4 n)
  let count := d.get (F.pnlTchCount.at 4 n)
  .next { s with dev := d.when ok (fun e =>
    (e.setPanel { e.panel with stepAt := e.panel.stepAt.set n e.now }).put (F.pnlTchBase.at 4 n)
      (if base < count then base + 1 else base - bitOf (decide (count < base)))) }

/-- R620: a cage's presence changes: to seated after 24 samples, to empty at the first. -/
def execPresenceChange (cage : Fin 104) (s : State) : Out :=
  let n := cage.val
  let run := s.dev.panel.cages.getD n 0
  let ok := if s.dev.seated n then decide (1 ≤ run) else decide (debounce ≤ run)
  .next { s with dev := s.dev.when ok (fun d =>
    (((d.setPanel { d.panel with cages := d.panel.cages.set n 0 }).put (bitAt Reg.pnlPres n) (bitOf (!d.seated n))).raise
      (bitAt Reg.pnlPresChg n)).raise F.pnlEvtPresChg) }

/-- R618: a write of 1 to `PNL.CTRL.ACO_CLR`, `LAMP` written as it stands. -/
def execAcoClr (m : Master) (s : State) : Out :=
  .next { s with dev := s.dev.write m.val Reg.pnlCtrl (fun d => okay (d.writePnlCtrl (d.word Reg.pnlCtrl ||| 2))) }

/-- R622, R623: a write of `MB_CMDn` with `GO` = 1. -/
def execGo (m : Master) (bus : Fin 4) (data : W32) (s : State) : Out :=
  .next { s with dev := s.dev.write m.val (Reg.pnlMbCmd + 0x40 * bus.val) (fun d =>
    okay (d.writeMbCmd bus.val (data ||| 0x20_0000))) }

/-- R622: a transaction ends: its bytes that were transferred are counted, all of them where it is OK, and those read lie in `MB_DATAn`. -/
def execMbDone (bus : Fin 4) (e : MbEnd) (done : Fin 17) (bytes : List Byte) (s : State) : Out :=
  let n := bus.val
  let b := s.dev.panel.buses.getD n (false, 0)
  let count := if e = .ok then b.2 else Nat.min done.val b.2
  .next { s with dev := s.dev.when (s.dev.on (mbField F.pnlMbStatBusy n)) (fun d =>
    (d.when (!b.1) (fun x => x.setBytesAt (Reg.pnlMbData + 0x40 * n) (bytes.take count))).mbEnd n (mbResult e) count) }

/-- R614: the ACTIVE judges the function of a press that its mate forwards. -/
def execKey (b : ControlBlock) (s : State) : Out :=
  .next { s with dev := s.dev.controlArrives b.on b.payload (fun d => d.keyReceived (BitVec.ofNat 32 (fieldAt b.payload 1 4))) }

end Sys2Proof.Machine
end

