-- ==== Sys2Proof/Machine/Protection.lean ====
section
/-! DEFINITION. The commands of line and path protection (R311, R425 to R458). -/

namespace Sys2Proof.Machine

/-- R435: a write of `MSP_REQg` by a master. -/
def Dev.mspReqBy (d : Dev) (m g req ch : Nat) : Dev :=
  d.write m (Reg.protMspReq + 0x40 * g) (fun e => okay (e.writeMspReq g (BitVec.ofNat 32 (req + 16 * ch))))

/-- R435 -/
def execMspClear (m : Master) (g : MspGroup) (channel : BitVec 4) (s : State) : Out :=
  .next { s with dev := s.dev.mspReqBy m g.val 1 channel.toNat }

/-- R435 -/
def execMspLockout (m : Master) (g : MspGroup) (channel : BitVec 4) (s : State) : Out :=
  .next { s with dev := s.dev.mspReqBy m g.val 2 channel.toNat }

/-- R435, R438 -/
def execMspForced (m : Master) (g : MspGroup) (channel : BitVec 4) (s : State) : Out :=
  .next { s with dev := s.dev.mspReqBy m g.val 3 channel.toNat }

/-- R435, R438 -/
def execMspManual (m : Master) (g : MspGroup) (channel : BitVec 4) (s : State) : Out :=
  .next { s with dev := s.dev.mspReqBy m g.val 4 channel.toNat }

/-- R435, R437 -/
def execMspExercise (m : Master) (g : MspGroup) (channel : BitVec 4) (s : State) : Out :=
  .next { s with dev := s.dev.mspReqBy m g.val 5 channel.toNat }

/-- R435: a write of `PROT.SNC_REQ` by a master. -/
def Dev.sncReqBy (d : Dev) (m req : Nat) (leg : Bool) : Dev :=
  d.write m Reg.protSncReq (fun e => okay (e.writeSncReq (BitVec.ofNat 32 (req + 16 * bitOf leg))))

/-- R435 -/
def execSncClear (m : Master) (leg : Bool) (s : State) : Out := .next { s with dev := s.dev.sncReqBy m 1 leg }

/-- R435: a LOCKOUT names no leg. -/
def execSncLockout (m : Master) (leg : Bool) (s : State) : Out := .next { s with dev := s.dev.sncReqBy m 2 leg }

/-- R435, R438 -/
def execSncForced (m : Master) (leg : Bool) (s : State) : Out := .next { s with dev := s.dev.sncReqBy m 3 leg }

/-- R435, R438 -/
def execSncManual (m : Master) (leg : Bool) (s : State) : Out := .next { s with dev := s.dev.sncReqBy m 4 leg }

/-- R435, R437 -/
def execSncExercise (m : Master) (leg : Bool) (s : State) : Out := .next { s with dev := s.dev.sncReqBy m 5 leg }

/-- R437, R426: the far end has answered an EXERCISE with RR on its channel, or 1 s has passed. -/
def Dev.exerciseOver (d : Dev) (g : Nat) : Bool :=
  match (d.mspSt g).exercise with
  | some c => d.received g == (codeRr, c) || decide (Nat.max (d.mspSt g).exerciseAt d.modes.resumed + ticksPerSecond ≤ d.now)
  | none => false

/-- R437: the EXERCISE ends and the group returns to its previous request. -/
def execExerciseEnd (g : MspGroup) (s : State) : Out :=
  .next { s with dev := s.dev.when (s.dev.evaluates && s.dev.exerciseOver g.val) (fun d =>
    (d.setMsp g.val { d.mspSt g.val with exercise := none }).protDecide (.msp g)) }

/-- The hold-off of a condition on channel `c` has ended (R439). -/
def Dev.holdOver (d : Dev) (t : ProtTarget) (c : Nat) : Bool :=
  (d.protSt t).onset.any (fun x => x.1 == c
    && decide (Nat.max x.2.2 d.modes.resumed + (d.protCfg t).holdoff ≤ d.now))

/-- R439: hold-off ends with the condition still present, and the request is raised. -/
def execHoldOffExpiry (t : ProtTarget) (channel : BitVec 4) (s : State) : Out :=
  .next { s with dev := s.dev.when (s.dev.evaluates && s.dev.holdOver t channel.toNat) (fun d =>
    let p := d.protSt t
    let r := p.raise (d.protCfg t) d.modes.resumed d.now
    d.setProt t { p with raised := p.raised ++ r.raised.filter (fun x => !p.raised.contains x && x.1 == channel.toNat) }) }

/-- WTR has run its length (R441, R426). -/
def Dev.wtrOver (d : Dev) (t : ProtTarget) : Bool :=
  match (d.protSt t).wtr with
  | some w => decide (Nat.max w.2 d.modes.resumed + (d.protCfg t).wtr ≤ d.now)
  | none => false

/-- R441: WTR ends; the request becomes NR and the working channel is selected again. -/
def execWtrExpiry (t : ProtTarget) (s : State) : Out :=
  .next { s with dev := s.dev.when (s.dev.evaluates && s.dev.wtrOver t) (fun d =>
    (d.setProt t { d.protSt t with wtr := none }).protDecide t) }

/-- R440 -/
def execProtectionDecision (t : ProtTarget) (s : State) : Out := .next { s with dev := s.dev.protDecide t }

/-! Protocol failures (R453) -/

/-- A protocol failure is declared or cleared; the group decides by local requests alone while one persists. -/
def Dev.setPam (d : Dev) (g : MspGroup) (l : List PamKind) : Dev :=
  ((d.setMsp g.val { d.mspSt g.val with pam := l }).raise F.protEvtPam).mspShow g.val

/-- R453 -/
def execProtocolFailure (g : MspGroup) (kind : PamKind) (s : State) : Out :=
  let d := s.dev
  let l := (d.mspSt g.val).pam
  let ok := d.mspActs g.val && !l.contains kind && d.pamSeen g.val kind && d.pamHeld g.val kind 1
  .next { s with dev := d.when ok (fun e => e.setPam g (l ++ [kind])) }

/-- R453 -/
def execPamClear (g : MspGroup) (kind : PamKind) (s : State) : Out :=
  let d := s.dev
  let l := (d.mspSt g.val).pam
  let ok := d.mspActs g.val && l.contains kind && d.pamGone g.val kind && (kind == .invalidCode || d.pamHeld g.val kind 2)
  .next { s with dev := d.when ok (fun e => e.setPam g (l.filter (fun x => x != kind))) }

/-- R445, R458: a write of `MSP_CFGg` or `MSP_WORKg0` to `MSP_WORKg3`. -/
def execMspCfgWrite (m : Master) (g : MspGroup) (word : Fin 5) (data : W32) (s : State) : Out :=
  .next { s with dev := s.dev.write m (Reg.protMspCfg + 0x40 * g.val + 4 * word.val) (fun d =>
    d.writeMspCfg g.val word.val data) }

/-- R311, R430 -/
def execSelectorWrite (m : Master) (i : SelectorId) (word : Fin 4) (data : W32) (s : State) : Out :=
  .next { s with dev := s.dev.writeTable m (selAddr i.val word.val) (fun d => d.writeSelector i.val word.val data) }

end Sys2Proof.Machine
end

