-- ==== Sys2Proof/Machine/Security.lean ====
section
/-! DEFINITION. The commands of the security engine and of the test access port (R589 to R605), but for the DMI accesses. -/

namespace Sys2Proof.Machine

/-- A write of `SEC.CMD` by master `m`, whose command `go` carries out. -/
def Chip.secRow (c : Chip) (m : Master) (go : Chip → Chip) : Chip := c.write m.val Reg.secCmd (fun x => (go x, .okay))

/-- R594 -/
def execGetNonce (m : Master) (s : State) : Out := .next (s.run (fun c => c.secRow m (fun x => x.on Dev.goNonce)))

/-- R593 -/
def execUnlock (m : Master) (s : State) : Out := .next (s.run (fun c => c.secRow m Chip.goUnlock))

/-- R592 -/
def execProvision (m : Master) (s : State) : Out := .next (s.run (fun c => c.secRow m Chip.goProvision))

/-- R591 -/
def execLock (m : Master) (s : State) : Out := .next (s.run (fun c => c.secRow m Chip.goLock))

/-- R595 -/
def execDecommission (m : Master) (s : State) : Out := .next (s.run (fun c => c.secRow m Chip.goDecommission))

/-- R590 -/
def execAttest (m : Master) (s : State) : Out := .next (s.run (fun c => c.secRow m (fun x => x.on Dev.goAttest)))

/-- R589 -/
def execExtend (m : Master) (s : State) : Out := .next (s.run (fun c => c.secRow m Chip.goExtend))

/-- R599 -/
def execDbgReqWrite (m : Master) (data : W32) (s : State) : Out :=
  .next (s.run (fun c => c.write m.val Reg.secDbg (fun x => x.dbgWrite m.val data)))

/-- R597: an instruction is loaded into the instruction register. -/
def execTapInstruction (code : BitVec 5) (s : State) : Out :=
  .next { s with dev := s.dev.setMgt { s.dev.mgt with tap := code } }

/-- R600: `TRST_N` falls: the port is reset, and IDCODE is selected. -/
def execTapReset (s : State) : Out := .next { s with dev := s.dev.setMgt { s.dev.mgt with tap := 1 } }

end Sys2Proof.Machine
end

