-- ==== Sys2Proof/Machine/Sieving.lean ====
section
/-! DEFINITION. The commands of the Sieve that do not read a block or frame (03_frame_hunting.md). -/

namespace Sys2Proof.Machine

/-- Whether a lane position exists (R141). -/
def positionOk (l : LaneSt) (pos : Nat) : Bool :=
  decide (pos < (if l.isLine then lineFrameLen l.rate else 270))

/-- The A1/A2 pattern that `PAT_LEN` chooses (R111). -/
def fasPattern (patLen : Nat) : List Byte :=
  if patLen = 0 then [0xF6, 0xF6, 0x28, 0x28] else [0xF6, 0xF6, 0xF6, 0x28, 0x28, 0x28]

/-- The bytes of a lane are a mark: the whole pattern, or a header that passes HCS, corrected first where `corr` allows it (R112,
R118 to R120). -/
def LaneSt.isMark (l : LaneSt) (corr : Bool) (bytes : List Byte) : Bool :=
  if l.isLine then bytes.take (fasPattern l.sieve.patLen).length == fasPattern l.sieve.patLen
  else (tuHeader corr bytes).ok

/-- R97, R98, R99, R112, R118, R128: a mark sighted at a position and rotation. -/
def execSighting (i : SieveId) (pos : Nat) (seen : Seen) (s : State) : Out :=
  let bytes := seen.bytes
  match i with
  | .lane n =>
    let l := s.dev.lane n.val
    .next { s with dev := s.dev.when (positionOk l pos && l.isMark false bytes && s.dev.hears n.val bytes) (fun d =>
      d.applySieve n.val (l.sieve.sight l.sieve.bg pos seen.rot.val (if l.isLine then 2 else l.sieve.delta) 0)) }
  | .gfp g =>
    let v := s.dev.gfpSieve g.val
    .next { s with dev := s.dev.when (s.dev.streamRuns g.val && pairOk (gfpCore bytes)) (fun d =>
      d.applyGfp g.val (v.sight v.gfpBg pos 0 v.gfpDelta (numOf ((gfpCore bytes).take 2)))) }

/-- The slot moves on to its next core header, `core`, which lies 4 + PLI bytes after the last (R129). -/
def Slot.nextHeader (x : Slot) (corr : Bool) (core : List Byte) : Slot :=
  { x with pos := x.pos + 4 + x.pli, pli := match pairRead (corr && x.leads) core with
      | some h => h.1
      | none => numOf (core.take 2) }

/-- R100 to R103, R112, R119, R129, R138: a slot's expected mark at `pos` is judged. On a GFP stream the slot moves to it. -/
def execExpectedMark (i : SieveId) (slot : Fin 8) (pos : Nat) (bytes : List Byte) (s : State) : Out :=
  match i with
  | .lane n =>
    let l := s.dev.lane n.val
    let ok := l.isMark (l.sieve.corr && (l.sieve.slot slot.val).leads) bytes
    .next { s with dev := s.dev.when (s.dev.hears n.val bytes && (l.sieve.slot slot.val).pos == pos) (fun d =>
      d.applySieve n.val (l.sieve.mark l.sieve.bg l.isLine slot.val ok)) }
  | .gfp g =>
    let v := s.dev.gfpSieve g.val
    let x := v.slot slot.val
    let core := gfpCore bytes
    let ok := (pairRead (v.gfpCorr && x.leads) core).isSome
    let y := x.nextHeader v.gfpCorr core
    let v1 := if x.st = .free then v else v.setSlot slot.val y
    let r := v1.mark v.gfpBg false slot.val ok
    let t := r.1.distinct v.gfpBg
    .next { s with dev := s.dev.when (s.dev.streamRuns g.val && y.pos == pos) (fun d => d.applyGfp g.val (t.1, r.2.both t.2)) }

/-- A B1 byte descrambled: it is the byte 261 N + 1 of the scrambled ones of its frame (R145, R146). -/
def b1Plain (nn : Nat) (b : Byte) : Byte := b ^^^ ((scramble 127 (List.replicate (261 * nn + 1) 0)).getLastD 0)

/-- R114: a TRIAL slot of a LINE lane compares a B1 byte with the BIP-8 of the frame before it, in its own alignment and with its own
descrambling, which `RX_SCR` does not turn off (DESIGN CHOICE, notes/assumptions/185). -/
def execTrialB1Byte (lane : PortLane) (slot : Fin 8) (frame : List Byte) (b1 : Byte) (s : State) : Out :=
  let l := s.dev.lane lane.val
  .next { s with dev := s.dev.when (l.isLine && s.dev.hears lane.val frame) (fun d =>
    d.applySieve lane.val (l.sieve.compare l.sieve.bg slot.val (decide (b1Plain (stmN l.rate) b1 = bip8 frame)) 2 2)) }

/-- R124: three frame periods have passed since a TRIAL slot of a Tustra lane began its test. -/
def execTrialTimeout (lane : Lane) (slot : Fin 8) (s : State) : Out :=
  let l := s.dev.lane lane.val
  let ok := !l.isLine && decide (3 * blocksPerFrame l.rate ≤ (l.sieve.slot slot.val).blocks)
  .next { s with dev := s.dev.when ok (fun d =>
    d.applySieve lane.val (l.sieve.judge l.sieve.bg slot.val false)) }

/-- R95: 8,000 expected mark positions have passed since the slot was barred. -/
def execBarringEnd (i : SieveId) (slot : Fin 8) (s : State) : Out :=
  match i with
  | .lane n =>
    let l := s.dev.lane n.val
    .next { s with dev := s.dev.setLane n.val { l with sieve := l.sieve.barringEnd slot.val } }
  | .gfp g => .next { s with dev := s.dev.applyGfp g.val ((s.dev.gfpSieve g.val).barringEnd slot.val, {}) }

/-- R108, R115: the ACTIVE of a LINE lane declares OOF at the fifth consecutive errored FAS. -/
def execOof (lane : PortLane) (s : State) : Out :=
  let l := s.dev.lane lane.val
  .next { s with dev := s.dev.when (l.isLine && decide (5 ≤ l.sieve.errors)) (fun d =>
    ((d.roll (F.laneSvLossCount.lane lane.val) 1).setOof lane.val true).applySieve lane.val (l.sieve.lose 2)) }

/-- 3 ms (R116). -/
def lofTicks : Nat := 1866240

/-- R116: OOF has lasted for 3 ms without a break. -/
def execLof (lane : PortLane) (s : State) : Out :=
  let l := s.dev.lane lane.val
  let since := match l.oofSince with
    | some t => decide (t + lofTicks ≤ s.dev.now)
    | none => false
  .next { s with dev := s.dev.when (l.isLine && since) (fun d => d.setLof lane.val true) }

/-- R116: the lane has been in frame for 3 ms without a break. -/
def execLofClear (lane : PortLane) (s : State) : Out :=
  let l := s.dev.lane lane.val
  let since := match l.inFrameSince with
    | some t => decide (t + lofTicks ≤ s.dev.now)
    | none => false
  .next { s with dev := s.dev.when (l.isLine && since) (fun d => d.setLof lane.val false) }

/-- R99: a write of `BG_EN` = 0 while the instance has an ACTIVE frees the other slots. -/
def Sieve.bgOff (s : Sieve) : Sieve :=
  match s.find (fun x => x.st == .active || x.won) with
  | some i => s.freeOthers false i
  | none => s

/-- R139: a new configuration of a lane's Sieve takes effect. A new pattern frees every slot but the ACTIVE, which ends a round with
no member passed (R102). -/
def Sieve.newCfg (s : Sieve) (line : Bool) (len : Nat) (w : W32) : Sieve × SieveOut :=
  let t : Sieve := { s with cfg := w }
  let t1 := if getF w 1 1 = 0 then t.bgOff else t
  if !line || getF w 0 1 = s.patLen then (t1, {})
  else
    let move (x : Slot) : Slot :=
      if x.st = .active ∨ x.won then
        { x with pos := if getF w 0 1 = 0 then (x.pos + 1) % len else (x.pos + len - 1) % len }
      else {}
    ({ t1.mapSlots move with first := none, round := 0 }, { hunting := t1.round != 0 })

/-- R139, R140: `SV_CFG` takes effect at the lane's next frame edge, or at a stream's next core header. -/
def execSvCfgApply (i : SieveId) (s : State) : Out :=
  match i with
  | .lane n =>
    let l := s.dev.lane n.val
    let v := l.sieve.newCfg l.isLine (lineFrameLen l.rate) (s.dev.word (laneAddr n.val Reg.laneSvCfg))
    .next { s with dev := s.dev.applySieve n.val v }
  | .gfp g =>
    let v := s.dev.gfpSieve g.val
    let w := s.dev.word Reg.flwSvCfg
    let v1 : Sieve := { v with cfg := w }
    .next { s with dev := s.dev.applyGfp g.val (if getF w 9 1 = 0 then v1.bgOff else v1, {}) }

/-- R199: a pointer word; in NEAR loopback it is one that the lane sends (R68). -/
def execPointerWord (p : Point) (w : BitVec 16) (s : State) : Out :=
  let k := pointKey p
  .next { s with dev := s.dev.when (s.dev.pointerLive k && s.dev.hearsWord k w) (fun d => d.pointerWord k w) }

end Sys2Proof.Machine
end

