-- ==== Sys2Proof/Machine/Dispatch.lean ====
section
/-! DEFINITION. One arm for each command: a direct call of its meaning. -/

namespace Sys2Proof.Machine

def exec (i : Instr) (s : State) : Host.Outcome State Fault Refusal :=
  match i with
  | .registerWrite m addr data be => Sys2Proof.Machine.execRegisterWrite m addr data be s
  | .snapshotCapture m addr => Sys2Proof.Machine.execSnapshotCapture m addr s
  | .busTransaction m t stall => Sys2Proof.Machine.execBusTransaction m t stall s
  | .arbitrationAging m => Sys2Proof.Machine.execArbitrationAging m s
  | .stuckTransaction m => Sys2Proof.Machine.execStuckTransaction m s
  | .remapWrite m data => Sys2Proof.Machine.execRemapWrite m data s
  | .fp8kEdge e => Sys2Proof.Machine.execFp8kEdge e s
  | .mf2kEdge => Sys2Proof.Machine.execMf2kEdge s
  | .epoch => Sys2Proof.Machine.execEpoch s
  | .ladlePassComplete => Sys2Proof.Machine.execLadlePassComplete s
  | .laneCfgWrite m lane data => Sys2Proof.Machine.execLaneCfgWrite m lane data s
  | .receiveStateRestart lane => Sys2Proof.Machine.execReceiveStateRestart lane s
  | .cdrLossOfLock lane => Sys2Proof.Machine.execCdrLossOfLock lane s
  | .cdrLock lane ppm => Sys2Proof.Machine.execCdrLock lane ppm s
  | .lrcResume n => Sys2Proof.Machine.execLrcResume n s
  | .lrcLaneChange n => Sys2Proof.Machine.execLrcLaneChange n s
  | .elasticStoreSlip lane fill => Sys2Proof.Machine.execElasticStoreSlip lane fill s
  | .prbsInject m lane => Sys2Proof.Machine.execPrbsInject m lane s
  | .prbsCheckerEnable m lane data => Sys2Proof.Machine.execPrbsCheckerEnable m lane data s
  | .prbsSync lane bits => Sys2Proof.Machine.execPrbsSync lane bits s
  | .prbsLossOfSync lane bits => Sys2Proof.Machine.execPrbsLossOfSync lane bits s
  | .eyeScanComplete lane height width => Sys2Proof.Machine.execEyeScanComplete lane height width s
  | .txeqWrite m lane data => Sys2Proof.Machine.execTxeqWrite m lane data s
  | .deadClockDeclaration r silentNs => Sys2Proof.Machine.execDeadClockDeclaration r silentNs s
  | .phaseErrorFailure error => Sys2Proof.Machine.execPhaseErrorFailure error s
  | .referenceQualified r edgesNs ppm => Sys2Proof.Machine.execReferenceQualified r edgesNs ppm s
  | .transitionHoldComplete => Sys2Proof.Machine.execTransitionHoldComplete s
  | .revertToA => Sys2Proof.Machine.execRevertToA s
  | .firstLock => Sys2Proof.Machine.execFirstLock s
  | .pullInLock => Sys2Proof.Machine.execPullInLock s
  | .refselWrite m data => Sys2Proof.Machine.execRefselWrite m data s
  | .refselApply => Sys2Proof.Machine.execRefselApply s
  | .sighting idx pos seen => Sys2Proof.Machine.execSighting idx pos seen s
  | .expectedMark idx slot pos bytes => Sys2Proof.Machine.execExpectedMark idx slot pos bytes s
  | .trialB1Byte lane slot frame b1 => Sys2Proof.Machine.execTrialB1Byte lane slot frame b1 s
  | .trialTimeout lane slot => Sys2Proof.Machine.execTrialTimeout lane slot s
  | .barringEnd idx slot => Sys2Proof.Machine.execBarringEnd idx slot s
  | .oof lane => Sys2Proof.Machine.execOof lane s
  | .lob lane => Sys2Proof.Machine.execLob lane s
  | .gfpSyncLoss g => Sys2Proof.Machine.execGfpSyncLoss g s
  | .lof lane => Sys2Proof.Machine.execLof lane s
  | .lofClear lane => Sys2Proof.Machine.execLofClear lane s
  | .svCfgApply idx => Sys2Proof.Machine.execSvCfgApply idx s
  | .tustraBlock lane slot bytes => Sys2Proof.Machine.execTustraBlock lane slot bytes s
  | .frameStartLoss lane => Sys2Proof.Machine.execFrameStartLoss lane s
  | .seqDeclare lane => Sys2Proof.Machine.execSeqDeclare lane s
  | .seqClear lane => Sys2Proof.Machine.execSeqClear lane s
  | .remoteDefectDeclare lane => Sys2Proof.Machine.execRemoteDefectDeclare lane s
  | .remoteDefectClear lane => Sys2Proof.Machine.execRemoteDefectClear lane s
  | .capacityAnnouncement lane ok2 ok3 arg2 arg3 => Sys2Proof.Machine.execCapacityAnnouncement lane ok2 ok3 arg2 arg3 s
  | .capacityChange lane => Sys2Proof.Machine.execCapacityChange lane s
  | .tuStrWrite m lane data => Sys2Proof.Machine.execTuStrWrite m lane data s
  | .copySkewed lane secondary skewed => Sys2Proof.Machine.execCopySkewed lane secondary skewed s
  | .strainerRelease lane seq point block => Sys2Proof.Machine.execStrainerRelease lane seq point block s
  | .lineFrameReceived lane bytes => Sys2Proof.Machine.execLineFrameReceived lane bytes s
  | .j0Accept lane => Sys2Proof.Machine.execJ0Accept lane s
  | .expApply m lane => Sys2Proof.Machine.execExpApply m lane s
  | .expectedTraceTakeEffect lane => Sys2Proof.Machine.execExpectedTraceTakeEffect lane s
  | .txApply m lane => Sys2Proof.Machine.execTxApply m lane s
  | .transmitTraceTakeEffect lane => Sys2Proof.Machine.execTransmitTraceTakeEffect lane s
  | .traceModeChange m lane data => Sys2Proof.Machine.execTraceModeChange m lane data s
  | .kAccept lane => Sys2Proof.Machine.execKAccept lane s
  | .kUnstable lane => Sys2Proof.Machine.execKUnstable lane s
  | .msAisDeclare lane => Sys2Proof.Machine.execMsAisDeclare lane s
  | .msAisClear lane => Sys2Proof.Machine.execMsAisClear lane s
  | .msRdiDeclare lane => Sys2Proof.Machine.execMsRdiDeclare lane s
  | .msRdiClear lane => Sys2Proof.Machine.execMsRdiClear lane s
  | .msRdiTxChange lane => Sys2Proof.Machine.execMsRdiTxChange lane s
  | .s1Accept lane => Sys2Proof.Machine.execS1Accept lane s
  | .insB1 m lane => Sys2Proof.Machine.execInsB1 m lane s
  | .insB2 m lane => Sys2Proof.Machine.execInsB2 m lane s
  | .losDeclare lane silentNs sigDet => Sys2Proof.Machine.execLosDeclare lane silentNs sigDet s
  | .losClear lane activeNs => Sys2Proof.Machine.execLosClear lane activeNs s
  | .b2ExcDeclare lane => Sys2Proof.Machine.execB2ExcDeclare lane s
  | .b2ExcClear lane => Sys2Proof.Machine.execB2ExcClear lane s
  | .pointerWord p w => Sys2Proof.Machine.execPointerWord p w s
  | .pointerStateChange p => Sys2Proof.Machine.execPointerStateChange p s
  | .fabricJustification p inc => Sys2Proof.Machine.execFabricJustification p inc s
  | .newFabricPointer p arrival => Sys2Proof.Machine.execNewFabricPointer p arrival s
  | .interpreterRestart h => Sys2Proof.Machine.execInterpreterRestart h s
  | .pathConfigTakeEffect p => Sys2Proof.Machine.execPathConfigTakeEffect p s
  | .c2Accept p label => Sys2Proof.Machine.execC2Accept p label s
  | .pathRdiAccept p bit value => Sys2Proof.Machine.execPathRdiAccept p bit value s
  | .oom idx frames => Sys2Proof.Machine.execOom idx frames s
  | .lom idx => Sys2Proof.Machine.execLom idx s
  | .psCapGo m lane data => Sys2Proof.Machine.execPsCapGo m lane data s
  | .traceCaptureComplete lane empty => Sys2Proof.Machine.execTraceCaptureComplete lane empty s
  | .nop m slot => Sys2Proof.Machine.execNop m slot s
  | .invalidate m slot => Sys2Proof.Machine.execInvalidate m slot s
  | .copyActive m slot => Sys2Proof.Machine.execCopyActive m slot s
  | .copyActiveDone ecc => Sys2Proof.Machine.execCopyActiveDone ecc s
  | .fill m slot => Sys2Proof.Machine.execFill m slot s
  | .fillDone => Sys2Proof.Machine.execFillDone s
  | .check m slot => Sys2Proof.Machine.execCheck m slot s
  | .checkDone ecc => Sys2Proof.Machine.execCheckDone ecc s
  | .arm m slot => Sys2Proof.Machine.execArm m slot s
  | .disarm m slot => Sys2Proof.Machine.execDisarm m slot s
  | .swap => Sys2Proof.Machine.execSwap s
  | .libLoad m slot => Sys2Proof.Machine.execLibLoad m slot s
  | .libLoadDone => Sys2Proof.Machine.execLibLoadDone s
  | .libSave m slot => Sys2Proof.Machine.execLibSave m slot s
  | .libSaveDone => Sys2Proof.Machine.execLibSaveDone s
  | .libErase m slot => Sys2Proof.Machine.execLibErase m slot s
  | .verifyActive m slot => Sys2Proof.Machine.execVerifyActive m slot s
  | .activeVerificationDone ecc => Sys2Proof.Machine.execActiveVerificationDone ecc s
  | .shadowWindowWrite m idx data => Sys2Proof.Machine.execShadowWindowWrite m idx data s
  | .selectorWrite m idx word data => Sys2Proof.Machine.execSelectorWrite m idx word data s
  | .flowContextWrite m f word data => Sys2Proof.Machine.execFlowContextWrite m f word data s
  | .groupConfigWrite m g word data => Sys2Proof.Machine.execGroupConfigWrite m g word data s
  | .memberConfigWrite m idx word data => Sys2Proof.Machine.execMemberConfigWrite m idx word data s
  | .flowPortStructureWrite m p g data => Sys2Proof.Machine.execFlowPortStructureWrite m p g data s
  | .shareWrite m lane high data => Sys2Proof.Machine.execShareWrite m lane high data s
  | .peakRead m f2l => Sys2Proof.Machine.execPeakRead m f2l s
  | .gfpFrameReceived g slot bytes => Sys2Proof.Machine.execGfpFrameReceived g slot bytes s
  | .csfClear g => Sys2Proof.Machine.execCsfClear g s
  | .csfSend g => Sys2Proof.Machine.execCsfSend g s
  | .exmDeclare g => Sys2Proof.Machine.execExmDeclare g s
  | .controlPacket idx c => Sys2Proof.Machine.execControlPacket idx c s
  | .sqmDeclare idx => Sys2Proof.Machine.execSqmDeclare idx s
  | .multiframeBoundary g => Sys2Proof.Machine.execMultiframeBoundary g s
  | .loaDeclare g => Sys2Proof.Machine.execLoaDeclare g s
  | .sinkMemberFail idx cause failed => Sys2Proof.Machine.execSinkMemberFail idx cause failed s
  | .sdSfSliceEnd src sf violations => Sys2Proof.Machine.execSdSfSliceEnd src sf violations s
  | .wrGo m => Sys2Proof.Machine.execWrGo m s
  | .binAlignWrite m data => Sys2Proof.Machine.execBinAlignWrite m data s
  | .bwWindowEnd n bytes => Sys2Proof.Machine.execBwWindowEnd n bytes s
  | .bwPeakRead m n => Sys2Proof.Machine.execBwPeakRead m n s
  | .bwSelWrite m n win data => Sys2Proof.Machine.execBwSelWrite m n win data s
  | .fecEnable m n data => Sys2Proof.Machine.execFecEnable m n data s
  | .traceRecordWrite u => Sys2Proof.Machine.execTraceRecordWrite u s
  | .mspClear m g channel => Sys2Proof.Machine.execMspClear m g channel s
  | .mspLockout m g channel => Sys2Proof.Machine.execMspLockout m g channel s
  | .mspForced m g channel => Sys2Proof.Machine.execMspForced m g channel s
  | .mspManual m g channel => Sys2Proof.Machine.execMspManual m g channel s
  | .mspExercise m g channel => Sys2Proof.Machine.execMspExercise m g channel s
  | .sncClear m leg => Sys2Proof.Machine.execSncClear m leg s
  | .sncLockout m leg => Sys2Proof.Machine.execSncLockout m leg s
  | .sncForced m leg => Sys2Proof.Machine.execSncForced m leg s
  | .sncManual m leg => Sys2Proof.Machine.execSncManual m leg s
  | .sncExercise m leg => Sys2Proof.Machine.execSncExercise m leg s
  | .exerciseEnd g => Sys2Proof.Machine.execExerciseEnd g s
  | .holdOffExpiry t channel => Sys2Proof.Machine.execHoldOffExpiry t channel s
  | .wtrExpiry t => Sys2Proof.Machine.execWtrExpiry t s
  | .protectionDecision t => Sys2Proof.Machine.execProtectionDecision t s
  | .protocolFailure g kind => Sys2Proof.Machine.execProtocolFailure g kind s
  | .mspCfgWrite m g word data => Sys2Proof.Machine.execMspCfgWrite m g word data s
  | .mateEnable m data => Sys2Proof.Machine.execMateEnable m data s
  | .lidSeizure highNs => Sys2Proof.Machine.execLidSeizure highNs s
  | .lidSample otherHigh => Sys2Proof.Machine.execLidSample otherHigh s
  | .interlockFault lid0High lid1High ns => Sys2Proof.Machine.execInterlockFault lid0High lid1High ns s
  | .handover m => Sys2Proof.Machine.execHandover m s
  | .clearSuspect m => Sys2Proof.Machine.execClearSuspect m s
  | .rejoin m => Sys2Proof.Machine.execRejoin m s
  | .selfCheck m => Sys2Proof.Machine.execSelfCheck m s
  | .heartbeatSend path => Sys2Proof.Machine.execHeartbeatSend path s
  | .heartbeatReceived h => Sys2Proof.Machine.execHeartbeatReceived h s
  | .heartbeatMiss path lid => Sys2Proof.Machine.execHeartbeatMiss path lid s
  | .echo on payload => Sys2Proof.Machine.execEcho on payload s
  | .alignmentStep arrivalNs mateSeq => Sys2Proof.Machine.execAlignmentStep arrivalNs mateSeq s
  | .offsetMeasure arrivalNs => Sys2Proof.Machine.execOffsetMeasure arrivalNs s
  | .apply on payload => Sys2Proof.Machine.execApply on payload s
  | .digest b => Sys2Proof.Machine.execDigest b s
  | .disagreementClear => Sys2Proof.Machine.execDisagreementClear s
  | .selfchk b => Sys2Proof.Machine.execSelfchk b s
  | .selfCheckOutcome => Sys2Proof.Machine.execSelfCheckOutcome s
  | .suspectTimeout => Sys2Proof.Machine.execSuspectTimeout s
  | .stateWindowEnd => Sys2Proof.Machine.execStateWindowEnd s
  | .stateEndBlock field8 epoch blocks records crc => Sys2Proof.Machine.execStateEndBlock field8 epoch blocks records crc s
  | .stateCopyOverflow => Sys2Proof.Machine.execStateCopyOverflow s
  | .snapshotComplete => Sys2Proof.Machine.execSnapshotComplete s
  | .handoverBlock b => Sys2Proof.Machine.execHandoverBlock b s
  | .key b => Sys2Proof.Machine.execKey b s
  | .scrubPass hbm words addrs => Sys2Proof.Machine.execScrubPass hbm words addrs s
  | .subbankRetirement sb => Sys2Proof.Machine.execSubbankRetirement sb s
  | .retirementCopyComplete poisoned => Sys2Proof.Machine.execRetirementCopyComplete poisoned s
  | .pseudoChannelRetirement pc => Sys2Proof.Machine.execPseudoChannelRetirement pc s
  | .hbmTrainingComplete failed => Sys2Proof.Machine.execHbmTrainingComplete failed s
  | .laneRetirement lane => Sys2Proof.Machine.execLaneRetirement lane s
  | .read f => Sys2Proof.Machine.execRead f s
  | .write f => Sys2Proof.Machine.execWrite f s
  | .writePosted f => Sys2Proof.Machine.execWritePosted f s
  | .responseReady => Sys2Proof.Machine.execResponseReady s
  | .timeout limitNs => Sys2Proof.Machine.execTimeout limitNs s
  | .postedWriteEnd => Sys2Proof.Machine.execPostedWriteEnd s
  | .portReset cut => Sys2Proof.Machine.execPortReset cut s
  | .ssLong low => Sys2Proof.Machine.execSsLong low s
  | .restart m => Sys2Proof.Machine.execRestart m s
  | .recoverGo m => Sys2Proof.Machine.execRecoverGo m s
  | .watchdogExpiry => Sys2Proof.Machine.execWatchdogExpiry s
  | .kick m => Sys2Proof.Machine.execKick m s
  | .stageCheck m slot => Sys2Proof.Machine.execStageCheck m slot s
  | .stageCheckDone => Sys2Proof.Machine.execStageCheckDone s
  | .program m slot => Sys2Proof.Machine.execProgram m slot s
  | .programDone => Sys2Proof.Machine.execProgramDone s
  | .activate m slot => Sys2Proof.Machine.execActivate m slot s
  | .abort m slot => Sys2Proof.Machine.execAbort m slot s
  | .healthOk m => Sys2Proof.Machine.execHealthOk m s
  | .healthTimeout => Sys2Proof.Machine.execHealthTimeout s
  | .talarm sensor temp => Sys2Proof.Machine.execTalarm sensor temp s
  | .sensorExtremeRead m sensor => Sys2Proof.Machine.execSensorExtremeRead m sensor s
  | .getNonce m => Sys2Proof.Machine.execGetNonce m s
  | .unlock m => Sys2Proof.Machine.execUnlock m s
  | .provision m => Sys2Proof.Machine.execProvision m s
  | .lock m => Sys2Proof.Machine.execLock m s
  | .decommission m => Sys2Proof.Machine.execDecommission m s
  | .attest m => Sys2Proof.Machine.execAttest m s
  | .extend m => Sys2Proof.Machine.execExtend m s
  | .dbgReqWrite m data => Sys2Proof.Machine.execDbgReqWrite m data s
  | .tapInstruction code => Sys2Proof.Machine.execTapInstruction code s
  | .dmiAccess op => Sys2Proof.Machine.execDmiAccess op s
  | .scanCycle idx => Sys2Proof.Machine.execScanCycle idx s
  | .keyPress idx => Sys2Proof.Machine.execKeyPress idx s
  | .keyRelease idx => Sys2Proof.Machine.execKeyRelease idx s
  | .mateHandover a b => Sys2Proof.Machine.execMateHandover a b s
  | .stuckInput idx => Sys2Proof.Machine.execStuckInput idx s
  | .touchBaselineStep idx => Sys2Proof.Machine.execTouchBaselineStep idx s
  | .presenceChange cage => Sys2Proof.Machine.execPresenceChange cage s
  | .acoClr m => Sys2Proof.Machine.execAcoClr m s
  | .go m bus data => Sys2Proof.Machine.execGo m bus data s
  | .mbDone bus e done bytes => Sys2Proof.Machine.execMbDone bus e done bytes s
  | .modeReqWrite m data => Sys2Proof.Machine.execModeReqWrite m data s
  | .modeChange => Sys2Proof.Machine.execModeChange s
  | .bringUpStageComplete failed transient => Sys2Proof.Machine.execBringUpStageComplete failed transient s
  | .coldReset => Sys2Proof.Machine.execColdReset s
  | .warmReset => Sys2Proof.Machine.execWarmReset s
  | .warmDone slotB => Sys2Proof.Machine.execWarmDone slotB s
  | .devResetWrite m data => Sys2Proof.Machine.execDevResetWrite m data s
  | .reqWrite m page data => Sys2Proof.Machine.execReqWrite m page data s
  | .skewFlag page ms => Sys2Proof.Machine.execSkewFlag page ms s
  | .shedLevelEnter sel => Sys2Proof.Machine.execShedLevelEnter sel s
  | .shedLevelLeave sel steadyMs => Sys2Proof.Machine.execShedLevelLeave sel steadyMs s
  | .pathTraceAccept p message => Sys2Proof.Machine.execPathTraceAccept p message s
  | .interlockClear lid0High lid1High ns => Sys2Proof.Machine.execInterlockClear lid0High lid1High ns s
  | .lidDrv line1 => Sys2Proof.Machine.execLidDrv line1 s
  | .pamClear g kind => Sys2Proof.Machine.execPamClear g kind s
  | .talarmClear temps => Sys2Proof.Machine.execTalarmClear temps s
  | .porstNRise slotB testmode failed => Sys2Proof.Machine.execPorstNRise slotB testmode failed s
  | .tapReset => Sys2Proof.Machine.execTapReset s

end Sys2Proof.Machine
end

