-- ==== Sys2Proof/Machine/Step.lean ====
section
/-! DEFINITION. One step of the device: the command at the front of the queue, or one tick of the time base. -/

namespace Sys2Proof.Machine

/-- One tick passes with nothing commanded (notes/assumptions). -/
def State.tick (s : State) : State :=
  let w := writeTraces (s.dev.tick, s.mem)
  { s with dev := w.1, mem := w.2 }

/-- The command at the front of the queue runs with the queue's rest; on an empty queue one tick passes. -/
def step (s : State) : Host.Outcome State Fault Refusal :=
  match s.pending with
  | [] => .next s.tick
  | c :: rest => exec c { s with pending := rest }

/-- The state with the command that a word spells at the front of its queue. -/
def State.withFetchWord (s : State) (nbits w : Nat) : State :=
  match decodeTableWord nbits w with
  | some c => { s with pending := c :: s.pending }
  | none => s

end Sys2Proof.Machine
end

