-- ==== Sys2Proof/Machine/Outputs.lean ====
section
/-! DEFINITION. What the device drives, as it follows from the state: its pins (R76, R78, R80, R466, R472, R560, R600, R618, R632, R633),
and what their balls carry. -/

namespace Sys2Proof.Machine

/-! Pins -/

/-- The outputs are those of SAFEHOLD (R632, R633). -/
def Dev.outputsSafe (d : Dev) : Bool :=
  d.modes.inReset != .no || d.mode == modeBoot || d.mode == modeSafehold || decide (4 ≤ d.shedLevel)

/-- `FP8K` and `MF2K` drive their pulses (R76, R632). -/
def Dev.fp8kDriven (d : Dev) : Bool := !d.outputsSafe && d.rootValid && d.on F.clkFpcfgFp8kEn
def Dev.mf2kDriven (d : Dev) : Bool := !d.outputsSafe && d.rootValid && d.on F.clkFpcfgMf2kEn

/-- An `FP8K` pulse that is driven is high for 64 ticks (R76). -/
def Dev.fp8kHigh (d : Dev) : Bool :=
  d.fp8kDriven && (match d.timing.fp8kAt with
    | some t => decide (t ≤ d.now) && decide (d.now < t + 64)
    | none => false)

def Dev.mf2kHigh (d : Dev) : Bool :=
  d.mf2kDriven && (match d.timing.mf2kAt with
    | some t => decide (t ≤ d.now) && decide (d.now < t + 64)
    | none => false)

/-- `LRCn` carries a recovered clock (R78, R80). -/
def Dev.lrcRuns (d : Dev) (n : Nat) : Bool :=
  d.modes.inReset == .no && d.mode != modeBoot && !d.on (F.clkLrcSquelched.at 4 n) && d.on (F.clkLrcEn.at 4 n)
    && d.present (lanePage (d.timing.lrc.getD n 0))

/-- `LIDn_N` is driven low: by an ACTIVE, or in a seizure, and in no safe state (R463, R466, R468, R632). -/
def Dev.lidLow (d : Dev) (line1 : Bool) : Bool :=
  d.modes.inReset == .no && (if line1 then d.mate.drive1 else d.mate.drive0)

/-- The width in ns of the pulses on `MHB_O`, or none (R472). -/
def Dev.sidebandPulse (d : Dev) : Option Nat :=
  if d.role = roleSolo then none else some (if d.role = roleActive then 2000 else 1000)

/-- `ATTN_N` is low (R560). -/
def Dev.attnLow (d : Dev) : Bool := d.attn

/-- The test access port drives the outputs from the boundary register, but for `LID0_N`, `LID1_N` and `MHB_O` (R600). -/
def Dev.boundaryDrives (d : Dev) : Bool := tapExtest.contains d.tapActs

/-! The transmit balls of a lane (R25, R64, R65, R68, R462, R489, R621, R632, R633, R637) -/

inductive TxKind where
  | boundary | squelched | prbs | looped | ais | mateProfile | traffic
deriving DecidableEq, Repr

/-- The cage of lane `n` is in use and empty (R621). -/
def Dev.cageEmpty (d : Dev) (n : Nat) : Bool :=
  d.on ⟨Reg.pnlPresUse + 4 * (n / 32), n % 32, 1⟩ && !d.on ⟨Reg.pnlPres + 4 * (n / 32), n % 32, 1⟩

/-- The device forces its outputs safe (R64, R633). -/
def Dev.forcedSafe (d : Dev) : Bool := d.mode == modeSafehold || decide (4 ≤ d.shedLevel)

/-- A cause squelches lane `n` whatever the mode is (R64, R621, R638). -/
def Dev.laneSquelched (d : Dev) (n : Nat) : Bool :=
  d.modes.inReset != .no || d.forcedSafe || d.on (F.laneTxeqSquelch.lane n) || d.eff (lanePage n) == 0 || d.cageEmpty n

/-- What the transmit balls of lane `n` carry. `FORCE_MSAIS` stands on top of the modes (R175, R633), and below the squelch causes of R64.
In TEST, FAR loopback stands before the generated pattern (DESIGN CHOICE, notes/assumptions/177). -/
def Dev.txKind (d : Dev) (n : Nat) : TxKind :=
  let test := d.inTest (lanePage n)
  if d.boundaryDrives then .boundary
  else if d.laneSquelched n then .squelched
  else if (d.lane n).isLine && (d.soh n).sent.forced && d.rootValid && !test then .ais
  else if d.outputsSafe then .squelched
  else if test && d.get (F.laneLoopMode.lane n) == 1 && !d.on (F.laneLoopNearTx.lane n) then .squelched
  else if test && d.get (F.laneLoopMode.lane n) == 2 then .looped
  else if test && d.on (F.lanePrbsGenEn.lane n) then .prbs
  else if !d.rootValid then .squelched
  else if 96 ≤ n then .mateProfile
  else if d.eff (lanePage n) = 1 then (if d.on F.devModeCfgPrepAis then .ais else .squelched)
  else if d.roleMuted then (if (d.lane n).isLine then .ais else .squelched)
  else if (d.lane n).isLine && (d.soh n).sent.ais then .ais
  else .traffic

/-- The bytes that the transmit balls of lane `n` carry, where the device itself makes frames or sends back what it receives: in FAR
loopback, what the elastic store has given (R68). -/
def Dev.ballStream (d : Dev) (n : Nat) : List Byte :=
  match d.txKind n with
  | .looped => (d.lane n).es
  | .ais => d.sentStream n
  | .mateProfile => d.sentStream n
  | .traffic => d.sentStream n
  | _ => []

end Sys2Proof.Machine
end

