-- ==== Sys2Proof/WellFormed.lean ====
section
/-! DEFINITION. The commands whose operands are what the spec's interfaces can bring: lengths, ranges and the masters that access
registers (R57, R110, R155, R238, R385, R394, R499, R523, R536, R606, R607). A command's meaning is total: it does not rest on this. -/

namespace Sys2Proof

/-- A master that issues accesses of its own to registers: the host, or the processor in machine or user mode (R523). -/
def host (m : Master) : Bool := decide (m.val < 3)

/-- A transaction carries 1 to 4,096 bytes, and data where it writes (R525, R536). -/
def transferOk (t : Transfer) : Bool :=
  decide (1 ≤ t.len) && decide (t.len ≤ 4096) && t.data.length == (if t.write then t.len else 0)

/-- The bytes of an STM-1, STM-4, STM-16 or STM-64 frame (R57, R142). -/
def frameLengths : List Nat := [2430, 9720, 38880, 155520]

/-- The bytes that a Sieve tests at a position: up to six on a lane, four on a GFP stream (R111, R118, R128). -/
def markLength : SieveId → Nat
  | .lane _ => 6
  | .gfp _ => 4

/-- Numbers without repeats, in rising order. -/
def rising : List Nat → Bool
  | [] => true
  | [_] => true
  | a :: b :: t => decide (a < b) && rising (b :: t)

/-- What a point can receive in a frame: at most the bytes of a VC-4-64c, or of a VC-3, with those of a justification. -/
def pathFrameOk (f : PathFrame) : Bool :=
  match f.point with
  | .ho _ => decide (f.bytes.length ≤ 150528)
  | .lo _ => decide (f.bytes.length ≤ 766)

/-- A header of ten bytes and, after data, its CRC (R536). -/
def frameOk (f : PortFrame) : Bool :=
  f.header.length == 10 && decide (f.data.length ≤ 4096) && decide (f.crc.length ≤ 2)

/-- The inputs of one scan: up to 16 key bits, a presence bit for each lane and four electrodes (R605 to R607). -/
def scanOk (i : ScanIn) : Bool := decide (i.keys.length ≤ 16) && i.presence.length == 104 && i.touch.length == 4

/-- A HEARTBEAT block has a payload of 264 bytes. -/
def heartbeatOk : HbIn → Bool
  | .block _ payload => payload.length == 264
  | .pulse _ => true

/-- The command can occur as it stands. -/
def wellFormed : Instr → Bool
  | .registerWrite m addr _ _ => host m && addr.toNat % 4 == 0
  | .snapshotCapture m addr => host m && addr.toNat % 4 == 0
  | .busTransaction _ t stall => transferOk t && stall.all (fun n => decide (n ≤ t.len))
  | .arbitrationAging _ => true
  | .stuckTransaction _ => true
  | .remapWrite m _ => host m
  | .fp8kEdge e => rising (e.mapUe.map (fun i => i.val)) && e.frames.all pathFrameOk
  | .mf2kEdge => true
  | .epoch => true
  | .ladlePassComplete => true
  | .laneCfgWrite m _ _ => host m
  | .receiveStateRestart _ => true
  | .cdrLossOfLock _ => true
  | .cdrLock _ _ => true
  | .lrcResume _ => true
  | .lrcLaneChange _ => true
  | .elasticStoreSlip _ _ => true
  | .prbsInject m _ => host m
  | .prbsCheckerEnable m _ _ => host m
  | .prbsSync _ _ => true
  | .prbsLossOfSync _ bits => decide (bits.length = 256)
  | .eyeScanComplete _ _ _ => true
  | .txeqWrite m _ _ => host m
  | .deadClockDeclaration _ _ => true
  | .phaseErrorFailure _ => true
  | .referenceQualified _ _ _ => true
  | .transitionHoldComplete => true
  | .revertToA => true
  | .firstLock => true
  | .pullInLock => true
  | .refselWrite m _ => host m
  | .refselApply => true
  | .sighting i _ seen => seen.bytes.length == markLength i
  | .expectedMark i _ _ bytes => bytes.length == markLength i
  | .trialB1Byte _ _ frame _ => frameLengths.contains frame.length
  | .trialTimeout _ _ => true
  | .barringEnd _ _ => true
  | .oof _ => true
  | .lob _ => true
  | .gfpSyncLoss _ => true
  | .lof _ => true
  | .lofClear _ => true
  | .svCfgApply _ => true
  | .tustraBlock _ _ bytes => bytes.length == 270
  | .frameStartLoss _ => true
  | .seqDeclare _ => true
  | .seqClear _ => true
  | .remoteDefectDeclare _ => true
  | .remoteDefectClear _ => true
  | .capacityAnnouncement _ _ _ _ _ => true
  | .capacityChange _ => true
  | .tuStrWrite m _ _ => host m
  | .copySkewed _ _ _ => true
  | .strainerRelease _ seq _ block => decide (seq < 2 ^ 32) && decide (block < 1152)
  | .lineFrameReceived _ bytes => frameLengths.contains bytes.length
  | .j0Accept _ => true
  | .expApply m _ => host m
  | .expectedTraceTakeEffect _ => true
  | .txApply m _ => host m
  | .transmitTraceTakeEffect _ => true
  | .traceModeChange m _ _ => host m
  | .kAccept _ => true
  | .kUnstable _ => true
  | .msAisDeclare _ => true
  | .msAisClear _ => true
  | .msRdiDeclare _ => true
  | .msRdiClear _ => true
  | .msRdiTxChange _ => true
  | .s1Accept _ => true
  | .insB1 m _ => host m
  | .insB2 m _ => host m
  | .losDeclare _ _ _ => true
  | .losClear _ _ => true
  | .b2ExcDeclare _ => true
  | .b2ExcClear _ => true
  | .pointerWord _ _ => true
  | .pointerStateChange _ => true
  | .fabricJustification _ _ => true
  | .newFabricPointer _ _ => true
  | .interpreterRestart _ => true
  | .pathConfigTakeEffect _ => true
  | .c2Accept _ label => decide (label < 256)
  | .pathRdiAccept _ bit value => decide (value < if bit = .k3 then 16 else 2)
  | .oom _ _ => true
  | .lom _ => true
  | .psCapGo m _ _ => host m
  | .traceCaptureComplete _ _ => true
  | .nop m _ => host m
  | .invalidate m _ => host m
  | .copyActive m _ => host m
  | .copyActiveDone _ => true
  | .fill m _ => host m
  | .fillDone => true
  | .check m _ => host m
  | .checkDone ecc => rising (ecc.map (fun i => i.val))
  | .arm m _ => host m
  | .disarm m _ => host m
  | .swap => true
  | .libLoad m _ => host m
  | .libLoadDone => true
  | .libSave m _ => host m
  | .libSaveDone => true
  | .libErase m _ => host m
  | .verifyActive m _ => host m
  | .activeVerificationDone ecc => rising (ecc.map (fun i => i.val))
  | .shadowWindowWrite m _ _ => host m
  | .selectorWrite m _ _ _ => host m
  | .flowContextWrite m _ _ _ => host m
  | .groupConfigWrite m _ _ _ => host m
  | .memberConfigWrite m _ _ _ => host m
  | .flowPortStructureWrite m _ _ _ => host m
  | .shareWrite m _ _ _ => host m
  | .peakRead m _ => host m
  | .gfpFrameReceived _ _ bytes => decide (4 ≤ bytes.length)
  | .csfClear _ => true
  | .csfSend _ => true
  | .exmDeclare _ => true
  | .controlPacket _ c => decide (c.ctrl < 16) && decide (c.sq < 256) && decide (c.mst < 256)
  | .sqmDeclare _ => true
  | .multiframeBoundary _ => true
  | .loaDeclare _ => true
  | .sinkMemberFail _ _ _ => true
  | .sdSfSliceEnd _ _ _ => true
  | .wrGo m => host m
  | .binAlignWrite m _ => host m
  | .bwWindowEnd _ _ => true
  | .bwPeakRead m _ => host m
  | .bwSelWrite m _ _ _ => host m
  | .fecEnable m _ _ => host m
  | .traceRecordWrite u => match u with
    | .tag k n _ => decide (k.toNat < 5) && decide (n.toNat < 96)
    | _ => true
  | .mspClear m _ _ => host m
  | .mspLockout m _ _ => host m
  | .mspForced m _ _ => host m
  | .mspManual m _ _ => host m
  | .mspExercise m _ _ => host m
  | .sncClear m _ => host m
  | .sncLockout m _ => host m
  | .sncForced m _ => host m
  | .sncManual m _ => host m
  | .sncExercise m _ => host m
  | .exerciseEnd _ => true
  | .holdOffExpiry _ _ => true
  | .wtrExpiry _ => true
  | .protectionDecision _ => true
  | .protocolFailure _ _ => true
  | .mspCfgWrite m _ _ _ => host m
  | .mateEnable m _ => host m
  | .lidSeizure _ => true
  | .lidSample _ => true
  | .interlockFault _ _ _ => true
  | .handover m => host m
  | .clearSuspect m => host m
  | .rejoin m => host m
  | .selfCheck m => host m
  | .heartbeatSend _ => true
  | .heartbeatReceived h => heartbeatOk h
  | .heartbeatMiss _ _ => true
  | .echo _ payload => payload.length == 264
  | .alignmentStep _ _ => true
  | .offsetMeasure _ => true
  | .apply _ payload => payload.length == 264
  | .digest b => decide (1 ≤ b.field8.toNat ∧ b.field8.toNat ≤ 64) && b.payload.length == 264
  | .disagreementClear => true
  | .selfchk b => b.payload.length == 264
  | .selfCheckOutcome => true
  | .suspectTimeout => true
  | .stateWindowEnd => true
  | .stateEndBlock field8 epoch blocks records crc =>
    field8.getLsbD 7 && epoch.length == 4 && blocks.length == 2 && records.length == 4 && crc.length == 4
  | .stateCopyOverflow => true
  | .snapshotComplete => true
  | .handoverBlock b => b.payload.length == 264
  | .key b => b.payload.length == 264
  | .scrubPass _ _ _ => true
  | .subbankRetirement _ => true
  | .retirementCopyComplete _ => true
  | .pseudoChannelRetirement _ => true
  | .hbmTrainingComplete _ => true
  | .laneRetirement _ => true
  | .read f => frameOk f && f.data.isEmpty && f.crc.isEmpty
  | .write f => frameOk f
  | .writePosted f => frameOk f
  | .responseReady => true
  | .timeout limitNs => decide (1800 ≤ limitNs ∧ limitNs ≤ 2000)
  | .postedWriteEnd => true
  | .portReset cut => cut.all (fun l => decide (l.length ≤ 4096))
  | .ssLong low => low.cut.all (fun l => decide (l.length ≤ 4096))
  | .restart m => host m
  | .recoverGo m => host m
  | .watchdogExpiry => true
  | .kick m => host m
  | .stageCheck m _ => host m
  | .stageCheckDone => true
  | .program m _ => host m
  | .programDone => true
  | .activate m _ => host m
  | .abort m _ => host m
  | .healthOk m => host m
  | .healthTimeout => true
  | .talarm _ _ => true
  | .sensorExtremeRead m _ => host m
  | .getNonce m => host m
  | .unlock m => host m
  | .provision m => host m
  | .lock m => host m
  | .decommission m => host m
  | .attest m => host m
  | .extend m => host m
  | .dbgReqWrite m _ => host m
  | .tapInstruction _ => true
  | .dmiAccess _ => true
  | .scanCycle i => scanOk i
  | .keyPress _ => true
  | .keyRelease _ => true
  | .mateHandover _ _ => true
  | .stuckInput _ => true
  | .touchBaselineStep _ => true
  | .presenceChange _ => true
  | .acoClr m => host m
  | .go m _ _ => host m
  | .mbDone _ _ done bytes => decide (bytes.length ≤ done.val)
  | .modeReqWrite m _ => host m
  | .modeChange => true
  | .bringUpStageComplete _ _ => true
  | .coldReset => true
  | .warmReset => true
  | .warmDone _ => true
  | .devResetWrite m _ => host m
  | .reqWrite m _ _ => host m
  | .skewFlag _ _ => true
  | .shedLevelEnter s => decide (s.slack ≤ 100)
  | .shedLevelLeave s _ => decide (s.slack ≤ 100)
  | .pathTraceAccept _ _ => true
  | .interlockClear _ _ _ => true
  | .lidDrv _ => true
  | .pamClear _ _ => true
  | .talarmClear temps => temps.length == 6
  | .porstNRise _ _ _ => true
  | .tapReset => true

end Sys2Proof
end

