-- ==== Sys2Proof/Safety.lean ====
section
/-! DEFINITION. What counts as a safe state and a safe run of the device, in the terms that the claims use. -/

namespace Sys2Proof.Machine

/-- The byte memories are in their canonical form, so that equal memories are equal data. -/
def State.memoryOk (s : State) : Bool := memWf s.mem && flashWf s.flash

/-- Every command that waits has operands that an interface can bring. -/
def State.queueOk (s : State) : Bool := s.pending.all wellFormed

/-- A safe state: canonical memories. -/
abbrev State.Safe (s : State) : Prop := s.memoryOk = true

/-- A step that answers a next state, and a safe one. -/
def State.StepsSafely (s : State) : Prop := ∃ t, step s = .next t ∧ t.Safe

/-- `k` steps answer next states, and every state on the way is safe. -/
def State.RunsSafely (s : State) : Nat → Prop
  | 0 => s.Safe
  | k + 1 => s.Safe ∧ ∃ t, step s = .next t ∧ t.RunsSafely k

/-! What a command leaves alone: the terms of the frames. -/

/-- The matrix's last reply to master `m`. -/
def Dev.replyTo (d : Dev) (m : Nat) : Reply := Store.get (fun _ => {}) d.replies m

/-- The registers and table words agree but at the addresses of `l`. -/
def Dev.WordsBut (l : List Nat) (d e : Dev) : Prop := ∀ a, a ∉ l → e.word a = d.word a

/-- `t` is `s` but for registers and table words at the addresses of `l`. -/
def OnlyWords (l : List Nat) (s t : State) : Prop :=
  t = { s with dev := { s.dev with words := t.dev.words } } ∧ Dev.WordsBut l s.dev t.dev

/-- What the answer to a register access of master `m` changes beside the effect of the access: its reply, the filtered event
counters (R414), and the items that the state copy lists (R491). -/
def Replied (m : Nat) (r : Resp) (d e : Dev) : Prop :=
  (e.replyTo m).resp = r ∧ (∀ j, j ≠ m → e.replyTo j = d.replyTo j)
    ∧ e.mate = { d.mate with items := e.mate.items }

/-- `t` is `s` after an access of master `m` answered with `r`, which changed words at the addresses of `l` only. -/
def AnsweredWords (m : Nat) (r : Resp) (l : List Nat) (s t : State) : Prop :=
  t = { s with dev := { s.dev with words := t.dev.words, replies := t.dev.replies, fec := t.dev.fec, mate := t.dev.mate } }
    ∧ Replied m r s.dev t.dev ∧ Dev.WordsBut l s.dev t.dev

/-- The Sieve of a lane or of a group's GFP stream. -/
def Dev.sieveOf (d : Dev) : SieveId → Sieve
  | .lane n => (d.lane n.val).sieve
  | .gfp g => d.gfpSieve g.val

/-- Background hunting is on, and what confirms a candidate, in the configuration in force (R99, R113, R119, R129). -/
def Dev.sieveBg (d : Dev) : SieveId → Bool
  | .lane n => (d.lane n.val).sieve.bg
  | .gfp g => (d.gfpSieve g.val).gfpBg

def Dev.sieveNeed (d : Dev) : SieveId → Nat
  | .lane n => if (d.lane n.val).isLine then 2 else (d.lane n.val).sieve.delta
  | .gfp g => (d.gfpSieve g.val).gfpDelta

/-- The slots but for slot `i` agree. -/
def Sieve.SlotsBut (i : Nat) (v w : Sieve) : Prop := ∀ j, j ≠ i → w.slot j = v.slot j

/-- The bits of `STICKY` and of `MASK` that page `p` has (R656, R668). -/
def headerEvents (p : PageNo) : W32 := BitVec.ofNat 32 (0x1F_0000 + pageEvtMask p.val)

/-- Master `m` may write the register or table word at `a` now: no reset is in force and no rule refuses it. -/
abbrev State.mayWrite (s : State) (m a : Nat) : Prop := s.dev.grant m a true = .ok

abbrev State.mayRead (s : State) (m a : Nat) : Prop := s.dev.grant m a false = .ok

/-- The commands of `GRM.CMD`, with their values of `OP` (R307). -/
def groomerCommands (m : Master) (slot : Fin 64) : List (Instr × Nat) :=
  [(.invalidate m slot, opInvalidate), (.copyActive m slot, opCopyActive), (.fill m slot, opFill), (.check m slot, opCheck),
    (.arm m slot, opArm), (.disarm m slot, opDisarm), (.libLoad m slot, opLibLoad), (.libSave m slot, opLibSave),
    (.libErase m slot, opLibErase), (.verifyActive m slot, opVerify)]

/-- `t` keeps the byte memories of `s`. -/
abbrev KeepsMemories (s t : State) : Prop := t.mem = s.mem ∧ t.flash = s.flash

/-- `t` is `s` after an access of master `m` answered with `r`, which changed words at the addresses of `l` and whatever else
the statement says of the engines, but no memory. -/
def Accessed (m : Nat) (r : Resp) (l : List Nat) (s t : State) : Prop :=
  (t.dev.replyTo m).resp = r ∧ Dev.WordsBut l s.dev t.dev ∧ KeepsMemories s t

/-- A CONTROL block on mate lane `on` reaches its command: the pair uses the lane, which is in FRAME and is the one the block names. -/
def Dev.hearsControl (d : Dev) (on : MateLane) (payload : List Byte) : Prop :=
  d.role ≠ roleSolo ∧ d.inFrame (96 + on.val) = true ∧ on.val ∉ d.mate.excluded ∧ fieldAt payload 0 1 = on.val
    ∧ (d.get F.mateCfgLanes).testBit on.val = true

/-- `GRM.CMD_STAT` shows command `op`, its result and whether it runs. -/
def Dev.GroomerShows (d : Dev) (op res : Nat) (busy : Bool) : Prop :=
  d.get F.grmCmdStatOp = op ∧ d.get F.grmCmdStatResult = res ∧ d.on F.grmCmdStatBusy = busy

/-- The processor has started once more since `d`, for `cause` (R567, R573). -/
def Dev.CpuStarted (e d : Dev) (cause : Nat) : Prop :=
  e.get F.mgtBootStatCause = cause ∧ e.get F.mgtBootStatStarts = Nat.min (d.get F.mgtBootStatStarts + 1) 65535
    ∧ e.on F.mgtEvtBoot = true ∧ e.mgt.fw = none ∧ e.mgt.halted = false ∧ 1 ≤ e.bootState

end Sys2Proof.Machine
end

