-- ==== Sys2Proof/Certificates/Slice0/Obligations.lean ====
section
/-! DEFINITION. The statements for the provers. -/

open Sys2Proof Sys2Proof.Machine

/-! The machine as a whole -/

/-- A step with a command at the front of the queue is that command's effect on the state with the queue's rest. -/
def Obligations.StepRunsFrontCommand : Prop :=
  ∀ (c : Instr) (rest : List Instr) (s : State), s.pending = c :: rest → step s = exec c { s with pending := rest }

/-- Every command answers a next state and leaves the queue as it is. With nothing commanded one tick of the time base
passes (the model's own choice, notes/assumptions/2): what it changes is what each lane sends, what the registers show of it, and the records of
the Skewer that reach its ring; on a device without a root, with no lane set up, no group and no such record, nothing but the time. -/
def Obligations.QueueAndIdleSteps : Prop :=
  (∀ (c : Instr) (s : State), ∃ t, exec c s = .next t ∧ t.pending = s.pending)
  ∧ (∀ s : State, s.pending = [] → ∃ t, step s = .next t ∧ t.dev.now = s.dev.now + 1
      ∧ t = { s with mem := t.mem, dev := { s.dev with
                now := t.dev.now, words := t.dev.words, lanes := t.dev.lanes, acc := t.dev.acc, bw := t.dev.bw, egress := t.dev.egress,
                skw := t.dev.skw } }
      ∧ (s.dev.hbmUp = false ∨ s.dev.skw.waiting = [] → t.mem = s.mem)
      ∧ (s.dev.rootValid = false → s.dev.lanes = [] → s.dev.mspGroupsOn = [] → s.dev.skw.waiting = [] →
          t = { s with dev := { s.dev with now := t.dev.now } }))

/-- From every state with canonical memories each step leads to a state with canonical memories. -/
def Obligations.StepKeepsMemoriesCanonical : Prop :=
  ∀ s t : State, s.Safe → step s = .next t → t.Safe

/-! The bus matrix -/

/-- R11, R12, R521, R603, R656, R668: a write with byte enables of the two common-header registers that software shares with the
device: their reserved bits, those of PAGE_EVT that a page does not use among them, stay as they are.
Machine mode alone writes DEV.BOOTCTL. Readings of the model: notes/assumptions/89. -/
def Obligations.SharedRegisterWrites : Prop :=
  (∀ (m : Master) (p : PageNo) (data : W32) (be : BitVec 4) (a : Addr) (s : State),
      m.val < 3 → s.dev.busFree m.val = true → s.dev.inBurst m.val = false → s.mayWrite m.val a.toNat →
      (a.toNat = pageAddr p Reg.hdrMask →
        ∃ t, exec (.registerWrite m a data be) s = .next t ∧ AnsweredWords m.val .okay [a.toNat] s t
          ∧ t.dev.word a.toNat = ((s.dev.word a.toNat &&& ~~~(BitVec.ofNat 32 (beMask be) &&& headerEvents p))
              ||| (data &&& (BitVec.ofNat 32 (beMask be) &&& headerEvents p))))
      ∧ (a.toNat = pageAddr p Reg.hdrSticky →
        ∃ t, exec (.registerWrite m a data be) s = .next t ∧ AnsweredWords m.val .okay [a.toNat] s t
          ∧ t.dev.word a.toNat
              = (s.dev.word a.toNat &&& ~~~(data &&& (BitVec.ofNat 32 (beMask be) &&& headerEvents p &&& ~~~0x10000#32)))))
  ∧ (∀ (m : Master) (data : W32) (s : State), s.mayWrite m.val Reg.devBootctl →
      (m.val = 1 → ∃ t, exec (.remapWrite m data) s = .next t ∧ AnsweredWords m.val .okay [Reg.devBootctl] s t
        ∧ t.dev.word Reg.devBootctl = ((s.dev.word Reg.devBootctl &&& ~~~1#32) ||| (data &&& 1#32)))
      ∧ (m.val ≠ 1 → ∃ t, exec (.remapWrite m data) s = .next t ∧ AnsweredWords m.val .slverr [] s t))

/-- R518, R522, R525, R564, R565: a whole transaction to the processor SRAM stores or loads its bytes, the processor's where the PMP lets
it pass; one that the PMP refuses changes nothing. Readings of the model: notes/assumptions/69, 73. -/
def Obligations.SramTransaction : Prop :=
  ∀ (m : Master) (x : Transfer) (s : State),
    m.val < 3 → s.dev.busFree m.val = true → s.dev.inBurst m.val = false → 1 ≤ x.len →
    0x0400_0000 ≤ x.addr.toNat → x.addr.toNat + x.len ≤ 0x0440_0000 →
    (isProcessor m.val = true → s.dev.pmpPasses m.val x.addr.toNat x.len x.write = false →
      exec (.busTransaction m x none) s = .next s)
    ∧ (x.write = true → x.data.length = x.len →
        (isProcessor m.val = false ∨ s.dev.pmpPasses m.val x.addr.toNat x.len true = true) →
      ∃ t, exec (.busTransaction m x none) s = .next t ∧ (t.dev.replyTo m.val).resp = .okay ∧ t.flash = s.flash
        ∧ (x.ecc = .clean → s.dev.sram.poison = [] → t.dev.words = s.dev.words)
        ∧ (∀ i, i < x.len → memByte t.mem (x.addr.toNat + i) = x.data.getD i 0)
        ∧ ∀ b, (b < x.addr.toNat ∨ x.addr.toNat + x.len ≤ b) → memByte t.mem b = memByte s.mem b)
    ∧ (x.write = false → x.ecc = .clean → s.dev.sram.poison = [] →
        (isProcessor m.val = false ∨ s.dev.pmpPasses m.val x.addr.toNat x.len false = true) →
      ∃ t, exec (.busTransaction m x none) s = .next t
        ∧ t.dev.replyTo m.val = { resp := .okay, data := memRead s.mem x.addr.toNat x.len }
        ∧ t.mem = s.mem ∧ t.flash = s.flash ∧ t.dev.words = s.dev.words)

/-- R526, R529: a request that waits rises one class for every 10 µs (622.08 ticks each µs), and a transaction that has waited
200 µs ends with SLVERR; neither gives the target a further beat. Readings of the model: notes/assumptions/9, 123. -/
def Obligations.WaitingTransactions : Prop :=
  ∀ (m : Master) (b : Burst) (s : State), s.dev.burst m.val = b → b ≠ {} →
    (((m.val = 1 ∨ m.val = 2 ∨ m.val = 5) ∧ b.rises < 2 ∨ (m.val = 0 ∨ m.val = 4) ∧ b.rises = 0) →
        b.since + 6221 * (b.rises + 1) ≤ s.dev.now →
      ∃ t, exec (.arbitrationAging m) s = .next t
        ∧ t = { s with dev := { s.dev with bursts := t.dev.bursts, words := t.dev.words } }
        ∧ t.dev.burst m.val = { b with rises := b.rises + 1 }
        ∧ t.dev.get F.mtxAgedCount = (s.dev.get F.mtxAgedCount + 1) % 2 ^ 32 ∧ Dev.WordsBut [Reg.mtxAged] s.dev t.dev)
    ∧ ((m.val = 0 → s.dev.port.cur = none) → b.ended = false → b.since + 124416 ≤ s.dev.now →
      ∃ t, exec (.stuckTransaction m) s = .next t ∧ t.dev.burst m.val = {} ∧ (t.dev.replyTo m.val).resp = .slverr
        ∧ t.dev.get F.mtxStuckCount = (s.dev.get F.mtxStuckCount + 1) % 2 ^ 32 ∧ t.dev.on F.mtxEvtStuck = true
        ∧ Dev.WordsBut [Reg.mtxStuck, F.mtxEvtStuck.off] s.dev t.dev ∧ t.mem = s.mem ∧ t.flash = s.flash)

/-- R77, R92, R373: reading the low word of the time base captures the high word for the reading master alone. A read of a
peak register returns it and sets it to the present count. Readings of the model: notes/assumptions/119. -/
def Obligations.ReadsWithEffects : Prop :=
  (∀ (m : Master) (a : Addr) (s : State), m.val < 3 → a.toNat = Reg.clkTbLo → s.mayRead m.val Reg.clkTbLo →
      ∃ t, exec (.snapshotCapture m a) s = .next t
        ∧ t.dev.replyTo m.val = { resp := .okay, data := wordBytes (BitVec.ofNat 32 s.dev.timeBase) }
        ∧ (t.dev.snap m.val Reg.clkTbHi).toNat = s.dev.timeBase / 2 ^ 32 + (if s.dev.rootValid then 2 ^ 31 else 0)
        ∧ (∀ j : Master, j ≠ m → ∀ b, t.dev.snap j.val b = s.dev.snap j.val b ∧ t.dev.replyTo j.val = s.dev.replyTo j.val)
        ∧ t = { s with dev := { s.dev with snaps := t.dev.snaps, replies := t.dev.replies, fec := t.dev.fec } })
  ∧ (∀ (m : Master) (f2l : Bool) (s : State),
      let a := if f2l then Reg.psqPeakF2l else Reg.psqPeakL2f
      let peak := if f2l then F.psqPeakF2lBytes else F.psqPeakL2fBytes
      let count := if f2l then F.psqCountF2lBytes else F.psqCountL2fBytes
      s.mayRead m.val a →
      ∃ t, exec (.peakRead m f2l) s = .next t ∧ t.dev.replyTo m.val = { resp := .okay, data := wordBytes (s.dev.word a) }
        ∧ t.dev.get peak = s.dev.get count ∧ AnsweredWords m.val .okay [a] s t)

/-- R523, R597, R598, R601: with the DMI instruction in the test access port, an access below OBSERVE fails. In OBSERVE a halt request and a resume
are ignored, and a write of the system bus and an abstract command are refused. In FULL the hart halts and resumes, an abstract command completes,
and a write of the system bus completes, one to the processor SRAM with its four bytes stored. From OBSERVE up `dmstatus` and the system bus are read.
Readings of the model: notes/assumptions/27, 28, 122. -/
def Obligations.DebugModuleAccess : Prop :=
  ∀ s : State, s.dev.mgt.tap = 0x11#5 → s.dev.modes.inReset = .no →
    let ends (t : State) (status : Nat) : Prop :=
      t = { s with dev := { s.dev with mgt := { s.dev.mgt with dmiStatus := status, dmiData := t.dev.mgt.dmiData } } }
    (s.dev.debugLevel = 0 → ∀ op, ∃ t, exec (.dmiAccess op) s = .next t ∧ ends t 2)
    ∧ (s.dev.debugLevel = 1 →
        (∃ t, exec (.dmiAccess .haltReq) s = .next t ∧ ends t 0) ∧ (∃ t, exec (.dmiAccess .resumeReq) s = .next t ∧ ends t 0)
        ∧ (∃ t, exec (.dmiAccess .abstractCmd) s = .next t ∧ ends t 2)
        ∧ ∀ a data, ∃ t, exec (.dmiAccess (.sysBusWrite a data)) s = .next t ∧ ends t 2)
    ∧ (s.dev.debugLevel = 2 →
        (s.dev.mgt.halted = false → ∃ t, exec (.dmiAccess .haltReq) s = .next t
          ∧ t = { s with dev := { s.dev with mgt := { s.dev.mgt with halted := true, haltAt := s.dev.now, dmiStatus := 0,
                                                                      dmiData := t.dev.mgt.dmiData } } })
        ∧ (s.dev.mgt.halted = true → ∃ t, exec (.dmiAccess .resumeReq) s = .next t
          ∧ t = { s with dev := { s.dev with mgt := { s.dev.mgt with
                    halted := false, wdogAt := s.dev.mgt.wdogAt + (s.dev.now - s.dev.mgt.haltAt), dmiStatus := 0,
                    dmiData := t.dev.mgt.dmiData } } })
        ∧ (∃ t, exec (.dmiAccess .abstractCmd) s = .next t ∧ ends t 0)
        ∧ (∀ a data, ∃ t, exec (.dmiAccess (.sysBusWrite a data)) s = .next t ∧ t.dev.mgt.dmiStatus = 0
          ∧ (s.dev.inBurst 1 = false → 0x0400_0000 ≤ a.toNat → a.toNat < 0x0440_0000 →
              let b := a.toNat / 4 * 4
              t.flash = s.flash ∧ (t.dev.replyTo 1).resp = .okay ∧ (∀ i, i < 4 → memByte t.mem (b + i) = (wordBytes data).getD i 0)
              ∧ ∀ x, (x < b ∨ b + 4 ≤ x) → memByte t.mem x = memByte s.mem x)))
    ∧ (1 ≤ s.dev.debugLevel →
        (∃ t, exec (.dmiAccess .readDmstatus) s = .next t ∧ t.dev.mgt.dmiStatus = 0
          ∧ t = { s with dev := { s.dev with fresh := t.dev.fresh, mgt := { s.dev.mgt with dmiStatus := 0, dmiData := t.dev.mgt.dmiData } } }
          ∧ (t.dev.mgt.dmiData.getLsbD 8 = s.dev.mgt.halted ∧ t.dev.mgt.dmiData.getLsbD 9 = s.dev.mgt.halted
            ∧ t.dev.mgt.dmiData.getLsbD 10 = !s.dev.mgt.halted ∧ t.dev.mgt.dmiData.getLsbD 11 = !s.dev.mgt.halted))
        ∧ (∀ a, ∃ t, exec (.dmiAccess (.sysBusRead a)) s = .next t ∧ t.dev.mgt.dmiStatus = 0
          ∧ (s.dev.inBurst 1 = false → s.dev.sram.poison = [] → 0x0400_0000 ≤ a.toNat → a.toNat < 0x0440_0000 →
              wordBytes t.dev.mgt.dmiData = memRead s.mem (a.toNat / 4 * 4) 4 ∧ t.mem = s.mem ∧ t.flash = s.flash
                ∧ t.dev.words = s.dev.words)))

/-! The Timing Unit -/

/-- R81, R82, R84, R86, R87, R694: an input without an edge for 64 ns, and the one in use when the phase error exceeds two periods, is no longer
qualified, which its status shows, and its loss is an event. Where the loop used it, it holds towards the other input if that is qualified and the
mode is AUTO; otherwise it falls to its floor, and coasts or the root is lost as CLK.LOSS_POLICY says, and it pulls in to the other input only
where that is qualified and the mode allows it. A loop that was on its way to the input goes to the other one if that is qualified and allowed, and
stops otherwise; a loop that does not use the input stays as it is. Readings of the model: notes/assumptions/4, 180, 181, 182. -/
def Obligations.ReferenceLost : Prop :=
  ∀ (r : Ref) (s : State) (c : Instr),
    ((∃ ns, 64 ≤ ns ∧ c = .deadClockDeclaration r ns)
        ∨ (∃ e, 200 < e ∧ c = .phaseErrorFailure e ∧ s.dev.timing.loop = .locked r)) →
    let o := otherRef r
    let other := (s.dev.timing.ok o).isSome && s.dev.timing.allows o
    ∃ t, exec c s = .next t ∧ t.mem = s.mem ∧ t.flash = s.flash ∧ t.dev.now = s.dev.now
      ∧ t.dev.timing.ok r = none ∧ t.dev.timing.ok o = s.dev.timing.ok o
      ∧ t.dev.timing.sel = s.dev.timing.sel ∧ t.dev.timing.edges = s.dev.timing.edges
      ∧ t.dev.on (match r with | .a => F.clkStatusAOk | .b => F.clkStatusBOk) = false
      ∧ ((s.dev.timing.ok r).isSome = true → t.dev.on (clkEvent (match r with | .a => 1 | .b => 2)) = true)
      ∧ (s.dev.timing.loop = .locked r ∨ s.dev.timing.loop = .hold r →
          (2 ≤ s.dev.timing.mode → (s.dev.timing.ok o).isSome = true →
            t.dev.timing.loop = .hold o ∧ t.dev.on F.clkStatusLock = false ∧ t.dev.on F.clkStatusHold = true)
          ∧ (s.dev.timing.mode < 2 ∨ s.dev.timing.ok o = none →
            t.dev.timing.loop = (if other then .pullIn o else .floor) ∧ t.dev.on F.clkStatusLock = false
            ∧ t.dev.on F.clkStatusHold = other
            ∧ (s.dev.get F.clkLossPolicyPolicy = 0 → t.dev.on F.clkCoastActive = true ∧ t.dev.on (clkEvent 3) = true)
            ∧ (s.dev.get F.clkLossPolicyPolicy ≠ 0 → t.dev.rootValid = false ∧ t.dev.on (clkEvent 4) = true)))
      ∧ (s.dev.timing.loop = .acquiring r → t.dev.timing.loop = (if other then .acquiring o else .idle))
      ∧ (s.dev.timing.loop = .pullIn r → t.dev.timing.loop = (if other then .pullIn o else .floor))
      ∧ (s.dev.timing.loop = .locked o ∨ s.dev.timing.loop = .hold o ∨ s.dev.timing.loop = .acquiring o ∨ s.dev.timing.loop = .pullIn o
          ∨ s.dev.timing.loop = .idle ∨ s.dev.timing.loop = .floor → t.dev.timing.loop = s.dev.timing.loop)

/-- R72, R82, R83: an input qualifies after 10 ms of edges near the locked reference; a hold ends with the loop locked to its
input, counted in SWITCHES; and AUTO_A goes back to A once A has been qualified for REVERT seconds.
Readings of the model: notes/assumptions/9. -/
def Obligations.ReferenceChange : Prop :=
  ∀ (r : Ref) (s : State),
    (∀ (ns : Nat) (ppm : Int), 10000000 ≤ ns → s.dev.modes.inReset ≠ .cold → s.dev.timing.ok r = none →
        s.dev.timing.loop = .locked (otherRef r) → -50 ≤ ppm → ppm ≤ 50 → s.dev.timing.allows (otherRef r) = true →
      ∃ t, exec (.referenceQualified r ns ppm) s = .next t ∧ t.dev.timing.ok r = some s.dev.now
        ∧ t.dev.on (match r with | .a => F.clkStatusAOk | .b => F.clkStatusBOk) = true
        ∧ t.dev.timing.loop = s.dev.timing.loop ∧ Dev.WordsBut [Reg.clkStatus] s.dev t.dev
        ∧ t = { s with dev := { s.dev with words := t.dev.words, timing := t.dev.timing } })
    ∧ (s.dev.timing.loop = .hold r → s.dev.timing.allows r = true →
      ∃ t, exec .transitionHoldComplete s = .next t ∧ t.dev.timing = { s.dev.timing with loop := .locked r }
        ∧ t.dev.on F.clkStatusLock = true ∧ t.dev.on F.clkStatusHold = false
        ∧ t.dev.get F.clkStatusActiveRef = (match r with | .a => 0 | .b => 1)
        ∧ t.dev.get F.clkStatusSwitches = Nat.min (s.dev.get F.clkStatusSwitches + 1) 65535 ∧ t.dev.on (clkEvent 0) = true
        ∧ Dev.WordsBut [Reg.clkStatus, pageAddr 1 Reg.hdrSticky] s.dev t.dev
        ∧ t = { s with dev := { s.dev with words := t.dev.words, timing := t.dev.timing } })
    ∧ (∀ since, s.dev.timing.loop = .locked .b → s.dev.timing.mode = 2 → s.dev.timing.okA = some since →
        since + s.dev.timing.revert * 622080000 ≤ s.dev.now →
      ∃ t, exec .revertToA s = .next t ∧ t.dev.timing = { s.dev.timing with loop := .hold .a }
        ∧ t.dev.on F.clkStatusLock = false ∧ t.dev.on F.clkStatusHold = true ∧ Dev.WordsBut [Reg.clkStatus] s.dev t.dev
        ∧ t = { s with dev := { s.dev with words := t.dev.words, timing := t.dev.timing } })

/-- R73, R77, R85, R87, R694: the first lock starts the time base and the frame numbers, which a pull-in from the floor does
not touch. A write of CLK.REFSEL is in force at once, but for a hold or a pull-in, which it waits for. REVERT 0 reads as 1.
Readings of the model: notes/assumptions/13, 43, 179. -/
def Obligations.TimeBaseAndSelection : Prop :=
  (∀ (r : Ref) (s : State),
      (s.dev.timing.loop = .acquiring r →
        ∃ t, exec .firstLock s = .next t ∧ t.mem = s.mem ∧ t.flash = s.flash ∧ t.dev.now = s.dev.now ∧ t.dev.timeBase = 0
          ∧ t.dev.timing = { s.dev.timing with loop := .locked r, firstLock := some s.dev.now, edges := 0, seqBase := 1 })
      ∧ (s.dev.timing.loop = .pullIn r → s.dev.timing.allows r = true →
        ∃ t, exec .pullInLock s = .next t ∧ t.mem = s.mem ∧ t.flash = s.flash ∧ t.dev.now = s.dev.now
          ∧ t.dev.timing = { s.dev.timing with loop := .locked r }))
  ∧ (∀ (m : Master) (data : W32) (s : State),
      (s.mayWrite m.val Reg.clkRefsel → s.dev.timing.moving = true →
        ∃ t, exec (.refselWrite m data) s = .next t ∧ (t.dev.replyTo m.val).resp = .okay
          ∧ t.dev.word Reg.clkRefsel = refselWord data ∧ t.dev.timing = { s.dev.timing with selPending := true }
          ∧ Dev.WordsBut [Reg.clkRefsel] s.dev t.dev ∧ t.mem = s.mem ∧ t.flash = s.flash)
      ∧ (s.mayWrite m.val Reg.clkRefsel → s.dev.timing.moving = false →
        ∃ t, exec (.refselWrite m data) s = .next t ∧ (t.dev.replyTo m.val).resp = .okay
          ∧ t.dev.word Reg.clkRefsel = refselWord data ∧ t.dev.timing.sel = refselWord data ∧ t.dev.timing.selPending = false
          ∧ Dev.WordsBut [Reg.clkRefsel, Reg.clkStatus] s.dev t.dev ∧ t.mem = s.mem ∧ t.flash = s.flash)
      ∧ (s.dev.timing.selPending = true → s.dev.timing.moving = false →
        ∃ t, exec .refselApply s = .next t ∧ t.dev.timing.sel = s.dev.word Reg.clkRefsel ∧ t.dev.timing.selPending = false
          ∧ Dev.WordsBut [Reg.clkStatus] s.dev t.dev
          ∧ t = { s with dev := { s.dev with words := t.dev.words, timing := t.dev.timing } }))

/-- R78, R79: a recovered-clock output follows CLK.LRCn.LANE at once, is held low while its lane's CDR is not locked, and resumes
when the CDR has been locked for 10 ms. Readings of the model: notes/assumptions/9. -/
def Obligations.RecoveredClocks : Prop :=
  ∀ (n : Fin 4) (s : State),
    (∀ since, (s.dev.lane (s.dev.timing.lrc.getD n.val 0)).cdrSince = some since → since + 6220800 ≤ s.dev.now →
        s.dev.on (F.clkLrcEn.at 4 n.val) = true → s.dev.present (lanePage (s.dev.timing.lrc.getD n.val 0)) = true →
        s.dev.mode ≠ modeBoot →
      ∃ t, exec (.lrcResume n) s = .next t ∧ t.dev.on (F.clkLrcSquelched.at 4 n.val) = false
        ∧ OnlyWords [Reg.clkLrc + 4 * n.val] s t)
    ∧ (∃ t, exec (.lrcLaneChange n) s = .next t
        ∧ t.dev.timing = { s.dev.timing with lrc := s.dev.timing.lrc.set n.val (s.dev.get (F.clkLrcLane.at 4 n.val)) }
        ∧ ((s.dev.lane (s.dev.get (F.clkLrcLane.at 4 n.val))).cdrSince = none →
            t.dev.on (F.clkLrcSquelched.at 4 n.val) = true)
        ∧ Dev.WordsBut [Reg.clkLrc + 4 * n.val, pageAddr 1 Reg.hdrSticky] s.dev t.dev
        ∧ t = { s with dev := { s.dev with words := t.dev.words, timing := t.dev.timing } })

/-! The Lane Array -/

/-- R58, R59: LANE.CFG of a port lane: a reserved or disallowed pair is refused whole, an allowed one is taken while EFF is OFF or
PREPARE and leaves the fields alone in SERVICE and TEST; the fields of a mate lane are fixed. -/
def Obligations.LaneCfgWrite : Prop :=
  ∀ (m : Master) (lane : Lane) (data : W32) (s : State), s.mayWrite m.val (laneAddr lane Reg.laneCfg) →
    (lane.val < 96 → laneCfgAllowed (getF data 4 2) (getF data 0 3) = false →
      ∃ t, exec (.laneCfgWrite m lane data) s = .next t ∧ AnsweredWords m.val .slverr [laneAddr lane Reg.laneSdsStat] s t
        ∧ t.dev.on (F.laneSdsStatCfgErr.lane lane) = true)
    ∧ (lane.val < 96 → laneCfgAllowed (getF data 4 2) (getF data 0 3) = true → 2 ≤ s.dev.eff (lanePage lane) →
      ∃ t, exec (.laneCfgWrite m lane data) s = .next t ∧ AnsweredWords m.val .okay [] s t)
    ∧ (lane.val < 96 → laneCfgAllowed (getF data 4 2) (getF data 0 3) = true → s.dev.eff (lanePage lane) < 2 →
      ∃ t, exec (.laneCfgWrite m lane data) s = .next t ∧ (t.dev.replyTo m.val).resp = .okay
        ∧ t.dev.get ⟨laneAddr lane Reg.laneCfg, 4, 2⟩ = getF data 4 2 ∧ t.dev.get ⟨laneAddr lane Reg.laneCfg, 0, 3⟩ = getF data 0 3
        ∧ (∀ n, t.dev.lane n = s.dev.lane n) ∧ t.mem = s.mem ∧ t.flash = s.flash
        ∧ ∀ n o, n < 104 → o < 0x1_0000 → laneAddr n o ≠ laneAddr lane Reg.laneCfg →
            t.dev.word (laneAddr n o) = s.dev.word (laneAddr n o))
    ∧ (96 ≤ lane.val → ∃ t, exec (.laneCfgWrite m lane data) s = .next t ∧ AnsweredWords m.val .okay [] s t)

/-- R60, R61, R63, R133, R135: the CDR locks to a signal within 1.2 % of its rate; a changed LANE.CFG, at an FP8K edge, or a
loss of CDR lock makes every slot of the lane's Sieve FREE. The fill of the elastic store follows the far end; at zero or at two rows a
slip is counted, which leaves it at one row, and moves the Sieve's positions on a LINE lane; that changes nothing else unless two slots
come to one place.
Readings of the model: notes/assumptions/14, 32, 39, 155. -/
def Obligations.CdrRestartAndSlip : Prop :=
  (∀ (lane : Lane) (s : State),
      (∀ ppm : Int, -12000 ≤ ppm → ppm ≤ 12000 → s.dev.on (F.laneSdsStatCdrLock.lane lane) = false →
        ∃ t, exec (.cdrLock lane ppm) s = .next t ∧ t.dev.on (F.laneSdsStatCdrLock.lane lane) = true
          ∧ t.dev.lane lane = { s.dev.lane lane with cdrSince := some s.dev.now, cdrLost := false }
          ∧ t.dev.get (F.hdrFaultTransient.page (lanePage lane))
              = Nat.min (s.dev.get (F.hdrFaultTransient.page (lanePage lane)) + (if (s.dev.lane lane).cdrLost then 1 else 0)) 65535
          ∧ (∀ n, n ≠ lane.val → t.dev.lane n = s.dev.lane n)
          ∧ Dev.WordsBut [laneAddr lane Reg.laneSdsStat, pageAddr (lanePage lane) Reg.hdrFault] s.dev t.dev
          ∧ t = { s with dev := { s.dev with words := t.dev.words, lanes := t.dev.lanes } })
      ∧ (s.dev.on (F.laneSdsStatCdrLock.lane lane) = true → s.dev.nearLoop lane = false →
        ∃ t, exec (.cdrLossOfLock lane) s = .next t ∧ t.dev.on (F.laneSdsStatCdrLock.lane lane) = false
          ∧ (t.dev.lane lane).cdrSince = none ∧ (t.dev.lane lane).sieve.slots = List.replicate 8 {}
          ∧ t.dev.svState lane = svHunt ∧ t.dev.defect lane defOof = true ∧ t.mem = s.mem ∧ t.flash = s.flash)
      ∧ ((s.dev.lane lane).cfg ≠ s.dev.word (laneAddr lane Reg.laneCfg) → s.dev.atEdge = true →
        ∃ t, exec (.receiveStateRestart lane) s = .next t ∧ (t.dev.lane lane).cfg = s.dev.word (laneAddr lane Reg.laneCfg)
          ∧ (t.dev.lane lane).sieve.slots = List.replicate 8 {} ∧ t.mem = s.mem ∧ t.flash = s.flash))
  ∧ (∀ (lane : Lane) (fill : BitVec 8) (s : State),
      (fill ≠ 0 → fill.toNat < 128 →
        ∃ t, exec (.elasticStoreSlip lane fill) s = .next t ∧ t.dev.get (F.laneSdsStatEsFill.lane lane) = fill.toNat
          ∧ OnlyWords [laneAddr lane Reg.laneSdsStat] s t)
      ∧ (fill = 0 ∨ 128 ≤ fill.toNat →
        ∃ t, exec (.elasticStoreSlip lane fill) s = .next t
          ∧ t.dev.get (F.laneEsSlipSlip.lane lane) = (s.dev.get (F.laneEsSlipSlip.lane lane) + 1) % 2 ^ 32
          ∧ t.dev.get (F.laneSdsStatEsFill.lane lane) = 64 ∧ t.mem = s.mem ∧ t.flash = s.flash
          ∧ ((s.dev.lane lane).isLine = true →
              let row : Nat := 270 * stmN (s.dev.lane lane).rate
              let v := (s.dev.lane lane).sieve.shift (s.dev.lane lane).sieve.bg (lineFrameLen (s.dev.lane lane).rate)
                (if fill = 0 then (row : Int) else -(row : Int))
              (t.dev.lane lane).sieve = v.1
              ∧ (v.2 = {} → t = { s with dev := { s.dev with words := t.dev.words, lanes := t.dev.lanes, paths := t.dev.paths } }
                  ∧ Dev.WordsBut [laneAddr lane Reg.laneEsSlip, laneAddr lane Reg.laneSdsStat] s.dev t.dev))
          ∧ ((s.dev.lane lane).isLine = false → (fill = 0 ∨ s.dev.inFrame lane = false) →
              t = { s with dev := { s.dev with words := t.dev.words, lanes := t.dev.lanes, acc := t.dev.acc } })
          ∧ ((s.dev.lane lane).isLine = false → (fill = 0 ∨ s.dev.inFrame lane = false) →
              Dev.WordsBut [laneAddr lane Reg.laneEsSlip, laneAddr lane Reg.laneSdsStat] s.dev t.dev)))

/-- R65, R66, R67: the PRBS checker is in sync after 32 bits in a row that its pattern gives, and ends sync at 16 errored bits of a
window of 256, with the errors counted. LANE.PRBS: an enabled checker starts with no errors counted, an enabled generator begins a
stream, and a 1 in INJECT inverts the next bit that the generator of a lane in test sends.
Readings of the model: notes/assumptions/141, 178. -/
def Obligations.PrbsGeneratorAndChecker : Prop :=
  (∀ (lane : Lane) (bits : List Bool) (s : State), s.dev.hearsBits lane bits = true →
      (s.dev.on (F.lanePrbsChkEn.lane lane) = true → s.dev.on (F.lanePrbsChkSync.lane lane) = false →
          prbsInSync (s.dev.get (F.lanePrbsChkPat.lane lane)) (s.dev.prbsPlain lane bits) = true →
        ∃ t, exec (.prbsSync lane bits) s = .next t ∧ t.dev.on (F.lanePrbsChkSync.lane lane) = true
          ∧ (t.dev.lane lane).chk
              = (s.dev.prbsPlain lane bits).reverse.take (prbsTaps (s.dev.get (F.lanePrbsChkPat.lane lane))).1
          ∧ (∀ n, n ≠ lane.val → t.dev.lane n = s.dev.lane n) ∧ Dev.WordsBut [laneAddr lane Reg.lanePrbs] s.dev t.dev
          ∧ t = { s with dev := { s.dev with words := t.dev.words, lanes := t.dev.lanes } })
      ∧ (bits.length = 256 → s.dev.on (F.lanePrbsChkSync.lane lane) = true →
        let k := (s.dev.prbsWindow lane bits).1
        ∃ t, exec (.prbsLossOfSync lane bits) s = .next t ∧ t.dev.on (F.lanePrbsChkSync.lane lane) = decide (k < 16)
          ∧ t.dev.prbsErrors lane = Nat.min (s.dev.prbsErrors lane + k) (2 ^ 48 - 1)
          ∧ (∀ n, n ≠ lane.val → t.dev.lane n = s.dev.lane n)
          ∧ Dev.WordsBut [laneAddr lane Reg.lanePrbs, laneAddr lane Reg.lanePrbsErrLo, laneAddr lane Reg.lanePrbsErrHi] s.dev t.dev
          ∧ t = { s with dev := { s.dev with words := t.dev.words, lanes := t.dev.lanes } }))
  ∧ (∀ (m : Master) (lane : Lane) (data : W32) (s : State), s.mayWrite m.val (laneAddr lane Reg.lanePrbs) →
      (s.dev.on (F.lanePrbsChkEn.lane lane) = false → s.dev.on (F.lanePrbsGenEn.lane lane) = false → getF data 7 1 = 1 →
          getF data 3 1 = 0 → getF data 9 1 = 0 →
        ∃ t, exec (.prbsCheckerEnable m lane data) s = .next t
          ∧ t.dev.on (F.lanePrbsChkEn.lane lane) = true ∧ t.dev.prbsErrors lane = 0
          ∧ t.dev.on (F.lanePrbsGenEn.lane lane) = false ∧ t.dev.get (F.lanePrbsChkInv.lane lane) = getF data 6 1
          ∧ t.dev.get (F.lanePrbsChkPat.lane lane)
              = (if getF data 4 2 = 3 then s.dev.get (F.lanePrbsChkPat.lane lane) else getF data 4 2)
          ∧ AnsweredWords m.val .okay
              [laneAddr lane Reg.lanePrbs, laneAddr lane Reg.lanePrbsErrLo, laneAddr lane Reg.lanePrbsErrHi] s t)
      ∧ (s.dev.on (F.lanePrbsGenEn.lane lane) = false → getF data 3 1 = 1 → getF data 9 1 = 0 →
        ∃ t, exec (.prbsCheckerEnable m lane data) s = .next t ∧ (t.dev.replyTo m.val).resp = .okay
          ∧ t.dev.on (F.lanePrbsGenEn.lane lane) = true ∧ (t.dev.lane lane).flips = []
          ∧ (∃ seed, (t.dev.lane lane).gen = some (seed, s.dev.now)) ∧ (∀ n, n ≠ lane.val → t.dev.lane n = s.dev.lane n)
          ∧ t.mem = s.mem ∧ t.flash = s.flash)
      ∧ (s.dev.on (F.lanePrbsGenEn.lane lane) = true → s.dev.eff (lanePage lane) = 3 → (s.dev.lane lane).gen.isSome = true →
          (s.dev.lane lane).flips.contains (s.dev.prbsPos lane) = false →
        ∃ t, exec (.prbsInject m lane) s = .next t ∧ (t.dev.replyTo m.val).resp = .okay
          ∧ t.dev.lane lane = { s.dev.lane lane with flips := s.dev.prbsPos lane :: (s.dev.lane lane).flips }
          ∧ (∀ i, t.dev.prbsBit lane i = (s.dev.prbsBit lane i != decide (i = s.dev.prbsPos lane)))
          ∧ (∀ n, n ≠ lane.val → t.dev.lane n = s.dev.lane n) ∧ t.dev.prbsErrors lane = s.dev.prbsErrors lane
          ∧ t.mem = s.mem ∧ t.flash = s.flash ∧ Dev.WordsBut [laneAddr lane Reg.lanePrbs] s.dev t.dev))

/-- R70, R71: a completed eye scan replaces LANE.EYE whole and counts in SEQ, with VALID 0 on a lane without CDR lock; and of a
LANE.TXEQ write whose magnitudes exceed 63, MAIN is reduced until their sum is 63. -/
def Obligations.EyeAndEqualizer : Prop :=
  ∀ (lane : Lane) (s : State),
      (∀ (height : BitVec 10) (width : BitVec 7),
        ∃ t, exec (.eyeScanComplete lane height width) s = .next t ∧ OnlyWords [laneAddr lane Reg.laneEye] s t
          ∧ t.dev.get (F.laneEyeHeight.lane lane) = height.toNat ∧ t.dev.get (F.laneEyeWidth.lane lane) = width.toNat
          ∧ t.dev.get (F.laneEyeSeq.lane lane) = (s.dev.get (F.laneEyeSeq.lane lane) + 1) % 2 ^ 14
          ∧ t.dev.on (F.laneEyeValid.lane lane) = s.dev.on (F.laneSdsStatCdrLock.lane lane))
      ∧ (∀ (m : Master) (data : W32), s.mayWrite m.val (laneAddr lane Reg.laneTxeq) →
        ∃ t, exec (.txeqWrite m lane data) s = .next t ∧ AnsweredWords m.val .okay [laneAddr lane Reg.laneTxeq] s t
          ∧ t.dev.get (F.laneTxeqPre.lane lane) = getF data 0 5 ∧ t.dev.get (F.laneTxeqPost.lane lane) = getF data 11 5
          ∧ t.dev.get (F.laneTxeqSquelch.lane lane) = getF data 16 1
          ∧ t.dev.get (F.laneTxeqMain.lane lane) = Nat.min (getF data 5 6) (63 - (getF data 0 5 + getF data 11 5)))

/-- R116, R380: LOS is declared after 20 µs without a signal and clears after 125 µs with one, whatever the type of the lane.
LOF of a LINE lane is declared after 3 ms out of frame and clears after 3 ms in frame. -/
def Obligations.LossOfSignalAndOfFrame : Prop :=
  (∀ (lane : Lane) (ns : Nat) (s : State),
      (∀ sig, 20000 ≤ ns → s.dev.defect lane defLos = false → s.dev.nearLoop lane = false →
        ∃ t, exec (.losDeclare lane ns sig) s = .next t ∧ t.dev.defect lane defLos = true
          ∧ t.dev.on ⟨laneAddr lane Reg.laneDefEvt, defLos, 1⟩ = true ∧ t.dev.on (F.laneSdsStatSigDet.lane lane) = sig
          ∧ (∀ n b, n < 104 → n ≠ lane.val → b < 32 → t.dev.defect n b = s.dev.defect n b) ∧ t.mem = s.mem ∧ t.flash = s.flash)
      ∧ (125000 ≤ ns → s.dev.defect lane defLos = true →
        ∃ t, exec (.losClear lane ns) s = .next t ∧ t.dev.defect lane defLos = false
          ∧ t.dev.on ⟨laneAddr lane Reg.laneDefEvt, defLos, 1⟩ = true ∧ t.dev.on (F.laneSdsStatSigDet.lane lane) = true
          ∧ (∀ n b, n < 104 → n ≠ lane.val → b < 32 → t.dev.defect n b = s.dev.defect n b) ∧ t.mem = s.mem ∧ t.flash = s.flash))
  ∧ (∀ (n : PortLane) (since : Nat) (s : State), (s.dev.lane n).isLine = true → since + 1866240 ≤ s.dev.now →
      ((s.dev.lane n).oofSince = some since →
        ∃ t, exec (.lof n) s = .next t ∧ t.dev.defect n defLof = true ∧ t.dev.on (F.laneSvStatLof.lane n) = true
          ∧ (∀ q b, q < 104 → q ≠ n.val → b < 32 → t.dev.defect q b = s.dev.defect q b) ∧ t.mem = s.mem ∧ t.flash = s.flash)
      ∧ ((s.dev.lane n).inFrameSince = some since →
        ∃ t, exec (.lofClear n) s = .next t ∧ t.dev.defect n defLof = false ∧ t.dev.on (F.laneSvStatLof.lane n) = false
          ∧ (∀ q b, q < 104 → q ≠ n.val → b < 32 → t.dev.defect q b = s.dev.defect q b) ∧ t.mem = s.mem ∧ t.flash = s.flash))

/-! The Sieve -/

/-- R95, R97, R98, R99, R102, R112, R115, R118, R119, R128: bytes that are no mark are no sighting. A sighting at a place that no slot holds takes the first FREE slot; without one it
is counted on a lane; at a place that a slot holds it changes nothing; and with background hunting off an ACTIVE lets none
in. What an expected mark does to a slot of a lane that does not decide an alignment: it counts for a CAND, TRIAL or ALT, a
miss frees a CAND and two in a row an ALT, an ACTIVE of a LINE lane counts its errored marks in a row, and a BARRED slot its
positions. Readings of the model: notes/assumptions/120. -/
def Obligations.SightingsAndMarks : Prop :=
  (∀ (i : SieveId) (pos : Nat) (rot : Fin 8) (bytes : List Byte) (s : State),
      let seen := match i with
        | .lane n => positionOk (s.dev.lane n.val) pos && (s.dev.lane n.val).isMark false bytes && s.dev.hears n.val bytes
        | .gfp g => s.dev.streamRuns g.val && pairOk (gfpCore bytes)
      let v := s.dev.sieveOf i
      let r := match i with | .lane _ => rot.val | .gfp _ => 0
      let pli := match i with | .lane _ => 0 | .gfp _ => numOf ((gfpCore bytes).take 2)
      (seen = true →
        ∃ t, exec (.sighting i pos ⟨rot, bytes⟩) s = .next t ∧ t.mem = s.mem ∧ t.flash = s.flash
          ∧ (∀ k, (v.anyActive = false ∨ s.dev.sieveBg i = true) → (∀ x ∈ v.slots, x.st = .free ∨ x.pos ≠ pos ∨ x.rot ≠ r) →
                k < v.slots.length → (v.slot k).st = .free → (∀ j, j < k → (v.slot j).st ≠ .free) →
              (t.dev.sieveOf i).slot k = { st := .cand, pos := pos, rot := r, need := s.dev.sieveNeed i, pli := pli }
                ∧ Sieve.SlotsBut k v (t.dev.sieveOf i))
          ∧ ((∃ x ∈ v.slots, x.st ≠ .free ∧ x.pos = pos ∧ x.rot = r) → t.dev.sieveOf i = v)
          ∧ (v.anyActive = true → s.dev.sieveBg i = false → t.dev.sieveOf i = v)
          ∧ (∀ n, i = .lane n →
              Dev.WordsBut [laneAddr n Reg.laneSvFull] s.dev t.dev
                ∧ ((v.anyActive = false ∨ s.dev.sieveBg i = true) → (∀ x ∈ v.slots, x.st ≠ .free ∧ (x.pos ≠ pos ∨ x.rot ≠ r)) →
                    t.dev.get (F.laneSvFullCount.lane n) = (s.dev.get (F.laneSvFullCount.lane n) + 1) % 2 ^ 32
                      ∧ t.dev.sieveOf i = v)))
      ∧ (seen = false → exec (.sighting i pos ⟨rot, bytes⟩) s = .next s))
  ∧ (∀ (n : Lane) (k : Fin 8) (bytes : List Byte) (s : State), s.dev.hears n bytes = true →
      let v := (s.dev.lane n).sieve
      let x := v.slot k
      let ok := (s.dev.lane n).isMark (v.corr && x.leads) bytes
      (∀ pos, pos ≠ x.pos → exec (.expectedMark (.lane n) k pos bytes) s = .next s)
      ∧ ∃ t, exec (.expectedMark (.lane n) k x.pos bytes) s = .next t ∧ t.mem = s.mem ∧ t.flash = s.flash
        ∧ let w := (t.dev.lane n).sieve
          (x.st = .cand → v.first ≠ some k.val → ok = false → w.slot k = {} ∧ Sieve.SlotsBut k v w)
          ∧ (x.st = .cand → v.first ≠ some k.val → x.inWindow = false → ok = true → x.run + 1 < x.need →
              w.slot k = { x with run := x.run + 1 } ∧ Sieve.SlotsBut k v w)
          ∧ (x.st = .trial → x.won = false → ok = true →
              w.slot k = { x with run := x.run + 1, miss := 0 } ∧ Sieve.SlotsBut k v w)
          ∧ (x.st = .alt → w.slot k = (if ok = true then { x with run := x.run + 1, miss := 0 }
              else if x.miss = 0 then { x with run := 0, miss := 1 } else {}) ∧ Sieve.SlotsBut k v w)
          ∧ (x.st = .active → x.takeover = false → (s.dev.lane n).isLine = true →
              w.errors = (if ok = true then 0 else v.errors + 1) ∧ Sieve.SlotsBut k v w)
          ∧ (x.st = .barred → w.slot k = { x with barred := x.barred + 1 } ∧ Sieve.SlotsBut k v w)
          ∧ (x.st = .free → w = v))

/-- R95, R101, R105, R114, R117, R124: the decision window of a LINE lane that closes over one candidate at a correct mark
makes it ACTIVE, and the lane is in frame. The test of a slot in TRIAL beside an ACTIVE: two agreeing B1 bytes make it ALT;
two that disagree, or three frame periods without a decision on a Tustra lane, bar it and count a mimic; and the barring ends
after 8,000 positions. Readings of the model: notes/assumptions/120, 185. -/
def Obligations.AlignmentAndTrial : Prop :=
  (∀ (n : Lane) (k : Fin 8) (bytes : List Byte) (s : State), s.dev.hears n bytes = true →
      (s.dev.lane n).isMark false bytes = true → (s.dev.lane n).isLine = true → ((s.dev.lane n).sieve.slot k).st = .cand → (s.dev.lane n).sieve.first = some k.val →
      (s.dev.lane n).sieve.count (fun x => x.inWindow) = 1 →
      ∃ t, exec (.expectedMark (.lane n) k ((s.dev.lane n).sieve.slot k).pos bytes) s = .next t
        ∧ ((t.dev.lane n).sieve.slot k).st = .active
        ∧ t.dev.svState n = svFrame ∧ t.dev.defect n defOof = false ∧ t.dev.on (F.laneSvStatOof.lane n) = false
        ∧ t.mem = s.mem ∧ t.flash = s.flash)
  ∧ (∀ (n : PortLane) (k : Fin 8) (s : State),
      let l := s.dev.lane n
      let x := l.sieve.slot k
      (x.st = .trial → x.won = false → x.passed = none → l.sieve.round = 0 → (∀ j, j ≠ k.val → (l.sieve.slot j).st ≠ .trial) →
        (∀ (frame : List Byte) (b1 : Byte), l.isLine = true → x.agree = 1 → s.dev.hears n frame = true →
            b1Plain (stmN l.rate) b1 = bip8 frame →
          ∃ t, exec (.trialB1Byte n k frame b1) s = .next t ∧ ((t.dev.lane n).sieve.slot k).st = .alt
            ∧ Sieve.SlotsBut k l.sieve (t.dev.lane n).sieve ∧ t = { s with dev := { s.dev with lanes := t.dev.lanes } })
        ∧ (∀ (frame : List Byte) (b1 : Byte) (c : Instr),
            (c = .trialB1Byte n k frame b1 ∧ l.isLine = true ∧ x.disagree = 1 ∧ x.agree < 2 ∧ s.dev.hears n frame = true
                ∧ b1Plain (stmN l.rate) b1 ≠ bip8 frame)
              ∨ (c = .trialTimeout ⟨n, by omega⟩ k ∧ l.isLine = false ∧ 3 * blocksPerFrame l.rate ≤ x.blocks) →
            ∃ t, exec c s = .next t ∧ ((t.dev.lane n).sieve.slot k).st = .barred
              ∧ t.dev.get (F.laneSvMimicCount.lane n) = (s.dev.get (F.laneSvMimicCount.lane n) + 1) % 2 ^ 32
              ∧ Sieve.SlotsBut k l.sieve (t.dev.lane n).sieve ∧ Dev.WordsBut [laneAddr n Reg.laneSvMimic] s.dev t.dev
              ∧ t = { s with dev := { s.dev with words := t.dev.words, lanes := t.dev.lanes, acc := t.dev.acc } }))
      ∧ (x.st = .barred → 8000 ≤ x.barred →
        ∃ t, exec (.barringEnd (.lane ⟨n, by omega⟩) k) s = .next t ∧ (t.dev.lane n).sieve.slot k = {}
          ∧ Sieve.SlotsBut k l.sieve (t.dev.lane n).sieve ∧ t = { s with dev := { s.dev with lanes := t.dev.lanes } }))

/-- R108, R110, R115, R121, R123, R127: the fifth errored mark in a row of a LINE lane's ACTIVE declares OOF; the slot starts
again as a candidate, and with no ALT the lane hunts. LOB at the ALPHA-th failed header in a row: with no ALT the lane hunts;
three frames with FS errors take a lane from FRAME to BLOCK, with LOFT.
Readings of the model: notes/assumptions/32, 120. -/
def Obligations.LossOfAlignment : Prop :=
  (∀ (n : PortLane) (k : Fin 8) (s : State),
      let v := (s.dev.lane n).sieve
      (s.dev.lane n).isLine = true → 5 ≤ v.errors → (v.slot k).st = .active → (∀ j, j ≠ k.val → (v.slot j).st ≠ .active) →
      (∀ j, (v.slot j).st ≠ .alt ∧ (v.slot j).st ≠ .trial) →
      ∃ t, exec (.oof n) s = .next t ∧ t.dev.defect n defOof = true ∧ t.dev.svState n = svHunt
        ∧ t.dev.get (F.laneSvLossCount.lane n) = (s.dev.get (F.laneSvLossCount.lane n) + 1) % 2 ^ 32
        ∧ t.dev.get (F.laneSvHuntCount.lane n) = (s.dev.get (F.laneSvHuntCount.lane n) + 1) % 2 ^ 32
        ∧ (t.dev.lane n).sieve.slot k = { st := .cand, pos := (v.slot k).pos, rot := (v.slot k).rot, run := 1, need := 3,
                                          pli := (v.slot k).pli, scr := (v.slot k).scr }
        ∧ Sieve.SlotsBut k v (t.dev.lane n).sieve ∧ t.mem = s.mem ∧ t.flash = s.flash)
  ∧ (∀ (n : Lane) (k : Fin 8) (s : State), (s.dev.lane n).isLine = false →
      let v := (s.dev.lane n).sieve
      (1 ≤ v.errors → v.alpha ≤ v.errors → (v.slot k).st = .active → (∀ j, j ≠ k.val → (v.slot j).st ≠ .active) →
          (∀ j, (v.slot j).st ≠ .alt ∧ (v.slot j).st ≠ .trial) →
        ∃ t, exec (.lob n) s = .next t ∧ t.dev.defect n defOof = true ∧ t.dev.svState n = svHunt
          ∧ t.dev.get (F.laneSvLossCount.lane n) = (s.dev.get (F.laneSvLossCount.lane n) + 1) % 2 ^ 32
          ∧ t.dev.get (F.laneSvHuntCount.lane n) = (s.dev.get (F.laneSvHuntCount.lane n) + 1) % 2 ^ 32
          ∧ (t.dev.lane n).sieve.slot k
              = { st := .cand, pos := (v.slot k).pos, rot := (v.slot k).rot, run := 1, need := 1 + v.delta,
                  pli := (v.slot k).pli, scr := (v.slot k).scr }
          ∧ t.mem = s.mem ∧ t.flash = s.flash)
      ∧ (s.dev.inFrame n = true → 3 ≤ (s.dev.tu n).fsErrFrames + bitOf (s.dev.tu n).fsErr →
        ∃ t, exec (.frameStartLoss n) s = .next t ∧ t.dev.svState n = svBlock ∧ t.dev.defect n defLoft = true
          ∧ t.dev.defect n defOof = false ∧ (t.dev.tu n).grants = List.replicate 8 0 ∧ t.mem = s.mem ∧ t.flash = s.flash))

/-- R99, R111, R139: a new Sieve configuration takes effect; BG_EN = 0 with an ACTIVE frees every other slot, and so does a new PAT_LEN
of a LINE lane, which moves the ACTIVE to where the other pattern begins.
Readings of the model: notes/assumptions/14. -/
def Obligations.SieveConfiguration : Prop :=
  ∀ (n : Lane) (g : GroupId) (s : State),
    (∃ t, exec (.svCfgApply (.gfp g)) s = .next t ∧ (t.dev.gfpSieve g).cfg = s.dev.word Reg.flwSvCfg
      ∧ (∀ q, q ≠ g.val → t.dev.gfpSieve q = s.dev.gfpSieve q) ∧ t.mem = s.mem ∧ t.flash = s.flash)
    ∧ ∃ t, exec (.svCfgApply (.lane n)) s = .next t ∧ (t.dev.lane n).sieve.cfg = s.dev.word (laneAddr n Reg.laneSvCfg)
      ∧ (∀ q, q ≠ n.val → t.dev.lane q = s.dev.lane q) ∧ t.mem = s.mem ∧ t.flash = s.flash
      ∧ ((s.dev.lane n).isLine = false ∨ getF (s.dev.word (laneAddr n Reg.laneSvCfg)) 0 1 = (s.dev.lane n).sieve.patLen →
          t = { s with dev := { s.dev with lanes := t.dev.lanes } })
      ∧ (∀ k, (s.dev.lane n).isLine = true → getF (s.dev.word (laneAddr n Reg.laneSvCfg)) 0 1 ≠ (s.dev.lane n).sieve.patLen →
          (((s.dev.lane n).sieve.slot k).st ≠ .active → ((s.dev.lane n).sieve.slot k).won = false →
            (t.dev.lane n).sieve.slot k = {})
          ∧ (((s.dev.lane n).sieve.slot k).st = .active →
              (∀ j, j ≠ k → ((s.dev.lane n).sieve.slot j).st ≠ .active ∧ ((s.dev.lane n).sieve.slot j).won = false) →
            ((t.dev.lane n).sieve.slot k).st = .active
              ∧ ((t.dev.lane n).sieve.slot k).pos
                  = (((s.dev.lane n).sieve.slot k).pos + (if (s.dev.lane n).sieve.patLen = 1 then 1 else lineFrameLen (s.dev.lane n).rate - 1))
                    % lineFrameLen (s.dev.lane n).rate))
      ∧ ∀ k, (s.dev.lane n).isLine = false → getF (s.dev.word (laneAddr n Reg.laneSvCfg)) 1 1 = 0 →
          ((s.dev.lane n).sieve.slot k).st = .active →
          (∀ j, j ≠ k → ((s.dev.lane n).sieve.slot j).st ≠ .active ∧ ((s.dev.lane n).sieve.slot j).won = false) →
          (t.dev.lane n).sieve.slot k = (s.dev.lane n).sieve.slot k ∧ ∀ j, j ≠ k → (t.dev.lane n).sieve.slot j = {}

/-! The section overhead -/

/-- R146, R150, R152, R166, R180: a frame of a LINE lane: the raw K bytes follow it whatever the lane's state; in frame
it is also counted in SOH_RXFRM, and its own BIP-8 is kept for the B1 of the next frame.
Readings of the model: notes/assumptions/30. -/
def Obligations.LineFrame : Prop :=
  ∀ (n : PortLane) (bytes : List Byte) (s : State), (s.dev.lane n).isLine = true → s.dev.inTest (lanePage n) = false →
    let nn := stmN (s.dev.lane n).rate
    ∃ t, exec (.lineFrameReceived n bytes) s = .next t
      ∧ t.dev.get (F.laneSohKrawK1.lane n) = (frameByte (descramble nn bytes) nn 4 (3 * nn)).toNat
      ∧ t.dev.get (F.laneSohKrawK2.lane n) = (frameByte (descramble nn bytes) nn 4 (6 * nn)).toNat
      ∧ t.dev.get (F.laneSohRxfrmFrm.lane n) = (s.dev.get (F.laneSohRxfrmFrm.lane n) + (if s.dev.inFrame n then 1 else 0)) % 2 ^ 16
      ∧ (t.dev.soh n).b1Own = (if s.dev.inFrame n then some (bip8 bytes) else none)
      ∧ (∀ q, q ≠ n.val → t.dev.lane q = s.dev.lane q)
      ∧ t = { s with dev := { s.dev with words := t.dev.words, lanes := t.dev.lanes, acc := t.dev.acc, estAcc := t.dev.estAcc } }

/-- R164, R165: K1 with K2[7:3], and K2[2:0] on its own, are accepted after three frames; twelve counted frames without an acceptance
set K_UNSTABLE. Readings of the model: notes/assumptions/29. -/
def Obligations.KAcceptance : Prop :=
  ∀ (n : PortLane) (s : State), (s.dev.lane n).isLine = true → s.dev.kHeld n = false → (s.dev.soh n).ais < 3 →
    (∃ t, exec (.kAccept n) s = .next t
      ∧ (3 ≤ (s.dev.soh n).k.count →
          t.dev.get (F.laneSohKrxK1.lane n) = (s.dev.soh n).k.value / 32 % 256
            ∧ t.dev.get (F.laneSohKrxK2h.lane n) = (s.dev.soh n).k.value % 32 ∧ t.dev.on (F.laneSohKrxValid.lane n) = true
            ∧ t.dev.on (F.laneSohStatKValid.lane n) = true ∧ t.dev.on (F.laneSohStatKUnstable.lane n) = false
            ∧ (s.dev.on (F.laneSohKrxValid.lane n) = false → t.dev.on (F.laneSohEvtKChg.lane n) = true))
      ∧ (3 ≤ (s.dev.soh n).k2l.count →
          t.dev.get (F.laneSohKrxK2l.lane n) = (s.dev.soh n).k2l.value % 8 ∧ t.dev.on (F.laneSohKrxK2lValid.lane n) = true)
      ∧ Dev.WordsBut [laneAddr n Reg.laneSohKrx, laneAddr n Reg.laneSohStat, laneAddr n Reg.laneSohEvt] s.dev t.dev
      ∧ (∀ q, q ≠ n.val → t.dev.lane q = s.dev.lane q)
      ∧ t = { s with dev := { s.dev with words := t.dev.words, lanes := t.dev.lanes, msp := t.dev.msp, snc := t.dev.snc,
                                         mate := { s.dev.mate with items := t.dev.mate.items } } })
    ∧ (12 ≤ (s.dev.soh n).kSince → s.dev.on (F.laneSohStatKUnstable.lane n) = false →
      ∃ t, exec (.kUnstable n) s = .next t ∧ t.dev.on (F.laneSohStatKUnstable.lane n) = true
        ∧ t.dev.on (F.laneSohEvtKUnstable.lane n) = true
        ∧ Dev.WordsBut [laneAddr n Reg.laneSohStat, laneAddr n Reg.laneSohEvt] s.dev t.dev
        ∧ t = { s with dev := { s.dev with words := t.dev.words, msp := t.dev.msp, snc := t.dev.snc,
                                           mate := { s.dev.mate with items := t.dev.mate.items } } })

/-- R169, R173, R177, R381, R421: MS-AIS after 3 frames, MS-RDI after 5, and their clearing, each with its status, defect and
event bits. MS-RDI towards the far end follows MS fail and RDI_EN; S1[3:0] is accepted after 8 equal frames; and B2 EXC is
declared and cleared by 8 frames in a row. Readings of the model: notes/assumptions/14, 29. -/
def Obligations.SectionDefectsAndFollowUp : Prop :=
  (∀ (n : PortLane) (s : State), (s.dev.lane n).isLine = true → s.dev.defect n defLos = false → s.dev.defect n defOof = false →
      (∀ (c : Instr) (bit : Nat) (stat evt : Field) (v : Bool),
        (c = .msAisDeclare n ∧ 3 ≤ (s.dev.soh n).ais ∧ v = true ∧ bit = defMsais ∧ stat = F.laneSohStatMsais
            ∧ evt = F.laneSohEvtMsaisChg)
          ∨ (c = .msAisClear n ∧ 3 ≤ (s.dev.soh n).noAis ∧ v = false ∧ bit = defMsais ∧ stat = F.laneSohStatMsais
            ∧ evt = F.laneSohEvtMsaisChg)
          ∨ (c = .msRdiDeclare n ∧ 5 ≤ (s.dev.soh n).rdi ∧ v = true ∧ bit = defMsrdi ∧ stat = F.laneSohStatMsrdi
            ∧ evt = F.laneSohEvtMsrdiChg)
          ∨ (c = .msRdiClear n ∧ 5 ≤ (s.dev.soh n).noRdi ∧ v = false ∧ bit = defMsrdi ∧ stat = F.laneSohStatMsrdi
            ∧ evt = F.laneSohEvtMsrdiChg) →
        s.dev.defect n bit = !v →
        ∃ t, exec c s = .next t ∧ t.dev.defect n bit = v ∧ t.dev.on (stat.lane n) = v ∧ t.dev.on (evt.lane n) = true
          ∧ t.dev.on ⟨laneAddr n Reg.laneDefEvt, bit, 1⟩ = true
          ∧ Dev.WordsBut [laneAddr n Reg.laneSohStat, laneAddr n Reg.laneSohEvt, laneAddr n Reg.laneDefStat,
              laneAddr n Reg.laneDefEvt] s.dev t.dev
          ∧ (∀ q, q ≠ n.val → t.dev.lane q = s.dev.lane q)
          ∧ t = { s with dev := { s.dev with words := t.dev.words, lanes := t.dev.lanes, acc := t.dev.acc, msp := t.dev.msp,
                                             snc := t.dev.snc, inFill := t.dev.inFill, est := t.dev.est, estAcc := t.dev.estAcc,
                                             mate := { s.dev.mate with items := t.dev.mate.items } } }))
  ∧ (∀ (n : PortLane) (s : State), (s.dev.lane n).isLine = true →
      (s.dev.rootValid = false → exec (.msRdiTxChange n) s = .next s)
      ∧ (s.dev.rootValid = true → ∃ t, exec (.msRdiTxChange n) s = .next t
        ∧ (t.dev.soh n).rdiDue = (s.dev.msFail n && s.dev.on (F.laneSohCfgRdiEn.lane n))
        ∧ (s.dev.on (F.laneSohStatAisTx.lane n) = false → s.dev.on (F.laneSohTxForceMsrdi.lane n) = false →
            t.dev.on (F.laneSohStatRdiTx.lane n) = (s.dev.msFail n && s.dev.on (F.laneSohCfgRdiEn.lane n)))
        ∧ Dev.WordsBut [laneAddr n Reg.laneSohStat] s.dev t.dev
        ∧ t = { s with dev := { s.dev with words := t.dev.words, lanes := t.dev.lanes } })
      ∧ (8 ≤ (s.dev.soh n).s1.count → s.dev.defect n defLos = false → s.dev.defect n defOof = false →
          s.dev.defect n defMsais = false →
        ∃ t, exec (.s1Accept n) s = .next t ∧ t.dev.get (F.laneSohS1RxAcc.lane n) = (s.dev.soh n).s1.value % 16
          ∧ t.dev.on (F.laneSohStatS1Valid.lane n) = true
          ∧ (s.dev.on (F.laneSohStatS1Valid.lane n) = false → t.dev.on (F.laneSohEvtS1Chg.lane n) = true)
          ∧ OnlyWords [laneAddr n Reg.laneSohS1, laneAddr n Reg.laneSohStat, laneAddr n Reg.laneSohEvt] s t)
      ∧ (8 ≤ (s.dev.soh n).exc → ∃ t, exec (.b2ExcDeclare n) s = .next t ∧ t.dev.defect n defExc = true
          ∧ Dev.WordsBut [laneAddr n Reg.laneDefStat, laneAddr n Reg.laneDefEvt, laneAddr n Reg.laneSohStat] s.dev t.dev
          ∧ (∀ q, t.dev.lane q = s.dev.lane q) ∧ t.mem = s.mem ∧ t.flash = s.flash)
      ∧ (8 ≤ (s.dev.soh n).noExc → ∃ t, exec (.b2ExcClear n) s = .next t ∧ t.dev.defect n defExc = false
          ∧ Dev.WordsBut [laneAddr n Reg.laneDefStat, laneAddr n Reg.laneDefEvt, laneAddr n Reg.laneSohStat] s.dev t.dev
          ∧ (∀ q, t.dev.lane q = s.dev.lane q) ∧ t.mem = s.mem ∧ t.flash = s.flash))

/-- R144, R154, R157, R160, R161, R163: a trace message that three complete messages carried is accepted; an applied expected
message takes effect with the next comparison, and an applied transmit message at the start of a message. What the writes of
SOH_J0CFG and SOH_TX start; on other than LINE lanes the former only write their fields.
Readings of the model: notes/assumptions/29, 37, 38, 126. -/
def Obligations.TraceAndOverheadControls : Prop :=
  (∀ (n : PortLane) (s : State), (s.dev.lane n).isLine = true →
      (3 ≤ (s.dev.soh n).trace.count → (s.dev.soh n).trace.message.length ≤ 64 →
        ∃ t, exec (.j0Accept n) s = .next t ∧ t.dev.on (F.laneSohStatJ0Valid.lane n) = true
          ∧ t.dev.bytesAt (laneAddr n Reg.laneSohJ0Acc) (s.dev.soh n).trace.message.length = (s.dev.soh n).trace.message
          ∧ (s.dev.on (F.laneSohStatJ0Valid.lane n) = false → t.dev.on (F.laneSohEvtJ0Acc.lane n) = true)
          ∧ (∀ q, q ≠ n.val → t.dev.lane q = s.dev.lane q) ∧ t.mem = s.mem ∧ t.flash = s.flash)
      ∧ (3 ≤ (s.dev.soh n).trace.count → s.dev.on (F.laneSohJ0cfgExpPend.lane n) = true →
        ∃ t, exec (.expectedTraceTakeEffect n) s = .next t ∧ t.dev.on (F.laneSohJ0cfgExpPend.lane n) = false
          ∧ (t.dev.soh n).expected = s.dev.bytesAt (laneAddr n Reg.laneSohJ0Exp) 64
          ∧ Dev.WordsBut [laneAddr n Reg.laneSohJ0cfg, laneAddr n Reg.laneSohStat, laneAddr n Reg.laneSohEvt,
              laneAddr n Reg.laneDefStat, laneAddr n Reg.laneDefEvt] s.dev t.dev
          ∧ (∀ q, q ≠ n.val → t.dev.lane q = s.dev.lane q) ∧ t.mem = s.mem ∧ t.flash = s.flash)
      ∧ (s.dev.rootValid = true → s.dev.on (F.laneSohJ0cfgTxPend.lane n) = true → (s.dev.soh n).txPos = 0 →
        ∃ t, exec (.transmitTraceTakeEffect n) s = .next t ∧ t.dev.on (F.laneSohJ0cfgTxPend.lane n) = false
          ∧ t.dev.soh n = { s.dev.soh n with sending := s.dev.bytesAt (laneAddr n Reg.laneSohJ0Tx) 64 }
          ∧ Dev.WordsBut [laneAddr n Reg.laneSohJ0cfg] s.dev t.dev
          ∧ (∀ q, q ≠ n.val → t.dev.lane q = s.dev.lane q)
          ∧ t = { s with dev := { s.dev with words := t.dev.words, lanes := t.dev.lanes } }))
  ∧ (∀ (m : Master) (n : PortLane) (s : State),
      let words := [laneAddr n Reg.laneSohJ0cfg, laneAddr n Reg.laneSohStat, laneAddr n Reg.laneSohEvt,
        laneAddr n Reg.laneDefStat, laneAddr n Reg.laneDefEvt]
      (s.mayWrite m.val (laneAddr n Reg.laneSohJ0cfg) → (s.dev.lane n).isLine = true →
        (∃ t, exec (.expApply m n) s = .next t ∧ (t.dev.replyTo m.val).resp = .okay
          ∧ t.dev.on (F.laneSohJ0cfgExpPend.lane n) = true ∧ t.dev.rxMode n = s.dev.rxMode n
          ∧ Dev.WordsBut words s.dev t.dev ∧ t.mem = s.mem ∧ t.flash = s.flash)
        ∧ (∃ t, exec (.txApply m n) s = .next t ∧ (t.dev.replyTo m.val).resp = .okay
          ∧ t.dev.on (F.laneSohJ0cfgTxPend.lane n) = true ∧ t.dev.rxMode n = s.dev.rxMode n
          ∧ Dev.WordsBut words s.dev t.dev ∧ t.mem = s.mem ∧ t.flash = s.flash)
        ∧ (∀ data : W32, getF data 0 2 ≤ 2 → getF data 0 2 ≠ s.dev.rxMode n →
          ∃ t, exec (.traceModeChange m n data) s = .next t ∧ (t.dev.replyTo m.val).resp = .okay
            ∧ t.dev.rxMode n = getF data 0 2 ∧ t.dev.on (F.laneSohStatJ0Valid.lane n) = false
            ∧ t.dev.defect n defTim = false ∧ (t.dev.soh n).trace = {}
            ∧ t.dev.bytesAt (laneAddr n Reg.laneSohJ0Acc) 64 = List.replicate 64 0 ∧ t.mem = s.mem ∧ t.flash = s.flash))
      ∧ (s.mayWrite m.val (laneAddr n Reg.laneSohJ0cfg) → (s.dev.lane n).isLine = false → ∀ (data : W32) (c : Instr),
          (c = .expApply m n ∨ c = .txApply m n ∨ c = .traceModeChange m n data) →
        ∃ t, exec c s = .next t ∧ AnsweredWords m.val .okay [laneAddr n Reg.laneSohJ0cfg] s t
          ∧ t.dev.on (F.laneSohJ0cfgExpPend.lane n) = s.dev.on (F.laneSohJ0cfgExpPend.lane n)
          ∧ t.dev.on (F.laneSohJ0cfgTxPend.lane n) = s.dev.on (F.laneSohJ0cfgTxPend.lane n))
      ∧ (s.mayWrite m.val (laneAddr n Reg.laneSohTx) → (s.dev.lane n).isLine = true → s.dev.eff (lanePage n) = 3 →
        (∃ t, exec (.insB1 m n) s = .next t ∧ (t.dev.replyTo m.val).resp = .okay
          ∧ t.dev.soh n = { s.dev.soh n with insB1 := true, insB2 := (t.dev.soh n).insB2 } ∧ Dev.WordsBut [laneAddr n Reg.laneSohTx] s.dev t.dev
          ∧ t.mem = s.mem ∧ t.flash = s.flash)
        ∧ (∃ t, exec (.insB2 m n) s = .next t ∧ (t.dev.replyTo m.val).resp = .okay
          ∧ t.dev.soh n = { s.dev.soh n with insB1 := (t.dev.soh n).insB1, insB2 := true } ∧ Dev.WordsBut [laneAddr n Reg.laneSohTx] s.dev t.dev
          ∧ t.mem = s.mem ∧ t.flash = s.flash))
      ∧ (s.mayWrite m.val (laneAddr n Reg.laneSohTx) → (s.dev.lane n).isLine = false ∨ s.dev.eff (lanePage n) ≠ 3 →
          ∀ c : Instr, (c = .insB1 m n ∨ c = .insB2 m n) → ∃ t, exec c s = .next t ∧ AnsweredWords m.val .okay [laneAddr n Reg.laneSohTx] s t))

/-! The Tustra frame -/

/-- R121, R122, R243, R246, R250, R252, R421: a block read in the alignment of a lane's ACTIVE: on a lane in BLOCK a header
that fails HCS counts towards LOB, one that passes ends the count, and one with FS proposes the frame start; on a lane in
FRAME the index of the next block follows. SEQ is declared at a jump above 2^20 or the third frame in a row out of order and
clears after 8 in order; the remote defect follows RD after three frames.
Readings of the model: notes/assumptions/31, 32, 98. -/
def Obligations.TustraFrame : Prop :=
  (∀ (n : Lane) (k : Fin 8) (bytes : List Byte) (s : State),
      let v := (s.dev.lane n).sieve
      let h := tuHeader v.corr bytes
      let blocks := blocksPerFrame (s.dev.lane n).rate
      (s.dev.lane n).isLine = false → bytes.length = 270 → s.dev.hears n bytes = true → (v.slot k).st = .active → (v.slot k).takeover = false →
      ∃ t, exec (.tustraBlock n k bytes) s = .next t ∧ t.mem = s.mem ∧ t.flash = s.flash
        ∧ (s.dev.inFrame n = false → s.dev.svState n = svBlock → h.ok = false →
            (t.dev.lane n).sieve.errors = v.errors + 1 ∧ t.dev.words = s.dev.words)
        ∧ (s.dev.inFrame n = false → s.dev.svState n = svBlock → h.ok = true → h.fs = true → (s.dev.tu n).proposed = none →
            (t.dev.lane n).sieve.errors = 0 ∧ (t.dev.tu n).proposed = some 0 ∧ t.dev.svState n = svBlock)
        ∧ (s.dev.inFrame n = true →
            (t.dev.tu n).next = (if (s.dev.tu n).next + 1 < blocks then (s.dev.tu n).next + 1 else 0)))
  ∧ (∀ (n : Lane) (s : State), (s.dev.lane n).isLine = false →
      ∀ (c : Instr) (bit : Nat) (stat evt : Field) (v : Bool),
        (c = .seqDeclare n ∧ ((s.dev.tu n).far = true ∨ 3 ≤ (s.dev.tu n).seqBad) ∧ v = true ∧ bit = defSeq
            ∧ stat = F.laneTuStatSeq ∧ evt = F.laneTuEvtSeqChg)
          ∨ (c = .seqClear n ∧ 8 ≤ (s.dev.tu n).seqOk ∧ v = false ∧ bit = defSeq ∧ stat = F.laneTuStatSeq
            ∧ evt = F.laneTuEvtSeqChg)
          ∨ (c = .remoteDefectDeclare n ∧ 3 ≤ (s.dev.tu n).rd ∧ v = true ∧ bit = defRd ∧ stat = F.laneTuStatRd
            ∧ evt = F.laneTuEvtRdChg)
          ∨ (c = .remoteDefectClear n ∧ 3 ≤ (s.dev.tu n).noRd ∧ v = false ∧ bit = defRd ∧ stat = F.laneTuStatRd
            ∧ evt = F.laneTuEvtRdChg) →
        s.dev.defect n bit = !v →
        ∃ t, exec c s = .next t ∧ t.dev.defect n bit = v ∧ t.dev.on (stat.lane n) = v ∧ t.dev.on (evt.lane n) = true
          ∧ t.dev.on ⟨laneAddr n Reg.laneDefEvt, bit, 1⟩ = true
          ∧ (∀ q b, q < 104 → q ≠ n.val → b < 32 → t.dev.defect q b = s.dev.defect q b) ∧ t.mem = s.mem ∧ t.flash = s.flash)

/-- R269, R270, R271: an announced capacity 2 to 1,024 frames ahead is pending until its frame and takes effect then; one outside 9 to
K, or with a failed block 3, only sets ANN_BAD. Readings of the model: notes/assumptions/97, 98. -/
def Obligations.Capacity : Prop :=
  ∀ (n : PortLane) (arg2 arg3 : BitVec 16) (s : State),
    let v := arg2.toNat % 0x1000
    let ahead := (arg3.toNat + 0x1_0000 - s.dev.seqNow % 0x1_0000) % 0x1_0000
    ((s.dev.lane n).type = 1 → s.dev.inFrame n = true → arg2.getLsbD 15 = true →
      (∀ ok3, ok3 = false ∨ v < 9 ∨ blocksPerFrame (s.dev.lane n).rate < v →
        ∃ t, exec (.capacityAnnouncement n true ok3 arg2 arg3) s = .next t ∧ t.dev.on (F.laneTuEvtAnnBad.lane n) = true
          ∧ OnlyWords [laneAddr n Reg.laneTuEvt] s t)
      ∧ (9 ≤ v → v ≤ blocksPerFrame (s.dev.lane n).rate → v ≠ s.dev.get (F.laneTuStatCap.lane n) →
          s.dev.on (F.laneTuStatPend.lane n) = false → 2 ≤ ahead → ahead ≤ 1024 →
        ∃ t, exec (.capacityAnnouncement n true true arg2 arg3) s = .next t ∧ t.dev.on (F.laneTuStatPend.lane n) = true
          ∧ t.dev.get (F.laneTuStatPcap.lane n) = v ∧ t.dev.get (F.laneTuPeffE.lane n) = arg3.toNat
          ∧ t.dev.get (F.laneTuAnnN.lane n) = v ∧ t.dev.get (F.laneTuAnnE.lane n) = arg3.toNat
          ∧ t.dev.get (F.laneTuStatCap.lane n) = s.dev.get (F.laneTuStatCap.lane n)
          ∧ Dev.WordsBut [laneAddr n Reg.laneTuStat, laneAddr n Reg.laneTuPeff, laneAddr n Reg.laneTuAnn] s.dev t.dev
          ∧ t = { s with dev := { s.dev with words := t.dev.words, lanes := t.dev.lanes } }))
    ∧ (s.dev.capDue n = true →
        ∃ t, exec (.capacityChange n) s = .next t
          ∧ t.dev.get (F.laneTuStatCap.lane n) = s.dev.get (F.laneTuStatPcap.lane n)
          ∧ t.dev.on (F.laneTuStatPend.lane n) = false
          ∧ (s.dev.get (F.laneTuStatPcap.lane n) ≠ s.dev.get (F.laneTuStatCap.lane n) →
              t.dev.on (F.laneTuEvtCapchg.lane n) = true)
          ∧ Dev.WordsBut [laneAddr n Reg.laneTuStat, laneAddr n Reg.laneTuPeff, laneAddr n Reg.laneTuEvt] s.dev t.dev
          ∧ t = { s with dev := { s.dev with words := t.dev.words, lanes := t.dev.lanes, acc := t.dev.acc } })

/-- R239, R240, R244, R253, R277, R278, R279, R280: a merge pair: a partner that R277 does not allow is refused with SLVERR and leaves
EN at 0; disabling a pair turns it OFF; a copy becomes skewed at the eighth frame in a row with a late block and recovers at the
eighth without; and in MERGE a release whose time has come counts a block taken from the secondary, and one that failed in both, and
the next release waits for the next block's time. The worked header and payload of the spec: what a SYSTEM lane sends of sequence
number 0, and block 0's scrambled bytes. Readings of the model: notes/assumptions/34, 135. -/
def Obligations.StrainerAndWorkedBytes : Prop :=
  (∀ (n : PortLane) (s : State),
      (∀ (m : Master) (data : W32), s.mayWrite m.val (laneAddr n Reg.laneTuStr) →
        (getF data 0 1 = 1 → s.dev.partnerOk n (getF data 1 7) = false →
          ∃ t, exec (.tuStrWrite m n data) s = .next t ∧ (t.dev.replyTo m.val).resp = .slverr
            ∧ t.dev.on (F.laneTuStrEn.lane n) = false ∧ KeepsMemories s t
            ∧ (s.dev.on (F.laneTuStrEn.lane n) = false → AnsweredWords m.val .slverr [] s t)
            ∧ (s.dev.on (F.laneTuStrEn.lane n) = true → t.dev.get (F.laneTuStrstatState.lane n) = strOff
                ∧ t.dev.get (F.laneTuStrPartner.lane n) = s.dev.get (F.laneTuStrPartner.lane n)))
        ∧ (getF data 0 1 = 0 →
          ∃ t, exec (.tuStrWrite m n data) s = .next t ∧ (t.dev.replyTo m.val).resp = .okay ∧ KeepsMemories s t
            ∧ t.dev.on (F.laneTuStrEn.lane n) = false
            ∧ (s.dev.on (F.laneTuStrEn.lane n) = false → AnsweredWords m.val .okay [laneAddr n Reg.laneTuStr] s t)
            ∧ (s.dev.on (F.laneTuStrEn.lane n) = true → t.dev.get (F.laneTuStrstatState.lane n) = strOff
                ∧ t.dev.on (F.laneTuStrstatSkewP.lane n) = false ∧ t.dev.on (F.laneTuStrstatSkewS.lane n) = false)))
      ∧ (s.dev.on (F.laneTuStrEn.lane n) = true → s.dev.isSystem n = true →
        (∀ second : Bool,
          let copy := s.dev.tu (if second then s.dev.get (F.laneTuStrPartner.lane n) else n)
          let skew := (if second then F.laneTuStrstatSkewS else F.laneTuStrstatSkewP).lane n
          (copy.lateRun = 8 → ∃ t, exec (.copySkewed n second true) s = .next t ∧ t.dev.on skew = true ∧ KeepsMemories s t)
          ∧ (copy.goodRun = 8 → ∃ t, exec (.copySkewed n second false) s = .next t ∧ t.dev.on skew = false ∧ KeepsMemories s t)
          ∧ (copy.lateRun < 8 → exec (.copySkewed n second true) s = .next s)
          ∧ (copy.goodRun < 8 → exec (.copySkewed n second false) s = .next s))
        ∧ (∀ r : Release, (s.dev.tu n).release = some r →
            let partner := s.dev.get (F.laneTuStrPartner.lane n)
            let due := r.point + r.next * s.dev.blockTicks n
            let passed (x : Option CopyBlk) : Bool := x.any (fun y => y.hdr.ok)
            let own := passed (s.dev.copyPart n r due false)
            let second := passed (s.dev.copyPart partner r due false)
            (s.dev.now < due → exec (.strainerRelease n r.seq r.point r.next) s = .next s)
            ∧ (s.dev.get (F.laneTuStrstatState.lane n) = strMerge → due ≤ s.dev.now → n.val ≠ partner →
                r.next + 1 < blocksPerFrame (s.dev.lane n).rate →
              ∃ t, exec (.strainerRelease n r.seq r.point r.next) s = .next t ∧ KeepsMemories s t
                ∧ (t.dev.tu n).release = some { r with next := r.next + 1 }
                ∧ t.dev.get (F.laneTuStrsecCount.lane n)
                    = (s.dev.get (F.laneTuStrsecCount.lane n) + (if !own && second then 1 else 0)) % 2 ^ 32
                ∧ t.dev.get (F.laneTuStrbadCount.lane n)
                    = (s.dev.get (F.laneTuStrbadCount.lane n) + (if !own && !second then 1 else 0)) % 2 ^ 32))))
  ∧ ((tuHeader false [0xBD, 0x1E, 0x6C, 0xD3, 0xAC, 0x65] = { ok := true, corrected := false, type := 0, fs := true, field8 := 0, arg := 1 })
      ∧ tuPayload 0 [0x12, 0x34, 0x56, 0x78, 0x9A, 0xBC, 0xDE, 0xF0] = [0x12, 0x34, 0x56, 0x76, 0x9A, 0xBC, 0xDE, 0x0C])

/-! Path points -/

/-- R199, R200, R201, R210: what one word does at a point in NORM: an NDF word sets the active value at once; a normal word
with all five I bits inverted, or all five D bits, moves it by one, and waits for the fabric of a realigned container, or is shared by the
TUs within a structured one; a normal word with the active value keeps it; and the words since the last change are counted. The moves of
an interpreter that is no member's: three all-ones words lead to AIS, three equal NEW words to NORM with their value, NDF out of AIS to
NORM, and eight invalid words to LOP. Readings of the model: notes/assumptions/35, 36. -/
def Obligations.PointerInterpreter : Prop :=
  (∀ (p : Point) (w : BitVec 16) (a : Nat) (s : State),
      let k := pointKey p
      let x := s.dev.path k
      let top := s.dev.pointerTop k
      let around := (s.dev.lane (laneOf k)).isLine && isHo k && s.dev.structured (hoOf k)
      let waits := if s.dev.realigned k then 1 else 0
      s.dev.pointerLive k = true → s.dev.hearsWord k w = true → s.dev.pstate k = psNorm → x.active = some a → a ≤ top →
      ∃ t, exec (.pointerWord p w) s = .next t ∧ KeepsMemories s t ∧ t.dev.pstate k = psNorm
        ∧ (around = false → ∀ j, j ≠ k → t.dev.path j = s.dev.path j)
        ∧ (w.toNat / 4096 = 9 → w.toNat % 1024 ≤ top →
            (t.dev.path k).active = some (w.toNat % 1024) ∧ (t.dev.path k).since = 0
              ∧ (s.dev.realigned k = true → (t.dev.path k).choose = true))
        ∧ (w.toNat / 4096 = 6 → w.toNat % 1024 = a ^^^ 0x2AA → 3 ≤ x.since →
            (t.dev.path k).active = some ((a + 1) % (top + 1)) ∧ (t.dev.path k).since = 0
              ∧ (t.dev.path k).pendInc = x.pendInc + waits ∧ (t.dev.path k).pendDec = x.pendDec
              ∧ ((s.dev.lowerOf (hoOf k)).Nodup → around = true →
                  ∀ j, j ∈ s.dev.lowerOf (hoOf k) → s.dev.parentOf j = k → s.dev.pstate j = psNorm →
                    (t.dev.path j).share = (s.dev.path j).share + (s.dev.pointUnit j).share))
        ∧ (w.toNat / 4096 = 6 → w.toNat % 1024 = a ^^^ 0x155 → 3 ≤ x.since →
            (t.dev.path k).active = some ((a + top) % (top + 1)) ∧ (t.dev.path k).since = 0
              ∧ (t.dev.path k).pendDec = x.pendDec + waits ∧ (t.dev.path k).pendInc = x.pendInc
              ∧ ((s.dev.lowerOf (hoOf k)).Nodup → around = true →
                  ∀ j, j ∈ s.dev.lowerOf (hoOf k) → s.dev.parentOf j = k → s.dev.pstate j = psNorm →
                    (t.dev.path j).share = (s.dev.path j).share - (s.dev.pointUnit j).share))
        ∧ (w.toNat / 4096 = 6 → w.toNat % 1024 = a → (t.dev.path k).active = some a
            ∧ (t.dev.path k).since = Nat.min 8 (x.since + 1))
        ∧ (w = 0xFFFF#16 → (t.dev.path k).active = some a ∧ (t.dev.path k).aisRun = Nat.min 8 (x.aisRun + 1)))
  ∧ (∀ (p : Point) (s : State),
      let k := pointKey p
      let x := s.dev.path k
      let around := (s.dev.lane (laneOf k)).isLine && isHo k && s.dev.structured (hoOf k)
      s.dev.pointerLive k = true → s.dev.headPoint k = k →
      ∀ (st : Nat) (value : Option Nat),
        (s.dev.pstate k ≠ psAis ∧ s.dev.pstate k < 3 ∧ 3 ≤ x.aisRun ∧ st = psAis ∧ value = none)
          ∨ (s.dev.pstate k < 3 ∧ x.aisRun < 3 ∧ x.ndfValue = none ∧ 3 ≤ x.newRun ∧ st = psNorm ∧ value = some x.newValue)
          ∨ (s.dev.pstate k = psAis ∧ ∃ v, x.ndfValue = some v ∧ st = psNorm ∧ value = some v)
          ∨ (s.dev.pstate k = psNorm ∧ x.aisRun < 3 ∧ x.newRun < 3 ∧ 8 ≤ x.invRun ∧ st = psLop ∧ value = none) →
        ∃ t, exec (.pointerStateChange p) s = .next t ∧ t.dev.pstate k = st
          ∧ (t.dev.path k).active = (if value.isSome then value else x.active)
          ∧ (value.isSome = true → s.dev.realigned k = true → (t.dev.path k).choose = true)
          ∧ (value = none → (t.dev.path k).pendInc = 0 ∧ (t.dev.path k).pendDec = 0 ∧ (t.dev.path k).due = none)
          ∧ (around = false → ∀ j, j ≠ k → t.dev.path j = s.dev.path j) ∧ KeepsMemories s t)

/-- R206, R208, R210, R211, R220, R234: a justification owed to the fabric takes the first frame that can carry it, four words after the
last pointer action at the earliest, and a chosen fabric pointer a frame with NDF, its value the first place that leaves the delay M; the
frame that carries a justification moves the fabric pointer by one in its direction. A point's configuration words take effect whole; a
written structure is taken up once, at a frame boundary, and the interpreter of an AU-4 whose word was written has no active value afterwards.
Readings of the model: notes/assumptions/14, 35, 36. -/
def Obligations.FabricPointerAndPathConfig : Prop :=
  (∀ (p : Point) (u : FabricUnit) (s : State),
      let k := pointKey p
      let x := s.dev.path k
      s.dev.areaOf k = some u →
      (∀ inc, s.dev.justifyDue k inc = true →
        ∃ t, exec (.fabricJustification p inc) s = .next t
          ∧ (t.dev.path k).due = some (s.dev.actionFrame u x true, if inc then .inc else .dec)
          ∧ (t.dev.path k).choose = x.choose ∧ (t.dev.path k).active = x.active
          ∧ (inc = true → x.pendInc ≠ 0 → (t.dev.path k).pendInc = x.pendInc - 1 ∧ (t.dev.path k).share = x.share)
          ∧ (inc = true → x.pendInc = 0 → (t.dev.path k).pendInc = 0 ∧ (t.dev.path k).share = x.share - 87)
          ∧ (inc = false → x.pendDec ≠ 0 → (t.dev.path k).pendDec = x.pendDec - 1 ∧ (t.dev.path k).share = x.share)
          ∧ (inc = false → x.pendDec = 0 → (t.dev.path k).pendDec = 0 ∧ (t.dev.path k).share = x.share + 87)
          ∧ (∀ j, j ≠ k → t.dev.path j = s.dev.path j)
          ∧ t = { s with dev := { s.dev with paths := t.dev.paths, acc := t.dev.acc } })
      ∧ (∀ arrival : Fin 622080, x.choose = true → s.dev.pstate k = psNorm → s.dev.realigned k = true →
        ∃ t, exec (.newFabricPointer p arrival) s = .next t ∧ t.dev.get (stFptr k) = u.firstPlace arrival.val
          ∧ t.dev.path k = { x with choose := false, pendInc := 0, pendDec := 0, share := 0,
                                    due := some (s.dev.actionFrame u x false, .new (u.firstPlace arrival.val)) }
          ∧ Dev.WordsBut [statAddr k] s.dev t.dev ∧ (∀ j, j ≠ k → t.dev.path j = s.dev.path j) ∧ KeepsMemories s t)
      ∧ (∀ e, x.acted = some e → e ≤ s.dev.timing.edges → e + 4 * u.kind.wordFrames ≤ s.dev.actionFrame u x true))
  ∧ (∀ (q mf edge e f : Nat) (inc : Bool) (u : FabricUnit) (d : Dev),
      let k := unitPoint q u
      let n := u.kind.values
      d.realigned k = true → d.pstate k = psNorm → d.ownFail k = false → u.kind.isTu1x = false → u.slots.length = (u.kind.roles mf).length →
      (d.path k).track.val = some f → f < n → (d.path k).due = some (e, if inc then .inc else .dec) → e ≤ edge →
        let r := d.pourUnit q mf edge u
        (r.path k).track.val = some (if inc then (f + 1) % n else (f + n - 1) % n)
          ∧ r.get (stFptr k) = (if inc then (f + 1) % n else (f + n - 1) % n)
          ∧ (r.path k).due = none ∧ (r.path k).acted = some edge)
  ∧ ((∀ (p : Point) (s : State), ∃ t, exec (.pathConfigTakeEffect p) s = .next t
        ∧ (t.dev.path (pointKey p)).cfg = s.dev.word (cfgAddr (pointKey p))
        ∧ (t.dev.path (pointKey p)).trc = s.dev.word (cfgAddr (pointKey p) + 4) ∧ KeepsMemories s t)
      ∧ (∀ (h : HoPoint) (s : State),
          let taken : Dev := { s.dev with restarts := s.dev.restarts.filter (fun x => x != h.val),
                                          structs := Store.set (fun _ => 0) s.dev.structs h.val (s.dev.word (0x1C00_0018 + 64 * h.val)) }
          (s.dev.atEdge = true → h.val ∈ s.dev.restarts → taken.interpreterOf (3 * h.val) = some false →
            ∃ t, exec (.interpreterRestart h) s = .next t ∧ t.dev.restarts = taken.restarts ∧ t.dev.structs = taken.structs
              ∧ t.dev.pstate (3 * h.val) = psLop ∧ (t.dev.path (3 * h.val)).active = none
              ∧ (t.dev.path (3 * h.val)).cfg = (s.dev.path (3 * h.val)).cfg ∧ KeepsMemories s t)
          ∧ ((s.dev.atEdge = false ∨ h.val ∉ s.dev.restarts) → exec (.interpreterRestart h) s = .next s)))

/-- R224, R225, R226, R237: at a point whose overhead is evaluated a label that five frames carried is accepted, and one of 0 shows as
UNEQ; so are RDI and RFI of five frames, K3 of three, and the trace of three messages, which is compared with the expected one. Fewer
change nothing. A trace capture of a point without an accepted trace completes at once, empty; another waits for the point's next accepted
trace, and when it completes the whole message stands in the buffer. Readings of the model: notes/assumptions/38, 125, 130. -/
def Obligations.PathOverheadAndCapture : Prop :=
  (∀ (p : Point) (s : State),
      let k := pointKey p
      let x := s.dev.path k
      s.dev.overheadLive k = true →
      (5 ≤ x.label.count → ∃ t, exec (.c2Accept p x.label.value) s = .next t ∧ t.dev.on (stSlValid k) = true ∧ KeepsMemories s t
          ∧ (∀ j, t.dev.path j = s.dev.path j)
          ∧ (isHo k = true → t.dev.get (stC2 k) = x.label.value % 256 ∧ t.dev.on (stUneq k) = decide (x.label.value % 256 = 0)
              ∧ t.dev.on (stPlm k) = labelPlm (x.label.value % 256) (getF x.cfg 16 8))
          ∧ (isHo k = false → t.dev.get (stSig k) = x.label.value % 256))
      ∧ (x.label.count < 5 → ∀ v, exec (.c2Accept p v) s = .next s)
      ∧ (5 ≤ x.rdiRun.count → ∃ t, exec (.pathRdiAccept p .rdi x.rdiRun.value) s = .next t ∧ t.dev.on (stRdi k) = decide (x.rdiRun.value ≠ 0)
          ∧ (t.dev.path k).rdi = decide (x.rdiRun.value ≠ 0) ∧ (∀ j, j ≠ k → t.dev.path j = s.dev.path j) ∧ KeepsMemories s t)
      ∧ (5 ≤ x.rfiRun.count → isHo k = false →
          ∃ t, exec (.pathRdiAccept p .rfi x.rfiRun.value) s = .next t ∧ t.dev.on (stRfi k) = decide (x.rfiRun.value ≠ 0)
            ∧ (∀ j, j ≠ k → t.dev.path j = s.dev.path j) ∧ KeepsMemories s t)
      ∧ (3 ≤ x.k3.count → isHo k = true → ∃ t, exec (.pathRdiAccept p .k3 x.k3.value) s = .next t
          ∧ t.dev.get (stK3 k) = x.k3.value % 16 ∧ OnlyWords [statAddr k + 4] s t)
      ∧ (x.rdiRun.count < 5 → ∀ v, exec (.pathRdiAccept p .rdi v) s = .next s)
      ∧ (x.rfiRun.count < 5 → ∀ v, exec (.pathRdiAccept p .rfi v) s = .next s)
      ∧ (x.k3.count < 3 → ∀ v, exec (.pathRdiAccept p .k3 v) s = .next s)
      ∧ (3 ≤ x.trace.count →
          ∃ t, exec (.pathTraceAccept p x.trace.message) s = .next t ∧ t.dev.on (stTrcValid k) = true ∧ (t.dev.path k).accepted = x.trace.message
            ∧ (s.dev.timEn k = true → t.dev.on (stTim k)
                = decide (traceCompared (s.dev.pathMode k) x.trace.message
                    ≠ traceCompared (s.dev.pathMode k) (s.dev.traceEntry (getF x.trc 0 14))))
            ∧ (∀ n, n < 96 → (t.dev.lane n).caught
                = if (s.dev.lane n).capturing && s.dev.capturePoint n == k then some x.trace.message else (s.dev.lane n).caught)
            ∧ (∀ j, j ≠ k → t.dev.path j = s.dev.path j) ∧ KeepsMemories s t)
      ∧ (x.trace.count < 3 → ∀ l, exec (.pathTraceAccept p l) s = .next s))
  ∧ (∀ (n : PortLane) (s : State),
      (∀ (m : Master) (data : W32), s.mayWrite m.val (laneAddr n Reg.lanePsCap) →
        ∃ t, exec (.psCapGo m n data) s = .next t ∧ (t.dev.replyTo m.val).resp = .okay ∧ KeepsMemories s t
          ∧ (∀ q, q ≠ n.val → t.dev.lane q = s.dev.lane q) ∧ (t.dev.lane n).caught = none
          ∧ (s.dev.on (stTrcValid (capPoint n data)) = true →
              (t.dev.lane n).capturing = true ∧ t.dev.on (F.lanePsCapDone.lane n) = false)
          ∧ (s.dev.on (stTrcValid (capPoint n data)) = false →
              (t.dev.lane n).capturing = false ∧ t.dev.on (F.lanePsCapDone.lane n) = true
                ∧ t.dev.on (F.lanePsCapEmpty.lane n) = true))
      ∧ (∀ x : List Byte, x.length ≤ 64 → (s.dev.lane n).capturing = true → (s.dev.lane n).caught = some x →
        ∃ t, exec (.traceCaptureComplete n false) s = .next t ∧ t.dev.on (F.lanePsCapDone.lane n) = true
          ∧ t.dev.on (F.lanePsCapEmpty.lane n) = false ∧ t.dev.on (F.lanePsEvtCapDone.lane n) = true
          ∧ (t.dev.lane n).capturing = false
          ∧ t.dev.bytesAt (laneAddr n Reg.lanePsCapBuf) 64 = x ++ List.replicate (64 - x.length) 0
          ∧ t = { s with dev := { s.dev with words := t.dev.words, lanes := t.dev.lanes } })
      ∧ ((s.dev.lane n).caught = none → s.dev.on (stTrcValid (s.dev.capturePoint n)) = true →
          ∀ empty, exec (.traceCaptureComplete n empty) s = .next s))

/-! The Flow Engine -/

/-- R333, R334, R335, R376: a write of a context word: of an enabled context it is refused where it changes a field that is fixed then;
EN = 1 is refused where another context stands in the way; EN = 0 empties both halves of the queue; a retired slice takes none. -/
def Obligations.ContextWrite : Prop :=
  ∀ (m : Master) (f : FlowId) (w : Fin 4) (data : W32) (s : State), s.mayWrite m.val (ctxAddr f w) →
    let new := (s.dev.regWrite (ctxAddr f w) data).word (ctxAddr f w)
    let was := s.dev.on (F.ctxEn.at 16 f)
    let fixed := (s.dev.word (ctxAddr f w) ^^^ new) &&& ctxFixed w
    let error := s.dev.ctxEnableError f new (s.dev.word (ctxAddr f 1)) (s.dev.word (ctxAddr f 2))
    (s.dev.sliceRetired f = true →
      ∃ t, exec (.flowContextWrite m f w data) s = .next t ∧ AnsweredWords m.val .slverr [] s t)
    ∧ (s.dev.sliceRetired f = false →
      (∀ reason, was = true ∧ fixed ≠ 0 ∧ reason = errInUse ∨ was = false ∧ w.val = 0 ∧ getF new 0 1 = 1 ∧ error ≠ 0 ∧ reason = error →
        ∃ t, exec (.flowContextWrite m f w data) s = .next t
          ∧ AnsweredWords m.val .slverr [Reg.flwErr, Reg.flwEvt] s t ∧ t.dev.on F.flwEvtErr = true
          ∧ t.dev.get F.flwErrTable = 0 ∧ t.dev.get F.flwErrReason = reason ∧ t.dev.get F.flwErrIndex = f.val)
      ∧ (was = false → (w.val = 0 → getF new 0 1 = 1 → error = 0) → s.dev.poisoned (ctxAddr f w) = false →
        ∃ t, exec (.flowContextWrite m f w data) s = .next t ∧ AnsweredWords m.val .okay [ctxAddr f w] s t
          ∧ t.dev.word (ctxAddr f w) = new)
      ∧ (was = true → w.val = 0 → fixed = 0 → getF new 0 1 = 0 →
        ∃ t, exec (.flowContextWrite m f w data) s = .next t ∧ (t.dev.replyTo m.val).resp = .okay
          ∧ t.dev.word (ctxAddr f 0) = new ∧ t.dev.flow f = {}
          ∧ t.dev.get (F.ctxStL2fDrops.at 16 f) = (s.dev.get (F.ctxStL2fDrops.at 16 f) + (s.dev.flow f).l2f.length) % 2 ^ 32
          ∧ t.dev.get (F.ctxStF2lDrops.at 16 f) = (s.dev.get (F.ctxStF2lDrops.at 16 f) + (s.dev.flow f).f2l.length) % 2 ^ 32
          ∧ (∀ j, j ≠ f.val → t.dev.flow j = s.dev.flow j) ∧ t.mem = s.mem ∧ t.flash = s.flash))

/-- R337, R348, R349, R368, R376: the writes of the other Flow Engine tables, accepted and refused. -/
def Obligations.FlowTables : Prop :=
  ∀ (m : Master) (s : State),
    (∀ (g : GroupId) (w : Fin 8) (data : W32), s.mayWrite m.val (grpAddr g w) →
      let new := (s.dev.regWrite (grpAddr g w) data).word (grpAddr g w)
      let shape := (s.dev.word (grpAddr g w) ^^^ new) &&& 0x3F
      let used := s.dev.enabledMembers.any (fun i => s.dev.memGroup i == g.val)
      (w.val = 0 → shape ≠ 0 → used = true →
        ∃ t, exec (.groupConfigWrite m g w data) s = .next t
          ∧ AnsweredWords m.val .slverr [Reg.flwErr, Reg.flwEvt] s t ∧ t.dev.on F.flwEvtErr = true
          ∧ t.dev.get F.flwErrTable = 1 ∧ t.dev.get F.flwErrReason = errInUse ∧ t.dev.get F.flwErrIndex = g.val)
      ∧ ((w.val = 0 → (shape = 0 ∨ used = false) ∧ getF new 3 3 ≤ 3) → s.dev.poisoned (grpAddr g w) = false →
        ∃ t, exec (.groupConfigWrite m g w data) s = .next t ∧ AnsweredWords m.val .okay [grpAddr g w] s t
          ∧ t.dev.word (grpAddr g w) = new))
    ∧ (∀ (i : MemberId) (w : Fin 2) (data : W32), s.mayWrite m.val (memAddr i w) →
      let new := (s.dev.regWrite (memAddr i w) data).word (memAddr i w)
      (s.dev.on (F.memEn.at 8 i) = true →
          (s.dev.word (memAddr i w) ^^^ new) &&& ~~~(if w.val = 0 then 1#32 else 0x100_0000#32) ≠ 0 →
        ∃ t, exec (.memberConfigWrite m i w data) s = .next t
          ∧ AnsweredWords m.val .slverr [Reg.flwErr, Reg.flwEvt] s t ∧ t.dev.on F.flwEvtErr = true
          ∧ t.dev.get F.flwErrTable = 2 ∧ t.dev.get F.flwErrReason = errInUse ∧ t.dev.get F.flwErrIndex = i.val)
      ∧ (s.dev.on (F.memEn.at 8 i) = false → (w.val = 0 → getF new 0 1 = 0) → s.dev.poisoned (memAddr i w) = false →
        ∃ t, exec (.memberConfigWrite m i w data) s = .next t ∧ AnsweredWords m.val .okay [memAddr i w] s t
          ∧ t.dev.word (memAddr i w) = new)
      ∧ (s.dev.on (F.memEn.at 8 i) = false → w.val = 0 → getF new 0 1 = 1 → getF new 1 1 = 0 →
          s.dev.memEnableError i new (s.dev.word (memAddr i 1)) = 0 → s.dev.grpLcas (s.dev.memGroup i) = false →
        ∃ t, exec (.memberConfigWrite m i w data) s = .next t ∧ (t.dev.replyTo m.val).resp = .okay
          ∧ t.dev.word (memAddr i w) = new ∧ t.dev.memState i = stFixed
          ∧ t.dev.get (F.memStSq.at 8 i) = s.dev.get (F.mem1Sq.at 8 i) ∧ t.mem = s.mem ∧ t.flash = s.flash))
    ∧ (∀ (p : Fin 8) (g : Fin 64) (data : W32), s.mayWrite m.val (fpStrAddr p g) →
      s.dev.on ⟨Reg.flwFportRet, p, 1⟩ = false →
      let ws := s.dev.structWords (96 + p.val)
      let after := ws.set g ((s.dev.regWrite (fpStrAddr p g) data).word (fpStrAddr p g))
      ((∃ i ∈ s.dev.enabledMembers, s.dev.get (F.memFport.at 8 i) = p.val ∧ s.dev.unitOf ws i ≠ s.dev.unitOf after i) →
        ∃ t, exec (.flowPortStructureWrite m p g data) s = .next t
          ∧ AnsweredWords m.val .slverr [Reg.flwErr, Reg.flwEvt] s t ∧ t.dev.on F.flwEvtErr = true
          ∧ t.dev.get F.flwErrTable = 3 ∧ t.dev.get F.flwErrReason = errStruct ∧ t.dev.get F.flwErrIndex = 64 * p.val + g.val)
      ∧ ((∀ i ∈ s.dev.enabledMembers, s.dev.get (F.memFport.at 8 i) = p.val → s.dev.unitOf ws i = s.dev.unitOf after i) →
          s.dev.shadow ≠ shChecking → s.dev.shadow ≠ shChecked → s.dev.shadow ≠ shArmed → s.dev.poisoned (fpStrAddr p g) = false →
        ∃ t, exec (.flowPortStructureWrite m p g data) s = .next t ∧ AnsweredWords m.val .okay [fpStrAddr p g] s t
          ∧ t.dev.word (fpStrAddr p g) = (s.dev.regWrite (fpStrAddr p g) data).word (fpStrAddr p g)))
    ∧ (∀ (n : PortLane) (high : Bool) (data : W32),
      let a := Reg.psqShare + 8 * n.val + (if high then 4 else 0)
      let sum := s.dev.get F.psqShareSumSum + Dev.sumBytes data - Dev.sumBytes (s.dev.word a)
      s.mayWrite m.val a →
      (2294 < sum → ∃ t, exec (.shareWrite m n high data) s = .next t ∧ AnsweredWords m.val .slverr [] s t)
      ∧ (sum ≤ 2294 → ∃ t, exec (.shareWrite m n high data) s = .next t
          ∧ AnsweredWords m.val .okay [a, Reg.psqShareSum] s t ∧ t.dev.word a = data ∧ t.dev.get F.psqShareSumSum = sum))

/-- R108, R121, R130, R343, R344, R345, R346, R353: a frame in the alignment of a stream's ACTIVE whose core header cannot be read
counts towards the loss of SYNC, one that can ends the count, and an idle frame does nothing more; a frame that a change of the alignment
delay broke off is discarded; at the ALPHA-th the stream leaves SYNC, with LFD. CSF clears 300 ms after the last CSF frame; a CSF frame goes out every 100 ms while CSF_TX calls for
it; three frames with another EXI declare EXM. Readings of the model: notes/assumptions/44. -/
def Obligations.GfpStreamAndClientSignals : Prop :=
  (∀ (g : GroupId) (k : Fin 8) (s : State),
      let v := s.dev.gfpSieve g
      s.dev.streamRuns g = true → (v.slot k).st = .active → (v.slot k).takeover = false →
      (∀ bytes : List Byte,
        let core := gfpCore bytes
        (pairRead v.gfpCorr core = none →
          ∃ t, exec (.gfpFrameReceived g k bytes) s = .next t ∧ (t.dev.gfpSieve g).errors = v.errors + 1
            ∧ (∀ j, j ≠ g.val → t.dev.gfpSieve j = s.dev.gfpSieve j) ∧ t = { s with dev := { s.dev with gfp := t.dev.gfp } })
        ∧ (pairRead v.gfpCorr core = some (0, false) → (s.dev.group g).broken = false →
          ∃ t, exec (.gfpFrameReceived g k bytes) s = .next t ∧ (t.dev.gfpSieve g).errors = 0
            ∧ (∀ j, j ≠ g.val → t.dev.gfpSieve j = s.dev.gfpSieve j) ∧ t = { s with dev := { s.dev with gfp := t.dev.gfp } })
        ∧ (∀ pli c, pairRead v.gfpCorr core = some (pli, c) → (s.dev.group g).broken = true →
          ∃ t, exec (.gfpFrameReceived g k bytes) s = .next t ∧ (t.dev.gfpSieve g).errors = 0 ∧ (t.dev.group g).broken = false
            ∧ t.dev.get (F.grpStDiscarded.at 64 g) = (s.dev.get (F.grpStDiscarded.at 64 g) + 1) % 2 ^ 32
            ∧ KeepsMemories s t ∧ (∀ f, t.dev.flow f = s.dev.flow f))
        ∧ (∀ pli c, pairRead v.gfpCorr core = some (pli, c) → 1 ≤ pli → pli < 4 →
          ∃ t, exec (.gfpFrameReceived g k bytes) s = .next t ∧ (t.dev.gfpSieve g).errors = 0
            ∧ t.dev.get (F.grpStDiscarded.at 64 g) = (s.dev.get (F.grpStDiscarded.at 64 g) + 1) % 2 ^ 32
            ∧ t.mem = s.mem ∧ t.flash = s.flash))
      ∧ (1 ≤ v.errors → v.gfpAlpha ≤ v.errors → (∀ j, j ≠ k.val → (v.slot j).st ≠ .active) →
          (∀ j, (v.slot j).st ≠ .alt ∧ (v.slot j).st ≠ .trial) →
        ∃ t, exec (.gfpSyncLoss g) s = .next t ∧ t.dev.on (F.grpStLfd.at 64 g) = true ∧ t.dev.get (F.grpStSv.at 64 g) = 0
          ∧ t.dev.get (F.grpStSyncLoss.at 64 g) = (s.dev.get (F.grpStSyncLoss.at 64 g) + 1) % 2 ^ 32
          ∧ (t.dev.gfpSieve g).slot k
              = { st := .cand, pos := (v.slot k).pos, rot := (v.slot k).rot, run := 1, need := 1 + v.gfpDelta,
                  pli := (v.slot k).pli, scr := (v.slot k).scr }
          ∧ t.mem = s.mem ∧ t.flash = s.flash))
  ∧ (∀ (g : GroupId) (s : State),
      let x := s.dev.group g
      (∀ at', x.csfAt = some at' → at' + 300 * 622080 ≤ s.dev.now → s.dev.on (F.grpStCsf.at 64 g) = true →
        ∃ t, exec (.csfClear g) s = .next t ∧ t.dev.on (F.grpStCsf.at 64 g) = false ∧ t.dev.on F.flwEvtCsfChg = true
          ∧ Dev.WordsBut [(F.grpStCsf.at 64 g).off, Reg.flwEvt] s.dev t.dev
          ∧ t = { s with dev := { s.dev with words := t.dev.words, acc := t.dev.acc } })
      ∧ ((x.csfSent = none ∨ ∃ at', x.csfSent = some at' ∧ at' + 100 * 622080 ≤ s.dev.now) → s.dev.csfDue g = true →
        ∃ t, exec (.csfSend g) s = .next t ∧ (t.dev.group g).csfSent = some s.dev.now
          ∧ (∀ j, j ≠ g.val → t.dev.group j = s.dev.group j) ∧ t = { s with dev := { s.dev with groups := t.dev.groups } })
      ∧ (3 ≤ x.exmBad → x.exmOk < 3 →
        ∃ t, exec (.exmDeclare g) s = .next t ∧ t.dev.on (F.grpStExm.at 64 g) = true
          ∧ Dev.WordsBut [(F.grpStExm.at 64 g).off, Reg.flwEvt] s.dev t.dev
          ∧ t = { s with dev := { s.dev with words := t.dev.words, acc := t.dev.acc } }))

/-- R340, R351, R352, R354, R355, R357: what shows of a sink member: a received control packet's CTRL and SQ, and the delays; one whose CRC
fails is ignored; its causes of failure, SQM after three packets with another SQ, and the group's LOA while its members' delays spread
beyond DD_MAX. The LCAS states of a source member at a multiframe boundary, from which the group's multiframe counts on.
Readings of the model: notes/assumptions/25, 45, 46. -/
def Obligations.VcatAndLcas : Prop :=
  (∀ (i : MemberId) (s : State), s.dev.flwRuns = true → s.dev.on (F.memEn.at 8 i) = true → s.dev.memSink i = true →
      (∀ c : ControlPacket, s.dev.grpMode (s.dev.memGroup i) = modeVcat → (s.dev.member i).packet = some c →
        (c.crcOk = true →
          ∃ t, exec (.controlPacket i c) s = .next t ∧ t.dev.get (F.memStCtrl.at 8 i) = c.ctrl % 16
            ∧ t.dev.get (F.memStSq.at 8 i) = c.sq % 256
            ∧ t.dev.get (F.memStDelay.at 8 i) = s.dev.delayOf (s.dev.memGroup i) i
            ∧ (t.dev.member i).packet = none ∧ KeepsMemories s t
            ∧ (c.sq ≠ s.dev.get (F.mem1Sq.at 8 i) →
                (t.dev.member i).sqBad = Nat.min 3 ((s.dev.member i).sqBad + 1) ∧ (t.dev.member i).sqOk = 0))
        ∧ (c.crcOk = false → ∃ t, exec (.controlPacket i c) s = .next t
            ∧ t.dev.member i = { s.dev.member i with packet := none } ∧ (∀ j, j ≠ i.val → t.dev.member j = s.dev.member j)
            ∧ t = { s with dev := { s.dev with members := t.dev.members } }))
      ∧ (∀ cause : SinkCause,
        ∃ t, exec (.sinkMemberFail i cause (s.dev.sinkCause i cause)) s = .next t
          ∧ t.dev.on ((match cause with | .pointer => F.memStFailPtr | .signal => F.memStFailSig).at 8 i) = s.dev.sinkCause i cause
          ∧ (∀ j, t.dev.member j = s.dev.member j) ∧ KeepsMemories s t)
      ∧ (s.dev.grpMode (s.dev.memGroup i) = modeVcat → s.dev.grpLcas (s.dev.memGroup i) = false → 3 ≤ (s.dev.member i).sqBad ∨ 3 ≤ (s.dev.member i).sqOk →
        ∃ t, exec (.sqmDeclare i) s = .next t ∧ t.dev.on (F.memStSqm.at 8 i) = decide (3 ≤ (s.dev.member i).sqBad)
          ∧ (∀ j, t.dev.member j = s.dev.member j) ∧ KeepsMemories s t)
      ∧ (∀ g : GroupId, s.dev.grpMode g = modeVcat → s.dev.grpLcas g = false →
        ∃ t, exec (.loaDeclare g) s = .next t
          ∧ t.dev.on (F.grpStLoa.at 64 g) = decide (s.dev.ddMax g < s.dev.spread (s.dev.side g true))
          ∧ KeepsMemories s t))
  ∧ (∀ (g : GroupId) (s : State), s.dev.flwRuns = false ∨ (s.dev.group g).bound = false → exec (.multiframeBoundary g) s = .next s)
  ∧ (∀ (g : GroupId) (i : Nat) (s : State), s.dev.flwRuns = true → (s.dev.group g).bound = true → s.dev.grpLcas g = true →
      s.dev.get F.mateStatRole < 2 → i ∈ s.dev.side g false →
      let st := s.dev.memState i
      let act := s.dev.on (F.mem1ActReq.at 8 i)
      let mst := (s.dev.member i).mst
      ∃ t, exec (.multiframeBoundary g) s = .next t ∧ KeepsMemories s t
        ∧ t.dev.group g = { s.dev.group g with bound := false } ∧ (t.dev.member i).pays = (s.dev.member i).pays
        ∧ (st = stIdle → act = true → t.dev.memState i = stAdd)
        ∧ (st = stIdle → act = false → t.dev.memState i = stIdle)
        ∧ (st = stAdd → act = true → mst = some true → t.dev.memState i = stNorm ∨ t.dev.memState i = stEos)
        ∧ (st = stAdd → act = true → mst ≠ some true → t.dev.memState i = stAdd)
        ∧ (st = stNorm ∨ st = stEos → act = true → mst = some false → t.dev.memState i = stDnu)
        ∧ (st = stDnu → act = true → mst = some true → t.dev.memState i = stNorm ∨ t.dev.memState i = stEos)
        ∧ (st = stNorm ∨ st = stEos ∨ st = stDnu → act = false → t.dev.memState i = stRemove)
        ∧ (st = stRemove → t.dev.memState i = stIdle))
  ∧ (∀ (g i : Nat) (d : Dev), d.grpLcas g = true → i ∈ d.side g false →
      let m := ((d.group g).mfi + 1) % 4096
      let e := d.sourceFrameStart g
      (e.group g).mfi = m
        ∧ (m % multiframe (d.grpMtype g) = 0 → (e.group g).bound = true ∧ (e.member i).pays = carries (d.memState i))
        ∧ (m % multiframe (d.grpMtype g) ≠ 0 → (e.group g).bound = false ∧ (e.member i).pays = (d.member i).pays))

/-- R227, R350: the multiframe of a structured point or of a sink member: the second frame in a row out of sequence gives OOM, two in
sequence end it, and OOM for 8 frames gives LOM, which 8 frames in multiframe clear. -/
def Obligations.MultiframeAlignment : Prop :=
  (∀ (i : MfSource) (s : State),
    (match i with | .ho k => s.dev.h4Live k = true | .member j => s.dev.mfiLive j = true) →
    let x : Mf := match i with | .ho k => (s.dev.path k).mf | .member j => (s.dev.member j).rx.mf
    let after (d : Dev) : Mf := match i with | .ho k => (d.path k).mf | .member j => (d.member j).rx.mf
    (2 ≤ x.bad → ∃ t, exec (.oom i x.bad) s = .next t ∧ after t.dev = { x with oom := true } ∧ KeepsMemories s t
        ∧ t.dev.words = s.dev.words)
    ∧ (x.bad < 2 → ∃ t, exec (.oom i x.bad) s = .next t ∧ after t.dev = x ∧ KeepsMemories s t ∧ t.dev.words = s.dev.words)
    ∧ (8 ≤ x.frames →
      ∃ t, exec (.lom i) s = .next t ∧ KeepsMemories s t
        ∧ t.dev.on (match i with | .ho k => stLom k | .member j => F.memStLom.at 8 j) = x.oom)
    ∧ (x.frames < 8 →
      ∃ t, exec (.lom i) s = .next t ∧ KeepsMemories s t
        ∧ t.dev.on (match i with | .ho k => stLom k | .member j => F.memStLom.at 8 j)
            = s.dev.on (match i with | .ho k => stLom k | .member j => F.memStLom.at 8 j)))
  ∧ (∀ (x : Mf) (m e v : Nat), 0 < m → e < m → v < m →
      (x.bad < 2 → x.next = some e → v = e → (x.step m v).bad = 0 ∧ (x.step m v).next = some ((e + 1) % m)
        ∧ (x.step m v).frames = Nat.min 8 (x.frames + 1))
      ∧ (x.bad = 0 → x.next = some e → v ≠ e → (x.step m v).bad = 1 ∧ (x.step m v).next = some ((e + 1) % m))
      ∧ (x.bad = 1 → x.next = some e → v ≠ e → (x.step m v).bad = 2 ∧ (x.step m v).last = some v)
      ∧ (2 ≤ x.bad → x.last = some e → (v = (e + 1) % m ↔ (x.step m v).bad = 0)))

/-! The Groomer -/

/-- R307, R308, R312, R316, R318, R319: the commands of GRM.CMD: NOP sets SLOT only; a command is turned away with BUSY while one runs
and with STATE where the shadow does not admit it; each starts otherwise, or does at once what it does, with ARG where its range or
its boundary is wrong. Readings of the model: notes/assumptions/71. -/
def Obligations.GroomerCommands : Prop :=
  ∀ (m : Master) (slot : Fin 64) (s : State), s.mayWrite m.val Reg.grmCmd →
    let done := [Reg.grmCmd, Reg.grmCmdStat, Reg.grmEvt]
    let first := s.dev.get F.grmFillFirstFirst
    let count := s.dev.get F.grmFillCountCount
    let sh := s.dev.shadow
    let boundary := s.dev.get F.grmCmtCfgBoundary
    let ahead := (s.dev.get F.grmCmtSeqSeq + 0x1_0000_0000 - s.dev.seqNow) % 0x1_0000_0000
    let late := boundary = 3 ∨ boundary = 2 ∧ (ahead < 2 ∨ 0x10_0000 < ahead)
    (∃ t, exec (.nop m slot) s = .next t ∧ AnsweredWords m.val .okay [Reg.grmCmd] s t ∧ t.dev.get F.grmCmdSlot = slot.val)
    ∧ (∀ c op, (c, op) ∈ groomerCommands m slot → s.dev.grm.running.isSome = true ∨ grmAccepts op sh = false →
      ∃ t, exec c s = .next t ∧ AnsweredWords m.val .okay done s t
        ∧ t.dev.GroomerShows op (if s.dev.grm.running.isSome then rsBusy else rsState) (s.dev.on F.grmCmdStatBusy)
        ∧ t.dev.on F.grmEvtCmdDone = true)
    ∧ (s.dev.grm.running = none →
      (∀ (c : Instr) (op sh' : Nat), grmAccepts op sh = true →
        (c = .copyActive m slot ∧ op = opCopyActive ∧ sh' = shLoading
          ∨ c = .fill m slot ∧ op = opFill ∧ sh' = shLoading ∧ 1 ≤ count ∧ first + count ≤ mapEntries
          ∨ c = .check m slot ∧ op = opCheck ∧ sh' = shChecking
          ∨ c = .libLoad m slot ∧ op = opLibLoad ∧ sh' = shLoading ∧ s.dev.hbmAnswers (libBase slot) = true
            ∧ libValid s.mem slot = true
          ∨ c = .libSave m slot ∧ op = opLibSave ∧ sh' = sh
          ∨ c = .verifyActive m slot ∧ op = opVerify ∧ sh' = sh) →
        ∃ t, exec c s = .next t ∧ (t.dev.replyTo m.val).resp = .okay ∧ t.dev.grm.running = some (op, slot.val)
          ∧ t.dev.GroomerShows op rsOk true ∧ t.dev.shadow = sh' ∧ t.dev.shadowMap = s.dev.shadowMap
          ∧ t.dev.activeMap = s.dev.activeMap ∧ t.flash = s.flash ∧ (op ≠ opLibSave → t.mem = s.mem)
          ∧ ∀ b, (b < libDescr slot ∨ libDescr slot + 4 ≤ b) → memByte t.mem b = memByte s.mem b)
      ∧ (∀ (c : Instr) (op res sh' : Nat), grmAccepts op sh = true →
        (c = .invalidate m slot ∧ op = opInvalidate ∧ res = rsOk ∧ sh' = shInvalid
          ∨ c = .fill m slot ∧ op = opFill ∧ res = rsArg ∧ sh' = sh ∧ (count = 0 ∨ mapEntries < first + count)
          ∨ c = .arm m slot ∧ op = opArm ∧ res = rsArg ∧ sh' = sh ∧ late
          ∨ c = .arm m slot ∧ op = opArm ∧ res = rsOk ∧ sh' = shArmed ∧ ¬ late
          ∨ c = .disarm m slot ∧ op = opDisarm ∧ res = rsOk ∧ sh' = shChecked
          ∨ c = .libLoad m slot ∧ op = opLibLoad ∧ res = rsSlotEmpty ∧ sh' = sh
            ∧ (s.dev.hbmAnswers (libBase slot) = false ∨ libValid s.mem slot = false)
          ∨ c = .libErase m slot ∧ op = opLibErase ∧ res = rsOk ∧ sh' = sh) →
        ∃ t, exec c s = .next t ∧ (t.dev.replyTo m.val).resp = .okay ∧ t.dev.grm.running = none
          ∧ t.dev.GroomerShows op res (s.dev.on F.grmCmdStatBusy) ∧ t.dev.on F.grmEvtCmdDone = true ∧ t.dev.shadow = sh'
          ∧ t.dev.shadowMap = s.dev.shadowMap ∧ t.dev.activeMap = s.dev.activeMap ∧ t.flash = s.flash
          ∧ (op ≠ opLibErase → t.mem = s.mem)
          ∧ (op = opLibErase → s.dev.hbmAnswers (libBase slot) = true → memWord t.mem (libDescr slot) = 0)
          ∧ ∀ b, (b < libDescr slot ∨ libDescr slot + 4 ≤ b) → memByte t.mem b = memByte s.mem b))

/-- R305, R308, R310, R318, R319, R322: the end of a running command of the Groomer: what the shadow holds and in which state, the
result, and the registers of the checker. Readings of the model: notes/assumptions/71. -/
def Obligations.GroomerCompletions : Prop :=
  ∀ (slot : Nat) (s : State),
    (∀ (c : Instr) (op res : Nat) (map : Store W32), s.dev.grm.running = some (op, slot) →
      (c = .copyActiveDone false ∧ op = opCopyActive ∧ res = rsOk ∧ map = s.dev.activeMap
        ∨ c = .copyActiveDone true ∧ op = opCopyActive ∧ res = rsEcc ∧ map = s.dev.shadowMap
        ∨ c = .fillDone ∧ op = opFill ∧ res = rsOk
          ∧ map = mapFill s.dev.shadowMap s.dev.grm.fill.1 s.dev.grm.fill.2.1 s.dev.grm.fill.2.2
        ∨ c = .libLoadDone ∧ op = opLibLoad ∧ map = libMixed s.dev.fresh s.dev.grm.loadMem s.mem slot
          ∧ res = (if s.dev.hbmAnswers (libBase slot) && mapCrc map == s.dev.grm.loadCrc then rsOk else rsCrc)) →
      ∃ t, exec c s = .next t ∧ t.dev.shadowMap = map ∧ t.dev.shadow = (if res = rsOk then shLoaded else shInvalid)
        ∧ t.dev.GroomerShows op res false ∧ t.dev.on F.grmEvtCmdDone = true
        ∧ t.dev.grm = { s.dev.grm with running := none, pristine := t.dev.grm.pristine }
        ∧ t = { s with dev := { s.dev with words := t.dev.words, grm := t.dev.grm, shadowMap := t.dev.shadowMap, fresh := t.dev.fresh } })
    ∧ (∀ draw : Nat, libMixed draw s.mem s.mem slot = libImage s.mem slot)
    ∧ (∀ ecc : List MapIndex, s.dev.grm.running = some (opCheck, slot) → s.dev.shadow = shChecking →
      let r := (s.dev.asOf s.dev.grm.snap).checkMap s.dev.grm.snap.map (ecc.map (fun i => i.val) ++ s.dev.poisonedEntries false)
      ∃ t, exec (.checkDone ecc) s = .next t ∧ t.dev.shadow = (if r.errors = 0 then shChecked else shFailed)
        ∧ t.dev.get F.grmChkResErrors = r.errors % 2 ^ 24 ∧ t.dev.get F.grmChkResReason = r.reason % 16
        ∧ t.dev.get F.grmChkResMaxfan = r.maxfan % 16 ∧ t.dev.get F.grmChkPosSlot = r.slot % 2 ^ 18
        ∧ t.dev.get F.grmChkPosPort = r.port % 128 ∧ t.dev.GroomerShows opCheck rsOk false
        ∧ t.dev.on F.grmEvtCheckDone = true ∧ t.dev.grm.running = none
        ∧ t = { s with dev := { s.dev with words := t.dev.words, grm := t.dev.grm } })
    ∧ (s.dev.grm.running = some (opLibSave, slot) → s.dev.hbmAnswers (libBase slot) = true →
      ∃ t, exec .libSaveDone s = .next t ∧ t.dev.GroomerShows opLibSave rsOk false ∧ t.dev.on F.grmEvtCmdDone = true
        ∧ Dev.WordsBut [Reg.grmCmdStat, Reg.grmEvt] s.dev t.dev
        ∧ t = { s with dev := { s.dev with words := t.dev.words, grm := { s.dev.grm with running := none } },
                       mem := libStore s.mem slot s.dev.grm.saved s.dev.grm.savedChecked })
    ∧ (∀ ecc : List MapIndex, s.dev.grm.running = some (opVerify, slot) →
      let r := (s.dev.asOf s.dev.grm.snap).checkMap s.dev.grm.snap.map (ecc.map (fun i => i.val) ++ s.dev.poisonedEntries true)
      ∃ t, exec (.activeVerificationDone ecc) s = .next t ∧ t.dev.on F.grmActFault = !decide (r.errors = 0)
        ∧ t.dev.GroomerShows opVerify rsOk false ∧ t.dev.on F.grmEvtCmdDone = true
        ∧ Dev.WordsBut [Reg.grmCmdStat, Reg.grmEvt, Reg.grmAct, Reg.grmActRes, Reg.grmActPos] s.dev t.dev
        ∧ t = { s with dev := { s.dev with words := t.dev.words, grm := t.dev.grm } })

/-- R306, R311, R315: the swap exchanges the two maps at its edge, and only there; the shadow window takes writes but while the shadow
is armed, loading or being saved; and the leg words of a selector that a map in use names take none.
Readings of the model: notes/assumptions/4, 170. -/
def Obligations.SwapAndWindows : Prop :=
  ∀ s : State,
    (s.dev.swapDue = true →
      ∃ t, exec .swap s = .next t ∧ t.dev.activeMap = s.dev.shadowMap ∧ t.dev.shadowMap = s.dev.activeMap
        ∧ t.dev.shadow = shChecked ∧ t.dev.get F.grmCmtSerialSerial = (s.dev.get F.grmCmtSerialSerial + 1) % 2 ^ 32
        ∧ t.dev.get F.grmSwapSeqSeq = s.dev.seqNow % 2 ^ 32 ∧ t.dev.on F.grmActValid = true ∧ t.dev.on F.grmEvtSwapDone = true
        ∧ t = { s with dev := { s.dev with words := t.dev.words, grm := t.dev.grm, activeMap := t.dev.activeMap,
                                           shadowMap := t.dev.shadowMap, egFill := t.dev.egFill, egress := t.dev.egress,
                                           sram := t.dev.sram } })
    ∧ (s.dev.swapDue = false → ∃ t, exec .swap s = .next t ∧ t = s)
    ∧ (∀ (m : Master) (i : MapIndex) (data : W32), s.mayWrite m.val (0x1000_0000 + 4 * i.val) →
      let shut := s.dev.shadow = shArmed ∨ s.dev.shadow = shLoading ∨ s.dev.grmRuns opLibSave = true
      (shut → ∃ t, exec (.shadowWindowWrite m i data) s = .next t ∧ AnsweredWords m.val .slverr [] s t)
      ∧ (¬ shut → ∃ t, exec (.shadowWindowWrite m i data) s = .next t ∧ (t.dev.replyTo m.val).resp = .okay
          ∧ Store.get (fun _ => 0) t.dev.shadowMap i.val = data
          ∧ (∀ j, j ≠ i.val → Store.get (fun _ => 0) t.dev.shadowMap j = Store.get (fun _ => 0) s.dev.shadowMap j)
          ∧ t.dev.shadow = shLoaded ∧ t.dev.activeMap = s.dev.activeMap ∧ KeepsMemories s t))
    ∧ (∀ (m : Master) (i : SelectorId) (w : Fin 4) (data : W32), s.mayWrite m.val (selAddr i w) →
      (w.val < 2 → s.dev.selInUse i = true →
        ∃ t, exec (.selectorWrite m i w data) s = .next t ∧ AnsweredWords m.val .slverr [] s t)
      ∧ (2 ≤ w.val ∨ s.dev.selInUse i = false → s.dev.poisoned (selAddr i w) = false →
        ∃ t, exec (.selectorWrite m i w data) s = .next t ∧ Accessed m.val .okay [selAddr i w] s t
          ∧ (let e := s.dev.regWrite (selAddr i w) data
             t.dev.word (selAddr i w)
               = if 2 ≤ w.val ∧ (s.dev.selOwner i ≠ 0 ∨ e.get (F.selOwner.at 16 i) ≠ 0) then
                   (e.put (F.selSel.at 16 i) (s.dev.get (F.selSel.at 16 i))).word (selAddr i w)
                 else e.word (selAddr i w))
          ∧ t.dev.activeMap = s.dev.activeMap ∧ t.dev.shadowMap = s.dev.shadowMap))

/-! Edges, epochs and the Monitor -/

/-- R74, R76, R393, R399, R638: an FP8K edge moves time and the frame number on, alone while a reset is in force; MF2K falls on an edge
of a multiframe; an epoch closes the counts of its second, and the pass of the Ladle ends with none left and EPOCH_DONE.
Readings of the model: notes/assumptions/96, 111. -/
def Obligations.FrameEdgesAndEpochs : Prop :=
  ∀ s : State,
    (∀ e : EdgeIn, s.dev.rootValid = true →
      let k := s.dev.nextEdge
      let at' := Nat.max s.dev.now (s.dev.edgeTick k)
      let timing := { s.dev.timing with edges := k, fp8kAt := some at' }
      ∃ t, exec (.fp8kEdge e) s = .next t ∧ t.dev.now = at' ∧ t.dev.timing = timing ∧ s.dev.timing.edges < k ∧ t.flash = s.flash
        ∧ (s.dev.modes.inReset ≠ .no → t = { s with dev := { s.dev with now := at', timing := timing } }))
    ∧ (∀ at', s.dev.rootValid = true → s.dev.atMultiframe = true → s.dev.timing.fp8kAt = some at' →
      ∃ t, exec .mf2kEdge s = .next t
        ∧ t = { s with dev := { s.dev with timing := { s.dev.timing with mf2kAt := some at' } } })
    ∧ (s.dev.epochNow = true → s.dev.ladle.waits = true → s.dev.modes.inReset ≠ .no →
      ∃ t p, exec .epoch s = .next t ∧ t.dev.ladle.more = s.dev.ladle.more ++ [p] ∧ p.acc = s.dev.acc ∧ p.late = true
        ∧ p.epoch = s.dev.get F.pmEpochEpoch + 1 ∧ t.dev.get F.pmEpochEpoch = (s.dev.get F.pmEpochEpoch + 1) % 2 ^ 32
        ∧ t.dev.ladle.pass = s.dev.ladle.pass ∧ t.dev.accClosed = s.dev.accClosed ∧ KeepsMemories s t)
    ∧ (s.dev.epochNow = true → (s.dev.ladle.waits = false ∨ s.dev.modes.inReset = .no) →
      ∃ t, exec .epoch s = .next t ∧ t.dev.get F.pmEpochEpoch = (s.dev.get F.pmEpochEpoch + 1) % 2 ^ 32
        ∧ t.dev.accClosed = s.dev.acc ∧ t.dev.ladle.waits = true ∧ t.dev.on F.pmLadleBusy = true
        ∧ t.dev.ladle.pass.since = s.dev.now ∧ t.dev.ladle.pass.tb = s.dev.timeBase ∧ t.flash = s.flash
        ∧ (s.dev.ladle.waits = false → t.mem = s.mem)
        ∧ (s.dev.ladle.waits = true → t.dev.on F.pmEvtEpochDone = true))
    ∧ (s.dev.ladle.waits = true → s.dev.modes.inReset = .no →
      ∃ t, exec .ladlePassComplete s = .next t ∧ t.dev.acc = s.dev.acc ∧ t.dev.on F.pmEvtEpochDone = true
        ∧ t.dev.get F.pmLadleLastUs = Nat.min 0xFFFF (ticksUs (s.dev.now - s.dev.ladle.pass.since))
        ∧ t.dev.get F.pmEpochEpoch = s.dev.get F.pmEpochEpoch ∧ t.flash = s.flash ∧ (s.dev.cntBase = 0 → t.mem = s.mem)
        ∧ (s.dev.ladle.pass.late = true → t.dev.on F.pmEvtLate = true)
        ∧ (s.dev.ladle.more = [] → t.dev.ladle.waits = false ∧ t.dev.accClosed = [] ∧ t.dev.ladle.pass.due = []
            ∧ t.dev.on F.pmLadleBusy = false)
        ∧ (∀ p rest, s.dev.ladle.more = p :: rest → t.dev.ladle.waits = true ∧ t.dev.ladle.more = rest ∧ t.dev.accClosed = p.acc
            ∧ t.dev.ladle.pass = { p with acc := [] } ∧ t.dev.on F.pmLadleBusy = true))

/-- R386, R390, R404, R408, R412, R413, R415, R418: the estimators of a lane; a baseline, which waits for the Ladle or is refused; the
bin alignment; the bandwidth monitors; the filtered counters; and the trace ring.
Readings of the model: notes/assumptions/47, 51, 121, 168, 199. -/
def Obligations.MonitorCommands : Prop :=
  ∀ s : State,
    (∀ (n : PortLane) (sf : Bool),
      let bit := if sf then defSf else defSd
      let key := estKeyLane n (bitOf sf)
      let c := s.dev.laneEst n
      let x := appliedExps c.kind c.sd c.sf
      let e := if sf then x.2.1 else x.1
      let w := s.dev.estAt key
      let v := Store.get (fun _ => 0) s.dev.estAcc key
      let anew := w.restart || (w.slices != [] && s.dev.get (laneUsed n sf) != e)
      let l := if anew then [] else (v :: w.slices).take 8
      let due := s.dev.sliceDue c.kind e && w.ended != some s.dev.timing.edges
      ∃ t, exec (.sdSfSliceEnd (.line n) sf v) s = .next t ∧ KeepsMemories s t
        ∧ t.dev.defect n bit = (if c.on = false then false else if due then estDecide (estD c.kind e) (s.dev.defect n bit) l
            else s.dev.defect n bit)
        ∧ t.dev.estWindow key = (if c.on = false then [] else if due then l else s.dev.estWindow key)
        ∧ (c.on = true → due = true → Store.get (fun _ => 0) t.dev.estAcc key = 0)
        ∧ (∀ q b, q < 104 → b < 32 → (q ≠ n.val ∨ b ≠ bit) → t.dev.defect q b = s.dev.defect q b)
        ∧ ∀ j, j ≠ key → t.dev.estWindow j = s.dev.estWindow j)
    ∧ (∀ m : Master, s.mayWrite m.val Reg.pmWrGo →
      (s.dev.wrKey = none → ∃ t, exec (.wrGo m) s = .next t ∧ AnsweredWords m.val .slverr [] s t)
      ∧ (∀ k, s.dev.wrKey = some k →
        let value := (s.dev.word Reg.pmWrLo).toNat + (s.dev.word Reg.pmWrHi).toNat * 2 ^ 32
        let added : Dev := { s.dev with ladle := { s.dev.ladle with
          base := s.dev.ladle.base.filter (fun x => x.1 != k) ++ [(k, value)] } }
        (4096 < added.pendingBases →
          ∃ t, exec (.wrGo m) s = .next t ∧ AnsweredWords m.val .slverr [F.pmEvtWrFull.off] s t ∧ t.dev.on F.pmEvtWrFull = true)
        ∧ (added.pendingBases ≤ 4096 →
          ∃ t, exec (.wrGo m) s = .next t ∧ Accessed m.val .okay [Reg.pmWrStat] s t ∧ t.dev.ladle = added.ladle
            ∧ t.dev.get F.pmWrStatPending = added.pendingBases)))
    ∧ (∀ (m : Master) (data : W32), s.mayWrite m.val Reg.pmBinAlign →
      ∃ t, exec (.binAlignWrite m data) s = .next t ∧ Accessed m.val .okay [Reg.pmBinAlign] s t
        ∧ t.dev.ladle = { s.dev.ladle with align := true }
        ∧ t.dev.word Reg.pmBinAlign = (s.dev.regWrite Reg.pmBinAlign data).word Reg.pmBinAlign)
    ∧ (∀ n : Fin 64, 1 ≤ s.dev.get (F.pmBwSelObj.at 16 n) → s.dev.get (F.pmBwSelObj.at 16 n) ≤ 8 →
      let x := Store.get (fun _ => ({} : BwSt)) s.dev.bw n
      let ms := s.dev.get (F.pmBwWinMs.at 16 n)
      let v := Nat.min 0xFFFF_FFFF (x.bytes * 8 / ms)
      (x.start + 8 * ms ≤ s.dev.timing.edges →
        ∃ t, exec (.bwWindowEnd n x.bytes) s = .next t ∧ t.dev.get (F.pmBwValKbps.at 16 n) = v
          ∧ t.dev.get (F.pmBwPeakKbps.at 16 n) = Nat.max v (s.dev.get (F.pmBwPeakKbps.at 16 n))
          ∧ Store.get (fun _ => {}) t.dev.bw n = { start := x.start + 8 * ms, bytes := x.after }
          ∧ (∀ j, j ≠ n.val → Store.get (fun _ => ({} : BwSt)) t.dev.bw j = Store.get (fun _ => {}) s.dev.bw j)
          ∧ Dev.WordsBut [Reg.pmBwVal + 16 * n.val, Reg.pmBwPeak + 16 * n.val] s.dev t.dev
          ∧ t = { s with dev := { s.dev with words := t.dev.words, bw := t.dev.bw } })
      ∧ (s.dev.timing.edges < x.start + 8 * ms → exec (.bwWindowEnd n x.bytes) s = .next s))
    ∧ (∀ (m : Master) (n : Fin 64), s.mayRead m.val (Reg.pmBwPeak + 16 * n.val) →
      ∃ t, exec (.bwPeakRead m n) s = .next t
        ∧ t.dev.replyTo m.val = { resp := .okay, data := wordBytes (s.dev.word (Reg.pmBwPeak + 16 * n.val)) }
        ∧ t.dev.get (F.pmBwPeakKbps.at 16 n) = s.dev.get (F.pmBwValKbps.at 16 n)
        ∧ AnsweredWords m.val .okay [Reg.pmBwPeak + 16 * n.val] s t)
    ∧ (∀ (m : Master) (n : Fin 64) (win : Bool) (data : W32),
      let a := (if win then Reg.pmBwWin else Reg.pmBwSel) + 16 * n.val
      s.mayWrite m.val a →
      ∃ t, exec (.bwSelWrite m n win data) s = .next t ∧ t.dev.get (F.pmBwValKbps.at 16 n) = 0
        ∧ t.dev.get (F.pmBwPeakKbps.at 16 n) = 0 ∧ t.dev.word a = (s.dev.regWrite a data).word a
        ∧ Store.get (fun _ => {}) t.dev.bw n = { start := s.dev.timing.edges + 8 - s.dev.seqNow % 8 }
        ∧ (∀ j, j ≠ n.val → Store.get (fun _ => ({} : BwSt)) t.dev.bw j = Store.get (fun _ => {}) s.dev.bw j)
        ∧ Accessed m.val .okay [a, Reg.pmBwVal + 16 * n.val, Reg.pmBwPeak + 16 * n.val] s t)
    ∧ (∀ (m : Master) (n : Fin 16) (data : W32),
      let a := Reg.pmFecCfg + 32 * n.val
      s.mayWrite m.val a →
      ∃ t, exec (.fecEnable m n data) s = .next t ∧ AnsweredWords m.val .okay [a] s t
        ∧ t.dev.word a = (s.dev.regWrite a data).word a
        ∧ (s.dev.on (F.pmFecCfgEn.at 32 n) = false → getF data 0 1 = 1 → t.dev.fecCount n ≤ 1))
    ∧ (∀ (k : BitVec 3) (src : BitVec 7) (w : W32),
      let chosen := s.dev.tagsPlaced && skewChooses (s.dev.word Reg.pmSkwCfg) k.toNat src.toNat
      let entries := s.dev.skw.held.length + s.dev.skw.waiting.length
      s.dev.skw.waiting = [] ∨ s.dev.hbmUp = false →
      (chosen = false → ∃ t, exec (.traceRecordWrite (.tag k src w)) s = .next t ∧ t = s)
      ∧ (chosen = true → entries < 32768 →
        ∃ t, exec (.traceRecordWrite (.tag k src w)) s = .next t ∧ KeepsMemories s t
          ∧ t.dev.skw.waiting = s.dev.skw.waiting
          ∧ t.dev.skw.held = s.dev.skw.held ++ [{
              serial := s.dev.get F.pmSkwTagsCount, kind := k.toNat, source := src.toNat, word1 := w.toNat, tb := s.dev.timeBase,
              stamps := [(((skewStages k.toNat).headD []).headD 0, s.dev.now)] }]
          ∧ t.dev.get F.pmSkwTagsCount = (s.dev.get F.pmSkwTagsCount + 1) % 2 ^ 32 ∧ Dev.WordsBut [Reg.pmSkwTags] s.dev t.dev)
      ∧ (chosen = true → 32768 ≤ entries →
        ∃ t, exec (.traceRecordWrite (.tag k src w)) s = .next t ∧ t.dev.on F.pmEvtSkwDrop = true
          ∧ t.dev.get F.pmSkwDropCount = (s.dev.get F.pmSkwDropCount + 1) % 2 ^ 32
          ∧ OnlyWords [Reg.pmSkwDrop, F.pmEvtSkwDrop.off] s t))
    ∧ (∀ (x y : TaggedUnit) (stage : BitVec 6) (c : Instr) (lost : Bool),
      let v : TaggedUnit := { x with stamps := x.stamps ++ [(stage.toNat, s.dev.now)] }
      let passed := v.stamps.map (fun z => z.1)
      let head := s.dev.traceBase + 64 * s.dev.get F.pmSkwHeadIndex
      let rest := s.dev.skw.held.filter (fun z => z.serial != x.serial)
      s.dev.skw.held.find? (fun z => z.serial == x.serial) = some x → x.stamps.length < 12 → s.dev.skw.waiting = [] →
      ((c = .traceRecordWrite (.stamp x.serial stage) ∧ (skewStages x.kind).contains passed = true ∧ y = v ∧ lost = false)
        ∨ (c = .traceRecordWrite (.lost x.serial) ∧ y = x ∧ lost = true) →
        (s.dev.hbmUp = true →
          ∃ t, exec c s = .next t ∧ t.flash = s.flash ∧ t.dev.skw = { held := rest, waiting := [] }
            ∧ t.dev.get F.pmSkwHeadIndex = (s.dev.get F.pmSkwHeadIndex + 1) % 2 ^ 23 ∧ Dev.WordsBut [Reg.pmSkwHead] s.dev t.dev
            ∧ (∀ b, (b < head ∨ head + 64 ≤ b) → memByte t.mem b = memByte s.mem b)
            ∧ (s.dev.traceBase ≠ 0 → ∀ j, j < 16 → memWord t.mem (head + 4 * j) = BitVec.ofNat 32 ((y.words lost).getD j 0)))
        ∧ (s.dev.hbmUp = false →
          ∃ t, exec c s = .next t ∧ t.dev.skw = { held := rest, waiting := [y.words lost] }
            ∧ t = { s with dev := { s.dev with skw := t.dev.skw } }))
      ∧ ((skewStages x.kind).contains passed = false →
        ∃ t, exec (.traceRecordWrite (.stamp x.serial stage)) s = .next t
          ∧ t.dev.skw.held = (if (skewStages x.kind).any (fun l => l.take passed.length == passed) then
              s.dev.skw.held.map (fun z => if z.serial = x.serial then v else z) else s.dev.skw.held)
          ∧ t = { s with dev := { s.dev with skw := t.dev.skw } }))

/-! Protection -/

/-- R435, R437, R438, R457: a command to an MSP group or to the selector that SNC_IDX names: REQ_RES shows what became of it; an
accepted one is stored, and a CLEAR ends what is stored. Readings of the model: notes/assumptions/59. -/
def Obligations.ProtectionCommands : Prop :=
  ∀ (m : Master) (s : State),
    let shown (t : State) (sncp : Bool) (target res : Nat) : Prop :=
      (t.dev.replyTo m.val).resp = .okay ∧ t.dev.get F.protReqResResult = res ∧ t.dev.get F.protReqResTarget = target
        ∧ t.dev.on F.protReqResSncp = sncp ∧ t.dev.on F.protReqResSrc = false ∧ t.dev.on F.protEvtReqDone = true
        ∧ KeepsMemories s t
    (∀ (g : MspGroup) (ch : BitVec 4), s.mayWrite m.val (Reg.protMspReq + 0x40 * g.val) →
      ∀ (c : Instr) (cmd : ProtCmd),
        (c = .mspClear m g ch ∧ cmd = .clear ∨ c = .mspLockout m g ch ∧ cmd = .lockout ∨ c = .mspForced m g ch ∧ cmd = .forced
          ∨ c = .mspManual m g ch ∧ cmd = .manual ∨ c = .mspExercise m g ch ∧ cmd = .exercise) →
        let p := s.dev.mspSt g
        let res := p.judge (s.dev.mspCfg g).prio (s.dev.remoteReq g) (s.dev.mspN g) cmd ch.toNat
        ∃ t, exec c s = .next t ∧ shown t false g res
          ∧ t.dev.mspSt g = (if res = resAccepted then p.store cmd ch.toNat s.dev.now else p)
          ∧ (∀ h, h ≠ g.val → t.dev.mspSt h = s.dev.mspSt h) ∧ t.dev.snc = s.dev.snc
          ∧ Dev.WordsBut [F.protReqResResult.off, F.protEvtReqDone.off] s.dev t.dev)
    ∧ (∀ leg : Bool, s.mayWrite m.val Reg.protSncReq →
      let i := s.dev.get F.protSncIdxIndex
      let p := s.dev.sncSt i
      let judge (cmd : ProtCmd) : Nat := p.judge [] ⟨rkNr, 0⟩ 1 cmd (if cmd = .lockout then 0 else bitOf leg)
      (∀ (c : Instr) (cmd : ProtCmd),
        (c = .sncClear m leg ∧ cmd = .clear ∨ c = .sncLockout m leg ∧ cmd = .lockout ∨ c = .sncForced m leg ∧ cmd = .forced
          ∨ c = .sncManual m leg ∧ cmd = .manual) →
        ∃ t, exec c s = .next t ∧ shown t true i (judge cmd)
          ∧ t.dev.sncSt i = (if judge cmd = resAccepted then p.store cmd (bitOf leg) s.dev.now else p)
          ∧ (∀ j, j ≠ i → t.dev.sncSt j = s.dev.sncSt j) ∧ t.dev.msp = s.dev.msp
          ∧ Dev.WordsBut [F.protReqResResult.off, F.protEvtReqDone.off] s.dev t.dev)
      ∧ ∃ t, exec (.sncExercise m leg) s = .next t ∧ shown t true i (judge .exercise) ∧ t.dev.snc = s.dev.snc
        ∧ t.dev.msp = s.dev.msp
        ∧ (judge .exercise = resAccepted →
            t.dev.on (F.sncExerOk.at 4 i) = (!s.dev.legSf i true && !s.dev.legSd i true)))

/-- R433, R434, R435: the order of requests: the one that a decision follows is of the highest rank that is asked for, and of the
lowest channel of that rank; a command of a lower rank, or of the same, is refused; and LOCKOUT is accepted with channel 0 alone. -/
def Obligations.RequestOrder : Prop :=
  (∀ (l : List Req) (r : Req), r ∈ l → r.rank < rkNr →
      (bestReq l).rank ≤ r.rank ∧ ((bestReq l).rank = r.rank → (bestReq l).ch ≤ r.ch) ∧ bestReq l ∈ l)
    ∧ (∀ (p : ProtSt) (prio : List Nat) (r : Req) (n : Nat) (c : ProtCmd) (ch : Nat), c = .forced ∨ c = .manual ∨ c = .exercise →
        ch ≤ n → (∃ x ∈ p.requests prio, x.rank ≤ c.rank) → p.judge prio r n c ch = resRefused)
    ∧ ∀ (p : ProtSt) (prio : List Nat) (r : Req) (n ch : Nat), p.judge prio r n .lockout ch = (if ch = 0 then resAccepted else resArg)

/-- R437, R439, R440, R441, R445, R453, R458: the timed events of protection, and the configuration of a group.
Readings of the model: notes/assumptions/53, 55, 56, 58, 60. -/
def Obligations.ProtectionEvents : Prop :=
  ∀ s : State,
    (∀ (g : MspGroup) (ch : Nat), s.dev.evaluates = true → (s.dev.mspSt g).exercise = some ch →
        Nat.max (s.dev.mspSt g).exerciseAt s.dev.modes.resumed + 622080000 ≤ s.dev.now →
      ∃ t, exec (.exerciseEnd g) s = .next t ∧ (t.dev.mspSt g).exercise = none
        ∧ (∀ h, h ≠ g.val → t.dev.mspSt h = s.dev.mspSt h) ∧ t.dev.snc = s.dev.snc ∧ KeepsMemories s t)
    ∧ (∀ (tg : ProtTarget) (ch : BitVec 4) (sf : Bool) (at' : Nat), s.dev.evaluates = true → (ch.toNat, sf, at') ∈ (s.dev.protSt tg).onset →
        Nat.max at' s.dev.modes.resumed + (s.dev.protCfg tg).holdoff ≤ s.dev.now →
      ∃ t, exec (.holdOffExpiry tg ch) s = .next t ∧ (ch.toNat, sf) ∈ (t.dev.protSt tg).raised
        ∧ (∀ x, x ∈ (s.dev.protSt tg).raised → x ∈ (t.dev.protSt tg).raised)
        ∧ t = { s with dev := { s.dev with msp := t.dev.msp, snc := t.dev.snc } })
    ∧ (∀ (tg : ProtTarget) (w : Nat × Nat), s.dev.evaluates = true → (s.dev.protSt tg).wtr = some w →
        Nat.max w.2 s.dev.modes.resumed + (s.dev.protCfg tg).wtr ≤ s.dev.now → (s.dev.protSt tg).fail = none →
      ∃ t, exec (.wtrExpiry tg) s = .next t ∧ (t.dev.protSt tg).wtr = none ∧ KeepsMemories s t)
    ∧ (∀ g : MspGroup, s.dev.mspActs g = true → s.dev.decides = true →
        let p := (s.dev.mspSt g).see (s.dev.mspConds g) s.dev.now
        let r := p.evaluate (s.dev.mspCfg g) (s.dev.remoteReq g) s.dev.modes.resumed s.dev.now
      ∃ t, exec (.protectionDecision (.msp g)) s = .next t ∧ (t.dev.mspSt g).selected = r.2
        ∧ t.dev.get (F.protMspStatSelected.at 0x40 g) = r.2 % 16 ∧ (∀ h, h ≠ g.val → t.dev.mspSt h = s.dev.mspSt h)
        ∧ t.dev.snc = s.dev.snc ∧ KeepsMemories s t)
    ∧ (∀ i : SelectorId, s.dev.selOwner i = 1 → s.dev.decides = true →
        let p := (s.dev.sncSt i).see (s.dev.sncConds i) s.dev.now
        let r := p.evaluate (s.dev.sncCfg i) ⟨rkNr, 0⟩ s.dev.modes.resumed s.dev.now
      ∃ t, exec (.protectionDecision (.snc i)) s = .next t ∧ (t.dev.sncSt i).selected = r.2
        ∧ (∀ j, j ≠ i.val → t.dev.sncSt j = s.dev.sncSt j) ∧ t.dev.msp = s.dev.msp ∧ KeepsMemories s t)
    ∧ (∀ (g : MspGroup) (kind : PamKind), s.dev.mspActs g = true →
      (kind ∉ (s.dev.mspSt g).pam → s.dev.pamSeen g kind = true → s.dev.pamHeld g kind 1 = true →
        ∃ t, exec (.protocolFailure g kind) s = .next t ∧ t.dev.mspSt g = { s.dev.mspSt g with pam := (s.dev.mspSt g).pam ++ [kind] }
          ∧ t.dev.on F.protEvtPam = true ∧ t.dev.on (F.protMspStatPam.at 0x40 g) = true ∧ KeepsMemories s t)
      ∧ (kind ∈ (s.dev.mspSt g).pam → s.dev.pamGone g kind = true → kind = .invalidCode ∨ s.dev.pamHeld g kind 2 = true →
        ∃ t, exec (.pamClear g kind) s = .next t
          ∧ t.dev.mspSt g = { s.dev.mspSt g with pam := (s.dev.mspSt g).pam.filter (fun x => x != kind) }
          ∧ t.dev.on F.protEvtPam = true ∧ KeepsMemories s t))
    ∧ (∀ (m : Master) (g : MspGroup) (w : Fin 5) (data : W32),
        let a := Reg.protMspCfg + 0x40 * g.val + 4 * w.val
        s.mayWrite m.val a →
      (s.dev.mspOn g = true → w.val ≠ 0 ∨ getF data 0 1 = 1 →
        ∃ t, exec (.mspCfgWrite m g w data) s = .next t ∧ AnsweredWords m.val .slverr [] s t)
      ∧ (s.dev.mspOn g = false → w.val ≠ 0 ∨ getF data 0 1 = 0 →
        ∃ t, exec (.mspCfgWrite m g w data) s = .next t ∧ AnsweredWords m.val .okay [a] s t
          ∧ t.dev.word a = (if w.val = 0 then mspCfgWord ((s.dev.regWrite a data).word a) else (s.dev.regWrite a data).word a))
      ∧ (s.dev.mspOn g = false → w.val = 0 → getF data 0 1 = 1 →
        let v := mspCfgWord ((s.dev.regWrite a data).word a)
        (s.dev.mspPlaceOk g v = false → ∃ t, exec (.mspCfgWrite m g w data) s = .next t ∧ AnsweredWords m.val .slverr [] s t)
        ∧ (s.dev.mspPlaceOk g v = true →
          ∃ t, exec (.mspCfgWrite m g w data) s = .next t ∧ (t.dev.replyTo m.val).resp = .okay ∧ t.dev.word a = v ∧ KeepsMemories s t))
      ∧ (s.dev.mspOn g = true → w.val = 0 → getF data 0 1 = 0 →
        ∃ t, exec (.mspCfgWrite m g w data) s = .next t ∧ (t.dev.replyTo m.val).resp = .okay ∧ t.dev.mspOn g = false
          ∧ t.dev.mspSt g = (s.dev.mspSt g).disabled ∧ KeepsMemories s t))

/-! Paired operation -/

/-- R462, R469: enabling the pair leads to REJOIN, disabling it to SOLO; and the interlock faults.
Readings of the model: notes/assumptions/64. -/
def Obligations.LidAndInterlock : Prop :=
  ∀ s : State,
    (∀ (m : Master) (data : W32), s.mayWrite m.val Reg.mateCfg →
      let en := (s.dev.regWrite Reg.mateCfg data).on F.mateCfgEn
      (s.dev.on F.mateCfgEn = false → en = true →
        ∃ t, exec (.mateEnable m data) s = .next t ∧ (t.dev.replyTo m.val).resp = .okay ∧ t.dev.role = roleRejoin
          ∧ t.dev.get F.mateStatRejoinStep = 1 ∧ t.dev.mate.drive0 = false ∧ t.dev.mate.drive1 = false ∧ KeepsMemories s t)
      ∧ (s.dev.on F.mateCfgEn = true → en = false →
        ∃ t, exec (.mateEnable m data) s = .next t ∧ (t.dev.replyTo m.val).resp = .okay ∧ t.dev.role = roleSolo
          ∧ t.dev.mate.drive0 = false ∧ t.dev.mate.drive1 = false ∧ KeepsMemories s t)
      ∧ (en = s.dev.on F.mateCfgEn →
        ∃ t, exec (.mateEnable m data) s = .next t ∧ AnsweredWords m.val .okay [Reg.mateCfg] s t
          ∧ t.dev.word Reg.mateCfg = (s.dev.regWrite Reg.mateCfg data).word Reg.mateCfg))
    ∧ (∀ (a b : Bool) (ns : Nat), s.dev.notHolding = true → a ≠ b → 100000 < ns →
      ∃ t, exec (.interlockFault a b ns) s = .next t ∧ t.dev.on F.mateStatInterlock = true ∧ t.dev.on F.mateEvtInterlock = true
        ∧ t.dev.on F.mateStatLid0 = a ∧ t.dev.on F.mateStatLid1 = b ∧ OnlyWords [Reg.mateStat, F.mateEvtInterlock.off] s t)
    ∧ (∀ (a : Bool) (ns : Nat), s.dev.role ≠ roleSolo → 100000 ≤ ns →
      ∃ t, exec (.interlockClear a a ns) s = .next t ∧ t.dev.on F.mateStatInterlock = false
        ∧ (a = false → t.dev.on F.mateStatLidDrv = false) ∧ OnlyWords [Reg.mateStat] s t)
    ∧ (∀ line1 : Bool, s.dev.role = roleActive →
      ∃ t, exec (.lidDrv line1) s = .next t ∧ t.dev.on F.mateStatLidDrv = true ∧ t.dev.on (lidBit line1) = true
        ∧ t.dev.role = roleActive ∧ OnlyWords [Reg.mateStat, F.mateEvtInterlock.off] s t)

/-- R468: a seizure has two steps: the first line goes low, by slot; 20 µs later the other line is sampled. High, it is driven
low as well and the device is ACTIVE; low, slot A drives it and is ACTIVE, while slot B releases its line, counts the collision
and keeps its role. -/
def Obligations.LidSeizure : Prop :=
  ∀ s : State,
    (∀ ns : Nat, s.dev.maySeize = true → s.dev.holdoffNs ≤ ns →
      ∃ t, exec (.lidSeizure ns) s = .next t
        ∧ t.dev.mate = { s.dev.mate with seizing := some s.dev.now, drive0 := !s.dev.slotB, drive1 := s.dev.slotB }
        ∧ t.dev.on F.mateStatLid0 = s.dev.slotB ∧ t.dev.on F.mateStatLid1 = !s.dev.slotB
        ∧ Dev.WordsBut [Reg.mateStat] s.dev t.dev
        ∧ t = { s with dev := { s.dev with words := t.dev.words, mate := t.dev.mate } })
    ∧ (∀ (other : Bool) (at' : Nat), s.dev.mate.seizing = some at' → at' + 12442 ≤ s.dev.now →
      ((other = true ∨ s.dev.slotB = false) →
        ∃ t, exec (.lidSample other) s = .next t ∧ t.dev.role = roleActive ∧ t.dev.mate.drive0 = true ∧ t.dev.mate.drive1 = true
          ∧ t.dev.mate.seizing = none ∧ t.dev.get F.mateLastEpochEpoch = s.dev.get F.mateAckEpochEpoch
          ∧ t.dev.get F.mateTakeoversCount = (s.dev.get F.mateTakeoversCount + 1) % 2 ^ 32 ∧ KeepsMemories s t)
      ∧ (other = false → s.dev.slotB = true →
        ∃ t, exec (.lidSample other) s = .next t
          ∧ t.dev.mate = { s.dev.mate with seizing := none, drive0 := false, drive1 := false }
          ∧ t.dev.get F.mateCollideCount = (s.dev.get F.mateCollideCount + 1) % 2 ^ 32 ∧ t.dev.role = s.dev.role
          ∧ t.dev.on F.mateStatLid0 = false ∧ t.dev.on F.mateStatLid1 = true ∧ Dev.WordsBut [Reg.mateStat, Reg.mateCollide] s.dev t.dev
          ∧ t = { s with dev := { s.dev with words := t.dev.words, mate := t.dev.mate } }))

/-- R470, R487, R488, R489, R498: the commands of MATE.CMD and what follows from them: a handover makes the ACTIVE a STANDBY with its
lines released, or is refused; CLEAR_SUSPECT; REJOIN; and the self-check with its outcome.
Readings of the model: notes/assumptions/66, 195. -/
def Obligations.RolesAndSelfCheck : Prop :=
  ∀ s : State,
    (∀ m : Master, s.mayWrite m.val Reg.mateCmd →
      (s.dev.mayHandOver = true →
        ∃ t, exec (.handover m) s = .next t ∧ (t.dev.replyTo m.val).resp = .okay ∧ t.dev.role = roleStandby
          ∧ t.dev.mate.drive0 = false ∧ t.dev.mate.drive1 = false ∧ t.dev.get F.mateCmdStatOp = 1
          ∧ t.dev.get F.mateCmdStatResult = mateDone ∧ KeepsMemories s t)
      ∧ (s.dev.mayHandOver = false →
        ∃ t, exec (.handover m) s = .next t ∧ AnsweredWords m.val .okay [Reg.mateCmdStat] s t
          ∧ t.dev.get F.mateCmdStatOp = 1 ∧ t.dev.get F.mateCmdStatResult = mateRefused)
      ∧ (∃ t, exec (.clearSuspect m) s = .next t ∧ AnsweredWords m.val .okay [Reg.mateStat, Reg.mateCmdStat] s t
          ∧ t.dev.on F.mateStatSuspect = false ∧ t.dev.role = s.dev.role ∧ t.dev.get F.mateCmdStatOp = 2
          ∧ t.dev.get F.mateCmdStatResult = mateDone)
      ∧ (s.dev.role = roleStandby ∨ s.dev.role = roleRejoin ∨ s.dev.mayHandOver = true →
        ∃ t, exec (.rejoin m) s = .next t ∧ (t.dev.replyTo m.val).resp = .okay ∧ t.dev.role = roleRejoin
          ∧ t.dev.get F.mateStatRejoinStep = 1 ∧ t.dev.on F.mateStatSuspect = false ∧ t.dev.mate.snapDone = false
          ∧ t.dev.get F.mateCmdStatOp = 3 ∧ t.dev.get F.mateCmdStatResult = mateRunning ∧ KeepsMemories s t)
      ∧ (s.dev.role = roleActive ∨ s.dev.role = roleStandby →
        ∃ t, exec (.selfCheck m) s = .next t ∧ (t.dev.replyTo m.val).resp = .okay ∧ t.dev.mate.checking = true
          ∧ t.dev.on F.mateSelfchkVerifyPend = true ∧ t.dev.get F.mateSelfchkMate = 0 ∧ t.dev.role = s.dev.role
          ∧ (s.dev.mate.lane.up = true → t.dev.get F.mateSelfchkLocal = 3 ∧ t.dev.get F.mateSelfchkFail = 0)
          ∧ t.dev.get F.mateCmdStatOp = 4 ∧ t.dev.get F.mateCmdStatResult = mateRunning ∧ KeepsMemories s t))
    ∧ (let own := s.dev.get F.mateSelfchkLocal
       let other := s.dev.get F.mateSelfchkMate
       s.dev.mate.checking = true → own = 1 ∨ own = 2 → other = 1 ∨ other = 2 →
         s.dev.role = roleActive ∨ s.dev.role = roleStandby →
       ∃ t, exec .selfCheckOutcome s = .next t ∧ t.dev.mate.checking = false ∧ t.dev.on F.mateEvtSelfchkDone = true
         ∧ t.dev.mate.passAt = (if own = 1 ∧ other = 1 then some s.dev.now else none)
         ∧ (own = 2 → other = 1 → t.dev.on F.mateStatSuspect = true ∧ t.dev.role = roleStandby)
         ∧ (own = 1 ∨ other = 2 → t.dev.role = s.dev.role ∧ t.dev.on F.mateStatSuspect = s.dev.on F.mateStatSuspect)
         ∧ KeepsMemories s t)
    ∧ (∀ at', s.dev.role = roleStandby → s.dev.mate.passAt = some at' → at' + 62208000 ≤ s.dev.now →
        s.dev.on F.mateStatDisagree = true →
      ∃ t, exec .suspectTimeout s = .next t ∧ t.dev.on F.mateStatSuspect = true ∧ t.dev.on F.mateEvtSuspect = true
        ∧ Dev.WordsBut [Reg.mateStat, F.mateEvtSuspect.off] s.dev t.dev
        ∧ t = { s with dev := { s.dev with words := t.dev.words, mate := { s.dev.mate with passAt := none } } })
    ∧ (∀ (on : MateLane) (payload : List Byte), s.dev.role = roleStandby → s.dev.hearsControl on payload →
      ∃ t, exec (.handoverBlock ⟨on, payload⟩) s = .next t
        ∧ t = { s with dev := { s.dev with mate := { s.dev.mate with final := some (BitVec.ofNat 32 (fieldAt payload 1 4)) } } })

/-- R472, R473, R476, R477, R478, R479, R485, R486, R487: what the mate's blocks and their absence do, and the alignment of a
rejoining device's numbers with the mate's; a block that names another lane excludes its lane. Readings of the model:
notes/assumptions/64, 65, 196. -/
def Obligations.MateTraffic : Prop :=
  ∀ s : State,
    (s.dev.role ≠ roleSolo →
      (s.dev.pulseDue s.dev.mate.sentSide = true → ∃ t, exec (.heartbeatSend .side) s = .next t
        ∧ t = { s with dev := { s.dev with mate := { s.dev.mate with sentSide := some s.dev.now } } })
      ∧ (s.dev.rootValid = true → s.dev.seqNow % 2 = 0 →
          (∀ x, s.dev.mate.sentLane = some x → ∃ e, s.dev.timing.fp8kAt = some e ∧ x < e) →
        ∃ t, exec (.heartbeatSend .lane) s = .next t
          ∧ t = { s with dev := { s.dev with mate := { s.dev.mate with sentLane := some s.dev.now } } })
      ∧ (∀ w, 700 ≤ w → w ≤ 1300 → ∃ t, exec (.heartbeatReceived (.pulse w)) s = .next t
        ∧ t.dev.mate.side = s.dev.mate.side.beat s.dev.now ∧ t.dev.mate.lane = s.dev.mate.lane
        ∧ t.dev.on F.mateStatHbSide = (s.dev.mate.side.beat s.dev.now).up ∧ t.dev.role = s.dev.role ∧ KeepsMemories s t)
      ∧ (∀ (on : MateLane) (payload : List Byte), s.dev.hearsControl on payload →
        let h := heartbeatOf payload
        let lane := if s.dev.mate.beatSeq = some h.seq then s.dev.mate.lane else s.dev.mate.lane.beat s.dev.now
        ∃ t, exec (.heartbeatReceived (.block on payload)) s = .next t ∧ t.dev.mate.lane = lane
          ∧ t.dev.get F.mateStatMateRole = h.role ∧ t.dev.on F.mateStatMateSuspect = h.suspect
          ∧ t.dev.on F.mateStatHbLane = lane.up ∧ t.dev.on F.mateStatSlotConf = (h.slot == s.dev.slotB)
          ∧ (s.dev.role = roleActive → (h.slot = s.dev.slotB ∨ h.role = 1 ∧ s.dev.slotB = true) → t.dev.role = roleRejoin)
          ∧ (s.dev.role ≠ roleActive → h.slot = s.dev.slotB → t.dev.mate.seizing = none)
          ∧ KeepsMemories s t)
      ∧ (∀ (on : MateLane) (payload : List Byte), s.dev.inFrame (96 + on.val) = true → on.val ∉ s.dev.mate.excluded →
          fieldAt payload 0 1 ≠ on.val → ∀ c : Instr,
          c = .heartbeatReceived (.block on payload) ∨ c = .echo on payload ∨ c = .apply on payload ∨ c = .selfchk ⟨on, payload⟩
            ∨ c = .handoverBlock ⟨on, payload⟩ ∨ c = .key ⟨on, payload⟩ →
        ∃ t, exec c s = .next t ∧ t.dev.on F.mateEvtWiring = true
          ∧ Dev.WordsBut [F.mateEvtWiring.off] s.dev t.dev
          ∧ t = { s with dev := { s.dev with words := t.dev.words,
                                             mate := { s.dev.mate with excluded := s.dev.mate.excluded ++ [on.val] } } })
      ∧ (∀ high0 high1 : Bool,
        let lane := s.dev.mate.lane.miss s.dev.now
        let side := s.dev.mate.side.miss s.dev.now
        let sees (t : State) : Prop :=
          s.dev.notHolding = true → t.dev.on F.mateStatLid0 = high0 ∧ t.dev.on F.mateStatLid1 = high1
        (s.dev.mate.lane.missDue s.dev.now = true →
          ∃ t, exec (.heartbeatMiss .lane ⟨high0, high1⟩) s = .next t ∧ t.dev.mate.lane = lane ∧ t.dev.mate.side = s.dev.mate.side
            ∧ t.dev.on F.mateStatHbLane = lane.up ∧ t.dev.on F.mateStatMateLost = (lane.lost && s.dev.mate.side.lost) ∧ sees t
            ∧ KeepsMemories s t)
        ∧ (s.dev.mate.side.missDue s.dev.now = true →
          ∃ t, exec (.heartbeatMiss .side ⟨high0, high1⟩) s = .next t ∧ t.dev.mate.side = side ∧ t.dev.mate.lane = s.dev.mate.lane
            ∧ t.dev.on F.mateStatHbSide = side.up ∧ t.dev.on F.mateStatMateLost = (s.dev.mate.lane.lost && side.lost) ∧ sees t
            ∧ KeepsMemories s t)
        ∧ (s.dev.mate.lane.missDue s.dev.now = false → exec (.heartbeatMiss .lane ⟨high0, high1⟩) s = .next s))
      ∧ (∀ (on : MateLane) (payload : List Byte), s.dev.hearsControl on payload →
        ∃ t, exec (.selfchk ⟨on, payload⟩) s = .next t ∧ t.dev.get F.mateSelfchkMate = fieldAt payload 1 1 % 4
          ∧ t.dev.mate.health = some (BitVec.ofNat 96 (fieldAt payload 2 12)) ∧ t.dev.mate.checking = true
          ∧ t.dev.role = s.dev.role ∧ KeepsMemories s t)
      ∧ (∀ (on : MateLane) (payload : List Byte), s.dev.hearsControl on payload → fieldAt payload 1 1 = 0 →
        let answer : MateMsg := { since := s.dev.now, type := 5, field8 := 4, load := echoLoad true (fieldAt payload 2 8) s.dev.timeBase }
        ∃ t, exec (.echo on payload) s = .next t
          ∧ t = { s with dev := { s.dev with mate := { s.dev.mate with out := s.dev.mate.out ++ [answer] } } }))
    ∧ (s.dev.role = roleRejoin →
      (∀ (on : MateLane) (payload : List Byte), s.dev.hearsControl on payload → fieldAt payload 1 1 = 1 →
        ∃ t, exec (.echo on payload) s = .next t
          ∧ t.dev.get F.mateDelayNs = (s.dev.timeBase - fieldAt payload 2 8) * 50000 / 62208 % 2 ^ 16
          ∧ Dev.WordsBut [Reg.mateDelay] s.dev t.dev
          ∧ t = { s with dev := { s.dev with words := t.dev.words, mate := { s.dev.mate with echoed := true } } })
      ∧ (∀ (arrival : Int) (seq : W32), s.dev.get F.mateStatRejoinStep = 2 → s.dev.atEdge = true → s.dev.mate.echoed = true →
        let off := s.dev.frameOffset arrival
        ∃ t, exec (.alignmentStep arrival seq) s = .next t ∧ t.dev.seqNow = seq.toNat ∧ t.dev.get F.mateStatRejoinStep = 3
          ∧ t.dev.timing.phase = (if 50 < off.natAbs then s.dev.timing.phase + rootPeriods off else s.dev.timing.phase)
          ∧ t.dev.get F.matePhaseNs = phaseWord off % 2 ^ 16 ∧ Dev.WordsBut [Reg.mateStat, Reg.matePhase] s.dev t.dev
          ∧ t = { s with dev := { s.dev with words := t.dev.words, timing := t.dev.timing, ladle := t.dev.ladle } }))
    ∧ (s.dev.role = roleStandby →
      (∀ arrival : Int,
        let off := s.dev.frameOffset arrival
        ∃ t, exec (.offsetMeasure arrival) s = .next t ∧ t.dev.get F.matePhaseNs = phaseWord off % 2 ^ 16
          ∧ t.dev.on F.mateStatPhaseErr = decide (200 < off.natAbs)
          ∧ OnlyWords [Reg.matePhase, Reg.mateStat, F.mateEvtPhaseErr.off] s t)
      ∧ (∀ (on : MateLane) (payload : List Byte), s.dev.hearsControl on payload →
        ∃ t, exec (.apply on payload) s = .next t
          ∧ t = { s with dev := { s.dev with applies := s.dev.applies
                      ++ (applyItemsOf payload).map (fun x => (fieldAt payload 1 4, x)) } }))
    ∧ (∀ payload : List Byte, s.dev.compares = true →
      let k := digestPoint (fieldAt payload 2 3)
      let f := fieldAt payload 0 2
      let v := BitVec.ofNat 32 (fieldAt payload 8 4)
      let x := s.dev.egressPoint k
      let own (g : Nat) : Bool := (reportAt x.reports g).isSome
      let equal := (digestFrames k f).any (fun g => reportAt x.reports g == some v)
      own f = true → own (f + 3 * digestPeriod k) = false →
      ∃ t, exec (.digest ⟨1, payload⟩) s = .next t ∧ KeepsMemories s t ∧ t.dev.role = s.dev.role
        ∧ (t.dev.egressPoint k).heard = ((f % 0x1_0000, v) :: x.heard).take 8
        ∧ (∀ j, j ≠ k → t.dev.egressPoint j = s.dev.egressPoint j)
        ∧ t.dev.get F.mateDigMismatchCount
            = (s.dev.get F.mateDigMismatchCount + (if own (f + digestPeriod k) && !equal then 1 else 0)) % 2 ^ 32)
    ∧ (s.dev.on F.mateStatDisagree = true → (∀ e ∈ s.dev.mate.mismatches, e + 800 ≤ s.dev.timing.edges) →
      ∃ t, exec .disagreementClear s = .next t ∧ t.dev.on F.mateStatDisagree = false ∧ t.dev.on F.mateEvtDisagree = true
        ∧ OnlyWords [Reg.mateStat, F.mateEvtDisagree.off] s t)

/-- R491, R492, R493, R496, R499, R614: the state copy: the end of a window at the ACTIVE, whose epoch goes out as STATE blocks and an
END block; an epoch's end, a copy that overflows, and the end of a snapshot; and a press that the mate forwards. Readings of the model:
notes/assumptions/62, 93, 94, 95. -/
def Obligations.StateCopy : Prop :=
  ∀ s : State,
    (s.dev.role = roleActive → s.dev.seqNow % 80 = 0 → s.dev.rootValid = true →
        s.dev.mate.stopped = false ∨ s.dev.get F.mateStatMateRole = roleRejoin →
      (s.dev.sendsState = true → exec .stateWindowEnd s = .next s)
      ∧ (s.dev.sendsState = false → s.dev.get F.mateStatMateRole ≠ roleRejoin →
        let e := (s.dev.seqNow / 80 + 0x1_0000_0000 - 1) % 0x1_0000_0000
        ∃ t, exec .stateWindowEnd s = .next t ∧ t.dev.mate.sentEpoch = some e
          ∧ t.dev.mate.out.length = s.dev.mate.out.length + (s.dev.mate.items.length + 15) / 16 + 1
          ∧ t.dev.mate.out.take s.dev.mate.out.length = s.dev.mate.out
          ∧ (∃ m ∈ t.dev.mate.out, m.type = 4 ∧ m.field8 = stateField8 true false ∧ fieldAt m.load 0 4 = e
              ∧ fieldAt m.load 8 4 = s.dev.mate.items.length % 2 ^ 32)
          ∧ t = { s with dev := { s.dev with mate := { s.dev.mate with sentEpoch := some e, out := t.dev.mate.out } }, mem := t.mem }
          ∧ ((s.dev.hbmUp = false ∨ s.dev.traceBase = 0) → t.mem = s.mem)))
    ∧ (s.dev.role = roleActive → s.dev.mate.stopped = true → s.dev.get F.mateStatMateRole ≠ roleRejoin →
      exec .stateWindowEnd s = .next s)
    ∧ (∀ (field8 : Byte) (epoch blocks records crc : List Byte), field8.getLsbD 7 = true → s.dev.takesEpoch (field8.getLsbD 6) = true →
      let payload := endBytes epoch blocks records crc
      let e := fieldAt payload 0 4
      let rx := s.dev.mate.rx
      let c : Instr := .stateEndBlock field8 epoch blocks records crc
      (endMatches rx payload = false →
        ∃ t, exec c s = .next t ∧ t.dev.on F.mateEvtEpochFail = true ∧ Dev.WordsBut [F.mateEvtEpochFail.off] s.dev t.dev
          ∧ t = { s with dev := { s.dev with words := t.dev.words, mate := { s.dev.mate with rx := rx.filter (fun x => x.1 != e) } } })
      ∧ (endMatches rx payload = true →
        ∃ t, exec c s = .next t ∧ t.dev.get F.mateAckEpochEpoch = e % 2 ^ 32
          ∧ (field8.getLsbD 6 = true → t.dev.mate.snapDone = true))
      ∧ (∀ r : StateRecord, endMatches rx payload = true → (epochBlocks rx e).flatMap stateRecordsOf = [r] → r.kind = 5 →
          r.key.toNat < 131072 →
        ∃ t, exec c s = .next t ∧ KeepsMemories s t ∧ t.dev.word (0x1A50_0000 + 8 * r.key.toNat) = r.data0
          ∧ Dev.WordsBut [0x1A50_0000 + 8 * r.key.toNat, F.flwEvtLcasChg.off, Reg.mateAckEpoch] s.dev t.dev)
      ∧ (∀ r : StateRecord, endMatches rx payload = true → (epochBlocks rx e).flatMap stateRecordsOf = [r] → r.kind = 6 →
        let ahead := (r.data0.toNat + 2 ^ 32 - s.dev.seqNow) % 2 ^ 32
        (s.dev.shadow = shChecked → 2 ≤ ahead → ahead < 2 ^ 31 →
          ∃ t, exec c s = .next t ∧ t.dev.shadow = shArmed ∧ t.dev.word Reg.grmCmtSeq = r.data0 ∧ KeepsMemories s t)
        ∧ (s.dev.shadow ≠ shChecked ∨ ahead < 2 ∨ 2 ^ 31 ≤ ahead →
          ∃ t, exec c s = .next t ∧ t.dev.on F.mateEvtCmtMiss = true ∧ t.dev.shadow = s.dev.shadow ∧ KeepsMemories s t)))
    ∧ (s.dev.role = roleActive → 0x2000_0000 < 16 * s.dev.mate.items.length →
      ∃ t, exec .stateCopyOverflow s = .next t
        ∧ t = { s with dev := { s.dev with mate := { s.dev.mate with stopped := true, items := [], commit := none } } })
    ∧ (s.dev.role = roleActive → 16 * s.dev.mate.items.length ≤ 0x2000_0000 → exec .stateCopyOverflow s = .next s)
    ∧ (s.dev.role = roleStandby →
      ∃ t, exec .stateCopyOverflow s = .next t ∧ t.dev.role = roleRejoin ∧ t.dev.get F.mateStatRejoinStep = 1
        ∧ KeepsMemories s t)
    ∧ (s.dev.role = roleRejoin → s.dev.get F.mateStatRejoinStep = 3 → s.dev.mate.snapDone = true →
      ∃ t, exec .snapshotComplete s = .next t ∧ t.dev.role = roleStandby ∧ t.dev.get F.mateStatRejoinStep = 4
        ∧ t.dev.on F.mateStatSnapPart = false ∧ KeepsMemories s t
        ∧ (s.dev.get F.mateCmdStatOp = 3 → s.dev.get F.mateCmdStatResult = mateRunning → t.dev.get F.mateCmdStatResult = mateDone))
    ∧ (∀ (on : MateLane) (payload : List Byte), s.dev.role = roleActive → decidingMode s.dev.mode = true →
        s.dev.hearsControl on payload →
      let w := BitVec.ofNat 32 (fieldAt payload 1 4)
      (getF w 0 3 = funcManual →
        ∃ t, exec (.key ⟨on, payload⟩) s = .next t ∧ t.dev.on F.protEvtReqDone = true ∧ t.dev.on F.protReqResSrc = true
          ∧ t.dev.get F.protReqResTarget = getF w 4 18 ∧ t.dev.on F.protReqResSncp = decide (getF w 3 1 = 1) ∧ KeepsMemories s t)
      ∧ (getF w 0 3 = funcHandover → s.dev.mayHandOver = true →
        ∃ t, exec (.key ⟨on, payload⟩) s = .next t ∧ t.dev.role = roleStandby ∧ t.dev.get F.mateCmdStatResult = mateDone
          ∧ KeepsMemories s t))

/-! On-chip SRAM, HBM3 and retirement -/

/-- R503, R504, R505, R507, R508, R509, R512, R513, R516, R643: a pass of the scrubber counts what it meets; a sub-bank's retirement starts
its copy or is refused for want of a spare; the copy's poisoned words, and a write of half of one; a pseudo-channel's retirement; training;
and a lane's retirement. Readings of the model: notes/assumptions/67, 68, 70, 72, 197, 201. -/
def Obligations.MemoryUnits : Prop :=
  ∀ s : State,
    (s.dev.shedLevel < 2 → s.dev.modes.inReset = .no →
      (∀ (l : List (Fin 65536 × Fin 512 × EccSeen)) (a : List (Addr × EccSeen)), s.dev.on F.memCfgScrubEn = true →
          s.dev.sram.scrubAt + 8 * 622080000 ≤ s.dev.now →
        let seen := s.dev.scrubFinds l
        ∃ t, exec (.scrubPass false l a) s = .next t ∧ KeepsMemories s t ∧ t.dev.sram.scrubAt = s.dev.now
          ∧ t.dev.get F.memScrubPassCount = (s.dev.get F.memScrubPassCount + 1) % 2 ^ 32
          ∧ t.dev.get F.memUeCount = (s.dev.get F.memUeCount + seen.countP (fun x => isUe x.2)) % 2 ^ 32
          ∧ t.dev.get F.memCeCount
              = (s.dev.get F.memCeCount + seen.countP (fun x => x.2 != .clean && !isUe x.2)) % 2 ^ 32)
      ∧ (∀ (l : List (Fin 65536 × Fin 512 × EccSeen)) (a : List (Addr × EccSeen)), s.dev.on F.hbmCfgScrubEn = true →
          s.dev.hbmUp = true → s.dev.sram.hbmScrubAt + 64 * 622080000 ≤ s.dev.now →
        let seen := a.filter (fun x => s.dev.hbmAnswers x.1.toNat)
        ∃ t, exec (.scrubPass true l a) s = .next t ∧ KeepsMemories s t
          ∧ t.dev.get F.memScrubPassCount = s.dev.get F.memScrubPassCount
          ∧ t.dev.get F.hbmUeCount = (s.dev.get F.hbmUeCount + seen.countP (fun x => isUe x.2)) % 2 ^ 32
          ∧ t.dev.get F.hbmCeCount
              = (s.dev.get F.hbmCeCount + seen.countP (fun x => x.2 != .clean && !isUe x.2)) % 2 ^ 32))
    ∧ (∀ sb : Fin 65536, s.dev.sram.due.contains sb.val = true → s.dev.sram.retired.contains sb.val = false →
        s.dev.sram.copy = none →
      (s.dev.get F.memStatSpareFree ≠ 0 →
        ∃ t, exec (.subbankRetirement sb) s = .next t ∧ t.dev.sram.copy = some (sb.val, false)
          ∧ t.dev.sram.due = s.dev.sram.due.filter (fun x => x != sb.val) ∧ t.dev.on F.memStatCopying = true ∧ t.dev.get (F.hdrLedgerStState.page 3) = ledgerRunning
          ∧ t.dev.sram.retired = s.dev.sram.retired ∧ KeepsMemories s t)
      ∧ (s.dev.get F.memStatSpareFree = 0 →
        ∃ t, exec (.subbankRetirement sb) s = .next t ∧ t.dev.sram.copy = none ∧ t.dev.on F.memEvtSpareOut = true
          ∧ t.dev.on (F.hdrFaultPerm.page 3) = true ∧ t.dev.sram.retired = s.dev.sram.retired ∧ t.flash = s.flash))
    ∧ (∀ (sb : Nat) (bad : List (Fin 512)), s.dev.sram.copy = some (sb, false) → s.dev.rootValid = true →
      ∃ t, exec (.retirementCopyComplete bad) s = .next t ∧ t.dev.sram.copy = some (sb, true)
        ∧ (∀ w ∈ bad, (sb, w.val) ∈ t.dev.sram.poison) ∧ (∀ x ∈ s.dev.sram.poison, x ∈ t.dev.sram.poison)
        ∧ KeepsMemories s t)
    ∧ (∀ (m : Master) (f : FlowId) (w : Fin 4) (data : W32), s.mayWrite m.val (ctxAddr f w) → s.dev.sliceRetired f = false →
        s.dev.on (F.ctxEn.at 16 f) = false → s.dev.poisoned (ctxAddr f w) = true →
      let new := (s.dev.regWrite (ctxAddr f w) data).word (ctxAddr f w)
      (w.val = 0 → getF new 0 1 = 0) →
      ∃ t, exec (.flowContextWrite m f w data) s = .next t ∧ (t.dev.replyTo m.val).resp = .okay ∧ t.dev.word (ctxAddr f w) = new
        ∧ t.dev.get F.memUeCount = (s.dev.get F.memUeCount + 1) % 2 ^ 32 ∧ t.dev.on F.memEvtUe = true
        ∧ t.dev.sram = { s.dev.sram with ueAt := some s.dev.now } ∧ KeepsMemories s t)
    ∧ (∀ pc : Fin 64, s.dev.sram.pcDue.contains pc.val = true → s.dev.on (pcRetired pc) = false →
      ∃ t, exec (.pseudoChannelRetirement pc) s = .next t ∧ t.dev.on (pcRetired pc) = true ∧ t.dev.on (pcPresent pc) = false
        ∧ t.dev.on F.hbmEvtRetire = true ∧ t.dev.on (F.hdrFaultPerm.page 4) = true ∧ t.flash = s.flash)
    ∧ (s.dev.modes.inReset = .no → s.dev.mode ≠ modeBoot → 1 ≤ s.dev.modes.stageDone → s.dev.rootValid = true →
        s.dev.hbmTrained = false →
      (∀ failed : List (Fin 64), ∃ t, exec (.hbmTrainingComplete failed) s = .next t ∧ t.dev.hbmTrained = true
          ∧ (failed ≠ [] → t.dev.on F.hbmEvtTrainFail = true) ∧ t.flash = s.flash)
      ∧ ((∀ pc, pc < 64 → s.dev.on (pcRetired pc) = false) →
        ∃ t, exec (.hbmTrainingComplete []) s = .next t ∧ t.dev.get F.hbmStatReserveFree = 15
          ∧ (∀ u, u < 64 → t.dev.hbmBacked u = true ∧ t.dev.unitPc u = u) ∧ t.flash = s.flash))
    ∧ (∀ n : Lane, s.dev.retired (lanePage n) = false →
      ∃ t, exec (.laneRetirement n) s = .next t ∧ t.dev.retired (lanePage n) = true ∧ t.dev.eff (lanePage n) = 0
        ∧ t.dev.on (F.hdrFaultPerm.page (lanePage n)) = true ∧ t.dev.present (lanePage n) = false ∧ t.flash = s.flash)

/-! The Host Control Port -/

/-- R538, R541, R542, R543, R547, R551, R553: a whole READ or WRITE of the processor SRAM is issued and, when its beats are answered,
gives its response; a header that does not check is discarded; a READ or WRITE that fails a check has its response ready, with no
data; and a posted write waits, and then stores its bytes. Readings of the model: notes/assumptions/90. -/
def Obligations.HostPortTransactions : Prop :=
  ∀ s : State,
    (∀ f : PortFrame, s.dev.portListens = true → parseHeader f.header f.data = none → ∀ c : Instr,
        c = .read f ∨ c = .write f ∨ c = .writePosted f →
      ∃ t, exec c s = .next t ∧ t.dev.port = { s.dev.port with ignoring := true } ∧ t.dev.on F.hcpEvtHdrErr = true
        ∧ t.dev.get F.hcpHdrErrCount = (s.dev.get F.hcpHdrErrCount + 1) % 2 ^ 32
        ∧ t = { s with dev := { s.dev with words := t.dev.words, port := t.dev.port } })
    ∧ (∀ (f : PortFrame) (x : PortTxn) (c : Instr), s.dev.portListens = true → parseHeader f.header f.data = some x →
        s.dev.port.cur = none → s.dev.port.posted = [] →
        (c = .read f ∧ x.cmd = cmdRead ∨ c = .write f ∧ x.cmd = cmdWrite ∧ f.data.length = x.len) →
      let check := s.dev.portCheck x (numOf f.crc == portCrc f.data)
      (∀ st cause, check = some (st, cause) →
        ∃ t, exec c s = .next t ∧ KeepsMemories s t
          ∧ t.dev.port = { s.dev.port with cur := some { x with status := st, cause := cause, data := [] }, curAt := s.dev.now,
                                               timedOut := false })
      ∧ (check = none → 0x0400_0000 ≤ x.addr → x.addr + x.len ≤ 0x0440_0000 → f.ecc = .clean → s.dev.sram.poison = [] →
        ∃ t, exec c s = .next t ∧ t.dev.port = { s.dev.port with cur := some x, curAt := s.dev.now, timedOut := false }
          ∧ t.flash = s.flash
          ∧ t.dev.words = s.dev.words ∧ (x.cmd = cmdRead → t.mem = s.mem)
          ∧ ∀ b, (b < x.addr ∨ x.addr + x.len ≤ b) → memByte t.mem b = memByte s.mem b))
    ∧ (∀ (x : PortTxn) (since : Nat), s.dev.port.cur = some x → s.dev.port.timedOut = false → 1 ≤ x.len → s.dev.sram.poison = [] →
        0x0400_0000 ≤ x.addr → x.addr + x.len ≤ 0x0440_0000 →
        s.dev.burst 0 = { write := x.cmd == cmdWrite, addr := x.addr, len := x.len, data := x.data, since := since } →
      (x.cmd = cmdRead →
        ∃ t, exec .responseReady s = .next t ∧ KeepsMemories s t ∧ t.dev.port
            = { s.dev.port with cur := none, sent := response x stOk causeNone x.len (memRead s.mem x.addr x.len) }
          ∧ Dev.WordsBut [Reg.hcpLast, Reg.hcpLastAddrLo, Reg.hcpLastAddrHi] s.dev t.dev)
      ∧ (x.cmd = cmdWrite → x.data.length = x.len →
        ∃ t, exec .responseReady s = .next t ∧ t.flash = s.flash
          ∧ t.dev.port = { s.dev.port with cur := none, sent := response x stOk causeNone x.len [] }
          ∧ (∀ i, i < x.len → memByte t.mem (x.addr + i) = x.data.getD i 0)
          ∧ (∀ b, (b < x.addr ∨ x.addr + x.len ≤ b) → memByte t.mem b = memByte s.mem b)
          ∧ Dev.WordsBut [Reg.hcpLast, Reg.hcpLastAddrLo, Reg.hcpLastAddrHi] s.dev t.dev))
    ∧ (∀ (f : PortFrame) (x : PortTxn), s.dev.portListens = true → parseHeader f.header f.data = some x → x.cmd = cmdPosted →
        f.data.length = x.len → s.dev.portCheck x (numOf f.crc == portCrc f.data) = none →
      ∃ t, exec (.writePosted f) s = .next t ∧ t.dev.port = { s.dev.port with posted := s.dev.port.posted ++ [x] }
        ∧ t.dev.get F.hcpPostPendCount = (s.dev.port.posted.length + 1) % 4 ∧ Dev.WordsBut [Reg.hcpPostPend] s.dev t.dev
        ∧ t = { s with dev := { s.dev with words := t.dev.words, port := t.dev.port } })
    ∧ (∀ (x : PortTxn) (rest : List PortTxn), s.dev.port.posted = x :: rest → s.dev.port.cur = none → 1 ≤ x.len →
        x.data.length = x.len → 0x0400_0000 ≤ x.addr → x.addr + x.len ≤ 0x0440_0000 →
      ∃ t, exec .postedWriteEnd s = .next t ∧ t.flash = s.flash ∧ t.dev.port = { s.dev.port with posted := rest }
        ∧ t.dev.get F.hcpPostPendCount = rest.length % 4
        ∧ t.dev.get F.hcpPostDoneCount = (s.dev.get F.hcpPostDoneCount + 1) % 2 ^ 32
        ∧ (∀ i, i < x.len → memByte t.mem (x.addr + i) = x.data.getD i 0)
        ∧ ∀ b, (b < x.addr ∨ x.addr + x.len ≤ b) → memByte t.mem b = memByte s.mem b)

/-- R547, R548, R554, R555, R556: the wait limit gives TIMEOUT while the transaction goes on; a port reset ends the transaction in
progress; and HSS_N low for 1 ms makes the port ignore HD until it rises. Readings of the model: notes/assumptions/91. -/
def Obligations.HostPortLimits : Prop :=
  ∀ s : State,
    (∀ (x : PortTxn) (limit : Nat), s.dev.port.cur = some x → s.dev.port.timedOut = false → 1800 ≤ limit → limit ≤ 2000 →
        100000 * s.dev.port.curAt + 62208 * limit ≤ 100000 * s.dev.now →
      ∃ t, exec (.timeout limit) s = .next t
        ∧ t = { s with dev := { s.dev with port := { s.dev.port with
                  timedOut := true, sent := response x stTimeout causeWait 0 [] } } })
    ∧ (s.dev.modes.inReset = .no → s.dev.port.readyAt ≤ s.dev.now →
      (s.dev.port.cur = none →
        ∃ t, exec (.portReset none) s = .next t
          ∧ t = { s with dev := { s.dev with port := { s.dev.port with ignoring := false } } })
      ∧ (∀ x, s.dev.port.cur = some x → s.dev.port.timedOut = false → s.dev.port.ignoring = false →
        ∃ t, exec (.portReset none) s = .next t ∧ t.dev.port = { s.dev.port with cur := none } ∧ t.dev.burst 0 = {}
          ∧ t.dev.get F.hcpLastStatus = stAbort ∧ t.dev.get F.hcpLastCause = causePortReset
          ∧ t.dev.get F.hcpAbortsCount = (s.dev.get F.hcpAbortsCount + 1) % 2 ^ 32 ∧ t.dev.on F.hcpEvtPortReset = true
          ∧ KeepsMemories s t)
      ∧ (∀ ns, 1000000 ≤ ns →
        ∃ t, exec (.ssLong ⟨ns, none⟩) s = .next t ∧ t.dev.port.ignoring = true ∧ t.dev.on F.hcpEvtSsLong = true
          ∧ t.dev.port.posted = s.dev.port.posted ∧ (s.dev.port.timedOut = false → s.dev.port.ignoring = false → t.dev.port.cur = none) ∧ KeepsMemories s t))

/-! Management and security -/

/-- R567, R568, R573, R576, R577, R578, R579, R582, R583: a restart of the processor by the host, by firmware, by the watchdog or by a
trial that does not report; the recovery start; the kick; a trial image that reports; and the sensors.
Readings of the model: notes/assumptions/77, 81. -/
def Obligations.ProcessorStarts : Prop :=
  ∀ s : State,
    (∀ (c : Instr) (cause : Nat),
      (∃ m : Master, s.mayWrite m.val Reg.mgtCtrl ∧ m.val < 2 ∧ c = .restart m ∧ cause = (if m.val = 0 then causeHost else causeFirmware))
        ∨ c = .watchdogExpiry ∧ s.dev.wdogOver = true ∧ cause = causeWdog
        ∨ (∃ at', c = .healthTimeout ∧ s.dev.mgt.trialAt = some at' ∧ at' + 30 * 622080000 ≤ s.dev.now ∧ s.dev.modes.inReset = .no
          ∧ cause = causeHealth) →
      ∃ t, exec c s = .next t ∧ t.dev.CpuStarted s.dev cause
        ∧ t.dev.mgt.otp.gone = s.dev.mgt.otp.gone ∧ (s.dev.mgt.otp.gone = true → t.dev.bootState = bootHalted)
        ∧ (cause = causeWdog → t.dev.on F.mgtEvtWdog = true))
    ∧ (∀ m : Master, s.mayWrite m.val Reg.mgtCtrl →
      (s.dev.bootState = bootRecovery → s.dev.mgt.otp.gone = false →
          s.dev.mgt.otp.check (memRead s.mem 0x0400_0000 0x200) (memRead s.mem 0x0400_0200) = fwOk →
        ∃ t, exec (.recoverGo m) s = .next t ∧ t.dev.bootState = bootRunning ∧ t.dev.on F.mgtBootStatRecovered = true
          ∧ t.dev.get F.mgtBootStatCause = causeRecover
          ∧ t.dev.get F.mgtBootStatStarts = Nat.min (s.dev.get F.mgtBootStatStarts + 1) 65535
          ∧ t.dev.mgt.image = some (2, memRead s.mem 0x0400_0000 0x200))
      ∧ (s.dev.bootState ≠ bootRecovery →
        ∃ t, exec (.recoverGo m) s = .next t ∧ AnsweredWords m.val .okay [] s t))
    ∧ (∀ m : Master, s.mayWrite m.val Reg.mgtWdog →
      ∃ t, exec (.kick m) s = .next t ∧ Accessed m.val .okay [Reg.mgtWdog] s t ∧ t.dev.mgt.wdogAt = s.dev.now
        ∧ t.dev.get F.mgtWdogTimeout = s.dev.get F.mgtWdogTimeout ∧ t.dev.on F.mgtWdogEn = s.dev.on F.mgtWdogEn)
    ∧ (∀ m : Master, s.mayWrite m.val Reg.mgtHealth →
      (m.val = 1 → s.dev.mgt.trialAt.isSome = true → s.dev.mgt.image.isSome = true →
        ∃ t, exec (.healthOk m) s = .next t ∧ (t.dev.replyTo m.val).resp = .okay ∧ t.dev.mgt.trialAt = none
          ∧ t.dev.on F.mgtHealthTrial = false ∧ t.dev.on F.mgtHealthOk = true)
      ∧ (m.val = 1 → s.dev.mgt.trialAt = none →
        ∃ t, exec (.healthOk m) s = .next t ∧ AnsweredWords m.val .okay [Reg.mgtHealth] s t ∧ t.dev.on F.mgtHealthOk = true)
      ∧ (m.val ≠ 1 → ∃ t, exec (.healthOk m) s = .next t ∧ AnsweredWords m.val .slverr [] s t))
    ∧ (∀ (i : Fin 6) (temp : BitVec 10),
      let hot := quarters (s.dev.get F.mgtTalarmLimit) ≤ quarters temp.toNat
      ∃ t, exec (.talarm i temp) s = .next t ∧ t.dev.get (F.mgtTempTemp.at 4 i) = temp.toNat
        ∧ t.dev.on F.mgtTalarmActive = (s.dev.on F.mgtTalarmActive || decide hot)
        ∧ (hot → s.dev.on F.mgtTalarmActive = false → t.dev.on F.mgtEvtTalarm = true)
        ∧ OnlyWords [Reg.mgtTemp + 4 * i.val, Reg.mgtTalarm, F.mgtEvtTalarm.off] s t)
    ∧ (∀ temps : List (BitVec 10), temps.length = 6 →
        (∀ x ∈ temps, quarters x.toNat ≤ quarters (s.dev.get F.mgtTalarmLimit) - 20) →
      ∃ t, exec (.talarmClear temps) s = .next t ∧ t.dev.on F.mgtTalarmActive = false
        ∧ t = { s with dev := { s.dev with words := t.dev.words } })
    ∧ (∀ (m : Master) (x : Sensor), s.mayRead m.val (sensorAddr x) →
      ∃ t, exec (.sensorExtremeRead m x) s = .next t
        ∧ t.dev.replyTo m.val = { resp := .okay, data := wordBytes (s.dev.word (sensorAddr x)) }
        ∧ AnsweredWords m.val .okay [sensorAddr x] s t
        ∧ (∀ n, x = .temp n → t.dev.get (F.mgtTempMax.at 4 n) = s.dev.get (F.mgtTempTemp.at 4 n))
        ∧ (∀ n, x = .volt n → t.dev.get (F.mgtVoltMin.at 4 n) = s.dev.get (F.mgtVoltMv.at 4 n))
        ∧ (∀ n, x = .slack n → t.dev.get (F.mgtSlackMin.at 4 n) = s.dev.get (F.mgtSlackPct.at 4 n)))

/-- R577, R578: the firmware commands: each starts, or ends at once with its result; the end of a check of the staged image; and a
PROGRAM that puts the staged image into its slot. Readings of the model: notes/assumptions/78, 79. -/
def Obligations.FirmwareCommands : Prop :=
  ∀ s : State,
    let ended (t : State) (op res : Nat) : Prop :=
      t.dev.mgt.fw = none ∧ t.dev.get F.mgtFwStatOp = op ∧ t.dev.get F.mgtFwStatResult = res ∧ t.dev.on F.mgtEvtFwDone = true
    (∀ (m : Master) (slot : Bool), s.mayWrite m.val Reg.mgtFwCmd → s.dev.haldyn = true →
      (s.dev.mgt.fw = none →
        (∃ t, exec (.stageCheck m slot) s = .next t ∧ (t.dev.replyTo m.val).resp = .okay ∧ t.dev.mgt.fw = some (1, 0)
          ∧ t.dev.get F.mgtFwStatOp = 1 ∧ t.dev.get F.mgtFwStatResult = fwRunning ∧ KeepsMemories s t)
        ∧ (∀ (c : Instr) (op : Nat), c = .program m slot ∧ op = 2 ∨ c = .activate m slot ∧ op = 3 → s.dev.grants .power = false →
          ∃ t, exec c s = .next t ∧ ended t op fwPower ∧ KeepsMemories s t)
        ∧ (let into := !(bootRecord s.flash).1.active
          (s.dev.grants .power = true → s.dev.runs into = true →
            ∃ t, exec (.program m slot) s = .next t ∧ ended t 2 fwState ∧ KeepsMemories s t)
          ∧ (s.dev.grants .power = true → s.dev.runs into = false →
            ∃ t, exec (.program m slot) s = .next t ∧ t.dev.mgt.fw = some (2, bitOf into)
              ∧ t.dev.get F.mgtFwStatResult = fwRunning ∧ t.mem = s.mem
              ∧ t.dev.get (if into then F.mgtBootStatStateB else F.mgtBootStatStateA) = slotEmpty
              ∧ (∀ i, i < imageSize → flashRead t.flash (imageBase into + i) 1 = [0xFF])
              ∧ ∀ i, i < imageSize → flashRead t.flash (imageBase (!into) + i) 1 = flashRead s.flash (imageBase (!into) + i) 1))
        ∧ (let r := (bootRecord s.flash).1
           s.dev.grants .power = true → (r.state slot = slotValid ∨ r.state slot = slotConfirmed) →
             s.dev.mgt.otp.rollback ≤ hdrRollback (slotHeader s.flash slot) →
           ∃ t, exec (.activate m slot) s = .next t ∧ t.dev.CpuStarted s.dev causeActivate ∧ t.dev.mgt.fw = none))
      ∧ (∀ b, s.dev.mgt.fw = some (2, b) →
        ∃ t, exec (.abort m slot) s = .next t ∧ ended t 4 fwOk ∧ KeepsMemories s t)
      ∧ (∀ x, s.dev.mgt.fw = some x →
        ∃ t, exec (.stageCheck m slot) s = .next t ∧ t.dev.mgt.fw = some x ∧ t.dev.get F.mgtFwStatResult = fwBusy
          ∧ KeepsMemories s t))
    ∧ (∀ b, s.dev.mgt.fw = some (1, b) →
      ∃ t, exec .stageCheckDone s = .next t ∧ KeepsMemories s t
        ∧ ended t 1 (if s.dev.hbmAnswers stagingBase then
            s.dev.mgt.otp.check (memRead s.mem stagingBase 0x200) (memRead s.mem (stagingBase + 0x200)) else fwLost))
    ∧ (∀ b : Bool, s.dev.mgt.fw = some (2, bitOf b) →
      (s.dev.hbmAnswers stagingBase = false →
        ∃ t, exec .programDone s = .next t ∧ ended t 2 fwLost ∧ KeepsMemories s t)
      ∧ (s.dev.hbmAnswers stagingBase = true →
          s.dev.mgt.otp.check (memRead s.mem stagingBase 0x200) (memRead s.mem (stagingBase + 0x200)) ≠ fwOk →
        ∃ t, exec .programDone s = .next t ∧ ended t 2 fwFormat ∧ KeepsMemories s t)
      ∧ (s.dev.hbmAnswers stagingBase = true →
          s.dev.mgt.otp.check (memRead s.mem stagingBase 0x200) (memRead s.mem (stagingBase + 0x200)) = fwOk →
        let n := 0x200 + hdrBody (memRead s.mem stagingBase 0x200)
        ∃ t, exec .programDone s = .next t ∧ ended t 2 fwOk ∧ t.mem = s.mem ∧ t.dev.get F.mgtFwStatProgress = 100
          ∧ t.dev.get (if b then F.mgtBootStatStateB else F.mgtBootStatStateA) = slotValid
          ∧ flashRead t.flash (imageBase b) n = memRead s.mem stagingBase n
          ∧ ∀ i, i < imageSize → flashRead t.flash (imageBase (!b) + i) 1 = flashRead s.flash (imageBase (!b) + i) 1))

/-- R589 to R595, R597, R599, R600: the commands of SEC.CMD, each with the result that the lifecycle, the shed level and the token
call for and what a result of OK changes; the debug request, which the host alone writes; and the test access port.
Readings of the model: notes/assumptions/82, 83, 84, 86. -/
def Obligations.SecurityEngine : Prop :=
  ∀ s : State,
    (∀ m : Master, s.mayWrite m.val Reg.secCmd →
      let done (t : State) (op res : Nat) : Prop :=
        (t.dev.replyTo m.val).resp = .okay ∧ t.dev.get F.secCmdStatOp = op ∧ t.dev.get F.secCmdStatResult = res
          ∧ t.dev.on F.secCmdStatBusy = false ∧ t.dev.on F.secEvtCmdDone = true ∧ t.flash = s.flash
      let otp := s.dev.mgt.otp
      (∃ t, exec (.getNonce m) s = .next t ∧ done t secGetNonce secOk ∧ t.dev.mgt.nonce = true ∧ t.dev.mgt.otp = otp
        ∧ t.mem = s.mem)
      ∧ (let r := if s.dev.lifecycle ≠ lcLocked then secState
           else s.dev.tokenCheck unlockMagic (fun l => l == 1 || l == 2) (s.dev.imageKey hdrCustKey)
         ∃ t, exec (.unlock m) s = .next t ∧ done t secUnlock r ∧ t.dev.mgt.nonce = false ∧ t.dev.mgt.otp = otp
           ∧ (r = secOk → t.dev.lifecycle = lcSession ∧ t.dev.mgt.session = some (s.dev.byteAt (Reg.secBuf + 0x34)).toNat)
           ∧ (r ≠ secOk → t.dev.mgt.session = s.dev.mgt.session))
      ∧ (let h := s.dev.secBuf 0 32
         let ok := match s.dev.mgt.image with | some (_, hdr) => custSigned hdr h | none => false
         let r := if s.dev.grants .power = false then secPower else if s.dev.lifecycle ≠ lcBlank then secState
           else if ok then secOk else secSig
         ∃ t, exec (.provision m) s = .next t ∧ done t secProvision r
           ∧ t.dev.mgt.otp = (if r = secOk then { otp with custHash := some h, provisioned := true } else otp))
      ∧ (let r := if s.dev.grants .power = false then secPower else if s.dev.lifecycle ≠ lcProvisioned then secState else secOk
         ∃ t, exec (.lock m) s = .next t ∧ done t secLock r
           ∧ t.dev.mgt.otp = (if r = secOk then { otp with locked := true } else otp))
      ∧ (let r := s.dev.decommissionResult
         ∃ t, exec (.decommission m) s = .next t ∧ done t secDecommission r ∧ t.dev.mgt.nonce = false
           ∧ t.dev.mgt.otp = (if r = secOk then { otp with gone := true, keyBurnt := true } else otp)
           ∧ (r = secOk → t.dev.lifecycle = lcGone ∧ t.dev.modes.warmRequested = true))
      ∧ (s.dev.grants .attest = true →
         ∃ t, exec (.attest m) s = .next t ∧ done t secAttest secOk ∧ t.dev.bytesAt Reg.secBuf 4 = [0x41, 0x54, 0x54, 0x31]
           ∧ t.dev.bytesAt (Reg.secBuf + 8) 16 = deviceId ∧ t.dev.mgt = s.dev.mgt ∧ t.mem = s.mem)
      ∧ (s.dev.grants .attest = false →
         ∃ t, exec (.attest m) s = .next t ∧ done t secAttest secState ∧ t.dev.mgt = s.dev.mgt ∧ t.mem = s.mem)
      ∧ (∃ t, exec (.extend m) s = .next t ∧ done t secExtend secOk ∧ t.dev.mgt = s.dev.mgt
         ∧ t.dev.measurement = sha256 (s.dev.measurement ++ s.dev.secBuf 0 32)))
    ∧ (∀ (m : Master) (data : W32), s.mayWrite m.val Reg.secDbg →
      (m.val = 0 → ∃ t, exec (.dbgReqWrite m data) s = .next t ∧ (t.dev.replyTo m.val).resp = .okay
        ∧ t.dev.get F.secDbgReq = (s.dev.regWrite Reg.secDbg data).get F.secDbgReq
        ∧ t.dev.get F.secDbgEff = Nat.min (t.dev.get F.secDbgReq) t.dev.debugMax ∧ t.dev.debugMax = s.dev.debugMax
        ∧ t.dev.mgt.otp = s.dev.mgt.otp ∧ t.flash = s.flash)
      ∧ (m.val ≠ 0 → ∃ t, exec (.dbgReqWrite m data) s = .next t ∧ AnsweredWords m.val .slverr [] s t))
    ∧ (∀ code : BitVec 5, ∃ t, exec (.tapInstruction code) s = .next t
        ∧ t = { s with dev := { s.dev with mgt := { s.dev.mgt with tap := code } } })
    ∧ (∃ t, exec .tapReset s = .next t ∧ t = { s with dev := { s.dev with mgt := { s.dev.mgt with tap := 1 } } })
    ∧ (s.dev.mgt.testmode = true → s.dev.tapActs = (if s.dev.mgt.tap = tapIdcode then tapIdcode else tapBypass))

/-! The panel and the modules -/

/-- R606, R609, R610, R612, R613, R611, R618, R620, R622: the scan, the debounced keys with their functions, the pair that hands over,
stuck inputs and touch baselines, module presence, and the module buses.
Readings of the model: notes/assumptions/9, 92. -/
def Obligations.PanelAndModules : Prop :=
  ∀ s : State,
    (∀ i : ScanIn, s.dev.on F.pnlCfgScanEn = true → s.dev.modes.inReset = .no →
        (s.dev.panel.scanAt = none ∨ ∃ at', s.dev.panel.scanAt = some at' ∧ at' + 548675 ≤ s.dev.now) →
      ∃ t, exec (.scanCycle i) s = .next t ∧ t.dev.panel.scanAt = some s.dev.now
        ∧ (s.dev.mode ≠ modeSafehold → t.dev.panel.lit = s.dev.panel.shifted)
        ∧ (∀ k : Fin 4, s.dev.on ⟨Reg.pnlCfg, 16 + k, 1⟩ = true →
            t.dev.get (F.pnlTchCount.at 4 k) = (i.touch.getD k 0).toNat)
        ∧ (∀ k, k < 16 → k < s.dev.get F.pnlCfgKeys → i.keys.getD k true = false → s.dev.held k = false →
            t.dev.panel.runs.getD k 0 = s.dev.panel.runs.getD k 0 + 1)
        ∧ t = { s with dev := { s.dev with words := t.dev.words, panel := t.dev.panel } })
    ∧ (∀ i : Fin 20, s.dev.held i = false → 24 ≤ s.dev.panel.runs.getD i 0 →
      let w := s.dev.word (Reg.pnlKfun + 4 * i.val)
      ∃ t, exec (.keyPress i) s = .next t ∧ t.dev.held i = true ∧ t.dev.on (bitAt Reg.pnlPress i) = true
        ∧ t.dev.on F.pnlEvtPress = true ∧ KeepsMemories s t
        ∧ (getF w 0 3 = funcAco → s.dev.mode ≠ modeBoot → s.dev.mode ≠ modePrepare → t.dev.on F.pnlStatAco = true)
        ∧ (getF w 0 3 = funcManual → s.dev.mode = modeBoot ∨ s.dev.mode = modePrepare → t.dev.on F.pnlEvtDropped = true))
    ∧ (∀ i : Fin 20, s.dev.held i = true → 24 ≤ s.dev.panel.runs.getD i 0 →
      ∃ t, exec (.keyRelease i) s = .next t ∧ t.dev.held i = false ∧ t.dev.isStuck i = false ∧ i.val ∉ t.dev.panel.fired
        ∧ t = { s with dev := { s.dev with words := t.dev.words, panel := t.dev.panel } })
    ∧ (∀ a b : Fin 20, s.dev.pairHeld a b = true → s.dev.mode ≠ modeBoot → s.dev.mode ≠ modePrepare → s.dev.mode ≠ modeSafehold →
        s.dev.mayHandOver = true →
      ∃ t, exec (.mateHandover a b) s = .next t ∧ t.dev.role = roleStandby ∧ t.dev.get F.mateCmdStatOp = 1
        ∧ t.dev.get F.mateCmdStatResult = mateDone ∧ a.val ∈ t.dev.panel.fired ∧ b.val ∈ t.dev.panel.fired ∧ KeepsMemories s t)
    ∧ (∀ i : Fin 20, s.dev.held i = true → s.dev.isStuck i = false →
        s.dev.panel.heldAt.getD i 0 + 60 * 622080000 ≤ s.dev.now →
      ∃ t, exec (.stuckInput i) s = .next t ∧ t.dev.isStuck i = true ∧ t.dev.on F.pnlEvtStuck = true
        ∧ (∀ k : Fin 4, i.val = 16 + k.val → t.dev.get (F.pnlTchBase.at 4 k) = s.dev.get (F.pnlTchCount.at 4 k))
        ∧ t = { s with dev := { s.dev with words := t.dev.words } })
    ∧ (∀ i : Fin 4, s.dev.on ⟨Reg.pnlCfg, 16 + i, 1⟩ = true → s.dev.panel.touch.getD i false = false →
        s.dev.panel.stepAt.getD i 0 + 64 * 622080 ≤ s.dev.now →
      let base := s.dev.get (F.pnlTchBase.at 4 i)
      let count := s.dev.get (F.pnlTchCount.at 4 i)
      ∃ t, exec (.touchBaselineStep i) s = .next t ∧ Dev.WordsBut [(F.pnlTchBase.at 4 i).off] s.dev t.dev
        ∧ t.dev.get (F.pnlTchBase.at 4 i) = (if base < count then base + 1 else if count < base then base - 1 else base)
        ∧ t = { s with dev := { s.dev with words := t.dev.words, panel := t.dev.panel } })
    ∧ (∀ c : Fin 104, (s.dev.seated c = true → 1 ≤ s.dev.panel.cages.getD c 0) →
        (s.dev.seated c = false → 24 ≤ s.dev.panel.cages.getD c 0) →
      ∃ t, exec (.presenceChange c) s = .next t ∧ t.dev.seated c = !s.dev.seated c
        ∧ t.dev.on (bitAt Reg.pnlPresChg c) = true ∧ t.dev.on F.pnlEvtPresChg = true
        ∧ (∀ k : Fin 104, k ≠ c → t.dev.seated k = s.dev.seated k)
        ∧ t = { s with dev := { s.dev with words := t.dev.words, panel := t.dev.panel } })
    ∧ (∀ m : Master, s.mayWrite m.val Reg.pnlCtrl →
      ∃ t, exec (.acoClr m) s = .next t ∧ t.dev.on F.pnlStatAco = false
        ∧ AnsweredWords m.val .okay [Reg.pnlCtrl, F.pnlStatAco.off] s t)
    ∧ (∀ (m : Master) (n : Fin 4) (data : W32), s.mayWrite m.val (Reg.pnlMbCmd + 0x40 * n.val) →
      let stat := (F.pnlMbStatBusy.at 0x40 n).off
      (s.dev.on (F.pnlMbStatBusy.at 0x40 n) = false →
        ∃ t, exec (.go m n data) s = .next t ∧ t.dev.on (F.pnlMbStatBusy.at 0x40 n) = true
          ∧ t.dev.get (F.pnlMbStatDone.at 0x40 n) = 0 ∧ t.dev.get (F.pnlMbStatResult.at 0x40 n) = mbOk
          ∧ (n.val < s.dev.panel.buses.length → t.dev.panel.buses.getD n (false, 0)
              = (t.dev.on (F.pnlMbCmdWrite.at 0x40 n), t.dev.get (F.pnlMbCmdLen.at 0x40 n)))
          ∧ (∀ k, k ≠ n.val → t.dev.panel.buses.getD k (false, 0) = s.dev.panel.buses.getD k (false, 0))
          ∧ Accessed m.val .okay [Reg.pnlMbCmd + 0x40 * n.val, stat] s t)
      ∧ (s.dev.on (F.pnlMbStatBusy.at 0x40 n) = true →
        ∃ t, exec (.go m n data) s = .next t ∧ t.dev.on (F.pnlMbStatBusy.at 0x40 n) = true
          ∧ t.dev.get (F.pnlMbStatResult.at 0x40 n) = mbBusy
          ∧ AnsweredWords m.val .okay [Reg.pnlMbCmd + 0x40 * n.val, stat] s t))
    ∧ (∀ (n : Fin 4) (e : MbEnd) (done : Fin 17) (bytes : List Byte), s.dev.on (F.pnlMbStatBusy.at 0x40 n) = true →
        bytes.length = 16 →
      let b := s.dev.panel.buses.getD n (false, 0)
      let count := if e = .ok then b.2 else Nat.min done.val b.2
      b.2 ≤ 16 →
      ∃ t, exec (.mbDone n e done bytes) s = .next t ∧ t.dev.on (F.pnlMbStatBusy.at 0x40 n) = false
        ∧ t.dev.get (F.pnlMbStatResult.at 0x40 n) = mbResult e ∧ t.dev.get (F.pnlMbStatDone.at 0x40 n) = count
        ∧ (b.1 = false → t.dev.bytesAt (Reg.pnlMbData + 0x40 * n.val) count = bytes.take count)
        ∧ (b.1 = true → t.dev.bytesAt (Reg.pnlMbData + 0x40 * n.val) 16 = s.dev.bytesAt (Reg.pnlMbData + 0x40 * n.val) 16)
        ∧ t.dev.on F.pnlEvtMbDone = true ∧ t = { s with dev := { s.dev with words := t.dev.words } })

/-! Modes, requested states, shedding and resets -/

/-- R626, R627, R634, R646, R647, R662, R664: the requested mode and the moves towards it; the stages of bring-up; a requested state; the
skew flag; and the shed levels. Readings of the model: notes/assumptions/12, 19, 20, 21. -/
def Obligations.ModesAndShedding : Prop :=
  ∀ s : State,
    (∀ (m : Master) (data : W32), s.mayWrite m.val Reg.devModeReq →
      ∃ t, exec (.modeReqWrite m data) s = .next t ∧ AnsweredWords m.val .okay [Reg.devModeReq] s t
        ∧ t.dev.word Reg.devModeReq = (s.dev.regWrite Reg.devModeReq data).word Reg.devModeReq ∧ t.dev.mode = s.dev.mode)
    ∧ (let req := s.dev.modeReq
       s.dev.modes.inReset = .no → ∀ mode' : Nat,
        (s.dev.mode = modeBoot ∧ (req = 1 ∨ req = 2 ∨ req = 5) ∧ s.dev.shedLevel < 4 ∧ mode' = modePrepare
          ∨ s.dev.mode = modePrepare ∧ (req = 2 ∨ req = 5) ∧ s.dev.modes.stageDone = 4 ∧ s.dev.modes.building = false
            ∧ s.dev.on F.clkStatusLock = true ∧ s.dev.atEdge = true ∧ mode' = req
          ∨ s.dev.mode = modeService ∧ req = 1 ∧ mode' = modePrepare
          ∨ s.dev.mode = modeService ∧ req = 5 ∧ s.dev.atEdge = true ∧ mode' = modeMaintain
          ∨ s.dev.mode = modeMaintain ∧ s.dev.anyTest = false ∧ req = 1 ∧ mode' = modePrepare
          ∨ s.dev.mode = modeMaintain ∧ s.dev.anyTest = false ∧ req = 2 ∧ s.dev.atEdge = true ∧ mode' = modeService) →
        ∃ t, exec .modeChange s = .next t ∧ t.dev.mode = mode' ∧ t.dev.get F.devModePrev = s.dev.mode
          ∧ t.dev.get F.devModeChanges = Nat.min (s.dev.get F.devModeChanges + 1) 65535
          ∧ (mode' = modePrepare → t.dev.modes.building = true
              ∧ t.dev.modes.stageDone = (if s.dev.mode = modeBoot ∧ s.dev.get F.devResetStatLast ≠ 0 ∧ s.dev.rootValid = true then 1 else 0))
          ∧ KeepsMemories s t)
    ∧ (∀ failed transient : List Channel,
        let k := s.dev.modes.stageDone + 1
        s.dev.modes.building = true → s.dev.modes.inReset = .no → k ≤ 4 → s.dev.stageReady k = true →
      ∃ t, exec (.bringUpStageComplete failed transient) s = .next t ∧ t.dev.modes.stageDone = k
        ∧ t.dev.modes.building = decide (k < 4) ∧ t.dev.get (F.hdrLedgerStDoneSteps.page 0) = k
        ∧ t.dev.get (F.hdrLedgerStState.page 0) = (if k = 4 then ledgerDone else ledgerRunning) ∧ t.flash = s.flash)
    ∧ (∀ (m : Master) (p : PageNo) (data : W32), s.mayWrite m.val (pageAddr p Reg.hdrReq) →
      (fixedReq p = false →
        ∃ t, exec (.reqWrite m p data) s = .next t ∧ (t.dev.replyTo m.val).resp = .okay ∧ KeepsMemories s t
          ∧ t.dev.get (F.hdrReqState.page p)
              = (s.dev.regWrite (pageAddr p Reg.hdrReq) data).get (F.hdrReqState.page p))
      ∧ (fixedReq p = true → ∃ t, exec (.reqWrite m p data) s = .next t ∧ AnsweredWords m.val .okay [] s t))
    ∧ (∀ p : PageNo, s.dev.skewRuns p = true → s.dev.on (F.hdrSkewFlag.page p) = false →
      (10 * s.dev.get (F.hdrSkewSettle.page p) ≤ s.dev.skewMs p →
        ∃ t, exec (.skewFlag p (s.dev.skewMs p)) s = .next t ∧ t.dev.on (F.hdrSkewFlag.page p) = true
          ∧ t.dev.on (F.hdrStickySkew.page p) = true
          ∧ OnlyWords [pageAddr p Reg.hdrSkew, pageAddr p Reg.hdrSticky] s t)
      ∧ (s.dev.skewMs p < 10 * s.dev.get (F.hdrSkewSettle.page p) → exec (.skewFlag p (s.dev.skewMs p)) s = .next s))
    ∧ (∀ x : PowerSample, s.dev.shedLevel < s.dev.shedDeepest x → s.dev.modes.inReset = .no →
      ∃ t, exec (.shedLevelEnter x) s = .next t ∧ t.dev.shedLevel = s.dev.shedDeepest x ∧ t.dev.on F.pwrEvtUp = true
        ∧ t.dev.get F.pwrStatCause = s.dev.shedCause x (s.dev.shedDeepest x)
        ∧ t.dev.get F.pwrStatMonitor = x.monitor.val
        ∧ (s.dev.shedDeepest x = 4 → s.dev.mode ≠ modeBoot →
            t.dev.mode = modeSafehold ∧ t.dev.on F.pwrEvtSafehold = true) ∧ KeepsMemories s t)
    ∧ (∀ (x : PowerSample) (ms : Nat), s.dev.mayLeave x ms = true →
      ∃ t, exec (.shedLevelLeave x ms) s = .next t ∧ t.dev.shedLevel = s.dev.shedLevel - 1 ∧ t.dev.on F.pwrEvtDown = true
        ∧ t.flash = s.flash)

/-- R510, R558, R638, R639, R640, R668, R684: a cold reset brings every register and table word to its reset value and keeps OTP and flash; a
warm reset leads to BOOT and keeps the active map and OTP; the end of either takes the slot and starts the processor; and DEV.RESET
takes its key alone. Readings of the model: notes/assumptions/1, 17, 18. -/
def Obligations.Resets : Prop :=
  ∀ s : State,
    (∃ t, exec .coldReset s = .next t ∧ (∀ a, t.dev.word a = resetWord a) ∧ (∀ b, memByte t.mem b = 0) ∧ t.flash = s.flash
      ∧ t.dev.mgt.otp = s.dev.mgt.otp ∧ t.dev.modes.inReset = .cold ∧ t.dev.activeMap = [] ∧ t.dev.shadowMap = []
      ∧ t.pending = s.pending)
    ∧ (s.dev.modes.inReset = .no → s.dev.port.posted = [] → s.dev.port.timedOut = false →
      ∃ t, exec .warmReset s = .next t ∧ t.dev.modes.inReset = .warm ∧ t.dev.mode = modeBoot
        ∧ t.dev.get F.devResetStatWarmCount = Nat.min (s.dev.get F.devResetStatWarmCount + 1) 65535
        ∧ t.dev.get F.devResetStatLast = (if s.dev.modes.warmRequested then 2 else 1)
        ∧ t.dev.activeMap = s.dev.activeMap ∧ t.dev.on F.grmActValid = s.dev.on F.grmActValid
        ∧ t.dev.mgt.otp = s.dev.mgt.otp ∧ t.dev.on F.devBootctlRemap = false ∧ t.dev.modeReq = 0
        ∧ (∀ n : PortLane, t.dev.get (F.laneTxeqPre.lane n) = s.dev.get (F.laneTxeqPre.lane n)) ∧ t.flash = s.flash)
    ∧ (∀ slotB : Bool, s.dev.modes.inReset = .warm →
      ∃ t, exec (.warmDone slotB) s = .next t ∧ t.dev.modes.inReset = .no ∧ t.dev.on F.mateStatSlot = slotB
        ∧ t.dev.get F.mgtBootStatCause = causeWarm 
        ∧ t.dev.port.readyAt = s.dev.now + 62208)
    ∧ (∀ (slotB : Bool) (failed : List (Fin 65536)), s.dev.modes.inReset = .cold →
      (∃ t, exec (.porstNRise slotB false failed) s = .next t ∧ t.dev.modes.inReset = .no ∧ t.dev.on F.mateStatSlot = slotB
        ∧ t.dev.mgt.testmode = s.dev.mgt.testmode ∧ t.dev.get F.mgtBootStatCause = causeCold
        ∧ t.dev.port.readyAt = s.dev.now + 622080)
      ∧ (∃ t, exec (.porstNRise slotB true failed) s = .next t
        ∧ t = { s with dev := { s.dev with mgt := { s.dev.mgt with testmode := true } } }))
    ∧ (∀ (m : Master) (data : W32), s.mayWrite m.val Reg.devReset →
      (getF data 16 16 = 0x5752 → getF data 0 1 = 1 →
        ∃ t, exec (.devResetWrite m data) s = .next t ∧ Accessed m.val .okay [] s t ∧ t.dev.modes.warmRequested = true)
      ∧ (getF data 16 16 ≠ 0x5752 →
        ∃ t, exec (.devResetWrite m data) s = .next t ∧ AnsweredWords m.val .slverr [] s t))

/-- R286, R317, R462, R627, R638: the state after reset: the registers and maps as the spec gives them, canonical memories, an empty
queue; and no word of the command table spells a command, since its rows have no bits.
Readings of the model: notes/assumptions/1. -/
def Obligations.StateAfterReset : Prop :=
  State.reset.Safe ∧ State.reset.pending = [] ∧ State.reset.dev.words = [] ∧ State.reset.dev.mode = modeBoot
    ∧ State.reset.dev.modeReq = 0 ∧ State.reset.dev.shadow = shInvalid ∧ State.reset.dev.on F.grmActValid = false
    ∧ State.reset.dev.role = roleSolo ∧ State.reset.dev.shedLevel = 0 ∧ State.reset.dev.rootValid = false
    ∧ (∀ n : PortLane, State.reset.dev.on (F.lanePrbsGenEn.lane n) = false)
    ∧ (∀ i, i < mapEntries → Store.get (fun _ => 0) State.reset.dev.shadowMap i = 0)
    ∧ ∀ nbits w : Nat, decodeTableWord nbits w = none
end

