-- ==== Sys2Proof/Laws/Store.lean ====
section
/-! SUPPORT. The laws of sparse tables: what a table holds after an update, and that every update keeps the canonical form. -/

namespace Sys2Proof.Machine

variable {α : Type}

theorem Store.get_drop_same (d : Nat → α) (s : Store α) (k : Nat) : Store.get d (Store.drop s k) k = d k := by
  induction s with
  | nil => rfl
  | cons x t ih =>
    simp only [Store.drop]
    split
    · exact ih
    · next h => simp only [Store.get, if_neg h, ih]

theorem Store.get_drop_other (d : Nat → α) (s : Store α) {k j : Nat} (h : j ≠ k) :
    Store.get d (Store.drop s k) j = Store.get d s j := by
  induction s with
  | nil => rfl
  | cons x t ih =>
    simp only [Store.drop]
    split
    · next e => simp only [Store.get, ih, if_neg (fun c : x.1 = j => h (c ▸ e))]
    · simp only [Store.get, ih]

theorem Store.get_put_same (d : Nat → α) (s : Store α) (k : Nat) (v : α) :
    Store.get d (Store.put (Store.drop s k) k v) k = v := by
  induction s with
  | nil => simp [Store.drop, Store.put, Store.get]
  | cons x t ih =>
    simp only [Store.drop]
    split
    · exact ih
    · next h =>
      simp only [Store.put]
      split
      · simp [Store.get]
      · simp only [Store.get, if_neg h, ih]

theorem Store.get_put_other (d : Nat → α) (s : Store α) {k j : Nat} (v : α) (h : j ≠ k) :
    Store.get d (Store.put s k v) j = Store.get d s j := by
  induction s with
  | nil => simp [Store.put, Store.get, h.symm]
  | cons x t ih =>
    simp only [Store.put]
    split
    · simp [Store.get, h.symm]
    · simp only [Store.get, ih]

/-- Read after write at the same key. -/
@[simp] theorem Store.get_set_same [DecidableEq α] (d : Nat → α) (s : Store α) (k : Nat) (v : α) :
    Store.get d (Store.set d s k v) k = v := by
  unfold Store.set
  split
  · next h => rw [Store.get_drop_same, h]
  · exact Store.get_put_same d s k v

/-- A write leaves every other key alone. -/
theorem Store.get_set_other [DecidableEq α] (d : Nat → α) (s : Store α) {k j : Nat} (v : α) (h : j ≠ k) :
    Store.get d (Store.set d s k v) j = Store.get d s j := by
  unfold Store.set
  split
  · exact Store.get_drop_other d s h
  · rw [Store.get_put_other d _ v h, Store.get_drop_other d s h]

theorem Store.get_set [DecidableEq α] (d : Nat → α) (s : Store α) (k j : Nat) (v : α) :
    Store.get d (Store.set d s k v) j = if j = k then v else Store.get d s j := by
  split
  · next h => rw [h, Store.get_set_same]
  · next h => exact Store.get_set_other d s v h

theorem Store.above_drop (k j : Nat) (s : Store α) (h : Store.above j s = true) : Store.above j (Store.drop s k) = true := by
  induction s with
  | nil => rfl
  | cons x t ih =>
    simp only [Store.above, Bool.and_eq_true] at h
    simp only [Store.drop]
    split
    · exact ih h.2
    · simp only [Store.above, h.1, ih h.2, Bool.and_self]

theorem Store.above_put (k j : Nat) (v : α) (s : Store α) (h : Store.above j s = true) (hk : j < k) :
    Store.above j (Store.put s k v) = true := by
  induction s with
  | nil => simp [Store.put, Store.above, hk]
  | cons x t ih =>
    simp only [Store.put]
    simp only [Store.above, Bool.and_eq_true] at h
    split
    · simp [Store.above, h.2, hk, of_decide_eq_true h.1]
    · simp only [Store.above, h.1, ih h.2, Bool.and_self]

theorem Store.above_keep (j : Nat) (p : Nat → Bool) (s : Store α) (h : Store.above j s = true) :
    Store.above j (Store.keep p s) = true := by
  induction s with
  | nil => rfl
  | cons x t ih =>
    simp only [Store.above, Bool.and_eq_true] at h
    simp only [Store.keep]
    split
    · simp only [Store.above, h.1, ih h.2, Bool.and_self]
    · exact ih h.2

theorem Store.above_mono {j k : Nat} (s : Store α) (h : Store.above k s = true) (hjk : j < k) : Store.above j s = true := by
  induction s with
  | nil => rfl
  | cons x t ih =>
    simp only [Store.above, Bool.and_eq_true, decide_eq_true_eq] at *
    exact ⟨by omega, ih h.2⟩

theorem Store.wf_drop [DecidableEq α] (d : Nat → α) (s : Store α) (k : Nat) (h : Store.wf d s = true) :
    Store.wf d (Store.drop s k) = true := by
  induction s with
  | nil => rfl
  | cons x t ih =>
    simp only [Store.wf, Bool.and_eq_true] at h
    simp only [Store.drop]
    split
    · exact ih h.2
    · simp only [Store.wf, Store.above_drop k x.1 t h.1.1, h.1.2, ih h.2, Bool.and_self]

theorem Store.wf_put [DecidableEq α] (d : Nat → α) (s : Store α) (k : Nat) (v : α) (h : Store.wf d s = true) (hv : v ≠ d k) :
    Store.wf d (Store.put (Store.drop s k) k v) = true := by
  induction s with
  | nil => simp [Store.drop, Store.put, Store.wf, Store.above, hv]
  | cons x t ih =>
    simp only [Store.wf, Bool.and_eq_true] at h
    simp only [Store.drop]
    split
    · exact ih h.2
    · next hne =>
      simp only [Store.put]
      split
      · next hlt =>
        have ha := Store.above_drop k x.1 t h.1.1
        simp only [Store.wf, Store.above, ha, Store.above_mono _ ha hlt, hlt, h.1.2, Store.wf_drop d t k h.2, hv]
        simp
      · simp only [Store.wf, Store.above_put k x.1 v _ (Store.above_drop k x.1 t h.1.1) (by omega), h.1.2, ih h.2,
          Bool.and_self]

/-- A write keeps the canonical form. -/
theorem Store.wf_set [DecidableEq α] (d : Nat → α) (s : Store α) (k : Nat) (v : α) (h : Store.wf d s = true) :
    Store.wf d (Store.set d s k v) = true := by
  unfold Store.set
  split
  · exact Store.wf_drop d s k h
  · next hv => exact Store.wf_put d s k v h hv

/-- Taking keys out keeps the canonical form. -/
theorem Store.wf_keep [DecidableEq α] (d : Nat → α) (p : Nat → Bool) (s : Store α) (h : Store.wf d s = true) :
    Store.wf d (Store.keep p s) = true := by
  induction s with
  | nil => rfl
  | cons x t ih =>
    simp only [Store.wf, Bool.and_eq_true] at h
    simp only [Store.keep]
    split
    · simp only [Store.wf, Store.above_keep x.1 p t h.1.1, h.1.2, ih h.2, Bool.and_self]
    · exact ih h.2

theorem Store.get_keep (d : Nat → α) (p : Nat → Bool) (s : Store α) (k : Nat) :
    Store.get d (Store.keep p s) k = if p k then Store.get d s k else d k := by
  induction s with
  | nil => simp [Store.keep, Store.get]
  | cons x t ih =>
    simp only [Store.keep]
    split
    · next hp =>
      simp only [Store.get, ih]
      split
      · next e => rw [← e, hp]; simp
      · rfl
    · next hp =>
      rw [ih]
      simp only [Store.get]
      by_cases e : x.1 = k
      · subst e; simp [hp]
      · simp [e]

end Sys2Proof.Machine
end

