-- ==== Sys2Proof/Laws/Mem.lean ====
section
/-! SUPPORT. The laws of the byte memories: every operation keeps the canonical form; read after write. -/

namespace Sys2Proof.Machine

theorem memPut_wf (m : List Host.Cell) (a : Nat) (b : Byte) (h : memWf m = true) : memWf (memPut m a b) = true :=
  Store.wf_set memZero m a b h

theorem memByte_memPut (m : List Host.Cell) (a x : Nat) (b : Byte) :
    memByte (memPut m a b) x = if x = a then b else memByte m x := Store.get_set memZero m a x b

theorem memWrite_wf (l : List Byte) (m : List Host.Cell) (a : Nat) (h : memWf m = true) : memWf (memWrite m a l) = true := by
  induction l generalizing m a with
  | nil => exact h
  | cons b t ih => exact ih _ _ (memPut_wf m a b h)

/-- A byte below what was stored. -/
theorem memByte_memWrite_below (l : List Byte) (m : List Host.Cell) (a x : Nat) (h : x < a) :
    memByte (memWrite m a l) x = memByte m x := by
  induction l generalizing m a with
  | nil => rfl
  | cons b t ih => rw [memWrite, ih _ _ (by omega), memByte_memPut, if_neg (by omega)]

/-- A byte above what was stored. -/
theorem memByte_memWrite_above (l : List Byte) (m : List Host.Cell) (a x : Nat) (h : a + l.length ≤ x) :
    memByte (memWrite m a l) x = memByte m x := by
  induction l generalizing m a with
  | nil => rfl
  | cons b t ih =>
    simp only [List.length_cons] at h
    rw [memWrite, ih _ _ (by omega), memByte_memPut, if_neg (by omega)]

/-- A byte that was stored. -/
theorem memByte_memWrite_in (l : List Byte) (m : List Host.Cell) (a i : Nat) (h : i < l.length) :
    memByte (memWrite m a l) (a + i) = l.getD i 0 := by
  induction l generalizing m a i with
  | nil => exact absurd h (by simp)
  | cons b t ih =>
    cases i with
    | zero => rw [memWrite, memByte_memWrite_below _ _ _ _ (by omega), memByte_memPut]; simp
    | succ n =>
      have hn : n < t.length := by simpa using h
      rw [memWrite, show a + (n + 1) = a + 1 + n by omega, ih _ _ _ hn]
      simp

theorem memClear_wf (m : List Host.Cell) (a n : Nat) (h : memWf m = true) : memWf (memClear m a n) = true :=
  Store.wf_keep memZero _ m h

theorem memByte_memClear (m : List Host.Cell) (a n x : Nat) :
    memByte (memClear m a n) x = if a ≤ x ∧ x < a + n then 0 else memByte m x := by
  rw [memByte, memClear, Store.get_keep]
  by_cases h : a ≤ x ∧ x < a + n
  · simp [h, show ¬ x < a by omega, show ¬ a + n ≤ x by omega, memZero]
  · rw [if_neg h]
    have : (decide (x < a) || decide (a + n ≤ x)) = true := by
      simp only [Bool.or_eq_true, decide_eq_true_eq]; omega
    rw [if_pos this]; rfl

theorem memFold_wf (l : List Host.Cell) (g : Host.Cell → Nat) (m : List Host.Cell) (h : memWf m = true) :
    memWf (l.foldl (fun a x => memPut a (g x) x.2) m) = true := by
  induction l generalizing m with
  | nil => exact h
  | cons x t ih => exact ih _ (memPut_wf m _ _ h)

theorem memCopy_wf (m : List Host.Cell) (src dst n : Nat) (h : memWf m = true) : memWf (memCopy m src dst n) = true :=
  memFold_wf _ _ _ (memClear_wf m dst n h)

theorem memWriteWord_wf (m : List Host.Cell) (a : Nat) (w : W32) (h : memWf m = true) : memWf (memWriteWord m a w) = true :=
  memWrite_wf _ m a h

theorem memWriteCount_wf (m : List Host.Cell) (a v : Nat) (h : memWf m = true) : memWf (memWriteCount m a v) = true :=
  memWriteWord_wf _ _ _ (memWriteWord_wf m a _ h)

end Sys2Proof.Machine
end

