-- ==== Sys2Proof/Laws/Words.lean ====
section
/-! SUPPORT. The laws of fields and words: reading a field after a field or a word was written. -/

namespace Sys2Proof.Machine

theorem getF_testBit (w : W32) (lo len i : Nat) : (getF w lo len).testBit i = (decide (i < len) && w.toNat.testBit (lo + i)) := by
  simp [getF, Nat.testBit_mod_two_pow, Nat.testBit_div_two_pow, Nat.add_comm]

theorem getF_lt (w : W32) (lo len : Nat) : getF w lo len < 2 ^ len := Nat.mod_lt _ (Nat.two_pow_pos len)

theorem putF_testBit (w : W32) (lo len v i : Nat) (hi : i < 32) (_ : lo + len ≤ 32) :
    (putF w lo len v).toNat.testBit i =
      if i < lo then w.toNat.testBit i else if i < lo + len then v.testBit (i - lo) else w.toNat.testBit i := by
  have e : w.toNat % 2 ^ lo + v % 2 ^ len * 2 ^ lo + w.toNat / 2 ^ (lo + len) * 2 ^ (lo + len)
      = 2 ^ lo * (2 ^ len * (w.toNat / 2 ^ (lo + len)) + v % 2 ^ len) + w.toNat % 2 ^ lo := by
    rw [Nat.pow_add]; ring
  have hm : w.toNat % 2 ^ lo < 2 ^ lo := Nat.mod_lt _ (Nat.two_pow_pos lo)
  have hv : v % 2 ^ len < 2 ^ len := Nat.mod_lt _ (Nat.two_pow_pos len)
  unfold putF
  rw [BitVec.toNat_ofNat, Nat.testBit_mod_two_pow, e, Nat.testBit_two_pow_mul_add _ hm]
  simp only [hi, decide_true, Bool.true_and]
  split
  · next h1 => simp [Nat.testBit_mod_two_pow, h1]
  · next h1 =>
    rw [Nat.testBit_two_pow_mul_add _ hv]
    split
    · next h2 => simp [Nat.testBit_mod_two_pow, h2, show i < lo + len by omega]
    · next h2 => simp [Nat.testBit_div_two_pow, show ¬ i < lo + len by omega, show i - lo - len + (lo + len) = i by omega]

/-- A field that has just been written. -/
theorem getF_putF_same (w : W32) (lo len v : Nat) (h : lo + len ≤ 32) : getF (putF w lo len v) lo len = v % 2 ^ len := by
  apply Nat.eq_of_testBit_eq
  intro i
  rw [getF_testBit, Nat.testBit_mod_two_pow]
  by_cases hi : i < len
  · rw [putF_testBit w lo len v (lo + i) (by omega) h]
    simp [hi, show ¬ lo + i < lo by omega]
  · simp [hi]

/-- A field apart from the one written. -/
theorem getF_putF_other (w : W32) (lo len v lo' len' : Nat) (h : lo + len ≤ 32) (h' : lo' + len' ≤ 32)
    (hd : lo' + len' ≤ lo ∨ lo + len ≤ lo') : getF (putF w lo len v) lo' len' = getF w lo' len' := by
  apply Nat.eq_of_testBit_eq
  intro i
  rw [getF_testBit, getF_testBit]
  by_cases hi : i < len'
  · rw [putF_testBit w lo len v (lo' + i) (by omega) h]
    rcases hd with hd | hd
    · simp [show lo' + i < lo by omega]
    · simp [show ¬ lo' + i < lo by omega, show ¬ lo' + i < lo + len by omega]
  · simp [hi]

theorem putF_putF_same (w : W32) (lo len u v : Nat) (h : lo + len ≤ 32) : putF (putF w lo len u) lo len v = putF w lo len v := by
  apply BitVec.eq_of_toNat_eq
  apply Nat.eq_of_testBit_eq
  intro i
  by_cases hi : i < 32
  · rw [putF_testBit _ lo len v i hi h, putF_testBit _ lo len v i hi h]
    split
    · next h1 => rw [putF_testBit _ lo len u i hi h, if_pos h1]
    · split
      · rfl
      · next h1 h2 => rw [putF_testBit _ lo len u i hi h, if_neg h1, if_neg h2]
  · rw [Nat.testBit_lt_two_pow (Nat.lt_of_lt_of_le (BitVec.isLt _) (Nat.pow_le_pow_right (by omega) (by omega))),
      Nat.testBit_lt_two_pow (Nat.lt_of_lt_of_le (BitVec.isLt _) (Nat.pow_le_pow_right (by omega) (by omega)))]

theorem Dev.word_setWord (d : Dev) (a b : Nat) (w : W32) : (d.setWord a w).word b = if b = a then w else d.word b :=
  Store.get_set resetWord d.words a b w

@[simp] theorem Dev.word_setWord_same (d : Dev) (a : Nat) (w : W32) : (d.setWord a w).word a = w := by
  simp [Dev.word_setWord]

theorem Dev.word_setWord_other (d : Dev) {a b : Nat} (w : W32) (h : b ≠ a) : (d.setWord a w).word b = d.word b := by
  simp [Dev.word_setWord, h]

theorem Dev.word_put (d : Dev) (f : Field) (v b : Nat) :
    (d.put f v).word b = if b = f.off then putF (d.word f.off) f.lo f.len v else d.word b := Dev.word_setWord d f.off b _

theorem Dev.word_put_other (d : Dev) {f : Field} {b : Nat} (v : Nat) (h : b ≠ f.off) : (d.put f v).word b = d.word b := by
  simp [Dev.word_put, h]

/-- A field that has just been written. -/
theorem Dev.get_put_same (d : Dev) (f : Field) (v : Nat) (h : f.lo + f.len ≤ 32) : (d.put f v).get f = v % 2 ^ f.len := by
  simp [Dev.get, Dev.word_put, getF_putF_same _ _ _ _ h]

/-- A field of another register. -/
theorem Dev.get_put_far (d : Dev) {f g : Field} (v : Nat) (h : g.off ≠ f.off) : (d.put f v).get g = d.get g := by
  simp [Dev.get, Dev.word_put, h]

/-- Another field of the same register. -/
theorem Dev.get_put_near (d : Dev) {f g : Field} (v : Nat) (h : g.off = f.off) (hf : f.lo + f.len ≤ 32) (hg : g.lo + g.len ≤ 32)
    (hd : g.lo + g.len ≤ f.lo ∨ f.lo + f.len ≤ g.lo) : (d.put f v).get g = d.get g := by
  simp [Dev.get, Dev.word_put, h, getF_putF_other _ _ _ _ _ _ hf hg hd]

/-- A field of another register, or another field of the same one. -/
theorem Dev.get_put_apart (d : Dev) {f g : Field} (v : Nat)
    (h : g.off ≠ f.off ∨ (f.lo + f.len ≤ 32 ∧ g.lo + g.len ≤ 32 ∧ (g.lo + g.len ≤ f.lo ∨ f.lo + f.len ≤ g.lo))) :
    (d.put f v).get g = d.get g := by
  by_cases e : g.off = f.off
  · rcases h with h | h
    · exact absurd e h
    · exact d.get_put_near v e h.1 h.2.1 h.2.2
  · exact d.get_put_far v e

theorem Dev.get_setWord_far (d : Dev) {g : Field} {a : Nat} (w : W32) (h : g.off ≠ a) : (d.setWord a w).get g = d.get g := by
  simp [Dev.get, Dev.word_setWord, h]

theorem Dev.get_setWord_same (d : Dev) (g : Field) (w : W32) : (d.setWord g.off w).get g = getF w g.lo g.len := by
  simp [Dev.get]

theorem Dev.get_lt (d : Dev) (f : Field) : d.get f < 2 ^ f.len := getF_lt _ _ _

theorem Dev.on_raise (d : Dev) (f : Field) (h : f.lo + f.len ≤ 32) (h1 : 1 ≤ f.len) : (d.raise f).on f = true := by
  have : 1 < 2 ^ f.len := Nat.one_lt_two_pow (by omega)
  simp [Dev.on, Dev.raise, Dev.get_put_same _ _ _ h, Nat.mod_eq_of_lt this]

theorem Dev.on_lower (d : Dev) (f : Field) (h : f.lo + f.len ≤ 32) : (d.lower f).on f = false := by
  simp [Dev.on, Dev.lower, Dev.get_put_same _ _ _ h]

/-- The byte of a word that has been replaced, and the others. -/
theorem byteOf_putByte_same (w : W32) (i : Nat) (b : Byte) (h : i < 4) : byteOf (putByte w i b) i = b := by
  have e := getF_putF_same w (8 * i) 8 b.toNat (by omega)
  apply BitVec.eq_of_toNat_eq
  simp only [byteOf, putByte, BitVec.toNat_ofNat]
  simp only [getF] at e
  rw [e]
  exact Nat.mod_eq_of_lt b.isLt

theorem byteOf_putByte_other (w : W32) (i j : Nat) (b : Byte) (h : i < 4) (hj : j < 4) (hij : j ≠ i) :
    byteOf (putByte w i b) j = byteOf w j := by
  have e := getF_putF_other w (8 * i) 8 b.toNat (8 * j) 8 (by omega) (by omega) (by omega)
  apply BitVec.eq_of_toNat_eq
  simp only [byteOf, putByte, BitVec.toNat_ofNat]
  simpa only [getF] using e

end Sys2Proof.Machine
end

