-- ==== Sys2Proof/Laws/State.lean ====
section
/-! SUPPORT. What each update of the device leaves alone: one lemma for each field that it does not write, true by definition. -/

namespace Sys2Proof.Machine

variable (d : Dev)

theorem Dev.with_words_now (l : Store W32) : ({ d with words := l } : Dev).now = d.now := rfl
@[simp] theorem Dev.setWord_now (a : Nat) (w : W32) : (d.setWord a w).now = d.now := Dev.with_words_now d _
theorem Dev.with_words_fresh (l : Store W32) : ({ d with words := l } : Dev).fresh = d.fresh := rfl
@[simp] theorem Dev.setWord_fresh (a : Nat) (w : W32) : (d.setWord a w).fresh = d.fresh := Dev.with_words_fresh d _
theorem Dev.with_words_activeMap (l : Store W32) : ({ d with words := l } : Dev).activeMap = d.activeMap := rfl
@[simp] theorem Dev.setWord_activeMap (a : Nat) (w : W32) : (d.setWord a w).activeMap = d.activeMap := Dev.with_words_activeMap d _
theorem Dev.with_words_shadowMap (l : Store W32) : ({ d with words := l } : Dev).shadowMap = d.shadowMap := rfl
@[simp] theorem Dev.setWord_shadowMap (a : Nat) (w : W32) : (d.setWord a w).shadowMap = d.shadowMap := Dev.with_words_shadowMap d _
theorem Dev.with_words_lanes (l : Store W32) : ({ d with words := l } : Dev).lanes = d.lanes := rfl
@[simp] theorem Dev.setWord_lanes (a : Nat) (w : W32) : (d.setWord a w).lanes = d.lanes := Dev.with_words_lanes d _
theorem Dev.with_words_paths (l : Store W32) : ({ d with words := l } : Dev).paths = d.paths := rfl
@[simp] theorem Dev.setWord_paths (a : Nat) (w : W32) : (d.setWord a w).paths = d.paths := Dev.with_words_paths d _
theorem Dev.with_words_restarts (l : Store W32) : ({ d with words := l } : Dev).restarts = d.restarts := rfl
@[simp] theorem Dev.setWord_restarts (a : Nat) (w : W32) : (d.setWord a w).restarts = d.restarts := Dev.with_words_restarts d _
theorem Dev.with_words_structs (l : Store W32) : ({ d with words := l } : Dev).structs = d.structs := rfl
@[simp] theorem Dev.setWord_structs (a : Nat) (w : W32) : (d.setWord a w).structs = d.structs := Dev.with_words_structs d _
theorem Dev.with_words_gfp (l : Store W32) : ({ d with words := l } : Dev).gfp = d.gfp := rfl
@[simp] theorem Dev.setWord_gfp (a : Nat) (w : W32) : (d.setWord a w).gfp = d.gfp := Dev.with_words_gfp d _
theorem Dev.with_words_snaps (l : Store W32) : ({ d with words := l } : Dev).snaps = d.snaps := rfl
@[simp] theorem Dev.setWord_snaps (a : Nat) (w : W32) : (d.setWord a w).snaps = d.snaps := Dev.with_words_snaps d _
theorem Dev.with_words_replies (l : Store W32) : ({ d with words := l } : Dev).replies = d.replies := rfl
@[simp] theorem Dev.setWord_replies (a : Nat) (w : W32) : (d.setWord a w).replies = d.replies := Dev.with_words_replies d _
theorem Dev.with_words_acc (l : Store W32) : ({ d with words := l } : Dev).acc = d.acc := rfl
@[simp] theorem Dev.setWord_acc (a : Nat) (w : W32) : (d.setWord a w).acc = d.acc := Dev.with_words_acc d _
theorem Dev.with_words_accClosed (l : Store W32) : ({ d with words := l } : Dev).accClosed = d.accClosed := rfl
@[simp] theorem Dev.setWord_accClosed (a : Nat) (w : W32) : (d.setWord a w).accClosed = d.accClosed := Dev.with_words_accClosed d _
theorem Dev.with_words_est (l : Store W32) : ({ d with words := l } : Dev).est = d.est := rfl
@[simp] theorem Dev.setWord_est (a : Nat) (w : W32) : (d.setWord a w).est = d.est := Dev.with_words_est d _
theorem Dev.with_words_estAcc (l : Store W32) : ({ d with words := l } : Dev).estAcc = d.estAcc := rfl
@[simp] theorem Dev.setWord_estAcc (a : Nat) (w : W32) : (d.setWord a w).estAcc = d.estAcc := Dev.with_words_estAcc d _
theorem Dev.with_words_ladle (l : Store W32) : ({ d with words := l } : Dev).ladle = d.ladle := rfl
@[simp] theorem Dev.setWord_ladle (a : Nat) (w : W32) : (d.setWord a w).ladle = d.ladle := Dev.with_words_ladle d _
theorem Dev.with_words_bw (l : Store W32) : ({ d with words := l } : Dev).bw = d.bw := rfl
@[simp] theorem Dev.setWord_bw (a : Nat) (w : W32) : (d.setWord a w).bw = d.bw := Dev.with_words_bw d _
theorem Dev.with_words_skw (l : Store W32) : ({ d with words := l } : Dev).skw = d.skw := rfl
@[simp] theorem Dev.setWord_skw (a : Nat) (w : W32) : (d.setWord a w).skw = d.skw := Dev.with_words_skw d _
theorem Dev.with_words_fec (l : Store W32) : ({ d with words := l } : Dev).fec = d.fec := rfl
@[simp] theorem Dev.setWord_fec (a : Nat) (w : W32) : (d.setWord a w).fec = d.fec := Dev.with_words_fec d _
theorem Dev.with_words_psq (l : Store W32) : ({ d with words := l } : Dev).psq = d.psq := rfl
@[simp] theorem Dev.setWord_psq (a : Nat) (w : W32) : (d.setWord a w).psq = d.psq := Dev.with_words_psq d _
theorem Dev.with_words_flows (l : Store W32) : ({ d with words := l } : Dev).flows = d.flows := rfl
@[simp] theorem Dev.setWord_flows (a : Nat) (w : W32) : (d.setWord a w).flows = d.flows := Dev.with_words_flows d _
theorem Dev.with_words_groups (l : Store W32) : ({ d with words := l } : Dev).groups = d.groups := rfl
@[simp] theorem Dev.setWord_groups (a : Nat) (w : W32) : (d.setWord a w).groups = d.groups := Dev.with_words_groups d _
theorem Dev.with_words_members (l : Store W32) : ({ d with words := l } : Dev).members = d.members := rfl
@[simp] theorem Dev.setWord_members (a : Nat) (w : W32) : (d.setWord a w).members = d.members := Dev.with_words_members d _
theorem Dev.with_words_msp (l : Store W32) : ({ d with words := l } : Dev).msp = d.msp := rfl
@[simp] theorem Dev.setWord_msp (a : Nat) (w : W32) : (d.setWord a w).msp = d.msp := Dev.with_words_msp d _
theorem Dev.with_words_snc (l : Store W32) : ({ d with words := l } : Dev).snc = d.snc := rfl
@[simp] theorem Dev.setWord_snc (a : Nat) (w : W32) : (d.setWord a w).snc = d.snc := Dev.with_words_snc d _
theorem Dev.with_words_applies (l : Store W32) : ({ d with words := l } : Dev).applies = d.applies := rfl
@[simp] theorem Dev.setWord_applies (a : Nat) (w : W32) : (d.setWord a w).applies = d.applies := Dev.with_words_applies d _
theorem Dev.with_words_selRestart (l : Store W32) : ({ d with words := l } : Dev).selRestart = d.selRestart := rfl
@[simp] theorem Dev.setWord_selRestart (a : Nat) (w : W32) : (d.setWord a w).selRestart = d.selRestart := Dev.with_words_selRestart d _
theorem Dev.with_words_bridge (l : Store W32) : ({ d with words := l } : Dev).bridge = d.bridge := rfl
@[simp] theorem Dev.setWord_bridge (a : Nat) (w : W32) : (d.setWord a w).bridge = d.bridge := Dev.with_words_bridge d _
theorem Dev.with_words_sram (l : Store W32) : ({ d with words := l } : Dev).sram = d.sram := rfl
@[simp] theorem Dev.setWord_sram (a : Nat) (w : W32) : (d.setWord a w).sram = d.sram := Dev.with_words_sram d _
theorem Dev.with_words_bursts (l : Store W32) : ({ d with words := l } : Dev).bursts = d.bursts := rfl
@[simp] theorem Dev.setWord_bursts (a : Nat) (w : W32) : (d.setWord a w).bursts = d.bursts := Dev.with_words_bursts d _
theorem Dev.with_words_port (l : Store W32) : ({ d with words := l } : Dev).port = d.port := rfl
@[simp] theorem Dev.setWord_port (a : Nat) (w : W32) : (d.setWord a w).port = d.port := Dev.with_words_port d _
theorem Dev.with_words_mgt (l : Store W32) : ({ d with words := l } : Dev).mgt = d.mgt := rfl
@[simp] theorem Dev.setWord_mgt (a : Nat) (w : W32) : (d.setWord a w).mgt = d.mgt := Dev.with_words_mgt d _
theorem Dev.with_words_panel (l : Store W32) : ({ d with words := l } : Dev).panel = d.panel := rfl
@[simp] theorem Dev.setWord_panel (a : Nat) (w : W32) : (d.setWord a w).panel = d.panel := Dev.with_words_panel d _
theorem Dev.with_words_timing (l : Store W32) : ({ d with words := l } : Dev).timing = d.timing := rfl
@[simp] theorem Dev.setWord_timing (a : Nat) (w : W32) : (d.setWord a w).timing = d.timing := Dev.with_words_timing d _
theorem Dev.with_words_modes (l : Store W32) : ({ d with words := l } : Dev).modes = d.modes := rfl
@[simp] theorem Dev.setWord_modes (a : Nat) (w : W32) : (d.setWord a w).modes = d.modes := Dev.with_words_modes d _
theorem Dev.with_words_mate (l : Store W32) : ({ d with words := l } : Dev).mate = d.mate := rfl
@[simp] theorem Dev.setWord_mate (a : Nat) (w : W32) : (d.setWord a w).mate = d.mate := Dev.with_words_mate d _
theorem Dev.with_words_grm (l : Store W32) : ({ d with words := l } : Dev).grm = d.grm := rfl
@[simp] theorem Dev.setWord_grm (a : Nat) (w : W32) : (d.setWord a w).grm = d.grm := Dev.with_words_grm d _
theorem Dev.with_words_inFill (l : Store W32) : ({ d with words := l } : Dev).inFill = d.inFill := rfl
@[simp] theorem Dev.setWord_inFill (a : Nat) (w : W32) : (d.setWord a w).inFill = d.inFill := Dev.with_words_inFill d _
theorem Dev.with_words_made (l : Store W32) : ({ d with words := l } : Dev).made = d.made := rfl
@[simp] theorem Dev.setWord_made (a : Nat) (w : W32) : (d.setWord a w).made = d.made := Dev.with_words_made d _
theorem Dev.with_words_egress (l : Store W32) : ({ d with words := l } : Dev).egress = d.egress := rfl
@[simp] theorem Dev.setWord_egress (a : Nat) (w : W32) : (d.setWord a w).egress = d.egress := Dev.with_words_egress d _
theorem Dev.with_words_inMove (l : Store W32) : ({ d with words := l } : Dev).inMove = d.inMove := rfl
@[simp] theorem Dev.setWord_inMove (a : Nat) (w : W32) : (d.setWord a w).inMove = d.inMove := Dev.with_words_inMove d _
theorem Dev.with_words_egFill (l : Store W32) : ({ d with words := l } : Dev).egFill = d.egFill := rfl
@[simp] theorem Dev.setWord_egFill (a : Nat) (w : W32) : (d.setWord a w).egFill = d.egFill := Dev.with_words_egFill d _
theorem Dev.with_words_egRead (l : Store W32) : ({ d with words := l } : Dev).egRead = d.egRead := rfl
@[simp] theorem Dev.setWord_egRead (a : Nat) (w : W32) : (d.setWord a w).egRead = d.egRead := Dev.with_words_egRead d _

@[simp] theorem Dev.put_now (f : Field) (v : Nat) : (d.put f v).now = d.now := Dev.setWord_now d _ _
@[simp] theorem Dev.put_fresh (f : Field) (v : Nat) : (d.put f v).fresh = d.fresh := Dev.setWord_fresh d _ _
@[simp] theorem Dev.put_activeMap (f : Field) (v : Nat) : (d.put f v).activeMap = d.activeMap := Dev.setWord_activeMap d _ _
@[simp] theorem Dev.put_shadowMap (f : Field) (v : Nat) : (d.put f v).shadowMap = d.shadowMap := Dev.setWord_shadowMap d _ _
@[simp] theorem Dev.put_lanes (f : Field) (v : Nat) : (d.put f v).lanes = d.lanes := Dev.setWord_lanes d _ _
@[simp] theorem Dev.put_paths (f : Field) (v : Nat) : (d.put f v).paths = d.paths := Dev.setWord_paths d _ _
@[simp] theorem Dev.put_restarts (f : Field) (v : Nat) : (d.put f v).restarts = d.restarts := Dev.setWord_restarts d _ _
@[simp] theorem Dev.put_structs (f : Field) (v : Nat) : (d.put f v).structs = d.structs := Dev.setWord_structs d _ _
@[simp] theorem Dev.put_gfp (f : Field) (v : Nat) : (d.put f v).gfp = d.gfp := Dev.setWord_gfp d _ _
@[simp] theorem Dev.put_snaps (f : Field) (v : Nat) : (d.put f v).snaps = d.snaps := Dev.setWord_snaps d _ _
@[simp] theorem Dev.put_replies (f : Field) (v : Nat) : (d.put f v).replies = d.replies := Dev.setWord_replies d _ _
@[simp] theorem Dev.put_acc (f : Field) (v : Nat) : (d.put f v).acc = d.acc := Dev.setWord_acc d _ _
@[simp] theorem Dev.put_accClosed (f : Field) (v : Nat) : (d.put f v).accClosed = d.accClosed := Dev.setWord_accClosed d _ _
@[simp] theorem Dev.put_est (f : Field) (v : Nat) : (d.put f v).est = d.est := Dev.setWord_est d _ _
@[simp] theorem Dev.put_estAcc (f : Field) (v : Nat) : (d.put f v).estAcc = d.estAcc := Dev.setWord_estAcc d _ _
@[simp] theorem Dev.put_ladle (f : Field) (v : Nat) : (d.put f v).ladle = d.ladle := Dev.setWord_ladle d _ _
@[simp] theorem Dev.put_bw (f : Field) (v : Nat) : (d.put f v).bw = d.bw := Dev.setWord_bw d _ _
@[simp] theorem Dev.put_skw (f : Field) (v : Nat) : (d.put f v).skw = d.skw := Dev.setWord_skw d _ _
@[simp] theorem Dev.put_fec (f : Field) (v : Nat) : (d.put f v).fec = d.fec := Dev.setWord_fec d _ _
@[simp] theorem Dev.put_psq (f : Field) (v : Nat) : (d.put f v).psq = d.psq := Dev.setWord_psq d _ _
@[simp] theorem Dev.put_flows (f : Field) (v : Nat) : (d.put f v).flows = d.flows := Dev.setWord_flows d _ _
@[simp] theorem Dev.put_groups (f : Field) (v : Nat) : (d.put f v).groups = d.groups := Dev.setWord_groups d _ _
@[simp] theorem Dev.put_members (f : Field) (v : Nat) : (d.put f v).members = d.members := Dev.setWord_members d _ _
@[simp] theorem Dev.put_msp (f : Field) (v : Nat) : (d.put f v).msp = d.msp := Dev.setWord_msp d _ _
@[simp] theorem Dev.put_snc (f : Field) (v : Nat) : (d.put f v).snc = d.snc := Dev.setWord_snc d _ _
@[simp] theorem Dev.put_applies (f : Field) (v : Nat) : (d.put f v).applies = d.applies := Dev.setWord_applies d _ _
@[simp] theorem Dev.put_selRestart (f : Field) (v : Nat) : (d.put f v).selRestart = d.selRestart := Dev.setWord_selRestart d _ _
@[simp] theorem Dev.put_bridge (f : Field) (v : Nat) : (d.put f v).bridge = d.bridge := Dev.setWord_bridge d _ _
@[simp] theorem Dev.put_sram (f : Field) (v : Nat) : (d.put f v).sram = d.sram := Dev.setWord_sram d _ _
@[simp] theorem Dev.put_bursts (f : Field) (v : Nat) : (d.put f v).bursts = d.bursts := Dev.setWord_bursts d _ _
@[simp] theorem Dev.put_port (f : Field) (v : Nat) : (d.put f v).port = d.port := Dev.setWord_port d _ _
@[simp] theorem Dev.put_mgt (f : Field) (v : Nat) : (d.put f v).mgt = d.mgt := Dev.setWord_mgt d _ _
@[simp] theorem Dev.put_panel (f : Field) (v : Nat) : (d.put f v).panel = d.panel := Dev.setWord_panel d _ _
@[simp] theorem Dev.put_timing (f : Field) (v : Nat) : (d.put f v).timing = d.timing := Dev.setWord_timing d _ _
@[simp] theorem Dev.put_modes (f : Field) (v : Nat) : (d.put f v).modes = d.modes := Dev.setWord_modes d _ _
@[simp] theorem Dev.put_mate (f : Field) (v : Nat) : (d.put f v).mate = d.mate := Dev.setWord_mate d _ _
@[simp] theorem Dev.put_grm (f : Field) (v : Nat) : (d.put f v).grm = d.grm := Dev.setWord_grm d _ _
@[simp] theorem Dev.put_inFill (f : Field) (v : Nat) : (d.put f v).inFill = d.inFill := Dev.setWord_inFill d _ _
@[simp] theorem Dev.put_made (f : Field) (v : Nat) : (d.put f v).made = d.made := Dev.setWord_made d _ _
@[simp] theorem Dev.put_egress (f : Field) (v : Nat) : (d.put f v).egress = d.egress := Dev.setWord_egress d _ _
@[simp] theorem Dev.put_inMove (f : Field) (v : Nat) : (d.put f v).inMove = d.inMove := Dev.setWord_inMove d _ _
@[simp] theorem Dev.put_egFill (f : Field) (v : Nat) : (d.put f v).egFill = d.egFill := Dev.setWord_egFill d _ _
@[simp] theorem Dev.put_egRead (f : Field) (v : Nat) : (d.put f v).egRead = d.egRead := Dev.setWord_egRead d _ _

@[simp] theorem Dev.raise_now (f : Field) : (d.raise f).now = d.now := Dev.put_now d _ _
@[simp] theorem Dev.raise_fresh (f : Field) : (d.raise f).fresh = d.fresh := Dev.put_fresh d _ _
@[simp] theorem Dev.raise_activeMap (f : Field) : (d.raise f).activeMap = d.activeMap := Dev.put_activeMap d _ _
@[simp] theorem Dev.raise_shadowMap (f : Field) : (d.raise f).shadowMap = d.shadowMap := Dev.put_shadowMap d _ _
@[simp] theorem Dev.raise_lanes (f : Field) : (d.raise f).lanes = d.lanes := Dev.put_lanes d _ _
@[simp] theorem Dev.raise_paths (f : Field) : (d.raise f).paths = d.paths := Dev.put_paths d _ _
@[simp] theorem Dev.raise_restarts (f : Field) : (d.raise f).restarts = d.restarts := Dev.put_restarts d _ _
@[simp] theorem Dev.raise_structs (f : Field) : (d.raise f).structs = d.structs := Dev.put_structs d _ _
@[simp] theorem Dev.raise_gfp (f : Field) : (d.raise f).gfp = d.gfp := Dev.put_gfp d _ _
@[simp] theorem Dev.raise_snaps (f : Field) : (d.raise f).snaps = d.snaps := Dev.put_snaps d _ _
@[simp] theorem Dev.raise_replies (f : Field) : (d.raise f).replies = d.replies := Dev.put_replies d _ _
@[simp] theorem Dev.raise_acc (f : Field) : (d.raise f).acc = d.acc := Dev.put_acc d _ _
@[simp] theorem Dev.raise_accClosed (f : Field) : (d.raise f).accClosed = d.accClosed := Dev.put_accClosed d _ _
@[simp] theorem Dev.raise_est (f : Field) : (d.raise f).est = d.est := Dev.put_est d _ _
@[simp] theorem Dev.raise_estAcc (f : Field) : (d.raise f).estAcc = d.estAcc := Dev.put_estAcc d _ _
@[simp] theorem Dev.raise_ladle (f : Field) : (d.raise f).ladle = d.ladle := Dev.put_ladle d _ _
@[simp] theorem Dev.raise_bw (f : Field) : (d.raise f).bw = d.bw := Dev.put_bw d _ _
@[simp] theorem Dev.raise_skw (f : Field) : (d.raise f).skw = d.skw := Dev.put_skw d _ _
@[simp] theorem Dev.raise_fec (f : Field) : (d.raise f).fec = d.fec := Dev.put_fec d _ _
@[simp] theorem Dev.raise_psq (f : Field) : (d.raise f).psq = d.psq := Dev.put_psq d _ _
@[simp] theorem Dev.raise_flows (f : Field) : (d.raise f).flows = d.flows := Dev.put_flows d _ _
@[simp] theorem Dev.raise_groups (f : Field) : (d.raise f).groups = d.groups := Dev.put_groups d _ _
@[simp] theorem Dev.raise_members (f : Field) : (d.raise f).members = d.members := Dev.put_members d _ _
@[simp] theorem Dev.raise_msp (f : Field) : (d.raise f).msp = d.msp := Dev.put_msp d _ _
@[simp] theorem Dev.raise_snc (f : Field) : (d.raise f).snc = d.snc := Dev.put_snc d _ _
@[simp] theorem Dev.raise_applies (f : Field) : (d.raise f).applies = d.applies := Dev.put_applies d _ _
@[simp] theorem Dev.raise_selRestart (f : Field) : (d.raise f).selRestart = d.selRestart := Dev.put_selRestart d _ _
@[simp] theorem Dev.raise_bridge (f : Field) : (d.raise f).bridge = d.bridge := Dev.put_bridge d _ _
@[simp] theorem Dev.raise_sram (f : Field) : (d.raise f).sram = d.sram := Dev.put_sram d _ _
@[simp] theorem Dev.raise_bursts (f : Field) : (d.raise f).bursts = d.bursts := Dev.put_bursts d _ _
@[simp] theorem Dev.raise_port (f : Field) : (d.raise f).port = d.port := Dev.put_port d _ _
@[simp] theorem Dev.raise_mgt (f : Field) : (d.raise f).mgt = d.mgt := Dev.put_mgt d _ _
@[simp] theorem Dev.raise_panel (f : Field) : (d.raise f).panel = d.panel := Dev.put_panel d _ _
@[simp] theorem Dev.raise_timing (f : Field) : (d.raise f).timing = d.timing := Dev.put_timing d _ _
@[simp] theorem Dev.raise_modes (f : Field) : (d.raise f).modes = d.modes := Dev.put_modes d _ _
@[simp] theorem Dev.raise_mate (f : Field) : (d.raise f).mate = d.mate := Dev.put_mate d _ _
@[simp] theorem Dev.raise_grm (f : Field) : (d.raise f).grm = d.grm := Dev.put_grm d _ _
@[simp] theorem Dev.raise_inFill (f : Field) : (d.raise f).inFill = d.inFill := Dev.put_inFill d _ _
@[simp] theorem Dev.raise_made (f : Field) : (d.raise f).made = d.made := Dev.put_made d _ _
@[simp] theorem Dev.raise_egress (f : Field) : (d.raise f).egress = d.egress := Dev.put_egress d _ _
@[simp] theorem Dev.raise_inMove (f : Field) : (d.raise f).inMove = d.inMove := Dev.put_inMove d _ _
@[simp] theorem Dev.raise_egFill (f : Field) : (d.raise f).egFill = d.egFill := Dev.put_egFill d _ _
@[simp] theorem Dev.raise_egRead (f : Field) : (d.raise f).egRead = d.egRead := Dev.put_egRead d _ _

@[simp] theorem Dev.lower_now (f : Field) : (d.lower f).now = d.now := Dev.put_now d _ _
@[simp] theorem Dev.lower_fresh (f : Field) : (d.lower f).fresh = d.fresh := Dev.put_fresh d _ _
@[simp] theorem Dev.lower_activeMap (f : Field) : (d.lower f).activeMap = d.activeMap := Dev.put_activeMap d _ _
@[simp] theorem Dev.lower_shadowMap (f : Field) : (d.lower f).shadowMap = d.shadowMap := Dev.put_shadowMap d _ _
@[simp] theorem Dev.lower_lanes (f : Field) : (d.lower f).lanes = d.lanes := Dev.put_lanes d _ _
@[simp] theorem Dev.lower_paths (f : Field) : (d.lower f).paths = d.paths := Dev.put_paths d _ _
@[simp] theorem Dev.lower_restarts (f : Field) : (d.lower f).restarts = d.restarts := Dev.put_restarts d _ _
@[simp] theorem Dev.lower_structs (f : Field) : (d.lower f).structs = d.structs := Dev.put_structs d _ _
@[simp] theorem Dev.lower_gfp (f : Field) : (d.lower f).gfp = d.gfp := Dev.put_gfp d _ _
@[simp] theorem Dev.lower_snaps (f : Field) : (d.lower f).snaps = d.snaps := Dev.put_snaps d _ _
@[simp] theorem Dev.lower_replies (f : Field) : (d.lower f).replies = d.replies := Dev.put_replies d _ _
@[simp] theorem Dev.lower_acc (f : Field) : (d.lower f).acc = d.acc := Dev.put_acc d _ _
@[simp] theorem Dev.lower_accClosed (f : Field) : (d.lower f).accClosed = d.accClosed := Dev.put_accClosed d _ _
@[simp] theorem Dev.lower_est (f : Field) : (d.lower f).est = d.est := Dev.put_est d _ _
@[simp] theorem Dev.lower_estAcc (f : Field) : (d.lower f).estAcc = d.estAcc := Dev.put_estAcc d _ _
@[simp] theorem Dev.lower_ladle (f : Field) : (d.lower f).ladle = d.ladle := Dev.put_ladle d _ _
@[simp] theorem Dev.lower_bw (f : Field) : (d.lower f).bw = d.bw := Dev.put_bw d _ _
@[simp] theorem Dev.lower_skw (f : Field) : (d.lower f).skw = d.skw := Dev.put_skw d _ _
@[simp] theorem Dev.lower_fec (f : Field) : (d.lower f).fec = d.fec := Dev.put_fec d _ _
@[simp] theorem Dev.lower_psq (f : Field) : (d.lower f).psq = d.psq := Dev.put_psq d _ _
@[simp] theorem Dev.lower_flows (f : Field) : (d.lower f).flows = d.flows := Dev.put_flows d _ _
@[simp] theorem Dev.lower_groups (f : Field) : (d.lower f).groups = d.groups := Dev.put_groups d _ _
@[simp] theorem Dev.lower_members (f : Field) : (d.lower f).members = d.members := Dev.put_members d _ _
@[simp] theorem Dev.lower_msp (f : Field) : (d.lower f).msp = d.msp := Dev.put_msp d _ _
@[simp] theorem Dev.lower_snc (f : Field) : (d.lower f).snc = d.snc := Dev.put_snc d _ _
@[simp] theorem Dev.lower_applies (f : Field) : (d.lower f).applies = d.applies := Dev.put_applies d _ _
@[simp] theorem Dev.lower_selRestart (f : Field) : (d.lower f).selRestart = d.selRestart := Dev.put_selRestart d _ _
@[simp] theorem Dev.lower_bridge (f : Field) : (d.lower f).bridge = d.bridge := Dev.put_bridge d _ _
@[simp] theorem Dev.lower_sram (f : Field) : (d.lower f).sram = d.sram := Dev.put_sram d _ _
@[simp] theorem Dev.lower_bursts (f : Field) : (d.lower f).bursts = d.bursts := Dev.put_bursts d _ _
@[simp] theorem Dev.lower_port (f : Field) : (d.lower f).port = d.port := Dev.put_port d _ _
@[simp] theorem Dev.lower_mgt (f : Field) : (d.lower f).mgt = d.mgt := Dev.put_mgt d _ _
@[simp] theorem Dev.lower_panel (f : Field) : (d.lower f).panel = d.panel := Dev.put_panel d _ _
@[simp] theorem Dev.lower_timing (f : Field) : (d.lower f).timing = d.timing := Dev.put_timing d _ _
@[simp] theorem Dev.lower_modes (f : Field) : (d.lower f).modes = d.modes := Dev.put_modes d _ _
@[simp] theorem Dev.lower_mate (f : Field) : (d.lower f).mate = d.mate := Dev.put_mate d _ _
@[simp] theorem Dev.lower_grm (f : Field) : (d.lower f).grm = d.grm := Dev.put_grm d _ _
@[simp] theorem Dev.lower_inFill (f : Field) : (d.lower f).inFill = d.inFill := Dev.put_inFill d _ _
@[simp] theorem Dev.lower_made (f : Field) : (d.lower f).made = d.made := Dev.put_made d _ _
@[simp] theorem Dev.lower_egress (f : Field) : (d.lower f).egress = d.egress := Dev.put_egress d _ _
@[simp] theorem Dev.lower_inMove (f : Field) : (d.lower f).inMove = d.inMove := Dev.put_inMove d _ _
@[simp] theorem Dev.lower_egFill (f : Field) : (d.lower f).egFill = d.egFill := Dev.put_egFill d _ _
@[simp] theorem Dev.lower_egRead (f : Field) : (d.lower f).egRead = d.egRead := Dev.put_egRead d _ _

@[simp] theorem Dev.bump_now (f : Field) (n : Nat) : (d.bump f n).now = d.now := Dev.put_now d _ _
@[simp] theorem Dev.bump_fresh (f : Field) (n : Nat) : (d.bump f n).fresh = d.fresh := Dev.put_fresh d _ _
@[simp] theorem Dev.bump_activeMap (f : Field) (n : Nat) : (d.bump f n).activeMap = d.activeMap := Dev.put_activeMap d _ _
@[simp] theorem Dev.bump_shadowMap (f : Field) (n : Nat) : (d.bump f n).shadowMap = d.shadowMap := Dev.put_shadowMap d _ _
@[simp] theorem Dev.bump_lanes (f : Field) (n : Nat) : (d.bump f n).lanes = d.lanes := Dev.put_lanes d _ _
@[simp] theorem Dev.bump_paths (f : Field) (n : Nat) : (d.bump f n).paths = d.paths := Dev.put_paths d _ _
@[simp] theorem Dev.bump_restarts (f : Field) (n : Nat) : (d.bump f n).restarts = d.restarts := Dev.put_restarts d _ _
@[simp] theorem Dev.bump_structs (f : Field) (n : Nat) : (d.bump f n).structs = d.structs := Dev.put_structs d _ _
@[simp] theorem Dev.bump_gfp (f : Field) (n : Nat) : (d.bump f n).gfp = d.gfp := Dev.put_gfp d _ _
@[simp] theorem Dev.bump_snaps (f : Field) (n : Nat) : (d.bump f n).snaps = d.snaps := Dev.put_snaps d _ _
@[simp] theorem Dev.bump_replies (f : Field) (n : Nat) : (d.bump f n).replies = d.replies := Dev.put_replies d _ _
@[simp] theorem Dev.bump_acc (f : Field) (n : Nat) : (d.bump f n).acc = d.acc := Dev.put_acc d _ _
@[simp] theorem Dev.bump_accClosed (f : Field) (n : Nat) : (d.bump f n).accClosed = d.accClosed := Dev.put_accClosed d _ _
@[simp] theorem Dev.bump_est (f : Field) (n : Nat) : (d.bump f n).est = d.est := Dev.put_est d _ _
@[simp] theorem Dev.bump_estAcc (f : Field) (n : Nat) : (d.bump f n).estAcc = d.estAcc := Dev.put_estAcc d _ _
@[simp] theorem Dev.bump_ladle (f : Field) (n : Nat) : (d.bump f n).ladle = d.ladle := Dev.put_ladle d _ _
@[simp] theorem Dev.bump_bw (f : Field) (n : Nat) : (d.bump f n).bw = d.bw := Dev.put_bw d _ _
@[simp] theorem Dev.bump_skw (f : Field) (n : Nat) : (d.bump f n).skw = d.skw := Dev.put_skw d _ _
@[simp] theorem Dev.bump_fec (f : Field) (n : Nat) : (d.bump f n).fec = d.fec := Dev.put_fec d _ _
@[simp] theorem Dev.bump_psq (f : Field) (n : Nat) : (d.bump f n).psq = d.psq := Dev.put_psq d _ _
@[simp] theorem Dev.bump_flows (f : Field) (n : Nat) : (d.bump f n).flows = d.flows := Dev.put_flows d _ _
@[simp] theorem Dev.bump_groups (f : Field) (n : Nat) : (d.bump f n).groups = d.groups := Dev.put_groups d _ _
@[simp] theorem Dev.bump_members (f : Field) (n : Nat) : (d.bump f n).members = d.members := Dev.put_members d _ _
@[simp] theorem Dev.bump_msp (f : Field) (n : Nat) : (d.bump f n).msp = d.msp := Dev.put_msp d _ _
@[simp] theorem Dev.bump_snc (f : Field) (n : Nat) : (d.bump f n).snc = d.snc := Dev.put_snc d _ _
@[simp] theorem Dev.bump_applies (f : Field) (n : Nat) : (d.bump f n).applies = d.applies := Dev.put_applies d _ _
@[simp] theorem Dev.bump_selRestart (f : Field) (n : Nat) : (d.bump f n).selRestart = d.selRestart := Dev.put_selRestart d _ _
@[simp] theorem Dev.bump_bridge (f : Field) (n : Nat) : (d.bump f n).bridge = d.bridge := Dev.put_bridge d _ _
@[simp] theorem Dev.bump_sram (f : Field) (n : Nat) : (d.bump f n).sram = d.sram := Dev.put_sram d _ _
@[simp] theorem Dev.bump_bursts (f : Field) (n : Nat) : (d.bump f n).bursts = d.bursts := Dev.put_bursts d _ _
@[simp] theorem Dev.bump_port (f : Field) (n : Nat) : (d.bump f n).port = d.port := Dev.put_port d _ _
@[simp] theorem Dev.bump_mgt (f : Field) (n : Nat) : (d.bump f n).mgt = d.mgt := Dev.put_mgt d _ _
@[simp] theorem Dev.bump_panel (f : Field) (n : Nat) : (d.bump f n).panel = d.panel := Dev.put_panel d _ _
@[simp] theorem Dev.bump_timing (f : Field) (n : Nat) : (d.bump f n).timing = d.timing := Dev.put_timing d _ _
@[simp] theorem Dev.bump_modes (f : Field) (n : Nat) : (d.bump f n).modes = d.modes := Dev.put_modes d _ _
@[simp] theorem Dev.bump_mate (f : Field) (n : Nat) : (d.bump f n).mate = d.mate := Dev.put_mate d _ _
@[simp] theorem Dev.bump_grm (f : Field) (n : Nat) : (d.bump f n).grm = d.grm := Dev.put_grm d _ _
@[simp] theorem Dev.bump_inFill (f : Field) (n : Nat) : (d.bump f n).inFill = d.inFill := Dev.put_inFill d _ _
@[simp] theorem Dev.bump_made (f : Field) (n : Nat) : (d.bump f n).made = d.made := Dev.put_made d _ _
@[simp] theorem Dev.bump_egress (f : Field) (n : Nat) : (d.bump f n).egress = d.egress := Dev.put_egress d _ _
@[simp] theorem Dev.bump_inMove (f : Field) (n : Nat) : (d.bump f n).inMove = d.inMove := Dev.put_inMove d _ _
@[simp] theorem Dev.bump_egFill (f : Field) (n : Nat) : (d.bump f n).egFill = d.egFill := Dev.put_egFill d _ _
@[simp] theorem Dev.bump_egRead (f : Field) (n : Nat) : (d.bump f n).egRead = d.egRead := Dev.put_egRead d _ _

@[simp] theorem Dev.roll_now (f : Field) (n : Nat) : (d.roll f n).now = d.now := Dev.put_now d _ _
@[simp] theorem Dev.roll_fresh (f : Field) (n : Nat) : (d.roll f n).fresh = d.fresh := Dev.put_fresh d _ _
@[simp] theorem Dev.roll_activeMap (f : Field) (n : Nat) : (d.roll f n).activeMap = d.activeMap := Dev.put_activeMap d _ _
@[simp] theorem Dev.roll_shadowMap (f : Field) (n : Nat) : (d.roll f n).shadowMap = d.shadowMap := Dev.put_shadowMap d _ _
@[simp] theorem Dev.roll_lanes (f : Field) (n : Nat) : (d.roll f n).lanes = d.lanes := Dev.put_lanes d _ _
@[simp] theorem Dev.roll_paths (f : Field) (n : Nat) : (d.roll f n).paths = d.paths := Dev.put_paths d _ _
@[simp] theorem Dev.roll_restarts (f : Field) (n : Nat) : (d.roll f n).restarts = d.restarts := Dev.put_restarts d _ _
@[simp] theorem Dev.roll_structs (f : Field) (n : Nat) : (d.roll f n).structs = d.structs := Dev.put_structs d _ _
@[simp] theorem Dev.roll_gfp (f : Field) (n : Nat) : (d.roll f n).gfp = d.gfp := Dev.put_gfp d _ _
@[simp] theorem Dev.roll_snaps (f : Field) (n : Nat) : (d.roll f n).snaps = d.snaps := Dev.put_snaps d _ _
@[simp] theorem Dev.roll_replies (f : Field) (n : Nat) : (d.roll f n).replies = d.replies := Dev.put_replies d _ _
@[simp] theorem Dev.roll_acc (f : Field) (n : Nat) : (d.roll f n).acc = d.acc := Dev.put_acc d _ _
@[simp] theorem Dev.roll_accClosed (f : Field) (n : Nat) : (d.roll f n).accClosed = d.accClosed := Dev.put_accClosed d _ _
@[simp] theorem Dev.roll_est (f : Field) (n : Nat) : (d.roll f n).est = d.est := Dev.put_est d _ _
@[simp] theorem Dev.roll_estAcc (f : Field) (n : Nat) : (d.roll f n).estAcc = d.estAcc := Dev.put_estAcc d _ _
@[simp] theorem Dev.roll_ladle (f : Field) (n : Nat) : (d.roll f n).ladle = d.ladle := Dev.put_ladle d _ _
@[simp] theorem Dev.roll_bw (f : Field) (n : Nat) : (d.roll f n).bw = d.bw := Dev.put_bw d _ _
@[simp] theorem Dev.roll_skw (f : Field) (n : Nat) : (d.roll f n).skw = d.skw := Dev.put_skw d _ _
@[simp] theorem Dev.roll_fec (f : Field) (n : Nat) : (d.roll f n).fec = d.fec := Dev.put_fec d _ _
@[simp] theorem Dev.roll_psq (f : Field) (n : Nat) : (d.roll f n).psq = d.psq := Dev.put_psq d _ _
@[simp] theorem Dev.roll_flows (f : Field) (n : Nat) : (d.roll f n).flows = d.flows := Dev.put_flows d _ _
@[simp] theorem Dev.roll_groups (f : Field) (n : Nat) : (d.roll f n).groups = d.groups := Dev.put_groups d _ _
@[simp] theorem Dev.roll_members (f : Field) (n : Nat) : (d.roll f n).members = d.members := Dev.put_members d _ _
@[simp] theorem Dev.roll_msp (f : Field) (n : Nat) : (d.roll f n).msp = d.msp := Dev.put_msp d _ _
@[simp] theorem Dev.roll_snc (f : Field) (n : Nat) : (d.roll f n).snc = d.snc := Dev.put_snc d _ _
@[simp] theorem Dev.roll_applies (f : Field) (n : Nat) : (d.roll f n).applies = d.applies := Dev.put_applies d _ _
@[simp] theorem Dev.roll_selRestart (f : Field) (n : Nat) : (d.roll f n).selRestart = d.selRestart := Dev.put_selRestart d _ _
@[simp] theorem Dev.roll_bridge (f : Field) (n : Nat) : (d.roll f n).bridge = d.bridge := Dev.put_bridge d _ _
@[simp] theorem Dev.roll_sram (f : Field) (n : Nat) : (d.roll f n).sram = d.sram := Dev.put_sram d _ _
@[simp] theorem Dev.roll_bursts (f : Field) (n : Nat) : (d.roll f n).bursts = d.bursts := Dev.put_bursts d _ _
@[simp] theorem Dev.roll_port (f : Field) (n : Nat) : (d.roll f n).port = d.port := Dev.put_port d _ _
@[simp] theorem Dev.roll_mgt (f : Field) (n : Nat) : (d.roll f n).mgt = d.mgt := Dev.put_mgt d _ _
@[simp] theorem Dev.roll_panel (f : Field) (n : Nat) : (d.roll f n).panel = d.panel := Dev.put_panel d _ _
@[simp] theorem Dev.roll_timing (f : Field) (n : Nat) : (d.roll f n).timing = d.timing := Dev.put_timing d _ _
@[simp] theorem Dev.roll_modes (f : Field) (n : Nat) : (d.roll f n).modes = d.modes := Dev.put_modes d _ _
@[simp] theorem Dev.roll_mate (f : Field) (n : Nat) : (d.roll f n).mate = d.mate := Dev.put_mate d _ _
@[simp] theorem Dev.roll_grm (f : Field) (n : Nat) : (d.roll f n).grm = d.grm := Dev.put_grm d _ _
@[simp] theorem Dev.roll_inFill (f : Field) (n : Nat) : (d.roll f n).inFill = d.inFill := Dev.put_inFill d _ _
@[simp] theorem Dev.roll_made (f : Field) (n : Nat) : (d.roll f n).made = d.made := Dev.put_made d _ _
@[simp] theorem Dev.roll_egress (f : Field) (n : Nat) : (d.roll f n).egress = d.egress := Dev.put_egress d _ _
@[simp] theorem Dev.roll_inMove (f : Field) (n : Nat) : (d.roll f n).inMove = d.inMove := Dev.put_inMove d _ _
@[simp] theorem Dev.roll_egFill (f : Field) (n : Nat) : (d.roll f n).egFill = d.egFill := Dev.put_egFill d _ _
@[simp] theorem Dev.roll_egRead (f : Field) (n : Nat) : (d.roll f n).egRead = d.egRead := Dev.put_egRead d _ _

theorem Dev.with_lanes_now (l : Store LaneSt) : ({ d with lanes := l } : Dev).now = d.now := rfl
@[simp] theorem Dev.setLane_now (n : Nat) (l : LaneSt) : (d.setLane n l).now = d.now := Dev.with_lanes_now d _
theorem Dev.with_lanes_fresh (l : Store LaneSt) : ({ d with lanes := l } : Dev).fresh = d.fresh := rfl
@[simp] theorem Dev.setLane_fresh (n : Nat) (l : LaneSt) : (d.setLane n l).fresh = d.fresh := Dev.with_lanes_fresh d _
theorem Dev.with_lanes_words (l : Store LaneSt) : ({ d with lanes := l } : Dev).words = d.words := rfl
@[simp] theorem Dev.setLane_words (n : Nat) (l : LaneSt) : (d.setLane n l).words = d.words := Dev.with_lanes_words d _
theorem Dev.with_lanes_activeMap (l : Store LaneSt) : ({ d with lanes := l } : Dev).activeMap = d.activeMap := rfl
@[simp] theorem Dev.setLane_activeMap (n : Nat) (l : LaneSt) : (d.setLane n l).activeMap = d.activeMap := Dev.with_lanes_activeMap d _
theorem Dev.with_lanes_shadowMap (l : Store LaneSt) : ({ d with lanes := l } : Dev).shadowMap = d.shadowMap := rfl
@[simp] theorem Dev.setLane_shadowMap (n : Nat) (l : LaneSt) : (d.setLane n l).shadowMap = d.shadowMap := Dev.with_lanes_shadowMap d _
theorem Dev.with_lanes_paths (l : Store LaneSt) : ({ d with lanes := l } : Dev).paths = d.paths := rfl
@[simp] theorem Dev.setLane_paths (n : Nat) (l : LaneSt) : (d.setLane n l).paths = d.paths := Dev.with_lanes_paths d _
theorem Dev.with_lanes_restarts (l : Store LaneSt) : ({ d with lanes := l } : Dev).restarts = d.restarts := rfl
@[simp] theorem Dev.setLane_restarts (n : Nat) (l : LaneSt) : (d.setLane n l).restarts = d.restarts := Dev.with_lanes_restarts d _
theorem Dev.with_lanes_structs (l : Store LaneSt) : ({ d with lanes := l } : Dev).structs = d.structs := rfl
@[simp] theorem Dev.setLane_structs (n : Nat) (l : LaneSt) : (d.setLane n l).structs = d.structs := Dev.with_lanes_structs d _
theorem Dev.with_lanes_gfp (l : Store LaneSt) : ({ d with lanes := l } : Dev).gfp = d.gfp := rfl
@[simp] theorem Dev.setLane_gfp (n : Nat) (l : LaneSt) : (d.setLane n l).gfp = d.gfp := Dev.with_lanes_gfp d _
theorem Dev.with_lanes_snaps (l : Store LaneSt) : ({ d with lanes := l } : Dev).snaps = d.snaps := rfl
@[simp] theorem Dev.setLane_snaps (n : Nat) (l : LaneSt) : (d.setLane n l).snaps = d.snaps := Dev.with_lanes_snaps d _
theorem Dev.with_lanes_replies (l : Store LaneSt) : ({ d with lanes := l } : Dev).replies = d.replies := rfl
@[simp] theorem Dev.setLane_replies (n : Nat) (l : LaneSt) : (d.setLane n l).replies = d.replies := Dev.with_lanes_replies d _
theorem Dev.with_lanes_acc (l : Store LaneSt) : ({ d with lanes := l } : Dev).acc = d.acc := rfl
@[simp] theorem Dev.setLane_acc (n : Nat) (l : LaneSt) : (d.setLane n l).acc = d.acc := Dev.with_lanes_acc d _
theorem Dev.with_lanes_accClosed (l : Store LaneSt) : ({ d with lanes := l } : Dev).accClosed = d.accClosed := rfl
@[simp] theorem Dev.setLane_accClosed (n : Nat) (l : LaneSt) : (d.setLane n l).accClosed = d.accClosed := Dev.with_lanes_accClosed d _
theorem Dev.with_lanes_est (l : Store LaneSt) : ({ d with lanes := l } : Dev).est = d.est := rfl
@[simp] theorem Dev.setLane_est (n : Nat) (l : LaneSt) : (d.setLane n l).est = d.est := Dev.with_lanes_est d _
theorem Dev.with_lanes_estAcc (l : Store LaneSt) : ({ d with lanes := l } : Dev).estAcc = d.estAcc := rfl
@[simp] theorem Dev.setLane_estAcc (n : Nat) (l : LaneSt) : (d.setLane n l).estAcc = d.estAcc := Dev.with_lanes_estAcc d _
theorem Dev.with_lanes_ladle (l : Store LaneSt) : ({ d with lanes := l } : Dev).ladle = d.ladle := rfl
@[simp] theorem Dev.setLane_ladle (n : Nat) (l : LaneSt) : (d.setLane n l).ladle = d.ladle := Dev.with_lanes_ladle d _
theorem Dev.with_lanes_bw (l : Store LaneSt) : ({ d with lanes := l } : Dev).bw = d.bw := rfl
@[simp] theorem Dev.setLane_bw (n : Nat) (l : LaneSt) : (d.setLane n l).bw = d.bw := Dev.with_lanes_bw d _
theorem Dev.with_lanes_skw (l : Store LaneSt) : ({ d with lanes := l } : Dev).skw = d.skw := rfl
@[simp] theorem Dev.setLane_skw (n : Nat) (l : LaneSt) : (d.setLane n l).skw = d.skw := Dev.with_lanes_skw d _
theorem Dev.with_lanes_fec (l : Store LaneSt) : ({ d with lanes := l } : Dev).fec = d.fec := rfl
@[simp] theorem Dev.setLane_fec (n : Nat) (l : LaneSt) : (d.setLane n l).fec = d.fec := Dev.with_lanes_fec d _
theorem Dev.with_lanes_psq (l : Store LaneSt) : ({ d with lanes := l } : Dev).psq = d.psq := rfl
@[simp] theorem Dev.setLane_psq (n : Nat) (l : LaneSt) : (d.setLane n l).psq = d.psq := Dev.with_lanes_psq d _
theorem Dev.with_lanes_flows (l : Store LaneSt) : ({ d with lanes := l } : Dev).flows = d.flows := rfl
@[simp] theorem Dev.setLane_flows (n : Nat) (l : LaneSt) : (d.setLane n l).flows = d.flows := Dev.with_lanes_flows d _
theorem Dev.with_lanes_groups (l : Store LaneSt) : ({ d with lanes := l } : Dev).groups = d.groups := rfl
@[simp] theorem Dev.setLane_groups (n : Nat) (l : LaneSt) : (d.setLane n l).groups = d.groups := Dev.with_lanes_groups d _
theorem Dev.with_lanes_members (l : Store LaneSt) : ({ d with lanes := l } : Dev).members = d.members := rfl
@[simp] theorem Dev.setLane_members (n : Nat) (l : LaneSt) : (d.setLane n l).members = d.members := Dev.with_lanes_members d _
theorem Dev.with_lanes_msp (l : Store LaneSt) : ({ d with lanes := l } : Dev).msp = d.msp := rfl
@[simp] theorem Dev.setLane_msp (n : Nat) (l : LaneSt) : (d.setLane n l).msp = d.msp := Dev.with_lanes_msp d _
theorem Dev.with_lanes_snc (l : Store LaneSt) : ({ d with lanes := l } : Dev).snc = d.snc := rfl
@[simp] theorem Dev.setLane_snc (n : Nat) (l : LaneSt) : (d.setLane n l).snc = d.snc := Dev.with_lanes_snc d _
theorem Dev.with_lanes_applies (l : Store LaneSt) : ({ d with lanes := l } : Dev).applies = d.applies := rfl
@[simp] theorem Dev.setLane_applies (n : Nat) (l : LaneSt) : (d.setLane n l).applies = d.applies := Dev.with_lanes_applies d _
theorem Dev.with_lanes_selRestart (l : Store LaneSt) : ({ d with lanes := l } : Dev).selRestart = d.selRestart := rfl
@[simp] theorem Dev.setLane_selRestart (n : Nat) (l : LaneSt) : (d.setLane n l).selRestart = d.selRestart := Dev.with_lanes_selRestart d _
theorem Dev.with_lanes_bridge (l : Store LaneSt) : ({ d with lanes := l } : Dev).bridge = d.bridge := rfl
@[simp] theorem Dev.setLane_bridge (n : Nat) (l : LaneSt) : (d.setLane n l).bridge = d.bridge := Dev.with_lanes_bridge d _
theorem Dev.with_lanes_sram (l : Store LaneSt) : ({ d with lanes := l } : Dev).sram = d.sram := rfl
@[simp] theorem Dev.setLane_sram (n : Nat) (l : LaneSt) : (d.setLane n l).sram = d.sram := Dev.with_lanes_sram d _
theorem Dev.with_lanes_bursts (l : Store LaneSt) : ({ d with lanes := l } : Dev).bursts = d.bursts := rfl
@[simp] theorem Dev.setLane_bursts (n : Nat) (l : LaneSt) : (d.setLane n l).bursts = d.bursts := Dev.with_lanes_bursts d _
theorem Dev.with_lanes_port (l : Store LaneSt) : ({ d with lanes := l } : Dev).port = d.port := rfl
@[simp] theorem Dev.setLane_port (n : Nat) (l : LaneSt) : (d.setLane n l).port = d.port := Dev.with_lanes_port d _
theorem Dev.with_lanes_mgt (l : Store LaneSt) : ({ d with lanes := l } : Dev).mgt = d.mgt := rfl
@[simp] theorem Dev.setLane_mgt (n : Nat) (l : LaneSt) : (d.setLane n l).mgt = d.mgt := Dev.with_lanes_mgt d _
theorem Dev.with_lanes_panel (l : Store LaneSt) : ({ d with lanes := l } : Dev).panel = d.panel := rfl
@[simp] theorem Dev.setLane_panel (n : Nat) (l : LaneSt) : (d.setLane n l).panel = d.panel := Dev.with_lanes_panel d _
theorem Dev.with_lanes_timing (l : Store LaneSt) : ({ d with lanes := l } : Dev).timing = d.timing := rfl
@[simp] theorem Dev.setLane_timing (n : Nat) (l : LaneSt) : (d.setLane n l).timing = d.timing := Dev.with_lanes_timing d _
theorem Dev.with_lanes_modes (l : Store LaneSt) : ({ d with lanes := l } : Dev).modes = d.modes := rfl
@[simp] theorem Dev.setLane_modes (n : Nat) (l : LaneSt) : (d.setLane n l).modes = d.modes := Dev.with_lanes_modes d _
theorem Dev.with_lanes_mate (l : Store LaneSt) : ({ d with lanes := l } : Dev).mate = d.mate := rfl
@[simp] theorem Dev.setLane_mate (n : Nat) (l : LaneSt) : (d.setLane n l).mate = d.mate := Dev.with_lanes_mate d _
theorem Dev.with_lanes_grm (l : Store LaneSt) : ({ d with lanes := l } : Dev).grm = d.grm := rfl
@[simp] theorem Dev.setLane_grm (n : Nat) (l : LaneSt) : (d.setLane n l).grm = d.grm := Dev.with_lanes_grm d _
theorem Dev.with_lanes_inFill (l : Store LaneSt) : ({ d with lanes := l } : Dev).inFill = d.inFill := rfl
@[simp] theorem Dev.setLane_inFill (n : Nat) (l : LaneSt) : (d.setLane n l).inFill = d.inFill := Dev.with_lanes_inFill d _
theorem Dev.with_lanes_made (l : Store LaneSt) : ({ d with lanes := l } : Dev).made = d.made := rfl
@[simp] theorem Dev.setLane_made (n : Nat) (l : LaneSt) : (d.setLane n l).made = d.made := Dev.with_lanes_made d _
theorem Dev.with_lanes_egress (l : Store LaneSt) : ({ d with lanes := l } : Dev).egress = d.egress := rfl
@[simp] theorem Dev.setLane_egress (n : Nat) (l : LaneSt) : (d.setLane n l).egress = d.egress := Dev.with_lanes_egress d _
theorem Dev.with_lanes_inMove (l : Store LaneSt) : ({ d with lanes := l } : Dev).inMove = d.inMove := rfl
@[simp] theorem Dev.setLane_inMove (n : Nat) (l : LaneSt) : (d.setLane n l).inMove = d.inMove := Dev.with_lanes_inMove d _
theorem Dev.with_lanes_egFill (l : Store LaneSt) : ({ d with lanes := l } : Dev).egFill = d.egFill := rfl
@[simp] theorem Dev.setLane_egFill (n : Nat) (l : LaneSt) : (d.setLane n l).egFill = d.egFill := Dev.with_lanes_egFill d _
theorem Dev.with_lanes_egRead (l : Store LaneSt) : ({ d with lanes := l } : Dev).egRead = d.egRead := rfl
@[simp] theorem Dev.setLane_egRead (n : Nat) (l : LaneSt) : (d.setLane n l).egRead = d.egRead := Dev.with_lanes_egRead d _

theorem Dev.with_paths_now (l : Store PathSt) : ({ d with paths := l } : Dev).now = d.now := rfl
@[simp] theorem Dev.setPath_now (k : Nat) (p : PathSt) : (d.setPath k p).now = d.now := Dev.with_paths_now d _
theorem Dev.with_paths_fresh (l : Store PathSt) : ({ d with paths := l } : Dev).fresh = d.fresh := rfl
@[simp] theorem Dev.setPath_fresh (k : Nat) (p : PathSt) : (d.setPath k p).fresh = d.fresh := Dev.with_paths_fresh d _
theorem Dev.with_paths_words (l : Store PathSt) : ({ d with paths := l } : Dev).words = d.words := rfl
@[simp] theorem Dev.setPath_words (k : Nat) (p : PathSt) : (d.setPath k p).words = d.words := Dev.with_paths_words d _
theorem Dev.with_paths_activeMap (l : Store PathSt) : ({ d with paths := l } : Dev).activeMap = d.activeMap := rfl
@[simp] theorem Dev.setPath_activeMap (k : Nat) (p : PathSt) : (d.setPath k p).activeMap = d.activeMap := Dev.with_paths_activeMap d _
theorem Dev.with_paths_shadowMap (l : Store PathSt) : ({ d with paths := l } : Dev).shadowMap = d.shadowMap := rfl
@[simp] theorem Dev.setPath_shadowMap (k : Nat) (p : PathSt) : (d.setPath k p).shadowMap = d.shadowMap := Dev.with_paths_shadowMap d _
theorem Dev.with_paths_lanes (l : Store PathSt) : ({ d with paths := l } : Dev).lanes = d.lanes := rfl
@[simp] theorem Dev.setPath_lanes (k : Nat) (p : PathSt) : (d.setPath k p).lanes = d.lanes := Dev.with_paths_lanes d _
theorem Dev.with_paths_restarts (l : Store PathSt) : ({ d with paths := l } : Dev).restarts = d.restarts := rfl
@[simp] theorem Dev.setPath_restarts (k : Nat) (p : PathSt) : (d.setPath k p).restarts = d.restarts := Dev.with_paths_restarts d _
theorem Dev.with_paths_structs (l : Store PathSt) : ({ d with paths := l } : Dev).structs = d.structs := rfl
@[simp] theorem Dev.setPath_structs (k : Nat) (p : PathSt) : (d.setPath k p).structs = d.structs := Dev.with_paths_structs d _
theorem Dev.with_paths_gfp (l : Store PathSt) : ({ d with paths := l } : Dev).gfp = d.gfp := rfl
@[simp] theorem Dev.setPath_gfp (k : Nat) (p : PathSt) : (d.setPath k p).gfp = d.gfp := Dev.with_paths_gfp d _
theorem Dev.with_paths_snaps (l : Store PathSt) : ({ d with paths := l } : Dev).snaps = d.snaps := rfl
@[simp] theorem Dev.setPath_snaps (k : Nat) (p : PathSt) : (d.setPath k p).snaps = d.snaps := Dev.with_paths_snaps d _
theorem Dev.with_paths_replies (l : Store PathSt) : ({ d with paths := l } : Dev).replies = d.replies := rfl
@[simp] theorem Dev.setPath_replies (k : Nat) (p : PathSt) : (d.setPath k p).replies = d.replies := Dev.with_paths_replies d _
theorem Dev.with_paths_acc (l : Store PathSt) : ({ d with paths := l } : Dev).acc = d.acc := rfl
@[simp] theorem Dev.setPath_acc (k : Nat) (p : PathSt) : (d.setPath k p).acc = d.acc := Dev.with_paths_acc d _
theorem Dev.with_paths_accClosed (l : Store PathSt) : ({ d with paths := l } : Dev).accClosed = d.accClosed := rfl
@[simp] theorem Dev.setPath_accClosed (k : Nat) (p : PathSt) : (d.setPath k p).accClosed = d.accClosed := Dev.with_paths_accClosed d _
theorem Dev.with_paths_est (l : Store PathSt) : ({ d with paths := l } : Dev).est = d.est := rfl
@[simp] theorem Dev.setPath_est (k : Nat) (p : PathSt) : (d.setPath k p).est = d.est := Dev.with_paths_est d _
theorem Dev.with_paths_estAcc (l : Store PathSt) : ({ d with paths := l } : Dev).estAcc = d.estAcc := rfl
@[simp] theorem Dev.setPath_estAcc (k : Nat) (p : PathSt) : (d.setPath k p).estAcc = d.estAcc := Dev.with_paths_estAcc d _
theorem Dev.with_paths_ladle (l : Store PathSt) : ({ d with paths := l } : Dev).ladle = d.ladle := rfl
@[simp] theorem Dev.setPath_ladle (k : Nat) (p : PathSt) : (d.setPath k p).ladle = d.ladle := Dev.with_paths_ladle d _
theorem Dev.with_paths_bw (l : Store PathSt) : ({ d with paths := l } : Dev).bw = d.bw := rfl
@[simp] theorem Dev.setPath_bw (k : Nat) (p : PathSt) : (d.setPath k p).bw = d.bw := Dev.with_paths_bw d _
theorem Dev.with_paths_skw (l : Store PathSt) : ({ d with paths := l } : Dev).skw = d.skw := rfl
@[simp] theorem Dev.setPath_skw (k : Nat) (p : PathSt) : (d.setPath k p).skw = d.skw := Dev.with_paths_skw d _
theorem Dev.with_paths_fec (l : Store PathSt) : ({ d with paths := l } : Dev).fec = d.fec := rfl
@[simp] theorem Dev.setPath_fec (k : Nat) (p : PathSt) : (d.setPath k p).fec = d.fec := Dev.with_paths_fec d _
theorem Dev.with_paths_psq (l : Store PathSt) : ({ d with paths := l } : Dev).psq = d.psq := rfl
@[simp] theorem Dev.setPath_psq (k : Nat) (p : PathSt) : (d.setPath k p).psq = d.psq := Dev.with_paths_psq d _
theorem Dev.with_paths_flows (l : Store PathSt) : ({ d with paths := l } : Dev).flows = d.flows := rfl
@[simp] theorem Dev.setPath_flows (k : Nat) (p : PathSt) : (d.setPath k p).flows = d.flows := Dev.with_paths_flows d _
theorem Dev.with_paths_groups (l : Store PathSt) : ({ d with paths := l } : Dev).groups = d.groups := rfl
@[simp] theorem Dev.setPath_groups (k : Nat) (p : PathSt) : (d.setPath k p).groups = d.groups := Dev.with_paths_groups d _
theorem Dev.with_paths_members (l : Store PathSt) : ({ d with paths := l } : Dev).members = d.members := rfl
@[simp] theorem Dev.setPath_members (k : Nat) (p : PathSt) : (d.setPath k p).members = d.members := Dev.with_paths_members d _
theorem Dev.with_paths_msp (l : Store PathSt) : ({ d with paths := l } : Dev).msp = d.msp := rfl
@[simp] theorem Dev.setPath_msp (k : Nat) (p : PathSt) : (d.setPath k p).msp = d.msp := Dev.with_paths_msp d _
theorem Dev.with_paths_snc (l : Store PathSt) : ({ d with paths := l } : Dev).snc = d.snc := rfl
@[simp] theorem Dev.setPath_snc (k : Nat) (p : PathSt) : (d.setPath k p).snc = d.snc := Dev.with_paths_snc d _
theorem Dev.with_paths_applies (l : Store PathSt) : ({ d with paths := l } : Dev).applies = d.applies := rfl
@[simp] theorem Dev.setPath_applies (k : Nat) (p : PathSt) : (d.setPath k p).applies = d.applies := Dev.with_paths_applies d _
theorem Dev.with_paths_selRestart (l : Store PathSt) : ({ d with paths := l } : Dev).selRestart = d.selRestart := rfl
@[simp] theorem Dev.setPath_selRestart (k : Nat) (p : PathSt) : (d.setPath k p).selRestart = d.selRestart := Dev.with_paths_selRestart d _
theorem Dev.with_paths_bridge (l : Store PathSt) : ({ d with paths := l } : Dev).bridge = d.bridge := rfl
@[simp] theorem Dev.setPath_bridge (k : Nat) (p : PathSt) : (d.setPath k p).bridge = d.bridge := Dev.with_paths_bridge d _
theorem Dev.with_paths_sram (l : Store PathSt) : ({ d with paths := l } : Dev).sram = d.sram := rfl
@[simp] theorem Dev.setPath_sram (k : Nat) (p : PathSt) : (d.setPath k p).sram = d.sram := Dev.with_paths_sram d _
theorem Dev.with_paths_bursts (l : Store PathSt) : ({ d with paths := l } : Dev).bursts = d.bursts := rfl
@[simp] theorem Dev.setPath_bursts (k : Nat) (p : PathSt) : (d.setPath k p).bursts = d.bursts := Dev.with_paths_bursts d _
theorem Dev.with_paths_port (l : Store PathSt) : ({ d with paths := l } : Dev).port = d.port := rfl
@[simp] theorem Dev.setPath_port (k : Nat) (p : PathSt) : (d.setPath k p).port = d.port := Dev.with_paths_port d _
theorem Dev.with_paths_mgt (l : Store PathSt) : ({ d with paths := l } : Dev).mgt = d.mgt := rfl
@[simp] theorem Dev.setPath_mgt (k : Nat) (p : PathSt) : (d.setPath k p).mgt = d.mgt := Dev.with_paths_mgt d _
theorem Dev.with_paths_panel (l : Store PathSt) : ({ d with paths := l } : Dev).panel = d.panel := rfl
@[simp] theorem Dev.setPath_panel (k : Nat) (p : PathSt) : (d.setPath k p).panel = d.panel := Dev.with_paths_panel d _
theorem Dev.with_paths_timing (l : Store PathSt) : ({ d with paths := l } : Dev).timing = d.timing := rfl
@[simp] theorem Dev.setPath_timing (k : Nat) (p : PathSt) : (d.setPath k p).timing = d.timing := Dev.with_paths_timing d _
theorem Dev.with_paths_modes (l : Store PathSt) : ({ d with paths := l } : Dev).modes = d.modes := rfl
@[simp] theorem Dev.setPath_modes (k : Nat) (p : PathSt) : (d.setPath k p).modes = d.modes := Dev.with_paths_modes d _
theorem Dev.with_paths_mate (l : Store PathSt) : ({ d with paths := l } : Dev).mate = d.mate := rfl
@[simp] theorem Dev.setPath_mate (k : Nat) (p : PathSt) : (d.setPath k p).mate = d.mate := Dev.with_paths_mate d _
theorem Dev.with_paths_grm (l : Store PathSt) : ({ d with paths := l } : Dev).grm = d.grm := rfl
@[simp] theorem Dev.setPath_grm (k : Nat) (p : PathSt) : (d.setPath k p).grm = d.grm := Dev.with_paths_grm d _
theorem Dev.with_paths_inFill (l : Store PathSt) : ({ d with paths := l } : Dev).inFill = d.inFill := rfl
@[simp] theorem Dev.setPath_inFill (k : Nat) (p : PathSt) : (d.setPath k p).inFill = d.inFill := Dev.with_paths_inFill d _
theorem Dev.with_paths_made (l : Store PathSt) : ({ d with paths := l } : Dev).made = d.made := rfl
@[simp] theorem Dev.setPath_made (k : Nat) (p : PathSt) : (d.setPath k p).made = d.made := Dev.with_paths_made d _
theorem Dev.with_paths_egress (l : Store PathSt) : ({ d with paths := l } : Dev).egress = d.egress := rfl
@[simp] theorem Dev.setPath_egress (k : Nat) (p : PathSt) : (d.setPath k p).egress = d.egress := Dev.with_paths_egress d _
theorem Dev.with_paths_inMove (l : Store PathSt) : ({ d with paths := l } : Dev).inMove = d.inMove := rfl
@[simp] theorem Dev.setPath_inMove (k : Nat) (p : PathSt) : (d.setPath k p).inMove = d.inMove := Dev.with_paths_inMove d _
theorem Dev.with_paths_egFill (l : Store PathSt) : ({ d with paths := l } : Dev).egFill = d.egFill := rfl
@[simp] theorem Dev.setPath_egFill (k : Nat) (p : PathSt) : (d.setPath k p).egFill = d.egFill := Dev.with_paths_egFill d _
theorem Dev.with_paths_egRead (l : Store PathSt) : ({ d with paths := l } : Dev).egRead = d.egRead := rfl
@[simp] theorem Dev.setPath_egRead (k : Nat) (p : PathSt) : (d.setPath k p).egRead = d.egRead := Dev.with_paths_egRead d _

theorem Dev.with_gfp_now (l : Store Sieve) : ({ d with gfp := l } : Dev).now = d.now := rfl
@[simp] theorem Dev.setGfpSieve_now (g : Nat) (x : Sieve) : (d.setGfpSieve g x).now = d.now := Dev.with_gfp_now d _
theorem Dev.with_gfp_fresh (l : Store Sieve) : ({ d with gfp := l } : Dev).fresh = d.fresh := rfl
@[simp] theorem Dev.setGfpSieve_fresh (g : Nat) (x : Sieve) : (d.setGfpSieve g x).fresh = d.fresh := Dev.with_gfp_fresh d _
theorem Dev.with_gfp_words (l : Store Sieve) : ({ d with gfp := l } : Dev).words = d.words := rfl
@[simp] theorem Dev.setGfpSieve_words (g : Nat) (x : Sieve) : (d.setGfpSieve g x).words = d.words := Dev.with_gfp_words d _
theorem Dev.with_gfp_activeMap (l : Store Sieve) : ({ d with gfp := l } : Dev).activeMap = d.activeMap := rfl
@[simp] theorem Dev.setGfpSieve_activeMap (g : Nat) (x : Sieve) : (d.setGfpSieve g x).activeMap = d.activeMap := Dev.with_gfp_activeMap d _
theorem Dev.with_gfp_shadowMap (l : Store Sieve) : ({ d with gfp := l } : Dev).shadowMap = d.shadowMap := rfl
@[simp] theorem Dev.setGfpSieve_shadowMap (g : Nat) (x : Sieve) : (d.setGfpSieve g x).shadowMap = d.shadowMap := Dev.with_gfp_shadowMap d _
theorem Dev.with_gfp_lanes (l : Store Sieve) : ({ d with gfp := l } : Dev).lanes = d.lanes := rfl
@[simp] theorem Dev.setGfpSieve_lanes (g : Nat) (x : Sieve) : (d.setGfpSieve g x).lanes = d.lanes := Dev.with_gfp_lanes d _
theorem Dev.with_gfp_paths (l : Store Sieve) : ({ d with gfp := l } : Dev).paths = d.paths := rfl
@[simp] theorem Dev.setGfpSieve_paths (g : Nat) (x : Sieve) : (d.setGfpSieve g x).paths = d.paths := Dev.with_gfp_paths d _
theorem Dev.with_gfp_restarts (l : Store Sieve) : ({ d with gfp := l } : Dev).restarts = d.restarts := rfl
@[simp] theorem Dev.setGfpSieve_restarts (g : Nat) (x : Sieve) : (d.setGfpSieve g x).restarts = d.restarts := Dev.with_gfp_restarts d _
theorem Dev.with_gfp_structs (l : Store Sieve) : ({ d with gfp := l } : Dev).structs = d.structs := rfl
@[simp] theorem Dev.setGfpSieve_structs (g : Nat) (x : Sieve) : (d.setGfpSieve g x).structs = d.structs := Dev.with_gfp_structs d _
theorem Dev.with_gfp_snaps (l : Store Sieve) : ({ d with gfp := l } : Dev).snaps = d.snaps := rfl
@[simp] theorem Dev.setGfpSieve_snaps (g : Nat) (x : Sieve) : (d.setGfpSieve g x).snaps = d.snaps := Dev.with_gfp_snaps d _
theorem Dev.with_gfp_replies (l : Store Sieve) : ({ d with gfp := l } : Dev).replies = d.replies := rfl
@[simp] theorem Dev.setGfpSieve_replies (g : Nat) (x : Sieve) : (d.setGfpSieve g x).replies = d.replies := Dev.with_gfp_replies d _
theorem Dev.with_gfp_acc (l : Store Sieve) : ({ d with gfp := l } : Dev).acc = d.acc := rfl
@[simp] theorem Dev.setGfpSieve_acc (g : Nat) (x : Sieve) : (d.setGfpSieve g x).acc = d.acc := Dev.with_gfp_acc d _
theorem Dev.with_gfp_accClosed (l : Store Sieve) : ({ d with gfp := l } : Dev).accClosed = d.accClosed := rfl
@[simp] theorem Dev.setGfpSieve_accClosed (g : Nat) (x : Sieve) : (d.setGfpSieve g x).accClosed = d.accClosed := Dev.with_gfp_accClosed d _
theorem Dev.with_gfp_est (l : Store Sieve) : ({ d with gfp := l } : Dev).est = d.est := rfl
@[simp] theorem Dev.setGfpSieve_est (g : Nat) (x : Sieve) : (d.setGfpSieve g x).est = d.est := Dev.with_gfp_est d _
theorem Dev.with_gfp_estAcc (l : Store Sieve) : ({ d with gfp := l } : Dev).estAcc = d.estAcc := rfl
@[simp] theorem Dev.setGfpSieve_estAcc (g : Nat) (x : Sieve) : (d.setGfpSieve g x).estAcc = d.estAcc := Dev.with_gfp_estAcc d _
theorem Dev.with_gfp_ladle (l : Store Sieve) : ({ d with gfp := l } : Dev).ladle = d.ladle := rfl
@[simp] theorem Dev.setGfpSieve_ladle (g : Nat) (x : Sieve) : (d.setGfpSieve g x).ladle = d.ladle := Dev.with_gfp_ladle d _
theorem Dev.with_gfp_bw (l : Store Sieve) : ({ d with gfp := l } : Dev).bw = d.bw := rfl
@[simp] theorem Dev.setGfpSieve_bw (g : Nat) (x : Sieve) : (d.setGfpSieve g x).bw = d.bw := Dev.with_gfp_bw d _
theorem Dev.with_gfp_skw (l : Store Sieve) : ({ d with gfp := l } : Dev).skw = d.skw := rfl
@[simp] theorem Dev.setGfpSieve_skw (g : Nat) (x : Sieve) : (d.setGfpSieve g x).skw = d.skw := Dev.with_gfp_skw d _
theorem Dev.with_gfp_fec (l : Store Sieve) : ({ d with gfp := l } : Dev).fec = d.fec := rfl
@[simp] theorem Dev.setGfpSieve_fec (g : Nat) (x : Sieve) : (d.setGfpSieve g x).fec = d.fec := Dev.with_gfp_fec d _
theorem Dev.with_gfp_psq (l : Store Sieve) : ({ d with gfp := l } : Dev).psq = d.psq := rfl
@[simp] theorem Dev.setGfpSieve_psq (g : Nat) (x : Sieve) : (d.setGfpSieve g x).psq = d.psq := Dev.with_gfp_psq d _
theorem Dev.with_gfp_flows (l : Store Sieve) : ({ d with gfp := l } : Dev).flows = d.flows := rfl
@[simp] theorem Dev.setGfpSieve_flows (g : Nat) (x : Sieve) : (d.setGfpSieve g x).flows = d.flows := Dev.with_gfp_flows d _
theorem Dev.with_gfp_groups (l : Store Sieve) : ({ d with gfp := l } : Dev).groups = d.groups := rfl
@[simp] theorem Dev.setGfpSieve_groups (g : Nat) (x : Sieve) : (d.setGfpSieve g x).groups = d.groups := Dev.with_gfp_groups d _
theorem Dev.with_gfp_members (l : Store Sieve) : ({ d with gfp := l } : Dev).members = d.members := rfl
@[simp] theorem Dev.setGfpSieve_members (g : Nat) (x : Sieve) : (d.setGfpSieve g x).members = d.members := Dev.with_gfp_members d _
theorem Dev.with_gfp_msp (l : Store Sieve) : ({ d with gfp := l } : Dev).msp = d.msp := rfl
@[simp] theorem Dev.setGfpSieve_msp (g : Nat) (x : Sieve) : (d.setGfpSieve g x).msp = d.msp := Dev.with_gfp_msp d _
theorem Dev.with_gfp_snc (l : Store Sieve) : ({ d with gfp := l } : Dev).snc = d.snc := rfl
@[simp] theorem Dev.setGfpSieve_snc (g : Nat) (x : Sieve) : (d.setGfpSieve g x).snc = d.snc := Dev.with_gfp_snc d _
theorem Dev.with_gfp_applies (l : Store Sieve) : ({ d with gfp := l } : Dev).applies = d.applies := rfl
@[simp] theorem Dev.setGfpSieve_applies (g : Nat) (x : Sieve) : (d.setGfpSieve g x).applies = d.applies := Dev.with_gfp_applies d _
theorem Dev.with_gfp_selRestart (l : Store Sieve) : ({ d with gfp := l } : Dev).selRestart = d.selRestart := rfl
@[simp] theorem Dev.setGfpSieve_selRestart (g : Nat) (x : Sieve) : (d.setGfpSieve g x).selRestart = d.selRestart := Dev.with_gfp_selRestart d _
theorem Dev.with_gfp_bridge (l : Store Sieve) : ({ d with gfp := l } : Dev).bridge = d.bridge := rfl
@[simp] theorem Dev.setGfpSieve_bridge (g : Nat) (x : Sieve) : (d.setGfpSieve g x).bridge = d.bridge := Dev.with_gfp_bridge d _
theorem Dev.with_gfp_sram (l : Store Sieve) : ({ d with gfp := l } : Dev).sram = d.sram := rfl
@[simp] theorem Dev.setGfpSieve_sram (g : Nat) (x : Sieve) : (d.setGfpSieve g x).sram = d.sram := Dev.with_gfp_sram d _
theorem Dev.with_gfp_bursts (l : Store Sieve) : ({ d with gfp := l } : Dev).bursts = d.bursts := rfl
@[simp] theorem Dev.setGfpSieve_bursts (g : Nat) (x : Sieve) : (d.setGfpSieve g x).bursts = d.bursts := Dev.with_gfp_bursts d _
theorem Dev.with_gfp_port (l : Store Sieve) : ({ d with gfp := l } : Dev).port = d.port := rfl
@[simp] theorem Dev.setGfpSieve_port (g : Nat) (x : Sieve) : (d.setGfpSieve g x).port = d.port := Dev.with_gfp_port d _
theorem Dev.with_gfp_mgt (l : Store Sieve) : ({ d with gfp := l } : Dev).mgt = d.mgt := rfl
@[simp] theorem Dev.setGfpSieve_mgt (g : Nat) (x : Sieve) : (d.setGfpSieve g x).mgt = d.mgt := Dev.with_gfp_mgt d _
theorem Dev.with_gfp_panel (l : Store Sieve) : ({ d with gfp := l } : Dev).panel = d.panel := rfl
@[simp] theorem Dev.setGfpSieve_panel (g : Nat) (x : Sieve) : (d.setGfpSieve g x).panel = d.panel := Dev.with_gfp_panel d _
theorem Dev.with_gfp_timing (l : Store Sieve) : ({ d with gfp := l } : Dev).timing = d.timing := rfl
@[simp] theorem Dev.setGfpSieve_timing (g : Nat) (x : Sieve) : (d.setGfpSieve g x).timing = d.timing := Dev.with_gfp_timing d _
theorem Dev.with_gfp_modes (l : Store Sieve) : ({ d with gfp := l } : Dev).modes = d.modes := rfl
@[simp] theorem Dev.setGfpSieve_modes (g : Nat) (x : Sieve) : (d.setGfpSieve g x).modes = d.modes := Dev.with_gfp_modes d _
theorem Dev.with_gfp_mate (l : Store Sieve) : ({ d with gfp := l } : Dev).mate = d.mate := rfl
@[simp] theorem Dev.setGfpSieve_mate (g : Nat) (x : Sieve) : (d.setGfpSieve g x).mate = d.mate := Dev.with_gfp_mate d _
theorem Dev.with_gfp_grm (l : Store Sieve) : ({ d with gfp := l } : Dev).grm = d.grm := rfl
@[simp] theorem Dev.setGfpSieve_grm (g : Nat) (x : Sieve) : (d.setGfpSieve g x).grm = d.grm := Dev.with_gfp_grm d _
theorem Dev.with_gfp_inFill (l : Store Sieve) : ({ d with gfp := l } : Dev).inFill = d.inFill := rfl
@[simp] theorem Dev.setGfpSieve_inFill (g : Nat) (x : Sieve) : (d.setGfpSieve g x).inFill = d.inFill := Dev.with_gfp_inFill d _
theorem Dev.with_gfp_made (l : Store Sieve) : ({ d with gfp := l } : Dev).made = d.made := rfl
@[simp] theorem Dev.setGfpSieve_made (g : Nat) (x : Sieve) : (d.setGfpSieve g x).made = d.made := Dev.with_gfp_made d _
theorem Dev.with_gfp_egress (l : Store Sieve) : ({ d with gfp := l } : Dev).egress = d.egress := rfl
@[simp] theorem Dev.setGfpSieve_egress (g : Nat) (x : Sieve) : (d.setGfpSieve g x).egress = d.egress := Dev.with_gfp_egress d _
theorem Dev.with_gfp_inMove (l : Store Sieve) : ({ d with gfp := l } : Dev).inMove = d.inMove := rfl
@[simp] theorem Dev.setGfpSieve_inMove (g : Nat) (x : Sieve) : (d.setGfpSieve g x).inMove = d.inMove := Dev.with_gfp_inMove d _
theorem Dev.with_gfp_egFill (l : Store Sieve) : ({ d with gfp := l } : Dev).egFill = d.egFill := rfl
@[simp] theorem Dev.setGfpSieve_egFill (g : Nat) (x : Sieve) : (d.setGfpSieve g x).egFill = d.egFill := Dev.with_gfp_egFill d _
theorem Dev.with_gfp_egRead (l : Store Sieve) : ({ d with gfp := l } : Dev).egRead = d.egRead := rfl
@[simp] theorem Dev.setGfpSieve_egRead (g : Nat) (x : Sieve) : (d.setGfpSieve g x).egRead = d.egRead := Dev.with_gfp_egRead d _

@[simp] theorem Dev.setEst_now (k : Nat) (l : EstSt) : (d.setEst k l).now = d.now := rfl
@[simp] theorem Dev.setEst_fresh (k : Nat) (l : EstSt) : (d.setEst k l).fresh = d.fresh := rfl
@[simp] theorem Dev.setEst_words (k : Nat) (l : EstSt) : (d.setEst k l).words = d.words := rfl
@[simp] theorem Dev.setEst_activeMap (k : Nat) (l : EstSt) : (d.setEst k l).activeMap = d.activeMap := rfl
@[simp] theorem Dev.setEst_shadowMap (k : Nat) (l : EstSt) : (d.setEst k l).shadowMap = d.shadowMap := rfl
@[simp] theorem Dev.setEst_lanes (k : Nat) (l : EstSt) : (d.setEst k l).lanes = d.lanes := rfl
@[simp] theorem Dev.setEst_paths (k : Nat) (l : EstSt) : (d.setEst k l).paths = d.paths := rfl
@[simp] theorem Dev.setEst_restarts (k : Nat) (l : EstSt) : (d.setEst k l).restarts = d.restarts := rfl
@[simp] theorem Dev.setEst_structs (k : Nat) (l : EstSt) : (d.setEst k l).structs = d.structs := rfl
@[simp] theorem Dev.setEst_gfp (k : Nat) (l : EstSt) : (d.setEst k l).gfp = d.gfp := rfl
@[simp] theorem Dev.setEst_snaps (k : Nat) (l : EstSt) : (d.setEst k l).snaps = d.snaps := rfl
@[simp] theorem Dev.setEst_replies (k : Nat) (l : EstSt) : (d.setEst k l).replies = d.replies := rfl
@[simp] theorem Dev.setEst_acc (k : Nat) (l : EstSt) : (d.setEst k l).acc = d.acc := rfl
@[simp] theorem Dev.setEst_accClosed (k : Nat) (l : EstSt) : (d.setEst k l).accClosed = d.accClosed := rfl
@[simp] theorem Dev.setEst_ladle (k : Nat) (l : EstSt) : (d.setEst k l).ladle = d.ladle := rfl
@[simp] theorem Dev.setEst_bw (k : Nat) (l : EstSt) : (d.setEst k l).bw = d.bw := rfl
@[simp] theorem Dev.setEst_skw (k : Nat) (l : EstSt) : (d.setEst k l).skw = d.skw := rfl
@[simp] theorem Dev.setEst_fec (k : Nat) (l : EstSt) : (d.setEst k l).fec = d.fec := rfl
@[simp] theorem Dev.setEst_psq (k : Nat) (l : EstSt) : (d.setEst k l).psq = d.psq := rfl
@[simp] theorem Dev.setEst_flows (k : Nat) (l : EstSt) : (d.setEst k l).flows = d.flows := rfl
@[simp] theorem Dev.setEst_groups (k : Nat) (l : EstSt) : (d.setEst k l).groups = d.groups := rfl
@[simp] theorem Dev.setEst_members (k : Nat) (l : EstSt) : (d.setEst k l).members = d.members := rfl
@[simp] theorem Dev.setEst_msp (k : Nat) (l : EstSt) : (d.setEst k l).msp = d.msp := rfl
@[simp] theorem Dev.setEst_snc (k : Nat) (l : EstSt) : (d.setEst k l).snc = d.snc := rfl
@[simp] theorem Dev.setEst_applies (k : Nat) (l : EstSt) : (d.setEst k l).applies = d.applies := rfl
@[simp] theorem Dev.setEst_selRestart (k : Nat) (l : EstSt) : (d.setEst k l).selRestart = d.selRestart := rfl
@[simp] theorem Dev.setEst_bridge (k : Nat) (l : EstSt) : (d.setEst k l).bridge = d.bridge := rfl
@[simp] theorem Dev.setEst_sram (k : Nat) (l : EstSt) : (d.setEst k l).sram = d.sram := rfl
@[simp] theorem Dev.setEst_bursts (k : Nat) (l : EstSt) : (d.setEst k l).bursts = d.bursts := rfl
@[simp] theorem Dev.setEst_port (k : Nat) (l : EstSt) : (d.setEst k l).port = d.port := rfl
@[simp] theorem Dev.setEst_mgt (k : Nat) (l : EstSt) : (d.setEst k l).mgt = d.mgt := rfl
@[simp] theorem Dev.setEst_panel (k : Nat) (l : EstSt) : (d.setEst k l).panel = d.panel := rfl
@[simp] theorem Dev.setEst_timing (k : Nat) (l : EstSt) : (d.setEst k l).timing = d.timing := rfl
@[simp] theorem Dev.setEst_modes (k : Nat) (l : EstSt) : (d.setEst k l).modes = d.modes := rfl
@[simp] theorem Dev.setEst_mate (k : Nat) (l : EstSt) : (d.setEst k l).mate = d.mate := rfl
@[simp] theorem Dev.setEst_grm (k : Nat) (l : EstSt) : (d.setEst k l).grm = d.grm := rfl
@[simp] theorem Dev.setEst_inFill (k : Nat) (l : EstSt) : (d.setEst k l).inFill = d.inFill := rfl
@[simp] theorem Dev.setEst_made (k : Nat) (l : EstSt) : (d.setEst k l).made = d.made := rfl
@[simp] theorem Dev.setEst_egress (k : Nat) (l : EstSt) : (d.setEst k l).egress = d.egress := rfl
@[simp] theorem Dev.setEst_inMove (k : Nat) (l : EstSt) : (d.setEst k l).inMove = d.inMove := rfl
@[simp] theorem Dev.setEst_egFill (k : Nat) (l : EstSt) : (d.setEst k l).egFill = d.egFill := rfl
@[simp] theorem Dev.setEst_egRead (k : Nat) (l : EstSt) : (d.setEst k l).egRead = d.egRead := rfl

@[simp] theorem Dev.setTiming_now (t : Timing) : (d.setTiming t).now = d.now := rfl
@[simp] theorem Dev.setTiming_fresh (t : Timing) : (d.setTiming t).fresh = d.fresh := rfl
@[simp] theorem Dev.setTiming_words (t : Timing) : (d.setTiming t).words = d.words := rfl
@[simp] theorem Dev.setTiming_activeMap (t : Timing) : (d.setTiming t).activeMap = d.activeMap := rfl
@[simp] theorem Dev.setTiming_shadowMap (t : Timing) : (d.setTiming t).shadowMap = d.shadowMap := rfl
@[simp] theorem Dev.setTiming_lanes (t : Timing) : (d.setTiming t).lanes = d.lanes := rfl
@[simp] theorem Dev.setTiming_paths (t : Timing) : (d.setTiming t).paths = d.paths := rfl
@[simp] theorem Dev.setTiming_restarts (t : Timing) : (d.setTiming t).restarts = d.restarts := rfl
@[simp] theorem Dev.setTiming_structs (t : Timing) : (d.setTiming t).structs = d.structs := rfl
@[simp] theorem Dev.setTiming_gfp (t : Timing) : (d.setTiming t).gfp = d.gfp := rfl
@[simp] theorem Dev.setTiming_snaps (t : Timing) : (d.setTiming t).snaps = d.snaps := rfl
@[simp] theorem Dev.setTiming_replies (t : Timing) : (d.setTiming t).replies = d.replies := rfl
@[simp] theorem Dev.setTiming_acc (t : Timing) : (d.setTiming t).acc = d.acc := rfl
@[simp] theorem Dev.setTiming_accClosed (t : Timing) : (d.setTiming t).accClosed = d.accClosed := rfl
@[simp] theorem Dev.setTiming_est (t : Timing) : (d.setTiming t).est = d.est := rfl
@[simp] theorem Dev.setTiming_estAcc (t : Timing) : (d.setTiming t).estAcc = d.estAcc := rfl
@[simp] theorem Dev.setTiming_ladle (t : Timing) : (d.setTiming t).ladle = d.ladle := rfl
@[simp] theorem Dev.setTiming_bw (t : Timing) : (d.setTiming t).bw = d.bw := rfl
@[simp] theorem Dev.setTiming_skw (t : Timing) : (d.setTiming t).skw = d.skw := rfl
@[simp] theorem Dev.setTiming_fec (t : Timing) : (d.setTiming t).fec = d.fec := rfl
@[simp] theorem Dev.setTiming_psq (t : Timing) : (d.setTiming t).psq = d.psq := rfl
@[simp] theorem Dev.setTiming_flows (t : Timing) : (d.setTiming t).flows = d.flows := rfl
@[simp] theorem Dev.setTiming_groups (t : Timing) : (d.setTiming t).groups = d.groups := rfl
@[simp] theorem Dev.setTiming_members (t : Timing) : (d.setTiming t).members = d.members := rfl
@[simp] theorem Dev.setTiming_msp (t : Timing) : (d.setTiming t).msp = d.msp := rfl
@[simp] theorem Dev.setTiming_snc (t : Timing) : (d.setTiming t).snc = d.snc := rfl
@[simp] theorem Dev.setTiming_applies (t : Timing) : (d.setTiming t).applies = d.applies := rfl
@[simp] theorem Dev.setTiming_selRestart (t : Timing) : (d.setTiming t).selRestart = d.selRestart := rfl
@[simp] theorem Dev.setTiming_bridge (t : Timing) : (d.setTiming t).bridge = d.bridge := rfl
@[simp] theorem Dev.setTiming_sram (t : Timing) : (d.setTiming t).sram = d.sram := rfl
@[simp] theorem Dev.setTiming_bursts (t : Timing) : (d.setTiming t).bursts = d.bursts := rfl
@[simp] theorem Dev.setTiming_port (t : Timing) : (d.setTiming t).port = d.port := rfl
@[simp] theorem Dev.setTiming_mgt (t : Timing) : (d.setTiming t).mgt = d.mgt := rfl
@[simp] theorem Dev.setTiming_panel (t : Timing) : (d.setTiming t).panel = d.panel := rfl
@[simp] theorem Dev.setTiming_modes (t : Timing) : (d.setTiming t).modes = d.modes := rfl
@[simp] theorem Dev.setTiming_mate (t : Timing) : (d.setTiming t).mate = d.mate := rfl
@[simp] theorem Dev.setTiming_grm (t : Timing) : (d.setTiming t).grm = d.grm := rfl
@[simp] theorem Dev.setTiming_inFill (t : Timing) : (d.setTiming t).inFill = d.inFill := rfl
@[simp] theorem Dev.setTiming_made (t : Timing) : (d.setTiming t).made = d.made := rfl
@[simp] theorem Dev.setTiming_egress (t : Timing) : (d.setTiming t).egress = d.egress := rfl
@[simp] theorem Dev.setTiming_inMove (t : Timing) : (d.setTiming t).inMove = d.inMove := rfl
@[simp] theorem Dev.setTiming_egFill (t : Timing) : (d.setTiming t).egFill = d.egFill := rfl
@[simp] theorem Dev.setTiming_egRead (t : Timing) : (d.setTiming t).egRead = d.egRead := rfl
@[simp] theorem Dev.setTiming_timing (t : Timing) : (d.setTiming t).timing = t := rfl

@[simp] theorem Dev.setMgt_now (m : Mgt) : (d.setMgt m).now = d.now := rfl
@[simp] theorem Dev.setMgt_fresh (m : Mgt) : (d.setMgt m).fresh = d.fresh := rfl
@[simp] theorem Dev.setMgt_words (m : Mgt) : (d.setMgt m).words = d.words := rfl
@[simp] theorem Dev.setMgt_activeMap (m : Mgt) : (d.setMgt m).activeMap = d.activeMap := rfl
@[simp] theorem Dev.setMgt_shadowMap (m : Mgt) : (d.setMgt m).shadowMap = d.shadowMap := rfl
@[simp] theorem Dev.setMgt_lanes (m : Mgt) : (d.setMgt m).lanes = d.lanes := rfl
@[simp] theorem Dev.setMgt_paths (m : Mgt) : (d.setMgt m).paths = d.paths := rfl
@[simp] theorem Dev.setMgt_restarts (m : Mgt) : (d.setMgt m).restarts = d.restarts := rfl
@[simp] theorem Dev.setMgt_structs (m : Mgt) : (d.setMgt m).structs = d.structs := rfl
@[simp] theorem Dev.setMgt_gfp (m : Mgt) : (d.setMgt m).gfp = d.gfp := rfl
@[simp] theorem Dev.setMgt_snaps (m : Mgt) : (d.setMgt m).snaps = d.snaps := rfl
@[simp] theorem Dev.setMgt_replies (m : Mgt) : (d.setMgt m).replies = d.replies := rfl
@[simp] theorem Dev.setMgt_acc (m : Mgt) : (d.setMgt m).acc = d.acc := rfl
@[simp] theorem Dev.setMgt_accClosed (m : Mgt) : (d.setMgt m).accClosed = d.accClosed := rfl
@[simp] theorem Dev.setMgt_est (m : Mgt) : (d.setMgt m).est = d.est := rfl
@[simp] theorem Dev.setMgt_estAcc (m : Mgt) : (d.setMgt m).estAcc = d.estAcc := rfl
@[simp] theorem Dev.setMgt_ladle (m : Mgt) : (d.setMgt m).ladle = d.ladle := rfl
@[simp] theorem Dev.setMgt_bw (m : Mgt) : (d.setMgt m).bw = d.bw := rfl
@[simp] theorem Dev.setMgt_skw (m : Mgt) : (d.setMgt m).skw = d.skw := rfl
@[simp] theorem Dev.setMgt_fec (m : Mgt) : (d.setMgt m).fec = d.fec := rfl
@[simp] theorem Dev.setMgt_psq (m : Mgt) : (d.setMgt m).psq = d.psq := rfl
@[simp] theorem Dev.setMgt_flows (m : Mgt) : (d.setMgt m).flows = d.flows := rfl
@[simp] theorem Dev.setMgt_groups (m : Mgt) : (d.setMgt m).groups = d.groups := rfl
@[simp] theorem Dev.setMgt_members (m : Mgt) : (d.setMgt m).members = d.members := rfl
@[simp] theorem Dev.setMgt_msp (m : Mgt) : (d.setMgt m).msp = d.msp := rfl
@[simp] theorem Dev.setMgt_snc (m : Mgt) : (d.setMgt m).snc = d.snc := rfl
@[simp] theorem Dev.setMgt_applies (m : Mgt) : (d.setMgt m).applies = d.applies := rfl
@[simp] theorem Dev.setMgt_selRestart (m : Mgt) : (d.setMgt m).selRestart = d.selRestart := rfl
@[simp] theorem Dev.setMgt_bridge (m : Mgt) : (d.setMgt m).bridge = d.bridge := rfl
@[simp] theorem Dev.setMgt_sram (m : Mgt) : (d.setMgt m).sram = d.sram := rfl
@[simp] theorem Dev.setMgt_bursts (m : Mgt) : (d.setMgt m).bursts = d.bursts := rfl
@[simp] theorem Dev.setMgt_port (m : Mgt) : (d.setMgt m).port = d.port := rfl
@[simp] theorem Dev.setMgt_panel (m : Mgt) : (d.setMgt m).panel = d.panel := rfl
@[simp] theorem Dev.setMgt_timing (m : Mgt) : (d.setMgt m).timing = d.timing := rfl
@[simp] theorem Dev.setMgt_modes (m : Mgt) : (d.setMgt m).modes = d.modes := rfl
@[simp] theorem Dev.setMgt_mate (m : Mgt) : (d.setMgt m).mate = d.mate := rfl
@[simp] theorem Dev.setMgt_grm (m : Mgt) : (d.setMgt m).grm = d.grm := rfl
@[simp] theorem Dev.setMgt_inFill (m : Mgt) : (d.setMgt m).inFill = d.inFill := rfl
@[simp] theorem Dev.setMgt_made (m : Mgt) : (d.setMgt m).made = d.made := rfl
@[simp] theorem Dev.setMgt_egress (m : Mgt) : (d.setMgt m).egress = d.egress := rfl
@[simp] theorem Dev.setMgt_inMove (m : Mgt) : (d.setMgt m).inMove = d.inMove := rfl
@[simp] theorem Dev.setMgt_egFill (m : Mgt) : (d.setMgt m).egFill = d.egFill := rfl
@[simp] theorem Dev.setMgt_egRead (m : Mgt) : (d.setMgt m).egRead = d.egRead := rfl
@[simp] theorem Dev.setMgt_mgt (m : Mgt) : (d.setMgt m).mgt = m := rfl

@[simp] theorem Dev.setGrm_now (g : Grm) : (d.setGrm g).now = d.now := rfl
@[simp] theorem Dev.setGrm_fresh (g : Grm) : (d.setGrm g).fresh = d.fresh := rfl
@[simp] theorem Dev.setGrm_words (g : Grm) : (d.setGrm g).words = d.words := rfl
@[simp] theorem Dev.setGrm_activeMap (g : Grm) : (d.setGrm g).activeMap = d.activeMap := rfl
@[simp] theorem Dev.setGrm_shadowMap (g : Grm) : (d.setGrm g).shadowMap = d.shadowMap := rfl
@[simp] theorem Dev.setGrm_lanes (g : Grm) : (d.setGrm g).lanes = d.lanes := rfl
@[simp] theorem Dev.setGrm_paths (g : Grm) : (d.setGrm g).paths = d.paths := rfl
@[simp] theorem Dev.setGrm_restarts (g : Grm) : (d.setGrm g).restarts = d.restarts := rfl
@[simp] theorem Dev.setGrm_structs (g : Grm) : (d.setGrm g).structs = d.structs := rfl
@[simp] theorem Dev.setGrm_gfp (g : Grm) : (d.setGrm g).gfp = d.gfp := rfl
@[simp] theorem Dev.setGrm_snaps (g : Grm) : (d.setGrm g).snaps = d.snaps := rfl
@[simp] theorem Dev.setGrm_replies (g : Grm) : (d.setGrm g).replies = d.replies := rfl
@[simp] theorem Dev.setGrm_acc (g : Grm) : (d.setGrm g).acc = d.acc := rfl
@[simp] theorem Dev.setGrm_accClosed (g : Grm) : (d.setGrm g).accClosed = d.accClosed := rfl
@[simp] theorem Dev.setGrm_est (g : Grm) : (d.setGrm g).est = d.est := rfl
@[simp] theorem Dev.setGrm_estAcc (g : Grm) : (d.setGrm g).estAcc = d.estAcc := rfl
@[simp] theorem Dev.setGrm_ladle (g : Grm) : (d.setGrm g).ladle = d.ladle := rfl
@[simp] theorem Dev.setGrm_bw (g : Grm) : (d.setGrm g).bw = d.bw := rfl
@[simp] theorem Dev.setGrm_skw (g : Grm) : (d.setGrm g).skw = d.skw := rfl
@[simp] theorem Dev.setGrm_fec (g : Grm) : (d.setGrm g).fec = d.fec := rfl
@[simp] theorem Dev.setGrm_psq (g : Grm) : (d.setGrm g).psq = d.psq := rfl
@[simp] theorem Dev.setGrm_flows (g : Grm) : (d.setGrm g).flows = d.flows := rfl
@[simp] theorem Dev.setGrm_groups (g : Grm) : (d.setGrm g).groups = d.groups := rfl
@[simp] theorem Dev.setGrm_members (g : Grm) : (d.setGrm g).members = d.members := rfl
@[simp] theorem Dev.setGrm_msp (g : Grm) : (d.setGrm g).msp = d.msp := rfl
@[simp] theorem Dev.setGrm_snc (g : Grm) : (d.setGrm g).snc = d.snc := rfl
@[simp] theorem Dev.setGrm_applies (g : Grm) : (d.setGrm g).applies = d.applies := rfl
@[simp] theorem Dev.setGrm_selRestart (g : Grm) : (d.setGrm g).selRestart = d.selRestart := rfl
@[simp] theorem Dev.setGrm_bridge (g : Grm) : (d.setGrm g).bridge = d.bridge := rfl
@[simp] theorem Dev.setGrm_sram (g : Grm) : (d.setGrm g).sram = d.sram := rfl
@[simp] theorem Dev.setGrm_bursts (g : Grm) : (d.setGrm g).bursts = d.bursts := rfl
@[simp] theorem Dev.setGrm_port (g : Grm) : (d.setGrm g).port = d.port := rfl
@[simp] theorem Dev.setGrm_mgt (g : Grm) : (d.setGrm g).mgt = d.mgt := rfl
@[simp] theorem Dev.setGrm_panel (g : Grm) : (d.setGrm g).panel = d.panel := rfl
@[simp] theorem Dev.setGrm_timing (g : Grm) : (d.setGrm g).timing = d.timing := rfl
@[simp] theorem Dev.setGrm_modes (g : Grm) : (d.setGrm g).modes = d.modes := rfl
@[simp] theorem Dev.setGrm_mate (g : Grm) : (d.setGrm g).mate = d.mate := rfl
@[simp] theorem Dev.setGrm_inFill (g : Grm) : (d.setGrm g).inFill = d.inFill := rfl
@[simp] theorem Dev.setGrm_made (g : Grm) : (d.setGrm g).made = d.made := rfl
@[simp] theorem Dev.setGrm_egress (g : Grm) : (d.setGrm g).egress = d.egress := rfl
@[simp] theorem Dev.setGrm_inMove (g : Grm) : (d.setGrm g).inMove = d.inMove := rfl
@[simp] theorem Dev.setGrm_egFill (g : Grm) : (d.setGrm g).egFill = d.egFill := rfl
@[simp] theorem Dev.setGrm_egRead (g : Grm) : (d.setGrm g).egRead = d.egRead := rfl
@[simp] theorem Dev.setGrm_grm (g : Grm) : (d.setGrm g).grm = g := rfl

@[simp] theorem Dev.setMate_now (m : Mate) : (d.setMate m).now = d.now := rfl
@[simp] theorem Dev.setMate_fresh (m : Mate) : (d.setMate m).fresh = d.fresh := rfl
@[simp] theorem Dev.setMate_words (m : Mate) : (d.setMate m).words = d.words := rfl
@[simp] theorem Dev.setMate_activeMap (m : Mate) : (d.setMate m).activeMap = d.activeMap := rfl
@[simp] theorem Dev.setMate_shadowMap (m : Mate) : (d.setMate m).shadowMap = d.shadowMap := rfl
@[simp] theorem Dev.setMate_lanes (m : Mate) : (d.setMate m).lanes = d.lanes := rfl
@[simp] theorem Dev.setMate_paths (m : Mate) : (d.setMate m).paths = d.paths := rfl
@[simp] theorem Dev.setMate_restarts (m : Mate) : (d.setMate m).restarts = d.restarts := rfl
@[simp] theorem Dev.setMate_structs (m : Mate) : (d.setMate m).structs = d.structs := rfl
@[simp] theorem Dev.setMate_gfp (m : Mate) : (d.setMate m).gfp = d.gfp := rfl
@[simp] theorem Dev.setMate_snaps (m : Mate) : (d.setMate m).snaps = d.snaps := rfl
@[simp] theorem Dev.setMate_replies (m : Mate) : (d.setMate m).replies = d.replies := rfl
@[simp] theorem Dev.setMate_acc (m : Mate) : (d.setMate m).acc = d.acc := rfl
@[simp] theorem Dev.setMate_accClosed (m : Mate) : (d.setMate m).accClosed = d.accClosed := rfl
@[simp] theorem Dev.setMate_est (m : Mate) : (d.setMate m).est = d.est := rfl
@[simp] theorem Dev.setMate_estAcc (m : Mate) : (d.setMate m).estAcc = d.estAcc := rfl
@[simp] theorem Dev.setMate_ladle (m : Mate) : (d.setMate m).ladle = d.ladle := rfl
@[simp] theorem Dev.setMate_bw (m : Mate) : (d.setMate m).bw = d.bw := rfl
@[simp] theorem Dev.setMate_skw (m : Mate) : (d.setMate m).skw = d.skw := rfl
@[simp] theorem Dev.setMate_fec (m : Mate) : (d.setMate m).fec = d.fec := rfl
@[simp] theorem Dev.setMate_psq (m : Mate) : (d.setMate m).psq = d.psq := rfl
@[simp] theorem Dev.setMate_flows (m : Mate) : (d.setMate m).flows = d.flows := rfl
@[simp] theorem Dev.setMate_groups (m : Mate) : (d.setMate m).groups = d.groups := rfl
@[simp] theorem Dev.setMate_members (m : Mate) : (d.setMate m).members = d.members := rfl
@[simp] theorem Dev.setMate_msp (m : Mate) : (d.setMate m).msp = d.msp := rfl
@[simp] theorem Dev.setMate_snc (m : Mate) : (d.setMate m).snc = d.snc := rfl
@[simp] theorem Dev.setMate_applies (m : Mate) : (d.setMate m).applies = d.applies := rfl
@[simp] theorem Dev.setMate_selRestart (m : Mate) : (d.setMate m).selRestart = d.selRestart := rfl
@[simp] theorem Dev.setMate_bridge (m : Mate) : (d.setMate m).bridge = d.bridge := rfl
@[simp] theorem Dev.setMate_sram (m : Mate) : (d.setMate m).sram = d.sram := rfl
@[simp] theorem Dev.setMate_bursts (m : Mate) : (d.setMate m).bursts = d.bursts := rfl
@[simp] theorem Dev.setMate_port (m : Mate) : (d.setMate m).port = d.port := rfl
@[simp] theorem Dev.setMate_mgt (m : Mate) : (d.setMate m).mgt = d.mgt := rfl
@[simp] theorem Dev.setMate_panel (m : Mate) : (d.setMate m).panel = d.panel := rfl
@[simp] theorem Dev.setMate_timing (m : Mate) : (d.setMate m).timing = d.timing := rfl
@[simp] theorem Dev.setMate_modes (m : Mate) : (d.setMate m).modes = d.modes := rfl
@[simp] theorem Dev.setMate_grm (m : Mate) : (d.setMate m).grm = d.grm := rfl
@[simp] theorem Dev.setMate_inFill (m : Mate) : (d.setMate m).inFill = d.inFill := rfl
@[simp] theorem Dev.setMate_made (m : Mate) : (d.setMate m).made = d.made := rfl
@[simp] theorem Dev.setMate_egress (m : Mate) : (d.setMate m).egress = d.egress := rfl
@[simp] theorem Dev.setMate_inMove (m : Mate) : (d.setMate m).inMove = d.inMove := rfl
@[simp] theorem Dev.setMate_egFill (m : Mate) : (d.setMate m).egFill = d.egFill := rfl
@[simp] theorem Dev.setMate_egRead (m : Mate) : (d.setMate m).egRead = d.egRead := rfl
@[simp] theorem Dev.setMate_mate (m : Mate) : (d.setMate m).mate = m := rfl

@[simp] theorem Dev.setPanel_now (p : Panel) : (d.setPanel p).now = d.now := rfl
@[simp] theorem Dev.setPanel_fresh (p : Panel) : (d.setPanel p).fresh = d.fresh := rfl
@[simp] theorem Dev.setPanel_words (p : Panel) : (d.setPanel p).words = d.words := rfl
@[simp] theorem Dev.setPanel_activeMap (p : Panel) : (d.setPanel p).activeMap = d.activeMap := rfl
@[simp] theorem Dev.setPanel_shadowMap (p : Panel) : (d.setPanel p).shadowMap = d.shadowMap := rfl
@[simp] theorem Dev.setPanel_lanes (p : Panel) : (d.setPanel p).lanes = d.lanes := rfl
@[simp] theorem Dev.setPanel_paths (p : Panel) : (d.setPanel p).paths = d.paths := rfl
@[simp] theorem Dev.setPanel_restarts (p : Panel) : (d.setPanel p).restarts = d.restarts := rfl
@[simp] theorem Dev.setPanel_structs (p : Panel) : (d.setPanel p).structs = d.structs := rfl
@[simp] theorem Dev.setPanel_gfp (p : Panel) : (d.setPanel p).gfp = d.gfp := rfl
@[simp] theorem Dev.setPanel_snaps (p : Panel) : (d.setPanel p).snaps = d.snaps := rfl
@[simp] theorem Dev.setPanel_replies (p : Panel) : (d.setPanel p).replies = d.replies := rfl
@[simp] theorem Dev.setPanel_acc (p : Panel) : (d.setPanel p).acc = d.acc := rfl
@[simp] theorem Dev.setPanel_accClosed (p : Panel) : (d.setPanel p).accClosed = d.accClosed := rfl
@[simp] theorem Dev.setPanel_est (p : Panel) : (d.setPanel p).est = d.est := rfl
@[simp] theorem Dev.setPanel_estAcc (p : Panel) : (d.setPanel p).estAcc = d.estAcc := rfl
@[simp] theorem Dev.setPanel_ladle (p : Panel) : (d.setPanel p).ladle = d.ladle := rfl
@[simp] theorem Dev.setPanel_bw (p : Panel) : (d.setPanel p).bw = d.bw := rfl
@[simp] theorem Dev.setPanel_skw (p : Panel) : (d.setPanel p).skw = d.skw := rfl
@[simp] theorem Dev.setPanel_fec (p : Panel) : (d.setPanel p).fec = d.fec := rfl
@[simp] theorem Dev.setPanel_psq (p : Panel) : (d.setPanel p).psq = d.psq := rfl
@[simp] theorem Dev.setPanel_flows (p : Panel) : (d.setPanel p).flows = d.flows := rfl
@[simp] theorem Dev.setPanel_groups (p : Panel) : (d.setPanel p).groups = d.groups := rfl
@[simp] theorem Dev.setPanel_members (p : Panel) : (d.setPanel p).members = d.members := rfl
@[simp] theorem Dev.setPanel_msp (p : Panel) : (d.setPanel p).msp = d.msp := rfl
@[simp] theorem Dev.setPanel_snc (p : Panel) : (d.setPanel p).snc = d.snc := rfl
@[simp] theorem Dev.setPanel_applies (p : Panel) : (d.setPanel p).applies = d.applies := rfl
@[simp] theorem Dev.setPanel_selRestart (p : Panel) : (d.setPanel p).selRestart = d.selRestart := rfl
@[simp] theorem Dev.setPanel_bridge (p : Panel) : (d.setPanel p).bridge = d.bridge := rfl
@[simp] theorem Dev.setPanel_sram (p : Panel) : (d.setPanel p).sram = d.sram := rfl
@[simp] theorem Dev.setPanel_bursts (p : Panel) : (d.setPanel p).bursts = d.bursts := rfl
@[simp] theorem Dev.setPanel_port (p : Panel) : (d.setPanel p).port = d.port := rfl
@[simp] theorem Dev.setPanel_mgt (p : Panel) : (d.setPanel p).mgt = d.mgt := rfl
@[simp] theorem Dev.setPanel_timing (p : Panel) : (d.setPanel p).timing = d.timing := rfl
@[simp] theorem Dev.setPanel_modes (p : Panel) : (d.setPanel p).modes = d.modes := rfl
@[simp] theorem Dev.setPanel_mate (p : Panel) : (d.setPanel p).mate = d.mate := rfl
@[simp] theorem Dev.setPanel_grm (p : Panel) : (d.setPanel p).grm = d.grm := rfl
@[simp] theorem Dev.setPanel_inFill (p : Panel) : (d.setPanel p).inFill = d.inFill := rfl
@[simp] theorem Dev.setPanel_made (p : Panel) : (d.setPanel p).made = d.made := rfl
@[simp] theorem Dev.setPanel_egress (p : Panel) : (d.setPanel p).egress = d.egress := rfl
@[simp] theorem Dev.setPanel_inMove (p : Panel) : (d.setPanel p).inMove = d.inMove := rfl
@[simp] theorem Dev.setPanel_egFill (p : Panel) : (d.setPanel p).egFill = d.egFill := rfl
@[simp] theorem Dev.setPanel_egRead (p : Panel) : (d.setPanel p).egRead = d.egRead := rfl
@[simp] theorem Dev.setPanel_panel (p : Panel) : (d.setPanel p).panel = p := rfl

@[simp] theorem Dev.setPort_now (p : Port) : (d.setPort p).now = d.now := rfl
@[simp] theorem Dev.setPort_fresh (p : Port) : (d.setPort p).fresh = d.fresh := rfl
@[simp] theorem Dev.setPort_words (p : Port) : (d.setPort p).words = d.words := rfl
@[simp] theorem Dev.setPort_activeMap (p : Port) : (d.setPort p).activeMap = d.activeMap := rfl
@[simp] theorem Dev.setPort_shadowMap (p : Port) : (d.setPort p).shadowMap = d.shadowMap := rfl
@[simp] theorem Dev.setPort_lanes (p : Port) : (d.setPort p).lanes = d.lanes := rfl
@[simp] theorem Dev.setPort_paths (p : Port) : (d.setPort p).paths = d.paths := rfl
@[simp] theorem Dev.setPort_restarts (p : Port) : (d.setPort p).restarts = d.restarts := rfl
@[simp] theorem Dev.setPort_structs (p : Port) : (d.setPort p).structs = d.structs := rfl
@[simp] theorem Dev.setPort_gfp (p : Port) : (d.setPort p).gfp = d.gfp := rfl
@[simp] theorem Dev.setPort_snaps (p : Port) : (d.setPort p).snaps = d.snaps := rfl
@[simp] theorem Dev.setPort_replies (p : Port) : (d.setPort p).replies = d.replies := rfl
@[simp] theorem Dev.setPort_acc (p : Port) : (d.setPort p).acc = d.acc := rfl
@[simp] theorem Dev.setPort_accClosed (p : Port) : (d.setPort p).accClosed = d.accClosed := rfl
@[simp] theorem Dev.setPort_est (p : Port) : (d.setPort p).est = d.est := rfl
@[simp] theorem Dev.setPort_estAcc (p : Port) : (d.setPort p).estAcc = d.estAcc := rfl
@[simp] theorem Dev.setPort_ladle (p : Port) : (d.setPort p).ladle = d.ladle := rfl
@[simp] theorem Dev.setPort_bw (p : Port) : (d.setPort p).bw = d.bw := rfl
@[simp] theorem Dev.setPort_skw (p : Port) : (d.setPort p).skw = d.skw := rfl
@[simp] theorem Dev.setPort_fec (p : Port) : (d.setPort p).fec = d.fec := rfl
@[simp] theorem Dev.setPort_psq (p : Port) : (d.setPort p).psq = d.psq := rfl
@[simp] theorem Dev.setPort_flows (p : Port) : (d.setPort p).flows = d.flows := rfl
@[simp] theorem Dev.setPort_groups (p : Port) : (d.setPort p).groups = d.groups := rfl
@[simp] theorem Dev.setPort_members (p : Port) : (d.setPort p).members = d.members := rfl
@[simp] theorem Dev.setPort_msp (p : Port) : (d.setPort p).msp = d.msp := rfl
@[simp] theorem Dev.setPort_snc (p : Port) : (d.setPort p).snc = d.snc := rfl
@[simp] theorem Dev.setPort_applies (p : Port) : (d.setPort p).applies = d.applies := rfl
@[simp] theorem Dev.setPort_selRestart (p : Port) : (d.setPort p).selRestart = d.selRestart := rfl
@[simp] theorem Dev.setPort_bridge (p : Port) : (d.setPort p).bridge = d.bridge := rfl
@[simp] theorem Dev.setPort_sram (p : Port) : (d.setPort p).sram = d.sram := rfl
@[simp] theorem Dev.setPort_bursts (p : Port) : (d.setPort p).bursts = d.bursts := rfl
@[simp] theorem Dev.setPort_mgt (p : Port) : (d.setPort p).mgt = d.mgt := rfl
@[simp] theorem Dev.setPort_panel (p : Port) : (d.setPort p).panel = d.panel := rfl
@[simp] theorem Dev.setPort_timing (p : Port) : (d.setPort p).timing = d.timing := rfl
@[simp] theorem Dev.setPort_modes (p : Port) : (d.setPort p).modes = d.modes := rfl
@[simp] theorem Dev.setPort_mate (p : Port) : (d.setPort p).mate = d.mate := rfl
@[simp] theorem Dev.setPort_grm (p : Port) : (d.setPort p).grm = d.grm := rfl
@[simp] theorem Dev.setPort_inFill (p : Port) : (d.setPort p).inFill = d.inFill := rfl
@[simp] theorem Dev.setPort_made (p : Port) : (d.setPort p).made = d.made := rfl
@[simp] theorem Dev.setPort_egress (p : Port) : (d.setPort p).egress = d.egress := rfl
@[simp] theorem Dev.setPort_inMove (p : Port) : (d.setPort p).inMove = d.inMove := rfl
@[simp] theorem Dev.setPort_egFill (p : Port) : (d.setPort p).egFill = d.egFill := rfl
@[simp] theorem Dev.setPort_egRead (p : Port) : (d.setPort p).egRead = d.egRead := rfl
@[simp] theorem Dev.setPort_port (p : Port) : (d.setPort p).port = p := rfl

theorem Dev.with_msp_now (l : Store ProtSt) : ({ d with msp := l } : Dev).now = d.now := rfl
@[simp] theorem Dev.setMsp_now (g : Nat) (p : ProtSt) : (d.setMsp g p).now = d.now := Dev.with_msp_now d _
theorem Dev.with_msp_fresh (l : Store ProtSt) : ({ d with msp := l } : Dev).fresh = d.fresh := rfl
@[simp] theorem Dev.setMsp_fresh (g : Nat) (p : ProtSt) : (d.setMsp g p).fresh = d.fresh := Dev.with_msp_fresh d _
theorem Dev.with_msp_words (l : Store ProtSt) : ({ d with msp := l } : Dev).words = d.words := rfl
@[simp] theorem Dev.setMsp_words (g : Nat) (p : ProtSt) : (d.setMsp g p).words = d.words := Dev.with_msp_words d _
theorem Dev.with_msp_activeMap (l : Store ProtSt) : ({ d with msp := l } : Dev).activeMap = d.activeMap := rfl
@[simp] theorem Dev.setMsp_activeMap (g : Nat) (p : ProtSt) : (d.setMsp g p).activeMap = d.activeMap := Dev.with_msp_activeMap d _
theorem Dev.with_msp_shadowMap (l : Store ProtSt) : ({ d with msp := l } : Dev).shadowMap = d.shadowMap := rfl
@[simp] theorem Dev.setMsp_shadowMap (g : Nat) (p : ProtSt) : (d.setMsp g p).shadowMap = d.shadowMap := Dev.with_msp_shadowMap d _
theorem Dev.with_msp_lanes (l : Store ProtSt) : ({ d with msp := l } : Dev).lanes = d.lanes := rfl
@[simp] theorem Dev.setMsp_lanes (g : Nat) (p : ProtSt) : (d.setMsp g p).lanes = d.lanes := Dev.with_msp_lanes d _
theorem Dev.with_msp_paths (l : Store ProtSt) : ({ d with msp := l } : Dev).paths = d.paths := rfl
@[simp] theorem Dev.setMsp_paths (g : Nat) (p : ProtSt) : (d.setMsp g p).paths = d.paths := Dev.with_msp_paths d _
theorem Dev.with_msp_restarts (l : Store ProtSt) : ({ d with msp := l } : Dev).restarts = d.restarts := rfl
@[simp] theorem Dev.setMsp_restarts (g : Nat) (p : ProtSt) : (d.setMsp g p).restarts = d.restarts := Dev.with_msp_restarts d _
theorem Dev.with_msp_structs (l : Store ProtSt) : ({ d with msp := l } : Dev).structs = d.structs := rfl
@[simp] theorem Dev.setMsp_structs (g : Nat) (p : ProtSt) : (d.setMsp g p).structs = d.structs := Dev.with_msp_structs d _
theorem Dev.with_msp_gfp (l : Store ProtSt) : ({ d with msp := l } : Dev).gfp = d.gfp := rfl
@[simp] theorem Dev.setMsp_gfp (g : Nat) (p : ProtSt) : (d.setMsp g p).gfp = d.gfp := Dev.with_msp_gfp d _
theorem Dev.with_msp_snaps (l : Store ProtSt) : ({ d with msp := l } : Dev).snaps = d.snaps := rfl
@[simp] theorem Dev.setMsp_snaps (g : Nat) (p : ProtSt) : (d.setMsp g p).snaps = d.snaps := Dev.with_msp_snaps d _
theorem Dev.with_msp_replies (l : Store ProtSt) : ({ d with msp := l } : Dev).replies = d.replies := rfl
@[simp] theorem Dev.setMsp_replies (g : Nat) (p : ProtSt) : (d.setMsp g p).replies = d.replies := Dev.with_msp_replies d _
theorem Dev.with_msp_acc (l : Store ProtSt) : ({ d with msp := l } : Dev).acc = d.acc := rfl
@[simp] theorem Dev.setMsp_acc (g : Nat) (p : ProtSt) : (d.setMsp g p).acc = d.acc := Dev.with_msp_acc d _
theorem Dev.with_msp_accClosed (l : Store ProtSt) : ({ d with msp := l } : Dev).accClosed = d.accClosed := rfl
@[simp] theorem Dev.setMsp_accClosed (g : Nat) (p : ProtSt) : (d.setMsp g p).accClosed = d.accClosed := Dev.with_msp_accClosed d _
theorem Dev.with_msp_est (l : Store ProtSt) : ({ d with msp := l } : Dev).est = d.est := rfl
@[simp] theorem Dev.setMsp_est (g : Nat) (p : ProtSt) : (d.setMsp g p).est = d.est := Dev.with_msp_est d _
theorem Dev.with_msp_estAcc (l : Store ProtSt) : ({ d with msp := l } : Dev).estAcc = d.estAcc := rfl
@[simp] theorem Dev.setMsp_estAcc (g : Nat) (p : ProtSt) : (d.setMsp g p).estAcc = d.estAcc := Dev.with_msp_estAcc d _
theorem Dev.with_msp_ladle (l : Store ProtSt) : ({ d with msp := l } : Dev).ladle = d.ladle := rfl
@[simp] theorem Dev.setMsp_ladle (g : Nat) (p : ProtSt) : (d.setMsp g p).ladle = d.ladle := Dev.with_msp_ladle d _
theorem Dev.with_msp_bw (l : Store ProtSt) : ({ d with msp := l } : Dev).bw = d.bw := rfl
@[simp] theorem Dev.setMsp_bw (g : Nat) (p : ProtSt) : (d.setMsp g p).bw = d.bw := Dev.with_msp_bw d _
theorem Dev.with_msp_skw (l : Store ProtSt) : ({ d with msp := l } : Dev).skw = d.skw := rfl
@[simp] theorem Dev.setMsp_skw (g : Nat) (p : ProtSt) : (d.setMsp g p).skw = d.skw := Dev.with_msp_skw d _
theorem Dev.with_msp_fec (l : Store ProtSt) : ({ d with msp := l } : Dev).fec = d.fec := rfl
@[simp] theorem Dev.setMsp_fec (g : Nat) (p : ProtSt) : (d.setMsp g p).fec = d.fec := Dev.with_msp_fec d _
theorem Dev.with_msp_psq (l : Store ProtSt) : ({ d with msp := l } : Dev).psq = d.psq := rfl
@[simp] theorem Dev.setMsp_psq (g : Nat) (p : ProtSt) : (d.setMsp g p).psq = d.psq := Dev.with_msp_psq d _
theorem Dev.with_msp_flows (l : Store ProtSt) : ({ d with msp := l } : Dev).flows = d.flows := rfl
@[simp] theorem Dev.setMsp_flows (g : Nat) (p : ProtSt) : (d.setMsp g p).flows = d.flows := Dev.with_msp_flows d _
theorem Dev.with_msp_groups (l : Store ProtSt) : ({ d with msp := l } : Dev).groups = d.groups := rfl
@[simp] theorem Dev.setMsp_groups (g : Nat) (p : ProtSt) : (d.setMsp g p).groups = d.groups := Dev.with_msp_groups d _
theorem Dev.with_msp_members (l : Store ProtSt) : ({ d with msp := l } : Dev).members = d.members := rfl
@[simp] theorem Dev.setMsp_members (g : Nat) (p : ProtSt) : (d.setMsp g p).members = d.members := Dev.with_msp_members d _
theorem Dev.with_msp_snc (l : Store ProtSt) : ({ d with msp := l } : Dev).snc = d.snc := rfl
@[simp] theorem Dev.setMsp_snc (g : Nat) (p : ProtSt) : (d.setMsp g p).snc = d.snc := Dev.with_msp_snc d _
theorem Dev.with_msp_applies (l : Store ProtSt) : ({ d with msp := l } : Dev).applies = d.applies := rfl
@[simp] theorem Dev.setMsp_applies (g : Nat) (p : ProtSt) : (d.setMsp g p).applies = d.applies := Dev.with_msp_applies d _
theorem Dev.with_msp_selRestart (l : Store ProtSt) : ({ d with msp := l } : Dev).selRestart = d.selRestart := rfl
@[simp] theorem Dev.setMsp_selRestart (g : Nat) (p : ProtSt) : (d.setMsp g p).selRestart = d.selRestart := Dev.with_msp_selRestart d _
theorem Dev.with_msp_bridge (l : Store ProtSt) : ({ d with msp := l } : Dev).bridge = d.bridge := rfl
@[simp] theorem Dev.setMsp_bridge (g : Nat) (p : ProtSt) : (d.setMsp g p).bridge = d.bridge := Dev.with_msp_bridge d _
theorem Dev.with_msp_sram (l : Store ProtSt) : ({ d with msp := l } : Dev).sram = d.sram := rfl
@[simp] theorem Dev.setMsp_sram (g : Nat) (p : ProtSt) : (d.setMsp g p).sram = d.sram := Dev.with_msp_sram d _
theorem Dev.with_msp_bursts (l : Store ProtSt) : ({ d with msp := l } : Dev).bursts = d.bursts := rfl
@[simp] theorem Dev.setMsp_bursts (g : Nat) (p : ProtSt) : (d.setMsp g p).bursts = d.bursts := Dev.with_msp_bursts d _
theorem Dev.with_msp_port (l : Store ProtSt) : ({ d with msp := l } : Dev).port = d.port := rfl
@[simp] theorem Dev.setMsp_port (g : Nat) (p : ProtSt) : (d.setMsp g p).port = d.port := Dev.with_msp_port d _
theorem Dev.with_msp_mgt (l : Store ProtSt) : ({ d with msp := l } : Dev).mgt = d.mgt := rfl
@[simp] theorem Dev.setMsp_mgt (g : Nat) (p : ProtSt) : (d.setMsp g p).mgt = d.mgt := Dev.with_msp_mgt d _
theorem Dev.with_msp_panel (l : Store ProtSt) : ({ d with msp := l } : Dev).panel = d.panel := rfl
@[simp] theorem Dev.setMsp_panel (g : Nat) (p : ProtSt) : (d.setMsp g p).panel = d.panel := Dev.with_msp_panel d _
theorem Dev.with_msp_timing (l : Store ProtSt) : ({ d with msp := l } : Dev).timing = d.timing := rfl
@[simp] theorem Dev.setMsp_timing (g : Nat) (p : ProtSt) : (d.setMsp g p).timing = d.timing := Dev.with_msp_timing d _
theorem Dev.with_msp_modes (l : Store ProtSt) : ({ d with msp := l } : Dev).modes = d.modes := rfl
@[simp] theorem Dev.setMsp_modes (g : Nat) (p : ProtSt) : (d.setMsp g p).modes = d.modes := Dev.with_msp_modes d _
theorem Dev.with_msp_mate (l : Store ProtSt) : ({ d with msp := l } : Dev).mate = d.mate := rfl
@[simp] theorem Dev.setMsp_mate (g : Nat) (p : ProtSt) : (d.setMsp g p).mate = d.mate := Dev.with_msp_mate d _
theorem Dev.with_msp_grm (l : Store ProtSt) : ({ d with msp := l } : Dev).grm = d.grm := rfl
@[simp] theorem Dev.setMsp_grm (g : Nat) (p : ProtSt) : (d.setMsp g p).grm = d.grm := Dev.with_msp_grm d _
theorem Dev.with_msp_inFill (l : Store ProtSt) : ({ d with msp := l } : Dev).inFill = d.inFill := rfl
@[simp] theorem Dev.setMsp_inFill (g : Nat) (p : ProtSt) : (d.setMsp g p).inFill = d.inFill := Dev.with_msp_inFill d _
theorem Dev.with_msp_made (l : Store ProtSt) : ({ d with msp := l } : Dev).made = d.made := rfl
@[simp] theorem Dev.setMsp_made (g : Nat) (p : ProtSt) : (d.setMsp g p).made = d.made := Dev.with_msp_made d _
theorem Dev.with_msp_egress (l : Store ProtSt) : ({ d with msp := l } : Dev).egress = d.egress := rfl
@[simp] theorem Dev.setMsp_egress (g : Nat) (p : ProtSt) : (d.setMsp g p).egress = d.egress := Dev.with_msp_egress d _
theorem Dev.with_msp_inMove (l : Store ProtSt) : ({ d with msp := l } : Dev).inMove = d.inMove := rfl
@[simp] theorem Dev.setMsp_inMove (g : Nat) (p : ProtSt) : (d.setMsp g p).inMove = d.inMove := Dev.with_msp_inMove d _
theorem Dev.with_msp_egFill (l : Store ProtSt) : ({ d with msp := l } : Dev).egFill = d.egFill := rfl
@[simp] theorem Dev.setMsp_egFill (g : Nat) (p : ProtSt) : (d.setMsp g p).egFill = d.egFill := Dev.with_msp_egFill d _
theorem Dev.with_msp_egRead (l : Store ProtSt) : ({ d with msp := l } : Dev).egRead = d.egRead := rfl
@[simp] theorem Dev.setMsp_egRead (g : Nat) (p : ProtSt) : (d.setMsp g p).egRead = d.egRead := Dev.with_msp_egRead d _

theorem Dev.with_snc_now (l : Store ProtSt) : ({ d with snc := l } : Dev).now = d.now := rfl
@[simp] theorem Dev.setSnc_now (i : Nat) (p : ProtSt) : (d.setSnc i p).now = d.now := Dev.with_snc_now d _
theorem Dev.with_snc_fresh (l : Store ProtSt) : ({ d with snc := l } : Dev).fresh = d.fresh := rfl
@[simp] theorem Dev.setSnc_fresh (i : Nat) (p : ProtSt) : (d.setSnc i p).fresh = d.fresh := Dev.with_snc_fresh d _
theorem Dev.with_snc_words (l : Store ProtSt) : ({ d with snc := l } : Dev).words = d.words := rfl
@[simp] theorem Dev.setSnc_words (i : Nat) (p : ProtSt) : (d.setSnc i p).words = d.words := Dev.with_snc_words d _
theorem Dev.with_snc_activeMap (l : Store ProtSt) : ({ d with snc := l } : Dev).activeMap = d.activeMap := rfl
@[simp] theorem Dev.setSnc_activeMap (i : Nat) (p : ProtSt) : (d.setSnc i p).activeMap = d.activeMap := Dev.with_snc_activeMap d _
theorem Dev.with_snc_shadowMap (l : Store ProtSt) : ({ d with snc := l } : Dev).shadowMap = d.shadowMap := rfl
@[simp] theorem Dev.setSnc_shadowMap (i : Nat) (p : ProtSt) : (d.setSnc i p).shadowMap = d.shadowMap := Dev.with_snc_shadowMap d _
theorem Dev.with_snc_lanes (l : Store ProtSt) : ({ d with snc := l } : Dev).lanes = d.lanes := rfl
@[simp] theorem Dev.setSnc_lanes (i : Nat) (p : ProtSt) : (d.setSnc i p).lanes = d.lanes := Dev.with_snc_lanes d _
theorem Dev.with_snc_paths (l : Store ProtSt) : ({ d with snc := l } : Dev).paths = d.paths := rfl
@[simp] theorem Dev.setSnc_paths (i : Nat) (p : ProtSt) : (d.setSnc i p).paths = d.paths := Dev.with_snc_paths d _
theorem Dev.with_snc_restarts (l : Store ProtSt) : ({ d with snc := l } : Dev).restarts = d.restarts := rfl
@[simp] theorem Dev.setSnc_restarts (i : Nat) (p : ProtSt) : (d.setSnc i p).restarts = d.restarts := Dev.with_snc_restarts d _
theorem Dev.with_snc_structs (l : Store ProtSt) : ({ d with snc := l } : Dev).structs = d.structs := rfl
@[simp] theorem Dev.setSnc_structs (i : Nat) (p : ProtSt) : (d.setSnc i p).structs = d.structs := Dev.with_snc_structs d _
theorem Dev.with_snc_gfp (l : Store ProtSt) : ({ d with snc := l } : Dev).gfp = d.gfp := rfl
@[simp] theorem Dev.setSnc_gfp (i : Nat) (p : ProtSt) : (d.setSnc i p).gfp = d.gfp := Dev.with_snc_gfp d _
theorem Dev.with_snc_snaps (l : Store ProtSt) : ({ d with snc := l } : Dev).snaps = d.snaps := rfl
@[simp] theorem Dev.setSnc_snaps (i : Nat) (p : ProtSt) : (d.setSnc i p).snaps = d.snaps := Dev.with_snc_snaps d _
theorem Dev.with_snc_replies (l : Store ProtSt) : ({ d with snc := l } : Dev).replies = d.replies := rfl
@[simp] theorem Dev.setSnc_replies (i : Nat) (p : ProtSt) : (d.setSnc i p).replies = d.replies := Dev.with_snc_replies d _
theorem Dev.with_snc_acc (l : Store ProtSt) : ({ d with snc := l } : Dev).acc = d.acc := rfl
@[simp] theorem Dev.setSnc_acc (i : Nat) (p : ProtSt) : (d.setSnc i p).acc = d.acc := Dev.with_snc_acc d _
theorem Dev.with_snc_accClosed (l : Store ProtSt) : ({ d with snc := l } : Dev).accClosed = d.accClosed := rfl
@[simp] theorem Dev.setSnc_accClosed (i : Nat) (p : ProtSt) : (d.setSnc i p).accClosed = d.accClosed := Dev.with_snc_accClosed d _
theorem Dev.with_snc_est (l : Store ProtSt) : ({ d with snc := l } : Dev).est = d.est := rfl
@[simp] theorem Dev.setSnc_est (i : Nat) (p : ProtSt) : (d.setSnc i p).est = d.est := Dev.with_snc_est d _
theorem Dev.with_snc_estAcc (l : Store ProtSt) : ({ d with snc := l } : Dev).estAcc = d.estAcc := rfl
@[simp] theorem Dev.setSnc_estAcc (i : Nat) (p : ProtSt) : (d.setSnc i p).estAcc = d.estAcc := Dev.with_snc_estAcc d _
theorem Dev.with_snc_ladle (l : Store ProtSt) : ({ d with snc := l } : Dev).ladle = d.ladle := rfl
@[simp] theorem Dev.setSnc_ladle (i : Nat) (p : ProtSt) : (d.setSnc i p).ladle = d.ladle := Dev.with_snc_ladle d _
theorem Dev.with_snc_bw (l : Store ProtSt) : ({ d with snc := l } : Dev).bw = d.bw := rfl
@[simp] theorem Dev.setSnc_bw (i : Nat) (p : ProtSt) : (d.setSnc i p).bw = d.bw := Dev.with_snc_bw d _
theorem Dev.with_snc_skw (l : Store ProtSt) : ({ d with snc := l } : Dev).skw = d.skw := rfl
@[simp] theorem Dev.setSnc_skw (i : Nat) (p : ProtSt) : (d.setSnc i p).skw = d.skw := Dev.with_snc_skw d _
theorem Dev.with_snc_fec (l : Store ProtSt) : ({ d with snc := l } : Dev).fec = d.fec := rfl
@[simp] theorem Dev.setSnc_fec (i : Nat) (p : ProtSt) : (d.setSnc i p).fec = d.fec := Dev.with_snc_fec d _
theorem Dev.with_snc_psq (l : Store ProtSt) : ({ d with snc := l } : Dev).psq = d.psq := rfl
@[simp] theorem Dev.setSnc_psq (i : Nat) (p : ProtSt) : (d.setSnc i p).psq = d.psq := Dev.with_snc_psq d _
theorem Dev.with_snc_flows (l : Store ProtSt) : ({ d with snc := l } : Dev).flows = d.flows := rfl
@[simp] theorem Dev.setSnc_flows (i : Nat) (p : ProtSt) : (d.setSnc i p).flows = d.flows := Dev.with_snc_flows d _
theorem Dev.with_snc_groups (l : Store ProtSt) : ({ d with snc := l } : Dev).groups = d.groups := rfl
@[simp] theorem Dev.setSnc_groups (i : Nat) (p : ProtSt) : (d.setSnc i p).groups = d.groups := Dev.with_snc_groups d _
theorem Dev.with_snc_members (l : Store ProtSt) : ({ d with snc := l } : Dev).members = d.members := rfl
@[simp] theorem Dev.setSnc_members (i : Nat) (p : ProtSt) : (d.setSnc i p).members = d.members := Dev.with_snc_members d _
theorem Dev.with_snc_msp (l : Store ProtSt) : ({ d with snc := l } : Dev).msp = d.msp := rfl
@[simp] theorem Dev.setSnc_msp (i : Nat) (p : ProtSt) : (d.setSnc i p).msp = d.msp := Dev.with_snc_msp d _
theorem Dev.with_snc_applies (l : Store ProtSt) : ({ d with snc := l } : Dev).applies = d.applies := rfl
@[simp] theorem Dev.setSnc_applies (i : Nat) (p : ProtSt) : (d.setSnc i p).applies = d.applies := Dev.with_snc_applies d _
theorem Dev.with_snc_selRestart (l : Store ProtSt) : ({ d with snc := l } : Dev).selRestart = d.selRestart := rfl
@[simp] theorem Dev.setSnc_selRestart (i : Nat) (p : ProtSt) : (d.setSnc i p).selRestart = d.selRestart := Dev.with_snc_selRestart d _
theorem Dev.with_snc_bridge (l : Store ProtSt) : ({ d with snc := l } : Dev).bridge = d.bridge := rfl
@[simp] theorem Dev.setSnc_bridge (i : Nat) (p : ProtSt) : (d.setSnc i p).bridge = d.bridge := Dev.with_snc_bridge d _
theorem Dev.with_snc_sram (l : Store ProtSt) : ({ d with snc := l } : Dev).sram = d.sram := rfl
@[simp] theorem Dev.setSnc_sram (i : Nat) (p : ProtSt) : (d.setSnc i p).sram = d.sram := Dev.with_snc_sram d _
theorem Dev.with_snc_bursts (l : Store ProtSt) : ({ d with snc := l } : Dev).bursts = d.bursts := rfl
@[simp] theorem Dev.setSnc_bursts (i : Nat) (p : ProtSt) : (d.setSnc i p).bursts = d.bursts := Dev.with_snc_bursts d _
theorem Dev.with_snc_port (l : Store ProtSt) : ({ d with snc := l } : Dev).port = d.port := rfl
@[simp] theorem Dev.setSnc_port (i : Nat) (p : ProtSt) : (d.setSnc i p).port = d.port := Dev.with_snc_port d _
theorem Dev.with_snc_mgt (l : Store ProtSt) : ({ d with snc := l } : Dev).mgt = d.mgt := rfl
@[simp] theorem Dev.setSnc_mgt (i : Nat) (p : ProtSt) : (d.setSnc i p).mgt = d.mgt := Dev.with_snc_mgt d _
theorem Dev.with_snc_panel (l : Store ProtSt) : ({ d with snc := l } : Dev).panel = d.panel := rfl
@[simp] theorem Dev.setSnc_panel (i : Nat) (p : ProtSt) : (d.setSnc i p).panel = d.panel := Dev.with_snc_panel d _
theorem Dev.with_snc_timing (l : Store ProtSt) : ({ d with snc := l } : Dev).timing = d.timing := rfl
@[simp] theorem Dev.setSnc_timing (i : Nat) (p : ProtSt) : (d.setSnc i p).timing = d.timing := Dev.with_snc_timing d _
theorem Dev.with_snc_modes (l : Store ProtSt) : ({ d with snc := l } : Dev).modes = d.modes := rfl
@[simp] theorem Dev.setSnc_modes (i : Nat) (p : ProtSt) : (d.setSnc i p).modes = d.modes := Dev.with_snc_modes d _
theorem Dev.with_snc_mate (l : Store ProtSt) : ({ d with snc := l } : Dev).mate = d.mate := rfl
@[simp] theorem Dev.setSnc_mate (i : Nat) (p : ProtSt) : (d.setSnc i p).mate = d.mate := Dev.with_snc_mate d _
theorem Dev.with_snc_grm (l : Store ProtSt) : ({ d with snc := l } : Dev).grm = d.grm := rfl
@[simp] theorem Dev.setSnc_grm (i : Nat) (p : ProtSt) : (d.setSnc i p).grm = d.grm := Dev.with_snc_grm d _
theorem Dev.with_snc_inFill (l : Store ProtSt) : ({ d with snc := l } : Dev).inFill = d.inFill := rfl
@[simp] theorem Dev.setSnc_inFill (i : Nat) (p : ProtSt) : (d.setSnc i p).inFill = d.inFill := Dev.with_snc_inFill d _
theorem Dev.with_snc_made (l : Store ProtSt) : ({ d with snc := l } : Dev).made = d.made := rfl
@[simp] theorem Dev.setSnc_made (i : Nat) (p : ProtSt) : (d.setSnc i p).made = d.made := Dev.with_snc_made d _
theorem Dev.with_snc_egress (l : Store ProtSt) : ({ d with snc := l } : Dev).egress = d.egress := rfl
@[simp] theorem Dev.setSnc_egress (i : Nat) (p : ProtSt) : (d.setSnc i p).egress = d.egress := Dev.with_snc_egress d _
theorem Dev.with_snc_inMove (l : Store ProtSt) : ({ d with snc := l } : Dev).inMove = d.inMove := rfl
@[simp] theorem Dev.setSnc_inMove (i : Nat) (p : ProtSt) : (d.setSnc i p).inMove = d.inMove := Dev.with_snc_inMove d _
theorem Dev.with_snc_egFill (l : Store ProtSt) : ({ d with snc := l } : Dev).egFill = d.egFill := rfl
@[simp] theorem Dev.setSnc_egFill (i : Nat) (p : ProtSt) : (d.setSnc i p).egFill = d.egFill := Dev.with_snc_egFill d _
theorem Dev.with_snc_egRead (l : Store ProtSt) : ({ d with snc := l } : Dev).egRead = d.egRead := rfl
@[simp] theorem Dev.setSnc_egRead (i : Nat) (p : ProtSt) : (d.setSnc i p).egRead = d.egRead := Dev.with_snc_egRead d _

theorem Dev.with_groups_now (l : Store GroupSt) : ({ d with groups := l } : Dev).now = d.now := rfl
@[simp] theorem Dev.setGroup_now (g : Nat) (x : GroupSt) : (d.setGroup g x).now = d.now := Dev.with_groups_now d _
theorem Dev.with_groups_fresh (l : Store GroupSt) : ({ d with groups := l } : Dev).fresh = d.fresh := rfl
@[simp] theorem Dev.setGroup_fresh (g : Nat) (x : GroupSt) : (d.setGroup g x).fresh = d.fresh := Dev.with_groups_fresh d _
theorem Dev.with_groups_words (l : Store GroupSt) : ({ d with groups := l } : Dev).words = d.words := rfl
@[simp] theorem Dev.setGroup_words (g : Nat) (x : GroupSt) : (d.setGroup g x).words = d.words := Dev.with_groups_words d _
theorem Dev.with_groups_activeMap (l : Store GroupSt) : ({ d with groups := l } : Dev).activeMap = d.activeMap := rfl
@[simp] theorem Dev.setGroup_activeMap (g : Nat) (x : GroupSt) : (d.setGroup g x).activeMap = d.activeMap := Dev.with_groups_activeMap d _
theorem Dev.with_groups_shadowMap (l : Store GroupSt) : ({ d with groups := l } : Dev).shadowMap = d.shadowMap := rfl
@[simp] theorem Dev.setGroup_shadowMap (g : Nat) (x : GroupSt) : (d.setGroup g x).shadowMap = d.shadowMap := Dev.with_groups_shadowMap d _
theorem Dev.with_groups_lanes (l : Store GroupSt) : ({ d with groups := l } : Dev).lanes = d.lanes := rfl
@[simp] theorem Dev.setGroup_lanes (g : Nat) (x : GroupSt) : (d.setGroup g x).lanes = d.lanes := Dev.with_groups_lanes d _
theorem Dev.with_groups_paths (l : Store GroupSt) : ({ d with groups := l } : Dev).paths = d.paths := rfl
@[simp] theorem Dev.setGroup_paths (g : Nat) (x : GroupSt) : (d.setGroup g x).paths = d.paths := Dev.with_groups_paths d _
theorem Dev.with_groups_restarts (l : Store GroupSt) : ({ d with groups := l } : Dev).restarts = d.restarts := rfl
@[simp] theorem Dev.setGroup_restarts (g : Nat) (x : GroupSt) : (d.setGroup g x).restarts = d.restarts := Dev.with_groups_restarts d _
theorem Dev.with_groups_structs (l : Store GroupSt) : ({ d with groups := l } : Dev).structs = d.structs := rfl
@[simp] theorem Dev.setGroup_structs (g : Nat) (x : GroupSt) : (d.setGroup g x).structs = d.structs := Dev.with_groups_structs d _
theorem Dev.with_groups_gfp (l : Store GroupSt) : ({ d with groups := l } : Dev).gfp = d.gfp := rfl
@[simp] theorem Dev.setGroup_gfp (g : Nat) (x : GroupSt) : (d.setGroup g x).gfp = d.gfp := Dev.with_groups_gfp d _
theorem Dev.with_groups_snaps (l : Store GroupSt) : ({ d with groups := l } : Dev).snaps = d.snaps := rfl
@[simp] theorem Dev.setGroup_snaps (g : Nat) (x : GroupSt) : (d.setGroup g x).snaps = d.snaps := Dev.with_groups_snaps d _
theorem Dev.with_groups_replies (l : Store GroupSt) : ({ d with groups := l } : Dev).replies = d.replies := rfl
@[simp] theorem Dev.setGroup_replies (g : Nat) (x : GroupSt) : (d.setGroup g x).replies = d.replies := Dev.with_groups_replies d _
theorem Dev.with_groups_acc (l : Store GroupSt) : ({ d with groups := l } : Dev).acc = d.acc := rfl
@[simp] theorem Dev.setGroup_acc (g : Nat) (x : GroupSt) : (d.setGroup g x).acc = d.acc := Dev.with_groups_acc d _
theorem Dev.with_groups_accClosed (l : Store GroupSt) : ({ d with groups := l } : Dev).accClosed = d.accClosed := rfl
@[simp] theorem Dev.setGroup_accClosed (g : Nat) (x : GroupSt) : (d.setGroup g x).accClosed = d.accClosed := Dev.with_groups_accClosed d _
theorem Dev.with_groups_est (l : Store GroupSt) : ({ d with groups := l } : Dev).est = d.est := rfl
@[simp] theorem Dev.setGroup_est (g : Nat) (x : GroupSt) : (d.setGroup g x).est = d.est := Dev.with_groups_est d _
theorem Dev.with_groups_estAcc (l : Store GroupSt) : ({ d with groups := l } : Dev).estAcc = d.estAcc := rfl
@[simp] theorem Dev.setGroup_estAcc (g : Nat) (x : GroupSt) : (d.setGroup g x).estAcc = d.estAcc := Dev.with_groups_estAcc d _
theorem Dev.with_groups_ladle (l : Store GroupSt) : ({ d with groups := l } : Dev).ladle = d.ladle := rfl
@[simp] theorem Dev.setGroup_ladle (g : Nat) (x : GroupSt) : (d.setGroup g x).ladle = d.ladle := Dev.with_groups_ladle d _
theorem Dev.with_groups_bw (l : Store GroupSt) : ({ d with groups := l } : Dev).bw = d.bw := rfl
@[simp] theorem Dev.setGroup_bw (g : Nat) (x : GroupSt) : (d.setGroup g x).bw = d.bw := Dev.with_groups_bw d _
theorem Dev.with_groups_skw (l : Store GroupSt) : ({ d with groups := l } : Dev).skw = d.skw := rfl
@[simp] theorem Dev.setGroup_skw (g : Nat) (x : GroupSt) : (d.setGroup g x).skw = d.skw := Dev.with_groups_skw d _
theorem Dev.with_groups_fec (l : Store GroupSt) : ({ d with groups := l } : Dev).fec = d.fec := rfl
@[simp] theorem Dev.setGroup_fec (g : Nat) (x : GroupSt) : (d.setGroup g x).fec = d.fec := Dev.with_groups_fec d _
theorem Dev.with_groups_psq (l : Store GroupSt) : ({ d with groups := l } : Dev).psq = d.psq := rfl
@[simp] theorem Dev.setGroup_psq (g : Nat) (x : GroupSt) : (d.setGroup g x).psq = d.psq := Dev.with_groups_psq d _
theorem Dev.with_groups_flows (l : Store GroupSt) : ({ d with groups := l } : Dev).flows = d.flows := rfl
@[simp] theorem Dev.setGroup_flows (g : Nat) (x : GroupSt) : (d.setGroup g x).flows = d.flows := Dev.with_groups_flows d _
theorem Dev.with_groups_members (l : Store GroupSt) : ({ d with groups := l } : Dev).members = d.members := rfl
@[simp] theorem Dev.setGroup_members (g : Nat) (x : GroupSt) : (d.setGroup g x).members = d.members := Dev.with_groups_members d _
theorem Dev.with_groups_msp (l : Store GroupSt) : ({ d with groups := l } : Dev).msp = d.msp := rfl
@[simp] theorem Dev.setGroup_msp (g : Nat) (x : GroupSt) : (d.setGroup g x).msp = d.msp := Dev.with_groups_msp d _
theorem Dev.with_groups_snc (l : Store GroupSt) : ({ d with groups := l } : Dev).snc = d.snc := rfl
@[simp] theorem Dev.setGroup_snc (g : Nat) (x : GroupSt) : (d.setGroup g x).snc = d.snc := Dev.with_groups_snc d _
theorem Dev.with_groups_applies (l : Store GroupSt) : ({ d with groups := l } : Dev).applies = d.applies := rfl
@[simp] theorem Dev.setGroup_applies (g : Nat) (x : GroupSt) : (d.setGroup g x).applies = d.applies := Dev.with_groups_applies d _
theorem Dev.with_groups_selRestart (l : Store GroupSt) : ({ d with groups := l } : Dev).selRestart = d.selRestart := rfl
@[simp] theorem Dev.setGroup_selRestart (g : Nat) (x : GroupSt) : (d.setGroup g x).selRestart = d.selRestart := Dev.with_groups_selRestart d _
theorem Dev.with_groups_bridge (l : Store GroupSt) : ({ d with groups := l } : Dev).bridge = d.bridge := rfl
@[simp] theorem Dev.setGroup_bridge (g : Nat) (x : GroupSt) : (d.setGroup g x).bridge = d.bridge := Dev.with_groups_bridge d _
theorem Dev.with_groups_sram (l : Store GroupSt) : ({ d with groups := l } : Dev).sram = d.sram := rfl
@[simp] theorem Dev.setGroup_sram (g : Nat) (x : GroupSt) : (d.setGroup g x).sram = d.sram := Dev.with_groups_sram d _
theorem Dev.with_groups_bursts (l : Store GroupSt) : ({ d with groups := l } : Dev).bursts = d.bursts := rfl
@[simp] theorem Dev.setGroup_bursts (g : Nat) (x : GroupSt) : (d.setGroup g x).bursts = d.bursts := Dev.with_groups_bursts d _
theorem Dev.with_groups_port (l : Store GroupSt) : ({ d with groups := l } : Dev).port = d.port := rfl
@[simp] theorem Dev.setGroup_port (g : Nat) (x : GroupSt) : (d.setGroup g x).port = d.port := Dev.with_groups_port d _
theorem Dev.with_groups_mgt (l : Store GroupSt) : ({ d with groups := l } : Dev).mgt = d.mgt := rfl
@[simp] theorem Dev.setGroup_mgt (g : Nat) (x : GroupSt) : (d.setGroup g x).mgt = d.mgt := Dev.with_groups_mgt d _
theorem Dev.with_groups_panel (l : Store GroupSt) : ({ d with groups := l } : Dev).panel = d.panel := rfl
@[simp] theorem Dev.setGroup_panel (g : Nat) (x : GroupSt) : (d.setGroup g x).panel = d.panel := Dev.with_groups_panel d _
theorem Dev.with_groups_timing (l : Store GroupSt) : ({ d with groups := l } : Dev).timing = d.timing := rfl
@[simp] theorem Dev.setGroup_timing (g : Nat) (x : GroupSt) : (d.setGroup g x).timing = d.timing := Dev.with_groups_timing d _
theorem Dev.with_groups_modes (l : Store GroupSt) : ({ d with groups := l } : Dev).modes = d.modes := rfl
@[simp] theorem Dev.setGroup_modes (g : Nat) (x : GroupSt) : (d.setGroup g x).modes = d.modes := Dev.with_groups_modes d _
theorem Dev.with_groups_mate (l : Store GroupSt) : ({ d with groups := l } : Dev).mate = d.mate := rfl
@[simp] theorem Dev.setGroup_mate (g : Nat) (x : GroupSt) : (d.setGroup g x).mate = d.mate := Dev.with_groups_mate d _
theorem Dev.with_groups_grm (l : Store GroupSt) : ({ d with groups := l } : Dev).grm = d.grm := rfl
@[simp] theorem Dev.setGroup_grm (g : Nat) (x : GroupSt) : (d.setGroup g x).grm = d.grm := Dev.with_groups_grm d _
theorem Dev.with_groups_inFill (l : Store GroupSt) : ({ d with groups := l } : Dev).inFill = d.inFill := rfl
@[simp] theorem Dev.setGroup_inFill (g : Nat) (x : GroupSt) : (d.setGroup g x).inFill = d.inFill := Dev.with_groups_inFill d _
theorem Dev.with_groups_made (l : Store GroupSt) : ({ d with groups := l } : Dev).made = d.made := rfl
@[simp] theorem Dev.setGroup_made (g : Nat) (x : GroupSt) : (d.setGroup g x).made = d.made := Dev.with_groups_made d _
theorem Dev.with_groups_egress (l : Store GroupSt) : ({ d with groups := l } : Dev).egress = d.egress := rfl
@[simp] theorem Dev.setGroup_egress (g : Nat) (x : GroupSt) : (d.setGroup g x).egress = d.egress := Dev.with_groups_egress d _
theorem Dev.with_groups_inMove (l : Store GroupSt) : ({ d with groups := l } : Dev).inMove = d.inMove := rfl
@[simp] theorem Dev.setGroup_inMove (g : Nat) (x : GroupSt) : (d.setGroup g x).inMove = d.inMove := Dev.with_groups_inMove d _
theorem Dev.with_groups_egFill (l : Store GroupSt) : ({ d with groups := l } : Dev).egFill = d.egFill := rfl
@[simp] theorem Dev.setGroup_egFill (g : Nat) (x : GroupSt) : (d.setGroup g x).egFill = d.egFill := Dev.with_groups_egFill d _
theorem Dev.with_groups_egRead (l : Store GroupSt) : ({ d with groups := l } : Dev).egRead = d.egRead := rfl
@[simp] theorem Dev.setGroup_egRead (g : Nat) (x : GroupSt) : (d.setGroup g x).egRead = d.egRead := Dev.with_groups_egRead d _

theorem Dev.with_members_now (l : Store MemberSt) : ({ d with members := l } : Dev).now = d.now := rfl
@[simp] theorem Dev.setMember_now (i : Nat) (x : MemberSt) : (d.setMember i x).now = d.now := Dev.with_members_now d _
theorem Dev.with_members_fresh (l : Store MemberSt) : ({ d with members := l } : Dev).fresh = d.fresh := rfl
@[simp] theorem Dev.setMember_fresh (i : Nat) (x : MemberSt) : (d.setMember i x).fresh = d.fresh := Dev.with_members_fresh d _
theorem Dev.with_members_words (l : Store MemberSt) : ({ d with members := l } : Dev).words = d.words := rfl
@[simp] theorem Dev.setMember_words (i : Nat) (x : MemberSt) : (d.setMember i x).words = d.words := Dev.with_members_words d _
theorem Dev.with_members_activeMap (l : Store MemberSt) : ({ d with members := l } : Dev).activeMap = d.activeMap := rfl
@[simp] theorem Dev.setMember_activeMap (i : Nat) (x : MemberSt) : (d.setMember i x).activeMap = d.activeMap := Dev.with_members_activeMap d _
theorem Dev.with_members_shadowMap (l : Store MemberSt) : ({ d with members := l } : Dev).shadowMap = d.shadowMap := rfl
@[simp] theorem Dev.setMember_shadowMap (i : Nat) (x : MemberSt) : (d.setMember i x).shadowMap = d.shadowMap := Dev.with_members_shadowMap d _
theorem Dev.with_members_lanes (l : Store MemberSt) : ({ d with members := l } : Dev).lanes = d.lanes := rfl
@[simp] theorem Dev.setMember_lanes (i : Nat) (x : MemberSt) : (d.setMember i x).lanes = d.lanes := Dev.with_members_lanes d _
theorem Dev.with_members_paths (l : Store MemberSt) : ({ d with members := l } : Dev).paths = d.paths := rfl
@[simp] theorem Dev.setMember_paths (i : Nat) (x : MemberSt) : (d.setMember i x).paths = d.paths := Dev.with_members_paths d _
theorem Dev.with_members_restarts (l : Store MemberSt) : ({ d with members := l } : Dev).restarts = d.restarts := rfl
@[simp] theorem Dev.setMember_restarts (i : Nat) (x : MemberSt) : (d.setMember i x).restarts = d.restarts := Dev.with_members_restarts d _
theorem Dev.with_members_structs (l : Store MemberSt) : ({ d with members := l } : Dev).structs = d.structs := rfl
@[simp] theorem Dev.setMember_structs (i : Nat) (x : MemberSt) : (d.setMember i x).structs = d.structs := Dev.with_members_structs d _
theorem Dev.with_members_gfp (l : Store MemberSt) : ({ d with members := l } : Dev).gfp = d.gfp := rfl
@[simp] theorem Dev.setMember_gfp (i : Nat) (x : MemberSt) : (d.setMember i x).gfp = d.gfp := Dev.with_members_gfp d _
theorem Dev.with_members_snaps (l : Store MemberSt) : ({ d with members := l } : Dev).snaps = d.snaps := rfl
@[simp] theorem Dev.setMember_snaps (i : Nat) (x : MemberSt) : (d.setMember i x).snaps = d.snaps := Dev.with_members_snaps d _
theorem Dev.with_members_replies (l : Store MemberSt) : ({ d with members := l } : Dev).replies = d.replies := rfl
@[simp] theorem Dev.setMember_replies (i : Nat) (x : MemberSt) : (d.setMember i x).replies = d.replies := Dev.with_members_replies d _
theorem Dev.with_members_acc (l : Store MemberSt) : ({ d with members := l } : Dev).acc = d.acc := rfl
@[simp] theorem Dev.setMember_acc (i : Nat) (x : MemberSt) : (d.setMember i x).acc = d.acc := Dev.with_members_acc d _
theorem Dev.with_members_accClosed (l : Store MemberSt) : ({ d with members := l } : Dev).accClosed = d.accClosed := rfl
@[simp] theorem Dev.setMember_accClosed (i : Nat) (x : MemberSt) : (d.setMember i x).accClosed = d.accClosed := Dev.with_members_accClosed d _
theorem Dev.with_members_est (l : Store MemberSt) : ({ d with members := l } : Dev).est = d.est := rfl
@[simp] theorem Dev.setMember_est (i : Nat) (x : MemberSt) : (d.setMember i x).est = d.est := Dev.with_members_est d _
theorem Dev.with_members_estAcc (l : Store MemberSt) : ({ d with members := l } : Dev).estAcc = d.estAcc := rfl
@[simp] theorem Dev.setMember_estAcc (i : Nat) (x : MemberSt) : (d.setMember i x).estAcc = d.estAcc := Dev.with_members_estAcc d _
theorem Dev.with_members_ladle (l : Store MemberSt) : ({ d with members := l } : Dev).ladle = d.ladle := rfl
@[simp] theorem Dev.setMember_ladle (i : Nat) (x : MemberSt) : (d.setMember i x).ladle = d.ladle := Dev.with_members_ladle d _
theorem Dev.with_members_bw (l : Store MemberSt) : ({ d with members := l } : Dev).bw = d.bw := rfl
@[simp] theorem Dev.setMember_bw (i : Nat) (x : MemberSt) : (d.setMember i x).bw = d.bw := Dev.with_members_bw d _
theorem Dev.with_members_skw (l : Store MemberSt) : ({ d with members := l } : Dev).skw = d.skw := rfl
@[simp] theorem Dev.setMember_skw (i : Nat) (x : MemberSt) : (d.setMember i x).skw = d.skw := Dev.with_members_skw d _
theorem Dev.with_members_fec (l : Store MemberSt) : ({ d with members := l } : Dev).fec = d.fec := rfl
@[simp] theorem Dev.setMember_fec (i : Nat) (x : MemberSt) : (d.setMember i x).fec = d.fec := Dev.with_members_fec d _
theorem Dev.with_members_psq (l : Store MemberSt) : ({ d with members := l } : Dev).psq = d.psq := rfl
@[simp] theorem Dev.setMember_psq (i : Nat) (x : MemberSt) : (d.setMember i x).psq = d.psq := Dev.with_members_psq d _
theorem Dev.with_members_flows (l : Store MemberSt) : ({ d with members := l } : Dev).flows = d.flows := rfl
@[simp] theorem Dev.setMember_flows (i : Nat) (x : MemberSt) : (d.setMember i x).flows = d.flows := Dev.with_members_flows d _
theorem Dev.with_members_groups (l : Store MemberSt) : ({ d with members := l } : Dev).groups = d.groups := rfl
@[simp] theorem Dev.setMember_groups (i : Nat) (x : MemberSt) : (d.setMember i x).groups = d.groups := Dev.with_members_groups d _
theorem Dev.with_members_msp (l : Store MemberSt) : ({ d with members := l } : Dev).msp = d.msp := rfl
@[simp] theorem Dev.setMember_msp (i : Nat) (x : MemberSt) : (d.setMember i x).msp = d.msp := Dev.with_members_msp d _
theorem Dev.with_members_snc (l : Store MemberSt) : ({ d with members := l } : Dev).snc = d.snc := rfl
@[simp] theorem Dev.setMember_snc (i : Nat) (x : MemberSt) : (d.setMember i x).snc = d.snc := Dev.with_members_snc d _
theorem Dev.with_members_applies (l : Store MemberSt) : ({ d with members := l } : Dev).applies = d.applies := rfl
@[simp] theorem Dev.setMember_applies (i : Nat) (x : MemberSt) : (d.setMember i x).applies = d.applies := Dev.with_members_applies d _
theorem Dev.with_members_selRestart (l : Store MemberSt) : ({ d with members := l } : Dev).selRestart = d.selRestart := rfl
@[simp] theorem Dev.setMember_selRestart (i : Nat) (x : MemberSt) : (d.setMember i x).selRestart = d.selRestart := Dev.with_members_selRestart d _
theorem Dev.with_members_bridge (l : Store MemberSt) : ({ d with members := l } : Dev).bridge = d.bridge := rfl
@[simp] theorem Dev.setMember_bridge (i : Nat) (x : MemberSt) : (d.setMember i x).bridge = d.bridge := Dev.with_members_bridge d _
theorem Dev.with_members_sram (l : Store MemberSt) : ({ d with members := l } : Dev).sram = d.sram := rfl
@[simp] theorem Dev.setMember_sram (i : Nat) (x : MemberSt) : (d.setMember i x).sram = d.sram := Dev.with_members_sram d _
theorem Dev.with_members_bursts (l : Store MemberSt) : ({ d with members := l } : Dev).bursts = d.bursts := rfl
@[simp] theorem Dev.setMember_bursts (i : Nat) (x : MemberSt) : (d.setMember i x).bursts = d.bursts := Dev.with_members_bursts d _
theorem Dev.with_members_port (l : Store MemberSt) : ({ d with members := l } : Dev).port = d.port := rfl
@[simp] theorem Dev.setMember_port (i : Nat) (x : MemberSt) : (d.setMember i x).port = d.port := Dev.with_members_port d _
theorem Dev.with_members_mgt (l : Store MemberSt) : ({ d with members := l } : Dev).mgt = d.mgt := rfl
@[simp] theorem Dev.setMember_mgt (i : Nat) (x : MemberSt) : (d.setMember i x).mgt = d.mgt := Dev.with_members_mgt d _
theorem Dev.with_members_panel (l : Store MemberSt) : ({ d with members := l } : Dev).panel = d.panel := rfl
@[simp] theorem Dev.setMember_panel (i : Nat) (x : MemberSt) : (d.setMember i x).panel = d.panel := Dev.with_members_panel d _
theorem Dev.with_members_timing (l : Store MemberSt) : ({ d with members := l } : Dev).timing = d.timing := rfl
@[simp] theorem Dev.setMember_timing (i : Nat) (x : MemberSt) : (d.setMember i x).timing = d.timing := Dev.with_members_timing d _
theorem Dev.with_members_modes (l : Store MemberSt) : ({ d with members := l } : Dev).modes = d.modes := rfl
@[simp] theorem Dev.setMember_modes (i : Nat) (x : MemberSt) : (d.setMember i x).modes = d.modes := Dev.with_members_modes d _
theorem Dev.with_members_mate (l : Store MemberSt) : ({ d with members := l } : Dev).mate = d.mate := rfl
@[simp] theorem Dev.setMember_mate (i : Nat) (x : MemberSt) : (d.setMember i x).mate = d.mate := Dev.with_members_mate d _
theorem Dev.with_members_grm (l : Store MemberSt) : ({ d with members := l } : Dev).grm = d.grm := rfl
@[simp] theorem Dev.setMember_grm (i : Nat) (x : MemberSt) : (d.setMember i x).grm = d.grm := Dev.with_members_grm d _
theorem Dev.with_members_inFill (l : Store MemberSt) : ({ d with members := l } : Dev).inFill = d.inFill := rfl
@[simp] theorem Dev.setMember_inFill (i : Nat) (x : MemberSt) : (d.setMember i x).inFill = d.inFill := Dev.with_members_inFill d _
theorem Dev.with_members_made (l : Store MemberSt) : ({ d with members := l } : Dev).made = d.made := rfl
@[simp] theorem Dev.setMember_made (i : Nat) (x : MemberSt) : (d.setMember i x).made = d.made := Dev.with_members_made d _
theorem Dev.with_members_egress (l : Store MemberSt) : ({ d with members := l } : Dev).egress = d.egress := rfl
@[simp] theorem Dev.setMember_egress (i : Nat) (x : MemberSt) : (d.setMember i x).egress = d.egress := Dev.with_members_egress d _
theorem Dev.with_members_inMove (l : Store MemberSt) : ({ d with members := l } : Dev).inMove = d.inMove := rfl
@[simp] theorem Dev.setMember_inMove (i : Nat) (x : MemberSt) : (d.setMember i x).inMove = d.inMove := Dev.with_members_inMove d _
theorem Dev.with_members_egFill (l : Store MemberSt) : ({ d with members := l } : Dev).egFill = d.egFill := rfl
@[simp] theorem Dev.setMember_egFill (i : Nat) (x : MemberSt) : (d.setMember i x).egFill = d.egFill := Dev.with_members_egFill d _
theorem Dev.with_members_egRead (l : Store MemberSt) : ({ d with members := l } : Dev).egRead = d.egRead := rfl
@[simp] theorem Dev.setMember_egRead (i : Nat) (x : MemberSt) : (d.setMember i x).egRead = d.egRead := Dev.with_members_egRead d _

theorem Dev.with_flows_now (l : Store FlowQ) : ({ d with flows := l } : Dev).now = d.now := rfl
@[simp] theorem Dev.setFlow_now (f : Nat) (q : FlowQ) : (d.setFlow f q).now = d.now := Dev.with_flows_now d _
theorem Dev.with_flows_fresh (l : Store FlowQ) : ({ d with flows := l } : Dev).fresh = d.fresh := rfl
@[simp] theorem Dev.setFlow_fresh (f : Nat) (q : FlowQ) : (d.setFlow f q).fresh = d.fresh := Dev.with_flows_fresh d _
theorem Dev.with_flows_words (l : Store FlowQ) : ({ d with flows := l } : Dev).words = d.words := rfl
@[simp] theorem Dev.setFlow_words (f : Nat) (q : FlowQ) : (d.setFlow f q).words = d.words := Dev.with_flows_words d _
theorem Dev.with_flows_activeMap (l : Store FlowQ) : ({ d with flows := l } : Dev).activeMap = d.activeMap := rfl
@[simp] theorem Dev.setFlow_activeMap (f : Nat) (q : FlowQ) : (d.setFlow f q).activeMap = d.activeMap := Dev.with_flows_activeMap d _
theorem Dev.with_flows_shadowMap (l : Store FlowQ) : ({ d with flows := l } : Dev).shadowMap = d.shadowMap := rfl
@[simp] theorem Dev.setFlow_shadowMap (f : Nat) (q : FlowQ) : (d.setFlow f q).shadowMap = d.shadowMap := Dev.with_flows_shadowMap d _
theorem Dev.with_flows_lanes (l : Store FlowQ) : ({ d with flows := l } : Dev).lanes = d.lanes := rfl
@[simp] theorem Dev.setFlow_lanes (f : Nat) (q : FlowQ) : (d.setFlow f q).lanes = d.lanes := Dev.with_flows_lanes d _
theorem Dev.with_flows_paths (l : Store FlowQ) : ({ d with flows := l } : Dev).paths = d.paths := rfl
@[simp] theorem Dev.setFlow_paths (f : Nat) (q : FlowQ) : (d.setFlow f q).paths = d.paths := Dev.with_flows_paths d _
theorem Dev.with_flows_restarts (l : Store FlowQ) : ({ d with flows := l } : Dev).restarts = d.restarts := rfl
@[simp] theorem Dev.setFlow_restarts (f : Nat) (q : FlowQ) : (d.setFlow f q).restarts = d.restarts := Dev.with_flows_restarts d _
theorem Dev.with_flows_structs (l : Store FlowQ) : ({ d with flows := l } : Dev).structs = d.structs := rfl
@[simp] theorem Dev.setFlow_structs (f : Nat) (q : FlowQ) : (d.setFlow f q).structs = d.structs := Dev.with_flows_structs d _
theorem Dev.with_flows_gfp (l : Store FlowQ) : ({ d with flows := l } : Dev).gfp = d.gfp := rfl
@[simp] theorem Dev.setFlow_gfp (f : Nat) (q : FlowQ) : (d.setFlow f q).gfp = d.gfp := Dev.with_flows_gfp d _
theorem Dev.with_flows_snaps (l : Store FlowQ) : ({ d with flows := l } : Dev).snaps = d.snaps := rfl
@[simp] theorem Dev.setFlow_snaps (f : Nat) (q : FlowQ) : (d.setFlow f q).snaps = d.snaps := Dev.with_flows_snaps d _
theorem Dev.with_flows_replies (l : Store FlowQ) : ({ d with flows := l } : Dev).replies = d.replies := rfl
@[simp] theorem Dev.setFlow_replies (f : Nat) (q : FlowQ) : (d.setFlow f q).replies = d.replies := Dev.with_flows_replies d _
theorem Dev.with_flows_acc (l : Store FlowQ) : ({ d with flows := l } : Dev).acc = d.acc := rfl
@[simp] theorem Dev.setFlow_acc (f : Nat) (q : FlowQ) : (d.setFlow f q).acc = d.acc := Dev.with_flows_acc d _
theorem Dev.with_flows_accClosed (l : Store FlowQ) : ({ d with flows := l } : Dev).accClosed = d.accClosed := rfl
@[simp] theorem Dev.setFlow_accClosed (f : Nat) (q : FlowQ) : (d.setFlow f q).accClosed = d.accClosed := Dev.with_flows_accClosed d _
theorem Dev.with_flows_est (l : Store FlowQ) : ({ d with flows := l } : Dev).est = d.est := rfl
@[simp] theorem Dev.setFlow_est (f : Nat) (q : FlowQ) : (d.setFlow f q).est = d.est := Dev.with_flows_est d _
theorem Dev.with_flows_estAcc (l : Store FlowQ) : ({ d with flows := l } : Dev).estAcc = d.estAcc := rfl
@[simp] theorem Dev.setFlow_estAcc (f : Nat) (q : FlowQ) : (d.setFlow f q).estAcc = d.estAcc := Dev.with_flows_estAcc d _
theorem Dev.with_flows_ladle (l : Store FlowQ) : ({ d with flows := l } : Dev).ladle = d.ladle := rfl
@[simp] theorem Dev.setFlow_ladle (f : Nat) (q : FlowQ) : (d.setFlow f q).ladle = d.ladle := Dev.with_flows_ladle d _
theorem Dev.with_flows_bw (l : Store FlowQ) : ({ d with flows := l } : Dev).bw = d.bw := rfl
@[simp] theorem Dev.setFlow_bw (f : Nat) (q : FlowQ) : (d.setFlow f q).bw = d.bw := Dev.with_flows_bw d _
theorem Dev.with_flows_skw (l : Store FlowQ) : ({ d with flows := l } : Dev).skw = d.skw := rfl
@[simp] theorem Dev.setFlow_skw (f : Nat) (q : FlowQ) : (d.setFlow f q).skw = d.skw := Dev.with_flows_skw d _
theorem Dev.with_flows_fec (l : Store FlowQ) : ({ d with flows := l } : Dev).fec = d.fec := rfl
@[simp] theorem Dev.setFlow_fec (f : Nat) (q : FlowQ) : (d.setFlow f q).fec = d.fec := Dev.with_flows_fec d _
theorem Dev.with_flows_psq (l : Store FlowQ) : ({ d with flows := l } : Dev).psq = d.psq := rfl
@[simp] theorem Dev.setFlow_psq (f : Nat) (q : FlowQ) : (d.setFlow f q).psq = d.psq := Dev.with_flows_psq d _
theorem Dev.with_flows_groups (l : Store FlowQ) : ({ d with flows := l } : Dev).groups = d.groups := rfl
@[simp] theorem Dev.setFlow_groups (f : Nat) (q : FlowQ) : (d.setFlow f q).groups = d.groups := Dev.with_flows_groups d _
theorem Dev.with_flows_members (l : Store FlowQ) : ({ d with flows := l } : Dev).members = d.members := rfl
@[simp] theorem Dev.setFlow_members (f : Nat) (q : FlowQ) : (d.setFlow f q).members = d.members := Dev.with_flows_members d _
theorem Dev.with_flows_msp (l : Store FlowQ) : ({ d with flows := l } : Dev).msp = d.msp := rfl
@[simp] theorem Dev.setFlow_msp (f : Nat) (q : FlowQ) : (d.setFlow f q).msp = d.msp := Dev.with_flows_msp d _
theorem Dev.with_flows_snc (l : Store FlowQ) : ({ d with flows := l } : Dev).snc = d.snc := rfl
@[simp] theorem Dev.setFlow_snc (f : Nat) (q : FlowQ) : (d.setFlow f q).snc = d.snc := Dev.with_flows_snc d _
theorem Dev.with_flows_applies (l : Store FlowQ) : ({ d with flows := l } : Dev).applies = d.applies := rfl
@[simp] theorem Dev.setFlow_applies (f : Nat) (q : FlowQ) : (d.setFlow f q).applies = d.applies := Dev.with_flows_applies d _
theorem Dev.with_flows_selRestart (l : Store FlowQ) : ({ d with flows := l } : Dev).selRestart = d.selRestart := rfl
@[simp] theorem Dev.setFlow_selRestart (f : Nat) (q : FlowQ) : (d.setFlow f q).selRestart = d.selRestart := Dev.with_flows_selRestart d _
theorem Dev.with_flows_bridge (l : Store FlowQ) : ({ d with flows := l } : Dev).bridge = d.bridge := rfl
@[simp] theorem Dev.setFlow_bridge (f : Nat) (q : FlowQ) : (d.setFlow f q).bridge = d.bridge := Dev.with_flows_bridge d _
theorem Dev.with_flows_sram (l : Store FlowQ) : ({ d with flows := l } : Dev).sram = d.sram := rfl
@[simp] theorem Dev.setFlow_sram (f : Nat) (q : FlowQ) : (d.setFlow f q).sram = d.sram := Dev.with_flows_sram d _
theorem Dev.with_flows_bursts (l : Store FlowQ) : ({ d with flows := l } : Dev).bursts = d.bursts := rfl
@[simp] theorem Dev.setFlow_bursts (f : Nat) (q : FlowQ) : (d.setFlow f q).bursts = d.bursts := Dev.with_flows_bursts d _
theorem Dev.with_flows_port (l : Store FlowQ) : ({ d with flows := l } : Dev).port = d.port := rfl
@[simp] theorem Dev.setFlow_port (f : Nat) (q : FlowQ) : (d.setFlow f q).port = d.port := Dev.with_flows_port d _
theorem Dev.with_flows_mgt (l : Store FlowQ) : ({ d with flows := l } : Dev).mgt = d.mgt := rfl
@[simp] theorem Dev.setFlow_mgt (f : Nat) (q : FlowQ) : (d.setFlow f q).mgt = d.mgt := Dev.with_flows_mgt d _
theorem Dev.with_flows_panel (l : Store FlowQ) : ({ d with flows := l } : Dev).panel = d.panel := rfl
@[simp] theorem Dev.setFlow_panel (f : Nat) (q : FlowQ) : (d.setFlow f q).panel = d.panel := Dev.with_flows_panel d _
theorem Dev.with_flows_timing (l : Store FlowQ) : ({ d with flows := l } : Dev).timing = d.timing := rfl
@[simp] theorem Dev.setFlow_timing (f : Nat) (q : FlowQ) : (d.setFlow f q).timing = d.timing := Dev.with_flows_timing d _
theorem Dev.with_flows_modes (l : Store FlowQ) : ({ d with flows := l } : Dev).modes = d.modes := rfl
@[simp] theorem Dev.setFlow_modes (f : Nat) (q : FlowQ) : (d.setFlow f q).modes = d.modes := Dev.with_flows_modes d _
theorem Dev.with_flows_mate (l : Store FlowQ) : ({ d with flows := l } : Dev).mate = d.mate := rfl
@[simp] theorem Dev.setFlow_mate (f : Nat) (q : FlowQ) : (d.setFlow f q).mate = d.mate := Dev.with_flows_mate d _
theorem Dev.with_flows_grm (l : Store FlowQ) : ({ d with flows := l } : Dev).grm = d.grm := rfl
@[simp] theorem Dev.setFlow_grm (f : Nat) (q : FlowQ) : (d.setFlow f q).grm = d.grm := Dev.with_flows_grm d _
theorem Dev.with_flows_inFill (l : Store FlowQ) : ({ d with flows := l } : Dev).inFill = d.inFill := rfl
@[simp] theorem Dev.setFlow_inFill (f : Nat) (q : FlowQ) : (d.setFlow f q).inFill = d.inFill := Dev.with_flows_inFill d _
theorem Dev.with_flows_made (l : Store FlowQ) : ({ d with flows := l } : Dev).made = d.made := rfl
@[simp] theorem Dev.setFlow_made (f : Nat) (q : FlowQ) : (d.setFlow f q).made = d.made := Dev.with_flows_made d _
theorem Dev.with_flows_egress (l : Store FlowQ) : ({ d with flows := l } : Dev).egress = d.egress := rfl
@[simp] theorem Dev.setFlow_egress (f : Nat) (q : FlowQ) : (d.setFlow f q).egress = d.egress := Dev.with_flows_egress d _
theorem Dev.with_flows_inMove (l : Store FlowQ) : ({ d with flows := l } : Dev).inMove = d.inMove := rfl
@[simp] theorem Dev.setFlow_inMove (f : Nat) (q : FlowQ) : (d.setFlow f q).inMove = d.inMove := Dev.with_flows_inMove d _
theorem Dev.with_flows_egFill (l : Store FlowQ) : ({ d with flows := l } : Dev).egFill = d.egFill := rfl
@[simp] theorem Dev.setFlow_egFill (f : Nat) (q : FlowQ) : (d.setFlow f q).egFill = d.egFill := Dev.with_flows_egFill d _
theorem Dev.with_flows_egRead (l : Store FlowQ) : ({ d with flows := l } : Dev).egRead = d.egRead := rfl
@[simp] theorem Dev.setFlow_egRead (f : Nat) (q : FlowQ) : (d.setFlow f q).egRead = d.egRead := Dev.with_flows_egRead d _

theorem Dev.with_bursts_now (l : Store Burst) : ({ d with bursts := l } : Dev).now = d.now := rfl
@[simp] theorem Dev.setBurst_now (m : Nat) (b : Burst) : (d.setBurst m b).now = d.now := Dev.with_bursts_now d _
theorem Dev.with_bursts_fresh (l : Store Burst) : ({ d with bursts := l } : Dev).fresh = d.fresh := rfl
@[simp] theorem Dev.setBurst_fresh (m : Nat) (b : Burst) : (d.setBurst m b).fresh = d.fresh := Dev.with_bursts_fresh d _
theorem Dev.with_bursts_words (l : Store Burst) : ({ d with bursts := l } : Dev).words = d.words := rfl
@[simp] theorem Dev.setBurst_words (m : Nat) (b : Burst) : (d.setBurst m b).words = d.words := Dev.with_bursts_words d _
theorem Dev.with_bursts_activeMap (l : Store Burst) : ({ d with bursts := l } : Dev).activeMap = d.activeMap := rfl
@[simp] theorem Dev.setBurst_activeMap (m : Nat) (b : Burst) : (d.setBurst m b).activeMap = d.activeMap := Dev.with_bursts_activeMap d _
theorem Dev.with_bursts_shadowMap (l : Store Burst) : ({ d with bursts := l } : Dev).shadowMap = d.shadowMap := rfl
@[simp] theorem Dev.setBurst_shadowMap (m : Nat) (b : Burst) : (d.setBurst m b).shadowMap = d.shadowMap := Dev.with_bursts_shadowMap d _
theorem Dev.with_bursts_lanes (l : Store Burst) : ({ d with bursts := l } : Dev).lanes = d.lanes := rfl
@[simp] theorem Dev.setBurst_lanes (m : Nat) (b : Burst) : (d.setBurst m b).lanes = d.lanes := Dev.with_bursts_lanes d _
theorem Dev.with_bursts_paths (l : Store Burst) : ({ d with bursts := l } : Dev).paths = d.paths := rfl
@[simp] theorem Dev.setBurst_paths (m : Nat) (b : Burst) : (d.setBurst m b).paths = d.paths := Dev.with_bursts_paths d _
theorem Dev.with_bursts_restarts (l : Store Burst) : ({ d with bursts := l } : Dev).restarts = d.restarts := rfl
@[simp] theorem Dev.setBurst_restarts (m : Nat) (b : Burst) : (d.setBurst m b).restarts = d.restarts := Dev.with_bursts_restarts d _
theorem Dev.with_bursts_structs (l : Store Burst) : ({ d with bursts := l } : Dev).structs = d.structs := rfl
@[simp] theorem Dev.setBurst_structs (m : Nat) (b : Burst) : (d.setBurst m b).structs = d.structs := Dev.with_bursts_structs d _
theorem Dev.with_bursts_gfp (l : Store Burst) : ({ d with bursts := l } : Dev).gfp = d.gfp := rfl
@[simp] theorem Dev.setBurst_gfp (m : Nat) (b : Burst) : (d.setBurst m b).gfp = d.gfp := Dev.with_bursts_gfp d _
theorem Dev.with_bursts_snaps (l : Store Burst) : ({ d with bursts := l } : Dev).snaps = d.snaps := rfl
@[simp] theorem Dev.setBurst_snaps (m : Nat) (b : Burst) : (d.setBurst m b).snaps = d.snaps := Dev.with_bursts_snaps d _
theorem Dev.with_bursts_replies (l : Store Burst) : ({ d with bursts := l } : Dev).replies = d.replies := rfl
@[simp] theorem Dev.setBurst_replies (m : Nat) (b : Burst) : (d.setBurst m b).replies = d.replies := Dev.with_bursts_replies d _
theorem Dev.with_bursts_acc (l : Store Burst) : ({ d with bursts := l } : Dev).acc = d.acc := rfl
@[simp] theorem Dev.setBurst_acc (m : Nat) (b : Burst) : (d.setBurst m b).acc = d.acc := Dev.with_bursts_acc d _
theorem Dev.with_bursts_accClosed (l : Store Burst) : ({ d with bursts := l } : Dev).accClosed = d.accClosed := rfl
@[simp] theorem Dev.setBurst_accClosed (m : Nat) (b : Burst) : (d.setBurst m b).accClosed = d.accClosed := Dev.with_bursts_accClosed d _
theorem Dev.with_bursts_est (l : Store Burst) : ({ d with bursts := l } : Dev).est = d.est := rfl
@[simp] theorem Dev.setBurst_est (m : Nat) (b : Burst) : (d.setBurst m b).est = d.est := Dev.with_bursts_est d _
theorem Dev.with_bursts_estAcc (l : Store Burst) : ({ d with bursts := l } : Dev).estAcc = d.estAcc := rfl
@[simp] theorem Dev.setBurst_estAcc (m : Nat) (b : Burst) : (d.setBurst m b).estAcc = d.estAcc := Dev.with_bursts_estAcc d _
theorem Dev.with_bursts_ladle (l : Store Burst) : ({ d with bursts := l } : Dev).ladle = d.ladle := rfl
@[simp] theorem Dev.setBurst_ladle (m : Nat) (b : Burst) : (d.setBurst m b).ladle = d.ladle := Dev.with_bursts_ladle d _
theorem Dev.with_bursts_bw (l : Store Burst) : ({ d with bursts := l } : Dev).bw = d.bw := rfl
@[simp] theorem Dev.setBurst_bw (m : Nat) (b : Burst) : (d.setBurst m b).bw = d.bw := Dev.with_bursts_bw d _
theorem Dev.with_bursts_skw (l : Store Burst) : ({ d with bursts := l } : Dev).skw = d.skw := rfl
@[simp] theorem Dev.setBurst_skw (m : Nat) (b : Burst) : (d.setBurst m b).skw = d.skw := Dev.with_bursts_skw d _
theorem Dev.with_bursts_fec (l : Store Burst) : ({ d with bursts := l } : Dev).fec = d.fec := rfl
@[simp] theorem Dev.setBurst_fec (m : Nat) (b : Burst) : (d.setBurst m b).fec = d.fec := Dev.with_bursts_fec d _
theorem Dev.with_bursts_psq (l : Store Burst) : ({ d with bursts := l } : Dev).psq = d.psq := rfl
@[simp] theorem Dev.setBurst_psq (m : Nat) (b : Burst) : (d.setBurst m b).psq = d.psq := Dev.with_bursts_psq d _
theorem Dev.with_bursts_flows (l : Store Burst) : ({ d with bursts := l } : Dev).flows = d.flows := rfl
@[simp] theorem Dev.setBurst_flows (m : Nat) (b : Burst) : (d.setBurst m b).flows = d.flows := Dev.with_bursts_flows d _
theorem Dev.with_bursts_groups (l : Store Burst) : ({ d with bursts := l } : Dev).groups = d.groups := rfl
@[simp] theorem Dev.setBurst_groups (m : Nat) (b : Burst) : (d.setBurst m b).groups = d.groups := Dev.with_bursts_groups d _
theorem Dev.with_bursts_members (l : Store Burst) : ({ d with bursts := l } : Dev).members = d.members := rfl
@[simp] theorem Dev.setBurst_members (m : Nat) (b : Burst) : (d.setBurst m b).members = d.members := Dev.with_bursts_members d _
theorem Dev.with_bursts_msp (l : Store Burst) : ({ d with bursts := l } : Dev).msp = d.msp := rfl
@[simp] theorem Dev.setBurst_msp (m : Nat) (b : Burst) : (d.setBurst m b).msp = d.msp := Dev.with_bursts_msp d _
theorem Dev.with_bursts_snc (l : Store Burst) : ({ d with bursts := l } : Dev).snc = d.snc := rfl
@[simp] theorem Dev.setBurst_snc (m : Nat) (b : Burst) : (d.setBurst m b).snc = d.snc := Dev.with_bursts_snc d _
theorem Dev.with_bursts_applies (l : Store Burst) : ({ d with bursts := l } : Dev).applies = d.applies := rfl
@[simp] theorem Dev.setBurst_applies (m : Nat) (b : Burst) : (d.setBurst m b).applies = d.applies := Dev.with_bursts_applies d _
theorem Dev.with_bursts_selRestart (l : Store Burst) : ({ d with bursts := l } : Dev).selRestart = d.selRestart := rfl
@[simp] theorem Dev.setBurst_selRestart (m : Nat) (b : Burst) : (d.setBurst m b).selRestart = d.selRestart := Dev.with_bursts_selRestart d _
theorem Dev.with_bursts_bridge (l : Store Burst) : ({ d with bursts := l } : Dev).bridge = d.bridge := rfl
@[simp] theorem Dev.setBurst_bridge (m : Nat) (b : Burst) : (d.setBurst m b).bridge = d.bridge := Dev.with_bursts_bridge d _
theorem Dev.with_bursts_sram (l : Store Burst) : ({ d with bursts := l } : Dev).sram = d.sram := rfl
@[simp] theorem Dev.setBurst_sram (m : Nat) (b : Burst) : (d.setBurst m b).sram = d.sram := Dev.with_bursts_sram d _
theorem Dev.with_bursts_port (l : Store Burst) : ({ d with bursts := l } : Dev).port = d.port := rfl
@[simp] theorem Dev.setBurst_port (m : Nat) (b : Burst) : (d.setBurst m b).port = d.port := Dev.with_bursts_port d _
theorem Dev.with_bursts_mgt (l : Store Burst) : ({ d with bursts := l } : Dev).mgt = d.mgt := rfl
@[simp] theorem Dev.setBurst_mgt (m : Nat) (b : Burst) : (d.setBurst m b).mgt = d.mgt := Dev.with_bursts_mgt d _
theorem Dev.with_bursts_panel (l : Store Burst) : ({ d with bursts := l } : Dev).panel = d.panel := rfl
@[simp] theorem Dev.setBurst_panel (m : Nat) (b : Burst) : (d.setBurst m b).panel = d.panel := Dev.with_bursts_panel d _
theorem Dev.with_bursts_timing (l : Store Burst) : ({ d with bursts := l } : Dev).timing = d.timing := rfl
@[simp] theorem Dev.setBurst_timing (m : Nat) (b : Burst) : (d.setBurst m b).timing = d.timing := Dev.with_bursts_timing d _
theorem Dev.with_bursts_modes (l : Store Burst) : ({ d with bursts := l } : Dev).modes = d.modes := rfl
@[simp] theorem Dev.setBurst_modes (m : Nat) (b : Burst) : (d.setBurst m b).modes = d.modes := Dev.with_bursts_modes d _
theorem Dev.with_bursts_mate (l : Store Burst) : ({ d with bursts := l } : Dev).mate = d.mate := rfl
@[simp] theorem Dev.setBurst_mate (m : Nat) (b : Burst) : (d.setBurst m b).mate = d.mate := Dev.with_bursts_mate d _
theorem Dev.with_bursts_grm (l : Store Burst) : ({ d with bursts := l } : Dev).grm = d.grm := rfl
@[simp] theorem Dev.setBurst_grm (m : Nat) (b : Burst) : (d.setBurst m b).grm = d.grm := Dev.with_bursts_grm d _
theorem Dev.with_bursts_inFill (l : Store Burst) : ({ d with bursts := l } : Dev).inFill = d.inFill := rfl
@[simp] theorem Dev.setBurst_inFill (m : Nat) (b : Burst) : (d.setBurst m b).inFill = d.inFill := Dev.with_bursts_inFill d _
theorem Dev.with_bursts_made (l : Store Burst) : ({ d with bursts := l } : Dev).made = d.made := rfl
@[simp] theorem Dev.setBurst_made (m : Nat) (b : Burst) : (d.setBurst m b).made = d.made := Dev.with_bursts_made d _
theorem Dev.with_bursts_egress (l : Store Burst) : ({ d with bursts := l } : Dev).egress = d.egress := rfl
@[simp] theorem Dev.setBurst_egress (m : Nat) (b : Burst) : (d.setBurst m b).egress = d.egress := Dev.with_bursts_egress d _
theorem Dev.with_bursts_inMove (l : Store Burst) : ({ d with bursts := l } : Dev).inMove = d.inMove := rfl
@[simp] theorem Dev.setBurst_inMove (m : Nat) (b : Burst) : (d.setBurst m b).inMove = d.inMove := Dev.with_bursts_inMove d _
theorem Dev.with_bursts_egFill (l : Store Burst) : ({ d with bursts := l } : Dev).egFill = d.egFill := rfl
@[simp] theorem Dev.setBurst_egFill (m : Nat) (b : Burst) : (d.setBurst m b).egFill = d.egFill := Dev.with_bursts_egFill d _
theorem Dev.with_bursts_egRead (l : Store Burst) : ({ d with bursts := l } : Dev).egRead = d.egRead := rfl
@[simp] theorem Dev.setBurst_egRead (m : Nat) (b : Burst) : (d.setBurst m b).egRead = d.egRead := Dev.with_bursts_egRead d _

theorem Dev.with_fec_now (l : Store Nat) : ({ d with fec := l } : Dev).now = d.now := rfl
@[simp] theorem Dev.setFec_now (n : Nat) (v : Nat) : (d.setFec n v).now = d.now := Dev.with_fec_now d _
theorem Dev.with_fec_fresh (l : Store Nat) : ({ d with fec := l } : Dev).fresh = d.fresh := rfl
@[simp] theorem Dev.setFec_fresh (n : Nat) (v : Nat) : (d.setFec n v).fresh = d.fresh := Dev.with_fec_fresh d _
theorem Dev.with_fec_words (l : Store Nat) : ({ d with fec := l } : Dev).words = d.words := rfl
@[simp] theorem Dev.setFec_words (n : Nat) (v : Nat) : (d.setFec n v).words = d.words := Dev.with_fec_words d _
theorem Dev.with_fec_activeMap (l : Store Nat) : ({ d with fec := l } : Dev).activeMap = d.activeMap := rfl
@[simp] theorem Dev.setFec_activeMap (n : Nat) (v : Nat) : (d.setFec n v).activeMap = d.activeMap := Dev.with_fec_activeMap d _
theorem Dev.with_fec_shadowMap (l : Store Nat) : ({ d with fec := l } : Dev).shadowMap = d.shadowMap := rfl
@[simp] theorem Dev.setFec_shadowMap (n : Nat) (v : Nat) : (d.setFec n v).shadowMap = d.shadowMap := Dev.with_fec_shadowMap d _
theorem Dev.with_fec_lanes (l : Store Nat) : ({ d with fec := l } : Dev).lanes = d.lanes := rfl
@[simp] theorem Dev.setFec_lanes (n : Nat) (v : Nat) : (d.setFec n v).lanes = d.lanes := Dev.with_fec_lanes d _
theorem Dev.with_fec_paths (l : Store Nat) : ({ d with fec := l } : Dev).paths = d.paths := rfl
@[simp] theorem Dev.setFec_paths (n : Nat) (v : Nat) : (d.setFec n v).paths = d.paths := Dev.with_fec_paths d _
theorem Dev.with_fec_restarts (l : Store Nat) : ({ d with fec := l } : Dev).restarts = d.restarts := rfl
@[simp] theorem Dev.setFec_restarts (n : Nat) (v : Nat) : (d.setFec n v).restarts = d.restarts := Dev.with_fec_restarts d _
theorem Dev.with_fec_structs (l : Store Nat) : ({ d with fec := l } : Dev).structs = d.structs := rfl
@[simp] theorem Dev.setFec_structs (n : Nat) (v : Nat) : (d.setFec n v).structs = d.structs := Dev.with_fec_structs d _
theorem Dev.with_fec_gfp (l : Store Nat) : ({ d with fec := l } : Dev).gfp = d.gfp := rfl
@[simp] theorem Dev.setFec_gfp (n : Nat) (v : Nat) : (d.setFec n v).gfp = d.gfp := Dev.with_fec_gfp d _
theorem Dev.with_fec_snaps (l : Store Nat) : ({ d with fec := l } : Dev).snaps = d.snaps := rfl
@[simp] theorem Dev.setFec_snaps (n : Nat) (v : Nat) : (d.setFec n v).snaps = d.snaps := Dev.with_fec_snaps d _
theorem Dev.with_fec_replies (l : Store Nat) : ({ d with fec := l } : Dev).replies = d.replies := rfl
@[simp] theorem Dev.setFec_replies (n : Nat) (v : Nat) : (d.setFec n v).replies = d.replies := Dev.with_fec_replies d _
theorem Dev.with_fec_acc (l : Store Nat) : ({ d with fec := l } : Dev).acc = d.acc := rfl
@[simp] theorem Dev.setFec_acc (n : Nat) (v : Nat) : (d.setFec n v).acc = d.acc := Dev.with_fec_acc d _
theorem Dev.with_fec_accClosed (l : Store Nat) : ({ d with fec := l } : Dev).accClosed = d.accClosed := rfl
@[simp] theorem Dev.setFec_accClosed (n : Nat) (v : Nat) : (d.setFec n v).accClosed = d.accClosed := Dev.with_fec_accClosed d _
theorem Dev.with_fec_est (l : Store Nat) : ({ d with fec := l } : Dev).est = d.est := rfl
@[simp] theorem Dev.setFec_est (n : Nat) (v : Nat) : (d.setFec n v).est = d.est := Dev.with_fec_est d _
theorem Dev.with_fec_estAcc (l : Store Nat) : ({ d with fec := l } : Dev).estAcc = d.estAcc := rfl
@[simp] theorem Dev.setFec_estAcc (n : Nat) (v : Nat) : (d.setFec n v).estAcc = d.estAcc := Dev.with_fec_estAcc d _
theorem Dev.with_fec_ladle (l : Store Nat) : ({ d with fec := l } : Dev).ladle = d.ladle := rfl
@[simp] theorem Dev.setFec_ladle (n : Nat) (v : Nat) : (d.setFec n v).ladle = d.ladle := Dev.with_fec_ladle d _
theorem Dev.with_fec_bw (l : Store Nat) : ({ d with fec := l } : Dev).bw = d.bw := rfl
@[simp] theorem Dev.setFec_bw (n : Nat) (v : Nat) : (d.setFec n v).bw = d.bw := Dev.with_fec_bw d _
theorem Dev.with_fec_skw (l : Store Nat) : ({ d with fec := l } : Dev).skw = d.skw := rfl
@[simp] theorem Dev.setFec_skw (n : Nat) (v : Nat) : (d.setFec n v).skw = d.skw := Dev.with_fec_skw d _
theorem Dev.with_fec_psq (l : Store Nat) : ({ d with fec := l } : Dev).psq = d.psq := rfl
@[simp] theorem Dev.setFec_psq (n : Nat) (v : Nat) : (d.setFec n v).psq = d.psq := Dev.with_fec_psq d _
theorem Dev.with_fec_flows (l : Store Nat) : ({ d with fec := l } : Dev).flows = d.flows := rfl
@[simp] theorem Dev.setFec_flows (n : Nat) (v : Nat) : (d.setFec n v).flows = d.flows := Dev.with_fec_flows d _
theorem Dev.with_fec_groups (l : Store Nat) : ({ d with fec := l } : Dev).groups = d.groups := rfl
@[simp] theorem Dev.setFec_groups (n : Nat) (v : Nat) : (d.setFec n v).groups = d.groups := Dev.with_fec_groups d _
theorem Dev.with_fec_members (l : Store Nat) : ({ d with fec := l } : Dev).members = d.members := rfl
@[simp] theorem Dev.setFec_members (n : Nat) (v : Nat) : (d.setFec n v).members = d.members := Dev.with_fec_members d _
theorem Dev.with_fec_msp (l : Store Nat) : ({ d with fec := l } : Dev).msp = d.msp := rfl
@[simp] theorem Dev.setFec_msp (n : Nat) (v : Nat) : (d.setFec n v).msp = d.msp := Dev.with_fec_msp d _
theorem Dev.with_fec_snc (l : Store Nat) : ({ d with fec := l } : Dev).snc = d.snc := rfl
@[simp] theorem Dev.setFec_snc (n : Nat) (v : Nat) : (d.setFec n v).snc = d.snc := Dev.with_fec_snc d _
theorem Dev.with_fec_applies (l : Store Nat) : ({ d with fec := l } : Dev).applies = d.applies := rfl
@[simp] theorem Dev.setFec_applies (n : Nat) (v : Nat) : (d.setFec n v).applies = d.applies := Dev.with_fec_applies d _
theorem Dev.with_fec_selRestart (l : Store Nat) : ({ d with fec := l } : Dev).selRestart = d.selRestart := rfl
@[simp] theorem Dev.setFec_selRestart (n : Nat) (v : Nat) : (d.setFec n v).selRestart = d.selRestart := Dev.with_fec_selRestart d _
theorem Dev.with_fec_bridge (l : Store Nat) : ({ d with fec := l } : Dev).bridge = d.bridge := rfl
@[simp] theorem Dev.setFec_bridge (n : Nat) (v : Nat) : (d.setFec n v).bridge = d.bridge := Dev.with_fec_bridge d _
theorem Dev.with_fec_sram (l : Store Nat) : ({ d with fec := l } : Dev).sram = d.sram := rfl
@[simp] theorem Dev.setFec_sram (n : Nat) (v : Nat) : (d.setFec n v).sram = d.sram := Dev.with_fec_sram d _
theorem Dev.with_fec_bursts (l : Store Nat) : ({ d with fec := l } : Dev).bursts = d.bursts := rfl
@[simp] theorem Dev.setFec_bursts (n : Nat) (v : Nat) : (d.setFec n v).bursts = d.bursts := Dev.with_fec_bursts d _
theorem Dev.with_fec_port (l : Store Nat) : ({ d with fec := l } : Dev).port = d.port := rfl
@[simp] theorem Dev.setFec_port (n : Nat) (v : Nat) : (d.setFec n v).port = d.port := Dev.with_fec_port d _
theorem Dev.with_fec_mgt (l : Store Nat) : ({ d with fec := l } : Dev).mgt = d.mgt := rfl
@[simp] theorem Dev.setFec_mgt (n : Nat) (v : Nat) : (d.setFec n v).mgt = d.mgt := Dev.with_fec_mgt d _
theorem Dev.with_fec_panel (l : Store Nat) : ({ d with fec := l } : Dev).panel = d.panel := rfl
@[simp] theorem Dev.setFec_panel (n : Nat) (v : Nat) : (d.setFec n v).panel = d.panel := Dev.with_fec_panel d _
theorem Dev.with_fec_timing (l : Store Nat) : ({ d with fec := l } : Dev).timing = d.timing := rfl
@[simp] theorem Dev.setFec_timing (n : Nat) (v : Nat) : (d.setFec n v).timing = d.timing := Dev.with_fec_timing d _
theorem Dev.with_fec_modes (l : Store Nat) : ({ d with fec := l } : Dev).modes = d.modes := rfl
@[simp] theorem Dev.setFec_modes (n : Nat) (v : Nat) : (d.setFec n v).modes = d.modes := Dev.with_fec_modes d _
theorem Dev.with_fec_mate (l : Store Nat) : ({ d with fec := l } : Dev).mate = d.mate := rfl
@[simp] theorem Dev.setFec_mate (n : Nat) (v : Nat) : (d.setFec n v).mate = d.mate := Dev.with_fec_mate d _
theorem Dev.with_fec_grm (l : Store Nat) : ({ d with fec := l } : Dev).grm = d.grm := rfl
@[simp] theorem Dev.setFec_grm (n : Nat) (v : Nat) : (d.setFec n v).grm = d.grm := Dev.with_fec_grm d _
theorem Dev.with_fec_inFill (l : Store Nat) : ({ d with fec := l } : Dev).inFill = d.inFill := rfl
@[simp] theorem Dev.setFec_inFill (n : Nat) (v : Nat) : (d.setFec n v).inFill = d.inFill := Dev.with_fec_inFill d _
theorem Dev.with_fec_made (l : Store Nat) : ({ d with fec := l } : Dev).made = d.made := rfl
@[simp] theorem Dev.setFec_made (n : Nat) (v : Nat) : (d.setFec n v).made = d.made := Dev.with_fec_made d _
theorem Dev.with_fec_egress (l : Store Nat) : ({ d with fec := l } : Dev).egress = d.egress := rfl
@[simp] theorem Dev.setFec_egress (n : Nat) (v : Nat) : (d.setFec n v).egress = d.egress := Dev.with_fec_egress d _
theorem Dev.with_fec_inMove (l : Store Nat) : ({ d with fec := l } : Dev).inMove = d.inMove := rfl
@[simp] theorem Dev.setFec_inMove (n : Nat) (v : Nat) : (d.setFec n v).inMove = d.inMove := Dev.with_fec_inMove d _
theorem Dev.with_fec_egFill (l : Store Nat) : ({ d with fec := l } : Dev).egFill = d.egFill := rfl
@[simp] theorem Dev.setFec_egFill (n : Nat) (v : Nat) : (d.setFec n v).egFill = d.egFill := Dev.with_fec_egFill d _
theorem Dev.with_fec_egRead (l : Store Nat) : ({ d with fec := l } : Dev).egRead = d.egRead := rfl
@[simp] theorem Dev.setFec_egRead (n : Nat) (v : Nat) : (d.setFec n v).egRead = d.egRead := Dev.with_fec_egRead d _

theorem Dev.with_replies_now (l : Store Reply) : ({ d with replies := l } : Dev).now = d.now := rfl
@[simp] theorem Dev.reply_now (m : Nat) (r : Reply) : (d.reply m r).now = d.now := Dev.with_replies_now d _
theorem Dev.with_replies_fresh (l : Store Reply) : ({ d with replies := l } : Dev).fresh = d.fresh := rfl
@[simp] theorem Dev.reply_fresh (m : Nat) (r : Reply) : (d.reply m r).fresh = d.fresh := Dev.with_replies_fresh d _
theorem Dev.with_replies_words (l : Store Reply) : ({ d with replies := l } : Dev).words = d.words := rfl
@[simp] theorem Dev.reply_words (m : Nat) (r : Reply) : (d.reply m r).words = d.words := Dev.with_replies_words d _
theorem Dev.with_replies_activeMap (l : Store Reply) : ({ d with replies := l } : Dev).activeMap = d.activeMap := rfl
@[simp] theorem Dev.reply_activeMap (m : Nat) (r : Reply) : (d.reply m r).activeMap = d.activeMap := Dev.with_replies_activeMap d _
theorem Dev.with_replies_shadowMap (l : Store Reply) : ({ d with replies := l } : Dev).shadowMap = d.shadowMap := rfl
@[simp] theorem Dev.reply_shadowMap (m : Nat) (r : Reply) : (d.reply m r).shadowMap = d.shadowMap := Dev.with_replies_shadowMap d _
theorem Dev.with_replies_lanes (l : Store Reply) : ({ d with replies := l } : Dev).lanes = d.lanes := rfl
@[simp] theorem Dev.reply_lanes (m : Nat) (r : Reply) : (d.reply m r).lanes = d.lanes := Dev.with_replies_lanes d _
theorem Dev.with_replies_paths (l : Store Reply) : ({ d with replies := l } : Dev).paths = d.paths := rfl
@[simp] theorem Dev.reply_paths (m : Nat) (r : Reply) : (d.reply m r).paths = d.paths := Dev.with_replies_paths d _
theorem Dev.with_replies_restarts (l : Store Reply) : ({ d with replies := l } : Dev).restarts = d.restarts := rfl
@[simp] theorem Dev.reply_restarts (m : Nat) (r : Reply) : (d.reply m r).restarts = d.restarts := Dev.with_replies_restarts d _
theorem Dev.with_replies_structs (l : Store Reply) : ({ d with replies := l } : Dev).structs = d.structs := rfl
@[simp] theorem Dev.reply_structs (m : Nat) (r : Reply) : (d.reply m r).structs = d.structs := Dev.with_replies_structs d _
theorem Dev.with_replies_gfp (l : Store Reply) : ({ d with replies := l } : Dev).gfp = d.gfp := rfl
@[simp] theorem Dev.reply_gfp (m : Nat) (r : Reply) : (d.reply m r).gfp = d.gfp := Dev.with_replies_gfp d _
theorem Dev.with_replies_snaps (l : Store Reply) : ({ d with replies := l } : Dev).snaps = d.snaps := rfl
@[simp] theorem Dev.reply_snaps (m : Nat) (r : Reply) : (d.reply m r).snaps = d.snaps := Dev.with_replies_snaps d _
theorem Dev.with_replies_acc (l : Store Reply) : ({ d with replies := l } : Dev).acc = d.acc := rfl
@[simp] theorem Dev.reply_acc (m : Nat) (r : Reply) : (d.reply m r).acc = d.acc := Dev.with_replies_acc d _
theorem Dev.with_replies_accClosed (l : Store Reply) : ({ d with replies := l } : Dev).accClosed = d.accClosed := rfl
@[simp] theorem Dev.reply_accClosed (m : Nat) (r : Reply) : (d.reply m r).accClosed = d.accClosed := Dev.with_replies_accClosed d _
theorem Dev.with_replies_est (l : Store Reply) : ({ d with replies := l } : Dev).est = d.est := rfl
@[simp] theorem Dev.reply_est (m : Nat) (r : Reply) : (d.reply m r).est = d.est := Dev.with_replies_est d _
theorem Dev.with_replies_estAcc (l : Store Reply) : ({ d with replies := l } : Dev).estAcc = d.estAcc := rfl
@[simp] theorem Dev.reply_estAcc (m : Nat) (r : Reply) : (d.reply m r).estAcc = d.estAcc := Dev.with_replies_estAcc d _
theorem Dev.with_replies_ladle (l : Store Reply) : ({ d with replies := l } : Dev).ladle = d.ladle := rfl
@[simp] theorem Dev.reply_ladle (m : Nat) (r : Reply) : (d.reply m r).ladle = d.ladle := Dev.with_replies_ladle d _
theorem Dev.with_replies_bw (l : Store Reply) : ({ d with replies := l } : Dev).bw = d.bw := rfl
@[simp] theorem Dev.reply_bw (m : Nat) (r : Reply) : (d.reply m r).bw = d.bw := Dev.with_replies_bw d _
theorem Dev.with_replies_skw (l : Store Reply) : ({ d with replies := l } : Dev).skw = d.skw := rfl
@[simp] theorem Dev.reply_skw (m : Nat) (r : Reply) : (d.reply m r).skw = d.skw := Dev.with_replies_skw d _
theorem Dev.with_replies_fec (l : Store Reply) : ({ d with replies := l } : Dev).fec = d.fec := rfl
@[simp] theorem Dev.reply_fec (m : Nat) (r : Reply) : (d.reply m r).fec = d.fec := Dev.with_replies_fec d _
theorem Dev.with_replies_psq (l : Store Reply) : ({ d with replies := l } : Dev).psq = d.psq := rfl
@[simp] theorem Dev.reply_psq (m : Nat) (r : Reply) : (d.reply m r).psq = d.psq := Dev.with_replies_psq d _
theorem Dev.with_replies_flows (l : Store Reply) : ({ d with replies := l } : Dev).flows = d.flows := rfl
@[simp] theorem Dev.reply_flows (m : Nat) (r : Reply) : (d.reply m r).flows = d.flows := Dev.with_replies_flows d _
theorem Dev.with_replies_groups (l : Store Reply) : ({ d with replies := l } : Dev).groups = d.groups := rfl
@[simp] theorem Dev.reply_groups (m : Nat) (r : Reply) : (d.reply m r).groups = d.groups := Dev.with_replies_groups d _
theorem Dev.with_replies_members (l : Store Reply) : ({ d with replies := l } : Dev).members = d.members := rfl
@[simp] theorem Dev.reply_members (m : Nat) (r : Reply) : (d.reply m r).members = d.members := Dev.with_replies_members d _
theorem Dev.with_replies_msp (l : Store Reply) : ({ d with replies := l } : Dev).msp = d.msp := rfl
@[simp] theorem Dev.reply_msp (m : Nat) (r : Reply) : (d.reply m r).msp = d.msp := Dev.with_replies_msp d _
theorem Dev.with_replies_snc (l : Store Reply) : ({ d with replies := l } : Dev).snc = d.snc := rfl
@[simp] theorem Dev.reply_snc (m : Nat) (r : Reply) : (d.reply m r).snc = d.snc := Dev.with_replies_snc d _
theorem Dev.with_replies_applies (l : Store Reply) : ({ d with replies := l } : Dev).applies = d.applies := rfl
@[simp] theorem Dev.reply_applies (m : Nat) (r : Reply) : (d.reply m r).applies = d.applies := Dev.with_replies_applies d _
theorem Dev.with_replies_selRestart (l : Store Reply) : ({ d with replies := l } : Dev).selRestart = d.selRestart := rfl
@[simp] theorem Dev.reply_selRestart (m : Nat) (r : Reply) : (d.reply m r).selRestart = d.selRestart := Dev.with_replies_selRestart d _
theorem Dev.with_replies_bridge (l : Store Reply) : ({ d with replies := l } : Dev).bridge = d.bridge := rfl
@[simp] theorem Dev.reply_bridge (m : Nat) (r : Reply) : (d.reply m r).bridge = d.bridge := Dev.with_replies_bridge d _
theorem Dev.with_replies_sram (l : Store Reply) : ({ d with replies := l } : Dev).sram = d.sram := rfl
@[simp] theorem Dev.reply_sram (m : Nat) (r : Reply) : (d.reply m r).sram = d.sram := Dev.with_replies_sram d _
theorem Dev.with_replies_bursts (l : Store Reply) : ({ d with replies := l } : Dev).bursts = d.bursts := rfl
@[simp] theorem Dev.reply_bursts (m : Nat) (r : Reply) : (d.reply m r).bursts = d.bursts := Dev.with_replies_bursts d _
theorem Dev.with_replies_port (l : Store Reply) : ({ d with replies := l } : Dev).port = d.port := rfl
@[simp] theorem Dev.reply_port (m : Nat) (r : Reply) : (d.reply m r).port = d.port := Dev.with_replies_port d _
theorem Dev.with_replies_mgt (l : Store Reply) : ({ d with replies := l } : Dev).mgt = d.mgt := rfl
@[simp] theorem Dev.reply_mgt (m : Nat) (r : Reply) : (d.reply m r).mgt = d.mgt := Dev.with_replies_mgt d _
theorem Dev.with_replies_panel (l : Store Reply) : ({ d with replies := l } : Dev).panel = d.panel := rfl
@[simp] theorem Dev.reply_panel (m : Nat) (r : Reply) : (d.reply m r).panel = d.panel := Dev.with_replies_panel d _
theorem Dev.with_replies_timing (l : Store Reply) : ({ d with replies := l } : Dev).timing = d.timing := rfl
@[simp] theorem Dev.reply_timing (m : Nat) (r : Reply) : (d.reply m r).timing = d.timing := Dev.with_replies_timing d _
theorem Dev.with_replies_modes (l : Store Reply) : ({ d with replies := l } : Dev).modes = d.modes := rfl
@[simp] theorem Dev.reply_modes (m : Nat) (r : Reply) : (d.reply m r).modes = d.modes := Dev.with_replies_modes d _
theorem Dev.with_replies_mate (l : Store Reply) : ({ d with replies := l } : Dev).mate = d.mate := rfl
@[simp] theorem Dev.reply_mate (m : Nat) (r : Reply) : (d.reply m r).mate = d.mate := Dev.with_replies_mate d _
theorem Dev.with_replies_grm (l : Store Reply) : ({ d with replies := l } : Dev).grm = d.grm := rfl
@[simp] theorem Dev.reply_grm (m : Nat) (r : Reply) : (d.reply m r).grm = d.grm := Dev.with_replies_grm d _
theorem Dev.with_replies_inFill (l : Store Reply) : ({ d with replies := l } : Dev).inFill = d.inFill := rfl
@[simp] theorem Dev.reply_inFill (m : Nat) (r : Reply) : (d.reply m r).inFill = d.inFill := Dev.with_replies_inFill d _
theorem Dev.with_replies_made (l : Store Reply) : ({ d with replies := l } : Dev).made = d.made := rfl
@[simp] theorem Dev.reply_made (m : Nat) (r : Reply) : (d.reply m r).made = d.made := Dev.with_replies_made d _
theorem Dev.with_replies_egress (l : Store Reply) : ({ d with replies := l } : Dev).egress = d.egress := rfl
@[simp] theorem Dev.reply_egress (m : Nat) (r : Reply) : (d.reply m r).egress = d.egress := Dev.with_replies_egress d _
theorem Dev.with_replies_inMove (l : Store Reply) : ({ d with replies := l } : Dev).inMove = d.inMove := rfl
@[simp] theorem Dev.reply_inMove (m : Nat) (r : Reply) : (d.reply m r).inMove = d.inMove := Dev.with_replies_inMove d _
theorem Dev.with_replies_egFill (l : Store Reply) : ({ d with replies := l } : Dev).egFill = d.egFill := rfl
@[simp] theorem Dev.reply_egFill (m : Nat) (r : Reply) : (d.reply m r).egFill = d.egFill := Dev.with_replies_egFill d _
theorem Dev.with_replies_egRead (l : Store Reply) : ({ d with replies := l } : Dev).egRead = d.egRead := rfl
@[simp] theorem Dev.reply_egRead (m : Nat) (r : Reply) : (d.reply m r).egRead = d.egRead := Dev.with_replies_egRead d _

@[simp] theorem Dev.setLane_word (n : Nat) (l : LaneSt) (z : Nat) : (d.setLane n l).word z = d.word z := by simp only [Dev.word, Dev.setLane_words]
@[simp] theorem Dev.setLane_get (n : Nat) (l : LaneSt) (z : Field) : (d.setLane n l).get z = d.get z := by simp only [Dev.get, Dev.setLane_word]
@[simp] theorem Dev.setLane_on (n : Nat) (l : LaneSt) (z : Field) : (d.setLane n l).on z = d.on z := by simp only [Dev.on, Dev.setLane_get]
@[simp] theorem Dev.setPath_word (k : Nat) (p : PathSt) (z : Nat) : (d.setPath k p).word z = d.word z := by simp only [Dev.word, Dev.setPath_words]
@[simp] theorem Dev.setPath_get (k : Nat) (p : PathSt) (z : Field) : (d.setPath k p).get z = d.get z := by simp only [Dev.get, Dev.setPath_word]
@[simp] theorem Dev.setPath_on (k : Nat) (p : PathSt) (z : Field) : (d.setPath k p).on z = d.on z := by simp only [Dev.on, Dev.setPath_get]
@[simp] theorem Dev.setGfpSieve_word (g : Nat) (x : Sieve) (z : Nat) : (d.setGfpSieve g x).word z = d.word z := by simp only [Dev.word, Dev.setGfpSieve_words]
@[simp] theorem Dev.setGfpSieve_get (g : Nat) (x : Sieve) (z : Field) : (d.setGfpSieve g x).get z = d.get z := by simp only [Dev.get, Dev.setGfpSieve_word]
@[simp] theorem Dev.setGfpSieve_on (g : Nat) (x : Sieve) (z : Field) : (d.setGfpSieve g x).on z = d.on z := by simp only [Dev.on, Dev.setGfpSieve_get]
@[simp] theorem Dev.setEst_word (k : Nat) (l : EstSt) (z : Nat) : (d.setEst k l).word z = d.word z := by simp only [Dev.word, Dev.setEst_words]
@[simp] theorem Dev.setEst_get (k : Nat) (l : EstSt) (z : Field) : (d.setEst k l).get z = d.get z := by simp only [Dev.get, Dev.setEst_word]
@[simp] theorem Dev.setEst_on (k : Nat) (l : EstSt) (z : Field) : (d.setEst k l).on z = d.on z := by simp only [Dev.on, Dev.setEst_get]
@[simp] theorem Dev.setTiming_word (t : Timing) (z : Nat) : (d.setTiming t).word z = d.word z := by simp only [Dev.word, Dev.setTiming_words]
@[simp] theorem Dev.setTiming_get (t : Timing) (z : Field) : (d.setTiming t).get z = d.get z := by simp only [Dev.get, Dev.setTiming_word]
@[simp] theorem Dev.setTiming_on (t : Timing) (z : Field) : (d.setTiming t).on z = d.on z := by simp only [Dev.on, Dev.setTiming_get]
@[simp] theorem Dev.setMgt_word (m : Mgt) (z : Nat) : (d.setMgt m).word z = d.word z := by simp only [Dev.word, Dev.setMgt_words]
@[simp] theorem Dev.setMgt_get (m : Mgt) (z : Field) : (d.setMgt m).get z = d.get z := by simp only [Dev.get, Dev.setMgt_word]
@[simp] theorem Dev.setMgt_on (m : Mgt) (z : Field) : (d.setMgt m).on z = d.on z := by simp only [Dev.on, Dev.setMgt_get]
@[simp] theorem Dev.setGrm_word (g : Grm) (z : Nat) : (d.setGrm g).word z = d.word z := by simp only [Dev.word, Dev.setGrm_words]
@[simp] theorem Dev.setGrm_get (g : Grm) (z : Field) : (d.setGrm g).get z = d.get z := by simp only [Dev.get, Dev.setGrm_word]
@[simp] theorem Dev.setGrm_on (g : Grm) (z : Field) : (d.setGrm g).on z = d.on z := by simp only [Dev.on, Dev.setGrm_get]
@[simp] theorem Dev.setMate_word (m : Mate) (z : Nat) : (d.setMate m).word z = d.word z := by simp only [Dev.word, Dev.setMate_words]
@[simp] theorem Dev.setMate_get (m : Mate) (z : Field) : (d.setMate m).get z = d.get z := by simp only [Dev.get, Dev.setMate_word]
@[simp] theorem Dev.setMate_on (m : Mate) (z : Field) : (d.setMate m).on z = d.on z := by simp only [Dev.on, Dev.setMate_get]
@[simp] theorem Dev.setPanel_word (p : Panel) (z : Nat) : (d.setPanel p).word z = d.word z := by simp only [Dev.word, Dev.setPanel_words]
@[simp] theorem Dev.setPanel_get (p : Panel) (z : Field) : (d.setPanel p).get z = d.get z := by simp only [Dev.get, Dev.setPanel_word]
@[simp] theorem Dev.setPanel_on (p : Panel) (z : Field) : (d.setPanel p).on z = d.on z := by simp only [Dev.on, Dev.setPanel_get]
@[simp] theorem Dev.setPort_word (p : Port) (z : Nat) : (d.setPort p).word z = d.word z := by simp only [Dev.word, Dev.setPort_words]
@[simp] theorem Dev.setPort_get (p : Port) (z : Field) : (d.setPort p).get z = d.get z := by simp only [Dev.get, Dev.setPort_word]
@[simp] theorem Dev.setPort_on (p : Port) (z : Field) : (d.setPort p).on z = d.on z := by simp only [Dev.on, Dev.setPort_get]
@[simp] theorem Dev.setMsp_word (g : Nat) (p : ProtSt) (z : Nat) : (d.setMsp g p).word z = d.word z := by simp only [Dev.word, Dev.setMsp_words]
@[simp] theorem Dev.setMsp_get (g : Nat) (p : ProtSt) (z : Field) : (d.setMsp g p).get z = d.get z := by simp only [Dev.get, Dev.setMsp_word]
@[simp] theorem Dev.setMsp_on (g : Nat) (p : ProtSt) (z : Field) : (d.setMsp g p).on z = d.on z := by simp only [Dev.on, Dev.setMsp_get]
@[simp] theorem Dev.setSnc_word (i : Nat) (p : ProtSt) (z : Nat) : (d.setSnc i p).word z = d.word z := by simp only [Dev.word, Dev.setSnc_words]
@[simp] theorem Dev.setSnc_get (i : Nat) (p : ProtSt) (z : Field) : (d.setSnc i p).get z = d.get z := by simp only [Dev.get, Dev.setSnc_word]
@[simp] theorem Dev.setSnc_on (i : Nat) (p : ProtSt) (z : Field) : (d.setSnc i p).on z = d.on z := by simp only [Dev.on, Dev.setSnc_get]
@[simp] theorem Dev.setGroup_word (g : Nat) (x : GroupSt) (z : Nat) : (d.setGroup g x).word z = d.word z := by simp only [Dev.word, Dev.setGroup_words]
@[simp] theorem Dev.setGroup_get (g : Nat) (x : GroupSt) (z : Field) : (d.setGroup g x).get z = d.get z := by simp only [Dev.get, Dev.setGroup_word]
@[simp] theorem Dev.setGroup_on (g : Nat) (x : GroupSt) (z : Field) : (d.setGroup g x).on z = d.on z := by simp only [Dev.on, Dev.setGroup_get]
@[simp] theorem Dev.setMember_word (i : Nat) (x : MemberSt) (z : Nat) : (d.setMember i x).word z = d.word z := by simp only [Dev.word, Dev.setMember_words]
@[simp] theorem Dev.setMember_get (i : Nat) (x : MemberSt) (z : Field) : (d.setMember i x).get z = d.get z := by simp only [Dev.get, Dev.setMember_word]
@[simp] theorem Dev.setMember_on (i : Nat) (x : MemberSt) (z : Field) : (d.setMember i x).on z = d.on z := by simp only [Dev.on, Dev.setMember_get]
@[simp] theorem Dev.setFlow_word (f : Nat) (q : FlowQ) (z : Nat) : (d.setFlow f q).word z = d.word z := by simp only [Dev.word, Dev.setFlow_words]
@[simp] theorem Dev.setFlow_get (f : Nat) (q : FlowQ) (z : Field) : (d.setFlow f q).get z = d.get z := by simp only [Dev.get, Dev.setFlow_word]
@[simp] theorem Dev.setFlow_on (f : Nat) (q : FlowQ) (z : Field) : (d.setFlow f q).on z = d.on z := by simp only [Dev.on, Dev.setFlow_get]
@[simp] theorem Dev.setBurst_word (m : Nat) (b : Burst) (z : Nat) : (d.setBurst m b).word z = d.word z := by simp only [Dev.word, Dev.setBurst_words]
@[simp] theorem Dev.setBurst_get (m : Nat) (b : Burst) (z : Field) : (d.setBurst m b).get z = d.get z := by simp only [Dev.get, Dev.setBurst_word]
@[simp] theorem Dev.setBurst_on (m : Nat) (b : Burst) (z : Field) : (d.setBurst m b).on z = d.on z := by simp only [Dev.on, Dev.setBurst_get]
@[simp] theorem Dev.setFec_word (n : Nat) (v : Nat) (z : Nat) : (d.setFec n v).word z = d.word z := by simp only [Dev.word, Dev.setFec_words]
@[simp] theorem Dev.setFec_get (n : Nat) (v : Nat) (z : Field) : (d.setFec n v).get z = d.get z := by simp only [Dev.get, Dev.setFec_word]
@[simp] theorem Dev.setFec_on (n : Nat) (v : Nat) (z : Field) : (d.setFec n v).on z = d.on z := by simp only [Dev.on, Dev.setFec_get]
@[simp] theorem Dev.reply_word (m : Nat) (r : Reply) (z : Nat) : (d.reply m r).word z = d.word z := by simp only [Dev.word, Dev.reply_words]
@[simp] theorem Dev.reply_get (m : Nat) (r : Reply) (z : Field) : (d.reply m r).get z = d.get z := by simp only [Dev.get, Dev.reply_word]
@[simp] theorem Dev.reply_on (m : Nat) (r : Reply) (z : Field) : (d.reply m r).on z = d.on z := by simp only [Dev.on, Dev.reply_get]

end Sys2Proof.Machine
end

