-- ==== Sys2Proof/Laws/Ops.lean ====
section
/-! SUPPORT. What the shared operations can do, said once: the stores of the device's parts, repeated and conditional updates, and
the accesses of a bus master by what the matrix answers. -/

namespace Sys2Proof.Machine

/-! The stores of the parts -/

theorem Dev.lane_setLane (d : Dev) (n j : Nat) (l : LaneSt) : (d.setLane n l).lane j = if j = n then l else d.lane j :=
  Store.get_set _ _ _ _ _

@[simp] theorem Dev.lane_setLane_same (d : Dev) (n : Nat) (l : LaneSt) : (d.setLane n l).lane n = l := by simp [Dev.lane_setLane]

@[simp] theorem Dev.soh_setSoh (d : Dev) (n : Nat) (x : Soh) : (d.setSoh n x).soh n = x := by simp [Dev.setSoh, Dev.soh]

@[simp] theorem Dev.tu_setTu (d : Dev) (n : Nat) (x : TuRx) : (d.setTu n x).tu n = x := by simp [Dev.setTu, Dev.tu]

theorem Dev.path_setPath (d : Dev) (k j : Nat) (p : PathSt) : (d.setPath k p).path j = if j = k then p else d.path j :=
  Store.get_set _ _ _ _ _

@[simp] theorem Dev.path_setPath_same (d : Dev) (k : Nat) (p : PathSt) : (d.setPath k p).path k = p := by simp [Dev.path_setPath]

theorem Dev.gfpSieve_setGfpSieve (d : Dev) (g j : Nat) (x : Sieve) :
    (d.setGfpSieve g x).gfpSieve j = if j = g then x else d.gfpSieve j := Store.get_set _ _ _ _ _

theorem Dev.burst_setBurst (d : Dev) (m j : Nat) (b : Burst) : (d.setBurst m b).burst j = if j = m then b else d.burst j :=
  Store.get_set _ _ _ _ _

theorem Dev.fecCount_setFec (d : Dev) (n j v : Nat) : (d.setFec n v).fecCount j = if j = n then v % 2 ^ 64 else d.fecCount j :=
  Store.get_set _ _ _ _ _

theorem Dev.replyTo_reply (d : Dev) (m j : Nat) (r : Reply) : (d.reply m r).replyTo j = if j = m then r else d.replyTo j :=
  Store.get_set _ _ _ _ _

/-! Conditional and repeated updates -/

/-- What holds of `d`, and of `g d` where the condition holds, holds of the conditional update. -/
theorem Dev.when_ind {P : Dev → Prop} {d : Dev} {c : Bool} {g : Dev → Dev} (h0 : P d) (h1 : c = true → P (g d)) : P (d.when c g) := by
  unfold Dev.when
  split
  · exact h1 ‹_›
  · exact h0

/-- What each update keeps, their run keeps. -/
theorem Dev.each_ind {P : Dev → Prop} {d : Dev} {n : Nat} {g : Dev → Nat → Dev} (h0 : P d)
    (h : ∀ e i, i < n → P e → P (g e i)) : P (d.each n g) := by
  have run : ∀ (l : List Nat) (e : Dev), (∀ i ∈ l, i < n) → P e → P (l.foldl g e) := by
    intro l
    induction l with
    | nil => intro e _ he; exact he
    | cons a l ih =>
      intro e hl he
      exact ih _ (fun i hi => hl i (List.mem_cons_of_mem _ hi)) (h e a (hl a (List.mem_cons_self ..)) he)
  exact run _ d (fun i hi => List.mem_range.mp hi) h0

/-- R414: a transaction that is seen changes the filtered counters alone. -/
theorem Dev.fecSeen_frame (d : Dev) (m a : Nat) (w : Bool) (r : Resp) (b : Nat) :
    d.fecSeen m a w r b = { d with fec := (d.fecSeen m a w r b).fec } := by
  unfold Dev.fecSeen
  refine Dev.each_ind (P := fun e => e = { d with fec := e.fec }) rfl ?_
  intro e i _ he
  split
  · rw [Dev.setFec]; rw [he]
  · exact he

/-- R491: a listed item changes the list of items alone. -/
theorem Dev.note_frame (d : Dev) (k x : Nat) : d.note k x = { d with mate := { d.mate with items := (d.note k x).mate.items } } := by
  unfold Dev.note
  split <;> rfl

theorem Dev.noteWrite_frame (d : Dev) (a : Nat) :
    d.noteWrite a = { d with mate := { d.mate with items := (d.noteWrite a).mate.items } } := by
  cases h : replicated a with
  | true =>
    have e : d.noteWrite a = d.note 1 a := by simp [Dev.noteWrite, Dev.when, h]
    rw [e]
    exact d.note_frame 1 a
  | false =>
    have e : d.noteWrite a = d := by simp [Dev.noteWrite, Dev.when, h]
    rw [e]

/-! The accesses of a bus master -/

/-- What an access that is answered changes beside its own effect. -/
theorem Dev.answered_frame (d : Dev) (m a : Nat) (c w : Bool) (r : Resp) (l : List Byte) (b : Nat) :
    let e := ((d.when c (fun x => x.noteWrite a)).reply m { resp := r, data := l }).fecSeen m a w r b
    e = { d with replies := e.replies, fec := e.fec, mate := e.mate } ∧ Replied m r d e
      ∧ e.replyTo m = { resp := r, data := l } := by
  intro e
  have hn : ∀ x : Dev, ∃ i, (x.when c (fun y => y.noteWrite a)) = { x with mate := { x.mate with items := i } } := by
    intro x
    cases c with
    | true => exact ⟨_, x.noteWrite_frame a⟩
    | false => exact ⟨x.mate.items, rfl⟩
  obtain ⟨i, hi⟩ := hn d
  have he : e = { d with replies := Store.set (fun _ => {}) d.replies m { resp := r, data := l }, fec := e.fec,
                         mate := { d.mate with items := i } } := by
    have hf : e = _ := Dev.fecSeen_frame _ m a w r b
    rw [hf, hi]
    rfl
  have hr : ∀ j, e.replyTo j = if j = m then { resp := r, data := l } else d.replyTo j := by
    intro j
    rw [he]
    exact Store.get_set _ _ _ _ _
  refine ⟨by rw [he], ⟨by simp [hr], fun j hj => by simp [hr, hj], by rw [he]⟩, by simp [hr]⟩

/-- A write that its target takes: the effect, and the answer. -/
theorem Dev.write_ok {d : Dev} {m a : Nat} {op : Dev → Dev × Resp} (h : d.grant m a true = .ok) :
    d.write m a op = { (op d).1 with
        replies := (d.write m a op).replies, fec := (d.write m a op).fec, mate := (d.write m a op).mate }
      ∧ Replied m (op d).2 (op d).1 (d.write m a op) := by
  have e : d.write m a op
      = (((op d).1.when ((op d).2 == .okay) (fun x => x.noteWrite a)).reply m { resp := (op d).2 }).fecSeen m a true (op d).2 1 := by
    simp [Dev.write, h]
  rw [e]
  exact ⟨(Dev.answered_frame _ m a _ true _ [] 1).1, (Dev.answered_frame _ m a _ true _ [] 1).2.1⟩

/-- A write that is never issued, or that meets a reset. -/
theorem Dev.write_never {d : Dev} {m a : Nat} {op : Dev → Dev × Resp} (h : d.grant m a true = .never) : d.write m a op = d := by
  simp [Dev.write, h]

/-- A write that is refused before its target: only the answer, and the permission event where that was the reason. -/
theorem Dev.write_refused {d : Dev} {m a : Nat} {op : Dev → Dev × Resp} {w : Bool} (h : d.grant m a true = if w then .denied else .slverr) :
    let e := if w then d.raise F.mtxEvtPerm else d
    d.write m a op = { e with
        replies := (d.write m a op).replies, fec := (d.write m a op).fec, mate := (d.write m a op).mate }
      ∧ Replied m .slverr e (d.write m a op) := by
  intro e
  have hw : d.write m a op = ((e.when false (fun x => x.noteWrite a)).reply m { resp := .slverr }).fecSeen m a true .slverr 1 := by
    cases w <;> simp [Dev.write, h, Dev.refuse, Dev.when, e]
  rw [hw]
  exact ⟨(Dev.answered_frame _ m a _ true _ [] 1).1, (Dev.answered_frame _ m a _ true _ [] 1).2.1⟩

/-- A read that its target answers. -/
theorem Dev.readThen_ok {d : Dev} {m a : Nat} {w : W32} {after : Dev → Dev} (h : d.grant m a false = .ok) :
    d.readThen m a w after = { after d with
        replies := (d.readThen m a w after).replies, fec := (d.readThen m a w after).fec, mate := (d.readThen m a w after).mate }
      ∧ Replied m .okay (after d) (d.readThen m a w after)
      ∧ (d.readThen m a w after).replyTo m = { resp := .okay, data := [byteOf w 0, byteOf w 1, byteOf w 2, byteOf w 3] } := by
  have e : d.readThen m a w after
      = (((after d).when false (fun x => x.noteWrite a)).reply m
          { resp := .okay, data := [byteOf w 0, byteOf w 1, byteOf w 2, byteOf w 3] }).fecSeen m a false .okay 1 := by
    simp [Dev.readThen, h, Dev.when]
  rw [e]
  exact Dev.answered_frame _ m a _ false _ _ 1

/-- A write whose effect may reach the memories, by what the matrix answers. -/
theorem Chip.write_ok {c : Chip} {m a : Nat} {op : Chip → Chip × Resp} (h : c.dev.grant m a true = .ok) :
    (c.write m a op).mem = (op c).1.mem ∧ (c.write m a op).flash = (op c).1.flash
      ∧ (c.write m a op).dev = { (op c).1.dev with
          replies := (c.write m a op).dev.replies, fec := (c.write m a op).dev.fec, mate := (c.write m a op).dev.mate }
      ∧ Replied m (op c).2 (op c).1.dev (c.write m a op).dev := by
  have e : c.write m a op = { (op c).1 with dev :=
      (((op c).1.dev.when ((op c).2 == .okay) (fun x => x.noteWrite a)).reply m { resp := (op c).2 }).fecSeen m a true (op c).2 1 } := by
    simp [Chip.write, h]
  rw [e]
  exact ⟨rfl, rfl, (Dev.answered_frame _ m a _ true _ [] 1).1, (Dev.answered_frame _ m a _ true _ [] 1).2.1⟩

theorem Chip.write_never {c : Chip} {m a : Nat} {op : Chip → Chip × Resp} (h : c.dev.grant m a true = .never) :
    c.write m a op = c := by simp [Chip.write, h]

/-- The queue is no part of what a unit changes. -/
@[simp] theorem State.run_pending (s : State) (f : Chip → Chip) : (s.run f).pending = s.pending := rfl

end Sys2Proof.Machine
end

