-- ==== Sys2Proof/Tests/Slice0.lean ====
section
/-! SUPPORT. Small tests, and for each statement states and operands that meet its hypotheses. -/

namespace Sys2Proof.Tests
open Sys2Proof.Machine

set_option maxRecDepth 100000

/-! States to test with -/

/-- The state with another device. -/
def withDev (f : Dev → Dev) (s : State) : State := { s with dev := f s.dev }

/-- The device out of reset, with nothing configured. -/
def up : State := withDev (fun d => { d with modes := { d.modes with inReset := .no } }) State.reset

/-- `up` with the given fields. -/
def st (fs : List (Field × Nat)) (f : Dev → Dev := id) : State :=
  withDev (fun d => f (fs.foldl (fun e x => e.put x.1 x.2) d)) up

def withLane (n : Nat) (f : LaneSt → LaneSt) (d : Dev) : Dev := d.setLane n (f (d.lane n))

/-- Lane `n` has the type and rate in force. -/
def typed (n type rate : Nat) (d : Dev) : Dev :=
  withLane n (fun l => { l with cfg := BitVec.ofNat 32 (type * 16 + rate) })
    (d.setWord (laneAddr n Reg.laneCfg) (BitVec.ofNat 32 (type * 16 + rate)))

/-- Lane `n` is in frame, with no defect. -/
def framed (n : Nat) (d : Dev) : Dev :=
  ((d.put ⟨laneAddr n Reg.laneDefStat, 0, 32⟩ 0).put (F.laneSvStatState.lane n) svFrame).put (F.laneSvStatOof.lane n) 0

/-- A Sieve with the given slots and FREE ones behind. -/
def sieved (l : List Slot) (errors : Nat := 0) (cfg : W32 := 0) : Sieve :=
  { slots := l ++ List.replicate (8 - l.length) {}, errors := errors, cfg := cfg }

/-- The state that a command answers. -/
def after (c : Instr) (s : State) : State :=
  match exec c s with
  | .next t => t
  | _ => s

/-! The form of commands -/

theorem test_wellFormed_admits_edges :
    wellFormed (.shedLevelEnter { slack := 100, monitor := 11, millivolt := 900 }) = true := by decide

theorem test_wellFormed_refuses_accesses :
    wellFormed (.registerWrite 3 0 0 0) = false ∧ wellFormed (.registerWrite 1 2 0 0) = false
      ∧ wellFormed (.snapshotCapture 6 0) = false ∧ wellFormed (.remapWrite 3 0) = false
      ∧ wellFormed (.busTransaction 0 { write := true, addr := 0, len := 2, data := [1], ecc := .clean } none) = false
      ∧ wellFormed (.busTransaction 0 { write := false, addr := 0, len := 0, data := [], ecc := .clean } none) = false
      ∧ wellFormed (.busTransaction 0 { write := false, addr := 0, len := 2, data := [], ecc := .clean } (some 3)) = false := by decide

theorem test_wellFormed_refuses_lengths :
    wellFormed (.sighting (.lane 0) 0 ⟨0, [1]⟩) = false ∧ wellFormed (.expectedMark (.gfp 0) 0 0 [1]) = false
      ∧ wellFormed (.prbsLossOfSync 0 []) = false ∧ wellFormed (.trialB1Byte 0 0 [1] 0) = false
      ∧ wellFormed (.lineFrameReceived 0 [1]) = false ∧ wellFormed (.tustraBlock 0 0 [1]) = false
      ∧ wellFormed (.gfpFrameReceived 0 0 [1, 2, 3]) = false ∧ wellFormed (.heartbeatReceived (.block 0 [1])) = false
      ∧ wellFormed (.digest ⟨65, List.replicate 264 0⟩) = false ∧ wellFormed (.stateEndBlock 0x80 [0] [0, 0] [0, 0, 0, 0] [0, 0, 0, 0]) = false
      ∧ wellFormed (.stateEndBlock 0 [0, 0, 0, 0] [0, 0] [0, 0, 0, 0] [0, 0, 0, 0]) = false
      ∧ wellFormed (.selfchk ⟨0, [1]⟩) = false ∧ wellFormed (.handoverBlock ⟨0, [1]⟩) = false ∧ wellFormed (.key ⟨0, [1]⟩) = false
      ∧ wellFormed (.timeout 1799) = false ∧ wellFormed (.timeout 2001) = false ∧ wellFormed (.c2Accept (.ho 0) 256) = false
      ∧ wellFormed (.pathRdiAccept (.ho 0) .rdi 2) = false ∧ wellFormed (.strainerRelease 0 0 0 1152) = false
      ∧ wellFormed (.controlPacket 0 { ctrl := 16 }) = false
      ∧ wellFormed (.traceRecordWrite (.tag 5 0 0)) = false ∧ wellFormed (.traceRecordWrite (.tag 0 96 0)) = false := by
  decide

theorem test_wellFormed_refuses_ranges :
    wellFormed (.checkDone [5, 3]) = false ∧ wellFormed (.fp8kEdge { mapUe := [3, 3], frames := [], flowUe := [], psqCe := [], psqUe := [] }) = false
      ∧ wellFormed (.read { header := [1], data := [], crc := [], beats := 0, ecc := .clean }) = false
      ∧ wellFormed (.mbDone 0 .ok 1 [1, 2]) = false ∧ wellFormed (.scanCycle { keys := [], presence := [], touch := [] }) = false
      ∧ wellFormed (.shedLevelEnter { slack := 101, monitor := 0, millivolt := 0 }) = false := by decide

theorem test_decodeTableWord_has_no_bits : decodeTableWord 0 0 = none := by decide

theorem test_withFetchWord_leaves_state : (up.withFetchWord 0 0).pending = [] := by decide

/-! The machine as a whole -/

theorem witness_StepRunsFrontCommand :
    ({ up with pending := [.refselApply, .epoch] } : State).pending = .refselApply :: [.epoch] := by decide

theorem witness_QueueAndIdleSteps : up.pending = [] := by decide

theorem witness_StepKeepsMemoriesCanonical : State.reset.Safe ∧ ∃ t, step State.reset = .next t := ⟨by decide, _, rfl⟩

/-! The bus matrix -/

theorem witness_SharedRegisterWrites :
    up.dev.busFree 1 = true ∧ up.dev.inBurst 1 = false
      ∧ (BitVec.ofNat 40 (pageAddr 1 Reg.hdrMask) : Addr).toNat = pageAddr 1 Reg.hdrMask ∧ up.mayWrite 1 (pageAddr 1 Reg.hdrMask)
      ∧ (BitVec.ofNat 40 (pageAddr 1 Reg.hdrSticky) : Addr).toNat = pageAddr 1 Reg.hdrSticky
      ∧ up.mayWrite 1 (pageAddr 1 Reg.hdrSticky) ∧ up.mayWrite 1 Reg.devBootctl ∧ up.mayWrite 0 Reg.devBootctl := by decide

/-- The first and the last bytes of the SRAM; the PMP lets machine mode write, and refuses user mode where no entry matches. -/
theorem witness_SramTransaction :
    up.dev.busFree 0 = true ∧ up.dev.inBurst 0 = false ∧ up.dev.busFree 1 = true ∧ up.dev.inBurst 1 = false
      ∧ isProcessor 0 = false ∧ (0x0400_0000#40).toNat = 0x0400_0000 ∧ (0x043F_FFF8#40).toNat + 8 = 0x0440_0000
      ∧ isProcessor 1 = true ∧ up.dev.pmpPasses 1 0x0400_0000 8 true = true ∧ up.dev.pmpPasses 1 0x0400_0000 8 false = true
      ∧ up.dev.busFree 2 = true ∧ up.dev.inBurst 2 = false ∧ up.dev.pmpPasses 2 0x0400_0000 8 true = false
      ∧ up.dev.sram.poison = [] := by decide

def waiting (rises now : Nat) : State := withDev (fun d =>
  { d with now := now, bursts := [(5, { write := true, addr := 0x0400_0000, len := 4, data := [1, 2, 3, 4], since := 0, rises := rises })] }) up

theorem witness_WaitingTransactions :
    ((waiting 0 6221).dev.burst 5 ≠ {} ∧ ((waiting 0 6221).dev.burst 5).since + 6221 ≤ 6221)
      ∧ (((waiting 1 12442).dev.burst 5).rises < 2 ∧ ((waiting 1 12442).dev.burst 5).since + 6221 * 2 ≤ 12442)
      ∧ (((waiting 2 124416).dev.burst 5).ended = false ∧ ((waiting 2 124416).dev.burst 5).since + 124416 ≤ 124416) := by decide

theorem test_arbitrationAging_raises_the_class :
    ((after (.arbitrationAging 5) (waiting 0 6221)).dev.burst 5).rises = 1 := by decide

theorem witness_ReadsWithEffects :
    (BitVec.ofNat 40 Reg.clkTbLo : Addr).toNat = Reg.clkTbLo ∧ up.mayRead 0 Reg.clkTbLo
      ∧ up.mayRead 1 Reg.psqPeakF2l ∧ up.mayRead 1 Reg.psqPeakL2f := by decide

def debugging (req : Nat) (locked halted : Bool) : State := withDev (fun d =>
  { d with mgt := { d.mgt with tap := 0x11, halted := halted, otp := { d.mgt.otp with provisioned := true, locked := locked } } })
  (st [(F.secDbgReq, req)])

theorem witness_DebugModuleAccess :
    ((debugging 2 false false).dev.mgt.tap = 0x11#5 ∧ (debugging 2 false false).dev.modes.inReset = .no
        ∧ (debugging 2 false false).dev.debugLevel = 2 ∧ (debugging 2 false false).dev.mgt.halted = false)
      ∧ (debugging 2 false true).dev.mgt.halted = true
      ∧ ((debugging 2 true false).dev.debugLevel = 0 ∧ (debugging 2 true false).dev.mgt.tap = 0x11#5)
      ∧ (debugging 1 false true).dev.debugLevel = 1
      ∧ ((debugging 2 false false).dev.inBurst 1 = false ∧ (debugging 2 false false).dev.sram.poison = []
        ∧ (0x043F_FFFF#40).toNat < 0x0440_0000 ∧ 0x0400_0000 ≤ (0x0400_0000#40).toNat) := by decide

theorem test_dmi_below_observe_fails :
    (after (.dmiAccess .haltReq) (debugging 2 true false)).dev.mgt.dmiStatus = 2
      ∧ (after (.dmiAccess .haltReq) (debugging 2 true false)).dev.mgt.halted = false := by decide

/-! The Timing Unit -/

def looped (loop : LoopState) (a b : Option Nat) (mode : Nat) : State := withDev (fun d =>
  { d with now := 6220800010,
           timing := { d.timing with loop := loop, okA := a, okB := b, sel := d.word Reg.clkRefsel, firstLock := some 0 } })
  (st [(F.clkStatusRootValid, 1), (F.clkRefselMode, mode)])

theorem witness_ReferenceLost :
    ((looped (.locked .a) (some 3) (some 4) 2).dev.timing.loop = .locked .a
        ∧ 2 ≤ (looped (.locked .a) (some 3) (some 4) 2).dev.timing.mode
        ∧ ((looped (.locked .a) (some 3) (some 4) 2).dev.timing.ok (otherRef .a)).isSome = true)
      ∧ (looped (.hold .a) (some 3) none 2).dev.timing.ok (otherRef .a) = none
      ∧ ((looped (.locked .a) (some 3) (some 4) 0).dev.timing.mode < 2 ∧ (looped (.locked .a) (some 3) none 2).dev.get F.clkLossPolicyPolicy = 0)
      ∧ (looped (.acquiring .a) none none 2).dev.timing.loop = .acquiring .a ∧ (looped (.pullIn .a) (some 3) none 2).dev.timing.loop = .pullIn .a
      ∧ (looped (.locked .b) (some 3) (some 4) 2).dev.timing.loop = .locked (otherRef .a) := by decide

theorem test_deadClock_holds_towards_the_other_input :
    (after (.deadClockDeclaration .a 64) (looped (.locked .a) (some 3) (some 4) 2)).dev.timing.loop = .hold .b
      ∧ (after (.phaseErrorFailure 201) (looped (.locked .a) (some 3) (some 4) 2)).dev.timing.loop = .hold .b
      ∧ (after (.phaseErrorFailure 200) (looped (.locked .a) (some 3) (some 4) 2)).dev.timing.loop = .locked .a := by decide

theorem witness_ReferenceChange :
    ((looped (.locked .b) none (some 4) 2).dev.modes.inReset ≠ .cold ∧ (looped (.locked .b) none (some 4) 2).dev.timing.okA = none
        ∧ (looped (.locked .b) none (some 4) 2).dev.timing.allows (otherRef .a) = true)
      ∧ ((looped (.hold .b) (some 3) (some 4) 2).dev.timing.allows .b = true)
      ∧ ((looped (.locked .b) (some 10) (some 4) 2).dev.timing.mode = 2
        ∧ (looped (.locked .b) (some 10) (some 4) 2).dev.timing.revert = 10) := by decide

theorem witness_TimeBaseAndSelection :
    (looped (.acquiring .a) none none 2).dev.timing.loop = .acquiring .a
      ∧ (looped (.pullIn .a) (some 3) none 2).dev.timing.allows .a = true
      ∧ ((looped (.hold .a) (some 3) none 2).mayWrite 1 Reg.clkRefsel ∧ (looped (.hold .a) (some 3) none 2).dev.timing.moving = true)
      ∧ (looped (.locked .a) (some 3) none 2).dev.timing.moving = false
      ∧ (withDev (fun d => { d with timing := { d.timing with selPending := true } })
          (looped (.locked .a) (some 3) none 2)).dev.timing.selPending = true := by decide

def recovered : State := withDev (fun d => withLane 0 (fun l => { l with cdrSince := some 0 }) { d with now := 6220800 })
  (st [(F.clkLrcEn.at 4 3, 1), (F.devModeMode, modeService), (F.hdrCapPresent.page 0x10, 1), (F.devCapPlane0P, 0xFFFF)])

theorem witness_RecoveredClocks :
    (recovered.dev.lane (recovered.dev.timing.lrc.getD 3 0)).cdrSince = some 0 ∧ 0 + 6220800 ≤ recovered.dev.now
      ∧ recovered.dev.on (F.clkLrcEn.at 4 3) = true
      ∧ recovered.dev.present (lanePage (recovered.dev.timing.lrc.getD 3 0)) = true ∧ recovered.dev.mode ≠ modeBoot := by decide

/-! The Lane Array -/

theorem witness_LaneCfgWrite :
    up.mayWrite 1 (laneAddr 95 Reg.laneCfg) ∧ up.mayWrite 1 (laneAddr 96 Reg.laneCfg) ∧ up.mayWrite 1 (laneAddr 103 Reg.laneCfg)
      ∧ laneCfgAllowed (getF 0x30#32 4 2) (getF 0x30#32 0 3) = false ∧ laneCfgAllowed (getF 0x05#32 4 2) (getF 0x05#32 0 3) = true
      ∧ 2 ≤ (st [(F.hdrEffState.page (lanePage 95), 2)]).dev.eff (lanePage 95) ∧ up.dev.eff (lanePage 95) < 2 := by decide

def oneActive : Sieve := sieved [{ st := .active, pos := 3, run := 9 }]

def slipping (type : Nat) (locked : Bool) : State := withDev (fun d =>
  withLane 0 (fun l => { l with sieve := oneActive, cdrSince := if locked then some 0 else none }) (typed 0 type 3 d))
  (st [(F.laneSdsStatCdrLock.lane 0, bitOf locked)])

def restarting : State := withDev (fun d =>
  ({ (d.setWord (laneAddr 0 Reg.laneCfg) 0x24) with timing := { d.timing with fp8kAt := some d.now } }).raise F.clkStatusRootValid)
  (slipping 0 true)

theorem witness_CdrRestartAndSlip :
    (slipping 0 false).dev.on (F.laneSdsStatCdrLock.lane 0) = false
      ∧ ((slipping 0 true).dev.on (F.laneSdsStatCdrLock.lane 0) = true ∧ (slipping 0 true).dev.nearLoop 0 = false)
      ∧ ((restarting.dev.lane 0).cfg ≠ restarting.dev.word (laneAddr 0 Reg.laneCfg) ∧ restarting.dev.atEdge = true)
      ∧ ((slipping 0 true).dev.lane 0).isLine = true
      ∧ (((slipping 2 true).dev.lane 0).isLine = false ∧ (slipping 2 true).dev.inFrame 0 = false) := by decide

theorem test_cdrLossOfLock_frees_the_slots :
    ((after (.cdrLossOfLock 0) (slipping 0 true)).dev.lane 0).sieve.slots = List.replicate 8 {} := by decide

theorem test_elasticStoreSlip_leaves_one_row :
    (after (.elasticStoreSlip 0 0) (slipping 0 true)).dev.get (F.laneSdsStatEsFill.lane 0) = 64 := by decide

def prbsBits (p n : Nat) : List Bool := (List.range n).map (fun i => (prbsRun p (i + 1) (prbsSeed p 5)).headD false)

def checking (sync gen : Bool) : State := withDev (fun d => d.setLane 0 { d.lane 0 with gen := if gen then some (5, 0) else none })
  (st [(F.lanePrbsChkEn.lane 0, 1), (F.lanePrbsChkSync.lane 0, bitOf sync), (F.lanePrbsGenEn.lane 0, bitOf gen),
    (F.hdrEffState.page 0x10, 3)])

theorem witness_PrbsGeneratorAndChecker :
    ((checking false false).dev.hearsBits 0 (prbsBits 2 64) = true
        ∧ (checking false false).dev.on (F.lanePrbsChkSync.lane 0) = false
        ∧ prbsInSync ((checking false false).dev.get (F.lanePrbsChkPat.lane 0)) ((checking false false).dev.prbsPlain 0 (prbsBits 2 64)) = true)
      ∧ ((prbsBits 2 256).length = 256 ∧ (checking true false).dev.hearsBits 0 (prbsBits 2 256) = true
        ∧ (checking true false).dev.on (F.lanePrbsChkSync.lane 0) = true)
      ∧ (up.mayWrite 1 (laneAddr 0 Reg.lanePrbs) ∧ up.dev.on (F.lanePrbsChkEn.lane 0) = false
        ∧ up.dev.on (F.lanePrbsGenEn.lane 0) = false ∧ getF 0x80#32 7 1 = 1 ∧ getF 0x80#32 3 1 = 0 ∧ getF 0x08#32 3 1 = 1)
      ∧ ((checking false true).mayWrite 1 (laneAddr 0 Reg.lanePrbs) ∧ (checking false true).dev.eff (lanePage 0) = 3
        ∧ ((checking false true).dev.lane 0).gen.isSome = true
        ∧ ((checking false true).dev.lane 0).flips.contains ((checking false true).dev.prbsPos 0) = false) := by decide

/-- R65: the successor of a PRBS7 register is the sum of its stages 7 and 6. -/
theorem test_prbs7_next :
    prbsNext 0 [true, false, false, false, false, false, false] = false
      ∧ prbsNext 0 [false, false, false, false, false, true, false] = true := by decide

theorem witness_EyeAndEqualizer : up.mayWrite 1 (laneAddr 103 Reg.laneTxeq) := by decide

/-- R71: magnitudes of 10, 60 and 5 leave 48 for MAIN. -/
theorem test_txeq_reduces_main :
    (after (.txeqWrite 1 0 (BitVec.ofNat 32 (10 + 60 * 32 + 5 * 2048))) up).dev.get (F.laneTxeqMain.lane 0) = 48 := by decide

def outOfFrame (now : Nat) : State := withDev (fun d =>
  withLane 0 (fun l => { l with oofSince := some 6, inFrameSince := some 6 }) { typed 0 0 3 d with now := now }) up

def silent : State := st [(⟨laneAddr 0 Reg.laneDefStat, defLos, 1⟩, 1)]

theorem witness_LossOfSignalAndOfFrame :
    (up.dev.defect 0 defLos = false ∧ up.dev.nearLoop 0 = false) ∧ silent.dev.defect 0 defLos = true
      ∧ (((outOfFrame 1866246).dev.lane 0).isLine = true ∧ 6 + 1866240 ≤ (outOfFrame 1866246).dev.now
        ∧ ((outOfFrame 1866246).dev.lane 0).oofSince = some 6 ∧ ((outOfFrame 1866246).dev.lane 0).inFrameSince = some 6) := by decide

theorem test_lof_is_declared : (after (.lof 0) (outOfFrame 1866246)).dev.defect 0 defLof = true := by decide
theorem test_lof_waits_three_ms : (after (.lof 0) (outOfFrame 1866245)).dev.defect 0 defLof = false := by decide

/-! The Sieve -/

def lineSieve (v : Sieve) : State := withDev (fun d => (withLane 0 (fun l => { l with sieve := v }) (typed 0 0 0 (framed 0 d))).setGfpSieve 0 v) up

def tuSieve (state : Nat) (v : Sieve) : State := withDev (fun d =>
  (withLane 0 (fun l => { l with sieve := v, tu := { l.tu with fsErrFrames := 3 } }) (typed 0 2 3 (framed 0 d))).put
    (F.laneSvStatState.lane 0) state) up

def fullSieve : Sieve := sieved ((List.range 8).map (fun i => { st := .cand, pos := i + 20, need := 2 }))

/-- A group in SINGLE mode with one sink member, which has not failed. -/
def fed : State := st [(F.grpMode.at 32 0, 1), (⟨memAddr 0 0, 0, 2⟩, 3), (F.hdrEffState.page 0xC, 2)]

/-- A lane's sighting and a GFP one; a free slot, none, a slot at the place, and background hunting off. -/
theorem witness_SightingsAndMarks_sightings :
    (positionOk ((lineSieve (sieved [])).dev.lane 0) 5 = true ∧ ((lineSieve (sieved [])).dev.lane 0).isMark false (fasPattern 0) = true
        ∧ (lineSieve (sieved [])).dev.hears 0 (fasPattern 0) = true)
      ∧ ((sieved []).anyActive = false ∧ 0 < (sieved []).slots.length ∧ ((sieved []).slot 0).st = .free)
      ∧ (pairOk (gfpCore [0xB6, 0xAB, 0x31, 0xE0]) = true ∧ fed.dev.streamRuns 0 = true ∧ (lineSieve (sieved [])).dev.streamRuns 0 = false)
      ∧ (fullSieve.anyActive = false ∧ (∀ x ∈ fullSieve.slots, x.st ≠ .free ∧ (x.pos ≠ 5 ∨ x.rot ≠ 0)))
      ∧ (∃ x ∈ fullSieve.slots, x.st ≠ .free ∧ x.pos = 20 ∧ x.rot = 0)
      ∧ (oneActive.anyActive = true ∧ (lineSieve oneActive).dev.sieveBg (.lane 0) = false)
      ∧ ((lineSieve (sieved [])).dev.lane 0).isMark false [1, 2, 3, 4, 5, 6] = false := by decide

/-- One slot of each state, at slots 0 to 6. -/
def mixed : Sieve :=
  { sieved [{ st := .cand, pos := 2, run := 1, need := 3 }, { st := .cand, pos := 9, need := 2, inWindow := true }, { st := .trial, pos := 3 },
      { st := .alt, pos := 4, miss := 1 }, { st := .active, pos := 5 }, { st := .barred, pos := 6, barred := 7999 }] with first := some 1 }

theorem witness_SightingsAndMarks_marks :
    (lineSieve mixed).dev.hears 0 (fasPattern 0) = true ∧ ((lineSieve mixed).dev.lane 0).isLine = true
      ∧ ((mixed.slot 0).st = .cand ∧ mixed.first ≠ some 0 ∧ (mixed.slot 0).inWindow = false ∧ (mixed.slot 0).run + 1 < (mixed.slot 0).need)
      ∧ ((mixed.slot 2).st = .trial ∧ (mixed.slot 2).won = false) ∧ (mixed.slot 3).st = .alt
      ∧ ((mixed.slot 4).st = .active ∧ (mixed.slot 4).takeover = false) ∧ (mixed.slot 5).st = .barred ∧ (mixed.slot 6).st = .free
      ∧ ((lineSieve mixed).dev.lane 0).isMark (mixed.corr && (mixed.slot 0).leads) (fasPattern 0) = true
      ∧ ((lineSieve mixed).dev.lane 0).isMark (mixed.corr && (mixed.slot 0).leads) [0, 0, 0, 0, 0, 0] = false := by decide

def closing : Sieve := { sieved [{ st := .cand, pos := 2, run := 2, need := 2, inWindow := true }] with first := some 0 }

theorem witness_AlignmentAndTrial_window :
    (lineSieve closing).dev.hears 0 (fasPattern 0) = true ∧ ((lineSieve closing).dev.lane 0).isMark false (fasPattern 0) = true
      ∧ ((lineSieve closing).dev.lane 0).isLine = true ∧ (((lineSieve closing).dev.lane 0).sieve.slot 0).st = .cand
      ∧ closing.first = some 0 ∧ closing.count (fun x => x.inWindow) = 1 := by decide

theorem test_window_closes_over_one_candidate :
    (after (.expectedMark (.lane 0) 0 2 (fasPattern 0)) (lineSieve closing)).dev.svState 0 = svFrame := by decide

/-- A slot in TRIAL beside an ACTIVE, one comparison and, of a Tustra lane, three frame periods on; and a barring at its end. -/
def trying : Sieve :=
  sieved [{ st := .active, pos := 2, run := 8 }, { st := .trial, pos := 3, agree := 1, disagree := 1, blocks := 432 },
    { st := .barred, pos := 9, barred := 8000 }]

theorem witness_AlignmentAndTrial_trial :
    ((trying.slot 1).st = .trial ∧ (trying.slot 1).won = false ∧ (trying.slot 1).passed = none ∧ trying.round = 0
        ∧ (∀ j, j < 8 → j ≠ 1 → (trying.slot j).st ≠ .trial))
      ∧ ((lineSieve trying).dev.hears 0 [3] = true ∧ b1Plain (stmN ((lineSieve trying).dev.lane 0).rate) 0xF9 = bip8 [3])
      ∧ b1Plain (stmN ((lineSieve trying).dev.lane 0).rate) 0xF9 ≠ bip8 [4]
      ∧ (((tuSieve svBlock trying).dev.lane 0).isLine = false
        ∧ 3 * blocksPerFrame ((tuSieve svBlock trying).dev.lane 0).rate ≤ (trying.slot 1).blocks)
      ∧ ((trying.slot 2).st = .barred ∧ 8000 ≤ (trying.slot 2).barred) := by decide

theorem test_second_disagreement_bars :
    (((after (.trialB1Byte 0 1 [4] 0xF9) (lineSieve trying)).dev.lane 0).sieve.slot 1).st = .barred := by decide

def losing : Sieve := sieved [{ st := .active, pos := 2, run := 8 }] 5

theorem witness_LossOfAlignment :
    (((lineSieve losing).dev.lane 0).isLine = true ∧ 5 ≤ losing.errors ∧ (losing.slot 0).st = .active
        ∧ (∀ j, j < 8 → j ≠ 0 → (losing.slot j).st ≠ .active) ∧ (∀ j, j < 8 → (losing.slot j).st ≠ .alt ∧ (losing.slot j).st ≠ .trial))
      ∧ (((tuSieve svBlock losing).dev.lane 0).isLine = false ∧ losing.alpha ≤ losing.errors)
      ∧ ((tuSieve svFrame losing).dev.inFrame 0 = true ∧ 3 ≤ ((tuSieve svFrame losing).dev.tu 0).fsErrFrames) := by decide

theorem test_oof_hunts : (after (.oof 0) (lineSieve losing)).dev.svState 0 = svHunt := by decide

/-- The configuration of the statement: on a LINE lane another PAT_LEN, on a Tustra lane BG_EN = 0. -/
theorem witness_SieveConfiguration :
    (getF ((withDev (fun d => d.setWord (laneAddr 0 Reg.laneSvCfg) 1) (lineSieve oneActive)).dev.word (laneAddr 0 Reg.laneSvCfg)) 0 1
        ≠ oneActive.patLen)
      ∧ ((oneActive.slot 0).st = .active ∧ (oneActive.slot 1).st ≠ .active ∧ (oneActive.slot 1).won = false)
      ∧ (((tuSieve svFrame oneActive).dev.lane 0).isLine = false
        ∧ getF ((withDev (fun d => d.setWord (laneAddr 0 Reg.laneSvCfg) 0) (tuSieve svFrame oneActive)).dev.word (laneAddr 0 Reg.laneSvCfg)) 1 1 = 0) := by
  decide

/-! The section overhead -/

/-- Lane 0 is a LINE lane in frame with what its receiver has counted. -/
def section0 (f : Soh → Soh) (g : Dev → Dev := id) : State := withDev (fun d =>
  g (withLane 0 (fun l => { l with soh := f l.soh }) (typed 0 0 0 (framed 0 d)))) up

theorem witness_LineFrame :
    ((section0 id).dev.lane 0).isLine = true ∧ (section0 id).dev.inTest (lanePage 0) = false
      ∧ ((section0 id).dev.lane 95).isLine = true ∧ (section0 id).dev.inTest (lanePage 95) = false := by decide

theorem witness_KAcceptance :
    let s := section0 (fun x => { x with k := ⟨0x1ABC, 3⟩, k2l := ⟨5, 3⟩, kSince := 12, ais := 2 })
    (s.dev.lane 0).isLine = true ∧ s.dev.kHeld 0 = false ∧ (s.dev.soh 0).ais < 3 ∧ 3 ≤ (s.dev.soh 0).k.count
      ∧ 3 ≤ (s.dev.soh 0).k2l.count ∧ 12 ≤ (s.dev.soh 0).kSince ∧ s.dev.on (F.laneSohStatKUnstable.lane 0) = false := by decide

theorem test_kAccept_takes_k1 :
    (after (.kAccept 0) (section0 (fun x => { x with k := ⟨0x1ABC, 3⟩ }))).dev.get (F.laneSohKrxK1.lane 0) = 0xD5 := by decide

def traced : State := section0 (fun x => { x with trace := { x.trace with message := List.replicate 64 0x41, count := 3 }, txPos := 0 })
  (fun d => (((d.put (F.laneSohJ0cfgExpPend.lane 0) 1).put (F.laneSohJ0cfgTxPend.lane 0) 1).put (F.hdrEffState.page (lanePage 0)) 3).raise
    F.clkStatusRootValid)

/-- The conditions of the four changes, at the counts that reach them. -/
theorem witness_SectionDefectsAndFollowUp :
    (let s := section0 (fun x => { x with ais := 3, rdi := 5 });
      (s.dev.lane 0).isLine = true ∧ s.dev.defect 0 defLos = false ∧ s.dev.defect 0 defOof = false ∧ 3 ≤ (s.dev.soh 0).ais
        ∧ 5 ≤ (s.dev.soh 0).rdi ∧ s.dev.defect 0 defMsais = !true ∧ s.dev.defect 0 defMsrdi = !true)
      ∧ (let s := section0 (fun x => { x with noAis := 3, noRdi := 5 })
          (fun d => (d.put ⟨laneAddr 0 Reg.laneDefStat, defMsais, 1⟩ 1).put ⟨laneAddr 0 Reg.laneDefStat, defMsrdi, 1⟩ 1);
        3 ≤ (s.dev.soh 0).noAis ∧ 5 ≤ (s.dev.soh 0).noRdi ∧ s.dev.defect 0 defMsais = !false ∧ s.dev.defect 0 defMsrdi = !false)
      ∧ (let s := section0 (fun x => { x with s1 := ⟨5, 8⟩, exc := 8, noExc := 8 });
        s.dev.on (F.laneSohStatAisTx.lane 0) = false ∧ s.dev.on (F.laneSohTxForceMsrdi.lane 0) = false
          ∧ s.dev.rootValid = false ∧ traced.dev.rootValid = true ∧ (traced.dev.lane 0).isLine = true ∧ 8 ≤ (s.dev.soh 0).s1.count ∧ s.dev.defect 0 defMsais = false ∧ 8 ≤ (s.dev.soh 0).exc ∧ 8 ≤ (s.dev.soh 0).noExc) := by decide

theorem test_msAis_after_three_frames :
    (after (.msAisDeclare 0) (section0 (fun x => { x with ais := 3 }))).dev.defect 0 defMsais = true
      ∧ (after (.msAisDeclare 0) (section0 (fun x => { x with ais := 2 }))).dev.defect 0 defMsais = false := by decide

theorem witness_TraceAndOverheadControls :
    ((traced.dev.lane 0).isLine = true ∧ traced.dev.rootValid = true ∧ 3 ≤ (traced.dev.soh 0).trace.count ∧ (traced.dev.soh 0).trace.message.length ≤ 64
        ∧ traced.dev.on (F.laneSohJ0cfgExpPend.lane 0) = true ∧ traced.dev.on (F.laneSohJ0cfgTxPend.lane 0) = true
        ∧ (traced.dev.soh 0).txPos = 0)
      ∧ ((section0 id).mayWrite 1 (laneAddr 0 Reg.laneSohJ0cfg) ∧ ((section0 id).dev.lane 0).isLine = true
        ∧ getF 2#32 0 2 ≤ 2 ∧ getF 2#32 0 2 ≠ (section0 id).dev.rxMode 0)
      ∧ ((tuSieve svFrame oneActive).mayWrite 1 (laneAddr 0 Reg.laneSohJ0cfg) ∧ ((tuSieve svFrame oneActive).dev.lane 0).isLine = false)
      ∧ (traced.mayWrite 1 (laneAddr 0 Reg.laneSohTx) ∧ traced.dev.eff (lanePage 0) = 3)
      ∧ (section0 id).mayWrite 1 (laneAddr 0 Reg.laneSohTx) ∧ (section0 id).dev.eff (lanePage 0) ≠ 3 := by decide

/-! The Tustra frame -/

def tustra (type state next : Nat) (f : TuRx → TuRx := id) : State := withDev (fun d =>
  (withLane 0 (fun l => { l with sieve := oneActive, tu := f { l.tu with next := next } }) (typed 0 type 3 (framed 0 d))).put
    (F.laneSvStatState.lane 0) state) up

def startBlock : List Byte := tuSend 0 true 0 1 ++ List.replicate 264 1

theorem witness_TustraFrame_blocks :
    (((tustra 2 svBlock 0).dev.lane 0).isLine = false ∧ startBlock.length = 270 ∧ (tustra 2 svBlock 0).dev.hears 0 startBlock = true
        ∧ (((tustra 2 svBlock 0).dev.lane 0).sieve.slot 0).st = .active ∧ (oneActive.slot 0).takeover = false)
      ∧ ((tustra 2 svBlock 0).dev.inFrame 0 = false ∧ (tustra 2 svBlock 0).dev.svState 0 = svBlock
        ∧ (tuHeader oneActive.corr startBlock).ok = true ∧ (tuHeader oneActive.corr startBlock).fs = true
        ∧ ((tustra 2 svBlock 0).dev.tu 0).proposed = none ∧ (tuHeader oneActive.corr (List.replicate 270 0x5A)).ok = false)
      ∧ (tustra 2 svFrame 71).dev.inFrame 0 = true := by decide

theorem test_frame_start_is_proposed :
    ((after (.tustraBlock 0 0 startBlock) (tustra 2 svBlock 0)).dev.tu 0).proposed = some 0 := by decide

/-- The six ways to a change of SEQ or of the remote defect, at the counts that reach it. -/
theorem witness_TustraFrame_defects :
    (let s := tustra 2 svFrame 0 (fun x => { x with far := true, seqBad := 3, rd := 3 });
      (s.dev.tu 0).far = true ∧ 3 ≤ (s.dev.tu 0).seqBad ∧ 3 ≤ (s.dev.tu 0).rd ∧ s.dev.defect 0 defSeq = !true ∧ s.dev.defect 0 defRd = !true)
      ∧ (let s := withDev (fun d => (d.put ⟨laneAddr 0 Reg.laneDefStat, defSeq, 1⟩ 1).put ⟨laneAddr 0 Reg.laneDefStat, defRd, 1⟩ 1)
          (tustra 2 svFrame 0 (fun x => { x with seqOk := 8, noRd := 3 }));
        8 ≤ (s.dev.tu 0).seqOk ∧ 3 ≤ (s.dev.tu 0).noRd ∧ s.dev.defect 0 defSeq = !false ∧ s.dev.defect 0 defRd = !false) := by decide

def radio (pend : Nat) : State := withDev (fun d => { d with timing := { d.timing with edges := 9, seqBase := 1 } })
  (withDev (fun d => ((d.put (F.laneTuStatPend.lane 0) pend).put (F.laneTuStatCap.lane 0) 0x50).put (F.laneTuPeffE.lane 0) 8) (tustra 1 svFrame 0))

/-- The least and the greatest capacity of the rate, the nearest and the farthest frame, and one beyond either. -/
theorem witness_Capacity :
    ((radio 0).dev.lane 0).type = 1 ∧ (radio 0).dev.inFrame 0 = true ∧ (0x8009#16).getLsbD 15 = true
      ∧ (radio 0).dev.on (F.laneTuStatPend.lane 0) = false ∧ 9 ≠ (radio 0).dev.get (F.laneTuStatCap.lane 0)
      ∧ 0x9090 % 0x1000 = blocksPerFrame ((radio 0).dev.lane 0).rate ∧ (0x8008#16).toNat % 0x1000 < 9
      ∧ blocksPerFrame ((radio 0).dev.lane 0).rate < (0x8091#16).toNat % 0x1000
      ∧ ((0xA#16).toNat + 0x1_0000 - (radio 0).dev.seqNow % 0x1_0000) % 0x1_0000 = 2
      ∧ ((0x408#16).toNat + 0x1_0000 - (radio 0).dev.seqNow % 0x1_0000) % 0x1_0000 = 1024
      ∧ (radio 1).dev.capDue 0 = true := by decide

def merging (en late good next now : Nat) : State := withDev (fun d =>
  let d1 := withLane 0 (fun l => { l with tu := { l.tu with lateRun := late, goodRun := good, release := some { seq := 3, point := 0, next := next } } })
    (framed 1 (typed 1 2 3 (framed 0 (typed 0 2 3 d))))
  ((({ d1 with now := now }).put (F.laneTuStrEn.lane 0) en).put (F.laneTuStrPartner.lane 0) 1).put (F.laneTuStrstatState.lane 0) strMerge) up

theorem witness_StrainerAndWorkedBytes :
    ((merging 1 0 0 0 0).mayWrite 1 (laneAddr 0 Reg.laneTuStr) ∧ getF 1#32 0 1 = 1 ∧ (merging 1 0 0 0 0).dev.partnerOk 0 (getF 1#32 1 7) = false
        ∧ getF 0#32 0 1 = 0)
      ∧ ((merging 1 8 0 0 0).dev.on (F.laneTuStrEn.lane 0) = true ∧ (merging 1 8 0 0 0).dev.isSystem 0 = true
        ∧ ((merging 1 8 0 0 0).dev.tu 0).lateRun = 8)
      ∧ (((merging 1 7 8 0 0).dev.tu 0).lateRun < 8 ∧ ((merging 1 7 8 0 0).dev.tu 0).goodRun = 8)
      ∧ (((merging 1 7 7 0 0).dev.tu 0).lateRun < 8 ∧ ((merging 1 7 7 0 0).dev.tu 0).goodRun < 8)
      ∧ (let s := merging 1 0 0 1 0;
        (s.dev.tu 0).release = some { seq := 3, point := 0, next := 1 } ∧ s.dev.now < 0 + 1 * s.dev.blockTicks 0)
      ∧ (let s := merging 1 0 0 142 100000;
        s.dev.get (F.laneTuStrstatState.lane 0) = strMerge ∧ 0 + 142 * s.dev.blockTicks 0 ≤ s.dev.now
          ∧ 0 ≠ s.dev.get (F.laneTuStrPartner.lane 0) ∧ 142 + 1 < blocksPerFrame (s.dev.lane 0).rate) := by decide

/-- 06_tustra_frame.md, the worked payload. -/
theorem test_worked_payload :
    tuPayload 0 [0x12, 0x34, 0x56, 0x78, 0x9A, 0xBC, 0xDE, 0xF0] = [0x12, 0x34, 0x56, 0x76, 0x9A, 0xBC, 0xDE, 0x0C] := by decide

/-- R259: the check value of the CRC-32. -/
theorem test_crc32 : crc32 [0x31, 0x32, 0x33, 0x34, 0x35, 0x36, 0x37, 0x38, 0x39] = 0xCBF4_3926 := by decide

/-- 04_section_overhead.md: the scrambler's first three bytes. -/
theorem test_scrambler : scramble 0x7F [0, 0, 0] = [0xFE, 0x04, 0x18] := by decide

/-- 06_tustra_frame.md, the worked header. -/
theorem test_worked_header : tuSend 0 true 0 1 = [0xBD, 0x1E, 0x6C, 0xD3, 0xAC, 0x65] := by decide

/-! Path points -/

/-- Points of lane 0 in state `s`, under the structure word. -/
def pointed (struct cfg : W32) (s : Nat) (x : PathSt) : State := withDev (fun d =>
  let d1 := framed 0 (typed 0 0 3 d)
  let d2 := ({ (d1.setWord 0x1C00_0018 struct) with structs := if struct = 0 then [] else [(0, struct)] }).raise F.clkStatusRootValid
  [0, 18432, 18435].foldl (fun e k => ((e.setWord (cfgAddr k) cfg).put (stPstate k) s).setPath k { x with cfg := cfg }) d2) up

/-- A word of each kind, on a transparent container and on one around TUs. -/
theorem witness_PointerInterpreter_words :
    (let s := pointed 1 1 psNorm { active := some 523, since := 3 };
      s.dev.pointerLive 0 = true ∧ s.dev.hearsWord 0 0x6000 = true ∧ s.dev.pstate 0 = psNorm ∧ (s.dev.path 0).active = some 523 ∧ 523 ≤ s.dev.pointerTop 0
        ∧ s.dev.realigned 0 = true ∧ 3 ≤ (s.dev.path 0).since)
      ∧ ((0x9000#16 + 782#16).toNat / 4096 = 9 ∧ (0x9000#16 + 782#16).toNat % 1024 = 782)
      ∧ ((0x6000#16 + (523 ^^^ 0x2AA)).toNat % 1024 = 523 ^^^ 0x2AA ∧ (0x6000#16 + (523 ^^^ 0x2AA)).toNat / 4096 = 6)
      ∧ (0x6000#16 + (523 ^^^ 0x155)).toNat % 1024 = 523 ^^^ 0x155
      ∧ (let s := pointed 9 1 psNorm { active := some 0, since := 3 };
        s.dev.pointerLive 0 = true ∧ s.dev.hearsWord 0 0x6000 = true ∧ s.dev.structured 0 = true ∧ 18432 ∈ s.dev.lowerOf 0 ∧ (s.dev.lowerOf 0).Nodup
          ∧ s.dev.parentOf 18432 = 0 ∧ s.dev.pstate 18432 = psNorm) := by decide

/-- Increments at 523 and at the greatest value. -/
theorem test_increment :
    ((after (.pointerWord (.ho 0) (0x6000 + (523 ^^^ 0x2AA))) (pointed 1 1 psNorm { active := some 523, since := 3 })).dev.path 0).active
        = some 524
      ∧ ((after (.pointerWord (.ho 0) (0x6000 + (782 ^^^ 0x2AA))) (pointed 1 1 psNorm { active := some 782, since := 3 })).dev.path 0).active
        = some 0 := by decide

theorem witness_PointerInterpreter_states :
    (let s := pointed 1 1 psNorm { active := some 5, aisRun := 3 };
      s.dev.pointerLive 0 = true ∧ s.dev.headPoint 0 = 0 ∧ s.dev.pstate 0 ≠ psAis ∧ s.dev.pstate 0 < 3 ∧ 3 ≤ (s.dev.path 0).aisRun)
      ∧ (let s := pointed 1 1 psLop { newRun := 3, newValue := 77 };
        s.dev.pointerLive 0 = true ∧ s.dev.pstate 0 < 3 ∧ (s.dev.path 0).ndfValue = none ∧ 3 ≤ (s.dev.path 0).newRun)
      ∧ (let s := pointed 1 1 psAis { ndfValue := some 77 }; s.dev.pstate 0 = psAis ∧ (s.dev.path 0).ndfValue = some 77)
      ∧ (let s := pointed 1 1 psNorm { active := some 5, invRun := 8 };
        s.dev.pstate 0 = psNorm ∧ (s.dev.path 0).aisRun < 3 ∧ (s.dev.path 0).newRun < 3 ∧ 8 ≤ (s.dev.path 0).invRun) := by decide

/-- A point in NORM whose container has a fabric pointer. -/
def placed (x : PathSt) : State := pointed 1 1 psNorm { x with track := { val := some 0 } }

theorem witness_FabricPointerAndPathConfig_actions :
    ((placed { active := some 523, pendInc := 1 }).dev.areaOf 0).isSome = true
      ∧ (placed { active := some 523, pendInc := 1 }).dev.justifyDue 0 true = true
      ∧ ((placed { active := some 523, pendDec := 1 }).dev.justifyDue 0 false = true
        ∧ ((placed { active := some 523, pendDec := 1 }).dev.path 0).pendDec ≠ 0)
      ∧ ((placed { active := some 523, choose := true }).dev.pstate 0 = psNorm
        ∧ (placed { active := some 523, choose := true }).dev.realigned 0 = true)
      ∧ ((placed { acted := some 0 }).dev.path 0).acted = some 0 := by decide

theorem witness_FabricPointerAndPathConfig_share :
    (pointed 9 1 psNorm { active := some 0, share := 87, track := { val := some 0 } }).dev.justifyDue 18432 true = true
      ∧ (pointed 9 1 psNorm { active := some 0, share := -87, track := { val := some 0 } }).dev.justifyDue 18432 false = true
      ∧ ((pointed 9 1 psNorm { active := some 0, share := 87, track := { val := some 0 } }).dev.areaOf 18432).isSome = true := by decide

theorem witness_FabricPointerAndPathConfig_restart :
    let s := withDev (fun d => { d with restarts := [0], timing := { d.timing with fp8kAt := some d.now } }) (pointed 9 1 psNorm { active := some 523 })
    s.dev.atEdge = true ∧ 0 ∈ s.dev.restarts
      ∧ ({ s.dev with restarts := [], structs := [(0, 9)] } : Dev).interpreterOf 0 = some false
      ∧ (pointed 9 1 psNorm { active := some 523 }).dev.atEdge = false := by decide

/-- An AU-4 that goes out in the frame of edge 7, with an increment due. -/
theorem witness_FabricPointerAndPathConfig_pour :
    let d := (placed { active := some 523, due := some (7, .inc) }).dev
    let d1 := { d with paths := Store.set (fun _ => {}) d.paths 0 { d.path 0 with track := { val := some 782 }, due := some (7, .inc) } }
    ∃ u ∈ d1.portPlaces 0, unitPoint 0 u = 0 ∧ d1.realigned 0 = true ∧ d1.pstate 0 = psNorm ∧ d1.ownFail 0 = false ∧ u.kind.isTu1x = false
      ∧ u.slots.length = (u.kind.roles 0).length ∧ (d1.path 0).track.val = some 782 ∧ 782 < u.kind.values
      ∧ (d1.path 0).due = some (7, .inc) := by decide

def labelled (x : PathSt) : State := pointed 1 0x1_0001 psNorm x

theorem witness_PathOverheadAndCapture_accept :
    (let s := labelled { active := some 0, label := ⟨0, 5⟩, rdiRun := ⟨1, 5⟩, k3 := ⟨9, 3⟩, trace := { message := [0x41], count := 3 } };
      s.dev.overheadLive 0 = true ∧ 5 ≤ (s.dev.path 0).label.count ∧ 5 ≤ (s.dev.path 0).rdiRun.count ∧ 3 ≤ (s.dev.path 0).k3.count
        ∧ 3 ≤ (s.dev.path 0).trace.count ∧ isHo 0 = true)
      ∧ (let s := labelled { active := some 0, label := ⟨0, 4⟩, rdiRun := ⟨1, 4⟩, rfiRun := ⟨1, 4⟩, k3 := ⟨9, 2⟩, trace := { count := 2 } };
        (s.dev.path 0).label.count < 5 ∧ (s.dev.path 0).rdiRun.count < 5 ∧ (s.dev.path 0).rfiRun.count < 5 ∧ (s.dev.path 0).k3.count < 3
          ∧ (s.dev.path 0).trace.count < 3)
      ∧ (let s := pointed 9 1 psNorm { active := some 0, rfiRun := ⟨1, 5⟩ };
        s.dev.overheadLive 18432 = true ∧ 5 ≤ (s.dev.path 18432).rfiRun.count ∧ isHo 18432 = false) := by decide

theorem test_label_zero_is_unequipped :
    (after (.c2Accept (.ho 0) 0) (labelled { active := some 0, label := ⟨0, 5⟩ })).dev.on (stUneq 0) = true
      ∧ (after (.c2Accept (.ho 0) 2) (labelled { active := some 0, label := ⟨2, 5⟩ })).dev.on (stUneq 0) = false := by decide

def capturing (caught : Option (List Byte)) : State :=
  withDev (fun d => (withLane 0 (fun l => { l with capturing := true, caught := caught }) d).raise (stTrcValid 0)) up

theorem witness_PathOverheadAndCapture_capture :
    (up.mayWrite 1 (laneAddr 0 Reg.lanePsCap) ∧ up.dev.on (stTrcValid (capPoint 0 0)) = false)
      ∧ ((capturing none).mayWrite 1 (laneAddr 0 Reg.lanePsCap) ∧ (capturing none).dev.on (stTrcValid (capPoint 0 0)) = true)
      ∧ (((capturing (some [0x41])).dev.lane 0).capturing = true ∧ ((capturing (some [0x41])).dev.lane 0).caught = some [0x41])
      ∧ (((capturing none).dev.lane 0).caught = none ∧ (capturing none).dev.on (stTrcValid ((capturing none).dev.capturePoint 0)) = true) := by
  decide

/-! The Flow Engine -/

def words (l : List (Nat × W32)) (f : Dev → Dev := id) : State := withDev (fun d => f (l.foldl (fun e x => e.setWord x.1 x.2) d)) up

theorem witness_ContextWrite :
    ((words [(Reg.flwSliceRet, 0x8000)]).mayWrite 1 (ctxAddr 0 0) ∧ (words [(Reg.flwSliceRet, 0x8000)]).dev.sliceRetired 0 = false)
      ∧ (let s := words [(ctxAddr 0 0, 0x101)]; s.mayWrite 1 (ctxAddr 0 0) ∧ s.dev.sliceRetired 0 = false
        ∧ s.dev.on (F.ctxEn.at 16 0) = true
        ∧ (s.dev.word (ctxAddr 0 0) ^^^ (s.dev.regWrite (ctxAddr 0 0) 1).word (ctxAddr 0 0)) &&& ctxFixed 0 ≠ 0
        ∧ (s.dev.word (ctxAddr 0 0) ^^^ (s.dev.regWrite (ctxAddr 0 0) 0x100).word (ctxAddr 0 0)) &&& ctxFixed 0 = 0)
      ∧ (let s := words []; let new := (s.dev.regWrite (ctxAddr 1 0) 1).word (ctxAddr 1 0)
        getF new 0 1 = 1 ∧ s.dev.on (F.ctxEn.at 16 1) = false) := by decide

theorem witness_FlowTables_groups_and_members :
    (let s := words [(grpAddr 0 0, 2), (grpAddr 1 0, 1), (fpStrAddr 0 0, 1), (memAddr 0 0, 1)];
      s.mayWrite 1 (grpAddr 0 0) ∧ (s.dev.word (grpAddr 0 0) ^^^ (s.dev.regWrite (grpAddr 0 0) 1).word (grpAddr 0 0)) &&& 0x3F ≠ 0
        ∧ s.dev.enabledMembers.any (fun i => s.dev.memGroup i == 0) = true
        ∧ s.mayWrite 1 (memAddr 0 0) ∧ s.dev.on (F.memEn.at 8 0) = true
        ∧ (s.dev.word (memAddr 0 0) ^^^ (s.dev.regWrite (memAddr 0 0) 3).word (memAddr 0 0)) &&& ~~~1#32 ≠ 0)
      ∧ (let s := words [(grpAddr 1 0, 2)]; s.mayWrite 1 (grpAddr 1 0) ∧ getF ((s.dev.regWrite (grpAddr 1 0) 1).word (grpAddr 1 0)) 3 3 ≤ 3
        ∧ s.dev.enabledMembers.any (fun i => s.dev.memGroup i == 1) = false) := by decide

theorem witness_FlowTables_structure_and_shares :
    (let s := words [(grpAddr 0 0, 2), (fpStrAddr 0 0, 1), (memAddr 0 0, 1)];
      s.mayWrite 1 (fpStrAddr 0 0) ∧ s.dev.on ⟨Reg.flwFportRet, 0, 1⟩ = false ∧ 0 ∈ s.dev.enabledMembers
        ∧ s.dev.get (F.memFport.at 8 0) = 0 ∧ s.dev.shadow ≠ shChecked)
      ∧ (let s := words [(F.psqShareSumSum.off, 2290), (Reg.psqShare, 4)];
        s.mayWrite 1 Reg.psqShare ∧ s.dev.get F.psqShareSumSum + Dev.sumBytes 8 - Dev.sumBytes (s.dev.word Reg.psqShare) = 2294
          ∧ 2294 < s.dev.get F.psqShareSumSum + Dev.sumBytes 9 - Dev.sumBytes (s.dev.word Reg.psqShare)) := by decide

def stream (errors : Nat) (x : GroupSt := {}) : State := withDev (fun d =>
  ((({ (d.setWord (memAddr 0 0) 3).put (F.hdrEffState.page 0xC) 2 with now := 300 * 622080 }.setGfpSieve 0 (sieved [{ st := .active, pos := 2, run := 8 }] errors)).setGroup 0 x).put
    (F.grpMode.at 32 0) 1).put (F.grpCsfTx.at 32 0) 1 |>.put (F.grpStCsf.at 64 0) 1) up

theorem witness_GfpStreamAndClientSignals_frames :
    (stream 0).dev.streamRuns 0 = true
      ∧ (((stream 0).dev.gfpSieve 0).slot 0).st = .active ∧ (((stream 0).dev.gfpSieve 0).slot 0).takeover = false
      ∧ pairRead ((stream 0).dev.gfpSieve 0).gfpCorr (List.zipWith (fun a b => a ^^^ b) [1, 2, 3, 4] gfpMask) = none
      ∧ pairRead ((stream 0).dev.gfpSieve 0).gfpCorr (List.zipWith (fun a b => a ^^^ b) [0xB6, 0xAB, 0x31, 0xE0] gfpMask) = some (0, false)
      ∧ pairRead ((stream 0).dev.gfpSieve 0).gfpCorr (List.zipWith (fun a b => a ^^^ b) (gfpCoreSent 3) gfpMask) = some (3, false)
      ∧ ((stream 0 { broken := true }).dev.group 0).broken = true ∧ ((stream 0).dev.group 0).broken = false := by decide

theorem witness_GfpStreamAndClientSignals_limits :
    (1 ≤ ((stream 1).dev.gfpSieve 0).errors ∧ ((stream 1).dev.gfpSieve 0).gfpAlpha ≤ ((stream 1).dev.gfpSieve 0).errors
        ∧ (∀ j, j < 8 → j ≠ 0 → (((stream 1).dev.gfpSieve 0).slot j).st ≠ .active))
      ∧ (((stream 0 { csfAt := some 0 }).dev.group 0).csfAt = some 0 ∧ 0 + 300 * 622080 ≤ (stream 0).dev.now
        ∧ (stream 0).dev.on (F.grpStCsf.at 64 0) = true)
      ∧ (((stream 0).dev.group 0).csfSent = none ∧ (stream 0).dev.csfDue 0 = true)
      ∧ (((stream 0 { csfSent := some (200 * 622080) }).dev.group 0).csfSent = some (200 * 622080) ∧ 200 * 622080 + 100 * 622080 ≤ (stream 0).dev.now)
      ∧ (3 ≤ ((stream 0 { exmBad := 3, exmOk := 2 }).dev.group 0).exmBad ∧ ((stream 0 { exmBad := 3, exmOk := 2 }).dev.group 0).exmOk < 3) := by
  decide

theorem test_gfp_idle_frame : gfpCoreSent 0 = [0xB6, 0xAB, 0x31, 0xE0] := by decide

def member (grp mem : W32) (x : MemberSt) (f : Dev → Dev := id) : State :=
  words [(grpAddr 0 0, grp), (memAddr 0 0, mem)] (fun d =>
    f ((((d.setMember 0 x).put (F.hdrEffState.page 0xC) 2)).setGroup 0 { d.group 0 with bound := true }))

theorem witness_VcatAndLcas_sink :
    (let s := member 2 3 { packet := some { crcOk := true, sq := 1 } };
      s.dev.flwRuns = true ∧ s.dev.on (F.memEn.at 8 0) = true ∧ s.dev.memSink 0 = true ∧ s.dev.grpMode (s.dev.memGroup 0) = modeVcat
        ∧ (s.dev.member 0).packet = some { crcOk := true, sq := 1 } ∧ 1 ≠ s.dev.get (F.mem1Sq.at 8 0))
      ∧ ((member 2 3 { packet := some { crcOk := false } }).dev.member 0).packet = some { crcOk := false }
      ∧ (let s := member 2 3 { sqBad := 3 }; s.dev.grpLcas (s.dev.memGroup 0) = false ∧ 3 ≤ (s.dev.member 0).sqBad)
      ∧ ((member 2 3 { sqOk := 3 }).dev.member 0).sqOk = 3 := by decide

/-- Each state of a source member with what moves it on. -/
theorem witness_VcatAndLcas_source :
    let s (state act : Nat) (mst : Option Bool) : State := member 6 1 { mst := mst } (fun d => (d.put (F.memStState.at 8 0) state).put (F.mem1ActReq.at 8 0) act)
    ((s stIdle 1 none).dev.flwRuns = true ∧ ((s stIdle 1 none).dev.group 0).bound = true ∧ up.dev.flwRuns = false
        ∧ (s stIdle 1 none).dev.grpLcas 0 = true ∧ (s stIdle 1 none).dev.get F.mateStatRole < 2 ∧ 0 ∈ (s stIdle 1 none).dev.side 0 false
        ∧ (s stIdle 1 none).dev.memState 0 = stIdle ∧ (s stIdle 1 none).dev.on (F.mem1ActReq.at 8 0) = true)
      ∧ (s stIdle 0 none).dev.on (F.mem1ActReq.at 8 0) = false
      ∧ ((s stAdd 1 (some true)).dev.memState 0 = stAdd ∧ ((s stAdd 1 (some true)).dev.member 0).mst = some true)
      ∧ ((s stNorm 1 (some false)).dev.memState 0 = stNorm ∧ ((s stNorm 1 (some false)).dev.member 0).mst = some false)
      ∧ (s stDnu 1 (some true)).dev.memState 0 = stDnu ∧ (s stEos 0 none).dev.memState 0 = stEos ∧ (s stRemove 0 none).dev.memState 0 = stRemove := by
  decide

theorem witness_MultiframeAlignment :
    (let s := pointed 9 1 psNorm { active := some 0, mf := { bad := 2, frames := 8, oom := true } };
      s.dev.h4Live 0 = true ∧ 2 ≤ (s.dev.path 0).mf.bad ∧ 8 ≤ (s.dev.path 0).mf.frames)
      ∧ (let s := pointed 9 1 psNorm { active := some 0, mf := { bad := 1, frames := 7 } };
        s.dev.h4Live 0 = true ∧ (s.dev.path 0).mf.bad < 2 ∧ (s.dev.path 0).mf.frames < 8)
      ∧ (let s := member 2 3 { rx := { mf := { bad := 2, frames := 8 } } }; s.dev.mfiLive 0 = true ∧ 2 ≤ (s.dev.member 0).rx.mf.bad)
      ∧ (let x : Mf := { bad := 1, next := some 3 }; x.bad = 1 ∧ x.next = some 3 ∧ 3 < 4 ∧ 0 ≠ 3)
      ∧ (let x : Mf := { bad := 2, last := some 3 }; 2 ≤ x.bad ∧ x.last = some 3) := by decide

theorem test_second_frame_out_of_sequence : (({ bad := 1, next := some 3 } : Mf).step 4 0).bad = 2 := by decide

/-! The Groomer -/

def groomer (sh boundary count : Nat) (running : Option (Nat × Nat)) : State := withDev (fun d =>
  { d with shadowMap := [(3, 0x4000_0000)], activeMap := [(2, 7)], grm := { d.grm with running := running, fill := (3, 2, 9), armedAt := 4 },
           timing := { d.timing with edges := 5, fp8kAt := some d.now } })
  (st [(F.grmShadowState, sh), (F.grmCmtCfgBoundary, boundary), (F.grmFillCountCount, count), (F.clkStatusRootValid, 1)])

theorem witness_GroomerCommands :
    (groomer shLoaded 0 4 none).mayWrite 1 Reg.grmCmd
      ∧ ((groomer shLoaded 0 4 none).dev.grm.running = none ∧ grmAccepts opFill shLoaded = true ∧ 0 + 4 ≤ mapEntries)
      ∧ (grmAccepts opCopyActive shLoaded = true ∧ grmAccepts opCheck shLoaded = true ∧ grmAccepts opInvalidate shLoaded = true)
      ∧ (grmAccepts opArm shChecked = true ∧ grmAccepts opDisarm shArmed = true ∧ grmAccepts opArm shLoaded = false)
      ∧ (groomer shLoaded 0 0 none).dev.get F.grmFillCountCount = 0
      ∧ (groomer shChecked 3 0 none).dev.get F.grmCmtCfgBoundary = 3
      ∧ (groomer shLoaded 0 4 (some (opFill, 0))).dev.grm.running.isSome = true := by decide

theorem test_fill_of_nothing_is_an_argument_error :
    (after (.fill 1 0) (groomer shLoaded 0 0 none)).dev.get F.grmCmdStatResult = rsArg := by decide

theorem witness_GroomerCompletions :
    (groomer shLoading 0 0 (some (opCopyActive, 0))).dev.grm.running = some (opCopyActive, 0)
      ∧ (groomer shLoading 0 0 (some (opFill, 0))).dev.grm.running = some (opFill, 0)
      ∧ ((groomer shChecking 0 0 (some (opCheck, 0))).dev.grm.running = some (opCheck, 0) ∧ (groomer shChecking 0 0 (some (opCheck, 0))).dev.shadow = shChecking)
      ∧ (groomer shLoaded 0 0 (some (opVerify, 0))).dev.grm.running = some (opVerify, 0)
      ∧ (groomer shLoading 0 0 (some (opLibLoad, 0))).dev.grm.running = some (opLibLoad, 0) := by decide

theorem test_copyActiveDone_copies :
    (after (.copyActiveDone false) (groomer shLoading 0 0 (some (opCopyActive, 0)))).dev.shadowMap = [(2, 7)] := by decide

theorem witness_SwapAndWindows :
    (groomer shArmed 0 0 none).dev.swapDue = true ∧ (groomer shChecked 0 0 none).dev.swapDue = false
      ∧ ((groomer shArmed 0 0 none).mayWrite 1 (0x1000_0000 + 4 * 16174079) ∧ (groomer shArmed 0 0 none).dev.shadow = shArmed)
      ∧ ((groomer shLoaded 0 0 none).mayWrite 1 0x1000_0000 ∧ (groomer shLoaded 0 0 none).dev.grmRuns opLibSave = false)
      ∧ ((groomer shLoaded 0 0 none).mayWrite 1 (selAddr 262143 3) ∧ (groomer shLoaded 0 0 none).dev.selInUse 262143 = false)
      ∧ (let s := withDev (fun d => { d with activeMap := [(2, 0x8000_0000)] }) (groomer shLoaded 0 0 none);
        s.mayWrite 1 (selAddr 0 1) ∧ s.dev.selInUse 0 = true) := by decide

theorem test_swap_exchanges_the_maps :
    (after .swap (groomer shArmed 0 0 none)).dev.activeMap = [(3, 0x4000_0000)]
      ∧ (after .swap (groomer shArmed 0 0 none)).dev.shadowMap = [(2, 7)] := by decide

/-! Edges, epochs and the Monitor -/

/-- HBM3 is trained, with its units on their own pseudo-channels. -/
def trained (s : State) : State := withDev (fun d =>
  (((d.each 64 (fun e u => (e.put (F.hbmUnitPc.at 4 u) u).raise (F.hbmUnitBacked.at 4 u))).raise F.hbmStatTrained0).raise F.hbmStatTrained1)) s

def clocked (edges : Nat) (waits : Bool) : State := withDev (fun d =>
  { d with now := 5, ladle := { d.ladle with waits := waits, edge := 1 },
           timing := { d.timing with edges := edges, fp8kAt := some 5, loop := .locked .a, firstLock := some 0 } })
  (st [(F.clkStatusRootValid, 1)])

/-- An edge in service and in a reset, a multiframe's and an epoch's first frame, and the pass of the Ladle. -/
theorem witness_FrameEdgesAndEpochs :
    (clocked 3 false).dev.rootValid = true ∧ (withDev (fun d => { d with modes := { d.modes with inReset := .warm } }) (clocked 3 false)).dev.modes.inReset ≠ .no
      ∧ ((clocked 5 false).dev.atMultiframe = true ∧ (clocked 5 false).dev.timing.fp8kAt = some 5)
      ∧ ((clocked 8001 false).dev.epochNow = true ∧ (clocked 8001 false).dev.ladle.waits = false)
      ∧ (let s := withDev (fun d => { d with modes := { d.modes with inReset := .warm } }) (clocked 8001 true);
        s.dev.epochNow = true ∧ s.dev.ladle.waits = true ∧ s.dev.modes.inReset ≠ .no)
      ∧ (withDev (fun d => { d with ladle := { d.ladle with more := [{ epoch := 2 }] } }) (clocked 8001 true)).dev.ladle.more = [{ epoch := 2 }]
      ∧ ((clocked 8001 true).dev.ladle.waits = true ∧ (clocked 8001 true).dev.modes.inReset = .no ∧ (withDev (fun d => (d.put F.pmCntBaseLoBase 0).put F.pmCntBaseHiBase 0) (clocked 8001 true)).dev.cntBase = 0) := by
  decide

/-- A packet for lane 4, on its way through the Packet Staging Queue. -/
def carried (stamps : List (Nat × Nat)) : TaggedUnit := { serial := 9, kind := 1, source := 4, word1 := 0x1234_5678, tb := 5, stamps := stamps }

def monitored (sel win : Nat) (base due : List (Nat × Nat)) : State := withDev (fun d =>
  { ((framed 0 (typed 0 0 3 d)).setEst (estKeyLane 0 0) { slices := [400] }) with
      ladle := { d.ladle with base := base, pass := { d.ladle.pass with due := due } }, now := 5000,
      skw := { held := [carried [(7, 100), (8, 200)]] }, timing := { d.timing with edges := 8000 } })
  (st [(⟨Reg.pmWrSel, 0, 32⟩, sel), (F.pmBwSelObj.at 16 0, 1), (F.pmBwWinMs.at 16 0, win), (F.lanePmCfgSdsfEn.lane 0, 1),
    (F.lanePmCfgSdExp.lane 0, 6), (F.devModeMode, modeService), (⟨Reg.pmSkwCfg, 0, 32⟩, 0x7_FFFF)])

theorem witness_MonitorCommands_accesses :
    (monitored 0 0 [] []).mayWrite 1 Reg.pmWrGo ∧ (monitored 0x700_0000 0 [] []).dev.wrKey = none
      ∧ (monitored 0 0 [] []).dev.wrKey.isSome = true
      ∧ (monitored 0 0 [] []).mayWrite 1 Reg.pmBinAlign ∧ (monitored 0 0 [] []).mayRead 1 (Reg.pmBwPeak + 16 * 63)
      ∧ (monitored 0 0 [] []).mayWrite 1 (Reg.pmBwSel + 16 * 63) ∧ (monitored 0 0 [] []).mayWrite 1 (Reg.pmBwWin + 16 * 63)
      ∧ (monitored 0 0 [] []).mayWrite 1 (Reg.pmFecCfg + 32 * 15) ∧ (monitored 0 0 [] []).dev.on (F.pmFecCfgEn.at 32 15) = false := by decide

/-- The table of baselines is full at 4,096 of them. -/
theorem witness_MonitorCommands_full :
    (monitored 0 0 [] (List.replicate 4096 (1, 0))).dev.pendingBases = 4096
      ∧ (monitored 0 0 [(0, 0)] (List.replicate 4096 (1, 0))).dev.pendingBases = 4097 := by
  refine ⟨?_, ?_⟩
  · show 0 + (List.replicate 4096 (1, 0)).length = 4096
    simp
  · show 1 + (List.replicate 4096 (1, 0)).length = 4097
    simp

theorem witness_MonitorCommands_windows :
    (1 ≤ (monitored 0 1000 [] []).dev.get (F.pmBwSelObj.at 16 0) ∧ (monitored 0 1000 [] []).dev.get (F.pmBwSelObj.at 16 0) ≤ 8
        ∧ 0 + 8 * (monitored 0 1000 [] []).dev.get (F.pmBwWinMs.at 16 0) ≤ (monitored 0 1000 [] []).dev.timing.edges)
      ∧ (monitored 0 1001 [] []).dev.timing.edges < 0 + 8 * (monitored 0 1001 [] []).dev.get (F.pmBwWinMs.at 16 0) := by decide

/-- A unit that is tagged; its last stage and its loss, each with HBM3 and without; and a stage in the middle. -/
theorem witness_MonitorCommands_traces :
    (let s := monitored 0 0 [] [];
      s.dev.tagsPlaced = true ∧ skewChooses (s.dev.word Reg.pmSkwCfg) (1#3).toNat (4#7).toNat = true
        ∧ skewChooses (up.dev.word Reg.pmSkwCfg) (1#3).toNat (4#7).toNat = false
        ∧ s.dev.skw.held.length + s.dev.skw.waiting.length < 32768 ∧ s.dev.skw.waiting = [] ∧ s.dev.hbmUp = false
        ∧ s.dev.skw.held.find? (fun z => z.serial == 9) = some (carried [(7, 100), (8, 200)])
        ∧ (carried [(7, 100), (8, 200)]).stamps.length < 12)
      ∧ (trained (monitored 0 0 [] [])).dev.hbmUp = true
      ∧ (skewStages 1).contains [7, 8, 9] = true ∧ (skewStages 1).contains [7, 8] = false := by decide

theorem test_last_stage_ends_the_unit :
    (after (.traceRecordWrite (.stamp 9 9)) (monitored 0 0 [] [])).dev.skw.held = []
      ∧ (after (.traceRecordWrite (.stamp 9 9)) (monitored 0 0 [] [])).dev.skw.waiting.length = 1 := by decide

/-! Protection -/

/-- A 1+1 group 0 over lanes 0 and 1, and selector 0 under SNCP. -/
def guarded (cfg now : Nat) (p : ProtSt) : State := withDev (fun d =>
  let d1 := framed 1 (typed 1 0 3 (framed 0 (typed 0 0 3 d)))
  let d2 := (((d1.setWord Reg.protMspCfg (BitVec.ofNat 32 cfg)).setWord Reg.protMspWork 1).setWord Reg.devCapPlane0 0xFFFF_FFFF).setWord
    Reg.protSncIdx 0
  let d3 := [(F.hdrEffState.page 0xF, 2), (F.devModeMode, modeService), (F.selOwner.at 16 0, 1), (F.laneSohKrxValid.lane 0, 1),
    (F.laneSohKrxK1.lane 0, 0x51), (F.laneSohKrxK2h.lane 0, 3), (F.laneSohKrxK2lValid.lane 0, 1), (F.laneSohKrxK2l.lane 0, 4)].foldl
      (fun e x => e.put x.1 x.2) d2
  { (d3.setMsp 0 p).setSnc 0 p with now := now }) up

theorem witness_ProtectionCommands :
    (guarded 0x8001 0 {}).mayWrite 1 (Reg.protMspReq + 0x40 * 47) ∧ (guarded 0x8001 0 {}).mayWrite 1 Reg.protSncReq := by decide

/-- R434, R435: FORCED of channel 1 is stored; LOCKOUT takes channel 0 alone. -/
theorem test_commands_of_a_group :
    ((after (.mspForced 1 0 1) (guarded 0x8001 0 {})).dev.mspSt 0).forced = some 1
      ∧ (after (.mspLockout 1 0 1) (guarded 0x8001 0 {})).dev.get F.protReqResResult = resArg
      ∧ ((after (.mspLockout 1 0 0) (guarded 0x8001 0 {})).dev.mspSt 0).lockout = true := by decide

theorem witness_RequestOrder :
    ((⟨3, 2⟩ : Req) ∈ [(⟨3, 2⟩ : Req), ⟨3, 1⟩] ∧ (⟨3, 2⟩ : Req).rank < rkNr)
      ∧ (∃ x ∈ ({ lockout := true } : ProtSt).requests [], x.rank ≤ ProtCmd.rank .forced) := by decide

theorem test_the_lowest_channel_wins : bestReq [⟨3, 2⟩, ⟨8, 1⟩, ⟨3, 1⟩] = ⟨3, 1⟩ := by decide

theorem witness_ProtectionEvents_timers :
    (let s := guarded 0x8001 622080000 { exercise := some 1, exerciseAt := 0 };
      s.dev.evaluates = true ∧ (s.dev.mspSt 0).exercise = some 1
        ∧ Nat.max (s.dev.mspSt 0).exerciseAt s.dev.modes.resumed + 622080000 ≤ s.dev.now)
      ∧ (let s := guarded 0x8001 622080000 { onset := [(1, true, 0)] };
        s.dev.evaluates = true ∧ ((1#4).toNat, true, 0) ∈ (s.dev.protSt (.msp 0)).onset
          ∧ Nat.max 0 s.dev.modes.resumed + (s.dev.protCfg (.msp 0)).holdoff ≤ s.dev.now)
      ∧ (let s := guarded 0x8001 (300 * 622080000) { wtr := some (1, 0) };
        s.dev.evaluates = true ∧ (s.dev.protSt (.msp 0)).wtr = some (1, 0) ∧ Nat.max 0 s.dev.modes.resumed + (s.dev.protCfg (.msp 0)).wtr ≤ s.dev.now
          ∧ (s.dev.protSt (.msp 0)).fail = none) := by decide

theorem witness_ProtectionEvents_decisions :
    ((guarded 0x8001 0 {}).dev.mspActs 0 = true ∧ (guarded 0x8001 0 {}).dev.decides = true)
      ∧ ((guarded 0x8001 0 {}).dev.selOwner 0 = 1)
      ∧ (let s := guarded 0x8001 622080000 { pamAt := [(.architecture, 1, 622080000 - 31104000)] }; .architecture ∉ (s.dev.mspSt 0).pam ∧ s.dev.pamSeen 0 .architecture = true ∧ s.dev.pamHeld 0 .architecture 1 = true)
      ∧ (let s := guarded 0x8001 622080000 { pam := [.channel], pamAt := [(.channel, 2, 0)] };
        .channel ∈ (s.dev.mspSt 0).pam ∧ s.dev.pamGone 0 .channel = true ∧ s.dev.pamHeld 0 .channel 2 = true)
      ∧ ((guarded 0x8001 0 {}).mayWrite 1 Reg.protMspCfg ∧ (guarded 0x8001 0 {}).dev.mspOn 0 = true
        ∧ (guarded 0x8000 0 {}).dev.mspOn 0 = false)
      ∧ (let s := guarded 0x8000 0 {}; let v := mspCfgWord ((s.dev.regWrite Reg.protMspCfg 0x8001).word Reg.protMspCfg);
        s.mayWrite 1 Reg.protMspCfg ∧ getF 0x8001#32 0 1 = 1 ∧ s.dev.mspPlaceOk 0 v = true)
      ∧ (let s := guarded 0x8001 0 {}; let v := mspCfgWord ((s.dev.regWrite (Reg.protMspCfg + 0x40) 3).word (Reg.protMspCfg + 0x40));
        s.dev.mspOn 1 = false ∧ getF 3#32 0 1 = 1 ∧ s.dev.mspPlaceOk 1 v = false) := by decide

/-! Paired operation -/

def paired (role step : Nat) (fs : List (Field × Nat)) (m : Mate) (now : Nat := 622080000) : State := withDev (fun d =>
  { ((d.put F.mateStatRole role).put F.mateStatRejoinStep step).put F.mateCfgEn (min role 1) with mate := m, now := now })
  (st fs (fun d => framed 97 (framed 96 d)))

def both : Mate := { lane := { up := true }, side := { up := true } }

theorem witness_LidAndInterlock :
    (up.mayWrite 1 Reg.mateCfg ∧ up.dev.on F.mateCfgEn = false ∧ (up.dev.regWrite Reg.mateCfg 1).on F.mateCfgEn = true)
      ∧ (let s := paired roleStandby 1 [] {}; s.mayWrite 1 Reg.mateCfg ∧ s.dev.on F.mateCfgEn = true
        ∧ (s.dev.regWrite Reg.mateCfg 0).on F.mateCfgEn = false ∧ s.dev.notHolding = true ∧ s.dev.role ≠ roleSolo)
      ∧ (paired roleActive 1 [] {}).dev.role = roleActive := by decide

theorem test_mateEnable_rejoins : (after (.mateEnable 1 1) up).dev.role = roleRejoin := by decide

theorem witness_LidSeizure :
    (let s := paired roleStandby 1 [(F.devModeMode, modeService)] {}; s.dev.maySeize = true)
      ∧ (let s := paired roleStandby 1 [] { seizing := some 0 } 12442; s.dev.mate.seizing = some 0 ∧ 0 + 12442 ≤ s.dev.now ∧ s.dev.slotB = false)
      ∧ (paired roleStandby 1 [(F.mateStatSlot, 1)] { seizing := some 0 } 12442).dev.slotB = true := by decide

/-- R468: with the other line low, slot B does not become ACTIVE. -/
theorem test_collision_of_seizures :
    (after (.lidSample false) (paired roleStandby 1 [(F.mateStatSlot, 1)] { seizing := some 0 } 12442)).dev.role = roleStandby := by
  decide

theorem witness_RolesAndSelfCheck :
    (let s := paired roleActive 1 [(F.mateStatMateRole, roleStandby)] both; s.mayWrite 1 Reg.mateCmd ∧ s.dev.mayHandOver = true)
      ∧ (let s := paired roleStandby 1 [] both; s.mayWrite 1 Reg.mateCmd ∧ s.dev.mayHandOver = false ∧ s.dev.role = roleStandby)
      ∧ (let s := paired roleActive 1 [(F.mateSelfchkLocal, 2), (F.mateSelfchkMate, 1)] { both with checking := true };
        s.dev.mate.checking = true ∧ s.dev.get F.mateSelfchkLocal = 2 ∧ s.dev.get F.mateSelfchkMate = 1)
      ∧ (let s := paired roleStandby 1 [(F.mateStatDisagree, 1)] { both with passAt := some 0 } 62208000;
        s.dev.mate.passAt = some 0 ∧ 0 + 62208000 ≤ s.dev.now ∧ s.dev.on F.mateStatDisagree = true)
      ∧ (let s := paired roleStandby 1 [(F.mateCfgLanes, 1)] both; s.dev.hearsControl 0 (payload264 [0])) := by
  unfold Dev.hearsControl; decide

def heart : State := withDev (fun d =>
  { d with timing := { d.timing with edges := 900, seqBase := 2, fp8kAt := some d.now }, mate := { d.mate with echoed := true, sentLane := some 5 } })
  (paired roleStandby 2 [(F.mateCfgLanes, 1), (F.clkStatusRootValid, 1), (F.mateStatMateRole, roleActive), (F.mateStatDisagree, 1)] {})

theorem witness_MateTraffic_beats :
    heart.dev.role ≠ roleSolo ∧ heart.dev.pulseDue heart.dev.mate.sentSide = true
      ∧ (heart.dev.rootValid = true ∧ heart.dev.seqNow % 2 = 0
        ∧ (∀ x, heart.dev.mate.sentLane = some x → ∃ e, heart.dev.timing.fp8kAt = some e ∧ x < e))
      ∧ heart.dev.hearsControl 0 (payload264 [0, 0x81])
      ∧ (heart.dev.inFrame (96 + 1) = true ∧ 1 ∉ heart.dev.mate.excluded ∧ fieldAt (payload264 [0, 0x81]) 0 1 ≠ 1)
      ∧ fieldAt (payload264 [0, 0, 0, 0, 0, 0, 0, 0, 9]) 1 1 = 0 ∧ fieldAt (payload264 [0, 1, 0, 0, 0, 0, 0, 0, 9]) 1 1 = 1
      ∧ heart.dev.mate.lane.missDue 0 = false := by
  unfold Dev.hearsControl; decide

theorem witness_MateTraffic_alignment :
    (let s := withDev (fun d => d.put F.mateStatRole roleRejoin) heart;
      s.dev.role = roleRejoin ∧ s.dev.get F.mateStatRejoinStep = 2 ∧ s.dev.atEdge = true ∧ s.dev.mate.echoed = true)
      ∧ (heart.dev.role = roleStandby ∧ heart.dev.compares = true)
      ∧ (heart.dev.on F.mateStatDisagree = true ∧ ∀ e ∈ heart.dev.mate.mismatches, e + 800 ≤ heart.dev.timing.edges) := by decide

theorem witness_MateTraffic_digests :
    let d := ({ heart.dev with egress := [(0, { reports := [(2, 9), (1, 8), (0, 5)] })] } : Dev)
    (reportAt (d.egressPoint 0).reports 0).isSome = true ∧ (reportAt (d.egressPoint 0).reports (0 + 3 * digestPeriod 0)).isSome = false := by
  decide

theorem test_pulse_widths :
    ((after (.heartbeatReceived (.pulse 700)) heart).dev.mate.side != heart.dev.mate.side) = true
      ∧ ((after (.heartbeatReceived (.pulse 699)) heart).dev.mate.side != heart.dev.mate.side) = false := by decide

def copied (role step : Nat) (fs : List (Field × Nat)) (m : Mate) : State := withDev (fun d =>
  { d with timing := { d.timing with edges := 80, seqBase := 0 } }) (paired role step ((F.clkStatusRootValid, 1) :: fs) m)

def lcasRecord : StateRecord := { kind := 5, mask := 1, key := 1, data0 := 0x123_4567, data1 := 9 }

theorem witness_StateCopy :
    (let s := copied roleActive 1 [] {}; s.dev.role = roleActive ∧ s.dev.seqNow % 80 = 0 ∧ s.dev.mate.stopped = false ∧ s.dev.rootValid = true
        ∧ s.dev.sendsState = false ∧ s.dev.get F.mateStatMateRole ≠ roleRejoin ∧ 16 * s.dev.mate.items.length ≤ 0x2000_0000)
      ∧ (let s := copied roleActive 1 [] { stopped := true }; s.dev.mate.stopped = true ∧ s.dev.get F.mateStatMateRole ≠ roleRejoin)
      ∧ (let s := copied roleStandby 1 [] {};
        s.dev.takesEpoch false = true ∧ endMatches s.dev.mate.rx (endPayload 5 []) = true
          ∧ endMatches s.dev.mate.rx (payload264 [0, 0, 0, 5, 0, 1]) = false)
      ∧ (let s := copied roleRejoin 3 [] { snapDone := true };
        s.dev.role = roleRejoin ∧ s.dev.get F.mateStatRejoinStep = 3 ∧ s.dev.mate.snapDone = true) := by decide

theorem witness_StateCopy_record :
    let rx := [(5, 0, statePayload 5 0 [lcasRecord])]
    endMatches rx (endPayload 5 [statePayload 5 0 [lcasRecord]]) = true ∧ (epochBlocks rx 5).flatMap stateRecordsOf = [lcasRecord]
      ∧ lcasRecord.kind = 5 ∧ lcasRecord.key.toNat < 131072 := by decide +kernel

def commitRecord : StateRecord := { kind := 6, mask := 0xFF, key := 0, data0 := 85, data1 := 0 }

theorem witness_StateCopy_commit :
    let rx := [(5, 0, statePayload 5 0 [commitRecord])]
    let s := copied roleStandby 1 [(F.grmShadowState, shChecked)] { rx := rx }
    endMatches rx (endPayload 5 [statePayload 5 0 [commitRecord]]) = true ∧ (epochBlocks rx 5).flatMap stateRecordsOf = [commitRecord]
      ∧ s.dev.shadow = shChecked ∧ (commitRecord.data0.toNat + 2 ^ 32 - s.dev.seqNow) % 2 ^ 32 = 5
      ∧ (copied roleStandby 1 [] { rx := rx }).dev.shadow ≠ shChecked := by decide +kernel

theorem witness_StateCopy_press :
    let s := copied roleActive 1 [(F.devModeMode, modeService), (F.mateCfgLanes, 1), (F.mateStatMateRole, roleStandby)] both
    decidingMode s.dev.mode = true ∧ s.dev.hearsControl 0 (payload264 [0, 0, 0, 0, 4]) ∧ s.dev.mayHandOver = true := by
  unfold Dev.hearsControl; decide

/-! On-chip SRAM, HBM3 and retirement -/

def stored (spare : Nat) (copy : Option (Nat × Bool)) : State := withDev (fun d =>
  { d with now := 64 * 622080000, modes := { d.modes with stageDone := 1 },
           sram := { d.sram with due := [65535], pcDue := [63], copy := copy } })
  (st [(F.memCfgScrubEn, 1), (F.hbmCfgScrubEn, 1), (F.memStatSpareFree, spare), (F.clkStatusRootValid, 1), (F.devModeMode, modeService)])

theorem witness_MemoryUnits_scrub :
    (stored 1 none).dev.shedLevel < 2 ∧ (stored 1 none).dev.modes.inReset = .no ∧ (stored 1 none).dev.on F.memCfgScrubEn = true
      ∧ (stored 1 none).dev.sram.scrubAt + 8 * 622080000 ≤ (stored 1 none).dev.now
      ∧ ((trained (stored 1 none)).dev.on F.hbmCfgScrubEn = true ∧ (trained (stored 1 none)).dev.hbmUp = true
        ∧ (stored 1 none).dev.sram.hbmScrubAt + 64 * 622080000 ≤ (stored 1 none).dev.now) := by decide

theorem witness_MemoryUnits_retirement :
    ((stored 1 none).dev.sram.due.contains 65535 = true ∧ (stored 1 none).dev.sram.retired.contains 65535 = false
        ∧ (stored 1 none).dev.sram.copy = none ∧ (stored 1 none).dev.get F.memStatSpareFree ≠ 0)
      ∧ (stored 0 none).dev.get F.memStatSpareFree = 0
      ∧ ((stored 1 (some (9, false))).dev.sram.copy = some (9, false) ∧ (stored 1 (some (9, false))).dev.rootValid = true)
      ∧ ((stored 1 none).dev.sram.pcDue.contains 63 = true ∧ (stored 1 none).dev.on (pcRetired 63) = false)
      ∧ ((stored 1 none).dev.mode ≠ modeBoot ∧ 1 ≤ (stored 1 none).dev.modes.stageDone ∧ (stored 1 none).dev.hbmTrained = false
        ∧ ∀ pc, pc < 64 → (stored 1 none).dev.on (pcRetired pc) = false)
      ∧ (stored 1 none).dev.retired (lanePage 103) = false := by decide

/-- A device whose last context word is poisoned. -/
def poisonedContext : State := withDev (fun d => { d with sram := { d.sram with poison := [d.sramPlace (ctxAddr 65535 3)] } }) up

theorem witness_MemoryUnits_poison :
    poisonedContext.dev.poisoned (ctxAddr 65535 3) = true
      ∧ (poisonedContext.mayWrite 0 (ctxAddr 65535 3) ∧ poisonedContext.dev.sliceRetired 65535 = false
        ∧ poisonedContext.dev.on (F.ctxEn.at 16 65535) = false) := by
  refine ⟨List.elem_cons_self, ?_⟩
  decide

/-! The Host Control Port -/

/-- A frame of the port with a header that checks, and its transaction. -/
def portFrameOf (cmd a len : Nat) (data : List Byte) : PortFrame :=
  let h := bytesOf 1 cmd ++ bytesOf 5 a ++ bytesOf 2 len
  { header := h ++ bytesOf 2 (portCrc h), data := data, crc := bytesOf 2 (portCrc data), beats := 1, ecc := .clean }

def portTxn (cmd a len : Nat) (data : List Byte) : PortTxn := { cmd := cmd, addr := a, len := len, data := data }

/-- A READ at the end of the SRAM, a WRITE at its start, one over a page boundary, a posted write, and a header that does not check. -/
theorem witness_HostPortTransactions_headers :
    up.dev.portListens = true
      ∧ parseHeader (portFrameOf cmdRead 0x0443_FFF8 8 []).header [] = some (portTxn cmdRead 0x0443_FFF8 8 [])
      ∧ (up.dev.port.cur = none ∧ up.dev.port.posted = [] ∧ up.dev.sram.poison = [])
      ∧ (let f := portFrameOf cmdWrite 0x0400_0000 3 [1, 2, 3]
         parseHeader f.header f.data = some (portTxn cmdWrite 0x0400_0000 3 [1, 2, 3]) ∧ f.data.length = 3)
      ∧ (let f := portFrameOf cmdPosted 0x0400_0000 3 [1, 2, 3]
         parseHeader f.header f.data = some (portTxn cmdPosted 0x0400_0000 3 [1, 2, 3]) ∧ f.data.length = 3)
      ∧ up.dev.portCheck (portTxn cmdRead 0x0400_0000 8 []) true = none
      ∧ up.dev.portCheck (portTxn cmdWrite 0x0400_0000 3 [1, 2, 3]) (numOf (bytesOf 2 (portCrc [1, 2, 3])) == portCrc [1, 2, 3]) = none
      ∧ up.dev.portCheck (portTxn cmdRead 0x0400_FFFF 2 []) true = some (stSlverr, causePage)
      ∧ (st [(F.hcpCfgPostEn, 1)]).dev.portCheck (portTxn cmdPosted 0x0400_0000 3 [1, 2, 3]) true = none
      ∧ parseHeader [0xA1, 0, 0, 0, 0, 0, 0, 0, 0, 0] [] = none := by decide

def answering (x : PortTxn) : State := withDev (fun d =>
  ({ d with port := { d.port with cur := some x } } : Dev).setBurst 0
    { write := x.cmd == cmdWrite, addr := x.addr, len := x.len, data := x.data, since := 5 }) up

theorem witness_HostPortTransactions_answers :
    let x := portTxn cmdWrite 0x0400_0000 3 [1, 2, 3]
    ((answering x).dev.port.cur = some x ∧ (answering x).dev.port.timedOut = false ∧ x.data.length = x.len
        ∧ (answering x).dev.burst 0 = { write := x.cmd == cmdWrite, addr := x.addr, len := x.len, data := x.data, since := 5 })
      ∧ ((answering (portTxn cmdRead 0x0443_FFFF 1 [])).dev.port.cur = some (portTxn cmdRead 0x0443_FFFF 1 []))
      ∧ (withDev (fun d => { d with port := { d.port with posted := [x] } }) up).dev.port.posted = [x] := by decide

/-- 13_host_control_port.md: the CRC of "123456789" is 0x29B1. -/
theorem test_port_crc : portCrc [0x31, 0x32, 0x33, 0x34, 0x35, 0x36, 0x37, 0x38, 0x39] = 0x29B1 := by decide

def expiring (now : Nat) : State := withDev (fun d =>
  { d with now := now, port := { d.port with cur := some (portTxn cmdRead 0x0400_0000 8 []), curAt := 100, readyAt := 4 } }) up

/-- 1.8 µs are 1,119.744 ticks. -/
theorem witness_HostPortLimits :
    ((expiring 1220).dev.port.cur = some (portTxn cmdRead 0x0400_0000 8 []) ∧ (expiring 1220).dev.port.timedOut = false
        ∧ 100000 * (expiring 1220).dev.port.curAt + 62208 * 1800 ≤ 100000 * (expiring 1220).dev.now)
      ∧ ((expiring 1220).dev.modes.inReset = .no ∧ (expiring 1220).dev.port.readyAt ≤ (expiring 1220).dev.now
        ∧ (expiring 1220).dev.port.ignoring = false)
      ∧ (up.dev.port.cur = none ∧ up.dev.port.readyAt ≤ up.dev.now) := by decide

theorem test_timeout : (after (.timeout 1800) (expiring 1220)).dev.port.timedOut = true ∧ (after (.timeout 1800) (expiring 1219)).dev.port.timedOut = false := by
  decide

/-! Management and security -/

def managed (state : Nat) (f : Mgt → Mgt) : State := withDev (fun d => { d with now := 30 * 622080000, mgt := f d.mgt })
  (st [(F.mgtBootStatState, state), (F.mgtWdogEn, 1), (F.mgtWdogTimeout, 10), (F.mgtTalarmLimit, 0x1FF)])

theorem witness_ProcessorStarts_causes :
    ((managed bootRunning id).mayWrite 1 Reg.mgtCtrl ∧ (managed bootRunning id).mayWrite 0 Reg.mgtCtrl)
      ∧ (managed bootRunning id).dev.wdogOver = true
      ∧ ((managed bootRunning (fun x => { x with trialAt := some 0 })).dev.mgt.trialAt = some 0
        ∧ 0 + 30 * 622080000 ≤ (managed bootRunning id).dev.now ∧ (managed bootRunning id).dev.modes.inReset = .no)
      ∧ ((managed bootRecovery id).dev.bootState = bootRecovery ∧ (managed bootRecovery id).dev.mgt.otp.gone = false)
      ∧ (managed bootRunning id).dev.bootState ≠ bootRecovery := by decide

theorem witness_ProcessorStarts_registers :
    (managed bootRunning id).mayWrite 1 Reg.mgtWdog ∧ (managed bootRunning id).mayWrite 1 Reg.mgtHealth
      ∧ (managed bootRunning id).mayWrite 0 Reg.mgtHealth
      ∧ (let s := managed bootRunning (fun x => { x with trialAt := some 0, image := some (0, [1]) });
        s.dev.mgt.trialAt.isSome = true ∧ s.dev.mgt.image.isSome = true)
      ∧ (managed bootRunning id).dev.mgt.trialAt = none
      ∧ (quarters ((managed bootRunning id).dev.get F.mgtTalarmLimit) ≤ quarters (0x1FF#10).toNat
        ∧ (managed bootRunning id).dev.on F.mgtTalarmActive = false)
      ∧ (∀ x ∈ List.replicate 6 (0#10), quarters x.toNat ≤ quarters ((managed bootRunning id).dev.get F.mgtTalarmLimit) - 20)
      ∧ (managed bootRunning id).mayRead 1 (sensorAddr (.slack 11)) := by decide

theorem witness_FirmwareCommands :
    (let s := managed bootRunning (fun x => { x with image := some (0, [1]) });
      s.mayWrite 1 Reg.mgtFwCmd ∧ s.dev.haldyn = true ∧ s.dev.mgt.fw = none ∧ s.dev.grants .power = true
        ∧ s.dev.runs (!(bootRecord s.flash).1.active) = false ∧ s.dev.runs false = true ∧ s.dev.hbmAnswers stagingBase = false)
      ∧ (managed bootRunning (fun x => { x with image := some (1, [1]) })).dev.runs (!(bootRecord []).1.active) = true
      ∧ (withDev (fun d => d.put F.pwrStatLevel 2) (managed bootRunning id)).dev.grants .power = false
      ∧ ((bootRecord []).1.state false = slotValid ∧ (managed bootRunning id).dev.mgt.otp.rollback ≤ hdrRollback (slotHeader [] false))
      ∧ (managed bootRunning (fun x => { x with fw := some (2, 1) })).dev.mgt.fw = some (2, bitOf true)
      ∧ (managed bootRunning (fun x => { x with fw := some (1, 0) })).dev.mgt.fw = some (1, 0) := by decide

theorem witness_FirmwareCommands_staged : (trained (managed bootRunning id)).dev.hbmAnswers stagingBase = true := by decide

/-- The lifecycles, and a shed level that takes the power of security commands. -/
theorem witness_SecurityEngine :
    (up.mayWrite 1 Reg.secCmd ∧ up.dev.lifecycle = lcBlank ∧ up.dev.grants .power = true ∧ up.dev.grants .attest = true)
      ∧ (managed bootRunning (fun x => { x with otp := { x.otp with provisioned := true } })).dev.lifecycle = lcProvisioned
      ∧ (managed bootRunning (fun x => { x with otp := { x.otp with provisioned := true, locked := true } })).dev.lifecycle = lcLocked
      ∧ (let s := managed bootRunning (fun x => { x with otp := { x.otp with provisioned := true, locked := true, gone := true } });
        s.dev.lifecycle = lcGone ∧ s.dev.grants .attest = false)
      ∧ (up.mayWrite 0 Reg.secDbg ∧ up.mayWrite 1 Reg.secDbg)
      ∧ (managed bootRunning (fun x => { x with testmode := true })).dev.mgt.testmode = true := by decide

theorem test_lock : (after (.lock 1) (managed bootRunning (fun x => { x with otp := { x.otp with provisioned := true } }))).dev.mgt.otp.locked = true
    ∧ (after (.lock 1) up).dev.get F.secCmdStatResult = secState := by decide

/-- FIPS 180-4: the digest of "abc" begins BA 78 16 BF. -/
theorem test_sha256 : (sha256 [0x61, 0x62, 0x63]).take 4 = [0xBA, 0x78, 0x16, 0xBF] := by decide

/-! The panel and the modules -/

def panel (held : Nat) (fs : List (Field × Nat)) : State := withDev (fun d =>
  { d with now := 622080000 * 60, panel := { d.panel with runs := List.replicate 20 24, cages := List.replicate 104 24, buses := List.replicate 4 (false, 16) },
           mate := both })
  (st ([(F.devModeMode, modeService), (F.pnlCfgScanEn, 1), (F.pnlCfgKeys, 16), (⟨Reg.pnlCfg, 16, 4⟩, 5), (⟨Reg.pnlKeystat, 0, 20⟩, held)] ++ fs))

theorem witness_PanelAndModules_keys :
    ((panel 0 []).dev.on F.pnlCfgScanEn = true ∧ (panel 0 []).dev.modes.inReset = .no ∧ (panel 0 []).dev.panel.scanAt = none
        ∧ (panel 0 []).dev.on ⟨Reg.pnlCfg, 16, 1⟩ = true ∧ 15 < (panel 0 []).dev.get F.pnlCfgKeys)
      ∧ ((panel 0 []).dev.held 19 = false ∧ 24 ≤ (panel 0 []).dev.panel.runs.getD 19 0)
      ∧ getF ((panel 0 [(F.pnlKfunFunc.at 4 0, funcAco)]).dev.word Reg.pnlKfun) 0 3 = funcAco
      ∧ ((panel 0x8_0000 []).dev.held 19 = true ∧ (panel 0x8_0000 []).dev.isStuck 19 = false
        ∧ (panel 0x8_0000 []).dev.panel.heldAt.getD 19 0 + 60 * 622080000 ≤ (panel 0 []).dev.now)
      ∧ (panel 3 [(F.pnlKfunFunc.at 4 0, funcHandover), (F.pnlKfunFunc.at 4 1, funcHandover), (F.pnlKfunPair.at 4 0, 1), (F.pnlKfunPair.at 4 1, 0),
        (F.mateStatRole, roleActive), (F.mateStatMateRole, roleStandby)]).dev.pairHeld 0 1 = true
      ∧ (panel 3 [(F.mateStatRole, roleActive), (F.mateStatMateRole, roleStandby)]).dev.mayHandOver = true := by decide

theorem witness_PanelAndModules_modules :
    ((panel 0 []).dev.panel.touch.getD 0 false = false ∧ (panel 0 []).dev.panel.stepAt.getD 0 0 + 64 * 622080 ≤ (panel 0 []).dev.now)
      ∧ ((panel 0 []).dev.seated 103 = false ∧ 24 ≤ (panel 0 []).dev.panel.cages.getD 103 0)
      ∧ (panel 0 [(⟨Reg.pnlPres, 0, 1⟩, 1)]).dev.seated 0 = true ∧ (panel 0 []).mayWrite 1 Reg.pnlCtrl
      ∧ ((panel 0 []).mayWrite 1 (Reg.pnlMbCmd + 0x40 * 3) ∧ (panel 0 []).dev.on (F.pnlMbStatBusy.at 0x40 3) = false)
      ∧ ((panel 0 [(F.pnlMbStatBusy.at 0x40 3, 1)]).dev.on (F.pnlMbStatBusy.at 0x40 3) = true
        ∧ ((panel 0 []).dev.panel.buses.getD 3 (false, 0)).2 ≤ 16) := by decide

/-! Modes, requested states, shedding and resets -/

def moded (mode req stage level : Nat) (edge building : Bool) : State := withDev (fun d =>
  { d with now := 100, timing := { d.timing with fp8kAt := if edge then some 100 else none },
           modes := { d.modes with stageDone := stage, building := building, skew := [(16, 0)] } })
  (st [(F.devModeMode, mode), (F.devModeReqReq, req), (F.clkStatusRootValid, 1), (F.clkStatusLock, 1), (F.pwrStatLevel, level),
    (F.hdrReqState.page 16, 2), (F.hdrEffReason.page 16, 3)])

/-- The six moves of the mode. -/
theorem witness_ModesAndShedding_moves :
    ((moded modeBoot 1 0 0 false false).dev.mode = modeBoot ∧ (moded modeBoot 1 0 0 false false).dev.modeReq = 1
        ∧ (moded modeBoot 1 0 3 false false).dev.shedLevel < 4)
      ∧ (let s := moded modePrepare 2 4 0 true false; s.dev.mode = modePrepare ∧ s.dev.modes.stageDone = 4 ∧ s.dev.modes.building = false
        ∧ s.dev.on F.clkStatusLock = true ∧ s.dev.atEdge = true)
      ∧ ((moded modeService 1 4 0 false false).dev.mode = modeService ∧ (moded modeService 5 4 0 true false).dev.atEdge = true)
      ∧ ((moded modeMaintain 1 4 0 true false).dev.mode = modeMaintain ∧ (moded modeMaintain 1 4 0 true false).dev.anyTest = false) := by decide

theorem witness_ModesAndShedding_requests :
    (up.mayWrite 1 Reg.devModeReq)
      ∧ (let s := moded modePrepare 2 0 0 false true; s.dev.modes.building = true ∧ s.dev.modes.inReset = .no ∧ s.dev.stageReady 1 = true)
      ∧ (moded modePrepare 2 3 0 false true).dev.stageReady 4 = true
      ∧ (up.mayWrite 1 (pageAddr 119 Reg.hdrReq) ∧ fixedReq 119 = false ∧ up.mayWrite 1 (pageAddr 0 Reg.hdrReq) ∧ fixedReq 0 = true)
      ∧ (let s := moded modePrepare 2 0 0 false true; s.dev.skewRuns 16 = true ∧ s.dev.on (F.hdrSkewFlag.page 16) = false
        ∧ (10 * s.dev.get (F.hdrSkewSettle.page 16) ≤ s.dev.skewMs 16 ∨ s.dev.skewMs 16 < 10 * s.dev.get (F.hdrSkewSettle.page 16))) := by decide

/-- A slack of 0 leads to the deepest level; slack and voltage to spare leave a level. -/
theorem witness_ModesAndShedding_levels :
    (let x : PowerSample := { slack := 0, monitor := 11, millivolt := 0 }; up.dev.shedLevel < up.dev.shedDeepest x ∧ up.dev.shedDeepest x = 4)
      ∧ (withDev (fun d => { d with now := 1000000 * 622080 }) (moded modeService 2 4 1 false false)).dev.mayLeave
        { slack := 100, monitor := 0, millivolt := 900 } 1000000 = true := by decide

theorem witness_Resets :
    (up.dev.modes.inReset = .no ∧ up.dev.port.posted = [] ∧ up.dev.port.timedOut = false)
      ∧ (withDev (fun d => { d with modes := { d.modes with inReset := .warm } }) up).dev.modes.inReset = .warm
      ∧ State.reset.dev.modes.inReset = .cold
      ∧ (up.mayWrite 1 Reg.devReset ∧ getF 0x5752_0001#32 16 16 = 0x5752 ∧ getF 0x5752_0001#32 0 1 = 1 ∧ getF 1#32 16 16 ≠ 0x5752) := by decide

theorem test_warm_reset_request : (after (.devResetWrite 1 0x5752_0001) up).dev.modes.warmRequested = true
    ∧ (after (.devResetWrite 1 1) up).dev.modes.warmRequested = false := by decide

end Sys2Proof.Tests
end

/-! The rules that the settled statements of the Lane Array rest on: what an answered access changes, what fields hold after a
masked write, and what a structure change reaches in the Groomer. -/

namespace Sys2Proof.Machine

/-! Fields of masked words and of lane registers -/

/-- A mask that takes a field in whole leaves it as it is. -/
theorem getF_and_of_full (w k : W32) (lo len : Nat) (h : getF k lo len = 2 ^ len - 1) : getF (w &&& k) lo len = getF w lo len := by
  apply Nat.eq_of_testBit_eq
  intro i
  have hk := getF_testBit k lo len i
  rw [h, Nat.testBit_two_pow_sub_one] at hk
  rw [getF_testBit, getF_testBit, BitVec.toNat_and, Nat.testBit_and]
  by_cases hi : i < len
  · have hbit : k.toNat.testBit (lo + i) = true := by simpa [hi] using hk.symm
    rw [hbit, Bool.and_true]
  · simp [hi]

@[simp] theorem Field.lane_off (n : Nat) (f : Field) : (f.lane n).off = laneAddr n f.off := rfl

/-- A field of a lane's page that has just been written, and the others of the page. -/
theorem Dev.get_lane_put_same (d : Dev) (n v : Nat) {f : Field} (h : f.lo + f.len ≤ 32) :
    (d.put (f.lane n) v).get (f.lane n) = v % 2 ^ f.len := d.get_put_same (f.lane n) v h

theorem Dev.get_lane_put_apart (d : Dev) (n v : Nat) {f g : Field}
    (h : g.off ≠ f.off ∨ (f.lo + f.len ≤ 32 ∧ g.lo + g.len ≤ 32 ∧ (g.lo + g.len ≤ f.lo ∨ f.lo + f.len ≤ g.lo))) :
    (d.put (f.lane n) v).get (g.lane n) = d.get (g.lane n) := by
  refine d.get_put_apart v (h.imp_left fun hne heq => hne ?_)
  simpa [laneAddr] using heq

theorem Dev.on_lane_raise (d : Dev) (n : Nat) {f : Field} (h : f.lo + f.len ≤ 32) (h1 : 1 ≤ f.len) :
    (d.raise (f.lane n)).on (f.lane n) = true := d.on_raise (f.lane n) h h1

/-! Updates of words alone -/

theorem Dev.WordsBut.refl (l : List Nat) (d : Dev) : Dev.WordsBut l d d := fun _ _ => rfl

theorem Dev.WordsBut.setWord {l : List Nat} {d e : Dev} (h : Dev.WordsBut l d e) {a : Nat} (ha : a ∈ l) (w : W32) :
    Dev.WordsBut l d (e.setWord a w) :=
  fun b hb => (e.word_setWord_other w (fun c : b = a => hb (c ▸ ha))).trans (h b hb)

/-- `e` is `d` but for words at the addresses of `l`: `OnlyWords` of the device alone. -/
def Dev.WordsOnly (l : List Nat) (d e : Dev) : Prop := e = { d with words := e.words } ∧ Dev.WordsBut l d e

namespace Dev.WordsOnly

variable {l : List Nat} {d e : Dev}

theorem refl (l : List Nat) (d : Dev) : Dev.WordsOnly l d d := ⟨rfl, Dev.WordsBut.refl l d⟩

theorem setWord (h : Dev.WordsOnly l d e) {a : Nat} (ha : a ∈ l) (w : W32) : Dev.WordsOnly l d (e.setWord a w) := by
  obtain ⟨hframe, hwords⟩ := h
  refine ⟨?_, hwords.setWord ha w⟩
  rw [Dev.setWord]
  rw [hframe]

theorem put (h : Dev.WordsOnly l d e) {f : Field} (hf : f.off ∈ l) (v : Nat) : Dev.WordsOnly l d (e.put f v) := h.setWord hf _

theorem onlyWords {s : State} (h : Dev.WordsOnly l s.dev e) : OnlyWords l s { s with dev := e } :=
  ⟨congrArg (fun d => ({ s with dev := d } : State)) h.1, h.2⟩

end Dev.WordsOnly

/-! Answered writes -/

/-- A write that its target takes shows the effect's words. -/
theorem Dev.write_ok_words {d : Dev} {m a : Nat} {op : Dev → Dev × Resp} (h : d.grant m a true = .ok) :
    (d.write m a op).words = (op d).1.words := by
  obtain ⟨hframe, -⟩ := Dev.write_ok (op := op) h
  rw [hframe]

theorem Dev.write_ok_word {d : Dev} {m a : Nat} {op : Dev → Dev × Resp} (h : d.grant m a true = .ok) (b : Nat) :
    (d.write m a op).word b = (op d).1.word b := by
  rw [Dev.word, Dev.write_ok_words h, Dev.word]

theorem Dev.write_ok_get {d : Dev} {m a : Nat} {op : Dev → Dev × Resp} (h : d.grant m a true = .ok) (f : Field) :
    (d.write m a op).get f = (op d).1.get f := by
  rw [Dev.get, Dev.write_ok_word h, Dev.get]

theorem Dev.write_ok_lane {d : Dev} {m a : Nat} {op : Dev → Dev × Resp} (h : d.grant m a true = .ok) (n : Nat) :
    (d.write m a op).lane n = (op d).1.lane n := by
  obtain ⟨hframe, -⟩ := Dev.write_ok (op := op) h
  rw [Dev.lane, hframe, Dev.lane]

/-- A write whose effect reaches words at the addresses of `l` alone, and answers `r`. -/
theorem answeredWords_write {s : State} {m a : Nat} {op : Dev → Dev × Resp} {e : Dev} {r : Resp} {l : List Nat}
    (h : s.mayWrite m a) (hop : op s.dev = (e, r)) (he : Dev.WordsOnly l s.dev e) :
    AnsweredWords m r l s { s with dev := s.dev.write m a op } := by
  obtain ⟨hframe, hreply⟩ := Dev.write_ok (op := op) h
  have hwords := Dev.write_ok_words (op := op) h
  have hword := Dev.write_ok_word (op := op) h
  obtain ⟨heq, hbut⟩ := he
  rw [hop] at hframe hreply hwords hword
  rw [heq] at hframe hreply
  refine ⟨?_, hreply, fun b hb => (hword b).trans (hbut b hb)⟩
  exact congrArg (fun d => ({ s with dev := d } : State)) (hwords ▸ hframe)

/-! The equalizer and the eye -/

theorem exec_txeqWrite (m : Master) (lane : Lane) (data : W32) (s : State) :
    exec (.txeqWrite m lane data) s = execTxeqWrite m lane data s := rfl

/-- R71: the fields of a clipped `LANE.TXEQ` word: all but MAIN as they were written. -/
theorem getF_txeqWord_apart (data : W32) (lo len : Nat) (h : lo + len ≤ 17) (hd : lo + len ≤ 5 ∨ 11 ≤ lo)
    (hm : getF (0x1FFFF : W32) lo len = 2 ^ len - 1) : getF (txeqWord data) lo len = getF data lo len := by
  rw [txeqWord, getF_putF_other _ _ _ _ _ _ (by omega) (by omega) (by omega), getF_and_of_full _ _ _ _ hm]

theorem getF_txeqWord_main (data : W32) :
    getF (txeqWord data) 5 6 = Nat.min (getF data 5 6) (63 - (getF data 0 5 + getF data 11 5)) := by
  have hlt : Nat.min (getF data 5 6) (63 - (getF data 0 5 + getF data 11 5)) < 2 ^ 6 :=
    Nat.lt_of_le_of_lt (Nat.min_le_left _ _) (getF_lt data 5 6)
  simp only [txeqWord]
  rw [getF_putF_same _ _ _ _ (by omega), getF_and_of_full _ _ 5 6 (by decide), getF_and_of_full _ _ 0 5 (by decide),
    getF_and_of_full _ _ 11 5 (by decide), Nat.mod_eq_of_lt hlt]

/-- R70: what a completed scan leaves in the device. -/
def Dev.eyeScanned (d : Dev) (n height width : Nat) : Dev :=
  (((d.put (F.laneEyeHeight.lane n) height).put (F.laneEyeWidth.lane n) width).put (F.laneEyeValid.lane n)
    (d.get (F.laneSdsStatCdrLock.lane n))).roll (F.laneEyeSeq.lane n) 1

theorem exec_eyeScanComplete (lane : Lane) (height : BitVec 10) (width : BitVec 7) (s : State) :
    exec (.eyeScanComplete lane height width) s = .next { s with dev := s.dev.eyeScanned lane height.toNat width.toNat } := rfl

theorem Dev.eyeScanned_wordsOnly (d : Dev) (n height width : Nat) :
    Dev.WordsOnly [laneAddr n Reg.laneEye] d (d.eyeScanned n height width) :=
  have hmem : laneAddr n Reg.laneEye ∈ [laneAddr n Reg.laneEye] := List.mem_singleton_self _
  ((((Dev.WordsOnly.refl _ d).put (f := F.laneEyeHeight.lane n) hmem _).put (f := F.laneEyeWidth.lane n) hmem _).put
    (f := F.laneEyeValid.lane n) hmem _).put (f := F.laneEyeSeq.lane n) hmem _

section
variable (d : Dev) (n height width : Nat)

theorem Dev.eyeScanned_height : (d.eyeScanned n height width).get (F.laneEyeHeight.lane n) = height % 2 ^ 10 := by
  simp (disch := decide) only [Dev.eyeScanned, Dev.roll, Dev.get_lane_put_apart]
  exact d.get_lane_put_same n height (f := F.laneEyeHeight) (by decide)

theorem Dev.eyeScanned_width : (d.eyeScanned n height width).get (F.laneEyeWidth.lane n) = width % 2 ^ 7 := by
  simp (disch := decide) only [Dev.eyeScanned, Dev.roll, Dev.get_lane_put_apart]
  exact Dev.get_lane_put_same _ n width (f := F.laneEyeWidth) (by decide)

theorem Dev.eyeScanned_valid :
    (d.eyeScanned n height width).get (F.laneEyeValid.lane n) = d.get (F.laneSdsStatCdrLock.lane n) % 2 ^ 1 := by
  simp (disch := decide) only [Dev.eyeScanned, Dev.roll, Dev.get_lane_put_apart]
  exact Dev.get_lane_put_same _ n _ (f := F.laneEyeValid) (by decide)

theorem Dev.eyeScanned_seq :
    (d.eyeScanned n height width).get (F.laneEyeSeq.lane n) = (d.get (F.laneEyeSeq.lane n) + 1) % 2 ^ 14 := by
  simp (disch := decide) only [Dev.eyeScanned, Dev.roll, Dev.get_lane_put_apart]
  exact Dev.get_lane_put_same _ n _ (f := F.laneEyeSeq) (by decide)

end

theorem eyeScan_replacesEye (lane : Lane) (s : State) (height : BitVec 10) (width : BitVec 7) :
    ∃ t, exec (.eyeScanComplete lane height width) s = .next t ∧ OnlyWords [laneAddr lane Reg.laneEye] s t
      ∧ t.dev.get (F.laneEyeHeight.lane lane) = height.toNat ∧ t.dev.get (F.laneEyeWidth.lane lane) = width.toNat
      ∧ t.dev.get (F.laneEyeSeq.lane lane) = (s.dev.get (F.laneEyeSeq.lane lane) + 1) % 2 ^ 14
      ∧ t.dev.on (F.laneEyeValid.lane lane) = s.dev.on (F.laneSdsStatCdrLock.lane lane) := by
  have hlock : s.dev.get (F.laneSdsStatCdrLock.lane lane) < 2 ^ 1 := s.dev.get_lt (F.laneSdsStatCdrLock.lane lane)
  have hvalid : (s.dev.eyeScanned lane height.toNat width.toNat).on (F.laneEyeValid.lane lane)
      = s.dev.on (F.laneSdsStatCdrLock.lane lane) := by
    rw [Dev.on, Dev.eyeScanned_valid, Nat.mod_eq_of_lt hlock, Dev.on]
  exact ⟨{ s with dev := s.dev.eyeScanned lane height.toNat width.toNat }, exec_eyeScanComplete lane height width s,
    (Dev.eyeScanned_wordsOnly ..).onlyWords, (Dev.eyeScanned_height ..).trans (Nat.mod_eq_of_lt height.isLt),
    (Dev.eyeScanned_width ..).trans (Nat.mod_eq_of_lt width.isLt), Dev.eyeScanned_seq .., hvalid⟩

/-- A register of lane page `n` that was written whole, read by field. -/
theorem Dev.write_ok_get_setWord {d : Dev} {m n o : Nat} {w : W32} (h : d.grant m (laneAddr n o) true = .ok) (lo len : Nat) :
    (d.write m (laneAddr n o) (fun e => okay (e.setWord (laneAddr n o) w))).get ⟨laneAddr n o, lo, len⟩ = getF w lo len :=
  (Dev.write_ok_get h _).trans (d.get_setWord_same ⟨laneAddr n o, lo, len⟩ w)

theorem txeqWrite_clipsMain (lane : Lane) (s : State) (m : Master) (data : W32) (h : s.mayWrite m.val (laneAddr lane Reg.laneTxeq)) :
    ∃ t, exec (.txeqWrite m lane data) s = .next t ∧ AnsweredWords m.val .okay [laneAddr lane Reg.laneTxeq] s t
      ∧ t.dev.get (F.laneTxeqPre.lane lane) = getF data 0 5 ∧ t.dev.get (F.laneTxeqPost.lane lane) = getF data 11 5
      ∧ t.dev.get (F.laneTxeqSquelch.lane lane) = getF data 16 1
      ∧ t.dev.get (F.laneTxeqMain.lane lane) = Nat.min (getF data 5 6) (63 - (getF data 0 5 + getF data 11 5)) := by
  have hget := fun lo len => Dev.write_ok_get_setWord (w := txeqWord data) h lo len
  exact ⟨_, exec_txeqWrite m lane data s,
    answeredWords_write h rfl ((Dev.WordsOnly.refl _ _).setWord (List.mem_singleton_self _) _),
    (hget 0 5).trans (getF_txeqWord_apart data 0 5 (by omega) (by omega) (by decide)),
    (hget 11 5).trans (getF_txeqWord_apart data 11 5 (by omega) (by omega) (by decide)),
    (hget 16 1).trans (getF_txeqWord_apart data 16 1 (by omega) (by omega) (by decide)),
    (hget 5 6).trans (getF_txeqWord_main data)⟩

/-! What a structure change reaches (R309) -/

/-- An address in the register page of the Groomer. -/
def inGroomerPage (a : Nat) : Bool := decide (pageAddr 0xB 0 ≤ a) && decide (a < pageAddr 0xC 0)

/-- `e` is `d` but for what the Groomer holds and the words of its page. -/
def Dev.GroomerOnly (d e : Dev) : Prop :=
  e = { d with words := e.words, grm := e.grm } ∧ ∀ a, inGroomerPage a = false → e.word a = d.word a

namespace Dev.GroomerOnly

variable {d e : Dev}

theorem refl (d : Dev) : d.GroomerOnly d := ⟨rfl, fun _ _ => rfl⟩

theorem put (h : d.GroomerOnly e) {f : Field} (hf : inGroomerPage f.off = true) (v : Nat) : d.GroomerOnly (e.put f v) := by
  obtain ⟨hframe, hword⟩ := h
  refine ⟨?_, fun a ha => ?_⟩
  · rw [Dev.put, Dev.setWord]
    rw [hframe]
  · have hne : a ≠ f.off := fun c => by rw [c, hf] at ha; cases ha
    rw [e.word_put_other v hne, hword a ha]

theorem setGrm (h : d.GroomerOnly e) (g : Grm) : d.GroomerOnly (e.setGrm g) := by
  obtain ⟨hframe, hword⟩ := h
  refine ⟨?_, fun a ha => (e.setGrm_word g a).trans (hword a ha)⟩
  rw [Dev.setGrm]
  rw [hframe]

theorem lanes (h : d.GroomerOnly e) : e.lanes = d.lanes := by rw [h.1]

theorem word (h : d.GroomerOnly e) {a : Nat} (ha : inGroomerPage a = false) : e.word a = d.word a := h.2 a ha

theorem verifyNext (h : d.GroomerOnly e) : d.GroomerOnly e.verifyNext := by
  rw [Dev.verifyNext]
  split
  · exact h.setGrm _
  · exact h

/-- A running CHECK that is stopped. -/
theorem stopCheck (h : d.GroomerOnly e) : d.GroomerOnly e.stopCheck := by
  refine Dev.when_ind h (fun _ => verifyNext ?_)
  have hend : d.GroomerOnly (e.grmEnd opCheck rsAborted) :=
    (((h.put (f := F.grmCmdStatOp) rfl _).put (f := F.grmCmdStatResult) rfl _).put (f := F.grmCmdStatBusy) rfl _).setGrm _
  exact hend.put (f := F.grmEvtCmdDone) rfl 1

/-- The ledger of the Groomer's page moves on. -/
theorem ledger (h : d.GroomerOnly e) (id step state done : Nat) : d.GroomerOnly (e.ledger 0xB id step state done) := by
  have hput := (((h.put (f := F.hdrLedgerId.page 0xB) rfl id).put (f := F.hdrLedgerStep.page 0xB) rfl step).put
    (f := F.hdrLedgerStState.page 0xB) rfl state).put (f := F.hdrLedgerStDoneSteps.page 0xB) rfl done
  exact Dev.when_ind (g := fun x => x.raise (F.hdrStickyLedger.page 0xB)) hput
    (fun _ => hput.put (f := F.hdrStickyLedger.page 0xB) rfl 1)

theorem commitStep (h : d.GroomerOnly e) (step done : Nat) : d.GroomerOnly (e.commitStep step done) :=
  (h.setGrm _).ledger _ _ _ _

theorem structureChange (h : d.GroomerOnly e) : d.GroomerOnly e.structureChange := by
  rw [Dev.structureChange]
  split
  · have harm := Dev.when_ind (c := e.shadow == shArmed) (g := fun x => x.raise F.grmEvtArmCancel) h.stopCheck
      (fun _ => h.stopCheck.put (f := F.grmEvtArmCancel) rfl 1)
    exact (harm.put (f := F.grmShadowState) rfl _).commitStep 1 1
  · exact h

end Dev.GroomerOnly

/-! The configuration of a lane -/

theorem exec_laneCfgWrite (m : Master) (lane : Lane) (data : W32) (s : State) :
    exec (.laneCfgWrite m lane data) s = execLaneCfgWrite m lane data s := rfl

/-- A lane page stands above the page of the Groomer. -/
theorem inGroomerPage_laneAddr (n o : Nat) : inGroomerPage (laneAddr n o) = false := by
  have habove : ¬ laneAddr n o < pageAddr 0xC 0 := by
    rw [laneAddr, pageAddr]
    omega
  rw [inGroomerPage, decide_eq_false habove, Bool.and_false]

/-- R59: the writable bits of `LANE.CFG` take in its two fields. -/
theorem getF_laneCfg_type (data : W32) : getF (data &&& 0x37) 4 2 = getF data 4 2 := getF_and_of_full _ _ _ _ (by decide)

theorem getF_laneCfg_rate (data : W32) : getF (data &&& 0x37) 0 3 = getF data 0 3 := getF_and_of_full _ _ _ _ (by decide)

section
variable (d : Dev) {n : Nat} {data : W32}

theorem Dev.writeLaneCfg_mate (hn : 96 ≤ n) : d.writeLaneCfg n data = (d, .okay) := by
  simp only [Dev.writeLaneCfg, if_pos hn, okay]

/-- R58, R59: a write on the page of a port lane, in terms of the fields as they were written. -/
theorem Dev.writeLaneCfg_port (hn : n < 96) :
    d.writeLaneCfg n data =
      if laneCfgAllowed (getF data 4 2) (getF data 0 3) = false then (d.raise (F.laneSdsStatCfgErr.lane n), .slverr)
      else if d.eff (lanePage n) = 2 ∨ d.eff (lanePage n) = 3 ∨ data &&& 0x37 = d.word (laneAddr n Reg.laneCfg) then (d, .okay)
      else ((d.setWord (laneAddr n Reg.laneCfg) (data &&& 0x37)).structureChange, .okay) := by
  simp only [Dev.writeLaneCfg, if_neg (Nat.not_le.mpr hn), getF_laneCfg_type, getF_laneCfg_rate, Bool.not_eq_true', okay]

theorem Dev.writeLaneCfg_refused (hn : n < 96) (ha : laneCfgAllowed (getF data 4 2) (getF data 0 3) = false) :
    d.writeLaneCfg n data = (d.raise (F.laneSdsStatCfgErr.lane n), .slverr) := by
  rw [d.writeLaneCfg_port hn, if_pos ha]

theorem Dev.writeLaneCfg_locked (hn : n < 96) (ha : laneCfgAllowed (getF data 4 2) (getF data 0 3) = true)
    (he : 2 ≤ d.eff (lanePage n)) : d.writeLaneCfg n data = (d, .okay) := by
  have hlt : d.eff (lanePage n) < 2 ^ 2 := d.get_lt (F.hdrEffState.page (lanePage n))
  have heff : d.eff (lanePage n) = 2 ∨ d.eff (lanePage n) = 3 := by omega
  rw [d.writeLaneCfg_port hn, if_neg (Bool.not_eq_false _ ▸ ha), if_pos (heff.imp_right Or.inl)]

/-- An allowed pair on a lane that is OFF or in PREPARE: the register shows it, and beside it the Groomer alone may change. -/
theorem Dev.writeLaneCfg_taken (hn : n < 96) (ha : laneCfgAllowed (getF data 4 2) (getF data 0 3) = true)
    (he : d.eff (lanePage n) < 2) :
    ∃ e, d.writeLaneCfg n data = (e, .okay) ∧ e.lanes = d.lanes ∧ e.word (laneAddr n Reg.laneCfg) = data &&& 0x37
      ∧ ∀ a, inGroomerPage a = false → a ≠ laneAddr n Reg.laneCfg → e.word a = d.word a := by
  rw [d.writeLaneCfg_port hn, if_neg (Bool.not_eq_false _ ▸ ha)]
  by_cases hold : data &&& 0x37 = d.word (laneAddr n Reg.laneCfg)
  · rw [if_pos (.inr (.inr hold))]
    exact ⟨d, rfl, rfl, hold.symm, fun _ _ _ => rfl⟩
  · rw [if_neg (not_or.mpr ⟨by omega, not_or.mpr ⟨by omega, hold⟩⟩)]
    have hgrm := (Dev.GroomerOnly.refl (d.setWord (laneAddr n Reg.laneCfg) (data &&& 0x37))).structureChange
    refine ⟨_, rfl, hgrm.lanes.trans (d.setWord_lanes _ _), ?_, fun a ha hne => ?_⟩
    · exact (hgrm.word (inGroomerPage_laneAddr n Reg.laneCfg)).trans (d.word_setWord_same _ _)
    · exact (hgrm.word ha).trans (d.word_setWord_other _ hne)

end

section
variable (m : Master) (lane : Lane) (data : W32) (s : State) (hw : s.mayWrite m.val (laneAddr lane Reg.laneCfg))

include hw

theorem laneCfgWrite_refused (hn : lane.val < 96) (ha : laneCfgAllowed (getF data 4 2) (getF data 0 3) = false) :
    ∃ t, exec (.laneCfgWrite m lane data) s = .next t ∧ AnsweredWords m.val .slverr [laneAddr lane Reg.laneSdsStat] s t
      ∧ t.dev.on (F.laneSdsStatCfgErr.lane lane) = true := by
  have hop := s.dev.writeLaneCfg_refused hn ha
  refine ⟨_, exec_laneCfgWrite m lane data s, answeredWords_write hw hop
    ((Dev.WordsOnly.refl _ _).put (f := F.laneSdsStatCfgErr.lane lane) (List.mem_singleton_self _) 1), ?_⟩
  have hon := s.dev.on_lane_raise lane (f := F.laneSdsStatCfgErr) (by decide) (by decide)
  rw [Dev.on, Dev.write_ok_get hw, hop]
  exact hon

/-- A write that the lane's configuration does not follow: it is answered OK. -/
theorem laneCfgWrite_ignored (hop : s.dev.writeLaneCfg lane data = (s.dev, .okay)) :
    ∃ t, exec (.laneCfgWrite m lane data) s = .next t ∧ AnsweredWords m.val .okay [] s t :=
  ⟨_, exec_laneCfgWrite m lane data s, answeredWords_write hw hop (Dev.WordsOnly.refl _ _)⟩

theorem laneCfgWrite_taken (hn : lane.val < 96) (ha : laneCfgAllowed (getF data 4 2) (getF data 0 3) = true)
    (he : s.dev.eff (lanePage lane) < 2) :
    ∃ t, exec (.laneCfgWrite m lane data) s = .next t ∧ (t.dev.replyTo m.val).resp = .okay
      ∧ t.dev.get ⟨laneAddr lane Reg.laneCfg, 4, 2⟩ = getF data 4 2 ∧ t.dev.get ⟨laneAddr lane Reg.laneCfg, 0, 3⟩ = getF data 0 3
      ∧ (∀ n, t.dev.lane n = s.dev.lane n) ∧ t.mem = s.mem ∧ t.flash = s.flash
      ∧ ∀ n o, n < 104 → o < 0x1_0000 → laneAddr n o ≠ laneAddr lane Reg.laneCfg →
          t.dev.word (laneAddr n o) = s.dev.word (laneAddr n o) := by
  obtain ⟨e, hop, hlanes, hcfg, hother⟩ := s.dev.writeLaneCfg_taken hn ha he
  obtain ⟨-, hreply, -⟩ := Dev.write_ok (op := fun d => d.writeLaneCfg lane data) hw
  have hget := Dev.write_ok_get (op := fun d => d.writeLaneCfg lane data) hw
  have hword := Dev.write_ok_word (op := fun d => d.writeLaneCfg lane data) hw
  have hlane := Dev.write_ok_lane (op := fun d => d.writeLaneCfg lane data) hw
  simp only [hop] at hreply hget hword hlane
  refine ⟨_, exec_laneCfgWrite m lane data s, hreply, (hget _).trans ?_, (hget _).trans ?_, fun n => (hlane n).trans ?_, rfl, rfl,
    fun n o _ _ hne => (hword _).trans (hother _ (inGroomerPage_laneAddr n o) hne)⟩
  · rw [Dev.get, hcfg, getF_laneCfg_type]
  · rw [Dev.get, hcfg, getF_laneCfg_rate]
  · rw [Dev.lane, hlanes, Dev.lane]

end

/-- Settles O13, by the four cases of a write of `LANE.CFG`: refused, locked, taken, and a mate lane. -/
theorem laneCfgWrite : Obligations.LaneCfgWrite := by
  unfold Obligations.LaneCfgWrite
  intro m lane data s hw
  exact ⟨laneCfgWrite_refused m lane data s hw,
    fun hn ha he => laneCfgWrite_ignored m lane data s hw (s.dev.writeLaneCfg_locked hn ha he),
    laneCfgWrite_taken m lane data s hw,
    fun hn => laneCfgWrite_ignored m lane data s hw (s.dev.writeLaneCfg_mate hn)⟩

/-- Settles O16, by the word of `LANE.EYE` after a scan and the clipped word of `LANE.TXEQ`. -/
theorem eyeAndEqualizer : Obligations.EyeAndEqualizer := by
  unfold Obligations.EyeAndEqualizer
  intro lane s
  exact ⟨eyeScan_replacesEye lane s, txeqWrite_clipsMain lane s⟩

end Sys2Proof.Machine

/-! Defects of a lane and what follows of them: the status registers of every lane through a change of a defect (R421) and through its
consequent actions (R170 to R172, R283), with loss of signal and of frame (R116, R380). -/

namespace Sys2Proof.Machine

/-! Updates that leave the registers alone -/

theorem Dev.get_of_words {d e : Dev} (h : e.words = d.words) (f : Field) : e.get f = d.get f := by
  rw [Dev.get, Dev.word, h, ← Dev.word, ← Dev.get]

section
variable (d : Dev)

@[simp] theorem Dev.count_words (k i c n : Nat) : (d.count k i c n).words = d.words := by
  unfold Dev.count
  split
  · rfl
  · cases bwObject k c with
    | none => rfl
    | some o => dsimp only; split <;> rfl

@[simp] theorem Dev.markLane_words (n : Nat) : (d.markLane n).words = d.words := by
  unfold Dev.markLane
  split <;> simp

theorem Dev.note_words (kind key : Nat) : (d.note kind key).words = d.words := by rw [d.note_frame kind key]

theorem Dev.noteOnset_words (kind key : Nat) (p q : ProtSt) : (d.noteOnset kind key p q).words = d.words :=
  Dev.when_ind (P := fun e => e.words = d.words) rfl fun _ => d.note_words kind key

theorem Dev.foldl_words {α : Type} (l : List α) {g : Dev → α → Dev} (h : ∀ e i, (g e i).words = e.words) :
    (l.foldl g d).words = d.words :=
  List.foldlRecOn (motive := fun e => e.words = d.words) l g rfl fun e he i _ => (h e i).trans he

/-- What protection notes of the conditions is held beside the registers. -/
@[simp] theorem Dev.protSee_words : d.protSee.words = d.words := by
  rw [Dev.protSee, Dev.foldl_words, Dev.foldl_words]
  · exact fun e g => (Dev.noteOnset_words ..).trans rfl
  · exact fun e i => (Dev.noteOnset_words ..).trans rfl

end

/-! A defect takes a value (R421) -/

/-- The bit of a defect in `LANE.DEF_STAT` and that in `LANE.DEF_EVT`, within a lane's page. -/
def defStatField (bit : Nat) : Field := ⟨Reg.laneDefStat, bit, 1⟩
def defEvtField (bit : Nat) : Field := ⟨Reg.laneDefEvt, bit, 1⟩

theorem Dev.defect_eq_on_defStat (d : Dev) (n bit : Nat) : d.defect n bit = d.on ((defStatField bit).lane n) := rfl

/-- The registers after a change of a defect. -/
theorem Dev.setDefect_words {d : Dev} {n bit : Nat} {v : Bool} (h : d.defect n bit ≠ v) :
    (d.setDefect n bit v).words = ((d.put ((defStatField bit).lane n) (bitOf v)).raise ((defEvtField bit).lane n)).words := by
  rw [Dev.setDefect, if_neg h, Dev.protSee_words, Dev.markLane_words]
  rfl

theorem Dev.setDefect_of_eq {d : Dev} {n bit : Nat} {v : Bool} (h : d.defect n bit = v) : d.setDefect n bit v = d := if_pos h

theorem Dev.on_put_bitOf (d : Dev) (f : Field) (v : Bool) (h : f.lo < 32) (h1 : f.len = 1) : (d.put f (bitOf v)).on f = v := by
  rw [Dev.on, d.get_put_same f _ (by omega), h1]
  cases v <;> rfl

theorem Dev.defect_setDefect_same (d : Dev) (n : Nat) {bit : Nat} (v : Bool) (h : bit < 32) :
    (d.setDefect n bit v).defect n bit = v := by
  by_cases hold : d.defect n bit = v
  · rw [Dev.setDefect_of_eq hold, hold]
  · have hfar : (defStatField bit).off ≠ (defEvtField bit).off := (by decide : Reg.laneDefStat ≠ Reg.laneDefEvt)
    rw [Dev.defect_eq_on_defStat, Dev.on, Dev.get_of_words (Dev.setDefect_words hold), Dev.raise,
      Dev.get_lane_put_apart _ _ _ (.inl hfar)]
    exact d.on_put_bitOf _ v h rfl

theorem Dev.on_defEvt_setDefect {d : Dev} {n bit : Nat} {v : Bool} (hv : d.defect n bit ≠ v) (h : bit < 32) :
    (d.setDefect n bit v).on ((defEvtField bit).lane n) = true := by
  rw [Dev.on, Dev.get_of_words (Dev.setDefect_words hv)]
  exact Dev.on_lane_raise _ n (f := defEvtField bit) h (Nat.le_refl 1)

/-! The status registers of every lane -/

/-- The registers of a lane's page that show its signal, its alignment and its defects. -/
def laneStatusRegs : List Nat := [Reg.laneSdsStat, Reg.laneSvStat, Reg.laneDefStat, Reg.laneDefEvt]

/-- Two fields of a page are of different registers, or do not overlap in one. -/
def Field.apart (f g : Field) : Bool :=
  decide (g.off ≠ f.off ∨ (f.lo + f.len ≤ 32 ∧ g.lo + g.len ≤ 32 ∧ (g.lo + g.len ≤ f.lo ∨ f.lo + f.len ≤ g.lo)))

/-- `e` shows the status of every lane as `d` does, but for the fields of `l` on lane `n`. -/
def Dev.StatusBut (n : Nat) (l : List Field) (d e : Dev) : Prop :=
  ∀ (q : Nat) (f : Field), f.off ∈ laneStatusRegs → q ≠ n ∨ (∀ g ∈ l, g.apart f = true) → e.get (f.lane q) = d.get (f.lane q)

/-- What a change of defect `bit` writes. -/
def defectFields (bit : Nat) : List Field := [defStatField bit, defEvtField bit]

/-- Registers at different places of their pages, or of different lanes. -/
theorem laneAddr_ne {q p o r : Nat} (ho : o < 0x1_0000) (hr : r < 0x1_0000) (h : q ≠ p ∨ o ≠ r) : laneAddr q o ≠ laneAddr p r := by
  unfold laneAddr
  omega

theorem laneStatusRegs_lt {o : Nat} (h : o ∈ laneStatusRegs) : o < 0x1_0000 :=
  (by decide : ∀ r ∈ laneStatusRegs, r < 0x1_0000) o h

namespace Dev.StatusBut

variable {n : Nat} {l : List Field} {d e : Dev}

theorem refl (n : Nat) (l : List Field) (d : Dev) : d.StatusBut n l d := fun _ _ _ _ => rfl

theorem of_words (h : d.StatusBut n l e) {x : Dev} (hx : x.words = e.words) : d.StatusBut n l x :=
  fun q f hf hq => (Dev.get_of_words hx _).trans (h q f hf hq)

/-- A field of `l` on lane `n` is written. -/
theorem put (h : d.StatusBut n l e) {g : Field} (hg : g ∈ l) (hoff : g.off < 0x1_0000) (v : Nat) :
    d.StatusBut n l (e.put (g.lane n) v) := by
  refine fun q f hf hq => Eq.trans ?_ (h q f hf hq)
  by_cases hqn : q = n
  · subst hqn
    have hapart : g.apart f = true := (hq.resolve_left fun hne => hne rfl) g hg
    exact e.get_lane_put_apart q v (of_decide_eq_true hapart)
  · exact e.get_put_far v (laneAddr_ne (laneStatusRegs_lt hf) hoff (.inl hqn))

/-- A register of a lane that is none of its status is written. -/
theorem putLane (h : d.StatusBut n l e) {g : Field} (hg : g.off < 0x1_0000 ∧ g.off ∉ laneStatusRegs) (p v : Nat) :
    d.StatusBut n l (e.put (g.lane p) v) := by
  refine fun q f hf hq => Eq.trans ?_ (h q f hf hq)
  exact e.get_put_far v (laneAddr_ne (laneStatusRegs_lt hf) hg.1 (.inr fun heq => hg.2 (heq ▸ hf)))

/-- A register below the lanes' pages is written. -/
theorem putUnit (h : d.StatusBut n l e) {g : Field} (hg : g.off < laneAddr 0 0) (v : Nat) : d.StatusBut n l (e.put g v) := by
  refine fun q f hf hq => Eq.trans ?_ (h q f hf hq)
  refine e.get_put_far v (Nat.ne_of_gt (Nat.lt_of_lt_of_le hg ?_))
  rw [Field.lane_off, laneAddr, laneAddr]
  omega

theorem setDefect (h : d.StatusBut n l e) {bit : Nat} (hl : ∀ g ∈ defectFields bit, g ∈ l) (v : Bool) :
    d.StatusBut n l (e.setDefect n bit v) := by
  by_cases hold : e.defect n bit = v
  · rwa [Dev.setDefect_of_eq hold]
  · have hstat : defStatField bit ∈ l := hl _ (List.mem_cons_self ..)
    have hevt : defEvtField bit ∈ l := hl _ (List.mem_cons_of_mem _ (List.mem_singleton_self _))
    exact ((h.put hstat (by decide : Reg.laneDefStat < _) _).put hevt (by decide : Reg.laneDefEvt < _) 1).of_words
      (Dev.setDefect_words hold)

/-! The consequent actions -/

theorem setTu (h : d.StatusBut n l e) (p : Nat) (t : TuRx) : d.StatusBut n l (e.setTu p t) := h.of_words rfl

theorem setLane (h : d.StatusBut n l e) (p : Nat) (x : LaneSt) : d.StatusBut n l (e.setLane p x) := h.of_words rfl

theorem psqNote (h : d.StatusBut n l e) : d.StatusBut n l e.psqNote :=
  (((h.putUnit (g := F.psqCountL2fBytes) (by decide) _).putUnit (g := F.psqCountF2lBytes) (by decide) _).putUnit
    (g := F.psqPeakL2fBytes) (by decide) _).putUnit (g := F.psqPeakF2lBytes) (by decide) _

theorem rewind (h : d.StatusBut n l e) (p : Nat) : d.StatusBut n l (e.rewind p) := by
  rw [Dev.rewind]
  split
  · have hroll := (h.setTu p { e.tu p with pkt := none }).putLane (g := F.laneTuPktbadCount) (by decide) p
    exact ((hroll _).of_words (Dev.count_words ..)).psqNote
  · exact h

theorem aisFrom (h : d.StatusBut n l e) (q : Nat) : d.StatusBut n l (e.aisFrom q) := h.of_words rfl

theorem lineUpdate (h : d.StatusBut n l e) (p : Nat) : d.StatusBut n l (e.lineUpdate p) :=
  Dev.when_ind h fun _ => (h.putLane (g := F.laneSohStatAisDs) (by decide) p 1).aisFrom p

theorem strUpdate (h : d.StatusBut n l e) (p : Nat) : d.StatusBut n l (e.strUpdate p) := by
  unfold Dev.strUpdate
  extract_lets q a b st t d1
  have hstate : d.StatusBut n l d1 := h.putLane (g := F.laneTuStrstatState) (by decide) p st
  split
  · exact Dev.when_ind (hstate.setTu p _) fun _ => ((hstate.setTu p _).rewind p).aisFrom p
  · split
    · exact hstate
    · exact hstate.setTu p _

/-- R171, R172, R281, R283: what follows of a change of a lane's defects or alignment leaves the status of every lane. -/
theorem laneUpdate (h : d.StatusBut n l e) (p : Nat) : d.StatusBut n l (e.laneUpdate p) := by
  unfold Dev.laneUpdate
  split
  · exact h.lineUpdate p
  · split
    · exact h
    · cases e.pairOf p with
      | some r => exact h.strUpdate r
      | none => exact Dev.when_ind h fun _ => (h.rewind p).aisFrom p

/-- R382, R390: while B2 is not compared SD and SF alone change. -/
theorem b2Pause (h : d.StatusBut n l e) (hsd : ∀ g ∈ defectFields defSd, g ∈ l) (hsf : ∀ g ∈ defectFields defSf, g ∈ l) :
    d.StatusBut n l (e.b2Pause n) := by
  unfold Dev.b2Pause
  extract_lets s
  have hest : d.StatusBut n l (((e.setSoh n { s with exc := 0, noExc := 0 }).estClear (estKeyLane n 0)).estClear (estKeyLane n 1)) :=
    h.of_words rfl
  exact (hest.setDefect hsd false).setDefect hsf false

/-! What the statuses show -/

theorem on (h : d.StatusBut n l e) {f : Field} (hf : f.off ∈ laneStatusRegs) (hl : ∀ g ∈ l, g.apart f = true) :
    e.on (f.lane n) = d.on (f.lane n) := by
  rw [Dev.on, h n f hf (.inr hl), Dev.on]

/-- The defects of the other lanes stay. -/
theorem others (h : d.StatusBut n l e) {m : Nat} : ∀ q b, q < m → q ≠ n → b < 32 → e.defect q b = d.defect q b := by
  intro q b _ hq _
  rw [Dev.defect_eq_on_defStat, Dev.on, h q (defStatField b) (by decide : Reg.laneDefStat ∈ laneStatusRegs) (.inl hq)]
  rfl

end Dev.StatusBut

/-! Loss of signal (R380) -/

/-- LOS of lane `n` begins; `sigDet` is the signal detector's level. -/
def Dev.losBegin (d : Dev) (n : Nat) (sigDet : Bool) : Dev :=
  let l := d.lane n
  let own := l.soh.hold
  ((d.put (F.laneSdsStatSigDet.lane n) (bitOf sigDet)).setLane n
    { l with soh := { own with b1Own := l.soh.b1Own, b2Own := l.soh.b2Own } }).setDefect n defLos true

/-- What follows of it: on a LINE lane B2 is not compared. -/
def Dev.losFollow (d : Dev) (n : Nat) (line : Bool) : Dev := (if line then d.b2Pause n else d).laneUpdate n

/-- LOS of lane `n` ends. -/
def Dev.losEnd (d : Dev) (n : Nat) : Dev := (d.raise (F.laneSdsStatSigDet.lane n)).setDefect n defLos false

/-- The fields of a lane that its loss of signal writes, and those that follow of it. -/
def losFields : List Field := F.laneSdsStatSigDet :: defectFields defLos
def b2Fields : List Field := defectFields defSd ++ defectFields defSf

theorem exec_losDeclare {lane : Lane} {ns : Nat} {sig : Bool} {s : State} (hns : 20000 ≤ ns) (hlos : s.dev.defect lane defLos = false)
    (hloop : s.dev.nearLoop lane = false) :
    exec (.losDeclare lane ns sig) s
      = .next { s with dev := (s.dev.losBegin lane sig).losFollow lane (s.dev.lane lane).isLine } := by
  have hok : (decide (20000 ≤ ns) && !s.dev.defect lane defLos && !s.dev.nearLoop lane) = true := by simp [hns, hlos, hloop]
  change execLosDeclare lane ns sig s = _
  rw [execLosDeclare, hok]
  rfl

theorem exec_losClear {lane : Lane} {ns : Nat} {s : State} (hns : 125000 ≤ ns) (hlos : s.dev.defect lane defLos = true) :
    exec (.losClear lane ns) s = .next { s with dev := (s.dev.losEnd lane).laneUpdate lane } := by
  have hok : (decide (125000 ≤ ns) && s.dev.defect lane defLos) = true := by simp [hns, hlos]
  change execLosClear lane ns s = _
  rw [execLosClear, hok]
  rfl

section
variable {n : Nat} {l : List Field} {d e : Dev}

theorem Dev.StatusBut.losBegin (h : d.StatusBut n l e) (hl : losFields ⊆ l) (sig : Bool) : d.StatusBut n l (e.losBegin n sig) := by
  have hput := h.put (hl (List.mem_cons_self ..)) (by decide : F.laneSdsStatSigDet.off < _) (bitOf sig)
  unfold Dev.losBegin
  exact (hput.setLane n _).setDefect (fun _ hg => hl (List.mem_cons_of_mem _ hg)) true

theorem Dev.StatusBut.losFollow (h : d.StatusBut n l e) (hl : b2Fields ⊆ l) (line : Bool) : d.StatusBut n l (e.losFollow n line) := by
  have hpause := h.b2Pause (fun _ hg => hl (List.mem_append_left _ hg)) (fun _ hg => hl (List.mem_append_right _ hg))
  cases line with
  | true => exact hpause.laneUpdate n
  | false => exact h.laneUpdate n

theorem Dev.StatusBut.losEnd (h : d.StatusBut n l e) (hl : losFields ⊆ l) : d.StatusBut n l (e.losEnd n) :=
  (h.put (hl (List.mem_cons_self ..)) (by decide : F.laneSdsStatSigDet.off < _) 1).setDefect
    (fun _ hg => hl (List.mem_cons_of_mem _ hg)) false

/-- The signal detector's bit through a change of LOS. -/
theorem Dev.sigDet_setDefect_los (d : Dev) (n : Nat) (v : Bool) :
    (d.setDefect n defLos v).on (F.laneSdsStatSigDet.lane n) = d.on (F.laneSdsStatSigDet.lane n) :=
  ((Dev.StatusBut.refl n (defectFields defLos) d).setDefect (fun _ hg => hg) v).on (by decide) (by decide)

/-- LOS through a write of the signal detector's bit. -/
theorem Dev.defect_put_sigDet (d : Dev) (n v : Nat) :
    (d.put (F.laneSdsStatSigDet.lane n) v).defect n defLos = d.defect n defLos :=
  ((Dev.StatusBut.refl n [F.laneSdsStatSigDet] d).put (List.mem_cons_self ..) (by decide) v).on (f := defStatField defLos) (by decide) (by decide)

end

theorem losDeclare_declares (lane : Lane) (ns : Nat) (sig : Bool) (s : State) (hns : 20000 ≤ ns)
    (hlos : s.dev.defect lane defLos = false) (hloop : s.dev.nearLoop lane = false) :
    ∃ t, exec (.losDeclare lane ns sig) s = .next t ∧ t.dev.defect lane defLos = true
      ∧ t.dev.on ⟨laneAddr lane Reg.laneDefEvt, defLos, 1⟩ = true ∧ t.dev.on (F.laneSdsStatSigDet.lane lane) = sig
      ∧ (∀ n b, n < 104 → n ≠ lane.val → b < 32 → t.dev.defect n b = s.dev.defect n b) ∧ t.mem = s.mem ∧ t.flash = s.flash := by
  have hfollow := (Dev.StatusBut.refl lane b2Fields (s.dev.losBegin lane sig)).losFollow (fun _ hg => hg) (s.dev.lane lane).isLine
  have hwhole := ((Dev.StatusBut.refl lane (losFields ++ b2Fields) s.dev).losBegin (List.subset_append_left _ _) sig).losFollow
    (List.subset_append_right _ _) (s.dev.lane lane).isLine
  refine ⟨_, exec_losDeclare hns hlos hloop, ?_, ?_, ?_, hwhole.others, rfl, rfl⟩
  · exact (hfollow.on (f := defStatField defLos) (by decide) (by decide)).trans (Dev.defect_setDefect_same _ _ true (by decide))
  · refine (hfollow.on (f := defEvtField defLos) (by decide) (by decide)).trans (Dev.on_defEvt_setDefect ?_ (by decide))
    rw [Dev.defect, Dev.setLane_on, ← Dev.defect, Dev.defect_put_sigDet, hlos]
    exact Bool.false_ne_true
  · refine (hfollow.on (f := F.laneSdsStatSigDet) (by decide) (by decide)).trans ((Dev.sigDet_setDefect_los ..).trans ?_)
    rw [Dev.setLane_on]
    exact s.dev.on_put_bitOf _ sig (by decide : F.laneSdsStatSigDet.lo < 32) rfl

theorem losClear_clears (lane : Lane) (ns : Nat) (s : State) (hns : 125000 ≤ ns) (hlos : s.dev.defect lane defLos = true) :
    ∃ t, exec (.losClear lane ns) s = .next t ∧ t.dev.defect lane defLos = false
      ∧ t.dev.on ⟨laneAddr lane Reg.laneDefEvt, defLos, 1⟩ = true ∧ t.dev.on (F.laneSdsStatSigDet.lane lane) = true
      ∧ (∀ n b, n < 104 → n ≠ lane.val → b < 32 → t.dev.defect n b = s.dev.defect n b) ∧ t.mem = s.mem ∧ t.flash = s.flash := by
  have hfollow := (Dev.StatusBut.refl lane [] (s.dev.losEnd lane)).laneUpdate lane
  have hwhole := ((Dev.StatusBut.refl lane losFields s.dev).losEnd (fun _ hg => hg)).laneUpdate lane
  refine ⟨_, exec_losClear hns hlos, ?_, ?_, ?_, hwhole.others, rfl, rfl⟩
  · exact (hfollow.on (f := defStatField defLos) (by decide) (by decide)).trans (Dev.defect_setDefect_same _ _ false (by decide))
  · refine (hfollow.on (f := defEvtField defLos) (by decide) (by decide)).trans (Dev.on_defEvt_setDefect ?_ (by decide))
    rw [Dev.raise, Dev.defect_put_sigDet, hlos]
    exact fun h => Bool.false_ne_true h.symm
  · refine (hfollow.on (f := F.laneSdsStatSigDet) (by decide) (by decide)).trans ((Dev.sigDet_setDefect_los ..).trans ?_)
    exact s.dev.on_lane_raise lane (f := F.laneSdsStatSigDet) (by decide) (by decide)

/-! Loss of frame (R116) -/

theorem exec_lof {n : PortLane} {since : Nat} {s : State} (hline : (s.dev.lane n).isLine = true) (hnow : since + 1866240 ≤ s.dev.now)
    (hoof : (s.dev.lane n).oofSince = some since) : exec (.lof n) s = .next { s with dev := s.dev.setLof n true } := by
  have hdue : decide (since + lofTicks ≤ s.dev.now) = true := decide_eq_true hnow
  change execLof n s = _
  simp only [execLof, hline, hoof, hdue, Bool.and_self]
  rfl

theorem exec_lofClear {n : PortLane} {since : Nat} {s : State} (hline : (s.dev.lane n).isLine = true)
    (hnow : since + 1866240 ≤ s.dev.now) (hin : (s.dev.lane n).inFrameSince = some since) :
    exec (.lofClear n) s = .next { s with dev := s.dev.setLof n false } := by
  have hdue : decide (since + lofTicks ≤ s.dev.now) = true := decide_eq_true hnow
  change execLofClear n s = _
  simp only [execLofClear, hline, hin, hdue, Bool.and_self]
  rfl

section
variable (d : Dev) (n : Nat) (v : Bool)

/-- The fields of a lane that its loss of frame writes. -/
def lofFields : List Field := F.laneSvStatLof :: defectFields defLof

theorem Dev.setLof_statusBut : d.StatusBut n lofFields (d.setLof n v) :=
  have hput := (Dev.StatusBut.refl n lofFields d).put (List.mem_cons_self ..) (by decide) (bitOf v)
  (hput.setDefect (fun _ hg => List.mem_cons_of_mem _ hg) v).laneUpdate n

theorem Dev.defect_setLof : (d.setLof n v).defect n defLof = v :=
  (((Dev.StatusBut.refl n [] _).laneUpdate n).on (f := defStatField defLof) (by decide) (by decide)).trans
    (Dev.defect_setDefect_same _ n v (by decide))

theorem Dev.svStatLof_setLof : (d.setLof n v).on (F.laneSvStatLof.lane n) = v :=
  (((((Dev.StatusBut.refl n (defectFields defLof) _).setDefect (fun _ hg => hg) v).laneUpdate n).on (f := F.laneSvStatLof)
    (by decide) (by decide))).trans (d.on_put_bitOf _ v (by decide : F.laneSvStatLof.lo < 32) rfl)

end

section
variable {n : PortLane} {since : Nat} {s : State} (hline : (s.dev.lane n).isLine = true) (hnow : since + 1866240 ≤ s.dev.now)

include hline hnow

theorem lof_declares (hoof : (s.dev.lane n).oofSince = some since) :
    ∃ t, exec (.lof n) s = .next t ∧ t.dev.defect n defLof = true ∧ t.dev.on (F.laneSvStatLof.lane n) = true
      ∧ (∀ q b, q < 104 → q ≠ n.val → b < 32 → t.dev.defect q b = s.dev.defect q b) ∧ t.mem = s.mem ∧ t.flash = s.flash :=
  ⟨_, exec_lof hline hnow hoof, s.dev.defect_setLof n true, s.dev.svStatLof_setLof n true,
    (s.dev.setLof_statusBut n true).others, rfl, rfl⟩

theorem lofClear_clears (hin : (s.dev.lane n).inFrameSince = some since) :
    ∃ t, exec (.lofClear n) s = .next t ∧ t.dev.defect n defLof = false ∧ t.dev.on (F.laneSvStatLof.lane n) = false
      ∧ (∀ q b, q < 104 → q ≠ n.val → b < 32 → t.dev.defect q b = s.dev.defect q b) ∧ t.mem = s.mem ∧ t.flash = s.flash :=
  ⟨_, exec_lofClear hline hnow hin, s.dev.defect_setLof n false, s.dev.svStatLof_setLof n false,
    (s.dev.setLof_statusBut n false).others, rfl, rfl⟩

end

/-- Settles O17, by the two commands of loss of signal and the two of loss of frame: what follows of a defect leaves its bits. -/
theorem lossOfSignalAndOfFrame : Obligations.LossOfSignalAndOfFrame := by
  unfold Obligations.LossOfSignalAndOfFrame
  refine ⟨fun lane ns s => ⟨fun sig => losDeclare_declares lane ns sig s, losClear_clears lane ns s⟩,
    fun n since s hline hnow => ⟨lof_declares hline hnow, lofClear_clears hline hnow⟩⟩

end Sys2Proof.Machine

/-! The seizure of the Lid (R467, R468): what its first step and a collision write, and what of the pair's registers and lines a
completed seizure leaves beside the items that it lists (R494) and the change of role (R530). -/

namespace Sys2Proof.Machine

/-! Reading a field beside those that a step of the Lid writes -/

theorem Dev.get_put_of_apart (d : Dev) {f g : Field} (v : Nat) (h : f.apart g = true) : (d.put f v).get g = d.get g :=
  d.get_put_apart v (of_decide_eq_true h)

theorem Dev.get_mateBit (d : Dev) {f e g : Field} (v : Bool) (hf : f.apart g = true) (he : e.apart g = true) :
    (d.mateBit f e v).get g = d.get g := by
  unfold Dev.mateBit
  split
  · rfl
  · rw [Dev.raise, Dev.get_put_of_apart _ _ he, Dev.get_put_of_apart _ _ hf]

theorem Dev.get_seeLid (d : Dev) {g : Field} (a b : Bool) (h0 : F.mateStatLid0.apart g = true) (h1 : F.mateStatLid1.apart g = true) :
    (d.seeLid a b).get g = d.get g := by
  rw [Dev.seeLid, Dev.get_put_of_apart _ _ h1, Dev.get_put_of_apart _ _ h0]

theorem Dev.seeLid_lid0 (d : Dev) (a b : Bool) : (d.seeLid a b).on F.mateStatLid0 = a := by
  rw [Dev.seeLid, Dev.on, Dev.get_put_of_apart _ _ (by decide), ← Dev.on]
  exact d.on_put_bitOf F.mateStatLid0 a (by decide) rfl

theorem Dev.seeLid_lid1 (d : Dev) (a b : Bool) : (d.seeLid a b).on F.mateStatLid1 = b :=
  Dev.on_put_bitOf _ F.mateStatLid1 b (by decide) rfl

@[simp] theorem Dev.mateBit_mate (d : Dev) (f e : Field) (v : Bool) : (d.mateBit f e v).mate = d.mate := by
  unfold Dev.mateBit
  split
  · rfl
  · simp [Dev.raise]

@[simp] theorem Dev.seeLid_mate (d : Dev) (a b : Bool) : (d.seeLid a b).mate = d.mate := by simp [Dev.seeLid]

/-! Updates of the pair's state and of words -/

/-- What a device that took the mate state `m` and then wrote words at the addresses of `l` keeps of the state it comes from. -/
theorem Dev.WordsOnly.afterSetMate {l : List Nat} {s : State} {m : Mate} {e : Dev} (h : Dev.WordsOnly l (s.dev.setMate m) e) :
    e.mate = m ∧ Dev.WordsBut l s.dev e
      ∧ ({ s with dev := e } : State) = { s with dev := { s.dev with words := e.words, mate := e.mate } } := by
  obtain ⟨hframe, hwords⟩ := h
  have hmate : e.mate = m := by rw [hframe]; rfl
  refine ⟨hmate, hwords, congrArg (fun d => ({ s with dev := d } : State)) ?_⟩
  rw [hmate]
  exact hframe

/-! The first step of a seizure -/

/-- The pair's state once the first line is driven. -/
def Dev.seizingMate (d : Dev) : Mate := { d.mate with seizing := some d.now, drive0 := !d.slotB, drive1 := d.slotB }

/-- The device once its first line is driven. -/
def Dev.firstDriven (d : Dev) : Dev := (d.setMate d.seizingMate).seeLid d.slotB (!d.slotB)

theorem exec_lidSeizure {s : State} {ns : Nat} (hmay : s.dev.maySeize = true) (hheld : s.dev.holdoffNs ≤ ns) :
    exec (.lidSeizure ns) s = .next { s with dev := s.dev.firstDriven } := by
  change execLidSeizure ns s = _
  rw [execLidSeizure, hmay, decide_eq_true hheld]
  rfl

theorem Dev.firstDriven_wordsOnly (d : Dev) : Dev.WordsOnly [Reg.mateStat] (d.setMate d.seizingMate) d.firstDriven :=
  have hmem : Reg.mateStat ∈ [Reg.mateStat] := List.mem_singleton_self _
  ((Dev.WordsOnly.refl _ _).put (f := F.mateStatLid0) hmem _).put (f := F.mateStatLid1) hmem _

theorem lidSeizure_drivesFirstLine (s : State) (ns : Nat) (hmay : s.dev.maySeize = true) (hheld : s.dev.holdoffNs ≤ ns) :
    ∃ t, exec (.lidSeizure ns) s = .next t
      ∧ t.dev.mate = { s.dev.mate with seizing := some s.dev.now, drive0 := !s.dev.slotB, drive1 := s.dev.slotB }
      ∧ t.dev.on F.mateStatLid0 = s.dev.slotB ∧ t.dev.on F.mateStatLid1 = !s.dev.slotB
      ∧ Dev.WordsBut [Reg.mateStat] s.dev t.dev
      ∧ t = { s with dev := { s.dev with words := t.dev.words, mate := t.dev.mate } } := by
  obtain ⟨hmate, hwords, hframe⟩ := s.dev.firstDriven_wordsOnly.afterSetMate
  exact ⟨_, exec_lidSeizure hmay hheld, hmate, Dev.seeLid_lid0 .., Dev.seeLid_lid1 .., hwords, hframe⟩

/-! The sample of the other line -/

/-- The device of slot B after a collision. -/
def Dev.collided (d : Dev) : Dev := (d.dropLine.lower F.mateStatLid0).roll F.mateCollideCount 1

section
variable {s : State} {other : Bool} {since : Nat} (hsince : s.dev.mate.seizing = some since) (hdue : since + 12442 ≤ s.dev.now)

include hsince hdue

/-- The sample of the other line in a seizure that is 20 µs old. -/
theorem exec_lidSample :
    exec (.lidSample other) s = .next { s with dev := if other || !s.dev.slotB then s.dev.seize else s.dev.collided } := by
  have hpast : ¬ s.dev.now < since + usTicks 20 := Nat.not_lt.mpr hdue
  change execLidSample other s = _
  simp only [execLidSample, hsince, if_neg hpast, Dev.collided]

theorem exec_lidSample_seizes (h : other = true ∨ s.dev.slotB = false) :
    exec (.lidSample other) s = .next { s with dev := s.dev.seize } := by
  have hwins : (other || !s.dev.slotB) = true := by simpa using h
  rw [exec_lidSample hsince hdue, if_pos hwins]

theorem exec_lidSample_collides (ho : other = false) (hslot : s.dev.slotB = true) :
    exec (.lidSample other) s = .next { s with dev := s.dev.collided } := by
  have hloses : ¬ (other || !s.dev.slotB) = true := by simp [ho, hslot]
  rw [exec_lidSample hsince hdue, if_neg hloses]

end

/-! A collision in slot B -/

/-- The pair's state once the seizure has ended and its line is released. -/
def Dev.yieldedMate (d : Dev) : Mate := { d.mate with seizing := none, drive0 := false, drive1 := false }

section
variable (d : Dev) (hslot : d.slotB = true)

include hslot

theorem Dev.collided_eq :
    d.collided = (((d.setMate d.yieldedMate).put F.mateStatLid1 1).put F.mateStatLid0 0).roll F.mateCollideCount 1 := by
  rw [Dev.collided, Dev.dropLine, hslot]
  rfl

theorem Dev.collided_wordsOnly : Dev.WordsOnly [Reg.mateStat, Reg.mateCollide] (d.setMate d.yieldedMate) d.collided := by
  have hstat : Reg.mateStat ∈ [Reg.mateStat, Reg.mateCollide] := List.mem_cons_self ..
  rw [d.collided_eq hslot]
  exact (((Dev.WordsOnly.refl _ _).put (f := F.mateStatLid1) hstat 1).put (f := F.mateStatLid0) hstat 0).put
    (f := F.mateCollideCount) (List.mem_cons_of_mem _ (List.mem_singleton_self _)) _

theorem Dev.collided_role : d.collided.role = d.role := by
  simp (disch := decide) only [d.collided_eq hslot, Dev.role, Dev.roll, Dev.get_put_of_apart, Dev.setMate_get]

theorem Dev.collided_collide : d.collided.get F.mateCollideCount = (d.get F.mateCollideCount + 1) % 2 ^ 32 := by
  simp (disch := decide) only [d.collided_eq hslot, Dev.roll, Dev.get_put_same, Dev.get_put_of_apart, Dev.setMate_get]
  rfl

/-- The mate's line reads low. -/
theorem Dev.collided_lid0 : d.collided.on F.mateStatLid0 = false := by
  simp (disch := decide) only [d.collided_eq hslot, Dev.on, Dev.roll, Dev.get_put_same, Dev.get_put_of_apart]
  rfl

/-- The released line reads high. -/
theorem Dev.collided_lid1 : d.collided.on F.mateStatLid1 = true := by
  simp (disch := decide) only [d.collided_eq hslot, Dev.on, Dev.roll, Dev.get_put_same, Dev.get_put_of_apart]
  rfl

end

theorem lidSample_collides (s : State) (other : Bool) (since : Nat) (hsince : s.dev.mate.seizing = some since)
    (hdue : since + 12442 ≤ s.dev.now) (ho : other = false) (hslot : s.dev.slotB = true) :
    ∃ t, exec (.lidSample other) s = .next t
      ∧ t.dev.mate = { s.dev.mate with seizing := none, drive0 := false, drive1 := false }
      ∧ t.dev.get F.mateCollideCount = (s.dev.get F.mateCollideCount + 1) % 2 ^ 32 ∧ t.dev.role = s.dev.role
      ∧ t.dev.on F.mateStatLid0 = false ∧ t.dev.on F.mateStatLid1 = true
      ∧ Dev.WordsBut [Reg.mateStat, Reg.mateCollide] s.dev t.dev
      ∧ t = { s with dev := { s.dev with words := t.dev.words, mate := t.dev.mate } } := by
  obtain ⟨hmate, hwords, hframe⟩ := (s.dev.collided_wordsOnly hslot).afterSetMate
  exact ⟨_, exec_lidSample_collides hsince hdue ho hslot, hmate, s.dev.collided_collide hslot,
    s.dev.collided_role hslot, s.dev.collided_lid0 hslot, s.dev.collided_lid1 hslot, hwords, hframe⟩

/-! The registers of the pair ahead of the list of items -/

/-- An address of the pair's page ahead of the list of items for re-verification. -/
def inPairRegs (a : Nat) : Bool := decide (pageAddr 0xA 0 ≤ a) && decide (a < Reg.mateReverifyCnt)

theorem inPairRegs_list (n : Nat) : inPairRegs (Reg.mateReverify + n) = false := by
  have hlate : ¬ Reg.mateReverify + n < Reg.mateReverifyCnt :=
    Nat.not_lt.mpr (Nat.le_trans (by decide : Reg.mateReverifyCnt ≤ Reg.mateReverify) (Nat.le_add_right ..))
  rw [inPairRegs, decide_eq_false hlate, Bool.and_false]

/-- `e` shows the pair's registers ahead of the list as `d` does, but for the fields of `l`. -/
def Dev.PairBut (l : List Field) (d e : Dev) : Prop :=
  ∀ g : Field, inPairRegs g.off = true → (∀ f ∈ l, f.apart g = true) → e.get g = d.get g

namespace Dev.PairBut

variable {l : List Field} {d e : Dev}

theorem refl (l : List Field) (d : Dev) : Dev.PairBut l d d := fun _ _ _ => rfl

theorem of_words (h : Dev.PairBut l d e) {e' : Dev} (hw : e'.words = e.words) : Dev.PairBut l d e' :=
  fun g hg hl => (Dev.get_of_words hw g).trans (h g hg hl)

theorem setWordOutside (h : Dev.PairBut l d e) {a : Nat} (ha : inPairRegs a = false) (w : W32) : Dev.PairBut l d (e.setWord a w) := by
  intro g hg hl
  have hne : g.off ≠ a := fun c => by rw [c, ha] at hg; cases hg
  exact (e.get_setWord_far w hne).trans (h g hg hl)

theorem putOutside (h : Dev.PairBut l d e) {f : Field} (hf : inPairRegs f.off = false) (v : Nat) : Dev.PairBut l d (e.put f v) :=
  h.setWordOutside hf _

theorem put (h : Dev.PairBut l d e) {f : Field} (hf : f ∈ l) (v : Nat) : Dev.PairBut l d (e.put f v) :=
  fun g hg hl => (e.get_put_of_apart v (hl f hf)).trans (h g hg hl)

theorem foldl {α : Type} (h : Dev.PairBut l d e) (xs : List α) {u : Dev → α → Dev}
    (hu : ∀ c x, Dev.PairBut l d c → Dev.PairBut l d (u c x)) : Dev.PairBut l d (xs.foldl u e) :=
  List.foldlRecOn (motive := Dev.PairBut l d) xs u h fun c hc x _ => hu c x hc

/-! The list of items (R494) -/

theorem listItem (h : Dev.PairBut l d e) (x : Reverify) : Dev.PairBut l d (e.listItem x) := by
  unfold Dev.listItem
  extract_lets n
  split
  · exact ((h.setWordOutside (inPairRegs_list _) _).setWordOutside (inPairRegs_list (8 * n + 4)) _).putOutside
      (f := F.mateReverifyCntCount) (by decide) _
  · exact h.putOutside (f := F.mateReverifyCntOvf) (by decide) 1

theorem clearList (h : Dev.PairBut l d e) : Dev.PairBut l d e.clearList := by
  unfold Dev.clearList
  refine setWordOutside (Dev.each_ind h fun c i _ hc => ?_) (by decide) 0
  exact hc.setWordOutside (inPairRegs_list _) 0

theorem discardEpoch (h : Dev.PairBut l d e) : Dev.PairBut l d e.discardEpoch := by
  unfold Dev.discardEpoch
  exact (h.of_words (e.setMate_words _)).foldl _ fun _ x hc => hc.listItem x

end Dev.PairBut

/-! A change of role (R530) -/

section
variable (d : Dev) (m : Nat)

theorem Dev.fecSeen_words (a : Nat) (w : Bool) (r : Resp) (b : Nat) : (d.fecSeen m a w r b).words = d.words := by
  rw [d.fecSeen_frame]

theorem Dev.fecSeen_mate (a : Nat) (w : Bool) (r : Resp) (b : Nat) : (d.fecSeen m a w r b).mate = d.mate := by
  rw [d.fecSeen_frame]

theorem Dev.abortRecord_mate (b : Burst) : (d.abortRecord m b).mate = d.mate := by
  rw [Dev.abortRecord, Dev.raise, Dev.put_mate, Dev.roll, Dev.put_mate]
  exact iteInduction (motive := fun e : Dev => e.mate = d.mate) (fun _ => Dev.put_mate ..) (fun _ => by simp [Dev.setAddr])

theorem Dev.abortBurst_mate : (d.abortBurst m).mate = d.mate := by
  rw [Dev.abortBurst]
  refine iteInduction (motive := fun e : Dev => e.mate = d.mate) (fun _ => ?_) (fun _ => rfl)
  rw [Dev.fecSeen_mate, Dev.reply_mate, Dev.abortRecord_mate, Dev.setBurst_mate]

end

namespace Dev.PairBut

variable {l : List Field} {d e : Dev}

theorem abortRecord (h : Dev.PairBut l d e) (m : Nat) (b : Burst) : Dev.PairBut l d (e.abortRecord m b) := by
  rw [Dev.abortRecord]
  refine putOutside (putOutside (iteInduction (fun _ => ?_) (fun _ => ?_)) (f := F.mtxAbortCountCount) (by decide) _)
    (f := F.mtxEvtAbort) (by decide) 1
  · exact h.putOutside (f := F.mtxAbortInfoMore) (by decide) 1
  · exact ((h.setWordOutside (by decide) _).putOutside (f := F.mtxAbortAddrLoAddr) (by decide) _).putOutside
      (f := F.mtxAbortAddrHiAddr) (by decide) _

theorem abortBurst (h : Dev.PairBut l d e) (m : Nat) : Dev.PairBut l d (e.abortBurst m) := by
  rw [Dev.abortBurst]
  refine iteInduction (fun _ => of_words ?_ (Dev.fecSeen_words ..)) (fun _ => h)
  exact ((h.of_words (e.setBurst_words m {})).abortRecord m _).of_words (Dev.reply_words ..)

end Dev.PairBut

/-! Protection's timers start again (R426) -/

/-- `e` holds the state of the pair that `d` holds, but for the items of the state copy. -/
def Dev.MateButItems (d e : Dev) : Prop := e.mate = { d.mate with items := e.mate.items }

namespace Dev.MateButItems

variable {d e : Dev}

theorem of_mate (h : d.MateButItems e) {e' : Dev} (hm : e'.mate = e.mate) : d.MateButItems e' := by
  rw [Dev.MateButItems, hm]
  exact h

theorem noteOnset (h : d.MateButItems e) (kind key : Nat) (p q : ProtSt) : d.MateButItems (e.noteOnset kind key p q) := by
  refine Dev.when_ind (P := d.MateButItems) h fun _ => ?_
  rw [Dev.MateButItems, e.note_frame kind key]
  dsimp only
  rw [h]

theorem protSee (h : d.MateButItems e) : d.MateButItems e.protSee := by
  rw [Dev.protSee]
  refine List.foldlRecOn (motive := d.MateButItems) _ _ (List.foldlRecOn (motive := d.MateButItems) _ _ h ?_) ?_
  · refine fun c hc g _ => noteOnset ?_ 3 g _ _
    exact hc.of_mate rfl
  · refine fun c hc i _ => noteOnset ?_ 2 i _ _
    exact hc.of_mate rfl

theorem resumeTimers (h : d.MateButItems e) : d.MateButItems e.resumeTimers := by
  refine protSee ?_
  exact h.of_mate rfl

end Dev.MateButItems

theorem Dev.resumeTimers_words (d : Dev) : d.resumeTimers.words = d.words := Dev.protSee_words _

/-! The role that the device takes -/

/-- What a change of role writes beside the role. -/
def roleFields : List Field := [F.mateEvtRoleChg, F.mateCmdStatResult]

section
variable (d : Dev) {r : Nat}

/-- The role once it is written, before what follows of it. -/
def Dev.roleWritten (r : Nat) : Dev := (d.abortBurst 6).put F.mateStatRole r

theorem Dev.setRole_pairBut (h : d.role ≠ r) : Dev.PairBut roleFields (d.roleWritten r) (d.setRole r) := by
  have hraise : Dev.PairBut roleFields (d.roleWritten r) ((d.roleWritten r).raise F.mateEvtRoleChg) :=
    (Dev.PairBut.refl _ _).put (List.mem_cons_self ..) 1
  have hdone (c : Bool) : Dev.PairBut roleFields (d.roleWritten r)
      (((d.roleWritten r).raise F.mateEvtRoleChg).when c fun e => e.put F.mateCmdStatResult mateDone) :=
    Dev.when_ind hraise fun _ => hraise.put (List.mem_cons_of_mem _ (List.mem_singleton_self _)) _
  rw [Dev.setRole, if_neg h]
  exact iteInduction (fun _ => (hdone _).of_words (Dev.resumeTimers_words _)) (fun _ => hdone _)

theorem Dev.setRole_role (hr : r < 4) : (d.setRole r).role = r := by
  by_cases h : d.role = r
  · rw [Dev.setRole, if_pos h, h]
  · refine (d.setRole_pairBut h F.mateStatRole (by decide) (by decide)).trans ?_
    exact (Dev.get_put_same _ _ _ (by decide)).trans (Nat.mod_eq_of_lt hr)

theorem Dev.get_setRole {g : Field} (hg : inPairRegs g.off = true) (hrole : F.mateStatRole.apart g = true)
    (hl : ∀ f ∈ roleFields, f.apart g = true) : (d.setRole r).get g = d.get g := by
  by_cases h : d.role = r
  · rw [Dev.setRole, if_pos h]
  · refine (d.setRole_pairBut h g hg hl).trans ((Dev.get_put_of_apart _ _ hrole).trans ?_)
    exact ((Dev.PairBut.refl [] d).abortBurst 6) g hg (List.forall_mem_nil _)

theorem Dev.setRole_mateButItems : d.MateButItems (d.setRole r) := by
  have hraise : d.MateButItems ((d.roleWritten r).raise F.mateEvtRoleChg) := Dev.MateButItems.of_mate rfl (d.abortBurst_mate 6)
  have hdone (c : Bool) :
      d.MateButItems (((d.roleWritten r).raise F.mateEvtRoleChg).when c fun e => e.put F.mateCmdStatResult mateDone) :=
    Dev.when_ind hraise fun _ => hraise.of_mate rfl
  rw [Dev.setRole]
  refine iteInduction (fun _ => rfl) (fun _ => ?_)
  exact iteInduction (fun _ => (hdone _).resumeTimers) (fun _ => hdone _)

end

/-! A seizure that completes -/

section
variable (d : Dev)

/-- The device with the items of the mate's loss and of the open epoch listed. -/
def Dev.lostListed : Dev := (d.mate.atLoss.foldl Dev.listItem d.clearList).discardEpoch

/-- The device that then drives both lines. -/
def Dev.lidHeld : Dev := d.lostListed.setMate
  { d.lostListed.mate with drive0 := true, drive1 := true, seizing := none, atLoss := [], items := [], stopped := false,
                           sentEpoch := none, final := none }

theorem Dev.get_lidHeld {g : Field} (hg : inPairRegs g.off = true) : d.lidHeld.get g = d.get g := by
  have hlisted : Dev.PairBut [] d d.lostListed :=
    ((Dev.PairBut.refl [] d).clearList.foldl _ fun _ x hc => hc.listItem x).discardEpoch
  rw [Dev.lidHeld, Dev.setMate_get, hlisted g hg (List.forall_mem_nil _)]

/-- R468, R497: what a completed seizure writes once the Lid is held. -/
theorem Dev.seize_eq : d.seize =
    (((((((d.lidHeld.setRole roleActive).roll F.mateTakeoversCount 1).put F.mateLastEpochEpoch
      (d.lostListed.get F.mateAckEpochEpoch)).put F.mateStatSnapPart
      (bitOf (d.lostListed.role == roleRejoin && !d.lostListed.mate.snapDone))).put F.mateStatRejoinStep 0).mateBit
      F.mateStatIsolated F.mateEvtIsolated false).seeLid false false) := rfl

theorem Dev.seize_role : d.seize.role = roleActive := by
  simp (disch := decide) only [Dev.seize_eq, Dev.role, Dev.get_seeLid, Dev.get_mateBit, Dev.roll, Dev.get_put_of_apart]
  exact d.lidHeld.setRole_role (by decide)

theorem Dev.seize_takeovers : d.seize.get F.mateTakeoversCount = (d.get F.mateTakeoversCount + 1) % 2 ^ 32 := by
  simp (disch := decide) only [Dev.seize_eq, Dev.get_seeLid, Dev.get_mateBit, Dev.roll, Dev.get_put_of_apart, Dev.get_put_same,
    Dev.get_setRole, Dev.get_lidHeld]
  rfl

theorem Dev.seize_lastEpoch : d.seize.get F.mateLastEpochEpoch = d.get F.mateAckEpochEpoch := by
  have hack : d.lostListed.get F.mateAckEpochEpoch = d.get F.mateAckEpochEpoch := d.get_lidHeld (by decide)
  simp (disch := decide) only [Dev.seize_eq, Dev.get_seeLid, Dev.get_mateBit, Dev.get_put_of_apart, Dev.get_put_same, hack]
  exact Nat.mod_eq_of_lt (d.get_lt F.mateAckEpochEpoch)

/-- Both lines are driven, and no seizure is under way. -/
theorem Dev.seize_lines : d.seize.mate.drive0 = true ∧ d.seize.mate.drive1 = true ∧ d.seize.mate.seizing = none := by
  have hmate : d.seize.mate = (d.lidHeld.setRole roleActive).mate := by
    simp only [Dev.seize_eq, Dev.seeLid_mate, Dev.mateBit_mate, Dev.put_mate, Dev.roll]
  rw [hmate, d.lidHeld.setRole_mateButItems]
  exact ⟨rfl, rfl, rfl⟩

end

theorem lidSample_seizes (s : State) (other : Bool) (since : Nat) (hsince : s.dev.mate.seizing = some since)
    (hdue : since + 12442 ≤ s.dev.now) (h : other = true ∨ s.dev.slotB = false) :
    ∃ t, exec (.lidSample other) s = .next t ∧ t.dev.role = roleActive ∧ t.dev.mate.drive0 = true ∧ t.dev.mate.drive1 = true
      ∧ t.dev.mate.seizing = none ∧ t.dev.get F.mateLastEpochEpoch = s.dev.get F.mateAckEpochEpoch
      ∧ t.dev.get F.mateTakeoversCount = (s.dev.get F.mateTakeoversCount + 1) % 2 ^ 32 ∧ KeepsMemories s t := by
  obtain ⟨hdrive0, hdrive1, hseizing⟩ := s.dev.seize_lines
  exact ⟨_, exec_lidSample_seizes hsince hdue h, s.dev.seize_role, hdrive0, hdrive1, hseizing, s.dev.seize_lastEpoch,
    s.dev.seize_takeovers, rfl, rfl⟩

/-- Settles O46, by the first step of a seizure and the two outcomes of its sample: the Lid taken, or in slot B a collision. -/
theorem lidSeizure : Obligations.LidSeizure := by
  unfold Obligations.LidSeizure
  exact fun s => ⟨lidSeizure_drivesFirstLine s, fun other since hsince hdue =>
    ⟨lidSample_seizes s other since hsince hdue, lidSample_collides s other since hsince hdue⟩⟩

end Sys2Proof.Machine

/-! The memories stay canonical: every update of the byte memories, unit by unit, keeps their canonical form, and every command leaves
the queue alone. -/

namespace Sys2Proof.Machine

/-! Memory and flash -/

theorem memFoldl_wf {α : Type} (l : List α) {g : List Host.Cell → α → List Host.Cell}
    (hg : ∀ m x, memWf m = true → memWf (g m x) = true) {m : List Host.Cell} (h : memWf m = true) : memWf (l.foldl g m) = true :=
  List.foldlRecOn (motive := fun m => memWf m = true) l g h fun m hm x _ => hg m x hm

theorem flashWrite_wf (l : List Byte) (f : List Host.Cell) (a : Nat) (h : flashWf f = true) : flashWf (flashWrite f a l) = true := by
  induction l generalizing f a with
  | nil => exact h
  | cons b t ih => exact ih _ _ (Store.wf_set flashErased f a b h)

theorem flashErase_wf (f : List Host.Cell) (a n : Nat) (h : flashWf f = true) : flashWf (flashErase f a n) = true :=
  Store.wf_keep flashErased _ f h

theorem libStore_wf (m : List Host.Cell) (slot : Nat) (img : Store W32) (ok : Bool) (h : memWf m = true) :
    memWf (libStore m slot img ok) = true := by
  unfold libStore
  extract_lets b e m1 m2 m3
  have h1 : memWf m1 = true := memFoldl_wf _ (fun m x hm => memWriteWord_wf m _ x.2 hm) (memClear_wf m b libLength h)
  have h2 : memWf m2 = true := memWriteWord_wf _ _ _ (memWriteWord_wf _ _ _ h1)
  exact memWriteWord_wf _ _ _ (memClear_wf _ _ _ (memWriteWord_wf _ _ _ h2))

/-! The pass of the Ladle -/

/-- The memory of a pass is canonical. -/
abbrev Work.Canonical (w : Work) : Prop := memWf w.2 = true

theorem memBump_wf (m : List Host.Cell) (image key n : Nat) (h : memWf m = true) : memWf (memBump m image key n) = true :=
  memWriteCount_wf m _ _ h

theorem addCounts_wf (base s15 s24 : Nat) (m : List Host.Cell) (l : List (Nat × Nat)) (h : memWf m = true) :
    memWf (addCounts base s15 s24 m l) = true :=
  memFoldl_wf l (fun m _ hm => memBump_wf _ _ _ _ (memBump_wf _ _ _ _ (memBump_wf m _ _ _ hm))) h

theorem writeHeader_wf (m : List Host.Cell) (a epoch tb flags crc : Nat) (h : memWf m = true) :
    memWf (writeHeader m a epoch tb flags crc) = true := by
  unfold writeHeader
  extract_lets wr
  have hwr (m : List Host.Cell) (i v : Nat) (hm : memWf m = true) : memWf (wr m i v) = true := memWriteWord_wf m _ _ hm
  exact hwr _ _ _ (hwr _ _ _ (hwr _ _ _ (hwr _ _ _ (hwr _ _ _ (hwr _ _ _ (hwr _ _ _ (memClear_wf m a 0x1000 h)))))))

theorem binHeader_wf (base slot tb : Nat) (b : BinSt) (prov : Bool) (m : List Host.Cell) (h : memWf m = true) :
    memWf (binHeader base slot tb b prov m) = true := writeHeader_wf _ _ _ _ _ _ h

theorem closeBin_wf (base slot next tb : Nat) (b : BinSt) (m : List Host.Cell) (h : memWf m = true) :
    memWf (closeBin base slot next tb b m) = true := memClear_wf _ _ _ (memClear_wf _ _ _ (binHeader_wf base slot tb b true m h))

theorem closeBin_ite_wf (c : Bool) (base slot next tb : Nat) (b : BinSt) (m : List Host.Cell) (h : memWf m = true) :
    memWf (if c then closeBin base slot next tb b m else m) = true :=
  iteInduction (motive := fun m => memWf m = true) (fun _ => closeBin_wf base slot next tb b m h) (fun _ => h)

namespace Work.Canonical

variable {w : Work}

theorem drain (h : Work.Canonical w) (base s15 s24 : Nat) : Work.Canonical (drain base s15 s24 w) := addCounts_wf _ _ _ _ _ h

theorem settleRecord (h : Work.Canonical w) (base r : Nat) : Work.Canonical (settleRecord base w r) := addCounts_wf _ _ _ _ _ h

theorem dumpRecord (h : Work.Canonical w) (base : Nat) : Work.Canonical (dumpRecord base w) := by
  unfold Machine.dumpRecord
  extract_lets d l r m1 flags m2 d1
  split
  · exact h
  · exact writeHeader_wf _ _ _ _ _ _ (memCopy_wf _ _ _ _ (memWriteWord_wf _ _ _ h))

theorem applyBaselines (h : Work.Canonical w) (base : Nat) : Work.Canonical (applyBaselines base w) :=
  memFoldl_wf _ (fun m _ hm => memWriteCount_wf m _ _ hm) h

theorem finishBins (h : Work.Canonical w) (base : Nat) : Work.Canonical (finishBins base w) :=
  memFoldl_wf _ (fun m _ hm => memWriteWord_wf _ _ _ (memWriteWord_wf m _ _ hm)) h

theorem closeBins (h : Work.Canonical w) (base : Nat) : Work.Canonical (closeBins base w) := by
  unfold Machine.closeBins
  extract_lets d l p s15 s24 end15 end24 n15 n24 bad l15 b15 l24 b24 m1 m2 c15 c24 m3
  have h1 : memWf m1 = true := closeBin_ite_wf end15 _ _ _ _ _ _ h
  have h2 : memWf m2 = true := closeBin_ite_wf end24 _ _ _ _ _ _ h1
  exact binHeader_wf _ _ _ _ _ _ (binHeader_wf _ _ _ _ _ _ (writeHeader_wf _ _ _ _ _ _ h2))

theorem settleRecords (h : Work.Canonical w) (base : Nat) (l : List Nat) : Work.Canonical (l.foldl (Machine.settleRecord base) w) :=
  List.foldlRecOn (motive := Work.Canonical) l _ h fun _ hw r _ => hw.settleRecord base r

/-- The second that waits behind a pass changes nothing of the memory. -/
theorem snd_takeNext (l : List Pass) (d : Dev) (next : Pass → List Pass → Dev) (m : List Host.Cell) :
    (match l with
      | [] => (d, m)
      | q :: rest => (next q rest, m)).2 = m := by
  cases l <;> rfl

/-- What the pass does to the memory: its steps, where there is a PM region. -/
theorem ladlePass_snd (w : Work) :
    (Machine.ladlePass w).2 =
      (if w.1.cntBase = 0 ∨ !w.1.hbmUp then w
      else
        let a := Machine.drain w.1.cntBase (w.1.get F.pmBinB15) (w.1.get F.pmBinB24) w
        let b := a.1.toSettle.foldl (Machine.settleRecord w.1.cntBase) a
        Machine.closeBins w.1.cntBase (Machine.finishBins w.1.cntBase (Machine.applyBaselines w.1.cntBase
          (Machine.dumpRecord w.1.cntBase b)))).2 := snd_takeNext _ _ _ _

theorem ladlePass (h : Work.Canonical w) : Work.Canonical (ladlePass w) := by
  rw [Work.Canonical, ladlePass_snd]
  refine iteInduction (motive := Work.Canonical) (fun _ => h) (fun _ => ?_)
  exact (((((h.drain _ _ _).settleRecords _ _).dumpRecord _).applyBaselines _).finishBins _).closeBins _

theorem ladleAll (h : Work.Canonical w) : Work.Canonical (ladleAll w) :=
  iteInduction (motive := Work.Canonical)
    (fun _ => List.foldlRecOn (motive := Work.Canonical) _ _ h fun _ hw _ _ => hw.ladlePass) (fun _ => h)

theorem writeTraces (h : Work.Canonical w) : Work.Canonical (writeTraces w) := by
  refine iteInduction (motive := Work.Canonical) (fun _ => h) (fun _ => List.foldlRecOn (motive := Work.Canonical) _ _ h ?_)
  exact fun x hx r _ => iteInduction (motive := fun m => memWf m = true) (fun _ => hx) (fun _ => memWrite_wf _ _ _ hx)

end Work.Canonical

/-! The device with its memories -/

/-- Both byte memories are canonical. -/
def Chip.Canonical (c : Chip) : Prop := memWf c.mem = true ∧ flashWf c.flash = true

namespace Chip.Canonical

variable {c : Chip}

theorem setDev (h : c.Canonical) (d : Dev) : ({ c with dev := d } : Chip).Canonical := h

theorem setMem (h : c.Canonical) {d : Dev} {m : List Host.Cell} (hm : memWf m = true) :
    ({ c with dev := d, mem := m } : Chip).Canonical := ⟨hm, h.2⟩

theorem setFlash (h : c.Canonical) {d : Dev} {f : List Host.Cell} (hf : flashWf f = true) :
    ({ c with dev := d, flash := f } : Chip).Canonical := ⟨h.1, hf⟩

theorem on (h : c.Canonical) (f : Dev → Dev) : (c.on f).Canonical := h

theorem ite {p : Prop} {_ : Decidable p} {a b : Chip} (ha : a.Canonical) (hb : b.Canonical) : (if p then a else b).Canonical :=
  iteInduction (motive := Chip.Canonical) (fun _ => ha) (fun _ => hb)

theorem ite_fst {α : Type} {p : Prop} {_ : Decidable p} {a b : Chip × α} (ha : a.1.Canonical) (hb : b.1.Canonical) :
    (if p then a else b).1.Canonical :=
  iteInduction (motive := fun x : Chip × α => x.1.Canonical) (fun _ => ha) (fun _ => hb)

theorem when (h : c.Canonical) {b : Bool} {f : Chip → Chip} (hf : (f c).Canonical) : (c.when b f).Canonical := ite hf h

theorem foldl {α : Type} (h : c.Canonical) (l : List α) {g : Chip → α → Chip} (hg : ∀ x i, x.Canonical → (g x i).Canonical) :
    (l.foldl g c).Canonical := List.foldlRecOn (motive := Chip.Canonical) l g h fun x hx i _ => hg x i hx

theorem write (h : c.Canonical) {m a : Nat} {op : Chip → Chip × Resp} (hop : (op c).1.Canonical) : (c.write m a op).Canonical := by
  unfold Chip.write
  split
  · exact hop
  · exact h
  · exact h

/-! SRAM, HBM3 and the log -/

theorem store (h : c.Canonical) (a : Nat) (l : List Byte) : (c.store a l).Canonical := h.setMem (memWrite_wf l c.mem a h.1)

theorem log (h : c.Canonical) (p : Nat) (security : Bool) : (c.log p security).Canonical := by
  unfold Chip.log
  extract_lets d seq x time w1 tb w5 y z words bytes c1
  have h1 : c1.Canonical := (h.setDev _).store _ _
  exact ite (h1.setMem (memWrite_wf _ _ _ h1.1)) h1

theorem copyLog (h : c.Canonical) : c.copyLog.Canonical :=
  h.foldl _ fun _ _ hx => ite (hx.setMem (memCopy_wf _ _ _ _ hx.1)) hx

theorem retireSubbank (h : c.Canonical) (sb : Nat) : (c.retireSubbank sb).Canonical :=
  ite h (ite (h.on _) (ite (ite ((h.setDev _).log 0xC false) (h.setDev _)) (h.setDev _)))

theorem switchSubbank (h : c.Canonical) (sb : Nat) : (c.switchSubbank sb).Canonical := (h.setDev _).log 3 false

theorem copyDone (h : c.Canonical) (bad : List Nat) : (c.copyDone bad).Canonical := by
  unfold Chip.copyDone
  split
  · exact ite ((h.setDev _).switchSubbank _) (h.setDev _)
  · exact h

theorem switchAtEdge (h : c.Canonical) : c.switchAtEdge.Canonical := by
  unfold Chip.switchAtEdge
  split
  · exact h.switchSubbank _
  · exact h

theorem unitUsers (h : c.Canonical) (u : Nat) : (c.unitUsers u).Canonical := by
  unfold Chip.unitUsers
  refine ite h (ite (h.setDev _) (ite (h.setDev _) (ite (h.setDev _) (ite (h.setDev _) (ite (h.setDev _)
    (ite (h.setDev _) (ite ?_ h)))))))
  split
  · exact h.setDev _
  · exact h

theorem failUnit (h : c.Canonical) (u : Nat) : (c.failUnit u).Canonical := by
  unfold Chip.failUnit
  refine ite (h.setMem (memClear_wf _ _ _ h.1)) ?_
  split
  · exact unitUsers (h.setMem (memClear_wf _ _ _ (memClear_wf _ _ _ h.1))) u
  · exact unitUsers (h.setMem (memClear_wf _ _ _ h.1)) u

theorem retirePc (h : c.Canonical) (pc : Nat) : (c.retirePc pc).Canonical := by
  unfold Chip.retirePc
  refine ite h (on ?_ _)
  split
  · exact failUnit (h.setDev _) _
  · exact h.setDev _

theorem pcEvent (h : c.Canonical) (pc : Nat) : (c.pcEvent pc).Canonical := ite h (((h.retirePc pc).on _).log 4 false)

theorem trained (h : c.Canonical) (failed : List Nat) : (c.trained failed).Canonical := by
  unfold Chip.trained
  extract_lets old on before c1 c2 c3 c4
  have h1 : c1.Canonical := foldl (h.on _) _ fun _ _ hx => hx.failUnit _
  have h2 : c2.Canonical := h1.foldl _ fun _ pc hx => hx.retirePc pc
  have h4 : c4.Canonical := when (when h2 (h2.on _)) ((when h2 (h2.on _)).on _)
  exact (foldl (h4.on _) _ fun _ _ hx => hx.log 4 false).copyLog

/-! The Groomer -/

theorem grmStart (h : c.Canonical) (op slot : Nat) : (c.grmStart op slot).Canonical := by
  have hspoil : memWf (if c.dev.hbmAnswers (libBase slot) then memWriteWord c.mem (libDescr slot) 0 else c.mem) = true :=
    iteInduction (motive := fun m => memWf m = true) (fun _ => memWriteWord_wf _ _ _ h.1) (fun _ => h.1)
  unfold Chip.grmStart
  exact ite (h.on _) (ite (h.on _) (ite (h.on _) (ite (h.on _) (ite (h.on _) (ite (h.on _) (ite (h.on _)
    (ite (h.setMem hspoil) (ite (h.setMem hspoil) (h.on _)))))))))

theorem grmCommand (h : c.Canonical) (op slot : Nat) : (c.grmCommand op slot).Canonical :=
  ite (h.on _) (ite ((h.on _).on _) (ite ((h.on _).on _) ((h.on _).grmStart op slot)))

/-! Starts of the processor and field update -/

theorem writeRecord (h : c.Canonical) (r : BootRec) : (c.writeRecord r).Canonical :=
  h.setFlash (flashWrite_wf _ _ _ (flashErase_wf _ _ _ h.2))

theorem extend (h : c.Canonical) (v : List Byte) : (c.extend v).Canonical := (h.on _).log 7 true

theorem burnFuses (h : c.Canonical) : c.burnFuses.Canonical :=
  ite (h.on _) (ite (foldl (h.on _) _ fun _ _ hx => hx.log 7 true) (h.on _))

theorem fusesFor (h : c.Canonical) (r : Nat) : (c.fusesFor r).Canonical := (h.on _).burnFuses

theorem counted (h : c.Canonical) (cause : Nat) : (c.counted cause).Canonical := (h.on _).log 7 true

theorem startImage (h : c.Canonical) (hdr : List Byte) (slot state : Nat) : (c.startImage hdr slot state).Canonical :=
  ite (((h.on _).extend _).fusesFor _) ((h.on _).extend _).burnFuses

theorem startSlot (h : c.Canonical) (slot : Bool) (state : Nat) : (c.startSlot slot state).Canonical := (h.store _ _).startImage _ _ _

theorem boot (h : c.Canonical) (cause : Nat) : (c.boot cause).Canonical := by
  unfold Chip.boot
  extract_lets c0 r0 failed x r1 s r2 c1 c2 can
  have h0 : c0.Canonical := h.counted cause
  have h2 : c2.Canonical := (ite (h0.on _) (h0.writeRecord r2)).on _
  exact ite (h0.on _) (ite (h2.startSlot _ _) (ite (h2.startSlot _ _) (h2.on _)))

theorem restartCpu (h : c.Canonical) (cause : Nat) : (c.restartCpu cause).Canonical := (h.on _).boot cause

theorem recover (h : c.Canonical) : c.recover.Canonical := ite ((h.counted _).startImage _ _ _) h

theorem ctrlWrite (h : c.Canonical) (m : Nat) (w : W32) : (c.ctrlWrite m w).Canonical :=
  ite (ite (h.restartCpu _) h).recover (ite (h.restartCpu _) h)

theorem startProgram (h : c.Canonical) : c.startProgram.Canonical :=
  ite (h.on _) ((h.writeRecord _).setFlash (flashErase_wf _ _ _ (h.writeRecord _).2))

theorem activateSlot (h : c.Canonical) (slot : Bool) : (c.activateSlot slot).Canonical :=
  ite (h.on _) (ite (h.on _) (((h.on _).writeRecord _).restartCpu _))

theorem fwCommand (h : c.Canonical) (op : Nat) (slot : Bool) : (c.fwCommand op slot).Canonical := by
  unfold Chip.fwCommand
  refine ite h ?_
  split
  · exact ite (h.on _) (h.on _)
  · exact ite (h.on _) (ite (ite (h.on _) (ite h.startProgram (h.activateSlot slot))) (h.on _))

theorem fwWrite (h : c.Canonical) (w : W32) : (c.fwWrite w).Canonical := (h.on _).fwCommand _ _

theorem programEnd (h : c.Canonical) (slot : Bool) : (c.programEnd slot).Canonical :=
  ite (h.on _) (ite (h.on _) ((writeRecord (h.setFlash (flashWrite_wf _ _ _ h.2)) _).on _))

theorem healthy (h : c.Canonical) : c.healthy.Canonical := by
  unfold Chip.healthy
  split
  · exact (((h.on _).writeRecord _).on _).fusesFor _
  · exact h.on _

/-! The security engine -/

theorem debugUpdate (h : c.Canonical) : c.debugUpdate.Canonical :=
  ite h (when ((h.on _).log 7 true) (((h.on _).log 7 true).on _))

theorem logTwice (h : c.Canonical) (b : Bool) : ((c.log 7 true).when b fun x => x.log 7 true).Canonical :=
  when (h.log 7 true) ((h.log 7 true).log 7 true)

theorem goUnlock (h : c.Canonical) : c.goUnlock.Canonical := ((h.on _).log 7 true).debugUpdate

theorem goProvision (h : c.Canonical) : c.goProvision.Canonical := ((h.on _).logTwice _).debugUpdate

theorem goLock (h : c.Canonical) : c.goLock.Canonical := ((h.on _).logTwice _).debugUpdate

theorem goDecommission (h : c.Canonical) : c.goDecommission.Canonical := ((h.on _).logTwice _).debugUpdate

theorem goExtend (h : c.Canonical) : c.goExtend.Canonical := (h.extend _).on _

theorem secCommand (h : c.Canonical) (op : Nat) : (c.secCommand op).Canonical := by
  unfold Chip.secCommand
  split
  · exact h.on _
  · exact h.goUnlock
  · exact h.goProvision
  · exact h.goLock
  · exact h.goDecommission
  · exact h.on _
  · exact h.goExtend
  · exact h

theorem dbgWrite (h : c.Canonical) (m : Nat) (w : W32) : (c.dbgWrite m w).1.Canonical := ite_fst (h.on _).debugUpdate h

/-! The bus matrix -/

/-- A unit's answer with canonical memories. -/
def Answer (x : Chip × Resp) : Prop := x.1.Canonical

theorem Answer.ite {p : Prop} {_ : Decidable p} {a b : Chip × Resp} (ha : Answer a) (hb : Answer b) : Answer (if p then a else b) :=
  iteInduction (motive := Answer) (fun _ => ha) (fun _ => hb)

theorem answer_on (h : c.Canonical) (f : Dev → Dev) (r : Resp) : Answer (c.on f, r) := h

theorem answer_pageWrite (h : c.Canonical) (m a : Nat) (data : W32) : Answer (c.pageWrite m a data) := by
  unfold Chip.pageWrite
  extract_lets p o lift
  have hlift (f : Dev → Dev × Resp) : Answer (lift f) := h.answer_on _ _
  clear_value lift
  refine Answer.ite ?_ (Answer.ite ?_ (Answer.ite ?_ (Answer.ite ?_ (Answer.ite ?_ (Answer.ite ?_ (Answer.ite ?_ (Answer.ite ?_
    (Answer.ite ?_ ?_))))))))
  · exact h.answer_on _ _
  · exact h.answer_on _ _
  · exact hlift _
  · exact h.ctrlWrite m data
  · exact h.fwWrite data
  · exact Answer.ite (ite h.healthy h) h
  · exact h.secCommand _
  · exact h.dbgWrite m data
  · exact h.grmCommand _ _
  · exact hlift _

theorem wordWrite (h : c.Canonical) (m a : Nat) (data : W32) : (c.wordWrite m a data).1.Canonical := ite_fst (h.answer_pageWrite m a data) (h.on _)

theorem putWord (h : c.Canonical) (m a : Nat) (data : W32) (be : BitVec 4) : (c.putWord m a data be).1.Canonical := by
  unfold Chip.putWord
  split
  · exact (h.wordWrite m a _).on _
  · exact h.on _
  · exact h

theorem readEffect (h : c.Canonical) (m a : Nat) : (c.readEffect m a).Canonical := by
  unfold Chip.readEffect
  split
  · exact h.on _
  · exact ite (h.on _) (ite (h.on _) (ite (h.on _) (h.on _)))

theorem getWord (h : c.Canonical) (m a : Nat) : (c.getWord m a).1.Canonical := by
  unfold Chip.getWord
  split
  · exact ite_fst (h.readEffect m a) (h.readEffect m a)
  · exact h.on _
  · exact h

theorem writeWords (h : c.Canonical) (m x y : Nat) (byte : Nat → Byte) (l : List Nat) : (c.writeWords m x y byte l).1.Canonical := by
  induction l generalizing c with
  | nil => exact h
  | cons a t ih => exact ite_fst (ih (h.putWord m a _ _)) (h.putWord m a _ _)

theorem readWords (h : c.Canonical) (m : Nat) (l : List Nat) : (c.readWords m l).1.Canonical := by
  induction l generalizing c with
  | nil => exact h
  | cons a t ih => exact ite_fst (ih (h.getWord m a)) (h.getWord m a)

theorem beatWrite (h : c.Canonical) (m x y : Nat) (byte : Nat → Byte) : (c.beatWrite m x y byte).1.Canonical := by
  unfold Chip.beatWrite
  split
  · exact h.store x _
  · exact h
  · exact h
  · exact ite_fst (h.on _) (ite_fst (h.setMem (memWrite_wf _ _ _ h.1)) h)
  · exact when (h.writeWords m x y byte _) ((h.writeWords m x y byte _).on _)
  · exact h

theorem beatRead (h : c.Canonical) (m x y : Nat) : (c.beatRead m x y).1.Canonical := by
  unfold Chip.beatRead
  split
  · exact h
  · exact h
  · split <;> exact h
  · exact ite_fst (h.on _) (ite_fst h h)
  · exact h.readWords m _
  · exact h

theorem issue (h : c.Canonical) (m : Nat) (write : Bool) (addr len : Nat) (data : List Byte) (ecc : EccSeen) :
    (c.issue m write addr len data ecc).Canonical := ite (h.on _) (h.on _)

theorem beat (h : c.Canonical) (m : Nat) : (c.beat m).Canonical := by
  unfold Chip.beat
  extract_lets b size p q x y seen w v e v1 r b'
  have hw : w.1.Canonical := h.beatWrite m x y _
  have hv : v.1.Canonical := h.beatRead m x y
  have hr : r.1.Canonical := ite_fst (when hw (hw.on _)) (ite_fst hv (ite_fst (hv.setDev _) (hv.setDev _)))
  exact ite h (ite (hr.on _) hr)

theorem beats (h : c.Canonical) (m n : Nat) : (c.beats m n).Canonical := by
  induction n generalizing c with
  | zero => exact h
  | succ n ih => exact ih (h.beat m)

theorem close (h : c.Canonical) (m : Nat) : (c.close m).Canonical := ite (h.on _) h

theorem drain (h : c.Canonical) (m : Nat) : (c.drain m).Canonical := h.beats m _

theorem transact (h : c.Canonical) (m : Nat) (write : Bool) (addr len : Nat) (data : List Byte) (ecc : EccSeen) :
    (c.transact m write addr len data ecc).Canonical := ((((h.drain m).close m).issue m write addr len data ecc).drain m).close m

theorem registerWrite (h : c.Canonical) (m a : Nat) (data : W32) (be : BitVec 4) : (c.registerWrite m a data be).Canonical := by
  unfold Chip.registerWrite
  refine ite h ?_
  split
  · exact h.on _
  · exact ite ((((h.drain m).close m).putWord m a data be).on _) h

theorem snapshotRead (h : c.Canonical) (m a : Nat) :
    (match c.dev.grant m a false with
      | .never => c
      | _ =>
        let r := c.getWord m a
        r.1.on (fun d => (d.reply m { resp := r.2.1, data := wordBytes r.2.2 }).fecSeen m a false r.2.1 1)).Canonical := by
  split
  · exact h
  · exact (h.getWord m a).on _

theorem transfer (h : c.Canonical) (m a : Nat) (t : Transfer) (stall : Option Nat) : (c.transfer m a t stall).Canonical :=
  ((((h.drain m).close m).issue m _ _ _ _ _).beats m _).close m

theorem processorTransfer (h : c.Canonical) (m a : Nat) (t : Transfer) (stall : Option Nat) :
    (c.processorTransfer m a t stall).Canonical := by
  unfold Chip.processorTransfer
  refine ite h ?_
  split
  · exact h.transfer m _ t stall
  · exact h.on _

theorem dmi (h : c.Canonical) (op : DmiOp) : (c.dmi op).Canonical := by
  cases op with
  | sysBusRead a => exact (h.transact _ _ _ _ _ _).on _
  | sysBusWrite a data => exact ite ((h.transact _ _ _ _ _ _).on _) (h.on _)
  | readDmstatus | haltReq | resumeReq | abstractCmd => exact h.on _

/-! The state copy -/

theorem keepRecords (h : c.Canonical) : c.keepRecords.Canonical := ite h (h.setMem (memWrite_wf _ _ _ h.1))

theorem recordWrite (h : c.Canonical) (r : StateRecord) : (c.recordWrite r).1.Canonical := by
  unfold Chip.recordWrite
  extract_lets a word x y
  have hword {c : Chip} (h : c.Canonical) (a : Nat) (data : W32) (be : BitVec 4) : (word c a data be).1.Canonical :=
    ite_fst h (ite_fst h (h.putWord copierMaster a data be))
  exact hword (hword h _ _ _) _ _ _

theorem dite_fst {α : Type} {p : Prop} [Decidable p] {a : p → Chip × α} {b : ¬ p → Chip × α} (ha : ∀ h, (a h).1.Canonical)
    (hb : ∀ h, (b h).1.Canonical) : (if h : p then a h else b h).1.Canonical := by
  split
  · exact ha _
  · exact hb _

theorem record (h : c.Canonical) (e : Nat) (r : StateRecord) : (c.record e r).1.Canonical := by
  unfold Chip.record
  extract_lets k w
  split
  · exact h.recordWrite r
  · exact dite_fst (fun _ => h.on _) fun _ => h
  · exact dite_fst (fun _ => h.on _) fun _ => h
  · exact ite_fst (dite_fst (fun _ => h.on _) fun _ => h) (dite_fst (fun _ => h.on _) fun _ => h)
  · exact ite_fst (h.on _) h
  · exact h.on _
  · exact h

theorem applyRecord (h : c.Canonical) (e : Nat) (r : StateRecord) : (Chip.applyRecord e c r).Canonical :=
  when (h.record e r) ((h.record e r).on _)

theorem endBlock (h : c.Canonical) (snap : Bool) (payload : List Byte) : (c.endBlock snap payload).Canonical :=
  ite ((h.on _).on _) ((foldl (h.on _) _ fun _ r hx => hx.applyRecord _ r).on _)

/-! The Host Control Port -/

theorem portRun (h : c.Canonical) (t : PortTxn) : (c.portRun t).1.Canonical := ite_fst ((h.drain 0).close 0) h

theorem portFinish (h : c.Canonical) : c.portFinish.Canonical := by
  unfold Chip.portFinish
  split
  · exact h
  · exact (h.portRun _).on _

theorem commitPosted (h : c.Canonical) : c.commitPosted.Canonical := by
  unfold Chip.commitPosted
  split
  · exact h
  · exact (((h.portFinish.on _).issue _ _ _ _ _ _).portRun _).on _

theorem portFlush (h : c.Canonical) : c.portFlush.Canonical := h.portFinish.commitPosted.commitPosted

theorem portIssue (h : c.Canonical) (t : PortTxn) (n : Nat) (ecc : EccSeen) : (c.portIssue t n ecc).Canonical :=
  ((h.portFlush.on _).issue _ _ _ _ _ _).beats 0 n

theorem portFrame (h : c.Canonical) (f : PortFrame) : (c.portFrame f).Canonical := by
  unfold Chip.portFrame
  refine ite h ?_
  split
  · exact h.on _
  · extract_lets crcOk
    refine ite h (ite ?_ ?_)
    · split <;> exact h.on _
    · split
      · exact (h.on _).portFlush.on _
      · exact h.portIssue _ _ _

/-! Lanes, bring-up and resets -/

theorem retireLane (h : c.Canonical) (n : Nat) : (c.retireLane n).Canonical := ite h ((h.setDev _).log _ _)

theorem stageComplete (h : c.Canonical) (k : Nat) (failed transient : List Channel) : (c.stageComplete k failed transient).Canonical :=
  foldl (h.setDev _) _ fun _ _ hx => hx.log _ _

theorem warmReset (h : c.Canonical) : c.warmReset.Canonical :=
  ((ite h.portFinish h).commitPosted.commitPosted.on Dev.warm).debugUpdate

theorem warmDone (h : c.Canonical) (slotB : Bool) : (c.warmDone slotB).Canonical := by
  unfold Chip.warmDone
  extract_lets on x
  have hx : x.Canonical := (h.on _).boot _
  split
  · exact ite (hx.retireSubbank _) hx
  · exact hx

theorem testFailed (h : c.Canonical) (sb : Nat) : (c.testFailed sb).Canonical := ite h (ite (h.retireSubbank sb) (h.switchSubbank sb))

theorem coldDone (h : c.Canonical) (slotB : Bool) (failed : List Nat) : (c.coldDone slotB failed).Canonical :=
  (foldl (h.on _) _ fun _ sb hx => hx.testFailed sb).boot _

end Chip.Canonical

/-! Commands -/

/-- The device and the memories of a state. -/
def State.chip (s : State) : Chip := { dev := s.dev, mem := s.mem, flash := s.flash }

/-- `s` with another device and other memories. -/
def State.setChip (s : State) (c : Chip) : State := { s with dev := c.dev, mem := c.mem, flash := c.flash }

theorem State.safe_iff_chip_canonical (s : State) : s.Safe ↔ s.chip.Canonical := Bool.and_eq_true_iff

/-- The outcome `o` of a command on `s` is a next state with the queue of `s`; it is safe where `s` is. -/
def State.KeepsSafe (s : State) (o : Out) : Prop := ∃ c : Chip, o = .next (s.setChip c) ∧ (s.chip.Canonical → c.Canonical)

namespace State.KeepsSafe

variable {s : State}

theorem dev (d : Dev) : s.KeepsSafe (.next { s with dev := d }) := ⟨{ s.chip with dev := d }, rfl, fun h => h⟩

theorem run {f : Chip → Chip} (hf : ∀ {c : Chip}, c.Canonical → (f c).Canonical) : s.KeepsSafe (.next (s.run f)) :=
  ⟨f s.chip, rfl, hf⟩

theorem mem {d : Dev} {m : List Host.Cell} (hm : memWf s.mem = true → memWf m = true) :
    s.KeepsSafe (.next { s with dev := d, mem := m }) :=
  ⟨{ s.chip with dev := d, mem := m }, rfl, fun h => ⟨hm h.1, h.2⟩⟩

theorem ite {p : Prop} [Decidable p] {a b : Out} (ha : s.KeepsSafe a) (hb : s.KeepsSafe b) : s.KeepsSafe (if p then a else b) :=
  iteInduction (motive := s.KeepsSafe) (fun _ => ha) (fun _ => hb)

theorem grmWrite (m op slot : Nat) : s.KeepsSafe (.next (s.grmWrite m op slot)) := run fun h => h.write (h.grmCommand op slot)

theorem fwRow (m : Master) (op : Nat) (slot : Bool) : s.KeepsSafe (.next (s.run fun c => c.fwRow m op slot)) :=
  run fun h => h.write (h.fwWrite _)

theorem secRow (m : Master) {go : Chip → Chip} (hgo : ∀ {c : Chip}, c.Canonical → (go c).Canonical) :
    s.KeepsSafe (.next (s.run fun c => c.secRow m go)) := run fun h => h.write (hgo h)

theorem activeVerificationDone (ecc : List MapIndex) : s.KeepsSafe (execActiveVerificationDone ecc s) := by
  unfold execActiveVerificationDone
  extract_lets l
  refine ite (dev _) ?_
  split <;> exact dev _

theorem libSaveDone : s.KeepsSafe (execLibSaveDone s) := by
  refine ite (mem fun h => ?_) (dev s.dev)
  exact iteInduction (motive := fun m => memWf m = true) (fun _ => libStore_wf _ _ _ _ h) (fun _ => h)

theorem epoch : s.KeepsSafe (execEpoch s) := by
  refine ite (dev s.dev) (mem fun h => ?_)
  exact iteInduction (motive := Work.Canonical) (fun _ => Work.Canonical.ladleAll (w := (s.dev, s.mem)) h) (fun _ => h)

theorem ladlePassComplete : s.KeepsSafe (execLadlePassComplete s) :=
  ite (mem fun h => Work.Canonical.ladlePass (w := (s.dev, s.mem)) h) (dev s.dev)

theorem fp8kEdge (e : EdgeIn) : s.KeepsSafe (execFp8kEdge e s) :=
  run fun h => h.when (.ite ((h.on _).switchAtEdge.on _) (h.on _))

theorem busTransaction (m : Master) (t : Transfer) (stall : Option Nat) : s.KeepsSafe (execBusTransaction m t stall s) :=
  run fun h => h.when (.ite (h.processorTransfer _ _ _ _) (h.transfer _ _ _ _))

theorem stuckTransaction (m : Master) : s.KeepsSafe (execStuckTransaction m s) :=
  run fun h => h.when (.ite (h.on _) ((h.on _).close _))

theorem stageCheckDone : s.KeepsSafe (execStageCheckDone s) := by
  refine run fun h => ?_
  split
  · exact h.on _
  · exact h

theorem programDone : s.KeepsSafe (execProgramDone s) := by
  refine run fun h => ?_
  split
  · exact h.programEnd _
  · exact h

theorem coldReset : s.KeepsSafe (execColdReset s) := mem fun _ => rfl

theorem porstNRise (slotB testmode : Bool) (failed : List (Fin 65536)) : s.KeepsSafe (execPorstNRise slotB testmode failed s) :=
  run fun h => h.when (.ite (h.on _) (h.coldDone _ _))

/-- Every command answers a next state with the queue as it was, which is safe where the state before was: the commands that reach a
memory, and those that change the device alone. -/
theorem exec (c : Instr) : s.KeepsSafe (exec c s) := by
  cases c with
  | registerWrite m a data be => exact run fun h => h.when (h.registerWrite _ _ _ _)
  | snapshotCapture m a => exact run fun h => h.when (h.snapshotRead _ _)
  | busTransaction m t stall => exact busTransaction m t stall
  | stuckTransaction m => exact stuckTransaction m
  | dmiAccess op => exact run fun h => h.when (.ite (h.dmi op) (h.on _))
  | fp8kEdge e => exact fp8kEdge e
  | epoch => exact epoch
  | ladlePassComplete => exact ladlePassComplete
  | traceRecordWrite u => exact mem fun h => Work.Canonical.writeTraces (w := (_, s.mem)) h
  | sdSfSliceEnd src sf violations => cases src <;> exact dev _
  | nop m slot => exact grmWrite m 0 slot
  | invalidate m slot => exact grmWrite m opInvalidate slot
  | copyActive m slot => exact grmWrite m opCopyActive slot
  | fill m slot => exact grmWrite m opFill slot
  | check m slot => exact grmWrite m opCheck slot
  | arm m slot => exact grmWrite m opArm slot
  | disarm m slot => exact grmWrite m opDisarm slot
  | libLoad m slot => exact grmWrite m opLibLoad slot
  | libSave m slot => exact grmWrite m opLibSave slot
  | libErase m slot => exact grmWrite m opLibErase slot
  | verifyActive m slot => exact grmWrite m opVerify slot
  | activeVerificationDone ecc => exact activeVerificationDone ecc
  | libSaveDone => exact libSaveDone
  | sighting i pos seen => cases i <;> exact dev _
  | expectedMark i slot pos bytes => cases i <;> exact dev _
  | barringEnd i slot => cases i <;> exact dev _
  | svCfgApply i => cases i <;> exact dev _
  | stateEndBlock f e b r crc => exact run fun h => h.when (h.endBlock _ _)
  | stateWindowEnd => exact run fun h => h.when (h.keepRecords.on _)
  | subbankRetirement sb => exact run fun h => h.when (h.retireSubbank _)
  | retirementCopyComplete bad => exact run fun h => h.copyDone _
  | pseudoChannelRetirement pc => exact run fun h => h.when (h.pcEvent _)
  | hbmTrainingComplete failed => exact run fun h => h.when (h.trained _)
  | scrubPass hbm words addrs => cases hbm <;> exact dev _
  | laneRetirement lane => exact run fun h => h.retireLane _
  | read f | write f | writePosted f => exact run fun h => h.portFrame f
  | responseReady => exact run fun h => h.portFinish
  | postedWriteEnd => exact run fun h => h.commitPosted
  | restart m => exact run fun h => h.write (h.ctrlWrite _ _)
  | recoverGo m => exact run fun h => h.write (h.ctrlWrite _ _)
  | watchdogExpiry => exact run fun h => h.when ((h.on _).restartCpu _)
  | stageCheck m slot => exact fwRow m 1 slot
  | stageCheckDone => exact stageCheckDone
  | program m slot => exact fwRow m 2 slot
  | programDone => exact programDone
  | activate m slot => exact fwRow m 3 slot
  | abort m slot => exact fwRow m 4 slot
  | healthOk m => exact run fun h => h.write (Chip.Canonical.ite_fst h.healthy h)
  | healthTimeout => exact run fun h => h.when (h.restartCpu _)
  | getNonce m => exact secRow m fun h => h.on _
  | unlock m => exact secRow m fun h => h.goUnlock
  | provision m => exact secRow m fun h => h.goProvision
  | lock m => exact secRow m fun h => h.goLock
  | decommission m => exact secRow m fun h => h.goDecommission
  | attest m => exact secRow m fun h => h.on _
  | extend m => exact secRow m fun h => h.goExtend
  | dbgReqWrite m data => exact run fun h => h.write (h.dbgWrite _ _)
  | bringUpStageComplete failed transient => exact run fun h => h.when (h.stageComplete _ _ _)
  | coldReset => exact coldReset
  | warmReset => exact run fun h => h.when h.warmReset
  | warmDone slotB => exact run fun h => h.when (h.warmDone _)
  | porstNRise slotB testmode failed => exact porstNRise slotB testmode failed
  | shedLevelLeave p ms => exact run fun h => h.when (h.on _).burnFuses
  | _ => exact dev _

end State.KeepsSafe

theorem State.tick_safe {s : State} (h : s.Safe) : s.tick.Safe := by
  obtain ⟨hmem, hflash⟩ := s.safe_iff_chip_canonical.mp h
  exact s.tick.safe_iff_chip_canonical.mpr ⟨Work.Canonical.writeTraces (w := (s.dev.tick, s.mem)) hmem, hflash⟩

/-- Settles O3, by what each command does to the memories, and a tick's records of the Skewer. -/
theorem stepKeepsMemoriesCanonical : Obligations.StepKeepsMemoriesCanonical := by
  unfold Obligations.StepKeepsMemoriesCanonical
  intro s t hs hstep
  unfold step at hstep
  split at hstep
  · obtain rfl := Host.Outcome.next.inj hstep
    exact s.tick_safe hs
  · next c rest hq =>
    obtain ⟨x, hx, hkeep⟩ := State.KeepsSafe.exec (s := { s with pending := rest }) c
    obtain rfl := Host.Outcome.next.inj (hx.symm.trans hstep)
    exact (State.safe_iff_chip_canonical _).mpr (hkeep (s.safe_iff_chip_canonical.mp hs))

/-- Settles O1, by the definition of a step. -/
theorem stepRunsFrontCommand : Obligations.StepRunsFrontCommand := by
  unfold Obligations.StepRunsFrontCommand
  intro c rest s hq
  rw [step, hq]

end Sys2Proof.Machine

/-! A tick of the time base: what it can change, and that HBM3 does not come up in it. -/

namespace Sys2Proof.Machine

/-! What a tick of the device leaves alone -/

/-- The device without what a tick can change beside the time: the words, the lanes, the accumulators, the bandwidth monitors and the
containers of the egress. -/
def Dev.tickRest (d : Dev) : Dev := { d with words := [], lanes := [], acc := [], bw := [], egress := [] }

theorem Dev.eq_of_tickRest_eq {d e : Dev} (h : e.tickRest = d.tickRest) :
    e = { d with words := e.words, lanes := e.lanes, acc := e.acc, bw := e.bw, egress := e.egress } :=
  congrArg (fun x : Dev => { x with words := e.words, lanes := e.lanes, acc := e.acc, bw := e.bw, egress := e.egress }) h

/-- `e` comes from `d` within a tick: the rest is as it was, and the stacks of HBM3 have not come to be trained. -/
structure Dev.TickFrom (d e : Dev) : Prop where
  rest : e.tickRest = d.tickRest
  trained : e.hbmTrained = true → d.hbmTrained = true

/-- The stacks' status follows the word of `HBM.STAT`. -/
theorem Dev.hbmTrained_of_word {d e : Dev} (h : e.word Reg.hbmStat = d.word Reg.hbmStat) : e.hbmTrained = d.hbmTrained := by
  have hget (f : Field) (hf : f.off = Reg.hbmStat) : e.get f = d.get f := by rw [Dev.get, Dev.get, hf, h]
  rw [Dev.hbmTrained, Dev.hbmTrained, Dev.on, Dev.on, Dev.on, Dev.on, hget _ rfl, hget _ rfl]

/-- The bytes that packets take in a queue are whole blocks of 64. -/
theorem roomOf_mod (l : List Packet) : roomOf l % 64 = 0 :=
  List.foldlRecOn (motive := fun n => n % 64 = 0) l _ rfl fun n hn p _ => by rw [Packet.room]; omega

namespace Dev.TickFrom

variable {d e : Dev}

theorem refl (d : Dev) : d.TickFrom d := ⟨rfl, id⟩

/-- The words stay, and what else changes is none of the rest. -/
theorem of_words (h : d.TickFrom e) {x : Dev} (hrest : x.tickRest = e.tickRest) (hwords : x.words = e.words) : d.TickFrom x :=
  ⟨hrest.trans h.rest, fun hx => h.trained (by rwa [← Dev.hbmTrained_of_word (congrArg (Store.get resetWord · _) hwords)])⟩

/-- The lanes are none of the rest. -/
theorem of_lanes (h : d.TickFrom e) (l : Store LaneSt) : d.TickFrom { e with lanes := l } := h.of_words rfl (Dev.with_lanes_words e l)

theorem setWord_of (h : d.TickFrom e) {a : Nat} {w : W32} (ht : (e.setWord a w).hbmTrained = true → e.hbmTrained = true) :
    d.TickFrom (e.setWord a w) := ⟨h.rest, fun hx => h.trained (ht hx)⟩

theorem setWord (h : d.TickFrom e) {a : Nat} (ha : a ≠ Reg.hbmStat) (w : W32) : d.TickFrom (e.setWord a w) :=
  h.setWord_of (Dev.hbmTrained_of_word (e.word_setWord_other w (Ne.symm ha))).symm.trans

theorem put (h : d.TickFrom e) {f : Field} (hf : f.off ≠ Reg.hbmStat) (v : Nat) : d.TickFrom (e.put f v) := h.setWord hf _

/-- A room register that comes to lie on `HBM.STAT` shows whole blocks, and so no trained stack. -/
theorem putRoom (h : d.TickFrom e) (f : Nat) (l : List Packet) : d.TickFrom (e.put (F.ctxStL2f.at 16 f) (roomOf l)) := by
  by_cases hf : (F.ctxStL2f.at 16 f).off = Reg.hbmStat
  · refine h.setWord_of fun hx => ?_
    have hclear : getF (putF (e.word (F.ctxStL2f.at 16 f).off) 0 20 (roomOf l)) 0 1 = 0 := by
      have hfield := getF_putF_same (e.word (F.ctxStL2f.at 16 f).off) 0 20 (roomOf l) (by decide)
      have hmod := roomOf_mod l
      simp only [getF] at hfield ⊢
      omega
    have hword : (e.setWord (F.ctxStL2f.at 16 f).off (putF (e.word (F.ctxStL2f.at 16 f).off) 0 20 (roomOf l))).get F.hbmStatTrained0
        = 0 := by
      rw [Dev.get, show F.hbmStatTrained0.off = (F.ctxStL2f.at 16 f).off from hf.symm, Dev.word_setWord_same]
      exact hclear
    have hnot := (Bool.and_eq_true_iff.mp hx).1
    rw [Dev.on] at hnot
    exact absurd hword (bne_iff_ne.mp hnot)
  · exact h.put hf _

theorem count (h : d.TickFrom e) (k i c n : Nat) : d.TickFrom (e.count k i c n) := by
  refine h.of_words ?_ (e.count_words k i c n)
  unfold Dev.count
  split
  · rfl
  · cases bwObject k c with
    | none => rfl
    | some o => dsimp only; split <;> rfl

theorem foldl {α : Type} (h : d.TickFrom e) (l : List α) {g : Dev → α → Dev} (hg : ∀ x, ∀ i ∈ l, d.TickFrom x → d.TickFrom (g x i)) :
    d.TickFrom (l.foldl g e) := List.foldlRecOn (motive := d.TickFrom) l g h fun x hx i hi => hg x i hi hx

/-! The parts of a tick -/

theorem unitBegins (h : d.TickFrom e) (n s t : Nat) (u : FabricUnit) : d.TickFrom (e.unitBegins n s t u) := by
  unfold Dev.unitBegins
  extract_lets k x l
  exact Dev.when_ind h fun _ => h.of_words rfl rfl

theorem vcsBegin (h : d.TickFrom e) : d.TickFrom e.vcsBegin :=
  Dev.each_ind h fun _ _ _ hx => Dev.when_ind hx fun _ => hx.foldl _ fun _ u _ hy => hy.unitBegins _ _ _ u

theorem showFill (h : d.TickFrom e) (f : Nat) : d.TickFrom (e.showFill f) := by
  refine (h.putRoom f _).put ?_ _
  change 0x1a100004 + 16 * f ≠ 0x100040100
  omega

theorem psqNote (h : d.TickFrom e) : d.TickFrom e.psqNote :=
  (((h.put (f := F.psqCountL2fBytes) (by decide) _).put (f := F.psqCountF2lBytes) (by decide) _).put (f := F.psqPeakL2fBytes)
    (by decide) _).put (f := F.psqPeakF2lBytes) (by decide) _

theorem releasePackets (h : d.TickFrom e) (n m : Nat) : d.TickFrom (e.releasePackets n m) := by
  have hset (t : TuRx) : d.TickFrom (e.setTu n t) := h.of_lanes _
  unfold Dev.releasePackets
  refine iteInduction (motive := d.TickFrom) (fun _ => h) (fun _ => psqNote (foldl ?_ _ fun _ f _ hx => hx.showFill f))
  exact ((hset _).count ..).count ..

theorem blocksSent (h : d.TickFrom e) (n : Nat) : d.TickFrom (e.blocksSent n) := by
  unfold Dev.blocksSent
  exact Dev.when_ind h fun _ => h.releasePackets n _

/-- The registers of a group stand in the page of protection. -/
theorem protReg_ne {g : Nat} (hg : g < 48) : Reg.protMspStat + 0x40 * g ≠ Reg.hbmStat := by
  simp only [Reg.protMspStat, Reg.hbmStat]
  omega

theorem mspChanged (h : d.TickFrom e) (g : Nat) : d.TickFrom (e.mspChanged g) := by
  refine (h.put (f := F.protEvtMspChg) (by decide) 1).put ?_ 1
  by_cases hg : g < 32
  · simp [hg]
  · simp [hg]

theorem mspShow (h : d.TickFrom e) {g : Nat} (hg : g < 48) : d.TickFrom (e.mspShow g) := by
  unfold Dev.mspShow
  extract_lets p l a f d1 d2
  have ha : a ≠ Reg.hbmStat := protReg_ne hg
  have h1 : d.TickFrom d1 := iteInduction (motive := d.TickFrom)
    (fun _ => ((((((h.put ha _).put ha _).put ha _).put ha _).put ha _).put ha _).put ha _) (fun _ => h.setWord ha 0)
  exact Dev.when_ind (h1.setWord ha _) fun _ => (h1.setWord ha _).mspChanged g

end Dev.TickFrom

theorem Dev.lt_of_mem_mspGroupsOn {d : Dev} {g : Nat} (h : g ∈ d.mspGroupsOn) : g < 48 := by
  obtain ⟨x, -, hx⟩ := List.mem_filterMap.mp h
  split at hx
  · next hc =>
    obtain ⟨hlo, hhi, -⟩ := hc
    have hg : (x.1 - Reg.protMspCfg) / 0x40 = g := Option.some.inj hx
    omega
  · cases hx

/-- The device once the VCs of the tick have begun, and once its blocks have been sent. -/
def Dev.tickBegun (d : Dev) : Dev := { d.vcsBegin with now := d.now + 1 }
def Dev.tickSent (d : Dev) : Dev := (d.tickBegun.lanes.map (fun x => x.1)).foldl Dev.blocksSent d.tickBegun

theorem Dev.tick_eq (d : Dev) : d.tick = d.tickSent.mspGroupsOn.foldl Dev.mspShow d.tickSent := rfl

theorem Dev.tickBegun_from (d : Dev) : Dev.TickFrom { d with now := d.now + 1 } d.tickBegun :=
  have hbegin := (Dev.TickFrom.refl d).vcsBegin
  ⟨congrArg (fun x : Dev => { x with now := d.now + 1 }) hbegin.rest, hbegin.trained⟩

theorem Dev.tick_from (d : Dev) : Dev.TickFrom { d with now := d.now + 1 } d.tick :=
  (d.tickBegun_from.foldl _ fun _ n _ hx => hx.blocksSent n).foldl _ fun _ _ hg hx => hx.mspShow (Dev.lt_of_mem_mspGroupsOn hg)

theorem Dev.TickFrom.hbmUp {d e : Dev} (h : d.TickFrom e) (hd : d.hbmUp = false) : e.hbmUp = false := by
  have hmodes : e.tickRest.modes = d.tickRest.modes := congrArg Dev.modes h.rest
  have htrained := h.trained
  have hup (x : Dev) : x.hbmUp = (x.hbmTrained && x.tickRest.modes.inReset == .no && !x.tickRest.modes.hbmKept) := rfl
  rw [hup] at hd ⊢
  rw [hmodes]
  cases he : e.hbmTrained
  · rfl
  · rwa [htrained he] at hd

/-- A device without a root, a lane and a group: a tick moves the time on. -/
theorem Dev.tick_idle {d : Dev} (hroot : d.rootValid = false) (hlanes : d.lanes = []) (hgroups : d.mspGroupsOn = []) :
    d.tick = { d with now := d.now + 1 } := by
  have hbegin : d.vcsBegin = d := Dev.each_ind (P := fun e => e = d) rfl fun e _ _ he => by rw [he, Dev.when, hroot]; rfl
  have hbegun : d.tickBegun = { d with now := d.now + 1 } := by rw [Dev.tickBegun, hbegin]
  have hsent : d.tickSent = { d with now := d.now + 1 } := by
    rw [Dev.tickSent, hbegun, show ({ d with now := d.now + 1 } : Dev).lanes = [] from hlanes, List.map_nil, List.foldl_nil]
  rw [Dev.tick_eq, hsent, show ({ d with now := d.now + 1 } : Dev).mspGroupsOn = [] from hgroups, List.foldl_nil]

/-! The records of the Skewer that reach its ring -/

/-- A record is written to the ring. -/
def traceStep (x : Work) (r : List Nat) : Work :=
  (x.1.roll F.pmSkwHeadIndex 1, if x.1.traceBase = 0 then x.2
    else memWrite x.2 (x.1.traceBase + 64 * x.1.get F.pmSkwHeadIndex) (r.flatMap (fun v => wordBytes (BitVec.ofNat 32 v))))

/-- The device without its words and what the Skewer holds. -/
def Dev.traceRest (d : Dev) : Dev := { d with words := [], skw := {} }

theorem Dev.traceRest_put (d : Dev) (f : Field) (v : Nat) : (d.put f v).traceRest = d.traceRest := rfl

theorem writeTraces_up {w : Work} (h : w.1.hbmUp = true) :
    writeTraces w = w.1.skw.waiting.foldl traceStep ({ w.1 with skw := { w.1.skw with waiting := [] } }, w.2) := by
  unfold writeTraces
  rw [h]
  rfl

theorem writeTraces_down {w : Work} (h : w.1.hbmUp = false) : writeTraces w = w := by
  unfold writeTraces
  rw [h]
  rfl

theorem writeTraces_none {w : Work} (h : w.1.skw.waiting = []) : writeTraces w = w := by
  cases hup : w.1.hbmUp with
  | false => exact writeTraces_down hup
  | true =>
    rw [writeTraces_up hup, h, List.foldl_nil, ← h]

theorem writeTraces_traceRest (w : Work) : (writeTraces w).1.traceRest = w.1.traceRest := by
  cases hup : w.1.hbmUp with
  | false => rw [writeTraces_down hup]
  | true =>
    rw [writeTraces_up hup]
    exact List.foldlRecOn (motive := fun x : Work => x.1.traceRest = w.1.traceRest) _ traceStep rfl fun x hx _ _ => (x.1.traceRest_put _ _).trans hx

theorem Dev.eq_of_traceRest_eq {d e : Dev} (h : e.traceRest = d.traceRest) : e = { d with words := e.words, skw := e.skw } :=
  congrArg (fun x : Dev => { x with words := e.words, skw := e.skw }) h

/-! Commands and ticks -/

theorem exec_next_pending (c : Instr) (s : State) : ∃ t, exec c s = .next t ∧ t.pending = s.pending := by
  obtain ⟨x, hx, -⟩ := State.KeepsSafe.exec (s := s) c
  exact ⟨_, hx, rfl⟩

theorem step_of_idle {s : State} (h : s.pending = []) : step s = .next s.tick := by
  rw [step, h]

section
variable (s : State)

theorem State.tick_now : s.tick.dev.now = s.dev.now + 1 := by
  have htrace : s.tick.dev.traceRest.now = s.dev.tick.traceRest.now := congrArg Dev.now (writeTraces_traceRest (s.dev.tick, s.mem))
  have htick : s.dev.tick.tickRest.now = (Dev.tickRest { s.dev with now := s.dev.now + 1 }).now := congrArg Dev.now s.dev.tick_from.rest
  exact htrace.trans htick

theorem State.tick_dev : s.tick.dev = { s.dev with
    now := s.tick.dev.now, words := s.tick.dev.words, lanes := s.tick.dev.lanes, acc := s.tick.dev.acc, bw := s.tick.dev.bw,
    egress := s.tick.dev.egress, skw := s.tick.dev.skw } := by
  have htrace : s.tick.dev.traceRest = s.dev.tick.traceRest := writeTraces_traceRest (s.dev.tick, s.mem)
  have htick := s.dev.tick_from.rest
  have hrest : s.tick.dev.traceRest.tickRest = (Dev.tickRest { s.dev with now := s.dev.now + 1 }).traceRest :=
    (congrArg Dev.tickRest htrace).trans (congrArg Dev.traceRest htick)
  exact congrArg (fun x : Dev => { x with
    now := s.tick.dev.now, words := s.tick.dev.words, lanes := s.tick.dev.lanes, acc := s.tick.dev.acc, bw := s.tick.dev.bw,
    egress := s.tick.dev.egress, skw := s.tick.dev.skw }) hrest

theorem State.tick_mem (h : s.dev.hbmUp = false ∨ s.dev.skw.waiting = []) : s.tick.mem = s.mem := by
  have hskw : s.dev.tick.tickRest.skw = (Dev.tickRest { s.dev with now := s.dev.now + 1 }).skw := congrArg Dev.skw s.dev.tick_from.rest
  rcases h with hup | hnone
  · exact congrArg Prod.snd (writeTraces_down (w := (s.dev.tick, s.mem)) (s.dev.tick_from.hbmUp hup))
  · exact congrArg Prod.snd (writeTraces_none (w := (s.dev.tick, s.mem)) ((congrArg Skewer.waiting hskw).trans hnone))

theorem State.tick_idle (hroot : s.dev.rootValid = false) (hlanes : s.dev.lanes = []) (hgroups : s.dev.mspGroupsOn = [])
    (hnone : s.dev.skw.waiting = []) : s.tick = { s with dev := { s.dev with now := s.dev.now + 1 } } := by
  have hnone' : ({ s.dev with now := s.dev.now + 1 } : Dev).skw.waiting = [] := hnone
  rw [State.tick, Dev.tick_idle hroot hlanes hgroups, writeTraces_none hnone']

end

/-- Settles O2, by what each command answers, and by what a tick changes. -/
theorem queueAndIdleSteps : Obligations.QueueAndIdleSteps := by
  unfold Obligations.QueueAndIdleSteps
  refine ⟨exec_next_pending, fun s hq => ⟨s.tick, step_of_idle hq, s.tick_now, ?_, s.tick_mem, fun hroot hlanes hgroups hnone => ?_⟩⟩
  · exact congrArg (fun d => ({ s with mem := s.tick.mem, dev := d } : State)) s.tick_dev
  · rw [s.tick_idle hroot hlanes hgroups hnone]

/-- Settles O59, by the state after reset. -/
theorem stateAfterReset : Obligations.StateAfterReset := by
  unfold Obligations.StateAfterReset
  refine ⟨rfl, rfl, rfl, by decide, by decide, by decide, by decide, by decide, by decide, by decide, ?_, fun _ _ => rfl, fun _ _ => rfl⟩
  decide

end Sys2Proof.Machine

/-! The bus matrix: registers that software shares with the device, transactions to the processor SRAM, those that wait, reads with effects,
and the accesses of a debugger. -/

namespace Sys2Proof.Machine

/-! A master without a transaction under way -/

theorem Dev.burst_of_idle {d : Dev} {m : Nat} (h : d.inBurst m = false) : d.burst m = {} := by
  simpa [Dev.inBurst] using h

theorem Chip.drain_of_idle {c : Chip} {m : Nat} (h : c.dev.inBurst m = false) : c.drain m = c := by
  rw [Chip.drain, Dev.burst_of_idle h]
  rfl

theorem Chip.close_of_idle {c : Chip} {m : Nat} (h : c.dev.inBurst m = false) : c.close m = c := by
  simp [Chip.close, h]

theorem Chip.drain_close_of_idle {c : Chip} {m : Nat} (h : c.dev.inBurst m = false) : (c.drain m).close m = c := by
  rw [Chip.drain_of_idle h, Chip.close_of_idle h]

/-- What a granted access passes: the matrix, of a master that issues such accesses. -/
theorem Dev.matrixGrant_of_grant {d : Dev} {m a : Nat} {w : Bool} (h : d.grant m a w = .ok) : d.matrixGrant m a w = .ok := by
  unfold Dev.grant at h
  split at h
  · cases h
  · exact h

theorem Dev.lt_three_of_grant {d : Dev} {m a : Nat} {w : Bool} (h : d.grant m a w = .ok) : m < 3 := by
  have hm := Dev.matrixGrant_of_grant h
  unfold Dev.matrixGrant at hm
  split at hm
  · cases hm
  · next hc => omega

theorem Dev.busGrant_of_grant {d : Dev} {m a : Nat} {w : Bool} (h : d.grant m a w = .ok) : d.busGrant m a w = .ok := by
  rw [Dev.busGrant, if_neg (Nat.not_le.mpr (Dev.lt_three_of_grant h)), Dev.matrixGrant_of_grant h]

/-- An access that is answered, whose effect reaches words at the addresses of `l` alone. -/
theorem answeredWords_answered {s : State} {e : Dev} {l : List Nat} (he : Dev.WordsOnly l s.dev e) (m a : Nat) (c w : Bool) (r : Resp)
    (data : List Byte) (b : Nat) :
    AnsweredWords m r l s
      { s with dev := ((e.when c fun x => x.noteWrite a).reply m { resp := r, data := data }).fecSeen m a w r b } := by
  obtain ⟨hframe, hreply, -⟩ := e.answered_frame m a c w r data b
  obtain ⟨heq, hbut⟩ := he
  generalize ((e.when c fun x => x.noteWrite a).reply m { resp := r, data := data }).fecSeen m a w r b = x at hframe hreply ⊢
  have hword (n : Nat) : x.word n = e.word n := by rw [hframe]; rfl
  refine ⟨?_, ?_, fun n hn => (hword n).trans (hbut n hn)⟩
  · have hx : x = { s.dev with words := x.words, replies := x.replies, fec := x.fec, mate := x.mate } := by
      rw [hframe, heq]
    exact congrArg (fun d => ({ s with dev := d } : State)) hx
  · rw [heq] at hreply
    exact hreply

/-! The common header (R656) -/

section
variable (p : PageNo)

theorem isPageAddr_pageAddr {o : Nat} (ho : o < 0x1_0000) : isPageAddr (pageAddr p o) = true := by
  have hp := p.isLt
  refine Bool.and_eq_true_iff.mpr ⟨decide_eq_true ?_, decide_eq_true ?_⟩ <;> (unfold pageAddr; omega)

theorem pageOf_pageAddr {o : Nat} (ho : o < 0x1_0000) : pageOf (pageAddr p o) = p.val := by
  simp only [pageOf, pageAddr]
  omega

theorem offOf_pageAddr {o : Nat} (ho : o < 0x1_0000) : offOf (pageAddr p o) = o := by
  simp only [offOf, pageAddr]
  omega

theorem targetOf_pageAddr {o : Nat} (ho : o < 0x1_0000) : targetOf (pageAddr p o) = some 3 := by
  have hpage := isPageAddr_pageAddr p ho
  unfold targetOf
  rw [if_neg, if_neg, if_neg, if_pos hpage] <;> (unfold pageAddr; omega)

/-- The table entries of `MASK` and `STICKY` on page `p`. -/
theorem regDefOf_hdrMask :
    regDefOf (pageAddr p Reg.hdrMask) = some ⟨0x1c, 1, 4, 0x1f0000 + pageEvtMask p.val, 0, 0x10000, []⟩ := by
  rw [regDefOf, if_pos (isPageAddr_pageAddr p (by decide)), pageOf_pageAddr p (by decide), offOf_pageAddr p (by decide)]
  rfl

theorem regDefOf_hdrSticky :
    regDefOf (pageAddr p Reg.hdrSticky) = some ⟨0x18, 1, 4, 0, 0x1e0000 + pageEvtMask p.val, 0, []⟩ := by
  rw [regDefOf, if_pos (isPageAddr_pageAddr p (by decide)), pageOf_pageAddr p (by decide), offOf_pageAddr p (by decide)]
  rfl

/-- The write-one-to-clear bits of `STICKY` are the events but for EVT_SUM. -/
theorem sticky_w1c : BitVec.ofNat 32 (0x1e0000 + pageEvtMask p.val) = headerEvents p &&& ~~~0x10000#32 := by
  rw [headerEvents, pageEvtMask]
  split
  · rfl
  · split <;> rfl

end

/-- A write of the header's `MASK` or `STICKY`, which has no effect beyond its fields. -/
theorem exec_registerWrite_header {m : Master} {p : PageNo} {o : Nat} {data : W32} {be : BitVec 4} {a : Addr} {s : State}
    (hfree : s.dev.busFree m.val = true) (hidle : s.dev.inBurst m.val = false) (hgrant : s.mayWrite m.val a.toNat)
    (ha : a.toNat = pageAddr p o) (ho : o < 0x100) (ho4 : o % 4 = 0) (hreq : o ≠ Reg.hdrReq) :
    exec (.registerWrite m a data be) s = .next { s with
      dev := (((s.dev.regWrite a.toNat (s.dev.merge a.toNat data be)).when true fun x => x.noteWrite a.toNat).reply m.val
        { resp := .okay }).fecSeen m.val a.toNat true .okay 1 } := by
  have hlt : o < 0x1_0000 := by omega
  have hm : m.val < 3 := Dev.lt_three_of_grant hgrant
  have hword : a.toNat / 4 * 4 = a.toNat := by
    rw [ha, pageAddr]
    omega
  have htarget : targetOf a.toNat = some 3 := ha ▸ targetOf_pageAddr p hlt
  have hmap : ¬ (0x1000_0000 ≤ a.toNat ∧ a.toNat < 0x1400_0000) := by
    rw [ha, pageAddr]
    omega
  have hput : Chip.putWord s.chip m.val a.toNat data be =
      (s.chip.on (fun d => (d.regWrite a.toNat (d.merge a.toNat data be)).when true fun x => x.noteWrite a.toNat), .okay) := by
    have hoff : offOf a.toNat = o := ha ▸ offOf_pageAddr p hlt
    have hpage : isPageAddr a.toNat = true := ha ▸ isPageAddr_pageAddr p hlt
    rw [Chip.putWord, show s.chip.dev = s.dev from rfl, Dev.busGrant_of_grant hgrant]
    simp only [Dev.merged, if_neg hmap, Chip.wordWrite, hpage, if_true, Chip.pageWrite, hoff, if_neg hreq, if_pos ho]
    rfl
  have hrmw (d : Dev) : d.rmwRead a.toNat (a.toNat + 4) .clean = d := by
    rw [Dev.rmwRead, htarget]
    rfl
  change Host.Outcome.next (s.run fun c => c.when (decide (m.val < 3)) fun x => x.registerWrite m.val (a.toNat / 4 * 4) data be) = _
  rw [hword, State.run, Chip.when, decide_eq_true hm, if_pos rfl, Chip.registerWrite, hfree, htarget,
    Chip.drain_close_of_idle (c := { dev := s.dev, mem := s.mem, flash := s.flash }) hidle]
  simp only [Bool.not_true, Bool.false_eq_true, if_false, true_or, if_true]
  rw [show Chip.putWord { dev := s.dev, mem := s.mem, flash := s.flash } m.val a.toNat data be = _ from hput]
  simp only [Chip.on, hrmw, State.chip]
  rfl

/-! A written register -/

theorem Dev.regWrite_of_def {d : Dev} {a : Nat} {r : RegDef} (h : regDefOf a = some r) (data : W32) :
    d.regWrite a data = d.setWord a (r.written (d.word a) data) := by
  rw [Dev.regWrite, h]

theorem Dev.regWrite_wordsOnly (d : Dev) (a : Nat) (data : W32) : Dev.WordsOnly [a] d (d.regWrite a data) := by
  unfold Dev.regWrite
  split
  · exact (Dev.WordsOnly.refl _ d).setWord (List.mem_singleton_self a) _
  · exact Dev.WordsOnly.refl _ d

theorem Dev.word_answered (d : Dev) (m a b : Nat) (c w : Bool) (r : Reply) (q : Resp) (n : Nat) :
    (((d.when c fun x => x.noteWrite a).reply m r).fecSeen m a w q n).word b = d.word b := by
  have hnote : (d.when c fun x => x.noteWrite a).words = d.words :=
    Dev.when_ind (P := fun e => e.words = d.words) rfl fun _ => by rw [d.noteWrite_frame a]
  rw [Dev.word, Dev.fecSeen_words, Dev.reply_words, hnote, ← Dev.word]

/-- The RW fields of a register that byte enables select, written through `MASK`. -/
theorem written_merge_rw (old data m rw : W32) :
    ((old &&& ~~~rw) ||| (((data &&& m) ||| (old &&& rw &&& ~~~m)) &&& rw)) &&& ~~~(((data &&& m) ||| (old &&& rw &&& ~~~m)) &&& 0#32)
      = (old &&& ~~~(m &&& rw)) ||| (data &&& (m &&& rw)) := by
  apply BitVec.eq_of_getLsbD_eq
  intro i hi
  simp only [BitVec.getLsbD_and, BitVec.getLsbD_or, BitVec.getLsbD_not, BitVec.getLsbD_zero, hi, decide_true, Bool.true_and]
  cases old.getLsbD i <;> cases data.getLsbD i <;> cases m.getLsbD i <;> cases rw.getLsbD i <;> rfl

/-- The write-one-to-clear bits of a register that byte enables select. -/
theorem written_merge_w1c (old data m c : W32) :
    ((old &&& ~~~0#32) ||| (((data &&& m) ||| (old &&& 0#32 &&& ~~~m)) &&& 0#32)) &&& ~~~(((data &&& m) ||| (old &&& 0#32 &&& ~~~m)) &&& c)
      = old &&& ~~~(data &&& (m &&& c)) := by
  apply BitVec.eq_of_getLsbD_eq
  intro i hi
  simp only [BitVec.getLsbD_and, BitVec.getLsbD_or, BitVec.getLsbD_not, BitVec.getLsbD_zero, hi, decide_true, Bool.true_and]
  cases old.getLsbD i <;> cases data.getLsbD i <;> cases m.getLsbD i <;> cases c.getLsbD i <;> rfl

section
variable (m : Master) (p : PageNo) (data : W32) (be : BitVec 4) (a : Addr) (s : State) (hfree : s.dev.busFree m.val = true)
  (hidle : s.dev.inBurst m.val = false) (hgrant : s.mayWrite m.val a.toNat)

include hfree hidle hgrant

theorem registerWrite_mask (ha : a.toNat = pageAddr p Reg.hdrMask) :
    ∃ t, exec (.registerWrite m a data be) s = .next t ∧ AnsweredWords m.val .okay [a.toNat] s t
      ∧ t.dev.word a.toNat = ((s.dev.word a.toNat &&& ~~~(BitVec.ofNat 32 (beMask be) &&& headerEvents p))
          ||| (data &&& (BitVec.ofNat 32 (beMask be) &&& headerEvents p))) := by
  have hdef : regDefOf a.toNat = some ⟨0x1c, 1, 4, 0x1f0000 + pageEvtMask p.val, 0, 0x10000, []⟩ := ha ▸ regDefOf_hdrMask p
  refine ⟨_, exec_registerWrite_header hfree hidle hgrant ha (by decide) (by decide) (by decide),
    answeredWords_answered (s.dev.regWrite_wordsOnly _ _) m.val a.toNat true true .okay [] 1, ?_⟩
  rw [Dev.word_answered, Dev.regWrite_of_def hdef, Dev.word_setWord_same, Dev.merge, rwMask, hdef]
  exact written_merge_rw ..

theorem registerWrite_sticky (ha : a.toNat = pageAddr p Reg.hdrSticky) :
    ∃ t, exec (.registerWrite m a data be) s = .next t ∧ AnsweredWords m.val .okay [a.toNat] s t
      ∧ t.dev.word a.toNat
          = (s.dev.word a.toNat &&& ~~~(data &&& (BitVec.ofNat 32 (beMask be) &&& headerEvents p &&& ~~~0x10000#32))) := by
  have hdef : regDefOf a.toNat = some ⟨0x18, 1, 4, 0, 0x1e0000 + pageEvtMask p.val, 0, []⟩ := ha ▸ regDefOf_hdrSticky p
  refine ⟨_, exec_registerWrite_header hfree hidle hgrant ha (by decide) (by decide) (by decide),
    answeredWords_answered (s.dev.regWrite_wordsOnly _ _) m.val a.toNat true true .okay [] 1, ?_⟩
  rw [Dev.word_answered, Dev.regWrite_of_def hdef, Dev.word_setWord_same, Dev.merge, rwMask, hdef]
  exact (written_merge_w1c ..).trans (by rw [sticky_w1c, BitVec.and_assoc])

end

/-! `DEV.BOOTCTL` (R521, R603) -/

section
variable (m : Master) (data : W32) (s : State) (hgrant : s.mayWrite m.val Reg.devBootctl)

include hgrant

theorem remapWrite_machine (hm : m.val = 1) :
    ∃ t, exec (.remapWrite m data) s = .next t ∧ AnsweredWords m.val .okay [Reg.devBootctl] s t
      ∧ t.dev.word Reg.devBootctl = ((s.dev.word Reg.devBootctl &&& ~~~1#32) ||| (data &&& 1#32)) := by
  have hop : s.dev.writeBootctl m.val data = (s.dev.regWrite Reg.devBootctl data, .okay) := if_pos hm
  refine ⟨_, rfl, answeredWords_write hgrant hop (s.dev.regWrite_wordsOnly _ data), ?_⟩
  have hdef : regDefOf Reg.devBootctl = some ⟨0x180, 1, 4, 1, 0, 0, []⟩ := by decide
  rw [Dev.write_ok_word hgrant, hop, Dev.regWrite_of_def hdef, Dev.word_setWord_same]
  change (s.dev.word Reg.devBootctl &&& ~~~1#32 ||| data &&& 1#32) &&& ~~~(data &&& 0#32) = _
  rw [BitVec.and_zero, BitVec.not_zero, BitVec.and_allOnes]

theorem remapWrite_others (hm : m.val ≠ 1) :
    ∃ t, exec (.remapWrite m data) s = .next t ∧ AnsweredWords m.val .slverr [] s t :=
  ⟨_, rfl, answeredWords_write hgrant (if_neg hm) (Dev.WordsOnly.refl _ _)⟩

end

/-- Settles O4, by the bits of `MASK`, of `STICKY` and of `DEV.BOOTCTL` that a write reaches. -/
theorem sharedRegisterWrites : Obligations.SharedRegisterWrites := by
  unfold Obligations.SharedRegisterWrites
  exact ⟨fun m p data be a s _ hfree hidle hgrant => ⟨registerWrite_mask m p data be a s hfree hidle hgrant,
      registerWrite_sticky m p data be a s hfree hidle hgrant⟩,
    fun m data s hgrant => ⟨remapWrite_machine m data s hgrant, remapWrite_others m data s hgrant⟩⟩

end Sys2Proof.Machine

/-! The order of the requests of protection (R433 to R435). -/

namespace Sys2Proof.Machine

/-! The best request of a list -/

theorem Req.before_iff (a b : Req) : a.before b = true ↔ a.rank < b.rank ∨ (a.rank = b.rank ∧ a.ch < b.ch) := by
  simp [Req.before]

/-- The step of `bestReq`. -/
def Req.pick (a b : Req) : Req := if b.before a then b else a

/-- `a` is no worse than `b`: of a higher rank, or of the same and of no higher channel. -/
def Req.noWorse (a b : Req) : Prop := a.rank < b.rank ∨ (a.rank = b.rank ∧ a.ch ≤ b.ch)

theorem Req.noWorse_pick_left (a b : Req) : (a.pick b).noWorse a := by
  unfold Req.pick Req.noWorse
  split
  case isTrue h =>
    rw [Req.before_iff] at h
    omega
  case isFalse => omega

theorem Req.noWorse_pick_right (a b : Req) : (a.pick b).noWorse b := by
  unfold Req.pick Req.noWorse
  split
  case isTrue => omega
  case isFalse h =>
    rw [Req.before_iff] at h
    omega

theorem Req.noWorse.trans {a b c : Req} (h : a.noWorse b) (h' : b.noWorse c) : a.noWorse c := by
  unfold Req.noWorse at *
  omega

theorem Req.pick_eq (a b : Req) : a.pick b = a ∨ a.pick b = b := by
  unfold Req.pick
  split
  · exact .inr rfl
  · exact .inl rfl

theorem foldl_pick_noWorse (l : List Req) : ∀ a : Req,
    (l.foldl Req.pick a).noWorse a ∧ ∀ r ∈ l, (l.foldl Req.pick a).noWorse r := by
  induction l with
  | nil => exact fun a => ⟨.inr ⟨rfl, Nat.le_refl _⟩, fun r hr => absurd hr (by simp)⟩
  | cons x xs ih =>
    intro a
    obtain ⟨hstart, hrest⟩ := ih (a.pick x)
    refine ⟨hstart.trans (a.noWorse_pick_left x), fun r hr => ?_⟩
    rcases List.mem_cons.mp hr with rfl | hin
    · exact hstart.trans (a.noWorse_pick_right _)
    · exact hrest r hin

theorem foldl_pick_mem (l : List Req) : ∀ a : Req, l.foldl Req.pick a = a ∨ l.foldl Req.pick a ∈ l := by
  induction l with
  | nil => exact fun a => .inl rfl
  | cons x xs ih =>
    intro a
    rcases ih (a.pick x) with h | h
    · rw [List.foldl_cons, h]
      exact (a.pick_eq x).imp id fun hx => List.mem_cons.mpr (.inl hx)
    · exact .inr (List.mem_cons_of_mem _ h)

theorem bestReq_eq (l : List Req) : bestReq l = l.foldl Req.pick ⟨rkNr, 0⟩ := rfl

theorem bestReq_noWorse {l : List Req} {r : Req} (h : r ∈ l) : (bestReq l).noWorse r :=
  (foldl_pick_noWorse l _).2 r h

/-- A list that asks for anything has its best request among its own. -/
theorem bestReq_mem {l : List Req} {r : Req} (h : r ∈ l) (hr : r.rank < rkNr) : bestReq l ∈ l := by
  refine (foldl_pick_mem l ⟨rkNr, 0⟩).resolve_left fun heq => ?_
  have hbest : (⟨rkNr, 0⟩ : Req).noWorse r := heq ▸ bestReq_eq l ▸ bestReq_noWorse h
  simp only [Req.noWorse] at hbest
  omega

/-! The judgement of a command -/

/-- What is in force ranks at least as high as the local request. -/
theorem ProtSt.inForce_rank_le (p : ProtSt) (prio : List Nat) (r : Req) :
    (p.inForce prio r).rank ≤ (p.localReq prio).rank := by
  simp only [ProtSt.inForce]
  split
  case isTrue h =>
    rw [Req.before_iff] at h
    omega
  case isFalse => exact Nat.le_refl _

theorem ProtSt.inForce_rank_le_of_mem {p : ProtSt} {prio : List Nat} {x : Req} (h : x ∈ p.requests prio) (r : Req) :
    (p.inForce prio r).rank ≤ x.rank := by
  have hlocal : (p.localReq prio).noWorse x := bestReq_noWorse h
  have hforce := p.inForce_rank_le prio r
  unfold Req.noWorse at hlocal
  omega

/-- R435: a command that ranks what is in force, or above it, is refused. -/
theorem ProtSt.judge_of_outranked {p : ProtSt} {prio : List Nat} {r : Req} {n ch : Nat} {c : ProtCmd}
    (hc : c = .forced ∨ c = .manual ∨ c = .exercise) (hch : ch ≤ n) (h : (p.inForce prio r).rank ≤ c.rank) :
    p.judge prio r n c ch = resRefused := by
  rcases hc with rfl | rfl | rfl <;> simp [ProtSt.judge, Nat.not_lt.mpr hch, h]

theorem ProtSt.judge_lockout (p : ProtSt) (prio : List Nat) (r : Req) (n ch : Nat) :
    p.judge prio r n .lockout ch = if ch = 0 then resAccepted else resArg := by
  by_cases h : ch = 0 <;> simp [ProtSt.judge, h]

/-- Settles O43: a fold that keeps the better of two ends at one no worse than any member, and what is in force ranks no lower
than any request. -/
theorem requestOrder : Obligations.RequestOrder := by
  refine ⟨fun l r hr hrank => ?_, fun p prio r n c ch hc hch h => ?_, ProtSt.judge_lockout⟩
  · have hbest := bestReq_noWorse hr
    unfold Req.noWorse at hbest
    exact ⟨by omega, by omega, bestReq_mem hr hrank⟩
  · obtain ⟨x, hx, hrank⟩ := h
    exact ProtSt.judge_of_outranked hc hch ((ProtSt.inForce_rank_le_of_mem hx r).trans hrank)

end Sys2Proof.Machine

/-! The recovered-clock outputs (R78, R79). -/

namespace Sys2Proof.Machine

/-! Updates of words under a condition, and of words beside another field -/

/-- An update under a condition keeps what both of its ends have. -/
theorem Dev.when_of {P : Dev → Prop} {d : Dev} {g : Dev → Dev} (c : Bool) (h : P d) (hg : P (g d)) : P (d.when c g) := by
  cases c
  · exact h
  · exact hg

theorem Dev.get_congr {d e : Dev} (h : d.words = e.words) (f : Field) : d.get f = e.get f := by
  rw [Dev.get, Dev.word, h, Dev.get, Dev.word]

theorem Dev.on_congr {d e : Dev} (h : d.words = e.words) (f : Field) : d.on f = e.on f := by
  rw [Dev.on, Dev.get_congr h, Dev.on]

theorem Dev.WordsBut.put {l : List Nat} {d e : Dev} (h : Dev.WordsBut l d e) {f : Field} (hf : f.off ∈ l) (v : Nat) :
    Dev.WordsBut l d (e.put f v) := h.setWord hf _

theorem Dev.WordsBut.raise {l : List Nat} {d e : Dev} (h : Dev.WordsBut l d e) {f : Field} (hf : f.off ∈ l) :
    Dev.WordsBut l d (e.raise f) := h.setWord hf _

theorem Dev.WordsBut.lower {l : List Nat} {d e : Dev} (h : Dev.WordsBut l d e) {f : Field} (hf : f.off ∈ l) :
    Dev.WordsBut l d (e.lower f) := h.setWord hf _

theorem Dev.WordsBut.roll {l : List Nat} {d e : Dev} (h : Dev.WordsBut l d e) {f : Field} (hf : f.off ∈ l) (n : Nat) :
    Dev.WordsBut l d (e.roll f n) := h.setWord hf _

theorem Dev.WordsBut.bump {l : List Nat} {d e : Dev} (h : Dev.WordsBut l d e) {f : Field} (hf : f.off ∈ l) (n : Nat) :
    Dev.WordsBut l d (e.bump f n) := h.setWord hf _

theorem Dev.WordsBut.of_words {l : List Nat} {d e x : Dev} (h : Dev.WordsBut l d e) (hx : x.words = e.words) : Dev.WordsBut l d x :=
  fun a ha => (show x.word a = e.word a by rw [Dev.word, hx, Dev.word]).trans (h a ha)

/-- A field whose register is not among the changed words. -/
theorem Dev.WordsBut.get {l : List Nat} {d e : Dev} (h : Dev.WordsBut l d e) {f : Field} (hf : f.off ∉ l) : e.get f = d.get f := by
  rw [Dev.get, h f.off hf, Dev.get]

theorem Dev.WordsBut.on {l : List Nat} {d e : Dev} (h : Dev.WordsBut l d e) {f : Field} (hf : f.off ∉ l) : e.on f = d.on f := by
  rw [Dev.on, h.get hf, Dev.on]

theorem Dev.WordsBut.trans {l : List Nat} {c d e : Dev} (h : Dev.WordsBut l c d) (h' : Dev.WordsBut l d e) : Dev.WordsBut l c e :=
  fun a ha => (h' a ha).trans (h a ha)

theorem Dev.WordsBut.mono {l k : List Nat} {d e : Dev} (h : Dev.WordsBut l d e) (hl : l ⊆ k) : Dev.WordsBut k d e :=
  fun a ha => h a fun hc => ha (hl hc)

namespace Dev.WordsOnly

variable {l : List Nat} {d e : Dev}

theorem raise (h : Dev.WordsOnly l d e) {f : Field} (hf : f.off ∈ l) : Dev.WordsOnly l d (e.raise f) := h.put hf 1

theorem lower (h : Dev.WordsOnly l d e) {f : Field} (hf : f.off ∈ l) : Dev.WordsOnly l d (e.lower f) := h.put hf 0

end Dev.WordsOnly

@[simp] theorem Dev.setTiming_lane (d : Dev) (x : Timing) (n : Nat) : (d.setTiming x).lane n = d.lane n := rfl

theorem Dev.WordsOnly.timing {l : List Nat} {d e : Dev} {x : Timing} (h : Dev.WordsOnly l (d.setTiming x) e) :
    e.timing = x := by rw [h.1, Dev.setTiming_timing]

/-- A state that differs in words and in the timing alone. -/
theorem Dev.WordsOnly.wordsAndTiming {l : List Nat} {s : State} {e : Dev} {x : Timing}
    (h : Dev.WordsOnly l (s.dev.setTiming x) e) :
    ({ s with dev := e } : State) = { s with dev := { s.dev with words := e.words, timing := e.timing } } := by
  refine congrArg (fun d => ({ s with dev := d } : State)) ?_
  have hframe := h.1
  rw [h.timing]
  exact hframe

/-! The squelch -/

/-- R78: the output is held low; it was already, or the loss is an event. -/
theorem Dev.squelchLrc_on (d : Dev) (n : Nat) : (d.squelchLrc n).on (F.clkLrcSquelched.at 4 n) = true := by
  unfold Dev.squelchLrc
  split
  case isTrue h => exact h
  case isFalse h =>
    have hraised := d.on_raise (F.clkLrcSquelched.at 4 n) (by decide : (10 : Nat) + 1 ≤ 32) (by decide : 1 ≤ 1)
    rw [Dev.on, Dev.raise, Dev.get_put_apart _ _ (.inr ⟨by decide, show 10 + 1 ≤ 32 by decide, show 10 + 1 ≤ 6 ∨ 6 + 1 ≤ 10 by decide⟩), ← Dev.on]
    exact hraised

theorem Dev.WordsOnly.squelchLrc {l : List Nat} {d e : Dev} (h : Dev.WordsOnly l d e) (n : Nat)
    (hout : Reg.clkLrc + 4 * n ∈ l) (hevt : pageAddr 1 Reg.hdrSticky ∈ l) : Dev.WordsOnly l d (e.squelchLrc n) := by
  unfold Dev.squelchLrc
  split
  · exact h
  · exact (h.raise hout).raise hevt

theorem Dev.wordsOnly_when_squelchLrc (d : Dev) (n : Nat) (c : Bool) :
    Dev.WordsOnly [Reg.clkLrc + 4 * n, pageAddr 1 Reg.hdrSticky] d (d.when c (fun e => e.squelchLrc n)) :=
  Dev.when_of c (Dev.WordsOnly.refl _ d)
    ((Dev.WordsOnly.refl _ d).squelchLrc n List.mem_cons_self (List.mem_cons_of_mem _ List.mem_cons_self))

/-- Settles O12: the hold of an output is one field of its register, raised where its lane has no lock and lowered when the lock has
lasted. -/
theorem recoveredClocks : Obligations.RecoveredClocks := by
  refine fun n s => ⟨fun since hsince hten hen hpresent hmode => ?_, ?_⟩
  · have hlow : exec (.lrcResume n) s = .next { s with dev := s.dev.lower (F.clkLrcSquelched.at 4 n.val) } := by
      have hboot : (s.dev.mode != modeBoot) = true := bne_iff_ne.mpr hmode
      have hms : since + 10 * ticksPerMs ≤ s.dev.now := hten
      simp only [exec, execLrcResume, hsince, hen, hpresent, hboot, decide_eq_true hms, Bool.and_self, Dev.when, if_true]
    exact ⟨_, hlow, s.dev.on_lower (F.clkLrcSquelched.at 4 n.val) (show 10 + 1 ≤ 32 by decide),
      ((Dev.WordsOnly.refl _ s.dev).lower List.mem_cons_self).onlyWords⟩
  · have hwords := Dev.wordsOnly_when_squelchLrc
      (s.dev.setTiming { s.dev.timing with lrc := s.dev.timing.lrc.set n.val (s.dev.get (F.clkLrcLane.at 4 n.val)) }) n.val
    refine ⟨_, rfl, (hwords _).timing, fun hnone => ?_, (hwords _).2, (hwords _).wordsAndTiming⟩
    simp only [Dev.setTiming_lane, hnone, Option.isNone_none, Bool.true_or, Dev.when, if_true]
    exact Dev.squelchLrc_on _ n.val

end Sys2Proof.Machine

/-! Transactions to the processor SRAM, beat by beat (R518, R522, R525). -/

namespace Sys2Proof.Machine

/-! What a beat of SRAM reaches in the device -/

/-- The device without what a beat of SRAM can change: words, the SRAM's records, the faults seen, and the transactions under way. -/
def Dev.sramRest (d : Dev) : Dev :=
  { d with words := [], sram := {}, bursts := [], modes := { d.modes with faults := [] } }

section
variable (d : Dev)

theorem Dev.put_sramRest (f : Field) (v : Nat) : (d.put f v).sramRest = d.sramRest := rfl
theorem Dev.raise_sramRest (f : Field) : (d.raise f).sramRest = d.sramRest := rfl
theorem Dev.roll_sramRest (f : Field) (n : Nat) : (d.roll f n).sramRest = d.sramRest := rfl
theorem Dev.bump_sramRest (f : Field) (n : Nat) : (d.bump f n).sramRest = d.sramRest := rfl
theorem Dev.transient_sramRest (p n : Nat) : (d.transient p n).sramRest = d.sramRest := d.bump_sramRest _ n
theorem Dev.occurrence_sramRest (c : Nat) : (d.occurrence c).1.sramRest = d.sramRest := rfl
theorem Dev.occurrence_bursts (c : Nat) : (d.occurrence c).1.bursts = d.bursts := rfl
theorem Dev.unpoison_sramRest (a n : Nat) : (d.unpoison a n).sramRest = d.sramRest := rfl
theorem Dev.setBurst_sramRest (m : Nat) (b : Burst) : (d.setBurst m b).sramRest = d.sramRest := rfl
theorem Dev.ueSeen_sramRest (t : Option Nat) : ({ d with sram := { d.sram with ueAt := t } } : Dev).sramRest = d.sramRest := rfl

theorem Dev.sramDue_sramRest (sb : Nat) : (d.sramDue sb).sramRest = d.sramRest := by
  unfold Dev.sramDue
  split <;> rfl

/-- The device without its words and the SRAM's records: the burst of each master is kept by what a beat's ECC does. -/
theorem Dev.sramDue_bursts (sb : Nat) : (d.sramDue sb).bursts = d.bursts := by
  unfold Dev.sramDue
  split <;> rfl

theorem Dev.when_sramDue_sramRest (c : Bool) (sb : Nat) : (d.when c fun x => x.sramDue sb).sramRest = d.sramRest :=
  Dev.when_of (P := fun e => e.sramRest = d.sramRest) c rfl (d.sramDue_sramRest sb)

theorem Dev.when_sramDue_bursts (c : Bool) (sb : Nat) : (d.when c fun x => x.sramDue sb).bursts = d.bursts :=
  Dev.when_of (P := fun e => e.bursts = d.bursts) c rfl (d.sramDue_bursts sb)

/-- `MEM.LAST_ERR` and the transient count, which every read with an error changes. -/
def Dev.sramErr (p : Nat × Nat) (e : EccSeen) : Dev :=
  (((d.put F.memLastErrSubbank p.1).put F.memLastErrWord p.2).put F.memLastErrUe (bitOf (isUe e))).transient 3 (eccTransients e)

theorem Dev.sramErr_sramRest (p : Nat × Nat) (e : EccSeen) : (d.sramErr p e).sramRest = d.sramRest := by
  rw [Dev.sramErr, Dev.transient_sramRest, Dev.put_sramRest, Dev.put_sramRest, Dev.put_sramRest]

theorem Dev.sramErr_bursts (p : Nat × Nat) (e : EccSeen) : (d.sramErr p e).bursts = d.bursts := by
  rw [Dev.sramErr, Dev.transient, Dev.bump_bursts, Dev.put_bursts, Dev.put_bursts, Dev.put_bursts]

/-- An uncorrectable read, with `due` where it makes the sub-bank faulty; and a corrected one. -/
def Dev.sramUe (p : Nat × Nat) (due : Bool) : Dev :=
  let d3 := (d.roll F.memUeCount 1).raise F.memEvtUe
  ({ d3 with sram := { d3.sram with ueAt := some d3.now } } : Dev).when due (fun x => x.sramDue p.1)

def Dev.sramCe (p : Nat × Nat) : Dev :=
  let r := ((d.roll F.memCeCount 1).raise F.memEvtCe).occurrence (wordChannel p)
  r.1.when r.2 (fun x => x.sramDue p.1)

theorem Dev.sramSeen_eq (p : Nat × Nat) (e : EccSeen) :
    d.sramSeen p e = if e = .clean then d else if isUe e = true then (d.sramErr p e).sramUe p (!d.sram.poison.contains p)
      else (d.sramErr p e).sramCe p := rfl

theorem Dev.sramUe_sramRest (p : Nat × Nat) (due : Bool) : (d.sramUe p due).sramRest = d.sramRest := by
  rw [Dev.sramUe, Dev.when_sramDue_sramRest, Dev.ueSeen_sramRest, Dev.raise_sramRest, Dev.roll_sramRest]

theorem Dev.sramUe_bursts (p : Nat × Nat) (due : Bool) : (d.sramUe p due).bursts = d.bursts := by
  rw [Dev.sramUe, Dev.when_sramDue_bursts, Dev.raise_bursts, Dev.roll_bursts]

theorem Dev.sramCe_sramRest (p : Nat × Nat) : (d.sramCe p).sramRest = d.sramRest := by
  rw [Dev.sramCe, Dev.when_sramDue_sramRest, Dev.occurrence_sramRest, Dev.raise_sramRest, Dev.roll_sramRest]

theorem Dev.sramCe_bursts (p : Nat × Nat) : (d.sramCe p).bursts = d.bursts := by
  rw [Dev.sramCe, Dev.when_sramDue_bursts, Dev.occurrence_bursts, Dev.raise_bursts, Dev.roll_bursts]

theorem Dev.sramSeen_clean (p : Nat × Nat) : d.sramSeen p .clean = d := if_pos rfl

/-- What every outcome of a read keeps, the read keeps. -/
theorem Dev.sramSeen_of {P : Dev → Prop} (p : Nat × Nat) (e : EccSeen) (hclean : P d)
    (hue : ∀ due, P ((d.sramErr p e).sramUe p due)) (hce : P ((d.sramErr p e).sramCe p)) : P (d.sramSeen p e) := by
  rw [d.sramSeen_eq]
  split
  · exact hclean
  · split
    · exact hue _
    · exact hce

theorem Dev.sramSeen_sramRest (p : Nat × Nat) (e : EccSeen) : (d.sramSeen p e).sramRest = d.sramRest :=
  Dev.sramSeen_of (P := fun x => x.sramRest = d.sramRest) d p e rfl
    (fun due => ((d.sramErr p e).sramUe_sramRest p due).trans (d.sramErr_sramRest p e))
    (((d.sramErr p e).sramCe_sramRest p).trans (d.sramErr_sramRest p e))

theorem Dev.sramSeen_bursts (p : Nat × Nat) (e : EccSeen) : (d.sramSeen p e).bursts = d.bursts :=
  Dev.sramSeen_of (P := fun x => x.bursts = d.bursts) d p e rfl
    (fun due => ((d.sramErr p e).sramUe_bursts p due).trans (d.sramErr_bursts p e))
    (((d.sramErr p e).sramCe_bursts p).trans (d.sramErr_bursts p e))

/-- The registers in which the ECC of SRAM shows. -/
def sramWords : List Nat :=
  [F.memLastErrSubbank.off, F.memUeCount.off, F.memCeCount.off, F.memEvtUe.off, (F.hdrFaultTransient.page 3).off]

theorem Dev.occurrence_words (c : Nat) : (d.occurrence c).1.words = d.words := rfl

theorem Dev.sramDue_words (sb : Nat) : (d.sramDue sb).words = d.words := by
  unfold Dev.sramDue
  split <;> rfl

theorem Dev.when_sramDue_words (c : Bool) (sb : Nat) : (d.when c fun x => x.sramDue sb).words = d.words :=
  Dev.when_of (P := fun e => e.words = d.words) c rfl (d.sramDue_words sb)

theorem Dev.sramErr_wordsBut (p : Nat × Nat) (e : EccSeen) : Dev.WordsBut sramWords d (d.sramErr p e) := by
  unfold Dev.sramErr Dev.transient
  exact ((((Dev.WordsBut.refl _ d).put (by decide) _).put (by decide) _).put (by decide) _).bump (by decide) _

theorem Dev.WordsBut.sramUe {l : List Nat} {d e : Dev} (h : Dev.WordsBut l d e) (hcount : F.memUeCount.off ∈ l) (hevt : F.memEvtUe.off ∈ l)
    (p : Nat × Nat) (due : Bool) : Dev.WordsBut l d (e.sramUe p due) := by
  have hwords : (e.sramUe p due).words = ((e.roll F.memUeCount 1).raise F.memEvtUe).words := by
    rw [Dev.sramUe, Dev.when_sramDue_words]
  exact ((h.roll hcount 1).raise hevt).of_words hwords

theorem Dev.WordsBut.sramCe {l : List Nat} {d e : Dev} (h : Dev.WordsBut l d e) (hcount : F.memCeCount.off ∈ l) (hevt : F.memEvtCe.off ∈ l)
    (p : Nat × Nat) : Dev.WordsBut l d (e.sramCe p) := by
  have hwords : (e.sramCe p).words = ((e.roll F.memCeCount 1).raise F.memEvtCe).words := by
    rw [Dev.sramCe, Dev.when_sramDue_words, Dev.occurrence_words]
  exact ((h.roll hcount 1).raise hevt).of_words hwords

theorem Dev.sramSeen_wordsBut (p : Nat × Nat) (e : EccSeen) : Dev.WordsBut sramWords d (d.sramSeen p e) :=
  Dev.sramSeen_of (P := fun x => Dev.WordsBut sramWords d x) d p e (Dev.WordsBut.refl _ d)
    (fun due => (d.sramErr_wordsBut p e).sramUe (by decide) (by decide) p due)
    ((d.sramErr_wordsBut p e).sramCe (by decide) (by decide) p)

end

/-! An address of SRAM -/

/-- `a` lies in the processor SRAM (R518). -/
def inSram (a : Nat) : Prop := 0x0400_0000 ≤ a ∧ a < 0x0440_0000

theorem targetOf_inSram {a : Nat} (h : inSram a) : targetOf a = some 1 := by
  unfold inSram at h
  unfold targetOf
  rw [if_neg (by omega), if_pos h]

theorem isPageAddr_inSram {a : Nat} (h : inSram a) : isPageAddr a = false := by
  unfold inSram at h
  rw [isPageAddr, decide_eq_false (by omega : ¬ 0x1_0000_0000 ≤ a), Bool.false_and]

theorem Dev.zeroShift_inSram {a : Nat} (h : inSram a) (d : Dev) : d.zeroShift a = 0 := by
  unfold inSram at h
  exact if_neg (by omega)

theorem oneTarget_inSram {a n : Nat} (h : 0x0400_0000 ≤ a) (h' : a + n ≤ 0x0440_0000) : oneTarget a n = true := by
  refine List.all_eq_true.mpr fun i hi => ?_
  have hlt : i < n := List.mem_range.mp hi
  simp [targetOf_inSram (show inSram (a + i) from ⟨by omega, by omega⟩), targetOf_inSram (show inSram a from ⟨h, by omega⟩)]

theorem Dev.rmwRead_of {P : Dev → Prop} {d : Dev} {x : Nat} (y : Nat) (e : EccSeen) (h : P d) (hread : P (d.eccRead x e).1) : P (d.rmwRead x y e) := by
  unfold Dev.rmwRead
  exact Dev.when_of _ h hread

section
variable {d : Dev} {x : Nat} (hx : inSram x)
include hx

theorem Dev.eccRead_inSram (e : EccSeen) :
    d.eccRead x e = (let e' := if d.poisoned x then .uncorrectable 0 else e; (d.sramSeen (d.sramPlace x) e', isUe e')) := by
  rw [Dev.eccRead, targetOf_inSram hx]
  rfl

theorem Dev.eccRead_inSram_sramRest (e : EccSeen) : (d.eccRead x e).1.sramRest = d.sramRest := by
  rw [Dev.eccRead_inSram hx]
  exact Dev.sramSeen_sramRest ..

theorem Dev.eccRead_inSram_bursts (e : EccSeen) : (d.eccRead x e).1.bursts = d.bursts := by
  rw [Dev.eccRead_inSram hx]
  exact Dev.sramSeen_bursts ..

theorem Dev.eccRead_inSram_wordsBut (e : EccSeen) : Dev.WordsBut sramWords d (d.eccRead x e).1 := by
  rw [Dev.eccRead_inSram hx]
  exact d.sramSeen_wordsBut _ _

/-- A read of a word that is neither poisoned nor met by an error changes nothing. -/
theorem Dev.eccRead_inSram_clean (hp : d.sram.poison = []) : d.eccRead x .clean = (d, false) := by
  have hpoison : d.poisoned x = false := by simp [Dev.poisoned, hp]
  rw [Dev.eccRead_inSram hx, hpoison]
  exact congrArg (·, false) (d.sramSeen_clean _)

theorem Dev.rmwRead_inSram_clean (y : Nat) (hp : d.sram.poison = []) : d.rmwRead x y .clean = d :=
  Dev.rmwRead_of (P := (· = d)) y .clean rfl (congrArg Prod.fst (Dev.eccRead_inSram_clean hx hp))

end

theorem Dev.unpoison_of_none {d : Dev} (h : d.sram.poison = []) (a n : Nat) : d.unpoison a n = d := by
  have hsram : ({ d.sram with poison := [] } : MemSt) = d.sram := by rw [← h]
  unfold Dev.unpoison
  simp only [h, List.filter_nil]
  rw [hsram]

/-! Memory in pieces -/

theorem memWrite_append (l k : List Byte) : ∀ (m : List Host.Cell) (a : Nat),
    memWrite (memWrite m a l) (a + l.length) k = memWrite m a (l ++ k) := by
  induction l with
  | nil => exact fun m a => rfl
  | cons b t ih =>
    intro m a
    have h := ih (memPut m a b) (a + 1)
    rw [show a + 1 + t.length = a + (b :: t).length by rw [List.length_cons]; omega] at h
    exact h

theorem memRead_append (m : List Host.Cell) (a n k : Nat) : memRead m a n ++ memRead m (a + n) k = memRead m a (n + k) := by
  simp [memRead, List.range_add, Nat.add_assoc]

theorem length_memRead (m : List Host.Cell) (a n : Nat) : (memRead m a n).length = n := by simp [memRead]

/-- The bytes of a beat, which `Chip.beat` picks by their address. -/
theorem take_append_beat (l : List Byte) {a done q : Nat} (h : a + done ≤ q) (h' : q ≤ a + l.length) :
    l.take done ++ (List.range (q - (a + done))).map (fun i => l.getD (a + done + i - a) 0) = l.take (q - a) := by
  have hsplit : q - a = done + (q - (a + done)) := by omega
  rw [hsplit, List.take_add]
  congr 1
  refine List.ext_getElem (by simp; omega) fun i h1 h2 => ?_
  have hi : i < q - (a + done) := by simpa using h1
  have hpos : a + done + i - a = done + i := by omega
  simp only [List.getElem_map, List.getElem_range, hpos, List.getElem_take, List.getElem_drop]
  exact List.getD_eq_getElem _ _ (by omega)

/-! Beats -/

/-- The first address past the beat at `p` of a burst that ends before `last`. -/
def beatEnd (p last : Nat) : Nat := Nat.min last ((p / 8 + 1) * 8)

/-- A beat moves a byte at least, and none beyond its burst. -/
theorem beatEnd_bounds {p last : Nat} (h : p < last) : p < beatEnd p last ∧ beatEnd p last ≤ last :=
  ⟨Nat.lt_min.mpr ⟨h, by omega⟩, Nat.min_le_left _ _⟩

def Dev.withBursts (d : Dev) (l : Store Burst) : Dev := { d with bursts := l }

/-- Master `m`'s burst `b` of SRAM in progress since `c₀`, with `done` of its bytes moved after `k` beats or more. -/
structure Chip.SramBurst (c₀ : Chip) (m : Nat) (b : Burst) (k done : Nat) (c : Chip) : Prop where
  le_len : done ≤ b.len
  reached : b.len ≤ done ∨ k ≤ done
  flash : c.flash = c₀.flash
  mem : c.mem = if b.write then memWrite c₀.mem b.addr (b.data.take done) else c₀.mem
  burst : ∃ beats, c.dev.burst m = { b with
    done := done, beats := beats, got := if b.write then [] else memRead c₀.mem b.addr done, ended := decide (b.len ≤ done) }
  rest : c.dev.sramRest = c₀.dev.sramRest
  others : Dev.WordsBut sramWords c₀.dev c.dev
  clean : b.ecc = .clean → c₀.dev.sram.poison = [] → c.dev = c₀.dev.withBursts c.dev.bursts

/-- A burst of SRAM that has not begun: a write of its data, or a read that meets no error. -/
structure Burst.StartsInSram (b : Burst) (d : Dev) : Prop where
  pos : 1 ≤ b.len
  above : 0x0400_0000 ≤ b.addr
  below : b.addr + b.len ≤ 0x0440_0000
  shift : b.shift = 0
  fresh : b.done = 0 ∧ b.got = [] ∧ b.ended = false
  kind : b.write = true ∧ b.data.length = b.len ∨ b.write = false ∧ b.ecc = .clean ∧ d.sram.poison = []

theorem beatEcc_clean (k : Nat) : beatEcc .clean k = .clean := by
  simp [beatEcc]

end Sys2Proof.Machine

/-! A burst of the processor SRAM from its first beat to its answer, and the commands of the bus matrix that issue one. -/

namespace Sys2Proof.Machine

section
variable {c₀ c : Chip} {m : Nat} {b : Burst} {k done : Nat}

/-- The burst as it stands is not the empty one, since its length is not 0. -/
theorem Chip.SramBurst.inBurst (h : Chip.SramBurst c₀ m b k done c) (hb : b.StartsInSram c₀.dev) : c.dev.inBurst m = true := by
  obtain ⟨beats, hburst⟩ := h.burst
  have hpos := hb.pos
  refine bne_iff_ne.mpr fun hempty => ?_
  have hlen : b.len = 0 := by simpa using congrArg Burst.len (hburst.symm.trans hempty)
  omega

theorem Dev.burst_congr {d e : Dev} (h : d.bursts = e.bursts) (m : Nat) : d.burst m = e.burst m := by
  rw [Dev.burst, Dev.burst, h]

theorem Chip.SramBurst.start (hb : b.StartsInSram c₀.dev) (hburst : c₀.dev.burst m = b) : Chip.SramBurst c₀ m b 0 0 c₀ := by
  obtain ⟨hdone, hgot, hended⟩ := hb.fresh
  have hpos := hb.pos
  refine ⟨Nat.zero_le _, .inr (Nat.zero_le _), rfl, ?_, ⟨b.beats, ?_⟩, rfl, Dev.WordsBut.refl _ _, fun _ _ => rfl⟩
  · split <;> rfl
  · rw [hburst]
    have hread : (if b.write = true then [] else memRead c₀.mem b.addr 0) = [] := by split <;> rfl
    rw [hread, decide_eq_false (by omega : ¬ b.len ≤ 0), ← hdone, ← hgot, ← hended]

/-- What a beat of a write leaves of the device, its burst apart. -/
theorem Chip.store_rmwRead_rest (c : Chip) (x y : Nat) (l : List Byte) (e : EccSeen) (hx : inSram x) :
    ((c.store x l).dev.rmwRead x y e).sramRest = c.dev.sramRest ∧ ((c.store x l).dev.rmwRead x y e).bursts = c.dev.bursts
      ∧ Dev.WordsBut sramWords c.dev ((c.store x l).dev.rmwRead x y e) :=
  Dev.rmwRead_of (P := fun d => d.sramRest = c.dev.sramRest ∧ d.bursts = c.dev.bursts ∧ Dev.WordsBut sramWords c.dev d) y e
    ⟨Dev.unpoison_sramRest _ _ _, rfl, Dev.WordsBut.of_words (Dev.WordsBut.refl _ _) rfl⟩
    ⟨(Dev.eccRead_inSram_sramRest hx e).trans (Dev.unpoison_sramRest _ _ _), Dev.eccRead_inSram_bursts hx e,
      Dev.WordsBut.trans (Dev.WordsBut.of_words (Dev.WordsBut.refl _ _) rfl) (Dev.eccRead_inSram_wordsBut hx e)⟩

theorem Chip.store_rmwRead_clean (c : Chip) (x y : Nat) (l : List Byte) (hx : inSram x) (hp : c.dev.sram.poison = []) :
    (c.store x l).dev.rmwRead x y .clean = c.dev := by
  have hstore : (c.store x l).dev = c.dev := Dev.unpoison_of_none hp _ _
  rw [hstore, Dev.rmwRead_inSram_clean hx y hp]

/-- The burst after a beat up to address `q` that was answered OKAY, with `l` read. -/
def Burst.moved (b : Burst) (q : Nat) (l : List Byte) : Burst :=
  { b with done := b.done + (q - (b.addr + b.done)), beats := b.beats + 1, got := b.got ++ l, ended := decide (b.addr + b.len ≤ q) }

theorem Dev.inBurst_congr {d e : Dev} (h : d.bursts = e.bursts) (m : Nat) : d.inBurst m = e.inBurst m := by
  rw [Dev.inBurst, Dev.inBurst, Dev.burst_congr h]

section
variable {x q : Nat} (hb : c.dev.burst m = b) (hended : b.ended = false) (hin : c.dev.inBurst m = true)
  (hpage : isPageAddr b.addr = false) (hshift : b.shift = 0) (hp : b.addr + b.done = x) (hx : inSram x)
  (hq : beatEnd x (b.addr + b.len) = q)
include hb hended hin hpage hshift hp hx hq

/-- A beat of a write to SRAM stores its bytes, and its read-modify-write is seen by the ECC. -/
theorem Chip.beat_write_inSram (hw : b.write = true) :
    let y := c.store x ((List.range (q - x)).map (fun i => b.data.getD (x + i - b.addr) 0))
    c.beat m = { y with dev := (y.dev.rmwRead x q (beatEcc b.ecc b.beats)).setBurst m (b.moved q []) } := by
  intro y
  have hkept : (y.dev.rmwRead x q (beatEcc b.ecc b.beats)).inBurst m = true :=
    (Dev.inBurst_congr (c.store_rmwRead_rest x q _ _ hx).2.1 m).trans hin
  have hbeat : c.beatWrite m x q (fun i => b.data.getD (i - 0 - b.addr) 0) = (y, .okay) := by
    rw [Chip.beatWrite, targetOf_inSram hx]
    rfl
  subst hp hq
  simp only [Chip.beat, hb, hended, hin, hpage, hshift, hw, Bool.false_eq_true, Bool.not_true, or_self, if_false, if_true, Nat.add_zero]
  unfold beatEnd at *
  simp only [hbeat, beq_self_eq_true, Chip.when, if_true, Chip.on, hkept]
  rw [Burst.moved, hw, hshift]

/-- A beat of a read from SRAM that meets no error. -/
theorem Chip.beat_read_inSram (hw : b.write = false) (hecc : b.ecc = .clean) (hpoison : c.dev.sram.poison = []) :
    c.beat m = { c with dev := c.dev.setBurst m (b.moved q (memRead c.mem x (q - x))) } := by
  have hbeat : c.beatRead m x q = (c, .okay, memRead c.mem x (q - x)) := by
    rw [Chip.beatRead, targetOf_inSram hx]
    rfl
  have hread : c.dev.eccRead x .clean = (c.dev, false) := Dev.eccRead_inSram_clean hx hpoison
  subst hp hq
  simp only [Chip.beat, hb, hended, hin, hpage, hshift, hw, hecc, beatEcc_clean, Bool.false_eq_true, Bool.not_true, or_self, if_false,
    Nat.add_zero]
  unfold beatEnd at *
  simp only [hbeat, hread, ne_eq, not_true_eq_false, Bool.false_eq_true, if_false, if_true, Chip.on, hin]
  rw [Burst.moved, hw, hshift, hecc]

end

/-- A burst that has moved all its bytes makes no further beat. -/
theorem Chip.beat_of_ended (h : (c.dev.burst m).ended = true) : c.beat m = c := if_pos (.inl h)

theorem Dev.burst_setBurst_same (d : Dev) (m : Nat) (b : Burst) : (d.setBurst m b).burst m = b := by
  rw [Dev.burst, Dev.setBurst, Store.get_set_same]

theorem Chip.SramBurst.beat (h : Chip.SramBurst c₀ m b k done c) (hb : b.StartsInSram c₀.dev) :
    ∃ done', Chip.SramBurst c₀ m b (k + 1) done' (c.beat m) := by
  obtain ⟨beats, hburst⟩ := h.burst
  have hin := h.inBurst hb
  obtain ⟨hlen, hk, hflash, hmem, -, hrest, hothers, hclean⟩ := h
  obtain ⟨hpos, habove, hbelow, hshift, -, hkind⟩ := hb
  by_cases hall : b.len ≤ done
  · have hended : (c.dev.burst m).ended = true := by rw [hburst]; exact decide_eq_true hall
    rw [Chip.beat_of_ended hended]
    exact ⟨done, hlen, .inl hall, hflash, hmem, ⟨beats, hburst⟩, hrest, hothers, hclean⟩
  · have hx : inSram (b.addr + done) := ⟨by omega, by omega⟩
    have hpage : isPageAddr b.addr = false := isPageAddr_inSram ⟨habove, by omega⟩
    obtain ⟨hlt, hle⟩ := beatEnd_bounds (show b.addr + done < b.addr + b.len by omega)
    generalize hqe : beatEnd (b.addr + done) (b.addr + b.len) = q at hlt hle
    have hmoved : done + (q - (b.addr + done)) = q - b.addr := by omega
    have hall' : decide (b.addr + b.len ≤ q) = decide (b.len ≤ q - b.addr) := decide_eq_decide.mpr (by omega)
    refine ⟨q - b.addr, ?_⟩
    rcases hkind with ⟨hw, hdata⟩ | ⟨hw, hecc, hpoison⟩
    · obtain ⟨hrest', -, hothers'⟩ := c.store_rmwRead_rest (b.addr + done) q
        ((List.range (q - (b.addr + done))).map (fun i => b.data.getD (b.addr + done + i - b.addr) 0)) (beatEcc b.ecc beats) hx
      have hbeat := Chip.beat_write_inSram hburst (decide_eq_false hall) hin hpage hshift rfl hx hqe hw
      rw [hbeat]
      refine ⟨by omega, by omega, hflash, ?_, ⟨beats + 1, ?_⟩, (Dev.setBurst_sramRest _ _ _).trans (hrest'.trans hrest),
        hothers.trans (hothers'.of_words (Dev.setBurst_words _ _ _)), fun hecc hpoison => ?_⟩
      · have htake : (b.data.take done).length = done := by rw [List.length_take]; omega
        have happend := memWrite_append (b.data.take done)
          ((List.range (q - (b.addr + done))).map (fun i => b.data.getD (b.addr + done + i - b.addr) 0)) c₀.mem b.addr
        rw [htake, take_append_beat b.data hlt.le (by omega)] at happend
        exact (congrArg (memWrite · _ _) (hmem.trans (if_pos hw))).trans (happend.trans (if_pos hw).symm)
      · rw [Dev.burst_setBurst_same, Burst.moved]
        simp only [hmoved, hall', hw, if_true, List.append_nil]
      · have hdev := hclean hecc hpoison
        have hp : c.dev.sram.poison = [] := by rw [hdev]; exact hpoison
        simp only [hecc, beatEcc_clean]
        rw [Chip.store_rmwRead_clean c _ _ _ hx hp, hdev]
        rfl
    · have hdev := hclean hecc hpoison
      have hp : c.dev.sram.poison = [] := by rw [hdev]; exact hpoison
      have hbeat := Chip.beat_read_inSram hburst (decide_eq_false hall) hin hpage hshift rfl hx hqe hw hecc hp
      rw [if_neg (ne_true_of_eq_false hw)] at hmem
      rw [hbeat]
      refine ⟨by omega, by omega, hflash, ?_, ⟨beats + 1, ?_⟩, (Dev.setBurst_sramRest _ _ _).trans hrest,
        hothers.of_words (Dev.setBurst_words _ _ _), fun _ _ => ?_⟩
      · exact hmem.trans (if_neg (ne_true_of_eq_false hw)).symm
      · have hread := memRead_append c₀.mem b.addr done (q - (b.addr + done))
        rw [hmoved] at hread
        rw [Dev.burst_setBurst_same, Burst.moved]
        simp only [hmoved, hall', hw, Bool.false_eq_true, if_false, hmem, hread]
      · rw [hdev]
        rfl

theorem Chip.SramBurst.beats (hb : b.StartsInSram c₀.dev) : ∀ (n : Nat) {k done : Nat} {c : Chip}, Chip.SramBurst c₀ m b k done c →
    ∃ done', Chip.SramBurst c₀ m b (k + n) done' (c.beats m n)
  | 0, _, done, _, h => ⟨done, h⟩
  | n + 1, k, _, _, h => by
    obtain ⟨done', hbeat⟩ := h.beat hb
    obtain ⟨done'', hrest⟩ := Chip.SramBurst.beats hb n hbeat
    exact ⟨done'', by rwa [show k + (n + 1) = k + 1 + n by omega]⟩

/-- As many beats as the burst has bytes move them all. -/
theorem Chip.SramBurst.whole (hb : b.StartsInSram c₀.dev) (hburst : c₀.dev.burst m = b) {n : Nat} (hn : b.len ≤ n) :
    Chip.SramBurst c₀ m b n b.len (c₀.beats m n) := by
  obtain ⟨done, h⟩ := Chip.SramBurst.beats hb n (Chip.SramBurst.start hb hburst)
  have hall : done = b.len := Nat.le_antisymm h.le_len (by have := h.reached; omega)
  rw [Nat.zero_add, hall] at h
  exact h

theorem Chip.SramBurst.mem_of_write (h : Chip.SramBurst c₀ m b k b.len c) (hb : b.StartsInSram c₀.dev) (hw : b.write = true) :
    c.mem = memWrite c₀.mem b.addr b.data := by
  have hdata : b.data.length = b.len := by
    rcases hb.kind with ⟨-, hdata⟩ | ⟨hr, -⟩
    · exact hdata
    · exact absurd (hw.symm.trans hr) (by decide)
  rw [h.mem, if_pos hw, ← hdata, List.take_length]

/-- The bytes beside a burst stay as they are. -/
theorem Chip.SramBurst.outside (h : Chip.SramBurst c₀ m b k done c) {x : Nat} (hx : x < b.addr ∨ b.addr + b.len ≤ x) :
    memByte c.mem x = memByte c₀.mem x := by
  rw [h.mem]
  split
  case isFalse => rfl
  case isTrue =>
    have hle : (b.data.take done).length ≤ b.len := (List.length_take_le _ _).trans h.le_len
    exact hx.elim (memByte_memWrite_below _ _ _ _) fun hlast => memByte_memWrite_above _ _ _ _ (by omega)

/-! The answer -/

theorem Chip.SramBurst.ended (h : Chip.SramBurst c₀ m b k b.len c) : (c.dev.burst m).ended = true := by
  obtain ⟨beats, hburst⟩ := h.burst
  rw [hburst]
  exact decide_eq_true (Nat.le_refl _)

/-- What a burst of SRAM that has moved all its bytes returns. -/
def Burst.sramResult (b : Burst) (mem : List Host.Cell) : List Byte := if b.write then [] else memRead mem b.addr b.len

theorem Chip.SramBurst.result (h : Chip.SramBurst c₀ m b k b.len c) : (c.dev.burst m).result = b.sramResult c₀.mem := by
  obtain ⟨beats, hburst⟩ := h.burst
  rw [hburst, Burst.result, Burst.sramResult]
  split
  · rfl
  · rw [length_memRead, Nat.sub_self, List.replicate_zero, List.append_nil, List.take_of_length_le (length_memRead _ _ _).le]

theorem Chip.SramBurst.resp (h : Chip.SramBurst c₀ m b k done c) : (c.dev.burst m).resp = b.resp := by
  obtain ⟨beats, hburst⟩ := h.burst
  rw [hburst]

/-- The device without what a whole transaction to SRAM can change: `Dev.sramRest`, and the answer. -/
def Dev.busRest (d : Dev) : Dev := { d.sramRest with replies := [], fec := [] }

/-- The device with other bursts, answers and counts of answers. -/
def Dev.answering (d : Dev) (bursts : Store Burst) (replies : Store Reply) (fec : Store Nat) : Dev :=
  { d with bursts := bursts, replies := replies, fec := fec }

theorem Dev.answering_busRest (d : Dev) (b : Store Burst) (r : Store Reply) (f : Store Nat) :
    (d.answering b r f).busRest = d.busRest := rfl

theorem Dev.eq_answering {d e : Dev} {b : Store Burst} {r : Store Reply} {f : Store Nat} (h : e = d.answering b r f) :
    e = d.answering e.bursts e.replies e.fec := by
  rw [h]
  rfl

/-- Master `m`'s burst `b` of SRAM, issued at `c₀`, has been carried out and answered. -/
structure Chip.SramDone (c₀ : Chip) (m : Nat) (b : Burst) (c : Chip) : Prop where
  flash : c.flash = c₀.flash
  mem : c.mem = if b.write then memWrite c₀.mem b.addr b.data else c₀.mem
  reply : c.dev.replyTo m = { resp := b.resp, data := b.sramResult c₀.mem }
  idle : c.dev.burst m = {}
  rest : c.dev.busRest = c₀.dev.busRest
  others : Dev.WordsBut sramWords c₀.dev c.dev
  clean : b.ecc = .clean → c₀.dev.sram.poison = [] →
    c.dev = c₀.dev.answering c.dev.bursts c.dev.replies c.dev.fec

/-- The answer to master `m`. -/
def Dev.finish (d : Dev) (m : Nat) (b : Burst) : Dev :=
  ((d.setBurst m {}).reply m { resp := b.resp, data := b.result }).fecSeen m b.addr b.write b.resp b.beats

theorem Dev.finish_frame (d : Dev) (m : Nat) (b : Burst) :
    d.finish m b = d.answering (d.setBurst m {}).bursts (d.finish m b).replies (d.finish m b).fec := by
  rw [Dev.finish, Dev.fecSeen_frame]
  rfl

theorem Dev.finish_reply (d : Dev) (m : Nat) (b : Burst) : (d.finish m b).replyTo m = { resp := b.resp, data := b.result } := by
  rw [Dev.finish, Dev.fecSeen_frame]
  exact (Dev.replyTo_reply (d.setBurst m {}) m m _).trans (if_pos rfl)

theorem Chip.close_of_ended (hin : c.dev.inBurst m = true) (h : (c.dev.burst m).ended = true) :
    c.close m = c.on (fun d => d.finish m (c.dev.burst m)) := if_pos ⟨hin, h⟩

theorem Chip.SramBurst.close (h : Chip.SramBurst c₀ m b k b.len c) (hb : b.StartsInSram c₀.dev) :
    Chip.SramDone c₀ m b (c.close m) := by
  rw [Chip.close_of_ended (h.inBurst hb) h.ended]
  have hframe := c.dev.finish_frame m (c.dev.burst m)
  have hbursts := congrArg Dev.bursts hframe
  refine ⟨h.flash, ?_, ?_, ?_, ?_, h.others.of_words (congrArg Dev.words hframe :), fun hecc hpoison => ?_⟩
  · split
    case isTrue hw => exact (show c.mem = _ from h.mem_of_write hb hw)
    case isFalse hr => exact h.mem.trans (if_neg hr)
  · exact (c.dev.finish_reply m _).trans (by rw [h.resp, h.result])
  · exact (Dev.burst_congr hbursts m).trans (Dev.burst_setBurst_same c.dev m {})
  · have hrest := congrArg (fun d : Dev => { d with replies := [], fec := [] }) h.rest
    exact ((congrArg Dev.busRest hframe :)).trans ((Dev.answering_busRest _ _ _ _).trans hrest)
  · have hdev := congrArg (fun d => d.answering (c.dev.setBurst m {}).bursts (c.dev.finish m (c.dev.burst m)).replies
      (c.dev.finish m (c.dev.burst m)).fec) (h.clean hecc hpoison)
    exact Dev.eq_answering (hframe.trans hdev)

end

/-! Issued and carried out -/

section
variable {c : Chip} {m addr len : Nat} {write : Bool} {data : List Byte} {ecc : EccSeen}

/-- The burst of a transaction at `addr` that has just been accepted. -/
def Chip.newBurst (c : Chip) (write : Bool) (addr len : Nat) (data : List Byte) (ecc : EccSeen) : Burst :=
  { write := write, addr := addr, len := len, data := data, ecc := ecc, since := c.dev.now }

theorem Chip.issue_inSram (hpos : 1 ≤ len) (habove : 0x0400_0000 ≤ addr) (hbelow : addr + len ≤ 0x0440_0000) :
    c.issue m write addr len data ecc = c.on (fun d => d.setBurst m (c.newBurst write addr len data ecc)) := by
  have hshift : c.dev.zeroShift addr = 0 := Dev.zeroShift_inSram ⟨habove, by omega⟩ _
  rw [Chip.issue, if_pos (oneTarget_inSram habove hbelow)]
  simp only [Chip.on, hshift]
  rfl

theorem Chip.startsInSram_newBurst (hpos : 1 ≤ len) (habove : 0x0400_0000 ≤ addr) (hbelow : addr + len ≤ 0x0440_0000)
    (hkind : write = true ∧ data.length = len ∨ write = false ∧ ecc = .clean ∧ c.dev.sram.poison = []) :
    (c.newBurst write addr len data ecc).StartsInSram (c.dev.setBurst m (c.newBurst write addr len data ecc)) :=
  ⟨hpos, habove, hbelow, rfl, ⟨rfl, rfl, rfl⟩, hkind⟩

/-- What a whole transaction of SRAM does, whatever burst its master had. -/
theorem Chip.sramDone_issue (hpos : 1 ≤ len) (habove : 0x0400_0000 ≤ addr) (hbelow : addr + len ≤ 0x0440_0000)
    (hkind : write = true ∧ data.length = len ∨ write = false ∧ ecc = .clean ∧ c.dev.sram.poison = []) {n : Nat} (hn : len ≤ n) :
    Chip.SramDone c m (c.newBurst write addr len data ecc) (((c.issue m write addr len data ecc).beats m n).close m) := by
  have hstart := Chip.startsInSram_newBurst (m := m) hpos habove hbelow hkind
  rw [Chip.issue_inSram hpos habove hbelow]
  obtain ⟨hflash, hmem, hreply, hidle, hrest, hothers, hclean⟩ := (Chip.SramBurst.whole
    (c₀ := c.on (fun d => d.setBurst m (c.newBurst write addr len data ecc))) hstart (Dev.burst_setBurst_same _ _ _) hn).close hstart
  exact ⟨hflash, hmem, hreply, hidle, hrest, hothers, hclean⟩

theorem Chip.transact_eq (hidle : c.dev.inBurst m = false) :
    c.transact m write addr len data ecc = ((c.issue m write addr len data ecc).drain m).close m := by
  rw [Chip.transact, Chip.drain_close_of_idle hidle]

/-- A whole transaction of SRAM by a master that had none under way. -/
theorem Chip.sramDone_transact (hidle : c.dev.inBurst m = false) (hpos : 1 ≤ len) (habove : 0x0400_0000 ≤ addr)
    (hbelow : addr + len ≤ 0x0440_0000)
    (hkind : write = true ∧ data.length = len ∨ write = false ∧ ecc = .clean ∧ c.dev.sram.poison = []) :
    Chip.SramDone c m (c.newBurst write addr len data ecc) (c.transact m write addr len data ecc) := by
  rw [Chip.transact_eq hidle, Chip.drain]
  refine Chip.sramDone_issue hpos habove hbelow hkind ?_
  rw [Chip.issue_inSram hpos habove hbelow]
  exact (congrArg Burst.len (Dev.burst_setBurst_same c.dev m (c.newBurst write addr len data ecc))).ge

theorem Chip.SramDone.words {c₀ : Chip} {b : Burst} (h : Chip.SramDone c₀ m b c) (hecc : b.ecc = .clean)
    (hpoison : c₀.dev.sram.poison = []) : c.dev.words = c₀.dev.words := by
  rw [h.clean hecc hpoison]
  rfl

/-- The bytes that a write to SRAM has stored, and the others. -/
theorem Chip.SramDone.stored {c₀ : Chip} {b : Burst} (h : Chip.SramDone c₀ m b c) (hw : b.write = true) (hlen : b.data.length = b.len) :
    (∀ i, i < b.len → memByte c.mem (b.addr + i) = b.data.getD i 0)
      ∧ ∀ x, (x < b.addr ∨ b.addr + b.len ≤ x) → memByte c.mem x = memByte c₀.mem x := by
  have hmem := h.mem.trans (if_pos hw)
  rw [← hlen, hmem]
  exact ⟨fun i hi => memByte_memWrite_in b.data c₀.mem b.addr i hi,
    fun x hx => hx.elim (memByte_memWrite_below b.data c₀.mem b.addr x) (memByte_memWrite_above b.data c₀.mem b.addr x)⟩

end

/-! Transactions of the bus matrix -/

section
variable {m : Master} {x : Transfer} {s : State} (hm : m.val < 3) (hfree : s.dev.busFree m.val = true)
  (hidle : s.dev.inBurst m.val = false) (hpos : 1 ≤ x.len) (habove : 0x0400_0000 ≤ x.addr.toNat)
  (hbelow : x.addr.toNat + x.len ≤ 0x0440_0000)

theorem masterReaches_of_lt_three {n : Nat} (h : n < 3) (a : Nat) : masterReaches n a = true := by
  match n, h with
  | 0, _ => rfl
  | 1, _ => rfl
  | 2, _ => rfl

include hm hfree hpos

theorem exec_busTransaction (stall : Option Nat) :
    exec (.busTransaction m x stall) s = .next (s.run (fun c =>
      if isProcessor m.val then c.processorTransfer m.val x.addr.toNat x stall else c.transfer m.val x.addr.toNat x stall)) := by
  simp only [exec, execBusTransaction, hfree, masterReaches_of_lt_three hm, decide_eq_true hpos, Bool.and_self, Chip.when, if_true]

theorem exec_busTransaction_refused (hproc : isProcessor m.val = true)
    (hpmp : s.dev.pmpPasses m.val x.addr.toNat x.len x.write = false) : exec (.busTransaction m x none) s = .next s := by
  rw [exec_busTransaction hm hfree hpos, State.run, if_pos hproc]
  simp only [Chip.processorTransfer, hpmp, Bool.not_false, if_true]

include hidle habove hbelow

/-- R518, R522: a transaction of SRAM that the PMP lets pass is carried out and answered. -/
theorem exec_busTransaction_inSram (hpass : isProcessor m.val = false ∨ s.dev.pmpPasses m.val x.addr.toNat x.len x.write = true)
    (hkind : x.write = true ∧ x.data.length = x.len ∨ x.write = false ∧ x.ecc = .clean ∧ s.dev.sram.poison = []) :
    ∃ c, exec (.busTransaction m x none) s = .next (s.setChip c)
      ∧ Chip.SramDone s.chip m.val (s.chip.newBurst x.write x.addr.toNat x.len x.data x.ecc) c := by
  have htransfer : s.chip.transfer m.val x.addr.toNat x none
      = ((s.chip.issue m.val x.write x.addr.toNat x.len x.data x.ecc).beats m.val x.len).close m.val := by
    rw [Chip.transfer, Chip.drain_close_of_idle (c := s.chip) hidle]
    rfl
  refine ⟨s.chip.transfer m.val x.addr.toNat x none, ?_, ?_⟩
  · rw [exec_busTransaction hm hfree hpos]
    cases hproc : isProcessor m.val with
    | false => rfl
    | true =>
      have hpmp : s.dev.pmpPasses m.val x.addr.toNat x.len x.write = true := by simpa [hproc] using hpass
      have hbus : s.dev.processorBus x.addr.toNat = some x.addr.toNat := if_pos (by omega)
      simp only [State.run, if_true, Chip.processorTransfer, hpmp, Bool.not_true, Bool.false_eq_true, if_false, hbus]
      rfl
  · rw [htransfer]
    exact Chip.sramDone_issue hpos habove hbelow hkind (Nat.le_refl _)

end

/-- Settles O5, by an invariant over the beats of a burst: what has been moved is the data's first bytes. -/
theorem sramTransaction : Obligations.SramTransaction := by
  refine fun m x s hm hfree hidle hpos habove hbelow => ⟨exec_busTransaction_refused hm hfree hpos, fun hw hlen hpass => ?_,
    fun hr hecc hpoison hpass => ?_⟩
  · obtain ⟨c, hexec, hdone⟩ := exec_busTransaction_inSram hm hfree hidle hpos habove hbelow (hw ▸ hpass) (.inl ⟨hw, hlen⟩)
    obtain ⟨hstored, hother⟩ := hdone.stored hw hlen
    exact ⟨_, hexec, congrArg Reply.resp hdone.reply, hdone.flash, hdone.words, hstored, hother⟩
  · obtain ⟨c, hexec, hdone⟩ := exec_busTransaction_inSram hm hfree hidle hpos habove hbelow (hr ▸ hpass) (.inr ⟨hr, hecc, hpoison⟩)
    have hread : Burst.sramResult (s.chip.newBurst x.write x.addr.toNat x.len x.data x.ecc) s.mem = memRead s.mem x.addr.toNat x.len :=
      if_neg (ne_true_of_eq_false hr)
    exact ⟨_, hexec, hdone.reply.trans (congrArg (Reply.mk .okay) hread), hdone.mem.trans (if_neg (ne_true_of_eq_false hr)), hdone.flash,
      hdone.words hecc hpoison⟩

end Sys2Proof.Machine

/-! Transactions that wait (R526, R529). -/

namespace Sys2Proof.Machine

theorem Dev.get_roll_same (d : Dev) {f : Field} (h : f.lo + f.len ≤ 32) (n : Nat) : (d.roll f n).get f = (d.get f + n) % 2 ^ f.len :=
  d.get_put_same f _ h

/-- A new burst changes the transactions under way alone. -/
theorem State.setChip_on (s : State) (f : Dev → Dev) : s.setChip (s.chip.on f) = { s with dev := f s.dev } := rfl

theorem Chip.on_on (c : Chip) (f g : Dev → Dev) : (c.on f).on g = c.on (fun d => g (f d)) := rfl

theorem Dev.get_setBurst (d : Dev) (m : Nat) (b : Burst) (f : Field) : (d.setBurst m b).get f = d.get f := rfl

theorem Dev.inBurst_of_burst {d : Dev} {m : Nat} {b : Burst} (h : d.burst m = b) (hb : b ≠ {}) : d.inBurst m = true := by
  rw [Dev.inBurst, h]
  exact bne_iff_ne.mpr hb

section
variable {m : Master} {b : Burst} {s : State} (hburst : s.dev.burst m.val = b) (hb : b ≠ {})
include hburst hb

/-- R526: a request rises where its class leaves room for it; 10 µs are 6,221 ticks. -/
theorem exec_arbitrationAging (hclass : (m.val = 1 ∨ m.val = 2 ∨ m.val = 5) ∧ b.rises < 2 ∨ (m.val = 0 ∨ m.val = 4) ∧ b.rises = 0)
    (hsince : b.since + 6221 * (b.rises + 1) ≤ s.dev.now) :
    exec (.arbitrationAging m) s
      = .next { s with dev := (s.dev.setBurst m.val { b with rises := b.rises + 1 }).roll F.mtxAgedCount 1 } := by
  have hroom : b.rises < (if m.val = 3 ∨ m.val = 6 then 0 else if m.val = 0 ∨ m.val = 4 then 1 else 2) := by
    split <;> (try split) <;> omega
  have hdue : b.since + usTicks (10 * (b.rises + 1)) ≤ s.dev.now := by
    unfold usTicks
    omega
  simp only [exec, execArbitrationAging, hburst, Dev.inBurst_of_burst hburst hb, decide_eq_true hroom, decide_eq_true hdue, Bool.and_self,
    Dev.when, if_true]

/-- R529: the transaction has ended with SLVERR before it is answered. -/
def Dev.stuck (d : Dev) (m : Nat) (b : Burst) : Dev :=
  ((d.setBurst m { b with resp := .slverr, ended := true }).roll F.mtxStuckCount 1).raise F.mtxEvtStuck

omit hburst hb in
theorem Dev.burst_stuck (d : Dev) (m : Nat) (b : Burst) : (d.stuck m b).burst m = { b with resp := .slverr, ended := true } := by
  refine (Dev.burst_congr (e := d.setBurst m { b with resp := .slverr, ended := true }) ?_ m).trans (Dev.burst_setBurst_same _ _ _)
  rw [Dev.stuck, Dev.raise_bursts, Dev.roll_bursts]

omit hburst hb in
theorem Chip.close_stuck (c : Chip) (m : Nat) (b : Burst) :
    (c.on (fun d => d.stuck m b)).close m = c.on (fun d => (d.stuck m b).finish m { b with resp := .slverr, ended := true }) := by
  have hin : (c.on (fun d => d.stuck m b)).dev.inBurst m = true :=
    Dev.inBurst_of_burst (c.dev.burst_stuck m b) fun h => Bool.noConfusion (congrArg Burst.ended h)
  have hburst : (c.on (fun d => d.stuck m b)).dev.burst m = { b with resp := .slverr, ended := true } := c.dev.burst_stuck m b
  rw [Chip.close_of_ended hin (congrArg Burst.ended hburst), hburst, Chip.on_on]

omit hb in
theorem exec_stuckTransaction_eq :
    exec (.stuckTransaction m) s = .next (s.setChip (
      if (s.dev.inBurst m.val && !b.ended && decide (b.since + usTicks 200 ≤ s.dev.now)) = true then
        if m.val = 0 ∧ (s.chip.on fun d => d.stuck m.val b).dev.port.cur.isSome = true then s.chip.on fun d => d.stuck m.val b
        else (s.chip.on fun d => d.stuck m.val b).close m.val
      else s.chip)) := by
  rw [← hburst]
  rfl

theorem exec_stuckTransaction (hport : m.val = 0 → s.dev.port.cur = none) (hended : b.ended = false)
    (hsince : b.since + 124416 ≤ s.dev.now) :
    exec (.stuckTransaction m) s
      = .next { s with dev := (s.dev.stuck m.val b).finish m.val { b with resp := .slverr, ended := true } } := by
  have hdue : b.since + usTicks 200 ≤ s.dev.now := hsince
  have hcur : (s.dev.stuck m.val b).port = s.dev.port := by rw [Dev.stuck, Dev.raise_port, Dev.roll_port]; rfl
  have hnone : ¬ (m.val = 0 ∧ (s.dev.stuck m.val b).port.cur.isSome = true) := by
    rintro ⟨hm, hsome⟩
    rw [hcur, hport hm] at hsome
    exact absurd hsome (by decide)
  have hclose := Chip.close_stuck s.chip m.val b
  have hok : (s.dev.inBurst m.val && !b.ended && decide (b.since + usTicks 200 ≤ s.dev.now)) = true := by
    rw [Dev.inBurst_of_burst hburst hb, hended, decide_eq_true hdue]
    rfl
  have hrun : (if m.val = 0 ∧ (s.chip.on fun d => d.stuck m.val b).dev.port.cur.isSome = true then s.chip.on fun d => d.stuck m.val b
      else (s.chip.on fun d => d.stuck m.val b).close m.val)
        = s.chip.on (fun d => (d.stuck m.val b).finish m.val { b with resp := .slverr, ended := true }) := by
    exact (if_neg hnone).trans hclose
  rw [exec_stuckTransaction_eq hburst, hok, if_pos rfl, hrun, State.setChip_on]

end

theorem Dev.finish_words (d : Dev) (m : Nat) (b : Burst) : (d.finish m b).words = d.words := by
  rw [d.finish_frame]
  rfl

theorem Dev.finish_burst (d : Dev) (m : Nat) (b : Burst) : (d.finish m b).burst m = {} :=
  (Dev.burst_congr (congrArg Dev.bursts (d.finish_frame m b)) m).trans (Dev.burst_setBurst_same d m {})

/-- Settles O6: one field of the burst and one count change as a request rises; a stuck one is answered in the same step. -/
theorem waitingTransactions : Obligations.WaitingTransactions := by
  refine fun m b s hburst hb => ⟨fun hclass hsince => ?_, fun hport hended hsince => ?_⟩
  · refine ⟨_, exec_arbitrationAging hburst hb hclass hsince, ?_, ?_, ?_, ?_⟩
    · rfl
    · exact (Dev.burst_congr (Dev.roll_bursts _ _ _) _).trans (Dev.burst_setBurst_same _ _ _)
    · exact Dev.get_roll_same _ (by decide) 1
    · dsimp only
      exact ((Dev.WordsBut.refl _ s.dev).of_words (Dev.setBurst_words _ _ _)).roll (by decide) 1
  · refine ⟨_, exec_stuckTransaction hburst hb hport hended hsince, Dev.finish_burst _ _ _,
      congrArg Reply.resp (Dev.finish_reply _ _ _), ?_, ?_, ?_, rfl, rfl⟩
    · dsimp only
      rw [Dev.get_congr (Dev.finish_words _ _ _), Dev.stuck, Dev.raise, Dev.get_put_apart _ _ (.inl (by decide)),
        Dev.get_roll_same _ (by decide), Dev.get_setBurst]
      rfl
    · dsimp only
      rw [Dev.on_congr (Dev.finish_words _ _ _)]
      exact Dev.on_raise _ _ (by decide) (by decide)
    · dsimp only
      refine Dev.WordsBut.of_words ?_ (Dev.finish_words _ _ _)
      unfold Dev.stuck
      exact (((Dev.WordsBut.refl _ s.dev).of_words (Dev.setBurst_words _ _ _)).roll (by decide) 1).raise (by decide)

end Sys2Proof.Machine

/-! Reads with effects (R77, R92, R373). -/

namespace Sys2Proof.Machine

/-! The capture of the time base -/

theorem Dev.timeBase_lt (d : Dev) : d.timeBase < 2 ^ 63 := by
  unfold Dev.timeBase
  split
  · exact Nat.two_pow_pos 63
  · exact Nat.mod_lt _ (Nat.two_pow_pos 63)

/-- `CLK.TB_HI` over `CLK.TB_LO`: the time base, with the state of the root as the top bit. -/
def Dev.wideTimeBase (d : Dev) : Nat := d.timeBase + bitOf d.rootValid * 2 ^ 63

theorem Dev.wideTimeBase_low (d : Dev) : BitVec.ofNat 32 d.wideTimeBase = BitVec.ofNat 32 d.timeBase := by
  refine BitVec.eq_of_toNat_eq ?_
  rw [BitVec.toNat_ofNat, BitVec.toNat_ofNat, Dev.wideTimeBase]
  omega

theorem Dev.wideTimeBase_high (d : Dev) :
    (BitVec.ofNat 32 (d.wideTimeBase / 2 ^ 32)).toNat = d.timeBase / 2 ^ 32 + (if d.rootValid then 2 ^ 31 else 0) := by
  have hlt := d.timeBase_lt
  rw [BitVec.toNat_ofNat, Dev.wideTimeBase]
  cases d.rootValid
  · simp only [bitOf, Bool.false_eq_true, if_false]
    omega
  · simp only [bitOf, if_true]
    omega

theorem Chip.wideValue_tbLo (c : Chip) : c.wideValue Reg.clkTbLo = some c.dev.wideTimeBase := by
  rw [Chip.wideValue, if_pos rfl]
  rfl

/-- The capture of the high word of a pair for master `m`. -/
def Dev.capture (d : Dev) (m a : Nat) (w : W32) : Dev := { d with snaps := Store.set (fun _ => 0) d.snaps (snapKey m a) w }

theorem Dev.snap_capture_same (d : Dev) (m a : Nat) (w : W32) : (d.capture m a w).snap m a = w := Store.get_set_same _ _ _ _

/-- Masters have captures of their own: there are fewer than eight of them. -/
theorem Dev.snap_capture_other (d : Dev) {m j : Nat} (hm : m < 8) (hj : j < 8) (hne : j ≠ m) (a b : Nat) (w : W32) :
    (d.capture m a w).snap j b = d.snap j b :=
  Store.get_set_other _ _ _ (by unfold snapKey; omega)

theorem Dev.snap_congr {d e : Dev} (h : d.snaps = e.snaps) (m a : Nat) : d.snap m a = e.snap m a := by rw [Dev.snap, h, Dev.snap]

/-- An answer without effect: the reply, and the counts of answers. -/
def Dev.answer (d : Dev) (m a : Nat) (w : Bool) (r : Resp) (data : List Byte) (beats : Nat) : Dev :=
  (d.reply m { resp := r, data := data }).fecSeen m a w r beats

section
variable (d : Dev) (m a : Nat) (w : Bool) (r : Resp) (data : List Byte) (beats : Nat)

theorem Dev.answer_frame :
    d.answer m a w r data beats = { d with replies := (d.reply m { resp := r, data := data }).replies,
                                           fec := (d.answer m a w r data beats).fec } := by
  rw [Dev.answer, Dev.fecSeen_frame]
  rfl

theorem Dev.answer_replies : (d.answer m a w r data beats).replies = (d.reply m { resp := r, data := data }).replies := by
  rw [Dev.answer_frame]

theorem Dev.replyTo_answer (j : Nat) :
    (d.answer m a w r data beats).replyTo j = if j = m then { resp := r, data := data } else d.replyTo j := by
  rw [Dev.replyTo, d.answer_replies]
  exact d.replyTo_reply m j _

end

/-- A capture that is answered. -/
theorem Dev.answer_capture_frame (d : Dev) (m a a' : Nat) (v : W32) (w : Bool) (r : Resp) (data : List Byte) (beats : Nat) :
    let e := (d.capture m a v).answer m a' w r data beats
    e = { d with snaps := e.snaps, replies := e.replies, fec := e.fec } ∧ e.snaps = (d.capture m a v).snaps
      ∧ ∀ j, e.replyTo j = if j = m then { resp := r, data := data } else d.replyTo j := by
  intro e
  have hframe : e = { d.capture m a v with replies := ((d.capture m a v).reply m { resp := r, data := data }).replies, fec := e.fec } :=
    (d.capture m a v).answer_frame m a' w r data beats
  have hsnaps : e.snaps = (d.capture m a v).snaps := by rw [hframe]
  have hreplies : e.replies = ((d.capture m a v).reply m { resp := r, data := data }).replies := by rw [hframe]
  refine ⟨?_, hsnaps, (d.capture m a v).replyTo_answer m a' w r data beats⟩
  rw [hsnaps, hreplies]
  exact hframe

theorem Chip.getWord_tbLo {c : Chip} {m : Nat} (h : c.dev.grant m Reg.clkTbLo false = .ok) :
    c.getWord m Reg.clkTbLo = (c.on (fun d => d.capture m Reg.clkTbHi (BitVec.ofNat 32 (c.dev.wideTimeBase / 2 ^ 32))), .okay,
      BitVec.ofNat 32 c.dev.wideTimeBase) := by
  have hpage : isPageAddr Reg.clkTbLo = true := by decide
  rw [Chip.getWord, Dev.busGrant_of_grant h, if_neg (fun hc => absurd hc.1 (by decide)), Chip.readEffect, Chip.regWord, if_pos hpage,
    Chip.pageWord, c.wideValue_tbLo]
  rfl

/-- A read that captures, which the master may issue. -/
def Chip.snapshot (c : Chip) (m a : Nat) : Chip :=
  match c.dev.grant m a false with
  | .never => c
  | _ => (c.getWord m a).1.on (fun d => d.answer m a false (c.getWord m a).2.1 (wordBytes (c.getWord m a).2.2) 1)

theorem exec_snapshotCapture_eq (m : Master) (a : Addr) (s : State) :
    exec (.snapshotCapture m a) s = .next (s.setChip (s.chip.when (decide (m.val < 3) && (s.chip.wideValue a.toNat).isSome)
      (fun x => x.snapshot m.val a.toNat))) := rfl

theorem exec_snapshotCapture_tbLo {m : Master} {a : Addr} {s : State} (hm : m.val < 3) (ha : a.toNat = Reg.clkTbLo)
    (h : s.mayRead m.val Reg.clkTbLo) :
    exec (.snapshotCapture m a) s = .next { s with
      dev := (s.dev.capture m.val Reg.clkTbHi (BitVec.ofNat 32 (s.dev.wideTimeBase / 2 ^ 32))).answer m.val Reg.clkTbLo false .okay
        (wordBytes (BitVec.ofNat 32 s.dev.wideTimeBase)) 1 } := by
  have hget : s.chip.getWord m.val Reg.clkTbLo = (s.chip.on (fun d => d.capture m.val Reg.clkTbHi (BitVec.ofNat 32
      (s.dev.wideTimeBase / 2 ^ 32))), .okay, BitVec.ofNat 32 s.dev.wideTimeBase) := Chip.getWord_tbLo h
  have hgrant : s.chip.dev.grant m.val Reg.clkTbLo false = .ok := h
  have hwide : (s.chip.wideValue Reg.clkTbLo).isSome = true := by rw [s.chip.wideValue_tbLo]; rfl
  rw [exec_snapshotCapture_eq, ha, hwide, decide_eq_true hm, Bool.and_self, Chip.when, if_pos rfl, Chip.snapshot, hgrant, hget, Chip.on_on,
    State.setChip_on]

theorem snapshotCapture_tbLo (m : Master) (a : Addr) (s : State) (hm : m.val < 3) (ha : a.toNat = Reg.clkTbLo)
    (h : s.mayRead m.val Reg.clkTbLo) :
    ∃ t, exec (.snapshotCapture m a) s = .next t
      ∧ t.dev.replyTo m.val = { resp := .okay, data := wordBytes (BitVec.ofNat 32 s.dev.timeBase) }
      ∧ (t.dev.snap m.val Reg.clkTbHi).toNat = s.dev.timeBase / 2 ^ 32 + (if s.dev.rootValid then 2 ^ 31 else 0)
      ∧ (∀ j : Master, j ≠ m → ∀ b, t.dev.snap j.val b = s.dev.snap j.val b ∧ t.dev.replyTo j.val = s.dev.replyTo j.val)
      ∧ t = { s with dev := { s.dev with snaps := t.dev.snaps, replies := t.dev.replies, fec := t.dev.fec } } := by
  have hexec := exec_snapshotCapture_tbLo hm ha h
  rw [s.dev.wideTimeBase_low] at hexec
  refine ⟨_, hexec, ?_⟩
  generalize hw : BitVec.ofNat 32 (s.dev.wideTimeBase / 2 ^ 32) = w
  generalize hd : wordBytes (BitVec.ofNat 32 s.dev.timeBase) = data
  obtain ⟨hframe, hsnaps, hreply⟩ := s.dev.answer_capture_frame m.val Reg.clkTbHi Reg.clkTbLo w false .okay data 1
  generalize (s.dev.capture m.val Reg.clkTbHi w).answer m.val Reg.clkTbLo false .okay data 1 = e at hframe hsnaps hreply ⊢
  refine ⟨(hreply m.val).trans (if_pos rfl), ?_, fun j hj b => ?_, congrArg (fun d => ({ s with dev := d } : State)) hframe⟩
  · rw [Dev.snap_congr hsnaps, Dev.snap_capture_same, ← hw, Dev.wideTimeBase_high]
  · have hne : j.val ≠ m.val := fun hv => hj (Fin.ext hv)
    exact ⟨(Dev.snap_congr hsnaps _ _).trans (s.dev.snap_capture_other (by omega) (by omega) hne _ _ _), (hreply j.val).trans (if_neg hne)⟩

/-! A read that changes words -/

/-- A read whose effect reaches words at the addresses of `l` alone. -/
theorem answeredWords_readThen {s : State} {m a : Nat} {w : W32} {after : Dev → Dev} {l : List Nat} (h : s.mayRead m a)
    (hafter : Dev.WordsOnly l s.dev (after s.dev)) : AnsweredWords m .okay l s { s with dev := s.dev.readThen m a w after } := by
  obtain ⟨hframe, hreply, -⟩ := Dev.readThen_ok (w := w) (after := after) h
  obtain ⟨heq, hbut⟩ := hafter
  have hwords : (s.dev.readThen m a w after).words = (after s.dev).words := by rw [hframe]
  refine ⟨?_, ?_, hbut.of_words hwords⟩
  · rw [← hwords] at heq
    refine congrArg (fun d => ({ s with dev := d } : State)) ?_
    rw [heq] at hframe
    exact hframe
  · rw [heq] at hreply
    exact hreply

theorem Dev.readThen_ok_words {d : Dev} {m a : Nat} {w : W32} {after : Dev → Dev} (h : d.grant m a false = .ok) :
    (d.readThen m a w after).words = (after d).words := by
  obtain ⟨hframe, -⟩ := Dev.readThen_ok (w := w) (after := after) h
  rw [hframe]

/-- A read of field `f`'s register that sets the field to what field `g` holds. -/
theorem readThen_put {s : State} {m a : Nat} {f g : Field} (h : s.mayRead m a) (hoff : f.off = a) (hlen : f.lo + f.len ≤ 32)
    (hg : g.len = f.len) :
    (s.dev.readThen m a (s.dev.word a) (fun e => e.put f (e.get g))).replyTo m = { resp := .okay, data := wordBytes (s.dev.word a) }
      ∧ (s.dev.readThen m a (s.dev.word a) (fun e => e.put f (e.get g))).get f = s.dev.get g
      ∧ AnsweredWords m .okay [a] s { s with dev := s.dev.readThen m a (s.dev.word a) (fun e => e.put f (e.get g)) } := by
  have hwords : Dev.WordsOnly [a] s.dev (s.dev.put f (s.dev.get g)) := (Dev.WordsOnly.refl _ _).put (by simp [hoff]) _
  refine ⟨(Dev.readThen_ok h).2.2, ?_, answeredWords_readThen h hwords⟩
  rw [Dev.get_congr (Dev.readThen_ok_words h), Dev.get_put_same _ _ _ hlen, ← hg, Nat.mod_eq_of_lt (s.dev.get_lt g)]

theorem exec_peakRead_f2l (m : Master) (s : State) :
    exec (.peakRead m true) s = .next { s with
      dev := s.dev.readThen m.val Reg.psqPeakF2l (s.dev.word Reg.psqPeakF2l)
        (fun e => e.put F.psqPeakF2lBytes (e.get F.psqCountF2lBytes)) } := rfl

theorem exec_peakRead_l2f (m : Master) (s : State) :
    exec (.peakRead m false) s = .next { s with
      dev := s.dev.readThen m.val Reg.psqPeakL2f (s.dev.word Reg.psqPeakL2f)
        (fun e => e.put F.psqPeakL2fBytes (e.get F.psqCountL2fBytes)) } := rfl

/-- Settles O7: a capture is kept under its master's key, and a peak takes the count beside it. -/
theorem readsWithEffects : Obligations.ReadsWithEffects := by
  refine ⟨snapshotCapture_tbLo, fun m f2l s => ?_⟩
  cases f2l with
  | false =>
    simp only [Bool.false_eq_true, if_false]
    intro h
    exact ⟨_, exec_peakRead_l2f m s, readThen_put h rfl (by decide) rfl⟩
  | true =>
    simp only [if_true]
    intro h
    exact ⟨_, exec_peakRead_f2l m s, readThen_put h rfl (by decide) rfl⟩

end Sys2Proof.Machine

/-! The accesses of a debugger (R523, R597, R598, R601). -/

namespace Sys2Proof.Machine

/-! Bits and bytes of a word -/

theorem getLsbD_putF (w : W32) {lo len v i : Nat} (hi : i < 32) (h : lo + len ≤ 32) :
    (putF w lo len v).getLsbD i = if i < lo then w.getLsbD i else if i < lo + len then v.testBit (i - lo) else w.getLsbD i :=
  putF_testBit w lo len v i hi h

theorem byteOf_wordOfBytes (b0 b1 b2 b3 : Byte) : wordBytes (wordOfBytes b0 b1 b2 b3) = [b0, b1, b2, b3] := by
  have h0 := b0.isLt
  have h1 := b1.isLt
  have h2 := b2.isLt
  have h3 := b3.isLt
  have hw : (wordOfBytes b0 b1 b2 b3).toNat = b0.toNat + b1.toNat * 0x100 + b2.toNat * 0x10000 + b3.toNat * 0x1000000 := by
    rw [wordOfBytes, BitVec.toNat_ofNat]
    omega
  have hbyte (i : Nat) (b : Byte) (h : (wordOfBytes b0 b1 b2 b3).toNat / 2 ^ (8 * i) % 256 = b.toNat) :
      byteOf (wordOfBytes b0 b1 b2 b3) i = b := BitVec.eq_of_toNat_eq ((BitVec.toNat_ofNat _ _).trans h)
  rw [wordBytes, hbyte 0 b0 (by omega), hbyte 1 b1 (by omega), hbyte 2 b2 (by omega), hbyte 3 b3 (by omega)]

/-- A word read as four bytes of memory. -/
theorem wordBytes_wordFrom_memRead (m : List Host.Cell) (a : Nat) : wordBytes (wordFrom (memRead m a 4) 0) = memRead m a 4 :=
  byteOf_wordOfBytes _ _ _ _

/-! What an access is granted -/

section
variable {s : State} (htap : s.dev.mgt.tap = 0x11#5) (hreset : s.dev.modes.inReset = .no)
include htap hreset

theorem exec_dmiAccess (op : DmiOp) :
    exec (.dmiAccess op) s
      = .next (s.setChip (if s.dev.grants .observe = true then s.chip.dmi op else s.chip.on (fun e => e.dmiEnd 2 0))) := by
  have hok : (s.dev.mgt.tap.toNat == tapDmi && s.dev.modes.inReset == .no) = true := by
    rw [htap, hreset]
    decide
  change Host.Outcome.next (s.setChip (Chip.when s.chip (s.dev.mgt.tap.toNat == tapDmi && s.dev.modes.inReset == .no) _)) = _
  rw [hok]
  rfl

theorem exec_dmiAccess_granted (h : 1 ≤ s.dev.debugLevel) (op : DmiOp) : exec (.dmiAccess op) s = .next (s.setChip (s.chip.dmi op)) := by
  rw [exec_dmiAccess htap hreset, if_pos (show s.dev.grants .observe = true from decide_eq_true h)]

/-- A granted access that changes the device alone. -/
theorem exec_dmiAccess_on (h : 1 ≤ s.dev.debugLevel) {op : DmiOp} {f : Dev → Dev} (hop : s.chip.dmi op = s.chip.on f) :
    exec (.dmiAccess op) s = .next { s with dev := f s.dev } := by
  rw [exec_dmiAccess_granted htap hreset h, hop, State.setChip_on]

theorem exec_dmiAccess_denied (h : s.dev.debugLevel = 0) (op : DmiOp) :
    exec (.dmiAccess op) s = .next { s with dev := s.dev.dmiEnd 2 0 } := by
  have hno : ¬ s.dev.grants .observe = true := fun hc => absurd (of_decide_eq_true (p := 1 ≤ s.dev.debugLevel) hc) (by omega)
  rw [exec_dmiAccess htap hreset, if_neg hno]
  rfl

end

theorem Dev.grants_halt (d : Dev) : d.grants .halt = (d.debugLevel == 2) := rfl

section
variable {c : Chip} (h : c.dev.grants .halt = false)
include h

theorem Chip.dmi_haltReq_ignored : c.dmi .haltReq = c.on (fun d => d.dmiEnd 0 0) := by
  simp only [Chip.dmi, h, Bool.false_and, Dev.when, Bool.false_eq_true, if_false]

theorem Chip.dmi_resumeReq_ignored : c.dmi .resumeReq = c.on (fun d => d.dmiEnd 0 0) := by
  simp only [Chip.dmi, h, Dev.when, Bool.false_eq_true, if_false]

theorem Chip.dmi_abstractCmd_refused : c.dmi .abstractCmd = c.on (fun d => d.dmiEnd 2 0) := by
  simp only [Chip.dmi, h, Bool.false_eq_true, if_false]

theorem Chip.dmi_sysBusWrite_refused (a : Addr) (data : W32) : c.dmi (.sysBusWrite a data) = c.on (fun d => d.dmiEnd 2 0) := by
  simp only [Chip.dmi, h, Bool.false_eq_true, if_false]

end

section
variable {c : Chip} (h : c.dev.grants .halt = true)
include h

theorem Chip.dmi_haltReq (hrun : c.dev.mgt.halted = false) :
    c.dmi .haltReq = c.on (fun d => (d.setMgt { d.mgt with halted := true, haltAt := d.now }).dmiEnd 0 0) := by
  simp only [Chip.dmi, h, Chip.on, hrun, Bool.not_false, Bool.and_self, Dev.when, if_true]

theorem Chip.dmi_resumeReq (hhalt : c.dev.mgt.halted = true) :
    c.dmi .resumeReq
      = c.on (fun d => (d.setMgt { d.mgt with halted := false, wdogAt := d.mgt.wdogAt + (d.now - d.mgt.haltAt) }).dmiEnd 0 0) := by
  simp only [Chip.dmi, h, Chip.on, Dev.resumeHart, hhalt, Dev.when, if_true]

theorem Chip.dmi_abstractCmd : c.dmi .abstractCmd = c.on (fun d => d.dmiEnd 0 0) := by
  simp only [Chip.dmi, h, if_true]

theorem Chip.dmi_sysBusWrite (a : Addr) (data : W32) :
    c.dmi (.sysBusWrite a data) = (c.transact 1 true (a.toNat / 4 * 4) 4 (wordBytes data) .clean).on (fun d => d.dmiEnd 0 0) := by
  simp only [Chip.dmi, h, if_true]

end

theorem Chip.dmi_sysBusRead (c : Chip) (a : Addr) :
    c.dmi (.sysBusRead a) = (c.transact 1 false (a.toNat / 4 * 4) 4 [] .clean).on
      (fun d => d.dmiEnd 0 (wordFrom (d.replyTo 1).data 0)) := rfl

/-- R598: bits 8 and 9 of `dmstatus` say that the hart is halted, and bits 10 and 11 that it runs. -/
theorem Dev.dmstatus_bits (d : Dev) :
    d.dmstatus.1.getLsbD 8 = d.mgt.halted ∧ d.dmstatus.1.getLsbD 9 = d.mgt.halted ∧ d.dmstatus.1.getLsbD 10 = !d.mgt.halted
      ∧ d.dmstatus.1.getLsbD 11 = !d.mgt.halted := by
  unfold Dev.dmstatus
  dsimp only
  generalize d.freeWord.1 = w
  cases d.mgt.halted <;>
    simp only [getLsbD_putF, Nat.reduceLT, Nat.reduceAdd, Nat.reduceSub, Nat.reduceLeDiff, if_true, if_false, Bool.false_eq_true] <;> decide

theorem Chip.dmi_readDmstatus (c : Chip) :
    c.dmi .readDmstatus = c.on (fun d => ({ d with fresh := d.fresh + 1 } : Dev).dmiEnd 0 d.dmstatus.1) := rfl

/-- A read of `dmstatus` takes one free value, and shows `w`. -/
theorem State.readDmstatus_frame (s : State) (w : W32) :
    let t : State := { s with dev := ({ s.dev with fresh := s.dev.fresh + 1 } : Dev).dmiEnd 0 w }
    t.dev.mgt.dmiStatus = 0 ∧ t.dev.mgt.dmiData = w
      ∧ t = { s with dev := { s.dev with fresh := t.dev.fresh, mgt := { s.dev.mgt with dmiStatus := 0, dmiData := t.dev.mgt.dmiData } } } :=
  ⟨rfl, rfl, rfl⟩

/-- The word of the system bus that a debugger names, of the processor SRAM. -/
theorem sramWord_bounds {a : Nat} (h : 0x0400_0000 ≤ a) (h' : a < 0x0440_0000) :
    0x0400_0000 ≤ a / 4 * 4 ∧ a / 4 * 4 + 4 ≤ 0x0440_0000 := by
  omega

/-- What the end of an access leaves of the chip, and what it shows. -/
theorem State.setChip_dmiEnd (s : State) (c : Chip) (status : Nat) (w : Dev → W32) :
    let t := s.setChip (c.on (fun d => d.dmiEnd status (w d)))
    t.dev.mgt.dmiStatus = status ∧ t.dev.mgt.dmiData = w c.dev ∧ t.mem = c.mem ∧ t.flash = c.flash ∧ t.dev.words = c.dev.words
      ∧ ∀ m, t.dev.replyTo m = c.dev.replyTo m := ⟨rfl, rfl, rfl, rfl, rfl, fun _ => rfl⟩

section
variable {s : State} (htap : s.dev.mgt.tap = 0x11#5) (hreset : s.dev.modes.inReset = .no)
include htap hreset

theorem dmiAccess_sysBusWrite (hlevel : s.dev.debugLevel = 2) (a : Addr) (data : W32) :
    ∃ t, exec (.dmiAccess (.sysBusWrite a data)) s = .next t ∧ t.dev.mgt.dmiStatus = 0
      ∧ (s.dev.inBurst 1 = false → 0x0400_0000 ≤ a.toNat → a.toNat < 0x0440_0000 →
          let b := a.toNat / 4 * 4
          t.flash = s.flash ∧ (t.dev.replyTo 1).resp = .okay ∧ (∀ i, i < 4 → memByte t.mem (b + i) = (wordBytes data).getD i 0)
            ∧ ∀ x, (x < b ∨ b + 4 ≤ x) → memByte t.mem x = memByte s.mem x) := by
  have hyes : s.chip.dev.grants .halt = true := s.dev.grants_halt.trans (by rw [hlevel]; rfl)
  have hexec := exec_dmiAccess_granted htap hreset (by omega) (.sysBusWrite a data)
  rw [Chip.dmi_sysBusWrite hyes] at hexec
  obtain ⟨hstatus, -, hmem, hflash, -, hreply⟩ :=
    s.setChip_dmiEnd (s.chip.transact 1 true (a.toNat / 4 * 4) 4 (wordBytes data) .clean) 0 (fun _ => 0)
  refine ⟨_, hexec, hstatus, fun hidle habove hbelow => ?_⟩
  obtain ⟨hlow, hhigh⟩ := sramWord_bounds habove hbelow
  have hdone := Chip.sramDone_transact (c := s.chip) (m := 1) (write := true) (data := wordBytes data) (ecc := .clean) hidle
    (by decide) hlow hhigh (.inl ⟨rfl, rfl⟩)
  obtain ⟨hstored, hother⟩ := hdone.stored rfl rfl
  rw [hmem]
  exact ⟨hflash.trans hdone.flash, congrArg Reply.resp ((hreply 1).trans hdone.reply), hstored, hother⟩

theorem dmiAccess_sysBusRead (hlevel : 1 ≤ s.dev.debugLevel) (a : Addr) :
    ∃ t, exec (.dmiAccess (.sysBusRead a)) s = .next t ∧ t.dev.mgt.dmiStatus = 0
      ∧ (s.dev.inBurst 1 = false → s.dev.sram.poison = [] → 0x0400_0000 ≤ a.toNat → a.toNat < 0x0440_0000 →
          wordBytes t.dev.mgt.dmiData = memRead s.mem (a.toNat / 4 * 4) 4 ∧ t.mem = s.mem ∧ t.flash = s.flash
            ∧ t.dev.words = s.dev.words) := by
  have hexec := exec_dmiAccess_granted htap hreset hlevel (.sysBusRead a)
  rw [Chip.dmi_sysBusRead] at hexec
  obtain ⟨hstatus, hdata, hmem, hflash, hwords, -⟩ := s.setChip_dmiEnd (s.chip.transact 1 false (a.toNat / 4 * 4) 4 [] .clean) 0
    (fun d => wordFrom (d.replyTo 1).data 0)
  refine ⟨_, hexec, hstatus, fun hidle hpoison habove hbelow => ?_⟩
  obtain ⟨hlow, hhigh⟩ := sramWord_bounds habove hbelow
  have hdone := Chip.sramDone_transact (c := s.chip) (m := 1) (write := false) (data := []) (ecc := .clean) hidle
    (by decide) hlow hhigh (.inr ⟨rfl, rfl, hpoison⟩)
  have hread : ((s.chip.transact 1 false (a.toNat / 4 * 4) 4 [] .clean).dev.replyTo 1).data = memRead s.mem (a.toNat / 4 * 4) 4 :=
    congrArg Reply.data hdone.reply
  rw [hdata, hread]
  exact ⟨wordBytes_wordFrom_memRead _ _, hmem.trans hdone.mem, hflash.trans hdone.flash, hwords.trans (hdone.words rfl hpoison)⟩

end

/-- Settles O8: what an access does follows from the level alone, and an access to the system bus is a whole transaction of four
bytes. -/
theorem debugModuleAccess : Obligations.DebugModuleAccess := by
  refine fun s htap hreset => ⟨fun hlevel op => ⟨_, exec_dmiAccess_denied htap hreset hlevel op, rfl⟩, fun hlevel => ?_, fun hlevel => ?_,
    fun hlevel => ?_⟩
  · have hno : s.chip.dev.grants .halt = false := s.dev.grants_halt.trans (by rw [hlevel]; rfl)
    have hon {op : DmiOp} {f : Dev → Dev} (hop : s.chip.dmi op = s.chip.on f) := exec_dmiAccess_on htap hreset hlevel.ge hop
    exact ⟨⟨_, hon (Chip.dmi_haltReq_ignored hno), rfl⟩, ⟨_, hon (Chip.dmi_resumeReq_ignored hno), rfl⟩,
      ⟨_, hon (Chip.dmi_abstractCmd_refused hno), rfl⟩, fun a data => ⟨_, hon (Chip.dmi_sysBusWrite_refused hno a data), rfl⟩⟩
  · have hyes : s.chip.dev.grants .halt = true := s.dev.grants_halt.trans (by rw [hlevel]; rfl)
    have hon {op : DmiOp} {f : Dev → Dev} (hop : s.chip.dmi op = s.chip.on f) :=
      exec_dmiAccess_on htap hreset (show 1 ≤ s.dev.debugLevel by omega) hop
    exact ⟨fun hrun => ⟨_, hon (Chip.dmi_haltReq hyes hrun), rfl⟩, fun hhalt => ⟨_, hon (Chip.dmi_resumeReq hyes hhalt), rfl⟩,
      ⟨_, hon (Chip.dmi_abstractCmd hyes), rfl⟩, dmiAccess_sysBusWrite htap hreset hlevel⟩
  · obtain ⟨hstatus, hdata, hframe⟩ := s.readDmstatus_frame s.dev.dmstatus.1
    refine ⟨⟨_, exec_dmiAccess_on htap hreset hlevel s.chip.dmi_readDmstatus, hstatus, hframe, ?_⟩, dmiAccess_sysBusRead htap hreset hlevel⟩
    rw [hdata]
    exact s.dev.dmstatus_bits

end Sys2Proof.Machine

/-! The Host Control Port (R535 to R558). -/

namespace Sys2Proof.Machine

/-! Frames of its own updates -/

/-- The records of a transaction that ends are words of `HCP.LAST`. -/
def lastWords : List Nat := [Reg.hcpLast, Reg.hcpLastAddrLo, Reg.hcpLastAddrHi]

section
variable {l : List Nat} {d e : Dev}

theorem Dev.WordsOnly.roll (h : Dev.WordsOnly l d e) {f : Field} (hf : f.off ∈ l) (n : Nat) : Dev.WordsOnly l d (e.roll f n) := h.setWord hf _

theorem Dev.WordsOnly.mono {k : List Nat} (h : Dev.WordsOnly l d e) (hl : l ⊆ k) : Dev.WordsOnly k d e := ⟨h.1, h.2.mono hl⟩

theorem Dev.WordsOnly.trans {x : Dev} (h : Dev.WordsOnly l d e) (h' : Dev.WordsOnly l e x) : Dev.WordsOnly l d x := by
  refine ⟨?_, h.2.trans h'.2⟩
  have hframe := h'.1
  rw [h.1] at hframe
  exact hframe

theorem Dev.wordsOnly_portLast (d : Dev) (t : PortTxn) : Dev.WordsOnly lastWords d (d.portLast t) := by
  unfold Dev.portLast Dev.setAddr
  exact (((Dev.WordsOnly.refl _ d).setWord (by decide) _).put (by decide) _).put (by decide) _

/-- A frame that words do not touch. -/
theorem Dev.WordsOnly.proj {α : Type} (h : Dev.WordsOnly l d e) (f : Dev → α) (hf : ∀ (x : Dev) (w : Store W32), f { x with words := w } = f x) :
    f e = f d := by
  rw [h.1]
  exact hf d e.words

theorem Dev.WordsOnly.port (h : Dev.WordsOnly l d e) : e.port = d.port := h.proj Dev.port fun _ _ => rfl

end

theorem Dev.get_setPort (d : Dev) (p : Port) (f : Field) : (d.setPort p).get f = d.get f := rfl

/-! Headers -/

theorem parseHeader_some {h data : List Byte} {t : PortTxn} (hp : parseHeader h data = some t) :
    1 ≤ t.len ∧ t.data = data := by
  unfold parseHeader at hp
  dsimp only at hp
  split at hp
  case isTrue hok =>
    obtain ⟨-, -, -, -, hlen, -⟩ := hok
    cases hp
    exact ⟨hlen, rfl⟩
  case isFalse => cases hp

/-- The three commands of the port carry a frame in the same way. -/
theorem exec_portFrame {f : PortFrame} {c : Instr} (hc : c = .read f ∨ c = .write f ∨ c = .writePosted f) (s : State) :
    exec c s = .next (s.setChip (s.chip.portFrame f)) := by
  rcases hc with rfl | rfl | rfl <;> rfl

section
variable {f : PortFrame} {c : Chip} {t : PortTxn} (hlisten : c.dev.portListens = true)
include hlisten

theorem Chip.portFrame_discarded (hp : parseHeader f.header f.data = none) : c.portFrame f = c.on Dev.headerError := by
  simp only [Chip.portFrame, hlisten, Bool.not_true, Bool.false_eq_true, if_false, hp]

variable (hp : parseHeader f.header f.data = some t)
include hp

theorem Chip.portFrame_posted (hcmd : t.cmd = cmdPosted) (hlen : f.data.length = t.len)
    (hcheck : c.dev.portCheck t (numOf f.crc == portCrc f.data) = none) :
    c.portFrame f = c.on (fun d => (d.setPort { d.port with posted := d.port.posted ++ [t] }).showPending) := by
  simp only [Chip.portFrame, hlisten, Bool.not_true, Bool.false_eq_true, if_false, hp, hlen, ne_eq, not_true_eq_false, and_false, hcmd,
    if_true, hcheck]

variable (hcmd : t.cmd = cmdRead ∨ t.cmd = cmdWrite ∧ f.data.length = t.len)
include hcmd

theorem Chip.portFrame_refused {st cause : Nat} (hcheck : c.dev.portCheck t (numOf f.crc == portCrc f.data) = some (st, cause)) :
    c.portFrame f = (c.on (fun d => d.when (cause == causeDataCrc) Dev.dataError)).portRefuse t st cause := by
  have hwhole : ¬ (t.cmd ≠ cmdRead ∧ f.data.length ≠ t.len) := by
    rintro ⟨hread, hlen⟩
    exact hcmd.elim hread fun h => hlen h.2
  have hposted : t.cmd ≠ cmdPosted := by
    rcases hcmd with h | ⟨h, -⟩ <;> (rw [h]; decide)
  simp only [Chip.portFrame, hlisten, Bool.not_true, Bool.false_eq_true, if_false, hp, if_neg hwhole, if_neg hposted, hcheck]

theorem Chip.portFrame_issued (hcheck : c.dev.portCheck t (numOf f.crc == portCrc f.data) = none) :
    c.portFrame f = c.portIssue t f.beats f.ecc := by
  have hwhole : ¬ (t.cmd ≠ cmdRead ∧ f.data.length ≠ t.len) := by
    rintro ⟨hread, hlen⟩
    exact hcmd.elim hread fun h => hlen h.2
  have hposted : t.cmd ≠ cmdPosted := by
    rcases hcmd with h | ⟨h, -⟩ <;> (rw [h]; decide)
  simp only [Chip.portFrame, hlisten, Bool.not_true, Bool.false_eq_true, if_false, hp, if_neg hwhole, if_neg hposted, hcheck]

end

/-! A discarded header, and a posted write that waits -/

/-- A device that differs from one with another port in words alone. -/
theorem Dev.WordsOnly.wordsAndPort {l : List Nat} {s : State} {e : Dev} {p : Port} (h : Dev.WordsOnly l (s.dev.setPort p) e) :
    e.port = p ∧ ({ s with dev := e } : State) = { s with dev := { s.dev with words := e.words, port := e.port } } := by
  have hport : e.port = p := h.port
  refine ⟨hport, congrArg (fun d => ({ s with dev := d } : State)) ?_⟩
  have hframe := h.1
  rw [hport]
  exact hframe

theorem portFrame_discarded {f : PortFrame} {s : State} (hlisten : s.dev.portListens = true) (hp : parseHeader f.header f.data = none)
    {c : Instr} (hc : c = .read f ∨ c = .write f ∨ c = .writePosted f) :
    ∃ t, exec c s = .next t ∧ t.dev.port = { s.dev.port with ignoring := true } ∧ t.dev.on F.hcpEvtHdrErr = true
      ∧ t.dev.get F.hcpHdrErrCount = (s.dev.get F.hcpHdrErrCount + 1) % 2 ^ 32
      ∧ t = { s with dev := { s.dev with words := t.dev.words, port := t.dev.port } } := by
  have hexec : exec c s = .next { s with dev := s.dev.headerError } := by
    rw [exec_portFrame hc, Chip.portFrame_discarded (c := s.chip) hlisten hp, State.setChip_on]
  have hwords : Dev.WordsOnly [F.hcpHdrErrCount.off, F.hcpEvtHdrErr.off] (s.dev.setPort { s.dev.port with ignoring := true })
      s.dev.headerError := by
    unfold Dev.headerError
    exact ((Dev.WordsOnly.refl _ _).roll (by decide) 1).raise (by decide)
  obtain ⟨hport, hframe⟩ := hwords.wordsAndPort
  refine ⟨_, hexec, hport, Dev.on_raise _ _ (by decide) (by decide), ?_, hframe⟩
  dsimp only
  rw [Dev.headerError, Dev.raise, Dev.get_put_apart _ _ (.inl (by decide)), Dev.get_roll_same _ (by decide), Dev.get_setPort]
  rfl

theorem portFrame_posted {f : PortFrame} {x : PortTxn} {s : State} (hlisten : s.dev.portListens = true)
    (hp : parseHeader f.header f.data = some x) (hcmd : x.cmd = cmdPosted) (hlen : f.data.length = x.len)
    (hcheck : s.dev.portCheck x (numOf f.crc == portCrc f.data) = none) :
    ∃ t, exec (.writePosted f) s = .next t ∧ t.dev.port = { s.dev.port with posted := s.dev.port.posted ++ [x] }
      ∧ t.dev.get F.hcpPostPendCount = (s.dev.port.posted.length + 1) % 4 ∧ Dev.WordsBut [Reg.hcpPostPend] s.dev t.dev
      ∧ t = { s with dev := { s.dev with words := t.dev.words, port := t.dev.port } } := by
  have hexec : exec (.writePosted f) s = .next { s with
      dev := (s.dev.setPort { s.dev.port with posted := s.dev.port.posted ++ [x] }).showPending } := by
    rw [exec_portFrame (.inr (.inr rfl)), Chip.portFrame_posted (c := s.chip) hlisten hp hcmd hlen hcheck, State.setChip_on]
  have hwords : Dev.WordsOnly [Reg.hcpPostPend] (s.dev.setPort { s.dev.port with posted := s.dev.port.posted ++ [x] })
      (s.dev.setPort { s.dev.port with posted := s.dev.port.posted ++ [x] }).showPending := by
    unfold Dev.showPending
    exact (Dev.WordsOnly.refl _ _).put (by decide) _
  obtain ⟨hport, hframe⟩ := hwords.wordsAndPort
  refine ⟨_, hexec, hport, ?_, hwords.2, hframe⟩
  dsimp only
  rw [Dev.showPending, Dev.get_put_same _ _ _ (by decide), Dev.setPort_port, List.length_append]
  rfl

/-! Nothing before it -/

section
variable {c : Chip}

theorem Chip.portFinish_of_none (h : c.dev.port.cur = none) : c.portFinish = c := by
  rw [Chip.portFinish, h]

theorem Chip.commitPosted_of_nil (h : c.dev.port.posted = []) : c.commitPosted = c := by
  rw [Chip.commitPosted, h]

theorem Chip.portFlush_of_idle (hcur : c.dev.port.cur = none) (hposted : c.dev.port.posted = []) : c.portFlush = c := by
  rw [Chip.portFlush, Chip.portFinish_of_none hcur, Chip.commitPosted_of_nil hposted, Chip.commitPosted_of_nil hposted]

end

/-! A READ or WRITE that is refused or issued -/

/-- The port waits for transaction `t`. -/
def Dev.portWaits (d : Dev) (t : PortTxn) : Dev := d.setPort { d.port with cur := some t, curAt := d.now, timedOut := false }

theorem Chip.portRefuse_of_idle {c : Chip} (hcur : c.dev.port.cur = none) (hposted : c.dev.port.posted = []) (t : PortTxn) (st cause : Nat) :
    c.portRefuse t st cause = c.on (fun d => d.portWaits { t with status := st, cause := cause, data := [] }) := by
  rw [Chip.portRefuse, Chip.portFlush_of_idle hcur hposted]
  rfl

theorem Chip.portIssue_of_idle {c : Chip} (hcur : c.dev.port.cur = none) (hposted : c.dev.port.posted = []) (t : PortTxn) (n : Nat)
    (e : EccSeen) :
    c.portIssue t n e = ((c.on (fun d => d.portWaits t)).issue 0 (t.cmd == cmdWrite) t.addr t.len t.data e).beats 0 n := by
  rw [Chip.portIssue, Chip.portFlush_of_idle hcur hposted]
  rfl

section
variable {f : PortFrame} {x : PortTxn} {c : Instr} {s : State} (hlisten : s.dev.portListens = true)
  (hp : parseHeader f.header f.data = some x) (hcur : s.dev.port.cur = none) (hposted : s.dev.port.posted = [])
  (hc : c = .read f ∧ x.cmd = cmdRead ∨ c = .write f ∧ x.cmd = cmdWrite ∧ f.data.length = x.len)
include hlisten hp hcur hposted hc

omit hlisten hp hcur hposted in
theorem Instr.port_cases : (c = .read f ∨ c = .write f ∨ c = .writePosted f) ∧ (x.cmd = cmdRead ∨ x.cmd = cmdWrite ∧ f.data.length = x.len) := by
  rcases hc with ⟨h, hcmd⟩ | ⟨h, hcmd⟩
  · exact ⟨.inl h, .inl hcmd⟩
  · exact ⟨.inr (.inl h), .inr hcmd⟩

theorem portFrame_refused {st cause : Nat} (hcheck : s.dev.portCheck x (numOf f.crc == portCrc f.data) = some (st, cause)) :
    ∃ t, exec c s = .next t ∧ KeepsMemories s t
      ∧ t.dev.port = { s.dev.port with cur := some { x with status := st, cause := cause, data := [] }, curAt := s.dev.now,
                                           timedOut := false } := by
  obtain ⟨hinstr, hcmd⟩ := Instr.port_cases hc
  have hwords : Dev.WordsOnly [F.hcpDataCrcCount.off, F.hcpEvtDataCrc.off] s.dev (s.dev.when (cause == causeDataCrc) Dev.dataError) :=
    Dev.when_of _ (Dev.WordsOnly.refl _ _) (((Dev.WordsOnly.refl _ _).roll (by decide) 1).raise (by decide))
  have hnow : (s.dev.when (cause == causeDataCrc) Dev.dataError).now = s.dev.now := hwords.proj Dev.now fun _ _ => rfl
  have hport := hwords.port
  have hexec : exec c s = .next { s with
      dev := (s.dev.when (cause == causeDataCrc) Dev.dataError).portWaits { x with status := st, cause := cause, data := [] } } := by
    rw [exec_portFrame hinstr, Chip.portFrame_refused (c := s.chip) hlisten hp hcmd hcheck,
      Chip.portRefuse_of_idle ((congrArg Port.cur hport).trans hcur) ((congrArg Port.posted hport).trans hposted), Chip.on_on,
      State.setChip_on]
  refine ⟨_, hexec, ⟨rfl, rfl⟩, ?_⟩
  dsimp only
  rw [Dev.portWaits, Dev.setPort_port, hport, hnow]

/-- What an issued READ or WRITE of SRAM has done after the beats that its target took. -/
theorem portFrame_issued (hcheck : s.dev.portCheck x (numOf f.crc == portCrc f.data) = none) (habove : 0x0400_0000 ≤ x.addr)
    (hbelow : x.addr + x.len ≤ 0x0440_0000) (hecc : f.ecc = .clean) (hpoison : s.dev.sram.poison = []) :
    ∃ t, exec c s = .next t ∧ t.dev.port = { s.dev.port with cur := some x, curAt := s.dev.now, timedOut := false }
      ∧ t.flash = s.flash ∧ t.dev.words = s.dev.words ∧ (x.cmd = cmdRead → t.mem = s.mem)
      ∧ ∀ b, (b < x.addr ∨ x.addr + x.len ≤ b) → memByte t.mem b = memByte s.mem b := by
  obtain ⟨hinstr, hcmd⟩ := Instr.port_cases hc
  obtain ⟨hlen, hdata⟩ := parseHeader_some hp
  have hkind : (x.cmd == cmdWrite) = true ∧ x.data.length = x.len
      ∨ (x.cmd == cmdWrite) = false ∧ f.ecc = .clean ∧ s.dev.sram.poison = [] := by
    rcases hcmd with h | ⟨h, hl⟩
    · exact .inr ⟨by rw [h]; decide, hecc, hpoison⟩
    · exact .inl ⟨by rw [h]; decide, by rw [hdata]; exact hl⟩
  generalize hc₀ : s.chip.on (fun d => d.portWaits x) = c₀
  obtain ⟨hport, hflash, hmem, hwords, hp'⟩ : c₀.dev.port = { s.dev.port with cur := some x, curAt := s.dev.now, timedOut := false }
      ∧ c₀.flash = s.flash ∧ c₀.mem = s.mem ∧ c₀.dev.words = s.dev.words ∧ c₀.dev.sram.poison = [] := by
    rw [← hc₀]
    exact ⟨rfl, rfl, rfl, rfl, hpoison⟩
  have hstart := Chip.startsInSram_newBurst (c := c₀) (m := 0) (write := x.cmd == cmdWrite) (addr := x.addr) (len := x.len)
    (data := x.data) (ecc := f.ecc) hlen habove hbelow (by rw [hp']; exact hpoison ▸ hkind)
  obtain ⟨done, hrun⟩ := Chip.SramBurst.beats (m := 0)
    (c₀ := c₀.on (fun d => d.setBurst 0 (c₀.newBurst (x.cmd == cmdWrite) x.addr x.len x.data f.ecc))) hstart f.beats
    (Chip.SramBurst.start hstart (Dev.burst_setBurst_same _ _ _))
  have hexec : exec c s = .next (s.setChip ((c₀.on (fun d => d.setBurst 0 (c₀.newBurst (x.cmd == cmdWrite) x.addr x.len x.data
      f.ecc))).beats 0 f.beats)) := by
    rw [exec_portFrame hinstr, Chip.portFrame_issued (c := s.chip) hlisten hp hcmd hcheck, Chip.portIssue_of_idle (c := s.chip) hcur hposted,
      hc₀, Chip.issue_inSram hlen habove hbelow]
  refine ⟨_, hexec, (congrArg Dev.port hrun.rest).trans hport, hrun.flash.trans hflash,
    (congrArg Dev.words (hrun.clean hecc hp')).trans hwords, fun hread => ?_, fun b hb => ?_⟩
  · refine hrun.mem.trans ((if_neg ?_).trans hmem)
    change ¬ (x.cmd == cmdWrite) = true
    rw [hread]
    decide
  · rw [← hmem]
    exact hrun.outside hb

end

end Sys2Proof.Machine

/-! The transactions of the Host Control Port that end, and its port resets (R547 to R556). -/

namespace Sys2Proof.Machine

/-! The burst of the port is carried out -/

section
variable {c : Chip} {b : Burst}

/-- R540: a burst of SRAM of master 0 that is carried out ends OK with all its bytes. -/
theorem Chip.portRun_inSram (hburst : c.dev.burst 0 = b) (hb : b.StartsInSram c.dev) (hresp : b.resp = .okay) (t : PortTxn) :
    ∃ y, c.portRun t = (y, { t with status := stOk, cause := causeNone, count := b.len, data := b.sramResult c.mem })
      ∧ Chip.SramDone c 0 b y := by
  have hin : c.dev.inBurst 0 = true := (Chip.SramBurst.start hb hburst).inBurst hb
  have hrun := Chip.SramBurst.whole hb hburst (Nat.le_refl b.len)
  have hdrain : c.drain 0 = c.beats 0 b.len := by rw [Chip.drain, hburst]
  obtain ⟨beats, hafter⟩ := hrun.burst
  have hdone : ((c.beats 0 b.len).dev.burst 0).done = b.len := by rw [hafter]
  refine ⟨(c.beats 0 b.len).close 0, ?_, hrun.close hb⟩
  rw [Chip.portRun, if_pos hin, hdrain]
  simp only [hrun.resp, hresp, hrun.result, hdone, respStatus]

end

/-- The transaction in progress has ended as `t`, and its response goes out unless it has timed out. -/
def Dev.portAnswers (d : Dev) (t : PortTxn) : Dev :=
  d.setPort { d.port with cur := none, timedOut := false,
                          sent := if d.port.timedOut then d.port.sent else response t t.status t.cause t.count t.data }

theorem Chip.portFinish_of_some {c : Chip} {t : PortTxn} (h : c.dev.port.cur = some t) :
    c.portFinish = (c.portRun t).1.on (fun d => (d.portAnswers (c.portRun t).2).portLast (c.portRun t).2) := by
  rw [Chip.portFinish, h]
  rfl

/-- A response says of its transaction the command and the length alone. -/
theorem response_congr {t u : PortTxn} (hcmd : t.cmd = u.cmd) (hlen : t.len = u.len) (st cause count : Nat) (data : List Byte) :
    response t st cause count data = response u st cause count data := by
  rw [response, response, hcmd, hlen]

theorem State.setChip_on_mk (s : State) (c : Chip) (f : Dev → Dev) :
    s.setChip (c.on f) = { s with dev := f c.dev, mem := c.mem, flash := c.flash } := rfl

theorem exec_responseReady (s : State) : exec .responseReady s = .next (s.setChip s.chip.portFinish) := rfl

theorem exec_postedWriteEnd (s : State) : exec .postedWriteEnd s = .next (s.setChip s.chip.commitPosted) := rfl

/-- The port and the words after a response. -/
theorem Dev.portAnswers_shown {d e : Dev} {t x : PortTxn} (hwait : d.port.timedOut = false) (hport : e.port = d.port)
    (hwords : e.words = d.words) (hcmd : t.cmd = x.cmd) (hlen : t.len = x.len) :
    ((e.portAnswers t).portLast t).port = { d.port with cur := none, sent := response x t.status t.cause t.count t.data }
      ∧ Dev.WordsBut lastWords d ((e.portAnswers t).portLast t) := by
  have hlast := (e.portAnswers t).wordsOnly_portLast t
  refine ⟨hlast.port.trans ?_, fun a ha => (hlast.2 a ha).trans ?_⟩
  · rw [Dev.portAnswers, Dev.setPort_port, hport, response_congr hcmd hlen]
    simp only [hwait, Bool.false_eq_true, if_false]
  · rw [Dev.portAnswers, Dev.setPort_word, Dev.word, hwords, Dev.word]

section
variable {x : PortTxn} {since : Nat} {s : State} (hcur : s.dev.port.cur = some x) (hwait : s.dev.port.timedOut = false) (hlen : 1 ≤ x.len)
  (hpoison : s.dev.sram.poison = []) (habove : 0x0400_0000 ≤ x.addr) (hbelow : x.addr + x.len ≤ 0x0440_0000)
  (hburst : s.dev.burst 0 = { write := x.cmd == cmdWrite, addr := x.addr, len := x.len, data := x.data, since := since })
  (hkind : x.cmd = cmdRead ∨ x.cmd = cmdWrite ∧ x.data.length = x.len)
include hcur hwait hlen hpoison habove hbelow hburst hkind

/-- R547: the beats left are carried out, and the response goes out. -/
theorem responseReady_done :
    ∃ (y : Chip) (e : Dev), exec .responseReady s = .next { s with dev := e, mem := y.mem, flash := y.flash }
      ∧ Chip.SramDone s.chip 0 (s.dev.burst 0) y
      ∧ e.port = { s.dev.port with cur := none, sent := response x stOk causeNone x.len ((s.dev.burst 0).sramResult s.mem) }
      ∧ Dev.WordsBut lastWords s.dev e := by
  have hb : (s.dev.burst 0).StartsInSram s.dev := by
    rw [hburst]
    refine ⟨hlen, habove, hbelow, rfl, ⟨rfl, rfl, rfl⟩, ?_⟩
    rcases hkind with h | ⟨h, hl⟩
    · have hw : (x.cmd == cmdWrite) = false := by rw [h]; decide
      exact .inr ⟨hw, rfl, hpoison⟩
    · have hw : (x.cmd == cmdWrite) = true := by rw [h]; decide
      exact .inl ⟨hw, hl⟩
  obtain ⟨y, hrun, hdone⟩ := Chip.portRun_inSram (c := s.chip) rfl hb (show (s.dev.burst 0).resp = .okay by rw [hburst]) x
  have hblen : (s.dev.burst 0).len = x.len := by rw [hburst]
  have hecc : (s.dev.burst 0).ecc = .clean := by rw [hburst]
  generalize hu : ({ x with
    status := stOk, cause := causeNone, count := (s.chip.dev.burst 0).len, data := (s.chip.dev.burst 0).sramResult s.chip.mem } : PortTxn) = u
    at hrun
  obtain ⟨hcmd, hul, hstatus, hcause, hcount, hdata⟩ : u.cmd = x.cmd ∧ u.len = x.len ∧ u.status = stOk ∧ u.cause = causeNone
      ∧ u.count = x.len ∧ u.data = (s.dev.burst 0).sramResult s.mem := by
    rw [← hu]
    exact ⟨rfl, rfl, rfl, rfl, hblen, rfl⟩
  have hfinish := Chip.portFinish_of_some (c := s.chip) hcur
  rw [hrun] at hfinish
  have hexec : exec .responseReady s = .next { s with dev := (y.dev.portAnswers u).portLast u, mem := y.mem, flash := y.flash } := by
    rw [exec_responseReady, hfinish, State.setChip_on_mk]
  obtain ⟨hport, hwords⟩ := Dev.portAnswers_shown (e := y.dev) (t := u) (x := x) hwait (congrArg Dev.port hdone.rest :)
    (hdone.words hecc hpoison) hcmd hul
  rw [hstatus, hcause, hcount, hdata] at hport
  exact ⟨y, _, hexec, hdone, hport, hwords⟩

theorem responseReady_read (hcmd : x.cmd = cmdRead) :
    ∃ t, exec .responseReady s = .next t ∧ KeepsMemories s t ∧ t.dev.port
        = { s.dev.port with cur := none, sent := response x stOk causeNone x.len (memRead s.mem x.addr x.len) }
      ∧ Dev.WordsBut [Reg.hcpLast, Reg.hcpLastAddrLo, Reg.hcpLastAddrHi] s.dev t.dev := by
  obtain ⟨y, e, hexec, hdone, hport, hwords⟩ := responseReady_done hcur hwait hlen hpoison habove hbelow hburst hkind
  have hw : (x.cmd == cmdWrite) = false := by rw [hcmd]; decide
  have hread : (s.dev.burst 0).write = false := by rw [hburst]; exact hw
  have hdata : (s.dev.burst 0).sramResult s.mem = memRead s.mem x.addr x.len := by
    rw [Burst.sramResult, hread, hburst]
    rfl
  rw [hdata] at hport
  exact ⟨_, hexec, ⟨hdone.mem.trans (if_neg (ne_true_of_eq_false hread)), hdone.flash⟩, hport, hwords⟩

theorem responseReady_write (hcmd : x.cmd = cmdWrite) (hdata : x.data.length = x.len) :
    ∃ t, exec .responseReady s = .next t ∧ t.flash = s.flash
      ∧ t.dev.port = { s.dev.port with cur := none, sent := response x stOk causeNone x.len [] }
      ∧ (∀ i, i < x.len → memByte t.mem (x.addr + i) = x.data.getD i 0)
      ∧ (∀ b, (b < x.addr ∨ x.addr + x.len ≤ b) → memByte t.mem b = memByte s.mem b)
      ∧ Dev.WordsBut [Reg.hcpLast, Reg.hcpLastAddrLo, Reg.hcpLastAddrHi] s.dev t.dev := by
  obtain ⟨y, e, hexec, hdone, hport, hwords⟩ := responseReady_done hcur hwait hlen hpoison habove hbelow hburst hkind
  have hw : (x.cmd == cmdWrite) = true := by rw [hcmd]; decide
  have hwrite : (s.dev.burst 0).write = true := by rw [hburst]; exact hw
  have hresult : (s.dev.burst 0).sramResult s.mem = [] := if_pos hwrite
  rw [hresult] at hport
  obtain ⟨hstored, hother⟩ := hdone.stored hwrite (by rw [hburst]; exact hdata)
  rw [hburst] at hstored hother
  exact ⟨_, hexec, hdone.flash, hport, hstored, hother, hwords⟩

end

/-! Posted writes -/

/-- R553: a posted write that ends OK is counted, and the port waits for one less. -/
theorem Dev.postedLast_ok {d : Dev} {t : PortTxn} (h : t.status = stOk) : d.postedLast t = (d.portLast t).roll F.hcpPostDoneCount 1 := by
  rw [Dev.postedLast, if_pos h]

theorem Dev.wordsOnly_postedEnd (d : Dev) {t : PortTxn} (h : t.status = stOk) :
    Dev.WordsOnly (F.hcpPostPendCount.off :: F.hcpPostDoneCount.off :: lastWords) d (d.postedLast t).showPending := by
  rw [Dev.postedLast_ok h]
  unfold Dev.showPending
  exact (((d.wordsOnly_portLast t).mono (by simp)).roll (by simp) 1).put (by simp) _

theorem Dev.get_postedEnd (d : Dev) {t : PortTxn} (h : t.status = stOk) :
    (d.postedLast t).showPending.get F.hcpPostPendCount = d.port.posted.length % 4
      ∧ (d.postedLast t).showPending.get F.hcpPostDoneCount = (d.get F.hcpPostDoneCount + 1) % 2 ^ 32 := by
  have hlast := d.wordsOnly_portLast t
  rw [Dev.postedLast_ok h]
  constructor
  · rw [Dev.showPending, Dev.get_put_same _ _ _ (by decide), Dev.roll, Dev.put_port, hlast.port]
    rfl
  · rw [Dev.showPending, Dev.get_put_apart _ _ (.inl (by decide)), Dev.get_roll_same _ (by decide), hlast.2.get (by decide)]
    rfl

/-- R553: the oldest posted write, of SRAM, with nothing before it. -/
theorem postedWriteEnd_inSram (x : PortTxn) (rest : List PortTxn) (s : State) (hposted : s.dev.port.posted = x :: rest)
    (hcur : s.dev.port.cur = none) (hlen : 1 ≤ x.len) (hdata : x.data.length = x.len) (habove : 0x0400_0000 ≤ x.addr)
    (hbelow : x.addr + x.len ≤ 0x0440_0000) :
    ∃ t, exec .postedWriteEnd s = .next t ∧ t.flash = s.flash ∧ t.dev.port = { s.dev.port with posted := rest }
      ∧ t.dev.get F.hcpPostPendCount = rest.length % 4
      ∧ t.dev.get F.hcpPostDoneCount = (s.dev.get F.hcpPostDoneCount + 1) % 2 ^ 32
      ∧ (∀ i, i < x.len → memByte t.mem (x.addr + i) = x.data.getD i 0)
      ∧ ∀ b, (b < x.addr ∨ x.addr + x.len ≤ b) → memByte t.mem b = memByte s.mem b := by
  generalize hc₀ : s.chip.on (fun d => d.setPort { d.port with posted := rest }) = c₀
  have hstart := Chip.startsInSram_newBurst (c := c₀) (m := 0) (write := true) (data := x.data) (ecc := .clean) hlen habove hbelow
    (.inl ⟨rfl, hdata⟩)
  obtain ⟨y, hrun, hdone⟩ := Chip.portRun_inSram (c := c₀.on (fun d => d.setBurst 0 (c₀.newBurst true x.addr x.len x.data .clean)))
    (Dev.burst_setBurst_same _ _ _) hstart rfl x
  generalize hu : ({ x with
    status := stOk, cause := causeNone, count := (c₀.newBurst true x.addr x.len x.data .clean).len, data := _ } : PortTxn) = u at hrun
  have hstatus : u.status = stOk := by rw [← hu]
  have hcommit : s.chip.commitPosted = y.on (fun d => (d.postedLast u).showPending) := by
    have hissue := Chip.issue_inSram (c := c₀) (m := 0) (write := true) (data := x.data) (ecc := .clean) hlen habove hbelow
    have hp : s.chip.dev.port.posted = x :: rest := hposted
    rw [Chip.commitPosted, hp, Chip.portFinish_of_none (c := s.chip) hcur]
    dsimp only
    rw [hc₀, hissue, hrun]
  have hexec : exec .postedWriteEnd s = .next { s with dev := (y.dev.postedLast u).showPending, mem := y.mem, flash := y.flash } := by
    rw [exec_postedWriteEnd, hcommit, State.setChip_on_mk]
  obtain ⟨hport₀, hflash₀, hmem₀, hwords₀⟩ : c₀.dev.port = { s.dev.port with posted := rest } ∧ c₀.flash = s.flash ∧ c₀.mem = s.mem
      ∧ c₀.dev.words = s.dev.words := by
    rw [← hc₀]
    exact ⟨rfl, rfl, rfl, rfl⟩
  have hport : y.dev.port = { s.dev.port with posted := rest } := (congrArg Dev.port hdone.rest :).trans hport₀
  have hcount : y.dev.get F.hcpPostDoneCount = s.dev.get F.hcpPostDoneCount :=
    (hdone.others.get (by decide)).trans (Dev.get_congr hwords₀ _)
  obtain ⟨hpend, hended⟩ := y.dev.get_postedEnd hstatus
  have hport' := (y.dev.wordsOnly_postedEnd hstatus).port.trans hport
  rw [hport] at hpend
  rw [hcount] at hended
  obtain ⟨hstored, hother⟩ := hdone.stored rfl hdata
  generalize (y.dev.postedLast u).showPending = e at hexec hpend hended hport'
  refine ⟨_, hexec, hdone.flash.trans hflash₀, hport', hpend, hended, hstored, ?_⟩
  rw [← hmem₀]
  exact hother

/-- Settles O51, by the invariant over the beats of a burst of SRAM, in the port's own bookkeeping. -/
theorem hostPortTransactions : Obligations.HostPortTransactions := by
  refine fun s => ⟨fun f hlisten hp c hc => portFrame_discarded hlisten hp hc, fun f x c hlisten hp hcur hposted hc => ⟨?_, ?_⟩,
    fun x since hcur hwait hlen hpoison habove hbelow hburst => ⟨?_, ?_⟩,
    fun f x hlisten hp hcmd hlen hcheck => portFrame_posted hlisten hp hcmd hlen hcheck, ?_⟩
  · exact fun st cause hcheck => portFrame_refused hlisten hp hcur hposted hc hcheck
  · exact fun hcheck habove hbelow hecc hpoison => portFrame_issued hlisten hp hcur hposted hc hcheck habove hbelow hecc hpoison
  · exact fun hcmd => responseReady_read hcur hwait hlen hpoison habove hbelow hburst (.inl hcmd) hcmd
  · exact fun hcmd hdata => responseReady_write hcur hwait hlen hpoison habove hbelow hburst (.inr ⟨hcmd, hdata⟩) hcmd hdata
  · exact fun x rest hposted hcur hlen hdata habove hbelow => postedWriteEnd_inSram x rest s hposted hcur hlen hdata habove hbelow

end Sys2Proof.Machine

/-! The limits of the Host Control Port: the wait limit, and what `HSS_N` ends (R547 to R556). -/

namespace Sys2Proof.Machine

/-! A transaction that is broken off (R530, R531) -/

/-- The registers of the abort record. -/
def abortWords : List Nat :=
  [Reg.mtxAbortInfo, F.mtxAbortAddrLoAddr.off, F.mtxAbortAddrHiAddr.off, F.mtxAbortCountCount.off, F.mtxEvtAbort.off]

section
variable (d : Dev) (m : Nat)

theorem Dev.wordsOnly_abortRecord (b : Burst) : Dev.WordsOnly abortWords d (d.abortRecord m b) := by
  rw [Dev.abortRecord]
  refine Dev.WordsOnly.raise (Dev.WordsOnly.roll ?_ (by decide) 1) (by decide)
  split
  · exact (Dev.WordsOnly.refl _ d).raise (by decide)
  · unfold Dev.setAddr
    exact (((Dev.WordsOnly.refl _ d).setWord (by decide) _).put (by decide) _).put (by decide) _

/-- The device without its words, its bursts and its answers. -/
def Dev.callRest (d : Dev) : Dev := { d with words := [], bursts := [], replies := [], fec := [] }

omit m in
theorem Dev.answer_callRest (n a : Nat) (w : Bool) (r : Resp) (data : List Byte) (beats : Nat) :
    (d.answer n a w r data beats).callRest = d.callRest := by
  rw [d.answer_frame]
  rfl

/-- Breaking off a burst changes words, the bursts, and the answer. -/
theorem Dev.abortBurst_frame :
    (d.abortBurst m).callRest = d.callRest ∧ Dev.WordsBut abortWords d (d.abortBurst m) ∧ (d.abortBurst m).burst m = {} := by
  rw [Dev.abortBurst]
  split
  case isFalse h => exact ⟨rfl, Dev.WordsBut.refl _ d, Dev.burst_of_idle (Bool.not_eq_true _ ▸ h)⟩
  case isTrue =>
    have hrecord := (d.setBurst m {}).wordsOnly_abortRecord m (d.burst m)
    have hrest : ((d.setBurst m {}).abortRecord m (d.burst m)).callRest = d.callRest := hrecord.proj Dev.callRest fun _ _ => rfl
    have hbursts : ((d.setBurst m {}).abortRecord m (d.burst m)).bursts = (d.setBurst m {}).bursts := hrecord.proj Dev.bursts fun _ _ => rfl
    have hwords : Dev.WordsBut abortWords d ((d.setBurst m {}).abortRecord m (d.burst m)) := hrecord.2
    generalize (d.setBurst m {}).abortRecord m (d.burst m) = e at hrest hbursts hwords
    have hframe := e.answer_frame m (d.burst m).addr (d.burst m).write .aborted [] (d.burst m).beats
    have hcall := e.answer_callRest m (d.burst m).addr (d.burst m).write .aborted [] (d.burst m).beats
    rw [Dev.answer] at hframe hcall
    refine ⟨hcall.trans hrest, hwords.of_words (by rw [hframe]), ?_⟩
    exact (Dev.burst_congr (by rw [hframe, hbursts]) m).trans (Dev.burst_setBurst_same d m {})

end

/-! The port is reset -/

theorem Dev.portEnd_none {d : Dev} (h : d.port.ignoring = false) : d.portEnd none = d.portCut := by
  simp only [Dev.portEnd, h, Bool.false_eq_true, if_false]

theorem Dev.portCut_of_none {d : Dev} (h : d.port.cur = none) : d.portCut = d := by
  rw [Dev.portCut, h]

theorem Dev.portEnd_none_of_idle {d : Dev} (h : d.port.cur = none) : d.portEnd none = d := by
  rw [Dev.portEnd, Dev.portCut_of_none h]
  split <;> rfl

/-- The device whose port has lost the transaction it waited for. -/
def Dev.portDropped (d : Dev) : Dev := (d.abortBurst 0).setPort { (d.abortBurst 0).port with cur := none }

theorem Dev.portCut_of_some {d : Dev} {t : PortTxn} (h : d.port.cur = some t) (hwait : d.port.timedOut = false) :
    d.portCut = (d.portDropped.portLast { t with status := stAbort, cause := causePortReset, count := (d.burst 0).done }).portAborted := by
  rw [Dev.portCut, h]
  simp only [hwait, Bool.false_eq_true, if_false]
  rfl

theorem Dev.portDropped_port (d : Dev) : d.portDropped.port = { d.port with cur := none } := by
  have hport : (d.abortBurst 0).port = d.port := (congrArg Dev.port (d.abortBurst_frame 0).1 :)
  rw [Dev.portDropped, Dev.setPort_port, hport]

theorem Dev.portDropped_burst (d : Dev) : d.portDropped.burst 0 = {} := (d.abortBurst_frame 0).2.2

theorem Dev.portDropped_words (d : Dev) : Dev.WordsBut abortWords d d.portDropped := (d.abortBurst_frame 0).2.1

/-- The fields of `HCP.LAST` after a transaction that ended with `status` and `cause`. -/
theorem Dev.get_portLast (d : Dev) (t : PortTxn) :
    (d.portLast t).get F.hcpLastStatus = t.status % 2 ^ 4 ∧ (d.portLast t).get F.hcpLastCause = t.cause % 2 ^ 4 := by
  have haddr (f : Field) (hf : f.off = Reg.hcpLast) :
      (d.portLast t).get f = getF (putF (putF (putF (putF 0 0 8 t.cmd) 8 4 t.status) 12 4 t.cause) 16 13 t.count) f.lo f.len := by
    have hlo : F.hcpLastAddrLoAddr.off ≠ Reg.hcpLast := by decide
    have hhi : F.hcpLastAddrHiAddr.off ≠ Reg.hcpLast := by decide
    rw [Dev.portLast, Dev.setAddr, Dev.get_put_apart _ _ (.inl (hf.trans_ne hhi.symm)), Dev.get_put_apart _ _ (.inl (hf.trans_ne hlo.symm)),
      Dev.get, hf, Dev.word_setWord_same]
  constructor
  · rw [haddr _ rfl]
    change getF _ 8 4 = _
    rw [getF_putF_other _ _ _ _ _ _ (by decide) (by decide) (by decide), getF_putF_other _ _ _ _ _ _ (by decide) (by decide) (by decide),
      getF_putF_same _ _ _ _ (by decide)]
  · rw [haddr _ rfl]
    change getF _ 12 4 = _
    rw [getF_putF_other _ _ _ _ _ _ (by decide) (by decide) (by decide), getF_putF_same _ _ _ _ (by decide)]

/-- The events and counts of a transaction that a port reset ended. -/
def portCutWords : List Nat := F.hcpAbortsCount.off :: F.hcpEvtPortReset.off :: lastWords

theorem Dev.wordsOnly_portAborted (d : Dev) (t : PortTxn) : Dev.WordsOnly portCutWords d (d.portLast t).portAborted := by
  unfold Dev.portAborted
  exact (((d.wordsOnly_portLast t).mono (by decide)).roll (by decide) 1).raise (by decide)

/-- R555: what shows of a transaction in progress that a port reset ends. -/
theorem Dev.portCut_shown {d : Dev} {t : PortTxn} (h : d.port.cur = some t) (hwait : d.port.timedOut = false) :
    d.portCut.port = { d.port with cur := none } ∧ d.portCut.burst 0 = {}
      ∧ d.portCut.get F.hcpLastStatus = stAbort ∧ d.portCut.get F.hcpLastCause = causePortReset
      ∧ d.portCut.get F.hcpAbortsCount = (d.get F.hcpAbortsCount + 1) % 2 ^ 32 ∧ d.portCut.on F.hcpEvtPortReset = true := by
  have hport := d.portDropped_port
  have hburst := d.portDropped_burst
  have hcount := d.portDropped_words.get (f := F.hcpAbortsCount) (by decide)
  rw [Dev.portCut_of_some h hwait]
  generalize d.portDropped = e at hport hburst hcount
  generalize hu : ({ t with status := stAbort, cause := causePortReset, count := (d.burst 0).done } : PortTxn) = u
  have hstatus : u.status = stAbort := by rw [← hu]
  have hcause : u.cause = causePortReset := by rw [← hu]
  have hcut := e.wordsOnly_portAborted u
  obtain ⟨hst, hca⟩ := e.get_portLast u
  have hlast : (e.portLast u).get F.hcpAbortsCount = e.get F.hcpAbortsCount := (e.wordsOnly_portLast u).2.get (by decide)
  refine ⟨hcut.port.trans hport, ?_, ?_, ?_, ?_, Dev.on_raise _ _ (by decide) (by decide)⟩
  · exact (Dev.burst_congr (hcut.proj Dev.bursts fun _ _ => rfl) 0).trans hburst
  · rw [Dev.portAborted, Dev.raise, Dev.get_put_apart _ _ (.inl (by decide)), Dev.roll, Dev.get_put_apart _ _ (.inl (by decide)), hst, hstatus]
    rfl
  · rw [Dev.portAborted, Dev.raise, Dev.get_put_apart _ _ (.inl (by decide)), Dev.roll, Dev.get_put_apart _ _ (.inl (by decide)), hca, hcause]
    rfl
  · rw [Dev.portAborted, Dev.raise, Dev.get_put_apart _ _ (.inl (by decide)), Dev.get_roll_same _ (by decide), hlast, hcount]
    rfl

/-- R555: what a port reset without a header of its own leaves in the port. -/
theorem Dev.portEnd_none_port (d : Dev) :
    (d.portEnd none).port.posted = d.port.posted
      ∧ (d.port.timedOut = false → d.port.ignoring = false → (d.portEnd none).port.cur = none) := by
  cases hignore : d.port.ignoring with
  | true =>
    have hend : d.portEnd none = d := if_pos hignore
    exact ⟨by rw [hend], fun _ h => absurd h (by decide)⟩
  | false =>
    rw [Dev.portEnd_none hignore]
    cases hcur : d.port.cur with
    | none =>
      rw [Dev.portCut_of_none hcur]
      exact ⟨rfl, fun _ _ => hcur⟩
    | some t =>
      cases hwait : d.port.timedOut with
      | true =>
        have hcut : d.portCut = d := by
          rw [Dev.portCut, hcur]
          exact if_pos hwait
        exact ⟨by rw [hcut], fun h => absurd h (by decide)⟩
      | false =>
        have hport := (Dev.portCut_shown hcur hwait).1
        exact ⟨by rw [hport], fun _ _ => by rw [hport]⟩

/-- The port takes headers again, or ignores `HD`. -/
def Dev.portIgnores (d : Dev) (v : Bool) : Dev := d.setPort { d.port with ignoring := v }

theorem Dev.portAwake_of {d : Dev} (h : d.modes.inReset = .no) (hready : d.port.readyAt ≤ d.now) : d.portAwake = true := by
  rw [Dev.portAwake, h, decide_eq_true hready]
  rfl

section
variable {s : State} (hreset : s.dev.modes.inReset = .no) (hready : s.dev.port.readyAt ≤ s.dev.now)
include hreset hready

theorem exec_portReset : exec (.portReset none) s = .next { s with dev := (s.dev.portEnd none).portIgnores false } := by
  have hexec : exec (.portReset none) s
      = .next { s with dev := s.dev.when s.dev.portAwake (fun d => (d.portEnd none).portIgnores false) } := rfl
  rw [hexec, Dev.portAwake_of hreset hready]
  rfl

theorem exec_ssLong {ns : Nat} (hns : 1000000 ≤ ns) :
    exec (.ssLong ⟨ns, none⟩) s = .next { s with dev := ((s.dev.portEnd none).portIgnores true).raise F.hcpEvtSsLong } := by
  have hexec : exec (.ssLong ⟨ns, none⟩) s = .next { s with
      dev := s.dev.when (s.dev.portAwake && decide (1000000 ≤ ns)) (fun d => ((d.portEnd none).portIgnores true).raise F.hcpEvtSsLong) } := rfl
  rw [hexec, Dev.portAwake_of hreset hready, decide_eq_true hns]
  rfl

theorem portReset_idle (hcur : s.dev.port.cur = none) :
    ∃ t, exec (.portReset none) s = .next t ∧ t = { s with dev := { s.dev with port := { s.dev.port with ignoring := false } } } := by
  refine ⟨_, exec_portReset hreset hready, ?_⟩
  rw [Dev.portEnd_none_of_idle hcur]
  rfl

theorem portReset_cut {x : PortTxn} (hcur : s.dev.port.cur = some x) (hwait : s.dev.port.timedOut = false)
    (hignore : s.dev.port.ignoring = false) :
    ∃ t, exec (.portReset none) s = .next t ∧ t.dev.port = { s.dev.port with cur := none } ∧ t.dev.burst 0 = {}
      ∧ t.dev.get F.hcpLastStatus = stAbort ∧ t.dev.get F.hcpLastCause = causePortReset
      ∧ t.dev.get F.hcpAbortsCount = (s.dev.get F.hcpAbortsCount + 1) % 2 ^ 32 ∧ t.dev.on F.hcpEvtPortReset = true
      ∧ KeepsMemories s t := by
  obtain ⟨hport, hburst, hstatus, hcause, hcount, hevt⟩ := Dev.portCut_shown hcur hwait
  have hexec := exec_portReset hreset hready
  rw [Dev.portEnd_none hignore] at hexec
  generalize s.dev.portCut = e at hexec hport hburst hstatus hcause hcount hevt
  refine ⟨_, hexec, ?_, hburst, hstatus, hcause, hcount, hevt, rfl, rfl⟩
  dsimp only
  rw [Dev.portIgnores, Dev.setPort_port, hport, ← hignore]

theorem ssLong_ends {ns : Nat} (hns : 1000000 ≤ ns) :
    ∃ t, exec (.ssLong ⟨ns, none⟩) s = .next t ∧ t.dev.port.ignoring = true ∧ t.dev.on F.hcpEvtSsLong = true
      ∧ t.dev.port.posted = s.dev.port.posted
      ∧ (s.dev.port.timedOut = false → s.dev.port.ignoring = false → t.dev.port.cur = none) ∧ KeepsMemories s t := by
  obtain ⟨hposted, hcut⟩ := s.dev.portEnd_none_port
  have hexec := exec_ssLong hreset hready hns
  generalize s.dev.portEnd none = e at hexec hposted hcut
  have hp : ((e.portIgnores true).raise F.hcpEvtSsLong).port = { e.port with ignoring := true } := Dev.raise_port _ _
  have hon : ((e.portIgnores true).raise F.hcpEvtSsLong).on F.hcpEvtSsLong = true := Dev.on_raise _ _ (by decide) (by decide)
  generalize (e.portIgnores true).raise F.hcpEvtSsLong = x at hexec hp hon
  exact ⟨_, hexec, by rw [hp], hon, by rw [hp]; exact hposted, fun hw hi => by rw [hp]; exact hcut hw hi, rfl, rfl⟩

end

/-! The wait limit -/

theorem exec_timeout_some {s : State} {x : PortTxn} (hcur : s.dev.port.cur = some x) (limit : Nat) :
    exec (.timeout limit) s = .next { s with
      dev := s.dev.when (!s.dev.port.timedOut && (decide (1800 ≤ limit) && decide (limit ≤ 2000)
          && decide (100000 * s.dev.port.curAt + limit * 62208 ≤ 100000 * s.dev.now)))
        (fun d => d.setPort { d.port with timedOut := true, sent := response x stTimeout causeWait 0 [] }) } := by
  rw [show exec (.timeout limit) s = execTimeout limit s from rfl, execTimeout, hcur]

/-- Settles O52: the wait limit leaves the transaction as it is, and a port reset breaks it off. -/
theorem hostPortLimits : Obligations.HostPortLimits := by
  refine fun s => ⟨fun x limit hcur hwait hlow hhigh hpassed => ?_, fun hreset hready =>
    ⟨fun hcur => portReset_idle hreset hready hcur, fun x hcur hwait hignore => portReset_cut hreset hready hcur hwait hignore,
      fun ns hns => ssLong_ends hreset hready hns⟩⟩
  have hdue : 100000 * s.dev.port.curAt + limit * 62208 ≤ 100000 * s.dev.now := by omega
  have hexec := exec_timeout_some hcur limit
  rw [hwait, decide_eq_true hlow, decide_eq_true hhigh, decide_eq_true hdue] at hexec
  exact ⟨_, hexec, rfl⟩

end Sys2Proof.Machine

/-! A lost reference (R81 to R87): the statement speaks of every state, and one that no command reaches refutes it. -/

namespace Sys2Proof.Machine

/-- Whether a command leads on to a state of which `p` holds. -/
def Out.shows (o : Out) (p : State → Bool) : Bool :=
  match o with
  | .next t => p t
  | .fault _ => false
  | .refused _ => false

theorem Out.shows_next {o : Out} {t : State} (h : o = .next t) (p : State → Bool) : Out.shows o p = p t := by
  rw [h]
  rfl

/-- A path point whose number lies far beyond the points of the device: its status word would stand where `CLK.STATUS` is. -/
def strayPoint : Nat := 18432 + (Reg.clkStatus - 0x1C80_0000) / 4

/-- A state that holds such a point, and in which the unit of the point's lane is still to be reset. -/
def strayPointState : State := { dev := { paths := [(strayPoint, {})], modes := { offDue := [laneOf strayPoint + 0x10] } } }

/-- Refutes O9: `Dev.unitsDown` follows the loss of a reference and makes every path point of a unit that has left service idle. A
state may list a point of any number, also one whose status word lies on `CLK.STATUS`; there the idle state of the point shows as `A_OK`,
though the input is dead. -/
theorem not_referenceLost : ¬ Obligations.ReferenceLost := by
  intro h
  obtain ⟨t, hexec, -, -, -, -, -, -, -, hok, -⟩ :=
    h .a strayPointState (.deadClockDeclaration .a 64) (.inl ⟨64, Nat.le_refl _, rfl⟩)
  have hshown := Out.shows_next hexec (fun u => u.dev.on F.clkStatusAOk)
  rw [show t.dev.on F.clkStatusAOk = false from hok] at hshown
  exact absurd hshown (by decide +kernel)

end Sys2Proof.Machine

/-! A reference that qualifies, and the changes between references (R72, R82, R83). -/

namespace Sys2Proof.Machine

/-- The bit of `CLK.STATUS` that shows an input as qualified. -/
def okField : Ref → Field
  | .a => F.clkStatusAOk
  | .b => F.clkStatusBOk

/-- The timing with another time since which `r` has been qualified. -/
def Timing.withOk (t : Timing) (r : Ref) (v : Option Nat) : Timing :=
  match r with
  | .a => { t with okA := v }
  | .b => { t with okB := v }

theorem Dev.setOk_eq (d : Dev) (r : Ref) (v : Option Nat) :
    d.setOk r v = (d.setTiming (d.timing.withOk r v)).put (okField r) (bitOf v.isSome) := by
  cases r <;> rfl

section
variable (t : Timing) (r : Ref) (v : Option Nat)

theorem Timing.ok_withOk : (t.withOk r v).ok r = v := by cases r <;> rfl
theorem Timing.loop_withOk : (t.withOk r v).loop = t.loop := by cases r <;> rfl
theorem Timing.allows_withOk (x : Ref) : (t.withOk r v).allows x = t.allows x := by cases r <;> cases x <;> rfl
theorem okField_off : (okField r).off = Reg.clkStatus := by cases r <;> rfl

end

/-- A loop that is locked to an input that it may use stays there. -/
theorem Dev.reselect_of_locked {d : Dev} {r : Ref} (hloop : d.timing.loop = .locked r) (hallow : d.timing.allows r = true) :
    d.reselect = d := by
  rw [Dev.reselect, hloop]
  exact if_neg fun h => absurd h.1 (by rw [hallow]; decide)

section
variable {r : Ref} {s : State}

theorem exec_referenceQualified {ns : Nat} {ppm : Int} (hns : 10000000 ≤ ns) (hcold : s.dev.modes.inReset ≠ .cold)
    (hnone : s.dev.timing.ok r = none) (hloop : s.dev.timing.loop = .locked (otherRef r)) (hlow : -50 ≤ ppm) (hhigh : ppm ≤ 50) :
    exec (.referenceQualified r ns ppm) s = .next { s with dev := (s.dev.setOk r (some s.dev.now)).reselect } := by
  have hreset : (s.dev.modes.inReset != .cold) = true := bne_iff_ne.mpr hcold
  have hppm : (otherRef r == r || decide (-50 ≤ ppm ∧ ppm ≤ 50)) = true := by
    rw [decide_eq_true (show -50 ≤ ppm ∧ ppm ≤ 50 from ⟨hlow, hhigh⟩), Bool.or_true]
  rw [show exec (.referenceQualified r ns ppm) s = execReferenceQualified r ns ppm s from rfl, execReferenceQualified, hloop]
  simp only [decide_eq_true hns, hppm, hnone, hreset, Option.isNone_none, Bool.and_self, Dev.when, if_true]

theorem referenceQualified_near {ns : Nat} {ppm : Int} (hns : 10000000 ≤ ns) (hcold : s.dev.modes.inReset ≠ .cold)
    (hnone : s.dev.timing.ok r = none) (hloop : s.dev.timing.loop = .locked (otherRef r)) (hlow : -50 ≤ ppm) (hhigh : ppm ≤ 50)
    (hallow : s.dev.timing.allows (otherRef r) = true) :
    ∃ t, exec (.referenceQualified r ns ppm) s = .next t ∧ t.dev.timing.ok r = some s.dev.now ∧ t.dev.on (okField r) = true
      ∧ t.dev.timing.loop = s.dev.timing.loop ∧ Dev.WordsBut [Reg.clkStatus] s.dev t.dev
      ∧ t = { s with dev := { s.dev with words := t.dev.words, timing := t.dev.timing } } := by
  have hexec := exec_referenceQualified hns hcold hnone hloop hlow hhigh
  have hset := s.dev.setOk_eq r (some s.dev.now)
  have hwords : Dev.WordsOnly [Reg.clkStatus] (s.dev.setTiming (s.dev.timing.withOk r (some s.dev.now))) (s.dev.setOk r (some s.dev.now)) := by
    rw [hset]
    exact (Dev.WordsOnly.refl _ _).put (by rw [okField_off]; exact List.mem_cons_self) _
  have htiming := hwords.timing
  have hsame : (s.dev.setOk r (some s.dev.now)).reselect = s.dev.setOk r (some s.dev.now) :=
    Dev.reselect_of_locked (r := otherRef r) (by rw [htiming, Timing.loop_withOk, hloop]) (by rw [htiming, Timing.allows_withOk, hallow])
  have hon : (s.dev.setOk r (some s.dev.now)).on (okField r) = true := by
    rw [hset]
    exact Dev.on_raise _ _ (by cases r <;> decide) (by cases r <;> decide)
  rw [hsame] at hexec
  generalize s.dev.setOk r (some s.dev.now) = e at hexec hwords htiming hon
  refine ⟨_, hexec, ?_, hon, ?_, hwords.2, hwords.wordsAndTiming⟩
  · dsimp only
    rw [htiming, Timing.ok_withOk]
  · dsimp only
    rw [htiming, Timing.loop_withOk]

/-! The loop locks -/

/-- The place of an input in `CLK.STATUS.ACTIVE_REF`. -/
def refNumber : Ref → Nat
  | .a => 0
  | .b => 1

theorem Dev.lockTo_eq (d : Dev) (r : Ref) :
    d.lockTo r = (((d.setTiming { d.timing with loop := .locked r }).raise F.clkStatusLock).lower F.clkStatusHold).put F.clkStatusActiveRef
      (refNumber r) := by
  cases r <;> rfl

theorem Dev.wordsOnly_lockTo (d : Dev) (r : Ref) :
    Dev.WordsOnly [Reg.clkStatus] (d.setTiming { d.timing with loop := .locked r }) (d.lockTo r) := by
  rw [Dev.lockTo_eq]
  exact (((Dev.WordsOnly.refl _ _).raise (by decide)).lower (by decide)).put (by decide) _

/-- What `CLK.STATUS` shows of a loop that has locked to `r`. -/
theorem Dev.lockTo_shown (d : Dev) (r : Ref) :
    (d.lockTo r).on F.clkStatusLock = true ∧ (d.lockTo r).on F.clkStatusHold = false ∧ (d.lockTo r).get F.clkStatusActiveRef = refNumber r
      ∧ (d.lockTo r).get F.clkStatusSwitches = d.get F.clkStatusSwitches := by
  have hsame (x : Dev) (y : Timing) (f : Field) : (x.setTiming y).get f = x.get f := rfl
  rw [Dev.lockTo_eq]
  refine ⟨?_, ?_, ?_, ?_⟩
  · rw [Dev.on, Dev.get_put_apart _ _ (.inr (by decide)), Dev.lower, Dev.get_put_apart _ _ (.inr (by decide))]
    exact Dev.on_raise _ F.clkStatusLock (by decide) (by decide)
  · rw [Dev.on, Dev.get_put_apart _ _ (.inr (by decide))]
    exact Dev.on_lower _ F.clkStatusHold (by decide)
  · rw [Dev.get_put_same _ _ _ (by decide)]
    cases r <;> rfl
  · rw [Dev.get_put_apart _ _ (.inr (by decide)), Dev.lower, Dev.get_put_apart _ _ (.inr (by decide)), Dev.raise,
      Dev.get_put_apart _ _ (.inr (by decide)), hsame]

theorem Dev.get_bump_same (d : Dev) {f : Field} (h : f.lo + f.len ≤ 32) (n : Nat) :
    (d.bump f n).get f = Nat.min (d.get f + n) (2 ^ f.len - 1) := by
  have hpos := Nat.two_pow_pos f.len
  have hmin : satAdd f.len (d.get f) n = Nat.min (d.get f + n) (2 ^ f.len - 1) := by
    change _ = min _ _
    rw [satAdd]
    split <;> omega
  rw [Dev.bump, Dev.get_put_same _ _ _ h, hmin]
  exact Nat.mod_eq_of_lt (Nat.lt_of_le_of_lt (Nat.min_le_right _ _) (Nat.sub_lt hpos Nat.one_pos))

/-- R82: the switch is counted and is an event. -/
def Dev.switchTo (d : Dev) (r : Ref) : Dev := ((d.lockTo r).bump F.clkStatusSwitches 1).raise (clkEvent 0)

theorem Dev.get_switchTo_low (d : Dev) (r : Ref) {f : Field} (hoff : f.off = Reg.clkStatus) (hlow : f.lo + f.len ≤ 16) :
    (d.switchTo r).get f = (d.lockTo r).get f := by
  have hevt : f.off ≠ (clkEvent 0).off := by rw [hoff]; decide
  have hlen : f.lo + f.len ≤ 32 := by omega
  rw [Dev.switchTo, Dev.raise, Dev.get_put_apart _ _ (.inl hevt), Dev.bump, Dev.get_put_apart _ _ (.inr ⟨by decide, hlen, .inl hlow⟩)]

theorem Dev.get_switchTo_switches (d : Dev) (r : Ref) :
    (d.switchTo r).get F.clkStatusSwitches = Nat.min (d.get F.clkStatusSwitches + 1) 65535 := by
  rw [Dev.switchTo, Dev.raise, Dev.get_put_apart _ _ (.inl (by decide)), Dev.get_bump_same _ (by decide), (d.lockTo_shown r).2.2.2]
  rfl

theorem transitionHoldComplete_locks (hloop : s.dev.timing.loop = .hold r) (hallow : s.dev.timing.allows r = true) :
    ∃ t, exec .transitionHoldComplete s = .next t ∧ t.dev.timing = { s.dev.timing with loop := .locked r }
      ∧ t.dev.on F.clkStatusLock = true ∧ t.dev.on F.clkStatusHold = false ∧ t.dev.get F.clkStatusActiveRef = refNumber r
      ∧ t.dev.get F.clkStatusSwitches = Nat.min (s.dev.get F.clkStatusSwitches + 1) 65535 ∧ t.dev.on (clkEvent 0) = true
      ∧ Dev.WordsBut [Reg.clkStatus, pageAddr 1 Reg.hdrSticky] s.dev t.dev
      ∧ t = { s with dev := { s.dev with words := t.dev.words, timing := t.dev.timing } } := by
  have hexec : exec .transitionHoldComplete s = .next { s with dev := (s.dev.switchTo r).reselect } := by
    rw [show exec .transitionHoldComplete s = execTransitionHoldComplete s from rfl, execTransitionHoldComplete, hloop]
    rfl
  obtain ⟨hlock, hhold, href, hswitch⟩ := s.dev.lockTo_shown r
  have hwords : Dev.WordsOnly [Reg.clkStatus, pageAddr 1 Reg.hdrSticky] (s.dev.setTiming { s.dev.timing with loop := .locked r })
      (s.dev.switchTo r) := by
    unfold Dev.switchTo Dev.bump
    exact (((s.dev.wordsOnly_lockTo r).mono (by decide)).put (by decide) _).raise (by decide)
  have htiming := hwords.timing
  have hsame : (s.dev.switchTo r).reselect = s.dev.switchTo r := Dev.reselect_of_locked (r := r) (by rw [htiming]) (by rw [htiming]; exact hallow)
  have hlow {f : Field} (hoff : f.off = Reg.clkStatus) (hf : f.lo + f.len ≤ 16) := s.dev.get_switchTo_low r hoff hf
  have hlock' : (s.dev.switchTo r).on F.clkStatusLock = true := by rw [Dev.on, hlow rfl (by decide)]; exact hlock
  have hhold' : (s.dev.switchTo r).on F.clkStatusHold = false := by rw [Dev.on, hlow rfl (by decide)]; exact hhold
  have href' := (hlow (f := F.clkStatusActiveRef) rfl (by decide)).trans href
  have hcount := s.dev.get_switchTo_switches r
  have hevt : (s.dev.switchTo r).on (clkEvent 0) = true := Dev.on_raise _ _ (by decide) (by decide)
  rw [hsame] at hexec
  generalize s.dev.switchTo r = e at hexec hwords htiming hlock' hhold' href' hcount hevt
  exact ⟨_, hexec, htiming, hlock', hhold', href', hcount, hevt, hwords.2, hwords.wordsAndTiming⟩

/-! AUTO_A -/

theorem Dev.wordsOnly_holdTo (d : Dev) (r : Ref) :
    Dev.WordsOnly [Reg.clkStatus] (d.setTiming { d.timing with loop := .hold r }) (d.holdTo r) := by
  unfold Dev.holdTo
  exact ((Dev.WordsOnly.refl _ _).lower (by decide)).raise (by decide)

theorem Dev.holdTo_shown (d : Dev) (r : Ref) : (d.holdTo r).on F.clkStatusLock = false ∧ (d.holdTo r).on F.clkStatusHold = true := by
  unfold Dev.holdTo
  refine ⟨?_, Dev.on_raise _ _ (by decide) (by decide)⟩
  rw [Dev.on, Dev.raise, Dev.get_put_apart _ _ (.inr (by decide))]
  exact Dev.on_lower _ F.clkStatusLock (by decide)

theorem revertToA_holds {since : Nat} (hloop : s.dev.timing.loop = .locked .b) (hmode : s.dev.timing.mode = 2)
    (hok : s.dev.timing.okA = some since) (hdue : since + s.dev.timing.revert * 622080000 ≤ s.dev.now) :
    ∃ t, exec .revertToA s = .next t ∧ t.dev.timing = { s.dev.timing with loop := .hold .a }
      ∧ t.dev.on F.clkStatusLock = false ∧ t.dev.on F.clkStatusHold = true ∧ Dev.WordsBut [Reg.clkStatus] s.dev t.dev
      ∧ t = { s with dev := { s.dev with words := t.dev.words, timing := t.dev.timing } } := by
  have hexec : exec .revertToA s = .next { s with dev := s.dev.holdTo .a } := by
    have hsince : decide (since + s.dev.timing.revert * ticksPerSecond ≤ s.dev.now) = true := decide_eq_true hdue
    rw [show exec .revertToA s = execRevertToA s from rfl, execRevertToA, hok, hloop, hmode]
    simp only [hsince]
    rfl
  have hwords := s.dev.wordsOnly_holdTo .a
  obtain ⟨hlock, hhold⟩ := s.dev.holdTo_shown .a
  have htiming := hwords.timing
  generalize s.dev.holdTo .a = e at hexec hwords hlock hhold htiming
  exact ⟨_, hexec, htiming, hlock, hhold, hwords.2, hwords.wordsAndTiming⟩

end

/-- Settles O10: each change writes `CLK.STATUS` and the timing, and a loop that is locked to an allowed input selects nothing else. -/
theorem referenceChange : Obligations.ReferenceChange := by
  refine fun r s => ⟨fun ns ppm hns hcold hnone hloop hlow hhigh hallow => ?_, fun hloop hallow => ?_,
    fun since hloop hmode hok hdue => revertToA_holds hloop hmode hok hdue⟩
  · have h := referenceQualified_near hns hcold hnone hloop hlow hhigh hallow
    cases r <;> exact h
  · have h := transitionHoldComplete_locks hloop hallow
    cases r <;> exact h

end Sys2Proof.Machine

/-! Updates of one lane and of words. -/

namespace Sys2Proof.Machine

set_option Elab.async false -- a proof at a time, within the memory of a check

/-- What a step keeps, it keeps also where it is not taken. -/
theorem Dev.when_keeps {P : Dev → Prop} {d : Dev} {c : Bool} {g : Dev → Dev} (h : P d) (hg : ∀ e, P e → P (g e)) : P (d.when c g) :=
  Dev.when_of c h (hg d h)

/-- `e` is `d` but for lane `n` and for words at the addresses of `l`. -/
def Dev.LaneOnly (n : Nat) (l : List Nat) (d e : Dev) : Prop :=
  e = { d with words := e.words, lanes := e.lanes } ∧ Dev.WordsBut l d e ∧ ∀ q, q ≠ n → e.lane q = d.lane q

namespace Dev.LaneOnly

variable {n : Nat} {l : List Nat} {d e : Dev}

theorem refl (n : Nat) (l : List Nat) (d : Dev) : d.LaneOnly n l d := ⟨rfl, Dev.WordsBut.refl l d, fun _ _ => rfl⟩

theorem trans {x : Dev} (h : d.LaneOnly n l e) (h' : e.LaneOnly n l x) : d.LaneOnly n l x := by
  refine ⟨?_, h.2.1.trans h'.2.1, fun q hq => (h'.2.2 q hq).trans (h.2.2 q hq)⟩
  have hx := h'.1
  rw [h.1] at hx
  exact hx

theorem of_wordsOnly (h : Dev.WordsOnly l d e) : d.LaneOnly n l e := by
  obtain ⟨hframe, hwords⟩ := h
  refine ⟨?_, hwords, fun q _ => by rw [Dev.lane, hframe, Dev.lane]⟩
  rw [hframe]

theorem setWord (h : d.LaneOnly n l e) {a : Nat} (ha : a ∈ l) (w : W32) : d.LaneOnly n l (e.setWord a w) :=
  h.trans (of_wordsOnly ((Dev.WordsOnly.refl l e).setWord ha w))

theorem put (h : d.LaneOnly n l e) {f : Field} (hf : f.off ∈ l) (v : Nat) : d.LaneOnly n l (e.put f v) := h.setWord hf _

theorem raise (h : d.LaneOnly n l e) {f : Field} (hf : f.off ∈ l) : d.LaneOnly n l (e.raise f) := h.put hf 1

theorem lower (h : d.LaneOnly n l e) {f : Field} (hf : f.off ∈ l) : d.LaneOnly n l (e.lower f) := h.put hf 0

theorem roll (h : d.LaneOnly n l e) {f : Field} (hf : f.off ∈ l) (k : Nat) : d.LaneOnly n l (e.roll f k) := h.put hf _

theorem bump (h : d.LaneOnly n l e) {f : Field} (hf : f.off ∈ l) (k : Nat) : d.LaneOnly n l (e.bump f k) := h.put hf _

/-- Other lanes are a change of no other part. -/
theorem with_lanes_eq (d : Dev) (v : Store LaneSt) : ({ d with lanes := v } : Dev) =
    { d with words := ({ d with lanes := v } : Dev).words, lanes := ({ d with lanes := v } : Dev).lanes } := rfl

theorem setLane (h : d.LaneOnly n l e) (x : LaneSt) : d.LaneOnly n l (e.setLane n x) :=
  h.trans ⟨with_lanes_eq e _, (Dev.WordsBut.refl l e).of_words (Dev.setLane_words ..), fun q hq => by rw [Dev.lane_setLane, if_neg hq]⟩

theorem setTu (h : d.LaneOnly n l e) (x : TuRx) : d.LaneOnly n l (e.setTu n x) := h.setLane _

theorem setSoh (h : d.LaneOnly n l e) (x : Soh) : d.LaneOnly n l (e.setSoh n x) := h.setLane _

theorem when (h : d.LaneOnly n l e) (c : Bool) {g : Dev → Dev} (hg : d.LaneOnly n l (g e)) : d.LaneOnly n l (e.when c g) :=
  Dev.when_of c h hg

theorem mono {k : List Nat} (h : d.LaneOnly n l e) (hl : l ⊆ k) : d.LaneOnly n k e := ⟨h.1, h.2.1.mono hl, h.2.2⟩

/-- As a statement says it of the state. -/
theorem state {s : State} (h : s.dev.LaneOnly n l e) :
    ({ s with dev := e } : State) = { s with dev := { s.dev with words := e.words, lanes := e.lanes } } :=
  congrArg (fun x => ({ s with dev := x } : State)) h.1

theorem replyTo (h : d.LaneOnly n l e) (m : Nat) : e.replyTo m = d.replyTo m := by rw [Dev.replyTo, h.1, Dev.replyTo]

end Dev.LaneOnly

/-- The lane and the words that a write changes. -/
theorem accessed_write {s : State} {m a n : Nat} {op : Dev → Dev × Resp} {e : Dev} {r : Resp} {l : List Nat}
    (h : s.mayWrite m a) (hop : op s.dev = (e, r)) (he : s.dev.LaneOnly n l e) :
    ((s.dev.write m a op).replyTo m).resp = r ∧ Dev.WordsBut l s.dev (s.dev.write m a op)
      ∧ ∀ q, q ≠ n → (s.dev.write m a op).lane q = s.dev.lane q := by
  obtain ⟨-, hreply⟩ := Dev.write_ok (op := op) h
  have hword := Dev.write_ok_word (op := op) h
  have hlane := Dev.write_ok_lane (op := op) h
  rw [hop] at hreply hword hlane
  exact ⟨hreply.1, fun b hb => (hword b).trans (he.2.1 b hb), fun q hq => (hlane q).trans (he.2.2 q hq)⟩

/-! Fields of words that masks build -/

theorem getF_and (w k : W32) (lo len : Nat) : getF (w &&& k) lo len = getF w lo len &&& getF k lo len := by
  apply Nat.eq_of_testBit_eq
  intro i
  rw [Nat.testBit_and, getF_testBit, getF_testBit, getF_testBit, BitVec.toNat_and, Nat.testBit_and]
  cases decide (i < len) <;> rfl

theorem getF_or (w k : W32) (lo len : Nat) : getF (w ||| k) lo len = getF w lo len ||| getF k lo len := by
  apply Nat.eq_of_testBit_eq
  intro i
  rw [Nat.testBit_or, getF_testBit, getF_testBit, getF_testBit, BitVec.toNat_or, Nat.testBit_or]
  cases decide (i < len) <;> rfl

/-- A field that one mask takes in whole and the other leaves out. -/
theorem getF_mask_or (v w j k : W32) {lo len : Nat} (hj : getF j lo len = 0) (hk : getF k lo len = 2 ^ len - 1) :
    getF ((v &&& j) ||| (w &&& k)) lo len = getF w lo len := by
  rw [getF_or, getF_and, hj, Nat.and_zero, Nat.zero_or, getF_and_of_full _ _ _ _ hk]

end Sys2Proof.Machine

/-! The PRBS checker and generator (R65 to R67). -/

namespace Sys2Proof.Machine

set_option Elab.async false -- a proof at a time, within the memory of a check

/-! The checker -/

/-- R66: the registers that count errored bits. -/
def prbsErrorWords (n : Nat) : List Nat := [laneAddr n Reg.lanePrbs, laneAddr n Reg.lanePrbsErrLo, laneAddr n Reg.lanePrbsErrHi]

theorem Dev.get_of_off {d : Dev} {f : Field} (h : d.on f = false) : d.get f = 0 := by simpa [Dev.on] using h

theorem Dev.get_setLane (d : Dev) (n : Nat) (x : LaneSt) (f : Field) : (d.setLane n x).get f = d.get f :=
  Dev.get_congr (Dev.setLane_words ..) f

section
variable {lane : Lane} {bits : List Bool} {s : State}

/-- R66: the checker comes into sync with `bits`. -/
def Dev.prbsSynced (d : Dev) (n : Nat) (bits : List Bool) : Dev :=
  (d.raise (F.lanePrbsChkSync.lane n)).setLane n
    { d.lane n with chk := (d.prbsPlain n bits).reverse.take (prbsTaps (d.get (F.lanePrbsChkPat.lane n))).1 }

theorem exec_prbsSync (hhear : s.dev.hearsBits lane bits = true) (hen : s.dev.on (F.lanePrbsChkEn.lane lane) = true)
    (hsync : s.dev.on (F.lanePrbsChkSync.lane lane) = false)
    (hbits : prbsInSync (s.dev.get (F.lanePrbsChkPat.lane lane)) (s.dev.prbsPlain lane bits) = true) :
    exec (.prbsSync lane bits) s = .next { s with dev := s.dev.prbsSynced lane bits } := by
  rw [show exec (.prbsSync lane bits) s = execPrbsSync lane bits s from rfl, execPrbsSync]
  simp only [hhear, hen, hsync, hbits, Bool.not_false, Bool.and_self, Dev.when, if_true]
  rfl

theorem prbsSync_shown (hhear : s.dev.hearsBits lane bits = true) (hen : s.dev.on (F.lanePrbsChkEn.lane lane) = true)
    (hsync : s.dev.on (F.lanePrbsChkSync.lane lane) = false)
    (hbits : prbsInSync (s.dev.get (F.lanePrbsChkPat.lane lane)) (s.dev.prbsPlain lane bits) = true) :
    ∃ t, exec (.prbsSync lane bits) s = .next t ∧ t.dev.on (F.lanePrbsChkSync.lane lane) = true
      ∧ (t.dev.lane lane).chk = (s.dev.prbsPlain lane bits).reverse.take (prbsTaps (s.dev.get (F.lanePrbsChkPat.lane lane))).1
      ∧ (∀ n, n ≠ lane.val → t.dev.lane n = s.dev.lane n) ∧ Dev.WordsBut [laneAddr lane Reg.lanePrbs] s.dev t.dev
      ∧ t = { s with dev := { s.dev with words := t.dev.words, lanes := t.dev.lanes } } := by
  have hframe : s.dev.LaneOnly lane [laneAddr lane Reg.lanePrbs] (s.dev.prbsSynced lane bits) :=
    ((Dev.LaneOnly.refl _ _ _).raise List.mem_cons_self).setLane _
  have hexec := exec_prbsSync hhear hen hsync hbits
  have hon : (s.dev.prbsSynced lane bits).on (F.lanePrbsChkSync.lane lane) = true :=
    (congrArg (· != 0) (Dev.get_setLane ..)).trans (Dev.on_lane_raise s.dev lane (by decide) (by decide))
  have hlane : ((s.dev.prbsSynced lane bits).lane lane).chk = _ := congrArg LaneSt.chk (Dev.lane_setLane_same _ _ _)
  generalize s.dev.prbsSynced lane bits = e at hexec hframe hon hlane
  exact ⟨_, hexec, hon, hlane, hframe.2.2, hframe.2.1, hframe.state⟩

/-- R66: the window of `bits` is counted. -/
def Dev.prbsCounted (d : Dev) (n : Nat) (bits : List Bool) : Dev :=
  let r := d.prbsWindow n bits
  let c := satAdd 48 (d.prbsErrors n) r.1
  (((d.setLane n { d.lane n with chk := r.2 }).put (F.lanePrbsErrLoErr.lane n) c).put (F.lanePrbsErrHiErr.lane n)
    (c / 0x1_0000_0000)).when (decide (16 ≤ r.1)) (fun e => e.lower (F.lanePrbsChkSync.lane n))

theorem exec_prbsLossOfSync (hhear : s.dev.hearsBits lane bits = true) (hlen : bits.length = 256)
    (hsync : s.dev.on (F.lanePrbsChkSync.lane lane) = true) :
    exec (.prbsLossOfSync lane bits) s = .next { s with dev := s.dev.prbsCounted lane bits } := by
  rw [show exec (.prbsLossOfSync lane bits) s = execPrbsLossOfSync lane bits s from rfl, execPrbsLossOfSync]
  simp only [hhear, hlen, hsync, decide_true, Bool.and_self, Dev.when, if_true]
  rfl

theorem Dev.laneOnly_prbsCounted (d : Dev) (n : Nat) (bits : List Bool) : d.LaneOnly n (prbsErrorWords n) (d.prbsCounted n bits) := by
  have hput : d.LaneOnly n (prbsErrorWords n) (((d.setLane n { d.lane n with chk := (d.prbsWindow n bits).2 }).put
      (F.lanePrbsErrLoErr.lane n) (satAdd 48 (d.prbsErrors n) (d.prbsWindow n bits).1)).put (F.lanePrbsErrHiErr.lane n)
      (satAdd 48 (d.prbsErrors n) (d.prbsWindow n bits).1 / 0x1_0000_0000)) :=
    (((Dev.LaneOnly.refl _ _ _).setLane _).put (f := F.lanePrbsErrLoErr.lane n) (by simp [prbsErrorWords, F.lanePrbsErrLoErr]) _).put
      (f := F.lanePrbsErrHiErr.lane n) (by simp [prbsErrorWords, F.lanePrbsErrHiErr]) _
  rw [Dev.prbsCounted]
  exact Dev.when_of _ hput (hput.lower (f := F.lanePrbsChkSync.lane n) (by simp [prbsErrorWords, F.lanePrbsChkSync]))

theorem satAdd_eq_min (len a b : Nat) : satAdd len a b = Nat.min (a + b) (2 ^ len - 1) := by
  change _ = min _ _
  rw [satAdd]
  split <;> omega

/-- The halves of a 48-bit count that the two registers hold. -/
theorem Dev.prbsErrors_put (d : Dev) (n : Nat) {c : Nat} (hc : c < 2 ^ 48) :
    ((d.put (F.lanePrbsErrLoErr.lane n) c).put (F.lanePrbsErrHiErr.lane n) (c / 0x1_0000_0000)).prbsErrors n = c := by
  rw [Dev.prbsErrors, Dev.get_lane_put_apart _ _ _ (.inl (by decide)), Dev.get_lane_put_same _ _ _ (by decide),
    Dev.get_lane_put_same _ _ _ (by decide)]
  change c % 2 ^ 32 + c / 0x1_0000_0000 % 2 ^ 16 * 0x1_0000_0000 = c
  omega

theorem Dev.prbsErrors_lower (d : Dev) (n : Nat) : (d.lower (F.lanePrbsChkSync.lane n)).prbsErrors n = d.prbsErrors n := by
  rw [Dev.prbsErrors, Dev.lower, Dev.get_lane_put_apart _ _ _ (.inl (by decide)), Dev.get_lane_put_apart _ _ _ (.inl (by decide))]
  rfl

theorem Dev.prbsErrors_prbsCounted (d : Dev) (n : Nat) (bits : List Bool) :
    (d.prbsCounted n bits).prbsErrors n = Nat.min (d.prbsErrors n + (d.prbsWindow n bits).1) (2 ^ 48 - 1) := by
  rw [← satAdd_eq_min]
  have hc : satAdd 48 (d.prbsErrors n) (d.prbsWindow n bits).1 < 2 ^ 48 := by
    rw [satAdd_eq_min]
    exact Nat.lt_of_le_of_lt (Nat.min_le_right _ _) (by decide)
  exact Dev.when_of (P := fun e => e.prbsErrors n = _) _ (Dev.prbsErrors_put _ n hc)
    ((Dev.prbsErrors_lower _ n).trans (Dev.prbsErrors_put _ n hc))

theorem Dev.on_prbsCounted (d : Dev) (n : Nat) (bits : List Bool) (h : d.on (F.lanePrbsChkSync.lane n) = true) :
    (d.prbsCounted n bits).on (F.lanePrbsChkSync.lane n) = decide ((d.prbsWindow n bits).1 < 16) := by
  unfold Dev.prbsCounted
  by_cases hk : 16 ≤ (d.prbsWindow n bits).1
  · simp only [decide_eq_true hk, Dev.when, if_true, decide_eq_false (Nat.not_lt.mpr hk)]
    exact Dev.on_lower _ _ (show F.lanePrbsChkSync.lo + F.lanePrbsChkSync.len ≤ 32 by decide)
  · simp only [decide_eq_false hk, Dev.when, decide_eq_true (Nat.lt_of_not_le hk)]
    rw [if_neg Bool.false_ne_true, Dev.on, Dev.get_lane_put_apart _ _ _ (.inl (by decide)),
      Dev.get_lane_put_apart _ _ _ (.inl (by decide)), Dev.get_setLane]
    exact h

theorem prbsLossOfSync_counts (hhear : s.dev.hearsBits lane bits = true) (hlen : bits.length = 256)
    (hsync : s.dev.on (F.lanePrbsChkSync.lane lane) = true) :
    let k := (s.dev.prbsWindow lane bits).1
    ∃ t, exec (.prbsLossOfSync lane bits) s = .next t ∧ t.dev.on (F.lanePrbsChkSync.lane lane) = decide (k < 16)
      ∧ t.dev.prbsErrors lane = Nat.min (s.dev.prbsErrors lane + k) (2 ^ 48 - 1)
      ∧ (∀ n, n ≠ lane.val → t.dev.lane n = s.dev.lane n) ∧ Dev.WordsBut (prbsErrorWords lane) s.dev t.dev
      ∧ t = { s with dev := { s.dev with words := t.dev.words, lanes := t.dev.lanes } } := by
  have hframe := s.dev.laneOnly_prbsCounted lane bits
  exact ⟨_, exec_prbsLossOfSync hhear hlen hsync, s.dev.on_prbsCounted lane bits hsync, s.dev.prbsErrors_prbsCounted lane bits,
    hframe.2.2, hframe.2.1, hframe.state⟩

end

/-! The fields of `LANE.PRBS` that a write leaves -/

section
variable (old data : W32)

theorem getF_prbsWord {lo : Nat} (hlo : lo + 1 ≤ 32) (hapart : 2 ≤ lo ∧ lo + 1 ≤ 4 ∨ 6 ≤ lo) (hold : getF 0x100#32 lo 1 = 0)
    (hdata : getF 0xCC#32 lo 1 = 2 ^ 1 - 1) : getF (prbsWord old data) lo 1 = getF data lo 1 := by
  rw [prbsWord, getF_putF_other _ _ _ _ _ _ (by decide) hlo (by omega), getF_putF_other _ _ _ _ _ _ (by decide) hlo (by omega)]
  exact getF_mask_or _ _ _ _ hold hdata

theorem getF_prbsWord_genEn : getF (prbsWord old data) 3 1 = getF data 3 1 :=
  getF_prbsWord _ _ (by decide) (by decide) (by decide) (by decide)

theorem getF_prbsWord_genInv : getF (prbsWord old data) 2 1 = getF data 2 1 :=
  getF_prbsWord _ _ (by decide) (by decide) (by decide) (by decide)

theorem getF_prbsWord_chkInv : getF (prbsWord old data) 6 1 = getF data 6 1 :=
  getF_prbsWord _ _ (by decide) (by decide) (by decide) (by decide)

theorem getF_prbsWord_chkEn : getF (prbsWord old data) 7 1 = getF data 7 1 :=
  getF_prbsWord _ _ (by decide) (by decide) (by decide) (by decide)

/-- The pattern that a write leaves. -/
def prbsPattern (lo : Nat) : Nat := if getF data lo 2 = 3 then getF old lo 2 else getF data lo 2

theorem prbsPattern_lt (lo : Nat) : prbsPattern old data lo < 2 ^ 2 := by
  rw [prbsPattern]
  split
  · exact getF_lt _ _ _
  · exact getF_lt _ _ _

theorem getF_prbsWord_chkPat : getF (prbsWord old data) 4 2 = prbsPattern old data 4 :=
  (getF_putF_same _ _ _ _ (by decide)).trans (Nat.mod_eq_of_lt (prbsPattern_lt old data 4))

theorem getF_prbsWord_genPat : getF (prbsWord old data) 0 2 = prbsPattern old data 0 := by
  refine (getF_putF_other _ _ _ _ _ _ (by decide) (by decide) (by decide)).trans ?_
  exact (getF_putF_same _ _ _ _ (by decide)).trans (Nat.mod_eq_of_lt (prbsPattern_lt old data 0))

end

/-! Writes of `LANE.PRBS` -/

/-- The words and the enables that a write leaves, before it starts the generator or inverts a bit. -/
def Dev.prbsWritten (d : Dev) (n : Nat) (data : W32) : Dev :=
  let a := laneAddr n Reg.lanePrbs
  ((d.setWord a (prbsWord (d.word a) data)).when (getF (d.word a) 7 1 == 0 && getF data 7 1 == 1)
    (fun e => (e.put (F.lanePrbsErrLoErr.lane n) 0).put (F.lanePrbsErrHiErr.lane n) 0)).when (getF data 7 1 == 0)
      (fun e => e.lower (F.lanePrbsChkSync.lane n))

/-- What becomes of the stream that the generator sends. -/
def Dev.prbsStream (d e : Dev) (n : Nat) (data : W32) : Dev :=
  let a := laneAddr n Reg.lanePrbs
  let new := e.word a
  (e.when (getF new 3 1 != getF (d.word a) 3 1 || (getF new 3 1 == 1 && getF new 0 2 != getF (d.word a) 0 2))
    (fun x => x.prbsStart n (getF new 3 1 == 1))).when (getF data 9 1 == 1 && d.inTest (lanePage n)) (fun x => x.prbsFlip n)

theorem Dev.writePrbs_eq (d : Dev) (n : Nat) (data : W32) :
    d.writePrbs n data = (d.prbsStream (d.prbsWritten n data) n data, .okay) := rfl

theorem Dev.prbsWritten_wordsOnly (d : Dev) (n : Nat) (data : W32) :
    Dev.WordsOnly (prbsErrorWords n) d (d.prbsWritten n data) := by
  have hset : Dev.WordsOnly (prbsErrorWords n) d (d.setWord (laneAddr n Reg.lanePrbs) (prbsWord (d.word (laneAddr n Reg.lanePrbs)) data)) :=
    (Dev.WordsOnly.refl _ _).setWord List.mem_cons_self _
  have hclear {e : Dev} (h : Dev.WordsOnly (prbsErrorWords n) d e) :
      Dev.WordsOnly (prbsErrorWords n) d ((e.put (F.lanePrbsErrLoErr.lane n) 0).put (F.lanePrbsErrHiErr.lane n) 0) :=
    (h.put (f := F.lanePrbsErrLoErr.lane n) (by simp [prbsErrorWords, F.lanePrbsErrLoErr]) _).put
      (f := F.lanePrbsErrHiErr.lane n) (by simp [prbsErrorWords, F.lanePrbsErrHiErr]) _
  rw [Dev.prbsWritten]
  exact Dev.when_keeps (Dev.when_keeps hset fun _ => hclear) fun _ h => h.lower (f := F.lanePrbsChkSync.lane n) List.mem_cons_self

/-- The fields of `LANE.PRBS` but for `CHK_SYNC` are those of the written word. -/
theorem Dev.get_prbsWritten (d : Dev) (n : Nat) (data : W32) {f : Field} (hoff : f.off = Reg.lanePrbs) (hlen : f.lo + f.len ≤ 8) :
    (d.prbsWritten n data).get (f.lane n) = getF (prbsWord (d.word (laneAddr n Reg.lanePrbs)) data) f.lo f.len := by
  have hset : (d.setWord (laneAddr n Reg.lanePrbs) (prbsWord (d.word (laneAddr n Reg.lanePrbs)) data)).get (f.lane n)
      = getF (prbsWord (d.word (laneAddr n Reg.lanePrbs)) data) f.lo f.len := by
    rw [Dev.get, Field.lane_off, hoff, Dev.word_setWord_same]
    rfl
  have hclear {e : Dev} (h : e.get (f.lane n) = getF (prbsWord (d.word (laneAddr n Reg.lanePrbs)) data) f.lo f.len) :
      ((e.put (F.lanePrbsErrLoErr.lane n) 0).put (F.lanePrbsErrHiErr.lane n) 0).get (f.lane n)
        = getF (prbsWord (d.word (laneAddr n Reg.lanePrbs)) data) f.lo f.len := by
    rw [Dev.get_lane_put_apart _ _ _ (.inl (by rw [hoff]; decide)), Dev.get_lane_put_apart _ _ _ (.inl (by rw [hoff]; decide)), h]
  have hlower {e : Dev} (h : e.get (f.lane n) = getF (prbsWord (d.word (laneAddr n Reg.lanePrbs)) data) f.lo f.len) :
      (e.lower (F.lanePrbsChkSync.lane n)).get (f.lane n) = getF (prbsWord (d.word (laneAddr n Reg.lanePrbs)) data) f.lo f.len := by
    rw [Dev.lower, Dev.get_lane_put_apart _ _ _ (.inr ⟨by decide, by omega, .inl hlen⟩), h]
  rw [Dev.prbsWritten]
  exact Dev.when_keeps (P := fun e => e.get (f.lane n) = _)
    (Dev.when_keeps (P := fun e => e.get (f.lane n) = _) hset fun _ => hclear) fun _ => hlower

/-- R66: an enabled checker starts with no errors counted. -/
theorem Dev.prbsErrors_prbsWritten (d : Dev) (n : Nat) {data : W32} (hold : d.on (F.lanePrbsChkEn.lane n) = false) (hnew : getF data 7 1 = 1) :
    (d.prbsWritten n data).prbsErrors n = 0 := by
  have hoff : getF (d.word (laneAddr n Reg.lanePrbs)) 7 1 = 0 := Dev.get_of_off hold
  have hclear (e : Dev) : ((e.put (F.lanePrbsErrLoErr.lane n) 0).put (F.lanePrbsErrHiErr.lane n) 0).prbsErrors n = 0 := by
    rw [Dev.prbsErrors, Dev.get_lane_put_same _ _ _ (by decide), Dev.get_lane_put_apart _ _ _ (.inl (by decide)),
      Dev.get_lane_put_same _ _ _ (by decide)]
    rfl
  rw [Dev.prbsWritten]
  simp only [hoff, hnew, Dev.when, beq_self_eq_true, Bool.and_self, if_true]
  rw [if_neg (by decide)]
  exact hclear _

/-- Without a change of the generator, and without `INJECT`, the stream goes on. -/
theorem Dev.prbsStream_kept {d e : Dev} {n : Nat} {data : W32} (hold : d.on (F.lanePrbsGenEn.lane n) = false)
    (hnew : e.get (F.lanePrbsGenEn.lane n) = 0) (hinject : getF data 9 1 = 0) : d.prbsStream e n data = e := by
  have hoff : getF (d.word (laneAddr n Reg.lanePrbs)) 3 1 = 0 := Dev.get_of_off hold
  have hnow : getF (e.word (laneAddr n Reg.lanePrbs)) 3 1 = 0 := hnew
  rw [Dev.prbsStream]
  simp only [hoff, hnow, hinject]
  rfl

/-- R65: the generator begins a stream. -/
theorem Dev.prbsStream_begins {d e : Dev} {n : Nat} {data : W32} (hold : d.on (F.lanePrbsGenEn.lane n) = false)
    (hnew : e.get (F.lanePrbsGenEn.lane n) = 1) (hinject : getF data 9 1 = 0) : d.prbsStream e n data = e.prbsStart n true := by
  have hoff : getF (d.word (laneAddr n Reg.lanePrbs)) 3 1 = 0 := Dev.get_of_off hold
  have hnow : getF (e.word (laneAddr n Reg.lanePrbs)) 3 1 = 1 := hnew
  rw [Dev.prbsStream]
  simp only [hoff, hnow, hinject]
  rfl

/-- R67: a generator that goes on with its pattern inverts a bit. -/
theorem Dev.prbsStream_flips {d e : Dev} {n : Nat} {data : W32} (hen : e.get (F.lanePrbsGenEn.lane n) = d.get (F.lanePrbsGenEn.lane n))
    (hpat : e.get (F.lanePrbsGenPat.lane n) = d.get (F.lanePrbsGenPat.lane n)) (hinject : getF data 9 1 = 1)
    (htest : d.inTest (lanePage n) = true) : d.prbsStream e n data = e.prbsFlip n := by
  have hen' : getF (e.word (laneAddr n Reg.lanePrbs)) 3 1 = getF (d.word (laneAddr n Reg.lanePrbs)) 3 1 := hen
  have hpat' : getF (e.word (laneAddr n Reg.lanePrbs)) 0 2 = getF (d.word (laneAddr n Reg.lanePrbs)) 0 2 := hpat
  rw [Dev.prbsStream]
  simp only [hen', hpat', hinject, htest, bne_self_eq_false, Bool.and_false, Bool.false_or, Bool.and_true, beq_self_eq_true, Dev.when, if_true]
  rfl

section
variable {m : Master} {lane : Lane} {data : W32} {s : State}

theorem prbsCheckerEnable_starts (hw : s.mayWrite m.val (laneAddr lane Reg.lanePrbs))
    (hchk : s.dev.on (F.lanePrbsChkEn.lane lane) = false) (hgen : s.dev.on (F.lanePrbsGenEn.lane lane) = false) (hen : getF data 7 1 = 1)
    (hoff : getF data 3 1 = 0) (hinject : getF data 9 1 = 0) :
    ∃ t, exec (.prbsCheckerEnable m lane data) s = .next t
      ∧ t.dev.on (F.lanePrbsChkEn.lane lane) = true ∧ t.dev.prbsErrors lane = 0
      ∧ t.dev.on (F.lanePrbsGenEn.lane lane) = false ∧ t.dev.get (F.lanePrbsChkInv.lane lane) = getF data 6 1
      ∧ t.dev.get (F.lanePrbsChkPat.lane lane)
          = (if getF data 4 2 = 3 then s.dev.get (F.lanePrbsChkPat.lane lane) else getF data 4 2)
      ∧ AnsweredWords m.val .okay (prbsErrorWords lane) s t := by
  have hget {f : Field} (ho : f.off = Reg.lanePrbs) (hl : f.lo + f.len ≤ 8) := s.dev.get_prbsWritten lane data ho hl
  have hgen' : (s.dev.prbsWritten lane data).get (F.lanePrbsGenEn.lane lane) = 0 :=
    (hget rfl (by decide)).trans ((getF_prbsWord_genEn _ _).trans hoff)
  have hop : s.dev.writePrbs lane data = (s.dev.prbsWritten lane data, .okay) := by
    rw [Dev.writePrbs_eq, Dev.prbsStream_kept hgen hgen' hinject]
  have hread (f : Field) := (Dev.write_ok_get (op := fun d => d.writePrbs lane data) hw f).trans (congrArg (fun r => r.1.get f) hop)
  refine ⟨_, rfl, ?_, ?_, ?_, ?_, ?_, answeredWords_write hw hop (s.dev.prbsWritten_wordsOnly lane data)⟩
  · exact (congrArg (· != 0) ((hread _).trans ((hget rfl (by decide)).trans ((getF_prbsWord_chkEn _ _).trans hen)))).trans rfl
  · exact (congrArg₂ (fun x y => x + y * 0x1_0000_0000) (hread _) (hread _)).trans (s.dev.prbsErrors_prbsWritten lane hchk hen)
  · exact (congrArg (· != 0) ((hread _).trans hgen')).trans rfl
  · exact (hread _).trans ((hget rfl (by decide)).trans (getF_prbsWord_chkInv _ _))
  · exact (hread _).trans ((hget rfl (by decide)).trans (getF_prbsWord_chkPat _ _))

/-- What the start of a stream changes. -/
theorem Dev.prbsStart_on (d : Dev) (n : Nat) :
    (d.prbsStart n true).words = d.words
      ∧ (d.prbsStart n true).lane n = { d.lane n with gen := some (d.freeNat.1, d.now), flips := [] }
      ∧ ∀ q, q ≠ n → (d.prbsStart n true).lane q = d.lane q := by
  refine ⟨rfl, (Dev.lane_setLane_same _ _ _).trans rfl, fun q hq => ?_⟩
  rw [show d.prbsStart n true = d.freeNat.2.setLane n { d.lane n with gen := some (d.freeNat.1, d.now), flips := [] } from rfl,
    Dev.lane_setLane, if_neg hq]
  rfl

theorem prbsCheckerEnable_begins (hw : s.mayWrite m.val (laneAddr lane Reg.lanePrbs))
    (hgen : s.dev.on (F.lanePrbsGenEn.lane lane) = false) (hon : getF data 3 1 = 1) (hinject : getF data 9 1 = 0) :
    ∃ t, exec (.prbsCheckerEnable m lane data) s = .next t ∧ (t.dev.replyTo m.val).resp = .okay
      ∧ t.dev.on (F.lanePrbsGenEn.lane lane) = true ∧ (t.dev.lane lane).flips = []
      ∧ (∃ seed, (t.dev.lane lane).gen = some (seed, s.dev.now)) ∧ (∀ n, n ≠ lane.val → t.dev.lane n = s.dev.lane n)
      ∧ t.mem = s.mem ∧ t.flash = s.flash := by
  have hframe := (s.dev.prbsWritten_wordsOnly lane data).1
  have hgen' : (s.dev.prbsWritten lane data).get (F.lanePrbsGenEn.lane lane) = 1 :=
    (s.dev.get_prbsWritten lane data rfl (by decide)).trans ((getF_prbsWord_genEn _ _).trans hon)
  have hop : s.dev.writePrbs lane data = ((s.dev.prbsWritten lane data).prbsStart lane true, .okay) := by
    rw [Dev.writePrbs_eq, Dev.prbsStream_begins hgen hgen' hinject]
  have hnow : (s.dev.prbsWritten lane data).now = s.dev.now := by rw [hframe]
  have hkept (q : Nat) : (s.dev.prbsWritten lane data).lane q = s.dev.lane q := by rw [Dev.lane, hframe, Dev.lane]
  generalize s.dev.prbsWritten lane data = e at hgen' hop hnow hkept
  obtain ⟨hwords, hlane, hothers⟩ := e.prbsStart_on lane
  obtain ⟨-, hreply⟩ := Dev.write_ok (op := fun d => d.writePrbs lane data) hw
  have hread (f : Field) := (Dev.write_ok_get (op := fun d => d.writePrbs lane data) hw f).trans (congrArg (fun r => r.1.get f) hop)
  have hlanes (q : Nat) := (Dev.write_ok_lane (op := fun d => d.writePrbs lane data) hw q).trans (congrArg (fun r => r.1.lane q) hop)
  have hstarted := (hlanes lane).trans hlane
  refine ⟨_, rfl, hreply.1.trans (congrArg Prod.snd hop), ?_, congrArg LaneSt.flips hstarted, ⟨e.freeNat.1, ?_⟩,
    fun q hq => ((hlanes q).trans (hothers q hq)).trans (hkept q), rfl, rfl⟩
  · exact (congrArg (· != 0) ((hread _).trans ((Dev.get_of_words hwords _).trans hgen'))).trans rfl
  · exact (congrArg LaneSt.gen hstarted).trans (by rw [hnow])

end

/-! INJECT -/

theorem Dev.prbsFlip_eq {d : Dev} {n : Nat} (hgen : (d.lane n).gen.isSome = true)
    (hflip : (d.lane n).flips.contains (d.prbsPos n) = false) :
    d.prbsFlip n = d.setLane n { d.lane n with flips := d.prbsPos n :: (d.lane n).flips } := by
  rw [Dev.prbsFlip]
  refine if_neg fun h => ?_
  rcases h with h | h
  · rw [Option.isNone_iff_eq_none.mp h] at hgen
    exact absurd hgen (by decide)
  · rw [hflip] at h
    exact absurd h (by decide)

/-- A bit of the stream depends on the stream and on the pattern and inversion of the generator. -/
theorem Dev.prbsBit_flipped {d e : Dev} {n j : Nat} (hlane : e.lane n = { d.lane n with flips := j :: (d.lane n).flips })
    (hpat : e.get (F.lanePrbsGenPat.lane n) = d.get (F.lanePrbsGenPat.lane n))
    (hinv : e.get (F.lanePrbsGenInv.lane n) = d.get (F.lanePrbsGenInv.lane n)) (hgen : (d.lane n).gen.isSome = true)
    (hflip : (d.lane n).flips.contains j = false) (i : Nat) : e.prbsBit n i = (d.prbsBit n i != decide (i = j)) := by
  obtain ⟨x, hx⟩ := Option.isSome_iff_exists.mp hgen
  rw [Dev.prbsBit, Dev.prbsBit, hpat, Dev.on, hinv]
  simp only [hx, hlane, List.contains_cons]
  rw [Dev.on]
  by_cases hij : i = j
  · subst hij
    rw [hflip]
    simp
  · simp [hij]

section
variable (old : W32)

/-- What a 1 in `INJECT` adds to a word leaves the fields below it. -/
theorem getF_inject {lo len : Nat} (h : getF 0x200#32 lo len = 0) : getF (old ||| 0x200) lo len = getF old lo len := by
  rw [getF_or]
  exact (congrArg (getF old lo len ||| ·) h).trans (Nat.or_zero _)

theorem prbsPattern_inject {lo : Nat} (h : getF 0x200#32 lo 2 = 0) : prbsPattern old (old ||| 0x200) lo = getF old lo 2 := by
  rw [prbsPattern, getF_inject old h]
  exact ite_self _

end

/-- A write that leaves `CHK_EN` as it is leaves the error count. -/
theorem Dev.prbsWritten_wordsOnly_of_chkEn {d : Dev} {n : Nat} {data : W32}
    (h : getF data 7 1 = getF (d.word (laneAddr n Reg.lanePrbs)) 7 1) :
    Dev.WordsOnly [laneAddr n Reg.lanePrbs] d (d.prbsWritten n data) := by
  have hset : Dev.WordsOnly [laneAddr n Reg.lanePrbs] d (d.setWord (laneAddr n Reg.lanePrbs) (prbsWord (d.word (laneAddr n Reg.lanePrbs)) data)) :=
    (Dev.WordsOnly.refl _ _).setWord List.mem_cons_self _
  rw [Dev.prbsWritten]
  refine Dev.when_keeps (Dev.when_ind hset fun hc => ?_) fun _ h => h.lower (f := F.lanePrbsChkSync.lane n) List.mem_cons_self
  rw [h, Bool.and_eq_true, beq_iff_eq, beq_iff_eq] at hc
  omega

theorem prbsInject_flips {m : Master} {lane : Lane} {s : State} (hw : s.mayWrite m.val (laneAddr lane Reg.lanePrbs))
    (htest : s.dev.eff (lanePage lane) = 3) (hgen : (s.dev.lane lane).gen.isSome = true)
    (hflip : (s.dev.lane lane).flips.contains (s.dev.prbsPos lane) = false) :
    ∃ t, exec (.prbsInject m lane) s = .next t ∧ (t.dev.replyTo m.val).resp = .okay
      ∧ t.dev.lane lane = { s.dev.lane lane with flips := s.dev.prbsPos lane :: (s.dev.lane lane).flips }
      ∧ (∀ i, t.dev.prbsBit lane i = (s.dev.prbsBit lane i != decide (i = s.dev.prbsPos lane)))
      ∧ (∀ n, n ≠ lane.val → t.dev.lane n = s.dev.lane n) ∧ t.dev.prbsErrors lane = s.dev.prbsErrors lane
      ∧ t.mem = s.mem ∧ t.flash = s.flash ∧ Dev.WordsBut [laneAddr lane Reg.lanePrbs] s.dev t.dev := by
  have hget {f : Field} (ho : f.off = Reg.lanePrbs) (hl : f.lo + f.len ≤ 8) :=
    s.dev.get_prbsWritten lane (s.dev.word (laneAddr lane Reg.lanePrbs) ||| 0x200) ho hl
  have hen := (hget (f := F.lanePrbsGenEn) rfl (by decide)).trans
    ((getF_prbsWord_genEn _ _).trans (getF_inject _ (by decide)))
  have hinv := (hget (f := F.lanePrbsGenInv) rfl (by decide)).trans
    ((getF_prbsWord_genInv _ _).trans (getF_inject _ (by decide)))
  have hpat := (hget (f := F.lanePrbsGenPat) rfl (by decide)).trans
    ((getF_prbsWord_genPat _ _).trans (prbsPattern_inject _ (by decide)))
  have hwords := Dev.prbsWritten_wordsOnly_of_chkEn (d := s.dev) (n := lane) (getF_inject _ (by decide))
  have hinject : getF (s.dev.word (laneAddr lane Reg.lanePrbs) ||| 0x200) 9 1 = 1 := by
    have hlt := getF_lt (s.dev.word (laneAddr lane Reg.lanePrbs)) 9 1
    rw [getF_or, show getF (0x200 : W32) 9 1 = 1 from by decide]
    generalize getF (s.dev.word (laneAddr lane Reg.lanePrbs)) 9 1 = x at hlt
    rcases (show x = 0 ∨ x = 1 by omega) with rfl | rfl <;> rfl
  have hop := s.dev.writePrbs_eq lane (s.dev.word (laneAddr lane Reg.lanePrbs) ||| 0x200)
  rw [Dev.prbsStream_flips hen hpat hinject (by rw [Dev.inTest, htest]; rfl)] at hop
  have hpos : (s.dev.prbsWritten lane (s.dev.word (laneAddr lane Reg.lanePrbs) ||| 0x200)).prbsPos lane = s.dev.prbsPos lane := by
    rw [hwords.1]
    rfl
  have hlane : (s.dev.prbsWritten lane (s.dev.word (laneAddr lane Reg.lanePrbs) ||| 0x200)).lane lane = s.dev.lane lane := by
    rw [hwords.1]
    rfl
  rw [Dev.prbsFlip_eq (by rw [hlane]; exact hgen) (by rw [hlane, hpos]; exact hflip), hlane, hpos] at hop
  have hframe := (Dev.LaneOnly.of_wordsOnly (n := lane.val) hwords).setLane
    { s.dev.lane lane with flips := s.dev.prbsPos lane :: (s.dev.lane lane).flips }
  generalize s.dev.prbsWritten lane (s.dev.word (laneAddr lane Reg.lanePrbs) ||| 0x200) = e at hen hinv hpat hop hframe
  obtain ⟨hresp, hbut, hothers⟩ := accessed_write
    (op := fun d => d.writePrbs lane (d.word (laneAddr lane Reg.lanePrbs) ||| 0x200)) hw hop hframe
  have hread (f : Field) := (Dev.write_ok_get (op := fun d => d.writePrbs lane (d.word (laneAddr lane Reg.lanePrbs) ||| 0x200)) hw f).trans
    ((congrArg (fun r => r.1.get f) hop).trans (Dev.get_setLane ..))
  have hflipped := (Dev.write_ok_lane (op := fun d => d.writePrbs lane (d.word (laneAddr lane Reg.lanePrbs) ||| 0x200)) hw lane).trans
    ((congrArg (fun r => r.1.lane lane) hop).trans (Dev.lane_setLane_same ..))
  refine ⟨_, rfl, hresp, hflipped, ?_, hothers, ?_, rfl, rfl, hbut⟩
  · exact Dev.prbsBit_flipped hflipped ((hread _).trans hpat) ((hread _).trans hinv) hgen hflip
  · rw [Dev.prbsErrors, Dev.prbsErrors]
    exact congrArg₂ (fun x y => x + y * 0x1_0000_0000)
      (hbut.get (f := F.lanePrbsErrLoErr.lane lane) (by simp [laneAddr, F.lanePrbsErrLoErr]))
      (hbut.get (f := F.lanePrbsErrHiErr.lane lane) (by simp [laneAddr, F.lanePrbsErrHiErr]))

/-- Settles O15: each command changes `LANE.PRBS`, the error count and the lane's stream alone; the fields of a written word come from its
masks. -/
theorem prbsGeneratorAndChecker : Obligations.PrbsGeneratorAndChecker :=
  ⟨fun _ _ _ hhear => ⟨fun hen hsync hbits => prbsSync_shown hhear hen hsync hbits,
      fun hlen hsync => prbsLossOfSync_counts hhear hlen hsync⟩,
    fun _ _ _ _ hw => ⟨fun hchk hgen hen hoff hinject => prbsCheckerEnable_starts hw hchk hgen hen hoff hinject,
      fun hgen hon hinject => prbsCheckerEnable_begins hw hgen hon hinject,
      fun _ htest hgen hflip => prbsInject_flips hw htest hgen hflip⟩⟩

end Sys2Proof.Machine

/-! What a step of the device leaves alone: the parts of the device that it may change, and what follows for all that does not depend on
them. -/

namespace Sys2Proof.Machine

set_option Elab.async false -- a proof at a time, within the memory of a check

/-- The parts of the device: its fields, and within `mate` the items that the state copy lists. -/
inductive Part where
  | now | fresh | words | activeMap | shadowMap | lanes | paths | restarts | structs | gfp | snaps | replies | acc | accClosed | est
  | estAcc | ladle | bw | skw | fec | psq | flows | groups | members | msp | snc | applies | selRestart | bridge | sram | bursts | port
  | mgt | panel | timing | modes | mate | grm | inFill | made | egress | inMove | egFill | egRead | items
deriving DecidableEq

/-- `p` does not depend on a part. -/
def Part.Blind {α : Type} (x : Part) (p : Dev → α) : Prop :=
  match x with
  | .now => ∀ d v, p { d with now := v } = p d
  | .fresh => ∀ d v, p { d with fresh := v } = p d
  | .words => ∀ d v, p { d with words := v } = p d
  | .activeMap => ∀ d v, p { d with activeMap := v } = p d
  | .shadowMap => ∀ d v, p { d with shadowMap := v } = p d
  | .lanes => ∀ d v, p { d with lanes := v } = p d
  | .paths => ∀ d v, p { d with paths := v } = p d
  | .restarts => ∀ d v, p { d with restarts := v } = p d
  | .structs => ∀ d v, p { d with structs := v } = p d
  | .gfp => ∀ d v, p { d with gfp := v } = p d
  | .snaps => ∀ d v, p { d with snaps := v } = p d
  | .replies => ∀ d v, p { d with replies := v } = p d
  | .acc => ∀ d v, p { d with acc := v } = p d
  | .accClosed => ∀ d v, p { d with accClosed := v } = p d
  | .est => ∀ d v, p { d with est := v } = p d
  | .estAcc => ∀ d v, p { d with estAcc := v } = p d
  | .ladle => ∀ d v, p { d with ladle := v } = p d
  | .bw => ∀ d v, p { d with bw := v } = p d
  | .skw => ∀ d v, p { d with skw := v } = p d
  | .fec => ∀ d v, p { d with fec := v } = p d
  | .psq => ∀ d v, p { d with psq := v } = p d
  | .flows => ∀ d v, p { d with flows := v } = p d
  | .groups => ∀ d v, p { d with groups := v } = p d
  | .members => ∀ d v, p { d with members := v } = p d
  | .msp => ∀ d v, p { d with msp := v } = p d
  | .snc => ∀ d v, p { d with snc := v } = p d
  | .applies => ∀ d v, p { d with applies := v } = p d
  | .selRestart => ∀ d v, p { d with selRestart := v } = p d
  | .bridge => ∀ d v, p { d with bridge := v } = p d
  | .sram => ∀ d v, p { d with sram := v } = p d
  | .bursts => ∀ d v, p { d with bursts := v } = p d
  | .port => ∀ d v, p { d with port := v } = p d
  | .mgt => ∀ d v, p { d with mgt := v } = p d
  | .panel => ∀ d v, p { d with panel := v } = p d
  | .timing => ∀ d v, p { d with timing := v } = p d
  | .modes => ∀ d v, p { d with modes := v } = p d
  | .mate => ∀ d v, p { d with mate := v } = p d
  | .grm => ∀ d v, p { d with grm := v } = p d
  | .inFill => ∀ d v, p { d with inFill := v } = p d
  | .made => ∀ d v, p { d with made := v } = p d
  | .egress => ∀ d v, p { d with egress := v } = p d
  | .inMove => ∀ d v, p { d with inMove := v } = p d
  | .egFill => ∀ d v, p { d with egFill := v } = p d
  | .egRead => ∀ d v, p { d with egRead := v } = p d
  | .items => ∀ d v, p { d with mate := { d.mate with items := v } } = p d

/-- `e` is `d` but for the parts of `S`: all that depends on none of them is the same. -/
def Dev.Only (S : List Part) (d e : Dev) : Prop := ∀ (α : Type) (p : Dev → α), (∀ x ∈ S, x.Blind p) → p e = p d

namespace Dev.Only

variable {S T : List Part} {d e x : Dev}

theorem refl (S : List Part) (d : Dev) : Only S d d := fun _ _ _ => rfl

theorem trans (h : Only S d e) (h' : Only S e x) : Only S d x := fun α p hp => (h' α p hp).trans (h α p hp)

theorem mono (h : Only S d e) (hS : S ⊆ T) : Only T d e := fun α p hp => h α p fun x hx => hp x (hS hx)

/-- A further step. -/
theorem step (h : Only T d e) (h' : Only S e x) (hS : S ⊆ T := by decide) : Only T d x := h.trans (h'.mono hS)

/-- A change of one part. -/
theorem part (y : Part) (hy : y ∈ S := by decide) (h : ∀ (α : Type) (p : Dev → α), y.Blind p → p e = p d) : Only S d e :=
  fun α p hp => h α p (hp y hy)

theorem when_ind {g : Dev → Dev} {c : Bool} (h : Only S d e) (hg : Only S d (g e)) : Only S d (e.when c g) :=
  Dev.when_of (P := Only S d) c h hg

theorem whenStep (c : Bool) {g : Dev → Dev} (hg : ∀ e, Only S e (g e)) : Only S d (d.when c g) :=
  Dev.when_of (P := Only S d) c (refl S d) (hg d)

theorem foldl {β : Type} (l : List β) {g : Dev → β → Dev} (hg : ∀ e, ∀ i ∈ l, Only S e (g e i)) : Only S d (l.foldl g d) := by
  induction l generalizing d with
  | nil => exact refl S d
  | cons i l ih =>
    exact (hg d i List.mem_cons_self).trans (ih fun e j hj => hg e j (List.mem_cons_of_mem _ hj))

theorem each (n : Nat) {g : Dev → Nat → Dev} (hg : ∀ e i, Only S e (g e i)) : Only S d (d.each n g) :=
  foldl _ fun e i _ => hg e i

end Dev.Only

/-! The projections that depend on one part -/

theorem Part.blind_now (x : Part) (h : x ≠ .now) : x.Blind Dev.now := by
  cases x
  case now => exact absurd rfl h
  all_goals exact fun _ _ => rfl

theorem Part.blind_words (x : Part) (h : x ≠ .words) : x.Blind Dev.words := by
  cases x
  case words => exact absurd rfl h
  all_goals exact fun _ _ => rfl

theorem Part.blind_lanes (x : Part) (h : x ≠ .lanes) : x.Blind Dev.lanes := by
  cases x
  case lanes => exact absurd rfl h
  all_goals exact fun _ _ => rfl

theorem Part.blind_paths (x : Part) (h : x ≠ .paths) : x.Blind Dev.paths := by
  cases x
  case paths => exact absurd rfl h
  all_goals exact fun _ _ => rfl

theorem Part.blind_gfp (x : Part) (h : x ≠ .gfp) : x.Blind Dev.gfp := by
  cases x
  case gfp => exact absurd rfl h
  all_goals exact fun _ _ => rfl

theorem Part.blind_timing (x : Part) (h : x ≠ .timing) : x.Blind Dev.timing := by
  cases x
  case timing => exact absurd rfl h
  all_goals exact fun _ _ => rfl

namespace Dev.Only

variable {S : List Part} {d e : Dev}

theorem now (h : Only S d e) (hS : Part.now ∉ S := by decide) : e.now = d.now :=
  h _ Dev.now fun x hx => x.blind_now fun hxe => hS (hxe ▸ hx)

theorem words (h : Only S d e) (hS : Part.words ∉ S := by decide) : e.words = d.words :=
  h _ Dev.words fun x hx => x.blind_words fun hxe => hS (hxe ▸ hx)

theorem lanes (h : Only S d e) (hS : Part.lanes ∉ S := by decide) : e.lanes = d.lanes :=
  h _ Dev.lanes fun x hx => x.blind_lanes fun hxe => hS (hxe ▸ hx)

theorem paths (h : Only S d e) (hS : Part.paths ∉ S := by decide) : e.paths = d.paths :=
  h _ Dev.paths fun x hx => x.blind_paths fun hxe => hS (hxe ▸ hx)

theorem gfp (h : Only S d e) (hS : Part.gfp ∉ S := by decide) : e.gfp = d.gfp :=
  h _ Dev.gfp fun x hx => x.blind_gfp fun hxe => hS (hxe ▸ hx)

theorem timing (h : Only S d e) (hS : Part.timing ∉ S := by decide) : e.timing = d.timing :=
  h _ Dev.timing fun x hx => x.blind_timing fun hxe => hS (hxe ▸ hx)

end Dev.Only

end Sys2Proof.Machine

/-! The parts that the lanes' operations change. -/

namespace Sys2Proof.Machine

set_option Elab.async false -- a proof at a time, within the memory of a check

section
variable (d : Dev)

theorem Dev.only_setWord (a : Nat) (w : W32) : Dev.Only [.words] d (d.setWord a w) := .part .words (by decide) fun _ _ hp => hp d _
theorem Dev.only_put (f : Field) (v : Nat) : Dev.Only [.words] d (d.put f v) := d.only_setWord _ _
theorem Dev.only_raise (f : Field) : Dev.Only [.words] d (d.raise f) := d.only_setWord _ _
theorem Dev.only_lower (f : Field) : Dev.Only [.words] d (d.lower f) := d.only_setWord _ _
theorem Dev.only_roll (f : Field) (n : Nat) : Dev.Only [.words] d (d.roll f n) := d.only_setWord _ _
theorem Dev.only_bump (f : Field) (n : Nat) : Dev.Only [.words] d (d.bump f n) := d.only_setWord _ _
theorem Dev.only_setLane (n : Nat) (x : LaneSt) : Dev.Only [.lanes] d (d.setLane n x) := .part .lanes (by decide) fun _ _ hp => hp d _
theorem Dev.only_setTu (n : Nat) (x : TuRx) : Dev.Only [.lanes] d (d.setTu n x) := d.only_setLane _ _
theorem Dev.only_setSoh (n : Nat) (x : Soh) : Dev.Only [.lanes] d (d.setSoh n x) := d.only_setLane _ _
theorem Dev.only_setMsp (g : Nat) (p : ProtSt) : Dev.Only [.msp] d (d.setMsp g p) := .part .msp (by decide) fun _ _ hp => hp d _
theorem Dev.only_setSnc (i : Nat) (p : ProtSt) : Dev.Only [.snc] d (d.setSnc i p) := .part .snc (by decide) fun _ _ hp => hp d _

theorem Dev.only_setEst (key : Nat) (x : EstSt) : Dev.Only [.est, .estAcc] d (d.setEst key x) :=
  Dev.Only.trans (e := { d with est := Store.set (fun _ => {}) d.est key x }) (.part .est (by decide) fun _ _ hp => hp d _)
    (.part .estAcc (by decide) fun _ _ hp => hp { d with est := Store.set (fun _ => {}) d.est key x } _)

theorem Dev.only_estClear (key : Nat) : Dev.Only [.est, .estAcc] d (d.estClear key) := d.only_setEst _ _

/-- A counter of the second in progress that no bandwidth monitor watches. -/
theorem Dev.only_count {k c : Nat} (h : bwObject k c = none) (i n : Nat) : Dev.Only [.acc] d (d.count k i c n) := by
  unfold Dev.count
  split
  · exact .refl _ d
  · rw [h]
    exact .part .acc (by decide) fun _ _ hp => hp d _

theorem Dev.only_markLane (n : Nat) : Dev.Only [.acc] d (d.markLane n) := by
  have hcount (e : Dev) (c v : Nat) (h : bwObject 0 c = none) := e.only_count h n v
  unfold Dev.markLane
  extract_lets has near
  split
  · exact (((hcount _ _ _ (by decide)).step (hcount _ _ _ (by decide))).step (hcount _ _ _ (by decide)))
  · exact hcount _ _ _ (by decide)

theorem Dev.only_note (kind key : Nat) : Dev.Only [.items] d (d.note kind key) := by
  unfold Dev.note
  split
  · exact .part .items (by decide) fun _ _ hp => hp d _
  · exact .refl _ d

theorem Dev.only_noteOnset (kind key : Nat) (p q : ProtSt) : Dev.Only [.items] d (d.noteOnset kind key p q) :=
  .whenStep _ fun e => e.only_note kind key

theorem Dev.only_protSee : Dev.Only [.msp, .snc, .items] d d.protSee := by
  refine (Dev.Only.foldl _ fun e g _ => ?_).trans (Dev.Only.foldl _ fun e i _ => ?_)
  · exact (((e.only_setMsp g _).mono (by decide)).step (Dev.only_setMsp _ g _)).step (Dev.only_noteOnset _ 3 g _ _)
  · exact ((e.only_setSnc i _).mono (by decide)).step (Dev.only_noteOnset _ 2 i _ _)

/-- What a defect of a lane changes. -/
abbrev defectParts : List Part := [.words, .acc, .msp, .snc, .items]

theorem Dev.only_setDefect (n bit : Nat) (v : Bool) : Dev.Only defectParts d (d.setDefect n bit v) := by
  unfold Dev.setDefect
  split
  · exact .refl _ d
  · exact ((((d.only_put _ _).mono (by decide)).step (Dev.only_raise _ _)).step (Dev.only_markLane _ n)).step (Dev.only_protSee _)

theorem Dev.only_psqNote : Dev.Only [.words] d d.psqNote :=
  (((d.only_put _ _).step (Dev.only_put _ _ _)).step (Dev.only_put _ _ _)).step (Dev.only_put _ _ _)

theorem Dev.only_rewind (n : Nat) : Dev.Only [.words, .lanes, .acc] d (d.rewind n) := by
  unfold Dev.rewind
  split
  · exact ((((d.only_setTu n _).mono (by decide)).step (Dev.only_roll _ _ _)).step (Dev.only_count _ (by decide) _ _)).step
      (Dev.only_psqNote _)
  · exact .refl _ d

theorem Dev.only_rewindOwn (n : Nat) : Dev.Only [.words, .lanes, .acc] d (d.rewindOwn n) := by
  unfold Dev.rewindOwn
  split
  · exact .refl _ d
  · exact d.only_rewind n

theorem Dev.only_aisFrom (q : Nat) : Dev.Only [.inFill] d (d.aisFrom q) := .part .inFill (by decide) fun _ _ hp => hp d _

theorem Dev.only_lineUpdate (n : Nat) : Dev.Only [.words, .inFill] d (d.lineUpdate n) :=
  .whenStep _ fun e => ((e.only_raise _).mono (by decide)).step (Dev.only_aisFrom _ n)

theorem Dev.only_strUpdate (p : Nat) : Dev.Only [.words, .lanes, .acc, .inFill] d (d.strUpdate p) := by
  unfold Dev.strUpdate
  extract_lets q a b st t d1
  have h1 : Dev.Only [.words, .lanes, .acc, .inFill] d d1 := (d.only_put _ _).mono (by decide)
  split
  · exact (h1.step (Dev.only_setTu _ p _)).trans (.whenStep _ fun e => ((e.only_rewind p).mono (by decide)).step (Dev.only_aisFrom _ p))
  · split
    · exact h1
    · exact h1.step (Dev.only_setTu _ p _)

theorem Dev.only_laneUpdate (n : Nat) : Dev.Only [.words, .lanes, .acc, .inFill] d (d.laneUpdate n) := by
  unfold Dev.laneUpdate
  split
  · exact (d.only_lineUpdate n).mono (by decide)
  · split
    · exact .refl _ d
    · split
      · exact d.only_strUpdate _
      · exact .whenStep _ fun e => ((e.only_rewind n).mono (by decide)).step (Dev.only_aisFrom _ n)

/-- What a LINE lane's loss of frame or of alignment changes. -/
abbrev lineParts : List Part := [.words, .lanes, .acc, .msp, .snc, .items, .inFill, .est, .estAcc]

theorem Dev.only_b2Pause (n : Nat) : Dev.Only lineParts d (d.b2Pause n) :=
  (((((d.only_setSoh n _).mono (by decide)).step (Dev.only_estClear _ _)).step (Dev.only_estClear _ _)).step
    (Dev.only_setDefect _ n defSd false)).step (Dev.only_setDefect _ n defSf false)

/-- What a change of a lane's alignment changes. -/
abbrev laneParts : List Part := .psq :: lineParts

theorem Dev.only_cutPackets (n : Nat) : Dev.Only [.lanes, .psq] d (d.cutPackets n) := by
  unfold Dev.cutPackets
  extract_lets t s k kept whole d1
  exact ((d.only_setTu n _).mono (by decide)).trans (.part .psq (by decide) fun _ _ hp => hp d1 _)

theorem Dev.only_tuLeave (n : Nat) : Dev.Only [.words, .lanes, .acc, .psq] d (d.tuLeave n) := by
  unfold Dev.tuLeave
  extract_lets e t d1 d2
  have h1 : Dev.Only [.words, .lanes, .acc, .psq] d d1 := ((d.only_cutPackets n).mono (by decide)).step (Dev.only_setTu _ n _)
  exact (((((h1.step (Dev.only_setWord _ _ _)).step (Dev.only_setWord _ _ _)).step (Dev.only_lower _ _)).step (Dev.only_put _ _ _)).step
    (Dev.only_put _ _ _)).step (Dev.only_rewindOwn _ n)

theorem Dev.only_setLoft (n : Nat) (v : Bool) : Dev.Only defectParts d (d.setLoft n v) :=
  ((d.only_put _ _).mono (by decide)).step (Dev.only_setDefect _ n defLoft v)

theorem Dev.only_setLof (n : Nat) (v : Bool) : Dev.Only laneParts d (d.setLof n v) :=
  (((d.only_put _ _).mono (by decide)).step (Dev.only_setDefect _ n defLof v)).step (Dev.only_laneUpdate _ n)

theorem Dev.only_setOof (n : Nat) (v : Bool) : Dev.Only laneParts d (d.setOof n v) := by
  unfold Dev.setOof
  extract_lets l d1
  have h1 : Dev.Only laneParts d d1 := ((d.only_put _ _).mono (by decide)).step (Dev.only_setDefect _ n defOof v)
  split
  · next d2 _ =>
    have h2 : Dev.Only laneParts d d2 := h1.step (Dev.only_setLane _ n _)
    refine Dev.Only.step ?_ (Dev.only_laneUpdate _ n)
    split
    · exact h2.step (Dev.only_b2Pause _ n)
    · exact h2.trans (.whenStep _ fun e => (e.only_tuLeave n).mono (by decide))
  · exact h1.step (Dev.only_setLane _ n _)

theorem Dev.only_setSv (n st : Nat) : Dev.Only laneParts d (d.setSv n st) := by
  unfold Dev.setSv
  extract_lets line d1
  have h1 : Dev.Only laneParts d d1 := (((d.only_put _ _).mono (by decide)).step (Dev.only_setOof _ n _)).step (Dev.only_setLoft _ n _)
  exact (h1.trans (.whenStep _ fun e => (e.only_tuLeave n).mono (by decide))).step (Dev.only_laneUpdate _ n)

end

end Sys2Proof.Machine

/-! What a change of a lane's alignment leaves: the receivers, and the registers that it does not write. -/

namespace Sys2Proof.Machine

set_option Elab.async false -- a proof at a time, within the memory of a check

/-! The receiver of every lane -/

/-- A lane without what follows its alignment: its section overhead, its Tustra Engine, the times of its OOF, and its elastic store. -/
def LaneSt.receiver (l : LaneSt) : LaneSt := { l with soh := {}, tu := {}, oofSince := none, inFrameSince := none, es := [] }

/-- Every lane has the Sieve, the configuration and the CDR that it had. -/
def Dev.SieveKept (d e : Dev) : Prop := ∀ q, (e.lane q).receiver = (d.lane q).receiver

namespace Dev.SieveKept

variable {d e : Dev}

theorem refl (d : Dev) : d.SieveKept d := fun _ => rfl

theorem of_lanes (h : d.SieveKept e) {x : Dev} (hx : x.lanes = e.lanes) : d.SieveKept x := fun q => by
  rw [Dev.lane, hx, ← Dev.lane]
  exact h q

theorem of_only {S : List Part} {x : Dev} (h : d.SieveKept e) (hx : Dev.Only S e x) (hS : .lanes ∉ S := by decide) : d.SieveKept x :=
  h.of_lanes (hx.lanes hS)

theorem setLane (h : d.SieveKept e) (n : Nat) {x : LaneSt} (hx : x.receiver = (e.lane n).receiver) :
    d.SieveKept (e.setLane n x) := fun q => by
  rw [Dev.lane_setLane]
  split
  · next hq =>
    rw [hx, hq]
    exact h n
  · exact h q

theorem setTu (h : d.SieveKept e) (n : Nat) (x : TuRx) : d.SieveKept (e.setTu n x) := h.setLane n rfl

theorem setSoh (h : d.SieveKept e) (n : Nat) (x : Soh) : d.SieveKept (e.setSoh n x) := h.setLane n rfl

theorem setDefect (h : d.SieveKept e) (n bit : Nat) (v : Bool) : d.SieveKept (e.setDefect n bit v) :=
  h.of_only (e.only_setDefect n bit v)

theorem rewind (h : d.SieveKept e) (n : Nat) : d.SieveKept (e.rewind n) := by
  unfold Dev.rewind
  split
  · exact (((h.setTu n { e.tu n with pkt := none }).of_only (Dev.only_roll _ _ _)).of_only
      (Dev.only_count _ (by decide) _ _)).of_only (Dev.only_psqNote _)
  · exact h

theorem rewindOwn (h : d.SieveKept e) (n : Nat) : d.SieveKept (e.rewindOwn n) := by
  unfold Dev.rewindOwn
  split
  · exact h
  · exact h.rewind n

theorem strUpdate (h : d.SieveKept e) (p : Nat) : d.SieveKept (e.strUpdate p) := by
  unfold Dev.strUpdate
  extract_lets q a b st t d1
  have h1 : d.SieveKept d1 := h.of_only (e.only_put _ _)
  split
  · exact Dev.when_keeps (h1.setTu p _) fun _ hx => (hx.rewind p).of_only (Dev.only_aisFrom _ p)
  · split
    · exact h1
    · exact h1.setTu p _

theorem laneUpdate (h : d.SieveKept e) (n : Nat) : d.SieveKept (e.laneUpdate n) := by
  unfold Dev.laneUpdate
  split
  · exact h.of_only (e.only_lineUpdate n)
  · split
    · exact h
    · split
      · exact h.strUpdate _
      · exact Dev.when_keeps h fun _ hx => (hx.rewind n).of_only (Dev.only_aisFrom _ n)

theorem b2Pause (h : d.SieveKept e) (n : Nat) : d.SieveKept (e.b2Pause n) :=
  ((((h.setSoh n _).of_only (Dev.only_estClear _ _)).of_only (Dev.only_estClear _ _)).setDefect n _ _).setDefect n _ _

theorem tuLeave (h : d.SieveKept e) (n : Nat) : d.SieveKept (e.tuLeave n) := by
  unfold Dev.tuLeave
  extract_lets x t d1 d2
  have h0 : d.SieveKept x := (h.setTu n _).of_only (.part .psq (S := [.psq]) (by decide) fun _ _ hp => hp _ _)
  have h1 : d.SieveKept d1 := h0.setTu n _
  have h2 : Dev.Only [.words] d1 d2 := ((((Dev.only_setWord _ _ _).step (Dev.only_setWord _ _ _)).step (Dev.only_lower _ _)).step
    (Dev.only_put _ _ _)).step (Dev.only_put _ _ _)
  exact (h1.of_only h2).rewindOwn n

theorem setOof (h : d.SieveKept e) (n : Nat) (v : Bool) : d.SieveKept (e.setOof n v) := by
  unfold Dev.setOof
  extract_lets l d1
  have hd1 : Dev.Only defectParts e d1 := ((e.only_put _ _).mono (by decide)).step (Dev.only_setDefect _ n defOof v)
  have hlane : d1.lane n = l := by rw [Dev.lane, hd1.lanes, ← Dev.lane]
  have hsame : l.receiver = (d1.lane n).receiver := (congrArg LaneSt.receiver hlane).symm
  have h1 : d.SieveKept d1 := h.of_only hd1
  split
  · next d2 _ =>
    have h2 : d.SieveKept d2 := h1.setLane n hsame
    refine laneUpdate ?_ n
    split
    · exact h2.b2Pause n
    · exact Dev.when_keeps h2 fun _ hx => hx.tuLeave n
  · exact h1.setLane n hsame

theorem setSv (h : d.SieveKept e) (n st : Nat) : d.SieveKept (e.setSv n st) := by
  unfold Dev.setSv
  extract_lets line d1
  have h1 : d.SieveKept d1 := ((h.of_only (e.only_put _ _)).setOof n _).of_only (Dev.only_setLoft _ n _)
  exact (Dev.when_keeps h1 fun _ hx => hx.tuLeave n).laneUpdate n

theorem sieve (h : d.SieveKept e) (q : Nat) : (e.lane q).sieve = (d.lane q).sieve :=
  show (e.lane q).receiver.sieve = (d.lane q).receiver.sieve from congrArg _ (h q)

theorem cfg (h : d.SieveKept e) (q : Nat) : (e.lane q).cfg = (d.lane q).cfg :=
  show (e.lane q).receiver.cfg = (d.lane q).receiver.cfg from congrArg _ (h q)

theorem cdrSince (h : d.SieveKept e) (q : Nat) : (e.lane q).cdrSince = (d.lane q).cdrSince :=
  show (e.lane q).receiver.cdrSince = (d.lane q).receiver.cdrSince from congrArg _ (h q)

theorem isLine (h : d.SieveKept e) (q : Nat) : (e.lane q).isLine = (d.lane q).isLine := by
  rw [LaneSt.isLine, LaneSt.type, h.cfg q]
  rfl

end Dev.SieveKept

/-! The other lanes, where the lane is a LINE lane -/

/-- Every lane but `n` is as it was. -/
def Dev.OtherLanes (n : Nat) (d e : Dev) : Prop := ∀ q, q ≠ n → e.lane q = d.lane q

namespace Dev.OtherLanes

variable {n : Nat} {d e : Dev}

theorem refl (n : Nat) (d : Dev) : d.OtherLanes n d := fun _ _ => rfl

theorem of_lanes (h : d.OtherLanes n e) {x : Dev} (hx : x.lanes = e.lanes) : d.OtherLanes n x := fun q hq => by
  rw [Dev.lane, hx, ← Dev.lane]
  exact h q hq

theorem of_only {S : List Part} {x : Dev} (h : d.OtherLanes n e) (hx : Dev.Only S e x) (hS : .lanes ∉ S := by decide) : d.OtherLanes n x :=
  h.of_lanes (hx.lanes hS)

theorem setLane (h : d.OtherLanes n e) (x : LaneSt) : d.OtherLanes n (e.setLane n x) := fun q hq => by
  rw [Dev.lane_setLane, if_neg hq]
  exact h q hq

theorem setDefect (h : d.OtherLanes n e) (bit : Nat) (v : Bool) : d.OtherLanes n (e.setDefect n bit v) :=
  h.of_only (e.only_setDefect n bit v)

theorem b2Pause (h : d.OtherLanes n e) : d.OtherLanes n (e.b2Pause n) :=
  ((((h.setLane _).of_only (Dev.only_estClear _ _)).of_only (Dev.only_estClear _ _)).setDefect _ _).setDefect _ _

theorem laneUpdate (h : d.OtherLanes n e) (hline : (e.lane n).isLine = true) : d.OtherLanes n (e.laneUpdate n) := by
  rw [Dev.laneUpdate, if_pos hline]
  exact h.of_only (e.only_lineUpdate n)

theorem setOof (h : d.OtherLanes n e) (v : Bool) (hline : (e.lane n).isLine = true) : d.OtherLanes n (e.setOof n v) := by
  have h1 := h.of_only (((e.only_put (F.laneSvStatOof.lane n) (bitOf v)).mono (by decide) : Dev.Only defectParts _ _).step
    (Dev.only_setDefect _ n defOof v))
  unfold Dev.setOof
  extract_lets l d1
  split
  · next d2 _ =>
    refine laneUpdate (b2Pause (h1.setLane _)) ?_
    have hkept : d2.SieveKept (d2.b2Pause n) := (Dev.SieveKept.refl d2).b2Pause n
    rw [hkept.isLine n]
    exact (congrArg LaneSt.isLine (Dev.lane_setLane_same ..)).trans hline
  · exact h1.setLane _

theorem setSv (h : d.OtherLanes n e) (st : Nat) (hline : (e.lane n).isLine = true) : d.OtherLanes n (e.setSv n st) := by
  unfold Dev.setSv
  extract_lets line d1
  have hl : line = true := hline
  have hput : e.SieveKept (e.put (F.laneSvStatState.lane n) st) := (Dev.SieveKept.refl e).of_only (e.only_put _ _)
  have h1 : d.OtherLanes n d1 :=
    ((h.of_only (e.only_put _ _)).setOof _ ((hput.isLine n).trans hline)).of_only (Dev.only_setLoft _ n _)
  have hkept : e.SieveKept d1 := (hput.setOof n _).of_only (Dev.only_setLoft _ n _)
  rw [hl, Bool.not_true, Bool.false_and, Bool.false_and, Dev.when, if_neg Bool.false_ne_true]
  exact h1.laneUpdate ((hkept.isLine n).trans hline)

end Dev.OtherLanes

/-! Registers of the lanes' pages -/

/-- The register at `o` of every lane's page is as it was. -/
def Dev.RegKept (o : Nat) (d e : Dev) : Prop := ∀ q, e.word (laneAddr q o) = d.word (laneAddr q o)

/-- The registers of the lanes' pages that a change of an alignment may write. -/
def alignmentRegs : List Nat :=
  [Reg.laneSvStat, Reg.laneDefStat, Reg.laneDefEvt, Reg.laneSohStat, Reg.laneTuStrstat, Reg.laneTuPktbad, Reg.laneTuCrrx0, Reg.laneTuCrrx1,
    Reg.laneTuStat, Reg.laneTuPeff]

namespace Dev.RegKept

variable {o : Nat} {d e : Dev}

theorem refl (o : Nat) (d : Dev) : d.RegKept o d := fun _ => rfl

theorem of_words (h : d.RegKept o e) {x : Dev} (hx : x.words = e.words) : d.RegKept o x := fun q => by
  rw [Dev.word, hx, ← Dev.word]
  exact h q

theorem get (h : d.RegKept o e) {f : Field} (hf : f.off = o) (q : Nat) : e.get (f.lane q) = d.get (f.lane q) := by
  rw [Dev.get, Field.lane_off, hf, h q, Dev.get, Field.lane_off, hf]

/-- Another register of a lane's page is written. -/
theorem setReg (h : d.RegKept o e) {r : Nat} (ho : o < 0x1_0000 ∧ r < 0x1_0000 ∧ o ≠ r) (p : Nat) (w : W32) :
    d.RegKept o (e.setWord (laneAddr p r) w) := fun q =>
  (e.word_setWord_other w (laneAddr_ne ho.1 ho.2.1 (.inr ho.2.2))).trans (h q)

theorem put (h : d.RegKept o e) {f : Field} (ho : o < 0x1_0000 ∧ f.off < 0x1_0000 ∧ o ≠ f.off) (p v : Nat) : d.RegKept o (e.put (f.lane p) v) :=
  h.setReg ho p _

/-- A register below the lanes' pages is written. -/
theorem putUnit (h : d.RegKept o e) {f : Field} (hf : f.off < laneAddr 0 0) (v : Nat) : d.RegKept o (e.put f v) := fun q => by
  refine (e.word_setWord_other _ (Nat.ne_of_gt (Nat.lt_of_lt_of_le hf ?_))).trans (h q)
  unfold laneAddr
  omega

theorem of_only {S : List Part} {x : Dev} (h : d.RegKept o e) (hx : Dev.Only S e x) (hS : .words ∉ S := by decide) : d.RegKept o x :=
  h.of_words (hx.words hS)

theorem psqNote (h : d.RegKept o e) : d.RegKept o e.psqNote :=
  (((h.putUnit (f := F.psqCountL2fBytes) (by decide) _).putUnit (f := F.psqCountF2lBytes) (by decide) _).putUnit
    (f := F.psqPeakL2fBytes) (by decide) _).putUnit (f := F.psqPeakF2lBytes) (by decide) _

theorem setDefect (h : d.RegKept o e) (ho : o < 0x1_0000 ∧ o ∉ alignmentRegs) (n bit : Nat) (v : Bool) : d.RegKept o (e.setDefect n bit v) := by
  have hne (r : Nat) (hr : r ∈ alignmentRegs) : o ≠ r := fun hor => ho.2 (hor ▸ hr)
  by_cases hold : e.defect n bit = v
  · rwa [Dev.setDefect_of_eq hold]
  · have hstat : o < 0x1_0000 ∧ (defStatField bit).off < 0x1_0000 ∧ o ≠ (defStatField bit).off :=
      ⟨ho.1, (by decide : Reg.laneDefStat < 0x1_0000), hne Reg.laneDefStat (by decide)⟩
    have hevt : o < 0x1_0000 ∧ (defEvtField bit).off < 0x1_0000 ∧ o ≠ (defEvtField bit).off :=
      ⟨ho.1, (by decide : Reg.laneDefEvt < 0x1_0000), hne Reg.laneDefEvt (by decide)⟩
    exact ((h.put hstat n _).put hevt n 1).of_words (Dev.setDefect_words hold)

section
variable (ho : o < 0x1_0000 ∧ o ∉ alignmentRegs)
include ho

theorem apart {r : Nat} (hr : r ∈ alignmentRegs) (hlt : r < 0x1_0000) : o < 0x1_0000 ∧ r < 0x1_0000 ∧ o ≠ r :=
  ⟨ho.1, hlt, fun hor => ho.2 (hor ▸ hr)⟩

theorem rewind (h : d.RegKept o e) (n : Nat) : d.RegKept o (e.rewind n) := by
  unfold Dev.rewind
  split
  · have htu := h.of_only (e.only_setTu n { e.tu n with pkt := none })
    have hroll := htu.put (f := F.laneTuPktbadCount) (apart ho (r := Reg.laneTuPktbad) (by decide) (by decide)) n
    exact ((hroll _).of_words (Dev.count_words ..)).psqNote
  · exact h

theorem rewindOwn (h : d.RegKept o e) (n : Nat) : d.RegKept o (e.rewindOwn n) := by
  unfold Dev.rewindOwn
  split
  · exact h
  · exact rewind ho h n

theorem strUpdate (h : d.RegKept o e) (p : Nat) : d.RegKept o (e.strUpdate p) := by
  unfold Dev.strUpdate
  extract_lets q a b st t d1
  have h1 : d.RegKept o d1 := h.put (f := F.laneTuStrstatState) (apart ho (r := Reg.laneTuStrstat) (by decide) (by decide)) p _
  split
  · exact Dev.when_keeps (h1.of_only (Dev.only_setTu _ p _)) fun _ hx => (rewind ho hx p).of_only (Dev.only_aisFrom _ p)
  · split
    · exact h1
    · exact h1.of_only (Dev.only_setTu _ p _)

theorem laneUpdate (h : d.RegKept o e) (n : Nat) : d.RegKept o (e.laneUpdate n) := by
  unfold Dev.laneUpdate
  split
  · exact Dev.when_keeps h fun _ hx =>
      (hx.put (f := F.laneSohStatAisDs) (apart ho (r := Reg.laneSohStat) (by decide) (by decide)) n 1).of_only (Dev.only_aisFrom _ n)
  · split
    · exact h
    · split
      · exact strUpdate ho h _
      · exact Dev.when_keeps h fun _ hx => (rewind ho hx n).of_only (Dev.only_aisFrom _ n)

theorem b2Pause (h : d.RegKept o e) (n : Nat) : d.RegKept o (e.b2Pause n) :=
  ((((h.of_only (e.only_setSoh n _)).of_only (Dev.only_estClear _ _)).of_only (Dev.only_estClear _ _)).setDefect ho n _ _).setDefect ho n _ _

theorem tuLeave (h : d.RegKept o e) (n : Nat) : d.RegKept o (e.tuLeave n) := by
  unfold Dev.tuLeave
  extract_lets x t d1 d2
  have h1 : d.RegKept o d1 := (h.of_only (e.only_cutPackets n)).of_only (Dev.only_setTu _ n _)
  have hcr0 := h1.setReg (apart ho (r := Reg.laneTuCrrx0) (by decide) (by decide)) n 0
  have hcr1 := hcr0.setReg (apart ho (r := Reg.laneTuCrrx1) (by decide) (by decide)) n 0
  have hpend := hcr1.put (f := F.laneTuStatPend) (apart ho (r := Reg.laneTuStat) (by decide) (by decide)) n 0
  have hpcap := hpend.put (f := F.laneTuStatPcap) (apart ho (r := Reg.laneTuStat) (by decide) (by decide)) n 0
  exact rewindOwn ho (hpcap.put (f := F.laneTuPeffE) (apart ho (r := Reg.laneTuPeff) (by decide) (by decide)) n 0) n

theorem setOof (h : d.RegKept o e) (n : Nat) (v : Bool) : d.RegKept o (e.setOof n v) := by
  unfold Dev.setOof
  extract_lets l d1
  have h1 : d.RegKept o d1 := (h.put (f := F.laneSvStatOof) (apart ho (r := Reg.laneSvStat) (by decide) (by decide)) n _).setDefect ho n _ _
  split
  · next d2 _ =>
    have h2 : d.RegKept o d2 := h1.of_only (Dev.only_setLane _ n _)
    refine laneUpdate ho ?_ n
    split
    · exact b2Pause ho h2 n
    · exact Dev.when_keeps h2 fun _ hx => tuLeave ho hx n
  · exact h1.of_only (Dev.only_setLane _ n _)

theorem setSv (h : d.RegKept o e) (n st : Nat) : d.RegKept o (e.setSv n st) := by
  unfold Dev.setSv
  extract_lets line d1
  have hput := h.put (f := F.laneSvStatState) (apart ho (r := Reg.laneSvStat) (by decide) (by decide)) n st
  have h1 : d.RegKept o d1 :=
    ((setOof ho hput n _).put (f := F.laneSvStatLoft) (apart ho (r := Reg.laneSvStat) (by decide) (by decide)) n _).setDefect ho n _ _
  exact laneUpdate ho (Dev.when_keeps h1 fun _ hx => tuLeave ho hx n) n

end

end Dev.RegKept

/-! What the statuses show of it -/

namespace Dev.StatusBut

variable {n : Nat} {l : List Field} {d e : Dev}

theorem setReg (h : d.StatusBut n l e) {r : Nat} (hr : r < 0x1_0000 ∧ r ∉ laneStatusRegs) (p : Nat) (w : W32) :
    d.StatusBut n l (e.setWord (laneAddr p r) w) := fun q f hf hq => by
  refine Eq.trans ?_ (h q f hf hq)
  rw [Dev.get, Dev.get, Field.lane_off,
    e.word_setWord_other w (laneAddr_ne (laneStatusRegs_lt hf) hr.1 (.inr fun heq => hr.2 (heq ▸ hf)))]

theorem rewindOwn (h : d.StatusBut n l e) (p : Nat) : d.StatusBut n l (e.rewindOwn p) := by
  unfold Dev.rewindOwn
  split
  · exact h
  · exact h.rewind p

theorem tuLeave (h : d.StatusBut n l e) (p : Nat) : d.StatusBut n l (e.tuLeave p) := by
  unfold Dev.tuLeave
  extract_lets x t d1 d2
  have h1 : d.StatusBut n l d1 := (h.of_words (e.only_cutPackets p).words).setTu p _
  have hcr := (h1.setReg (r := Reg.laneTuCrrx0) (by decide) p 0).setReg (r := Reg.laneTuCrrx1) (by decide) p 0
  exact (((hcr.putLane (g := F.laneTuStatPend) (by decide) p 0).putLane (g := F.laneTuStatPcap) (by decide) p 0).putLane
    (g := F.laneTuPeffE) (by decide) p 0).rewindOwn p

/-- What follows once OOF has its value: on a LINE lane B2 is not compared. -/
theorem oofFollow (h : d.StatusBut n l e) (hl : b2Fields ⊆ l) (line left : Bool) :
    d.StatusBut n l ((if line then e.b2Pause n else e.when left (fun x => x.tuLeave n)).laneUpdate n) := by
  refine laneUpdate ?_ n
  split
  · exact h.b2Pause (fun _ hg => hl (List.mem_append_left _ hg)) (fun _ hg => hl (List.mem_append_right _ hg))
  · exact Dev.when_keeps h fun _ hx => hx.tuLeave n

end Dev.StatusBut

section
variable (d : Dev) (n : Nat)

/-- The fields of a lane's status that a change of its OOF writes, and those that follow of it. -/
def oofFields : List Field := F.laneSvStatOof :: defectFields defOof ++ b2Fields
def loftFields : List Field := F.laneSvStatLoft :: defectFields defLoft

theorem Dev.setOof_shown (v : Bool) :
    d.StatusBut n oofFields (d.setOof n v) ∧ (d.setOof n v).defect n defOof = v ∧ (d.setOof n v).on (F.laneSvStatOof.lane n) = v := by
  have hput := (Dev.StatusBut.refl n oofFields d).put (g := F.laneSvStatOof) (by decide) (by decide) (bitOf v)
  have h1 := hput.setDefect (bit := defOof) (by decide) v
  have hdef := Dev.defect_setDefect_same (d.put (F.laneSvStatOof.lane n) (bitOf v)) n v (bit := defOof) (by decide)
  have hstat : ((d.put (F.laneSvStatOof.lane n) (bitOf v)).setDefect n defOof v).on (F.laneSvStatOof.lane n) = v :=
    (((Dev.StatusBut.refl n (defectFields defOof) _).setDefect (fun _ hg => hg) v).on (f := F.laneSvStatOof) (by decide) (by decide)).trans
      (d.on_put_bitOf _ v (by decide : F.laneSvStatOof.lo < 32) rfl)
  unfold Dev.setOof
  extract_lets l d1
  split
  · next d2 _ =>
    have hfollow := ((Dev.StatusBut.refl n b2Fields d1).setLane n _ : Dev.StatusBut n b2Fields d1 d2).oofFollow (fun _ hg => hg)
      l.isLine (d.inFrame n)
    exact ⟨((h1.setLane n _ : d.StatusBut n oofFields d2).oofFollow (by decide) l.isLine (d.inFrame n)),
      (hfollow.on (f := defStatField defOof) (by decide) (by decide)).trans hdef,
      (hfollow.on (f := F.laneSvStatOof) (by decide) (by decide)).trans hstat⟩
  · exact ⟨h1.setLane n _, (Dev.on_congr (Dev.setLane_words ..) _).trans hdef, (Dev.on_congr (Dev.setLane_words ..) _).trans hstat⟩

/-- R117, R127: what shows of a lane that has come to state `st`. -/
theorem Dev.setSv_shown {st : Nat} (hst : st < 8) :
    (d.setSv n st).svState n = st ∧ (d.setSv n st).defect n defOof = (st == svHunt || st == svTrial)
      ∧ (d.setSv n st).on (F.laneSvStatOof.lane n) = (st == svHunt || st == svTrial)
      ∧ (d.setSv n st).defect n defLoft = (!(d.lane n).isLine && st != svFrame) := by
  obtain ⟨hbut, hoof, hstat⟩ := (d.put (F.laneSvStatState.lane n) st).setOof_shown n (st == svHunt || st == svTrial)
  have hstate : (d.put (F.laneSvStatState.lane n) st).get (F.laneSvStatState.lane n) = st :=
    (d.get_lane_put_same n st (by decide)).trans (Nat.mod_eq_of_lt hst)
  unfold Dev.setSv
  extract_lets line d1
  have hloft := ((Dev.StatusBut.refl n loftFields _).put (g := F.laneSvStatLoft) (by decide) (by decide) (bitOf (!line && st != svFrame))).setDefect
    (e := ((d.put (F.laneSvStatState.lane n) st).setOof n (st == svHunt || st == svTrial)).put (F.laneSvStatLoft.lane n)
      (bitOf (!line && st != svFrame))) (bit := defLoft) (by decide) (!line && st != svFrame)
  have hdef : d1.defect n defLoft = (!line && st != svFrame) := Dev.defect_setDefect_same _ n _ (by decide)
  have hafter : d1.StatusBut n [] ((d1.when (!line && d.inFrame n && st != svFrame) (fun e => e.tuLeave n)).laneUpdate n) :=
    (Dev.when_keeps (Dev.StatusBut.refl n [] d1) fun _ hx => hx.tuLeave n).laneUpdate n
  refine ⟨?_, ?_, ?_, ?_⟩
  · exact (hafter n F.laneSvStatState (by decide) (.inr (by decide))).trans
      ((hloft n F.laneSvStatState (by decide) (.inr (by decide))).trans
        ((hbut n F.laneSvStatState (by decide) (.inr (by decide))).trans hstate))
  · exact (hafter.on (f := defStatField defOof) (by decide) (by decide)).trans
      ((hloft.on (f := defStatField defOof) (by decide) (by decide)).trans hoof)
  · exact (hafter.on (f := F.laneSvStatOof) (by decide) (by decide)).trans
      ((hloft.on (f := F.laneSvStatOof) (by decide) (by decide)).trans hstat)
  · exact (hafter.on (f := defStatField defLoft) (by decide) (by decide)).trans hdef

end

end Sys2Proof.Machine

/-! The Sieve's operations on its slots (R95 to R138), and what the device makes of them. -/

namespace Sys2Proof.Machine

set_option Elab.async false -- a proof at a time, within the memory of a check

/-! Slots -/

namespace Sieve

variable {s : Sieve} {i j : Nat} {x : Slot}

theorem slot_of_ge (h : s.slots.length ≤ i) : s.slot i = {} := List.getD_eq_default _ _ h

/-- A slot that is not FREE is one of the list. -/
theorem lt_of_st (h : (s.slot i).st ≠ .free) : i < s.slots.length := by
  by_contra hge
  exact h (by rw [slot_of_ge (Nat.le_of_not_lt hge)])

theorem slot_eq_getElem (h : i < s.slots.length) : s.slot i = s.slots[i] := List.getD_eq_getElem _ _ h

theorem slot_mem (h : i < s.slots.length) : s.slot i ∈ s.slots := by
  rw [slot_eq_getElem h]
  exact List.getElem_mem h

theorem exists_slot (h : x ∈ s.slots) : ∃ k, k < s.slots.length ∧ s.slot k = x := by
  obtain ⟨k, hk, hx⟩ := List.mem_iff_getElem.mp h
  exact ⟨k, hk, (slot_eq_getElem hk).trans hx⟩

theorem slot_setSlot_same (h : i < s.slots.length) (x : Slot) : (s.setSlot i x).slot i = x := by
  rw [setSlot, slot, List.getD_eq_getElem _ _ (by simpa using h), List.getElem_set_self]

theorem slot_setSlot_other (h : j ≠ i) (x : Slot) : (s.setSlot i x).slot j = s.slot j := by
  rw [setSlot, slot, slot, List.getD_eq_getElem?_getD, List.getD_eq_getElem?_getD]
  exact congrArg (fun o : Option Slot => o.getD {}) (List.getElem?_set_ne (Ne.symm h))

/-- A slot that becomes FREE. -/
theorem slot_setSlot_free (s : Sieve) (i : Nat) : (s.setSlot i {}).slot i = {} := by
  by_cases h : i < s.slots.length
  · exact slot_setSlot_same h _
  · exact slot_of_ge (by simpa [setSlot] using h)

theorem slotsBut_setSlot (s : Sieve) (i : Nat) (x : Slot) : SlotsBut i s (s.setSlot i x) := fun _ h => slot_setSlot_other h x

theorem slot_mapSlots {f : Slot → Slot} (hf : f {} = {}) (s : Sieve) (i : Nat) : (s.mapSlots f).slot i = f (s.slot i) := by
  rw [mapSlots, slot, slot, List.getD_eq_getElem?_getD, List.getD_eq_getElem?_getD, List.getElem?_map]
  cases s.slots[i]? with
  | none => exact hf.symm
  | some y => rfl

/-- The first slot of which `p` holds. -/
theorem find_eq {p : Slot → Bool} (hi : i < s.slots.length) (hp : p (s.slot i) = true) (hbefore : ∀ j, j < i → p (s.slot j) = false) :
    s.find p = some i := by
  rw [find, List.findIdx?_eq_some_iff_getElem]
  refine ⟨hi, ?_, fun j hj => ?_⟩
  · rw [← slot_eq_getElem hi]
    exact hp
  · rw [← slot_eq_getElem (Nat.lt_trans hj hi), hbefore j hj]
    exact Bool.false_ne_true

theorem find_eq_none {p : Slot → Bool} (h : ∀ x ∈ s.slots, p x = false) : s.find p = none := by
  rw [find, List.findIdx?_eq_none_iff]
  exact h

/-- No slot is ACTIVE, or a winner, but those of the list. -/
theorem anyActive_of_slot (hi : (s.slot i).st = .active) : s.anyActive = true := by
  have hlt : i < s.slots.length := lt_of_st (by rw [hi]; decide)
  exact List.any_eq_true.mpr ⟨_, slot_mem hlt, by rw [hi]; rfl⟩

theorem count_eq_zero {p : Slot → Bool} (h : ∀ j, p (s.slot j) = false) : s.count p = 0 := by
  rw [count, List.length_eq_zero_iff, List.filter_eq_nil_iff]
  intro x hx
  obtain ⟨k, -, rfl⟩ := exists_slot hx
  rw [h k]
  exact Bool.false_ne_true

/-- One slot alone for which `p` holds. -/
theorem count_eq_one {p : Slot → Bool} (hi : i < s.slots.length) (hp : p (s.slot i) = true) (h : ∀ j, j ≠ i → p (s.slot j) = false) :
    s.count p = 1 := by
  have hget (j : Nat) (hj : j < s.slots.length) (hne : j ≠ i) : p s.slots[j] = false := by rw [← slot_eq_getElem hj, h j hne]
  have hself : p s.slots[i] = true := by rw [← slot_eq_getElem hi, hp]
  have hsplit : s.slots = s.slots.take i ++ s.slots[i] :: s.slots.drop (i + 1) := by simp
  have hbefore : (s.slots.take i).filter p = [] := by
    rw [List.filter_eq_nil_iff]
    intro x hx
    obtain ⟨k, hk, rfl⟩ := List.mem_iff_getElem.mp hx
    rw [List.length_take] at hk
    rw [List.getElem_take, hget k (by omega) (by omega)]
    exact Bool.false_ne_true
  have hafter : (s.slots.drop (i + 1)).filter p = [] := by
    rw [List.filter_eq_nil_iff]
    intro x hx
    obtain ⟨k, hk, rfl⟩ := List.mem_iff_getElem.mp hx
    rw [List.length_drop] at hk
    rw [List.getElem_drop, hget _ (by omega) (by omega)]
    exact Bool.false_ne_true
  rw [count, hsplit, List.filter_append, List.filter_cons_of_pos hself, hbefore, hafter]
  rfl

/-! Sightings (R97 to R99) -/

section
variable {bg : Bool} {pos rot need pli k : Nat}

theorem sight_new (hbg : s.anyActive = false ∨ bg = true) (hplace : ∀ x ∈ s.slots, x.st = .free ∨ x.pos ≠ pos ∨ x.rot ≠ rot)
    (hk : k < s.slots.length) (hfree : (s.slot k).st = .free) (hbefore : ∀ j, j < k → (s.slot j).st ≠ .free) :
    s.sight bg pos rot need pli = (s.setSlot k { st := .cand, pos := pos, rot := rot, need := need, pli := pli }, {}) := by
  have hany : s.slots.any (fun x => x.st != .free && x.pos == pos && x.rot == rot) = false := by
    rw [List.any_eq_false]
    intro x hx
    rcases hplace x hx with h | h | h <;> simp [h]
  have hopen : (s.anyActive && !bg) = false := by
    rcases hbg with h | h <;> simp [h]
  have hfind : s.find (fun x => x.st == .free) = some k :=
    find_eq hk (by rw [hfree]; rfl) fun j hj => beq_eq_false_iff_ne.mpr (hbefore j hj)
  rw [sight, hopen, hany, hfind]
  rfl

theorem sight_held (h : ∃ x ∈ s.slots, x.st ≠ .free ∧ x.pos = pos ∧ x.rot = rot) : s.sight bg pos rot need pli = (s, {}) := by
  obtain ⟨x, hx, hst, hpos, hrot⟩ := h
  have hany : s.slots.any (fun x => x.st != .free && x.pos == pos && x.rot == rot) = true :=
    List.any_eq_true.mpr ⟨x, hx, by simp [hst, hpos, hrot]⟩
  rw [sight, hany]
  exact ite_self _

theorem sight_alone (hactive : s.anyActive = true) (hbg : bg = false) : s.sight bg pos rot need pli = (s, {}) := by
  rw [sight, hactive, hbg]
  rfl

theorem sight_full (hbg : s.anyActive = false ∨ bg = true) (hplace : ∀ x ∈ s.slots, x.st ≠ .free ∧ (x.pos ≠ pos ∨ x.rot ≠ rot)) :
    s.sight bg pos rot need pli = (s, { full := 1 }) := by
  have hany : s.slots.any (fun x => x.st != .free && x.pos == pos && x.rot == rot) = false := by
    rw [List.any_eq_false]
    intro x hx
    rcases (hplace x hx).2 with h | h <;> simp [h]
  have hopen : (s.anyActive && !bg) = false := by
    rcases hbg with h | h <;> simp [h]
  have hfind : s.find (fun x => x.st == .free) = none := find_eq_none fun x hx => beq_eq_false_iff_ne.mpr (hplace x hx).1
  rw [sight, hopen, hany, hfind]
  rfl

/-- What a sighting reports: nothing, or that every slot is full. -/
theorem sight_out : (s.sight bg pos rot need pli).2 = {} ∨ (s.sight bg pos rot need pli).2 = { full := 1 } := by
  rw [sight]
  split
  · exact .inl rfl
  · split
    · exact .inl rfl
    · split
      · exact .inr rfl
      · exact .inl rfl

end

/-! ACTIVE (R99, R101, R109) -/

theorem slot_freeOthers_same (s : Sieve) (bg : Bool) (hi : i < s.slots.length) : (s.freeOthers bg i).slot i = s.slot i := by
  rw [freeOthers]
  split
  · rfl
  · exact slot_setSlot_same (s := { s with slots := List.replicate s.slots.length {} }) (by simpa using hi) (s.slot i)

theorem slot_freeOthers_other (h : j ≠ i) : (s.freeOthers false i).slot j = {} := by
  refine (slot_setSlot_other (s := { s with slots := List.replicate s.slots.length {} }) h (s.slot i)).trans ?_
  by_cases hj : j < s.slots.length
  · exact (slot_eq_getElem (s := { s with slots := List.replicate s.slots.length {} }) (by simpa using hj)).trans (by simp)
  · exact slot_of_ge (by simpa using hj)

theorem activate_slot (s : Sieve) (bg : Bool) (hi : i < s.slots.length) : ((s.activate bg i).1.slot i).st = .active := by
  have hset := slot_setSlot_same hi { s.slot i with st := .active, won := false, inWindow := false, waiting := false, takeover := false,
                                                    agree := 0, disagree := 0, passed := none, miss := 0 }
  rw [activate]
  dsimp only
  rw [slot_freeOthers_same _ bg (by simpa [setSlot] using hi)]
  exact congrArg Slot.st hset

end Sieve

/-! What the device makes of an operation of a lane's Sieve -/

section
variable (d : Dev) (n : Nat)

theorem Dev.only_rollIf (f : Field) (k : Nat) : Dev.Only [.words] d (if k = 0 then d else d.roll f k) := by
  split
  · exact .refl _ d
  · exact d.only_roll f k

theorem Dev.count_zero (k i c : Nat) : d.count k i c 0 = d := if_pos (.inl rfl)

/-- An operation that reports nothing changes the Sieve alone. -/
theorem Dev.applySieve_quiet (v : Sieve) : d.applySieve n (v, {}) = d.setLane n { d.lane n with sieve := v } := by
  rw [Dev.applySieve]
  simp only [if_true, Dev.count_zero]
  rfl

/-- Every slot is full: the sighting is counted. -/
theorem Dev.applySieve_full (v : Sieve) :
    d.applySieve n (v, { full := 1 }) = (d.setLane n { d.lane n with sieve := v }).roll (F.laneSvFullCount.lane n) 1 := by
  rw [Dev.applySieve]
  simp only [if_true, Dev.count_zero]
  rfl

/-- Tests that were lost, and nothing else. -/
theorem Dev.applySieve_mimics (v : Sieve) {k : Nat} (hk : k ≠ 0) :
    d.applySieve n (v, { mimics := k }) = ((d.setLane n { d.lane n with sieve := v }).roll (F.laneSvMimicCount.lane n) k).count 0 n
      (if (d.lane n).isLine then 15 else 4) k := by
  rw [Dev.applySieve]
  simp only [if_neg hk, if_true]
  rfl

/-- Slot `k` becomes ACTIVE, with nothing else reported. -/
theorem Dev.applySieve_aligned (v : Sieve) (k : Nat) :
    d.applySieve n (v, { aligned := some k }) =
      let d1 := d.setLane n { d.lane n with sieve := v }
      (d1.setTu n { d1.tu n with next := (v.slot k).phase, proposed := none, fsErr := false, tailAgain := false, fsErrFrames := 0 }).setSv n
        (if (d.lane n).isLine || (v.slot k).fsOk then svFrame else svBlock) := by
  rw [Dev.applySieve]
  simp only [if_true, Dev.count_zero]

/-- The lane hunts again, with nothing else reported but that. -/
theorem Dev.applySieve_hunts (v : Sieve) (hround : v.round = 0) :
    d.applySieve n (v, { hunts := 1, hunting := true })
      = ((d.setLane n { d.lane n with sieve := v }).roll (F.laneSvHuntCount.lane n) 1).setSv n svHunt := by
  rw [Dev.applySieve]
  simp only [if_true, Dev.count_zero, hround, if_neg Nat.one_ne_zero, Bool.false_eq_true, if_false]

/-- The pattern changes in a trial: the lane hunts. -/
theorem Dev.applySieve_hunting (v : Sieve) (hround : v.round = 0) (h : Bool) :
    d.applySieve n (v, { hunting := h }) = (d.setLane n { d.lane n with sieve := v }).when h (fun e => e.setSv n svHunt) := by
  cases h with
  | false => exact d.applySieve_quiet n v
  | true =>
    rw [Dev.applySieve]
    simp only [if_true, Dev.count_zero, hround, Bool.false_eq_true, if_false, Dev.when]

end

/-! What it makes of one of a stream's Sieve (R130, R343) -/

section
variable (d : Dev) (g : Nat)

theorem Dev.only_setGfpSieve (v : Sieve) : Dev.Only [.gfp] d (d.setGfpSieve g v) := .part .gfp (by decide) fun _ _ hp => hp d _

theorem Dev.only_markGroup : Dev.Only [.acc] d (d.markGroup g) := by
  unfold Dev.markGroup
  extract_lets on
  split
  · exact .refl _ d
  · exact (d.only_count (by decide) _ _).step (Dev.only_count _ (by decide) _ _)

theorem Dev.only_groupBit (f : Field) (v : Bool) : Dev.Only [.words, .acc] d (d.groupBit g f v) := by
  unfold Dev.groupBit
  split
  · exact .refl _ d
  · exact (((d.only_put _ _).mono (by decide)).step (Dev.only_raise _ _)).step (Dev.only_markGroup _ g)

theorem Dev.only_applyGfp (r : Sieve × SieveOut) : Dev.Only [.words, .acc] (d.setGfpSieve g r.1) (d.applyGfp g r) := by
  unfold Dev.applyGfp
  extract_lets o st states d1 d2
  have h1 : Dev.Only [.words, .acc] (d.setGfpSieve g r.1) d1 := ((Dev.only_put _ _ _).mono (by decide)).trans
    (.whenStep _ fun e => ((e.only_roll _ _).mono (by decide)).step (Dev.only_count _ (by decide) _ _))
  change Dev.Only _ _ (match o.aligned with
    | some _ => _
    | none => _)
  split
  · exact (h1.step (Dev.only_put _ _ _)).step (Dev.only_groupBit _ g _ _)
  · split
    · exact h1.step (Dev.only_put _ _ _)
    · split
      · exact h1.step (Dev.only_put _ _ _)
      · exact h1

/-- The stream's Sieve is what the operation leaves, and the other streams have theirs. -/
theorem Dev.gfpSieve_applyGfp (r : Sieve × SieveOut) (q : Nat) : (d.applyGfp g r).gfpSieve q = if q = g then r.1 else d.gfpSieve q := by
  rw [Dev.gfpSieve, (d.only_applyGfp g r).gfp, ← Dev.gfpSieve, Dev.gfpSieve_setGfpSieve]

end

end Sys2Proof.Machine

/-! Sightings and expected marks (R95 to R128). -/

namespace Sys2Proof.Machine

set_option Elab.async false -- a proof at a time, within the memory of a check

/-! An expected mark is judged (R112, R119) -/

namespace Sieve

variable {s : Sieve} {i : Nat} (bg line : Bool) {ok : Bool}

theorem mark_free (h : (s.slot i).st = .free) : s.mark bg line i ok = (s, {}) := by simp only [mark, h]

theorem mark_barred (h : (s.slot i).st = .barred) :
    s.mark bg line i ok = (s.setSlot i { s.slot i with barred := (s.slot i).barred + 1 }, {}) := by simp only [mark, h]

theorem mark_cand_missed (h : (s.slot i).st = .cand) (hfirst : s.first ≠ some i) :
    s.mark bg line i false = (s.setSlot i {}, {}) := by
  simp only [mark, h, if_neg hfirst]
  rfl

theorem mark_cand_counted (h : (s.slot i).st = .cand) (hfirst : s.first ≠ some i) (hwin : (s.slot i).inWindow = false)
    (hneed : (s.slot i).run + 1 < (s.slot i).need) :
    s.mark bg line i true = (s.setSlot i { s.slot i with run := (s.slot i).run + 1 }, {}) := by
  simp only [mark, h, if_neg hfirst, hwin, if_neg (Nat.not_le.mpr hneed)]
  rfl

theorem mark_cand_first (h : (s.slot i).st = .cand) (hfirst : s.first = some i) :
    s.mark bg line i ok = s.closeWindow bg i ok := by simp only [mark, h, if_pos hfirst]

theorem mark_trial_ok (h : (s.slot i).st = .trial) (hwon : (s.slot i).won = false) :
    s.mark bg line i true = (s.setSlot i { s.slot i with run := (s.slot i).run + 1, miss := 0 }, {}) := by
  simp only [mark, h, hwon]
  rfl

/-- What an ALT becomes at its mark. -/
def altMarked (x : Slot) (ok : Bool) : Slot :=
  if ok = true then { x with run := x.run + 1, miss := 0 } else if x.miss = 0 then { x with run := 0, miss := 1 } else {}

theorem mark_alt (h : (s.slot i).st = .alt) : s.mark bg line i ok = (s.setSlot i (altMarked (s.slot i) ok), {}) := by
  simp only [mark, h, altMarked]
  cases ok with
  | true => rfl
  | false =>
    by_cases hmiss : (s.slot i).miss = 0
    · simp only [hmiss]
      rfl
    · simp only [if_neg hmiss, if_pos (show 2 ≤ (s.slot i).miss + 1 by omega)]
      rfl

/-- The ACTIVE of a LINE lane: its errored marks in a row are counted. -/
theorem mark_active_line (h : (s.slot i).st = .active) (htake : (s.slot i).takeover = false) :
    (s.mark bg true i ok).1.errors = (if ok = true then 0 else s.errors + 1) ∧ SlotsBut i s (s.mark bg true i ok).1 := by
  simp only [mark, h, htake]
  cases ok with
  | true => exact ⟨rfl, slotsBut_setSlot s i _⟩
  | false => exact ⟨rfl, slotsBut_setSlot s i _⟩

end Sieve

/-! The Sieve of a lane after an operation -/

theorem Dev.applySieve_sieveKept (d : Dev) (n : Nat) (r : Sieve × SieveOut) :
    (d.setLane n { d.lane n with sieve := r.1 }).SieveKept (d.applySieve n r) := by
  unfold Dev.applySieve
  extract_lets l o c d1 d2 d3
  have hroll (f : Field) (k : Nat) (e : Dev) : Dev.Only [.words] e (c f k e) := e.only_rollIf _ _
  have hd2 : Dev.Only [.words] d1 d2 :=
    ((((hroll _ _ _).step (hroll _ _ _)).step (hroll _ _ _)).step (hroll _ _ _)).step (hroll _ _ _)
  have hd3 : Dev.Only [.acc] d2 d3 := d2.only_count (by split <;> decide) _ _
  have h3 : d1.SieveKept d3 := ((Dev.SieveKept.refl d1).of_only hd2).of_only hd3
  split
  · exact (h3.setTu n _).setSv n _
  · split
    · exact h3.setSv n _
    · split
      · exact h3.setSv n _
      · exact h3

theorem Dev.sieve_applySieve (d : Dev) (n : Nat) (r : Sieve × SieveOut) : ((d.applySieve n r).lane n).sieve = r.1 :=
  ((d.applySieve_sieveKept n r).sieve n).trans (by rw [Dev.lane_setLane_same])

/-! Sightings -/

theorem exec_sighting_lane (n : Lane) (pos : Nat) (rot : Fin 8) (bytes : List Byte) (s : State) :
    exec (.sighting (.lane n) pos ⟨rot, bytes⟩) s = .next { s with dev := (s.dev.when
      (positionOk (s.dev.lane n) pos && (s.dev.lane n).isMark false bytes && s.dev.hears n bytes) (fun d => d.applySieve n
        ((s.dev.lane n).sieve.sight (s.dev.lane n).sieve.bg pos rot (if (s.dev.lane n).isLine then 2 else (s.dev.lane n).sieve.delta) 0))) } :=
  rfl

theorem exec_sighting_gfp (g : GroupId) (pos : Nat) (rot : Fin 8) (bytes : List Byte) (s : State) :
    exec (.sighting (.gfp g) pos ⟨rot, bytes⟩) s = .next { s with dev := (s.dev.when
      (s.dev.streamRuns g && pairOk (gfpCore bytes)) (fun d => d.applyGfp g ((s.dev.gfpSieve g).sight (s.dev.gfpSieve g).gfpBg pos 0
        (s.dev.gfpSieve g).gfpDelta (numOf ((gfpCore bytes).take 2))))) } := rfl

theorem State.when_false (s : State) {c : Bool} (h : c = false) (g : Dev → Dev) : ({ s with dev := s.dev.when c g } : State) = s := by
  rw [h]
  rfl

theorem State.when_true (s : State) {c : Bool} (h : c = true) (g : Dev → Dev) :
    ({ s with dev := s.dev.when c g } : State) = { s with dev := g s.dev } := by
  rw [h]
  rfl

/-- The words that a sighting on a lane changes. -/
theorem Dev.wordsBut_applySieve_sight (d : Dev) (n : Nat) (v : Sieve) (bg : Bool) (pos rot need pli : Nat) :
    Dev.WordsBut [laneAddr n Reg.laneSvFull] d (d.applySieve n (v.sight bg pos rot need pli)) := by
  have hset (w : Sieve) : Dev.WordsBut [laneAddr n Reg.laneSvFull] d (d.setLane n { d.lane n with sieve := w }) :=
    (Dev.WordsBut.refl _ d).of_words (Dev.setLane_words ..)
  rcases hsight : v.sight bg pos rot need pli with ⟨w, o⟩
  have hout := v.sight_out (bg := bg) (pos := pos) (rot := rot) (need := need) (pli := pli)
  rw [hsight] at hout
  rcases hout with rfl | rfl
  · rw [Dev.applySieve_quiet]
    exact hset w
  · rw [Dev.applySieve_full]
    exact (hset w).roll (f := F.laneSvFullCount.lane n) List.mem_cons_self 1

theorem sighting_lane (n : Lane) (pos : Nat) (rot : Fin 8) (bytes : List Byte) (s : State) :
    let i : SieveId := .lane n
    let v := s.dev.sieveOf i
    (positionOk (s.dev.lane n) pos && (s.dev.lane n).isMark false bytes && s.dev.hears n bytes) = true →
      ∃ t, exec (.sighting i pos ⟨rot, bytes⟩) s = .next t ∧ t.mem = s.mem ∧ t.flash = s.flash
        ∧ (∀ k, (v.anyActive = false ∨ s.dev.sieveBg i = true) → (∀ x ∈ v.slots, x.st = .free ∨ x.pos ≠ pos ∨ x.rot ≠ rot.val) →
              k < v.slots.length → (v.slot k).st = .free → (∀ j, j < k → (v.slot j).st ≠ .free) →
            (t.dev.sieveOf i).slot k = { st := .cand, pos := pos, rot := rot.val, need := s.dev.sieveNeed i, pli := 0 }
              ∧ Sieve.SlotsBut k v (t.dev.sieveOf i))
        ∧ ((∃ x ∈ v.slots, x.st ≠ .free ∧ x.pos = pos ∧ x.rot = rot.val) → t.dev.sieveOf i = v)
        ∧ (v.anyActive = true → s.dev.sieveBg i = false → t.dev.sieveOf i = v)
        ∧ (∀ n', i = .lane n' →
            Dev.WordsBut [laneAddr n' Reg.laneSvFull] s.dev t.dev
              ∧ ((v.anyActive = false ∨ s.dev.sieveBg i = true) → (∀ x ∈ v.slots, x.st ≠ .free ∧ (x.pos ≠ pos ∨ x.rot ≠ rot.val)) →
                  t.dev.get (F.laneSvFullCount.lane n') = (s.dev.get (F.laneSvFullCount.lane n') + 1) % 2 ^ 32
                    ∧ t.dev.sieveOf i = v)) := by
  intro i v hseen
  have hexec := exec_sighting_lane n pos rot bytes s
  rw [State.when_true s hseen] at hexec
  have hsieve := s.dev.sieve_applySieve n (v.sight (s.dev.sieveBg i) pos rot (s.dev.sieveNeed i) 0)
  refine ⟨_, hexec, rfl, rfl, fun k hbg hplace hk hfree hbefore => ?_, fun hheld => ?_, fun hactive hbg => ?_, ?_⟩
  · have hnew := hsieve.trans (congrArg Prod.fst (Sieve.sight_new hbg hplace hk hfree hbefore))
    exact ⟨(congrArg (·.slot k) hnew).trans (Sieve.slot_setSlot_same hk _),
      fun j hj => (congrArg (·.slot j) hnew).trans (Sieve.slotsBut_setSlot v k _ j hj)⟩
  · exact hsieve.trans (congrArg Prod.fst (Sieve.sight_held hheld))
  · exact hsieve.trans (congrArg Prod.fst (Sieve.sight_alone hactive hbg))
  · intro n' hn
    obtain rfl : n = n' := SieveId.lane.inj hn
    refine ⟨s.dev.wordsBut_applySieve_sight n v _ pos rot _ 0, fun hbg hplace => ?_⟩
    have happly := congrArg (s.dev.applySieve n) (Sieve.sight_full (need := s.dev.sieveNeed i) (pli := 0) hbg hplace)
    have hkept := hsieve.trans (congrArg Prod.fst (Sieve.sight_full (need := s.dev.sieveNeed i) (pli := 0) hbg hplace))
    rw [Dev.applySieve_full] at happly
    refine ⟨(congrArg (·.get (F.laneSvFullCount.lane n)) happly).trans ?_, hkept⟩
    rw [Dev.get_roll_same (f := F.laneSvFullCount.lane n) _ (show F.laneSvFullCount.lo + F.laneSvFullCount.len ≤ 32 by decide),
      Dev.get_setLane]
    rfl

theorem sighting_gfp (g : GroupId) (pos : Nat) (rot : Fin 8) (bytes : List Byte) (s : State) :
    let i : SieveId := .gfp g
    let v := s.dev.sieveOf i
    (s.dev.streamRuns g && pairOk (gfpCore bytes)) = true →
      ∃ t, exec (.sighting i pos ⟨rot, bytes⟩) s = .next t ∧ t.mem = s.mem ∧ t.flash = s.flash
        ∧ (∀ k, (v.anyActive = false ∨ s.dev.sieveBg i = true) → (∀ x ∈ v.slots, x.st = .free ∨ x.pos ≠ pos ∨ x.rot ≠ 0) →
              k < v.slots.length → (v.slot k).st = .free → (∀ j, j < k → (v.slot j).st ≠ .free) →
            (t.dev.sieveOf i).slot k
                = { st := .cand, pos := pos, rot := 0, need := s.dev.sieveNeed i, pli := numOf ((gfpCore bytes).take 2) }
              ∧ Sieve.SlotsBut k v (t.dev.sieveOf i))
        ∧ ((∃ x ∈ v.slots, x.st ≠ .free ∧ x.pos = pos ∧ x.rot = 0) → t.dev.sieveOf i = v)
        ∧ (v.anyActive = true → s.dev.sieveBg i = false → t.dev.sieveOf i = v) := by
  intro i v hseen
  have hexec := exec_sighting_gfp g pos rot bytes s
  rw [State.when_true s hseen] at hexec
  have hsieve := (s.dev.gfpSieve_applyGfp g (v.sight (s.dev.sieveBg i) pos 0 (s.dev.sieveNeed i)
    (numOf ((gfpCore bytes).take 2))) g).trans (if_pos rfl)
  refine ⟨_, hexec, rfl, rfl, fun k hbg hplace hk hfree hbefore => ?_, fun hheld => ?_, fun hactive hbg => ?_⟩
  · have hnew := hsieve.trans (congrArg Prod.fst (Sieve.sight_new hbg hplace hk hfree hbefore))
    exact ⟨(congrArg (·.slot k) hnew).trans (Sieve.slot_setSlot_same hk _),
      fun j hj => (congrArg (·.slot j) hnew).trans (Sieve.slotsBut_setSlot v k _ j hj)⟩
  · exact hsieve.trans (congrArg Prod.fst (Sieve.sight_held hheld))
  · exact hsieve.trans (congrArg Prod.fst (Sieve.sight_alone hactive hbg))

/-! Expected marks -/

theorem exec_expectedMark_lane (n : Lane) (k : Fin 8) (pos : Nat) (bytes : List Byte) (s : State) :
    exec (.expectedMark (.lane n) k pos bytes) s = .next { s with dev := (s.dev.when
      (s.dev.hears n bytes && ((s.dev.lane n).sieve.slot k).pos == pos) (fun d => d.applySieve n
        ((s.dev.lane n).sieve.mark (s.dev.lane n).sieve.bg (s.dev.lane n).isLine k
          ((s.dev.lane n).isMark ((s.dev.lane n).sieve.corr && ((s.dev.lane n).sieve.slot k).leads) bytes)))) } := rfl

/-- Settles O18: every clause is one case of `Sieve.sight` or of `Sieve.mark`, and the device takes over the Sieve that it answers. -/
theorem sightingsAndMarks : Obligations.SightingsAndMarks := by
  refine ⟨fun i pos rot bytes s => ?_, fun n k bytes s hhear => ?_⟩
  · cases i with
    | lane n =>
      refine ⟨fun hseen => sighting_lane n pos rot bytes s hseen, fun hseen => ?_⟩
      rw [exec_sighting_lane, State.when_false s hseen]
    | gfp g =>
      refine ⟨fun hseen => ?_, fun hseen => ?_⟩
      · obtain ⟨t, hexec, hmem, hflash, hnew, hheld, halone⟩ := sighting_gfp g pos rot bytes s hseen
        exact ⟨t, hexec, hmem, hflash, hnew, hheld, halone, fun _ hn => nomatch hn⟩
      · rw [exec_sighting_gfp, State.when_false s hseen]
  · intro v x ok
    refine ⟨fun pos hpos => ?_, ?_⟩
    · have hne : (x.pos == pos) = false := beq_eq_false_iff_ne.mpr (Ne.symm hpos)
      have hcond : (s.dev.hears n bytes && ((s.dev.lane n).sieve.slot k).pos == pos) = false := by rw [hhear, Bool.true_and]; exact hne
      rw [exec_expectedMark_lane, State.when_false s hcond]
    · have hexec := exec_expectedMark_lane n k x.pos bytes s
      have hcond : (s.dev.hears n bytes && ((s.dev.lane n).sieve.slot k).pos == x.pos) = true := by
        rw [hhear, Bool.true_and]
        exact beq_self_eq_true _
      rw [State.when_true s hcond] at hexec
      have hsieve := s.dev.sieve_applySieve n (v.mark v.bg (s.dev.lane n).isLine k ok)
      refine ⟨_, hexec, rfl, rfl, ?_⟩
      intro w
      have hw : w = (v.mark v.bg (s.dev.lane n).isLine k ok).1 := hsieve
      have hset {y : Slot} (hst : x.st ≠ .free) (h : v.mark v.bg (s.dev.lane n).isLine k ok = (v.setSlot k y, {})) :
          w.slot k = y ∧ Sieve.SlotsBut k v w := by
        rw [h] at hw
        rw [hw]
        exact ⟨Sieve.slot_setSlot_same (Sieve.lt_of_st hst) y, Sieve.slotsBut_setSlot v k y⟩
      refine ⟨fun hst hfirst hok => ?_, fun hst hfirst hwin hok hneed => ?_, fun hst hwon hok => ?_, fun hst => ?_, fun hst htake hline => ?_,
        fun hst => ?_, fun hst => ?_⟩
      · exact hset (by rw [hst]; decide) (by rw [hok]; exact Sieve.mark_cand_missed _ _ hst hfirst)
      · exact hset (by rw [hst]; decide) (by rw [hok]; exact Sieve.mark_cand_counted _ _ hst hfirst hwin hneed)
      · exact hset (by rw [hst]; decide) (by rw [hok]; exact Sieve.mark_trial_ok _ _ hst hwon)
      · exact hset (by rw [hst]; decide) (Sieve.mark_alt _ _ hst)
      · rw [hline] at hw
        rw [hw]
        exact Sieve.mark_active_line _ hst htake
      · exact hset (by rw [hst]; decide) (Sieve.mark_barred _ _ hst)
      · rw [hw, Sieve.mark_free _ _ hst]

end Sys2Proof.Machine

/-! A new Sieve configuration (R99, R111, R139). -/

namespace Sys2Proof.Machine

set_option Elab.async false -- a proof at a time, within the memory of a check

namespace Sieve

variable {s : Sieve} {k : Nat} {w : W32}

theorem bgOff_cfg (s : Sieve) : s.bgOff.cfg = s.cfg := by
  rw [bgOff]
  split <;> rfl

/-- With background hunting off a slot is as it was, or FREE. -/
theorem slot_bgOff (s : Sieve) (k : Nat) : s.bgOff.slot k = s.slot k ∨ s.bgOff.slot k = {} := by
  rw [bgOff]
  split
  · next i hfind =>
    by_cases hk : k = i
    · subst hk
      obtain ⟨hlt, -⟩ := List.findIdx?_eq_some_iff_getElem.mp hfind
      exact .inl (slot_freeOthers_same s false hlt)
    · exact .inr (slot_freeOthers_other hk)
  · exact .inl rfl

/-- With one slot alone ACTIVE or a winner, background hunting off frees the others. -/
theorem bgOff_of_active (h : (s.slot k).st = .active) (hothers : ∀ j, j ≠ k → (s.slot j).st ≠ .active ∧ (s.slot j).won = false) :
    s.bgOff = s.freeOthers false k := by
  have hfind : s.find (fun x => x.st == .active || x.won) = some k := by
    refine find_eq (lt_of_st (by rw [h]; decide)) (by rw [h]; rfl) fun j hj => ?_
    obtain ⟨hst, hwon⟩ := hothers j (Nat.ne_of_lt hj)
    rw [hwon, Bool.or_false]
    exact beq_eq_false_iff_ne.mpr hst
  rw [bgOff, hfind]

/-- The Sieve with the new configuration, before the pattern is looked at. -/
def withCfg (s : Sieve) (w : W32) : Sieve := if getF w 1 1 = 0 then ({ s with cfg := w } : Sieve).bgOff else { s with cfg := w }

theorem withCfg_cfg (s : Sieve) (w : W32) : (s.withCfg w).cfg = w := by
  rw [withCfg]
  split
  · exact bgOff_cfg _
  · rfl

theorem slot_withCfg (s : Sieve) (w : W32) (k : Nat) : (s.withCfg w).slot k = s.slot k ∨ (s.withCfg w).slot k = {} := by
  rw [withCfg]
  split
  · exact slot_bgOff _ k
  · exact .inl rfl

theorem slot_withCfg_active (w : W32) (h : (s.slot k).st = .active)
    (hothers : ∀ j, j ≠ k → (s.slot j).st ≠ .active ∧ (s.slot j).won = false) : (s.withCfg w).slot k = s.slot k := by
  rw [withCfg]
  split
  · rw [bgOff_of_active (s := { s with cfg := w }) h hothers]
    exact slot_freeOthers_same { s with cfg := w } false (lt_of_st (s := s) (by rw [h]; decide))
  · rfl

theorem slot_withCfg_bgOff (hw : getF w 1 1 = 0) (h : (s.slot k).st = .active)
    (hothers : ∀ j, j ≠ k → (s.slot j).st ≠ .active ∧ (s.slot j).won = false) {j : Nat} (hj : j ≠ k) : (s.withCfg w).slot j = {} := by
  rw [withCfg, if_pos hw, bgOff_of_active (s := { s with cfg := w }) h hothers]
  exact slot_freeOthers_other hj

/-- Where a slot goes when the other pattern is looked for. -/
def patMove (len : Nat) (w : W32) (x : Slot) : Slot :=
  if x.st = .active ∨ x.won then { x with pos := if getF w 0 1 = 0 then (x.pos + 1) % len else (x.pos + len - 1) % len } else {}

/-- The Sieve that looks for the other pattern. -/
def withPat (s : Sieve) (len : Nat) (w : W32) : Sieve := { (s.withCfg w).mapSlots (patMove len w) with first := none, round := 0 }

theorem newCfg_same {line : Bool} (len : Nat) (h : line = false ∨ getF w 0 1 = s.patLen) : s.newCfg line len w = (s.withCfg w, {}) :=
  if_pos (h.elim (fun h => by rw [h]; rfl) fun h => by rw [h]; simp)

theorem newCfg_pat (len : Nat) (h : getF w 0 1 ≠ s.patLen) :
    s.newCfg true len w = (s.withPat len w, { hunting := (s.withCfg w).round != 0 }) := if_neg (by simp [h])

theorem slot_withPat (s : Sieve) (len : Nat) (w : W32) (k : Nat) : (s.withPat len w).slot k = patMove len w ((s.withCfg w).slot k) :=
  slot_mapSlots (f := patMove len w) (if_neg (by decide)) (s.withCfg w) k

/-- A slot that is neither ACTIVE nor a winner is FREE afterwards. -/
theorem slot_withPat_free (len : Nat) (w : W32) (hst : (s.slot k).st ≠ .active) (hwon : (s.slot k).won = false) :
    (s.withPat len w).slot k = {} := by
  rw [slot_withPat]
  rcases s.slot_withCfg w k with h | h
  · rw [h]
    exact if_neg (by simp [hst, hwon])
  · rw [h]
    exact if_neg (by decide)

end Sieve

theorem lineFrameLen_pos (rate : Nat) : 0 < lineFrameLen rate := by
  unfold lineFrameLen stmN
  split <;> decide

/-- The other pattern's place, as the statement says it. -/
theorem patPlace {p v l : Nat} {w : W32} (hlen : 0 < l) (hv : v < 2) (hne : getF w 0 1 ≠ v) :
    (if getF w 0 1 = 0 then (p + 1) % l else (p + l - 1) % l) = (p + (if v = 1 then 1 else l - 1)) % l := by
  have hw := getF_lt w 0 1
  by_cases h : getF w 0 1 = 0
  · rw [if_pos h, if_pos (by omega)]
  · rw [if_neg h, if_neg (by omega), Nat.add_sub_assoc hlen]

theorem exec_svCfgApply_lane (n : Lane) (s : State) :
    exec (.svCfgApply (.lane n)) s = .next { s with dev := (s.dev.applySieve n
      ((s.dev.lane n).sieve.newCfg (s.dev.lane n).isLine (lineFrameLen (s.dev.lane n).rate) (s.dev.word (laneAddr n Reg.laneSvCfg)))) } := rfl

theorem exec_svCfgApply_gfp (g : GroupId) (s : State) :
    exec (.svCfgApply (.gfp g)) s = .next { s with dev := (s.dev.applyGfp g
      (if getF (s.dev.word Reg.flwSvCfg) 9 1 = 0 then ({ s.dev.gfpSieve g with cfg := s.dev.word Reg.flwSvCfg } : Sieve).bgOff
        else { s.dev.gfpSieve g with cfg := s.dev.word Reg.flwSvCfg }, {})) } := rfl

/-- What the device has after a change of pattern: the Sieve that it gives, and the other lanes as they were. -/
theorem Dev.otherLanes_applySieve_hunting (d : Dev) (n : Nat) (v : Sieve) (hround : v.round = 0) (b : Bool) (hline : (d.lane n).isLine = true) :
    d.OtherLanes n (d.applySieve n (v, { hunting := b })) := by
  rw [d.applySieve_hunting n v hround b]
  exact Dev.when_of (P := d.OtherLanes n) b ((Dev.OtherLanes.refl n d).setLane _)
    (((Dev.OtherLanes.refl n d).setLane _).setSv _ ((congrArg LaneSt.isLine (Dev.lane_setLane_same ..)).trans hline))

/-- Settles O21, by the two ways a new configuration goes: the same pattern changes the Sieve alone, another one makes the lane hunt. -/
theorem sieveConfiguration : Obligations.SieveConfiguration := by
  intro n g s
  refine ⟨?_, ?_⟩
  · rw [exec_svCfgApply_gfp]
    refine ⟨_, rfl, ?_, fun q hq => (s.dev.gfpSieve_applyGfp g _ q).trans (if_neg hq), rfl, rfl⟩
    refine (congrArg Sieve.cfg ((s.dev.gfpSieve_applyGfp g _ g).trans (if_pos rfl))).trans ?_
    split
    · exact Sieve.bgOff_cfg _
    · rfl
  · generalize hw : s.dev.word (laneAddr n Reg.laneSvCfg) = w
    rw [exec_svCfgApply_lane, hw]
    by_cases hsame : (s.dev.lane n).isLine = false ∨ getF w 0 1 = (s.dev.lane n).sieve.patLen
    · rw [Sieve.newCfg_same _ hsame, Dev.applySieve_quiet]
      have hsieve := congrArg LaneSt.sieve (Dev.lane_setLane_same s.dev n { s.dev.lane n with sieve := (s.dev.lane n).sieve.withCfg w })
      refine ⟨_, rfl, (congrArg Sieve.cfg hsieve).trans (Sieve.withCfg_cfg _ w), fun q hq => (Dev.lane_setLane ..).trans (if_neg hq), rfl, rfl,
        fun _ => rfl, fun k hline hne => ?_, fun k _ hbg hst hothers => ?_⟩
      · exact absurd (hsame.resolve_left (by simp [hline])) hne
      · exact ⟨(congrArg (·.slot k) hsieve).trans (Sieve.slot_withCfg_active w hst hothers),
          fun j hj => (congrArg (·.slot j) hsieve).trans (Sieve.slot_withCfg_bgOff hbg hst hothers hj)⟩
    · rw [not_or, Bool.not_eq_false] at hsame
      obtain ⟨hline, hpat⟩ := hsame
      rw [hline, Sieve.newCfg_pat _ hpat]
      have hsieve := s.dev.sieve_applySieve n ((s.dev.lane n).sieve.withPat (lineFrameLen (s.dev.lane n).rate) w,
        { hunting := ((s.dev.lane n).sieve.withCfg w).round != 0 })
      refine ⟨_, rfl, (congrArg Sieve.cfg hsieve).trans (Sieve.withCfg_cfg _ w), s.dev.otherLanes_applySieve_hunting n _ rfl _ hline, rfl, rfl,
        fun h => ?_, fun k _ _ => ⟨fun hst hwon => ?_, fun hst hothers => ?_⟩, fun k hnot => ?_⟩
      · exact absurd h (not_or.mpr ⟨Bool.false_ne_true.symm, hpat⟩)
      · exact (congrArg (·.slot k) hsieve).trans (Sieve.slot_withPat_free _ w hst hwon)
      · have hslot := (congrArg (·.slot k) hsieve).trans (Sieve.slot_withPat _ _ w k)
        rw [Sieve.slot_withCfg_active w hst hothers, Sieve.patMove, if_pos (.inl hst)] at hslot
        exact ⟨(congrArg Slot.st hslot).trans hst,
          (congrArg Slot.pos hslot).trans (patPlace (lineFrameLen_pos _) (getF_lt _ 0 1) hpat)⟩
      · exact absurd hnot Bool.false_ne_true.symm

end Sys2Proof.Machine

/-! The decision of an alignment and the tests of a trial (R95, R101 to R105, R114, R124). -/

namespace Sys2Proof.Machine

set_option Elab.async false -- a proof at a time, within the memory of a check

/-! A frame equation for the words, the lanes and the counters -/

theorem Dev.Only.eq_words_lanes_acc {d e : Dev} (h : Dev.Only [.words, .lanes, .acc] d e) :
    e = { d with words := e.words, lanes := e.lanes, acc := e.acc } := by
  refine h Dev (fun x => { x with words := e.words, lanes := e.lanes, acc := e.acc }) fun y hy => ?_
  fin_cases hy <;> exact fun _ _ => rfl

namespace Sieve

variable {s : Sieve} {k : Nat} (bg : Bool)

/-- The window closes over one candidate at a correct mark: it is ACTIVE. -/
theorem closeWindow_one (h : s.count (fun x => x.inWindow) = 1) (hk : k < s.slots.length) :
    (s.closeWindow bg k true).2 = { aligned := some k } ∧ ((s.closeWindow bg k true).1.slot k).st = .active := by
  rw [closeWindow, if_pos (Nat.le_of_eq h), if_pos rfl]
  exact ⟨rfl, activate_slot _ bg (by simpa [setSlot] using hk)⟩

/-- What the end of the tests makes of a slot in a trial beside an ACTIVE. -/
def settledSlot (x : Slot) : Slot :=
  if x.member && x.passed == some true then { x with st := .alt, agree := 0, disagree := 0, passed := none }
  else if x.member && x.passed == some false then x.bar
  else x

theorem settle_beside (hround : s.round = 0) :
    s.settle bg = (s.mapSlots settledSlot, { mimics := s.count (fun x => x.member && x.passed == some false) }) :=
  if_neg (not_not_intro hround)

theorem settledSlot_of_not_trial {x : Slot} (h : x.st ≠ .trial) : settledSlot x = x := by
  have hmember : x.member = false := by simp [Slot.member, h]
  rw [settledSlot, hmember]
  rfl

/-- One slot alone is tested beside an ACTIVE, and its test is decided: `y` is what it becomes. -/
theorem settle_one {y : Slot} {p : Bool} (hround : s.round = 0) (hk : k < s.slots.length) (hother : ∀ j, j ≠ k → (s.slot j).st ≠ .trial)
    (hst : y.st = .trial) (hwon : y.won = false) (hp : y.passed = some p) :
    ∃ v, (s.setSlot k y).settle bg = (v, { mimics := bitOf !p }) ∧ v.slot k = settledSlot y ∧ SlotsBut k s v := by
  have hslot (j : Nat) (hj : j ≠ k) : (s.setSlot k y).slot j = s.slot j := slot_setSlot_other hj y
  have hmember : y.member = true := by rw [Slot.member, hst, hwon]; rfl
  have hnot (j : Nat) (hj : j ≠ k) : ((s.setSlot k y).slot j).member = false := by
    rw [hslot j hj]
    simp [Slot.member, hother j hj]
  have hcount : (s.setSlot k y).count (fun x => x.member && x.passed == some false) = bitOf !p := by
    cases p with
    | true =>
      refine count_eq_zero fun j => ?_
      by_cases hj : j = k
      · rw [hj, slot_setSlot_same hk, hp, hmember]
        rfl
      · rw [hnot j hj]
        rfl
    | false =>
      refine count_eq_one (i := k) (by simpa [setSlot] using hk) ?_ fun j hj => ?_
      · rw [slot_setSlot_same hk, hp, hmember]
        rfl
      · rw [hnot j hj]
        rfl
  have hfree : settledSlot {} = {} := settledSlot_of_not_trial (by decide)
  have hbeside := settle_beside (s := s.setSlot k y) bg hround
  rw [hcount] at hbeside
  refine ⟨_, hbeside, ?_, fun j hj => ?_⟩
  · rw [slot_mapSlots hfree, slot_setSlot_same hk]
  · rw [slot_mapSlots hfree, hslot j hj, settledSlot_of_not_trial (hother j hj)]

/-- A test that decides nothing yet is open. -/
theorem open_trial (hst : (s.slot k).st = .trial) (hwon : (s.slot k).won = false) (hpassed : (s.slot k).passed = none) :
    ((s.slot k).member && (s.slot k).passed == none) = true := by
  rw [Slot.member, hst, hwon, hpassed]
  rfl

theorem settledSlot_lost {y : Slot} (hst : y.st = .trial) (hwon : y.won = false) (hp : y.passed = some false) : (settledSlot y).st = .barred := by
  rw [settledSlot, Slot.member, hst, hwon, hp]
  rfl

section
variable (hst : (s.slot k).st = .trial) (hwon : (s.slot k).won = false) (hpassed : (s.slot k).passed = none) (hround : s.round = 0)
  (hother : ∀ j, j ≠ k → (s.slot j).st ≠ .trial)
include hst hwon hpassed hround hother

theorem compare_passes {losses : Nat} (hagree : (s.slot k).agree = 1) :
    ∃ v, s.compare bg k true 2 losses = (v, {}) ∧ (v.slot k).st = .alt ∧ SlotsBut k s v := by
  obtain ⟨v, hsettle, hslot, hbut⟩ := settle_one bg hround (lt_of_st (by rw [hst]; decide)) hother
    (y := { s.slot k with agree := (s.slot k).agree + 1, passed := some true }) hst hwon rfl
  refine ⟨v, ?_, ?_, hbut⟩
  · rw [compare]
    simp only [open_trial hst hwon hpassed, if_true, hagree]
    rw [hagree] at hsettle
    exact hsettle
  · rw [hslot, settledSlot, Slot.member]
    simp only [hst, hwon]
    rfl

theorem compare_fails (hdisagree : (s.slot k).disagree = 1) (hagree : (s.slot k).agree < 2) :
    ∃ v, s.compare bg k false 2 2 = (v, { mimics := 1 }) ∧ (v.slot k).st = .barred ∧ SlotsBut k s v := by
  obtain ⟨v, hsettle, hslot, hbut⟩ := settle_one bg hround (lt_of_st (by rw [hst]; decide)) hother
    (y := { s.slot k with disagree := (s.slot k).disagree + 1, passed := some false }) hst hwon rfl
  refine ⟨v, ?_, (congrArg Slot.st hslot).trans ?_, hbut⟩
  · rw [compare]
    simp only [open_trial hst hwon hpassed, if_true, Bool.false_eq_true, if_false, if_neg (Nat.not_le.mpr hagree), hdisagree]
    rw [hdisagree] at hsettle
    exact hsettle
  · exact settledSlot_lost hst hwon rfl

theorem judge_fails : ∃ v, s.judge bg k false = (v, { mimics := 1 }) ∧ (v.slot k).st = .barred ∧ SlotsBut k s v := by
  obtain ⟨v, hsettle, hslot, hbut⟩ := settle_one bg hround (lt_of_st (by rw [hst]; decide)) hother
    (y := { s.slot k with passed := some false }) hst hwon rfl
  refine ⟨v, ?_, (congrArg Slot.st hslot).trans ?_, hbut⟩
  · rw [judge]
    simp only [open_trial hst hwon hpassed, if_true]
    exact hsettle
  · exact settledSlot_lost hst hwon rfl

end

theorem barringEnd_slot (hst : (s.slot k).st = .barred) (h : 8000 ≤ (s.slot k).barred) : s.barringEnd k = s.setSlot k {} := by
  rw [barringEnd, hst, decide_eq_true h]
  rfl

end Sieve

/-- A test lost: what the device keeps of it. -/
theorem Dev.applySieve_mimic (d : Dev) (n : Nat) {k : Nat} {v : Sieve} (hst : (v.slot k).st = .barred) (hbut : Sieve.SlotsBut k (d.lane n).sieve v) :
    let e := d.applySieve n (v, { mimics := 1 })
    ((e.lane n).sieve.slot k).st = .barred
      ∧ e.get (F.laneSvMimicCount.lane n) = (d.get (F.laneSvMimicCount.lane n) + 1) % 2 ^ 32
      ∧ Sieve.SlotsBut k (d.lane n).sieve (e.lane n).sieve ∧ Dev.WordsBut [laneAddr n Reg.laneSvMimic] d e
      ∧ e = { d with words := e.words, lanes := e.lanes, acc := e.acc } := by
  intro e
  have hsieve : (e.lane n).sieve = v := d.sieve_applySieve n _
  have happly : e = _ := d.applySieve_mimics n v (k := 1) (by decide)
  generalize hd1 : d.setLane n { d.lane n with sieve := v } = d1 at happly
  have hlanes : Dev.Only [.lanes] d d1 := hd1 ▸ d.only_setLane n _
  have hcount : Dev.Only [.acc] (d1.roll (F.laneSvMimicCount.lane n) 1) e := happly ▸ Dev.only_count _ (by split <;> decide) n 1
  have hwords : e.words = (d1.roll (F.laneSvMimicCount.lane n) 1).words := hcount.words
  refine ⟨(congrArg (fun x => (Sieve.slot x k).st) hsieve).trans hst, ?_, fun j hj => (congrArg (·.slot j) hsieve).trans (hbut j hj), ?_,
    Dev.Only.eq_words_lanes_acc (((hlanes.mono (by decide)).step (d1.only_roll _ 1)).step hcount)⟩
  · rw [Dev.get_congr hwords, Dev.get_roll_same (f := F.laneSvMimicCount.lane n) _
      (show F.laneSvMimicCount.lo + F.laneSvMimicCount.len ≤ 32 by decide), Dev.get_congr hlanes.words]
    rfl
  · exact ((Dev.WordsBut.of_words (Dev.WordsBut.refl _ d) hlanes.words).roll (f := F.laneSvMimicCount.lane n) List.mem_cons_self 1).of_words hwords

theorem exec_trialB1Byte (n : PortLane) (k : Fin 8) (frame : List Byte) (b1 : Byte) (s : State) :
    exec (.trialB1Byte n k frame b1) s = .next { s with dev := (s.dev.when ((s.dev.lane n).isLine && s.dev.hears n frame)
      (fun d => d.applySieve n ((s.dev.lane n).sieve.compare (s.dev.lane n).sieve.bg k
        (decide (b1Plain (stmN (s.dev.lane n).rate) b1 = bip8 frame)) 2 2))) } := rfl

theorem exec_trialTimeout (n : Lane) (k : Fin 8) (s : State) :
    exec (.trialTimeout n k) s = .next { s with dev := (s.dev.when
      (!(s.dev.lane n).isLine && decide (3 * blocksPerFrame (s.dev.lane n).rate ≤ ((s.dev.lane n).sieve.slot k).blocks))
      (fun d => d.applySieve n ((s.dev.lane n).sieve.judge (s.dev.lane n).sieve.bg k false))) } := rfl

theorem exec_barringEnd_lane (n : Lane) (k : Fin 8) (s : State) :
    exec (.barringEnd (.lane n) k) s = .next { s with dev := (s.dev.setLane n { s.dev.lane n with
      sieve := (s.dev.lane n).sieve.barringEnd k }) } := rfl

/-- R101, R113: the window closes over one candidate. -/
theorem expectedMark_aligned (n : Lane) (k : Fin 8) (bytes : List Byte) (s : State) (hhear : s.dev.hears n bytes = true)
    (hmark : (s.dev.lane n).isMark false bytes = true) (hline : (s.dev.lane n).isLine = true)
    (hst : ((s.dev.lane n).sieve.slot k).st = .cand) (hfirst : (s.dev.lane n).sieve.first = some k.val)
    (hone : (s.dev.lane n).sieve.count (fun x => x.inWindow) = 1) :
    ∃ t, exec (.expectedMark (.lane n) k ((s.dev.lane n).sieve.slot k).pos bytes) s = .next t
      ∧ ((t.dev.lane n).sieve.slot k).st = .active
      ∧ t.dev.svState n = svFrame ∧ t.dev.defect n defOof = false ∧ t.dev.on (F.laneSvStatOof.lane n) = false
      ∧ t.mem = s.mem ∧ t.flash = s.flash := by
  have hexec := exec_expectedMark_lane n k ((s.dev.lane n).sieve.slot k).pos bytes s
  have hcond : (s.dev.hears n bytes && ((s.dev.lane n).sieve.slot k).pos == ((s.dev.lane n).sieve.slot k).pos) = true := by
    rw [hhear, Bool.true_and]
    exact beq_self_eq_true _
  have hok (c : Bool) : (s.dev.lane n).isMark c bytes = true := by
    rw [LaneSt.isMark, if_pos hline] at hmark ⊢
    exact hmark
  rw [State.when_true s hcond, hok, Sieve.mark_cand_first _ _ hst hfirst] at hexec
  obtain ⟨hout, hactive⟩ := Sieve.closeWindow_one (s.dev.lane n).sieve.bg hone (k := k) (Sieve.lt_of_st (by rw [hst]; decide))
  have hsieve := s.dev.sieve_applySieve n ((s.dev.lane n).sieve.closeWindow (s.dev.lane n).sieve.bg k true)
  rcases hclose : (s.dev.lane n).sieve.closeWindow (s.dev.lane n).sieve.bg k true with ⟨v, o⟩
  rw [hclose] at hexec hout hactive hsieve
  obtain rfl : o = { aligned := some k.val } := hout
  obtain ⟨d1, happly⟩ : ∃ d1 : Dev, s.dev.applySieve n (v, { aligned := some k.val }) = d1.setSv n svFrame := by
    have halign := s.dev.applySieve_aligned n v k
    rw [hline] at halign
    exact ⟨_, halign⟩
  obtain ⟨hstate, hoof, hstat, -⟩ := d1.setSv_shown n (st := svFrame) (by decide)
  refine ⟨_, hexec, (congrArg (fun x => (Sieve.slot x k).st) hsieve).trans hactive, ?_, ?_, ?_, rfl, rfl⟩
  · exact (congrArg (·.svState n) happly).trans hstate
  · exact (congrArg (·.defect n defOof) happly).trans hoof
  · exact (congrArg (·.on (F.laneSvStatOof.lane n)) happly).trans hstat

/-- Settles O19: the window that closes activates its candidate, and a test beside an ACTIVE is decided by its second agreement, its second
disagreement or the end of its time. -/
theorem alignmentAndTrial : Obligations.AlignmentAndTrial := by
  refine ⟨expectedMark_aligned, fun n k s => ?_⟩
  intro l x
  refine ⟨fun hst hwon hpassed hround hother => ⟨fun frame b1 hline hagree hhear hb1 => ?_, fun frame b1 c hc => ?_⟩, fun hst h => ?_⟩
  · obtain ⟨v, hcompare, hactive, hbut⟩ := Sieve.compare_passes l.sieve.bg hst hwon hpassed hround hother (losses := 2) hagree
    have hexec := exec_trialB1Byte n k frame b1 s
    have hcond : ((s.dev.lane n).isLine && s.dev.hears n frame) = true := by rw [hhear, Bool.and_true]; exact hline
    rw [State.when_true s hcond, decide_eq_true hb1, hcompare, Dev.applySieve_quiet] at hexec
    have hsieve := congrArg LaneSt.sieve (Dev.lane_setLane_same s.dev n { s.dev.lane n with sieve := v })
    exact ⟨_, hexec, (congrArg (fun x => (Sieve.slot x k).st) hsieve).trans hactive,
      fun j hj => (congrArg (·.slot j) hsieve).trans (hbut j hj), rfl⟩
  · have hlost {v : Sieve} (hexec : exec c s = .next { s with dev := s.dev.applySieve n (v, { mimics := 1 }) })
        (hbarred : (v.slot k).st = .barred) (hbut : Sieve.SlotsBut k l.sieve v) := by
      obtain ⟨hslot, hget, hslots, hwords, hframe⟩ := s.dev.applySieve_mimic n hbarred hbut
      exact (⟨_, hexec, hslot, hget, hslots, hwords, congrArg (fun e => ({ s with dev := e } : State)) hframe⟩ :
        ∃ t, exec c s = .next t ∧ ((t.dev.lane n).sieve.slot k).st = .barred
          ∧ t.dev.get (F.laneSvMimicCount.lane n) = (s.dev.get (F.laneSvMimicCount.lane n) + 1) % 2 ^ 32
          ∧ Sieve.SlotsBut k l.sieve (t.dev.lane n).sieve ∧ Dev.WordsBut [laneAddr n Reg.laneSvMimic] s.dev t.dev
          ∧ t = { s with dev := { s.dev with words := t.dev.words, lanes := t.dev.lanes, acc := t.dev.acc } })
    rcases hc with ⟨rfl, hline, hdisagree, hagree, hhear, hb1⟩ | ⟨rfl, hline, hblocks⟩
    · obtain ⟨v, hcompare, hbarred, hbut⟩ := Sieve.compare_fails l.sieve.bg hst hwon hpassed hround hother hdisagree hagree
      have hexec := exec_trialB1Byte n k frame b1 s
      have hcond : ((s.dev.lane n).isLine && s.dev.hears n frame) = true := by rw [hhear, Bool.and_true]; exact hline
      rw [State.when_true s hcond, decide_eq_false hb1, hcompare] at hexec
      exact hlost hexec hbarred hbut
    · obtain ⟨v, hjudge, hbarred, hbut⟩ := Sieve.judge_fails l.sieve.bg hst hwon hpassed hround hother
      have hexec := exec_trialTimeout ⟨n, by omega⟩ k s
      have hcond : (!(s.dev.lane n).isLine && decide (3 * blocksPerFrame (s.dev.lane n).rate ≤ ((s.dev.lane n).sieve.slot k).blocks)) = true := by
        rw [decide_eq_true hblocks, Bool.and_true]
        exact congrArg not hline
      rw [State.when_true s hcond, hjudge] at hexec
      exact hlost hexec hbarred hbut
  · have hexec := exec_barringEnd_lane ⟨n, by omega⟩ k s
    rw [Sieve.barringEnd_slot hst h] at hexec
    have hsieve := congrArg LaneSt.sieve (Dev.lane_setLane_same s.dev n { s.dev.lane n with sieve := l.sieve.setSlot k {} })
    exact ⟨_, hexec, (congrArg (·.slot k) hsieve).trans (Sieve.slot_setSlot_free _ k),
      fun j hj => (congrArg (·.slot j) hsieve).trans (Sieve.slotsBut_setSlot l.sieve k _ j hj), rfl⟩

end Sys2Proof.Machine

/-! The loss of an alignment (R108, R110, R115, R121, R123). -/

namespace Sys2Proof.Machine

set_option Elab.async false -- a proof at a time, within the memory of a check

/-! The ACTIVE is lost (R108, R110) -/

namespace Sieve

variable {s : Sieve} {k : Nat}

theorem bestAlt_none (h : ∀ j, (s.slot j).st ≠ .alt) : s.bestAlt = none := by
  have hbest : s.slots.foldl (fun m x => if x.st == .alt then Nat.max m (x.run + 1) else m) 0 = 0 := by
    refine List.foldlRecOn (motive := fun n => n = 0) s.slots _ rfl fun m hm x hx => ?_
    obtain ⟨j, -, rfl⟩ := exists_slot hx
    rw [if_neg (by simpa using h j), hm]
  rw [bestAlt, hbest]
  rfl

/-- With no ALT and no trial the lane hunts. -/
theorem takeOver_hunts (h : ∀ j, (s.slot j).st ≠ .alt ∧ (s.slot j).st ≠ .trial) :
    s.takeOver = ({ s with round := 0 }, { hunts := 1, hunting := true }) := by
  have hmember : s.slots.any (fun x => x.member) = false := by
    rw [List.any_eq_false]
    intro x hx
    obtain ⟨j, -, rfl⟩ := exists_slot hx
    simp [Slot.member, (h j).2]
  rw [takeOver, bestAlt_none fun j => (h j).1]
  simp only [hmember, Bool.false_eq_true, if_false]

/-- The candidate that the ACTIVE becomes, with `conf` more marks to confirm. -/
def demoted (x : Slot) (conf : Nat) : Slot := { st := .cand, pos := x.pos, rot := x.rot, run := 1, need := 1 + conf, pli := x.pli, scr := x.scr }

theorem lose_hunts (hactive : (s.slot k).st = .active) (hone : ∀ j, j ≠ k → (s.slot j).st ≠ .active)
    (h : ∀ j, (s.slot j).st ≠ .alt ∧ (s.slot j).st ≠ .trial) (conf : Nat) :
    s.lose conf = ({ s.setSlot k (demoted (s.slot k) conf) with errors := 0, round := 0 }, { hunts := 1, hunting := true }) := by
  have hk : k < s.slots.length := lt_of_st (by rw [hactive]; decide)
  have hfind : s.find (fun x => x.st == .active) = some k :=
    find_eq hk (by rw [hactive]; rfl) fun j hj => beq_eq_false_iff_ne.mpr (hone j (Nat.ne_of_lt hj))
  have hslots (j : Nat) : ((s.setSlot k (demoted (s.slot k) conf)).slot j).st ≠ .alt
      ∧ ((s.setSlot k (demoted (s.slot k) conf)).slot j).st ≠ .trial := by
    by_cases hj : j = k
    · rw [hj, slot_setSlot_same hk]
      exact ⟨by simp [demoted], by simp [demoted]⟩
    · rw [slot_setSlot_other hj]
      exact h j
  rw [lose, hfind]
  exact takeOver_hunts (s := { s.setSlot k (demoted (s.slot k) conf) with errors := 0 }) hslots

end Sieve

/-! What the device shows of it -/

/-- The registers that count losses and hunts stand apart from those of the alignment. -/
theorem svLoss_apart : Reg.laneSvLoss < 0x1_0000 ∧ Reg.laneSvLoss ∉ alignmentRegs := by decide

theorem svHunt_apart : Reg.laneSvHunt < 0x1_0000 ∧ Reg.laneSvHunt ∉ alignmentRegs := by decide

/-- The device after a loss that `d` has counted: out of frame, hunting, the hunt counted, and the Sieve `v` with the demoted slot. -/
theorem Dev.loss_shown (d : Dev) (n : Nat) (v : Sieve) (hround : v.round = 0) :
    let e := (d.setOof n true).applySieve n (v, { hunts := 1, hunting := true })
    e.defect n defOof = true ∧ e.svState n = svHunt ∧ e.get (F.laneSvLossCount.lane n) = d.get (F.laneSvLossCount.lane n)
      ∧ e.get (F.laneSvHuntCount.lane n) = (d.get (F.laneSvHuntCount.lane n) + 1) % 2 ^ 32 ∧ (e.lane n).sieve = v := by
  intro e
  have hsieve : (e.lane n).sieve = v := (d.setOof n true).sieve_applySieve n _
  have happly : e = _ := (d.setOof n true).applySieve_hunts n v hround
  have hoof (o : Nat) (ho : o < 0x1_0000 ∧ o ∉ alignmentRegs) : d.RegKept o (d.setOof n true) := (Dev.RegKept.refl o d).setOof ho n true
  generalize d.setOof n true = d1 at hoof happly
  generalize hd2 : d1.setLane n { d1.lane n with sieve := v } = d2 at happly
  have hset (o : Nat) (ho : o < 0x1_0000 ∧ o ∉ alignmentRegs) : d.RegKept o d2 :=
    (hoof o ho).of_words (hd2 ▸ Dev.setLane_words ..)
  obtain ⟨hstate, hdefect, -, -⟩ := (d2.roll (F.laneSvHuntCount.lane n) 1).setSv_shown n (st := svHunt) (by decide)
  have hkept (o : Nat) (ho : o < 0x1_0000 ∧ o ∉ alignmentRegs) :=
    (Dev.RegKept.refl o (d2.roll (F.laneSvHuntCount.lane n) 1)).setSv ho n svHunt
  rw [happly]
  refine ⟨hdefect, hstate, ?_, ?_, happly ▸ hsieve⟩
  · have hroll : d.RegKept Reg.laneSvLoss (d2.roll (F.laneSvHuntCount.lane n) 1) :=
      (hset _ svLoss_apart).put (f := F.laneSvHuntCount) (by decide) n _
    rw [(hkept _ svLoss_apart).get rfl, hroll.get rfl]
  · rw [(hkept _ svHunt_apart).get rfl, Dev.get_roll_same (f := F.laneSvHuntCount.lane n) _
      (show F.laneSvHuntCount.lo + F.laneSvHuntCount.len ≤ 32 by decide), (hset _ svHunt_apart).get rfl]
    rfl

/-! The grants of a lane that leaves its frame -/

section
variable {l : List Nat} {n : Nat} {e : Dev}

/-- The grants of lane `n` are `l`. -/
def Dev.GrantsAre (l : List Nat) (n : Nat) (e : Dev) : Prop := (e.tu n).grants = l

namespace Dev.GrantsAre

theorem of_only {S : List Part} {x : Dev} (h : e.GrantsAre l n) (hx : Dev.Only S e x) (hS : .lanes ∉ S := by decide) : x.GrantsAre l n := by
  rw [GrantsAre, Dev.tu, Dev.lane, hx.lanes hS]
  exact h

theorem setTu (h : e.GrantsAre l n) (p : Nat) {x : TuRx} (hx : x.grants = (e.tu p).grants) : (e.setTu p x).GrantsAre l n := by
  rw [GrantsAre, Dev.tu, Dev.setTu, Dev.lane_setLane]
  split
  · next hp =>
    rw [hx, ← hp]
    exact h
  · exact h

theorem rewind (h : e.GrantsAre l n) (p : Nat) : (e.rewind p).GrantsAre l n := by
  unfold Dev.rewind
  split
  · exact (((h.setTu p (x := { e.tu p with pkt := none }) rfl).of_only (Dev.only_roll _ _ _)).of_only
      (Dev.only_count _ (by decide) _ _)).of_only (Dev.only_psqNote _)
  · exact h

theorem rewindOwn (h : e.GrantsAre l n) (p : Nat) : (e.rewindOwn p).GrantsAre l n := by
  unfold Dev.rewindOwn
  split
  · exact h
  · exact h.rewind p

theorem strUpdate (h : e.GrantsAre l n) (p : Nat) : (e.strUpdate p).GrantsAre l n := by
  unfold Dev.strUpdate
  extract_lets q a b st t d1
  have hput : Dev.Only [.words] e d1 := e.only_put _ _
  have ht : (d1.tu p).grants = t.grants := by rw [Dev.tu, Dev.lane, hput.lanes]; rfl
  have h1 : d1.GrantsAre l n := h.of_only hput
  split
  · exact Dev.when_keeps (h1.setTu p ht.symm) fun _ hx => (hx.rewind p).of_only (Dev.only_aisFrom _ p)
  · split
    · exact h1
    · exact h1.setTu p ht.symm

theorem laneUpdate (h : e.GrantsAre l n) (p : Nat) : (e.laneUpdate p).GrantsAre l n := by
  unfold Dev.laneUpdate
  split
  · exact h.of_only (e.only_lineUpdate p)
  · split
    · exact h
    · split
      · exact h.strUpdate _
      · exact Dev.when_keeps h fun _ hx => (hx.rewind p).of_only (Dev.only_aisFrom _ p)

/-- A lane that leaves its frame has no grants. -/
theorem tuLeave (e : Dev) (n : Nat) : (e.tuLeave n).GrantsAre (List.replicate 8 0) n := by
  unfold Dev.tuLeave
  extract_lets x t d1 d2
  have h1 : d1.GrantsAre (List.replicate 8 0) n := congrArg TuRx.grants (Dev.tu_setTu x n _)
  have h2 : Dev.Only [.words] d1 d2 := ((((Dev.only_setWord _ _ _).step (Dev.only_setWord _ _ _)).step (Dev.only_lower _ _)).step
    (Dev.only_put _ _ _)).step (Dev.only_put _ _ _)
  exact (h1.of_only h2).rewindOwn n

/-- A lane with a frame that goes to another state has none either. -/
theorem setSv (hline : (e.lane n).isLine = false) (hframe : e.inFrame n = true) {st : Nat} (hst : (st != svFrame) = true) :
    (e.setSv n st).GrantsAre (List.replicate 8 0) n := by
  unfold Dev.setSv
  extract_lets line d1
  have hcond : (!line && e.inFrame n && st != svFrame) = true := by
    rw [hframe, hst]
    exact congrArg (fun b : Bool => !b && true && true) hline
  rw [hcond, Dev.when, if_pos rfl]
  exact (tuLeave d1 n).laneUpdate n

end Dev.GrantsAre

end

/-! The commands -/

theorem exec_oof (n : PortLane) (s : State) :
    exec (.oof n) s = .next { s with dev := (s.dev.when ((s.dev.lane n).isLine && decide (5 ≤ (s.dev.lane n).sieve.errors))
      (fun d => ((d.roll (F.laneSvLossCount.lane n) 1).setOof n true).applySieve n ((s.dev.lane n).sieve.lose 2))) } := rfl

theorem exec_lob (n : Lane) (s : State) :
    exec (.lob n) s = .next { s with dev := (s.dev.when (!(s.dev.lane n).isLine
        && decide ((s.dev.lane n).sieve.alpha ≤ (s.dev.lane n).sieve.errors) && decide (1 ≤ (s.dev.lane n).sieve.errors))
      (fun d => (((d.roll (F.laneSvLossCount.lane n) 1).count 0 n 5 1).setOof n true).applySieve n
        (((d.roll (F.laneSvLossCount.lane n) 1).lane n).sieve.lose (s.dev.lane n).sieve.delta))) } := rfl

theorem exec_frameStartLoss (n : Lane) (s : State) :
    exec (.frameStartLoss n) s = .next { s with dev := (s.dev.when (!(s.dev.lane n).isLine && s.dev.inFrame n
      && decide (3 ≤ (s.dev.tu n).fsErrFrames + bitOf (s.dev.tu n).fsErr)) (fun d => d.setSv n svBlock)) } := rfl

theorem Dev.get_roll_loss (d : Dev) (n : Nat) :
    (d.roll (F.laneSvLossCount.lane n) 1).get (F.laneSvLossCount.lane n) = (d.get (F.laneSvLossCount.lane n) + 1) % 2 ^ 32 :=
  Dev.get_roll_same (f := F.laneSvLossCount.lane n) _ (show F.laneSvLossCount.lo + F.laneSvLossCount.len ≤ 32 by decide) 1

theorem Dev.get_roll_loss_hunt (d : Dev) (n : Nat) :
    (d.roll (F.laneSvLossCount.lane n) 1).get (F.laneSvHuntCount.lane n) = d.get (F.laneSvHuntCount.lane n) :=
  ((Dev.RegKept.refl Reg.laneSvHunt d).put (f := F.laneSvLossCount) (by decide) n _ :
    d.RegKept Reg.laneSvHunt (d.roll (F.laneSvLossCount.lane n) 1)).get (f := F.laneSvHuntCount) rfl n

/-- Settles O20: a loss counts, hunts and leaves the demoted slot, and three frames with FS errors lead to BLOCK. -/
theorem lossOfAlignment : Obligations.LossOfAlignment := by
  refine ⟨fun n k s => ?_, fun n k s hline => ?_⟩
  · intro v hline herr hactive hone hother
    have hk : k < v.slots.length := Sieve.lt_of_st (by rw [hactive]; decide)
    have hcond : ((s.dev.lane n).isLine && decide (5 ≤ (s.dev.lane n).sieve.errors)) = true := by
      rw [hline, decide_eq_true herr]
      rfl
    have hexec := exec_oof n s
    rw [State.when_true s hcond, Sieve.lose_hunts (s := (s.dev.lane n).sieve) hactive hone hother 2] at hexec
    obtain ⟨hdefect, hstate, hloss, hhunt, hsieve⟩ := (s.dev.roll (F.laneSvLossCount.lane n) 1).loss_shown n
      { v.setSlot k (Sieve.demoted (v.slot k) 2) with errors := 0, round := 0 } rfl
    exact ⟨_, hexec, hdefect, hstate, hloss.trans (s.dev.get_roll_loss n),
      hhunt.trans (congrArg (fun c => (c + 1) % 2 ^ 32) (s.dev.get_roll_loss_hunt n)),
      (congrArg (·.slot k) hsieve).trans (Sieve.slot_setSlot_same hk _),
      fun j hj => (congrArg (·.slot j) hsieve).trans (Sieve.slotsBut_setSlot v k _ j hj), rfl, rfl⟩
  · intro v
    refine ⟨fun hone' halpha hactive hone hother => ?_, fun hframe herr => ?_⟩
    · have hk : k < v.slots.length := Sieve.lt_of_st (by rw [hactive]; decide)
      have hcond : (!(s.dev.lane n).isLine && decide ((s.dev.lane n).sieve.alpha ≤ (s.dev.lane n).sieve.errors)
          && decide (1 ≤ (s.dev.lane n).sieve.errors)) = true := by
        rw [hline, decide_eq_true halpha, decide_eq_true hone']
        rfl
      have hexec := exec_lob n s
      have hlane : ((s.dev.roll (F.laneSvLossCount.lane n) 1).lane n).sieve = v := by
        rw [Dev.lane, (s.dev.only_roll (F.laneSvLossCount.lane n) 1).lanes]
        rfl
      rw [State.when_true s hcond, hlane, Sieve.lose_hunts hactive hone hother] at hexec
      have hcount := (s.dev.roll (F.laneSvLossCount.lane n) 1).only_count (show bwObject 0 5 = none by decide) n 1
      obtain ⟨hdefect, hstate, hloss, hhunt, hsieve⟩ := ((s.dev.roll (F.laneSvLossCount.lane n) 1).count 0 n 5 1).loss_shown n
        { v.setSlot k (Sieve.demoted (v.slot k) v.delta) with errors := 0, round := 0 } rfl
      rw [Dev.get_congr hcount.words] at hloss hhunt
      exact ⟨_, hexec, hdefect, hstate, hloss.trans (s.dev.get_roll_loss n),
        hhunt.trans (congrArg (fun c => (c + 1) % 2 ^ 32) (s.dev.get_roll_loss_hunt n)),
        (congrArg (·.slot k) hsieve).trans (Sieve.slot_setSlot_same hk _), rfl, rfl⟩
    · have hcond : (!(s.dev.lane n).isLine && s.dev.inFrame n
          && decide (3 ≤ (s.dev.tu n).fsErrFrames + bitOf (s.dev.tu n).fsErr)) = true := by
        rw [hline, hframe, decide_eq_true herr]
        rfl
      have hexec := exec_frameStartLoss n s
      rw [State.when_true s hcond] at hexec
      obtain ⟨hstate, hoof, -, hloft⟩ := s.dev.setSv_shown n (st := svBlock) (by decide)
      rw [hline] at hloft
      exact ⟨_, hexec, hstate, hloft, hoof, Dev.GrantsAre.setSv hline hframe (by decide), rfl, rfl⟩

end Sys2Proof.Machine

/-! The parts that the path points' operations change. -/

namespace Sys2Proof.Machine

set_option Elab.async false -- a proof at a time, within the memory of a check

section
variable (d : Dev)

theorem Dev.only_setPath (k : Nat) (p : PathSt) : Dev.Only [.paths] d (d.setPath k p) := .part .paths (by decide) fun _ _ hp => hp d _

theorem Dev.only_markOnes (k : Nat) : Dev.Only [.inFill] d (d.markOnes k) := by
  refine .whenStep _ fun e => ?_
  split
  · exact .part .inFill (by decide) fun _ _ hp => hp e _
  · exact .refl _ e

theorem Dev.only_idlePoint (k : Nat) : Dev.Only [.words, .paths] d (d.idlePoint k) :=
  (((d.only_setPath k _).mono (by decide)).step (Dev.only_setWord _ _ _)).trans
    (.whenStep _ fun e => ((e.only_put _ _).mono (by decide)).step (Dev.only_put _ _ _))

theorem Dev.only_restartPoint (k : Nat) (member : Bool) : Dev.Only [.words, .paths] d (d.restartPoint k member) :=
  (((d.only_setPath k _).mono (by decide)).step (Dev.only_setWord _ _ _)).trans
    (.whenStep _ fun e => ((e.only_put _ _).mono (by decide)).step (Dev.only_put _ _ _))

theorem Dev.only_markPath (k : Nat) : Dev.Only [.acc] d (d.markPath k) := by
  have hkind (c : Nat) (h : bwObject 1 c = none ∧ bwObject 2 c = none) : bwObject (if isHo k then 1 else 2) c = none := by
    split
    · exact h.1
    · exact h.2
  unfold Dev.markPath
  extract_lets near kind i d1
  have h1 : Dev.Only [.acc] d d1 := (d.only_count (hkind _ (by decide)) _ _).step (Dev.only_count _ (hkind _ (by decide)) _ _)
  split
  · exact h1.trans (.foldl _ fun e j _ => e.only_count (by decide) _ _)
  · exact h1

theorem Dev.only_pathSummary (k : Nat) (old : List Bool) : Dev.Only defectParts d (d.pathSummary k old) := by
  unfold Dev.pathSummary
  extract_lets n g new was is f any e bits c d1 path
  split
  · exact .refl _ d
  · have h1 : Dev.Only [.words] d d1 := by
      unfold d1
      split
      · exact ((d.only_put _ _).step (Dev.only_raise _ _)).step (Dev.only_put _ _ _)
      · exact (d.only_put _ _).step (Dev.only_raise _ _)
    exact (((h1.mono (by decide)).step (Dev.only_setDefect d1 _ defPath path)).step (Dev.only_markPath _ k)).step (Dev.only_protSee _)

/-- What a change of a path point's state changes. -/
abbrev pointParts : List Part := .paths :: .inFill :: defectParts

theorem Dev.only_settlePoint (force : Bool) (k : Nat) : Dev.Only pointParts d (d.settlePoint force k) := by
  unfold Dev.settlePoint
  extract_lets st old
  split
  · split
    · exact (d.only_markOnes k).mono (by decide)
    · exact (((d.only_idlePoint k).mono (by decide)).step (Dev.only_pathSummary _ k old)).step (Dev.only_markOnes _ k)
  · split
    · exact (((d.only_restartPoint k _).mono (by decide)).step (Dev.only_pathSummary _ k old)).step (Dev.only_markOnes _ k)
    · exact .refl _ d

theorem Dev.only_showCfgErr (h : Nat) : Dev.Only [.words] d (d.showCfgErr h) :=
  .foldl _ fun _ _ _ => .whenStep _ fun x => x.only_put _ _

theorem Dev.only_settleLane (n : Nat) : Dev.Only pointParts d (d.settleLane n) :=
  Dev.Only.trans (.foldl _ fun e k _ => e.only_settlePoint false k) (.foldl _ fun e g _ => (e.only_showCfgErr _).mono (by decide))

theorem Dev.only_rechoose (k : Nat) : Dev.Only [.paths] d (d.rechoose k) := by
  have hagain (e : Dev) (j : Nat) := Dev.Only.whenStep (d := e) (e.realigned j && e.pstate j == psNorm) fun x =>
    x.only_setPath j { x.path j with choose := true, asked := x.now }
  unfold Dev.rechoose
  extract_lets again
  split
  · exact .foldl _ fun e j _ => hagain e j
  · exact hagain d k

/-! Recovered clocks -/

theorem Dev.only_squelchLrc (n : Nat) : Dev.Only [.words] d (d.squelchLrc n) := by
  unfold Dev.squelchLrc
  split
  · exact .refl _ d
  · exact (d.only_raise _).step (Dev.only_raise _ _)

theorem Dev.only_squelchLane (l : Nat) : Dev.Only [.words] d (d.squelchLane l) := .each 4 fun _ n => .whenStep _ fun x => x.only_squelchLrc n

end

end Sys2Proof.Machine

/-! The receive state of a lane starts again (R60, R133). -/

namespace Sys2Proof.Machine

set_option Elab.async false -- a proof at a time, within the memory of a check

/-! A transmit frame begins: the receivers stay -/

theorem Dev.only_psq (d : Dev) (v : Psq) : Dev.Only [.psq] d { d with psq := v } := .part .psq (by decide) fun _ _ hp => hp d v

theorem Dev.only_mate (d : Dev) (v : Mate) : Dev.Only [.mate] d { d with mate := v } := .part .mate (by decide) fun _ _ hp => hp d v

theorem Dev.only_bwAdd (d : Dev) (obj i n : Nat) : Dev.Only [.bw] d (d.bwAdd obj i n) := .part .bw (by decide) fun _ _ hp => hp d _

namespace Dev.SieveKept

variable {d e : Dev}

theorem applyTxTrace (h : d.SieveKept e) (n : Nat) : d.SieveKept (e.applyTxTrace n) := (h.setSoh n _).of_only (Dev.only_lower _ _)

theorem traceStart (h : d.SieveKept e) (n : Nat) : d.SieveKept (e.traceStart n) := by
  unfold Dev.traceStart
  extract_lets mode s d1 d2 t
  have h1 : d.SieveKept d1 := Dev.when_keeps h fun _ hx => hx.setSoh n _
  have h2 : d.SieveKept d2 := Dev.when_keeps h1 fun _ hx => hx.applyTxTrace n
  exact h2.setSoh n _

theorem channelStart (h : d.SieveKept e) (n : Nat) : d.SieveKept (e.channelStart n).1 := by
  unfold Dev.channelStart
  exact Dev.when_keeps (h.of_only (Dev.only_roll _ _ _)) fun _ hx => hx.of_only (Dev.only_raise _ _)

theorem lineStart (h : d.SieveKept e) (n : Nat) : d.SieveKept (e.lineStart n) := by
  unfold Dev.lineStart
  extract_lets r e1 s test ais rdi k k2 ext rei ones chan sent d1
  have h1 : d.SieveKept d1 := ((h.traceStart n).channelStart n).setSoh n _
  exact ((h1.of_only (Dev.only_put _ _ _)).of_only (Dev.only_put _ _ _)).of_only (Dev.only_put _ _ _)

theorem bankSelect (h : d.SieveKept e) (n : Nat) : d.SieveKept (e.bankSelect n) := by
  unfold Dev.bankSelect
  extract_lets t want
  split
  · exact h
  · split
    · exact h.setTu n _
    · exact (h.setTu n _).of_only (Dev.only_raise _ _)

theorem setCap (h : d.SieveKept e) (n v : Nat) : d.SieveKept (e.setCap n v) := by
  unfold Dev.setCap
  extract_lets x d1
  have h1 : d.SieveKept d1 := h.setTu n _
  split
  · exact h1
  · exact ((h1.of_only (Dev.only_put _ _ _)).of_only (Dev.only_raise _ _)).of_only (Dev.only_count _ (by decide) _ _)

theorem capApply (h : d.SieveKept e) (n : Nat) : d.SieveKept (e.capApply n) := by
  unfold Dev.capApply
  extract_lets v x d1
  have h1 : d.SieveKept d1 := (((h.setTu n _).of_only (Dev.only_lower _ _)).of_only (Dev.only_put _ _ _)).of_only (Dev.only_put _ _ _)
  exact h1.setCap n v

theorem capStart (h : d.SieveKept e) (n : Nat) : d.SieveKept (e.capStart n) := by
  unfold Dev.capStart
  split
  · exact Dev.when_keeps h fun _ hx => hx.capApply n
  · extract_lets v
    split
    · exact h
    · exact (h.setTu n _).of_only (Dev.only_put _ _ _)

theorem tuStart (h : d.SieveKept e) (draining : List Packet) (n : Nat) : d.SieveKept (e.tuStart draining n) := by
  unfold Dev.tuStart
  extract_lets e0 t k radio cs r sent d1
  have h0 : d.SieveKept e0 := iteInduction (motive := d.SieveKept) (fun _ => (h.bankSelect n).capStart n) fun _ => h
  have h1 : d.SieveKept d1 := (h0.setTu n _).of_only (Dev.only_put _ _ _)
  exact Dev.when_keeps (h1.of_only (Dev.only_psq _ _)) fun _ hx => hx.of_only (Dev.only_bwAdd _ _ _ _)

theorem typeStarts (h : d.SieveKept e) (n : Nat) : d.SieveKept (e.typeStarts n) := by
  unfold Dev.typeStarts
  split
  · exact h
  · split
    · exact (h.of_only (Dev.only_put _ _ _)).lineStart n
    · exact h.tuStart [] n

/-! The restart -/

theorem setLof (h : d.SieveKept e) (n : Nat) (v : Bool) : d.SieveKept (e.setLof n v) :=
  ((h.of_only (Dev.only_put _ _ _)).setDefect n defLof v).laneUpdate n

theorem receiveRestart (h : d.SieveKept e) (n : Nat) : d.SieveKept (e.receiveRestart n) := by
  unfold Dev.receiveRestart
  extract_lets l s d1 d2 d3 d4
  have h1 : d.SieveKept d1 := h.setLane n rfl
  have hcut : d.SieveKept ((d1.rewindOwn n).cutPackets n) :=
    ((h1.rewindOwn n).setTu n _).of_only (Dev.only_psq _ _)
  have h2 : d.SieveKept d2 := hcut.of_only (((((Dev.only_put _ _ _).step (Dev.only_put _ _ _)).step (Dev.only_lower _ _)).step
    (Dev.only_lower _ _)).step (Dev.only_lower _ _))
  have h3 : d.SieveKept d3 := h2.of_only (Dev.Only.foldl (S := [.words]) _ fun x _ _ => x.only_setWord _ _)
  have h4 : d.SieveKept d4 := ((h3.of_only (Dev.only_setWord _ _ _)).setDefect n _ _).setDefect n _ _
  exact ((h4.of_only (Dev.only_put _ _ _)).of_only (Dev.only_lower _ _)).of_only (Dev.only_protSee _)

end Dev.SieveKept

/-- The lane hunts with no slot taken. -/
theorem Dev.sieveKept_huntAgain (d : Dev) (n : Nat) :
    (d.setLane n { d.lane n with sieve := (d.lane n).sieve.restart }).SieveKept (d.huntAgain n) :=
  (Dev.SieveKept.refl _).setSv n svHunt

theorem Dev.lane_huntAgain (d : Dev) (n : Nat) :
    ((d.huntAgain n).lane n).sieve.slots = List.replicate 8 {} ∧ ((d.huntAgain n).lane n).cfg = (d.lane n).cfg
      ∧ ((d.huntAgain n).lane n).cdrSince = (d.lane n).cdrSince := by
  have hkept := d.sieveKept_huntAgain n
  have hlane := Dev.lane_setLane_same d n { d.lane n with sieve := (d.lane n).sieve.restart }
  refine ⟨?_, ?_, ?_⟩
  · rw [hkept.sieve n, hlane]
    rfl
  · rw [hkept.cfg n, hlane]
  · rw [hkept.cdrSince n, hlane]

/-- The lane's configuration is what was written, and its slots are FREE. -/
theorem Dev.lane_restartLane (d : Dev) (n : Nat) :
    ((d.restartLane n).lane n).cfg = d.word (laneAddr n Reg.laneCfg) ∧ ((d.restartLane n).lane n).sieve.slots = List.replicate 8 {} := by
  unfold Dev.restartLane
  extract_lets l d1 loft d2 mate d3
  have hcfg1 : (d1.lane n).cfg = d.word (laneAddr n Reg.laneCfg) := congrArg LaneSt.cfg (Dev.lane_setLane_same ..)
  have h2 : d1.SieveKept d2 := Dev.when_keeps
    (((Dev.SieveKept.refl d1).of_only (Dev.only_put _ _ _)).of_only (Dev.only_put _ _ _)) fun _ hx => hx.setLof n false
  have hmate : d1.SieveKept (if n < 96 then d2 else { d2 with mate := { mate with excluded := mate.excluded.filter (fun x => x != n - 96) } }) :=
    iteInduction (motive := d1.SieveKept) (fun _ => h2) fun _ => h2.of_only (d2.only_mate _)
  have hrestart := hmate.receiveRestart n
  obtain ⟨hslots, hcfg, -⟩ := Dev.lane_huntAgain
    ((if n < 96 then d2 else { d2 with mate := { mate with excluded := mate.excluded.filter (fun x => x != n - 96) } }).receiveRestart n) n
  have h3 : (d3.lane n).cfg = d.word (laneAddr n Reg.laneCfg) ∧ (d3.lane n).sieve.slots = List.replicate 8 {} :=
    ⟨hcfg.trans ((hrestart.cfg n).trans hcfg1), hslots⟩
  split
  · rw [Dev.lane, (d3.only_settleLane n).lanes]
    exact h3
  · exact h3

/-! The commands -/

theorem exec_receiveStateRestart (n : Lane) (s : State) :
    exec (.receiveStateRestart n) s = .next { s with dev := (s.dev.when
      (s.dev.atEdge && (s.dev.lane n).cfg != s.dev.word (laneAddr n Reg.laneCfg)) (fun d => (d.restartLane n).when
        ((d.lane n).type != getF (d.word (laneAddr n Reg.laneCfg)) 4 2) (fun e => e.typeStarts n))) } := rfl

theorem receiveStateRestart_lane (n : Lane) (s : State) (hcfg : (s.dev.lane n).cfg ≠ s.dev.word (laneAddr n Reg.laneCfg))
    (hedge : s.dev.atEdge = true) :
    ∃ t, exec (.receiveStateRestart n) s = .next t ∧ (t.dev.lane n).cfg = s.dev.word (laneAddr n Reg.laneCfg)
      ∧ (t.dev.lane n).sieve.slots = List.replicate 8 {} ∧ t.mem = s.mem ∧ t.flash = s.flash := by
  have hcond : (s.dev.atEdge && (s.dev.lane n).cfg != s.dev.word (laneAddr n Reg.laneCfg)) = true := by
    rw [hedge, bne_iff_ne.mpr hcfg]
    rfl
  have hexec := exec_receiveStateRestart n s
  rw [State.when_true s hcond] at hexec
  have hkept : (s.dev.restartLane n).SieveKept ((s.dev.restartLane n).when
      ((s.dev.lane n).type != getF (s.dev.word (laneAddr n Reg.laneCfg)) 4 2) (fun e => e.typeStarts n)) :=
    Dev.when_keeps (Dev.SieveKept.refl _) fun _ hx => hx.typeStarts n
  obtain ⟨hnew, hslots⟩ := s.dev.lane_restartLane n
  exact ⟨_, hexec, (hkept.cfg n).trans hnew, (congrArg Sieve.slots (hkept.sieve n)).trans hslots, rfl, rfl⟩

end Sys2Proof.Machine

/-! The lock of the CDR, and the slips of the elastic store (R60, R63, R78, R133, R135, R251). -/

namespace Sys2Proof.Machine

set_option Elab.async false -- a proof at a time, within the memory of a check

/-! Lock -/

theorem exec_cdrLock (n : Lane) (ppm : Int) (s : State) :
    exec (.cdrLock n ppm) s = .next { s with dev := (s.dev.when
      (decide (-12000 ≤ ppm ∧ ppm ≤ 12000) && !s.dev.on (F.laneSdsStatCdrLock.lane n)) (fun d =>
        ((d.raise (F.laneSdsStatCdrLock.lane n)).when (s.dev.lane n).cdrLost (fun e => e.transient (lanePage n) 1)).setLane n
          { s.dev.lane n with cdrSince := some d.now, cdrLost := false })) } := rfl

/-- A register of a lane's page is none of its header. -/
theorem laneAddr_ne_header (n : Nat) : laneAddr n Reg.laneSdsStat ≠ pageAddr (lanePage n) Reg.hdrFault := by
  simp only [laneAddr, pageAddr, lanePage, Reg.laneSdsStat, Reg.hdrFault]
  omega

/-- The device with a lock, and the loss before it counted. -/
def Dev.cdrLocked (d : Dev) (n : Nat) (lost : Bool) : Dev :=
  (d.raise (F.laneSdsStatCdrLock.lane n)).when lost (fun e => e.transient (lanePage n) 1)

theorem Dev.on_cdrLocked (d : Dev) (n : Nat) (lost : Bool) : (d.cdrLocked n lost).on (F.laneSdsStatCdrLock.lane n) = true := by
  have hraise : (d.raise (F.laneSdsStatCdrLock.lane n)).on (F.laneSdsStatCdrLock.lane n) = true :=
    Dev.on_raise _ _ (show F.laneSdsStatCdrLock.lo + F.laneSdsStatCdrLock.len ≤ 32 by decide) (by decide : 1 ≤ F.laneSdsStatCdrLock.len)
  have hbut : Dev.WordsBut [pageAddr (lanePage n) Reg.hdrFault] (d.raise (F.laneSdsStatCdrLock.lane n)) (d.cdrLocked n lost) :=
    Dev.when_keeps (Dev.WordsBut.refl _ _) fun _ hx => hx.bump (f := F.hdrFaultTransient.page (lanePage n)) List.mem_cons_self 1
  exact (hbut.on (f := F.laneSdsStatCdrLock.lane n) (by rw [List.mem_singleton]; exact laneAddr_ne_header n)).trans hraise

theorem Dev.transient_cdrLocked (d : Dev) (n : Nat) (lost : Bool) :
    (d.cdrLocked n lost).get (F.hdrFaultTransient.page (lanePage n))
      = Nat.min (d.get (F.hdrFaultTransient.page (lanePage n)) + (if lost then 1 else 0)) 65535 := by
  have hraise : (d.raise (F.laneSdsStatCdrLock.lane n)).get (F.hdrFaultTransient.page (lanePage n))
      = d.get (F.hdrFaultTransient.page (lanePage n)) := Dev.get_put_apart _ _ (.inl (laneAddr_ne_header n).symm)
  cases lost with
  | true =>
    exact (Dev.get_bump_same (f := F.hdrFaultTransient.page (lanePage n)) _
      (show F.hdrFaultTransient.lo + F.hdrFaultTransient.len ≤ 32 by decide) 1).trans (by rw [hraise]; rfl)
  | false =>
    have hlt : d.get (F.hdrFaultTransient.page (lanePage n)) < 2 ^ 16 := d.get_lt _
    exact hraise.trans (Nat.min_eq_left (by omega)).symm

theorem cdrLock_locks (n : Lane) (ppm : Int) (s : State) (hlo : -12000 ≤ ppm) (hhi : ppm ≤ 12000)
    (hlock : s.dev.on (F.laneSdsStatCdrLock.lane n) = false) :
    ∃ t, exec (.cdrLock n ppm) s = .next t ∧ t.dev.on (F.laneSdsStatCdrLock.lane n) = true
      ∧ t.dev.lane n = { s.dev.lane n with cdrSince := some s.dev.now, cdrLost := false }
      ∧ t.dev.get (F.hdrFaultTransient.page (lanePage n))
          = Nat.min (s.dev.get (F.hdrFaultTransient.page (lanePage n)) + (if (s.dev.lane n).cdrLost then 1 else 0)) 65535
      ∧ (∀ q, q ≠ n.val → t.dev.lane q = s.dev.lane q)
      ∧ Dev.WordsBut [laneAddr n Reg.laneSdsStat, pageAddr (lanePage n) Reg.hdrFault] s.dev t.dev
      ∧ t = { s with dev := { s.dev with words := t.dev.words, lanes := t.dev.lanes } } := by
  have hcond : (decide (-12000 ≤ ppm ∧ ppm ≤ 12000) && !s.dev.on (F.laneSdsStatCdrLock.lane n)) = true := by
    rw [hlock, decide_eq_true ⟨hlo, hhi⟩]
    rfl
  have hexec := exec_cdrLock n ppm s
  rw [State.when_true s hcond] at hexec
  have hlocked : s.dev.LaneOnly n [laneAddr n Reg.laneSdsStat, pageAddr (lanePage n) Reg.hdrFault]
      (s.dev.cdrLocked n (s.dev.lane n).cdrLost) :=
    Dev.when_keeps ((Dev.LaneOnly.refl n _ s.dev).raise (f := F.laneSdsStatCdrLock.lane n) List.mem_cons_self) fun _ hx =>
      hx.bump (f := F.hdrFaultTransient.page (lanePage n)) (List.mem_cons_of_mem _ List.mem_cons_self) 1
  have hframe := hlocked.setLane { s.dev.lane n with cdrSince := some s.dev.now, cdrLost := false }
  exact ⟨_, hexec, (Dev.on_congr (Dev.setLane_words ..) _).trans (s.dev.on_cdrLocked n _), Dev.lane_setLane_same ..,
    (Dev.get_congr (Dev.setLane_words ..) _).trans (s.dev.transient_cdrLocked n _), hframe.2.2, hframe.2.1, hframe.state⟩

/-! Loss of lock -/

theorem exec_cdrLossOfLock (n : Lane) (s : State) :
    exec (.cdrLossOfLock n) s = .next { s with dev := (s.dev.when (s.dev.on (F.laneSdsStatCdrLock.lane n) && !s.dev.nearLoop n)
      (fun d => (((d.lower (F.laneSdsStatCdrLock.lane n)).setLane n { d.lane n with cdrSince := none, cdrLost := true }).squelchLane
        n).huntAgain n)) } := rfl

theorem sdsStat_apart : Reg.laneSdsStat < 0x1_0000 ∧ Reg.laneSdsStat ∉ alignmentRegs := by decide

/-- The recovered clocks' registers are none of a lane's. -/
theorem Dev.RegKept.squelchLane {o : Nat} {d e : Dev} (h : d.RegKept o e) (l : Nat) : d.RegKept o (e.squelchLane l) := by
  unfold Dev.squelchLane Dev.each
  refine List.foldlRecOn (motive := d.RegKept o) (List.range 4) _ h fun x hx i hi => ?_
  rw [List.mem_range] at hi
  have hlt : (F.clkLrcSquelched.at 4 i).off < laneAddr 0 0 := by
    simp only [Field.at, F.clkLrcSquelched, laneAddr]
    omega
  refine Dev.when_keeps hx fun y hy => ?_
  unfold Dev.squelchLrc
  split
  · exact hy
  · exact (hy.putUnit (f := F.clkLrcSquelched.at 4 i) hlt 1).putUnit (f := clkEvent 6) (by decide) 1

theorem cdrLossOfLock_hunts (n : Lane) (s : State) (hlock : s.dev.on (F.laneSdsStatCdrLock.lane n) = true) (hloop : s.dev.nearLoop n = false) :
    ∃ t, exec (.cdrLossOfLock n) s = .next t ∧ t.dev.on (F.laneSdsStatCdrLock.lane n) = false
      ∧ (t.dev.lane n).cdrSince = none ∧ (t.dev.lane n).sieve.slots = List.replicate 8 {}
      ∧ t.dev.svState n = svHunt ∧ t.dev.defect n defOof = true ∧ t.mem = s.mem ∧ t.flash = s.flash := by
  have hcond : (s.dev.on (F.laneSdsStatCdrLock.lane n) && !s.dev.nearLoop n) = true := by
    rw [hlock, hloop]
    rfl
  have hexec := exec_cdrLossOfLock n s
  rw [State.when_true s hcond] at hexec
  have hlower : (s.dev.lower (F.laneSdsStatCdrLock.lane n)).on (F.laneSdsStatCdrLock.lane n) = false :=
    Dev.on_lower _ _ (show F.laneSdsStatCdrLock.lo + F.laneSdsStatCdrLock.len ≤ 32 by decide)
  generalize s.dev.lower (F.laneSdsStatCdrLock.lane n) = d0 at hlower hexec
  obtain ⟨d1, hd1⟩ : ∃ d1, d1 = d0.setLane n { s.dev.lane n with cdrSince := none, cdrLost := true } := ⟨_, rfl⟩
  have hset : d0.RegKept Reg.laneSdsStat d1 := (Dev.RegKept.refl _ d0).of_words (hd1 ▸ Dev.setLane_words ..)
  have hcdr : (d1.lane n).cdrSince = none := by rw [hd1, Dev.lane_setLane_same]
  rw [← hd1] at hexec
  have hsquelch := hset.squelchLane n
  have hcdr2 : ((d1.squelchLane n).lane n).cdrSince = none := by
    rw [Dev.lane, (d1.only_squelchLane n).lanes]
    exact hcdr
  obtain ⟨hslots, -, hsince⟩ := (d1.squelchLane n).lane_huntAgain n
  have hhunt : d0.RegKept Reg.laneSdsStat ((d1.squelchLane n).huntAgain n) :=
    (hsquelch.of_words (Dev.setLane_words ..)).setSv sdsStat_apart n svHunt
  obtain ⟨hstate, hdefect, -, -⟩ := ((d1.squelchLane n).setLane n
    { (d1.squelchLane n).lane n with sieve := ((d1.squelchLane n).lane n).sieve.restart }).setSv_shown n (st := svHunt) (by decide)
  refine ⟨_, hexec, ?_, hsince.trans hcdr2, hslots, hstate, hdefect, rfl, rfl⟩
  rw [Dev.on, hhunt.get (f := F.laneSdsStatCdrLock) rfl]
  exact hlower

end Sys2Proof.Machine

/-! The slips of the elastic store (R63, R135, R211, R251). -/

namespace Sys2Proof.Machine

set_option Elab.async false -- a proof at a time, within the memory of a check

/-! Registers that a row's blocks do not write -/

/-- The registers of the lanes' pages in which the Sieve counts. -/
def sieveCounters : List Nat := [Reg.laneSvMimic, Reg.laneSvUnres, Reg.laneSvFast, Reg.laneSvHunt, Reg.laneSvFull]

/-- A register of the lanes' pages that neither the alignment nor the blocks of a lost row write. -/
def slipApart (o : Nat) : Prop := (o < 0x1_0000 ∧ o ∉ alignmentRegs) ∧ o ∉ sieveCounters ∧ o ≠ Reg.laneTuRxseq

theorem esSlip_apart : slipApart Reg.laneEsSlip := by unfold slipApart; decide

theorem sdsStat_slipApart : slipApart Reg.laneSdsStat := by unfold slipApart; decide

theorem Dev.fsCheck_failed (d : Dev) (n b : Nat) : d.fsCheck n b .failed = d := rfl

theorem Dev.stateBlock_failed (d : Dev) (n : Nat) (load : List Byte) : d.stateBlock n .failed load = d := rfl

namespace Dev.RegKept

variable {o : Nat} {d e : Dev}

theorem rollIf (h : d.RegKept o e) {f : Field} (ho : o < 0x1_0000 ∧ f.off < 0x1_0000 ∧ o ≠ f.off) (n k : Nat) :
    d.RegKept o (if k = 0 then e else e.roll (f.lane n) k) := by
  split
  · exact h
  · exact h.put ho n _

section
variable (ho : slipApart o)
include ho

theorem applySieve (h : d.RegKept o e) (n : Nat) (r : Sieve × SieveOut) : d.RegKept o (e.applySieve n r) := by
  have hcounter {f : Field} (hf : f.off ∈ sieveCounters) (hlt : f.off < 0x1_0000) : o < 0x1_0000 ∧ f.off < 0x1_0000 ∧ o ≠ f.off :=
    ⟨ho.1.1, hlt, fun hof => ho.2.1 (hof ▸ hf)⟩
  unfold Dev.applySieve
  extract_lets l out c d1 d2 d3
  have h1 : d.RegKept o d1 := h.of_words (Dev.setLane_words ..)
  have h2 : d.RegKept o d2 :=
    ((((h1.rollIf (hcounter (f := F.laneSvFullCount) (by decide) (by decide)) n _).rollIf
      (hcounter (f := F.laneSvHuntCount) (by decide) (by decide)) n _).rollIf
      (hcounter (f := F.laneSvFastCount) (by decide) (by decide)) n _).rollIf
      (hcounter (f := F.laneSvUnresCount) (by decide) (by decide)) n _).rollIf
      (hcounter (f := F.laneSvMimicCount) (by decide) (by decide)) n _
  have h3 : d.RegKept o d3 := h2.of_only (d2.only_count (by split <;> decide) _ _)
  split
  · exact (h3.of_only (Dev.only_setTu _ n _)).setSv ho.1 n _
  · split
    · exact h3.setSv ho.1 n _
    · split
      · exact h3.setSv ho.1 n _
      · exact h3

/-! A block whose header fails (R135) -/

theorem tuArg_none (h : d.RegKept o e) (n b : Nat) : d.RegKept o (e.tuArg n b none) := by
  have hrxseq : o < 0x1_0000 ∧ F.laneTuRxseqSeq.off < 0x1_0000 ∧ o ≠ F.laneTuRxseqSeq.off := ⟨ho.1.1, by decide, ho.2.2⟩
  unfold Dev.tuArg
  extract_lets t d1 a i f
  split
  · exact h.of_only (e.only_setTu n _)
  · split
    · refine laneUpdate ho.1 ?_ n
      unfold d1
      split
      · next hnone => exact nomatch hnone
      · split
        · exact (h.of_only (e.only_setTu n _)).put hrxseq n _
        · exact h
    · split
      · exact h
      · split
        · refine RegKept.setReg (h.of_only (e.only_setTu n _)) ?_ n _
          split
          · exact apart ho.1 (by decide) (by decide)
          · exact apart ho.1 (by decide) (by decide)
        · exact h

theorem blockFailed (h : d.RegKept o e) (n b : Nat) : d.RegKept o (e.blockFailed n b) := by
  unfold Dev.blockFailed
  extract_lets t
  split
  · exact rewind ho.1 h n
  · exact Dev.when_keeps h fun _ hx => hx.of_only (Dev.only_setTu _ n _)

end

theorem ingressWrite (h : d.RegKept o e) (q : Nat) (l : List (Nat × Byte)) : d.RegKept o (e.ingressWrite q l) :=
  h.of_only (Dev.Only.part (S := [.inFill]) .inFill (by decide) fun _ _ hp => hp e _)

theorem copyAdd (h : d.RegKept o e) (p n s : Nat) (x : CopyBlk) : d.RegKept o (e.copyAdd p n s x) := by
  unfold Dev.copyAdd
  split
  · exact h.of_only (e.only_setTu n _)
  · exact h

theorem copyJudge (h : d.RegKept o e) (n s : Nat) : d.RegKept o (e.copyJudge n s) := by
  unfold Dev.copyJudge
  extract_lets t
  split
  · exact h.of_only (e.only_setTu n _)
  · exact h

theorem copyOpen (h : d.RegKept o e) (p n s at0 : Nat) : d.RegKept o (e.copyOpen p n s at0) := by
  unfold Dev.copyOpen
  extract_lets t place d1 x began due
  have h1 : d.RegKept o d1 := h.of_only (e.only_setTu n _)
  exact Dev.when_keeps h1 fun _ hx => hx.of_only (Dev.only_setTu _ p _)

section
variable (ho : slipApart o)
include ho

theorem copyBlock (h : d.RegKept o e) (p n b : Nat) (hdr : TuHdr) (load : List Byte) : d.RegKept o (e.copyBlock p n b hdr load) := by
  unfold Dev.copyBlock
  extract_lets t x
  split
  · exact h.of_only (e.only_setTu n _)
  · split
    · split
      · exact h
      · next q _ =>
        extract_lets s d1 d2
        have h1 : d.RegKept o d1 := h.copyOpen p n s _
        have h2 : d.RegKept o d2 := by
          unfold d2
          split
          · exact h1.copyAdd p n s _
          · exact h1
        exact strUpdate ho.1 (h2.copyAdd p n s x) p
    · split
      · exact h
      · exact Dev.when_keeps (h.copyAdd p n _ x) fun _ hx => hx.copyJudge n _

omit ho in
theorem noteReplaced (h : d.RegKept o e) (n : Nat) (other : List Nat) : d.RegKept o (e.noteReplaced n other) := by
  unfold Dev.noteReplaced
  extract_lets l
  split
  · exact h
  · exact (h.of_only (e.only_setTu n _)).of_only (Dev.only_protSee _)

theorem tuContent_failed (h : d.RegKept o e) (n b : Nat) (load : List Byte) : d.RegKept o (e.tuContent n b .failed load) := by
  unfold Dev.tuContent
  extract_lets a d1
  have h1 : d.RegKept o d1 := Dev.when_keeps h fun _ hx => hx.ingressWrite n _
  rw [if_pos (by rfl)]
  exact blockFailed ho h1 n b

theorem frameBlock_failed (h : d.RegKept o e) (n b : Nat) (load : List Byte) : d.RegKept o (e.frameBlock n b .failed load) := by
  unfold Dev.frameBlock
  extract_lets k d0 bad hdr d1 d2 clear t d3 d4 d4' d5 d6 u
  have hbad : bad = false := Bool.false_and _
  have hhdr : hdr = .failed := by
    unfold hdr
    rw [hbad]
    exact if_neg Bool.false_ne_true
  have h0 : d.RegKept o d0 := Dev.when_keeps h fun _ hx => hx.of_only (Dev.only_setTu _ n _)
  have h1 : d.RegKept o d1 := by
    unfold d1
    rw [hbad, hhdr, Dev.fsCheck_failed, Dev.when, if_neg Bool.false_ne_true]
    exact h0
  have h2 : d.RegKept o d2 := by
    unfold d2
    rw [hhdr]
    exact tuArg_none ho h1 n b
  have h3 : d.RegKept o d3 := h2.of_only (d2.only_setTu n _)
  have h4 : d.RegKept o d4 := by
    unfold d4
    rw [hhdr]
    split
    · exact Dev.when_keeps h3 fun _ hx => copyBlock ho hx _ n b _ clear
    · exact Dev.when_keeps h3 fun _ hx => tuContent_failed ho hx n b clear
  have h4' : d.RegKept o d4' := by
    refine Dev.when_keeps h4 fun x hx => ?_
    rw [hhdr, Dev.stateBlock_failed]
    exact hx
  have h5 : d.RegKept o d5 := Dev.when_keeps h4' fun _ hx => Dev.when_keeps hx fun _ hy => hy.ingressWrite n _
  have h6 : d.RegKept o d6 := Dev.when_keeps h5 fun _ hx => hx.noteReplaced n _
  exact h6.of_only (d6.only_setTu n _)

theorem tuSlip (h : d.RegKept o e) (n : Nat) (drop : Bool) : d.RegKept o (e.tuSlip n drop) := by
  unfold Dev.tuSlip
  extract_lets k r b later move l d1 t1 touched d2 b1 touched1
  have h1 : d.RegKept o d1 := h.of_words (Dev.setLane_words ..)
  split
  · exact h1.of_only (d1.only_setTu n _)
  · split
    · have h2 : d.RegKept o d2 := List.foldlRecOn (motive := d.RegKept o) (List.range r) _ h1 fun x hx _ _ =>
        (frameBlock_failed ho hx n _ []).of_only (Dev.only_setTu _ n _)
      exact Dev.when_keeps h2 fun _ hx => hx.of_only (Dev.only_setTu _ n _)
    · exact h1.of_only (d1.only_setTu n _)

end

end Dev.RegKept

end Sys2Proof.Machine

/-! What a slip of the elastic store shows (R63, R135). -/

namespace Sys2Proof.Machine

set_option Elab.async false -- a proof at a time, within the memory of a check

theorem Dev.Only.eq_words_lanes_paths {d e : Dev} (h : Dev.Only [.words, .lanes, .paths] d e) :
    e = { d with words := e.words, lanes := e.lanes, paths := e.paths } := by
  refine h Dev (fun x => { x with words := e.words, lanes := e.lanes, paths := e.paths }) fun y hy => ?_
  fin_cases hy <;> exact fun _ _ => rfl

section
variable (d : Dev) (n : Nat) (drop : Bool)

/-- The rows that the store holds when the slip is handled. -/
def Dev.slipRows : Dev := if drop then d else d.esGives n ((d.lane n).es.drop ((d.lane n).es.length - d.rowBytes n))

/-- The slip is counted, and the store is left at one row. -/
def Dev.slipCounted : Dev := ((d.slipRows n drop).roll (F.laneEsSlipSlip.lane n) 1).put (F.laneSdsStatEsFill.lane n) 64

theorem Dev.only_slipRows : Dev.Only [.lanes] d (d.slipRows n drop) :=
  iteInduction (motive := Dev.Only [.lanes] d) (fun _ => .refl _ d) fun _ => d.only_setLane n _

theorem Dev.sieveKept_slipRows : d.SieveKept (d.slipRows n drop) :=
  iteInduction (motive := d.SieveKept) (fun _ => .refl d) fun _ => (Dev.SieveKept.refl d).setLane n rfl

theorem Dev.only_slipCounted : Dev.Only [.words, .lanes] d (d.slipCounted n drop) :=
  (((d.only_slipRows n drop).mono (by decide)).step (Dev.only_roll _ _ _)).step (Dev.only_put _ _ _)

theorem Dev.sieveKept_slipCounted : d.SieveKept (d.slipCounted n drop) :=
  ((d.sieveKept_slipRows n drop).of_only (Dev.only_roll _ _ _)).of_only (Dev.only_put _ _ _)

theorem Dev.wordsBut_slipCounted : Dev.WordsBut [laneAddr n Reg.laneEsSlip, laneAddr n Reg.laneSdsStat] d (d.slipCounted n drop) :=
  (((Dev.WordsBut.refl _ d).of_words (d.only_slipRows n drop).words).roll (f := F.laneEsSlipSlip.lane n) List.mem_cons_self 1).put
    (f := F.laneSdsStatEsFill.lane n) (List.mem_cons_of_mem _ List.mem_cons_self) 64

theorem Dev.get_slipCounted_slip :
    (d.slipCounted n drop).get (F.laneEsSlipSlip.lane n) = (d.get (F.laneEsSlipSlip.lane n) + 1) % 2 ^ 32 := by
  rw [Dev.slipCounted, Dev.get_lane_put_apart _ _ _ (.inl (by decide)), Dev.get_roll_same (f := F.laneEsSlipSlip.lane n) _
    (show F.laneEsSlipSlip.lo + F.laneEsSlipSlip.len ≤ 32 by decide), Dev.get_congr (d.only_slipRows n drop).words]
  rfl

theorem Dev.get_slipCounted_fill : (d.slipCounted n drop).get (F.laneSdsStatEsFill.lane n) = 64 :=
  Dev.get_put_same _ (F.laneSdsStatEsFill.lane n) 64 (show F.laneSdsStatEsFill.lo + F.laneSdsStatEsFill.len ≤ 32 by decide)

/-- The registers of a lane that the slip does not write. -/
theorem Dev.regKept_slipCounted {o : Nat} (ho : o < 0x1_0000 ∧ o ≠ Reg.laneEsSlip ∧ o ≠ Reg.laneSdsStat) :
    d.RegKept o (d.slipCounted n drop) :=
  (((Dev.RegKept.refl o d).of_words (d.only_slipRows n drop).words).put (f := F.laneEsSlipSlip) ⟨ho.1, by decide, ho.2.1⟩ n _).put
    (f := F.laneSdsStatEsFill) ⟨ho.1, by decide, ho.2.2⟩ n 64

theorem Dev.inFrame_slipCounted : (d.slipCounted n drop).inFrame n = d.inFrame n := by
  have hstat := (d.regKept_slipCounted n drop (o := Reg.laneSvStat) (by decide)).get (f := F.laneSvStatState) rfl n
  have hdef := (d.regKept_slipCounted n drop (o := Reg.laneDefStat) (by decide)).get (f := defStatField defOof) rfl n
  exact congrArg₂ (fun a b : Nat => a == svFrame && !(b != 0)) hstat hdef

/-- How far a slip moves the Sieve's positions. -/
def slipBy (rate : Nat) (drop : Bool) : Int := if drop then -(270 * stmN rate : Int) else 270 * stmN rate

/-- The Sieve of a LINE lane after a slip. -/
def Dev.slipSieve : Sieve × SieveOut :=
  (d.lane n).sieve.shift (d.lane n).sieve.bg (lineFrameLen (d.lane n).rate) (slipBy (d.lane n).rate drop)

theorem Dev.slipRows_line : (d.slipRows n drop).slipSieve n drop = d.slipSieve n drop := by
  have hkept := d.sieveKept_slipRows n drop
  rw [Dev.slipSieve, hkept.sieve n, LaneSt.rate, hkept.cfg n]
  rfl

theorem Dev.slip_line (hline : (d.lane n).isLine = true) :
    ∃ l : List Nat, d.slip n drop = l.foldl Dev.rechoose ((d.slipCounted n drop).applySieve n (d.slipSieve n drop)) := by
  have hrows : ((d.slipRows n drop).lane n).isLine = true := ((d.sieveKept_slipRows n drop).isLine n).trans hline
  have hslip : ∃ l : List Nat,
      d.slip n drop = l.foldl Dev.rechoose ((d.slipCounted n drop).applySieve n ((d.slipRows n drop).slipSieve n drop)) := ⟨_, if_pos hrows⟩
  rwa [d.slipRows_line n drop] at hslip

theorem Dev.slip_other (hline : (d.lane n).isLine = false) :
    d.slip n drop = ((d.slipCounted n drop).count 0 n 3 1).tuSlip n drop := by
  have hrows : ((d.slipRows n drop).lane n).isLine = false := ((d.sieveKept_slipRows n drop).isLine n).trans hline
  exact if_neg (fun hline' => Bool.false_ne_true (hrows.symm.trans hline'))

/-- A slip that repeats a row, or one out of frame, moves the counts of blocks alone. -/
theorem Dev.only_tuSlip (h : drop = false ∨ d.inFrame n = false) : Dev.Only [.lanes] d (d.tuSlip n drop) := by
  unfold Dev.tuSlip
  extract_lets k r b later move l d1 t1 touched d2 b1 touched1
  have h1 : Dev.Only [.lanes] d d1 := d.only_setLane n _
  split
  · exact h1.step (d1.only_setTu n _)
  · next hframe =>
    rw [if_neg (by rw [h.resolve_right (by simpa using hframe)]; exact Bool.false_ne_true)]
    exact h1.step (d1.only_setTu n _)

/-- What shows of every slip. -/
theorem Dev.get_slip :
    (d.slip n drop).get (F.laneEsSlipSlip.lane n) = (d.get (F.laneEsSlipSlip.lane n) + 1) % 2 ^ 32
      ∧ (d.slip n drop).get (F.laneSdsStatEsFill.lane n) = 64 := by
  have hkept {o : Nat} (ho : slipApart o) : (d.slipCounted n drop).RegKept o (d.slip n drop) := by
    cases hline : (d.lane n).isLine with
    | true =>
      obtain ⟨l, hl⟩ := d.slip_line n drop hline
      rw [hl]
      exact ((Dev.RegKept.refl o _).applySieve ho n _).of_only (Dev.Only.foldl (S := [.paths]) l fun e k _ => e.only_rechoose k)
    | false =>
      rw [d.slip_other n drop hline]
      exact ((Dev.RegKept.refl o _).of_only (Dev.only_count _ (by decide) n 1)).tuSlip ho n drop
  rw [(hkept esSlip_apart).get (f := F.laneEsSlipSlip) rfl, (hkept sdsStat_slipApart).get (f := F.laneSdsStatEsFill) rfl]
  exact ⟨d.get_slipCounted_slip n drop, d.get_slipCounted_fill n drop⟩

/-- A slip of a LINE lane moves its Sieve, and nothing else where the Sieve reports nothing. -/
theorem Dev.slip_line_shown (hline : (d.lane n).isLine = true) :
    ((d.slip n drop).lane n).sieve = (d.slipSieve n drop).1
      ∧ ((d.slipSieve n drop).2 = {} → Dev.Only [.words, .lanes, .paths] d (d.slip n drop)
        ∧ Dev.WordsBut [laneAddr n Reg.laneEsSlip, laneAddr n Reg.laneSdsStat] d (d.slip n drop)) := by
  obtain ⟨l, hl⟩ := d.slip_line n drop hline
  rw [hl]
  have hpaths (e : Dev) : Dev.Only [.paths] e (l.foldl Dev.rechoose e) := .foldl l fun x k _ => x.only_rechoose k
  refine ⟨?_, fun hout => ?_⟩
  · rw [Dev.lane, (hpaths _).lanes]
    exact (d.slipCounted n drop).sieve_applySieve n _
  · rcases hv : d.slipSieve n drop with ⟨v, o⟩
    rw [hv] at hout
    obtain rfl : o = {} := hout
    rw [Dev.applySieve_quiet]
    have hset := (d.slipCounted n drop).only_setLane n { (d.slipCounted n drop).lane n with sieve := v }
    exact ⟨(((d.only_slipCounted n drop).mono (by decide)).step hset).step (hpaths _),
      (d.wordsBut_slipCounted n drop).of_words ((hpaths _).words.trans hset.words)⟩

/-- A slip of another lane that moves counts of blocks alone. -/
theorem Dev.slip_other_shown (hline : (d.lane n).isLine = false) (h : drop = false ∨ d.inFrame n = false) :
    Dev.Only [.words, .lanes, .acc] d (d.slip n drop)
      ∧ Dev.WordsBut [laneAddr n Reg.laneEsSlip, laneAddr n Reg.laneSdsStat] d (d.slip n drop) := by
  rw [d.slip_other n drop hline]
  have hcount := (d.slipCounted n drop).only_count (show bwObject 0 3 = none by decide) n 1
  have hframe : ((d.slipCounted n drop).count 0 n 3 1).inFrame n = d.inFrame n := by
    rw [← d.inFrame_slipCounted n drop, Dev.inFrame, Dev.svState, Dev.defect, Dev.get_congr hcount.words, Dev.on_congr hcount.words]
    rfl
  have hslip := ((d.slipCounted n drop).count 0 n 3 1).only_tuSlip n drop (h.imp_right hframe.trans)
  exact ⟨(((d.only_slipCounted n drop).mono (by decide)).step hcount).step hslip,
    (d.wordsBut_slipCounted n drop).of_words (hslip.words.trans hcount.words)⟩

end

/-! The command -/

theorem exec_elasticStoreSlip (n : Lane) (fill : BitVec 8) (s : State) :
    exec (.elasticStoreSlip n fill) s = .next { s with dev :=
      (if fill.toNat = 0 then s.dev.slip n false else if 128 ≤ fill.toNat then s.dev.slip n true
        else s.dev.put (F.laneSdsStatEsFill.lane n) fill.toNat) } := rfl

theorem exec_elasticStoreSlip_slip {fill : BitVec 8} (n : Lane) (s : State) (h : fill = 0 ∨ 128 ≤ fill.toNat) :
    exec (.elasticStoreSlip n fill) s = .next { s with dev := s.dev.slip n (decide (fill ≠ 0)) } := by
  rw [exec_elasticStoreSlip]
  rcases h with rfl | h
  · rw [if_pos (show (0 : BitVec 8).toNat = 0 from rfl), decide_eq_false (not_not_intro (rfl : (0 : BitVec 8) = 0))]
  · have hne : fill.toNat ≠ 0 := by omega
    have hfill : fill ≠ 0 := fun h0 => hne (by rw [h0]; rfl)
    rw [if_neg hne, if_pos h, decide_eq_true hfill]

theorem elasticStoreSlip_slips (n : Lane) (fill : BitVec 8) (s : State) (h : fill = 0 ∨ 128 ≤ fill.toNat) :
    ∃ t, exec (.elasticStoreSlip n fill) s = .next t
      ∧ t.dev.get (F.laneEsSlipSlip.lane n) = (s.dev.get (F.laneEsSlipSlip.lane n) + 1) % 2 ^ 32
      ∧ t.dev.get (F.laneSdsStatEsFill.lane n) = 64 ∧ t.mem = s.mem ∧ t.flash = s.flash
      ∧ ((s.dev.lane n).isLine = true →
          let row : Nat := 270 * stmN (s.dev.lane n).rate
          let v := (s.dev.lane n).sieve.shift (s.dev.lane n).sieve.bg (lineFrameLen (s.dev.lane n).rate)
            (if fill = 0 then (row : Int) else -(row : Int))
          (t.dev.lane n).sieve = v.1
          ∧ (v.2 = {} → t = { s with dev := { s.dev with words := t.dev.words, lanes := t.dev.lanes, paths := t.dev.paths } }
              ∧ Dev.WordsBut [laneAddr n Reg.laneEsSlip, laneAddr n Reg.laneSdsStat] s.dev t.dev))
      ∧ ((s.dev.lane n).isLine = false → (fill = 0 ∨ s.dev.inFrame n = false) →
          t = { s with dev := { s.dev with words := t.dev.words, lanes := t.dev.lanes, acc := t.dev.acc } })
      ∧ ((s.dev.lane n).isLine = false → (fill = 0 ∨ s.dev.inFrame n = false) →
          Dev.WordsBut [laneAddr n Reg.laneEsSlip, laneAddr n Reg.laneSdsStat] s.dev t.dev) := by
  obtain ⟨hslip, hfill⟩ := s.dev.get_slip n (decide (fill ≠ 0))
  have hother (hline : (s.dev.lane n).isLine = false) (hcase : fill = 0 ∨ s.dev.inFrame n = false) :=
    s.dev.slip_other_shown n (decide (fill ≠ 0)) hline (hcase.imp_left fun h0 => by rw [h0]; rfl)
  refine ⟨_, exec_elasticStoreSlip_slip n s h, hslip, hfill, rfl, rfl, fun hline => ?_, fun hline hcase => ?_, fun hline hcase => ?_⟩
  · intro row v
    have hv : v = s.dev.slipSieve n (decide (fill ≠ 0)) := by
      have hby : (if fill = 0 then (row : Int) else -(row : Int)) = slipBy (s.dev.lane n).rate (decide (fill ≠ 0)) := by
        rw [slipBy]
        by_cases h0 : fill = 0
        · rw [if_pos h0, decide_eq_false (not_not_intro h0), if_neg Bool.false_ne_true]
          simp [row]
        · rw [if_neg h0, decide_eq_true h0, if_pos rfl]
          simp [row]
      exact congrArg ((s.dev.lane n).sieve.shift (s.dev.lane n).sieve.bg (lineFrameLen (s.dev.lane n).rate)) hby
    obtain ⟨hsieve, hquiet⟩ := s.dev.slip_line_shown n (decide (fill ≠ 0)) hline
    rw [hv]
    refine ⟨hsieve, fun hout => ?_⟩
    obtain ⟨honly, hwords⟩ := hquiet hout
    exact ⟨congrArg (fun e => ({ s with dev := e } : State)) honly.eq_words_lanes_paths, hwords⟩
  · exact congrArg (fun e => ({ s with dev := e } : State)) (hother hline hcase).1.eq_words_lanes_acc
  · exact (hother hline hcase).2

/-- Settles O14: the lock and its loss, the restart at an edge, and the slips, each from what it does to the lane's receiver. -/
theorem cdrRestartAndSlip : Obligations.CdrRestartAndSlip := by
  refine ⟨fun n s => ⟨fun ppm hlo hhi hlock => cdrLock_locks n ppm s hlo hhi hlock, cdrLossOfLock_hunts n s, receiveStateRestart_lane n s⟩,
    fun n fill s => ⟨fun hne hlt => ?_, elasticStoreSlip_slips n fill s⟩⟩
  have hzero : fill.toNat ≠ 0 := fun h0 => hne (BitVec.eq_of_toNat_eq h0)
  have hexec := exec_elasticStoreSlip n fill s
  rw [if_neg hzero, if_neg (Nat.not_le.mpr hlt)] at hexec
  have hput := (Dev.WordsOnly.refl [laneAddr n Reg.laneSdsStat] s.dev).put (f := F.laneSdsStatEsFill.lane n) List.mem_cons_self fill.toNat
  refine ⟨_, hexec, ?_, congrArg (fun e => ({ s with dev := e } : State)) hput.1, hput.2⟩
  exact (Dev.get_put_same _ (F.laneSdsStatEsFill.lane n) _ (show F.laneSdsStatEsFill.lo + F.laneSdsStatEsFill.len ≤ 32 by decide)).trans
    (Nat.mod_eq_of_lt (show fill.toNat < 2 ^ F.laneSdsStatEsFill.len from Nat.lt_trans hlt (by decide)))

end Sys2Proof.Machine

/-! The acceptance of K1 and K2 (R164, R165). -/

namespace Sys2Proof.Machine

set_option Elab.async false -- a proof at a time, within the memory of a check

/-- A frame equation for what protection sees of a lane's overhead. -/
theorem Dev.Only.eq_words_lanes_prot {d e : Dev} (h : Dev.Only [.words, .lanes, .msp, .snc, .items] d e) :
    e = { d with words := e.words, lanes := e.lanes, msp := e.msp, snc := e.snc, mate := { d.mate with items := e.mate.items } } := by
  refine h Dev (fun x => { x with words := e.words, lanes := e.lanes, msp := e.msp, snc := e.snc,
                                  mate := { x.mate with items := e.mate.items } }) fun y hy => ?_
  fin_cases hy <;> exact fun _ _ => rfl

theorem Dev.Only.eq_words_prot {d e : Dev} (h : Dev.Only [.words, .msp, .snc, .items] d e) :
    e = { d with words := e.words, msp := e.msp, snc := e.snc, mate := { d.mate with items := e.mate.items } } := by
  refine h Dev (fun x => { x with words := e.words, msp := e.msp, snc := e.snc, mate := { x.mate with items := e.mate.items } }) fun y hy => ?_
  fin_cases hy <;> exact fun _ _ => rfl

section
variable (d : Dev) (n : Nat)

/-- The pair of K1 and K2[7:3] is accepted where three frames carried it. -/
def Dev.pairAccepted : Dev :=
  d.when (decide (3 ≤ (d.soh n).k.count)) (fun e =>
    ((((e.put (F.laneSohKrxK1.lane n) ((d.soh n).k.value / 32)).put (F.laneSohKrxK2h.lane n) (d.soh n).k.value).raise
      (F.laneSohKrxValid.lane n)).raise (F.laneSohStatKValid.lane n)).lower (F.laneSohStatKUnstable.lane n))

/-- And so is K2[2:0] on its own. -/
def Dev.kAccepted : Dev :=
  (d.pairAccepted n).when (decide (3 ≤ (d.soh n).k2l.count)) (fun e =>
    (e.put (F.laneSohKrxK2l.lane n) (d.soh n).k2l.value).raise (F.laneSohKrxK2lValid.lane n))

/-- A value that was not the accepted one. -/
def Dev.kNews : Bool :=
  decide ((3 ≤ (d.soh n).k.count ∧ (!d.on (F.laneSohKrxValid.lane n) ∨
      d.get (F.laneSohKrxK1.lane n) * 32 + d.get (F.laneSohKrxK2h.lane n) ≠ (d.soh n).k.value))
    ∨ (3 ≤ (d.soh n).k2l.count ∧ (!d.on (F.laneSohKrxK2lValid.lane n) ∨ d.get (F.laneSohKrxK2l.lane n) ≠ (d.soh n).k2l.value)))

/-- The last valid K1 is noted. -/
def Dev.kNoted : Dev :=
  (d.kAccepted n).when (decide (3 ≤ (d.soh n).k.count) && kCodeValid ((d.soh n).k.value / 512)) (fun e =>
    e.setSoh n { e.soh n with kLast := (d.soh n).k.value / 32 })

theorem Dev.acceptK_eq : d.acceptK n = ((d.kNoted n).when (d.kNews n) (fun e => sohEvent n F.laneSohEvtKChg e)).protSee := rfl

theorem Dev.words_kNoted : (d.kNoted n).words = (d.kAccepted n).words :=
  Dev.when_of (P := fun e : Dev => e.words = (d.kAccepted n).words) _ rfl (Dev.setLane_words ..)

abbrev kWords : List Nat := [laneAddr n Reg.laneSohKrx, laneAddr n Reg.laneSohStat, laneAddr n Reg.laneSohEvt]

theorem Dev.laneOnly_kAccepted : d.LaneOnly n (kWords n) (d.kAccepted n) := by
  have hpair : d.LaneOnly n (kWords n) (d.pairAccepted n) := Dev.when_keeps (.refl _ _ d) fun _ hx =>
    ((((hx.put (f := F.laneSohKrxK1.lane n) (.head _) _).put (f := F.laneSohKrxK2h.lane n) (.head _) _).raise
      (f := F.laneSohKrxValid.lane n) (.head _)).raise (f := F.laneSohStatKValid.lane n) (.tail _ (.head _))).lower
      (f := F.laneSohStatKUnstable.lane n) (.tail _ (.head _))
  exact Dev.when_keeps hpair fun _ hx =>
    (hx.put (f := F.laneSohKrxK2l.lane n) (.head _) _).raise (f := F.laneSohKrxK2lValid.lane n) (.head _)

theorem Dev.laneOnly_kShown :
    d.LaneOnly n (kWords n) ((d.kNoted n).when (d.kNews n) (fun e => sohEvent n F.laneSohEvtKChg e)) := by
  have hnoted : d.LaneOnly n (kWords n) (d.kNoted n) := Dev.when_keeps (d.laneOnly_kAccepted n) fun _ hx => hx.setSoh _
  exact Dev.when_keeps hnoted fun _ hx => hx.raise (f := F.laneSohEvtKChg.lane n) (.tail _ (.tail _ (.head _)))

/-- A field that the event and what protection sees leave alone. -/
theorem Dev.get_acceptK {f : Field} (hf : f.off ≠ Reg.laneSohEvt) : (d.acceptK n).get (f.lane n) = (d.kAccepted n).get (f.lane n) := by
  rw [Dev.acceptK_eq, Dev.get_congr (Dev.only_protSee _).words]
  refine (Dev.when_of (P := fun e : Dev => e.get (f.lane n) = (d.kNoted n).get (f.lane n)) _ rfl ?_).trans (Dev.get_congr (d.words_kNoted n) _)
  exact Dev.get_lane_put_apart _ _ _ (.inl hf)

/-- A field of the pair, and of what shows of it, that K2[2:0] leaves alone. -/
theorem Dev.get_kAccepted {f : Field} (hf : ∀ g ∈ [F.laneSohKrxK2l, F.laneSohKrxK2lValid], f.off ≠ g.off ∨
      (g.lo + g.len ≤ 32 ∧ f.lo + f.len ≤ 32 ∧ (f.lo + f.len ≤ g.lo ∨ g.lo + g.len ≤ f.lo))) :
    (d.kAccepted n).get (f.lane n) = (d.pairAccepted n).get (f.lane n) := by
  refine Dev.when_of (P := fun e : Dev => e.get (f.lane n) = (d.pairAccepted n).get (f.lane n)) _ rfl ?_
  exact (Dev.get_lane_put_apart _ _ _ (hf _ (by simp))).trans (Dev.get_lane_put_apart _ _ _ (hf _ (by simp)))

theorem Dev.acceptK_pair (h : 3 ≤ (d.soh n).k.count) :
    (d.acceptK n).get (F.laneSohKrxK1.lane n) = (d.soh n).k.value / 32 % 256
      ∧ (d.acceptK n).get (F.laneSohKrxK2h.lane n) = (d.soh n).k.value % 32 ∧ (d.acceptK n).on (F.laneSohKrxValid.lane n) = true
      ∧ (d.acceptK n).on (F.laneSohStatKValid.lane n) = true ∧ (d.acceptK n).on (F.laneSohStatKUnstable.lane n) = false := by
  have hpair : d.pairAccepted n = _ := if_pos (decide_eq_true h)
  have hget {f : Field} (hf : f.off ≠ Reg.laneSohEvt ∧ ∀ g ∈ [F.laneSohKrxK2l, F.laneSohKrxK2lValid], f.off ≠ g.off ∨
      (g.lo + g.len ≤ 32 ∧ f.lo + f.len ≤ 32 ∧ (f.lo + f.len ≤ g.lo ∨ g.lo + g.len ≤ f.lo))) :
      (d.acceptK n).get (f.lane n) = (d.pairAccepted n).get (f.lane n) := (d.get_acceptK n hf.1).trans (d.get_kAccepted n hf.2)
  simp only [Dev.on]
  rw [hget (by decide), hget (by decide), hget (by decide), hget (by decide), hget (by decide), hpair]
  refine ⟨?_, ?_, ?_, ?_, ?_⟩
  · rw [Dev.lower, Dev.raise, Dev.raise, Dev.get_lane_put_apart _ _ _ (by decide), Dev.get_lane_put_apart _ _ _ (by decide),
      Dev.get_lane_put_apart _ _ _ (by decide), Dev.get_lane_put_apart _ _ _ (by decide), Dev.get_lane_put_same _ _ _ (by decide)]
    rfl
  · rw [Dev.lower, Dev.raise, Dev.raise, Dev.get_lane_put_apart _ _ _ (by decide), Dev.get_lane_put_apart _ _ _ (by decide),
      Dev.get_lane_put_apart _ _ _ (by decide), Dev.get_lane_put_same _ _ _ (by decide)]
    rfl
  · rw [Dev.lower, Dev.raise, Dev.raise, Dev.get_lane_put_apart _ _ _ (by decide), Dev.get_lane_put_apart _ _ _ (by decide),
      Dev.get_lane_put_same _ _ _ (by decide)]
    rfl
  · rw [Dev.lower, Dev.raise, Dev.raise, Dev.get_lane_put_apart _ _ _ (by decide), Dev.get_lane_put_same _ _ _ (by decide)]
    rfl
  · rw [Dev.lower, Dev.get_lane_put_same _ _ _ (by decide)]
    rfl

theorem Dev.acceptK_low (h : 3 ≤ (d.soh n).k2l.count) :
    (d.acceptK n).get (F.laneSohKrxK2l.lane n) = (d.soh n).k2l.value % 8 ∧ (d.acceptK n).on (F.laneSohKrxK2lValid.lane n) = true := by
  have hlow : d.kAccepted n = _ := if_pos (decide_eq_true h)
  rw [Dev.on, Dev.get_acceptK _ _ (by decide), Dev.get_acceptK _ _ (by decide), hlow]
  refine ⟨?_, ?_⟩
  · rw [Dev.raise, Dev.get_lane_put_apart _ _ _ (by decide), Dev.get_lane_put_same _ _ _ (by decide)]
    rfl
  · rw [Dev.raise, Dev.get_lane_put_same _ _ _ (by decide)]
    rfl

/-- The first acceptance of a pair is an event. -/
theorem Dev.acceptK_event (h : 3 ≤ (d.soh n).k.count) (hvalid : d.on (F.laneSohKrxValid.lane n) = false) :
    (d.acceptK n).on (F.laneSohEvtKChg.lane n) = true := by
  have hnews : d.kNews n = true := decide_eq_true (.inl ⟨h, .inl (by rw [hvalid]; rfl)⟩)
  rw [Dev.acceptK_eq, Dev.on_congr (Dev.only_protSee _).words, hnews, Dev.when, if_pos rfl]
  exact Dev.on_raise _ (F.laneSohEvtKChg.lane n) (show F.laneSohEvtKChg.lo + F.laneSohEvtKChg.len ≤ 32 by decide) (by decide : 1 ≤ F.laneSohEvtKChg.len)

theorem Dev.only_acceptK : Dev.Only [.words, .lanes, .msp, .snc, .items] d (d.acceptK n) := by
  have hpair : Dev.Only [.words] d (d.pairAccepted n) := .whenStep _ fun e => ((((e.only_put _ _).step (Dev.only_put _ _ _)).step
    (Dev.only_raise _ _)).step (Dev.only_raise _ _)).step (Dev.only_lower _ _)
  have hlow : Dev.Only [.words] d (d.kAccepted n) := hpair.trans (.whenStep _ fun e => (e.only_put _ _).step (Dev.only_raise _ _))
  have hnoted : Dev.Only [.words, .lanes] d (d.kNoted n) := (hlow.mono (by decide)).trans
    (.whenStep _ fun e => (e.only_setSoh n _).mono (by decide))
  rw [Dev.acceptK_eq]
  exact ((hnoted.mono (by decide)).trans (.whenStep _ fun e => (e.only_raise _).mono (by decide))).step (Dev.only_protSee _)

end

theorem exec_kAccept (n : PortLane) (s : State) :
    exec (.kAccept n) s = .next { s with dev := (s.dev.when (s.dev.kMayAccept n) (fun d => d.acceptK n)) } := rfl

theorem exec_kUnstable (n : PortLane) (s : State) :
    exec (.kUnstable n) s = .next { s with dev := (s.dev.when
      (s.dev.kMayAccept n && decide (12 ≤ (s.dev.soh n).kSince) && !s.dev.on (F.laneSohStatKUnstable.lane n))
      (fun d => (sohEvent n F.laneSohEvtKUnstable (d.raise (F.laneSohStatKUnstable.lane n))).protSee)) } := rfl

theorem Dev.kMayAccept_of {d : Dev} {n : Nat} (hline : (d.lane n).isLine = true) (hheld : d.kHeld n = false) (hais : (d.soh n).ais < 3) :
    d.kMayAccept n = true := by
  have hl : d.isLine n = true := hline
  rw [Dev.kMayAccept, hl, hheld, decide_eq_true hais]
  rfl

/-- Settles O23: an acceptance puts the values that enough frames carried, and the twelfth frame without one is shown. -/
theorem kAcceptance : Obligations.KAcceptance := by
  intro n s hline hheld hais
  have hmay : s.dev.kMayAccept n = true := Dev.kMayAccept_of hline hheld hais
  refine ⟨?_, fun h12 hstable => ?_⟩
  · have hexec := exec_kAccept n s
    rw [State.when_true s hmay] at hexec
    have hshown := s.dev.laneOnly_kShown n
    have hprot := Dev.only_protSee ((s.dev.kNoted n).when (s.dev.kNews n) (fun e => sohEvent n F.laneSohEvtKChg e))
    rw [← Dev.acceptK_eq] at hprot
    refine ⟨_, hexec, fun h => ?_, s.dev.acceptK_low n, hshown.2.1.of_words hprot.words, fun q hq => ?_,
      congrArg (fun e => ({ s with dev := e } : State)) (s.dev.only_acceptK n).eq_words_lanes_prot⟩
    · obtain ⟨hk1, hk2h, hvalid, hkvalid, hunstable⟩ := s.dev.acceptK_pair n h
      exact ⟨hk1, hk2h, hvalid, hkvalid, hunstable, s.dev.acceptK_event n h⟩
    · rw [Dev.lane, hprot.lanes, ← Dev.lane]
      exact hshown.2.2 q hq
  · have hcond : (s.dev.kMayAccept n && decide (12 ≤ (s.dev.soh n).kSince) && !s.dev.on (F.laneSohStatKUnstable.lane n)) = true := by
      rw [hmay, decide_eq_true h12, hstable]
      rfl
    have hexec := exec_kUnstable n s
    rw [State.when_true s hcond] at hexec
    have hwords : Dev.WordsBut [laneAddr n Reg.laneSohStat, laneAddr n Reg.laneSohEvt] s.dev
        (sohEvent n F.laneSohEvtKUnstable (s.dev.raise (F.laneSohStatKUnstable.lane n))) :=
      ((Dev.WordsBut.refl _ s.dev).raise (f := F.laneSohStatKUnstable.lane n) (.head _)).raise (f := F.laneSohEvtKUnstable.lane n)
        (.tail _ (.head _))
    have honly : Dev.Only [.words] s.dev (sohEvent n F.laneSohEvtKUnstable (s.dev.raise (F.laneSohStatKUnstable.lane n))) :=
      (s.dev.only_raise _).step (Dev.only_raise _ _)
    have hstat : (sohEvent n F.laneSohEvtKUnstable (s.dev.raise (F.laneSohStatKUnstable.lane n))).on (F.laneSohStatKUnstable.lane n) = true := by
      rw [Dev.on, sohEvent, Dev.raise, Dev.get_lane_put_apart _ _ _ (.inl (by decide))]
      exact Dev.on_raise _ (F.laneSohStatKUnstable.lane n) (show F.laneSohStatKUnstable.lo + F.laneSohStatKUnstable.len ≤ 32 by decide)
        (by decide : 1 ≤ F.laneSohStatKUnstable.len)
    have hevt : (sohEvent n F.laneSohEvtKUnstable (s.dev.raise (F.laneSohStatKUnstable.lane n))).on (F.laneSohEvtKUnstable.lane n) = true :=
      Dev.on_raise _ (F.laneSohEvtKUnstable.lane n) (show F.laneSohEvtKUnstable.lo + F.laneSohEvtKUnstable.len ≤ 32 by decide)
        (by decide : 1 ≤ F.laneSohEvtKUnstable.len)
    generalize sohEvent n F.laneSohEvtKUnstable (s.dev.raise (F.laneSohStatKUnstable.lane n)) = d1 at hexec hwords honly hstat hevt
    have hprot := d1.only_protSee
    exact ⟨_, hexec, (Dev.on_congr hprot.words _).trans hstat, (Dev.on_congr hprot.words _).trans hevt, hwords.of_words hprot.words,
      congrArg (fun e => ({ s with dev := e } : State)) (((honly.mono (by decide)).step hprot).eq_words_prot)⟩

end Sys2Proof.Machine

/-! The defects of the multiplex section (R169, R173, R177, R381). -/

namespace Sys2Proof.Machine

set_option Elab.async false -- a proof at a time, within the memory of a check

/-- A frame equation for what a defect of a LINE lane changes. -/
theorem Dev.Only.eq_line {d e : Dev} (h : Dev.Only lineParts d e) :
    e = { d with words := e.words, lanes := e.lanes, acc := e.acc, msp := e.msp, snc := e.snc, inFill := e.inFill, est := e.est,
                 estAcc := e.estAcc, mate := { d.mate with items := e.mate.items } } := by
  refine h Dev (fun x => { x with words := e.words, lanes := e.lanes, acc := e.acc, msp := e.msp, snc := e.snc, inFill := e.inFill,
                                  est := e.est, estAcc := e.estAcc, mate := { x.mate with items := e.mate.items } }) fun y hy => ?_
  fin_cases hy <;> exact fun _ _ => rfl

/-! The words of a defect -/

section
variable {d : Dev} {n : Nat}

/-- The words of lane `n` that a change of a defect writes. -/
abbrev defectWords (n : Nat) : List Nat := [laneAddr n Reg.laneDefStat, laneAddr n Reg.laneDefEvt]

theorem Dev.WordsBut.setDefect {l : List Nat} {e : Dev} (h : Dev.WordsBut l d e) (hl : defectWords n ⊆ l) (bit : Nat) (v : Bool) :
    Dev.WordsBut l d (e.setDefect n bit v) := by
  by_cases hold : e.defect n bit = v
  · rw [Dev.setDefect_of_eq hold]
    exact h
  · have hput := (h.put (f := (defStatField bit).lane n) (hl (.head _)) (bitOf v)).raise (f := (defEvtField bit).lane n)
      (hl (.tail _ (.head _)))
    exact hput.of_words (Dev.setDefect_words hold)

theorem Dev.WordsBut.lineUpdate {l : List Nat} {e : Dev} (h : Dev.WordsBut l d e) (hl : laneAddr n Reg.laneSohStat ∈ l) :
    Dev.WordsBut l d (e.lineUpdate n) :=
  Dev.when_keeps h fun x hx => (hx.raise (f := F.laneSohStatAisDs.lane n) hl).of_words (x.raise (F.laneSohStatAisDs.lane n) |>.only_aisFrom n).words

theorem Dev.WordsBut.b2Pause {l : List Nat} {e : Dev} (h : Dev.WordsBut l d e) (hl : defectWords n ⊆ l) : Dev.WordsBut l d (e.b2Pause n) :=
  ((((h.of_words (Dev.setLane_words ..)).of_words (Dev.only_estClear _ _).words).of_words (Dev.only_estClear _ _).words).setDefect hl
    defSd false).setDefect hl defSf false

/-- A change of a defect is an event. -/
theorem Dev.event_setDefect {bit : Nat} {v : Bool} (hold : d.defect n bit ≠ v) (hbit : bit < 32) :
    (d.setDefect n bit v).on ((defEvtField bit).lane n) = true := by
  rw [Dev.on_congr (Dev.setDefect_words hold)]
  exact Dev.on_raise _ ((defEvtField bit).lane n) hbit (Nat.le_refl 1)

/-- An event stays. -/
theorem Dev.event_stays {bit b : Nat} {v : Bool} (h : d.on ((defEvtField bit).lane n) = true) (hbit : bit < 32) (hb : b < 32) :
    (d.setDefect n b v).on ((defEvtField bit).lane n) = true := by
  by_cases hold : d.defect n b = v
  · rwa [Dev.setDefect_of_eq hold]
  · by_cases hsame : b = bit
    · subst hsame
      exact Dev.event_setDefect hold hbit
    · rw [Dev.on_congr (Dev.setDefect_words hold), Dev.on, Dev.raise, Dev.get_lane_put_apart (f := defEvtField b) (g := defEvtField bit) _ _ _
          (.inr ⟨hb, hbit, by simp only [defEvtField]; omega⟩),
        Dev.get_lane_put_apart _ _ _ (.inl (show Reg.laneDefEvt ≠ Reg.laneDefStat by decide))]
      exact h

theorem Dev.event_b2Pause {bit : Nat} (h : d.on ((defEvtField bit).lane n) = true) (hbit : bit < 32) :
    (d.b2Pause n).on ((defEvtField bit).lane n) = true := by
  have hsoh := (Dev.on_congr (Dev.setLane_words d n { d.lane n with soh := { d.soh n with exc := 0, noExc := 0 } }) _).trans h
  have hest := (Dev.on_congr (Dev.only_estClear _ (estKeyLane n 1)).words _).trans
    ((Dev.on_congr (Dev.only_estClear _ (estKeyLane n 0)).words _).trans hsoh)
  exact Dev.event_stays (Dev.event_stays hest hbit (by decide)) hbit (by decide)

end

/-! MS-AIS and MS-RDI -/

section
variable (d : Dev) (n : Nat)

abbrev maintWords : List Nat :=
  [laneAddr n Reg.laneSohStat, laneAddr n Reg.laneSohEvt, laneAddr n Reg.laneDefStat, laneAddr n Reg.laneDefEvt]

/-- A defect of the multiplex section with its fields of `SOH_STAT` and `SOH_EVT`. -/
structure MaintFields (bit : Nat) (stat evt : Field) : Prop where
  bit_lt : bit < 32
  stat_off : stat.off = Reg.laneSohStat
  evt_off : evt.off = Reg.laneSohEvt
  stat_lo : stat.lo < 32
  evt_lo : evt.lo + evt.len ≤ 32
  stat_len : stat.len = 1
  evt_len : 1 ≤ evt.len
  stat_apart : F.laneSohStatAisDs.apart stat = true

theorem maintFields_ais : MaintFields defMsais F.laneSohStatMsais F.laneSohEvtMsaisChg := by constructor <;> decide

theorem maintFields_rdi : MaintFields defMsrdi F.laneSohStatMsrdi F.laneSohEvtMsrdiChg := by constructor <;> decide

variable {bit : Nat} {stat evt : Field} {v : Bool}

theorem Dev.wordsBut_setMaint (hf : MaintFields bit stat evt) : Dev.WordsBut (maintWords n) d (d.setMaint n bit stat evt v) := by
  have hstat : (stat.lane n).off ∈ maintWords n := by
    rw [Field.lane_off, hf.stat_off]
    exact .head _
  have hevt : (evt.lane n).off ∈ maintWords n := by
    rw [Field.lane_off, hf.evt_off]
    exact .tail _ (.head _)
  exact ((((Dev.WordsBut.refl _ d).put hstat _).setDefect (fun _ h => .tail _ (.tail _ h)) bit v).raise hevt).lineUpdate (.head _)

theorem Dev.only_setMaint : Dev.Only lineParts d (d.setMaint n bit stat evt v) :=
  ((((d.only_put _ _).mono (by decide)).step (Dev.only_setDefect _ n bit v)).step (Dev.only_raise _ _)).step (Dev.only_lineUpdate _ n)

theorem Dev.otherLanes_setMaint : d.OtherLanes n (d.setMaint n bit stat evt v) :=
  ((((Dev.OtherLanes.refl n d).of_only (Dev.only_put _ _ _)).setDefect bit v).of_only (Dev.only_raise _ _)).of_only (Dev.only_lineUpdate _ n)

/-- A field that `AIS_DS` leaves alone. -/
theorem Dev.get_lineUpdate {f : Field} (hf : F.laneSohStatAisDs.apart f = true) : (d.lineUpdate n).get (f.lane n) = d.get (f.lane n) := by
  refine Dev.when_of (P := fun e : Dev => e.get (f.lane n) = d.get (f.lane n)) _ rfl ?_
  rw [Dev.get_congr (Dev.only_aisFrom _ n).words]
  exact Dev.get_lane_put_apart _ _ _ (of_decide_eq_true hf)

theorem Dev.setMaint_shown (hf : MaintFields bit stat evt) (hold : d.defect n bit = !v) :
    (d.setMaint n bit stat evt v).defect n bit = v ∧ (d.setMaint n bit stat evt v).on (stat.lane n) = v
      ∧ (d.setMaint n bit stat evt v).on (evt.lane n) = true ∧ (d.setMaint n bit stat evt v).on ((defEvtField bit).lane n) = true := by
  obtain ⟨hbit, hsoff, heoff, hslo, helo, hslen, helen, hapart⟩ := hf
  obtain ⟨d0, hd0⟩ : ∃ d0, d0 = d.put (stat.lane n) (bitOf v) := ⟨_, rfl⟩
  have hstat0 : d0.on (stat.lane n) = v := hd0 ▸ d.on_put_bitOf (stat.lane n) v hslo hslen
  have hold0 : d0.defect n bit ≠ v := by
    have hkept : d0.defect n bit = d.defect n bit := by
      rw [hd0]
      exact congrArg (· != 0) (Dev.get_lane_put_apart (g := defStatField bit) d n _
        (.inl (by rw [hsoff]; exact (show Reg.laneDefStat ≠ Reg.laneSohStat by decide))))
    rw [hkept, hold]
    cases v <;> decide
  have hdefect := Dev.defect_setDefect_same d0 n v hbit
  have hevent := Dev.event_setDefect hold0 hbit
  have hstat1 : (d0.setDefect n bit v).on (stat.lane n) = v := by
    refine (((Dev.WordsBut.refl (defectWords n) d0).setDefect (fun _ h => h) bit v).on ?_).trans hstat0
    rw [Field.lane_off, hsoff]
    simp [laneAddr, Reg.laneSohStat, Reg.laneDefStat, Reg.laneDefEvt]
  have heq : d.setMaint n bit stat evt v = ((d0.setDefect n bit v).raise (evt.lane n)).lineUpdate n := by rw [hd0]; rfl
  rw [heq]
  generalize d0.setDefect n bit v = d1 at hdefect hevent hstat1 ⊢
  have hraise {f : Field} (hfoff : f.off ≠ Reg.laneSohEvt) (hfapart : F.laneSohStatAisDs.apart f = true) :
      ((d1.raise (evt.lane n)).lineUpdate n).on (f.lane n) = d1.on (f.lane n) := by
    rw [Dev.on, Dev.get_lineUpdate _ n hfapart, Dev.raise, Dev.get_lane_put_apart _ _ _ (.inl (by rw [heoff]; exact hfoff))]
    rfl
  refine ⟨(hraise (f := defStatField bit) (show Reg.laneDefStat ≠ Reg.laneSohEvt by decide) ?_).trans hdefect,
    (hraise (by rw [hsoff]; decide) hapart).trans hstat1, ?_, (hraise (f := defEvtField bit) (show Reg.laneDefEvt ≠ Reg.laneSohEvt by decide) ?_).trans hevent⟩
  · exact decide_eq_true (.inl (show Reg.laneDefStat ≠ Reg.laneSohStat by decide))
  · rw [Dev.on, Dev.get_lineUpdate _ n (decide_eq_true (.inl (by rw [heoff]; decide)))]
    exact Dev.on_raise _ (evt.lane n) helo helen
  · exact decide_eq_true (.inl (show Reg.laneDefEvt ≠ Reg.laneSohStat by decide))

end

end Sys2Proof.Machine

/-! The multiplex section: MS-AIS, MS-RDI, S1 and excessive errors (R169, R173, R177, R381). -/

namespace Sys2Proof.Machine

set_option Elab.async false -- a proof at a time, within the memory of a check

theorem Dev.soh_of_lanes {d e : Dev} (h : e.lanes = d.lanes) (n : Nat) : e.soh n = d.soh n := by
  rw [Dev.soh, Dev.lane, h, ← Dev.lane, ← Dev.soh]

section
variable (n : PortLane) (s : State)

theorem exec_msAisDeclare :
    exec (.msAisDeclare n) s = .next { s with dev := (s.dev.when
      (s.dev.maintLive n && !s.dev.defect n defMsais && decide (3 ≤ (s.dev.soh n).ais)) (fun d =>
        ((d.setSoh n { d.soh n with k := {}, k2l := {}, kSince := 0, s1 := {} }).setMaint n defMsais F.laneSohStatMsais
          F.laneSohEvtMsaisChg true).b2Pause n)) } := rfl

theorem exec_msAisClear :
    exec (.msAisClear n) s = .next { s with dev := (s.dev.when
      (s.dev.maintLive n && s.dev.defect n defMsais && decide (3 ≤ (s.dev.soh n).noAis)) (fun d =>
        d.setMaint n defMsais F.laneSohStatMsais F.laneSohEvtMsaisChg false)) } := rfl

theorem exec_msRdiDeclare :
    exec (.msRdiDeclare n) s = .next { s with dev := (s.dev.when
      (s.dev.maintLive n && !s.dev.defect n defMsrdi && decide (5 ≤ (s.dev.soh n).rdi)) (fun d =>
        d.setMaint n defMsrdi F.laneSohStatMsrdi F.laneSohEvtMsrdiChg true)) } := rfl

theorem exec_msRdiClear :
    exec (.msRdiClear n) s = .next { s with dev := (s.dev.when
      (s.dev.maintLive n && s.dev.defect n defMsrdi && decide (5 ≤ (s.dev.soh n).noRdi)) (fun d =>
        d.setMaint n defMsrdi F.laneSohStatMsrdi F.laneSohEvtMsrdiChg false)) } := rfl

theorem exec_msRdiTxChange :
    exec (.msRdiTxChange n) s = .next { s with dev := (s.dev.when (s.dev.isLine n && s.dev.rootValid) (fun d =>
      (d.setSoh n { d.soh n with rdiDue := s.dev.msFail n && s.dev.on (F.laneSohCfgRdiEn.lane n) }).put (F.laneSohStatRdiTx.lane n)
        (bitOf (((s.dev.msFail n && s.dev.on (F.laneSohCfgRdiEn.lane n)) || d.on (F.laneSohTxForceMsrdi.lane n))
          && !d.on (F.laneSohStatAisTx.lane n))))) } := rfl

theorem exec_s1Accept :
    exec (.s1Accept n) s = .next { s with dev := (s.dev.when
      (s.dev.maintLive n && !s.dev.defect n defMsais && decide (8 ≤ (s.dev.soh n).s1.count)) (fun d =>
        ((d.put (F.laneSohS1RxAcc.lane n) (s.dev.soh n).s1.value).raise (F.laneSohStatS1Valid.lane n)).when
          (!d.on (F.laneSohStatS1Valid.lane n) || d.get (F.laneSohS1RxAcc.lane n) != (s.dev.soh n).s1.value)
          (sohEvent n F.laneSohEvtS1Chg))) } := rfl

theorem exec_b2ExcDeclare :
    exec (.b2ExcDeclare n) s = .next { s with dev := (s.dev.when (s.dev.isLine n && decide (8 ≤ (s.dev.soh n).exc)) (fun d =>
      (d.setDefect n defExc true).lineUpdate n)) } := rfl

theorem exec_b2ExcClear :
    exec (.b2ExcClear n) s = .next { s with dev := (s.dev.when (s.dev.isLine n && decide (8 ≤ (s.dev.soh n).noExc)) (fun d =>
      (d.setDefect n defExc false).lineUpdate n)) } := rfl

end

/-- What the statement says of a change of MS-AIS or MS-RDI. -/
def MaintChange (n : PortLane) (s : State) (bit : Nat) (stat evt : Field) (v : Bool) (e : Dev) : Prop :=
  e.defect n bit = v ∧ e.on (stat.lane n) = v ∧ e.on (evt.lane n) = true ∧ e.on ((defEvtField bit).lane n) = true
    ∧ Dev.WordsBut (maintWords n) s.dev e ∧ s.dev.OtherLanes n e ∧ Dev.Only lineParts s.dev e

theorem maintChange_setMaint {n : PortLane} {s : State} {bit : Nat} {stat evt : Field} {v : Bool} (hf : MaintFields bit stat evt)
    (hold : s.dev.defect n bit = !v) : MaintChange n s bit stat evt v (s.dev.setMaint n bit stat evt v) := by
  obtain ⟨hdefect, hstat, hevt, hevent⟩ := s.dev.setMaint_shown n hf hold
  exact ⟨hdefect, hstat, hevt, hevent, s.dev.wordsBut_setMaint n hf, s.dev.otherLanes_setMaint n, s.dev.only_setMaint n⟩

/-- B2 is no longer compared once MS-AIS is declared. -/
theorem maintChange_declare {n : PortLane} {s : State} (hold : s.dev.defect n defMsais = !true) :
    MaintChange n s defMsais F.laneSohStatMsais F.laneSohEvtMsaisChg true
      (((s.dev.setSoh n { s.dev.soh n with k := {}, k2l := {}, kSince := 0, s1 := {} }).setMaint n defMsais F.laneSohStatMsais
        F.laneSohEvtMsaisChg true).b2Pause n) := by
  obtain ⟨d0, hd0⟩ : ∃ d0, d0 = s.dev.setSoh n { s.dev.soh n with k := {}, k2l := {}, kSince := 0, s1 := {} } := ⟨_, rfl⟩
  have hset : Dev.Only [.lanes] s.dev d0 := hd0 ▸ s.dev.only_setSoh n _
  have hlanes : s.dev.OtherLanes n d0 := hd0 ▸ (Dev.OtherLanes.refl n s.dev).setLane _
  have hold0 : d0.defect n defMsais = !true := (Dev.on_congr hset.words _).trans hold
  rw [← hd0]
  obtain ⟨hdefect, hstat, hevt, hevent⟩ := d0.setMaint_shown n maintFields_ais hold0
  have hwords := d0.wordsBut_setMaint n (v := true) maintFields_ais
  have hother := d0.otherLanes_setMaint n (bit := defMsais) (stat := F.laneSohStatMsais) (evt := F.laneSohEvtMsaisChg) (v := true)
  have honly := d0.only_setMaint n (bit := defMsais) (stat := F.laneSohStatMsais) (evt := F.laneSohEvtMsaisChg) (v := true)
  generalize d0.setMaint n defMsais F.laneSohStatMsais F.laneSohEvtMsaisChg true = d1 at hdefect hstat hevt hevent hwords hother honly
  have hpause : Dev.WordsBut (defectWords n) d1 (d1.b2Pause n) := (Dev.WordsBut.refl _ d1).b2Pause (fun _ h => h)
  have hapart {f : Field} (hf : f.off ≠ Reg.laneDefStat ∧ f.off ≠ Reg.laneDefEvt) : (f.lane n).off ∉ defectWords n := by
    simp only [List.mem_cons, List.not_mem_nil, or_false, not_or, Field.lane_off, laneAddr, Nat.add_left_cancel_iff]
    exact hf
  have hstatus := (Dev.StatusBut.refl n b2Fields d1).b2Pause (by decide) (by decide)
  exact ⟨(hstatus.on (f := defStatField defMsais) (by decide) (by decide)).trans hdefect,
    (hpause.on (hapart (f := F.laneSohStatMsais) (by decide))).trans hstat,
    (hpause.on (hapart (f := F.laneSohEvtMsaisChg) (by decide))).trans hevt, Dev.event_b2Pause hevent (by decide),
    (((Dev.WordsBut.refl _ s.dev).of_words hset.words).trans hwords).b2Pause (fun _ h => .tail _ (.tail _ h)),
    fun q hq => (((Dev.OtherLanes.refl n d1).b2Pause q hq).trans (hother q hq)).trans (hlanes q hq),
    ((hset.mono (by decide)).trans honly).step (d1.only_b2Pause n)⟩

theorem Dev.maintLive_of {d : Dev} {n : Nat} (hline : (d.lane n).isLine = true) (hlos : d.defect n defLos = false)
    (hoof : d.defect n defOof = false) : d.maintLive n = true := by
  have hl : d.isLine n = true := hline
  rw [Dev.maintLive, hl, hlos, hoof]
  rfl

theorem maint_changes (n : PortLane) (s : State) (hline : (s.dev.lane n).isLine = true) (hlos : s.dev.defect n defLos = false)
    (hoof : s.dev.defect n defOof = false) (c : Instr) (bit : Nat) (stat evt : Field) (v : Bool)
    (hc : (c = .msAisDeclare n ∧ 3 ≤ (s.dev.soh n).ais ∧ v = true ∧ bit = defMsais ∧ stat = F.laneSohStatMsais
            ∧ evt = F.laneSohEvtMsaisChg)
          ∨ (c = .msAisClear n ∧ 3 ≤ (s.dev.soh n).noAis ∧ v = false ∧ bit = defMsais ∧ stat = F.laneSohStatMsais
            ∧ evt = F.laneSohEvtMsaisChg)
          ∨ (c = .msRdiDeclare n ∧ 5 ≤ (s.dev.soh n).rdi ∧ v = true ∧ bit = defMsrdi ∧ stat = F.laneSohStatMsrdi
            ∧ evt = F.laneSohEvtMsrdiChg)
          ∨ (c = .msRdiClear n ∧ 5 ≤ (s.dev.soh n).noRdi ∧ v = false ∧ bit = defMsrdi ∧ stat = F.laneSohStatMsrdi
            ∧ evt = F.laneSohEvtMsrdiChg))
    (hold : s.dev.defect n bit = !v) : ∃ e, exec c s = .next { s with dev := e } ∧ MaintChange n s bit stat evt v e := by
  have hlive : s.dev.maintLive n = true := Dev.maintLive_of hline hlos hoof
  rcases hc with ⟨rfl, hcount, rfl, rfl, rfl, rfl⟩ | ⟨rfl, hcount, rfl, rfl, rfl, rfl⟩ | ⟨rfl, hcount, rfl, rfl, rfl, rfl⟩ |
    ⟨rfl, hcount, rfl, rfl, rfl, rfl⟩
  · have hcond : (s.dev.maintLive n && !s.dev.defect n defMsais && decide (3 ≤ (s.dev.soh n).ais)) = true := by
      rw [hlive, hold, decide_eq_true hcount]
      rfl
    exact ⟨_, (exec_msAisDeclare n s).trans (congrArg Host.Outcome.next (State.when_true s hcond _)), maintChange_declare hold⟩
  · have hcond : (s.dev.maintLive n && s.dev.defect n defMsais && decide (3 ≤ (s.dev.soh n).noAis)) = true := by
      rw [hlive, hold, decide_eq_true hcount]
      rfl
    exact ⟨_, (exec_msAisClear n s).trans (congrArg Host.Outcome.next (State.when_true s hcond _)), maintChange_setMaint maintFields_ais hold⟩
  · have hcond : (s.dev.maintLive n && !s.dev.defect n defMsrdi && decide (5 ≤ (s.dev.soh n).rdi)) = true := by
      rw [hlive, hold, decide_eq_true hcount]
      rfl
    exact ⟨_, (exec_msRdiDeclare n s).trans (congrArg Host.Outcome.next (State.when_true s hcond _)), maintChange_setMaint maintFields_rdi hold⟩
  · have hcond : (s.dev.maintLive n && s.dev.defect n defMsrdi && decide (5 ≤ (s.dev.soh n).noRdi)) = true := by
      rw [hlive, hold, decide_eq_true hcount]
      rfl
    exact ⟨_, (exec_msRdiClear n s).trans (congrArg Host.Outcome.next (State.when_true s hcond _)), maintChange_setMaint maintFields_rdi hold⟩

/-- R173: MS-RDI towards the far end. -/
theorem msRdiTxChange_sends (n : PortLane) (s : State) (hline : (s.dev.lane n).isLine = true) (hroot : s.dev.rootValid = true) :
    ∃ t, exec (.msRdiTxChange n) s = .next t
      ∧ (t.dev.soh n).rdiDue = (s.dev.msFail n && s.dev.on (F.laneSohCfgRdiEn.lane n))
      ∧ (s.dev.on (F.laneSohStatAisTx.lane n) = false → s.dev.on (F.laneSohTxForceMsrdi.lane n) = false →
          t.dev.on (F.laneSohStatRdiTx.lane n) = (s.dev.msFail n && s.dev.on (F.laneSohCfgRdiEn.lane n)))
      ∧ Dev.WordsBut [laneAddr n Reg.laneSohStat] s.dev t.dev
      ∧ t = { s with dev := { s.dev with words := t.dev.words, lanes := t.dev.lanes } } := by
  have hl : s.dev.isLine n = true := hline
  have hcond : (s.dev.isLine n && s.dev.rootValid) = true := by rw [hl, hroot]; rfl
  have hexec := exec_msRdiTxChange n s
  rw [State.when_true s hcond] at hexec
  have hsoh := Dev.soh_setSoh s.dev n { s.dev.soh n with rdiDue := s.dev.msFail n && s.dev.on (F.laneSohCfgRdiEn.lane n) }
  have hframe := (Dev.LaneOnly.refl n [laneAddr n Reg.laneSohStat] s.dev).setSoh
    { s.dev.soh n with rdiDue := s.dev.msFail n && s.dev.on (F.laneSohCfgRdiEn.lane n) }
  have hdone := hframe.put (f := F.laneSohStatRdiTx.lane n) (.head _)
    (bitOf (((s.dev.msFail n && s.dev.on (F.laneSohCfgRdiEn.lane n)) || s.dev.on (F.laneSohTxForceMsrdi.lane n))
      && !s.dev.on (F.laneSohStatAisTx.lane n)))
  refine ⟨_, hexec, ?_, fun hais hforce => ?_, hdone.2.1, hdone.state⟩
  · exact congrArg Soh.rdiDue ((Dev.soh_of_lanes (Dev.put_lanes ..) n).trans hsoh)
  · rw [hais, hforce, Bool.or_false, Bool.not_false, Bool.and_true]
    exact Dev.on_put_bitOf _ _ _ (show F.laneSohStatRdiTx.lo < 32 by decide) rfl

/-- R177: S1[3:0] is accepted. -/
theorem s1Accept_accepts (n : PortLane) (s : State) (hline : (s.dev.lane n).isLine = true) (hcount : 8 ≤ (s.dev.soh n).s1.count)
    (hlos : s.dev.defect n defLos = false) (hoof : s.dev.defect n defOof = false) (hais : s.dev.defect n defMsais = false) :
    ∃ t, exec (.s1Accept n) s = .next t ∧ t.dev.get (F.laneSohS1RxAcc.lane n) = (s.dev.soh n).s1.value % 16
      ∧ t.dev.on (F.laneSohStatS1Valid.lane n) = true
      ∧ (s.dev.on (F.laneSohStatS1Valid.lane n) = false → t.dev.on (F.laneSohEvtS1Chg.lane n) = true)
      ∧ OnlyWords [laneAddr n Reg.laneSohS1, laneAddr n Reg.laneSohStat, laneAddr n Reg.laneSohEvt] s t := by
  have hcond : (s.dev.maintLive n && !s.dev.defect n defMsais && decide (8 ≤ (s.dev.soh n).s1.count)) = true := by
    rw [Dev.maintLive_of hline hlos hoof, hais, decide_eq_true hcount]
    rfl
  have hexec := exec_s1Accept n s
  rw [State.when_true s hcond] at hexec
  have hshown := ((Dev.WordsOnly.refl [laneAddr n Reg.laneSohS1, laneAddr n Reg.laneSohStat, laneAddr n Reg.laneSohEvt] s.dev).put
    (f := F.laneSohS1RxAcc.lane n) (.head _) (s.dev.soh n).s1.value).raise (f := F.laneSohStatS1Valid.lane n) (.tail _ (.head _))
  have hvalid : ((s.dev.put (F.laneSohS1RxAcc.lane n) (s.dev.soh n).s1.value).raise (F.laneSohStatS1Valid.lane n)).on
      (F.laneSohStatS1Valid.lane n) = true :=
    Dev.on_raise _ (F.laneSohStatS1Valid.lane n) (show F.laneSohStatS1Valid.lo + F.laneSohStatS1Valid.len ≤ 32 by decide)
      (show 1 ≤ F.laneSohStatS1Valid.len by decide)
  have hacc : ((s.dev.put (F.laneSohS1RxAcc.lane n) (s.dev.soh n).s1.value).raise (F.laneSohStatS1Valid.lane n)).get
      (F.laneSohS1RxAcc.lane n) = (s.dev.soh n).s1.value % 16 := by
    rw [Dev.raise, Dev.get_lane_put_apart _ _ _ (.inl (by decide)), Dev.get_lane_put_same _ _ _ (by decide)]
    rfl
  generalize (s.dev.put (F.laneSohS1RxAcc.lane n) (s.dev.soh n).s1.value).raise (F.laneSohStatS1Valid.lane n) = d1 at hexec hshown hvalid hacc
  have hevent {f : Field} (hf : f.off ≠ Reg.laneSohEvt) : (sohEvent n F.laneSohEvtS1Chg d1).get (f.lane n) = d1.get (f.lane n) :=
    Dev.get_lane_put_apart _ _ _ (.inl hf)
  have hkept {f : Field} (hf : f.off ≠ Reg.laneSohEvt) (b : Bool) :
      (d1.when b (sohEvent n F.laneSohEvtS1Chg)).get (f.lane n) = d1.get (f.lane n) :=
    Dev.when_of (P := fun e : Dev => e.get (f.lane n) = d1.get (f.lane n)) b rfl (hevent hf)
  refine ⟨_, hexec, (hkept (by decide) _).trans hacc, ?_, fun hnew => ?_, ?_⟩
  · rw [Dev.on, hkept (by decide)]
    exact hvalid
  · rw [hnew, Bool.not_false, Bool.true_or, Dev.when, if_pos rfl]
    exact Dev.on_raise _ (F.laneSohEvtS1Chg.lane n) (show F.laneSohEvtS1Chg.lo + F.laneSohEvtS1Chg.len ≤ 32 by decide)
      (show 1 ≤ F.laneSohEvtS1Chg.len by decide)
  · have hwhole := Dev.when_keeps (c := !s.dev.on (F.laneSohStatS1Valid.lane n) || s.dev.get (F.laneSohS1RxAcc.lane n) != (s.dev.soh n).s1.value)
      (g := sohEvent n F.laneSohEvtS1Chg) hshown fun _ hx => hx.raise (f := F.laneSohEvtS1Chg.lane n) (.tail _ (.tail _ (.head _)))
    exact ⟨congrArg (fun e => ({ s with dev := e } : State)) hwhole.1, hwhole.2⟩

/-- R381: excessive errors come or go. -/
theorem exc_shown (n : Nat) (d : Dev) (v : Bool) :
    ((d.setDefect n defExc v).lineUpdate n).defect n defExc = v
      ∧ Dev.WordsBut [laneAddr n Reg.laneDefStat, laneAddr n Reg.laneDefEvt, laneAddr n Reg.laneSohStat] d ((d.setDefect n defExc v).lineUpdate n)
      ∧ ∀ q, ((d.setDefect n defExc v).lineUpdate n).lane q = d.lane q := by
  refine ⟨?_, ?_, fun q => ?_⟩
  · exact (congrArg (· != 0) ((d.setDefect n defExc v).get_lineUpdate n (f := defStatField defExc) (by decide))).trans
      (Dev.defect_setDefect_same d n v (by decide))
  · exact ((Dev.WordsBut.refl _ d).setDefect (fun a ha => by
      rcases List.mem_cons.mp ha with rfl | ha
      · exact .head _
      · exact .tail _ (List.mem_singleton.mp ha ▸ .head _)) defExc v).lineUpdate (.tail _ (.tail _ (.head _)))
  · rw [Dev.lane, (Dev.only_lineUpdate _ n).lanes, (d.only_setDefect n defExc v).lanes, ← Dev.lane]

/-- Settles O24: the four changes of MS-AIS and MS-RDI have one shape, and the others are their commands' few writes. -/
theorem sectionDefectsAndFollowUp : Obligations.SectionDefectsAndFollowUp := by
  refine ⟨fun n s hline hlos hoof c bit stat evt v hc hold => ?_, fun n s hline =>
    ⟨fun hroot => ?_, msRdiTxChange_sends n s hline, s1Accept_accepts n s hline, fun hexc => ?_, fun hexc => ?_⟩⟩
  · obtain ⟨e, hexec, hdefect, hstat, hevt, hevent, hwords, hlanes, honly⟩ := maint_changes n s hline hlos hoof c bit stat evt v hc hold
    exact ⟨_, hexec, hdefect, hstat, hevt, hevent, hwords, hlanes, congrArg (fun e => ({ s with dev := e } : State)) honly.eq_line⟩
  · have hcond : (s.dev.isLine n && s.dev.rootValid) = false := by rw [hroot, Bool.and_false]
    rw [exec_msRdiTxChange, State.when_false s hcond]
  · have hcond : (s.dev.isLine n && decide (8 ≤ (s.dev.soh n).exc)) = true := by
      rw [decide_eq_true hexc, Bool.and_true]
      exact hline
    have hexec := exec_b2ExcDeclare n s
    rw [State.when_true s hcond] at hexec
    obtain ⟨hdefect, hwords, hlanes⟩ := exc_shown n s.dev true
    exact ⟨_, hexec, hdefect, hwords, hlanes, rfl, rfl⟩
  · have hcond : (s.dev.isLine n && decide (8 ≤ (s.dev.soh n).noExc)) = true := by
      rw [decide_eq_true hexc, Bool.and_true]
      exact hline
    have hexec := exec_b2ExcClear n s
    rw [State.when_true s hcond] at hexec
    obtain ⟨hdefect, hwords, hlanes⟩ := exc_shown n s.dev false
    exact ⟨_, hexec, hdefect, hwords, hlanes, rfl, rfl⟩

end Sys2Proof.Machine

/-! Bytes in the registers, and a frame of a LINE lane (R146, R150, R152, R166, R180). -/

namespace Sys2Proof.Machine

set_option Elab.async false -- a proof at a time, within the memory of a check

/-! Bytes in the words -/

section
variable (d : Dev)

/-- A byte is stored, and the place moves on. -/
def Dev.storeByte (a : Nat) (x : Nat × Dev) (b : Byte) : Nat × Dev := (x.1 + 1, x.2.setByteAt (a + x.1) b)

theorem Dev.storeByte_fold (a : Nat) (l : List Byte) : ∀ (k : Nat) (e : Dev),
    (l.foldl (Dev.storeByte a) (k, e)).2 = (l.foldl (Dev.storeByte (a + k)) (0, e)).2 := by
  induction l generalizing a with
  | nil =>
    intro k e
    rw [List.foldl_nil, List.foldl_nil]
  | cons b l ih =>
    intro k e
    rw [List.foldl_cons, List.foldl_cons, Dev.storeByte, Dev.storeByte, ih a (k + 1), ih (a + k) (0 + 1)]
    simp only [Nat.add_zero, Nat.zero_add, Nat.add_assoc]

theorem Dev.setBytesAt_cons (a : Nat) (b : Byte) (l : List Byte) : d.setBytesAt a (b :: l) = (d.setByteAt a b).setBytesAt (a + 1) l := by
  exact Dev.storeByte_fold a l 1 (d.setByteAt a b)

theorem Dev.only_setBytesAt (a : Nat) (l : List Byte) : Dev.Only [.words] d (d.setBytesAt a l) := by
  induction l generalizing a d with
  | nil => exact .refl _ d
  | cons b l ih =>
    rw [Dev.setBytesAt_cons]
    exact Dev.Only.trans (d.only_setWord _ _) (ih (d.setByteAt a b) (a + 1))

/-- A word that holds none of the bytes. -/
theorem Dev.word_setBytesAt_other (a : Nat) (l : List Byte) {w : Nat} (h : ∀ i, i < l.length → (a + i) / 4 * 4 ≠ w) :
    (d.setBytesAt a l).word w = d.word w := by
  induction l generalizing a d with
  | nil => rfl
  | cons b l ih =>
    rw [Dev.setBytesAt_cons, ih (d.setByteAt a b) (a + 1) fun i hi => ?_]
    · exact d.word_setWord_other _ (Ne.symm (h 0 (Nat.zero_lt_succ _)))
    · rw [Nat.add_assoc, Nat.add_comm 1 i]
      exact h (i + 1) (Nat.succ_lt_succ hi)

theorem Dev.byteAt_setByteAt_same (a : Nat) (b : Byte) : (d.setByteAt a b).byteAt a = b := by
  rw [Dev.byteAt, Dev.setByteAt, Dev.word_setWord_same]
  exact byteOf_putByte_same _ _ _ (Nat.mod_lt _ (by decide))

theorem Dev.byteAt_setByteAt_other {a c : Nat} (b : Byte) (h : c ≠ a) : (d.setByteAt a b).byteAt c = d.byteAt c := by
  rw [Dev.byteAt, Dev.setByteAt]
  by_cases hw : c / 4 * 4 = a / 4 * 4
  · rw [hw, Dev.word_setWord_same, byteOf_putByte_other _ _ _ _ (Nat.mod_lt _ (by decide)) (Nat.mod_lt _ (by decide)) (by omega),
      Dev.byteAt, hw]
  · rw [Dev.word_setWord_other _ _ hw, Dev.byteAt]

theorem Dev.byteAt_setBytesAt_other (a : Nat) (l : List Byte) {c : Nat} (h : c < a ∨ a + l.length ≤ c) :
    (d.setBytesAt a l).byteAt c = d.byteAt c := by
  induction l generalizing a d with
  | nil => rfl
  | cons b l ih =>
    rw [List.length_cons] at h
    rw [Dev.setBytesAt_cons, ih (d.setByteAt a b) (a + 1) (by omega), d.byteAt_setByteAt_other b (by omega)]

theorem Dev.bytesAt_succ (a n : Nat) : d.bytesAt a (n + 1) = d.byteAt a :: d.bytesAt (a + 1) n := by
  rw [Dev.bytesAt, List.range_succ_eq_map, List.map_cons, List.map_map]
  refine congrArg₂ List.cons rfl (List.map_congr_left fun i _ => ?_)
  rw [Function.comp_apply, Nat.add_assoc, Nat.succ_eq_one_add]

/-- The bytes are what was written. -/
theorem Dev.bytesAt_setBytesAt (a : Nat) (l : List Byte) : (d.setBytesAt a l).bytesAt a l.length = l := by
  induction l generalizing a d with
  | nil => rfl
  | cons b l ih =>
    rw [List.length_cons, Dev.bytesAt_succ, Dev.setBytesAt_cons, ih, Dev.byteAt_setBytesAt_other _ _ _ (.inl (Nat.lt_succ_self a)),
      Dev.byteAt_setByteAt_same]

/-- Bytes whose words are as they were. -/
theorem Dev.bytesAt_congr {d e : Dev} {a n : Nat} (h : ∀ i, i < n → e.word ((a + i) / 4 * 4) = d.word ((a + i) / 4 * 4)) :
    e.bytesAt a n = d.bytesAt a n := by
  refine List.map_congr_left fun i hi => ?_
  rw [Dev.byteAt, Dev.byteAt, h i (List.mem_range.mp hi)]

end

/-- A register apart from the bytes at `r` of a lane's page. -/
theorem Dev.RegKept.setBytesAt {o : Nat} {d e : Dev} (h : d.RegKept o e) (p r : Nat) (l : List Byte)
    (ho : o % 4 = 0 ∧ o < 0x1_0000 ∧ r + l.length ≤ 0x1_0000 ∧ (o + 4 ≤ r ∨ r + l.length ≤ o)) :
    d.RegKept o (e.setBytesAt (laneAddr p r) l) := fun q => by
  rw [e.word_setBytesAt_other _ _ fun i hi => ?_]
  · exact h q
  · obtain ⟨hmod, hlt, hend, hapart⟩ := ho
    unfold laneAddr
    omega

/-! A frame (R146 to R153, R166, R180) -/

/-- What every step of the comparison keeps. -/
theorem Dev.compareParity_of {P : Dev → Prop} {e : Dev} (n nn : Nat) (l : List Byte) (h : P e)
    (hcount : ∀ (x : Dev) (c v : Nat), bwObject 0 c = none → P x → P (x.count 0 n c v)) (hput : ∀ (x : Dev) (v : Nat), P x → P (x.put (F.laneSohM1Rx.lane n) v))
    (hest : ∀ (x : Dev) (v : Nat), P x → P (x.estLane n v)) (hset : ∀ (x : Dev) (y : Soh), P x → P (x.setSoh n y)) : P (e.compareParity n nn l) := by
  unfold Dev.compareParity
  extract_lets s v1 d1 v2 rei d2 d3 x
  have h1 : P d1 := hcount _ 1 _ (by decide) (hcount _ 0 _ (by decide) h)
  have h2 : P d2 := hput _ _ (hcount _ 3 _ (by decide) (hcount _ 2 _ (by decide) h1))
  have h3 : P d3 := hcount _ 5 _ (by decide) (hcount _ 4 _ (by decide) h2)
  split
  · exact h1
  · split
    · exact h3
    · exact hset _ _ (hest _ _ h3)

namespace Dev.RegKept

variable {o : Nat} {d e : Dev}

/-- The rings' registers stand apart from `o`. -/
theorem rings (h : d.RegKept o e) (ho : o % 4 = 0 ∧ o < Reg.laneSohRxRing) (n : Nat) (l : List Byte) (nn : Nat) {f : Nat} (hf : f < 64) :
    d.RegKept o ((ringBytes l nn).foldl (fun x b => x.setBytesAt (laneAddr n Reg.laneSohRxRing + b.1 + f * b.2.length) b.2) e) := by
  obtain ⟨hmod, hlt⟩ := ho
  have hring : Reg.laneSohRxRing = 0x1200 := rfl
  refine List.foldlRecOn (motive := d.RegKept o) (ringBytes l nn) _ h fun x hx b hb => ?_
  have hbound : b.1 ≤ 0x380 ∧ b.2.length ≤ 9 := by
    simp only [ringBytes, List.mem_cons, List.not_mem_nil, or_false] at hb
    rcases hb with rfl | rfl | rfl | rfl | rfl <;> simp
  obtain ⟨hb1, hb2⟩ := hbound
  have hslot : f * b.2.length ≤ 63 * 9 := Nat.mul_le_mul (by omega) hb2
  have haddr : laneAddr n Reg.laneSohRxRing + b.1 + f * b.2.length = laneAddr n (Reg.laneSohRxRing + b.1 + f * b.2.length) := by
    unfold laneAddr
    omega
  rw [haddr]
  exact hx.setBytesAt n _ b.2 ⟨hmod, by omega, by omega, by omega⟩

theorem writeRings (h : d.RegKept o e) (ho : o % 4 = 0 ∧ o < Reg.laneSohRxRing ∧ o ≠ Reg.laneSohRxfrm) (n : Nat) (l : List Byte) (nn : Nat) :
    d.RegKept o (e.writeRings n l nn) := by
  have hring : Reg.laneSohRxRing = 0x1200 := rfl
  exact (h.rings ⟨ho.1, ho.2.1⟩ n l nn (Nat.mod_lt _ (by decide))).put (f := F.laneSohRxfrmFrm) ⟨by omega, by decide, ho.2.2⟩ n _

theorem estLane (h : d.RegKept o e) (n v : Nat) : d.RegKept o (e.estLane n v) := Dev.when_keeps h fun _ hx => hx.of_words rfl

theorem compareParity (h : d.RegKept o e) (ho : o < 0x1_0000 ∧ o ≠ Reg.laneSohM1) (n nn : Nat) (l : List Byte) :
    d.RegKept o (e.compareParity n nn l) :=
  Dev.compareParity_of (P := d.RegKept o) n nn l h (fun x _ v hc hx => hx.of_only (x.only_count hc n v))
    (fun _ _ hx => hx.put (f := F.laneSohM1Rx) ⟨ho.1, by decide, ho.2⟩ n _) (fun _ v hx => hx.estLane n v)
    fun _ _ hx => hx.of_words (Dev.setLane_words ..)

end Dev.RegKept

section
variable (d : Dev) (n : Nat)

/-- What a frame changes. -/
abbrev frameParts : List Part := [.words, .lanes, .acc, .estAcc]

theorem Dev.only_estLane (v : Nat) : Dev.Only [.estAcc] d (d.estLane n v) :=
  .whenStep _ fun e => Dev.Only.trans (e := e.estAdd (estKeyLane n 0) v) (.part .estAcc (by decide) fun _ _ hp => hp e _)
    (.part .estAcc (by decide) fun _ _ hp => hp (e.estAdd (estKeyLane n 0) v) _)

theorem Dev.only_writeRings (l : List Byte) (nn : Nat) : Dev.Only [.words] d (d.writeRings n l nn) :=
  Dev.Only.trans (.foldl _ fun e _ _ => e.only_setBytesAt _ _) (Dev.only_roll _ _ _)

theorem Dev.otherLanes_writeRings (l : List Byte) (nn : Nat) : d.OtherLanes n (d.writeRings n l nn) :=
  (Dev.OtherLanes.refl n d).of_only (d.only_writeRings n l nn)

theorem Dev.only_compareParity (nn : Nat) (l : List Byte) : Dev.Only frameParts d (d.compareParity n nn l) :=
  Dev.compareParity_of (P := Dev.Only frameParts d) n nn l (.refl _ d) (fun x _ v hc hx => hx.step (x.only_count hc n v))
    (fun x v hx => hx.step (x.only_put _ v)) (fun x v hx => hx.step (x.only_estLane n v)) fun x y hx => hx.step (x.only_setSoh n y)

theorem Dev.otherLanes_compareParity (nn : Nat) (l : List Byte) : d.OtherLanes n (d.compareParity n nn l) :=
  Dev.compareParity_of (P := d.OtherLanes n) n nn l (.refl n d) (fun x _ v hc hx => hx.of_only (x.only_count hc n v))
    (fun x v hx => hx.of_only (x.only_put _ v)) (fun x v hx => hx.of_only (x.only_estLane n v)) fun _ _ hx => hx.setLane _

end

end Sys2Proof.Machine

/-! What a frame of a LINE lane shows (R146, R150, R152). -/

namespace Sys2Proof.Machine

set_option Elab.async false -- a proof at a time, within the memory of a check

theorem Dev.Only.eq_frame {d e : Dev} (h : Dev.Only frameParts d e) :
    e = { d with words := e.words, lanes := e.lanes, acc := e.acc, estAcc := e.estAcc } := by
  refine h Dev (fun x => { x with words := e.words, lanes := e.lanes, acc := e.acc, estAcc := e.estAcc }) fun y hy => ?_
  fin_cases hy <;> exact fun _ _ => rfl

theorem Soh.kFrame_b1Own (s : Soh) (live held : Bool) (k1 k2 : Byte) : (s.kFrame live held k1 k2).b1Own = s.b1Own := by
  unfold Soh.kFrame
  cases live <;> cases held <;> rfl

section
variable (d : Dev) (n : Nat)

/-- The raw K bytes are shown. -/
def Dev.kRaw (k1 k2 : Byte) : Dev := (d.put (F.laneSohKrawK1.lane n) k1.toNat).put (F.laneSohKrawK2.lane n) k2.toNat

theorem Dev.get_kRaw (k1 k2 : Byte) :
    (d.kRaw n k1 k2).get (F.laneSohKrawK1.lane n) = k1.toNat ∧ (d.kRaw n k1 k2).get (F.laneSohKrawK2.lane n) = k2.toNat := by
  refine ⟨?_, ?_⟩
  · rw [Dev.kRaw, Dev.get_lane_put_apart _ _ _ (by decide), Dev.get_lane_put_same _ _ _ (by decide)]
    exact Nat.mod_eq_of_lt k1.isLt
  · rw [Dev.kRaw, Dev.get_lane_put_same _ _ _ (by decide)]
    exact Nat.mod_eq_of_lt k2.isLt

/-- How `e` comes from `d`, in which the raw K bytes stand: they stay, the other lanes stay, and so do the registers that no frame writes. -/
structure Dev.FrameFrom (d e : Dev) : Prop where
  only : Dev.Only frameParts d e
  kraw : d.RegKept Reg.laneSohKraw e
  others : d.OtherLanes n e

namespace Dev.FrameFrom

variable {d n} {e : Dev}

theorem refl (d : Dev) (n : Nat) : Dev.FrameFrom n d d := ⟨.refl _ d, .refl _ d, .refl n d⟩

theorem setSoh (h : Dev.FrameFrom n d e) (x : Soh) : Dev.FrameFrom n d (e.setSoh n x) :=
  ⟨h.only.step (e.only_setSoh n x), h.kraw.of_words (Dev.setLane_words ..), h.others.setLane _⟩

theorem compareParity (h : Dev.FrameFrom n d e) (nn : Nat) (l : List Byte) : Dev.FrameFrom n d (e.compareParity n nn l) :=
  ⟨h.only.trans (e.only_compareParity n nn l), h.kraw.compareParity (by decide) n nn l,
    fun q hq => (e.otherLanes_compareParity n nn l q hq).trans (h.others q hq)⟩

theorem writeRings (h : Dev.FrameFrom n d e) (l : List Byte) (nn : Nat) : Dev.FrameFrom n d (e.writeRings n l nn) :=
  ⟨h.only.step (e.only_writeRings n l nn), h.kraw.writeRings (by decide) n l nn, fun q hq => (e.otherLanes_writeRings n l nn q hq).trans (h.others q hq)⟩

theorem j0Crc (h : Dev.FrameFrom n d e) (c : Bool) :
    Dev.FrameFrom n d (e.when c (fun x => sohEvent n F.laneSohEvtJ0Crc (x.roll (F.laneSohJ0crcCount.lane n) 1))) :=
  Dev.when_keeps h fun x hx =>
    ⟨(hx.only.step (x.only_roll _ 1)).step (Dev.only_raise _ _),
      (hx.kraw.put (f := F.laneSohJ0crcCount) (by decide) n _).put (f := F.laneSohEvtJ0Crc) (by decide) n 1,
      (hx.others.of_only (x.only_roll _ 1)).of_only (Dev.only_raise _ _)⟩

end Dev.FrameFrom

/-- The count of frames with the frame that the rings hold. -/
theorem Dev.get_writeRings (l : List Byte) (nn : Nat) :
    (d.writeRings n l nn).get (F.laneSohRxfrmFrm.lane n) = (d.get (F.laneSohRxfrmFrm.lane n) + 1) % 2 ^ 16 := by
  have hkept : d.RegKept Reg.laneSohRxfrm ((ringBytes l nn).foldl (fun e x =>
      e.setBytesAt (laneAddr n Reg.laneSohRxRing + x.1 + d.get (F.laneSohRxfrmFrm.lane n) % 64 * x.2.length) x.2) d) :=
    Dev.RegKept.rings (.refl _ d) (by decide) n l nn (Nat.mod_lt _ (by decide))
  rw [Dev.writeRings, Dev.get_roll_same (f := F.laneSohRxfrmFrm.lane n) _ (show F.laneSohRxfrmFrm.lo + F.laneSohRxfrmFrm.len ≤ 32 by decide),
    hkept.get (f := F.laneSohRxfrmFrm) rfl]
  rfl

/-- The K bytes of a frame. -/
def Dev.k1Of (d : Dev) (n : Nat) (l : List Byte) : Byte := frameByte l (stmN (d.lane n).rate) 4 (3 * stmN (d.lane n).rate)

def Dev.k2Of (d : Dev) (n : Nat) (l : List Byte) : Byte := frameByte l (stmN (d.lane n).rate) 4 (6 * stmN (d.lane n).rate)

/-- What a frame leaves: its K bytes, its count, its own BIP-8, and the rest as it was. -/
theorem Dev.lineFrame_shown (raw : List Byte) (htest : d.inTest (lanePage n) = false) :
    let l := descramble (stmN (d.lane n).rate) raw
    Dev.FrameFrom n (d.kRaw n (d.k1Of n l) (d.k2Of n l)) (d.lineFrame n raw)
      ∧ (d.lineFrame n raw).get (F.laneSohRxfrmFrm.lane n) = (d.get (F.laneSohRxfrmFrm.lane n) + (if d.inFrame n then 1 else 0)) % 2 ^ 16
      ∧ ((d.lineFrame n raw).soh n).b1Own = (if d.inFrame n then some (bip8 raw) else none) := by
  intro l
  unfold Dev.lineFrame
  extract_lets nn l' k1 k2 aligned live d0 d1 s own s1 src s2 j d2
  have hl : l' = l := by
    unfold l'
    rw [htest, Bool.and_false, if_neg Bool.false_ne_true]
  have hd0 : d0 = d.kRaw n (d.k1Of n l) (d.k2Of n l) := by
    unfold d0 k1 k2
    rw [hl]
    rfl
  have hcount0 : d.RegKept Reg.laneSohRxfrm d0 :=
    ((Dev.RegKept.refl _ d).put (f := F.laneSohKrawK1) (by decide) n _).put (f := F.laneSohKrawK2) (by decide) n _
  have h1 : Dev.FrameFrom n d0 d1 := Dev.when_keeps (.refl d0 n) fun _ hx => hx.compareParity nn l'
  have hcount1 : d.RegKept Reg.laneSohRxfrm d1 := Dev.when_keeps hcount0 fun _ hx => hx.compareParity (by decide) n nn l'
  have hown : own.b1Own = if d.inFrame n then some (bip8 raw) else none := rfl
  rw [← hd0]
  split
  · obtain ⟨e, he⟩ : ∃ e, e = d1.setSoh n { own.hold with b1Own := own.b1Own, b2Own := own.b2Own } := ⟨_, rfl⟩
    have hfrom : Dev.FrameFrom n d0 e := he ▸ h1.setSoh _
    have hcount : d.RegKept Reg.laneSohRxfrm e := hcount1.of_words (he ▸ Dev.setLane_words ..)
    have hsoh : (e.soh n).b1Own = own.b1Own := by rw [he, Dev.soh_setSoh]
    rw [← he]
    refine ⟨Dev.when_keeps hfrom fun _ hx => hx.writeRings l' nn, ?_, ?_⟩
    · cases hframe : d.inFrame n with
      | true =>
        rw [show aligned = true from hframe, Dev.when, if_pos rfl, Dev.get_writeRings, hcount.get (f := F.laneSohRxfrmFrm) rfl]
        rfl
      | false =>
        rw [show aligned = false from hframe, Dev.when, if_neg Bool.false_ne_true, hcount.get (f := F.laneSohRxfrmFrm) rfl]
        exact (Nat.mod_eq_of_lt (d.get_lt _)).symm
    · exact (congrArg Soh.b1Own (Dev.soh_of_lanes (Dev.Only.whenStep _ fun x => x.only_writeRings n l' nn).lanes n)).trans (hsoh.trans hown)
  · next hlive =>
    have hframe : d.inFrame n = true := by
      by_contra hno
      exact hlive (by simp only [live, aligned, Bool.eq_false_iff.mpr hno, Bool.false_and, Bool.not_false])
    have h2 : Dev.FrameFrom n d0 d2 := h1.setSoh _
    have hcount2 : d.RegKept Reg.laneSohRxfrm d2 := hcount1.of_words (Dev.setLane_words ..)
    have hsoh2 : (d2.soh n).b1Own = own.b1Own := by
      unfold d2
      rw [Dev.soh_setSoh]
      exact Soh.kFrame_b1Own own true (d1.kHeld n) k1 k2
    have h3 := h2.j0Crc j.2
    have hcount3 : d.RegKept Reg.laneSohRxfrm (d2.when j.2 (fun e => sohEvent n F.laneSohEvtJ0Crc (e.roll (F.laneSohJ0crcCount.lane n) 1))) :=
      Dev.when_keeps hcount2 fun _ hx => (hx.put (f := F.laneSohJ0crcCount) (by decide) n _).put (f := F.laneSohEvtJ0Crc) (by decide) n 1
    have hlanes3 : (d2.when j.2 (fun e => sohEvent n F.laneSohEvtJ0Crc (e.roll (F.laneSohJ0crcCount.lane n) 1))).lanes = d2.lanes :=
      (Dev.Only.whenStep (S := [.words]) j.2 fun x => (x.only_roll _ 1).step (Dev.only_raise _ _)).lanes
    generalize d2.when j.2 (fun e => sohEvent n F.laneSohEvtJ0Crc (e.roll (F.laneSohJ0crcCount.lane n) 1)) = d3 at h3 hcount3 hlanes3 ⊢
    refine ⟨h3.writeRings l' nn, ?_, ?_⟩
    · rw [Dev.get_writeRings, hcount3.get (f := F.laneSohRxfrmFrm) rfl, hframe, if_pos rfl]
    · exact (congrArg Soh.b1Own (Dev.soh_of_lanes ((d3.only_writeRings n l' nn).lanes.trans hlanes3) n)).trans (hsoh2.trans hown)

end

theorem exec_lineFrameReceived (n : PortLane) (bytes : List Byte) (s : State) :
    exec (.lineFrameReceived n bytes) s = .next { s with dev := (s.dev.when (s.dev.isLine n && s.dev.hears n bytes)
      (fun d => (d.esGives n bytes).lineFrame n bytes)) } := rfl

/-- Outside TEST a lane hears what its line carries. -/
theorem Dev.hears_of_not_test {d : Dev} {n : Nat} (h : d.inTest (lanePage n) = false) (bytes : List Byte) : d.hears n bytes = true := by
  have hloop : d.nearLoop n = false := by rw [Dev.nearLoop, h, Bool.false_and]
  rw [Dev.hears, Dev.hearsBits, hloop]
  rfl

/-- Settles O22: the raw K bytes stand, and the frame counts and keeps its BIP-8 where the lane is in frame. -/
theorem lineFrame : Obligations.LineFrame := by
  intro n bytes s hline htest
  have hcond : (s.dev.isLine n && s.dev.hears n bytes) = true := by
    rw [Dev.hears_of_not_test htest bytes, Bool.and_true]
    exact hline
  have hexec := exec_lineFrameReceived n bytes s
  rw [State.when_true s hcond] at hexec
  obtain ⟨e, he⟩ : ∃ e, e = s.dev.esGives n bytes := ⟨_, rfl⟩
  have hes : Dev.Only [.lanes] s.dev e := he ▸ s.dev.only_setLane n _
  have hkept : s.dev.SieveKept e := he ▸ (Dev.SieveKept.refl s.dev).setLane n rfl
  have hother : s.dev.OtherLanes n e := he ▸ (Dev.OtherLanes.refl n s.dev).setLane _
  have htest' : e.inTest (lanePage n) = false := (congrArg (· == 3) (Dev.get_congr hes.words _)).trans htest
  have hframe : e.inFrame n = s.dev.inFrame n := by
    rw [Dev.inFrame, Dev.svState, Dev.defect, Dev.get_congr hes.words, Dev.on_congr hes.words]
    rfl
  have hrate : (e.lane n).rate = (s.dev.lane n).rate := congrArg (fun w => getF w 0 3) (hkept.cfg n)
  obtain ⟨⟨honly, hkraw, hothers⟩, hcount, hown⟩ := e.lineFrame_shown n bytes htest'
  rw [← he] at hexec
  rw [hframe, Dev.get_congr hes.words] at hcount
  rw [hframe] at hown
  obtain ⟨hk1, hk2⟩ := e.get_kRaw n (e.k1Of n (descramble (stmN (e.lane n).rate) bytes)) (e.k2Of n (descramble (stmN (e.lane n).rate) bytes))
  rw [Dev.k1Of, Dev.k2Of, hrate] at hk1 hk2
  have hraw : Dev.Only [.words] e (e.kRaw n (e.k1Of n (descramble (stmN (e.lane n).rate) bytes)) (e.k2Of n (descramble (stmN (e.lane n).rate) bytes))) :=
    (e.only_put _ _).step (Dev.only_put _ _ _)
  have hrest : e.OtherLanes n _ := (Dev.OtherLanes.refl n e).of_only hraw
  have hk1' := hkraw.get (f := F.laneSohKrawK1) rfl n
  have hk2' := hkraw.get (f := F.laneSohKrawK2) rfl n
  rw [Dev.k1Of, Dev.k2Of, hrate] at hk1' hk2'
  exact ⟨_, hexec, hk1'.trans hk1, hk2'.trans hk2, hcount, hown,
    fun q hq => (hothers q hq).trans ((hrest q hq).trans (hother q hq)),
    congrArg (fun e => ({ s with dev := e } : State)) (((hes.mono (by decide)).step hraw).trans honly).eq_frame⟩

end Sys2Proof.Machine

/-! The trace identifier: what its comparison and its restart leave (R157 to R163). -/

namespace Sys2Proof.Machine

set_option Elab.async false -- a proof at a time, within the memory of a check

section
variable (d : Dev) (n : Nat)

/-- The words of lane `n` that a change of TIM writes. -/
abbrev timWords : List Nat := [laneAddr n Reg.laneSohStat, laneAddr n Reg.laneSohEvt, laneAddr n Reg.laneDefStat, laneAddr n Reg.laneDefEvt]

/-- How `e` comes from `d` where the comparison of the trace may have changed TIM. -/
structure Dev.TimFrom (d e : Dev) : Prop where
  only : Dev.Only lineParts d e
  words : Dev.WordsBut (timWords n) d e
  others : d.OtherLanes n e
  trace : (e.soh n).trace = (d.soh n).trace
  expected : (e.soh n).expected = (d.soh n).expected
  valid : e.get (F.laneSohStatJ0Valid.lane n) = d.get (F.laneSohStatJ0Valid.lane n)

variable {n}

theorem Dev.TimFrom.refl : Dev.TimFrom n d d := ⟨.refl _ d, .refl _ d, .refl n d, rfl, rfl, rfl⟩

variable {d}

theorem Dev.TimFrom.trans {e x : Dev} (h : Dev.TimFrom n d e) (h' : Dev.TimFrom n e x) : Dev.TimFrom n d x :=
  ⟨h.only.trans h'.only, h.words.trans h'.words, fun q hq => (h'.others q hq).trans (h.others q hq), h'.trace.trans h.trace,
    h'.expected.trans h.expected, h'.valid.trans h.valid⟩

/-- A change of the defect. -/
theorem Dev.timFrom_setDefect (bit : Nat) (v : Bool) : Dev.TimFrom n d (d.setDefect n bit v) := by
  have hsoh := Dev.soh_of_lanes (d.only_setDefect n bit v).lanes n
  have hwords : Dev.WordsBut (timWords n) d (d.setDefect n bit v) := (Dev.WordsBut.refl _ d).setDefect (fun _ h => .tail _ (.tail _ h)) bit v
  refine ⟨(d.only_setDefect n bit v).mono (by decide), hwords, (Dev.OtherLanes.refl n d).setDefect bit v, congrArg Soh.trace hsoh, congrArg Soh.expected hsoh, ?_⟩
  refine ((Dev.WordsBut.refl (defectWords n) d).setDefect (fun _ h => h) bit v).get ?_
  simp [laneAddr, Reg.laneDefStat, Reg.laneDefEvt, F.laneSohStatJ0Valid]

/-- A write of a field of the status or of the events other than `J0_VALID`. -/
theorem Dev.timFrom_put {f : Field} (hf : (f.off = Reg.laneSohStat ∨ f.off = Reg.laneSohEvt) ∧ f.apart F.laneSohStatJ0Valid = true) (v : Nat) :
    Dev.TimFrom n d (d.put (f.lane n) v) := by
  have hsoh := Dev.soh_of_lanes (d.only_put (f.lane n) v).lanes n
  refine ⟨(d.only_put _ v).mono (by decide), (Dev.WordsBut.refl _ d).put ?_ v, (Dev.OtherLanes.refl n d).of_only (Dev.only_put _ _ _),
    congrArg Soh.trace hsoh, congrArg Soh.expected hsoh, Dev.get_lane_put_apart _ _ _ (of_decide_eq_true hf.2)⟩
  rw [Field.lane_off]
  rcases hf.1 with h | h
  · exact h ▸ .head _
  · exact h ▸ .tail _ (.head _)

/-- The K acceptance starts again. -/
theorem Dev.timFrom_kRestart : Dev.TimFrom n d (d.kRestart n) := by
  have hsoh : (d.kRestart n).soh n = { d.soh n with k := {}, k2l := {}, kSince := 0 } := Dev.soh_setSoh ..
  exact ⟨(d.only_setSoh n _).mono (by decide), (Dev.WordsBut.refl _ d).of_words (Dev.setLane_words ..), (Dev.OtherLanes.refl n d).setLane _,
    (congrArg Soh.trace hsoh).trans rfl, (congrArg Soh.expected hsoh).trans rfl, Dev.get_congr (Dev.setLane_words ..) _⟩

theorem Dev.timFrom_lineUpdate : Dev.TimFrom n d (d.lineUpdate n) := by
  have hsoh := Dev.soh_of_lanes (d.only_lineUpdate n).lanes n
  exact ⟨(d.only_lineUpdate n).mono (by decide), (Dev.WordsBut.refl _ d).lineUpdate (.head _), (Dev.OtherLanes.refl n d).of_only (Dev.only_lineUpdate _ n),
    congrArg Soh.trace hsoh, congrArg Soh.expected hsoh, d.get_lineUpdate n (by decide)⟩

variable (d n)

/-- A changed TIM is an event. -/
def Dev.timShown (v : Bool) : Dev := sohEvent n F.laneSohEvtTimChg ((d.put (F.laneSohStatTim.lane n) (bitOf v)).setDefect n defTim v)

theorem Dev.timFrom_timShown (v : Bool) : Dev.TimFrom n d (d.timShown n v) :=
  ((Dev.timFrom_put (f := F.laneSohStatTim) (by decide) (bitOf v)).trans (Dev.timFrom_setDefect defTim v)).trans
    (Dev.timFrom_put (f := F.laneSohEvtTimChg) (by decide) 1)

theorem Dev.defect_timShown (v : Bool) : (d.timShown n v).defect n defTim = v := by
  refine Eq.trans ?_ (Dev.defect_setDefect_same (d.put (F.laneSohStatTim.lane n) (bitOf v)) n v (show defTim < 32 by decide))
  exact congrArg (· != 0) (Dev.get_lane_put_apart (f := F.laneSohEvtTimChg) (g := defStatField defTim) _ n 1
    (.inl (show Reg.laneDefStat ≠ Reg.laneSohEvt by decide)))

theorem Dev.setTim_eq (v : Bool) : d.setTim n v = d.when (d.defect n defTim != v) (fun e =>
    ((e.timShown n v).when ((e.timShown n v).timActs n) (fun y => y.kRestart n)).lineUpdate n) := rfl

theorem Dev.timFrom_setTim (v : Bool) : Dev.TimFrom n d (d.setTim n v) := by
  rw [Dev.setTim_eq]
  refine Dev.when_of _ (.refl d) ?_
  exact (Dev.when_keeps (d.timFrom_timShown n v) fun _ hx => hx.trans Dev.timFrom_kRestart).trans Dev.timFrom_lineUpdate

theorem Dev.defect_setTim (v : Bool) : (d.setTim n v).defect n defTim = v := by
  rw [Dev.setTim_eq]
  cases hold : d.defect n defTim != v with
  | false => exact bne_eq_false_iff_eq.mp hold
  | true =>
    rw [Dev.when, if_pos rfl]
    refine (congrArg (· != 0) (Dev.get_lineUpdate _ n (f := defStatField defTim) (by decide))).trans ?_
    exact Dev.when_keeps (P := fun e : Dev => e.defect n defTim = v) (d.defect_timShown n v)
      fun e he => (Dev.on_congr (Dev.setLane_words ..) ((defStatField defTim).lane n)).trans he

/-- An event of the section overhead stays. -/
theorem Dev.on_setTim_event {d : Dev} {n : Nat} (h : d.on (F.laneSohEvtJ0Acc.lane n) = true) (v : Bool) :
    (d.setTim n v).on (F.laneSohEvtJ0Acc.lane n) = true := by
  have hdefect {e : Dev} : (e.setDefect n defTim v).get (F.laneSohEvtJ0Acc.lane n) = e.get (F.laneSohEvtJ0Acc.lane n) :=
    ((Dev.WordsBut.refl (defectWords n) e).setDefect (fun _ h => h) defTim v).get (by simp [laneAddr, Reg.laneDefStat, Reg.laneDefEvt, F.laneSohEvtJ0Acc])
  have hshown : (d.timShown n v).on (F.laneSohEvtJ0Acc.lane n) = true := by
    rw [Dev.on, Dev.timShown, sohEvent, Dev.raise, Dev.get_lane_put_apart _ _ _ (by decide), hdefect, Dev.get_lane_put_apart _ _ _ (by decide)]
    exact h
  rw [Dev.setTim_eq]
  refine Dev.when_of (P := fun e : Dev => e.on (F.laneSohEvtJ0Acc.lane n) = true) _ h ?_
  refine (congrArg (· != 0) (Dev.get_lineUpdate _ n (f := F.laneSohEvtJ0Acc) (by decide))).trans ?_
  exact Dev.when_keeps (P := fun e : Dev => e.on (F.laneSohEvtJ0Acc.lane n) = true) hshown
    fun e he => (Dev.on_congr (Dev.setLane_words ..) (F.laneSohEvtJ0Acc.lane n)).trans he

end

end Sys2Proof.Machine

/-! The trace and the controls of the section overhead (R154, R157 to R163). -/

namespace Sys2Proof.Machine

set_option Elab.async false -- a proof at a time, within the memory of a check

section
variable (d : Dev) (n : Nat)

abbrev traceWords : List Nat := laneAddr n Reg.laneSohJ0cfg :: timWords n

theorem timWords_subset : timWords n ⊆ traceWords n := fun _ h => .tail _ h

/-- The bytes of a lane's message stand apart from the words of the trace's status. -/
theorem Dev.bytesAt_of_words {d e : Dev} {n r k : Nat} (h : Dev.WordsBut (traceWords n) d e) (hr : r % 4 = 0 ∧ 0x1018 ≤ r ∧ r ≤ 0x1100)
    (hk : k ≤ 64) :
    e.bytesAt (laneAddr n r) k = d.bytesAt (laneAddr n r) k := by
  refine Dev.bytesAt_congr fun i hi => h _ ?_
  simp only [traceWords, timWords, List.mem_cons, List.not_mem_nil, or_false, laneAddr, Reg.laneSohJ0cfg, Reg.laneSohStat,
    Reg.laneSohEvt, Reg.laneDefStat, Reg.laneDefEvt]
  omega

/-! The accepted trace -/

/-- R158: an applied expected message is taken. -/
def Dev.takeExpected : Dev :=
  d.when (d.on (F.laneSohJ0cfgExpPend.lane n)) (fun e =>
    (e.setSoh n { e.soh n with expected := e.bytesAt (laneAddr n Reg.laneSohJ0Exp) 64 }).lower (F.laneSohJ0cfgExpPend.lane n))

/-- The messages differ, and TIM is to be declared. -/
def Dev.traceDiffers : Bool :=
  d.on (F.laneSohStatJ0Valid.lane n) && d.on (F.laneSohJ0cfgTimEn.lane n)
    && traceCompared (d.rxMode n) (d.bytesAt (laneAddr n Reg.laneSohJ0Acc) 64) != traceCompared (d.rxMode n) (d.soh n).expected

theorem Dev.compareTrace_eq : d.compareTrace n = (d.takeExpected n).setTim n ((d.takeExpected n).traceDiffers n) := rfl

theorem Dev.laneOnly_takeExpected : d.LaneOnly n [laneAddr n Reg.laneSohJ0cfg] (d.takeExpected n) :=
  Dev.when_keeps (.refl _ _ d) fun _ hx => (hx.setSoh _).lower (f := F.laneSohJ0cfgExpPend.lane n) (.head _)

theorem Dev.wordsBut_compareTrace : Dev.WordsBut (traceWords n) d (d.compareTrace n) := by
  rw [Dev.compareTrace_eq]
  exact ((d.laneOnly_takeExpected n).2.1.mono (List.cons_subset_cons _ (List.nil_subset _))).trans
    ((Dev.timFrom_setTim _ n _).words.mono (timWords_subset n))

theorem Dev.otherLanes_compareTrace : d.OtherLanes n (d.compareTrace n) := fun q hq => by
  rw [Dev.compareTrace_eq]
  exact ((Dev.timFrom_setTim _ n _).others q hq).trans ((d.laneOnly_takeExpected n).2.2 q hq)

theorem Dev.get_compareTrace_valid : (d.compareTrace n).get (F.laneSohStatJ0Valid.lane n) = d.get (F.laneSohStatJ0Valid.lane n) := by
  rw [Dev.compareTrace_eq, (Dev.timFrom_setTim _ n _).valid]
  exact (d.laneOnly_takeExpected n).2.1.get (by simp [laneAddr, F.laneSohStatJ0Valid, Reg.laneSohJ0cfg])

/-- An applied message has been taken, and is the expected one. -/
theorem Dev.compareTrace_expected (h : d.on (F.laneSohJ0cfgExpPend.lane n) = true) :
    (d.compareTrace n).on (F.laneSohJ0cfgExpPend.lane n) = false
      ∧ ((d.compareTrace n).soh n).expected = d.bytesAt (laneAddr n Reg.laneSohJ0Exp) 64 := by
  have htaken : d.takeExpected n = _ := if_pos h
  have htim := Dev.timFrom_setTim (d.takeExpected n) n ((d.takeExpected n).traceDiffers n)
  rw [Dev.compareTrace_eq]
  refine ⟨?_, ?_⟩
  · rw [htim.words.on (by simp [laneAddr, F.laneSohJ0cfgExpPend, Reg.laneSohStat, Reg.laneSohEvt, Reg.laneDefStat, Reg.laneDefEvt]), htaken]
    exact Dev.on_lower _ (F.laneSohJ0cfgExpPend.lane n) (show F.laneSohJ0cfgExpPend.lo + F.laneSohJ0cfgExpPend.len ≤ 32 by decide)
  · refine htim.expected.trans ?_
    rw [htaken]
    exact congrArg Soh.expected ((Dev.soh_of_lanes (Dev.put_lanes ..) n).trans (Dev.soh_setSoh ..))

/-- R157: the message is written, and is valid. -/
def Dev.traceTaken : Dev :=
  let m := (d.soh n).trace.message
  ((d.setBytesAt (laneAddr n Reg.laneSohJ0Acc) m).raise (F.laneSohStatJ0Valid.lane n)).when
    (!d.on (F.laneSohStatJ0Valid.lane n) || d.bytesAt (laneAddr n Reg.laneSohJ0Acc) m.length != m) (sohEvent n F.laneSohEvtJ0Acc)

theorem Dev.acceptTrace_eq : d.acceptTrace n = (d.traceTaken n).compareTrace n := rfl

theorem Dev.on_traceTaken_valid : (d.traceTaken n).on (F.laneSohStatJ0Valid.lane n) = true :=
  Dev.when_keeps (P := fun e : Dev => e.on (F.laneSohStatJ0Valid.lane n) = true)
    (Dev.on_raise _ (F.laneSohStatJ0Valid.lane n) (show F.laneSohStatJ0Valid.lo + F.laneSohStatJ0Valid.len ≤ 32 by decide)
      (show 1 ≤ F.laneSohStatJ0Valid.len by decide))
    fun _ he => (congrArg (· != 0) (Dev.get_lane_put_apart (f := F.laneSohEvtJ0Acc) (g := F.laneSohStatJ0Valid) _ n 1 (.inl (by decide)))).trans he

theorem Dev.bytesAt_traceTaken (hlen : (d.soh n).trace.message.length ≤ 64) :
    (d.traceTaken n).bytesAt (laneAddr n Reg.laneSohJ0Acc) (d.soh n).trace.message.length = (d.soh n).trace.message := by
  have hshown : Dev.WordsBut (traceWords n) (d.setBytesAt (laneAddr n Reg.laneSohJ0Acc) (d.soh n).trace.message) (d.traceTaken n) :=
    Dev.when_keeps ((Dev.WordsBut.refl _ _).raise (f := F.laneSohStatJ0Valid.lane n) (.tail _ (.head _)))
      fun _ hx => hx.raise (f := F.laneSohEvtJ0Acc.lane n) (.tail _ (.tail _ (.head _)))
  exact (Dev.bytesAt_of_words hshown (by decide) hlen).trans (Dev.bytesAt_setBytesAt _ _ _)

theorem Dev.only_traceTaken : Dev.Only [.words] d (d.traceTaken n) :=
  ((d.only_setBytesAt _ _).step (Dev.only_raise _ _)).trans (.whenStep _ fun e => e.only_raise _)

/-- The first acceptance is an event. -/
theorem Dev.on_acceptTrace_event (h : d.on (F.laneSohStatJ0Valid.lane n) = false) : (d.acceptTrace n).on (F.laneSohEvtJ0Acc.lane n) = true := by
  have htaken : (d.traceTaken n).on (F.laneSohEvtJ0Acc.lane n) = true := by
    rw [Dev.traceTaken, h, Bool.not_false, Bool.true_or, Dev.when, if_pos rfl]
    exact Dev.on_raise _ (F.laneSohEvtJ0Acc.lane n) (show F.laneSohEvtJ0Acc.lo + F.laneSohEvtJ0Acc.len ≤ 32 by decide)
      (show 1 ≤ F.laneSohEvtJ0Acc.len by decide)
  have hexp : ((d.traceTaken n).takeExpected n).on (F.laneSohEvtJ0Acc.lane n) = true :=
    ((Dev.laneOnly_takeExpected _ n).2.1.on (by simp [laneAddr, F.laneSohEvtJ0Acc, Reg.laneSohJ0cfg])).trans htaken
  rw [Dev.acceptTrace_eq, Dev.compareTrace_eq]
  exact Dev.on_setTim_event hexp _

end

theorem exec_j0Accept (n : PortLane) (s : State) :
    exec (.j0Accept n) s = .next { s with dev := (s.dev.when (s.dev.isLine n && decide (3 ≤ (s.dev.soh n).trace.count)) (fun d => d.acceptTrace n)) } := rfl

theorem exec_expectedTraceTakeEffect (n : PortLane) (s : State) :
    exec (.expectedTraceTakeEffect n) s = .next { s with dev := (s.dev.when (s.dev.isLine n && s.dev.on (F.laneSohJ0cfgExpPend.lane n)
      && decide (3 ≤ (s.dev.soh n).trace.count)) (fun d => d.compareTrace n)) } := rfl

theorem exec_transmitTraceTakeEffect (n : PortLane) (s : State) :
    exec (.transmitTraceTakeEffect n) s = .next { s with dev := (s.dev.when (s.dev.isLine n && s.dev.rootValid
      && s.dev.on (F.laneSohJ0cfgTxPend.lane n) && (s.dev.soh n).txPos == 0) (fun d => d.applyTxTrace n)) } := rfl

section
variable (n : PortLane) (s : State)

/-- R157: a message of three complete messages is accepted. -/
theorem j0Accept_accepts (hline : (s.dev.lane n).isLine = true) (hcount : 3 ≤ (s.dev.soh n).trace.count)
    (hlen : (s.dev.soh n).trace.message.length ≤ 64) :
    ∃ t, exec (.j0Accept n) s = .next t ∧ t.dev.on (F.laneSohStatJ0Valid.lane n) = true
      ∧ t.dev.bytesAt (laneAddr n Reg.laneSohJ0Acc) (s.dev.soh n).trace.message.length = (s.dev.soh n).trace.message
      ∧ (s.dev.on (F.laneSohStatJ0Valid.lane n) = false → t.dev.on (F.laneSohEvtJ0Acc.lane n) = true)
      ∧ (∀ q, q ≠ n.val → t.dev.lane q = s.dev.lane q) ∧ t.mem = s.mem ∧ t.flash = s.flash := by
  have hcond : (s.dev.isLine n && decide (3 ≤ (s.dev.soh n).trace.count)) = true := by
    rw [decide_eq_true hcount, Bool.and_true]
    exact hline
  have hexec := exec_j0Accept n s
  rw [State.when_true s hcond] at hexec
  have hothers : s.dev.OtherLanes n _ := (Dev.OtherLanes.refl n s.dev).of_only (s.dev.only_traceTaken n)
  refine ⟨_, hexec, ?_, ?_, s.dev.on_acceptTrace_event n, fun q hq => ?_, rfl, rfl⟩
  · exact (congrArg (· != 0) (Dev.get_compareTrace_valid _ n)).trans (s.dev.on_traceTaken_valid n)
  · exact (Dev.bytesAt_of_words (Dev.wordsBut_compareTrace _ n) (by decide) hlen).trans (s.dev.bytesAt_traceTaken n hlen)
  · exact (Dev.otherLanes_compareTrace _ n q hq).trans (hothers q hq)

/-- R158: an applied expected message takes effect. -/
theorem expectedTraceTakeEffect_takes (hline : (s.dev.lane n).isLine = true) (hcount : 3 ≤ (s.dev.soh n).trace.count)
    (hpend : s.dev.on (F.laneSohJ0cfgExpPend.lane n) = true) :
    ∃ t, exec (.expectedTraceTakeEffect n) s = .next t ∧ t.dev.on (F.laneSohJ0cfgExpPend.lane n) = false
      ∧ (t.dev.soh n).expected = s.dev.bytesAt (laneAddr n Reg.laneSohJ0Exp) 64
      ∧ Dev.WordsBut (traceWords n) s.dev t.dev
      ∧ (∀ q, q ≠ n.val → t.dev.lane q = s.dev.lane q) ∧ t.mem = s.mem ∧ t.flash = s.flash := by
  have hcond : (s.dev.isLine n && s.dev.on (F.laneSohJ0cfgExpPend.lane n) && decide (3 ≤ (s.dev.soh n).trace.count)) = true := by
    rw [decide_eq_true hcount, hpend, Bool.and_true, Bool.and_true]
    exact hline
  have hexec := exec_expectedTraceTakeEffect n s
  rw [State.when_true s hcond] at hexec
  obtain ⟨hlow, hexp⟩ := s.dev.compareTrace_expected n hpend
  exact ⟨_, hexec, hlow, hexp, s.dev.wordsBut_compareTrace n, s.dev.otherLanes_compareTrace n, rfl, rfl⟩

/-- R159: an applied transmit message begins with a message. -/
theorem transmitTraceTakeEffect_takes (hline : (s.dev.lane n).isLine = true) (hroot : s.dev.rootValid = true)
    (hpend : s.dev.on (F.laneSohJ0cfgTxPend.lane n) = true) (hpos : (s.dev.soh n).txPos = 0) :
    ∃ t, exec (.transmitTraceTakeEffect n) s = .next t ∧ t.dev.on (F.laneSohJ0cfgTxPend.lane n) = false
      ∧ t.dev.soh n = { s.dev.soh n with sending := s.dev.bytesAt (laneAddr n Reg.laneSohJ0Tx) 64 }
      ∧ Dev.WordsBut [laneAddr n Reg.laneSohJ0cfg] s.dev t.dev
      ∧ (∀ q, q ≠ n.val → t.dev.lane q = s.dev.lane q)
      ∧ t = { s with dev := { s.dev with words := t.dev.words, lanes := t.dev.lanes } } := by
  have hcond : (s.dev.isLine n && s.dev.rootValid && s.dev.on (F.laneSohJ0cfgTxPend.lane n) && (s.dev.soh n).txPos == 0) = true := by
    rw [hroot, hpend, hpos, Bool.and_true, Bool.and_true]
    exact (Bool.and_true _).trans hline
  have hexec := exec_transmitTraceTakeEffect n s
  rw [State.when_true s hcond] at hexec
  have hkept : s.dev.LaneOnly n [laneAddr n Reg.laneSohJ0cfg] (s.dev.applyTxTrace n) :=
    ((Dev.LaneOnly.refl n _ s.dev).setSoh _).lower (f := F.laneSohJ0cfgTxPend.lane n) (.head _)
  refine ⟨_, hexec, ?_, ?_, hkept.2.1, hkept.2.2, hkept.state⟩
  · exact Dev.on_lower _ (F.laneSohJ0cfgTxPend.lane n) (show F.laneSohJ0cfgTxPend.lo + F.laneSohJ0cfgTxPend.len ≤ 32 by decide)
  · exact (Dev.soh_of_lanes (Dev.put_lanes ..) n).trans (Dev.soh_setSoh ..)

end

end Sys2Proof.Machine

/-! Writes of `SOH_J0CFG` and `SOH_TX` (R154, R158 to R163). -/

namespace Sys2Proof.Machine

set_option Elab.async false -- a proof at a time, within the memory of a check

theorem regDefOf_sohJ0cfg : ∀ n : PortLane,
    regDefOf (laneAddr n Reg.laneSohJ0cfg) = some ⟨0x1014, 1, 4, 0x3f, 0, 0x35, [.reserved 0 2 3 3, .reserved 2 2 3 3]⟩ := by
  decide +kernel

/-! The written word -/

/-- A reserved rule leaves a field apart from its own. -/
theorem getF_applyRule_reserved_apart (old w : W32) {lo len first last lo' len' : Nat} (h : lo + len ≤ 32) (h' : lo' + len' ≤ 32)
    (hd : lo' + len' ≤ lo ∨ lo + len ≤ lo') : getF (applyRule old w (.reserved lo len first last)) lo' len' = getF w lo' len' := by
  rw [applyRule]
  split
  · exact getF_putF_other w lo len _ lo' len' h h' hd
  · rfl

/-- The field of a rule holds what is written, unless that is reserved. -/
theorem getF_applyRule_reserved_same (old w : W32) {lo len first last : Nat} (h : lo + len ≤ 32) :
    getF (applyRule old w (.reserved lo len first last)) lo len
      = if first ≤ getF w lo len ∧ getF w lo len ≤ last then getF old lo len else getF w lo len := by
  rw [applyRule]
  split
  · exact (getF_putF_same _ _ _ _ h).trans (Nat.mod_eq_of_lt (getF_lt old lo len))
  · rfl

/-- A bit that is written. -/
theorem getF_or_bit (w k : W32) {lo : Nat} (h : getF k lo 1 = 1) : getF (w ||| k) lo 1 = 1 := by
  have hlt := getF_lt w lo 1
  rw [getF_or, h]
  obtain hw | hw : getF w lo 1 = 0 ∨ getF w lo 1 = 1 := by omega
  · rw [hw]
    rfl
  · rw [hw]
    rfl

/-- `SOH_J0CFG` as a write leaves it. -/
def j0cfgWord (old data : W32) : W32 := RegDef.written ⟨0x1014, 1, 4, 0x3f, 0, 0x35, [.reserved 0 2 3 3, .reserved 2 2 3 3]⟩ old data

section
variable (old data : W32)

theorem j0cfgWord_eq : j0cfgWord old data
    = applyRule old (applyRule old ((old &&& 0xffffffc0#32) ||| (data &&& 0x3f#32)) (.reserved 0 2 3 3)) (.reserved 2 2 3 3) := by
  have hmask : ((old &&& ~~~BitVec.ofNat 32 0x3f) ||| (data &&& BitVec.ofNat 32 0x3f)) &&& ~~~(data &&& BitVec.ofNat 32 0)
      = (old &&& 0xffffffc0#32) ||| (data &&& 0x3f#32) := by
    simp only [BitVec.and_zero, BitVec.not_zero, BitVec.and_allOnes]
    rfl
  exact congrArg (fun w => applyRule old (applyRule old w (.reserved 0 2 3 3)) (.reserved 2 2 3 3)) hmask

/-- The bits that a write does not reach. -/
theorem getF_j0cfgWord_pend {lo : Nat} (hlo : 6 ≤ lo ∧ lo < 32) (hj : getF 0xffffffc0#32 lo 1 = 1) (hk : getF 0x3f#32 lo 1 = 0) :
    getF (j0cfgWord old data) lo 1 = getF old lo 1 := by
  rw [j0cfgWord_eq, getF_applyRule_reserved_apart _ _ (by omega) (by omega) (.inr (by omega)),
    getF_applyRule_reserved_apart _ _ (by omega) (by omega) (.inr (by omega)), getF_or, getF_and data, hk, Nat.and_zero, Nat.or_zero,
    getF_and_of_full _ _ _ _ hj]

/-- The receive mode. -/
theorem getF_j0cfgWord_rxMode :
    getF (j0cfgWord old data) 0 2 = if getF data 0 2 = 3 then getF old 0 2 else getF data 0 2 := by
  have hmask : getF ((old &&& 0xffffffc0#32) ||| (data &&& 0x3f#32)) 0 2 = getF data 0 2 := getF_mask_or _ _ _ _ rfl rfl
  have hlt := getF_lt data 0 2
  rw [j0cfgWord_eq, getF_applyRule_reserved_apart _ _ (by decide) (by decide) (.inl (by decide)), getF_applyRule_reserved_same _ _ (by decide), hmask]
  exact if_congr ⟨fun h => by omega, fun h => by omega⟩ rfl rfl

end

section
variable (d : Dev) (n : PortLane) (data : W32)

theorem Dev.regWrite_j0cfg : d.regWrite (laneAddr n Reg.laneSohJ0cfg) data
    = d.setWord (laneAddr n Reg.laneSohJ0cfg) (j0cfgWord (d.word (laneAddr n Reg.laneSohJ0cfg)) data) := Dev.regWrite_of_def (regDefOf_sohJ0cfg n) data

theorem Dev.get_regWrite_j0cfg (lo len : Nat) : (d.regWrite (laneAddr n Reg.laneSohJ0cfg) data).get ⟨laneAddr n Reg.laneSohJ0cfg, lo, len⟩
    = getF (j0cfgWord (d.word (laneAddr n Reg.laneSohJ0cfg)) data) lo len := by
  rw [Dev.regWrite_j0cfg, Dev.get, Dev.word_setWord_same]

theorem Dev.rxMode_regWrite : (d.regWrite (laneAddr n Reg.laneSohJ0cfg) data).rxMode n = if getF data 0 2 = 3 then d.rxMode n else getF data 0 2 :=
  (d.get_regWrite_j0cfg n data 0 2).trans (getF_j0cfgWord_rxMode _ _)

theorem Dev.laneOnly_regWrite : d.LaneOnly n [laneAddr n Reg.laneSohJ0cfg] (d.regWrite (laneAddr n Reg.laneSohJ0cfg) data) :=
  .of_wordsOnly (d.regWrite_wordsOnly _ _)

end

/-! What a write of a LINE lane starts -/

section
variable (d : Dev) (n : Nat)

/-- R161: the receiver of the trace starts again. -/
def Dev.traceEmptied : Dev :=
  ((d.setSoh n { d.soh n with trace := {} }).setBytesAt (laneAddr n Reg.laneSohJ0Acc) (List.replicate 64 0)).lower (F.laneSohStatJ0Valid.lane n)

theorem Dev.traceRestart_eq : d.traceRestart n = (d.traceEmptied n).setTim n false := rfl

theorem Dev.get_traceEmptied_cfg (lo len : Nat) : (d.traceEmptied n).get ⟨laneAddr n Reg.laneSohJ0cfg, lo, len⟩ = d.get ⟨laneAddr n Reg.laneSohJ0cfg, lo, len⟩ := by
  have hne : laneAddr n Reg.laneSohJ0cfg ≠ laneAddr n Reg.laneSohStat := by simp [laneAddr, Reg.laneSohJ0cfg, Reg.laneSohStat]
  have hkept := (((Dev.RegKept.refl Reg.laneSohJ0cfg d).of_words (Dev.setLane_words d n { d.lane n with soh := { d.soh n with trace := {} } })).setBytesAt
    n Reg.laneSohJ0Acc (List.replicate 64 0) (by rw [List.length_replicate]; decide) n)
  refine congrArg (fun w => getF w lo len) ((Dev.word_setWord_other _ _ hne).trans hkept)

/-- After a restart of the trace nothing is accepted. -/
structure Dev.TraceEmpty (e : Dev) : Prop where
  valid : e.on (F.laneSohStatJ0Valid.lane n) = false
  tim : e.defect n defTim = false
  trace : (e.soh n).trace = {}
  bytes : e.bytesAt (laneAddr n Reg.laneSohJ0Acc) 64 = List.replicate 64 0

theorem Dev.traceEmpty_traceRestart : Dev.TraceEmpty n (d.traceRestart n) := by
  have htim := (d.traceEmptied n).timFrom_setTim n false
  rw [Dev.traceRestart_eq]
  refine ⟨?_, Dev.defect_setTim _ n false, htim.trace.trans ?_, ?_⟩
  · refine (congrArg (· != 0) htim.valid).trans ?_
    exact Dev.on_lower _ (F.laneSohStatJ0Valid.lane n) (show F.laneSohStatJ0Valid.lo + F.laneSohStatJ0Valid.len ≤ 32 by decide)
  · exact congrArg Soh.trace ((Dev.soh_of_lanes ((Dev.only_setBytesAt _ _ _).step (Dev.only_lower _ _)).lanes n).trans (Dev.soh_setSoh ..))
  · refine (Dev.bytesAt_of_words (htim.words.mono (timWords_subset n)) (by decide) (Nat.le_refl _)).trans ?_
    refine (Dev.bytesAt_of_words ((Dev.WordsBut.refl _ _).lower (f := F.laneSohStatJ0Valid.lane n) (.tail _ (.head _))) (by decide) (Nat.le_refl _)).trans ?_
    have hbytes := Dev.bytesAt_setBytesAt (d.setSoh n { d.soh n with trace := {} }) (laneAddr n Reg.laneSohJ0Acc) (List.replicate 64 0)
    rwa [List.length_replicate] at hbytes

/-- How a write of a LINE lane's `SOH_J0CFG` goes on where the mode stays: TIM, and the pending messages. -/
structure Dev.J0From (d e : Dev) : Prop where
  words : Dev.WordsBut (traceWords n) d e
  rxMode : e.rxMode n = d.rxMode n
  empty : Dev.TraceEmpty n d → Dev.TraceEmpty n e

variable {n}

theorem Dev.J0From.refl : Dev.J0From n d d := ⟨.refl _ d, rfl, id⟩

variable {d}

theorem Dev.J0From.setTim {e : Dev} (h : Dev.J0From n d e) : Dev.J0From n d (e.setTim n false) := by
  have htim := e.timFrom_setTim n false
  refine ⟨h.words.trans (htim.words.mono (timWords_subset n)), (htim.words.get ?_).trans h.rxMode, fun hd => ?_⟩
  · simp [laneAddr, F.laneSohJ0cfgRxMode, Reg.laneSohStat, Reg.laneSohEvt, Reg.laneDefStat, Reg.laneDefEvt]
  · obtain ⟨hvalid, -, htrace, hbytes⟩ := h.empty hd
    exact ⟨(congrArg (· != 0) htim.valid).trans hvalid, Dev.defect_setTim e n false, htim.trace.trans htrace,
      (Dev.bytesAt_of_words (htim.words.mono (timWords_subset n)) (by decide) (Nat.le_refl _)).trans hbytes⟩

theorem Dev.J0From.pend {e : Dev} (h : Dev.J0From n d e) {f : Field} (hf : f.off = Reg.laneSohJ0cfg ∧ f.apart F.laneSohJ0cfgRxMode = true) :
    Dev.J0From n d (e.raise (f.lane n)) := by
  obtain ⟨hoff, hapart⟩ := hf
  have hcfg : (f.lane n).off ∈ traceWords n := by rw [Field.lane_off, hoff]; exact .head _
  have hwords := (Dev.WordsBut.refl (traceWords n) e).raise hcfg
  refine ⟨h.words.trans hwords, (Dev.get_lane_put_apart e n 1 (of_decide_eq_true hapart)).trans h.rxMode, fun hd => ?_⟩
  obtain ⟨hvalid, htim, htrace, hbytes⟩ := h.empty hd
  refine ⟨?_, ?_, ?_, (Dev.bytesAt_of_words hwords (by decide) (Nat.le_refl _)).trans hbytes⟩
  · exact (congrArg (· != 0) (Dev.get_lane_put_apart (g := F.laneSohStatJ0Valid) e n 1 (.inl (by rw [hoff]; decide)))).trans hvalid
  · exact (congrArg (· != 0) (Dev.get_lane_put_apart (g := defStatField defTim) e n 1 (.inl (by rw [hoff]; exact (show Reg.laneDefStat ≠ Reg.laneSohJ0cfg by decide))))).trans htim
  · exact (congrArg Soh.trace (Dev.soh_of_lanes (Dev.put_lanes ..) n)).trans htrace

variable (d n)

/-- What a LINE lane does after its word is written. -/
def Dev.j0Follow (data : W32) : Dev :=
  ((d.when (!d.on (F.laneSohJ0cfgTimEn.lane n)) (fun e => e.setTim n false)).when (getF data 6 1 == 1) (fun e => e.raise (F.laneSohJ0cfgExpPend.lane n))).when
    (getF data 7 1 == 1) (fun e => e.raise (F.laneSohJ0cfgTxPend.lane n))

theorem Dev.writeJ0cfg_of_line (data : W32) (h : ((d.regWrite (laneAddr n Reg.laneSohJ0cfg) data).lane n).isLine = true) :
    d.writeJ0cfg n data = ((d.regWrite (laneAddr n Reg.laneSohJ0cfg) data).when
      ((d.regWrite (laneAddr n Reg.laneSohJ0cfg) data).rxMode n != d.rxMode n) (fun e => e.traceRestart n)).j0Follow n data := by
  rw [Dev.writeJ0cfg]
  exact if_pos h

theorem Dev.writeJ0cfg_of_not_line (data : W32) (h : ((d.regWrite (laneAddr n Reg.laneSohJ0cfg) data).lane n).isLine = false) :
    d.writeJ0cfg n data = d.regWrite (laneAddr n Reg.laneSohJ0cfg) data := by
  rw [Dev.writeJ0cfg, h]
  exact if_neg Bool.false_ne_true

theorem Dev.j0From_j0Follow (data : W32) : Dev.J0From n d (d.j0Follow n data) :=
  Dev.when_keeps (Dev.when_keeps (Dev.when_keeps (.refl d) fun _ hx => hx.setTim) fun _ hx => hx.pend (by decide)) fun _ hx => hx.pend (by decide)

theorem Dev.on_j0Follow_exp (data : W32) (h : getF data 6 1 = 1) : (d.j0Follow n data).on (F.laneSohJ0cfgExpPend.lane n) = true := by
  rw [Dev.j0Follow, h]
  refine Dev.when_keeps (P := fun e : Dev => e.on (F.laneSohJ0cfgExpPend.lane n) = true) ?_ fun e he => ?_
  · exact Dev.on_raise _ (F.laneSohJ0cfgExpPend.lane n) (show F.laneSohJ0cfgExpPend.lo + F.laneSohJ0cfgExpPend.len ≤ 32 by decide)
      (show 1 ≤ F.laneSohJ0cfgExpPend.len by decide)
  · exact (congrArg (· != 0) (Dev.get_lane_put_apart e n 1 (by decide))).trans he

theorem Dev.on_j0Follow_tx (data : W32) (h : getF data 7 1 = 1) : (d.j0Follow n data).on (F.laneSohJ0cfgTxPend.lane n) = true := by
  rw [Dev.j0Follow, h]
  exact Dev.on_raise _ (F.laneSohJ0cfgTxPend.lane n) (show F.laneSohJ0cfgTxPend.lo + F.laneSohJ0cfgTxPend.len ≤ 32 by decide)
    (show 1 ≤ F.laneSohJ0cfgTxPend.len by decide)

end

/-- A write that is answered `OKAY`. -/
theorem Dev.write_okay {d e : Dev} {m a : Nat} {op : Dev → Dev × Resp} (h : d.grant m a true = .ok) (hop : op d = okay e) :
    ((d.write m a op).replyTo m).resp = .okay ∧ (d.write m a op).words = e.words ∧ ∀ n, (d.write m a op).lane n = e.lane n := by
  have hfst : (op d).1 = e := by rw [hop, okay]
  have hsnd : (op d).2 = .okay := by rw [hop, okay]
  exact ⟨(Dev.write_ok h).2.1.trans hsnd, (Dev.write_ok_words h).trans (congrArg Dev.words hfst),
    fun n => (Dev.write_ok_lane h n).trans (congrArg (fun x : Dev => x.lane n) hfst)⟩

section
variable {m : Master} {n : PortLane} {s : State} (hw : s.mayWrite m.val (laneAddr n Reg.laneSohJ0cfg))

theorem exec_expApply (m : Master) (n : PortLane) (s : State) :
    exec (.expApply m n) s = .next { s with dev := (s.dev.j0cfgBy m.val n.val (fun d => d.word (laneAddr n.val Reg.laneSohJ0cfg) ||| 0x40)) } := rfl

theorem exec_txApply (m : Master) (n : PortLane) (s : State) :
    exec (.txApply m n) s = .next { s with dev := (s.dev.j0cfgBy m.val n.val (fun d => d.word (laneAddr n.val Reg.laneSohJ0cfg) ||| 0x80)) } := rfl

theorem exec_traceModeChange (m : Master) (n : PortLane) (data : W32) (s : State) :
    exec (.traceModeChange m n data) s = .next { s with dev := (s.dev.j0cfgBy m.val n.val (fun _ => data)) } := rfl

include hw

/-- The answer and the words of a write of `SOH_J0CFG`. -/
theorem j0cfgBy_okay (data : Dev → W32) : ((s.dev.j0cfgBy m.val n.val data).replyTo m.val).resp = .okay
    ∧ (s.dev.j0cfgBy m.val n.val data).words = (s.dev.writeJ0cfg n (data s.dev)).words
    ∧ (s.dev.j0cfgBy m.val n.val data).soh n = (s.dev.writeJ0cfg n (data s.dev)).soh n := by
  obtain ⟨hreply, hwords, hlane⟩ := Dev.write_okay (op := fun e => okay (e.writeJ0cfg n (data e))) hw rfl
  rw [Dev.j0cfgBy, Dev.soh, Dev.soh]
  exact ⟨hreply, hwords, congrArg LaneSt.soh (hlane n)⟩

/-- A write that keeps the mode of a LINE lane, as one of an apply bit does. -/
theorem j0cfgBy_apply (hline : (s.dev.lane n).isLine = true) {data : Dev → W32} (hmode : getF (data s.dev) 0 2 = s.dev.rxMode n) :
    ∃ e, ((s.dev.j0cfgBy m.val n.val data).replyTo m.val).resp = .okay
      ∧ (s.dev.j0cfgBy m.val n.val data).words = (Dev.j0Follow e n (data s.dev)).words
      ∧ (s.dev.j0cfgBy m.val n.val data).rxMode n = s.dev.rxMode n
      ∧ Dev.WordsBut (traceWords n) s.dev (s.dev.j0cfgBy m.val n.val data) := by
  obtain ⟨hreply, hwords, -⟩ := j0cfgBy_okay hw data
  have hset := s.dev.laneOnly_regWrite n (data s.dev)
  have hline1 : ((s.dev.regWrite (laneAddr n Reg.laneSohJ0cfg) (data s.dev)).lane n).isLine = true := by
    rw [Dev.lane, congrArg Dev.lanes (s.dev.regWrite_wordsOnly _ (data s.dev)).1]
    exact hline
  have hmode1 : (s.dev.regWrite (laneAddr n Reg.laneSohJ0cfg) (data s.dev)).rxMode n = s.dev.rxMode n := by
    rw [Dev.rxMode_regWrite, hmode, ite_self]
  rw [Dev.writeJ0cfg_of_line _ _ _ hline1, hmode1, bne_self_eq_false, Dev.when, if_neg Bool.false_ne_true] at hwords
  have hfollow := Dev.j0From_j0Follow (s.dev.regWrite (laneAddr n Reg.laneSohJ0cfg) (data s.dev)) n (data s.dev)
  exact ⟨_, hreply, hwords, (Dev.get_congr hwords _).trans (hfollow.rxMode.trans hmode1),
    ((hset.2.1.mono (List.cons_subset_cons _ (List.nil_subset _))).trans hfollow.words).of_words hwords⟩

/-- R158: `EXP_APPLY`. -/
theorem expApply_pends (hline : (s.dev.lane n).isLine = true) :
    ∃ t, exec (.expApply m n) s = .next t ∧ (t.dev.replyTo m.val).resp = .okay
      ∧ t.dev.on (F.laneSohJ0cfgExpPend.lane n) = true ∧ t.dev.rxMode n = s.dev.rxMode n
      ∧ Dev.WordsBut (traceWords n) s.dev t.dev ∧ t.mem = s.mem ∧ t.flash = s.flash := by
  obtain ⟨e, hreply, hwords, hmode, hbut⟩ := j0cfgBy_apply hw hline (data := fun d => d.word (laneAddr n.val Reg.laneSohJ0cfg) ||| 0x40)
    (by rw [getF_or]; exact Nat.or_zero _)
  refine ⟨_, exec_expApply m n s, hreply, (Dev.on_congr hwords _).trans (e.on_j0Follow_exp n _ (getF_or_bit _ _ rfl)), hmode, hbut, rfl, rfl⟩

/-- R159: `TX_APPLY`. -/
theorem txApply_pends (hline : (s.dev.lane n).isLine = true) :
    ∃ t, exec (.txApply m n) s = .next t ∧ (t.dev.replyTo m.val).resp = .okay
      ∧ t.dev.on (F.laneSohJ0cfgTxPend.lane n) = true ∧ t.dev.rxMode n = s.dev.rxMode n
      ∧ Dev.WordsBut (traceWords n) s.dev t.dev ∧ t.mem = s.mem ∧ t.flash = s.flash := by
  obtain ⟨e, hreply, hwords, hmode, hbut⟩ := j0cfgBy_apply hw hline (data := fun d => d.word (laneAddr n.val Reg.laneSohJ0cfg) ||| 0x80)
    (by rw [getF_or]; exact Nat.or_zero _)
  refine ⟨_, exec_txApply m n s, hreply, (Dev.on_congr hwords _).trans (e.on_j0Follow_tx n _ (getF_or_bit _ _ rfl)), hmode, hbut, rfl, rfl⟩

/-- R161: a changed mode empties what was accepted. -/
theorem traceModeChange_restarts (hline : (s.dev.lane n).isLine = true) (data : W32) (hlegal : getF data 0 2 ≤ 2)
    (hnew : getF data 0 2 ≠ s.dev.rxMode n) :
    ∃ t, exec (.traceModeChange m n data) s = .next t ∧ (t.dev.replyTo m.val).resp = .okay
      ∧ t.dev.rxMode n = getF data 0 2 ∧ t.dev.on (F.laneSohStatJ0Valid.lane n) = false
      ∧ t.dev.defect n defTim = false ∧ (t.dev.soh n).trace = {}
      ∧ t.dev.bytesAt (laneAddr n Reg.laneSohJ0Acc) 64 = List.replicate 64 0 ∧ t.mem = s.mem ∧ t.flash = s.flash := by
  obtain ⟨hreply, hwords, hsoh⟩ := j0cfgBy_okay hw (fun _ => data)
  obtain ⟨d1, hd1⟩ : ∃ d1, d1 = s.dev.regWrite (laneAddr n Reg.laneSohJ0cfg) data := ⟨_, rfl⟩
  have hline1 : (d1.lane n).isLine = true := by
    rw [hd1, Dev.lane, congrArg Dev.lanes (s.dev.regWrite_wordsOnly _ data).1]
    exact hline
  have hmode1 : d1.rxMode n = getF data 0 2 := by
    rw [hd1, Dev.rxMode_regWrite, if_neg (by omega)]
  rw [Dev.writeJ0cfg_of_line _ _ _ (hd1 ▸ hline1), ← hd1, hmode1, bne_iff_ne.mpr hnew, Dev.when, if_pos rfl] at hwords hsoh
  have hfollow := Dev.j0From_j0Follow (d1.traceRestart n) n data
  obtain ⟨hvalid, htim, htrace, hbytes⟩ := hfollow.empty (d1.traceEmpty_traceRestart n)
  have hmode2 : (d1.traceRestart n).rxMode n = getF data 0 2 := by
    rw [Dev.traceRestart_eq, Dev.rxMode, ((d1.traceEmptied n).timFrom_setTim n false).words.get
      (by simp [laneAddr, F.laneSohJ0cfgRxMode, Reg.laneSohStat, Reg.laneSohEvt, Reg.laneDefStat, Reg.laneDefEvt])]
    exact (d1.get_traceEmptied_cfg n 0 2).trans hmode1
  refine ⟨_, exec_traceModeChange m n data s, hreply, (Dev.get_congr hwords _).trans (hfollow.rxMode.trans hmode2),
    (Dev.on_congr hwords _).trans hvalid, (Dev.on_congr hwords ((defStatField defTim).lane n)).trans htim, (congrArg Soh.trace hsoh).trans htrace,
    (Dev.bytesAt_congr fun i _ => ?_).trans hbytes, rfl, rfl⟩
  exact congrArg (fun w => Store.get resetWord w ((laneAddr n Reg.laneSohJ0Acc + i) / 4 * 4)) hwords

/-- A lane of another kind only takes the fields. -/
theorem j0cfgBy_other (hline : (s.dev.lane n).isLine = false) (data : Dev → W32) :
    AnsweredWords m.val .okay [laneAddr n Reg.laneSohJ0cfg] s { s with dev := s.dev.j0cfgBy m.val n.val data }
      ∧ (s.dev.j0cfgBy m.val n.val data).on (F.laneSohJ0cfgExpPend.lane n) = s.dev.on (F.laneSohJ0cfgExpPend.lane n)
      ∧ (s.dev.j0cfgBy m.val n.val data).on (F.laneSohJ0cfgTxPend.lane n) = s.dev.on (F.laneSohJ0cfgTxPend.lane n) := by
  have hset := s.dev.regWrite_wordsOnly (laneAddr n Reg.laneSohJ0cfg) (data s.dev)
  have hwrite : s.dev.writeJ0cfg n (data s.dev) = s.dev.regWrite (laneAddr n Reg.laneSohJ0cfg) (data s.dev) := by
    refine Dev.writeJ0cfg_of_not_line _ _ _ ?_
    rw [Dev.lane, congrArg Dev.lanes hset.1]
    exact hline
  have hop : okay (s.dev.writeJ0cfg n (data s.dev)) = (s.dev.regWrite (laneAddr n Reg.laneSohJ0cfg) (data s.dev), .okay) := by rw [hwrite]; rfl
  obtain ⟨-, hwords, -⟩ := j0cfgBy_okay hw data
  rw [hwrite] at hwords
  refine ⟨answeredWords_write hw hop hset, (Dev.on_congr hwords _).trans ?_, (Dev.on_congr hwords _).trans ?_⟩
  · exact congrArg (· != 0) ((s.dev.get_regWrite_j0cfg n _ 8 1).trans (getF_j0cfgWord_pend _ _ (by decide) rfl rfl))
  · exact congrArg (· != 0) ((s.dev.get_regWrite_j0cfg n _ 9 1).trans (getF_j0cfgWord_pend _ _ (by decide) rfl rfl))

end

/-! `SOH_TX` -/

theorem Dev.soh_regWrite (d : Dev) (a : Nat) (data : W32) (n : Nat) : (d.regWrite a data).soh n = d.soh n :=
  (congrArg (fun x : Dev => x.soh n) (d.regWrite_wordsOnly a data).1).trans rfl

section
variable {m : Master} {n : PortLane} {s : State} (hw : s.mayWrite m.val (laneAddr n Reg.laneSohTx))

/-- The inversions that a write of `SOH_TX` asks for. -/
def Soh.insert (x : Soh) (data : W32) : Soh :=
  { x with insB1 := x.insB1 || getF data 2 1 == 1, insB2 := x.insB2 || getF data 3 1 == 1 }

theorem Dev.writeSohTx_eq (d : Dev) (n : Nat) (data : W32) : d.writeSohTx n data =
    (d.regWrite (laneAddr n Reg.laneSohTx) data).when ((d.lane n).isLine && d.inTest (lanePage n))
      (fun e => e.setSoh n ((e.soh n).insert data)) := rfl

theorem exec_insB1 (m : Master) (n : PortLane) (s : State) : exec (.insB1 m n) s = .next { s with dev := (s.dev.sohTxBy m.val n.val 4) } := rfl

theorem exec_insB2 (m : Master) (n : PortLane) (s : State) : exec (.insB2 m n) s = .next { s with dev := (s.dev.sohTxBy m.val n.val 8) } := rfl

include hw

/-- R154: on a LINE lane in TEST the next frame's inversions are noted. -/
theorem sohTxBy_inserts (hline : (s.dev.lane n).isLine = true) (htest : s.dev.eff (lanePage n) = 3) (bit : W32) :
    ((s.dev.sohTxBy m.val n.val bit).replyTo m.val).resp = .okay
      ∧ (s.dev.sohTxBy m.val n.val bit).soh n = (s.dev.soh n).insert (s.dev.word (laneAddr n Reg.laneSohTx) ||| bit)
      ∧ Dev.WordsBut [laneAddr n Reg.laneSohTx] s.dev (s.dev.sohTxBy m.val n.val bit) := by
  obtain ⟨hreply, hwords, hlane⟩ := Dev.write_okay
    (op := fun e => okay (e.writeSohTx n.val (e.word (laneAddr n.val Reg.laneSohTx) ||| bit))) hw rfl
  have hcond : ((s.dev.lane n).isLine && s.dev.inTest (lanePage n)) = true := by
    rw [hline, Dev.inTest, htest]
    rfl
  have hset := s.dev.regWrite_wordsOnly (laneAddr n Reg.laneSohTx) (s.dev.word (laneAddr n.val Reg.laneSohTx) ||| bit)
  have hlane' := hlane n
  rw [Dev.writeSohTx_eq, hcond, Dev.when, if_pos rfl] at hwords hlane'
  rw [Dev.sohTxBy]
  refine ⟨hreply, ?_, hset.2.of_words (hwords.trans (Dev.setLane_words ..))⟩
  rw [Dev.soh, hlane', ← Dev.soh, Dev.soh_setSoh, Dev.soh_regWrite]

/-- Elsewhere a write only writes its fields. -/
theorem sohTxBy_elsewhere (h : (s.dev.lane n).isLine = false ∨ s.dev.eff (lanePage n) ≠ 3) (bit : W32) :
    AnsweredWords m.val .okay [laneAddr n Reg.laneSohTx] s { s with dev := s.dev.sohTxBy m.val n.val bit } := by
  have hcond : ((s.dev.lane n).isLine && s.dev.inTest (lanePage n)) = false := by
    rcases h with h | h
    · rw [h, Bool.false_and]
    · rw [Dev.inTest, beq_eq_false_iff_ne.mpr h, Bool.and_false]
  have hop : okay (s.dev.writeSohTx n (s.dev.word (laneAddr n.val Reg.laneSohTx) ||| bit))
      = (s.dev.regWrite (laneAddr n Reg.laneSohTx) (s.dev.word (laneAddr n.val Reg.laneSohTx) ||| bit), .okay) := by
    rw [Dev.writeSohTx_eq, hcond, okay, Dev.when, if_neg Bool.false_ne_true]
  exact answeredWords_write hw hop (s.dev.regWrite_wordsOnly _ _)

end

/-- Settles O25: the accepted trace, the applied messages, and the writes of the two registers of control. -/
theorem traceAndOverheadControls : Obligations.TraceAndOverheadControls := by
  refine ⟨fun n s hline => ⟨j0Accept_accepts n s hline, expectedTraceTakeEffect_takes n s hline, transmitTraceTakeEffect_takes n s hline⟩,
    fun m n s => ⟨fun hw hline => ⟨expApply_pends hw hline, txApply_pends hw hline, traceModeChange_restarts hw hline⟩,
      fun hw hline data c hc => ?_, fun hw hline htest => ⟨?_, ?_⟩, fun hw h c hc => ?_⟩⟩
  · rcases hc with rfl | rfl | rfl
    · exact ⟨_, exec_expApply m n s, j0cfgBy_other hw hline _⟩
    · exact ⟨_, exec_txApply m n s, j0cfgBy_other hw hline _⟩
    · exact ⟨_, exec_traceModeChange m n data s, j0cfgBy_other hw hline _⟩
  · obtain ⟨hreply, hsoh, hwords⟩ := sohTxBy_inserts hw hline htest 4
    refine ⟨_, exec_insB1 m n s, hreply, ?_, hwords, rfl, rfl⟩
    have hbit : ((s.dev.soh n).insB1 || getF (s.dev.word (laneAddr n Reg.laneSohTx) ||| 4) 2 1 == 1) = true := by
      rw [getF_or_bit _ _ rfl]
      exact Bool.or_true _
    rw [hsoh, Soh.insert, hbit]
  · obtain ⟨hreply, hsoh, hwords⟩ := sohTxBy_inserts hw hline htest 8
    refine ⟨_, exec_insB2 m n s, hreply, ?_, hwords, rfl, rfl⟩
    have hbit : ((s.dev.soh n).insB2 || getF (s.dev.word (laneAddr n Reg.laneSohTx) ||| 8) 3 1 == 1) = true := by
      rw [getF_or_bit _ _ rfl]
      exact Bool.or_true _
    rw [hsoh, Soh.insert, hbit]
  · rcases hc with rfl | rfl
    · exact ⟨_, exec_insB1 m n s, sohTxBy_elsewhere hw h 4⟩
    · exact ⟨_, exec_insB2 m n s, sohTxBy_elsewhere hw h 8⟩

end Sys2Proof.Machine

/-! An announced capacity (R269 to R271). -/

namespace Sys2Proof.Machine

set_option Elab.async false -- a proof at a time, within the memory of a check

section
variable (d : Dev) (n : Nat)

/-- An announcement that is one is shown. -/
def Dev.annShown (v e : Nat) : Dev :=
  ((d.setTu n { d.tu n with announced := true }).put (F.laneTuAnnN.lane n) v).put (F.laneTuAnnE.lane n) e

theorem Dev.announce_bad {ok3 : Bool} {arg2 : Nat} (e : Nat)
    (h : ok3 = false ∨ arg2 % 0x1000 < 9 ∨ blocksPerFrame (d.lane n).rate < arg2 % 0x1000) :
    d.announce n ok3 arg2 e = d.raise (F.laneTuEvtAnnBad.lane n) := by
  rw [Dev.announce]
  exact if_pos (h.imp_left fun hok => by rw [hok]; rfl)

theorem Dev.announce_pending {arg2 e : Nat} (hmin : 9 ≤ arg2 % 0x1000) (hmax : arg2 % 0x1000 ≤ blocksPerFrame (d.lane n).rate)
    (hnew : arg2 % 0x1000 ≠ d.get (F.laneTuStatCap.lane n)) (hpend : d.on (F.laneTuStatPend.lane n) = false)
    (hahead : 2 ≤ (e + 0x1_0000 - d.seqNow % 0x1_0000) % 0x1_0000 ∧ (e + 0x1_0000 - d.seqNow % 0x1_0000) % 0x1_0000 ≤ 1024) :
    d.announce n true arg2 e = (d.annShown n (arg2 % 0x1000) e).setPending n (arg2 % 0x1000) e false := by
  have hgood : ¬((!true) = true ∨ arg2 % 0x1000 < 9 ∨ blocksPerFrame (d.lane n).rate < arg2 % 0x1000) := by
    rintro (h | h | h)
    · exact absurd h (by decide)
    · omega
    · omega
  unfold Dev.announce
  extract_lets v bad pend d1 x
  rw [if_neg hgood, if_neg fun h => hnew h.1, if_neg fun h => absurd (hpend.symm.trans h.1) (by decide), if_pos hahead]
  rfl

abbrev pendingWords : List Nat := [laneAddr n Reg.laneTuStat, laneAddr n Reg.laneTuPeff, laneAddr n Reg.laneTuAnn]

theorem Dev.laneOnly_annShown (v e : Nat) : d.LaneOnly n (pendingWords n) (d.annShown n v e) :=
  (((Dev.LaneOnly.refl n _ d).setTu _).put (f := F.laneTuAnnN.lane n) (.tail _ (.tail _ (.head _))) v).put
    (f := F.laneTuAnnE.lane n) (.tail _ (.tail _ (.head _))) e

theorem Dev.LaneOnly.setPending {d x : Dev} {n : Nat} (h : d.LaneOnly n (pendingWords n) x) (v e : Nat) (late : Bool) :
    d.LaneOnly n (pendingWords n) (x.setPending n v e late) :=
  (((h.setTu _).raise (f := F.laneTuStatPend.lane n) (.head _)).put (f := F.laneTuStatPcap.lane n) (.head _) v).put
    (f := F.laneTuPeffE.lane n) (.tail _ (.head _)) e

theorem Dev.get_annShown (v e : Nat) : (d.annShown n v e).get (F.laneTuAnnN.lane n) = v % 2 ^ 12
    ∧ (d.annShown n v e).get (F.laneTuAnnE.lane n) = e % 2 ^ 16 := by
  refine ⟨?_, ?_⟩
  · rw [Dev.annShown, Dev.get_lane_put_apart _ _ _ (by decide), Dev.get_lane_put_same _ _ _ (by decide)]
    rfl
  · rw [Dev.annShown, Dev.get_lane_put_same _ _ _ (by decide)]
    rfl

/-- What a pending capacity shows. -/
theorem Dev.get_setPending (v e : Nat) (late : Bool) :
    (d.setPending n v e late).on (F.laneTuStatPend.lane n) = true ∧ (d.setPending n v e late).get (F.laneTuStatPcap.lane n) = v % 2 ^ 12
      ∧ (d.setPending n v e late).get (F.laneTuPeffE.lane n) = e % 2 ^ 16 := by
  refine ⟨?_, ?_, ?_⟩
  · rw [Dev.on, Dev.setPending, Dev.get_lane_put_apart _ _ _ (by decide), Dev.get_lane_put_apart _ _ _ (by decide), Dev.raise,
      Dev.get_lane_put_same _ _ _ (by decide)]
    rfl
  · rw [Dev.setPending, Dev.get_lane_put_apart _ _ _ (by decide), Dev.get_lane_put_same _ _ _ (by decide)]
    rfl
  · rw [Dev.setPending, Dev.get_lane_put_same _ _ _ (by decide)]
    rfl

/-- The fields that a pending capacity leaves as they are. -/
theorem Dev.get_setPending_other (v e : Nat) (late : Bool) {f : Field}
    (hf : ∀ g ∈ [F.laneTuStatPend, F.laneTuStatPcap, F.laneTuPeffE], g.apart f = true) :
    (d.setPending n v e late).get (f.lane n) = d.get (f.lane n) := by
  rw [Dev.setPending, Dev.get_lane_put_apart _ _ _ (of_decide_eq_true (hf _ (by simp))),
    Dev.get_lane_put_apart _ _ _ (of_decide_eq_true (hf _ (by simp))), Dev.raise,
    Dev.get_lane_put_apart _ _ _ (of_decide_eq_true (hf _ (by simp)))]
  exact Dev.get_setLane _ _ _ _

/-! The frame of a change -/

/-- Nothing is pending any more. -/
def Dev.unpended : Dev :=
  (((d.setTu n { d.tu n with lateAt := none }).lower (F.laneTuStatPend.lane n)).put (F.laneTuStatPcap.lane n) 0).put (F.laneTuPeffE.lane n) 0

theorem Dev.capApply_eq : d.capApply n = (d.unpended n).setCap n (d.get (F.laneTuStatPcap.lane n)) := rfl

abbrev capWords : List Nat := [laneAddr n Reg.laneTuStat, laneAddr n Reg.laneTuPeff, laneAddr n Reg.laneTuEvt]

theorem Dev.laneOnly_unpended : d.LaneOnly n (capWords n) (d.unpended n) :=
  ((((Dev.LaneOnly.refl n _ d).setTu _).lower (f := F.laneTuStatPend.lane n) (.head _)).put (f := F.laneTuStatPcap.lane n) (.head _) 0).put
    (f := F.laneTuPeffE.lane n) (.tail _ (.head _)) 0

theorem Dev.get_unpended : (d.unpended n).on (F.laneTuStatPend.lane n) = false
    ∧ (d.unpended n).get (F.laneTuStatCap.lane n) = d.get (F.laneTuStatCap.lane n) := by
  refine ⟨?_, ?_⟩
  · rw [Dev.on, Dev.unpended, Dev.get_lane_put_apart _ _ _ (by decide), Dev.get_lane_put_apart _ _ _ (by decide), Dev.lower,
      Dev.get_lane_put_same _ _ _ (by decide)]
    rfl
  · rw [Dev.unpended, Dev.get_lane_put_apart _ _ _ (by decide), Dev.get_lane_put_apart _ _ _ (by decide), Dev.lower,
      Dev.get_lane_put_apart _ _ _ (by decide)]
    exact Dev.get_setLane _ _ _ _

theorem Dev.wordsBut_setCap (v : Nat) : Dev.WordsBut (capWords n) d (d.setCap n v) := by
  have hset : Dev.WordsBut (capWords n) d (d.setTu n { d.tu n with capFrom := d.seqNow % 0x1_0000 }) :=
    (Dev.WordsBut.refl _ d).of_words (Dev.setLane_words ..)
  unfold Dev.setCap
  extract_lets src d1
  split
  · exact hset
  · exact ((hset.put (f := F.laneTuStatCap.lane n) (.head _) v).raise (f := F.laneTuEvtCapchg.lane n) (.tail _ (.tail _ (.head _)))).of_words
      (Dev.only_count _ (by decide) n 1).words

theorem Dev.only_setCap (v : Nat) : Dev.Only [.words, .lanes, .acc] d (d.setCap n v) := by
  have hset : Dev.Only [.words, .lanes, .acc] d (d.setTu n { d.tu n with capFrom := d.seqNow % 0x1_0000 }) :=
    (d.only_setLane n _).mono (by decide)
  unfold Dev.setCap
  extract_lets src d1
  split
  · exact hset
  · exact ((hset.step (Dev.only_put _ _ v)).step (Dev.only_raise _ _)).step (Dev.only_count _ (by decide) n 1)

/-- The capacity that is set, with its event where it is a new one; nothing becomes pending. -/
theorem Dev.setCap_shown {v : Nat} (hv : v < 2 ^ 12) :
    (d.setCap n v).get (F.laneTuStatCap.lane n) = v
      ∧ (d.setCap n v).on (F.laneTuStatPend.lane n) = d.on (F.laneTuStatPend.lane n)
      ∧ (v ≠ d.get (F.laneTuStatCap.lane n) → (d.setCap n v).on (F.laneTuEvtCapchg.lane n) = true) := by
  unfold Dev.setCap
  extract_lets src d1
  have hd1 (f : Field) : d1.get (f.lane n) = d.get (f.lane n) := Dev.get_setLane _ _ _ _
  split
  · next hsame => exact ⟨(hd1 _).trans hsame, congrArg (· != 0) (hd1 F.laneTuStatPend), fun hne => absurd hsame.symm hne⟩
  · have hcount := Dev.only_count ((d1.put (F.laneTuStatCap.lane n) v).raise (F.laneTuEvtCapchg.lane n)) (k := 0) (c := 6) (by decide) n 1
    refine ⟨?_, ?_, fun _ => ?_⟩
    · rw [Dev.get_congr hcount.words, Dev.raise, Dev.get_lane_put_apart _ _ _ (by decide), Dev.get_lane_put_same _ _ _ (by decide)]
      exact Nat.mod_eq_of_lt hv
    · rw [Dev.on_congr hcount.words, Dev.on, Dev.raise, Dev.get_lane_put_apart _ _ _ (by decide), Dev.get_lane_put_apart _ _ _ (by decide), hd1]
      rfl
    · rw [Dev.on_congr hcount.words]
      exact Dev.on_raise _ (F.laneTuEvtCapchg.lane n) (show F.laneTuEvtCapchg.lo + F.laneTuEvtCapchg.len ≤ 32 by decide)
        (show 1 ≤ F.laneTuEvtCapchg.len by decide)

end

theorem exec_capacityAnnouncement (n : PortLane) (ok2 ok3 : Bool) (arg2 arg3 : BitVec 16) (s : State) :
    exec (.capacityAnnouncement n ok2 ok3 arg2 arg3) s = .next { s with dev := (s.dev.when
      ((s.dev.lane n).type == 1 && s.dev.inFrame n && ok2 && arg2.getLsbD 15) (fun d => d.announce n ok3 arg2.toNat arg3.toNat)) } := rfl

theorem exec_capacityChange (n : PortLane) (s : State) :
    exec (.capacityChange n) s = .next { s with dev := (s.dev.when (s.dev.capDue n.val) (fun d => d.capApply n.val)) } := rfl

/-- Settles O27: an announcement is shown as bad, or is pending; and the pending capacity takes effect. -/
theorem capacity : Obligations.Capacity := by
  intro n arg2 arg3 s v ahead
  refine ⟨fun htype hframe hbit => ?_, fun hdue => ?_⟩
  · have hcond : ((s.dev.lane n).type == 1 && s.dev.inFrame n && true && arg2.getLsbD 15) = true := by
      rw [htype, hframe, hbit]
      rfl
    refine ⟨fun ok3 hbad => ?_, fun hmin hmax hnew hpend hlow hhigh => ?_⟩
    · have hexec := exec_capacityAnnouncement n true ok3 arg2 arg3 s
      rw [State.when_true s hcond, s.dev.announce_bad n _ hbad] at hexec
      have hwords := (Dev.WordsOnly.refl [laneAddr n Reg.laneTuEvt] s.dev).raise (f := F.laneTuEvtAnnBad.lane n) (.head _)
      exact ⟨_, hexec, Dev.on_raise _ (F.laneTuEvtAnnBad.lane n) (show F.laneTuEvtAnnBad.lo + F.laneTuEvtAnnBad.len ≤ 32 by decide)
        (show 1 ≤ F.laneTuEvtAnnBad.len by decide), congrArg (fun e => ({ s with dev := e } : State)) hwords.1, hwords.2⟩
    · have hexec := exec_capacityAnnouncement n true true arg2 arg3 s
      rw [State.when_true s hcond, s.dev.announce_pending n hmin hmax hnew hpend ⟨hlow, hhigh⟩] at hexec
      have hkept := (s.dev.laneOnly_annShown n v arg3.toNat).setPending v arg3.toNat false
      obtain ⟨hN, hE⟩ := s.dev.get_annShown n v arg3.toNat
      obtain ⟨hon, hcap, hpeff⟩ := (s.dev.annShown n v arg3.toNat).get_setPending n v arg3.toNat false
      have hother := @Dev.get_setPending_other (s.dev.annShown n v arg3.toNat) n v arg3.toNat false
      have hv : v % 2 ^ 12 = v := Nat.mod_mod _ _
      have he : arg3.toNat % 2 ^ 16 = arg3.toNat := Nat.mod_eq_of_lt arg3.isLt
      refine ⟨_, hexec, hon, hcap.trans hv, hpeff.trans he, (hother (by decide)).trans (hN.trans hv), (hother (by decide)).trans (hE.trans he),
        (hother (by decide)).trans ?_, hkept.2.1, hkept.state⟩
      rw [Dev.annShown, Dev.get_lane_put_apart _ _ _ (by decide), Dev.get_lane_put_apart _ _ _ (by decide)]
      exact Dev.get_setLane _ _ _ _
  · have hexec := exec_capacityChange n s
    rw [State.when_true s hdue, Dev.capApply_eq] at hexec
    have hun := s.dev.laneOnly_unpended n
    obtain ⟨hpend, hcap⟩ := s.dev.get_unpended n
    obtain ⟨hset, hkeep, hevt⟩ := (s.dev.unpended n).setCap_shown n (s.dev.get_lt (F.laneTuStatPcap.lane n))
    have honly : Dev.Only [.words, .lanes, .acc] s.dev (s.dev.unpended n) := ((((s.dev.only_setLane n _).mono (by decide)).step (Dev.only_lower _ _)).step
      (Dev.only_put _ _ 0)).step (Dev.only_put _ _ 0)
    refine ⟨_, hexec, hset, hkeep.trans hpend, fun hne => hevt fun h => hne (h.trans hcap), hun.2.1.trans (Dev.wordsBut_setCap _ n _), ?_⟩
    exact congrArg (fun e => ({ s with dev := e } : State)) (honly.trans (Dev.only_setCap _ n _)).eq_words_lanes_acc

end Sys2Proof.Machine

/-! The multiframe alignment of a structured point and of a sink member (R227, R350). -/

namespace Sys2Proof.Machine

set_option Elab.async false -- a proof at a time, within the memory of a check

/-! What a write of one field leaves of another -/

/-- The two fields stand apart. -/
abbrev Field.clearOf (g f : Field) : Prop :=
  f.off ≠ g.off ∨ (g.lo + g.len ≤ 32 ∧ f.lo + f.len ≤ 32 ∧ (f.lo + f.len ≤ g.lo ∨ g.lo + g.len ≤ f.lo))

/-- `e` reads the field `f` as `d` does. -/
def Dev.Reads (f : Field) (d e : Dev) : Prop := e.get f = d.get f

namespace Dev.Reads

variable {f : Field} {d e : Dev}

theorem refl (f : Field) (d : Dev) : d.Reads f d := Eq.refl _

theorem trans {x : Dev} (h : Dev.Reads f d e) (h' : Dev.Reads f e x) : Dev.Reads f d x := Eq.trans h' h

theorem on (h : Dev.Reads f d e) : e.on f = d.on f := congrArg (· != 0) h

theorem of_words (h : Dev.Reads f d e) {x : Dev} (hx : x.words = e.words) : Dev.Reads f d x := (Dev.get_congr hx f).trans h

theorem of_only {S : List Part} {x : Dev} (h : Dev.Reads f d e) (hx : Dev.Only S e x) (hS : Part.words ∉ S := by decide) : Dev.Reads f d x :=
  h.of_words (hx.words hS)

theorem put (h : Dev.Reads f d e) {g : Field} (hg : g.clearOf f) (v : Nat) : Dev.Reads f d (e.put g v) := (e.get_put_apart v hg).trans h

theorem raise (h : Dev.Reads f d e) {g : Field} (hg : g.clearOf f) : Dev.Reads f d (e.raise g) := h.put hg 1

theorem lower (h : Dev.Reads f d e) {g : Field} (hg : g.clearOf f) : Dev.Reads f d (e.lower g) := h.put hg 0

theorem when (h : Dev.Reads f d e) (c : Bool) {g : Dev → Dev} (hg : ∀ x, Dev.Reads f d x → Dev.Reads f d (g x)) : Dev.Reads f d (e.when c g) :=
  Dev.when_keeps h hg

theorem foldl {α : Type} {l : List α} {g : Dev → α → Dev} (h : Dev.Reads f d e) (hg : ∀ x a, a ∈ l → Dev.Reads f d x → Dev.Reads f d (g x a)) :
    Dev.Reads f d (l.foldl g e) := List.foldlRecOn l g h fun x hx a ha => hg x a ha hx

/-- A field below the lanes' pages does not show a lane's defect. -/
theorem setDefect (h : Dev.Reads f d e) (hf : f.off < 0x1_0010_0000) (n bit : Nat) (v : Bool) : Dev.Reads f d (e.setDefect n bit v) := by
  by_cases hold : e.defect n bit = v
  · rw [Dev.setDefect_of_eq hold]
    exact h
  · have hlane (o : Nat) : f.off ≠ laneAddr n o := by unfold laneAddr; omega
    exact ((h.put (g := (defStatField bit).lane n) (.inl (hlane _)) _).raise (g := (defEvtField bit).lane n) (.inl (hlane _))).of_words
      (Dev.setDefect_words hold)

theorem groupBit (h : Dev.Reads f d e) {g : Nat} {b : Field} (hb : (b.at 64 g).clearOf f) (hevt : F.flwEvtGrpChg.clearOf f) (v : Bool) :
    Dev.Reads f d (e.groupBit g b v) := by
  unfold Dev.groupBit
  split
  · exact h
  · exact ((h.put hb _).raise hevt).of_only (Dev.only_markGroup _ g)

end Dev.Reads

/-! A point's bit of LOM -/

section
variable {d e : Dev} {f : Field}

theorem Dev.Reads.pathSummary (h : Dev.Reads f d e) (hf : f.off < 0x1_0010_0000) (k : Nat) (old : List Bool) : Dev.Reads f d (e.pathSummary k old) := by
  have hlane (n o : Nat) : f.off ≠ laneAddr n o := by unfold laneAddr; omega
  unfold Dev.pathSummary
  extract_lets n g new was is b any x bits c d1 path
  split
  · exact h
  · have h1 : Dev.Reads f d d1 := by
      unfold d1
      split
      · exact ((h.put (.inl (hlane _ _)) _).raise (.inl (hlane _ _))).put (.inl (hlane _ _)) _
      · exact (h.put (.inl (hlane _ _)) _).raise (.inl (hlane _ _))
    exact ((h1.setDefect hf n defPath path).of_only (Dev.only_markPath _ k)).of_only (Dev.only_protSee _)

/-- Bit 29 below the lanes' pages: the place of a high-order point's LOM. -/
structure Field.IsLom (f : Field) : Prop where
  lo : f.lo = 29
  len : f.len = 1
  off : f.off < 0x1_0010_0000

theorem Dev.Reads.pathShow (h : Dev.Reads f d e) (hf : f.IsLom) (k : Nat) : Dev.Reads f d (e.pathShow k) := by
  obtain ⟨hlo, hlen, hoff⟩ := hf
  have hbits {g : Field} (hg : g.lo + g.len ≤ 29) : g.clearOf f := .inr (by omega)
  have hst {ho lo : Field} (hg : ho.lo + ho.len ≤ 29 ∧ lo.lo + lo.len ≤ 29) : (stField k ho lo).clearOf f := by
    refine hbits ?_
    rw [stField]
    split
    · exact hg.1
    · exact hg.2
  unfold Dev.pathShow
  extract_lets old p idle ok lab sl d1 d2 d3
  have h1 : Dev.Reads f d d1 := (((((h.put (hst (by decide)) _).put (hst (by decide)) _).put (hst (by decide)) _).put (hst (by decide)) _).put
    (hst (by decide)) _).put (hst (by decide)) _
  have h2 : Dev.Reads f d d2 := h1.when _ fun x hx => hx.put (hbits (g := stRfi k) (show F.loStRfi.lo + F.loStRfi.len ≤ 29 by decide)) _
  have h3 : Dev.Reads f d d3 := h2.when _ fun x hx => (((hx.lower (hbits (g := pmPoint k F.pmPtStSd) (show F.pmPtStSd.lo + F.pmPtStSd.len ≤ 29 by decide))).lower
    (hbits (g := pmPoint k F.pmPtStSf) (show F.pmPtStSf.lo + F.pmPtStSf.len ≤ 29 by decide))).of_only
    (Dev.only_estClear _ _)).of_only (Dev.only_estClear _ _)
  exact (h3.pathSummary hoff k old).of_only (Dev.only_markOnes _ k)

theorem Dev.Reads.pathUpdate (h : Dev.Reads f d e) (hf : f.IsLom) (k : Nat) : Dev.Reads f d (e.pathUpdate k) := by
  unfold Dev.pathUpdate
  extract_lets d1 d2
  have h1 : Dev.Reads f d d1 := h.pathShow hf k
  have h2 : Dev.Reads f d d2 := by
    unfold d2
    split
    · split
      · exact h1.pathShow hf _
      · exact h1
    · exact h1
  split
  · exact h2.foldl fun x j _ hx => hx.pathShow hf j
  · exact h2

/-! A member's bit of LOM -/

/-- Bit 18 of the members' status: the place of a member's LOM. -/
structure Field.IsMemLom (f : Field) : Prop where
  lo : f.lo = 18
  len : f.len = 1
  off : 0x1a40_0000 ≤ f.off
  lt : f.off < 0x1_0000_0000

/-- A group's status stands below the members', and an event of the Flow Engine above. -/
theorem Field.IsMemLom.group {f : Field} (hf : f.IsMemLom) {g : Nat} (hg : g < 2 ^ 14) {b : Field} (hb : b.off < 0x1a28_0010) : (b.at 64 g).clearOf f := by
  obtain ⟨-, -, hoff, -⟩ := hf
  exact .inl (show f.off ≠ b.off + 64 * g by omega)

theorem Field.IsMemLom.event {f : Field} (hf : f.IsMemLom) {b : Field} (hb : b.off = 0x1_000c_0100) : b.clearOf f := by
  obtain ⟨-, -, -, hlt⟩ := hf
  exact .inl (by omega)

/-- The other fields of a member's status. -/
theorem Field.IsMemLom.member {f : Field} (hf : f.IsMemLom) (i : Nat) {b : Field} (hb : b.lo + b.len ≤ 18 ∨ 19 ≤ b.lo ∧ b.lo + b.len ≤ 32) :
    (b.at 8 i).clearOf f := by
  obtain ⟨hlo, hlen, -, -⟩ := hf
  refine .inr ⟨show b.lo + b.len ≤ 32 by omega, by omega, ?_⟩
  exact (show f.lo + f.len ≤ b.lo ∨ b.lo + b.len ≤ f.lo by omega)

theorem Dev.Reads.setGroup (h : Dev.Reads f d e) (g : Nat) (x : GroupSt) : Dev.Reads f d (e.setGroup g x) := h.of_words (Dev.setGroup_words e g x)

theorem Dev.Reads.gfpRestart (h : Dev.Reads f d e) (hf : f.IsMemLom) {g : Nat} (hg : g < 2 ^ 14) : Dev.Reads f d (e.gfpRestart g) := by
  unfold Dev.gfpRestart
  extract_lets d1
  have h0 : Dev.Reads f d (e.setGfpSieve g (e.gfpSieve g).restart) := h.of_only (e.only_setGfpSieve g _)
  have h1 : Dev.Reads f d d1 := (h0.put (g := F.grpStSv.at 64 g) (hf.group hg (by decide)) 0).put (g := F.grpStSlots.at 64 g) (hf.group hg (by decide)) 0
  exact (h1.setGroup g _).groupBit (b := F.grpStLfd) (hf.group hg (by decide)) (hf.event rfl) true

theorem Dev.Reads.showSink (h : Dev.Reads f d e) (hf : f.IsMemLom) (g i : Nat) : Dev.Reads f d (e.showSink g i) := by
  unfold Dev.showSink
  extract_lets ok c st d1
  have h1 : Dev.Reads f d d1 := (h.put (hf.member i (by decide)) _).put (hf.member i (by decide)) _
  exact h1.when _ fun x hx => (hx.raise (g := F.flwEvtLcasChg) (hf.event rfl)).of_only (Dev.only_count _ (by decide) _ _)

theorem Dev.Reads.sinkUpdate (h : Dev.Reads f d e) (hf : f.IsMemLom) {g : Nat} (hg : g < 2 ^ 14) : Dev.Reads f d (e.sinkUpdate g) := by
  unfold Dev.sinkUpdate
  extract_lets l use before d1 after ack src d2 loa d3 d4 late want runs was align src'
  have h1 : Dev.Reads f d d1 := h.foldl fun x i _ hx => hx.showSink hf g i
  have hack : Dev.Reads f d (d1.setGroup g { d1.group g with rsAck := ack }) := h1.setGroup g _
  have h2 : Dev.Reads f d d2 := hack.foldl fun x i _ hx => hx.put (g := F.memStRsack.at 8 i) (hf.member i (by decide)) _
  have h3 : Dev.Reads f d d3 := ((h2.groupBit (b := F.grpStSqm) (hf.group hg (by decide)) (hf.event rfl) _).groupBit (b := F.grpStLom)
    (hf.group hg (by decide)) (hf.event rfl) _).groupBit (b := F.grpStLoa) (hf.group hg (by decide)) (hf.event rfl) _
  have h4 : Dev.Reads f d d4 := (h3.put (g := F.grpStDdelay.at 64 g) (hf.group hg (by decide)) _).put
    (g := F.grpStSnkUse.at 64 g) (hf.group hg (by decide)) _
  exact (h4.setGroup g _).when _ fun x hx => hx.gfpRestart hf hg

end

/-! The multiframe indication -/

section
variable {x : Mf} {m e v : Nat}

theorem Mf.step_in_sequence (hbad : x.bad < 2) (hnext : x.next = some e) : x.step m e
    = { x with next := some ((e + 1) % m), bad := 0, frames := Nat.min 8 (x.frames + 1) } := by
  rw [Mf.step, Mf.frame, if_neg (Nat.not_le.mpr hbad), hnext, if_pos ⟨rfl, .inr rfl⟩]
  rfl

theorem Mf.step_out_of_sequence (hbad : x.bad < 2) (hnext : x.next = some e) (hv : v ≠ e) : x.step m v
    = if 1 ≤ x.bad then { next := none, bad := 2, last := some v, oom := false, frames := 0 }
      else { x with next := some ((e + 1) % m), bad := 1, frames := Nat.min 8 (x.frames + 1) } := by
  rw [Mf.step, Mf.frame, if_neg (Nat.not_le.mpr hbad), hnext, if_neg]
  · rfl
  · rintro ⟨-, h | h⟩
    · exact absurd h (by simp)
    · exact hv (Option.some.inj h).symm

theorem Mf.step_out_of_frame (hbad : 2 ≤ x.bad) (hlast : x.last = some e) :
    v = (e + 1) % m ↔ (x.step m v).bad = 0 := by
  rw [Mf.step, Mf.frame, if_pos hbad, hlast]
  refine ⟨fun h => ?_, fun h => ?_⟩
  · rw [if_pos ⟨rfl, congrArg some h.symm⟩]
  · by_contra hne
    rw [if_neg fun hc => hne (Option.some.inj hc.2).symm] at h
    exact absurd (show x.bad = 0 from h) (by omega)

end

theorem exec_oom (i : MfSource) (k : Nat) (s : State) : exec (.oom i k) s = .next { s with dev := s.dev.mfOom i k } := rfl

theorem exec_lom (i : MfSource) (s : State) : exec (.lom i) s = .next { s with dev := s.dev.mfLom i } := rfl

section
variable (d : Dev)

/-- The multiframe of a source. -/
def Dev.mfOf : MfSource → Mf
  | .ho k => (d.path k).mf
  | .member j => (d.member j).rx.mf

theorem Dev.member_setMember_same (j : Nat) (x : MemberSt) : (d.setMember j x).member j = x := Store.get_set_same ..

/-- OOM where the multiframe has been missed twice. -/
theorem Dev.mfOf_mfOom (i : MfSource) (hlive : match i with | .ho k => d.h4Live k = true | .member j => d.mfiLive j = true) :
    (d.mfOom i (d.mfOf i).bad).mfOf i = (d.mfOf i).declare ∧ (d.mfOom i (d.mfOf i).bad).words = d.words := by
  cases i with
  | ho k =>
    rw [Dev.mfOom, show d.mfOf (.ho k) = (d.path k).mf from rfl, show d.h4Live k = true from hlive, beq_self_eq_true, Dev.when, if_pos (by rfl)]
    exact ⟨congrArg PathSt.mf (d.path_setPath_same k _), rfl⟩
  | member j =>
    rw [Dev.mfOom, show d.mfOf (.member j) = (d.member j).rx.mf from rfl, show d.mfiLive j = true from hlive, beq_self_eq_true, Dev.when, if_pos (by rfl)]
    exact ⟨congrArg (fun x : MemberSt => x.rx.mf) (d.member_setMember_same j _), rfl⟩

/-- Where LOM of a source shows. -/
def lomField : MfSource → Field
  | .ho k => stLom k
  | .member j => F.memStLom.at 8 j

theorem Dev.on_mfLom (i : MfSource) (hlive : match i with | .ho k => d.h4Live k = true | .member j => d.mfiLive j = true) :
    (d.mfLom i).on (lomField i) = (d.mfOf i).lom (d.on (lomField i)) := by
  cases i with
  | ho k =>
    have hoff : statAddr k < 0x1_0010_0000 := by
      rw [statAddr, if_pos k.isLt]
      omega
    have hlom : (stLom k).IsLom := ⟨rfl, rfl, hoff⟩
    rw [Dev.mfLom, show d.h4Live k = true from hlive, Dev.when, if_pos rfl]
    exact ((Dev.Reads.refl (stLom k) _).pathUpdate hlom k).on.trans (d.on_put_bitOf (stLom k) _ (show 29 < 32 by decide) rfl)
  | member j =>
    have hlom : (F.memStLom.at 8 j).IsMemLom := ⟨rfl, rfl, show 0x1a40_0000 ≤ 0x1a500000 + 8 * j.val by omega,
      show 0x1a500000 + 8 * j.val < 0x1_0000_0000 by omega⟩
    rw [Dev.mfLom, show d.mfiLive j = true from hlive, Dev.when, if_pos rfl]
    exact ((Dev.Reads.refl (F.memStLom.at 8 j) _).sinkUpdate hlom (d.get_lt (F.mem1Group.at 8 j))).on.trans
      (d.on_put_bitOf (F.memStLom.at 8 j) _ (show 18 < 32 by decide) rfl)

end

/-- Settles O36: OOM, LOM, and the order of the multiframe indications. -/
theorem multiframeAlignment : Obligations.MultiframeAlignment := by
  refine ⟨fun i s hlive => ?_, fun x m e v _ _ _ => ⟨fun hbad hnext hv => ?_, fun hbad hnext hv => ?_, fun hbad hnext hv => ?_, Mf.step_out_of_frame⟩⟩
  · have hoom := s.dev.mfOf_mfOom i hlive
    have hlom := s.dev.on_mfLom i hlive
    refine ⟨fun h => ⟨_, exec_oom i _ s, ?_, ⟨rfl, rfl⟩, hoom.2⟩, fun h => ⟨_, exec_oom i _ s, ?_, ⟨rfl, rfl⟩, hoom.2⟩,
      fun h => ⟨_, exec_lom i s, ⟨rfl, rfl⟩, ?_⟩, fun h => ⟨_, exec_lom i s, ⟨rfl, rfl⟩, ?_⟩⟩
    · exact hoom.1.trans (if_pos h)
    · exact hoom.1.trans (if_neg (Nat.not_le.mpr h))
    · exact hlom.trans (if_neg (Nat.not_lt.mpr h))
    · exact hlom.trans (if_pos h)
  · rw [hv, Mf.step_in_sequence hbad hnext]
    exact ⟨rfl, rfl, rfl⟩
  · rw [Mf.step_out_of_sequence (by omega) hnext hv, if_neg (by omega)]
    exact ⟨rfl, rfl⟩
  · rw [Mf.step_out_of_sequence (by omega) hnext hv, if_pos (by omega)]
    exact ⟨rfl, rfl⟩

end Sys2Proof.Machine

/-! Changes of mode, bring-up and the resets of the units leave time and the loop alone. -/

namespace Sys2Proof.Machine

set_option Elab.async false -- a proof at a time, within the memory of a check

/-- All parts of the device but time and the loop. -/
abbrev unclocked : List Part :=
  [.fresh, .words, .activeMap, .shadowMap, .lanes, .paths, .restarts, .structs, .gfp, .snaps, .replies, .acc, .accClosed, .est,
   .estAcc, .ladle, .bw, .skw, .fec, .psq, .flows, .groups, .members, .msp, .snc, .applies, .selRestart, .bridge, .sram, .bursts, .port,
   .mgt, .panel, .modes, .mate, .grm, .inFill, .made, .egress, .inMove, .egFill, .egRead, .items]

/-- Time and the loop are as they were. -/
abbrev Dev.SameClock (d e : Dev) : Prop := Dev.Only unclocked d e

theorem Dev.SameClock.intro {S : List Part} {d e : Dev} (h : Dev.Only S d e) (hS : S ⊆ unclocked := by decide) : d.SameClock e := h.mono hS

section
variable (d : Dev)

/-! The words and the other parts -/

theorem Dev.sameClock_setWord (a : Nat) (w : W32) : d.SameClock (d.setWord a w) := (d.only_setWord a w).mono (by decide)

theorem Dev.sameClock_put (f : Field) (v : Nat) : d.SameClock (d.put f v) := (d.only_put f v).mono (by decide)

theorem Dev.sameClock_modes (v : Modes) : d.SameClock { d with modes := v } := .part .modes (by decide) fun _ _ hp => hp d v

theorem Dev.sameClock_mate (v : Mate) : d.SameClock { d with mate := v } := .part .mate (by decide) fun _ _ hp => hp d v

theorem Dev.sameClock_setLane (n : Nat) (x : LaneSt) : d.SameClock (d.setLane n x) := (d.only_setLane n x).mono (by decide)

theorem Dev.sameClock_setGroup (g : Nat) (x : GroupSt) : d.SameClock (d.setGroup g x) := .part .groups (by decide) fun _ _ hp => hp d _

theorem Dev.sameClock_setMember (i : Nat) (x : MemberSt) : d.SameClock (d.setMember i x) := .part .members (by decide) fun _ _ hp => hp d _

theorem Dev.sameClock_setGrm (g : Grm) : d.SameClock (d.setGrm g) := .part .grm (by decide) fun _ _ hp => hp d g

/-! Modes (R426, R626, R635, R662) -/

theorem Dev.sameClock_resumeTimers : d.SameClock d.resumeTimers := by
  have hmodes := d.sameClock_modes { d.modes with resumed := d.now }
  have hmsp : d.SameClock { d with modes := { d.modes with resumed := d.now }, msp := Store.remap (fun _ => {}) ProtSt.afresh d.msp } :=
    hmodes.trans (.part .msp (by decide) fun _ _ hp => hp { d with modes := { d.modes with resumed := d.now } } _)
  exact (hmsp.trans (.part .snc (by decide) fun _ _ hp => hp
    { d with modes := { d.modes with resumed := d.now }, msp := Store.remap (fun _ => {}) ProtSt.afresh d.msp } _)).step (Dev.only_protSee _)

theorem Dev.sameClock_panelMode (m : Nat) : d.SameClock (d.panelMode m) := by
  unfold Dev.panelMode
  split
  · exact ((d.sameClock_put _ _).step (Dev.only_raise _ _)).step (Dev.only_raise _ _)
  · split
    · exact .part .panel (by decide) fun _ _ hp => hp d _
    · exact .refl _ d

theorem Dev.sameClock_setMode (m : Nat) : d.SameClock (d.setMode m) := by
  unfold Dev.setMode
  extract_lets e
  have he : d.SameClock e := (Dev.Only.whenStep _ fun x => x.sameClock_resumeTimers).trans (.whenStep _ fun x => x.sameClock_panelMode m)
  split
  · exact he
  · exact (((he.step (Dev.only_put _ _ _)).step (Dev.only_put _ _ _)).step (Dev.only_bump _ _ _)).step (Dev.only_raise _ _)

theorem Dev.sameClock_ledger (p id step state done : Nat) : d.SameClock (d.ledger p id step state done) :=
  ((((d.sameClock_put _ _).step (Dev.only_put _ _ _)).step (Dev.only_put _ _ _)).step (Dev.only_put _ _ _)).trans
    (.whenStep _ fun x => (x.only_raise _).mono (by decide))

theorem Dev.sameClock_abortLedger (p : Nat) : d.SameClock (d.abortLedger p) :=
  .whenStep _ fun x => (x.sameClock_put _ _).step (Dev.only_raise _ _)

theorem Dev.sameClock_putAll (l : List (Field × Nat)) : d.SameClock (d.putAll l) := .foldl _ fun x i _ => x.sameClock_put i.1 i.2

theorem Dev.sameClock_capCommit (old : Dev) : d.SameClock (d.capCommit old) :=
  Dev.Only.trans (.whenStep _ fun x => ((x.only_roll _ _).mono (by decide)).step (Dev.only_raise _ _))
    (.each 120 fun x p => .whenStep _ fun y => (y.only_raise _).mono (by decide))

theorem Dev.sameClock_skewFollow (p : Nat) : d.SameClock (d.skewFollow p) := by
  unfold Dev.skewFollow
  split
  · split
    · exact .refl _ d
    · exact d.sameClock_modes _
  · exact (d.sameClock_modes _).step (Dev.only_lower _ _)

theorem Dev.sameClock_setEff (p x r : Nat) : d.SameClock (d.setEff p x r) :=
  ((d.sameClock_put _ _).step (Dev.only_put _ _ _)).trans (Dev.sameClock_skewFollow _ p)

theorem Dev.sameClock_settlePage (edge : Bool) (p : Nat) : d.SameClock (d.settlePage edge p) := by
  unfold Dev.settlePage
  split
  · exact .whenStep _ fun x => x.sameClock_put _ _
  · extract_lets t down ends d1 d2
    have h1 : d.SameClock d1 := .whenStep _ fun x => (x.sameClock_putAll _).trans (Dev.sameClock_modes _ _)
    have h2 : d.SameClock d2 := (h1.trans (.whenStep _ fun x => x.sameClock_putAll _)).trans (.whenStep _ fun x => x.sameClock_putAll _)
    split
    · exact .refl _ d
    · exact h2.trans (Dev.sameClock_setEff _ _ _ _)

theorem Dev.sameClock_settle (edge : Bool) : d.SameClock (d.settle edge) :=
  (Dev.Only.each 120 fun x p => x.sameClock_settlePage edge p).trans (Dev.sameClock_capCommit _ d)

theorem Dev.sameClock_startBringUp : d.SameClock d.startBringUp := (d.sameClock_modes _).trans (Dev.sameClock_ledger _ _ _ _ _ _)

theorem Dev.sameClock_warmStages : d.SameClock d.warmStages := by
  unfold Dev.warmStages
  extract_lets up d1
  have hup : d.SameClock up := .foldl _ fun x p _ => x.sameClock_putAll _
  exact ((hup.trans (up.sameClock_modes _)).trans (Dev.sameClock_ledger _ _ _ _ _ _)).trans (Dev.sameClock_capCommit _ d)

theorem Dev.sameClock_enterPrepare : d.SameClock d.enterPrepare :=
  (((d.sameClock_setMode modePrepare).trans (Dev.sameClock_startBringUp _)).trans (.whenStep _ fun x => x.sameClock_warmStages)).trans
    (Dev.sameClock_settle _ false)

theorem Dev.sameClock_endSafehold : d.SameClock d.endSafehold := by
  unfold Dev.endSafehold
  split
  · exact d.sameClock_enterPrepare
  · exact .refl _ d

/-! The interconnect and the Groomer (R529, R530) -/

theorem Dev.sameClock_setBurst (m : Nat) (b : Burst) : d.SameClock (d.setBurst m b) := .part .bursts (by decide) fun _ _ hp => hp d _

theorem Dev.sameClock_reply (m : Nat) (r : Reply) : d.SameClock (d.reply m r) := .part .replies (by decide) fun _ _ hp => hp d _

theorem Dev.sameClock_fecSeen (m a : Nat) (w : Bool) (r : Resp) (k : Nat) : d.SameClock (d.fecSeen m a w r k) :=
  .each 16 fun x n => by
    split
    · exact .part .fec (by decide) fun _ _ hp => hp x _
    · exact .refl _ x

theorem Dev.sameClock_abortRecord (m : Nat) (b : Burst) : d.SameClock (d.abortRecord m b) := by
  unfold Dev.abortRecord
  extract_lets w d1
  have h1 : d.SameClock d1 := by
    unfold d1
    split
    · exact d.sameClock_put _ _
    · exact ((d.sameClock_setWord _ _).step (Dev.only_put _ _ _)).step (Dev.only_put _ _ _)
  exact (h1.step (Dev.only_roll _ _ _)).step (Dev.only_raise _ _)

theorem Dev.sameClock_abortBurst (m : Nat) : d.SameClock (d.abortBurst m) := by
  unfold Dev.abortBurst
  extract_lets b
  split
  · exact (((d.sameClock_setBurst m {}).trans (Dev.sameClock_abortRecord _ _ _)).trans (Dev.sameClock_reply _ _ _)).trans (Dev.sameClock_fecSeen _ _ _ _ _ _)
  · exact .refl _ d

theorem Dev.sameClock_grmEnd (op res : Nat) : d.SameClock (d.grmEnd op res) :=
  (((d.sameClock_put _ _).step (Dev.only_put _ _ _)).step (Dev.only_lower _ _)).trans (Dev.sameClock_setGrm _ _)

theorem Dev.sameClock_groomReset : d.SameClock d.groomReset := by
  unfold Dev.groomReset
  extract_lets keep d1 d2
  have h1 : d.SameClock d1 := .whenStep _ fun x => (x.sameClock_grmEnd _ _).step (Dev.only_raise _ _)
  exact ((h1.trans (.whenStep _ fun x => x.sameClock_put _ _)).trans (Dev.sameClock_abortLedger _ _)).trans (Dev.sameClock_setGrm _ _)

/-! The Flow Engine (R347, R350, R353, R638) -/

theorem Dev.sameClock_groupBit (g : Nat) (f : Field) (v : Bool) : d.SameClock (d.groupBit g f v) := (d.only_groupBit g f v).mono (by decide)

theorem Dev.sameClock_gfpRestart (g : Nat) : d.SameClock (d.gfpRestart g) :=
  (((((d.only_setGfpSieve g _).mono (by decide)).step (Dev.only_put _ _ _)).step (Dev.only_put _ _ _)).trans (Dev.sameClock_setGroup _ g _)).trans
    (Dev.sameClock_groupBit _ g _ _)

theorem Dev.sameClock_streamCheck (g : Nat) : d.SameClock (d.streamCheck g) := .whenStep _ fun x => x.sameClock_gfpRestart g

theorem Dev.sameClock_showSink (g i : Nat) : d.SameClock (d.showSink g i) := by
  unfold Dev.showSink
  extract_lets ok c st d1
  have h1 : d.SameClock d1 := (d.sameClock_put _ _).step (Dev.only_put _ _ _)
  exact h1.trans (.whenStep _ fun x => ((x.only_raise _).mono (by decide)).step (Dev.only_count _ (by decide) _ _))

theorem Dev.sameClock_sinkUpdate (g : Nat) : d.SameClock (d.sinkUpdate g) := by
  unfold Dev.sinkUpdate
  extract_lets l use before d1 after ack src d2 loa d3 d4 late want runs was align src'
  have h1 : d.SameClock d1 := .foldl _ fun x i _ => x.sameClock_showSink g i
  have h2 : d.SameClock d2 := (h1.trans (d1.sameClock_setGroup g _)).trans (.foldl _ fun x i _ => x.sameClock_put _ _)
  have h3 : d.SameClock d3 := ((h2.trans (Dev.sameClock_groupBit _ g _ _)).trans (Dev.sameClock_groupBit _ g _ _)).trans (Dev.sameClock_groupBit _ g _ _)
  have h4 : d.SameClock d4 := (h3.step (Dev.only_put _ _ _)).step (Dev.only_put _ _ _)
  exact (h4.trans (d4.sameClock_setGroup g _)).trans (Dev.sameClock_streamCheck _ g)

theorem Dev.sameClock_showSourceUse (g : Nat) : d.SameClock (d.showSourceUse g) := d.sameClock_put _ _

end

end Sys2Proof.Machine

/-! The resets of the units leave time and the loop alone (R635, R638). -/

namespace Sys2Proof.Machine

set_option Elab.async false -- a proof at a time, within the memory of a check

section
variable (d : Dev)

/-! The Flow Engine -/

theorem Dev.sameClock_setSource (i st sq : Nat) : d.SameClock (d.setSource i st sq) :=
  ((((d.sameClock_put _ _).step (Dev.only_put _ _ _)).step (Dev.only_put _ _ _)).trans
    (.whenStep _ fun x => ((x.only_raise _).mono (by decide)).step (Dev.only_count _ (by decide) _ _))).trans
    (.whenStep _ fun x => (x.only_note _ _).mono (by decide))

theorem Dev.sameClock_startMember (i : Nat) : d.SameClock (d.startMember i) := by
  unfold Dev.startMember
  extract_lets g d1
  have h1 : d.SameClock d1 := (d.sameClock_setMember i _).step (Dev.only_setWord _ _ _)
  split
  · exact (h1.step (Dev.only_raise _ _)).trans (Dev.sameClock_sinkUpdate _ g)
  · split
    · exact ((h1.step (Dev.only_put _ _ _)).trans (Dev.sameClock_setSource _ i _ _)).trans (Dev.sameClock_showSourceUse _ g)
    · exact ((h1.trans (Dev.sameClock_setSource _ i _ _)).trans (Dev.sameClock_setMember _ i _)).trans (Dev.sameClock_showSourceUse _ g)

theorem Dev.sameClock_flowReset : d.SameClock d.flowReset := by
  unfold Dev.flowReset
  extract_lets empty lanes d1 d2 d3 d4
  have h1 : d.SameClock d1 := fun α p hp =>
    (hp .lanes (by decide) { d with psq := {}, flows := [], groups := [], members := [] } lanes).trans
      ((hp .members (by decide) { d with psq := {}, flows := [], groups := [] } []).trans
        ((hp .groups (by decide) { d with psq := {}, flows := [] } []).trans
          ((hp .flows (by decide) { d with psq := {} } []).trans (hp .psq (by decide) d {}))))
  have h2 : d.SameClock d2 := (h1.step (Dev.only_put _ _ _)).step (Dev.only_put _ _ _)
  have h3 : d.SameClock d3 := h2.trans (.foldl _ fun x f _ => (x.sameClock_put _ _).step (Dev.only_put _ _ _))
  have h4 : d.SameClock d4 := h3.trans (.foldl _ fun x i _ => x.sameClock_startMember i)
  exact h4.trans (.foldl _ fun x g _ => x.sameClock_gfpRestart g)

/-! The Monitor and the mate (R463, R489, R496) -/

theorem Dev.sameClock_loseTags : d.SameClock d.loseTags := .foldl _ fun x _ _ => .part .skw (by decide) fun _ _ hp => hp x _

theorem Dev.sameClock_setMate (m : Mate) : d.SameClock (d.setMate m) := d.sameClock_mate m

theorem Dev.sameClock_mateBit (f e : Field) (v : Bool) : d.SameClock (d.mateBit f e v) := by
  unfold Dev.mateBit
  split
  · exact .refl _ d
  · exact (d.sameClock_put _ _).step (Dev.only_raise _ _)

theorem Dev.sameClock_setRole (r : Nat) : d.SameClock (d.setRole r) := by
  unfold Dev.setRole
  extract_lets d0 d1
  have h0 : d.SameClock d0 := ((d.sameClock_abortBurst 6).step (Dev.only_put _ _ _)).step (Dev.only_raise _ _)
  have h1 : d.SameClock d1 := h0.trans (.whenStep _ fun x => x.sameClock_put _ _)
  split
  · exact .refl _ d
  · split
    · exact h1.trans (Dev.sameClock_resumeTimers _)
    · exact h1

theorem Dev.sameClock_releaseLid : d.SameClock d.releaseLid :=
  (d.sameClock_setMate _).trans (.whenStep _ fun x => ((x.only_raise _).mono (by decide)).step (Dev.only_raise _ _))

theorem Dev.sameClock_enterRejoin : d.SameClock d.enterRejoin := by
  unfold Dev.enterRejoin
  extract_lets d1
  have h1 : d.SameClock d1 := (((d.sameClock_setRole _).step (Dev.only_lower _ _)).step (Dev.only_put _ _ _)).trans (Dev.sameClock_mateBit _ _ _ _)
  exact h1.trans (d1.sameClock_setMate _)

theorem Dev.sameClock_mateSafe : d.SameClock d.mateSafe := d.sameClock_releaseLid.trans (.whenStep _ fun x => x.sameClock_enterRejoin)

theorem Dev.sameClock_protReset : d.SameClock d.protReset := by
  unfold Dev.protReset
  extract_lets again
  exact fun α p hp =>
    (hp .applies (by decide) { d with msp := Store.remap (fun _ => {}) again d.msp, snc := Store.remap (fun _ => {}) again d.snc } []).trans
      ((hp .snc (by decide) { d with msp := Store.remap (fun _ => {}) again d.msp } _).trans (hp .msp (by decide) d _))

/-! The lanes and the points (R60, R133, R635) -/

theorem Dev.sameClock_receiveRestart (n : Nat) : d.SameClock (d.receiveRestart n) := by
  unfold Dev.receiveRestart
  extract_lets l s d1 d2 d3 d4
  have h1 : d.SameClock d1 := d.sameClock_setLane n _
  have h2 : d.SameClock d2 := ((((((h1.trans ((d1.only_rewindOwn n).mono (by decide))).step (Dev.only_cutPackets _ n)).step (Dev.only_put _ _ _)).step
    (Dev.only_put _ _ _)).step (Dev.only_lower _ _)).step (Dev.only_lower _ _)).step (Dev.only_lower _ _)
  have h3 : d.SameClock d3 := h2.trans (.foldl _ fun x o _ => x.sameClock_setWord _ _)
  have h4 : d.SameClock d4 := ((h3.step (Dev.only_setWord _ _ _)).step (Dev.only_setDefect _ n _ _)).step (Dev.only_setDefect _ n _ _)
  exact ((h4.step (Dev.only_put _ _ _)).step (Dev.only_lower _ _)).step (Dev.only_protSee _)

theorem Dev.sameClock_huntAgain (n : Nat) : d.SameClock (d.huntAgain n) :=
  (d.sameClock_setLane n _).trans ((Dev.only_setSv _ n svHunt).mono (by decide))

theorem Dev.sameClock_restartLane (n : Nat) : d.SameClock (d.restartLane n) := by
  unfold Dev.restartLane
  extract_lets src d1 loft d2 mate d3
  have h1 : d.SameClock d1 := d.sameClock_setLane n _
  have h2 : d.SameClock d2 := ((h1.step (Dev.only_put _ _ _)).step (Dev.only_put _ _ _)).trans (.whenStep _ fun x => (x.only_setLof n false).mono (by decide))
  have hmate : d.SameClock (if n < 96 then d2 else { d2 with mate := { mate with excluded := mate.excluded.filter (fun x => x != n - 96) } }) := by
    split
    · exact h2
    · exact h2.trans (d2.sameClock_mate _)
  have h3 : d.SameClock d3 := (hmate.trans (Dev.sameClock_receiveRestart _ n)).trans (Dev.sameClock_huntAgain _ n)
  split
  · exact h3.step (Dev.only_settleLane _ n)
  · exact h3

theorem Dev.sameClock_prbsStart (n : Nat) (on : Bool) : d.SameClock (d.prbsStart n on) := by
  unfold Dev.prbsStart
  split
  · exact Dev.Only.trans (e := { d with fresh := d.fresh + 1 }) (.part .fresh (by decide) fun _ _ hp => hp d _) (Dev.sameClock_setLane _ n _)
  · exact d.sameClock_setLane n _

theorem Dev.sameClock_psqNote : d.SameClock d.psqNote := d.only_psqNote.mono (by decide)

theorem Dev.sameClock_laneReset (n : Nat) : d.SameClock (d.laneReset n) := by
  unfold Dev.laneReset
  extract_lets e l soh sv
  have he : d.SameClock e := ((d.only_cutPackets n).mono (by decide)).step (Dev.only_rewindOwn _ n)
  exact (((he.trans (e.sameClock_setLane n _)).trans (Dev.sameClock_restartLane _ n)).trans (.whenStep _ fun x => x.sameClock_prbsStart n true)).trans
    (.whenStep _ fun x => x.sameClock_psqNote)

theorem Dev.sameClock_pathsReset (n : Nat) : d.SameClock (d.pathsReset n) :=
  Dev.Only.trans (.foldl _ fun x k _ => (x.only_setPath k _).mono (by decide)) (.foldl _ fun x k _ => (x.only_settlePoint false k).mono (by decide))

/-! A unit leaves service -/

theorem Dev.sameClock_resetPage (p : Nat) : d.SameClock (d.resetPage p) := .part .words (by decide) fun _ _ hp => hp d _

theorem Dev.sameClock_unitReset (p : Nat) : d.SameClock (d.unitReset p) := by
  unfold Dev.unitReset
  extract_lets e
  have he : d.SameClock e := d.sameClock_resetPage p
  split
  · exact (he.trans (e.sameClock_abortBurst 4)).trans (Dev.sameClock_groomReset _)
  · split
    · exact he.trans e.sameClock_flowReset
    · split
      · have hlose : d.SameClock ((e.abortBurst 3).abortBurst 5).loseTags :=
          ((he.trans (e.sameClock_abortBurst 3)).trans (Dev.sameClock_abortBurst _ 5)).trans (Dev.sameClock_loseTags _)
        exact hlose.trans fun α p hp => (hp .estAcc (by decide) { ((e.abortBurst 3).abortBurst 5).loseTags with est := [] } []).trans
          (hp .est (by decide) ((e.abortBurst 3).abortBurst 5).loseTags [])
      · split
        · exact (he.trans (.whenStep _ fun x => x.sameClock_mateSafe)).trans (Dev.sameClock_protReset _)
        · split
          · exact (he.trans (e.sameClock_laneReset _)).trans (Dev.sameClock_pathsReset _ _)
          · exact he

theorem Dev.sameClock_lrcAbsent : d.SameClock d.lrcAbsent := .each 4 fun x i => .whenStep _ fun y => (y.only_squelchLrc i).mono (by decide)

theorem Dev.sameClock_unitsDown : d.SameClock d.unitsDown :=
  ((d.sameClock_modes { d.modes with offDue := [] }).trans (.foldl _ fun x p _ => x.sameClock_unitReset p)).trans (Dev.sameClock_lrcAbsent _)

end

end Sys2Proof.Machine

/-! The first lock, the pull-in and the selection of a reference (R73, R85, R87, R694). -/

namespace Sys2Proof.Machine

set_option Elab.async false -- a proof at a time, within the memory of a check

theorem Dev.Only.eq_words_timing {d e : Dev} (h : Dev.Only [.words, .timing] d e) : e = { d with words := e.words, timing := e.timing } := by
  refine h Dev (fun x => { x with words := e.words, timing := e.timing }) fun y hy => ?_
  fin_cases hy <;> exact fun _ _ => rfl

section
variable (d : Dev)

theorem Dev.only_setTiming (t : Timing) : Dev.Only [.timing] d (d.setTiming t) := .part .timing (by decide) fun _ _ hp => hp d t

/-- The loop is locked and shown so. -/
def Dev.locked (r : Ref) : Dev := ((d.lockTo r).raise F.clkStatusRootValid).raise (clkEvent 5)

theorem Dev.only_locked (r : Ref) : Dev.Only [.words] (d.setTiming { d.timing with loop := .locked r }) (d.locked r) :=
  ((((Dev.only_raise _ _).step (Dev.only_lower _ _)).step (Dev.only_put _ _ _)).step (Dev.only_raise _ _)).step (Dev.only_raise _ _)

theorem Dev.locked_timing (r : Ref) : (d.locked r).timing = { d.timing with loop := .locked r } := (d.only_locked r).timing

theorem Dev.locked_now (r : Ref) : (d.locked r).now = d.now := (d.only_locked r).now

/-- A locked loop whose reference is allowed stays. -/
theorem Dev.reselect_of_allowed {r : Ref} (hloop : d.timing.loop = .locked r) (hallows : d.timing.allows r = true) : d.reselect = d := by
  rw [Dev.reselect, hloop]
  exact if_neg fun h => absurd h.1 (by rw [hallows]; decide)

/-- A choice of a reference writes the loop and its status. -/
theorem Dev.reselect_kept : Dev.Only [.words, .timing] d d.reselect ∧ Dev.WordsBut [Reg.clkStatus] d d.reselect
    ∧ d.reselect.timing.sel = d.timing.sel ∧ d.reselect.timing.selPending = d.timing.selPending := by
  have hself : Dev.Only [.words, .timing] d d ∧ Dev.WordsBut [Reg.clkStatus] d d ∧ d.timing.sel = d.timing.sel
      ∧ d.timing.selPending = d.timing.selPending := ⟨.refl _ d, .refl _ d, rfl, rfl⟩
  unfold Dev.reselect
  split
  · split
    · exact ⟨(d.only_setTiming _).mono (by decide), .refl _ d, rfl, rfl⟩
    · exact hself
  · split
    · exact ⟨((d.only_setTiming _).mono (by decide)).step (Dev.only_raise _ _),
        ((Dev.WordsBut.refl _ d).of_words (Dev.setTiming_words d _)).raise (f := F.clkStatusHold) (.head _), rfl, rfl⟩
    · exact hself
  · split
    · exact ⟨(((d.only_setTiming _).mono (by decide)).step (Dev.only_lower _ _)).step (Dev.only_raise _ _),
        (((Dev.WordsBut.refl _ d).of_words (Dev.setTiming_words d _)).lower (f := F.clkStatusLock) (.head _)).raise (f := F.clkStatusHold) (.head _), rfl, rfl⟩
    · exact hself
  · exact hself

theorem Dev.applyRefsel_kept : Dev.Only [.words, .timing] d d.applyRefsel ∧ Dev.WordsBut [Reg.clkStatus] d d.applyRefsel
    ∧ d.applyRefsel.timing.sel = d.word Reg.clkRefsel ∧ d.applyRefsel.timing.selPending = false := by
  obtain ⟨honly, hwords, hsel, hpend⟩ := (d.setTiming { d.timing with sel := d.word Reg.clkRefsel, selPending := false }).reselect_kept
  exact ⟨((d.only_setTiming _).mono (by decide)).trans honly, ((Dev.WordsBut.refl _ d).of_words (Dev.setTiming_words d _)).trans hwords,
    hsel, hpend⟩

end

/-- The loop after a write that is answered `OKAY`. -/
theorem Dev.write_ok_timing {d e : Dev} {m a : Nat} {op : Dev → Dev × Resp} (h : d.grant m a true = .ok) (hop : op d = okay e) :
    (d.write m a op).timing = e.timing := by
  obtain ⟨hframe, -⟩ := Dev.write_ok (op := op) h
  rw [hframe, hop, okay]

/-! The commands -/

/-- The loop has locked for the first time. -/
def Dev.firstLocked (d : Dev) (r : Ref) : Dev :=
  ((d.locked r).setTiming { (d.locked r).timing with firstLock := some (d.locked r).now, edges := 0, seqBase := 1 })

theorem exec_firstLock {s : State} {r : Ref} (h : s.dev.timing.loop = .acquiring r) :
    exec .firstLock s = .next { s with dev := (((s.dev.firstLocked r).settle false).unitsDown) } := by
  change execFirstLock s = _
  rw [execFirstLock, h]
  rfl

/-- The loop has pulled in. -/
def Dev.pulledIn (d : Dev) (r : Ref) : Dev := ((d.locked r).lower F.clkCoastActive).lower F.clkStatusSafehold

theorem exec_pullInLock {s : State} {r : Ref} (h : s.dev.timing.loop = .pullIn r) :
    exec .pullInLock s = .next { s with dev := (((((s.dev.pulledIn r).when ((s.dev.pulledIn r).mode == modeCoast)
      (fun e => (e.setMode modeService).settle true)).endSafehold).reselect).unitsDown) } := by
  change execPullInLock s = _
  rw [execPullInLock, h]
  rfl

theorem exec_refselWrite (m : Master) (data : W32) (s : State) :
    exec (.refselWrite m data) s = .next { s with dev := (s.dev.write m Reg.clkRefsel (fun d => okay (d.writeRefsel data))) } := rfl

theorem exec_refselApply (s : State) :
    exec .refselApply s = .next { s with dev := (s.dev.when (s.dev.timing.selPending && !s.dev.timing.moving) Dev.applyRefsel) } := rfl

/-- R73: the first lock starts the time base. -/
theorem firstLock_starts {r : Ref} {s : State} (hloop : s.dev.timing.loop = .acquiring r) :
    ∃ t, exec .firstLock s = .next t ∧ t.mem = s.mem ∧ t.flash = s.flash ∧ t.dev.now = s.dev.now ∧ t.dev.timeBase = 0
      ∧ t.dev.timing = { s.dev.timing with loop := .locked r, firstLock := some s.dev.now, edges := 0, seqBase := 1 } := by
  have hclock : (s.dev.firstLocked r).SameClock ((s.dev.firstLocked r).settle false).unitsDown :=
    (Dev.sameClock_settle _ false).trans (Dev.sameClock_unitsDown _)
  have hnow : ((s.dev.firstLocked r).settle false).unitsDown.now = s.dev.now := hclock.now.trans (s.dev.locked_now r)
  have hfirst : (s.dev.firstLocked r).timing
      = { s.dev.timing with loop := .locked r, firstLock := some s.dev.now, edges := 0, seqBase := 1 } := by
    rw [Dev.firstLocked, Dev.setTiming_timing, Dev.locked_timing, Dev.locked_now]
  have htiming := hclock.timing.trans hfirst
  have hexec := exec_firstLock hloop
  generalize ((s.dev.firstLocked r).settle false).unitsDown = e at hexec hnow htiming
  refine ⟨_, hexec, rfl, rfl, hnow, ?_, htiming⟩
  have hbase : e.timeBase = (s.dev.now - s.dev.now) % 2 ^ 63 := by rw [Dev.timeBase, htiming, hnow]
  exact hbase.trans (by rw [Nat.sub_self, Nat.zero_mod])

/-- R87: a pull-in from the floor leaves the time base alone. -/
theorem pullInLock_keeps {r : Ref} {s : State} (hloop : s.dev.timing.loop = .pullIn r) (hallows : s.dev.timing.allows r = true) :
    ∃ t, exec .pullInLock s = .next t ∧ t.mem = s.mem ∧ t.flash = s.flash ∧ t.dev.now = s.dev.now
      ∧ t.dev.timing = { s.dev.timing with loop := .locked r } := by
  have hexec := exec_pullInLock hloop
  have hclock : (s.dev.pulledIn r).SameClock (((s.dev.pulledIn r).when ((s.dev.pulledIn r).mode == modeCoast)
      (fun e => (e.setMode modeService).settle true)).endSafehold) :=
    (Dev.Only.whenStep _ fun x => (x.sameClock_setMode modeService).trans (Dev.sameClock_settle _ true)).trans (Dev.sameClock_endSafehold _)
  have hshown : Dev.Only [.words] (s.dev.locked r) (s.dev.pulledIn r) := (Dev.only_lower _ _).step (Dev.only_lower _ _)
  have hpulled : (s.dev.pulledIn r).timing = { s.dev.timing with loop := .locked r } := hshown.timing.trans (s.dev.locked_timing r)
  have hnow : (s.dev.pulledIn r).now = s.dev.now := hshown.now.trans (s.dev.locked_now r)
  generalize ((s.dev.pulledIn r).when ((s.dev.pulledIn r).mode == modeCoast) (fun e => (e.setMode modeService).settle true)).endSafehold = e
    at hexec hclock
  have htiming : e.timing = { s.dev.timing with loop := .locked r } := hclock.timing.trans hpulled
  have hloop' : e.timing.loop = .locked r := congrArg Timing.loop htiming
  have hallows' : e.timing.allows r = true := (congrArg (fun x : Timing => x.allows r) htiming).trans hallows
  have hstays : e.reselect = e := e.reselect_of_allowed hloop' hallows'
  rw [hstays] at hexec
  exact ⟨_, hexec, rfl, rfl, (e.sameClock_unitsDown.now.trans hclock.now).trans hnow, e.sameClock_unitsDown.timing.trans htiming⟩

/-- R85: a write of `CLK.REFSEL` waits for a hold or a pull-in. -/
theorem refselWrite_waits {m : Master} {s : State} (hw : s.mayWrite m.val Reg.clkRefsel) (hmoving : s.dev.timing.moving = true) (data : W32) :
    ∃ t, exec (.refselWrite m data) s = .next t ∧ (t.dev.replyTo m.val).resp = .okay
      ∧ t.dev.word Reg.clkRefsel = refselWord data ∧ t.dev.timing = { s.dev.timing with selPending := true }
      ∧ Dev.WordsBut [Reg.clkRefsel] s.dev t.dev ∧ t.mem = s.mem ∧ t.flash = s.flash := by
  have hop : s.dev.writeRefsel data = (s.dev.setWord Reg.clkRefsel (refselWord data)).setTiming { s.dev.timing with selPending := true } :=
    if_pos hmoving
  obtain ⟨hreply, hwords, -⟩ := Dev.write_okay (op := fun e => okay (e.writeRefsel data)) hw (congrArg okay hop)
  have htiming := Dev.write_ok_timing (op := fun e => okay (e.writeRefsel data)) hw (congrArg okay hop)
  have hset : Dev.WordsBut [Reg.clkRefsel] s.dev (s.dev.setWord Reg.clkRefsel (refselWord data)) :=
    fun a ha => Dev.word_setWord_other _ _ fun h => ha (h ▸ .head _)
  refine ⟨_, exec_refselWrite m data s, hreply, ?_, htiming, hset.of_words (hwords.trans (Dev.setTiming_words ..)), rfl, rfl⟩
  exact (congrArg (fun w => Store.get resetWord w Reg.clkRefsel) hwords).trans (s.dev.word_setWord_same Reg.clkRefsel (refselWord data))

/-- R85: and is in force at once otherwise. -/
theorem refselWrite_applies {m : Master} {s : State} (hw : s.mayWrite m.val Reg.clkRefsel) (hmoving : s.dev.timing.moving = false) (data : W32) :
    ∃ t, exec (.refselWrite m data) s = .next t ∧ (t.dev.replyTo m.val).resp = .okay
      ∧ t.dev.word Reg.clkRefsel = refselWord data ∧ t.dev.timing.sel = refselWord data ∧ t.dev.timing.selPending = false
      ∧ Dev.WordsBut [Reg.clkRefsel, Reg.clkStatus] s.dev t.dev ∧ t.mem = s.mem ∧ t.flash = s.flash := by
  obtain ⟨e, he⟩ : ∃ e, e = s.dev.setWord Reg.clkRefsel (refselWord data) := ⟨_, rfl⟩
  have hop : s.dev.writeRefsel data = e.applyRefsel := by
    rw [he]
    exact if_neg (by rw [hmoving]; decide)
  have hset : Dev.WordsBut [Reg.clkRefsel, Reg.clkStatus] s.dev e := fun a ha => by
    rw [he]
    exact Dev.word_setWord_other _ _ fun h => ha (h ▸ .head _)
  have hword : e.word Reg.clkRefsel = refselWord data := by rw [he, Dev.word_setWord_same]
  obtain ⟨-, hbut, hsel, hpend⟩ := e.applyRefsel_kept
  obtain ⟨hreply, hwords, -⟩ := Dev.write_okay (op := fun e => okay (e.writeRefsel data)) hw (congrArg okay hop)
  have htiming := Dev.write_ok_timing (op := fun e => okay (e.writeRefsel data)) hw (congrArg okay hop)
  have hkept : e.applyRefsel.word Reg.clkRefsel = refselWord data := (hbut _ (by decide)).trans hword
  have hexec := exec_refselWrite m data s
  generalize s.dev.write m.val Reg.clkRefsel (fun d => okay (d.writeRefsel data)) = x at hexec hreply hwords htiming
  refine ⟨_, hexec, hreply, ?_, (congrArg Timing.sel htiming).trans (hsel.trans hword),
    (congrArg Timing.selPending htiming).trans hpend, (hset.trans (hbut.mono fun a h => .tail _ h)).of_words hwords, rfl, rfl⟩
  exact (congrArg (fun w => Store.get resetWord w Reg.clkRefsel) hwords).trans hkept

/-- Settles O11: the loop locks, and the selection is written, waits or is in force. -/
theorem timeBaseAndSelection : Obligations.TimeBaseAndSelection := by
  refine ⟨fun r s => ⟨firstLock_starts, pullInLock_keeps⟩, fun m data s => ⟨fun hw hmoving => refselWrite_waits hw hmoving data,
    fun hw hmoving => refselWrite_applies hw hmoving data, fun hpend hmoving => ?_⟩⟩
  have hcond : (s.dev.timing.selPending && !s.dev.timing.moving) = true := by
    rw [hpend, hmoving]
    rfl
  have hexec := exec_refselApply s
  rw [State.when_true s hcond] at hexec
  obtain ⟨honly, hbut, hsel, hno⟩ := s.dev.applyRefsel_kept
  exact ⟨_, hexec, hsel, hno, hbut, congrArg (fun e => ({ s with dev := e } : State)) honly.eq_words_timing⟩

end Sys2Proof.Machine

/-! What the Groomer's steps write (R305, R307, R325). -/

namespace Sys2Proof.Machine

set_option Elab.async false -- a proof at a time, within the memory of a check

/-! Frames -/

theorem Dev.Only.eq_words_grm {d e : Dev} (h : Dev.Only [.words, .grm] d e) : e = { d with words := e.words, grm := e.grm } := by
  refine h Dev (fun x => { x with words := e.words, grm := e.grm }) fun y hy => ?_
  fin_cases hy <;> exact fun _ _ => rfl

theorem Dev.Only.eq_groomed {d e : Dev} (h : Dev.Only [.words, .grm, .shadowMap, .fresh] d e) :
    e = { d with words := e.words, grm := e.grm, shadowMap := e.shadowMap, fresh := e.fresh } := by
  refine h Dev (fun x => { x with words := e.words, grm := e.grm, shadowMap := e.shadowMap, fresh := e.fresh }) fun y hy => ?_
  fin_cases hy <;> exact fun _ _ => rfl

theorem Part.blind_shadowMap (x : Part) (h : x ≠ .shadowMap) : x.Blind Dev.shadowMap := by
  cases x
  case shadowMap => exact absurd rfl h
  all_goals exact fun _ _ => rfl

theorem Part.blind_activeMap (x : Part) (h : x ≠ .activeMap) : x.Blind Dev.activeMap := by
  cases x
  case activeMap => exact absurd rfl h
  all_goals exact fun _ _ => rfl

theorem Part.blind_grm (x : Part) (h : x ≠ .grm) : x.Blind Dev.grm := by
  cases x
  case grm => exact absurd rfl h
  all_goals exact fun _ _ => rfl

theorem Dev.Only.shadowMap {S : List Part} {d e : Dev} (h : Dev.Only S d e) (hS : Part.shadowMap ∉ S := by decide) : e.shadowMap = d.shadowMap :=
  h _ Dev.shadowMap fun x hx => x.blind_shadowMap fun hxe => hS (hxe ▸ hx)

theorem Dev.Only.activeMap {S : List Part} {d e : Dev} (h : Dev.Only S d e) (hS : Part.activeMap ∉ S := by decide) : e.activeMap = d.activeMap :=
  h _ Dev.activeMap fun x hx => x.blind_activeMap fun hxe => hS (hxe ▸ hx)

theorem Dev.Only.grm {S : List Part} {d e : Dev} (h : Dev.Only S d e) (hS : Part.grm ∉ S := by decide) : e.grm = d.grm :=
  h _ Dev.grm fun x hx => x.blind_grm fun hxe => hS (hxe ▸ hx)

section
variable (d : Dev)

theorem Dev.only_setGrm (g : Grm) : Dev.Only [.grm] d (d.setGrm g) := .part .grm (by decide) fun _ _ hp => hp d g

theorem Dev.setGrm_words' (g : Grm) : (d.setGrm g).words = d.words := rfl

/-! The ledger of the commit (R325) -/

theorem Dev.only_ledger (p id step state done : Nat) : Dev.Only [.words] d (d.ledger p id step state done) :=
  ((((d.only_put _ _).step (Dev.only_put _ _ _)).step (Dev.only_put _ _ _)).step (Dev.only_put _ _ _)).trans (.whenStep _ fun x => x.only_raise _)

/-- The words of a page's ledger. -/
abbrev ledgerWords (p : Nat) : List Nat := [(F.hdrLedgerId.page p).off, (F.hdrLedgerStState.page p).off, (F.hdrStickyLedger.page p).off]

theorem Dev.wordsBut_ledger (p id step state done : Nat) : Dev.WordsBut (ledgerWords p) d (d.ledger p id step state done) :=
  Dev.when_keeps (((((Dev.WordsBut.refl _ d).put (f := F.hdrLedgerId.page p) (.head _) id).put (f := F.hdrLedgerStep.page p) (.head _) step).put
    (f := F.hdrLedgerStState.page p) (.tail _ (.head _)) state).put (f := F.hdrLedgerStDoneSteps.page p) (.tail _ (.head _)) done)
    fun _ hx => hx.raise (f := F.hdrStickyLedger.page p) (.tail _ (.tail _ (.head _)))

theorem Dev.only_commitStep (step done : Nat) : Dev.Only [.words, .grm] d (d.commitStep step done) :=
  ((d.only_setGrm _).mono (by decide)).step (Dev.only_ledger _ _ _ _ _ _)

theorem Dev.wordsBut_commitStep (step done : Nat) : Dev.WordsBut (ledgerWords 0xB) d (d.commitStep step done) :=
  ((Dev.WordsBut.refl _ d).of_words (Dev.setGrm_words' _ _)).trans (Dev.wordsBut_ledger _ _ _ _ _ _)

theorem Dev.grm_commitStep (step done : Nat) : (d.commitStep step done).grm = { d.grm with pristine := false } :=
  (Dev.only_ledger _ _ _ _ _ _).grm

theorem Dev.only_commitLoad (done : Nat) : Dev.Only [.words, .grm] d (d.commitLoad done) := by
  unfold Dev.commitLoad
  extract_lets src e
  have he : Dev.Only [.words, .grm] d e := (d.only_setGrm _).mono (by decide)
  split
  · exact he.step (Dev.only_ledger _ _ _ _ _ _)
  · exact (he.step (Dev.only_ledger _ _ _ _ _ _)).step (Dev.only_setGrm _ _)

theorem Dev.wordsBut_commitLoad (done : Nat) : Dev.WordsBut (ledgerWords 0xB) d (d.commitLoad done) := by
  unfold Dev.commitLoad
  extract_lets src e
  have he : Dev.WordsBut (ledgerWords 0xB) d e := (Dev.WordsBut.refl _ d).of_words (Dev.setGrm_words' _ _)
  split
  · exact he.trans (Dev.wordsBut_ledger _ _ _ _ _ _)
  · exact (he.trans (Dev.wordsBut_ledger _ _ _ _ _ _)).of_words (Dev.setGrm_words' _ _)

theorem Dev.grm_commitLoad (done : Nat) : ∃ b, (d.commitLoad done).grm = { d.grm with pristine := false, invalidated := b } := by
  unfold Dev.commitLoad
  extract_lets src e
  split
  · exact ⟨d.grm.invalidated, (Dev.only_ledger _ _ _ _ _ _).grm⟩
  · exact ⟨false, rfl⟩

theorem Dev.only_verifyNext : Dev.Only [.grm] d d.verifyNext := by
  unfold Dev.verifyNext
  split
  · exact d.only_setGrm _
  · exact .refl _ d

theorem Dev.running_verifyNext : d.verifyNext.grm.running = d.grm.running := by
  unfold Dev.verifyNext
  split
  · rfl
  · rfl

/-! The status of a command (R307) -/

/-- The status of a command that has ended, or is refused. -/
theorem Dev.groomerShows_of_words {d e : Dev} {op res : Nat} {b : Bool} (h : d.GroomerShows op res b) {l : List Nat} (he : Dev.WordsBut l d e)
    (hl : Reg.grmCmdStat ∉ l) : e.GroomerShows op res b := by
  obtain ⟨hop, hres, hbusy⟩ := h
  exact ⟨(he.get (f := F.grmCmdStatOp) hl).trans hop, (he.get (f := F.grmCmdStatResult) hl).trans hres, (he.on (f := F.grmCmdStatBusy) hl).trans hbusy⟩

theorem Dev.get_cmdStat {op res : Nat} (hop : op < 16) (hres : res < 16) :
    ((d.put F.grmCmdStatOp op).put F.grmCmdStatResult res).get F.grmCmdStatOp = op
      ∧ ((d.put F.grmCmdStatOp op).put F.grmCmdStatResult res).get F.grmCmdStatResult = res
      ∧ ((d.put F.grmCmdStatOp op).put F.grmCmdStatResult res).on F.grmCmdStatBusy = d.on F.grmCmdStatBusy := by
  refine ⟨?_, ?_, ?_⟩
  · rw [Dev.get_put_apart _ _ (by decide), Dev.get_put_same _ _ _ (by decide)]
    exact Nat.mod_eq_of_lt hop
  · rw [Dev.get_put_same _ _ _ (by decide)]
    exact Nat.mod_eq_of_lt hres
  · rw [Dev.on, Dev.get_put_apart _ _ (by decide), Dev.get_put_apart _ _ (by decide)]
    rfl

/-- `BUSY` is written beside the command and its result. -/
theorem Dev.groomerShows_busy {e : Dev} {op res : Nat} (hop : e.get F.grmCmdStatOp = op) (hres : e.get F.grmCmdStatResult = res) (v : Bool) :
    (e.put F.grmCmdStatBusy (bitOf v)).GroomerShows op res v :=
  ⟨(e.get_put_apart (f := F.grmCmdStatBusy) _ (by decide)).trans hop, (e.get_put_apart (f := F.grmCmdStatBusy) _ (by decide)).trans hres,
    e.on_put_bitOf F.grmCmdStatBusy v (by decide) rfl⟩

theorem Dev.groomerShows_grmEnd {op res : Nat} (hop : op < 16) (hres : res < 16) : (d.grmEnd op res).GroomerShows op res false := by
  obtain ⟨h1, h2, -⟩ := d.get_cmdStat hop hres
  exact Dev.groomerShows_of_words (Dev.groomerShows_busy h1 h2 false) ((Dev.WordsBut.refl [] _).of_words (Dev.setGrm_words' _ _)) List.not_mem_nil

theorem Dev.groomerShows_grmRecord {op res : Nat} (hop : op < 16) (hres : res < 16) :
    (d.grmRecord op res).GroomerShows op res (d.on F.grmCmdStatBusy) := by
  have h : ((d.put F.grmCmdStatOp op).put F.grmCmdStatResult res).GroomerShows op res (d.on F.grmCmdStatBusy) := d.get_cmdStat hop hres
  exact Dev.groomerShows_of_words h ((Dev.WordsBut.refl [Reg.grmEvt] _).raise (f := F.grmEvtCmdDone) (.head _)) (by decide)

theorem Dev.groomerShows_grmStart {op : Nat} (slot : Nat) (hop : op < 16) : (d.grmStart op slot).GroomerShows op rsOk true := by
  obtain ⟨h1, h2, -⟩ := d.get_cmdStat hop (res := rsOk) (by decide)
  exact Dev.groomerShows_of_words (Dev.groomerShows_busy h1 h2 true) ((Dev.WordsBut.refl [] _).of_words (Dev.setGrm_words' _ _)) List.not_mem_nil

theorem Dev.only_grmEnd (op res : Nat) : Dev.Only [.words, .grm] d (d.grmEnd op res) :=
  ((((d.only_put _ _).mono (by decide)).step (Dev.only_put _ _ _)).step (Dev.only_lower _ _)).step (Dev.only_setGrm _ _)

theorem Dev.wordsBut_grmEnd (op res : Nat) : Dev.WordsBut [Reg.grmCmdStat] d (d.grmEnd op res) :=
  ((((Dev.WordsBut.refl _ d).put (f := F.grmCmdStatOp) (.head _) op).put (f := F.grmCmdStatResult) (.head _) res).lower
    (f := F.grmCmdStatBusy) (.head _)).of_words (Dev.setGrm_words' _ _)

theorem Dev.only_grmStart (op slot : Nat) : Dev.Only [.words, .grm] d (d.grmStart op slot) :=
  ((((d.only_put _ _).mono (by decide)).step (Dev.only_put _ _ _)).step (Dev.only_raise _ _)).step (Dev.only_setGrm _ _)

theorem Dev.wordsBut_grmStart (op slot : Nat) : Dev.WordsBut [Reg.grmCmdStat] d (d.grmStart op slot) :=
  ((((Dev.WordsBut.refl _ d).put (f := F.grmCmdStatOp) (.head _) op).put (f := F.grmCmdStatResult) (.head _) rsOk).raise
    (f := F.grmCmdStatBusy) (.head _)).of_words (Dev.setGrm_words' _ _)

theorem Dev.only_grmRecord (op res : Nat) : Dev.Only [.words] d (d.grmRecord op res) :=
  ((d.only_put _ _).step (Dev.only_put _ _ _)).step (Dev.only_raise _ _)

theorem Dev.wordsBut_grmRecord (op res : Nat) : Dev.WordsBut [Reg.grmCmdStat, Reg.grmEvt] d (d.grmRecord op res) :=
  (((Dev.WordsBut.refl _ d).put (f := F.grmCmdStatOp) (.head _) op).put (f := F.grmCmdStatResult) (.head _) res).raise
    (f := F.grmEvtCmdDone) (.tail _ (.head _))

theorem Dev.on_cmdDone : (d.raise F.grmEvtCmdDone).on F.grmEvtCmdDone = true := d.on_raise F.grmEvtCmdDone (by decide) (by decide)

/-- The shadow is in the state that is written. -/
theorem Dev.shadow_setShadow {st : Nat} (h : st < 8) : (d.setShadow st).shadow = st :=
  (d.get_put_same F.grmShadowState st (by decide)).trans (Nat.mod_eq_of_lt h)

theorem Dev.wordsBut_setShadow (st : Nat) : Dev.WordsBut [Reg.grmShadow] d (d.setShadow st) :=
  (Dev.WordsBut.refl _ d).put (f := F.grmShadowState) (.head _) st

end

end Sys2Proof.Machine

/-! The ends of the Groomer's commands (R305, R310, R318, R319, R322). -/

namespace Sys2Proof.Machine

set_option Elab.async false -- a proof at a time, within the memory of a check

/-! A load ends -/

section
variable (d : Dev) (op res : Nat) (map : Store W32)

/-- The load has ended, before the commit's ledger follows. -/
def Dev.loadShown : Dev :=
  (((({ d with shadowMap := map } : Dev).grmEnd op res).raise F.grmEvtCmdDone).setShadow (if res = rsOk then shLoaded else shInvalid))

theorem Dev.loadEnd_eq : d.loadEnd op res map = (d.loadShown op res map).when (res == rsOk) (fun e => e.commitStep 1 1) := rfl

theorem Dev.only_loadShown : Dev.Only [.words, .grm] { d with shadowMap := map } (d.loadShown op res map) :=
  ((Dev.only_grmEnd _ op res).step (Dev.only_raise _ _)).step (Dev.only_put _ _ _)

theorem Dev.only_loadEnd : Dev.Only [.words, .grm] { d with shadowMap := map } (d.loadEnd op res map) := by
  rw [Dev.loadEnd_eq]
  exact (d.only_loadShown op res map).trans (.whenStep _ fun x => x.only_commitStep 1 1)

theorem Dev.wordsBut_loadEnd : Dev.WordsBut (ledgerWords 0xB) (d.loadShown op res map) (d.loadEnd op res map) := by
  rw [Dev.loadEnd_eq]
  exact Dev.when_of _ (.refl _ _) (Dev.wordsBut_commitStep _ 1 1)

theorem Dev.grm_loadEnd : (d.loadEnd op res map).grm = { d.grm with running := none, pristine := (d.loadEnd op res map).grm.pristine } := by
  have hshown : (d.loadShown op res map).grm = { d.grm with running := none } :=
    ((Dev.only_put _ F.grmShadowState (if res = rsOk then shLoaded else shInvalid)).grm).trans (Dev.only_raise _ _).grm
  rw [Dev.loadEnd_eq]
  cases h : (res == rsOk) with
  | true =>
    rw [Dev.when, if_pos rfl, Dev.grm_commitStep, hshown]
  | false =>
    rw [Dev.when, if_neg Bool.false_ne_true, hshown]

/-- What shows of the end. -/
theorem Dev.loadEnd_shows (hop : op < 16) (hres : res < 16) :
    (d.loadEnd op res map).shadow = (if res = rsOk then shLoaded else shInvalid) ∧ (d.loadEnd op res map).GroomerShows op res false
      ∧ (d.loadEnd op res map).on F.grmEvtCmdDone = true := by
  have hst : (if res = rsOk then shLoaded else shInvalid) < 8 := by split <;> decide
  have hafter := d.wordsBut_loadEnd op res map
  have hshadow : (d.loadShown op res map).shadow = (if res = rsOk then shLoaded else shInvalid) := Dev.shadow_setShadow _ hst
  have hset : Dev.WordsBut [Reg.grmShadow] ((({ d with shadowMap := map } : Dev).grmEnd op res).raise F.grmEvtCmdDone) (d.loadShown op res map) :=
    Dev.wordsBut_setShadow _ _
  have hdone : (d.loadShown op res map).on F.grmEvtCmdDone = true := (hset.on (f := F.grmEvtCmdDone) (by decide)).trans (Dev.on_cmdDone _)
  have hshows : (d.loadShown op res map).GroomerShows op res false :=
    Dev.groomerShows_of_words (Dev.groomerShows_of_words (Dev.groomerShows_grmEnd _ hop hres)
      ((Dev.WordsBut.refl [Reg.grmEvt] _).raise (f := F.grmEvtCmdDone) (.head _)) (by decide)) hset (by decide)
  exact ⟨(hafter.get (f := F.grmShadowState) (by decide)).trans hshadow, Dev.groomerShows_of_words hshows hafter (by decide),
    (hafter.on (f := F.grmEvtCmdDone) (by decide)).trans hdone⟩

theorem Dev.only_shadowMap : Dev.Only [.shadowMap] d { d with shadowMap := map } := .part .shadowMap (by decide) fun _ _ hp => hp d map

theorem Dev.only_fresh (k : Nat) : Dev.Only [.fresh] d { d with fresh := k } := .part .fresh (by decide) fun _ _ hp => hp d k

end

/-- The command that runs, and its slot. -/
theorem Dev.grmRuns_of {d : Dev} {op slot : Nat} (h : d.grm.running = some (op, slot)) : d.grmRuns op = true ∧ d.grmSlot = slot := by
  rw [Dev.grmRuns, Dev.grmSlot, h]
  exact ⟨beq_self_eq_true op, rfl⟩

theorem exec_copyActiveDone (ecc : Bool) (s : State) : exec (.copyActiveDone ecc) s = .next { s with dev := (s.dev.when (s.dev.grmRuns opCopyActive)
    (fun d => if ecc then d.loadEnd opCopyActive rsEcc d.shadowMap else d.loadEnd opCopyActive rsOk d.activeMap)) } := rfl

theorem exec_fillDone (s : State) : exec .fillDone s = .next { s with dev := (s.dev.when (s.dev.grmRuns opFill)
    (fun d => d.loadEnd opFill rsOk (mapFill d.shadowMap d.grm.fill.1 d.grm.fill.2.1 d.grm.fill.2.2))) } := rfl

/-- A LIB_LOAD ends over the image that it read. -/
def Dev.libLoaded (d : Dev) (mem : List Host.Cell) : Dev :=
  ({ d with fresh := d.fresh + 1 } : Dev).loadEnd opLibLoad
    (if d.hbmAnswers (libBase d.grmSlot) && mapCrc (libMixed d.fresh d.grm.loadMem mem d.grmSlot) == d.grm.loadCrc then rsOk else rsCrc)
    (libMixed d.fresh d.grm.loadMem mem d.grmSlot)

theorem exec_libLoadDone (s : State) :
    exec .libLoadDone s = .next { s with dev := (s.dev.when (s.dev.grmRuns opLibLoad) (fun d => d.libLoaded s.mem)) } := rfl

/-- What a statement says of the end of a load. -/
theorem loadEnd_ends {s : State} {d : Dev} {op res : Nat} {map : Store W32} (hd : Dev.Only [.fresh] s.dev d) (hop : op < 16) (hres : res < 16) :
    (d.loadEnd op res map).shadowMap = map ∧ (d.loadEnd op res map).shadow = (if res = rsOk then shLoaded else shInvalid)
      ∧ (d.loadEnd op res map).GroomerShows op res false ∧ (d.loadEnd op res map).on F.grmEvtCmdDone = true
      ∧ (d.loadEnd op res map).grm = { s.dev.grm with running := none, pristine := (d.loadEnd op res map).grm.pristine }
      ∧ ({ s with dev := d.loadEnd op res map } : State) = { s with dev := { s.dev with
          words := (d.loadEnd op res map).words, grm := (d.loadEnd op res map).grm, shadowMap := (d.loadEnd op res map).shadowMap,
          fresh := (d.loadEnd op res map).fresh } } := by
  obtain ⟨hshadow, hshows, hdone⟩ := d.loadEnd_shows op res map hop hres
  have honly := d.only_loadEnd op res map
  have hgrm := d.grm_loadEnd op res map
  rw [hd.grm] at hgrm
  refine ⟨honly.shadowMap, hshadow, hshows, hdone, hgrm, ?_⟩
  exact congrArg (fun e => ({ s with dev := e } : State))
    (((hd.mono (by decide)).trans ((d.only_shadowMap map).mono (by decide))).trans (honly.mono (by decide))).eq_groomed

/-! A check ends -/

section
variable (d : Dev) (r : CheckResult)

abbrev checkWords : List Nat := [Reg.grmChkRes, Reg.grmChkPos]

theorem Dev.showCheck_shadow : d.showCheck false r = (((((d.put F.grmChkResReason r.reason).put F.grmChkResMaxfan r.maxfan).put
    F.grmChkResErrors r.errors).put F.grmChkPosPort r.port).put F.grmChkPosIngress r.ingress).put F.grmChkPosSlot r.slot := rfl

/-- The registers of the checker. -/
theorem Dev.get_showCheck : (d.showCheck false r).get F.grmChkResErrors = r.errors % 2 ^ 24
    ∧ (d.showCheck false r).get F.grmChkResReason = r.reason % 16 ∧ (d.showCheck false r).get F.grmChkResMaxfan = r.maxfan % 16
    ∧ (d.showCheck false r).get F.grmChkPosSlot = r.slot % 2 ^ 18 ∧ (d.showCheck false r).get F.grmChkPosPort = r.port % 128 := by
  rw [Dev.showCheck_shadow]
  refine ⟨?_, ?_, ?_, ?_, ?_⟩
  · rw [Dev.get_put_apart _ _ (by decide), Dev.get_put_apart _ _ (by decide), Dev.get_put_apart _ _ (by decide), Dev.get_put_same _ _ _ (by decide)]
    rfl
  · rw [Dev.get_put_apart _ _ (by decide), Dev.get_put_apart _ _ (by decide), Dev.get_put_apart _ _ (by decide), Dev.get_put_apart _ _ (by decide),
      Dev.get_put_apart _ _ (by decide), Dev.get_put_same _ _ _ (by decide)]
    rfl
  · rw [Dev.get_put_apart _ _ (by decide), Dev.get_put_apart _ _ (by decide), Dev.get_put_apart _ _ (by decide), Dev.get_put_apart _ _ (by decide),
      Dev.get_put_same _ _ _ (by decide)]
    rfl
  · rw [Dev.get_put_same _ _ _ (by decide)]
    rfl
  · rw [Dev.get_put_apart _ _ (by decide), Dev.get_put_apart _ _ (by decide), Dev.get_put_same _ _ _ (by decide)]
    rfl

theorem Dev.only_showCheck (act : Bool) : Dev.Only [.words] d (d.showCheck act r) :=
  (((((d.only_put _ _).step (Dev.only_put _ _ _)).step (Dev.only_put _ _ _)).step (Dev.only_put _ _ _)).step (Dev.only_put _ _ _)).step (Dev.only_put _ _ _)

/-- The check has ended with result `r`, and `tu` tells of a TU change. -/
def Dev.checked (tu : Bool) : Dev :=
  ((((d.showCheck false r).put F.grmShadowTuChanged (bitOf tu)).setShadow (if r.errors = 0 then shChecked else shFailed)).grmEnd opCheck rsOk).raise
    F.grmEvtCheckDone

theorem Dev.only_checked (tu : Bool) : Dev.Only [.words, .grm] d (d.checked r tu) :=
  (((((d.only_showCheck r false).mono (by decide)).step (Dev.only_put _ _ _)).step (Dev.only_put _ _ _)).step (Dev.only_grmEnd _ _ _)).step (Dev.only_raise _ _)

theorem Dev.checked_shows (tu : Bool) :
    (d.checked r tu).shadow = (if r.errors = 0 then shChecked else shFailed)
      ∧ (d.checked r tu).get F.grmChkResErrors = r.errors % 2 ^ 24 ∧ (d.checked r tu).get F.grmChkResReason = r.reason % 16
      ∧ (d.checked r tu).get F.grmChkResMaxfan = r.maxfan % 16 ∧ (d.checked r tu).get F.grmChkPosSlot = r.slot % 2 ^ 18
      ∧ (d.checked r tu).get F.grmChkPosPort = r.port % 128 ∧ (d.checked r tu).GroomerShows opCheck rsOk false
      ∧ (d.checked r tu).on F.grmEvtCheckDone = true ∧ (d.checked r tu).grm.running = none := by
  obtain ⟨e, he⟩ : ∃ e, e = ((d.showCheck false r).put F.grmShadowTuChanged (bitOf tu)).setShadow (if r.errors = 0 then shChecked else shFailed) := ⟨_, rfl⟩
  have hchecked : d.checked r tu = (e.grmEnd opCheck rsOk).raise F.grmEvtCheckDone := by rw [he, Dev.checked]
  have hst : (if r.errors = 0 then shChecked else shFailed) < 8 := by split <;> decide
  have hshadow : e.shadow = (if r.errors = 0 then shChecked else shFailed) := he ▸ Dev.shadow_setShadow _ hst
  have hres : Dev.WordsBut [Reg.grmShadow] (d.showCheck false r) e :=
    he ▸ ((Dev.WordsBut.refl _ _).put (f := F.grmShadowTuChanged) (.head _) (bitOf tu)).trans (Dev.wordsBut_setShadow _ _)
  have hend : Dev.WordsBut [Reg.grmCmdStat, Reg.grmEvt] e (d.checked r tu) :=
    hchecked ▸ ((Dev.wordsBut_grmEnd e opCheck rsOk).mono (List.cons_subset_cons _ (List.nil_subset _))).raise (f := F.grmEvtCheckDone) (.tail _ (.head _))
  obtain ⟨herr, hreason, hfan, hslot, hport⟩ := d.get_showCheck r
  refine ⟨(hend.get (f := F.grmShadowState) (by decide)).trans hshadow,
    (hend.get (f := F.grmChkResErrors) (by decide)).trans ((hres.get (f := F.grmChkResErrors) (by decide)).trans herr),
    (hend.get (f := F.grmChkResReason) (by decide)).trans ((hres.get (f := F.grmChkResReason) (by decide)).trans hreason),
    (hend.get (f := F.grmChkResMaxfan) (by decide)).trans ((hres.get (f := F.grmChkResMaxfan) (by decide)).trans hfan),
    (hend.get (f := F.grmChkPosSlot) (by decide)).trans ((hres.get (f := F.grmChkPosSlot) (by decide)).trans hslot),
    (hend.get (f := F.grmChkPosPort) (by decide)).trans ((hres.get (f := F.grmChkPosPort) (by decide)).trans hport), ?_, ?_, ?_⟩
  · rw [hchecked]
    exact Dev.groomerShows_of_words (Dev.groomerShows_grmEnd e (by decide) (by decide))
      ((Dev.WordsBut.refl [Reg.grmEvt] _).raise (f := F.grmEvtCheckDone) (.head _)) (by decide)
  · rw [hchecked]
    exact Dev.on_raise _ F.grmEvtCheckDone (by decide) (by decide)
  · rw [hchecked]
    exact congrArg Grm.running (Dev.only_raise (e.grmEnd opCheck rsOk) F.grmEvtCheckDone).grm

/-- The commit's ledger and the verification that waited follow. -/
theorem Dev.checked_followed (tu : Bool) (done : Nat) :
    Dev.Only [.words, .grm] (d.checked r tu) ((d.checked r tu).commitStep 2 done).verifyNext
      ∧ Dev.WordsBut (ledgerWords 0xB) (d.checked r tu) ((d.checked r tu).commitStep 2 done).verifyNext
      ∧ ((d.checked r tu).commitStep 2 done).verifyNext.grm.running = (d.checked r tu).grm.running := by
  refine ⟨(Dev.only_commitStep _ 2 done).step (Dev.only_verifyNext _), (Dev.wordsBut_commitStep _ 2 done).of_words (Dev.only_verifyNext _).words, ?_⟩
  rw [Dev.running_verifyNext, Dev.grm_commitStep]

end

/-- The check's result over the snapshot, with the entries that read as uncorrectable. -/
def Dev.checkResult (d : Dev) (ecc : List MapIndex) (act : Bool) : CheckResult :=
  (d.asOf d.grm.snap).checkMap d.grm.snap.map (ecc.map (fun i => i.val) ++ d.poisonedEntries act)

theorem exec_checkDone (ecc : List MapIndex) (s : State) :
    exec (.checkDone ecc) s = .next { s with dev := (s.dev.when (s.dev.grmRuns opCheck && s.dev.shadow == shChecking) (fun d =>
      ((d.checked (d.checkResult ecc false) ((d.asOf d.grm.snap).tuChanged d.grm.snap.map d.activeMap)).commitStep 2
        (if (d.checkResult ecc false).errors = 0 then 2 else 1)).verifyNext)) } := rfl

/-! A save and a verification end -/

theorem exec_libSaveDone {s : State} (h : s.dev.grmRuns opLibSave = true) : exec .libSaveDone s = .next
    { s with dev := (s.dev.grmEnd opLibSave rsOk).raise F.grmEvtCmdDone,
             mem := if s.dev.hbmAnswers (libBase s.dev.grmSlot) then
                 libStore s.mem s.dev.grmSlot s.dev.grm.saved s.dev.grm.savedChecked else s.mem } := by
  change execLibSaveDone s = _
  rw [execLibSaveDone, if_pos h]

section
variable (d : Dev)

/-- R322: what a verification shows. -/
def Dev.verifiedAs (r : CheckResult) : Dev :=
  if r.errors = 0 then d.lower F.grmActFault else ((d.showCheck true r).raise F.grmActFault).raise F.grmEvtActFault

abbrev verifyWords : List Nat := [Reg.grmCmdStat, Reg.grmEvt, Reg.grmAct, Reg.grmActRes, Reg.grmActPos]

theorem Dev.wordsBut_showCheck_active (r : CheckResult) : Dev.WordsBut verifyWords d (d.showCheck true r) := by
  have hres {f : Field} (hf : f.off = Reg.grmChkRes ∨ f.off = Reg.grmChkPos) : ({ f with off := f.off + 0xC } : Field).off ∈ verifyWords := by
    rcases hf with h | h
    · exact h ▸ .tail _ (.tail _ (.tail _ (.head _)))
    · exact h ▸ .tail _ (.tail _ (.tail _ (.tail _ (.head _))))
  exact ((((((Dev.WordsBut.refl _ d).put (hres (f := F.grmChkResReason) (.inl rfl)) _).put (hres (f := F.grmChkResMaxfan) (.inl rfl)) _).put
    (hres (f := F.grmChkResErrors) (.inl rfl)) _).put (hres (f := F.grmChkPosPort) (.inr rfl)) _).put (hres (f := F.grmChkPosIngress) (.inr rfl)) _).put
    (hres (f := F.grmChkPosSlot) (.inr rfl)) _

theorem Dev.verifiedAs_shown (r : CheckResult) : Dev.Only [.words] d (d.verifiedAs r) ∧ Dev.WordsBut verifyWords d (d.verifiedAs r)
    ∧ (d.verifiedAs r).on F.grmActFault = !decide (r.errors = 0) := by
  unfold Dev.verifiedAs
  split
  · next h =>
    refine ⟨d.only_lower _, (Dev.WordsBut.refl _ d).lower (f := F.grmActFault) (.tail _ (.tail _ (.head _))), ?_⟩
    rw [decide_eq_true h]
    exact d.on_lower F.grmActFault (by decide)
  · next h =>
    refine ⟨((d.only_showCheck r true).step (Dev.only_raise _ _)).step (Dev.only_raise _ _),
      ((d.wordsBut_showCheck_active r).raise (f := F.grmActFault) (.tail _ (.tail _ (.head _)))).raise (f := F.grmEvtActFault) (.tail _ (.head _)), ?_⟩
    rw [decide_eq_false h, Dev.on, Dev.raise, Dev.get_put_apart _ _ (by decide)]
    exact Dev.on_raise _ F.grmActFault (by decide) (by decide)

end

theorem exec_activeVerificationDone {ecc : List MapIndex} {s : State} (h : s.dev.grmRuns opVerify = true) :
    exec (.activeVerificationDone ecc) s = .next { s with dev :=
      ((((s.dev.verifiedAs (s.dev.checkResult ecc true)).grmEnd opVerify rsOk).raise F.grmEvtCmdDone).verifyNext) } := by
  change execActiveVerificationDone ecc s = _
  rw [execActiveVerificationDone, if_pos h]
  rfl

end Sys2Proof.Machine

/-! How each command of the Groomer ends. -/

namespace Sys2Proof.Machine

set_option Elab.async false -- a proof at a time, within the memory of a check

/-- An image drawn from one and the same memory is that memory's. -/
theorem libMixed_self (draw : Nat) (m : List Host.Cell) (slot : Nat) : libMixed draw m m slot = libImage m slot := by
  unfold libMixed libImage
  simp only [ite_self]

section
variable {s : State} {slot : Nat}

theorem libLoad_ends (h : s.dev.grm.running = some (opLibLoad, slot)) {res : Nat} {map : Store W32}
    (hmap : map = libMixed s.dev.fresh s.dev.grm.loadMem s.mem slot)
    (hres : res = (if s.dev.hbmAnswers (libBase slot) && mapCrc map == s.dev.grm.loadCrc then rsOk else rsCrc)) :
    exec .libLoadDone s = .next { s with dev := ({ s.dev with fresh := s.dev.fresh + 1 } : Dev).loadEnd opLibLoad res map } := by
  obtain ⟨hruns, hslot⟩ := Dev.grmRuns_of h
  have hexec := exec_libLoadDone s
  rw [State.when_true s hruns, Dev.libLoaded, hslot, ← hmap, ← hres] at hexec
  exact hexec

theorem copyActive_ends (h : s.dev.grm.running = some (opCopyActive, slot)) :
    exec (.copyActiveDone false) s = .next { s with dev := s.dev.loadEnd opCopyActive rsOk s.dev.activeMap } := by
  have hexec := exec_copyActiveDone false s
  rw [State.when_true s (Dev.grmRuns_of h).1, if_neg Bool.false_ne_true] at hexec
  exact hexec

theorem copyActive_ends_ecc (h : s.dev.grm.running = some (opCopyActive, slot)) :
    exec (.copyActiveDone true) s = .next { s with dev := s.dev.loadEnd opCopyActive rsEcc s.dev.shadowMap } := by
  have hexec := exec_copyActiveDone true s
  rw [State.when_true s (Dev.grmRuns_of h).1, if_pos rfl] at hexec
  exact hexec

theorem fill_ends (h : s.dev.grm.running = some (opFill, slot)) :
    exec .fillDone s = .next { s with dev := (s.dev.loadEnd opFill rsOk
      (mapFill s.dev.shadowMap s.dev.grm.fill.1 s.dev.grm.fill.2.1 s.dev.grm.fill.2.2)) } := by
  have hexec := exec_fillDone s
  rw [State.when_true s (Dev.grmRuns_of h).1] at hexec
  exact hexec

theorem check_ends (ecc : List MapIndex) (h : s.dev.grm.running = some (opCheck, slot)) (hst : s.dev.shadow = shChecking) :
    let r := s.dev.checkResult ecc false
    ∃ t, exec (.checkDone ecc) s = .next t ∧ t.dev.shadow = (if r.errors = 0 then shChecked else shFailed)
      ∧ t.dev.get F.grmChkResErrors = r.errors % 2 ^ 24 ∧ t.dev.get F.grmChkResReason = r.reason % 16
      ∧ t.dev.get F.grmChkResMaxfan = r.maxfan % 16 ∧ t.dev.get F.grmChkPosSlot = r.slot % 2 ^ 18
      ∧ t.dev.get F.grmChkPosPort = r.port % 128 ∧ t.dev.GroomerShows opCheck rsOk false
      ∧ t.dev.on F.grmEvtCheckDone = true ∧ t.dev.grm.running = none
      ∧ t = { s with dev := { s.dev with words := t.dev.words, grm := t.dev.grm } } := by
  intro r
  obtain ⟨hruns, -⟩ := Dev.grmRuns_of h
  have hexec := exec_checkDone ecc s
  rw [State.when_true s (by rw [hruns, hst]; rfl)] at hexec
  generalize (s.dev.asOf s.dev.grm.snap).tuChanged s.dev.grm.snap.map s.dev.activeMap = tu at hexec
  have hr : s.dev.checkResult ecc false = r := rfl
  rw [hr] at hexec
  clear_value r
  generalize (if r.errors = 0 then 2 else 1) = done at hexec
  obtain ⟨hshadow, herr, hreason, hfan, hcslot, hport, hshows, hevt, hnone⟩ := s.dev.checked_shows r tu
  obtain ⟨honly, hwords, hrun⟩ := s.dev.checked_followed r tu done
  have hall := ((s.dev.only_checked r tu).trans honly).eq_words_grm
  generalize ((s.dev.checked r tu).commitStep 2 done).verifyNext = e at hexec honly hwords hrun hall
  refine ⟨_, hexec, ?_, ?_, ?_, ?_, ?_, ?_, ?_, ?_, hrun.trans hnone, congrArg (fun x => ({ s with dev := x } : State)) hall⟩
  · exact (hwords.get (f := F.grmShadowState) (by decide)).trans hshadow
  · exact (hwords.get (f := F.grmChkResErrors) (by decide)).trans herr
  · exact (hwords.get (f := F.grmChkResReason) (by decide)).trans hreason
  · exact (hwords.get (f := F.grmChkResMaxfan) (by decide)).trans hfan
  · exact (hwords.get (f := F.grmChkPosSlot) (by decide)).trans hcslot
  · exact (hwords.get (f := F.grmChkPosPort) (by decide)).trans hport
  · exact Dev.groomerShows_of_words hshows hwords (by decide)
  · exact (hwords.on (f := F.grmEvtCheckDone) (by decide)).trans hevt

/-- A command's end with CMD_DONE, after words of its own. -/
theorem cmdEnded_shows {d e : Dev} {l : List Nat} {op : Nat} (hop : op < 16) (he : Dev.WordsBut l d e)
    (hl : Reg.grmCmdStat ∈ l) (hevt : Reg.grmEvt ∈ l) :
    ((e.grmEnd op rsOk).raise F.grmEvtCmdDone).GroomerShows op rsOk false ∧ ((e.grmEnd op rsOk).raise F.grmEvtCmdDone).on F.grmEvtCmdDone = true
      ∧ Dev.WordsBut l d ((e.grmEnd op rsOk).raise F.grmEvtCmdDone) :=
  ⟨Dev.groomerShows_of_words (Dev.groomerShows_grmEnd e hop (by decide))
      ((Dev.WordsBut.refl [Reg.grmEvt] _).raise (f := F.grmEvtCmdDone) (.head _)) (by decide),
    Dev.on_cmdDone _,
    (he.trans ((Dev.wordsBut_grmEnd e op rsOk).mono (List.cons_subset.2 ⟨hl, List.nil_subset _⟩))).raise (f := F.grmEvtCmdDone) hevt⟩

theorem libSave_ends (h : s.dev.grm.running = some (opLibSave, slot)) (hans : s.dev.hbmAnswers (libBase slot) = true) :
    ∃ t, exec .libSaveDone s = .next t ∧ t.dev.GroomerShows opLibSave rsOk false ∧ t.dev.on F.grmEvtCmdDone = true
      ∧ Dev.WordsBut [Reg.grmCmdStat, Reg.grmEvt] s.dev t.dev
      ∧ t = { s with dev := { s.dev with words := t.dev.words, grm := { s.dev.grm with running := none } },
                     mem := libStore s.mem slot s.dev.grm.saved s.dev.grm.savedChecked } := by
  obtain ⟨hruns, hslot⟩ := Dev.grmRuns_of h
  subst hslot
  have hexec := exec_libSaveDone hruns
  rw [if_pos hans] at hexec
  obtain ⟨hshows, hdone, hwords⟩ := cmdEnded_shows (op := opLibSave) (by decide) (Dev.WordsBut.refl [Reg.grmCmdStat, Reg.grmEvt] s.dev)
    (.head _) (.tail _ (.head _))
  have hgrm : ((s.dev.grmEnd opLibSave rsOk).raise F.grmEvtCmdDone).grm = { s.dev.grm with running := none } :=
    (Dev.only_raise (s.dev.grmEnd opLibSave rsOk) F.grmEvtCmdDone).grm
  have hall := ((s.dev.only_grmEnd opLibSave rsOk).step (Dev.only_raise _ F.grmEvtCmdDone)).eq_words_grm
  rw [hgrm] at hall
  exact ⟨_, hexec, hshows, hdone, hwords, congrArg (fun x => ({ s with dev := x, mem := _ } : State)) hall⟩

theorem verification_ends (ecc : List MapIndex) (h : s.dev.grm.running = some (opVerify, slot)) :
    let r := s.dev.checkResult ecc true
    ∃ t, exec (.activeVerificationDone ecc) s = .next t ∧ t.dev.on F.grmActFault = !decide (r.errors = 0)
      ∧ t.dev.GroomerShows opVerify rsOk false ∧ t.dev.on F.grmEvtCmdDone = true ∧ Dev.WordsBut verifyWords s.dev t.dev
      ∧ t = { s with dev := { s.dev with words := t.dev.words, grm := t.dev.grm } } := by
  intro r
  obtain ⟨hruns, -⟩ := Dev.grmRuns_of h
  have hexec := exec_activeVerificationDone (ecc := ecc) hruns
  have hr : s.dev.checkResult ecc true = r := rfl
  rw [hr] at hexec
  clear_value r
  obtain ⟨honly, hbut, hfault⟩ := s.dev.verifiedAs_shown r
  obtain ⟨hshows, hdone, hwords⟩ := cmdEnded_shows (op := opVerify) (by decide) hbut (.head _) (.tail _ (.head _))
  have hact : Dev.WordsBut [Reg.grmCmdStat, Reg.grmEvt] (s.dev.verifiedAs r) (((s.dev.verifiedAs r).grmEnd opVerify rsOk).raise F.grmEvtCmdDone) :=
    (cmdEnded_shows (op := opVerify) (by decide) (Dev.WordsBut.refl [Reg.grmCmdStat, Reg.grmEvt] _) (.head _) (.tail _ (.head _))).2.2
  have hended := ((honly.mono (by decide)).trans (Dev.only_grmEnd _ opVerify rsOk)).step (Dev.only_raise _ F.grmEvtCmdDone)
  obtain ⟨e, he⟩ : ∃ e, e = ((s.dev.verifiedAs r).grmEnd opVerify rsOk).raise F.grmEvtCmdDone := ⟨_, rfl⟩
  rw [← he] at hexec hshows hdone hwords hact hended
  have hnext : Dev.WordsBut [] e e.verifyNext := (Dev.WordsBut.refl [] e).of_words (Dev.only_verifyNext e).words
  refine ⟨_, hexec, ?_, Dev.groomerShows_of_words hshows hnext (by decide), ?_, hwords.trans (hnext.mono (List.nil_subset _)), ?_⟩
  · exact (hnext.on (f := F.grmActFault) (by decide)).trans ((hact.on (f := F.grmActFault) (by decide)).trans hfault)
  · exact (hnext.on (f := F.grmEvtCmdDone) (by decide)).trans hdone
  · exact congrArg (fun x => ({ s with dev := x } : State)) (hended.step (Dev.only_verifyNext e)).eq_words_grm

end

/-- Settles O38, by the kind of the command that ends: a load, a check, a save and a verification. -/
theorem groomerCompletions : Obligations.GroomerCompletions := by
  unfold Obligations.GroomerCompletions
  intro slot s
  refine ⟨?_, fun draw => libMixed_self draw s.mem slot, fun ecc h hst => check_ends ecc h hst, libSave_ends, fun ecc h => verification_ends ecc h⟩
  intro c op res map hrun hcase
  rcases hcase with ⟨rfl, rfl, rfl, rfl⟩ | ⟨rfl, rfl, rfl, rfl⟩ | ⟨rfl, rfl, rfl, rfl⟩ | ⟨rfl, rfl, hmap, hres⟩
  · exact ⟨_, copyActive_ends hrun, loadEnd_ends (op := opCopyActive) (res := rsOk) (.refl _ _) (by decide) (by decide)⟩
  · exact ⟨_, copyActive_ends_ecc hrun, loadEnd_ends (op := opCopyActive) (res := rsEcc) (.refl _ _) (by decide) (by decide)⟩
  · exact ⟨_, fill_ends hrun, loadEnd_ends (op := opFill) (res := rsOk) (.refl _ _) (by decide) (by decide)⟩
  · have hlow : res < 16 := by
      rw [hres]
      split <;> decide
    exact ⟨_, libLoad_ends hrun hmap hres, loadEnd_ends (s.dev.only_fresh _) (by decide) hlow⟩

end Sys2Proof.Machine

/-! What a command of the Groomer does once it is accepted (R307, R308, R312, R316, R318, R319). -/

namespace Sys2Proof.Machine

set_option Elab.async false -- a proof at a time, within the memory of a check

/-- Command `op` runs over `slot`, and the shadow is in state `sh`. -/
structure Dev.GrmRuns (d e : Dev) (op slot sh : Nat) : Prop where
  only : Dev.Only [.words, .grm, .mate, .items] d e
  running : e.grm.running = some (op, slot)
  shows : e.GroomerShows op rsOk true
  shadow : e.shadow = sh

/-- Command `op` has ended at once with result `res`, and the shadow is in state `sh`. -/
structure Dev.GrmDone (d e : Dev) (op res sh : Nat) : Prop where
  only : Dev.Only [.words, .grm, .mate, .items] d e
  running : e.grm.running = d.grm.running
  shows : e.GroomerShows op res (d.on F.grmCmdStatBusy)
  done : e.on F.grmEvtCmdDone = true
  shadow : e.shadow = sh

section
variable {d e x : Dev} {op slot res sh : Nat}

/-- What follows the start in other words. -/
theorem Dev.GrmRuns.step (h : Dev.GrmRuns d e op slot sh) (honly : Dev.Only [.words, .grm, .mate, .items] e x) {l : List Nat} (hbut : Dev.WordsBut l e x)
    (hl : Reg.grmCmdStat ∉ l) (hrun : x.grm.running = e.grm.running) {sh' : Nat} (hsh : x.shadow = sh') : Dev.GrmRuns d x op slot sh' :=
  ⟨h.only.trans honly, hrun.trans h.running, Dev.groomerShows_of_words h.shows hbut hl, hsh⟩

theorem Dev.GrmRuns.setShadow (h : Dev.GrmRuns d e op slot sh) {sh' : Nat} (hlt : sh' < 8) : Dev.GrmRuns d (e.setShadow sh') op slot sh' :=
  h.step ((Dev.only_put _ _ _).mono (by decide)) (e.wordsBut_setShadow sh') (by decide) (congrArg Grm.running (Dev.only_put _ _ _).grm)
    (e.shadow_setShadow hlt)

theorem Dev.GrmRuns.commitStep (h : Dev.GrmRuns d e op slot sh) (step done : Nat) : Dev.GrmRuns d (e.commitStep step done) op slot sh :=
  h.step ((e.only_commitStep step done).mono (by decide)) (e.wordsBut_commitStep step done) (by decide)
    ((congrArg Grm.running (e.grm_commitStep step done)).trans rfl) (((e.wordsBut_commitStep step done).get (f := F.grmShadowState) (by decide)).trans h.shadow)

theorem Dev.GrmRuns.setGrm (h : Dev.GrmRuns d e op slot sh) {g : Grm} (hg : g.running = e.grm.running) : Dev.GrmRuns d (e.setGrm g) op slot sh :=
  h.step ((e.only_setGrm g).mono (by decide)) ((Dev.WordsBut.refl [] e).of_words (e.setGrm_words' g)) List.not_mem_nil hg h.shadow

theorem Dev.GrmRuns.at_shadow (h : Dev.GrmRuns d e op slot sh) {sh' : Nat} (hsh : sh = sh') : Dev.GrmRuns d e op slot sh' :=
  ⟨h.only, h.running, h.shows, h.shadow.trans hsh⟩

theorem Dev.grmRuns_grmStart (h : Dev.Only [.words, .grm, .mate, .items] d e) (hop : op < 16) (slot : Nat) :
    Dev.GrmRuns d (e.grmStart op slot) op slot e.shadow :=
  ⟨h.trans ((e.only_grmStart op slot).mono (by decide)), rfl, e.groomerShows_grmStart slot hop,
    (e.wordsBut_grmStart op slot).get (f := F.grmShadowState) (by decide)⟩

/-- What follows the end in other words. -/
theorem Dev.GrmDone.step (h : Dev.GrmDone d e op res sh) (honly : Dev.Only [.words, .grm, .mate, .items] e x) {l : List Nat} (hbut : Dev.WordsBut l e x)
    (hl : Reg.grmCmdStat ∉ l ∧ Reg.grmEvt ∉ l ∧ Reg.grmShadow ∉ l) (hrun : x.grm.running = e.grm.running) : Dev.GrmDone d x op res sh :=
  ⟨h.only.trans honly, hrun.trans h.running, Dev.groomerShows_of_words h.shows hbut hl.1, (hbut.on (f := F.grmEvtCmdDone) hl.2.1).trans h.done,
    (hbut.get (f := F.grmShadowState) hl.2.2).trans h.shadow⟩

theorem Dev.GrmDone.commitStep (h : Dev.GrmDone d e op res sh) (step done : Nat) : Dev.GrmDone d (e.commitStep step done) op res sh :=
  h.step ((e.only_commitStep step done).mono (by decide)) (e.wordsBut_commitStep step done) (by decide)
    ((congrArg Grm.running (e.grm_commitStep step done)).trans rfl)

theorem Dev.GrmDone.setGrm (h : Dev.GrmDone d e op res sh) {g : Grm} (hg : g.running = e.grm.running) : Dev.GrmDone d (e.setGrm g) op res sh :=
  h.step ((e.only_setGrm g).mono (by decide)) ((Dev.WordsBut.refl [] e).of_words (e.setGrm_words' g)) (by decide) hg

theorem Dev.GrmDone.at_shadow (h : Dev.GrmDone d e op res sh) {sh' : Nat} (hsh : sh = sh') : Dev.GrmDone d e op res sh' :=
  ⟨h.only, h.running, h.shows, h.done, h.shadow.trans hsh⟩

theorem Dev.grmDone_grmRecord (h : Dev.Only [.words, .grm, .mate, .items] d e) {l : List Nat} (hbut : Dev.WordsBut l d e) (hl : Reg.grmCmdStat ∉ l)
    (hrun : e.grm.running = d.grm.running) (hop : op < 16) (hres : res < 16) : Dev.GrmDone d (e.grmRecord op res) op res e.shadow := by
  have honly := e.only_grmRecord op res
  have hshows := e.groomerShows_grmRecord hop hres
  rw [hbut.on (f := F.grmCmdStatBusy) hl] at hshows
  exact ⟨h.trans (honly.mono (by decide)), (congrArg Grm.running honly.grm).trans hrun, hshows, Dev.on_cmdDone _,
    (e.wordsBut_grmRecord op res).get (f := F.grmShadowState) (by decide)⟩

/-- A command that ends with a result alone. -/
theorem Dev.grmDone_recorded (d : Dev) (hop : op < 16) (hres : res < 16) : Dev.GrmDone d (d.grmRecord op res) op res d.shadow :=
  Dev.grmDone_grmRecord (.refl _ d) (.refl [] d) List.not_mem_nil rfl hop hres

/-- One that moves the shadow to state `sh` at once. -/
theorem Dev.grmDone_moved (d : Dev) (hop : op < 16) (hres : res < 16) (hsh : sh < 8) : Dev.GrmDone d ((d.setShadow sh).grmRecord op res) op res sh := by
  have h := Dev.grmDone_grmRecord (e := d.setShadow sh) ((d.only_put _ _).mono (by decide)) (d.wordsBut_setShadow sh) (by decide)
    (congrArg Grm.running (d.only_put F.grmShadowState sh).grm) hop hres
  rw [d.shadow_setShadow hsh] at h
  exact h

end

section
variable (d : Dev) (slot : Nat)

/-- A load that starts: the commit's ledger, the command and the shadow LOADING. -/
theorem Dev.grmRuns_load {op : Nat} (hop : op < 16) : Dev.GrmRuns d (((d.commitLoad 0).grmStart op slot).setShadow shLoading) op slot shLoading :=
  (Dev.grmRuns_grmStart ((d.only_commitLoad 0).mono (by decide)) hop slot).setShadow (by decide)

theorem Dev.goCopyActive_runs : Dev.GrmRuns d (d.goCopyActive slot) opCopyActive slot shLoading := d.grmRuns_load slot (by decide)

theorem Dev.goFill_runs (hlow : 1 ≤ d.get F.grmFillCountCount) (hhigh : d.get F.grmFillFirstFirst + d.get F.grmFillCountCount ≤ mapEntries) :
    Dev.GrmRuns d (d.goFill slot) opFill slot shLoading := by
  unfold Dev.goFill
  extract_lets first count e
  rw [if_neg fun h => h.elim (Nat.ne_of_gt hlow) (Nat.not_lt.2 hhigh)]
  exact (d.grmRuns_load slot (by decide)).setGrm rfl

theorem Dev.goFill_done (h : d.get F.grmFillCountCount = 0 ∨ mapEntries < d.get F.grmFillFirstFirst + d.get F.grmFillCountCount) :
    Dev.GrmDone d (d.goFill slot) opFill rsArg d.shadow := by
  unfold Dev.goFill
  extract_lets first count e
  rw [if_pos h]
  exact d.grmDone_recorded (by decide) (by decide)

theorem Dev.goCheck_runs : Dev.GrmRuns d (d.goCheck slot) opCheck slot shChecking :=
  (((Dev.grmRuns_grmStart (.refl _ d) (by decide) slot).setShadow (by decide)).commitStep 2 1).setGrm rfl

theorem Dev.goLibLoad_runs {mem : List Host.Cell} (hans : d.hbmAnswers (libBase slot) = true) (hvalid : libValid mem slot = true) :
    Dev.GrmRuns d (d.goLibLoad mem slot) opLibLoad slot shLoading := by
  unfold Dev.goLibLoad
  rw [if_neg (by rw [hans, hvalid]; decide)]
  exact (d.grmRuns_load slot (by decide)).setGrm rfl

theorem Dev.goLibLoad_done {mem : List Host.Cell} (h : d.hbmAnswers (libBase slot) = false ∨ libValid mem slot = false) :
    Dev.GrmDone d (d.goLibLoad mem slot) opLibLoad rsSlotEmpty d.shadow := by
  unfold Dev.goLibLoad
  rw [if_pos (by rcases h with h | h <;> simp [h])]
  exact d.grmDone_recorded (by decide) (by decide)

theorem Dev.goLibSave_runs : Dev.GrmRuns d (d.goLibSave slot) opLibSave slot d.shadow :=
  (Dev.grmRuns_grmStart (.refl _ d) (by decide) slot).setGrm rfl

theorem Dev.goVerify_runs : Dev.GrmRuns d (d.goVerify slot) opVerify slot d.shadow :=
  (Dev.grmRuns_grmStart (.refl _ d) (by decide) slot).setGrm rfl

theorem Dev.goInvalidate_done : Dev.GrmDone d d.goInvalidate opInvalidate rsOk shInvalid :=
  (d.grmDone_moved (by decide) (by decide) (by decide)).setGrm (d.grmDone_moved (by decide) (by decide) (by decide)).running.symm

theorem Dev.goDisarm_done : Dev.GrmDone d d.goDisarm opDisarm rsOk shChecked :=
  (d.grmDone_moved (by decide) (by decide) (by decide)).commitStep 2 2

/-- R312: the boundary that an ARM may not name. -/
abbrev Dev.armLate : Prop :=
  d.get F.grmCmtCfgBoundary = 3 ∨ d.get F.grmCmtCfgBoundary = 2
    ∧ ((d.get F.grmCmtSeqSeq + 0x1_0000_0000 - d.seqNow) % 0x1_0000_0000 < 2
      ∨ 0x10_0000 < (d.get F.grmCmtSeqSeq + 0x1_0000_0000 - d.seqNow) % 0x1_0000_0000)

theorem Dev.goArm_refused (h : d.armLate) : Dev.GrmDone d d.goArm opArm rsArg d.shadow := by
  unfold Dev.goArm
  extract_lets b ahead e src x
  rw [if_pos h]
  exact d.grmDone_recorded (by decide) (by decide)

theorem Dev.only_setCommit (v : Option Nat) : Dev.Only [.mate] d { d with mate := { d.mate with commit := v } } :=
  .part .mate (by decide) fun _ _ hp => hp d _

theorem Dev.goArm_done (h : ¬ d.armLate) : Dev.GrmDone d d.goArm opArm rsOk shArmed := by
  unfold Dev.goArm
  extract_lets b ahead e src x
  rw [if_neg h]
  have he : Dev.GrmDone d e opArm rsOk shArmed := (d.grmDone_moved (by decide) (by decide) (by decide)).commitStep 3 3
  have hx : Dev.GrmDone d x opArm rsOk shArmed := he.setGrm rfl
  split
  · have honly : Dev.Only [.mate, .items] x _ := ((x.only_setCommit (some (d.get F.grmCmtSeqSeq))).mono (by decide)).step (Dev.only_note _ 6 0)
    exact hx.step (honly.mono (by decide)) ((Dev.WordsBut.refl [] x).of_words honly.words) (by decide) (congrArg Grm.running honly.grm)
  · exact hx

end

end Sys2Proof.Machine

/-! The commands of GRM.CMD as software writes them (R307). -/

namespace Sys2Proof.Machine

set_option Elab.async false -- a proof at a time, within the memory of a check

/-! A word in memory -/

theorem memWord_memWriteWord_zero (m : List Host.Cell) (a : Nat) : memWord (memWriteWord m a 0) a = 0 := by
  have h (i : Nat) (hi : i < 4) : memByte (memWriteWord m a 0) (a + i) = 0 := by
    rw [memWriteWord, memByte_memWrite_in _ _ _ _ hi]
    interval_cases i <;> decide
  rw [memWord, show memByte (memWriteWord m a 0) a = 0 from h 0 (by decide), h 1 (by decide), h 2 (by decide), h 3 (by decide)]
  decide

theorem memByte_memWriteWord_apart (m : List Host.Cell) (a : Nat) (w : W32) {b : Nat} (h : b < a ∨ a + 4 ≤ b) :
    memByte (memWriteWord m a w) b = memByte m b :=
  h.elim (memByte_memWrite_below (wordBytes w) m a b) (memByte_memWrite_above (wordBytes w) m a b)

/-- LIB_SAVE and LIB_ERASE make the slot's descriptor invalid. -/
def libSpoilt (d : Dev) (mem : List Host.Cell) (slot : Nat) : List Host.Cell :=
  if d.hbmAnswers (libBase slot) then memWriteWord mem (libDescr slot) 0 else mem

theorem memByte_libSpoilt (d : Dev) (mem : List Host.Cell) {slot b : Nat} (h : b < libDescr slot ∨ libDescr slot + 4 ≤ b) :
    memByte (libSpoilt d mem slot) b = memByte mem b := by
  unfold libSpoilt
  split
  · exact memByte_memWriteWord_apart _ _ _ h
  · rfl

theorem memWord_libSpoilt {d : Dev} {slot : Nat} (h : d.hbmAnswers (libBase slot) = true) (mem : List Host.Cell) :
    memWord (libSpoilt d mem slot) (libDescr slot) = 0 := by
  rw [libSpoilt, if_pos h]
  exact memWord_memWriteWord_zero _ _

/-! The write -/

section
variable {s : State} {m op slot : Nat}

/-- The write is one of the device alone, with the memories that the command leaves. -/
theorem State.grmWrite_eq (h : s.mayWrite m Reg.grmCmd) : s.grmWrite m op slot = { s with
    dev := s.dev.write m Reg.grmCmd (fun _ => okay (s.chip.grmCommand op slot).dev),
    mem := (s.chip.grmCommand op slot).mem, flash := (s.chip.grmCommand op slot).flash } := by
  have hg : s.dev.grant m Reg.grmCmd true = .ok := h
  unfold State.grmWrite State.run Chip.write Dev.write
  simp only [hg]
  rfl

/-- The slot that the command names is shown. -/
abbrev Dev.cmdSlot (d : Dev) (slot : Nat) : Dev := d.put F.grmCmdSlot slot

theorem Dev.cmdSlot_only (d : Dev) (slot : Nat) : Dev.Only [.words] d (d.cmdSlot slot) := d.only_put _ _

theorem Dev.cmdSlot_words (d : Dev) (slot : Nat) : Dev.WordsBut [Reg.grmCmd] d (d.cmdSlot slot) :=
  (Dev.WordsBut.refl _ d).put (f := F.grmCmdSlot) (.head _) slot

/-- What a write of GRM.CMD that is accepted leaves. -/
structure GrmWritten (s t : State) (m : Nat) (d : Dev) (mem : List Host.Cell) : Prop where
  reply : (t.dev.replyTo m).resp = .okay
  words : t.dev.words = d.words
  grm : t.dev.grm = d.grm
  shadowMap : t.dev.shadowMap = d.shadowMap
  activeMap : t.dev.activeMap = d.activeMap
  mem : t.mem = mem
  flash : t.flash = s.flash

theorem grmWrite_written {d : Dev} {mem : List Host.Cell} (h : s.mayWrite m Reg.grmCmd)
    (hc : s.chip.grmCommand op slot = { dev := d, mem := mem, flash := s.flash }) : GrmWritten s (s.grmWrite m op slot) m d mem := by
  have heq := State.grmWrite_eq (op := op) (slot := slot) h
  rw [hc] at heq
  obtain ⟨hreply, hwords, -⟩ := Dev.write_okay (op := fun _ => okay d) h rfl
  obtain ⟨hframe, -⟩ := Dev.write_ok (op := fun _ => okay d) h
  rw [heq]
  exact ⟨hreply, hwords, (congrArg Dev.grm hframe).trans rfl, (congrArg Dev.shadowMap hframe).trans rfl,
    (congrArg Dev.activeMap hframe).trans rfl, rfl, rfl⟩

theorem GrmWritten.shows {t : State} {d : Dev} {mem : List Host.Cell} (h : GrmWritten s t m d mem) {o r : Nat} {b : Bool}
    (hd : d.GroomerShows o r b) : t.dev.GroomerShows o r b :=
  Dev.groomerShows_of_words hd ((Dev.WordsBut.refl [] d).of_words h.words) List.not_mem_nil

theorem answered_grmWrite {d : Dev} {l : List Nat} (h : s.mayWrite m Reg.grmCmd)
    (hc : s.chip.grmCommand op slot = { dev := d, mem := s.mem, flash := s.flash }) (hd : Dev.WordsOnly l s.dev d) :
    AnsweredWords m .okay l s (s.grmWrite m op slot) ∧ (s.grmWrite m op slot).dev.words = d.words := by
  refine ⟨?_, (grmWrite_written h hc).words⟩
  have heq := State.grmWrite_eq (op := op) (slot := slot) h
  rw [hc] at heq
  rw [heq]
  exact answeredWords_write h rfl hd

/-! What the command does to the chip -/

theorem Chip.grmCommand_nop (c : Chip) (slot : Nat) : c.grmCommand 0 slot = c.on (fun d => d.cmdSlot slot) := by
  unfold Chip.grmCommand
  extract_lets c1
  rw [if_pos (.inl rfl)]

/-- The result of a command that is turned away. -/
theorem Chip.grmCommand_refused {c : Chip} {op : Nat} (hop : ¬ (op = 0 ∨ opVerify < op))
    (h : c.dev.grm.running.isSome = true ∨ grmAccepts op c.dev.shadow = false) (slot : Nat) :
    c.grmCommand op slot = c.on (fun d => (d.cmdSlot slot).grmRecord op (if c.dev.grm.running.isSome then rsBusy else rsState)) := by
  unfold Chip.grmCommand
  extract_lets c1
  rw [if_neg hop]
  by_cases hbusy : c.dev.grm.running.isSome = true
  · rw [if_pos hbusy, if_pos hbusy]
    exact Chip.on_on _ _ _
  · have hno : grmAccepts op c.dev.shadow = false := h.resolve_left hbusy
    rw [if_neg hbusy, if_pos (by rw [hno]; rfl), if_neg hbusy]
    exact Chip.on_on _ _ _

theorem Chip.grmCommand_accepted {c : Chip} {op : Nat} (hop : ¬ (op = 0 ∨ opVerify < op)) (hfree : c.dev.grm.running = none)
    (h : grmAccepts op c.dev.shadow = true) (slot : Nat) : c.grmCommand op slot = (c.on (fun d => d.cmdSlot slot)).grmStart op slot := by
  unfold Chip.grmCommand
  extract_lets c1
  rw [if_neg hop, hfree, if_neg (by decide), if_neg (by rw [h]; decide)]

section
variable (c : Chip) (slot : Nat)

theorem Chip.grmStart_invalidate : c.grmStart opInvalidate slot = c.on Dev.goInvalidate := rfl

theorem Chip.grmStart_copyActive : c.grmStart opCopyActive slot = c.on (fun d => d.goCopyActive slot) := rfl

theorem Chip.grmStart_fill : c.grmStart opFill slot = c.on (fun d => d.goFill slot) := rfl

theorem Chip.grmStart_check : c.grmStart opCheck slot = c.on (fun d => d.goCheck slot) := rfl

theorem Chip.grmStart_arm : c.grmStart opArm slot = c.on Dev.goArm := rfl

theorem Chip.grmStart_disarm : c.grmStart opDisarm slot = c.on Dev.goDisarm := rfl

theorem Chip.grmStart_libLoad : c.grmStart opLibLoad slot = c.on (fun d => d.goLibLoad c.mem slot) := rfl

theorem Chip.grmStart_libSave : c.grmStart opLibSave slot = { c with dev := c.dev.goLibSave slot, mem := libSpoilt c.dev c.mem slot } := rfl

theorem Chip.grmStart_libErase : c.grmStart opLibErase slot = { c with dev := c.dev.grmRecord opLibErase rsOk, mem := libSpoilt c.dev c.mem slot } := rfl

theorem Chip.grmStart_verify : c.grmStart opVerify slot = c.on (fun d => d.goVerify slot) := rfl

end

end

/-- Each command is one write of its operation. -/
theorem exec_groomerCommand {m : Master} {slot : Fin 64} {c : Instr} {op : Nat} (h : (c, op) ∈ groomerCommands m slot) (s : State) :
    exec c s = .next (s.grmWrite m.val op slot.val) ∧ ¬ (op = 0 ∨ opVerify < op) ∧ op < 16 := by
  unfold groomerCommands at h
  simp only [List.mem_cons, Prod.mk.injEq, List.not_mem_nil, or_false] at h
  rcases h with ⟨rfl, rfl⟩ | ⟨rfl, rfl⟩ | ⟨rfl, rfl⟩ | ⟨rfl, rfl⟩ | ⟨rfl, rfl⟩ | ⟨rfl, rfl⟩ | ⟨rfl, rfl⟩ | ⟨rfl, rfl⟩ | ⟨rfl, rfl⟩ | ⟨rfl, rfl⟩
  all_goals exact ⟨rfl, by decide, by decide⟩

end Sys2Proof.Machine

/-! The commands of the Groomer, refused and accepted (R307). -/

namespace Sys2Proof.Machine

set_option Elab.async false -- a proof at a time, within the memory of a check

/-! Where the memory of the library answers -/

theorem Dev.Only.wordsOnly {d e : Dev} {l : List Nat} (h : Dev.Only [.words] d e) (hl : Dev.WordsBut l d e) : Dev.WordsOnly l d e := by
  refine ⟨h Dev (fun x => { x with words := e.words }) fun y hy => ?_, hl⟩
  fin_cases hy
  exact fun _ _ => rfl

/-- What HBM3 answers follows its own registers. -/
theorem Dev.hbmAnswers_congr {d e : Dev} {l : List Nat} (h : Dev.WordsOnly l d e) (hstat : F.hbmStatTrained0.off ∉ l)
    (hunits : ∀ u < 64, (F.hbmUnitBacked.at 4 u).off ∉ l) {a : Nat} (hu : hbmUnitOf a < 64) : e.hbmAnswers a = d.hbmAnswers a := by
  have htrained : e.hbmTrained = d.hbmTrained := by
    rw [Dev.hbmTrained, Dev.hbmTrained, h.2.on (f := F.hbmStatTrained0) hstat, h.2.on (f := F.hbmStatTrained1) hstat]
  have hbacked (u : Nat) (hu : u < 64) : e.hbmBacked u = d.hbmBacked u := h.2.on (hunits u hu)
  have hup : e.hbmUp = d.hbmUp := by
    rw [Dev.hbmUp, Dev.hbmUp, htrained, h.1]
  have hlost : e.hbmLost (hbmRegionOf a) = d.hbmLost (hbmRegionOf a) := by
    have hregion : ∀ r < 8, ∀ i < (hbmRegions.getD r (0, 0)).2 + 1 - (hbmRegions.getD r (0, 0)).1, (hbmRegions.getD r (0, 0)).1 + i < 64 := by decide
    unfold Dev.hbmLost
    extract_lets x
    rw [htrained]
    by_cases hr : hbmRegionOf a < 8
    · have hany : (List.range (x.2 + 1 - x.1)).any (fun i => !e.hbmBacked (x.1 + i)) = (List.range (x.2 + 1 - x.1)).any (fun i => !d.hbmBacked (x.1 + i)) := by
        rw [Bool.eq_iff_iff, List.any_eq_true, List.any_eq_true]
        refine exists_congr fun i => and_congr_right fun hi => ?_
        rw [hbacked _ (hregion _ hr i (List.mem_range.1 hi))]
      rw [hany]
    · rw [decide_eq_false hr, Bool.and_false, Bool.false_and, Bool.false_and]
  rw [Dev.hbmAnswers, Dev.hbmAnswers, hup, hbacked _ hu, hlost]

section
variable {s : State} {m : Master} {slot : Fin 64} (hw : s.mayWrite m.val Reg.grmCmd)

include hw in
/-- NOP shows its slot. -/
theorem groomer_nop : ∃ t, exec (.nop m slot) s = .next t ∧ AnsweredWords m.val .okay [Reg.grmCmd] s t ∧ t.dev.get F.grmCmdSlot = slot.val := by
  have hc := s.chip.grmCommand_nop slot.val
  obtain ⟨hans, hwords⟩ := answered_grmWrite hw hc ((s.dev.cmdSlot_only slot.val).wordsOnly (s.dev.cmdSlot_words slot.val))
  refine ⟨_, rfl, hans, (Dev.get_of_words hwords F.grmCmdSlot).trans ?_⟩
  exact (s.dev.get_put_same F.grmCmdSlot slot.val (by decide)).trans (Nat.mod_eq_of_lt slot.isLt)

include hw in
/-- A command is turned away while another runs, and where the shadow does not allow it. -/
theorem groomer_refused {c : Instr} {op : Nat} (hc : (c, op) ∈ groomerCommands m slot)
    (h : s.dev.grm.running.isSome = true ∨ grmAccepts op s.dev.shadow = false) :
    ∃ t, exec c s = .next t ∧ AnsweredWords m.val .okay [Reg.grmCmd, Reg.grmCmdStat, Reg.grmEvt] s t
      ∧ t.dev.GroomerShows op (if s.dev.grm.running.isSome then rsBusy else rsState) (s.dev.on F.grmCmdStatBusy)
      ∧ t.dev.on F.grmEvtCmdDone = true := by
  obtain ⟨hexec, hop, hlt⟩ := exec_groomerCommand hc s
  have hcmd := Chip.grmCommand_refused (c := s.chip) hop h slot.val
  have hres : (if s.dev.grm.running.isSome then rsBusy else rsState) < 16 := by split <;> decide
  have hchip : s.chip.dev.grm.running.isSome = s.dev.grm.running.isSome := rfl
  rw [hchip] at hcmd
  generalize (if s.dev.grm.running.isSome then rsBusy else rsState) = res at hcmd hres ⊢
  obtain ⟨e, he⟩ : ∃ e, e = (s.dev.cmdSlot slot.val).grmRecord op res := ⟨_, rfl⟩
  have hslot := s.dev.cmdSlot_words slot.val
  have honly : Dev.Only [.words] s.dev e := he ▸ (s.dev.cmdSlot_only slot.val).trans (Dev.only_grmRecord _ op res)
  have hbut : Dev.WordsBut [Reg.grmCmd, Reg.grmCmdStat, Reg.grmEvt] s.dev e :=
    he ▸ (hslot.mono (by decide)).trans ((Dev.wordsBut_grmRecord _ op res).mono (by decide))
  have hshows : e.GroomerShows op res (s.dev.on F.grmCmdStatBusy) := by
    rw [he, ← hslot.on (f := F.grmCmdStatBusy) (by decide)]
    exact Dev.groomerShows_grmRecord _ hlt hres
  have hdone : e.on F.grmEvtCmdDone = true := he ▸ Dev.on_cmdDone _
  have hcmd' : s.chip.grmCommand op slot.val = { dev := e, mem := s.mem, flash := s.flash } := by
    rw [hcmd, he]
    rfl
  obtain ⟨hans, hwords⟩ := answered_grmWrite hw hcmd' (honly.wordsOnly hbut)
  have hsame : Dev.WordsBut [] e (s.grmWrite m.val op slot.val).dev := (Dev.WordsBut.refl [] e).of_words hwords
  exact ⟨_, hexec, hans, Dev.groomerShows_of_words hshows hsame List.not_mem_nil, (hsame.on (f := F.grmEvtCmdDone) List.not_mem_nil).trans hdone⟩

/-! A command that is accepted -/

include hw in
/-- A command that then runs. -/
theorem groomer_runs {c : Instr} {op : Nat} (hc : (c, op) ∈ groomerCommands m slot) (hfree : s.dev.grm.running = none)
    (h : grmAccepts op s.dev.shadow = true) {e : Dev} {mem : List Host.Cell} {sh : Nat}
    (hstart : (s.chip.on (fun d => d.cmdSlot slot.val)).grmStart op slot.val = { dev := e, mem := mem, flash := s.flash })
    (he : Dev.GrmRuns (s.dev.cmdSlot slot.val) e op slot.val sh)
    (hmem : op ≠ opLibSave → mem = s.mem)
    (hbytes : ∀ b, (b < libDescr slot.val ∨ libDescr slot.val + 4 ≤ b) → memByte mem b = memByte s.mem b) :
    ∃ t, exec c s = .next t ∧ (t.dev.replyTo m.val).resp = .okay ∧ t.dev.grm.running = some (op, slot.val)
      ∧ t.dev.GroomerShows op rsOk true ∧ t.dev.shadow = sh ∧ t.dev.shadowMap = s.dev.shadowMap
      ∧ t.dev.activeMap = s.dev.activeMap ∧ t.flash = s.flash ∧ (op ≠ opLibSave → t.mem = s.mem)
      ∧ ∀ b, (b < libDescr slot ∨ libDescr slot + 4 ≤ b) → memByte t.mem b = memByte s.mem b := by
  obtain ⟨hexec, hop, -⟩ := exec_groomerCommand hc s
  have hcmd := (Chip.grmCommand_accepted (c := s.chip) hop hfree h slot.val).trans hstart
  have ht := grmWrite_written hw hcmd
  have honly := ((s.dev.cmdSlot_only slot.val).mono (by decide)).trans he.only
  refine ⟨_, hexec, ht.reply, (congrArg Grm.running ht.grm).trans he.running, ht.shows he.shows,
    (Dev.get_of_words ht.words F.grmShadowState).trans he.shadow, ht.shadowMap.trans honly.shadowMap, ht.activeMap.trans honly.activeMap,
    ht.flash, fun hne => ht.mem.trans (hmem hne), fun b hb => ?_⟩
  rw [ht.mem]
  exact hbytes b hb

include hw in
/-- A command that ends at once. -/
theorem groomer_done {c : Instr} {op res : Nat} (hc : (c, op) ∈ groomerCommands m slot) (hfree : s.dev.grm.running = none)
    (h : grmAccepts op s.dev.shadow = true) {e : Dev} {mem : List Host.Cell} {sh : Nat}
    (hstart : (s.chip.on (fun d => d.cmdSlot slot.val)).grmStart op slot.val = { dev := e, mem := mem, flash := s.flash })
    (he : Dev.GrmDone (s.dev.cmdSlot slot.val) e op res sh)
    (hmem : op ≠ opLibErase → mem = s.mem)
    (herase : op = opLibErase → s.dev.hbmAnswers (libBase slot.val) = true → memWord mem (libDescr slot.val) = 0)
    (hbytes : ∀ b, (b < libDescr slot.val ∨ libDescr slot.val + 4 ≤ b) → memByte mem b = memByte s.mem b) :
    ∃ t, exec c s = .next t ∧ (t.dev.replyTo m.val).resp = .okay ∧ t.dev.grm.running = none
      ∧ t.dev.GroomerShows op res (s.dev.on F.grmCmdStatBusy) ∧ t.dev.on F.grmEvtCmdDone = true ∧ t.dev.shadow = sh
      ∧ t.dev.shadowMap = s.dev.shadowMap ∧ t.dev.activeMap = s.dev.activeMap ∧ t.flash = s.flash
      ∧ (op ≠ opLibErase → t.mem = s.mem)
      ∧ (op = opLibErase → s.dev.hbmAnswers (libBase slot) = true → memWord t.mem (libDescr slot) = 0)
      ∧ ∀ b, (b < libDescr slot ∨ libDescr slot + 4 ≤ b) → memByte t.mem b = memByte s.mem b := by
  obtain ⟨hexec, hop, -⟩ := exec_groomerCommand hc s
  have hcmd := (Chip.grmCommand_accepted (c := s.chip) hop hfree h slot.val).trans hstart
  have ht := grmWrite_written hw hcmd
  have hslot := s.dev.cmdSlot_only slot.val
  have honly := (hslot.mono (by decide)).trans he.only
  have hshows := he.shows
  rw [(s.dev.cmdSlot_words slot.val).on (f := F.grmCmdStatBusy) (by decide)] at hshows
  refine ⟨_, hexec, ht.reply, (congrArg Grm.running ht.grm).trans (he.running.trans ((congrArg Grm.running hslot.grm).trans hfree)),
    ht.shows hshows, ?_, (Dev.get_of_words ht.words F.grmShadowState).trans he.shadow, ht.shadowMap.trans honly.shadowMap,
    ht.activeMap.trans honly.activeMap, ht.flash, fun hne => ht.mem.trans (hmem hne), fun heq hans => ?_, fun b hb => ?_⟩
  · exact (((Dev.WordsBut.refl [] e).of_words ht.words).on (f := F.grmEvtCmdDone) List.not_mem_nil).trans he.done
  · rw [ht.mem]
    exact herase heq hans
  · rw [ht.mem]
    exact hbytes b hb

/-- The fields that a command reads are not of GRM.CMD. -/
theorem Dev.get_cmdSlot (d : Dev) (slot : Nat) {f : Field} (h : f.off ∉ [Reg.grmCmd]) : (d.cmdSlot slot).get f = d.get f :=
  (d.cmdSlot_words slot).get h

theorem Dev.hbmAnswers_cmdSlot (d : Dev) (slot : Fin 64) : (d.cmdSlot slot.val).hbmAnswers (libBase slot.val) = d.hbmAnswers (libBase slot.val) := by
  have hunits : ∀ u < 64, (F.hbmUnitBacked.at 4 u).off ∉ [Reg.grmCmd] := by decide
  have hslots : ∀ n : Fin 64, hbmUnitOf (libBase n.val) < 64 := by decide
  exact Dev.hbmAnswers_congr ((d.cmdSlot_only slot.val).wordsOnly (d.cmdSlot_words slot.val)) (by decide) hunits (hslots slot)

theorem Dev.seqNow_cmdSlot (d : Dev) (slot : Nat) : (d.cmdSlot slot).seqNow = d.seqNow := by
  rw [Dev.seqNow, Dev.seqNow, (d.cmdSlot_only slot).timing]

theorem Dev.armLate_cmdSlot (d : Dev) (slot : Nat) : (d.cmdSlot slot).armLate ↔ d.armLate := by
  rw [Dev.armLate, Dev.armLate, d.seqNow_cmdSlot, d.get_cmdSlot (f := F.grmCmtCfgBoundary) slot (by decide),
    d.get_cmdSlot (f := F.grmCmtSeqSeq) slot (by decide)]

theorem Dev.fillRefused_cmdSlot (d : Dev) (slot : Nat)
    (h : d.get F.grmFillCountCount = 0 ∨ mapEntries < d.get F.grmFillFirstFirst + d.get F.grmFillCountCount) :
    (d.cmdSlot slot).get F.grmFillCountCount = 0
      ∨ mapEntries < (d.cmdSlot slot).get F.grmFillFirstFirst + (d.cmdSlot slot).get F.grmFillCountCount := by
  rwa [d.get_cmdSlot (f := F.grmFillFirstFirst) slot (by decide), d.get_cmdSlot (f := F.grmFillCountCount) slot (by decide)]

theorem Dev.shadow_cmdSlot (d : Dev) (slot : Nat) : (d.cmdSlot slot).shadow = d.shadow := d.get_cmdSlot (f := F.grmShadowState) slot (by decide)

end

/-- Settles O37, by the command: NOP, one that is turned away, one that then runs, and one that ends at once. -/
theorem groomerCommands_hold : Obligations.GroomerCommands := by
  unfold Obligations.GroomerCommands
  intro m slot s hw done first count sh boundary ahead late
  refine ⟨groomer_nop hw, fun c op hc h => groomer_refused hw hc h, fun hfree => ?_⟩
  have hbytes : ∀ b, (b < libDescr slot.val ∨ libDescr slot.val + 4 ≤ b) → memByte s.mem b = memByte s.mem b := fun _ _ => rfl
  have hsh := s.dev.shadow_cmdSlot slot.val
  refine ⟨?_, ?_⟩
  · intro c op sh' hacc hcase
    have hfirst := s.dev.get_cmdSlot (f := F.grmFillFirstFirst) slot.val (by decide)
    have hcount := s.dev.get_cmdSlot (f := F.grmFillCountCount) slot.val (by decide)
    rcases hcase with ⟨rfl, rfl, rfl⟩ | ⟨rfl, rfl, rfl, hlow, hhigh⟩ | ⟨rfl, rfl, rfl⟩ | ⟨rfl, rfl, rfl, hans, hvalid⟩ | ⟨rfl, rfl, rfl⟩ | ⟨rfl, rfl, rfl⟩
    · exact groomer_runs hw (by simp [groomerCommands]) hfree hacc (Chip.grmStart_copyActive _ _) (Dev.goCopyActive_runs _ _) (fun _ => rfl) hbytes
    · exact groomer_runs hw (by simp [groomerCommands]) hfree hacc (Chip.grmStart_fill _ _)
        (Dev.goFill_runs _ _ (hlow.trans hcount.ge) ((Nat.add_le_add hfirst.le hcount.le).trans hhigh)) (fun _ => rfl) hbytes
    · exact groomer_runs hw (by simp [groomerCommands]) hfree hacc (Chip.grmStart_check _ _) (Dev.goCheck_runs _ _) (fun _ => rfl) hbytes
    · exact groomer_runs hw (by simp [groomerCommands]) hfree hacc (Chip.grmStart_libLoad _ _)
        (Dev.goLibLoad_runs _ _ ((s.dev.hbmAnswers_cmdSlot slot).trans hans) hvalid) (fun _ => rfl) hbytes
    · exact groomer_runs hw (by simp [groomerCommands]) hfree hacc (Chip.grmStart_libSave _ _) ((Dev.goLibSave_runs _ _).at_shadow hsh)
        (fun h => absurd rfl h) (fun b hb => memByte_libSpoilt _ _ hb)
    · exact groomer_runs hw (by simp [groomerCommands]) hfree hacc (Chip.grmStart_verify _ _) ((Dev.goVerify_runs _ _).at_shadow hsh) (fun _ => rfl) hbytes
  · intro c op res sh' hacc hcase
    have harm := s.dev.armLate_cmdSlot slot.val
    rcases hcase with ⟨rfl, rfl, rfl, rfl⟩ | ⟨rfl, rfl, rfl, rfl, hspan⟩ | ⟨rfl, rfl, rfl, rfl, hlate⟩ | ⟨rfl, rfl, rfl, rfl, hlate⟩
      | ⟨rfl, rfl, rfl, rfl⟩ | ⟨rfl, rfl, rfl, rfl, hempty⟩ | ⟨rfl, rfl, rfl, rfl⟩
    · exact groomer_done hw (by simp [groomerCommands]) hfree hacc (Chip.grmStart_invalidate _ _) (Dev.goInvalidate_done _) (fun _ => rfl)
        (fun h => absurd h (by decide)) hbytes
    · exact groomer_done hw (by simp [groomerCommands]) hfree hacc (Chip.grmStart_fill _ _)
        ((Dev.goFill_done _ _ (s.dev.fillRefused_cmdSlot slot.val hspan)).at_shadow hsh) (fun _ => rfl)
        (fun h => absurd h (by decide)) hbytes
    · exact groomer_done hw (by simp [groomerCommands]) hfree hacc (Chip.grmStart_arm _ _) ((Dev.goArm_refused _ (harm.2 hlate)).at_shadow hsh)
        (fun _ => rfl)
        (fun h => absurd h (by decide)) hbytes
    · exact groomer_done hw (by simp [groomerCommands]) hfree hacc (Chip.grmStart_arm _ _) (Dev.goArm_done _ fun h => hlate (harm.1 h))
        (fun _ => rfl)
        (fun h => absurd h (by decide)) hbytes
    · exact groomer_done hw (by simp [groomerCommands]) hfree hacc (Chip.grmStart_disarm _ _) (Dev.goDisarm_done _) (fun _ => rfl)
        (fun h => absurd h (by decide)) hbytes
    · rw [← s.dev.hbmAnswers_cmdSlot slot] at hempty
      exact groomer_done hw (by simp [groomerCommands]) hfree hacc (Chip.grmStart_libLoad _ _)
        ((Dev.goLibLoad_done _ _ hempty).at_shadow hsh) (fun _ => rfl)
        (fun h => absurd h (by decide)) hbytes
    · exact groomer_done hw (by simp [groomerCommands]) hfree hacc (Chip.grmStart_libErase _ _)
        ((Dev.grmDone_recorded _ (by decide) (by decide)).at_shadow hsh) (fun h => absurd rfl h)
        (fun _ hans => memWord_libSpoilt ((s.dev.hbmAnswers_cmdSlot slot).trans hans) _) (fun b hb => memByte_libSpoilt _ _ hb)

end Sys2Proof.Machine

/-! The swap of the Groomer's maps at its edge (R315). -/

namespace Sys2Proof.Machine

set_option Elab.async false -- a proof at a time, within the memory of a check

section
variable (d : Dev)

/-! An uncorrectable word of SRAM -/

theorem Dev.only_sramDue (sb : Nat) : Dev.Only [.sram] d (d.sramDue sb) := by
  unfold Dev.sramDue
  split
  · exact .refl _ d
  · exact .part .sram (by decide) fun _ _ hp => hp d _

theorem Dev.only_ueAt (t : Option Nat) : Dev.Only [.sram] d { d with sram := { d.sram with ueAt := t } } :=
  .part .sram (by decide) fun _ _ hp => hp d _

theorem Dev.only_sramUe (p : Nat × Nat) (due : Bool) : Dev.Only [.words, .sram] d (d.sramUe p due) := by
  unfold Dev.sramUe
  extract_lets d3
  have h3 : Dev.Only [.words] d d3 := (d.only_roll _ 1).step (Dev.only_raise _ _)
  have hseen : Dev.Only [.words, .sram] d { d3 with sram := { d3.sram with ueAt := some d3.now } } :=
    (h3.mono (by decide)).step (d3.only_ueAt _)
  exact hseen.trans (.whenStep _ fun x => (x.only_sramDue p.1).mono (by decide))

theorem Dev.only_sramErr (p : Nat × Nat) (e : EccSeen) : Dev.Only [.words] d (d.sramErr p e) :=
  (((d.only_put _ _).step (Dev.only_put _ _ _)).step (Dev.only_put _ _ _)).step (Dev.only_bump _ _ _)

theorem Dev.only_sramSeen_ue (p : Nat × Nat) : Dev.Only [.words, .sram] d (d.sramSeen p (.uncorrectable 0)) := by
  rw [d.sramSeen_eq, if_neg (by simp), if_pos (show isUe (.uncorrectable 0) = true from rfl)]
  exact ((d.only_sramErr p _).mono (by decide)).trans (Dev.only_sramUe _ p _)

theorem Dev.only_mapSeen (ue : List Nat) : Dev.Only [.words, .sram] d (d.mapSeen ue) :=
  .foldl _ fun e p _ => e.only_sramSeen_ue p

theorem Dev.wordsBut_mapSeen (ue : List Nat) : Dev.WordsBut sramWords d (d.mapSeen ue) :=
  List.foldlRecOn _ _ (Dev.WordsBut.refl _ d) fun e he p _ => he.trans (e.sramSeen_wordsBut p _)

theorem Dev.only_entryUe (n : Nat) : Dev.Only [.words, .grm] d (d.entryUe n) :=
  .whenStep _ fun e => (((e.only_roll _ n).step (Dev.only_raise _ _)).mono (by decide)).step (Dev.only_setGrm _ _)

theorem Dev.wordsBut_entryUe (n : Nat) : Dev.WordsBut [Reg.grmEvt, F.grmEntUeCount.off] d (d.entryUe n) :=
  Dev.when_of _ (.refl _ d) ((((Dev.WordsBut.refl _ d).roll (f := F.grmEntUeCount) (.tail _ (.head _)) n).raise (f := F.grmEvtEntUe) (.head _)).of_words
    (Dev.setGrm_words' _ _))

theorem Dev.swapDone_entryUe (n : Nat) : (d.entryUe n).on F.grmEvtSwapDone = d.on F.grmEvtSwapDone :=
  (((Dev.Reads.refl F.grmEvtSwapDone d).when _ fun x hx =>
    ((hx.put (g := F.grmEntUeCount) (by decide) _).raise (g := F.grmEvtEntUe) (by decide)).of_words (Dev.setGrm_words' _ _))).on

/-! The swap -/

/-- The two maps have changed places. -/
def Dev.swapped : Dev :=
  { d with activeMap := d.shadowMap, shadowMap := d.activeMap,
           grm := { d.grm with swapped := true, invalidated := false, pristine := true,
                               legs := d.words.filter (fun x => decide (0x1800_0000 ≤ x.1) && decide (x.1 < 0x1840_0000)) } }

/-- The registers of the swap. -/
def Dev.swapShown : Dev :=
  ((((d.setShadow shChecked).roll F.grmCmtSerialSerial 1).put F.grmSwapSeqSeq d.seqNow).raise F.grmActValid).raise F.grmEvtSwapDone

/-- The commit's ledger ends. -/
def Dev.swapLedger (id : Nat) : Dev := d.ledger 0xB id 4 ledgerDone 4

/-- The entries that read as uncorrectable in the pass that begins. -/
def Dev.swapSeen (fresh : List Nat) : Dev := d.when (d.eff 0xB == 2) (fun e => (e.entryUe fresh.length).mapSeen fresh)

/-- The fills of the pass that begins. -/
def Dev.swapFilled (p : Pan) (q : Store VcSt) : Dev := { d with egFill := p, egress := q }

theorem Dev.swapMaps_eq : ∃ id fresh p q, d.swapMaps = ((d.swapped.swapShown.swapLedger id).swapSeen fresh).swapFilled p q :=
  ⟨_, _, _, _, rfl⟩

theorem Dev.only_swapped : Dev.Only [.activeMap, .shadowMap, .grm] d d.swapped := by
  have h1 : Dev.Only [.activeMap, .shadowMap, .grm] d { d with activeMap := d.shadowMap } :=
    (Dev.Only.part .activeMap (by decide) fun _ _ hp => hp d _)
  have h2 : Dev.Only [.activeMap, .shadowMap, .grm] d { d with activeMap := d.shadowMap, shadowMap := d.activeMap } :=
    h1.trans (.part .shadowMap (by decide) fun _ _ hp => hp { d with activeMap := d.shadowMap } _)
  exact h2.trans (.part .grm (by decide) fun _ _ hp => hp { d with activeMap := d.shadowMap, shadowMap := d.activeMap } _)

theorem Dev.only_swapShown : Dev.Only [.words] d d.swapShown :=
  ((((d.only_put _ _).step (Dev.only_roll _ _ 1)).step (Dev.only_put _ _ _)).step (Dev.only_raise _ _)).step (Dev.only_raise _ _)

theorem Dev.swapShown_shows : d.swapShown.shadow = shChecked ∧ d.swapShown.get F.grmCmtSerialSerial = (d.get F.grmCmtSerialSerial + 1) % 2 ^ 32
    ∧ d.swapShown.get F.grmSwapSeqSeq = d.seqNow % 2 ^ 32 ∧ d.swapShown.on F.grmActValid = true ∧ d.swapShown.on F.grmEvtSwapDone = true := by
  obtain ⟨e, he⟩ : ∃ e, e = d.setShadow shChecked := ⟨_, rfl⟩
  obtain ⟨x, hx⟩ : ∃ x, x = e.roll F.grmCmtSerialSerial 1 := ⟨_, rfl⟩
  obtain ⟨y, hy⟩ : ∃ y, y = x.put F.grmSwapSeqSeq d.seqNow := ⟨_, rfl⟩
  obtain ⟨z, hz⟩ : ∃ z, z = y.raise F.grmActValid := ⟨_, rfl⟩
  have hshown : d.swapShown = z.raise F.grmEvtSwapDone := by
    rw [Dev.swapShown, hz, hy, hx, he]
  have hshadow : e.get F.grmShadowState = shChecked := he ▸ d.shadow_setShadow (by decide)
  have hserial : x.get F.grmCmtSerialSerial = (d.get F.grmCmtSerialSerial + 1) % 2 ^ 32 := by
    rw [hx, Dev.get_roll_same _ (by decide), he, (d.wordsBut_setShadow shChecked).get (by decide)]
    rfl
  have hseq : y.get F.grmSwapSeqSeq = d.seqNow % 2 ^ 32 := hy ▸ Dev.get_put_same _ F.grmSwapSeqSeq _ (by decide)
  have hvalid : z.on F.grmActValid = true := hz ▸ Dev.on_raise _ F.grmActValid (by decide) (by decide)
  have hbz : Dev.WordsBut [Reg.grmEvt] z (z.raise F.grmEvtSwapDone) := (Dev.WordsBut.refl _ z).raise (f := F.grmEvtSwapDone) (.head _)
  have hby : Dev.WordsBut [Reg.grmAct] y z := hz ▸ (Dev.WordsBut.refl _ y).raise (f := F.grmActValid) (.head _)
  have hbx : Dev.WordsBut [F.grmSwapSeqSeq.off] x y := hy ▸ (Dev.WordsBut.refl _ x).put (f := F.grmSwapSeqSeq) (.head _) _
  have hbe : Dev.WordsBut [F.grmCmtSerialSerial.off] e x := hx ▸ (Dev.WordsBut.refl _ e).roll (f := F.grmCmtSerialSerial) (.head _) 1
  rw [hshown]
  refine ⟨?_, ?_, ?_, (hbz.on (f := F.grmActValid) (by decide)).trans hvalid, Dev.on_raise z F.grmEvtSwapDone (by decide) (by decide)⟩
  · exact (hbz.get (f := F.grmShadowState) (by decide)).trans ((hby.get (f := F.grmShadowState) (by decide)).trans
      ((hbx.get (f := F.grmShadowState) (by decide)).trans ((hbe.get (f := F.grmShadowState) (by decide)).trans hshadow)))
  · exact (hbz.get (f := F.grmCmtSerialSerial) (by decide)).trans ((hby.get (f := F.grmCmtSerialSerial) (by decide)).trans
      ((hbx.get (f := F.grmCmtSerialSerial) (by decide)).trans hserial))
  · exact (hbz.get (f := F.grmSwapSeqSeq) (by decide)).trans ((hby.get (f := F.grmSwapSeqSeq) (by decide)).trans hseq)

theorem Dev.only_swapSeen (fresh : List Nat) : Dev.Only [.words, .grm, .sram] d (d.swapSeen fresh) :=
  .whenStep _ fun e => ((e.only_entryUe fresh.length).mono (by decide)).trans ((Dev.only_mapSeen _ fresh).mono (by decide))

/-- The words that the ledger and the pass may change. -/
def swapWords : List Nat := ledgerWords 0xB ++ [Reg.grmEvt, F.grmEntUeCount.off] ++ sramWords

theorem Dev.wordsBut_swapSeen (fresh : List Nat) : Dev.WordsBut swapWords d (d.swapSeen fresh) :=
  Dev.when_of _ (.refl _ d) (((d.wordsBut_entryUe fresh.length).mono (by decide)).trans ((Dev.wordsBut_mapSeen _ fresh).mono (by decide)))

theorem Dev.swapDone_swapSeen (fresh : List Nat) : (d.swapSeen fresh).on F.grmEvtSwapDone = d.on F.grmEvtSwapDone :=
  Dev.when_of (P := fun x => x.on F.grmEvtSwapDone = d.on F.grmEvtSwapDone) _ rfl
    (((Dev.wordsBut_mapSeen _ fresh).on (f := F.grmEvtSwapDone) (by decide)).trans (d.swapDone_entryUe fresh.length))

theorem Dev.Only.eq_swap {d e : Dev} (h : Dev.Only [.words, .grm, .activeMap, .shadowMap, .egFill, .egress, .sram] d e) :
    e = { d with words := e.words, grm := e.grm, activeMap := e.activeMap, shadowMap := e.shadowMap, egFill := e.egFill, egress := e.egress,
                 sram := e.sram } := by
  refine h Dev (fun x => { x with words := e.words, grm := e.grm, activeMap := e.activeMap, shadowMap := e.shadowMap, egFill := e.egFill,
                                  egress := e.egress, sram := e.sram }) fun y hy => ?_
  fin_cases hy <;> exact fun _ _ => rfl

theorem Dev.only_swapFilled (p : Pan) (q : Store VcSt) : Dev.Only [.egFill, .egress] d (d.swapFilled p q) := by
  have h1 : Dev.Only [.egFill, .egress] d { d with egFill := p } := .part .egFill (by decide) fun _ _ hp => hp d p
  exact h1.trans (.part .egress (by decide) fun _ _ hp => hp { d with egFill := p } q)

/-- What shows of the swap. -/
theorem Dev.swapMaps_shows : d.swapMaps.activeMap = d.shadowMap ∧ d.swapMaps.shadowMap = d.activeMap ∧ d.swapMaps.shadow = shChecked
    ∧ d.swapMaps.get F.grmCmtSerialSerial = (d.get F.grmCmtSerialSerial + 1) % 2 ^ 32 ∧ d.swapMaps.get F.grmSwapSeqSeq = d.seqNow % 2 ^ 32
    ∧ d.swapMaps.on F.grmActValid = true ∧ d.swapMaps.on F.grmEvtSwapDone = true
    ∧ d.swapMaps = { d with words := d.swapMaps.words, grm := d.swapMaps.grm, activeMap := d.swapMaps.activeMap, shadowMap := d.swapMaps.shadowMap,
                            egFill := d.swapMaps.egFill, egress := d.swapMaps.egress, sram := d.swapMaps.sram } := by
  obtain ⟨id, fresh, p, q, heq⟩ := d.swapMaps_eq
  obtain ⟨hshadow, hserial, hseq, hvalid, hdone⟩ := d.swapped.swapShown_shows
  rw [Dev.get_congr (show d.swapped.words = d.words from rfl)] at hserial
  rw [Dev.seqNow, d.only_swapped.timing, ← Dev.seqNow] at hseq
  have hledger : Dev.Only [.words] d.swapped.swapShown (d.swapped.swapShown.swapLedger id) := Dev.only_ledger _ _ _ _ _ _
  have hbut : Dev.WordsBut (ledgerWords 0xB) d.swapped.swapShown (d.swapped.swapShown.swapLedger id) := Dev.wordsBut_ledger _ _ _ _ _ _
  generalize d.swapped.swapShown.swapLedger id = x at heq hledger hbut
  have hseen := x.only_swapSeen fresh
  have hwords := (hbut.mono (by decide : ledgerWords 0xB ⊆ swapWords)).trans (x.wordsBut_swapSeen fresh)
  have hswap := (x.swapDone_swapSeen fresh).trans (hbut.on (f := F.grmEvtSwapDone) (by decide))
  have hfrom : Dev.Only [.words, .grm, .sram] d.swapped (x.swapSeen fresh) :=
    ((d.swapped.only_swapShown.trans hledger).mono (by decide)).trans hseen
  generalize x.swapSeen fresh = y at heq hseen hwords hswap hfrom
  have hfill := y.only_swapFilled p q
  rw [← heq] at hfill
  have hlast : Dev.WordsBut [] y d.swapMaps := (Dev.WordsBut.refl [] y).of_words hfill.words
  have hall : Dev.Only [.words, .grm, .activeMap, .shadowMap, .egFill, .egress, .sram] d d.swapMaps :=
    ((d.only_swapped.mono (by decide)).trans (hfrom.mono (by decide))).trans (hfill.mono (by decide))
  have hactive : d.swapMaps.activeMap = d.shadowMap := hfill.activeMap.trans (hfrom.activeMap.trans rfl)
  have hother : d.swapMaps.shadowMap = d.activeMap := hfill.shadowMap.trans (hfrom.shadowMap.trans rfl)
  exact ⟨hactive, hother, (hlast.get (f := F.grmShadowState) List.not_mem_nil).trans ((hwords.get (f := F.grmShadowState) (by decide)).trans hshadow),
    (hlast.get (f := F.grmCmtSerialSerial) List.not_mem_nil).trans ((hwords.get (f := F.grmCmtSerialSerial) (by decide)).trans hserial),
    (hlast.get (f := F.grmSwapSeqSeq) List.not_mem_nil).trans ((hwords.get (f := F.grmSwapSeqSeq) (by decide)).trans hseq),
    (hlast.on (f := F.grmActValid) List.not_mem_nil).trans ((hwords.on (f := F.grmActValid) (by decide)).trans hvalid),
    (hlast.on (f := F.grmEvtSwapDone) List.not_mem_nil).trans (hswap.trans hdone), hall.eq_swap⟩

end

end Sys2Proof.Machine

/-! The shadow map window and the selectors (R306, R311, R429). -/

namespace Sys2Proof.Machine

set_option Elab.async false -- a proof at a time, within the memory of a check

/-! A write of a table in SRAM -/

/-- Beside the write: a poisoned word is seen as it is read. -/
def Dev.tableEffect (a : Nat) (op : Dev → Dev × Resp) (e : Dev) : Dev × Resp :=
  ((op e).1.when ((op e).2 == .okay && e.poisoned a) (fun x => x.sramSeen (e.sramPlace a) (.uncorrectable 0)), (op e).2)

theorem Dev.writeTable_eq (d : Dev) (m a : Nat) (op : Dev → Dev × Resp) : d.writeTable m a op = d.write m a (Dev.tableEffect a op) := rfl

theorem Dev.tableEffect_refused {d : Dev} {a : Nat} {op : Dev → Dev × Resp} (h : op d = (d, .slverr)) : Dev.tableEffect a op d = (d, .slverr) := by
  rw [Dev.tableEffect, h]
  rfl

theorem Dev.tableEffect_intact {d e : Dev} {a : Nat} {op : Dev → Dev × Resp} (hop : op d = okay e) (hp : d.poisoned a = false) :
    Dev.tableEffect a op d = okay e := by
  rw [Dev.tableEffect, hop, hp, Bool.and_false]
  rfl

/-- The word is written, whether or not it read as poisoned. -/
theorem Dev.tableEffect_okay {d e : Dev} {a : Nat} {op : Dev → Dev × Resp} (hop : op d = okay e) :
    ∃ x, Dev.tableEffect a op d = okay x ∧ Dev.Only [.words, .sram] e x ∧ Dev.WordsBut sramWords e x := by
  refine ⟨_, ?_, Dev.Only.whenStep (d.poisoned a) fun y => y.only_sramSeen_ue (d.sramPlace a), Dev.when_of _ (.refl _ e) (e.sramSeen_wordsBut _ _)⟩
  rw [Dev.tableEffect, hop]
  rfl

theorem answered_refusedTable {s : State} {m a : Nat} {op : Dev → Dev × Resp} (h : s.mayWrite m a) (hop : op s.dev = (s.dev, .slverr)) :
    AnsweredWords m .slverr [] s { s with dev := s.dev.writeTable m a op } := by
  rw [Dev.writeTable_eq]
  exact answeredWords_write h (Dev.tableEffect_refused hop) ⟨rfl, .refl [] _⟩

/-! The shadow map window -/

section
variable (d : Dev) (i : Nat) (v : W32)

theorem Dev.only_stopCheck : Dev.Only [.words, .grm] d d.stopCheck :=
  .whenStep _ fun e => ((e.only_grmEnd _ _).step (Dev.only_raise _ _)).step (Dev.only_verifyNext _)

/-- The window is shut while the shadow is armed, loading or being saved. -/
abbrev Dev.windowShut : Prop := d.shadow = shArmed ∨ d.shadow = shLoading ∨ d.grmRuns opLibSave = true

/-- The shadow map, replaced. -/
def Dev.putShadowMap (map : Store W32) : Dev := { d with shadowMap := map }

theorem Dev.only_putShadowMap (map : Store W32) : Dev.Only [.shadowMap] d (d.putShadowMap map) := d.only_shadowMap map

/-- The shadow with entry `i` written. -/
def Dev.entryWritten : Dev := ((d.stopCheck.putShadowMap (Store.set (fun _ => 0) d.stopCheck.shadowMap i v)).commitLoad 0).setShadow shLoaded

theorem Dev.shadowWrite_shut (h : d.windowShut) : d.shadowWrite i v = (d, .slverr) := if_pos h

theorem Dev.shadowWrite_open (h : ¬ d.windowShut) : d.shadowWrite i v = okay (d.entryWritten i v) := if_neg h

theorem Dev.entryWritten_maps : (d.entryWritten i v).shadowMap = Store.set (fun _ => 0) d.shadowMap i v
    ∧ (d.entryWritten i v).activeMap = d.activeMap ∧ (d.entryWritten i v).shadow = shLoaded := by
  have hstop := d.only_stopCheck
  obtain ⟨map, hmap⟩ : ∃ map, map = Store.set (fun _ => 0) d.stopCheck.shadowMap i v := ⟨_, rfl⟩
  obtain ⟨e, he⟩ : ∃ e, e = d.stopCheck.putShadowMap map := ⟨_, rfl⟩
  have hput : Dev.Only [.shadowMap] d.stopCheck e := he ▸ d.stopCheck.only_putShadowMap map
  have hload : Dev.Only [.words, .grm] e ((e.commitLoad 0).setShadow shLoaded) := (e.only_commitLoad 0).step (Dev.only_put _ _ _)
  have hentry : d.entryWritten i v = (e.commitLoad 0).setShadow shLoaded := by
    rw [Dev.entryWritten, he, hmap]
  rw [hentry]
  refine ⟨?_, hload.activeMap.trans (hput.activeMap.trans hstop.activeMap), Dev.shadow_setShadow _ (by decide)⟩
  rw [hload.shadowMap, he, Dev.putShadowMap, hmap, hstop.shadowMap]

end

theorem Dev.write_okay_maps {d e : Dev} {m a : Nat} {op : Dev → Dev × Resp} (h : d.grant m a true = .ok) (hop : op d = okay e) :
    (d.write m a op).shadowMap = e.shadowMap ∧ (d.write m a op).activeMap = e.activeMap := by
  obtain ⟨hframe, -⟩ := Dev.write_ok (op := op) h
  rw [hop] at hframe
  exact ⟨(congrArg Dev.shadowMap hframe).trans rfl, (congrArg Dev.activeMap hframe).trans rfl⟩

section
variable {s : State} {m : Master} {i : MapIndex} {data : W32} (hw : s.mayWrite m.val (0x1000_0000 + 4 * i.val))

include hw in
theorem window_open (h : ¬ s.dev.windowShut) : ∃ t, exec (.shadowWindowWrite m i data) s = .next t ∧ (t.dev.replyTo m.val).resp = .okay
    ∧ Store.get (fun _ => 0) t.dev.shadowMap i.val = data
    ∧ (∀ j, j ≠ i.val → Store.get (fun _ => 0) t.dev.shadowMap j = Store.get (fun _ => 0) s.dev.shadowMap j)
    ∧ t.dev.shadow = shLoaded ∧ t.dev.activeMap = s.dev.activeMap ∧ KeepsMemories s t := by
  have hwritten := s.dev.shadowWrite_open i.val data h
  obtain ⟨x, hop, honly, hbut⟩ := Dev.tableEffect_okay (op := fun d => d.shadowWrite i.val data) (a := 0x1000_0000 + 4 * i.val) hwritten
  obtain ⟨hmap, hactive, hshadow⟩ := s.dev.entryWritten_maps i.val data
  have hloaded : x.shadow = shLoaded := (hbut.get (f := F.grmShadowState) (by decide)).trans hshadow
  obtain ⟨hreply, hwords, -⟩ := Dev.write_okay hw hop
  obtain ⟨hsh, hact⟩ := Dev.write_okay_maps hw hop
  have hentries := hsh.trans (honly.shadowMap.trans hmap)
  refine ⟨{ s with dev := s.dev.write m.val (0x1000_0000 + 4 * i.val) (Dev.tableEffect (0x1000_0000 + 4 * i.val) fun d => d.shadowWrite i.val data) },
    rfl, hreply, ?_, fun j hj => ?_, (Dev.get_of_words hwords F.grmShadowState).trans hloaded, hact.trans (honly.activeMap.trans hactive), rfl, rfl⟩
  · rw [hentries]
    exact Store.get_set_same _ _ _ _
  · rw [hentries]
    exact Store.get_set_other _ _ _ hj

end

/-! The selectors -/

theorem putF_getF (w : W32) (lo len : Nat) : putF w lo len (getF w lo len) = w := by
  have hhigh : w.toNat / 2 ^ lo / 2 ^ len = w.toNat / 2 ^ (lo + len) := by rw [Nat.div_div_eq_div_mul, pow_add]
  have hnum : w.toNat % 2 ^ lo + w.toNat / 2 ^ lo % 2 ^ len * 2 ^ lo + w.toNat / 2 ^ (lo + len) * 2 ^ (lo + len) = w.toNat := by
    have h1 := Nat.div_add_mod w.toNat (2 ^ lo)
    have h2 := Nat.div_add_mod (w.toNat / 2 ^ lo) (2 ^ len)
    rw [hhigh] at h2
    calc w.toNat % 2 ^ lo + w.toNat / 2 ^ lo % 2 ^ len * 2 ^ lo + w.toNat / 2 ^ (lo + len) * 2 ^ (lo + len)
        = 2 ^ lo * (2 ^ len * (w.toNat / 2 ^ (lo + len)) + w.toNat / 2 ^ lo % 2 ^ len) + w.toNat % 2 ^ lo := by rw [pow_add]; ring
      _ = w.toNat := by rw [h2, h1]
  rw [putF, getF, Nat.mod_mod, hnum]
  exact BitVec.ofNat_toNat _ _

section
variable {d : Dev} {i w : Nat} {data : W32}

/-- A field of a word that nobody has written keeps the word when its own value is put. -/
theorem Dev.word_put_own {e : Dev} {f : Field} (h : e.word f.off = d.word f.off) : (e.put f (d.get f)).word f.off = d.word f.off := by
  rw [Dev.word_put, if_pos rfl, Dev.get, h]
  exact putF_getF _ _ _

theorem Dev.writeSelector_legs (h : w < 2) : d.writeSelector i w data
    = if d.selInUse i then (d, .slverr) else okay (d.regWrite (selAddr i w) data) := if_pos h

/-- Whether the Protection unit owns the selector, before the write or after it. -/
abbrev Dev.selKept (d e : Dev) (i : Nat) : Prop := d.selOwner i ≠ 0 ∨ e.get (F.selOwner.at 16 i) ≠ 0

/-- The selector's `SEL` is as it was where the unit owns it. -/
def Dev.selWritten (d e : Dev) (i : Nat) : Dev :=
  e.when (d.selOwner i != 0 || e.get (F.selOwner.at 16 i) != 0) (fun x => x.put (F.selSel.at 16 i) (d.get (F.selSel.at 16 i)))

theorem Dev.selWritten_kept {e : Dev} (h : d.selKept e i) : d.selWritten e i = e.put (F.selSel.at 16 i) (d.get (F.selSel.at 16 i)) := by
  rw [Dev.selWritten, Dev.when, if_pos]
  rcases h with h | h <;> simp [h]

theorem Dev.selWritten_free {e : Dev} (h : ¬ d.selKept e i) : d.selWritten e i = e := by
  obtain ⟨h1, h2⟩ := not_or.1 h
  rw [Dev.selWritten, Dev.when, if_neg]
  simp only [ne_eq, not_not] at h1 h2
  simp [h1, h2]

/-- A write of the words that hold the owner and the state. -/
theorem Dev.writeSelector_state (h : 2 ≤ w) : ∃ x, d.writeSelector i w data = okay x
    ∧ Dev.Only [.selRestart] (d.selWritten (d.regWrite (selAddr i w) data) i) x := by
  unfold Dev.writeSelector
  extract_lets a d1 owned d2 changed
  have hd2 : d2 = d.selWritten (d.regWrite (selAddr i w) data) i := rfl
  rw [if_neg (Nat.not_lt.2 h), ← hd2]
  clear_value d2 changed
  refine ⟨_, rfl, ?_⟩
  split
  · exact .part .selRestart (by decide) fun _ _ hp => hp d2 _
  · exact .refl _ d2

theorem F.selSel_off (i : Nat) : (F.selSel.at 16 i).off = selAddr i 2 := by
  simp only [Field.at, F.selSel, selAddr]
  omega

/-- Beside the word that is written, a kept `SEL` leaves its word as it was. -/
theorem Dev.wordsBut_selWritten {e : Dev} (he : Dev.WordsBut [selAddr i w] d e) : Dev.WordsBut [selAddr i w] d (d.selWritten e i) := by
  by_cases hkept : d.selKept e i
  · rw [Dev.selWritten_kept hkept]
    intro b hb
    by_cases hsel : b = (F.selSel.at 16 i).off
    · subst hsel
      exact Dev.word_put_own (he _ hb)
    · rw [Dev.word_put_other _ _ hsel]
      exact he b hb
  · rwa [Dev.selWritten_free hkept]

/-- What a write that is taken leaves. -/
theorem Dev.writeSelector_okay (h : 2 ≤ w ∨ d.selInUse i = false) : ∃ x, d.writeSelector i w data = okay x ∧ Dev.Only [.words, .selRestart] d x
    ∧ Dev.WordsBut [selAddr i w] d x
    ∧ x.word (selAddr i w) = if 2 ≤ w ∧ d.selKept (d.regWrite (selAddr i w) data) i then
        ((d.regWrite (selAddr i w) data).put (F.selSel.at 16 i) (d.get (F.selSel.at 16 i))).word (selAddr i w)
      else (d.regWrite (selAddr i w) data).word (selAddr i w) := by
  obtain ⟨hframe, hbut⟩ := d.regWrite_wordsOnly (selAddr i w) data
  generalize hreg : d.regWrite (selAddr i w) data = e at hframe hbut
  have honly : Dev.Only [.words] d e := hframe ▸ .part .words (by decide) fun _ _ hp => hp d _
  by_cases hw : 2 ≤ w
  · obtain ⟨x, hx, hrest⟩ := Dev.writeSelector_state (d := d) (i := i) (data := data) hw
    rw [hreg] at hrest
    have hwritten : Dev.Only [.words] d (d.selWritten e i) := honly.trans (.whenStep _ fun y => y.only_put _ _)
    refine ⟨x, hx, (hwritten.mono (by decide)).trans (hrest.mono (by decide)), (Dev.wordsBut_selWritten hbut).of_words hrest.words, ?_⟩
    have hword : x.word (selAddr i w) = (d.selWritten e i).word (selAddr i w) := by
      rw [Dev.word, hrest.words, ← Dev.word]
    rw [hword]
    by_cases hkept : d.selKept e i
    · rw [if_pos ⟨hw, hkept⟩, Dev.selWritten_kept hkept]
    · rw [if_neg fun hboth => hkept hboth.2, Dev.selWritten_free hkept]
  · refine ⟨e, ?_, honly.mono (by decide), hbut, (if_neg fun hboth => hw hboth.1).symm⟩
    rw [Dev.writeSelector_legs (Nat.lt_of_not_le hw), h.resolve_left hw, hreg]
    rfl

end

/-- Settles O39, by the swap at its edge, the window shut and open, and the words of a selector. -/
theorem swapAndWindows : Obligations.SwapAndWindows := by
  unfold Obligations.SwapAndWindows
  intro s
  refine ⟨fun hdue => ?_, fun hdue => ?_, fun m i data hw => ⟨fun hshut => ?_, fun hopen => window_open hw hopen⟩, fun m i w data hw => ⟨?_, ?_⟩⟩
  · have hexec : exec .swap s = .next { s with dev := s.dev.when s.dev.swapDue Dev.swapMaps } := rfl
    rw [State.when_true s hdue] at hexec
    obtain ⟨hactive, hother, hshadow, hserial, hseq, hvalid, hdone, hframe⟩ := s.dev.swapMaps_shows
    exact ⟨_, hexec, hactive, hother, hshadow, hserial, hseq, hvalid, hdone, congrArg (fun e => ({ s with dev := e } : State)) hframe⟩
  · have hexec : exec .swap s = .next { s with dev := s.dev.when s.dev.swapDue Dev.swapMaps } := rfl
    rw [State.when_false s hdue] at hexec
    exact ⟨_, hexec, rfl⟩
  · exact ⟨_, rfl, answered_refusedTable hw (s.dev.shadowWrite_shut i.val data hshut)⟩
  · intro hleg huse
    refine ⟨_, rfl, answered_refusedTable hw ?_⟩
    rw [Dev.writeSelector_legs hleg, if_pos huse]
  · intro hfree hintact
    obtain ⟨x, hx, honly, hbut, hword⟩ := Dev.writeSelector_okay (d := s.dev) (data := data) hfree
    have hop := Dev.tableEffect_intact (op := fun d => d.writeSelector i.val w.val data) hx hintact
    obtain ⟨hreply, hwords, -⟩ := Dev.write_okay hw hop
    obtain ⟨hsh, hact⟩ := Dev.write_okay_maps hw hop
    refine ⟨{ s with dev := s.dev.write m.val (selAddr i w) (Dev.tableEffect (selAddr i w) fun d => d.writeSelector i.val w.val data) }, rfl,
      ⟨hreply, hbut.of_words hwords, rfl, rfl⟩, ?_, hact.trans honly.activeMap, hsh.trans honly.shadowMap⟩
    rw [Dev.word, hwords, ← Dev.word]
    exact hword

end Sys2Proof.Machine

/-! A write of a context word (R333 to R335, R376). -/

namespace Sys2Proof.Machine

set_option Elab.async false -- a proof at a time, within the memory of a check

/-! A refused write of a Flow Engine table -/

section
variable (d : Dev) (table reason index : Nat)

/-- What a refusal shows. -/
def Dev.flwRefused : Dev := (((d.raise F.flwEvtErr).put F.flwErrTable table).put F.flwErrReason reason).put F.flwErrIndex index

theorem Dev.flwRefuse_eq : d.flwRefuse table reason index = (d.flwRefused table reason index, .slverr) := rfl

theorem Dev.flwRefused_shows (htable : table < 4) (hreason : reason < 16) (hindex : index < 2 ^ 17) :
    Dev.WordsOnly [Reg.flwErr, Reg.flwEvt] d (d.flwRefused table reason index) ∧ (d.flwRefused table reason index).on F.flwEvtErr = true
      ∧ (d.flwRefused table reason index).get F.flwErrTable = table ∧ (d.flwRefused table reason index).get F.flwErrReason = reason
      ∧ (d.flwRefused table reason index).get F.flwErrIndex = index := by
  have honly : Dev.Only [.words] d (d.flwRefused table reason index) :=
    (((d.only_raise _).step (Dev.only_put _ _ _)).step (Dev.only_put _ _ _)).step (Dev.only_put _ _ _)
  have hbut : Dev.WordsBut [Reg.flwErr, Reg.flwEvt] d (d.flwRefused table reason index) :=
    ((((Dev.WordsBut.refl _ d).raise (f := F.flwEvtErr) (.tail _ (.head _))).put (f := F.flwErrTable) (.head _) table).put
      (f := F.flwErrReason) (.head _) reason).put (f := F.flwErrIndex) (.head _) index
  have herr : Dev.WordsBut [Reg.flwErr] (d.raise F.flwEvtErr) (d.flwRefused table reason index) :=
    (((Dev.WordsBut.refl _ _).put (f := F.flwErrTable) (.head _) table).put (f := F.flwErrReason) (.head _) reason).put
      (f := F.flwErrIndex) (.head _) index
  refine ⟨honly.wordsOnly hbut, (herr.on (f := F.flwEvtErr) (by decide)).trans (d.on_raise F.flwEvtErr (by decide) (by decide)), ?_, ?_, ?_⟩
  · rw [Dev.flwRefused, Dev.get_put_apart _ _ (by decide), Dev.get_put_apart _ _ (by decide), Dev.get_put_same _ _ _ (by decide)]
    exact Nat.mod_eq_of_lt htable
  · rw [Dev.flwRefused, Dev.get_put_apart _ _ (by decide), Dev.get_put_same _ _ _ (by decide)]
    exact Nat.mod_eq_of_lt hreason
  · rw [Dev.flwRefused, Dev.get_put_same _ _ _ (by decide)]
    exact Nat.mod_eq_of_lt hindex

end

theorem Dev.tableEffect_slverr {d e : Dev} {a : Nat} {op : Dev → Dev × Resp} (h : op d = (e, .slverr)) : Dev.tableEffect a op d = (e, .slverr) := by
  rw [Dev.tableEffect, h]
  rfl

/-- What a statement says of a table write that is refused. -/
theorem refusedTable_shows {s : State} {m a : Nat} {op : Dev → Dev × Resp} (h : s.mayWrite m a) {table reason index : Nat}
    (hop : op s.dev = s.dev.flwRefuse table reason index) (htable : table < 4) (hreason : reason < 16) (hindex : index < 2 ^ 17) :
    AnsweredWords m .slverr [Reg.flwErr, Reg.flwEvt] s { s with dev := s.dev.writeTable m a op }
      ∧ (s.dev.writeTable m a op).on F.flwEvtErr = true ∧ (s.dev.writeTable m a op).get F.flwErrTable = table
      ∧ (s.dev.writeTable m a op).get F.flwErrReason = reason ∧ (s.dev.writeTable m a op).get F.flwErrIndex = index := by
  obtain ⟨honly, hevt, htab, hwhy, hidx⟩ := s.dev.flwRefused_shows table reason index htable hreason hindex
  rw [Dev.flwRefuse_eq] at hop
  have heff := Dev.tableEffect_slverr (a := a) hop
  rw [Dev.writeTable_eq]
  have hwords := Dev.write_ok_words (op := Dev.tableEffect a op) h
  rw [heff] at hwords
  exact ⟨answeredWords_write h heff honly, (((Dev.WordsBut.refl [] _).of_words hwords).on List.not_mem_nil).trans hevt,
    (Dev.get_of_words hwords _).trans htab, (Dev.get_of_words hwords _).trans hwhy, (Dev.get_of_words hwords _).trans hidx⟩

/-- What a statement says of a table write that is taken, of an intact word. -/
theorem intactTable_shows {s : State} {m a : Nat} {op : Dev → Dev × Resp} (h : s.mayWrite m a) {e : Dev} {l : List Nat} (hop : op s.dev = okay e)
    (hp : s.dev.poisoned a = false) (he : Dev.WordsOnly l s.dev e) :
    AnsweredWords m .okay l s { s with dev := s.dev.writeTable m a op } ∧ (s.dev.writeTable m a op).words = e.words := by
  have heff := Dev.tableEffect_intact hop hp
  rw [Dev.writeTable_eq]
  exact ⟨answeredWords_write h heff he, (Dev.write_okay h heff).2.1⟩

/-! A context that is disabled (R335) -/

section
variable (d : Dev) (f : Nat)

theorem Dev.only_setFlow (q : FlowQ) : Dev.Only [.flows] d (d.setFlow f q) := .part .flows (by decide) fun _ _ hp => hp d _

theorem Part.blind_flows (x : Part) (h : x ≠ .flows) : x.Blind Dev.flows := by
  cases x
  case flows => exact absurd rfl h
  all_goals exact fun _ _ => rfl

theorem Dev.Only.flows {S : List Part} {d e : Dev} (h : Dev.Only S d e) (hS : Part.flows ∉ S := by decide) : e.flows = d.flows :=
  h _ Dev.flows fun x hx => x.blind_flows fun hxe => hS (hxe ▸ hx)

theorem Dev.flow_setFlow (q : FlowQ) (j : Nat) : (d.setFlow f q).flow j = if j = f then q else d.flow j := Store.get_set _ _ _ _ _

/-- The drops of one half. -/
theorem Dev.only_dropCount (f2l : Bool) (n : Nat) : Dev.Only [.words, .acc] d (d.dropCount f f2l n) := by
  have hroll : Dev.Only [.words, .acc] d (d.when (n != 0) fun e => e.roll ((if f2l then F.ctxStF2lDrops else F.ctxStL2fDrops).at 16 f) n) :=
    .whenStep _ fun e => (e.only_roll _ n).mono (by decide)
  refine hroll.trans ((Dev.only_count _ ?_ f n).mono (by decide))
  cases f2l
  · exact (by decide : bwObject 3 2 = none)
  · exact (by decide : bwObject 3 5 = none)

/-- The word of the drops of a half. -/
abbrev dropField (f2l : Bool) (f : Nat) : Field := (if f2l then F.ctxStF2lDrops else F.ctxStL2fDrops).at 16 f

theorem Dev.wordsBut_dropCount (f2l : Bool) (n : Nat) : Dev.WordsBut [(dropField f2l f).off] d (d.dropCount f f2l n) :=
  (Dev.when_of (P := fun x => Dev.WordsBut [(dropField f2l f).off] d x) _ (.refl _ d) ((Dev.WordsBut.refl _ d).roll (.head _) n)).of_words
    (Dev.count_words _ _ _ _ _)

theorem Dev.get_dropCount (f2l : Bool) (n : Nat) : (d.dropCount f f2l n).get (dropField f2l f) = (d.get (dropField f2l f) + n) % 2 ^ 32 := by
  have hlen : (dropField f2l f).lo + (dropField f2l f).len ≤ 32 := by cases f2l <;> exact Nat.le_refl 32
  have hfull : (dropField f2l f).len = 32 := by cases f2l <;> rfl
  have hcount := Dev.get_of_words (Dev.count_words (d.when (n != 0) fun e => e.roll (dropField f2l f) n) 3 f (if f2l then 5 else 2) n) (dropField f2l f)
  refine hcount.trans ?_
  by_cases hn : n = 0
  · subst hn
    rw [Dev.when, if_neg (by decide), Nat.add_zero]
    exact (Nat.mod_eq_of_lt (hfull ▸ d.get_lt (dropField f2l f))).symm
  · rw [Dev.when, if_pos (by simp [hn]), Dev.get_roll_same _ hlen, hfull]

theorem Dev.only_dropUnsent (n : Nat) : Dev.Only [.words, .lanes] d (Dev.dropUnsent f d n) := by
  unfold Dev.dropUnsent
  extract_lets t begun ended own later packets gone
  exact .whenStep _ fun e => ((e.only_setTu _ _).mono (by decide)).step (Dev.only_roll _ _ _)

theorem Dev.wordsBut_dropUnsent (n : Nat) : Dev.WordsBut [F.flwDropNoctxCount.off] d (Dev.dropUnsent f d n) := by
  unfold Dev.dropUnsent
  extract_lets t begun ended own later packets gone
  exact Dev.when_of _ (.refl _ d) (((Dev.WordsBut.refl _ d).of_words (d.only_setTu _ _).words).roll (.head _) gone)

/-- The words that show the fills. -/
abbrev fillWords : List Nat := [(F.ctxStL2f.at 16 f).off, (F.ctxStF2l.at 16 f).off]

theorem Dev.wordsBut_showFill : Dev.WordsBut (fillWords f) d (d.showFill f) :=
  ((Dev.WordsBut.refl _ d).put (f := F.ctxStL2f.at 16 f) (.head _) _).put (f := F.ctxStF2l.at 16 f) (.tail _ (.head _)) _

theorem Dev.only_showFill : Dev.Only [.words] d (d.showFill f) := (d.only_put _ _).step (Dev.only_put _ _ _)

/-- Both halves are emptied, their drops counted. -/
def Dev.halvesDropped : Dev := ((d.setFlow f {}).dropCount f false (d.flow f).l2f.length).dropCount f true (d.flow f).f2l.length

/-- The packers' packets of the flow go. -/
def Dev.packersDropped (l : List Nat) : Dev := l.foldl (Dev.dropUnsent f) d

theorem Dev.emptyContext_eq : d.emptyContext f = ((d.halvesDropped f).packersDropped f (d.lanes.map fun x => x.1)).showFill f := rfl

theorem Dev.only_packersDropped (l : List Nat) : Dev.Only [.words, .lanes] d (d.packersDropped f l) := .foldl l fun e n _ => e.only_dropUnsent f n

theorem Dev.wordsBut_packersDropped (l : List Nat) : Dev.WordsBut [F.flwDropNoctxCount.off] d (d.packersDropped f l) :=
  List.foldlRecOn l _ (Dev.WordsBut.refl _ d) fun e he n _ => he.trans (e.wordsBut_dropUnsent f n)

theorem Dev.drops_apart (h : f < 65536) : (dropField false f).off ∉ [(dropField true f).off]
    ∧ (∀ b, (dropField b f).off ∉ F.flwDropNoctxCount.off :: fillWords f) := by
  refine ⟨?_, fun b => ?_⟩
  · simp [dropField, Field.at, F.ctxStF2lDrops, F.ctxStL2fDrops]
  · cases b <;>
      · simp only [dropField, Field.at, F.ctxStF2lDrops, F.ctxStL2fDrops, F.flwDropNoctxCount, F.ctxStL2f, F.ctxStF2l, List.mem_cons,
          List.not_mem_nil, or_false, not_or, if_true, Bool.false_eq_true, if_false]
        omega

theorem Dev.emptyContext_shows (hf : f < 65536) : Dev.Only [.words, .acc, .lanes, .flows] d (d.emptyContext f)
    ∧ (∀ j, (d.emptyContext f).flow j = if j = f then {} else d.flow j)
    ∧ Dev.WordsBut ((dropField false f).off :: (dropField true f).off :: F.flwDropNoctxCount.off :: fillWords f) d (d.emptyContext f)
    ∧ (d.emptyContext f).get (dropField false f) = (d.get (dropField false f) + (d.flow f).l2f.length) % 2 ^ 32
    ∧ (d.emptyContext f).get (dropField true f) = (d.get (dropField true f) + (d.flow f).f2l.length) % 2 ^ 32 := by
  obtain ⟨x, hx⟩ : ∃ x, x = d.setFlow f {} := ⟨_, rfl⟩
  obtain ⟨y, hy⟩ : ∃ y, y = x.dropCount f false (d.flow f).l2f.length := ⟨_, rfl⟩
  obtain ⟨z, hz⟩ : ∃ z, z = y.dropCount f true (d.flow f).f2l.length := ⟨_, rfl⟩
  obtain ⟨v, hv⟩ : ∃ v, v = z.packersDropped f (d.lanes.map fun x => x.1) := ⟨_, rfl⟩
  have hall : d.emptyContext f = v.showFill f := by
    rw [Dev.emptyContext_eq, Dev.halvesDropped, ← hx, ← hy, ← hz, ← hv]
  have hox : Dev.Only [.flows] d x := hx ▸ d.only_setFlow f {}
  have hoy : Dev.Only [.words, .acc] x y := hy ▸ x.only_dropCount f false _
  have hoz : Dev.Only [.words, .acc] y z := hz ▸ y.only_dropCount f true _
  have hov : Dev.Only [.words, .lanes] z v := hv ▸ z.only_packersDropped f _
  have hby : Dev.WordsBut [(dropField false f).off] x y := hy ▸ x.wordsBut_dropCount f false _
  have hbz : Dev.WordsBut [(dropField true f).off] y z := hz ▸ y.wordsBut_dropCount f true _
  have hbv : Dev.WordsBut [F.flwDropNoctxCount.off] z v := hv ▸ z.wordsBut_packersDropped f _
  have hlast : Dev.WordsBut (F.flwDropNoctxCount.off :: fillWords f) z (v.showFill f) :=
    (hbv.mono (List.cons_subset_cons _ (List.nil_subset _))).trans ((v.wordsBut_showFill f).mono (List.subset_cons_self _ _))
  have hafter : Dev.Only [.words, .acc, .lanes] x (v.showFill f) :=
    (((hoy.trans hoz).mono (by decide)).trans (hov.mono (by decide))).trans ((v.only_showFill f).mono (by decide))
  obtain ⟨hhalves, hfree⟩ := Dev.drops_apart f hf
  rw [hall]
  refine ⟨(hox.mono (by decide)).trans (hafter.mono (by decide)), fun j => ?_, ?_, ?_, ?_⟩
  · rw [Dev.flow, hafter.flows, ← Dev.flow, hx]
    exact d.flow_setFlow f {} j
  · have hset : Dev.WordsBut [] d x := (Dev.WordsBut.refl [] d).of_words hox.words
    refine (((hset.mono (List.nil_subset _)).trans (hby.mono ?_)).trans (hbz.mono ?_)).trans (hlast.mono ?_)
    · exact List.cons_subset_cons _ (List.nil_subset _)
    · exact List.Subset.trans (List.cons_subset_cons _ (List.nil_subset _)) (List.subset_cons_self _ _)
    · exact List.Subset.trans (List.subset_cons_self _ _) (List.subset_cons_self _ _)
  · rw [hlast.get (hfree false), hbz.get hhalves, hy, Dev.get_dropCount, Dev.get_of_words hox.words]
  · have hother : y.get (dropField true f) = d.get (dropField true f) := by
      rw [hby.get fun hin => hhalves (List.mem_singleton.2 (List.mem_singleton.1 hin).symm), Dev.get_of_words hox.words]
    rw [hlast.get (hfree true), hz, Dev.get_dropCount, hother]

/-! The write -/

variable {w : Nat} {data : W32}

theorem Dev.writeContext_retired (h : d.sliceRetired f = true) : d.writeContext f w data = (d, .slverr) := if_pos h

/-- The word after the write. -/
abbrev Dev.ctxNew (d : Dev) (f w : Nat) (data : W32) : W32 := (d.regWrite (ctxAddr f w) data).word (ctxAddr f w)

theorem Dev.writeContext_fixed (h : d.sliceRetired f = false) (hwas : d.on (F.ctxEn.at 16 f) = true)
    (hfixed : (d.word (ctxAddr f w) ^^^ d.ctxNew f w data) &&& ctxFixed w ≠ 0) : d.writeContext f w data = d.flwRefuse tblContext errInUse f := by
  unfold Dev.writeContext
  extract_lets a old new was e
  rw [if_neg (by rw [h]; decide), if_pos ⟨hwas, hfixed⟩]

theorem Dev.writeContext_refused (h : d.sliceRetired f = false) (hwas : d.on (F.ctxEn.at 16 f) = false) (hnew : getF (d.ctxNew f 0 data) 0 1 = 1)
    (herr : d.ctxEnableError f (d.ctxNew f 0 data) (d.word (ctxAddr f 1)) (d.word (ctxAddr f 2)) ≠ 0) :
    d.writeContext f 0 data = d.flwRefuse tblContext (d.ctxEnableError f (d.ctxNew f 0 data) (d.word (ctxAddr f 1)) (d.word (ctxAddr f 2))) f := by
  unfold Dev.writeContext
  extract_lets a old new was e
  have he : e = d.ctxEnableError f (d.ctxNew f 0 data) (d.word (ctxAddr f 1)) (d.word (ctxAddr f 2)) := if_pos ⟨rfl, congrArg not hwas, hnew⟩
  have hno : ¬ (was = true ∧ (old ^^^ new) &&& ctxFixed 0 ≠ 0) := fun hboth => Bool.false_ne_true (hwas.symm.trans hboth.1)
  rw [if_neg (by rw [h]; decide), if_neg hno, if_pos (by rw [he]; exact herr), he]

theorem Dev.writeContext_okay (h : d.sliceRetired f = false)
    (hfixed : d.on (F.ctxEn.at 16 f) = true → (d.word (ctxAddr f w) ^^^ d.ctxNew f w data) &&& ctxFixed w = 0)
    (herr : d.on (F.ctxEn.at 16 f) = false → w = 0 → getF (d.ctxNew f w data) 0 1 = 1 →
      d.ctxEnableError f (d.ctxNew f w data) (d.word (ctxAddr f 1)) (d.word (ctxAddr f 2)) = 0) :
    d.writeContext f w data = okay ((d.setWord (ctxAddr f w) (d.ctxNew f w data)).when
      (w == 0 && d.on (F.ctxEn.at 16 f) && getF (d.ctxNew f w data) 0 1 == 0) (fun x => x.emptyContext f)) := by
  unfold Dev.writeContext
  extract_lets a old new was e
  have he : e = 0 := by
    by_cases hc : w = 0 ∧ (!was) = true ∧ getF new 0 1 = 1
    · obtain ⟨hw, hwas, hone⟩ := hc
      exact (if_pos ⟨hw, hwas, hone⟩).trans (herr (by simpa using hwas) hw hone)
    · exact if_neg hc
  have hno : ¬ (was = true ∧ (old ^^^ new) &&& ctxFixed w ≠ 0) := fun hboth => hboth.2 (hfixed hboth.1)
  rw [if_neg (by rw [h]; decide), if_neg hno, if_neg (by rw [he]; decide)]

/-- The reasons of a refusal. -/
theorem Dev.ctxEnableError_lt (w0 w1 w2 : W32) : d.ctxEnableError f w0 w1 w2 < 16 := by
  unfold Dev.ctxEnableError
  extract_lets base size g others
  split
  · decide
  · split
    · decide
    · split <;> decide

end

/-- A disabled context's word and drops, with what the read of a poisoned word shows. -/
theorem ctxWords_apart {f : Nat} (hf : f < 65536) :
    ctxAddr f 0 ∉ (dropField false f).off :: (dropField true f).off :: F.flwDropNoctxCount.off :: fillWords f ∧ ctxAddr f 0 ∉ sramWords
      ∧ (∀ b, (dropField b f).off ∉ sramWords) ∧ ∀ b, (dropField b f).off ≠ ctxAddr f 0 := by
  refine ⟨?_, ?_, fun b => ?_, fun b => ?_⟩
  · simp only [dropField, Field.at, F.ctxStF2lDrops, F.ctxStL2fDrops, F.flwDropNoctxCount, F.ctxStL2f, F.ctxStF2l, List.mem_cons, ctxAddr,
      List.not_mem_nil, or_false, not_or, if_true, Bool.false_eq_true, if_false]
    omega
  · have hlow : ∀ a ∈ sramWords, 0x1_0000_0000 ≤ a ∨ a < 0x1A00_0000 := by decide
    intro hin
    rcases hlow _ hin with h | h <;> simp only [ctxAddr] at h <;> omega
  · have hlow : ∀ a ∈ sramWords, 0x1_0000_0000 ≤ a ∨ a < 0x1A00_0000 := by decide
    intro hin
    cases b <;> rcases hlow _ hin with h | h <;>
      simp only [dropField, Field.at, F.ctxStF2lDrops, F.ctxStL2fDrops, if_true, Bool.false_eq_true, if_false] at h <;> omega
  · cases b <;> simp only [dropField, Field.at, F.ctxStF2lDrops, F.ctxStL2fDrops, ctxAddr, if_true, Bool.false_eq_true, if_false] <;> omega

/-- A context that is disabled. -/
theorem context_disabled {m : Master} {f : FlowId} {data : W32} {s : State} (hw : s.mayWrite m.val (ctxAddr f 0))
    (hret : s.dev.sliceRetired f = false) (hwas : s.dev.on (F.ctxEn.at 16 f) = true)
    (hfixed : (s.dev.word (ctxAddr f 0) ^^^ s.dev.ctxNew f 0 data) &&& ctxFixed 0 = 0) (hoff : getF (s.dev.ctxNew f 0 data) 0 1 = 0) :
    ∃ t, exec (.flowContextWrite m f 0 data) s = .next t ∧ (t.dev.replyTo m.val).resp = .okay
      ∧ t.dev.word (ctxAddr f 0) = s.dev.ctxNew f 0 data ∧ t.dev.flow f = {}
      ∧ t.dev.get (F.ctxStL2fDrops.at 16 f) = (s.dev.get (F.ctxStL2fDrops.at 16 f) + (s.dev.flow f).l2f.length) % 2 ^ 32
      ∧ t.dev.get (F.ctxStF2lDrops.at 16 f) = (s.dev.get (F.ctxStF2lDrops.at 16 f) + (s.dev.flow f).f2l.length) % 2 ^ 32
      ∧ (∀ j, j ≠ f.val → t.dev.flow j = s.dev.flow j) ∧ t.mem = s.mem ∧ t.flash = s.flash := by
  obtain ⟨x, hx⟩ : ∃ x, x = s.dev.setWord (ctxAddr f 0) (s.dev.ctxNew f 0 data) := ⟨_, rfl⟩
  have hok : s.dev.writeContext f 0 data = okay (x.emptyContext f) := by
    rw [Dev.writeContext_okay _ _ hret (fun _ => hfixed) (fun h => absurd (hwas.symm.trans h) (by decide)), hwas, hoff, ← hx]
    rfl
  obtain ⟨y, heff, hseen, hsw⟩ := Dev.tableEffect_okay (op := fun d => d.writeContext f 0 data) (a := ctxAddr f 0) hok
  obtain ⟨hempty, hflow, hbut, hl2f, hf2l⟩ := x.emptyContext_shows f f.isLt
  have hset : Dev.Only [.words] s.dev x := hx ▸ s.dev.only_setWord _ _
  obtain ⟨haddr, hsram, hdrops, hne⟩ := ctxWords_apart f.isLt
  have hxw : x.word (ctxAddr f 0) = s.dev.ctxNew f 0 data := hx ▸ Dev.word_setWord_same _ _ _
  have hxget (b : Bool) : x.get (dropField b f) = s.dev.get (dropField b f) := by
    rw [Dev.get, hx, Dev.word_setWord_other _ _ (hne b), ← Dev.get]
  obtain ⟨hframe, -⟩ := Dev.write_ok (op := Dev.tableEffect (ctxAddr f 0) fun d => d.writeContext f 0 data) hw
  rw [heff] at hframe
  obtain ⟨hreply, hwords, -⟩ := Dev.write_okay hw heff
  have hflows : (s.dev.write m.val (ctxAddr f 0) (Dev.tableEffect (ctxAddr f 0) fun d => d.writeContext f 0 data)).flows = (x.emptyContext f).flows :=
    ((congrArg Dev.flows hframe).trans rfl).trans hseen.flows
  have hflow' (j : Nat) : (s.dev.write m.val (ctxAddr f 0) (Dev.tableEffect (ctxAddr f 0) fun d => d.writeContext f 0 data)).flow j
      = if j = f.val then {} else s.dev.flow j := by
    rw [Dev.flow, hflows, ← Dev.flow, hflow, Dev.flow, hset.flows, ← Dev.flow]
  have hfx : x.flow f = s.dev.flow f := by rw [Dev.flow, hset.flows, ← Dev.flow]
  rw [hfx, hxget] at hl2f hf2l
  refine ⟨{ s with dev := s.dev.write m.val (ctxAddr f 0) (Dev.tableEffect (ctxAddr f 0) fun d => d.writeContext f 0 data) }, rfl, hreply,
    ?_, (hflow' f).trans (if_pos rfl), ?_, ?_, fun j hj => (hflow' j).trans (if_neg hj), rfl, rfl⟩
  · rw [Dev.word, hwords, ← Dev.word, hsw _ hsram, hbut _ haddr, hxw]
  · exact (Dev.get_of_words hwords (dropField false f)).trans ((hsw.get (hdrops false)).trans hl2f)
  · exact (Dev.get_of_words hwords (dropField true f)).trans ((hsw.get (hdrops true)).trans hf2l)

/-- Settles O32, by whether the slice is retired, the context enabled, and the entry may be enabled. -/
theorem contextWrite : Obligations.ContextWrite := by
  unfold Obligations.ContextWrite
  intro m f w data s hw new was fixed error
  refine ⟨fun hret => ⟨_, rfl, answered_refusedTable hw (s.dev.writeContext_retired f hret)⟩, fun hret => ⟨?_, ?_, ?_⟩⟩
  · intro reason hcase
    have hidx : f.val < 2 ^ 17 := f.isLt.trans (by decide)
    rcases hcase with ⟨hwas, hfixed, rfl⟩ | ⟨hwas, hw0, hnew, herr, rfl⟩
    · exact ⟨_, rfl, refusedTable_shows hw (s.dev.writeContext_fixed f hret hwas hfixed) (by decide) (by decide) hidx⟩
    · obtain rfl : w = 0 := Fin.ext hw0
      exact ⟨_, rfl, refusedTable_shows hw (s.dev.writeContext_refused f hret hwas hnew herr) (by decide) (s.dev.ctxEnableError_lt _ _ _ _) hidx⟩
  · intro hwas herr hintact
    have hok := Dev.writeContext_okay s.dev f (w := w.val) (data := data) hret (fun h => absurd (hwas.symm.trans h) (by decide)) (fun _ hw0 => herr hw0)
    rw [show s.dev.on (F.ctxEn.at 16 f) = false from hwas, Bool.and_false, Bool.false_and, Dev.when, if_neg Bool.false_ne_true] at hok
    obtain ⟨hans, hwords⟩ := intactTable_shows (op := fun d => d.writeContext f.val w.val data) hw hok hintact ((Dev.WordsOnly.refl _ s.dev).setWord (.head _) _)
    refine ⟨_, rfl, hans, ?_⟩
    rw [Dev.word, hwords, ← Dev.word]
    exact Dev.word_setWord_same _ _ _
  · intro hwas hw0 hfixed hoff
    obtain rfl : w = 0 := Fin.ext hw0
    exact context_disabled hw hret hwas hfixed hoff

end Sys2Proof.Machine

/-! The other tables of the Flow Engine (R337, R348, R349, R368). -/

namespace Sys2Proof.Machine

set_option Elab.async false -- a proof at a time, within the memory of a check

/-! Groups -/

section
variable (d : Dev) (g w : Nat) (data : W32)

/-- The word after the write. -/
abbrev Dev.tableNew (d : Dev) (a : Nat) (data : W32) : W32 := (d.regWrite a data).word a

theorem Dev.writeGroup_inUse (h : (d.word (grpAddr g 0) ^^^ d.tableNew (grpAddr g 0) data) &&& 0x3F ≠ 0)
    (hused : d.enabledMembers.any (fun i => d.memGroup i == g) = true) : d.writeGroup g 0 data = d.flwRefuse tblGroup errInUse g := by
  unfold Dev.writeGroup
  extract_lets a old new mtype
  rw [if_pos ⟨rfl, h, hused⟩]

theorem Dev.writeGroup_okay (h : w = 0 → ((d.word (grpAddr g w) ^^^ d.tableNew (grpAddr g w) data) &&& 0x3F = 0
      ∨ d.enabledMembers.any (fun i => d.memGroup i == g) = false) ∧ getF (d.tableNew (grpAddr g w) data) 3 3 ≤ 3) :
    d.writeGroup g w data = okay (d.setWord (grpAddr g w) (d.tableNew (grpAddr g w) data)) := by
  unfold Dev.writeGroup
  extract_lets a old new mtype
  have hused : ¬ (w = 0 ∧ (old ^^^ new) &&& 0x3F ≠ 0 ∧ d.enabledMembers.any (fun i => d.memGroup i == g) = true) := by
    rintro ⟨hw, hshape, hany⟩
    exact (h hw).1.elim hshape fun hno => Bool.false_ne_true (hno.symm.trans hany)
  have hmode : ¬ (w = 0 ∧ (mtype = 7 ∨ (4 ≤ mtype ∧ getF new 0 2 = modeVcat))) := by
    rintro ⟨hw, hm⟩
    have hlow : mtype ≤ 3 := (h hw).2
    rcases hm with hm | ⟨hm, -⟩ <;> omega
  rw [if_neg hused, if_neg hmode]

end

/-! Members -/

section
variable (d : Dev) (i w : Nat) (data : W32)

theorem Dev.writeMember_inUse (hwas : d.on (F.memEn.at 8 i) = true)
    (h : (d.word (memAddr i w) ^^^ d.tableNew (memAddr i w) data) &&& ~~~(if w = 0 then 1#32 else 0x100_0000#32) ≠ 0) :
    d.writeMember i w data = d.flwRefuse tblMember errInUse i := by
  unfold Dev.writeMember
  extract_lets a old new was free starts e
  rw [if_pos ⟨hwas, h⟩]

/-- A write to a member that is off, where it starts nothing or may start. -/
theorem Dev.writeMember_okay (hwas : d.on (F.memEn.at 8 i) = false) {starts : Bool}
    (hstarts : (w == 0 && getF (d.tableNew (memAddr i w) data) 0 1 == 1) = starts)
    (herr : starts = true → d.memEnableError i (d.tableNew (memAddr i w) data) (d.word (memAddr i 1)) = 0) :
    d.writeMember i w data = okay ((d.setWord (memAddr i w) (d.tableNew (memAddr i w) data)).when starts (fun x => x.startMember i)) := by
  unfold Dev.writeMember
  extract_lets a old new was free st e
  have hw : was = false := hwas
  have hst : st = starts := by
    rw [← hstarts]
    change (w == 0 && !was && getF new 0 1 == 1) = _
    rw [hw, Bool.not_false, Bool.and_true]
  have he : e = 0 := by
    cases hs : starts with
    | true => exact (if_pos (hst.trans hs)).trans (herr hs)
    | false => exact if_neg (by rw [hst, hs]; exact Bool.false_ne_true)
  rw [if_neg fun hboth => Bool.false_ne_true (hw.symm.trans hboth.1), if_neg (by rw [he]; decide), hst, hw, Bool.and_false, Bool.false_and]
  rfl

/-- The word that shows the state of a member. -/
abbrev memStAddr (i : Nat) : Nat := 0x1A50_0000 + 8 * i

/-- A field beside the one that is written, in the entry of a table. -/
theorem Dev.get_at_put_apart {e : Dev} {f g : Field} {n k v : Nat}
    (h : f.lo + f.len ≤ 32 ∧ g.lo + g.len ≤ 32 ∧ (g.lo + g.len ≤ f.lo ∨ f.lo + f.len ≤ g.lo)) :
    (e.put (f.at n k) v).get (g.at n k) = e.get (g.at n k) := e.get_put_apart v (.inr h)

/-- A change of an LCAS member's state shows its event. -/
theorem Dev.wordsBut_lcasMoved (was : Nat) : Dev.WordsBut [Reg.flwEvt] d (d.lcasMoved i was) :=
  Dev.when_of (P := fun x => Dev.WordsBut [Reg.flwEvt] d x) _ (.refl _ d)
    (((Dev.WordsBut.refl _ d).raise (f := F.flwEvtLcasChg) (.head _)).of_words (Dev.count_words _ _ _ _ _))

/-- The state, the control word and the SQ are put into the member's word. -/
theorem Dev.setSource_shows (hi : i < 131072) (st sq : Nat) (hst : st < 8) :
    Dev.WordsBut [memStAddr i, Reg.flwEvt] d (d.setSource i st sq) ∧ (d.setSource i st sq).memState i = st
      ∧ (d.setSource i st sq).get (F.memStSq.at 8 i) = sq % 2 ^ 8 := by
  obtain ⟨x, hx⟩ : ∃ x, x = ((d.put (F.memStState.at 8 i) st).put (F.memStCtrl.at 8 i) (ctrlOf st)).put (F.memStSq.at 8 i) sq := ⟨_, rfl⟩
  have hbx : Dev.WordsBut [memStAddr i, Reg.flwEvt] d x := hx ▸ (((Dev.WordsBut.refl _ d).put (f := F.memStState.at 8 i) (.head _) st).put
    (f := F.memStCtrl.at 8 i) (.head _) (ctrlOf st)).put (f := F.memStSq.at 8 i) (.head _) sq
  have hstate : x.memState i = st := by
    rw [Dev.memState, hx, Dev.get_at_put_apart (f := F.memStSq) (by decide), Dev.get_at_put_apart (f := F.memStCtrl) (by decide),
      Dev.get_put_same _ (F.memStState.at 8 i) _ (show F.memStState.lo + F.memStState.len ≤ 32 by decide)]
    exact Nat.mod_eq_of_lt hst
  have hsq : x.get (F.memStSq.at 8 i) = sq % 2 ^ 8 := by
    rw [hx, Dev.get_put_same _ (F.memStSq.at 8 i) _ (show F.memStSq.lo + F.memStSq.len ≤ 32 by decide)]
    rfl
  have hnote (e : Dev) (b : Bool) : (e.when b fun y => y.note 5 i).words = e.words := (Dev.Only.whenStep b fun y => y.only_note 5 i).words
  have hlast : Dev.WordsBut [Reg.flwEvt] x (d.setSource i st sq) := by
    rw [Dev.setSource, ← hx]
    exact (x.wordsBut_lcasMoved i _).of_words (hnote _ _)
  have hoff : (F.memStState.at 8 i).off ∉ [Reg.flwEvt] := by
    simp only [Field.at, F.memStState, Reg.flwEvt, List.mem_singleton]
    omega
  exact ⟨hbx.trans (hlast.mono (List.subset_cons_self _ _)), (hlast.get (f := F.memStState.at 8 i) hoff).trans hstate,
    (hlast.get (f := F.memStSq.at 8 i) hoff).trans hsq⟩

/-- A source member of a group without LCAS starts. -/
theorem Dev.startMember_source (hi : i < 131072) (hsink : d.memSink i = false) (hlcas : d.grpLcas (d.memGroup i) = false) :
    Dev.WordsBut [memStAddr i, Reg.flwEvt, (F.grpStSrcUse.at 64 (d.memGroup i)).off] d (d.startMember i) ∧ (d.startMember i).memState i = stFixed
      ∧ (d.startMember i).get (F.memStSq.at 8 i) = d.get (F.mem1Sq.at 8 i) := by
  obtain ⟨x, hx⟩ : ∃ x, x = (d.setMember i {}).setWord (memStAddr i) 0 := ⟨_, rfl⟩
  obtain ⟨y, hy⟩ : ∃ y, y = x.setSource i stFixed (d.get (F.mem1Sq.at 8 i)) := ⟨_, rfl⟩
  have hbx : Dev.WordsBut [memStAddr i, Reg.flwEvt] d x := by
    intro b hb
    rw [hx, Dev.word_setWord_other _ _ (List.ne_of_not_mem_cons hb), Dev.setMember_word]
  obtain ⟨hby, hstate, hsq⟩ := x.setSource_shows i hi stFixed (d.get (F.mem1Sq.at 8 i)) (by decide)
  rw [← hy] at hby hstate hsq
  have hlast : Dev.WordsBut [(F.grpStSrcUse.at 64 (d.memGroup i)).off] y (d.startMember i) := by
    unfold Dev.startMember
    extract_lets g x'
    have hx' : x' = x := hx.symm
    rw [hsink, if_neg Bool.false_ne_true, hlcas, if_neg Bool.false_ne_true, hx', ← hy]
    exact ((Dev.WordsBut.refl _ y).of_words (y.setMember_words i _)).put (.head _) _
  have hg : d.memGroup i < 2 ^ 14 := d.get_lt (F.mem1Group.at 8 i)
  have hoff : (F.memStState.at 8 i).off ∉ [(F.grpStSrcUse.at 64 (d.memGroup i)).off] := by
    simp only [Field.at, F.memStState, F.grpStSrcUse, List.mem_singleton]
    omega
  refine ⟨((hbx.trans hby).mono ?_).trans (hlast.mono ?_), (hlast.get (f := F.memStState.at 8 i) hoff).trans hstate,
    ((hlast.get (f := F.memStSq.at 8 i) hoff).trans hsq).trans (Nat.mod_eq_of_lt (d.get_lt (F.mem1Sq.at 8 i)))⟩
  · exact List.cons_subset_cons _ (List.cons_subset_cons _ (List.nil_subset _))
  · exact List.Subset.trans (List.subset_cons_self _ _) (List.subset_cons_self _ _)

end

section
variable {m : Master} {s : State} {i : MemberId} {data : W32} (hw : s.mayWrite m.val (memAddr i 0))

/-- A member's own words are apart from those of its state and of the SRAM's errors. -/
theorem memWords_apart {i g : Nat} (hi : i < 131072) (hg : g < 2 ^ 14) :
    memAddr i 0 ∉ [memStAddr i, Reg.flwEvt, (F.grpStSrcUse.at 64 g).off] ∧ memAddr i 0 ∉ sramWords ∧ memStAddr i ∉ sramWords := by
  have hsram : ∀ a ∈ sramWords, 0x1_0000_0000 ≤ a := by decide
  refine ⟨?_, fun hin => ?_, fun hin => ?_⟩
  · simp only [Field.at, F.grpStSrcUse, memAddr, memStAddr, Reg.flwEvt, List.mem_cons, List.not_mem_nil, or_false, not_or]
    omega
  · have := hsram _ hin
    simp only [memAddr] at this
    omega
  · have := hsram _ hin
    simp only [memStAddr] at this
    omega

include hw in
/-- A source member of a group without LCAS is enabled. -/
theorem member_enabled (hwas : s.dev.on (F.memEn.at 8 i) = false) (hone : getF (s.dev.tableNew (memAddr i 0) data) 0 1 = 1)
    (hsource : getF (s.dev.tableNew (memAddr i 0) data) 1 1 = 0)
    (herr : s.dev.memEnableError i (s.dev.tableNew (memAddr i 0) data) (s.dev.word (memAddr i 1)) = 0)
    (hlcas : s.dev.grpLcas (s.dev.memGroup i) = false) :
    ∃ t, exec (.memberConfigWrite m i 0 data) s = .next t ∧ (t.dev.replyTo m.val).resp = .okay
      ∧ t.dev.word (memAddr i 0) = s.dev.tableNew (memAddr i 0) data ∧ t.dev.memState i = stFixed
      ∧ t.dev.get (F.memStSq.at 8 i) = s.dev.get (F.mem1Sq.at 8 i) ∧ t.mem = s.mem ∧ t.flash = s.flash := by
  obtain ⟨x, hx⟩ : ∃ x, x = s.dev.setWord (memAddr i 0) (s.dev.tableNew (memAddr i 0) data) := ⟨_, rfl⟩
  have hok : s.dev.writeMember i 0 data = okay (x.startMember i) := by
    rw [Dev.writeMember_okay s.dev i 0 data hwas (starts := true) (by rw [hone]; rfl) (fun _ => herr), ← hx]
    rfl
  have hi : i.val < 131072 := i.isLt
  have hg : s.dev.memGroup i < 2 ^ 14 := s.dev.get_lt (F.mem1Group.at 8 i)
  have hbx : Dev.WordsBut [memAddr i 0] s.dev x := hx ▸ (Dev.WordsBut.refl _ s.dev).setWord (.head _) _
  have hxw : x.word (memAddr i 0) = s.dev.tableNew (memAddr i 0) data := hx ▸ Dev.word_setWord_same _ _ _
  have hgroup : x.memGroup i = s.dev.memGroup i := hbx.get (f := F.mem1Group.at 8 i) (by
    simp only [Field.at, F.mem1Group, memAddr, List.mem_singleton]
    omega)
  have hsq : x.get (F.mem1Sq.at 8 i) = s.dev.get (F.mem1Sq.at 8 i) := hbx.get (f := F.mem1Sq.at 8 i) (by
    simp only [Field.at, F.mem1Sq, memAddr, List.mem_singleton]
    omega)
  have hgrp (f : Field) (hf : f.off = 0x1A20_0000) : (f.at 32 (s.dev.memGroup i)).off ∉ [memAddr i 0] := by
    simp only [Field.at, hf, memAddr, List.mem_singleton]
    omega
  have hfree : x.grpLcas (x.memGroup i) = false := by
    rw [hgroup, Dev.grpLcas, Dev.grpMode, hbx.get (f := F.grpMode.at 32 (s.dev.memGroup i)) (hgrp F.grpMode rfl),
      hbx.on (f := F.grpLcas.at 32 (s.dev.memGroup i)) (hgrp F.grpLcas rfl)]
    exact hlcas
  have hsink : x.memSink i = false := by
    have hdir : x.get (F.memDir.at 8 i) = getF (x.word (memAddr i 0)) 1 1 := by
      rw [Dev.get]
      rfl
    rw [Dev.memSink, Dev.on, hdir, hxw, hsource]
    rfl
  obtain ⟨hbut, hstate, hshow⟩ := x.startMember_source i hi hsink hfree
  rw [hgroup] at hbut
  obtain ⟨y, heff, -, hsw⟩ := Dev.tableEffect_okay (op := fun d => d.writeMember i 0 data) (a := memAddr i 0) hok
  obtain ⟨hreply, hwords, -⟩ := Dev.write_okay hw heff
  obtain ⟨hown, hsram, hst⟩ := memWords_apart hi hg
  refine ⟨{ s with dev := s.dev.write m.val (memAddr i 0) (Dev.tableEffect (memAddr i 0) fun d => d.writeMember i 0 data) }, rfl, hreply,
    ?_, ?_, ?_, rfl, rfl⟩
  · rw [Dev.word, hwords, ← Dev.word, hsw _ hsram, hbut _ hown, hxw]
  · exact (Dev.get_of_words hwords _).trans ((hsw.get (f := F.memStState.at 8 i) hst).trans hstate)
  · exact (Dev.get_of_words hwords _).trans ((hsw.get (f := F.memStSq.at 8 i) hst).trans (hshow.trans hsq))

end

/-! Structures and shares -/

section
variable (d : Dev) (p g : Nat) (data : W32)

/-- The structure words of flow port `p` after the write. -/
abbrev Dev.fpStrAfter : List W32 := (d.structWords (96 + p)).set g (d.tableNew (fpStrAddr p g) data)

theorem Dev.writeFpStr_refused (hret : d.on ⟨Reg.flwFportRet, p, 1⟩ = false)
    (h : ∃ i ∈ d.enabledMembers, d.get (F.memFport.at 8 i) = p ∧ d.unitOf (d.structWords (96 + p)) i ≠ d.unitOf (d.fpStrAfter p g data) i) :
    d.writeFpStr p g data = d.flwRefuse tblStructure errStruct (64 * p + g) := by
  obtain ⟨i, hmem, hport, hne⟩ := h
  unfold Dev.writeFpStr
  extract_lets a ws new after named
  have hany : named.any (fun i => d.unitOf ws i != d.unitOf after i) = true :=
    List.any_eq_true.2 ⟨i, List.mem_filter.2 ⟨hmem, beq_iff_eq.2 hport⟩, bne_iff_ne.2 hne⟩
  rw [if_neg (by rw [hret]; exact Bool.false_ne_true), if_pos hany]

theorem Dev.writeFpStr_okay (hret : d.on ⟨Reg.flwFportRet, p, 1⟩ = false)
    (h : ∀ i ∈ d.enabledMembers, d.get (F.memFport.at 8 i) = p → d.unitOf (d.structWords (96 + p)) i = d.unitOf (d.fpStrAfter p g data) i)
    (hidle : ¬ (d.shadow = shChecking ∨ d.shadow = shChecked ∨ d.shadow = shArmed)) (ha : fpStrAddr p g < 0x1_0000_0000) :
    d.writeFpStr p g data = okay (d.setWord (fpStrAddr p g) (d.tableNew (fpStrAddr p g) data)) := by
  unfold Dev.writeFpStr
  extract_lets a ws new after named
  have hany : ¬ named.any (fun i => d.unitOf ws i != d.unitOf after i) = true := by
    intro hany
    obtain ⟨i, hin, hne⟩ := List.any_eq_true.1 hany
    obtain ⟨hmem, hport⟩ := List.mem_filter.1 hin
    exact bne_iff_ne.1 hne (h i hmem (beq_iff_eq.1 hport))
  have hshadow : (d.setWord a new).shadow = d.shadow :=
    ((Dev.WordsBut.refl [a] d).setWord (.head _) new).get (f := F.grmShadowState) fun hin => by
      have heq : F.grmShadowState.off = fpStrAddr p g := List.mem_singleton.1 hin
      simp only [F.grmShadowState] at heq
      omega
  rw [if_neg (by rw [hret]; exact Bool.false_ne_true), if_neg hany, Dev.structureChange, hshadow, if_neg hidle]

end

section
variable {m : Master} {s : State} {n : PortLane} {high : Bool} {data : W32}

/-- The sum of the shares after the write. -/
abbrev Dev.shareSum (d : Dev) (a : Nat) (data : W32) : Nat := d.get F.psqShareSumSum + Dev.sumBytes data - Dev.sumBytes (d.word a)

theorem shareWrite_refused (hw : s.mayWrite m.val (Reg.psqShare + 8 * n.val + (if high then 4 else 0)))
    (h : 2294 < s.dev.shareSum (Reg.psqShare + 8 * n.val + (if high then 4 else 0)) data) :
    ∃ t, exec (.shareWrite m n high data) s = .next t ∧ AnsweredWords m.val .slverr [] s t :=
  ⟨_, rfl, answeredWords_write (op := fun d => d.writeShare n.val high data) hw (if_pos h) ⟨rfl, .refl [] _⟩⟩

theorem shareWrite_taken (hw : s.mayWrite m.val (Reg.psqShare + 8 * n.val + (if high then 4 else 0)))
    (h : s.dev.shareSum (Reg.psqShare + 8 * n.val + (if high then 4 else 0)) data ≤ 2294) :
    ∃ t, exec (.shareWrite m n high data) s = .next t
      ∧ AnsweredWords m.val .okay [Reg.psqShare + 8 * n.val + (if high then 4 else 0), Reg.psqShareSum] s t
      ∧ t.dev.word (Reg.psqShare + 8 * n.val + (if high then 4 else 0)) = data
      ∧ t.dev.get F.psqShareSumSum = s.dev.shareSum (Reg.psqShare + 8 * n.val + (if high then 4 else 0)) data := by
  obtain ⟨a, ha⟩ : ∃ a, a = Reg.psqShare + 8 * n.val + (if high then 4 else 0) := ⟨_, rfl⟩
  have hok : s.dev.writeShare n.val high data = okay ((s.dev.setWord a data).put F.psqShareSumSum (s.dev.shareSum a data)) := by
    rw [ha]
    exact if_neg (Nat.not_lt.2 h)
  rw [← ha] at hw h ⊢
  have hbut := ((Dev.WordsOnly.refl [a, Reg.psqShareSum] s.dev).setWord (.head _) data).put (f := F.psqShareSumSum) (.tail _ (.head _)) (s.dev.shareSum a data)
  have hne : a ≠ F.psqShareSumSum.off := by
    rw [ha]
    simp only [Reg.psqShare, F.psqShareSumSum]
    omega
  have hans := answeredWords_write (op := fun d => d.writeShare n.val high data) hw hok hbut
  obtain ⟨-, hwords, -⟩ := Dev.write_okay (op := fun d => d.writeShare n.val high data) hw hok
  have hexec : exec (.shareWrite m n high data) s = .next { s with dev := s.dev.write m.val a (fun d => d.writeShare n.val high data) } := by
    rw [ha]
    rfl
  refine ⟨_, hexec, hans, ?_, ?_⟩
  · rw [Dev.word, hwords, ← Dev.word, Dev.word_put_other _ _ hne, Dev.word_setWord_same]
  · rw [Dev.get_of_words hwords, Dev.get_put_same _ _ _ (by decide)]
    exact Nat.mod_eq_of_lt (Nat.lt_of_le_of_lt h (by decide))

end

/-- Settles O33, by the table: groups, members, the flow ports' structures and the shares. -/
theorem flowTables : Obligations.FlowTables := by
  unfold Obligations.FlowTables
  intro m s
  refine ⟨fun g w data hw => ⟨?_, ?_⟩, fun i w data hw => ⟨?_, ?_, ?_⟩, fun p g data hw hret => ⟨?_, ?_⟩, fun n high data => ?_⟩
  · intro hw0 hshape hused
    obtain rfl : w = 0 := Fin.ext hw0
    exact ⟨_, rfl, refusedTable_shows (op := fun d => d.writeGroup g 0 data) hw (s.dev.writeGroup_inUse g data hshape hused) (by decide) (by decide)
      (g.isLt.trans (by decide))⟩
  · intro hfree hintact
    obtain ⟨hans, hwords⟩ := intactTable_shows (op := fun d => d.writeGroup g w data) hw (s.dev.writeGroup_okay g w data hfree) hintact
      ((Dev.WordsOnly.refl _ s.dev).setWord (.head _) _)
    refine ⟨_, rfl, hans, ?_⟩
    rw [Dev.word, hwords, ← Dev.word]
    exact Dev.word_setWord_same _ _ _
  · intro hwas hfixed
    exact ⟨_, rfl, refusedTable_shows (op := fun d => d.writeMember i w data) hw (s.dev.writeMember_inUse i w data hwas hfixed) (by decide) (by decide)
      i.isLt⟩
  · intro hwas hoff hintact
    have hstarts : (w.val == 0 && getF (s.dev.tableNew (memAddr i w) data) 0 1 == 1) = false := by
      by_cases hw0 : w.val = 0
      · rw [hoff hw0, hw0]
        rfl
      · rw [beq_eq_false_iff_ne.2 hw0, Bool.false_and]
    obtain ⟨hans, hwords⟩ := intactTable_shows (op := fun d => d.writeMember i w data) hw
      (s.dev.writeMember_okay i w data hwas hstarts fun h => absurd h Bool.false_ne_true) hintact ((Dev.WordsOnly.refl _ s.dev).setWord (.head _) _)
    refine ⟨_, rfl, hans, ?_⟩
    rw [Dev.word, hwords, ← Dev.word]
    exact Dev.word_setWord_same _ _ _
  · intro hwas hw0 hone hsource herr hlcas
    obtain rfl : w = 0 := Fin.ext hw0
    exact member_enabled hw hwas hone hsource herr hlcas
  · intro hnamed
    exact ⟨_, rfl, refusedTable_shows (op := fun d => d.writeFpStr p g data) hw (s.dev.writeFpStr_refused p g data hret hnamed) (by decide) (by decide)
      (by omega)⟩
  · intro hnamed hchecking hchecked harmed hintact
    have haddr : fpStrAddr p g < 0x1_0000_0000 := by
      simp only [fpStrAddr]
      omega
    have hidle : ¬ (s.dev.shadow = shChecking ∨ s.dev.shadow = shChecked ∨ s.dev.shadow = shArmed) := by
      rintro (h | h | h)
      · exact hchecking h
      · exact hchecked h
      · exact harmed h
    obtain ⟨hans, hwords⟩ := intactTable_shows (op := fun d => d.writeFpStr p g data) hw (s.dev.writeFpStr_okay p g data hret hnamed hidle haddr) hintact
      ((Dev.WordsOnly.refl _ s.dev).setWord (.head _) _)
    refine ⟨_, rfl, hans, ?_⟩
    rw [Dev.word, hwords, ← Dev.word]
    exact Dev.word_setWord_same _ _ _
  · intro a sum hw
    exact ⟨shareWrite_refused hw, shareWrite_taken hw⟩

end Sys2Proof.Machine

/-! Commands to protection groups and selectors (R435, R437). -/

namespace Sys2Proof.Machine

set_option Elab.async false -- a proof at a time, within the memory of a check

theorem Part.blind_msp (x : Part) (h : x ≠ .msp) : x.Blind Dev.msp := by
  cases x
  case msp => exact absurd rfl h
  all_goals exact fun _ _ => rfl

theorem Part.blind_snc (x : Part) (h : x ≠ .snc) : x.Blind Dev.snc := by
  cases x
  case snc => exact absurd rfl h
  all_goals exact fun _ _ => rfl

theorem Dev.Only.msp {S : List Part} {d e : Dev} (h : Dev.Only S d e) (hS : Part.msp ∉ S := by decide) : e.msp = d.msp :=
  h _ Dev.msp fun x hx => x.blind_msp fun hxe => hS (hxe ▸ hx)

theorem Dev.Only.snc {S : List Part} {d e : Dev} (h : Dev.Only S d e) (hS : Part.snc ∉ S := by decide) : e.snc = d.snc :=
  h _ Dev.snc fun x hx => x.blind_snc fun hxe => hS (hxe ▸ hx)

theorem Dev.mspSt_congr {d e : Dev} (h : e.msp = d.msp) (g : Nat) : e.mspSt g = d.mspSt g := by rw [Dev.mspSt, h, ← Dev.mspSt]

theorem Dev.sncSt_congr {d e : Dev} (h : e.snc = d.snc) (i : Nat) : e.sncSt i = d.sncSt i := by rw [Dev.sncSt, h, ← Dev.sncSt]

/-! What PROT.REQ_RES shows -/

section
variable (d : Dev)

/-- The words of a command's result. -/
abbrev judgedWords : List Nat := [F.protReqResResult.off, F.protEvtReqDone.off]

theorem Dev.judged_only (sncp panel : Bool) (target res : Nat) : Dev.Only [.words] d (d.judged sncp panel target res) :=
  ((((d.only_put _ _).step (Dev.only_put _ _ _)).step (Dev.only_put _ _ _)).step (Dev.only_put _ _ _)).step (Dev.only_raise _ _)

theorem Dev.judged_wordsBut (sncp panel : Bool) (target res : Nat) : Dev.WordsBut judgedWords d (d.judged sncp panel target res) :=
  (((((Dev.WordsBut.refl _ d).put (f := F.protReqResResult) (.head _) res).put (f := F.protReqResSrc) (.head _) (bitOf panel)).put
    (f := F.protReqResTarget) (.head _) target).put (f := F.protReqResSncp) (.head _) (bitOf sncp)).raise (f := F.protEvtReqDone) (.tail _ (.head _))

theorem Dev.judged_shows (sncp panel : Bool) {target res : Nat} (htarget : target < 2 ^ 18) (hres : res < 4) :
    (d.judged sncp panel target res).get F.protReqResResult = res ∧ (d.judged sncp panel target res).get F.protReqResTarget = target
      ∧ (d.judged sncp panel target res).on F.protReqResSncp = sncp ∧ (d.judged sncp panel target res).on F.protReqResSrc = panel
      ∧ (d.judged sncp panel target res).on F.protEvtReqDone = true := by
  obtain ⟨x, hx⟩ : ∃ x, x = (d.put F.protReqResResult res).put F.protReqResSrc (bitOf panel) := ⟨_, rfl⟩
  obtain ⟨y, hy⟩ : ∃ y, y = (x.put F.protReqResTarget target).put F.protReqResSncp (bitOf sncp) := ⟨_, rfl⟩
  have hall : d.judged sncp panel target res = y.raise F.protEvtReqDone := by rw [Dev.judged, hy, hx]
  have hlast : Dev.WordsBut [F.protEvtReqDone.off] y (y.raise F.protEvtReqDone) := (Dev.WordsBut.refl _ y).raise (f := F.protEvtReqDone) (.head _)
  have hsrc : x.on F.protReqResSrc = panel := hx ▸ Dev.on_put_bitOf _ F.protReqResSrc panel (by decide) rfl
  rw [hall]
  refine ⟨(hlast.get (f := F.protReqResResult) (by decide)).trans ?_, (hlast.get (f := F.protReqResTarget) (by decide)).trans ?_,
    (hlast.on (f := F.protReqResSncp) (by decide)).trans ?_, (hlast.on (f := F.protReqResSrc) (by decide)).trans ?_,
    Dev.on_raise y F.protEvtReqDone (by decide) (by decide)⟩
  · rw [hy, Dev.get_put_apart _ _ (by decide), Dev.get_put_apart _ _ (by decide), hx, Dev.get_put_apart _ _ (by decide),
      Dev.get_put_same _ _ _ (by decide)]
    exact Nat.mod_eq_of_lt hres
  · rw [hy, Dev.get_put_apart _ _ (by decide), Dev.get_put_same _ _ _ (by decide)]
    exact Nat.mod_eq_of_lt htarget
  · rw [hy]
    exact Dev.on_put_bitOf _ F.protReqResSncp sncp (by decide) rfl
  · rw [← hsrc, hy, Dev.on, Dev.get_put_apart _ _ (by decide), Dev.get_put_apart _ _ (by decide)]
    rfl

end

/-! The commands -/

theorem protCmdOf_code (c : ProtCmd) : protCmdOf c.code = some c := by cases c <;> rfl

theorem ProtCmd.code_lt (c : ProtCmd) : c.code < 16 := by cases c <;> decide

/-- The fields of the word that a command is written as. -/
theorem getF_request {c k : Nat} (hc : c < 16) (hk : k < 16) :
    getF (BitVec.ofNat 32 (c + 16 * k)) 0 4 = c ∧ getF (BitVec.ofNat 32 (c + 16 * k)) 4 4 = k ∧ (k < 2 → getF (BitVec.ofNat 32 (c + 16 * k)) 4 1 = k) := by
  have hnum : (BitVec.ofNat 32 (c + 16 * k)).toNat = c + 16 * k := by
    rw [BitVec.toNat_ofNat]
    exact Nat.mod_eq_of_lt (by omega)
  refine ⟨?_, ?_, fun hlt => ?_⟩ <;> (rw [getF, hnum]; omega)

theorem ProtSt.judge_lt (p : ProtSt) (prio : List Nat) (r : Req) (n : Nat) (c : ProtCmd) (ch : Nat) : p.judge prio r n c ch < 4 := by
  unfold ProtSt.judge
  split
  · decide
  · split
    · decide
    · decide
    · split <;> decide

section
variable (d : Dev) (g i : Nat) (c : ProtCmd)

theorem Dev.writeMspReq_code {ch : Nat} (hch : ch < 16) : d.writeMspReq g (BitVec.ofNat 32 (c.code + 16 * ch)) = d.mspCommand false g c ch := by
  obtain ⟨hreq, hchan, -⟩ := getF_request c.code_lt hch
  rw [Dev.writeMspReq, hreq, protCmdOf_code, hchan]

theorem Dev.writeSncReq_code (leg : Bool) : d.writeSncReq (BitVec.ofNat 32 (c.code + 16 * bitOf leg))
    = d.sncCommand false (d.get F.protSncIdxIndex) c leg := by
  have hleg : bitOf leg < 2 := by cases leg <;> decide
  obtain ⟨hreq, -, hbit⟩ := getF_request c.code_lt (k := bitOf leg) (by omega)
  have hone : (bitOf leg == 1) = leg := by cases leg <;> rfl
  rw [Dev.writeSncReq, hreq, protCmdOf_code, hbit hleg, hone]

theorem Dev.mspSt_setMsp (p : ProtSt) (h : Nat) : (d.setMsp g p).mspSt h = if h = g then p else d.mspSt h := Store.get_set _ _ _ _ _

theorem Dev.sncSt_setSnc (p : ProtSt) (j : Nat) : (d.setSnc i p).sncSt j = if j = i then p else d.sncSt j := Store.get_set _ _ _ _ _

/-- A group's command as it is stored. -/
theorem Dev.mspStored (ok : Bool) (p : ProtSt) : ∃ e, e = d.when ok (fun x => (x.setMsp g p).note 4 g) ∧ Dev.Only [.msp, .items] d e
    ∧ (∀ h, e.mspSt h = if h = g ∧ ok = true then p else d.mspSt h) := by
  refine ⟨_, rfl, .whenStep _ fun x => ((x.only_setMsp g p).mono (by decide)).step (Dev.only_note _ 4 g), fun h => ?_⟩
  cases ok with
  | false =>
    rw [if_neg (fun hboth => Bool.false_ne_true hboth.2)]
    rfl
  | true =>
    have hset : ((d.setMsp g p).note 4 g).msp = (d.setMsp g p).msp := (Dev.only_note _ 4 g).msp
    rw [Dev.when, if_pos rfl, Dev.mspSt, hset, ← Dev.mspSt, Dev.mspSt_setMsp]
    simp only [and_true]

/-- A selector's command as it is stored. -/
theorem Dev.sncStored (ok : Bool) (p : ProtSt) (k : Nat) : ∃ e, e = d.when ok (fun x => (x.setSnc i p).note 4 k) ∧ Dev.Only [.snc, .items] d e
    ∧ (∀ j, e.sncSt j = if j = i ∧ ok = true then p else d.sncSt j) := by
  refine ⟨_, rfl, .whenStep _ fun x => ((x.only_setSnc i p).mono (by decide)).step (Dev.only_note _ 4 k), fun j => ?_⟩
  cases ok with
  | false =>
    rw [if_neg (fun hboth => Bool.false_ne_true hboth.2)]
    rfl
  | true =>
    have hset : ((d.setSnc i p).note 4 k).snc = (d.setSnc i p).snc := (Dev.only_note _ 4 k).snc
    rw [Dev.when, if_pos rfl, Dev.sncSt, hset, ← Dev.sncSt, Dev.sncSt_setSnc]
    simp only [and_true]

end

/-- A write that is answered leaves what its effect leaves, but for the answer, the counts of errors, and what the mate is told. -/
theorem Dev.write_okay_only {d e : Dev} {m a : Nat} {op : Dev → Dev × Resp} (h : d.grant m a true = .ok) (hop : op d = okay e) :
    Dev.Only [.replies, .fec, .mate] e (d.write m a op) := by
  obtain ⟨hframe, -⟩ := Dev.write_ok (op := op) h
  rw [hop] at hframe
  obtain ⟨x, hx⟩ : ∃ x, x = d.write m a op := ⟨_, rfl⟩
  rw [← hx] at hframe ⊢
  rw [hframe]
  intro α p hp
  exact (hp .mate (by decide) { e with replies := x.replies, fec := x.fec } x.mate).trans
    ((hp .fec (by decide) { e with replies := x.replies } x.fec).trans (hp .replies (by decide) e x.replies))

section
variable {m : Master} {s : State}

/-- What shows of a command's result. -/
abbrev ReqShown (m : Master) (s t : State) (sncp : Bool) (target res : Nat) : Prop :=
  (t.dev.replyTo m.val).resp = .okay ∧ t.dev.get F.protReqResResult = res ∧ t.dev.get F.protReqResTarget = target
    ∧ t.dev.on F.protReqResSncp = sncp ∧ t.dev.on F.protReqResSrc = false ∧ t.dev.on F.protEvtReqDone = true
    ∧ KeepsMemories s t

/-- A command that is judged, once its effect `e` is stored. -/
theorem reqShown_write {a : Nat} {op : Dev → Dev × Resp} {e : Dev} {sncp : Bool} {target res : Nat} (hw : s.mayWrite m.val a)
    (hop : op s.dev = okay (e.judged sncp false target res)) (htarget : target < 2 ^ 18) (hres : res < 4) :
    ReqShown m s { s with dev := s.dev.write m.val a op } sncp target res
      ∧ Dev.Only [.words, .replies, .fec, .mate] e (s.dev.write m.val a op) ∧ Dev.WordsBut judgedWords e (s.dev.write m.val a op) := by
  obtain ⟨hreply, hwords, -⟩ := Dev.write_okay hw hop
  have honly := Dev.write_okay_only hw hop
  obtain ⟨hresult, htgt, hsncp, hsrc, hdone⟩ := e.judged_shows sncp false htarget hres
  have hsame : Dev.WordsBut [] (e.judged sncp false target res) (s.dev.write m.val a op) := (Dev.WordsBut.refl [] _).of_words hwords
  exact ⟨⟨hreply, (hsame.get List.not_mem_nil).trans hresult, (hsame.get List.not_mem_nil).trans htgt, (hsame.on List.not_mem_nil).trans hsncp,
      (hsame.on List.not_mem_nil).trans hsrc, (hsame.on List.not_mem_nil).trans hdone, rfl, rfl⟩,
    ((e.judged_only sncp false target res).mono (by decide)).trans (honly.mono (by decide)),
    (e.judged_wordsBut sncp false target res).of_words hwords⟩

/-- A command to a group. -/
theorem mspCommand_shows {g : MspGroup} {ch : BitVec 4} (hw : s.mayWrite m.val (Reg.protMspReq + 0x40 * g.val)) {c : Instr} {cmd : ProtCmd}
    (hexec : exec c s = .next { s with dev := s.dev.mspReqBy m.val g.val cmd.code ch.toNat }) :
    let p := s.dev.mspSt g
    let res := p.judge (s.dev.mspCfg g).prio (s.dev.remoteReq g) (s.dev.mspN g) cmd ch.toNat
    ∃ t, exec c s = .next t ∧ ReqShown m s t false g res
      ∧ t.dev.mspSt g = (if res = resAccepted then p.store cmd ch.toNat s.dev.now else p)
      ∧ (∀ h, h ≠ g.val → t.dev.mspSt h = s.dev.mspSt h) ∧ t.dev.snc = s.dev.snc
      ∧ Dev.WordsBut judgedWords s.dev t.dev := by
  intro p res
  obtain ⟨e, he, honly, hst⟩ := s.dev.mspStored g.val (res == resAccepted) (p.store cmd ch.toNat s.dev.now)
  have hop : okay (s.dev.writeMspReq g.val (BitVec.ofNat 32 (cmd.code + 16 * ch.toNat))) = okay (e.judged false false g.val res) := by
    rw [s.dev.writeMspReq_code g.val cmd ch.isLt, he]
    rfl
  have hres : res < 4 := ProtSt.judge_lt _ _ _ _ _ _
  have hg : g.val < 2 ^ 18 := g.isLt.trans (by decide)
  obtain ⟨hshown, hwrite, hwords⟩ := reqShown_write (op := fun x => okay (x.writeMspReq g.val (BitVec.ofNat 32 (cmd.code + 16 * ch.toNat)))) hw hop hg hres
  have hbut : Dev.WordsBut judgedWords s.dev e := (Dev.WordsBut.refl _ _).of_words honly.words
  refine ⟨_, hexec, hshown, ?_, fun h hne => ?_, hwrite.snc.trans honly.snc, hbut.trans hwords⟩
  · refine (Dev.mspSt_congr hwrite.msp g.val).trans ((hst g.val).trans ?_)
    by_cases hacc : res = resAccepted
    · rw [if_pos hacc, if_pos ⟨rfl, beq_iff_eq.2 hacc⟩]
    · rw [if_neg hacc, if_neg fun hboth => hacc (beq_iff_eq.1 hboth.2)]
  · exact (Dev.mspSt_congr hwrite.msp h).trans ((hst h).trans (if_neg fun hboth => hne hboth.1))

/-- What becomes of a selector's command. -/
abbrev Dev.sncJudged (d : Dev) (cmd : ProtCmd) (leg : Bool) : Nat :=
  (d.sncSt (d.get F.protSncIdxIndex)).judge [] ⟨rkNr, 0⟩ 1 cmd (if cmd = .lockout then 0 else bitOf leg)

/-- A command to the selector that SNC_IDX names. -/
theorem sncCommand_shows {leg : Bool} (hw : s.mayWrite m.val Reg.protSncReq) {c : Instr} {cmd : ProtCmd} (hcmd : cmd ≠ .exercise)
    (hexec : exec c s = .next { s with dev := s.dev.sncReqBy m.val cmd.code leg }) :
    ∃ t, exec c s = .next t ∧ ReqShown m s t true (s.dev.get F.protSncIdxIndex) (s.dev.sncJudged cmd leg)
      ∧ t.dev.sncSt (s.dev.get F.protSncIdxIndex) = (if s.dev.sncJudged cmd leg = resAccepted
          then (s.dev.sncSt (s.dev.get F.protSncIdxIndex)).store cmd (bitOf leg) s.dev.now else s.dev.sncSt (s.dev.get F.protSncIdxIndex))
      ∧ (∀ j, j ≠ s.dev.get F.protSncIdxIndex → t.dev.sncSt j = s.dev.sncSt j) ∧ t.dev.msp = s.dev.msp
      ∧ Dev.WordsBut judgedWords s.dev t.dev := by
  obtain ⟨i, hi⟩ : ∃ i, i = s.dev.get F.protSncIdxIndex := ⟨_, rfl⟩
  obtain ⟨res, hr⟩ : ∃ res, res = s.dev.sncJudged cmd leg := ⟨_, rfl⟩
  obtain ⟨e, he, honly, hst⟩ := s.dev.sncStored i (res == resAccepted) ((s.dev.sncSt i).store cmd (bitOf leg) s.dev.now) (i + 0x4_0000)
  have hop : okay (s.dev.writeSncReq (BitVec.ofNat 32 (cmd.code + 16 * bitOf leg))) = okay (e.judged true false i res) := by
    rw [s.dev.writeSncReq_code cmd leg, Dev.sncCommand, if_neg hcmd, he, hr, hi]
    rfl
  have hres : res < 4 := hr ▸ ProtSt.judge_lt _ _ _ _ _ _
  have hilt : i < 2 ^ 18 := hi ▸ s.dev.get_lt F.protSncIdxIndex
  rw [← hi, ← hr]
  obtain ⟨hshown, hwrite, hwords⟩ := reqShown_write (op := fun x => okay (x.writeSncReq (BitVec.ofNat 32 (cmd.code + 16 * bitOf leg)))) hw hop hilt hres
  have hbut : Dev.WordsBut judgedWords s.dev e := (Dev.WordsBut.refl _ _).of_words honly.words
  refine ⟨_, hexec, hshown, ?_, fun j hne => ?_, hwrite.msp.trans honly.msp, hbut.trans hwords⟩
  · refine (Dev.sncSt_congr hwrite.snc i).trans ((hst i).trans ?_)
    by_cases hacc : res = resAccepted
    · rw [if_pos hacc, if_pos ⟨rfl, beq_iff_eq.2 hacc⟩]
    · rw [if_neg hacc, if_neg fun hboth => hacc (beq_iff_eq.1 hboth.2)]
  · exact (Dev.sncSt_congr hwrite.snc j).trans ((hst j).trans (if_neg fun hboth => hne hboth.1))

/-- An EXERCISE of a selector looks at its leg B. -/
theorem sncExercise_shows {leg : Bool} (hw : s.mayWrite m.val Reg.protSncReq) :
    ∃ t, exec (.sncExercise m leg) s = .next t ∧ ReqShown m s t true (s.dev.get F.protSncIdxIndex) (s.dev.sncJudged .exercise leg)
      ∧ t.dev.snc = s.dev.snc ∧ t.dev.msp = s.dev.msp
      ∧ (s.dev.sncJudged .exercise leg = resAccepted → t.dev.on (F.sncExerOk.at 4 (s.dev.get F.protSncIdxIndex))
          = (!s.dev.legSf (s.dev.get F.protSncIdxIndex) true && !s.dev.legSd (s.dev.get F.protSncIdxIndex) true)) := by
  obtain ⟨i, hi⟩ : ∃ i, i = s.dev.get F.protSncIdxIndex := ⟨_, rfl⟩
  obtain ⟨res, hr⟩ : ∃ res, res = s.dev.sncJudged .exercise leg := ⟨_, rfl⟩
  obtain ⟨v, hv⟩ : ∃ v, v = (!s.dev.legSf i true && !s.dev.legSd i true) := ⟨_, rfl⟩
  obtain ⟨e, he⟩ : ∃ e, e = s.dev.when (res == resAccepted) (fun x => x.put (F.sncExerOk.at 4 i) (bitOf (!x.legSf i true && !x.legSd i true))) := ⟨_, rfl⟩
  have hop : okay (s.dev.writeSncReq (BitVec.ofNat 32 (5 + 16 * bitOf leg))) = okay (e.judged true false i res) := by
    have hcode := s.dev.writeSncReq_code .exercise leg
    rw [show (5 : Nat) = ProtCmd.exercise.code from rfl, hcode, Dev.sncCommand, if_pos rfl, he, hr, hi]
    rfl
  have honly : Dev.Only [.words] s.dev e := he ▸ .whenStep _ fun x => x.only_put _ _
  have hres : res < 4 := hr ▸ ProtSt.judge_lt _ _ _ _ _ _
  have hilt : i < 2 ^ 18 := hi ▸ s.dev.get_lt F.protSncIdxIndex
  rw [← hi, ← hr, ← hv]
  obtain ⟨hshown, hwrite, hwords⟩ := reqShown_write (op := fun x => okay (x.writeSncReq (BitVec.ofNat 32 (5 + 16 * bitOf leg)))) hw hop hilt hres
  refine ⟨_, rfl, hshown, hwrite.snc.trans honly.snc, hwrite.msp.trans honly.msp, fun hacc => ?_⟩
  have hoff : (F.sncExerOk.at 4 i).off ∉ judgedWords := by
    simp only [Field.at, F.sncExerOk, judgedWords, F.protReqResResult, F.protEvtReqDone, List.mem_cons, List.not_mem_nil, or_false, not_or]
    omega
  refine (hwords.on (f := F.sncExerOk.at 4 i) hoff).trans ?_
  rw [he, Dev.when, if_pos (beq_iff_eq.2 hacc), ← hv]
  exact Dev.on_put_bitOf _ (F.sncExerOk.at 4 i) v (show 11 < 32 by decide) rfl

end

/-- Settles O42, by the command: to a group, to a selector, and an EXERCISE of a selector. -/
theorem protectionCommands : Obligations.ProtectionCommands := by
  unfold Obligations.ProtectionCommands
  intro m s shown
  refine ⟨fun g ch hw c cmd hcase => mspCommand_shows (ch := ch) (cmd := cmd) hw ?_, fun leg hw => ?_⟩
  · rcases hcase with ⟨rfl, rfl⟩ | ⟨rfl, rfl⟩ | ⟨rfl, rfl⟩ | ⟨rfl, rfl⟩ | ⟨rfl, rfl⟩ <;> rfl
  · intro i p judge
    refine ⟨fun c cmd hcase => ?_, sncExercise_shows hw⟩
    rcases hcase with ⟨rfl, rfl⟩ | ⟨rfl, rfl⟩ | ⟨rfl, rfl⟩ | ⟨rfl, rfl⟩
    · exact sncCommand_shows (cmd := .clear) hw (by decide) rfl
    · exact sncCommand_shows (cmd := .lockout) hw (by decide) rfl
    · exact sncCommand_shows (cmd := .forced) hw (by decide) rfl
    · exact sncCommand_shows (cmd := .manual) hw (by decide) rfl

end Sys2Proof.Machine

/-! What a group or a selector shows and says (R446, R457, R479). -/

namespace Sys2Proof.Machine

set_option Elab.async false -- a proof at a time, within the memory of a check

section
variable (d : Dev)

/-! To the mate -/

theorem Dev.only_mateQueue (l : List MateMsg) : Dev.Only [.mate] d (d.mateQueue l) := by
  unfold Dev.mateQueue
  split
  · exact .refl _ d
  · exact .part .mate (by decide) fun _ _ hp => hp d _

theorem Dev.only_sayApply (target : Nat) (l : List (List Byte)) : Dev.Only [.mate] d (d.sayApply target l) := .foldl _ fun e _ _ => e.only_mateQueue _

theorem Dev.only_applies (l : List (Nat × ProtItem)) : Dev.Only [.applies] d { d with applies := l } := .part .applies (by decide) fun _ _ hp => hp d l

/-- A decided change waits for its edge. -/
theorem Dev.only_protItem (x : ProtItem) : Dev.Only [.mate, .applies] d (d.protItem x) := by
  unfold Dev.protItem
  extract_lets e
  exact ((d.only_applies _).mono (by decide)).trans (.whenStep _ fun y => (y.only_sayApply _ _).mono (by decide))

/-! What a group shows -/

/-- The words of a group's status. -/
abbrev mspWords (g : Nat) : List Nat := [Reg.protMspStat + 0x40 * g, F.protEvtMspChg.off, Reg.protMspChg0, Reg.protMspChg1]

theorem Dev.only_mspChanged (g : Nat) : Dev.Only [.words] d (d.mspChanged g) := (d.only_raise _).step (Dev.only_raise _ _)

theorem Dev.wordsBut_mspChanged (g : Nat) : Dev.WordsBut [F.protEvtMspChg.off, Reg.protMspChg0, Reg.protMspChg1] d (d.mspChanged g) := by
  refine ((Dev.WordsBut.refl _ d).raise (f := F.protEvtMspChg) (.head _)).raise ?_
  by_cases hg : g < 32
  · rw [if_pos hg]
    exact .tail _ (.head _)
  · rw [if_neg hg]
    exact .tail _ (.tail _ (.head _))

/-- The status of a group that is enabled, before what follows from its timers. -/
def Dev.mspStatPut (g : Nat) : Dev :=
  ((((((d.put (grpField F.protMspStatLocalReq g) (reqCode ((d.mspSt g).localReq (d.mspCfg g).prio).rank)).put (grpField F.protMspStatLocalCh g)
      ((d.mspSt g).localReq (d.mspCfg g).prio).ch).put (grpField F.protMspStatRemoteReq g) (d.received g).1).put (grpField F.protMspStatRemoteCh g)
      (d.received g).2).put (grpField F.protMspStatBridged g) (if d.oneToN g then (d.mspSt g).selected else bitOf (d.mspActs g))).put
      (grpField F.protMspStatSelected g) (d.mspSt g).selected).put (grpField F.protMspStatPam g) (bitOf (!(d.mspSt g).pam.isEmpty))

/-- The status of a group, before its event. -/
def Dev.mspShown (g : Nat) : Dev :=
  let d1 := if d.mspOn g then d.mspStatPut g else d.setWord (Reg.protMspStat + 0x40 * g) 0
  d1.setWord (Reg.protMspStat + 0x40 * g) (d1.mspStatWord g)

theorem Dev.mspShow_eq (g : Nat) : d.mspShow g = (d.mspShown g).when
    ((d.mspShown g).word (Reg.protMspStat + 0x40 * g) != d.word (Reg.protMspStat + 0x40 * g)) (fun e => e.mspChanged g) := rfl

theorem Dev.only_mspStatPut (g : Nat) : Dev.Only [.words] d (d.mspStatPut g) :=
  ((((((d.only_put _ _).step (Dev.only_put _ _ _)).step (Dev.only_put _ _ _)).step (Dev.only_put _ _ _)).step (Dev.only_put _ _ _)).step
    (Dev.only_put _ _ _)).step (Dev.only_put _ _ _)

theorem Dev.wordsBut_mspStatPut (g : Nat) : Dev.WordsBut [Reg.protMspStat + 0x40 * g] d (d.mspStatPut g) :=
  (((((((Dev.WordsBut.refl _ d).put (f := grpField F.protMspStatLocalReq g) (.head _) _).put (f := grpField F.protMspStatLocalCh g) (.head _) _).put
    (f := grpField F.protMspStatRemoteReq g) (.head _) _).put (f := grpField F.protMspStatRemoteCh g) (.head _) _).put
    (f := grpField F.protMspStatBridged g) (.head _) _).put (f := grpField F.protMspStatSelected g) (.head _) _).put
    (f := grpField F.protMspStatPam g) (.head _) _

theorem Dev.mspShown_frame (g : Nat) : Dev.Only [.words] d (d.mspShown g) ∧ Dev.WordsBut [Reg.protMspStat + 0x40 * g] d (d.mspShown g) := by
  unfold Dev.mspShown
  extract_lets d1
  have h1 : Dev.Only [.words] d d1 ∧ Dev.WordsBut [Reg.protMspStat + 0x40 * g] d d1 := by
    by_cases hon : d.mspOn g = true
    · have he : d1 = d.mspStatPut g := if_pos hon
      exact he ▸ ⟨d.only_mspStatPut g, d.wordsBut_mspStatPut g⟩
    · have he : d1 = d.setWord (Reg.protMspStat + 0x40 * g) 0 := if_neg hon
      exact he ▸ ⟨d.only_setWord _ _, (Dev.WordsBut.refl _ d).setWord (.head _) 0⟩
  exact ⟨h1.1.step (Dev.only_setWord _ _ _), h1.2.setWord (.head _) _⟩

theorem Dev.only_mspShow (g : Nat) : Dev.Only [.words] d (d.mspShow g) := by
  rw [Dev.mspShow_eq]
  exact (d.mspShown_frame g).1.trans (.whenStep _ fun e => e.only_mspChanged g)

theorem Dev.wordsBut_mspShow (g : Nat) : Dev.WordsBut (mspWords g) d (d.mspShow g) := by
  rw [Dev.mspShow_eq]
  have hshown := (d.mspShown_frame g).2.mono (List.cons_subset_cons _ (List.nil_subset _) : [Reg.protMspStat + 0x40 * g] ⊆ mspWords g)
  exact Dev.when_of _ hshown (hshown.trans ((Dev.wordsBut_mspChanged _ g).mono (List.subset_cons_self _ _)))

/-- A field of the status beside `HOLD`, `WTR_RUN` and `CFG_ERR`. -/
theorem Dev.getF_mspStatWord {g lo len : Nat} (hon : d.mspOn g = true) (h : lo + len ≤ 24 ∨ lo = 26 ∧ len = 1) :
    getF (d.mspStatWord g) lo len = getF (d.word (Reg.protMspStat + 0x40 * g)) lo len := by
  unfold Dev.mspStatWord
  extract_lets p w
  rw [if_pos hon, getF_putF_other _ _ _ _ _ _ (by omega) (by omega) (by omega), getF_putF_other _ _ _ _ _ _ (by omega) (by omega) (by omega),
    getF_putF_other _ _ _ _ _ _ (by omega) (by omega) (by omega)]

/-- What the status of an enabled group shows of its selection and its protocol failures. -/
theorem Dev.mspShow_shows {g : Nat} (hg : g < 48) (hon : d.mspOn g = true) :
    (d.mspShow g).get (grpField F.protMspStatSelected g) = (d.mspSt g).selected % 16
      ∧ (d.mspShow g).on (grpField F.protMspStatPam g) = !(d.mspSt g).pam.isEmpty := by
  obtain ⟨x, hx⟩ : ∃ x, x = d.mspStatPut g := ⟨_, rfl⟩
  have hxon : x.mspOn g = true := by
    rw [Dev.mspOn, hx, (d.wordsBut_mspStatPut g).on (f := grpField F.protMspCfgEn g)]
    · exact hon
    · simp only [grpField, Field.at, F.protMspCfgEn, Reg.protMspStat, List.mem_singleton]
      omega
  have hsel : getF (x.word (Reg.protMspStat + 0x40 * g)) 20 4 = (d.mspSt g).selected % 16 := by
    have h : x.get (grpField F.protMspStatSelected g) = (d.mspSt g).selected % 2 ^ 4 := by
      rw [hx, Dev.mspStatPut]
      exact (Dev.get_at_put_apart (f := F.protMspStatPam) (g := F.protMspStatSelected) (n := 0x40) (k := g) (by decide)).trans
        (Dev.get_put_same _ (grpField F.protMspStatSelected g) _ (show 20 + 4 ≤ 32 by decide))
    exact h
  have hpam : getF (x.word (Reg.protMspStat + 0x40 * g)) 26 1 = bitOf (!(d.mspSt g).pam.isEmpty) := by
    have h : x.get (grpField F.protMspStatPam g) = bitOf (!(d.mspSt g).pam.isEmpty) % 2 ^ 1 := by
      rw [hx, Dev.mspStatPut]
      exact Dev.get_put_same _ (grpField F.protMspStatPam g) _ (show 26 + 1 ≤ 32 by decide)
    refine (show getF (x.word (Reg.protMspStat + 0x40 * g)) 26 1 = _ from h).trans (Nat.mod_eq_of_lt ?_)
    cases (!(d.mspSt g).pam.isEmpty) <;> decide
  have hshown : (d.mspShown g).word (Reg.protMspStat + 0x40 * g) = x.mspStatWord g := by
    rw [Dev.mspShown, if_pos hon, ← hx]
    exact Dev.word_setWord_same _ _ _
  have hword : (d.mspShow g).word (Reg.protMspStat + 0x40 * g) = x.mspStatWord g := by
    rw [Dev.mspShow_eq, ← hshown]
    refine Dev.when_of (P := fun y => y.word (Reg.protMspStat + 0x40 * g) = (d.mspShown g).word (Reg.protMspStat + 0x40 * g)) _ rfl
      (Dev.wordsBut_mspChanged _ g _ ?_)
    simp only [Reg.protMspStat, F.protEvtMspChg, Reg.protMspChg0, Reg.protMspChg1, List.mem_cons, List.not_mem_nil, or_false, not_or]
    omega
  refine ⟨?_, ?_⟩
  · change getF ((d.mspShow g).word (Reg.protMspStat + 0x40 * g)) 20 4 = _
    rw [hword, x.getF_mspStatWord hxon (.inl (by decide)), hsel]
  · change (getF ((d.mspShow g).word (Reg.protMspStat + 0x40 * g)) 26 1 != 0) = _
    rw [hword, x.getF_mspStatWord hxon (.inr ⟨rfl, rfl⟩), hpam]
    cases (!(d.mspSt g).pam.isEmpty) <;> rfl

end

end Sys2Proof.Machine

/-! Decisions of groups and selectors, and their timed events (R437 to R442, R453, R454). -/

namespace Sys2Proof.Machine

set_option Elab.async false -- a proof at a time, within the memory of a check

/-! What a decision keeps -/

section
variable (p : ProtSt) (cfg : ProtCfg) (r w : Req) (resumed now : Nat)

theorem ProtSt.afterFailure_exercise : (p.afterFailure cfg r w now).exercise = p.exercise := by
  unfold ProtSt.afterFailure
  split
  · rfl
  · split
    · split <;> rfl
    · rfl

theorem ProtSt.evaluate_exercise (h : p.exercise = none) : (p.evaluate cfg r resumed now).1.exercise = none := by
  unfold ProtSt.evaluate
  extract_lets p1 w1 p2 w2
  have hdrop : (if w1.rank < rkExercise then none else p1.exercise) = none := by
    split
    · rfl
    · exact h
  exact (ProtSt.afterFailure_exercise _ cfg r w1 now).trans hdrop

/-- No WTR begins where no failure made the switch. -/
theorem ProtSt.afterFailure_wtr (hwtr : p.wtr = none) (hfail : p.fail = none) : (p.afterFailure cfg r w now).wtr = none := by
  unfold ProtSt.afterFailure
  split
  · rfl
  · rw [hfail]
    exact hwtr

theorem ProtSt.evaluate_wtr (hwtr : p.wtr = none) (hfail : p.fail = none) : (p.evaluate cfg r resumed now).1.wtr = none :=
  ProtSt.afterFailure_wtr _ cfg r _ now hwtr hfail

/-- A condition whose hold-off has ended is raised, and what was raised stays. -/
theorem ProtSt.mem_raise {c : Nat} {sf : Bool} {t : Nat} (h : (c, sf, t) ∈ p.onset) (hdue : Nat.max t resumed + cfg.holdoff ≤ now) :
    (c, sf) ∈ (p.raise cfg resumed now).raised := by
  have hd : p.due cfg resumed now (c, sf, t) = true := by
    rw [ProtSt.due, decide_eq_true hdue, Bool.true_or, Bool.true_or, Bool.true_or]
  by_cases hin : (c, sf) ∈ p.raised
  · exact List.mem_append_left _ hin
  · refine List.mem_append_right _ (List.mem_filter.2 ⟨List.mem_map.2 ⟨(c, sf, t), List.mem_filter.2 ⟨h, hd⟩, rfl⟩, ?_⟩)
    simp [hin]

end

/-! A group's decision -/

section
variable (d : Dev) (g : Nat)

/-- What the group sees, and its decision. -/
abbrev Dev.mspSees (d : Dev) (g : Nat) : ProtSt := (d.mspSt g).see (d.mspConds g) d.now

abbrev Dev.mspDecision (d : Dev) (g : Nat) : ProtSt × Nat :=
  (d.mspSees g).evaluate (d.mspCfg g) (d.remoteReq g) d.modes.resumed d.now

theorem Dev.mspSt_setMsp_same (p : ProtSt) : (d.setMsp g p).mspSt g = p := (d.mspSt_setMsp g p g).trans (if_pos rfl)

/-- The group's protocol failures are those that it knew. -/
theorem Dev.remoteReq_seen : (d.setMsp g (d.mspSees g)).remoteReq g = d.remoteReq g := by
  have hpam : ((d.setMsp g (d.mspSees g)).mspSt g).pam = (d.mspSt g).pam := by rw [Dev.mspSt_setMsp_same]; rfl
  rw [Dev.remoteReq, hpam, Dev.remoteReq]
  rfl

/-- A group with its selection and its K bytes. -/
def ProtSt.choosing (p : ProtSt) (sel : Nat) (k : Byte × Byte) : ProtSt := { p with selected := sel, k1 := k.1, k2 := k.2 }

/-- What the group holds once it is decided, where its decisions act. -/
def Dev.mspChosen (d : Dev) (g : Nat) : ProtSt :=
  (d.mspDecision g).1.choosing (d.mspDecision g).2 ((d.setMsp g (d.mspSees g)).kBytes g (d.mspDecision g).1 (d.mspDecision g).2)

theorem ProtSt.choosing_keeps (p : ProtSt) (sel : Nat) (k : Byte × Byte) :
    (p.choosing sel k).selected = sel ∧ (p.choosing sel k).exercise = p.exercise ∧ (p.choosing sel k).wtr = p.wtr := ⟨rfl, rfl, rfl⟩

theorem Dev.mspChosen_keeps : (d.mspChosen g).selected = (d.mspDecision g).2 ∧ (d.mspChosen g).exercise = (d.mspDecision g).1.exercise
    ∧ (d.mspChosen g).wtr = (d.mspDecision g).1.wtr := ProtSt.choosing_keeps _ _ _

def Dev.mspDecided (d : Dev) (g : Nat) : Dev := (d.setMsp g (d.mspSees g)).setMsp g (d.mspChosen g)

/-- What follows of a changed selection. -/
def Dev.mspSwitched (d : Dev) (g was now : Nat) : Dev :=
  d.when (now != was) (fun e => ((e.protItem (.chan g now)).when (e.role == roleActive) (fun x =>
    x.sayApply e.applyTarget ((e.chanItems g was now).map applyEntryBytes))).bump (grpField F.protMspSwcSwitches g) 1)

/-- What follows of changed K bytes. -/
def Dev.mspKSent (d : Dev) (g : Nat) (changed : Bool) (k1 k2 : Byte) : Dev := d.when changed (fun e => e.protItem (.k g k1 k2))

theorem Dev.mspDecide_of_decides (h : d.decides = true) : ∃ was changed k1 k2,
    d.mspDecide g = ((((d.mspDecided g).mspSwitched g was (d.mspDecision g).2).mspKSent g changed k1 k2).mspShow g).note 3 g := by
  unfold Dev.mspDecide
  extract_lets e p r k src d1 d2
  have hp : p = d.mspSees g := d.mspSt_setMsp_same g _
  have hr : r = d.mspDecision g := by
    change p.evaluate (e.mspCfg g) (e.remoteReq g) e.modes.resumed e.now = _
    rw [hp, show e.remoteReq g = d.remoteReq g from d.remoteReq_seen g]
    rfl
  have hd1 : d1 = d.mspDecided g := by
    change e.setMsp g { r.1 with selected := r.2, k1 := (e.kBytes g r.1 r.2).1, k2 := (e.kBytes g r.1 r.2).2 } = _
    rw [hr]
    rfl
  have hno : ¬ (!e.decides) = true := by
    rw [show e.decides = d.decides from rfl, h]
    decide
  rw [if_neg hno]
  refine ⟨p.selected, k != (p.k1, p.k2), k.1, k.2, ?_⟩
  rw [← hd1, ← hr]
  rfl

theorem Dev.mspDecide_of_not (h : d.decides = false) : d.mspDecide g = ((d.setMsp g (d.mspSees g)).setMsp g (d.mspDecision g).1).mspShow g := by
  unfold Dev.mspDecide
  extract_lets e p r k src d1 d2
  have hp : p = d.mspSees g := d.mspSt_setMsp_same g _
  have hr : r = d.mspDecision g := by
    change p.evaluate (e.mspCfg g) (e.remoteReq g) e.modes.resumed e.now = _
    rw [hp, show e.remoteReq g = d.remoteReq g from d.remoteReq_seen g]
    rfl
  have hyes : (!e.decides) = true := by
    rw [show e.decides = d.decides from rfl, h]
    decide
  rw [if_pos hyes, hr]

theorem Dev.only_mspSwitched (was now : Nat) : Dev.Only [.words, .mate, .applies] d (d.mspSwitched g was now) :=
  .whenStep _ fun e => ((((e.only_protItem _).mono (by decide)).trans (.whenStep _ fun x => (x.only_sayApply _ _).mono (by decide)))).step
    (Dev.only_bump _ _ _)

theorem Dev.wordsBut_mspSwitched (was now : Nat) : Dev.WordsBut [(grpField F.protMspSwcSwitches g).off] d (d.mspSwitched g was now) := by
  refine Dev.when_of _ (.refl _ d) (Dev.WordsBut.bump ((Dev.WordsBut.refl _ d).of_words ?_) (.head _) 1)
  exact (((d.only_protItem _).mono (by decide : [.mate, .applies] ⊆ [Part.mate, .applies])).trans
    (.whenStep _ fun x => (x.only_sayApply _ _).mono (by decide))).words

theorem Dev.only_mspKSent (changed : Bool) (k1 k2 : Byte) : Dev.Only [.mate, .applies] d (d.mspKSent g changed k1 k2) :=
  .whenStep _ fun e => e.only_protItem _

theorem Dev.mspSt_of_two (p q : ProtSt) (h : Nat) : ((d.setMsp g p).setMsp g q).mspSt h = if h = g then q else d.mspSt h := by
  rw [Dev.mspSt_setMsp, Dev.mspSt_setMsp]
  split <;> rfl

/-- The group after its decision, whether or not it acts. -/
theorem Dev.mspDecide_st : Dev.Only [.words, .msp, .mate, .applies, .items] d (d.mspDecide g)
    ∧ (∀ h, h ≠ g → (d.mspDecide g).mspSt h = d.mspSt h) ∧ ((d.mspDecide g).mspSt g).exercise = (d.mspDecision g).1.exercise
    ∧ ((d.mspDecide g).mspSt g).wtr = (d.mspDecision g).1.wtr := by
  cases hdec : d.decides with
  | true =>
    obtain ⟨was, changed, k1, k2, heq⟩ := d.mspDecide_of_decides g hdec
    have hset : Dev.Only [.msp] d (d.mspDecided g) := (d.only_setMsp g _).step (Dev.only_setMsp _ g _)
    have hafter : Dev.Only [.words, .mate, .applies, .items] (d.mspDecided g) (d.mspDecide g) := by
      rw [heq]
      exact ((((Dev.only_mspSwitched _ g _ _).mono (by decide)).trans ((Dev.only_mspKSent _ g _ _ _).mono (by decide))).step
        (Dev.only_mspShow _ g)).step (Dev.only_note _ 3 g)
    have hst (h : Nat) := Dev.mspSt_congr hafter.msp h
    have htwo (h : Nat) : (d.mspDecided g).mspSt h = if h = g then d.mspChosen g else d.mspSt h := d.mspSt_of_two g _ _ h
    obtain ⟨-, hex, hwtr⟩ := d.mspChosen_keeps g
    refine ⟨(hset.mono (by decide)).trans (hafter.mono (by decide)), fun h hne => (hst h).trans ((htwo h).trans (if_neg hne)), ?_, ?_⟩
    · rw [hst, htwo, if_pos rfl, hex]
    · rw [hst, htwo, if_pos rfl, hwtr]
  | false =>
    have heq := d.mspDecide_of_not g hdec
    have hset : Dev.Only [.msp] d ((d.setMsp g (d.mspSees g)).setMsp g (d.mspDecision g).1) := (d.only_setMsp g _).step (Dev.only_setMsp _ g _)
    have hafter : Dev.Only [.words] ((d.setMsp g (d.mspSees g)).setMsp g (d.mspDecision g).1) (d.mspDecide g) := heq ▸ Dev.only_mspShow _ g
    have hst (h : Nat) := Dev.mspSt_congr hafter.msp h
    have htwo (h : Nat) := d.mspSt_of_two g (d.mspSees g) (d.mspDecision g).1 h
    refine ⟨(hset.mono (by decide)).trans (hafter.mono (by decide)), fun h hne => (hst h).trans ((htwo h).trans (if_neg hne)), ?_, ?_⟩
    · rw [hst, htwo, if_pos rfl]
    · rw [hst, htwo, if_pos rfl]

/-- The selection of a decision that acts. -/
theorem Dev.mspDecide_selected (hg : g < 48) (hdec : d.decides = true) (hon : d.mspOn g = true) :
    ((d.mspDecide g).mspSt g).selected = (d.mspDecision g).2
      ∧ (d.mspDecide g).get (grpField F.protMspStatSelected g) = (d.mspDecision g).2 % 16 := by
  obtain ⟨was, changed, k1, k2, heq⟩ := d.mspDecide_of_decides g hdec
  obtain ⟨x, hx⟩ : ∃ x, x = (d.mspDecided g).mspSwitched g was (d.mspDecision g).2 := ⟨_, rfl⟩
  obtain ⟨y, hy⟩ : ∃ y, y = x.mspKSent g changed k1 k2 := ⟨_, rfl⟩
  rw [← hx, ← hy] at heq
  have hset : Dev.Only [.msp] d (d.mspDecided g) := (d.only_setMsp g _).step (Dev.only_setMsp _ g _)
  have hox := (d.mspDecided g).only_mspSwitched g was (d.mspDecision g).2
  rw [← hx] at hox
  have hoy : Dev.Only [.mate, .applies] x y := hy ▸ x.only_mspKSent g _ _ _
  have hsel : (y.mspSt g).selected = (d.mspDecision g).2 := by
    have hst := Dev.mspSt_congr (hoy.msp.trans hox.msp) g
    rw [hst, Dev.mspDecided, Dev.mspSt_setMsp_same]
    exact (d.mspChosen_keeps g).1
  have hbut : Dev.WordsBut [(grpField F.protMspSwcSwitches g).off] d y := by
    refine Dev.WordsBut.of_words ?_ hoy.words
    have hswitch := (d.mspDecided g).wordsBut_mspSwitched g was (d.mspDecision g).2
    rw [← hx] at hswitch
    exact ((Dev.WordsBut.refl _ d).of_words hset.words).trans hswitch
  have hony : y.mspOn g = true := by
    rw [Dev.mspOn, hbut.on (f := grpField F.protMspCfgEn g)]
    · exact hon
    · simp only [grpField, Field.at, F.protMspCfgEn, F.protMspSwcSwitches, List.mem_singleton]
      omega
  have hlast : Dev.Only [.words, .items] y ((y.mspShow g).note 3 g) := ((y.only_mspShow g).mono (by decide)).step (Dev.only_note _ 3 g)
  rw [← heq] at hlast
  refine ⟨(congrArg ProtSt.selected (Dev.mspSt_congr hlast.msp g)).trans hsel, ?_⟩
  rw [heq, Dev.get_of_words (Dev.only_note _ 3 g).words, (y.mspShow_shows hg hony).1, hsel]

end

end Sys2Proof.Machine

/-! A selector's decision, and the timed events of both (R437, R439, R441, R453, R454). -/

namespace Sys2Proof.Machine

set_option Elab.async false -- a proof at a time, within the memory of a check

section
variable (d : Dev) (i : Nat)

/-! A selector's decision -/

abbrev Dev.sncSees (d : Dev) (i : Nat) : ProtSt := (d.sncSt i).see (d.sncConds i) d.now

abbrev Dev.sncDecision (d : Dev) (i : Nat) : ProtSt × Nat := (d.sncSees i).evaluate (d.sncCfg i) ⟨rkNr, 0⟩ d.modes.resumed d.now

theorem Dev.sncSt_setSnc_same (p : ProtSt) : (d.setSnc i p).sncSt i = p := (d.sncSt_setSnc i p i).trans (if_pos rfl)

/-- The request that a selector shows, with the event of a MANUAL that was dropped. -/
def Dev.sncShown (dropped : Bool) : Dev :=
  (d.put (sncField F.sncReq i) (reqCode ((d.sncSt i).localReq []).rank)).when dropped (fun x => x.raise F.protEvtSncChg)

/-- What follows of a changed leg. -/
def Dev.sncLegSent (changed leg : Bool) : Dev := d.when changed (fun e => e.protItem (.sel i leg))

theorem Dev.only_sncShown (dropped : Bool) : Dev.Only [.words] d (d.sncShown i dropped) := (d.only_put _ _).trans (.whenStep _ fun x => x.only_raise _)

theorem Dev.only_sncLegSent (changed leg : Bool) : Dev.Only [.mate, .applies] d (d.sncLegSent i changed leg) := .whenStep _ fun e => e.only_protItem _

theorem Dev.sncDecide_eq : ∃ dropped changed : Bool, d.sncDecide i =
    if d.decides then (((((d.setSnc i (d.sncSees i)).setSnc i ((d.sncDecision i).1.choosing (d.sncDecision i).2 ((d.sncDecision i).1.k1,
      (d.sncDecision i).1.k2))).sncLegSent i changed ((d.sncDecision i).2 != 0)).sncShown i dropped).note 2 i)
    else ((d.setSnc i (d.sncSees i)).setSnc i (d.sncDecision i).1).sncShown i dropped := by
  unfold Dev.sncDecide
  extract_lets e p r dropped show'
  have hp : p = d.sncSees i := d.sncSt_setSnc_same i _
  have hr : r = d.sncDecision i := by
    change p.evaluate (e.sncCfg i) ⟨rkNr, 0⟩ e.modes.resumed e.now = _
    rw [hp]
    rfl
  refine ⟨dropped, r.2 != p.selected, ?_⟩
  cases hdec : d.decides with
  | true =>
    have hno : ¬ (!e.decides) = true := by
      rw [show e.decides = d.decides from rfl, hdec]
      decide
    rw [if_neg hno, if_pos rfl, ← hr]
    rfl
  | false =>
    have hyes : (!e.decides) = true := by
      rw [show e.decides = d.decides from rfl, hdec]
      decide
    rw [if_pos hyes, if_neg (by decide), ← hr]
    rfl

theorem Dev.sncSt_of_two (p q : ProtSt) (j : Nat) : ((d.setSnc i p).setSnc i q).sncSt j = if j = i then q else d.sncSt j := by
  rw [Dev.sncSt_setSnc, Dev.sncSt_setSnc]
  split <;> rfl

/-- The selector after its decision. -/
theorem Dev.sncDecide_st : Dev.Only [.words, .snc, .mate, .applies, .items] d (d.sncDecide i)
    ∧ (∀ j, j ≠ i → (d.sncDecide i).sncSt j = d.sncSt j) ∧ ((d.sncDecide i).sncSt i).wtr = (d.sncDecision i).1.wtr
    ∧ (d.decides = true → ((d.sncDecide i).sncSt i).selected = (d.sncDecision i).2) := by
  obtain ⟨dropped, changed, heq⟩ := d.sncDecide_eq i
  cases hdec : d.decides with
  | true =>
    rw [hdec, if_pos rfl] at heq
    obtain ⟨hsel, -, hwtr⟩ := ProtSt.choosing_keeps (d.sncDecision i).1 (d.sncDecision i).2 ((d.sncDecision i).1.k1, (d.sncDecision i).1.k2)
    generalize (d.sncDecision i).1.choosing (d.sncDecision i).2 ((d.sncDecision i).1.k1, (d.sncDecision i).1.k2) = q at heq hsel hwtr
    have hset : Dev.Only [.snc] d ((d.setSnc i (d.sncSees i)).setSnc i q) := (d.only_setSnc i _).step (Dev.only_setSnc _ i _)
    have htwo := d.sncSt_of_two i (d.sncSees i) q
    generalize (d.setSnc i (d.sncSees i)).setSnc i q = x at heq hset htwo
    have hafter : Dev.Only [.words, .mate, .applies, .items] x (((x.sncLegSent i changed ((d.sncDecision i).2 != 0)).sncShown i dropped).note 2 i) :=
      (((x.only_sncLegSent i _ _).mono (by decide)).step (Dev.only_sncShown _ i _)).step (Dev.only_note _ 2 i)
    rw [← heq] at hafter
    have hst (j : Nat) := Dev.sncSt_congr hafter.snc j
    refine ⟨(hset.mono (by decide)).trans (hafter.mono (by decide)), fun j hne => (hst j).trans ((htwo j).trans (if_neg hne)), ?_, fun _ => ?_⟩
    · rw [hst, htwo, if_pos rfl, hwtr]
    · rw [hst, htwo, if_pos rfl, hsel]
  | false =>
    rw [hdec, if_neg (by decide)] at heq
    have hset : Dev.Only [.snc] d ((d.setSnc i (d.sncSees i)).setSnc i (d.sncDecision i).1) := (d.only_setSnc i _).step (Dev.only_setSnc _ i _)
    have htwo := d.sncSt_of_two i (d.sncSees i) (d.sncDecision i).1
    generalize (d.setSnc i (d.sncSees i)).setSnc i (d.sncDecision i).1 = x at heq hset htwo
    have hafter := x.only_sncShown i dropped
    rw [← heq] at hafter
    have hst (j : Nat) := Dev.sncSt_congr hafter.snc j
    refine ⟨(hset.mono (by decide)).trans (hafter.mono (by decide)), fun j hne => (hst j).trans ((htwo j).trans (if_neg hne)), ?_, fun h => absurd h (by decide)⟩
    rw [hst, htwo, if_pos rfl]

end

/-! A decision of a target -/

section
variable (d : Dev)

theorem Dev.protDecide_msp (g : MspGroup) :
    d.protDecide (.msp g) = if (d.evaluates && d.mspActs g.val) = true then d.mspDecide g.val else d := rfl

theorem Dev.protDecide_snc (i : SelectorId) :
    d.protDecide (.snc i) = if (d.evaluates && d.selOwner i.val == 1) = true then d.sncDecide i.val else d := rfl

theorem Dev.protDecide_exercise (g : MspGroup) (h : (d.mspSt g).exercise = none) :
    ((d.protDecide (.msp g)).mspSt g).exercise = none ∧ (∀ k, k ≠ g.val → (d.protDecide (.msp g)).mspSt k = d.mspSt k)
      ∧ (d.protDecide (.msp g)).snc = d.snc := by
  obtain ⟨honly, hothers, hex, -⟩ := d.mspDecide_st g.val
  have hseen : (d.mspSees g).exercise = none := h
  rw [Dev.protDecide_msp]
  split
  · exact ⟨hex.trans (ProtSt.evaluate_exercise _ _ _ _ _ hseen), hothers, honly.snc⟩
  · exact ⟨h, fun _ _ => rfl, rfl⟩

/-- No WTR runs after a decision where none ran and no failure made the switch. -/
theorem Dev.protDecide_wtr (t : ProtTarget) (hwtr : (d.protSt t).wtr = none) (hfail : (d.protSt t).fail = none) :
    ((d.protDecide t).protSt t).wtr = none := by
  cases t with
  | msp g =>
    obtain ⟨-, -, -, hw⟩ := d.mspDecide_st g.val
    have hseen : (d.mspSees g).wtr = none := hwtr
    have hsf : (d.mspSees g).fail = none := hfail
    rw [Dev.protDecide_msp]
    split
    · exact hw.trans (ProtSt.evaluate_wtr _ _ _ _ _ hseen hsf)
    · exact hwtr
  | snc i =>
    obtain ⟨-, -, hw, -⟩ := d.sncDecide_st i.val
    have hseen : (d.sncSees i).wtr = none := hwtr
    have hsf : (d.sncSees i).fail = none := hfail
    rw [Dev.protDecide_snc]
    split
    · exact hw.trans (ProtSt.evaluate_wtr _ _ _ _ _ hseen hsf)
    · exact hwtr

theorem Dev.protSt_setProt (t : ProtTarget) (p : ProtSt) : (d.setProt t p).protSt t = p := by
  cases t with
  | msp g => exact d.mspSt_setMsp_same g.val p
  | snc i => exact d.sncSt_setSnc_same i.val p

theorem Dev.only_setProt (t : ProtTarget) (p : ProtSt) : Dev.Only [.msp, .snc] d (d.setProt t p) := by
  cases t with
  | msp g => exact (d.only_setMsp _ _).mono (by decide)
  | snc i => exact (d.only_setSnc _ _).mono (by decide)

theorem Dev.Only.eq_prot {d e : Dev} (h : Dev.Only [.msp, .snc] d e) : e = { d with msp := e.msp, snc := e.snc } := by
  refine h Dev (fun x => { x with msp := e.msp, snc := e.snc }) fun y hy => ?_
  fin_cases hy <;> exact fun _ _ => rfl

theorem Dev.evaluates_of_decides (h : d.decides = true) : d.evaluates = true := (Bool.and_eq_true_iff.1 h).1

end

/-! The timed events -/

section
variable {s : State}

theorem exerciseEnd_shows {g : MspGroup} {ch : Nat} (hev : s.dev.evaluates = true) (hex : (s.dev.mspSt g).exercise = some ch)
    (htime : Nat.max (s.dev.mspSt g).exerciseAt s.dev.modes.resumed + 622080000 ≤ s.dev.now) :
    ∃ t, exec (.exerciseEnd g) s = .next t ∧ (t.dev.mspSt g).exercise = none
      ∧ (∀ h, h ≠ g.val → t.dev.mspSt h = s.dev.mspSt h) ∧ t.dev.snc = s.dev.snc ∧ KeepsMemories s t := by
  have hover : s.dev.exerciseOver g.val = true := by
    have hlate : decide (Nat.max (s.dev.mspSt g).exerciseAt s.dev.modes.resumed + ticksPerSecond ≤ s.dev.now) = true := decide_eq_true htime
    rw [Dev.exerciseOver, hex]
    exact (congrArg (_ || ·) hlate).trans (Bool.or_true _)
  have hexec : exec (.exerciseEnd g) s = .next { s with dev := s.dev.when (s.dev.evaluates && s.dev.exerciseOver g.val) (fun d =>
      (d.setMsp g.val { d.mspSt g.val with exercise := none }).protDecide (.msp g)) } := rfl
  rw [State.when_true s (by rw [hev, hover]; rfl)] at hexec
  have hnone : ((s.dev.setMsp g.val { s.dev.mspSt g.val with exercise := none }).mspSt g).exercise = none := by rw [Dev.mspSt_setMsp_same]
  obtain ⟨hend, hothers, hsnc⟩ := (s.dev.setMsp g.val { s.dev.mspSt g.val with exercise := none }).protDecide_exercise g hnone
  exact ⟨_, hexec, hend, fun h hne => (hothers h hne).trans ((s.dev.mspSt_setMsp _ _ h).trans (if_neg hne)), hsnc, rfl, rfl⟩

theorem holdOff_shows {t : ProtTarget} {ch : BitVec 4} {sf : Bool} {at' : Nat} (hev : s.dev.evaluates = true)
    (hin : (ch.toNat, sf, at') ∈ (s.dev.protSt t).onset)
    (hdue : Nat.max at' s.dev.modes.resumed + (s.dev.protCfg t).holdoff ≤ s.dev.now) :
    ∃ u, exec (.holdOffExpiry t ch) s = .next u ∧ (ch.toNat, sf) ∈ (u.dev.protSt t).raised
      ∧ (∀ x, x ∈ (s.dev.protSt t).raised → x ∈ (u.dev.protSt t).raised)
      ∧ u = { s with dev := { s.dev with msp := u.dev.msp, snc := u.dev.snc } } := by
  have hover : s.dev.holdOver t ch.toNat = true :=
    List.any_eq_true.2 ⟨_, hin, by rw [decide_eq_true hdue, Bool.and_true]; exact beq_self_eq_true _⟩
  obtain ⟨p, hp⟩ : ∃ p, p = s.dev.protSt t := ⟨_, rfl⟩
  obtain ⟨l, hl⟩ : ∃ l, l = p.raised ++ (p.raise (s.dev.protCfg t) s.dev.modes.resumed s.dev.now).raised.filter (fun x =>
    !p.raised.contains x && x.1 == ch.toNat) := ⟨_, rfl⟩
  have hexec : exec (.holdOffExpiry t ch) s = .next { s with dev := s.dev.when (s.dev.evaluates && s.dev.holdOver t ch.toNat) (fun d =>
      d.setProt t { d.protSt t with raised := (d.protSt t).raised ++ ((d.protSt t).raise (d.protCfg t) d.modes.resumed d.now).raised.filter (fun x =>
        !(d.protSt t).raised.contains x && x.1 == ch.toNat) }) } := rfl
  rw [State.when_true s (by rw [hev, hover]; rfl), ← hp, ← hl] at hexec
  have hst : ((s.dev.setProt t { p with raised := l }).protSt t).raised = l := by rw [Dev.protSt_setProt]
  rw [← hp] at hin ⊢
  refine ⟨_, hexec, ?_, fun x hx => ?_, congrArg (fun e => ({ s with dev := e } : State)) (s.dev.only_setProt t _).eq_prot⟩
  · have hraised := ProtSt.mem_raise p (s.dev.protCfg t) s.dev.modes.resumed s.dev.now hin hdue
    change (ch.toNat, sf) ∈ ((s.dev.setProt t { p with raised := l }).protSt t).raised
    rw [hst, hl]
    by_cases hold : (ch.toNat, sf) ∈ p.raised
    · exact List.mem_append_left _ hold
    · exact List.mem_append_right _ (List.mem_filter.2 ⟨hraised, by simp [hold]⟩)
  · change x ∈ ((s.dev.setProt t { p with raised := l }).protSt t).raised
    rw [hst, hl]
    exact List.mem_append_left _ hx

theorem wtr_shows {t : ProtTarget} {w : Nat × Nat} (hev : s.dev.evaluates = true) (hwtr : (s.dev.protSt t).wtr = some w)
    (hover : Nat.max w.2 s.dev.modes.resumed + (s.dev.protCfg t).wtr ≤ s.dev.now) (hfail : (s.dev.protSt t).fail = none) :
    ∃ u, exec (.wtrExpiry t) s = .next u ∧ (u.dev.protSt t).wtr = none ∧ KeepsMemories s u := by
  have hdone : s.dev.wtrOver t = true := by
    rw [Dev.wtrOver, hwtr]
    exact decide_eq_true hover
  have hexec : exec (.wtrExpiry t) s = .next { s with dev := s.dev.when (s.dev.evaluates && s.dev.wtrOver t) (fun d =>
      (d.setProt t { d.protSt t with wtr := none }).protDecide t) } := rfl
  rw [State.when_true s (by rw [hev, hdone]; rfl)] at hexec
  refine ⟨_, hexec, Dev.protDecide_wtr _ t ?_ ?_, rfl, rfl⟩
  · rw [Dev.protSt_setProt]
  · rw [Dev.protSt_setProt]
    exact hfail

theorem mspDecision_shows {g : MspGroup} (hacts : s.dev.mspActs g = true) (hdec : s.dev.decides = true) :
    ∃ t, exec (.protectionDecision (.msp g)) s = .next t ∧ (t.dev.mspSt g).selected = (s.dev.mspDecision g).2
      ∧ t.dev.get (F.protMspStatSelected.at 0x40 g) = (s.dev.mspDecision g).2 % 16 ∧ (∀ h, h ≠ g.val → t.dev.mspSt h = s.dev.mspSt h)
      ∧ t.dev.snc = s.dev.snc ∧ KeepsMemories s t := by
  have hexec : exec (.protectionDecision (.msp g)) s = .next { s with dev := s.dev.when (s.dev.evaluates && s.dev.mspActs g.val) (fun e =>
      e.mspDecide g.val) } := rfl
  rw [State.when_true s (by rw [s.dev.evaluates_of_decides hdec, hacts]; rfl)] at hexec
  obtain ⟨honly, hothers, -⟩ := s.dev.mspDecide_st g.val
  obtain ⟨hsel, hshow⟩ := s.dev.mspDecide_selected g.val g.isLt hdec (Bool.and_eq_true_iff.1 hacts).1
  exact ⟨_, hexec, hsel, hshow, hothers, honly.snc, rfl, rfl⟩

theorem sncDecision_shows {i : SelectorId} (hown : s.dev.selOwner i = 1) (hdec : s.dev.decides = true) :
    ∃ t, exec (.protectionDecision (.snc i)) s = .next t ∧ (t.dev.sncSt i).selected = (s.dev.sncDecision i).2
      ∧ (∀ j, j ≠ i.val → t.dev.sncSt j = s.dev.sncSt j) ∧ t.dev.msp = s.dev.msp ∧ KeepsMemories s t := by
  have hexec : exec (.protectionDecision (.snc i)) s = .next { s with dev := s.dev.when (s.dev.evaluates && s.dev.selOwner i.val == 1) (fun e =>
      e.sncDecide i.val) } := rfl
  rw [State.when_true s (by rw [s.dev.evaluates_of_decides hdec, hown]; rfl)] at hexec
  obtain ⟨honly, hothers, -, hsel⟩ := s.dev.sncDecide_st i.val
  exact ⟨_, hexec, hsel hdec, hothers, honly.msp, rfl, rfl⟩

end

end Sys2Proof.Machine

/-! Protocol failures and the configuration of a group (R444, R445, R453, R458). -/

namespace Sys2Proof.Machine

set_option Elab.async false -- a proof at a time, within the memory of a check

theorem Dev.word_of_words {d e : Dev} (h : e.words = d.words) (a : Nat) : e.word a = d.word a := by rw [Dev.word, h, ← Dev.word]

/-! Protocol failures -/

section
variable (d : Dev) (g : MspGroup) (l : List PamKind)

/-- The group with its protocol failures, before what it shows. -/
def Dev.pamSet : Dev := (d.setMsp g.val { d.mspSt g.val with pam := l }).raise F.protEvtPam

theorem Dev.setPam_eq : d.setPam g l = (d.pamSet g l).mspShow g.val := rfl

theorem Dev.only_pamSet : Dev.Only [.words, .msp] d (d.pamSet g l) := ((d.only_setMsp _ _).mono (by decide)).step (Dev.only_raise _ _)

theorem Dev.pamSet_st : (d.pamSet g l).mspSt g.val = { d.mspSt g.val with pam := l } :=
  (Dev.mspSt_congr (Dev.only_raise _ F.protEvtPam).msp g.val).trans (d.mspSt_setMsp_same g.val _)

theorem Dev.pamSet_wordsBut : Dev.WordsBut [F.protEvtPam.off] d (d.pamSet g l) :=
  ((Dev.WordsBut.refl _ d).of_words (Dev.setMsp_words d _ _)).raise (f := F.protEvtPam) (.head _)

/-- What is shown of a group leaves the event of its protocol failures. -/
theorem Dev.pamEvent_mspShow (k : Nat) (hk : k < 48) : (d.mspShow k).on F.protEvtPam = d.on F.protEvtPam := by
  have hshown : (d.mspShown k).on F.protEvtPam = d.on F.protEvtPam := (d.mspShown_frame k).2.on (f := F.protEvtPam) (by
    simp only [F.protEvtPam, Reg.protMspStat, List.mem_singleton]
    omega)
  have hchg : ((⟨if k < 32 then Reg.protMspChg0 else Reg.protMspChg1, k % 32, 1⟩ : Field)).clearOf F.protEvtPam := .inl (by
    change F.protEvtPam.off ≠ if k < 32 then Reg.protMspChg0 else Reg.protMspChg1
    split <;> decide)
  rw [Dev.mspShow_eq, ← hshown]
  exact ((Dev.Reads.refl F.protEvtPam (d.mspShown k)).when _ fun x hx => (hx.raise (g := F.protEvtMspChg) (by decide)).raise hchg).on

theorem Dev.setPam_shows (hon : d.mspOn g = true) : (d.setPam g l).mspSt g = { d.mspSt g with pam := l }
    ∧ (d.setPam g l).on F.protEvtPam = true ∧ (d.setPam g l).on (F.protMspStatPam.at 0x40 g) = !l.isEmpty := by
  have hgon : (d.pamSet g l).mspOn g = true := by
    rw [Dev.mspOn, (d.pamSet_wordsBut g l).on (f := grpField F.protMspCfgEn g)]
    · exact hon
    · simp only [grpField, Field.at, F.protMspCfgEn, F.protEvtPam, List.mem_singleton]
      omega
  have hevt : (d.pamSet g l).on F.protEvtPam = true := Dev.on_raise _ F.protEvtPam (by decide) (by decide)
  rw [Dev.setPam_eq]
  refine ⟨(Dev.mspSt_congr (Dev.only_mspShow _ _).msp g.val).trans (d.pamSet_st g l), (Dev.pamEvent_mspShow _ g.val g.isLt).trans hevt, ?_⟩
  have hshow := ((d.pamSet g l).mspShow_shows g.isLt hgon).2
  rw [d.pamSet_st g l] at hshow
  exact hshow

end

section
variable {s : State} {g : MspGroup} {kind : PamKind}

theorem protocolFailure_shows (hacts : s.dev.mspActs g = true) (hnew : kind ∉ (s.dev.mspSt g).pam) (hseen : s.dev.pamSeen g kind = true)
    (hheld : s.dev.pamHeld g kind 1 = true) :
    ∃ t, exec (.protocolFailure g kind) s = .next t ∧ t.dev.mspSt g = { s.dev.mspSt g with pam := (s.dev.mspSt g).pam ++ [kind] }
      ∧ t.dev.on F.protEvtPam = true ∧ t.dev.on (F.protMspStatPam.at 0x40 g) = true ∧ KeepsMemories s t := by
  have hexec : exec (.protocolFailure g kind) s = .next { s with dev := (s.dev.when (s.dev.mspActs g.val && !(s.dev.mspSt g.val).pam.contains kind
      && s.dev.pamSeen g.val kind && s.dev.pamHeld g.val kind 1) (fun e => e.setPam g ((s.dev.mspSt g.val).pam ++ [kind]))) } := rfl
  rw [State.when_true s (by rw [hacts, hseen, hheld]; simpa using hnew)] at hexec
  obtain ⟨hst, hevt, hshow⟩ := s.dev.setPam_shows g ((s.dev.mspSt g.val).pam ++ [kind]) (Bool.and_eq_true_iff.1 hacts).1
  exact ⟨_, hexec, hst, hevt, hshow.trans (by simp), rfl, rfl⟩

theorem pamClear_shows (hacts : s.dev.mspActs g = true) (hold : kind ∈ (s.dev.mspSt g).pam) (hgone : s.dev.pamGone g kind = true)
    (hheld : kind = .invalidCode ∨ s.dev.pamHeld g kind 2 = true) :
    ∃ t, exec (.pamClear g kind) s = .next t
      ∧ t.dev.mspSt g = { s.dev.mspSt g with pam := (s.dev.mspSt g).pam.filter (fun x => x != kind) }
      ∧ t.dev.on F.protEvtPam = true ∧ KeepsMemories s t := by
  have hexec : exec (.pamClear g kind) s = .next { s with dev := (s.dev.when (s.dev.mspActs g.val && (s.dev.mspSt g.val).pam.contains kind
      && s.dev.pamGone g.val kind && (kind == .invalidCode || s.dev.pamHeld g.val kind 2)) (fun e =>
        e.setPam g ((s.dev.mspSt g.val).pam.filter (fun x => x != kind)))) } := rfl
  have hlast : (kind == .invalidCode || s.dev.pamHeld g.val kind 2) = true := by
    rcases hheld with h | h
    · rw [h]
      rfl
    · rw [h, Bool.or_true]
  rw [State.when_true s (by rw [hacts, hgone, hlast]; simpa using hold)] at hexec
  obtain ⟨hst, hevt, -⟩ := s.dev.setPam_shows g ((s.dev.mspSt g.val).pam.filter (fun x => x != kind)) (Bool.and_eq_true_iff.1 hacts).1
  exact ⟨_, hexec, hst, hevt, rfl, rfl⟩

end

/-! The configuration of a group -/

theorem regDefOf_mspCfg : ∀ g : MspGroup, regDefOf (Reg.protMspCfg + 0x40 * g.val) = some ⟨0x1000, 48, 64, 1073741599, 0, 335577100, []⟩ := by
  decide +kernel

/-- Bit 0 of a register whose bit 0 is software's. -/
theorem getF_written_bit0 (old data : W32) (off count stride rw reset : Nat) (h : getF (~~~BitVec.ofNat 32 rw) 0 1 = 0)
    (h' : getF (BitVec.ofNat 32 rw) 0 1 = 1) : getF (RegDef.written ⟨off, count, stride, rw, 0, reset, []⟩ old data) 0 1 = getF data 0 1 := by
  have hmask : RegDef.written ⟨off, count, stride, rw, 0, reset, []⟩ old data
      = (old &&& ~~~BitVec.ofNat 32 rw) ||| (data &&& BitVec.ofNat 32 rw) := by
    change ((old &&& ~~~BitVec.ofNat 32 rw) ||| (data &&& BitVec.ofNat 32 rw)) &&& ~~~(data &&& BitVec.ofNat 32 0) = _
    simp only [BitVec.and_zero, BitVec.not_zero, BitVec.and_allOnes]
  rw [hmask]
  exact getF_mask_or _ _ _ _ h h'

theorem getF_mspCfgWord_en (w : W32) : getF (mspCfgWord w) 0 1 = getF w 0 1 := by
  unfold mspCfgWord
  split
  · rw [getF_putF_other _ _ _ _ _ _ (by decide) (by decide) (by decide), getF_putF_other _ _ _ _ _ _ (by decide) (by decide) (by decide)]
  · rw [getF_putF_other _ _ _ _ _ _ (by decide) (by decide) (by decide)]

section
variable (d : Dev) (g : MspGroup) (data : W32)

/-- The address of the group's configuration, and the entry that a write leaves. -/
abbrev mspCfgAddr (g w : Nat) : Nat := Reg.protMspCfg + 0x40 * g + 4 * w

abbrev Dev.mspCfgNew (d : Dev) (g : Nat) (data : W32) : W32 := mspCfgWord ((d.regWrite (mspCfgAddr g 0) data).word (mspCfgAddr g 0))

theorem Dev.getF_mspCfgNew : getF (d.mspCfgNew g data) 0 1 = getF data 0 1 := by
  have hdef := Dev.regWrite_of_def (d := d) (regDefOf_mspCfg g) data
  rw [Dev.mspCfgNew, getF_mspCfgWord_en, show mspCfgAddr g.val 0 = Reg.protMspCfg + 0x40 * g.val from rfl, hdef, Dev.word_setWord_same]
  exact getF_written_bit0 _ _ _ _ _ _ _ (by decide) (by decide)

theorem Dev.mspPlaceOk_off {w : W32} (h : getF w 0 1 = 0) : d.mspPlaceOk g w = true := by
  unfold Dev.mspPlaceOk
  extract_lets en arch inside
  have hen : en = false := by
    change (getF w 0 1 == 1) = false
    rw [h]
    rfl
  rw [hen]
  rfl

theorem Dev.writeMspCfg_lanes {w : Nat} (h : w ≠ 0) : d.writeMspCfg g w data = if d.mspOn g then (d, .slverr) else okay (d.regWrite (mspCfgAddr g w) data) :=
  if_pos h

theorem Dev.writeMspCfg_refused {w : Nat} (h : d.mspOn g = true) (hen : w ≠ 0 ∨ getF data 0 1 = 1) : d.writeMspCfg g w data = (d, .slverr) := by
  by_cases hw : w = 0
  · subst hw
    unfold Dev.writeMspCfg
    extract_lets a falls v
    have hfalls : falls = false := by
      change (getF data 0 1 == 0) = false
      rw [hen.resolve_left (by decide)]
      rfl
    rw [if_neg (by decide), if_pos (by rw [h, hfalls]; rfl)]
  · rw [Dev.writeMspCfg_lanes _ _ _ hw, if_pos h]

/-- The group with its new entry, while it is off. -/
theorem Dev.writeMspCfg_off (h : d.mspOn g = false) (hen : getF data 0 1 = 0) :
    d.writeMspCfg g 0 data = okay (d.setWord (mspCfgAddr g 0) (d.mspCfgNew g data)) := by
  have hplace := d.mspPlaceOk_off g ((d.getF_mspCfgNew g data).trans hen)
  unfold Dev.writeMspCfg
  extract_lets a falls v d1 k src
  have hfalls : falls = true := by
    change (getF data 0 1 == 0) = true
    rw [hen]
    rfl
  have hv : v = d.mspCfgNew g data := rfl
  rw [if_neg (by decide), if_neg (by rw [h]; exact Bool.false_ne_true), if_neg (by rw [hv, hplace]; decide),
    if_neg (by rw [h]; exact Bool.false_ne_true), if_neg (by rw [hfalls, Bool.not_true, Bool.and_false]; exact Bool.false_ne_true)]

theorem Dev.writeMspCfg_placeless (h : d.mspOn g = false) (hplace : d.mspPlaceOk g (d.mspCfgNew g data) = false) :
    d.writeMspCfg g 0 data = (d, .slverr) := by
  unfold Dev.writeMspCfg
  extract_lets a falls v d1 k src
  have hv : v = d.mspCfgNew g data := rfl
  rw [if_neg (by decide), if_neg (by rw [h]; exact Bool.false_ne_true), if_pos (by rw [hv, hplace]; rfl)]

/-- A group that rises: its words, with the new entry, beside what it shows. -/
theorem Dev.writeMspCfg_rises (h : d.mspOn g = false) (hen : getF data 0 1 = 1) (hplace : d.mspPlaceOk g (d.mspCfgNew g data) = true) :
    ∃ e, d.writeMspCfg g 0 data = okay e ∧ e.word (mspCfgAddr g 0) = d.mspCfgNew g data := by
  unfold Dev.writeMspCfg
  extract_lets a falls v d1 k src
  have hfalls : falls = false := by
    change (getF data 0 1 == 0) = false
    rw [hen]
    rfl
  have hv : v = d.mspCfgNew g data := rfl
  rw [if_neg (by decide), if_neg (by rw [h]; exact Bool.false_ne_true), if_neg (by rw [hv, hplace]; decide),
    if_neg (by rw [h]; exact Bool.false_ne_true), if_pos (by rw [h, hfalls]; rfl)]
  refine ⟨_, rfl, ?_⟩
  have hd1 : d1.word (mspCfgAddr g 0) = d.mspCfgNew g data := Dev.word_setWord_same _ _ _
  clear_value d1 src
  have hset (p : ProtSt) : Dev.Only [.msp, .snc, .items] d1 (d1.setMsp g p).protSee := ((d1.only_setMsp g p).mono (by decide)).trans (Dev.only_protSee _)
  refine (Dev.wordsBut_mspShow _ g.val _ ?_).trans ?_
  · simp only [mspCfgAddr, Reg.protMspCfg, Reg.protMspStat, F.protEvtMspChg, Reg.protMspChg0, Reg.protMspChg1, List.mem_cons, List.not_mem_nil,
      or_false, not_or]
    omega
  · rw [Dev.word, (hset _).words, ← Dev.word, hd1]

theorem Dev.writeMspCfg_falls (h : d.mspOn g = true) (hen : getF data 0 1 = 0) :
    d.writeMspCfg g 0 data = okay ((d.setWord (mspCfgAddr g 0) (d.mspCfgNew g data)).mspOff g) := by
  have hplace := d.mspPlaceOk_off g ((d.getF_mspCfgNew g data).trans hen)
  unfold Dev.writeMspCfg
  extract_lets a falls v d1 k src
  have hfalls : falls = true := by
    change (getF data 0 1 == 0) = true
    rw [hen]
    rfl
  have hv : v = d.mspCfgNew g data := rfl
  rw [if_neg (by decide), if_neg (by rw [hfalls, Bool.not_true, Bool.and_false]; exact Bool.false_ne_true), if_neg (by rw [hv, hplace]; decide),
    if_pos (by rw [h, hfalls]; rfl)]

/-- The group with its stored commands alone, and without what it had decided. -/
def Dev.mspEmptied (l : List (Nat × ProtItem)) : Dev := { d.setMsp g (d.mspSt g).disabled with applies := l }

theorem Dev.only_mspEmptied (l : List (Nat × ProtItem)) : Dev.Only [.msp, .applies] d (d.mspEmptied g l) :=
  ((d.only_setMsp g (d.mspSt g).disabled).mono (by decide)).trans ((Dev.only_applies _ l).mono (by decide))

theorem Dev.mspOff_shows : (d.mspOff g).mspSt g = (d.mspSt g).disabled
    ∧ Dev.WordsBut ((grpField F.protMspSwcSwitches g).off :: mspWords g) d (d.mspOff g) := by
  obtain ⟨x, hx⟩ : ∃ x, x = d.mspEmptied g (d.applies.filter fun y => !y.2.ofGroup g) := ⟨_, rfl⟩
  obtain ⟨y, hy⟩ : ∃ y, y = x.when ((d.mspSt g).selected != 0) (fun e => e.bump (grpField F.protMspSwcSwitches g) 1) := ⟨_, rfl⟩
  have hall : d.mspOff g = y.mspShow g := by
    rw [hy, hx]
    rfl
  have hox : Dev.Only [.msp, .applies] d x := hx ▸ d.only_mspEmptied g _
  have hxs : x.mspSt g = (d.mspSt g).disabled := by
    rw [hx, Dev.mspEmptied]
    exact d.mspSt_setMsp_same g _
  have hoy : Dev.Only [.words] x y := hy ▸ .whenStep _ fun e => e.only_bump _ 1
  have hby : Dev.WordsBut [(grpField F.protMspSwcSwitches g).off] x y := hy ▸ Dev.when_of _ (.refl _ x) ((Dev.WordsBut.refl _ x).bump (.head _) 1)
  rw [hall]
  refine ⟨(Dev.mspSt_congr ((y.only_mspShow g).msp.trans hoy.msp) g).trans hxs, ?_⟩
  exact ((((Dev.WordsBut.refl _ d).of_words hox.words).trans hby).mono (List.cons_subset_cons _ (List.nil_subset _))).trans
    ((y.wordsBut_mspShow g).mono (List.subset_cons_self _ _))

end

section
variable {m : Master} {s : State} {g : MspGroup} {data : W32}

theorem mspCfg_falls (hw : s.mayWrite m.val (mspCfgAddr g 0)) (hon : s.dev.mspOn g = true) (hen : getF data 0 1 = 0) :
    ∃ t, exec (.mspCfgWrite m g 0 data) s = .next t ∧ (t.dev.replyTo m.val).resp = .okay ∧ t.dev.mspOn g = false
      ∧ t.dev.mspSt g = (s.dev.mspSt g).disabled ∧ KeepsMemories s t := by
  obtain ⟨x, hx⟩ : ∃ x, x = s.dev.setWord (mspCfgAddr g 0) (s.dev.mspCfgNew g data) := ⟨_, rfl⟩
  have hop := s.dev.writeMspCfg_falls g data hon hen
  rw [← hx] at hop
  have hset : Dev.Only [.words] s.dev x := hx ▸ s.dev.only_setWord _ _
  obtain ⟨hst, hbut⟩ := x.mspOff_shows g
  obtain ⟨hreply, hwords, -⟩ := Dev.write_okay (op := fun d => d.writeMspCfg g 0 data) hw hop
  have honly := Dev.write_okay_only (op := fun d => d.writeMspCfg g 0 data) hw hop
  have hxoff : x.mspOn g = false := by
    have hbit : x.get (grpField F.protMspCfgEn g) = getF (x.word (mspCfgAddr g 0)) 0 1 := rfl
    rw [Dev.mspOn, Dev.on, hbit, hx, Dev.word_setWord_same, s.dev.getF_mspCfgNew g data, hen]
    rfl
  refine ⟨{ s with dev := s.dev.write m.val (mspCfgAddr g 0) (fun d => d.writeMspCfg g 0 data) }, rfl, hreply, ?_,
    (Dev.mspSt_congr honly.msp g).trans (hst.trans (congrArg ProtSt.disabled (Dev.mspSt_congr hset.msp g))), rfl, rfl⟩
  have hkept : (x.mspOff g).mspOn g = x.mspOn g := hbut.on (f := grpField F.protMspCfgEn g) (by
    simp only [grpField, Field.at, F.protMspCfgEn, F.protMspSwcSwitches, mspWords, Reg.protMspStat, F.protEvtMspChg, Reg.protMspChg0, Reg.protMspChg1,
      List.mem_cons, List.not_mem_nil, or_false, not_or]
    omega)
  exact ((((Dev.WordsBut.refl [] _).of_words hwords).on (f := grpField F.protMspCfgEn g) List.not_mem_nil).trans hkept).trans hxoff

end

/-- Settles O44, by the event: the timers' ends, the decisions, the protocol failures, and the configuration of a group. -/
theorem protectionEvents : Obligations.ProtectionEvents := by
  unfold Obligations.ProtectionEvents
  intro s
  refine ⟨fun g ch hev hex htime => exerciseEnd_shows hev hex htime, fun tg ch sf at' hev hin hdue => holdOff_shows hev hin hdue,
    fun tg w hev hwtr hover hfail => wtr_shows hev hwtr hover hfail, fun g hacts hdec => mspDecision_shows hacts hdec,
    fun i hown hdec => sncDecision_shows hown hdec,
    fun g kind hacts => ⟨protocolFailure_shows hacts, pamClear_shows hacts⟩, fun m g w data => ?_⟩
  intro a hw
  refine ⟨fun hon hen => ?_, fun hoff hen => ?_, fun hoff hw0 hone => ⟨fun hplace => ?_, fun hplace => ?_⟩, fun hon hw0 hzero => ?_⟩
  · exact ⟨_, rfl, answeredWords_write (op := fun d => d.writeMspCfg g w data) hw (s.dev.writeMspCfg_refused g data hon hen) ⟨rfl, .refl [] _⟩⟩
  · by_cases hw0 : w.val = 0
    · obtain rfl : w = 0 := Fin.ext hw0
      have hop := s.dev.writeMspCfg_off g data hoff (hen.resolve_left (fun h => h rfl))
      refine ⟨_, rfl, answeredWords_write (op := fun d => d.writeMspCfg g 0 data) hw hop ((Dev.WordsOnly.refl _ s.dev).setWord (.head _) _), ?_⟩
      obtain ⟨-, hwords, -⟩ := Dev.write_okay (op := fun d => d.writeMspCfg g 0 data) hw hop
      exact (Dev.word_of_words hwords a).trans ((Dev.word_setWord_same _ _ _).trans (if_pos hw0).symm)
    · have hop : s.dev.writeMspCfg g w data = okay (s.dev.regWrite (mspCfgAddr g w) data) := by
        rw [Dev.writeMspCfg_lanes _ _ _ hw0, if_neg (by rw [hoff]; exact Bool.false_ne_true)]
      refine ⟨_, rfl, answeredWords_write (op := fun d => d.writeMspCfg g w data) hw hop (s.dev.regWrite_wordsOnly _ data), ?_⟩
      obtain ⟨-, hwords, -⟩ := Dev.write_okay (op := fun d => d.writeMspCfg g w data) hw hop
      exact (Dev.word_of_words hwords a).trans (if_neg hw0).symm
  · obtain rfl : w = 0 := Fin.ext hw0
    exact ⟨_, rfl, answeredWords_write (op := fun d => d.writeMspCfg g 0 data) hw (s.dev.writeMspCfg_placeless g data hoff hplace) ⟨rfl, .refl [] _⟩⟩
  · obtain rfl : w = 0 := Fin.ext hw0
    obtain ⟨e, hop, hword⟩ := s.dev.writeMspCfg_rises g data hoff hone hplace
    obtain ⟨hreply, hwords, -⟩ := Dev.write_okay (op := fun d => d.writeMspCfg g 0 data) hw hop
    refine ⟨{ s with dev := s.dev.write m.val (mspCfgAddr g 0) (fun d => d.writeMspCfg g 0 data) }, rfl, hreply, ?_, rfl, rfl⟩
    exact (Dev.word_of_words hwords a).trans hword
  · obtain rfl : w = 0 := Fin.ext hw0
    exact mspCfg_falls hw hon hzero

end Sys2Proof.Machine

/-! What the pair's operations write (R461, R468 to R475), and the configuration of the pair and its interlock (R462, R469). -/

namespace Sys2Proof.Machine

set_option Elab.async false -- a proof at a time, within the memory of a check

/-! The pair's state through the shared operations -/

/-- A write that is taken leaves the state of the pair as its effect does, but for the items of the state copy. -/
theorem Dev.write_okay_mate {d e : Dev} {m a : Nat} {op : Dev → Dev × Resp} (h : d.grant m a true = .ok) (hop : op d = okay e) :
    e.MateButItems (d.write m a op) := by
  have hmate := (Dev.write_ok (op := op) h).2.2.2
  rw [hop] at hmate
  exact hmate

/-- A part of the pair's state other than the items reads as before. -/
theorem Dev.MateButItems.read {d e : Dev} (h : d.MateButItems e) {α : Type} (f : Mate → α) (hf : ∀ m l, f { m with items := l } = f m) :
    f e.mate = f d.mate := (congrArg f h).trans (hf _ _)

theorem Dev.listItem_mate (d : Dev) (x : Reverify) : (d.listItem x).mate = d.mate := by
  unfold Dev.listItem
  extract_lets n
  split <;> rfl

theorem Dev.foldl_listItem_mate (l : List Reverify) (d : Dev) : (l.foldl Dev.listItem d).mate = d.mate :=
  List.foldlRecOn (motive := fun e : Dev => e.mate = d.mate) l Dev.listItem rfl fun e he x _ => (e.listItem_mate x).trans he

theorem Dev.discardEpoch_mate (d : Dev) : d.discardEpoch.mate = { d.mate with rx := [] } := Dev.foldl_listItem_mate ..

/-! The Lid's lines released (R461) -/

section
variable (d : Dev)

theorem Dev.releaseLid_mate : d.releaseLid.mate = { d.mate with drive0 := false, drive1 := false, seizing := none } :=
  Dev.when_of (P := fun e => e.mate = { d.mate with drive0 := false, drive1 := false, seizing := none }) _ rfl rfl

theorem Dev.releaseLid_pairBut : Dev.PairBut [F.mateStatLid0, F.mateStatLid1] d d.releaseLid := by
  have hmate : Dev.PairBut [F.mateStatLid0, F.mateStatLid1] d
      (d.setMate { d.mate with drive0 := false, drive1 := false, seizing := none }) := (Dev.PairBut.refl _ d).of_words (d.setMate_words _)
  exact Dev.when_of (P := Dev.PairBut [F.mateStatLid0, F.mateStatLid1] d) _ hmate ((hmate.put (.head _) 1).put (.tail _ (.head _)) 1)

/-! REJOIN (R498) -/

/-- The role and the status of a device that rejoins, before the state of the pair follows. -/
def Dev.rejoining (d : Dev) : Dev :=
  (((d.setRole roleRejoin).lower F.mateStatSuspect).put F.mateStatRejoinStep 1).mateBit F.mateStatIsolated F.mateEvtIsolated false

theorem Dev.enterRejoin_eq : d.enterRejoin = d.rejoining.setMate { d.rejoining.mate with
    snapDone := false, echoed := false, passAt := none, checking := false, rx := [] } := by
  rw [Dev.enterRejoin, Dev.rejoining]

theorem Dev.get_enterRejoin (f : Field) : d.enterRejoin.get f = d.rejoining.get f := by rw [Dev.enterRejoin_eq, Dev.setMate_get]

theorem Dev.enterRejoin_mate : d.enterRejoin.mate = { (d.setRole roleRejoin).mate with
    snapDone := false, echoed := false, passAt := none, checking := false, rx := [] } := by
  have hmate : d.rejoining.mate = (d.setRole roleRejoin).mate := by
    simp only [Dev.rejoining, Dev.mateBit_mate, Dev.put_mate, Dev.lower]
  rw [Dev.enterRejoin_eq, Dev.setMate_mate, hmate]

theorem Dev.enterRejoin_role : d.enterRejoin.role = roleRejoin := by
  simp (disch := decide) only [Dev.role, Dev.get_enterRejoin, Dev.rejoining, Dev.get_mateBit, Dev.get_put_of_apart, Dev.lower]
  exact d.setRole_role (by decide)

theorem Dev.enterRejoin_step : d.enterRejoin.get F.mateStatRejoinStep = 1 := by
  simp (disch := decide) only [Dev.get_enterRejoin, Dev.rejoining, Dev.get_mateBit]
  exact Dev.get_put_same _ _ _ (by decide)

theorem Dev.enterRejoin_suspect : d.enterRejoin.on F.mateStatSuspect = false := by
  simp (disch := decide) only [Dev.on, Dev.get_enterRejoin, Dev.rejoining, Dev.get_mateBit, Dev.get_put_of_apart]
  exact Dev.on_lower _ F.mateStatSuspect (by decide)

theorem Dev.enterRejoin_drives (h0 : d.mate.drive0 = false) (h1 : d.mate.drive1 = false) :
    d.enterRejoin.mate.drive0 = false ∧ d.enterRejoin.mate.drive1 = false := by
  rw [d.enterRejoin_mate, d.setRole_mateButItems]
  exact ⟨h0, h1⟩

/-! The state of the paths (R474, R475) -/

/-- What the state of the paths shows in. -/
def pathFields : List Field :=
  [F.mateStatHbLane, F.mateStatHbSide, F.mateStatMateLost, F.mateEvtMateLost, F.mateStatDegraded, F.mateEvtDegraded, F.mateStatIsolated,
    F.mateEvtIsolated]

theorem Dev.PairBut.mateBit {l : List Field} {e : Dev} (h : Dev.PairBut l d e) {f g : Field} (hf : f ∈ l) (hg : g ∈ l) (v : Bool) :
    Dev.PairBut l d (e.mateBit f g v) := by
  unfold Dev.mateBit
  split
  · exact h
  · exact (h.put hf _).put hg 1

/-- The paths' own bits. -/
def Dev.pathBits (d : Dev) : Dev :=
  (((d.put F.mateStatHbLane (bitOf d.mate.lane.up)).put F.mateStatHbSide (bitOf d.mate.side.up)).mateBit F.mateStatMateLost
    F.mateEvtMateLost (d.mate.lane.lost && d.mate.side.lost)).mateBit F.mateStatDegraded F.mateEvtDegraded
    (d.mate.lane.lost != d.mate.side.lost)

theorem Dev.pathBits_pairBut : Dev.PairBut pathFields d d.pathBits :=
  ((((Dev.PairBut.refl _ d).put (by decide) _).put (by decide) _).mateBit _ (by decide) (by decide) _).mateBit _ (by decide) (by decide) _

theorem Dev.pathBits_mate : d.pathBits.mate = d.mate := by simp only [Dev.pathBits, Dev.mateBit_mate, Dev.put_mate]

/-- The device holds the state of the pair that `m` is, but for the epochs and items that the loss of the mate concerns. -/
def Dev.MateButLoss (m : Mate) (e : Dev) : Prop := ∃ l r, e.mate = { m with atLoss := l, rx := r }

theorem Dev.MateButLoss.drives {m : Mate} {e : Dev} (h : Dev.MateButLoss m e) : e.mate.drive0 = m.drive0 ∧ e.mate.drive1 = m.drive1 := by
  obtain ⟨l, r, hmate⟩ := h
  rw [hmate]
  exact ⟨rfl, rfl⟩

/-- The pair's state with the items that the loss of the mate concerns. -/
def Dev.pathsMate (d : Dev) (m : Mate) : Mate :=
  let lost := d.mate.lane.lost && d.mate.side.lost
  let begins := lost && !d.on F.mateStatMateLost
  { m with atLoss := if begins then d.pathBits.openItems else if lost then m.atLoss else [] }

theorem Dev.showPaths_eq : d.showPaths =
    (((d.pathBits.setMate (d.pathsMate d.pathBits.mate)).when (d.mate.lane.lost && d.mate.side.lost && !d.on F.mateStatMateLost)
      Dev.discardEpoch).when (d.mate.lane.lost && d.mate.side.lost && !d.on F.mateStatMateLost && d.role == roleStandby
        && !(d.on F.mateStatLid0 && d.on F.mateStatLid1)) (fun e => e.mateBit F.mateStatIsolated F.mateEvtIsolated true)) := by
  rw [Dev.showPaths, Dev.pathBits, Dev.pathsMate]
  rfl

/-- The state of the paths shows in the fields of `pathFields`, and reaches of the pair's state what the mate's loss concerns. -/
theorem Dev.showPaths_keeps : Dev.PairBut pathFields d d.showPaths ∧ Dev.MateButLoss d.mate d.showPaths := by
  obtain ⟨x, hx⟩ : ∃ x, x = d.pathBits.setMate (d.pathsMate d.pathBits.mate) := ⟨_, rfl⟩
  have hset : Dev.PairBut pathFields d x ∧ Dev.MateButLoss d.mate x := by
    rw [hx, d.pathBits_mate]
    exact ⟨d.pathBits_pairBut.of_words (Dev.setMate_words _ _), _, d.mate.rx, Dev.setMate_mate _ _⟩
  have hdiscarded : Dev.PairBut pathFields d x.discardEpoch ∧ Dev.MateButLoss d.mate x.discardEpoch := by
    obtain ⟨hpair, l, r, hmate⟩ := hset
    refine ⟨hpair.discardEpoch, l, [], ?_⟩
    rw [Dev.discardEpoch_mate, hmate]
  rw [d.showPaths_eq, ← hx]
  obtain ⟨y, hy⟩ : ∃ y, y = x.when (d.mate.lane.lost && d.mate.side.lost && !d.on F.mateStatMateLost) Dev.discardEpoch := ⟨_, rfl⟩
  have hkept : Dev.PairBut pathFields d y ∧ Dev.MateButLoss d.mate y := by
    rw [hy]
    exact Dev.when_of (P := fun e => Dev.PairBut pathFields d e ∧ Dev.MateButLoss d.mate e) _ hset hdiscarded
  rw [← hy]
  obtain ⟨hpair, l, r, hmate⟩ := hkept
  exact Dev.when_of (P := fun e => Dev.PairBut pathFields d e ∧ Dev.MateButLoss d.mate e) _ ⟨hpair, l, r, hmate⟩
    ⟨hpair.mateBit _ (by decide) (by decide) _, l, r, (Dev.mateBit_mate ..).trans hmate⟩

theorem Dev.get_showPaths {g : Field} (hg : inPairRegs g.off = true) (hl : ∀ f ∈ pathFields, f.apart g = true) :
    d.showPaths.get g = d.get g := d.showPaths_keeps.1 g hg hl

end

/-! The configuration of the pair (R462) -/

section
variable (d : Dev) (data : W32)

/-- The pair enabled: its heartbeats begin. -/
def Dev.pairEnabled (d : Dev) (data : W32) : Dev :=
  ((d.regWrite Reg.mateCfg data).setMate { lane := { last := d.now }, side := { last := d.now }, released := d.mate.released }).enterRejoin

/-- The pair disabled: nothing of it is held. -/
def Dev.pairDisabled (d : Dev) (data : W32) : Dev :=
  (((((((d.regWrite Reg.mateCfg data).releaseLid).setMate {}).setRole roleSolo).put F.mateStatRejoinStep 0).mateBit F.mateStatIsolated
    F.mateEvtIsolated false).lower F.mateStatInterlock).lower F.mateStatLidDrv

theorem Dev.writeMateCfg_eq : d.writeMateCfg data =
    (if !d.on F.mateCfgEn && (d.regWrite Reg.mateCfg data).on F.mateCfgEn then (d.pairEnabled data).showPaths
     else if d.on F.mateCfgEn && !(d.regWrite Reg.mateCfg data).on F.mateCfgEn then (d.pairDisabled data).showPaths
     else d.regWrite Reg.mateCfg data) := by
  rw [Dev.writeMateCfg, Dev.pairEnabled, Dev.pairDisabled]

theorem Dev.writeMateCfg_enables (h : d.on F.mateCfgEn = false) (hen : (d.regWrite Reg.mateCfg data).on F.mateCfgEn = true) :
    d.writeMateCfg data = (d.pairEnabled data).showPaths := by
  rw [Dev.writeMateCfg_eq, h, hen]
  exact if_pos rfl

theorem Dev.writeMateCfg_disables (h : d.on F.mateCfgEn = true) (hen : (d.regWrite Reg.mateCfg data).on F.mateCfgEn = false) :
    d.writeMateCfg data = (d.pairDisabled data).showPaths := by
  rw [Dev.writeMateCfg_eq, h, hen]
  exact (if_neg (by decide)).trans (if_pos rfl)

theorem Dev.writeMateCfg_keeps (hen : (d.regWrite Reg.mateCfg data).on F.mateCfgEn = d.on F.mateCfgEn) :
    d.writeMateCfg data = d.regWrite Reg.mateCfg data := by
  rw [Dev.writeMateCfg_eq, hen, if_neg (by cases d.on F.mateCfgEn <;> decide), if_neg (by cases d.on F.mateCfgEn <;> decide)]

theorem Dev.pairEnabled_shows : (d.pairEnabled data).showPaths.role = roleRejoin ∧ (d.pairEnabled data).showPaths.get F.mateStatRejoinStep = 1
    ∧ (d.pairEnabled data).showPaths.mate.drive0 = false ∧ (d.pairEnabled data).showPaths.mate.drive1 = false := by
  obtain ⟨hdrive0, hdrive1⟩ := (d.pairEnabled data).showPaths_keeps.2.drives
  obtain ⟨henter0, henter1⟩ := ((d.regWrite Reg.mateCfg data).setMate
    { lane := { last := d.now }, side := { last := d.now }, released := d.mate.released }).enterRejoin_drives rfl rfl
  refine ⟨?_, ?_, hdrive0.trans henter0, hdrive1.trans henter1⟩
  · exact ((d.pairEnabled data).get_showPaths (g := F.mateStatRole) (by decide) (by decide)).trans (Dev.enterRejoin_role _)
  · exact ((d.pairEnabled data).get_showPaths (g := F.mateStatRejoinStep) (by decide) (by decide)).trans (Dev.enterRejoin_step _)

theorem Dev.pairDisabled_shows : (d.pairDisabled data).showPaths.role = roleSolo
    ∧ (d.pairDisabled data).showPaths.mate.drive0 = false ∧ (d.pairDisabled data).showPaths.mate.drive1 = false := by
  obtain ⟨hdrive0, hdrive1⟩ := (d.pairDisabled data).showPaths_keeps.2.drives
  have hmate : (d.pairDisabled data).mate = (((d.regWrite Reg.mateCfg data).releaseLid.setMate {}).setRole roleSolo).mate := by
    simp only [Dev.pairDisabled, Dev.lower, Dev.mateBit_mate, Dev.put_mate]
  rw [hmate, Dev.setRole_mateButItems] at hdrive0 hdrive1
  refine ⟨?_, hdrive0, hdrive1⟩
  refine ((d.pairDisabled data).get_showPaths (g := F.mateStatRole) (by decide) (by decide)).trans ?_
  simp (disch := decide) only [Dev.pairDisabled, Dev.lower, Dev.get_mateBit, Dev.get_put_of_apart]
  exact Dev.setRole_role _ (by decide)

end

section
variable {s : State} {m : Master} {data : W32} (hw : s.mayWrite m.val Reg.mateCfg)

theorem exec_mateEnable (m : Master) (data : W32) (s : State) :
    exec (.mateEnable m data) s = .next { s with dev := s.dev.write m.val Reg.mateCfg (fun d => okay (d.writeMateCfg data)) } := rfl

include hw

/-- What a write of the configuration shows once its effect is `e`. -/
theorem mateEnable_shows {e : Dev} (he : s.dev.writeMateCfg data = e) :
    ∃ t, exec (.mateEnable m data) s = .next t ∧ (t.dev.replyTo m.val).resp = .okay ∧ t.dev.get F.mateStatRole = e.role
      ∧ t.dev.get F.mateStatRejoinStep = e.get F.mateStatRejoinStep ∧ t.dev.mate.drive0 = e.mate.drive0 ∧ t.dev.mate.drive1 = e.mate.drive1
      ∧ KeepsMemories s t := by
  have hop : (fun d : Dev => okay (d.writeMateCfg data)) s.dev = okay e := by rw [← he]
  obtain ⟨hreply, hwords, -⟩ := Dev.write_okay (op := fun d => okay (d.writeMateCfg data)) hw hop
  have hmate := Dev.write_okay_mate (op := fun d => okay (d.writeMateCfg data)) hw hop
  refine ⟨_, exec_mateEnable m data s, hreply, Dev.get_of_words hwords F.mateStatRole, Dev.get_of_words hwords _, ?_, ?_, rfl, rfl⟩
  · exact hmate.read Mate.drive0 fun _ _ => rfl
  · exact hmate.read Mate.drive1 fun _ _ => rfl

theorem mateEnable_rejoins (h : s.dev.on F.mateCfgEn = false) (hen : (s.dev.regWrite Reg.mateCfg data).on F.mateCfgEn = true) :
    ∃ t, exec (.mateEnable m data) s = .next t ∧ (t.dev.replyTo m.val).resp = .okay ∧ t.dev.role = roleRejoin
      ∧ t.dev.get F.mateStatRejoinStep = 1 ∧ t.dev.mate.drive0 = false ∧ t.dev.mate.drive1 = false ∧ KeepsMemories s t := by
  obtain ⟨t, hexec, hreply, hrole', hstep', hdrive0', hdrive1', hmem⟩ := mateEnable_shows hw (s.dev.writeMateCfg_enables data h hen)
  obtain ⟨hrole, hstep, hdrive0, hdrive1⟩ := s.dev.pairEnabled_shows data
  exact ⟨t, hexec, hreply, hrole'.trans hrole, hstep'.trans hstep, hdrive0'.trans hdrive0, hdrive1'.trans hdrive1, hmem⟩

theorem mateEnable_leaves (h : s.dev.on F.mateCfgEn = true) (hen : (s.dev.regWrite Reg.mateCfg data).on F.mateCfgEn = false) :
    ∃ t, exec (.mateEnable m data) s = .next t ∧ (t.dev.replyTo m.val).resp = .okay ∧ t.dev.role = roleSolo
      ∧ t.dev.mate.drive0 = false ∧ t.dev.mate.drive1 = false ∧ KeepsMemories s t := by
  obtain ⟨t, hexec, hreply, hrole', -, hdrive0', hdrive1', hmem⟩ := mateEnable_shows hw (s.dev.writeMateCfg_disables data h hen)
  obtain ⟨hrole, hdrive0, hdrive1⟩ := s.dev.pairDisabled_shows data
  exact ⟨t, hexec, hreply, hrole'.trans hrole, hdrive0'.trans hdrive0, hdrive1'.trans hdrive1, hmem⟩

theorem mateEnable_writes (hen : (s.dev.regWrite Reg.mateCfg data).on F.mateCfgEn = s.dev.on F.mateCfgEn) :
    ∃ t, exec (.mateEnable m data) s = .next t ∧ AnsweredWords m.val .okay [Reg.mateCfg] s t
      ∧ t.dev.word Reg.mateCfg = (s.dev.regWrite Reg.mateCfg data).word Reg.mateCfg := by
  have hop : (fun d : Dev => okay (d.writeMateCfg data)) s.dev = okay (s.dev.regWrite Reg.mateCfg data) := by
    rw [← s.dev.writeMateCfg_keeps data hen]
  obtain ⟨-, hwords, -⟩ := Dev.write_okay (op := fun d => okay (d.writeMateCfg data)) hw hop
  exact ⟨_, exec_mateEnable m data s, answeredWords_write hw hop (Dev.regWrite_wordsOnly ..), Dev.word_of_words hwords _⟩

end

/-! The interlock (R469) -/

theorem Dev.on_put_of_apart (d : Dev) {f g : Field} (v : Nat) (h : f.apart g = true) : (d.put f v).on g = d.on g := by
  rw [Dev.on, Dev.get_put_of_apart d v h, ← Dev.on]

theorem Dev.WordsOnly.seeLid {l : List Nat} {d e : Dev} (h : Dev.WordsOnly l d e) (hl : Reg.mateStat ∈ l) (a b : Bool) :
    Dev.WordsOnly l d (e.seeLid a b) := (h.put (f := F.mateStatLid0) hl _).put (f := F.mateStatLid1) hl _

theorem Dev.WordsOnly.state {l : List Nat} {s : State} {e : Dev} (h : Dev.WordsOnly l s.dev e) : OnlyWords l s { s with dev := e } :=
  ⟨congrArg (fun d => ({ s with dev := d } : State)) h.1, h.2⟩

section
variable {s : State} {ns : Nat}

theorem interlockFault_shows {a b : Bool} (hrole : s.dev.notHolding = true) (hab : a ≠ b) (hns : 100000 < ns) :
    ∃ t, exec (.interlockFault a b ns) s = .next t ∧ t.dev.on F.mateStatInterlock = true ∧ t.dev.on F.mateEvtInterlock = true
      ∧ t.dev.on F.mateStatLid0 = a ∧ t.dev.on F.mateStatLid1 = b ∧ OnlyWords [Reg.mateStat, F.mateEvtInterlock.off] s t := by
  have hexec : exec (.interlockFault a b ns) s = .next { s with dev := (s.dev.when (s.dev.notHolding && a != b && decide (100000 < ns)) (fun d =>
    ((d.seeLid a b).raise F.mateStatInterlock).raise F.mateEvtInterlock)) } := rfl
  rw [State.when_true s (by rw [hrole, decide_eq_true hns]; simpa using hab)] at hexec
  refine ⟨_, hexec, ?_, ?_, ?_, ?_, Dev.WordsOnly.state ?_⟩
  · exact (Dev.on_put_of_apart _ (f := F.mateEvtInterlock) (g := F.mateStatInterlock) 1 (by decide)).trans (Dev.on_raise _ F.mateStatInterlock (by decide) (by decide))
  · exact Dev.on_raise _ F.mateEvtInterlock (by decide) (by decide)
  · simp (disch := decide) only [Dev.on, Dev.raise, Dev.get_put_of_apart]
    exact Dev.seeLid_lid0 ..
  · simp (disch := decide) only [Dev.on, Dev.raise, Dev.get_put_of_apart]
    exact Dev.seeLid_lid1 ..
  · exact (((Dev.WordsOnly.refl _ s.dev).seeLid (.head _) a b).put (f := F.mateStatInterlock) (.head _) 1).put (.tail _ (.head _)) 1

theorem interlockClear_shows {a : Bool} (hrole : s.dev.role ≠ roleSolo) (hns : 100000 ≤ ns) :
    ∃ t, exec (.interlockClear a a ns) s = .next t ∧ t.dev.on F.mateStatInterlock = false
      ∧ (a = false → t.dev.on F.mateStatLidDrv = false) ∧ OnlyWords [Reg.mateStat] s t := by
  have hexec : exec (.interlockClear a a ns) s = .next { s with dev := (s.dev.when (s.dev.role != roleSolo && a == a && decide (100000 ≤ ns))
    (fun d => ((d.seeLid a a).lower F.mateStatInterlock).when (!a) (fun e => e.lower F.mateStatLidDrv))) } := rfl
  rw [State.when_true s (by rw [decide_eq_true hns]; simpa using hrole)] at hexec
  have hlow : ((s.dev.seeLid a a).lower F.mateStatInterlock).on F.mateStatInterlock = false := Dev.on_lower _ _ (by decide)
  have hwords : Dev.WordsOnly [Reg.mateStat] s.dev ((s.dev.seeLid a a).lower F.mateStatInterlock) :=
    ((Dev.WordsOnly.refl _ s.dev).seeLid (.head _) a a).put (f := F.mateStatInterlock) (.head _) 0
  refine ⟨_, hexec, ?_, ?_, Dev.WordsOnly.state (Dev.when_of _ hwords (hwords.put (f := F.mateStatLidDrv) (.head _) 0))⟩
  · exact Dev.when_of (P := fun e => e.on F.mateStatInterlock = false) _ hlow
      ((Dev.on_put_of_apart _ (f := F.mateStatLidDrv) (g := F.mateStatInterlock) 0 (by decide)).trans hlow)
  · intro ha
    subst ha
    exact Dev.on_lower _ F.mateStatLidDrv (by decide)

theorem lidDrv_shows (line1 : Bool) (hrole : s.dev.role = roleActive) :
    ∃ t, exec (.lidDrv line1) s = .next t ∧ t.dev.on F.mateStatLidDrv = true ∧ t.dev.on (lidBit line1) = true
      ∧ t.dev.role = roleActive ∧ OnlyWords [Reg.mateStat, F.mateEvtInterlock.off] s t := by
  have hexec : exec (.lidDrv line1) s = .next { s with dev := (s.dev.when (s.dev.role == roleActive) (fun d =>
    ((d.put (lidBit line1) 1).raise F.mateStatLidDrv).raise F.mateEvtInterlock)) } := rfl
  rw [State.when_true s (by rw [hrole]; rfl)] at hexec
  have hlid : lidBit line1 = F.mateStatLid0 ∨ lidBit line1 = F.mateStatLid1 := by cases line1 <;> simp [lidBit]
  obtain ⟨f, hf⟩ : ∃ f, f = lidBit line1 := ⟨_, rfl⟩
  rw [← hf] at hexec hlid ⊢
  have hoff : f.off = Reg.mateStat ∧ f.lo + f.len ≤ 32 ∧ f.len = 1 ∧ F.mateStatLidDrv.apart f = true ∧ F.mateEvtInterlock.apart f = true
      ∧ f.apart F.mateStatRole = true := by
    rcases hlid with h | h <;> subst h <;> decide
  obtain ⟨hoff, hlo, hlen, hdrv, hevt, hkeep⟩ := hoff
  refine ⟨_, hexec, ?_, ?_, ?_, Dev.WordsOnly.state ?_⟩
  · exact (Dev.on_put_of_apart _ (f := F.mateEvtInterlock) (g := F.mateStatLidDrv) 1 (by decide)).trans (Dev.on_raise _ F.mateStatLidDrv (by decide) (by decide))
  · rw [Dev.on, Dev.raise, Dev.get_put_of_apart _ _ hevt, Dev.raise, Dev.get_put_of_apart _ _ hdrv]
    exact Dev.on_raise _ f hlo (by omega)
  · rw [Dev.role, Dev.raise, Dev.get_put_of_apart _ _ (by decide), Dev.raise, Dev.get_put_of_apart _ _ (by decide), Dev.get_put_of_apart _ _ hkeep]
    exact hrole
  · exact (((Dev.WordsOnly.refl _ s.dev).put (f := f) (by rw [hoff]; exact .head _) 1).put (f := F.mateStatLidDrv) (.head _) 1).put
      (.tail _ (.head _)) 1

end

/-- Settles O45, by the two branches of a write of MATE.CFG, and the Lid's lines as the interlock reads them. -/
theorem lidAndInterlock : Obligations.LidAndInterlock := by
  unfold Obligations.LidAndInterlock
  exact fun s => ⟨fun m data hw => ⟨mateEnable_rejoins hw, mateEnable_leaves hw, mateEnable_writes hw⟩,
    fun a b ns => interlockFault_shows, fun a ns => interlockClear_shows, lidDrv_shows⟩

end Sys2Proof.Machine

/-! The commands of MATE.CMD, the self-check and its outcome (R470, R487 to R489, R498). -/

namespace Sys2Proof.Machine

set_option Elab.async false -- a proof at a time, within the memory of a check

/-- A control block on a lane that the pair uses is heard. -/
theorem Dev.controlArrives_heard {d : Dev} {on : MateLane} {payload : List Byte} {f : Dev → Dev} (h : d.hearsControl on payload) :
    d.controlArrives on payload f = f d := by
  obtain ⟨hrole, hframe, hexcluded, hname, hlanes⟩ := h
  unfold Dev.controlArrives
  have hpaired : ¬ d.get F.mateStatRole = 0 := hrole
  rw [if_neg hpaired, if_neg (by simpa [hframe] using hexcluded), if_neg (fun hne => hne hname), hlanes]
  rfl

/-! Commands and their results -/

theorem Dev.on_of_get {d e : Dev} {f : Field} (h : d.get f = e.get f) : d.on f = e.on f := by rw [Dev.on, h, ← Dev.on]

section
variable (d : Dev) (op res : Nat)

theorem Dev.mateResult_wordsOnly : Dev.WordsOnly [Reg.mateCmdStat] d (d.mateResult op res) :=
  ((Dev.WordsOnly.refl _ d).put (f := F.mateCmdStatOp) (.head _) op).put (f := F.mateCmdStatResult) (.head _) res

theorem Dev.get_mateResult {g : Field} (h : g.off ≠ Reg.mateCmdStat) : (d.mateResult op res).get g = d.get g :=
  (d.mateResult_wordsOnly op res).2.get (by simpa using h)

theorem Dev.mateResult_mate : (d.mateResult op res).mate = d.mate := by simp only [Dev.mateResult, Dev.put_mate]

theorem Dev.mateResult_shows (hop : op < 16) (hres : res < 4) :
    (d.mateResult op res).get F.mateCmdStatOp = op ∧ (d.mateResult op res).get F.mateCmdStatResult = res := by
  refine ⟨?_, (Dev.get_put_same _ F.mateCmdStatResult res (by decide)).trans (Nat.mod_eq_of_lt hres)⟩
  rw [Dev.mateResult, Dev.get_put_of_apart _ _ (by decide)]
  exact (Dev.get_put_same _ F.mateCmdStatOp op (by decide)).trans (Nat.mod_eq_of_lt hop)

end

/-- The handover of some state of the device: its lines are released and it is STANDBY. -/
theorem Dev.handOver_eq (d : Dev) : ∃ x : Dev, d.handOver = (((x.releaseLid).setMate
    { x.releaseLid.mate with released := some d.now, items := [], commit := none, sentEpoch := none }).setRole roleStandby).put
      F.mateStatRejoinStep 0 := ⟨_, by rw [Dev.handOver]⟩

theorem Dev.handOver_shows (d : Dev) : d.handOver.role = roleStandby ∧ d.handOver.mate.drive0 = false ∧ d.handOver.mate.drive1 = false := by
  obtain ⟨x, hx⟩ := d.handOver_eq
  rw [hx, Dev.put_mate, Dev.role, Dev.get_put_of_apart _ _ (by decide), Dev.setRole_mateButItems, Dev.setMate_mate, x.releaseLid_mate]
  exact ⟨Dev.setRole_role _ (by decide), rfl, rfl⟩

section
variable {s : State} {m : Master} (hw : s.mayWrite m.val Reg.mateCmd)

include hw

/-- What a command of MATE.CMD shows once its effect is `e`. -/
theorem mateCmdBy_shows {op : Nat} {e : Dev} (he : s.dev.writeMateCmd (BitVec.ofNat 32 op) = e) :
    ((s.dev.mateCmdBy m.val op).replyTo m.val).resp = .okay ∧ (s.dev.mateCmdBy m.val op).words = e.words
      ∧ e.MateButItems (s.dev.mateCmdBy m.val op) := by
  have hop : (fun d : Dev => okay (d.writeMateCmd (BitVec.ofNat 32 op))) s.dev = okay e := by rw [← he]
  obtain ⟨hreply, hwords, -⟩ := Dev.write_okay (op := fun d => okay (d.writeMateCmd (BitVec.ofNat 32 op))) hw hop
  exact ⟨hreply, hwords, Dev.write_okay_mate (op := fun d => okay (d.writeMateCmd (BitVec.ofNat 32 op))) hw hop⟩

/-- What it shows where its effect reaches words alone. -/
theorem mateCmdBy_answers {op : Nat} {e : Dev} {l : List Nat} (he : s.dev.writeMateCmd (BitVec.ofNat 32 op) = e) (h : Dev.WordsOnly l s.dev e) :
    AnsweredWords m.val .okay l s { s with dev := s.dev.mateCmdBy m.val op } := by
  have hop : (fun d : Dev => okay (d.writeMateCmd (BitVec.ofNat 32 op))) s.dev = (e, .okay) := by rw [← he]; rfl
  exact answeredWords_write hw hop h

theorem handover_shows (hmay : s.dev.mayHandOver = true) :
    ∃ t, exec (.handover m) s = .next t ∧ (t.dev.replyTo m.val).resp = .okay ∧ t.dev.role = roleStandby
      ∧ t.dev.mate.drive0 = false ∧ t.dev.mate.drive1 = false ∧ t.dev.get F.mateCmdStatOp = 1
      ∧ t.dev.get F.mateCmdStatResult = mateDone ∧ KeepsMemories s t := by
  have he : s.dev.writeMateCmd (BitVec.ofNat 32 1) = s.dev.handOver.mateResult 1 mateDone := by
    change s.dev.cmdHandover = _
    rw [Dev.cmdHandover, if_pos hmay]
  have hexec : exec (.handover m) s = .next { s with dev := s.dev.mateCmdBy m 1 } := rfl
  obtain ⟨hrole, hdrive0, hdrive1⟩ := s.dev.handOver_shows
  obtain ⟨x, hx⟩ : ∃ x, x = s.dev.handOver := ⟨_, rfl⟩
  rw [← hx] at he hrole hdrive0 hdrive1
  obtain ⟨hreply, hwords, hmate⟩ := mateCmdBy_shows hw he
  obtain ⟨hop, hres⟩ := x.mateResult_shows 1 mateDone (by decide) (by decide)
  have hlines : (x.mateResult 1 mateDone).mate = x.mate := x.mateResult_mate 1 mateDone
  refine ⟨_, hexec, hreply, ?_, ?_, ?_, (Dev.get_of_words hwords _).trans hop, (Dev.get_of_words hwords _).trans hres, rfl, rfl⟩
  · exact (Dev.get_of_words hwords F.mateStatRole).trans ((x.get_mateResult 1 mateDone (by decide)).trans hrole)
  · exact (hmate.read Mate.drive0 fun _ _ => rfl).trans ((congrArg Mate.drive0 hlines).trans hdrive0)
  · exact (hmate.read Mate.drive1 fun _ _ => rfl).trans ((congrArg Mate.drive1 hlines).trans hdrive1)

theorem handover_refused (hmay : s.dev.mayHandOver = false) :
    ∃ t, exec (.handover m) s = .next t ∧ AnsweredWords m.val .okay [Reg.mateCmdStat] s t
      ∧ t.dev.get F.mateCmdStatOp = 1 ∧ t.dev.get F.mateCmdStatResult = mateRefused := by
  have he : s.dev.writeMateCmd (BitVec.ofNat 32 1) = s.dev.mateResult 1 mateRefused := by
    change s.dev.cmdHandover = _
    rw [Dev.cmdHandover, hmay]
    rfl
  have hexec : exec (.handover m) s = .next { s with dev := s.dev.mateCmdBy m 1 } := rfl
  obtain ⟨-, hwords, -⟩ := mateCmdBy_shows hw he
  obtain ⟨hop, hres⟩ := s.dev.mateResult_shows 1 mateRefused (by decide) (by decide)
  exact ⟨_, hexec, mateCmdBy_answers hw he (s.dev.mateResult_wordsOnly _ _), (Dev.get_of_words hwords _).trans hop,
    (Dev.get_of_words hwords _).trans hres⟩

theorem clearSuspect_shows :
    ∃ t, exec (.clearSuspect m) s = .next t ∧ AnsweredWords m.val .okay [Reg.mateStat, Reg.mateCmdStat] s t
      ∧ t.dev.on F.mateStatSuspect = false ∧ t.dev.role = s.dev.role ∧ t.dev.get F.mateCmdStatOp = 2
      ∧ t.dev.get F.mateCmdStatResult = mateDone := by
  have he : s.dev.writeMateCmd (BitVec.ofNat 32 2) = (s.dev.lower F.mateStatSuspect).mateResult 2 mateDone := by
    change s.dev.cmdClearSuspect = _
    rw [Dev.cmdClearSuspect]
  have hexec : exec (.clearSuspect m) s = .next { s with dev := s.dev.mateCmdBy m 2 } := rfl
  have hlow : (s.dev.lower F.mateStatSuspect).on F.mateStatSuspect = false := Dev.on_lower _ _ (by decide)
  have hrole : (s.dev.lower F.mateStatSuspect).get F.mateStatRole = s.dev.role := Dev.get_put_of_apart _ _ (by decide)
  have honly : Dev.WordsOnly [Reg.mateStat, Reg.mateCmdStat] s.dev (s.dev.lower F.mateStatSuspect) :=
    (Dev.WordsOnly.refl _ _).put (f := F.mateStatSuspect) (.head _) 0
  obtain ⟨x, hx⟩ : ∃ x, x = s.dev.lower F.mateStatSuspect := ⟨_, rfl⟩
  rw [← hx] at he hlow hrole honly
  obtain ⟨-, hwords, -⟩ := mateCmdBy_shows hw he
  obtain ⟨hop, hres⟩ := x.mateResult_shows 2 mateDone (by decide) (by decide)
  refine ⟨_, hexec, mateCmdBy_answers hw he (honly.trans ((x.mateResult_wordsOnly _ _).mono (List.subset_cons_self _ _))), ?_, ?_,
    (Dev.get_of_words hwords _).trans hop, (Dev.get_of_words hwords _).trans hres⟩
  · exact (Dev.on_of_get (Dev.get_of_words hwords _)).trans ((Dev.on_of_get (x.get_mateResult 2 mateDone (by decide))).trans hlow)
  · exact (Dev.get_of_words hwords F.mateStatRole).trans ((x.get_mateResult 2 mateDone (by decide)).trans hrole)

theorem rejoin_shows (h : s.dev.role = roleStandby ∨ s.dev.role = roleRejoin ∨ s.dev.mayHandOver = true) :
    ∃ t, exec (.rejoin m) s = .next t ∧ (t.dev.replyTo m.val).resp = .okay ∧ t.dev.role = roleRejoin
      ∧ t.dev.get F.mateStatRejoinStep = 1 ∧ t.dev.on F.mateStatSuspect = false ∧ t.dev.mate.snapDone = false
      ∧ t.dev.get F.mateCmdStatOp = 3 ∧ t.dev.get F.mateCmdStatResult = mateRunning ∧ KeepsMemories s t := by
  have he : ∃ y : Dev, s.dev.writeMateCmd (BitVec.ofNat 32 3) = y.enterRejoin.mateResult 3 mateRunning := by
    change ∃ y : Dev, s.dev.cmdRejoin = _
    rw [Dev.cmdRejoin]
    by_cases hrole : s.dev.role = roleStandby ∨ s.dev.role = roleRejoin
    · exact ⟨s.dev, if_pos hrole⟩
    · have hmay : s.dev.mayHandOver = true := by
        rcases h with h | h | h
        · exact absurd (.inl h) hrole
        · exact absurd (.inr h) hrole
        · exact h
      exact ⟨s.dev.handOver, (if_neg hrole).trans (if_pos hmay)⟩
  obtain ⟨y, he⟩ := he
  have hexec : exec (.rejoin m) s = .next { s with dev := s.dev.mateCmdBy m 3 } := rfl
  have hrole := y.enterRejoin_role
  have hstep := y.enterRejoin_step
  have hsuspect := y.enterRejoin_suspect
  have hsnap : y.enterRejoin.mate.snapDone = false := by rw [y.enterRejoin_mate]
  obtain ⟨x, hx⟩ : ∃ x, x = y.enterRejoin := ⟨_, rfl⟩
  rw [← hx] at he hrole hstep hsuspect hsnap
  obtain ⟨hreply, hwords, hmate⟩ := mateCmdBy_shows hw he
  obtain ⟨hop, hres⟩ := x.mateResult_shows 3 mateRunning (by decide) (by decide)
  have hget (g : Field) (hg : g.off ≠ Reg.mateCmdStat) : (s.dev.mateCmdBy m.val 3).get g = x.get g :=
    (Dev.get_of_words hwords g).trans (x.get_mateResult 3 mateRunning hg)
  refine ⟨_, hexec, hreply, (hget F.mateStatRole (by decide)).trans hrole, (hget _ (by decide)).trans hstep,
    (Dev.on_of_get (hget _ (by decide))).trans hsuspect, ?_, (Dev.get_of_words hwords _).trans hop, (Dev.get_of_words hwords _).trans hres, rfl, rfl⟩
  exact (hmate.read Mate.snapDone fun _ _ => rfl).trans ((congrArg Mate.snapDone (x.mateResult_mate 3 mateRunning)).trans hsnap)

end

/-! The self-check begins (R487) -/

/-- The device holds the state of the pair that `m` is, but for the messages that go out. -/
theorem Dev.mateQueue_keeps (d : Dev) (l : List MateMsg) : (d.mateQueue l).words = d.words ∧ ∃ o, (d.mateQueue l).mate = { d.mate with out := o } := by
  unfold Dev.mateQueue
  split
  · exact ⟨rfl, d.mate.out, rfl⟩
  · exact ⟨rfl, _, rfl⟩

section
variable (d : Dev)

/-- The registers of the self-check as it begins. -/
def Dev.selfBegun (d : Dev) : Dev :=
  (((d.setMate { d.mate with checking := true, passAt := none, health := none }).put F.mateSelfchkMate 0).raise F.mateSelfchkVerifyPend)

/-- The fields in which the local result shows. -/
def selfFields : List Field := [F.mateSelfchkFail, F.mateSelfchkLocal]

theorem Dev.selfBegins_keeps : Dev.PairBut selfFields d d.selfBegins ∧ d.selfBegins.mate = d.mate := by
  have hput (v w : Nat) : Dev.PairBut selfFields d ((d.put F.mateSelfchkFail v).put F.mateSelfchkLocal w)
      ∧ ((d.put F.mateSelfchkFail v).put F.mateSelfchkLocal w).mate = d.mate :=
    ⟨((Dev.PairBut.refl _ d).put (.head _) v).put (.tail _ (.head _)) w, by rw [Dev.put_mate, Dev.put_mate]⟩
  unfold Dev.selfBegins
  split
  · exact hput _ _
  · rw [Dev.selfResult]
    exact hput _ _

theorem Dev.selfBegins_runs (hrole : d.role ≠ roleSolo) (hup : d.mate.lane.up = true) :
    d.selfBegins.get F.mateSelfchkLocal = 3 ∧ d.selfBegins.get F.mateSelfchkFail = 0 := by
  rw [Dev.selfBegins, if_pos ⟨hrole, hup⟩]
  refine ⟨Dev.get_put_same _ _ _ (by decide), ?_⟩
  rw [Dev.get_put_of_apart _ _ (by decide)]
  exact Dev.get_put_same _ _ _ (by decide)

/-- What the start of the self-check leaves beside its registers: what it says to the mate and to the Groomer is no register. -/
theorem Dev.startSelfCheck_keeps : d.startSelfCheck.words = d.selfBegun.selfBegins.words
    ∧ ∃ o, d.startSelfCheck.mate = { d.selfBegun.selfBegins.mate with out := o } := by
  obtain ⟨x, hx⟩ : ∃ x, x = d.selfBegun.selfBegins := ⟨_, rfl⟩
  have heq : d.startSelfCheck = (x.saySelfCheck.setGrm { x.saySelfCheck.grm with epochDue := true }).verifyNext := by
    rw [hx, Dev.startSelfCheck, Dev.selfBegun]
  rw [heq, ← hx]
  have hmate (y : Dev) : y.verifyNext.mate = y.mate := by
    unfold Dev.verifyNext
    split <;> rfl
  obtain ⟨hwords, o, hout⟩ := x.mateQueue_keeps [{ since := x.now, type := 5, field8 := BitVec.ofNat 8 3, load := x.selfLoad }]
  refine ⟨(Dev.only_verifyNext _).words.trans ?_, o, (hmate _).trans ?_⟩
  · rw [Dev.setGrm_words]
    exact hwords
  · exact hout

theorem Dev.selfBegun_role : d.selfBegun.role = d.role := by
  simp (disch := decide) only [Dev.role, Dev.selfBegun, Dev.raise, Dev.get_put_of_apart, Dev.setMate_get]

theorem Dev.selfBegun_mate : d.selfBegun.mate = { d.mate with checking := true, passAt := none, health := none } := by
  rw [Dev.selfBegun, Dev.raise, Dev.put_mate, Dev.put_mate, Dev.setMate_mate]

theorem Dev.get_startSelfCheck {g : Field} (hg : inPairRegs g.off = true) (hl : ∀ f ∈ selfFields, f.apart g = true) :
    d.startSelfCheck.get g = d.selfBegun.get g :=
  (Dev.get_of_words d.startSelfCheck_keeps.1 g).trans (d.selfBegun.selfBegins_keeps.1 g hg hl)

theorem Dev.startSelfCheck_shows : d.startSelfCheck.mate.checking = true ∧ d.startSelfCheck.on F.mateSelfchkVerifyPend = true
    ∧ d.startSelfCheck.get F.mateSelfchkMate = 0 ∧ d.startSelfCheck.role = d.role := by
  refine ⟨?_, ?_, ?_, ?_⟩
  · obtain ⟨o, hmate⟩ := d.startSelfCheck_keeps.2
    rw [hmate, d.selfBegun.selfBegins_keeps.2, d.selfBegun_mate]
  · exact (Dev.on_of_get (d.get_startSelfCheck (by decide) (by decide))).trans (Dev.on_raise _ F.mateSelfchkVerifyPend (by decide) (by decide))
  · refine (d.get_startSelfCheck (by decide) (by decide)).trans ?_
    rw [Dev.selfBegun, Dev.raise, Dev.get_put_of_apart _ _ (by decide)]
    exact Dev.get_put_same _ _ _ (by decide)
  · exact (d.get_startSelfCheck (g := F.mateStatRole) (by decide) (by decide)).trans d.selfBegun_role

theorem Dev.startSelfCheck_runs (hrole : d.role ≠ roleSolo) (hup : d.mate.lane.up = true) :
    d.startSelfCheck.get F.mateSelfchkLocal = 3 ∧ d.startSelfCheck.get F.mateSelfchkFail = 0 := by
  have hlane : d.selfBegun.mate.lane.up = true := by
    rw [d.selfBegun_mate]
    exact hup
  obtain ⟨hlocal, hfail⟩ := d.selfBegun.selfBegins_runs (by rw [d.selfBegun_role]; exact hrole) hlane
  exact ⟨(Dev.get_of_words d.startSelfCheck_keeps.1 _).trans hlocal, (Dev.get_of_words d.startSelfCheck_keeps.1 _).trans hfail⟩

end

theorem selfCheck_starts {s : State} {m : Master} (hw : s.mayWrite m.val Reg.mateCmd) (hrole : s.dev.role = roleActive ∨ s.dev.role = roleStandby) :
    ∃ t, exec (.selfCheck m) s = .next t ∧ (t.dev.replyTo m.val).resp = .okay ∧ t.dev.mate.checking = true
      ∧ t.dev.on F.mateSelfchkVerifyPend = true ∧ t.dev.get F.mateSelfchkMate = 0 ∧ t.dev.role = s.dev.role
      ∧ (s.dev.mate.lane.up = true → t.dev.get F.mateSelfchkLocal = 3 ∧ t.dev.get F.mateSelfchkFail = 0)
      ∧ t.dev.get F.mateCmdStatOp = 4 ∧ t.dev.get F.mateCmdStatResult = mateRunning ∧ KeepsMemories s t := by
  have he : s.dev.writeMateCmd (BitVec.ofNat 32 4) = s.dev.startSelfCheck.mateResult 4 mateRunning := by
    change s.dev.cmdSelfCheck = _
    rw [Dev.cmdSelfCheck, if_pos hrole]
  have hexec : exec (.selfCheck m) s = .next { s with dev := s.dev.mateCmdBy m 4 } := rfl
  have hsolo : s.dev.role ≠ roleSolo := by
    rcases hrole with h | h <;> rw [h] <;> decide
  obtain ⟨hchecking, hpend, hother, hkept⟩ := s.dev.startSelfCheck_shows
  have hruns := s.dev.startSelfCheck_runs hsolo
  obtain ⟨x, hx⟩ : ∃ x, x = s.dev.startSelfCheck := ⟨_, rfl⟩
  rw [← hx] at he hchecking hpend hother hkept hruns
  obtain ⟨hreply, hwords, hmate⟩ := mateCmdBy_shows hw he
  obtain ⟨hop, hres⟩ := x.mateResult_shows 4 mateRunning (by decide) (by decide)
  have hget (g : Field) (hg : g.off ≠ Reg.mateCmdStat) : (s.dev.mateCmdBy m.val 4).get g = x.get g :=
    (Dev.get_of_words hwords g).trans (x.get_mateResult 4 mateRunning hg)
  refine ⟨_, hexec, hreply, ?_, (Dev.on_of_get (hget _ (by decide))).trans hpend, (hget _ (by decide)).trans hother,
    (hget F.mateStatRole (by decide)).trans hkept, fun hup => ?_, (Dev.get_of_words hwords _).trans hop, (Dev.get_of_words hwords _).trans hres, rfl, rfl⟩
  · exact (hmate.read Mate.checking fun _ _ => rfl).trans ((congrArg Mate.checking (x.mateResult_mate 4 mateRunning)).trans hchecking)
  · obtain ⟨hlocal, hfail⟩ := hruns hup
    exact ⟨(hget _ (by decide)).trans hlocal, (hget _ (by decide)).trans hfail⟩

/-! The outcome of a self-check (R488) -/

section
variable (d : Dev)

/-- The pair's state once a self-check is over. -/
def Dev.checkedMate (d : Dev) : Mate := { d.mate with
  checking := false, passAt := if d.get F.mateSelfchkLocal = 1 ∧ d.get F.mateSelfchkMate = 1 then some d.now else none }

/-- The self-check over, before what follows of its outcome. -/
def Dev.selfEnded (d : Dev) : Dev :=
  let d1 := (d.raise F.mateEvtSelfchkDone).setMate d.checkedMate
  d1.when (d1.get F.mateCmdStatOp == 4 && d1.get F.mateCmdStatResult == mateRunning) (fun e => e.put F.mateCmdStatResult mateDone)

/-- The device that found itself at fault while ACTIVE: its lines are released and it is STANDBY. -/
def Dev.faultGivesUp (d : Dev) (at' : Nat) : Dev :=
  (d.releaseLid.setMate { d.releaseLid.mate with released := some at', items := [], sentEpoch := none }).setRole roleStandby

theorem Dev.selfEnded_mate : d.selfEnded.mate = d.checkedMate :=
  Dev.when_of (P := fun e => e.mate = d.checkedMate) _ (Dev.setMate_mate _ _) ((Dev.put_mate ..).trans (Dev.setMate_mate _ _))

theorem Dev.selfEnded_pairBut : Dev.PairBut [F.mateCmdStatResult] (d.raise F.mateEvtSelfchkDone) d.selfEnded := by
  have hset : Dev.PairBut [F.mateCmdStatResult] (d.raise F.mateEvtSelfchkDone) ((d.raise F.mateEvtSelfchkDone).setMate d.checkedMate) :=
    (Dev.PairBut.refl _ _).of_words (Dev.setMate_words _ _)
  exact Dev.when_of (P := Dev.PairBut [F.mateCmdStatResult] (d.raise F.mateEvtSelfchkDone)) _ hset (hset.put (.head _) _)

theorem Dev.selfEnded_shows : d.selfEnded.on F.mateEvtSelfchkDone = true ∧ d.selfEnded.role = d.role
    ∧ d.selfEnded.on F.mateStatSuspect = d.on F.mateStatSuspect :=
  ⟨(Dev.on_of_get (d.selfEnded_pairBut _ (by decide) (by decide))).trans (Dev.on_raise _ F.mateEvtSelfchkDone (by decide) (by decide)),
    (d.selfEnded_pairBut F.mateStatRole (by decide) (by decide)).trans (Dev.get_put_of_apart _ _ (by decide)),
    (Dev.on_of_get (d.selfEnded_pairBut _ (by decide) (by decide))).trans (Dev.on_put_of_apart _ _ (by decide))⟩

theorem Dev.faultGivesUp_shows (at' : Nat) : (d.faultGivesUp at').role = roleStandby ∧ (d.faultGivesUp at').mate.checking = d.mate.checking
    ∧ (d.faultGivesUp at').mate.passAt = d.mate.passAt ∧ (d.faultGivesUp at').on F.mateEvtSelfchkDone = d.on F.mateEvtSelfchkDone := by
  have hmate : (d.releaseLid.setMate { d.releaseLid.mate with released := some at', items := [], sentEpoch := none }).mate
      = { d.mate with drive0 := false, drive1 := false, seizing := none, released := some at', items := [], sentEpoch := none } := by
    rw [Dev.setMate_mate, d.releaseLid_mate]
  refine ⟨Dev.setRole_role _ (by decide), ?_, ?_, ?_⟩
  · rw [Dev.faultGivesUp, Dev.setRole_mateButItems, hmate]
  · rw [Dev.faultGivesUp, Dev.setRole_mateButItems, hmate]
  · refine Dev.on_of_get ?_
    rw [Dev.faultGivesUp, Dev.get_setRole _ (by decide) (by decide) (by decide), Dev.setMate_get]
    exact d.releaseLid_pairBut _ (by decide) (by decide)

theorem Dev.setSuspect_shows : d.setSuspect.on F.mateStatSuspect = true ∧ d.setSuspect.on F.mateEvtSuspect = true ∧ d.setSuspect.role = d.role
    ∧ d.setSuspect.on F.mateEvtSelfchkDone = d.on F.mateEvtSelfchkDone ∧ d.setSuspect.mate = d.mate := by
  refine ⟨?_, Dev.on_raise _ _ (by decide) (by decide), ?_, ?_, by rw [Dev.setSuspect, Dev.raise, Dev.put_mate, Dev.raise, Dev.put_mate]⟩
  · rw [Dev.setSuspect, Dev.raise, Dev.on_put_of_apart _ _ (by decide)]
    exact Dev.on_raise _ F.mateStatSuspect (by decide) (by decide)
  · rw [Dev.role, Dev.setSuspect, Dev.raise, Dev.get_put_of_apart _ _ (by decide), Dev.raise, Dev.get_put_of_apart _ _ (by decide), ← Dev.role]
  · rw [Dev.setSuspect, Dev.raise, Dev.on_put_of_apart _ _ (by decide), Dev.raise, Dev.on_put_of_apart _ _ (by decide)]

/-- The outcome by its two results. -/
theorem Dev.selfOutcome_eq : d.selfOutcome =
    (if d.get F.mateSelfchkLocal = 2 ∧ d.get F.mateSelfchkMate = 1 then
      if d.role = roleActive then (d.selfEnded.faultGivesUp d.now).setSuspect else d.selfEnded.setSuspect
    else d.selfEnded) := by
  rw [Dev.selfOutcome, Dev.selfEnded, Dev.checkedMate]
  rfl

/-- What every outcome ends. -/
def Dev.EndsCheck (d e : Dev) : Prop := e.mate.checking = false ∧ e.on F.mateEvtSelfchkDone = true
  ∧ e.mate.passAt = (if d.get F.mateSelfchkLocal = 1 ∧ d.get F.mateSelfchkMate = 1 then some d.now else none)

theorem Dev.selfEnded_ends : d.EndsCheck d.selfEnded := by
  obtain ⟨hdone, -, -⟩ := d.selfEnded_shows
  rw [Dev.EndsCheck, d.selfEnded_mate]
  exact ⟨rfl, hdone, rfl⟩

theorem Dev.EndsCheck.faultGivesUp {d e : Dev} (h : d.EndsCheck e) (at' : Nat) : d.EndsCheck (e.faultGivesUp at') := by
  obtain ⟨hchecking, hdone, hpass⟩ := h
  obtain ⟨-, hchecking', hpass', hdone'⟩ := e.faultGivesUp_shows at'
  exact ⟨hchecking'.trans hchecking, hdone'.trans hdone, hpass'.trans hpass⟩

theorem Dev.EndsCheck.setSuspect {d e : Dev} (h : d.EndsCheck e) : d.EndsCheck e.setSuspect := by
  obtain ⟨hchecking, hdone, hpass⟩ := h
  obtain ⟨-, -, -, hdone', hmate⟩ := e.setSuspect_shows
  exact ⟨(congrArg Mate.checking hmate).trans hchecking, hdone'.trans hdone, (congrArg Mate.passAt hmate).trans hpass⟩

theorem Dev.selfOutcome_ends : d.EndsCheck d.selfOutcome := by
  have hends := d.selfEnded_ends
  rw [d.selfOutcome_eq]
  split
  · split
    · exact (hends.faultGivesUp d.now).setSuspect
    · exact hends.setSuspect
  · exact hends

/-- A device at fault beside a mate that is well is STANDBY and suspect. -/
theorem Dev.selfOutcome_fault (hrole : d.role = roleActive ∨ d.role = roleStandby) (hown : d.get F.mateSelfchkLocal = 2)
    (hother : d.get F.mateSelfchkMate = 1) : d.selfOutcome.on F.mateStatSuspect = true ∧ d.selfOutcome.role = roleStandby := by
  obtain ⟨-, hkept, -⟩ := d.selfEnded_shows
  rw [d.selfOutcome_eq, if_pos ⟨hown, hother⟩]
  by_cases hactive : d.role = roleActive
  · rw [if_pos hactive]
    obtain ⟨hsuspect, -, hstays, -, -⟩ := (d.selfEnded.faultGivesUp d.now).setSuspect_shows
    exact ⟨hsuspect, hstays.trans (d.selfEnded.faultGivesUp_shows d.now).1⟩
  · rw [if_neg hactive]
    obtain ⟨hsuspect, -, hstays, -, -⟩ := d.selfEnded.setSuspect_shows
    exact ⟨hsuspect, hstays.trans (hkept.trans (hrole.resolve_left hactive))⟩

/-- Any other outcome changes no role. -/
theorem Dev.selfOutcome_keeps (h : ¬ (d.get F.mateSelfchkLocal = 2 ∧ d.get F.mateSelfchkMate = 1)) :
    d.selfOutcome.role = d.role ∧ d.selfOutcome.on F.mateStatSuspect = d.on F.mateStatSuspect := by
  obtain ⟨-, hrole, hsuspect⟩ := d.selfEnded_shows
  rw [d.selfOutcome_eq, if_neg h]
  exact ⟨hrole, hsuspect⟩

end

section
variable {s : State}

theorem selfCheckOutcome_shows (hchecking : s.dev.mate.checking = true) (hown : s.dev.get F.mateSelfchkLocal = 1 ∨ s.dev.get F.mateSelfchkLocal = 2)
    (hother : s.dev.get F.mateSelfchkMate = 1 ∨ s.dev.get F.mateSelfchkMate = 2) (hrole : s.dev.role = roleActive ∨ s.dev.role = roleStandby) :
    ∃ t, exec .selfCheckOutcome s = .next t ∧ t.dev.mate.checking = false ∧ t.dev.on F.mateEvtSelfchkDone = true
      ∧ t.dev.mate.passAt = (if s.dev.get F.mateSelfchkLocal = 1 ∧ s.dev.get F.mateSelfchkMate = 1 then some s.dev.now else none)
      ∧ (s.dev.get F.mateSelfchkLocal = 2 → s.dev.get F.mateSelfchkMate = 1 → t.dev.on F.mateStatSuspect = true ∧ t.dev.role = roleStandby)
      ∧ (s.dev.get F.mateSelfchkLocal = 1 ∨ s.dev.get F.mateSelfchkMate = 2 →
        t.dev.role = s.dev.role ∧ t.dev.on F.mateStatSuspect = s.dev.on F.mateStatSuspect)
      ∧ KeepsMemories s t := by
  have hknown (v : Nat) (h : v = 1 ∨ v = 2) : (v == 1 || v == 2) = true := by simpa using h
  have hholds : (s.dev.role == roleActive || s.dev.role == roleStandby) = true := by simpa using hrole
  have hexec : exec .selfCheckOutcome s = .next { s with dev := (s.dev.when (s.dev.mate.checking
      && (s.dev.get F.mateSelfchkLocal == 1 || s.dev.get F.mateSelfchkLocal == 2)
      && (s.dev.get F.mateSelfchkMate == 1 || s.dev.get F.mateSelfchkMate == 2)
      && (s.dev.role == roleActive || s.dev.role == roleStandby)) Dev.selfOutcome) } := rfl
  rw [State.when_true s (by rw [hchecking, hknown _ hown, hknown _ hother, hholds]; rfl)] at hexec
  obtain ⟨hover, hdone, hpass⟩ := s.dev.selfOutcome_ends
  refine ⟨_, hexec, hover, hdone, hpass, s.dev.selfOutcome_fault hrole, fun h => s.dev.selfOutcome_keeps fun hfault => ?_, rfl, rfl⟩
  rcases h with h | h <;> omega

theorem suspectTimeout_shows (at' : Nat) (hrole : s.dev.role = roleStandby) (hpass : s.dev.mate.passAt = some at')
    (hdue : at' + 62208000 ≤ s.dev.now) (hdis : s.dev.on F.mateStatDisagree = true) :
    ∃ t, exec .suspectTimeout s = .next t ∧ t.dev.on F.mateStatSuspect = true ∧ t.dev.on F.mateEvtSuspect = true
      ∧ Dev.WordsBut [Reg.mateStat, F.mateEvtSuspect.off] s.dev t.dev
      ∧ t = { s with dev := { s.dev with words := t.dev.words, mate := { s.dev.mate with passAt := none } } } := by
  have hexec : exec .suspectTimeout s = .next { s with dev := (s.dev.when (s.dev.role == roleStandby
      && s.dev.mate.passAt.any (fun t => decide (t + 100 * ticksPerMs ≤ s.dev.now)) && s.dev.on F.mateStatDisagree) (fun d =>
        (d.setMate { d.mate with passAt := none }).setSuspect)) } := rfl
  have hlate : s.dev.mate.passAt.any (fun t => decide (t + 100 * ticksPerMs ≤ s.dev.now)) = true := by
    have hms : 100 * ticksPerMs = 62208000 := by decide
    rw [hpass, Option.any_some, hms]
    exact decide_eq_true hdue
  rw [State.when_true s (by rw [hrole, hlate, hdis]; rfl)] at hexec
  obtain ⟨hsuspect, hevt, -, -, -⟩ := (s.dev.setMate { s.dev.mate with passAt := none }).setSuspect_shows
  have honly : Dev.WordsOnly [Reg.mateStat, F.mateEvtSuspect.off] (s.dev.setMate { s.dev.mate with passAt := none })
      (s.dev.setMate { s.dev.mate with passAt := none }).setSuspect :=
    ((Dev.WordsOnly.refl _ _).put (f := F.mateStatSuspect) (.head _) 1).put (f := F.mateEvtSuspect) (.tail _ (.head _)) 1
  obtain ⟨x, hx⟩ : ∃ x, x = (s.dev.setMate { s.dev.mate with passAt := none }).setSuspect := ⟨_, rfl⟩
  rw [← hx] at hexec hsuspect hevt honly
  obtain ⟨hmate, hwords, hframe⟩ := honly.afterSetMate
  rw [hmate] at hframe
  exact ⟨_, hexec, hsuspect, hevt, hwords, hframe⟩

theorem handoverBlock_takes (on : MateLane) (payload : List Byte) (hrole : s.dev.role = roleStandby) (hhears : s.dev.hearsControl on payload) :
    ∃ t, exec (.handoverBlock ⟨on, payload⟩) s = .next t
      ∧ t = { s with dev := { s.dev with mate := { s.dev.mate with final := some (BitVec.ofNat 32 (fieldAt payload 1 4)) } } } := by
  have hexec : exec (.handoverBlock ⟨on, payload⟩) s = .next { s with dev := (s.dev.controlArrives on payload (fun e =>
      e.when (e.role == roleStandby) (fun d => d.setMate { d.mate with final := some (BitVec.ofNat 32 (fieldAt payload 1 4)) }))) } := rfl
  rw [Dev.controlArrives_heard hhears, State.when_true s (by rw [hrole]; rfl)] at hexec
  exact ⟨_, hexec, rfl⟩

end

/-- Settles O47, by the four commands of MATE.CMD, the outcome of a self-check, the disagreement that lasts, and a handover block. -/
theorem rolesAndSelfCheck : Obligations.RolesAndSelfCheck := by
  unfold Obligations.RolesAndSelfCheck
  exact fun s => ⟨fun m hw => ⟨handover_shows hw, handover_refused hw, clearSuspect_shows hw, rejoin_shows hw, selfCheck_starts hw⟩,
    selfCheckOutcome_shows, suspectTimeout_shows, handoverBlock_takes⟩

end Sys2Proof.Machine

/-! What a heartbeat of the mate does, and its absence (R461, R469 to R475). -/

namespace Sys2Proof.Machine

set_option Elab.async false -- a proof at a time, within the memory of a check

theorem Dev.when_eq {c : Bool} (hc : c = true) (d : Dev) (g : Dev → Dev) : d.when c g = g d := by
  rw [hc]
  rfl

namespace Dev.PairBut

variable {l m : List Field} {d e x : Dev}

theorem trans (h : Dev.PairBut l d e) (h' : Dev.PairBut l e x) : Dev.PairBut l d x := fun g hg hl => (h' g hg hl).trans (h g hg hl)

theorem mono (h : Dev.PairBut l d e) (hlm : l ⊆ m) : Dev.PairBut m d e := fun g hg hm => h g hg fun f hf => hm f (hlm hf)

theorem get (h : Dev.PairBut l d e) {g : Field} (hg : inPairRegs g.off = true) (hl : ∀ f ∈ l, f.apart g = true) : e.get g = d.get g := h g hg hl

theorem on (h : Dev.PairBut l d e) {g : Field} (hg : inPairRegs g.off = true) (hl : ∀ f ∈ l, f.apart g = true) : e.on g = d.on g :=
  Dev.on_of_get (h g hg hl)

end Dev.PairBut

/-- A bit of the pair's status shows what it is given. -/
theorem Dev.mateBit_on (d : Dev) {f e : Field} (v : Bool) (hlo : f.lo < 32) (hlen : f.len = 1) (hapart : e.apart f = true) :
    (d.mateBit f e v).on f = v := by
  by_cases h : d.on f = v
  · rw [Dev.mateBit, if_pos h, h]
  · rw [Dev.mateBit, if_neg h, Dev.raise, Dev.on_put_of_apart _ _ hapart]
    exact d.on_put_bitOf f v hlo hlen

theorem Dev.mateBit_on_other (d : Dev) {f e g : Field} (v : Bool) (hf : f.apart g = true) (he : e.apart g = true) :
    (d.mateBit f e v).on g = d.on g := Dev.on_of_get (d.get_mateBit v hf he)

/-! What a change of the pair's role leaves -/

/-- The fields that a change of the role or of the Lid's lines writes. -/
def roleChangeFields : List Field :=
  [F.mateStatRole, F.mateEvtRoleChg, F.mateCmdStatResult, F.mateStatSuspect, F.mateStatRejoinStep, F.mateStatIsolated, F.mateEvtIsolated,
    F.mateStatLid0, F.mateStatLid1, F.mateAckEpochEpoch, F.mateEvtCmtMiss]

/-- `e` shows the pair's registers as `d` but for the fields of `l`, knows of the lane path what `d` knows, has begun no seizure, and still
rejoins where `d` does. -/
structure Dev.PairKept (l : List Field) (d e : Dev) : Prop where
  regs : Dev.PairBut l d e
  lane : e.mate.lane = d.mate.lane
  seizing : d.mate.seizing = none → e.mate.seizing = none
  rejoin : d.role = roleRejoin → e.role = roleRejoin

namespace Dev.PairKept

variable {l m : List Field} {d e x : Dev}

theorem refl (l : List Field) (d : Dev) : Dev.PairKept l d d := ⟨.refl l d, rfl, id, id⟩

theorem trans (h : Dev.PairKept l d e) (h' : Dev.PairKept l e x) : Dev.PairKept l d x :=
  ⟨h.regs.trans h'.regs, h'.lane.trans h.lane, fun hd => h'.seizing (h.seizing hd), fun hd => h'.rejoin (h.rejoin hd)⟩

theorem mono (h : Dev.PairKept l d e) (hlm : l ⊆ m) : Dev.PairKept m d e := ⟨h.regs.mono hlm, h.lane, h.seizing, h.rejoin⟩

theorem when (c : Bool) {g : Dev → Dev} (hg : Dev.PairKept l d (g d)) : Dev.PairKept l d (d.when c g) := Dev.when_of (P := Dev.PairKept l d) c (refl l d) hg

end Dev.PairKept

section
variable (d : Dev)

theorem Dev.setRole_pairBut_all (r : Nat) : Dev.PairBut roleChangeFields d (d.setRole r) := by
  intro g hg hl
  refine d.get_setRole hg (hl _ (.head _)) fun f hf => hl f ?_
  rcases List.mem_cons.1 hf with rfl | hf
  · decide
  · rw [List.mem_singleton.1 hf]
    decide

theorem Dev.enterRejoin_pairBut : Dev.PairBut roleChangeFields d d.enterRejoin := by
  have hrejoining : Dev.PairBut roleChangeFields d d.rejoining :=
    ((((d.setRole_pairBut_all roleRejoin).put (f := F.mateStatSuspect) (by decide) 0).put (f := F.mateStatRejoinStep) (by decide) 1).mateBit
      _ (f := F.mateStatIsolated) (g := F.mateEvtIsolated) (by decide) (by decide) false)
  rw [Dev.enterRejoin_eq]
  exact hrejoining.of_words (Dev.setMate_words _ _)

theorem Dev.enterRejoin_kept : Dev.PairKept roleChangeFields d d.enterRejoin := by
  refine ⟨d.enterRejoin_pairBut, ?_, fun h => ?_, fun _ => d.enterRejoin_role⟩
  · rw [d.enterRejoin_mate, d.setRole_mateButItems]
  · rw [d.enterRejoin_mate, d.setRole_mateButItems]
    exact h

theorem Dev.releaseLid_kept : Dev.PairKept roleChangeFields d d.releaseLid := by
  refine ⟨d.releaseLid_pairBut.mono (by decide), ?_, fun _ => ?_, fun h => ?_⟩
  · rw [d.releaseLid_mate]
  · rw [d.releaseLid_mate]
  · exact (d.releaseLid_pairBut F.mateStatRole (by decide) (by decide)).trans h

theorem Dev.stepDown_kept : Dev.PairKept roleChangeFields d d.stepDown := by
  rw [Dev.stepDown]
  exact d.releaseLid_kept.trans d.releaseLid.enterRejoin_kept

theorem Dev.dropLine_kept : Dev.PairKept roleChangeFields d d.dropLine ∧ d.dropLine.mate.seizing = none := by
  have hset : Dev.PairBut roleChangeFields d (d.setMate { d.mate with seizing := none, drive0 := false, drive1 := false }) :=
    (Dev.PairBut.refl _ d).of_words (Dev.setMate_words _ _)
  have hlid : lidBit d.slotB ∈ roleChangeFields := by
    cases d.slotB
    · exact (by decide : F.mateStatLid0 ∈ roleChangeFields)
    · exact (by decide : F.mateStatLid1 ∈ roleChangeFields)
  have hrole : (lidBit d.slotB).apart F.mateStatRole = true := by cases d.slotB <;> decide
  have hmate : d.dropLine.mate = { d.mate with seizing := none, drive0 := false, drive1 := false } := by
    rw [Dev.dropLine, Dev.raise, Dev.put_mate, Dev.setMate_mate]
  have hseizing : d.dropLine.mate.seizing = none := by rw [hmate]
  refine ⟨⟨?_, by rw [hmate], fun _ => hseizing, fun h => ?_⟩, hseizing⟩
  · rw [Dev.dropLine]
    exact hset.put hlid 1
  · rw [Dev.role, Dev.dropLine, Dev.raise, Dev.get_put_of_apart _ _ hrole, Dev.setMate_get]
    exact h

/-- An epoch that goes out leaves the registers and the lines of the pair. -/
theorem Dev.sendEpoch_keeps (n : Nat) : (d.sendEpoch n).words = d.words ∧ (d.sendEpoch n).mate.lane = d.mate.lane := by
  have hsend (snap : Bool) (items : List (Nat × Nat)) :
      (d.sendState n snap items).words = d.words ∧ (d.sendState n snap items).mate.lane = d.mate.lane := by
    have hdef : ∃ q, d.sendState n snap items = (d.mateQueue q).setMate { (d.mateQueue q).mate with sentEpoch := some n } :=
      ⟨_, by rw [Dev.sendState]⟩
    obtain ⟨q, hq⟩ := hdef
    rw [hq, Dev.setMate_words, Dev.setMate_mate]
    obtain ⟨hwords, o, hmate⟩ := d.mateQueue_keeps q
    refine ⟨hwords, ?_⟩
    rw [hmate]
  rw [Dev.sendEpoch]
  split
  · exact hsend true _
  · exact hsend false _

/-- A handover leaves the registers of the pair beside the role and the Lid's lines. -/
theorem Dev.handOver_kept : Dev.PairBut roleChangeFields d d.handOver ∧ d.handOver.mate.lane = d.mate.lane
    ∧ d.handOver.mate.seizing = none := by
  obtain ⟨x, hx⟩ : ∃ x, x = (d.mateSay 5 (bytesOf 4 (d.seqNow / 80))).sendEpoch (d.seqNow / 80) := ⟨_, rfl⟩
  have heq : d.handOver = (((x.releaseLid).setMate
      { x.releaseLid.mate with released := some d.now, items := [], commit := none, sentEpoch := none }).setRole roleStandby).put
        F.mateStatRejoinStep 0 := by rw [hx, Dev.handOver]
  obtain ⟨hwords, hlane⟩ := (d.mateSay 5 (bytesOf 4 (d.seqNow / 80))).sendEpoch_keeps (d.seqNow / 80)
  rw [← hx] at hwords hlane
  obtain ⟨hsaid, o, hmate⟩ := d.mateQueue_keeps [{ since := d.now, type := 5, field8 := BitVec.ofNat 8 5, load := bytesOf 4 (d.seqNow / 80) }]
  have hsay : d.mateSay 5 (bytesOf 4 (d.seqNow / 80))
      = d.mateQueue [{ since := d.now, type := 5, field8 := BitVec.ofNat 8 5, load := bytesOf 4 (d.seqNow / 80) }] := by rw [Dev.mateSay]
  rw [hsay, hsaid] at hwords
  rw [hsay, hmate] at hlane
  have hregs : Dev.PairBut roleChangeFields d x.releaseLid := ((Dev.PairBut.refl _ d).of_words hwords).trans x.releaseLid_kept.regs
  rw [heq, Dev.put_mate, Dev.setRole_mateButItems, Dev.setMate_mate, x.releaseLid_mate]
  refine ⟨(Dev.PairBut.trans ?_ (Dev.setRole_pairBut_all _ roleStandby)).put (f := F.mateStatRejoinStep) (by decide) 0, hlane, rfl⟩
  exact hregs.of_words (Dev.setMate_words _ _)

/-- A handover that only an ACTIVE makes. -/
theorem Dev.mayHandOver_active (h : d.mayHandOver = true) : d.role = roleActive := by
  unfold Dev.mayHandOver at h
  simp only [Bool.and_eq_true, beq_iff_eq] at h
  obtain ⟨⟨⟨⟨⟨hrole, -⟩, -⟩, -⟩, -⟩, -⟩ := h
  exact hrole

theorem Dev.handOver_kept_when (c : Bool) : Dev.PairKept roleChangeFields d (d.when (c && d.mayHandOver) Dev.handOver) := by
  by_cases h : (c && d.mayHandOver) = true
  · have hactive := d.mayHandOver_active (Bool.and_eq_true_iff.1 h).2
    obtain ⟨hregs, hlane, hseizing⟩ := d.handOver_kept
    rw [h]
    exact ⟨hregs, hlane, fun _ => hseizing, fun hr => absurd (hactive.symm.trans hr) (by decide)⟩
  · rw [Bool.not_eq_true] at h
    rw [h]
    exact .refl _ d

theorem Dev.mateActive_kept : Dev.PairKept roleChangeFields d d.mateActive := by
  rw [Dev.mateActive]
  exact .when _ d.stepDown_kept

theorem Dev.yieldLid_kept : Dev.PairKept roleChangeFields d d.yieldLid := by
  rw [Dev.yieldLid]
  split
  · exact d.stepDown_kept
  · exact .when _ d.dropLine_kept.1

/-- An epoch that the mate acknowledges. -/
theorem Dev.acked_kept (n : Nat) : Dev.PairKept roleChangeFields d (d.acked n) := by
  have hack (m : Mate) (hm : m.lane = d.mate.lane ∧ m.seizing = d.mate.seizing) :
      Dev.PairKept roleChangeFields d ((d.put F.mateAckEpochEpoch n).setMate m) := by
    refine ⟨((Dev.PairBut.refl _ d).put (f := F.mateAckEpochEpoch) (by decide) n).of_words (Dev.setMate_words _ _), ?_, fun h => ?_, fun h => ?_⟩
    · rw [Dev.setMate_mate]
      exact hm.1
    · rw [Dev.setMate_mate]
      exact hm.2.trans h
    · rw [Dev.role, Dev.setMate_get, Dev.get_put_of_apart _ _ (by decide)]
      exact h
  have hmiss (x : Dev) (c : Bool) : Dev.PairKept roleChangeFields x ((x.freeNat.2).when c (fun y => y.raise F.mateEvtCmtMiss)) := by
    have hfree : Dev.PairKept roleChangeFields x x.freeNat.2 := ⟨(Dev.PairBut.refl _ x).of_words rfl, rfl, id, id⟩
    refine hfree.trans (.when _ ⟨(Dev.PairBut.refl _ _).put (f := F.mateEvtCmtMiss) (by decide) 1, ?_, fun h => ?_, fun h => ?_⟩)
    · rw [Dev.raise, Dev.put_mate]
    · rw [Dev.raise, Dev.put_mate]
      exact h
    · rw [Dev.role, Dev.raise, Dev.get_put_of_apart _ _ (by decide)]
      exact h
  unfold Dev.acked
  extract_lets commits src d1 x
  have hd1 : Dev.PairKept roleChangeFields d d1 := hack _ ⟨rfl, rfl⟩
  split
  · exact hd1.trans (hmiss _ _)
  · exact hd1

theorem Dev.laneRestored_kept : Dev.PairKept roleChangeFields d d.laneRestored := by
  have hecho (x : Dev) (kind : Nat) (l : List Byte) : Dev.PairKept roleChangeFields x
      (((x.put F.mateStatRejoinStep 2).setMate { (x.put F.mateStatRejoinStep 2).mate with echoed := false }).mateSay kind l) := by
    obtain ⟨y, hy⟩ : ∃ y, y = (x.put F.mateStatRejoinStep 2).setMate { (x.put F.mateStatRejoinStep 2).mate with echoed := false } := ⟨_, rfl⟩
    have hput : Dev.PairKept roleChangeFields x y := by
      rw [hy]
      refine ⟨((Dev.PairBut.refl _ x).put (f := F.mateStatRejoinStep) (by decide) 2).of_words (Dev.setMate_words _ _), ?_, fun h => ?_, fun h => ?_⟩
      · rw [Dev.setMate_mate, Dev.put_mate]
      · rw [Dev.setMate_mate, Dev.put_mate]
        exact h
      · rw [Dev.role, Dev.setMate_get, Dev.get_put_of_apart _ _ (by decide)]
        exact h
    rw [← hy, Dev.mateSay]
    obtain ⟨hwords, o, hmate⟩ := y.mateQueue_keeps [{ since := y.now, type := 5, field8 := BitVec.ofNat 8 kind, load := l }]
    refine hput.trans ⟨(Dev.PairBut.refl _ y).of_words hwords, by rw [hmate], fun h => ?_, fun h => (Dev.get_of_words hwords F.mateStatRole).trans h⟩
    rw [hmate]
    exact h
  unfold Dev.laneRestored
  extract_lets d1
  have hd1 : Dev.PairKept roleChangeFields d d1 := .when _ d.enterRejoin_kept
  exact hd1.trans (.when _ (hecho d1 4 _))

end

/-! What the state of the paths shows -/

section
variable (d : Dev)

theorem Dev.showPaths_pathBits : Dev.PairBut [F.mateStatIsolated, F.mateEvtIsolated] d.pathBits d.showPaths := by
  obtain ⟨x, hx⟩ : ∃ x, x = d.pathBits.setMate (d.pathsMate d.pathBits.mate) := ⟨_, rfl⟩
  have hset : Dev.PairBut [F.mateStatIsolated, F.mateEvtIsolated] d.pathBits x := by
    rw [hx]
    exact (Dev.PairBut.refl _ _).of_words (Dev.setMate_words _ _)
  rw [d.showPaths_eq, ← hx]
  have hdiscarded : Dev.PairBut [F.mateStatIsolated, F.mateEvtIsolated] d.pathBits (x.when
      (d.mate.lane.lost && d.mate.side.lost && !d.on F.mateStatMateLost) Dev.discardEpoch) :=
    Dev.when_of (P := Dev.PairBut [F.mateStatIsolated, F.mateEvtIsolated] d.pathBits) _ hset hset.discardEpoch
  exact Dev.when_ind hdiscarded fun _ => hdiscarded.mateBit _ (.head _) (.tail _ (.head _)) _

theorem Dev.showPaths_lane : d.showPaths.on F.mateStatHbLane = d.mate.lane.up := by
  refine (d.showPaths_pathBits.on (by decide) (by decide)).trans ?_
  rw [Dev.pathBits, Dev.mateBit_on_other _ _ (by decide) (by decide), Dev.mateBit_on_other _ _ (by decide) (by decide),
    Dev.on_put_of_apart _ _ (by decide)]
  exact d.on_put_bitOf F.mateStatHbLane _ (by decide) rfl

theorem Dev.showPaths_side : d.showPaths.on F.mateStatHbSide = d.mate.side.up := by
  refine (d.showPaths_pathBits.on (by decide) (by decide)).trans ?_
  rw [Dev.pathBits, Dev.mateBit_on_other _ _ (by decide) (by decide), Dev.mateBit_on_other _ _ (by decide) (by decide)]
  exact Dev.on_put_bitOf _ F.mateStatHbSide _ (by decide) rfl

theorem Dev.showPaths_lost : d.showPaths.on F.mateStatMateLost = (d.mate.lane.lost && d.mate.side.lost) := by
  refine (d.showPaths_pathBits.on (by decide) (by decide)).trans ?_
  rw [Dev.pathBits, Dev.mateBit_on_other _ _ (by decide) (by decide)]
  exact Dev.mateBit_on _ _ (by decide) rfl (by decide)

theorem Dev.showPaths_mate : d.showPaths.mate.lane = d.mate.lane ∧ d.showPaths.mate.side = d.mate.side
    ∧ d.showPaths.mate.seizing = d.mate.seizing := by
  obtain ⟨l, r, hmate⟩ := d.showPaths_keeps.2
  rw [hmate]
  exact ⟨rfl, rfl, rfl⟩

theorem Dev.showPaths_role : d.showPaths.role = d.role := d.get_showPaths (g := F.mateStatRole) (by decide) (by decide)

end

/-! Heartbeats and misses -/

section
variable {s : State}

theorem heartbeatPulse_shows (hrole : s.dev.role ≠ roleSolo) (w : Nat) (hlow : 700 ≤ w) (hhigh : w ≤ 1300) :
    ∃ t, exec (.heartbeatReceived (.pulse w)) s = .next t
      ∧ t.dev.mate.side = s.dev.mate.side.beat s.dev.now ∧ t.dev.mate.lane = s.dev.mate.lane
      ∧ t.dev.on F.mateStatHbSide = (s.dev.mate.side.beat s.dev.now).up ∧ t.dev.role = s.dev.role ∧ KeepsMemories s t := by
  have hexec : exec (.heartbeatReceived (.pulse w)) s = .next { s with dev := (s.dev.when (s.dev.role != roleSolo
      && (decide (1700 ≤ w ∧ w ≤ 2300) || decide (700 ≤ w ∧ w ≤ 1300))) (fun e =>
        ((e.setMate { e.mate with side := e.mate.side.beat e.now }).when (decide (1700 ≤ w ∧ w ≤ 2300)) Dev.mateActive).showPaths)) } := rfl
  have hnarrow : decide (1700 ≤ w ∧ w ≤ 2300) = false := decide_eq_false fun h => absurd h.1 (by omega)
  rw [hnarrow, decide_eq_true ⟨hlow, hhigh⟩, State.when_true s (by simpa using hrole)] at hexec
  obtain ⟨x, hx⟩ : ∃ x, x = s.dev.setMate { s.dev.mate with side := s.dev.mate.side.beat s.dev.now } := ⟨_, rfl⟩
  have hmate : x.mate = { s.dev.mate with side := s.dev.mate.side.beat s.dev.now } := by rw [hx, Dev.setMate_mate]
  have hkept : x.role = s.dev.role := by rw [hx, Dev.role, Dev.setMate_get, ← Dev.role]
  have hnext : exec (.heartbeatReceived (.pulse w)) s = .next { s with dev := x.showPaths } := by rw [hexec, hx]; rfl
  obtain ⟨hlane, hside, -⟩ := x.showPaths_mate
  refine ⟨_, hnext, ?_, ?_, ?_, x.showPaths_role.trans hkept, rfl, rfl⟩
  · exact hside.trans (by rw [hmate])
  · exact hlane.trans (by rw [hmate])
  · exact x.showPaths_side.trans (by rw [hmate])

/-- The Lid as a device without it reads it. -/
def Dev.seesLid (d : Dev) (a b : Bool) : Dev := d.when d.notHolding (fun e => e.seeLid a b)

theorem Dev.seesLid_shows (d : Dev) (a b : Bool) : (d.seesLid a b).mate = d.mate
    ∧ (d.notHolding = true → (d.seesLid a b).on F.mateStatLid0 = a ∧ (d.seesLid a b).on F.mateStatLid1 = b) := by
  refine ⟨Dev.when_of (P := fun e => e.mate = d.mate) _ rfl (Dev.seeLid_mate ..), fun h => ?_⟩
  rw [Dev.seesLid, h]
  exact ⟨Dev.seeLid_lid0 .., Dev.seeLid_lid1 ..⟩

/-- A device whose state of the paths is `m` shows it and the Lid's lines. -/
theorem Dev.missed_shows (d : Dev) (a b : Bool) (m : Mate) : ∃ e : Dev, e = ((d.seesLid a b).setMate m).showPaths ∧ e.mate.lane = m.lane
    ∧ e.mate.side = m.side ∧ e.on F.mateStatHbLane = m.lane.up ∧ e.on F.mateStatHbSide = m.side.up
    ∧ e.on F.mateStatMateLost = (m.lane.lost && m.side.lost)
    ∧ (d.notHolding = true → e.on F.mateStatLid0 = a ∧ e.on F.mateStatLid1 = b) := by
  obtain ⟨x, hx⟩ : ∃ x, x = (d.seesLid a b).setMate m := ⟨_, rfl⟩
  have hmate : x.mate = m := by rw [hx, Dev.setMate_mate]
  have hlids : d.notHolding = true → x.on F.mateStatLid0 = a ∧ x.on F.mateStatLid1 = b := by
    intro h
    rw [hx, Dev.setMate_on, Dev.setMate_on]
    exact (d.seesLid_shows a b).2 h
  obtain ⟨hlane, hside, -⟩ := x.showPaths_mate
  have hbits := x.showPaths_keeps.1
  refine ⟨_, rfl, ?_⟩
  rw [← hx, hlane, hside, x.showPaths_lane, x.showPaths_side, x.showPaths_lost, hmate]
  refine ⟨rfl, rfl, rfl, rfl, rfl, fun h => ?_⟩
  rw [hbits.on (by decide) (by decide), hbits.on (by decide) (by decide)]
  exact hlids h

theorem heartbeatMiss_lane (hrole : s.dev.role ≠ roleSolo) (a b : Bool) (hdue : s.dev.mate.lane.missDue s.dev.now = true) :
    ∃ t, exec (.heartbeatMiss .lane ⟨a, b⟩) s = .next t ∧ t.dev.mate.lane = s.dev.mate.lane.miss s.dev.now ∧ t.dev.mate.side = s.dev.mate.side
      ∧ t.dev.on F.mateStatHbLane = (s.dev.mate.lane.miss s.dev.now).up
      ∧ t.dev.on F.mateStatMateLost = ((s.dev.mate.lane.miss s.dev.now).lost && s.dev.mate.side.lost)
      ∧ (s.dev.notHolding = true → t.dev.on F.mateStatLid0 = a ∧ t.dev.on F.mateStatLid1 = b) ∧ KeepsMemories s t := by
  have hnow : (s.dev.seesLid a b).now = s.dev.now := Dev.when_of (P := fun e => e.now = s.dev.now) _ rfl rfl
  have hexec : exec (.heartbeatMiss .lane ⟨a, b⟩) s = .next { s with dev := (s.dev.when (s.dev.role != roleSolo && s.dev.mate.lane.missDue s.dev.now)
      (fun d => ((d.seesLid a b).setMate { (d.seesLid a b).mate with lane := s.dev.mate.lane.miss (d.seesLid a b).now }).showPaths)) } := rfl
  rw [State.when_true s (by rw [hdue]; simpa using hrole), hnow, (s.dev.seesLid_shows a b).1] at hexec
  obtain ⟨e, he, hlane, hside, hhb, -, hlost, hlids⟩ := s.dev.missed_shows a b { s.dev.mate with lane := s.dev.mate.lane.miss s.dev.now }
  rw [← he] at hexec
  exact ⟨_, hexec, hlane, hside, hhb, hlost, hlids, rfl, rfl⟩

theorem heartbeatMiss_side (hrole : s.dev.role ≠ roleSolo) (a b : Bool) (hdue : s.dev.mate.side.missDue s.dev.now = true) :
    ∃ t, exec (.heartbeatMiss .side ⟨a, b⟩) s = .next t ∧ t.dev.mate.side = s.dev.mate.side.miss s.dev.now ∧ t.dev.mate.lane = s.dev.mate.lane
      ∧ t.dev.on F.mateStatHbSide = (s.dev.mate.side.miss s.dev.now).up
      ∧ t.dev.on F.mateStatMateLost = (s.dev.mate.lane.lost && (s.dev.mate.side.miss s.dev.now).lost)
      ∧ (s.dev.notHolding = true → t.dev.on F.mateStatLid0 = a ∧ t.dev.on F.mateStatLid1 = b) ∧ KeepsMemories s t := by
  have hnow : (s.dev.seesLid a b).now = s.dev.now := Dev.when_of (P := fun e => e.now = s.dev.now) _ rfl rfl
  have hexec : exec (.heartbeatMiss .side ⟨a, b⟩) s = .next { s with dev := (s.dev.when (s.dev.role != roleSolo && s.dev.mate.side.missDue s.dev.now)
      (fun d => ((d.seesLid a b).setMate { (d.seesLid a b).mate with side := s.dev.mate.side.miss (d.seesLid a b).now }).showPaths)) } := rfl
  rw [State.when_true s (by rw [hdue]; simpa using hrole), hnow, (s.dev.seesLid_shows a b).1] at hexec
  obtain ⟨e, he, hlane, hside, -, hhb, hlost, hlids⟩ := s.dev.missed_shows a b { s.dev.mate with side := s.dev.mate.side.miss s.dev.now }
  rw [← he] at hexec
  exact ⟨_, hexec, hside, hlane, hhb, hlost, hlids, rfl, rfl⟩

theorem heartbeatMiss_early (a b : Bool) (hearly : s.dev.mate.lane.missDue s.dev.now = false) :
    exec (.heartbeatMiss .lane ⟨a, b⟩) s = .next s := by
  have hexec : exec (.heartbeatMiss .lane ⟨a, b⟩) s = .next { s with dev := (s.dev.when (s.dev.role != roleSolo && s.dev.mate.lane.missDue s.dev.now)
      (fun d => ((d.seesLid a b).setMate { (d.seesLid a b).mate with lane := s.dev.mate.lane.miss (d.seesLid a b).now }).showPaths)) } := rfl
  rw [hexec, State.when_false s (by rw [hearly, Bool.and_false])]

end

/-! A HEARTBEAT block (R472 to R475) -/

section
variable (d : Dev) (h : Heartbeat)

/-- The lane path once the heartbeat has counted on it. -/
def Dev.beatLane (d : Dev) (h : Heartbeat) : HbState := if d.mate.beatSeq = some h.seq then d.mate.lane else d.mate.lane.beat d.now

/-- What the heartbeat says of the mate, as the registers show it. -/
def Dev.beatSeen (d : Dev) (h : Heartbeat) : Dev :=
  let d1 := d.setMate { d.mate with
    lane := d.beatLane h, beatSeq := some h.seq, service := h.service, shed := h.shed, interlock := h.interlock }
  ((d1.put F.mateStatMateRole h.role).put F.mateStatMateSuspect (bitOf h.suspect)).when
    (h.suspect && !d.on F.mateStatMateSuspect) (fun e => e.raise F.mateEvtSuspect)

/-- The slots and the Lid's lines that it tells. -/
def Dev.beatSlots (d : Dev) (h : Heartbeat) : Dev :=
  ((d.beatSeen h).mateBit F.mateStatSlotConf F.mateEvtSlotConf (h.slot == d.slotB)).when (d.role != roleActive) (fun e =>
    e.seeLid h.lid0High h.lid1High)

/-- The role that it leaves. -/
def Dev.beatYields (d : Dev) (h : Heartbeat) : Dev :=
  ((d.beatSlots h).when (h.slot == d.slotB) Dev.yieldLid).when (h.role == 1) Dev.mateActive

/-- What follows of it. -/
def Dev.beatAcked (d : Dev) (h : Heartbeat) : Dev :=
  (d.beatYields h).when ((d.beatYields h).role == roleActive && h.role == 2) (fun e => e.acked h.epoch)

theorem Dev.laneBeat_eq : d.laneBeat h = (d.beatAcked h).showPaths.laneRestored.when
    ((d.beatAcked h).showPaths.laneRestored.on F.mateCfgCoastHand && (d.beatAcked h).showPaths.laneRestored.mode == modeCoast && h.service
      && (d.beatAcked h).showPaths.laneRestored.mayHandOver) Dev.handOver := by
  rw [Dev.laneBeat, Dev.beatAcked, Dev.beatYields, Dev.beatSlots, Dev.beatSeen, Dev.beatLane]

/-- `e` knows of the mate what the heartbeat tells `d`, in the role and the slot of `d`. -/
structure Dev.SeesBeat (d : Dev) (h : Heartbeat) (e : Dev) : Prop where
  lane : e.mate.lane = d.beatLane h
  mateRole : e.get F.mateStatMateRole = h.role
  suspect : e.on F.mateStatMateSuspect = h.suspect
  role : e.role = d.role
  slot : e.slotB = d.slotB

/-- The fields in which it shows. -/
def beatFields : List Field := [F.mateStatMateRole, F.mateStatMateSuspect, F.mateStatRole, F.mateStatSlot]

theorem Dev.SeesBeat.step {d e x : Dev} {h : Heartbeat} {l : List Field} (hd : d.SeesBeat h e) (hregs : Dev.PairBut l e x)
    (hl : ∀ g ∈ beatFields, ∀ f ∈ l, f.apart g = true) (hmate : x.mate = e.mate) : d.SeesBeat h x where
  lane := (congrArg Mate.lane hmate).trans hd.lane
  mateRole := (hregs.get (by decide) (hl _ (by decide))).trans hd.mateRole
  suspect := (hregs.on (by decide) (hl _ (by decide))).trans hd.suspect
  role := (hregs.get (g := F.mateStatRole) (by decide) (hl _ (by decide))).trans hd.role
  slot := (hregs.on (g := F.mateStatSlot) (by decide) (hl _ (by decide))).trans hd.slot

theorem Dev.seesBeat_puts {x : Dev} (hrole : h.role < 4) (hmate : x.mate.lane = d.beatLane h) (hwords : x.words = d.words) :
    d.SeesBeat h ((x.put F.mateStatMateRole h.role).put F.mateStatMateSuspect (bitOf h.suspect)) where
  lane := by
    rw [Dev.put_mate, Dev.put_mate]
    exact hmate
  mateRole := by
    rw [Dev.get_put_of_apart _ _ (by decide), Dev.get_put_same _ F.mateStatMateRole _ (by decide)]
    exact Nat.mod_eq_of_lt hrole
  suspect := Dev.on_put_bitOf _ F.mateStatMateSuspect _ (by decide) rfl
  role := by
    rw [Dev.role, Dev.get_put_of_apart _ _ (by decide), Dev.get_put_of_apart _ _ (by decide), Dev.get_of_words hwords, ← Dev.role]
  slot := by
    rw [Dev.slotB, Dev.on_put_of_apart _ _ (by decide), Dev.on_put_of_apart _ _ (by decide), Dev.on_of_get (Dev.get_of_words hwords _), ← Dev.slotB]

theorem Dev.beatSeen_sees (hrole : h.role < 4) : d.SeesBeat h (d.beatSeen h) := by
  have hputs : d.SeesBeat h (((d.setMate { d.mate with
      lane := d.beatLane h, beatSeq := some h.seq, service := h.service, shed := h.shed, interlock := h.interlock }).put
        F.mateStatMateRole h.role).put F.mateStatMateSuspect (bitOf h.suspect)) :=
    d.seesBeat_puts h hrole (by rw [Dev.setMate_mate]) (Dev.setMate_words _ _)
  unfold Dev.beatSeen
  exact Dev.when_of (P := d.SeesBeat h) _ hputs
    (hputs.step ((Dev.PairBut.refl [F.mateEvtSuspect] _).put (.head _) 1) (by decide) (Dev.put_mate ..))

/-- The heartbeat seen, with the conflict of slots that it shows. -/
theorem Dev.beatSlots_sees (hrole : h.role < 4) :
    d.SeesBeat h (d.beatSlots h) ∧ (d.beatSlots h).on F.mateStatSlotConf = (h.slot == d.slotB) := by
  have hconf : d.SeesBeat h ((d.beatSeen h).mateBit F.mateStatSlotConf F.mateEvtSlotConf (h.slot == d.slotB)) :=
    (d.beatSeen_sees h hrole).step
      ((Dev.PairBut.refl [F.mateStatSlotConf, F.mateEvtSlotConf] _).mateBit _ (.head _) (.tail _ (.head _)) _) (by decide) (Dev.mateBit_mate ..)
  have hbit : ((d.beatSeen h).mateBit F.mateStatSlotConf F.mateEvtSlotConf (h.slot == d.slotB)).on F.mateStatSlotConf = (h.slot == d.slotB) :=
    Dev.mateBit_on _ _ (by decide) rfl (by decide)
  have hlids (x : Dev) : Dev.PairBut [F.mateStatLid0, F.mateStatLid1] x (x.seeLid h.lid0High h.lid1High) :=
    ((Dev.PairBut.refl _ x).put (.head _) _).put (.tail _ (.head _)) _
  unfold Dev.beatSlots
  exact Dev.when_of (P := fun e => d.SeesBeat h e ∧ e.on F.mateStatSlotConf = (h.slot == d.slotB)) _ ⟨hconf, hbit⟩
    ⟨hconf.step (hlids _) (by decide) (Dev.seeLid_mate ..), ((hlids _).on (by decide) (by decide)).trans hbit⟩

theorem Dev.beatAcked_kept : Dev.PairKept roleChangeFields (d.beatSlots h) (d.beatAcked h) := by
  have hyields : Dev.PairKept roleChangeFields (d.beatSlots h) (d.beatYields h) := by
    rw [Dev.beatYields]
    exact (Dev.PairKept.when _ (d.beatSlots h).yieldLid_kept).trans (.when _ (Dev.mateActive_kept _))
  rw [Dev.beatAcked]
  exact hyields.trans (.when _ (Dev.acked_kept _ _))

/-- What a heartbeat does once it is seen keeps. -/
theorem Dev.laneBeat_kept : Dev.PairKept roleChangeFields (d.beatAcked h).showPaths (d.laneBeat h) := by
  rw [Dev.laneBeat_eq]
  exact (Dev.laneRestored_kept _).trans (Dev.handOver_kept_when _ _)

theorem Dev.showPaths_kept (e : Dev) : Dev.PairKept pathFields e e.showPaths :=
  ⟨e.showPaths_keeps.1, e.showPaths_mate.1, fun hs => e.showPaths_mate.2.2.trans hs, fun hr => e.showPaths_role.trans hr⟩

theorem Dev.beatAll_kept : Dev.PairKept (pathFields ++ roleChangeFields) (d.beatSlots h) (d.laneBeat h) :=
  (((d.beatAcked_kept h).mono (List.subset_append_right _ _)).trans ((Dev.showPaths_kept _).mono (List.subset_append_left _ _))).trans
    ((d.laneBeat_kept h).mono (List.subset_append_right _ _))

/-- A holder gives the Lid up to a mate in its own slot, or in slot B to a mate that is ACTIVE. -/
theorem Dev.beatYields_active (hrole : h.role < 4) (hactive : d.role = roleActive) (hyield : h.slot = d.slotB ∨ h.role = 1 ∧ d.slotB = true) :
    (d.beatYields h).role = roleRejoin := by
  obtain ⟨⟨-, -, -, hkept, hslot⟩, -⟩ := d.beatSlots_sees h hrole
  obtain ⟨x, hx⟩ : ∃ x, x = d.beatSlots h := ⟨_, rfl⟩
  rw [← hx] at hkept hslot
  rw [Dev.beatYields, ← hx]
  have hdown (e : Dev) : e.stepDown.role = roleRejoin := by rw [Dev.stepDown, Dev.enterRejoin_role]
  by_cases hconf : h.slot = d.slotB
  · have hyielded : x.yieldLid.role = roleRejoin := by
      rw [Dev.yieldLid, if_pos (hkept.trans hactive)]
      exact hdown x
    rw [Dev.when_eq (c := h.slot == d.slotB) (beq_iff_eq.2 hconf)]
    exact (Dev.PairKept.when (h.role == 1) (Dev.mateActive_kept x.yieldLid)).rejoin hyielded
  · obtain ⟨hone, hslotB⟩ := hyield.resolve_left hconf
    have hunmet : x.when (h.slot == d.slotB) Dev.yieldLid = x := by
      rw [beq_eq_false_iff_ne.2 hconf]
      rfl
    rw [hunmet, Dev.when_eq (c := h.role == 1) (beq_iff_eq.2 hone), Dev.mateActive,
      Dev.when_eq (by rw [hkept, hactive, hslot, hslotB]; rfl)]
    exact hdown x

/-- A device without the Lid ends a seizure in the slot of its mate. -/
theorem Dev.beatYields_seizing (hrole : h.role < 4) (hother : d.role ≠ roleActive) (hconf : h.slot = d.slotB) :
    (d.beatYields h).mate.seizing = none := by
  obtain ⟨⟨-, -, -, hkept, -⟩, -⟩ := d.beatSlots_sees h hrole
  obtain ⟨x, hx⟩ : ∃ x, x = d.beatSlots h := ⟨_, rfl⟩
  rw [← hx] at hkept
  have hyielded : x.yieldLid.mate.seizing = none := by
    rw [Dev.yieldLid, if_neg (by rw [hkept]; exact hother)]
    cases hs : x.mate.seizing with
    | none => exact hs
    | some at' => exact x.dropLine_kept.2
  rw [Dev.beatYields, ← hx, Dev.when_eq (c := h.slot == d.slotB) (beq_iff_eq.2 hconf)]
  exact (Dev.PairKept.when (h.role == 1) (Dev.mateActive_kept x.yieldLid)).seizing hyielded

end

theorem heartbeatOf_role (l : List Byte) : (heartbeatOf l).role < 4 := ((l.getD 1 0).extractLsb' 0 2).isLt

theorem heartbeatBlock_shows {s : State} (on : MateLane) (payload : List Byte) (hhears : s.dev.hearsControl on payload) :
    let h := heartbeatOf payload
    let lane := if s.dev.mate.beatSeq = some h.seq then s.dev.mate.lane else s.dev.mate.lane.beat s.dev.now
    ∃ t, exec (.heartbeatReceived (.block on payload)) s = .next t ∧ t.dev.mate.lane = lane
      ∧ t.dev.get F.mateStatMateRole = h.role ∧ t.dev.on F.mateStatMateSuspect = h.suspect
      ∧ t.dev.on F.mateStatHbLane = lane.up ∧ t.dev.on F.mateStatSlotConf = (h.slot == s.dev.slotB)
      ∧ (s.dev.role = roleActive → (h.slot = s.dev.slotB ∨ h.role = 1 ∧ s.dev.slotB = true) → t.dev.role = roleRejoin)
      ∧ (s.dev.role ≠ roleActive → h.slot = s.dev.slotB → t.dev.mate.seizing = none)
      ∧ KeepsMemories s t := by
  intro h lane
  have hexec : exec (.heartbeatReceived (.block on payload)) s = .next { s with dev := (s.dev.controlArrives on payload (fun e =>
    e.laneBeat (heartbeatOf payload))) } := rfl
  rw [Dev.controlArrives_heard hhears] at hexec
  have hrole : h.role < 4 := heartbeatOf_role payload
  obtain ⟨⟨hlane, hmrole, hsus, -, -⟩, hconf⟩ := s.dev.beatSlots_sees h hrole
  have hall := s.dev.beatAll_kept h
  have hlast := s.dev.laneBeat_kept h
  have hacked := s.dev.beatAcked_kept h
  have hackedYields : Dev.PairKept roleChangeFields (s.dev.beatYields h) (s.dev.beatAcked h) := by
    rw [Dev.beatAcked]
    exact .when _ (Dev.acked_kept _ _)
  have hrest : Dev.PairKept (pathFields ++ roleChangeFields) (s.dev.beatYields h) (s.dev.laneBeat h) :=
    ((hackedYields.mono (List.subset_append_right _ _)).trans ((Dev.showPaths_kept _).mono (List.subset_append_left _ _))).trans
      (hlast.mono (List.subset_append_right _ _))
  refine ⟨_, hexec, hall.lane.trans hlane, (hall.regs.get (by decide) (by decide)).trans hmrole, (hall.regs.on (by decide) (by decide)).trans hsus, ?_,
    (hall.regs.on (by decide) (by decide)).trans hconf, fun hactive hyield => hrest.rejoin (s.dev.beatYields_active h hrole hactive hyield),
    fun hother hslot => hrest.seizing (s.dev.beatYields_seizing h hrole hother hslot), rfl, rfl⟩
  refine (hlast.regs.on (by decide) (by decide)).trans ((Dev.showPaths_lane _).trans ?_)
  exact congrArg HbState.up (hacked.lane.trans hlane)

end Sys2Proof.Machine

/-! What else the pair says and hears: control blocks, the alignment of a rejoining device, and digests (R472 to R487). -/

namespace Sys2Proof.Machine

set_option Elab.async false -- a proof at a time, within the memory of a check

/-! Heartbeats that go out (R472) -/

section
variable {s : State} (hrole : s.dev.role ≠ roleSolo)

include hrole

theorem heartbeatSend_side (hdue : s.dev.pulseDue s.dev.mate.sentSide = true) :
    ∃ t, exec (.heartbeatSend .side) s = .next t
      ∧ t = { s with dev := { s.dev with mate := { s.dev.mate with sentSide := some s.dev.now } } } := by
  have hexec : exec (.heartbeatSend .side) s = .next { s with dev := (s.dev.when (s.dev.role != roleSolo) (fun d =>
    d.when (d.pulseDue d.mate.sentSide) (fun e => e.setMate { e.mate with sentSide := some e.now }))) } := rfl
  rw [State.when_true s (by simpa using hrole), State.when_true s hdue] at hexec
  exact ⟨_, hexec, rfl⟩

theorem heartbeatSend_lane (hroot : s.dev.rootValid = true) (heven : s.dev.seqNow % 2 = 0)
    (hnew : ∀ x, s.dev.mate.sentLane = some x → ∃ e, s.dev.timing.fp8kAt = some e ∧ x < e) :
    ∃ t, exec (.heartbeatSend .lane) s = .next t
      ∧ t = { s with dev := { s.dev with mate := { s.dev.mate with sentLane := some s.dev.now } } } := by
  have hexec : exec (.heartbeatSend .lane) s = .next { s with dev := (s.dev.when (s.dev.role != roleSolo) (fun d =>
    d.when (d.rootValid && d.seqNow % 2 == 0 && d.mate.sentLane.all (fun x => decide (x < d.timing.fp8kAt.getD 0)))
      (fun e => e.setMate { e.mate with sentLane := some e.now }))) } := rfl
  have hlate : s.dev.mate.sentLane.all (fun x => decide (x < s.dev.timing.fp8kAt.getD 0)) = true := by
    cases hsent : s.dev.mate.sentLane with
    | none => rfl
    | some x =>
      obtain ⟨e, hedge, hlt⟩ := hnew x hsent
      rw [Option.all_some, hedge, Option.getD_some]
      exact decide_eq_true hlt
  rw [State.when_true s (by simpa using hrole), State.when_true s (by rw [hroot, hlate, heven]; rfl)] at hexec
  exact ⟨_, hexec, rfl⟩

/-! A block that names another lane (R479) -/

/-- The device that excludes a mate lane. -/
def Dev.excludesLane (d : Dev) (n : Nat) : Dev := (d.setMate { d.mate with excluded := d.mate.excluded ++ [n] }).raise F.mateEvtWiring

omit hrole in
theorem Dev.controlArrives_miswired {d : Dev} {on : MateLane} {payload : List Byte} {f : Dev → Dev} (hrole : d.role ≠ roleSolo)
    (hframe : d.inFrame (96 + on.val) = true) (hexcluded : on.val ∉ d.mate.excluded) (hname : fieldAt payload 0 1 ≠ on.val) :
    d.controlArrives on payload f = d.excludesLane on.val := by
  have hpaired : ¬ d.get F.mateStatRole = 0 := hrole
  rw [Dev.controlArrives, Dev.excludesLane, if_neg hpaired, if_neg (by simpa [hframe] using hexcluded), if_pos hname, Dev.setMate]

theorem miswired_excludes (on : MateLane) (payload : List Byte) (hframe : s.dev.inFrame (96 + on.val) = true)
    (hexcluded : on.val ∉ s.dev.mate.excluded) (hname : fieldAt payload 0 1 ≠ on.val) (c : Instr)
    (hc : c = .heartbeatReceived (.block on payload) ∨ c = .echo on payload ∨ c = .apply on payload ∨ c = .selfchk ⟨on, payload⟩
      ∨ c = .handoverBlock ⟨on, payload⟩ ∨ c = .key ⟨on, payload⟩) :
    ∃ t, exec c s = .next t ∧ t.dev.on F.mateEvtWiring = true ∧ Dev.WordsBut [F.mateEvtWiring.off] s.dev t.dev
      ∧ t = { s with dev := { s.dev with words := t.dev.words, mate := { s.dev.mate with excluded := s.dev.mate.excluded ++ [on.val] } } } := by
  have hctl (f : Dev → Dev) : s.dev.controlArrives on payload f = s.dev.excludesLane on.val :=
    Dev.controlArrives_miswired hrole hframe hexcluded hname
  have hone (f : Dev → Dev) (h : exec c s = .next { s with dev := s.dev.controlArrives on payload f }) :
      exec c s = .next { s with dev := s.dev.excludesLane on.val } := by rw [h, hctl]
  have hexec : exec c s = .next { s with dev := s.dev.excludesLane on.val } := by
    rcases hc with rfl | rfl | rfl | rfl | rfl | rfl
    · exact hone _ rfl
    · exact hone _ rfl
    · exact hone _ rfl
    · exact hone _ rfl
    · exact hone _ rfl
    · exact hone _ rfl
  have hevt : (s.dev.excludesLane on.val).on F.mateEvtWiring = true := Dev.on_raise _ F.mateEvtWiring (by decide) (by decide)
  have honly : Dev.WordsOnly [F.mateEvtWiring.off] (s.dev.setMate { s.dev.mate with excluded := s.dev.mate.excluded ++ [on.val] })
      (s.dev.excludesLane on.val) := (Dev.WordsOnly.refl _ _).put (f := F.mateEvtWiring) (.head _) 1
  obtain ⟨x, hx⟩ : ∃ x, x = s.dev.excludesLane on.val := ⟨_, rfl⟩
  rw [← hx] at hexec hevt honly
  obtain ⟨hmate, hwords, hframe⟩ := honly.afterSetMate
  rw [hmate] at hframe
  exact ⟨_, hexec, hevt, hwords, hframe⟩

end

/-! The mate's self-check (R487) -/

section
variable (d : Dev)

/-- A self-check under way here too. -/
def Dev.checksToo (d : Dev) : Dev := d.when (!d.mate.checking) Dev.startSelfCheck

/-- What a SELFCHK block tells. -/
def Dev.tellsCheck (d : Dev) (health result : Nat) : Dev :=
  ((d.setMate { d.mate with health := some (BitVec.ofNat 96 health) }).put F.mateSelfchkMate (result % 4)).selfResult

theorem Dev.checksToo_shows : d.checksToo.mate.checking = true ∧ d.checksToo.role = d.role := by
  cases hchk : d.mate.checking with
  | true =>
    have heq : d.checksToo = d := by rw [Dev.checksToo, hchk]; rfl
    rw [heq]
    exact ⟨hchk, rfl⟩
  | false =>
    obtain ⟨hchecking, -, -, hrole⟩ := d.startSelfCheck_shows
    rw [Dev.checksToo, Dev.when_eq (by rw [hchk]; rfl)]
    exact ⟨hchecking, hrole⟩

theorem Dev.selfResult_keeps : Dev.PairBut selfFields d d.selfResult ∧ d.selfResult.mate = d.mate := by
  rw [Dev.selfResult]
  exact ⟨((Dev.PairBut.refl _ d).put (.head _) _).put (.tail _ (.head _)) _, by rw [Dev.put_mate, Dev.put_mate]⟩

theorem Dev.tellsCheck_shows (health result : Nat) : (d.tellsCheck health result).get F.mateSelfchkMate = result % 4
    ∧ (d.tellsCheck health result).mate = { d.mate with health := some (BitVec.ofNat 96 health) } ∧ (d.tellsCheck health result).role = d.role := by
  obtain ⟨x, hx⟩ : ∃ x, x = (d.setMate { d.mate with health := some (BitVec.ofNat 96 health) }).put F.mateSelfchkMate (result % 4) := ⟨_, rfl⟩
  have hmate : x.mate = { d.mate with health := some (BitVec.ofNat 96 health) } := by rw [hx, Dev.put_mate, Dev.setMate_mate]
  have hgot : x.get F.mateSelfchkMate = result % 4 := by
    rw [hx, Dev.get_put_same _ F.mateSelfchkMate _ (by decide)]
    exact Nat.mod_mod_of_dvd _ (by decide)
  have hrole : x.role = d.role := by rw [hx, Dev.role, Dev.get_put_of_apart _ _ (by decide), Dev.setMate_get, ← Dev.role]
  obtain ⟨hregs, hself⟩ := x.selfResult_keeps
  rw [Dev.tellsCheck, ← hx]
  exact ⟨(hregs.get (by decide) (by decide)).trans hgot, hself.trans hmate, (hregs.get (g := F.mateStatRole) (by decide) (by decide)).trans hrole⟩

end

theorem selfchk_shows {s : State} (on : MateLane) (payload : List Byte) (hhears : s.dev.hearsControl on payload) :
    ∃ t, exec (.selfchk ⟨on, payload⟩) s = .next t ∧ t.dev.get F.mateSelfchkMate = fieldAt payload 1 1 % 4
      ∧ t.dev.mate.health = some (BitVec.ofNat 96 (fieldAt payload 2 12)) ∧ t.dev.mate.checking = true
      ∧ t.dev.role = s.dev.role ∧ KeepsMemories s t := by
  have hexec : exec (.selfchk ⟨on, payload⟩) s = .next { s with dev := (s.dev.controlArrives on payload (fun d =>
    (d.checksToo.tellsCheck (fieldAt payload 2 12) (fieldAt payload 1 1)).when
      ((d.checksToo.tellsCheck (fieldAt payload 2 12) (fieldAt payload 1 1)).get F.mateSelfchkLocal != d.checksToo.get F.mateSelfchkLocal)
      Dev.saySelfCheck)) } := rfl
  rw [Dev.controlArrives_heard hhears] at hexec
  obtain ⟨hchecking, hrole⟩ := s.dev.checksToo_shows
  obtain ⟨hgot, hmate, htold⟩ := s.dev.checksToo.tellsCheck_shows (fieldAt payload 2 12) (fieldAt payload 1 1)
  obtain ⟨y, hy⟩ : ∃ y, y = s.dev.checksToo := ⟨_, rfl⟩
  rw [← hy] at hexec hchecking hrole hgot hmate htold
  obtain ⟨x, hx⟩ : ∃ x, x = y.tellsCheck (fieldAt payload 2 12) (fieldAt payload 1 1) := ⟨_, rfl⟩
  rw [← hx] at hexec hgot hmate htold
  have hsaid (c : Bool) : (x.when c Dev.saySelfCheck).words = x.words ∧ (x.when c Dev.saySelfCheck).mate.health = x.mate.health
      ∧ (x.when c Dev.saySelfCheck).mate.checking = x.mate.checking := by
    refine Dev.when_of (P := fun e => e.words = x.words ∧ e.mate.health = x.mate.health ∧ e.mate.checking = x.mate.checking) c ⟨rfl, rfl, rfl⟩ ?_
    obtain ⟨hwords, o, hout⟩ := x.mateQueue_keeps [{ since := x.now, type := 5, field8 := BitVec.ofNat 8 3, load := x.selfLoad }]
    have hsay : x.saySelfCheck = x.mateQueue [{ since := x.now, type := 5, field8 := BitVec.ofNat 8 3, load := x.selfLoad }] := by
      rw [Dev.saySelfCheck, Dev.mateSay]
    rw [hsay, hout]
    exact ⟨hwords, rfl, rfl⟩
  obtain ⟨hwords, hhealth, hcheck⟩ := hsaid (x.get F.mateSelfchkLocal != y.get F.mateSelfchkLocal)
  refine ⟨_, hexec, (Dev.get_of_words hwords _).trans hgot, hhealth.trans (by rw [hmate]), hcheck.trans ?_,
    (Dev.get_of_words hwords F.mateStatRole).trans (htold.trans hrole), rfl, rfl⟩
  rw [hmate]
  exact hchecking

/-! ECHO (R476) -/

section
variable {s : State}

theorem echo_answers (hrole : s.dev.role ≠ roleSolo) (on : MateLane) (payload : List Byte) (hhears : s.dev.hearsControl on payload)
    (hkind : fieldAt payload 1 1 = 0) :
    let answer : MateMsg := { since := s.dev.now, type := 5, field8 := 4, load := echoLoad true (fieldAt payload 2 8) s.dev.timeBase }
    ∃ t, exec (.echo on payload) s = .next t
      ∧ t = { s with dev := { s.dev with mate := { s.dev.mate with out := s.dev.mate.out ++ [answer] } } } := by
  intro answer
  have hexec : exec (.echo on payload) s = .next { s with dev := (s.dev.controlArrives on payload (fun d =>
    if fieldAt payload 1 1 = 0 then d.mateQueue [{ since := d.now, type := 5, field8 := 4, load := echoLoad true (fieldAt payload 2 8) d.timeBase }]
    else d.when (fieldAt payload 1 1 == 1 && d.role == roleRejoin) (fun e =>
      (e.setMate { e.mate with echoed := true }).put F.mateDelayNs ((e.timeBase - fieldAt payload 2 8) * 50000 / 62208)))) } := rfl
  have hpaired : ¬ s.dev.get F.mateStatRole = 0 := hrole
  rw [Dev.controlArrives_heard hhears] at hexec
  rw [if_pos hkind, Dev.mateQueue, if_neg hpaired] at hexec
  exact ⟨_, hexec, rfl⟩

theorem echo_measures (hrole : s.dev.role = roleRejoin) (on : MateLane) (payload : List Byte) (hhears : s.dev.hearsControl on payload)
    (hkind : fieldAt payload 1 1 = 1) :
    ∃ t, exec (.echo on payload) s = .next t
      ∧ t.dev.get F.mateDelayNs = (s.dev.timeBase - fieldAt payload 2 8) * 50000 / 62208 % 2 ^ 16
      ∧ Dev.WordsBut [Reg.mateDelay] s.dev t.dev
      ∧ t = { s with dev := { s.dev with words := t.dev.words, mate := { s.dev.mate with echoed := true } } } := by
  have hexec : exec (.echo on payload) s = .next { s with dev := (s.dev.controlArrives on payload (fun d =>
    if fieldAt payload 1 1 = 0 then d.mateQueue [{ since := d.now, type := 5, field8 := 4, load := echoLoad true (fieldAt payload 2 8) d.timeBase }]
    else d.when (fieldAt payload 1 1 == 1 && d.role == roleRejoin) (fun e =>
      (e.setMate { e.mate with echoed := true }).put F.mateDelayNs ((e.timeBase - fieldAt payload 2 8) * 50000 / 62208)))) } := rfl
  rw [Dev.controlArrives_heard hhears] at hexec
  rw [if_neg (by rw [hkind]; decide), State.when_true s (by rw [hkind, hrole]; rfl)] at hexec
  obtain ⟨n, hn⟩ : ∃ n, n = (s.dev.timeBase - fieldAt payload 2 8) * 50000 / 62208 := ⟨_, rfl⟩
  rw [← hn] at hexec ⊢
  have hgot : ((s.dev.setMate { s.dev.mate with echoed := true }).put F.mateDelayNs n).get F.mateDelayNs = n % 2 ^ 16 :=
    Dev.get_put_same _ F.mateDelayNs n (by decide)
  have honly : Dev.WordsOnly [Reg.mateDelay] (s.dev.setMate { s.dev.mate with echoed := true })
      ((s.dev.setMate { s.dev.mate with echoed := true }).put F.mateDelayNs n) := (Dev.WordsOnly.refl _ _).put (f := F.mateDelayNs) (.head _) n
  obtain ⟨x, hx⟩ : ∃ x, x = (s.dev.setMate { s.dev.mate with echoed := true }).put F.mateDelayNs n := ⟨_, rfl⟩
  rw [← hx] at hexec hgot honly
  obtain ⟨hmate, hwords, hframe⟩ := honly.afterSetMate
  rw [hmate] at hframe
  exact ⟨_, hexec, hgot, hwords, hframe⟩

/-! The alignment of the numbers (R476, R477) -/

/-- The timing of a rejoining device that has taken the mate's sequence number. -/
def Dev.alignedTiming (d : Dev) (off : Int) (seq : W32) : Timing :=
  { d.timing with phase := if decide (50 < off.natAbs) then d.timing.phase + rootPeriods off else d.timing.phase,
                  seqBase := (d.timing.edges + 0x1_0000_0000 - seq.toNat) % 0x1_0000_0000 }

/-- The pass of the Ladle, which has to know that numbers stepped. -/
def Dev.alignedLadle (d : Dev) (off : Int) (seq : W32) : Ladle :=
  { d.ladle with stepped := d.ladle.stepped || decide (50 < off.natAbs) || (d.alignedTiming off seq).seqBase != d.timing.seqBase }

/-- The rejoining device with the mate's numbers. -/
def Dev.aligned (d : Dev) (off : Int) (seq : W32) : Dev :=
  (({ d with timing := d.alignedTiming off seq, ladle := d.alignedLadle off seq } : Dev).put F.matePhaseNs (phaseWord off)).put F.mateStatRejoinStep 3

theorem Dev.aligned_seqNow (d : Dev) (off : Int) (seq : W32) : (d.aligned off seq).seqNow = seq.toNat := by
  have htiming : (d.aligned off seq).timing = d.alignedTiming off seq := rfl
  have hseq := seq.isLt
  have hbase : (d.alignedTiming off seq).seqBase = (d.timing.edges + 0x1_0000_0000 - seq.toNat) % 0x1_0000_0000 := rfl
  have hedges : (d.alignedTiming off seq).edges = d.timing.edges := rfl
  rw [Dev.seqNow, htiming, hbase, hedges]
  omega

theorem alignmentStep_aligns (hrole : s.dev.role = roleRejoin) (arrival : Int) (seq : W32) (hstep : s.dev.get F.mateStatRejoinStep = 2)
    (hedge : s.dev.atEdge = true) (hechoed : s.dev.mate.echoed = true) :
    let off := s.dev.frameOffset arrival
    ∃ t, exec (.alignmentStep arrival seq) s = .next t ∧ t.dev.seqNow = seq.toNat ∧ t.dev.get F.mateStatRejoinStep = 3
      ∧ t.dev.timing.phase = (if 50 < off.natAbs then s.dev.timing.phase + rootPeriods off else s.dev.timing.phase)
      ∧ t.dev.get F.matePhaseNs = phaseWord off % 2 ^ 16 ∧ Dev.WordsBut [Reg.mateStat, Reg.matePhase] s.dev t.dev
      ∧ t = { s with dev := { s.dev with words := t.dev.words, timing := t.dev.timing, ladle := t.dev.ladle } } := by
  intro off
  have hexec : exec (.alignmentStep arrival seq) s = .next { s with dev := (s.dev.when (s.dev.role == roleRejoin
    && s.dev.get F.mateStatRejoinStep == 2 && s.dev.atEdge && s.dev.mate.echoed) (fun d => d.aligned (s.dev.frameOffset arrival) seq)) } := rfl
  rw [State.when_true s (by rw [hrole, hstep, hedge, hechoed]; rfl)] at hexec
  have hphase : (s.dev.aligned off seq).timing.phase = (if 50 < off.natAbs then s.dev.timing.phase + rootPeriods off else s.dev.timing.phase) := by
    change (if decide (50 < off.natAbs) = true then _ else _) = _
    simp only [decide_eq_true_eq]
  have honly : Dev.WordsOnly [Reg.mateStat, Reg.matePhase] ({ s.dev with timing := s.dev.alignedTiming off seq, ladle := s.dev.alignedLadle off seq })
      (s.dev.aligned off seq) :=
    ((Dev.WordsOnly.refl _ _).put (f := F.matePhaseNs) (.tail _ (.head _)) _).put (f := F.mateStatRejoinStep) (.head _) 3
  have hgot : (s.dev.aligned off seq).get F.matePhaseNs = phaseWord off % 2 ^ 16 := by
    rw [Dev.aligned, Dev.get_put_of_apart _ _ (by decide)]
    exact Dev.get_put_same _ F.matePhaseNs _ (by decide)
  have hthree : (s.dev.aligned off seq).get F.mateStatRejoinStep = 3 := Dev.get_put_same _ F.mateStatRejoinStep 3 (by decide)
  have hseq := s.dev.aligned_seqNow off seq
  obtain ⟨x, hx⟩ : ∃ x, x = s.dev.aligned off seq := ⟨_, rfl⟩
  have hnext : exec (.alignmentStep arrival seq) s = .next { s with dev := x } := by rw [hexec, hx]
  rw [← hx] at honly hphase hgot hthree hseq
  obtain ⟨hframe, hwords⟩ := honly
  have htiming : x.timing = s.dev.alignedTiming off seq := by rw [hframe]
  have hladle : x.ladle = s.dev.alignedLadle off seq := by rw [hframe]
  rw [← htiming, ← hladle] at hframe
  exact ⟨_, hnext, hseq, hthree, hphase, hgot, hwords, congrArg (fun d => ({ s with dev := d } : State)) hframe⟩

theorem offsetMeasure_shows (hrole : s.dev.role = roleStandby) (arrival : Int) :
    let off := s.dev.frameOffset arrival
    ∃ t, exec (.offsetMeasure arrival) s = .next t ∧ t.dev.get F.matePhaseNs = phaseWord off % 2 ^ 16
      ∧ t.dev.on F.mateStatPhaseErr = decide (200 < off.natAbs)
      ∧ OnlyWords [Reg.matePhase, Reg.mateStat, F.mateEvtPhaseErr.off] s t := by
  intro off
  have hexec : exec (.offsetMeasure arrival) s = .next { s with dev := (s.dev.when (s.dev.role == roleStandby) (fun d =>
    (d.put F.matePhaseNs (phaseWord (s.dev.frameOffset arrival))).mateBit F.mateStatPhaseErr F.mateEvtPhaseErr
      (decide (200 < (s.dev.frameOffset arrival).natAbs)))) } := rfl
  rw [State.when_true s (by rw [hrole]; rfl)] at hexec
  have hput : Dev.WordsOnly [Reg.matePhase, Reg.mateStat, F.mateEvtPhaseErr.off] s.dev (s.dev.put F.matePhaseNs (phaseWord off)) :=
    (Dev.WordsOnly.refl _ _).put (f := F.matePhaseNs) (.head _) _
  refine ⟨_, hexec, (Dev.get_mateBit _ _ (by decide) (by decide)).trans (Dev.get_put_same _ F.matePhaseNs _ (by decide)),
    Dev.mateBit_on _ _ (by decide) rfl (by decide), Dev.WordsOnly.state ?_⟩
  unfold Dev.mateBit
  split
  · exact hput
  · exact (hput.put (f := F.mateStatPhaseErr) (.tail _ (.head _)) _).put (f := F.mateEvtPhaseErr) (.tail _ (.tail _ (.head _))) 1

theorem apply_waits (hrole : s.dev.role = roleStandby) (on : MateLane) (payload : List Byte) (hhears : s.dev.hearsControl on payload) :
    ∃ t, exec (.apply on payload) s = .next t
      ∧ t = { s with dev := { s.dev with applies := s.dev.applies ++ (applyItemsOf payload).map (fun x => (fieldAt payload 1 4, x)) } } := by
  have hexec : exec (.apply on payload) s = .next { s with dev := (s.dev.controlArrives on payload (fun e => e.when (e.role == roleStandby) (fun d =>
    { d with applies := d.applies ++ (applyItemsOf payload).map (fun x => (fieldAt payload 1 4, x)) }))) } := rfl
  rw [Dev.controlArrives_heard hhears, State.when_true s (by rw [hrole]; rfl)] at hexec
  exact ⟨_, hexec, rfl⟩

theorem disagreementClear_clears (hdis : s.dev.on F.mateStatDisagree = true) (hquiet : ∀ e ∈ s.dev.mate.mismatches, e + 800 ≤ s.dev.timing.edges) :
    ∃ t, exec .disagreementClear s = .next t ∧ t.dev.on F.mateStatDisagree = false ∧ t.dev.on F.mateEvtDisagree = true
      ∧ OnlyWords [Reg.mateStat, F.mateEvtDisagree.off] s t := by
  have hexec : exec .disagreementClear s = .next { s with dev := (s.dev.when (s.dev.on F.mateStatDisagree
    && s.dev.mate.mismatches.all (fun e => decide (e + 800 ≤ s.dev.timing.edges))) (fun d =>
      (d.lower F.mateStatDisagree).raise F.mateEvtDisagree)) } := rfl
  have hall : s.dev.mate.mismatches.all (fun e => decide (e + 800 ≤ s.dev.timing.edges)) = true :=
    List.all_eq_true.2 fun e he => decide_eq_true (hquiet e he)
  rw [State.when_true s (by rw [hdis, hall]; rfl)] at hexec
  refine ⟨_, hexec, ?_, Dev.on_raise _ F.mateEvtDisagree (by decide) (by decide), Dev.WordsOnly.state ?_⟩
  · exact (Dev.on_put_of_apart _ (f := F.mateEvtDisagree) (g := F.mateStatDisagree) 1 (by decide)).trans (Dev.on_lower _ _ (by decide))
  · exact ((Dev.WordsOnly.refl _ _).put (f := F.mateStatDisagree) (.head _) 0).put (f := F.mateEvtDisagree) (.tail _ (.head _)) 1

end

/-! Digests (R485, R486) -/

section
variable (d : Dev)

theorem Dev.startSelfCheck_egress : d.startSelfCheck.egress = d.egress := by
  have hsaid (x : Dev) : x.saySelfCheck.egress = x.egress := by
    rw [Dev.saySelfCheck, Dev.mateSay, Dev.mateQueue]
    split <;> rfl
  have hverify (x : Dev) : x.verifyNext.egress = x.egress := by
    unfold Dev.verifyNext
    split <;> rfl
  have hbegins (x : Dev) : x.selfBegins.egress = x.egress := by
    unfold Dev.selfBegins
    split
    · rfl
    · rw [Dev.selfResult]
      rfl
  have heq : d.startSelfCheck = (d.selfBegun.selfBegins.saySelfCheck.setGrm { d.selfBegun.selfBegins.saySelfCheck.grm with epochDue := true }).verifyNext := by
    rw [Dev.startSelfCheck, Dev.selfBegun]
  rw [heq, hverify]
  exact (hsaid _).trans ((hbegins _).trans rfl)

theorem Dev.get_startSelfCheck_of_off {g : Field} (hg : inPairRegs g.off = true) (hoff : g.off ≠ F.mateSelfchkFail.off) :
    d.startSelfCheck.get g = d.get g := by
  have hfar (f : Field) (hf : f.off = F.mateSelfchkFail.off) : f.apart g = true := by
    refine decide_eq_true (Or.inl ?_)
    rw [hf]
    exact hoff
  rw [d.get_startSelfCheck hg fun f hf => ?_, Dev.selfBegun, Dev.raise, Dev.get_put_of_apart _ _ (hfar F.mateSelfchkVerifyPend rfl),
    Dev.get_put_of_apart _ _ (hfar F.mateSelfchkMate rfl), Dev.setMate_get]
  rcases List.mem_cons.1 hf with rfl | hf
  · exact hfar _ rfl
  · rw [List.mem_singleton.1 hf]
    exact hfar F.mateSelfchkLocal rfl

/-- A mismatch counted and shown, before the disagreement that follows of it. -/
def Dev.mismatched (d : Dev) (k : Nat) : Dev :=
  (((d.setMate { d.mate with mismatches := ((d.timing.edges :: d.mate.mismatches).filter (fun e => decide (d.timing.edges < e + 80))).take 3 }).roll
    F.mateDigMismatchCount 1).put F.mateDigLastIndex (if isHo k then k else k - 18432)).put F.mateDigLastLo (bitOf (!isHo k))

theorem Dev.mismatch_eq (k : Nat) : ∃ c, d.mismatch k = (d.mismatched k).when c (fun e =>
    ((e.raise F.mateStatDisagree).raise F.mateEvtDisagree).startSelfCheck) := ⟨_, by rw [Dev.mismatch, Dev.mismatched]⟩

theorem Dev.mismatched_count (k : Nat) : (d.mismatched k).get F.mateDigMismatchCount = (d.get F.mateDigMismatchCount + 1) % 2 ^ 32 := by
  have hlen : F.mateDigMismatchCount.len = 32 := rfl
  rw [Dev.mismatched, Dev.get_put_of_apart _ _ (by decide), Dev.get_put_of_apart _ _ (by decide), Dev.get_roll_same _ (by decide), Dev.setMate_get,
    hlen]

theorem Dev.mismatched_role (k : Nat) : (d.mismatched k).role = d.role := by
  have hset (m : Mate) : Dev.PairBut [F.mateDigMismatchCount, F.mateDigLastIndex, F.mateDigLastLo] d (d.setMate m) :=
    (Dev.PairBut.refl _ d).of_words (Dev.setMate_words _ _)
  have hregs : Dev.PairBut [F.mateDigMismatchCount, F.mateDigLastIndex, F.mateDigLastLo] d (d.mismatched k) := by
    rw [Dev.mismatched, Dev.roll]
    exact (((hset _).put (.head _) _).put (.tail _ (.head _)) _).put (.tail _ (.tail _ (.head _))) _
  exact hregs.get (g := F.mateStatRole) (by decide) (by decide)

theorem Dev.mismatched_egress (k : Nat) : (d.mismatched k).egress = d.egress := by
  have honly (m : Mate) (n a b : Nat) : Dev.WordsOnly [F.mateDigMismatchCount.off, F.mateDigLastIndex.off] (d.setMate m)
      ((((d.setMate m).put F.mateDigMismatchCount n).put F.mateDigLastIndex a).put F.mateDigLastLo b) :=
    (((Dev.WordsOnly.refl _ _).put (f := F.mateDigMismatchCount) (.head _) n).put (f := F.mateDigLastIndex) (.tail _ (.head _)) a).put
      (f := F.mateDigLastLo) (.tail _ (.head _)) b
  rw [Dev.mismatched, Dev.roll, (honly _ _ _ _).1]
  rfl

/-- A mismatch is counted; it changes no digest and no role. -/
theorem Dev.mismatch_shows (k : Nat) : (d.mismatch k).get F.mateDigMismatchCount = (d.get F.mateDigMismatchCount + 1) % 2 ^ 32
    ∧ (d.mismatch k).role = d.role ∧ (d.mismatch k).egress = d.egress := by
  have hcount := d.mismatched_count k
  have hrole := d.mismatched_role k
  have hegress := d.mismatched_egress k
  obtain ⟨c, hc⟩ := d.mismatch_eq k
  obtain ⟨x, hx⟩ : ∃ x, x = d.mismatched k := ⟨_, rfl⟩
  rw [← hx] at hcount hrole hegress hc
  rw [hc]
  refine Dev.when_of (P := fun e => e.get F.mateDigMismatchCount = (d.get F.mateDigMismatchCount + 1) % 2 ^ 32 ∧ e.role = d.role
    ∧ e.egress = d.egress) c ⟨hcount, hrole, hegress⟩ ⟨?_, ?_, (Dev.startSelfCheck_egress _).trans hegress⟩
  · rw [Dev.get_startSelfCheck_of_off _ (by decide) (by decide), Dev.raise, Dev.get_put_of_apart _ _ (by decide), Dev.raise,
      Dev.get_put_of_apart _ _ (by decide)]
    exact hcount
  · rw [Dev.role, Dev.get_startSelfCheck_of_off _ (by decide) (by decide), Dev.raise, Dev.get_put_of_apart _ _ (by decide), Dev.raise,
      Dev.get_put_of_apart _ _ (by decide)]
    exact hrole

/-- A report of the mate's for a point whose own report is held and waits for no more than three periods. -/
theorem Dev.reportArrives_held (k f : Nat) (v : W32) (hown : (reportAt (d.egressPoint k).reports f).isSome = true)
    (hlate : (reportAt (d.egressPoint k).reports (f + 3 * digestPeriod k)).isSome = false) :
    d.reportArrives k f v = (d.setEgress k { d.egressPoint k with heard := ((f % 0x1_0000, v) :: (d.egressPoint k).heard).take 8 }).when
      (reportAt (d.egressPoint k).reports (f + digestPeriod k)).isSome (fun e => e.compareReport k f v) := by
  unfold Dev.reportArrives
  extract_lets x own d1
  have hone : own f = true := hown
  have hfar : own (f + 3 * digestPeriod k) = false := hlate
  rw [hone, hfar]
  rfl

theorem Dev.egressPoint_setEgress_same (k : Nat) (x : VcSt) : (d.setEgress k x).egressPoint k = x := Store.get_set_same ..

theorem Dev.egressPoint_setEgress_other {j k : Nat} (h : j ≠ k) (x : VcSt) : (d.setEgress k x).egressPoint j = d.egressPoint j :=
  Store.get_set_other _ _ _ h

/-- What a comparison counts. -/
theorem Dev.compareReport_shows (k f : Nat) (v : W32) :
    (d.compareReport k f v).get F.mateDigMismatchCount = (d.get F.mateDigMismatchCount
      + (if (digestFrames k f).any (fun g => reportAt (d.egressPoint k).reports g == some v) then 0 else 1)) % 2 ^ 32
    ∧ (d.compareReport k f v).role = d.role ∧ (d.compareReport k f v).egress = d.egress := by
  unfold Dev.compareReport
  split
  · exact ⟨(Nat.mod_eq_of_lt (d.get_lt F.mateDigMismatchCount)).symm, rfl, rfl⟩
  · exact d.mismatch_shows k

end

theorem digest_compares {s : State} (payload : List Byte) (hcmp : s.dev.compares = true) :
    let k := digestPoint (fieldAt payload 2 3)
    let f := fieldAt payload 0 2
    let v := BitVec.ofNat 32 (fieldAt payload 8 4)
    let x := s.dev.egressPoint k
    let own (g : Nat) : Bool := (reportAt x.reports g).isSome
    let equal := (digestFrames k f).any (fun g => reportAt x.reports g == some v)
    own f = true → own (f + 3 * digestPeriod k) = false →
    ∃ t, exec (.digest ⟨1, payload⟩) s = .next t ∧ KeepsMemories s t ∧ t.dev.role = s.dev.role
      ∧ (t.dev.egressPoint k).heard = ((f % 0x1_0000, v) :: x.heard).take 8
      ∧ (∀ j, j ≠ k → t.dev.egressPoint j = s.dev.egressPoint j)
      ∧ t.dev.get F.mateDigMismatchCount
          = (s.dev.get F.mateDigMismatchCount + (if own (f + digestPeriod k) && !equal then 1 else 0)) % 2 ^ 32 := by
  intro k f v x own equal hown hlate
  have hexec : exec (.digest ⟨1, payload⟩) s = .next { s with dev := (s.dev.when s.dev.compares (fun d => d.digestBlock 1 payload)) } := rfl
  rw [State.when_true s hcmp] at hexec
  have hone : s.dev.digestBlock 1 payload = s.dev.reportArrives k f v := by
    unfold Dev.digestBlock
    extract_lets own' rs
    have hrs : rs = [v] := rfl
    rw [hrs, List.length_singleton, Nat.sub_eq_zero_of_le (Nat.le_add_left 1 own'.length)]
    rfl
  rw [hone, s.dev.reportArrives_held k f v hown hlate] at hexec
  obtain ⟨y, hy⟩ : ∃ y, y = s.dev.setEgress k { x with heard := ((f % 0x1_0000, v) :: x.heard).take 8 } := ⟨_, rfl⟩
  have hnext : exec (.digest ⟨1, payload⟩) s = .next { s with dev := (y.when (own (f + digestPeriod k)) (fun e => e.compareReport k f v)) } := by
    rw [hexec, hy]
  have hpoint : y.egressPoint k = { x with heard := ((f % 0x1_0000, v) :: x.heard).take 8 } := by rw [hy, Dev.egressPoint_setEgress_same]
  have hothers (j : Nat) (hj : j ≠ k) : y.egressPoint j = s.dev.egressPoint j := by rw [hy, Dev.egressPoint_setEgress_other _ hj]
  have hwords : y.words = s.dev.words := by rw [hy, Dev.setEgress]
  have hcount : y.get F.mateDigMismatchCount = s.dev.get F.mateDigMismatchCount := Dev.get_of_words hwords _
  have hrole : y.role = s.dev.role := Dev.get_of_words hwords F.mateStatRole
  obtain ⟨hcompared, hrole', hegress⟩ := y.compareReport_shows k f v
  rw [hpoint, hcount] at hcompared
  have hequal : (digestFrames k f).any (fun g => reportAt ({ x with heard := ((f % 0x1_0000, v) :: x.heard).take 8 } : VcSt).reports g == some v) = equal := rfl
  rw [hequal] at hcompared
  cases hperiod : own (f + digestPeriod k) with
  | false =>
    rw [hperiod] at hnext
    refine ⟨_, hnext, ⟨rfl, rfl⟩, hrole, congrArg VcSt.heard hpoint, hothers, hcount.trans ?_⟩
    rw [Bool.false_and]
    exact (Nat.mod_eq_of_lt (s.dev.get_lt F.mateDigMismatchCount)).symm
  | true =>
    rw [hperiod, Dev.when_eq rfl] at hnext
    have hat (j : Nat) : (y.compareReport k f v).egressPoint j = y.egressPoint j := by rw [Dev.egressPoint, hegress, ← Dev.egressPoint]
    refine ⟨_, hnext, ⟨rfl, rfl⟩, hrole'.trans hrole, congrArg VcSt.heard ((hat k).trans hpoint), fun j hj => (hat j).trans (hothers j hj),
      hcompared.trans ?_⟩
    rw [Bool.true_and]
    cases equal <;> rfl

/-- Settles O48, by each command of the mate's traffic: heartbeats and their absence, control blocks, the alignment, and digests. -/
theorem mateTraffic : Obligations.MateTraffic := by
  unfold Obligations.MateTraffic
  exact fun s => ⟨fun hrole => ⟨heartbeatSend_side hrole, heartbeatSend_lane hrole, heartbeatPulse_shows hrole, heartbeatBlock_shows,
      fun on payload hframe hex hname c hc => miswired_excludes hrole on payload hframe hex hname c hc,
      fun a b => ⟨heartbeatMiss_lane hrole a b, heartbeatMiss_side hrole a b, heartbeatMiss_early a b⟩, selfchk_shows, echo_answers hrole⟩,
    fun hrole => ⟨echo_measures hrole, alignmentStep_aligns hrole⟩, fun hrole => ⟨offsetMeasure_shows hrole, apply_waits hrole⟩,
    digest_compares, disagreementClear_clears⟩

end Sys2Proof.Machine

/-! The blocks of the state copy: the fields of their payloads, and the records that they carry (R491, R499). -/

namespace Sys2Proof.Machine

set_option Elab.async false -- a proof at a time, within the memory of a check

/-! Numbers in bytes -/

theorem bytesOf_length (n v : Nat) : (bytesOf n v).length = n := by rw [bytesOf, List.length_map, List.length_range]

theorem numOf_bytesOf_four (v : Nat) : numOf (bytesOf 4 v) = v % 2 ^ 32 := by
  simp only [bytesOf, numOf, List.range, List.range.loop, List.map_cons, List.map_nil, List.foldl_cons, List.foldl_nil, BitVec.toNat_ofNat]
  omega

theorem numOf_bytesOf_one (v : Nat) : numOf (bytesOf 1 v) = v % 256 := by
  simp only [bytesOf, numOf, List.range, List.range.loop, List.map_cons, List.map_nil, List.foldl_cons, List.foldl_nil, BitVec.toNat_ofNat]
  omega

/-- A field of a payload, from what stands before it. -/
theorem fieldAt_payload264 (a c z : List Byte) (h : a.length + c.length ≤ 264) :
    fieldAt (payload264 (a ++ c ++ z)) a.length c.length = numOf c := by
  have hcut : (((a ++ c ++ z ++ List.replicate 264 0).take 264).drop a.length).take c.length = c := by
    rw [List.drop_take, List.take_take, Nat.min_eq_left (by omega), List.append_assoc, List.append_assoc, List.drop_left, List.take_left]
  rw [fieldAt, payload264, hcut]

/-! STATE and END blocks -/

theorem stateRecordsOf_length (e i : Nat) {rs : List StateRecord} (h : rs.length ≤ 16) : (stateRecordsOf (statePayload e i rs)).length = rs.length := by
  have hcount : fieldAt (statePayload e i rs) 6 1 = rs.length := by
    have hfield := fieldAt_payload264 (bytesOf 4 e ++ bytesOf 2 i) (bytesOf 1 rs.length) ([0] ++ rs.flatMap StateRecord.bytes)
      (by simp only [List.length_append, bytesOf_length]; omega)
    rw [List.length_append, bytesOf_length, bytesOf_length, bytesOf_length, numOf_bytesOf_one, Nat.mod_eq_of_lt (by omega),
      ← List.append_assoc] at hfield
    exact hfield
  rw [stateRecordsOf, List.length_map, List.length_range, hcount]
  exact Nat.min_eq_right h

/-- The records of the first `k` blocks. -/
theorem stateBlocks_records (e : Nat) (rs : List StateRecord) (k : Nat) :
    ((List.range k).map (fun i => statePayload e i ((rs.drop (16 * i)).take 16))).foldl (fun a p => a + (stateRecordsOf p).length) 0
      = Nat.min (16 * k) rs.length := by
  induction k with
  | zero => simp
  | succ k ih =>
    have hlen : ((rs.drop (16 * k)).take 16).length ≤ 16 := by
      rw [List.length_take]
      exact Nat.min_le_left _ _
    rw [List.range_succ, List.map_append, List.foldl_append, ih, List.map_singleton, List.foldl_cons, List.foldl_nil, stateRecordsOf_length e k hlen,
      List.length_take, List.length_drop]
    change min (16 * k) rs.length + min 16 (rs.length - 16 * k) = min (16 * (k + 1)) rs.length
    omega

theorem stateBlocksOf_length (e : Nat) (rs : List StateRecord) : (stateBlocksOf e rs).length = (rs.length + 15) / 16 := by
  rw [stateBlocksOf, List.length_map, List.length_range]

theorem endPayload_fields (e : Nat) (rs : List StateRecord) : fieldAt (endPayload e (stateBlocksOf e rs)) 0 4 = e % 2 ^ 32
    ∧ fieldAt (endPayload e (stateBlocksOf e rs)) 8 4 = rs.length % 2 ^ 32 := by
  have hcount : (stateBlocksOf e rs).foldl (fun a p => a + (stateRecordsOf p).length) 0 = rs.length := by
    rw [stateBlocksOf, stateBlocks_records]
    change min _ _ = _
    omega
  rw [endPayload, hcount, endBytes]
  obtain ⟨crc, hcrc⟩ : ∃ crc, crc = bytesOf 4 (crc32 (stateBlocksOf e rs).flatten) := ⟨_, rfl⟩
  obtain ⟨blocks, hblocks⟩ : ∃ blocks, blocks = bytesOf 2 (stateBlocksOf e rs).length := ⟨_, rfl⟩
  have hlen : blocks.length = 2 := by rw [hblocks, bytesOf_length]
  rw [← hcrc, ← hblocks]
  constructor
  · have hfield := fieldAt_payload264 [] (bytesOf 4 e) (blocks ++ [0, 0] ++ bytesOf 4 rs.length ++ crc) (by rw [bytesOf_length]; decide)
    rw [bytesOf_length, numOf_bytesOf_four, List.nil_append] at hfield
    simpa only [List.append_assoc, List.length_nil] using hfield
  · have hfield := fieldAt_payload264 (bytesOf 4 e ++ blocks ++ [0, 0]) (bytesOf 4 rs.length) crc
      (by simp only [List.length_append, bytesOf_length, hlen, List.length_cons, List.length_nil]; omega)
    rw [bytesOf_length, numOf_bytesOf_four] at hfield
    simpa only [List.append_assoc, List.length_append, bytesOf_length, hlen, List.length_cons, List.length_nil] using hfield

end Sys2Proof.Machine

/-! The state copy: windows and their epochs, END blocks, the copy that overflows, snapshots and the mate's keys (R481, R491 to R499, R614). -/

namespace Sys2Proof.Machine

set_option Elab.async false -- a proof at a time, within the memory of a check

/-! The end of a window at the ACTIVE (R491) -/

/-- The messages of an epoch. -/
def Dev.epochMsgs (d : Dev) (e : Nat) (snap : Bool) (rs : List StateRecord) : List MateMsg :=
  (stateBlocksOf e rs).map (fun p => { since := d.now, type := 4, field8 := stateField8 false snap, load := p })
    ++ [{ since := d.now, type := 4, field8 := stateField8 true snap, load := endPayload e (stateBlocksOf e rs) }]

theorem Dev.sendState_eq (d : Dev) (e : Nat) (snap : Bool) (items : List (Nat × Nat)) (hrole : d.role ≠ roleSolo) :
    d.sendState e snap items = d.setMate { d.mate with
      out := d.mate.out ++ d.epochMsgs e snap (items.map (fun x => d.itemRecord x.1 x.2)), sentEpoch := some e } := by
  have hpaired : ¬ d.get F.mateStatRole = 0 := hrole
  rw [Dev.sendState, Dev.mateQueue, if_neg hpaired, Dev.epochMsgs]
  rfl

theorem Dev.epochMsgs_length (d : Dev) (e : Nat) (snap : Bool) (rs : List StateRecord) :
    (d.epochMsgs e snap rs).length = (rs.length + 15) / 16 + 1 := by
  rw [Dev.epochMsgs, List.length_append, List.length_map, stateBlocksOf_length, List.length_singleton]

/-- The records that the mate has not acknowledged reach the memory alone, where it holds them. -/
theorem Chip.keepRecords_keeps (c : Chip) : c.keepRecords.dev = c.dev ∧ c.keepRecords.flash = c.flash
    ∧ ((c.dev.hbmUp = false ∨ c.dev.traceBase = 0) → c.keepRecords.mem = c.mem) := by
  unfold Chip.keepRecords
  extract_lets d
  split
  · exact ⟨rfl, rfl, fun _ => rfl⟩
  · next h =>
    refine ⟨rfl, rfl, fun hnone => absurd ?_ h⟩
    rcases hnone with hup | hbase
    · exact .inl (by rw [show d.hbmUp = false from hup]; rfl)
    · exact .inr hbase

section
variable {s : State}

/-- The effect of a window's end. -/
def Chip.windowEnd (c : Chip) : Chip := c.keepRecords.on (fun e =>
  (e.setMate { e.mate with stopped := false }).sendEpoch ((e.seqNow / 80 + 0x1_0000_0000 - 1) % 0x1_0000_0000))

theorem exec_stateWindowEnd (s : State) : exec .stateWindowEnd s = .next (s.run (fun c => c.when (s.dev.role == roleActive
    && s.dev.seqNow % 80 == 0 && (!s.dev.mate.stopped || s.dev.get F.mateStatMateRole == roleRejoin) && s.dev.rootValid && !s.dev.sendsState)
    Chip.windowEnd)) := rfl

theorem State.run_when_false (s : State) {b : Bool} (h : b = false) (f : Chip → Chip) : s.run (fun c => c.when b f) = s := by
  rw [h]
  rfl

theorem State.run_when_true (s : State) {b : Bool} (h : b = true) (f : Chip → Chip) : s.run (fun c => c.when b f) = s.run f := by
  rw [h]
  rfl

theorem stateWindowEnd_busy (hsends : s.dev.sendsState = true) : exec .stateWindowEnd s = .next s := by
  rw [exec_stateWindowEnd, State.run_when_false s (by rw [hsends, Bool.not_true, Bool.and_false])]

theorem stateWindowEnd_stopped (hstopped : s.dev.mate.stopped = true) (hmate : s.dev.get F.mateStatMateRole ≠ roleRejoin) :
    exec .stateWindowEnd s = .next s := by
  have hno : (!s.dev.mate.stopped || s.dev.get F.mateStatMateRole == roleRejoin) = false := by
    rw [hstopped, beq_eq_false_iff_ne.2 hmate]
    rfl
  rw [exec_stateWindowEnd, State.run_when_false s (by rw [hno, Bool.and_false, Bool.false_and, Bool.false_and])]

theorem stateWindowEnd_sends (hrole : s.dev.role = roleActive) (hedge : s.dev.seqNow % 80 = 0) (hroot : s.dev.rootValid = true)
    (hgoes : s.dev.mate.stopped = false ∨ s.dev.get F.mateStatMateRole = roleRejoin) (hsends : s.dev.sendsState = false)
    (hmate : s.dev.get F.mateStatMateRole ≠ roleRejoin) :
    let e := (s.dev.seqNow / 80 + 0x1_0000_0000 - 1) % 0x1_0000_0000
    ∃ t, exec .stateWindowEnd s = .next t ∧ t.dev.mate.sentEpoch = some e
      ∧ t.dev.mate.out.length = s.dev.mate.out.length + (s.dev.mate.items.length + 15) / 16 + 1
      ∧ t.dev.mate.out.take s.dev.mate.out.length = s.dev.mate.out
      ∧ (∃ m ∈ t.dev.mate.out, m.type = 4 ∧ m.field8 = stateField8 true false ∧ fieldAt m.load 0 4 = e
          ∧ fieldAt m.load 8 4 = s.dev.mate.items.length % 2 ^ 32)
      ∧ t = { s with dev := { s.dev with mate := { s.dev.mate with sentEpoch := some e, out := t.dev.mate.out } }, mem := t.mem }
      ∧ ((s.dev.hbmUp = false ∨ s.dev.traceBase = 0) → t.mem = s.mem) := by
  intro e
  have hstopped : s.dev.mate.stopped = false := hgoes.resolve_right hmate
  have hexec := exec_stateWindowEnd s
  rw [State.run_when_true s (by rw [hrole, hedge, hstopped, hroot, hsends]; rfl)] at hexec
  obtain ⟨hdev, hflash, hmem⟩ := Chip.keepRecords_keeps { dev := s.dev, mem := s.mem, flash := s.flash }
  obtain ⟨c, hc⟩ : ∃ c : Chip, c = ({ dev := s.dev, mem := s.mem, flash := s.flash } : Chip).keepRecords := ⟨_, rfl⟩
  rw [← hc] at hdev hflash hmem
  obtain ⟨rs, hrs⟩ : ∃ rs : List StateRecord, rs = (s.dev.mate.items.map (fun x => (x.1, x.2.1))).map
      (fun x => (s.dev.setMate { s.dev.mate with stopped := false }).itemRecord x.1 x.2) := ⟨_, rfl⟩
  have hlen : rs.length = s.dev.mate.items.length := by rw [hrs, List.length_map, List.length_map]
  obtain ⟨out, hout⟩ : ∃ out, out = s.dev.mate.out ++ s.dev.epochMsgs e false rs := ⟨_, rfl⟩
  have hsent : (s.dev.setMate { s.dev.mate with stopped := false }).sendEpoch e
      = s.dev.setMate { s.dev.mate with sentEpoch := some e, out := out } := by
    have hrole' : (s.dev.setMate { s.dev.mate with stopped := false }).role ≠ roleSolo := by
      rw [Dev.role, Dev.setMate_get, ← Dev.role, hrole]
      decide
    rw [Dev.sendEpoch, Dev.setMate_get, if_neg hmate, Dev.sendState_eq _ _ _ _ hrole', hout, hrs, ← hstopped]
    rfl
  have hrun : s.run Chip.windowEnd = { s with dev := s.dev.setMate { s.dev.mate with sentEpoch := some e, out := out }, mem := c.mem } := by
    rw [← hsent, State.run, Chip.windowEnd, ← hc, Chip.on, hdev, hflash]
  rw [hrun] at hexec
  refine ⟨_, hexec, rfl, ?_, ?_, ?_, rfl, hmem⟩
  · change out.length = _
    rw [hout, List.length_append, Dev.epochMsgs_length, hlen, Nat.add_assoc]
  · change out.take _ = _
    rw [hout, List.take_left]
  · obtain ⟨hepoch, hrecords⟩ := endPayload_fields e rs
    have hlt : e < 2 ^ 32 := Nat.mod_lt _ (by decide)
    refine ⟨{ since := s.dev.now, type := 4, field8 := stateField8 true false, load := endPayload e (stateBlocksOf e rs) }, ?_, rfl, rfl,
      hepoch.trans (Nat.mod_eq_of_lt hlt), hrecords.trans (by rw [hlen])⟩
    change _ ∈ out
    rw [hout, Dev.epochMsgs]
    exact List.mem_append_right _ (List.mem_append_right _ (List.mem_singleton_self _))

end

/-! The end of an epoch at the STANDBY (R492) -/

/-- The device with the blocks of an epoch taken from those received. -/
def Dev.epochTaken (d : Dev) (e : Nat) : Dev := d.setMate { d.mate with rx := d.mate.rx.filter (fun x => x.1 != e) }

/-- An acknowledged epoch. -/
def Dev.epochAcked (d : Dev) (e : Nat) (snap : Bool) : Dev :=
  (d.put F.mateAckEpochEpoch e).setMate { d.mate with snapDone := d.mate.snapDone || snap }

section
variable {s : State} {field8 : Byte} {epoch blocks records crc : List Byte}

theorem exec_stateEndBlock (hend : field8.getLsbD 7 = true) (htakes : s.dev.takesEpoch (field8.getLsbD 6) = true) :
    exec (.stateEndBlock field8 epoch blocks records crc) s
      = .next (s.run (fun x => x.endBlock (field8.getLsbD 6) (endBytes epoch blocks records crc))) := by
  have hexec : exec (.stateEndBlock field8 epoch blocks records crc) s = .next (s.run (fun c => c.when
    (field8.getLsbD 7 && c.dev.takesEpoch (field8.getLsbD 6)) (fun x => x.endBlock (field8.getLsbD 6) (endBytes epoch blocks records crc)))) := rfl
  have hok : (field8.getLsbD 7 && s.dev.takesEpoch (field8.getLsbD 6)) = true := by rw [hend, htakes]; rfl
  rw [hexec, State.run, State.run]
  simp only [hok, Chip.when, if_pos]

variable (hend : field8.getLsbD 7 = true) (htakes : s.dev.takesEpoch (field8.getLsbD 6) = true)

include hend htakes

theorem stateEndBlock_fails (hbad : endMatches s.dev.mate.rx (endBytes epoch blocks records crc) = false) :
    ∃ t, exec (.stateEndBlock field8 epoch blocks records crc) s = .next t ∧ t.dev.on F.mateEvtEpochFail = true
      ∧ Dev.WordsBut [F.mateEvtEpochFail.off] s.dev t.dev
      ∧ t = { s with dev := { s.dev with words := t.dev.words, mate := { s.dev.mate with
          rx := s.dev.mate.rx.filter (fun x => x.1 != fieldAt (endBytes epoch blocks records crc) 0 4) } } } := by
  have hexec := exec_stateEndBlock (epoch := epoch) (blocks := blocks) (records := records) (crc := crc) hend htakes
  obtain ⟨p, hp⟩ : ∃ p, p = endBytes epoch blocks records crc := ⟨_, rfl⟩
  rw [← hp] at hbad hexec ⊢
  have hrun : s.run (fun x => x.endBlock (field8.getLsbD 6) p)
      = { s with dev := (s.dev.epochTaken (fieldAt p 0 4)).raise F.mateEvtEpochFail } := by
    simp only [State.run, Chip.endBlock, hbad, Bool.not_false, if_pos, Chip.on, Dev.epochTaken]
  have hevt : ((s.dev.epochTaken (fieldAt p 0 4)).raise F.mateEvtEpochFail).on F.mateEvtEpochFail = true :=
    Dev.on_raise _ F.mateEvtEpochFail (by decide) (by decide)
  have honly : Dev.WordsOnly [F.mateEvtEpochFail.off] (s.dev.setMate { s.dev.mate with rx := s.dev.mate.rx.filter (fun x => x.1 != fieldAt p 0 4) })
      ((s.dev.epochTaken (fieldAt p 0 4)).raise F.mateEvtEpochFail) := by
    rw [Dev.epochTaken]
    exact (Dev.WordsOnly.refl _ _).put (f := F.mateEvtEpochFail) (.head _) 1
  obtain ⟨x, hx⟩ : ∃ x, x = (s.dev.epochTaken (fieldAt p 0 4)).raise F.mateEvtEpochFail := ⟨_, rfl⟩
  rw [hrun, ← hx] at hexec
  rw [← hx] at hevt honly
  obtain ⟨hmate, hwords, hframe⟩ := honly.afterSetMate
  rw [hmate] at hframe
  exact ⟨_, hexec, hevt, hwords, hframe⟩

/-- An epoch that matches: its records are applied in turn, and it is acknowledged. -/
theorem exec_stateEndBlock_commits (hgood : endMatches s.dev.mate.rx (endBytes epoch blocks records crc) = true) :
    exec (.stateEndBlock field8 epoch blocks records crc) s = .next (s.run (fun x =>
      (((epochBlocks s.dev.mate.rx (fieldAt (endBytes epoch blocks records crc) 0 4)).flatMap stateRecordsOf).foldl
        (Chip.applyRecord (fieldAt (endBytes epoch blocks records crc) 0 4))
        (x.on (fun d => d.epochTaken (fieldAt (endBytes epoch blocks records crc) 0 4)))).on
          (fun d => d.epochAcked (fieldAt (endBytes epoch blocks records crc) 0 4) (field8.getLsbD 6)))) := by
  rw [exec_stateEndBlock hend htakes, State.run, State.run]
  obtain ⟨p, hp⟩ : ∃ p, p = endBytes epoch blocks records crc := ⟨_, rfl⟩
  rw [← hp] at hgood ⊢
  simp only [Chip.endBlock, hgood, Bool.not_true, Bool.false_eq_true, if_false, Dev.epochTaken, Dev.epochAcked]

theorem stateEndBlock_acks (hgood : endMatches s.dev.mate.rx (endBytes epoch blocks records crc) = true) :
    ∃ t, exec (.stateEndBlock field8 epoch blocks records crc) s = .next t
      ∧ t.dev.get F.mateAckEpochEpoch = fieldAt (endBytes epoch blocks records crc) 0 4 % 2 ^ 32
      ∧ (field8.getLsbD 6 = true → t.dev.mate.snapDone = true) := by
  refine ⟨_, exec_stateEndBlock_commits hend htakes hgood, ?_, fun hsnap => ?_⟩
  · rw [State.run, Chip.on]
    exact (Dev.setMate_get _ _ _).trans (Dev.get_put_same _ F.mateAckEpochEpoch _ (by decide))
  · rw [State.run, Chip.on, Dev.epochAcked, Dev.setMate_mate, hsnap, Bool.or_true]

/-- An epoch of one record that is accepted, with the effect `f`. -/
theorem exec_stateEndBlock_one {r : StateRecord} {f : Dev → Dev} (hgood : endMatches s.dev.mate.rx (endBytes epoch blocks records crc) = true)
    (hone : (epochBlocks s.dev.mate.rx (fieldAt (endBytes epoch blocks records crc) 0 4)).flatMap stateRecordsOf = [r])
    (hrec : ∀ c : Chip, c.record (fieldAt (endBytes epoch blocks records crc) 0 4) r = (c.on f, true)) :
    exec (.stateEndBlock field8 epoch blocks records crc) s = .next { s with dev :=
      ((f (s.dev.epochTaken (fieldAt (endBytes epoch blocks records crc) 0 4))).epochAcked (fieldAt (endBytes epoch blocks records crc) 0 4)
        (field8.getLsbD 6)) } := by
  rw [exec_stateEndBlock_commits hend htakes hgood, hone]
  obtain ⟨p, hp⟩ : ∃ p, p = endBytes epoch blocks records crc := ⟨_, rfl⟩
  rw [← hp] at hrec ⊢
  have happly (c : Chip) : Chip.applyRecord (fieldAt p 0 4) c r = c.on f := by
    rw [Chip.applyRecord, hrec]
    rfl
  simp only [State.run, List.foldl_cons, List.foldl_nil, happly, Chip.on]

end

/-! What an acknowledged epoch leaves -/

section
variable (d : Dev) (e : Nat) (snap : Bool)

theorem Dev.epochAcked_wordsBut : Dev.WordsBut [Reg.mateAckEpoch] d (d.epochAcked e snap) := by
  rw [Dev.epochAcked]
  exact ((Dev.WordsBut.refl _ d).put (f := F.mateAckEpochEpoch) (.head _) e).of_words (Dev.setMate_words _ _)

theorem Dev.epochTaken_words : (d.epochTaken e).words = d.words := Dev.setMate_words _ _

end

section
variable {s : State} {field8 : Byte} {epoch blocks records crc : List Byte} {r : StateRecord}
  (hend : field8.getLsbD 7 = true) (htakes : s.dev.takesEpoch (field8.getLsbD 6) = true)
  (hgood : endMatches s.dev.mate.rx (endBytes epoch blocks records crc) = true)
  (hone : (epochBlocks s.dev.mate.rx (fieldAt (endBytes epoch blocks records crc) 0 4)).flatMap stateRecordsOf = [r])

/-- A member's LCAS state follows its word. -/
theorem Dev.memberRecord_wordsBut (d : Dev) (k : Nat) (w : W32) :
    Dev.WordsBut [0x1A50_0000 + 8 * k, F.flwEvtLcasChg.off] d ((d.setWord (0x1A50_0000 + 8 * k) w).lcasMoved k (d.memState k)) := by
  have hset : Dev.WordsBut [0x1A50_0000 + 8 * k, F.flwEvtLcasChg.off] d (d.setWord (0x1A50_0000 + 8 * k) w) :=
    (Dev.WordsBut.refl _ d).setWord (.head _) w
  rw [Dev.lcasMoved]
  exact Dev.when_of (P := Dev.WordsBut [0x1A50_0000 + 8 * k, F.flwEvtLcasChg.off] d) _ hset
    ((hset.raise (f := F.flwEvtLcasChg) (.tail _ (.head _))).of_words (Dev.count_words ..))

theorem Dev.memberRecord_word (d : Dev) (k : Nat) (w : W32) (hk : k < 131072) :
    ((d.setWord (0x1A50_0000 + 8 * k) w).lcasMoved k (d.memState k)).word (0x1A50_0000 + 8 * k) = w := by
  have hset : (d.setWord (0x1A50_0000 + 8 * k) w).word (0x1A50_0000 + 8 * k) = w := Dev.word_setWord_same ..
  rw [Dev.lcasMoved]
  refine Dev.when_of (P := fun x => x.word (0x1A50_0000 + 8 * k) = w) _ hset ?_
  refine (Dev.word_of_words (Dev.count_words ..) _).trans ((Dev.word_put_other _ (f := F.flwEvtLcasChg) 1 ?_).trans hset)
  simp only [F.flwEvtLcasChg]
  omega

/-- The shadow armed for the target of a commit record. -/
def Dev.targetArmed (d : Dev) (target : W32) : Dev := ((d.put F.grmCmtCfgBoundary 2).setWord Reg.grmCmtSeq target).setShadow shArmed

/-- A commit record as it arms the shadow. -/
def Dev.recordArmed (d : Dev) (target : W32) : Dev :=
  ((d.targetArmed target).commitStep 3 3).setGrm { (d.targetArmed target).grm with armedAt := d.timing.edges, pristine := false }

theorem Dev.word_setShadow_seq (d : Dev) (n : Nat) : (d.setShadow n).word Reg.grmCmtSeq = d.word Reg.grmCmtSeq := by
  have hput : Dev.WordsBut [F.grmShadowState.off] d (d.put F.grmShadowState n) := (Dev.WordsBut.refl _ d).put (f := F.grmShadowState) (.head _) n
  rw [Dev.setShadow]
  exact hput Reg.grmCmtSeq (by decide)

theorem Dev.recordArmed_shows (d : Dev) (target : W32) :
    (d.recordArmed target).shadow = shArmed ∧ (d.recordArmed target).word Reg.grmCmtSeq = target := by
  have hshadow : (d.targetArmed target).shadow = shArmed := by
    rw [Dev.targetArmed]
    exact Dev.shadow_setShadow _ (by decide)
  have hword : (d.targetArmed target).word Reg.grmCmtSeq = target := by
    rw [Dev.targetArmed, Dev.word_setShadow_seq, Dev.word_setWord_same]
  have hstep : Dev.WordsBut (ledgerWords 0xB) (d.targetArmed target) (d.recordArmed target) := by
    rw [Dev.recordArmed]
    exact (Dev.wordsBut_commitStep _ 3 3).of_words (Dev.setGrm_words' _ _)
  exact ⟨(hstep.get (f := F.grmShadowState) (by decide)).trans hshadow, (hstep _ (by decide)).trans hword⟩

include hend htakes hgood hone

theorem stateEndBlock_member (hkind : r.kind = 5) (hkey : r.key.toNat < 131072) :
    ∃ t, exec (.stateEndBlock field8 epoch blocks records crc) s = .next t ∧ KeepsMemories s t
      ∧ t.dev.word (0x1A50_0000 + 8 * r.key.toNat) = r.data0
      ∧ Dev.WordsBut [0x1A50_0000 + 8 * r.key.toNat, F.flwEvtLcasChg.off, Reg.mateAckEpoch] s.dev t.dev := by
  obtain ⟨e, he⟩ : ∃ e, e = fieldAt (endBytes epoch blocks records crc) 0 4 := ⟨_, rfl⟩
  have hrec (c : Chip) : c.record (fieldAt (endBytes epoch blocks records crc) 0 4) r
      = (c.on (fun d => (d.setWord (0x1A50_0000 + 8 * r.key.toNat) r.data0).lcasMoved r.key.toNat (d.memState r.key.toNat)), true) := by
    rw [Chip.record, hkind]
    exact if_pos hkey
  have hexec := exec_stateEndBlock_one hend htakes hgood hone hrec
  rw [← he] at hexec
  have hset := (s.dev.epochTaken e).memberRecord_wordsBut r.key.toNat r.data0
  have hword := (s.dev.epochTaken e).memberRecord_word r.key.toNat r.data0 hkey
  obtain ⟨x, hx⟩ : ∃ x, x = ((s.dev.epochTaken e).setWord (0x1A50_0000 + 8 * r.key.toNat) r.data0).lcasMoved r.key.toNat
      ((s.dev.epochTaken e).memState r.key.toNat) := ⟨_, rfl⟩
  rw [← hx] at hset hword
  rw [← hx] at hexec
  have hacked := x.epochAcked_wordsBut e (field8.getLsbD 6)
  refine ⟨_, hexec, ⟨rfl, rfl⟩, (hacked _ ?_).trans hword, ?_⟩
  · simp only [Reg.mateAckEpoch, List.mem_singleton]
    omega
  · refine (((Dev.WordsBut.refl _ s.dev).of_words (s.dev.epochTaken_words e)).trans (hset.mono ?_)).trans (hacked.mono ?_)
    · exact List.cons_subset_cons _ (List.cons_subset_cons _ (List.nil_subset _))
    · exact List.Subset.trans (List.subset_cons_self _ _) (List.subset_cons_self _ _)

theorem stateEndBlock_commit (hkind : r.kind = 6) :
    let ahead := (r.data0.toNat + 2 ^ 32 - s.dev.seqNow) % 2 ^ 32
    (s.dev.shadow = shChecked → 2 ≤ ahead → ahead < 2 ^ 31 →
      ∃ t, exec (.stateEndBlock field8 epoch blocks records crc) s = .next t ∧ t.dev.shadow = shArmed ∧ t.dev.word Reg.grmCmtSeq = r.data0
        ∧ KeepsMemories s t)
    ∧ (s.dev.shadow ≠ shChecked ∨ ahead < 2 ∨ 2 ^ 31 ≤ ahead →
      ∃ t, exec (.stateEndBlock field8 epoch blocks records crc) s = .next t ∧ t.dev.on F.mateEvtCmtMiss = true ∧ t.dev.shadow = s.dev.shadow
        ∧ KeepsMemories s t) := by
  intro ahead
  obtain ⟨e, he⟩ : ∃ e, e = fieldAt (endBytes epoch blocks records crc) 0 4 := ⟨_, rfl⟩
  have hrec (c : Chip) : c.record (fieldAt (endBytes epoch blocks records crc) 0 4) r = (c.on (fun d => d.recordCommit r.data0), true) := by
    rw [Chip.record, hkind]
    rfl
  have hexec := exec_stateEndBlock_one hend htakes hgood hone hrec
  rw [← he] at hexec
  obtain ⟨y, hy⟩ : ∃ y, y = s.dev.epochTaken e := ⟨_, rfl⟩
  have hwords : y.words = s.dev.words := hy ▸ s.dev.epochTaken_words e
  have hseq : y.seqNow = s.dev.seqNow := by rw [hy, Dev.epochTaken, Dev.setMate]; rfl
  have hshadow : y.shadow = s.dev.shadow := Dev.get_of_words hwords F.grmShadowState
  rw [← hy] at hexec
  have hcommit : y.recordCommit r.data0
      = if s.dev.shadow = shChecked ∧ 2 ≤ ahead ∧ ahead < 2 ^ 31 then y.recordArmed r.data0 else y.raise F.mateEvtCmtMiss := by
    rw [Dev.recordCommit, Dev.recordArmed, Dev.targetArmed, hseq, hshadow]
    rfl
  rw [hcommit] at hexec
  refine ⟨fun hchecked hnear hfar => ?_, fun hmiss => ?_⟩
  · rw [if_pos ⟨hchecked, hnear, hfar⟩] at hexec
    obtain ⟨harmed, htarget⟩ := y.recordArmed_shows r.data0
    obtain ⟨x, hx⟩ : ∃ x, x = y.recordArmed r.data0 := ⟨_, rfl⟩
    rw [← hx] at hexec harmed htarget
    have hacked := x.epochAcked_wordsBut e (field8.getLsbD 6)
    exact ⟨_, hexec, (hacked.get (f := F.grmShadowState) (by decide)).trans harmed, (hacked _ (by decide)).trans htarget, rfl, rfl⟩
  · have hnone : ¬ (s.dev.shadow = shChecked ∧ 2 ≤ ahead ∧ ahead < 2 ^ 31) := by
      rintro ⟨hchecked, hnear, hfar⟩
      rcases hmiss with h | h | h
      · exact h hchecked
      · exact absurd hnear (Nat.not_le.2 h)
      · exact absurd hfar (Nat.not_lt.2 h)
    rw [if_neg hnone] at hexec
    have hacked := (y.raise F.mateEvtCmtMiss).epochAcked_wordsBut e (field8.getLsbD 6)
    refine ⟨_, hexec, (hacked.on (f := F.mateEvtCmtMiss) (by decide)).trans (Dev.on_raise _ _ (by decide) (by decide)), ?_, rfl, rfl⟩
    exact (hacked.get (f := F.grmShadowState) (by decide)).trans ((Dev.get_put_apart _ _ (by decide)).trans hshadow)

end

/-! The copy that overflows (R493), and a snapshot (R496) -/

section
variable {s : State}

theorem exec_stateCopyOverflow (s : State) : exec .stateCopyOverflow s = .next { s with dev :=
    ((s.dev.when (s.dev.role == roleActive && decide (0x2000_0000 < 16 * s.dev.mate.items.length)) (fun d =>
      d.setMate { d.mate with stopped := true, items := [], commit := none })).when (s.dev.role == roleStandby) Dev.enterRejoin) } := rfl

theorem stateCopyOverflow_stops (hrole : s.dev.role = roleActive) (hbeyond : 0x2000_0000 < 16 * s.dev.mate.items.length) :
    ∃ t, exec .stateCopyOverflow s = .next t
      ∧ t = { s with dev := { s.dev with mate := { s.dev.mate with stopped := true, items := [], commit := none } } } := by
  have hexec := exec_stateCopyOverflow s
  have hstops : s.dev.when (s.dev.role == roleActive && decide (0x2000_0000 < 16 * s.dev.mate.items.length)) (fun d =>
      d.setMate { d.mate with stopped := true, items := [], commit := none })
      = s.dev.setMate { s.dev.mate with stopped := true, items := [], commit := none } := by
    rw [hrole, decide_eq_true hbeyond]
    rfl
  rw [hstops, hrole] at hexec
  exact ⟨_, hexec, rfl⟩

theorem stateCopyOverflow_within (hrole : s.dev.role = roleActive) (hwithin : 16 * s.dev.mate.items.length ≤ 0x2000_0000) :
    exec .stateCopyOverflow s = .next s := by
  rw [exec_stateCopyOverflow, hrole, decide_eq_false (Nat.not_lt.2 hwithin)]
  rfl

theorem stateCopyOverflow_rejoins (hrole : s.dev.role = roleStandby) :
    ∃ t, exec .stateCopyOverflow s = .next t ∧ t.dev.role = roleRejoin ∧ t.dev.get F.mateStatRejoinStep = 1 ∧ KeepsMemories s t := by
  have hexec := exec_stateCopyOverflow s
  have hcalm : s.dev.when (s.dev.role == roleActive && decide (0x2000_0000 < 16 * s.dev.mate.items.length)) (fun d =>
      d.setMate { d.mate with stopped := true, items := [], commit := none }) = s.dev := by
    rw [hrole]
    rfl
  rw [hcalm, Dev.when_eq (c := s.dev.role == roleStandby) (by rw [hrole]; rfl)] at hexec
  exact ⟨_, hexec, s.dev.enterRejoin_role, s.dev.enterRejoin_step, rfl, rfl⟩

/-- A rejoin that a command asked for is over with the role of STANDBY. -/
theorem Dev.setRole_standby_done (d : Dev) (hrole : d.role = roleRejoin) (hop : d.get F.mateCmdStatOp = 3)
    (hres : d.get F.mateCmdStatResult = mateRunning) : (d.setRole roleStandby).get F.mateCmdStatResult = mateDone := by
  obtain ⟨x, hx⟩ : ∃ x, x = (d.roleWritten roleStandby).raise F.mateEvtRoleChg := ⟨_, rfl⟩
  have hregs : Dev.PairBut [F.mateStatRole, F.mateEvtRoleChg] d x := by
    rw [hx, Dev.roleWritten]
    exact (((Dev.PairBut.refl _ d).abortBurst 6).put (.head _) _).put (.tail _ (.head _)) 1
  have hne : ¬ d.role = roleStandby := by
    rw [hrole]
    decide
  have heq : d.setRole roleStandby = (x.when (roleStandby == roleStandby && x.get F.mateCmdStatOp == 3 && x.get F.mateCmdStatResult == mateRunning)
      (fun e => e.put F.mateCmdStatResult mateDone)).resumeTimers := by
    rw [Dev.setRole, if_neg hne, if_pos hrole, hx, Dev.roleWritten]
  have hgot : x.get F.mateCmdStatOp = 3 ∧ x.get F.mateCmdStatResult = mateRunning :=
    ⟨(hregs.get (by decide) (by decide)).trans hop, (hregs.get (by decide) (by decide)).trans hres⟩
  rw [heq, Dev.get_of_words (Dev.resumeTimers_words _), Dev.when_eq (by rw [hgot.1, hgot.2]; rfl)]
  exact Dev.get_put_same _ F.mateCmdStatResult mateDone (by decide)

theorem snapshotComplete_shows (hrole : s.dev.role = roleRejoin) (hstep : s.dev.get F.mateStatRejoinStep = 3) (hsnap : s.dev.mate.snapDone = true) :
    ∃ t, exec .snapshotComplete s = .next t ∧ t.dev.role = roleStandby ∧ t.dev.get F.mateStatRejoinStep = 4
      ∧ t.dev.on F.mateStatSnapPart = false ∧ KeepsMemories s t
      ∧ (s.dev.get F.mateCmdStatOp = 3 → s.dev.get F.mateCmdStatResult = mateRunning → t.dev.get F.mateCmdStatResult = mateDone) := by
  have hexec : exec .snapshotComplete s = .next { s with dev := (s.dev.when (s.dev.role == roleRejoin && s.dev.get F.mateStatRejoinStep == 3
    && s.dev.mate.snapDone) (fun e => ((e.setRole roleStandby).put F.mateStatRejoinStep 4).lower F.mateStatSnapPart)) } := rfl
  rw [State.when_true s (by rw [hrole, hstep, hsnap]; rfl)] at hexec
  have hstandby := s.dev.setRole_role (r := roleStandby) (by decide)
  have hdone := s.dev.setRole_standby_done hrole
  obtain ⟨x, hx⟩ : ∃ x, x = s.dev.setRole roleStandby := ⟨_, rfl⟩
  rw [← hx] at hexec hstandby hdone
  refine ⟨_, hexec, ?_, ?_, Dev.on_lower _ _ (by decide), ⟨rfl, rfl⟩, fun hop hres => ?_⟩
  · rw [Dev.role, Dev.lower, Dev.get_put_of_apart _ _ (by decide), Dev.get_put_of_apart _ _ (by decide)]
    exact hstandby
  · rw [Dev.lower, Dev.get_put_of_apart _ _ (by decide)]
    exact Dev.get_put_same _ F.mateStatRejoinStep 4 (by decide)
  · rw [Dev.lower, Dev.get_put_of_apart _ _ (by decide), Dev.get_put_of_apart _ _ (by decide)]
    exact hdone hop hres

/-! A press that the mate forwards (R614) -/

/-- A press that switches ends in a command that is judged. -/
theorem Dev.panelSwitch_judged (d : Dev) (sncp : Bool) (target ch : Nat) : ∃ (e : Dev) (res : Nat), res < 4
    ∧ d.panelSwitch sncp target ch = e.judged sncp true target res := by
  unfold Dev.panelSwitch
  cases sncp with
  | true =>
    rw [if_pos rfl]
    obtain ⟨cmd, hcmd⟩ : ∃ cmd, cmd = if (d.sncSt target).manual == some (ch % 2) then ProtCmd.clear else .manual := ⟨_, rfl⟩
    change ∃ e res, res < 4 ∧ d.sncCommand true target (if (d.sncSt target).manual == some (ch % 2) then ProtCmd.clear else .manual) (ch % 2 == 1) = _
    rw [← hcmd, Dev.sncCommand]
    exact ⟨_, _, ProtSt.judge_lt _ _ _ _ _ _, rfl⟩
  | false =>
    rw [if_neg Bool.false_ne_true]
    obtain ⟨cmd, hcmd⟩ : ∃ cmd, cmd = if (d.mspSt target).manual == some ch then ProtCmd.clear else .manual := ⟨_, rfl⟩
    change ∃ e res, res < 4 ∧ d.mspCommand true target (if (d.mspSt target).manual == some ch then ProtCmd.clear else .manual) ch = _
    rw [← hcmd, Dev.mspCommand]
    exact ⟨_, _, ProtSt.judge_lt _ _ _ _ _ _, rfl⟩

variable {on : MateLane} {payload : List Byte} (hrole : s.dev.role = roleActive) (hmode : decidingMode s.dev.mode = true)
  (hhears : s.dev.hearsControl on payload)

include hrole hmode hhears

theorem exec_key : exec (.key ⟨on, payload⟩) s = .next { s with dev :=
    (if getF (BitVec.ofNat 32 (fieldAt payload 1 4)) 0 3 = funcManual then s.dev.boundSwitch (BitVec.ofNat 32 (fieldAt payload 1 4))
     else if getF (BitVec.ofNat 32 (fieldAt payload 1 4)) 0 3 = funcHandover then s.dev.cmdHandover else s.dev) } := by
  have hexec : exec (.key ⟨on, payload⟩) s = .next { s with dev := (s.dev.controlArrives on payload (fun d =>
    d.keyReceived (BitVec.ofNat 32 (fieldAt payload 1 4)))) } := rfl
  rw [hexec, Dev.controlArrives_heard hhears, Dev.keyReceived, if_pos ⟨hrole, hmode⟩]

theorem key_switches (hfunc : getF (BitVec.ofNat 32 (fieldAt payload 1 4)) 0 3 = funcManual) :
    ∃ t, exec (.key ⟨on, payload⟩) s = .next t ∧ t.dev.on F.protEvtReqDone = true ∧ t.dev.on F.protReqResSrc = true
      ∧ t.dev.get F.protReqResTarget = getF (BitVec.ofNat 32 (fieldAt payload 1 4)) 4 18
      ∧ t.dev.on F.protReqResSncp = decide (getF (BitVec.ofNat 32 (fieldAt payload 1 4)) 3 1 = 1) ∧ KeepsMemories s t := by
  have hexec := exec_key hrole hmode hhears
  rw [if_pos hfunc] at hexec
  obtain ⟨w, hw⟩ : ∃ w, w = BitVec.ofNat 32 (fieldAt payload 1 4) := ⟨_, rfl⟩
  rw [← hw] at hexec ⊢
  obtain ⟨e, res, hres, hjudged⟩ := s.dev.panelSwitch_judged (getF w 3 1 == 1) (getF w 4 18) (getF w 22 4)
  rw [Dev.boundSwitch, hjudged] at hexec
  have htarget : getF w 4 18 < 2 ^ 18 := Nat.mod_lt _ (by decide)
  obtain ⟨-, htgt, hsncp, hsrc, hdone⟩ := e.judged_shows (getF w 3 1 == 1) true htarget hres
  exact ⟨_, hexec, hdone, hsrc, htgt, hsncp.trans (Bool.beq_eq_decide_eq _ _), rfl, rfl⟩

theorem key_handsOver (hfunc : getF (BitVec.ofNat 32 (fieldAt payload 1 4)) 0 3 = funcHandover) (hmay : s.dev.mayHandOver = true) :
    ∃ t, exec (.key ⟨on, payload⟩) s = .next t ∧ t.dev.role = roleStandby ∧ t.dev.get F.mateCmdStatResult = mateDone ∧ KeepsMemories s t := by
  have hexec := exec_key hrole hmode hhears
  rw [if_neg (by rw [hfunc]; decide), if_pos hfunc, Dev.cmdHandover, if_pos hmay] at hexec
  obtain ⟨hstandby, -, -⟩ := s.dev.handOver_shows
  obtain ⟨x, hx⟩ : ∃ x, x = s.dev.handOver := ⟨_, rfl⟩
  rw [← hx] at hexec hstandby
  exact ⟨_, hexec, (x.get_mateResult 1 mateDone (g := F.mateStatRole) (by decide)).trans hstandby,
    (x.mateResult_shows 1 mateDone (by decide) (by decide)).2, rfl, rfl⟩

end

/-- Settles O49, by what each window, END block, overflow, snapshot and key leaves. -/
theorem stateCopy : Obligations.StateCopy := by
  unfold Obligations.StateCopy
  exact fun s => ⟨fun hrole hedge hroot hgoes => ⟨stateWindowEnd_busy, fun hsends hmate => stateWindowEnd_sends hrole hedge hroot hgoes hsends hmate⟩,
    fun _ hstopped hmate => stateWindowEnd_stopped hstopped hmate,
    fun field8 epoch blocks records crc hend htakes => ⟨stateEndBlock_fails hend htakes, stateEndBlock_acks hend htakes,
      fun r hgood hone hkind hkey => stateEndBlock_member hend htakes hgood hone hkind hkey,
      fun r hgood hone hkind => stateEndBlock_commit hend htakes hgood hone hkind⟩,
    stateCopyOverflow_stops, stateCopyOverflow_within, stateCopyOverflow_rejoins, snapshotComplete_shows,
    fun on payload hrole hmode hhears => ⟨key_switches hrole hmode hhears, key_handsOver hrole hmode hhears⟩⟩

end Sys2Proof.Machine

/-! The estimators of a lane at the end of a slice (R383 to R390). -/

namespace Sys2Proof.Machine

set_option Elab.async false -- a proof at a time, within the memory of a check

theorem Part.blind_est (x : Part) (h : x ≠ .est) : x.Blind Dev.est := by
  cases x
  case est => exact absurd rfl h
  all_goals exact fun _ _ => rfl

theorem Part.blind_estAcc (x : Part) (h : x ≠ .estAcc) : x.Blind Dev.estAcc := by
  cases x
  case estAcc => exact absurd rfl h
  all_goals exact fun _ _ => rfl

theorem Dev.Only.est {S : List Part} {d e : Dev} (h : Dev.Only S d e) (hS : Part.est ∉ S := by decide) : e.est = d.est :=
  h _ Dev.est fun x hx => x.blind_est fun hxe => hS (hxe ▸ hx)

theorem Dev.Only.estAcc {S : List Part} {d e : Dev} (h : Dev.Only S d e) (hS : Part.estAcc ∉ S := by decide) : e.estAcc = d.estAcc :=
  h _ Dev.estAcc fun x hx => x.blind_estAcc fun hxe => hS (hxe ▸ hx)

/-! Windows of estimators -/

section
variable (d : Dev) (key : Nat) (x : EstSt)

theorem Dev.estWindow_congr {d e : Dev} (h : e.est = d.est) (j : Nat) : e.estWindow j = d.estWindow j := by
  rw [Dev.estWindow, Dev.estAt, h, ← Dev.estAt, ← Dev.estWindow]

theorem Dev.estWindow_setEst_same : (d.setEst key x).estWindow key = x.slices := by
  rw [Dev.estWindow, Dev.estAt, Dev.setEst, Store.get_set_same]

theorem Dev.estWindow_setEst_other {j : Nat} (h : j ≠ key) : (d.setEst key x).estWindow j = d.estWindow j := by
  rw [Dev.estWindow, Dev.estAt, Dev.setEst, Store.get_set_other _ _ _ h, ← Dev.estAt, ← Dev.estWindow]

theorem Dev.estAcc_setEst_same : Store.get (fun _ => 0) (d.setEst key x).estAcc key = 0 := by rw [Dev.setEst, Store.get_set_same]

end

/-! The end of a slice -/

/-- The exponent that an estimator applies for SD or SF. -/
def EstCfg.exponent (c : EstCfg) (sf : Bool) : Nat := if sf then (appliedExps c.kind c.sd c.sf).2.1 else (appliedExps c.kind c.sd c.sf).1

section
variable (d : Dev) (c : EstCfg) (key : Nat) (used clamp : Field) (now sf : Bool)

/-- A slice of the estimator ends at this edge. -/
def Dev.sliceEnds : Bool := d.sliceDue c.kind (c.exponent sf) && (d.estAt key).ended != some d.timing.edges

/-- The window once the slice has ended. -/
def Dev.sliceWindow : List Nat :=
  if (d.estAt key).restart || ((d.estAt key).slices != [] && d.get used != c.exponent sf) then []
  else (Store.get (fun _ => 0) d.estAcc key :: (d.estAt key).slices).take 8

/-- The device with the window kept and the exponents that it applies shown. -/
def Dev.sliceKept : Dev :=
  ((d.setEst key { slices := d.sliceWindow c key used sf, ended := some d.timing.edges }).put used (c.exponent sf)).put clamp
    (bitOf (appliedExps c.kind c.sd c.sf).2.2)

theorem Dev.estSlice_eq : d.estSlice c key used clamp now sf =
    if !c.on then (d.estClear key, false)
    else if !d.sliceDue c.kind (c.exponent sf) ∨ (d.estAt key).ended = some d.timing.edges then (d, now)
    else (d.sliceKept c key used clamp sf, estDecide (estD c.kind (c.exponent sf)) now (d.sliceWindow c key used sf)) := by
  rw [Dev.estSlice, Dev.sliceKept, Dev.sliceWindow, EstCfg.exponent]

theorem Dev.estSlice_off (h : c.on = false) : d.estSlice c key used clamp now sf = (d.estClear key, false) := by
  rw [Dev.estSlice_eq, h]
  rfl

theorem Dev.estSlice_early (h : c.on = true) (hdue : d.sliceEnds c key sf = false) : d.estSlice c key used clamp now sf = (d, now) := by
  rw [Dev.estSlice_eq, h, if_neg (by decide), if_pos]
  rw [Dev.sliceEnds, Bool.and_eq_false_iff] at hdue
  rcases hdue with hearly | hagain
  · exact .inl (by rw [hearly]; rfl)
  · exact .inr (by simpa using hagain)

theorem Dev.estSlice_ends (h : c.on = true) (hdue : d.sliceEnds c key sf = true) : d.estSlice c key used clamp now sf
    = (d.sliceKept c key used clamp sf, estDecide (estD c.kind (c.exponent sf)) now (d.sliceWindow c key used sf)) := by
  rw [Dev.sliceEnds, Bool.and_eq_true] at hdue
  obtain ⟨hat, hfresh⟩ := hdue
  rw [Dev.estSlice_eq, h, if_neg (by decide), if_neg]
  rintro (hearly | hagain)
  · rw [hat] at hearly
    exact absurd hearly (by decide)
  · rw [hagain] at hfresh
    simp at hfresh

/-- What the end of a slice does to an estimator and to the others, and the defect that follows. -/
theorem Dev.estSlice_shows :
    (d.estSlice c key used clamp now sf).2 = (if c.on = false then false else if d.sliceEnds c key sf
      then estDecide (estD c.kind (c.exponent sf)) now (d.sliceWindow c key used sf) else now)
    ∧ (d.estSlice c key used clamp now sf).1.estWindow key = (if c.on = false then [] else if d.sliceEnds c key sf
      then d.sliceWindow c key used sf else d.estWindow key)
    ∧ (c.on = true → d.sliceEnds c key sf = true → Store.get (fun _ => 0) (d.estSlice c key used clamp now sf).1.estAcc key = 0)
    ∧ ∀ j, j ≠ key → (d.estSlice c key used clamp now sf).1.estWindow j = d.estWindow j := by
  have hkept (x : EstSt) (a b : Nat) : Dev.Only [.words] (d.setEst key x) (((d.setEst key x).put used a).put clamp b) :=
    (Dev.only_put _ _ _).step (Dev.only_put _ _ _)
  cases hon : c.on with
  | false =>
    rw [d.estSlice_off c key used clamp now sf hon, if_pos rfl, if_pos rfl]
    exact ⟨rfl, d.estWindow_setEst_same key _, fun h => absurd h (by decide), fun j hj => d.estWindow_setEst_other key _ hj⟩
  | true =>
    simp only [Bool.true_eq_false, if_false]
    cases hdue : d.sliceEnds c key sf with
    | false =>
      rw [d.estSlice_early c key used clamp now sf hon hdue]
      simp only [Bool.false_eq_true, if_false]
      exact ⟨trivial, trivial, fun _ h => h.elim, fun _ _ => trivial⟩
    | true =>
      rw [d.estSlice_ends c key used clamp now sf hon hdue]
      simp only [if_true]
      have honly := hkept { slices := d.sliceWindow c key used sf, ended := some d.timing.edges } (c.exponent sf)
        (bitOf (appliedExps c.kind c.sd c.sf).2.2)
      refine ⟨trivial, ?_, fun _ _ => ?_, fun j hj => ?_⟩
      · exact (Dev.estWindow_congr honly.est key).trans (d.estWindow_setEst_same key _)
      · exact (congrArg (fun l => Store.get (fun _ => 0) l key) honly.estAcc).trans (d.estAcc_setEst_same key _)
      · exact (Dev.estWindow_congr honly.est j).trans (d.estWindow_setEst_other key _ hj)

/-- The registers of the lanes' status through it. -/
theorem Dev.estSlice_status {n : Nat} : Dev.StatusBut n [] d (d.estSlice c key (laneUsed n sf) (F.lanePmStatClamp.lane n) now sf).1 := by
  have hset (x : EstSt) : Dev.StatusBut n [] d (d.setEst key x) := (Dev.StatusBut.refl n [] d).of_words rfl
  have hused (e : Dev) (h : Dev.StatusBut n [] d e) (v : Nat) : Dev.StatusBut n [] d (e.put (laneUsed n sf) v) := by
    cases sf with
    | true => exact h.putLane (g := F.lanePmStatSfUsed) (by decide) n v
    | false => exact h.putLane (g := F.lanePmStatSdUsed) (by decide) n v
  rw [Dev.estSlice_eq]
  split
  · exact hset _
  · split
    · exact .refl n [] d
    · rw [Dev.sliceKept]
      exact (hused _ (hset _) _).putLane (g := F.lanePmStatClamp) (by decide) n _

end

section
variable {s : State}

theorem sdSfSliceEnd_shows (n : PortLane) (sf : Bool) :
    let bit := if sf then defSf else defSd
    let key := estKeyLane n (bitOf sf)
    let c := s.dev.laneEst n
    let x := appliedExps c.kind c.sd c.sf
    let e := if sf then x.2.1 else x.1
    let w := s.dev.estAt key
    let v := Store.get (fun _ => 0) s.dev.estAcc key
    let anew := w.restart || (w.slices != [] && s.dev.get (laneUsed n sf) != e)
    let l := if anew then [] else (v :: w.slices).take 8
    let due := s.dev.sliceDue c.kind e && w.ended != some s.dev.timing.edges
    ∃ t, exec (.sdSfSliceEnd (.line n) sf v) s = .next t ∧ KeepsMemories s t
      ∧ t.dev.defect n bit = (if c.on = false then false else if due then estDecide (estD c.kind e) (s.dev.defect n bit) l
          else s.dev.defect n bit)
      ∧ t.dev.estWindow key = (if c.on = false then [] else if due then l else s.dev.estWindow key)
      ∧ (c.on = true → due = true → Store.get (fun _ => 0) t.dev.estAcc key = 0)
      ∧ (∀ q b, q < 104 → b < 32 → (q ≠ n.val ∨ b ≠ bit) → t.dev.defect q b = s.dev.defect q b)
      ∧ ∀ j, j ≠ key → t.dev.estWindow j = s.dev.estWindow j := by
  intro bit key c x e w v anew l due
  have hbit : bit < 32 := by
    change (if sf then defSf else defSd) < 32
    cases sf <;> decide
  have hexec : exec (.sdSfSliceEnd (.line n) sf v) s = .next { s with dev := (s.dev.when (Store.get (fun _ => 0) s.dev.estAcc
    (estKeyLane n.val (bitOf sf)) == v) (fun d => d.laneSlice n.val sf)) } := rfl
  rw [State.when_true s (beq_self_eq_true v)] at hexec
  have hslice : s.dev.laneSlice n.val sf = (s.dev.estSlice c key (laneUsed n.val sf) (F.lanePmStatClamp.lane n.val) (s.dev.defect n.val bit) sf).1.setDefect
      n.val bit (s.dev.estSlice c key (laneUsed n.val sf) (F.lanePmStatClamp.lane n.val) (s.dev.defect n.val bit) sf).2 := rfl
  obtain ⟨hres, hwin, hacc, hrest⟩ := s.dev.estSlice_shows c key (laneUsed n.val sf) (F.lanePmStatClamp.lane n.val) (s.dev.defect n.val bit) sf
  have hstatus := s.dev.estSlice_status c key (s.dev.defect n.val bit) sf (n := n.val)
  obtain ⟨r, hr⟩ : ∃ r, r = s.dev.estSlice c key (laneUsed n.val sf) (F.lanePmStatClamp.lane n.val) (s.dev.defect n.val bit) sf := ⟨_, rfl⟩
  rw [hslice] at hexec
  rw [← hr] at hexec hres hwin hacc hrest hstatus
  have honly := r.1.only_setDefect n.val bit r.2
  have hdefects : Dev.StatusBut n.val (defectFields bit) s.dev (r.1.setDefect n.val bit r.2) :=
    Dev.StatusBut.setDefect (fun q f hf hq => hstatus q f hf (hq.imp id fun _ g hg => absurd hg List.not_mem_nil)) (fun _ hg => hg) r.2
  refine ⟨_, hexec, ⟨rfl, rfl⟩, (Dev.defect_setDefect_same _ _ _ hbit).trans hres, (Dev.estWindow_congr honly.est key).trans hwin, fun hon hdue => ?_,
    fun q b hq hb hne => ?_, fun j hj => (Dev.estWindow_congr honly.est j).trans (hrest j hj)⟩
  · exact (congrArg (fun y => Store.get (fun _ => 0) y key) honly.estAcc).trans (hacc hon hdue)
  · by_cases hlane : q = n.val
    · have hbne : b ≠ bit := hne.resolve_left fun h => h hlane
      rw [hlane, Dev.defect_eq_on_defStat, Dev.defect_eq_on_defStat]
      refine hdefects.on (f := defStatField b) (by decide : Reg.laneDefStat ∈ laneStatusRegs) fun g hg => ?_
      refine decide_eq_true ?_
      rcases List.mem_cons.1 hg with rfl | hg
      · refine Or.inr ?_
        change bit + 1 ≤ 32 ∧ b + 1 ≤ 32 ∧ (b + 1 ≤ bit ∨ bit + 1 ≤ b)
        omega
      · rw [List.mem_singleton.1 hg]
        exact Or.inl (by decide : Reg.laneDefStat ≠ Reg.laneDefEvt)
    · exact hdefects.others q b hq hlane hb

end

end Sys2Proof.Machine

/-! The Monitor's baselines, bandwidth monitors and filtered counters (R404 to R415). -/

namespace Sys2Proof.Machine

set_option Elab.async false -- a proof at a time, within the memory of a check

/-- A write that is granted, once its effect `e` and its answer `r` are known. -/
theorem Dev.write_of {d e : Dev} {m a : Nat} {op : Dev → Dev × Resp} {r : Resp} (h : d.grant m a true = .ok) (hop : op d = (e, r)) :
    d.write m a op = { e with
        replies := (d.write m a op).replies, fec := (d.write m a op).fec, mate := (d.write m a op).mate }
      ∧ Replied m r e (d.write m a op) := by
  have hall := Dev.write_ok (op := op) h
  rw [hop] at hall
  exact hall

/-- The same, as the steps of the answer. -/
theorem Dev.write_okay_eq {d e : Dev} {m a : Nat} {op : Dev → Dev × Resp} (h : d.grant m a true = .ok) (hop : op d = okay e) :
    d.write m a op = ((e.when true (fun x => x.noteWrite a)).reply m { resp := .okay }).fecSeen m a true .okay 1 := by
  rw [Dev.write, h]
  dsimp only
  rw [hop]
  rfl

/-! Baselines (R408 to R410) -/

section
variable {s : State} {m : Master}

theorem exec_wrGo (m : Master) (s : State) :
    exec (.wrGo m) s = .next { s with dev := s.dev.write m Reg.pmWrGo (fun d => d.writeBaseline 1) } := rfl

/-- The device that holds the baseline of counter `k`. -/
def Dev.baselineAdded (d : Dev) (k : Nat) : Dev :=
  { d with ladle := { d.ladle with base := d.ladle.base.filter (fun x => x.1 != k)
      ++ [(k, (d.word Reg.pmWrLo).toNat + (d.word Reg.pmWrHi).toNat * 2 ^ 32)] } }

theorem Dev.writeBaseline_none (d : Dev) (h : d.wrKey = none) : d.writeBaseline 1 = (d, .slverr) := by
  rw [Dev.writeBaseline, if_neg (by decide), h]

theorem Dev.writeBaseline_some (d : Dev) {k : Nat} (h : d.wrKey = some k) : d.writeBaseline 1
    = if 4096 < (d.baselineAdded k).pendingBases then (d.raise F.pmEvtWrFull, .slverr)
      else okay ((d.baselineAdded k).put F.pmWrStatPending (d.baselineAdded k).pendingBases) := by
  rw [Dev.writeBaseline, if_neg (by decide), h, Dev.baselineAdded]
  rfl

variable (hw : s.mayWrite m.val Reg.pmWrGo)

include hw

theorem wrGo_refused (h : s.dev.wrKey = none) : ∃ t, exec (.wrGo m) s = .next t ∧ AnsweredWords m.val .slverr [] s t :=
  ⟨_, exec_wrGo m s, answeredWords_write (op := fun d => d.writeBaseline 1) hw (s.dev.writeBaseline_none h) (Dev.WordsOnly.refl [] _)⟩

theorem wrGo_full {k : Nat} (h : s.dev.wrKey = some k) (hfull : 4096 < (s.dev.baselineAdded k).pendingBases) :
    ∃ t, exec (.wrGo m) s = .next t ∧ AnsweredWords m.val .slverr [F.pmEvtWrFull.off] s t ∧ t.dev.on F.pmEvtWrFull = true := by
  have hop : (fun d : Dev => d.writeBaseline 1) s.dev = (s.dev.raise F.pmEvtWrFull, .slverr) :=
    (s.dev.writeBaseline_some h).trans (if_pos hfull)
  have hget : (s.dev.write m.val Reg.pmWrGo (fun d => d.writeBaseline 1)).get F.pmEvtWrFull = (s.dev.raise F.pmEvtWrFull).get F.pmEvtWrFull :=
    (Dev.write_ok_get hw F.pmEvtWrFull).trans (congrArg (fun x : Dev × Resp => x.1.get F.pmEvtWrFull) hop)
  exact ⟨_, exec_wrGo m s, answeredWords_write hw hop ((Dev.WordsOnly.refl _ _).put (f := F.pmEvtWrFull) (.head _) 1),
    (Dev.on_of_get hget).trans (Dev.on_raise _ F.pmEvtWrFull (by decide) (by decide))⟩

theorem wrGo_waits {k : Nat} (h : s.dev.wrKey = some k) (hroom : (s.dev.baselineAdded k).pendingBases ≤ 4096) :
    ∃ t, exec (.wrGo m) s = .next t ∧ Accessed m.val .okay [Reg.pmWrStat] s t ∧ t.dev.ladle = (s.dev.baselineAdded k).ladle
      ∧ t.dev.get F.pmWrStatPending = (s.dev.baselineAdded k).pendingBases := by
  obtain ⟨n, hn⟩ : ∃ n, n = (s.dev.baselineAdded k).pendingBases := ⟨_, rfl⟩
  have hop : (fun d : Dev => d.writeBaseline 1) s.dev = okay ((s.dev.baselineAdded k).put F.pmWrStatPending n) := by
    rw [hn]
    exact (s.dev.writeBaseline_some h).trans (if_neg (Nat.not_lt.2 hroom))
  rw [← hn] at hroom ⊢
  obtain ⟨hreply, hwords, -⟩ := Dev.write_okay (op := fun d => d.writeBaseline 1) hw hop
  have hframe := (Dev.write_of (op := fun d => d.writeBaseline 1) hw hop).1
  have hbut : Dev.WordsBut [Reg.pmWrStat] s.dev ((s.dev.baselineAdded k).put F.pmWrStatPending n) :=
    ((Dev.WordsBut.refl _ s.dev).of_words (by rw [Dev.baselineAdded])).put (f := F.pmWrStatPending) (.head _) n
  refine ⟨_, exec_wrGo m s, ⟨hreply, hbut.of_words hwords, rfl, rfl⟩, ?_, ?_⟩
  · exact (congrArg Dev.ladle hframe).trans rfl
  · refine (Dev.get_of_words hwords _).trans ((Dev.get_put_same _ F.pmWrStatPending n (by decide)).trans (Nat.mod_eq_of_lt ?_))
    exact Nat.lt_of_le_of_lt hroom (by decide)

end

/-! The alignment of the bins (R404) -/

theorem binAlign_writes {s : State} {m : Master} {data : W32} (hw : s.mayWrite m.val Reg.pmBinAlign) :
    ∃ t, exec (.binAlignWrite m data) s = .next t ∧ Accessed m.val .okay [Reg.pmBinAlign] s t
      ∧ t.dev.ladle = { s.dev.ladle with align := true }
      ∧ t.dev.word Reg.pmBinAlign = (s.dev.regWrite Reg.pmBinAlign data).word Reg.pmBinAlign := by
  have hexec : exec (.binAlignWrite m data) s = .next { s with dev := s.dev.write m Reg.pmBinAlign (fun d => okay (d.writeBinAlign data)) } := rfl
  have hreg := s.dev.regWrite_wordsOnly Reg.pmBinAlign data
  obtain ⟨d1, hd1⟩ : ∃ d1, d1 = s.dev.regWrite Reg.pmBinAlign data := ⟨_, rfl⟩
  have hop : (fun d : Dev => okay (d.writeBinAlign data)) s.dev = okay { d1 with ladle := { d1.ladle with align := true } } := by
    rw [hd1, ← Dev.writeBinAlign]
  rw [← hd1] at hreg ⊢
  obtain ⟨hreply, hwords, -⟩ := Dev.write_okay (op := fun d => okay (d.writeBinAlign data)) hw hop
  have hframe := (Dev.write_of (op := fun d => okay (d.writeBinAlign data)) hw hop).1
  have hladle : d1.ladle = s.dev.ladle := by rw [hreg.1]
  refine ⟨_, hexec, ⟨hreply, hreg.2.of_words hwords, rfl, rfl⟩, ?_, Dev.word_of_words hwords _⟩
  refine (congrArg Dev.ladle hframe).trans ?_
  rw [← hladle]

/-! Bandwidth monitors (R412, R413) -/

/-- The state of a bandwidth monitor. -/
abbrev Dev.bwAt (d : Dev) (n : Nat) : BwSt := Store.get (fun _ => ({} : BwSt)) d.bw n

/-- The device with a window of a monitor counted. -/
def Dev.bwCounted (d : Dev) (n start v : Nat) : Dev :=
  (({ d with bw := Store.set (fun _ => {}) d.bw n { start := start, bytes := (d.bwAt n).after } } : Dev).put (F.pmBwValKbps.at 16 n) v).put
    (F.pmBwPeakKbps.at 16 n) (Nat.max v (d.get (F.pmBwPeakKbps.at 16 n)))

section
variable {s : State} (n : Fin 64)

theorem exec_bwWindowEnd (n : Fin 64) (s : State) : exec (.bwWindowEnd n (s.dev.bwAt n).bytes) s = .next { s with dev := s.dev.bwWindow n.val } := by
  have hexec : exec (.bwWindowEnd n (s.dev.bwAt n).bytes) s = .next { s with dev := (s.dev.when ((s.dev.bwAt n).bytes == (s.dev.bwAt n).bytes)
    (fun d => d.bwWindow n.val)) } := rfl
  rw [hexec, State.when_true s (beq_self_eq_true _)]

theorem Dev.bwWindow_eq (d : Dev) (n : Nat) : d.bwWindow n = d.when (decide (1 ≤ d.get (F.pmBwSelObj.at 16 n)) && decide (d.get (F.pmBwSelObj.at 16 n) ≤ 8)
    && decide ((d.bwAt n).start + 8 * d.get (F.pmBwWinMs.at 16 n) ≤ d.timing.edges)) (fun e =>
      e.bwCounted n ((d.bwAt n).start + 8 * d.get (F.pmBwWinMs.at 16 n))
        (Nat.min 0xFFFF_FFFF ((d.bwAt n).bytes * 8 / d.get (F.pmBwWinMs.at 16 n)))) := rfl

theorem Dev.bwCounted_shows (d : Dev) (n : Nat) (start : Nat) {v : Nat} (hv : v < 2 ^ 32) :
    (d.bwCounted n start v).get (F.pmBwValKbps.at 16 n) = v
    ∧ (d.bwCounted n start v).get (F.pmBwPeakKbps.at 16 n) = Nat.max v (d.get (F.pmBwPeakKbps.at 16 n))
    ∧ (d.bwCounted n start v).bw = Store.set (fun _ => {}) d.bw n { start := start, bytes := (d.bwAt n).after }
    ∧ Dev.WordsBut [Reg.pmBwVal + 16 * n, Reg.pmBwPeak + 16 * n] d (d.bwCounted n start v)
    ∧ d.bwCounted n start v = { d with words := (d.bwCounted n start v).words, bw := (d.bwCounted n start v).bw } := by
  obtain ⟨x, hx⟩ : ∃ x : Dev, x = { d with bw := Store.set (fun _ => {}) d.bw n { start := start, bytes := (d.bwAt n).after } } := ⟨_, rfl⟩
  obtain ⟨p, hp⟩ : ∃ p, p = Nat.max v (d.get (F.pmBwPeakKbps.at 16 n)) := ⟨_, rfl⟩
  have heq : d.bwCounted n start v = (x.put (F.pmBwValKbps.at 16 n) v).put (F.pmBwPeakKbps.at 16 n) p := by rw [hx, hp, Dev.bwCounted]
  have hpeak : d.get (F.pmBwPeakKbps.at 16 n) < 2 ^ 32 := d.get_lt _
  have hplt : p < 2 ^ 32 := hp ▸ Nat.max_lt.2 ⟨hv, hpeak⟩
  have hbw : x.bw = Store.set (fun _ => {}) d.bw n { start := start, bytes := (d.bwAt n).after } := by rw [hx]
  have hwords : x.words = d.words := by rw [hx]
  have hframe : x = { d with words := x.words, bw := x.bw } := by rw [hx]
  have hone : Dev.WordsOnly [Reg.pmBwVal + 16 * n, Reg.pmBwPeak + 16 * n] x ((x.put (F.pmBwValKbps.at 16 n) v).put (F.pmBwPeakKbps.at 16 n) p) :=
    ((Dev.WordsOnly.refl _ x).put (f := F.pmBwValKbps.at 16 n) (.head _) v).put (f := F.pmBwPeakKbps.at 16 n) (.tail _ (.head _)) p
  have hbut : Dev.WordsBut [Reg.pmBwVal + 16 * n, Reg.pmBwPeak + 16 * n] d x := (Dev.WordsBut.refl _ d).of_words hwords
  rw [heq, ← hp]
  refine ⟨?_, (Dev.get_put_same _ _ _ (show (0 : Nat) + 32 ≤ 32 by decide)).trans (Nat.mod_eq_of_lt hplt), (congrArg Dev.bw hone.1).trans hbw,
    hbut.trans hone.2, ?_⟩
  · refine (Dev.get_put_apart _ _ (Or.inl ?_)).trans ((Dev.get_put_same _ _ _ (show (0 : Nat) + 32 ≤ 32 by decide)).trans (Nat.mod_eq_of_lt hv))
    simp only [Field.at, F.pmBwValKbps, F.pmBwPeakKbps]
    omega
  · obtain ⟨y, hy⟩ : ∃ y, y = (x.put (F.pmBwValKbps.at 16 n) v).put (F.pmBwPeakKbps.at 16 n) p := ⟨_, rfl⟩
    rw [← hy] at hone ⊢
    have hybw : y.bw = x.bw := by rw [hone.1]
    rw [hybw]
    exact hone.1.trans (by rw [hframe])

theorem bwWindowEnd_counts (hone : 1 ≤ s.dev.get (F.pmBwSelObj.at 16 n)) (hobj : s.dev.get (F.pmBwSelObj.at 16 n) ≤ 8)
    (hdue : (s.dev.bwAt n).start + 8 * s.dev.get (F.pmBwWinMs.at 16 n) ≤ s.dev.timing.edges) :
    let x := s.dev.bwAt n
    let ms := s.dev.get (F.pmBwWinMs.at 16 n)
    let v := Nat.min 0xFFFF_FFFF (x.bytes * 8 / ms)
    ∃ t, exec (.bwWindowEnd n x.bytes) s = .next t ∧ t.dev.get (F.pmBwValKbps.at 16 n) = v
      ∧ t.dev.get (F.pmBwPeakKbps.at 16 n) = Nat.max v (s.dev.get (F.pmBwPeakKbps.at 16 n))
      ∧ t.dev.bwAt n = { start := x.start + 8 * ms, bytes := x.after }
      ∧ (∀ j, j ≠ n.val → t.dev.bwAt j = s.dev.bwAt j)
      ∧ Dev.WordsBut [Reg.pmBwVal + 16 * n.val, Reg.pmBwPeak + 16 * n.val] s.dev t.dev
      ∧ t = { s with dev := { s.dev with words := t.dev.words, bw := t.dev.bw } } := by
  intro x ms v
  have hv : v < 2 ^ 32 := Nat.lt_of_le_of_lt (Nat.min_le_left _ _) (by decide)
  have hexec := exec_bwWindowEnd n s
  rw [Dev.bwWindow_eq, State.when_true s (by rw [decide_eq_true hone, decide_eq_true hobj, decide_eq_true hdue]; rfl)] at hexec
  obtain ⟨hval, hpeak, hbw, hwords, hframe⟩ := s.dev.bwCounted_shows n.val (x.start + 8 * ms) hv
  obtain ⟨y, hy⟩ : ∃ y, y = s.dev.bwCounted n.val (x.start + 8 * ms) v := ⟨_, rfl⟩
  have hnext : exec (.bwWindowEnd n x.bytes) s = .next { s with dev := y } := by rw [hexec, hy]
  rw [← hy] at hval hpeak hbw hwords hframe
  refine ⟨_, hnext, hval, hpeak, ?_, fun j hj => ?_, hwords, congrArg (fun d => ({ s with dev := d } : State)) hframe⟩
  · rw [Dev.bwAt, hbw, Store.get_set_same]
  · rw [Dev.bwAt, hbw, Store.get_set_other _ _ _ hj]

theorem bwWindowEnd_early (hearly : s.dev.timing.edges < (s.dev.bwAt n).start + 8 * s.dev.get (F.pmBwWinMs.at 16 n)) :
    exec (.bwWindowEnd n (s.dev.bwAt n).bytes) s = .next s := by
  rw [exec_bwWindowEnd n s, Dev.bwWindow_eq, State.when_false s (by rw [decide_eq_false (Nat.not_le.2 hearly), Bool.and_false])]

theorem bwPeakRead_reads {m : Master} (hr : s.mayRead m.val (Reg.pmBwPeak + 16 * n.val)) :
    ∃ t, exec (.bwPeakRead m n) s = .next t
      ∧ t.dev.replyTo m.val = { resp := .okay, data := wordBytes (s.dev.word (Reg.pmBwPeak + 16 * n.val)) }
      ∧ t.dev.get (F.pmBwPeakKbps.at 16 n) = s.dev.get (F.pmBwValKbps.at 16 n)
      ∧ AnsweredWords m.val .okay [Reg.pmBwPeak + 16 * n.val] s t := by
  have hexec : exec (.bwPeakRead m n) s = .next { s with dev := (s.dev.readThen m.val (Reg.pmBwPeak + 16 * n.val)
    (s.dev.word (Reg.pmBwPeak + 16 * n.val)) (fun e => e.put (F.pmBwPeakKbps.at 16 n) (e.get (F.pmBwValKbps.at 16 n)))) } := rfl
  exact ⟨_, hexec, readThen_put (f := F.pmBwPeakKbps.at 16 n) (g := F.pmBwValKbps.at 16 n) hr rfl (show (0 : Nat) + 32 ≤ 32 by decide) rfl⟩

theorem bwSelWrite_restarts {m : Master} (win : Bool) (data : W32) :
    let a := (if win then Reg.pmBwWin else Reg.pmBwSel) + 16 * n.val
    s.mayWrite m.val a →
    ∃ t, exec (.bwSelWrite m n win data) s = .next t ∧ t.dev.get (F.pmBwValKbps.at 16 n) = 0
      ∧ t.dev.get (F.pmBwPeakKbps.at 16 n) = 0 ∧ t.dev.word a = (s.dev.regWrite a data).word a
      ∧ t.dev.bwAt n = { start := s.dev.timing.edges + 8 - s.dev.seqNow % 8 }
      ∧ (∀ j, j ≠ n.val → t.dev.bwAt j = s.dev.bwAt j)
      ∧ Accessed m.val .okay [a, Reg.pmBwVal + 16 * n.val, Reg.pmBwPeak + 16 * n.val] s t := by
  intro a hw
  have hexec : exec (.bwSelWrite m n win data) s = .next { s with dev := s.dev.write m a (fun d => okay (d.writeBw n.val win data)) } := rfl
  have ha : a = Reg.pmBwWin + 16 * n.val ∨ a = Reg.pmBwSel + 16 * n.val := by
    change (if win then Reg.pmBwWin else Reg.pmBwSel) + 16 * n.val = _ ∨ (if win then Reg.pmBwWin else Reg.pmBwSel) + 16 * n.val = _
    cases win
    · exact .inr rfl
    · exact .inl rfl
  have hn := n.isLt
  obtain ⟨x, hx⟩ : ∃ x : Dev, x = { s.dev with bw := Store.set (fun _ => {}) s.dev.bw n.val { start := s.dev.timing.edges + 8 - s.dev.seqNow % 8 } } := ⟨_, rfl⟩
  obtain ⟨y, hy⟩ : ∃ y, y = x.regWrite a data := ⟨_, rfl⟩
  obtain ⟨z, hz⟩ : ∃ z, z = (y.put (F.pmBwValKbps.at 16 n) 0).put (F.pmBwPeakKbps.at 16 n) 0 := ⟨_, rfl⟩
  have hxw : x.words = s.dev.words := by rw [hx]
  have hreg : Dev.WordsOnly [a] x y := hy ▸ x.regWrite_wordsOnly a data
  have hput : Dev.WordsOnly [Reg.pmBwVal + 16 * n.val, Reg.pmBwPeak + 16 * n.val] y z := by
    rw [hz]
    exact ((Dev.WordsOnly.refl _ y).put (f := F.pmBwValKbps.at 16 n) (.head _) 0).put (f := F.pmBwPeakKbps.at 16 n) (.tail _ (.head _)) 0
  have hword : y.word a = (s.dev.regWrite a data).word a := by
    rw [hy, Dev.regWrite, Dev.regWrite]
    cases regDefOf a with
    | none => exact Dev.word_of_words hxw a
    | some r =>
      change (x.setWord a (r.written (x.word a) data)).word a = (s.dev.setWord a (r.written (s.dev.word a) data)).word a
      rw [Dev.word_setWord_same, Dev.word_setWord_same, Dev.word_of_words hxw]
  have hop : (fun d : Dev => okay (d.writeBw n.val win data)) s.dev = okay z := by
    rw [hz, hy, hx]
    rfl
  obtain ⟨hreply, hwords, -⟩ := Dev.write_okay (op := fun d => okay (d.writeBw n.val win data)) hw hop
  have hframe := (Dev.write_of (op := fun d => okay (d.writeBw n.val win data)) hw hop).1
  obtain ⟨w, hwr⟩ : ∃ w, w = s.dev.write m.val a (fun d => okay (d.writeBw n.val win data)) := ⟨_, rfl⟩
  rw [← hwr] at hreply hwords hframe
  have hnext : exec (.bwSelWrite m n win data) s = .next { s with dev := w } := by rw [hexec, hwr]
  have hbw : w.bw = Store.set (fun _ => {}) s.dev.bw n.val { start := s.dev.timing.edges + 8 - s.dev.seqNow % 8 } := by
    have hyx : y.bw = x.bw := by rw [hreg.1]
    have hzy : z.bw = y.bw := by rw [hput.1]
    have hwz : w.bw = z.bw := by rw [hframe]
    rw [hwz, hzy, hyx, hx]
  have hbut : Dev.WordsBut [a, Reg.pmBwVal + 16 * n.val, Reg.pmBwPeak + 16 * n.val] s.dev z :=
    (((Dev.WordsBut.refl _ s.dev).of_words hxw).trans (hreg.2.mono (List.cons_subset_cons _ (List.nil_subset _)))).trans
      (hput.2.mono (List.subset_cons_self _ _))
  refine ⟨_, hnext, ?_, ?_, ?_, ?_, fun j hj => ?_, hreply, hbut.of_words hwords, rfl, rfl⟩
  · refine (Dev.get_of_words hwords _).trans ?_
    rw [hz]
    refine (Dev.get_put_apart _ _ (Or.inl ?_)).trans (Dev.get_put_same _ _ _ (show (0 : Nat) + 32 ≤ 32 by decide))
    simp only [Field.at, F.pmBwValKbps, F.pmBwPeakKbps]
    omega
  · refine (Dev.get_of_words hwords _).trans ?_
    rw [hz]
    exact Dev.get_put_same _ _ _ (show (0 : Nat) + 32 ≤ 32 by decide)
  · refine (Dev.word_of_words hwords a).trans ((hput.2 a ?_).trans hword)
    simp only [List.mem_cons, List.not_mem_nil, or_false, not_or, Reg.pmBwVal, Reg.pmBwPeak, Reg.pmBwWin, Reg.pmBwSel] at ha ⊢
    omega
  · rw [Dev.bwAt, hbw, Store.get_set_same]
  · rw [Dev.bwAt, hbw, Store.get_set_other _ _ _ hj]

end

/-! Filtered counters (R415) -/

section
variable (d : Dev) (n : Nat)

theorem Dev.fecCount_setFec_same (v : Nat) : (d.setFec n v).fecCount n = v % 2 ^ 64 := Store.get_set_same ..

theorem Dev.fecCount_setFec_other {j k : Nat} (h : j ≠ k) (v : Nat) : (d.setFec k v).fecCount j = d.fecCount j := Store.get_set_other _ _ _ h

theorem Dev.fecCount_congr {d e : Dev} (h : e.fec = d.fec) (j : Nat) : e.fecCount j = d.fecCount j := by rw [Dev.fecCount, h, ← Dev.fecCount]

/-- Counting an answer at most once adds at most one. -/
theorem Dev.fecCount_foldl (c : Dev → Nat → Bool) (l : List Nat) (hl : l.Nodup) : ∀ e : Dev,
    (l.foldl (fun e i => if c d i then e.setFec i (e.fecCount i + (if d.on (F.pmFecCfgBeats.at 32 i) then 1 else 1)) else e) e).fecCount n
      ≤ e.fecCount n + (if n ∈ l then 1 else 0) := by
  induction l with
  | nil => exact fun e => Nat.le_refl _
  | cons i l ih =>
    intro e
    obtain ⟨hi, hl'⟩ := List.nodup_cons.1 hl
    rw [List.foldl_cons]
    refine (ih hl' _).trans ?_
    by_cases hni : n = i
    · subst hni
      rw [if_neg hi, if_pos List.mem_cons_self, Nat.add_zero]
      split
      · rw [Dev.fecCount_setFec_same, ite_self]
        exact Nat.mod_le _ _
      · exact Nat.le_succ _
    · have hsame : (if c d i then e.setFec i (e.fecCount i + (if d.on (F.pmFecCfgBeats.at 32 i) then 1 else 1)) else e).fecCount n = e.fecCount n := by
        split
        · exact e.fecCount_setFec_other hni _
        · rfl
      have hmem : (if n ∈ l then 1 else 0) ≤ (if n ∈ i :: l then 1 else 0 : Nat) := by
        by_cases h : n ∈ l
        · rw [if_pos h, if_pos (List.mem_cons_of_mem _ h)]
        · rw [if_neg h]
          exact Nat.zero_le _
      rw [hsame]
      exact Nat.add_le_add_left hmem _

theorem Dev.fecCount_fecSeen (m a : Nat) (w : Bool) (r : Resp) : (d.fecSeen m a w r 1).fecCount n ≤ d.fecCount n + 1 := by
  have hle := Dev.fecCount_foldl d n (fun e i => e.fecMatch i m a w r) (List.range 16) List.nodup_range d
  refine hle.trans (Nat.add_le_add_left ?_ _)
  split
  · exact Nat.le_refl _
  · exact Nat.zero_le _

end

theorem regDefOf_fecCfg : ∀ n : Fin 16, regDefOf (Reg.pmFecCfg + 32 * n.val) = some ⟨0x800, 16, 32, 32543, 0, 32512, [.reserved 1 3 7 7]⟩ := by
  decide +kernel

theorem Dev.fecCfg_written (d : Dev) (n : Fin 16) (data : W32) :
    (d.regWrite (Reg.pmFecCfg + 32 * n.val) data).on (F.pmFecCfgEn.at 32 n) = (getF data 0 1 != 0) := by
  have hword := Dev.regWrite_of_def (d := d) (regDefOf_fecCfg n) data
  have hbit : getF (RegDef.written ⟨0x800, 16, 32, 32543, 0, 32512, [.reserved 1 3 7 7]⟩ (d.word (Reg.pmFecCfg + 32 * n.val)) data) 0 1
      = getF data 0 1 := by
    have hplain := getF_written_bit0 (d.word (Reg.pmFecCfg + 32 * n.val)) data 0x800 16 32 32543 32512 (by decide) (by decide)
    obtain ⟨w, hw⟩ : ∃ w, w = RegDef.written ⟨0x800, 16, 32, 32543, 0, 32512, []⟩ (d.word (Reg.pmFecCfg + 32 * n.val)) data := ⟨_, rfl⟩
    rw [← hw] at hplain
    have hrule : RegDef.written ⟨0x800, 16, 32, 32543, 0, 32512, [.reserved 1 3 7 7]⟩ (d.word (Reg.pmFecCfg + 32 * n.val)) data
        = applyRule (d.word (Reg.pmFecCfg + 32 * n.val)) w (.reserved 1 3 7 7) := by
      rw [hw]
      rfl
    rw [hrule, ← hplain, applyRule]
    split
    · exact getF_putF_other _ _ _ _ _ _ (by decide) (by decide) (by decide)
    · rfl
  rw [hword, Dev.on, Dev.get]
  change (getF ((d.setWord (Reg.pmFecCfg + 32 * n.val) _).word (Reg.pmFecCfg + 32 * n.val)) 0 1 != 0) = _
  rw [Dev.word_setWord_same, hbit]

theorem fecEnable_clears {s : State} {m : Master} {n : Fin 16} {data : W32} (hw : s.mayWrite m.val (Reg.pmFecCfg + 32 * n.val)) :
    ∃ t, exec (.fecEnable m n data) s = .next t ∧ AnsweredWords m.val .okay [Reg.pmFecCfg + 32 * n.val] s t
      ∧ t.dev.word (Reg.pmFecCfg + 32 * n.val) = (s.dev.regWrite (Reg.pmFecCfg + 32 * n.val) data).word (Reg.pmFecCfg + 32 * n.val)
      ∧ (s.dev.on (F.pmFecCfgEn.at 32 n) = false → getF data 0 1 = 1 → t.dev.fecCount n ≤ 1) := by
  obtain ⟨a, ha⟩ : ∃ a, a = Reg.pmFecCfg + 32 * n.val := ⟨_, rfl⟩
  have hbit := s.dev.fecCfg_written n data
  rw [← ha] at hw hbit ⊢
  have hexec : exec (.fecEnable m n data) s = .next { s with dev := s.dev.write m a (fun d => okay (d.writeFec n.val data)) } := by
    rw [ha]
    rfl
  have hreg := s.dev.regWrite_wordsOnly a data
  obtain ⟨y, hy⟩ : ∃ y, y = s.dev.regWrite a data := ⟨_, rfl⟩
  rw [← hy] at hreg hbit ⊢
  obtain ⟨c, hc⟩ : ∃ c, c = (!s.dev.on (F.pmFecCfgEn.at 32 n) && y.on (F.pmFecCfgEn.at 32 n)) := ⟨_, rfl⟩
  obtain ⟨z, hz⟩ : ∃ z, z = y.when c (fun e => e.setFec n.val 0) := ⟨_, rfl⟩
  have hop : (fun d : Dev => okay (d.writeFec n.val data)) s.dev = okay z := by
    rw [hz, hc, hy, ha]
    rfl
  have hzf : z = { y with fec := z.fec } := by
    rw [hz]
    exact Dev.when_of (P := fun e => e = { y with fec := e.fec }) c rfl rfl
  obtain ⟨hframe, hanswer⟩ := Dev.write_of (op := fun d => okay (d.writeFec n.val data)) hw hop
  obtain ⟨hreply, hwords, -⟩ := Dev.write_okay (op := fun d => okay (d.writeFec n.val data)) hw hop
  have hcount : (s.dev.write m.val a (fun d => okay (d.writeFec n.val data))).fecCount n ≤ z.fecCount n + 1 := by
    rw [Dev.write_okay_eq (op := fun d => okay (d.writeFec n.val data)) hw hop]
    refine (Dev.fecCount_fecSeen _ n.val m a true .okay).trans (Nat.add_le_add_right (Nat.le_of_eq ?_) 1)
    refine Dev.fecCount_congr ?_ n.val
    have hnote : (z.when true (fun e => e.noteWrite a)).fec = z.fec := by
      refine Dev.when_of (P := fun e => e.fec = z.fec) _ rfl ?_
      rw [z.noteWrite_frame a]
    exact hnote
  have hyz : z.words = y.words := by rw [hzf]
  obtain ⟨w, hwr⟩ : ∃ w, w = s.dev.write m.val a (fun d => okay (d.writeFec n.val data)) := ⟨_, rfl⟩
  rw [← hwr] at hframe hanswer hreply hwords hcount
  have hnext : exec (.fecEnable m n data) s = .next { s with dev := w } := by rw [hexec, hwr]
  obtain ⟨hres, hothers, hmate⟩ := hanswer
  have hzd : z = { s.dev with words := z.words, fec := z.fec } := by
    rw [hyz]
    exact hzf.trans (by rw [hreg.1])
  have hzr (j : Nat) : z.replyTo j = s.dev.replyTo j := by
    have hreplies : z.replies = s.dev.replies := by rw [hzd]
    rw [Dev.replyTo, hreplies, ← Dev.replyTo]
  have hzm : z.mate = s.dev.mate := by rw [hzd]
  refine ⟨_, hnext, ⟨?_, ⟨hres, fun j hj => (hothers j hj).trans (hzr j), ?_⟩, (hreg.2.of_words hyz).of_words hwords⟩,
    (Dev.word_of_words hwords a).trans (Dev.word_of_words hyz a), fun hoff hone => ?_⟩
  · refine congrArg (fun d => ({ s with dev := d } : State)) ?_
    rw [hwords]
    exact hframe.trans (by rw [hzd])
  · rw [← hzm]
    exact hmate
  · refine hcount.trans (Nat.succ_le_succ (Nat.le_of_eq ?_))
    have hset : c = true := by rw [hc, hoff, hbit, hone]; rfl
    rw [hz, Dev.when_eq hset, Dev.fecCount_setFec_same]
    exact Nat.zero_mod _

end Sys2Proof.Machine

/-! The Skewer: tags, stamps and the ring of records (R416 to R419). -/

namespace Sys2Proof.Machine

set_option Elab.async false -- a proof at a time, within the memory of a check

/-! Words in memory -/

theorem wordOfBytes_byteOf (w : W32) : wordOfBytes (byteOf w 0) (byteOf w 1) (byteOf w 2) (byteOf w 3) = w := by
  have hw := w.isLt
  refine BitVec.eq_of_toNat_eq ?_
  simp only [wordOfBytes, byteOf, BitVec.toNat_ofNat]
  omega

/-- The words of a record, as bytes. -/
abbrev recordBytes (r : List Nat) : List Byte := r.flatMap (fun v => wordBytes (BitVec.ofNat 32 v))

theorem recordBytes_length (r : List Nat) : (recordBytes r).length = 4 * r.length := by
  induction r with
  | nil => rfl
  | cons v r ih =>
    rw [recordBytes, List.flatMap_cons, List.length_append, ih, List.length_cons]
    change 4 + 4 * r.length = _
    omega

theorem recordBytes_getD (r : List Nat) : ∀ {j i : Nat}, j < r.length → i < 4 →
    (recordBytes r).getD (4 * j + i) 0 = byteOf (BitVec.ofNat 32 (r.getD j 0)) i := by
  induction r with
  | nil => exact fun hj _ => absurd hj (Nat.not_lt_zero _)
  | cons v r ih =>
    intro j i hj hi
    have hcons : recordBytes (v :: r) = wordBytes (BitVec.ofNat 32 v) ++ recordBytes r := List.flatMap_cons ..
    have hlen : (wordBytes (BitVec.ofNat 32 v)).length = 4 := rfl
    rw [hcons]
    cases j with
    | zero =>
      rw [List.getD_append _ _ _ _ (by omega), List.getD_cons_zero]
      have hcases : i = 0 ∨ i = 1 ∨ i = 2 ∨ i = 3 := by omega
      rcases hcases with rfl | rfl | rfl | rfl <;> rfl
    | succ j =>
      rw [List.getD_append_right _ _ _ _ (by omega), hlen, show 4 * (j + 1) + i - 4 = 4 * j + i by omega, List.getD_cons_succ]
      exact ih (Nat.lt_of_succ_lt_succ hj) hi

/-- A word of a record that memory holds. -/
theorem memWord_memWrite_record (m : List Host.Cell) (a : Nat) {r : List Nat} {j : Nat} (hj : j < r.length) :
    memWord (memWrite m a (recordBytes r)) (a + 4 * j) = BitVec.ofNat 32 (r.getD j 0) := by
  have hbyte (i : Nat) (hi : i < 4) : memByte (memWrite m a (recordBytes r)) (a + 4 * j + i) = byteOf (BitVec.ofNat 32 (r.getD j 0)) i := by
    rw [Nat.add_assoc, memByte_memWrite_in _ _ _ _ (by rw [recordBytes_length]; omega), recordBytes_getD r hj hi]
  rw [memWord, hbyte 1 (by decide), hbyte 2 (by decide), hbyte 3 (by decide)]
  have hzero := hbyte 0 (by decide)
  rw [Nat.add_zero] at hzero
  rw [hzero]
  exact wordOfBytes_byteOf _

/-! The ring (R418) -/

theorem TaggedUnit.words_length (u : TaggedUnit) (lost : Bool) (h : u.stamps.length ≤ 12) : (u.words lost).length = 16 := by
  rw [TaggedUnit.words]
  simp only [List.length_append, List.length_cons, List.length_nil, List.length_map, List.length_replicate]
  omega

/-- No record that waits leaves the device and the memory as they are. -/
theorem writeTraces_quiet (d : Dev) (m : List Host.Cell) (h : d.skw.waiting = [] ∨ d.hbmUp = false) : writeTraces (d, m) = (d, m) := by
  rw [writeTraces]
  cases hup : d.hbmUp with
  | false => exact if_pos rfl
  | true =>
    have hempty : d.skw.waiting = [] := h.resolve_right (by rw [hup]; decide)
    rw [if_neg (by decide), hempty, List.foldl_nil]
    refine Prod.ext ?_ rfl
    change ({ d with skw := { d.skw with waiting := [] } } : Dev) = d
    rw [← hempty]

/-- Whether the memory answers depends on no word but those of its status. -/
theorem Dev.hbmUp_congr {d e : Dev} (h0 : e.on F.hbmStatTrained0 = d.on F.hbmStatTrained0)
    (h1 : e.on F.hbmStatTrained1 = d.on F.hbmStatTrained1) (hmodes : e.modes = d.modes) : e.hbmUp = d.hbmUp := by
  rw [Dev.hbmUp, Dev.hbmUp, Dev.hbmTrained, Dev.hbmTrained, h0, h1, hmodes]

/-- A record that waits alone is written at the head of the ring. -/
theorem writeTraces_one (d : Dev) (m : List Host.Cell) {r : List Nat} (h : d.skw.waiting = [r]) (hup : d.hbmUp = true) :
    writeTraces (d, m) = ({ d.roll F.pmSkwHeadIndex 1 with skw := { d.skw with waiting := [] } },
      if d.traceBase = 0 then m else memWrite m (d.traceBase + 64 * d.get F.pmSkwHeadIndex) (recordBytes r)) := by
  rw [writeTraces, if_neg (by rw [hup]; decide), h]
  rfl

/-! Tags (R416, R419) -/

section
variable {s : State} (k : BitVec 3) (src : BitVec 7) (w : W32)

theorem exec_traceRecordWrite (u : TraceUnit) (s : State) : exec (.traceRecordWrite u) s
    = .next { s with dev := (writeTraces (s.dev.trace u, s.mem)).1, mem := (writeTraces (s.dev.trace u, s.mem)).2 } := rfl

/-- A unit whose records do not go out is traced in the device alone. -/
theorem exec_traceRecordWrite_quiet {u : TraceUnit} {e : Dev} (he : s.dev.trace u = e) (hquiet : e.skw.waiting = [] ∨ e.hbmUp = false) :
    exec (.traceRecordWrite u) s = .next { s with dev := e } := by
  rw [exec_traceRecordWrite, he, writeTraces_quiet e s.mem hquiet]

theorem Dev.placeTag_eq (d : Dev) (kind source word1 : Nat) : d.placeTag kind source word1 =
    if !(d.tagsPlaced && skewChooses (d.word Reg.pmSkwCfg) kind source) then d
    else if 32768 ≤ d.skw.held.length + d.skw.waiting.length then (d.roll F.pmSkwDropCount 1).raise F.pmEvtSkwDrop
    else ({ d with skw := { d.skw with held := d.skw.held ++ [{
      serial := d.get F.pmSkwTagsCount, kind := kind, source := source, word1 := word1, tb := d.timeBase,
      stamps := [(((skewStages kind).headD []).headD 0, d.now)] }] } } : Dev).roll F.pmSkwTagsCount 1 := by
  rw [Dev.placeTag, Bool.not_and]
  have hentries : skewEntries = 32768 := rfl
  by_cases hfull : 32768 ≤ d.skw.held.length + d.skw.waiting.length
  · rw [if_pos hfull, if_pos (decide_eq_true (hentries ▸ hfull))]
  · rw [if_neg hfull, if_neg (fun h => hfull (hentries ▸ of_decide_eq_true h))]

variable (hquiet : s.dev.skw.waiting = [] ∨ s.dev.hbmUp = false)

include hquiet

theorem tag_unchosen (h : (s.dev.tagsPlaced && skewChooses (s.dev.word Reg.pmSkwCfg) k.toNat src.toNat) = false) :
    ∃ t, exec (.traceRecordWrite (.tag k src w)) s = .next t ∧ t = s := by
  have htrace : s.dev.trace (.tag k src w) = s.dev := by
    change s.dev.placeTag k.toNat src.toNat w.toNat = s.dev
    rw [Dev.placeTag_eq, h]
    rfl
  exact ⟨_, exec_traceRecordWrite_quiet htrace hquiet, rfl⟩

theorem tag_placed (h : (s.dev.tagsPlaced && skewChooses (s.dev.word Reg.pmSkwCfg) k.toNat src.toNat) = true)
    (hroom : s.dev.skw.held.length + s.dev.skw.waiting.length < 32768) :
    ∃ t, exec (.traceRecordWrite (.tag k src w)) s = .next t ∧ KeepsMemories s t
      ∧ t.dev.skw.waiting = s.dev.skw.waiting
      ∧ t.dev.skw.held = s.dev.skw.held ++ [{
          serial := s.dev.get F.pmSkwTagsCount, kind := k.toNat, source := src.toNat, word1 := w.toNat, tb := s.dev.timeBase,
          stamps := [(((skewStages k.toNat).headD []).headD 0, s.dev.now)] }]
      ∧ t.dev.get F.pmSkwTagsCount = (s.dev.get F.pmSkwTagsCount + 1) % 2 ^ 32 ∧ Dev.WordsBut [Reg.pmSkwTags] s.dev t.dev := by
  obtain ⟨x, hx⟩ : ∃ x : Dev, x = { s.dev with skw := { s.dev.skw with held := s.dev.skw.held ++ [{
      serial := s.dev.get F.pmSkwTagsCount, kind := k.toNat, source := src.toNat, word1 := w.toNat, tb := s.dev.timeBase,
      stamps := [(((skewStages k.toNat).headD []).headD 0, s.dev.now)] }] } } := ⟨_, rfl⟩
  have htrace : s.dev.trace (.tag k src w) = x.roll F.pmSkwTagsCount 1 := by
    change s.dev.placeTag k.toNat src.toNat w.toNat = _
    rw [Dev.placeTag_eq, h, if_neg (by decide), if_neg (Nat.not_le.2 hroom), hx]
  have hwords : x.words = s.dev.words := by rw [hx]
  have hskw : x.skw = { s.dev.skw with held := s.dev.skw.held ++ [{
      serial := s.dev.get F.pmSkwTagsCount, kind := k.toNat, source := src.toNat, word1 := w.toNat, tb := s.dev.timeBase,
      stamps := [(((skewStages k.toNat).headD []).headD 0, s.dev.now)] }] } := by rw [hx]
  have honly : Dev.WordsOnly [Reg.pmSkwTags] x (x.roll F.pmSkwTagsCount 1) := (Dev.WordsOnly.refl _ x).put (f := F.pmSkwTagsCount) (.head _) _
  have hcount := x.get_roll_same (f := F.pmSkwTagsCount) (by decide) 1
  obtain ⟨y, hy⟩ : ∃ y, y = x.roll F.pmSkwTagsCount 1 := ⟨_, rfl⟩
  rw [← hy] at htrace honly hcount
  have hyskw : y.skw = x.skw := by rw [honly.1]
  have hyup : y.hbmUp = s.dev.hbmUp := by
    have hon : y.hbmUp = x.hbmUp := Dev.hbmUp_congr (honly.2.on (by decide)) (honly.2.on (by decide)) (by rw [honly.1])
    rw [hon, hx]
    rfl
  have hyquiet : y.skw.waiting = [] ∨ y.hbmUp = false := by
    rw [hyup, hyskw, hskw]
    exact hquiet
  refine ⟨_, exec_traceRecordWrite_quiet htrace hyquiet, ⟨rfl, rfl⟩, ?_, ?_, ?_, ?_⟩
  · rw [hyskw, hskw]
  · rw [hyskw, hskw]
  · refine hcount.trans ?_
    rw [Dev.get_of_words hwords]
    rfl
  · exact ((Dev.WordsBut.refl _ s.dev).of_words hwords).trans honly.2

theorem tag_dropped (h : (s.dev.tagsPlaced && skewChooses (s.dev.word Reg.pmSkwCfg) k.toNat src.toNat) = true)
    (hfull : 32768 ≤ s.dev.skw.held.length + s.dev.skw.waiting.length) :
    ∃ t, exec (.traceRecordWrite (.tag k src w)) s = .next t ∧ t.dev.on F.pmEvtSkwDrop = true
      ∧ t.dev.get F.pmSkwDropCount = (s.dev.get F.pmSkwDropCount + 1) % 2 ^ 32
      ∧ OnlyWords [Reg.pmSkwDrop, F.pmEvtSkwDrop.off] s t := by
  have htrace : s.dev.trace (.tag k src w) = (s.dev.roll F.pmSkwDropCount 1).raise F.pmEvtSkwDrop := by
    change s.dev.placeTag k.toNat src.toNat w.toNat = _
    rw [Dev.placeTag_eq, h, if_neg (by decide), if_pos hfull]
  have honly : Dev.WordsOnly [Reg.pmSkwDrop, F.pmEvtSkwDrop.off] s.dev ((s.dev.roll F.pmSkwDropCount 1).raise F.pmEvtSkwDrop) :=
    ((Dev.WordsOnly.refl _ _).put (f := F.pmSkwDropCount) (.head _) _).put (f := F.pmEvtSkwDrop) (.tail _ (.head _)) 1
  have hevt : ((s.dev.roll F.pmSkwDropCount 1).raise F.pmEvtSkwDrop).on F.pmEvtSkwDrop = true := Dev.on_raise _ _ (by decide) (by decide)
  have hcount : ((s.dev.roll F.pmSkwDropCount 1).raise F.pmEvtSkwDrop).get F.pmSkwDropCount = (s.dev.get F.pmSkwDropCount + 1) % 2 ^ 32 :=
    (Dev.get_put_of_apart _ 1 (by decide)).trans (s.dev.get_roll_same (f := F.pmSkwDropCount) (by decide) 1)
  obtain ⟨y, hy⟩ : ∃ y, y = (s.dev.roll F.pmSkwDropCount 1).raise F.pmEvtSkwDrop := ⟨_, rfl⟩
  rw [← hy] at htrace honly hevt hcount
  have hyskw : y.skw = s.dev.skw := by rw [honly.1]
  have hyup : y.hbmUp = s.dev.hbmUp := Dev.hbmUp_congr (honly.2.on (by decide)) (honly.2.on (by decide)) (by rw [honly.1])
  have hyquiet : y.skw.waiting = [] ∨ y.hbmUp = false := by
    rw [hyup, hyskw]
    exact hquiet
  exact ⟨_, exec_traceRecordWrite_quiet htrace hyquiet, hevt, hcount, honly.state⟩

end

/-! Stamps, and units that leave (R416, R418) -/

section
variable {s : State} {x y : TaggedUnit} (hheld : s.dev.skw.held.find? (fun z => z.serial == x.serial) = some x)
  (hempty : s.dev.skw.waiting = [])

include hheld hempty

theorem stamp_passes (stage : BitVec 6) (hnot : (skewStages x.kind).contains ((x.stamps ++ [(stage.toNat, s.dev.now)]).map (fun z => z.1)) = false) :
    let v : TaggedUnit := { x with stamps := x.stamps ++ [(stage.toNat, s.dev.now)] }
    let passed := v.stamps.map (fun z => z.1)
    ∃ t, exec (.traceRecordWrite (.stamp x.serial stage)) s = .next t
      ∧ t.dev.skw.held = (if (skewStages x.kind).any (fun l => l.take passed.length == passed) then
          s.dev.skw.held.map (fun z => if z.serial = x.serial then v else z) else s.dev.skw.held)
      ∧ t = { s with dev := { s.dev with skw := t.dev.skw } } := by
  intro v passed
  have htrace : s.dev.trace (.stamp x.serial stage) = { s.dev with skw := { s.dev.skw with
      held := if (skewStages x.kind).any (fun l => l.take passed.length == passed) then
        s.dev.skw.held.map (fun z => if z.serial = x.serial then v else z) else s.dev.skw.held } } := by
    have hstamp : s.dev.trace (.stamp x.serial stage) = s.dev.stampTag x stage.toNat := by
      rw [Dev.trace]
      dsimp only
      rw [hheld]
    rw [hstamp, Dev.stampTag]
    dsimp only
    rw [if_neg (by rw [hnot]; decide)]
    split
    · rfl
    · rfl
  refine ⟨_, exec_traceRecordWrite_quiet htrace (.inl hempty), rfl, rfl⟩

omit hheld in
/-- A unit that leaves the pipeline has its record written, or the record waits. -/
theorem unit_leaves {u : TraceUnit} {lost : Bool} (htrace : s.dev.trace u = s.dev.endTag y lost) (hserial : y.serial = x.serial)
    (hstamps : y.stamps.length ≤ 12) :
    let head := s.dev.traceBase + 64 * s.dev.get F.pmSkwHeadIndex
    let rest := s.dev.skw.held.filter (fun z => z.serial != x.serial)
    (s.dev.hbmUp = true →
      ∃ t, exec (.traceRecordWrite u) s = .next t ∧ t.flash = s.flash ∧ t.dev.skw = { held := rest, waiting := [] }
        ∧ t.dev.get F.pmSkwHeadIndex = (s.dev.get F.pmSkwHeadIndex + 1) % 2 ^ 23 ∧ Dev.WordsBut [Reg.pmSkwHead] s.dev t.dev
        ∧ (∀ b, (b < head ∨ head + 64 ≤ b) → memByte t.mem b = memByte s.mem b)
        ∧ (s.dev.traceBase ≠ 0 → ∀ j, j < 16 → memWord t.mem (head + 4 * j) = BitVec.ofNat 32 ((y.words lost).getD j 0)))
    ∧ (s.dev.hbmUp = false →
      ∃ t, exec (.traceRecordWrite u) s = .next t ∧ t.dev.skw = { held := rest, waiting := [y.words lost] }
        ∧ t = { s with dev := { s.dev with skw := t.dev.skw } }) := by
  intro head rest
  have hend : s.dev.endTag y lost = { s.dev with skw := { held := rest, waiting := [y.words lost] } } := by
    rw [Dev.endTag, hserial, hempty, List.nil_append]
  obtain ⟨e, he⟩ : ∃ e : Dev, e = { s.dev with skw := { held := rest, waiting := [y.words lost] } } := ⟨_, rfl⟩
  have heskw : e.skw = { held := rest, waiting := [y.words lost] } := by rw [he]
  have hewords : e.words = s.dev.words := by rw [he]
  have heup : e.hbmUp = s.dev.hbmUp := by rw [he]; rfl
  have hebase : e.traceBase = s.dev.traceBase := by rw [he]; rfl
  rw [hend, ← he] at htrace
  have hlen : (y.words lost).length = 16 := y.words_length lost hstamps
  refine ⟨fun hup => ?_, fun hdown => ?_⟩
  · have hexec := exec_traceRecordWrite u s
    rw [htrace, writeTraces_one e s.mem (by rw [heskw]) (heup.trans hup), hebase, Dev.get_of_words hewords] at hexec
    have honly : Dev.WordsBut [Reg.pmSkwHead] e (e.roll F.pmSkwHeadIndex 1) := (Dev.WordsBut.refl _ e).put (f := F.pmSkwHeadIndex) (.head _) _
    have hcount := e.get_roll_same (f := F.pmSkwHeadIndex) (by decide) 1
    obtain ⟨y', hy'⟩ : ∃ y', y' = e.roll F.pmSkwHeadIndex 1 := ⟨_, rfl⟩
    rw [← hy'] at hexec honly hcount
    rw [heskw] at hexec
    obtain ⟨z, hz⟩ : ∃ z : Dev, z = { y' with skw := { held := rest, waiting := [] } } := ⟨_, rfl⟩
    have hzw : z.words = y'.words := by rw [hz]
    rw [← hz] at hexec
    refine ⟨_, hexec, rfl, by rw [hz], ?_, ?_, fun b hb => ?_, fun hbase j hj => ?_⟩
    · refine (Dev.get_of_words hzw _).trans (hcount.trans ?_)
      rw [Dev.get_of_words hewords]
      rfl
    · exact (((Dev.WordsBut.refl _ s.dev).of_words hewords).trans honly).of_words hzw
    · change memByte (if s.dev.traceBase = 0 then s.mem else memWrite s.mem head (recordBytes (y.words lost))) b = _
      split
      · rfl
      · rcases hb with hb | hb
        · exact memByte_memWrite_below _ _ _ _ hb
        · exact memByte_memWrite_above _ _ _ _ (by rw [recordBytes_length, hlen]; exact hb)
    · change memWord (if s.dev.traceBase = 0 then s.mem else memWrite s.mem head (recordBytes (y.words lost))) (head + 4 * j) = _
      rw [if_neg hbase]
      exact memWord_memWrite_record _ _ (by rw [hlen]; exact hj)
  · exact ⟨_, exec_traceRecordWrite_quiet htrace (.inr (heup.trans hdown)), heskw, by rw [he]⟩

end

theorem traceUnit_leaves {s : State} {x y : TaggedUnit} {stage : BitVec 6} {c : Instr} {lost : Bool}
    (hheld : s.dev.skw.held.find? (fun z => z.serial == x.serial) = some x) (hstamps : x.stamps.length < 12)
    (hc : (c = .traceRecordWrite (.stamp x.serial stage)
        ∧ (skewStages x.kind).contains ((x.stamps ++ [(stage.toNat, s.dev.now)]).map (fun z => z.1)) = true
        ∧ y = { x with stamps := x.stamps ++ [(stage.toNat, s.dev.now)] } ∧ lost = false)
      ∨ (c = .traceRecordWrite (.lost x.serial) ∧ y = x ∧ lost = true)) :
    ∃ u, c = .traceRecordWrite u ∧ s.dev.trace u = s.dev.endTag y lost ∧ y.serial = x.serial ∧ y.stamps.length ≤ 12 := by
  rcases hc with ⟨hc, hlast, hy, hlost⟩ | ⟨hc, hy, hlost⟩
  · have hstamp : s.dev.trace (.stamp x.serial stage) = s.dev.stampTag x stage.toNat := by
      rw [Dev.trace]
      dsimp only
      rw [hheld]
    refine ⟨_, hc, ?_, by rw [hy], ?_⟩
    · rw [hstamp, Dev.stampTag, hy, hlost]
      dsimp only
      rw [if_pos hlast]
    · rw [hy]
      simp only [List.length_append, List.length_cons, List.length_nil]
      omega
  · refine ⟨_, hc, ?_, by rw [hy], ?_⟩
    · rw [Dev.trace, hy, hlost]
      dsimp only
      rw [hheld]
    · rw [hy]
      omega

/-- Settles O41, by the command: the end of a slice, the Monitor's registers, and the units of the Skewer. -/
theorem monitorCommands : Obligations.MonitorCommands := by
  unfold Obligations.MonitorCommands
  refine fun s => ⟨sdSfSliceEnd_shows, fun m hw => ⟨wrGo_refused hw, fun k hk => ⟨wrGo_full hw hk, wrGo_waits hw hk⟩⟩,
    fun m data hw => binAlign_writes hw, fun n hone hobj => ⟨bwWindowEnd_counts n hone hobj, bwWindowEnd_early n⟩,
    fun m n hr => bwPeakRead_reads n hr, fun m n win data => bwSelWrite_restarts n win data, fun m n data hw => fecEnable_clears hw,
    fun k src w hquiet => ⟨tag_unchosen k src w hquiet, tag_placed k src w hquiet, tag_dropped k src w hquiet⟩, ?_⟩
  intro x y stage c lost v passed head rest hheld hstamps hempty
  refine ⟨fun hc => ?_, stamp_passes hheld hempty stage⟩
  obtain ⟨u, hu, htrace, hserial, hlen⟩ := traceUnit_leaves hheld hstamps hc
  rw [hu]
  exact unit_leaves hempty htrace hserial hlen

end Sys2Proof.Machine

/-! The keys of the panel: their debounced state and their functions (R609 to R616). -/

namespace Sys2Proof.Machine

set_option Elab.async false -- a proof at a time, within the memory of a check

/-! The panel's state -/

theorem Part.blind_panel (x : Part) (h : x ≠ .panel) : x.Blind Dev.panel := by
  cases x
  case panel => exact absurd rfl h
  all_goals exact fun _ _ => rfl

theorem Dev.Only.panel {S : List Part} {d e : Dev} (h : Dev.Only S d e) (hS : Part.panel ∉ S := by decide) : e.panel = d.panel :=
  h _ Dev.panel fun x hx => x.blind_panel fun hxe => hS (hxe ▸ hx)

theorem Dev.WordsOnly.panel {l : List Nat} {d e : Dev} {p : Panel} (h : Dev.WordsOnly l (d.setPanel p) e) : e.panel = p := by
  rw [h.1, Dev.setPanel_panel]

/-- A state that differs in words and in the panel's state alone. -/
theorem Dev.WordsOnly.wordsAndPanel {l : List Nat} {s : State} {e : Dev} {p : Panel} (h : Dev.WordsOnly l (s.dev.setPanel p) e) :
    ({ s with dev := e } : State) = { s with dev := { s.dev with words := e.words, panel := e.panel } } := by
  refine congrArg (fun d => ({ s with dev := d } : State)) ?_
  have hframe := h.1
  rw [h.panel]
  exact hframe

/-- The words of a device whose panel's state was set first. -/
theorem Dev.WordsOnly.butPanel {l : List Nat} {d e : Dev} {p : Panel} (h : Dev.WordsOnly l (d.setPanel p) e) : Dev.WordsBut l d e :=
  ((Dev.WordsBut.refl l d).of_words (Dev.setPanel_words _ _)).trans h.2

theorem bitAt_input (a : Nat) (i : Fin 20) : bitAt a i = ⟨a, i, 1⟩ := by
  have hi : i.val / 32 = 0 ∧ i.val % 32 = i.val := by omega
  rw [bitAt, hi.1, hi.2]
  rfl

theorem bitAt_fits (a i : Nat) : (bitAt a i).lo + (bitAt a i).len ≤ 32 := by
  change i % 32 + 1 ≤ 32
  omega

section
variable (d : Dev) (i : Fin 20)

/-! A change of role keeps the panel's state (R489) -/

theorem Dev.panel_abortBurst (m : Nat) : (d.abortBurst m).panel = d.panel := by
  have h := (d.abortBurst_frame (m := m)).1
  exact (congrArg Dev.panel h :)

theorem Dev.panel_resumeTimers : d.resumeTimers.panel = d.panel := (Dev.only_protSee _).panel

theorem Dev.panel_setRole (r : Nat) : (d.setRole r).panel = d.panel := by
  unfold Dev.setRole
  extract_lets d0 d1
  have h0 : d0.panel = d.panel := ((Dev.only_put _ _ _).step (Dev.only_raise _ _)).panel.trans (d.panel_abortBurst 6)
  have h1 : d1.panel = d.panel := (Dev.Only.whenStep (S := [.words]) (d := d0) _ fun x => x.only_put _ _).panel.trans h0
  split
  · rfl
  · split
    · exact d1.panel_resumeTimers.trans h1
    · exact h1

theorem Dev.panel_mateQueue (l : List MateMsg) : (d.mateQueue l).panel = d.panel := (d.only_mateQueue l).panel

theorem Dev.panel_sendEpoch (n : Nat) : (d.sendEpoch n).panel = d.panel := by
  have hstate (snap : Bool) (items : List (Nat × Nat)) : (d.sendState n snap items).panel = d.panel := d.panel_mateQueue _
  rw [Dev.sendEpoch]
  split
  · exact hstate _ _
  · exact hstate _ _

theorem Dev.panel_releaseLid : d.releaseLid.panel = d.panel :=
  (Dev.Only.whenStep (S := [.words]) _ fun x => (x.only_raise _).step (Dev.only_raise _ _)).panel

theorem Dev.panel_handOver : d.handOver.panel = d.panel := by
  obtain ⟨x, hx, hpanel⟩ : ∃ x : Dev, d.handOver = (((x.releaseLid).setMate
      { x.releaseLid.mate with released := some d.now, items := [], commit := none, sentEpoch := none }).setRole roleStandby).put
        F.mateStatRejoinStep 0 ∧ x.panel = d.panel :=
    ⟨(d.mateSay 5 (bytesOf 4 (d.seqNow / 80))).sendEpoch (d.seqNow / 80), by rw [Dev.handOver],
      (Dev.panel_sendEpoch _ _).trans (Dev.panel_mateQueue _ _)⟩
  rw [hx]
  exact (Dev.only_put _ _ _).panel.trans ((Dev.panel_setRole _ _).trans (x.panel_releaseLid.trans hpanel))

/-! What a press does (R609, R612, R614, R616) -/

/-- The fields that the function of a key writes, but for a command's result. -/
abbrev keyFields : List Field := [F.pnlStatAcoQueued, F.pnlStatAco, F.pnlEvtAco, F.pnlEvtDropped]

/-- A bit that the function of a key leaves as it is. -/
abbrev KeyKeeps (f : Field) : Prop := (∀ g ∈ keyFields, g.apart f = true) ∧ f.off ∉ judgedWords

theorem Dev.panelSwitch_wordsBut (sncp : Bool) (target ch : Nat) : Dev.WordsBut judgedWords d (d.panelSwitch sncp target ch) := by
  have hjudge {e : Dev} (res : Nat) (hwords : e.words = d.words) : Dev.WordsBut judgedWords d (e.judged sncp true target res) :=
    ((Dev.WordsBut.refl _ d).of_words hwords).trans (e.judged_wordsBut _ _ _ _)
  unfold Dev.panelSwitch
  cases sncp with
  | true =>
    rw [if_pos rfl]
    extract_lets on
    obtain ⟨cmd, hcmd, hne⟩ : ∃ cmd, cmd = (if on = true then ProtCmd.clear else .manual) ∧ cmd ≠ .exercise :=
      ⟨_, rfl, by split <;> decide⟩
    rw [← hcmd, Dev.sncCommand]
    refine hjudge _ ?_
    rw [if_neg hne]
    obtain ⟨e, he, honly, -⟩ := d.sncStored (i := target) _ _ _
    exact (congrArg Dev.words he.symm).trans honly.words
  | false =>
    rw [if_neg Bool.false_ne_true]
    extract_lets on
    rw [Dev.mspCommand]
    refine hjudge _ ?_
    obtain ⟨e, he, honly, -⟩ := d.mspStored (g := target) _ _
    exact (congrArg Dev.words he.symm).trans honly.words

variable {d}

theorem Dev.dropPress_on {f : Field} (h : KeyKeeps f) : d.dropPress.on f = d.on f := d.on_put_of_apart 1 (h.1 _ (by decide))

theorem Dev.acoPress_on {f : Field} (h : KeyKeeps f) : d.acoPress.on f = d.on f := by
  rw [Dev.acoPress]
  split
  · exact d.on_put_of_apart 1 (h.1 _ (by decide))
  · exact (Dev.on_put_of_apart _ 1 (h.1 _ (by decide))).trans (d.on_put_of_apart 1 (h.1 _ (by decide)))

theorem Dev.forward_on {f : Field} (h : KeyKeeps f) (w : W32) : (d.forward w).on f = d.on f := by
  rw [Dev.forward]
  split
  · exact Dev.on_congr (Dev.mateQueue_keeps _ _).1 f
  · exact Dev.dropPress_on h

theorem Dev.manualPress_on {f : Field} (h : KeyKeeps f) (w : W32) : (d.manualPress w).on f = d.on f := by
  rw [Dev.manualPress]
  split
  · exact Dev.dropPress_on h
  · split
    · exact Dev.forward_on h w
    · exact (d.panelSwitch_wordsBut _ _ _).on h.2

theorem Dev.keyFunction_on {f : Field} (h : KeyKeeps f) : (d.keyFunction i).on f = d.on f := by
  rw [Dev.keyFunction]
  split
  · exact Dev.acoPress_on h
  · split
    · exact Dev.manualPress_on h _
    · rfl

variable (d)

/-- The device that has seen input `i` pressed, before the function of the key. -/
def Dev.pressSeen (d : Dev) (i : Nat) : Dev :=
  (((d.setPanel { d.panel with runs := d.panel.runs.set i 0, heldAt := d.panel.heldAt.set i d.now }).raise (bitAt Reg.pnlKeystat i)).raise
    (bitAt Reg.pnlPress i)).raise F.pnlEvtPress

theorem Dev.pressed_eq (i : Nat) : d.pressed i = (d.pressSeen i).keyFunction i := by rw [Dev.pressed, Dev.pressSeen]

theorem Dev.pressSeen_shows : (d.pressSeen i).held i = true ∧ (d.pressSeen i).on (bitAt Reg.pnlPress i) = true
    ∧ (d.pressSeen i).on F.pnlEvtPress = true ∧ Dev.WordsBut [Reg.pnlKeystat, Reg.pnlPress, Reg.pnlEvt] d (d.pressSeen i) := by
  obtain ⟨x, hx⟩ : ∃ x, x = d.setPanel { d.panel with runs := d.panel.runs.set i 0, heldAt := d.panel.heldAt.set i d.now } := ⟨_, rfl⟩
  have hall : d.pressSeen i = ((x.raise (bitAt Reg.pnlKeystat i)).raise (bitAt Reg.pnlPress i)).raise F.pnlEvtPress := by rw [hx, Dev.pressSeen]
  have hpress : (⟨Reg.pnlPress, i.val, 1⟩ : Field).apart ⟨Reg.pnlKeystat, i.val, 1⟩ = true := decide_eq_true (.inl (by decide : Reg.pnlKeystat ≠ Reg.pnlPress))
  rw [bitAt_input, bitAt_input] at hall
  rw [hall, Dev.held, bitAt_input, bitAt_input]
  refine ⟨?_, ?_, Dev.on_raise _ _ (by decide) (by decide), ?_⟩
  · rw [Dev.raise, Dev.on_put_of_apart _ _ (decide_eq_true (.inl (by decide : Reg.pnlKeystat ≠ F.pnlEvtPress.off))), Dev.raise,
      Dev.on_put_of_apart _ _ hpress]
    exact Dev.on_raise _ _ (by change i.val + 1 ≤ 32; omega) (Nat.le_refl 1)
  · rw [Dev.raise, Dev.on_put_of_apart _ _ (decide_eq_true (.inl (by decide : Reg.pnlPress ≠ F.pnlEvtPress.off)))]
    exact Dev.on_raise _ _ (by change i.val + 1 ≤ 32; omega) (Nat.le_refl 1)
  · have hwords : Dev.WordsBut [Reg.pnlKeystat, Reg.pnlPress, Reg.pnlEvt] d x := by
      rw [hx]
      exact (Dev.WordsBut.refl _ d).of_words (Dev.setPanel_words _ _)
    exact ((hwords.raise (f := ⟨Reg.pnlKeystat, i.val, 1⟩) (.head _)).raise (f := ⟨Reg.pnlPress, i.val, 1⟩) (.tail _ (.head _))).raise
      (f := F.pnlEvtPress) (.tail _ (.tail _ (.head _)))

end

section
variable {s : State} {i : Fin 20}

theorem keyPress_shows (hup : s.dev.held i = false) (hrun : 24 ≤ s.dev.panel.runs.getD i 0) :
    let w := s.dev.word (Reg.pnlKfun + 4 * i.val)
    ∃ t, exec (.keyPress i) s = .next t ∧ t.dev.held i = true ∧ t.dev.on (bitAt Reg.pnlPress i) = true
      ∧ t.dev.on F.pnlEvtPress = true ∧ KeepsMemories s t
      ∧ (getF w 0 3 = funcAco → s.dev.mode ≠ modeBoot → s.dev.mode ≠ modePrepare → t.dev.on F.pnlStatAco = true)
      ∧ (getF w 0 3 = funcManual → s.dev.mode = modeBoot ∨ s.dev.mode = modePrepare → t.dev.on F.pnlEvtDropped = true) := by
  intro w
  have hexec : exec (.keyPress i) s = .next { s with dev := (s.dev.when (!s.dev.held i.val && decide (debounce ≤ s.dev.panel.runs.getD i.val 0))
      (fun d => d.pressed i.val)) } := rfl
  have hok : (!s.dev.held i.val && decide (debounce ≤ s.dev.panel.runs.getD i.val 0)) = true := by
    rw [hup]
    exact decide_eq_true hrun
  rw [Dev.when_eq hok, Dev.pressed_eq] at hexec
  obtain ⟨hheld, hpress, hevt, hwords⟩ := s.dev.pressSeen_shows i
  obtain ⟨x, hx⟩ : ∃ x, x = s.dev.pressSeen i := ⟨_, rfl⟩
  rw [← hx] at hexec hheld hpress hevt hwords
  have hw : x.word (Reg.pnlKfun + 4 * i.val) = w := hwords _ (by
    simp only [List.mem_cons, List.not_mem_nil, or_false, Reg.pnlKfun, Reg.pnlKeystat, Reg.pnlPress, Reg.pnlEvt]
    omega)
  have hmode : x.mode = s.dev.mode := hwords.get (f := F.devModeMode) (by decide)
  have hbit (a : Nat) (ha : a ≠ Reg.pnlStat ∧ a ≠ Reg.pnlEvt ∧ a ∉ judgedWords) : KeyKeeps (bitAt a i) := by
    rw [bitAt_input]
    refine ⟨fun g hg => decide_eq_true (.inl ?_), ha.2.2⟩
    simp only [List.mem_cons, List.not_mem_nil, or_false] at hg
    rcases hg with rfl | rfl | rfl | rfl
    · exact ha.1
    · exact ha.1
    · exact ha.2.1
    · exact ha.2.1
  refine ⟨_, hexec, (Dev.keyFunction_on i (hbit Reg.pnlKeystat (by decide))).trans hheld,
    (Dev.keyFunction_on i (hbit Reg.pnlPress (by decide))).trans hpress, (Dev.keyFunction_on i ⟨by decide, by decide⟩).trans hevt, ⟨rfl, rfl⟩,
    fun hfunc hboot hprep => ?_, fun hfunc hmodes => ?_⟩
  · change (x.keyFunction i).on F.pnlStatAco = true
    rw [Dev.keyFunction]
    rw [hw, if_pos hfunc, Dev.acoPress, if_neg (by rw [hmode]; exact fun h => h.elim hboot hprep), Dev.raise, Dev.on_put_of_apart _ _ (by decide)]
    exact Dev.on_raise _ _ (by decide) (by decide)
  · change (x.keyFunction i).on F.pnlEvtDropped = true
    rw [Dev.keyFunction]
    rw [hw, if_neg (by rw [hfunc]; decide), if_pos hfunc, Dev.manualPress, if_pos (by rw [hmode]; exact hmodes)]
    exact Dev.on_raise _ _ (by decide) (by decide)

theorem keyRelease_shows (hdown : s.dev.held i = true) (hrun : 24 ≤ s.dev.panel.runs.getD i 0) :
    ∃ t, exec (.keyRelease i) s = .next t ∧ t.dev.held i = false ∧ t.dev.isStuck i = false ∧ i.val ∉ t.dev.panel.fired
      ∧ t = { s with dev := { s.dev with words := t.dev.words, panel := t.dev.panel } } := by
  have hexec : exec (.keyRelease i) s = .next { s with dev := (s.dev.when (s.dev.held i.val && decide (debounce ≤ s.dev.panel.runs.getD i.val 0))
      (fun d => d.released i.val)) } := rfl
  have hok : (s.dev.held i.val && decide (debounce ≤ s.dev.panel.runs.getD i.val 0)) = true := by
    rw [hdown]
    exact decide_eq_true hrun
  rw [Dev.when_eq hok, Dev.released] at hexec
  obtain ⟨p, hp⟩ : ∃ p : Panel, p = { s.dev.panel with runs := s.dev.panel.runs.set i.val 0, fired := s.dev.panel.fired.filter (fun x => x != i.val) } := ⟨_, rfl⟩
  rw [← hp, bitAt_input, bitAt_input] at hexec
  have honly : Dev.WordsOnly [Reg.pnlKeystat, Reg.pnlStuck] (s.dev.setPanel p) (((s.dev.setPanel p).lower ⟨Reg.pnlKeystat, i.val, 1⟩).lower ⟨Reg.pnlStuck, i.val, 1⟩) :=
    ((Dev.WordsOnly.refl _ _).lower (f := ⟨Reg.pnlKeystat, i.val, 1⟩) (.head _)).lower (f := ⟨Reg.pnlStuck, i.val, 1⟩) (.tail _ (.head _))
  refine ⟨_, hexec, ?_, ?_, ?_, honly.wordsAndPanel⟩
  · rw [Dev.held, bitAt_input]
    exact (Dev.on_put_of_apart _ _ (decide_eq_true (.inl (by decide : Reg.pnlKeystat ≠ Reg.pnlStuck)))).trans (Dev.on_lower _ _ (by change i.val + 1 ≤ 32; omega))
  · rw [Dev.isStuck, bitAt_input]
    exact Dev.on_lower _ _ (by change i.val + 1 ≤ 32; omega)
  · have hpanel : (((s.dev.setPanel p).lower ⟨Reg.pnlKeystat, i.val, 1⟩).lower ⟨Reg.pnlStuck, i.val, 1⟩).panel = p := honly.panel
    change i.val ∉ Panel.fired _
    rw [hpanel, hp]
    intro hmem
    exact absurd (List.mem_filter.1 hmem).2 (by simp)

/-- R613: the pair that fires hands over. -/
theorem mateHandover_shows {a b : Fin 20} (hpair : s.dev.pairHeld a b = true) (hboot : s.dev.mode ≠ modeBoot) (hprep : s.dev.mode ≠ modePrepare)
    (hsafe : s.dev.mode ≠ modeSafehold) (hmay : s.dev.mayHandOver = true) :
    ∃ t, exec (.mateHandover a b) s = .next t ∧ t.dev.role = roleStandby ∧ t.dev.get F.mateCmdStatOp = 1
      ∧ t.dev.get F.mateCmdStatResult = mateDone ∧ a.val ∈ t.dev.panel.fired ∧ b.val ∈ t.dev.panel.fired ∧ KeepsMemories s t := by
  obtain ⟨p, hp⟩ : ∃ p : Panel, p = { s.dev.panel with fired := a.val :: b.val :: s.dev.panel.fired } := ⟨_, rfl⟩
  have hexec : exec (.mateHandover a b) s = .next { s with dev := (s.dev.when (s.dev.pairHeld a.val b.val) (fun d =>
    (d.setPanel { d.panel with fired := a.val :: b.val :: d.panel.fired }).handoverPress (d.word (Reg.pnlKfun + 4 * a.val)))) } := rfl
  rw [Dev.when_eq hpair, ← hp] at hexec
  have hrole : (s.dev.setPanel p).role = roleActive := s.dev.mayHandOver_active hmay
  have hpress : (s.dev.setPanel p).handoverPress (s.dev.word (Reg.pnlKfun + 4 * a.val)) = (s.dev.setPanel p).handOver.mateResult 1 mateDone := by
    have hforwards : (s.dev.setPanel p).forwards = false := by
      rw [Dev.forwards, hrole]
      rfl
    have hmodes : ¬ ((s.dev.setPanel p).mode = modeBoot ∨ (s.dev.setPanel p).mode = modePrepare ∨ (s.dev.setPanel p).mode = modeSafehold) :=
      fun h => h.elim hboot fun h => h.elim hprep hsafe
    have hmay' : (s.dev.setPanel p).mayHandOver = true := hmay
    rw [Dev.handoverPress, if_neg hmodes, hforwards, if_neg Bool.false_ne_true, hrole, Dev.when_eq (by decide), Dev.cmdHandover, if_pos hmay']
  rw [hpress] at hexec
  obtain ⟨hstandby, -, -⟩ := (s.dev.setPanel p).handOver_shows
  have hpanel : (s.dev.setPanel p).handOver.panel = p := Dev.panel_handOver _
  obtain ⟨x, hx⟩ : ∃ x, x = (s.dev.setPanel p).handOver := ⟨_, rfl⟩
  rw [← hx] at hexec hstandby hpanel
  obtain ⟨hop, hres⟩ := x.mateResult_shows 1 mateDone (by decide) (by decide)
  have hkept : (x.mateResult 1 mateDone).panel = p := by
    rw [(x.mateResult_wordsOnly 1 mateDone).1]
    exact hpanel
  have hfired : p.fired = a.val :: b.val :: s.dev.panel.fired := by rw [hp]
  refine ⟨_, hexec, (x.get_mateResult 1 mateDone (g := F.mateStatRole) (by decide)).trans hstandby, hop, hres, ?_, ?_, rfl, rfl⟩
  · rw [hkept, hfired]
    exact .head _
  · rw [hkept, hfired]
    exact .tail _ (.head _)

end

end Sys2Proof.Machine

/-! The scan of the panel, its electrodes, the modules' presence and the module buses (R606 to R623). -/

namespace Sys2Proof.Machine

set_option Elab.async false -- a proof at a time, within the memory of a check

/-! Fields of a row of registers -/

/-- Fields that are apart in one register of a row are apart in each. -/
theorem Field.apart_at {f g : Field} (h : f.apart g = true) (k n : Nat) : (f.at k n).apart (g.at k n) = true := by
  refine decide_eq_true ?_
  rcases of_decide_eq_true h with hoff | hbits
  · exact .inl (fun heq => hoff (Nat.add_right_cancel heq))
  · exact .inr hbits

/-- A device that differs in words alone. -/
theorem Dev.Only.state_words {s : State} {e : Dev} (h : Dev.Only [.words] s.dev e) :
    ({ s with dev := e } : State) = { s with dev := { s.dev with words := e.words } } := by
  have he : e = { s.dev with words := e.words } :=
    h _ (fun x : Dev => ({ x with words := e.words } : Dev)) fun x hx => by
      obtain rfl := List.mem_singleton.1 hx
      exact fun _ _ => rfl
  exact congrArg (fun d => ({ s with dev := d } : State)) he

/-! A scan cycle (R606, R607) -/

theorem Dev.each_succ (d : Dev) (n : Nat) (g : Dev → Nat → Dev) : d.each (n + 1) g = g (d.each n g) n := by
  rw [Dev.each, List.range_succ, List.foldl_append, List.foldl_cons, List.foldl_nil, ← Dev.each]

theorem List.getD_map_range {α : Type} (f : Nat → α) {n k : Nat} (h : k < n) (x : α) : ((List.range n).map f).getD k x = f k := by
  rw [List.getD_eq_getElem _ _ (by rw [List.length_map, List.length_range]; exact h), List.getElem_map, List.getElem_range]

section
variable (d : Dev) (counts : Nat → Nat)

/-- The counts of the electrodes that are scanned. -/
def Dev.touchCounts (d : Dev) (counts : Nat → Nat) (n : Nat) : Dev :=
  d.each n (fun e k => e.when (e.on ⟨Reg.pnlCfg, 16 + k, 1⟩) (fun x => x.put (F.pnlTchCount.at 4 k) (counts k)))

theorem Dev.touchCounts_succ (n : Nat) : d.touchCounts counts (n + 1) = (d.touchCounts counts n).when
    ((d.touchCounts counts n).on ⟨Reg.pnlCfg, 16 + n, 1⟩) (fun x => x.put (F.pnlTchCount.at 4 n) (counts n)) := Dev.each_succ _ _ _

theorem Dev.touchCounts_only (n : Nat) : Dev.Only [.words] d (d.touchCounts counts n) :=
  .each n fun _ _ => .whenStep _ fun x => x.only_put _ _

theorem Dev.touchCounts_cfg (n : Nat) : (d.touchCounts counts n).word Reg.pnlCfg = d.word Reg.pnlCfg := by
  induction n with
  | zero => rfl
  | succ n ih =>
    rw [Dev.touchCounts_succ, Dev.when]
    split
    · refine (Dev.word_put_other _ _ ?_).trans ih
      change Reg.pnlCfg ≠ F.pnlTchCount.off + 4 * n
      simp only [Reg.pnlCfg, F.pnlTchCount]
      omega
    · exact ih

theorem Dev.touchCounts_get {n k : Nat} (hk : k < n) (hon : d.on ⟨Reg.pnlCfg, 16 + k, 1⟩ = true) (hcount : counts k < 2 ^ 16) :
    (d.touchCounts counts n).get (F.pnlTchCount.at 4 k) = counts k := by
  have hcfg (n j : Nat) : (d.touchCounts counts n).on ⟨Reg.pnlCfg, 16 + j, 1⟩ = d.on ⟨Reg.pnlCfg, 16 + j, 1⟩ := by
    exact congrArg (fun w => getF w (16 + j) 1 != 0) (d.touchCounts_cfg counts n)
  induction n with
  | zero => exact absurd hk (Nat.not_lt_zero k)
  | succ n ih =>
    rw [Dev.touchCounts_succ, hcfg]
    by_cases hkn : k = n
    · rw [hkn] at hon hcount ⊢
      rw [Dev.when_eq hon]
      exact (Dev.get_put_same _ (F.pnlTchCount.at 4 n) _ (Nat.le_of_ble_eq_true rfl)).trans (Nat.mod_eq_of_lt hcount)
    · have hk' := ih (by omega)
      rw [Dev.when]
      split
      · refine (Dev.get_put_of_apart _ _ (decide_eq_true (.inl ?_))).trans hk'
        change F.pnlTchCount.off + 4 * k ≠ F.pnlTchCount.off + 4 * n
        omega
      · exact hk'

end

section
variable {s : State}

theorem scanCycle_shows (i : ScanIn) (hen : s.dev.on F.pnlCfgScanEn = true) (hreset : s.dev.modes.inReset = .no)
    (hdue : s.dev.panel.scanAt = none ∨ ∃ at', s.dev.panel.scanAt = some at' ∧ at' + 548675 ≤ s.dev.now) :
    ∃ t, exec (.scanCycle i) s = .next t ∧ t.dev.panel.scanAt = some s.dev.now
      ∧ (s.dev.mode ≠ modeSafehold → t.dev.panel.lit = s.dev.panel.shifted)
      ∧ (∀ k : Fin 4, s.dev.on ⟨Reg.pnlCfg, 16 + k, 1⟩ = true → t.dev.get (F.pnlTchCount.at 4 k) = (i.touch.getD k 0).toNat)
      ∧ (∀ k, k < 16 → k < s.dev.get F.pnlCfgKeys → i.keys.getD k true = false → s.dev.held k = false →
          t.dev.panel.runs.getD k 0 = s.dev.panel.runs.getD k 0 + 1)
      ∧ t = { s with dev := { s.dev with words := t.dev.words, panel := t.dev.panel } } := by
  have hcond : s.dev.scanDue = true := by
    rw [Dev.scanDue, hen, hreset]
    rcases hdue with hnone | ⟨at', hat, hlate⟩
    · rw [hnone]
      rfl
    · rw [hat]
      have hticks : usTicks 882 = 548675 := by decide
      dsimp only
      rw [hticks, decide_eq_true hlate]
      rfl
  have hexec : exec (.scanCycle i) s = .next { s with dev := (s.dev.when s.dev.scanDue (fun d => d.scan i)) } := rfl
  rw [Dev.when_eq hcond] at hexec
  obtain ⟨p, hp, hat, hlit, hruns⟩ : ∃ p : Panel, s.dev.scan i = (s.dev.setPanel p).touchCounts (fun k => (i.touch.getD k 0).toNat) 4
      ∧ p.scanAt = some s.dev.now ∧ (s.dev.mode ≠ modeSafehold → p.lit = s.dev.panel.shifted)
      ∧ (∀ k, k < 16 → k < s.dev.get F.pnlCfgKeys → i.keys.getD k true = false → s.dev.held k = false →
        p.runs.getD k 0 = s.dev.panel.runs.getD k 0 + 1) := by
    refine ⟨_, rfl, rfl, fun hmode => if_neg ?_, fun k hk hkeys hlow hup => ?_⟩
    · rw [beq_iff_eq]
      exact hmode
    · refine (List.getD_map_range _ (by omega) _).trans ?_
      refine if_neg ?_
      beta_reduce
      rw [if_pos hk, decide_eq_true hkeys, hlow, hup]
      decide
  rw [hp] at hexec
  have honly := (s.dev.setPanel p).touchCounts_only (fun k => (i.touch.getD k 0).toNat) 4
  have hget (k : Fin 4) (hon : s.dev.on ⟨Reg.pnlCfg, 16 + k, 1⟩ = true) :=
    (s.dev.setPanel p).touchCounts_get (fun k => (i.touch.getD k 0).toNat) k.isLt hon (i.touch.getD k 0).isLt
  obtain ⟨x, hx⟩ : ∃ x, x = (s.dev.setPanel p).touchCounts (fun k => (i.touch.getD k 0).toNat) 4 := ⟨_, rfl⟩
  rw [← hx] at hexec honly hget
  have hpanel : x.panel = p := honly.panel
  have hframe : ({ s with dev := x } : State) = { s with dev := { s.dev with words := x.words, panel := x.panel } } := by
    rw [hpanel]
    exact honly.state_words (s := { s with dev := s.dev.setPanel p })
  exact ⟨_, hexec, by rw [hpanel]; exact hat, by rw [hpanel]; exact hlit, hget, by rw [hpanel]; exact hruns, hframe⟩

/-! Stuck inputs and electrodes (R610, R611) -/

theorem stuckInput_shows (i : Fin 20) (hheld : s.dev.held i = true) (hfree : s.dev.isStuck i = false)
    (hlong : s.dev.panel.heldAt.getD i 0 + 60 * 622080000 ≤ s.dev.now) :
    ∃ t, exec (.stuckInput i) s = .next t ∧ t.dev.isStuck i = true ∧ t.dev.on F.pnlEvtStuck = true
      ∧ (∀ k : Fin 4, i.val = 16 + k.val → t.dev.get (F.pnlTchBase.at 4 k) = s.dev.get (F.pnlTchCount.at 4 k))
      ∧ t = { s with dev := { s.dev with words := t.dev.words } } := by
  have hok : (s.dev.held i.val && !s.dev.isStuck i.val && decide (s.dev.panel.heldAt.getD i.val 0 + 60 * ticksPerSecond ≤ s.dev.now)) = true := by
    have hticks : 60 * ticksPerSecond = 60 * 622080000 := rfl
    rw [hheld, hfree, hticks, decide_eq_true hlong]
    rfl
  have hexec : exec (.stuckInput i) s = .next { s with dev := (s.dev.when
    (s.dev.held i.val && !s.dev.isStuck i.val && decide (s.dev.panel.heldAt.getD i.val 0 + 60 * ticksPerSecond ≤ s.dev.now)) (fun d =>
    ((d.raise (bitAt Reg.pnlStuck i.val)).raise F.pnlEvtStuck).when (decide (16 ≤ i.val)) (fun e =>
      e.put (F.pnlTchBase.at 4 (i.val - 16)) (e.get (F.pnlTchCount.at 4 (i.val - 16)))))) } := rfl
  rw [Dev.when_eq hok, bitAt_input] at hexec
  obtain ⟨x, hx⟩ : ∃ x, x = (s.dev.raise ⟨Reg.pnlStuck, i.val, 1⟩).raise F.pnlEvtStuck := ⟨_, rfl⟩
  have hbut : Dev.WordsBut [Reg.pnlStuck, Reg.pnlEvt] s.dev x := by
    rw [hx]
    exact ((Dev.WordsBut.refl _ s.dev).raise (f := ⟨Reg.pnlStuck, i.val, 1⟩) (.head _)).raise (f := F.pnlEvtStuck) (.tail _ (.head _))
  have hstuck : x.on ⟨Reg.pnlStuck, i.val, 1⟩ = true := by
    rw [hx]
    exact (Dev.on_put_of_apart _ _ (decide_eq_true (.inl (by decide : Reg.pnlStuck ≠ F.pnlEvtStuck.off)))).trans
      (Dev.on_raise _ _ (by change i.val + 1 ≤ 32; omega) (Nat.le_refl 1))
  have hevt : x.on F.pnlEvtStuck = true := hx ▸ Dev.on_raise _ _ (by decide) (by decide)
  have honly : Dev.Only [.words] s.dev x := hx ▸ (s.dev.only_raise _).step (Dev.only_raise _ _)
  rw [← hx] at hexec
  have hrest : Dev.WordsBut [F.pnlTchBase.off + 4 * (i.val - 16)] x (x.when (decide (16 ≤ i.val)) (fun e =>
      e.put (F.pnlTchBase.at 4 (i.val - 16)) (e.get (F.pnlTchCount.at 4 (i.val - 16))))) :=
    Dev.when_of (P := Dev.WordsBut [F.pnlTchBase.off + 4 * (i.val - 16)] x) _ (.refl _ x) ((Dev.WordsBut.refl _ x).put (f := F.pnlTchBase.at 4 (i.val - 16)) (.head _) _)
  refine ⟨_, hexec, ?_, ?_, fun k hk => ?_, (honly.trans (.whenStep _ fun e => e.only_put _ _)).state_words⟩
  · rw [Dev.isStuck, bitAt_input]
    refine (hrest.on ?_).trans hstuck
    rw [List.mem_singleton]
    change Reg.pnlStuck ≠ _
    simp only [Reg.pnlStuck, F.pnlTchBase]
    omega
  · refine (hrest.on ?_).trans hevt
    rw [List.mem_singleton]
    simp only [F.pnlEvtStuck, F.pnlTchBase]
    omega
  · have hi : i.val - 16 = k.val := by omega
    rw [hi]
    change (x.when (decide (16 ≤ i.val)) (fun e => e.put (F.pnlTchBase.at 4 k.val) (e.get (F.pnlTchCount.at 4 k.val)))).get _ = _
    rw [Dev.when_eq (decide_eq_true (show 16 ≤ i.val by omega))]
    refine (Dev.get_put_same _ (F.pnlTchBase.at 4 k.val) _ (Nat.le_of_ble_eq_true rfl)).trans
      ((Nat.mod_eq_of_lt (Dev.get_lt x (F.pnlTchCount.at 4 k.val))).trans (hbut.get ?_))
    change F.pnlTchCount.off + 4 * k.val ∉ [Reg.pnlStuck, Reg.pnlEvt]
    simp only [List.mem_cons, List.not_mem_nil, or_false, F.pnlTchCount, Reg.pnlStuck, Reg.pnlEvt]
    omega

theorem touchBaselineStep_shows (i : Fin 4) (hen : s.dev.on ⟨Reg.pnlCfg, 16 + i, 1⟩ = true) (hfree : s.dev.panel.touch.getD i false = false)
    (hdue : s.dev.panel.stepAt.getD i 0 + 64 * 622080 ≤ s.dev.now) :
    let base := s.dev.get (F.pnlTchBase.at 4 i)
    let count := s.dev.get (F.pnlTchCount.at 4 i)
    ∃ t, exec (.touchBaselineStep i) s = .next t ∧ Dev.WordsBut [(F.pnlTchBase.at 4 i).off] s.dev t.dev
      ∧ t.dev.get (F.pnlTchBase.at 4 i) = (if base < count then base + 1 else if count < base then base - 1 else base)
      ∧ t = { s with dev := { s.dev with words := t.dev.words, panel := t.dev.panel } } := by
  intro base count
  obtain ⟨p, hp⟩ : ∃ p : Panel, p = { s.dev.panel with stepAt := s.dev.panel.stepAt.set i.val s.dev.now } := ⟨_, rfl⟩
  have hok : (s.dev.on ⟨Reg.pnlCfg, 16 + i.val, 1⟩ && !s.dev.panel.touch.getD i.val false
      && decide (s.dev.panel.stepAt.getD i.val 0 + 64 * ticksPerMs ≤ s.dev.now)) = true := by
    have hticks : 64 * ticksPerMs = 64 * 622080 := rfl
    rw [hen, hfree, hticks, decide_eq_true hdue]
    rfl
  have hexec : exec (.touchBaselineStep i) s = .next { s with dev := (s.dev.when (s.dev.on ⟨Reg.pnlCfg, 16 + i.val, 1⟩
      && !s.dev.panel.touch.getD i.val false && decide (s.dev.panel.stepAt.getD i.val 0 + 64 * ticksPerMs ≤ s.dev.now)) (fun e =>
    (e.setPanel { e.panel with stepAt := e.panel.stepAt.set i.val e.now }).put (F.pnlTchBase.at 4 i.val)
      (if base < count then base + 1 else base - bitOf (decide (count < base))))) } := rfl
  rw [Dev.when_eq hok, ← hp] at hexec
  have hbase : base < 2 ^ 16 := Dev.get_lt _ _
  have hcount : count < 2 ^ 16 := Dev.get_lt _ _
  have hnext : (if base < count then base + 1 else base - bitOf (decide (count < base)))
      = (if base < count then base + 1 else if count < base then base - 1 else base) := by
    split
    · rfl
    · by_cases hlow : count < base
      · rw [if_pos hlow, decide_eq_true hlow]
        rfl
      · rw [if_neg hlow, decide_eq_false hlow]
        rfl
  rw [hnext] at hexec
  have honly : Dev.WordsOnly [(F.pnlTchBase.at 4 i.val).off] (s.dev.setPanel p) ((s.dev.setPanel p).put (F.pnlTchBase.at 4 i.val)
      (if base < count then base + 1 else if count < base then base - 1 else base)) :=
    (Dev.WordsOnly.refl _ _).put (f := F.pnlTchBase.at 4 i.val) (.head _) _
  refine ⟨_, hexec, honly.butPanel, ?_, honly.wordsAndPanel⟩
  refine (Dev.get_put_same _ (F.pnlTchBase.at 4 i.val) _ (Nat.le_of_ble_eq_true rfl)).trans (Nat.mod_eq_of_lt (b := 2 ^ 16) ?_)
  split
  · omega
  · split <;> omega

/-! Modules (R618, R620) -/

theorem bitAt_apart {a i k : Nat} (h : i ≠ k) : (bitAt a i).apart (bitAt a k) = true := by
  refine decide_eq_true ?_
  change a + 4 * (k / 32) ≠ a + 4 * (i / 32) ∨ i % 32 + 1 ≤ 32 ∧ k % 32 + 1 ≤ 32 ∧ (k % 32 + 1 ≤ i % 32 ∨ i % 32 + 1 ≤ k % 32)
  omega

theorem presenceChange_shows (c : Fin 104) (hin : s.dev.seated c = true → 1 ≤ s.dev.panel.cages.getD c 0)
    (hout : s.dev.seated c = false → 24 ≤ s.dev.panel.cages.getD c 0) :
    ∃ t, exec (.presenceChange c) s = .next t ∧ t.dev.seated c = !s.dev.seated c
      ∧ t.dev.on (bitAt Reg.pnlPresChg c) = true ∧ t.dev.on F.pnlEvtPresChg = true
      ∧ (∀ k : Fin 104, k ≠ c → t.dev.seated k = s.dev.seated k)
      ∧ t = { s with dev := { s.dev with words := t.dev.words, panel := t.dev.panel } } := by
  obtain ⟨p, hp⟩ : ∃ p : Panel, p = { s.dev.panel with cages := s.dev.panel.cages.set c.val 0 } := ⟨_, rfl⟩
  have hok : (if s.dev.seated c.val then decide (1 ≤ s.dev.panel.cages.getD c.val 0) else decide (debounce ≤ s.dev.panel.cages.getD c.val 0)) = true := by
    split
    case isTrue h => exact decide_eq_true (hin h)
    case isFalse h => exact decide_eq_true (hout (Bool.not_eq_true _ ▸ h))
  have hexec : exec (.presenceChange c) s = .next { s with dev := (s.dev.when
      (if s.dev.seated c.val then decide (1 ≤ s.dev.panel.cages.getD c.val 0) else decide (debounce ≤ s.dev.panel.cages.getD c.val 0)) (fun d =>
    (((d.setPanel { d.panel with cages := d.panel.cages.set c.val 0 }).put (bitAt Reg.pnlPres c.val) (bitOf (!d.seated c.val))).raise
      (bitAt Reg.pnlPresChg c.val)).raise F.pnlEvtPresChg)) } := rfl
  rw [Dev.when_eq hok, ← hp] at hexec
  obtain ⟨v, hv⟩ : ∃ v, v = !s.dev.seated c.val := ⟨_, rfl⟩
  rw [← hv] at hexec ⊢
  obtain ⟨x, hx⟩ : ∃ x, x = (s.dev.setPanel p).put (bitAt Reg.pnlPres c.val) (bitOf v) := ⟨_, rfl⟩
  have honly : Dev.WordsOnly [(bitAt Reg.pnlPres c).off, (bitAt Reg.pnlPresChg c).off, Reg.pnlEvt] (s.dev.setPanel p)
      ((x.raise (bitAt Reg.pnlPresChg c.val)).raise F.pnlEvtPresChg) := by
    rw [hx]
    exact (((Dev.WordsOnly.refl _ _).put (f := bitAt Reg.pnlPres c.val) (.head _) _).raise (f := bitAt Reg.pnlPresChg c.val)
      (.tail _ (.head _))).raise (f := F.pnlEvtPresChg) (.tail _ (.tail _ (.head _)))
  have hlast : Dev.WordsBut [(bitAt Reg.pnlPresChg c).off, Reg.pnlEvt] x ((x.raise (bitAt Reg.pnlPresChg c.val)).raise F.pnlEvtPresChg) :=
    ((Dev.WordsBut.refl _ x).raise (f := bitAt Reg.pnlPresChg c.val) (.head _)).raise (f := F.pnlEvtPresChg) (.tail _ (.head _))
  have hpres (k : Fin 104) : (bitAt Reg.pnlPres k).off ∉ [(bitAt Reg.pnlPresChg c).off, Reg.pnlEvt] := by
    simp only [List.mem_cons, List.not_mem_nil, or_false, bitAt, Reg.pnlPres, Reg.pnlPresChg, Reg.pnlEvt]
    omega
  have hxon : x.on (bitAt Reg.pnlPres c) = v := hx ▸ Dev.on_put_bitOf _ (bitAt Reg.pnlPres c.val) v (bitAt_fits _ _) rfl
  have hxother (k : Fin 104) (hk : k ≠ c) : x.on (bitAt Reg.pnlPres k) = s.dev.on (bitAt Reg.pnlPres k) := by
    rw [hx]
    exact Dev.on_put_of_apart _ _ (bitAt_apart fun h => hk (Fin.ext h.symm))
  rw [← hx] at hexec
  have hchg : (x.raise (bitAt Reg.pnlPresChg c.val)).on (bitAt Reg.pnlPresChg c) = true := Dev.on_raise _ _ (bitAt_fits _ _) (Nat.le_refl 1)
  have hevt : F.pnlEvtPresChg.apart (bitAt Reg.pnlPresChg c) = true := by
    refine decide_eq_true (.inl ?_)
    simp only [bitAt, Reg.pnlPresChg, F.pnlEvtPresChg]
    omega
  exact ⟨_, hexec, (hlast.on (hpres c)).trans hxon, (Dev.on_put_of_apart _ 1 hevt).trans hchg, Dev.on_raise _ _ (by decide) (by decide),
    fun k hk => (hlast.on (hpres k)).trans (hxother k hk), honly.wordsAndPanel⟩

/-! The buses and the alarm cut-off (R616, R622, R623) -/

variable {m : Master}

theorem acoClr_shows (hw : s.mayWrite m.val Reg.pnlCtrl) :
    ∃ t, exec (.acoClr m) s = .next t ∧ t.dev.on F.pnlStatAco = false ∧ AnsweredWords m.val .okay [Reg.pnlCtrl, F.pnlStatAco.off] s t := by
  have hbit : (getF (s.dev.word Reg.pnlCtrl ||| 2) 1 1 == 1) = true := by
    rw [getF_or, show getF (2 : W32) 1 1 = 1 by decide, beq_iff_eq]
    have hlt : getF (s.dev.word Reg.pnlCtrl) 1 1 < 2 := Nat.mod_lt _ (by decide)
    rcases (by omega : getF (s.dev.word Reg.pnlCtrl) 1 1 = 0 ∨ getF (s.dev.word Reg.pnlCtrl) 1 1 = 1) with h | h
    · rw [h]
      rfl
    · rw [h]
      rfl
  obtain ⟨e, he⟩ : ∃ e, e = (s.dev.regWrite Reg.pnlCtrl (s.dev.word Reg.pnlCtrl ||| 2)).lower F.pnlStatAco := ⟨_, rfl⟩
  have hop : (fun d : Dev => okay (d.writePnlCtrl (d.word Reg.pnlCtrl ||| 2))) s.dev = (e, .okay) := by
    change okay (s.dev.writePnlCtrl (s.dev.word Reg.pnlCtrl ||| 2)) = _
    rw [Dev.writePnlCtrl, Dev.when_eq hbit, he, okay]
  have honly : Dev.WordsOnly [Reg.pnlCtrl, F.pnlStatAco.off] s.dev e := by
    rw [he]
    exact ((s.dev.regWrite_wordsOnly _ _).mono (List.cons_subset_cons _ (List.nil_subset _))).lower (f := F.pnlStatAco) (.tail _ (.head _))
  have haco : e.on F.pnlStatAco = false := he ▸ Dev.on_lower _ _ (by decide)
  have hanswer := answeredWords_write (op := fun d => okay (d.writePnlCtrl (d.word Reg.pnlCtrl ||| 2))) hw hop honly
  have hwords := (Dev.write_okay (op := fun d => okay (d.writePnlCtrl (d.word Reg.pnlCtrl ||| 2))) hw hop).2.1
  exact ⟨_, rfl, (Dev.on_congr hwords _).trans haco, hanswer⟩

section
variable {n : Fin 4} {data : W32} (hw : s.mayWrite m.val (Reg.pnlMbCmd + 0x40 * n.val))

theorem getF_go (data : W32) : getF (data ||| 0x20_0000) 21 1 ≠ 0 := by
  rw [getF_or, show getF (0x20_0000 : W32) 21 1 = 1 by decide]
  exact fun h => absurd (Nat.or_eq_zero_iff.1 h).2 (by decide)

/-- The transaction of bus `n` that begins. -/
def Dev.busBegins (d : Dev) (n : Nat) (data : W32) : Dev :=
  ((((d.regWrite (Reg.pnlMbCmd + 0x40 * n) data).setPanel { d.panel with
      buses := d.panel.buses.set n ((d.regWrite (Reg.pnlMbCmd + 0x40 * n) data).on (F.pnlMbCmdWrite.at 0x40 n),
        (d.regWrite (Reg.pnlMbCmd + 0x40 * n) data).get (F.pnlMbCmdLen.at 0x40 n)) }).raise (F.pnlMbStatBusy.at 0x40 n)).put
    (F.pnlMbStatResult.at 0x40 n) mbOk).put (F.pnlMbStatDone.at 0x40 n) 0

theorem Dev.writeMbCmd_begins (d : Dev) {data : W32} (hgo : getF data 21 1 ≠ 0) (hidle : d.on (F.pnlMbStatBusy.at 0x40 n) = false) :
    d.writeMbCmd n data = d.busBegins n data := by
  have hpanel : (d.regWrite (Reg.pnlMbCmd + 0x40 * n.val) data).panel = d.panel := by rw [(d.regWrite_wordsOnly _ data).1]
  have hidle' : ¬ d.on (mbField F.pnlMbStatBusy n.val) = true := by
    rw [mbField, hidle]
    exact Bool.false_ne_true
  rw [Dev.writeMbCmd, if_neg hgo, if_neg hidle', hpanel, Dev.busBegins]
  rfl

theorem Dev.busBegins_shows (d : Dev) (n : Fin 4) (data : W32) :
    (d.busBegins n data).on (F.pnlMbStatBusy.at 0x40 n) = true ∧ (d.busBegins n data).get (F.pnlMbStatDone.at 0x40 n) = 0
      ∧ (d.busBegins n data).get (F.pnlMbStatResult.at 0x40 n) = mbOk
      ∧ (d.busBegins n data).panel.buses = d.panel.buses.set n
        ((d.busBegins n data).on (F.pnlMbCmdWrite.at 0x40 n), (d.busBegins n data).get (F.pnlMbCmdLen.at 0x40 n))
      ∧ Dev.WordsBut [Reg.pnlMbCmd + 0x40 * n.val, (F.pnlMbStatBusy.at 0x40 n).off] d (d.busBegins n data) := by
  obtain ⟨r, hr⟩ : ∃ r, r = d.regWrite (Reg.pnlMbCmd + 0x40 * n.val) data := ⟨_, rfl⟩
  obtain ⟨p, hp⟩ : ∃ p : Panel, p = { d.panel with buses := d.panel.buses.set n.val (r.on (F.pnlMbCmdWrite.at 0x40 n.val), r.get (F.pnlMbCmdLen.at 0x40 n.val)) } := ⟨_, rfl⟩
  have hall : d.busBegins n data = (((r.setPanel p).raise (F.pnlMbStatBusy.at 0x40 n.val)).put (F.pnlMbStatResult.at 0x40 n.val) mbOk).put
      (F.pnlMbStatDone.at 0x40 n.val) 0 := by rw [hp, hr, Dev.busBegins]
  have hstat : Dev.WordsOnly [(F.pnlMbStatBusy.at 0x40 n.val).off] (r.setPanel p) (d.busBegins n data) := by
    rw [hall]
    exact (((Dev.WordsOnly.refl _ _).raise (f := F.pnlMbStatBusy.at 0x40 n.val) (.head _)).put (f := F.pnlMbStatResult.at 0x40 n.val) (.head _) mbOk).put
      (f := F.pnlMbStatDone.at 0x40 n.val) (.head _) 0
  have hcmd (f : Field) (hf : f.off = Reg.pnlMbCmd) : (f.at 0x40 n.val).off ∉ [(F.pnlMbStatBusy.at 0x40 n.val).off] := by
    rw [List.mem_singleton]
    change f.off + 0x40 * n.val ≠ F.pnlMbStatBusy.off + 0x40 * n.val
    rw [hf]
    simp only [Reg.pnlMbCmd, F.pnlMbStatBusy]
    omega
  have hwrite : (d.busBegins n data).on (F.pnlMbCmdWrite.at 0x40 n.val) = r.on (F.pnlMbCmdWrite.at 0x40 n.val) := hstat.2.on (hcmd _ rfl)
  have hlen : (d.busBegins n data).get (F.pnlMbCmdLen.at 0x40 n.val) = r.get (F.pnlMbCmdLen.at 0x40 n.val) := hstat.2.get (hcmd _ rfl)
  have hpanel := hstat.panel
  refine ⟨?_, ?_, ?_, ?_, ?_⟩
  · rw [hall, Dev.on_put_of_apart _ _ (Field.apart_at (by decide) _ _), Dev.on_put_of_apart _ _ (Field.apart_at (by decide) _ _)]
    exact Dev.on_raise _ _ (Nat.le_of_ble_eq_true rfl) (Nat.le_refl 1)
  · rw [hall]
    exact Dev.get_put_same _ _ _ (Nat.le_of_ble_eq_true rfl)
  · rw [hall, Dev.get_put_of_apart _ _ (Field.apart_at (by decide) _ _)]
    exact Dev.get_put_same _ _ _ (Nat.le_of_ble_eq_true rfl)
  · rw [hwrite, hlen, hpanel, hp]
  · have hreg : Dev.WordsBut [Reg.pnlMbCmd + 0x40 * n.val, (F.pnlMbStatBusy.at 0x40 n.val).off] d r := by
      rw [hr]
      exact (d.regWrite_wordsOnly _ data).2.mono (List.cons_subset_cons _ (List.nil_subset _))
    exact (hreg.of_words (Dev.setPanel_words _ _)).trans (hstat.2.mono (List.subset_cons_self _ _))

include hw

theorem go_begins (hidle : s.dev.on (F.pnlMbStatBusy.at 0x40 n) = false) :
    ∃ t, exec (.go m n data) s = .next t ∧ t.dev.on (F.pnlMbStatBusy.at 0x40 n) = true
      ∧ t.dev.get (F.pnlMbStatDone.at 0x40 n) = 0 ∧ t.dev.get (F.pnlMbStatResult.at 0x40 n) = mbOk
      ∧ (n.val < s.dev.panel.buses.length → t.dev.panel.buses.getD n (false, 0)
          = (t.dev.on (F.pnlMbCmdWrite.at 0x40 n), t.dev.get (F.pnlMbCmdLen.at 0x40 n)))
      ∧ (∀ k, k ≠ n.val → t.dev.panel.buses.getD k (false, 0) = s.dev.panel.buses.getD k (false, 0))
      ∧ Accessed m.val .okay [Reg.pnlMbCmd + 0x40 * n.val, (F.pnlMbStatBusy.at 0x40 n).off] s t := by
  obtain ⟨hbusy, hdone, hres, hbuses, hbut⟩ := s.dev.busBegins_shows n (data ||| 0x20_0000)
  obtain ⟨e, he⟩ : ∃ e, e = s.dev.busBegins n (data ||| 0x20_0000) := ⟨_, rfl⟩
  rw [← he] at hbusy hdone hres hbuses hbut
  have hop : (fun d : Dev => okay (d.writeMbCmd n.val (data ||| 0x20_0000))) s.dev = okay e := by
    change okay (s.dev.writeMbCmd n.val (data ||| 0x20_0000)) = _
    rw [s.dev.writeMbCmd_begins (getF_go data) hidle, he]
  obtain ⟨hreply, hwords, -⟩ := Dev.write_okay (op := fun d => okay (d.writeMbCmd n.val (data ||| 0x20_0000))) hw hop
  have hpanel := (Dev.write_okay_only (op := fun d => okay (d.writeMbCmd n.val (data ||| 0x20_0000))) hw hop).panel
  have hexec : exec (.go m n data) s = .next { s with dev := s.dev.write m.val (Reg.pnlMbCmd + 0x40 * n.val) (fun d =>
    okay (d.writeMbCmd n.val (data ||| 0x20_0000))) } := rfl
  obtain ⟨y, hy⟩ : ∃ y, y = s.dev.write m.val (Reg.pnlMbCmd + 0x40 * n.val) (fun d => okay (d.writeMbCmd n.val (data ||| 0x20_0000))) := ⟨_, rfl⟩
  rw [← hy] at hreply hwords hpanel hexec
  have hyb : y.panel.buses = s.dev.panel.buses.set n (y.on (F.pnlMbCmdWrite.at 0x40 n), y.get (F.pnlMbCmdLen.at 0x40 n)) := by
    rw [hpanel, hbuses, Dev.on_congr hwords, Dev.get_of_words hwords]
  refine ⟨_, hexec, (Dev.on_congr hwords _).trans hbusy, (Dev.get_of_words hwords _).trans hdone, (Dev.get_of_words hwords _).trans hres,
    fun hn => ?_, fun k hk => ?_, hreply, hbut.of_words hwords, rfl, rfl⟩
  · change y.panel.buses.getD n (false, 0) = _
    rw [hyb, List.getD_eq_getElem _ _ (by rw [List.length_set]; exact hn), List.getElem_set_self]
  · change y.panel.buses.getD k (false, 0) = _
    rw [hyb, List.getD_eq_getElem?_getD, List.getElem?_set_ne (Ne.symm hk), ← List.getD_eq_getElem?_getD]

theorem go_busy (hbusy : s.dev.on (F.pnlMbStatBusy.at 0x40 n) = true) :
    ∃ t, exec (.go m n data) s = .next t ∧ t.dev.on (F.pnlMbStatBusy.at 0x40 n) = true ∧ t.dev.get (F.pnlMbStatResult.at 0x40 n) = mbBusy
      ∧ AnsweredWords m.val .okay [Reg.pnlMbCmd + 0x40 * n.val, (F.pnlMbStatBusy.at 0x40 n).off] s t := by
  obtain ⟨r, hr⟩ : ∃ r, r = s.dev.regWrite (Reg.pnlMbCmd + 0x40 * n.val) (data ||| 0x20_0000) := ⟨_, rfl⟩
  obtain ⟨e, he⟩ : ∃ e, e = r.put (F.pnlMbStatResult.at 0x40 n.val) mbBusy := ⟨_, rfl⟩
  have hop : (fun d : Dev => okay (d.writeMbCmd n.val (data ||| 0x20_0000))) s.dev = okay e := by
    change okay (s.dev.writeMbCmd n.val (data ||| 0x20_0000)) = _
    rw [Dev.writeMbCmd, if_neg (getF_go data), mbField, if_pos hbusy, he, hr]
    rfl
  have hreg : Dev.WordsOnly [Reg.pnlMbCmd + 0x40 * n.val] s.dev r := hr ▸ s.dev.regWrite_wordsOnly _ _
  have honly : Dev.WordsOnly [Reg.pnlMbCmd + 0x40 * n.val, (F.pnlMbStatBusy.at 0x40 n.val).off] s.dev e := by
    rw [he]
    exact (hreg.mono (List.cons_subset_cons _ (List.nil_subset _))).put (f := F.pnlMbStatResult.at 0x40 n.val) (.tail _ (.head _)) _
  have hstat : (F.pnlMbStatBusy.at 0x40 n.val).off ∉ [Reg.pnlMbCmd + 0x40 * n.val] := by
    rw [List.mem_singleton]
    change F.pnlMbStatBusy.off + 0x40 * n.val ≠ _
    simp only [Reg.pnlMbCmd, F.pnlMbStatBusy]
    omega
  have hon : e.on (F.pnlMbStatBusy.at 0x40 n.val) = true := by
    rw [he, Dev.on_put_of_apart _ _ (Field.apart_at (by decide) _ _)]
    exact (hreg.2.on hstat).trans hbusy
  have hres : e.get (F.pnlMbStatResult.at 0x40 n.val) = mbBusy := he ▸ Dev.get_put_same _ _ _ (Nat.le_of_ble_eq_true rfl)
  have hanswer := answeredWords_write (op := fun d => okay (d.writeMbCmd n.val (data ||| 0x20_0000))) hw hop honly
  have hwords := (Dev.write_okay (op := fun d => okay (d.writeMbCmd n.val (data ||| 0x20_0000))) hw hop).2.1
  exact ⟨_, rfl, (Dev.on_congr hwords _).trans hon, (Dev.get_of_words hwords _).trans hres, hanswer⟩

end

theorem mbResult_lt (e : MbEnd) : mbResult e < 8 := by cases e <;> decide

/-- The end of a transaction of a bus. -/
theorem Dev.mbEnd_shows (d : Dev) (n : Fin 4) (e : MbEnd) {count : Nat} (hcount : count < 32) :
    (d.mbEnd n (mbResult e) count).on (F.pnlMbStatBusy.at 0x40 n) = false
      ∧ (d.mbEnd n (mbResult e) count).get (F.pnlMbStatResult.at 0x40 n) = mbResult e
      ∧ (d.mbEnd n (mbResult e) count).get (F.pnlMbStatDone.at 0x40 n) = count ∧ (d.mbEnd n (mbResult e) count).on F.pnlEvtMbDone = true
      ∧ Dev.WordsBut [(F.pnlMbStatBusy.at 0x40 n).off, Reg.pnlEvt] d (d.mbEnd n (mbResult e) count)
      ∧ Dev.Only [.words] d (d.mbEnd n (mbResult e) count) := by
  have hall : d.mbEnd n (mbResult e) count = (((d.lower (F.pnlMbStatBusy.at 0x40 n.val)).put (F.pnlMbStatResult.at 0x40 n.val) (mbResult e)).put
      (F.pnlMbStatDone.at 0x40 n.val) count).raise F.pnlEvtMbDone := by simp only [Dev.mbEnd, mbField]
  have hevt (f : Field) (hf : f.off = F.pnlMbStatBusy.off) : F.pnlEvtMbDone.apart (f.at 0x40 n.val) = true := by
    refine decide_eq_true (.inl ?_)
    change f.off + 0x40 * n.val ≠ F.pnlEvtMbDone.off
    rw [hf]
    simp only [F.pnlMbStatBusy, F.pnlEvtMbDone]
    omega
  rw [hall]
  refine ⟨?_, ?_, ?_, Dev.on_raise _ _ (by decide) (by decide), ?_, ?_⟩
  · rw [Dev.raise, Dev.on_put_of_apart _ _ (hevt _ rfl), Dev.on_put_of_apart _ _ (Field.apart_at (by decide) _ _), Dev.on_put_of_apart _ _ (Field.apart_at (by decide) _ _)]
    exact Dev.on_lower _ _ (Nat.le_of_ble_eq_true rfl)
  · rw [Dev.raise, Dev.get_put_of_apart _ _ (hevt F.pnlMbStatResult rfl), Dev.get_put_of_apart _ _ (Field.apart_at (by decide) _ _)]
    exact (Dev.get_put_same _ _ _ (Nat.le_of_ble_eq_true rfl)).trans (Nat.mod_eq_of_lt (mbResult_lt e))
  · rw [Dev.raise, Dev.get_put_of_apart _ _ (hevt F.pnlMbStatDone rfl)]
    exact (Dev.get_put_same _ _ _ (Nat.le_of_ble_eq_true rfl)).trans (Nat.mod_eq_of_lt hcount)
  · exact ((((Dev.WordsBut.refl _ d).lower (f := F.pnlMbStatBusy.at 0x40 n.val) (.head _)).put (f := F.pnlMbStatResult.at 0x40 n.val) (.head _) _).put
      (f := F.pnlMbStatDone.at 0x40 n.val) (.head _) _).raise (f := F.pnlEvtMbDone) (.tail _ (.head _))
  · exact (((d.only_lower _).step (Dev.only_put _ _ _)).step (Dev.only_put _ _ _)).step (Dev.only_raise _ _)

theorem mbDone_shows (n : Fin 4) (e : MbEnd) (done : Fin 17) (bytes : List Byte) (hbusy : s.dev.on (F.pnlMbStatBusy.at 0x40 n) = true)
    (hbytes : bytes.length = 16) :
    let b := s.dev.panel.buses.getD n (false, 0)
    let count := if e = .ok then b.2 else Nat.min done.val b.2
    b.2 ≤ 16 →
    ∃ t, exec (.mbDone n e done bytes) s = .next t ∧ t.dev.on (F.pnlMbStatBusy.at 0x40 n) = false
      ∧ t.dev.get (F.pnlMbStatResult.at 0x40 n) = mbResult e ∧ t.dev.get (F.pnlMbStatDone.at 0x40 n) = count
      ∧ (b.1 = false → t.dev.bytesAt (Reg.pnlMbData + 0x40 * n.val) count = bytes.take count)
      ∧ (b.1 = true → t.dev.bytesAt (Reg.pnlMbData + 0x40 * n.val) 16 = s.dev.bytesAt (Reg.pnlMbData + 0x40 * n.val) 16)
      ∧ t.dev.on F.pnlEvtMbDone = true ∧ t = { s with dev := { s.dev with words := t.dev.words } } := by
  intro b count hlen
  have hcount : count ≤ 16 := by
    unfold count
    split
    · exact hlen
    · exact Nat.le_trans (Nat.min_le_right _ _) hlen
  have hexec : exec (.mbDone n e done bytes) s = .next { s with dev := (s.dev.when (s.dev.on (mbField F.pnlMbStatBusy n.val)) (fun d =>
    (d.when (!b.1) (fun x => x.setBytesAt (Reg.pnlMbData + 0x40 * n.val) (bytes.take count))).mbEnd n.val (mbResult e) count)) } := rfl
  rw [mbField, Dev.when_eq hbusy] at hexec
  obtain ⟨x, hx⟩ : ∃ x, x = s.dev.when (!b.1) (fun x => x.setBytesAt (Reg.pnlMbData + 0x40 * n.val) (bytes.take count)) := ⟨_, rfl⟩
  have hxonly : Dev.Only [.words] s.dev x := hx ▸ .whenStep _ fun y => y.only_setBytesAt _ _
  rw [← hx] at hexec
  obtain ⟨hend, hres, hdone, hevt, hbut, honly⟩ := x.mbEnd_shows n e (count := count) (by omega)
  have hdata {k : Nat} (hk : k ≤ 16) : (x.mbEnd n (mbResult e) count).bytesAt (Reg.pnlMbData + 0x40 * n.val) k
      = x.bytesAt (Reg.pnlMbData + 0x40 * n.val) k := by
    refine Dev.bytesAt_congr fun i hi => hbut _ ?_
    change _ ∉ [F.pnlMbStatBusy.off + 0x40 * n.val, Reg.pnlEvt]
    simp only [List.mem_cons, List.not_mem_nil, or_false, Reg.pnlMbData, F.pnlMbStatBusy, Reg.pnlEvt]
    omega
  have hframe : ({ s with dev := x.mbEnd n.val (mbResult e) count } : State) = _ := (hxonly.trans honly).state_words
  refine ⟨_, hexec, hend, hres, hdone, fun hread => (hdata hcount).trans ?_, fun hwrite => (hdata (Nat.le_refl 16)).trans ?_, hevt, hframe⟩
  · rw [hx, hread, Dev.when_eq (by decide)]
    have htake : (bytes.take count).length = count := by
      rw [List.length_take, hbytes]
      exact Nat.min_eq_left hcount
    have hbytesAt := s.dev.bytesAt_setBytesAt (Reg.pnlMbData + 0x40 * n.val) (bytes.take count)
    rw [htake] at hbytesAt
    exact hbytesAt
  · rw [hx, hwrite]
    rfl

end

/-- Settles O56, by the scan, the keys, the electrodes, the modules and the buses. -/
theorem panelAndModules : Obligations.PanelAndModules := by
  unfold Obligations.PanelAndModules
  exact fun s => ⟨scanCycle_shows, fun i hup hrun => keyPress_shows hup hrun, fun i hdown hrun => keyRelease_shows hdown hrun,
    fun a b hpair hboot hprep hsafe hmay => mateHandover_shows hpair hboot hprep hsafe hmay, stuckInput_shows, touchBaselineStep_shows,
    presenceChange_shows, fun m hw => acoClr_shows hw, fun m n data hw => ⟨go_begins hw, go_busy hw⟩, mbDone_shows⟩

end Sys2Proof.Machine

/-! What the log, the fuses' entries in it and a change of the debug level leave alone (R580, R584, R589, R599). -/

namespace Sys2Proof.Machine

set_option Elab.async false -- a proof at a time, within the memory of a check

theorem Part.blind_mgt (x : Part) (h : x ≠ .mgt) : x.Blind Dev.mgt := by
  cases x
  case mgt => exact absurd rfl h
  all_goals exact fun _ _ => rfl

theorem Part.blind_modes (x : Part) (h : x ≠ .modes) : x.Blind Dev.modes := by
  cases x
  case modes => exact absurd rfl h
  all_goals exact fun _ _ => rfl

theorem Dev.Only.mgt {S : List Part} {d e : Dev} (h : Dev.Only S d e) (hS : Part.mgt ∉ S := by decide) : e.mgt = d.mgt :=
  h _ Dev.mgt fun x hx => x.blind_mgt fun hxe => hS (hxe ▸ hx)

theorem Dev.Only.modes {S : List Part} {d e : Dev} (h : Dev.Only S d e) (hS : Part.modes ∉ S := by decide) : e.modes = d.modes :=
  h _ Dev.modes fun x hx => x.blind_modes fun hxe => hS (hxe ▸ hx)

theorem Dev.only_setMgt (d : Dev) (m : Mgt) : Dev.Only [.mgt] d (d.setMgt m) := .part .mgt (by decide) fun _ _ hp => hp d m

theorem Dev.only_unpoison (d : Dev) (a n : Nat) : Dev.Only [.sram] d (d.unpoison a n) := .part .sram (by decide) fun _ _ hp => hp d _

/-! Free values -/

theorem Dev.only_freeWord (d : Dev) : Dev.Only [.fresh] d d.freeWord.2 := .part .fresh (by decide) fun _ _ hp => hp d _

theorem Dev.only_freeByte (d : Dev) : Dev.Only [.fresh] d d.freeByte.2 := .part .fresh (by decide) fun _ _ hp => hp d _

/-- Values drawn one after the other. -/
theorem Dev.only_draws {α β : Type} {draw : Dev → α × Dev} (h : ∀ d : Dev, Dev.Only [.fresh] d (draw d).2) (l : List β) :
    ∀ x : List α × Dev, Dev.Only [.fresh] x.2 (l.foldl (fun (a : List α × Dev) _ => (a.1 ++ [(draw a.2).1], (draw a.2).2)) x).2 := by
  induction l with
  | nil => exact fun x => .refl _ x.2
  | cons b l ih =>
    intro x
    rw [List.foldl_cons]
    exact (h x.2).trans (ih (x.1 ++ [(draw x.2).1], (draw x.2).2))

/-! The log (R584) -/

/-- What an entry of the log leaves alone. -/
structure Chip.LogKeeps (c e : Chip) : Prop where
  flash : e.flash = c.flash
  only : Dev.Only [.fresh, .words, .sram] c.dev e.dev
  words : Dev.WordsBut [Reg.mgtLogSeq] c.dev e.dev

theorem Chip.LogKeeps.trans {c e x : Chip} (h : c.LogKeeps e) (h' : e.LogKeeps x) : c.LogKeeps x :=
  ⟨h'.flash.trans h.flash, h.only.trans h'.only, h.words.trans h'.words⟩

theorem Chip.LogKeeps.refl (c : Chip) : c.LogKeeps c := ⟨rfl, .refl _ _, .refl _ _⟩

theorem Chip.store_dev (c : Chip) (a : Nat) (l : List Byte) : (c.store a l).dev = c.dev.unpoison a l.length := rfl

theorem Chip.store_flash (c : Chip) (a : Nat) (l : List Byte) : (c.store a l).flash = c.flash := rfl

theorem Chip.log_flash (c : Chip) (p : Nat) (sec : Bool) : (c.log p sec).flash = c.flash := by
  unfold Chip.log
  extract_lets _ _ _ _ _ _ _ _ _ _ bytes c1
  have hflash : c1.flash = c.flash := Chip.store_flash _ _ _
  rw [← hflash]
  clear_value c1
  split <;> rfl

/-- The device that has drawn an entry's free values, with those drawn last. -/
def Dev.logDrawn (d : Dev) : List W32 × Dev :=
  (List.range 10).foldl (fun (a : List W32 × Dev) _ => (a.1 ++ [a.2.freeWord.1], a.2.freeWord.2)) ([], d.freeWord.2.freeWord.2)

theorem Dev.only_logDrawn (d : Dev) : Dev.Only [.fresh] d d.logDrawn.2 :=
  ((Dev.only_freeWord d).trans (Dev.only_freeWord _)).trans (Dev.only_draws Dev.only_freeWord _ ([], d.freeWord.2.freeWord.2))

theorem Chip.log_dev (c : Chip) (p : Nat) (sec : Bool) : ∃ bytes : List Byte,
    (c.log p sec).dev = (c.dev.logDrawn.2.roll F.mgtLogSeqSeq 1).unpoison (logTail (c.dev.get F.mgtLogSeqSeq)) bytes.length := by
  obtain ⟨z, hz⟩ : ∃ z, z = c.dev.logDrawn := ⟨_, rfl⟩
  rw [← hz]
  unfold Chip.log
  extract_lets _ _ _ _ _ _ _ _ drawn _ bytes c1
  have hdrawn : z = drawn := hz
  refine ⟨bytes, ?_⟩
  rw [hdrawn]
  have hdev : c1.dev = _ := Chip.store_dev _ _ _
  clear_value drawn
  rw [← hdev]
  clear_value c1
  split <;> rfl

theorem Chip.log_keeps (c : Chip) (p : Nat) (sec : Bool) : c.LogKeeps (c.log p sec) := by
  obtain ⟨bytes, hdev⟩ := c.log_dev p sec
  have hdraws := c.dev.only_logDrawn
  obtain ⟨z, hz⟩ : ∃ z, z = c.dev.logDrawn.2 := ⟨_, rfl⟩
  rw [← hz] at hdev hdraws
  refine ⟨c.log_flash p sec, ?_, ?_⟩
  · rw [hdev]
    exact ((hdraws.mono (by decide)).step (Dev.only_roll _ _ _)).step (Dev.only_unpoison _ _ _)
  · rw [hdev]
    have hroll : Dev.WordsBut [Reg.mgtLogSeq] z (z.roll F.mgtLogSeqSeq 1) := (Dev.WordsBut.refl _ _).roll (f := F.mgtLogSeqSeq) (.head _) 1
    exact ((Dev.WordsBut.refl _ c.dev).of_words hdraws.words).trans (hroll.of_words (Dev.only_unpoison _ _ _).words)

theorem Chip.when_eq {b : Bool} (h : b = true) (c : Chip) (f : Chip → Chip) : c.when b f = f c := by
  rw [h]
  rfl

/-- Entries that are made only where a command took effect. -/
theorem Chip.when_log_keeps (c : Chip) (b : Bool) (p : Nat) (sec : Bool) : c.LogKeeps (c.when b (fun x => x.log p sec)) := by
  cases b with
  | false => exact .refl c
  | true =>
    rw [Chip.when_eq rfl]
    exact c.log_keeps p sec

/-! The debug level (R599) -/

/-- What a change of the debug level leaves alone: of the Management Subsystem all but the halted hart and the access of a debugger. -/
structure Chip.DebugKeeps (c e : Chip) : Prop where
  flash : e.flash = c.flash
  modes : e.dev.modes = c.dev.modes
  otp : e.dev.mgt.otp = c.dev.mgt.otp
  session : e.dev.mgt.session = c.dev.mgt.session
  nonce : e.dev.mgt.nonce = c.dev.mgt.nonce
  fields : ∀ f : Field, F.secDbgEff.apart f = true → F.secEvtDbgChg.apart f = true → f.off ≠ Reg.mgtLogSeq → e.dev.get f = c.dev.get f

namespace Chip.DebugKeeps

variable {c e x : Chip}

theorem refl (c : Chip) : c.DebugKeeps c := ⟨rfl, rfl, rfl, rfl, rfl, fun _ _ _ _ => rfl⟩

theorem trans (h : c.DebugKeeps e) (h' : e.DebugKeeps x) : c.DebugKeeps x :=
  ⟨h'.flash.trans h.flash, h'.modes.trans h.modes, h'.otp.trans h.otp, h'.session.trans h.session, h'.nonce.trans h.nonce,
    fun f h1 h2 h3 => (h'.fields f h1 h2 h3).trans (h.fields f h1 h2 h3)⟩

theorem of_log (h : c.LogKeeps e) : c.DebugKeeps e :=
  ⟨h.flash, h.only.modes, congrArg Mgt.otp h.only.mgt, congrArg Mgt.session h.only.mgt, congrArg Mgt.nonce h.only.mgt,
    fun _ _ _ h3 => h.words.get (by rw [List.mem_singleton]; exact h3)⟩

theorem on (h : c.DebugKeeps e) {f : Field} (h1 : F.secDbgEff.apart f = true) (h2 : F.secEvtDbgChg.apart f = true) (h3 : f.off ≠ Reg.mgtLogSeq) :
    e.dev.on f = c.dev.on f := Dev.on_of_get (h.fields f h1 h2 h3)

end Chip.DebugKeeps

theorem Dev.resumeHart_keeps (d : Dev) : Dev.Only [.mgt] d d.resumeHart
    ∧ d.resumeHart.mgt = { d.mgt with halted := false, wdogAt := d.resumeHart.mgt.wdogAt } := by
  rw [Dev.resumeHart]
  cases h : d.mgt.halted with
  | false =>
    refine ⟨.refl _ d, ?_⟩
    change d.mgt = { d.mgt with halted := false, wdogAt := d.mgt.wdogAt }
    rw [← h]
  | true => exact ⟨d.only_setMgt _, rfl⟩

/-- The debugger's access ends with the level that allowed it. -/
theorem Chip.debugFalls_keeps (c : Chip) (b : Bool) : c.DebugKeeps (c.when b (fun x => x.on (fun d =>
    d.resumeHart.setMgt { d.resumeHart.mgt with dmiStatus := 0, dmiData := 0 })))
    ∧ (c.when b (fun x => x.on (fun d => d.resumeHart.setMgt { d.resumeHart.mgt with dmiStatus := 0, dmiData := 0 }))).dev.words = c.dev.words := by
  cases b with
  | false => exact ⟨.refl c, rfl⟩
  | true =>
    obtain ⟨honly, hmgt⟩ := c.dev.resumeHart_keeps
    obtain ⟨x, hx⟩ : ∃ x, x = c.dev.resumeHart := ⟨_, rfl⟩
    have hall : (c.when true (fun x => x.on (fun d => d.resumeHart.setMgt { d.resumeHart.mgt with dmiStatus := 0, dmiData := 0 })))
        = { c with dev := x.setMgt { x.mgt with dmiStatus := 0, dmiData := 0 } } := by
      rw [hx]
      rfl
    rw [← hx] at honly hmgt
    rw [hall]
    have hwords : (x.setMgt { x.mgt with dmiStatus := 0, dmiData := 0 }).words = c.dev.words := honly.words
    have hmodes : x.modes = c.dev.modes := honly.modes
    have hotp : x.mgt.otp = c.dev.mgt.otp := by rw [hmgt]
    have hsession : x.mgt.session = c.dev.mgt.session := by rw [hmgt]
    have hnonce : x.mgt.nonce = c.dev.mgt.nonce := by rw [hmgt]
    exact ⟨⟨rfl, hmodes, hotp, hsession, hnonce, fun f _ _ _ => Dev.get_of_words hwords f⟩, hwords⟩

theorem Dev.debugLevel_le (d : Dev) : d.debugLevel ≤ d.get F.secDbgReq := Nat.min_le_left _ _

theorem Chip.debugUpdate_shows (c : Chip) : c.DebugKeeps c.debugUpdate ∧ c.debugUpdate.dev.get F.secDbgEff = c.dev.debugLevel := by
  unfold Chip.debugUpdate
  extract_lets old new c1
  split
  case isTrue h => exact ⟨.refl c, h.symm⟩
  case isFalse =>
    have hnew : new < 2 ^ 2 := Nat.lt_of_le_of_lt c.dev.debugLevel_le (Dev.get_lt _ _)
    obtain ⟨y, hy⟩ : ∃ y : Chip, y = c.on (fun d => (d.put F.secDbgEff new).raise F.secEvtDbgChg) := ⟨_, rfl⟩
    have hput : c.DebugKeeps y := by
      rw [hy]
      exact ⟨rfl, rfl, rfl, rfl, rfl, fun f h1 h2 _ => (Dev.get_put_of_apart _ 1 h2).trans (Dev.get_put_of_apart _ new h1)⟩
    have heff : y.dev.get F.secDbgEff = new := by
      rw [hy]
      change ((c.dev.put F.secDbgEff new).raise F.secEvtDbgChg).get F.secDbgEff = new
      rw [Dev.raise, Dev.get_put_of_apart _ _ (by decide), Dev.get_put_same _ _ _ (by decide)]
      exact Nat.mod_eq_of_lt hnew
    have hlog : y.LogKeeps c1 := hy ▸ Chip.log_keeps _ _ _
    clear_value c1
    obtain ⟨hfall, hwords⟩ := c1.debugFalls_keeps (decide (new < old))
    exact ⟨(hput.trans (.of_log hlog)).trans hfall, (Dev.get_of_words hwords _).trans ((hlog.words.get (by decide)).trans heff)⟩

/-! The lifecycle (R591) -/

theorem Dev.lifecycle_congr {d e : Dev} (hotp : e.mgt.otp = d.mgt.otp) (hsession : e.mgt.session = d.mgt.session) : e.lifecycle = d.lifecycle := by
  rw [Dev.lifecycle, Dev.lifecycle, hotp, hsession]

theorem Dev.debugMax_congr {d e : Dev} (hotp : e.mgt.otp = d.mgt.otp) (hsession : e.mgt.session = d.mgt.session) : e.debugMax = d.debugMax := by
  rw [Dev.debugMax, Dev.debugMax, Dev.lifecycle_congr hotp hsession, hsession]

/-- A device that is LOCKED has its fuse and no other state. -/
theorem Dev.locked_fuses {d : Dev} (h : d.lifecycle = lcLocked) : d.mgt.otp.gone = false ∧ d.mgt.otp.locked = true := by
  unfold Dev.lifecycle at h
  dsimp only at h
  split at h
  · exact absurd h (by decide)
  · next hgone =>
    split at h
    · next hlocked => exact ⟨Bool.not_eq_true _ ▸ hgone, hlocked⟩
    · split at h
      · exact absurd h (by decide)
      · exact absurd h (by decide)

end Sys2Proof.Machine

/-! The commands of the security engine (R589 to R600). -/

namespace Sys2Proof.Machine

set_option Elab.async false -- a proof at a time, within the memory of a check

/-! A write whose effect may reach the memories -/

/-- What a write leaves once its effect is `e`, answered `r`. -/
structure WriteLeaves (m : Nat) (r : Resp) (e : Chip) (t : State) : Prop where
  reply : (t.dev.replyTo m).resp = r
  mem : t.mem = e.mem
  flash : t.flash = e.flash
  dev : t.dev = { e.dev with replies := t.dev.replies, fec := t.dev.fec, mate := t.dev.mate }
  replied : Replied m r e.dev t.dev

theorem chipWrite_leaves {s : State} {m a : Nat} {op : Chip → Chip × Resp} {e : Chip} {r : Resp} (h : s.mayWrite m a)
    (hop : op s.chip = (e, r)) : WriteLeaves m r e (s.run (fun c => c.write m a op)) := by
  obtain ⟨hmem, hflash, hdev, hreply⟩ := Chip.write_ok (c := s.chip) (op := op) h
  rw [hop] at hmem hflash hdev hreply
  exact ⟨hreply.1, hmem, hflash, hdev, hreply⟩

namespace WriteLeaves

variable {m : Nat} {r : Resp} {e : Chip} {t : State}

theorem words (h : WriteLeaves m r e t) : t.dev.words = e.dev.words := by rw [h.dev]
theorem mgt (h : WriteLeaves m r e t) : t.dev.mgt = e.dev.mgt := by rw [h.dev]
theorem modes (h : WriteLeaves m r e t) : t.dev.modes = e.dev.modes := by rw [h.dev]

end WriteLeaves

/-! The end of a command (R605) -/

/-- What the registers show of the command that ended. -/
structure Dev.SecEnded (d : Dev) (op res : Nat) : Prop where
  op : d.get F.secCmdStatOp = op
  result : d.get F.secCmdStatResult = res
  busy : d.on F.secCmdStatBusy = false
  evt : d.on F.secEvtCmdDone = true

section
variable {d : Dev} {op res : Nat}

theorem Dev.SecEnded.of_words {e : Dev} (h : d.SecEnded op res) (hw : e.words = d.words) : e.SecEnded op res :=
  ⟨(Dev.get_of_words hw _).trans h.op, (Dev.get_of_words hw _).trans h.result, (Dev.on_congr hw _).trans h.busy, (Dev.on_congr hw _).trans h.evt⟩

theorem Dev.SecEnded.raise (h : d.SecEnded op res) {f : Field} (hf : f = F.secEvtLcChg ∨ f = F.secEvtFuse) : (d.raise f).SecEnded op res := by
  rcases hf with rfl | rfl
  · exact ⟨(Dev.get_put_of_apart _ 1 (by decide)).trans h.op, (Dev.get_put_of_apart _ 1 (by decide)).trans h.result,
      (Dev.on_put_of_apart _ 1 (by decide)).trans h.busy, (Dev.on_put_of_apart _ 1 (by decide)).trans h.evt⟩
  · exact ⟨(Dev.get_put_of_apart _ 1 (by decide)).trans h.op, (Dev.get_put_of_apart _ 1 (by decide)).trans h.result,
      (Dev.on_put_of_apart _ 1 (by decide)).trans h.busy, (Dev.on_put_of_apart _ 1 (by decide)).trans h.evt⟩

theorem Chip.DebugKeeps.ended {c e : Chip} (h : c.DebugKeeps e) (hc : c.dev.SecEnded op res) : e.dev.SecEnded op res :=
  ⟨(h.fields _ (by decide) (by decide) (by decide)).trans hc.op, (h.fields _ (by decide) (by decide) (by decide)).trans hc.result,
    (h.on (by decide) (by decide) (by decide)).trans hc.busy, (h.on (by decide) (by decide) (by decide)).trans hc.evt⟩

theorem Dev.secEnd_ended (d : Dev) (hop : op < 16) (hres : res < 16) : (d.secEnd op res).SecEnded op res := by
  refine ⟨?_, ?_, ?_, Dev.on_raise _ _ (by decide) (by decide)⟩
  · rw [Dev.secEnd, Dev.raise, Dev.get_put_of_apart _ _ (by decide), Dev.lower, Dev.get_put_of_apart _ _ (by decide),
      Dev.get_put_of_apart _ _ (by decide), Dev.get_put_same _ _ _ (by decide)]
    exact Nat.mod_eq_of_lt hop
  · rw [Dev.secEnd, Dev.raise, Dev.get_put_of_apart _ _ (by decide), Dev.lower, Dev.get_put_of_apart _ _ (by decide),
      Dev.get_put_same _ _ _ (by decide)]
    exact Nat.mod_eq_of_lt hres
  · rw [Dev.secEnd, Dev.raise, Dev.on_put_of_apart _ _ (by decide)]
    exact Dev.on_lower _ _ (by decide)

theorem Dev.only_secEnd (d : Dev) (op res : Nat) : Dev.Only [.words] d (d.secEnd op res) :=
  (((d.only_put _ _).step (Dev.only_put _ _ _)).step (Dev.only_lower _ _)).step (Dev.only_raise _ _)

theorem Dev.wordsBut_secEnd (d : Dev) (op res : Nat) : Dev.WordsBut [Reg.secCmdStat, Reg.secEvt] d (d.secEnd op res) :=
  ((((Dev.WordsBut.refl _ d).put (f := F.secCmdStatOp) (.head _) op).put (f := F.secCmdStatResult) (.head _) res).lower
    (f := F.secCmdStatBusy) (.head _)).raise (f := F.secEvtCmdDone) (.tail _ (.head _))

/-! What the commands change (R591 to R595) -/

theorem Dev.clearNonce_mgt (d : Dev) : d.clearNonce.mgt = { d.mgt with nonce := false } :=
  (Dev.Only.each (S := [.words]) 8 fun x i => x.only_setWord _ _).mgt

theorem Dev.clearNonce_modes (d : Dev) : d.clearNonce.modes = d.modes :=
  (Dev.Only.each (S := [.words]) (d := d.setMgt { d.mgt with nonce := false }) 8 fun x i => x.only_setWord _ _).modes

/-- The device after UNLOCK with the result `r`. -/
def Dev.unlockEnds (d : Dev) (r level : Nat) : Dev :=
  (d.clearNonce.secEnd secUnlock r).when (r == secOk) (fun x => (x.setMgt { x.mgt with session := some level }).raise F.secEvtLcChg)

theorem Dev.unlockEnds_shows (d : Dev) {r : Nat} (level : Nat) (hr : r < 16) : (d.unlockEnds r level).SecEnded secUnlock r
    ∧ (d.unlockEnds r level).mgt = { d.mgt with nonce := false, session := if r = secOk then some level else d.mgt.session } := by
  have hend := d.clearNonce.secEnd_ended (op := secUnlock) (by decide) hr
  have hmgt := (d.clearNonce.only_secEnd secUnlock r).mgt.trans d.clearNonce_mgt
  rw [Dev.unlockEnds]
  obtain ⟨x, hx⟩ : ∃ x, x = d.clearNonce.secEnd secUnlock r := ⟨_, rfl⟩
  rw [← hx] at hend hmgt ⊢
  by_cases h : r = secOk
  · rw [Dev.when_eq (beq_iff_eq.2 h), if_pos h]
    refine ⟨(hend.of_words (e := x.setMgt { x.mgt with session := some level }) rfl).raise (.inl rfl), ?_⟩
    refine (Dev.only_raise _ _).mgt.trans ?_
    change { x.mgt with session := some level } = _
    rw [hmgt]
  · have hfalse : (r == secOk) = false := beq_eq_false_iff_ne.2 h
    rw [hfalse, if_neg h]
    exact ⟨hend, hmgt⟩

/-- The device after a command that may burn fuses, with the result `r`. -/
def Dev.burnEnds (d : Dev) (op r : Nat) (f : Otp → Otp) : Dev := (d.secEnd op r).when (r == secOk) (fun x => x.burnLifecycle (f x.mgt.otp))

theorem Dev.burnLifecycle_shows {x : Dev} (o : Otp) (h : x.SecEnded op res) : (x.burnLifecycle o).SecEnded op res
    ∧ (x.burnLifecycle o).mgt = { x.mgt with otp := o } :=
  ⟨((h.of_words (e := x.setMgt { x.mgt with otp := o }) rfl).raise (.inl rfl)).raise (.inr rfl), ((Dev.only_raise _ _).step (Dev.only_raise _ _)).mgt⟩

theorem Dev.burnEnds_shows (d : Dev) {op r : Nat} (f : Otp → Otp) (hop : op < 16) (hr : r < 16) : (d.burnEnds op r f).SecEnded op r
    ∧ (d.burnEnds op r f).mgt = { d.mgt with otp := if r = secOk then f d.mgt.otp else d.mgt.otp } := by
  have hend := d.secEnd_ended hop hr
  have hmgt := (d.only_secEnd op r).mgt
  rw [Dev.burnEnds]
  obtain ⟨x, hx⟩ : ∃ x, x = d.secEnd op r := ⟨_, rfl⟩
  rw [← hx] at hend hmgt ⊢
  by_cases h : r = secOk
  · rw [Dev.when_eq (beq_iff_eq.2 h), if_pos h]
    obtain ⟨hended, hburnt⟩ := Dev.burnLifecycle_shows (f x.mgt.otp) hend
    exact ⟨hended, by rw [hburnt, hmgt]⟩
  · have hfalse : (r == secOk) = false := beq_eq_false_iff_ne.2 h
    rw [hfalse, if_neg h]
    exact ⟨hend, hmgt⟩

/-- The device after DECOMMISSION with the result `r`. -/
def Dev.decommissionEnds (d : Dev) (r : Nat) : Dev :=
  (d.clearNonce.secEnd secDecommission r).when (r == secOk) (fun x =>
    let y := x.burnLifecycle { x.mgt.otp with gone := true, keyBurnt := true }
    { y.setMgt { y.mgt with session := none } with modes := { y.modes with warmRequested := true } })

theorem Dev.decommissionEnds_shows (d : Dev) {r : Nat} (hr : r < 16) : (d.decommissionEnds r).SecEnded secDecommission r
    ∧ (d.decommissionEnds r).mgt.nonce = false
    ∧ (d.decommissionEnds r).mgt.otp = (if r = secOk then { d.mgt.otp with gone := true, keyBurnt := true } else d.mgt.otp)
    ∧ (r = secOk → (d.decommissionEnds r).modes.warmRequested = true) := by
  have hend := d.clearNonce.secEnd_ended (op := secDecommission) (by decide) hr
  have hmgt := (d.clearNonce.only_secEnd secDecommission r).mgt.trans d.clearNonce_mgt
  rw [Dev.decommissionEnds]
  obtain ⟨x, hx⟩ : ∃ x, x = d.clearNonce.secEnd secDecommission r := ⟨_, rfl⟩
  rw [← hx] at hend hmgt ⊢
  by_cases h : r = secOk
  · rw [Dev.when_eq (beq_iff_eq.2 h), if_pos h]
    obtain ⟨hended, hburnt⟩ := Dev.burnLifecycle_shows { x.mgt.otp with gone := true, keyBurnt := true } hend
    obtain ⟨y, hy⟩ : ∃ y, y = x.burnLifecycle { x.mgt.otp with gone := true, keyBurnt := true } := ⟨_, rfl⟩
    rw [← hy] at hended hburnt
    dsimp only
    rw [← hy]
    have hnonce : y.mgt.nonce = false := by rw [hburnt, hmgt]
    have hotp : y.mgt.otp = { d.mgt.otp with gone := true, keyBurnt := true } := by rw [hburnt, hmgt]
    exact ⟨hended.of_words rfl, hnonce, hotp, fun _ => rfl⟩
  · have hfalse : (r == secOk) = false := beq_eq_false_iff_ne.2 h
    rw [hfalse, if_neg h]
    exact ⟨hend, by rw [Dev.when, if_neg Bool.false_ne_true, hmgt], by rw [Dev.when, if_neg Bool.false_ne_true, hmgt], fun hok => absurd hok h⟩

theorem Dev.tokenCheck_lt (d : Dev) (magic : List Byte) (level : Nat → Bool) (key : Option (List Byte)) : d.tokenCheck magic level key < 16 := by
  unfold Dev.tokenCheck
  split
  · decide
  · cases key with
    | none => exact (by decide : secSig < 16)
    | some k =>
      dsimp only
      split <;> decide

theorem Dev.decommissionResult_lt (d : Dev) : d.decommissionResult < 16 := by
  unfold Dev.decommissionResult
  split
  · decide
  · split
    · decide
    · exact d.tokenCheck_lt _ _ _

end

/-! The commands -/

section
variable {m : Master} {s : State}

/-- What shows of a command that ended. -/
abbrev SecDone (m : Master) (s t : State) (op res : Nat) : Prop :=
  (t.dev.replyTo m.val).resp = .okay ∧ t.dev.get F.secCmdStatOp = op ∧ t.dev.get F.secCmdStatResult = res
    ∧ t.dev.on F.secCmdStatBusy = false ∧ t.dev.on F.secEvtCmdDone = true ∧ t.flash = s.flash

/-- The state that a command of SEC.CMD leaves. -/
def State.secDone (s : State) (m : Master) (go : Chip → Chip) : State := s.run (fun c => c.secRow m go)

theorem secDone_leaves {go : Chip → Chip} {e : Chip} (hw : s.mayWrite m.val Reg.secCmd) (hgo : go s.chip = e) :
    WriteLeaves m.val .okay e (s.secDone m go) :=
  chipWrite_leaves (op := fun x => (go x, .okay)) hw (by rw [← hgo])

theorem WriteLeaves.done {e : Chip} {t : State} {op res : Nat} (h : WriteLeaves m.val .okay e t) (he : e.dev.SecEnded op res) (hflash : e.flash = s.flash) :
    SecDone m s t op res :=
  have ht := he.of_words h.words
  ⟨h.reply, ht.op, ht.result, ht.busy, ht.evt, h.flash.trans hflash⟩

/-- A command that ends with `c` of the chip, whose log follows. -/
theorem WriteLeaves.logged {c e : Chip} {t : State} {op res : Nat} (h : WriteLeaves m.val .okay e t) (hk : c.DebugKeeps e)
    (hc : c.dev.SecEnded op res) (hflash : c.flash = s.flash) :
    SecDone m s t op res ∧ t.dev.mgt.otp = c.dev.mgt.otp ∧ t.dev.mgt.session = c.dev.mgt.session ∧ t.dev.mgt.nonce = c.dev.mgt.nonce
      ∧ t.dev.modes = c.dev.modes :=
  ⟨h.done (hk.ended hc) (hk.flash.trans hflash), (congrArg Mgt.otp h.mgt).trans hk.otp, (congrArg Mgt.session h.mgt).trans hk.session,
    (congrArg Mgt.nonce h.mgt).trans hk.nonce, h.modes.trans hk.modes⟩

/-- The log of a command, and of its fuses. -/
theorem Chip.commandLogged_keeps (c : Chip) (b : Bool) : c.DebugKeeps (((c.log 7 true).when b (fun x => x.log 7 true)).debugUpdate) :=
  ((Chip.DebugKeeps.of_log (c.log_keeps 7 true)).trans (.of_log ((c.log 7 true).when_log_keeps b 7 true))).trans (Chip.debugUpdate_shows _).1

variable (hw : s.mayWrite m.val Reg.secCmd)

include hw

theorem getNonce_shows : ∃ t, exec (.getNonce m) s = .next t ∧ SecDone m s t secGetNonce secOk ∧ t.dev.mgt.nonce = true
    ∧ t.dev.mgt.otp = s.dev.mgt.otp ∧ t.mem = s.mem := by
  obtain ⟨x, hx⟩ : ∃ x, x = s.dev.each 8 (fun e i => e.freeWord.2.setWord (Reg.secNonce + 4 * i) e.freeWord.1) := ⟨_, rfl⟩
  have hmgt : x.mgt = s.dev.mgt := by
    rw [hx]
    exact (Dev.Only.each (S := [.fresh, .words]) 8 fun e i => (e.only_freeWord.mono (by decide)).step (Dev.only_setWord _ _ _)).mgt
  obtain ⟨y, hy⟩ : ∃ y, y = (x.setMgt { x.mgt with nonce := true }).secEnd secGetNonce secOk := ⟨_, rfl⟩
  have hgo : s.dev.goNonce = y := by rw [hy, hx, Dev.goNonce]
  have hended : y.SecEnded secGetNonce secOk := hy ▸ Dev.secEnd_ended _ (by decide) (by decide)
  have hymgt : y.mgt = { s.dev.mgt with nonce := true } := by
    rw [hy, ← hmgt]
    exact (Dev.only_secEnd _ _ _).mgt
  have hleaves := secDone_leaves (go := fun x => x.on Dev.goNonce) hw (e := ⟨y, s.mem, s.flash⟩) (by rw [← hgo]; rfl)
  have hexec : exec (.getNonce m) s = .next (s.secDone m (fun x => x.on Dev.goNonce)) := rfl
  exact ⟨_, hexec, hleaves.done hended rfl, by rw [hleaves.mgt, hymgt], by rw [hleaves.mgt, hymgt], hleaves.mem⟩

theorem unlock_shows : let r := if s.dev.lifecycle ≠ lcLocked then secState
      else s.dev.tokenCheck unlockMagic (fun l => l == 1 || l == 2) (s.dev.imageKey hdrCustKey)
    ∃ t, exec (.unlock m) s = .next t ∧ SecDone m s t secUnlock r ∧ t.dev.mgt.nonce = false ∧ t.dev.mgt.otp = s.dev.mgt.otp
      ∧ (r = secOk → t.dev.lifecycle = lcSession ∧ t.dev.mgt.session = some (s.dev.byteAt (Reg.secBuf + 0x34)).toNat)
      ∧ (r ≠ secOk → t.dev.mgt.session = s.dev.mgt.session) := by
  intro r
  have hr : r < 16 := by
    unfold r
    split
    · decide
    · exact s.dev.tokenCheck_lt _ _ _
  obtain ⟨level, hlevel⟩ : ∃ level, level = (s.dev.byteAt (Reg.secBuf + 0x34)).toNat := ⟨_, rfl⟩
  obtain ⟨hended, hmgt⟩ := s.dev.unlockEnds_shows level hr
  obtain ⟨c, hc⟩ : ∃ c : Chip, c = ⟨s.dev.unlockEnds r level, s.mem, s.flash⟩ := ⟨_, rfl⟩
  have hgo : Chip.goUnlock s.chip = (c.log 7 true).debugUpdate := by
    rw [hc, hlevel, Chip.goUnlock]
    rfl
  have hcdev : c.dev = s.dev.unlockEnds r level := by rw [hc]
  have hexec : exec (.unlock m) s = .next (s.secDone m Chip.goUnlock) := rfl
  obtain ⟨hdone, hotp, hsession, hnonce, -⟩ := (secDone_leaves hw hgo).logged
    ((Chip.DebugKeeps.of_log (c.log_keeps 7 true)).trans (Chip.debugUpdate_shows _).1) (hcdev ▸ hended) (by rw [hc])
  rw [hcdev, hmgt] at hotp hsession hnonce
  obtain ⟨t, ht⟩ : ∃ t, t = s.secDone m Chip.goUnlock := ⟨_, rfl⟩
  rw [← ht] at hexec hdone hotp hsession hnonce
  refine ⟨t, hexec, hdone, hnonce, hotp, fun hok => ?_, fun hno => hsession.trans (if_neg hno)⟩
  have hlocked : s.dev.lifecycle = lcLocked := by
    refine Decidable.byContradiction fun h => ?_
    have hstate : r = secState := if_pos h
    exact absurd (hstate.symm.trans hok) (by decide)
  have hsome : t.dev.mgt.session = some level := hsession.trans (if_pos hok)
  obtain ⟨hgone, hlock⟩ := Dev.locked_fuses hlocked
  refine ⟨?_, by rw [hsome, hlevel]⟩
  rw [Dev.lifecycle]
  rw [hotp, hsome, if_neg (by rw [hgone]; decide), if_pos hlock]
  rfl

theorem provision_shows : let h := s.dev.secBuf 0 32
    let ok := match s.dev.mgt.image with | some (_, hdr) => custSigned hdr h | none => false
    let r := if s.dev.grants .power = false then secPower else if s.dev.lifecycle ≠ lcBlank then secState
      else if ok then secOk else secSig
    ∃ t, exec (.provision m) s = .next t ∧ SecDone m s t secProvision r
      ∧ t.dev.mgt.otp = (if r = secOk then { s.dev.mgt.otp with custHash := some h, provisioned := true } else s.dev.mgt.otp) := by
  intro h ok r
  have hr : r < 16 := by
    unfold r
    split
    · decide
    · split
      · decide
      · split <;> decide
  obtain ⟨hended, hmgt⟩ := s.dev.burnEnds_shows (op := secProvision) (fun o => { o with custHash := some h, provisioned := true }) (by decide) hr
  obtain ⟨c, hc⟩ : ∃ c : Chip, c = ⟨s.dev.burnEnds secProvision r (fun o => { o with custHash := some h, provisioned := true }), s.mem, s.flash⟩ := ⟨_, rfl⟩
  have hgo : Chip.goProvision s.chip = ((c.log 7 true).when (r == secOk) (fun x => x.log 7 true)).debugUpdate := by
    have hpower : (if (!s.dev.grants .power) = true then secPower else if s.dev.lifecycle ≠ lcBlank then secState else if ok then secOk else secSig) = r := by
      simp only [r, Bool.not_eq_true']
    rw [hc, ← hpower, Chip.goProvision]
    rfl
  have hcdev : c.dev = s.dev.burnEnds secProvision r (fun o => { o with custHash := some h, provisioned := true }) := by rw [hc]
  have hexec : exec (.provision m) s = .next (s.secDone m Chip.goProvision) := rfl
  obtain ⟨hdone, hotp, -, -, -⟩ := (secDone_leaves hw hgo).logged (c.commandLogged_keeps _) (hcdev ▸ hended) (by rw [hc])
  rw [hcdev, hmgt] at hotp
  exact ⟨_, hexec, hdone, hotp⟩

theorem lock_shows : let r := if s.dev.grants .power = false then secPower else if s.dev.lifecycle ≠ lcProvisioned then secState else secOk
    ∃ t, exec (.lock m) s = .next t ∧ SecDone m s t secLock r
      ∧ t.dev.mgt.otp = (if r = secOk then { s.dev.mgt.otp with locked := true } else s.dev.mgt.otp) := by
  intro r
  have hr : r < 16 := by
    unfold r
    split
    · decide
    · split <;> decide
  obtain ⟨hended, hmgt⟩ := s.dev.burnEnds_shows (op := secLock) (fun o => { o with locked := true }) (by decide) hr
  obtain ⟨c, hc⟩ : ∃ c : Chip, c = ⟨s.dev.burnEnds secLock r (fun o => { o with locked := true }), s.mem, s.flash⟩ := ⟨_, rfl⟩
  have hgo : Chip.goLock s.chip = ((c.log 7 true).when (r == secOk) (fun x => x.log 7 true)).debugUpdate := by
    have hpower : (if (!s.dev.grants .power) = true then secPower else if s.dev.lifecycle ≠ lcProvisioned then secState else secOk) = r := by
      simp only [r, Bool.not_eq_true']
    rw [hc, ← hpower, Chip.goLock]
    rfl
  have hcdev : c.dev = s.dev.burnEnds secLock r (fun o => { o with locked := true }) := by rw [hc]
  have hexec : exec (.lock m) s = .next (s.secDone m Chip.goLock) := rfl
  obtain ⟨hdone, hotp, -, -, -⟩ := (secDone_leaves hw hgo).logged (c.commandLogged_keeps _) (hcdev ▸ hended) (by rw [hc])
  rw [hcdev, hmgt] at hotp
  exact ⟨_, hexec, hdone, hotp⟩

theorem decommission_shows : let r := s.dev.decommissionResult
    ∃ t, exec (.decommission m) s = .next t ∧ SecDone m s t secDecommission r ∧ t.dev.mgt.nonce = false
      ∧ t.dev.mgt.otp = (if r = secOk then { s.dev.mgt.otp with gone := true, keyBurnt := true } else s.dev.mgt.otp)
      ∧ (r = secOk → t.dev.lifecycle = lcGone ∧ t.dev.modes.warmRequested = true) := by
  intro r
  obtain ⟨hended, hnone, hfuses, hwarm⟩ := s.dev.decommissionEnds_shows s.dev.decommissionResult_lt
  obtain ⟨c, hc⟩ : ∃ c : Chip, c = ⟨s.dev.decommissionEnds r, s.mem, s.flash⟩ := ⟨_, rfl⟩
  have hgo : Chip.goDecommission s.chip = ((c.log 7 true).when (r == secOk) (fun x => x.log 7 true)).debugUpdate := by
    rw [hc, Chip.goDecommission]
    rfl
  have hcdev : c.dev = s.dev.decommissionEnds r := by rw [hc]
  have hexec : exec (.decommission m) s = .next (s.secDone m Chip.goDecommission) := rfl
  obtain ⟨hdone, hotp, -, hnonce, hmodes⟩ := (secDone_leaves hw hgo).logged (c.commandLogged_keeps _) (hcdev ▸ hended) (by rw [hc])
  rw [hcdev] at hotp hnonce hmodes
  refine ⟨_, hexec, hdone, hnonce.trans hnone, hotp.trans hfuses, fun hok => ⟨?_, (congrArg Modes.warmRequested hmodes).trans (hwarm hok)⟩⟩
  have hgone : (s.secDone m Chip.goDecommission).dev.mgt.otp.gone = true := by
    rw [hotp, hfuses, if_pos hok]
  rw [Dev.lifecycle]
  exact if_pos hgone

end

end Sys2Proof.Machine

/-! Reports, measurements, the debug request and the test access port (R589, R590, R596 to R600). -/

namespace Sys2Proof.Machine

set_option Elab.async false -- a proof at a time, within the memory of a check

/-! A hash has 32 bytes (R588) -/

theorem shaRound_length (h : List W32) (kw : W32) : (shaRound h kw).length = h.length := by
  unfold shaRound
  split
  · rfl
  · rfl

theorem shaRounds_length (l : List W32) (h : List W32) : (l.foldl shaRound h).length = h.length := by
  induction l generalizing h with
  | nil => rfl
  | cons kw l ih => rw [List.foldl_cons, ih, shaRound_length]

theorem shaBlock_length (h block : List W32) : (shaBlock h block).length = h.length := by
  rw [shaBlock, List.length_zipWith, shaRounds_length, Nat.min_self]

theorem shaBlocks_length (n : Nat) (h l : List W32) : (shaBlocks n h l).length = h.length := by
  induction n generalizing h l with
  | zero => rfl
  | succ n ih =>
    rw [shaBlocks]
    split
    · rfl
    · rw [ih, shaBlock_length]

theorem shaInit_length : shaInit.length = 8 := by decide +kernel

theorem sha256_length (m : List Byte) : (sha256 m).length = 32 := by
  unfold sha256
  extract_lets w
  rw [List.length_flatMap]
  have hlen := shaBlocks_length w.length shaInit w
  rw [shaInit_length] at hlen
  generalize shaBlocks w.length shaInit w = l at hlen
  have hsum : (l.map (fun _ => 4)).sum = 4 * l.length := by
    rw [List.map_const', List.sum_replicate, smul_eq_mul, Nat.mul_comm]
  exact hsum.trans (by rw [hlen])

theorem deviceId_length : deviceId.length = 16 := by
  rw [deviceId, List.length_take, sha256_length]
  rfl

/-! Bytes and words that are written in a row -/

section
variable (d : Dev)

theorem Dev.setBytesAt_append (a : Nat) (l k : List Byte) : d.setBytesAt a (l ++ k) = (d.setBytesAt a l).setBytesAt (a + l.length) k := by
  induction l generalizing a d with
  | nil => rfl
  | cons b l ih =>
    rw [List.cons_append, Dev.setBytesAt_cons, Dev.setBytesAt_cons, ih, List.length_cons, Nat.add_assoc, Nat.add_comm 1]

theorem Dev.bytesAt_setBytesAt_other (a : Nat) (l : List Byte) {c n : Nat} (h : c + n ≤ a ∨ a + l.length ≤ c) :
    (d.setBytesAt a l).bytesAt c n = d.bytesAt c n := by
  refine List.map_congr_left fun i hi => d.byteAt_setBytesAt_other a l ?_
  have hlt := List.mem_range.1 hi
  omega

/-- A part of the bytes that were written. -/
theorem Dev.bytesAt_setBytesAt_part (a : Nat) (l k r : List Byte) :
    (d.setBytesAt a (l ++ (k ++ r))).bytesAt (a + l.length) k.length = k := by
  rw [Dev.setBytesAt_append, Dev.setBytesAt_append, Dev.bytesAt_setBytesAt_other _ _ _ (.inl (Nat.le_refl _))]
  exact Dev.bytesAt_setBytesAt _ _ _

/-- Words written in a row. -/
theorem Dev.setWords_shows (a : Nat) (f : Nat → W32) (n : Nat) :
    (∀ i, i < n → (d.each n (fun e i => e.setWord (a + 4 * i) (f i))).word (a + 4 * i) = f i)
      ∧ (∀ b, (∀ i, i < n → a + 4 * i ≠ b) → (d.each n (fun e i => e.setWord (a + 4 * i) (f i))).word b = d.word b) := by
  induction n with
  | zero => exact ⟨fun i hi => absurd hi (Nat.not_lt_zero i), fun _ _ => rfl⟩
  | succ n ih =>
    obtain ⟨hsame, hother⟩ := ih
    rw [Dev.each_succ]
    refine ⟨fun i hi => ?_, fun b hb => ?_⟩
    · by_cases hin : i = n
      · rw [hin]
        exact Dev.word_setWord_same _ _ _
      · exact (Dev.word_setWord_other _ _ (by omega)).trans (hsame i (by omega))
    · exact (Dev.word_setWord_other _ _ (hb n (Nat.lt_succ_self n)).symm).trans (hother b fun i hi => hb i (by omega))

theorem wordBytes_wordFrom_row (n : Nat) : ∀ v : List Byte, v.length = 4 * n →
    (List.range n).flatMap (fun i => wordBytes (wordFrom v (4 * i))) = v := by
  induction n with
  | zero =>
    intro v hv
    rw [List.eq_nil_of_length_eq_zero hv]
    rfl
  | succ n ih =>
    intro v hv
    match v, hv with
    | a :: b :: c :: e :: v, hv =>
      have hlen : v.length = 4 * n := by
        simp only [List.length_cons] at hv
        omega
      rw [List.range_succ_eq_map, List.flatMap_cons, List.flatMap_map]
      have hrest : (List.range n).flatMap (fun i => wordBytes (wordFrom (a :: b :: c :: e :: v) (4 * (i + 1)))) = v := ih v hlen
      have hfirst : wordBytes (wordFrom (a :: b :: c :: e :: v) (4 * 0)) = [a, b, c, e] := byteOf_wordOfBytes a b c e
      rw [hfirst]
      exact congrArg ([a, b, c, e] ++ ·) hrest

/-- The measurement is what was put there (R589). -/
theorem Dev.measurement_setMeasurement (v : List Byte) (hv : v.length = 32) : (d.setMeasurement v).measurement = v := by
  obtain ⟨hsame, -⟩ := d.setWords_shows Reg.secMeas (fun i => wordFrom v (4 * i)) 8
  refine Eq.trans ?_ (wordBytes_wordFrom_row 8 v hv)
  rw [Dev.measurement, Dev.setMeasurement]
  refine congrArg List.flatten (List.map_congr_left fun i hi => ?_)
  exact congrArg wordBytes (hsame i (List.mem_range.1 hi))

theorem Dev.measurement_congr {d e : Dev} (h : ∀ i, i < 8 → e.word (Reg.secMeas + 4 * i) = d.word (Reg.secMeas + 4 * i)) :
    e.measurement = d.measurement :=
  congrArg List.flatten (List.map_congr_left fun i hi => congrArg wordBytes (h i (List.mem_range.1 hi)))

/-! The report (R590) -/

/-- A report begins with its magic and, behind its length and two levels, the device ID. -/
theorem Dev.report_starts : ∃ head rest : List Byte, head.length = 4 ∧ d.report.1 = [0x41, 0x54, 0x54, 0x31] ++ (head ++ (deviceId ++ rest)) := by
  refine ⟨bytesOf 2 0xF8 ++ bytesOf 1 d.lifecycle ++ bytesOf 1 d.debugLevel, ?_⟩
  unfold Dev.report
  extract_lets o fuses free fw cap l
  refine ⟨d.secBuf 0 32 ++ bytesOf 4 Config.romVersion.toNat ++ bytesOf 1 o.rollback ++ bytesOf 1 fuses ++ [0, 0] ++ fw.1
    ++ bytesOf 1 d.shedLevel ++ [0, 0] ++ d.measurement ++ cap ++ bytesOf 8 (if d.rootValid then d.timeBase else 0), ?_, ?_⟩
  · simp only [List.length_append, bytesOf_length]
  · unfold l
    clear_value fw cap
    simp only [List.append_assoc]

theorem Dev.report_only : Dev.Only [.fresh] d d.report.2 := by
  unfold Dev.report
  extract_lets o fuses free fw cap l
  change Dev.Only [.fresh] d fw.2
  unfold fw
  split
  · exact .refl _ d
  · exact Dev.only_draws Dev.only_freeByte (List.range 37) ([], d)

end

section
variable {m : Master} {s : State} (hw : s.mayWrite m.val Reg.secCmd)

include hw

theorem attest_shows (hgrant : s.dev.grants .attest = true) :
    ∃ t, exec (.attest m) s = .next t ∧ SecDone m s t secAttest secOk ∧ t.dev.bytesAt Reg.secBuf 4 = [0x41, 0x54, 0x54, 0x31]
      ∧ t.dev.bytesAt (Reg.secBuf + 8) 16 = deviceId ∧ t.dev.mgt = s.dev.mgt ∧ t.mem = s.mem := by
  obtain ⟨head, rest, hhead, hreport⟩ := s.dev.report_starts
  have honly := s.dev.report_only
  obtain ⟨x, hx⟩ : ∃ x, x = s.dev.report := ⟨_, rfl⟩
  rw [← hx] at hreport honly
  obtain ⟨b, hb⟩ : ∃ b, b = x.2.setBytesAt Reg.secBuf (x.1 ++ signed x.1) := ⟨_, rfl⟩
  obtain ⟨y, hy⟩ : ∃ y, y = b.secEnd secAttest secOk := ⟨_, rfl⟩
  have hgo : s.dev.goAttest = y := by rw [hy, hb, hx, Dev.goAttest, if_pos hgrant]
  have hended : y.SecEnded secAttest secOk := hy ▸ Dev.secEnd_ended _ (by decide) (by decide)
  have hmgt : y.mgt = s.dev.mgt := by
    rw [hy, hb]
    exact (Dev.only_secEnd _ _ _).mgt.trans ((Dev.only_setBytesAt _ _ _).mgt.trans honly.mgt)
  have hbytes {a n : Nat} (ha : 0x100070200 ≤ a) : y.bytesAt a n = b.bytesAt a n := by
    rw [hy]
    refine Dev.bytesAt_congr fun i _ => b.wordsBut_secEnd _ _ _ ?_
    simp only [List.mem_cons, List.not_mem_nil, or_false, Reg.secCmdStat, Reg.secEvt]
    omega
  have hmagic : b.bytesAt Reg.secBuf 4 = [0x41, 0x54, 0x54, 0x31] := by
    rw [hb, hreport, List.append_assoc]
    exact Dev.bytesAt_setBytesAt_part _ Reg.secBuf [] [0x41, 0x54, 0x54, 0x31] _
  have hid : b.bytesAt (Reg.secBuf + 8) 16 = deviceId := by
    have hpart := Dev.bytesAt_setBytesAt_part x.2 Reg.secBuf ([0x41, 0x54, 0x54, 0x31] ++ head) deviceId (rest ++ signed x.1)
    have hlen : ([0x41, 0x54, 0x54, 0x31] ++ head : List Byte).length = 8 := by rw [List.length_append, hhead]; rfl
    have hall : x.1 ++ signed x.1 = ([0x41, 0x54, 0x54, 0x31] ++ head) ++ (deviceId ++ (rest ++ signed x.1)) := by
      generalize signed x.1 = sig
      rw [hreport]
      simp only [List.append_assoc]
    rw [hlen, deviceId_length, ← hall, ← hb] at hpart
    exact hpart
  have hleaves := secDone_leaves (go := fun x => x.on Dev.goAttest) hw (e := ⟨y, s.mem, s.flash⟩) (by rw [← hgo]; rfl)
  have hexec : exec (.attest m) s = .next (s.secDone m (fun x => x.on Dev.goAttest)) := rfl
  obtain ⟨t, ht⟩ : ∃ t, t = s.secDone m (fun x => x.on Dev.goAttest) := ⟨_, rfl⟩
  rw [← ht] at hleaves hexec
  have htb (a n : Nat) : t.dev.bytesAt a n = y.bytesAt a n :=
    Dev.bytesAt_congr fun i _ => by rw [Dev.word, hleaves.words, ← Dev.word]
  exact ⟨t, hexec, hleaves.done hended rfl, (htb _ _).trans ((hbytes (Nat.le_refl _)).trans hmagic),
    (htb _ _).trans ((hbytes (Nat.le_add_right _ _)).trans hid), hleaves.mgt.trans hmgt, hleaves.mem⟩

theorem attest_refused (hgrant : s.dev.grants .attest = false) :
    ∃ t, exec (.attest m) s = .next t ∧ SecDone m s t secAttest secState ∧ t.dev.mgt = s.dev.mgt ∧ t.mem = s.mem := by
  obtain ⟨y, hy⟩ : ∃ y, y = s.dev.secEnd secAttest secState := ⟨_, rfl⟩
  have hgo : s.dev.goAttest = y := by
    rw [hy, Dev.goAttest, hgrant]
    rfl
  have hended : y.SecEnded secAttest secState := hy ▸ Dev.secEnd_ended _ (by decide) (by decide)
  have hmgt : y.mgt = s.dev.mgt := hy ▸ (Dev.only_secEnd _ _ _).mgt
  have hleaves := secDone_leaves (go := fun x => x.on Dev.goAttest) hw (e := ⟨y, s.mem, s.flash⟩) (by rw [← hgo]; rfl)
  have hexec : exec (.attest m) s = .next (s.secDone m (fun x => x.on Dev.goAttest)) := rfl
  exact ⟨_, hexec, hleaves.done hended rfl, hleaves.mgt.trans hmgt, hleaves.mem⟩

theorem extend_shows : ∃ t, exec (.extend m) s = .next t ∧ SecDone m s t secExtend secOk ∧ t.dev.mgt = s.dev.mgt
    ∧ t.dev.measurement = sha256 (s.dev.measurement ++ s.dev.secBuf 0 32) := by
  obtain ⟨v, hv⟩ : ∃ v, v = sha256 (s.dev.measurement ++ s.dev.secBuf 0 32) := ⟨_, rfl⟩
  have hlen : v.length = 32 := hv ▸ sha256_length _
  obtain ⟨c, hc⟩ : ∃ c : Chip, c = ⟨s.dev.setMeasurement v, s.mem, s.flash⟩ := ⟨_, rfl⟩
  obtain ⟨e, he⟩ : ∃ e : Chip, e = (c.log 7 true).on (fun d => d.secEnd secExtend secOk) := ⟨_, rfl⟩
  have hgo : Chip.goExtend s.chip = e := by
    rw [he, hc, hv, Chip.goExtend, Chip.extend]
    rfl
  have hlog := c.log_keeps 7 true
  obtain ⟨x, hx⟩ : ∃ x, x = c.log 7 true := ⟨_, rfl⟩
  rw [← hx] at hlog he
  have hedev : e.dev = x.dev.secEnd secExtend secOk := by rw [he]; rfl
  have hended : e.dev.SecEnded secExtend secOk := hedev ▸ Dev.secEnd_ended _ (by decide) (by decide)
  have hcdev : c.dev = s.dev.setMeasurement v := by rw [hc]
  have hmgt : e.dev.mgt = s.dev.mgt := by
    rw [hedev]
    refine (Dev.only_secEnd _ _ _).mgt.trans (hlog.only.mgt.trans ?_)
    rw [hcdev]
    exact (Dev.Only.each (S := [.words]) 8 fun y i => y.only_setWord _ _).mgt
  have hmeas : e.dev.measurement = v := by
    have hkept : e.dev.measurement = c.dev.measurement := Dev.measurement_congr fun i hi => by
      rw [hedev]
      refine (x.dev.wordsBut_secEnd _ _ _ ?_).trans (hlog.words _ ?_)
      · simp only [List.mem_cons, List.not_mem_nil, or_false, Reg.secMeas, Reg.secCmdStat, Reg.secEvt]
        omega
      · simp only [List.mem_cons, List.not_mem_nil, or_false, Reg.secMeas, Reg.mgtLogSeq]
        omega
    rw [hkept, hcdev]
    exact s.dev.measurement_setMeasurement v hlen
  have hflash : e.flash = s.flash := by
    rw [he]
    exact hlog.flash.trans (by rw [hc])
  have hleaves := secDone_leaves hw hgo
  have hexec : exec (.extend m) s = .next (s.secDone m Chip.goExtend) := rfl
  obtain ⟨t, ht⟩ : ∃ t, t = s.secDone m Chip.goExtend := ⟨_, rfl⟩
  rw [← ht] at hleaves hexec
  refine ⟨t, hexec, hleaves.done hended hflash, hleaves.mgt.trans hmgt, ?_⟩
  rw [← hv, ← hmeas]
  exact Dev.measurement_congr fun i _ => by rw [Dev.word, hleaves.words, ← Dev.word]

end

/-! The debug request and the test access port (R597 to R600) -/

section
variable {m : Master} {s : State} {data : W32} (hw : s.mayWrite m.val Reg.secDbg)

include hw

theorem dbgReq_host (hm : m.val = 0) :
    ∃ t, exec (.dbgReqWrite m data) s = .next t ∧ (t.dev.replyTo m.val).resp = .okay
      ∧ t.dev.get F.secDbgReq = (s.dev.regWrite Reg.secDbg data).get F.secDbgReq
      ∧ t.dev.get F.secDbgEff = Nat.min (t.dev.get F.secDbgReq) t.dev.debugMax ∧ t.dev.debugMax = s.dev.debugMax
      ∧ t.dev.mgt.otp = s.dev.mgt.otp ∧ t.flash = s.flash := by
  obtain ⟨c, hc⟩ : ∃ c : Chip, c = ⟨s.dev.regWrite Reg.secDbg data, s.mem, s.flash⟩ := ⟨_, rfl⟩
  obtain ⟨hk, heff⟩ := c.debugUpdate_shows
  obtain ⟨e, he⟩ : ∃ e, e = c.debugUpdate := ⟨_, rfl⟩
  rw [← he] at hk heff
  have hop : (fun x : Chip => x.dbgWrite m.val data) s.chip = (e, .okay) := by
    change s.chip.dbgWrite m.val data = _
    rw [Chip.dbgWrite, if_pos hm, he, hc]
    rfl
  have hleaves := chipWrite_leaves (op := fun x : Chip => x.dbgWrite m.val data) hw hop
  have hexec : exec (.dbgReqWrite m data) s = .next (s.run (fun c => c.write m.val Reg.secDbg (fun x => x.dbgWrite m.val data))) := rfl
  obtain ⟨t, ht⟩ : ∃ t, t = s.run (fun c => c.write m.val Reg.secDbg (fun x => x.dbgWrite m.val data)) := ⟨_, rfl⟩
  rw [← ht] at hleaves hexec
  have hcmgt : c.dev.mgt = s.dev.mgt := by
    rw [hc]
    change (s.dev.regWrite Reg.secDbg data).mgt = _
    rw [(s.dev.regWrite_wordsOnly _ data).1]
  have hotp : t.dev.mgt.otp = s.dev.mgt.otp := by rw [hleaves.mgt, hk.otp, hcmgt]
  have hsession : t.dev.mgt.session = s.dev.mgt.session := by rw [hleaves.mgt, hk.session, hcmgt]
  have hcreq : c.dev.get F.secDbgReq = (s.dev.regWrite Reg.secDbg data).get F.secDbgReq := by rw [hc]
  have hreq : t.dev.get F.secDbgReq = c.dev.get F.secDbgReq :=
    (Dev.get_of_words hleaves.words _).trans (hk.fields _ (by decide) (by decide) (by decide))
  have hmax : t.dev.debugMax = s.dev.debugMax := Dev.debugMax_congr hotp hsession
  have hcmax : c.dev.debugMax = s.dev.debugMax := Dev.debugMax_congr (by rw [hcmgt]) (by rw [hcmgt])
  refine ⟨t, hexec, hleaves.reply, hreq.trans hcreq, ?_, hmax, hotp, hleaves.flash.trans (hk.flash.trans (by rw [hc]))⟩
  rw [hmax, hreq]
  refine (Dev.get_of_words hleaves.words _).trans (heff.trans ?_)
  rw [Dev.debugLevel, hcmax]

theorem dbgReq_refused (hm : m.val ≠ 0) : ∃ t, exec (.dbgReqWrite m data) s = .next t ∧ AnsweredWords m.val .slverr [] s t := by
  have hop : (fun x : Chip => x.dbgWrite m.val data) s.chip = (s.chip, .slverr) := by
    change s.chip.dbgWrite m.val data = _
    rw [Chip.dbgWrite, if_neg hm]
  have hleaves := chipWrite_leaves (op := fun x : Chip => x.dbgWrite m.val data) hw hop
  have hexec : exec (.dbgReqWrite m data) s = .next (s.run (fun c => c.write m.val Reg.secDbg (fun x => x.dbgWrite m.val data))) := rfl
  have hpending : (s.run (fun c => c.write m.val Reg.secDbg (fun x => x.dbgWrite m.val data))).pending = s.pending := rfl
  obtain ⟨t, ht⟩ : ∃ t, t = s.run (fun c => c.write m.val Reg.secDbg (fun x => x.dbgWrite m.val data)) := ⟨_, rfl⟩
  rw [← ht] at hleaves hexec hpending
  refine ⟨t, hexec, ?_, hleaves.replied, (Dev.WordsBut.refl [] s.dev).of_words hleaves.words⟩
  have hdev := hleaves.dev
  have hmem : t.mem = s.mem := hleaves.mem
  have hflash : t.flash = s.flash := hleaves.flash
  have hwords : t.dev.words = s.dev.words := hleaves.words
  obtain ⟨dev, mem, flash, pending⟩ := t
  dsimp only at hdev hmem hflash hpending hwords
  rw [hmem, hflash, hpending]
  refine congrArg (fun d => ({ s with dev := d } : State)) (hdev.trans ?_)
  dsimp only
  rw [hwords]
  rfl

end

/-- Settles O55, by the commands, the report, the debug request and the port. -/
theorem securityEngine : Obligations.SecurityEngine := by
  unfold Obligations.SecurityEngine
  refine fun s => ⟨fun m hw => ⟨getNonce_shows hw, unlock_shows hw, provision_shows hw, lock_shows hw, decommission_shows hw, attest_shows hw,
    attest_refused hw, extend_shows hw⟩, fun m data hw => ⟨dbgReq_host hw, dbgReq_refused hw⟩, fun code => ⟨_, rfl, rfl⟩, ⟨_, rfl, rfl⟩, fun htest => ?_⟩
  rw [Dev.tapActs]
  rw [if_pos htest]
  by_cases h : s.dev.mgt.tap = tapIdcode
  · rw [if_pos h, h]
    rfl
  · have hne : s.dev.mgt.tap.toNat ≠ tapIdcode := fun heq => h (BitVec.eq_of_toNat_eq heq)
    rw [if_neg hne, if_neg h]

end Sys2Proof.Machine

/-! The starts of the processor: what the fuses, a start of an image and the boot leave (R567 to R581). -/

namespace Sys2Proof.Machine

set_option Elab.async false -- a proof at a time, within the memory of a check

/-! What the boot leaves alone -/

/-- The words of the measurement. -/
abbrev measWords : List Nat := (List.range 8).map (fun i => Reg.secMeas + 4 * i)

/-- A field that is apart from those of `L`, from the measurement and from the log's count. -/
abbrev ApartFrom (L : List Field) (f : Field) : Prop := (∀ g ∈ L, g.apart f = true) ∧ f.off ∉ Reg.mgtLogSeq :: measWords

/-- The registers are kept but for the fields of `L`, the measurement and the log's count; the firmware command, the halted hart and
the fuses of DECOMMISSION too. -/
structure Chip.BootKeeps (L : List Field) (c e : Chip) : Prop where
  fields : ∀ f : Field, ApartFrom L f → e.dev.get f = c.dev.get f
  fw : e.dev.mgt.fw = c.dev.mgt.fw
  halted : e.dev.mgt.halted = c.dev.mgt.halted
  gone : e.dev.mgt.otp.gone = c.dev.mgt.otp.gone

/-- The same, and the image and its trial. -/
structure Chip.FuseKeeps (L : List Field) (c e : Chip) : Prop extends Chip.BootKeeps L c e where
  image : e.dev.mgt.image = c.dev.mgt.image
  trial : e.dev.mgt.trialAt = c.dev.mgt.trialAt

section
variable {L K : List Field} {c e x : Chip}

theorem Chip.BootKeeps.refl (L : List Field) (c : Chip) : c.BootKeeps L c := ⟨fun _ _ => rfl, rfl, rfl, rfl⟩

theorem Chip.BootKeeps.trans (h : c.BootKeeps L e) (h' : e.BootKeeps L x) : c.BootKeeps L x :=
  ⟨fun f hf => (h'.fields f hf).trans (h.fields f hf), h'.fw.trans h.fw, h'.halted.trans h.halted, h'.gone.trans h.gone⟩

theorem Chip.BootKeeps.mono (h : c.BootKeeps L e) (hL : L ⊆ K) : c.BootKeeps K e :=
  ⟨fun f hf => h.fields f ⟨fun g hg => hf.1 g (hL hg), hf.2⟩, h.fw, h.halted, h.gone⟩

theorem Chip.BootKeeps.on (h : c.BootKeeps L e) {f : Field} (hf : ApartFrom L f) : e.dev.on f = c.dev.on f := Dev.on_of_get (h.fields f hf)

theorem Chip.FuseKeeps.refl (L : List Field) (c : Chip) : c.FuseKeeps L c := ⟨.refl L c, rfl, rfl⟩

theorem Chip.FuseKeeps.trans (h : c.FuseKeeps L e) (h' : e.FuseKeeps L x) : c.FuseKeeps L x :=
  ⟨h.toBootKeeps.trans h'.toBootKeeps, h'.image.trans h.image, h'.trial.trans h.trial⟩

theorem Chip.FuseKeeps.mono (h : c.FuseKeeps L e) (hL : L ⊆ K) : c.FuseKeeps K e := ⟨h.toBootKeeps.mono hL, h.image, h.trial⟩

/-- A field of `L` is written. -/
theorem Dev.get_put_listed {d : Dev} {g f : Field} (hg : g ∈ L) (v : Nat) (hf : ApartFrom L f) : (d.put g v).get f = d.get f :=
  Dev.get_put_of_apart _ v (hf.1 g hg)

theorem Chip.FuseKeeps.put (h : c.FuseKeeps L e) {g : Field} (hg : g ∈ L) (v : Nat) : c.FuseKeeps L { e with dev := e.dev.put g v } :=
  h.trans ⟨⟨fun _ hf => Dev.get_put_listed hg v hf, rfl, rfl, rfl⟩, rfl, rfl⟩

theorem Chip.LogKeeps.fuse (h : c.LogKeeps e) : c.FuseKeeps L e :=
  ⟨⟨fun _ hf => h.words.get (fun hmem => hf.2 (List.mem_cons.2 (.inl (List.mem_singleton.1 hmem)))), congrArg Mgt.fw h.only.mgt,
    congrArg Mgt.halted h.only.mgt, congrArg (fun m : Mgt => m.otp.gone) h.only.mgt⟩, congrArg Mgt.image h.only.mgt, congrArg Mgt.trialAt h.only.mgt⟩

theorem Chip.log_fuse (c : Chip) (p : Nat) (sec : Bool) : c.FuseKeeps L (c.log p sec) := (c.log_keeps p sec).fuse

/-! The measurement, the fuses and the boot record (R572, R580, R589) -/

theorem Chip.setMeasurement_keeps (c : Chip) (v : List Byte) : c.FuseKeeps L { c with dev := c.dev.setMeasurement v } := by
  have hmgt : (c.dev.setMeasurement v).mgt = c.dev.mgt := (Dev.Only.each (S := [.words]) 8 fun y i => y.only_setWord _ _).mgt
  obtain ⟨-, hother⟩ := c.dev.setWords_shows Reg.secMeas (fun i => wordFrom v (4 * i)) 8
  obtain ⟨y, hy⟩ : ∃ y, y = c.dev.setMeasurement v := ⟨_, rfl⟩
  rw [Dev.setMeasurement] at hy
  rw [← hy] at hother
  rw [Dev.setMeasurement, ← hy] at hmgt
  rw [Dev.setMeasurement, ← hy]
  refine ⟨⟨fun f hf => ?_, congrArg Mgt.fw hmgt, congrArg Mgt.halted hmgt, congrArg (fun m : Mgt => m.otp.gone) hmgt⟩, congrArg Mgt.image hmgt,
    congrArg Mgt.trialAt hmgt⟩
  have hword : y.word f.off = c.dev.word f.off := hother f.off fun i hi heq =>
    hf.2 (List.mem_cons.2 (.inr (List.mem_map.2 ⟨i, List.mem_range.2 hi, heq⟩)))
  change y.get f = c.dev.get f
  rw [Dev.get, hword, ← Dev.get]

theorem Chip.extend_keeps (c : Chip) (v : List Byte) : c.FuseKeeps L (c.extend v) := by
  rw [Chip.extend]
  exact (c.setMeasurement_keeps (L := L) (sha256 (c.dev.measurement ++ v))).trans (Chip.log_fuse _ _ _)

theorem Chip.logs_keep (l : List Nat) (c : Chip) : c.FuseKeeps L (l.foldl (fun x _ => x.log 7 true) c) := by
  induction l generalizing c with
  | nil => exact .refl L c
  | cons a l ih =>
    rw [List.foldl_cons]
    exact (c.log_fuse 7 true).trans (ih (c.log 7 true))

/-- The fields that show fuses. -/
abbrev fuseFields : List Field := [F.mgtFwStatFusePend, F.secEvtFuse]

theorem Chip.burnFuses_keeps (c : Chip) : c.FuseKeeps fuseFields c.burnFuses := by
  unfold Chip.burnFuses
  extract_lets o due c1
  split
  · exact (Chip.FuseKeeps.refl _ c).put (.head _) 0
  · split
    · have hc1 : c.FuseKeeps fuseFields c1 := by
        have hotp : c.FuseKeeps fuseFields { c with dev := c.dev.setMgt { c.dev.mgt with otp := { o with rollback := o.rollback + due } } } :=
          ⟨⟨fun _ _ => rfl, rfl, rfl, rfl⟩, rfl, rfl⟩
        exact (hotp.put (.head _) 0).put (.tail _ (.head _)) 1
      clear_value c1
      exact hc1.trans (Chip.logs_keep _ c1)
    · exact (Chip.FuseKeeps.refl _ c).put (.head _) 1

theorem Chip.fusesFor_keeps (c : Chip) (r : Nat) : c.FuseKeeps fuseFields (c.fusesFor r) := by
  rw [Chip.fusesFor]
  have hset : c.FuseKeeps fuseFields (c.on (fun d => d.setMgt { d.mgt with fuseTarget := Nat.max d.mgt.fuseTarget (Nat.min r 128) })) :=
    ⟨⟨fun _ _ => rfl, rfl, rfl, rfl⟩, rfl, rfl⟩
  generalize c.on (fun d => d.setMgt { d.mgt with fuseTarget := Nat.max d.mgt.fuseTarget (Nat.min r 128) }) = y at hset
  exact hset.trans y.burnFuses_keeps

/-- The fields that show the boot record. -/
abbrev slotFields : List Field := [F.mgtBootStatStateA, F.mgtBootStatStateB]

theorem Chip.showSlots_keeps (c : Chip) (r : BootRec) (flash : List Host.Cell) :
    c.FuseKeeps slotFields { c with dev := c.dev.showSlots r, flash := flash } := by
  have hmgt : (c.dev.showSlots r).mgt = c.dev.mgt := ((c.dev.only_put _ _).step (Dev.only_put _ _ _)).mgt
  exact ⟨⟨fun _ hf => (Dev.get_put_listed (.tail _ (.head _)) _ hf).trans (Dev.get_put_listed (.head _) _ hf), by rw [hmgt], by rw [hmgt], by rw [hmgt]⟩,
    by rw [hmgt], by rw [hmgt]⟩

theorem Chip.writeRecord_keeps (c : Chip) (r : BootRec) : c.FuseKeeps slotFields (c.writeRecord r) := by
  rw [Chip.writeRecord]
  exact c.showSlots_keeps _ _

/-! The start of an image (R574) -/

/-- The fields that a start of an image writes. -/
abbrev startFields : List Field :=
  [F.mgtBootStatState, F.mgtBootStatSlot, F.mgtBootStatRecovered, F.mgtFwVerVersion, F.mgtHealthTrial, F.mgtHealthOk, F.devBootctlRemap,
   F.mgtFwStatFusePend, F.secEvtFuse]

/-- The device that an image starts on, before it is measured. -/
def Dev.imageOn (d : Dev) (h : List Byte) (slot : Nat) (trial : Bool) : Dev :=
  ((((((((d.setMgt { d.mgt with image := some (slot, h), pmp := romPmp :: haldynPmp, trialAt := if trial then some d.now else none }).put F.mgtBootStatState bootRunning).put F.mgtBootStatSlot (if slot = 1 then 1 else 0)).put
    F.mgtBootStatRecovered (if slot = 2 then 1 else 0)).put F.mgtFwVerVersion (hdrVersion h)).put F.mgtHealthTrial (bitOf trial)).lower
    F.mgtHealthOk).raise F.devBootctlRemap)

/-- What shows of an image that started. -/
structure Dev.ImageOn (d : Dev) (h : List Byte) (slot : Nat) : Prop where
  state : d.bootState = bootRunning
  recovered : d.on F.mgtBootStatRecovered = decide (slot = 2)
  image : d.mgt.image = some (slot, h)

theorem Dev.imageOn_mgt (d : Dev) (h : List Byte) (slot : Nat) (trial : Bool) : (d.imageOn h slot trial).mgt =
    { d.mgt with image := some (slot, h), pmp := romPmp :: haldynPmp, trialAt := if trial then some d.now else none } := by
  rw [Dev.imageOn]
  exact (((((((Dev.only_put _ _ _).step (Dev.only_put _ _ _)).step (Dev.only_put _ _ _)).step (Dev.only_put _ _ _)).step (Dev.only_put _ _ _)).step
    (Dev.only_lower _ _)).step (Dev.only_raise _ _)).mgt

theorem Chip.imageOn_keeps (c : Chip) (h : List Byte) (slot : Nat) (trial : Bool) :
    c.BootKeeps startFields { c with dev := c.dev.imageOn h slot trial } := by
  have hmgt := c.dev.imageOn_mgt h slot trial
  refine ⟨fun f hf => ?_, by rw [hmgt], by rw [hmgt], by rw [hmgt]⟩
  have hput {d : Dev} {g : Field} (v : Nat) (hg : g ∈ startFields) : (d.put g v).get f = d.get f := Dev.get_put_listed hg v hf
  change (c.dev.imageOn h slot trial).get f = c.dev.get f
  rw [Dev.imageOn, Dev.raise, Dev.lower, hput _ (by decide), hput _ (by decide), hput _ (by decide), hput _ (by decide), hput _ (by decide),
    hput _ (by decide), hput _ (by decide)]
  rfl

theorem Dev.imageOn_on (d : Dev) (h : List Byte) (slot : Nat) (trial : Bool) : (d.imageOn h slot trial).ImageOn h slot := by
  refine ⟨?_, ?_, by rw [d.imageOn_mgt]⟩
  · rw [Dev.bootState, Dev.imageOn, Dev.raise, Dev.lower, Dev.get_put_of_apart _ _ (by decide), Dev.get_put_of_apart _ _ (by decide),
      Dev.get_put_of_apart _ _ (by decide), Dev.get_put_of_apart _ _ (by decide), Dev.get_put_of_apart _ _ (by decide),
      Dev.get_put_of_apart _ _ (by decide)]
    exact Dev.get_put_same _ _ _ (by decide)
  · have hbit : (if slot = 2 then 1 else 0) = bitOf (decide (slot = 2)) := by
      by_cases h2 : slot = 2
      · rw [if_pos h2, decide_eq_true h2]
        rfl
      · rw [if_neg h2, decide_eq_false h2]
        rfl
    rw [Dev.imageOn, Dev.raise, Dev.lower, Dev.on_put_of_apart _ _ (by decide), Dev.on_put_of_apart _ _ (by decide),
      Dev.on_put_of_apart _ _ (by decide), Dev.on_put_of_apart _ _ (by decide), hbit]
    exact Dev.on_put_bitOf _ _ _ (by decide) rfl

theorem Chip.FuseKeeps.imageOn {h : List Byte} {slot : Nat} (hk : c.FuseKeeps fuseFields e) (hc : c.dev.ImageOn h slot) : e.dev.ImageOn h slot :=
  ⟨(hk.fields _ (by decide)).trans hc.state, (hk.toBootKeeps.on (by decide)).trans hc.recovered, hk.image.trans hc.image⟩

theorem Chip.startImage_eq (c : Chip) (h : List Byte) (slot state : Nat) : c.startImage h slot state =
    if state = slotConfirmed then
      (({ c with dev := c.dev.imageOn h slot (state == slotTrialRun) } : Chip).extend (firmwareHash h)).fusesFor (hdrRollback h)
    else (({ c with dev := c.dev.imageOn h slot (state == slotTrialRun) } : Chip).extend (firmwareHash h)).burnFuses := by
  rw [Chip.startImage]
  rfl

theorem Chip.startImage_shows (c : Chip) (h : List Byte) (slot state : Nat) :
    c.BootKeeps startFields (c.startImage h slot state) ∧ (c.startImage h slot state).dev.ImageOn h slot := by
  rw [Chip.startImage_eq]
  have hkeeps := c.imageOn_keeps h slot (state == slotTrialRun)
  have hon : ({ c with dev := c.dev.imageOn h slot (state == slotTrialRun) } : Chip).dev.ImageOn h slot := c.dev.imageOn_on h slot _
  obtain ⟨x, hx⟩ : ∃ x : Chip, x = { c with dev := c.dev.imageOn h slot (state == slotTrialRun) } := ⟨_, rfl⟩
  rw [← hx] at hkeeps hon ⊢
  have hmeas := x.extend_keeps (L := fuseFields) (firmwareHash h)
  obtain ⟨y, hy⟩ : ∃ y, y = x.extend (firmwareHash h) := ⟨_, rfl⟩
  rw [← hy] at hmeas ⊢
  have hrest : x.FuseKeeps fuseFields (if state = slotConfirmed then y.fusesFor (hdrRollback h) else y.burnFuses) := by
    split
    · exact hmeas.trans (y.fusesFor_keeps _)
    · exact hmeas.trans y.burnFuses_keeps
  exact ⟨hkeeps.trans (hrest.toBootKeeps.mono (by decide)), hrest.imageOn hon⟩

end

end Sys2Proof.Machine

/-! The boot and the restarts of the processor (R567, R573, R576, R595). -/

namespace Sys2Proof.Machine

set_option Elab.async false -- a proof at a time, within the memory of a check

section
variable {c e : Chip}

/-! A start is counted (R567) -/

/-- The fields that a start writes when it is counted. -/
abbrev countFields : List Field := [F.mgtBootStatCause, F.mgtBootStatStarts, F.mgtEvtBoot]

theorem Chip.counted_shows (c : Chip) {cause : Nat} (hcause : cause < 8) : c.BootKeeps countFields (c.counted cause)
    ∧ (c.counted cause).dev.get F.mgtBootStatCause = cause
    ∧ (c.counted cause).dev.get F.mgtBootStatStarts = Nat.min (c.dev.get F.mgtBootStatStarts + 1) 65535
    ∧ (c.counted cause).dev.on F.mgtEvtBoot = true := by
  rw [Chip.counted]
  obtain ⟨x, hx⟩ : ∃ x : Dev, x = c.dev.setMgt { c.dev.mgt with wdogAt := c.dev.now } := ⟨_, rfl⟩
  obtain ⟨y, hy⟩ : ∃ y : Dev, y = ((x.put F.mgtBootStatCause cause).bump F.mgtBootStatStarts 1).raise F.mgtEvtBoot := ⟨_, rfl⟩
  have hall : c.on (fun d => (((d.setMgt { d.mgt with wdogAt := d.now }).put F.mgtBootStatCause cause).bump F.mgtBootStatStarts 1).raise
    F.mgtEvtBoot) = { c with dev := y } := by
    rw [hy, hx]
    rfl
  have hxmgt : x.mgt = { c.dev.mgt with wdogAt := c.dev.now } := by rw [hx]; rfl
  have hxget (f : Field) : x.get f = c.dev.get f := by rw [hx]; rfl
  have hymgt : y.mgt = { c.dev.mgt with wdogAt := c.dev.now } := by
    rw [hy, ← hxmgt]
    exact (((x.only_put _ _).step (Dev.only_bump _ _ _)).step (Dev.only_raise _ _)).mgt
  have hkeeps : c.BootKeeps countFields { c with dev := y } := by
    refine ⟨fun f hf => ?_, by rw [hymgt], by rw [hymgt], by rw [hymgt]⟩
    change y.get f = _
    rw [hy, ← hxget]
    exact (Dev.get_put_listed (L := countFields) (by decide) 1 hf).trans ((Dev.get_put_listed (L := countFields) (by decide) _ hf).trans
      (Dev.get_put_listed (L := countFields) (by decide) cause hf))
  have hcauseAt : y.get F.mgtBootStatCause = cause := by
    rw [hy, Dev.raise, Dev.get_put_of_apart _ _ (by decide), Dev.bump, Dev.get_put_of_apart _ _ (by decide), Dev.get_put_same _ _ _ (by decide)]
    exact Nat.mod_eq_of_lt hcause
  have hstarts : y.get F.mgtBootStatStarts = Nat.min (c.dev.get F.mgtBootStatStarts + 1) 65535 := by
    rw [hy, Dev.raise, Dev.get_put_of_apart _ _ (by decide), Dev.get_bump_same _ (by decide), Dev.get_put_of_apart _ _ (by decide), hxget]
    rfl
  have hboot : y.on F.mgtEvtBoot = true := hy ▸ Dev.on_raise _ _ (by decide) (by decide)
  rw [hall]
  have hlog := ({ c with dev := y } : Chip).log_fuse (L := countFields) 7 true
  have hsame := ({ c with dev := y } : Chip).log_fuse (L := []) 7 true
  exact ⟨hkeeps.trans hlog.toBootKeeps, (hsame.fields _ (by decide)).trans hcauseAt, (hsame.fields _ (by decide)).trans hstarts,
    (hsame.toBootKeeps.on (by decide)).trans hboot⟩

/-! The boot ROM (R573, R595) -/

/-- The fields that a boot writes once its start is counted. -/
abbrev bootFields : List Field := startFields ++ slotFields ++ [F.mgtEvtFallback, F.mgtEvtRecovery]

theorem Chip.noImage_keeps (c : Chip) {state : Nat} (hstate : state < 4) :
    c.BootKeeps bootFields { c with dev := c.dev.noImage state } ∧ (c.dev.noImage state).bootState = state := by
  obtain ⟨x, hx⟩ : ∃ x : Dev, x = c.dev.setMgt { c.dev.mgt with image := none, trialAt := none } := ⟨_, rfl⟩
  have hall : c.dev.noImage state = ((x.put F.mgtBootStatState state).put F.mgtFwVerVersion 0).put F.mgtHealthTrial 0 := by rw [hx, Dev.noImage]
  have hmgt : (c.dev.noImage state).mgt = { c.dev.mgt with image := none, trialAt := none } := by
    rw [hall]
    refine (((x.only_put _ _).step (Dev.only_put _ _ _)).step (Dev.only_put _ _ _)).mgt.trans ?_
    rw [hx]
    rfl
  have hxget (f : Field) : x.get f = c.dev.get f := by rw [hx]; rfl
  refine ⟨⟨fun f hf => ?_, by rw [hmgt], by rw [hmgt], by rw [hmgt]⟩, ?_⟩
  · change (c.dev.noImage state).get f = _
    rw [hall, ← hxget]
    exact (Dev.get_put_listed (L := bootFields) (by decide) 0 hf).trans ((Dev.get_put_listed (L := bootFields) (by decide) _ hf).trans
      (Dev.get_put_listed (L := bootFields) (by decide) state hf))
  · rw [Dev.bootState, hall, Dev.get_put_of_apart _ _ (by decide), Dev.get_put_of_apart _ _ (by decide), Dev.get_put_same _ _ _ (by decide)]
    exact Nat.mod_eq_of_lt hstate

theorem Chip.store_keeps (c : Chip) (a : Nat) (l : List Byte) {L : List Field} : c.BootKeeps L (c.store a l) := ⟨fun _ _ => rfl, rfl, rfl, rfl⟩

theorem Chip.startSlot_shows (c : Chip) (slot : Bool) (state : Nat) :
    c.BootKeeps bootFields (c.startSlot slot state) ∧ (c.startSlot slot state).dev.bootState = bootRunning := by
  rw [Chip.startSlot]
  have hstore := c.store_keeps (L := bootFields) 0x0400_0000 (flashRead c.flash (imageBase slot + 0x200) (hdrBody (slotHeader c.flash slot)))
  generalize c.store 0x0400_0000 (flashRead c.flash (imageBase slot + 0x200) (hdrBody (slotHeader c.flash slot))) = x at hstore
  obtain ⟨hstart, hon⟩ := x.startImage_shows (slotHeader c.flash slot) (bitOf slot) state
  exact ⟨hstore.trans (hstart.mono (by decide)), hon.state⟩

/-- The chip whose boot record is in force. -/
def Chip.bootSlots (c : Chip) (r0 r2 : BootRec) (failed : Bool) : Chip :=
  (if r2 = r0 then c.on (fun d => d.showSlots r0) else c.writeRecord r2).on (fun d => d.when failed (fun e => e.raise F.mgtEvtFallback))

/-- The chip whose image starts, or that waits for one. -/
def Chip.bootImage (c : Chip) (can : Bool → Bool) (slot : Bool) (r : BootRec) : Chip :=
  if can slot then c.startSlot slot (r.state slot)
  else if can (!slot) then c.startSlot (!slot) (r.state (!slot))
  else c.on (fun d => (d.noImage bootRecovery).raise F.mgtEvtRecovery)

theorem Chip.boot_eq (c : Chip) (cause : Nat) (h : c.dev.mgt.otp.gone = false) : ∃ r0 r2 failed can slot,
    c.boot cause = ((c.counted cause).bootSlots r0 r2 failed).bootImage can slot r2 := by
  obtain ⟨x, hx⟩ : ∃ x, x = c.boot cause := ⟨_, rfl⟩
  rw [← hx]
  rw [Chip.boot, h, if_neg Bool.false_ne_true] at hx
  extract_lets r0 failed _ r1 slot r2 c1 c2 can at hx
  exact ⟨r0, r2, failed, can, slot, hx⟩

theorem Chip.boot_gone (c : Chip) (cause : Nat) (h : c.dev.mgt.otp.gone = true) :
    c.boot cause = { c.counted cause with dev := (c.counted cause).dev.noImage bootHalted } := by
  rw [Chip.boot, if_pos h]
  rfl

theorem Chip.bootSlots_keeps (c : Chip) (r0 r2 : BootRec) (failed : Bool) : c.BootKeeps bootFields (c.bootSlots r0 r2 failed) := by
  obtain ⟨x, hx⟩ : ∃ x, x = if r2 = r0 then c.on (fun d => d.showSlots r0) else c.writeRecord r2 := ⟨_, rfl⟩
  have hkeeps : c.BootKeeps bootFields x := by
    rw [hx]
    split
    · exact (c.showSlots_keeps r0 c.flash).toBootKeeps.mono (by decide)
    · exact (c.writeRecord_keeps r2).toBootKeeps.mono (by decide)
  rw [Chip.bootSlots, ← hx]
  cases failed with
  | false => exact hkeeps
  | true => exact hkeeps.trans ((Chip.FuseKeeps.refl _ x).put (L := bootFields) (g := F.mgtEvtFallback) (by decide) 1).toBootKeeps

theorem Chip.bootImage_shows (c : Chip) (can : Bool → Bool) (slot : Bool) (r : BootRec) :
    c.BootKeeps bootFields (c.bootImage can slot r) ∧ 1 ≤ (c.bootImage can slot r).dev.bootState := by
  have hstart (t : Bool) : c.BootKeeps bootFields (c.startSlot t (r.state t)) ∧ 1 ≤ (c.startSlot t (r.state t)).dev.bootState := by
    obtain ⟨hkeeps, hstate⟩ := c.startSlot_shows t (r.state t)
    exact ⟨hkeeps, Nat.le_trans (by decide : 1 ≤ bootRunning) (Nat.le_of_eq hstate.symm)⟩
  rw [Chip.bootImage]
  split
  · exact hstart slot
  · split
    · exact hstart (!slot)
    · obtain ⟨hkeeps, hstate⟩ := c.noImage_keeps (state := bootRecovery) (by decide)
      obtain ⟨x, hx⟩ : ∃ x, x = c.dev.noImage bootRecovery := ⟨_, rfl⟩
      have hon : c.on (fun d => (d.noImage bootRecovery).raise F.mgtEvtRecovery) = { c with dev := x.raise F.mgtEvtRecovery } := by
        rw [hx]
        rfl
      rw [← hx] at hkeeps hstate
      rw [hon]
      have hraise := (Chip.FuseKeeps.refl bootFields ({ c with dev := x } : Chip)).put (g := F.mgtEvtRecovery) (by decide) 1
      have hkept : (x.raise F.mgtEvtRecovery).bootState = bootRecovery := (Dev.get_put_of_apart _ 1 (by decide)).trans hstate
      exact ⟨hkeeps.trans hraise.toBootKeeps, Nat.le_trans (by decide : 1 ≤ bootRecovery) (Nat.le_of_eq hkept.symm)⟩

theorem Chip.boot_shows (c : Chip) (cause : Nat) :
    (c.counted cause).BootKeeps bootFields (c.boot cause) ∧ 1 ≤ (c.boot cause).dev.bootState
      ∧ (c.dev.mgt.otp.gone = true → (c.boot cause).dev.bootState = bootHalted) := by
  cases hgone : c.dev.mgt.otp.gone with
  | true =>
    rw [c.boot_gone cause hgone]
    obtain ⟨hkeeps, hstate⟩ := (c.counted cause).noImage_keeps (state := bootHalted) (by decide)
    exact ⟨hkeeps, Nat.le_trans (by decide : 1 ≤ bootHalted) (Nat.le_of_eq hstate.symm), fun _ => hstate⟩
  | false =>
    obtain ⟨r0, r2, failed, can, slot, hboot⟩ := c.boot_eq cause hgone
    rw [hboot]
    generalize c.counted cause = x
    obtain ⟨hkeeps, hstate⟩ := (x.bootSlots r0 r2 failed).bootImage_shows can slot r2
    exact ⟨(x.bootSlots_keeps r0 r2 failed).trans hkeeps, hstate, fun h => absurd h Bool.false_ne_true⟩

/-- What a boot shows of a device without a firmware command or a halted hart. -/
theorem Chip.boot_started (c : Chip) {cause : Nat} (hcause : cause < 8) (hfw : c.dev.mgt.fw = none) (hrun : c.dev.mgt.halted = false) :
    (c.boot cause).dev.CpuStarted c.dev cause ∧ (c.boot cause).dev.mgt.otp.gone = c.dev.mgt.otp.gone
      ∧ (c.dev.mgt.otp.gone = true → (c.boot cause).dev.bootState = bootHalted)
      ∧ (c.boot cause).dev.on F.mgtEvtWdog = c.dev.on F.mgtEvtWdog := by
  obtain ⟨hcount, hat, hstarts, hevt⟩ := c.counted_shows hcause
  obtain ⟨hkeeps, hstate, hgone⟩ := c.boot_shows cause
  exact ⟨⟨(hkeeps.fields _ (by decide)).trans hat, (hkeeps.fields _ (by decide)).trans hstarts, (hkeeps.on (by decide)).trans hevt,
      hkeeps.fw.trans (hcount.fw.trans hfw), hkeeps.halted.trans (hcount.halted.trans hrun), hstate⟩,
    hkeeps.gone.trans hcount.gone, hgone, (hkeeps.on (by decide)).trans (hcount.on (by decide))⟩

/-! A restart (R567) -/

theorem Dev.abortBurst_mgt (d : Dev) (m : Nat) : (d.abortBurst m).mgt = d.mgt := by
  have h := (d.abortBurst_frame (m := m)).1
  exact (congrArg Dev.mgt h :)

/-- The words that a restart writes before the boot. -/
abbrev restartWords : List Nat := abortWords ++ [F.devBootctlRemap.off, F.mgtFwStatOp.off]

theorem Dev.fwCut_shows (d : Dev) : d.fwCut.mgt = { d.mgt with fw := none } ∧ d.fwCut.get F.mgtBootStatStarts = d.get F.mgtBootStatStarts
    ∧ d.fwCut.on F.mgtEvtWdog = d.on F.mgtEvtWdog := by
  unfold Dev.fwCut
  cases h : d.mgt.fw with
  | none =>
    refine ⟨?_, rfl, rfl⟩
    change d.mgt = { d.mgt with fw := none }
    rw [← h]
  | some x =>
    obtain ⟨op, slot⟩ := x
    dsimp only
    rw [Dev.fwEnd]
    obtain ⟨y, hy⟩ : ∃ y : Dev, y = d.setMgt { d.mgt with fw := none } := ⟨_, rfl⟩
    rw [← hy]
    refine ⟨(((y.only_put _ _).step (Dev.only_put _ _ _)).step (Dev.only_raise _ _)).mgt.trans (by rw [hy]; rfl), ?_, ?_⟩
    · rw [Dev.raise, Dev.get_put_of_apart _ _ (by decide), Dev.get_put_of_apart _ _ (by decide), Dev.get_put_of_apart _ _ (by decide), hy]
      rfl
    · rw [Dev.raise, Dev.on_put_of_apart _ _ (by decide), Dev.on_put_of_apart _ _ (by decide), Dev.on_put_of_apart _ _ (by decide), hy]
      rfl

/-- The device that a restart boots. -/
def Dev.restarting (d : Dev) : Dev :=
  let d1 := (((d.abortBurst 1).abortBurst 2).lower F.devBootctlRemap).fwCut
  d1.resumeHart.setMgt { d1.resumeHart.mgt with pmp := [] }

theorem Chip.restartCpu_eq (c : Chip) (cause : Nat) : c.restartCpu cause = ({ c with dev := c.dev.restarting } : Chip).boot cause := by
  rw [Chip.restartCpu]
  rfl

theorem Dev.restarting_shows (d : Dev) : d.restarting.mgt.fw = none ∧ d.restarting.mgt.halted = false
    ∧ d.restarting.mgt.otp = d.mgt.otp ∧ d.restarting.get F.mgtBootStatStarts = d.get F.mgtBootStatStarts
    ∧ d.restarting.on F.mgtEvtWdog = d.on F.mgtEvtWdog := by
  obtain ⟨x, hx⟩ : ∃ x, x = (d.abortBurst 1).abortBurst 2 := ⟨_, rfl⟩
  have hxmgt : x.mgt = d.mgt := hx ▸ ((d.abortBurst 1).abortBurst_mgt 2).trans (d.abortBurst_mgt 1)
  have hxwords : Dev.WordsBut abortWords d x := hx ▸ (d.abortBurst_frame (m := 1)).2.1.trans ((d.abortBurst 1).abortBurst_frame (m := 2)).2.1
  obtain ⟨y, hy⟩ : ∃ y, y = (x.lower F.devBootctlRemap).fwCut := ⟨_, rfl⟩
  obtain ⟨hcmgt, hcstarts, hcevt⟩ := (x.lower F.devBootctlRemap).fwCut_shows
  rw [← hy, show (x.lower F.devBootctlRemap).mgt = d.mgt from (x.only_lower _).mgt.trans hxmgt] at hcmgt
  rw [← hy] at hcstarts hcevt
  obtain ⟨honly, hmgt⟩ := y.resumeHart_keeps
  have hall : d.restarting = y.resumeHart.setMgt { y.resumeHart.mgt with pmp := [] } := by rw [hy, hx, Dev.restarting]
  obtain ⟨z, hz⟩ : ∃ z, z = y.resumeHart := ⟨_, rfl⟩
  rw [← hz] at hall honly hmgt
  have hrmgt : d.restarting.mgt = { z.mgt with pmp := [] } := by rw [hall]; rfl
  have hrwords : d.restarting.words = y.words := by
    rw [hall]
    exact honly.words
  refine ⟨by rw [hrmgt, hmgt, hcmgt], by rw [hrmgt, hmgt], by rw [hrmgt, hmgt, hcmgt], ?_, ?_⟩
  · exact (Dev.get_of_words hrwords _).trans (hcstarts.trans ((Dev.get_put_of_apart _ 0 (by decide)).trans (hxwords.get (by decide))))
  · exact (Dev.on_congr hrwords _).trans (hcevt.trans ((Dev.on_put_of_apart _ 0 (by decide)).trans (hxwords.on (by decide))))

theorem Dev.CpuStarted.of_starts {x d d' : Dev} {cause : Nat} (h : x.CpuStarted d' cause)
    (hs : d'.get F.mgtBootStatStarts = d.get F.mgtBootStatStarts) : x.CpuStarted d cause := by
  obtain ⟨hcause, hstarts, hrest⟩ := h
  exact ⟨hcause, by rw [hstarts, hs], hrest⟩

theorem Chip.restartCpu_shows (c : Chip) {cause : Nat} (hcause : cause < 8) :
    (c.restartCpu cause).dev.CpuStarted c.dev cause ∧ (c.restartCpu cause).dev.mgt.otp.gone = c.dev.mgt.otp.gone
      ∧ (c.dev.mgt.otp.gone = true → (c.restartCpu cause).dev.bootState = bootHalted)
      ∧ (c.restartCpu cause).dev.on F.mgtEvtWdog = c.dev.on F.mgtEvtWdog := by
  rw [Chip.restartCpu_eq]
  obtain ⟨hfw, hrun, hotp, hstarts, hwdog⟩ := c.dev.restarting_shows
  obtain ⟨x, hx⟩ : ∃ x, x = c.dev.restarting := ⟨_, rfl⟩
  rw [← hx] at hfw hrun hotp hstarts hwdog ⊢
  obtain ⟨hstarted, hgone, hhalted, hevt⟩ := ({ c with dev := x } : Chip).boot_started hcause hfw hrun
  exact ⟨hstarted.of_starts hstarts, hgone.trans (congrArg Otp.gone hotp), fun h => hhalted ((congrArg Otp.gone hotp).trans h), hevt.trans hwdog⟩

end

end Sys2Proof.Machine

/-! The kick of the watchdog (R568): as for a lost reference, a state that no command reaches refutes the statement. -/

namespace Sys2Proof.Machine

set_option Elab.async false -- a proof at a time, within the memory of a check

/-- A device whose `MGT.WDOG` holds a time-out of 0, which no write leaves there. -/
def zeroTimeoutState : State := { dev := { words := [(Reg.mgtWdog, 0)], modes := { inReset := .no } } }

/-- Refutes O53: a kick writes `MGT.WDOG` with the word that stands there, and such a write brings a time-out below 1 s to 1 s. A state may
hold a time-out of 0, which the kick then changes. -/
theorem not_processorStarts : ¬ Obligations.ProcessorStarts := by
  intro h
  obtain ⟨-, -, hkick, -⟩ := h zeroTimeoutState
  obtain ⟨t, hexec, -, -, hkept, -⟩ := hkick 0 (by decide +kernel)
  have hshown := Out.shows_next hexec (fun u => u.dev.get F.mgtWdogTimeout == 0)
  rw [show (t.dev.get F.mgtWdogTimeout == 0) = true from beq_iff_eq.mpr (hkept.trans (by decide))] at hshown
  exact absurd hshown (by decide +kernel)

end Sys2Proof.Machine

/-! The firmware commands, the flash and the staged image (R569, R572, R577, R578). -/

namespace Sys2Proof.Machine

set_option Elab.async false -- a proof at a time, within the memory of a check

/-! Bytes of the flash (R569) -/

section
variable (f : List Host.Cell) (a : Nat)

/-- A byte of the flash. -/
abbrev flashByte (f : List Host.Cell) (b : Nat) : Byte := Store.get flashErased f b

theorem flashRead_one : flashRead f a 1 = [flashByte f a] := rfl

theorem flashByte_write_other (l : List Byte) {b : Nat} (h : b < a ∨ a + l.length ≤ b) : flashByte (flashWrite f a l) b = flashByte f b := by
  induction l generalizing f a with
  | nil => rfl
  | cons x l ih =>
    rw [List.length_cons] at h
    rw [flashWrite, ih _ _ (by omega)]
    exact Store.get_set_other _ _ _ (by omega)

theorem flashByte_write_in (l : List Byte) {i : Nat} (h : i < l.length) : flashByte (flashWrite f a l) (a + i) = l.getD i 0 := by
  induction l generalizing f a i with
  | nil => exact absurd h (Nat.not_lt_zero i)
  | cons x l ih =>
    rw [flashWrite]
    cases i with
    | zero =>
      exact (flashByte_write_other _ _ _ (.inl (Nat.lt_succ_self a))).trans (Store.get_set_same _ _ _ _)
    | succ i =>
      rw [List.length_cons] at h
      rw [show a + (i + 1) = a + 1 + i by omega, ih _ _ (by omega), List.getD_cons_succ]

theorem flashByte_erase_other (n : Nat) {b : Nat} (h : b < a ∨ a + n ≤ b) : flashByte (flashErase f a n) b = flashByte f b := by
  refine (Store.get_keep _ _ _ _).trans (if_pos ?_)
  rcases h with h | h
  · rw [decide_eq_true h, Bool.true_or]
  · rw [decide_eq_true h, Bool.or_true]

theorem flashByte_erase_in (n : Nat) {b : Nat} (h : a ≤ b ∧ b < a + n) : flashByte (flashErase f a n) b = 0xFF := by
  refine (Store.get_keep _ _ _ _).trans (if_neg ?_)
  rw [decide_eq_false (by omega), decide_eq_false (by omega)]
  exact Bool.false_ne_true

/-- What was written is read back. -/
theorem flashRead_of_bytes {l : List Byte} (h : ∀ i, i < l.length → flashByte f (a + i) = l.getD i 0) : flashRead f a l.length = l := by
  refine List.ext_getElem (by rw [flashRead, List.length_map, List.length_range]) fun i hi hl => ?_
  simp only [flashRead, List.getElem_map, List.getElem_range]
  exact (h i hl).trans (List.getD_eq_getElem _ _ hl)

end

/-- The boot record lies below the images. -/
theorem Chip.writeRecord_flash (c : Chip) (r : BootRec) {b : Nat} (hb : 0x2000 ≤ b) : flashByte (c.writeRecord r).flash b = flashByte c.flash b := by
  obtain ⟨base, l, hbase, hlen, hflash⟩ : ∃ (base : Nat) (l : List Byte), base ≤ 0x1000 ∧ l.length = 16
      ∧ (c.writeRecord r).flash = flashWrite (flashErase c.flash base 0x1000) base l := by
    refine ⟨_, _, ?_, ?_, rfl⟩
    · split <;> decide
    · rfl
  rw [hflash, flashByte_write_other _ _ _ (by omega), flashByte_erase_other _ _ _ (by omega)]

theorem imageBase_apart (b : Bool) {i j : Nat} (hi : i < imageSize) (hj : j < imageSize) : imageBase (!b) + i ≠ imageBase b + j := by
  rw [imageSize] at hi hj
  cases b with
  | false =>
    change 0x50_0000 + i ≠ 0x10_0000 + j
    omega
  | true =>
    change 0x10_0000 + i ≠ 0x50_0000 + j
    omega

theorem imageBase_le (b : Bool) : 0x10_0000 ≤ imageBase b := by cases b <;> decide

/-- Bytes of the other slot. -/
theorem imageBase_outside (b : Bool) {i n : Nat} (hi : i < imageSize) (hn : n ≤ imageSize) :
    imageBase (!b) + i < imageBase b ∨ imageBase b + n ≤ imageBase (!b) + i := by
  rw [imageSize] at hi hn
  cases b with
  | false =>
    change 0x50_0000 + i < 0x10_0000 ∨ 0x10_0000 + n ≤ 0x50_0000 + i
    omega
  | true =>
    change 0x10_0000 + i < 0x50_0000 ∨ 0x50_0000 + n ≤ 0x10_0000 + i
    omega

/-! The states of the slots (R572) -/

/-- The field that shows a slot's state. -/
abbrev slotField (b : Bool) : Field := if b then F.mgtBootStatStateB else F.mgtBootStatStateA

theorem apart_slotField {f : Field} (ha : f.apart F.mgtBootStatStateA = true) (hb : f.apart F.mgtBootStatStateB = true) (b : Bool) :
    f.apart (slotField b) = true := by
  cases b
  · exact ha
  · exact hb

theorem Dev.showSlots_get (d : Dev) (r : BootRec) (b : Bool) : (d.showSlots r).get (slotField b) = r.state b % 8 := by
  rw [Dev.showSlots]
  cases b with
  | false =>
    change Dev.get _ F.mgtBootStatStateA = _
    rw [Dev.get_put_of_apart _ _ (by decide), Dev.get_put_same _ _ _ (by decide)]
    rfl
  | true => exact Dev.get_put_same _ _ _ (by decide)

theorem BootRec.state_setState (r : BootRec) (b : Bool) (v : Nat) : (r.setState b v).state b = v := by cases b <;> rfl

theorem BootRec.state_congr {r n : BootRec} (ha : n.a = r.a) (hb : n.b = r.b) (b : Bool) : n.state b = r.state b := by
  rw [BootRec.state, BootRec.state, ha, hb]

/-- What a written record shows. -/
theorem Chip.writeRecord_dev (c : Chip) (r : BootRec) : ∃ n : BootRec, n.a = r.a ∧ n.b = r.b ∧ (c.writeRecord r).dev = c.dev.showSlots n :=
  ⟨{ r with seq := ((bootRecord c.flash).1.seq + 1) % 0x1_0000_0000 }, rfl, rfl, rfl⟩

/-- What it shows of the slot whose state is set. -/
theorem Chip.writeRecord_slot (c : Chip) (r : BootRec) (b : Bool) (v : Nat) : (c.writeRecord (r.setState b v)).dev.get (slotField b) = v % 8 := by
  obtain ⟨n, ha, hb, hdev⟩ := c.writeRecord_dev (r.setState b v)
  rw [hdev, Dev.showSlots_get, BootRec.state_congr ha hb, r.state_setState]

/-! The end of a command (R577) -/

/-- What shows of a firmware command that ended. -/
structure Dev.FwEnded (d : Dev) (op res : Nat) : Prop where
  fw : d.mgt.fw = none
  op : d.get F.mgtFwStatOp = op
  result : d.get F.mgtFwStatResult = res
  evt : d.on F.mgtEvtFwDone = true

section
variable {d : Dev} {op res : Nat}

theorem Dev.fwEnd_ended (d : Dev) (hop : op < 8) (hres : res < 16) : (d.fwEnd op res).FwEnded op res := by
  rw [Dev.fwEnd]
  obtain ⟨x, hx⟩ : ∃ x : Dev, x = d.setMgt { d.mgt with fw := none } := ⟨_, rfl⟩
  have hfw : x.mgt.fw = none := by rw [hx]; rfl
  rw [← hx]
  refine ⟨?_, ?_, ?_, Dev.on_raise _ _ (by decide) (by decide)⟩
  · rw [(((x.only_put _ _).step (Dev.only_put _ _ _)).step (Dev.only_raise _ _)).mgt]
    exact hfw
  · rw [Dev.raise, Dev.get_put_of_apart _ _ (by decide), Dev.get_put_of_apart _ _ (by decide), Dev.get_put_same _ _ _ (by decide)]
    exact Nat.mod_eq_of_lt hop
  · rw [Dev.raise, Dev.get_put_of_apart _ _ (by decide), Dev.get_put_same _ _ _ (by decide)]
    exact Nat.mod_eq_of_lt hres

theorem Dev.get_fwEnd {f : Field} (h0 : F.mgtFwStatOp.apart f = true) (h1 : F.mgtFwStatResult.apart f = true) (h2 : F.mgtEvtFwDone.apart f = true) :
    (d.fwEnd op res).get f = d.get f := by
  rw [Dev.fwEnd, Dev.raise, Dev.get_put_of_apart _ _ h2, Dev.get_put_of_apart _ _ h1, Dev.get_put_of_apart _ _ h0]
  rfl

theorem Dev.fwStart_shows (d : Dev) (slot : Nat) (hop : op < 8) : (d.fwStart op slot).mgt.fw = some (op, slot)
    ∧ (d.fwStart op slot).get F.mgtFwStatOp = op ∧ (d.fwStart op slot).get F.mgtFwStatResult = fwRunning := by
  rw [Dev.fwStart]
  obtain ⟨x, hx⟩ : ∃ x : Dev, x = d.setMgt { d.mgt with fw := some (op, slot) } := ⟨_, rfl⟩
  have hfw : x.mgt.fw = some (op, slot) := by rw [hx]; rfl
  rw [← hx]
  refine ⟨?_, ?_, ?_⟩
  · rw [(((x.only_put _ _).step (Dev.only_put _ _ _)).step (Dev.only_put _ _ _)).mgt]
    exact hfw
  · rw [Dev.get_put_of_apart _ _ (by decide), Dev.get_put_of_apart _ _ (by decide), Dev.get_put_same _ _ _ (by decide)]
    exact Nat.mod_eq_of_lt hop
  · rw [Dev.get_put_of_apart _ _ (by decide), Dev.get_put_same _ _ _ (by decide)]
    rfl

theorem ite_lt {p : Prop} [Decidable p] {a b n : Nat} (ha : a < n) (hb : b < n) : (if p then a else b) < n := by
  split
  · exact ha
  · exact hb

theorem Otp.check_lt (o : Otp) (hdr : List Byte) (body : Nat → List Byte) : o.check hdr body < 16 :=
  ite_lt (by decide) (ite_lt (by decide) (ite_lt (by decide) (ite_lt (by decide) (ite_lt (by decide) (by decide)))))

theorem Dev.get_fwStart {d : Dev} {op slot : Nat} {f : Field} (h0 : F.mgtFwStatOp.apart f = true) (h1 : F.mgtFwStatResult.apart f = true)
    (h2 : F.mgtFwStatProgress.apart f = true) : (d.fwStart op slot).get f = d.get f := by
  rw [Dev.fwStart, Dev.get_put_of_apart _ _ h2, Dev.get_put_of_apart _ _ h1, Dev.get_put_of_apart _ _ h0]
  rfl

/-- An image that checks is no larger than its slot. -/
theorem Otp.check_ok {o : Otp} {hdr : List Byte} {body : Nat → List Byte} (h : o.check hdr body = fwOk) : hdrBody hdr ≤ 0x30_0000 := by
  unfold Otp.check at h
  extract_lets n at h
  split at h
  · exact absurd h (by decide)
  · next hsize => exact Nat.not_lt.1 fun hlt => hsize (.inr (.inr (.inr hlt)))

end

/-! The commands (R577) -/

section
variable {s : State} {m : Master} {slot : Bool}

/-- The chip to which a command of `MGT.FW_CMD` is given. -/
def State.fwChip (s : State) (slot : Bool) : Chip := { s.chip with dev := s.dev.put F.mgtFwCmdSlot (bitOf slot) }

theorem fwCmd_fields {op : Nat} (slot : Bool) (hop : op < 8) :
    getF (BitVec.ofNat 32 (op + bitOf slot * 8)) 0 3 = op ∧ getF (BitVec.ofNat 32 (op + bitOf slot * 8)) 3 1 = bitOf slot := by
  have hbit : bitOf slot < 2 := by cases slot <;> decide
  rw [getF, getF, BitVec.toNat_ofNat]
  omega

/-- What a command leaves once its effect is `e`. -/
theorem fwCommand_leaves {op : Nat} {c : Instr} {e : Chip} (hop : op < 8) (hw : s.mayWrite m.val Reg.mgtFwCmd)
    (hexec : exec c s = .next (s.run (fun c => c.fwRow m op slot))) (he : (s.fwChip slot).fwCommand op slot = e) :
    ∃ t, exec c s = .next t ∧ WriteLeaves m.val .okay e t := by
  obtain ⟨hcode, hslot⟩ := fwCmd_fields slot hop
  have hbit : (bitOf slot == 1) = slot := by cases slot <;> rfl
  have hop' : (fun x : Chip => (x.fwWrite (BitVec.ofNat 32 (op + bitOf slot * 8)), Resp.okay)) s.chip = (e, .okay) := by
    change (s.chip.fwWrite (BitVec.ofNat 32 (op + bitOf slot * 8)), Resp.okay) = _
    rw [Chip.fwWrite, hcode, hslot, hbit]
    exact congrArg (fun x => (x, Resp.okay)) he
  exact ⟨_, hexec, chipWrite_leaves hw hop'⟩

theorem Dev.haldyn_put (d : Dev) (v : Nat) : (d.put F.mgtFwCmdSlot v).haldyn = d.haldyn := by
  rw [Dev.haldyn, Dev.bootState, Dev.get_put_of_apart _ _ (by decide), ← Dev.bootState, ← Dev.haldyn]

theorem Dev.grants_power_congr {d e : Dev} (hmgt : e.mgt = d.mgt) (hlevel : e.shedLevel = d.shedLevel) : e.grants .power = d.grants .power := by
  have hlife : e.lifecycle = d.lifecycle := Dev.lifecycle_congr (by rw [hmgt]) (by rw [hmgt])
  change (!(e.lifecycle == lcGone) && decide (e.shedLevel < 2)) = (!(d.lifecycle == lcGone) && decide (d.shedLevel < 2))
  rw [hlife, hlevel]

theorem State.fwChip_shows (s : State) (slot : Bool) : (s.fwChip slot).dev.mgt = s.dev.mgt ∧ (s.fwChip slot).dev.haldyn = s.dev.haldyn
    ∧ (s.fwChip slot).dev.grants .power = s.dev.grants .power := by
  have hmgt : (s.fwChip slot).dev.mgt = s.dev.mgt := (s.dev.only_put _ _).mgt
  exact ⟨hmgt, s.dev.haldyn_put _, Dev.grants_power_congr hmgt (Dev.get_put_of_apart _ _ (by decide))⟩

theorem WriteLeaves.fwEnded {r : Resp} {e : Chip} {t : State} {op res : Nat} (h : WriteLeaves m.val r e t) (he : e.dev.FwEnded op res) :
    t.dev.mgt.fw = none ∧ t.dev.get F.mgtFwStatOp = op ∧ t.dev.get F.mgtFwStatResult = res ∧ t.dev.on F.mgtEvtFwDone = true :=
  ⟨by rw [h.mgt]; exact he.fw, (Dev.get_of_words h.words _).trans he.op, (Dev.get_of_words h.words _).trans he.result,
    (Dev.on_congr h.words _).trans he.evt⟩

variable (hw : s.mayWrite m.val Reg.mgtFwCmd) (hruns : s.dev.haldyn = true)

include hruns

theorem fwCommand_idle {op : Nat} (hop : op ≠ 0) (hfw : s.dev.mgt.fw = none) : (s.fwChip slot).fwCommand op slot =
    if op = 1 then (s.fwChip slot).on (fun d => d.fwStart 1 0)
    else if op = 2 ∨ op = 3 then
      if !(s.fwChip slot).dev.grants .power then (s.fwChip slot).on (fun d => d.fwEnd op fwPower)
      else if op = 2 then (s.fwChip slot).startProgram
      else (s.fwChip slot).activateSlot slot
    else (s.fwChip slot).on (fun d => d.fwEnd op fwState) := by
  obtain ⟨hmgt, hhaldyn, -⟩ := s.fwChip_shows slot
  generalize s.fwChip slot = c at hmgt hhaldyn ⊢
  have hgo : ¬ (op = 0 ∨ (!c.dev.haldyn) = true) := by
    rw [hhaldyn, hruns]
    exact fun h => h.elim hop (fun h => absurd h (by decide))
  rw [Chip.fwCommand, if_neg hgo, hmgt, hfw]

theorem fwCommand_busy {op : Nat} (hop : op ≠ 0) {x : Nat × Nat} (hfw : s.dev.mgt.fw = some x) : (s.fwChip slot).fwCommand op slot =
    if op = 4 ∧ x.1 = 2 then (s.fwChip slot).on (fun d => d.fwEnd 4 fwOk)
    else (s.fwChip slot).on (fun d => ((d.put F.mgtFwStatOp op).put F.mgtFwStatResult fwBusy).raise F.mgtEvtFwDone) := by
  obtain ⟨hmgt, hhaldyn, -⟩ := s.fwChip_shows slot
  generalize s.fwChip slot = c at hmgt hhaldyn ⊢
  have hgo : ¬ (op = 0 ∨ (!c.dev.haldyn) = true) := by
    rw [hhaldyn, hruns]
    exact fun h => h.elim hop (fun h => absurd h (by decide))
  rw [Chip.fwCommand, if_neg hgo, hmgt, hfw]

include hw

theorem stageCheck_starts (hfw : s.dev.mgt.fw = none) : ∃ t, exec (.stageCheck m slot) s = .next t ∧ (t.dev.replyTo m.val).resp = .okay
    ∧ t.dev.mgt.fw = some (1, 0) ∧ t.dev.get F.mgtFwStatOp = 1 ∧ t.dev.get F.mgtFwStatResult = fwRunning ∧ KeepsMemories s t := by
  obtain ⟨t, hexec, hleaves⟩ := fwCommand_leaves (op := 1) (c := .stageCheck m slot) (by decide) hw rfl
    ((fwCommand_idle hruns (by decide) hfw).trans (if_pos rfl))
  obtain ⟨hstart, hop, hres⟩ := (s.fwChip slot).dev.fwStart_shows (op := 1) 0 (by decide)
  exact ⟨t, hexec, hleaves.reply, by rw [hleaves.mgt]; exact hstart, (Dev.get_of_words hleaves.words _).trans hop,
    (Dev.get_of_words hleaves.words _).trans hres, hleaves.mem, hleaves.flash⟩

theorem fwCommand_power {c : Instr} {op : Nat} (hc : c = .program m slot ∧ op = 2 ∨ c = .activate m slot ∧ op = 3) (hfw : s.dev.mgt.fw = none)
    (hpower : s.dev.grants .power = false) :
    ∃ t, exec c s = .next t ∧ (t.dev.mgt.fw = none ∧ t.dev.get F.mgtFwStatOp = op ∧ t.dev.get F.mgtFwStatResult = fwPower
      ∧ t.dev.on F.mgtEvtFwDone = true) ∧ KeepsMemories s t := by
  have hop : op = 2 ∨ op = 3 := hc.imp And.right And.right
  have hlt : op < 8 := by omega
  have hgrant : (!(s.fwChip slot).dev.grants .power) = true := by
    rw [(s.fwChip_shows slot).2.2, hpower]
    rfl
  have hend := fwCommand_idle (slot := slot) hruns (op := op) (by omega) hfw
  rw [if_neg (by omega), if_pos hop, if_pos hgrant] at hend
  have hexec : exec c s = .next (s.run (fun c => c.fwRow m op slot)) := by
    rcases hc with ⟨hc, hopv⟩ | ⟨hc, hopv⟩
    · rw [hc, hopv]
      rfl
    · rw [hc, hopv]
      rfl
  obtain ⟨t, hexec, hleaves⟩ := fwCommand_leaves hlt hw hexec hend
  exact ⟨t, hexec, hleaves.fwEnded ((s.fwChip slot).dev.fwEnd_ended hlt (by decide)), hleaves.mem, hleaves.flash⟩

theorem abort_ends {b : Nat} (hfw : s.dev.mgt.fw = some (2, b)) :
    ∃ t, exec (.abort m slot) s = .next t ∧ (t.dev.mgt.fw = none ∧ t.dev.get F.mgtFwStatOp = 4 ∧ t.dev.get F.mgtFwStatResult = fwOk
      ∧ t.dev.on F.mgtEvtFwDone = true) ∧ KeepsMemories s t := by
  obtain ⟨t, hexec, hleaves⟩ := fwCommand_leaves (op := 4) (c := .abort m slot) (by decide) hw rfl
    ((fwCommand_busy hruns (by decide) hfw).trans (if_pos ⟨rfl, rfl⟩))
  exact ⟨t, hexec, hleaves.fwEnded ((s.fwChip slot).dev.fwEnd_ended (by decide) (by decide)), hleaves.mem, hleaves.flash⟩

theorem stageCheck_busy {x : Nat × Nat} (hfw : s.dev.mgt.fw = some x) : ∃ t, exec (.stageCheck m slot) s = .next t ∧ t.dev.mgt.fw = some x
    ∧ t.dev.get F.mgtFwStatResult = fwBusy ∧ KeepsMemories s t := by
  obtain ⟨t, hexec, hleaves⟩ := fwCommand_leaves (op := 1) (c := .stageCheck m slot) (by decide) hw rfl
    ((fwCommand_busy hruns (by decide) hfw).trans (if_neg (by omega)))
  obtain ⟨y, hy⟩ : ∃ y, y = (s.fwChip slot).dev := ⟨_, rfl⟩
  have hdev : ((s.fwChip slot).on (fun d => ((d.put F.mgtFwStatOp 1).put F.mgtFwStatResult fwBusy).raise F.mgtEvtFwDone)).dev
      = ((y.put F.mgtFwStatOp 1).put F.mgtFwStatResult fwBusy).raise F.mgtEvtFwDone := by rw [hy]; rfl
  have hmgt := hleaves.mgt
  have hwords := hleaves.words
  rw [hdev] at hmgt hwords
  refine ⟨t, hexec, ?_, ?_, hleaves.mem, hleaves.flash⟩
  · rw [hmgt, (((y.only_put _ _).step (Dev.only_put _ _ _)).step (Dev.only_raise _ _)).mgt, hy, (s.fwChip_shows slot).1]
    exact hfw
  · refine (Dev.get_of_words hwords _).trans ?_
    rw [Dev.raise, Dev.get_put_of_apart _ _ (by decide), Dev.get_put_same _ _ _ (by decide)]
    rfl

variable (hfw : s.dev.mgt.fw = none) (hpower : s.dev.grants .power = true)

include hfw hpower

omit hw in
theorem fwCommand_granted {op : Nat} (hop : op = 2 ∨ op = 3) : (s.fwChip slot).fwCommand op slot =
    if op = 2 then (s.fwChip slot).startProgram else (s.fwChip slot).activateSlot slot := by
  have hgrant : ¬ (!(s.fwChip slot).dev.grants .power) = true := by
    rw [(s.fwChip_shows slot).2.2, hpower]
    decide
  have hall := fwCommand_idle (slot := slot) hruns (op := op) (by omega) hfw
  rw [if_neg (by omega), if_pos hop, if_neg hgrant] at hall
  exact hall

theorem program_running (hrun : s.dev.runs (!(bootRecord s.flash).1.active) = true) :
    ∃ t, exec (.program m slot) s = .next t ∧ (t.dev.mgt.fw = none ∧ t.dev.get F.mgtFwStatOp = 2 ∧ t.dev.get F.mgtFwStatResult = fwState
      ∧ t.dev.on F.mgtEvtFwDone = true) ∧ KeepsMemories s t := by
  have he : (s.fwChip slot).startProgram = (s.fwChip slot).on (fun d => d.fwEnd 2 fwState) := by
    have hrun' : (s.fwChip slot).dev.runs (!(bootRecord (s.fwChip slot).flash).1.active) = true := hrun
    rw [Chip.startProgram]
    exact if_pos hrun'
  obtain ⟨t, hexec, hleaves⟩ := fwCommand_leaves (op := 2) (c := .program m slot) (by decide) hw rfl
    ((fwCommand_granted hruns hfw hpower (.inl rfl)).trans ((if_pos rfl).trans he))
  exact ⟨t, hexec, hleaves.fwEnded ((s.fwChip slot).dev.fwEnd_ended (by decide) (by decide)), hleaves.mem, hleaves.flash⟩

omit hw hruns hfw hpower in
theorem Chip.startProgram_eq {c : Chip} {into : Bool} (hinto : (!(bootRecord c.flash).1.active) = into) (h : c.dev.runs into = false) :
    c.startProgram = { c.writeRecord ((bootRecord c.flash).1.setState into slotEmpty) with
      dev := (c.writeRecord ((bootRecord c.flash).1.setState into slotEmpty)).dev.fwStart 2 (bitOf into)
      flash := flashErase (c.writeRecord ((bootRecord c.flash).1.setState into slotEmpty)).flash (imageBase into) imageSize } := by
  rw [Chip.startProgram, hinto, h, if_neg Bool.false_ne_true]

omit hw hruns hfw hpower in
theorem Chip.writeRecord_mem (c : Chip) (r : BootRec) : (c.writeRecord r).mem = c.mem := by rw [Chip.writeRecord]

theorem program_starts (hrun : s.dev.runs (!(bootRecord s.flash).1.active) = false) :
    let into := !(bootRecord s.flash).1.active
    ∃ t, exec (.program m slot) s = .next t ∧ t.dev.mgt.fw = some (2, bitOf into)
      ∧ t.dev.get F.mgtFwStatResult = fwRunning ∧ t.mem = s.mem
      ∧ t.dev.get (if into then F.mgtBootStatStateB else F.mgtBootStatStateA) = slotEmpty
      ∧ (∀ i, i < imageSize → flashRead t.flash (imageBase into + i) 1 = [0xFF])
      ∧ ∀ i, i < imageSize → flashRead t.flash (imageBase (!into) + i) 1 = flashRead s.flash (imageBase (!into) + i) 1 := by
  intro into
  obtain ⟨c, hc⟩ : ∃ c, c = s.fwChip slot := ⟨_, rfl⟩
  have hcflash : c.flash = s.flash := by rw [hc]; rfl
  have hcmem : c.mem = s.mem := by rw [hc]; rfl
  obtain ⟨x, hx⟩ : ∃ x, x = c.writeRecord ((bootRecord c.flash).1.setState into slotEmpty) := ⟨_, rfl⟩
  have hrun' : c.dev.runs into = false := by
    rw [hc]
    exact hrun
  have he := Chip.startProgram_eq (into := into) (by rw [hcflash]) hrun'
  rw [← hx] at he
  have hxmem : x.mem = s.mem := by rw [hx, Chip.writeRecord_mem, hcmem]
  have hxflash {b : Nat} (hb : 0x2000 ≤ b) : flashByte x.flash b = flashByte s.flash b := by rw [hx, Chip.writeRecord_flash _ _ hb, hcflash]
  have hxstate : x.dev.get (slotField into) = slotEmpty := by rw [hx, Chip.writeRecord_slot]; rfl
  rw [hc] at he
  obtain ⟨t, hexec, hleaves⟩ := fwCommand_leaves (op := 2) (c := .program m slot) (by decide) hw rfl
    ((fwCommand_granted hruns hfw hpower (.inl rfl)).trans ((if_pos rfl).trans he))
  obtain ⟨hstart, -, hres⟩ := x.dev.fwStart_shows (op := 2) (bitOf into) (by decide)
  have hbase := imageBase_le into
  have hother := imageBase_le (!into)
  have hflash : t.flash = flashErase x.flash (imageBase into) imageSize := hleaves.flash
  refine ⟨t, hexec, by rw [hleaves.mgt]; exact hstart, (Dev.get_of_words hleaves.words _).trans hres, hleaves.mem.trans hxmem,
    (Dev.get_of_words hleaves.words _).trans ?_, fun i hi => ?_, fun i hi => ?_⟩
  · refine Eq.trans ?_ hxstate
    exact Dev.get_fwStart (apart_slotField (by decide) (by decide) _) (apart_slotField (by decide) (by decide) _) (apart_slotField (by decide) (by decide) _)
  · rw [flashRead_one, hflash, flashByte_erase_in _ _ _ (by omega)]
  · rw [flashRead_one, flashRead_one, hflash, flashByte_erase_other _ _ _ (imageBase_outside into hi (Nat.le_refl _)), hxflash (by omega)]

theorem activate_restarts (hstate : (bootRecord s.flash).1.state slot = slotValid ∨ (bootRecord s.flash).1.state slot = slotConfirmed)
    (hlevel : s.dev.mgt.otp.rollback ≤ hdrRollback (slotHeader s.flash slot)) :
    ∃ t, exec (.activate m slot) s = .next t ∧ t.dev.CpuStarted s.dev causeActivate ∧ t.dev.mgt.fw = none := by
  obtain ⟨c, hc⟩ : ∃ c, c = s.fwChip slot := ⟨_, rfl⟩
  have hcflash : c.flash = s.flash := by rw [hc]; rfl
  have hcmgt : c.dev.mgt = s.dev.mgt := by rw [hc]; exact (s.fwChip_shows slot).1
  obtain ⟨x, hx⟩ : ∃ x, x = (c.on (fun d => d.fwEnd 3 fwOk)).writeRecord { (bootRecord c.flash).1.setState slot slotTrial with active := slot } := ⟨_, rfl⟩
  have he : c.activateSlot slot = x.restartCpu causeActivate := by
    rw [hx, Chip.activateSlot]
    dsimp only
    rw [hcflash, if_neg (fun h => hstate.elim h.1 h.2), if_neg (by rw [hcmgt]; exact Nat.not_lt.2 hlevel)]
  have hstarts : x.dev.get F.mgtBootStatStarts = s.dev.get F.mgtBootStatStarts := by
    rw [hx]
    refine ((Chip.writeRecord_keeps _ _).fields _ (by decide)).trans ((Dev.get_fwEnd (by decide) (by decide) (by decide)).trans ?_)
    rw [hc]
    exact Dev.get_put_of_apart _ _ (by decide)
  obtain ⟨hstarted, -, -, -⟩ := x.restartCpu_shows (cause := causeActivate) (by decide)
  rw [hc] at he
  obtain ⟨t, hexec, hleaves⟩ := fwCommand_leaves (op := 3) (c := .activate m slot) (by decide) hw rfl
    ((fwCommand_granted hruns hfw hpower (.inr rfl)).trans ((if_neg (by decide)).trans he))
  obtain ⟨hcause, hcount, hevt, hnone, hrun, hboot⟩ := hstarted.of_starts hstarts
  have hmgt := hleaves.mgt
  have hwords := hleaves.words
  exact ⟨t, hexec, ⟨(Dev.get_of_words hwords _).trans hcause, (Dev.get_of_words hwords _).trans hcount, (Dev.on_congr hwords _).trans hevt,
    by rw [hmgt]; exact hnone, by rw [hmgt]; exact hrun, Nat.le_trans hboot (Nat.le_of_eq (Dev.get_of_words hwords _).symm)⟩, by rw [hmgt]; exact hnone⟩

end

end Sys2Proof.Machine

/-! The ends of STAGE_CHECK and PROGRAM (R577, R578). -/

namespace Sys2Proof.Machine

set_option Elab.async false -- a proof at a time, within the memory of a check

section
variable {s : State}

/-- What shows of a command that ended in the state `t`. -/
abbrev FwDone (t : State) (op res : Nat) : Prop :=
  t.dev.mgt.fw = none ∧ t.dev.get F.mgtFwStatOp = op ∧ t.dev.get F.mgtFwStatResult = res ∧ t.dev.on F.mgtEvtFwDone = true

theorem Dev.FwEnded.done {d : Dev} {op res : Nat} (h : d.FwEnded op res) {t : State} (ht : t.dev = d) : FwDone t op res := by
  rw [FwDone, ht]
  exact ⟨h.fw, h.op, h.result, h.evt⟩

theorem stageCheckDone_ends {b : Nat} (hfw : s.dev.mgt.fw = some (1, b)) : ∃ t, exec .stageCheckDone s = .next t ∧ KeepsMemories s t
    ∧ FwDone t 1 (if s.dev.hbmAnswers stagingBase then
        s.dev.mgt.otp.check (memRead s.mem stagingBase 0x200) (memRead s.mem (stagingBase + 0x200)) else fwLost) := by
  have hres : (if s.dev.hbmAnswers stagingBase then
      s.dev.mgt.otp.check (memRead s.mem stagingBase 0x200) (memRead s.mem (stagingBase + 0x200)) else fwLost) < 16 :=
    ite_lt (Otp.check_lt _ _ _) (by decide)
  have hexec : exec .stageCheckDone s = .next (s.run (fun c => match c.dev.mgt.fw with
    | some (1, _) => c.stageEnd
    | _ => c)) := rfl
  obtain ⟨f, hf⟩ : ∃ f : Chip → Chip, f = fun c => match c.dev.mgt.fw with
    | some (1, _) => c.stageEnd
    | _ => c := ⟨_, rfl⟩
  have hend : f s.chip = s.chip.stageEnd := by
    have hchip : s.chip.dev.mgt.fw = some (1, b) := hfw
    rw [hf]
    dsimp only
    rw [hchip]
    rfl
  have hended := s.dev.fwEnd_ended (op := 1) (by decide) hres
  rw [← hf, show s.run f = { s with dev := (f s.chip).dev, mem := (f s.chip).mem, flash := (f s.chip).flash } from rfl, hend] at hexec
  exact ⟨_, hexec, ⟨rfl, rfl⟩, hended.done rfl⟩

theorem programDone_runs {b : Bool} (hfw : s.dev.mgt.fw = some (2, bitOf b)) {e : Chip} (he : s.chip.programEnd b = e) :
    exec .programDone s = .next { s with dev := e.dev, mem := e.mem, flash := e.flash } := by
  have hexec : exec .programDone s = .next (s.run (fun c => match c.dev.mgt.fw with
    | some (2, n) => c.programEnd (n == 1)
    | _ => c)) := rfl
  obtain ⟨f, hf⟩ : ∃ f : Chip → Chip, f = fun c => match c.dev.mgt.fw with
    | some (2, n) => c.programEnd (n == 1)
    | _ => c := ⟨_, rfl⟩
  have hend : f s.chip = e := by
    have hchip : s.chip.dev.mgt.fw = some (2, bitOf b) := hfw
    have hbit : (bitOf b == 1) = b := by cases b <;> rfl
    rw [hf]
    dsimp only
    rw [hchip]
    exact (congrArg s.chip.programEnd hbit).trans he
  rw [← hf, show s.run f = { s with dev := (f s.chip).dev, mem := (f s.chip).mem, flash := (f s.chip).flash } from rfl, hend] at hexec
  exact hexec

variable {b : Bool} (hfw : s.dev.mgt.fw = some (2, bitOf b))

include hfw

theorem programDone_lost (hlost : s.dev.hbmAnswers stagingBase = false) : ∃ t, exec .programDone s = .next t ∧ FwDone t 2 fwLost ∧ KeepsMemories s t := by
  have he : s.chip.programEnd b = s.chip.on (fun d => d.fwEnd 2 fwLost) := by
    have hlost' : (!s.chip.dev.hbmAnswers stagingBase) = true := by
      rw [show s.chip.dev.hbmAnswers stagingBase = false from hlost]
      rfl
    rw [Chip.programEnd, if_pos hlost']
  exact ⟨_, programDone_runs hfw he, (s.dev.fwEnd_ended (op := 2) (by decide) (by decide)).done rfl, rfl, rfl⟩

variable (hup : s.dev.hbmAnswers stagingBase = true)

include hup

theorem programDone_spoilt
    (hbad : s.dev.mgt.otp.check (memRead s.mem stagingBase 0x200) (memRead s.mem (stagingBase + 0x200)) ≠ fwOk) :
    ∃ t, exec .programDone s = .next t ∧ FwDone t 2 fwFormat ∧ KeepsMemories s t := by
  have he : s.chip.programEnd b = s.chip.on (fun d => d.fwEnd 2 fwFormat) := by
    have hup' : ¬ (!s.chip.dev.hbmAnswers stagingBase) = true := by
      rw [show s.chip.dev.hbmAnswers stagingBase = true from hup]
      decide
    have hbad' : s.chip.imageCheck stagingBase ≠ fwOk := hbad
    rw [Chip.programEnd, if_neg hup', if_pos hbad']
  exact ⟨_, programDone_runs hfw he, (s.dev.fwEnd_ended (op := 2) (by decide) (by decide)).done rfl, rfl, rfl⟩

omit hfw hup in
theorem Chip.programEnd_eq {c : Chip} (hup : c.dev.hbmAnswers stagingBase = true) (hgood : c.imageCheck stagingBase = fwOk) {f : List Host.Cell}
    (hf : flashWrite c.flash (imageBase b) (memRead c.mem stagingBase (0x200 + hdrBody (memRead c.mem stagingBase 0x200))) = f) :
    c.programEnd b = (({ c with flash := f } : Chip).writeRecord ((bootRecord f).1.setState b slotValid)).on (fun d =>
      (d.put F.mgtFwStatProgress 100).fwEnd 2 fwOk) := by
  have hup' : ¬ (!c.dev.hbmAnswers stagingBase) = true := by
    rw [hup]
    decide
  rw [Chip.programEnd, if_neg hup', if_neg (fun h => h hgood), ← hf]

omit hfw hup in
/-- What the registers show once PROGRAM has ended. -/
theorem Dev.programmed_shows (d : Dev) {v : Nat} (hslot : d.get (slotField b) = v) :
    ((d.put F.mgtFwStatProgress 100).fwEnd 2 fwOk).FwEnded 2 fwOk ∧ ((d.put F.mgtFwStatProgress 100).fwEnd 2 fwOk).get F.mgtFwStatProgress = 100
      ∧ ((d.put F.mgtFwStatProgress 100).fwEnd 2 fwOk).get (slotField b) = v := by
  refine ⟨Dev.fwEnd_ended _ (by decide) (by decide), ?_, ?_⟩
  · rw [Dev.get_fwEnd (by decide) (by decide) (by decide), Dev.get_put_same _ _ _ (by decide)]
    rfl
  · rw [Dev.get_fwEnd (apart_slotField (by decide) (by decide) _) (apart_slotField (by decide) (by decide) _)
      (apart_slotField (by decide) (by decide) _), Dev.get_put_of_apart _ _ (apart_slotField (by decide) (by decide) _)]
    exact hslot

theorem programDone_ends
    (hgood : s.dev.mgt.otp.check (memRead s.mem stagingBase 0x200) (memRead s.mem (stagingBase + 0x200)) = fwOk) :
    let n := 0x200 + hdrBody (memRead s.mem stagingBase 0x200)
    ∃ t, exec .programDone s = .next t ∧ FwDone t 2 fwOk ∧ t.mem = s.mem ∧ t.dev.get F.mgtFwStatProgress = 100
      ∧ t.dev.get (if b then F.mgtBootStatStateB else F.mgtBootStatStateA) = slotValid
      ∧ flashRead t.flash (imageBase b) n = memRead s.mem stagingBase n
      ∧ ∀ i, i < imageSize → flashRead t.flash (imageBase (!b) + i) 1 = flashRead s.flash (imageBase (!b) + i) 1 := by
  obtain ⟨n, hnval⟩ : ∃ n, n = 0x200 + hdrBody (memRead s.mem stagingBase 0x200) := ⟨_, rfl⟩
  intro n'
  have hn' : n' = n := hnval.symm
  rw [hn']
  have hbody := Otp.check_ok hgood
  have hn : n ≤ imageSize := by
    rw [imageSize]
    omega
  obtain ⟨l, hl⟩ : ∃ l, l = memRead s.mem stagingBase n := ⟨_, rfl⟩
  have hlen : l.length = n := hl ▸ length_memRead _ _ _
  obtain ⟨f, hf⟩ : ∃ f, f = flashWrite s.flash (imageBase b) l := ⟨_, rfl⟩
  have he := Chip.programEnd_eq (c := s.chip) (b := b) hup hgood (f := f) (by rw [hf, hl, hnval]; rfl)
  obtain ⟨x, hx⟩ : ∃ x, x = ({ s.chip with flash := f } : Chip).writeRecord ((bootRecord f).1.setState b slotValid) := ⟨_, rfl⟩
  have hxmem : x.mem = s.mem := by rw [hx, Chip.writeRecord_mem]; rfl
  have hxflash {a : Nat} (ha : 0x2000 ≤ a) : flashByte x.flash a = flashByte f a := by rw [hx, Chip.writeRecord_flash _ _ ha]
  have hxslot : x.dev.get (slotField b) = slotValid := by rw [hx, Chip.writeRecord_slot]; rfl
  rw [← hx] at he
  obtain ⟨hended, hprogress, hslot⟩ := x.dev.programmed_shows hxslot
  obtain ⟨y, hy⟩ : ∃ y, y = (x.dev.put F.mgtFwStatProgress 100).fwEnd 2 fwOk := ⟨_, rfl⟩
  have hon : x.on (fun d => (d.put F.mgtFwStatProgress 100).fwEnd 2 fwOk) = { x with dev := y } := by
    rw [hy]
    rfl
  rw [hon] at he
  rw [← hy] at hended hprogress hslot
  rw [← hl]
  have hbase := imageBase_le b
  have hother := imageBase_le (!b)
  refine ⟨_, programDone_runs hfw he, hended.done rfl, hxmem, hprogress, hslot, ?_, fun i hi => ?_⟩
  · change flashRead x.flash (imageBase b) n = l
    rw [← hlen]
    refine flashRead_of_bytes _ _ fun i hi => ?_
    rw [hxflash (by omega), hf, flashByte_write_in _ _ _ hi]
  · change flashRead x.flash (imageBase (!b) + i) 1 = _
    rw [flashRead_one, flashRead_one, hxflash (by omega), hf, flashByte_write_other _ _ _ (imageBase_outside b hi (hlen ▸ hn))]

end

/-- Settles O54, by what each command starts, or how it ends. -/
theorem firmwareCommands : Obligations.FirmwareCommands := by
  unfold Obligations.FirmwareCommands
  exact fun s => ⟨fun m slot hw hruns => ⟨fun hfw => ⟨stageCheck_starts hw hruns hfw, fun c op hc hpower => fwCommand_power hw hruns hc hfw hpower,
      ⟨fun hpower hrun => program_running hw hruns hfw hpower hrun, fun hpower hrun => program_starts hw hruns hfw hpower hrun⟩,
      fun hpower hstate hlevel => activate_restarts hw hruns hfw hpower hstate hlevel⟩,
    fun b hfw => abort_ends hw hruns hfw, fun x hfw => stageCheck_busy hw hruns hfw⟩, fun b hfw => stageCheckDone_ends hfw,
    fun b hfw => ⟨programDone_lost hfw, programDone_spoilt hfw, programDone_ends hfw⟩⟩

end Sys2Proof.Machine

/-! What the loss of a unit of HBM3 leaves of the memory's own registers (R512 to R517). -/

namespace Sys2Proof.Machine

set_option Elab.async false -- a proof at a time, within the memory of a check

/-! A fault, a ledger entry and a commit of capabilities leave what stands apart of their fields -/

namespace Dev.Reads

variable {f : Field} {d e : Dev}

theorem of_wordsBut (h : Dev.Reads f d e) {l : List Nat} {x : Dev} (hx : Dev.WordsBut l e x) (hf : f.off ∉ l) : Dev.Reads f d x :=
  (hx.get hf).trans h

theorem each (h : Dev.Reads f d e) (n : Nat) {g : Dev → Nat → Dev} (hg : ∀ x i, i < n → Dev.Reads f d x → Dev.Reads f d (g x i)) :
    Dev.Reads f d (e.each n g) := h.foldl fun x i hi hx => hg x i (List.mem_range.mp hi) hx

theorem permanent (h : Dev.Reads f d e) {p : Nat} (hsticky : (F.hdrStickyFault.page p).clearOf f) (hperm : (F.hdrFaultPerm.page p).clearOf f) :
    Dev.Reads f d (e.permanent p) := (h.when _ fun _ hx => hx.raise hsticky).raise hperm

theorem putAll (h : Dev.Reads f d e) {l : List (Field × Nat)} (hl : ∀ x ∈ l, x.1.clearOf f) : Dev.Reads f d (e.putAll l) :=
  h.foldl fun _ x hx hr => hr.put (hl x hx) x.2

theorem capCommit (h : Dev.Reads f d e) (old : Dev) (hgen : F.devCapGenGen.clearOf f)
    (hdev : (⟨Reg.hdrSticky + 0x1_0000_0000, 0, 1⟩ : Field).clearOf f) (hchg : ∀ p < 120, (F.hdrStickyCapChg.page p).clearOf f) :
    Dev.Reads f d (e.capCommit old) :=
  (h.when _ fun _ hx => (hx.put hgen _).raise hdev).each 120 fun _ p hp hx => hx.when _ fun _ hy => hy.raise (hchg p hp)

theorem retireSlices (h : Dev.Reads f d e) {l : List Nat} (hret : ∀ i ∈ l, (⟨Reg.flwSliceRet, i % 16, 1⟩ : Field).clearOf f)
    (hcap : ∀ i ∈ l, (⟨Reg.devCapFlow, i % 16, 1⟩ : Field).clearOf f) (hsticky : (F.hdrStickyFault.page 0xC).clearOf f)
    (hperm : (F.hdrFaultPerm.page 0xC).clearOf f) : Dev.Reads f d (e.retireSlices l) :=
  (h.foldl fun _ i hi hx => (hx.raise (hret i hi)).lower (hcap i hi)).permanent hsticky hperm

theorem log {c : Chip} (h : Dev.Reads f d c.dev) (hf : f.off ≠ Reg.mgtLogSeq) (p : Nat) (sec : Bool) : Dev.Reads f d (c.log p sec).dev :=
  h.of_wordsBut (c.log_keeps p sec).words (by simpa using hf)

end Dev.Reads

/-! The registers of the memory -/

/-- Where the registers of HBM3 and its capabilities stand: page 4, and two words of the device's page. -/
abbrev hbmPlace (a : Nat) : Prop := a = 0x1_0000_0118 ∨ a = 0x1_0000_011c ∨ (0x1_0004_0000 ≤ a ∧ a < 0x1_0005_0000)

theorem hbmPlace.clear {f g : Field} (hf : hbmPlace f.off) (hg : ¬ hbmPlace g.off) : g.clearOf f := .inl fun h => hg (h ▸ hf)

theorem hbmPlace.notMem {a : Nat} (h : hbmPlace a) {l : List Nat} (hl : ∀ b ∈ l, ¬ hbmPlace b) : a ∉ l := fun ha => hl a ha h

/-- The Flow Engine's tables stand below the registers. -/
theorem not_hbmPlace_of_lt {a : Nat} (h : a < 0x1_0000_0000) : ¬ hbmPlace a := by
  unfold hbmPlace
  omega

theorem not_hbmPlace_lane (n o : Nat) : ¬ hbmPlace (laneAddr n o) := by
  unfold hbmPlace laneAddr
  omega

section
variable {f : Field} {d e : Dev} (hf : hbmPlace f.off)
include hf

theorem Dev.Reads.putElse (h : Dev.Reads f d e) {g : Field} (hg : ¬ hbmPlace g.off) (v : Nat) : Dev.Reads f d (e.put g v) := h.put (hf.clear hg) v

theorem Dev.Reads.groupElse (h : Dev.Reads f d e) {g : Nat} (hg : g < 2 ^ 14) {b : Field} (hb : b.off < 0x1a30_0000) (v : Bool) :
    Dev.Reads f d (e.groupBit g b v) :=
  h.groupBit (hf.clear (not_hbmPlace_of_lt (show b.off + 64 * g < _ by omega))) (hf.clear (by decide)) v

theorem Dev.Reads.gfpRestartElse (h : Dev.Reads f d e) {g : Nat} (hg : g < 2 ^ 14) : Dev.Reads f d (e.gfpRestart g) := by
  have hgrp {b : Field} (hb : b.off < 0x1a30_0000) : ¬ hbmPlace (b.at 64 g).off := not_hbmPlace_of_lt (show b.off + 64 * g < _ by omega)
  unfold Dev.gfpRestart
  extract_lets d1
  have h0 : Dev.Reads f d (e.setGfpSieve g (e.gfpSieve g).restart) := h.of_only (e.only_setGfpSieve g _)
  have h1 : Dev.Reads f d d1 := (h0.putElse hf (g := F.grpStSv.at 64 g) (hgrp (by decide)) 0).putElse hf (g := F.grpStSlots.at 64 g) (hgrp (by decide)) 0
  exact (h1.setGroup g _).groupElse hf hg (by decide) true

theorem Dev.Reads.streamCheckElse (h : Dev.Reads f d e) {g : Nat} (hg : g < 2 ^ 14) : Dev.Reads f d (e.streamCheck g) :=
  h.when _ fun _ hx => hx.gfpRestartElse hf hg

/-- A member's status. -/
theorem Dev.Reads.memberElse (h : Dev.Reads f d e) {i : Nat} (hi : i < 131072) {b : Field} (hb : b.off < 0x1a60_0000) (v : Nat) :
    Dev.Reads f d (e.put (b.at 8 i) v) := h.putElse hf (not_hbmPlace_of_lt (show b.off + 8 * i < _ by omega)) v

theorem Dev.Reads.showSinkElse (h : Dev.Reads f d e) (g : Nat) {i : Nat} (hi : i < 131072) : Dev.Reads f d (e.showSink g i) := by
  unfold Dev.showSink
  extract_lets ok c st d1
  have h1 : Dev.Reads f d d1 := (h.memberElse hf hi (by decide) _).memberElse hf hi (by decide) _
  exact h1.when _ fun x hx => (hx.raise (g := F.flwEvtLcasChg) (hf.clear (by decide))).of_only (Dev.only_count _ (by decide) _ _)

omit hf in
/-- The enabled entries of a table lie in it. -/
theorem Dev.enabledIn_lt {base size n i : Nat} (hi : i ∈ d.enabledIn base size n) : i < n := by
  unfold Dev.enabledIn at hi
  obtain ⟨x, -, hx⟩ := List.mem_filterMap.mp hi
  split at hx
  case isTrue h =>
    obtain ⟨hbase, hlt, -⟩ := h
    obtain rfl := Option.some.inj hx
    exact Nat.div_lt_of_lt_mul (by omega)
  case isFalse => exact absurd hx (by simp)

omit hf in
theorem Dev.side_lt {g i : Nat} {sink : Bool} (hi : i ∈ d.side g sink) : i < 131072 := d.enabledIn_lt (List.mem_filter.mp hi).1

theorem Dev.Reads.sinkUpdateElse (h : Dev.Reads f d e) {g : Nat} (hg : g < 2 ^ 14) : Dev.Reads f d (e.sinkUpdate g) := by
  unfold Dev.sinkUpdate
  extract_lets l use before d1 after ack src d2 loa d3 d4 late want runs was align src'
  have hl (i : Nat) (hi : i ∈ l) : i < 131072 := e.side_lt hi
  have hgrp {b : Field} (hb : b.off < 0x1a30_0000) : ¬ hbmPlace (b.at 64 g).off := not_hbmPlace_of_lt (show b.off + 64 * g < _ by omega)
  have h1 : Dev.Reads f d d1 := h.foldl fun x i hi hx => hx.showSinkElse hf g (hl i hi)
  have h2 : Dev.Reads f d d2 := (h1.setGroup g _).foldl fun x i hi hx => hx.memberElse hf (hl i hi) (by decide) _
  have h3 : Dev.Reads f d d3 := ((h2.groupElse hf hg (by decide) _).groupElse hf hg (by decide) _).groupElse hf hg (by decide) _
  have h4 : Dev.Reads f d d4 := (h3.putElse hf (g := F.grpStDdelay.at 64 g) (hgrp (by decide)) _).putElse hf (g := F.grpStSnkUse.at 64 g) (hgrp (by decide)) _
  exact (h4.setGroup g _).streamCheckElse hf hg

theorem Dev.Reads.emptyContextElse (h : Dev.Reads f d e) {c : Nat} (hc : c < 65536) : Dev.Reads f d (e.emptyContext c) := by
  obtain ⟨-, -, hbut, -⟩ := e.emptyContext_shows c hc
  refine h.of_wordsBut hbut (hf.notMem fun b hb => ?_)
  obtain rfl | rfl | rfl | rfl | rfl := by simpa only [List.mem_cons, List.not_mem_nil, or_false] using hb
  · exact not_hbmPlace_of_lt (show F.ctxStL2fDrops.off + 16 * c < _ by simp only [F.ctxStL2fDrops]; omega)
  · exact not_hbmPlace_of_lt (show F.ctxStF2lDrops.off + 16 * c < _ by simp only [F.ctxStF2lDrops]; omega)
  · decide
  · exact not_hbmPlace_of_lt (show F.ctxStL2f.off + 16 * c < _ by simp only [F.ctxStL2f]; omega)
  · exact not_hbmPlace_of_lt (show F.ctxStF2l.off + 16 * c < _ by simp only [F.ctxStF2l]; omega)

theorem Dev.Reads.copyResetElse (h : Dev.Reads f d e) (n : Nat) : Dev.Reads f d (e.copyReset n) := by
  have hrewind : Dev.Reads f d (e.rewind n) := by
    unfold Dev.rewind
    split
    · have hroll := ((h.of_only (e.only_setTu n { e.tu n with pkt := none })).putElse hf (g := F.laneTuPktbadCount.lane n) (not_hbmPlace_lane n _)
        ((e.setTu n { e.tu n with pkt := none }).get (F.laneTuPktbadCount.lane n) + 1)).of_only (Dev.only_count _ (by decide : bwObject 0 10 = none) n 1)
      exact (((hroll.putElse hf (by decide) _).putElse hf (by decide) _).putElse hf (by decide) _).putElse hf (by decide) _
    · exact h
  exact hrewind.of_only (Dev.only_setTu _ n _)

theorem Dev.Reads.enterRejoinElse (h : Dev.Reads f d e) : Dev.Reads f d e.enterRejoin := by
  have hrole : Dev.Reads f d (e.setRole roleRejoin) := by
    unfold Dev.setRole
    split
    · exact h
    · extract_lets d0 d1
      have h0 : Dev.Reads f d d0 := ((h.of_wordsBut (e.abortBurst_frame 6).2.1 (hf.notMem (by decide))).putElse hf (by decide) _).putElse hf (by decide) 1
      have h1 : Dev.Reads f d d1 := h0.when _ fun x hx => hx.putElse hf (by decide) _
      exact h1
  have hbit (x : Dev) (hx : Dev.Reads f d x) : Dev.Reads f d (x.mateBit F.mateStatIsolated F.mateEvtIsolated false) := by
    unfold Dev.mateBit
    split
    · exact hx
    · exact (hx.putElse hf (by decide) _).putElse hf (by decide) 1
  rw [e.enterRejoin_eq]
  refine Dev.Reads.of_words ?_ (Dev.setMate_words _ _)
  exact hbit _ ((hrole.putElse hf (by decide) 0).putElse hf (by decide) 1)

theorem Dev.Reads.loseBaseElse (h : Dev.Reads f d e) (u : Nat) : Dev.Reads f d (e.loseBase u) := by
  have hzero {lo hi : Field} (hlo : ¬ hbmPlace lo.off) (hhi : ¬ hbmPlace hi.off) : Dev.Reads f d ((e.put lo 0).put hi 0) :=
    (h.putElse hf hlo 0).putElse hf hhi 0
  unfold Dev.loseBase
  extract_lets zero
  split
  · exact hzero (by decide) (by decide)
  · split
    · exact h
    · split
      · exact (hzero (lo := F.pmCntBaseLoBase) (hi := F.pmCntBaseHiBase) (by decide) (by decide)).when _ fun x hx => hx.putElse hf (by decide) 0
      · split
        · exact hzero (by decide) (by decide)
        · split
          · exact hzero (by decide) (by decide)
          · exact h

theorem Dev.Reads.retireSlicesElse (h : Dev.Reads f d e) (l : List Nat) : Dev.Reads f d (e.retireSlices l) :=
  h.retireSlices (fun _ _ => hf.clear (g := ⟨Reg.flwSliceRet, _, 1⟩) (show ¬ hbmPlace Reg.flwSliceRet by decide))
    (fun _ _ => hf.clear (g := ⟨Reg.devCapFlow, _, 1⟩) (show ¬ hbmPlace Reg.devCapFlow by decide)) (hf.clear (by decide)) (hf.clear (by decide))

/-- R516: the users of a lost unit. -/
theorem Dev.Reads.unitUsersElse {c : Chip} (h : Dev.Reads f d c.dev) (u : Nat) : Dev.Reads f d (c.unitUsers u).dev := by
  unfold Chip.unitUsers
  extract_lets e members groups d1 one lost pairs
  split
  · exact h
  · split
    · have h1 : Dev.Reads f d d1 := h.foldl fun x i _ hx => hx.of_words (Dev.setMember_words _ _ _)
      refine h1.foldl fun x g hg hx => ?_
      have hlt : g < 2 ^ 14 := by
        obtain ⟨i, -, rfl⟩ := List.mem_map.mp (List.mem_eraseDups.mp (List.mem_filter.mp hg).1)
        exact e.get_lt (F.mem1Group.at 8 i)
      unfold one
      split
      · exact hx.sinkUpdateElse hf hlt
      · exact (hx.groupElse hf hlt (by decide) _).streamCheckElse hf hlt
    · split
      · exact h.foldl fun x i hi hx => hx.emptyContextElse hf (e.enabledIn_lt (List.mem_filter.mp (List.mem_filter.mp hi).1).1)
      · split
        · exact h.of_words rfl
        · split
          · exact h.of_words rfl
          · split
            · exact h.foldl fun x p _ hx => (((hx.copyResetElse hf p).copyResetElse hf _).putElse hf (not_hbmPlace_lane p _) _).of_only (Dev.only_aisFrom _ p)
            · split
              · exact h.when _ fun x hx => hx.enterRejoinElse hf
              · split
                · split
                  · exact ((h.of_words (x := { e with mgt := { e.mgt with fw := none } }) rfl).putElse hf (by decide) 9).putElse hf (by decide) 1
                  · exact h
                · exact h

end

end Sys2Proof.Machine

/-! The retirement of a pseudo-channel and the training of HBM3 (R512 to R517, R643, R644). -/

namespace Sys2Proof.Machine

set_option Elab.async false -- a proof at a time, within the memory of a check

/-! A unit that fails -/

theorem Chip.flash_on (c : Chip) (g : Dev → Dev) : (c.on g).flash = c.flash := rfl

/-- A field of the memory's registers that the loss of a unit leaves as it is. -/
structure Field.StaysInHbm (f : Field) : Prop where
  place : hbmPlace f.off
  low : f.off < 0x1_0004_0200
  free : F.hbmStatReserveFree.clearOf f
  lost : F.hbmEvtLost.clearOf f

section
variable {f : Field} {d : Dev} {c : Chip}

theorem Field.StaysInHbm.unit (hf : f.StaysInHbm) {g : Field} (hg : g.off = 0x1_0004_0200) (u : Nat) : (g.at 4 u).clearOf f := by
  refine .inl (show f.off ≠ g.off + 4 * u from ?_)
  have hlow := hf.low
  omega

theorem Dev.Reads.failUnit (h : Dev.Reads f d c.dev) (hf : f.StaysInHbm) (u : Nat) : Dev.Reads f d (c.failUnit u).dev := by
  have hunback (e : Dev) (he : Dev.Reads f d e) (v : Nat) : Dev.Reads f d (e.unback v) := he.lower (hf.unit rfl v)
  unfold Chip.failUnit
  extract_lets e free m
  split
  · exact (hunback e h u).put hf.free _
  · split
    · extract_lets d1
      have h1 : Dev.Reads f d d1 := (hunback _ (h.put (hf.unit (g := F.hbmUnitPc) rfl u) _) _).put hf.free _
      exact Dev.Reads.unitUsersElse hf.place (c := { c with dev := d1, mem := _ }) h1 u
    · rename_i d1 d2 _ _ _
      have h1 : Dev.Reads f d d1 := ((hunback e h u).raise hf.lost).loseBaseElse hf.place u
      have h2 : Dev.Reads f d d2 := h1.when _ fun x hx => hx.retireSlicesElse hf.place _
      exact Dev.Reads.unitUsersElse hf.place (c := { c with dev := d2, mem := _ }) h2 u

theorem Chip.unitUsers_flash (c : Chip) (u : Nat) : (c.unitUsers u).flash = c.flash := by
  unfold Chip.unitUsers
  extract_lets e members groups d1 one lost pairs
  repeat' split
  all_goals rfl

theorem Chip.failUnit_flash (c : Chip) (u : Nat) : (c.failUnit u).flash = c.flash := by
  unfold Chip.failUnit
  extract_lets e free m
  split
  · rfl
  · split
    · exact Chip.unitUsers_flash _ u
    · exact Chip.unitUsers_flash _ u

/-! A pseudo-channel that is retired -/

/-- What the ledger of page 4, a commit and an entry of the log leave. -/
structure Field.StaysRetired (f : Field) : Prop extends f.StaysInHbm where
  ledger : f.off ≠ pageAddr 4 0x20 ∧ f.off ≠ pageAddr 4 0x24
  sticky : f.off ≠ pageAddr 4 0x18

theorem Field.StaysRetired.header (hf : f.StaysRetired) {g : Field} (hg : g.off = 0x1_0004_0018 ∨ g.off = 0x1_0004_0020 ∨ g.off = 0x1_0004_0024) :
    g.clearOf f := by
  obtain ⟨-, ⟨hid, hst⟩, hsticky⟩ := hf
  exact .inl fun heq => by rcases hg with h | h | h <;> simp only [pageAddr] at * <;> omega

theorem Dev.Reads.ledgerHbm {e : Dev} (h : Dev.Reads f d e) (hf : f.StaysRetired) (id step state done : Nat) :
    Dev.Reads f d (e.ledger 4 id step state done) :=
  ((((h.put (hf.header (.inr (.inl rfl))) _).put (hf.header (.inr (.inl rfl))) _).put (hf.header (.inr (.inr rfl))) _).put
    (hf.header (.inr (.inr rfl))) _).when _ fun _ hx => hx.raise (hf.header (.inl rfl))

theorem Dev.Reads.capCommitHbm {e : Dev} (h : Dev.Reads f d e) (hf : f.StaysRetired) (old : Dev) : Dev.Reads f d (e.capCommit old) := by
  refine h.capCommit old (hf.place.clear (by decide)) (hf.place.clear (by decide)) fun p _ => .inl fun heq => ?_
  have hp : f.off = 0x1_0000_0000 + p * 0x1_0000 + 0x18 := heq
  have hplace := hf.place
  have hsticky : f.off ≠ 0x1_0004_0018 := hf.sticky
  unfold hbmPlace at hplace
  omega

/-- The marks of a channel that is retired. -/
def Dev.pcMarked (d : Dev) (pc : Nat) : Dev := (((d.raise (pcRetired pc)).lower (pcPresent pc)).raise F.hbmEvtRetire).permanent 4

/-- A channel's retirement ends with its ledger entry. -/
theorem Chip.retirePc_ledger {pc : Nat} (h : c.dev.on (pcRetired pc) = false) :
    ∃ x : Chip, (x.flash = c.flash ∧ ∀ f : Field, f.StaysRetired → Dev.Reads f (c.dev.pcMarked pc) x.dev)
      ∧ c.retirePc pc = x.on (fun e => e.ledger 4 pc 2 ledgerDone 2) := by
  rw [Chip.retirePc, if_neg (by rw [h]; decide)]
  refine ⟨_, ?_, rfl⟩
  split
  · exact ⟨Chip.failUnit_flash _ _, fun f hf => Dev.Reads.failUnit ((Dev.Reads.refl f (c.dev.pcMarked pc)).of_words rfl) hf.toStaysInHbm _⟩
  · exact ⟨rfl, fun f _ => (Dev.Reads.refl f (c.dev.pcMarked pc)).of_words rfl⟩

/-- What a channel's retirement leaves of the memory's registers once the channel is marked. -/
theorem Chip.retirePc_shows {pc : Nat} (h : c.dev.on (pcRetired pc) = false) :
    (c.retirePc pc).flash = c.flash ∧ ∀ f : Field, f.StaysRetired → Dev.Reads f (c.dev.pcMarked pc) (c.retirePc pc).dev := by
  obtain ⟨x, ⟨hflash, hreads⟩, hx⟩ := Chip.retirePc_ledger h
  rw [hx]
  exact ⟨(x.flash_on _).trans hflash, fun f hf => (hreads f hf).ledgerHbm hf _ _ _ _⟩

theorem Chip.retirePc_flash (c : Chip) (pc : Nat) : (c.retirePc pc).flash = c.flash := by
  cases hret : c.dev.on (pcRetired pc) with
  | true => rw [Chip.retirePc, if_pos hret]
  | false => exact (Chip.retirePc_shows hret).1

theorem Dev.Reads.retirePc (h : Dev.Reads f d c.dev) (hf : f.StaysRetired) {pc : Nat} (hmark : Dev.Reads f d (c.dev.pcMarked pc)) :
    Dev.Reads f d (c.retirePc pc).dev := by
  cases hret : c.dev.on (pcRetired pc) with
  | true =>
    rw [Chip.retirePc, if_pos hret]
    exact h
  | false => exact hmark.trans ((Chip.retirePc_shows hret).2 f hf)

end

end Sys2Proof.Machine

/-! What the retirement of a pseudo-channel and the training of HBM3 show (R512, R514, R644). -/

namespace Sys2Proof.Machine

set_option Elab.async false -- a proof at a time, within the memory of a check

/-! The fields that they show in -/

theorem pcRetired_stays {pc : Nat} (h : pc < 64) : (pcRetired pc).StaysRetired := by
  have hoff : (pcRetired pc).off = 0x1_0004_0128 + 4 * (pc / 32) := rfl
  exact ⟨⟨.inr (.inr (by omega)), by omega, .inl (by rw [hoff]; show _ ≠ 0x1_0004_0100; omega), .inl (by rw [hoff]; show _ ≠ 0x1_0004_0120; omega)⟩,
    by rw [hoff, pageAddr, pageAddr]; omega, by rw [hoff, pageAddr]; omega⟩

theorem pcPresent_stays {pc : Nat} (h : pc < 64) : (pcPresent pc).StaysRetired := by
  have hoff : (pcPresent pc).off = 0x1_0000_0118 + 4 * (pc / 32) := rfl
  exact ⟨⟨by unfold hbmPlace; omega, by omega, .inl (by rw [hoff]; show _ ≠ 0x1_0004_0100; omega), .inl (by rw [hoff]; show _ ≠ 0x1_0004_0120; omega)⟩,
    by rw [hoff, pageAddr, pageAddr]; omega, by rw [hoff, pageAddr]; omega⟩

theorem hbmEvtRetire_stays : F.hbmEvtRetire.StaysRetired := ⟨⟨by decide, by decide, by decide, by decide⟩, by decide, by decide⟩

theorem hbmPerm_stays : (F.hdrFaultPerm.page 4).StaysRetired := ⟨⟨by decide, by decide, by decide, by decide⟩, by decide, by decide⟩

theorem hbmTrained0_stays : F.hbmStatTrained0.StaysRetired := ⟨⟨by decide, by decide, by decide, by decide⟩, by decide, by decide⟩

theorem hbmTrained1_stays : F.hbmStatTrained1.StaysRetired := ⟨⟨by decide, by decide, by decide, by decide⟩, by decide, by decide⟩

theorem hbmTrainFail_stays : F.hbmEvtTrainFail.StaysRetired := ⟨⟨by decide, by decide, by decide, by decide⟩, by decide, by decide⟩

section
variable {d : Dev} {pc : Nat}

/-- The marks of a channel. -/
theorem Dev.pcMarked_shows (h : pc < 64) : (d.pcMarked pc).on (pcRetired pc) = true ∧ (d.pcMarked pc).on (pcPresent pc) = false
    ∧ (d.pcMarked pc).on F.hbmEvtRetire = true ∧ (d.pcMarked pc).on (F.hdrFaultPerm.page 4) = true := by
  have hret : (pcRetired pc).off = 0x1_0004_0128 + 4 * (pc / 32) := rfl
  have hpres : (pcPresent pc).off = 0x1_0000_0118 + 4 * (pc / 32) := rfl
  have hlo : pc % 32 + 1 ≤ 32 := by omega
  obtain ⟨x, hx⟩ : ∃ x, x = d.raise (pcRetired pc) := ⟨_, rfl⟩
  obtain ⟨y, hy⟩ : ∃ y, y = x.lower (pcPresent pc) := ⟨_, rfl⟩
  obtain ⟨z, hz⟩ : ∃ z, z = y.raise F.hbmEvtRetire := ⟨_, rfl⟩
  have hmarked : d.pcMarked pc = z.permanent 4 := by rw [Dev.pcMarked, ← hx, ← hy, ← hz]
  have hlast {f : Field} (hs : (F.hdrStickyFault.page 4).clearOf f) (hp : (F.hdrFaultPerm.page 4).clearOf f) : (z.permanent 4).on f = z.on f :=
    ((Dev.Reads.refl f z).permanent hs hp).on
  have hevt {f : Field} (hf : F.hbmEvtRetire.clearOf f) : z.on f = y.on f := hz ▸ ((Dev.Reads.refl f y).raise hf).on
  rw [hmarked]
  refine ⟨?_, ?_, ?_, ?_⟩
  · rw [hlast (.inl (by rw [hret]; show _ ≠ 0x1_0004_0018; omega)) (.inl (by rw [hret]; show _ ≠ 0x1_0004_0028; omega)),
      hevt (.inl (by rw [hret]; show _ ≠ 0x1_0004_0120; omega)), hy, ((Dev.Reads.refl (pcRetired pc) x).lower (.inl (by rw [hret, hpres]; omega))).on, hx]
    exact d.on_raise (pcRetired pc) hlo (Nat.le_refl 1)
  · rw [hlast (.inl (by rw [hpres]; show _ ≠ 0x1_0004_0018; omega)) (.inl (by rw [hpres]; show _ ≠ 0x1_0004_0028; omega)),
      hevt (.inl (by rw [hpres]; show _ ≠ 0x1_0004_0120; omega)), hy]
    exact x.on_lower (pcPresent pc) hlo
  · rw [hlast (by decide) (by decide), hz]
    exact y.on_raise F.hbmEvtRetire (by decide) (by decide)
  · rw [Dev.permanent]
    exact Dev.on_raise _ (F.hdrFaultPerm.page 4) (by decide) (by decide)

theorem Dev.Reads.pcMarked {f : Field} {e : Dev} (h : Dev.Reads f d e) (hret : (pcRetired pc).clearOf f) (hpres : (pcPresent pc).clearOf f)
    (hevt : F.hbmEvtRetire.clearOf f) (hsticky : (F.hdrStickyFault.page 4).clearOf f) (hperm : (F.hdrFaultPerm.page 4).clearOf f) :
    Dev.Reads f d (e.pcMarked pc) := (((h.raise hret).lower hpres).raise hevt).permanent hsticky hperm

end

/-- R644: the event of a channel. -/
theorem Chip.pcEvent_shows {c : Chip} {pc : Nat} (h : c.dev.on (pcRetired pc) = false) :
    (c.pcEvent pc).flash = c.flash ∧ ∀ f : Field, f.StaysRetired → Dev.Reads f (c.dev.pcMarked pc) (c.pcEvent pc).dev := by
  obtain ⟨hflash, hreads⟩ := Chip.retirePc_shows h
  rw [Chip.pcEvent, if_neg (by rw [h]; decide)]
  refine ⟨(Chip.log_flash _ _ _).trans ((Chip.flash_on _ _).trans hflash), fun f hf => ?_⟩
  have hseq : f.off ≠ Reg.mgtLogSeq := fun heq => (show ¬ hbmPlace Reg.mgtLogSeq by decide) (heq ▸ hf.place)
  exact Dev.Reads.log (c := (c.retirePc pc).on fun e => e.capCommit c.dev) ((hreads f hf).capCommitHbm hf c.dev) hseq 4 false

/-! Training -/

section
variable (d : Dev)

/-- Each unit has its own channel, and both stacks are trained. -/
def Dev.unitsOwn : Dev :=
  ((d.each 64 (fun e u => (e.put (F.hbmUnitPc.at 4 u) u).raise (F.hbmUnitBacked.at 4 u))).put F.hbmStatReserveFree 15
    |>.raise F.hbmStatTrained0).raise F.hbmStatTrained1

theorem Dev.unitsOwn_trained : d.unitsOwn.on F.hbmStatTrained0 = true ∧ d.unitsOwn.on F.hbmStatTrained1 = true ∧ d.unitsOwn.get F.hbmStatReserveFree = 15 := by
  obtain ⟨x, hx⟩ : ∃ x, x = d.each 64 (fun e u => (e.put (F.hbmUnitPc.at 4 u) u).raise (F.hbmUnitBacked.at 4 u)) := ⟨_, rfl⟩
  rw [Dev.unitsOwn, ← hx]
  refine ⟨?_, Dev.on_raise _ F.hbmStatTrained1 (by decide) (by decide), ?_⟩
  · rw [((Dev.Reads.refl F.hbmStatTrained0 _).raise (g := F.hbmStatTrained1) (by decide)).on]
    exact Dev.on_raise _ F.hbmStatTrained0 (by decide) (by decide)
  · have hread : ((((x.put F.hbmStatReserveFree 15).raise F.hbmStatTrained0).raise F.hbmStatTrained1)).get F.hbmStatReserveFree
        = (x.put F.hbmStatReserveFree 15).get F.hbmStatReserveFree :=
      ((Dev.Reads.refl F.hbmStatReserveFree _).raise (by decide)).raise (by decide)
    rw [hread]
    exact Dev.get_put_same _ _ _ (by decide)

theorem Dev.unitsOwn_unit {u : Nat} (h : u < 64) : d.unitsOwn.hbmBacked u = true ∧ d.unitsOwn.unitPc u = u := by
  have hclear {f : Field} (hf : f.off = 0x1_0004_0200 + 4 * u) {i : Nat} (hi : i ≠ u) {g : Field} (hg : g.off = 0x1_0004_0200) : (g.at 4 i).clearOf f :=
    .inl (show f.off ≠ g.off + 4 * i by omega)
  have hstat {f : Field} (hf : f.off = 0x1_0004_0200 + 4 * u) {g : Field} (hg : g.off = 0x1_0004_0100) : g.clearOf f := .inl (by omega)
  have hother {f : Field} (hf : f.off = 0x1_0004_0200 + 4 * u) (l : List Nat) (hl : u ∉ l) (e : Dev) :
      Dev.Reads f e (l.foldl (fun e u => (e.put (F.hbmUnitPc.at 4 u) u).raise (F.hbmUnitBacked.at 4 u)) e) :=
    (Dev.Reads.refl f e).foldl fun x i hi hx => (hx.put (hclear hf (fun h => hl (h ▸ hi)) rfl) _).raise (hclear hf (fun h => hl (h ▸ hi)) rfl)
  obtain ⟨l, k, hlk, hul, huk⟩ : ∃ l k, List.range 64 = l ++ u :: k ∧ u ∉ l ∧ u ∉ k := by
    obtain ⟨l, k, hlk⟩ := List.append_of_mem (List.mem_range.mpr h)
    have hnodup : (l ++ u :: k).Nodup := hlk ▸ List.nodup_range
    obtain ⟨-, hk, hdis⟩ := List.nodup_append.mp hnodup
    exact ⟨l, k, hlk, fun hl => hdis u hl u List.mem_cons_self rfl, (List.nodup_cons.mp hk).1⟩
  have hread {f : Field} (hf : f.off = 0x1_0004_0200 + 4 * u) (x : Dev) :
      Dev.Reads f ((x.put (F.hbmUnitPc.at 4 u) u).raise (F.hbmUnitBacked.at 4 u)) ((((k.foldl (fun e u => (e.put (F.hbmUnitPc.at 4 u) u).raise
        (F.hbmUnitBacked.at 4 u)) ((x.put (F.hbmUnitPc.at 4 u) u).raise (F.hbmUnitBacked.at 4 u))).put F.hbmStatReserveFree 15).raise
        F.hbmStatTrained0).raise F.hbmStatTrained1) :=
    (((hother hf k huk _).put (hstat hf rfl) _).raise (hstat hf rfl)).raise (hstat hf rfl)
  rw [Dev.hbmBacked, Dev.unitPc, Dev.unitsOwn, Dev.each, hlk, List.foldl_append, List.foldl_cons]
  refine ⟨?_, ?_⟩
  · rw [(hread (f := F.hbmUnitBacked.at 4 u) rfl _).on]
    exact Dev.on_raise _ (F.hbmUnitBacked.at 4 u) (show 6 + 1 ≤ 32 by decide) (Nat.le_refl 1)
  · refine Eq.trans (hread (f := F.hbmUnitPc.at 4 u) rfl _) ?_
    rw [Dev.raise, Dev.get_put_apart _ _ (.inr ⟨show 6 + 1 ≤ 32 by decide, show 0 + 6 ≤ 32 by decide, .inl (show 0 + 6 ≤ 6 by decide)⟩),
      Dev.get_put_same _ _ _ (show 0 + 6 ≤ 32 by decide)]
    exact Nat.mod_eq_of_lt h

end

end Sys2Proof.Machine

/-! The end of the training of HBM3 (R512, R514). -/

namespace Sys2Proof.Machine

set_option Elab.async false -- a proof at a time, within the memory of a check

theorem Chip.dev_on (c : Chip) (g : Dev → Dev) : (c.on g).dev = g c.dev := rfl

/-- A fold whose steps write memory, or do nothing. -/
theorem Chip.copyLog_fold (c : Chip) : ∃ (l : List Nat) (g : Chip → Nat → Chip),
    (∀ x i, ∃ (b : Bool) (m : List Host.Cell), g x i = if b then { x with mem := m } else x) ∧ c.copyLog = l.foldl g c := by
  rw [Chip.copyLog]
  exact ⟨_, _, fun x i => ⟨_, _, rfl⟩, rfl⟩

/-- The copies of the log's tail change the memory alone. -/
theorem Chip.copyLog_keeps (c : Chip) : c.copyLog.dev = c.dev ∧ c.copyLog.flash = c.flash := by
  obtain ⟨l, g, hg, hfold⟩ := c.copyLog_fold
  rw [hfold]
  refine List.foldlRecOn (motive := fun x : Chip => x.dev = c.dev ∧ x.flash = c.flash) _ _ ⟨rfl, rfl⟩ fun x hx i _ => ?_
  obtain ⟨b, m, hstep⟩ := hg x i
  rw [hstep]
  cases b <;> exact hx

/-- `x` reads the field `f` as `d` does, and has the flash of `c`. -/
structure Chip.Holds (f : Field) (d : Dev) (c x : Chip) : Prop where
  reads : Dev.Reads f d x.dev
  flash : x.flash = c.flash

namespace Chip.Holds

variable {f : Field} {d : Dev} {c x : Chip}

theorem on (h : c.Holds f d x) {g : Dev → Dev} (hg : ∀ e, Dev.Reads f d e → Dev.Reads f d (g e)) : c.Holds f d (x.on g) :=
  ⟨hg _ h.reads, (x.flash_on g).trans h.flash⟩

theorem when (h : c.Holds f d x) (b : Bool) {g : Chip → Chip} (hg : c.Holds f d (g x)) : c.Holds f d (x.when b g) := by
  cases b with
  | false => exact h
  | true =>
    rw [Chip.when_eq rfl]
    exact hg

theorem foldl {α : Type} (h : c.Holds f d x) {l : List α} {g : Chip → α → Chip} (hg : ∀ y a, a ∈ l → c.Holds f d y → c.Holds f d (g y a)) :
    c.Holds f d (l.foldl g x) := List.foldlRecOn l g h fun y hy a ha => hg y a ha hy

theorem log (h : c.Holds f d x) (hf : hbmPlace f.off) (p : Nat) (sec : Bool) : c.Holds f d (x.log p sec) :=
  ⟨h.reads.log (fun heq => (show ¬ hbmPlace Reg.mgtLogSeq by decide) (heq ▸ hf)) p sec, (x.log_flash p sec).trans h.flash⟩

theorem copyLog (h : c.Holds f d x) : c.Holds f d x.copyLog := by
  obtain ⟨hdev, hflash⟩ := x.copyLog_keeps
  exact ⟨hdev ▸ h.reads, hflash.trans h.flash⟩

theorem failUnit (h : c.Holds f d x) (hf : f.StaysInHbm) (u : Nat) : c.Holds f d (x.failUnit u) :=
  ⟨h.reads.failUnit hf u, (x.failUnit_flash u).trans h.flash⟩

end Chip.Holds

/-- The status of training, apart of what marks a channel. -/
structure Field.IsTrained (f : Field) : Prop extends f.StaysRetired where
  off : f.off = 0x1_0004_0100

theorem Field.IsTrained.clear {f g : Field} (hf : f.IsTrained) (hg : g.off ≠ 0x1_0004_0100) : g.clearOf f := .inl fun heq => hg (heq ▸ hf.off)

theorem Chip.Holds.retirePc {f : Field} {d : Dev} {c x : Chip} (h : c.Holds f d x) (hf : f.IsTrained) (pc : Nat) (hpc : pc < 64) :
    c.Holds f d (x.retirePc pc) := by
  have hret : (pcRetired pc).off = 0x1_0004_0128 + 4 * (pc / 32) := rfl
  have hpres : (pcPresent pc).off = 0x1_0000_0118 + 4 * (pc / 32) := rfl
  exact ⟨h.reads.retirePc hf.toStaysRetired (h.reads.pcMarked (hf.clear (by omega)) (hf.clear (by omega)) (hf.clear (by decide))
    (hf.clear (by decide)) (hf.clear (by decide))), (x.retirePc_flash pc).trans h.flash⟩

section
variable {f : Field} {d : Dev} {c : Chip}

/-- The capabilities of the memory that come up. -/
theorem Dev.Reads.bitsUpHbm {e : Dev} (h : Dev.Reads f d e) (hf : f.off ≠ 0x1_0000_0118 ∧ f.off ≠ 0x1_0000_011c) : Dev.Reads f d (e.putAll (e.bitsUp 4)) := by
  refine h.putAll fun x hx => ?_
  obtain ⟨g, hg, rfl⟩ := List.mem_map.mp hx
  have hg' : g = ⟨Reg.devCapHbm0, 0, 32⟩ ∨ g = ⟨Reg.devCapHbm1, 0, 32⟩ := by simpa [pageBits] using hg
  rcases hg' with rfl | rfl
  · exact .inl hf.1
  · exact .inl hf.2

/-- Both stacks are trained at the end, whatever failed. -/
theorem Chip.trained_holds (hf : f.IsTrained) (failed : List Nat) (hfail : ∀ pc ∈ failed, pc < 64) : c.Holds f c.dev.unitsOwn (c.trained failed) := by
  unfold Chip.trained
  extract_lets old on before c1 c2 c3 c4
  have hown (e : Dev) : on e = e.unitsOwn := rfl
  clear_value on
  have hon : c.Holds f c.dev.unitsOwn (c.on on) := ⟨by rw [Chip.dev_on, hown]; exact .refl f _, c.flash_on on⟩
  have h1 : c.Holds f c.dev.unitsOwn c1 := hon.foldl fun y pc _ hy => hy.failUnit hf.toStaysInHbm _
  have h2 : c.Holds f c.dev.unitsOwn c2 := h1.foldl fun y pc hpc hy => hy.retirePc hf pc (hfail pc hpc)
  have h3 : c.Holds f c.dev.unitsOwn c3 := h2.when _ (h2.on fun e he => he.raise (hf.clear (by decide)))
  have h4 : c.Holds f c.dev.unitsOwn c4 := h3.when _ (h3.on fun e he => he.bitsUpHbm (by rw [hf.off]; decide))
  exact ((h4.on fun e he => he.capCommitHbm hf.toStaysRetired old).foldl fun y _ _ hy => hy.log hf.place 4 false).copyLog

end

end Sys2Proof.Machine

/-! The counts of a pass of the scrubber (R505, R506, R513). -/

namespace Sys2Proof.Machine

set_option Elab.async false -- a proof at a time, within the memory of a check

theorem Part.blind_sram (x : Part) (h : x ≠ .sram) : x.Blind Dev.sram := by
  cases x
  case sram => exact absurd rfl h
  all_goals exact fun _ _ => rfl

theorem Dev.Only.sram {S : List Part} {d e : Dev} (h : Dev.Only S d e) (hS : Part.sram ∉ S := by decide) : e.sram = d.sram :=
  h _ Dev.sram fun x hx => x.blind_sram fun hxe => hS (hxe ▸ hx)

/-- A counter of 32 bits that each step moves on by one, or not. -/
theorem Dev.get_foldl_count {α : Type} {f : Field} (hf : f.len = 32) {g : Dev → α → Dev} {q : α → Bool}
    (hg : ∀ x a, (g x a).get f = (x.get f + bitOf (q a)) % 2 ^ 32) (l : List α) (d : Dev) :
    (l.foldl g d).get f = (d.get f + l.countP q) % 2 ^ 32 := by
  induction l generalizing d with
  | nil => exact (Nat.mod_eq_of_lt (hf ▸ d.get_lt f)).symm
  | cons a l ih =>
    rw [List.foldl_cons, ih, hg, Nat.mod_add_mod, List.countP_cons, bitOf]
    congr 1
    split <;> omega

section
variable {d : Dev} {f evt : Field}

theorem Dev.get_counted (hf : f.lo + f.len ≤ 32) (he : evt.clearOf f) : ((d.roll f 1).raise evt).get f = (d.get f + 1) % 2 ^ f.len :=
  Eq.trans ((Dev.Reads.refl f (d.roll f 1)).raise he) (Dev.get_roll_same d hf 1)

theorem Dev.get_uncounted {g : Field} (hg : g.clearOf f) (he : evt.clearOf f) : ((d.roll g 1).raise evt).get f = d.get f :=
  ((Dev.Reads.refl f d).put hg _).raise he

end

/-! SRAM -/

/-- A read that is neither clean nor uncorrectable. -/
def isCe (e : EccSeen) : Bool := e != .clean && !isUe e

section
variable (d : Dev) (p : Nat × Nat) (e : EccSeen)

theorem Dev.only_occurrence (c : Nat) : Dev.Only [.modes] d (d.occurrence c).1 := .part .modes (by decide) fun _ _ hp => hp d _

theorem Dev.only_sramCe : Dev.Only [.words, .sram, .modes] d (d.sramCe p) := by
  unfold Dev.sramCe
  extract_lets r
  have hr : Dev.Only [.words, .modes] d r.1 := (((d.only_roll _ 1).step (Dev.only_raise _ _)).mono (by decide)).step (Dev.only_occurrence _ _)
  exact (hr.mono (by decide)).trans (.whenStep _ fun x => (x.only_sramDue p.1).mono (by decide))

theorem Dev.only_sramSeen : Dev.Only [.words, .sram, .modes] d (d.sramSeen p e) :=
  Dev.sramSeen_of (P := fun x => Dev.Only [.words, .sram, .modes] d x) d p e (.refl _ d)
    (fun due => ((d.only_sramErr p e).mono (by decide)).step (Dev.only_sramUe _ p due)) (((d.only_sramErr p e).mono (by decide)).step (Dev.only_sramCe _ p))

/-- `MEM.LAST_ERR` and the transients beside another register. -/
theorem Dev.reads_sramErr {f : Field} (hlast : f.off ≠ F.memLastErrUe.off) (htr : f.off ≠ (F.hdrFaultTransient.page 3).off) :
    Dev.Reads f d (d.sramErr p e) := by
  unfold Dev.sramErr Dev.transient Dev.bump
  exact ((((Dev.Reads.refl f d).put (g := F.memLastErrSubbank) (.inl hlast) _).put (g := F.memLastErrWord) (.inl hlast) _).put
    (g := F.memLastErrUe) (.inl hlast) _).put (g := F.hdrFaultTransient.page 3) (.inl htr) _

theorem Dev.sramUe_words (due : Bool) : (d.sramUe p due).words = ((d.roll F.memUeCount 1).raise F.memEvtUe).words := by
  rw [Dev.sramUe, Dev.when_sramDue_words]

theorem Dev.sramCe_words : (d.sramCe p).words = ((d.roll F.memCeCount 1).raise F.memEvtCe).words := by
  rw [Dev.sramCe, Dev.when_sramDue_words, Dev.occurrence_words]

theorem Dev.get_sramSeen_ue : (d.sramSeen p e).get F.memUeCount = (d.get F.memUeCount + bitOf (isUe e)) % 2 ^ 32 := by
  have herr : (d.sramErr p e).get F.memUeCount = d.get F.memUeCount := d.reads_sramErr p e (by decide) (by decide)
  have hkeep : d.get F.memUeCount = (d.get F.memUeCount + 0) % 2 ^ 32 := (Nat.mod_eq_of_lt (d.get_lt F.memUeCount)).symm
  rw [d.sramSeen_eq]
  split
  case isTrue hclean => rw [hclean]; exact hkeep
  case isFalse =>
    split
    case isTrue hue =>
      rw [hue, Dev.get_of_words (Dev.sramUe_words _ p _), Dev.get_counted (by decide) (by decide), herr]
      rfl
    case isFalse hce =>
      rw [Bool.eq_false_iff.mpr hce, Dev.get_of_words (Dev.sramCe_words _ p), Dev.get_uncounted (by decide) (by decide), herr]
      exact hkeep

theorem Dev.get_sramSeen_ce : (d.sramSeen p e).get F.memCeCount = (d.get F.memCeCount + bitOf (isCe e)) % 2 ^ 32 := by
  have herr : (d.sramErr p e).get F.memCeCount = d.get F.memCeCount := d.reads_sramErr p e (by decide) (by decide)
  have hkeep : d.get F.memCeCount = (d.get F.memCeCount + 0) % 2 ^ 32 := (Nat.mod_eq_of_lt (d.get_lt F.memCeCount)).symm
  rw [d.sramSeen_eq]
  split
  case isTrue hclean => rw [hclean]; exact hkeep
  case isFalse hne =>
    split
    case isTrue hue =>
      rw [isCe, hue, Bool.not_true, Bool.and_false, Dev.get_of_words (Dev.sramUe_words _ p _), Dev.get_uncounted (by decide) (by decide), herr]
      exact hkeep
    case isFalse hce =>
      rw [isCe, Bool.eq_false_iff.mpr hce, bne_iff_ne.mpr hne, Dev.get_of_words (Dev.sramCe_words _ p), Dev.get_counted (by decide) (by decide), herr]
      rfl

end

/-! HBM3 -/

section
variable (d : Dev) (a : Nat) (e : EccSeen)

theorem Dev.occurrences_words (c n : Nat) : (d.occurrences c n).1.words = d.words :=
  List.foldlRecOn (motive := fun x : Dev × Bool => x.1.words = d.words) _ _ rfl fun _ hx _ _ => hx

theorem Dev.pcFaulty_words (pc : Nat) : (d.pcFaulty pc).words = d.words := by
  unfold Dev.pcFaulty
  split <;> rfl

/-- `HBM.LAST_ERR`, the transients and the retries, which every read with an error changes. -/
def Dev.hbmErr : Dev :=
  ((((((d.setAddr F.hbmLastErrLoAddr F.hbmLastErrHiAddr a).put F.hbmLastErrHiPc (d.unitPc (hbmUnitOf a))).put F.hbmLastErrHiUe
    (bitOf (isUe e))).transient 4 (eccTransients e)).roll F.hbmRetryCount (eccRetries e)))

/-- The count and the event of a read with an error. -/
def Dev.hbmCounted : Dev := if isUe e then (d.roll F.hbmUeCount 1).raise F.hbmEvtUe else (d.roll F.hbmCeCount 1).raise F.hbmEvtCe

theorem Dev.hbmSeen_words : (d.hbmSeen a e).words = (if e = .clean then d else (d.hbmErr a e).hbmCounted e).words := by
  have hlast (x : Dev) (c n pc : Nat) (b : Bool → Bool) : ((x.occurrences c n).1.when (b (x.occurrences c n).2) fun y => y.pcFaulty pc).words = x.words :=
    Dev.when_of (P := fun y => y.words = x.words) _ (x.occurrences_words c n) (((x.occurrences c n).1.pcFaulty_words pc).trans (x.occurrences_words c n))
  unfold Dev.hbmSeen
  split
  · rfl
  · refine (hlast _ _ _ _ fun r => r || isUe e).trans ?_
    rw [Dev.hbmCounted]
    split <;> rfl

theorem Dev.reads_hbmErr {f : Field} (hlo : f.off ≠ F.hbmLastErrLoAddr.off) (hhi : f.off ≠ F.hbmLastErrHiAddr.off)
    (htr : f.off ≠ (F.hdrFaultTransient.page 4).off) (hretry : f.off ≠ F.hbmRetryCount.off) : Dev.Reads f d (d.hbmErr a e) := by
  unfold Dev.hbmErr Dev.setAddr Dev.transient Dev.bump Dev.roll
  exact ((((((Dev.Reads.refl f d).put (g := F.hbmLastErrLoAddr) (.inl hlo) _).put (g := F.hbmLastErrHiAddr) (.inl hhi) _).put
    (g := F.hbmLastErrHiPc) (.inl hhi) _).put (g := F.hbmLastErrHiUe) (.inl hhi) _).put (g := F.hdrFaultTransient.page 4) (.inl htr) _).put
    (g := F.hbmRetryCount) (.inl hretry) _

theorem Dev.get_hbmSeen_ue : (d.hbmSeen a e).get F.hbmUeCount = (d.get F.hbmUeCount + bitOf (isUe e)) % 2 ^ 32 := by
  have herr : (d.hbmErr a e).get F.hbmUeCount = d.get F.hbmUeCount := d.reads_hbmErr a e (by decide) (by decide) (by decide) (by decide)
  have hkeep : d.get F.hbmUeCount = (d.get F.hbmUeCount + 0) % 2 ^ 32 := (Nat.mod_eq_of_lt (d.get_lt F.hbmUeCount)).symm
  rw [Dev.get_of_words (d.hbmSeen_words a e)]
  split
  case isTrue hclean => rw [hclean]; exact hkeep
  case isFalse =>
    rw [Dev.hbmCounted]
    split
    case isTrue hue =>
      rw [Dev.get_counted (by decide) (by decide), herr, hue]
      rfl
    case isFalse hce =>
      rw [Bool.eq_false_iff.mpr hce, Dev.get_uncounted (by decide) (by decide), herr]
      exact hkeep

theorem Dev.get_hbmSeen_ce : (d.hbmSeen a e).get F.hbmCeCount = (d.get F.hbmCeCount + bitOf (isCe e)) % 2 ^ 32 := by
  have herr : (d.hbmErr a e).get F.hbmCeCount = d.get F.hbmCeCount := d.reads_hbmErr a e (by decide) (by decide) (by decide) (by decide)
  have hkeep : d.get F.hbmCeCount = (d.get F.hbmCeCount + 0) % 2 ^ 32 := (Nat.mod_eq_of_lt (d.get_lt F.hbmCeCount)).symm
  rw [Dev.get_of_words (d.hbmSeen_words a e)]
  split
  case isTrue hclean => rw [hclean]; exact hkeep
  case isFalse hne =>
    rw [Dev.hbmCounted, isCe, bne_iff_ne.mpr hne]
    split
    case isTrue hue =>
      rw [hue, Dev.get_uncounted (by decide) (by decide), herr]
      exact hkeep
    case isFalse hce =>
      rw [Bool.eq_false_iff.mpr hce, Dev.get_counted (by decide) (by decide), herr]
      rfl

/-- A read of HBM3 shows in page 4. -/
theorem Dev.reads_hbmSeen_passes : Dev.Reads F.memScrubPassCount d (d.hbmSeen a e) := by
  refine Eq.trans (Dev.get_of_words (d.hbmSeen_words a e) _) ?_
  split
  · rfl
  · have herr := d.reads_hbmErr a e (f := F.memScrubPassCount) (by decide) (by decide) (by decide) (by decide)
    rw [Dev.hbmCounted]
    split
    · exact (herr.put (g := F.hbmUeCount) (by decide) _).raise (g := F.hbmEvtUe) (by decide)
    · exact (herr.put (g := F.hbmCeCount) (by decide) _).raise (g := F.hbmEvtCe) (by decide)

end

end Sys2Proof.Machine

/-! The retirement of a lane (R54). -/

namespace Sys2Proof.Machine

set_option Elab.async false -- a proof at a time, within the memory of a check

section
variable (d : Dev) (n : Nat)

/-- The marks of a lane that is retired: its page is retired, absent, and faulty for good. -/
def Dev.laneMarked : Dev :=
  ((d.raise (F.hdrCapRetired.page (lanePage n))).putAll ((pageBits (lanePage n)).map (fun f => (f, 0)))).permanent (lanePage n)

/-- The lane's outputs stop, and its effective state is 0. -/
def Dev.laneStopped (r : Nat) : Dev :=
  (((d.squelchLane n).when (decide (n < 96)) (fun e => e.aisFrom n)).setEff (lanePage n) 0 r).protSee

theorem Chip.retireLane_eq {c : Chip} (h : c.dev.retired (lanePage n) = false) :
    ∃ r, c.retireLane n = ({ c with dev := ((c.dev.laneMarked n).laneStopped n r).capCommit c.dev } : Chip).log (lanePage n) false := by
  rw [Chip.retireLane, if_neg (by rw [h]; decide)]
  exact ⟨_, rfl⟩

end

/-- A field of a lane's header, or of the device's page, that no mark of another kind shares. -/
structure Field.StaysAtLane (f : Field) : Prop where
  page : f.off < 0x1_0001_0000 ∨ 0x1_0010_0000 ≤ f.off
  sticky : f.off % 0x1_0000 ≠ 0x18
  skew : f.off % 0x1_0000 ≠ 0x14
  gen : f.off ≠ 0x1_0000_0100

section
variable {f : Field} {d e : Dev}

theorem Dev.Reads.squelchLane (h : Dev.Reads f d e) (hf : f.StaysAtLane) (n : Nat) : Dev.Reads f d (e.squelchLane n) := by
  have hpage := hf.page
  refine h.each 4 fun x i hi hx => hx.when _ fun y hy => ?_
  unfold Dev.squelchLrc
  split
  · exact hy
  · refine (hy.raise (.inl ?_)).raise (.inl ?_)
    · show f.off ≠ Reg.clkLrc + 4 * i
      simp only [Reg.clkLrc]
      omega
    · show f.off ≠ 0x1_0001_0018
      omega

theorem Dev.Reads.skewFollow (h : Dev.Reads f d e) (hf : f.StaysAtLane) (p : Nat) : Dev.Reads f d (e.skewFollow p) := by
  have hskew := hf.skew
  unfold Dev.skewFollow
  split
  · split
    · exact h
    · exact h.of_words rfl
  · refine Dev.Reads.lower (h.of_words rfl) (.inl ?_)
    show f.off ≠ 0x1_0000_0000 + p * 0x1_0000 + 0x14
    omega

theorem Dev.Reads.capCommitLane (h : Dev.Reads f d e) (hf : f.StaysAtLane) (old : Dev) : Dev.Reads f d (e.capCommit old) := by
  obtain ⟨-, hsticky, -, hgen⟩ := hf
  refine h.capCommit old (.inl hgen) (.inl ?_) fun p _ => .inl ?_
  · show f.off ≠ 0x1_0000_0018
    omega
  · show f.off ≠ 0x1_0000_0000 + p * 0x1_0000 + 0x18
    omega

theorem Dev.Reads.laneStopped (h : Dev.Reads f d e) (hf : f.StaysAtLane) {n : Nat} (heff : f.off ≠ (F.hdrEffState.page (lanePage n)).off) (r : Nat) :
    Dev.Reads f d (e.laneStopped n r) := by
  have hais : Dev.Reads f d ((e.squelchLane n).when (decide (n < 96)) (fun x => x.aisFrom n)) :=
    (h.squelchLane hf n).when _ fun x hx => hx.of_only (x.only_aisFrom n)
  have hset := ((hais.put (g := F.hdrEffState.page (lanePage n)) (.inl heff) 0).put (g := F.hdrEffReason.page (lanePage n)) (.inl heff) r).skewFollow hf
    (lanePage n)
  exact hset.of_only (Dev.only_protSee _)

/-- The lane's effective state, at the end. -/
theorem Dev.laneStopped_eff (n r : Nat) : (d.laneStopped n r).eff (lanePage n) = 0 := by
  have hoff : (F.hdrEffState.page (lanePage n)).off = 0x1_0000_0000 + (n + 0x10) * 0x1_0000 + 0x10 := rfl
  have hstays : (F.hdrEffState.page (lanePage n)).StaysAtLane := ⟨.inr (by omega), by omega, by omega, by omega⟩
  obtain ⟨x, hx⟩ : ∃ x, x = (d.squelchLane n).when (decide (n < 96)) (fun e => e.aisFrom n) := ⟨_, rfl⟩
  rw [Dev.laneStopped, ← hx, Dev.setEff, Dev.eff]
  refine Eq.trans (((Dev.Reads.refl _ ((x.put (F.hdrEffState.page (lanePage n)) 0).put (F.hdrEffReason.page (lanePage n)) r)).skewFollow hstays
    (lanePage n)).of_only (Dev.only_protSee _)) ?_
  rw [Dev.get_put_apart _ _ (.inr ⟨show 4 + 4 ≤ 32 by decide, show 0 + 2 ≤ 32 by decide, .inl (show 0 + 2 ≤ 4 by decide)⟩),
    Dev.get_put_same _ _ _ (show 0 + 2 ≤ 32 by decide), Nat.zero_mod]

/-- The lane's bit of the device's capabilities. -/
def lanePresent (n : Nat) : Field :=
  if n < 96 then ⟨Reg.devCapPlane0 + 4 * (n / 32), n % 32, 1⟩ else ⟨Reg.devCapMlane, n - 96, 1⟩

theorem pageBits_lane (n : Nat) : pageBits (lanePage n) = [lanePresent n] := by
  unfold pageBits lanePage lanePresent
  rw [if_neg (by omega), if_neg (by omega), if_neg (by omega), if_neg (by omega), if_neg (by omega), if_neg (by omega), if_neg (by omega)]
  by_cases h : n < 96
  · rw [if_pos (by omega), if_pos h, Nat.add_sub_cancel]
  · rw [if_neg (by omega), if_neg h, show n + 0x10 - 0x70 = n - 96 by omega]

theorem Dev.present_lane (n : Nat) : d.present (lanePage n) = d.on (lanePresent n) := by
  unfold Dev.present lanePage lanePresent
  rw [if_neg (by omega), if_neg (by omega), if_neg (by omega), if_neg (by omega), if_neg (by omega), if_neg (by omega), if_neg (by omega),
    if_neg (by omega)]
  by_cases h : n < 96
  · rw [if_pos (by omega), if_pos h, Nat.add_sub_cancel]
  · rw [if_neg (by omega), if_neg h, show n + 0x10 - 0x70 = n - 96 by omega]

/-- The capabilities' registers of the lanes. -/
theorem lanePresent_place (n : Nat) (hn : n < 104) : (lanePresent n).off < 0x1_0001_0000 ∧ 0x1_0000_0104 ≤ (lanePresent n).off
    ∧ (lanePresent n).lo + 1 ≤ 32 := by
  unfold lanePresent
  split
  · simp only [Reg.devCapPlane0]
    omega
  · simp only [Reg.devCapMlane]
    omega

theorem Dev.laneMarked_retired (n : Nat) (hn : n < 104) : (d.laneMarked n).on (F.hdrCapRetired.page (lanePage n)) = true := by
  have hoff : (F.hdrCapRetired.page (lanePage n)).off = 0x1_0000_0000 + (n + 0x10) * 0x1_0000 + 8 := rfl
  obtain ⟨hlow, -, -⟩ := lanePresent_place n hn
  refine ((((Dev.Reads.refl (F.hdrCapRetired.page (lanePage n)) _).putAll fun x hx => .inl ?_).permanent (.inl ?_) (.inl ?_)).on).trans
    (d.on_raise _ (show 2 + 1 ≤ 32 by decide) (Nat.le_refl 1))
  · rw [pageBits_lane] at hx
    rw [List.mem_singleton.mp hx]
    show _ ≠ (lanePresent n).off
    omega
  · show (F.hdrCapRetired.page (lanePage n)).off ≠ 0x1_0000_0000 + (n + 0x10) * 0x1_0000 + 0x18
    omega
  · show (F.hdrCapRetired.page (lanePage n)).off ≠ 0x1_0000_0000 + (n + 0x10) * 0x1_0000 + 0x28
    omega

theorem Dev.laneMarked_perm (n : Nat) : (d.laneMarked n).on (F.hdrFaultPerm.page (lanePage n)) = true :=
  Dev.on_raise _ _ (show 16 + 1 ≤ 32 by decide) (Nat.le_refl 1)

theorem Dev.laneMarked_absent (n : Nat) (hn : n < 104) : (d.laneMarked n).on (lanePresent n) = false := by
  obtain ⟨hlow, -, hlo⟩ := lanePresent_place n hn
  have hlen : (lanePresent n).len = 1 := by
    unfold lanePresent
    split <;> rfl
  have hput : (d.raise (F.hdrCapRetired.page (lanePage n))).putAll ((pageBits (lanePage n)).map (fun f => (f, 0)))
      = (d.raise (F.hdrCapRetired.page (lanePage n))).lower (lanePresent n) := by
    rw [pageBits_lane]
    rfl
  rw [Dev.laneMarked, hput]
  refine (((Dev.Reads.refl (lanePresent n) _).permanent (.inl ?_) (.inl ?_)).on).trans (Dev.on_lower _ (lanePresent n) (by rw [hlen]; exact hlo))
  · show (lanePresent n).off ≠ 0x1_0000_0000 + (n + 0x10) * 0x1_0000 + 0x18
    omega
  · show (lanePresent n).off ≠ 0x1_0000_0000 + (n + 0x10) * 0x1_0000 + 0x28
    omega

end

/-- What a lane's retirement shows. -/
theorem Chip.retireLane_shows {c : Chip} {n : Nat} (hn : n < 104) (h : c.dev.retired (lanePage n) = false) :
    (c.retireLane n).dev.retired (lanePage n) = true ∧ (c.retireLane n).dev.eff (lanePage n) = 0
      ∧ (c.retireLane n).dev.on (F.hdrFaultPerm.page (lanePage n)) = true ∧ (c.retireLane n).dev.present (lanePage n) = false
      ∧ (c.retireLane n).flash = c.flash := by
  obtain ⟨r, heq⟩ := Chip.retireLane_eq n h
  obtain ⟨x, hx⟩ : ∃ x, x = (c.dev.laneMarked n).laneStopped n r := ⟨_, rfl⟩
  have hend {f : Field} (hf : f.StaysAtLane) (hseq : f.off ≠ Reg.mgtLogSeq) : Dev.Reads f x (c.retireLane n).dev := by
    rw [heq, ← hx]
    exact Dev.Reads.log (c := { c with dev := x.capCommit c.dev }) ((Dev.Reads.refl f x).capCommitLane hf c.dev) hseq _ _
  have hstop {f : Field} (hf : f.StaysAtLane) (heff : f.off ≠ (F.hdrEffState.page (lanePage n)).off) (hseq : f.off ≠ Reg.mgtLogSeq) :
      (c.retireLane n).dev.on f = (c.dev.laneMarked n).on f :=
    (((Dev.Reads.refl f (c.dev.laneMarked n)).laneStopped hf heff r).trans (hx ▸ hend hf hseq)).on
  have hpage (o : Nat) (ho : o < 0x1_0000) (h18 : o ≠ 0x18) (h14 : o ≠ 0x14) {f : Field} (hf : f.off = 0x1_0000_0000 + (n + 0x10) * 0x1_0000 + o) :
      f.StaysAtLane ∧ f.off ≠ Reg.mgtLogSeq :=
    ⟨⟨.inr (by omega), by omega, by omega, by omega⟩, by rw [hf]; simp only [Reg.mgtLogSeq]; omega⟩
  have hap {o : Nat} (ho : o ≠ 0x10) {f : Field} (hf : f.off = 0x1_0000_0000 + (n + 0x10) * 0x1_0000 + o) :
      f.off ≠ (F.hdrEffState.page (lanePage n)).off := by
    show f.off ≠ 0x1_0000_0000 + (n + 0x10) * 0x1_0000 + 0x10
    omega
  obtain ⟨hret, hretseq⟩ := hpage 8 (by decide) (by decide) (by decide) (f := F.hdrCapRetired.page (lanePage n)) rfl
  obtain ⟨hperm, hpermseq⟩ := hpage 0x28 (by decide) (by decide) (by decide) (f := F.hdrFaultPerm.page (lanePage n)) rfl
  obtain ⟨heff, heffseq⟩ := hpage 0x10 (by decide) (by decide) (by decide) (f := F.hdrEffState.page (lanePage n)) rfl
  obtain ⟨hlow, hhigh, -⟩ := lanePresent_place n hn
  refine ⟨(hstop hret (hap (by decide) rfl) hretseq).trans (c.dev.laneMarked_retired n hn), ?_,
    (hstop hperm (hap (by decide) rfl) hpermseq).trans (c.dev.laneMarked_perm n), ?_, ?_⟩
  · exact Eq.trans (hend heff heffseq) (hx ▸ Dev.laneStopped_eff n r)
  · rw [Dev.present_lane]
    refine (hstop ⟨.inl hlow, by omega, by omega, by omega⟩ ?_ ?_).trans (c.dev.laneMarked_absent n hn)
    · show (lanePresent n).off ≠ 0x1_0000_0000 + (n + 0x10) * 0x1_0000 + 0x10
      omega
    · simp only [Reg.mgtLogSeq]
      omega
  · rw [heq]
    exact Chip.log_flash _ _ _

end Sys2Proof.Machine

/-! The memory's units: the scrubber, the sub-banks, the pseudo-channels and the lanes (R333, R505 to R517, R54). -/

namespace Sys2Proof.Machine

set_option Elab.async false -- a proof at a time, within the memory of a check

/-! A pass of the scrubber -/

/-- The reads of a pass over SRAM, and its end. -/
def Dev.sramReads (d : Dev) (l : List ((Nat × Nat) × EccSeen)) : Dev := l.foldl (fun (x : Dev) w => x.sramSeen w.1 w.2) d
def Dev.sramPassEnd (d : Dev) : Dev := ({ d with sram := { d.sram with scrubAt := d.now } } : Dev).roll F.memScrubPassCount 1

/-- The reads of a pass over HBM3, and its end. -/
def Dev.hbmReads (d : Dev) (l : List (Addr × EccSeen)) : Dev := l.foldl (fun (x : Dev) a => x.hbmSeen a.1.toNat a.2) d
def Dev.hbmPassEnd (d : Dev) : Dev := { d with sram := { d.sram with hbmScrubAt := d.now } }

section
variable {d : Dev}

theorem Dev.only_sramReads (l : List ((Nat × Nat) × EccSeen)) : Dev.Only [.words, .sram, .modes] d (d.sramReads l) :=
  .foldl l fun x w _ => x.only_sramSeen w.1 w.2

theorem Dev.sramPassEnd_words (d : Dev) : d.sramPassEnd.words = (d.roll F.memScrubPassCount 1).words := rfl

theorem Dev.sramPassEnd_sram (d : Dev) : d.sramPassEnd.sram = { d.sram with scrubAt := d.now } := rfl

theorem Dev.sramReads_passes (l : List ((Nat × Nat) × EccSeen)) : Dev.Reads F.memScrubPassCount d (d.sramReads l) :=
  (Dev.Reads.refl _ d).foldl fun x w _ hx => hx.of_wordsBut (x.sramSeen_wordsBut w.1 w.2) (by decide)

theorem Dev.sramPass_shows (l : List ((Nat × Nat) × EccSeen)) :
    (d.sramReads l).sramPassEnd.sram.scrubAt = d.now
      ∧ (d.sramReads l).sramPassEnd.get F.memScrubPassCount = (d.get F.memScrubPassCount + 1) % 2 ^ 32
      ∧ (d.sramReads l).sramPassEnd.get F.memUeCount = (d.get F.memUeCount + l.countP (fun x => isUe x.2)) % 2 ^ 32
      ∧ (d.sramReads l).sramPassEnd.get F.memCeCount = (d.get F.memCeCount + l.countP (fun x => isCe x.2)) % 2 ^ 32 := by
  have hue : (d.sramReads l).get F.memUeCount = _ :=
    Dev.get_foldl_count (f := F.memUeCount) rfl (q := fun x : (Nat × Nat) × EccSeen => isUe x.2) (fun x w => x.get_sramSeen_ue w.1 w.2) l d
  have hce : (d.sramReads l).get F.memCeCount = _ :=
    Dev.get_foldl_count (f := F.memCeCount) rfl (q := fun x : (Nat × Nat) × EccSeen => isCe x.2) (fun x w => x.get_sramSeen_ce w.1 w.2) l d
  have hpass := d.sramReads_passes l
  have hnow := (d.only_sramReads l).now
  generalize d.sramReads l = x at hue hce hpass hnow ⊢
  have hkeep {f : Field} (hf : F.memScrubPassCount.clearOf f) : x.sramPassEnd.get f = x.get f :=
    (Dev.get_of_words x.sramPassEnd_words f).trans ((Dev.Reads.refl f x).put hf _)
  refine ⟨by rw [x.sramPassEnd_sram, hnow], ?_, (hkeep (by decide)).trans hue, (hkeep (by decide)).trans hce⟩
  rw [Dev.get_of_words x.sramPassEnd_words, Dev.get_roll_same _ (by decide), hpass]
  rfl

theorem Dev.hbmPass_shows (l : List (Addr × EccSeen)) :
    (d.hbmReads l).hbmPassEnd.get F.memScrubPassCount = d.get F.memScrubPassCount
      ∧ (d.hbmReads l).hbmPassEnd.get F.hbmUeCount = (d.get F.hbmUeCount + l.countP (fun x => isUe x.2)) % 2 ^ 32
      ∧ (d.hbmReads l).hbmPassEnd.get F.hbmCeCount = (d.get F.hbmCeCount + l.countP (fun x => isCe x.2)) % 2 ^ 32 := by
  have hue : (d.hbmReads l).get F.hbmUeCount = _ :=
    Dev.get_foldl_count (f := F.hbmUeCount) rfl (q := fun x : Addr × EccSeen => isUe x.2) (fun x w => x.get_hbmSeen_ue w.1.toNat w.2) l d
  have hce : (d.hbmReads l).get F.hbmCeCount = _ :=
    Dev.get_foldl_count (f := F.hbmCeCount) rfl (q := fun x : Addr × EccSeen => isCe x.2) (fun x w => x.get_hbmSeen_ce w.1.toNat w.2) l d
  have hpass : Dev.Reads F.memScrubPassCount d (d.hbmReads l) :=
    (Dev.Reads.refl _ d).foldl fun x w _ hx => hx.trans (x.reads_hbmSeen_passes w.1.toNat w.2)
  generalize d.hbmReads l = x at hue hce hpass ⊢
  have hkeep (f : Field) : x.hbmPassEnd.get f = x.get f := Dev.get_of_words (show x.hbmPassEnd.words = x.words from rfl) f
  exact ⟨(hkeep _).trans hpass, (hkeep _).trans hue, (hkeep _).trans hce⟩

end

/-- A pass over SRAM, and one over HBM3, takes place. -/
def Dev.sramPassDue (d : Dev) : Bool :=
  decide (d.shedLevel < 2) && d.modes.inReset == .no && decide (d.sram.scrubAt + 8 * ticksPerSecond ≤ d.now) && d.on F.memCfgScrubEn
def Dev.hbmPassDue (d : Dev) : Bool :=
  decide (d.shedLevel < 2) && d.modes.inReset == .no && decide (d.sram.hbmScrubAt + 64 * ticksPerSecond ≤ d.now) && d.on F.hbmCfgScrubEn && d.hbmUp

/-- The words of HBM3 that answer. -/
abbrev Dev.hbmAnswered (d : Dev) (a : List (Addr × EccSeen)) : List (Addr × EccSeen) := a.filter (fun x => d.hbmAnswers x.1.toNat)

theorem exec_scrubPass_sram (s : State) (l : List (Fin 65536 × Fin 512 × EccSeen)) (a : List (Addr × EccSeen)) :
    exec (.scrubPass false l a) s = .next { s with dev := s.dev.when s.dev.sramPassDue (fun e => (e.sramReads (e.scrubFinds l)).sramPassEnd) } := rfl

theorem exec_scrubPass_hbm (s : State) (l : List (Fin 65536 × Fin 512 × EccSeen)) (a : List (Addr × EccSeen)) :
    exec (.scrubPass true l a) s = .next { s with dev := s.dev.when s.dev.hbmPassDue fun e => (e.hbmReads (s.dev.hbmAnswered a)).hbmPassEnd } := rfl

section
variable {d : Dev} (hlevel : d.shedLevel < 2) (hreset : d.modes.inReset = .no)
include hlevel hreset

theorem Dev.sramPassDue_of (hen : d.on F.memCfgScrubEn = true) (hdue : d.sram.scrubAt + 8 * ticksPerSecond ≤ d.now) : d.sramPassDue = true := by
  rw [Dev.sramPassDue, decide_eq_true hlevel, hreset, decide_eq_true hdue, hen]
  rfl

theorem Dev.hbmPassDue_of (hen : d.on F.hbmCfgScrubEn = true) (hup : d.hbmUp = true) (hdue : d.sram.hbmScrubAt + 64 * ticksPerSecond ≤ d.now) :
    d.hbmPassDue = true := by
  rw [Dev.hbmPassDue, decide_eq_true hlevel, hreset, decide_eq_true hdue, hen, hup]
  rfl

end

/-! A sub-bank that is retired (R507) -/

theorem Dev.unpoison_sram (d : Dev) (a n : Nat) : (d.unpoison a n).sram.copy = d.sram.copy ∧ (d.unpoison a n).sram.retired = d.sram.retired := ⟨rfl, rfl⟩

/-- A log entry leaves of the SRAM's records all but the poisoned words. -/
theorem Chip.log_sram (c : Chip) (p : Nat) (sec : Bool) : (c.log p sec).dev.sram.copy = c.dev.sram.copy
    ∧ (c.log p sec).dev.sram.retired = c.dev.sram.retired := by
  obtain ⟨bytes, hdev⟩ := c.log_dev p sec
  have hdraws := c.dev.only_logDrawn.sram
  obtain ⟨z, hz⟩ : ∃ z, z = c.dev.logDrawn.2 := ⟨_, rfl⟩
  rw [← hz] at hdev hdraws
  obtain ⟨y, hy⟩ : ∃ y, y = z.roll F.mgtLogSeqSeq 1 := ⟨_, rfl⟩
  have hroll : y.sram = z.sram := hy ▸ (z.only_roll F.mgtLogSeqSeq 1).sram
  rw [← hy] at hdev
  rw [hdev, ← hdraws, ← hroll]
  exact y.unpoison_sram _ _

section
variable {c : Chip} {sb : Nat}

/-- The sub-bank's copy begins. -/
def Dev.copyBegun (d : Dev) (sb : Nat) : Dev :=
  (({ d with sram := { d.sram with copy := some (sb, false), due := d.sram.due.filter (fun x => x != sb) } } : Dev).raise F.memStatCopying).ledger
    3 sb 1 ledgerRunning 0

theorem Chip.retireSubbank_copies (hret : c.dev.sram.retired.contains sb = false) (hcopy : c.dev.sram.copy = none)
    (hspare : c.dev.get F.memStatSpareFree ≠ 0) : c.retireSubbank sb = { c with dev := c.dev.copyBegun sb } := by
  rw [Chip.retireSubbank, if_neg (by rw [hret]; decide), if_neg (by rw [hcopy]; decide), if_neg hspare]
  rfl

theorem Dev.copyBegun_shows (d : Dev) (sb : Nat) : (d.copyBegun sb).sram = { d.sram with copy := some (sb, false), due := d.sram.due.filter (fun x => x != sb) }
    ∧ (d.copyBegun sb).on F.memStatCopying = true ∧ (d.copyBegun sb).get (F.hdrLedgerStState.page 3) = ledgerRunning := by
  obtain ⟨x, hx⟩ : ∃ x : Dev, x = { d with sram := { d.sram with copy := some (sb, false), due := d.sram.due.filter (fun x => x != sb) } } := ⟨_, rfl⟩
  rw [Dev.copyBegun, ← hx]
  have hbut := Dev.wordsBut_ledger (d := x.raise F.memStatCopying) 3 sb 1 ledgerRunning 0
  refine ⟨?_, ?_, ?_⟩
  · rw [(Dev.only_ledger _ 3 sb 1 ledgerRunning 0).sram, (Dev.only_raise x _).sram, hx]
  · rw [hbut.on (by decide)]
    exact x.on_raise F.memStatCopying (by decide) (by decide)
  · rw [Dev.ledger, Dev.when, if_neg (by decide), Dev.get_put_apart _ _ (by decide), Dev.get_put_same _ _ _ (by decide)]
    rfl

/-- Without a spare: the device that shows it. -/
def Dev.spareOut (d : Dev) : Dev := (d.raise F.memEvtSpareOut).permanent 3

/-- What the want of a spare leaves as it shows. -/
structure Dev.SpareWanted (c x : Chip) : Prop where
  copy : x.dev.sram.copy = c.dev.sram.copy
  retired : x.dev.sram.retired = c.dev.sram.retired
  event : x.dev.on F.memEvtSpareOut = true
  perm : x.dev.on (F.hdrFaultPerm.page 3) = true
  flash : x.flash = c.flash

theorem Dev.spareOut_wanted (c : Chip) (e : Dev) (he : e.sram = c.dev.sram) (hevt : Dev.Reads F.memEvtSpareOut c.dev.spareOut e)
    (hperm : Dev.Reads (F.hdrFaultPerm.page 3) c.dev.spareOut e) : Dev.SpareWanted c { c with dev := e } := by
  refine ⟨congrArg MemSt.copy he, congrArg MemSt.retired he, hevt.on.trans ?_, hperm.on.trans ?_, rfl⟩
  · rw [Dev.spareOut, ((Dev.Reads.refl F.memEvtSpareOut _).permanent (by decide) (by decide)).on]
    exact c.dev.on_raise F.memEvtSpareOut (by decide) (by decide)
  · rw [Dev.spareOut, Dev.permanent]
    exact Dev.on_raise _ (F.hdrFaultPerm.page 3) (by decide) (by decide)

theorem Dev.SpareWanted.log {x : Chip} (h : Dev.SpareWanted c x) (p : Nat) (sec : Bool) : Dev.SpareWanted c (x.log p sec) := by
  obtain ⟨hcopy, hret⟩ := x.log_sram p sec
  have hwords := (x.log_keeps p sec).words
  exact ⟨hcopy.trans h.copy, hret.trans h.retired, (hwords.on (by decide)).trans h.event, (hwords.on (by decide)).trans h.perm,
    (x.log_flash p sec).trans h.flash⟩

theorem Dev.only_permanent (d : Dev) (p : Nat) : Dev.Only [.words] d (d.permanent p) :=
  (Dev.Only.whenStep _ fun x => x.only_raise _).step (Dev.only_raise _ _)

theorem Dev.only_retireSlices (d : Dev) (l : List Nat) : Dev.Only [.words] d (d.retireSlices l) :=
  (Dev.Only.foldl l fun x _ _ => (x.only_raise _).step (Dev.only_lower _ _)).step (Dev.only_permanent _ _)

theorem Dev.only_capCommit (d old : Dev) : Dev.Only [.words] d (d.capCommit old) :=
  (Dev.Only.whenStep _ fun x => (x.only_roll _ 1).step (Dev.only_raise _ _)).trans (.each 120 fun _ _ => .whenStep _ fun y => y.only_raise _)

/-- A field of page 3 that a slice's retirement and a commit leave. -/
theorem Dev.Reads.slicesCommitted {f : Field} {d e : Dev} (h : Dev.Reads f d e) (hlow : 0x1_0003_0019 ≤ f.off) (hhigh : f.off < 0x1_0004_0000)
    (b : Bool) (l : List Nat) (old : Dev) : Dev.Reads f d ((if b then e.retireSlices l else e).capCommit old) := by
  have hcommit {x : Dev} (hx : Dev.Reads f d x) : Dev.Reads f d (x.capCommit old) := by
    refine hx.capCommit old (.inl ?_) (.inl ?_) fun p _ => .inl ?_
    · show f.off ≠ 0x1_0000_0100
      omega
    · show f.off ≠ 0x1_0000_0018
      omega
    · show f.off ≠ 0x1_0000_0000 + p * 0x1_0000 + 0x18
      omega
  refine hcommit ?_
  cases b with
  | false => exact h
  | true =>
    refine h.retireSlices (fun i _ => .inl ?_) (fun i _ => .inl ?_) (.inl ?_) (.inl ?_)
    · show f.off ≠ Reg.flwSliceRet
      simp only [Reg.flwSliceRet]
      omega
    · show f.off ≠ Reg.devCapFlow
      simp only [Reg.devCapFlow]
      omega
    · show f.off ≠ 0x1_000c_0018
      omega
    · show f.off ≠ 0x1_000c_0028
      omega

theorem Chip.retireSubbank_wants (hret : c.dev.sram.retired.contains sb = false) (hdue : c.dev.sram.due.contains sb = true)
    (hcopy : c.dev.sram.copy = none) (hspare : c.dev.get F.memStatSpareFree = 0) : Dev.SpareWanted c (c.retireSubbank sb) := by
  have hdone : c.dev.sramDue sb = c.dev := if_pos (.inl hdue)
  have hsram (b : Bool) (l : List Nat) (old : Dev) : ((if b then c.dev.spareOut.retireSlices l else c.dev.spareOut).capCommit old).sram = c.dev.sram := by
    rw [(Dev.only_capCommit _ old).sram]
    cases b with
    | false => exact ((c.dev.only_raise _).step (Dev.only_permanent _ 3)).sram
    | true => exact (((c.dev.only_raise _).step (Dev.only_permanent _ 3)).step (Dev.only_retireSlices _ l)).sram
  have hwant (b : Bool) (l : List Nat) (old : Dev) :
      Dev.SpareWanted c { c with dev := (if b then c.dev.spareOut.retireSlices l else c.dev.spareOut).capCommit old } :=
    Dev.spareOut_wanted c _ (hsram b l old) ((Dev.Reads.refl _ _).slicesCommitted (by decide) (by decide) b l old)
      ((Dev.Reads.refl _ _).slicesCommitted (by decide) (by decide) b l old)
  unfold Chip.retireSubbank
  rw [if_neg (by rw [hret]; decide), if_neg (by rw [hcopy]; decide), if_pos hspare, hdone]
  dsimp only
  split
  · exact (hwant true _ c.dev).log 0xC false
  · exact hwant false [] c.dev

end

/-! The copy of a sub-bank (R508) -/

/-- A read leaves the poisoned words, and the copy. -/
theorem Dev.sramSeen_records (d : Dev) (p : Nat × Nat) (e : EccSeen) : (d.sramSeen p e).sram.poison = d.sram.poison := by
  have hdue (x : Dev) (b : Bool) : (x.when b fun y => y.sramDue p.1).sram.poison = x.sram.poison := by
    refine Dev.when_of (P := fun y => y.sram.poison = x.sram.poison) b rfl ?_
    unfold Dev.sramDue
    split <;> rfl
  have herr : (d.sramErr p e).sram = d.sram := (d.only_sramErr p e).sram
  refine Dev.sramSeen_of (P := fun x => x.sram.poison = d.sram.poison) d p e rfl (fun due => ?_) ?_
  · generalize d.sramErr p e = x at herr ⊢
    rw [← herr, Dev.sramUe, hdue]
    rfl
  · generalize d.sramErr p e = x at herr ⊢
    rw [← herr, Dev.sramCe, hdue]
    rfl

/-- The copy is complete, its uncorrectable words poisoned. -/
def Dev.copyEnded (d : Dev) (sb : Nat) (bad : List Nat) : Dev :=
  { d with sram := { d.sram with
      copy := some (sb, true), due := d.sram.due.filter (fun x => x != sb),
      poison := (bad.map (fun w => (sb, w)) ++ d.sram.poison).eraseDups } }

theorem Chip.copyDone_eq {c : Chip} {sb : Nat} (bad : List Nat) (h : c.dev.sram.copy = some (sb, false)) (hroot : c.dev.rootValid = true) :
    c.copyDone bad = { c with dev := (bad.foldl (fun (e : Dev) w => e.sramSeen (sb, w) (.uncorrectable 0)) c.dev).copyEnded sb bad } := by
  have hreads : Dev.Reads F.clkStatusRootValid c.dev (bad.foldl (fun (e : Dev) w => e.sramSeen (sb, w) (.uncorrectable 0)) c.dev) :=
    (Dev.Reads.refl _ _).foldl fun x w _ hx => hx.of_wordsBut (x.sramSeen_wordsBut (sb, w) _) (by decide)
  rw [Chip.copyDone, h]
  dsimp only
  generalize bad.foldl (fun (e : Dev) w => e.sramSeen (sb, w) (.uncorrectable 0)) c.dev = x at hreads ⊢
  have hup : (x.copyEnded sb bad).rootValid = true := ((Dev.on_congr rfl _).trans hreads.on).trans hroot
  refine if_neg ?_
  rintro ⟨hno, -⟩
  exact absurd (hup.symm.trans ((Bool.not_eq_true' _).mp hno)) (by decide)

theorem Chip.copyDone_shows {c : Chip} {sb : Nat} (bad : List Nat) (h : c.dev.sram.copy = some (sb, false)) (hroot : c.dev.rootValid = true) :
    (c.copyDone bad).dev.sram.copy = some (sb, true) ∧ (∀ w ∈ bad, (sb, w) ∈ (c.copyDone bad).dev.sram.poison)
      ∧ (∀ x ∈ c.dev.sram.poison, x ∈ (c.copyDone bad).dev.sram.poison) ∧ (c.copyDone bad).mem = c.mem ∧ (c.copyDone bad).flash = c.flash := by
  have hpoison : (bad.foldl (fun (e : Dev) w => e.sramSeen (sb, w) (.uncorrectable 0)) c.dev).sram.poison = c.dev.sram.poison :=
    List.foldlRecOn (motive := fun x : Dev => x.sram.poison = c.dev.sram.poison) _ _ rfl fun x hx w _ => (x.sramSeen_records _ _).trans hx
  rw [Chip.copyDone_eq bad h hroot]
  generalize bad.foldl (fun (e : Dev) w => e.sramSeen (sb, w) (.uncorrectable 0)) c.dev = y at hpoison ⊢
  refine ⟨rfl, fun w hw => ?_, fun x hx => ?_, rfl, rfl⟩
  · exact List.mem_eraseDups.mpr (List.mem_append_left _ (List.mem_map.mpr ⟨w, hw, rfl⟩))
  · exact List.mem_eraseDups.mpr (List.mem_append_right _ (hpoison ▸ hx))

end Sys2Proof.Machine

/-! The memory's units settled: a write of half of a poisoned word, and the statement (R333, R503, R508). -/

namespace Sys2Proof.Machine

set_option Elab.async false -- a proof at a time, within the memory of a check

/-! A write of half of a poisoned word -/

section
variable {d : Dev} {p : Nat × Nat}

/-- A poisoned word that is read says nothing of its sub-bank. -/
theorem Dev.sramSeen_poisoned (h : d.sram.poison.contains p = true) : (d.sramSeen p (.uncorrectable 0)).sram = { d.sram with ueAt := some d.now }
    ∧ (d.sramSeen p (.uncorrectable 0)).on F.memEvtUe = true := by
  have herr := d.only_sramErr p (.uncorrectable 0)
  have hsram := herr.sram
  have hnow := herr.now
  rw [d.sramSeen_eq, if_neg (by simp), if_pos (show isUe (.uncorrectable 0) = true from rfl), h, Bool.not_true]
  generalize d.sramErr p (.uncorrectable 0) = x at hsram hnow ⊢
  obtain ⟨y, hy⟩ : ∃ y, y = (x.roll F.memUeCount 1).raise F.memEvtUe := ⟨_, rfl⟩
  have honly : Dev.Only [.words] x y := hy ▸ (x.only_roll _ 1).step (Dev.only_raise _ _)
  refine ⟨?_, ?_⟩
  · rw [Dev.sramUe, ← hy]
    show ({ y.sram with ueAt := some y.now } : MemSt) = _
    rw [honly.sram, honly.now, hsram, hnow]
  · rw [Dev.on, Dev.get_of_words (x.sramUe_words p false), ← Dev.on]
    exact Dev.on_raise _ F.memEvtUe (by decide) (by decide)

end

theorem ctxAddr_apart {f w : Nat} (hf : f < 65536) (hw : w < 4) : ctxAddr f w ∉ sramWords := by
  have hlow : ∀ a ∈ sramWords, 0x1_0000_0000 ≤ a := by decide
  intro hin
  have h := hlow _ hin
  simp only [ctxAddr] at h
  omega

section
variable {s : State} {m : Master} {f : FlowId} {w : Fin 4} {data : W32} (hmay : s.mayWrite m.val (ctxAddr f w)) (hret : s.dev.sliceRetired f = false)
  (hoff : s.dev.on (F.ctxEn.at 16 f) = false) (hpoison : s.dev.poisoned (ctxAddr f w) = true)
  (hstay : w.val = 0 → getF (s.dev.ctxNew f w data) 0 1 = 0)
include hmay hret hoff hpoison hstay

theorem contextWrite_poisoned :
    ∃ t, exec (.flowContextWrite m f w data) s = .next t ∧ (t.dev.replyTo m.val).resp = .okay ∧ t.dev.word (ctxAddr f w) = s.dev.ctxNew f w data
      ∧ t.dev.get F.memUeCount = (s.dev.get F.memUeCount + 1) % 2 ^ 32 ∧ t.dev.on F.memEvtUe = true
      ∧ t.dev.sram = { s.dev.sram with ueAt := some s.dev.now } ∧ KeepsMemories s t := by
  obtain ⟨x, hx⟩ : ∃ x, x = s.dev.setWord (ctxAddr f w) (s.dev.ctxNew f w data) := ⟨_, rfl⟩
  obtain ⟨y, hy⟩ : ∃ y, y = x.sramSeen (s.dev.sramPlace (ctxAddr f w)) (.uncorrectable 0) := ⟨_, rfl⟩
  have hok : s.dev.writeContext f w data = okay x := by
    rw [Dev.writeContext_okay s.dev f hret (fun h => absurd (hoff.symm.trans h) (by decide))
      fun _ hw0 hone => absurd ((hstay hw0).symm.trans hone) (by decide), hoff, Bool.and_false, Bool.false_and, ← hx]
    rfl
  have heff : Dev.tableEffect (ctxAddr f w) (fun d => d.writeContext f w data) s.dev = okay y := by
    rw [Dev.tableEffect, hok, hpoison, hy, okay, Dev.when_eq (by rfl)]
    rfl
  have hset : Dev.Only [.words] s.dev x := hx ▸ s.dev.only_setWord _ _
  obtain ⟨hsram, hevt⟩ := Dev.sramSeen_poisoned (d := x) (p := s.dev.sramPlace (ctxAddr f w)) (by rw [hset.sram]; exact hpoison)
  have happ := ctxAddr_apart f.isLt w.isLt
  have hcount : y.get F.memUeCount = (s.dev.get F.memUeCount + 1) % 2 ^ 32 := by
    have hother : x.get F.memUeCount = s.dev.get F.memUeCount := by
      have hne : F.memUeCount.off ≠ ctxAddr f w := fun h => happ (by rw [← h]; decide)
      rw [Dev.get, hx, Dev.word_setWord_other _ _ hne, ← Dev.get]
    rw [hy, Dev.get_sramSeen_ue, hother]
    rfl
  have hword : y.word (ctxAddr f w) = s.dev.ctxNew f w data := by
    rw [hy, x.sramSeen_wordsBut _ _ _ happ, hx]
    exact Dev.word_setWord_same _ _ _
  rw [← hy] at hsram hevt
  obtain ⟨hreply, hwords, -⟩ := Dev.write_okay hmay heff
  have hkeep := (Dev.write_okay_only hmay heff).sram
  refine ⟨{ s with dev := s.dev.writeTable m.val (ctxAddr f w) fun d => d.writeContext f w data }, rfl, ?_⟩
  rw [Dev.writeTable_eq]
  refine ⟨hreply, ?_, (Dev.get_of_words hwords _).trans hcount, (Dev.on_congr hwords _).trans hevt, hkeep.trans ?_, rfl, rfl⟩
  · rw [Dev.word, hwords, ← Dev.word]
    exact hword
  · rw [hsram, hset.sram, hset.now]

end

theorem exec_subbankRetirement (sb : Fin 65536) (s : State) : exec (.subbankRetirement sb) s
    = .next (s.run (fun c => c.when (s.dev.sram.due.contains sb.val) (fun x => x.retireSubbank sb.val))) := rfl

theorem exec_pseudoChannelRetirement (pc : Fin 64) (s : State) : exec (.pseudoChannelRetirement pc) s
    = .next (s.run (fun c => c.when (s.dev.sram.pcDue.contains pc.val) (fun x => x.pcEvent pc.val))) := rfl

/-- Training can end. -/
def Dev.trainable (d : Dev) : Bool :=
  d.modes.inReset == .no && d.mode != modeBoot && decide (1 ≤ d.modes.stageDone) && d.rootValid && !d.hbmTrained

theorem exec_hbmTrainingComplete (failed : List (Fin 64)) (s : State) : exec (.hbmTrainingComplete failed) s
    = .next (s.run (fun c => c.when s.dev.trainable (fun x => x.trained (failed.map (fun p => p.val))))) := rfl

/-- What the end of training shows of the two stacks. -/
theorem Chip.trained_shows (c : Chip) (failed : List (Fin 64)) : (c.trained (failed.map fun p => p.val)).dev.hbmTrained = true
    ∧ (c.trained (failed.map fun p => p.val)).flash = c.flash := by
  have hfail : ∀ pc ∈ failed.map (fun p => p.val), pc < 64 := fun pc hpc => by
    obtain ⟨p, -, rfl⟩ := List.mem_map.mp hpc
    exact p.isLt
  obtain ⟨h0, h1, -⟩ := c.dev.unitsOwn_trained
  have hzero := Chip.trained_holds (c := c) (f := F.hbmStatTrained0) ⟨hbmTrained0_stays, rfl⟩ _ hfail
  have hone := Chip.trained_holds (c := c) (f := F.hbmStatTrained1) ⟨hbmTrained1_stays, rfl⟩ _ hfail
  refine ⟨?_, hzero.flash⟩
  rw [Dev.hbmTrained, hzero.reads.on, hone.reads.on, h0, h1]
  rfl

/-- A channel that failed is an event. -/
theorem Chip.trained_fails {c : Chip} {failed : List Nat} (h : failed ≠ []) : (c.trained failed).dev.on F.hbmEvtTrainFail = true := by
  have hstays := hbmTrainFail_stays
  obtain ⟨x, hx⟩ : ∃ (x : Chip), Chip.Holds F.hbmEvtTrainFail (x.dev.raise F.hbmEvtTrainFail) x (c.trained failed) := by
    unfold Chip.trained
    extract_lets old on before c1 c2 c3 c4
    clear_value c2
    refine ⟨c2, ?_⟩
    have h3 : Chip.Holds F.hbmEvtTrainFail (c2.dev.raise F.hbmEvtTrainFail) c2 c3 := by
      unfold c3
      rw [Chip.when_eq (bne_iff_ne.mpr h)]
      exact ⟨.refl _ _, rfl⟩
    clear_value c3
    have h4 : Chip.Holds F.hbmEvtTrainFail (c2.dev.raise F.hbmEvtTrainFail) c2 c4 := h3.when _ (h3.on fun e he => he.bitsUpHbm (by decide))
    exact ((h4.on fun e he => he.capCommitHbm hstays old).foldl fun y _ _ hy => hy.log hstays.place 4 false).copyLog
  rw [hx.reads.on]
  exact Dev.on_raise _ F.hbmEvtTrainFail (by decide) (by decide)

/-- A field of the units' registers, or of the count of the reserve, through the end of a training without failures. -/
theorem Chip.trained_intact {c : Chip} (h : ∀ pc, pc < 64 → c.dev.on (pcRetired pc) = false) {f : Field} (hf : hbmPlace f.off)
    (hoff : 0x1_0004_0025 ≤ f.off) : Dev.Reads f c.dev.unitsOwn (c.trained []).dev := by
  have hnone : (List.range 64).filter (fun pc => c.dev.on (pcRetired pc)) = [] :=
    List.filter_eq_nil_iff.mpr fun pc hpc => by rw [h pc (List.mem_range.mp hpc)]; decide
  unfold hbmPlace at hf
  unfold Chip.trained
  extract_lets old on before c1 c2 c3 c4
  have hown (e : Dev) : on e = e.unitsOwn := rfl
  have h1 : c1 = c.on on := by
    unfold c1
    rw [show before = [] from hnone]
    rfl
  clear_value on c1
  have hc1 : Dev.Reads f c.dev.unitsOwn c1.dev := by
    rw [h1, Chip.dev_on, hown]
    exact .refl f _
  have hh1 : Chip.Holds f c.dev.unitsOwn c1 c1 := ⟨hc1, rfl⟩
  have h4 : Chip.Holds f c.dev.unitsOwn c1 c4 := hh1.when _ (hh1.on fun e he => he.bitsUpHbm (by omega))
  have h5 := h4.on (g := fun d => d.capCommit old) fun e he => by
    refine he.capCommit old (.inl ?_) (.inl ?_) fun p _ => .inl ?_
    · show f.off ≠ 0x1_0000_0100
      omega
    · show f.off ≠ 0x1_0000_0018
      omega
    · show f.off ≠ 0x1_0000_0000 + p * 0x1_0000 + 0x18
      omega
  exact h5.copyLog.reads

/-- Settles O50, one event at a time. -/
theorem memoryUnits : Obligations.MemoryUnits := by
  intro s
  refine ⟨fun hlevel hreset => ⟨fun l a hen hdue => ?_, fun l a hen hup hdue => ?_⟩, fun sb hdue hret hcopy => ⟨fun hspare => ?_, fun hspare => ?_⟩,
    fun sb bad hcopy hroot => ?_, fun m f w data hmay hret hoff hpoison => ?_, fun pc hdue hret => ?_,
    fun hreset hboot hstage hroot htrained => ⟨fun failed => ?_, fun hgood => ?_⟩, fun n hret => ?_⟩
  · rw [exec_scrubPass_sram, Dev.when_eq (Dev.sramPassDue_of hlevel hreset hen hdue)]
    exact ⟨_, rfl, ⟨rfl, rfl⟩, Dev.sramPass_shows _⟩
  · rw [exec_scrubPass_hbm, Dev.when_eq (Dev.hbmPassDue_of hlevel hreset hen hup hdue)]
    exact ⟨_, rfl, ⟨rfl, rfl⟩, Dev.hbmPass_shows _⟩
  · rw [exec_subbankRetirement, State.run_when_true s hdue]
    have heq := Chip.retireSubbank_copies (c := s.chip) hret hcopy hspare
    obtain ⟨hsram, hcopying, hstate⟩ := s.dev.copyBegun_shows sb.val
    refine ⟨{ s with dev := s.dev.copyBegun sb.val }, ?_, ?_, ?_, hcopying, hstate, ?_, rfl, rfl⟩
    · exact congrArg (fun c : Chip => Host.Outcome.next ({ s with dev := c.dev, mem := c.mem, flash := c.flash } : State)) heq
    · exact congrArg MemSt.copy hsram
    · exact congrArg MemSt.due hsram
    · exact (congrArg MemSt.retired hsram :)
  · rw [exec_subbankRetirement, State.run_when_true s hdue]
    have hwant := Chip.retireSubbank_wants (c := s.chip) hret hdue hcopy hspare
    exact ⟨_, rfl, hwant.copy.trans hcopy, hwant.event, hwant.perm, hwant.retired, hwant.flash⟩
  · obtain ⟨hdone, hbad, hkept, hmem, hflash⟩ := Chip.copyDone_shows (c := s.chip) (bad.map fun w => w.val) hcopy hroot
    exact ⟨_, rfl, hdone, fun w hw => hbad w.val (List.mem_map.mpr ⟨w, hw, rfl⟩), hkept, hmem, hflash⟩
  · exact fun hstay => contextWrite_poisoned hmay hret hoff hpoison hstay
  · rw [exec_pseudoChannelRetirement, State.run_when_true s hdue]
    obtain ⟨hflash, hreads⟩ := Chip.pcEvent_shows (c := s.chip) hret
    obtain ⟨hmark, habsent, hevt, hperm⟩ := Dev.pcMarked_shows (d := s.dev) pc.isLt
    exact ⟨_, rfl, (hreads _ (pcRetired_stays pc.isLt)).on.trans hmark, (hreads _ (pcPresent_stays pc.isLt)).on.trans habsent,
      (hreads _ hbmEvtRetire_stays).on.trans hevt, (hreads _ hbmPerm_stays).on.trans hperm, hflash⟩
  · have hok : s.dev.trainable = true := by
      rw [Dev.trainable, hreset, bne_iff_ne.mpr hboot, decide_eq_true hstage, hroot, htrained]
      rfl
    rw [exec_hbmTrainingComplete, State.run_when_true s hok]
    obtain ⟨hup, hflash⟩ := s.chip.trained_shows failed
    exact ⟨_, rfl, hup, fun hne => Chip.trained_fails (c := s.chip) fun hnil => hne (List.map_eq_nil_iff.mp hnil), hflash⟩
  · have hok : s.dev.trainable = true := by
      rw [Dev.trainable, hreset, bne_iff_ne.mpr hboot, decide_eq_true hstage, hroot, htrained]
      rfl
    rw [exec_hbmTrainingComplete, State.run_when_true s hok]
    have hreads {f : Field} (hf : hbmPlace f.off) (hoff : 0x1_0004_0025 ≤ f.off) := Chip.trained_intact (c := s.chip) hgood hf hoff
    refine ⟨_, rfl, ?_, fun u hu => ?_, (s.chip.trained_shows []).2⟩
    · exact Eq.trans (hreads (f := F.hbmStatReserveFree) (by decide) (by decide)) (s.dev.unitsOwn_trained).2.2
    · obtain ⟨hbacked, hpc⟩ := s.dev.unitsOwn_unit hu
      have hplace : hbmPlace (F.hbmUnitBacked.at 4 u).off ∧ 0x1_0004_0025 ≤ (F.hbmUnitBacked.at 4 u).off := by
        have hoff : (F.hbmUnitBacked.at 4 u).off = 0x1_0004_0200 + 4 * u := rfl
        unfold hbmPlace
        omega
      exact ⟨(hreads (f := F.hbmUnitBacked.at 4 u) hplace.1 hplace.2).on.trans hbacked,
        Eq.trans (hreads (f := F.hbmUnitPc.at 4 u) hplace.1 hplace.2) hpc⟩
  · obtain ⟨h1, h2, h3, h4, h5⟩ := Chip.retireLane_shows (c := s.chip) n.isLt hret
    exact ⟨_, rfl, h1, h2, h3, h4, h5⟩

end Sys2Proof.Machine

/-! What the update of a group's sink side leaves, and the sides of a group (R340, R350 to R357). -/

namespace Sys2Proof.Machine

set_option Elab.async false -- a proof at a time, within the memory of a check

theorem Part.blind_members (x : Part) (h : x ≠ .members) : x.Blind Dev.members := by
  cases x
  case members => exact absurd rfl h
  all_goals exact fun _ _ => rfl

theorem Dev.Only.members {S : List Part} {d e : Dev} (h : Dev.Only S d e) (hS : Part.members ∉ S := by decide) : e.members = d.members :=
  h _ Dev.members fun x hx => x.blind_members fun hxe => hS (hxe ▸ hx)

theorem Part.blind_groups (x : Part) (h : x ≠ .groups) : x.Blind Dev.groups := by
  cases x
  case groups => exact absurd rfl h
  all_goals exact fun _ _ => rfl

theorem Dev.Only.groups {S : List Part} {d e : Dev} (h : Dev.Only S d e) (hS : Part.groups ∉ S := by decide) : e.groups = d.groups :=
  h _ Dev.groups fun x hx => x.blind_groups fun hxe => hS (hxe ▸ hx)

theorem Dev.member_congr {d e : Dev} (h : e.members = d.members) (i : Nat) : e.member i = d.member i := by
  rw [Dev.member, h, Dev.member]

theorem Dev.group_congr {d e : Dev} (h : e.groups = d.groups) (g : Nat) : e.group g = d.group g := by
  rw [Dev.group, h, Dev.group]

/-! The entries of a table that are enabled -/

theorem Store.filterMap_drop {α β : Type} (f : Nat × α → Option β) (s : Store α) (k : Nat) (hf : ∀ v, f (k, v) = none) :
    (Store.drop s k).filterMap f = s.filterMap f := by
  induction s with
  | nil => rfl
  | cons x t ih =>
    obtain ⟨j, v⟩ := x
    rw [Store.drop]
    split
    case isTrue h =>
      subst h
      rw [ih, List.filterMap_cons_none (hf v)]
    case isFalse =>
      rw [List.filterMap_cons, List.filterMap_cons, ih]

theorem Store.filterMap_put {α β : Type} (f : Nat × α → Option β) (s : Store α) (k : Nat) (v : α) (hf : f (k, v) = none) :
    (Store.put s k v).filterMap f = s.filterMap f := by
  induction s with
  | nil => exact List.filterMap_cons_none hf
  | cons x t ih =>
    obtain ⟨j, w⟩ := x
    rw [Store.put]
    split
    · exact List.filterMap_cons_none hf
    · rw [List.filterMap_cons, List.filterMap_cons, ih]

theorem Store.filterMap_set {α β : Type} [DecidableEq α] (z : Nat → α) (f : Nat × α → Option β) (s : Store α) (k : Nat) (v : α)
    (hf : ∀ v, f (k, v) = none) : (Store.set z s k v).filterMap f = s.filterMap f := by
  rw [Store.set]
  split
  · exact Store.filterMap_drop f s k hf
  · rw [Store.filterMap_put f _ k v (hf v), Store.filterMap_drop f s k hf]

section
variable (d : Dev) {base size n : Nat}

theorem Dev.enabledIn_setWord {a : Nat} (w : W32) (h : a < base ∨ base + size * n ≤ a) : (d.setWord a w).enabledIn base size n = d.enabledIn base size n :=
  Store.filterMap_set resetWord _ d.words a w fun v => if_neg fun hin => by
    obtain ⟨hlow, hhigh, -⟩ := hin
    have h1 : base ≤ a := hlow
    have h2 : a < base + size * n := hhigh
    omega

/-- A word that a device holds stands among its words, or has its reset value. -/
theorem Store.mem_of_get {α : Type} (z : Nat → α) (s : Store α) (k : Nat) : (k, Store.get z s k) ∈ s ∨ Store.get z s k = z k := by
  induction s with
  | nil => exact .inr rfl
  | cons x t ih =>
    obtain ⟨j, v⟩ := x
    rw [Store.get]
    split
    case isTrue h => exact .inl (h ▸ List.mem_cons_self)
    case isFalse => exact ih.imp (List.mem_cons_of_mem _) id

/-- An entry whose enable bit is set. -/
theorem Dev.mem_enabledIn {i : Nat} (hi : i < n) (hsize : 0 < size) (hreset : getF (resetWord (base + size * i)) 0 1 ≠ 1)
    (h : getF (d.word (base + size * i)) 0 1 = 1) : i ∈ d.enabledIn base size n := by
  have hin : (base + size * i, d.word (base + size * i)) ∈ d.words :=
    (Store.mem_of_get resetWord d.words (base + size * i)).resolve_right fun hw => hreset (hw ▸ h)
  refine List.mem_filterMap.mpr ⟨_, hin, ?_⟩
  have hlt : size * i < size * n := Nat.mul_lt_mul_of_pos_left hi hsize
  have hsub : base + size * i - base = size * i := Nat.add_sub_cancel_left ..
  dsimp only
  rw [if_pos ⟨Nat.le_add_right _ _, Nat.add_lt_add_left hlt base, by rw [hsub]; exact Nat.mul_mod_right _ _, h⟩, hsub, Nat.mul_div_cancel_left _ hsize]

end

/-! The status words of the members -/

/-- A field of a member's status that the update of its group leaves: not STATE, INUSE or RS_ACK. -/
structure Field.IsMemKept (f : Field) : Prop where
  low : 0x1a50_0000 ≤ f.off
  high : f.off < 0x1_0000_0000
  bits : f.lo + f.len ≤ 32
  apart : f.off % 8 = 4 ∨ f.off % 8 = 0 ∧ 4 ≤ f.lo ∧ f.lo + f.len ≤ 20

namespace Field.IsMemKept

variable {f : Field} (hf : f.IsMemKept)
include hf

theorem group {g : Nat} (hg : g < 2 ^ 14) {b : Field} (hb : b.off < 0x1a28_0010) : (b.at 64 g).clearOf f := by
  obtain ⟨hlow, -⟩ := hf
  exact .inl (show f.off ≠ b.off + 64 * g by omega)

theorem event {b : Field} (hb : 0x1_0000_0000 ≤ b.off) : b.clearOf f := by
  obtain ⟨-, hhigh, -⟩ := hf
  exact .inl (by omega)

/-- STATE and INUSE, or RS_ACK. -/
theorem member (i : Nat) {b : Field} (hoff : b.off = 0x1a50_0000) (hb : b.lo + b.len ≤ 4 ∨ 20 ≤ b.lo ∧ b.lo + b.len ≤ 32) : (b.at 8 i).clearOf f := by
  obtain ⟨-, -, hbits, hap | ⟨-, hlo, hhi⟩⟩ := hf
  · exact .inl (show f.off ≠ b.off + 8 * i by omega)
  · exact .inr ⟨show b.lo + b.len ≤ 32 by omega, hbits, (show f.lo + f.len ≤ b.lo ∨ b.lo + b.len ≤ f.lo by omega)⟩

end Field.IsMemKept

section
variable {f : Field} {d e : Dev}

theorem Dev.Reads.gfpRestartKept (h : Dev.Reads f d e) (hf : f.IsMemKept) {g : Nat} (hg : g < 2 ^ 14) : Dev.Reads f d (e.gfpRestart g) := by
  unfold Dev.gfpRestart
  extract_lets d1
  have h0 : Dev.Reads f d (e.setGfpSieve g (e.gfpSieve g).restart) := h.of_only (e.only_setGfpSieve g _)
  have h1 : Dev.Reads f d d1 := (h0.put (g := F.grpStSv.at 64 g) (hf.group hg (by decide)) 0).put (g := F.grpStSlots.at 64 g) (hf.group hg (by decide)) 0
  exact (h1.setGroup g _).groupBit (b := F.grpStLfd) (hf.group hg (by decide)) (hf.event (by decide)) true

theorem Dev.Reads.showSinkKept (h : Dev.Reads f d e) (hf : f.IsMemKept) (g i : Nat) : Dev.Reads f d (e.showSink g i) := by
  unfold Dev.showSink
  extract_lets ok c st d1
  have h1 : Dev.Reads f d d1 := (h.put (hf.member i rfl (by decide)) _).put (hf.member i rfl (by decide)) _
  exact h1.when _ fun x hx => (hx.raise (g := F.flwEvtLcasChg) (hf.event (by decide))).of_only (Dev.only_count _ (by decide) _ _)

theorem Dev.Reads.sinkUpdateKept (h : Dev.Reads f d e) (hf : f.IsMemKept) {g : Nat} (hg : g < 2 ^ 14) : Dev.Reads f d (e.sinkUpdate g) := by
  unfold Dev.sinkUpdate
  extract_lets l use before d1 after ack src d2 loa d3 d4 late want runs was align src'
  have h1 : Dev.Reads f d d1 := h.foldl fun x i _ hx => hx.showSinkKept hf g i
  have h2 : Dev.Reads f d d2 := (h1.setGroup g _).foldl fun x i _ hx => hx.put (g := F.memStRsack.at 8 i) (hf.member i rfl (by decide)) _
  have h3 : Dev.Reads f d d3 := ((h2.groupBit (b := F.grpStSqm) (hf.group hg (by decide)) (hf.event (by decide)) _).groupBit (b := F.grpStLom)
    (hf.group hg (by decide)) (hf.event (by decide)) _).groupBit (b := F.grpStLoa) (hf.group hg (by decide)) (hf.event (by decide)) _
  have h4 : Dev.Reads f d d4 := (h3.put (g := F.grpStDdelay.at 64 g) (hf.group hg (by decide)) _).put
    (g := F.grpStSnkUse.at 64 g) (hf.group hg (by decide)) _
  exact (h4.setGroup g _).when _ fun x hx => hx.gfpRestartKept hf hg

end

/-! The parts that it changes -/

section
variable (d : Dev)

theorem Dev.only_setGroup (g : Nat) (x : GroupSt) : Dev.Only [.groups] d (d.setGroup g x) := .part .groups (by decide) fun _ _ hp => hp d _

theorem Dev.only_setMember (i : Nat) (x : MemberSt) : Dev.Only [.members] d (d.setMember i x) := .part .members (by decide) fun _ _ hp => hp d _

/-- What the stream of a group changes. -/
abbrev streamParts : List Part := [.words, .acc, .groups, .gfp]

theorem Dev.only_gfpRestart (g : Nat) : Dev.Only streamParts d (d.gfpRestart g) :=
  (((((d.only_setGfpSieve g _).mono (by decide)).step (Dev.only_put _ _ _)).step (Dev.only_put _ _ _)).step (Dev.only_setGroup _ g _)).step
    (Dev.only_groupBit _ g _ _)

theorem Dev.only_streamCheck (g : Nat) : Dev.Only streamParts d (d.streamCheck g) := .whenStep _ fun x => x.only_gfpRestart g

theorem Dev.only_showSink (g i : Nat) : Dev.Only [.words, .acc] d (d.showSink g i) := by
  unfold Dev.showSink
  extract_lets ok c st d1
  have h1 : Dev.Only [.words, .acc] d d1 := ((d.only_put _ _).step (Dev.only_put _ _ _)).mono (by decide)
  exact h1.trans (.whenStep _ fun x => ((x.only_raise _).mono (by decide)).step (Dev.only_count _ (by decide) _ _))

theorem Dev.only_sinkUpdate (g : Nat) : Dev.Only streamParts d (d.sinkUpdate g) := by
  unfold Dev.sinkUpdate
  extract_lets l use before d1 after ack src d2 loa d3 d4 late want runs was align src'
  have h1 : Dev.Only streamParts d d1 := .foldl _ fun x i _ => (x.only_showSink g i).mono (by decide)
  have h2 : Dev.Only streamParts d d2 := (h1.step (d1.only_setGroup g _)).trans (.foldl _ fun x i _ => (x.only_put _ _).mono (by decide))
  have h3 : Dev.Only streamParts d d3 := ((h2.step (Dev.only_groupBit _ g _ _)).step (Dev.only_groupBit _ g _ _)).step (Dev.only_groupBit _ g _ _)
  have h4 : Dev.Only streamParts d d4 := (h3.step (Dev.only_put _ _ _)).step (Dev.only_put _ _ _)
  exact (h4.step (d4.only_setGroup g _)).step (Dev.only_streamCheck _ g)

theorem Dev.memGroup_lt (i : Nat) : d.memGroup i < 2 ^ 14 := d.get_lt (F.mem1Group.at 8 i)

end

end Sys2Proof.Machine

/-! The control packets of sink members, and the states of the source members of an LCAS group (R350 to R357). -/

namespace Sys2Proof.Machine

set_option Elab.async false -- a proof at a time, within the memory of a check

/-- What one step of a fold sets and every step keeps holds at its end. -/
theorem List.foldl_sets {α β : Type} {P : β → Prop} {g : β → α → β} {l : List α} {a : α} (ha : a ∈ l) (hset : ∀ x, P (g x a))
    (hkeep : ∀ x b, P x → P (g x b)) (x : β) : P (l.foldl g x) := by
  obtain ⟨l₁, l₂, rfl⟩ := List.append_of_mem ha
  rw [List.foldl_append, List.foldl_cons]
  exact List.foldlRecOn l₂ g (hset _) fun y hy b _ => hkeep y b hy

/-! The sides of a group beside the members' status -/

section
variable {d e : Dev}

/-- Two devices whose tables of members and of groups are the same. -/
structure Dev.SameMembers (d e : Dev) : Prop where
  enabled : e.enabledMembers = d.enabledMembers
  word : ∀ a, 0x1a20_0000 ≤ a → a < 0x1a28_0000 ∨ 0x1a40_0000 ≤ a ∧ a < 0x1a50_0000 → e.word a = d.word a

theorem Dev.SameMembers.get (h : d.SameMembers e) {f : Field} (hlow : 0x1a20_0000 ≤ f.off)
    (hf : f.off < 0x1a28_0000 ∨ 0x1a40_0000 ≤ f.off ∧ f.off < 0x1a50_0000) : e.get f = d.get f := by
  rw [Dev.get, h.word _ hlow hf, Dev.get]

theorem Dev.SameMembers.of_words (h : e.words = d.words) : d.SameMembers e :=
  ⟨by rw [Dev.enabledMembers, Dev.enabledIn, h, Dev.enabledMembers, Dev.enabledIn], fun a _ _ => by rw [Dev.word, h, Dev.word]⟩

theorem Dev.SameMembers.put (h : d.SameMembers e) {f : Field} (hlow : 0x1a50_0000 ≤ f.off) (v : Nat) : d.SameMembers (e.put f v) := by
  refine ⟨(Dev.enabledIn_setWord e _ (.inr (by omega))).trans h.enabled, fun a ha hr => ?_⟩
  rw [Dev.put, Dev.word_setWord_other _ _ (show a ≠ f.off by omega)]
  exact h.word a ha hr

theorem Dev.SameMembers.side (h : d.SameMembers e) (g : Nat) (sink : Bool) : e.side g sink = d.side g sink := by
  rw [Dev.side, h.enabled, Dev.side]
  refine List.filter_congr fun i hi => ?_
  have hlt : i < 131072 := d.enabledIn_lt hi
  have hgroup : e.memGroup i = d.memGroup i := h.get (f := F.mem1Group.at 8 i) (show 0x1a20_0000 ≤ 0x1a40_0004 + 8 * i by omega)
    (.inr ⟨show 0x1a40_0000 ≤ 0x1a40_0004 + 8 * i by omega, show 0x1a40_0004 + 8 * i < _ by omega⟩)
  have hsink : e.memSink i = d.memSink i := by
    rw [Dev.memSink, Dev.on, h.get (f := F.memDir.at 8 i) (show 0x1a20_0000 ≤ 0x1a40_0000 + 8 * i by omega)
      (.inr ⟨show 0x1a40_0000 ≤ 0x1a40_0000 + 8 * i by omega, show 0x1a40_0000 + 8 * i < _ by omega⟩)]
    rfl
  rw [hgroup, hsink]

theorem Dev.SameMembers.delayOf (h : d.SameMembers e) (hmfi : ∀ j, (e.member j).mfi = (d.member j).mfi) {g : Nat} (hg : g < 2 ^ 14) (i : Nat) :
    e.delayOf g i = d.delayOf g i := by
  have htype : e.grpMtype g = d.grpMtype g := h.get (f := F.grpMtype.at 32 g) (show 0x1a20_0000 ≤ F.grpMtype.off + 32 * g by simp only [F.grpMtype]; omega)
    (.inl (show F.grpMtype.off + 32 * g < _ by simp only [F.grpMtype]; omega))
  unfold Dev.delayOf
  rw [h.side, htype, hmfi]
  simp only [hmfi]

end

/-! The reset values of the members' words -/

theorem lookupReg_some {l : List RegDef} {a : Nat} {r : RegDef} (h : lookupReg l a = some r) :
    r ∈ l ∧ r.off ≤ a ∧ a < r.off + r.count * r.stride := by
  induction l with
  | nil => exact absurd h (by simp [lookupReg])
  | cons x t ih =>
    rw [lookupReg] at h
    split at h
    case isTrue hin =>
      obtain ⟨hlow, hhigh, -⟩ := hin
      obtain rfl := Option.some.inj h
      exact ⟨List.mem_cons_self, hlow, hhigh⟩
    case isFalse =>
      obtain ⟨hmem, hrange⟩ := ih h
      exact ⟨List.mem_cons_of_mem _ hmem, hrange⟩

theorem resetWord_member {i : Nat} (hi : i < 131072) : resetWord (0x1a40_0000 + 8 * i) = 0 := by
  have hrows : ∀ r ∈ windowRegs, r.off + r.count * r.stride ≤ 0x1a40_0000 ∨ 0x1a50_0000 ≤ r.off ∨ r.reset = 0 := by decide +kernel
  have hpage : isPageAddr (0x1a40_0000 + 8 * i) = false := by
    rw [isPageAddr, decide_eq_false (by omega), Bool.false_and]
  rw [resetWord, regDefOf, hpage, if_neg (by decide)]
  split
  case h_1 r hr =>
    obtain ⟨hmem, hlow, hhigh⟩ := lookupReg_some hr
    have hzero : r.reset = 0 := by
      rcases hrows r hmem with h | h | h
      · omega
      · omega
      · exact h
    rw [indexedReset, hpage, if_neg (by decide), if_neg (by omega), hzero]
    rfl
  case h_2 => rfl

/-! A control packet (R351, R354, R355) -/

section
variable {d : Dev}

theorem Dev.Reads.sourceReport {f : Field} {e : Dev} (h : Dev.Reads f d e) (hf : f.IsMemKept) (g : Nat) (c : ControlPacket) :
    Dev.Reads f d (e.sourceReport g c) := by
  refine h.foldl fun x j _ hx => ?_
  extract_lets e1 sq st
  have h1 : Dev.Reads f d e1 := hx.put (g := F.memStRsack.at 8 j) (hf.member j rfl (by decide)) _
  split
  · exact (h1.of_words (Dev.setMember_words e1 j _)).when _ fun y hy => hy.raise (g := F.flwEvtLcasChg) (hf.event (by decide))
  · exact h1

theorem Dev.member_setMember (i j : Nat) (x : MemberSt) : (d.setMember i x).member j = if j = i then x else d.member j :=
  Store.get_set _ _ _ _ _

/-- What a source's report leaves of each member: all but the last MST. -/
theorem Dev.sourceReport_member (d : Dev) (g : Nat) (c : ControlPacket) (i : Nat) :
    ((d.sourceReport g c).member i).packet = (d.member i).packet ∧ ((d.sourceReport g c).member i).sqBad = (d.member i).sqBad
      ∧ ((d.sourceReport g c).member i).sqOk = (d.member i).sqOk := by
  refine List.foldlRecOn (motive := fun x : Dev => (x.member i).packet = (d.member i).packet ∧ (x.member i).sqBad = (d.member i).sqBad
    ∧ (x.member i).sqOk = (d.member i).sqOk) _ _ ⟨rfl, rfl, rfl⟩ fun x hx j _ => ?_
  extract_lets e1 sq st
  have h1 : e1.member i = x.member i := Dev.member_congr (x.only_put _ _).members i
  split
  · have hw : ∀ (b : Bool) (y : Dev), (y.when b fun z => z.raise F.flwEvtLcasChg).member i = y.member i := fun b y =>
      Dev.member_congr (Dev.Only.whenStep b fun z => z.only_raise F.flwEvtLcasChg : Dev.Only [.words] y _).members i
    rw [hw, Dev.member_setMember]
    split
    case isTrue h =>
      subst h
      rw [← h1] at hx
      exact hx
    case isFalse => rw [h1]; exact hx
  · rw [h1]
    exact hx

theorem Dev.Reads.showDelays {f : Field} {e : Dev} (h : Dev.Reads f d e) (hf : 0x1a50_0000 ≤ f.off ∧ f.off % 8 = 0) (g : Nat) :
    Dev.Reads f d (e.showDelays g) :=
  h.when _ fun x hx => hx.foldl fun y j _ hy => hy.put (g := F.memStDelay.at 8 j) (.inl (show f.off ≠ 0x1a50_0004 + 8 * j by omega)) _

theorem Dev.only_showDelays (d : Dev) (g : Nat) : Dev.Only [.words] d (d.showDelays g) :=
  .whenStep _ fun _ => .foldl _ fun y _ _ => y.only_put _ _

/-- The delay of a member of a group. -/
theorem Dev.get_showDelays {g i : Nat} (hmode : d.grpMode g = modeVcat) (hi : i ∈ d.side g true) :
    (d.showDelays g).get (F.memStDelay.at 8 i) = d.delayOf g i := by
  have hlt : d.delayOf g i < 4096 := by
    unfold Dev.delayOf
    extract_lets t
    split
    · decide
    · exact Nat.lt_of_le_of_lt (Nat.min_le_left _ _) (by decide)
  rw [Dev.showDelays, Dev.when_eq (by rw [hmode]; rfl)]
  refine List.foldl_sets (P := fun x : Dev => x.get (F.memStDelay.at 8 i) = d.delayOf g i) hi (fun _ => ?_) (fun _ j hx => ?_) d
  · rw [Dev.get_put_same _ _ _ (show 0 + 12 ≤ 32 by decide)]
    exact Nat.mod_eq_of_lt hlt
  · by_cases hj : j = i
    · subst hj
      rw [Dev.get_put_same _ _ _ (show 0 + 12 ≤ 32 by decide)]
      exact Nat.mod_eq_of_lt hlt
    · rw [Dev.get_put_apart _ _ (.inl (show 0x1a50_0004 + 8 * i ≠ 0x1a50_0004 + 8 * j by omega))]
      exact hx

/-- The member's run of control packets with another SQ, and with its own. -/
def MemberSt.sqSeen (x : MemberSt) (same : Bool) : MemberSt :=
  { x with sqBad := if same then 0 else Nat.min 3 (x.sqBad + 1), sqOk := if same then Nat.min 3 (x.sqOk + 1) else 0 }

/-- What the packet shows of the member itself. -/
def Dev.packetShown (d : Dev) (i : Nat) (c : ControlPacket) : Dev :=
  ((d.setMember i ((d.member i).sqSeen (c.sq == d.get (F.mem1Sq.at 8 i)))).put (F.memStCtrl.at 8 i) c.ctrl).put (F.memStSq.at 8 i) c.sq

theorem Dev.controlPacket_eq (d : Dev) (i : Nat) (c : ControlPacket) : d.controlPacket i c
    = (((d.packetShown i c).showDelays (d.memGroup i)).when (d.grpLcas (d.memGroup i)) (fun e => e.sourceReport (d.memGroup i) c)).sinkUpdate (d.memGroup i) := rfl

theorem Dev.controlPacket_shows {i : Nat} (hi : i < 131072) (hen : d.on (F.memEn.at 8 i) = true) (hsink : d.memSink i = true)
    (hmode : d.grpMode (d.memGroup i) = modeVcat) (c : ControlPacket) :
    (d.controlPacket i c).get (F.memStCtrl.at 8 i) = c.ctrl % 16 ∧ (d.controlPacket i c).get (F.memStSq.at 8 i) = c.sq % 256
      ∧ (d.controlPacket i c).get (F.memStDelay.at 8 i) = d.delayOf (d.memGroup i) i
      ∧ ((d.controlPacket i c).member i).packet = (d.member i).packet
      ∧ (c.sq ≠ d.get (F.mem1Sq.at 8 i) → ((d.controlPacket i c).member i).sqBad = Nat.min 3 ((d.member i).sqBad + 1)
        ∧ ((d.controlPacket i c).member i).sqOk = 0) := by
  have hgroup := d.memGroup_lt i
  obtain ⟨g, hg⟩ : ∃ g, g = d.memGroup i := ⟨_, rfl⟩
  obtain ⟨x, hx⟩ : ∃ x, x = d.packetShown i c := ⟨_, rfl⟩
  obtain ⟨y, hy⟩ : ∃ y, y = x.showDelays g := ⟨_, rfl⟩
  obtain ⟨z, hz⟩ : ∃ z, z = y.when (d.grpLcas g) (fun e => e.sourceReport g c) := ⟨_, rfl⟩
  have hall : d.controlPacket i c = z.sinkUpdate g := by rw [d.controlPacket_eq, ← hg, ← hx, ← hy, ← hz]
  rw [← hg] at hgroup hmode
  obtain ⟨v, hv⟩ : ∃ v, v = d.setMember i ((d.member i).sqSeen (c.sq == d.get (F.mem1Sq.at 8 i))) := ⟨_, rfl⟩
  have hvw : v.words = d.words := hv ▸ Dev.setMember_words _ _ _
  have hxv : x = (v.put (F.memStCtrl.at 8 i) c.ctrl).put (F.memStSq.at 8 i) c.sq := by rw [hx, hv]; rfl
  have hkept (lo len : Nat) (hb : 4 ≤ lo ∧ lo + len ≤ 20) : (⟨0x1a50_0000 + 8 * i, lo, len⟩ : Field).IsMemKept :=
    ⟨Nat.le_add_right _ _, show 0x1a50_0000 + 8 * i < _ by omega, show lo + len ≤ 32 by omega, .inr ⟨show (0x1a50_0000 + 8 * i) % 8 = 0 by omega, hb⟩⟩
  have hdelay : (F.memStDelay.at 8 i).IsMemKept :=
    ⟨show 0x1a50_0000 ≤ 0x1a50_0004 + 8 * i by omega, show 0x1a50_0004 + 8 * i < _ by omega, show 0 + 12 ≤ 32 by decide,
      .inl (show (0x1a50_0004 + 8 * i) % 8 = 4 by omega)⟩
  have hend {f : Field} (hf : f.IsMemKept) : Dev.Reads f y (d.controlPacket i c) := by
    rw [hall, hz]
    exact ((Dev.Reads.refl f y).when _ fun e he => he.sourceReport hf g c).sinkUpdateKept hf hgroup
  have hstat (lo len : Nat) (hb : 4 ≤ lo ∧ lo + len ≤ 20) : Dev.Reads ⟨0x1a50_0000 + 8 * i, lo, len⟩ x (d.controlPacket i c) :=
    (hy ▸ (Dev.Reads.refl _ x).showDelays ⟨Nat.le_add_right _ _, show (0x1a50_0000 + 8 * i) % 8 = 0 by omega⟩ g : Dev.Reads _ x y).trans (hend (hkept lo len hb))
  have hsame : d.SameMembers x := hxv ▸ (((Dev.SameMembers.of_words hvw).put (show 0x1a50_0000 ≤ 0x1a50_0000 + 8 * i by omega) c.ctrl).put
    (show 0x1a50_0000 ≤ 0x1a50_0000 + 8 * i by omega) c.sq)
  have hmem : ∀ j, x.member j = v.member j := fun j => by
    rw [hxv]
    exact Dev.member_congr ((v.only_put _ _).step (Dev.only_put _ _ _)).members j
  have hmfi : ∀ j, (x.member j).mfi = (d.member j).mfi := fun j => by
    rw [hmem, hv, Dev.member_setMember]
    split
    case isTrue h => subst h; rfl
    case isFalse => rfl
  have hside : i ∈ x.side g true := by
    rw [hsame.side]
    refine List.mem_filter.mpr ⟨d.mem_enabledIn hi (by decide) ?_ ?_, ?_⟩
    · rw [resetWord_member hi]
      decide
    · have hone : d.get (F.memEn.at 8 i) < 2 ^ 1 := d.get_lt _
      have hne : d.get (F.memEn.at 8 i) ≠ 0 := by simpa [Dev.on] using hen
      exact (by omega : d.get (F.memEn.at 8 i) = 1)
    · rw [hg, hsink, beq_self_eq_true]
      rfl
  have hmember : ((d.controlPacket i c).member i).packet = (x.member i).packet ∧ ((d.controlPacket i c).member i).sqBad = (x.member i).sqBad
      ∧ ((d.controlPacket i c).member i).sqOk = (x.member i).sqOk := by
    have hyx : y.member i = x.member i := Dev.member_congr (hy ▸ (x.only_showDelays g).members) i
    rw [hall, Dev.member_congr (z.only_sinkUpdate g).members i, ← hyx, hz]
    cases d.grpLcas g with
    | false => exact ⟨rfl, rfl, rfl⟩
    | true => exact y.sourceReport_member g c i
  have hxi : x.member i = (d.member i).sqSeen (c.sq == d.get (F.mem1Sq.at 8 i)) := by
    rw [hmem, hv]
    exact Dev.member_setMember_same ..
  obtain ⟨hpacket, hbad, hok⟩ := hmember
  refine ⟨?_, ?_, ?_, ?_, fun hne => ?_⟩
  · refine Eq.trans (hstat 4 4 (by decide)) ?_
    show x.get (F.memStCtrl.at 8 i) = _
    rw [hxv, Dev.get_put_apart _ _ (.inr ⟨show 8 + 8 ≤ 32 by decide, show 4 + 4 ≤ 32 by decide, .inl (show 4 + 4 ≤ 8 by decide)⟩),
      Dev.get_put_same _ _ _ (show 4 + 4 ≤ 32 by decide)]
    rfl
  · refine Eq.trans (hstat 8 8 (by decide)) ?_
    show x.get (F.memStSq.at 8 i) = _
    rw [hxv, Dev.get_put_same _ _ _ (show 8 + 8 ≤ 32 by decide)]
    rfl
  · refine Eq.trans (hend hdelay) ?_
    have hxmode : x.grpMode g = modeVcat := (hsame.get (f := F.grpMode.at 32 g) (show 0x1a20_0000 ≤ 0x1a20_0000 + 32 * g by omega)
      (.inl (show 0x1a20_0000 + 32 * g < _ by omega))).trans hmode
    rw [hy, Dev.get_showDelays hxmode hside, hsame.delayOf hmfi hgroup, hg]
  · rw [hpacket, hxi]
    rfl
  · have hdiff : (c.sq == d.get (F.mem1Sq.at 8 i)) = false := beq_eq_false_iff_ne.mpr hne
    rw [hbad, hok, hxi, hdiff]
    exact ⟨rfl, rfl⟩

end

end Sys2Proof.Machine

/-! The causes of a sink member, the source members at a boundary, and the statement (R351 to R357). -/

namespace Sys2Proof.Machine

set_option Elab.async false -- a proof at a time, within the memory of a check

/-! A cause of a sink member -/

section
variable (d : Dev) (i : Nat)

/-- One bit of a member's status is written, and the group follows. -/
theorem Dev.sinkBit_shows {lo : Nat} (hlo : 4 ≤ lo ∧ lo + 1 ≤ 20) (hi : i < 131072) (v : Bool) {g : Nat} (hg : g < 2 ^ 14) :
    ((d.put (⟨0x1a50_0000 + 8 * i, lo, 1⟩ : Field) (bitOf v)).sinkUpdate g).on ⟨0x1a50_0000 + 8 * i, lo, 1⟩ = v
      ∧ ∀ j, ((d.put (⟨0x1a50_0000 + 8 * i, lo, 1⟩ : Field) (bitOf v)).sinkUpdate g).member j = d.member j := by
  have hkept : (⟨0x1a50_0000 + 8 * i, lo, 1⟩ : Field).IsMemKept :=
    ⟨Nat.le_add_right _ _, show 0x1a50_0000 + 8 * i < _ by omega, show lo + 1 ≤ 32 by omega, .inr ⟨show (0x1a50_0000 + 8 * i) % 8 = 0 by omega, hlo⟩⟩
  refine ⟨((Dev.Reads.refl _ _).sinkUpdateKept hkept hg).on.trans (d.on_put_bitOf _ v (show lo < 32 by omega) rfl), fun j => ?_⟩
  exact (Dev.member_congr (Dev.only_sinkUpdate _ g).members j).trans (Dev.member_congr (d.only_put _ _).members j)

theorem Dev.only_sinkBit (f : Field) (v g : Nat) : Dev.Only streamParts d ((d.put f v).sinkUpdate g) :=
  ((d.only_put f v).mono (by decide)).step (Dev.only_sinkUpdate _ g)

end

/-! The LOA of a group -/

theorem Dev.on_groupBit {d : Dev} (g : Nat) {f : Field} (hf : f.lo < 32 ∧ f.len = 1) (hoff : (f.at 64 g).off < 0x1_0000_0000) (v : Bool) :
    (d.groupBit g f v).on (f.at 64 g) = v := by
  unfold Dev.groupBit
  split
  case isTrue h => exact h
  case isFalse =>
    have hevt : F.flwEvtGrpChg.clearOf (f.at 64 g) := .inl (show (f.at 64 g).off ≠ 0x1_000c_0100 by omega)
    exact (((Dev.Reads.refl (f.at 64 g) _).raise hevt).of_only (Dev.only_markGroup _ g)).on.trans (d.on_put_bitOf (f.at 64 g) v hf.1 hf.2)

/-- The restart of a stream beside the group's LOA. -/
theorem Dev.Reads.streamCheckLoa {d e : Dev} {g : Nat} (h : Dev.Reads (F.grpStLoa.at 64 g) d e) (hg : g < 16384) :
    Dev.Reads (F.grpStLoa.at 64 g) d (e.streamCheck g) := by
  refine h.when _ fun x hx => ?_
  unfold Dev.gfpRestart
  extract_lets d1
  have h0 : Dev.Reads (F.grpStLoa.at 64 g) d (x.setGfpSieve g (x.gfpSieve g).restart) := hx.of_only (x.only_setGfpSieve g _)
  have hsv : (F.grpStSv.at 64 g).clearOf (F.grpStLoa.at 64 g) :=
    .inr ⟨show 0 + 2 ≤ 32 by decide, show 5 + 1 ≤ 32 by decide, .inr (show 0 + 2 ≤ 5 by decide)⟩
  have hslots : (F.grpStSlots.at 64 g).clearOf (F.grpStLoa.at 64 g) := .inl (show 0x1a28_0000 + 64 * g ≠ 0x1a28_0008 + 64 * g by omega)
  have hlfd : (F.grpStLfd.at 64 g).clearOf (F.grpStLoa.at 64 g) :=
    .inr ⟨show 2 + 1 ≤ 32 by decide, show 5 + 1 ≤ 32 by decide, .inr (show 2 + 1 ≤ 5 by decide)⟩
  have h1 : Dev.Reads (F.grpStLoa.at 64 g) d d1 := (h0.put hsv 0).put hslots 0
  exact (h1.setGroup g _).groupBit hlfd (.inl (show 0x1a28_0000 + 64 * g ≠ 0x1_000c_0100 by omega)) true

/-! The source members at a boundary (R354) -/

section
variable (d : Dev)

/-- What a source member that is set changes. -/
abbrev sourceParts : List Part := [.words, .acc, .items, .members]

theorem Dev.only_setSource (i st sq : Nat) : Dev.Only [.words, .acc, .items] d (d.setSource i st sq) := by
  have hmoved (e : Dev) (was : Nat) : Dev.Only [.words, .acc, .items] e (e.lcasMoved i was) :=
    .whenStep _ fun x => ((x.only_raise _).mono (by decide)).step (Dev.only_count _ (by decide) _ _)
  have hwritten : Dev.Only [.words, .acc, .items] d (((d.put (F.memStState.at 8 i) st).put (F.memStCtrl.at 8 i) (ctrlOf st)).put (F.memStSq.at 8 i) sq) :=
    (((d.only_put _ _).step (Dev.only_put _ _ _)).step (Dev.only_put _ _ _)).mono (by decide)
  exact (hwritten.trans (hmoved _ _)).trans (.whenStep _ fun x => (x.only_note 5 i).mono (by decide))

theorem Dev.setSource_reads {f : Field} {e : Dev} (h : Dev.Reads f d e) (i st sq : Nat) (hf : f.off ≠ 0x1a50_0000 + 8 * i) (hevt : f.off < 0x1_0000_0000) :
    Dev.Reads f d (e.setSource i st sq) := by
  have hmoved (x : Dev) (hx : Dev.Reads f d x) (was : Nat) : Dev.Reads f d (x.lcasMoved i was) :=
    hx.when _ fun y hy => (hy.raise (g := F.flwEvtLcasChg) (.inl (show f.off ≠ 0x1_000c_0100 by omega))).of_only (Dev.only_count _ (by decide) _ _)
  have hwritten := ((h.put (g := F.memStState.at 8 i) (.inl hf) st).put (g := F.memStCtrl.at 8 i) (.inl hf) (ctrlOf st)).put (g := F.memStSq.at 8 i) (.inl hf) sq
  exact (hmoved _ hwritten _).when _ fun x hx => hx.of_only (x.only_note 5 i)

/-- The state that is set shows. -/
theorem Dev.memState_setSource (i sq : Nat) {st : Nat} (hst : st < 8) (hi : i < 131072) : (d.setSource i st sq).memState i = st := by
  have hmoved (x : Dev) (was : Nat) : Dev.Reads (F.memStState.at 8 i) x (x.lcasMoved i was) :=
    (Dev.Reads.refl _ x).when _ fun y hy => (hy.raise (g := F.flwEvtLcasChg) (.inl (show 0x1a50_0000 + 8 * i ≠ 0x1_000c_0100 by omega))).of_only
      (Dev.only_count _ (by decide) _ _)
  have hkeep {g : Field} (x : Dev) (hoff : g.off = 0x1a50_0000 + 8 * i) (hlo : 3 ≤ g.lo) (hhi : g.lo + g.len ≤ 32) (v : Nat) :
      Dev.Reads (F.memStState.at 8 i) x (x.put g v) :=
    (Dev.Reads.refl _ x).put (.inr ⟨hhi, show 0 + 3 ≤ 32 by decide, .inl (show 0 + 3 ≤ g.lo from hlo)⟩) v
  obtain ⟨x, hx⟩ : ∃ x, x = d.put (F.memStState.at 8 i) st := ⟨_, rfl⟩
  obtain ⟨y, hy⟩ : ∃ y, y = (x.put (F.memStCtrl.at 8 i) (ctrlOf st)).put (F.memStSq.at 8 i) sq := ⟨_, rfl⟩
  have hxy : Dev.Reads (F.memStState.at 8 i) x y := hy ▸ (hkeep x rfl (show 3 ≤ 4 by decide) (show 4 + 4 ≤ 32 by decide) _).trans
    (hkeep _ rfl (show 3 ≤ 8 by decide) (show 8 + 8 ≤ 32 by decide) _)
  have hlast : Dev.Reads (F.memStState.at 8 i) x (d.setSource i st sq) := by
    rw [Dev.setSource, ← hx, ← hy]
    exact (hxy.trans (hmoved y _)).when _ fun z hz => hz.of_only (z.only_note 5 i)
  refine Eq.trans hlast ?_
  rw [hx, Dev.get_put_same _ _ _ (show 0 + 3 ≤ 32 by decide)]
  exact Nat.mod_eq_of_lt hst

theorem Dev.sourceNext_lt (i : Nat) : d.sourceNext i < 8 := by
  unfold Dev.sourceNext
  extract_lets st act mst
  repeat' split
  all_goals decide

/-- The last in order of the members that are to send NORM sends EOS. -/
def Dev.eosOf (d : Dev) (g : Nat) : Option Nat :=
  let l := d.side g false
  let nexts := l.map (fun i => (i, d.sourceNext i))
  let is (s : Nat) (i : Nat) : Bool := nexts.any (fun x => x.1 == i && x.2 == s)
  let wasIn (i : Nat) : Bool := d.memState i == stNorm || d.memState i == stEos || d.memState i == stDnu
  let inUse := l.filter (fun i => is stNorm i || is stDnu i)
  let old := d.bySq (inUse.filter wasIn)
  let joins := d.bySq (inUse.filter (fun i => !wasIn i))
  let adds := l.filter (is stAdd)
  let waiting := d.bySq (adds.filter (fun i => d.memState i == stAdd)) ++ adds.filter (fun i => d.memState i != stAdd)
  ((old ++ joins ++ waiting).filter (is stNorm)).getLast?

theorem Dev.eosOf_norm {g i : Nat} (h : d.eosOf g = some i) : d.sourceNext i = stNorm := by
  unfold Dev.eosOf at h
  extract_lets l nexts is wasIn inUse old joins adds waiting at h
  have hnorm : is stNorm i = true := (List.mem_filter.mp (List.mem_of_getLast? h)).2
  obtain ⟨x, hx, heq⟩ := List.any_eq_true.mp hnorm
  obtain ⟨j, -, rfl⟩ := List.mem_map.mp hx
  obtain ⟨hj, hst⟩ := Bool.and_eq_true_iff.mp heq
  rw [← eq_of_beq hj]
  exact eq_of_beq hst

/-- The boundary is a fold that sets each source member. -/
theorem Dev.sourceBoundary_fold (g : Nat) : ∃ (sq : Nat → Nat) (gone : Nat × Nat → Nat → Bool),
    d.sourceBoundary g = ((d.side g false).map fun i => (i, d.sourceNext i)).foldl (fun e x =>
      (e.setSource x.1 (if d.eosOf g = some x.1 then stEos else x.2) (sq x.1)).when (gone x (if d.eosOf g = some x.1 then stEos else x.2))
        (fun y => y.setMember x.1 { y.member x.1 with mst := none })) d := by
  unfold Dev.sourceBoundary
  extract_lets l nexts is wasIn inUse old joins adds waiting order eos sq
  have heos : d.eosOf g = eos := rfl
  rw [heos]
  exact ⟨sq, fun x st => st == stAdd && d.memState x.1 != stAdd || st == stIdle, rfl⟩

theorem Dev.only_sourceBoundary (g : Nat) : Dev.Only sourceParts d (d.sourceBoundary g) := by
  obtain ⟨sq, gone, hfold⟩ := d.sourceBoundary_fold g
  rw [hfold]
  exact .foldl _ fun e x _ => ((e.only_setSource _ _ _).mono (by decide)).trans (.whenStep _ fun y => (y.only_setMember _ _).mono (by decide))

theorem Dev.sourceBoundary_pays (g i : Nat) : ((d.sourceBoundary g).member i).pays = (d.member i).pays := by
  obtain ⟨sq, gone, hfold⟩ := d.sourceBoundary_fold g
  rw [hfold]
  refine List.foldlRecOn (motive := fun e : Dev => (e.member i).pays = (d.member i).pays) _ _ rfl fun e he x _ => ?_
  have hset := Dev.member_congr (e.only_setSource x.1 (if d.eosOf g = some x.1 then stEos else x.2) (sq x.1)).members i
  generalize e.setSource x.1 (if d.eosOf g = some x.1 then stEos else x.2) (sq x.1) = y at hset ⊢
  have hy : (y.member i).pays = (d.member i).pays := by rw [hset]; exact he
  refine Dev.when_of (P := fun z : Dev => (z.member i).pays = (d.member i).pays) _ hy ?_
  rw [Dev.member_setMember]
  split
  case isTrue h => subst h; exact hy
  case isFalse => exact hy

/-- The state of a source member after the boundary. -/
theorem Dev.sourceBoundary_state {g i : Nat} (hi : i ∈ d.side g false) :
    (d.sourceBoundary g).memState i = if d.eosOf g = some i then stEos else d.sourceNext i := by
  have hlt := d.side_lt hi
  have hsmall : (if d.eosOf g = some i then stEos else d.sourceNext i) < 8 := by
    split
    · decide
    · exact d.sourceNext_lt i
  obtain ⟨sq, gone, hfold⟩ := d.sourceBoundary_fold g
  rw [hfold, List.foldl_map]
  have hmember (y : Dev) (j : Nat) (b : Bool) : (y.when b fun z => z.setMember j { z.member j with mst := none }).memState i = y.memState i :=
    Dev.get_of_words (Dev.when_of (P := fun z : Dev => z.words = y.words) b rfl (Dev.setMember_words _ _ _)) _
  have hset (e : Dev) (b : Bool) : ((e.setSource i (if d.eosOf g = some i then stEos else d.sourceNext i) (sq i)).when b fun z =>
      z.setMember i { z.member i with mst := none }).memState i = if d.eosOf g = some i then stEos else d.sourceNext i :=
    (hmember _ i b).trans (Dev.memState_setSource e i (sq i) hsmall hlt)
  refine List.foldl_sets (P := fun e : Dev => e.memState i = if d.eosOf g = some i then stEos else d.sourceNext i)
    hi (fun e => hset e _) (fun e j he => ?_) d
  by_cases hj : j = i
  · subst hj
    exact hset e _
  · refine (hmember _ j _).trans (Eq.trans ?_ he)
    exact Dev.setSource_reads e (f := F.memStState.at 8 i) (.refl _ e) j _ _ (show 0x1a50_0000 + 8 * i ≠ 0x1a50_0000 + 8 * j by omega)
      (show 0x1a50_0000 + 8 * i < _ by omega)

/-- The start of a multiframe decides what the source members carry. -/
theorem Dev.sourceFrameStart_spec {g i : Nat} (hlcas : d.grpLcas g = true) (hi : i ∈ d.side g false) :
    ((d.sourceFrameStart g).group g).mfi = ((d.group g).mfi + 1) % 4096
      ∧ ((d.sourceFrameStart g).group g).bound = decide (((d.group g).mfi + 1) % 4096 % multiframe (d.grpMtype g) = 0)
      ∧ ((d.sourceFrameStart g).member i).pays
        = if ((d.group g).mfi + 1) % 4096 % multiframe (d.grpMtype g) = 0 then carries (d.memState i) else (d.member i).pays := by
  have hmode : (d.grpMode g == modeVcat) = true := (Bool.and_eq_true_iff.mp hlcas).1
  obtain ⟨m, hm⟩ : ∃ m, m = ((d.group g).mfi + 1) % 4096 := ⟨_, rfl⟩
  obtain ⟨first, hdef⟩ : ∃ b, b = (d.grpMode g == modeVcat && m % multiframe (d.grpMtype g) == 0) := ⟨_, rfl⟩
  have hfirst : first = decide (m % multiframe (d.grpMtype g) = 0) := by
    rw [hdef, hmode, Bool.true_and, beq_eq_decide]
  obtain ⟨x, hx⟩ : ∃ x, x = d.setGroup g { d.group g with mfi := m, bound := first } := ⟨_, rfl⟩
  have hgroup : (x.group g).mfi = m ∧ (x.group g).bound = first := by
    rw [hx, Dev.group, Dev.setGroup, Store.get_set_same]
    exact ⟨rfl, rfl⟩
  have hframe : d.sourceFrameStart g = x.when (first && d.grpLcas g) (fun e => e.payloadSet g) := by
    rw [hx, hdef, hm, Dev.sourceFrameStart]
  have hwords : x.words = d.words := hx ▸ rfl
  have hmember (j : Nat) : x.member j = d.member j := hx ▸ rfl
  have hside : x.side g false = d.side g false := (Dev.SameMembers.of_words hwords).side g false
  have hset : Dev.Only [.words, .members] x (x.payloadSet g) :=
    Dev.Only.trans (.foldl _ fun e j _ => (e.only_setMember j _).mono (by decide)) ((Dev.only_put _ _ _).mono (by decide))
  have hpays : ((x.payloadSet g).member i).pays = carries (d.memState i) := by
    have hput (y : Dev) : ((y.showSourceUse g).member i).pays = (y.member i).pays :=
      congrArg MemberSt.pays (Dev.member_congr (y.only_put _ _).members i)
    rw [Dev.payloadSet, hput]
    have hstate : carries (x.memState i) = carries (d.memState i) := congrArg carries (Dev.get_of_words hwords _)
    refine List.foldl_sets (P := fun e : Dev => (e.member i).pays = carries (d.memState i)) (hside ▸ hi) (fun e => ?_) (fun e j he => ?_) x
    · rw [Dev.member_setMember, if_pos rfl]
      exact hstate
    · rw [Dev.member_setMember]
      split
      case isTrue h => subst h; exact hstate
      case isFalse => exact he
  rw [hframe, hlcas, Bool.and_true, ← hm]
  by_cases hzero : m % multiframe (d.grpMtype g) = 0
  · have hone : first = true := hfirst.trans (decide_eq_true hzero)
    rw [hone, if_pos hzero, Dev.when_eq rfl, Dev.group_congr hset.groups, hgroup.1, hgroup.2, hone, decide_eq_true hzero]
    exact ⟨rfl, rfl, hpays⟩
  · have hnone : first = false := hfirst.trans (decide_eq_false hzero)
    rw [hnone, if_neg hzero, decide_eq_false hzero]
    exact ⟨hgroup.1, hgroup.2.trans hnone, congrArg MemberSt.pays (hmember i)⟩

end

/-! What the commands do -/

section
variable {s : State}

theorem exec_controlPacket {i : MemberId} {c : ControlPacket} (hruns : s.dev.flwRuns = true) (hen : s.dev.on (F.memEn.at 8 i) = true)
    (hsink : s.dev.memSink i = true) (hmode : s.dev.grpMode (s.dev.memGroup i) = modeVcat) (hc : (s.dev.member i).packet = some c) :
    exec (.controlPacket i c) s
      = .next { s with dev := (s.dev.setMember i { s.dev.member i with packet := none }).when c.crcOk fun e => e.controlPacket i c } := by
  have hdue : (s.dev.flwRuns && s.dev.mfiLive i.val && (s.dev.member i.val).packet == some c) = true := by
    rw [Dev.mfiLive, hruns, hen, hsink, hmode, hc]
    simp
  show (.next { s with dev := s.dev.when _ _ } : Out) = _
  rw [Dev.when_eq hdue]

/-- A control packet whose CRC does not fail. -/
theorem controlPacket_taken {i : MemberId} {c : ControlPacket} (hruns : s.dev.flwRuns = true) (hen : s.dev.on (F.memEn.at 8 i) = true)
    (hsink : s.dev.memSink i = true) (hmode : s.dev.grpMode (s.dev.memGroup i) = modeVcat) (hc : (s.dev.member i).packet = some c)
    (hcrc : c.crcOk = true) :
    ∃ t, exec (.controlPacket i c) s = .next t ∧ t.dev.get (F.memStCtrl.at 8 i) = c.ctrl % 16
      ∧ t.dev.get (F.memStSq.at 8 i) = c.sq % 256 ∧ t.dev.get (F.memStDelay.at 8 i) = s.dev.delayOf (s.dev.memGroup i) i
      ∧ (t.dev.member i).packet = none ∧ KeepsMemories s t
      ∧ (c.sq ≠ s.dev.get (F.mem1Sq.at 8 i) →
        (t.dev.member i).sqBad = Nat.min 3 ((s.dev.member i).sqBad + 1) ∧ (t.dev.member i).sqOk = 0) := by
  obtain ⟨x, hx⟩ : ∃ x, x = s.dev.setMember i { s.dev.member i with packet := none } := ⟨_, rfl⟩
  have hwords : x.words = s.dev.words := hx ▸ Dev.setMember_words _ _ _
  have hself : x.member i = { s.dev.member i with packet := none } := by rw [hx, Dev.member_setMember, if_pos rfl]
  have hmfi : ∀ j, (x.member j).mfi = (s.dev.member j).mfi := fun j => by
    rw [hx, Dev.member_setMember]
    split
    case isTrue h => subst h; rfl
    case isFalse => rfl
  have hget (f : Field) : x.get f = s.dev.get f := Dev.get_of_words hwords f
  have hgroup : x.memGroup i = s.dev.memGroup i := hget _
  obtain ⟨hctrl, hsq, hdelay, hpacket, hbad⟩ := Dev.controlPacket_shows (d := x) i.isLt ((Dev.on_congr hwords _).trans hen)
    ((Dev.on_congr hwords _).trans hsink) (hgroup ▸ (hget _).trans hmode) c
  refine ⟨_, exec_controlPacket hruns hen hsink hmode hc, ?_⟩
  rw [hcrc, ← hx, Dev.when_eq rfl]
  refine ⟨hctrl, hsq, ?_, hpacket.trans (congrArg MemberSt.packet hself), ⟨rfl, rfl⟩, fun hne => ?_⟩
  · refine hdelay.trans ?_
    rw [hgroup]
    exact (Dev.SameMembers.of_words hwords).delayOf hmfi (s.dev.memGroup_lt i) i
  · obtain ⟨hbad, hok⟩ := hbad (by rw [hget]; exact hne)
    exact ⟨hbad.trans (by rw [hself]), hok⟩

/-- A control packet whose CRC fails is ignored. -/
theorem controlPacket_ignored {i : MemberId} {c : ControlPacket} (hruns : s.dev.flwRuns = true) (hen : s.dev.on (F.memEn.at 8 i) = true)
    (hsink : s.dev.memSink i = true) (hmode : s.dev.grpMode (s.dev.memGroup i) = modeVcat) (hc : (s.dev.member i).packet = some c)
    (hcrc : c.crcOk = false) :
    ∃ t, exec (.controlPacket i c) s = .next t ∧ t.dev.member i = { s.dev.member i with packet := none }
      ∧ (∀ j, j ≠ i.val → t.dev.member j = s.dev.member j) ∧ t = { s with dev := { s.dev with members := t.dev.members } } := by
  refine ⟨_, exec_controlPacket hruns hen hsink hmode hc, ?_⟩
  rw [hcrc]
  refine ⟨?_, fun j hj => ?_, rfl⟩
  · show (s.dev.setMember i _).member i = _
    rw [Dev.member_setMember, if_pos rfl]
  · show (s.dev.setMember i _).member j = _
    rw [Dev.member_setMember, if_neg hj]

/-- The status bit of a cause. -/
theorem sinkMemberFail_shows {i : MemberId} (hen : s.dev.on (F.memEn.at 8 i) = true) (hsink : s.dev.memSink i = true) (cause : SinkCause) :
    ∃ t, exec (.sinkMemberFail i cause (s.dev.sinkCause i cause)) s = .next t
      ∧ t.dev.on ((match cause with | .pointer => F.memStFailPtr | .signal => F.memStFailSig).at 8 i) = s.dev.sinkCause i cause
      ∧ (∀ j, t.dev.member j = s.dev.member j) ∧ KeepsMemories s t := by
  have hdue : (s.dev.on (F.memEn.at 8 i.val) && s.dev.memSink i.val && s.dev.sinkCause i.val cause == s.dev.sinkCause i cause) = true := by
    rw [hen, hsink, beq_self_eq_true]
    rfl
  cases cause with
  | pointer =>
    obtain ⟨hon, hmember⟩ := s.dev.sinkBit_shows i (lo := 16) (by decide) i.isLt (s.dev.sinkCause i .pointer) (s.dev.memGroup_lt i)
    refine ⟨_, rfl, ?_⟩
    rw [Dev.when_eq hdue]
    exact ⟨hon, hmember, rfl, rfl⟩
  | signal =>
    obtain ⟨hon, hmember⟩ := s.dev.sinkBit_shows i (lo := 17) (by decide) i.isLt (s.dev.sinkCause i .signal) (s.dev.memGroup_lt i)
    refine ⟨_, rfl, ?_⟩
    rw [Dev.when_eq hdue]
    exact ⟨hon, hmember, rfl, rfl⟩

theorem sqmDeclare_shows {i : MemberId} (hen : s.dev.on (F.memEn.at 8 i) = true) (hsink : s.dev.memSink i = true)
    (hmode : s.dev.grpMode (s.dev.memGroup i) = modeVcat) (hlcas : s.dev.grpLcas (s.dev.memGroup i) = false)
    (hthree : 3 ≤ (s.dev.member i).sqBad ∨ 3 ≤ (s.dev.member i).sqOk) :
    ∃ t, exec (.sqmDeclare i) s = .next t ∧ t.dev.on (F.memStSqm.at 8 i) = decide (3 ≤ (s.dev.member i).sqBad)
      ∧ (∀ j, t.dev.member j = s.dev.member j) ∧ KeepsMemories s t := by
  have hdue : (s.dev.on (F.memEn.at 8 i.val) && s.dev.memSink i.val && s.dev.grpMode (s.dev.memGroup i.val) == modeVcat
      && !s.dev.grpLcas (s.dev.memGroup i.val) && (decide (3 ≤ (s.dev.member i.val).sqBad) || decide (3 ≤ (s.dev.member i.val).sqOk))) = true := by
    rw [hen, hsink, hmode, hlcas]
    simpa using hthree
  obtain ⟨hon, hmember⟩ := s.dev.sinkBit_shows i (lo := 19) (by decide) i.isLt (decide (3 ≤ (s.dev.member i).sqBad)) (s.dev.memGroup_lt i)
  refine ⟨_, rfl, ?_⟩
  rw [Dev.when_eq hdue]
  exact ⟨hon, hmember, rfl, rfl⟩

theorem loaDeclare_shows {g : GroupId} (hmode : s.dev.grpMode g = modeVcat) (hlcas : s.dev.grpLcas g = false) :
    ∃ t, exec (.loaDeclare g) s = .next t
      ∧ t.dev.on (F.grpStLoa.at 64 g) = decide (s.dev.ddMax g < s.dev.spread (s.dev.side g true)) ∧ KeepsMemories s t := by
  have hdue : (s.dev.grpMode g.val == modeVcat && !s.dev.grpLcas g.val) = true := by
    rw [hmode, hlcas]
    rfl
  refine ⟨_, rfl, ?_⟩
  rw [Dev.when_eq hdue]
  have hg : g.val < 16384 := g.isLt
  exact ⟨((Dev.Reads.refl (F.grpStLoa.at 64 g) _).streamCheckLoa hg).on.trans
    (Dev.on_groupBit g.val (f := F.grpStLoa) (by decide) (show 0x1a28_0000 + 64 * g.val < _ by omega) _), rfl, rfl⟩

/-- The boundary of an LCAS group. -/
theorem multiframeBoundary_sets {g : GroupId} {i : Nat} (hruns : s.dev.flwRuns = true) (hbound : (s.dev.group g).bound = true)
    (hlcas : s.dev.grpLcas g = true) (hrole : s.dev.get F.mateStatRole < 2) (hi : i ∈ s.dev.side g false) :
    ∃ t, exec (.multiframeBoundary g) s = .next t ∧ KeepsMemories s t ∧ t.dev.group g = { s.dev.group g with bound := false }
      ∧ (t.dev.member i).pays = (s.dev.member i).pays
      ∧ (t.dev.memState i = s.dev.sourceNext i ∨ s.dev.sourceNext i = stNorm ∧ t.dev.memState i = stEos) := by
  have hdue : (s.dev.flwRuns && (s.dev.group g.val).bound) = true := by rw [hruns, hbound]; rfl
  have hlead : (s.dev.grpLcas g.val && decide (s.dev.get F.mateStatRole < 2)) = true := by rw [hlcas, decide_eq_true hrole]; rfl
  obtain ⟨x, hx⟩ : ∃ x, x = s.dev.setGroup g.val { s.dev.group g.val with bound := false } := ⟨_, rfl⟩
  have hwords : x.words = s.dev.words := hx ▸ rfl
  have hmember (j : Nat) : x.member j = s.dev.member j := hx ▸ rfl
  have hgroup : x.group g = { s.dev.group g with bound := false } := hx ▸ Store.get_set_same _ _ _ _
  have hnext : x.sourceNext i = s.dev.sourceNext i := by
    have hstate : x.memState i = s.dev.memState i := Dev.get_of_words hwords _
    rw [Dev.sourceNext, hmember, hstate, Dev.on_congr hwords, Dev.sourceNext]
  have hside : i ∈ x.side g false := by rw [(Dev.SameMembers.of_words hwords).side]; exact hi
  refine ⟨_, rfl, ?_⟩
  rw [Dev.when_eq hdue, Dev.when_eq hlead, ← hx]
  refine ⟨⟨rfl, rfl⟩, (Dev.group_congr (x.only_sourceBoundary g).groups g).trans hgroup, (x.sourceBoundary_pays g i).trans (by rw [hmember]), ?_⟩
  have hstate := x.sourceBoundary_state hside
  split at hstate
  case isTrue h => exact .inr ⟨hnext ▸ Dev.eosOf_norm x h, hstate⟩
  case isFalse => exact .inl (hstate.trans hnext)

theorem multiframeBoundary_idle {g : GroupId} (h : s.dev.flwRuns = false ∨ (s.dev.group g).bound = false) :
    exec (.multiframeBoundary g) s = .next s := by
  have hidle : (s.dev.flwRuns && (s.dev.group g.val).bound) = false := Bool.and_eq_false_iff.mpr h
  show (.next { s with dev := s.dev.when _ _ } : Out) = _
  rw [hidle]
  rfl

end

/-- Settles O35, by what each command shows of a member, and by the fold of a boundary over the source members. -/
theorem vcatAndLcas : Obligations.VcatAndLcas := by
  unfold Obligations.VcatAndLcas
  refine ⟨fun i s hruns hen hsink => ⟨fun c hmode hc => ⟨controlPacket_taken hruns hen hsink hmode hc, controlPacket_ignored hruns hen hsink hmode hc⟩,
    sinkMemberFail_shows hen hsink, sqmDeclare_shows hen hsink, fun g => loaDeclare_shows⟩, fun g s => multiframeBoundary_idle, ?_, ?_⟩
  · intro g i s hruns hbound hlcas hrole hi st act mst
    obtain ⟨t, ht, hkeep, hgroup, hpays, hstate⟩ := multiframeBoundary_sets hruns hbound hlcas hrole hi
    have hnext : s.dev.sourceNext i = if st = stIdle then (if act then stAdd else stIdle)
        else if st = stAdd then (if !act then stIdle else if mst = some true then stNorm else stAdd)
        else if st = stNorm ∨ st = stEos then (if !act then stRemove else if mst = some false then stDnu else stNorm)
        else if st = stDnu then (if !act then stRemove else if mst = some true then stNorm else stDnu)
        else stIdle := rfl
    have hother {v : Nat} (hv : s.dev.sourceNext i = v) (hne : v ≠ stNorm) : t.dev.memState i = v := by
      rcases hstate with h | ⟨h, -⟩
      · exact h.trans hv
      · exact absurd (hv.symm.trans h) hne
    have hnorm (hv : s.dev.sourceNext i = stNorm) : t.dev.memState i = stNorm ∨ t.dev.memState i = stEos := by
      rcases hstate with h | ⟨-, h⟩
      · exact .inl (h.trans hv)
      · exact .inr h
    refine ⟨t, ht, hkeep, hgroup, hpays, fun h1 h2 => hother ?_ ?_, fun h1 h2 => hother ?_ ?_, fun h1 h2 h3 => hnorm ?_, fun h1 h2 h3 => hother ?_ ?_,
      fun h1 h2 h3 => hother ?_ ?_, fun h1 h2 h3 => hnorm ?_, fun h1 h2 => hother ?_ ?_, fun h1 => hother ?_ ?_⟩
    case refine_2 | refine_4 | refine_7 | refine_9 | refine_12 | refine_14 => decide
    · rw [hnext, if_pos h1, h2]; rfl
    · rw [hnext, if_pos h1, h2]; rfl
    · rw [hnext, h1, h2, h3]; rfl
    · rw [hnext, h1, h2]; exact if_neg h3
    · rw [hnext, h2, h3]; rcases h1 with h | h <;> rw [h] <;> rfl
    · rw [hnext, h1, h2, h3]; rfl
    · rw [hnext, h2]; rcases h1 with h | h | h <;> rw [h] <;> rfl
    · rw [hnext, h1]; rfl
  · intro g i d hlcas hi m e
    obtain ⟨hmfi, hbound, hpays⟩ := d.sourceFrameStart_spec hlcas hi
    refine ⟨hmfi, fun h => ⟨hbound.trans (decide_eq_true h), hpays.trans (if_pos h)⟩, fun h => ⟨hbound.trans (decide_eq_false h), hpays.trans (if_neg h)⟩⟩

end Sys2Proof.Machine

/-! The frame of a Tustra lane: what a block in the alignment of the ACTIVE does, SEQ and the remote defect (R121 to R123, R250, R252). -/

namespace Sys2Proof.Machine

set_option Elab.async false -- a proof at a time, within the memory of a check

/-! The registers that what follows of a defect leaves -/

/-- The registers of the lanes' pages that what follows of a defect may write. -/
def followRegs : List Nat := [Reg.laneSohStat, Reg.laneTuStrstat, Reg.laneTuPktbad]

namespace Dev.RegKept

theorem rewindBeside {o : Nat} {d e : Dev} (ho : o < 0x1_0000 ∧ o ≠ Reg.laneTuPktbad) (h : d.RegKept o e) (n : Nat) : d.RegKept o (e.rewind n) := by
  unfold Dev.rewind
  split
  · have htu := h.of_only (e.only_setTu n { e.tu n with pkt := none })
    have hroll := htu.put (f := F.laneTuPktbadCount) ⟨ho.1, (by decide : Reg.laneTuPktbad < 0x1_0000), ho.2⟩ n
    exact ((hroll _).of_words (Dev.count_words ..)).psqNote
  · exact h

variable {o : Nat} {d e : Dev} (ho : o < 0x1_0000 ∧ o ∉ followRegs)
include ho

theorem beside {r : Nat} (hr : r ∈ followRegs) (hlt : r < 0x1_0000) : o < 0x1_0000 ∧ r < 0x1_0000 ∧ o ≠ r :=
  ⟨ho.1, hlt, fun hor => ho.2 (hor ▸ hr)⟩

theorem rewindOf (h : d.RegKept o e) (n : Nat) : d.RegKept o (e.rewind n) :=
  rewindBeside ⟨ho.1, fun hor => ho.2 (hor ▸ (by decide))⟩ h n

theorem strUpdateOf (h : d.RegKept o e) (p : Nat) : d.RegKept o (e.strUpdate p) := by
  unfold Dev.strUpdate
  extract_lets q a b st t d1
  have h1 : d.RegKept o d1 := h.put (f := F.laneTuStrstatState) (beside ho (r := Reg.laneTuStrstat) (by decide) (by decide)) p _
  split
  · exact Dev.when_keeps (h1.of_only (Dev.only_setTu _ p _)) fun _ hx => (rewindOf ho hx p).of_only (Dev.only_aisFrom _ p)
  · split
    · exact h1
    · exact h1.of_only (Dev.only_setTu _ p _)

theorem laneUpdateOf (h : d.RegKept o e) (n : Nat) : d.RegKept o (e.laneUpdate n) := by
  unfold Dev.laneUpdate
  split
  · exact Dev.when_keeps h fun _ hx =>
      (hx.put (f := F.laneSohStatAisDs) (beside ho (r := Reg.laneSohStat) (by decide) (by decide)) n 1).of_only (Dev.only_aisFrom _ n)
  · split
    · exact h
    · split
      · exact strUpdateOf ho h _
      · exact Dev.when_keeps h fun _ hx => (rewindOf ho hx n).of_only (Dev.only_aisFrom _ n)

end Dev.RegKept

/-! SEQ and the remote defect -/

section
variable (d : Dev) (n : Nat)

/-- A defect of a Tustra lane with its fields of `TU_STAT` and `TU_EVT`. -/
structure TuFields (bit : Nat) (stat evt : Field) : Prop where
  bit_lt : bit < 32
  stat_off : stat.off = Reg.laneTuStat
  evt_off : evt.off = Reg.laneTuEvt
  stat_lo : stat.lo < 32
  evt_lo : evt.lo + evt.len ≤ 32
  stat_len : stat.len = 1
  evt_len : 1 ≤ evt.len

theorem tuFields_seq : TuFields defSeq F.laneTuStatSeq F.laneTuEvtSeqChg := by constructor <;> decide

theorem tuFields_rd : TuFields defRd F.laneTuStatRd F.laneTuEvtRdChg := by constructor <;> decide

/-- What shows of a defect of a Tustra lane. -/
theorem Dev.setTuDefect_shows {bit : Nat} {stat evt : Field} {v : Bool} (hf : TuFields bit stat evt) (hold : d.defect n bit = !v) :
    (d.setTuDefect n bit stat evt v).defect n bit = v ∧ (d.setTuDefect n bit stat evt v).on (stat.lane n) = v
      ∧ (d.setTuDefect n bit stat evt v).on (evt.lane n) = true ∧ (d.setTuDefect n bit stat evt v).on ((defEvtField bit).lane n) = true
      ∧ d.StatusBut n (defectFields bit) (d.setTuDefect n bit stat evt v) := by
  obtain ⟨hbit, hsoff, heoff, hslo, helo, hslen, helen⟩ := hf
  have hbeside {f : Field} (hoff : f.off = Reg.laneTuStat ∨ f.off = Reg.laneTuEvt) : f.off < 0x1_0000 ∧ f.off ∉ laneStatusRegs := by
    rcases hoff with h | h <;> rw [h] <;> decide
  obtain ⟨x, hx⟩ : ∃ x, x = d.put (stat.lane n) (bitOf v) := ⟨_, rfl⟩
  obtain ⟨y, hy⟩ : ∃ y, y = x.setDefect n bit v := ⟨_, rfl⟩
  obtain ⟨z, hz⟩ : ∃ z, z = y.raise (evt.lane n) := ⟨_, rfl⟩
  have hall : d.setTuDefect n bit stat evt v = z.laneUpdate n := by rw [hz, hy, hx]; rfl
  have hdx (l : List Field) : d.StatusBut n l x := hx ▸ (Dev.StatusBut.refl n l d).putLane (hbeside (.inl hsoff)) n _
  have hfollow {x : Dev} {l : List Field} (h : x.StatusBut n l y) : x.StatusBut n l (z.laneUpdate n) := by
    rw [hz]
    exact (h.putLane (hbeside (.inr heoff)) n 1).laneUpdate n
  have hyz (l : List Field) : y.StatusBut n l (z.laneUpdate n) := hfollow (.refl n l y)
  have holdx : x.defect n bit ≠ v := by
    have hkept : x.defect n bit = d.defect n bit := (hdx []).on (f := defStatField bit) (by decide : Reg.laneDefStat ∈ laneStatusRegs) (fun _ h => nomatch h)
    rw [hkept, hold]
    cases v <;> decide
  have hreg {f : Field} (hoff : f.off = Reg.laneTuStat ∨ f.off = Reg.laneTuEvt) : (z.laneUpdate n).on (f.lane n) = z.on (f.lane n) := by
    have hkept : z.RegKept f.off (z.laneUpdate n) :=
      Dev.RegKept.laneUpdateOf (by rcases hoff with h | h <;> rw [h] <;> decide) (.refl _ z) n
    rw [Dev.on, hkept.get rfl n, Dev.on]
  rw [hall]
  refine ⟨?_, ?_, ?_, ?_, ?_⟩
  · refine ((hyz []).on (f := defStatField bit) (by decide : Reg.laneDefStat ∈ laneStatusRegs) (fun _ h => nomatch h)).trans ?_
    exact hy ▸ Dev.defect_setDefect_same x n v hbit
  · rw [hreg (.inl hsoff), hz, Dev.raise, Dev.on,
      Dev.get_lane_put_apart _ _ _ (.inl (by rw [heoff, hsoff]; decide)), ← Dev.on, hy]
    refine (((Dev.WordsBut.refl (defectWords n) x).setDefect (fun _ h => h) bit v).on ?_).trans
      (hx ▸ d.on_put_bitOf (stat.lane n) v hslo hslen)
    rw [Field.lane_off, hsoff]
    simp [laneAddr, Reg.laneTuStat, Reg.laneDefStat, Reg.laneDefEvt]
  · rw [hreg (.inr heoff), hz]
    exact Dev.on_raise _ (evt.lane n) helo helen
  · refine ((hyz []).on (f := defEvtField bit) (by decide : Reg.laneDefEvt ∈ laneStatusRegs) (fun _ h => nomatch h)).trans ?_
    exact hy ▸ Dev.on_defEvt_setDefect holdx hbit
  · exact hfollow (hy ▸ (hdx _).setDefect (fun _ h => h) v)

end

theorem tuDefect_commands {n : Lane} {s : State} (htu : (s.dev.lane n).isLine = false) {c : Instr} {bit : Nat} {stat evt : Field} {v : Bool}
    (hc : (c = .seqDeclare n ∧ ((s.dev.tu n).far = true ∨ 3 ≤ (s.dev.tu n).seqBad) ∧ v = true ∧ bit = defSeq
            ∧ stat = F.laneTuStatSeq ∧ evt = F.laneTuEvtSeqChg)
          ∨ (c = .seqClear n ∧ 8 ≤ (s.dev.tu n).seqOk ∧ v = false ∧ bit = defSeq ∧ stat = F.laneTuStatSeq
            ∧ evt = F.laneTuEvtSeqChg)
          ∨ (c = .remoteDefectDeclare n ∧ 3 ≤ (s.dev.tu n).rd ∧ v = true ∧ bit = defRd ∧ stat = F.laneTuStatRd
            ∧ evt = F.laneTuEvtRdChg)
          ∨ (c = .remoteDefectClear n ∧ 3 ≤ (s.dev.tu n).noRd ∧ v = false ∧ bit = defRd ∧ stat = F.laneTuStatRd
            ∧ evt = F.laneTuEvtRdChg)) (hold : s.dev.defect n bit = !v) :
    TuFields bit stat evt ∧ exec c s = .next { s with dev := s.dev.setTuDefect n bit stat evt v } := by
  rcases hc with ⟨rfl, hdue, rfl, rfl, rfl, rfl⟩ | ⟨rfl, hdue, rfl, rfl, rfl, rfl⟩ | ⟨rfl, hdue, rfl, rfl, rfl, rfl⟩ | ⟨rfl, hdue, rfl, rfl, rfl, rfl⟩
  · refine ⟨tuFields_seq, ?_⟩
    show execSeqDeclare n s = _
    rw [execSeqDeclare, Dev.when_eq (by rw [hold, htu]; simpa using hdue)]
  · refine ⟨tuFields_seq, ?_⟩
    show execSeqClear n s = _
    rw [execSeqClear, Dev.when_eq (by rw [hold, htu]; simpa using hdue)]
  · refine ⟨tuFields_rd, ?_⟩
    show execRemoteDefectDeclare n s = _
    rw [execRemoteDefectDeclare, Dev.when_eq (by rw [hold, htu]; simpa using hdue)]
  · refine ⟨tuFields_rd, ?_⟩
    show execRemoteDefectClear n s = _
    rw [execRemoteDefectClear, Dev.when_eq (by rw [hold, htu]; simpa using hdue)]

/-! A block in the alignment of the ACTIVE -/

section
variable (d : Dev) (n : Nat)

/-- A frame's block leads to the index of the next one. -/
theorem Dev.frameBlock_next (b : Nat) (h : TuHdr) (payload : List Byte) :
    ((d.frameBlock n b h payload).tu n).next = if b + 1 < blocksPerFrame (d.lane n).rate then b + 1 else 0 := by
  have hlast : ∃ (x : Dev) (u : TuRx), d.frameBlock n b h payload = x.setTu n (if b + 1 < blocksPerFrame (d.lane n).rate then { u with next := b + 1 }
      else if u.tailAgain then { u with next := 0, tailAgain := false }
      else { u with next := 0, fsErr := false, fsErrFrames := if u.fsErr then Nat.min 3 (u.fsErrFrames + 1) else 0 }) := by
    rw [Dev.frameBlock]
    exact ⟨_, _, rfl⟩
  obtain ⟨x, u, hlast⟩ := hlast
  rw [hlast, Dev.tu_setTu]
  split
  · rfl
  · split <;> rfl

/-- A corrected header shows in the lane's count and in a transient alone. -/
theorem Dev.corrected_statusBut : d.StatusBut n [] (d.corrected n) := by
  have hroll := (Dev.StatusBut.refl n [] d).putLane (g := F.laneSvCorrCount) (by decide) n (d.get (F.laneSvCorrCount.lane n) + 1)
  have hplace : F.hdrFaultTransient.page (lanePage n) = F.hdrFaultTransient.lane n := by
    rw [Field.page, lanePage, Field.lane]
    simp only [Field.mk.injEq, and_self, and_true]
    omega
  rw [Dev.corrected, Dev.transient, hplace]
  exact (hroll.of_words (Dev.count_words ..)).putLane (g := F.hdrFaultTransient) (by decide) n _

theorem Dev.only_corrected : Dev.Only [.words, .acc] d (d.corrected n) :=
  (((d.only_put _ _).mono (by decide) : Dev.Only [.words, .acc] d _).step (Dev.only_count _ (by decide) _ _)).step (Dev.only_put _ _ _)

/-- What the ACTIVE's header leaves of the lane, and shows. -/
theorem Dev.activeHeader_shows (h : TuHdr) :
    ((d.activeHeader n h).lane n).sieve.errors = (if h.ok then 0 else (d.lane n).sieve.errors + 1) ∧ (d.activeHeader n h).tu n = d.tu n
      ∧ ((d.activeHeader n h).lane n).rate = (d.lane n).rate ∧ (h.ok = true → d.StatusBut n [] (d.activeHeader n h))
      ∧ (h.ok = false → d.inFrame n = false → (d.activeHeader n h).words = d.words) := by
  unfold Dev.activeHeader
  extract_lets l v
  cases h.ok with
  | true =>
    rw [if_pos rfl]
    obtain ⟨x, hx⟩ : ∃ x, x = d.setLane n { l with sieve := { v with errors := 0 } } := ⟨_, rfl⟩
    have hlane : x.lane n = { l with sieve := { v with errors := 0 } } := hx ▸ Dev.lane_setLane_same ..
    rw [← hx]
    have hend : (x.when h.corrected fun e => e.corrected n).lane n = x.lane n :=
      Dev.when_of (P := fun e : Dev => e.lane n = x.lane n) _ rfl (by rw [Dev.lane, (x.only_corrected n).lanes, ← Dev.lane])
    have hstat : d.StatusBut n [] x := hx ▸ (Dev.StatusBut.refl n [] d).setLane n _
    refine ⟨by rw [hend, hlane]; rfl, by rw [Dev.tu, hend, hlane]; rfl, by rw [hend, hlane]; rfl, fun _ => ?_, (nomatch ·)⟩
    exact Dev.when_of (P := fun e : Dev => d.StatusBut n [] e) _ hstat fun q f hf hq => (x.corrected_statusBut n q f hf hq).trans (hstat q f hf hq)
  | false =>
    rw [if_neg Bool.false_ne_true]
    obtain ⟨x, hx⟩ : ∃ x, x = d.setLane n { l with sieve := { v with errors := v.errors + 1 } } := ⟨_, rfl⟩
    have hlane : x.lane n = { l with sieve := { v with errors := v.errors + 1 } } := hx ▸ Dev.lane_setLane_same ..
    rw [← hx]
    have hend : (x.when (d.inFrame n) fun e => (e.roll (F.laneTuHcsfailCount.lane n) 1).count 0 n 0 1).lane n = x.lane n := by
      refine Dev.when_of (P := fun e : Dev => e.lane n = x.lane n) _ rfl ?_
      have honly : Dev.Only [.words, .acc] x ((x.roll (F.laneTuHcsfailCount.lane n) 1).count 0 n 0 1) :=
        ((x.only_put _ _).mono (by decide)).step (Dev.only_count _ (by decide) _ _)
      rw [Dev.lane, honly.lanes, ← Dev.lane]
    refine ⟨by rw [hend, hlane]; rfl, by rw [Dev.tu, hend, hlane]; rfl, by rw [hend, hlane]; rfl, (nomatch ·), fun _ hin => ?_⟩
    rw [hin]
    exact hx ▸ Dev.setLane_words ..

/-- A header on a lane in BLOCK. -/
theorem Dev.searchStart_shows {h : TuHdr} (payload : List Byte) :
    (h.ok = false → ∃ p, d.searchStart n h payload = d.setTu n { d.tu n with proposed := p })
      ∧ (h.ok = true → h.fs = true → (d.tu n).proposed = none → d.searchStart n h payload = d.setTu n { d.tu n with proposed := some 0 }) := by
  refine ⟨fun hok => ?_, fun hok hfs hnone => ?_⟩
  · rw [Dev.searchStart, hok, Bool.false_and, if_neg Bool.false_ne_true]
    exact ⟨_, rfl⟩
  · rw [Dev.searchStart, hok, hfs, Bool.and_self, if_pos rfl, hnone, if_neg (by simp)]

end

/-- A block in the alignment of the ACTIVE, whose header is `h`. -/
def Dev.activeBlock (d : Dev) (n : Nat) (h : TuHdr) (payload : List Byte) : Dev :=
  if d.inFrame n then (d.activeHeader n h).frameBlock n (d.tu n).next h payload
  else (d.activeHeader n h).when (d.svState n == svBlock) (fun e => e.searchStart n h payload)

theorem tustraBlock_active {n : Lane} {k : Fin 8} {bytes : List Byte} {s : State} (htu : (s.dev.lane n).isLine = false) (hlen : bytes.length = 270)
    (hhears : s.dev.hears n bytes = true) (hst : ((s.dev.lane n).sieve.slot k).st = .active)
    (htake : ((s.dev.lane n).sieve.slot k).takeover = false) :
    ∃ d : Dev, d.words = s.dev.words ∧ (d.lane n).sieve = (s.dev.lane n).sieve ∧ d.tu n = s.dev.tu n ∧ (d.lane n).rate = (s.dev.lane n).rate
      ∧ exec (.tustraBlock n k bytes) s = .next { s with dev := d.activeBlock n (tuHeader (s.dev.lane n).sieve.corr bytes) (bytes.drop 6) } := by
  have hleads : ((s.dev.lane n).sieve.slot k).leads = true := by rw [Slot.leads, hst]; rfl
  have hdue : (!(s.dev.lane n).isLine && decide (bytes.length = 270) && s.dev.hears n bytes) = true := by
    rw [htu, decide_eq_true hlen, hhears]
    rfl
  obtain ⟨d, hd⟩ : ∃ d, d = s.dev.esGives n bytes := ⟨_, rfl⟩
  have hwords : d.words = s.dev.words := hd ▸ Dev.setLane_words ..
  have hlane : (d.lane n).sieve = (s.dev.lane n).sieve ∧ d.tu n = s.dev.tu n ∧ (d.lane n).rate = (s.dev.lane n).rate := by
    rw [Dev.tu, hd, Dev.esGives, Dev.lane_setLane_same]
    exact ⟨rfl, rfl, rfl⟩
  obtain ⟨hsieve, htun, hrate⟩ := hlane
  refine ⟨d, hwords, hsieve, htun, hrate, ?_⟩
  show execTustraBlock n k bytes s = _
  rw [execTustraBlock, Dev.when_eq hdue, Dev.when_eq hleads, ← hd, Dev.tuBlock, hsieve, hleads, Bool.and_true, hst]
  simp only [htake, Bool.false_eq_true, if_false]
  rfl

/-- Settles O26, by what the ACTIVE's header and the search for a frame start leave, and by what shows of a defect. -/
theorem tustraFrame : Obligations.TustraFrame := by
  unfold Obligations.TustraFrame
  refine ⟨fun n k bytes s => ?_, fun n s htu c bit stat evt v hc hold => ?_⟩
  · intro v h blocks htu hlen hhears hst htake
    obtain ⟨d, hwords, hsieve, htun, hrate, hexec⟩ := tustraBlock_active htu hlen hhears hst htake
    have hinFrame : d.inFrame n = s.dev.inFrame n := by rw [Dev.inFrame, Dev.svState, Dev.get_congr hwords, Dev.defect, Dev.on_congr hwords]; rfl
    have hsv : d.svState n = s.dev.svState n := Dev.get_congr hwords _
    obtain ⟨herrors, htu1, hrate1, hstatus, hquiet⟩ := d.activeHeader_shows n h
    have hactive (hin : s.dev.inFrame n = false) (hblock : s.dev.svState n = svBlock) :
        d.activeBlock n h (bytes.drop 6) = (d.activeHeader n h).searchStart n h (bytes.drop 6) := by
      rw [Dev.activeBlock, hinFrame, hin, if_neg Bool.false_ne_true, Dev.when_eq (by rw [hsv, hblock]; rfl)]
    refine ⟨_, hexec, rfl, rfl, fun hin hblock hok => ?_, fun hin hblock hok hfs hnone => ?_, fun hin => ?_⟩
    · obtain ⟨p, hp⟩ := (((d.activeHeader n h).searchStart_shows n (h := h) (bytes.drop 6)).1 hok)
      rw [hactive hin hblock, hp]
      refine ⟨?_, (Dev.setLane_words ..).trans ((hquiet hok (hinFrame.trans hin)).trans hwords)⟩
      rw [Dev.setTu, Dev.lane_setLane_same]
      exact herrors.trans (by rw [hok, hsieve]; rfl)
    · have hp := ((d.activeHeader n h).searchStart_shows n (h := h) (bytes.drop 6)).2 hok hfs (by rw [htu1, htun, hnone])
      rw [hactive hin hblock, hp]
      refine ⟨?_, by rw [Dev.tu_setTu], ?_⟩
      · rw [Dev.setTu, Dev.lane_setLane_same]
        exact herrors.trans (by rw [hok]; rfl)
      · refine (Dev.get_congr (Dev.setLane_words ..) _).trans (((hstatus hok) n F.laneSvStatState (by decide) (.inr (nofun))).trans ?_)
        exact hsv.trans hblock
    · rw [Dev.activeBlock, hinFrame, hin, if_pos rfl, htun]
      refine (Dev.frameBlock_next _ n _ _ _).trans ?_
      rw [hrate1, hrate]
  · obtain ⟨hfields, hexec⟩ := tuDefect_commands htu hc hold
    obtain ⟨hdefect, hstat, hevt, hdefEvt, hbut⟩ := s.dev.setTuDefect_shows n hfields hold
    exact ⟨_, hexec, hdefect, hstat, hevt, hdefEvt, hbut.others, rfl, rfl⟩

end Sys2Proof.Machine

/-! The merge pairs: the write of `TU_STR`, the skew of a copy and the release of a block (R277 to R280). -/

namespace Sys2Proof.Machine

set_option Elab.async false -- a proof at a time, within the memory of a check

/-! What a disabled pair shows -/

section
variable {d e : Dev} {p : Nat}

/-- The state of a pair that is disabled stays through the changes of other lanes. -/
def Dev.PairOff (p : Nat) (d e : Dev) : Prop :=
  e.on (F.laneTuStrEn.lane p) = false ∧ e.word (laneAddr p Reg.laneTuStrstat) = d.word (laneAddr p Reg.laneTuStrstat)

theorem Dev.PairOff.of_kept (h : Dev.PairOff p d e) {x : Dev} (hx : ∀ o, o = Reg.laneTuStr ∨ o = Reg.laneTuStrstat → e.RegKept o x) : Dev.PairOff p d x :=
  ⟨(congrArg (· != 0) ((hx Reg.laneTuStr (.inl rfl)).get (f := F.laneTuStrEn) rfl p)).trans h.1, (hx Reg.laneTuStrstat (.inr rfl) p).trans h.2⟩

theorem Dev.PairOff.rewind (h : Dev.PairOff p d e) (n : Nat) : Dev.PairOff p d (e.rewind n) :=
  h.of_kept fun _ ho => .rewindBeside (by rcases ho with rfl | rfl <;> decide) (.refl _ e) n

theorem Dev.PairOff.of_words (h : Dev.PairOff p d e) {x : Dev} (hx : x.words = e.words) : Dev.PairOff p d x :=
  h.of_kept fun o _ => (Dev.RegKept.refl o e).of_words hx

/-- A register of a lane's page that is none of the pair's is written. -/
theorem Dev.PairOff.put (h : Dev.PairOff p d e) {f : Field} (hf : f.off < 0x1_0000 ∧ f.off ≠ Reg.laneTuStr ∧ f.off ≠ Reg.laneTuStrstat) (n v : Nat) :
    Dev.PairOff p d (e.put (f.lane n) v) :=
  h.of_kept fun o ho => (Dev.RegKept.refl o e).put (by rcases ho with rfl | rfl <;> exact ⟨by decide, hf.1, fun h => by simp_all⟩) n v

/-- The state of another pair. -/
theorem Dev.PairOff.strUpdate (h : Dev.PairOff p d e) {q : Nat} (hq : q ≠ p) : Dev.PairOff p d (e.strUpdate q) := by
  unfold Dev.strUpdate
  extract_lets x a b st t d1
  have h1 : Dev.PairOff p d d1 := by
    refine ⟨Eq.trans ?_ h.1, (e.word_setWord_other _ ?_).trans h.2⟩
    · exact congrArg (· != 0) (e.get_put_far _ (laneAddr_ne (q := p) (p := q) (show Reg.laneTuStr < 0x1_0000 by decide) (show Reg.laneTuStrstat < 0x1_0000 by decide)
        (.inr (by decide))))
    · exact laneAddr_ne (q := p) (p := q) (show Reg.laneTuStrstat < 0x1_0000 by decide) (show Reg.laneTuStrstat < 0x1_0000 by decide) (.inl (Ne.symm hq))
  split
  · exact Dev.when_keeps (h1.of_words (Dev.only_setTu _ q _).words) fun y hy => (hy.rewind q).of_words (Dev.only_aisFrom _ q).words
  · split
    · exact h1
    · exact h1.of_words (Dev.only_setTu _ q _).words

theorem Dev.pairOf_on {n q : Nat} (h : d.pairOf n = some q) : d.on (F.laneTuStrEn.lane q) = true := by
  unfold Dev.pairOf at h
  split at h
  case isTrue => exact nomatch h
  case isFalse =>
    split at h
    case isTrue hen => exact Option.some.inj h ▸ hen
    case isFalse => exact (Bool.and_eq_true_iff.mp (List.find?_some (p := fun p => d.on (F.laneTuStrEn.lane p) && d.get (F.laneTuStrPartner.lane p) == n) h)).1

theorem Dev.PairOff.laneUpdate (h : Dev.PairOff p d e) (n : Nat) : Dev.PairOff p d (e.laneUpdate n) := by
  unfold Dev.laneUpdate
  split
  · exact Dev.when_keeps h fun x hx => (hx.put (f := F.laneSohStatAisDs) (by decide) n 1).of_words (Dev.only_aisFrom _ n).words
  · split
    · exact h
    · split
      · next q hq =>
        refine h.strUpdate fun hqp => ?_
        have hon := e.pairOf_on hq
        rw [hqp, h.1] at hon
        exact nomatch hon
      · exact Dev.when_keeps h fun _ hx => (hx.rewind n).of_words (Dev.only_aisFrom _ n).words

end

/-! The write of `TU_STR` -/

section
variable (d : Dev) (p : Nat)

theorem Dev.copyReset_kept {o : Nat} (ho : o < 0x1_0000 ∧ o ≠ Reg.laneTuPktbad) (n : Nat) : d.RegKept o (d.copyReset n) :=
  (Dev.RegKept.rewindBeside ho (.refl o d) n).of_only (Dev.only_setTu _ n _)

/-- A pair that is reset while it is disabled is OFF. -/
theorem Dev.pairReset_off (hoff : d.on (F.laneTuStrEn.lane p) = false) :
    (d.pairReset p).get (F.laneTuStrstatState.lane p) = strOff ∧ (d.pairReset p).on (F.laneTuStrstatSkewP.lane p) = false
      ∧ (d.pairReset p).on (F.laneTuStrstatSkewS.lane p) = false ∧ d.RegKept Reg.laneTuStr (d.pairReset p) := by
  obtain ⟨q, hq⟩ : ∃ q, q = d.get (F.laneTuStrPartner.lane p) := ⟨_, rfl⟩
  obtain ⟨x, hx⟩ : ∃ x, x = ((d.copyReset p).copyReset q).put (F.laneTuStrstatState.lane p) strOff := ⟨_, rfl⟩
  obtain ⟨y, hy⟩ : ∃ y, y = (x.lower (F.laneTuStrstatSkewP.lane p)).lower (F.laneTuStrstatSkewS.lane p) := ⟨_, rfl⟩
  have hall : d.pairReset p = (y.laneUpdate p).laneUpdate q := by
    rw [Dev.pairReset, hoff]
    simp only [Bool.false_eq_true, if_false, ← hq, ← hx, ← hy]
    rfl
  have hstate : x.get (F.laneTuStrstatState.lane p) = strOff := by
    rw [hx]
    exact Dev.get_lane_put_same _ p _ (by decide)
  have hkept : d.RegKept Reg.laneTuStr y := by
    rw [hy, hx]
    have hreset : d.RegKept Reg.laneTuStr ((d.copyReset p).copyReset q) := fun i =>
      ((d.copyReset p).copyReset_kept (by decide) q i).trans (d.copyReset_kept (by decide) p i)
    exact ((hreset.put (f := F.laneTuStrstatState) (by decide) p _).put (f := F.laneTuStrstatSkewP) (by decide) p 0).put
      (f := F.laneTuStrstatSkewS) (by decide) p 0
  have hyoff : y.on (F.laneTuStrEn.lane p) = false := (congrArg (· != 0) (hkept.get (f := F.laneTuStrEn) rfl p)).trans hoff
  have hlast : Dev.PairOff p y (d.pairReset p) := hall ▸ (Dev.PairOff.laneUpdate ⟨hyoff, rfl⟩ p).laneUpdate q
  have hget {f : Field} (hf : f.off = Reg.laneTuStrstat) : (d.pairReset p).get (f.lane p) = y.get (f.lane p) := by
    rw [Dev.get, Field.lane_off, hf, hlast.2, Dev.get, Field.lane_off, hf]
  refine ⟨?_, ?_, ?_, ?_⟩
  · rw [hget rfl, hy, Dev.lower, Dev.get_lane_put_apart _ _ _ (by decide), Dev.lower, Dev.get_lane_put_apart _ _ _ (by decide)]
    exact hstate
  · rw [Dev.on, hget rfl, hy, Dev.lower, Dev.get_lane_put_apart _ _ _ (by decide)]
    exact x.on_lower (f := F.laneTuStrstatSkewP.lane p) (show 3 + 1 ≤ 32 by decide)
  · rw [Dev.on, hget rfl, hy]
    exact Dev.on_lower _ (f := F.laneTuStrstatSkewS.lane p) (show 4 + 1 ≤ 32 by decide)
  · rw [hall]
    exact .laneUpdateOf (by decide) (.laneUpdateOf (by decide) hkept p) q

end

theorem regDefOf_tuStr : ∀ n : PortLane, regDefOf (laneAddr n Reg.laneTuStr) = some ⟨0x4050, 1, 4, 0xfff, 0, 0x200, [.clamp 8 4 1 8]⟩ := by
  decide +kernel

/-- What a write leaves in EN. -/
theorem Dev.get_regWrite_en (d : Dev) (n : PortLane) (data : W32) :
    (d.regWrite (laneAddr n Reg.laneTuStr) data).get (F.laneTuStrEn.lane n) = getF data 0 1 := by
  have hmask (old : W32) : ((old &&& ~~~BitVec.ofNat 32 0xfff) ||| (data &&& BitVec.ofNat 32 0xfff)) &&& ~~~(data &&& BitVec.ofNat 32 0)
      = (old &&& 0xfffff000#32) ||| (data &&& 0xfff#32) := by
    simp only [BitVec.and_zero, BitVec.not_zero, BitVec.and_allOnes]
    rfl
  rw [Dev.regWrite_of_def (regDefOf_tuStr n)]
  refine (d.get_setWord_same ⟨laneAddr n Reg.laneTuStr, 0, 1⟩ _).trans ?_
  rw [RegDef.written]
  simp only [hmask, List.foldl_cons, List.foldl_nil, applyRule]
  rw [getF_putF_other _ 8 4 _ 0 1 (by decide) (by decide) (.inl (by decide))]
  exact getF_mask_or _ _ _ _ rfl rfl

/-- A pair that is disabled. -/
theorem Dev.strEn_lower (d : Dev) (n : Nat) : (d.lower (F.laneTuStrEn.lane n)).on (F.laneTuStrEn.lane n) = false :=
  d.on_lower _ (show 0 + 1 ≤ 32 by decide)

section
variable {m : Master} {n : PortLane} {data : W32} {s : State} (hw : s.mayWrite m.val (laneAddr n Reg.laneTuStr))
include hw

/-- A partner that is not allowed. -/
theorem tuStrWrite_refused (hen : getF data 0 1 = 1) (hbad : s.dev.partnerOk n (getF data 1 7) = false) :
    ∃ t, exec (.tuStrWrite m n data) s = .next t ∧ (t.dev.replyTo m.val).resp = .slverr
      ∧ t.dev.on (F.laneTuStrEn.lane n) = false ∧ KeepsMemories s t
      ∧ (s.dev.on (F.laneTuStrEn.lane n) = false → AnsweredWords m.val .slverr [] s t)
      ∧ (s.dev.on (F.laneTuStrEn.lane n) = true → t.dev.get (F.laneTuStrstatState.lane n) = strOff
          ∧ t.dev.get (F.laneTuStrPartner.lane n) = s.dev.get (F.laneTuStrPartner.lane n)) := by
  have hop : s.dev.writeTuStr n data = (s.dev.when (s.dev.on (F.laneTuStrEn.lane n)) (fun e => (e.lower (F.laneTuStrEn.lane n)).pairReset n), .slverr) := by
    rw [Dev.writeTuStr]
    exact if_pos ⟨hen, by rw [hbad]; rfl⟩
  have hget (f : Field) : (s.dev.write m (laneAddr n Reg.laneTuStr) fun d => d.writeTuStr n data).get f
      = (s.dev.when (s.dev.on (F.laneTuStrEn.lane n)) (fun e => (e.lower (F.laneTuStrEn.lane n)).pairReset n)).get f := by
    rw [Dev.write_ok_get hw, hop]
  have hresp := (Dev.write_ok (op := fun d => d.writeTuStr n data) hw).2.1
  refine ⟨_, rfl, hresp.trans (congrArg Prod.snd hop), ?_, ⟨rfl, rfl⟩, fun hoff => ?_, fun hon => ?_⟩
  · show Dev.on _ _ = _
    rw [Dev.on, hget]
    cases hwas : s.dev.on (F.laneTuStrEn.lane n) with
    | false =>
      rw [Dev.when, if_neg Bool.false_ne_true]
      exact hwas
    | true =>
      obtain ⟨-, -, -, hkept⟩ := (s.dev.lower (F.laneTuStrEn.lane n)).pairReset_off n (Dev.strEn_lower _ _)
      rw [Dev.when_eq rfl, hkept.get (f := F.laneTuStrEn) rfl n]
      exact Dev.strEn_lower _ _
  · refine answeredWords_write hw (e := s.dev) ?_ (.refl _ _)
    rw [hop, hoff]
    rfl
  · obtain ⟨hstate, -, -, hkept⟩ := (s.dev.lower (F.laneTuStrEn.lane n)).pairReset_off n (Dev.strEn_lower _ _)
    refine ⟨(hget _).trans ?_, (hget _).trans ?_⟩
    · rw [Dev.when_eq hon]
      exact hstate
    · rw [Dev.when_eq hon]
      exact (hkept.get (f := F.laneTuStrPartner) rfl n).trans (Dev.get_lane_put_apart (f := F.laneTuStrEn) _ _ _ (by decide))

/-- The pair is disabled. -/
theorem tuStrWrite_disables (hen : getF data 0 1 = 0) :
    ∃ t, exec (.tuStrWrite m n data) s = .next t ∧ (t.dev.replyTo m.val).resp = .okay ∧ KeepsMemories s t
      ∧ t.dev.on (F.laneTuStrEn.lane n) = false
      ∧ (s.dev.on (F.laneTuStrEn.lane n) = false → AnsweredWords m.val .okay [laneAddr n Reg.laneTuStr] s t)
      ∧ (s.dev.on (F.laneTuStrEn.lane n) = true → t.dev.get (F.laneTuStrstatState.lane n) = strOff
          ∧ t.dev.on (F.laneTuStrstatSkewP.lane n) = false ∧ t.dev.on (F.laneTuStrstatSkewS.lane n) = false) := by
  obtain ⟨x, hx⟩ : ∃ x, x = s.dev.when (s.dev.on (F.laneTuStrEn.lane n)) (fun e => (e.lower (F.laneTuStrEn.lane n)).pairReset n) := ⟨_, rfl⟩
  have hop : s.dev.writeTuStr n data = okay (x.regWrite (laneAddr n Reg.laneTuStr) data) := by
    rw [Dev.writeTuStr, hx]
    rw [if_neg (fun h => absurd (hen.symm.trans h.1) (by decide)), hen]
    cases hwas : s.dev.on (F.laneTuStrEn.lane n) with
    | false => rfl
    | true =>
      simp only [Bool.true_and, Bool.not_true, Bool.false_and, Bool.false_eq_true, if_false, show ((0 : Nat) == 1) = false from rfl, Dev.when]
  have hget (f : Field) : (s.dev.write m.val (laneAddr n.val Reg.laneTuStr) fun d => d.writeTuStr n.val data).get f = (x.regWrite (laneAddr n Reg.laneTuStr) data).get f := by
    rw [Dev.write_ok_get hw, hop, okay]
  have hresp := (Dev.write_ok (op := fun d => d.writeTuStr n data) hw).2.1
  have hstat {f : Field} (hf : f.off = Reg.laneTuStrstat) : (x.regWrite (laneAddr n Reg.laneTuStr) data).get (f.lane n) = x.get (f.lane n) := by
    rw [Dev.regWrite_of_def (regDefOf_tuStr n), Dev.get, Dev.get, Field.lane_off, hf, Dev.word_setWord_other]
    exact laneAddr_ne (by decide) (by decide) (.inr (by decide))
  refine ⟨_, rfl, hresp.trans (congrArg Prod.snd hop), ⟨rfl, rfl⟩, ?_, fun hoff => ?_, fun hon => ?_⟩
  · have hzero := (hget (F.laneTuStrEn.lane n)).trans ((x.get_regWrite_en n data).trans hen)
    show Dev.on _ _ = _
    rw [Dev.on, hzero]
    rfl
  · refine answeredWords_write hw (e := s.dev.regWrite (laneAddr n Reg.laneTuStr) data) ?_ (s.dev.regWrite_wordsOnly _ _)
    rw [hop, hx, hoff]
    rfl
  · obtain ⟨hstate, hp, hs, -⟩ := (s.dev.lower (F.laneTuStrEn.lane n)).pairReset_off n (Dev.strEn_lower _ _)
    rw [Dev.when_eq hon] at hx
    refine ⟨?_, ?_, ?_⟩
    · exact (hget _).trans ((hstat (f := F.laneTuStrstatState) rfl).trans (hx ▸ hstate))
    · exact (congrArg (· != 0) ((hget _).trans (hstat (f := F.laneTuStrstatSkewP) rfl))).trans (hx ▸ hp)
    · exact (congrArg (· != 0) ((hget _).trans (hstat (f := F.laneTuStrstatSkewS) rfl))).trans (hx ▸ hs)

end

end Sys2Proof.Machine

/-! The skew of a copy and the release of a block in MERGE (R278 to R280), with the worked bytes of the spec (R239, R240, R244). -/

namespace Sys2Proof.Machine

set_option Elab.async false -- a proof at a time, within the memory of a check

/-! The skew of a copy -/

section
variable (d : Dev) (p : Nat)

/-- What the pair's state leaves of its register. -/
theorem Dev.get_strUpdate {f : Field} (hoff : f.off = Reg.laneTuStrstat) (hlo : 3 ≤ f.lo ∧ f.lo + f.len ≤ 32) :
    (d.strUpdate p).get (f.lane p) = d.get (f.lane p) := by
  unfold Dev.strUpdate
  extract_lets q a b st t d1
  have h1 : d1.get (f.lane p) = d.get (f.lane p) :=
    Dev.get_lane_put_apart (f := F.laneTuStrstatState) d p st (.inr ⟨by decide, hlo.2, .inr hlo.1⟩)
  split
  · refine Dev.when_of (P := fun e : Dev => e.get (f.lane p) = d.get (f.lane p)) _ ((Dev.get_congr (Dev.only_setTu _ p _).words _).trans h1) ?_
    rw [Dev.get_congr (Dev.only_aisFrom _ p).words]
    refine ((Dev.RegKept.rewindBeside (o := Reg.laneTuStrstat) (by decide) (.refl _ _) p).get hoff p).trans ?_
    exact (Dev.get_congr (Dev.only_setTu _ p _).words _).trans h1
  · split
    · exact h1
    · exact (Dev.get_congr (Dev.only_setTu _ p _).words _).trans h1

end

/-- The runs of frames of lane `n` decide on the skew bit `f` of pair `p`. -/
def Dev.copySkew (d : Dev) (p n : Nat) (f : Field) (skewed : Bool) : Dev :=
  if skewed then d.when ((d.tu n).lateRun == 8) (fun e => (e.raise f).strUpdate p)
  else d.when ((d.tu n).goodRun == 8) (fun e => (e.lower f).strUpdate p)

section
variable {n : PortLane} {s : State} (hon : s.dev.on (F.laneTuStrEn.lane n) = true) (hsys : s.dev.isSystem n = true) (second : Bool)
include hon hsys

theorem exec_copySkewed {q : Nat} {f : Field} (hq : q = if second then s.dev.get (F.laneTuStrPartner.lane n) else n)
    (hf : f = if second then F.laneTuStrstatSkewS else F.laneTuStrstatSkewP) (skewed : Bool) :
    exec (.copySkewed n second skewed) s = .next { s with dev := s.dev.copySkew n q (f.lane n) skewed } := by
  have hdue : (s.dev.on (F.laneTuStrEn.lane n.val) && s.dev.isSystem n.val) = true := by rw [hon, hsys]; rfl
  show execCopySkewed n second skewed s = _
  rw [execCopySkewed, Dev.when_eq hdue, hq, hf]
  rfl

/-- A copy becomes skewed, and recovers. -/
theorem copySkewed_shows :
    let copy := s.dev.tu (if second then s.dev.get (F.laneTuStrPartner.lane n) else n)
    let skew := (if second then F.laneTuStrstatSkewS else F.laneTuStrstatSkewP).lane n
    (copy.lateRun = 8 → ∃ t, exec (.copySkewed n second true) s = .next t ∧ t.dev.on skew = true ∧ KeepsMemories s t)
      ∧ (copy.goodRun = 8 → ∃ t, exec (.copySkewed n second false) s = .next t ∧ t.dev.on skew = false ∧ KeepsMemories s t)
      ∧ (copy.lateRun < 8 → exec (.copySkewed n second true) s = .next s)
      ∧ (copy.goodRun < 8 → exec (.copySkewed n second false) s = .next s) := by
  intro copy skew
  obtain ⟨f, hf⟩ : ∃ f, f = if second then F.laneTuStrstatSkewS else F.laneTuStrstatSkewP := ⟨_, rfl⟩
  have hfield : f.off = Reg.laneTuStrstat ∧ (3 ≤ f.lo ∧ f.lo + f.len ≤ 32) ∧ 1 ≤ f.len := by
    cases second <;> subst hf <;> decide
  obtain ⟨hoff, hplace, hlen⟩ := hfield
  have hskew : skew = f.lane n := by rw [hf]
  have hupdate (x : Dev) : (x.strUpdate n).on (f.lane n) = x.on (f.lane n) := by rw [Dev.on, x.get_strUpdate n hoff hplace, Dev.on]
  have hexec := exec_copySkewed hon hsys second rfl hf
  rw [hskew]
  refine ⟨fun hrun => ⟨_, hexec true, ?_, rfl, rfl⟩, fun hrun => ⟨_, hexec false, ?_, rfl, rfl⟩, fun hrun => (hexec true).trans ?_,
    fun hrun => (hexec false).trans ?_⟩
  · rw [Dev.copySkew, if_pos rfl, Dev.when_eq (beq_iff_eq.mpr hrun), hupdate]
    exact Dev.on_raise _ (f.lane n) hplace.2 hlen
  · rw [Dev.copySkew, if_neg Bool.false_ne_true, Dev.when_eq (beq_iff_eq.mpr hrun), hupdate]
    exact Dev.on_lower _ (f.lane n) hplace.2
  · rw [Dev.copySkew, if_pos rfl, Dev.when, if_neg fun h => absurd (eq_of_beq h) (Nat.ne_of_lt hrun)]
  · rw [Dev.copySkew, if_neg Bool.false_ne_true, Dev.when, if_neg fun h => absurd (eq_of_beq h) (Nat.ne_of_lt hrun)]

end

/-! The content of a released block beside the pair -/

section
variable {o n : Nat} {r : Option Release} {d e : Dev}

/-- The registers at `o` of the lanes' pages are those of `d`, and the release point of lane `n` is `r`. -/
structure Dev.ReleaseKept (o n : Nat) (r : Option Release) (d e : Dev) : Prop where
  reg : d.RegKept o e
  release : (e.tu n).release = r

namespace Dev.ReleaseKept

theorem of_only (h : ReleaseKept o n r d e) {S : List Part} {x : Dev} (hx : Dev.Only S e x) (hwords : .words ∉ S := by decide)
    (hlanes : .lanes ∉ S := by decide) : ReleaseKept o n r d x :=
  ⟨h.reg.of_words (hx.words hwords), by rw [Dev.tu, Dev.lane, hx.lanes hlanes, ← Dev.lane, ← Dev.tu]; exact h.release⟩

theorem of_reg (h : ReleaseKept o n r d e) {x : Dev} (hx : d.RegKept o x) (hlanes : x.lanes = e.lanes) : ReleaseKept o n r d x :=
  ⟨hx, by rw [Dev.tu, Dev.lane, hlanes, ← Dev.lane, ← Dev.tu]; exact h.release⟩

theorem setTu (h : ReleaseKept o n r d e) (p : Nat) {x : TuRx} (hx : x.release = (e.tu p).release) : ReleaseKept o n r d (e.setTu p x) := by
  refine ⟨h.reg.of_only (Dev.only_setTu _ p _), ?_⟩
  rw [Dev.tu, Dev.setTu, Dev.lane_setLane]
  split
  · next hp =>
    rw [← h.release, hp]
    exact hx
  · exact h.release

theorem psqNote (h : ReleaseKept o n r d e) : ReleaseKept o n r d e.psqNote := h.of_reg h.reg.psqNote (Dev.only_psqNote _).lanes

section
variable (ho : o < 0x1_0000 ∧ o ≠ Reg.laneTuPktbad)
include ho

theorem rewind (h : ReleaseKept o n r d e) (p : Nat) : ReleaseKept o n r d (e.rewind p) := by
  refine ⟨h.reg.rewindBeside ho p, ?_⟩
  unfold Dev.rewind
  split
  · have hset := (h.setTu p (x := { e.tu p with pkt := none }) rfl).release
    have honly : Dev.Only [.words, .acc] (e.setTu p { e.tu p with pkt := none })
        ((((e.setTu p { e.tu p with pkt := none }).roll (F.laneTuPktbadCount.lane p) 1).count 0 p 10 1).psqNote) :=
      (((Dev.only_roll _ _ _).mono (by decide) : Dev.Only [.words, .acc] _ _).step (Dev.only_count _ (by decide) _ _)).step (Dev.only_psqNote _)
    rw [Dev.tu, Dev.lane, honly.lanes, ← Dev.lane, ← Dev.tu]
    exact hset
  · exact h.release

theorem blockFailed (h : ReleaseKept o n r d e) (p b : Nat) : ReleaseKept o n r d (e.blockFailed p b) := by
  unfold Dev.blockFailed
  extract_lets t
  split
  · exact h.rewind ho p
  · exact Dev.when_of _ h (h.setTu p rfl)

theorem classDropped (h : ReleaseKept o n r d e) (p b : Nat) : ReleaseKept o n r d (e.classDropped p b) := by
  unfold Dev.classDropped
  extract_lets t mine
  refine Dev.when_of _ h (rewind ho ?_ p)
  exact h.setTu p rfl

theorem psqCommit (h : ReleaseKept o n r d e) (p : Nat) (k : Packet) : ReleaseKept o n r d (e.psqCommit p k) := by
  unfold Dev.psqCommit
  split
  · refine rewind ho ?_ p
    exact h.setTu p rfl
  · extract_lets t d1
    have h1 : ReleaseKept o n r d d1 := (h.setTu p (x := { e.tu p with pkt := none }) rfl).of_only (Dev.only_count _ (by decide) _ _)
    have hlanes : (d1.count 0 p 9 k.data.length).lanes = d1.lanes := by
      rw [Dev.count]
      split
      · rfl
      · show Dev.lanes (if _ then _ else _) = _
        split <;> rfl
    have h2 : ReleaseKept o n r d (d1.count 0 p 9 k.data.length) := h1.of_reg (h1.reg.of_words (Dev.count_words ..)) hlanes
    exact psqNote ⟨h2.reg, h2.release⟩

theorem packetEnd (h : ReleaseKept o n r d e) (p : Nat) (k : Packet) (data : List Byte) : ReleaseKept o n r d (e.packetEnd p k data) := by
  unfold Dev.packetEnd
  extract_lets room len crc full
  split
  · exact h.psqCommit ho p _
  · refine rewind ho ?_ p
    exact h.setTu p rfl

theorem packetBlock (horphan : o ≠ Reg.laneTuOrphan) (h : ReleaseKept o n r d e) (p b : Nat) (hdr : TuHdr) (load : List Byte) :
    ReleaseKept o n r d (e.packetBlock p b hdr load) := by
  unfold Dev.packetBlock
  extract_lets f flow data sop d1 cur
  have h1 : ReleaseKept o n r d d1 := Dev.when_of _ h (h.rewind ho p)
  clear_value cur
  split
  · have hroll : d.RegKept o (d1.roll (F.laneTuOrphanCount.lane p) 1) :=
      h1.reg.put (f := F.laneTuOrphanCount) ⟨ho.1, (by decide : Reg.laneTuOrphan < 0x1_0000), horphan⟩ p _
    exact h1.of_reg hroll (Dev.only_roll _ _ _).lanes
  · next k =>
    split
    · exact h1.rewind ho p
    · split
      · exact h1.packetEnd ho p k data
      · extract_lets q d2
        have h2 : ReleaseKept o n r d d2 := h1.setTu p rfl
        split
        · exact h2.rewind ho p
        · exact h2.psqNote

/-- What a released block carries changes neither the pair's counts nor its release point. -/
theorem tuContent (horphan : o ≠ Reg.laneTuOrphan) (h : ReleaseKept o n r d e) (p b : Nat) (hdr : TuHdr) (load : List Byte) :
    ReleaseKept o n r d (e.tuContent p b hdr load) := by
  unfold Dev.tuContent
  extract_lets a d1
  have h1 : ReleaseKept o n r d d1 := Dev.when_of _ h (h.of_reg (h.reg.ingressWrite p _) rfl)
  split
  · exact h1.blockFailed ho p b
  · exact Dev.when_keeps (Dev.when_keeps h1 fun _ hx => hx.classDropped ho p b) fun _ hx => hx.packetBlock ho horphan p b hdr load

end

end Dev.ReleaseKept

/-! The counts of a release -/

/-- The block of a release is counted. -/
def Dev.countReleased (d : Dev) (p : Nat) : Released → Dev
  | .own => d
  | .second => (d.roll (F.laneTuStrsecCount.lane p) 1).count 0 p 7 1
  | .bad => d.roll (F.laneTuStrbadCount.lane p) 1

theorem Dev.countReleased_second (d : Dev) (p : Nat) (x : Released) : (d.countReleased p x).get (F.laneTuStrsecCount.lane p)
    = (d.get (F.laneTuStrsecCount.lane p) + if x = .second then 1 else 0) % 2 ^ 32 := by
  have hlt : d.get (F.laneTuStrsecCount.lane p) < 2 ^ 32 := d.get_lt _
  cases x with
  | own => exact (Nat.mod_eq_of_lt hlt).symm
  | second =>
    rw [Dev.countReleased, Dev.get_congr (Dev.count_words ..)]
    exact Dev.get_roll_same d (show 0 + 32 ≤ 32 by decide) 1
  | bad => exact (Dev.get_lane_put_apart _ _ _ (by decide)).trans (Nat.mod_eq_of_lt hlt).symm

theorem Dev.countReleased_bad (d : Dev) (p : Nat) (x : Released) : (d.countReleased p x).get (F.laneTuStrbadCount.lane p)
    = (d.get (F.laneTuStrbadCount.lane p) + if x = .bad then 1 else 0) % 2 ^ 32 := by
  have hlt : d.get (F.laneTuStrbadCount.lane p) < 2 ^ 32 := d.get_lt _
  cases x with
  | own => exact (Nat.mod_eq_of_lt hlt).symm
  | second =>
    rw [Dev.countReleased, Dev.get_congr (Dev.count_words ..)]
    exact (Dev.get_lane_put_apart _ _ _ (by decide)).trans (Nat.mod_eq_of_lt hlt).symm
  | bad => exact Dev.get_roll_same d (show 0 + 32 ≤ 32 by decide) 1

theorem Dev.countLate_kept (ho : o < 0x1_0000 ∧ o ≠ Reg.laneTuStrlate) (h : d.RegKept o e) (p q : Nat) (begins missing : Bool) :
    d.RegKept o (e.countLate p q begins missing) := by
  unfold Dev.countLate
  extract_lets t counted
  exact Dev.when_keeps (h.of_only (Dev.only_setTu _ q _)) fun _ hx =>
    hx.put (f := F.laneTuStrlateCount) ⟨ho.1, (by decide : Reg.laneTuStrlate < 0x1_0000), ho.2⟩ p _

/-- In MERGE the block of the primary goes before that of the secondary. -/
theorem releaseChoice_merge (first : Bool) (a c : Option CopyBlk) :
    (releaseChoice strMerge first a c).2 = if a.any (fun y => y.hdr.ok) then .own else if c.any (fun y => y.hdr.ok) then .second else .bad := by
  rw [releaseChoice, if_pos rfl]
  split
  · rfl
  · split <;> rfl

/-- What the pair shows of a release in MERGE. -/
theorem Dev.releaseNext_merge (d : Dev) (p : Nat) (r : Release) (hst : d.get (F.laneTuStrstatState.lane p) = strMerge)
    (hmore : r.next + 1 < blocksPerFrame (d.lane p).rate) :
    ∃ (x : Dev) (hdr : TuHdr) (load : List Byte) (u : TuRx), d.RegKept Reg.laneTuStrsec x ∧ d.RegKept Reg.laneTuStrbad x
      ∧ u.release = some { r with next := r.next + 1 }
      ∧ d.releaseNext p r = ((x.countReleased p
          (if (d.copyPart p r (r.point + r.next * d.blockTicks p) false).any (fun y => y.hdr.ok) then .own
            else if (d.copyPart (d.get (F.laneTuStrPartner.lane p)) r (r.point + r.next * d.blockTicks p) false).any (fun y => y.hdr.ok) then .second
            else .bad)).setTu p u).tuContent p r.next hdr load := by
  unfold Dev.releaseNext
  extract_lets st q first used fresh r' at_ a c x late d1 d2 next hdr before u d3
  have hr : r' = r := by
    unfold r'
    rw [if_neg fun h => h.2 hst]
  have hother : (st != strMerge) = false := by
    rw [show st = strMerge from hst]
    rfl
  have hchoice : x.2 = if (d.copyPart p r (r.point + r.next * d.blockTicks p) false).any (fun y => y.hdr.ok) then .own
      else if (d.copyPart q r (r.point + r.next * d.blockTicks p) false).any (fun y => y.hdr.ok) then .second else .bad := by
    rw [← releaseChoice_merge first]
    unfold x a c at_
    rw [hother, hr, show st = strMerge from hst]
  have hlate {o : Nat} (ho : o < 0x1_0000 ∧ o ≠ Reg.laneTuStrlate) (n : Nat) (y : Option CopyBlk) (e : Dev) (he : d.RegKept o e) : d.RegKept o (late n y e) :=
    Dev.countLate_kept ho he p n _ _
  have hd2 : d2 = d1.countReleased p x.2 := by
    unfold d2
    cases x.2 <;> rfl
  have hnext : next = { r with next := r.next + 1 } := by
    unfold next
    rw [hr, if_pos hmore]
  have hzero : (next.next == 0) = false := by
    rw [hnext]
    rfl
  rw [← hchoice, hzero, Dev.when, if_neg Bool.false_ne_true]
  refine ⟨d1, hdr, ?load, { u with release := some next, mergedOther := if hdr.ok && hdr.type != 0 then r'.next :: before else before },
    hlate (by decide) q c _ (hlate (by decide) p a d (.refl _ d)), hlate (by decide) q c _ (hlate (by decide) p a d (.refl _ d)),
    congrArg some hnext, ?content⟩
  case content =>
    rw [← hd2, ← hr]

end

/-- A release in MERGE. -/
theorem strainerRelease_merge {n : PortLane} {s : State} (hon : s.dev.on (F.laneTuStrEn.lane n) = true) (hsys : s.dev.isSystem n = true)
    {r : Release} (hr : (s.dev.tu n).release = some r) (hst : s.dev.get (F.laneTuStrstatState.lane n) = strMerge)
    (hdue : r.point + r.next * s.dev.blockTicks n ≤ s.dev.now) (hmore : r.next + 1 < blocksPerFrame (s.dev.lane n).rate)
    {own second : Bool}
    (hown : (s.dev.copyPart n r (r.point + r.next * s.dev.blockTicks n) false).any (fun y => y.hdr.ok) = own)
    (hsecond : (s.dev.copyPart (s.dev.get (F.laneTuStrPartner.lane n)) r (r.point + r.next * s.dev.blockTicks n) false).any (fun y => y.hdr.ok) = second) :
    ∃ t, exec (.strainerRelease n r.seq r.point r.next) s = .next t ∧ KeepsMemories s t
      ∧ (t.dev.tu n).release = some { r with next := r.next + 1 }
      ∧ t.dev.get (F.laneTuStrsecCount.lane n) = (s.dev.get (F.laneTuStrsecCount.lane n) + (if !own && second then 1 else 0)) % 2 ^ 32
      ∧ t.dev.get (F.laneTuStrbadCount.lane n) = (s.dev.get (F.laneTuStrbadCount.lane n) + (if !own && !second then 1 else 0)) % 2 ^ 32 := by
  obtain ⟨x, hdr, load, u, hsec, hbad, hrelease, hnext⟩ := s.dev.releaseNext_merge n r hst hmore
  rw [hown, hsecond] at hnext
  have hgo : (r == { seq := r.seq, point := r.point, next := r.next } && s.dev.isSystem n.val && s.dev.on (F.laneTuStrEn.lane n.val)
      && decide (2 ≤ s.dev.get (F.laneTuStrstatState.lane n.val)) && decide (r.point + r.next * s.dev.blockTicks n.val ≤ s.dev.now)) = true := by
    rw [hsys, hon, hst, decide_eq_true hdue]
    simp [strMerge]
  have hexec : exec (.strainerRelease n r.seq r.point r.next) s = .next { s with dev := s.dev.releaseNext n r } := by
    show execStrainerRelease n r.seq r.point r.next s = _
    rw [execStrainerRelease, hr]
    simp only [Dev.when_eq hgo]
  obtain ⟨y, hy⟩ : ∃ y, y = (x.countReleased n (if own then .own else if second then .second else .bad)).setTu n u := ⟨_, rfl⟩
  have hrel : (y.tu n).release = some { r with next := r.next + 1 } := by rw [hy, Dev.tu_setTu]; exact hrelease
  have hkept {o : Nat} (ho : o < 0x1_0000 ∧ o ≠ Reg.laneTuPktbad) (horphan : o ≠ Reg.laneTuOrphan) :
      Dev.ReleaseKept o n (some { r with next := r.next + 1 }) y (s.dev.releaseNext n r) := by
    rw [hnext, ← hy]
    exact Dev.ReleaseKept.tuContent ho horphan ⟨.refl o y, hrel⟩ n r.next hdr load
  have hsec' := hkept (o := Reg.laneTuStrsec) (by decide) (by decide)
  have hbad' := hkept (o := Reg.laneTuStrbad) (by decide) (by decide)
  have hwords : y.words = (x.countReleased n (if own then .own else if second then .second else .bad)).words := hy ▸ (Dev.only_setTu _ _ _).words
  refine ⟨_, hexec, ⟨rfl, rfl⟩, hsec'.release, ?_, ?_⟩
  · refine (hsec'.reg.get (f := F.laneTuStrsecCount) rfl n).trans ((Dev.get_congr hwords _).trans ((x.countReleased_second n _).trans ?_))
    rw [hsec.get (f := F.laneTuStrsecCount) rfl n]
    cases own <;> cases second <;> rfl
  · refine (hbad'.reg.get (f := F.laneTuStrbadCount) rfl n).trans ((Dev.get_congr hwords _).trans ((x.countReleased_bad n _).trans ?_))
    rw [hbad.get (f := F.laneTuStrbadCount) rfl n]
    cases own <;> cases second <;> rfl

/-- A release before its time. -/
theorem strainerRelease_early {n : PortLane} {s : State} {r : Release} (hr : (s.dev.tu n).release = some r)
    (hdue : s.dev.now < r.point + r.next * s.dev.blockTicks n) : exec (.strainerRelease n r.seq r.point r.next) s = .next s := by
  have hgo : decide (r.point + r.next * s.dev.blockTicks n.val ≤ s.dev.now) = false := decide_eq_false (by omega)
  show execStrainerRelease n r.seq r.point r.next s = _
  rw [execStrainerRelease, hr]
  simp only [hgo, Bool.and_false, Dev.when, Bool.false_eq_true, if_false]

/-- Settles O28, by what a disabled pair shows, by the counts of a release, and by evaluation of the worked bytes. -/
theorem strainerAndWorkedBytes : Obligations.StrainerAndWorkedBytes := by
  unfold Obligations.StrainerAndWorkedBytes
  refine ⟨fun n s => ⟨fun m data hw => ⟨tuStrWrite_refused hw, tuStrWrite_disables hw⟩, fun hon hsys => ⟨fun second => copySkewed_shows hon hsys second, ?_⟩⟩,
    by decide +kernel⟩
  intro r hr partner due passed own second
  exact ⟨strainerRelease_early hr, fun hst hdue _ hmore => strainerRelease_merge hon hsys hr hst hdue hmore rfl rfl⟩

end Sys2Proof.Machine

/-! The path points: what a change of one leaves of the points' status and of the points themselves (R187, R226, R230). -/

namespace Sys2Proof.Machine

set_option Elab.async false -- a proof at a time, within the memory of a check

/-! The points' keys -/

theorem pointKey_lt (p : Point) : pointKey p < 534528 := by
  cases p with
  | ho i => exact Nat.lt_trans i.isLt (by decide)
  | lo i => exact Nat.add_lt_add_left i.isLt 18432

theorem hoOf_lt {k : Nat} (hk : k < 534528) : hoOf k < 6144 := by
  unfold hoOf
  split <;> omega

theorem headOf_le {ws : List W32} {g h : Nat} (hh : headOf ws g = some h) : h ≤ g := by
  unfold headOf at hh
  split at hh
  case isFalse => exact nomatch hh
  case isTrue =>
    obtain ⟨l, n, l', -, hn, -⟩ := List.findSome?_eq_some_iff.mp hh
    extract_lets x at hn
    split at hn
    · exact Option.some.inj hn ▸ Nat.div_mul_le_self g n
    · exact nomatch hn

section
variable (d : Dev)

theorem Dev.path_congr {d e : Dev} (h : e.paths = d.paths) (k : Nat) : e.path k = d.path k := by rw [Dev.path, h, Dev.path]

/-- The lower-order points of a position. -/
theorem Dev.lowerOf_range {h j : Nat} (hj : j ∈ d.lowerOf h) : 18432 + 84 * h ≤ j ∧ j < 18432 + 84 * h + 84 := by
  obtain ⟨hlo, hhi⟩ := Bool.and_eq_true_iff.mp (List.mem_filter.mp hj).2
  exact ⟨of_decide_eq_true hlo, of_decide_eq_true hhi⟩

theorem hoOf_lower {h j : Nat} (hj : 18432 + 84 * h ≤ j ∧ j < 18432 + 84 * h + 84) : hoOf j = h := by
  rw [hoOf, if_neg (by omega)]
  omega

theorem Dev.headPoint_lt {k g : Nat} (hk : k < 18432) (hg : headOf (d.structWords (laneOf k)) (augOf k) = some g) :
    3 * (64 * laneOf k + g) < 18432 := by
  have hle := headOf_le hg
  unfold augOf at hle
  unfold laneOf
  unfold hoOf at hle ⊢
  rw [if_pos hk] at hle ⊢
  omega

/-! What a change of a point's status changes -/

/-- The parts that follow a point's defects. -/
abbrev statusParts : List Part := [.words, .acc, .msp, .snc, .items, .inFill, .est, .estAcc]

theorem Dev.only_pathShow (k : Nat) : Dev.Only statusParts d (d.pathShow k) := by
  unfold Dev.pathShow
  extract_lets old p idle ok lab sl d1 d2 d3
  have h1 : Dev.Only statusParts d d1 := ((((((d.only_put _ _).step (Dev.only_put _ _ _)).step (Dev.only_put _ _ _)).step (Dev.only_put _ _ _)).step
    (Dev.only_put _ _ _)).step (Dev.only_put _ _ _)).mono (by decide)
  have h2 : Dev.Only statusParts d d2 := h1.trans (.whenStep _ fun x => (x.only_put _ _).mono (by decide))
  have h3 : Dev.Only statusParts d d3 := h2.trans (.whenStep _ fun x =>
    (((x.only_lower _).mono (by decide) : Dev.Only statusParts _ _).step (Dev.only_lower _ _)).step (Dev.only_estClear _ _) |>.step (Dev.only_estClear _ _))
  exact (h3.step (Dev.only_pathSummary _ k old)).step (Dev.only_markOnes _ k)

theorem Dev.only_pathUpdate (k : Nat) : Dev.Only statusParts d (d.pathUpdate k) := by
  unfold Dev.pathUpdate
  extract_lets d1 d2
  have h1 : Dev.Only statusParts d d1 := d.only_pathShow k
  have h2 : Dev.Only statusParts d d2 := by
    unfold d2
    split
    · split
      · exact h1.trans (Dev.only_pathShow _ _)
      · exact h1
    · exact h1
  split
  · exact h2.trans (.foldl _ fun e j _ => e.only_pathShow j)
  · exact h2

theorem Dev.path_pathUpdate (k j : Nat) : (d.pathUpdate k).path j = d.path j := Dev.path_congr (d.only_pathUpdate k).paths j

theorem bwObject_path (k : Nat) {c : Nat} : bwObject (if isHo k then 1 else 2) c = none := by
  split <;> simp [bwObject]

theorem Dev.only_countPath (k c n : Nat) : Dev.Only [.acc] d (d.countPath k c n) := d.only_count (bwObject_path k) _ _

end

/-! The fields that a change of a point's defects leaves -/

/-- A field of the points' status that shows none of their defects. -/
structure Field.IsStatKept (f : Field) : Prop where
  low : 0x1c00_0000 ≤ f.off
  high : f.off < 0x1_0000_0000
  width : f.lo + f.len ≤ 32
  bits : f.lo + f.len ≤ 13 ∨ f.off < 0x1c80_0000 ∧ (f.lo + f.len ≤ 23 ∨ 29 ≤ f.lo ∨ f.off % 16 = 4) ∨ 0x1c80_0000 ≤ f.off ∧ 20 ≤ f.lo

theorem statAddr_range {k : Nat} (hk : k < 534528) :
    k < 18432 ∧ statAddr k = 0x1c08_0000 + 64 * (k / 3) + 16 * (k % 3) ∧ statAddr k < 0x1c80_0000 ∧ statAddr k % 16 = 0
      ∨ 18432 ≤ k ∧ statAddr k = 0x1c80_0000 + 4 * (k - 18432) ∧ statAddr k < 0x1d00_0000 := by
  unfold statAddr
  split <;> omega

/-- The points' words of the PM window. -/
theorem pmPoint_clear {f : Field} (hlow : 0x1c00_0000 ≤ f.off) {k : Nat} (hk : k < 534528) {g : Field} (hg : g.off ≤ 0x1900_0100) :
    (pmPoint k g).clearOf f := by
  refine .inl (Nat.ne_of_gt (Nat.lt_of_lt_of_le ?_ hlow))
  show (if k < 18432 then g.off + 8 * k else g.off + 0x10_0000 + 8 * (k - 18432)) < _
  split <;> omega

/-- A field that no defect bit of the point shares. -/
abbrev Field.FreeOf (f : Field) (k : Nat) : Prop :=
  ∀ ho lo : Field, 23 ≤ ho.lo ∧ ho.lo + ho.len ≤ 29 → 13 ≤ lo.lo ∧ lo.lo + lo.len ≤ 20 → (stField k ho lo).clearOf f

/-- RFI, which a lower-order point shows. -/
theorem Field.FreeOf.rfi {f : Field} {k : Nat} (hfree : f.FreeOf k) (hho : isHo k = false) : (stRfi k).clearOf f := by
  have h := hfree F.hoStRdi F.loStRfi (by decide) (by decide)
  rwa [stField, hho] at h

/-- What a point shows leaves a field that it does not show. -/
theorem Dev.Reads.pathShowFree {f : Field} {d e : Dev} (h : Dev.Reads f d e) (hlow : 0x1c00_0000 ≤ f.off) (hhigh : f.off < 0x1_0000_0000) {k : Nat}
    (hk : k < 534528) (hfree : f.FreeOf k) : Dev.Reads f d (e.pathShow k) := by
  unfold Dev.pathShow
  extract_lets old p idle ok lab sl d1 d2 d3
  have h1 : Dev.Reads f d d1 := (((((h.put (hfree _ _ (by decide) (by decide)) _).put (hfree _ _ (by decide) (by decide)) _).put
    (hfree _ _ (by decide) (by decide)) _).put (hfree _ _ (by decide) (by decide)) _).put (hfree _ _ (by decide) (by decide)) _).put
    (hfree _ _ (by decide) (by decide)) _
  have h2 : Dev.Reads f d d2 := by
    unfold d2
    cases hho : isHo k with
    | true => exact h1
    | false => exact h1.put (hfree.rfi hho) _
  have h3 : Dev.Reads f d d3 := h2.when _ fun x hx => (((hx.lower (pmPoint_clear hlow hk (by decide))).lower (pmPoint_clear hlow hk (by decide))).of_only
    (Dev.only_estClear _ _)).of_only (Dev.only_estClear _ _)
  exact (h3.pathSummary (Nat.lt_trans hhigh (by decide)) k old).of_only (Dev.only_markOnes _ k)

section
variable {d e : Dev} {f : Field} (hf : f.IsStatKept)
include hf

/-- A defect's bit. -/
theorem Field.IsStatKept.defect {k : Nat} (hk : k < 534528) {ho lo : Field} (hho : 23 ≤ ho.lo ∧ ho.lo + ho.len ≤ 29)
    (hlo : 13 ≤ lo.lo ∧ lo.lo + lo.len ≤ 20) : (stField k ho lo).clearOf f := by
  obtain ⟨-, -, hwidth, hbits⟩ := hf
  by_cases hoff : f.off = statAddr k
  · right
    rcases statAddr_range hk with ⟨hk, -, hlt, hmod⟩ | ⟨hk, heq, -⟩
    · have hfield : (stField k ho lo).lo = ho.lo ∧ (stField k ho lo).len = ho.len := by
        rw [stField, isHo, decide_eq_true hk]
        exact ⟨rfl, rfl⟩
      omega
    · have hfield : (stField k ho lo).lo = lo.lo ∧ (stField k ho lo).len = lo.len := by
        rw [stField, isHo, decide_eq_false (by omega)]
        exact ⟨rfl, rfl⟩
      omega
  · exact .inl hoff

theorem Dev.Reads.pathShowKept (h : Dev.Reads f d e) {k : Nat} (hk : k < 534528) : Dev.Reads f d (e.pathShow k) :=
  h.pathShowFree hf.low hf.high hk fun _ _ hho hlo => hf.defect hk hho hlo

theorem Dev.Reads.pathUpdateKept (h : Dev.Reads f d e) {k : Nat} (hk : k < 534528) : Dev.Reads f d (e.pathUpdate k) := by
  unfold Dev.pathUpdate
  extract_lets d1 d2
  have h1 : Dev.Reads f d d1 := h.pathShowKept hf hk
  have h2 : Dev.Reads f d d2 := by
    unfold d2
    split
    case isTrue hcond =>
      have hho : k < 18432 := by
        simp only [Bool.and_eq_true] at hcond
        exact of_decide_eq_true hcond.1.1
      split
      · next g hg => exact h1.pathShowKept hf (Nat.lt_trans (e.headPoint_lt hho hg) (by decide))
      · exact h1
    case isFalse => exact h1
  split
  · refine h2.foldl fun x j hj hx => hx.pathShowKept hf ?_
    have hrange := e.lowerOf_range hj
    have hlt := hoOf_lt hk
    omega
  · exact h2

end

/-! The fields of a point's status -/

/-- The state stands in the same place of both words, and so does the fabric pointer. -/
theorem stPstate_eq (k : Nat) : stPstate k = ⟨statAddr k, 0, 3⟩ := by
  rw [stPstate, stField]
  split <;> rfl

theorem stFptr_eq (k : Nat) : stFptr k = ⟨statAddr k, 3, 10⟩ := by
  rw [stFptr, stField]
  split <;> rfl

theorem Field.isStatKept_stField {k : Nat} (hk : k < 534528) {ho lo : Field} (hho : ho.lo + ho.len ≤ 23 ∨ 29 ≤ ho.lo ∧ ho.lo + ho.len ≤ 32)
    (hlo : lo.lo + lo.len ≤ 13 ∨ 20 ≤ lo.lo ∧ lo.lo + lo.len ≤ 32) : (stField k ho lo).IsStatKept := by
  rcases statAddr_range hk with ⟨hk, heq, hlt, -⟩ | ⟨hk, heq, hlt⟩
  · have hfield : stField k ho lo = { ho with off := statAddr k } := by rw [stField, isHo, decide_eq_true hk]; rfl
    rw [hfield]
    exact ⟨show 0x1c00_0000 ≤ statAddr k by omega, show statAddr k < _ by omega, show ho.lo + ho.len ≤ 32 by omega,
      .inr (.inl ⟨hlt, (show ho.lo + ho.len ≤ 23 ∨ 29 ≤ ho.lo ∨ _ by omega)⟩)⟩
  · have hfield : stField k ho lo = { lo with off := statAddr k } := by rw [stField, isHo, decide_eq_false (by omega)]; rfl
    rw [hfield]
    refine ⟨show 0x1c00_0000 ≤ statAddr k by omega, show statAddr k < _ by omega, show lo.lo + lo.len ≤ 32 by omega, ?_⟩
    rcases hlo with h | h
    · exact .inl h
    · exact .inr (.inr ⟨show 0x1c80_0000 ≤ statAddr k by omega, h.1⟩)

theorem Field.isStatKept_pstate {k : Nat} (hk : k < 534528) : (stPstate k).IsStatKept := isStatKept_stField hk (by decide) (by decide)

theorem Field.isStatKept_fptr {k : Nat} (hk : k < 534528) : (stFptr k).IsStatKept := isStatKept_stField hk (by decide) (by decide)

theorem Dev.pstate_pathUpdate (d : Dev) {k j : Nat} (hk : k < 534528) (hj : j < 534528) : (d.pathUpdate k).pstate j = d.pstate j :=
  (Dev.Reads.refl (stPstate j) d).pathUpdateKept (Field.isStatKept_pstate hj) hk

end Sys2Proof.Machine

/-! The pointer interpreter (R199 to R202, R210, R211): what one word does in NORM, and the moves between the states. -/

namespace Sys2Proof.Machine

set_option Elab.async false -- a proof at a time, within the memory of a check

/-! The events of a word -/

section
variable {w : BitVec 16} {a since top : Nat}

theorem bitsOver_none : bitsOver 0 15 = 0 := by decide

theorem bitsOver_all : bitsOver 15 15 = 4 := by decide

/-- The NDF bits that are enabled exactly. -/
theorem classify_ndf {active : Option Nat} (h : w.toNat / 4096 = 9) (hv : w.toNat % 1024 ≤ top) :
    classify false true active since top w = .ndf (w.toNat % 1024) := by
  have hx : w.toNat ≠ 0xffff := by omega
  unfold classify
  simp [h, hx, hv, bitsOver_none]

/-- A normal word. -/
theorem classify_normal (h : w.toNat / 4096 = 6) : classify false true (some a) since top w
    = if 3 ≤ bitsOver (w.toNat % 1024 ^^^ a) maskI ∧ bitsOver (w.toNat % 1024 ^^^ a) maskD ≤ 2 then (if 3 ≤ since then .inc else .inv)
      else if 3 ≤ bitsOver (w.toNat % 1024 ^^^ a) maskD ∧ bitsOver (w.toNat % 1024 ^^^ a) maskI ≤ 2 then (if 3 ≤ since then .dec else .inv)
      else if w.toNat % 1024 ≤ top then (if some a = some (w.toNat % 1024) then .eq (w.toNat % 1024) else .new (w.toNat % 1024)) else .inv := by
  have hx : w.toNat ≠ 0xffff := by omega
  unfold classify
  simp [h, hx, bitsOver_none, bitsOver_all]

theorem xor_xor_self (a m : Nat) : (a ^^^ m) ^^^ a = m := by rw [Nat.xor_comm a, Nat.xor_assoc, Nat.xor_self, Nat.xor_zero]

theorem classify_inc (h : w.toNat / 4096 = 6) (hv : w.toNat % 1024 = a ^^^ 0x2aa) (hsince : 3 ≤ since) :
    classify false true (some a) since top w = .inc := by
  rw [classify_normal h, hv, xor_xor_self, if_pos (by decide), if_pos hsince]

theorem classify_dec (h : w.toNat / 4096 = 6) (hv : w.toNat % 1024 = a ^^^ 0x155) (hsince : 3 ≤ since) :
    classify false true (some a) since top w = .dec := by
  rw [classify_normal h, hv, xor_xor_self, if_neg (by decide), if_pos (by decide), if_pos hsince]

theorem classify_eq (h : w.toNat / 4096 = 6) (hv : w.toNat % 1024 = a) (ha : a ≤ top) : classify false true (some a) since top w = .eq a := by
  rw [classify_normal h, hv, Nat.xor_self, if_neg (by decide), if_neg (by decide), if_pos ha, if_pos rfl]

theorem classify_ones {active : Option Nat} : classify false true active since top 0xffff#16 = .ais := by
  unfold classify
  exact if_pos (by decide)

end

/-! The path of a point after a fold over other points -/

section
variable (d : Dev)

theorem Dev.path_foldl_other {l : List Nat} {g : Dev → Nat → Dev} (hg : ∀ e i, ∀ k, k ≠ i → (g e i).path k = e.path k) {k : Nat} (hk : k ∉ l) (e : Dev) :
    (l.foldl g e).path k = e.path k :=
  List.foldlRecOn (motive := fun x : Dev => x.path k = e.path k) l g rfl fun x hx i hi => (hg x i k fun hki => hk (hki ▸ hi)).trans hx

/-- The point of a list without repetition takes its step once. -/
theorem Dev.path_foldl_once {l : List Nat} {g : Dev → Nat → Dev} (hg : ∀ e i, ∀ k, k ≠ i → (g e i).path k = e.path k) (hl : l.Nodup) {k : Nat} (hk : k ∈ l)
    (e : Dev) : ∃ l', l' ⊆ l ∧ ((l.foldl g e).path k = (g (l'.foldl g e) k).path k) ∧ (l'.foldl g e).path k = e.path k := by
  obtain ⟨l₁, l₂, rfl⟩ := List.append_of_mem hk
  have hsplit := List.nodup_append.mp hl
  obtain ⟨-, h2, h12⟩ := hsplit
  have hnot1 : k ∉ l₁ := fun h => h12 k h k (.head _) rfl
  have hnot2 : k ∉ l₂ := (List.nodup_cons.mp h2).1
  refine ⟨l₁, fun x hx => List.mem_append_left _ hx, ?_, Dev.path_foldl_other hg hnot1 e⟩
  rw [List.foldl_append, List.foldl_cons]
  exact Dev.path_foldl_other hg hnot2 _

/-! A fabric pointer that is to be chosen again -/

/-- The fabric pointer of point `j` is to be chosen again, where it has one. -/
def Dev.chooseAgain (e : Dev) (j : Nat) : Dev :=
  e.when (e.realigned j && e.pstate j == psNorm) (fun x => x.setPath j { x.path j with choose := true, asked := x.now })

theorem Dev.rechoose_eq (k : Nat) : d.rechoose k = if isHo k && d.structured (hoOf k) then
    ((d.lowerOf (hoOf k)).filter (fun j => d.parentOf j == k)).foldl Dev.chooseAgain d else d.chooseAgain k := rfl

theorem Dev.path_chooseAgain_other (i k : Nat) (hk : k ≠ i) : (d.chooseAgain i).path k = d.path k :=
  Dev.when_of (P := fun e : Dev => e.path k = d.path k) _ rfl (by rw [Dev.path_setPath, if_neg hk])

theorem Dev.path_chooseAgain_same (k : Nat) : (d.chooseAgain k).path k
    = if d.realigned k && d.pstate k == psNorm then { d.path k with choose := true, asked := d.now } else d.path k := by
  unfold Dev.chooseAgain
  cases hc : d.realigned k && d.pstate k == psNorm with
  | true => rw [Dev.when_eq rfl, Dev.path_setPath_same, if_pos rfl]
  | false => exact (if_neg Bool.false_ne_true).symm

theorem Dev.not_mem_lower {k h : Nat} (hk : k < 18432) (p : Nat → Bool) : k ∉ (d.lowerOf h).filter p := fun hmem => by
  have hrange := d.lowerOf_range (List.mem_filter.mp hmem).1
  omega

/-- The point itself: its fabric pointer alone may be chosen again. -/
theorem Dev.path_rechoose_same (k : Nat) : ((d.rechoose k).path k = d.path k ∨ (d.rechoose k).path k = { d.path k with choose := true, asked := d.now })
    ∧ (d.realigned k = true → d.pstate k = psNorm → ((d.rechoose k).path k).choose = true) := by
  rw [d.rechoose_eq]
  cases hs : isHo k && d.structured (hoOf k) with
  | true =>
    obtain ⟨hho, hst⟩ := Bool.and_eq_true_iff.mp hs
    rw [if_pos rfl, Dev.path_foldl_other (fun e i j hj => e.path_chooseAgain_other i j hj) (d.not_mem_lower (of_decide_eq_true hho) _)]
    refine ⟨.inl rfl, fun hre => ?_⟩
    rw [Dev.realigned, hs, Bool.not_true, Bool.and_false] at hre
    exact nomatch hre
  | false =>
    rw [if_neg Bool.false_ne_true, d.path_chooseAgain_same]
    refine ⟨?_, fun hre hnorm => ?_⟩
    · split
      · exact .inr rfl
      · exact .inl rfl
    · rw [hre, hnorm, if_pos (by decide)]

/-- The other points, unless the point is structured on a LINE lane. -/
theorem Dev.path_rechoose_other {k j : Nat} (hj : j ≠ k) (haround : ((d.lane (laneOf k)).isLine && isHo k && d.structured (hoOf k)) = false) :
    (d.rechoose k).path j = d.path j := by
  rw [d.rechoose_eq]
  cases hs : isHo k && d.structured (hoOf k) with
  | false =>
    rw [if_neg Bool.false_ne_true]
    exact d.path_chooseAgain_other k j hj
  | true =>
    rw [if_pos rfl]
    rw [Bool.and_assoc, hs, Bool.and_true] at haround
    have hstep : ∀ e i, i ∈ (d.lowerOf (hoOf k)).filter (fun j => d.parentOf j == k) → e.lanes = d.lanes → Dev.chooseAgain e i = e := fun e i hi he => by
      have hlane : laneOf i = laneOf k := by
        have hrange := d.lowerOf_range (List.mem_filter.mp hi).1
        rw [laneOf, hoOf_lower hrange, laneOf]
      have hline : (e.lane (laneOf i)).isLine = false := by
        rw [hlane, Dev.lane, he]
        exact haround
      rw [Dev.chooseAgain, Dev.realigned, hline, Bool.false_and, Bool.false_and]
      rfl
    have hsame := List.foldlRecOn (motive := fun x : Dev => x = d) _ Dev.chooseAgain rfl fun x hx i hi => (hstep x i hi (congrArg Dev.lanes hx)).trans hx
    exact congrArg (fun x : Dev => x.path j) hsame

/-! A justification on the line -/

/-- The share of a justification that point `j` takes. -/
def Dev.shareStep (inc : Bool) (e : Dev) (j : Nat) : Dev :=
  e.setPath j { e.path j with share := if inc then (e.path j).share + (e.pointUnit j).share else (e.path j).share - (e.pointUnit j).share, asked := e.now }

theorem Dev.path_shareStep_other (inc : Bool) (e : Dev) (i k : Nat) (hk : k ≠ i) : (e.shareStep inc i).path k = e.path k := by
  rw [Dev.shareStep, Dev.path_setPath, if_neg hk]

/-- The interpreter's own part of a justification. -/
def PathSt.justified (q : PathSt) (inc : Bool) (n : Nat) : PathSt :=
  { q with active := some (if inc then (q.active.getD 0 + 1) % n else (q.active.getD 0 + n - 1) % n), since := 0 }

theorem Dev.only_shareStep (inc : Bool) (e : Dev) (j : Nat) : Dev.Only [.paths] e (e.shareStep inc j) := e.only_setPath _ _

/-- A justification of a container that is realigned, of a structured one, and of one of a lane other than LINE. -/
theorem Dev.justify_eq (k : Nat) (q : PathSt) (inc : Bool) : d.justify k q inc
    = if d.realigned k then (d.setPath k (q.justified inc (d.pointUnit k).values)).setPath k
        (if inc then { q.justified inc (d.pointUnit k).values with pendInc := q.pendInc + 1, asked := d.now }
          else { q.justified inc (d.pointUnit k).values with pendDec := q.pendDec + 1, asked := d.now })
      else if (d.lane (laneOf k)).isLine then ((d.lowerOf (hoOf k)).filter (fun j => d.parentOf j == k && d.pstate j == psNorm)).foldl
        (Dev.shareStep inc) (d.setPath k (q.justified inc (d.pointUnit k).values))
      else d.setPath k (q.justified inc (d.pointUnit k).values) := rfl

/-- Not realigned on a LINE lane: a structured container. -/
theorem Dev.structured_of_line {k : Nat} (hre : d.realigned k = false) (hline : (d.lane (laneOf k)).isLine = true) :
    isHo k = true ∧ d.structured (hoOf k) = true := by
  rw [Dev.realigned, hline, Bool.true_and, Bool.not_eq_false'] at hre
  exact Bool.and_eq_true_iff.mp hre

theorem Dev.path_justify_same (k : Nat) (q : PathSt) (inc : Bool) {y : PathSt} (hy : y = (d.justify k q inc).path k) :
    y.active = some (if inc then (q.active.getD 0 + 1) % (d.pointUnit k).values else (q.active.getD 0 + (d.pointUnit k).values - 1) % (d.pointUnit k).values)
      ∧ y.since = 0 ∧ y.pendInc = q.pendInc + (if inc && d.realigned k then 1 else 0) ∧ y.pendDec = q.pendDec + (if !inc && d.realigned k then 1 else 0) := by
  rw [d.justify_eq] at hy
  cases hre : d.realigned k with
  | true =>
    rw [hre, if_pos rfl, Dev.path_setPath_same] at hy
    cases inc <;> subst hy <;> exact ⟨rfl, rfl, rfl, rfl⟩
  | false =>
    rw [hre, if_neg Bool.false_ne_true] at hy
    have hown : y = q.justified inc (d.pointUnit k).values := by
      cases hline : (d.lane (laneOf k)).isLine with
      | true =>
        obtain ⟨hho, -⟩ := d.structured_of_line hre hline
        rw [hline, if_pos rfl, Dev.path_foldl_other (Dev.path_shareStep_other inc) (d.not_mem_lower (of_decide_eq_true hho) _),
          Dev.path_setPath_same] at hy
        exact hy
      | false =>
        rw [hline, if_neg Bool.false_ne_true, Dev.path_setPath_same] at hy
        exact hy
    rw [hown, Bool.and_false, Bool.and_false]
    exact ⟨rfl, rfl, rfl, rfl⟩

theorem Dev.path_justify_other {k j : Nat} (q : PathSt) (inc : Bool) (hj : j ≠ k)
    (haround : ((d.lane (laneOf k)).isLine && isHo k && d.structured (hoOf k)) = false) : (d.justify k q inc).path j = d.path j := by
  rw [d.justify_eq]
  cases hre : d.realigned k with
  | true => rw [if_pos rfl, Dev.path_setPath, if_neg hj, Dev.path_setPath, if_neg hj]
  | false =>
    rw [if_neg Bool.false_ne_true]
    cases hline : (d.lane (laneOf k)).isLine with
    | true =>
      obtain ⟨hho, hst⟩ := d.structured_of_line hre hline
      rw [hline, hho, hst] at haround
      exact nomatch haround
    | false => rw [if_neg Bool.false_ne_true, Dev.path_setPath, if_neg hj]

/-- The points within a structured container share its justification. -/
theorem Dev.share_justify {k j : Nat} (q : PathSt) (inc : Bool) (hl : (d.lowerOf (hoOf k)).Nodup)
    (haround : ((d.lane (laneOf k)).isLine && isHo k && d.structured (hoOf k)) = true) (hj : j ∈ d.lowerOf (hoOf k)) (hparent : d.parentOf j = k)
    (hnorm : d.pstate j = psNorm) : ((d.justify k q inc).path j).share
      = if inc then (d.path j).share + (d.pointUnit j).share else (d.path j).share - (d.pointUnit j).share := by
  obtain ⟨hrest, hst⟩ := Bool.and_eq_true_iff.mp haround
  obtain ⟨hline, hho⟩ := Bool.and_eq_true_iff.mp hrest
  have hre : d.realigned k = false := by rw [Dev.realigned, hho, hst, Bool.and_self, Bool.not_true, Bool.and_false]
  have hmem : j ∈ (d.lowerOf (hoOf k)).filter (fun j => d.parentOf j == k && d.pstate j == psNorm) := by
    refine List.mem_filter.mpr ⟨hj, ?_⟩
    rw [hparent, hnorm, beq_self_eq_true]
    rfl
  have hjk : j ≠ k := fun h => d.not_mem_lower (of_decide_eq_true hho) _ (h ▸ hmem)
  rw [d.justify_eq, hre, if_neg Bool.false_ne_true, hline, if_pos rfl]
  obtain ⟨l', -, hpath, hkept⟩ := Dev.path_foldl_once (Dev.path_shareStep_other inc) (hl.filter _) hmem
    (d.setPath k (q.justified inc (d.pointUnit k).values))
  rw [Dev.path_setPath, if_neg hjk] at hkept
  have honly : Dev.Only [.paths] d (l'.foldl (Dev.shareStep inc) (d.setPath k (q.justified inc (d.pointUnit k).values))) :=
    (d.only_setPath _ _).trans (.foldl _ fun e i _ => Dev.only_shareStep inc e i)
  obtain ⟨x, hx⟩ : ∃ x, x = l'.foldl (Dev.shareStep inc) (d.setPath k (q.justified inc (d.pointUnit k).values)) := ⟨_, rfl⟩
  rw [← hx] at hpath hkept honly
  have hunit : x.pointUnit j = d.pointUnit j := honly _ (fun y : Dev => y.pointUnit j) fun y hy => by
    rw [List.mem_singleton] at hy
    subst hy
    exact fun _ _ => rfl
  rw [hpath, Dev.shareStep, Dev.path_setPath_same, hkept, hunit]

end

end Sys2Proof.Machine

/-! A pointer word in NORM, the moves of an interpreter, and the statement (R199 to R202, R210, R211). -/

namespace Sys2Proof.Machine

set_option Elab.async false -- a proof at a time, within the memory of a check

/-! A word in NORM -/

section
variable (d : Dev) (k : Nat)

theorem Dev.only_justify (q : PathSt) (inc : Bool) : Dev.Only [.paths] d (d.justify k q inc) := by
  rw [d.justify_eq]
  split
  · exact (d.only_setPath k _).trans (Dev.only_setPath _ k _)
  · split
    · exact (d.only_setPath k _).trans (.foldl _ fun e j _ => Dev.only_shareStep inc e j)
    · exact d.only_setPath k _

/-- What an event does at once in NORM, where the runs are those of `q`. -/
def Dev.pointerEvent (d : Dev) (k : Nat) (q : PathSt) : PtrEvent → Dev
  | .inc => (d.justify k q true).countPath k 4 1
  | .dec => (d.justify k q false).countPath k 5 1
  | .ndf v => ((d.setPath k { q with active := some v, since := 0 }).countPath k 6 1).rechoose k
  | _ => d.setPath k q

theorem Dev.pointerWord_norm {w : BitVec 16} {e : PtrEvent} (hnorm : d.pstate k = psNorm)
    (he : classify false true (d.path k).active (d.path k).since (d.pointerTop k) w = e) :
    d.pointerWord k w = ((d.pointerEvent k ((d.path k).runs false true e) e).showLptr k).pathUpdate k := by
  unfold Dev.pointerWord
  rw [hnorm]
  have hmember : decide (3 ≤ psNorm) = false := rfl
  have hsame : (psNorm == psNorm) = true := rfl
  simp only [hmember, hsame, he]
  cases e <;> rfl

theorem Dev.only_pointerEvent (q : PathSt) (e : PtrEvent) : Dev.Only [.paths, .acc] d (d.pointerEvent k q e) := by
  cases e with
  | inc => exact ((d.only_justify k q true).mono (by decide)).step (Dev.only_countPath _ k 4 1)
  | dec => exact ((d.only_justify k q false).mono (by decide)).step (Dev.only_countPath _ k 5 1)
  | ndf v => exact (((d.only_setPath k _).mono (by decide)).step (Dev.only_countPath _ k 6 1)).step (Dev.only_rechoose _ k)
  | _ => exact (d.only_setPath k _).mono (by decide)

theorem Dev.pstate_showLptr (j : Nat) : (d.showLptr k).pstate j = d.pstate j := by
  have hclear : (stLptr k).clearOf (stPstate j) := by
    rw [stPstate_eq]
    exact .inr ⟨show 13 + 10 ≤ 32 by decide, show 0 + 3 ≤ 32 by decide, .inl (show 0 + 3 ≤ 13 by decide)⟩
  exact (Dev.Reads.refl (stPstate j) d).when _ fun x hx => hx.put hclear _

theorem Dev.only_showLptr : Dev.Only [.words] d (d.showLptr k) := .whenStep _ fun x => x.only_put _ _

/-- What follows a word's event. -/
theorem Dev.path_shown (e : Dev) (j : Nat) : ((e.showLptr k).pathUpdate k).path j = e.path j :=
  (Dev.path_pathUpdate _ k j).trans (Dev.path_congr (e.only_showLptr k).paths j)

theorem Dev.pstate_shown (e : Dev) {k j : Nat} (hk : k < 534528) (hj : j < 534528) : ((e.showLptr k).pathUpdate k).pstate j = e.pstate j :=
  (Dev.pstate_pathUpdate _ hk hj).trans (e.pstate_showLptr k j)

/-- The other points, unless the point is structured on a LINE lane. -/
theorem Dev.path_pointerEvent_other {j : Nat} (q : PathSt) (e : PtrEvent) (hj : j ≠ k)
    (haround : ((d.lane (laneOf k)).isLine && isHo k && d.structured (hoOf k)) = false) : (d.pointerEvent k q e).path j = d.path j := by
  cases e with
  | inc => exact (Dev.path_congr (Dev.only_countPath _ k 4 1).paths j).trans (d.path_justify_other q true hj haround)
  | dec => exact (Dev.path_congr (Dev.only_countPath _ k 5 1).paths j).trans (d.path_justify_other q false hj haround)
  | ndf v =>
    obtain ⟨x, hx⟩ : ∃ x, x = (d.setPath k { q with active := some v, since := 0 }).countPath k 6 1 := ⟨_, rfl⟩
    have honly : Dev.Only [.paths, .acc] d x := hx ▸ ((d.only_setPath k _).mono (by decide)).step (Dev.only_countPath _ k 6 1)
    have hsame : ((x.lane (laneOf k)).isLine && isHo k && x.structured (hoOf k)) = false :=
      (honly _ (fun y : Dev => (y.lane (laneOf k)).isLine && isHo k && y.structured (hoOf k)) fun y hy => by
        fin_cases hy <;> exact fun _ _ => rfl).trans haround
    refine Eq.trans (congrArg (fun y : Dev => (y.rechoose k).path j) hx.symm) ((x.path_rechoose_other hj hsame).trans ?_)
    rw [hx, Dev.path_congr (Dev.only_countPath _ k 6 1).paths j, Dev.path_setPath, if_neg hj]
  | _ => exact (Dev.path_setPath ..).trans (if_neg hj)

/-- An NDF word. -/
theorem Dev.path_pointerEvent_ndf (q : PathSt) (v : Nat) (hnorm : d.pstate k = psNorm) :
    ((d.pointerEvent k q (.ndf v)).path k).active = some v ∧ ((d.pointerEvent k q (.ndf v)).path k).since = 0
      ∧ (d.realigned k = true → ((d.pointerEvent k q (.ndf v)).path k).choose = true) := by
  obtain ⟨x, hx⟩ : ∃ x, x = (d.setPath k { q with active := some v, since := 0 }).countPath k 6 1 := ⟨_, rfl⟩
  have honly : Dev.Only [.paths, .acc] d x := hx ▸ ((d.only_setPath k _).mono (by decide)).step (Dev.only_countPath _ k 6 1)
  have hpath : x.path k = { q with active := some v, since := 0 } := by
    rw [hx, Dev.path_congr (Dev.only_countPath _ k 6 1).paths k, Dev.path_setPath_same]
  have hre : x.realigned k = d.realigned k := honly _ (fun y : Dev => y.realigned k) fun y hy => by fin_cases hy <;> exact fun _ _ => rfl
  have hps : x.pstate k = psNorm := (Dev.get_congr honly.words _).trans hnorm
  obtain ⟨hsame, hchoose⟩ := x.path_rechoose_same k
  have hevent : d.pointerEvent k q (.ndf v) = x.rechoose k := by rw [hx]; rfl
  rw [hevent]
  refine ⟨?_, ?_, fun h => hchoose (hre.trans h) hps⟩
  · rcases hsame with h | h <;> rw [h, hpath]
  · rcases hsame with h | h <;> rw [h, hpath]

/-- A justification. -/
theorem Dev.path_pointerEvent_justify (q : PathSt) (inc : Bool) {e : PtrEvent} (he : e = if inc then .inc else .dec) {j : Nat} :
    (d.pointerEvent k q e).path j = (d.justify k q inc).path j := by
  cases inc <;> subst he <;> exact Dev.path_congr (Dev.only_countPath _ k _ 1).paths j

theorem UnitKind.values_pos (u : UnitKind) : 1 ≤ u.values := by cases u <;> decide

theorem Dev.pointerTop_succ : (d.pointUnit k).values = d.pointerTop k + 1 := by
  have hpos := (d.pointUnit k).values_pos
  rw [Dev.pointerTop]
  omega

end

/-- What a word does in NORM. -/
theorem pointerWord_does {p : Point} {w : BitVec 16} {a : Nat} {s : State} (hlive : s.dev.pointerLive (pointKey p) = true)
    (hhears : s.dev.hearsWord (pointKey p) w = true) (hnorm : s.dev.pstate (pointKey p) = psNorm) (hactive : (s.dev.path (pointKey p)).active = some a)
    {e : PtrEvent} (he : classify false true (some a) (s.dev.path (pointKey p)).since (s.dev.pointerTop (pointKey p)) w = e) :
    ∃ t, exec (.pointerWord p w) s = .next t ∧ KeepsMemories s t ∧ t.dev.pstate (pointKey p) = psNorm
      ∧ ∀ j, t.dev.path j = (s.dev.pointerEvent (pointKey p) ((s.dev.path (pointKey p)).runs false true e) e).path j := by
  have hdue : (s.dev.pointerLive (pointKey p) && s.dev.hearsWord (pointKey p) w) = true := by rw [hlive, hhears]; rfl
  have hword := s.dev.pointerWord_norm (pointKey p) hnorm (hactive ▸ he)
  have hexec : exec (.pointerWord p w) s = .next { s with dev := s.dev.pointerWord (pointKey p) w } := by
    show execPointerWord p w s = _
    rw [execPointerWord, Dev.when_eq hdue]
  refine ⟨_, hexec, ⟨rfl, rfl⟩, ?_, fun j => ?_⟩
  · rw [hword, Dev.pstate_shown _ (pointKey_lt p) (pointKey_lt p)]
    exact (Dev.get_congr (s.dev.only_pointerEvent _ _ e).words _).trans hnorm
  · rw [hword, Dev.path_shown]

/-! The moves of an interpreter -/

section
variable (d : Dev) (k : Nat)

theorem Dev.only_leaveFabric : Dev.Only [.paths] d (d.leaveFabric k) := d.only_setPath k _

/-- A move of an interpreter that belongs to no head. -/
theorem Dev.pointerMove_own {st : Nat} {value : Option Nat} (hk : k < 534528) (hhead : d.headPoint k = k) (hst : st < 8)
    (hval : value.isSome = true → st = psNorm) :
    (d.pointerMove k st value).pstate k = st
      ∧ ((d.pointerMove k st value).path k).active = (if value.isSome then value else (d.path k).active)
      ∧ (value.isSome = true → d.realigned k = true → ((d.pointerMove k st value).path k).choose = true)
      ∧ (value = none → ((d.pointerMove k st value).path k).pendInc = 0 ∧ ((d.pointerMove k st value).path k).pendDec = 0
        ∧ ((d.pointerMove k st value).path k).due = none)
      ∧ (((d.lane (laneOf k)).isLine && isHo k && d.structured (hoOf k)) = false → ∀ j, j ≠ k → (d.pointerMove k st value).path j = d.path j) := by
  unfold Dev.pointerMove
  extract_lets p q hk' d1 d2 d3
  have hkk : hk' = k := hhead
  have honly1 : Dev.Only [.paths] d d1 := by
    unfold d1
    split
    · exact d.only_setPath k _
    · exact (d.only_setPath k _).trans (Dev.only_leaveFabric _ k)
  have hpath1 : (d1.path k).active = (if value.isSome then value else p.active)
      ∧ (value = none → (d1.path k).pendInc = 0 ∧ (d1.path k).pendDec = 0 ∧ (d1.path k).due = none) := by
    unfold d1
    cases value with
    | some v =>
      rw [Dev.path_setPath_same]
      exact ⟨rfl, fun h => nomatch h⟩
    | none =>
      rw [Dev.leaveFabric]
      simp only [Dev.path_setPath_same]
      exact ⟨rfl, fun _ => ⟨rfl, rfl, rfl⟩⟩
  have hother1 : ∀ j, j ≠ k → d1.path j = d.path j := fun j hj => by
    unfold d1
    cases value with
    | some v => exact (Dev.path_setPath ..).trans (if_neg hj)
    | none =>
      rw [Dev.leaveFabric]
      exact ((Dev.path_setPath ..).trans (if_neg hj)).trans ((Dev.path_setPath ..).trans (if_neg hj))
  have honly2 : Dev.Only [.words, .acc] d1 d2 :=
    ((d1.only_put _ _).mono (by decide)).trans (.whenStep _ fun x => (x.only_countPath k 6 1).mono (by decide))
  have hps2 : d2.pstate k = st := by
    have hput : (d1.put (stPstate k) st).pstate k = st := by
      rw [Dev.pstate, stPstate_eq, Dev.get_put_same _ _ _ (show 0 + 3 ≤ 32 by decide)]
      exact Nat.mod_eq_of_lt hst
    exact (Dev.get_congr (Dev.Only.whenStep (S := [.acc]) _ fun x => x.only_countPath k 6 1).words _).trans hput
  have honly : Dev.Only [.paths, .words, .acc] d d2 := (honly1.mono (by decide)).step honly2
  have hre : d2.realigned k = d.realigned k := honly _ (fun y : Dev => y.realigned k) fun y hy => by fin_cases hy <;> exact fun _ _ => rfl
  have haround2 : ((d2.lane (laneOf k)).isLine && isHo k && d2.structured (hoOf k)) = ((d.lane (laneOf k)).isLine && isHo k && d.structured (hoOf k)) :=
    honly _ (fun y : Dev => (y.lane (laneOf k)).isLine && isHo k && y.structured (hoOf k)) fun y hy => by fin_cases hy <;> exact fun _ _ => rfl
  have hpath2 (j : Nat) : d2.path j = d1.path j := Dev.path_congr honly2.paths j
  have hd3 : d3 = d2.when value.isSome (fun e => e.rechoose k) := if_pos hkk
  have hps3 : d3.pstate k = st := by
    rw [hd3]
    exact (Dev.get_congr (Dev.Only.whenStep (S := [.paths]) _ fun x => x.only_rechoose k).words _).trans hps2
  rw [Dev.pstate_shown _ hk hk, Dev.path_shown]
  refine ⟨hps3, ?_, fun hsome hreal => ?_, fun hnone => ?_, fun haround j hj => ?_⟩
  · rw [← hpath1.1, ← hpath2, hd3]
    refine Dev.when_of (P := fun x : Dev => (x.path k).active = (d2.path k).active) _ rfl ?_
    rcases (d2.path_rechoose_same k).1 with h | h <;> rw [h]
  · rw [hd3, Dev.when_eq hsome]
    exact (d2.path_rechoose_same k).2 (hre.trans hreal) (hps2.trans (hval hsome))
  · rw [hd3, hnone, Dev.when, if_neg (by decide), hpath2]
    exact hpath1.2 hnone
  · rw [Dev.path_shown, hd3, ← hother1 j hj, ← hpath2]
    exact Dev.when_of (P := fun x : Dev => x.path j = d2.path j) _ rfl (d2.path_rechoose_other hj (haround2.trans haround))

end

/-- The state that the runs lead to. -/
theorem PathSt.nextState_eq {x : PathSt} {now st : Nat} {value : Option Nat}
    (h : (now ≠ psAis ∧ now < 3 ∧ 3 ≤ x.aisRun ∧ st = psAis ∧ value = none)
      ∨ (now < 3 ∧ x.aisRun < 3 ∧ x.ndfValue = none ∧ 3 ≤ x.newRun ∧ st = psNorm ∧ value = some x.newValue)
      ∨ (now = psAis ∧ ∃ v, x.ndfValue = some v ∧ st = psNorm ∧ value = some v)
      ∨ (now = psNorm ∧ x.aisRun < 3 ∧ x.newRun < 3 ∧ 8 ≤ x.invRun ∧ st = psLop ∧ value = none)) :
    x.nextState now = some (st, value) ∧ st < 8 ∧ (value.isSome = true → st = psNorm) := by
  have hidle (hlt : now < 3) : now ≠ psIdle ∧ ¬ 3 ≤ now := ⟨fun heq => by rw [heq] at hlt; exact absurd hlt (by decide), by omega⟩
  rcases h with ⟨hne, hlt, hrun, rfl, rfl⟩ | ⟨hlt, hais, hndf, hrun, rfl, rfl⟩ | ⟨rfl, v, hv, rfl, rfl⟩ | ⟨rfl, hais, hnew, hinv, rfl, rfl⟩
  · refine ⟨?_, by decide, fun h => nomatch h⟩
    rw [PathSt.nextState, if_neg (hidle hlt).1, if_neg (hidle hlt).2, if_pos ⟨hrun, hne⟩]
  · refine ⟨?_, by decide, fun _ => rfl⟩
    rw [PathSt.nextState, if_neg (hidle hlt).1, if_neg (hidle hlt).2, if_neg (by omega), if_neg (by simp [hndf]), if_pos hrun]
  · refine ⟨?_, by decide, fun _ => rfl⟩
    rw [PathSt.nextState, if_neg (by decide), if_neg (by decide), if_neg (by simp), if_pos ⟨rfl, by rw [hv]; rfl⟩, hv]
  · refine ⟨?_, by decide, fun h => nomatch h⟩
    rw [PathSt.nextState, if_neg (by decide), if_neg (by decide), if_neg (by omega), if_neg (by simp [psNorm, psAis]), if_neg (by omega),
      if_pos ⟨by decide, .inl hinv⟩]

/-- Settles O29, by the events of a word and the moves that the runs lead to. -/
theorem pointerInterpreter : Obligations.PointerInterpreter := by
  unfold Obligations.PointerInterpreter
  refine ⟨?_, ?_⟩
  · intro p w a s k x top around waits hlive hhears hnorm hactive htop
    obtain ⟨e, he⟩ : ∃ e, classify false true (some a) x.since top w = e := ⟨_, rfl⟩
    obtain ⟨t, hexec, hkeep, hps, hpath⟩ := pointerWord_does hlive hhears hnorm hactive he
    have hvalues := s.dev.pointerTop_succ k
    have hq : (x.runs false true e).active = some a ∧ (x.runs false true e).pendInc = x.pendInc ∧ (x.runs false true e).pendDec = x.pendDec := ⟨hactive, rfl, rfl⟩
    have hwaits (b : Bool) : (if b && s.dev.realigned k then 1 else 0) = if b then waits else 0 := by cases b <;> rfl
    refine ⟨t, hexec, hkeep, hps, fun haround j hj => (hpath j).trans (s.dev.path_pointerEvent_other k _ e hj haround), fun h9 hv => ?_,
      fun h6 hv hsince => ?_, fun h6 hv hsince => ?_, fun h6 hv => ?_, fun hw => ?_⟩
    · rw [classify_ndf h9 hv] at he
      subst he
      rw [hpath]
      exact s.dev.path_pointerEvent_ndf k _ _ hnorm
    · rw [classify_inc h6 hv hsince] at he
      subst he
      obtain ⟨hact, hzero, hinc, hdec⟩ := s.dev.path_justify_same k (x.runs false true .inc) true rfl
      have hevent (j : Nat) : t.dev.path j = (s.dev.justify k (x.runs false true .inc) true).path j :=
        (hpath j).trans (s.dev.path_pointerEvent_justify k _ true rfl)
      rw [hevent]
      refine ⟨hact.trans ?_, hzero, hinc.trans ?_, hdec, fun hl haround j hj hparent hstate => ?_⟩
      · rw [hq.1, hvalues]
        rfl
      · rw [hq.2.1, hwaits]
        rfl
      · rw [hevent]
        exact s.dev.share_justify _ true hl haround hj hparent hstate
    · rw [classify_dec h6 hv hsince] at he
      subst he
      obtain ⟨hact, hzero, hinc, hdec⟩ := s.dev.path_justify_same k (x.runs false true .dec) false rfl
      have hevent (j : Nat) : t.dev.path j = (s.dev.justify k (x.runs false true .dec) false).path j :=
        (hpath j).trans (s.dev.path_pointerEvent_justify k _ false rfl)
      rw [hevent]
      refine ⟨hact.trans ?_, hzero, hdec.trans ?_, hinc, fun hl haround j hj hparent hstate => ?_⟩
      · rw [hq.1, hvalues]
        rfl
      · rw [hq.2.2, Bool.not_false, hwaits]
        rfl
      · rw [hevent]
        exact s.dev.share_justify _ false hl haround hj hparent hstate
    · rw [classify_eq h6 hv htop] at he
      subst he
      rw [hpath]
      refine ⟨(congrArg PathSt.active (Dev.path_setPath_same ..)).trans hactive, congrArg PathSt.since (Dev.path_setPath_same ..)⟩
    · subst hw
      rw [classify_ones] at he
      subst he
      rw [hpath]
      refine ⟨(congrArg PathSt.active (Dev.path_setPath_same ..)).trans hactive, congrArg PathSt.aisRun (Dev.path_setPath_same ..)⟩
  · intro p s k x around hlive hhead st value h
    obtain ⟨hnext, hst, hval⟩ := PathSt.nextState_eq h
    obtain ⟨hps, hactive, hchoose, hpend, hother⟩ := s.dev.pointerMove_own k (pointKey_lt p) hhead hst hval
    have hexec : exec (.pointerStateChange p) s = .next { s with dev := s.dev.pointerMove k st value } := by
      show execPointerStateChange p s = _
      rw [execPointerStateChange, Dev.when_eq hlive, hnext]
    exact ⟨_, hexec, hps, hactive, hchoose, hpend, hother, rfl, rfl⟩

end Sys2Proof.Machine

/-! The fabric pointer: justifications and chosen pointers, and the frame that carries them (R206 to R211, R220). -/

namespace Sys2Proof.Machine

set_option Elab.async false -- a proof at a time, within the memory of a check

/-- A frame equation for the points and the counts. -/
theorem Dev.Only.eq_counted {d e : Dev} (h : Dev.Only [.paths, .acc] d e) : e = { d with paths := e.paths, acc := e.acc } := by
  refine h Dev (fun x => { x with paths := e.paths, acc := e.acc }) fun y hy => ?_
  fin_cases hy <;> exact fun _ _ => rfl

/-! A justification owed to the fabric -/

/-- What a justification takes from what is owed. -/
def PathSt.repays (x : PathSt) (inc : Bool) : PathSt :=
  if inc then (if x.pendInc = 0 then { x with share := x.share - 87 } else { x with pendInc := x.pendInc - 1 })
  else if x.pendDec = 0 then { x with share := x.share + 87 } else { x with pendDec := x.pendDec - 1 }

theorem fabricJustification_does {p : Point} {u : FabricUnit} {s : State} (hu : s.dev.areaOf (pointKey p) = some u) {inc : Bool}
    (hdue : s.dev.justifyDue (pointKey p) inc = true) {y : PathSt}
    (hy : y = { (s.dev.path (pointKey p)).repays inc with due := some (s.dev.actionFrame u (s.dev.path (pointKey p)) true, if inc then .inc else .dec) }) :
    ∃ t, exec (.fabricJustification p inc) s = .next t ∧ t.dev.path (pointKey p) = y ∧ (∀ j, j ≠ pointKey p → t.dev.path j = s.dev.path j)
      ∧ t = { s with dev := { s.dev with paths := t.dev.paths, acc := t.dev.acc } } := by
  have hexec : exec (.fabricJustification p inc) s = .next { s with dev := (s.dev.setPath (pointKey p) y).countPath (pointKey p) 7 1 } := by
    show execFabricJustification p inc s = _
    rw [execFabricJustification, Dev.when_eq hdue, hu, hy]
    rfl
  have hpath (j : Nat) := (Dev.path_congr (Dev.only_countPath (s.dev.setPath (pointKey p) y) (pointKey p) 7 1).paths j).trans (Dev.path_setPath s.dev (pointKey p) j y)
  have honly : Dev.Only [.paths, .acc] s.dev ((s.dev.setPath (pointKey p) y).countPath (pointKey p) 7 1) :=
    ((s.dev.only_setPath _ _).mono (by decide)).step (Dev.only_countPath _ _ 7 1)
  refine ⟨_, hexec, (hpath _).trans (if_pos rfl), fun j hj => (hpath j).trans (if_neg hj), ?_⟩
  exact congrArg (fun x : Dev => { s with dev := x }) honly.eq_counted

/-! A chosen fabric pointer -/

theorem UnitKind.values_le (u : UnitKind) : u.values ≤ 783 := by cases u <;> decide

/-- What a fold that keeps its value or takes an element of the list leads to. -/
theorem List.foldl_least {l : List Nat} {f : Nat → Nat → Nat} (hf : ∀ a v, f a v = a ∨ f a v = v) {P : Nat → Prop} (hl : ∀ v ∈ l, P v) {a : Nat}
    (ha : P a) : P (l.foldl f a) :=
  List.foldlRecOn (motive := P) l f ha fun b hb v hv => by
    rcases hf b v with h | h
    · rw [h]
      exact hb
    · rw [h]
      exact hl v hv

theorem FabricUnit.firstPlace_lt (u : FabricUnit) (arrival : Nat) : u.firstPlace arrival < 1024 := by
  have hvalues := u.kind.values_le
  refine List.foldl_least (P := (· < 1024)) (fun a v => ?_) (fun v hv => ?_) (by decide)
  · dsimp only
    split
    · exact .inr rfl
    · exact .inl rfl
  · exact Nat.lt_of_lt_of_le (List.mem_range.mp hv) (by omega)

theorem newFabricPointer_does {p : Point} {u : FabricUnit} {s : State} (hu : s.dev.areaOf (pointKey p) = some u) (arrival : Fin 622080)
    (hchoose : (s.dev.path (pointKey p)).choose = true) (hnorm : s.dev.pstate (pointKey p) = psNorm) (hre : s.dev.realigned (pointKey p) = true) {y : PathSt}
    (hy : y = { s.dev.path (pointKey p) with
      choose := false, pendInc := 0, pendDec := 0, share := 0,
      due := some (s.dev.actionFrame u (s.dev.path (pointKey p)) false, .new (u.firstPlace arrival.val)) }) :
    ∃ t, exec (.newFabricPointer p arrival) s = .next t ∧ t.dev.get (stFptr (pointKey p)) = u.firstPlace arrival.val ∧ t.dev.path (pointKey p) = y
      ∧ Dev.WordsBut [statAddr (pointKey p)] s.dev t.dev ∧ (∀ j, j ≠ pointKey p → t.dev.path j = s.dev.path j) ∧ KeepsMemories s t := by
  have hdue : ((s.dev.path (pointKey p)).choose && s.dev.pstate (pointKey p) == psNorm && s.dev.realigned (pointKey p)) = true := by
    rw [hchoose, hnorm, hre]
    rfl
  obtain ⟨x, hx⟩ : ∃ x, x = (s.dev.setPath (pointKey p) y).put (stFptr (pointKey p)) (u.firstPlace arrival.val) := ⟨_, rfl⟩
  have hexec : ∃ z, Dev.Only [.acc, .inFill] x z ∧ exec (.newFabricPointer p arrival) s = .next { s with dev := z } := by
    obtain ⟨b, g, hg, hexec⟩ : ∃ (b : Bool) (g : Dev → Dev), (∀ e, Dev.Only [.inFill] e (g e))
        ∧ exec (.newFabricPointer p arrival) s = .next { s with dev := (x.countPath (pointKey p) 7 1).when b g } := by
      show ∃ (b : Bool) (g : Dev → Dev), _ ∧ execNewFabricPointer p arrival s = _
      rw [execNewFabricPointer, Dev.when_eq hdue, hu, hx, hy]
      exact ⟨_, _, fun e => .part .inFill (by decide) fun _ _ hp => hp e _, rfl⟩
    exact ⟨_, ((x.only_countPath _ 7 1).mono (by decide)).trans ((Dev.Only.whenStep b hg).mono (by decide)), hexec⟩
  obtain ⟨z, hz, hexec⟩ := hexec
  have hpath (j : Nat) : z.path j = if j = pointKey p then y else s.dev.path j :=
    (Dev.path_congr (hz.paths.trans (by rw [hx]; rfl)) j).trans (Dev.path_setPath s.dev (pointKey p) j y)
  refine ⟨_, hexec, ?_, (hpath _).trans (if_pos rfl), ?_, fun j hj => (hpath j).trans (if_neg hj), rfl, rfl⟩
  · rw [Dev.get_congr hz.words, hx, stFptr_eq, Dev.get_put_same _ _ _ (show 3 + 10 ≤ 32 by decide)]
    exact Nat.mod_eq_of_lt (u.firstPlace_lt arrival.val)
  · have hset : Dev.WordsBut [statAddr (pointKey p)] s.dev (s.dev.setPath (pointKey p) y) := (Dev.WordsBut.refl _ s.dev).of_words (s.dev.only_setPath _ _).words
    exact (hx ▸ hset.put (f := stFptr (pointKey p)) (by rw [stFptr_eq]; exact .head _) _).of_words hz.words

/-- Four words after the last pointer action. -/
theorem Dev.actionFrame_waits (d : Dev) (u : FabricUnit) {x : PathSt} {e : Nat} (hacted : x.acted = some e) (he : e ≤ d.timing.edges) :
    e + 4 * u.kind.wordFrames ≤ d.actionFrame u x true := by
  have hframes : u.kind.wordFrames ≤ 4 := by
    rw [UnitKind.wordFrames]
    split <;> decide
  unfold Dev.actionFrame
  extract_lets start need j0 ok
  cases hfind : (List.range 24).find? ok with
  | none =>
    rw [Option.getD_none]
    omega
  | some i =>
    have hok := List.find?_some hfind
    obtain ⟨-, hwait⟩ := Bool.and_eq_true_iff.mp hok
    rw [hacted] at hwait
    have hle : e + 4 * u.kind.wordFrames ≤ d.timing.edges + j0 + i := by simpa using hwait
    rwa [Option.getD_some]

/-! The frame that carries a justification -/

/-- The value in force after a word. -/
def Track.wordVal (k : UnitKind) (next : PtrAct) (v : Option Nat) : Option Nat :=
  match next with
  | .same => v
  | .inc => v.map (fun a => (a + 1) % k.values)
  | .dec => v.map (fun a => (a + k.values - 1) % k.values)
  | .new v => some v
  | .ais => none

/-- Whichever of two ways a slot goes. -/
theorem Track.either {t : Track} (c : Prop) [Decidable c] {a b : Track × SlotUse} (ha : a.1.next = t.next ∧ a.1.val = t.val)
    (hb : b.1.next = t.next ∧ b.1.val = t.val) : (if c then a else b).1.next = t.next ∧ (if c then a else b).1.val = t.val := by
  split
  · exact ha
  · exact hb

/-- A slot leaves the action, and changes the value with the pointer word's second byte alone. -/
theorem Track.slot_val (t : Track) (k : UnitKind) (r : SlotRole) :
    (t.slot k r).1.next = t.next ∧ (t.slot k r).1.val = if r = .h2 then Track.wordVal k t.next t.val else t.val := by
  cases r with
  | h1 => exact ⟨rfl, rfl⟩
  | fixed => exact ⟨rfl, rfl⟩
  | h2 =>
    rw [if_pos rfl, Track.slot]
    have hword : (t.word k).next = t.next ∧ (t.word k).val = Track.wordVal k t.next t.val := by
      rw [Track.word]
      cases t.next <;> exact ⟨rfl, rfl⟩
    split
    · exact hword
    · exact hword
  | h3 =>
    have hstep (x : Track) (hx : x.next = t.next ∧ x.val = t.val) :
        (if t.act = .dec then x.byte k else (x, .stuff)).1.next = t.next ∧ (if t.act = .dec then x.byte k else (x, .stuff)).1.val = t.val := by
      split <;> exact hx
    rw [Track.slot, if_neg (show ¬ SlotRole.h3 = .h2 by decide)]
    refine hstep _ ?_
    split <;> exact ⟨rfl, rfl⟩
  | vc =>
    rw [Track.slot, if_neg (show ¬ SlotRole.vc = .h2 by decide)]
    exact Track.either _ ⟨rfl, rfl⟩ ⟨rfl, rfl⟩

theorem Pour.slot_track (x : Pour) (k : UnitKind) (ones : Bool) (s : Nat) (r : SlotRole) : (x.slot k ones s r).track = (x.track.slot k r).1 := by
  unfold Pour.slot
  extract_lets t put
  have hput (b : Byte) : (put b).track = t.1 := rfl
  clear_value put
  repeat' split
  all_goals first | exact hput _ | rfl

/-- The value after the slots of a frame with one pointer word. -/
theorem Pour.foldl_val {k : UnitKind} {ones : Bool} : ∀ (l : List (Nat × SlotRole)) (x : Pour),
    (l.foldl (fun (a : Pour) i => a.slot k ones i.1 i.2) x).track.next = x.track.next
      ∧ (l.foldl (fun (a : Pour) i => a.slot k ones i.1 i.2) x).track.val
        = (Track.wordVal k x.track.next)^[(l.map Prod.snd).count .h2] x.track.val
  | [], _ => ⟨rfl, rfl⟩
  | i :: l, x => by
    obtain ⟨hnext, hval⟩ := Pour.foldl_val l (x.slot k ones i.1 i.2)
    obtain ⟨hsnext, hsval⟩ := x.track.slot_val k i.2
    rw [← x.slot_track k ones i.1 i.2] at hsnext hsval
    rw [hsnext] at hnext hval
    refine ⟨hnext, hval.trans ?_⟩
    rw [hsval, List.map_cons, List.count_cons]
    by_cases hr : i.2 = .h2
    · rw [if_pos hr, hr, beq_self_eq_true, if_pos rfl, Function.iterate_add_apply, Function.iterate_one]
    · rw [if_neg hr, if_neg (fun h => hr (eq_of_beq h)), Nat.add_zero]

/-- A container but a TU-12 or TU-11 has one pointer word in a frame. -/
theorem UnitKind.roles_word {k : UnitKind} (hk : k.isTu1x = false) (mf : Nat) : (k.roles mf).count .h2 = 1 := by
  have hvc (n : Nat) : (List.replicate n SlotRole.vc).count SlotRole.h2 = 0 := List.count_eq_zero.mpr fun h => nomatch (List.mem_replicate.mp h).2
  have haug {x : Nat} (hx : ((List.range (9 * x)).map (fun i => if i = 0 then SlotRole.h1 else if i = 3 * x then .h2 else if 6 * x ≤ i then .h3 else .fixed)).count SlotRole.h2 = 1) :
      (List.replicate (783 * x) SlotRole.vc ++ (List.range (9 * x)).map (fun i => if i = 0 then SlotRole.h1 else if i = 3 * x then .h2 else if 6 * x ≤ i then .h3 else .fixed)
        ++ List.replicate (1566 * x) SlotRole.vc).count SlotRole.h2 = 1 := by
    rw [List.count_append, List.count_append, hvc, hvc, hx]
  cases k with
  | tu12 => exact nomatch hk
  | tu11 => exact nomatch hk
  | tu3 =>
    rw [UnitKind.roles]
    simp only [List.count_append, List.count_cons, hvc]
    decide
  | au3 =>
    rw [UnitKind.roles]
    simp only [List.count_append, List.count_cons, hvc]
    decide
  | au4 => exact haug (x := UnitKind.au4.augs) (by decide +kernel)
  | au4c4 => exact haug (x := UnitKind.au4c4.augs) (by decide +kernel)
  | au4c16 => exact haug (x := UnitKind.au4c16.augs) (by decide +kernel)
  | au4c64 => exact haug (x := UnitKind.au4c64.augs) (by decide +kernel)

/-- The value after a frame of a container but a TU-12 or TU-11. -/
theorem FabricUnit.pour_val {u : FabricUnit} {mf : Nat} (hk : u.kind.isTu1x = false) (hlen : u.slots.length = (u.kind.roles mf).length) (ones : Bool) (t : Track)
    (queue : List (Bool × Byte)) : (u.pour mf ones t queue).track.val = Track.wordVal u.kind t.next t.val := by
  have hmap : (u.layout mf).map Prod.snd = u.kind.roles mf := List.map_snd_zip (Nat.le_of_eq hlen.symm)
  refine (Pour.foldl_val (u.layout mf) ⟨t, queue, []⟩).2.trans ?_
  rw [hmap, UnitKind.roles_word hk]
  rfl

section
variable (d : Dev) (q mf edge : Nat) (u : FabricUnit)

theorem Dev.only_ingressWrite (l : List (Nat × Byte)) : Dev.Only [.inFill] d (d.ingressWrite q l) := .part .inFill (by decide) fun _ _ hp => hp d _

/-- The rest of a frame that a container was given changes what waits of it alone. -/
theorem Dev.pourTail_does : Dev.Only [.paths, .inFill] d (d.pourTail q mf u)
    ∧ ∃ x, (d.pourTail q mf u).path (unitPoint q u) = { d.path (unitPoint q u) with tail := x } := by
  unfold Dev.pourTail
  extract_lets k
  cases htail : (d.path k).tail with
  | none => exact ⟨.refl _ d, (d.path k).tail, rfl⟩
  | some t =>
    refine ⟨((d.only_setPath _ _).mono (by decide)).step (Dev.only_ingressWrite _ _ _), none, ?_⟩
    exact (Dev.path_congr (Dev.only_ingressWrite _ _ _).paths _).trans (Dev.path_setPath_same ..)

/-- The frame of a justification moves the fabric pointer. -/
theorem Dev.pourUnit_justifies {e f : Nat} {inc : Bool} (hre : d.realigned (unitPoint q u) = true) (hnorm : d.pstate (unitPoint q u) = psNorm)
    (hown : d.ownFail (unitPoint q u) = false) (hk : u.kind.isTu1x = false) (hlen : u.slots.length = (u.kind.roles mf).length)
    (hval : (d.path (unitPoint q u)).track.val = some f) (hf : f < u.kind.values)
    (hdue : (d.path (unitPoint q u)).due = some (e, if inc then .inc else .dec)) (he : e ≤ edge) {v : Nat}
    (hv : v = if inc then (f + 1) % u.kind.values else (f + u.kind.values - 1) % u.kind.values) :
    ((d.pourUnit q mf edge u).path (unitPoint q u)).track.val = some v ∧ (d.pourUnit q mf edge u).get (stFptr (unitPoint q u)) = v
      ∧ ((d.pourUnit q mf edge u).path (unitPoint q u)).due = none ∧ ((d.pourUnit q mf edge u).path (unitPoint q u)).acted = some edge := by
  obtain ⟨honly, tail, hpath⟩ := d.pourTail_does q mf u
  obtain ⟨x, hx⟩ : ∃ x, x = d.pourTail q mf u := ⟨_, rfl⟩
  obtain ⟨k, hkey⟩ : ∃ k, k = unitPoint q u := ⟨_, rfl⟩
  rw [← hx] at honly hpath
  rw [← hkey] at hre hnorm hown hval hdue hpath ⊢
  have hrex : x.realigned k = true := (honly _ (fun y : Dev => y.realigned k) fun y hy => by fin_cases hy <;> exact fun _ _ => rfl).trans hre
  have hownx : x.ownFail k = false := (honly _ (fun y : Dev => y.ownFail k) fun y hy => by fin_cases hy <;> exact fun _ _ => rfl).trans hown
  have hnormx : x.pstate k = psNorm := (Dev.get_congr honly.words _).trans hnorm
  have hvalx : (x.path k).track.val = some f := by rw [hpath]; exact hval
  have hduex : (x.path k).due = some (e, if inc then .inc else .dec) := by rw [hpath]; exact hdue
  have hvlt : v < 1024 := by
    have hle := u.kind.values_le
    have hpos := u.kind.values_pos
    have hlt : v < u.kind.values := by
      rw [hv]
      split <;> exact Nat.mod_lt _ hpos
    omega
  have hne : some v ≠ some f := by
    intro heq
    have hvf := Option.some.inj heq
    have hmany : 104 ≤ u.kind.values := by cases u.kind <;> decide
    rw [hv] at hvf
    cases inc with
    | true =>
      rw [if_pos rfl] at hvf
      by_cases hlast : f + 1 = u.kind.values
      · rw [hlast, Nat.mod_self] at hvf
        omega
      · rw [Nat.mod_eq_of_lt (by omega)] at hvf
        omega
    | false =>
      rw [if_neg Bool.false_ne_true] at hvf
      by_cases hzero : f = 0
      · rw [hzero, Nat.zero_add, Nat.mod_eq_of_lt (by omega)] at hvf
        omega
      · rw [show f + u.kind.values - 1 = f - 1 + u.kind.values by omega, Nat.add_mod_right, Nat.mod_eq_of_lt (by omega)] at hvf
        omega
  have hpour (t : Track) (hnext : t.next = if inc then .inc else .dec) (htval : t.val = some f) (ones : Bool) (queue : List (Bool × Byte)) :
      (u.pour mf ones t queue).track.val = some v := by
    rw [FabricUnit.pour_val hk hlen, hnext, htval, hv]
    cases inc <;> rfl
  have hgo : (!(x.realigned k && x.pstate k == psNorm && !x.ownFail k)) = false := by rw [hrex, hnormx, hownx]; rfl
  have hend : ∃ (y : PathSt) (l : List (Nat × Byte)), y.track.val = some v ∧ y.due = none ∧ y.acted = some edge
      ∧ d.pourUnit q mf edge u = ((x.setPath k y).put (stFptr k) v).ingressWrite q l := by
    unfold Dev.pourUnit
    rw [← hx, ← hkey]
    extract_lets d' k' p starts due now t0 y d1 d2
    rw [if_neg (by rw [hgo]; exact Bool.false_ne_true)]
    have hstarts : starts = true := by
      unfold starts
      rw [hk]
      rfl
    have hdue0 : due = some (e, if inc then .inc else .dec) := by
      unfold due p
      rw [hduex, hstarts, Option.filter_some, decide_eq_true he]
      rfl
    have hy : y.track.val = some v := by
      refine hpour t0 ?_ ?_ _ _
      · unfold t0
        rw [if_pos hstarts, hdue0]
      · unfold t0
        rw [if_pos hstarts]
        exact hvalx
    have hdiff : (y.track.val != p.track.val) = true := by
      rw [hy, show p.track.val = some f from hvalx]
      exact bne_iff_ne.mpr hne
    have hd2 : d2 = d1.put (stFptr k) v := by
      unfold d2
      rw [hdiff, hy]
      rfl
    have hsome : due.isSome = true := by
      rw [hdue0]
      rfl
    rw [hd2]
    refine ⟨_, y.out, ?_, ?_, ?_, rfl⟩
    · exact hy
    · exact if_pos hsome
    · exact if_pos hsome
  obtain ⟨y, l, hyval, hydue, hyacted, hend⟩ := hend
  have hlast : (d.pourUnit q mf edge u).path k = y := by
    rw [hend]
    exact (Dev.path_congr (Dev.only_ingressWrite _ _ _).paths k).trans (Dev.path_setPath_same ..)
  rw [hlast]
  refine ⟨hyval, ?_, hydue, hyacted⟩
  rw [hend, Dev.get_congr (Dev.only_ingressWrite _ _ _).words, stFptr_eq, Dev.get_put_same _ _ _ (show 3 + 10 ≤ 32 by decide)]
  exact Nat.mod_eq_of_lt hvlt

end

end Sys2Proof.Machine

/-! The configuration of a point and the restart of a position (R206, R234, R236). -/

namespace Sys2Proof.Machine

set_option Elab.async false -- a proof at a time, within the memory of a check

/-! What starting and stopping a point leaves -/

theorem statAddr_ne {k j : Nat} (hk : k < 534528) (hj : j < 534528) (h : k ≠ j) : statAddr k ≠ statAddr j := by
  rcases statAddr_range hk with ⟨hk', hka, -, -⟩ | ⟨hk', hka, -⟩ <;> rcases statAddr_range hj with ⟨hj', hja, -, -⟩ | ⟨hj', hja, -⟩ <;> omega

/-- The second word of a higher-order point is no status word of a point. -/
theorem statAddr_second_ne {k j : Nat} (hk : k < 18432) (hj : j < 534528) : statAddr j ≠ statAddr k + 4 := by
  rcases statAddr_range (Nat.lt_trans hk (by decide) : k < 534528) with ⟨-, hka, hlt, hmod⟩ | ⟨hk', -, -⟩
  · rcases statAddr_range hj with ⟨-, hja, -, hmod'⟩ | ⟨-, hja, -⟩ <;> omega
  · omega

section
variable (d : Dev)

/-- The configuration words of every point stay. -/
def Dev.ConfigKept (d e : Dev) : Prop := ∀ j, (e.path j).cfg = (d.path j).cfg ∧ (e.path j).trc = (d.path j).trc

theorem Dev.ConfigKept.of_paths {d e x : Dev} (h : d.ConfigKept e) (hx : x.paths = e.paths) : d.ConfigKept x := fun j => by
  rw [Dev.path_congr hx j]
  exact h j

theorem Dev.ConfigKept.trans {d e x : Dev} (h : d.ConfigKept e) (h' : e.ConfigKept x) : d.ConfigKept x := fun j =>
  ⟨(h' j).1.trans (h j).1, (h' j).2.trans (h j).2⟩

/-- A point whose interpreter restarts or stops keeps its configuration. -/
def PathSt.emptied (p : PathSt) : PathSt := { cfg := p.cfg, trc := p.trc }

theorem Dev.path_restartPoint (k : Nat) (member : Bool) (j : Nat) : (d.restartPoint k member).path j = if j = k then (d.path k).emptied else d.path j := by
  have hwords : Dev.Only [.words] (d.setPath k (d.path k).emptied) (d.restartPoint k member) :=
    (Dev.only_setWord _ _ _).trans (.whenStep _ fun e => (e.only_put _ _).step (Dev.only_put _ _ _))
  rw [Dev.path_congr hwords.paths j, Dev.path_setPath]

theorem Dev.path_idlePoint (k j : Nat) : (d.idlePoint k).path j = if j = k then (d.path k).emptied else d.path j := by
  have hwords : Dev.Only [.words] (d.setPath k (d.path k).emptied) (d.idlePoint k) :=
    (Dev.only_setWord _ _ _).trans (.whenStep _ fun e => (e.only_put _ _).step (Dev.only_put _ _ _))
  rw [Dev.path_congr hwords.paths j, Dev.path_setPath]

/-- What follows of the point's state. -/
theorem Dev.path_settled (e : Dev) (k : Nat) (old : List Bool) (j : Nat) : ((e.pathSummary k old).markOnes k).path j = e.path j :=
  (Dev.path_congr (Dev.only_markOnes _ k).paths j).trans (Dev.path_congr (e.only_pathSummary k old).paths j)

/-- A point that is settled: it stays, stops, or restarts. -/
theorem Dev.settlePoint_cases (force : Bool) (k : Nat) : d.settlePoint force k = d ∨ d.settlePoint force k = d.markOnes k
    ∨ d.settlePoint force k = ((d.idlePoint k).pathSummary k (d.pathDefects k)).markOnes k
    ∨ ∃ m, d.settlePoint force k = ((d.restartPoint k m).pathSummary k (d.pathDefects k)).markOnes k := by
  unfold Dev.settlePoint
  extract_lets st old
  split
  · split
    · exact .inr (.inl rfl)
    · exact .inr (.inr (.inl rfl))
  · next m _ =>
    split
    · exact .inr (.inr (.inr ⟨m, rfl⟩))
    · exact .inl rfl

theorem Dev.path_settlePoint (force : Bool) (k j : Nat) : (d.settlePoint force k).path j = d.path j
    ∨ j = k ∧ (d.settlePoint force k).path j = (d.path k).emptied := by
  have hcases {x : PathSt} (h : x = if j = k then (d.path k).emptied else d.path j) : x = d.path j ∨ j = k ∧ x = (d.path k).emptied := by
    split at h
    case isTrue hj => exact .inr ⟨hj, h⟩
    case isFalse => exact .inl h
  rcases d.settlePoint_cases force k with h | h | h | ⟨m, h⟩
  · exact .inl (by rw [h])
  · exact .inl (by rw [h, Dev.path_congr (d.only_markOnes k).paths j])
  · rw [h, Dev.path_settled]
    exact hcases (d.path_idlePoint k j)
  · rw [h, Dev.path_settled]
    exact hcases (d.path_restartPoint k m j)

theorem Dev.configKept_settlePoint (force : Bool) (k : Nat) : d.ConfigKept (d.settlePoint force k) := fun j => by
  rcases d.path_settlePoint force k j with h | ⟨rfl, h⟩
  · rw [h]
    exact ⟨rfl, rfl⟩
  · rw [h]
    exact ⟨rfl, rfl⟩

/-- A field of another point's status that shows no defect. -/
theorem Dev.Reads.settlePoint {f : Field} {d e : Dev} (h : Dev.Reads f d e) (hf : f.IsStatKept) {k : Nat}
    (hoff : f.off ≠ statAddr k ∧ (k < 18432 → f.off ≠ statAddr k + 4)) (force : Bool) : Dev.Reads f d (e.settlePoint force k) := by
  have hword (x : Dev) (hx : Dev.Reads f d x) (w : W32) : Dev.Reads f d (x.setWord (statAddr k) w) :=
    Eq.trans (by rw [Dev.get, x.word_setWord_other w hoff.1, Dev.get]) hx
  have hsecond (x : Dev) (hx : Dev.Reads f d x) : Dev.Reads f d (x.when (isHo k) (fun y => (y.put (stC2 k) 0).put (stMfi k) 0)) := by
    cases hho : isHo k with
    | false => exact hx
    | true =>
      have hne := hoff.2 (of_decide_eq_true hho)
      exact (hx.put (g := stC2 k) (.inl hne) 0).put (g := stMfi k) (.inl hne) 0
  have hend (x : Dev) (hx : Dev.Reads f d x) (old : List Bool) : Dev.Reads f d ((x.pathSummary k old).markOnes k) :=
    (hx.pathSummary (Nat.lt_trans hf.high (by decide)) k old).of_only (Dev.only_markOnes _ k)
  rcases e.settlePoint_cases force k with hs | hs | hs | ⟨m, hs⟩
  · rw [hs]
    exact h
  · rw [hs]
    exact h.of_only (Dev.only_markOnes _ k)
  · rw [hs]
    exact hend _ (hsecond _ (hword _ (h.of_only (Dev.only_setPath _ _ _)) _)) _
  · rw [hs]
    exact hend _ (hsecond _ (hword _ (h.of_only (Dev.only_setPath _ _ _)) _)) _

theorem Dev.Reads.showCfgErr {f : Field} {d e : Dev} (h : Dev.Reads f d e) {i : Nat} (hoff : ∀ b, b < 3 → f.off ≠ statAddr (3 * i + b) + 4) :
    Dev.Reads f d (e.showCfgErr i) :=
  h.foldl fun _ b hb hx => hx.when _ fun _ hy => hy.put (g := stCfgErr (3 * i + b)) (.inl (hoff b (List.mem_range.mp hb))) _

/-! A point's configuration -/

/-- The configuration words of a point take effect whole. -/
theorem Dev.takeConfig_does (k : Nat) : ((d.takeConfig k).path k).cfg = d.word (cfgAddr k) ∧ ((d.takeConfig k).path k).trc = d.word (cfgAddr k + 4) := by
  unfold Dev.takeConfig
  extract_lets p mode d1 d2 d3
  have h1 : (d1.path k).cfg = d.word (cfgAddr k) ∧ (d1.path k).trc = d.word (cfgAddr k + 4) := by
    rw [show d1.path k = _ from Dev.path_setPath_same ..]
    exact ⟨rfl, rfl⟩
  have h2 : d1.ConfigKept d2 := by
    refine Dev.when_of (P := fun e : Dev => d1.ConfigKept e) _ (fun _ => ⟨rfl, rfl⟩) ?_
    refine Dev.ConfigKept.of_paths (e := d1.setPath k { d1.path k with accepted := [], mismatch := false, trace := {} }) (fun j => ?_) (Dev.only_lower _ _).paths
    rw [Dev.path_setPath]
    split
    case isTrue h => subst h; exact ⟨rfl, rfl⟩
    case isFalse => exact ⟨rfl, rfl⟩
  have h3 : d1.ConfigKept d3 :=
    Dev.when_keeps (h2.trans (d2.configKept_settlePoint false k)) fun e he => he.of_paths (e.only_showCfgErr _).paths
  have h4 : d1.ConfigKept ((d3.membersOf k).foldl (fun e m => e.settlePoint false m) d3) :=
    List.foldlRecOn (motive := d1.ConfigKept) _ _ h3 fun e he m _ => he.trans (e.configKept_settlePoint false m)
  have h5 := (h4.of_paths (Dev.only_pathUpdate _ k).paths).of_paths (Dev.only_protSee _).paths
  exact ⟨(h5 k).1.trans h1.1, (h5 k).2.trans h1.2⟩

end

/-! The restart of a position -/

/-- What decides which interpreters run. -/
structure Dev.PlanKept (d e : Dev) : Prop where
  structs : e.structs = d.structs
  restarts : e.restarts = d.restarts
  lanes : e.lanes = d.lanes
  tuCfg : d.RegKept Reg.laneTuCfg e
  config : d.ConfigKept e

namespace Dev.PlanKept

variable {d e : Dev}

theorem refl (d : Dev) : d.PlanKept d := ⟨rfl, rfl, rfl, .refl _ d, fun _ => ⟨rfl, rfl⟩⟩

theorem trans {x : Dev} (h : d.PlanKept e) (h' : e.PlanKept x) : d.PlanKept x :=
  ⟨h'.structs.trans h.structs, h'.restarts.trans h.restarts, h'.lanes.trans h.lanes, fun q => (h'.tuCfg q).trans (h.tuCfg q), h.config.trans h'.config⟩

theorem foldl {α : Type} {l : List α} {g : Dev → α → Dev} (h : d.PlanKept e) (hg : ∀ (x : Dev) a, a ∈ l → x.PlanKept (g x a)) : d.PlanKept (l.foldl g e) :=
  List.foldlRecOn (motive := d.PlanKept) l g h fun x hx a ha => PlanKept.trans hx (hg x a ha)

theorem naug (h : d.PlanKept e) (n : Nat) : e.naug n = d.naug n := by
  have hlane : e.lane n = d.lane n := by rw [Dev.lane, h.lanes, Dev.lane]
  rw [Dev.naug, Dev.naug, Dev.augs, Dev.augs, hlane, h.tuCfg.get (f := F.laneTuCfgAugs) rfl n]

theorem structWords (h : d.PlanKept e) {n : Nat} (hn : n < 96) : e.structWords n = d.structWords n := by
  unfold Dev.structWords
  rw [h.naug n]
  refine List.map_congr_left fun g _ => ?_
  rw [if_pos hn, if_pos hn, Dev.structNow, h.structs, Dev.structNow]

/-- The interpreter of a point. -/
theorem interpreterOf (h : d.PlanKept e) {k : Nat} (hk : laneOf k < 96) : e.interpreterOf k = d.interpreterOf k := by
  have hmon (j : Nat) : e.monEn j = d.monEn j := by rw [Dev.monEn, Dev.pathBit, (h.config j).1, Dev.monEn, Dev.pathBit]
  unfold Dev.interpreterOf
  simp only [h.naug, h.structWords hk, hmon]

end Dev.PlanKept

section
variable (d : Dev)

theorem Dev.RegKept.pathSummary {o : Nat} {d e : Dev} (h : d.RegKept o e) (ho : o < 0x1_0000 ∧ o ∉ alignmentRegs)
    (hps : o ≠ Reg.lanePsHodef0 ∧ o ≠ Reg.lanePsHodef1 ∧ o ≠ Reg.lanePsEvt ∧ o ≠ Reg.lanePsSum) (k : Nat) (old : List Bool) :
    d.RegKept o (e.pathSummary k old) := by
  obtain ⟨hdef0, hdef1, hevt, hsum⟩ := hps
  unfold Dev.pathSummary
  extract_lets n g new was is b any x bits c d1 path
  split
  · exact h
  · have h1 : d.RegKept o d1 := by
      unfold d1
      split
      · have hbit : d.RegKept o (e.put b (bitOf any)) := by
          refine h.setReg (r := if g < 32 then Reg.lanePsHodef0 else Reg.lanePsHodef1) ?_ n _
          split
          · exact ⟨ho.1, by decide, hdef0⟩
          · exact ⟨ho.1, by decide, hdef1⟩
        exact (hbit.put (f := F.lanePsEvtHoChg) ⟨ho.1, by decide, hevt⟩ n 1).put (f := F.lanePsSumHoDef) ⟨ho.1, by decide, hsum⟩ n _
      · exact (h.put (f := F.lanePsSumLoDef) ⟨ho.1, by decide, hsum⟩ n _).put (f := F.lanePsEvtLoChg) ⟨ho.1, by decide, hevt⟩ n 1
    exact ((h1.setDefect ho n defPath path).of_only (Dev.only_markPath _ k)).of_only (Dev.only_protSee _)

/-- A point's status word lies below the lanes' pages. -/
theorem Dev.RegKept.setStat {o : Nat} {d e : Dev} (h : d.RegKept o e) {k : Nat} (hk : k < 534528) (w : W32) : d.RegKept o (e.setWord (statAddr k) w) := fun q => by
  have hlt : statAddr k < 0x1d00_0000 := by
    rcases statAddr_range hk with ⟨-, -, hlt, -⟩ | ⟨-, -, hlt⟩ <;> omega
  exact (e.word_setWord_other w (by unfold laneAddr; omega)).trans (h q)

theorem Dev.RegKept.putSecond {o : Nat} {d e : Dev} (h : d.RegKept o e) {k : Nat} (hk : k < 18432) {f : Field} (hf : f.off = statAddr k + 4) (v : Nat) :
    d.RegKept o (e.put f v) := by
  refine h.putUnit ?_ v
  rcases statAddr_range (Nat.lt_trans hk (by decide) : k < 534528) with ⟨-, -, hlt, -⟩ | ⟨hk', -, -⟩
  · rw [hf]
    unfold laneAddr
    omega
  · omega

theorem Dev.planKept_settlePoint (force : Bool) {k : Nat} (hk : k < 534528) : d.PlanKept (d.settlePoint force k) := by
  have honly := d.only_settlePoint force k
  refine ⟨honly _ Dev.structs fun y hy => ?_, honly _ Dev.restarts fun y hy => ?_, honly.lanes, ?_, d.configKept_settlePoint force k⟩
  · fin_cases hy <;> exact fun _ _ => rfl
  · fin_cases hy <;> exact fun _ _ => rfl
  · have hsecond (x : Dev) (hx : d.RegKept Reg.laneTuCfg x) : d.RegKept Reg.laneTuCfg (x.when (isHo k) (fun y => (y.put (stC2 k) 0).put (stMfi k) 0)) := by
      cases hho : isHo k with
      | false => exact hx
      | true => exact (hx.putSecond (of_decide_eq_true hho) rfl 0).putSecond (of_decide_eq_true hho) rfl 0
    have hend (x : Dev) (hx : d.RegKept Reg.laneTuCfg x) (old : List Bool) : d.RegKept Reg.laneTuCfg ((x.pathSummary k old).markOnes k) :=
      (hx.pathSummary (by decide) (by decide) k old).of_only (Dev.only_markOnes _ k)
    have h0 : d.RegKept Reg.laneTuCfg d := .refl _ d
    rcases d.settlePoint_cases force k with h | h | h | ⟨m, h⟩
    · rw [h]
      exact h0
    · rw [h]
      exact h0.of_only (Dev.only_markOnes _ k)
    · rw [h]
      exact hend _ (hsecond _ ((h0.of_only (Dev.only_setPath _ _ _)).setStat hk _)) _
    · rw [h]
      exact hend _ (hsecond _ ((h0.of_only (Dev.only_setPath _ _ _)).setStat hk _)) _

theorem Dev.planKept_showCfgErr {i : Nat} (hi : i < 6144) : d.PlanKept (d.showCfgErr i) := by
  have honly := d.only_showCfgErr i
  refine ⟨honly _ Dev.structs fun y hy => ?_, honly _ Dev.restarts fun y hy => ?_, honly.lanes, ?_, fun j => ?_⟩
  · fin_cases hy; exact fun _ _ => rfl
  · fin_cases hy; exact fun _ _ => rfl
  · refine List.foldlRecOn (motive := d.RegKept Reg.laneTuCfg) _ _ (.refl _ d) fun x hx b hb => ?_
    have hb3 : b < 3 := List.mem_range.mp hb
    exact Dev.when_keeps hx fun y hy => hy.putSecond (k := 3 * i + b) (by omega) rfl _
  · rw [Dev.path_congr honly.paths j]
    exact ⟨rfl, rfl⟩

/-- The interpreter of a point has restarted: no active value, in LOP. -/
def Dev.Restarted (k : Nat) (e : Dev) : Prop := e.pstate k = psLop ∧ (e.path k).active = none

theorem Dev.restarted_settlePoint {k : Nat} (hk : k < 18432) (hi : d.interpreterOf k = some false) : Dev.Restarted k (d.settlePoint true k) := by
  have hk' : k < 534528 := Nat.lt_trans hk (by decide)
  have hsettle : d.settlePoint true k = ((d.restartPoint k false).pathSummary k (d.pathDefects k)).markOnes k := by
    rw [Dev.settlePoint, hi]
    exact if_pos (.inl rfl)
  rw [hsettle]
  have hkept := Field.isStatKept_pstate hk'
  refine ⟨?_, ?_⟩
  · refine Eq.trans (((Dev.Reads.refl (stPstate k) (d.restartPoint k false)).pathSummary (Nat.lt_trans hkept.high (by decide)) k (d.pathDefects k)).of_only
      (Dev.only_markOnes _ k)) ?_
    have hne : (stPstate k).off ≠ statAddr k + 4 := by
      rw [stPstate_eq]
      exact statAddr_second_ne hk hk'
    have hsecond (x : Dev) : Dev.Reads (stPstate k) x (x.when (isHo k) (fun y => (y.put (stC2 k) 0).put (stMfi k) 0)) :=
      (Dev.Reads.refl _ x).when _ fun y hy => (hy.put (g := stC2 k) (.inl hne) 0).put (g := stMfi k) (.inl hne) 0
    refine Eq.trans (hsecond _) ?_
    rw [stPstate_eq, Dev.get, Dev.word_setWord_same]
    show getF (putF 0 0 3 psLop) 0 3 = psLop
    decide
  · rw [Dev.path_settled, Dev.path_restartPoint, if_pos rfl]
    rfl

theorem Dev.Restarted.settlePoint {d : Dev} {k j : Nat} (h : Dev.Restarted k d) (hk : k < 534528) (hj : j < 534528) (hne : k ≠ j) (force : Bool) :
    Dev.Restarted k (d.settlePoint force j) := by
  refine ⟨Eq.trans ((Dev.Reads.refl (stPstate k) d).settlePoint (Field.isStatKept_pstate hk) ⟨?_, fun hj' => ?_⟩ force) h.1, ?_⟩
  · rw [stPstate_eq]
    exact statAddr_ne hk hj hne
  · rw [stPstate_eq]
    exact statAddr_second_ne hj' hk
  · rcases d.path_settlePoint force j k with hp | ⟨heq, -⟩
    · rw [hp]
      exact h.2
    · exact absurd heq hne

theorem Dev.Restarted.showCfgErr {d : Dev} {k i : Nat} (h : Dev.Restarted k d) (hk : k < 534528) (hi : i < 6144) : Dev.Restarted k (d.showCfgErr i) := by
  refine ⟨Eq.trans ((Dev.Reads.refl (stPstate k) d).showCfgErr fun b hb => ?_) h.1, ?_⟩
  · rw [stPstate_eq]
    exact statAddr_second_ne (by omega) hk
  · rw [Dev.path_congr (d.only_showCfgErr i).paths k]
    exact h.2

/-- What one step of a fold sets under an invariant, and the other steps keep, holds at its end. -/
theorem List.foldl_sets_under {α β : Type} {I P : β → Prop} {g : β → α → β} {l : List α} {a : α} (ha : a ∈ l) (hset : ∀ x, I x → P (g x a))
    (hinv : ∀ x b, b ∈ l → I x → I (g x b)) (hkeep : ∀ x b, b ∈ l → I x → P x → P (g x b)) {x : β} (hx : I x) : P (l.foldl g x) := by
  obtain ⟨l₁, l₂, rfl⟩ := List.append_of_mem ha
  rw [List.foldl_append, List.foldl_cons]
  have h1 : I (l₁.foldl g x) := List.foldlRecOn (motive := I) l₁ g hx fun y hy b hb => hinv y b (List.mem_append_left _ hb) hy
  exact (List.foldlRecOn (motive := fun y => I y ∧ P y) l₂ g ⟨hinv _ a ha h1, hset _ h1⟩ fun y hy b hb =>
    ⟨hinv y b (List.mem_append_right _ (.tail _ hb)) hy.1, hkeep y b (List.mem_append_right _ (.tail _ hb)) hy.1 hy.2⟩).2

/-- The device of a restart, once the structure word is taken up. -/
def Dev.restartTaken (d : Dev) (h : Nat) : Dev :=
  { d with restarts := d.restarts.filter (fun x => x != h), structs := Store.set (fun _ => 0) d.structs h (d.word (0x1C00_0018 + 64 * h)) }

/-- The restart of a position whose first point has an interpreter of its own. -/
theorem Dev.restartAt_does {h : Nat} (hh : h < 6144) (hi : (d.restartTaken h).interpreterOf (3 * h) = some false) :
    (d.restartTaken h).PlanKept (d.restartAt h) ∧ Dev.Restarted (3 * h) (d.restartAt h) := by
  obtain ⟨n, hn⟩ : ∃ n, n = h / 64 := ⟨_, rfl⟩
  obtain ⟨e, he⟩ : ∃ e, e = d.restartTaken h := ⟨_, rfl⟩
  obtain ⟨x, hx⟩ : ∃ x, x = (List.range 64).foldl (fun e g =>
      (List.range 3).foldl (fun x b => x.settlePoint (64 * n + g == h) (3 * (64 * n + g) + b)) (e.showCfgErr (64 * n + g))) e := ⟨_, rfl⟩
  have hall : d.restartAt h = (List.range 84).foldl (fun e l => e.settlePoint true (loKey h l)) x := by
    rw [hx, he, hn]
    rfl
  have hn96 : n < 96 := by omega
  have hlane : laneOf (3 * h) < 96 := by
    unfold laneOf hoOf
    rw [if_pos (by omega)]
    omega
  rw [← he] at hi ⊢
  have hpoint {g b : Nat} (hg : g ∈ List.range 64) (hb : b ∈ List.range 3) : 3 * (64 * n + g) + b < 18432 := by
    have hg64 := List.mem_range.mp hg
    have hb3 := List.mem_range.mp hb
    omega
  have hpos {g : Nat} (hg : g ∈ List.range 64) : 64 * n + g < 6144 := by
    have hg64 := List.mem_range.mp hg
    omega
  have hlow {l : Nat} (hl : l ∈ List.range 84) : 18432 ≤ loKey h l ∧ loKey h l < 534528 := by
    have hl84 := List.mem_range.mp hl
    unfold loKey
    omega
  have hrow (y : Dev) (g : Nat) (hg : g ∈ List.range 64) : y.PlanKept ((List.range 3).foldl (fun x b => x.settlePoint (64 * n + g == h) (3 * (64 * n + g) + b))
      (y.showCfgErr (64 * n + g))) :=
    (y.planKept_showCfgErr (hpos hg)).foldl fun z b hb => z.planKept_settlePoint _ (Nat.lt_trans (hpoint hg hb) (by decide))
  have hplanx : e.PlanKept x := hx ▸ (Dev.PlanKept.refl e).foldl fun y g hg => hrow y g hg
  refine ⟨hall ▸ hplanx.foldl fun y l hl => y.planKept_settlePoint true (hlow hl).2, ?_⟩
  have hself : 3 * h < 534528 := by omega
  have hrestarted : Dev.Restarted (3 * h) x := by
    rw [hx]
    refine List.foldl_sets_under (I := fun y : Dev => e.PlanKept y) (P := Dev.Restarted (3 * h)) (a := h % 64) (List.mem_range.mpr (Nat.mod_lt _ (by decide)))
      (fun y hy => ?_) (fun y g hg hy => hy.trans (hrow y g hg)) (fun y g hg hy hr => ?_) (Dev.PlanKept.refl e)
    · have hg : h % 64 ∈ List.range 64 := List.mem_range.mpr (Nat.mod_lt _ (by decide))
      have hat : 64 * n + h % 64 = h := by omega
      refine List.foldl_sets_under (I := fun z : Dev => e.PlanKept z) (P := Dev.Restarted (3 * h)) (a := 0) (by decide) (fun z hz => ?_)
        (fun z b hb hz => hz.trans (z.planKept_settlePoint _ (Nat.lt_trans (hpoint hg hb) (by decide)))) (fun z b hb hz hr => ?_)
        (hy.trans (y.planKept_showCfgErr (hpos hg)))
      · rw [hat, beq_self_eq_true]
        exact z.restarted_settlePoint (by omega) ((hz.interpreterOf hlane).trans hi)
      · rw [hat, beq_self_eq_true]
        by_cases hb0 : b = 0
        · subst hb0
          exact z.restarted_settlePoint (by omega) ((hz.interpreterOf hlane).trans hi)
        · have hb3 := List.mem_range.mp hb
          exact hr.settlePoint hself (by omega) (by omega) true
    · by_cases hat : 64 * n + g = h
      · refine List.foldl_sets_under (I := fun z : Dev => e.PlanKept z) (P := Dev.Restarted (3 * h)) (a := 0) (by decide) (fun z hz => ?_)
          (fun z b hb hz => hz.trans (z.planKept_settlePoint _ (Nat.lt_trans (hpoint hg hb) (by decide)))) (fun z b hb hz hr => ?_)
          (hy.trans (y.planKept_showCfgErr (hpos hg)))
        · rw [hat, beq_self_eq_true]
          exact z.restarted_settlePoint (by omega) ((hz.interpreterOf hlane).trans hi)
        · by_cases hb0 : b = 0
          · subst hb0
            rw [hat, beq_self_eq_true]
            exact z.restarted_settlePoint (by omega) ((hz.interpreterOf hlane).trans hi)
          · have hb3 := List.mem_range.mp hb
            exact hr.settlePoint hself (by omega) (by omega) _
      · refine List.foldlRecOn (motive := Dev.Restarted (3 * h)) _ _ (hr.showCfgErr hself (hpos hg)) fun z hz b hb => ?_
        have hb3 := List.mem_range.mp hb
        exact hz.settlePoint hself (Nat.lt_trans (hpoint hg hb) (by decide)) (by omega) _
  rw [hall]
  refine List.foldlRecOn (motive := Dev.Restarted (3 * h)) _ _ hrestarted fun y hy l hl => ?_
  exact hy.settlePoint hself (hlow hl).2 (by have := (hlow hl).1; omega) true

end

/-- The restart of a position at a frame boundary. -/
theorem interpreterRestart_does {h : HoPoint} {s : State} (hedge : s.dev.atEdge = true) (hmem : h.val ∈ s.dev.restarts)
    (hi : (s.dev.restartTaken h).interpreterOf (3 * h.val) = some false) :
    ∃ t, exec (.interpreterRestart h) s = .next t ∧ t.dev.restarts = (s.dev.restartTaken h).restarts ∧ t.dev.structs = (s.dev.restartTaken h).structs
      ∧ t.dev.pstate (3 * h.val) = psLop ∧ (t.dev.path (3 * h.val)).active = none
      ∧ (t.dev.path (3 * h.val)).cfg = (s.dev.path (3 * h.val)).cfg ∧ KeepsMemories s t := by
  obtain ⟨hplan, hps, hactive⟩ := s.dev.restartAt_does h.isLt hi
  have hdue : (s.dev.atEdge && s.dev.restarts.contains h.val) = true := by
    rw [hedge, List.contains_iff_mem.mpr hmem]
    rfl
  have hexec : exec (.interpreterRestart h) s = .next { s with dev := s.dev.restartAt h.val } := by
    show execInterpreterRestart h s = _
    rw [execInterpreterRestart, Dev.when_eq hdue]
  exact ⟨_, hexec, hplan.restarts, hplan.structs, hps, hactive, (hplan.config _).1, rfl, rfl⟩

theorem interpreterRestart_none {h : HoPoint} {s : State} (hno : s.dev.atEdge = false ∨ h.val ∉ s.dev.restarts) : exec (.interpreterRestart h) s = .next s := by
  have hidle : (s.dev.atEdge && s.dev.restarts.contains h.val) = false := by
    rcases hno with hno | hno
    · rw [hno, Bool.false_and]
    · rw [Bool.eq_false_iff.mpr fun hc => hno (List.contains_iff_mem.mp hc), Bool.and_false]
  show execInterpreterRestart h s = _
  rw [execInterpreterRestart, hidle]
  rfl

/-- Settles O30, by the actions of the fabric pointer, the frame that carries them, and the configuration of the points. -/
theorem fabricPointerAndPathConfig : Obligations.FabricPointerAndPathConfig := by
  unfold Obligations.FabricPointerAndPathConfig
  refine ⟨fun p u s => ?_, fun q mf edge e f inc u d => ?_, fun p s => ?_, fun h s => ?_⟩
  · intro k x hu
    refine ⟨fun inc hdue => ?_, fun arrival hchoose hnorm hre => ?_, fun e hacted he => s.dev.actionFrame_waits u hacted he⟩
    · obtain ⟨t, hexec, hpath, hother, hframe⟩ := fabricJustification_does hu hdue rfl
      have hkept : (x.repays inc).choose = x.choose ∧ (x.repays inc).active = x.active := by
        unfold PathSt.repays
        repeat' split
        all_goals exact ⟨rfl, rfl⟩
      refine ⟨t, hexec, by rw [hpath], by rw [hpath]; exact hkept.1, by rw [hpath]; exact hkept.2, fun hinc hne => ?_, fun hinc hz => ?_, fun hinc hne => ?_,
        fun hinc hz => ?_, hother, hframe⟩
      · rw [hpath, hinc, PathSt.repays, if_pos rfl, if_neg hne]
        exact ⟨rfl, rfl⟩
      · rw [hpath, hinc, PathSt.repays, if_pos rfl, if_pos hz]
        exact ⟨hz, rfl⟩
      · rw [hpath, hinc, PathSt.repays, if_neg Bool.false_ne_true, if_neg hne]
        exact ⟨rfl, rfl⟩
      · rw [hpath, hinc, PathSt.repays, if_neg Bool.false_ne_true, if_pos hz]
        exact ⟨hz, rfl⟩
    · exact newFabricPointer_does hu arrival hchoose hnorm hre rfl
  · intro k n hre hnorm hown hk hlen hval hf hdue he r
    exact d.pourUnit_justifies q mf edge u hre hnorm hown hk hlen hval hf hdue he rfl
  · obtain ⟨hcfg, htrc⟩ := s.dev.takeConfig_does (pointKey p)
    exact ⟨_, rfl, hcfg, htrc, rfl, rfl⟩
  · exact ⟨fun hedge hmem hi => interpreterRestart_does hedge hmem hi, interpreterRestart_none⟩

end Sys2Proof.Machine

/-! What a point shows of its defects, and what a change of its overhead leaves (R187, R224 to R226, R230). -/

namespace Sys2Proof.Machine

set_option Elab.async false -- a proof at a time, within the memory of a check

/-! The fields of one status word -/

/-- Two fields of one word that share no bit. -/
abbrev Field.Apart (g f : Field) : Prop := g.lo + g.len ≤ 32 ∧ f.lo + f.len ≤ 32 ∧ (f.lo + f.len ≤ g.lo ∨ g.lo + g.len ≤ f.lo)

theorem stField_clear (k : Nat) {ho lo ho' lo' : Field} (hho : ho.Apart ho') (hlo : lo.Apart lo') : (stField k ho lo).clearOf (stField k ho' lo') := by
  unfold stField
  cases isHo k
  · exact .inr hlo
  · exact .inr hho

/-- RFI, which stands in a lower-order point's word. -/
theorem stRfi_clear {k : Nat} (hho : isHo k = false) {ho lo : Field} (hlo : F.loStRfi.Apart lo) : (stRfi k).clearOf (stField k ho lo) := by
  rw [stField, hho]
  exact .inr hlo

theorem stField_off (k : Nat) (ho lo : Field) : (stField k ho lo).off = statAddr k := rfl

theorem statAddr_low {k : Nat} (hk : k < 534528) : 0x1c00_0000 ≤ statAddr k ∧ statAddr k < 0x1d00_0000 := by
  rcases statAddr_range hk with ⟨-, heq, hlt, -⟩ | ⟨-, heq, hlt⟩ <;> omega

section
variable (d : Dev) (k : Nat)

/-- The point's overhead counts: it stands in NORM and has not failed. -/
def Dev.pathOk : Bool := !(d.pstate k == psIdle) && !d.pathFail k && d.pstate k == psNorm

/-- The defects that a point shows. -/
def Dev.defectsShown : Dev :=
  let ok := d.pathOk k
  ((((((d.put (stAis k) (bitOf (d.ownAis k))).put (stLop k) (bitOf (d.ownLop k))).put (stUneq k)
    (bitOf (ok && d.on (stSlValid k) && labelUneq (d.labels k).1))).put (stPlm k) (bitOf (ok && d.on (stSlValid k) && labelPlm (d.labels k).1 (d.labels k).2))).put
    (stTim k) (bitOf (ok && (d.path k).mismatch && d.timEn k))).put (stRdi k) (bitOf (ok && (d.path k).rdi))).when (!isHo k)
    (fun e => e.put (stRfi k) (bitOf (ok && (d.path k).rfi)))

/-- The degradations of a point that has failed. -/
def Dev.failCleared (e : Dev) : Dev :=
  (((e.lower (pmPoint k F.pmPtStSd)).lower (pmPoint k F.pmPtStSf)).estClear (estKeyPoint k 0)).estClear (estKeyPoint k 1)

theorem Dev.pathShow_eq : d.pathShow k
    = (((d.defectsShown k).when (d.pathFail k) (fun e => Dev.failCleared k e)).pathSummary k (d.pathDefects k)).markOnes k := rfl

/-- What follows of the defects leaves the points' status. -/
theorem Dev.Reads.defectsShown {f : Field} (hlow : 0x1c00_0000 ≤ f.off) (hhigh : f.off < 0x1_0000_0000) (hk : k < 534528) :
    Dev.Reads f (d.defectsShown k) (d.pathShow k) := by
  rw [Dev.pathShow_eq]
  have hfail := (Dev.Reads.refl f (d.defectsShown k)).when (d.pathFail k) (g := fun e => Dev.failCleared k e) fun x hx =>
    (((hx.lower (pmPoint_clear hlow hk (by decide))).lower (pmPoint_clear hlow hk (by decide))).of_only
      (Dev.only_estClear _ _)).of_only (Dev.only_estClear _ _)
  exact (hfail.pathSummary (Nat.lt_trans hhigh (by decide)) k _).of_only (Dev.only_markOnes _ k)

theorem stField_bit (k : Nat) {ho lo : Field} (hho : ho.lo < 32 ∧ ho.len = 1) (hlo : lo.lo < 32 ∧ lo.len = 1) :
    (stField k ho lo).lo < 32 ∧ (stField k ho lo).len = 1 := by
  unfold stField
  cases isHo k
  · exact hlo
  · exact hho

theorem Dev.on_put_stField (x : Dev) {ho lo : Field} (hho : ho.lo < 32 ∧ ho.len = 1) (hlo : lo.lo < 32 ∧ lo.len = 1) (v : Bool) :
    (x.put (stField k ho lo) (bitOf v)).on (stField k ho lo) = v :=
  x.on_put_bitOf _ v (stField_bit k hho hlo).1 (stField_bit k hho hlo).2

/-- RFI hides no defect that a higher-order point shows too. -/
theorem Dev.Reads.whenRfi {f x : Dev} {ho lo : Field} (h : Dev.Reads (stField k ho lo) f x) (hlo : F.loStRfi.Apart lo) (v : Nat) :
    Dev.Reads (stField k ho lo) f (x.when (!isHo k) (fun e => e.put (stRfi k) v)) := by
  cases hho : isHo k with
  | true => exact h
  | false => exact h.put (stRfi_clear hho hlo) v

end

section
variable (d : Dev) {k : Nat} (hk : k < 534528)
include hk

theorem Dev.on_pathShow_uneq : (d.pathShow k).on (stUneq k) = (d.pathOk k && d.on (stSlValid k) && labelUneq (d.labels k).1) := by
  rw [(Dev.Reads.defectsShown d k (f := stUneq k) (statAddr_low hk).1 (Nat.lt_trans (statAddr_low hk).2 (by decide)) hk).on]
  refine ((Dev.Reads.whenRfi k ((((Dev.Reads.refl (stUneq k) _).put (g := stPlm k) (stField_clear k (by decide) (by decide)) _).put (g := stTim k)
    (stField_clear k (by decide) (by decide)) _).put (g := stRdi k) (stField_clear k (by decide) (by decide)) _) (by decide) _).on).trans ?_
  exact Dev.on_put_stField k _ (by decide) (by decide) _

theorem Dev.on_pathShow_plm : (d.pathShow k).on (stPlm k)
    = (d.pathOk k && d.on (stSlValid k) && labelPlm (d.labels k).1 (d.labels k).2) := by
  rw [(Dev.Reads.defectsShown d k (f := stPlm k) (statAddr_low hk).1 (Nat.lt_trans (statAddr_low hk).2 (by decide)) hk).on]
  refine ((Dev.Reads.whenRfi k (((Dev.Reads.refl (stPlm k) _).put (g := stTim k)
    (stField_clear k (by decide) (by decide)) _).put (g := stRdi k) (stField_clear k (by decide) (by decide)) _) (by decide) _).on).trans ?_
  exact Dev.on_put_stField k _ (by decide) (by decide) _

theorem Dev.on_pathShow_tim : (d.pathShow k).on (stTim k) = (d.pathOk k && (d.path k).mismatch && d.timEn k) := by
  rw [(Dev.Reads.defectsShown d k (f := stTim k) (statAddr_low hk).1 (Nat.lt_trans (statAddr_low hk).2 (by decide)) hk).on]
  refine ((Dev.Reads.whenRfi k ((Dev.Reads.refl (stTim k) _).put (g := stRdi k) (stField_clear k (by decide) (by decide)) _) (by decide) _).on).trans ?_
  exact Dev.on_put_stField k _ (by decide) (by decide) _

theorem Dev.on_pathShow_rdi : (d.pathShow k).on (stRdi k) = (d.pathOk k && (d.path k).rdi) := by
  rw [(Dev.Reads.defectsShown d k (f := stRdi k) (statAddr_low hk).1 (Nat.lt_trans (statAddr_low hk).2 (by decide)) hk).on]
  refine ((Dev.Reads.whenRfi k (Dev.Reads.refl (stRdi k) _) (by decide) _).on).trans ?_
  exact Dev.on_put_stField k _ (by decide) (by decide) _

theorem Dev.on_pathShow_rfi (hho : isHo k = false) : (d.pathShow k).on (stRfi k) = (d.pathOk k && (d.path k).rfi) := by
  rw [(Dev.Reads.defectsShown d k (f := stRfi k) (statAddr_low hk).1 (Nat.lt_trans (statAddr_low hk).2 (by decide)) hk).on,
    Dev.defectsShown, hho]
  exact Dev.on_put_bitOf _ (stRfi k) _ (show F.loStRfi.lo < 32 by decide) rfl

/-- What a point in NORM shows, the other points leave. -/
theorem Dev.Reads.pathUpdate_norm {f : Field} (hnorm : d.pstate k = psNorm) (hoff : f.off = statAddr k) : Dev.Reads f (d.pathShow k) (d.pathUpdate k) := by
  unfold Dev.pathUpdate
  extract_lets d1 d2
  have h2 : d2 = d1 := by
    refine if_neg fun hcond => ?_
    simp only [Bool.and_eq_true, decide_eq_true_eq, hnorm, psNorm] at hcond
    omega
  rw [h2]
  split
  case isTrue hho =>
    refine (Dev.Reads.refl f d1).foldl fun x j hj hx => ?_
    have hrange := d.lowerOf_range hj
    have hlt := hoOf_lt hk
    have hk' : k < 18432 := of_decide_eq_true hho
    have hj : j < 534528 := by omega
    have hbound := statAddr_low hk
    exact hx.pathShowFree (hoff ▸ hbound.1) (hoff ▸ Nat.lt_trans hbound.2 (by decide)) hj fun _ _ _ _ =>
      .inl (hoff ▸ statAddr_ne hk hj (by omega))
  case isFalse => exact .refl f d1

end

/-! What a change of a point's overhead leaves -/

section
variable {d e : Dev}

theorem Dev.PlanKept.put (h : d.PlanKept e) {g : Field} (hg : g.off < laneAddr 0 0) (v : Nat) : d.PlanKept (e.put g v) :=
  ⟨h.structs, h.restarts, (Dev.put_lanes ..).trans h.lanes, h.tuCfg.putUnit hg v, h.config.of_paths (Dev.only_put e g v).paths⟩

theorem Dev.PlanKept.setPath (h : d.PlanKept e) {k : Nat} {p : PathSt} (hcfg : p.cfg = (e.path k).cfg) (htrc : p.trc = (e.path k).trc) :
    d.PlanKept (e.setPath k p) := by
  refine ⟨h.structs, h.restarts, h.lanes, h.tuCfg.of_only (e.only_setPath k p), h.config.trans fun j => ?_⟩
  rw [Dev.path_setPath]
  split
  case isTrue hj => subst hj; exact ⟨hcfg, htrc⟩
  case isFalse => exact ⟨rfl, rfl⟩

theorem Dev.PlanKept.pathStruct (h : d.PlanKept e) (i : Nat) : e.pathStruct i = d.pathStruct i := by
  rw [Dev.pathStruct, Dev.structNow, h.structs, Dev.pathStruct, Dev.structNow]

theorem laneOf_lt {k : Nat} (hk : k < 534528) : laneOf k < 96 := by
  have hlt := hoOf_lt hk
  unfold laneOf
  omega

theorem Dev.PlanKept.membersOf (h : d.PlanKept e) {k : Nat} (hk : k < 534528) : e.membersOf k = d.membersOf k := by
  rw [Dev.membersOf, h.pathStruct, h.structWords (laneOf_lt hk), Dev.membersOf]

theorem kindSpan_le (n : Nat) : kindSpan n ≤ 64 := by
  unfold kindSpan
  split <;> decide

theorem Dev.membersOf_lt (d : Dev) {k m : Nat} (hk : k < 534528) (hm : m ∈ d.membersOf k) : m < 534528 := by
  unfold Dev.membersOf at hm
  extract_lets n at hm
  split at hm
  case isTrue =>
    obtain ⟨i, hi, rfl⟩ := List.mem_map.mp hm
    have hspan := kindSpan_le (getF (d.pathStruct (hoOf k)) 0 3)
    have hin := List.mem_range.mp hi
    have hlt := hoOf_lt hk
    omega
  case isFalse => exact nomatch hm

theorem Dev.parentOf_lt (d : Dev) {k : Nat} (hk : k < 534528) (hho : isHo k = false) : d.parentOf k < 18432 := by
  have hlt := hoOf_lt hk
  have hlow : ¬ k < 18432 := of_decide_eq_false hho
  unfold Dev.parentOf subOf
  rw [if_neg hlow]
  split <;> omega

/-- The failure of a point follows the pointers and the structure. -/
theorem Dev.PlanKept.pathFail (h : d.PlanKept e) (hp : ∀ j, j < 534528 → e.pstate j = d.pstate j) {k : Nat} (hk : k < 534528)
    (hlom : isHo k = false → e.on (stLom (d.parentOf k)) = d.on (stLom (d.parentOf k))) : e.pathFail k = d.pathFail k := by
  have hown {j : Nat} (hj : j < 534528) : e.ownFail j = d.ownFail j := by
    unfold Dev.ownFail
    rw [hp j hj, h.membersOf hj]
    refine congrArg (or _) ?_
    rw [Bool.eq_iff_iff, List.any_eq_true, List.any_eq_true]
    exact exists_congr fun m => and_congr_right fun hm => by rw [hp m (d.membersOf_lt hj hm)]
  have hparent : e.parentOf k = d.parentOf k := by rw [Dev.parentOf, h.pathStruct, Dev.parentOf]
  rw [Dev.pathFail, hown hk, Dev.parentFail, hparent, Dev.pathFail, Dev.parentFail]
  cases hho : isHo k with
  | true => rfl
  | false => rw [hown (Nat.lt_trans (d.parentOf_lt hk hho) (by decide)), hlom hho]

/-- What the overhead of a point that is evaluated needs. -/
theorem Dev.overheadLive_iff (d : Dev) (k : Nat) : d.overheadLive k = true ↔ d.pstate k = psNorm ∧ d.pathFail k = false ∧ d.sectionHeld k = false := by
  simp only [Dev.overheadLive, Bool.and_eq_true, beq_iff_eq, Bool.not_eq_true', and_assoc]

/-- A change of a live point's overhead leaves it counting. -/
theorem Dev.PlanKept.pathOk (h : d.PlanKept e) (hp : ∀ j, j < 534528 → e.pstate j = d.pstate j) {k : Nat} (hk : k < 534528)
    (hlom : isHo k = false → e.on (stLom (d.parentOf k)) = d.on (stLom (d.parentOf k))) (hlive : d.overheadLive k = true) :
    e.pstate k = psNorm ∧ e.pathOk k = true := by
  obtain ⟨hnorm, hfail, -⟩ := (d.overheadLive_iff k).mp hlive
  have hnorm' : e.pstate k = psNorm := (hp k hk).trans hnorm
  refine ⟨hnorm', ?_⟩
  rw [Dev.pathOk, hnorm', h.pathFail hp hk hlom, hfail]
  rfl

end

end Sys2Proof.Machine

/-! The overhead of a point that is evaluated: labels, RDI and RFI, K3 and the trace (R224 to R226). -/

namespace Sys2Proof.Machine

set_option Elab.async false -- a proof at a time, within the memory of a check

theorem stField_high (k : Nat) {ho lo : Field} (hho : 13 ≤ ho.lo ∧ ho.lo + ho.len ≤ 32) (hlo : 13 ≤ lo.lo ∧ lo.lo + lo.len ≤ 32) :
    13 ≤ (stField k ho lo).lo ∧ (stField k ho lo).lo + (stField k ho lo).len ≤ 32 := by
  unfold stField
  cases isHo k
  · exact hlo
  · exact hho

/-! What a change of a point's overhead leaves -/

/-- What the evaluation of point `k` rests on stays. -/
structure Dev.OverheadKept (k : Nat) (d e : Dev) : Prop where
  plan : d.PlanKept e
  pstate : ∀ j, j < 534528 → e.pstate j = d.pstate j
  lom : isHo k = false → e.on (stLom (d.parentOf k)) = d.on (stLom (d.parentOf k))

namespace Dev.OverheadKept

variable {d e : Dev} {k : Nat}

theorem refl (d : Dev) (k : Nat) : Dev.OverheadKept k d d := ⟨.refl d, fun _ _ => rfl, fun _ => rfl⟩

theorem of_words (h : Dev.OverheadKept k d e) {x : Dev} (hplan : d.PlanKept x) (hw : x.words = e.words) : Dev.OverheadKept k d x :=
  ⟨hplan, fun j hj => (Dev.get_congr hw _).trans (h.pstate j hj), fun hho => (Dev.on_congr hw _).trans (h.lom hho)⟩

/-- A field of the point's status word beside its state and its fabric pointer. -/
theorem putStat (h : Dev.OverheadKept k d e) (hk : k < 534528) {g : Field} (hoff : g.off = statAddr k) (hg : 13 ≤ g.lo ∧ g.lo + g.len ≤ 32) (v : Nat) :
    Dev.OverheadKept k d (e.put g v) := by
  have hlow := statAddr_low hk
  refine ⟨h.plan.put (by unfold laneAddr; omega) v, fun j hj => ?_, fun hho => ?_⟩
  · refine Eq.trans ((Dev.Reads.refl (stPstate j) e).put (g := g) ?_ v) (h.pstate j hj)
    rw [stPstate_eq]
    exact .inr ⟨hg.2, show 0 + 3 ≤ 32 by decide, .inl (Nat.le_trans (show 0 + 3 ≤ 13 by decide) hg.1)⟩
  · refine (((Dev.Reads.refl (stLom (d.parentOf k)) e).put (g := g) (.inl ?_) v).on).trans (h.lom hho)
    have hparent := d.parentOf_lt hk hho
    have hne := statAddr_ne (Nat.lt_trans hparent (by decide)) hk (Nat.ne_of_lt (Nat.lt_of_lt_of_le hparent (Nat.le_of_not_lt (of_decide_eq_false hho))))
    rw [hoff]
    exact hne

/-- A field of the second word of a higher-order point. -/
theorem putSecond (h : Dev.OverheadKept k d e) (hho : isHo k = true) {g : Field} (hoff : g.off = statAddr k + 4) (v : Nat) :
    Dev.OverheadKept k d (e.put g v) := by
  have hk : k < 18432 := of_decide_eq_true hho
  have hlow := statAddr_low (Nat.lt_trans hk (by decide) : k < 534528)
  refine ⟨h.plan.put (by unfold laneAddr; omega) v, fun j hj => ?_, fun hlo => absurd (hlo.symm.trans hho) (by decide)⟩
  refine Eq.trans ((Dev.Reads.refl (stPstate j) e).put (g := g) (.inl ?_) v) (h.pstate j hj)
  rw [hoff, stPstate_eq]
  exact statAddr_second_ne hk hj

theorem setPath (h : Dev.OverheadKept k d e) {j : Nat} {p : PathSt} (hcfg : p.cfg = (e.path j).cfg) (htrc : p.trc = (e.path j).trc) :
    Dev.OverheadKept k d (e.setPath j p) :=
  h.of_words (h.plan.setPath hcfg htrc) ((e.only_setPath j p).words)

theorem ok (h : Dev.OverheadKept k d e) (hk : k < 534528) (hlive : d.overheadLive k = true) : e.pstate k = psNorm ∧ e.pathOk k = true :=
  h.plan.pathOk h.pstate hk h.lom hlive

/-- What a live point then shows. -/
theorem shows (h : Dev.OverheadKept k d e) (hk : k < 534528) (hlive : d.overheadLive k = true) :
    (e.pathUpdate k).on (stUneq k) = (e.on (stSlValid k) && labelUneq (e.labels k).1)
      ∧ (e.pathUpdate k).on (stPlm k) = (e.on (stSlValid k) && labelPlm (e.labels k).1 (e.labels k).2)
      ∧ (e.pathUpdate k).on (stTim k) = ((e.path k).mismatch && e.timEn k)
      ∧ (e.pathUpdate k).on (stRdi k) = (e.path k).rdi
      ∧ (isHo k = false → (e.pathUpdate k).on (stRfi k) = (e.path k).rfi) := by
  obtain ⟨hnorm, hok⟩ := h.ok hk hlive
  have hend {f : Field} (hoff : f.off = statAddr k) : (e.pathUpdate k).on f = (e.pathShow k).on f := (Dev.Reads.pathUpdate_norm e hk hnorm hoff).on
  rw [hend rfl, hend rfl, hend rfl, hend rfl, hend rfl, e.on_pathShow_uneq hk, e.on_pathShow_plm hk, e.on_pathShow_tim hk, e.on_pathShow_rdi hk, hok]
  refine ⟨rfl, rfl, rfl, rfl, fun hho => ?_⟩
  rw [e.on_pathShow_rfi hk hho, hok, Bool.true_and]

end Dev.OverheadKept

theorem Field.isStatKept_slValid {k : Nat} (hk : k < 534528) : (stSlValid k).IsStatKept := isStatKept_stField hk (by decide) (by decide)

theorem Field.isStatKept_trcValid {k : Nat} (hk : k < 534528) : (stTrcValid k).IsStatKept := isStatKept_stField hk (by decide) (by decide)

theorem Field.isStatKept_second {k : Nat} (hk : k < 18432) {g : Field} (hg : g.off = statAddr k + 4 ∧ g.lo + g.len ≤ 13) : g.IsStatKept := by
  have hlow := statAddr_low (Nat.lt_trans hk (by decide) : k < 534528)
  exact ⟨by omega, by omega, by omega, .inl hg.2⟩

theorem Field.isStatKept_sig {k : Nat} (hk : k < 534528) (hho : isHo k = false) : (stSig k).IsStatKept := by
  have hlow := statAddr_low hk
  have hlo : ¬ k < 18432 := of_decide_eq_false hho
  have haddr : statAddr k = 0x1c80_0000 + 4 * (k - 18432) := if_neg hlo
  exact ⟨hlow.1, Nat.lt_trans hlow.2 (by decide), (by decide : F.loStSig.lo + F.loStSig.len ≤ 32),
    .inr (.inr ⟨show 0x1c80_0000 ≤ statAddr k by omega, (by decide : 20 ≤ F.loStSig.lo)⟩)⟩

/-! The label -/

/-- The label that a point shows. -/
def labelField (k : Nat) : Field := if isHo k then stC2 k else stSig k

theorem labelField_len (k : Nat) : (labelField k).lo + (labelField k).len ≤ 32 ∧ (labelField k).len = 8 := by
  unfold labelField
  split
  · exact ⟨(by decide : F.hoSt2C2.lo + F.hoSt2C2.len ≤ 32), rfl⟩
  · exact ⟨(by decide : F.loStSig.lo + F.loStSig.len ≤ 32), rfl⟩

theorem labelField_clear (k : Nat) : (stSlValid k).clearOf (labelField k) := by
  unfold labelField
  cases hho : isHo k with
  | true => exact .inl (Nat.ne_of_gt (Nat.lt_add_of_pos_right (by decide) : statAddr k < statAddr k + 4))
  | false =>
    rw [stSlValid, stField, hho]
    exact .inr (by decide : F.loStSlValid.Apart F.loStSig)

section
variable (d : Dev)

/-- R226: the label is shown and valid. -/
def Dev.labelTaken (k label : Nat) : Dev := (d.put (labelField k) label).raise (stSlValid k)

theorem Dev.overheadKept_labelTaken {k : Nat} (hk : k < 534528) (label : Nat) : Dev.OverheadKept k d (d.labelTaken k label) := by
  refine Dev.OverheadKept.putStat ?_ hk (g := stSlValid k) rfl (stField_high k (by decide) (by decide)) 1
  unfold labelField
  cases hho : isHo k with
  | true => exact (Dev.OverheadKept.refl d k).putSecond hho (g := stC2 k) rfl label
  | false =>
    exact (Dev.OverheadKept.refl d k).putStat hk (g := stSig k) rfl (by decide : 13 ≤ F.loStSig.lo ∧ F.loStSig.lo + F.loStSig.len ≤ 32) label

theorem Dev.labelTaken_label (k label : Nat) : (d.labelTaken k label).get (labelField k) = label % 256 := by
  refine Eq.trans ((Dev.Reads.refl (labelField k) (d.put (labelField k) label)).raise (labelField_clear k)) ?_
  rw [d.get_put_same _ _ (labelField_len k).1, (labelField_len k).2]
  rfl

theorem Dev.labelTaken_valid (k label : Nat) : (d.labelTaken k label).on (stSlValid k) = true :=
  Dev.on_put_stField k _ (by decide) (by decide) true

end

end Sys2Proof.Machine

/-! What is accepted of a point's overhead, and what then shows (R224 to R226). -/

namespace Sys2Proof.Machine

set_option Elab.async false -- a proof at a time, within the memory of a check

section
variable (d : Dev) {k : Nat} (hk : k < 534528) (hlive : d.overheadLive k = true)
include hk hlive

/-! Labels -/

theorem Dev.labelAccepted_shows (label : Nat) :
    ((d.labelTaken k label).pathUpdate k).on (stSlValid k) = true
      ∧ (∀ j, ((d.labelTaken k label).pathUpdate k).path j = d.path j)
      ∧ (isHo k = true → ((d.labelTaken k label).pathUpdate k).get (stC2 k) = label % 256
          ∧ ((d.labelTaken k label).pathUpdate k).on (stUneq k) = decide (label % 256 = 0)
          ∧ ((d.labelTaken k label).pathUpdate k).on (stPlm k) = labelPlm (label % 256) (getF (d.path k).cfg 16 8))
      ∧ (isHo k = false → ((d.labelTaken k label).pathUpdate k).get (stSig k) = label % 256) := by
  obtain ⟨huneq, hplm, -, -, -⟩ := (d.overheadKept_labelTaken hk label).shows hk hlive
  have hlabel := d.labelTaken_label k label
  have hvalid := d.labelTaken_valid k label
  have hpath (j : Nat) : (d.labelTaken k label).path j = d.path j :=
    Dev.path_congr ((Dev.only_put _ _ _).step (Dev.only_raise _ _)).paths j
  obtain ⟨e, he⟩ : ∃ e, e = d.labelTaken k label := ⟨_, rfl⟩
  rw [← he] at huneq hplm hlabel hvalid hpath ⊢
  refine ⟨((Dev.Reads.refl _ e).pathUpdateKept (Field.isStatKept_slValid hk) hk).on.trans hvalid, fun j => (e.path_pathUpdate k j).trans (hpath j),
    fun hho => ?_, fun hho => ?_⟩
  · have hk' : k < 18432 := of_decide_eq_true hho
    rw [labelField, hho, if_pos rfl] at hlabel
    have hlabels : e.labels k = (label % 256, getF (d.path k).cfg 16 8) := by rw [Dev.labels, hho, if_pos rfl, hlabel, hpath]
    rw [huneq, hplm, hvalid, hlabels, Bool.true_and, Bool.true_and]
    exact ⟨Eq.trans ((Dev.Reads.refl (stC2 k) e).pathUpdateKept (Field.isStatKept_second hk' (g := stC2 k) ⟨rfl, show F.hoSt2C2.lo + F.hoSt2C2.len ≤ 13 by decide⟩) hk) hlabel,
      beq_eq_decide _ _, rfl⟩
  · rw [labelField, hho, if_neg Bool.false_ne_true] at hlabel
    exact Eq.trans ((Dev.Reads.refl _ e).pathUpdateKept (Field.isStatKept_sig hk hho) hk) hlabel

/-! RDI and RFI -/

theorem Dev.pathTaken_shows {x : PathSt} (hcfg : x.cfg = (d.path k).cfg) (htrc : x.trc = (d.path k).trc) :
    ((d.setPath k x).pathUpdate k).on (stRdi k) = x.rdi ∧ (isHo k = false → ((d.setPath k x).pathUpdate k).on (stRfi k) = x.rfi)
      ∧ ∀ j, ((d.setPath k x).pathUpdate k).path j = if j = k then x else d.path j := by
  obtain ⟨-, -, -, hrdi, hrfi⟩ := ((Dev.OverheadKept.refl d k).setPath hcfg htrc).shows hk hlive
  rw [Dev.path_setPath_same] at hrdi hrfi
  exact ⟨hrdi, hrfi, fun j => (Dev.path_pathUpdate _ k j).trans (Dev.path_setPath ..)⟩

end

/-! Traces -/

theorem Dev.RegKept.pathShow {o : Nat} {d e : Dev} (h : d.RegKept o e) (ho : o < 0x1_0000 ∧ o ∉ alignmentRegs)
    (hps : o ≠ Reg.lanePsHodef0 ∧ o ≠ Reg.lanePsHodef1 ∧ o ≠ Reg.lanePsEvt ∧ o ≠ Reg.lanePsSum) {k : Nat} (hk : k < 534528) :
    d.RegKept o (e.pathShow k) := by
  have hstat {x : Dev} (hx : d.RegKept o x) {g : Field} (hg : g.off = statAddr k) (v : Nat) : d.RegKept o (x.put g v) := by
    have hlow := statAddr_low hk
    exact hx.putUnit (by unfold laneAddr; omega) v
  have hpm {x : Dev} (hx : d.RegKept o x) {g : Field} (hg : g.off ≤ 0x1900_0100) (v : Nat) : d.RegKept o (x.put (pmPoint k g) v) := by
    refine hx.putUnit ?_ v
    show (if k < 18432 then g.off + 8 * k else g.off + 0x10_0000 + 8 * (k - 18432)) < _
    unfold laneAddr
    split <;> omega
  rw [Dev.pathShow_eq]
  have hshown : d.RegKept o (e.defectsShown k) := by
    refine Dev.when_keeps (P := fun x : Dev => d.RegKept o x) ?_ fun x hx => hstat hx (g := stRfi k) rfl _
    exact hstat (hstat (hstat (hstat (hstat (hstat h (g := stAis k) rfl _) (g := stLop k) rfl _) (g := stUneq k) rfl _) (g := stPlm k) rfl _)
      (g := stTim k) rfl _) (g := stRdi k) rfl _
  have hfail : d.RegKept o ((e.defectsShown k).when (e.pathFail k) (fun x => Dev.failCleared k x)) :=
    Dev.when_keeps hshown fun x hx => ((hpm (hpm hx (g := F.pmPtStSd) (by decide) 0) (g := F.pmPtStSf) (by decide) 0).of_only (Dev.only_estClear _ _)).of_only
      (Dev.only_estClear _ _)
  exact (hfail.pathSummary ho hps k _).of_only (Dev.only_markOnes _ k)

theorem Dev.RegKept.pathUpdate {o : Nat} {d e : Dev} (h : d.RegKept o e) (ho : o < 0x1_0000 ∧ o ∉ alignmentRegs)
    (hps : o ≠ Reg.lanePsHodef0 ∧ o ≠ Reg.lanePsHodef1 ∧ o ≠ Reg.lanePsEvt ∧ o ≠ Reg.lanePsSum) {k : Nat} (hk : k < 534528) :
    d.RegKept o (e.pathUpdate k) := by
  unfold Dev.pathUpdate
  extract_lets d1 d2
  have h1 : d.RegKept o d1 := h.pathShow ho hps hk
  have h2 : d.RegKept o d2 := by
    unfold d2
    split
    case isTrue hcond =>
      have hho : k < 18432 := by
        simp only [Bool.and_eq_true] at hcond
        exact of_decide_eq_true hcond.1.1
      split
      · next g hg => exact h1.pathShow ho hps (Nat.lt_trans (e.headPoint_lt hho hg) (by decide))
      · exact h1
    case isFalse => exact h1
  split
  · refine List.foldlRecOn (motive := d.RegKept o) _ _ h2 fun x hx j hj => ?_
    have hrange := e.lowerOf_range hj
    have hlt := hoOf_lt hk
    exact RegKept.pathShow hx ho hps (by omega)
  · exact h2

section
variable (d : Dev) (k : Nat)

/-- The accepted trace is not the expected one (R235). -/
def Dev.traceDiffersAt : Bool :=
  traceCompared (d.pathMode k) (d.path k).trace.message != traceCompared (d.pathMode k) (d.traceEntry (getF (d.path k).trc 0 14))

/-- R225: the trace is accepted and compared. -/
def Dev.pathTraced : PathSt := { d.path k with accepted := (d.path k).trace.message, mismatch := d.traceDiffersAt k }

def Dev.traceTakenAt : Dev :=
  (d.setPath k (d.pathTraced k)).raise (stTrcValid k)

/-- A lane that captures the point's trace catches it (R237). -/
def Dev.catchTrace (m : List Byte) (e : Dev) (n : Nat) : Dev :=
  e.when ((e.lane n).capturing && e.capturePoint n == k) (fun x => x.setLane n { x.lane n with caught := some m })

theorem Dev.pathTrace_eq : d.pathTrace k = ((d.traceTakenAt k).pathUpdate k).each 96 (Dev.catchTrace k (d.path k).trace.message) := rfl

theorem Dev.only_catchTrace (m : List Byte) (n : Nat) : Dev.Only [.lanes] d (Dev.catchTrace k m d n) := .whenStep _ fun x => x.only_setLane _ _

theorem Dev.capturePoint_congr {d e : Dev} {n : Nat} (h : e.word (laneAddr n Reg.lanePsCap) = d.word (laneAddr n Reg.lanePsCap)) :
    e.capturePoint n = d.capturePoint n := by rw [Dev.capturePoint, h, Dev.capturePoint]

/-- What the lanes of a capture have caught. -/
theorem Dev.caught_each (m : List Byte) (c n : Nat) : ((d.each c (Dev.catchTrace k m)).lane n)
    = if n < c ∧ ((d.lane n).capturing && d.capturePoint n == k) = true then { d.lane n with caught := some m } else d.lane n := by
  induction c with
  | zero => rw [if_neg fun h => Nat.not_lt_zero n h.1]; rfl
  | succ c ih =>
    rw [Dev.each_succ]
    have hwords : Dev.Only [.lanes] d (d.each c (Dev.catchTrace k m)) := .each c fun e i => e.only_catchTrace k m i
    have hpoint : (d.each c (Dev.catchTrace k m)).capturePoint c = d.capturePoint c := Dev.capturePoint_congr (by rw [Dev.word, hwords.words, Dev.word])
    obtain ⟨e, he⟩ : ∃ e, e = d.each c (Dev.catchTrace k m) := ⟨_, rfl⟩
    rw [← he] at ih hpoint ⊢
    by_cases hn : n = c
    · subst hn
      rw [if_neg fun h => Nat.lt_irrefl n h.1] at ih
      rw [Dev.catchTrace, hpoint, ih]
      cases hcond : (d.lane n).capturing && d.capturePoint n == k with
      | true => rw [Dev.when_eq rfl, Dev.lane_setLane_same, ih, if_pos ⟨Nat.lt_succ_self n, rfl⟩]
      | false => rw [Dev.when, if_neg Bool.false_ne_true, ih, if_neg fun h => Bool.false_ne_true h.2]
    · have hkeep : (Dev.catchTrace k m e c).lane n = e.lane n := by
        refine Dev.when_keeps (P := fun x : Dev => x.lane n = e.lane n) rfl fun x hx => ?_
        rw [Dev.lane_setLane, if_neg hn]
        exact hx
      rw [hkeep, ih]
      exact if_congr (and_congr_left' ⟨fun h => by omega, fun h => by omega⟩) rfl rfl

end

theorem Dev.traceAccepted_shows (d : Dev) {k : Nat} (hk : k < 534528) (hlive : d.overheadLive k = true) :
    (d.pathTrace k).on (stTrcValid k) = true ∧ ((d.pathTrace k).path k).accepted = (d.path k).trace.message
      ∧ (d.timEn k = true → (d.pathTrace k).on (stTim k) = d.traceDiffersAt k)
      ∧ (∀ n, n < 96 → ((d.pathTrace k).lane n).caught
          = if (d.lane n).capturing && d.capturePoint n == k then some (d.path k).trace.message else (d.lane n).caught)
      ∧ ∀ j, j ≠ k → (d.pathTrace k).path j = d.path j := by
  have hset : Dev.OverheadKept k d (d.traceTakenAt k) :=
    ((Dev.OverheadKept.refl d k).setPath (j := k) (p := d.pathTraced k) rfl rfl).putStat hk
      (g := stTrcValid k) rfl (stField_high k (by decide) (by decide)) 1
  obtain ⟨-, -, htim, -, -⟩ := hset.shows hk hlive
  have hvalid : (d.traceTakenAt k).on (stTrcValid k) = true := Dev.on_put_stField k _ (by decide) (by decide) true
  have hpath (j : Nat) : (d.traceTakenAt k).path j = if j = k then d.pathTraced k else d.path j :=
    (Dev.path_congr (Dev.only_raise _ _).paths j).trans (Dev.path_setPath ..)
  have hlanes : (d.traceTakenAt k).lanes = d.lanes := (Dev.put_lanes ..).trans (d.only_setPath _ _).lanes
  have hcap : d.RegKept Reg.lanePsCap (d.traceTakenAt k) := by
    have hlow := statAddr_low hk
    exact ((Dev.RegKept.refl Reg.lanePsCap d).of_only (d.only_setPath k _)).putUnit (f := stTrcValid k) (by rw [stTrcValid, stField_off]; unfold laneAddr; omega) 1
  rw [Dev.pathTrace_eq]
  obtain ⟨e, he⟩ : ∃ e, e = d.traceTakenAt k := ⟨_, rfl⟩
  rw [← he] at htim hvalid hpath hlanes hcap ⊢
  have hkept := (Dev.Reads.refl (stTrcValid k) e).pathUpdateKept (Field.isStatKept_trcValid hk) hk
  have hpath' (j : Nat) := (e.path_pathUpdate k j).trans (hpath j)
  have hlanes' := (e.only_pathUpdate k).lanes.trans hlanes
  have hcap' := hcap.pathUpdate (by decide) (by decide) hk
  obtain ⟨x, hx⟩ : ∃ x, x = e.pathUpdate k := ⟨_, rfl⟩
  rw [← hx] at htim hkept hpath' hlanes' hcap' ⊢
  have hend : Dev.Only [.lanes] x (x.each 96 (Dev.catchTrace k (d.path k).trace.message)) := .each 96 fun y n => y.only_catchTrace k _ n
  have hme := hpath k
  rw [if_pos rfl] at hme
  refine ⟨(Dev.on_congr hend.words _).trans (hkept.on.trans hvalid), ?_, fun hen => ?_, fun n hn => ?_, fun j hj => ?_⟩
  · rw [Dev.path_congr hend.paths k, hpath', if_pos rfl, Dev.pathTraced]
  · have hen' : e.timEn k = true := by
      rw [Dev.timEn, Dev.pathBit, hme]
      exact hen
    rw [Dev.on_congr hend.words, htim, hen', Bool.and_true, hme, Dev.pathTraced]
  · have hlane : x.lane n = d.lane n := by rw [Dev.lane, hlanes', Dev.lane]
    rw [Dev.caught_each, hlane, Dev.capturePoint_congr (hcap' n)]
    cases hcond : (d.lane n).capturing && d.capturePoint n == k with
    | true => rw [if_pos ⟨hn, rfl⟩, if_pos rfl]
    | false => rw [if_neg fun h => Bool.false_ne_true h.2, if_neg Bool.false_ne_true]
  · rw [Dev.path_congr hend.paths j, hpath', if_neg hj]

end Sys2Proof.Machine

/-! Captures of a point's trace (R237). -/

namespace Sys2Proof.Machine

set_option Elab.async false -- a proof at a time, within the memory of a check

theorem regDefOf_lanePsCap : ∀ n : PortLane, regDefOf (laneAddr n Reg.lanePsCap) = some ⟨0x2014, 1, 4, 0x3fff, 0, 0, []⟩ := by
  decide +kernel

/-- The words of a lane's capture. -/
abbrev captureWords (n : Nat) : List Nat := [laneAddr n Reg.lanePsCap, laneAddr n Reg.lanePsEvt]

/-! A capture ends -/

section
variable (d : Dev) (n : Nat)

/-- A lane that captures nothing more. -/
def LaneSt.captured (x : LaneSt) : LaneSt := { x with capturing := false, caught := none }

/-- The capture is done, and `b` says whether it is empty. -/
def Dev.capMarked (b : Bool) : Dev :=
  (((d.setLane n (d.lane n).captured).raise (F.lanePsCapDone.lane n)).raise (F.lanePsEvtCapDone.lane n)).put (F.lanePsCapEmpty.lane n) (bitOf b)

theorem Dev.capDone_none : d.capDone n none = d.capMarked n true := rfl

theorem Dev.capDone_some (m : List Byte) :
    d.capDone n (some m) = (d.capMarked n false).setBytesAt (laneAddr n Reg.lanePsCapBuf) ((m ++ List.replicate 64 0).take 64) := rfl

theorem Dev.laneOnly_capMarked (b : Bool) : d.LaneOnly n (captureWords n) (d.capMarked n b) :=
  ((((Dev.LaneOnly.refl n _ d).setLane _).raise (f := F.lanePsCapDone.lane n) (.head _)).raise (f := F.lanePsEvtCapDone.lane n) (.tail _ (.head _))).put
    (f := F.lanePsCapEmpty.lane n) (.head _) _

theorem Dev.capMarked_shows (b : Bool) :
    (d.capMarked n b).lane n = (d.lane n).captured ∧ (d.capMarked n b).on (F.lanePsCapDone.lane n) = true
      ∧ (d.capMarked n b).on (F.lanePsCapEmpty.lane n) = b ∧ (d.capMarked n b).on (F.lanePsEvtCapDone.lane n) = true := by
  have hsame {x y : Dev} (h : x.lanes = y.lanes) : x.lane n = y.lane n := by rw [Dev.lane, h, Dev.lane]
  refine ⟨?_, ?_, Dev.on_put_bitOf _ (F.lanePsCapEmpty.lane n) _ (show F.lanePsCapEmpty.lo < 32 by decide) rfl, ?_⟩
  · refine (hsame ((Dev.put_lanes ..).trans ((Dev.put_lanes ..).trans (Dev.put_lanes ..)))).trans ?_
    exact Dev.lane_setLane_same ..
  · refine (congrArg (· != 0) ((Dev.get_lane_put_apart (f := F.lanePsCapEmpty) (g := F.lanePsCapDone) _ n _ (.inr (by decide))).trans
      (Dev.get_lane_put_apart (f := F.lanePsEvtCapDone) (g := F.lanePsCapDone) _ n 1 (.inl (by decide))))).trans ?_
    exact Dev.on_put_bitOf _ (F.lanePsCapDone.lane n) true (show F.lanePsCapDone.lo < 32 by decide) rfl
  · refine (congrArg (· != 0) (Dev.get_lane_put_apart (f := F.lanePsCapEmpty) (g := F.lanePsEvtCapDone) _ n _ (.inl (by decide)))).trans ?_
    exact Dev.on_put_bitOf _ (F.lanePsEvtCapDone.lane n) true (show F.lanePsEvtCapDone.lo < 32 by decide) rfl

/-- The bytes of the buffer. -/
theorem captureBytes {m : List Byte} (h : m.length ≤ 64) : (m ++ List.replicate 64 (0 : Byte)).take 64 = m ++ List.replicate (64 - m.length) 0 := by
  rw [List.take_append, List.take_of_length_le h, List.take_replicate, Nat.min_eq_left (Nat.sub_le _ _)]

/-- `y` with the words and the lanes of `x`. -/
def Dev.shownIn (x y : Dev) : Dev := { y with words := x.words, lanes := x.lanes }

/-- A capture that has caught a trace. -/
theorem Dev.capDone_shows {m : List Byte} (h : m.length ≤ 64) :
    ((d.capDone n (some m)).lane n).capturing = false ∧ (d.capDone n (some m)).on (F.lanePsCapDone.lane n) = true
      ∧ (d.capDone n (some m)).on (F.lanePsCapEmpty.lane n) = false ∧ (d.capDone n (some m)).on (F.lanePsEvtCapDone.lane n) = true
      ∧ (d.capDone n (some m)).bytesAt (laneAddr n Reg.lanePsCapBuf) 64 = m ++ List.replicate (64 - m.length) 0
      ∧ d.capDone n (some m) = { d with words := (d.capDone n (some m)).words, lanes := (d.capDone n (some m)).lanes } := by
  obtain ⟨hlane, hdone, hempty, hevt⟩ := d.capMarked_shows n false
  obtain ⟨hframe, -, -⟩ := d.laneOnly_capMarked n false
  rw [Dev.capDone_some, captureBytes h]
  have hlen : (m ++ List.replicate (64 - m.length) (0 : Byte)).length = 64 := by
    rw [List.length_append, List.length_replicate]
    omega
  obtain ⟨e, he⟩ : ∃ e, e = d.capMarked n false := ⟨_, rfl⟩
  obtain ⟨l, hl⟩ : ∃ l, l = m ++ List.replicate (64 - m.length) (0 : Byte) := ⟨_, rfl⟩
  rw [← he] at hlane hdone hempty hevt hframe ⊢
  rw [← hl] at hlen ⊢
  have hreg {o : Nat} (ho : o = Reg.lanePsCap ∨ o = Reg.lanePsEvt) : e.RegKept o (e.setBytesAt (laneAddr n Reg.lanePsCapBuf) l) := by
    refine (Dev.RegKept.refl o e).setBytesAt n Reg.lanePsCapBuf l ?_
    rcases ho with rfl | rfl <;> rw [hlen] <;> decide
  have hbytes := e.bytesAt_setBytesAt (laneAddr n Reg.lanePsCapBuf) l
  rw [hlen] at hbytes
  have honly := e.only_setBytesAt (laneAddr n Reg.lanePsCapBuf) l
  refine ⟨?_, (congrArg (· != 0) ((hreg (.inl rfl)).get (f := F.lanePsCapDone) rfl n)).trans hdone,
    (congrArg (· != 0) ((hreg (.inl rfl)).get (f := F.lanePsCapEmpty) rfl n)).trans hempty,
    (congrArg (· != 0) ((hreg (.inr rfl)).get (f := F.lanePsEvtCapDone) rfl n)).trans hevt, hbytes, ?_⟩
  · rw [Dev.lane, honly.lanes, ← Dev.lane, hlane, LaneSt.captured]
  · obtain ⟨x, hx⟩ : ∃ x, x = e.setBytesAt (laneAddr n Reg.lanePsCapBuf) l := ⟨_, rfl⟩
    rw [← hx] at honly ⊢
    exact (honly _ (x.shownIn) fun y hy => by fin_cases hy; exact fun _ _ => rfl).trans
      (Eq.trans (congrArg x.shownIn hframe) rfl)

end

/-! A capture begins -/

/-- The point of any capture has its status below the lanes' pages. -/
theorem statAddr_capPoint (n : PortLane) (w : W32) : statAddr (capPoint n w) < 0x1d00_0000 := by
  have hn := n.isLt
  have hidx := getF_lt w 0 13
  have hpos := getF_lt w 0 6
  have hsub : Nat.min 2 (getF w 6 2) ≤ 2 := Nat.min_le_left _ _
  unfold capPoint statAddr
  split <;> split <;> omega

/-- The point that the register names hangs on its low bits alone. -/
theorem capPoint_congr {n : Nat} {v w : W32} (h : ∀ lo len, (lo, len) ∈ [(13, 1), (0, 13), (0, 6), (6, 2)] → getF v lo len = getF w lo len) :
    capPoint n v = capPoint n w := by
  rw [capPoint, h 13 1 (by decide), h 0 13 (by decide), h 0 6 (by decide), h 6 2 (by decide), capPoint]

/-- The written register names the point that is written. -/
theorem getF_psCapWritten (old data : W32) {lo len : Nat} (hmem : (lo, len) ∈ [(13, 1), (0, 13), (0, 6), (6, 2)]) :
    getF (RegDef.written ⟨0x2014, 1, 4, 0x3fff, 0, 0, []⟩ old (data ||| 0x4000)) lo len = getF data lo len := by
  have hmask : getF (0xffffc000#32) lo len = 0 ∧ getF (0x3fff#32) lo len = 2 ^ len - 1 ∧ getF (0x4000 : W32) lo len = 0 := by
    revert hmem
    generalize hx : (lo, len) = x
    obtain ⟨rfl, rfl⟩ : lo = x.1 ∧ len = x.2 := by rw [← hx]; exact ⟨rfl, rfl⟩
    clear hx
    revert x
    decide
  have hword : RegDef.written ⟨0x2014, 1, 4, 0x3fff, 0, 0, []⟩ old (data ||| 0x4000) = (old &&& 0xffffc000#32) ||| ((data ||| 0x4000) &&& 0x3fff#32) := by
    show ((old &&& ~~~BitVec.ofNat 32 0x3fff) ||| ((data ||| 0x4000) &&& BitVec.ofNat 32 0x3fff)) &&& ~~~((data ||| 0x4000) &&& BitVec.ofNat 32 0) = _
    simp only [BitVec.and_zero, BitVec.not_zero, BitVec.and_allOnes]
    rfl
  rw [hword, getF_mask_or _ _ _ _ hmask.1 hmask.2.1, getF_or, hmask.2.2, Nat.or_zero]

section
variable (d : Dev) (n : PortLane) (data : W32)

/-- A lane that begins a capture. -/
def LaneSt.capturesNow (x : LaneSt) : LaneSt := { x with capturing := true, caught := none }

/-- The write that begins a capture, before the point is looked at. -/
def Dev.capStarted : Dev :=
  (((d.regWrite (laneAddr n Reg.lanePsCap) (data ||| 0x4000)).lower (F.lanePsCapDone.lane n)).lower (F.lanePsCapEmpty.lane n)).setLane n
    ((d.regWrite (laneAddr n Reg.lanePsCap) (data ||| 0x4000)).lane n).capturesNow

theorem Dev.writePsCap_go : d.writePsCap n (data ||| 0x4000)
    = if (d.capStarted n data).on (stTrcValid ((d.capStarted n data).capturePoint n)) then d.capStarted n data
      else (d.capStarted n data).capMarked n true :=
  if_neg (by rw [getF_or_bit data 0x4000 (lo := 14) (by decide)]; decide)

theorem Dev.laneOnly_capStarted : d.LaneOnly n (captureWords n) (d.capStarted n data) :=
  (((Dev.LaneOnly.of_wordsOnly (d.regWrite_wordsOnly (laneAddr n Reg.lanePsCap) (data ||| 0x4000))).mono
    (List.cons_subset_cons _ (List.nil_subset _))).lower
    (f := F.lanePsCapDone.lane n) (.head _)).lower (f := F.lanePsCapEmpty.lane n) (.head _) |>.setLane _

theorem Dev.capStarted_done : (d.capStarted n data).on (F.lanePsCapDone.lane n) = false := by
  refine (congrArg (· != 0) ((Dev.get_congr (Dev.setLane_words ..) _).trans
    (Dev.get_lane_put_apart (f := F.lanePsCapEmpty) (g := F.lanePsCapDone) _ n 0 (.inr (by decide))))).trans ?_
  exact Dev.on_lower _ (F.lanePsCapDone.lane n) (show F.lanePsCapDone.lo + F.lanePsCapDone.len ≤ 32 by decide)

theorem Dev.capStarted_point : (d.capStarted n data).capturePoint n = capPoint n data := by
  refine capPoint_congr fun lo len hmem => ?_
  have hbits : lo + len ≤ 14 := by
    simp only [List.mem_cons, Prod.mk.injEq, List.not_mem_nil, or_false] at hmem
    omega
  have hkept : Dev.Reads ⟨laneAddr n Reg.lanePsCap, lo, len⟩ (d.regWrite (laneAddr n Reg.lanePsCap) (data ||| 0x4000)) (d.capStarted n data) :=
    (((Dev.Reads.refl _ _).lower (g := F.lanePsCapDone.lane n) (.inr ⟨show 15 + 1 ≤ 32 by decide, show lo + len ≤ 32 by omega, .inl (show lo + len ≤ 15 by omega)⟩)).lower
      (g := F.lanePsCapEmpty.lane n) (.inr ⟨show 16 + 1 ≤ 32 by decide, show lo + len ≤ 32 by omega, .inl (show lo + len ≤ 16 by omega)⟩)).of_words
      (Dev.setLane_words ..)
  refine Eq.trans hkept ?_
  rw [Dev.regWrite_of_def (regDefOf_lanePsCap n), Dev.get, Dev.word_setWord_same]
  exact getF_psCapWritten _ data hmem

/-- The points' traces stay as they are. -/
theorem Dev.capStarted_valid (w : W32) : (d.capStarted n data).on (stTrcValid (capPoint n w)) = d.on (stTrcValid (capPoint n w)) := by
  refine (d.laneOnly_capStarted n data).2.1.on ?_
  have hlt := statAddr_capPoint n w
  simp only [captureWords, List.mem_cons, List.not_mem_nil, or_false, stTrcValid, stField_off]
  unfold laneAddr
  omega

end

section
variable (n : PortLane) (s : State)

/-- R237: a write of `GO`. -/
theorem psCapGo_does (m : Master) (data : W32) (hw : s.mayWrite m.val (laneAddr n Reg.lanePsCap)) :
    ∃ t, exec (.psCapGo m n data) s = .next t ∧ (t.dev.replyTo m.val).resp = .okay ∧ KeepsMemories s t
      ∧ (∀ q, q ≠ n.val → t.dev.lane q = s.dev.lane q) ∧ (t.dev.lane n).caught = none
      ∧ (s.dev.on (stTrcValid (capPoint n data)) = true → (t.dev.lane n).capturing = true ∧ t.dev.on (F.lanePsCapDone.lane n) = false)
      ∧ (s.dev.on (stTrcValid (capPoint n data)) = false →
          (t.dev.lane n).capturing = false ∧ t.dev.on (F.lanePsCapDone.lane n) = true ∧ t.dev.on (F.lanePsCapEmpty.lane n) = true) := by
  obtain ⟨hreply, hwords, hlane⟩ := Dev.write_okay (op := fun e => okay (e.writePsCap n.val (data ||| 0x4000))) hw rfl
  refine ⟨{ s with dev := s.dev.write m.val (laneAddr n Reg.lanePsCap) fun e => okay (e.writePsCap n.val (data ||| 0x4000)) }, rfl, hreply, ⟨rfl, rfl⟩, ?_⟩
  obtain ⟨t, ht⟩ : ∃ t, t = s.dev.write m.val (laneAddr n Reg.lanePsCap) fun e => okay (e.writePsCap n.val (data ||| 0x4000)) := ⟨_, rfl⟩
  rw [← ht] at hwords hlane
  show (∀ q, q ≠ n.val → _) ∧ _
  rw [← ht]
  have hstart := (s.dev.laneOnly_capStarted n data).2.2
  have hlanen : (s.dev.capStarted n data).lane n = _ := Dev.lane_setLane_same ..
  rw [Dev.writePsCap_go, Dev.capStarted_point, Dev.capStarted_valid] at hwords hlane
  cases hvalid : s.dev.on (stTrcValid (capPoint n data)) with
  | true =>
    rw [hvalid, if_pos rfl] at hwords hlane
    rw [Dev.on_congr hwords, Dev.capStarted_done, hlane, hlanen]
    exact ⟨fun q hq => (hlane q).trans (hstart q hq), rfl, fun _ => ⟨rfl, rfl⟩, nofun⟩
  | false =>
    rw [hvalid, if_neg Bool.false_ne_true] at hwords hlane
    obtain ⟨hend, hdone, hempty, -⟩ := (s.dev.capStarted n data).capMarked_shows n true
    have hothers := ((s.dev.capStarted n data).laneOnly_capMarked n true).2.2
    rw [Dev.on_congr hwords, Dev.on_congr hwords, hdone, hempty, hlane, hend]
    exact ⟨fun q hq => (hlane q).trans ((hothers q hq).trans (hstart q hq)), rfl, nofun, fun _ => ⟨rfl, rfl, rfl⟩⟩

theorem exec_traceCaptureComplete {empty : Bool} {c : Bool} (hc : ((s.dev.lane n).capturing && (s.dev.lane n).caught.isNone == empty
      && ((s.dev.lane n).caught.isSome || !s.dev.on (stTrcValid (s.dev.capturePoint n)))) = c) :
    exec (.traceCaptureComplete n empty) s = .next { s with dev := s.dev.when c (fun d => d.capDone n (s.dev.lane n).caught) } := by
  show execTraceCaptureComplete n empty s = _
  rw [← hc]
  rfl

end

/-! The acceptance -/

section
variable {p : Point} {s : State} (hlive : s.dev.overheadLive (pointKey p) = true)
include hlive

theorem c2Accept_does (hcount : 5 ≤ (s.dev.path (pointKey p)).label.count) :
    exec (.c2Accept p (s.dev.path (pointKey p)).label.value) s
      = .next { s with dev := (s.dev.labelTaken (pointKey p) (s.dev.path (pointKey p)).label.value).pathUpdate (pointKey p) } := by
  show execC2Accept p _ s = _
  rw [execC2Accept, Dev.when_eq (by rw [hlive, decide_eq_true hcount, beq_self_eq_true]; rfl)]
  rfl

theorem pathRdiAccept_rdi (v : Nat) : exec (.pathRdiAccept p .rdi v) s = .next { s with dev := s.dev.when (decide (5 ≤ (s.dev.path (pointKey p)).rdiRun.count) && (s.dev.path (pointKey p)).rdiRun.value == v) (fun e =>
      (e.setPath (pointKey p) { s.dev.path (pointKey p) with rdi := v != 0 }).pathUpdate (pointKey p)) } := by
  show execPathRdiAccept p .rdi v s = _
  unfold execPathRdiAccept
  dsimp only
  rw [Dev.when_eq hlive]

theorem pathRdiAccept_rfi (v : Nat) : exec (.pathRdiAccept p .rfi v) s = .next { s with dev := s.dev.when (decide (5 ≤ (s.dev.path (pointKey p)).rfiRun.count) && (s.dev.path (pointKey p)).rfiRun.value == v) (fun e =>
      (e.setPath (pointKey p) { s.dev.path (pointKey p) with rfi := v != 0 }).pathUpdate (pointKey p)) } := by
  show execPathRdiAccept p .rfi v s = _
  unfold execPathRdiAccept
  dsimp only
  rw [Dev.when_eq hlive]

theorem pathRdiAccept_k3 (v : Nat) : exec (.pathRdiAccept p .k3 v) s = .next { s with dev := s.dev.when (decide (3 ≤ (s.dev.path (pointKey p)).k3.count) && isHo (pointKey p) && (s.dev.path (pointKey p)).k3.value == v) (fun e =>
      e.put (stK3 (pointKey p)) v) } := by
  show execPathRdiAccept p .k3 v s = _
  unfold execPathRdiAccept
  dsimp only
  rw [Dev.when_eq hlive]

end

end Sys2Proof.Machine

/-! The path overhead and its captures (R224 to R226, R237). -/

namespace Sys2Proof.Machine

set_option Elab.async false -- a proof at a time, within the memory of a check

section
variable {p : Point} {s : State} (hlive : s.dev.overheadLive (pointKey p) = true)

/-- A label of too few frames changes nothing. -/
theorem c2Accept_idle (hcount : (s.dev.path (pointKey p)).label.count < 5) (v : Nat) : exec (.c2Accept p v) s = .next s := by
  show execC2Accept p v s = _
  rw [execC2Accept, decide_eq_false (Nat.not_le.mpr hcount), Bool.and_false, Bool.false_and]
  rfl

theorem pathTraceAccept_idle (hcount : (s.dev.path (pointKey p)).trace.count < 3) (l : List Byte) : exec (.pathTraceAccept p l) s = .next s := by
  show execPathTraceAccept p l s = _
  rw [execPathTraceAccept, decide_eq_false (Nat.not_le.mpr hcount), Bool.and_false, Bool.false_and]
  rfl

theorem pathTraceAccept_does (hlive : s.dev.overheadLive (pointKey p) = true) (hcount : 3 ≤ (s.dev.path (pointKey p)).trace.count) :
    exec (.pathTraceAccept p (s.dev.path (pointKey p)).trace.message) s = .next { s with dev := s.dev.pathTrace (pointKey p) } := by
  show execPathTraceAccept p _ s = _
  rw [execPathTraceAccept, Dev.when_eq (by rw [hlive, decide_eq_true hcount, beq_self_eq_true]; rfl)]

include hlive

/-- RDI, RFI and K3 of too few frames change nothing. -/
theorem pathRdiAccept_idle :
    ((s.dev.path (pointKey p)).rdiRun.count < 5 → ∀ v, exec (.pathRdiAccept p .rdi v) s = .next s)
      ∧ ((s.dev.path (pointKey p)).rfiRun.count < 5 → ∀ v, exec (.pathRdiAccept p .rfi v) s = .next s)
      ∧ ((s.dev.path (pointKey p)).k3.count < 3 → ∀ v, exec (.pathRdiAccept p .k3 v) s = .next s) := by
  refine ⟨fun hcount v => ?_, fun hcount v => ?_, fun hcount v => ?_⟩
  · rw [pathRdiAccept_rdi hlive, decide_eq_false (Nat.not_le.mpr hcount), Bool.false_and]
    rfl
  · rw [pathRdiAccept_rfi hlive, decide_eq_false (Nat.not_le.mpr hcount), Bool.false_and]
    rfl
  · rw [pathRdiAccept_k3 hlive, decide_eq_false (Nat.not_le.mpr hcount), Bool.false_and]
    rfl

theorem rdiAccept_does (hcount : 5 ≤ (s.dev.path (pointKey p)).rdiRun.count) :
    exec (.pathRdiAccept p .rdi (s.dev.path (pointKey p)).rdiRun.value) s = .next { s with dev :=
      (s.dev.setPath (pointKey p) { s.dev.path (pointKey p) with rdi := (s.dev.path (pointKey p)).rdiRun.value != 0 }).pathUpdate (pointKey p) } := by
  rw [pathRdiAccept_rdi hlive, Dev.when_eq (by rw [decide_eq_true hcount, beq_self_eq_true]; rfl)]

theorem rfiAccept_does (hcount : 5 ≤ (s.dev.path (pointKey p)).rfiRun.count) :
    exec (.pathRdiAccept p .rfi (s.dev.path (pointKey p)).rfiRun.value) s = .next { s with dev :=
      (s.dev.setPath (pointKey p) { s.dev.path (pointKey p) with rfi := (s.dev.path (pointKey p)).rfiRun.value != 0 }).pathUpdate (pointKey p) } := by
  rw [pathRdiAccept_rfi hlive, Dev.when_eq (by rw [decide_eq_true hcount, beq_self_eq_true]; rfl)]

theorem k3Accept_does (hcount : 3 ≤ (s.dev.path (pointKey p)).k3.count) (hho : isHo (pointKey p) = true) :
    exec (.pathRdiAccept p .k3 (s.dev.path (pointKey p)).k3.value) s
      = .next { s with dev := s.dev.put (stK3 (pointKey p)) (s.dev.path (pointKey p)).k3.value } := by
  rw [pathRdiAccept_k3 hlive, Dev.when_eq (by rw [decide_eq_true hcount, hho, beq_self_eq_true]; rfl)]

end

theorem bne_zero_eq_decide (v : Nat) : (v != 0) = decide (v ≠ 0) := by
  rw [bne, beq_eq_decide, decide_not]

/-- What is accepted of a live point's overhead. -/
theorem pathOverhead_does (p : Point) (s : State) (hlive : s.dev.overheadLive (pointKey p) = true) :
    (5 ≤ (s.dev.path (pointKey p)).rdiRun.count → ∃ t, exec (.pathRdiAccept p .rdi (s.dev.path (pointKey p)).rdiRun.value) s = .next t
        ∧ t.dev.on (stRdi (pointKey p)) = decide ((s.dev.path (pointKey p)).rdiRun.value ≠ 0)
        ∧ (t.dev.path (pointKey p)).rdi = decide ((s.dev.path (pointKey p)).rdiRun.value ≠ 0)
        ∧ (∀ j, j ≠ pointKey p → t.dev.path j = s.dev.path j) ∧ KeepsMemories s t)
      ∧ (5 ≤ (s.dev.path (pointKey p)).rfiRun.count → isHo (pointKey p) = false →
        ∃ t, exec (.pathRdiAccept p .rfi (s.dev.path (pointKey p)).rfiRun.value) s = .next t
          ∧ t.dev.on (stRfi (pointKey p)) = decide ((s.dev.path (pointKey p)).rfiRun.value ≠ 0)
          ∧ (∀ j, j ≠ pointKey p → t.dev.path j = s.dev.path j) ∧ KeepsMemories s t) := by
  have hk := pointKey_lt p
  refine ⟨fun hcount => ?_, fun hcount hlo => ?_⟩
  · obtain ⟨hrdi, -, hpath⟩ := s.dev.pathTaken_shows hk hlive
      (x := { s.dev.path (pointKey p) with rdi := (s.dev.path (pointKey p)).rdiRun.value != 0 }) rfl rfl
    refine ⟨_, rdiAccept_does hlive hcount, hrdi.trans (bne_zero_eq_decide _), ?_, fun j hj => (hpath j).trans (if_neg hj), rfl, rfl⟩
    have hme := hpath (pointKey p)
    rw [if_pos rfl] at hme
    exact (congrArg PathSt.rdi hme).trans (bne_zero_eq_decide _)
  · obtain ⟨-, hrfi, hpath⟩ := s.dev.pathTaken_shows hk hlive
      (x := { s.dev.path (pointKey p) with rfi := (s.dev.path (pointKey p)).rfiRun.value != 0 }) rfl rfl
    exact ⟨_, rfiAccept_does hlive hcount, (hrfi hlo).trans (bne_zero_eq_decide _), fun j hj => (hpath j).trans (if_neg hj), rfl, rfl⟩

/-- Settles O31, by what a live point shows of its overhead, and by the two ends of a capture. -/
theorem pathOverheadAndCapture : Obligations.PathOverheadAndCapture := by
  unfold Obligations.PathOverheadAndCapture
  refine ⟨fun p s => ?_, fun n s => ⟨fun m data hw => psCapGo_does n s m data hw, fun x hlen hcap hcaught => ?_, fun hcaught hvalid empty => ?_⟩⟩
  · intro k x hlive
    have hk : k < 534528 := pointKey_lt p
    obtain ⟨hrdi, hrfi⟩ := pathOverhead_does p s hlive
    obtain ⟨hrdi', hrfi', hk3'⟩ := pathRdiAccept_idle hlive
    refine ⟨fun hcount => ?_, c2Accept_idle, hrdi, hrfi, fun hcount hho => ?_, hrdi', hrfi', hk3', fun hcount => ?_, pathTraceAccept_idle⟩
    · obtain ⟨hvalid, hpath, hho, hlo⟩ := s.dev.labelAccepted_shows hk hlive x.label.value
      exact ⟨_, c2Accept_does hlive hcount, hvalid, ⟨rfl, rfl⟩, hpath, hho, hlo⟩
    · refine ⟨_, k3Accept_does hlive hcount hho, ?_, ((Dev.WordsOnly.refl _ s.dev).put (f := stK3 k) (.head _) _).state⟩
      exact s.dev.get_put_same (stK3 k) _ (show F.hoSt2K3.lo + F.hoSt2K3.len ≤ 32 by decide)
    · obtain ⟨hvalid, haccepted, htim, hcaught, hpath⟩ := s.dev.traceAccepted_shows (pointKey_lt p) hlive
      have hexec := pathTraceAccept_does hlive hcount
      obtain ⟨e, he⟩ : ∃ e, e = s.dev.pathTrace (pointKey p) := ⟨_, rfl⟩
      rw [← he] at hvalid haccepted htim hcaught hpath hexec
      refine ⟨{ s with dev := e }, hexec, hvalid, haccepted, fun hen => (htim hen).trans ?_, hcaught, hpath, rfl, rfl⟩
      rw [Dev.traceDiffersAt, bne, beq_eq_decide, decide_not]
  · obtain ⟨hend, hdone, hempty, hevt, hbytes, hframe⟩ := s.dev.capDone_shows n hlen
    have hexec := exec_traceCaptureComplete n s (empty := false) (c := true) (by rw [hcap, hcaught]; rfl)
    rw [Dev.when_eq rfl, hcaught] at hexec
    exact ⟨_, hexec, hdone, hempty, hevt, hend, hbytes, congrArg (fun d => ({ s with dev := d } : State)) hframe⟩
  · have hexec := exec_traceCaptureComplete n s (empty := empty) (c := false) (by rw [hcaught, hvalid]; simp)
    exact hexec

end Sys2Proof.Machine

/-! GFP streams: their frames, the loss of SYNC, the client signals and EXM (R130, R343 to R346). -/

namespace Sys2Proof.Machine

set_option Elab.async false -- a proof at a time, within the memory of a check

/-! What a group shows -/

/-- A frame equation for the words and the counts. -/
theorem Dev.Only.eq_shown {d e : Dev} (h : Dev.Only [.words, .acc] d e) : e = { d with words := e.words, acc := e.acc } := by
  refine h Dev (fun x => { x with words := e.words, acc := e.acc }) fun y hy => ?_
  fin_cases hy <;> exact fun _ _ => rfl

theorem Dev.wordsBut_groupBit (d : Dev) (g : Nat) (f : Field) (v : Bool) :
    Dev.WordsBut [(f.at 64 g).off, Reg.flwEvt] d (d.groupBit g f v) := by
  unfold Dev.groupBit
  split
  · exact .refl _ d
  · exact (((Dev.WordsBut.refl _ d).put (.head _) _).raise (f := F.flwEvtGrpChg) (.tail _ (.head _))).of_words (Dev.only_markGroup _ g).words

/-- A field of a group's status stands apart from the event of a change. -/
theorem flwEvt_clear (g : GroupId) {f : Field} (hf : f.off < 0x1b00_0000) {e : Field} (he : e.off = Reg.flwEvt) : e.clearOf (f.at 64 g.val) := by
  have hg := g.isLt
  refine .inl ?_
  show f.off + 64 * g.val ≠ e.off
  rw [he, Reg.flwEvt]
  omega

/-- Two fields of one group's status. -/
theorem groupField_clear (g : GroupId) {e f : Field} (h : f.off ≠ e.off ∨ e.Apart f) : (e.at 64 g.val).clearOf (f.at 64 g.val) := by
  rcases h with h | h
  · exact .inl fun hoff => h (Nat.add_right_cancel hoff)
  · exact .inr h

/-! A frame of a stream -/

section
variable {d : Dev} {g i : Nat} {bytes : List Byte}

/-- The Sieve of a stream once the frame of a slot is descrambled. -/
def Sieve.descrambled (v : Sieve) (i : Nat) (bytes : List Byte) : Sieve :=
  v.setSlot i { v.slot i with scr := (gfpDescramble (v.slot i).scr (bytes.drop 4)).2 }

/-- A frame in the alignment of a stream's ACTIVE whose core header can be read. -/
def Dev.coreRead (d : Dev) (g i : Nat) (bytes : List Byte) (corrected : Bool) : Dev :=
  (d.setGfpSieve g { (d.gfpSieve g).descrambled i bytes with errors := 0 }).when corrected (fun e =>
    (e.roll (F.grpStCorrected.at 64 g) 1).count 4 g 2 1)

variable (hruns : d.streamRuns g = true) (hst : ((d.gfpSieve g).slot i).st = .active) (htake : ((d.gfpSieve g).slot i).takeover = false)
include hruns hst htake

theorem Dev.gfpFrame_unread (hread : pairRead (d.gfpSieve g).gfpCorr (gfpCore bytes) = none) :
    d.gfpFrame g i bytes = d.setGfpSieve g { (d.gfpSieve g).descrambled i bytes with errors := ((d.gfpSieve g).descrambled i bytes).errors + 1 } := by
  unfold Dev.gfpFrame
  rw [if_neg (by rw [hruns]; decide)]
  extract_lets v x core act plain v1
  have hact : act = true := by
    show (((d.gfpSieve g).slot i).st == .active && !((d.gfpSieve g).slot i).takeover) = true
    rw [hst, htake]
    rfl
  have hpair : pairRead (act && v.gfpCorr) core = none := by rw [hact, Bool.true_and]; exact hread
  rw [hpair]
  exact if_pos hact

theorem Dev.gfpFrame_read {h : Nat × Bool} (hread : pairRead (d.gfpSieve g).gfpCorr (gfpCore bytes) = some h) : ∃ area,
    d.gfpFrame g i bytes = if ((d.coreRead g i bytes h.2).group g).broken then
        ((d.coreRead g i bytes h.2).setGroup g { (d.coreRead g i bytes h.2).group g with broken := false }).gfpDiscard g
      else if h.1 = 0 then d.coreRead g i bytes h.2 else if h.1 < 4 then (d.coreRead g i bytes h.2).gfpDiscard g
      else (d.coreRead g i bytes h.2).gfpPayload g area := by
  unfold Dev.gfpFrame
  rw [if_neg (by rw [hruns]; decide)]
  extract_lets v x core act plain v1
  have hact : act = true := by
    show (((d.gfpSieve g).slot i).st == .active && !((d.gfpSieve g).slot i).takeover) = true
    rw [hst, htake]
    rfl
  have hpair : pairRead (act && v.gfpCorr) core = some h := by rw [hact, Bool.true_and]; exact hread
  rw [hpair]
  exact ⟨_, if_pos hact⟩

end

section
variable (d : Dev) (g : GroupId) (i : Nat) (bytes : List Byte) (corrected : Bool)

theorem Dev.only_coreRead : Dev.Only [.words, .acc] (d.setGfpSieve g { (d.gfpSieve g).descrambled i bytes with errors := 0 })
    (d.coreRead g i bytes corrected) :=
  .whenStep _ fun e => ((e.only_roll _ _).mono (by decide)).step (Dev.only_count _ (by decide) _ _)

theorem Dev.errors_coreRead : ((d.coreRead g i bytes corrected).gfpSieve g).errors = 0 := by
  rw [Dev.gfpSieve, (d.only_coreRead g i bytes corrected).gfp, ← Dev.gfpSieve, Dev.gfpSieve_setGfpSieve, if_pos rfl]

theorem Dev.group_coreRead (j : Nat) : (d.coreRead g i bytes corrected).group j = d.group j := by
  rw [Dev.group, (d.only_coreRead g i bytes corrected).groups, Dev.setGfpSieve_groups, Dev.group]

theorem Dev.flow_coreRead (f : Nat) : (d.coreRead g i bytes corrected).flow f = d.flow f := by
  rw [Dev.flow, (d.only_coreRead g i bytes corrected).flows, Dev.setGfpSieve_flows, Dev.flow]

theorem Dev.reads_coreRead : Dev.Reads (F.grpStDiscarded.at 64 g) d (d.coreRead g i bytes corrected) :=
  ((Dev.Reads.refl _ d).of_only (d.only_setGfpSieve g _)).when _ fun x hx =>
    (hx.put (g := F.grpStCorrected.at 64 g) (groupField_clear g (.inl (by decide))) _).of_only (Dev.only_count _ (by decide) _ _)

/-- A discarded frame. -/
theorem Dev.discarded_gfpDiscard : (d.gfpDiscard g).get (F.grpStDiscarded.at 64 g) = (d.get (F.grpStDiscarded.at 64 g) + 1) % 2 ^ 32 := by
  refine Eq.trans ((Dev.Reads.refl _ _).of_only (Dev.only_count _ (by decide) _ _)) ?_
  exact d.get_roll_same (f := F.grpStDiscarded.at 64 g) (show F.grpStDiscarded.lo + F.grpStDiscarded.len ≤ 32 by decide) 1

theorem Dev.only_gfpDiscard : Dev.Only [.words, .acc] d (d.gfpDiscard g) :=
  ((d.only_roll _ _).mono (by decide)).step (Dev.only_count _ (by decide) _ _)

end

/-! The loss of SYNC -/

section
variable (d : Dev) (g : GroupId)

/-- The loss is counted and shown. -/
def Dev.syncLost : Dev := ((d.roll (F.grpStSyncLoss.at 64 g) 1).count 4 g 3 1).gfpLost g

theorem Dev.only_syncLost : Dev.Only [.words, .acc] d (d.syncLost g) :=
  (((d.only_roll _ _).mono (by decide)).step (Dev.only_count _ (by decide) _ _)).step (Dev.only_groupBit _ g _ _)

theorem Dev.syncLost_shows : (d.syncLost g).on (F.grpStLfd.at 64 g) = true
    ∧ (d.syncLost g).get (F.grpStSyncLoss.at 64 g) = (d.get (F.grpStSyncLoss.at 64 g) + 1) % 2 ^ 32 := by
  have hg := g.isLt
  refine ⟨Dev.on_groupBit g.val (f := F.grpStLfd) (by decide) (show 0x1a28_0000 + 64 * g.val < _ by omega) true, ?_⟩
  refine Eq.trans (((Dev.Reads.refl _ _).of_only (Dev.only_count (d.roll (F.grpStSyncLoss.at 64 g) 1) (by decide) g 1)).groupBit (b := F.grpStLfd)
    (groupField_clear g (.inl (by decide))) (flwEvt_clear g (by decide) rfl) true) ?_
  exact d.get_roll_same (f := F.grpStSyncLoss.at 64 g) (show F.grpStSyncLoss.lo + F.grpStSyncLoss.len ≤ 32 by decide) 1

/-- A Sieve that hunts, with no candidate. -/
theorem Dev.applyGfp_hunting {v : Sieve} {o : SieveOut} (hround : v.round = 0) (ho : o = { hunts := 1, hunting := true }) : ∃ x,
    d.applyGfp g (v, o) = ((d.setGfpSieve g v).put (F.grpStSlots.at 64 g) x).put (F.grpStSv.at 64 g) 0 := by
  subst ho
  refine ⟨(List.range 8).foldl (fun a i => a + (match (v.slot i).st with
    | .free => 0 | .cand => 1 | .trial => 2 | .alt => 3 | .active => 4 | .barred => 5) * 8 ^ i) 0, ?_⟩
  unfold Dev.applyGfp
  dsimp only
  rw [hround]
  rfl

theorem Dev.huntShown_reads (x : Nat) {f : Field} (hslots : f.off ≠ F.grpStSlots.off) (hsv : F.grpStSv.off ≠ f.off ∨ F.grpStSv.Apart f) :
    Dev.Reads (f.at 64 g) d ((d.put (F.grpStSlots.at 64 g) x).put (F.grpStSv.at 64 g) 0) :=
  ((Dev.Reads.refl (f.at 64 g) d).put (groupField_clear g (.inl hslots)) x).put (groupField_clear g (hsv.imp Ne.symm id)) 0

end

/-! The operations -/

section
variable (g : GroupId) (s : State)

theorem exec_gfpFrameReceived (k : Fin 8) (bytes : List Byte) :
    exec (.gfpFrameReceived g k bytes) s = .next { s with dev := s.dev.gfpFrame g k bytes } := rfl

/-- R121: a stream whose ACTIVE has failed to the end, and that has nothing else, hunts. -/
theorem gfpSyncLoss_does {k : Nat} (hst : ((s.dev.gfpSieve g).slot k).st = .active) (herr : 1 ≤ (s.dev.gfpSieve g).errors)
    (halpha : (s.dev.gfpSieve g).gfpAlpha ≤ (s.dev.gfpSieve g).errors) (hone : ∀ j, j ≠ k → ((s.dev.gfpSieve g).slot j).st ≠ .active)
    (hnone : ∀ j, ((s.dev.gfpSieve g).slot j).st ≠ .alt ∧ ((s.dev.gfpSieve g).slot j).st ≠ .trial) :
    ∃ t, exec (.gfpSyncLoss g) s = .next t ∧ t.dev.on (F.grpStLfd.at 64 g) = true ∧ t.dev.get (F.grpStSv.at 64 g) = 0
      ∧ t.dev.get (F.grpStSyncLoss.at 64 g) = (s.dev.get (F.grpStSyncLoss.at 64 g) + 1) % 2 ^ 32
      ∧ (t.dev.gfpSieve g).slot k = Sieve.demoted ((s.dev.gfpSieve g).slot k) (s.dev.gfpSieve g).gfpDelta
      ∧ KeepsMemories s t := by
  obtain ⟨v, hv⟩ : ∃ v, v = s.dev.gfpSieve g := ⟨_, rfl⟩
  have hexec : exec (.gfpSyncLoss g) s = .next { s with dev := (s.dev.syncLost g).applyGfp g (v.lose v.gfpDelta) } := by
    show execGfpSyncLoss g s = _
    rw [execGfpSyncLoss, Dev.when_eq (by rw [decide_eq_true halpha, decide_eq_true herr]; rfl), hv]
    rfl
  rw [← hv] at hst hone hnone ⊢
  rw [Sieve.lose_hunts hst hone hnone] at hexec
  obtain ⟨w, hw⟩ : ∃ w, w = { v.setSlot k (Sieve.demoted (v.slot k) v.gfpDelta) with errors := 0, round := 0 } := ⟨_, rfl⟩
  have hslot : w.slot k = Sieve.demoted (v.slot k) v.gfpDelta := by
    rw [hw]
    exact Sieve.slot_setSlot_same (Sieve.lt_of_st (by rw [hst]; decide)) (Sieve.demoted (v.slot k) v.gfpDelta)
  have hround : w.round = 0 := by rw [hw]
  rw [← hw] at hexec
  obtain ⟨hlfd, hloss⟩ := s.dev.syncLost_shows g
  obtain ⟨x, hx⟩ := (s.dev.syncLost g).applyGfp_hunting g hround rfl
  have hsieve := (s.dev.syncLost g).gfpSieve_applyGfp g (w, { hunts := 1, hunting := true }) g
  rw [if_pos rfl] at hsieve
  obtain ⟨y, hy⟩ : ∃ y, y = (s.dev.syncLost g).applyGfp g (w, { hunts := 1, hunting := true }) := ⟨_, rfl⟩
  rw [← hy] at hx hsieve hexec
  have hreads {f : Field} (hslots : f.off ≠ F.grpStSlots.off) (hsv : F.grpStSv.off ≠ f.off ∨ F.grpStSv.Apart f) :
      Dev.Reads (f.at 64 g) (s.dev.syncLost g) y :=
    Eq.trans (hx ▸ ((s.dev.syncLost g).setGfpSieve g w).huntShown_reads g x hslots hsv) (Dev.setGfpSieve_get ..)
  refine ⟨_, hexec, (hreads (f := F.grpStLfd) (by decide) (.inr (by decide))).on.trans hlfd, ?_,
    Eq.trans (hreads (f := F.grpStSyncLoss) (by decide) (.inl (by decide))) hloss, (congrArg (Sieve.slot · k) hsieve).trans hslot, rfl, rfl⟩
  show y.get _ = 0
  rw [hx]
  exact Dev.get_put_same _ (F.grpStSv.at 64 g) 0 (show F.grpStSv.lo + F.grpStSv.len ≤ 32 by decide)

/-- R346: CSF ends when no CSF frame has come for long. -/
theorem csfClear_does {at' : Nat} (hat : (s.dev.group g).csfAt = some at') (hdue : at' + 300 * 622080 ≤ s.dev.now) (hon : s.dev.on (F.grpStCsf.at 64 g) = true) :
    ∃ t, exec (.csfClear g) s = .next t ∧ t.dev.on (F.grpStCsf.at 64 g) = false ∧ t.dev.on F.flwEvtCsfChg = true
      ∧ Dev.WordsBut [(F.grpStCsf.at 64 g).off, Reg.flwEvt] s.dev t.dev
      ∧ t = { s with dev := { s.dev with words := t.dev.words, acc := t.dev.acc } } := by
  have hg := g.isLt
  have hexec : exec (.csfClear g) s = .next { s with dev := (s.dev.groupBit g F.grpStCsf false).raise F.flwEvtCsfChg } := by
    show execCsfClear g s = _
    rw [execCsfClear, hat]
    dsimp only
    rw [Dev.when_eq (c := decide (at' + 300 * ticksPerMs ≤ s.dev.now)) (decide_eq_true hdue), Dev.setCsf, if_neg (by rw [hon]; decide)]
  have hclear := Dev.on_groupBit (d := s.dev) g.val (f := F.grpStCsf) (by decide) (show 0x1a28_0000 + 64 * g.val < _ by omega) false
  have honly : Dev.Only [.words, .acc] s.dev ((s.dev.groupBit g F.grpStCsf false).raise F.flwEvtCsfChg) :=
    (s.dev.only_groupBit g _ _).step (Dev.only_raise _ _)
  refine ⟨_, hexec, (((Dev.Reads.refl (F.grpStCsf.at 64 g) _).raise (flwEvt_clear g (by decide) rfl)).on).trans hclear, Dev.on_raise _ _ (by decide) (by decide),
    (s.dev.wordsBut_groupBit g F.grpStCsf false).raise (f := F.flwEvtCsfChg) (.tail _ (.head _)), ?_⟩
  exact congrArg (fun d => ({ s with dev := d } : State)) honly.eq_shown

/-- R346: a CSF frame goes out. -/
theorem csfSend_does (hdue : (s.dev.group g).csfSent = none ∨ ∃ at', (s.dev.group g).csfSent = some at' ∧ at' + 100 * 622080 ≤ s.dev.now)
    (hcsf : s.dev.csfDue g = true) :
    ∃ t, exec (.csfSend g) s = .next t ∧ (t.dev.group g).csfSent = some s.dev.now
      ∧ (∀ j, j ≠ g.val → t.dev.group j = s.dev.group j) ∧ t = { s with dev := { s.dev with groups := t.dev.groups } } := by
  have hexec : exec (.csfSend g) s = .next { s with dev := s.dev.setGroup g { s.dev.group g with
      csfSent := some s.dev.now, csfWait := some (if s.dev.get (F.grpCsfTx.at 32 g) = 2 then 2 else 1) } } := by
    show execCsfSend g s = _
    rw [execCsfSend]
    rcases hdue with hdue | ⟨at', hdue, htime⟩
    · rw [hdue]
      dsimp only
      rw [Dev.when_eq (by rw [hcsf]; rfl)]
    · rw [hdue]
      dsimp only
      rw [Dev.when_eq (by rw [hcsf, Bool.and_true]; exact decide_eq_true htime)]
  refine ⟨_, hexec, ?_, fun j hj => ?_, rfl⟩
  · rw [Dev.group, Dev.setGroup, Store.get_set, if_pos rfl]
  · rw [Dev.group, Dev.setGroup, Store.get_set, if_neg hj, Dev.group]

/-- R345: EXM is declared. -/
theorem exmDeclare_does (hbad : 3 ≤ (s.dev.group g).exmBad) (hok : (s.dev.group g).exmOk < 3) :
    ∃ t, exec (.exmDeclare g) s = .next t ∧ t.dev.on (F.grpStExm.at 64 g) = true
      ∧ Dev.WordsBut [(F.grpStExm.at 64 g).off, Reg.flwEvt] s.dev t.dev
      ∧ t = { s with dev := { s.dev with words := t.dev.words, acc := t.dev.acc } } := by
  have hg := g.isLt
  have hexec : exec (.exmDeclare g) s = .next { s with dev := s.dev.groupBit g F.grpStExm true } := by
    show execExmDeclare g s = _
    rw [execExmDeclare, decide_eq_false (Nat.not_le.mpr hok), Dev.when_eq (decide_eq_true hbad)]
    rfl
  refine ⟨_, hexec, Dev.on_groupBit g.val (f := F.grpStExm) (by decide) (show 0x1a28_0000 + 64 * g.val < _ by omega) true,
    s.dev.wordsBut_groupBit g F.grpStExm true, ?_⟩
  exact congrArg (fun d => ({ s with dev := d } : State)) (s.dev.only_groupBit g F.grpStExm true).eq_shown

end

/-! The frames of a stream that runs -/

section
variable {g : GroupId} {k : Fin 8} {s : State} {bytes : List Byte} (hruns : s.dev.streamRuns g = true)
  (hst : ((s.dev.gfpSieve g).slot k).st = .active) (htake : ((s.dev.gfpSieve g).slot k).takeover = false)
include hruns hst htake

theorem gfpFrameReceived_unread (hread : pairRead (s.dev.gfpSieve g).gfpCorr (gfpCore bytes) = none) :
    ∃ t, exec (.gfpFrameReceived g k bytes) s = .next t ∧ (t.dev.gfpSieve g).errors = (s.dev.gfpSieve g).errors + 1
      ∧ (∀ j, j ≠ g.val → t.dev.gfpSieve j = s.dev.gfpSieve j) ∧ t = { s with dev := { s.dev with gfp := t.dev.gfp } } := by
  refine ⟨_, exec_gfpFrameReceived g s k bytes, ?_⟩
  rw [Dev.gfpFrame_unread hruns hst htake hread]
  refine ⟨?_, fun j hj => ?_, rfl⟩
  · rw [Dev.gfpSieve_setGfpSieve, if_pos rfl]
    rfl
  · rw [Dev.gfpSieve_setGfpSieve, if_neg hj]

theorem gfpFrameReceived_idle (hread : pairRead (s.dev.gfpSieve g).gfpCorr (gfpCore bytes) = some (0, false)) (hbroken : (s.dev.group g).broken = false) :
    ∃ t, exec (.gfpFrameReceived g k bytes) s = .next t ∧ (t.dev.gfpSieve g).errors = 0
      ∧ (∀ j, j ≠ g.val → t.dev.gfpSieve j = s.dev.gfpSieve j) ∧ t = { s with dev := { s.dev with gfp := t.dev.gfp } } := by
  obtain ⟨area, hframe⟩ := Dev.gfpFrame_read hruns hst htake hread
  rw [Dev.group_coreRead, hbroken, if_neg Bool.false_ne_true, if_pos rfl, Dev.coreRead, Dev.when, if_neg Bool.false_ne_true] at hframe
  refine ⟨_, exec_gfpFrameReceived g s k bytes, ?_⟩
  rw [hframe]
  refine ⟨?_, fun j hj => ?_, rfl⟩
  · rw [Dev.gfpSieve_setGfpSieve, if_pos rfl]
  · rw [Dev.gfpSieve_setGfpSieve, if_neg hj]

/-- The first frame after a change of the alignment delay. -/
theorem gfpFrameReceived_broken {h : Nat × Bool} (hread : pairRead (s.dev.gfpSieve g).gfpCorr (gfpCore bytes) = some h) (hbroken : (s.dev.group g).broken = true) :
    ∃ t, exec (.gfpFrameReceived g k bytes) s = .next t ∧ (t.dev.gfpSieve g).errors = 0 ∧ (t.dev.group g).broken = false
      ∧ t.dev.get (F.grpStDiscarded.at 64 g) = (s.dev.get (F.grpStDiscarded.at 64 g) + 1) % 2 ^ 32
      ∧ KeepsMemories s t ∧ ∀ f, t.dev.flow f = s.dev.flow f := by
  obtain ⟨area, hframe⟩ := Dev.gfpFrame_read hruns hst htake hread
  have hexec := exec_gfpFrameReceived g s k bytes
  rw [Dev.group_coreRead, hbroken, if_pos rfl] at hframe
  have herrors := s.dev.errors_coreRead g k bytes h.2
  have hdiscarded := s.dev.reads_coreRead g k bytes h.2
  have hflow := s.dev.flow_coreRead g k bytes h.2
  obtain ⟨e, he⟩ : ∃ e, e = s.dev.coreRead g k bytes h.2 := ⟨_, rfl⟩
  rw [← he] at hframe herrors hdiscarded hflow
  obtain ⟨x, hx⟩ : ∃ x, x = e.setGroup g { s.dev.group g with broken := false } := ⟨_, rfl⟩
  rw [← hx] at hframe
  have honly := x.only_gfpDiscard g
  rw [hframe] at hexec
  refine ⟨_, hexec, ?_, ?_, ?_, ⟨rfl, rfl⟩, fun f => ?_⟩
  · dsimp only
    rw [Dev.gfpSieve, honly.gfp, hx, Dev.setGroup_gfp, ← Dev.gfpSieve, herrors]
  · dsimp only
    rw [Dev.group, honly.groups, hx, Dev.setGroup, Store.get_set, if_pos rfl]
  · refine (x.discarded_gfpDiscard g).trans ?_
    rw [hx, Dev.get_congr (Dev.setGroup_words ..), show e.get _ = _ from hdiscarded]
  · dsimp only
    rw [Dev.flow, honly.flows, hx, Dev.setGroup_flows, ← Dev.flow, hflow]

/-- A control frame that is not idle. -/
theorem gfpFrameReceived_control {h : Nat × Bool} (hread : pairRead (s.dev.gfpSieve g).gfpCorr (gfpCore bytes) = some h) (hlow : 1 ≤ h.1) (hhigh : h.1 < 4) :
    ∃ t, exec (.gfpFrameReceived g k bytes) s = .next t ∧ (t.dev.gfpSieve g).errors = 0
      ∧ t.dev.get (F.grpStDiscarded.at 64 g) = (s.dev.get (F.grpStDiscarded.at 64 g) + 1) % 2 ^ 32
      ∧ t.mem = s.mem ∧ t.flash = s.flash := by
  cases hbroken : (s.dev.group g).broken with
  | true =>
    obtain ⟨t, hexec, herrors, -, hdiscarded, ⟨hmem, hflash⟩, -⟩ := gfpFrameReceived_broken hruns hst htake hread hbroken
    exact ⟨t, hexec, herrors, hdiscarded, hmem, hflash⟩
  | false =>
    obtain ⟨area, hframe⟩ := Dev.gfpFrame_read hruns hst htake hread
    have hexec := exec_gfpFrameReceived g s k bytes
    rw [Dev.group_coreRead, hbroken, if_neg Bool.false_ne_true, if_neg (Nat.ne_of_gt hlow), if_pos hhigh] at hframe
    have herrors := s.dev.errors_coreRead g k bytes h.2
    have hdiscarded := s.dev.reads_coreRead g k bytes h.2
    obtain ⟨e, he⟩ : ∃ e, e = s.dev.coreRead g k bytes h.2 := ⟨_, rfl⟩
    rw [← he] at hframe herrors hdiscarded
    rw [hframe] at hexec
    refine ⟨_, hexec, ?_, ?_, rfl, rfl⟩
    · dsimp only
      rw [Dev.gfpSieve, (e.only_gfpDiscard g).gfp, ← Dev.gfpSieve, herrors]
    · refine (e.discarded_gfpDiscard g).trans ?_
      rw [show e.get _ = _ from hdiscarded]

end

/-- Settles O34, by the frame's core header, the loss of SYNC, and the timed client signals. -/
theorem gfpStreamAndClientSignals : Obligations.GfpStreamAndClientSignals := by
  unfold Obligations.GfpStreamAndClientSignals
  refine ⟨fun g k s => ?_, fun g s => ⟨fun at' hat hdue hon => csfClear_does g s hat hdue hon, csfSend_does g s, exmDeclare_does g s⟩⟩
  intro v hruns hst htake
  exact ⟨fun bytes => ⟨gfpFrameReceived_unread hruns hst htake, gfpFrameReceived_idle hruns hst htake,
      fun pli c hread hbroken => gfpFrameReceived_broken hruns hst htake hread hbroken,
      fun pli c hread hlow hhigh => gfpFrameReceived_control hruns hst htake hread hlow hhigh⟩,
    fun herr halpha hone hnone => gfpSyncLoss_does g s hst herr halpha hone hnone⟩

end Sys2Proof.Machine

/-! A warm reset settles every point that the device keeps a state of, whatever its key (R634, R638). -/

namespace Sys2Proof.Machine

set_option Elab.async false -- a proof at a time, within the memory of a check

/-! What leaves the requested mode -/

/-- A field beside the device's page. -/
theorem modeReq_clear {g : Field} (h : g.off < 0x1_0000_0000 ∨ 0x1_0001_0000 ≤ g.off) : g.clearOf F.devModeReqReq :=
  .inl (show 0x1_0000_0144 ≠ g.off by omega)

theorem modeReq_clear_at {b : Field} {n i m : Nat} (hi : i < m) (hb : b.off + n * m < 0x1_0000_0000) : (b.at n i).clearOf F.devModeReqReq :=
  modeReq_clear (.inl (Nat.lt_of_le_of_lt (Nat.add_le_add_left (Nat.mul_le_mul_left n (Nat.le_of_lt hi)) b.off) hb))

namespace Dev.Reads

variable {d e : Dev}

abbrev ModeReq (d e : Dev) : Prop := Dev.Reads F.devModeReqReq d e

theorem modeReq_group (h : ModeReq d e) {g : Nat} (hg : g < 2 ^ 14) {b : Field} (hb : b.off < 0x1a30_0000) (v : Bool) : ModeReq d (e.groupBit g b v) :=
  h.groupBit (modeReq_clear_at hg (by omega)) (modeReq_clear (.inr (by decide))) v

theorem modeReq_gfpRestart (h : ModeReq d e) {g : Nat} (hg : g < 2 ^ 14) : ModeReq d (e.gfpRestart g) := by
  unfold Dev.gfpRestart
  extract_lets d1
  have h0 : ModeReq d (e.setGfpSieve g (e.gfpSieve g).restart) := h.of_only (e.only_setGfpSieve g _)
  have h1 : ModeReq d d1 := (h0.put (g := F.grpStSv.at 64 g) (modeReq_clear_at hg (by decide)) 0).put (g := F.grpStSlots.at 64 g)
    (modeReq_clear_at hg (by decide)) 0
  exact (h1.setGroup g _).modeReq_group hg (by decide) true

theorem modeReq_member (h : ModeReq d e) {i : Nat} (hi : i < 131072) {b : Field} (hb : b.off < 0x1a60_0000) (v : Nat) : ModeReq d (e.put (b.at 8 i) v) :=
  h.put (modeReq_clear_at hi (by omega)) v

theorem modeReq_showSink (h : ModeReq d e) (g : Nat) {i : Nat} (hi : i < 131072) : ModeReq d (e.showSink g i) := by
  unfold Dev.showSink
  extract_lets ok c st d1
  have h1 : ModeReq d d1 := (h.modeReq_member hi (by decide) _).modeReq_member hi (by decide) _
  exact h1.when _ fun x hx => (hx.raise (g := F.flwEvtLcasChg) (modeReq_clear (.inr (by decide)))).of_only (Dev.only_count _ (by decide) _ _)

theorem modeReq_sinkUpdate (h : ModeReq d e) {g : Nat} (hg : g < 2 ^ 14) : ModeReq d (e.sinkUpdate g) := by
  unfold Dev.sinkUpdate
  extract_lets l use before d1 after ack src d2 loa d3 d4 late want runs was align src'
  have hl (i : Nat) (hi : i ∈ l) : i < 131072 := e.side_lt hi
  have h1 : ModeReq d d1 := h.foldl fun x i hi hx => hx.modeReq_showSink g (hl i hi)
  have h2 : ModeReq d d2 := (h1.setGroup g _).foldl fun x i hi hx => hx.modeReq_member (hl i hi) (by decide) _
  have h3 : ModeReq d d3 := ((h2.modeReq_group hg (by decide) _).modeReq_group hg (by decide) _).modeReq_group hg (by decide) _
  have h4 : ModeReq d d4 := (h3.put (g := F.grpStDdelay.at 64 g) (modeReq_clear_at hg (by decide)) _).put (g := F.grpStSnkUse.at 64 g)
    (modeReq_clear_at hg (by decide)) _
  exact (h4.setGroup g _).when _ fun x hx => hx.modeReq_gfpRestart hg

theorem modeReq_setSource (h : ModeReq d e) {i : Nat} (hi : i < 131072) (st sq : Nat) : ModeReq d (e.setSource i st sq) := by
  have hput : ModeReq d (((e.put (F.memStState.at 8 i) st).put (F.memStCtrl.at 8 i) (ctrlOf st)).put (F.memStSq.at 8 i) sq) :=
    ((h.modeReq_member hi (by decide) _).modeReq_member hi (by decide) _).modeReq_member hi (by decide) _
  have hmoved (x : Dev) (hx : ModeReq d x) (was : Nat) : ModeReq d (x.lcasMoved i was) :=
    hx.when _ fun y hy => (hy.raise (g := F.flwEvtLcasChg) (modeReq_clear (.inr (by decide)))).of_only (Dev.only_count _ (by decide) _ _)
  exact (hmoved _ hput _).when _ fun x hx => hx.of_only (x.only_note 5 i)

theorem modeReq_sourceUse (h : ModeReq d e) {g : Nat} (hg : g < 2 ^ 14) : ModeReq d (e.showSourceUse g) :=
  h.put (g := F.grpStSrcUse.at 64 g) (modeReq_clear_at hg (by decide)) _

theorem modeReq_startMember (h : ModeReq d e) {i : Nat} (hi : i < 131072) : ModeReq d (e.startMember i) := by
  unfold Dev.startMember
  extract_lets g d1
  have hg : g < 2 ^ 14 := e.get_lt (F.mem1Group.at 8 i)
  have hne : (0x1_0000_0144 : Nat) ≠ 0x1A50_0000 + 8 * i := by omega
  have h1 : ModeReq d d1 := Eq.trans (congrArg (getF · 0 3) (Dev.word_setWord_other _ 0 hne)) (h.of_only (e.only_setMember i {}))
  split
  · exact (h1.modeReq_member hi (b := F.memStFailPtr) (by decide) 1).modeReq_sinkUpdate hg
  · split
    · exact ((h1.modeReq_member hi (by decide) _).modeReq_setSource hi _ _).modeReq_sourceUse hg
    · exact (((h1.modeReq_setSource hi _ _).of_only (Dev.only_setMember _ i _)).modeReq_sourceUse hg)

theorem modeReq_flowReset (h : ModeReq d e) : ModeReq d e.flowReset := by
  unfold Dev.flowReset
  extract_lets empty lanes d1 d2 d3 d4
  have h2 : ModeReq d d2 := (Dev.Reads.put (e := d1) h (g := F.psqCountL2fBytes) (modeReq_clear (.inr (by decide))) 0).put (g := F.psqCountF2lBytes)
    (modeReq_clear (.inr (by decide))) 0
  have h3 : ModeReq d d3 := h2.foldl fun x f hf hx => by
    have hlt : f < 65536 := d2.enabledIn_lt (List.mem_filter.mp hf).1
    exact (hx.put (g := F.ctxStL2f.at 16 f) (modeReq_clear_at hlt (by decide)) 0).put (g := F.ctxStF2l.at 16 f) (modeReq_clear_at hlt (by decide)) 0
  have h4 : ModeReq d d4 := h3.foldl fun x i hi hx => hx.modeReq_startMember (d3.enabledIn_lt hi)
  refine h4.foldl fun x g hg hx => hx.modeReq_gfpRestart ?_
  obtain ⟨y, -, hy⟩ := List.mem_filterMap.mp hg
  split at hy
  case isTrue hrange =>
    obtain ⟨hlo, hhi, -, -⟩ := hrange
    obtain rfl := Option.some.inj hy
    exact Nat.div_lt_of_lt_mul (by omega)
  case isFalse => exact nomatch hy

theorem modeReq_lrcDown (h : ModeReq d e) : ModeReq d e.lrcDown := by
  refine h.each 4 fun x n _ hx => ?_
  unfold Dev.squelchLrc
  split
  · exact hx
  · exact (hx.raise (g := F.clkLrcSquelched.at 4 n) (modeReq_clear (.inr (Nat.le_trans (by decide) (Nat.le_add_right _ _))))).raise (g := clkEvent 6)
      (modeReq_clear (.inr (by decide)))

theorem modeReq_setMode (h : ModeReq d e) (m : Nat) : ModeReq d (e.setMode m) := by
  unfold Dev.setMode
  extract_lets x
  have hresumed : ModeReq d (e.when (decidingMode m && !decidingMode e.mode) Dev.resumeTimers) :=
    h.when _ fun y hy => hy.of_words y.resumeTimers_words
  have hx : ModeReq d x := hresumed.when _ fun y hy => by
    unfold Dev.panelMode
    split
    · exact ((hy.lower (g := F.pnlStatAcoQueued) (modeReq_clear (.inr (by decide)))).raise (g := F.pnlStatAco) (modeReq_clear (.inr (by decide)))).raise
        (g := F.pnlEvtAco) (modeReq_clear (.inr (by decide)))
    · split
      · exact hy
      · exact hy
  split
  · exact hx
  · exact (((hx.put (g := F.devModePrev) (.inl (by decide)) _).put (g := F.devModeMode) (.inl (by decide)) _).put (g := F.devModeChanges)
      (.inl (by decide)) _).raise (g := ⟨Reg.hdrSticky + 0x1_0000_0000, 1, 1⟩) (.inl (by decide))

theorem modeReq_debugUpdate {c : Chip} (h : ModeReq d c.dev) : ModeReq d c.debugUpdate.dev :=
  h.trans (c.debugUpdate_shows.1.fields F.devModeReqReq (by decide) (by decide) (by decide))

end Dev.Reads

/-! What leaves the configuration of the points -/

section
variable {d e : Dev}

theorem Dev.ConfigKept.of_only {S : List Part} {x : Dev} (h : d.ConfigKept e) (hx : Dev.Only S e x) (hS : Part.paths ∉ S := by decide) : d.ConfigKept x :=
  h.of_paths (hx.paths hS)

theorem Dev.ConfigKept.restartLane (h : d.ConfigKept e) (n : Nat) : d.ConfigKept (e.restartLane n) := by
  have hreceive {x : Dev} (hx : d.ConfigKept x) : d.ConfigKept (x.receiveRestart n) := by
    unfold Dev.receiveRestart
    extract_lets l s d1 d2 d3 d4
    have h1 : d.ConfigKept d1 := hx.of_only (x.only_setLane n _)
    have h2 : d.ConfigKept d2 := ((h1.of_only (d1.only_rewindOwn n)).of_only (Dev.only_cutPackets _ n)).of_only
      ((((((Dev.only_put _ _ _).step (Dev.only_put _ _ _)).step (Dev.only_lower _ _)).step (Dev.only_lower _ _)).step (Dev.only_lower _ _)))
    have h3 : d.ConfigKept d3 := h2.of_only (.foldl _ fun y o _ => y.only_setWord _ _)
    have h4 : d.ConfigKept d4 := ((h3.of_only (d3.only_setWord _ _)).of_only (Dev.only_setDefect _ n _ _)).of_only (Dev.only_setDefect _ n _ _)
    exact (h4.of_only ((Dev.only_put _ _ _).step (Dev.only_lower _ _))).of_only (Dev.only_protSee _)
  unfold Dev.restartLane
  extract_lets _ d1 loft d2 mate d3
  have h1 : d.ConfigKept d1 := h.of_only (e.only_setLane n _)
  have h2 : d.ConfigKept d2 := Dev.when_keeps (h1.of_only ((d1.only_put _ _).step (Dev.only_put _ _ _))) fun x hx => hx.of_only (x.only_setLof n false)
  have hmate : d.ConfigKept (if n < 96 then d2 else { d2 with mate := { mate with excluded := mate.excluded.filter (fun x => x != n - 96) } }) := by
    split
    · exact h2
    · exact h2
  have h3 : d.ConfigKept d3 := ((hreceive hmate).of_only (Dev.only_setLane _ n _)).of_only (Dev.only_setSv _ n svHunt)
  split
  · unfold Dev.settleLane
    refine List.foldlRecOn (motive := d.ConfigKept) _ _ (List.foldlRecOn (motive := d.ConfigKept) _ _ h3 fun x hx k _ =>
      hx.trans (x.configKept_settlePoint false k)) fun x hx g _ => hx.of_only (x.only_showCfgErr _)
  · exact h3

theorem Dev.ConfigKept.laneReset (h : d.ConfigKept e) (n : Nat) : d.ConfigKept (e.laneReset n) := by
  unfold Dev.laneReset
  extract_lets x l soh sv
  have hx : d.ConfigKept x := (h.of_only (e.only_cutPackets n)).of_only (Dev.only_rewindOwn _ n)
  refine Dev.when_keeps (Dev.when_keeps ((hx.of_only (x.only_setLane n _)).restartLane n) fun y hy => ?_) fun y hy => hy.of_only y.only_psqNote
  unfold Dev.prbsStart
  split
  · exact Dev.ConfigKept.of_only (e := { y with fresh := y.fresh + 1 }) hy (Dev.only_setLane _ n _)
  · exact hy.of_only (y.only_setLane n _)

/-- A lower-order point that is not monitored has no interpreter. -/
theorem Dev.interpreterOf_unmonitored {k : Nat} (hho : isHo k = false) (hcfg : (d.path k).cfg = 0) : d.interpreterOf k = none := by
  have hmon : d.monEn k = false := by rw [Dev.monEn, Dev.pathBit, hcfg, hho]; rfl
  unfold Dev.interpreterOf
  extract_lets n g ws w kind
  split
  · rfl
  · rw [hho, hmon, if_neg Bool.false_ne_true, if_neg fun h => Bool.false_ne_true h.2]

/-- A point without an interpreter shows IDLE. -/
theorem Dev.pstate_settled_none {k : Nat} (hk : isHo k = false) (hsum : (stPstate k).off < 0x1_0010_0000) (hi : d.interpreterOf k = none) :
    (d.settlePoint false k).pstate k = psIdle := by
  unfold Dev.settlePoint
  extract_lets st old
  rw [hi]
  dsimp only
  split
  case isTrue hst => exact Eq.trans ((Dev.Reads.refl (stPstate k) d).of_only (d.only_markOnes k)) hst
  case isFalse =>
    refine Eq.trans ((((Dev.Reads.refl (stPstate k) (d.idlePoint k)).pathSummary hsum k old)).of_only (Dev.only_markOnes _ k)) ?_
    rw [Dev.idlePoint, hk, Dev.when, if_neg Bool.false_ne_true, stPstate_eq, Dev.get, Dev.word_setWord_same]
    show getF (putF 0 0 3 psIdle) 0 3 = psIdle
    decide

end

/-! A warm reset -/

/-- The first steps of a warm reset. -/
def Dev.warmFirst (d : Dev) : Dev :=
  let busy := (List.range 4).filter (fun n => d.on (mbField F.pnlMbStatBusy n))
  let paired := d.role != roleSolo
  let d1 := (d.abortLedger 0).releaseLid
  let d2 := d1.warmWords
  let d3 := ({ d2 with
    mate := { released := d2.mate.released }
    snaps := []
    modes := { d2.modes with building := false, stageDone := 0, inReset := .warm, hbmKept := d.hbmTrained || d.modes.hbmKept,
                             offDue := [], skew := [] } } : Dev)
  let d4 := d3.when paired Dev.enterRejoin
  let d5 := (((d4.portCut).abortBurst 0).abortBurst 1).abortBurst 2
  let d6 := (((d5.abortBurst 3).abortBurst 4).abortBurst 5).abortBurst 6
  ((d6.warmMemory.warmMgt).warmBuses busy).groomReset

/-- Its other steps, from those of the lanes and points on. -/
def Dev.warmRest (d : Dev) (last : Nat) : Dev :=
  let d8 := (d.warmLanes.protReset).lrcDown
  let d9 := (d8.setMode modeBoot).put F.devResetStatLast last
  let d10 := d9.bump F.devResetStatWarmCount 1
  ({ d10 with modes := { d10.modes with warmRequested := false } } : Dev).setPort { d10.port with ignoring := false }

theorem Dev.warm_eq (d : Dev) : d.warm = d.warmFirst.warmRest (if d.modes.warmRequested then 2 else 1) := by
  unfold Dev.warm Dev.warmFirst Dev.warmRest
  rfl

theorem Dev.only_protReset (d : Dev) : Dev.Only [.msp, .snc, .applies] d d.protReset := by
  unfold Dev.protReset
  extract_lets again
  exact fun α p hp =>
    (hp .applies (by decide) { d with msp := Store.remap (fun _ => {}) again d.msp, snc := Store.remap (fun _ => {}) again d.snc } []).trans
      ((hp .snc (by decide) { d with msp := Store.remap (fun _ => {}) again d.msp } _).trans (hp .msp (by decide) d _))

/-- What follows the reset of the lanes and points leaves the requested mode. -/
theorem Dev.Reads.modeReq_warmRest {d : Dev} (last : Nat) : Dev.Reads.ModeReq d.warmLanes (d.warmRest last) := by
  unfold Dev.warmRest
  extract_lets d8 d9 d10
  have h8 : Dev.Reads.ModeReq d.warmLanes d8 := ((Dev.Reads.refl _ _).of_only d.warmLanes.only_protReset).modeReq_lrcDown
  have h9 : Dev.Reads.ModeReq d.warmLanes d9 := (h8.modeReq_setMode modeBoot).put (g := F.devResetStatLast) (.inl (by decide)) last
  have h10 : Dev.Reads.ModeReq d.warmLanes d10 := h9.put (g := F.devResetStatWarmCount) (.inl (by decide)) _
  exact Dev.Reads.of_words (e := { d10 with modes := { d10.modes with warmRequested := false } }) (h10.of_words rfl) (Dev.setPort_words ..)

/-- The reset of a device with the state of one lower-order point, which is not monitored, shows that point as IDLE. -/
theorem Dev.pstate_warmLanes {d : Dev} {k : Nat} {p : PathSt} (hpaths : d.paths = [(k, p)]) (hcfg : p.cfg = 0) (hho : isHo k = false)
    (haddr : stPstate k = F.devModeReqReq) : d.warmLanes.modeReq = psIdle := by
  unfold Dev.warmLanes
  extract_lets keys _ d1 d2 d3
  have hkeys : keys = [k] := by unfold keys; rw [hpaths]; rfl
  have hone : (d1.path k).cfg = 0 := by
    show (Store.get (fun _ => {}) (Store.remap (fun _ => {}) (fun p : PathSt => { cfg := p.cfg, trc := p.trc }) d.paths) k).cfg = 0
    rw [hpaths, Store.remap, List.foldl_cons, List.foldl_nil, Store.get_set, if_pos rfl]
    exact hcfg
  have hlanes : d1.ConfigKept d2 := List.foldlRecOn (motive := d1.ConfigKept) _ _ (fun _ => ⟨rfl, rfl⟩) fun x hx n _ => hx.laneReset n
  have hnone : d2.interpreterOf k = none := Dev.interpreterOf_unmonitored hho ((hlanes k).1.trans hone)
  have hidle : d3.modeReq = psIdle := by
    show ((keys.foldl (fun (e : Dev) k => e.settlePoint false k) d2)).get F.devModeReqReq = psIdle
    rw [hkeys, ← haddr]
    exact Dev.pstate_settled_none hho (by rw [haddr]; decide) hnone
  have hshow : Dev.Reads.ModeReq d3 (d3.structs.foldl (fun (e : Dev) x => e.showCfgErr x.1) d3) :=
    (Dev.Reads.refl _ d3).foldl fun x i _ hx => hx.foldl fun y b _ hy => hy.when _ fun z hz =>
      hz.put (g := stCfgErr (3 * i.1 + b)) (.inr ⟨show F.hoSt2CfgErr.lo + F.hoSt2CfgErr.len ≤ 32 by decide, by decide,
        .inl (show F.devModeReqReq.lo + F.devModeReqReq.len ≤ F.hoSt2CfgErr.lo by decide)⟩) _
  exact Eq.trans hshow.modeReq_flowReset hidle

/-- The point whose status word would stand where `DEV.MODE_REQ` does. -/
def strayKey : Nat := 18432 + (0x1_0000_0144 - 0x1C80_0000) / 4

/-- A device that keeps the state of that point. -/
def strayState : State := { dev := { paths := [(strayKey, {})], modes := { inReset := .no } } }

theorem strayState_paths : strayState.dev.warmFirst.paths = [(strayKey, {})] := by decide +kernel

theorem exec_warmReset (s : State) : exec .warmReset s = .next (s.setChip (s.chip.when (s.chip.dev.modes.inReset == .no) Chip.warmReset)) := rfl

theorem warmReset_does {s : State} (hreset : s.dev.modes.inReset = .no) (hposted : s.dev.port.posted = []) (htimed : s.dev.port.timedOut = false) :
    exec .warmReset s = .next (s.setChip (s.chip.on Dev.warm).debugUpdate) := by
  have hchip : s.chip.warmReset = (s.chip.on Dev.warm).debugUpdate := by
    rw [Chip.warmReset, if_neg (by rw [show s.chip.dev.port.timedOut = _ from htimed]; decide), Chip.commitPosted_of_nil (c := s.chip) hposted,
      Chip.commitPosted_of_nil (c := s.chip) hposted]
  rw [exec_warmReset, Chip.when_eq (by rw [show s.chip.dev.modes.inReset = _ from hreset]; rfl), hchip]

theorem State.modeReq_warmReset {s : State} {k : Nat} {p : PathSt} (hpaths : s.dev.warmFirst.paths = [(k, p)]) (hcfg : p.cfg = 0) (hho : isHo k = false)
    (haddr : stPstate k = F.devModeReqReq) : (s.chip.on Dev.warm).debugUpdate.dev.modeReq = psIdle := by
  have hwarm : Dev.Reads.ModeReq s.dev.warmFirst.warmLanes s.dev.warm := by
    rw [Dev.warm_eq]
    exact Dev.Reads.modeReq_warmRest _
  exact Eq.trans (Dev.Reads.modeReq_debugUpdate (c := s.chip.on Dev.warm) hwarm) (Dev.pstate_warmLanes hpaths hcfg hho haddr)

/-- Refutes O58: the points that a warm reset settles are those that the device keeps a state of, and one of a key beyond the last point shows
IDLE where `DEV.MODE_REQ` stands, which is then not 0. -/
theorem not_resets : ¬ Obligations.Resets := by
  unfold Obligations.Resets
  intro h
  obtain ⟨-, hwarm, -⟩ := h strayState
  obtain ⟨t, hexec, -, -, -, -, -, -, -, -, hreq, -⟩ := hwarm rfl rfl rfl
  have hidle := strayState.modeReq_warmReset strayState_paths rfl (by decide) (by rw [stPstate_eq]; decide)
  rw [warmReset_does rfl rfl rfl] at hexec
  obtain ⟨c, hc⟩ : ∃ c, c = (strayState.chip.on Dev.warm).debugUpdate := ⟨_, rfl⟩
  rw [← hc] at hidle hexec
  obtain rfl := Host.Outcome.next.inj hexec
  exact absurd (hidle.symm.trans hreq) (by decide)

end Sys2Proof.Machine

/-! The pass of the Ladle (R399 to R408). -/

namespace Sys2Proof.Machine

set_option Elab.async false -- a proof at a time, within the memory of a check

/-! The projections that depend on one part -/

theorem Part.blind_ladle (x : Part) (h : x ≠ .ladle) : x.Blind Dev.ladle := by
  cases x
  case ladle => exact absurd rfl h
  all_goals exact fun _ _ => rfl

theorem Part.blind_acc (x : Part) (h : x ≠ .acc) : x.Blind Dev.acc := by
  cases x
  case acc => exact absurd rfl h
  all_goals exact fun _ _ => rfl

theorem Part.blind_accClosed (x : Part) (h : x ≠ .accClosed) : x.Blind Dev.accClosed := by
  cases x
  case accClosed => exact absurd rfl h
  all_goals exact fun _ _ => rfl

section
variable {S : List Part} {d e : Dev} (h : Dev.Only S d e)
include h

theorem Dev.Only.ladle (hS : Part.ladle ∉ S := by decide) : e.ladle = d.ladle := h _ Dev.ladle fun x hx => x.blind_ladle fun hxe => hS (hxe ▸ hx)

theorem Dev.Only.acc (hS : Part.acc ∉ S := by decide) : e.acc = d.acc := h _ Dev.acc fun x hx => x.blind_acc fun hxe => hS (hxe ▸ hx)

theorem Dev.Only.accClosed (hS : Part.accClosed ∉ S := by decide) : e.accClosed = d.accClosed :=
  h _ Dev.accClosed fun x hx => x.blind_accClosed fun hxe => hS (hxe ▸ hx)

end

/-! What the steps of a pass leave -/

/-- What the steps of a pass leave: all but the words and the Ladle's state, and of these the number of the epoch and the seconds that wait. -/
structure Dev.PassKept (d e : Dev) : Prop where
  only : Dev.Only [.words, .ladle] d e
  more : e.ladle.more = d.ladle.more
  epoch : Dev.Reads F.pmEpochEpoch d e

namespace Dev.PassKept

variable {d e : Dev}

theorem refl (d : Dev) : d.PassKept d := ⟨.refl _ d, rfl, .refl _ d⟩

theorem trans {x : Dev} (h : d.PassKept e) (h' : e.PassKept x) : d.PassKept x :=
  ⟨h.only.trans h'.only, h'.more.trans h.more, h.epoch.trans h'.epoch⟩

/-- The Ladle's own state. -/
theorem setLadle (h : d.PassKept e) {l : Ladle} (hl : l.more = e.ladle.more) : d.PassKept { e with ladle := l } :=
  ⟨h.only.trans (.part .ladle (by decide) fun _ _ hp => hp e l), hl.trans h.more, h.epoch⟩

theorem put (h : d.PassKept e) {f : Field} (hf : f.clearOf F.pmEpochEpoch) (v : Nat) : d.PassKept (e.put f v) :=
  ⟨h.only.trans ((e.only_put f v).mono (by decide)), h.more, h.epoch.put hf v⟩

theorem when (h : d.PassKept e) (c : Bool) {g : Dev → Dev} (hg : ∀ x, d.PassKept x → d.PassKept (g x)) : d.PassKept (e.when c g) :=
  Dev.when_keeps h hg

theorem showUas (h : d.PassKept e) (k : Nat) {i : Nat} (hi : i < 0x10_0000) (s : Seconds) : d.PassKept (e.showUas k i s) := by
  have hpoint {p : Nat} (hp : p < 0x20_0000) {g : Field} (hg : g.off < 0x1901_0000) : (pmPoint p g).clearOf F.pmEpochEpoch := by
    refine .inl (Nat.ne_of_gt (Nat.lt_of_lt_of_le ?_ (show 0x1_0000_0000 ≤ F.pmEpochEpoch.off by decide)))
    show (if p < 18432 then g.off + 8 * p else g.off + 0x10_0000 + 8 * (p - 18432)) < _
    split <;> omega
  have hlane {g : Field} : (g.lane i).clearOf F.pmEpochEpoch := .inl (show 0x1_000e_0104 ≠ 0x1_0010_0000 + i * 0x1_0000 + g.off by omega)
  unfold Dev.showUas
  split
  · split
    · exact (h.put hlane _).put hlane _
    · exact h
  · refine (h.put (hpoint ?_ (by decide)) _).put (hpoint ?_ (by decide)) _ <;> split <;> omega

end Dev.PassKept

section
variable (base : Nat) (w : Work)

theorem settleRecord_kept (r : Nat) : w.1.PassKept (settleRecord base w r).1 := by
  unfold settleRecord
  extract_lets d k i line s slots inc _ d1
  have h1 : d.PassKept d1 := (Dev.PassKept.refl d).setLadle (l := d1.ladle) rfl
  exact h1.showUas k (Nat.mod_lt r (by decide)) s.1

theorem settle_kept (l : List Nat) : w.1.PassKept (l.foldl (settleRecord base) w).1 :=
  List.foldlRecOn (motive := fun x : Work => w.1.PassKept x.1) l _ (.refl _) fun x hx r _ => hx.trans (settleRecord_kept base x r)

theorem dumpRecord_kept : w.1.PassKept (dumpRecord base w).1 := by
  unfold dumpRecord
  extract_lets d l
  split
  · exact (Dev.PassKept.refl d).setLadle rfl
  · rename_i r m1 flags m2 d1 _
    have h1 : d.PassKept d1 := (Dev.PassKept.refl d).setLadle (l := d1.ladle) rfl
    exact (h1.when _ fun x hx => hx.put (f := F.pmEvtDumpGap) (.inl (by decide)) 1).put (f := F.pmLadleDumpHead) (.inl (by decide)) _

theorem applyBaselines_kept : w.1.PassKept (applyBaselines base w).1 := by
  unfold applyBaselines
  extract_lets d m _ _ d1
  have h1 : d.PassKept d1 := (Dev.PassKept.refl d).setLadle (l := d1.ladle) rfl
  exact h1.put (f := F.pmWrStatPending) (.inl (by decide)) _

theorem finishBins_kept : w.1.PassKept (finishBins base w).1 := (Dev.PassKept.refl w.1).setLadle rfl

theorem closeBins_kept : w.1.PassKept (closeBins base w).1 := by
  unfold closeBins
  extract_lets d l p s15 s24 end15 end24 n15 n24 bad _ b15 _ b24 m1 m2 c15 c24 m3 d1 d2
  have h1 : d.PassKept d1 := (Dev.PassKept.refl d).setLadle (l := d1.ladle) rfl
  have h2 : d.PassKept d2 := h1.when _ fun x hx => (hx.put (f := F.pmBinB15) (.inl (by decide)) _).put (f := F.pmEvtBin15Done) (.inl (by decide)) 1
  exact h2.when _ fun x hx => (hx.put (f := F.pmBinB24) (.inl (by decide)) _).put (f := F.pmEvtBin24Done) (.inl (by decide)) 1

end

/-! A pass -/

/-- The steps of a pass that has a PM region. -/
def passSteps (w : Work) : Work :=
  let base := w.1.cntBase
  if base = 0 ∨ !w.1.hbmUp then w
  else
    let a := drain base (w.1.get F.pmBinB15) (w.1.get F.pmBinB24) w
    let b := a.1.toSettle.foldl (settleRecord base) a
    closeBins base (finishBins base (applyBaselines base (dumpRecord base b)))

theorem passSteps_kept (w : Work) : w.1.PassKept (passSteps w).1 := by
  unfold passSteps
  extract_lets base
  split
  · exact .refl _
  · rename_i a b _
    have hb : w.1.PassKept b.1 := settle_kept base a _
    exact (((hb.trans (dumpRecord_kept base b)).trans (applyBaselines_kept base _)).trans (finishBins_kept base _)).trans (closeBins_kept base _)

/-- A pass without a PM region counts nothing. -/
theorem passSteps_none {w : Work} (h : w.1.cntBase = 0) : passSteps w = w := if_pos (.inl h)

section
variable (w : Work)

/-- The Ladle takes no second: its closed counts and its pass are empty. -/
def Dev.passEmptied (e : Dev) : Dev :=
  { e with accClosed := [], ladle := { e.ladle with waits := false, pass := { e.ladle.pass with due := [], late := false } } }

theorem Dev.passEmptied_more (e : Dev) : e.passEmptied.ladle.more = e.ladle.more := rfl

theorem Dev.passEmptied_words (e : Dev) : e.passEmptied.words = e.words := rfl

theorem Dev.only_passEmptied (e : Dev) : Dev.Only [.ladle, .accClosed] e e.passEmptied := fun α p hp =>
  (hp .ladle (by decide) { e with accClosed := [] } { e.ladle with waits := false, pass := { e.ladle.pass with due := [], late := false } }).trans
    (hp .accClosed (by decide) e [])

/-- The Ladle after a pass, before the next second is taken. -/
def passEnded : Dev :=
  ((((passSteps w).1.passEmptied.lower F.pmLadleBusy).put F.pmLadleLastUs (Nat.min 0xFFFF (ticksUs (w.1.now - w.1.ladle.pass.since)))).raise
    F.pmEvtEpochDone).when w.1.ladle.pass.late (fun x => x.raise F.pmEvtLate)

theorem ladlePass_eq : ladlePass w = match (passEnded w).ladle.more with
    | [] => (passEnded w, (passSteps w).2)
    | q :: rest => (({ passEnded w with ladle := { (passEnded w).ladle with more := rest } } : Dev).takePass q, (passSteps w).2) := rfl

theorem passEnded_words : Dev.Only [.words] (passSteps w).1.passEmptied (passEnded w) :=
  (((Dev.only_lower _ _).step (Dev.only_put _ _ _)).step (Dev.only_raise _ _)).trans (.whenStep _ fun x => x.only_raise _)

theorem passEnded_more : (passEnded w).ladle.more = w.1.ladle.more := by
  have hkept := (passSteps_kept w).more
  have hwords := (passEnded_words w).ladle
  obtain ⟨e, he⟩ : ∃ e, e = (passSteps w).1 := ⟨_, rfl⟩
  obtain ⟨x, hx⟩ : ∃ x, x = passEnded w := ⟨_, rfl⟩
  rw [← hx, ← he] at hwords
  rw [← he] at hkept
  rw [← hx, hwords, Dev.passEmptied_more, hkept]

/-- What a pass leaves of the device. -/
theorem passEnded_only : Dev.Only [.words, .ladle, .accClosed] w.1 (passEnded w) := by
  have hempty := (Dev.only_passEmptied (passSteps w).1).mono (T := [.words, .ladle, .accClosed]) (by decide)
  exact (((passSteps_kept w).only.mono (by decide)).trans hempty).step (passEnded_words w)

/-- What a pass shows at its end. -/
structure PassShown (d e : Dev) : Prop where
  done : e.on F.pmEvtEpochDone = true
  late : d.ladle.pass.late = true → e.on F.pmEvtLate = true
  lastUs : e.get F.pmLadleLastUs = Nat.min 0xFFFF (ticksUs (d.now - d.ladle.pass.since))
  epoch : e.get F.pmEpochEpoch = d.get F.pmEpochEpoch

theorem passEnded_shows : PassShown w.1 (passEnded w) ∧ (passEnded w).on F.pmLadleBusy = false ∧ (passEnded w).accClosed = [] := by
  obtain ⟨e, he⟩ : ∃ e, e = (passSteps w).1.passEmptied := ⟨_, rfl⟩
  obtain ⟨us, hus⟩ : ∃ us, us = Nat.min 0xFFFF (ticksUs (w.1.now - w.1.ladle.pass.since)) := ⟨_, rfl⟩
  have hepoch : e.get F.pmEpochEpoch = (passSteps w).1.get F.pmEpochEpoch := Dev.get_congr (by rw [he, Dev.passEmptied_words]) _
  have hlt : us < 2 ^ 16 := by rw [hus]; exact Nat.lt_of_le_of_lt (Nat.min_le_left _ _) (by decide)
  have hend : passEnded w = (((e.lower F.pmLadleBusy).put F.pmLadleLastUs us).raise F.pmEvtEpochDone).when w.1.ladle.pass.late
      (fun x => x.raise F.pmEvtLate) := by rw [he, hus]; rfl
  have hkept {f : Field} (hevt : F.pmEvtLate.clearOf f) : Dev.Reads f (((e.lower F.pmLadleBusy).put F.pmLadleLastUs us).raise F.pmEvtEpochDone) (passEnded w) := by
    rw [hend]
    exact (Dev.Reads.refl f _).when _ fun _ hx => hx.raise hevt
  refine ⟨⟨?_, fun hlate => ?_, ?_, ?_⟩, ?_, ?_⟩
  · exact (hkept (f := F.pmEvtEpochDone) (.inr (by decide))).on.trans (Dev.on_raise _ _ (by decide) (by decide))
  · rw [hend, Dev.when_eq hlate]
    exact Dev.on_raise _ _ (by decide) (by decide)
  · refine Eq.trans (Dev.Reads.trans ((Dev.Reads.refl _ _).raise (g := F.pmEvtEpochDone) (.inl (by decide))) (hkept (f := F.pmLadleLastUs) (.inl (by decide)))) ?_
    rw [Dev.get_put_same _ _ _ (by decide), ← hus]
    exact Nat.mod_eq_of_lt hlt
  · refine Eq.trans (Dev.Reads.trans ?_ (hkept (f := F.pmEpochEpoch) (.inl (by decide)))) (hepoch.trans (passSteps_kept w).epoch)
    exact (((Dev.Reads.refl F.pmEpochEpoch e).lower (g := F.pmLadleBusy) (.inl (by decide))).put (g := F.pmLadleLastUs) (.inl (by decide)) us).raise
      (g := F.pmEvtEpochDone) (.inl (by decide))
  · refine (Dev.Reads.trans ?_ (hkept (f := F.pmLadleBusy) (.inl (by decide)))).on.trans (Dev.on_lower e F.pmLadleBusy (by decide))
    exact ((Dev.Reads.refl _ _).put (g := F.pmLadleLastUs) (.inr (by decide)) us).raise (g := F.pmEvtEpochDone) (.inl (by decide))
  · exact (passEnded_words w).accClosed

theorem ladlePass_last (h : w.1.ladle.more = []) : ladlePass w = (passEnded w, (passSteps w).2) := by
  rw [ladlePass_eq, passEnded_more, h]

theorem ladlePass_next {q : Pass} {rest : List Pass} (h : w.1.ladle.more = q :: rest) :
    ladlePass w = (({ passEnded w with ladle := { (passEnded w).ladle with more := rest } } : Dev).takePass q, (passSteps w).2) := by
  rw [ladlePass_eq, passEnded_more, h]

end

/-! The next second is taken -/

section
variable (d : Dev) (q : Pass)

theorem Dev.takePass_shows : (d.takePass q).accClosed = q.acc ∧ (d.takePass q).ladle = { d.ladle with waits := true, pass := { q with acc := [] } }
    ∧ (d.takePass q).on F.pmLadleBusy = true :=
  ⟨rfl, rfl, Dev.on_raise _ _ (by decide) (by decide)⟩

theorem Dev.takePass_only : Dev.Only [.words, .ladle, .accClosed] d (d.takePass q) := by
  have htake : Dev.Only [.ladle, .accClosed] d { d with accClosed := q.acc, ladle := { d.ladle with waits := true, pass := { q with acc := [] } } } :=
    fun α p hp => (hp .ladle (by decide) { d with accClosed := q.acc } _).trans (hp .accClosed (by decide) d q.acc)
  exact (htake.mono (by decide)).step (Dev.only_raise _ _)

theorem Dev.Reads.takePass {f : Field} {d e : Dev} (h : Dev.Reads f d e) (hf : F.pmLadleBusy.clearOf f) : Dev.Reads f d (e.takePass q) :=
  Dev.Reads.raise (e := { e with accClosed := q.acc, ladle := { e.ladle with waits := true, pass := { q with acc := [] } } }) h hf

end

end Sys2Proof.Machine

/-! The passes that wait, and the epochs (R393, R398 to R400). -/

namespace Sys2Proof.Machine

set_option Elab.async false -- a proof at a time, within the memory of a check

/-! One pass -/

/-- What `e` has taken of the seconds that wait. -/
structure Dev.PassTaken (d e : Dev) : Prop where
  only : Dev.Only [.words, .ladle, .accClosed] d e
  shown : PassShown d e

theorem snd_of_eq_mk {α β : Type} {p : α × β} {a : α} {b : β} (h : p = (a, b)) : p.2 = b := by rw [h]

section
variable (w : Work)

/-- A pass behind which no second waits. -/
theorem ladlePass_last_shows (h : w.1.ladle.more = []) : w.1.PassTaken (ladlePass w).1 ∧ (ladlePass w).1.ladle.waits = false ∧ (ladlePass w).1.accClosed = []
    ∧ (ladlePass w).1.ladle.pass.due = [] ∧ (ladlePass w).1.on F.pmLadleBusy = false := by
  obtain ⟨hshown, hbusy, hclosed⟩ := passEnded_shows w
  have hladle : (passEnded w).ladle = _ := (passEnded_words w).ladle
  have honly := passEnded_only w
  rw [ladlePass_last w h]
  obtain ⟨e, he⟩ : ∃ e, e = (passSteps w).1 := ⟨_, rfl⟩
  obtain ⟨x, hx⟩ : ∃ x, x = passEnded w := ⟨_, rfl⟩
  rw [← hx] at hshown hbusy hclosed hladle honly ⊢
  rw [← he] at hladle
  dsimp only
  rw [hladle]
  exact ⟨⟨honly, hshown⟩, rfl, hclosed, rfl, hbusy⟩

/-- A pass behind which a second waits, which is taken. -/
theorem ladlePass_next_shows {q : Pass} {rest : List Pass} (h : w.1.ladle.more = q :: rest) : w.1.PassTaken (ladlePass w).1 ∧ (ladlePass w).1.ladle.waits = true
    ∧ (ladlePass w).1.ladle.more = rest ∧ (ladlePass w).1.accClosed = q.acc ∧ (ladlePass w).1.ladle.pass = { q with acc := [] }
    ∧ (ladlePass w).1.on F.pmLadleBusy = true := by
  obtain ⟨hshown, -, -⟩ := passEnded_shows w
  have honly := passEnded_only w
  rw [ladlePass_next w h]
  obtain ⟨x, hx⟩ : ∃ x, x = passEnded w := ⟨_, rfl⟩
  rw [← hx] at hshown honly ⊢
  dsimp only
  obtain ⟨y, hy⟩ : ∃ y : Dev, y = { x with ladle := { x.ladle with more := rest } } := ⟨_, rfl⟩
  have hyx : Dev.Only [.ladle] x y := hy ▸ .part .ladle (by decide) fun _ _ hp => hp x _
  have hmore : y.ladle.more = rest := by rw [hy]
  rw [← hy]
  obtain ⟨hclosed, hladle, hbusy⟩ := y.takePass_shows q
  have hreads {f : Field} (hf : F.pmLadleBusy.clearOf f) : Dev.Reads f x (y.takePass q) := ((Dev.Reads.refl f x).of_only hyx).takePass q hf
  refine ⟨⟨(honly.trans (hyx.mono (by decide))).trans (y.takePass_only q), ?_, fun hlate => ?_, ?_, ?_⟩, by rw [hladle], by rw [hladle]; exact hmore, hclosed,
    by rw [hladle], hbusy⟩
  · exact (hreads (f := F.pmEvtEpochDone) (.inl (by decide))).on.trans hshown.done
  · exact (hreads (f := F.pmEvtLate) (.inl (by decide))).on.trans (hshown.late hlate)
  · exact Eq.trans (hreads (f := F.pmLadleLastUs) (.inr (by decide))) hshown.lastUs
  · exact Eq.trans (hreads (f := F.pmEpochEpoch) (.inl (by decide))) hshown.epoch

/-- Without a PM region a pass writes no memory. -/
theorem ladlePass_mem (h : w.1.cntBase = 0) : (ladlePass w).2 = w.2 := by
  have hsteps : (passSteps w).2 = w.2 := congrArg Prod.snd (passSteps_none h)
  cases hmore : w.1.ladle.more with
  | nil => exact (snd_of_eq_mk (ladlePass_last w hmore)).trans hsteps
  | cons q rest => exact (snd_of_eq_mk (ladlePass_next w hmore)).trans hsteps

end

/-! Every pass that waits -/

/-- What every pass that waited leaves. -/
structure Dev.PassesDone (d e : Dev) : Prop where
  only : Dev.Only [.words, .ladle, .accClosed] d e
  waits : e.ladle.waits = false
  done : e.on F.pmEvtEpochDone = true
  epoch : e.get F.pmEpochEpoch = d.get F.pmEpochEpoch

theorem passes_fold (l : List Nat) (w : Work) (h : l.length = w.1.ladle.more.length + 1) : w.1.PassesDone (l.foldl (fun x _ => ladlePass x) w).1 := by
  induction l generalizing w with
  | nil => exact nomatch h
  | cons a l ih =>
    rw [List.foldl_cons]
    cases hmore : w.1.ladle.more with
    | nil =>
      obtain ⟨⟨honly, hshown⟩, hwaits, -, -, -⟩ := ladlePass_last_shows w hmore
      rw [hmore] at h
      obtain rfl : l = [] := List.eq_nil_of_length_eq_zero (Nat.succ.inj h)
      exact ⟨honly, hwaits, hshown.done, hshown.epoch⟩
    | cons q rest =>
      obtain ⟨⟨honly, hshown⟩, -, hrest, -, -, -⟩ := ladlePass_next_shows w hmore
      rw [hmore] at h
      have hdone := ih (ladlePass w) (by rw [hrest]; exact Nat.succ.inj h)
      exact ⟨honly.trans hdone.only, hdone.waits, hdone.done, hdone.epoch.trans hshown.epoch⟩

theorem ladleAll_idle {w : Work} (h : w.1.ladle.waits = false) : ladleAll w = w := by
  rw [ladleAll, h, if_neg Bool.false_ne_true]

theorem ladleAll_done {w : Work} (h : w.1.ladle.waits = true) : w.1.PassesDone (ladleAll w).1 := by
  rw [ladleAll, h, if_pos rfl]
  exact passes_fold _ w List.length_range

/-! An epoch edge -/

section
variable (d : Dev)

/-- The second that has ended waits, or is taken. -/
def Dev.secondClosed : Dev :=
  let d1 : Dev := { d with
    acc := [], modes := { d.modes with coastSeen := d.mode == modeCoast },
    ladle := { d.ladle with edge := d.timing.edges, stepped := false, wiped := false, base := [], align := false } }
  if d.ladle.waits then { d1 with ladle := { d1.ladle with more := d1.ladle.more ++ [d.closedSecond] } } else d1.takePass d.closedSecond

theorem Dev.epochEdge_eq : d.epochEdge = (((d.secondClosed.put F.pmEpochEpoch d.closedSecond.epoch).markAll).setGrm
    { ((d.secondClosed.put F.pmEpochEpoch d.closedSecond.epoch).markAll).grm with epochDue := true }).verifyNext := rfl

theorem Dev.only_markAll : Dev.Only [.acc] d d.markAll := by
  unfold Dev.markAll
  extract_lets d1 d2
  have h1 : Dev.Only [.acc] d d1 := .each 104 fun x n => x.only_markLane n
  have h2 : Dev.Only [.acc] d d2 := h1.trans (.foldl _ fun x k _ => x.only_markPath k)
  exact h2.trans (.foldl _ fun x g _ => x.only_markGroup g)

theorem Dev.only_epochEdge : Dev.Only [.acc, .grm] (d.secondClosed.put F.pmEpochEpoch d.closedSecond.epoch) d.epochEdge := by
  rw [Dev.epochEdge_eq]
  obtain ⟨x, hx⟩ : ∃ x, x = d.secondClosed.put F.pmEpochEpoch d.closedSecond.epoch := ⟨_, rfl⟩
  rw [← hx]
  exact ((x.only_markAll.mono (by decide)).step (Dev.only_setGrm _ _)).step (Dev.only_verifyNext _)

/-- The number of the epoch moves on. -/
theorem Dev.epoch_epochEdge : d.epochEdge.get F.pmEpochEpoch = (d.get F.pmEpochEpoch + 1) % 2 ^ 32 := by
  refine (Dev.get_congr d.only_epochEdge.words _).trans ?_
  exact Dev.get_put_same _ _ _ (by decide)

/-- What waits behind another second. -/
theorem Dev.secondClosed_waits (h : d.ladle.waits = true) : d.secondClosed.ladle.more = d.ladle.more ++ [d.closedSecond]
    ∧ d.secondClosed.ladle.pass = d.ladle.pass ∧ d.secondClosed.accClosed = d.accClosed := by
  unfold Dev.secondClosed
  rw [h, if_pos rfl]
  exact ⟨rfl, rfl, rfl⟩

/-- A second that is taken at once. -/
theorem Dev.secondClosed_taken (h : d.ladle.waits = false) : d.secondClosed.accClosed = d.acc ∧ d.secondClosed.ladle.waits = true
    ∧ d.secondClosed.ladle.pass = { d.closedSecond with acc := [] } ∧ d.secondClosed.on F.pmLadleBusy = true
    ∧ Dev.Reads F.pmEvtEpochDone d d.secondClosed := by
  unfold Dev.secondClosed
  extract_lets _ _ d1
  have hd1 : d1.words = d.words := rfl
  rw [h, if_neg Bool.false_ne_true]
  clear_value d1
  obtain ⟨hclosed, hladle, hbusy⟩ := d1.takePass_shows d.closedSecond
  exact ⟨hclosed, by rw [hladle], by rw [hladle], hbusy, ((Dev.Reads.refl F.pmEvtEpochDone d).of_words hd1).takePass _ (.inl (by decide))⟩

end

end Sys2Proof.Machine

/-! What a frame's end and the lanes' next frames change: neither time nor the loop (R186, R206, R257, R378, R471). -/

namespace Sys2Proof.Machine

set_option Elab.async false -- a proof at a time, within the memory of a check

section
variable (d : Dev)

/-! Counts -/

theorem Dev.sameClock_count (k i c n : Nat) : d.SameClock (d.count k i c n) := by
  unfold Dev.count
  split
  · exact .refl _ d
  · extract_lets key d1
    have h1 : d.SameClock d1 := .part .acc (by decide) fun _ _ hp => hp d _
    clear_value d1
    split
    · split
      · exact h1
      · exact h1.step (Dev.only_bwAdd _ _ _ _)
    · exact h1

theorem Dev.sameClock_estAdd (key v : Nat) : d.SameClock (d.estAdd key v) := .part .estAcc (by decide) fun _ _ hp => hp d _

/-! The points' frames -/

theorem Dev.sameClock_setPath (k : Nat) (p : PathSt) : d.SameClock (d.setPath k p) := (d.only_setPath k p).mono (by decide)

theorem Dev.sameClock_h4Received (k h4 : Nat) : d.SameClock (d.h4Received k h4) :=
  .whenStep _ fun e => (e.sameClock_setPath k _).step (Dev.only_put _ _ _)

theorem Dev.sameClock_vcReceived (k : Nat) (vc : List Byte) : d.SameClock (d.vcReceived k vc) := by
  unfold Dev.vcReceived
  extract_lets p u ho v5 g1 v rei t d1 kind i one d2
  have h1 : d.SameClock d1 := d.sameClock_setPath k _
  have h2 : d.SameClock d2 := (((h1.trans (Dev.sameClock_count _ _ _ _ _)).trans (Dev.sameClock_count _ _ _ _ _)).trans
    (Dev.sameClock_count _ _ _ _ _)).trans (Dev.sameClock_count _ _ _ _ _)
  exact (h2.trans (Dev.sameClock_h4Received _ _ _)).trans (.whenStep _ fun e => (e.sameClock_estAdd _ _).trans (Dev.sameClock_estAdd _ _ _))

theorem Dev.sameClock_pathFrame (f : PathFrame) : d.SameClock (d.pathFrame f) := by
  unfold Dev.pathFrame
  extract_lets k p _ x head ended q
  split
  · exact .refl _ d
  · split
    · exact d.sameClock_setPath _ _
    · refine (d.sameClock_setPath k q).trans (.foldl _ fun e vc _ => ?_)
      split
      · exact e.sameClock_vcReceived k vc
      · exact e.sameClock_setPath _ _

/-! What the lanes and the mate's lanes sent -/

theorem Dev.sameClock_mateSent : d.SameClock d.mateSent := (d.sameClock_mate _).trans (Dev.sameClock_put _ _ _)

theorem Dev.sameClock_laneSent (n mf : Nat) : d.SameClock (d.laneSent n mf) := by
  unfold Dev.laneSent
  extract_lets frame d1
  have h1 : d.SameClock d1 := .part .egress (by decide) fun _ _ hp => hp d _
  exact h1.trans (.whenStep _ fun e => (e.only_setSoh n _).mono (by decide))

theorem Dev.sameClock_framesSent (mf : Nat) : d.SameClock (d.framesSent mf) :=
  .each 96 fun _ n => .whenStep _ fun x => x.sameClock_laneSent n mf

/-! The digests (R478) -/

theorem Dev.sameClock_startSelfCheck : d.SameClock d.startSelfCheck := by
  unfold Dev.startSelfCheck
  extract_lets _ d1 d2 _
  have h1 : d.SameClock d1 := d.sameClock_setMate _
  have hbegins (x : Dev) : x.SameClock x.selfBegins := by
    unfold Dev.selfBegins
    split
    · exact (x.sameClock_put _ _).step (Dev.only_put _ _ _)
    · exact (x.sameClock_put _ _).step (Dev.only_put _ _ _)
  have h2 : d.SameClock d2 := (((h1.step (Dev.only_put _ _ _)).step (Dev.only_raise _ _)).trans (hbegins _)).step (Dev.only_mateQueue _ _)
  exact (h2.step (Dev.only_setGrm _ _)).step (Dev.only_verifyNext _)

theorem Dev.sameClock_mismatch (k : Nat) : d.SameClock (d.mismatch k) := by
  unfold Dev.mismatch
  extract_lets ms _ d1
  have h1 : d.SameClock d1 := (((d.sameClock_setMate _).step (Dev.only_roll _ _ _)).step (Dev.only_put _ _ _)).step (Dev.only_put _ _ _)
  exact h1.trans (.whenStep _ fun e => ((e.sameClock_put _ _).step (Dev.only_raise _ _)).trans (Dev.sameClock_startSelfCheck _))

theorem Dev.sameClock_setEgress (k : Nat) (x : VcSt) : d.SameClock (d.setEgress k x) := .part .egress (by decide) fun _ _ hp => hp d _

theorem Dev.sameClock_compareReport (k f : Nat) (v : W32) : d.SameClock (d.compareReport k f v) := by
  unfold Dev.compareReport
  split
  · exact .refl _ d
  · exact d.sameClock_mismatch k

theorem Dev.sameClock_ownReport (k f : Nat) (v : W32) : d.SameClock (d.ownReport k f v) := by
  unfold Dev.ownReport
  extract_lets x p back d1 _ d2 silent
  have h1 : d.SameClock d1 := d.sameClock_setEgress k _
  have h2 : d.SameClock d2 := by
    unfold d2
    split
    · exact h1.trans (Dev.sameClock_compareReport _ _ _ _)
    · exact h1
  split
  · exact h1.trans (Dev.sameClock_setEgress _ _ _)
  · exact h2.trans (.whenStep _ fun e => ((e.only_roll _ _).mono (by decide)).trans (.whenStep _ fun y => y.sameClock_mismatch k))

theorem Dev.sameClock_reportFrame (f : Nat) : d.SameClock (d.reportFrame f) := .foldl _ fun e x _ => by
  split
  · exact e.sameClock_ownReport _ _ _
  · exact .refl _ e

/-! The sink members -/

theorem Dev.sameClock_sinkFrame (mf i : Nat) : d.SameClock (d.sinkFrame mf i) := by
  unfold Dev.sinkFrame
  extract_lets q
  split
  · exact .refl _ d
  · extract_lets _ _ _ _ _ _ _ _ _ _ _ _ _
    split
    · exact d.sameClock_setMember i _
    · exact d.sameClock_setMember i _

theorem Dev.sameClock_deliver (g : Nat) : d.SameClock (d.deliver g) := by
  unfold Dev.deliver
  extract_lets l x t
  split
  · exact (d.sameClock_setGroup g _).trans (.foldl _ fun e i _ => e.sameClock_setMember i _)
  · split
    · exact d.sameClock_setGroup g _
    · extract_lets _ _ _
      split
      · exact d.sameClock_setGroup g _
      · exact d.sameClock_setGroup g _

theorem Dev.sameClock_sinkFrames (mf : Nat) : d.SameClock (d.sinkFrames mf) := by
  unfold Dev.sinkFrames
  extract_lets d1
  have h1 : d.SameClock d1 := .foldl _ fun e i _ => e.sameClock_sinkFrame mf i
  split
  · exact .refl _ d
  · exact h1.trans (.foldl _ fun e g _ => e.sameClock_deliver g)

/-! The ingress bank -/

theorem Dev.sameClock_ingressWrite (q : Nat) (l : List (Nat × Byte)) : d.SameClock (d.ingressWrite q l) := (d.only_ingressWrite q l).mono (by decide)

theorem Dev.sameClock_pourTail (q mf : Nat) (u : FabricUnit) : d.SameClock (d.pourTail q mf u) := by
  unfold Dev.pourTail
  extract_lets k
  split
  · exact .refl _ d
  · exact (d.sameClock_setPath k _).trans (Dev.sameClock_ingressWrite _ _ _)

theorem Dev.sameClock_pourUnit (q mf edge : Nat) (u : FabricUnit) : d.SameClock (d.pourUnit q mf edge u) := by
  unfold Dev.pourUnit
  extract_lets e k p starts due _ t0 x d1 d2
  have he : d.SameClock e := d.sameClock_pourTail q mf u
  have h1 : d.SameClock d1 := he.trans (e.sameClock_setPath k _)
  have h2 : d.SameClock d2 := by
    unfold d2
    split
    · exact h1.trans (.whenStep _ fun y => y.sameClock_put _ _)
    · exact h1
  split
  · exact he
  · exact h2.trans (Dev.sameClock_ingressWrite _ _ _)

theorem Dev.sameClock_makeArea (q mf : Nat) (u : FabricUnit) (g : PohGen) : d.SameClock (d.makeArea q mf u g) := by
  unfold Dev.makeArea
  extract_lets key x r own changed
  have hmade : d.SameClock { d with made := Store.set (fun _ => {}) d.made key r.1 } := .part .made (by decide) fun _ _ hp => hp d _
  exact hmade.trans (Dev.sameClock_ingressWrite _ _ _)

theorem Dev.sameClock_makeStructured (q mf : Nat) : d.SameClock (d.makeStructured q mf) := .foldl _ fun e u _ => by
  extract_lets k ptr free
  split
  · exact .refl _ e
  · exact (e.sameClock_ingressWrite q _).trans (Dev.sameClock_makeArea _ _ _ _ _)

theorem Dev.sameClock_pourLane (q mf edge : Nat) : d.SameClock (d.pourLane q mf edge) :=
  (Dev.Only.foldl _ fun e u _ => e.sameClock_pourUnit q mf edge u).trans (Dev.sameClock_makeStructured _ _ _)

theorem Dev.sameClock_makeFlowPort (q mf : Nat) : d.SameClock (d.makeFlowPort q mf) := by
  unfold Dev.makeFlowPort
  extract_lets ws members d1
  have h1 : d.SameClock d1 := .foldl _ fun e u _ => by
    split
    · exact .refl _ e
    · exact e.sameClock_makeArea _ _ _ _
  exact h1.trans (.foldl _ fun e u _ => e.sameClock_makeArea _ _ _ _)

theorem Dev.sameClock_fillFrame (mf edge : Nat) : d.SameClock (d.fillFrame mf edge) :=
  (Dev.Only.each 96 fun _ q => .whenStep _ fun x => x.sameClock_pourLane q mf edge).trans
    (.foldl _ fun _ _ _ => .whenStep _ fun x => x.sameClock_makeFlowPort _ mf)

theorem Dev.sameClock_frameEnds (frames : List PathFrame) : d.SameClock (d.frameEnds frames) := by
  unfold Dev.frameEnds
  extract_lets mf e
  have he : d.SameClock e := (d.sameClock_mateSent.trans (.each 104 fun x n => x.sameClock_setLane n _)).trans (Dev.sameClock_framesSent _ _)
  have hpaths (l : List PathFrame) : d.SameClock (l.foldl Dev.pathFrame e) := he.trans (.foldl _ fun x f _ => x.sameClock_pathFrame f)
  exact (((hpaths _).trans (Dev.sameClock_reportFrame _ _)).trans (Dev.sameClock_sinkFrames _ _)).trans (Dev.sameClock_fillFrame _ _ _)

/-! The selectors at the edge (R446, R449) -/

theorem Dev.sameClock_setMsp (g : Nat) (p : ProtSt) : d.SameClock (d.setMsp g p) := (d.only_setMsp g p).mono (by decide)

theorem Dev.sameClock_setSnc (i : Nat) (p : ProtSt) : d.SameClock (d.setSnc i p) := (d.only_setSnc i p).mono (by decide)

theorem Dev.sameClock_sncSwitch (i : Nat) (leg : Bool) : d.SameClock (d.sncSwitch i leg) := by
  unfold Dev.sncSwitch
  extract_lets p d1
  have h1 : d.SameClock d1 := d.sameClock_setSnc i _
  split
  · exact h1
  · exact ((((h1.step (Dev.only_put _ _ _)).step (Dev.only_bump _ _ _)).step (Dev.only_raise _ _)).step (Dev.only_put _ _ _)).step (Dev.only_roll _ _ _)

theorem Dev.sameClock_applyItem (x : ProtItem) : d.SameClock (d.applyItem x) := by
  unfold Dev.applyItem
  split
  · exact d.sameClock_setMsp _ _
  · exact d.sameClock_setMsp _ _
  · split
    · exact d.sameClock_sncSwitch _ _
    · split
      · exact d.sameClock_setMsp _ _
      · exact .refl _ d

theorem Dev.sameClock_restartSelector (i : Nat) : d.SameClock (d.restartSelector i) := by
  unfold Dev.restartSelector
  extract_lets w e d1
  have he : d.SameClock e := (d.sameClock_setSnc i {}).step (Dev.only_setWord _ _ w)
  have h1 : d.SameClock d1 := he.step (Dev.only_applies _ _)
  exact h1.trans (.whenStep _ fun e => (e.only_bump _ _).mono (by decide))

theorem Dev.sameClock_selApply : d.SameClock d.selApply := by
  unfold Dev.selApply
  extract_lets due d1 d2 restarts _ d3 d4 lanes d5 d6
  have h1 : d.SameClock d1 := .part .applies (by decide) fun _ _ hp => hp d _
  have h2 : d.SameClock d2 := h1.trans (.foldl _ fun e x _ => e.sameClock_applyItem x.2)
  have h3 : d.SameClock d3 := (h2.trans (.foldl restarts fun e i _ => e.sameClock_restartSelector i)).trans
    (.part .selRestart (by decide) fun _ _ hp => hp _ _)
  have h4 : d.SameClock d4 := h3.trans (.foldl _ fun e i _ => e.sameClock_put _ _)
  have h5 : d.SameClock d5 := h4.trans (.each 96 fun e n => .whenStep _ fun x => x.sameClock_put _ _)
  have h6 : d.SameClock d6 := h5.trans (.part .bridge (by decide) fun _ _ hp => hp d5 _)
  exact h6.trans (.whenStep _ fun e => e.only_protSee.mono (by decide))

/-! The banks -/

theorem Dev.sameClock_banksChange : d.SameClock d.banksChange := fun _ _ hp =>
  (hp .egRead (by decide) { d with inMove := d.inFill, inFill := {} } d.egFill).trans
    ((hp .inFill (by decide) { d with inMove := d.inFill } {}).trans (hp .inMove (by decide) d d.inFill))

theorem Dev.sameClock_commitMissed : d.SameClock d.commitMissed := .whenStep _ fun e => (e.only_raise _).mono (by decide)

theorem Dev.sameClock_panEdge (seen : List Nat) : d.SameClock (d.panEdge seen) := by
  unfold Dev.panEdge
  extract_lets d1 ue d2 _
  have h1 : d.SameClock d1 := fun _ _ hp =>
    (hp .fresh (by decide) { d with inFill := d.freshPan } (d.fresh + 1)).trans (hp .inFill (by decide) d d.freshPan)
  have hegress (x : Dev) : x.SameClock x.bwEgress := .foldl _ fun e q _ => (e.only_bwAdd _ _ _).mono (by decide)
  have h2 : d.SameClock d2 := (((h1.trans (.part .egFill (by decide) fun _ _ hp => hp d1 _)).step (Dev.only_entryUe _ _)).trans
    (.whenStep _ fun e => (e.only_mapSeen ue).mono (by decide))).trans (hegress _)
  exact (h2.trans (.part .grm (by decide) fun _ _ hp => hp d2 _)).trans (.each 96 fun e n => .whenStep _ fun x => x.sameClock_put _ _)

/-! The next frame of a LINE lane -/

theorem Dev.sameClock_setSoh (n : Nat) (s : Soh) : d.SameClock (d.setSoh n s) := (d.only_setSoh n s).mono (by decide)

theorem Dev.sameClock_traceStart (n : Nat) : d.SameClock (d.traceStart n) := by
  unfold Dev.traceStart
  extract_lets mode s d1 d2 t
  have h1 : d.SameClock d1 := .whenStep _ fun e => e.sameClock_setSoh n _
  have h2 : d.SameClock d2 := h1.trans (.whenStep _ fun e => (e.sameClock_setSoh n _).step (Dev.only_lower _ _))
  exact h2.trans (Dev.sameClock_setSoh _ n _)

theorem Dev.sameClock_channelStart (n : Nat) : d.SameClock (d.channelStart n).1 := by
  unfold Dev.channelStart
  extract_lets d1 f cs under
  have h1 : d.SameClock d1 := (d.only_roll _ _).mono (by decide)
  exact h1.trans (.whenStep _ fun e => (e.only_raise _).mono (by decide))

theorem Dev.sameClock_lineStart (n : Nat) : d.SameClock (d.lineStart n) := by
  unfold Dev.lineStart
  extract_lets r e s test ais rdi k k2 ext rei ones chan sent d1
  have he : d.SameClock e := (d.sameClock_traceStart n).trans (Dev.sameClock_channelStart _ n)
  have h1 : d.SameClock d1 := he.trans (e.sameClock_setSoh n _)
  exact ((h1.step (Dev.only_put _ _ _)).step (Dev.only_put _ _ _)).step (Dev.only_put _ _ _)

theorem Dev.sameClock_mateBegin : d.SameClock d.mateBegin := by
  unfold Dev.mateBegin
  extract_lets lanes msg beats reports
  split
  · exact d.sameClock_mate _
  · exact d.sameClock_mate _

end

end Sys2Proof.Machine

/-! The packets at an edge, and the sub-bank that is switched there, change neither time nor the loop (R369, R371, R378, R508). -/

namespace Sys2Proof.Machine

set_option Elab.async false -- a proof at a time, within the memory of a check

section
variable (d : Dev)

/-! The packets that are sent, returned or lost -/

theorem Dev.sameClock_setTu (n : Nat) (t : TuRx) : d.SameClock (d.setTu n t) := d.sameClock_setLane n _

theorem Dev.sameClock_setFlow (f : Nat) (q : FlowQ) : d.SameClock (d.setFlow f q) := (d.only_setFlow f q).mono (by decide)

theorem Dev.sameClock_psq (v : Psq) : d.SameClock { d with psq := v } := (d.only_psq v).mono (by decide)

theorem Dev.sameClock_showFills (l : List Nat) : d.SameClock (l.foldl Dev.showFill d) := .foldl _ fun e f _ => (e.only_showFill f).mono (by decide)

theorem Dev.sameClock_packetsSent (n : Nat) : d.SameClock (d.packetsSent n) := by
  unfold Dev.packetsSent Dev.releasePackets
  extract_lets t l _ d1 d2
  have h1 : d.SameClock d1 := d.sameClock_setTu n _
  have h2 : d.SameClock d2 := (h1.trans (Dev.sameClock_count _ _ _ _ _)).trans (Dev.sameClock_count _ _ _ _ _)
  split
  · exact .refl _ d
  · exact (h2.trans (Dev.sameClock_showFills _ _)).trans (Dev.sameClock_psqNote _)

theorem Dev.sameClock_packetBack (p : Packet) : d.SameClock (d.packetBack p) := by
  unfold Dev.packetBack
  extract_lets d1 q
  have h1 : d.SameClock d1 := (d.only_roll _ _).mono (by decide)
  split
  · exact ((h1.trans (Dev.sameClock_setFlow _ _ _)).trans (Dev.sameClock_count _ _ _ _ _)).step (Dev.only_showFill _ _)
  · exact h1.step (Dev.only_roll _ _ _)

theorem Dev.sameClock_returnAll : d.SameClock d.returnAll :=
  (d.sameClock_psq _).trans (.foldl _ fun e p _ => e.sameClock_packetBack p)

theorem Dev.sameClock_psqSeen (e : EccSeen) : d.SameClock (d.psqSeen e) := by
  unfold Dev.psqSeen
  extract_lets a b
  have ha : d.SameClock a.2 := (d.only_fresh _).mono (by decide)
  exact (ha.step (Dev.only_fresh _ _)).step (Dev.only_sramSeen _ _ _)

theorem Dev.sameClock_psqLost (l : List (Bool × Nat)) : d.SameClock (d.psqLost l) := by
  unfold Dev.psqLost
  extract_lets here a b _ d1 d2
  have h1 : d.SameClock d1 := d.sameClock_psq _
  have h2 : d.SameClock d2 := h1.trans
    (.foldl _ fun e _ _ => ((e.only_roll _ _).mono (by decide)).trans (Dev.sameClock_psqSeen _ _))
  exact h2.trans (Dev.sameClock_showFills _ _)

theorem Dev.sameClock_dropNoCtx : d.SameClock d.dropNoCtx :=
  (d.sameClock_psq _).trans (.whenStep _ fun e => (e.only_roll _ _).mono (by decide))

theorem Dev.sameClock_psqCorrected (b : Nat) : d.SameClock (d.psqCorrected b) :=
  Dev.Only.trans ((d.only_roll _ _).mono (by decide)) (Dev.sameClock_psqSeen _ _)

/-! The packets that enter their queues -/

theorem Dev.sameClock_queueL2f (p : Packet) : d.SameClock (d.queueL2f p) := by
  unfold Dev.queueL2f
  extract_lets q
  split
  · exact (((d.sameClock_setFlow _ _).trans (Dev.sameClock_count _ _ _ _ _)).trans (Dev.sameClock_count _ _ _ _ _)).step (Dev.only_showFill _ _)
  · exact (d.only_dropCount _ _ _).mono (by decide)

theorem Dev.sameClock_drainPacket (p : Packet) : d.SameClock (d.drainPacket p) := by
  unfold Dev.drainPacket
  split
  · exact (d.only_roll _ _).mono (by decide)
  · split
    · exact d.sameClock_queueL2f p
    · exact (d.only_roll _ _).mono (by decide)

/-! A word of a flow's store that is lost -/

theorem Dev.sameClock_occurrences (c n : Nat) : d.SameClock (d.occurrences c n).1 := by
  have hfold (l : List Nat) (x : Dev × Bool) :
      x.1.SameClock (l.foldl (fun (x : Dev × Bool) _ => ((x.1.occurrence c).1, x.2 || (x.1.occurrence c).2)) x).1 := by
    induction l generalizing x with
    | nil => exact .refl _ _
    | cons a l ih => exact ((x.1.only_occurrence c).mono (by decide)).trans (ih ((x.1.occurrence c).1, x.2 || (x.1.occurrence c).2))
  exact hfold _ (d, false)

theorem Dev.sameClock_pcFaulty (pc : Nat) : d.SameClock (d.pcFaulty pc) := by
  unfold Dev.pcFaulty
  split
  · exact .refl _ d
  · exact .part .sram (by decide) fun _ _ hp => hp d _

theorem Dev.sameClock_hbmSeen (a : Nat) (e : EccSeen) : d.SameClock (d.hbmSeen a e) := by
  unfold Dev.hbmSeen
  extract_lets ue pc d1 d2 x _ d3 r
  have h1 : d.SameClock d1 := ((d.sameClock_put _ _).step (Dev.only_put _ _ _)).step (Dev.only_put _ _ _)
  have h2 : d.SameClock d2 := ((h1.step (Dev.only_put _ _ _)).step (Dev.only_bump _ _ _)).step (Dev.only_roll _ _ _)
  have hx : d.SameClock x := (h2.step (Dev.only_roll _ _ _)).step (Dev.only_raise _ _)
  have h3 : d.SameClock d3 := by
    unfold d3
    split
    · exact hx.step (Dev.only_ueAt _ _)
    · exact (h2.step (Dev.only_roll _ _ _)).step (Dev.only_raise _ _)
  split
  · exact .refl _ d
  · exact (h3.trans (d3.sameClock_occurrences _ _)).trans (.whenStep _ fun y => y.sameClock_pcFaulty pc)

theorem Dev.sameClock_flowLost (x : Nat × Bool) : d.SameClock (d.flowLost x) := by
  unfold Dev.flowLost
  extract_lets f q q1
  split
  · exact .refl _ d
  · have hstore (y : Dev) (b : Nat) : y.SameClock (y.flowStoreUe b) := Dev.Only.trans ((y.only_fresh _).mono (by decide)) (Dev.sameClock_hbmSeen _ _ _)
    exact ((((d.sameClock_setFlow f q1).step (Dev.only_roll _ _ _)).step (Dev.only_raise _ _)).trans (hstore _ _)).step (Dev.only_showFill _ _)

/-! The frame of a Tustra lane that begins -/

theorem Dev.sameClock_bankSelect (n : Nat) : d.SameClock (d.bankSelect n) := by
  unfold Dev.bankSelect
  extract_lets t want
  split
  · exact .refl _ d
  · split
    · exact d.sameClock_setTu n _
    · exact (d.sameClock_setTu n _).step (Dev.only_raise _ _)

theorem Dev.sameClock_capApply (n : Nat) : d.SameClock (d.capApply n) := by
  unfold Dev.capApply
  extract_lets v _ d1
  have h1 : d.SameClock d1 := (((d.sameClock_setTu n _).step (Dev.only_lower _ _)).step (Dev.only_put _ _ _)).step (Dev.only_put _ _ _)
  exact h1.step (Dev.only_setCap _ n v)

theorem Dev.sameClock_capStart (n : Nat) : d.SameClock (d.capStart n) := by
  unfold Dev.capStart
  extract_lets v
  split
  · exact .whenStep _ fun e => e.sameClock_capApply n
  · split
    · exact .refl _ d
    · exact (d.sameClock_setTu n _).step (Dev.only_put _ _ _)

theorem Dev.sameClock_tuStart (draining : List Packet) (n : Nat) : d.SameClock (d.tuStart draining n) := by
  unfold Dev.tuStart
  extract_lets e t k radio cs r sent d1 _
  have he : d.SameClock e := by
    unfold e
    split
    · exact (d.sameClock_bankSelect n).trans (Dev.sameClock_capStart _ n)
    · exact .refl _ d
  have h1 : d.SameClock d1 := (he.trans (e.sameClock_setTu n _)).step (Dev.only_put _ _ _)
  exact (h1.trans (d1.sameClock_psq _)).trans (.whenStep _ fun x => (x.only_bwAdd _ _ _).mono (by decide))

/-! The groups' streams -/

theorem Dev.sameClock_sourceFrameStart (g : Nat) : d.SameClock (d.sourceFrameStart g) := by
  have hpayload (x : Dev) : x.SameClock (x.payloadSet g) :=
    (Dev.Only.foldl _ fun e i _ => e.sameClock_setMember i _).trans (Dev.sameClock_showSourceUse _ g)
  exact (d.sameClock_setGroup g _).trans (.whenStep _ fun e => hpayload e)

theorem Dev.sameClock_gfpPut (g : Nat) (out area : List Byte) : d.SameClock (d.gfpPut g out area).1 := d.sameClock_setGroup g _

theorem Dev.sameClock_bwGroup (g : Nat) (sink : Bool) (n : Nat) : d.SameClock (d.bwGroup g sink n) := by
  unfold Dev.bwGroup
  split
  · exact .refl _ d
  · exact (d.only_bwAdd _ _ _).mono (by decide)

theorem Dev.sameClock_sourceFrame (g room : Nat) (out : List Byte) : d.SameClock (d.sourceFrame g room out).1 := by
  unfold Dev.sourceFrame
  split
  · exact .refl _ d
  · split
    · split
      · exact (d.sameClock_setGroup g _).trans (Dev.sameClock_gfpPut _ g _ _)
      · exact .refl _ d
    · split
      · exact .refl _ d
      · extract_lets _ d1 x
        have h1 : d.SameClock d1 := (d.sameClock_setFlow _ _).step (Dev.only_showFill _ _)
        exact ((h1.trans (d1.sameClock_setGroup g _)).trans (Dev.sameClock_bwGroup _ _ _ _)).trans (Dev.sameClock_gfpPut _ g _ _)

theorem Dev.sameClock_sourceStream (g room : Nat) : d.SameClock (d.sourceStream g room).1 := by
  unfold Dev.sourceStream
  extract_lets packets r idle all
  have hfold (l : List Nat) (x : Dev × List Byte) : x.1.SameClock (l.foldl (fun (x : Dev × List Byte) _ => x.1.sourceFrame g room x.2) x).1 := by
    induction l generalizing x with
    | nil => exact .refl _ _
    | cons a l ih => exact (x.1.sameClock_sourceFrame g room x.2).trans (ih (x.1.sourceFrame g room x.2))
  have hr : d.SameClock r.1 := hfold _ (d, _)
  exact hr.trans (r.1.sameClock_setGroup g _)

theorem Dev.sameClock_sourceFill (mf g : Nat) : d.SameClock (Dev.sourceFill mf d g) := by
  unfold Dev.sourceFill
  extract_lets e ms n r
  have hr : d.SameClock r.1 := (d.sameClock_sourceFrameStart g).trans (e.sameClock_sourceStream g _)
  exact hr.trans (.foldl _ fun _ _ _ => .whenStep _ fun y => y.sameClock_ingressWrite _ _)

/-! The bank that the Flow Engine fills (R369) -/

theorem Fill.one_sameClock (x : Fill) (n c : Nat) (flows : List Nat) : x.dev.SameClock (x.one n c flows).dev := by
  unfold Fill.one
  extract_lets e ready _
  split
  · exact .refl _ _
  · split
    · exact .refl _ _
    · extract_lets p
      split
      · exact .refl _ _
      · split
        · exact .refl _ _
        · exact (e.sameClock_setFlow _ _).trans (Dev.sameClock_psq _ _)

theorem Fill.klass_sameClock (x : Fill) (n c : Nat) (flows : List Nat) : x.dev.SameClock (x.klass n c flows).dev := by
  have hfold (l : List Nat) (y : Fill) : y.dev.SameClock (l.foldl (fun y _ => y.one n c flows) y).dev := by
    induction l generalizing y with
    | nil => exact .refl _ _
    | cons a l ih => exact (y.one_sameClock n c flows).trans (ih _)
  exact hfold _ x

theorem Fill.lane_sameClock (x : Fill) (n : Nat) (grants : List Nat) : x.dev.SameClock (x.lane n grants).dev := by
  unfold Fill.lane
  extract_lets e own shed y
  have hfold (l : List Nat) (z : Fill) :
      z.dev.SameClock (l.foldl (fun z c => if shed c then z else z.klass n c (own.filter (fun f => e.ctxClass f == c))) z).dev := by
    induction l generalizing z with
    | nil => exact .refl _ _
    | cons c l ih =>
      rw [List.foldl_cons]
      refine Dev.Only.trans ?_ (ih _)
      split
      · exact .refl _ _
      · exact z.klass_sameClock n c _
  have hy : x.dev.SameClock y.dev := hfold _ { x with budget := e.budget n (e.capNext n) grants, stopped := [] }
  split
  · exact .refl _ _
  · split
    · exact hy.trans (y.dev.sameClock_psq _)
    · exact hy

theorem Dev.sameClock_fillF2l (grants : Nat → List Nat) : d.SameClock (d.fillF2l grants) := by
  unfold Dev.fillF2l
  extract_lets order x
  have hfold (l : List Nat) (z : Fill) :
      z.dev.SameClock (l.foldl (fun y n => if (y.dev.lane n).isLine || y.dev.eff (lanePage n) == 0 then y else y.lane n (grants n)) z).dev := by
    induction l generalizing z with
    | nil => exact .refl _ _
    | cons n l ih =>
      rw [List.foldl_cons]
      refine Dev.Only.trans ?_ (ih _)
      split
      · exact .refl _ _
      · exact z.lane_sameClock n _
  split
  · exact .refl _ d
  · exact hfold order x

theorem Dev.sameClock_psqEdge (psqUe : List (Bool × Nat)) (flowUe : List (Nat × Bool)) (grants : Nat → List Nat) :
    d.SameClock (d.psqEdge psqUe flowUe grants) := by
  unfold Dev.psqEdge
  extract_lets d1 l2f f2l _ d2 d3 d4 d5
  have h1 : d.SameClock d1 := (((Dev.Only.each 104 fun e n => e.sameClock_packetsSent n).trans (Dev.sameClock_returnAll _)).trans
    (Dev.sameClock_psqLost _ _)).trans (Dev.sameClock_dropNoCtx _)
  have h2 : d.SameClock d2 := h1.trans (d1.sameClock_psq _)
  have h3 : d.SameClock d3 := h2.trans (.foldl _ fun e n _ => by
    split
    · exact e.sameClock_tuStart _ n
    · exact .refl _ e)
  have h4 : d.SameClock d4 := (h3.trans (.foldl _ fun e p _ => e.sameClock_drainPacket p)).trans (.foldl _ fun e x _ => e.sameClock_flowLost x)
  have h5 : d.SameClock d5 := by
    unfold d5
    split
    · exact h4.trans (.foldl _ fun e g _ => e.sameClock_sourceFill _ g)
    · exact h4
  exact (h5.trans (d5.sameClock_fillF2l grants)).trans (Dev.sameClock_psqNote _)

/-! An edge -/

theorem Dev.sameClock_frameEdge (e : EdgeIn) : d.SameClock (d.frameEdge e) := by
  unfold Dev.frameEdge
  extract_lets d1 d2 grants d3 d4 d5
  have h1 : d.SameClock d1 := (((((d.sameClock_frameEnds e.frames).trans (Dev.sameClock_banksChange _)).trans (Dev.sameClock_commitMissed _)).trans
    (Dev.sameClock_selApply _)).trans (Dev.sameClock_settle _ true)).trans (Dev.sameClock_unitsDown _)
  have h2 : d.SameClock d2 := h1.trans (d1.sameClock_panEdge _)
  have h3 : d.SameClock d3 := h2.trans (.each 96 fun x n => .whenStep _ fun y => y.sameClock_lineStart n)
  have h4 : d.SameClock d4 := h3.trans (d3.sameClock_psqEdge _ _ _)
  have h5 : d.SameClock d5 := h4.trans (.foldl _ fun x b _ => x.sameClock_psqCorrected b)
  exact h5.trans d5.sameClock_mateBegin

end

/-! A sub-bank that its replacement stands for (R508) -/

/-- What a chip's switch at an edge leaves alone. -/
structure Chip.ClockKept (c e : Chip) : Prop where
  flash : e.flash = c.flash
  clock : c.dev.SameClock e.dev

theorem Chip.switchSubbank_clock (c : Chip) (sb : Nat) : c.ClockKept (c.switchSubbank sb) := by
  unfold Chip.switchSubbank
  extract_lets d d1 d2 d3
  have h1 : d.SameClock d1 := .part .sram (by decide) fun _ _ hp => hp d _
  have h2 : d.SameClock d2 := (((h1.step (Dev.only_lower _ _)).step (Dev.only_put _ _ _)).step (Dev.only_put _ _ _)).step (Dev.only_put _ _ _)
  have h3 : d.SameClock d3 := (((h2.step (Dev.only_put _ _ _)).step (Dev.only_raise _ _)).step (Dev.only_permanent _ _)).step (Dev.only_ledger _ _ _ _ _ _)
  have hlog := ({ c with dev := d3.capCommit d } : Chip).log_keeps 3 false
  exact ⟨hlog.flash, (h3.step (Dev.only_capCommit d3 d)).step hlog.only⟩

theorem Chip.switchAtEdge_clock (c : Chip) : c.ClockKept c.switchAtEdge := by
  unfold Chip.switchAtEdge
  split
  · exact c.switchSubbank_clock _
  · exact ⟨rfl, .refl _ _⟩

end Sys2Proof.Machine

/-! The edges of frames, multiframes and seconds, and the end of a pass (R74, R76, R398, R399, R400). -/

namespace Sys2Proof.Machine

set_option Elab.async false -- a proof at a time, within the memory of a check

/-! An FP8K edge -/

theorem Dev.edges_lt_nextEdge (d : Dev) : d.timing.edges < d.nextEdge := Nat.lt_of_succ_le (Nat.le_max_left _ _)

/-- What an edge does to a chip. -/
def Chip.edgeTaken (e : EdgeIn) (c : Chip) : Chip :=
  if (c.on Dev.advance).dev.modes.inReset = .no then (c.on Dev.advance).switchAtEdge.on (fun d => d.frameEdge e) else c.on Dev.advance

theorem Chip.edgeTaken_clock (e : EdgeIn) (c : Chip) : (c.on Dev.advance).ClockKept (c.edgeTaken e) := by
  obtain ⟨x, hx⟩ : ∃ x, x = c.on Dev.advance := ⟨_, rfl⟩
  rw [Chip.edgeTaken, ← hx]
  split
  · obtain ⟨hflash, hclock⟩ := x.switchAtEdge_clock
    exact ⟨hflash, hclock.trans (Dev.sameClock_frameEdge _ e)⟩
  · exact ⟨rfl, .refl _ _⟩

theorem Chip.edgeTaken_inReset (e : EdgeIn) {c : Chip} (h : c.dev.modes.inReset ≠ .no) : c.edgeTaken e = c.on Dev.advance := if_neg h

theorem exec_fp8kEdge_valid {s : State} (e : EdgeIn) (h : s.dev.rootValid = true) :
    exec (.fp8kEdge e) s = .next (s.setChip (s.chip.edgeTaken e)) := by
  have hwhen : s.chip.when s.dev.rootValid (Chip.edgeTaken e) = s.chip.edgeTaken e := Chip.when_eq h _ _
  exact congrArg (fun c => (.next (s.setChip c) : Out)) hwhen

theorem exec_mf2kEdge_multiframe {s : State} {t : Nat} (hroot : s.dev.rootValid = true) (hmf : s.dev.atMultiframe = true) (hat : s.dev.timing.fp8kAt = some t) :
    exec .mf2kEdge s = .next { s with dev := { s.dev with timing := { s.dev.timing with mf2kAt := some t } } } := by
  have hexec : exec .mf2kEdge s = .next { s with dev := s.dev.when (s.dev.rootValid && s.dev.atMultiframe && s.dev.timing.fp8kAt.isSome) (fun d =>
         { d with timing := { d.timing with mf2kAt := d.timing.fp8kAt } }) } := rfl
  rw [hexec, Dev.when_eq (by rw [hroot, hmf, hat]; rfl), ← hat]

/-! The end of a second -/

section
variable (d : Dev)

theorem Dev.epochEdge_ladle : d.epochEdge.ladle = d.secondClosed.ladle ∧ d.epochEdge.accClosed = d.secondClosed.accClosed :=
  ⟨d.only_epochEdge.ladle.trans (Dev.only_put _ _ _).ladle, d.only_epochEdge.accClosed.trans (Dev.only_put _ _ _).accClosed⟩

/-- A field beside the epoch's number reads as the second leaves it. -/
theorem Dev.epochEdge_reads {f : Field} (hf : F.pmEpochEpoch.clearOf f) : Dev.Reads f d.secondClosed d.epochEdge :=
  ((Dev.Reads.refl f _).put hf _).of_only d.only_epochEdge

/-- A second that the Ladle takes at its end. -/
structure Dev.SecondTaken (d e : Dev) : Prop where
  epoch : e.get F.pmEpochEpoch = (d.get F.pmEpochEpoch + 1) % 2 ^ 32
  closed : e.accClosed = d.acc
  waits : e.ladle.waits = true
  busy : e.on F.pmLadleBusy = true
  since : e.ladle.pass.since = d.now
  tb : e.ladle.pass.tb = d.timeBase

theorem Dev.epochEdge_taken (h : d.ladle.waits = false) : d.SecondTaken d.epochEdge ∧ Dev.Reads F.pmEvtEpochDone d d.epochEdge := by
  obtain ⟨hclosed, hwaits, hpass, hbusy, hdone⟩ := d.secondClosed_taken h
  obtain ⟨hladle, hacc⟩ := d.epochEdge_ladle
  refine ⟨⟨d.epoch_epochEdge, hacc.trans hclosed, ?_, ?_, ?_, ?_⟩, hdone.trans (d.epochEdge_reads (.inl (by decide)))⟩
  · rw [hladle, hwaits]
  · exact (d.epochEdge_reads (f := F.pmLadleBusy) (.inl (by decide))).on.trans hbusy
  · rw [hladle, hpass]
    rfl
  · rw [hladle, hpass]
    rfl

end

/-- The passes that an epoch waits for. -/
def epochWork (s : State) : Work := if s.dev.modes.inReset = .no then ladleAll (s.dev, s.mem) else (s.dev, s.mem)

theorem exec_epoch {s : State} (h : s.dev.epochNow = true) :
    exec .epoch s = .next { s with dev := (epochWork s).1.epochEdge, mem := (epochWork s).2 } := by
  have hexec : exec .epoch s = execEpoch s := rfl
  rw [hexec, execEpoch, h, if_neg (by decide), ← epochWork]

theorem epochWork_idle {s : State} (h : s.dev.ladle.waits = false) : epochWork s = (s.dev, s.mem) := by
  rw [epochWork, ladleAll_idle h]
  exact ite_self _

theorem epoch_inReset {s : State} (hnow : s.dev.epochNow = true) (hwaits : s.dev.ladle.waits = true) (hreset : s.dev.modes.inReset ≠ .no) :
    ∃ t p, exec .epoch s = .next t ∧ t.dev.ladle.more = s.dev.ladle.more ++ [p] ∧ p.acc = s.dev.acc ∧ p.late = true
      ∧ p.epoch = s.dev.get F.pmEpochEpoch + 1 ∧ t.dev.get F.pmEpochEpoch = (s.dev.get F.pmEpochEpoch + 1) % 2 ^ 32
      ∧ t.dev.ladle.pass = s.dev.ladle.pass ∧ t.dev.accClosed = s.dev.accClosed ∧ KeepsMemories s t := by
  have hwork : epochWork s = (s.dev, s.mem) := if_neg hreset
  obtain ⟨hmore, hpass, hclosed⟩ := s.dev.secondClosed_waits hwaits
  obtain ⟨hladle, hacc⟩ := s.dev.epochEdge_ladle
  refine ⟨_, s.dev.closedSecond, exec_epoch hnow, ?_⟩
  rw [hwork]
  dsimp only
  rw [hladle, hacc]
  exact ⟨hmore, rfl, bne_iff_ne.mpr hreset, rfl, s.dev.epoch_epochEdge, hpass, hclosed, rfl, rfl⟩

theorem epoch_taken {s : State} (hnow : s.dev.epochNow = true) (h : s.dev.ladle.waits = false ∨ s.dev.modes.inReset = .no) :
    ∃ t, exec .epoch s = .next t ∧ s.dev.SecondTaken t.dev ∧ t.flash = s.flash ∧ (s.dev.ladle.waits = false → t.mem = s.mem)
      ∧ (s.dev.ladle.waits = true → t.dev.on F.pmEvtEpochDone = true) := by
  refine ⟨_, exec_epoch hnow, ?_⟩
  cases hwaits : s.dev.ladle.waits with
  | false =>
    rw [epochWork_idle hwaits]
    exact ⟨(s.dev.epochEdge_taken hwaits).1, rfl, fun _ => rfl, fun hcontra => nomatch hcontra⟩
  | true =>
    have hreset := h.resolve_left (Bool.not_eq_false _ ▸ hwaits)
    have hwork : epochWork s = ladleAll (s.dev, s.mem) := if_pos hreset
    have hpasses := ladleAll_done (w := (s.dev, s.mem)) hwaits
    rw [hwork]
    obtain ⟨w, hw⟩ : ∃ w, w = ladleAll (s.dev, s.mem) := ⟨_, rfl⟩
    rw [← hw] at hpasses ⊢
    obtain ⟨honly, hidle, hdone, hepoch⟩ := hpasses
    dsimp only at honly hepoch ⊢
    obtain ⟨⟨hnumber, hclosed, hwait, hbusy, hsince, htb⟩, hreads⟩ := w.1.epochEdge_taken hidle
    have hbase : w.1.timeBase = s.dev.timeBase := by rw [Dev.timeBase, Dev.timeBase, honly.timing, honly.now]
    exact ⟨⟨by rw [hnumber, hepoch], hclosed.trans honly.acc, hwait, hbusy, hsince.trans honly.now, htb.trans hbase⟩, rfl,
      fun hcontra => (nomatch hcontra), fun _ => hreads.on.trans hdone⟩

/-! The end of a pass -/

theorem exec_ladlePassComplete {s : State} (hwaits : s.dev.ladle.waits = true) (hreset : s.dev.modes.inReset = .no) :
    exec .ladlePassComplete s = .next { s with dev := (ladlePass (s.dev, s.mem)).1, mem := (ladlePass (s.dev, s.mem)).2 } := by
  have hexec : exec .ladlePassComplete s = execLadlePassComplete s := rfl
  rw [hexec, execLadlePassComplete, if_pos ⟨hwaits, hreset⟩]

theorem ladlePass_taken (w : Work) : w.1.PassTaken (ladlePass w).1 := by
  cases hmore : w.1.ladle.more with
  | nil => exact (ladlePass_last_shows w hmore).1
  | cons q rest => exact (ladlePass_next_shows w hmore).1

/-- Settles O40: an edge runs through every operation of the frame, none of which touches time or the loop; the passes of the Ladle follow
the list of the seconds that wait. -/
theorem frameEdgesAndEpochs : Obligations.FrameEdgesAndEpochs := by
  unfold Obligations.FrameEdgesAndEpochs
  refine fun s => ⟨fun e hroot => ?_, fun t hroot hmf hat => ⟨_, exec_mf2kEdge_multiframe hroot hmf hat, rfl⟩, epoch_inReset, fun hnow h => ?_, fun hwaits hreset => ?_⟩
  · obtain ⟨hflash, hclock⟩ := Chip.edgeTaken_clock e s.chip
    refine ⟨_, exec_fp8kEdge_valid e hroot, hclock.now, hclock.timing, s.dev.edges_lt_nextEdge, hflash, fun hreset => ?_⟩
    exact congrArg s.setChip (Chip.edgeTaken_inReset e (c := s.chip) hreset)
  · obtain ⟨t, hexec, ⟨hepoch, hclosed, hwait, hbusy, hsince, htb⟩, hflash, hmem, hdone⟩ := epoch_taken hnow h
    exact ⟨t, hexec, hepoch, hclosed, hwait, hbusy, hsince, htb, hflash, hmem, hdone⟩
  · obtain ⟨honly, hdone, hlate, hlast, hepoch⟩ := ladlePass_taken (s.dev, s.mem)
    have hend := ladlePass_last_shows (s.dev, s.mem)
    have hnext (q : Pass) (rest : List Pass) := ladlePass_next_shows (s.dev, s.mem) (q := q) (rest := rest)
    have hmem := ladlePass_mem (s.dev, s.mem)
    refine ⟨_, exec_ladlePassComplete hwaits hreset, ?_⟩
    obtain ⟨w, hw⟩ : ∃ w, w = ladlePass (s.dev, s.mem) := ⟨_, rfl⟩
    rw [← hw] at honly hdone hlate hlast hepoch hend hnext hmem ⊢
    exact ⟨honly.acc, hdone, hlast, hepoch, rfl, hmem, hlate, fun h => (hend h).2, fun q rest h => (hnext q rest h).2⟩

end Sys2Proof.Machine

/-! The moves between modes (R626, R634): as for a lost reference, a state that no command reaches refutes the statement. -/

namespace Sys2Proof.Machine

set_option Elab.async false -- a proof at a time, within the memory of a check

/-- A path point far beyond the points of the device, whose status word would stand where `DEV.MODE` is. -/
def strayModePoint : Nat := 18432 + (Reg.devMode - 0x1C80_0000) / 4

/-- A device in BOOT with the mode PREPARE requested, which holds such a point and still has to reset the unit of its lane. -/
def strayModeState : State :=
  { dev := { words := [(Reg.devModeReq, 1)], paths := [(strayModePoint, {})],
             modes := { inReset := .no, offDue := [laneOf strayModePoint + 0x10] } } }

/-- Refutes O57: `Dev.unitsDown` follows a change of the mode and makes every path point of a unit that has left service idle. A state
may list a point of any number, also one whose status word lies on `DEV.MODE`; its idle state then stands there in place of PREPARE. -/
theorem not_modesAndShedding : ¬ Obligations.ModesAndShedding := by
  intro h
  obtain ⟨-, hmove, -⟩ := h strayModeState
  obtain ⟨t, hexec, hmode, -⟩ := hmove (by decide) modePrepare (.inl ⟨by decide, .inl (by decide), by decide, rfl⟩)
  have hshown := Out.shows_next hexec (fun u => u.dev.mode == modePrepare)
  rw [show (t.dev.mode == modePrepare) = true from beq_iff_eq.mpr hmode] at hshown
  exact absurd hshown (by decide +kernel)

end Sys2Proof.Machine
